-- ==== Sys2Proof/Word.lean ====
section
/-! DEFINITION. The word types of the register pages (32-bit registers, R46) and of byte-addressed memory. -/

namespace Sys2Proof

/-- One register word (R46, R52). -/
abbrev Word := BitVec 32

/-- One byte of memory. -/
abbrev Byte := BitVec 8

end Sys2Proof
end

