-- ==== Sys2Proof/Config.lean ====
section
/-! DEFINITION. The free values: constants without a body, for every value that the spec leaves open. No proof can see
what they are, so a statement about one holds whatever it is. Most are applied to the State's own counter
(`freeCtr`), so that every use is a fresh value. -/

namespace Sys2Proof.Config

/-- A fresh value the spec does not state (a nonce, an unstated corner of an estimate); the argument is the counter. -/
opaque freeValue : Nat → Nat

/-- A fresh choice between two outcomes that the spec leaves open; the argument is the counter. -/
opaque freeBool : Nat → Bool

/-- Which neighbour a quotient that is not whole becomes where the spec states no rounding: true for the upper one. -/
opaque roundUp : Int → Nat → Bool

/-- The angle that the Assay unit shows for a phasor of 0 (R243, R245). -/
opaque argZero : Int × Int

end Sys2Proof.Config
end

