-- ==== Sys2Proof/Machine/Bits.lean ====
section
/-! DEFINITION. Bit fields, signed values, byte order, and the CRC and hash arithmetic the chapters name
(CRC-32 of R97, CRC-16 of R102, the PEC of R487, SHA-256 and HMAC-SHA-256 of R54). -/

namespace Sys2Proof.Machine

/-- Bits `hi` down to `lo` of `v`. -/
def bitsOf (v hi lo : Nat) : Nat := (v >>> lo) % 2 ^ (hi - lo + 1)

/-- Bit `i` of `v`. -/
def bitOf (v i : Nat) : Bool := v.testBit i

/-- `v` with bits `hi` down to `lo` replaced by the low bits of `x`. -/
def putBits (v hi lo x : Nat) : Nat :=
  let n := 2 ^ (hi - lo + 1)
  (v / 2 ^ (hi + 1)) * 2 ^ (hi + 1) + (x % n) * 2 ^ lo + v % 2 ^ lo

/-- 1 for true, 0 for false. -/
def b2n (b : Bool) : Nat := if b then 1 else 0

/-- `v` with bit `i` set to `b`. -/
def putBit (v i : Nat) (b : Bool) : Nat := putBits v i i (b2n b)

/-- The signed value of the low `w` bits of `n` (two's complement). -/
def sInt (w n : Nat) : Int :=
  let m := n % 2 ^ w
  if 2 ^ (w - 1) ≤ m then (m : Int) - 2 ^ w else (m : Int)

/-- The `w`-bit two's complement pattern of `i`, wrapping. -/
def toU (w : Nat) (i : Int) : Nat := (i % (2 ^ w : Int)).toNat

/-- `i` saturated to the signed range of `w` bits. -/
def satS (w : Nat) (i : Int) : Int :=
  max (-(2 ^ (w - 1) : Int)) (min ((2 ^ (w - 1) : Int) - 1) i)

/-- `n` saturated to `w` bits. -/
def satU (w n : Nat) : Nat := min (2 ^ w - 1) n

/-- `i` clamped to `lo … hi`. -/
def clampI (lo hi i : Int) : Int := max lo (min hi i)

/-- `n` bytes of `v`, least significant first. -/
def leBytes : Nat → Nat → List Nat
  | 0, _ => []
  | n + 1, v => v % 256 :: leBytes n (v / 256)

/-- `n` bytes of `v`, most significant first. -/
def beBytes (n v : Nat) : List Nat := (leBytes n v).reverse

/-- The number that a little-endian byte list spells. -/
def ofLe : List Nat → Nat
  | [] => 0
  | b :: t => b % 256 + 256 * ofLe t

/-- The number that a big-endian byte list spells. -/
def ofBe (bs : List Nat) : Nat := ofLe bs.reverse

/-- One byte through a reflected CRC with polynomial `poly`. -/
def crcStepR (poly : Nat) : Nat → Nat → Nat
  | 0, c => c
  | k + 1, c => crcStepR poly k (if c % 2 = 1 then (c / 2) ^^^ poly else c / 2)

/-- CRC-32 of R97: polynomial 0x04C11DB7 reflected, initial value and final inversion all ones. -/
def crc32 (bs : List Nat) : Nat :=
  (bs.foldl (fun c b => crcStepR 0xEDB88320 8 (c ^^^ (b % 256))) 0xFFFFFFFF) ^^^ 0xFFFFFFFF

/-- One byte through a plain (not reflected) CRC of `w` bits. -/
def crcStepF (w poly : Nat) : Nat → Nat → Nat
  | 0, c => c
  | k + 1, c =>
    crcStepF w poly k (if 2 ^ (w - 1) ≤ c then ((c * 2) ^^^ poly) % 2 ^ w else (c * 2) % 2 ^ w)

/-- CRC of `w` bits, plain form, from the initial value `init`. -/
def crcF (w poly init : Nat) (bs : List Nat) : Nat :=
  bs.foldl (fun c b => crcStepF w poly 8 (c ^^^ ((b % 256) * 2 ^ (w - 8)))) init

/-- The CRC-8 (PEC) of the two-wire bus (R487): polynomial 0x07, initial value 0. -/
def crc8 (bs : List Nat) : Nat := crcF 8 0x07 0 bs

/-- Binary search for the largest `r` of `lo … lo + 2^k - 1` with `f r = true`, for a downward closed `f` true at `lo`. -/
def bisect (f : Nat → Bool) : Nat → Nat → Nat
  | 0, lo => lo
  | k + 1, lo => if f (lo + 2 ^ k) then bisect f k (lo + 2 ^ k) else bisect f k lo

/-- The largest integer whose square does not exceed `n`. -/
def isqrt (n : Nat) : Nat := bisect (fun r => r * r ≤ n) (Nat.log2 n / 2 + 1) 0

/-- The largest integer whose cube does not exceed `n`. -/
def icbrt (n : Nat) : Nat := bisect (fun r => r * r * r ≤ n) (Nat.log2 n / 3 + 1) 0

/-- Replace the element at index `i` of a list by `f` of it. -/
def modAt {α : Type} (l : List α) (i : Nat) (f : α → α) : List α := l.modify i f

/-- Elements of a list with their indexes, from `i`. -/
def withIdx {α : Type} : Nat → List α → List (Nat × α)
  | _, [] => []
  | i, x :: t => (i, x) :: withIdx (i + 1) t

/-- A list of truth values as a number, first in bit 0. -/
def bitsToNat : List Bool → Nat
  | [] => 0
  | b :: t => b2n b + 2 * bitsToNat t

end Sys2Proof.Machine
end

