-- ==== Sys2Proof/Machine/Float64.lean ====
section
/-! DEFINITION. 64-bit floating point arithmetic for the profile generator (R270): a value is `m * 2^e`, every result is
rounded to 53 significant bits, to nearest, ties to even (IEEE 754 binary64). The range of the exponent is not limited
(assumption log 12): no value of the generator comes near its ends. -/

namespace Sys2Proof.Machine

/-- A floating point number `m * 2^e`; `m` is odd or the number is `⟨0, 0⟩`. -/
structure F64 where
  m : Int
  e : Int
  deriving DecidableEq, Repr

/-- Zero. -/
def F64.zero : F64 := ⟨0, 0⟩

/-- `m * 2^e` with the trailing zero bits of `m` moved into the exponent. -/
def F64.norm (m e : Int) : F64 :=
  if m = 0 then F64.zero
  else
    let g := Nat.gcd m.natAbs (2 ^ Nat.log2 m.natAbs)
    ⟨m / (g : Int), e + (Nat.log2 g : Int)⟩

/-- `n * 2^e` rounded to 53 significant bits, ties to even. -/
def F64.round (m e : Int) : F64 :=
  let n := m.natAbs
  let l := Nat.log2 n + 1
  if l ≤ 53 then F64.norm m e
  else
    let sh := l - 53
    let q := n >>> sh
    let r := n % 2 ^ sh
    let half := 2 ^ (sh - 1)
    let q' := if half < r || (r == half && q % 2 == 1) then q + 1 else q
    F64.norm (if m < 0 then -(q' : Int) else (q' : Int)) (e + (sh : Int))

/-- An integer as a floating point number. -/
def F64.ofInt (i : Int) : F64 := F64.round i 0

/-- `m * 2^(e - e0)` as an integer, for `e0 ≤ e`. -/
def F64.scaled (x : F64) (e0 : Int) : Int := x.m * (((2 ^ (x.e - e0).toNat : Nat)) : Int)

/-- Sum, rounded. -/
def F64.add (x y : F64) : F64 :=
  let e0 := min x.e y.e
  F64.round (x.scaled e0 + y.scaled e0) e0

/-- Negation. -/
def F64.neg (x : F64) : F64 := ⟨-x.m, x.e⟩

/-- Difference, rounded. -/
def F64.sub (x y : F64) : F64 := x.add y.neg

/-- Product, rounded. -/
def F64.mul (x y : F64) : F64 := F64.round (x.m * y.m) (x.e + y.e)

/-- Quotient, rounded; 0 for a divisor 0 (no rule divides by 0). -/
def F64.div (x y : F64) : F64 :=
  if y.m = 0 then F64.zero
  else
    let k := 60 + Nat.log2 y.m.natAbs
    let n := x.m.natAbs * 2 ^ k
    let q := n / y.m.natAbs
    let st := if n % y.m.natAbs = 0 then 0 else 1
    let a : Int := (q * 2 + st : Nat)
    F64.round (if (x.m < 0) = (y.m < 0) then a else -a) (x.e - y.e - (k : Int) - 1)

/-- Magnitude. -/
def F64.abs (x : F64) : F64 := ⟨(x.m.natAbs : Int), x.e⟩

/-- Less or equal. -/
def F64.le (x y : F64) : Bool :=
  let e0 := min x.e y.e
  decide (x.scaled e0 ≤ y.scaled e0)

/-- Less than. -/
def F64.lt (x y : F64) : Bool := !F64.le y x

/-- The smaller of two. -/
def F64.min (x y : F64) : F64 := if F64.le x y then x else y

/-- The larger of two. -/
def F64.max (x y : F64) : F64 := if F64.le x y then y else x

/-- `x` with the sign of `s`; 0 where `s` is 0. -/
def F64.signOf (s x : F64) : F64 := if s.m = 0 then F64.zero else if s.m < 0 then x.neg else x

/-- Square root of a value that is not negative, rounded. -/
def F64.sqrt (x : F64) : F64 :=
  if x.m ≤ 0 then F64.zero
  else
    let n0 := x.m.natAbs
    let odd : Nat := if x.e % 2 = 0 then 0 else 1
    let n := n0 * 2 ^ odd * 2 ^ 120
    let r := isqrt n
    let st := if r * r = n then 0 else 1
    F64.round (Int.ofNat (r * 2 + st)) ((x.e - (odd : Int) - 120) / 2 - 1)

/-- Cube root of a value that is not negative, rounded. -/
def F64.cbrt (x : F64) : F64 :=
  if x.m ≤ 0 then F64.zero
  else
    let md := (x.e % 3).toNat
    let n := x.m.natAbs * 2 ^ md * 2 ^ 180
    let r := icbrt n
    let st := if r * r * r = n then 0 else 1
    F64.round (Int.ofNat (r * 2 + st)) ((x.e - (md : Int) - 180) / 3 - 1)

/-- The nearest integer to `m * 2^e`, ties away from zero. -/
def F64.toInt (x : F64) : Int :=
  if 0 ≤ x.e then x.scaled 0
  else
    let k := (-x.e).toNat
    let n := x.m.natAbs
    let q := (n + 2 ^ (k - 1)) / 2 ^ k
    if x.m < 0 then -(q : Int) else (q : Int)

/-! ### Single precision and helpers of the estimation engine (R188) -/

/-- `x` rounded to a multiple of `2^u`, to nearest, ties to even. -/
def F64.quantize (x : F64) (u : Int) : F64 :=
  if u ≤ x.e then x
  else
    let sh := (u - x.e).toNat
    let n := x.m.natAbs
    let q := n >>> sh
    let r := n % 2 ^ sh
    let half := 2 ^ (sh - 1)
    let q' := if half < r || (r == half && q % 2 == 1) then q + 1 else q
    F64.norm (if x.m < 0 then -(q' : Int) else (q' : Int)) u

/-- `x` as an IEEE 754 single-precision value: 24 significant bits, or a multiple of 2^-149 below the normal range (R188). -/
def F64.single (x : F64) : F64 := x.quantize (Max.max (x.e + (Nat.log2 x.m.natAbs : Int) - 23) (-149))

/-- The IEEE 754 single-precision pattern of a value, subnormal below 2^-126. -/
def F64.bits32 (x : F64) : Nat :=
  let y := x.single
  if y.m = 0 then 0
  else
    let l := Nat.log2 y.m.natAbs
    let ex := y.e + (l : Int) + 127
    (if y.m < 0 then 2 ^ 31 else 0) +
      (if ex ≤ 0 then y.m.natAbs * 2 ^ (y.e + 149).toNat
       else ex.toNat % 256 * 2 ^ 23 + (y.m.natAbs * 2 ^ (23 - l)) % 2 ^ 23)

/-- `n / d` as a number. -/
def F64.rat (n : Int) (d : Nat) : F64 := F64.div (F64.ofInt n) (F64.ofInt (d : Int))

/-- The integer part toward minus infinity. -/
def F64.floor (x : F64) : Int := if 0 ≤ x.e then x.scaled 0 else x.m / ((2 ^ (-x.e).toNat : Nat) : Int)

/-- `x` limited to `lo … hi`. -/
def F64.clamp (lo hi x : F64) : F64 := F64.max lo (F64.min hi x)

/-! ### Functions (R189, R233, R238, R245)

Each is computed on multiples of 2^-200 and rounded to 53 significant bits (assumption log 70). -/

/-- ln 2 and π in multiples of 2^-200. -/
def ln2Fix : Nat := 1113844574712631719546256151097547306333272293549090750737802
def piFix : Nat := 5048344754617993871973410141242436836214643421488662971535368

/-- A number as a multiple of 2^-200, toward minus infinity. -/
def F64.fix (x : F64) : Int :=
  if 0 ≤ x.e + 200 then x.m * ((2 ^ (x.e + 200).toNat : Nat) : Int) else x.m / ((2 ^ (-(x.e + 200)).toNat : Nat) : Int)

/-- A product of multiples of 2^-200. -/
def mulFix (a b : Nat) : Nat := a * b / 2 ^ 200

/-- The series of e^r from its term `n`, which is `t`. -/
def expSeries (r : Nat) : Nat → Nat → Nat → Nat
  | 0, _, _ => 0
  | k + 1, n, t => t + expSeries r k (n + 1) (mulFix t r / (n + 1))

/-- The exponential function; 0 below the range of IEEE 754 binary64. -/
def F64.exp (x : F64) : F64 :=
  if x.fix < -750 * 2 ^ 200 then F64.zero
  else
    let r := (x.fix % (ln2Fix : Int)).toNat
    F64.round (expSeries r 50 0 (2 ^ 200)) (x.fix / (ln2Fix : Int) - 200)

/-- Σ p q^n / (2n + 1) from `n` on. -/
def oddSeries (q : Nat) : Nat → Nat → Nat → Nat
  | 0, _, _ => 0
  | k + 1, n, p => p / (2 * n + 1) + oddSeries q k (n + 1) (mulFix p q)

/-- Natural logarithm of a number from 1 on, in multiples of 2^-200. -/
def lnFix (w : Nat) : Nat :=
  let l := Nat.log2 w - 200
  let y := w >>> l
  let t := (y - 2 ^ 200) * 2 ^ 200 / (y + 2 ^ 200)
  l * ln2Fix + 2 * oddSeries (mulFix t t) 70 0 t

/-- The inverse hyperbolic sine: the argument itself where it is so small that 53 bits do not tell them apart. -/
def F64.asinh (x : F64) : F64 :=
  let z := x.fix.natAbs
  if z < 2 ^ 140 then x
  else
    let v := lnFix (z + isqrt (z * z + 2 ^ 400))
    F64.round (if x.m < 0 then -(v : Int) else (v : Int)) (-200)

/-- `x` less its integer part. -/
def F64.fract (x : F64) : F64 := F64.sub x (F64.ofInt x.floor)

/-- The alternating series of the sine (from the term of power `n`) and of the cosine in the square `q` of the angle. -/
def trigSeries (q : Nat) : Nat → Nat → Int → Int
  | 0, _, _ => 0
  | k + 1, n, t => t - trigSeries q k (n + 2) (t * q / 2 ^ 200 / ((n + 1) * (n + 2) : Nat))

/-- Cosine and sine of an angle of a quarter turn times `r`, a fraction in multiples of 2^-200. -/
def quarter (r : Nat) : Int × Int :=
  let a := r * piFix / 2 ^ 201
  let q := mulFix a a
  (trigSeries q 30 0 (2 ^ 200), trigSeries q 30 1 a)

/-- Cosine and sine of an angle in turns. -/
def F64.trig (x : F64) : F64 × F64 :=
  let f := 4 * x.fract.fix.toNat
  let c := (quarter (f % 2 ^ 200)).1
  let s := (quarter (f % 2 ^ 200)).2
  let p := match f / 2 ^ 200 % 4 with
    | 0 => (c, s)
    | 1 => (-s, c)
    | 2 => (-c, -s)
    | _ => (s, -c)
  (F64.round p.1 (-200), F64.round p.2 (-200))

/-- Cosine of an angle in turns. -/
def F64.cosT (x : F64) : F64 := x.trig.1

/-- Sine of an angle in turns. -/
def F64.sinT (x : F64) : F64 := x.trig.2

/-- The tangent of half the angle whose tangent is `t`. -/
def halfTan (t : Nat) : Nat := t * 2 ^ 200 / (2 ^ 200 + isqrt (2 ^ 400 + t * t))

/-- Σ (-1)^n p q^n / (2n + 1) from `n` on. -/
def atanSeries (q : Nat) : Nat → Nat → Nat → Int
  | 0, _, _ => 0
  | k + 1, n, p => ((p / (2 * n + 1) : Nat) : Int) - atanSeries q k (n + 1) (mulFix p q)

/-- 180/π. -/
def degFix : Nat := 180 * 2 ^ 400 / piFix

/-- The angle in degrees, 0 to 45, whose tangent `t` is at most 1. -/
def atanDeg (t : F64) : F64 :=
  if t.fix < 2 ^ 140 then F64.mul t (F64.round degFix (-200))
  else
    let h := halfTan (halfTan t.fix.toNat)
    F64.round (4 * atanSeries (mulFix h h) 60 0 h * (degFix : Int)) (-400)

/-- The angle of the point (`x`, `y`) in degrees, above −180 up to 180; of the origin it is free. -/
def F64.arg (y x : F64) : F64 :=
  if y.m = 0 && x.m = 0 then ⟨Config.argZero.1, Config.argZero.2⟩
  else
    let a := if F64.le y.abs x.abs then atanDeg (F64.div y.abs x.abs)
      else F64.sub (F64.ofInt 90) (atanDeg (F64.div x.abs y.abs))
    let b := if x.m < 0 then F64.sub (F64.ofInt 180) a else a
    if y.m < 0 then b.neg else b

end Sys2Proof.Machine
end

