-- ==== Sys2Proof/Machine/Store.lean ====
section
/-! DEFINITION. A sparse store of words by address, in one canonical form: addresses strictly rising and no entry equal
to 0, which is what an unlisted address reads as. Registers, on-chip memories and windows are such stores. -/

namespace Sys2Proof.Machine

/-- A sparse store: (address, word) pairs. -/
abbrev Store (w : Nat) := List (Nat × BitVec w)

/-- The word at address `a`; 0 where nothing is listed. -/
def Store.get {w : Nat} : Store w → Nat → BitVec w
  | [], _ => 0
  | (k, v) :: t, a => if k = a then v else Store.get t a

/-- The store without an entry for `a`. -/
def Store.erase {w : Nat} : Store w → Nat → Store w
  | [], _ => []
  | (k, v) :: t, a => if k = a then Store.erase t a else (k, v) :: Store.erase t a

/-- The store with an entry `(a, v)` put before the first higher address. -/
def Store.ins {w : Nat} : Store w → Nat → BitVec w → Store w
  | [], a, v => [(a, v)]
  | (k, x) :: t, a, v => if a < k then (a, v) :: (k, x) :: t else (k, x) :: Store.ins t a v

/-- The store after `v` is written to address `a`; writing 0 removes the entry. -/
def Store.set {w : Nat} (m : Store w) (a : Nat) (v : BitVec w) : Store w :=
  if v = 0 then m.erase a else Store.ins (m.erase a) a v

/-- Every address of the store is above `a`. -/
def Store.above {w : Nat} (a : Nat) : Store w → Bool
  | [] => true
  | (k, _) :: t => decide (a < k) && Store.above a t

/-- The canonical form: addresses strictly rising, no entry equal to 0. -/
def Store.wf {w : Nat} : Store w → Bool
  | [] => true
  | (k, v) :: t => decide (v ≠ 0) && Store.above k t && Store.wf t

end Sys2Proof.Machine
end

