-- ==== Sys2Proof/Machine/Record.lean ====
section
/-! DEFINITION. The Plant Record as the chapters use it. The spec names what it holds and gives it no byte layout, so a
RECORD payload comes with the record that its body spells (assumption log 14). -/

namespace Sys2Proof.Machine

/-- What the Plant Record says of one chain position: the node's UID, the populated cells and temperature inputs (bit n−1
for number n), each cell's parameter set, the cells each temperature input counts against, the expected hop delay in ps,
the seven comparator settings OV_TH to COMP_FILT (R149), the bleed resistance in mΩ. -/
structure PosRec where
  uid : Nat
  cellMask : Nat
  tempMask : Nat
  sets : List Nat
  tempCells : List Nat
  hopPs : Nat
  comp : List Nat
  rBleed : Nat
  deriving DecidableEq, Repr

/-- A parameter set of R191 with its OCV table (R192): Q_NOM in mA·s, voltages in 100 µV, R0_25 in µΩ, the other parameters
as numbers in the units of R191 (TAU_CT in s, H_MAX in V), the table's points as (100 µV, µV/K), the temperature
calibration of R245: bin F_T, points (degrees, °C), K_SOC in °C per %, SIGMA_CURVE in °C. -/
structure PSet where
  setId : Nat
  qNom : Nat
  vEmpty : Nat
  vFull : Nat
  tauN : F64
  tauP : F64
  tauE : F64
  tauCt : F64
  kN : F64
  kP : F64
  kE : F64
  r0 : Nat
  i0 : F64
  eaR : F64
  hMax : F64
  gammaH : F64
  rTh : F64
  cTh : F64
  qProc : List F64
  rMeas : F64
  rAnchor : F64
  p0 : List F64
  ocv : List (Nat × Int)
  fT : Nat
  phi : List (F64 × F64)
  kSoc : F64
  sigC : F64
  deriving DecidableEq, Repr

/-- The scaling of the current channels (R164): R_SHUNT_A and R_SHUNT_B in nΩ, C_SCALE in mA per V, the gains in ppm, which of the
polarities are −1. -/
structure CurScale where
  shuntA : Nat
  shuntB : Nat
  cScale : Nat
  gainA : Int
  gainB : Int
  gainC : Int
  negA : Bool
  negB : Bool
  negC : Bool
  deriving DecidableEq, Repr

/-- A committed Plant Record: the words of every register that the tables load "from Plant Record", the topology (R18),
whether DRIVE_EN is wired in a VB-2064-C (R530), its version, the scaling of the current channels,
the priority of a pair's role B, role A's standing in the word of DRV.CLAIM (R342),
OFS_LIM in mA (R168), I_TAPER in mA (R208), the parameter sets, the table of nominal bin frequencies in
µHz where there is one (R229), the flow meter's pulses per litre (R273), the output stage's type and DRIVE range (R498, R499), the access keys MONITOR, OPERATE, SERVICE (R53), the plant network's VLAN
and IPv4 mask (R469, R470), and the chain positions, 1 to N. -/
structure PlantRecord where
  version : Nat
  regs : Store 32
  pair : Bool
  enWired : Bool
  cur : CurScale
  prioB : Nat
  ofsLim : Nat
  iTaper : Nat
  psets : List PSet
  binTable : Option (List Nat)
  flowPpl : Nat
  stageType : Nat
  osDrive : Nat
  keys : List (List Nat)
  vlan : Nat
  mask : Nat
  positions : List PosRec
  deriving DecidableEq, Repr

/-- What a MIRROR carries of one cell (R353): the states x1 to x12, the covariance, REMAIN in 10^-5 mA·s, the reported SoC. -/
structure MirrorCell where
  x : List F64
  p : List (List F64)
  remain : Int
  s : F64
  deriving DecidableEq, Repr

/-- What a MIRROR carries of the string estimator (R353): SOC_STATE, reported SoC, learning cycle phase and DQ values in
10^-5 mA·s, ANCHOR_AGE in s, anchor window phase, and the committed capacity bases in mA·s (R204). -/
structure MirrorEst where
  socState : Nat
  soc : F64
  learn : Nat
  dq : List Int
  anchorAge : Nat
  anchor : Nat
  basis : List Nat
  deriving DecidableEq, Repr

end Sys2Proof.Machine
end

