-- ==== Sys2Proof/Syntax.lean ====
section
/-! DEFINITION. The commands the block takes (spec/opcode_table.json), with the messages some of them carry. Masters are
coded as in R50: 0 core 0, 1 core 1, 2 safety complex, 3 VRA, 4 two-wire target, 5 service UART. A command that asserts
that a time has passed carries no time: it is given when that time has come. -/

namespace Sys2Proof

/-- What steps 2 to 5 of the start-up sequence found (R75, R76): whether the active and the other bank of SAFE and of
APP verify, whether the self-tests of step 4 passed, whether SVC_N is closed and ROLE_SEL is connected at release, whether
the fault loop tone is present. -/
structure BootResult where
  safeOk : Bool
  safeOtherOk : Bool
  appOk : Bool
  appOtherOk : Bool
  selfTestOk : Bool
  svcClosed : Bool
  roleB : Bool
  floopPresent : Bool
  deriving DecidableEq, Repr

/-- One slot of a returning COLLECT frame as the module receives it (R97, R101 to R106): the port it came back at, the frame's
FLAGS, SWEEP, EDITION, INSTANT, FIRST_POS, COUNT and SLOT_KIND, the position the slot belongs to, the slot's bytes, whether the
header bytes match the copy sent, the 8b/10b violations seen since the slot before, whether the frame ends with it, and then its
CRC-32 as received and whether that verifies. -/
structure SlotMsg where
  port : Nat
  flags : Nat
  sweep : Nat
  edition : Nat
  instant : Nat
  first : Nat
  count : Nat
  kind : Nat
  pos : Nat
  bytes : List Nat
  headerOk : Bool
  lineErrs : Nat
  last : Bool
  crc : Nat
  crcOk : Bool
  deriving DecidableEq, Repr

/-- One ENUM record (R109) with its CRC-16 as received, and the CHAIN_RANGE (node register 0x0007) that the node reports. -/
structure EnumRec where
  pos : Nat
  type : Nat
  fwVer : Nat
  uid : Nat
  caps : Nat
  crc : Nat
  range : Nat
  deriving DecidableEq, Repr

/-- The conversions of one 10 µs window (R163 to R167): those that arrived of CUR_A and CUR_B in nV at the shunt, of CUR_C in µV at its
input, and the values of the high-voltage domain's frame in mV with whether the frame came. -/
structure ChanFrame where
  curA : List Int
  curB : List Int
  curC : List Int
  vA : Option Int
  vB : Option Int
  vC : Option Int
  vLink : Option Int
  vPre : Option Int
  hvFrame : Bool
  deriving DecidableEq, Repr

/-- A STATUS frame of the output stage (R289). -/
structure StatusMsg where
  edition : Nat
  holder : Nat
  leaseLeft : Nat
  contFb : Nat
  ready : Nat
  fault : Nat
  iOs : Int
  temp : Nat
  result : Nat
  crcOk : Bool
  deriving DecidableEq, Repr

/-- A HEARTBEAT message of the partner (R343), with its receive time in quarters of a ns, and the time, in the same unit, at which the
partner received the module's own last heartbeat, where the module knows it (R437). -/
structure HeartbeatMsg where
  counter : Nat
  edition : Nat
  pstate : Nat
  mode : Nat
  flags : Nat
  sentAt : Nat
  cfgCrc : Nat
  rxAt : Nat
  peerRx : Option Nat
  deriving DecidableEq, Repr

/-- A Galley line inside a MIRROR (R353). -/
structure MirrorLine where
  seq : Nat
  kind : Nat
  phase : Nat
  state : Nat
  edition : Nat
  args : List Nat
  lineNo : Nat
  deriving DecidableEq, Repr

/-- The part of a MIRROR that carries a loop slot's states, output, STATE, bank and hold time left in ns (R353). -/
structure MirrorSlot where
  slot : Nat
  s1 : Int
  s2 : Int
  s3 : Int
  out : Int
  state : Nat
  bank : Nat
  holdLeft : Nat
  deriving DecidableEq, Repr

/-- A MIRROR message (R353): its number and check, MODE.STATE, MODE.FUNC_STATE and MODE.LATCH, the contactor command and ARM
last sent, SAFE.STATE, CAUSE_LO, CAUSE_HI and ELL_LEFT, PROF.TARGET, PENDING_TARGET and STATE.PENDING, loop slots, Galley
lines, the estimator's cells and string state, the holder's last record index, and whether it ends a full snapshot (R355). -/
structure MirrorMsg where
  edition : Nat
  seq : Nat
  crcOk : Bool
  mode : Nat
  func : Nat
  latch : Nat
  cont : Nat
  arm : Bool
  safe : Nat
  causeLo : Nat
  causeHi : Nat
  ellLeft : Nat
  target : Nat
  pendTarget : Nat
  pend : Bool
  slots : List MirrorSlot
  lines : List MirrorLine
  cells : List Machine.MirrorCell
  est : Machine.MirrorEst
  lastIndex : Nat
  snapshotEnd : Bool
  deriving DecidableEq, Repr

/-- The output image of the cyclic program at a boundary (R379): the policy limits with POL_VALID and the entries as
(ADDRESS, VALUE, MASK); how late in ns the entry is called. -/
structure OutImage where
  polValid : Bool
  polIchg : Nat
  polIdis : Nat
  writes : List (Nat × Nat × Nat)
  lateNs : Nat
  deriving DecidableEq, Repr

/-- A PTP message (R432): receiving port (0 X6, 1 X7), domain, sequenceId, source clock and port, two-step flag, origin (or
precise origin) time and correctionField in ns, receive time on the module's count, requestReceiptTimestamp; of an Announce the
grandmaster's identity and data set with stepsRemoved, currentUtcOffset and its validity. -/
structure PtpMsg where
  port : Nat
  domain : Nat
  seq : Nat
  srcId : Nat
  srcPort : Nat
  twoStep : Bool
  isFollowUp : Bool
  originNs : Nat
  correctionNs : Int
  rxNs : Nat
  requestRxNs : Nat
  gmId : Nat
  prio1 : Nat
  clockClass : Nat
  accuracy : Nat
  variance : Nat
  prio2 : Nat
  steps : Nat
  utcOffset : Int
  utcValid : Bool
  deriving DecidableEq, Repr

/-- A received CAN frame (R456, R458). -/
structure CanFrame where
  id : Nat
  xtd : Bool
  rtr : Bool
  fdf : Bool
  brs : Bool
  esi : Bool
  dlc : Nat
  data : List Nat
  sofNs : Nat
  deriving DecidableEq, Repr

/-- A received plant Ethernet frame (R470, R473): addresses, the 16-bit tag control information where it is tagged, Ethertype,
payload, whether its FCS holds, its receive timestamp in ns. -/
structure EthFrame where
  dst : Nat
  src : Nat
  vlan : Option Nat
  etherType : Nat
  payload : List Nat
  fcsOk : Bool
  rxNs : Nat
  deriving DecidableEq, Repr

/-- A partner link frame (R474 to R476). -/
structure PlnkFrame where
  seq : Nat
  edition : Nat
  type : Nat
  frag : Nat
  frags : Nat
  msg : Nat
  fcsOk : Bool
  deriving DecidableEq, Repr

/-- How a controller transaction on the two-wire bus ended on the wire (R489): 1 acknowledged to the end, 2 address not
acknowledged, 3 a data byte not acknowledged; the bytes read, the count byte of a block read, the PEC byte received. -/
structure TwbResult where
  code : Nat
  data : List Nat
  count : Nat
  pec : Nat
  deriving DecidableEq, Repr

/-- The Plant Record that a RECORD body spells (R500), none where it spells none. -/
structure BodyCheck where
  record : Option Machine.PlantRecord
  deriving DecidableEq, Repr


/-- The commands of the block: one constructor per row of the table of operations and events. -/
inductive Instr where
  /-- REGISTER_WRITE (R49): A master writes a register that has no row of its own; ownership, width and key checks decide whether the write takes effect. -/
  | registerWrite (master addr width value : Nat)
  /-- OWNER_WRITE (R49): A core writes a page's keyed OWNER register, which takes effect only with key 0xC3A5 from the same core. -/
  | ownerWrite (master page value : Nat)
  /-- LOCK_WRITE (R51): A master writes a page's LOCK.KEY, arming a keyed write for that master. -/
  | lockWrite (master page key : Nat)
  /-- LOCK_KEY_EXPIRY (R51): 100 ms after a LOCK write with no keyed write, the module clears LOCK.KEY. -/
  | lockKeyExpiry (page : Nat)
  /-- READ_CLEAR (R9): A read of an RC field returns its value and clears it, keeping occurrences of the same cycle. -/
  | readClear (master addr : Nat) (width : Nat := 4)
  /-- LOW_WORD_READ (R52): A read of the low word of a 64-bit quantity latches the high word for that master. -/
  | lowWordRead (master addr : Nat) (width : Nat := 4)
  /-- VRA_OPEN (R55): An OPEN datagram is verified and answered with ACCEPT and a new session, or with ERROR. -/
  | vraOpen (port srcIp srcPort : Nat) (bytes : List Nat)
  /-- VRA_READ (R58): A READ operation of a VRA request reads words under the checks of R59 and returns them. -/
  | vraRead (port srcIp srcPort : Nat) (bytes : List Nat)
  /-- VRA_WRITE (R58): A WRITE operation of a VRA request writes words under the checks of R59. -/
  | vraWrite (port srcIp srcPort : Nat) (bytes : List Nat)
  /-- VRA_WRITE_MASK (R58): A WRITE_MASK operation performs an atomic read-modify-write of one register. -/
  | vraWriteMask (port srcIp srcPort : Nat) (bytes : List Nat)
  /-- VRA_CLOSE (R55): A tagged CLOSE ends the session and is answered with CLOSE. -/
  | vraClose (port srcIp srcPort : Nat) (bytes : List Nat)
  /-- VRA_IDLE_TIMEOUT (R55): A session with no valid request for IDLE_S is closed. -/
  | vraIdleTimeout (session : Nat)
  /-- VRA_SOURCE_BLOCK_END (R57): The 10 s block on a source address after 16 tag failures ends. -/
  | vraSourceBlockEnd (srcIp : Nat)
  /-- VRA_CTL_WRITE (R62): A keyed write to SYS.VRA_CTL sets the idle timeout or, with ENABLE 0, closes all sessions. -/
  | vraCtlWrite (master value : Nat)
  /-- UART_RD (R61): A service UART RD line reads one word of the R60 subset and replies OK or ER. -/
  | uartRd (line : List Nat)
  /-- UART_WR (R61): A service UART WR line writes one word of the R60 subset and replies OK or ER. -/
  | uartWr (addr value : List Nat)
  /-- MODE_REQUEST (R29): A write to MODE.REQUEST is evaluated after grant and accepted, reported ALREADY or rejected. -/
  | modeRequest (master value : Nat)
  /-- TRANS_TIMEOUT (R33): START_LIMIT passes before POWER is ON, so the transition is aborted and the contactors opened. -/
  | transTimeout
  /-- STOP_LIMIT_EXPIRY (R34): A normal stop has not brought current below 5 A within STOP_LIMIT, so a Full Stop runs. -/
  | stopLimitExpiry
  /-- LATCH_CLR (R39): A keyed write to MODE.LATCH_CLR clears STOP_LATCH when all conditions hold, else raises LATCH_CLR_DENIED. -/
  | latchClr (master value : Nat)
  /-- WAKE (R40): An enabled wake source in DORMANT wakes the module and runs the start-up sequence. -/
  | wake (source : Nat)
  /-- WAKE_TIMER_EXPIRY (R41): WAKE_TIMER elapses in DORMANT with the timer source enabled. -/
  | wakeTimerExpiry
  /-- WAKE_OSC_CHECK (R65): 100 ms after PLL lock on a wake, the 32.768 kHz count is compared with CLK_TB. -/
  | wakeOscCheck (count : Nat)
  /-- PLL_UNLOCK (R66): Loss of PLL lock causes a safety-commanded reset with the fault code stored. -/
  | pllUnlock
  /-- CLK_MON_WINDOW (R66): A 100 µs clock monitor window ends and a clock out of tolerance for two windows causes a reset or CLK_FAULT. -/
  | clkMonWindow (clock count : Nat)
  /-- ROOT_DRIFT (R66): ROOT_PPB stays beyond DRIFT_LIM for 10 s and ROOT_DRIFT is raised. -/
  | rootDrift
  /-- WDG_KICK (R67): A core writes CLK.WDG_KICK; the right alternating value restarts the timeout, a wrong one resets. -/
  | wdgKick (master value : Nat)
  /-- WDG_EXPIRY (R67): The watchdog timeout expires and causes a watchdog reset. -/
  | wdgExpiry
  /-- POWER_ON (R70): The auxiliary supply stays at 17.5 V or more for 10 ms and the power supervisor releases reset. -/
  | powerOn
  /-- SUPPLY_LOSS (R70): The supply falls below 16.0 V for 1 ms; pending MRAM writes complete and reset asserts. -/
  | supplyLoss
  /-- RESET_N_ASSERT (R71): RESET_N held low for 10 µs puts the module into reset with outputs de-energised. -/
  | resetNAssert
  /-- RESET_N_RELEASE (R71): RESET_N is released and the module starts with cause 0x2. -/
  | resetNRelease
  /-- RESET_RELEASE (R75): Reset is released and the start-up sequence runs through boot, safety start, replay and enumeration to SURVEY. -/
  | resetRelease (boot : BootResult)
  /-- PLL_LOCK_RETRY (R76): The PLL has not locked 10 ms after reset release, so the module stays in reset and retries every 100 ms. -/
  | pllLockRetry (locked : Bool)
  /-- SVC_DEBOUNCED_CLOSE (R72): SVC_N holds closed for 50 ms and counts as a press, or as a wake in DORMANT. -/
  | svcDebouncedClose
  /-- SVC_DEBOUNCED_OPEN (R72): SVC_N holds open for 50 ms and the press length selects a warm or cold restart request. -/
  | svcDebouncedOpen (pressMs : Nat)
  /-- SVC_STUCK (R72): A press passes 8 s and the button is ignored until its debounced open. -/
  | svcStuck
  /-- RESTART_WARM (R74): AUX.RESTART value 0x5 requests a warm restart, carried out only while POWER is OFF. -/
  | restartWarm (master : Nat)
  /-- RESTART_COLD (R74): AUX.RESTART value 0x6 requests a cold restart, carried out only while POWER is OFF. -/
  | restartCold (master : Nat)
  /-- ADDR_SET (R85): A keyed write to AUX.ADDR_SET stores a string address in MRAM while POWER is OFF. -/
  | addrSet (master value : Nat)
  /-- OFFER (R79): A coordinator OFFER is taken when enabled, unaddressed and ADDR_IN asserted: store, assert ADDR_OUT, send TAKEN. -/
  | offer (can address : Nat)
  /-- CLEAR (R80): A coordinator CLEAR sets the address to 0 and deasserts ADDR_OUT while POWER is OFF. -/
  | clearAddr (can byte1 byte2 : Nat)
  /-- END (R78): A coordinator END message ends the address walk. -/
  | endWalk (can : Nat)
  /-- TAKEN (R79): A received TAKEN lets role B send its own, or reveals an address conflict. -/
  | taken (can address role topology serialHi serialLo : Nat)
  /-- TAKEN_TIMEOUT (R79): Role B sends TAKEN 20 ms after the OFFER when no partner TAKEN arrived. -/
  | takenTimeout
  /-- ADDR_IN_CHANGE (R80): ADDR_IN holds a new level for 10 ms and the debounced state changes. -/
  | addrInChange (level : Bool)
  /-- ROLE_SEL_SAMPLE (R82): Every 1 s ROLE_SEL is sampled and a difference from the latched role raises ROLE_SEL_CHANGED. -/
  | roleSelSample (roleB : Bool)
  /-- GPIO_CHANGE (R86): A GPIO input changes level and GPIO_CHANGE is raised. -/
  | gpioChange (pin : Nat) (level : Bool)
  /-- CHAIN_LINK_UP (R89): A chain port receiver aligns and sees 64 valid characters and declares the link UP. -/
  | chainLinkUp (port : Nat)
  /-- CHAIN_LINK_LOST (R89): A chain port receiver loses lock or sees 800 ns without a valid character and declares LOST. -/
  | chainLinkLost (port : Nat)
  /-- TRIG_LAUNCH (R119): 20 µs before each scheduled sample instant the master launches TRIG, applying any ordered schedule change. -/
  | trigLaunch
  /-- COLLECT_LAUNCH (R119): At the sample instant plus COLLECT_DELAY the master launches the COLLECT frame. -/
  | collectLaunch (other : Bool := false)
  /-- SLOT_ARRIVAL (R106): A slot of a returning frame is accepted or rejected and, when valid, checked by the Margin engine and integrity checks. -/
  | slotArrival (slot : SlotMsg)
  /-- SWEEP_DEADLINE (R119): 400 µs after the sample instant the sweep completes with missing positions marked SWEEP_PARTIAL. -/
  | sweepDeadline (num : Nat := 0) (other : Bool := false)
  /-- NODE_UNHEARD (R122): No valid slot from a position for 30 ms marks it unheard and its cells unmonitored. -/
  | nodeUnheard (pos : Nat)
  /-- ALARM_RX (R124): A valid ALARM ordered set reaches the master and is handed to the Margin engine and break handling. -/
  | alarmRx (port pos cause time : Nat) (chk : Nat := pos ^^^ cause ^^^ 0xA5)
  /-- NODE_ALARM_RELEASE (R124): 300 µs without a comparator ALARM from a position ends cause NODE_ALARM. -/
  | nodeAlarmRelease (pos : Nat)
  /-- STALE_MASTER (R92): A frame with a higher EDITION at HEAD makes the module stop mastering within 10 µs. -/
  | staleMaster (edition : Nat)
  /-- FWD (R91): A chain frame forwarded by the far-end partner over the partner link reaches the master. -/
  | fwd (slots : List SlotMsg)
  /-- RELAY (R127): A RELAY message directs the partner to launch TRIG and COLLECT for its segment. -/
  | relay (sweep ctrl instant : Nat) (collect : Nat := instant)
  /-- DLY_ECHO (R114): A DLY echo returns and its round trip joins the delay average. -/
  | dlyEcho (pos roundTripPs : Nat) (port : Nat := 0) (op : Nat := 2) (overlap : Bool := false) (chk : Nat := pos ^^^ op ^^^ 0x3C)
  /-- DLY_TIMEOUT (R114): A DLY round trip exceeds 25 µs and is discarded. -/
  | dlyTimeout (pos : Nat)
  /-- DLY_PERIOD (R116): The background delay measurement period elapses and a new measurement starts. -/
  | dlyPeriod
  /-- DLY_NOW (R133): CHN0.DLY_CTL.NOW starts a delay measurement of all positions at once. -/
  | dlyNow (master : Nat)
  /-- ENUM_START (R113): NODE.ENUM_CTL.START requests a host enumeration, allowed only in SURVEY with POWER OFF. -/
  | enumStart (master : Nat)
  /-- REJOIN_POS (R113): NODE.ENUM_CTL.REJOIN_POS starts a REJOIN of one position. -/
  | rejoinPos (master pos : Nat)
  /-- ENUM_RETURN (R112): The ENUM frame returns and the string is checked against the Plant Record. -/
  | enumReturn (recs : List EnumRec)
  /-- ENUM_TIMEOUT (R111): Enumeration reaches 100 ms without every hop UP or the ENUM frame back and ends with TIMEOUT. -/
  | enumTimeout
  /-- ENUM_DONE (R111): Node settings are written and read back, RUN set, and the first FULL sweep scheduled. -/
  | enumDone (bad : List Nat)
  /-- SWEEP_REJOIN (R129): CHN0.SWEEP_CTL.REJOIN requests return to RING or LINE after a healed break. -/
  | sweepRejoin (master : Nat)
  /-- NREG_READ (R132): An NREG_CMD with OP READ reads a node register through a CMD frame. -/
  | nregRead (master pos reg : Nat)
  /-- NREG_WRITE (R132): An NREG_CMD with OP WRITE writes a node register and reads it back, refusing master-owned registers. -/
  | nregWrite (master pos reg value : Nat)
  /-- NREG_REPLY (R130): The NREG read-back arrives and NREG_STATUS reads OK or READBACK_MISMATCH. -/
  | nregReply (pos reg value result : Nat)
  /-- NREG_TIMEOUT (R135): No NREG answer within 50 ms gives NO_REPLY. -/
  | nregTimeout
  /-- OWT_LAUNCH (R146): At the sample instant plus 420 µs the master commands the open-wire test on all nodes. -/
  | owtLaunch
  /-- OWT_PERIODIC (R146): The 10 s periodic open-wire test falls due. -/
  | owtPeriodic
  /-- OWT_NOW (R161): BAL.CTL.OWT_NOW requests an open-wire test. -/
  | owtNow (master : Nat)
  /-- OWT_DEADLINE (R147): 20 ms after the CMD frame a silent node fails the test with NO_REPLY. -/
  | owtDeadline
  /-- SUSPECT_CLR (R144): A keyed write to BAL.SUSPECT_CLR starts a test and proof check to clear a position's marks. -/
  | suspectClr (master pos : Nat)
  /-- SUSPECT_CLR_DECISION (R144): Within 1 s of the clear write the module clears the marks or denies the clear. -/
  | suspectClrDecision (pos : Nat := 1)
  /-- COMP_READBACK (R149): Every 10 s comparator settings are read back and rewritten on difference. -/
  | compReadback (pos : Nat) (words : List Nat)
  /-- FLOOP_ABSENT (R152): The fault loop tone stays below 2 mA for 8 periods; a trip with cause FAULT_LOOP, or a wake in DORMANT. -/
  | floopAbsent (amplitude : Nat := 0)
  /-- BLEED_LAUNCH (R154): At the sample instant plus 420 µs the scheduler sends one BLEED frame with per-position ON_TIME. -/
  | bleedLaunch (late : Bool := false)
  /-- PLAN_COMMIT (R156): BAL.PLAN_COMMIT.COMMIT commits the staged plan from the next BLEED frame. -/
  | planCommit (master : Nat)
  /-- PLAN_CLEAR (R161): BAL.PLAN_COMMIT.CLEAR zeroes every staged plan and commits it. -/
  | planClear (master : Nat)
  /-- VOTED_SAMPLE (R170): Each 10 µs window ends; the voter publishes a voted sample and dependent checks and loops run. -/
  | votedSample (chans : ChanFrame)
  /-- HV_LOST (R167): High-voltage domain frames are missing for 3 windows and HV_LOST is raised. -/
  | hvLost
  /-- CH_READMITTED (R175): An excluded channel agrees for READMIT.AGREE_S with POWER OFF and returns to use. -/
  | chReadmitted (chan : Nat)
  /-- OFFSET_CAL_START (R168): 100 ms after contactors open in SURVEY the current offset calibration begins. -/
  | offsetCalStart
  /-- OFFSET_CAL_END (R168): After 1 s of averaging each channel stores its offset, sets OFFSET_HIGH or skips. -/
  | offsetCalEnd (sums : List (Nat × Int))
  /-- IMD_DONE (R178): An insulation measurement half-period completes and updates R_ISO and the state. -/
  | imdDone (riso cap loc : Nat)
  /-- IMD_CONN_FAULT (R178): The chassis loop exceeds 1 kΩ for 1 s. -/
  | imdConnFault
  /-- IMD_START (R183): MEAS.IMD_CTL.START discards the cycle in progress and starts a new one. -/
  | imdStart (master : Nat)
  /-- IMD_HOLDER_START (R180): 1 s after a change of holder the new holder starts a fresh insulation cycle. -/
  | imdHolderStart
  /-- CHG_CLR (R181): A keyed write to MEAS.CHG_CLR zeroes CHG_ACC and CHG_GAP. -/
  | chgClr (master value : Nat)
  /-- CHG_STORE (R181): Every 1 s CHG_IN and CHG_OUT are written to MRAM. -/
  | chgStore
  /-- EST_DONE (R195): An estimation update started by a used sweep finishes and publishes the bank. -/
  | estDone
  /-- EST_SHADOW_WRITE (R202): Every 60 s the estimator shadow is written to MRAM and sealed. -/
  | estShadowWrite
  /-- CAP_SET (R215): A keyed write to EST.CAP_SET sets one cell's capacity basis while POWER is OFF. -/
  | capSet (master value : Nat)
  /-- ANCHOR_REQ (R219): EST.CTL.ANCHOR_REQ requests an anchor window, refused outside allowed conditions. -/
  | anchorReq (master : Nat)
  /-- ANCHOR_CANCEL (R219): EST.CTL.ANCHOR_CANCEL ends a requested anchor window and releases the setpoint. -/
  | anchorCancel (master : Nat)
  /-- ANCHOR_RAMP_TIMEOUT (R219): The anchor ramp fails to reach low current within 60 s, giving FAIL_RAMP. -/
  | anchorRampTimeout
  /-- NO_ANCHOR (R218): 72 h pass without an anchor window. -/
  | noAnchor
  /-- CELL_VIEW_WRITE (R223): A write to CELL.VIEW holds the latest bank or returns the window to LIVE. -/
  | cellViewWrite (master value : Nat)
  /-- HOLD_EXPIRED (R223): HOLD_LIMIT elapses and the view returns to LIVE. -/
  | holdExpired
  /-- ASSAY_START (R235): ASY.RUN_CTL.START starts a run while idle in ASSAY, else START_REFUSED. -/
  | assayStart (master : Nat)
  /-- ASSAY_ABORT (R236): ASY.RUN_CTL.ABORT ends the run with cause HOST and a taper. -/
  | assayAbort (master : Nat)
  /-- PERTURB_RISE_END (R234): The envelope reaches 1 over the first settle period and PERTURB becomes ON. -/
  | perturbRiseEnd
  /-- BIN_SPAN_END (R238): A bin's measure span ends; the fit is computed, the bin judged and written, and the next bin starts. -/
  | binSpanEnd
  /-- METRICS_DONE (R244): Within 50 ms after a run ends the per-cell metrics are computed. -/
  | metricsDone
  /-- TEMP_ESTIMATE (R246): An internal temperature estimate is handed to the estimation engine after BIN_DONE of bin F_T. -/
  | tempEstimate
  /-- TCAL_CLR (R247): A keyed write to ASY.TCAL_CLR sets every temperature offset to 0. -/
  | tcalClr (master value : Nat)
  /-- TCAL (R247): A TCAL message from the holder delivers new offsets that the partner stores in MRAM. -/
  | tcal (edition : Nat) (offsets : List Int)
  /-- PERTURB_ZERO (R284): The Drive unit reports the perturbation amplitude at zero, ending a taper and PERTURB. -/
  | perturbZero
  /-- LOOP_CFG_WRITE (R253): A write to SEL_CFG or SEL_ROUTE takes effect if the whole configuration is valid, else CFG_REFUSED. -/
  | loopCfgWrite (master : Nat) (isRoute : Bool) (value : Nat)
  /-- LOOP_MODE_WRITE (R260): SEL_CTL.MODE transfers a THERMAL slot between AUTO and MANUAL. -/
  | loopModeWrite (master : Nat) (manual : Bool)
  /-- LOOP_SWAP (R264): SEL_CTL.SWAP or SWAP_MULTI requests a coefficient bank swap at the next sample boundary. -/
  | loopSwap (master : Nat) (multi : Option Nat)
  /-- LOOP_RESUME (R268): SEL_CTL.RESUME returns a held or fallen-back THERMAL slot to AUTO. -/
  | loopResume (master : Nat)
  /-- THERMAL_SLOT_SAMPLE (R254): A THERMAL slot samples on its CLK_TB period and hands its output to thermal I/O. -/
  | thermalSlotSample (slot : Nat)
  /-- FEEDBACK_STALE (R266): A slot's source delivers nothing for 3 nominal periods and FEEDBACK_LOST is declared. -/
  | feedbackStale (slot : Nat)
  /-- THERMAL_HOLD_EXPIRY (R268): A held THERMAL slot's 10 s elapse and it enters FALLBACK. -/
  | thermalHoldExpiry (slot : Nat)
  /-- PROFILE_STEP (R270): Every 10 µs the profile generator moves REF toward the effective target. -/
  | profileStep
  /-- PROF_TARGET_WRITE (R272): A write to PROF.TARGET is clamped and applied, kept during an anchor, or ignored during Full Stop. -/
  | profTargetWrite (master value : Nat)
  /-- PROF_LIMIT_WRITE (R270): A write to RATE, ACCEL or JERK takes effect from the next step or is ignored out of range. -/
  | profLimitWrite (master which value : Nat)
  /-- TIN_SAMPLE (R273): TIN inputs are sampled at 100 Hz and open or short readings raise TIN_FAULT. -/
  | tinSample (values : List (Option Int))
  /-- TACH_EVAL (R273): Every 100 ms tachometer and flow inputs are evaluated. -/
  | tachEval (tachA tachB flow : Nat)
  /-- FAN_STALL (R274): A fan stays below TACH_MIN for 2 s with command 20 % or more. -/
  | fanStall (fan : Nat)
  /-- FLOW_LOW (R274): FLOW stays below FLOW_MIN for 2 s with PUMP command 20 % or more. -/
  | flowLow
  /-- STATUS (R292): A STATUS frame from the output stage is received and its result, holder and edition acted on. -/
  | status (st : StatusMsg)
  /-- DRIVE_LINK_UP (R287): The drive link receiver aligns and sees 16 valid characters. -/
  | driveLinkUp
  /-- DRIVE_LINK_LOST (R287): The drive link receiver loses lock or sees 6.4 µs without a valid character. -/
  | driveLinkLost
  /-- STATUS_TIMEOUT (R292): No valid STATUS for 5 ms raises LINK_LOST and, for a powered holder, a Full Stop. -/
  | statusTimeout
  /-- RENEW_SEND (R289): Every 10 ms the holder sends RENEW with the contactor command and ARM. -/
  | renewSend
  /-- WATCH_SEND (R289): Every 10 ms a module without the Imprint sends WATCH. -/
  | watchSend
  /-- CLAIM_REPEAT (R289): A pending CLAIM is repeated every 100 ms until a result. -/
  | claimRepeat
  /-- PWM_ENABLE (R285): At a carrier valley with no inhibit cause left the pairs leave inhibit. -/
  | pwmEnable
  /-- DRIVE_EN_CHANGE (R293): A DRIVE_EN line changes level; low without this module pulling is cause EN_LOW_EXT. -/
  | driveEnChange (line : Nat) (high : Bool)
  /-- DRIVE_EN_TEST (R296): The 100 µs pull of a DRIVE_EN line in step 1 of the closing sequence ends and is checked. -/
  | driveEnTest (readLow readHigh : Bool)
  /-- FB_SAMPLE (R326): Feedback inputs are sampled at 1 kHz and a state held 3 samples is accepted. -/
  | fbSample (neg pre pos : Bool)
  /-- CONT_STEP_TIMEOUT (R297): A contactor step gets no feedback in time; the sequence aborts or CONTACTOR_WELD is raised. -/
  | contStepTimeout
  /-- PRE_TIMEOUT (R297): PRE_TIMEOUT passes without pre-charge completion and the sequence aborts. -/
  | preTimeout
  /-- GATES_TIMEOUT (R297): Gates are not reported switching within 12 ms of ARM and the sequence aborts with OS_REFUSED. -/
  | gatesTimeout
  /-- FB_DISAGREE (R295): The stage's CONT_FB disagrees with the feedback contacts for 100 ms. -/
  | fbDisagree
  /-- CONT_UNEXPECTED (R327): A contactor's state differs from its steady command for 10 ms. -/
  | contUnexpected
  /-- FB_TEST_GAP (R328): Every 100 ms FB_SUPPLY is gapped 500 µs and the inputs are checked de-energised. -/
  | fbTestGap (reads : Nat)
  /-- CUR_REDUCE_REPEAT (R300): A VB-2064-C repeats its current-reduction request every 10 ms until current falls below 5 A. -/
  | curReduceRepeat
  /-- CUR_REDUCE_DEADLINE (R300): The plant misses the ramp deadline and the contactors open under load. -/
  | curReduceDeadline
  /-- CONNECT_ACK (R451): A plant CONNECT_ACK command satisfies check C9 of a VB-2064-C. -/
  | connectAck (can : Nat) (accept : Bool)
  /-- CONNECT_TIMEOUT (R300): No connect acknowledgement arrives within 1 s. -/
  | connectTimeout
  /-- LOCKSTEP (R306): The lockstep cores diverge or TCM reports an uncorrectable error; the no-ramp path starts. -/
  | lockstep
  /-- LOCKSTEP_RESET_HOLD (R306): After contactors confirm open or 300 ms the held safety-commanded reset asserts. -/
  | lockstepResetHold
  /-- MARGIN_SELFTEST (R307): Within each 8 ms the comparator banks are tested with trip and no-trip vectors. -/
  | marginSelftest (failBank : Option Nat)
  /-- CFG_CRC_CHECK (R307): Every 100 ms the configuration CRC is computed and compared with the Plant Record. -/
  | cfgCrcCheck
  /-- FS_RAMP_DEADLINE (R317): The Full Stop ramp deadline passes before current is below 5 A, raising RAMP_FAILED. -/
  | fsRampDeadline
  /-- FS_NO_RAMP_FALLBACK (R318): 200 ms after drive removal the no-ramp path opens the contactors regardless of current. -/
  | fsNoRampFallback
  /-- STOP_REQ (R320): A STOP_REQ from the partner makes the holder start a Full Stop with PARTNER_STOP. -/
  | stopReq (edition : Nat)
  /-- STOP_REQ_TIMEOUT (R320): The holder does not enter STOPPING within 2 ms and the standby pulls DRIVE_EN low. -/
  | stopReqTimeout
  /-- ELLIPSIS_EXPIRY (R322): The Ellipsis timer expires and a Full Stop starts with ELLIPSIS_EXPIRED. -/
  | ellipsisExpiry
  /-- SIO_SAMPLE (R323): The safety input pairs are sampled at 1 kHz and their values act by function. -/
  | sioSample (chA chB : Nat)
  /-- HEARTBEAT_SEND (R343): Every 5 ms the module sends a heartbeat on the partner link and as a pulse. -/
  | heartbeatSend
  /-- HEARTBEAT (R343): A HEARTBEAT message from the partner is received and updates presence and alignment. -/
  | heartbeat (hb : HeartbeatMsg)
  /-- HB_PULSE (R343): A valid heartbeat pulse arrives at HB_IN and names the partner's state. -/
  | hbPulse (widthUs gapUs : Nat)
  /-- HB_PATH_LOST (R344): No valid heartbeat on a path for 15 ms declares the path LOST. -/
  | hbPathLost (path : Nat)
  /-- PARTNER_LOST (R344): Both paths stay silent for 50 ms and the partner is declared absent, possibly entering SPLIT. -/
  | partnerLost
  /-- CLAIM_SEND (R346): When the conditions of R346 come to hold the module sends CLAIM. -/
  | claimSend
  /-- PAIR_CLAIM (R346): PAIR.CTL.CLAIM sends a CLAIM under the conditions of R346. -/
  | pairClaim (master : Nat)
  /-- CLAIM_TIMEOUT (R347): A claim draws no result within 300 ms and the module returns to STANDBY. -/
  | claimTimeout
  /-- MIRROR_SEND (R353): Every 10 ms the holder sends a MIRROR. -/
  | mirrorSend
  /-- MIRROR (R354): A MIRROR is received and applied whole by the standby, or discarded. -/
  | mirror (m : MirrorMsg)
  /-- MIRROR_STALE (R354): MIRROR_AGE exceeds 30 ms. -/
  | mirrorStale
  /-- CFG_DIFFER (R354): The partners' configuration CRCs differ for 1 s. -/
  | cfgDiffer
  /-- RESYNC_REQ (R355): The holder receives RESYNC_REQ and spreads a full snapshot over MIRROR periods. -/
  | resyncReq (edition : Nat)
  /-- MODE_REQ (R351): The holder receives a forwarded mode request, evaluates it and returns MODE_RESULT. -/
  | modeReq (edition tag target : Nat)
  /-- MODE_RESULT (R351): A MODE_RESULT from the holder is reported in REQ_RESULT. -/
  | modeResult (edition code check target : Nat)
  /-- MODE_REQ_TIMEOUT (R351): No MODE_RESULT within 10 ms gives REJ_IMPRINT. -/
  | modeReqTimeout
  /-- SWAP_DUE (R360): The periodic swap falls due or its 60 s retry elapses and the holder offers a swap if allowed. -/
  | swapDue
  /-- SWAP_NOW (R360): PAIR.CTL.SWAP_NOW requests a swap offer. -/
  | swapNow (master : Nat)
  /-- SWAP_OVERDUE (R360): GRACE_H hours after the swap fell due it is raised as overdue. -/
  | swapOverdue
  /-- SWAP_OFFER (R361): The standby receives SWAP_OFFER and answers accept or decline. -/
  | swapOffer (edition : Nat)
  /-- SWAP_ACCEPT (R361): The holder receives SWAP_ACCEPT, sends a final MIRROR and RELEASE. -/
  | swapAccept (edition : Nat)
  /-- SWAP_DECLINE (R361): The holder receives SWAP_DECLINE and the swap ends DECLINED. -/
  | swapDecline (edition : Nat)
  /-- SWAP_HOLDOFF_END (R361): The 100 ms release hold-off of the outgoing holder ends. -/
  | swapHoldoffEnd
  /-- SWAP_GRANT_TIMEOUT (R362): The incoming module is not granted within 100 ms of RELEASE and the swap fails. -/
  | swapGrantTimeout
  /-- LATENT_CLR (R362): A keyed write to PAIR.LATENT_CLR clears LATENT_FAULT. -/
  | latentClr (master value : Nat)
  /-- CYCLE_BOUNDARY (R377): At a lattice instant the output image transfers, the input image is latched and the cycle entry called. -/
  | cycleBoundary (out : OutImage)
  /-- ENTRY_RETURN (R377): A cycle entry returns on core 0. -/
  | entryReturn (execUs : Nat)
  /-- CYCLE_DEADLINE (R384): The cycle entry has not returned by the deadline; OVERRUN and the next cycle is skipped. -/
  | cycleDeadline (out : OutImage)
  /-- RETAIN_COMMIT (R373): The ecall RETAIN_COMMIT writes RETAIN to MRAM from the next boundary. -/
  | retainCommit
  /-- NOTE (R373): The ecall NOTE writes a0 to CYC.USER_NOTE. -/
  | note (a0 : Nat)
  /-- SHADOW_NOW (R373): The ecall SHADOW_NOW writes a program shadow from the next boundary. -/
  | shadowNow
  /-- WAIT (R411): The ecall WAIT on core 1 blocks until event records are copied or time runs out. -/
  | wait (addr cap timeoutUs : Nat)
  /-- WAIT_TIMEOUT (R373): A WAIT's time runs out and it returns 0. -/
  | waitTimeout
  /-- CORE_TRAP (R386): A user-mode trap on core 0 stops the program with STOP_CAUSE TRAP. -/
  | coreTrap (cause pc : Nat)
  /-- EBREAK (R381): An ebreak on core 0 enters HOLD at once and discards the cycle's outputs. -/
  | ebreak (pc : Nat)
  /-- SERVICE_TRAP (R374): Core 1's service entry returns or traps. -/
  | serviceTrap (returned : Bool) (code pc : Nat)
  /-- SERVICE_RESTART (R374): 100 ms after a service trap the entry is restarted unless 3 occurred within 60 s. -/
  | serviceRestart
  /-- CYC_RUN (R381): CYC.CTL.CMD RUN starts or resumes the program. -/
  | cycRun (master startKind : Nat)
  /-- CYC_STOP (R381): CYC.CTL.CMD STOP stops the program at the boundary or at once. -/
  | cycStop (master : Nat)
  /-- CYC_HOLD (R381): CYC.CTL.CMD HOLD puts the program into HOLD at the boundary. -/
  | cycHold (master : Nat)
  /-- CYC_STEP (R381): CYC.CTL.CMD STEP runs one cycle from HOLD. -/
  | cycStep (master : Nat)
  /-- HOLD_LIMIT (R382): Time outside RUN reaches LIMIT_S and cause HOLD_LIMIT becomes active. -/
  | holdLimit
  /-- INIT_TIMEOUT (R390): An init entry does not return within 1 s and the program stops. -/
  | initTimeout
  /-- PROG_SHADOW (R391): Every SHADOW_PERIOD the program segments are copied at a boundary and written to MRAM. -/
  | progShadow
  /-- SHADOW_SEALED (R391): A pending warm restart's shadow seal is written and the module resets. -/
  | shadowSealed
  /-- RETAIN_STORE (R392): Every 1 s a changed RETAIN is written to an alternating sealed MRAM copy. -/
  | retainStore
  /-- TMR_IN_WRITE (R388): A write to a timer slot's IN updates PREV and Q per the slot's kind. -/
  | tmrInWrite (master slot : Nat) (level : Bool)
  /-- TMR_PT_WRITE (R388): A write to a timer slot's PT takes effect at once. -/
  | tmrPtWrite (master slot value : Nat)
  /-- TMR_EXPIRY (R388): A timer slot's ET reaches PT and its Q changes. -/
  | tmrExpiry (slot : Nat)
  /-- EVENT_GRANT (R405): Each CLK_FAB cycle the Compositor grants one waiting event, numbers it and delivers it. -/
  | eventGrant
  /-- RECORD (R416): A triggered or system record is committed to MRAM. -/
  | record
  /-- CURSOR_WRITE (R417): A write to EVR.CURSOR starts copying 16 records into the read window. -/
  | cursorWrite (master value : Nat)
  /-- CURSOR_READY (R417): The record copy into the window completes. -/
  | cursorReady
  /-- FREEZE_EXPIRED (R418): A recorder freeze lasts FREEZE_LIMIT_S and ends. -/
  | freezeExpired
  /-- SYNC (R434): A PTP Sync is received and the servo updates, confirms a step or changes state. -/
  | sync (m : PtpMsg)
  /-- FOLLOW_UP (R432): A PTP Follow_Up supplies the precise time of a two-step Sync. -/
  | followUp (m : PtpMsg)
  /-- ANNOUNCE (R434): A PTP Announce runs the BMCA and may select a new grandmaster. -/
  | announce (m : PtpMsg)
  /-- PDELAY_REQ (R432): A received Pdelay_Req is answered with Pdelay_Resp and its Follow_Up. -/
  | pdelayReq (m : PtpMsg)
  /-- PDELAY_RESP (R432): A Pdelay_Resp or its Follow_Up completes a peer delay measurement. -/
  | pdelayResp (m : PtpMsg)
  /-- PDELAY_REQ_SEND (R432): Each peer delay interval the port sends Pdelay_Req. -/
  | pdelayReqSend (port : Nat)
  /-- SYNC_LOSS (R434): 3 s without a valid Sync moves LOCKED to HOLDOVER. -/
  | syncLoss
  /-- ANNOUNCE_TIMEOUT (R434): announceReceiptTimeout in HOLDOVER returns the servo to LISTENING. -/
  | announceTimeout
  /-- STEP_NS (R435): A keyed write to TIME.STEP_NS steps the count, or is refused with POWER on. -/
  | stepNs (master value : Nat)
  /-- LAUNCH_TRIG (R438): A trigger comparator reaches its launch time, raises TRIG_FIRED and may start a GPIO pulse. -/
  | launchTrig (trig : Nat)
  /-- TRIG_PULSE_END (R438): A trigger's GPIO pulse ends after WIDTH_US. -/
  | trigPulseEnd (trig : Nat)
  /-- COMPAT_LOAD (R440): A write to COMPAT_LOAD_HI loads the selected compatibility time base. -/
  | compatLoad (master value : Nat)
  /-- TXB_REQ (R447): A write to CANx.TXB_REQ makes transmit buffers pending. -/
  | txbReq (can master value : Nat)
  /-- TXB_CANCEL (R465): A write to CANx.TXB_CANCEL withdraws pending host buffers. -/
  | txbCancel (can master value : Nat)
  /-- CAN_LAUNCH_DUE (R448): A buffer's launch time arrives and it becomes eligible. -/
  | canLaunchDue (can buf : Nat)
  /-- CAN_LATE_WINDOW (R448): A buffer has not begun SOF by L plus LATE_WIN_US and is late. -/
  | canLateWindow (can buf : Nat)
  /-- TX_DONE (R447): A CAN frame is sent and acknowledged. -/
  | txDone (can buf sofNs : Nat)
  /-- CAN_RX_FRAME (R456): A CAN frame is received, matched by fixed and filter rules and stored or rejected. -/
  | canRxFrame (can : Nat) (f : CanFrame)
  /-- CAN_BUS_ERROR (R461): A bus error updates TEC and REC and may reach warning, passive or bus off. -/
  | canBusError (can tecInc recInc kind : Nat) (buf : Option Nat) (dataBit : Bool)
  /-- RECOVER (R462): CANx.CTL.RECOVER begins bus-off recovery. -/
  | recover (can master : Nat)
  /-- BUS_ON (R462): 128 recessive sequences complete recovery and the controller returns to the bus. -/
  | busOn (can : Nat)
  /-- CAN_MODE_WRITE (R445): A write to CANx.CTL.MODE leaving CONFIG checks bit timing and may refuse. -/
  | canModeWrite (can master mode : Nat)
  /-- CAN_PERIODIC_DUE (R451): A periodic module message falls due and its buffer is written or rewritten. -/
  | canPeriodicDue (path fn : Nat)
  /-- TREF_SEND (R453): At each PERIOD_MS the time master sends a time reference. -/
  | trefSend (can : Nat)
  /-- TREF_LOST (R453): Three periods pass without a time reference. -/
  | trefLost (can : Nat)
  /-- RXQ_ACK (R458): A write to CANx.RXQ_ACK releases the head of a receive queue. -/
  | rxqAck (can master value : Nat)
  /-- RXQ_HEAD_READ (R459): In LAST_WORD mode a read of the head's word 0 locks it and of its last word releases it. -/
  | rxqHeadRead (can master queue word : Nat)
  /-- RXQ_LOCK_EXPIRY (R459): A head lock expires after 10 ms without reads. -/
  | rxqLockExpiry (can queue : Nat)
  /-- FILTER_COMMIT (R455): A write to a filter element's word 0 commits both words, or is refused. -/
  | filterCommit (master elem word : Nat)
  /-- ETH_LINK_CHANGE (R469): A plant port link goes up or down. -/
  | ethLinkChange (port : Nat) (up : Bool) (speed : Nat) (phyMaster : Bool)
  /-- ETH_RX_FRAME (R470): A plant frame is received and forwarded or delivered to the internal port. -/
  | ethRxFrame (port : Nat) (f : EthFrame)
  /-- PLANT_DATAGRAM (R472): A UDP datagram on port 40965 is authenticated and acted on or dropped. -/
  | plantDatagram (port : Nat) (f : EthFrame)
  /-- ARP_REQUEST (R469): An ARP request for the module's address is answered. -/
  | arpRequest (port ip senderIp senderMacHi senderMacLo : Nat)
  /-- ICMP_ECHO (R469): An ICMP echo request is answered. -/
  | icmpEcho (port srcIp : Nat) (data : List Nat)
  /-- TX_TAIL_WRITE (R473): A write to ETHx.TX_TAIL hands transmit descriptors to the module. -/
  | txTailWrite (port master value : Nat)
  /-- RX_TAIL_WRITE (R473): A write to ETHx.RX_TAIL hands receive descriptors to the module. -/
  | rxTailWrite (port master value : Nat)
  /-- ETH_TX_DONE (R473): A transmit descriptor's frame is sent and written back. -/
  | ethTxDone (port sfdNs : Nat)
  /-- MAC_AGE (R470): A learned MAC address ages out after 300 s. -/
  | macAge (mac : Nat)
  /-- PLNK_FRAME (R476): A partner link frame is received, reassembled or dropped. -/
  | plnkFrame (f : PlnkFrame)
  /-- PLNK_LINK_DOWN (R477): The partner PHY fails or 15 ms pass without a valid frame. -/
  | plnkLinkDown (phyFail : Bool)
  /-- PLNK_LINK_UP (R477): The partner PHY reports OK and 3 heartbeats arrive. -/
  | plnkLinkUp
  /-- TWB_IDENT_READ (R485): Target command 0x01 returns SYS.IDENT and serial number. -/
  | twbIdentRead (code len : Nat) (pec : Bool)
  /-- TWB_MODE_READ (R485): Target command 0x02 returns MODE.STATE, LATCH, REQ_RESULT and reset cause. -/
  | twbModeRead (code len : Nat) (pec : Bool)
  /-- TWB_HOURS_READ (R485): Target command 0x03 returns HOURS and POWER_CYCLES. -/
  | twbHoursRead (code len : Nat) (pec : Bool)
  /-- TWB_ADDR_READ (R485): Target command 0x04 returns the AUX address registers. -/
  | twbAddrRead (code len : Nat) (pec : Bool)
  /-- TWB_POINTER_WRITE (R485): Target command 0x10 sets the pointer to a register address. -/
  | twbPointerWrite (code addr : Nat) (pec : Option Nat)
  /-- TWB_POINTER_READ (R485): Target command 0x11 returns STATUS and the word at the pointer and advances it. -/
  | twbPointerRead (code len : Nat) (pec : Bool)
  /-- TWB_FIXED_POINTER_READ (R485): Target command 0x12 returns the word at the pointer without a count. -/
  | twbFixedPointerRead (code len : Nat) (pec : Bool)
  /-- TWB_PROTO_ERR (R488): A START in an acknowledge slot aborts the target's partial transaction. -/
  | twbProtoErr
  /-- TWB_TGT_TIMEOUT (R491): SCL low for 30 ms resets the target interface. -/
  | twbTgtTimeout
  /-- TWB_QUICK_WRITE (R489): GO with PROT Quick write runs a Quick Command write. -/
  | twbQuickWrite (master ctl : Nat)
  /-- TWB_QUICK_READ (R489): GO with PROT Quick read runs a Quick Command read. -/
  | twbQuickRead (master ctl : Nat)
  /-- TWB_SEND_BYTE (R489): GO with PROT Send Byte runs a Send Byte transaction. -/
  | twbSendByte (master ctl : Nat)
  /-- TWB_RECEIVE_BYTE (R489): GO with PROT Receive Byte runs a Receive Byte transaction. -/
  | twbReceiveByte (master ctl : Nat)
  /-- TWB_WRITE_BYTE (R489): GO with PROT Write Byte runs a Write Byte transaction. -/
  | twbWriteByte (master ctl : Nat)
  /-- TWB_READ_BYTE (R489): GO with PROT Read Byte runs a Read Byte transaction. -/
  | twbReadByte (master ctl : Nat)
  /-- TWB_WRITE_WORD (R489): GO with PROT Write Word runs a Write Word transaction. -/
  | twbWriteWord (master ctl : Nat)
  /-- TWB_READ_WORD (R489): GO with PROT Read Word runs a Read Word transaction. -/
  | twbReadWord (master ctl : Nat)
  /-- TWB_PROCESS_CALL (R489): GO with PROT Process Call runs a Process Call. -/
  | twbProcessCall (master ctl : Nat)
  /-- TWB_BLOCK_WRITE (R489): GO with PROT Block Write runs a Block Write. -/
  | twbBlockWrite (master ctl : Nat)
  /-- TWB_BLOCK_READ (R489): GO with PROT Block Read runs a Block Read, ending TOO_LONG on an excess count. -/
  | twbBlockRead (master ctl : Nat)
  /-- TWB_BLOCK_WRITE_BLOCK_READ (R489): GO with PROT Block Write-Block Read runs that process call. -/
  | twbBlockWriteBlockRead (master ctl : Nat)
  /-- TWB_FIXED_WRITE (R489): GO with PROT fixed write writes WLEN bytes without a count. -/
  | twbFixedWrite (master ctl : Nat)
  /-- TWB_FIXED_READ (R489): GO with PROT fixed read reads RLEN bytes without a count. -/
  | twbFixedRead (master ctl : Nat)
  /-- TWB_CANCEL (R489): TWB.C_CTL.CANCEL ends a transaction that has not sent START. -/
  | twbCancel (master : Nat)
  /-- TWB_BUS_FREE (R490): The bus becomes free and a waiting controller transaction or retry starts. -/
  | twbBusFree
  /-- C_DONE (R489): A controller transaction ends and C_STATUS is written. -/
  | cDone (result : TwbResult)
  /-- ARB_LOST (R492): The module reads dominant where it sent recessive and loses arbitration. -/
  | arbLost (afterSr : Bool)
  /-- TWB_C_TIMEOUT (R491): SCL is held low 25 ms in a controller transaction and it aborts with TIMEOUT. -/
  | twbCTimeout
  /-- BUS_STUCK (R491): SDA stuck low at START is cleared by up to 9 clocks and STOP. -/
  | busStuck (cleared : Bool)
  /-- UPD_BEGIN (R499): UPD.CTL.BEGIN starts a payload transfer, refused with BUSY during another. -/
  | updBegin (master : Nat)
  /-- UPD_DATA (R499): A word written to the UPD data port is appended to the payload or refused. -/
  | updData (master value : Nat)
  /-- HEADER_CHECK_DONE (R499): Within 20 ms the header checks pass with HEADER_OK or reject the payload. -/
  | headerCheckDone (sigOk : Bool)
  /-- PAYLOAD_VERIFIED (R500): The last body byte is hashed and checked; the payload becomes READY or is rejected. -/
  | payloadVerified (body : BodyCheck)
  /-- UPD_ABORT (R501): UPD.CTL.ABORT ends a transfer or discards all READY payloads. -/
  | updAbort (master : Nat)
  /-- UPD_ARM (R503): A keyed UPD.CTL.ARM arms READY kinds for ACTIVATE_AT or the next start. -/
  | updArm (master value : Nat)
  /-- UPD_REVERT (R502): A keyed UPD.CTL.REVERT activates the other bank's payload of a kind. -/
  | updRevert (master value : Nat)
  /-- ACTIVATE_AT_DUE (R504): ACTIVATE_AT arrives and each armed kind is activated under its conditions. -/
  | activateAtDue
  /-- KEY_REVOKE (R497): A keyed write to UPD.KEY_REVOKE blows a key's fuse, refusing the last key. -/
  | keyRevoke (master value : Nat)
  /-- NFW_RESULT (R505): A returned NFW frame reports the node's previous operation and the master sends the next. -/
  | nfwResult (pos result : Nat)
  /-- NFW_BUSY_TIMEOUT (R505): A node reports BUSY for 1 s and the operation fails. -/
  | nfwBusyTimeout
  /-- NODE_REJOIN_TIMEOUT (R505): An updated node does not rejoin within 2 s and the sequence ends NODE_FAIL. -/
  | nodeRejoinTimeout
  /-- LOAD_STATUS (R506): A LOAD_STATUS frame from the output stage acknowledges or ends an OSTAGE load. -/
  | loadStatus (state offset result : Nat)
  /-- LOAD_RESEND (R506): 10 ms without load progress makes the module resend from the last acknowledged offset. -/
  | loadResend
  /-- LOAD_TIMEOUT (R506): 5 s without load progress cancels the load with OSTAGE_FAIL. -/
  | loadTimeout
  /-- TONE_PRESENT (R152): The fault loop tone returns after an absence, so BAL.FLOOP.PRESENT sets and cause FAULT_LOOP ceases to be active. -/
  | tonePresent (amplitude : Nat)
  /-- CHASSIS_LOOP_CLOSED (R178): The chassis loop between CHAS_A and CHAS_B closes again, and the insulation monitor leaves state CONN_FAULT. -/
  | chassisLoopClosed
  /-- ETH_LAUNCH_DUE (R438): A plant Ethernet transmit descriptor's launch time L arrives, and the frame leaves, or is judged late and sent flagged or discarded. -/
  | ethLaunchDue (port : Nat)
  /-- SYNC_SEND (R432): In the master role (SLAVE_ONLY 0), the module sends its two-step Sync, Follow_Up and Announce at each interval. -/
  | syncSend (port : Nat)
  /-- SWAP_DRIVE_TIMEOUT (R362): The incoming module of a swap has not reached PWM_ENABLED 12 ms after a grant with ARM 1; it sends RELEASE with REASON 0x03, the swap fails and LATENT_FAULT is set. -/
  | swapDriveTimeout
  /-- ECC_CORRECTED (R306): The safety complex's memory reports a correctable error, which is counted in SAFE.ECC and raises ECC_CORRECTED. -/
  | eccCorrected
  deriving DecidableEq, Repr

end Sys2Proof
end

