-- ==== Sys2Proof/Decode.lean ====
section
/-! DEFINITION. The command that a word spells by the bits of the table of operations. The table gives no row any bits: every
row is an operation or an event, so no word spells a command. -/

namespace Sys2Proof

/-- The command spelt by a word of `nbits` bits: none, because no row of the table has bits. -/
def decodeTableWord (_nbits _w : Nat) : Option Instr := none

end Sys2Proof
end

