-- ==== Sys2Proof/Machine/RegMap.lean ====
section
/-! DEFINITION. The register map: the address of every register, the place of every named field and the number of
every event, from the register and event tables of the chapters (R41 to R508) and the page table R45. -/

namespace Sys2Proof.Machine

/-- A register field: the byte address of its register and its highest and lowest bit. -/
structure Fld where
  addr : Nat
  hi : Nat
  lo : Nat
  deriving DecidableEq, Repr

/-- An event: its source (page number, R402) and its event number. -/
structure Ev where
  page : Nat
  num : Nat
  deriving DecidableEq, Repr

/-- Base address of page `n` (R44). -/
abbrev pageBase (n : Nat) : Nat := 0x40000000 + n * 0x1000

/-- Page numbers (R45). -/

abbrev Pg.SYS : Nat := 0x00
abbrev Pg.MODE : Nat := 0x01
abbrev Pg.CLK : Nat := 0x02
abbrev Pg.TIME : Nat := 0x03
abbrev Pg.SEQ : Nat := 0x04
abbrev Pg.EVR : Nat := 0x05
abbrev Pg.GAL : Nat := 0x06
abbrev Pg.UPD : Nat := 0x07
abbrev Pg.CHN0 : Nat := 0x08
abbrev Pg.CHN1 : Nat := 0x09
abbrev Pg.NODE : Nat := 0x0A
abbrev Pg.MEAS : Nat := 0x0B
abbrev Pg.VOTE : Nat := 0x0C
abbrev Pg.MRG : Nat := 0x0D
abbrev Pg.SAFE : Nat := 0x0E
abbrev Pg.SIO : Nat := 0x0F
abbrev Pg.LOOP : Nat := 0x10
abbrev Pg.PROF : Nat := 0x11
abbrev Pg.DRV : Nat := 0x12
abbrev Pg.EST : Nat := 0x13
abbrev Pg.CELL : Nat := 0x14
abbrev Pg.ASY : Nat := 0x15
abbrev Pg.BAL : Nat := 0x16
abbrev Pg.THM : Nat := 0x17
abbrev Pg.PAIR : Nat := 0x18
abbrev Pg.ETH0 : Nat := 0x19
abbrev Pg.ETH1 : Nat := 0x1A
abbrev Pg.PLNK : Nat := 0x1B
abbrev Pg.CAN0 : Nat := 0x1C
abbrev Pg.CAN1 : Nat := 0x1D
abbrev Pg.FLT : Nat := 0x1E
abbrev Pg.TWB : Nat := 0x1F
abbrev Pg.CYC : Nat := 0x20
abbrev Pg.TMR : Nat := 0x21
abbrev Pg.AUX : Nat := 0x22

/-! Folio registers of page `p` (R46). -/
abbrev Folio.FOLIO (p : Nat) : Nat := pageBase p + 0x000
abbrev Folio.PRESENT (p : Nat) : Nat := pageBase p + 0x004
abbrev Folio.STATUS (p : Nat) : Nat := pageBase p + 0x008
abbrev Folio.EVENTS (p : Nat) : Nat := pageBase p + 0x00C
abbrev Folio.EVENT_EN (p : Nat) : Nat := pageBase p + 0x010
abbrev Folio.OWNER (p : Nat) : Nat := pageBase p + 0x014
abbrev Folio.LOCK (p : Nat) : Nat := pageBase p + 0x018
abbrev Folio.SEQ_LAST (p : Nat) : Nat := pageBase p + 0x01C
abbrev Folio.LOCK_KEY (p : Nat) : Fld := ⟨Folio.LOCK p, 15, 0⟩
abbrev Folio.LOCK_MASTER (p : Nat) : Fld := ⟨Folio.LOCK p, 18, 16⟩

/-! MODE page registers. -/
abbrev Reg.MODE_STATE : Nat := 0x40001040
abbrev Fld.MODE_STATE_PREV : Fld := ⟨Reg.MODE_STATE, 23, 20⟩
abbrev Fld.MODE_STATE_TARGET : Fld := ⟨Reg.MODE_STATE, 19, 16⟩
abbrev Fld.MODE_STATE_CURRENT : Fld := ⟨Reg.MODE_STATE, 3, 0⟩
abbrev Fld.MODE_STATE_LEVEL_CLOSED : Fld := ⟨Reg.MODE_STATE, 12, 12⟩
abbrev Fld.MODE_STATE_FAULT_ACTIVE : Fld := ⟨Reg.MODE_STATE, 11, 11⟩
abbrev Fld.MODE_STATE_BUSY_STOPPING : Fld := ⟨Reg.MODE_STATE, 10, 10⟩
abbrev Fld.MODE_STATE_STOP_LATCH : Fld := ⟨Reg.MODE_STATE, 9, 9⟩
abbrev Fld.MODE_STATE_CONTACTORS : Fld := ⟨Reg.MODE_STATE, 8, 8⟩
abbrev Reg.MODE_REQUEST : Nat := 0x40001044
abbrev Fld.MODE_REQUEST_TAG : Fld := ⟨Reg.MODE_REQUEST, 15, 8⟩
abbrev Fld.MODE_REQUEST_TARGET : Fld := ⟨Reg.MODE_REQUEST, 3, 0⟩
abbrev Reg.MODE_REQ_RESULT : Nat := 0x40001048
abbrev Fld.MODE_REQ_RESULT_TAG : Fld := ⟨Reg.MODE_REQ_RESULT, 23, 16⟩
abbrev Fld.MODE_REQ_RESULT_CODE : Fld := ⟨Reg.MODE_REQ_RESULT, 7, 0⟩
abbrev Fld.MODE_REQ_RESULT_CHECK : Fld := ⟨Reg.MODE_REQ_RESULT, 15, 12⟩
abbrev Fld.MODE_REQ_RESULT_TARGET : Fld := ⟨Reg.MODE_REQ_RESULT, 11, 8⟩
abbrev Reg.MODE_FUNC_STATE : Nat := 0x40001050
abbrev Fld.MODE_FUNC_STATE_SAMPLE_FAST : Fld := ⟨Reg.MODE_FUNC_STATE, 7, 6⟩
abbrev Fld.MODE_FUNC_STATE_BLEED : Fld := ⟨Reg.MODE_FUNC_STATE, 5, 4⟩
abbrev Fld.MODE_FUNC_STATE_PERTURB : Fld := ⟨Reg.MODE_FUNC_STATE, 3, 2⟩
abbrev Fld.MODE_FUNC_STATE_POWER : Fld := ⟨Reg.MODE_FUNC_STATE, 1, 0⟩
abbrev Reg.MODE_LATCH : Nat := 0x40001054
abbrev Fld.MODE_LATCH_COUNT : Fld := ⟨Reg.MODE_LATCH, 31, 16⟩
abbrev Fld.MODE_LATCH_CAUSE : Fld := ⟨Reg.MODE_LATCH, 15, 8⟩
abbrev Fld.MODE_LATCH_STOP_LATCH : Fld := ⟨Reg.MODE_LATCH, 0, 0⟩
abbrev Reg.MODE_LATCH_CLR : Nat := 0x40001058
abbrev Fld.MODE_LATCH_CLR_KEY : Fld := ⟨Reg.MODE_LATCH_CLR, 15, 0⟩
abbrev Reg.MODE_REQ_SEQ : Nat := 0x4000104C
abbrev Reg.MODE_ENTRY_TIME : Nat := 0x4000105C
abbrev Reg.MODE_ENTRY_SEQ : Nat := 0x40001060
abbrev Reg.MODE_START_LIMIT : Nat := 0x40001064
abbrev Reg.MODE_STOP_LIMIT : Nat := 0x40001068
abbrev Reg.MODE_WAKE_TIMER : Nat := 0x40001074
abbrev Reg.MODE_TRANS_COUNT : Nat := 0x40001078
abbrev Reg.MODE_REJECT_COUNT : Nat := 0x4000107C
abbrev Reg.MODE_CTL : Nat := 0x4000106C
abbrev Fld.MODE_CTL_ASSAY_RETURN : Fld := ⟨Reg.MODE_CTL, 0, 0⟩
abbrev Reg.MODE_WAKE_EN : Nat := 0x40001070
abbrev Fld.MODE_WAKE_EN_FAULT_LOOP : Fld := ⟨Reg.MODE_WAKE_EN, 7, 7⟩
abbrev Fld.MODE_WAKE_EN_SAFETY_INPUT : Fld := ⟨Reg.MODE_WAKE_EN, 4, 4⟩
abbrev Fld.MODE_WAKE_EN_TIMER : Fld := ⟨Reg.MODE_WAKE_EN, 3, 3⟩
abbrev Fld.MODE_WAKE_EN_SVC : Fld := ⟨Reg.MODE_WAKE_EN, 2, 2⟩
abbrev Fld.MODE_WAKE_EN_CAN1 : Fld := ⟨Reg.MODE_WAKE_EN, 1, 1⟩
abbrev Fld.MODE_WAKE_EN_CAN0 : Fld := ⟨Reg.MODE_WAKE_EN, 0, 0⟩

/-! SYS page registers. -/
abbrev Reg.SYS_IDENT : Nat := 0x40000040
abbrev Fld.SYS_IDENT_DEVICE : Fld := ⟨Reg.SYS_IDENT, 31, 16⟩
abbrev Fld.SYS_IDENT_VARIANT : Fld := ⟨Reg.SYS_IDENT, 15, 8⟩
abbrev Fld.SYS_IDENT_STEPPING : Fld := ⟨Reg.SYS_IDENT, 7, 0⟩
abbrev Reg.SYS_RESET_CAUSE : Nat := 0x4000004C
abbrev Fld.SYS_RESET_CAUSE_WAKE_SRC : Fld := ⟨Reg.SYS_RESET_CAUSE, 15, 8⟩
abbrev Fld.SYS_RESET_CAUSE_CAUSE : Fld := ⟨Reg.SYS_RESET_CAUSE, 3, 0⟩
abbrev Reg.SYS_ACCESS_ERR : Nat := 0x40000064
abbrev Fld.SYS_ACCESS_ERR_STATUS : Fld := ⟨Reg.SYS_ACCESS_ERR, 15, 8⟩
abbrev Fld.SYS_ACCESS_ERR_MASTER : Fld := ⟨Reg.SYS_ACCESS_ERR, 2, 0⟩
abbrev Reg.SYS_VRA_CTL : Nat := 0x40000068
abbrev Fld.SYS_VRA_CTL_IDLE_S : Fld := ⟨Reg.SYS_VRA_CTL, 31, 16⟩
abbrev Fld.SYS_VRA_CTL_SESSIONS : Fld := ⟨Reg.SYS_VRA_CTL, 7, 4⟩
abbrev Fld.SYS_VRA_CTL_ENABLE : Fld := ⟨Reg.SYS_VRA_CTL, 0, 0⟩
abbrev Reg.SYS_SERIAL_LO : Nat := 0x40000044
abbrev Reg.SYS_SERIAL_HI : Nat := 0x40000048
abbrev Reg.SYS_HOURS : Nat := 0x40000050
abbrev Reg.SYS_POWER_CYCLES : Nat := 0x40000054
abbrev Reg.SYS_VRA_DROP : Nat := 0x40000058
abbrev Reg.SYS_ACCESS_ERR_ADDR : Nat := 0x4000005C
abbrev Reg.SYS_SCRATCH : Nat := 0x40000060

/-! CLK page registers. -/
abbrev Reg.CLK_PLL : Nat := 0x40002040
abbrev Fld.CLK_PLL_LOCK_COUNT : Fld := ⟨Reg.CLK_PLL, 31, 16⟩
abbrev Fld.CLK_PLL_TCXO_OK : Fld := ⟨Reg.CLK_PLL, 1, 1⟩
abbrev Fld.CLK_PLL_LOCKED : Fld := ⟨Reg.CLK_PLL, 0, 0⟩
abbrev Reg.CLK_MON : Nat := 0x40002044
abbrev Fld.CLK_MON_ETH : Fld := ⟨Reg.CLK_MON, 0, 0⟩
abbrev Reg.CLK_WDG_CTL : Nat := 0x4000205C
abbrev Fld.CLK_WDG_CTL_TIMEOUT : Fld := ⟨Reg.CLK_WDG_CTL, 15, 0⟩
abbrev Reg.CLK_LAST_FAULT : Nat := 0x40002068
abbrev Fld.CLK_LAST_FAULT_CLOCK : Fld := ⟨Reg.CLK_LAST_FAULT, 11, 8⟩
abbrev Fld.CLK_LAST_FAULT_CODE : Fld := ⟨Reg.CLK_LAST_FAULT, 3, 0⟩
abbrev Reg.CLK_FREQ_SEL : Nat := 0x40002048
abbrev Reg.CLK_FREQ_MEAS : Nat := 0x4000204C
abbrev Reg.CLK_CAL_PPB : Nat := 0x40002050
abbrev Reg.CLK_ROOT_PPB : Nat := 0x40002054
abbrev Reg.CLK_DRIFT_LIM : Nat := 0x40002058
abbrev Reg.CLK_WDG_KICK : Nat := 0x40002060
abbrev Reg.CLK_WDG_REMAIN : Nat := 0x40002064
abbrev Reg.CLK_SLOW_COUNT : Nat := 0x4000206C

/-! AUX page registers. -/
abbrev Reg.AUX_ADDR : Nat := 0x40022040
abbrev Fld.AUX_ADDR_OFFERS : Fld := ⟨Reg.AUX_ADDR, 15, 8⟩
abbrev Fld.AUX_ADDR_STRING_ADDR : Fld := ⟨Reg.AUX_ADDR, 6, 0⟩
abbrev Fld.AUX_ADDR_ROLE : Fld := ⟨Reg.AUX_ADDR, 7, 7⟩
abbrev Reg.AUX_ADDR_IO : Nat := 0x40022044
abbrev Fld.AUX_ADDR_IO_ROLE_SEL : Fld := ⟨Reg.AUX_ADDR_IO, 2, 2⟩
abbrev Fld.AUX_ADDR_IO_ADDR_OUT : Fld := ⟨Reg.AUX_ADDR_IO, 1, 1⟩
abbrev Fld.AUX_ADDR_IO_ADDR_IN : Fld := ⟨Reg.AUX_ADDR_IO, 0, 0⟩
abbrev Reg.AUX_WALK_CTL : Nat := 0x4002204C
abbrev Fld.AUX_WALK_CTL_BUS : Fld := ⟨Reg.AUX_WALK_CTL, 2, 1⟩
abbrev Fld.AUX_WALK_CTL_ENABLE : Fld := ⟨Reg.AUX_WALK_CTL, 0, 0⟩
abbrev Reg.AUX_SVC : Nat := 0x40022050
abbrev Fld.AUX_SVC_LAST_PRESS : Fld := ⟨Reg.AUX_SVC, 31, 16⟩
abbrev Fld.AUX_SVC_HELD_AT_START : Fld := ⟨Reg.AUX_SVC, 2, 2⟩
abbrev Fld.AUX_SVC_STUCK : Fld := ⟨Reg.AUX_SVC, 1, 1⟩
abbrev Fld.AUX_SVC_PRESSED : Fld := ⟨Reg.AUX_SVC, 0, 0⟩
abbrev Reg.AUX_START_STATUS : Nat := 0x40022058
abbrev Fld.AUX_START_STATUS_FAULT : Fld := ⟨Reg.AUX_START_STATUS, 15, 8⟩
abbrev Fld.AUX_START_STATUS_STEP : Fld := ⟨Reg.AUX_START_STATUS, 3, 0⟩
abbrev Reg.AUX_ADDR_SET : Nat := 0x40022048
abbrev Reg.AUX_RESTART : Nat := 0x40022054
abbrev Reg.AUX_START_TIME : Nat := 0x4002205C
abbrev Reg.AUX_GPIO_DIR : Nat := 0x40022060
abbrev Reg.AUX_GPIO_OUT : Nat := 0x40022064
abbrev Reg.AUX_GPIO_IN : Nat := 0x40022068

/-! CHNx page registers. -/
abbrev Reg.CHN_PORT_CTL (n : Nat) : Nat := 0x40008040 + n * 0x1000
abbrev Fld.CHN_PORT_CTL_FORCE_DOWN (n : Nat) : Fld := ⟨Reg.CHN_PORT_CTL n, 2, 2⟩
abbrev Fld.CHN_PORT_CTL_LOOP_TEST (n : Nat) : Fld := ⟨Reg.CHN_PORT_CTL n, 1, 1⟩
abbrev Fld.CHN_PORT_CTL_ENABLE (n : Nat) : Fld := ⟨Reg.CHN_PORT_CTL n, 0, 0⟩
abbrev Reg.CHN_PORT_STATUS (n : Nat) : Nat := 0x40008044 + n * 0x1000
abbrev Fld.CHN_PORT_STATUS_LINK_UPS (n : Nat) : Fld := ⟨Reg.CHN_PORT_STATUS n, 31, 16⟩
abbrev Fld.CHN_PORT_STATUS_LINK (n : Nat) : Fld := ⟨Reg.CHN_PORT_STATUS n, 1, 0⟩
abbrev Fld.CHN_PORT_STATUS_RX_ALIGNED (n : Nat) : Fld := ⟨Reg.CHN_PORT_STATUS n, 5, 5⟩
abbrev Fld.CHN_PORT_STATUS_REMOTE_LOOP (n : Nat) : Fld := ⟨Reg.CHN_PORT_STATUS n, 4, 4⟩
abbrev Reg.CHN_ALARM_LAST (n : Nat) : Nat := 0x4000805C + n * 0x1000
abbrev Fld.CHN_ALARM_LAST_COUNT (n : Nat) : Fld := ⟨Reg.CHN_ALARM_LAST n, 31, 16⟩
abbrev Fld.CHN_ALARM_LAST_POS (n : Nat) : Fld := ⟨Reg.CHN_ALARM_LAST n, 15, 8⟩
abbrev Fld.CHN_ALARM_LAST_CAUSE (n : Nat) : Fld := ⟨Reg.CHN_ALARM_LAST n, 7, 0⟩

/-! CHN0 page registers. -/
abbrev Reg.CHN0_SWEEP_CTL : Nat := 0x40008060
abbrev Fld.CHN0_SWEEP_CTL_COLLECT_DELAY : Fld := ⟨Reg.CHN0_SWEEP_CTL, 23, 16⟩
abbrev Fld.CHN0_SWEEP_CTL_REJOIN : Fld := ⟨Reg.CHN0_SWEEP_CTL, 1, 1⟩
abbrev Fld.CHN0_SWEEP_CTL_AUTO_REJOIN : Fld := ⟨Reg.CHN0_SWEEP_CTL, 0, 0⟩
abbrev Reg.CHN0_SWEEP_STATUS : Nat := 0x40008064
abbrev Fld.CHN0_SWEEP_STATUS_NUM : Fld := ⟨Reg.CHN0_SWEEP_STATUS, 31, 16⟩
abbrev Fld.CHN0_SWEEP_STATUS_LATE : Fld := ⟨Reg.CHN0_SWEEP_STATUS, 15, 8⟩
abbrev Fld.CHN0_SWEEP_STATUS_KIND : Fld := ⟨Reg.CHN0_SWEEP_STATUS, 3, 0⟩
abbrev Fld.CHN0_SWEEP_STATUS_SPLIT : Fld := ⟨Reg.CHN0_SWEEP_STATUS, 7, 7⟩
abbrev Fld.CHN0_SWEEP_STATUS_PARTIAL : Fld := ⟨Reg.CHN0_SWEEP_STATUS, 6, 6⟩
abbrev Reg.CHN0_RING : Nat := 0x40008070
abbrev Fld.CHN0_RING_BREAK_HI : Fld := ⟨Reg.CHN0_RING, 23, 16⟩
abbrev Fld.CHN0_RING_BREAK_LO : Fld := ⟨Reg.CHN0_RING, 15, 8⟩
abbrev Fld.CHN0_RING_MODE : Fld := ⟨Reg.CHN0_RING, 2, 0⟩
abbrev Reg.CHN0_DLY_CTL : Nat := 0x40008074
abbrev Fld.CHN0_DLY_CTL_PERIOD_S : Fld := ⟨Reg.CHN0_DLY_CTL, 15, 0⟩
abbrev Fld.CHN0_DLY_CTL_NOW : Fld := ⟨Reg.CHN0_DLY_CTL, 31, 31⟩
abbrev Reg.CHN0_SCHED : Nat := 0x40008078
abbrev Fld.CHN0_SCHED_PERIOD_US : Fld := ⟨Reg.CHN0_SCHED, 31, 8⟩
abbrev Fld.CHN0_SCHED_SCHED : Fld := ⟨Reg.CHN0_SCHED, 7, 0⟩

/-! CHNx page registers. -/
abbrev Reg.CHN_FRAMES_TX (n : Nat) : Nat := 0x40008048 + n * 0x1000
abbrev Reg.CHN_FRAMES_RX (n : Nat) : Nat := 0x4000804C + n * 0x1000
abbrev Reg.CHN_CRC32_ERR (n : Nat) : Nat := 0x40008050 + n * 0x1000
abbrev Reg.CHN_SLOT_ERR (n : Nat) : Nat := 0x40008054 + n * 0x1000
abbrev Reg.CHN_CODE_ERR (n : Nat) : Nat := 0x40008058 + n * 0x1000
abbrev Reg.CHN_SWEEP_TIME (n : Nat) : Nat := 0x40008068 + n * 0x1000
abbrev Reg.CHN_SWEEP_SEQ (n : Nat) : Nat := 0x4000806C + n * 0x1000

/-! NODE page registers. -/
abbrev Reg.NODE_COUNT : Nat := 0x4000A040
abbrev Fld.NODE_COUNT_EXPECTED : Fld := ⟨Reg.NODE_COUNT, 15, 8⟩
abbrev Fld.NODE_COUNT_FOUND : Fld := ⟨Reg.NODE_COUNT, 7, 0⟩
abbrev Reg.NODE_ENUM_CTL : Nat := 0x4000A044
abbrev Fld.NODE_ENUM_CTL_REJOIN_POS : Fld := ⟨Reg.NODE_ENUM_CTL, 7, 0⟩
abbrev Fld.NODE_ENUM_CTL_START : Fld := ⟨Reg.NODE_ENUM_CTL, 8, 8⟩
abbrev Reg.NODE_ENUM_STATUS : Nat := 0x4000A048
abbrev Fld.NODE_ENUM_STATUS_FIRST_BAD : Fld := ⟨Reg.NODE_ENUM_STATUS, 15, 8⟩
abbrev Fld.NODE_ENUM_STATUS_RESULT : Fld := ⟨Reg.NODE_ENUM_STATUS, 7, 0⟩
abbrev Fld.NODE_ENUM_STATUS_BUSY : Fld := ⟨Reg.NODE_ENUM_STATUS, 16, 16⟩
abbrev Reg.NODE_SEL_WAIT : Nat := 0x4000A060
abbrev Fld.NODE_SEL_WAIT_WAIT_DESC : Fld := ⟨Reg.NODE_SEL_WAIT, 31, 16⟩
abbrev Fld.NODE_SEL_WAIT_WAIT_ASC : Fld := ⟨Reg.NODE_SEL_WAIT, 15, 0⟩
abbrev Reg.NODE_SEL_STATE : Nat := 0x4000A064
abbrev Fld.NODE_SEL_STATE_SLOT_ERR : Fld := ⟨Reg.NODE_SEL_STATE, 31, 16⟩
abbrev Fld.NODE_SEL_STATE_ALARM : Fld := ⟨Reg.NODE_SEL_STATE, 15, 8⟩
abbrev Fld.NODE_SEL_STATE_STATE : Fld := ⟨Reg.NODE_SEL_STATE, 2, 0⟩
abbrev Fld.NODE_SEL_STATE_LATE : Fld := ⟨Reg.NODE_SEL_STATE, 4, 4⟩
abbrev Fld.NODE_SEL_STATE_SEGMENT : Fld := ⟨Reg.NODE_SEL_STATE, 3, 3⟩
abbrev Reg.NODE_SEL_FW : Nat := 0x4000A06C
abbrev Fld.NODE_SEL_FW_FW_VER : Fld := ⟨Reg.NODE_SEL_FW, 31, 16⟩
abbrev Fld.NODE_SEL_FW_TYPE : Fld := ⟨Reg.NODE_SEL_FW, 15, 8⟩
abbrev Reg.NODE_SEL_CAPS : Nat := 0x4000A070
abbrev Fld.NODE_SEL_CAPS_CELLS : Fld := ⟨Reg.NODE_SEL_CAPS, 15, 8⟩
abbrev Fld.NODE_SEL_CAPS_TEMPS : Fld := ⟨Reg.NODE_SEL_CAPS, 7, 0⟩
abbrev Reg.NODE_NREG_CMD : Nat := 0x4000A08C
abbrev Fld.NODE_NREG_CMD_ADDR : Fld := ⟨Reg.NODE_NREG_CMD, 15, 0⟩
abbrev Fld.NODE_NREG_CMD_POS : Fld := ⟨Reg.NODE_NREG_CMD, 31, 24⟩
abbrev Fld.NODE_NREG_CMD_OP : Fld := ⟨Reg.NODE_NREG_CMD, 19, 16⟩
abbrev Reg.NODE_NREG_STATUS : Nat := 0x4000A094
abbrev Fld.NODE_NREG_STATUS_RESULT : Fld := ⟨Reg.NODE_NREG_STATUS, 7, 0⟩
abbrev Fld.NODE_NREG_STATUS_BUSY : Fld := ⟨Reg.NODE_NREG_STATUS, 8, 8⟩
abbrev Reg.NODE_SEL : Nat := 0x4000A04C
abbrev Reg.NODE_SEL_UID_LO : Nat := 0x4000A050
abbrev Reg.NODE_SEL_UID_HI : Nat := 0x4000A054
abbrev Reg.NODE_SEL_DLY_FWD : Nat := 0x4000A058
abbrev Reg.NODE_SEL_DLY_REV : Nat := 0x4000A05C
abbrev Reg.NODE_SEL_OFFSET : Nat := 0x4000A068
abbrev Reg.NODE_UNHEARD_LO : Nat := 0x4000A074
abbrev Reg.NODE_UNHEARD_HI : Nat := 0x4000A078
abbrev Reg.NODE_LATE_LO : Nat := 0x4000A07C
abbrev Reg.NODE_LATE_HI : Nat := 0x4000A080
abbrev Reg.NODE_UNREACH_LO : Nat := 0x4000A084
abbrev Reg.NODE_UNREACH_HI : Nat := 0x4000A088
abbrev Reg.NODE_NREG_DATA : Nat := 0x4000A090
abbrev Reg.NODE_DLY_TOL : Nat := 0x4000A098

/-! BAL page registers. -/
abbrev Reg.BAL_CTL : Nat := 0x40016040
abbrev Fld.BAL_CTL_OWT_NOW : Fld := ⟨Reg.BAL_CTL, 1, 1⟩
abbrev Fld.BAL_CTL_ENABLE : Fld := ⟨Reg.BAL_CTL, 0, 0⟩
abbrev Reg.BAL_PLAN_STAGE : Nat := 0x40016048
abbrev Fld.BAL_PLAN_STAGE_DUTY : Fld := ⟨Reg.BAL_PLAN_STAGE, 31, 24⟩
abbrev Fld.BAL_PLAN_STAGE_MASK : Fld := ⟨Reg.BAL_PLAN_STAGE, 15, 0⟩
abbrev Reg.BAL_PLAN_COMMIT : Nat := 0x4001604C
abbrev Fld.BAL_PLAN_COMMIT_CLEAR : Fld := ⟨Reg.BAL_PLAN_COMMIT, 1, 1⟩
abbrev Fld.BAL_PLAN_COMMIT_COMMIT : Fld := ⟨Reg.BAL_PLAN_COMMIT, 0, 0⟩
abbrev Reg.BAL_SEL_APPLIED : Nat := 0x40016050
abbrev Fld.BAL_SEL_APPLIED_ON_TIME : Fld := ⟨Reg.BAL_SEL_APPLIED, 31, 16⟩
abbrev Fld.BAL_SEL_APPLIED_MASK : Fld := ⟨Reg.BAL_SEL_APPLIED, 15, 0⟩
abbrev Reg.BAL_SEL_INTEG : Nat := 0x40016054
abbrev Fld.BAL_SEL_INTEG_SUSPECT : Fld := ⟨Reg.BAL_SEL_INTEG, 31, 16⟩
abbrev Fld.BAL_SEL_INTEG_PROOF_FAULT : Fld := ⟨Reg.BAL_SEL_INTEG, 7, 7⟩
abbrev Fld.BAL_SEL_INTEG_BLEED_STUCK : Fld := ⟨Reg.BAL_SEL_INTEG, 6, 6⟩
abbrev Fld.BAL_SEL_INTEG_HOT : Fld := ⟨Reg.BAL_SEL_INTEG, 5, 5⟩
abbrev Fld.BAL_SEL_INTEG_COMP_CFG_BAD : Fld := ⟨Reg.BAL_SEL_INTEG, 4, 4⟩
abbrev Fld.BAL_SEL_INTEG_MISMATCH : Fld := ⟨Reg.BAL_SEL_INTEG, 3, 3⟩
abbrev Reg.BAL_SEL_OW : Nat := 0x40016058
abbrev Fld.BAL_SEL_OW_PT : Fld := ⟨Reg.BAL_SEL_OW, 18, 18⟩
abbrev Fld.BAL_SEL_OW_PB : Fld := ⟨Reg.BAL_SEL_OW, 17, 17⟩
abbrev Fld.BAL_SEL_OW_WIRES : Fld := ⟨Reg.BAL_SEL_OW, 16, 0⟩
abbrev Reg.BAL_OWT_STATUS : Nat := 0x40016060
abbrev Fld.BAL_OWT_STATUS_RUNS : Fld := ⟨Reg.BAL_OWT_STATUS, 31, 16⟩
abbrev Fld.BAL_OWT_STATUS_FIRST_FAIL : Fld := ⟨Reg.BAL_OWT_STATUS, 15, 8⟩
abbrev Fld.BAL_OWT_STATUS_RESULT : Fld := ⟨Reg.BAL_OWT_STATUS, 7, 0⟩
abbrev Reg.BAL_FLOOP : Nat := 0x40016064
abbrev Fld.BAL_FLOOP_LOSSES : Fld := ⟨Reg.BAL_FLOOP, 31, 16⟩
abbrev Fld.BAL_FLOOP_AMPLITUDE : Fld := ⟨Reg.BAL_FLOOP, 15, 4⟩
abbrev Fld.BAL_FLOOP_SOURCING : Fld := ⟨Reg.BAL_FLOOP, 1, 1⟩
abbrev Fld.BAL_FLOOP_PRESENT : Fld := ⟨Reg.BAL_FLOOP, 0, 0⟩
abbrev Reg.BAL_CEIL : Nat := 0x40016068
abbrev Fld.BAL_CEIL_PERIOD_US : Fld := ⟨Reg.BAL_CEIL, 31, 8⟩
abbrev Fld.BAL_CEIL_CEIL_PCT : Fld := ⟨Reg.BAL_CEIL, 7, 0⟩
abbrev Reg.BAL_PROOF_TOL : Nat := 0x4001606C
abbrev Fld.BAL_PROOF_TOL_PT_REL : Fld := ⟨Reg.BAL_PROOF_TOL, 31, 16⟩
abbrev Fld.BAL_PROOF_TOL_PT_ABS : Fld := ⟨Reg.BAL_PROOF_TOL, 15, 0⟩
abbrev Reg.BAL_SIG_CFG : Nat := 0x40016070
abbrev Fld.BAL_SIG_CFG_SPLIT_BOUND : Fld := ⟨Reg.BAL_SIG_CFG, 31, 16⟩
abbrev Fld.BAL_SIG_CFG_SIG_STEP : Fld := ⟨Reg.BAL_SIG_CFG, 15, 0⟩
abbrev Reg.BAL_SEL : Nat := 0x40016044
abbrev Reg.BAL_SEL_PROOF_DIFF : Nat := 0x4001605C
abbrev Reg.BAL_NODE_TEMP_LIM : Nat := 0x40016074
abbrev Reg.BAL_SUSPECT_LO : Nat := 0x40016078
abbrev Reg.BAL_SUSPECT_HI : Nat := 0x4001607C
abbrev Reg.BAL_STUCK_LO : Nat := 0x40016080
abbrev Reg.BAL_STUCK_HI : Nat := 0x40016084
abbrev Reg.BAL_SUSPECT_CLR : Nat := 0x40016088

/-! MEAS page registers. -/
abbrev Reg.MEAS_CH_FLAGS : Nat := 0x4000B060
abbrev Fld.MEAS_CH_FLAGS_OVERRANGE : Fld := ⟨Reg.MEAS_CH_FLAGS, 15, 8⟩
abbrev Fld.MEAS_CH_FLAGS_INVALID : Fld := ⟨Reg.MEAS_CH_FLAGS, 7, 0⟩
abbrev Fld.MEAS_CH_FLAGS_OFFSET_HIGH : Fld := ⟨Reg.MEAS_CH_FLAGS, 18, 16⟩
abbrev Reg.MEAS_OFS_AB : Nat := 0x4000B064
abbrev Fld.MEAS_OFS_AB_OFS_B : Fld := ⟨Reg.MEAS_OFS_AB, 31, 16⟩
abbrev Fld.MEAS_OFS_AB_OFS_A : Fld := ⟨Reg.MEAS_OFS_AB, 15, 0⟩
abbrev Reg.MEAS_IMD_CTL : Nat := 0x4000B06C
abbrev Fld.MEAS_IMD_CTL_CLOSED_MODE : Fld := ⟨Reg.MEAS_IMD_CTL, 3, 2⟩
abbrev Fld.MEAS_IMD_CTL_START : Fld := ⟨Reg.MEAS_IMD_CTL, 1, 1⟩
abbrev Fld.MEAS_IMD_CTL_ENABLE : Fld := ⟨Reg.MEAS_IMD_CTL, 0, 0⟩
abbrev Reg.MEAS_IMD_RESULT : Nat := 0x4000B070
abbrev Fld.MEAS_IMD_RESULT_RISO_KOHM : Fld := ⟨Reg.MEAS_IMD_RESULT, 31, 8⟩
abbrev Fld.MEAS_IMD_RESULT_STATE : Fld := ⟨Reg.MEAS_IMD_RESULT, 3, 0⟩
abbrev Reg.MEAS_IMD_DETAIL : Nat := 0x4000B074
abbrev Fld.MEAS_IMD_DETAIL_CAP_NF : Fld := ⟨Reg.MEAS_IMD_DETAIL, 31, 16⟩
abbrev Fld.MEAS_IMD_DETAIL_LOCATION : Fld := ⟨Reg.MEAS_IMD_DETAIL, 7, 0⟩
abbrev Reg.MEAS_IMD_LEVELS : Nat := 0x4000B078
abbrev Fld.MEAS_IMD_LEVELS_WARN_KOHM : Fld := ⟨Reg.MEAS_IMD_LEVELS, 31, 16⟩
abbrev Fld.MEAS_IMD_LEVELS_ALARM_KOHM : Fld := ⟨Reg.MEAS_IMD_LEVELS, 15, 0⟩
abbrev Reg.MEAS_CUR_A : Nat := 0x4000B040
abbrev Reg.MEAS_CUR_B : Nat := 0x4000B044
abbrev Reg.MEAS_CUR_C : Nat := 0x4000B048
abbrev Reg.MEAS_VSTR_A : Nat := 0x4000B04C
abbrev Reg.MEAS_VSTR_B : Nat := 0x4000B050
abbrev Reg.MEAS_VSTR_C : Nat := 0x4000B054
abbrev Reg.MEAS_V_LINK : Nat := 0x4000B058
abbrev Reg.MEAS_V_PRE : Nat := 0x4000B05C
abbrev Reg.MEAS_OFS_C : Nat := 0x4000B068
abbrev Reg.MEAS_CHG_ACC_LO : Nat := 0x4000B07C
abbrev Reg.MEAS_CHG_ACC_HI : Nat := 0x4000B080
abbrev Reg.MEAS_CHG_IN_LO : Nat := 0x4000B084
abbrev Reg.MEAS_CHG_IN_HI : Nat := 0x4000B088
abbrev Reg.MEAS_CHG_OUT_LO : Nat := 0x4000B08C
abbrev Reg.MEAS_CHG_OUT_HI : Nat := 0x4000B090
abbrev Reg.MEAS_CHG_GAP : Nat := 0x4000B094
abbrev Reg.MEAS_CHG_CLR : Nat := 0x4000B098
abbrev Reg.MEAS_IMD_AGE : Nat := 0x4000B09C

/-! VOTE page registers. -/
abbrev Reg.VOTE_CH_STATE : Nat := 0x4000C060
abbrev Fld.VOTE_CH_STATE_VSTR_C : Fld := ⟨Reg.VOTE_CH_STATE, 13, 12⟩
abbrev Fld.VOTE_CH_STATE_VSTR_B : Fld := ⟨Reg.VOTE_CH_STATE, 11, 10⟩
abbrev Fld.VOTE_CH_STATE_VSTR_A : Fld := ⟨Reg.VOTE_CH_STATE, 9, 8⟩
abbrev Fld.VOTE_CH_STATE_CUR_C : Fld := ⟨Reg.VOTE_CH_STATE, 7, 6⟩
abbrev Fld.VOTE_CH_STATE_CUR_B : Fld := ⟨Reg.VOTE_CH_STATE, 5, 4⟩
abbrev Fld.VOTE_CH_STATE_CUR_A : Fld := ⟨Reg.VOTE_CH_STATE, 3, 2⟩
abbrev Fld.VOTE_CH_STATE_V_SUBST : Fld := ⟨Reg.VOTE_CH_STATE, 14, 14⟩
abbrev Fld.VOTE_CH_STATE_V_VALID : Fld := ⟨Reg.VOTE_CH_STATE, 1, 1⟩
abbrev Fld.VOTE_CH_STATE_CUR_VALID : Fld := ⟨Reg.VOTE_CH_STATE, 0, 0⟩
abbrev Reg.VOTE_CUR_THR : Nat := 0x4000C064
abbrev Fld.VOTE_CUR_THR_REL : Fld := ⟨Reg.VOTE_CUR_THR, 31, 16⟩
abbrev Fld.VOTE_CUR_THR_ABS : Fld := ⟨Reg.VOTE_CUR_THR, 15, 0⟩
abbrev Reg.VOTE_V_THR : Nat := 0x4000C068
abbrev Fld.VOTE_V_THR_REL : Fld := ⟨Reg.VOTE_V_THR, 31, 16⟩
abbrev Fld.VOTE_V_THR_ABS : Fld := ⟨Reg.VOTE_V_THR, 15, 0⟩
abbrev Reg.VOTE_CNT_CUR : Nat := 0x4000C06C
abbrev Fld.VOTE_CNT_CUR_C : Fld := ⟨Reg.VOTE_CNT_CUR, 29, 20⟩
abbrev Fld.VOTE_CNT_CUR_B : Fld := ⟨Reg.VOTE_CNT_CUR, 19, 10⟩
abbrev Fld.VOTE_CNT_CUR_A : Fld := ⟨Reg.VOTE_CNT_CUR, 9, 0⟩
abbrev Reg.VOTE_CNT_V : Nat := 0x4000C070
abbrev Fld.VOTE_CNT_V_C : Fld := ⟨Reg.VOTE_CNT_V, 29, 20⟩
abbrev Fld.VOTE_CNT_V_B : Fld := ⟨Reg.VOTE_CNT_V, 19, 10⟩
abbrev Fld.VOTE_CNT_V_A : Fld := ⟨Reg.VOTE_CNT_V, 9, 0⟩
abbrev Reg.VOTE_READMIT : Nat := 0x4000C074
abbrev Fld.VOTE_READMIT_AGREE_S : Fld := ⟨Reg.VOTE_READMIT, 15, 0⟩
abbrev Fld.VOTE_READMIT_ENABLE : Fld := ⟨Reg.VOTE_READMIT, 16, 16⟩
abbrev Reg.VOTE_EXCL_COUNT : Nat := 0x4000C078
abbrev Fld.VOTE_EXCL_COUNT_VSTR_C : Fld := ⟨Reg.VOTE_EXCL_COUNT, 29, 25⟩
abbrev Fld.VOTE_EXCL_COUNT_VSTR_B : Fld := ⟨Reg.VOTE_EXCL_COUNT, 24, 20⟩
abbrev Fld.VOTE_EXCL_COUNT_VSTR_A : Fld := ⟨Reg.VOTE_EXCL_COUNT, 19, 15⟩
abbrev Fld.VOTE_EXCL_COUNT_CUR_C : Fld := ⟨Reg.VOTE_EXCL_COUNT, 14, 10⟩
abbrev Fld.VOTE_EXCL_COUNT_CUR_B : Fld := ⟨Reg.VOTE_EXCL_COUNT, 9, 5⟩
abbrev Fld.VOTE_EXCL_COUNT_CUR_A : Fld := ⟨Reg.VOTE_EXCL_COUNT, 4, 0⟩
abbrev Reg.VOTE_SUM_CFG : Nat := 0x4000C080
abbrev Fld.VOTE_SUM_CFG_SUM_TOL : Fld := ⟨Reg.VOTE_SUM_CFG, 31, 16⟩
abbrev Fld.VOTE_SUM_CFG_R_STR : Fld := ⟨Reg.VOTE_SUM_CFG, 15, 0⟩
abbrev Reg.VOTE_CUR_VOTED : Nat := 0x4000C040
abbrev Reg.VOTE_CUR_HIGH : Nat := 0x4000C044
abbrev Reg.VOTE_CUR_LOW : Nat := 0x4000C048
abbrev Reg.VOTE_V_VOTED : Nat := 0x4000C04C
abbrev Reg.VOTE_V_HIGH : Nat := 0x4000C050
abbrev Reg.VOTE_V_LOW : Nat := 0x4000C054
abbrev Reg.VOTE_SAMPLE_SEQ : Nat := 0x4000C058
abbrev Reg.VOTE_SAMPLE_TIME : Nat := 0x4000C05C
abbrev Reg.VOTE_CHAIN_SUM : Nat := 0x4000C07C
abbrev Reg.VOTE_DELAY_C : Nat := 0x4000C084

/-! EST page registers. -/
abbrev Reg.EST_CTL : Nat := 0x40013040
abbrev Fld.EST_CTL_LEARN_EN : Fld := ⟨Reg.EST_CTL, 3, 3⟩
abbrev Fld.EST_CTL_ANCHOR_CANCEL : Fld := ⟨Reg.EST_CTL, 2, 2⟩
abbrev Fld.EST_CTL_ANCHOR_REQ : Fld := ⟨Reg.EST_CTL, 1, 1⟩
abbrev Fld.EST_CTL_ASSAY_TEMP : Fld := ⟨Reg.EST_CTL, 0, 0⟩
abbrev Reg.EST_STATE : Nat := 0x40013044
abbrev Fld.EST_STATE_RATE : Fld := ⟨Reg.EST_STATE, 23, 16⟩
abbrev Fld.EST_STATE_SOC_STATE : Fld := ⟨Reg.EST_STATE, 15, 12⟩
abbrev Fld.EST_STATE_ANCHOR : Fld := ⟨Reg.EST_STATE, 11, 8⟩
abbrev Fld.EST_STATE_LEARN : Fld := ⟨Reg.EST_STATE, 7, 4⟩
abbrev Fld.EST_STATE_MIRRORED : Fld := ⟨Reg.EST_STATE, 3, 3⟩
abbrev Fld.EST_STATE_SUSPENDED : Fld := ⟨Reg.EST_STATE, 2, 2⟩
abbrev Fld.EST_STATE_CAP_SUSPECT : Fld := ⟨Reg.EST_STATE, 1, 1⟩
abbrev Fld.EST_STATE_RUNNING : Fld := ⟨Reg.EST_STATE, 0, 0⟩
abbrev Reg.EST_STRING_SOC : Nat := 0x40013048
abbrev Fld.EST_STRING_SOC_SOC_MODEL : Fld := ⟨Reg.EST_STRING_SOC, 31, 16⟩
abbrev Fld.EST_STRING_SOC_SOC : Fld := ⟨Reg.EST_STRING_SOC, 15, 0⟩
abbrev Reg.EST_EXTREMES : Nat := 0x40013054
abbrev Fld.EST_EXTREMES_LIMIT_CHG : Fld := ⟨Reg.EST_EXTREMES, 24, 16⟩
abbrev Fld.EST_EXTREMES_LIMIT_DIS : Fld := ⟨Reg.EST_EXTREMES, 8, 0⟩
abbrev Reg.EST_WARN_LEVELS : Nat := 0x40013058
abbrev Fld.EST_WARN_LEVELS_FULL_PCT : Fld := ⟨Reg.EST_WARN_LEVELS, 31, 16⟩
abbrev Fld.EST_WARN_LEVELS_EMPTY_PCT : Fld := ⟨Reg.EST_WARN_LEVELS, 15, 0⟩
abbrev Reg.EST_WARN : Nat := 0x4001305C
abbrev Fld.EST_WARN_SPREAD : Fld := ⟨Reg.EST_WARN, 8, 8⟩
abbrev Fld.EST_WARN_DIVERGE : Fld := ⟨Reg.EST_WARN, 7, 7⟩
abbrev Fld.EST_WARN_STALE : Fld := ⟨Reg.EST_WARN, 6, 6⟩
abbrev Fld.EST_WARN_CAP_DRIFT : Fld := ⟨Reg.EST_WARN, 5, 5⟩
abbrev Fld.EST_WARN_CAP_SUSPECT : Fld := ⟨Reg.EST_WARN, 4, 4⟩
abbrev Fld.EST_WARN_NO_ANCHOR : Fld := ⟨Reg.EST_WARN, 3, 3⟩
abbrev Fld.EST_WARN_CHARGE_VOLTAGE_DISAGREE : Fld := ⟨Reg.EST_WARN, 2, 2⟩
abbrev Fld.EST_WARN_HIGH_SOC : Fld := ⟨Reg.EST_WARN, 1, 1⟩
abbrev Fld.EST_WARN_LOW_SOC : Fld := ⟨Reg.EST_WARN, 0, 0⟩
abbrev Reg.EST_SOC_RULES : Nat := 0x40013060
abbrev Fld.EST_SOC_RULES_SLEW : Fld := ⟨Reg.EST_SOC_RULES, 31, 16⟩
abbrev Fld.EST_SOC_RULES_DEADBAND : Fld := ⟨Reg.EST_SOC_RULES, 15, 0⟩
abbrev Reg.EST_UPDATE_STAT : Nat := 0x4001306C
abbrev Fld.EST_UPDATE_STAT_SWEEP : Fld := ⟨Reg.EST_UPDATE_STAT, 31, 16⟩
abbrev Fld.EST_UPDATE_STAT_DURATION_US : Fld := ⟨Reg.EST_UPDATE_STAT, 15, 0⟩
abbrev Reg.EST_LEARN_STATUS : Nat := 0x40013074
abbrev Fld.EST_LEARN_STATUS_CYCLES : Fld := ⟨Reg.EST_LEARN_STATUS, 31, 16⟩
abbrev Fld.EST_LEARN_STATUS_LAST_RESULT : Fld := ⟨Reg.EST_LEARN_STATUS, 15, 8⟩
abbrev Fld.EST_LEARN_STATUS_PASSED : Fld := ⟨Reg.EST_LEARN_STATUS, 7, 0⟩
abbrev Reg.EST_LEARN_CFG : Nat := 0x40013078
abbrev Fld.EST_LEARN_CFG_GAIN : Fld := ⟨Reg.EST_LEARN_CFG, 31, 24⟩
abbrev Fld.EST_LEARN_CFG_MIN_SWING : Fld := ⟨Reg.EST_LEARN_CFG, 23, 16⟩
abbrev Fld.EST_LEARN_CFG_T_MAX : Fld := ⟨Reg.EST_LEARN_CFG, 15, 8⟩
abbrev Fld.EST_LEARN_CFG_T_MIN : Fld := ⟨Reg.EST_LEARN_CFG, 7, 0⟩
abbrev Reg.EST_COUNTS : Nat := 0x40013084
abbrev Fld.EST_COUNTS_GATED : Fld := ⟨Reg.EST_COUNTS, 31, 16⟩
abbrev Fld.EST_COUNTS_REINIT : Fld := ⟨Reg.EST_COUNTS, 15, 8⟩
abbrev Fld.EST_COUNTS_OVERRUN : Fld := ⟨Reg.EST_COUNTS, 7, 0⟩
abbrev Reg.EST_PSET_VLIM : Nat := 0x40013094
abbrev Fld.EST_PSET_VLIM_V_FULL : Fld := ⟨Reg.EST_PSET_VLIM, 31, 16⟩
abbrev Fld.EST_PSET_VLIM_V_EMPTY : Fld := ⟨Reg.EST_PSET_VLIM, 15, 0⟩
abbrev Reg.EST_DISCHARGEABLE : Nat := 0x4001304C
abbrev Reg.EST_CHARGEABLE : Nat := 0x40013050
abbrev Reg.EST_UPDATE_SEQ : Nat := 0x40013064
abbrev Reg.EST_UPDATE_TIME : Nat := 0x40013068
abbrev Reg.EST_ANCHOR_AGE : Nat := 0x40013070
abbrev Reg.EST_RESCALE_ERR : Nat := 0x4001307C
abbrev Reg.EST_GATE : Nat := 0x40013080
abbrev Reg.EST_PSET_SEL : Nat := 0x40013088
abbrev Reg.EST_PSET_ID : Nat := 0x4001308C
abbrev Reg.EST_PSET_QNOM : Nat := 0x40013090
abbrev Reg.EST_CAP_SEL : Nat := 0x40013098
abbrev Reg.EST_CAP_SET : Nat := 0x4001309C
abbrev Reg.EST_SPREAD_LIM : Nat := 0x400130A0
abbrev Reg.EST_SOC_SPREAD : Nat := 0x400130A4
abbrev Reg.EST_ANCHOR_RESULT : Nat := 0x400130A8

/-! CELL page registers. -/
abbrev Reg.CELL_VIEW : Nat := 0x40014040
abbrev Fld.CELL_VIEW_MODE : Fld := ⟨Reg.CELL_VIEW, 0, 0⟩
abbrev Reg.CELL_COUNT : Nat := 0x4001404C
abbrev Fld.CELL_COUNT_POPULATED : Fld := ⟨Reg.CELL_COUNT, 9, 0⟩
abbrev Reg.CELL_BANK_SEQ : Nat := 0x40014044
abbrev Reg.CELL_BANK_TIME : Nat := 0x40014048
abbrev Reg.CELL_HOLD_LIMIT : Nat := 0x40014050
abbrev Reg.CELL_HOLD_LEFT : Nat := 0x40014054

/-! ASY page registers. -/
abbrev Reg.ASY_RUN_CTL : Nat := 0x40015040
abbrev Fld.ASY_RUN_CTL_LOW_END : Fld := ⟨Reg.ASY_RUN_CTL, 21, 16⟩
abbrev Fld.ASY_RUN_CTL_ABORT : Fld := ⟨Reg.ASY_RUN_CTL, 9, 9⟩
abbrev Fld.ASY_RUN_CTL_START : Fld := ⟨Reg.ASY_RUN_CTL, 8, 8⟩
abbrev Fld.ASY_RUN_CTL_KIND : Fld := ⟨Reg.ASY_RUN_CTL, 1, 0⟩
abbrev Reg.ASY_RUN_STATUS : Nat := 0x40015044
abbrev Fld.ASY_RUN_STATUS_RUN_ID : Fld := ⟨Reg.ASY_RUN_STATUS, 31, 16⟩
abbrev Fld.ASY_RUN_STATUS_BIN : Fld := ⟨Reg.ASY_RUN_STATUS, 15, 8⟩
abbrev Fld.ASY_RUN_STATUS_STATE : Fld := ⟨Reg.ASY_RUN_STATUS, 3, 0⟩
abbrev Reg.ASY_AMPL : Nat := 0x4001504C
abbrev Fld.ASY_AMPL_CEIL : Fld := ⟨Reg.ASY_AMPL, 31, 16⟩
abbrev Fld.ASY_AMPL_AMPL : Fld := ⟨Reg.ASY_AMPL, 15, 0⟩
abbrev Reg.ASY_PERIODS : Nat := 0x40015060
abbrev Fld.ASY_PERIODS_HIGH_MEAS : Fld := ⟨Reg.ASY_PERIODS, 31, 24⟩
abbrev Fld.ASY_PERIODS_HIGH_SETTLE : Fld := ⟨Reg.ASY_PERIODS, 23, 16⟩
abbrev Fld.ASY_PERIODS_LOW_MEAS : Fld := ⟨Reg.ASY_PERIODS, 15, 8⟩
abbrev Fld.ASY_PERIODS_LOW_SETTLE : Fld := ⟨Reg.ASY_PERIODS, 7, 0⟩
abbrev Reg.ASY_SEL_BIN_I : Nat := 0x40015070
abbrev Fld.ASY_SEL_BIN_I_AMPL : Fld := ⟨Reg.ASY_SEL_BIN_I, 31, 16⟩
abbrev Fld.ASY_SEL_BIN_I_PHASE : Fld := ⟨Reg.ASY_SEL_BIN_I, 15, 0⟩
abbrev Reg.ASY_SEL_BIN_STATE : Nat := 0x40015074
abbrev Fld.ASY_SEL_BIN_STATE_VALID_CELLS : Fld := ⟨Reg.ASY_SEL_BIN_STATE, 31, 16⟩
abbrev Fld.ASY_SEL_BIN_STATE_TRIES : Fld := ⟨Reg.ASY_SEL_BIN_STATE, 15, 8⟩
abbrev Fld.ASY_SEL_BIN_STATE_STATE : Fld := ⟨Reg.ASY_SEL_BIN_STATE, 7, 0⟩
abbrev Reg.ASY_SEL_METRIC_FLAGS : Nat := 0x4001508C
abbrev Fld.ASY_SEL_METRIC_FLAGS_CORE_DISAGREE : Fld := ⟨Reg.ASY_SEL_METRIC_FLAGS, 7, 7⟩
abbrev Fld.ASY_SEL_METRIC_FLAGS_TCAL_OUTLIER : Fld := ⟨Reg.ASY_SEL_METRIC_FLAGS, 6, 6⟩
abbrev Fld.ASY_SEL_METRIC_FLAGS_SUSPECT : Fld := ⟨Reg.ASY_SEL_METRIC_FLAGS, 5, 5⟩
abbrev Fld.ASY_SEL_METRIC_FLAGS_FEW_BINS : Fld := ⟨Reg.ASY_SEL_METRIC_FLAGS, 4, 4⟩
abbrev Fld.ASY_SEL_METRIC_FLAGS_OUTLIER : Fld := ⟨Reg.ASY_SEL_METRIC_FLAGS, 3, 3⟩
abbrev Fld.ASY_SEL_METRIC_FLAGS_OPEN_ARC : Fld := ⟨Reg.ASY_SEL_METRIC_FLAGS, 2, 2⟩
abbrev Fld.ASY_SEL_METRIC_FLAGS_NO_PEAK : Fld := ⟨Reg.ASY_SEL_METRIC_FLAGS, 1, 1⟩
abbrev Fld.ASY_SEL_METRIC_FLAGS_NO_CROSSING : Fld := ⟨Reg.ASY_SEL_METRIC_FLAGS, 0, 0⟩
abbrev Reg.ASY_TEMP_CTL : Nat := 0x40015094
abbrev Fld.ASY_TEMP_CTL_DISAGREE : Fld := ⟨Reg.ASY_TEMP_CTL, 15, 8⟩
abbrev Fld.ASY_TEMP_CTL_TCAL_EN : Fld := ⟨Reg.ASY_TEMP_CTL, 1, 1⟩
abbrev Fld.ASY_TEMP_CTL_TEMP_EN : Fld := ⟨Reg.ASY_TEMP_CTL, 0, 0⟩
abbrev Reg.ASY_ABORT_CAUSE : Nat := 0x40015048
abbrev Reg.ASY_CUSTOM_LO : Nat := 0x40015050
abbrev Reg.ASY_CUSTOM_HI : Nat := 0x40015054
abbrev Reg.ASY_BIN_EN_LO : Nat := 0x40015058
abbrev Reg.ASY_BIN_EN_HI : Nat := 0x4001505C
abbrev Reg.ASY_DRIFT_LIM : Nat := 0x40015064
abbrev Reg.ASY_BIN_SEL : Nat := 0x40015068
abbrev Reg.ASY_SEL_FREQ : Nat := 0x4001506C
abbrev Reg.ASY_CELL_SEL : Nat := 0x40015078
abbrev Reg.ASY_SEL_R_HF : Nat := 0x4001507C
abbrev Reg.ASY_SEL_R_ARC : Nat := 0x40015080
abbrev Reg.ASY_SEL_F_PEAK : Nat := 0x40015084
abbrev Reg.ASY_SEL_R_LF : Nat := 0x40015088
abbrev Reg.ASY_SEL_TCAL_OFS : Nat := 0x40015090
abbrev Reg.ASY_OUTLIER_PCT : Nat := 0x40015098
abbrev Reg.ASY_OUTLIER_COUNT : Nat := 0x4001509C
abbrev Reg.ASY_RUN_TIME : Nat := 0x400150A0
abbrev Reg.ASY_RUN_SEQ : Nat := 0x400150A4
abbrev Reg.ASY_TCAL_CLR : Nat := 0x400150A8

/-! LOOP page registers. -/
abbrev Reg.LOOP_SEL_CFG : Nat := 0x40010044
abbrev Fld.LOOP_SEL_CFG_DIV : Fld := ⟨Reg.LOOP_SEL_CFG, 21, 8⟩
abbrev Fld.LOOP_SEL_CFG_FB_SRC : Fld := ⟨Reg.LOOP_SEL_CFG, 29, 24⟩
abbrev Fld.LOOP_SEL_CFG_KIND : Fld := ⟨Reg.LOOP_SEL_CFG, 3, 0⟩
abbrev Fld.LOOP_SEL_CFG_ORDER : Fld := ⟨Reg.LOOP_SEL_CFG, 4, 4⟩
abbrev Reg.LOOP_SEL_ROUTE : Nat := 0x40010048
abbrev Fld.LOOP_SEL_ROUTE_OUT_DST : Fld := ⟨Reg.LOOP_SEL_ROUTE, 11, 8⟩
abbrev Fld.LOOP_SEL_ROUTE_REF_SRC : Fld := ⟨Reg.LOOP_SEL_ROUTE, 3, 0⟩
abbrev Reg.LOOP_SEL_FMT : Nat := 0x4001004C
abbrev Fld.LOOP_SEL_FMT_E_IN : Fld := ⟨Reg.LOOP_SEL_FMT, 13, 8⟩
abbrev Fld.LOOP_SEL_FMT_E_OUT : Fld := ⟨Reg.LOOP_SEL_FMT, 5, 0⟩
abbrev Reg.LOOP_SEL_CTL : Nat := 0x40010050
abbrev Fld.LOOP_SEL_CTL_RESUME : Fld := ⟨Reg.LOOP_SEL_CTL, 9, 9⟩
abbrev Fld.LOOP_SEL_CTL_SWAP : Fld := ⟨Reg.LOOP_SEL_CTL, 8, 8⟩
abbrev Fld.LOOP_SEL_CTL_MODE : Fld := ⟨Reg.LOOP_SEL_CTL, 0, 0⟩
abbrev Reg.LOOP_SEL_STATUS : Nat := 0x40010054
abbrev Fld.LOOP_SEL_STATUS_STATE : Fld := ⟨Reg.LOOP_SEL_STATUS, 2, 0⟩
abbrev Fld.LOOP_SEL_STATUS_BINDING : Fld := ⟨Reg.LOOP_SEL_STATUS, 11, 11⟩
abbrev Fld.LOOP_SEL_STATUS_FB_FROZEN : Fld := ⟨Reg.LOOP_SEL_STATUS, 10, 10⟩
abbrev Fld.LOOP_SEL_STATUS_FB_STALE : Fld := ⟨Reg.LOOP_SEL_STATUS, 9, 9⟩
abbrev Fld.LOOP_SEL_STATUS_ACC_SAT : Fld := ⟨Reg.LOOP_SEL_STATUS, 8, 8⟩
abbrev Fld.LOOP_SEL_STATUS_SAT_HI : Fld := ⟨Reg.LOOP_SEL_STATUS, 7, 7⟩
abbrev Fld.LOOP_SEL_STATUS_SAT : Fld := ⟨Reg.LOOP_SEL_STATUS, 6, 6⟩
abbrev Fld.LOOP_SEL_STATUS_SWAP_PEND : Fld := ⟨Reg.LOOP_SEL_STATUS, 5, 5⟩
abbrev Fld.LOOP_SEL_STATUS_BANK : Fld := ⟨Reg.LOOP_SEL_STATUS, 4, 4⟩
abbrev Reg.LOOP_SH_EXP : Nat := 0x40010074
abbrev Fld.LOOP_SH_EXP_E_B : Fld := ⟨Reg.LOOP_SH_EXP, 13, 8⟩
abbrev Fld.LOOP_SH_EXP_E_A : Fld := ⟨Reg.LOOP_SH_EXP, 5, 0⟩
abbrev Reg.LOOP_SLOT_MAP : Nat := 0x400100A8
abbrev Fld.LOOP_SLOT_MAP_LOST : Fld := ⟨Reg.LOOP_SLOT_MAP, 23, 16⟩
abbrev Fld.LOOP_SLOT_MAP_SAT : Fld := ⟨Reg.LOOP_SLOT_MAP, 15, 8⟩
abbrev Fld.LOOP_SLOT_MAP_RUN : Fld := ⟨Reg.LOOP_SLOT_MAP, 7, 0⟩
abbrev Reg.LOOP_CFG_ERR : Nat := 0x400100B0
abbrev Fld.LOOP_CFG_ERR_SLOT : Fld := ⟨Reg.LOOP_CFG_ERR, 10, 8⟩
abbrev Fld.LOOP_CFG_ERR_CODE : Fld := ⟨Reg.LOOP_CFG_ERR, 7, 0⟩
abbrev Reg.LOOP_SEL : Nat := 0x40010040
abbrev Reg.LOOP_SH_B0 : Nat := 0x40010058
abbrev Reg.LOOP_SH_B1 : Nat := 0x4001005C
abbrev Reg.LOOP_SH_B2 : Nat := 0x40010060
abbrev Reg.LOOP_SH_B3 : Nat := 0x40010064
abbrev Reg.LOOP_SH_A1 : Nat := 0x40010068
abbrev Reg.LOOP_SH_A2 : Nat := 0x4001006C
abbrev Reg.LOOP_SH_A3 : Nat := 0x40010070
abbrev Reg.LOOP_SH_OUT_MAX : Nat := 0x40010078
abbrev Reg.LOOP_SH_OUT_MIN : Nat := 0x4001007C
abbrev Reg.LOOP_SETPOINT : Nat := 0x40010080
abbrev Reg.LOOP_SETPOINT2 : Nat := 0x40010084
abbrev Reg.LOOP_MAN_OUT : Nat := 0x40010088
abbrev Reg.LOOP_FALLBACK : Nat := 0x4001008C
abbrev Reg.LOOP_FRZ_THR : Nat := 0x40010090
abbrev Reg.LOOP_SEL_FB : Nat := 0x40010094
abbrev Reg.LOOP_SEL_ERR : Nat := 0x40010098
abbrev Reg.LOOP_SEL_OUT : Nat := 0x4001009C
abbrev Reg.LOOP_SEL_S1 : Nat := 0x400100A0
abbrev Reg.LOOP_SEL_SAMPLES : Nat := 0x400100A4
abbrev Reg.LOOP_SWAP_MULTI : Nat := 0x400100AC

/-! PROF page registers. -/
abbrev Reg.PROF_STATE : Nat := 0x4001106C
abbrev Fld.PROF_STATE_SOURCE : Fld := ⟨Reg.PROF_STATE, 2, 0⟩
abbrev Fld.PROF_STATE_PENDING : Fld := ⟨Reg.PROF_STATE, 5, 5⟩
abbrev Fld.PROF_STATE_STOP_LIMITS : Fld := ⟨Reg.PROF_STATE, 4, 4⟩
abbrev Fld.PROF_STATE_MOVING : Fld := ⟨Reg.PROF_STATE, 3, 3⟩
abbrev Reg.PROF_TARGET : Nat := 0x40011040
abbrev Reg.PROF_TARGET_EFF : Nat := 0x40011044
abbrev Reg.PROF_RATE : Nat := 0x40011048
abbrev Reg.PROF_ACCEL : Nat := 0x4001104C
abbrev Reg.PROF_JERK : Nat := 0x40011050
abbrev Reg.PROF_STOP_RATE : Nat := 0x40011054
abbrev Reg.PROF_STOP_ACCEL : Nat := 0x40011058
abbrev Reg.PROF_STOP_JERK : Nat := 0x4001105C
abbrev Reg.PROF_REF : Nat := 0x40011060
abbrev Reg.PROF_REF_RATE : Nat := 0x40011064
abbrev Reg.PROF_REF_ACCEL : Nat := 0x40011068
abbrev Reg.PROF_AUTH_HI : Nat := 0x40011070
abbrev Reg.PROF_AUTH_LO : Nat := 0x40011074
abbrev Reg.PROF_PENDING_TARGET : Nat := 0x40011078
abbrev Reg.PROF_ARRIVE_SEQ : Nat := 0x4001107C

/-! THM page registers. -/
abbrev Reg.THM_TIN_CFG : Nat := 0x40017068
abbrev Fld.THM_TIN_CFG_TIN3 : Fld := ⟨Reg.THM_TIN_CFG, 7, 6⟩
abbrev Fld.THM_TIN_CFG_TIN2 : Fld := ⟨Reg.THM_TIN_CFG, 5, 4⟩
abbrev Fld.THM_TIN_CFG_TIN1 : Fld := ⟨Reg.THM_TIN_CFG, 3, 2⟩
abbrev Fld.THM_TIN_CFG_TIN0 : Fld := ⟨Reg.THM_TIN_CFG, 1, 0⟩
abbrev Reg.THM_DRIVER : Nat := 0x4001708C
abbrev Fld.THM_DRIVER_HEATER : Fld := ⟨Reg.THM_DRIVER, 19, 16⟩
abbrev Fld.THM_DRIVER_FAN_B : Fld := ⟨Reg.THM_DRIVER, 15, 12⟩
abbrev Fld.THM_DRIVER_FAN_A : Fld := ⟨Reg.THM_DRIVER, 11, 8⟩
abbrev Fld.THM_DRIVER_PUMP : Fld := ⟨Reg.THM_DRIVER, 7, 4⟩
abbrev Fld.THM_DRIVER_VALVE : Fld := ⟨Reg.THM_DRIVER, 3, 0⟩
abbrev Reg.THM_OUT_VALVE : Nat := 0x40017040
abbrev Reg.THM_OUT_PUMP : Nat := 0x40017044
abbrev Reg.THM_OUT_FAN_A : Nat := 0x40017048
abbrev Reg.THM_OUT_FAN_B : Nat := 0x4001704C
abbrev Reg.THM_OUT_HEATER : Nat := 0x40017050
abbrev Reg.THM_MAN_VALVE : Nat := 0x40017054
abbrev Reg.THM_MAN_PUMP : Nat := 0x40017058
abbrev Reg.THM_MAN_FAN_A : Nat := 0x4001705C
abbrev Reg.THM_MAN_FAN_B : Nat := 0x40017060
abbrev Reg.THM_MAN_HEATER : Nat := 0x40017064
abbrev Reg.THM_TIN0 : Nat := 0x4001706C
abbrev Reg.THM_TIN1 : Nat := 0x40017070
abbrev Reg.THM_TIN2 : Nat := 0x40017074
abbrev Reg.THM_TIN3 : Nat := 0x40017078
abbrev Reg.THM_TACH_A : Nat := 0x4001707C
abbrev Reg.THM_TACH_B : Nat := 0x40017080
abbrev Reg.THM_FLOW : Nat := 0x40017084
abbrev Reg.THM_HEAT_PERIOD : Nat := 0x40017088
abbrev Reg.THM_TACH_MIN : Nat := 0x40017090
abbrev Reg.THM_FLOW_MIN : Nat := 0x40017094

/-! DRV page registers. -/
abbrev Reg.DRV_PWM_CFG : Nat := 0x40012040
abbrev Fld.DRV_PWM_CFG_UPDATE : Fld := ⟨Reg.DRV_PWM_CFG, 2, 2⟩
abbrev Fld.DRV_PWM_CFG_PHASES : Fld := ⟨Reg.DRV_PWM_CFG, 1, 0⟩
abbrev Reg.DRV_DEAD : Nat := 0x40012048
abbrev Fld.DRV_DEAD_DEAD_FALL : Fld := ⟨Reg.DRV_DEAD, 31, 16⟩
abbrev Fld.DRV_DEAD_DEAD_RISE : Fld := ⟨Reg.DRV_DEAD, 15, 0⟩
abbrev Reg.DRV_DUTY_LIM : Nat := 0x4001204C
abbrev Fld.DRV_DUTY_LIM_MAX : Fld := ⟨Reg.DRV_DUTY_LIM, 31, 16⟩
abbrev Fld.DRV_DUTY_LIM_MIN : Fld := ⟨Reg.DRV_DUTY_LIM, 15, 0⟩
abbrev Reg.DRV_PWM_STATUS : Nat := 0x40012058
abbrev Fld.DRV_PWM_STATUS_ENABLED : Fld := ⟨Reg.DRV_PWM_STATUS, 7, 7⟩
abbrev Fld.DRV_PWM_STATUS_OS_NOT_READY : Fld := ⟨Reg.DRV_PWM_STATUS, 6, 6⟩
abbrev Fld.DRV_PWM_STATUS_FEEDBACK : Fld := ⟨Reg.DRV_PWM_STATUS, 5, 5⟩
abbrev Fld.DRV_PWM_STATUS_LINK : Fld := ⟨Reg.DRV_PWM_STATUS, 4, 4⟩
abbrev Fld.DRV_PWM_STATUS_SAFETY : Fld := ⟨Reg.DRV_PWM_STATUS, 3, 3⟩
abbrev Fld.DRV_PWM_STATUS_EN_LOW : Fld := ⟨Reg.DRV_PWM_STATUS, 2, 2⟩
abbrev Fld.DRV_PWM_STATUS_NOT_ARMED : Fld := ⟨Reg.DRV_PWM_STATUS, 1, 1⟩
abbrev Fld.DRV_PWM_STATUS_NO_IMPRINT : Fld := ⟨Reg.DRV_PWM_STATUS, 0, 0⟩
abbrev Reg.DRV_LINK : Nat := 0x4001205C
abbrev Fld.DRV_LINK_RESULT : Fld := ⟨Reg.DRV_LINK, 31, 24⟩
abbrev Fld.DRV_LINK_LEASE_LEFT : Fld := ⟨Reg.DRV_LINK, 23, 16⟩
abbrev Fld.DRV_LINK_HOLDER : Fld := ⟨Reg.DRV_LINK, 15, 8⟩
abbrev Fld.DRV_LINK_STATE : Fld := ⟨Reg.DRV_LINK, 1, 0⟩
abbrev Reg.DRV_CLAIM : Nat := 0x40012064
abbrev Fld.DRV_CLAIM_PRIORITY : Fld := ⟨Reg.DRV_CLAIM, 15, 8⟩
abbrev Fld.DRV_CLAIM_SERIAL8 : Fld := ⟨Reg.DRV_CLAIM, 7, 0⟩
abbrev Reg.DRV_OS_STATUS : Nat := 0x40012068
abbrev Fld.DRV_OS_STATUS_TEMP : Fld := ⟨Reg.DRV_OS_STATUS, 31, 24⟩
abbrev Fld.DRV_OS_STATUS_FAULT : Fld := ⟨Reg.DRV_OS_STATUS, 23, 16⟩
abbrev Fld.DRV_OS_STATUS_READY : Fld := ⟨Reg.DRV_OS_STATUS, 15, 8⟩
abbrev Fld.DRV_OS_STATUS_CONT_FB : Fld := ⟨Reg.DRV_OS_STATUS, 7, 0⟩
abbrev Reg.DRV_CONT : Nat := 0x40012074
abbrev Fld.DRV_CONT_RESULT : Fld := ⟨Reg.DRV_CONT, 23, 16⟩
abbrev Fld.DRV_CONT_STEP : Fld := ⟨Reg.DRV_CONT, 15, 12⟩
abbrev Fld.DRV_CONT_WELD : Fld := ⟨Reg.DRV_CONT, 11, 11⟩
abbrev Fld.DRV_CONT_FB : Fld := ⟨Reg.DRV_CONT, 10, 8⟩
abbrev Fld.DRV_CONT_CMD : Fld := ⟨Reg.DRV_CONT, 2, 0⟩
abbrev Reg.DRV_PRE_CFG : Nat := 0x40012078
abbrev Fld.DRV_PRE_CFG_PRE_TIMEOUT : Fld := ⟨Reg.DRV_PRE_CFG, 31, 16⟩
abbrev Fld.DRV_PRE_CFG_PRE_MIN : Fld := ⟨Reg.DRV_PRE_CFG, 15, 8⟩
abbrev Fld.DRV_PRE_CFG_PRE_DONE : Fld := ⟨Reg.DRV_PRE_CFG, 7, 0⟩
abbrev Reg.DRV_EN : Nat := 0x40012094
abbrev Fld.DRV_EN_PULL_B : Fld := ⟨Reg.DRV_EN, 3, 3⟩
abbrev Fld.DRV_EN_PULL_A : Fld := ⟨Reg.DRV_EN, 2, 2⟩
abbrev Fld.DRV_EN_LEVEL_B : Fld := ⟨Reg.DRV_EN, 1, 1⟩
abbrev Fld.DRV_EN_LEVEL_A : Fld := ⟨Reg.DRV_EN, 0, 0⟩
abbrev Reg.DRV_PWM_PERIOD : Nat := 0x40012044
abbrev Reg.DRV_DUTY : Nat := 0x40012050
abbrev Reg.DRV_DUTY_PRESET : Nat := 0x40012054
abbrev Reg.DRV_EDITION : Nat := 0x40012060
abbrev Reg.DRV_OS_CURRENT : Nat := 0x4001206C
abbrev Reg.DRV_WELD_V : Nat := 0x4001207C
abbrev Reg.DRV_FRAMES_TX : Nat := 0x40012080
abbrev Reg.DRV_FRAMES_RX : Nat := 0x40012084
abbrev Reg.DRV_CRC_ERR : Nat := 0x40012088
abbrev Reg.DRV_DUTY_CLAMPS : Nat := 0x4001208C

/-! MRG page registers. -/
abbrev Reg.MRG_I_MAX : Nat := 0x4000D040
abbrev Fld.MRG_I_MAX_IDIS_MAX : Fld := ⟨Reg.MRG_I_MAX, 31, 16⟩
abbrev Fld.MRG_I_MAX_ICHG_MAX : Fld := ⟨Reg.MRG_I_MAX, 15, 0⟩
abbrev Reg.MRG_VSTR : Nat := 0x4000D044
abbrev Fld.MRG_VSTR_VSTR_MAX : Fld := ⟨Reg.MRG_VSTR, 31, 16⟩
abbrev Fld.MRG_VSTR_VSTR_MIN : Fld := ⟨Reg.MRG_VSTR, 15, 0⟩
abbrev Reg.MRG_FILT : Nat := 0x4000D048
abbrev Fld.MRG_FILT_T_N : Fld := ⟨Reg.MRG_FILT, 31, 24⟩
abbrev Fld.MRG_FILT_VCELL_N : Fld := ⟨Reg.MRG_FILT, 23, 16⟩
abbrev Fld.MRG_FILT_VSTR_N : Fld := ⟨Reg.MRG_FILT, 15, 8⟩
abbrev Fld.MRG_FILT_CUR_N : Fld := ⟨Reg.MRG_FILT, 7, 0⟩
abbrev Reg.MRG_TRIP : Nat := 0x4000D058
abbrev Fld.MRG_TRIP_CELL : Fld := ⟨Reg.MRG_TRIP, 31, 16⟩
abbrev Fld.MRG_TRIP_COUNT : Fld := ⟨Reg.MRG_TRIP, 15, 8⟩
abbrev Fld.MRG_TRIP_CAUSE : Fld := ⟨Reg.MRG_TRIP, 7, 0⟩
abbrev Reg.MRG_SELFTEST : Nat := 0x4000D06C
abbrev Fld.MRG_SELFTEST_RUNS : Fld := ⟨Reg.MRG_SELFTEST, 31, 16⟩
abbrev Fld.MRG_SELFTEST_FAIL_BANK : Fld := ⟨Reg.MRG_SELFTEST, 15, 8⟩
abbrev Fld.MRG_SELFTEST_RESULT : Fld := ⟨Reg.MRG_SELFTEST, 7, 0⟩
abbrev Reg.MRG_SET_MARGIN (i : Nat) : Nat := 0x4000D200 + i * 12
abbrev Reg.MRG_DIR_BAND : Nat := 0x4000D04C
abbrev Reg.MRG_ELL_PERMIT : Nat := 0x4000D050
abbrev Reg.MRG_UNMON_MAX : Nat := 0x4000D054
abbrev Reg.MRG_POL_ICHG : Nat := 0x4000D05C
abbrev Reg.MRG_POL_IDIS : Nat := 0x4000D060
abbrev Reg.MRG_CLAMP_ADDR : Nat := 0x4000D064
abbrev Reg.MRG_CLAMP_COUNT : Nat := 0x4000D068
abbrev Reg.MRG_CFG_CRC : Nat := 0x4000D070
abbrev Reg.MRG_PR_CRC : Nat := 0x4000D074

/-! SAFE page registers. -/
abbrev Reg.SAFE_STATE : Nat := 0x4000E040
abbrev Fld.SAFE_STATE_FS_STEP : Fld := ⟨Reg.SAFE_STATE, 31, 24⟩
abbrev Fld.SAFE_STATE_FIRST_CAUSE : Fld := ⟨Reg.SAFE_STATE, 23, 16⟩
abbrev Fld.SAFE_STATE_ELL_CAUSE : Fld := ⟨Reg.SAFE_STATE, 15, 8⟩
abbrev Fld.SAFE_STATE_NO_RAMP : Fld := ⟨Reg.SAFE_STATE, 3, 3⟩
abbrev Fld.SAFE_STATE_ELLIPSIS : Fld := ⟨Reg.SAFE_STATE, 2, 2⟩
abbrev Fld.SAFE_STATE_FS_ACTIVE : Fld := ⟨Reg.SAFE_STATE, 1, 1⟩
abbrev Fld.SAFE_STATE_LOCKSTEP_OK : Fld := ⟨Reg.SAFE_STATE, 0, 0⟩
abbrev Reg.SAFE_ELL_CFG : Nat := 0x4000E04C
abbrev Fld.SAFE_ELL_CFG_DURATION_S : Fld := ⟨Reg.SAFE_ELL_CFG, 31, 16⟩
abbrev Fld.SAFE_ELL_CFG_ILIM : Fld := ⟨Reg.SAFE_ELL_CFG, 15, 0⟩
abbrev Reg.SAFE_ECC : Nat := 0x4000E06C
abbrev Fld.SAFE_ECC_CORRECTED : Fld := ⟨Reg.SAFE_ECC, 31, 16⟩
abbrev Reg.SAFE_CAUSE_LO : Nat := 0x4000E044
abbrev Reg.SAFE_CAUSE_HI : Nat := 0x4000E048
abbrev Reg.SAFE_ELL_LEFT : Nat := 0x4000E050
abbrev Reg.SAFE_FS_TIME : Nat := 0x4000E054
abbrev Reg.SAFE_ENVELOPE : Nat := 0x4000E058
abbrev Reg.SAFE_LOAD_OPENS : Nat := 0x4000E060
abbrev Reg.SAFE_FS_COUNT : Nat := 0x4000E064
abbrev Reg.SAFE_ELL_COUNT : Nat := 0x4000E068
abbrev Reg.SAFE_I_RATED : Nat := 0x4000E070
abbrev Reg.SAFE_C_CURRENT : Nat := 0x4000E074

/-! SIO page registers. -/
abbrev Reg.SIO_CFG (i : Nat) : Nat := 0x4000F040 + i * 4
abbrev Fld.SIO_CFG_DISC_MS (i : Nat) : Fld := ⟨Reg.SIO_CFG i, 25, 16⟩
abbrev Fld.SIO_CFG_TYPE (i : Nat) : Fld := ⟨Reg.SIO_CFG i, 5, 4⟩
abbrev Fld.SIO_CFG_FUNCTION (i : Nat) : Fld := ⟨Reg.SIO_CFG i, 3, 0⟩
abbrev Reg.SIO_STATE : Nat := 0x4000F060
abbrev Fld.SIO_STATE_PAIRS : Fld := ⟨Reg.SIO_STATE, 15, 0⟩
abbrev Reg.SIO_RAW : Nat := 0x4000F064
abbrev Fld.SIO_RAW_CH_B : Fld := ⟨Reg.SIO_RAW, 15, 8⟩
abbrev Fld.SIO_RAW_CH_A : Fld := ⟨Reg.SIO_RAW, 7, 0⟩
abbrev Reg.SIO_FB : Nat := 0x4000F068
abbrev Fld.SIO_FB_ACCEPTED : Fld := ⟨Reg.SIO_FB, 10, 8⟩
abbrev Fld.SIO_FB_SAMPLE : Fld := ⟨Reg.SIO_FB, 2, 0⟩
abbrev Reg.SIO_FB_TEST : Nat := 0x4000F06C
abbrev Fld.SIO_FB_TEST_GAPS : Fld := ⟨Reg.SIO_FB_TEST, 31, 16⟩
abbrev Fld.SIO_FB_TEST_FAIL : Fld := ⟨Reg.SIO_FB_TEST, 2, 0⟩

/-! PAIR page registers. -/
abbrev Reg.PAIR_STATE : Nat := 0x40018040
abbrev Fld.PAIR_STATE_PARTNER_MODE : Fld := ⟨Reg.PAIR_STATE, 23, 16⟩
abbrev Fld.PAIR_STATE_PSTATE : Fld := ⟨Reg.PAIR_STATE, 3, 0⟩
abbrev Fld.PAIR_STATE_LATENT_FAULT : Fld := ⟨Reg.PAIR_STATE, 11, 11⟩
abbrev Fld.PAIR_STATE_BLIND : Fld := ⟨Reg.PAIR_STATE, 10, 10⟩
abbrev Fld.PAIR_STATE_CFG_DIFFER : Fld := ⟨Reg.PAIR_STATE, 9, 9⟩
abbrev Fld.PAIR_STATE_SYNCED : Fld := ⟨Reg.PAIR_STATE, 8, 8⟩
abbrev Fld.PAIR_STATE_MIRROR_STALE : Fld := ⟨Reg.PAIR_STATE, 7, 7⟩
abbrev Fld.PAIR_STATE_PARTNER_PRESENT : Fld := ⟨Reg.PAIR_STATE, 6, 6⟩
abbrev Fld.PAIR_STATE_ROLE : Fld := ⟨Reg.PAIR_STATE, 5, 5⟩
abbrev Reg.PAIR_HB : Nat := 0x40018044
abbrev Fld.PAIR_HB_LOSSES : Fld := ⟨Reg.PAIR_HB, 31, 16⟩
abbrev Fld.PAIR_HB_PARTNER_FLAGS : Fld := ⟨Reg.PAIR_HB, 15, 8⟩
abbrev Fld.PAIR_HB_PULSE : Fld := ⟨Reg.PAIR_HB, 3, 2⟩
abbrev Fld.PAIR_HB_LINK : Fld := ⟨Reg.PAIR_HB, 1, 0⟩
abbrev Reg.PAIR_CTL : Nat := 0x40018048
abbrev Fld.PAIR_CTL_AUTO_SWAP : Fld := ⟨Reg.PAIR_CTL, 3, 3⟩
abbrev Fld.PAIR_CTL_SWAP_NOW : Fld := ⟨Reg.PAIR_CTL, 2, 2⟩
abbrev Fld.PAIR_CTL_CLAIM : Fld := ⟨Reg.PAIR_CTL, 1, 1⟩
abbrev Fld.PAIR_CTL_CLAIM_EN : Fld := ⟨Reg.PAIR_CTL, 0, 0⟩
abbrev Reg.PAIR_SWAP_CFG : Nat := 0x4001804C
abbrev Fld.PAIR_SWAP_CFG_GRACE_H : Fld := ⟨Reg.PAIR_SWAP_CFG, 31, 16⟩
abbrev Fld.PAIR_SWAP_CFG_PERIOD_H : Fld := ⟨Reg.PAIR_SWAP_CFG, 15, 0⟩
abbrev Reg.PAIR_SWAP_STATUS : Nat := 0x40018050
abbrev Fld.PAIR_SWAP_STATUS_DUE_MIN : Fld := ⟨Reg.PAIR_SWAP_STATUS, 31, 16⟩
abbrev Fld.PAIR_SWAP_STATUS_RESULT : Fld := ⟨Reg.PAIR_SWAP_STATUS, 7, 0⟩
abbrev Reg.PAIR_EDITION : Nat := 0x40018054
abbrev Reg.PAIR_PARTNER_EDITION : Nat := 0x40018058
abbrev Reg.PAIR_PARTNER_SERIAL_LO : Nat := 0x4001805C
abbrev Reg.PAIR_PARTNER_SERIAL_HI : Nat := 0x40018060
abbrev Reg.PAIR_MIRROR_SEQ : Nat := 0x40018064
abbrev Reg.PAIR_MIRROR_AGE : Nat := 0x40018068
abbrev Reg.PAIR_TAKEOVERS : Nat := 0x4001806C
abbrev Reg.PAIR_SWAPS : Nat := 0x40018070
abbrev Reg.PAIR_TAKEOVER_GAP : Nat := 0x40018074
abbrev Reg.PAIR_CFG_CRC : Nat := 0x40018078
abbrev Reg.PAIR_CFG_CRC_PARTNER : Nat := 0x4001807C
abbrev Reg.PAIR_HOLDER_EVR_INDEX : Nat := 0x40018080
abbrev Reg.PAIR_LATENT_CLR : Nat := 0x40018084

/-! CYC page registers. -/
abbrev Reg.CYC_CTL : Nat := 0x40020040
abbrev Fld.CYC_CTL_START_KIND : Fld := ⟨Reg.CYC_CTL, 7, 4⟩
abbrev Fld.CYC_CTL_CMD : Fld := ⟨Reg.CYC_CTL, 2, 0⟩
abbrev Reg.CYC_STATE : Nat := 0x40020044
abbrev Fld.CYC_STATE_OVR_RUN : Fld := ⟨Reg.CYC_STATE, 31, 24⟩
abbrev Fld.CYC_STATE_STOP_CAUSE : Fld := ⟨Reg.CYC_STATE, 23, 16⟩
abbrev Fld.CYC_STATE_START_RULE : Fld := ⟨Reg.CYC_STATE, 15, 8⟩
abbrev Fld.CYC_STATE_STATE : Fld := ⟨Reg.CYC_STATE, 3, 0⟩
abbrev Reg.CYC_CFG : Nat := 0x40020048
abbrev Fld.CYC_CFG_OFFSET_US : Fld := ⟨Reg.CYC_CFG, 31, 16⟩
abbrev Fld.CYC_CFG_OVR_LIMIT : Fld := ⟨Reg.CYC_CFG, 15, 8⟩
abbrev Fld.CYC_CFG_PERIOD : Fld := ⟨Reg.CYC_CFG, 1, 0⟩
abbrev Reg.CYC_HOLD : Nat := 0x4002004C
abbrev Fld.CYC_HOLD_LEFT_MS : Fld := ⟨Reg.CYC_HOLD, 31, 16⟩
abbrev Fld.CYC_HOLD_LIMIT_S : Fld := ⟨Reg.CYC_HOLD, 15, 0⟩
abbrev Reg.CYC_BOOT : Nat := 0x40020050
abbrev Fld.CYC_BOOT_AUTORUN : Fld := ⟨Reg.CYC_BOOT, 0, 0⟩
abbrev Reg.CYC_SHADOW : Nat := 0x40020054
abbrev Fld.CYC_SHADOW_AGE_S : Fld := ⟨Reg.CYC_SHADOW, 31, 16⟩
abbrev Fld.CYC_SHADOW_RETAIN_VALID : Fld := ⟨Reg.CYC_SHADOW, 1, 1⟩
abbrev Fld.CYC_SHADOW_SHADOW_VALID : Fld := ⟨Reg.CYC_SHADOW, 0, 0⟩
abbrev Reg.CYC_TRAP : Nat := 0x40020058
abbrev Fld.CYC_TRAP_ENTRY : Fld := ⟨Reg.CYC_TRAP, 23, 16⟩
abbrev Fld.CYC_TRAP_CODE : Fld := ⟨Reg.CYC_TRAP, 7, 0⟩
abbrev Fld.CYC_TRAP_CORE : Fld := ⟨Reg.CYC_TRAP, 8, 8⟩
abbrev Reg.CYC_OUT_STATUS : Nat := 0x4002005C
abbrev Fld.CYC_OUT_STATUS_CODE : Fld := ⟨Reg.CYC_OUT_STATUS, 31, 24⟩
abbrev Fld.CYC_OUT_STATUS_FIRST_FAIL : Fld := ⟨Reg.CYC_OUT_STATUS, 23, 16⟩
abbrev Fld.CYC_OUT_STATUS_APPLIED : Fld := ⟨Reg.CYC_OUT_STATUS, 15, 8⟩
abbrev Fld.CYC_OUT_STATUS_REFUSED : Fld := ⟨Reg.CYC_OUT_STATUS, 7, 0⟩
abbrev Reg.CYC_TRAP_PC_LO : Nat := 0x40020060
abbrev Reg.CYC_TRAP_PC_HI : Nat := 0x40020064
abbrev Reg.CYC_CYCLE_LO : Nat := 0x40020068
abbrev Reg.CYC_CYCLE_HI : Nat := 0x4002006C
abbrev Reg.CYC_EXEC_US : Nat := 0x40020070
abbrev Reg.CYC_EXEC_MAX_US : Nat := 0x40020074
abbrev Reg.CYC_START_LATE_NS : Nat := 0x40020078
abbrev Reg.CYC_OVERRUNS : Nat := 0x4002007C
abbrev Reg.CYC_SHADOW_PERIOD : Nat := 0x40020080
abbrev Reg.CYC_IMAGE_VERSION : Nat := 0x40020084
abbrev Reg.CYC_LAYOUT_HASH : Nat := 0x40020088
abbrev Reg.CYC_START_SEQ : Nat := 0x4002008C
abbrev Reg.CYC_USER_NOTE : Nat := 0x40020090
abbrev Reg.CYC_EXCH_SEQ : Nat := 0x40020094

/-! TMR page registers. -/
abbrev Reg.TMR_IO (i : Nat) : Nat := 0x40021100 + i * 8
abbrev Fld.TMR_IO_KIND (i : Nat) : Fld := ⟨Reg.TMR_IO i, 15, 12⟩
abbrev Fld.TMR_IO_UNIT (i : Nat) : Fld := ⟨Reg.TMR_IO i, 11, 8⟩
abbrev Fld.TMR_IO_PREV (i : Nat) : Fld := ⟨Reg.TMR_IO i, 2, 2⟩
abbrev Fld.TMR_IO_Q (i : Nat) : Fld := ⟨Reg.TMR_IO i, 1, 1⟩
abbrev Fld.TMR_IO_IN (i : Nat) : Fld := ⟨Reg.TMR_IO i, 0, 0⟩
abbrev Reg.TMR_DECL_LO : Nat := 0x40021040
abbrev Reg.TMR_DECL_HI : Nat := 0x40021044
abbrev Reg.TMR_RETYPED_LO : Nat := 0x40021048
abbrev Reg.TMR_RETYPED_HI : Nat := 0x4002104C
abbrev Reg.TMR_BASE_LO : Nat := 0x40021050
abbrev Reg.TMR_BASE_HI : Nat := 0x40021054
abbrev Reg.TMR_ET (i : Nat) : Nat := 0x40021104 + i * 8
abbrev Reg.TMR_PT (i : Nat) : Nat := 0x40021300 + i * 4

/-! SEQ page registers. -/
abbrev Reg.SEQ_CTL : Nat := 0x40004040
abbrev Fld.SEQ_CTL_HOST_RING : Fld := ⟨Reg.SEQ_CTL, 1, 1⟩
abbrev Fld.SEQ_CTL_CORE_QUEUE : Fld := ⟨Reg.SEQ_CTL, 0, 0⟩
abbrev Reg.SEQ_LAST : Nat := 0x40004044
abbrev Reg.SEQ_LAST_TIME : Nat := 0x40004048
abbrev Reg.SEQ_WITHDRAWN : Nat := 0x4000404C
abbrev Reg.SEQ_COALESCED : Nat := 0x40004050
abbrev Reg.SEQ_MAX_WAIT_NS : Nat := 0x40004054
abbrev Reg.SEQ_HOST_COUNT : Nat := 0x40004058
abbrev Reg.SEQ_CORE_PENDING : Nat := 0x4000405C
abbrev Reg.SEQ_CORE_LOST : Nat := 0x40004060
abbrev Reg.SEQ_NEXT : Nat := 0x40004064
abbrev Reg.SEQ_HOST_RING (i : Nat) : Nat := 0x40004400 + i * 16

/-! EVR page registers. -/
abbrev Reg.EVR_CTL : Nat := 0x40005040
abbrev Fld.EVR_CTL_FREEZE_LIMIT_S : Fld := ⟨Reg.EVR_CTL, 31, 16⟩
abbrev Fld.EVR_CTL_POST : Fld := ⟨Reg.EVR_CTL, 15, 8⟩
abbrev Fld.EVR_CTL_ENABLE : Fld := ⟨Reg.EVR_CTL, 1, 1⟩
abbrev Fld.EVR_CTL_FREEZE : Fld := ⟨Reg.EVR_CTL, 0, 0⟩
abbrev Reg.EVR_STATE : Nat := 0x40005044
abbrev Fld.EVR_STATE_FREEZE_LEFT_S : Fld := ⟨Reg.EVR_STATE, 31, 16⟩
abbrev Fld.EVR_STATE_LOADING : Fld := ⟨Reg.EVR_STATE, 2, 2⟩
abbrev Fld.EVR_STATE_POST_RUN : Fld := ⟨Reg.EVR_STATE, 1, 1⟩
abbrev Fld.EVR_STATE_FROZEN : Fld := ⟨Reg.EVR_STATE, 0, 0⟩
abbrev Reg.EVR_NEWEST : Nat := 0x40005048
abbrev Reg.EVR_OLDEST : Nat := 0x4000504C
abbrev Reg.EVR_CURSOR : Nat := 0x40005050
abbrev Reg.EVR_MISSED : Nat := 0x40005054
abbrev Reg.EVR_LIST (i : Nat) : Nat := 0x40005400 + i * 192

/-! GAL page registers. -/
abbrev Reg.GAL_REPLAY : Nat := 0x40006048
abbrev Fld.GAL_REPLAY_DISCARDED : Fld := ⟨Reg.GAL_REPLAY, 23, 16⟩
abbrev Fld.GAL_REPLAY_FWD : Fld := ⟨Reg.GAL_REPLAY, 15, 8⟩
abbrev Fld.GAL_REPLAY_BACK : Fld := ⟨Reg.GAL_REPLAY, 7, 0⟩
abbrev Reg.GAL_OPEN (i : Nat) : Nat := 0x40006060 + i * 4
abbrev Fld.GAL_OPEN_SLOT_ODD (i : Nat) : Fld := ⟨Reg.GAL_OPEN i, 31, 16⟩
abbrev Fld.GAL_OPEN_SLOT_EVEN (i : Nat) : Fld := ⟨Reg.GAL_OPEN i, 15, 0⟩
abbrev Reg.GAL_OPEN_COUNT : Nat := 0x40006040
abbrev Reg.GAL_LINE_NO : Nat := 0x40006044
abbrev Reg.GAL_REPLAY_SEQ : Nat := 0x4000604C
abbrev Reg.GAL_SEL : Nat := 0x40006050
abbrev Reg.GAL_SEL_SLOT : Nat := 0x40006080

/-! TIME page registers. -/
abbrev Reg.TIME_SYNC_CTL : Nat := 0x40003050
abbrev Fld.TIME_SYNC_CTL_SOURCE : Fld := ⟨Reg.TIME_SYNC_CTL, 1, 0⟩
abbrev Reg.TIME_SYNC_STATE : Nat := 0x40003054
abbrev Fld.TIME_SYNC_STATE_SYNCS : Fld := ⟨Reg.TIME_SYNC_STATE, 31, 16⟩
abbrev Fld.TIME_SYNC_STATE_PAIR_ALIGN : Fld := ⟨Reg.TIME_SYNC_STATE, 9, 8⟩
abbrev Fld.TIME_SYNC_STATE_PORT : Fld := ⟨Reg.TIME_SYNC_STATE, 4, 4⟩
abbrev Fld.TIME_SYNC_STATE_STATE : Fld := ⟨Reg.TIME_SYNC_STATE, 2, 0⟩
abbrev Reg.TIME_STEP_CTL : Nat := 0x40003064
abbrev Fld.TIME_STEP_CTL_MAX_SLEW_PPM : Fld := ⟨Reg.TIME_STEP_CTL, 31, 16⟩
abbrev Fld.TIME_STEP_CTL_CONFIRM : Fld := ⟨Reg.TIME_STEP_CTL, 7, 4⟩
abbrev Fld.TIME_STEP_CTL_ALLOW_POWERED : Fld := ⟨Reg.TIME_STEP_CTL, 0, 0⟩
abbrev Reg.TIME_PTP_CFG : Nat := 0x40003074
abbrev Fld.TIME_PTP_CFG_SLAVE_ONLY : Fld := ⟨Reg.TIME_PTP_CFG, 24, 24⟩
abbrev Fld.TIME_PTP_CFG_PRIORITY2 : Fld := ⟨Reg.TIME_PTP_CFG, 23, 16⟩
abbrev Fld.TIME_PTP_CFG_PRIORITY1 : Fld := ⟨Reg.TIME_PTP_CFG, 15, 8⟩
abbrev Fld.TIME_PTP_CFG_DOMAIN : Fld := ⟨Reg.TIME_PTP_CFG, 7, 0⟩
abbrev Reg.TIME_PHY_DLY : Nat := 0x4000308C
abbrev Fld.TIME_PHY_DLY_RX_NS : Fld := ⟨Reg.TIME_PHY_DLY, 31, 16⟩
abbrev Fld.TIME_PHY_DLY_TX_NS : Fld := ⟨Reg.TIME_PHY_DLY, 15, 0⟩
abbrev Reg.TIME_TRIG_CTL : Nat := 0x400030A0
abbrev Fld.TIME_TRIG_CTL_WIDTH_US : Fld := ⟨Reg.TIME_TRIG_CTL, 31, 16⟩
abbrev Fld.TIME_TRIG_CTL_OUT : Fld := ⟨Reg.TIME_TRIG_CTL, 7, 4⟩
abbrev Fld.TIME_TRIG_CTL_EN : Fld := ⟨Reg.TIME_TRIG_CTL, 3, 0⟩
abbrev Reg.TIME_COMPAT_CTL : Nat := 0x400030AC
abbrev Fld.TIME_COMPAT_CTL_UNIT : Fld := ⟨Reg.TIME_COMPAT_CTL, 3, 2⟩
abbrev Fld.TIME_COMPAT_CTL_SRC : Fld := ⟨Reg.TIME_COMPAT_CTL, 1, 1⟩
abbrev Fld.TIME_COMPAT_CTL_ENABLE : Fld := ⟨Reg.TIME_COMPAT_CTL, 0, 0⟩
abbrev Reg.TIME_NOW_LO : Nat := 0x40003040
abbrev Reg.TIME_NOW_HI : Nat := 0x40003044
abbrev Reg.TIME_INCR_LO : Nat := 0x40003048
abbrev Reg.TIME_INCR_HI : Nat := 0x4000304C
abbrev Reg.TIME_OFFSET_NS : Nat := 0x40003058
abbrev Reg.TIME_PATH_DELAY_NS : Nat := 0x4000305C
abbrev Reg.TIME_STEP_THR : Nat := 0x40003060
abbrev Reg.TIME_STEP_NS : Nat := 0x40003068
abbrev Reg.TIME_LAST_STEP_NS : Nat := 0x4000306C
abbrev Reg.TIME_STEPS : Nat := 0x40003070
abbrev Reg.TIME_GM_ID_LO : Nat := 0x40003078
abbrev Reg.TIME_GM_ID_HI : Nat := 0x4000307C
abbrev Reg.TIME_UTC_OFFSET : Nat := 0x40003080
abbrev Reg.TIME_PAIR_OFS_NS : Nat := 0x40003084
abbrev Reg.TIME_TRIG (i : Nat) : Nat := 0x40003090 + i * 4
abbrev Reg.TIME_LAUNCH_LATE : Nat := 0x400030A4
abbrev Reg.TIME_COMPAT_SEL : Nat := 0x400030A8
abbrev Reg.TIME_COMPAT_LO : Nat := 0x400030B0
abbrev Reg.TIME_COMPAT_HI : Nat := 0x400030B4
abbrev Reg.TIME_COMPAT_LOAD_LO : Nat := 0x400030B8
abbrev Reg.TIME_COMPAT_LOAD_HI : Nat := 0x400030BC

/-! CANx page registers. -/
abbrev Reg.CAN_CTL (n : Nat) : Nat := 0x4001C040 + n * 0x1000
abbrev Fld.CAN_CTL_TDC_EN (n : Nat) : Fld := ⟨Reg.CAN_CTL n, 8, 8⟩
abbrev Fld.CAN_CTL_RECOVER (n : Nat) : Fld := ⟨Reg.CAN_CTL n, 7, 7⟩
abbrev Fld.CAN_CTL_BUSOFF_AUTO (n : Nat) : Fld := ⟨Reg.CAN_CTL n, 6, 6⟩
abbrev Fld.CAN_CTL_BRS_EN (n : Nat) : Fld := ⟨Reg.CAN_CTL n, 5, 5⟩
abbrev Fld.CAN_CTL_FD_EN (n : Nat) : Fld := ⟨Reg.CAN_CTL n, 4, 4⟩
abbrev Fld.CAN_CTL_MODE (n : Nat) : Fld := ⟨Reg.CAN_CTL n, 2, 0⟩
abbrev Reg.CAN_NBT (n : Nat) : Nat := 0x4001C044 + n * 0x1000
abbrev Fld.CAN_NBT_TSEG1 (n : Nat) : Fld := ⟨Reg.CAN_NBT n, 31, 24⟩
abbrev Fld.CAN_NBT_TSEG2 (n : Nat) : Fld := ⟨Reg.CAN_NBT n, 23, 17⟩
abbrev Fld.CAN_NBT_SJW (n : Nat) : Fld := ⟨Reg.CAN_NBT n, 16, 10⟩
abbrev Fld.CAN_NBT_BRP (n : Nat) : Fld := ⟨Reg.CAN_NBT n, 4, 0⟩
abbrev Reg.CAN_DBT (n : Nat) : Nat := 0x4001C048 + n * 0x1000
abbrev Fld.CAN_DBT_TDCO (n : Nat) : Fld := ⟨Reg.CAN_DBT n, 31, 25⟩
abbrev Fld.CAN_DBT_TSEG1 (n : Nat) : Fld := ⟨Reg.CAN_DBT n, 24, 20⟩
abbrev Fld.CAN_DBT_BRP (n : Nat) : Fld := ⟨Reg.CAN_DBT n, 4, 0⟩
abbrev Fld.CAN_DBT_TSEG2 (n : Nat) : Fld := ⟨Reg.CAN_DBT n, 19, 16⟩
abbrev Fld.CAN_DBT_SJW (n : Nat) : Fld := ⟨Reg.CAN_DBT n, 15, 12⟩
abbrev Reg.CAN_ERR (n : Nat) : Nat := 0x4001C04C + n * 0x1000
abbrev Fld.CAN_ERR_LAST_ERR (n : Nat) : Fld := ⟨Reg.CAN_ERR n, 31, 24⟩
abbrev Fld.CAN_ERR_REC (n : Nat) : Fld := ⟨Reg.CAN_ERR n, 23, 16⟩
abbrev Fld.CAN_ERR_TEC (n : Nat) : Fld := ⟨Reg.CAN_ERR n, 15, 8⟩
abbrev Fld.CAN_ERR_STATE (n : Nat) : Fld := ⟨Reg.CAN_ERR n, 2, 0⟩
abbrev Reg.CAN_RXQ_CFG (n : Nat) (i : Nat) : Nat := 0x4001C06C + n * 0x1000 + i * 4
abbrev Fld.CAN_RXQ_CFG_DEPTH (n : Nat) (i : Nat) : Fld := ⟨Reg.CAN_RXQ_CFG n i, 9, 0⟩
abbrev Fld.CAN_RXQ_CFG_LAST_WORD (n : Nat) (i : Nat) : Fld := ⟨Reg.CAN_RXQ_CFG n i, 16, 16⟩
abbrev Reg.CAN_RXQ_STAT (n : Nat) (i : Nat) : Nat := 0x4001C07C + n * 0x1000 + i * 4
abbrev Fld.CAN_RXQ_STAT_LOST (n : Nat) (i : Nat) : Fld := ⟨Reg.CAN_RXQ_STAT n i, 31, 16⟩
abbrev Fld.CAN_RXQ_STAT_FILL (n : Nat) (i : Nat) : Fld := ⟨Reg.CAN_RXQ_STAT n i, 9, 0⟩
abbrev Reg.CAN_TREF_CTL (n : Nat) : Nat := 0x4001C090 + n * 0x1000
abbrev Fld.CAN_TREF_CTL_PERIOD_MS (n : Nat) : Fld := ⟨Reg.CAN_TREF_CTL n, 31, 16⟩
abbrev Fld.CAN_TREF_CTL_MASTER_ADDR (n : Nat) : Fld := ⟨Reg.CAN_TREF_CTL n, 15, 8⟩
abbrev Fld.CAN_TREF_CTL_SLAVE (n : Nat) : Fld := ⟨Reg.CAN_TREF_CTL n, 1, 1⟩
abbrev Fld.CAN_TREF_CTL_MASTER (n : Nat) : Fld := ⟨Reg.CAN_TREF_CTL n, 0, 0⟩
abbrev Reg.CAN_AUTO_EN (n : Nat) : Nat := 0x4001C09C + n * 0x1000
abbrev Fld.CAN_AUTO_EN_PAIR (n : Nat) : Fld := ⟨Reg.CAN_AUTO_EN n, 5, 5⟩
abbrev Fld.CAN_AUTO_EN_THERMAL (n : Nat) : Fld := ⟨Reg.CAN_AUTO_EN n, 4, 4⟩
abbrev Fld.CAN_AUTO_EN_CELLS (n : Nat) : Fld := ⟨Reg.CAN_AUTO_EN n, 3, 3⟩
abbrev Fld.CAN_AUTO_EN_DISPATCH (n : Nat) : Fld := ⟨Reg.CAN_AUTO_EN n, 2, 2⟩
abbrev Fld.CAN_AUTO_EN_MODE (n : Nat) : Fld := ⟨Reg.CAN_AUTO_EN n, 1, 1⟩
abbrev Fld.CAN_AUTO_EN_SAFETY (n : Nat) : Fld := ⟨Reg.CAN_AUTO_EN n, 0, 0⟩
abbrev Reg.CAN_RECOVERY (n : Nat) : Nat := 0x4001C050 + n * 0x1000
abbrev Reg.CAN_TXB_REQ (n : Nat) : Nat := 0x4001C054 + n * 0x1000
abbrev Reg.CAN_TXB_PEND (n : Nat) : Nat := 0x4001C058 + n * 0x1000
abbrev Reg.CAN_TXB_DONE (n : Nat) : Nat := 0x4001C05C + n * 0x1000
abbrev Reg.CAN_TXB_CANCEL (n : Nat) : Nat := 0x4001C060 + n * 0x1000
abbrev Reg.CAN_TXB_LATE (n : Nat) : Nat := 0x4001C064 + n * 0x1000
abbrev Reg.CAN_TXB_HALT (n : Nat) : Nat := 0x4001C068 + n * 0x1000
abbrev Reg.CAN_RXQ_ACK (n : Nat) : Nat := 0x4001C08C + n * 0x1000
abbrev Reg.CAN_TREF_OFS_NS (n : Nat) : Nat := 0x4001C094 + n * 0x1000
abbrev Reg.CAN_TREF_DLY_NS (n : Nat) : Nat := 0x4001C098 + n * 0x1000
abbrev Reg.CAN_COLL_ID (n : Nat) : Nat := 0x4001C0A0 + n * 0x1000
abbrev Reg.CAN_LATE_WIN_US (n : Nat) : Nat := 0x4001C0A4 + n * 0x1000
abbrev Reg.CAN_FRAMES_TX (n : Nat) : Nat := 0x4001C0A8 + n * 0x1000
abbrev Reg.CAN_FRAMES_RX (n : Nat) : Nat := 0x4001C0AC + n * 0x1000
abbrev Reg.CAN_ERR_FRAMES (n : Nat) : Nat := 0x4001C0B0 + n * 0x1000
abbrev Reg.CAN_PROTO_EXC (n : Nat) : Nat := 0x4001C0B4 + n * 0x1000
abbrev Reg.CAN_TXB (n : Nat) (i : Nat) : Nat := 0x4001C400 + n * 0x1000 + i * 80
abbrev Reg.CAN_RXQ (n : Nat) (i : Nat) : Nat := 0x4001CE00 + n * 0x1000 + i * 80

/-! FLT page registers. -/
abbrev Reg.FLT_SPAN0 : Nat := 0x4001E040
abbrev Fld.FLT_SPAN0_COUNT : Fld := ⟨Reg.FLT_SPAN0, 28, 16⟩
abbrev Fld.FLT_SPAN0_FIRST : Fld := ⟨Reg.FLT_SPAN0, 11, 0⟩
abbrev Reg.FLT_SPAN1 : Nat := 0x4001E044
abbrev Fld.FLT_SPAN1_COUNT : Fld := ⟨Reg.FLT_SPAN1, 28, 16⟩
abbrev Fld.FLT_SPAN1_FIRST : Fld := ⟨Reg.FLT_SPAN1, 11, 0⟩
abbrev Reg.FLT_GLOBAL : Nat := 0x4001E048
abbrev Fld.FLT_GLOBAL_REMOTE_REJ : Fld := ⟨Reg.FLT_GLOBAL, 8, 8⟩
abbrev Fld.FLT_GLOBAL_NOMATCH1 : Fld := ⟨Reg.FLT_GLOBAL, 6, 4⟩
abbrev Fld.FLT_GLOBAL_NOMATCH0 : Fld := ⟨Reg.FLT_GLOBAL, 2, 0⟩
abbrev Reg.FLT_HIT_LAST : Nat := 0x4001E04C
abbrev Fld.FLT_HIT_LAST_CTRL : Fld := ⟨Reg.FLT_HIT_LAST, 31, 31⟩
abbrev Fld.FLT_HIT_LAST_ELEMENT : Fld := ⟨Reg.FLT_HIT_LAST, 11, 0⟩
abbrev Reg.FLT_HITS : Nat := 0x4001E050
abbrev Reg.FLT_NOMATCHES : Nat := 0x4001E054

/-! ETHx page registers. -/
abbrev Reg.ETH_PORT_CTL (n : Nat) : Nat := 0x40019040 + n * 0x1000
abbrev Fld.ETH_PORT_CTL_ADV (n : Nat) : Fld := ⟨Reg.ETH_PORT_CTL n, 2, 1⟩
abbrev Fld.ETH_PORT_CTL_ENABLE (n : Nat) : Fld := ⟨Reg.ETH_PORT_CTL n, 0, 0⟩
abbrev Reg.ETH_PORT_STATUS (n : Nat) : Nat := 0x40019044 + n * 0x1000
abbrev Fld.ETH_PORT_STATUS_LINK_UPS (n : Nat) : Fld := ⟨Reg.ETH_PORT_STATUS n, 31, 16⟩
abbrev Fld.ETH_PORT_STATUS_SPEED (n : Nat) : Fld := ⟨Reg.ETH_PORT_STATUS n, 3, 2⟩
abbrev Fld.ETH_PORT_STATUS_MASTER (n : Nat) : Fld := ⟨Reg.ETH_PORT_STATUS n, 1, 1⟩
abbrev Fld.ETH_PORT_STATUS_LINK (n : Nat) : Fld := ⟨Reg.ETH_PORT_STATUS n, 0, 0⟩
abbrev Reg.ETH_ANN_EN (n : Nat) : Nat := 0x40019084 + n * 0x1000
abbrev Fld.ETH_ANN_EN_PAIR (n : Nat) : Fld := ⟨Reg.ETH_ANN_EN n, 4, 4⟩
abbrev Fld.ETH_ANN_EN_THERMAL (n : Nat) : Fld := ⟨Reg.ETH_ANN_EN n, 3, 3⟩
abbrev Fld.ETH_ANN_EN_CELLS (n : Nat) : Fld := ⟨Reg.ETH_ANN_EN n, 2, 2⟩
abbrev Fld.ETH_ANN_EN_DISPATCH (n : Nat) : Fld := ⟨Reg.ETH_ANN_EN n, 1, 1⟩
abbrev Fld.ETH_ANN_EN_MODE (n : Nat) : Fld := ⟨Reg.ETH_ANN_EN n, 0, 0⟩
abbrev Reg.ETH_TX_BASE (n : Nat) : Nat := 0x40019048 + n * 0x1000
abbrev Reg.ETH_TX_SIZE (n : Nat) : Nat := 0x4001904C + n * 0x1000
abbrev Reg.ETH_TX_HEAD (n : Nat) : Nat := 0x40019050 + n * 0x1000
abbrev Reg.ETH_TX_TAIL (n : Nat) : Nat := 0x40019054 + n * 0x1000
abbrev Reg.ETH_RX_BASE (n : Nat) : Nat := 0x40019058 + n * 0x1000
abbrev Reg.ETH_RX_SIZE (n : Nat) : Nat := 0x4001905C + n * 0x1000
abbrev Reg.ETH_RX_HEAD (n : Nat) : Nat := 0x40019060 + n * 0x1000
abbrev Reg.ETH_RX_TAIL (n : Nat) : Nat := 0x40019064 + n * 0x1000
abbrev Reg.ETH_FRAMES_TX (n : Nat) : Nat := 0x40019068 + n * 0x1000
abbrev Reg.ETH_FRAMES_RX (n : Nat) : Nat := 0x4001906C + n * 0x1000
abbrev Reg.ETH_FCS_ERR (n : Nat) : Nat := 0x40019070 + n * 0x1000
abbrev Reg.ETH_RX_NO_DESC (n : Nat) : Nat := 0x40019074 + n * 0x1000
abbrev Reg.ETH_SW_DROP (n : Nat) : Nat := 0x40019078 + n * 0x1000
abbrev Reg.ETH_AUTH_FAIL (n : Nat) : Nat := 0x4001907C + n * 0x1000
abbrev Reg.ETH_MAC_LO (n : Nat) : Nat := 0x40019088 + n * 0x1000
abbrev Reg.ETH_MAC_HI (n : Nat) : Nat := 0x4001908C + n * 0x1000
abbrev Reg.ETH_IPV4 (n : Nat) : Nat := 0x40019090 + n * 0x1000
abbrev Reg.ETH_ANN_DEST (n : Nat) : Nat := 0x40019094 + n * 0x1000

/-! PLNK page registers. -/
abbrev Reg.PLNK_LINK : Nat := 0x4001B040
abbrev Fld.PLNK_LINK_LINK_UPS : Fld := ⟨Reg.PLNK_LINK, 31, 16⟩
abbrev Fld.PLNK_LINK_LOAD_PCT : Fld := ⟨Reg.PLNK_LINK, 15, 8⟩
abbrev Fld.PLNK_LINK_SQI : Fld := ⟨Reg.PLNK_LINK, 7, 5⟩
abbrev Fld.PLNK_LINK_MASTER : Fld := ⟨Reg.PLNK_LINK, 2, 2⟩
abbrev Fld.PLNK_LINK_ENABLE : Fld := ⟨Reg.PLNK_LINK, 1, 1⟩
abbrev Fld.PLNK_LINK_UP : Fld := ⟨Reg.PLNK_LINK, 0, 0⟩
abbrev Reg.PLNK_FRAMES_TX : Nat := 0x4001B044
abbrev Reg.PLNK_FRAMES_RX : Nat := 0x4001B048
abbrev Reg.PLNK_FCS_ERR : Nat := 0x4001B04C
abbrev Reg.PLNK_SEQ_GAPS : Nat := 0x4001B050
abbrev Reg.PLNK_MIRROR_DROP : Nat := 0x4001B054
abbrev Reg.PLNK_STALE : Nat := 0x4001B058
abbrev Reg.PLNK_FWD_MAX_NS : Nat := 0x4001B05C
abbrev Reg.PLNK_FWD_LATE : Nat := 0x4001B060

/-! TWB page registers. -/
abbrev Reg.TWB_TGT_CTL : Nat := 0x4001F040
abbrev Fld.TWB_TGT_CTL_ADDR : Fld := ⟨Reg.TWB_TGT_CTL, 6, 0⟩
abbrev Fld.TWB_TGT_CTL_PEC_REQ : Fld := ⟨Reg.TWB_TGT_CTL, 9, 9⟩
abbrev Fld.TWB_TGT_CTL_ENABLE : Fld := ⟨Reg.TWB_TGT_CTL, 8, 8⟩
abbrev Reg.TWB_BUS_CFG : Nat := 0x4001F048
abbrev Fld.TWB_BUS_CFG_SLOPE : Fld := ⟨Reg.TWB_BUS_CFG, 3, 2⟩
abbrev Fld.TWB_BUS_CFG_SPEED : Fld := ⟨Reg.TWB_BUS_CFG, 1, 0⟩
abbrev Fld.TWB_BUS_CFG_HOLDER_ONLY : Fld := ⟨Reg.TWB_BUS_CFG, 4, 4⟩
abbrev Reg.TWB_C_CTL : Nat := 0x4001F04C
abbrev Fld.TWB_C_CTL_ADDR : Fld := ⟨Reg.TWB_C_CTL, 6, 0⟩
abbrev Fld.TWB_C_CTL_CANCEL : Fld := ⟨Reg.TWB_C_CTL, 10, 10⟩
abbrev Fld.TWB_C_CTL_GO : Fld := ⟨Reg.TWB_C_CTL, 9, 9⟩
abbrev Fld.TWB_C_CTL_RETRY : Fld := ⟨Reg.TWB_C_CTL, 8, 8⟩
abbrev Fld.TWB_C_CTL_PEC : Fld := ⟨Reg.TWB_C_CTL, 7, 7⟩
abbrev Reg.TWB_C_CMD : Nat := 0x4001F050
abbrev Fld.TWB_C_CMD_RLEN : Fld := ⟨Reg.TWB_C_CMD, 31, 26⟩
abbrev Fld.TWB_C_CMD_WLEN : Fld := ⟨Reg.TWB_C_CMD, 25, 20⟩
abbrev Fld.TWB_C_CMD_CODE : Fld := ⟨Reg.TWB_C_CMD, 15, 8⟩
abbrev Fld.TWB_C_CMD_PROT : Fld := ⟨Reg.TWB_C_CMD, 3, 0⟩
abbrev Reg.TWB_C_STATUS : Nat := 0x4001F054
abbrev Fld.TWB_C_STATUS_COUNT : Fld := ⟨Reg.TWB_C_STATUS, 23, 16⟩
abbrev Fld.TWB_C_STATUS_RESULT : Fld := ⟨Reg.TWB_C_STATUS, 15, 8⟩
abbrev Fld.TWB_C_STATUS_RETRIED : Fld := ⟨Reg.TWB_C_STATUS, 1, 1⟩
abbrev Fld.TWB_C_STATUS_BUSY : Fld := ⟨Reg.TWB_C_STATUS, 0, 0⟩
abbrev Reg.TWB_TGT_POINTER : Nat := 0x4001F044
abbrev Reg.TWB_C_DATA (i : Nat) : Nat := 0x4001F058 + i * 4
abbrev Reg.TWB_ARB_LOSSES : Nat := 0x4001F078
abbrev Reg.TWB_PROTO_ERRS : Nat := 0x4001F07C
abbrev Reg.TWB_TIMEOUTS : Nat := 0x4001F080
abbrev Reg.TWB_PEC_ERRS : Nat := 0x4001F084
abbrev Reg.TWB_BUSY_NACKS : Nat := 0x4001F088
abbrev Reg.TWB_CMD_ERR : Nat := 0x4001F08C
abbrev Reg.TWB_TGT_READS : Nat := 0x4001F090

/-! UPD page registers. -/
abbrev Reg.UPD_CTL : Nat := 0x40007040
abbrev Fld.UPD_CTL_KINDS : Fld := ⟨Reg.UPD_CTL, 11, 7⟩
abbrev Fld.UPD_CTL_NEXT_START : Fld := ⟨Reg.UPD_CTL, 5, 5⟩
abbrev Fld.UPD_CTL_REVERT : Fld := ⟨Reg.UPD_CTL, 4, 4⟩
abbrev Fld.UPD_CTL_ARM : Fld := ⟨Reg.UPD_CTL, 3, 3⟩
abbrev Fld.UPD_CTL_ABORT : Fld := ⟨Reg.UPD_CTL, 2, 2⟩
abbrev Fld.UPD_CTL_BEGIN : Fld := ⟨Reg.UPD_CTL, 0, 0⟩
abbrev Reg.UPD_STATE : Nat := 0x40007044
abbrev Fld.UPD_STATE_POS : Fld := ⟨Reg.UPD_STATE, 31, 24⟩
abbrev Fld.UPD_STATE_REJECT : Fld := ⟨Reg.UPD_STATE, 23, 16⟩
abbrev Fld.UPD_STATE_RESULT : Fld := ⟨Reg.UPD_STATE, 15, 8⟩
abbrev Fld.UPD_STATE_KIND : Fld := ⟨Reg.UPD_STATE, 7, 4⟩
abbrev Fld.UPD_STATE_STATE : Fld := ⟨Reg.UPD_STATE, 3, 0⟩
abbrev Reg.UPD_BANKS : Nat := 0x40007050
abbrev Fld.UPD_BANKS_SAFE_OTHER_VALID : Fld := ⟨Reg.UPD_BANKS, 3, 3⟩
abbrev Fld.UPD_BANKS_SAFE_ACTIVE : Fld := ⟨Reg.UPD_BANKS, 2, 2⟩
abbrev Fld.UPD_BANKS_APP_OTHER_VALID : Fld := ⟨Reg.UPD_BANKS, 1, 1⟩
abbrev Fld.UPD_BANKS_APP_ACTIVE : Fld := ⟨Reg.UPD_BANKS, 0, 0⟩
abbrev Reg.UPD_RECEIVED : Nat := 0x40007048
abbrev Reg.UPD_ACTIVATE_AT : Nat := 0x4000704C
abbrev Reg.UPD_APP_VERSION : Nat := 0x40007054
abbrev Reg.UPD_SAFE_VERSION : Nat := 0x40007058
abbrev Reg.UPD_RECORD_VERSION : Nat := 0x4000705C
abbrev Reg.UPD_STAGED_KINDS : Nat := 0x40007060
abbrev Reg.UPD_NODES_DONE : Nat := 0x40007064
abbrev Reg.UPD_KEY_REVOKE : Nat := 0x40007068
abbrev Reg.UPD_KEY_STATE : Nat := 0x4000706C
abbrev Reg.UPD_FALLBACKS : Nat := 0x40007070
abbrev Reg.UPD_OS_DRIVE_IF : Nat := 0x40007074
abbrev Reg.UPD_DATA : Nat := 0x40007400

/-! EVR trigger words (R414, R425). -/
abbrev Reg.EVR_TRIG (i : Nat) : Nat := 0x40005100 + i * 8
abbrev Fld.EVR_TRIG_COUNT (i : Nat) : Fld := ⟨Reg.EVR_TRIG i, 27, 22⟩
abbrev Fld.EVR_TRIG_SOURCE (i : Nat) : Fld := ⟨Reg.EVR_TRIG i, 15, 8⟩
abbrev Fld.EVR_TRIG_BIT (i : Nat) : Fld := ⟨Reg.EVR_TRIG i, 4, 0⟩
abbrev Fld.EVR_TRIG_LIST (i : Nat) : Fld := ⟨Reg.EVR_TRIG i, 29, 28⟩
abbrev Fld.EVR_TRIG_ENABLE (i : Nat) : Fld := ⟨Reg.EVR_TRIG i, 31, 31⟩
abbrev Fld.EVR_TRIG_FREEZE (i : Nat) : Fld := ⟨Reg.EVR_TRIG i, 30, 30⟩
abbrev Fld.EVR_TRIG_HOLDOFF (i : Nat) : Fld := ⟨Reg.EVR_TRIG i + 4, 15, 0⟩
/-! Cell Margins of set `i` (R309, R334). -/
abbrev Fld.MRG_SET_VCELL_MAX (i : Nat) : Fld := ⟨Reg.MRG_SET_MARGIN i, 31, 16⟩
abbrev Fld.MRG_SET_VCELL_MIN (i : Nat) : Fld := ⟨Reg.MRG_SET_MARGIN i, 15, 0⟩
abbrev Fld.MRG_SET_TCHG_MAX (i : Nat) : Fld := ⟨Reg.MRG_SET_MARGIN i + 4, 31, 16⟩
abbrev Fld.MRG_SET_TCHG_MIN (i : Nat) : Fld := ⟨Reg.MRG_SET_MARGIN i + 4, 15, 0⟩
abbrev Fld.MRG_SET_TDIS_MAX (i : Nat) : Fld := ⟨Reg.MRG_SET_MARGIN i + 8, 31, 16⟩
abbrev Fld.MRG_SET_TDIS_MIN (i : Nat) : Fld := ⟨Reg.MRG_SET_MARGIN i + 8, 15, 0⟩


/-! Events (R42 and the event table of each page). -/
abbrev Ev.MODE_WAKE : Ev := ⟨0x01, 10⟩
abbrev Ev.MODE_LATCH_CLR_DENIED : Ev := ⟨0x01, 9⟩
abbrev Ev.MODE_STOP_LATCH_CLEARED : Ev := ⟨0x01, 8⟩
abbrev Ev.MODE_STOP_LATCH_SET : Ev := ⟨0x01, 7⟩
abbrev Ev.MODE_FUNC_OFF : Ev := ⟨0x01, 6⟩
abbrev Ev.MODE_TRANS_TIMEOUT : Ev := ⟨0x01, 5⟩
abbrev Ev.MODE_TRANS_ABORTED : Ev := ⟨0x01, 4⟩
abbrev Ev.MODE_REQ_REJECTED : Ev := ⟨0x01, 3⟩
abbrev Ev.MODE_REQ_DONE : Ev := ⟨0x01, 2⟩
abbrev Ev.MODE_MODE_CHANGED : Ev := ⟨0x01, 0⟩
abbrev Ev.SYS_VRA_SESSION : Ev := ⟨0x00, 6⟩
abbrev Ev.SYS_VRA_AUTH_FAIL : Ev := ⟨0x00, 5⟩
abbrev Ev.SYS_VARIANT_CONFLICT : Ev := ⟨0x00, 4⟩
abbrev Ev.SYS_ACCESS_WIDTH : Ev := ⟨0x00, 3⟩
abbrev Ev.SYS_UNMAPPED_ACCESS : Ev := ⟨0x00, 2⟩
abbrev Ev.SYS_OWNER_DENIED : Ev := ⟨0x00, 1⟩
abbrev Ev.SYS_ABSENT_WRITE : Ev := ⟨0x00, 0⟩
abbrev Ev.CLK_WAKE_OSC_FAULT : Ev := ⟨0x02, 3⟩
abbrev Ev.CLK_ROOT_DRIFT : Ev := ⟨0x02, 2⟩
abbrev Ev.CLK_CLK_FAULT : Ev := ⟨0x02, 1⟩
abbrev Ev.CLK_CLK_FAULT_SEEN : Ev := ⟨0x02, 0⟩
abbrev Ev.AUX_GPIO_CHANGE : Ev := ⟨0x22, 9⟩
abbrev Ev.AUX_ROLE_SEL_CHANGED : Ev := ⟨0x22, 8⟩
abbrev Ev.AUX_RESTART_REFUSED : Ev := ⟨0x22, 7⟩
abbrev Ev.AUX_SVC_HELD_AT_START : Ev := ⟨0x22, 6⟩
abbrev Ev.AUX_SVC_STUCK : Ev := ⟨0x22, 5⟩
abbrev Ev.AUX_SVC_COLD : Ev := ⟨0x22, 4⟩
abbrev Ev.AUX_SVC_WARM : Ev := ⟨0x22, 3⟩
abbrev Ev.AUX_ADDR_CONFLICT : Ev := ⟨0x22, 2⟩
abbrev Ev.AUX_ADDR_CLEARED : Ev := ⟨0x22, 1⟩
abbrev Ev.AUX_ADDR_TAKEN : Ev := ⟨0x22, 0⟩
abbrev Ev.CHN_RETRIG (n : Nat) : Ev := ⟨0x08 + n, 9⟩
abbrev Ev.CHN_REJOINED (n : Nat) : Ev := ⟨0x08 + n, 8⟩
abbrev Ev.CHN_SPLIT (n : Nat) : Ev := ⟨0x08 + n, 7⟩
abbrev Ev.CHN_SWEEP_PARTIAL (n : Nat) : Ev := ⟨0x08 + n, 6⟩
abbrev Ev.CHN_SWEEP_DONE (n : Nat) : Ev := ⟨0x08 + n, 5⟩
abbrev Ev.CHN_ALARM_RX (n : Nat) : Ev := ⟨0x08 + n, 4⟩
abbrev Ev.CHN_CODE_ERR (n : Nat) : Ev := ⟨0x08 + n, 3⟩
abbrev Ev.CHN_CRC_ERR (n : Nat) : Ev := ⟨0x08 + n, 2⟩
abbrev Ev.CHN_LINK_LOST (n : Nat) : Ev := ⟨0x08 + n, 1⟩
abbrev Ev.CHN_LINK_UP (n : Nat) : Ev := ⟨0x08 + n, 0⟩
abbrev Ev.NODE_STALE_MASTER : Ev := ⟨0x0A, 9⟩
abbrev Ev.NODE_REJOIN_DONE : Ev := ⟨0x0A, 8⟩
abbrev Ev.NODE_NREG_DONE : Ev := ⟨0x0A, 7⟩
abbrev Ev.NODE_DELAY_DRIFT : Ev := ⟨0x0A, 6⟩
abbrev Ev.NODE_LATE : Ev := ⟨0x0A, 5⟩
abbrev Ev.NODE_NODE_UNREACHABLE : Ev := ⟨0x0A, 4⟩
abbrev Ev.NODE_NODE_HEARD : Ev := ⟨0x0A, 3⟩
abbrev Ev.NODE_NODE_UNHEARD : Ev := ⟨0x0A, 2⟩
abbrev Ev.NODE_CHAIN_MISMATCH : Ev := ⟨0x0A, 1⟩
abbrev Ev.NODE_ENUM_DONE : Ev := ⟨0x0A, 0⟩
abbrev Ev.BAL_COMP_CFG_MISMATCH : Ev := ⟨0x16, 15⟩
abbrev Ev.BAL_FLOOP_AMPLITUDE : Ev := ⟨0x16, 14⟩
abbrev Ev.BAL_FLOOP_LOSS : Ev := ⟨0x16, 13⟩
abbrev Ev.BAL_SUSPECT_CLR_DENIED : Ev := ⟨0x16, 12⟩
abbrev Ev.BAL_SUSPECT_CLEARED : Ev := ⟨0x16, 11⟩
abbrev Ev.BAL_SENSE_SUSPECT : Ev := ⟨0x16, 10⟩
abbrev Ev.BAL_PAIR_SIGNATURE : Ev := ⟨0x16, 9⟩
abbrev Ev.BAL_PROOF_MISMATCH : Ev := ⟨0x16, 8⟩
abbrev Ev.BAL_OWT_FAIL : Ev := ⟨0x16, 7⟩
abbrev Ev.BAL_OWT_DONE : Ev := ⟨0x16, 6⟩
abbrev Ev.BAL_NODE_HOT : Ev := ⟨0x16, 5⟩
abbrev Ev.BAL_BLEED_STUCK : Ev := ⟨0x16, 4⟩
abbrev Ev.BAL_QUIET_SKIP : Ev := ⟨0x16, 3⟩
abbrev Ev.BAL_PLAN_CLAMPED : Ev := ⟨0x16, 2⟩
abbrev Ev.BAL_BLEED_OFF : Ev := ⟨0x16, 1⟩
abbrev Ev.BAL_BLEED_ON : Ev := ⟨0x16, 0⟩
abbrev Ev.MEAS_OFFSET_SKIPPED : Ev := ⟨0x0B, 10⟩
abbrev Ev.MEAS_CHG_GAP : Ev := ⟨0x0B, 9⟩
abbrev Ev.MEAS_IMD_CONN_FAULT : Ev := ⟨0x0B, 8⟩
abbrev Ev.MEAS_IMD_ALARM : Ev := ⟨0x0B, 7⟩
abbrev Ev.MEAS_IMD_WARN : Ev := ⟨0x0B, 6⟩
abbrev Ev.MEAS_IMD_DONE : Ev := ⟨0x0B, 5⟩
abbrev Ev.MEAS_HV_BACK : Ev := ⟨0x0B, 4⟩
abbrev Ev.MEAS_HV_LOST : Ev := ⟨0x0B, 3⟩
abbrev Ev.MEAS_OFFSET_HIGH : Ev := ⟨0x0B, 2⟩
abbrev Ev.MEAS_OFFSET_DONE : Ev := ⟨0x0B, 1⟩
abbrev Ev.MEAS_OVERRANGE : Ev := ⟨0x0B, 0⟩
abbrev Ev.VOTE_SUM_MISMATCH : Ev := ⟨0x0C, 9⟩
abbrev Ev.VOTE_V_LOST : Ev := ⟨0x0C, 8⟩
abbrev Ev.VOTE_V_SINGLE : Ev := ⟨0x0C, 7⟩
abbrev Ev.VOTE_V_DEGRADED : Ev := ⟨0x0C, 6⟩
abbrev Ev.VOTE_CUR_LOST : Ev := ⟨0x0C, 5⟩
abbrev Ev.VOTE_CUR_DEGRADED : Ev := ⟨0x0C, 4⟩
abbrev Ev.VOTE_CH_READMITTED : Ev := ⟨0x0C, 3⟩
abbrev Ev.VOTE_CH_EXCLUDED : Ev := ⟨0x0C, 2⟩
abbrev Ev.VOTE_CH_INVALID : Ev := ⟨0x0C, 1⟩
abbrev Ev.VOTE_CH_DISAGREE : Ev := ⟨0x0C, 0⟩
abbrev Ev.EST_CAP_SET_DENIED : Ev := ⟨0x13, 19⟩
abbrev Ev.EST_CAP_SET_DONE : Ev := ⟨0x13, 18⟩
abbrev Ev.EST_EST_OVERRUN : Ev := ⟨0x13, 17⟩
abbrev Ev.EST_FILTER_REINIT : Ev := ⟨0x13, 16⟩
abbrev Ev.EST_STALE_CELL : Ev := ⟨0x13, 15⟩
abbrev Ev.EST_CAP_DRIFT : Ev := ⟨0x13, 14⟩
abbrev Ev.EST_CAP_SUSPECT : Ev := ⟨0x13, 13⟩
abbrev Ev.EST_CAP_LEARNED : Ev := ⟨0x13, 12⟩
abbrev Ev.EST_ANCHOR_REFUSED : Ev := ⟨0x13, 11⟩
abbrev Ev.EST_ANCHOR_FAIL : Ev := ⟨0x13, 10⟩
abbrev Ev.EST_ANCHOR_DONE : Ev := ⟨0x13, 9⟩
abbrev Ev.EST_NO_ANCHOR : Ev := ⟨0x13, 8⟩
abbrev Ev.EST_CHARGE_VOLTAGE_DISAGREE : Ev := ⟨0x13, 7⟩
abbrev Ev.EST_FULL : Ev := ⟨0x13, 6⟩
abbrev Ev.EST_EMPTY : Ev := ⟨0x13, 5⟩
abbrev Ev.EST_HIGH_SOC : Ev := ⟨0x13, 4⟩
abbrev Ev.EST_LOW_SOC : Ev := ⟨0x13, 3⟩
abbrev Ev.EST_EST_RESUMED : Ev := ⟨0x13, 2⟩
abbrev Ev.EST_EST_SUSPENDED : Ev := ⟨0x13, 1⟩
abbrev Ev.EST_EST_DONE : Ev := ⟨0x13, 0⟩
abbrev Ev.CELL_WINDOW_WRITE : Ev := ⟨0x14, 1⟩
abbrev Ev.CELL_HOLD_EXPIRED : Ev := ⟨0x14, 0⟩
abbrev Ev.ASY_BUFFER_WRITE : Ev := ⟨0x15, 13⟩
abbrev Ev.ASY_AMPL_CLAMPED : Ev := ⟨0x15, 12⟩
abbrev Ev.ASY_START_REFUSED : Ev := ⟨0x15, 11⟩
abbrev Ev.ASY_TCAL_OUTLIER : Ev := ⟨0x15, 10⟩
abbrev Ev.ASY_TCAL_DONE : Ev := ⟨0x15, 9⟩
abbrev Ev.ASY_CORE_TEMP_DISAGREE : Ev := ⟨0x15, 8⟩
abbrev Ev.ASY_OUTLIER : Ev := ⟨0x15, 7⟩
abbrev Ev.ASY_METRICS_DONE : Ev := ⟨0x15, 6⟩
abbrev Ev.ASY_BIN_INVALID : Ev := ⟨0x15, 5⟩
abbrev Ev.ASY_BIN_RETRY : Ev := ⟨0x15, 4⟩
abbrev Ev.ASY_BIN_DONE : Ev := ⟨0x15, 3⟩
abbrev Ev.ASY_RUN_ABORTED : Ev := ⟨0x15, 2⟩
abbrev Ev.ASY_RUN_DONE : Ev := ⟨0x15, 1⟩
abbrev Ev.ASY_RUN_START : Ev := ⟨0x15, 0⟩
abbrev Ev.LOOP_RESUME_REFUSED : Ev := ⟨0x10, 10⟩
abbrev Ev.LOOP_BINDING : Ev := ⟨0x10, 9⟩
abbrev Ev.LOOP_RESUMED : Ev := ⟨0x10, 8⟩
abbrev Ev.LOOP_FALLBACK : Ev := ⟨0x10, 7⟩
abbrev Ev.LOOP_THERMAL_HOLD : Ev := ⟨0x10, 6⟩
abbrev Ev.LOOP_ACC_SAT : Ev := ⟨0x10, 5⟩
abbrev Ev.LOOP_SAT_ENTER : Ev := ⟨0x10, 4⟩
abbrev Ev.LOOP_CFG_REFUSED : Ev := ⟨0x10, 3⟩
abbrev Ev.LOOP_SWAP_REFUSED : Ev := ⟨0x10, 2⟩
abbrev Ev.LOOP_SWAP_DONE : Ev := ⟨0x10, 1⟩
abbrev Ev.LOOP_FEEDBACK_LOST : Ev := ⟨0x10, 0⟩
abbrev Ev.PROF_SOURCE_CHANGED : Ev := ⟨0x11, 6⟩
abbrev Ev.PROF_TARGET_IGNORED : Ev := ⟨0x11, 5⟩
abbrev Ev.PROF_TARGET_KEPT : Ev := ⟨0x11, 4⟩
abbrev Ev.PROF_LIMIT_IGNORED : Ev := ⟨0x11, 3⟩
abbrev Ev.PROF_BOUND_RAMP : Ev := ⟨0x11, 2⟩
abbrev Ev.PROF_TARGET_CLAMPED : Ev := ⟨0x11, 1⟩
abbrev Ev.PROF_ARRIVED : Ev := ⟨0x11, 0⟩
abbrev Ev.THM_OUT_SOURCE : Ev := ⟨0x17, 4⟩
abbrev Ev.THM_FLOW_LOW : Ev := ⟨0x17, 3⟩
abbrev Ev.THM_FAN_STALL : Ev := ⟨0x17, 2⟩
abbrev Ev.THM_TIN_OK : Ev := ⟨0x17, 1⟩
abbrev Ev.THM_TIN_FAULT : Ev := ⟨0x17, 0⟩
abbrev Ev.DRV_DUTY_CLAMPED : Ev := ⟨0x12, 15⟩
abbrev Ev.DRV_PERTURB_ZERO : Ev := ⟨0x12, 14⟩
abbrev Ev.DRV_OS_FAULT : Ev := ⟨0x12, 13⟩
abbrev Ev.DRV_EN_TEST_FAIL : Ev := ⟨0x12, 12⟩
abbrev Ev.DRV_FB_DISAGREE : Ev := ⟨0x12, 11⟩
abbrev Ev.DRV_CONTACTOR_WELD : Ev := ⟨0x12, 10⟩
abbrev Ev.DRV_SEQ_FAIL : Ev := ⟨0x12, 9⟩
abbrev Ev.DRV_PRECHARGE_DONE : Ev := ⟨0x12, 8⟩
abbrev Ev.DRV_EDITION_HIGHER : Ev := ⟨0x12, 7⟩
abbrev Ev.DRV_LEASE_LOST : Ev := ⟨0x12, 6⟩
abbrev Ev.DRV_CLAIM_REFUSED : Ev := ⟨0x12, 5⟩
abbrev Ev.DRV_CLAIM_GRANTED : Ev := ⟨0x12, 4⟩
abbrev Ev.DRV_LINK_LOST : Ev := ⟨0x12, 3⟩
abbrev Ev.DRV_LINK_UP : Ev := ⟨0x12, 2⟩
abbrev Ev.DRV_PWM_INHIBITED : Ev := ⟨0x12, 1⟩
abbrev Ev.DRV_PWM_ENABLED : Ev := ⟨0x12, 0⟩
abbrev Ev.MRG_ELL_DENIED : Ev := ⟨0x0D, 4⟩
abbrev Ev.MRG_CFG_CRC_FAIL : Ev := ⟨0x0D, 3⟩
abbrev Ev.MRG_SELFTEST_FAIL : Ev := ⟨0x0D, 2⟩
abbrev Ev.MRG_POLICY_CLAMPED : Ev := ⟨0x0D, 1⟩
abbrev Ev.MRG_TRIP : Ev := ⟨0x0D, 0⟩
abbrev Ev.SAFE_LOCKSTEP : Ev := ⟨0x0E, 9⟩
abbrev Ev.SAFE_ECC_CORRECTED : Ev := ⟨0x0E, 8⟩
abbrev Ev.SAFE_CAUSE_CLEARED : Ev := ⟨0x0E, 7⟩
abbrev Ev.SAFE_CAUSE_SET : Ev := ⟨0x0E, 6⟩
abbrev Ev.SAFE_ELL_EXPIRED : Ev := ⟨0x0E, 5⟩
abbrev Ev.SAFE_ELL_ENTER : Ev := ⟨0x0E, 4⟩
abbrev Ev.SAFE_NO_RAMP : Ev := ⟨0x0E, 3⟩
abbrev Ev.SAFE_RAMP_FAILED : Ev := ⟨0x0E, 2⟩
abbrev Ev.SAFE_FS_DONE : Ev := ⟨0x0E, 1⟩
abbrev Ev.SAFE_FS_START : Ev := ⟨0x0E, 0⟩
abbrev Ev.SIO_FB_TEST_FAIL : Ev := ⟨0x0F, 6⟩
abbrev Ev.SIO_FB_UNEXPECTED : Ev := ⟨0x0F, 5⟩
abbrev Ev.SIO_DISC_CLEARED : Ev := ⟨0x0F, 4⟩
abbrev Ev.SIO_DISC_FAULT : Ev := ⟨0x0F, 3⟩
abbrev Ev.SIO_MISMATCH : Ev := ⟨0x0F, 2⟩
abbrev Ev.SIO_PAIR_RUN : Ev := ⟨0x0F, 1⟩
abbrev Ev.SIO_PAIR_STOP : Ev := ⟨0x0F, 0⟩
abbrev Ev.PAIR_BLIND : Ev := ⟨0x18, 15⟩
abbrev Ev.PAIR_STOP_REQ_RX : Ev := ⟨0x18, 14⟩
abbrev Ev.PAIR_CFG_DIFFER : Ev := ⟨0x18, 13⟩
abbrev Ev.PAIR_SWAP_OVERDUE : Ev := ⟨0x18, 12⟩
abbrev Ev.PAIR_SWAP_FAIL : Ev := ⟨0x18, 11⟩
abbrev Ev.PAIR_SWAP_DONE : Ev := ⟨0x18, 10⟩
abbrev Ev.PAIR_MIRROR_STALE : Ev := ⟨0x18, 9⟩
abbrev Ev.PAIR_SYNCED : Ev := ⟨0x18, 8⟩
abbrev Ev.PAIR_DEMOTED : Ev := ⟨0x18, 7⟩
abbrev Ev.PAIR_TAKEOVER : Ev := ⟨0x18, 6⟩
abbrev Ev.PAIR_SPLIT_CLEARED : Ev := ⟨0x18, 5⟩
abbrev Ev.PAIR_PAIR_SPLIT : Ev := ⟨0x18, 4⟩
abbrev Ev.PAIR_HB_PATH_BACK : Ev := ⟨0x18, 3⟩
abbrev Ev.PAIR_HB_PATH_LOST : Ev := ⟨0x18, 2⟩
abbrev Ev.PAIR_PARTNER_BACK : Ev := ⟨0x18, 1⟩
abbrev Ev.PAIR_PARTNER_LOST : Ev := ⟨0x18, 0⟩
abbrev Ev.CYC_CMD_IGNORED : Ev := ⟨0x20, 15⟩
abbrev Ev.CYC_SERVICE_TRAP : Ev := ⟨0x20, 14⟩
abbrev Ev.CYC_USER_NOTE : Ev := ⟨0x20, 13⟩
abbrev Ev.CYC_CFG_REFUSED : Ev := ⟨0x20, 12⟩
abbrev Ev.CYC_RETAIN_INVALID : Ev := ⟨0x20, 11⟩
abbrev Ev.CYC_SHADOW_INVALID : Ev := ⟨0x20, 10⟩
abbrev Ev.CYC_EXCHANGE_FAIL : Ev := ⟨0x20, 9⟩
abbrev Ev.CYC_EXCHANGED : Ev := ⟨0x20, 8⟩
abbrev Ev.CYC_OUT_REFUSED : Ev := ⟨0x20, 7⟩
abbrev Ev.CYC_TRAP : Ev := ⟨0x20, 6⟩
abbrev Ev.CYC_HOLD_LIMIT : Ev := ⟨0x20, 5⟩
abbrev Ev.CYC_HOLD_ENTER : Ev := ⟨0x20, 4⟩
abbrev Ev.CYC_OVR_LIMIT : Ev := ⟨0x20, 3⟩
abbrev Ev.CYC_OVERRUN : Ev := ⟨0x20, 2⟩
abbrev Ev.CYC_STATE_CHANGED : Ev := ⟨0x20, 1⟩
abbrev Ev.CYC_CYCLE_START : Ev := ⟨0x20, 0⟩
abbrev Ev.TMR_IN_IGNORED : Ev := ⟨0x21, 1⟩
abbrev Ev.TMR_TMR_RETYPED : Ev := ⟨0x21, 0⟩
abbrev Ev.SEQ_SEQ_WRAP : Ev := ⟨0x04, 1⟩
abbrev Ev.SEQ_CORE_OVERFLOW : Ev := ⟨0x04, 0⟩
abbrev Ev.EVR_WINDOW_WRITE : Ev := ⟨0x05, 5⟩
abbrev Ev.EVR_TRIG_REFUSED : Ev := ⟨0x05, 4⟩
abbrev Ev.EVR_FREEZE_EXPIRED : Ev := ⟨0x05, 3⟩
abbrev Ev.EVR_FROZEN : Ev := ⟨0x05, 2⟩
abbrev Ev.EVR_CURSOR_READY : Ev := ⟨0x05, 1⟩
abbrev Ev.EVR_RECORD : Ev := ⟨0x05, 0⟩
abbrev Ev.GAL_LINE_DISCARDED : Ev := ⟨0x06, 5⟩
abbrev Ev.GAL_REPLAY_BACK : Ev := ⟨0x06, 4⟩
abbrev Ev.GAL_REPLAY_FWD : Ev := ⟨0x06, 3⟩
abbrev Ev.GAL_LINE_ROLLED_BACK : Ev := ⟨0x06, 2⟩
abbrev Ev.GAL_LINE_CLOSED : Ev := ⟨0x06, 1⟩
abbrev Ev.GAL_LINE_OPEN : Ev := ⟨0x06, 0⟩
abbrev Ev.TIME_LAUNCH_LATE : Ev := ⟨0x03, 9⟩
abbrev Ev.TIME_TRIG_FIRED : Ev := ⟨0x03, 8⟩
abbrev Ev.TIME_PAIR_UNALIGNED : Ev := ⟨0x03, 7⟩
abbrev Ev.TIME_PAIR_ALIGNED : Ev := ⟨0x03, 6⟩
abbrev Ev.TIME_HOLDOVER : Ev := ⟨0x03, 5⟩
abbrev Ev.TIME_GM_CHANGED : Ev := ⟨0x03, 4⟩
abbrev Ev.TIME_STEP_REFUSED : Ev := ⟨0x03, 3⟩
abbrev Ev.TIME_STEPPED : Ev := ⟨0x03, 2⟩
abbrev Ev.TIME_SYNC_LOST : Ev := ⟨0x03, 1⟩
abbrev Ev.TIME_LOCKED : Ev := ⟨0x03, 0⟩
abbrev Ev.CAN_CONNECT_ACK (n : Nat) : Ev := ⟨0x1C + n, 14⟩
abbrev Ev.CAN_TREF_LOST (n : Nat) : Ev := ⟨0x1C + n, 13⟩
abbrev Ev.CAN_TREF_RX (n : Nat) : Ev := ⟨0x1C + n, 12⟩
abbrev Ev.CAN_PROTO_EXC (n : Nat) : Ev := ⟨0x1C + n, 11⟩
abbrev Ev.CAN_CFG_REFUSED (n : Nat) : Ev := ⟨0x1C + n, 10⟩
abbrev Ev.CAN_ID_COLLISION (n : Nat) : Ev := ⟨0x1C + n, 9⟩
abbrev Ev.CAN_BUS_ON (n : Nat) : Ev := ⟨0x1C + n, 8⟩
abbrev Ev.CAN_BUS_OFF (n : Nat) : Ev := ⟨0x1C + n, 7⟩
abbrev Ev.CAN_ERR_PASSIVE (n : Nat) : Ev := ⟨0x1C + n, 6⟩
abbrev Ev.CAN_ERR_WARNING (n : Nat) : Ev := ⟨0x1C + n, 5⟩
abbrev Ev.CAN_RXQ_OVERFLOW (n : Nat) : Ev := ⟨0x1C + n, 4⟩
abbrev Ev.CAN_TX_DENIED (n : Nat) : Ev := ⟨0x1C + n, 3⟩
abbrev Ev.CAN_TX_LATE (n : Nat) : Ev := ⟨0x1C + n, 2⟩
abbrev Ev.CAN_RX_NEW (n : Nat) : Ev := ⟨0x1C + n, 1⟩
abbrev Ev.CAN_TX_DONE (n : Nat) : Ev := ⟨0x1C + n, 0⟩
abbrev Ev.FLT_SPAN_REFUSED : Ev := ⟨0x1E, 1⟩
abbrev Ev.FLT_ELEM_REFUSED : Ev := ⟨0x1E, 0⟩
abbrev Ev.ETH_AUTH_FAIL (n : Nat) : Ev := ⟨0x19 + n, 5⟩
abbrev Ev.ETH_RX_NO_DESC (n : Nat) : Ev := ⟨0x19 + n, 4⟩
abbrev Ev.ETH_RX_NEW (n : Nat) : Ev := ⟨0x19 + n, 3⟩
abbrev Ev.ETH_TX_DONE (n : Nat) : Ev := ⟨0x19 + n, 2⟩
abbrev Ev.ETH_LINK_DOWN (n : Nat) : Ev := ⟨0x19 + n, 1⟩
abbrev Ev.ETH_LINK_UP (n : Nat) : Ev := ⟨0x19 + n, 0⟩
abbrev Ev.PLNK_FWD_LATE : Ev := ⟨0x1B, 4⟩
abbrev Ev.PLNK_MIRROR_DROP : Ev := ⟨0x1B, 3⟩
abbrev Ev.PLNK_SEQ_GAP : Ev := ⟨0x1B, 2⟩
abbrev Ev.PLNK_LINK_DOWN : Ev := ⟨0x1B, 1⟩
abbrev Ev.PLNK_LINK_UP : Ev := ⟨0x1B, 0⟩
abbrev Ev.TWB_CFG_REFUSED : Ev := ⟨0x1F, 9⟩
abbrev Ev.TWB_CMD_UNKNOWN : Ev := ⟨0x1F, 8⟩
abbrev Ev.TWB_PEC_ERR : Ev := ⟨0x1F, 7⟩
abbrev Ev.TWB_BUS_STUCK : Ev := ⟨0x1F, 6⟩
abbrev Ev.TWB_TIMEOUT : Ev := ⟨0x1F, 5⟩
abbrev Ev.TWB_PROTO_ERR : Ev := ⟨0x1F, 4⟩
abbrev Ev.TWB_ARB_LOST_SR : Ev := ⟨0x1F, 3⟩
abbrev Ev.TWB_ARB_LOST : Ev := ⟨0x1F, 2⟩
abbrev Ev.TWB_C_FAIL : Ev := ⟨0x1F, 1⟩
abbrev Ev.TWB_C_DONE : Ev := ⟨0x1F, 0⟩
abbrev Ev.UPD_KEY_REVOKED : Ev := ⟨0x07, 9⟩
abbrev Ev.UPD_BANK_FALLBACK : Ev := ⟨0x07, 8⟩
abbrev Ev.UPD_NODE_DONE : Ev := ⟨0x07, 7⟩
abbrev Ev.UPD_DATA_REFUSED : Ev := ⟨0x07, 6⟩
abbrev Ev.UPD_ACTIVATE_FAIL : Ev := ⟨0x07, 5⟩
abbrev Ev.UPD_ACTIVATED : Ev := ⟨0x07, 4⟩
abbrev Ev.UPD_ARMED : Ev := ⟨0x07, 3⟩
abbrev Ev.UPD_READY : Ev := ⟨0x07, 2⟩
abbrev Ev.UPD_REJECTED : Ev := ⟨0x07, 1⟩
abbrev Ev.UPD_HEADER_OK : Ev := ⟨0x07, 0⟩

/-- Reset words of the register tables, part 0 (address, word); fields whose reset is loaded at start-up are 0. -/
def resetWords0 : List (Nat × Nat) := [
  (0x40000000, 0x00010100),
  (0x40000004, 0x00000001),
  (0x40000014, 0x00000007),
  (0x40000040, 0x20640001),
  (0x40000068, 0x003C0001),
  (0x40001000, 0x01020100),
  (0x40001004, 0x00000001),
  (0x40001014, 0x00000017),
  (0x40001040, 0x00220008),
  (0x40001064, 0x00000BB8),
  (0x40001068, 0x000007D0),
  (0x4000106C, 0x00000001),
  (0x40001070, 0x00000097),
  (0x40002000, 0x02030100),
  (0x40002004, 0x00000001),
  (0x40002014, 0x00000007),
  (0x40002040, 0x00010003),
  (0x40002054, 0x80000000),
  (0x40002058, 0x00002710),
  (0x4000205C, 0x000003E8),
  (0x40002064, 0x000003E8),
  (0x40003000, 0x03040100),
  (0x40003004, 0x00000001),
  (0x40003014, 0x00000007),
  (0x4000304C, 0x00000004),
  (0x40003060, 0x000F4240),
  (0x40003064, 0x00640030),
  (0x40003074, 0x01808000),
  (0x400030A0, 0x000A0000),
  (0x400030AC, 0x0000000C),
  (0x40004000, 0x04050100),
  (0x40004004, 0x00000001),
  (0x40004014, 0x00000007),
  (0x40004040, 0x00000003),
  (0x40005000, 0x05060100),
  (0x40005004, 0x00000001),
  (0x40005014, 0x00000007),
  (0x40005040, 0x003C0002),
  (0x40006000, 0x06070100),
  (0x40006004, 0x00000001)]

/-- Reset words of the register tables, part 1 (address, word); fields whose reset is loaded at start-up are 0. -/
def resetWords1 : List (Nat × Nat) := [
  (0x40006014, 0x00000003),
  (0x40006060, 0xFFFFFFFF),
  (0x40006064, 0xFFFFFFFF),
  (0x40006068, 0xFFFFFFFF),
  (0x4000606C, 0xFFFFFFFF),
  (0x40007000, 0x07080100),
  (0x40007004, 0x00000001),
  (0x40007014, 0x00000007),
  (0x40008000, 0x08090100),
  (0x40008004, 0x00000001),
  (0x40008014, 0x00000007),
  (0x40008060, 0x006E0000),
  (0x40008070, 0x00FFFF00),
  (0x40008074, 0x0000000A),
  (0x40008078, 0x00000004),
  (0x40009000, 0x09090100),
  (0x40009004, 0x00000001),
  (0x40009014, 0x00000007),
  (0x4000A000, 0x0A0A0100),
  (0x4000A004, 0x00000001),
  (0x4000A014, 0x00000007),
  (0x4000A04C, 0x00000001),
  (0x4000A05C, 0xFFFFFFFF),
  (0x4000B000, 0x0B0B0100),
  (0x4000B004, 0x00000001),
  (0x4000B014, 0x00000007),
  (0x4000B060, 0x000000FF),
  (0x4000B070, 0xFFFFFF00),
  (0x4000B074, 0xFFFF00FF),
  (0x4000B09C, 0xFFFFFFFF),
  (0x4000C000, 0x0C0C0100),
  (0x4000C004, 0x00000001),
  (0x4000C014, 0x00000002),
  (0x4000C064, 0x27100190),
  (0x4000C068, 0x138800C8),
  (0x4000C074, 0x0001000A),
  (0x4000D000, 0x0D0D0100),
  (0x4000D004, 0x00000001),
  (0x4000D014, 0x00000002),
  (0x4000D048, 0x02020A0A)]

/-- Reset words of the register tables, part 2 (address, word); fields whose reset is loaded at start-up are 0. -/
def resetWords2 : List (Nat × Nat) := [
  (0x4000D058, 0xFFFF0000),
  (0x4000D06C, 0x0000FF00),
  (0x4000E000, 0x0E0E0100),
  (0x4000E004, 0x00000001),
  (0x4000E014, 0x00000002),
  (0x4000E040, 0x00000001),
  (0x4000E04C, 0x02580014),
  (0x4000F000, 0x0F0F0100),
  (0x4000F004, 0x00000001),
  (0x4000F014, 0x00000002),
  (0x4000F060, 0x00005555),
  (0x4000F068, 0x00000700),
  (0x40010000, 0x10100100),
  (0x40010004, 0x00000001),
  (0x40010014, 0x00000007),
  (0x40010044, 0x00000100),
  (0x40010050, 0x00000001),
  (0x40010090, 0x00000064),
  (0x40011000, 0x11110100),
  (0x40011004, 0x00000001),
  (0x40011014, 0x00000007),
  (0x40011048, 0x000003E8),
  (0x4001104C, 0x00002710),
  (0x40011050, 0x000F4240),
  (0x40012000, 0x12120100),
  (0x40012004, 0x00000001),
  (0x40012014, 0x00000003),
  (0x40012058, 0x00000053),
  (0x40013000, 0x13130100),
  (0x40013004, 0x00000001),
  (0x40013014, 0x00000007),
  (0x40013040, 0x00000009),
  (0x40013058, 0x232803E8),
  (0x40013060, 0x00320014),
  (0x400130A0, 0x000001F4),
  (0x40014000, 0x14140100),
  (0x40014004, 0x00000001),
  (0x40014014, 0x00000007),
  (0x40014050, 0x00002710),
  (0x40015000, 0x15150100)]

/-- Reset words of the register tables, part 3 (address, word); fields whose reset is loaded at start-up are 0. -/
def resetWords3 : List (Nat × Nat) := [
  (0x40015004, 0x00000001),
  (0x40015014, 0x00000007),
  (0x40015040, 0x00140000),
  (0x40015060, 0x0A020401),
  (0x40015064, 0x000000C8),
  (0x40015094, 0x00003201),
  (0x40015098, 0x00000019),
  (0x40016000, 0x16160100),
  (0x40016004, 0x00000001),
  (0x40016014, 0x00000007),
  (0x40016044, 0x00000001),
  (0x40017000, 0x17170100),
  (0x40017004, 0x00000001),
  (0x40017014, 0x00000007),
  (0x4001706C, 0x80000000),
  (0x40017070, 0x80000000),
  (0x40017074, 0x80000000),
  (0x40017078, 0x80000000),
  (0x40017088, 0x0000000A),
  (0x4001708C, 0x000FFFFF),
  (0x40017090, 0x0000012C),
  (0x40017094, 0x00000064),
  (0x40018000, 0x18180100),
  (0x40018004, 0x00000001),
  (0x40018014, 0x00000003),
  (0x40018040, 0x00000001),
  (0x40018048, 0x00000009),
  (0x4001804C, 0x00040018),
  (0x40018068, 0xFFFFFFFF),
  (0x40019000, 0x19190100),
  (0x40019004, 0x00000001),
  (0x40019014, 0x00000007),
  (0x40019040, 0x00000007),
  (0x4001904C, 0x00000010),
  (0x4001905C, 0x00000010),
  (0x40019084, 0x00000017),
  (0x4001A000, 0x1A190100),
  (0x4001A004, 0x00000001),
  (0x4001A014, 0x00000007),
  (0x4001A040, 0x00000007)]

/-- Reset words of the register tables, part 4 (address, word); fields whose reset is loaded at start-up are 0. -/
def resetWords4 : List (Nat × Nat) := [
  (0x4001A04C, 0x00000010),
  (0x4001A05C, 0x00000010),
  (0x4001A084, 0x00000017),
  (0x4001B000, 0x1B1A0100),
  (0x4001B004, 0x00000001),
  (0x4001B014, 0x00000003),
  (0x4001C000, 0x1C1B0100),
  (0x4001C004, 0x00000001),
  (0x4001C014, 0x00000007),
  (0x4001C040, 0x00000040),
  (0x4001C06C, 0x00000080),
  (0x4001C070, 0x00000080),
  (0x4001C074, 0x00000080),
  (0x4001C078, 0x00000080),
  (0x4001C090, 0x03E87F00),
  (0x4001C09C, 0x0000003F),
  (0x4001C0A4, 0x000003E8),
  (0x4001D000, 0x1D1B0100),
  (0x4001D004, 0x00000001),
  (0x4001D014, 0x00000007),
  (0x4001D040, 0x00000040),
  (0x4001D06C, 0x00000080),
  (0x4001D070, 0x00000080),
  (0x4001D074, 0x00000080),
  (0x4001D078, 0x00000080),
  (0x4001D090, 0x03E87F00),
  (0x4001D09C, 0x0000003F),
  (0x4001D0A4, 0x000003E8),
  (0x4001E000, 0x1E1C0100),
  (0x4001E004, 0x00000001),
  (0x4001E014, 0x00000007),
  (0x4001E048, 0x00000100),
  (0x4001F000, 0x1F1D0100),
  (0x4001F004, 0x00000001),
  (0x4001F014, 0x00000007),
  (0x4001F040, 0x00000100),
  (0x4001F04C, 0x00000100),
  (0x40020000, 0x201E0100),
  (0x40020004, 0x00000001),
  (0x40020014, 0x00000003)]

/-- Reset words of the register tables, part 5 (address, word); fields whose reset is loaded at start-up are 0. -/
def resetWords5 : List (Nat × Nat) := [
  (0x4002004C, 0x00000005),
  (0x40020050, 0x00000001),
  (0x40020054, 0xFFFF0000),
  (0x4002005C, 0x00FF0000),
  (0x40020080, 0x000003E8),
  (0x40021000, 0x211F0100),
  (0x40021004, 0x00000001),
  (0x40021014, 0x00000003),
  (0x40022000, 0x22200100),
  (0x40022004, 0x00000001),
  (0x40022014, 0x00000007),
  (0x4002204C, 0x00000007)]

/-- The nonzero register words that the spec states for reset, addresses rising. -/
def resetWords : List (Nat × Nat) :=
  resetWords0 ++ resetWords1 ++ resetWords2 ++ resetWords3 ++ resetWords4 ++ resetWords5

/-- Fields whose reset the tables give as "from MRAM", part 0. -/
def mramFlds0 : List Fld := [
  Fld.MODE_LATCH_COUNT, Fld.MODE_LATCH_CAUSE, Fld.MODE_LATCH_STOP_LATCH,
  ⟨Reg.SYS_HOURS, 31, 0⟩, ⟨Reg.SYS_POWER_CYCLES, 31, 0⟩, Fld.CLK_LAST_FAULT_CLOCK,
  Fld.CLK_LAST_FAULT_CODE, ⟨Reg.CLK_CAL_PPB, 31, 0⟩, Fld.AUX_ADDR_STRING_ADDR,
  ⟨Reg.BAL_SUSPECT_LO, 31, 0⟩, ⟨Reg.BAL_SUSPECT_HI, 31, 0⟩, ⟨Reg.BAL_STUCK_LO, 31, 0⟩,
  ⟨Reg.BAL_STUCK_HI, 31, 0⟩, ⟨Reg.MEAS_CHG_IN_LO, 31, 0⟩, ⟨Reg.MEAS_CHG_IN_HI, 31, 0⟩,
  ⟨Reg.MEAS_CHG_OUT_LO, 31, 0⟩, ⟨Reg.MEAS_CHG_OUT_HI, 31, 0⟩, Fld.VOTE_EXCL_COUNT_VSTR_C,
  Fld.VOTE_EXCL_COUNT_VSTR_B, Fld.VOTE_EXCL_COUNT_VSTR_A, Fld.VOTE_EXCL_COUNT_CUR_C,
  Fld.VOTE_EXCL_COUNT_CUR_B, Fld.VOTE_EXCL_COUNT_CUR_A, Fld.EST_STATE_CAP_SUSPECT,
  Fld.EST_WARN_CAP_SUSPECT, Fld.EST_LEARN_STATUS_CYCLES, ⟨Reg.SAFE_LOAD_OPENS, 31, 0⟩,
  ⟨Reg.SAFE_FS_COUNT, 31, 0⟩, ⟨Reg.SAFE_ELL_COUNT, 31, 0⟩, Fld.PAIR_STATE_LATENT_FAULT]

/-- Fields whose reset the tables give as "from MRAM", part 1. -/
def mramFlds1 : List Fld := [
  ⟨Reg.PAIR_TAKEOVERS, 31, 0⟩, ⟨Reg.PAIR_SWAPS, 31, 0⟩, Fld.CYC_BOOT_AUTORUN,
  ⟨Reg.SEQ_NEXT, 31, 0⟩, ⟨Reg.GAL_LINE_NO, 31, 0⟩, Fld.UPD_BANKS_SAFE_ACTIVE,
  Fld.UPD_BANKS_APP_ACTIVE, ⟨Reg.UPD_RECORD_VERSION, 31, 0⟩, ⟨Reg.UPD_FALLBACKS, 31, 0⟩,
  ⟨Reg.UPD_OS_DRIVE_IF, 15, 0⟩]

/-- Fields whose reset the tables give as "from MRAM". -/
def mramFlds : List Fld := mramFlds0 ++ mramFlds1

/-- Fields whose reset the tables give as "from Plant Record", part 0. -/
def recordFlds0 : List Fld := [
  Fld.CHN_PORT_CTL_ENABLE 0, Fld.CHN_PORT_CTL_ENABLE 1, Fld.NODE_COUNT_EXPECTED,
  ⟨Reg.NODE_DLY_TOL, 31, 0⟩, Fld.BAL_PROOF_TOL_PT_REL, Fld.BAL_PROOF_TOL_PT_ABS,
  Fld.BAL_SIG_CFG_SPLIT_BOUND, Fld.BAL_SIG_CFG_SIG_STEP, ⟨Reg.BAL_NODE_TEMP_LIM, 15, 0⟩,
  Fld.MEAS_IMD_CTL_CLOSED_MODE, Fld.MEAS_IMD_CTL_ENABLE, Fld.MEAS_IMD_LEVELS_WARN_KOHM,
  Fld.MEAS_IMD_LEVELS_ALARM_KOHM, Fld.VOTE_SUM_CFG_SUM_TOL, Fld.VOTE_SUM_CFG_R_STR,
  ⟨Reg.VOTE_DELAY_C, 12, 0⟩, Fld.EST_LEARN_CFG_GAIN, Fld.EST_LEARN_CFG_MIN_SWING,
  Fld.EST_LEARN_CFG_T_MAX, Fld.EST_LEARN_CFG_T_MIN, ⟨Reg.EST_GATE, 15, 0⟩,
  Fld.CELL_COUNT_POPULATED, Fld.ASY_AMPL_CEIL, ⟨Reg.ASY_BIN_EN_LO, 31, 0⟩,
  ⟨Reg.ASY_BIN_EN_HI, 31, 0⟩, ⟨Reg.PROF_STOP_RATE, 31, 0⟩, ⟨Reg.PROF_STOP_ACCEL, 31, 0⟩,
  ⟨Reg.PROF_STOP_JERK, 31, 0⟩, Fld.THM_TIN_CFG_TIN3, Fld.THM_TIN_CFG_TIN2]

/-- Fields whose reset the tables give as "from Plant Record", part 1. -/
def recordFlds1 : List Fld := [
  Fld.THM_TIN_CFG_TIN1, Fld.THM_TIN_CFG_TIN0, Fld.DRV_PWM_CFG_PHASES,
  Fld.DRV_DEAD_DEAD_FALL, Fld.DRV_DEAD_DEAD_RISE, Fld.DRV_DUTY_LIM_MAX,
  Fld.DRV_DUTY_LIM_MIN, Fld.DRV_CLAIM_PRIORITY, Fld.DRV_PRE_CFG_PRE_TIMEOUT,
  Fld.DRV_PRE_CFG_PRE_MIN, Fld.DRV_PRE_CFG_PRE_DONE, ⟨Reg.DRV_PWM_PERIOD, 18, 0⟩,
  ⟨Reg.DRV_WELD_V, 15, 0⟩, Fld.MRG_I_MAX_IDIS_MAX, Fld.MRG_I_MAX_ICHG_MAX,
  Fld.MRG_VSTR_VSTR_MAX, Fld.MRG_VSTR_VSTR_MIN, ⟨Reg.MRG_DIR_BAND, 15, 0⟩,
  ⟨Reg.MRG_ELL_PERMIT, 11, 0⟩, ⟨Reg.MRG_UNMON_MAX, 5, 0⟩, ⟨Reg.MRG_PR_CRC, 31, 0⟩,
  ⟨Reg.SAFE_I_RATED, 31, 0⟩, ⟨Reg.SAFE_C_CURRENT, 31, 0⟩, Fld.SIO_CFG_DISC_MS 0,
  Fld.SIO_CFG_DISC_MS 1, Fld.SIO_CFG_DISC_MS 2, Fld.SIO_CFG_DISC_MS 3,
  Fld.SIO_CFG_DISC_MS 4, Fld.SIO_CFG_DISC_MS 5, Fld.SIO_CFG_DISC_MS 6]

/-- Fields whose reset the tables give as "from Plant Record", part 2. -/
def recordFlds2 : List Fld := [
  Fld.SIO_CFG_DISC_MS 7, Fld.SIO_CFG_TYPE 0, Fld.SIO_CFG_TYPE 1,
  Fld.SIO_CFG_TYPE 2, Fld.SIO_CFG_TYPE 3, Fld.SIO_CFG_TYPE 4,
  Fld.SIO_CFG_TYPE 5, Fld.SIO_CFG_TYPE 6, Fld.SIO_CFG_TYPE 7,
  Fld.SIO_CFG_FUNCTION 0, Fld.SIO_CFG_FUNCTION 1, Fld.SIO_CFG_FUNCTION 2,
  Fld.SIO_CFG_FUNCTION 3, Fld.SIO_CFG_FUNCTION 4, Fld.SIO_CFG_FUNCTION 5,
  Fld.SIO_CFG_FUNCTION 6, Fld.SIO_CFG_FUNCTION 7, Fld.TIME_SYNC_CTL_SOURCE,
  Fld.TIME_PHY_DLY_RX_NS, Fld.TIME_PHY_DLY_TX_NS, Fld.CAN_CTL_TDC_EN 0,
  Fld.CAN_CTL_TDC_EN 1, Fld.CAN_CTL_BRS_EN 0, Fld.CAN_CTL_BRS_EN 1,
  Fld.CAN_CTL_FD_EN 0, Fld.CAN_CTL_FD_EN 1, Fld.CAN_CTL_MODE 0,
  Fld.CAN_CTL_MODE 1, Fld.CAN_NBT_TSEG1 0, Fld.CAN_NBT_TSEG1 1]

/-- Fields whose reset the tables give as "from Plant Record", part 3. -/
def recordFlds3 : List Fld := [
  Fld.CAN_NBT_TSEG2 0, Fld.CAN_NBT_TSEG2 1, Fld.CAN_NBT_SJW 0,
  Fld.CAN_NBT_SJW 1, Fld.CAN_NBT_BRP 0, Fld.CAN_NBT_BRP 1,
  Fld.CAN_DBT_TDCO 0, Fld.CAN_DBT_TDCO 1, Fld.CAN_DBT_TSEG1 0,
  Fld.CAN_DBT_TSEG1 1, Fld.CAN_DBT_BRP 0, Fld.CAN_DBT_BRP 1,
  Fld.CAN_DBT_TSEG2 0, Fld.CAN_DBT_TSEG2 1, Fld.CAN_DBT_SJW 0,
  Fld.CAN_DBT_SJW 1, ⟨Reg.ETH_IPV4 0, 31, 0⟩, ⟨Reg.ETH_IPV4 1, 31, 0⟩,
  ⟨Reg.ETH_ANN_DEST 0, 31, 0⟩, ⟨Reg.ETH_ANN_DEST 1, 31, 0⟩, Fld.PLNK_LINK_ENABLE,
  Fld.TWB_TGT_CTL_ADDR, Fld.TWB_BUS_CFG_SLOPE, Fld.TWB_BUS_CFG_SPEED]

/-- Fields whose reset the tables give as "from Plant Record". -/
def recordFlds : List Fld := recordFlds0 ++ recordFlds1 ++ recordFlds2 ++ recordFlds3

/-- SO fields with a reset value that the safety complex loads from the Plant Record too (R171, R185, R311, R321), each with the range
outside which a value is ignored (assumption log 112). -/
def safetyFlds : List (Fld × Nat × Nat) := [
  (Fld.VOTE_CUR_THR_REL, 1, 65535), (Fld.VOTE_CUR_THR_ABS, 1, 65535), (Fld.VOTE_V_THR_REL, 1, 65535),
  (Fld.VOTE_V_THR_ABS, 1, 65535), (Fld.VOTE_READMIT_AGREE_S, 1, 600), (Fld.MRG_FILT_T_N, 1, 4), (Fld.MRG_FILT_VCELL_N, 1, 4),
  (Fld.MRG_FILT_VSTR_N, 1, 100), (Fld.MRG_FILT_CUR_N, 1, 100), (Fld.SAFE_ELL_CFG_DURATION_S, 60, 1800),
  (Fld.SAFE_ELL_CFG_ILIM, 1, 50)]

/-- Fields whose reset the tables give as "factory", or "fuses", part 0. -/
def factoryFlds0 : List Fld := [
  ⟨Reg.SYS_SERIAL_LO, 31, 0⟩, ⟨Reg.SYS_SERIAL_HI, 31, 0⟩, ⟨Reg.ETH_MAC_LO 0, 31, 0⟩,
  ⟨Reg.ETH_MAC_LO 1, 31, 0⟩, ⟨Reg.ETH_MAC_HI 0, 15, 0⟩, ⟨Reg.ETH_MAC_HI 1, 15, 0⟩,
  ⟨Reg.UPD_KEY_STATE, 3, 0⟩]

/-- Fields whose reset the tables give as "factory", or "fuses". -/
def factoryFlds : List Fld := factoryFlds0

end Sys2Proof.Machine
end

