-- ==== Sys2Proof/Machine/AccMap.lean ====
section
/-! DEFINITION. The access codes of every register (R7): for each page, rows of registers with the masks of their RW, W1C, RC,
WO and SO bits. Bits in no mask are RO or reserved. -/

namespace Sys2Proof.Machine

/-- A row of registers: first offset, stride, how many, and the bits of each access code. -/
structure Acc where
  off : Nat
  stride : Nat
  cnt : Nat
  rw : Nat
  w1c : Nat
  rc : Nat
  wo : Nat
  so : Nat
  deriving DecidableEq, Repr

/-- SYS page. -/
def accSYS : List Acc := [
  ⟨0x058, 4, 1, 0x0, 0x0, 0xFFFFFFFF, 0x0, 0x0⟩,
  ⟨0x060, 4, 1, 0xFFFFFFFF, 0x0, 0x0, 0x0, 0x0⟩,
  ⟨0x068, 4, 1, 0xFFFF0001, 0x0, 0x0, 0x0, 0x0⟩]

/-- MODE page. -/
def accMODE : List Acc := [
  ⟨0x044, 4, 1, 0xFF0F, 0x0, 0x0, 0x0, 0x0⟩,
  ⟨0x058, 4, 1, 0x0, 0x0, 0x0, 0xFFFF, 0x0⟩,
  ⟨0x064, 4, 2, 0xFFFF, 0x0, 0x0, 0x0, 0x0⟩,
  ⟨0x06C, 4, 1, 0x1, 0x0, 0x0, 0x0, 0x0⟩,
  ⟨0x070, 4, 1, 0x1F, 0x0, 0x0, 0x0, 0x0⟩,
  ⟨0x074, 4, 1, 0xFFFFFFFF, 0x0, 0x0, 0x0, 0x0⟩]

/-- CLK page. -/
def accCLK : List Acc := [
  ⟨0x048, 4, 1, 0xF, 0x0, 0x0, 0x0, 0x0⟩,
  ⟨0x050, 4, 1, 0xFFFFFFFF, 0x0, 0x0, 0x0, 0x0⟩,
  ⟨0x058, 4, 1, 0xFFFFFFFF, 0x0, 0x0, 0x0, 0x0⟩,
  ⟨0x05C, 4, 1, 0xFFFF, 0x0, 0x0, 0x0, 0x0⟩,
  ⟨0x060, 4, 1, 0x0, 0x0, 0x0, 0xFFFF, 0x0⟩]

/-- TIME page. -/
def accTIME : List Acc := [
  ⟨0x048, 4, 1, 0xFFFFFFFF, 0x0, 0x0, 0x0, 0x0⟩,
  ⟨0x04C, 4, 1, 0xFF, 0x0, 0x0, 0x0, 0x0⟩,
  ⟨0x050, 4, 1, 0x3, 0x0, 0x0, 0x0, 0x0⟩,
  ⟨0x060, 4, 1, 0xFFFFFFFF, 0x0, 0x0, 0x0, 0x0⟩,
  ⟨0x064, 4, 1, 0xFFFF00F1, 0x0, 0x0, 0x0, 0x0⟩,
  ⟨0x068, 4, 1, 0x0, 0x0, 0x0, 0xFFFFFFFF, 0x0⟩,
  ⟨0x074, 4, 1, 0x1FFFFFF, 0x0, 0x0, 0x0, 0x0⟩,
  ⟨0x090, 4, 4, 0xFFFFFFFF, 0x0, 0x0, 0x0, 0x0⟩,
  ⟨0x0A0, 4, 1, 0xFFFF00FF, 0x0, 0x0, 0x0, 0x0⟩,
  ⟨0x0A4, 4, 1, 0x0, 0x0, 0xFFFFFFFF, 0x0, 0x0⟩,
  ⟨0x0A8, 4, 1, 0x3, 0x0, 0x0, 0x0, 0x0⟩,
  ⟨0x0AC, 4, 1, 0xF, 0x0, 0x0, 0x0, 0x0⟩,
  ⟨0x0B8, 4, 1, 0x0, 0x0, 0x0, 0xFFFFFFFF, 0x0⟩,
  ⟨0x0BC, 4, 1, 0x0, 0x0, 0x0, 0xFFFF, 0x0⟩]

/-- SEQ page. -/
def accSEQ : List Acc := [
  ⟨0x040, 4, 1, 0x3, 0x0, 0x0, 0x0, 0x0⟩,
  ⟨0x04C, 4, 3, 0x0, 0x0, 0xFFFFFFFF, 0x0, 0x0⟩,
  ⟨0x060, 4, 1, 0x0, 0x0, 0xFFFFFFFF, 0x0, 0x0⟩]

/-- EVR page. -/
def accEVR : List Acc := [
  ⟨0x040, 4, 1, 0xFFFFFF03, 0x0, 0x0, 0x0, 0x0⟩,
  ⟨0x050, 4, 1, 0xFFFFFFFF, 0x0, 0x0, 0x0, 0x0⟩,
  ⟨0x054, 4, 1, 0x0, 0x0, 0xFFFFFFFF, 0x0, 0x0⟩,
  ⟨0x100, 8, 32, 0xFFC0FF1F, 0x0, 0x0, 0x0, 0x0⟩,
  ⟨0x104, 8, 32, 0xFFFF, 0x0, 0x0, 0x0, 0x0⟩,
  ⟨0x400, 4, 192, 0xFFFFFFFF, 0x0, 0x0, 0x0, 0x0⟩]

/-- GAL page. -/
def accGAL : List Acc := [
  ⟨0x050, 4, 1, 0x7FF, 0x0, 0x0, 0x0, 0x0⟩]

/-- UPD page. -/
def accUPD : List Acc := [
  ⟨0x040, 4, 1, 0x0, 0x0, 0x0, 0xFBD, 0x0⟩,
  ⟨0x04C, 4, 1, 0xFFFFFFFF, 0x0, 0x0, 0x0, 0x0⟩,
  ⟨0x068, 4, 1, 0x0, 0x0, 0x0, 0xF, 0x0⟩,
  ⟨0x400, 4, 256, 0x0, 0x0, 0x0, 0xFFFFFFFF, 0x0⟩]

/-- CHN0 page. -/
def accCHN0 : List Acc := [
  ⟨0x040, 4, 1, 0x7, 0x0, 0x0, 0x0, 0x0⟩,
  ⟨0x048, 4, 5, 0x0, 0x0, 0xFFFFFFFF, 0x0, 0x0⟩,
  ⟨0x060, 4, 1, 0xFF0001, 0x0, 0x0, 0x2, 0x0⟩,
  ⟨0x074, 4, 1, 0xFFFF, 0x0, 0x0, 0x80000000, 0x0⟩]

/-- CHN1 page. -/
def accCHN1 : List Acc := [
  ⟨0x040, 4, 1, 0x7, 0x0, 0x0, 0x0, 0x0⟩,
  ⟨0x048, 4, 5, 0x0, 0x0, 0xFFFFFFFF, 0x0, 0x0⟩,
  ⟨0x060, 4, 1, 0xFF0001, 0x0, 0x0, 0x2, 0x0⟩,
  ⟨0x074, 4, 1, 0xFFFF, 0x0, 0x0, 0x80000000, 0x0⟩]

/-- NODE page. -/
def accNODE : List Acc := [
  ⟨0x044, 4, 1, 0x0, 0x0, 0x0, 0x1FF, 0x0⟩,
  ⟨0x04C, 4, 1, 0xFF, 0x0, 0x0, 0x0, 0x0⟩,
  ⟨0x08C, 4, 1, 0xFF0FFFFF, 0x0, 0x0, 0x0, 0x0⟩,
  ⟨0x090, 4, 1, 0xFFFF, 0x0, 0x0, 0x0, 0x0⟩]

/-- MEAS page. -/
def accMEAS : List Acc := [
  ⟨0x06C, 4, 1, 0x0, 0x0, 0x0, 0x2, 0x0⟩,
  ⟨0x098, 4, 1, 0x0, 0x0, 0x0, 0x1, 0x0⟩]

/-- VOTE page. -/
def accVOTE : List Acc := [
  ⟨0x064, 4, 2, 0x0, 0x0, 0x0, 0x0, 0xFFFFFFFF⟩,
  ⟨0x074, 4, 1, 0x0, 0x0, 0x0, 0x0, 0x1FFFF⟩,
  ⟨0x080, 4, 1, 0x0, 0x0, 0x0, 0x0, 0xFFFFFFFF⟩,
  ⟨0x084, 4, 1, 0x0, 0x0, 0x0, 0x0, 0x1FFF⟩]

/-- MRG page. -/
def accMRG : List Acc := [
  ⟨0x040, 4, 3, 0x0, 0x0, 0x0, 0x0, 0xFFFFFFFF⟩,
  ⟨0x04C, 4, 1, 0x0, 0x0, 0x0, 0x0, 0xFFFF⟩,
  ⟨0x050, 4, 1, 0x0, 0x0, 0x0, 0x0, 0xFFF⟩,
  ⟨0x054, 4, 1, 0x0, 0x0, 0x0, 0x0, 0x3F⟩,
  ⟨0x068, 4, 1, 0x0, 0x0, 0xFFFFFFFF, 0x0, 0x0⟩,
  ⟨0x200, 4, 48, 0x0, 0x0, 0x0, 0x0, 0xFFFFFFFF⟩]

/-- SAFE page. -/
def accSAFE : List Acc := [
  ⟨0x04C, 4, 1, 0x0, 0x0, 0x0, 0x0, 0xFFFFFFFF⟩]

/-- SIO page. -/
def accSIO : List Acc := [
  ⟨0x040, 4, 8, 0x0, 0x0, 0x0, 0x0, 0x3FF003F⟩]

/-- LOOP page. -/
def accLOOP : List Acc := [
  ⟨0x040, 4, 1, 0x7, 0x0, 0x0, 0x0, 0x0⟩,
  ⟨0x044, 4, 1, 0x3F3FFF1F, 0x0, 0x0, 0x0, 0x0⟩,
  ⟨0x048, 4, 1, 0xF0F, 0x0, 0x0, 0x0, 0x0⟩,
  ⟨0x04C, 4, 1, 0x3F3F, 0x0, 0x0, 0x0, 0x0⟩,
  ⟨0x050, 4, 1, 0x1, 0x0, 0x0, 0x300, 0x0⟩,
  ⟨0x054, 4, 1, 0x0, 0x0, 0x100, 0x0, 0x0⟩,
  ⟨0x058, 4, 7, 0xFFFFFF, 0x0, 0x0, 0x0, 0x0⟩,
  ⟨0x074, 4, 1, 0x3F3F, 0x0, 0x0, 0x0, 0x0⟩,
  ⟨0x078, 4, 2, 0xFFFFFF, 0x0, 0x0, 0x0, 0x0⟩,
  ⟨0x080, 4, 2, 0xFFFFFFFF, 0x0, 0x0, 0x0, 0x0⟩,
  ⟨0x088, 4, 3, 0xFFFFFF, 0x0, 0x0, 0x0, 0x0⟩,
  ⟨0x0AC, 4, 1, 0x0, 0x0, 0x0, 0xFF, 0x0⟩]

/-- PROF page. -/
def accPROF : List Acc := [
  ⟨0x040, 4, 1, 0xFFFFFFFF, 0x0, 0x0, 0x0, 0x0⟩,
  ⟨0x048, 4, 3, 0xFFFFFFFF, 0x0, 0x0, 0x0, 0x0⟩,
  ⟨0x054, 4, 3, 0x0, 0x0, 0x0, 0x0, 0xFFFFFFFF⟩]

/-- DRV page. -/
def accDRV : List Acc := [
  ⟨0x040, 4, 1, 0x4, 0x0, 0x0, 0x0, 0x0⟩,
  ⟨0x080, 4, 4, 0x0, 0x0, 0xFFFFFFFF, 0x0, 0x0⟩]

/-- EST page. -/
def accEST : List Acc := [
  ⟨0x040, 4, 1, 0x9, 0x0, 0x0, 0x6, 0x0⟩,
  ⟨0x058, 4, 1, 0xFFFFFFFF, 0x0, 0x0, 0x0, 0x0⟩,
  ⟨0x060, 4, 1, 0xFFFFFFFF, 0x0, 0x0, 0x0, 0x0⟩,
  ⟨0x084, 4, 1, 0x0, 0x0, 0xFFFFFFFF, 0x0, 0x0⟩,
  ⟨0x088, 4, 1, 0xF, 0x0, 0x0, 0x0, 0x0⟩,
  ⟨0x098, 4, 1, 0x1FF, 0x0, 0x0, 0x0, 0x0⟩,
  ⟨0x09C, 4, 1, 0x0, 0x0, 0x0, 0xFFFFFFFF, 0x0⟩,
  ⟨0x0A0, 4, 1, 0xFFFF, 0x0, 0x0, 0x0, 0x0⟩]

/-- CELL page. -/
def accCELL : List Acc := [
  ⟨0x040, 4, 1, 0x1, 0x0, 0x0, 0x0, 0x0⟩,
  ⟨0x050, 4, 1, 0xFFFFFFFF, 0x0, 0x0, 0x0, 0x0⟩]

/-- ASY page. -/
def accASY : List Acc := [
  ⟨0x040, 4, 1, 0x3F0003, 0x0, 0x0, 0x300, 0x0⟩,
  ⟨0x04C, 4, 1, 0xFFFF, 0x0, 0x0, 0x0, 0x0⟩,
  ⟨0x050, 4, 2, 0xFFFFFFFF, 0x0, 0x0, 0x0, 0x0⟩,
  ⟨0x060, 4, 1, 0xFFFFFFFF, 0x0, 0x0, 0x0, 0x0⟩,
  ⟨0x064, 4, 1, 0xFFFF, 0x0, 0x0, 0x0, 0x0⟩,
  ⟨0x068, 4, 1, 0x3F, 0x0, 0x0, 0x0, 0x0⟩,
  ⟨0x078, 4, 1, 0x1FF, 0x0, 0x0, 0x0, 0x0⟩,
  ⟨0x094, 4, 1, 0xFF03, 0x0, 0x0, 0x0, 0x0⟩,
  ⟨0x098, 4, 1, 0xFF, 0x0, 0x0, 0x0, 0x0⟩,
  ⟨0x0A8, 4, 1, 0x0, 0x0, 0x0, 0x1, 0x0⟩]

/-- BAL page. -/
def accBAL : List Acc := [
  ⟨0x040, 4, 1, 0x1, 0x0, 0x0, 0x2, 0x0⟩,
  ⟨0x044, 4, 1, 0xFF, 0x0, 0x0, 0x0, 0x0⟩,
  ⟨0x048, 4, 1, 0xFF00FFFF, 0x0, 0x0, 0x0, 0x0⟩,
  ⟨0x04C, 4, 1, 0x0, 0x0, 0x0, 0x3, 0x0⟩,
  ⟨0x074, 4, 1, 0xFFFF, 0x0, 0x0, 0x0, 0x0⟩,
  ⟨0x088, 4, 1, 0x0, 0x0, 0x0, 0xFF, 0x0⟩]

/-- THM page. -/
def accTHM : List Acc := [
  ⟨0x054, 4, 5, 0x3FFF, 0x0, 0x0, 0x0, 0x0⟩,
  ⟨0x068, 4, 1, 0xFF, 0x0, 0x0, 0x0, 0x0⟩,
  ⟨0x088, 4, 1, 0x3F, 0x0, 0x0, 0x0, 0x0⟩,
  ⟨0x090, 4, 2, 0xFFFF, 0x0, 0x0, 0x0, 0x0⟩]

/-- PAIR page. -/
def accPAIR : List Acc := [
  ⟨0x048, 4, 1, 0x9, 0x0, 0x0, 0x6, 0x0⟩,
  ⟨0x04C, 4, 1, 0xFFFFFFFF, 0x0, 0x0, 0x0, 0x0⟩,
  ⟨0x084, 4, 1, 0x0, 0x0, 0x0, 0x1, 0x0⟩]

/-- ETH0 page. -/
def accETH0 : List Acc := [
  ⟨0x040, 4, 1, 0x7, 0x0, 0x0, 0x0, 0x0⟩,
  ⟨0x048, 4, 1, 0xFFFFFFFF, 0x0, 0x0, 0x0, 0x0⟩,
  ⟨0x04C, 4, 1, 0x1FFF, 0x0, 0x0, 0x0, 0x0⟩,
  ⟨0x054, 4, 1, 0xFFF, 0x0, 0x0, 0x0, 0x0⟩,
  ⟨0x058, 4, 1, 0xFFFFFFFF, 0x0, 0x0, 0x0, 0x0⟩,
  ⟨0x05C, 4, 1, 0x1FFF, 0x0, 0x0, 0x0, 0x0⟩,
  ⟨0x064, 4, 1, 0xFFF, 0x0, 0x0, 0x0, 0x0⟩,
  ⟨0x068, 4, 6, 0x0, 0x0, 0xFFFFFFFF, 0x0, 0x0⟩,
  ⟨0x084, 4, 1, 0x1F, 0x0, 0x0, 0x0, 0x0⟩]

/-- ETH1 page. -/
def accETH1 : List Acc := [
  ⟨0x040, 4, 1, 0x7, 0x0, 0x0, 0x0, 0x0⟩,
  ⟨0x048, 4, 1, 0xFFFFFFFF, 0x0, 0x0, 0x0, 0x0⟩,
  ⟨0x04C, 4, 1, 0x1FFF, 0x0, 0x0, 0x0, 0x0⟩,
  ⟨0x054, 4, 1, 0xFFF, 0x0, 0x0, 0x0, 0x0⟩,
  ⟨0x058, 4, 1, 0xFFFFFFFF, 0x0, 0x0, 0x0, 0x0⟩,
  ⟨0x05C, 4, 1, 0x1FFF, 0x0, 0x0, 0x0, 0x0⟩,
  ⟨0x064, 4, 1, 0xFFF, 0x0, 0x0, 0x0, 0x0⟩,
  ⟨0x068, 4, 6, 0x0, 0x0, 0xFFFFFFFF, 0x0, 0x0⟩,
  ⟨0x084, 4, 1, 0x1F, 0x0, 0x0, 0x0, 0x0⟩]

/-- PLNK page. -/
def accPLNK : List Acc := [
  ⟨0x044, 4, 8, 0x0, 0x0, 0xFFFFFFFF, 0x0, 0x0⟩]

/-- CAN0 page. -/
def accCAN0 : List Acc := [
  ⟨0x040, 4, 1, 0x177, 0x0, 0x0, 0x80, 0x0⟩,
  ⟨0x044, 4, 1, 0xFFFFFC1F, 0x0, 0x0, 0x0, 0x0⟩,
  ⟨0x048, 4, 1, 0xFFFFF01F, 0x0, 0x0, 0x0, 0x0⟩,
  ⟨0x054, 4, 1, 0x0, 0x0, 0x0, 0xFFFFFFFF, 0x0⟩,
  ⟨0x05C, 4, 1, 0x0, 0xFFFFFFFF, 0x0, 0x0, 0x0⟩,
  ⟨0x060, 4, 1, 0x0, 0x0, 0x0, 0xFFFFFFFF, 0x0⟩,
  ⟨0x064, 4, 1, 0x0, 0xFFFFFFFF, 0x0, 0x0, 0x0⟩,
  ⟨0x06C, 4, 4, 0x103FF, 0x0, 0x0, 0x0, 0x0⟩,
  ⟨0x07C, 4, 4, 0x0, 0x0, 0xFFFF0000, 0x0, 0x0⟩,
  ⟨0x08C, 4, 1, 0x0, 0x0, 0x0, 0xF, 0x0⟩,
  ⟨0x090, 4, 1, 0xFFFFFF03, 0x0, 0x0, 0x0, 0x0⟩,
  ⟨0x098, 4, 1, 0xFFFF, 0x0, 0x0, 0x0, 0x0⟩,
  ⟨0x09C, 4, 1, 0x3E, 0x0, 0x0, 0x0, 0x0⟩,
  ⟨0x0A4, 4, 1, 0xFFFF, 0x0, 0x0, 0x0, 0x0⟩,
  ⟨0x0A8, 4, 4, 0x0, 0x0, 0xFFFFFFFF, 0x0, 0x0⟩,
  ⟨0x400, 4, 640, 0xFFFFFFFF, 0x0, 0x0, 0x0, 0x0⟩]

/-- CAN1 page. -/
def accCAN1 : List Acc := [
  ⟨0x040, 4, 1, 0x177, 0x0, 0x0, 0x80, 0x0⟩,
  ⟨0x044, 4, 1, 0xFFFFFC1F, 0x0, 0x0, 0x0, 0x0⟩,
  ⟨0x048, 4, 1, 0xFFFFF01F, 0x0, 0x0, 0x0, 0x0⟩,
  ⟨0x054, 4, 1, 0x0, 0x0, 0x0, 0xFFFFFFFF, 0x0⟩,
  ⟨0x05C, 4, 1, 0x0, 0xFFFFFFFF, 0x0, 0x0, 0x0⟩,
  ⟨0x060, 4, 1, 0x0, 0x0, 0x0, 0xFFFFFFFF, 0x0⟩,
  ⟨0x064, 4, 1, 0x0, 0xFFFFFFFF, 0x0, 0x0, 0x0⟩,
  ⟨0x06C, 4, 4, 0x103FF, 0x0, 0x0, 0x0, 0x0⟩,
  ⟨0x07C, 4, 4, 0x0, 0x0, 0xFFFF0000, 0x0, 0x0⟩,
  ⟨0x08C, 4, 1, 0x0, 0x0, 0x0, 0xF, 0x0⟩,
  ⟨0x090, 4, 1, 0xFFFFFF03, 0x0, 0x0, 0x0, 0x0⟩,
  ⟨0x098, 4, 1, 0xFFFF, 0x0, 0x0, 0x0, 0x0⟩,
  ⟨0x09C, 4, 1, 0x3E, 0x0, 0x0, 0x0, 0x0⟩,
  ⟨0x0A4, 4, 1, 0xFFFF, 0x0, 0x0, 0x0, 0x0⟩,
  ⟨0x0A8, 4, 4, 0x0, 0x0, 0xFFFFFFFF, 0x0, 0x0⟩,
  ⟨0x400, 4, 640, 0xFFFFFFFF, 0x0, 0x0, 0x0, 0x0⟩]

/-- FLT page. -/
def accFLT : List Acc := [
  ⟨0x040, 4, 2, 0x1FFF0FFF, 0x0, 0x0, 0x0, 0x0⟩,
  ⟨0x048, 4, 1, 0x177, 0x0, 0x0, 0x0, 0x0⟩,
  ⟨0x050, 4, 2, 0x0, 0x0, 0xFFFFFFFF, 0x0, 0x0⟩]

/-- TWB page. -/
def accTWB : List Acc := [
  ⟨0x040, 4, 1, 0x37F, 0x0, 0x0, 0x0, 0x0⟩,
  ⟨0x048, 4, 1, 0x1F, 0x0, 0x0, 0x0, 0x0⟩,
  ⟨0x04C, 4, 1, 0x1FF, 0x0, 0x0, 0x600, 0x0⟩,
  ⟨0x050, 4, 1, 0xFFF0FF0F, 0x0, 0x0, 0x0, 0x0⟩,
  ⟨0x058, 4, 8, 0xFFFFFFFF, 0x0, 0x0, 0x0, 0x0⟩,
  ⟨0x078, 4, 7, 0x0, 0x0, 0xFFFFFFFF, 0x0, 0x0⟩]

/-- CYC page. -/
def accCYC : List Acc := [
  ⟨0x040, 4, 1, 0x0, 0x0, 0x0, 0xF7, 0x0⟩,
  ⟨0x048, 4, 1, 0xFFFFFF03, 0x0, 0x0, 0x0, 0x0⟩,
  ⟨0x04C, 4, 1, 0xFFFF, 0x0, 0x0, 0x0, 0x0⟩,
  ⟨0x050, 4, 1, 0x1, 0x0, 0x0, 0x0, 0x0⟩,
  ⟨0x074, 4, 3, 0x0, 0x0, 0xFFFFFFFF, 0x0, 0x0⟩,
  ⟨0x080, 4, 1, 0xFFFFFFFF, 0x0, 0x0, 0x0, 0x0⟩]

/-- TMR page. -/
def accTMR : List Acc := [
  ⟨0x048, 4, 2, 0x0, 0xFFFFFFFF, 0x0, 0x0, 0x0⟩,
  ⟨0x100, 8, 64, 0x1, 0x0, 0x0, 0x0, 0x0⟩,
  ⟨0x300, 4, 64, 0xFFFFFFFF, 0x0, 0x0, 0x0, 0x0⟩]

/-- AUX page. -/
def accAUX : List Acc := [
  ⟨0x048, 4, 1, 0x0, 0x0, 0x0, 0x7F, 0x0⟩,
  ⟨0x04C, 4, 1, 0x7, 0x0, 0x0, 0x0, 0x0⟩,
  ⟨0x054, 4, 1, 0x0, 0x0, 0x0, 0xF, 0x0⟩,
  ⟨0x060, 4, 2, 0xF, 0x0, 0x0, 0x0, 0x0⟩]

/-- The rows of a page. -/
def accOf (p : Nat) : List Acc :=
  if p == Pg.SYS then accSYS
  else if p == Pg.MODE then accMODE
  else if p == Pg.CLK then accCLK
  else if p == Pg.TIME then accTIME
  else if p == Pg.SEQ then accSEQ
  else if p == Pg.EVR then accEVR
  else if p == Pg.GAL then accGAL
  else if p == Pg.UPD then accUPD
  else if p == Pg.CHN0 then accCHN0
  else if p == Pg.CHN1 then accCHN1
  else if p == Pg.NODE then accNODE
  else if p == Pg.MEAS then accMEAS
  else if p == Pg.VOTE then accVOTE
  else if p == Pg.MRG then accMRG
  else if p == Pg.SAFE then accSAFE
  else if p == Pg.SIO then accSIO
  else if p == Pg.LOOP then accLOOP
  else if p == Pg.PROF then accPROF
  else if p == Pg.DRV then accDRV
  else if p == Pg.EST then accEST
  else if p == Pg.CELL then accCELL
  else if p == Pg.ASY then accASY
  else if p == Pg.BAL then accBAL
  else if p == Pg.THM then accTHM
  else if p == Pg.PAIR then accPAIR
  else if p == Pg.ETH0 then accETH0
  else if p == Pg.ETH1 then accETH1
  else if p == Pg.PLNK then accPLNK
  else if p == Pg.CAN0 then accCAN0
  else if p == Pg.CAN1 then accCAN1
  else if p == Pg.FLT then accFLT
  else if p == Pg.TWB then accTWB
  else if p == Pg.CYC then accCYC
  else if p == Pg.TMR then accTMR
  else if p == Pg.AUX then accAUX
  else []

/-- The page number of a register address (R44). -/
def pageOf (addr : Nat) : Nat := (addr - 0x40000000) / 0x1000

/-- The row of a register in its page's access table. -/
def accAt (a : Nat) : Acc :=
  let o := a % 0x1000
  ((accOf (pageOf a)).find? (fun r => r.off ≤ o && (o - r.off) % r.stride == 0 && (o - r.off) / r.stride < r.cnt)).getD
    ⟨o, 4, 1, 0, 0, 0, 0, 0⟩

/-- The bits of EVENTS and EVENT_EN that a page defines. -/
def evMask (p : Nat) : Nat :=
  if p == Pg.SYS then 0x7F
  else if p == Pg.MODE then 0x7FD
  else if p == Pg.CLK then 0xF
  else if p == Pg.TIME then 0x3FF
  else if p == Pg.SEQ then 0x3
  else if p == Pg.EVR then 0x3F
  else if p == Pg.GAL then 0x3F
  else if p == Pg.UPD then 0x3FF
  else if p == Pg.CHN0 then 0x3FF
  else if p == Pg.CHN1 then 0x3FF
  else if p == Pg.NODE then 0x3FF
  else if p == Pg.MEAS then 0x7FF
  else if p == Pg.VOTE then 0x3FF
  else if p == Pg.MRG then 0x1F
  else if p == Pg.SAFE then 0x3FF
  else if p == Pg.SIO then 0x7F
  else if p == Pg.LOOP then 0x7FF
  else if p == Pg.PROF then 0x7F
  else if p == Pg.DRV then 0xFFFF
  else if p == Pg.EST then 0xFFFFF
  else if p == Pg.CELL then 0x3
  else if p == Pg.ASY then 0x3FFF
  else if p == Pg.BAL then 0xFFFF
  else if p == Pg.THM then 0x1F
  else if p == Pg.PAIR then 0xFFFF
  else if p == Pg.ETH0 then 0x3F
  else if p == Pg.ETH1 then 0x3F
  else if p == Pg.PLNK then 0x1F
  else if p == Pg.CAN0 then 0x7FFF
  else if p == Pg.CAN1 then 0x7FFF
  else if p == Pg.FLT then 0x3
  else if p == Pg.TWB then 0x3FF
  else if p == Pg.CYC then 0xFFFF
  else if p == Pg.TMR then 0x3
  else if p == Pg.AUX then 0x3FF
  else 0

end Sys2Proof.Machine
end

