-- ==== Sys2Proof/Machine/State.lean ====
section
/-! DEFINITION. The state of the module: plain data, holding every piece of state the spec names. Registers that are
plain words live in one sparse store keyed by their byte address (`regs`); units with state of their own, and registers
that are only a view of it, live in the unit structures below. -/

namespace Sys2Proof.Machine

/-- The three parts of the family (R18): VB-2064-F, VB-2064-A, VB-2064-C. -/
inductive Variant where
  | F | A | C
  deriving DecidableEq, Repr

/-- How far the module runs: held in reset (R69), carrying out the start-up sequence (R75), up, in DORMANT (R40), or
stopped in the boot ROM with both banks invalid (R76). -/
inductive Phase where
  | held | starting | up | dormant | bootHalt
  deriving DecidableEq, Repr

/-- Where an outgoing message leaves the module. -/
inductive Port where
  | chain (n : Nat)   -- chain port 0 or 1
  | drive             -- drive link
  | plnk              -- partner link
  | hbOut             -- heartbeat pulse output
  | can (n : Nat)     -- CAN controller 0 or 1
  | eth (n : Nat)     -- plant Ethernet port 0 or 1
  | uart              -- service UART
  | twb               -- two-wire bus
  | pin               -- a digital output pin
  | core (n : Nat)    -- an access fault or a service result at application core n
  | reply             -- the answer to a register access
  deriving DecidableEq, Repr

/-- One outgoing message: where, what kind, and its content as numbers in the order the rule lists them. -/
structure Out where
  port : Port
  code : Nat
  data : List Nat
  deriving DecidableEq, Repr

/-- An event that waits in the Compositor (R404): `bound` names the awaited event of a bound timeout (R406). -/
structure Waiting where
  page : Nat
  num : Nat
  cls : Nat
  arrival : Nat
  time : Nat
  arg : Nat
  rep : Nat
  bound : Option (Nat × Nat)
  deriving DecidableEq, Repr

/-- A delivered event record (R410), as its four words. -/
structure EvRec where
  seq : Nat
  time : Nat
  word2 : Nat
  arg : Nat
  deriving DecidableEq, Repr

/-- A safety announcement whose event waits for its number (R452): KIND, cause, MODE.STATE.CURRENT, PSTATE, ARG. -/
structure Ann where
  kind : Nat
  cause : Nat
  cur : Nat
  pstate : Nat
  arg : Nat
  deriving DecidableEq, Repr

/-- The Compositor: the CLK_FAB cycle, the waiting events, core 1's queue (R411), the host ring by entry (R412),
safety announcements that wait for their event's number, a WAIT of core 1 that blocks (buffer address and capacity), and what the
present cycle has added to RC and W1C registers (R9): address, the word before the cycle's additions, the word that they alone
leave. -/
structure Compositor where
  cycle : Nat
  waiting : List Waiting
  core : List EvRec
  dropping : Bool
  ring : List (Nat × EvRec)
  grantsSinceStore : Nat
  firstGrantDone : Bool
  lastTime : Nat
  wraps : Nat
  annWait : List Ann
  waitReq : Option (Nat × Nat)
  occ : List (Nat × Nat × Nat)
  deriving DecidableEq, Repr

/-- A record of the event recorder (R416), without its CHECK, which is computed from the rest. -/
structure Record where
  index : Nat
  seq : Nat
  time : Nat
  timeWraps : Nat
  hours : Nat
  powerCycles : Nat
  trigger : Nat
  source : Nat
  bit : Nat
  arg : Nat
  modeState : Nat
  edition : Nat
  flags : Nat
  snap : List Nat
  deriving DecidableEq, Repr

/-- The event recorder beside its registers: the ring in MRAM (newest first), records taken and not yet committed
(oldest first), the read window, the last record time of each trigger with its missed mark, and the POST count. -/
structure Recorder where
  ring : List Record
  taken : List Record
  window : List (Option Record)
  copying : Option Nat
  holdoff : List (Nat × Nat)
  missedSince : List Nat
  post : Option Nat
  freezeAt : Nat
  deriving DecidableEq, Repr

/-- A Galley slot (R420). `seqKnown` is false until the LINE_OPEN event of the line is granted; `sealOk` says whether
the SEAL holds. -/
structure GSlot where
  idx : Nat
  seq : Nat
  seqKnown : Bool
  time : Nat
  kind : Nat
  phase : Nat
  state : Nat
  mirrored : Bool
  edition : Nat
  args : List Nat
  lineNo : Nat
  sealOk : Bool
  deriving DecidableEq, Repr

/-- The Galley: its slots, newest write first, and the next slot of the ring. -/
structure Galley where
  slots : List GSlot
  wr : Nat
  deriving DecidableEq, Repr

/-- The mode manager beside its registers: the running row of R27 (0 none), what C6 and C9 still wait for, the function
that caused BUSY_STOPPING (the model keeps one, assumption log 106), the cause of an Ellipsis or Full Stop demand kept until
ASSAY has been left (R35), the tag and target of a request forwarded to the partner (R351), the request whose event has been
granted and that the next cycle evaluates (R29: 0 none, 1 this module's, 2 the partner's) with its TAG and TARGET and the
number of its event, the partner's request whose event waits, TAG and TARGET of the request accepted last, whether the
running transition has been aborted. -/
structure ModeUnit where
  row : Nat
  waitOwt : Bool
  waitAck : Bool
  busyFunc : Nat
  kept : Option Nat
  forwardTag : Option Nat
  forwardTarget : Nat
  due : Nat
  dueTag : Nat
  dueTgt : Nat
  dueSeq : Nat
  partnerTag : Nat
  partnerTgt : Nat
  accTag : Nat
  accTgt : Nat
  aborted : Bool
  deriving DecidableEq, Repr

/-- A coefficient bank of a loop slot (R264), as register words. -/
structure Bank where
  b0 : Nat
  b1 : Nat
  b2 : Nat
  b3 : Nat
  a1 : Nat
  a2 : Nat
  a3 : Nat
  exp : Nat
  outMax : Nat
  outMin : Nat
  deriving DecidableEq, Repr

/-- A loop slot: the registers that LOOP.SEL selects and the engine's own states (R255 to R268); `holdEnd` is the local time in
ns at which HOLD_LAST ends. -/
structure Slot where
  cfg : Nat
  route : Nat
  fmt : Nat
  manual : Bool
  state : Nat
  active : Bank
  shadow : Bank
  bankNo : Nat
  swapPend : Bool
  setpoint : Nat
  setpoint2 : Nat
  manOut : Nat
  fallback : Nat
  frzThr : Nat
  fb : Int
  err : Int
  out : Int
  s1 : Int
  s2 : Int
  s3 : Int
  sat : Bool
  satHi : Bool
  accSat : Bool
  stale : Bool
  frozen : Bool
  binding : Bool
  samples : Nat
  frzRef : Int
  frzCount : Nat
  negRef : Bool
  restart : Bool
  lost : Bool
  srcSeq : Nat
  holdEnd : Nat
  deriving DecidableEq, Repr

/-- The profile generator (R270): reference, rate and acceleration in A, A/s and A/s², whether the last step
was the snap to the target, whether an anchor window holds the setpoint (R272), the bound being ramped to (R271), the target and the
effective target that TARGET_CLAMPED last reported. -/
structure Prof where
  r : F64
  v : F64
  a : F64
  arrived : Bool
  anchor : Bool
  bound : Option Int
  clamped : Option (Int × Int)
  deriving DecidableEq, Repr

/-- Thermal I/O beside its registers: inputs found faulty, how many samples each feedback source of R252 has delivered,
the highest, mean and lowest chain temperature and the highest T_CORE, and the persisting FAN_STALL and FLOW_LOW
conditions. -/
structure Thermal where
  tinFault : List Bool
  srcCount : List (Nat × Nat)
  chain : Option (Int × Int × Int)
  core : Option Int
  fanStall : Bool
  flowLow : Bool
  deriving DecidableEq, Repr

/-- The Drive unit and the contactor sequencer beside their registers: whether ARM is set, whether the module holds the
Imprint and sends RENEW, whether a closing failed and its opening runs (R297), the line under DRIVE_EN test (0 A, 1 B),
voted samples since step 4 and since drive removal, a pending CLAIM with its edition and time, the frame counter, the
static request pairs CONT_NEG, CONT_PRE, CONT_POS (R295), whether the perturbation moves, whether the last duty was
clamped, whether a STATUS has been seen since start. -/
structure Drive where
  arm : Bool
  imprint : Bool
  renew : Bool
  failing : Bool
  enLine : Nat
  preSamples : Nat
  removedSamples : Nat
  claimPending : Bool
  claimEdition : Nat
  claimNs : Nat
  txSeq : Nat
  req : Nat
  perturbMoving : Bool
  clampedLast : Bool
  statusSeen : Bool
  deriving DecidableEq, Repr

/-- The safety complex beside its registers: the envelope that the Full Stop ramp is held against (R317), the current
it started from, the start time, drive removal, the Ellipsis time left, the crossing counts of the Margin engine by
quantity (R311), the conditions of R315 (unmonitored cells, sweeps complete in a row, a position with both marks), the
mismatch count and DISC_FAULT exit of each input pair (R324), the last feedback samples (R326), passed test gaps in a
row (R328), the held reset of R306, a stop request sent (R320), a current-reduction request running (R300). -/
structure Safety where
  envR : F64
  envV : F64
  envA : F64
  i0 : Int
  fsStartNs : Nat
  removed : Bool
  afterRemoval : Bool
  ellLeftNs : Nat
  crossings : List (Nat × Nat)
  unmon : Nat
  goodSweeps : Nat
  bothMarks : Bool
  sioMis : List Nat
  sioRec : List Bool
  fbHist : List Nat
  fbTestPass : Nat
  lockstepHold : Bool
  stopReqSent : Bool
  carrierReq : Bool
  deriving DecidableEq, Repr

/-- What MRAM holds beside the Plant Record: register words that survive restarts, and the state of function POWER that
the safety complex rewrites at every change (R308), whether a LOCKSTEP report is due at the next start (R306), the delivery key,
empty once erased (R552). -/
structure Mram where
  regs : Store 32
  power : Nat
  lockstepSeen : Bool
  deliveryKey : List Nat
  deriving DecidableEq, Repr

/-- The sums of a least-squares fit of R238 over a measure span: the Gram matrix of the basis over the sweeps, each cell's
products with its number of good samples and whether it was SUSPECT, the Gram matrix and the products of the current, the
current sums in mA and counts of the two halves, whether a sample had CUR_VALID 0, whether the Margin clamp acted. -/
structure Fit where
  gramV : List (List F64)
  cells : List (List F64 × Nat × Bool)
  gramI : List (List F64)
  vecI : List F64
  half1 : Int
  half2 : Int
  n1 : Nat
  n2 : Nat
  curBad : Bool
  clipped : Bool
  deriving DecidableEq, Repr

/-- A bin's result (R239, R243): samples L and periods M, tries, state, abs(I) in A and arg(I) in degrees, every cell's entry. -/
structure BinRes where
  bin : Nat
  l : Nat
  m : Nat
  tries : Nat
  state : Nat
  iAbs : F64
  iArg : F64
  cells : List (Int × Int)
  deriving DecidableEq, Repr

/-- A cell's metrics (R244): R_HF, R_ARC and R_LF in nΩ, F_PEAK in mHz, the flags of SEL_METRIC_FLAGS. -/
structure Metric where
  rHf : Int
  rArc : Int
  rLf : Int
  fPeak : Nat
  flags : Nat
  deriving DecidableEq, Repr

/-- The Assay unit beside its registers: what row 6 accepted (masks, KIND, a run wanted), the bins still to measure with the
present one first, the state after a taper, metrics due, A in mA; the start of the rise and of the present settle span in ns,
the phase there in turns, L, M, s_n, the try; the taper's start, end and first value; the fit, the results, the metrics, the
bin whose temperature estimates are due; the two MRAM areas of trim offsets in 0.01 °C and which of them was sealed last, and the equilibrium of R247: recent T_SURF
values of each cell with the time of the last update that had them, the time since which the current is small, and
whether it held when the run started. -/
structure Assay where
  mask : Nat
  kind : Nat
  bins : List Nat
  endState : Nat
  metricsDue : Bool
  wantRun : Bool
  amplMa : Nat
  riseNs : Nat
  startNs : Nat
  theta : F64
  l : Nat
  m : Nat
  sN : Nat
  tries : Nat
  fallNs : Nat
  fallEnd : Nat
  fallFrom : F64
  fit : Option Fit
  res : List BinRes
  metrics : List Metric
  tempDue : Option Nat
  tcals : List (List Int)
  tcalAt : Nat
  tHist : List (List (Int × Nat))
  calmNs : Option Nat
  equil : Bool
  deriving DecidableEq, Repr

/-- The measurement unit beside its registers: when the last insulation result completed (local ns), whether a voted
sample has been published since the restart, whether the last one had CUR_VALID, missing and arrived high-voltage
frames in a row and HV_LOST, an offset calibration under way with the complete windows of each current channel and the sum of its
values without offset in mA (R168), whether the chassis loop is open (R178), the voted samples in a row in which each excluded
channel has agreed (R175), whether a CHAIN_SUM has formed, sum mismatches in a row (R176), the last voted samples (time, voltage, current; newest first),
when the last one of 0.1 C or more came (R360), whether a new holder's
first insulation cycle is still to start (R180), and how many insulation cycles have been started. -/
structure Meas where
  imdAt : Option Nat
  published : Bool
  lastValid : Bool
  hvMissing : Nat
  hvArrived : Nat
  hvLost : Bool
  calibrating : Bool
  cal : List (Nat × Int)
  loopOpen : Bool
  agree : List Nat
  sumFormed : Bool
  sumMismatch : Nat
  hist : List (Nat × Int × Int)
  loudNs : Option Nat
  imdWait : Bool
  imdCycle : Nat
  deriving DecidableEq, Repr

/-- A chain position as the master knows it: its node (R109) and its CHAIN_RANGE (R498), its delay in ps with the round trips
summed so far and those still awaited (R114), the comparator ALARMs counted last as (port, cause, time) (R124), what its last
slots held (voltages in 100 µV of the last sweep and of the one before, temperatures in 0.01 °C, the slot's bytes), the marks and
counts of the integrity checks (R140 to R149) and its balancing plan (R154 to R158). `pairs` lists the SENSE_SUSPECT pairs
as (wire, bound), `singles` the cells under the proof remainder; `sigBase`, `misBase` and `testBase` hold the voltages of the
last sweep before the starting sweep of R143, by what made it one; `sigNew` and `misNew` say that the signature or the mismatch
arose while a test ran, `owRead` how much of a node's report has been read (1 done, 2 OW_FLAGS_LO); `clr` is the clear of R144 (0
none, 1 its test awaited, 2 its test running, 3 its proofs counted). -/
structure Position where
  state : Nat
  uid : Nat
  type : Nat
  fw : Nat
  caps : Nat
  range : Nat
  dly : Option Nat
  dlySum : Nat
  dlyLeft : Nat
  slotErr : Nat
  alarm : Nat
  alarms : List (Nat × Nat × Nat)
  alarmOn : Bool
  late : Bool
  segment : Bool
  offset : Int
  bytes : List Nat
  pstat : Nat
  volts : List Nat
  prev : List Nat
  full : Option (List Nat)
  fast : Option (List Nat)
  temps : List Int
  nodeTemp : Int
  proofDiff : Int
  proofP : Nat
  proofT : Nat
  proofMis : Nat
  proofBad : Bool
  steps : Nat
  sigWire : Option Nat
  sigNew : Bool
  misNew : Bool
  sigBase : List Nat
  misBase : List Nat
  testBase : List Nat
  suspect : Nat
  pairs : List (Nat × Nat)
  singles : List Nat
  proofFault : Bool
  stuck : Bool
  hot : Bool
  compBad : Bool
  compAgain : Bool
  owFlags : Nat
  owAnswered : Bool
  owRead : Nat
  owNoReply : Nat
  owUnmon : Bool
  disturbed : Nat
  closed : List Nat
  hold : Bool
  clr : Nat
  clrProofs : Nat
  plan : Nat
  applied : Nat
  clamped : Bool
  deriving DecidableEq, Repr

/-- A sweep in progress (R118, R119): its number, slot kind, sample instant on the time base, local launch time of its TRIG,
whether it is FAST with temperatures, its SPLIT mark, the positions whose samples rest on an unmeasured WAIT (R115), those
triggered again from the other end (R126) and whether the deadline of its own and of that segment has passed, and the positions
from which a valid slot, a valid TEMP slot, a measurement and a slot with BLEED_ACTIVE clear have come, and the sample offsets in
ns of positions that have one. -/
structure Sweep where
  num : Nat
  kind : Nat
  instant : Nat
  launchNs : Nat
  withTemps : Bool
  split : Bool
  latePos : List Nat
  other : List Nat
  deadOwn : Bool
  deadOther : Bool
  got : List Nat
  gotT : List Nat
  sampled : List Nat
  quiet : List Nat
  offsets : List (Nat × Int)
  deriving DecidableEq, Repr

/-- What a RELAY directs (R127): sweep number, CTRL of TRIG, sample instant, launch time of COLLECT, whether TRIG has left. -/
structure Relay where
  num : Nat
  ctrl : Nat
  instant : Nat
  collect : Nat
  trig : Bool
  deriving DecidableEq, Repr

/-- The chain master beside its registers: the positions, the sweeps in progress (newest first), the last completed sweep,
the next sweep number, FAST sweeps since the last with temperatures, the enumeration (0 idle, 1 ENUM awaited, 2 delays being
measured, 3 settings being written) and whether its ENUM has left, a REJOIN's position, the delay to the far end, broken hops that
have come back and the positions not measured since (R129; the far end as 0xFE), a requested return to RING or LINE, whether a
higher EDITION has silenced the module (R92), what a RELAY directs, the bytes of a received frame not yet forwarded with whether
its first fragment has left (R91, R475), an open-wire test period, the slots of the last completed sweep by position, and those of the last sweep whose SWEEP_DONE
has been granted, with its SWEEP_STATUS, SWEEP_TIME and SWEEP_SEQ (R13, R378). -/
structure Chain where
  pos : List Position
  sweeps : List Sweep
  last : Option Sweep
  nextNum : Nat
  fastCount : Nat
  enum : Nat
  enumSent : Bool
  rejoin : Nat
  endDly : Option Nat
  endSum : Nat
  endLeft : Nat
  healed : List Nat
  unmeasured : List Nat
  rejoinWanted : Bool
  silenced : Bool
  relay : Option Relay
  fwd : List Nat
  fwdFrag : Nat
  owtPeriod : Bool
  image : List (List Nat)
  imageG : List (List Nat)
  wordsG : List Nat
  deriving DecidableEq, Repr

/-- Integrity and balancing beside its registers: an open-wire test wanted, wanted for a mode request, running, running for
a mode request; the staged and the committed plan of the positions 1 to 64, whether a commit awaits the sweep from which the next
BLEED frame is computed, whether the plan in force came with a commit that no frame has carried yet (R156, R160), whether the last
BLEED frame sent ON_TIME 0 to every position; the positions whose COMP_STATE is awaited after a fault loop trip and those
recorded (R153). -/
structure Balance where
  owtWanted : Bool
  owtForMode : Bool
  owtRunning : Bool
  owtServes : Bool
  staged : List Nat
  committed : List Nat
  commitWaits : Bool
  newPlan : Bool
  zeroSent : Bool
  floopWait : List Nat
  floopOpen : List Nat
  deriving DecidableEq, Repr

/-- One cell of the estimation engine: the states x1 to x12 and the covariance (R188, R196), REMAIN and the bleed charge in
10^-5 mA·s, the reported SoC as a fraction (R205), the record's flags, counts and last values (R221), the last NIS values
(R198), the voltage-empty run (R208), the learning cycle's charge in 10^-5 mA·s, start state and temperature sum (R212,
R213), the last Assay estimate with its time, a waiting one with its deviation in 0.01 K (R203), and the time of the last anchor
update; times in s on the base of SYS.HOURS. -/
structure CellEst where
  x : List F64
  p : List (List F64)
  remain : Int
  bleed : Int
  bleedSum : Int
  s : F64
  flags : Nat
  staleN : Nat
  gatedRun : Nat
  nis : List F64
  v2 : Int
  vPred : F64
  sweep : Nat
  tSurf : Int
  lowRun : Nat
  emptyMet : Bool
  fullMet : Bool
  dq : Int
  x1Start : F64
  tSum : Int
  tNum : Nat
  tAssay : Option Int
  tAssayH : Nat
  tNew : Option (F64 × F64)
  tUse : Option (F64 × F64)
  anchorH : Nat
  deriving DecidableEq, Repr

/-- What a used sweep gives one cell (R197): the case of the table (0 usable, 1 suspect with an estimate, 2 LATE, 3 unheard, 4
missing, 5 disturbed, 6 unmonitored), twice the voltage in 100 µV, the bound b, the assigned temperature in 0.01 °C. -/
structure CellMeas where
  case : Nat
  v2 : Int
  b : Nat
  t : Int
  deriving DecidableEq, Repr

/-- A used sweep that waits for its update (R195): number, instant, interval in ns, charge in 10^-5 mA·s, invalid voted
samples, current at the instant, what each cell measured, the bleed charge of each cell's interval in 10^-5 mA·s, UV and OV flags by cell, local
time of its SWEEP_DONE and of its TRIG. -/
structure Used where
  num : Nat
  instant : Nat
  dt : Nat
  q : Int
  gaps : Nat
  iS : Int
  cells : List CellMeas
  bleeds : List Int
  uv : List Bool
  ov : List Bool
  doneNs : Nat
  launchNs : Nat
  deriving DecidableEq, Repr

/-- What a shadow holds of a cell (R202): x1 to x12, the diagonal of the covariance, REMAIN in 10^-5 mA·s. -/
structure ShadowCell where
  x : List F64
  d : List F64
  remain : Int
  deriving DecidableEq, Repr

/-- A shadow of the engine in one of its two areas in MRAM (R202): cells, HOURS at its write, the Plant Record's version, the learning
cycle's phase, the time of the last anchor window, whether it is sealed. -/
structure Shadow where
  cells : List ShadowCell
  hours : Nat
  version : Nat
  learn : Nat
  anchorS : Nat
  sealOk : Bool
  deriving DecidableEq, Repr

/-- The estimation engine beside its registers: the running charge count between updates with the last voted samples (time,
current where valid), the sweep count of R193, the used sweep whose SWEEP_DONE is not yet granted, the one that waits for its update, the
last used launch time, the cells and their capacity bases in mA·s (MRAM), the published bank and the held one, the two shadow areas
and the one written last (MRAM), the time of the intervals with invalid samples and the number of these samples, POWER as the
restart found it (R201), values staged for a commit with the cell of a capacity set and cells set anew by a replay (MRAM, R214), what
waits for its event's grant (R220): capacity sets as (cell, value); the hold of a requested anchor window in ns (R219), the cell that
limited the count when HOLD was entered (R209), the string's reported SoC, the net charge of the present state and its extreme (R207), the time of voltage full (R208), the
anchor window (R217) and the time of the last one, the learning cycle, the time of the last reset (R211), an anchor update due at
the first update (R201), the cells that keep the basis suspect (MRAM). -/
structure Estim where
  charge : Int
  gaps : Nat
  recent : List (Nat × Option Int)
  rate : Nat
  div : Nat
  count : Nat
  next : Option Used
  used : Option Used
  lastLaunch : Option Nat
  cells : List CellEst
  basis : List Nat
  pub : List CellEst
  pubTime : Nat
  pubSeq : Nat
  held : Option (List CellEst × Nat × Nat)
  heldNs : Nat
  shadows : List (Option Shadow)
  shadowAt : Nat
  gapNs : Nat
  gapN : Nat
  startPower : Nat
  staged : Option (List Nat × Option Nat)
  reinit : List Nat
  capWait : List (Nat × Nat)
  holdNs : Nat
  holdCell : Option Nat
  soc : F64
  net : Int
  netLow : Int
  netHigh : Int
  fullNs : Nat
  quietNs : Nat
  anchorH : Nat
  learnNs : Nat
  learnBack : Int
  learnGap : Bool
  divergeNs : Option Nat
  restAnchor : Bool
  suspects : List Nat
  deriving DecidableEq, Repr

/-- The pair unit beside its registers: FLAGS and PSTATE of the partner's last heartbeat, the heartbeat counter, SENT_AT of the last
heartbeat sent (R437), valid heartbeats in a row on LINK and PULSE, the release hold-off of R361, the last MIRROR applied and when, whether a full
snapshot has been applied and every MIRROR since, a snapshot asked for, the ring slot up to which Galley lines were
mirrored, the swap (0 none, 1 offered, 2 released, 3 accepted, 4 granted with ARM 1, 5 partner granted), when the next swap
falls due (s on the base of SYS.HOURS), the last rise of LEASE_LEFT, whether the far end of the line is looped back because the
partner link is down (R363), the local time since which it is UP. -/
structure PairUnit where
  partnerFlags : Nat
  partnerState : Nat
  hbCounter : Nat
  hbSentAt : Nat
  linkGood : Nat
  pulseGood : Nat
  holdoff : Bool
  mirror : Option MirrorMsg
  mirrorNs : Nat
  snapshot : Nat
  snapDue : Bool
  lineWr : Nat
  swap : Nat
  swapDue : Nat
  leaseNs : Option Nat
  loopN : Bool
  linkUpNs : Nat
  deriving DecidableEq, Repr

/-- Start-up and addressing beside their registers: a TAKEN that role B holds back (the CAN controller of the OFFER), clocks
out of tolerance in the last window, the times of step 4 failures in s on the base of SYS.HOURS (MRAM), whether a wake's
oscillator check is due, what holds reset (bit 0 supply, bit 1 RESET_N), whether SVC_N is ignored until its debounced open, a
Galley node operation that replay repeats, whether a clock or watchdog fault caused the restart, the local time of the last
watchdog service, the local time base when CAL_PPB was last written and the local time of that; what waits for its event's grant: a
restart request (whether it is cold, R74), the level of a changed ADDR_IN, OFFERs as (CAN controller, address) (R80). -/
structure AuxUnit where
  takenWait : Option Nat
  badClocks : List Nat
  step4 : List Nat
  oscCheck : Bool
  hold : Nat
  svcIgnore : Bool
  nodeRepeat : Bool
  faultSeen : Bool
  kickNs : Nat
  baseNs : Nat
  baseAt : Nat
  restartWait : Option Bool
  addrInNext : Bool
  offers : List (Nat × Nat)
  deriving DecidableEq, Repr

/-- Peer delay on a plant port (R432): sequenceId of the last Pdelay_Req, its send time, requestReceiptTimestamp and receive
time of the response while its Follow_Up is awaited, the mean delay in ns. -/
structure PdPort where
  seq : Nat
  t1 : Nat
  t2 : Nat
  t4 : Nat
  waits : Bool
  delay : Int
  deriving DecidableEq, Repr

/-- A compatibility time base (R440): its CTL word, its value when it was last loaded or changed, its source's ns then. -/
structure Compat where
  ctl : Nat
  val : Nat
  since : Nat
  deriving DecidableEq, Repr

/-- A selected grandmaster: its data set in the order of comparison, its identity, its ingress port. -/
structure Gm where
  rank : List Nat
  id : Nat
  port : Nat
  deriving DecidableEq, Repr

/-- The time unit: the 64-bit count in ns with its 32-bit fraction (R429); the increment for the rate ratio, whether a refused
step is slewed away, the grandmaster, a two-step Sync that waits (R432), Syncs in a row within 1 µs (R434), offsets beyond STEP_THR in
a row (R435), host steps that wait for their grant (R441), peer delays, sequenceId of its own messages, offsets of the exchanges with the partner in eighths of a ns (R437), armed triggers and
those that pulse (R438), the compatibility bases with COMPAT_LOAD_LO (R440). -/
structure TimeUnit where
  now : Nat
  frac : Nat
  rate : Nat
  slewing : Bool
  gm : Option Gm
  waits : Option PtpMsg
  lockRun : Nat
  stepRun : List Int
  stepWait : List Int
  pd : List PdPort
  seqOut : Nat
  ofs : List Int
  armed : List Bool
  pulse : List Bool
  compat : List Compat
  loadLo : Nat
  deriving DecidableEq, Repr

/-- A payload whose header has passed (R496): its fields, the interface ranges SAFE_API, CHAIN, DRIVE, PAIR, RECORD, the body
as far as received, and the Plant Record that a RECORD body spells. -/
structure Payload where
  kind : Nat
  targetType : Nat
  version : Nat
  ifs : List Nat
  epoch : Nat
  bodyLen : Nat
  hash : List Nat
  body : List Nat
  record : Option PlantRecord
  deriving DecidableEq, Repr

/-- A node firmware sequence (R505): its payload, the positions left (the present one first), the operation sent (1 ERASE,
2 WRITE, 3 VERIFY, 4 ACTIVATE), its block, whether the operations were already repeated once, whether a next operation
waits (for a mode, for POWER OFF), whether the node's rejoin is awaited. -/
structure NodeUpd where
  payload : Payload
  left : List Nat
  op : Nat
  block : Nat
  again : Bool
  waits : Bool
  rejoin : Bool
  deriving DecidableEq, Repr

/-- An output stage load (R506): its payload, the frame awaited (1 LOAD_BEGIN, 2 LOAD_DATA, 3 LOAD_END, 4 the restart), bytes
acknowledged and bytes sent. -/
structure Load where
  payload : Payload
  phase : Nat
  acked : Nat
  sentTo : Nat
  deriving DecidableEq, Repr

/-- The update manager beside its registers: bytes of the transfer (newest first), its payload once the header has passed,
the payload waits for the hash, READY payloads, armed kinds and whether they come from the other bank, armed for the next
start (MRAM), the APP and SAFE banks (flash), the EPOCH floors by kind (MRAM), the interface ranges of the committed
record (MRAM), kinds still activating, a node sequence, a load, an APP exchange that waits, whether a kind of the activation has failed,
an ABORT that waits for its grant (R508), the NODE and OSTAGE bodies that the banks' slots store (R501). -/
structure Upd where
  rx : List Nat
  cur : Option Payload
  state : Nat
  ready : List Payload
  armed : List Payload
  nextStart : List Payload
  app : List (Option Payload)
  safe : List (Option Payload)
  floors : List Nat
  recIfs : List Nat
  active : List Nat
  node : Option NodeUpd
  load : Option Load
  exchange : Option Payload
  anyFail : Bool
  abortWait : Bool
  store : List Payload
  deriving DecidableEq, Repr

/-- A timer slot (R388): declared KIND, UNIT and PT, IN, PREV, Q, the time counted in ns before `since`, and the local time
since which ET counts, if it counts. -/
structure Tmr where
  kind : Nat
  unit : Nat
  pt : Nat
  inp : Bool
  prev : Bool
  q : Bool
  acc : Nat
  since : Option Nat
  deriving DecidableEq, Repr

/-- A program shadow or retentive copy in MRAM (R391, R392): the memory parts as (address, bytes), the RETAIN variables as
(NAME_HASH, bytes), LAYOUT_HASH and the image version of its seal, whether it is sealed, local time of its seal. -/
structure Copy where
  parts : List (Nat × List Nat)
  vars : List (Nat × List Nat)
  layout : Nat
  version : Nat
  sealOk : Bool
  hours : Nat
  deriving DecidableEq, Repr

/-- The executive beside its registers (chapter 14): the image loaded, the entry running on core 0 (0 COLD, 1 WARM, 2 EXCH,
3 CYCLE), whether it missed its deadline, whether the next cycle is skipped, whether an image waits to be transferred, a
stop at the boundary (1 STOP, 2 HOLD), a single step, the local time since which R382 and R383 count, cycles in time in a
row, RETAIN and shadow writes asked for, a shadow being written, the sealed shadow and retentive copies (MRAM), a restart
that waits for the seal (KIND), core 1's trap times with whether it is stopped, the input image bank in use,
the timer slots, a shadow that could not be sealed before the restart, WDG_KICK's last value, commands of CYC.CTL that wait for their
grant as (CMD, START_KIND) (R397). -/
structure Cyclic where
  image : Option Payload
  entry : Option Nat
  late : Bool
  skip : Bool
  done : Bool
  stopAt : Nat
  step : Bool
  outNs : Option Nat
  inTime : Nat
  retainWant : Bool
  shadowWant : Bool
  writing : Option Copy
  shadow : Option Copy
  retains : List Copy
  restart : Option Nat
  svcTraps : List Nat
  svcRuns : Bool
  bank : Nat
  tmr : List Tmr
  unsealed : Bool
  kick : Nat
  cmds : List (Nat × Nat)
  deriving DecidableEq, Repr

/-- A receive entry of a CAN queue (R447): its four header words and its data bytes. -/
structure RxEntry where
  w0 : Nat
  w1 : Nat
  w2 : Nat
  w3 : Nat
  data : List Nat
  deriving DecidableEq, Repr

/-- A receive queue (R458 to R460): its entries, oldest first, the master that locks the head with the local time of its last
read, whether a run of drops goes on. -/
structure RxQueue where
  entries : List RxEntry
  lock : Option (Nat × Nat)
  dropping : Bool
  deriving DecidableEq, Repr

/-- A CAN controller beside its registers: launch buffers that have become eligible and buffers whose last attempt ended in a
data-field bit error, as bit masks (R448, R463), safety announcements that wait for buffer 31, the receive queues, the counter
and the SOF time of the time reference sent last, counter and SOF time of the one received last, the local time since which
R453 counts its loss. -/
structure CanUnit where
  due : Nat
  bitErr : Nat
  annQ : List (List Nat)
  rxq : List RxQueue
  trefCount : Nat
  trefSent : Nat
  trefLast : Option (Nat × Nat)
  trefNs : Option Nat
  deriving DecidableEq, Repr

/-- A received message under reassembly on the partner link (R474, R476): its TYPE and MSG_ID and the next FRAG. -/
structure Frags where
  type : Nat
  msg : Nat
  next : Nat
  deriving DecidableEq, Repr

/-- A partner frame that waits for the line (R475): TYPE, MSG_ID, fragment index, whether it is the last, its body, and of a last FWD
fragment the local time of the EOF of its frame. -/
structure PlnkTx where
  type : Nat
  msg : Nat
  frag : Nat
  last : Bool
  body : List Nat
  eof : Option Nat
  deriving DecidableEq, Repr

/-- Plant Ethernet and the partner link beside their registers: COUNTER of the module's own datagrams and the last one accepted
by source address (R472), the learned MAC addresses with their port and the local time of the last frame (R470), whether the
head descriptor of each transmit ring has been found late or due (0 no, 1 due, 2 late; R473), messages under reassembly (R476),
the local time of the last valid partner link frame (R477), partner frames that wait, SEQ of the next, the next MSG_ID of each TYPE,
the local time until which the line is busy, how long it has been used since the last whole second, the local time of the next
heartbeat's launch (R474, R475, R481). -/
structure EthUnit where
  counter : Nat
  seen : List (Nat × Nat)
  macs : List (Nat × Nat × Nat)
  head : List Nat
  frags : List Frags
  plnkNs : Nat
  txq : List PlnkTx
  txSeq : Nat
  txMsg : List Nat
  txBusy : Nat
  txUsed : Nat
  hbAt : Option Nat
  deriving DecidableEq, Repr

/-- A controller transaction on the two-wire bus (R489): C_CTL and C_CMD as they stood at GO, the data bytes to write, whether START
has gone out, whether the retry of R492 runs or waits. -/
structure TwbRun where
  ctl : Nat
  cmd : Nat
  data : List Nat
  started : Bool
  retried : Bool
  deriving DecidableEq, Repr

/-- The two-wire port beside its registers: whether the bus is free (R490), the transaction in progress. -/
structure TwbUnit where
  free : Bool
  run : Option TwbRun
  deriving DecidableEq, Repr

/-- A VRA session (R55, R56): identifier, level, session key, the last accepted SEQUENCE with its tag, the stored reply, the CLK_FAB
cycle of the last valid request. -/
structure VraSession where
  id : Nat
  level : Nat
  key : List Nat
  seq : Nat
  tag : List Nat
  reply : List Nat
  cycle : Nat
  deriving DecidableEq, Repr

/-- The access paths: open VRA sessions, tag failures by source address with their local time, blocked source addresses (R57),
high words latched by master and address (R52). -/
structure AccessUnit where
  sessions : List VraSession
  failures : List (Nat × Nat)
  blocked : List Nat
  latches : List (Nat × Nat × Nat)
  deriving DecidableEq, Repr

/-- Why a step can stop with a fault. No rule of the spec stops the module, so no meaning raises one: the type is
empty, which is safe. -/
inductive Fault where
  deriving DecidableEq, Repr

/-- Why a command has no meaning. -/
inductive Refusal where
  /-- Raised by a dispatch arm whose command has no meaning yet; safe. -/
  | notModelled (mnemonic : String)
  deriving DecidableEq, Repr

/-- The state of the module. `pending` holds the commands that wait, first in first out; `sent` the messages that have
left, newest first; `freeCtr` counts the free values used (the last three are the model's own). `ticks` counts CLK_TB
ticks of 4 ns since reset, `fltHeld` holds word 1 of filter elements as written last (R455). -/
structure State where
  pending : List Instr
  regs : Store 32
  ram : Store 8
  phase : Phase
  variant : Variant
  record : Option PlantRecord
  mram : Mram
  ticks : Nat
  time : TimeUnit
  comp : Compositor
  evr : Recorder
  gal : Galley
  mode : ModeUnit
  loops : List Slot
  prof : Prof
  thm : Thermal
  drv : Drive
  safe : Safety
  asy : Assay
  meas : Meas
  est : Estim
  bal : Balance
  chain : Chain
  pairU : PairUnit
  aux : AuxUnit
  upd : Upd
  cyc : Cyclic
  can : List CanUnit
  fltHeld : Store 32
  eth : EthUnit
  twb : TwbUnit
  acc : AccessUnit
  dormantAt : Nat
  freeCtr : Nat
  sent : List Out
  deriving DecidableEq, Repr

/-- A bank whose registers read 0. -/
def Bank.zero : Bank := ⟨0, 0, 0, 0, 0, 0, 0, 0, 0, 0⟩

/-- A loop slot at reset: IDLE, DIV 1, MODE MANUAL, FRZ_THR 100 (R276). -/
def Slot.reset : Slot := {
  cfg := 0x100, route := 0, fmt := 0, manual := true, state := 0, active := Bank.zero, shadow := Bank.zero,
  bankNo := 0, swapPend := false, setpoint := 0, setpoint2 := 0, manOut := 0, fallback := 0, frzThr := 100,
  fb := 0, err := 0, out := 0, s1 := 0, s2 := 0, s3 := 0, sat := false, satHi := false, accSat := false,
  stale := false, frozen := false, binding := false, samples := 0, frzRef := 0, frzCount := 0, negRef := false,
  restart := false, lost := false, srcSeq := 0, holdEnd := 0 }

/-- A chain position before any node has been found there. -/
def Position.reset : Position := {
  state := 0, uid := 0, type := 0, fw := 0, caps := 0, range := 0, dly := none, dlySum := 0, dlyLeft := 0, slotErr := 0, alarm := 0,
  alarms := [], alarmOn := false, late := false, segment := false, offset := 0, bytes := [], pstat := 0,
  volts := [], prev := [], full := none, fast := none, temps := [], nodeTemp := 0, proofDiff := 0, proofP := 0, proofT := 0,
  proofMis := 0, proofBad := false, steps := 0, sigWire := none, sigNew := false, misNew := false, sigBase := [],
  misBase := [], testBase := [], suspect := 0, pairs := [], singles := [],
  proofFault := false, stuck := false, hot := false, compBad := false, compAgain := false, owFlags := 0,
  owAnswered := false, owRead := 0, owNoReply := 0, owUnmon := false, disturbed := 0, closed := [], hold := false, clr := 0,
  clrProofs := 0, plan := 0, applied := 0, clamped := false }

/-- An undeclared timer slot. -/
def Tmr.reset : Tmr := ⟨0, 0, 0, false, false, false, 0, none⟩

/-- A CAN controller at reset. -/
def CanUnit.reset : CanUnit := ⟨0, 0, [], List.replicate 4 ⟨[], none, false⟩, 0, 0, none, none⟩

/-- The reset words of the register pages, as a store. -/
def resetRegs : Store 32 := resetWords.map (fun p => (p.1, BitVec.ofNat 32 p.2))

/-- The machine right after reset: every register at the reset value of its table (those from the Plant Record or MRAM at
the values of an empty record and an empty MRAM, assumption log 1), reset asserted (R69), nothing waiting. -/
def State.reset : State := {
  pending := [], regs := resetRegs, ram := [], phase := .held, variant := .F, record := none,
  mram := { regs := [(Reg.CYC_BOOT, 1)], power := 0, lockstepSeen := false, deliveryKey := List.replicate 32 0 }, ticks := 0, 
  time := { now := 0, frac := 0, rate := 4 * 2 ^ 32, slewing := false, gm := none, waits := none, lockRun := 0, stepRun := [], stepWait := [],
            pd := [⟨0, 0, 0, 0, false, 0⟩, ⟨0, 0, 0, 0, false, 0⟩], seqOut := 0, ofs := [],
            armed := List.replicate 4 false, pulse := List.replicate 4 false,
            compat := List.replicate 4 ⟨12, 0, 0⟩, loadLo := 0 },
  comp := { cycle := 0, waiting := [], core := [], dropping := false, ring := [], grantsSinceStore := 0,
            firstGrantDone := false, lastTime := 0, wraps := 0, annWait := [], waitReq := none, occ := [] },
  evr := { ring := [], taken := [], window := [], copying := none, holdoff := [], missedSince := [], post := none,
           freezeAt := 0 },
  gal := { slots := [], wr := 0 },
  mode := { row := 0, waitOwt := false, waitAck := false, busyFunc := 0, kept := none, forwardTag := none,
            forwardTarget := 0, due := 0, dueTag := 0, dueTgt := 0, dueSeq := 0, partnerTag := 0, partnerTgt := 0,
            accTag := 0, accTgt := 0, aborted := false },
  loops := List.replicate 8 Slot.reset,
  prof := { r := F64.zero, v := F64.zero, a := F64.zero, arrived := true, anchor := false,
            bound := none, clamped := none },
  thm := { tinFault := [false, false, false, false], srcCount := [], chain := none, core := none, fanStall := false,
           flowLow := false },
  drv := { arm := false, imprint := false, renew := false, failing := false, enLine := 0, preSamples := 0,
           removedSamples := 0, claimPending := false, claimEdition := 0, claimNs := 0, txSeq := 0, req := 0,
           perturbMoving := false, clampedLast := false, statusSeen := false },
  safe := { envR := F64.zero, envV := F64.zero, envA := F64.zero, i0 := 0, fsStartNs := 0, removed := false,
            afterRemoval := false, ellLeftNs := 0, crossings := [], unmon := 0, goodSweeps := 0, bothMarks := false,
            sioMis := List.replicate 8 0, sioRec := List.replicate 8 false, fbHist := [], fbTestPass := 0,
            lockstepHold := false, stopReqSent := false, carrierReq := false },
  asy := { mask := 0, kind := 0, bins := [], endState := 0, metricsDue := false, wantRun := false, amplMa := 0, riseNs := 0,
           startNs := 0, theta := F64.zero, l := 0, m := 0, sN := 0, tries := 0, fallNs := 0, fallEnd := 0,
           fallFrom := F64.zero, fit := none, res := [], metrics := [], tempDue := none, tcals := [[], []], tcalAt := 0, tHist := [],
           calmNs := none, equil := false },
  meas := { imdAt := none, published := false, lastValid := false, hvMissing := 0, hvArrived := 0, hvLost := false,
            calibrating := false, cal := [], loopOpen := false, agree := [0, 0, 0, 0, 0, 0], sumFormed := false, sumMismatch := 0,
            hist := [], loudNs := none, imdWait := false, imdCycle := 0 },
  est := { charge := 0, gaps := 0, recent := [], rate := 0, div := 0, count := 0, next := none, used := none, lastLaunch := none, cells := [],
           basis := [], pub := [], pubTime := 0, pubSeq := 0, held := none, heldNs := 0, shadows := [none, none], shadowAt := 0, gapNs := 0, gapN := 0, startPower := 0, staged := none,
           reinit := [], capWait := [], holdNs := 0, holdCell := none,
           soc := F64.zero, net := 0, netLow := 0, netHigh := 0, fullNs := 0, quietNs := 0, anchorH := 0, learnNs := 0,
           learnBack := 0, learnGap := false, divergeNs := none, restAnchor := false, suspects := [] },
  bal := { owtWanted := false, owtForMode := false, owtRunning := false, owtServes := false,
           staged := List.replicate 64 0, committed := List.replicate 64 0, commitWaits := false, newPlan := false,
           zeroSent := false, floopWait := [], floopOpen := [] },
  chain := { pos := [], sweeps := [], last := none, nextNum := 0, fastCount := 0, enum := 0, enumSent := false, rejoin := 0,
             endDly := none, endSum := 0, endLeft := 0, healed := [], unmeasured := [], rejoinWanted := false, silenced := false,
             relay := none, fwd := [], fwdFrag := 0, owtPeriod := false, image := [], imageG := [],
             wordsG := [0, 0, 0] },
  pairU := { partnerFlags := 0, partnerState := 0, hbCounter := 0, hbSentAt := 0, linkGood := 0, pulseGood := 0, holdoff := false,
             mirror := none, mirrorNs := 0, snapshot := 0, snapDue := false, lineWr := 0, swap := 0, swapDue := 0,
             leaseNs := none, loopN := false, linkUpNs := 0 },
  aux := { takenWait := none, badClocks := [], step4 := [], oscCheck := false, hold := 1, svcIgnore := false, nodeRepeat := false,
           faultSeen := false, kickNs := 0, baseNs := 0, baseAt := 0, restartWait := none, addrInNext := false, offers := [] },
  upd := { rx := [], cur := none, state := 0, ready := [], armed := [], nextStart := [], app := [none, none],
           safe := [none, none], floors := [0, 0, 0, 0, 0], recIfs := [0, 0, 0, 0, 0], active := [], node := none,
           load := none, exchange := none, anyFail := false, abortWait := false, store := [] },
  cyc := { image := none, entry := none, late := false, skip := false, done := false, stopAt := 0, step := false,
           outNs := none, inTime := 0, retainWant := false, shadowWant := false, writing := none, shadow := none,
           retains := [], restart := none, svcTraps := [], svcRuns := false, bank := 0,
           tmr := List.replicate 64 Tmr.reset, unsealed := false, kick := 0, cmds := [] },
  can := List.replicate 2 CanUnit.reset, fltHeld := [],
  eth := { counter := 0, seen := [], macs := [], head := [0, 0], frags := [], plnkNs := 0, txq := [], txSeq := 0,
           txMsg := List.replicate 13 0, txBusy := 0, txUsed := 0, hbAt := none },
  twb := { free := false, run := none },
  acc := { sessions := [], failures := [], blocked := [], latches := [] },
  dormantAt := 0, freeCtr := 0, sent := [] }

/-- Local time in ns, from the CLK_TB ticks. -/
def State.localNs (s : State) : Nat := 4 * s.ticks

end Sys2Proof.Machine
end

