-- ==== Sys2Proof/Machine/Ops.lean ====
section
/-! DEFINITION. The named operations over the state: registers and fields, memory bytes, events into the Compositor,
outgoing messages, MRAM, the Galley's lines, function states. -/

namespace Sys2Proof.Machine

/-- The word of the register at `a` (R46). -/
def State.getReg (s : State) (a : Nat) : Nat := (s.regs.get a).toNat

/-- The register at `a` takes `v` (its low 32 bits). -/
def State.setReg (s : State) (a v : Nat) : State := { s with regs := s.regs.set a (BitVec.ofNat 32 v) }

/-- The value of a register field. -/
def State.getF (s : State) (f : Fld) : Nat := bitsOf (s.getReg f.addr) f.hi f.lo

/-- A register field takes `v`. -/
def State.setF (s : State) (f : Fld) (v : Nat) : State := s.setReg f.addr (putBits (s.getReg f.addr) f.hi f.lo v)

/-- A one-bit field as a truth value. -/
def State.flag (s : State) (f : Fld) : Bool := s.getF f != 0

/-- A one-bit field takes a truth value. -/
def State.setB (s : State) (f : Fld) (b : Bool) : State := s.setF f (b2n b)

/-- A 32-bit register as a signed number. -/
def State.getI (s : State) (a : Nat) : Int := sInt 32 (s.getReg a)

/-- A 32-bit register takes a signed number. -/
def State.setI (s : State) (a : Nat) (v : Int) : State := s.setReg a (toU 32 v)

/-- An occurrence changes a W1C or RC register by `f`, and the CLK_FAB cycle's own part of it is kept for a clear of the same cycle
(R9). -/
def State.occur (s : State) (a : Nat) (f : Nat → Nat) : State :=
  let e := (s.comp.occ.find? (fun x => x.1 == a)).getD (a, s.getReg a, 0)
  { s.setReg a (f (s.getReg a)) with
    comp := { s.comp with occ := (a, e.2.1, f e.2.2 % 2 ^ 32) :: s.comp.occ.filter (fun x => x.1 != a) } }

/-- A bit that a read clears, kept outside the register store under a key, is set (R9). -/
def State.occurFlag (s : State) (k : Nat) (old : Bool) : State :=
  if s.comp.occ.any (fun x => x.1 == k) then s
  else { s with comp := { s.comp with occ := (k, b2n old, 1) :: s.comp.occ } }

/-- The key of an arrival in `comp.occ`, above every address. -/
abbrev arrivalKey (k : Nat) : Nat := 2 ^ 33 + k

/-- An arrival of kind `k` takes place: an expiry of the same CLK_FAB cycle does not take effect (R10, R130). -/
def State.arrive (s : State) (k : Nat) : State := s.occurFlag (arrivalKey k) false

/-- An arrival of kind `k` has taken place in the present CLK_FAB cycle. -/
def State.arrivedNow (s : State) (k : Nat) : Bool := s.comp.occ.any (fun x => x.1 == arrivalKey k)

/-- What the present cycle alone has added to a register; 0 where nothing (R9). -/
def State.added (s : State) (a : Nat) : Nat := ((s.comp.occ.find? (fun x => x.1 == a)).map (·.2.2)).getD 0

/-- What a register held before the present CLK_FAB cycle's writes that are kept for it. -/
def State.before (s : State) (a : Nat) : Nat := ((s.comp.occ.find? (fun x => x.1 == a)).map (·.2.1)).getD (s.getReg a)

/-- An RC counter counts one more, saturating at 32 bits. -/
def State.countReg (s : State) (a : Nat) : State := s.occur a (fun w => satU 32 (w + 1))

/-- An RC field counts `n` more, saturating at its width. -/
def State.occurAdd (s : State) (f : Fld) (n : Nat) : State :=
  if n == 0 then s else s.occur f.addr (fun w => putBits w f.hi f.lo (satU (f.hi - f.lo + 1) (bitsOf w f.hi f.lo + n)))

/-- An RC field counts one more, saturating at its width. -/
def State.countRc (s : State) (f : Fld) : State := s.occurAdd f 1

/-- A W1C bit is set. -/
def State.occurBit (s : State) (a i : Nat) : State := s.occur a (fun w => putBit w i true)

/-- A register that no read clears counts one more, saturating at 32 bits. -/
def State.countUp (s : State) (a : Nat) : State := s.setReg a (satU 32 (s.getReg a + 1))

/-- A counter register counts one more, wrapping. -/
def State.wrapReg (s : State) (a : Nat) : State := s.setReg a (s.getReg a + 1)

/-- A counter field counts one more, saturating at its width. -/
def State.countF (s : State) (f : Fld) : State := s.setF f (satU (f.hi - f.lo + 1) (s.getF f + 1))

/-- The byte of memory at `a` (on-chip SRAM and LPDDR4X, R43). -/
def State.getByte (s : State) (a : Nat) : Nat := (s.ram.get a).toNat

/-- The byte of memory at `a` takes `v`. -/
def State.setByte (s : State) (a v : Nat) : State := { s with ram := s.ram.set a (BitVec.ofNat 8 v) }

/-- The bytes of a store after `bs` are written from address `a` up. -/
def storeBytes (m : Store 8) : Nat → List Nat → Store 8
  | _, [] => m
  | a, b :: t => storeBytes (m.set a (BitVec.ofNat 8 b)) (a + 1) t

/-- `n` bytes of a store from address `a` up. -/
def readBytes (m : Store 8) : Nat → Nat → List Nat
  | _, 0 => []
  | a, n + 1 => (m.get a).toNat :: readBytes m (a + 1) n

/-- Memory after `bs` are written from address `a` up. -/
def State.setBytes (s : State) (a : Nat) (bs : List Nat) : State := { s with ram := storeBytes s.ram a bs }

/-- A message leaves the module. -/
def State.emit (s : State) (p : Port) (code : Nat) (data : List Nat) : State :=
  { s with sent := ⟨p, code, data⟩ :: s.sent }

/-- The counter of free values advances; the value used is the one before. -/
def State.fresh (s : State) : State := { s with freeCtr := s.freeCtr + 1 }

/-- The time unit's 32-bit ns value (R409). -/
def State.stamp (s : State) : Nat := s.time.now % 2 ^ 32

/-- The module runs: it is neither held in reset nor in DORMANT nor stopped in the boot ROM. -/
def State.live (s : State) : Bool := s.phase == .starting || s.phase == .up

/-- A unit's page is present in the variant (R4, R5): ASY is absent from VB-2064-A and VB-2064-C, DRV and PLNK from
VB-2064-C. -/
def pagePresent (v : Variant) (p : Nat) : Bool := match v with
  | .F => true
  | .A => p != Pg.ASY
  | .C => p != Pg.ASY && p != Pg.DRV && p != Pg.PLNK

/-- An address lies in memory that a ring or a buffer may use: on-chip SRAM or LPDDR4X (R43, R473). -/
def isRam (a : Nat) : Bool := (0x10000000 ≤ a && a < 0x10800000) || (0x80000000 ≤ a && a < 0xC0000000)

/-- A 32-bit little-endian word of memory; 0 outside it. -/
def State.memWord (s : State) (a : Nat) : Nat := if isRam a then ofLe (readBytes s.ram a 4) else 0

/-- A 32-bit word of memory takes `v`; nothing outside it. -/
def State.setMemWord (s : State) (a v : Nat) : State := if isRam a then s.setBytes a (leBytes 4 v) else s

/-! ### Events (R402 to R406) -/

/-- Page events of class 2, data arrival (R403). -/
def class2 : List (Nat × List Nat) := [
  (Pg.CHN0, [0, 2, 3, 4, 5, 6, 7]), (Pg.CHN1, [0, 2, 3, 4, 7]), (Pg.NODE, [3, 4, 5, 6, 9]),
  (Pg.BAL, [4, 5, 8, 9, 10, 14]), (Pg.MEAS, [0, 4, 5, 6, 7]), (Pg.DRV, [2, 4, 5, 6, 7, 13, 14]),
  (Pg.PAIR, [1, 3, 5, 8, 14]), (Pg.TIME, [0, 4, 6]), (Pg.CAN0, [1, 4, 5, 6, 7, 9, 11, 12, 14]),
  (Pg.CAN1, [1, 4, 5, 6, 7, 9, 11, 12, 14]), (Pg.ETH0, [3, 4, 5]), (Pg.ETH1, [3, 4, 5]),
  (Pg.PLNK, [2, 3, 4]), (Pg.TWB, [2, 3, 4, 7, 8]), (Pg.SYS, [5]), (Pg.THM, [0, 1]), (Pg.CLK, [1]),
  (Pg.AUX, [2])]

/-- Page events of class 3, completion (R403). -/
def class3 : List (Nat × List Nat) := [
  (Pg.MODE, [0, 2, 3, 4, 6, 7, 8, 9, 10]), (Pg.CHN0, [8, 9]), (Pg.CHN1, [8, 9]), (Pg.NODE, [0, 1, 7, 8]),
  (Pg.BAL, [0, 1, 6, 7, 11, 12, 15]), (Pg.MEAS, [1, 2, 10]), (Pg.EST, [0, 5, 6, 7, 9, 10, 11, 12, 16, 17, 18, 19]),
  (Pg.ASY, [1, 2, 3, 4, 5, 6, 9, 11]), (Pg.LOOP, [1, 2, 8, 10]), (Pg.PROF, [0]), (Pg.DRV, [0, 1, 8, 9, 10, 12]),
  (Pg.PAIR, [6, 7, 10, 11]), (Pg.CYC, [6, 8, 9, 10, 11, 14]), (Pg.EVR, [0, 1]), (Pg.GAL, [1, 2, 3, 4, 5]),
  (Pg.TIME, [2, 3]), (Pg.CAN0, [0, 8]), (Pg.CAN1, [0, 8]), (Pg.ETH0, [2]), (Pg.ETH1, [2]), (Pg.TWB, [0, 1, 6]),
  (Pg.UPD, [0, 1, 2, 4, 5, 7, 8, 9]), (Pg.AUX, [0, 1]), (Pg.CLK, [0])]

/-- Page events of class 4, timeout (R403). -/
def class4 : List (Nat × List Nat) := [
  (Pg.MODE, [5]), (Pg.CHN0, [1]), (Pg.CHN1, [1]), (Pg.NODE, [2]), (Pg.BAL, [13]), (Pg.MEAS, [3, 8, 9]), (Pg.EST, [8]),
  (Pg.CELL, [0]), (Pg.LOOP, [0, 6, 7]), (Pg.THM, [2, 3]), (Pg.DRV, [3, 11]), (Pg.PAIR, [0, 2, 4, 9, 12, 13]),
  (Pg.CYC, [0, 2, 3, 5]), (Pg.EVR, [3]), (Pg.TIME, [1, 5, 7, 8, 9]), (Pg.CAN0, [2, 13]), (Pg.CAN1, [2, 13]),
  (Pg.TWB, [5]), (Pg.AUX, [5]), (Pg.CLK, [2, 3]), (Pg.PLNK, [1])]

/-- Whether a class table lists an event. -/
def listed (t : List (Nat × List Nat)) (p n : Nat) : Bool := t.any (fun e => e.1 == p && e.2.contains n)

/-- The class of a page event (R403): 1 on the SAFE, MRG, SIO and VOTE pages, then the tables, else 5. -/
def classOf (p n : Nat) : Nat :=
  if p == Pg.SAFE || p == Pg.MRG || p == Pg.SIO || p == Pg.VOTE then 1
  else if listed class2 p n then 2
  else if listed class3 p n then 3
  else if listed class4 p n then 4
  else 5

/-- How many events of a source enter the queue in cycle `c`. -/
def entering (ws : List Waiting) (p c : Nat) : Nat := (ws.filter (fun w => w.page == p && w.arrival == c)).length

/-- The first cycle from `c` on in which source `p` still has one of its four places (R404). -/
def freeCycle (ws : List Waiting) (p : Nat) : Nat → Nat → Nat
  | 0, c => c
  | k + 1, c => if entering ws p c < 4 then c else freeCycle ws p k (c + 1)

/-- An event of source `p` enters the Compositor: it folds into a waiting entry of its number, or takes a place of the
present cycle or, where the source has entered four events in it, of the first later one (R404). Of the events of
one cycle, the higher event number is the one held back. -/
def enter (c : Compositor) (w : Waiting) : Compositor :=
  if w.bound.isNone && c.waiting.any (fun x => x.page == w.page && x.num == w.num && x.bound.isNone) then
    { c with waiting := c.waiting.map (fun x =>
        if x.page == w.page && x.num == w.num && x.bound.isNone then { x with rep := satU 8 (x.rep + 1) } else x) }
  else if entering c.waiting w.page c.cycle < 4 then
    { c with waiting := c.waiting ++ [{ w with arrival := c.cycle }] }
  else
    -- the fifth and later events of the cycle: the highest number of the cycle's events waits
    let same := c.waiting.filter (fun x => x.page == w.page && x.arrival == c.cycle)
    let top := same.foldl (fun m x => max m x.num) 0
    let later := freeCycle c.waiting w.page 70 (c.cycle + 1)
    if w.num < top then
      { c with waiting := (c.waiting.map (fun x =>
          if x.page == w.page && x.arrival == c.cycle && x.num == top then { x with arrival := later } else x))
          ++ [{ w with arrival := c.cycle }] }
    else { c with waiting := c.waiting ++ [{ w with arrival := later }] }

/-- The sequence number of the next grant (R408). -/
def State.nextSeq (s : State) : Nat := (s.getReg Reg.SEQ_LAST + 1) % 2 ^ 32

/-- An event of a given class is raised with its ARG; a page of an absent unit raises none (R5). -/
def State.raiseC (s : State) (e : Ev) (cls arg : Nat) : State :=
  if !pagePresent s.variant e.page then s
  else
    let s := if s.comp.waiting.any (fun x => x.page == e.page && x.num == e.num && x.bound.isNone) then
      s.countReg Reg.SEQ_COALESCED else s
    { s with comp := enter s.comp ⟨e.page, e.num, cls, 0, s.stamp, arg % 2 ^ 32, 0, none⟩ }

/-- A page event is raised with its ARG (R410). -/
def State.raiseA (s : State) (e : Ev) (arg : Nat) : State := s.raiseC e (classOf e.page e.num) arg

/-- An event that a command of the present CLK_FAB cycle raised is taken back: an event of the same cycle goes before that command, which
then raises none. -/
def State.unraise (s : State) (e : Ev) : State :=
  { s with comp := { s.comp with waiting := s.comp.waiting.filter (fun (x : Waiting) =>
      !(x.page == e.page && x.num == e.num && x.arrival == s.comp.cycle)) } }

/-- A page event is raised with ARG 0. -/
def State.raise (s : State) (e : Ev) : State := s.raiseA e 0

/-- A page event is raised where a condition holds. -/
def State.raiseIf (s : State) (b : Bool) (e : Ev) : State := if b then s.raise e else s

/-- An internal event (number 32 to 63, R402) of a page is raised. -/
def State.raiseInt (s : State) (p n cls : Nat) : State := s.raiseC ⟨p, n⟩ cls 0

/-- A bound timeout that arrives in the cycle in which its awaited event waits: it enters the queue bound to that event
and is withdrawn at its grant (R406); where the awaited event is not waiting, nothing happens. An absent unit raises none
(R5). -/
def State.lateTimeout (s : State) (p n : Nat) (aw : Ev) : State :=
  if pagePresent s.variant p
      && s.comp.waiting.any (fun x => x.page == aw.page && x.num == aw.num && x.arrival == s.comp.cycle) then
    { s with comp := enter s.comp ⟨p, n, 4, 0, s.stamp, 0, 0, some (aw.page, aw.num)⟩ }
  else s

/-! ### MRAM -/

/-- The register at `a` is written to MRAM. -/
def State.toMram (s : State) (a : Nat) : State := { s with mram := { s.mram with regs := s.mram.regs.set a (s.regs.get a) } }

/-- A register held in MRAM takes `v`. -/
def State.setRegM (s : State) (a v : Nat) : State := (s.setReg a v).toMram a

/-- A field of a register held in MRAM takes `v`. -/
def State.setFM (s : State) (f : Fld) (v : Nat) : State := (s.setF f v).toMram f.addr

/-- A counter held in MRAM counts one more, saturating. -/
def State.countRegM (s : State) (a : Nat) : State := (s.countUp a).toMram a

/-! ### The Galley (R419, R420) -/

/-- Kinds of Galley lines (R419). -/
abbrev Kind.contactor : Nat := 0x01
abbrev Kind.mode : Nat := 0x02
abbrev Kind.image : Nat := 0x03
abbrev Kind.capacity : Nat := 0x04
abbrev Kind.record : Nat := 0x05
abbrev Kind.node : Nat := 0x06
abbrev Kind.swap : Nat := 0x07

/-- The governing slot of each line: the newest of its slots with a valid seal. -/
def governing : List GSlot → List Nat → List GSlot
  | [], _ => []
  | x :: t, seen =>
    if x.sealOk && !(seen.contains x.lineNo) then x :: governing t (x.lineNo :: seen) else governing t seen

/-- The governing slots of all open lines, newest first. -/
def Galley.openLines (g : Galley) : List GSlot := (governing g.slots []).filter (fun x => x.state == 1)

/-- The governing slot of the module's own open line of a kind, if there is one. -/
def Galley.openOf (g : Galley) (kind : Nat) : Option GSlot :=
  g.openLines.find? (fun x => x.kind == kind && !x.mirrored)

/-- The next ring slot from `i` that holds no governing copy of an open line (R420). -/
def freeSlot (taken : List Nat) : Nat → Nat → Nat
  | 0, i => i % 2048
  | k + 1, i => if taken.contains (i % 2048) then freeSlot taken k (i + 1) else i % 2048

/-- A line's next slot is written. -/
def Galley.write (g : Galley) (x : GSlot) : Galley :=
  let i := freeSlot (g.openLines.map (·.idx)) 8 g.wr
  { g with slots := { x with idx := i } :: g.slots.filter (fun y => y.idx != i), wr := (i + 1) % 2048 }

/-- The registers that show the Galley's open lines. -/
def State.galShow (s : State) : State :=
  let ol := s.gal.openLines.reverse
  let at' := fun (i : Nat) => match ol[i]? with
    | some x => x.idx
    | none => 0xFFFF
  let s := s.setReg Reg.GAL_OPEN_COUNT ol.length
  [0, 1, 2, 3].foldl (fun s i => s.setReg (Reg.GAL_OPEN i) (at' (2 * i + 1) * 65536 + at' (2 * i))) s

/-- A line of a kind is opened; LINE_OPEN is raised, and its sequence number enters the line at its grant. -/
def State.galOpen (s : State) (kind phase : Nat) (args : List Nat) : State :=
  let no := s.getReg Reg.GAL_LINE_NO + 1
  let s := s.setRegM Reg.GAL_LINE_NO no
  let s := { s with gal := s.gal.write ⟨0, 0, false, s.stamp, kind, phase, 1, false, s.getReg Reg.PAIR_EDITION, args,
      no % 2 ^ 32, true⟩ }
  (s.raise Ev.GAL_LINE_OPEN).galShow

/-- The open line of a kind is rewritten by `f`; nothing where there is none. -/
def State.galUpdate (s : State) (kind : Nat) (f : GSlot → GSlot) : State :=
  match s.gal.openOf kind with
  | none => s
  | some x => { s with gal := s.gal.write { f x with time := s.stamp } }

/-- The open line of a kind moves to a phase. -/
def State.galPhase (s : State) (kind phase : Nat) : State := s.galUpdate kind (fun x => { x with phase := phase })

/-- The open line of a kind is closed: done (LINE_CLOSED) or rolled back (LINE_ROLLED_BACK). -/
def State.galClose (s : State) (kind : Nat) (done : Bool) : State :=
  match s.gal.openOf kind with
  | none => s
  | some x =>
    let s := s.galUpdate kind (fun x => { x with state := if done then 2 else 3 })
    (s.raiseA (if done then Ev.GAL_LINE_CLOSED else Ev.GAL_LINE_ROLLED_BACK) x.seq).galShow

/-- SYS.HOURS (R56): seconds with auxiliary supply, from MRAM and the time since the restart; saturating. -/
def State.hours (s : State) : Nat := satU 32 (s.getReg Reg.SYS_HOURS + s.localNs / 1000000000)

/-! ### Unstated roundings -/

/-- `n / d`, rounded down or up as the free `Config.roundUp` says where it is not whole. -/
def divEither (n : Int) (d : Nat) : Int :=
  if n % (d : Int) = 0 then n / (d : Int) else n / (d : Int) + (if Config.roundUp n d then 1 else 0)


/-- `n / d`; where it is not whole and the spec states no rounding, it is free between its two neighbours. -/
def State.divFree (s : State) (n : Int) (d : Nat) : Int × State :=
  if n % (d : Int) = 0 then (n / (d : Int), s)
  else (n / (d : Int) + (if Config.freeBool s.freeCtr then 1 else 0), s.fresh)

/-! ### Variants and topology -/

/-- The Plant Record is committed and states pair topology (R18). -/
def State.pair (s : State) : Bool := match s.record with
  | some r => r.pair
  | none => false

/-- The module may act as holder of the Imprint: solo, or it holds it (R28, C5). -/
def State.holder (s : State) : Bool := s.drv.imprint

end Sys2Proof.Machine
end

