-- ==== Sys2Proof/Machine/CanCore.lean ====
section
/-! DEFINITION. What the message bus and plant Ethernet share with the other units (R447 to R452, R472): module transmit
buffers, the speaker of a pair, announcements as CAN frames and as datagrams. -/

namespace Sys2Proof.Machine

/-- Data bytes that a DLC codes (R444). -/
def lenOfDlc (fdf : Bool) (dlc : Nat) : Nat :=
  if dlc ≤ 8 then dlc else if fdf then [12, 16, 20, 24, 32, 48, 64].getD (dlc - 9) 64 else 8

/-- The DLC of a message of a stated length (R444). -/
def dlcOfLen (n : Nat) : Nat :=
  if n ≤ 8 then n else if n ≤ 12 then 9 else if n ≤ 16 then 10 else if n ≤ 20 then 11 else if n ≤ 24 then 12
  else if n ≤ 32 then 13 else if n ≤ 48 then 14 else 15

/-- The string address. -/
def State.addr (s : State) : Nat := s.getF Fld.AUX_ADDR_STRING_ADDR

/-- The module is the speaker of its pair (R450): solo, the Imprint holder, or, while neither partner reports holding it, role A, or
role B while role A is absent. -/
def State.speaker (s : State) : Bool :=
  let ps := s.getF Fld.PAIR_STATE_PSTATE
  !s.pair || ps == 0 || ps == 3 ||
    (!(s.flag Fld.PAIR_STATE_PARTNER_PRESENT && s.pairU.partnerState == 3)
      && (s.getF Fld.PAIR_STATE_ROLE == 0 || !s.flag Fld.PAIR_STATE_PARTNER_PRESENT))

/-- A controller's unit. -/
def State.canU (s : State) (n : Nat) : CanUnit := (s.can[n]?).getD CanUnit.reset

/-- A controller's unit changes. -/
def State.setCan (s : State) (n : Nat) (f : CanUnit → CanUnit) : State := { s with can := s.can.modify n f }

/-- Word `k` of a transmit buffer. -/
def State.txWord (s : State) (n b k : Nat) : Nat := s.getReg (Reg.CAN_TXB n b + 4 * k)

/-- The data bytes of a transmit buffer, as many as its DLC says. -/
def State.txData (s : State) (n b : Nat) : List Nat :=
  let w := s.txWord n b 1
  ((List.range 16).flatMap (fun k => leBytes 4 (s.txWord n b (4 + k)))).take (lenOfDlc (bitOf w 4) (w % 16))

/-- A buffer is pending. -/
def State.txPend (s : State) (n b : Nat) : Bool := bitOf (s.getReg (Reg.CAN_TXB_PEND n)) b

/-- A buffer becomes pending: its halt ends, its count of bit errors is 0 (R447, R463). -/
def State.txRequest (s : State) (n b : Nat) : State :=
  let s := s.setB ⟨Reg.CAN_TXB_PEND n, b, b⟩ true
  let s := s.setB ⟨Reg.CAN_TXB_HALT n, b, b⟩ false
  s.setCan n (fun u => { u with due := putBit u.due b false, bitErr := putBit u.bitErr b false })

/-- Identifier word, second word and data are written into a buffer. -/
def State.txPut (s : State) (n b w0 w1 : Nat) (data : List Nat) : State :=
  let s := (s.setReg (Reg.CAN_TXB n b) w0).setReg (Reg.CAN_TXB n b + 4) w1
  (List.range 16).foldl (fun (s : State) (k : Nat) =>
    s.setReg (Reg.CAN_TXB n b + 16 + 4 * k) (ofLe ((data.drop (4 * k)).take 4))) s

/-- The module writes its own buffer with a message of a function and requests it, unless its length needs FD frames that are
not allowed (R449, R451). A message of up to 8 bytes is a classical frame (assumption log 90). -/
def State.moduleTx (s : State) (n buf id : Nat) (flags : Nat) (data : List Nat) : State :=
  let fd := decide (8 < data.length)
  if fd && !s.flag (Fld.CAN_CTL_FD_EN n) then s
  else
    let w1 := dlcOfLen data.length + (if fd then 16 + 32 * s.getF (Fld.CAN_CTL_BRS_EN n) else 0) + flags
    let was := s.txPend n buf
    let s := s.txPut n buf id w1 data
    if was then s else s.txRequest n buf

/-- A message of a function with the string address; none leaves without an address (R77, R449). -/
def State.functionTx (s : State) (n buf fn : Nat) (data : List Nat) : State :=
  if s.addr == 0 then s else s.moduleTx n buf (fn * 128 + s.addr) 0 data

/-- A safety announcement on one controller: only in NORMAL; each is sent once, so it waits while another one is pending, but
for the repeated KIND 0x06, whose pending copy is rewritten (R449, R452). -/
def State.annCan (s : State) (n : Nat) (body : List Nat) : State :=
  if s.getF (Fld.CAN_CTL_MODE n) != 1 || s.addr == 0 || !s.flag (Fld.CAN_CTL_FD_EN n) then s
  else if s.txPend n 31 then
    let k := body.headD 0
    if k == 6 && s.txWord n 31 4 % 256 == 6 then s.functionTx n 31 0 body
    else s.setCan n (fun u => { u with
      annQ := (if k == 6 then u.annQ.filter (fun (b : List Nat) => b.headD 0 != 6) else u.annQ) ++ [body] })
  else s.functionTx n 31 0 body

/-- The access key of a level, 0 MONITOR, 1 OPERATE, 2 SERVICE (R53). Until a Plant Record is first committed there is one for SERVICE
alone, the delivery key (R552). -/
def State.accessKey (s : State) (level : Nat) : Option (List Nat) := match s.record with
  | some r => r.keys[level]?
  | none => if level == 2 && s.mram.deliveryKey.length == 32 then some s.mram.deliveryKey else none

/-- The bytes of the module's own datagram (R472). -/
def datagram (key : List Nat) (fn addr counter : Nat) (payload : List Nat) : List Nat :=
  let b := [0x56, 0x41, 0x01, fn, addr, 0] ++ beBytes 2 payload.length ++ beBytes 4 counter ++ payload
  b ++ (hmac256 key b).take 16

/-- A message of the module's own leaves a plant port: with its PCP and the plant network's VLAN (R470), then its content. -/
def State.ethOut (s : State) (port code pcp : Nat) (data : List Nat) : State :=
  (s.countReg (Reg.ETH_FRAMES_TX port)).emit (.eth port) code (pcp :: ((s.record.map (·.vlan)).getD 0) :: data)

/-- A message of the module's own leaves a plant port that is UP. -/
def State.portOut (s : State) (port code pcp : Nat) (data : List Nat) : State :=
  if s.flag (Fld.ETH_PORT_STATUS_LINK port) then s.ethOut port code pcp data else s

/-- A message leaves as a datagram, once on each of the plant ports given that is UP; both copies carry one COUNTER (R472,
assumption log 91). -/
def State.annEth (s : State) (ports : List Nat) (fn : Nat) (payload : List Nat) : State :=
  let up := ports.filter (fun p => s.flag (Fld.ETH_PORT_STATUS_LINK p))
  match s.accessKey 0 with
  | none => s
  | some key =>
    if up.isEmpty then s
    else
      let d := datagram key fn s.addr s.eth.counter payload
      let s := { s with eth := { s.eth with counter := (s.eth.counter + 1) % 2 ^ 32 } }
      up.foldl (fun (s : State) (p : Nat) => s.ethOut p 0xA005 (if fn == 0 then 7 else 4) (s.getReg (Reg.ETH_ANN_DEST p) :: d)) s

/-- A safety announcement leaves with the number and time of its event (R452), from the speaker of a pair. -/
def State.annSend (s : State) (a : Ann) (seq time : Nat) : State :=
  if !s.speaker then s
  else
    let body := [a.kind, a.cause, a.cur, a.pstate] ++ beBytes 4 seq ++ beBytes 4 time ++ beBytes 4 a.arg
    ((s.annCan 0 body).annCan 1 body).annEth [0, 1] 0 body

/-- A safety announcement of a KIND (R452): it waits for its event's number. KINDs 0x06 and 0x07 announce no event: their number
and time are free values (assumption log 92). -/
def State.announce (s : State) (kind cause arg : Nat) : State :=
  let a : Ann := ⟨kind, cause, s.getF Fld.MODE_STATE_CURRENT, s.getF Fld.PAIR_STATE_PSTATE, arg⟩
  if kind < 6 then { s with comp := { s.comp with annWait := s.comp.annWait ++ [a] } }
  else
    let seq := Config.freeValue s.freeCtr % 2 ^ 32
    let time := Config.freeValue (s.freeCtr + 1) % 2 ^ 32
    s.fresh.fresh.annSend a seq time

end Sys2Proof.Machine
end

