-- ==== Sys2Proof/Machine/Line.lean ====
section
/-! DEFINITION. The transmitters of the partner link (R474, R475) and of the chain ports (R91, R94, R97): fragments and the line
of the partner link, frames and ordered sets on the chain, the counters of what a chain port receives (R133). -/

namespace Sys2Proof.Machine

/-! ### The partner link (R474, R475) -/

/-- The priority of a partner frame (R475): HEARTBEAT and STOP_REQ, then FWD and RELAY, then MODE and SWAP messages, then the
rest. -/
def plnkRank (type : Nat) : Nat :=
  if type == 0x01 || type == 0x04 then 0
  else if type == 0x0B || type == 0x0C then 1
  else if 0x05 ≤ type && type ≤ 0x09 then 2
  else 3

/-- The waiting frame that leaves first: the highest priority, the oldest among equals. -/
def plnkFirst (q : List PlnkTx) : Option PlnkTx := q.foldl (fun m x => match m with
  | none => some x
  | some y => if plnkRank x.type < plnkRank y.type then some x else some y) none

/-- How long a frame with `n` body bytes holds the 1 Gbit/s line, in ns: preamble, Ethernet header, at least 46 bytes of payload
with the header of R474, FCS, gap. -/
def plnkLineNs (n : Nat) : Nat := 8 * (38 + max 46 (20 + n))

/-- The most body bytes of one frame of a TYPE (R475). -/
def plnkMax (type : Nat) : Nat := if type == 0x0B then 256 else if type == 0x02 || type == 0x0A then 768 else 65536

/-- The bytes of a partner frame after the Ethernet header (R474). -/
def plnkBytes (x : PlnkTx) (seq edition : Nat) : List Nat :=
  [0x56, 0x50, x.type, b2n x.last] ++ beBytes 4 seq ++ beBytes 4 edition ++ beBytes 2 x.msg ++ beBytes 2 x.frag
  ++ beBytes 2 x.body.length ++ [0, 0] ++ x.body

/-- A last FWD fragment ends: the time since the EOF of its frame (R475, R481). -/
def State.fwdTimed (s : State) (ns : Nat) : State :=
  let s := s.occur Reg.PLNK_FWD_MAX_NS (fun w => max w (satU 32 ns))
  if 10000 < ns then (s.countReg Reg.PLNK_FWD_LATE).raise Ev.PLNK_FWD_LATE else s

/-- The line takes the first waiting frame when it is free, unless that frame would still be on it when the next heartbeat is to
leave (R475). -/
def State.plnkLine (s : State) : State :=
  match plnkFirst s.eth.txq with
  | none => s
  | some x =>
    let now := s.localNs
    let ns := plnkLineNs x.body.length
    let held := x.type != 0x01 && (match s.eth.hbAt with
      | some t => decide (now < t) && decide (t < now + ns)
      | none => false)
    if now < s.eth.txBusy || held then s
    else
      let seq := s.eth.txSeq
      let s := { s with eth := { s.eth with
        txq := s.eth.txq.erase x, txSeq := (seq + 1) % 2 ^ 32, txBusy := now + ns, txUsed := s.eth.txUsed + ns } }
      let s := (s.countReg Reg.PLNK_FRAMES_TX).emit .plnk x.type (plnkBytes x seq (s.getReg Reg.PAIR_EDITION))
      match x.eof with
      | some t => s.fwdTimed (now + ns - 96 - t)
      | none => s

/-- The partner link can send: it is enabled, and CLK_ETH does not hold it down (R66, R474). -/
def State.plnkOn (s : State) : Bool := s.flag Fld.PLNK_LINK_ENABLE && !s.flag Fld.CLK_MON_ETH

/-- The next MSG_ID of a TYPE. -/
def State.plnkMsg (s : State) (type : Nat) : Nat := (s.eth.txMsg[type]?).getD 0

/-- A frame joins the queue, and the line takes what it can. -/
def State.plnkQueue (s : State) (x : PlnkTx) : State :=
  let ids := if x.last then s.eth.txMsg.modify x.type (fun n => (n + 1) % 65536) else s.eth.txMsg
  { s with eth := { s.eth with txq := s.eth.txq ++ [x], txMsg := ids } }.plnkLine

/-- A list cut into pieces of `n`, at least one. -/
def pieces {α : Type} (n : Nat) : Nat → List α → List (List α)
  | 0, l => [l]
  | k + 1, l => if l.length ≤ n then [l] else l.take n :: pieces n k (l.drop n)

/-- A partner message of a TYPE leaves in fragments (R475); nothing while the link cannot send. -/
def State.plnkOut (s : State) (type : Nat) (body : List Nat) : State :=
  if !s.plnkOn then s
  else
    let ps := pieces (plnkMax type) body.length body
    (withIdx 0 ps).foldl (fun (s : State) (p : Nat × List Nat) =>
      s.plnkQueue ⟨type, s.plnkMsg type, p.1, p.1 + 1 == ps.length, p.2, none⟩) s

/-- Whole fragments of a frame under way leave as FWD (R91, R475). -/
def State.fwdFlush : Nat → State → State
  | 0, s => s
  | k + 1, s =>
    if s.chain.fwd.length ≤ 256 then s
    else
      let x : PlnkTx := ⟨0x0B, s.plnkMsg 0x0B, s.chain.fwdFrag, false, s.chain.fwd.take 256, none⟩
      let c := { s.chain with fwd := s.chain.fwd.drop 256, fwdFrag := s.chain.fwdFrag + 1 }
      fwdFlush k ({ s with chain := c }.plnkQueue x)

/-- Bytes of a frame that the far-end module receives are forwarded to the master; `eof` says that the frame has ended (R91,
R475). -/
def State.fwdBytes (s : State) (bytes : List Nat) (eof : Bool) : State :=
  if !s.plnkOn then s
  else
    let s := fwdFlush 32 { s with chain := { s.chain with fwd := s.chain.fwd ++ bytes } }
    if eof then
      let x : PlnkTx := ⟨0x0B, s.plnkMsg 0x0B, s.chain.fwdFrag, true, s.chain.fwd, some s.localNs⟩
      { s with chain := { s.chain with fwd := [], fwdFrag := 0 } }.plnkQueue x
    else s

/-! ### The chain ports (R94, R97, R133) -/

/-- The edition that a chain frame carries: 0 in solo topology (R97). -/
def State.chainEdition (s : State) : Nat := if s.pair then s.getReg Reg.PAIR_EDITION else 0

/-- POWER is OFF. -/
def State.powerIsOff (s : State) : Bool := s.getF Fld.MODE_FUNC_STATE_POWER == 0

/-- The transmitter of a chain port is on: the port is in use, and FORCE_DOWN does not silence it, which POWER OFF lets it do. -/
def State.chainTx (s : State) (port : Nat) : Bool :=
  s.flag (Fld.CHN_PORT_CTL_ENABLE port) && !(s.powerIsOff && s.flag (Fld.CHN_PORT_CTL_FORCE_DOWN port))

/-- A chain port's transmitter feeds its own receiver (R133). -/
def State.chainLoop (s : State) (port : Nat) : Bool := s.powerIsOff && s.flag (Fld.CHN_PORT_CTL_LOOP_TEST port)

/-- An error counter of a chain port rises; its event is raised where it rose from 0 (R133, R134). -/
def State.chainErr (s : State) (reg : Nat) (e : Ev) (n : Nat) : State :=
  if n == 0 then s else (s.occur reg (fun w => satU 32 (w + n))).raiseIf (s.getReg reg == 0) e

/-- 8b/10b violations or failed ordered-set checks at a port. -/
def State.codeErr (s : State) (port n : Nat) : State :=
  if port < 2 then s.chainErr (Reg.CHN_CODE_ERR port) (Ev.CHN_CODE_ERR port) n else s

/-- A frame has been received at a port, with its CRC-32 holding or failing. -/
def State.frameIn (s : State) (port : Nat) (crcOk : Bool) : State :=
  if port < 2 then
    (s.countReg (Reg.CHN_FRAMES_RX port)).chainErr (Reg.CHN_CRC32_ERR port) (Ev.CHN_CRC_ERR port) (b2n (!crcOk))
  else s

/-- An ordered set leaves a chain port: 0x10 TRIG, 0x11 DLY (R94). -/
def State.symOut (s : State) (port code : Nat) (data : List Nat) : State :=
  if s.chainTx port && !s.chainLoop port then s.emit (.chain port) code data else s

/-- The header of a chain frame (R97). -/
structure ChainHead where
  type : Nat
  flags : Nat
  sweep : Nat
  edition : Nat
  instant : Nat
  first : Nat
  count : Nat
  kind : Nat
  len : Nat
  deriving DecidableEq, Repr

/-- The 16 bytes of a header. -/
def ChainHead.bytes (h : ChainHead) : List Nat :=
  [h.type, h.flags] ++ beBytes 2 h.sweep ++ beBytes 4 h.edition ++ beBytes 4 h.instant ++ [h.first, h.count, h.kind, h.len]

/-- A frame's CRC-32 as the line carries it (R97): least significant byte first, as Ethernet sends it. -/
def frameCrc (bytes : List Nat) : List Nat := leBytes 4 (crc32 bytes)

/-- A frame leaves a chain port with its CRC-32 (R97); in a loop test it returns to the port's own receiver. -/
def State.frameOut (s : State) (port : Nat) (h : ChainHead) (body : List Nat) : State :=
  if !s.chainTx port then s
  else
    let s := s.countReg (Reg.CHN_FRAMES_TX port)
    let bytes := h.bytes ++ body
    if s.chainLoop port then s.frameIn port true else s.emit (.chain port) h.type (bytes ++ frameCrc bytes)

end Sys2Proof.Machine
end

