-- ==== Sys2Proof/Machine/EstNum.lean ====
section
/-! DEFINITION. The numerics of the estimation engine (R188 to R192, R196): the model's prediction and voltage with their
Jacobians, and the measurement update. Arithmetic between stored values is done with 53 significant bits, stored states
are single precision (assumption log 70). -/

namespace Sys2Proof.Machine

/-- A vector and a matrix by rows. -/
abbrev Vec := List F64
abbrev Mat := List (List F64)

/-- One. -/
def F64.one : F64 := F64.ofInt 1

/-- Entry `i` of a vector. -/
def vget (v : Vec) (i : Nat) : F64 := (v[i]?).getD F64.zero

/-- Scalar product. -/
def dot (u v : Vec) : F64 := (List.zipWith F64.mul u v).foldl F64.add F64.zero

/-- Sum of two vectors. -/
def vadd (u v : Vec) : Vec := List.zipWith F64.add u v

/-- A vector scaled. -/
def vscale (k : F64) (v : Vec) : Vec := v.map (F64.mul k)

/-- The 12 columns of a matrix. -/
def transpose12 (m : Mat) : Mat := (List.range 12).map (fun j => m.map (fun r => vget r j))

/-- Matrix product. -/
def matMul (a b : Mat) : Mat := let bt := transpose12 b; a.map (fun r => bt.map (dot r))

/-- Matrix sum. -/
def matAdd (a b : Mat) : Mat := List.zipWith vadd a b

/-- A diagonal matrix. -/
def diag (d : Vec) : Mat :=
  (List.range 12).map (fun i => (List.range 12).map (fun j => if i = j then vget d i else F64.zero))

/-- The product of a column and a row. -/
def outer (u v : Vec) : Mat := u.map (fun a => v.map (F64.mul a))

/-! ### The OCV table (R190, R192) -/

/-- The segment of the table at a stoichiometry, 0 to 254; the first and the last extend outward. -/
def ocvSeg (s : F64) : Nat := (max 0 (min 254 (F64.mul s (F64.ofInt 255)).floor)).toNat

/-- Linear interpolation of a table column at `s`, and its slope per unit of stoichiometry. -/
def interp (f : Nat → Int) (s : F64) : F64 × F64 :=
  let j := ocvSeg s
  let d := F64.ofInt (f (j + 1) - f j)
  (F64.add (F64.ofInt (f j)) (F64.mul d (F64.sub (F64.mul s (F64.ofInt 255)) (F64.ofInt j))), F64.mul d (F64.ofInt 255))

/-- OCV in V and its slope. -/
def PSet.ocvAt (k : PSet) (s : F64) : F64 × F64 :=
  let r := interp (fun j => (((k.ocv[j]?).getD (0, 0)).1 : Nat)) s
  (F64.div r.1 (F64.ofInt 10000), F64.div r.2 (F64.ofInt 10000))

/-- dOCV/dT in V/K and its slope. -/
def PSet.docvAt (k : PSet) (s : F64) : F64 × F64 :=
  let r := interp (fun j => ((k.ocv[j]?).getD (0, 0)).2) s
  (F64.div r.1 (F64.ofInt 1000000), F64.div r.2 (F64.ofInt 1000000))

/-- 298.15 K. -/
def tRef : F64 := F64.rat 29815 100

/-- `1/298.15 − 1/T`. -/
def invT (t : F64) : F64 := F64.sub (F64.div F64.one tRef) (F64.div F64.one t)

/-- R_ohm(T) in Ω for R_SCALE `x11` (R189). -/
def PSet.rOhm (k : PSet) (x11 t : F64) : F64 :=
  F64.mul (F64.mul (F64.rat k.r0 1000000) x11) (F64.exp (F64.neg (F64.mul k.eaR (invT t))))

/-- s_eff of R190. -/
def PSet.sEff (k : PSet) (x : Vec) : F64 :=
  F64.add (vget x 0) (F64.add (F64.mul k.kN (F64.add (vget x 1) (vget x 2))) (F64.mul k.kP (F64.add (vget x 3) (vget x 4))))

/-- v_pred of R190 in V, with the current `iS` in A. -/
def PSet.vPred (k : PSet) (x : Vec) (iS : F64) : F64 :=
  let s := k.sEff x
  let t := vget x 9
  let a := F64.add (k.ocvAt s).1 (F64.mul (F64.sub t tRef) (k.docvAt s).1)
  let b := F64.add (F64.mul k.kE (F64.add (vget x 5) (vget x 6))) (F64.add (vget x 7) (vget x 8))
  F64.add (F64.add a b) (F64.mul iS (k.rOhm (vget x 10) t))

/-- The Jacobian of R190. -/
def PSet.dh (k : PSet) (x : Vec) (iS : F64) : Vec :=
  let s := k.sEff x
  let t := vget x 9
  let ds := F64.add (k.ocvAt s).2 (F64.mul (F64.sub t tRef) (k.docvAt s).2)
  let r := k.rOhm (vget x 10) t
  let dR := F64.neg (F64.div (F64.mul r k.eaR) (F64.mul t t))
  [ds, F64.mul k.kN ds, F64.mul k.kN ds, F64.mul k.kP ds, F64.mul k.kP ds, k.kE, k.kE, F64.one, F64.one,
   F64.add (k.docvAt s).1 (F64.mul iS dR), F64.div (F64.mul iS r) (vget x 10), F64.zero]

/-! ### Prediction (R189) -/

/-- A mode with eigenvalue `mu` (1/1000) and time constant `tau`: the factor `a` and `w (1 − a) / λ`. -/
def modeOf (mu : Nat) (tau : F64) (w : Nat) (dt : F64) : F64 × F64 :=
  let lam := F64.div (F64.rat mu 1000) tau
  let a := F64.exp (F64.neg (F64.mul lam dt))
  (a, F64.div (F64.mul (F64.ofInt w) (F64.sub F64.one a)) lam)

/-- 2 R / F of R189. -/
def twoRF : F64 := F64.rat (2 * 8314) 96485000

/-- The prediction of R189 over `dt` s with mean current `i` A, surface temperature `ts` K and the previous v_pred: the new
states and the Jacobian. The lines of R189 take effect in their order. -/
def PSet.predict (k : PSet) (x : Vec) (i ts vPrev dt : F64) : Vec × Mat :=
  let u := F64.div i (F64.mul (F64.rat k.qNom 1000) (vget x 11))
  let du := F64.neg (F64.div u (vget x 11))
  let ms := [modeOf 20190 k.tauN 2 dt, modeOf 59680 k.tauN 2 dt, modeOf 20190 k.tauP 2 dt, modeOf 59680 k.tauP 2 dt,
             modeOf 9870 k.tauE 1 dt, modeOf 39480 k.tauE 1 dt]
  let m := fun j => (ms[j]?).getD (F64.zero, F64.zero)
  let x1 := F64.add (vget x 0) (F64.mul u dt)
  let diff := (List.range 6).map (fun j => F64.add (F64.mul (m j).1 (vget x (j + 1))) (F64.mul (m j).2 u))
  let t := vget x 9
  let i0 := F64.mul k.i0 (F64.exp (F64.mul k.eaR (invT t)))
  let z := F64.div i (F64.mul (F64.ofInt 2) i0)
  let eta := F64.mul (F64.mul twoRF t) (F64.asinh z)
  let deta := F64.sub (F64.mul twoRF (F64.asinh z))
    (F64.div (F64.mul (F64.mul twoRF z) (F64.div k.eaR t)) (F64.sqrt (F64.add F64.one (F64.mul z z))))
  let ect := F64.exp (F64.neg (F64.div dt k.tauCt))
  let x8 := F64.add (F64.mul ect (vget x 7)) (F64.mul (F64.sub F64.one ect) eta)
  let g := F64.exp (F64.neg (F64.mul (F64.mul k.gammaH (F64.abs i)) dt))
  let x9 := F64.add (F64.mul g (vget x 8)) (F64.mul (F64.sub F64.one g) (F64.signOf i k.hMax))
  let pre := (x1 :: diff) ++ [x8, x9, t, vget x 10, vget x 11]
  let s := k.sEff pre
  let heat := F64.add (F64.mul i (F64.sub vPrev (k.ocvAt s).1)) (F64.mul (F64.mul i t) (k.docvAt s).1)
  let x10 := F64.add t (F64.div (F64.mul dt (F64.sub heat (F64.div (F64.sub t ts) k.rTh))) k.cTh)
  let c := F64.div dt k.cTh
  let dheat := F64.mul i (F64.sub (F64.mul t (k.docvAt s).2) (k.ocvAt s).2)
  let hs := F64.mul c dheat
  let row := fun (j : Nat) (v w : F64) => (List.range 12).map (fun q => if q = j then v else if q = 11 then w else F64.zero)
  let du1 := F64.mul du dt
  let rows := row 0 F64.one du1 ::
    ((List.range 6).map (fun j => row (j + 1) (m j).1 (F64.mul (m j).2 du)))
  let r8 := (List.range 12).map (fun q => if q = 7 then ect else if q = 9 then F64.mul (F64.sub F64.one ect) deta else F64.zero)
  let r9 := (List.range 12).map (fun q => if q = 8 then g else F64.zero)
  let ds12 := F64.add du1 (F64.add
    (F64.mul k.kN (F64.mul du (F64.add (m 0).2 (m 1).2))) (F64.mul k.kP (F64.mul du (F64.add (m 2).2 (m 3).2))))
  let r10 := [hs, F64.mul hs (F64.mul k.kN (m 0).1), F64.mul hs (F64.mul k.kN (m 1).1), F64.mul hs (F64.mul k.kP (m 2).1),
    F64.mul hs (F64.mul k.kP (m 3).1), F64.zero, F64.zero, F64.zero, F64.zero,
    F64.add F64.one (F64.mul c (F64.sub (F64.mul i (k.docvAt s).1) (F64.div F64.one k.rTh))), F64.zero, F64.mul hs ds12]
  let unit := fun (n : Nat) => (List.range 12).map (fun q => if q = n then F64.one else F64.zero)
  ((x1 :: diff) ++ [x8, x9, x10, vget x 10, vget x 11], rows ++ [r8, r9, r10, unit 10, unit 11])

/-! ### Measurement update (R196) -/

/-- The update with a measurement residual `nu`, the row `c` and the variance `r`: states, covariance and NIS; where NIS
exceeds the gate, states and covariance stay. -/
def measUpdate (x : Vec) (p : Mat) (c : Vec) (nu r gate : F64) : Vec × Mat × F64 × Bool :=
  let pc := p.map (dot c)
  let s := F64.add (dot c pc) r
  let nis := F64.div (F64.mul nu nu) s
  if F64.lt gate nis then (x, p, nis, true)
  else
    let g := pc.map (fun v => F64.div v s)
    let igc := (withIdx 0 g).map (fun (q : Nat × F64) =>
      (withIdx 0 c).map (fun (w : Nat × F64) =>
        F64.sub (if q.1 = w.1 then F64.one else F64.zero) (F64.mul q.2 w.2)))
    (vadd x (vscale nu g), matAdd (matMul (matMul igc p) (transpose12 igc)) (outer (vscale r g) g), nis, false)

/-- The bounds of R188 for a set. -/
def PSet.bounds (k : PSet) : List (F64 × F64) :=
  let b := fun (lo hi : Int) (d : Nat) => (F64.rat lo d, F64.rat hi d)
  [b (-5) 105 100, b (-5) 5 10, b (-5) 5 10, b (-5) 5 10, b (-5) 5 10, b (-1) 1 1, b (-1) 1 1, b (-1) 1 1,
   (F64.neg k.hMax, k.hMax), b 23315 36315 100, b 5 40 10, b 5 12 10]

/-- The clamp of R188, with whether a state was clamped, and the rounding to single precision. -/
def PSet.clamp (k : PSet) (x : Vec) : Vec × Bool :=
  let ps := List.zip k.bounds x
  let y := ps.map (fun q => (F64.clamp q.1.1 q.1.2 q.2).single)
  (y, ps.any (fun q => F64.lt q.2 q.1.1 || F64.lt q.1.2 q.2))

/-- The lowest stoichiometry whose OCV at temperature `t` reaches a voltage in V: the inverse OCV of R201. -/
def PSet.invOcv (k : PSet) (v t : F64) : F64 :=
  let at' := fun (j : Nat) => F64.add (F64.rat (((k.ocv[j]?).getD (0, 0)).1 : Nat) 10000)
    (F64.mul (F64.sub t tRef) (F64.rat ((k.ocv[j]?).getD (0, 0)).2 1000000))
  let j := ((List.range 255).find? (fun j => F64.le v (at' (j + 1)))).getD 254
  let d := F64.sub (at' (j + 1)) (at' j)
  F64.div (F64.add (F64.ofInt j) (F64.div (F64.sub v (at' j)) d)) (F64.ofInt 255)

end Sys2Proof.Machine
end

