-- ==== Sys2Proof/Machine/AssayCore.lean ====
section
/-! DEFINITION. The Assay unit's arithmetic (R229 to R239): bins and spans, the phase and the envelope of the perturbation,
the sums of the least-squares fit and their solution. Intermediate values are rounded to 53 bits, which no rule states
(assumption log 71). -/

namespace Sys2Proof.Machine

/-- The whole samples nearest to `M` periods of a bin (R230): from the table of the Plant Record, or, for the default
f_j = 0.05 Hz × 20,000^(j/63), the largest n with (2n − 1)^63 × 20,000^j at most (2 M × 80,000)^63. -/
def binL (tab : Option (List Nat)) (j m : Nat) : Nat := match tab with
  | some t => let f := max 1 ((t[j]?).getD 1); (2 * m * 4000000000 + f) / (2 * f)
  | none => bisect (fun n => (2 * n - 1) ^ 63 * 20000 ^ j ≤ (2 * m * 80000) ^ 63) 24 1

/-- The samples of a settle span of `p` periods, for `l` samples in `m` periods (R230). -/
def settleL (p l m : Nat) : Nat := (p * l + m - 1) / m

/-- A time of the 32-bit ns count near the present as a 64-bit time. -/
def State.full64 (s : State) (t : Nat) : Nat :=
  ((s.time.now : Int) + sInt 32 (toU 32 ((t : Int) - (s.time.now : Int)))).toNat

/-- The perturbation phase in turns at a 64-bit time (R233). -/
def State.asyTheta (s : State) (t : Nat) : F64 :=
  let a := s.asy
  F64.add a.theta (F64.rat ((a.m : Int) * ((t : Int) - (a.startNs : Int))) (a.l * 250000))

/-- One period of the present frequency in ns. -/
def State.asyPeriod (s : State) : Nat := s.asy.l * 250000 / max 1 s.asy.m

/-- The envelope a(t) at a 64-bit time (R234). -/
def State.asyEnv (s : State) (t : Nat) : F64 :=
  match s.getF Fld.ASY_RUN_STATUS_STATE with
  | 1 => F64.clamp F64.zero F64.one (F64.rat ((t : Int) - (s.asy.riseNs : Int)) (max 1 s.asyPeriod))
  | 2 => F64.one
  | 3 => F64.one
  | 4 => F64.mul s.asy.fallFrom
      (F64.clamp F64.zero F64.one (F64.rat ((s.asy.fallEnd : Int) - (t : Int)) (max 1 (s.asy.fallEnd - s.asy.fallNs))))
  | _ => F64.zero

/-- The taper begins (R234): it ends at the first completion of a whole period at least half a period ahead. -/
def State.asyFall (s : State) : State :=
  let now := s.time.now
  let th := s.asyTheta now
  let n := -(F64.neg (F64.add th ⟨1, -1⟩)).floor
  let left := F64.mul (F64.sub (F64.ofInt n) th) (F64.ofInt (s.asyPeriod : Int))
  let a := { s.asy with fallFrom := s.asyEnv now, fallNs := now, fallEnd := now + left.toInt.toNat, fit := none }
  { s with asy := a }

/-- The sample's basis 1, t, cos θ, sin θ (R238). -/
def State.asyBasis (s : State) (t : Nat) : List F64 :=
  let th := s.asyTheta t
  [F64.one, F64.rat ((t : Int) - (s.asy.startNs : Int) - (s.asy.sN * 250000 : Nat)) 1000000000, th.cosT, th.sinT]

/-- An empty fit over `n` cells. -/
def Fit.empty (n : Nat) : Fit :=
  let z := List.replicate 4 F64.zero
  ⟨List.replicate 4 z, List.replicate n (z, 0, false), List.replicate 4 z, z, 0, 0, 0, 0, false, false⟩

/-- Whether a 64-bit time lies in the measure span. -/
def State.inSpan (s : State) (t : Nat) : Bool :=
  s.asy.startNs + s.asy.sN * 250000 ≤ t && t < s.asy.startNs + (s.asy.sN + s.asy.l) * 250000

/-- The measure span begins when its first sample instant has passed. -/
def State.asyMeasure (s : State) : State :=
  if s.getF Fld.ASY_RUN_STATUS_STATE == 2 && s.asy.startNs + s.asy.sN * 250000 ≤ s.time.now then
    s.setF Fld.ASY_RUN_STATUS_STATE 3 else s

/-- A voted sample joins the fit (R237): its window lies wholly in the span; phase and time at the window's centre. -/
def State.asyCurrent (s : State) : State :=
  let s := s.asyMeasure
  match s.asy.fit with
  | none => s
  | some f =>
    let t := s.time.now
    if s.getF Fld.ASY_RUN_STATUS_STATE != 3 || !(s.inSpan (t - 10000) && s.inSpan (t - 1)) then s
    else if !s.flag Fld.VOTE_CH_STATE_CUR_VALID then { s with asy := { s.asy with fit := some { f with curBad := true } } }
    else
      let ma := s.getI Reg.VOTE_CUR_VOTED
      let b := s.asyBasis (t - 5000)
      let first := decide (t ≤ s.asy.startNs + (2 * s.asy.sN + s.asy.l) * 125000)
      let f := { f with
        gramI := matAdd f.gramI (outer b b), vecI := vadd f.vecI (vscale (F64.rat ma 1000) b),
        half1 := if first then f.half1 + ma else f.half1, n1 := if first then f.n1 + 1 else f.n1,
        half2 := if first then f.half2 else f.half2 + ma, n2 := if first then f.n2 else f.n2 + 1 }
      { s with asy := { s.asy with fit := some f } }

/-- The Margin clamp acted on the sum of reference and perturbation while the span is measured (R239). -/
def State.asyClip (s : State) (acted : Bool) : State :=
  match s.asy.fit with
  | none => s
  | some f =>
    if acted && s.getF Fld.ASY_RUN_STATUS_STATE == 3 then { s with asy := { s.asy with fit := some { f with clipped := true } } }
    else s

/-- A FAST sweep joins the fit: each cell's voltage in 100 µV, or none where the sample is missing, not sampled or
disturbed, and whether the cell is SENSE_SUSPECT (R237, R239). -/
def State.asySweep (s : State) (instant : Nat) (cells : List (Option Nat × Bool)) : State :=
  let s := s.asyMeasure
  match s.asy.fit with
  | none => s
  | some f =>
    let t := s.full64 instant
    if !(s.inSpan t) then s
    else
      let b := s.asyBasis t
      let cs := (List.zip f.cells cells).map (fun (p : (List F64 × Nat × Bool) × (Option Nat × Bool)) =>
        match p.2.1 with
        | some v => (vadd p.1.1 (vscale (F64.rat v 10000) b), p.1.2.1 + 1, p.1.2.2 || p.2.2)
        | none => (p.1.1, p.1.2.1, p.1.2.2 || p.2.2))
      { s with asy := { s.asy with fit := some { f with gramV := matAdd f.gramV (outer b b), cells := cs } } }

/-- One elimination step on the rows of an augmented matrix: column `j` is cleared from the other rows. -/
def elimAt (rows : List (List F64)) (j : Nat) : List (List F64) :=
  match rows[j]? with
  | none => rows
  | some pr =>
    let pr := pr.map (fun x => F64.div x (vget pr j))
    (withIdx 0 rows).map (fun (q : Nat × List F64) =>
      if q.1 == j then pr else List.zipWith (fun x y => F64.sub x (F64.mul (vget q.2 j) y)) q.2 pr)

/-- The solution of four normal equations. -/
def solve4 (g : List (List F64)) (b : List F64) : List F64 :=
  let rows := List.zipWith (fun r x => r ++ [x]) g b
  (elimAt (elimAt (elimAt (elimAt rows 0) 1) 2) 3).map (fun r => vget r 4)

/-- A phasor c − j d from a solution. -/
def phasor (v : List F64) : F64 × F64 := (vget v 2, (vget v 3).neg)

/-- Quotient of two complex numbers. -/
def cdiv (x y : F64 × F64) : F64 × F64 :=
  let n := F64.add (F64.mul y.1 y.1) (F64.mul y.2 y.2)
  (F64.div (F64.add (F64.mul x.1 y.1) (F64.mul x.2 y.2)) n, F64.div (F64.sub (F64.mul x.2 y.1) (F64.mul x.1 y.2)) n)

/-- sin(π f 10 µs) / (π f 10 µs) for the frequency of `m` periods in `l` samples (R238). -/
def sincOf (m l : Nat) : F64 :=
  let h := F64.rat ((m : Int) * 4000) (l * 200000)
  F64.div h.sinT (F64.mul (F64.round piFix (-200)) (F64.mul (F64.ofInt 2) h))

/-- Settle and measure periods of a bin (R230). -/
def State.asyPeriods (s : State) (j : Nat) : Nat × Nat :=
  if j < s.getF Fld.ASY_RUN_CTL_LOW_END then (s.getF Fld.ASY_PERIODS_LOW_SETTLE, s.getF Fld.ASY_PERIODS_LOW_MEAS)
  else (s.getF Fld.ASY_PERIODS_HIGH_SETTLE, s.getF Fld.ASY_PERIODS_HIGH_MEAS)

/-- The first bin of the list begins its settle span at `t` with the phase `th`; `n` cells are measured (R230, R233). -/
def State.asyBin (s : State) (t : Nat) (th : F64) (n : Nat) : State := match s.asy.bins with
  | [] => s
  | j :: _ =>
    let (sp, m) := s.asyPeriods j
    let l := binL ((s.record.map (·.binTable)).getD none) j m
    let a := { s.asy with startNs := t, theta := th, l := l, m := m, sN := settleL sp l m, fit := some (Fit.empty n) }
    { s with asy := a }.setF Fld.ASY_RUN_STATUS_BIN j

/-- A run over a set of bins begins its rise at `t` (R231, R232, R234, R243); the amplitude is read and limited;
how 5 % of I_RATED is rounded to whole mA the spec does not state: it is free (assumption log 12). -/
def State.asyBegin (s : State) (bins : List Nat) (t n : Nat) : State :=
  let want := 10 * s.getF Fld.ASY_AMPL_AMPL
  let rated := s.getReg Reg.SAFE_I_RATED
  let ceil := min (divEither rated 20).toNat 20000
  let s := s.raiseIf (rated < 20 * want || 20000 < want) Ev.ASY_AMPL_CLAMPED
  let ok := match s.asy.calmNs with
    | some c => decide (c + 1800000000000 ≤ s.localNs) && s.asy.tHist.all (fun l =>
        decide ((l.map (·.1)).foldl max (-100000) - (l.map (·.1)).foldl min 100000 < 50))
    | none => false
  let a := { s.asy with
    bins := bins, wantRun := false, amplMa := min want ceil, riseNs := t, tries := 1, res := [], endState := 5, equil := ok }
  let s := { s with asy := a, drv := { s.drv with perturbMoving := true } }
  let s := s.setF Fld.ASY_RUN_STATUS_RUN_ID (s.getF Fld.ASY_RUN_STATUS_RUN_ID + 1)
  ((s.setF Fld.ASY_RUN_STATUS_STATE 1).asyBin t F64.zero n).raise Ev.ASY_RUN_START

/-- The bins of a mask in descending order (R231). -/
def binsOf (mask : Nat) : List Nat := ((List.range 64).filter (bitOf mask)).reverse

/-- The first sample instant after now, 250 µs apart from the instant of a FAST sweep. -/
def State.nextInstant (s : State) (instant : Nat) : Nat :=
  let t := s.full64 instant
  t + ((s.time.now - t) / 250000 + 1) * 250000

/-- The trim offsets in force: the area sealed last (R247). -/
def State.tcal (s : State) : List Int := (s.asy.tcals[s.asy.tcalAt]?).getD []

/-- Offsets are written to the other MRAM area and sealed last (R247). -/
def State.putTcal (s : State) (l : List Int) : State :=
  { s with asy := { s.asy with tcals := s.asy.tcals.set (1 - s.asy.tcalAt) l, tcalAt := 1 - s.asy.tcalAt } }

/-- An update of the estimation engine as R247 watches it: whether the current is below C/50, every cell's T_SURF. -/
def State.asyCalm (s : State) (quiet : Bool) (temps : List Int) : State :=
  let now := s.localNs
  let old := s.asy.tHist
  let hist := (withIdx 0 temps).map (fun (p : Nat × Int) =>
    (p.2, now) :: (((old[p.1]?).getD []).filter (fun e => e.1 != p.2 && decide (now ≤ e.2 + 1800000000000))))
  let since := if quiet then (match s.asy.calmNs with | some c => some c | none => some now) else none
  { s with asy := { s.asy with tHist := hist, calmNs := since } }

end Sys2Proof.Machine
end

