-- ==== Sys2Proof/Machine/Profile.lean ====
section
/-! DEFINITION. The profile generator's step (R270) and the authority bounds (R269, R17). -/

namespace Sys2Proof.Machine

/-- The step width of R270: 10 µs. -/
def profDt : F64 := F64.div (F64.ofInt 1) (F64.ofInt 100000)

/-- `brake_speed` of R270: the largest speed whose limited stop fits in `x`. -/
def brakeSpeed (amax jmax x : F64) : F64 :=
  let two := F64.ofInt 2
  let a2 := F64.mul amax amax
  if F64.le (F64.div (F64.mul a2 amax) (F64.mul jmax jmax)) x then
    F64.add (F64.neg (F64.div a2 (F64.mul two jmax)))
      (F64.sqrt (F64.add (F64.div (F64.mul a2 a2) (F64.mul (F64.ofInt 4) (F64.mul jmax jmax)))
        (F64.mul (F64.mul two amax) x)))
  else F64.cbrt (F64.mul (F64.mul x x) jmax)

/-- One `profile_step` of R270 toward `target` (A) under the limits: the new reference, rate and acceleration, and
whether the step was the snap. -/
def profileStep (vmax amax jmax target r v a : F64) : F64 × F64 × F64 × Bool :=
  let d := F64.sub target r
  if F64.le (F64.abs d) (F64.mul (F64.abs v) profDt) || (d.m == 0 && v.m == 0) then
    (target, F64.zero, F64.zero, true)
  else
    let vcap := F64.signOf d (F64.min vmax (brakeSpeed amax jmax (F64.abs d)))
    let dv := F64.sub vcap v
    let acap := F64.signOf dv (F64.min amax (F64.sqrt (F64.mul (F64.mul (F64.ofInt 2) jmax) (F64.abs dv))))
    let j := F64.max (F64.neg jmax) (F64.min jmax (F64.div (F64.sub acap a) profDt))
    let a' := F64.add a (F64.mul j profDt)
    let v' := F64.add v (F64.mul a' profDt)
    let r' := F64.add r (F64.mul v' profDt)
    (r', v', a', false)

/-- A current in mA as a reference in A. -/
def mAtoA (i : Int) : F64 := F64.div (F64.ofInt i) (F64.ofInt 1000)

/-- A reference in A rounded to 1 mA. -/
def aToMa (x : F64) : Int := F64.toInt (F64.mul x (F64.ofInt 1000))

/-- The mode whose current authority applies (R17): the target while a function is brought on, the mode left while
ASSAY is being left. -/
def State.authMode (s : State) : Nat :=
  let c := s.getF Fld.MODE_STATE_CURRENT
  if c == 8 then s.getF Fld.MODE_STATE_TARGET
  else if c == 9 then s.getF Fld.MODE_STATE_PREV
  else c

/-- The current authority of a mode in mA (R17; ELLIPSIS from SAFE.ELL_CFG.ILIM, R321). How a share of C is rounded to whole mA the
spec does not state: it is free (assumption log 12). -/
def State.modeAuthority (s : State) : Int :=
  let c : Int := s.getReg Reg.SAFE_C_CURRENT
  match s.authMode with
  | 3 => 800000
  | 4 => divEither c 4
  | 5 => if s.flag Fld.MODE_STATE_LEVEL_CLOSED || s.getF Fld.MODE_FUNC_STATE_POWER != 0 then divEither c 2 else 0
  | 6 => divEither ((s.getF Fld.SAFE_ELL_CFG_ILIM : Int) * c) 100
  | _ => 0

/-- The authority bounds (low, high) in mA: the tightest of the mode's authority, the policy limits and the Margins
(R269). -/
def State.authority (s : State) : Int × Int :=
  let m := s.modeAuthority
  let hi := min m (min (s.getReg Reg.MRG_POL_ICHG : Int) ((s.getF Fld.MRG_I_MAX_ICHG_MAX : Int) * 100))
  let lo := max (-m) (max (-(s.getReg Reg.MRG_POL_IDIS : Int)) (-((s.getF Fld.MRG_I_MAX_IDIS_MAX : Int) * 100)))
  (lo, hi)

/-- Sources of the profile generator (R269). -/
abbrev Src.zero : Nat := 0
abbrev Src.policy : Nat := 1
abbrev Src.anchor : Nat := 2
abbrev Src.stop : Nat := 3
abbrev Src.fullStop : Nat := 4
abbrev Src.bound : Nat := 5

/-- The PWM pairs are inhibited (R285). -/
def State.pwmInhibited (s : State) : Bool := !s.flag Fld.DRV_PWM_STATUS_ENABLED

/-- A normal stop or an abort that ramps the current down is under way (R34). -/
def State.stopping (s : State) : Bool := s.mode.row == 11

/-- The source that applies (R269), before the bounds of R271 are looked at. FULL_STOP applies while its ramp is driven, although POWER is
then STOPPING. -/
def State.baseSource (s : State) : Nat :=
  if s.flag Fld.SAFE_STATE_FS_ACTIVE && (!s.pwmInhibited || s.variant == .C) then Src.fullStop
  else if s.getF Fld.MODE_FUNC_STATE_POWER < 2 || (s.pwmInhibited && s.variant != .C) then Src.zero
  else if s.stopping then Src.stop
  else if s.prof.anchor then Src.anchor
  else Src.policy

/-- The profile source register takes a source; a change raises SOURCE_CHANGED. -/
def State.setSource (s : State) (src : Nat) : State :=
  if s.getF Fld.PROF_STATE_SOURCE == src then s
  else (s.setF Fld.PROF_STATE_SOURCE src).raise Ev.PROF_SOURCE_CHANGED

/-- The limits of a source (A/s, A/s², A/s³): the stop limits for FULL_STOP and BOUND, else RATE, ACCEL, JERK (R269). -/
def State.profLimits (s : State) (src : Nat) : F64 × F64 × F64 :=
  if src == Src.fullStop || src == Src.bound then
    (F64.ofInt (s.getReg Reg.PROF_STOP_RATE), F64.ofInt (s.getReg Reg.PROF_STOP_ACCEL), F64.ofInt (s.getReg Reg.PROF_STOP_JERK))
  else (F64.ofInt (s.getReg Reg.PROF_RATE), F64.ofInt (s.getReg Reg.PROF_ACCEL), F64.ofInt (s.getReg Reg.PROF_JERK))

/-- REF is held at 0 mA with rate and acceleration 0 (source ZERO). -/
def State.profZero (s : State) : State :=
  let s := { s with prof := { s.prof with r := F64.zero, v := F64.zero, a := F64.zero, bound := none, clamped := none, arrived := true } }
  ((s.setReg Reg.PROF_REF 0).setReg Reg.PROF_REF_RATE 0).setReg Reg.PROF_REF_ACCEL 0

/-- REF, REF_RATE and REF_ACCEL are published (R270), and MOVING says whether REF differs from the target. -/
def State.profPublish (s : State) (target : Int) : State :=
  let s := s.setI Reg.PROF_REF (aToMa s.prof.r)
  let s := s.setI Reg.PROF_REF_RATE (F64.toInt (F64.mul s.prof.v (F64.ofInt 100)))
  let s := s.setI Reg.PROF_REF_ACCEL (F64.toInt s.prof.a)
  s.setB Fld.PROF_STATE_MOVING (decide (s.getI Reg.PROF_REF ≠ target))

end Sys2Proof.Machine
end

