-- ==== Sys2Proof/Machine/Control.lean ====
section
/-! DEFINITION. The shared operations of modes, drive and safety: function states (R26), transitions (R27, R31, R33 to
R38), the contactor sequences (R294 to R299), drive removal and PWM inhibit (R285, R293), causes, Ellipsis and the Full
Stop sequencer (R314 to R322). -/

namespace Sys2Proof.Machine

/-- Mode codes (R23). -/
abbrev Md.dormant : Nat := 1
abbrev Md.survey : Nat := 2
abbrev Md.dispatch : Nat := 3
abbrev Md.assay : Nat := 4
abbrev Md.level : Nat := 5
abbrev Md.ellipsis : Nat := 6
abbrev Md.starting : Nat := 8
abbrev Md.stopping : Nat := 9

/-- MODE.STATE.CURRENT. -/
def State.cur (s : State) : Nat := s.getF Fld.MODE_STATE_CURRENT

/-- MODE.FUNC_STATE.POWER. -/
def State.power (s : State) : Nat := s.getF Fld.MODE_FUNC_STATE_POWER

/-- The voted current magnitude lies below 5 A in VOTED, HIGH and LOW (R298). -/
def State.below5 (s : State) : Bool :=
  decide ((s.getI Reg.VOTE_CUR_VOTED).natAbs < 5000) &&
  decide (max (s.getI Reg.VOTE_CUR_HIGH).natAbs (s.getI Reg.VOTE_CUR_LOW).natAbs < 5000)

/-- The current magnitude that the safety checks use (R173): max(|HIGH|, |LOW|), in mA. -/
def State.magnitude (s : State) : Nat :=
  max (s.getI Reg.VOTE_CUR_HIGH).natAbs (s.getI Reg.VOTE_CUR_LOW).natAbs

/-- Pair states (R340). -/
abbrev Ps.solo : Nat := 0
abbrev Ps.init : Nat := 1
abbrev Ps.claiming : Nat := 2
abbrev Ps.holder : Nat := 3
abbrev Ps.standby : Nat := 4
abbrev Ps.split : Nat := 5
abbrev Ps.resync : Nat := 6

/-- PAIR.STATE.PSTATE. -/
def State.pstate (s : State) : Nat := s.getF Fld.PAIR_STATE_PSTATE

/-- The module is of a pair and acts without the Imprint (R350). -/
def State.standby (s : State) : Bool :=
  s.pair && (s.pstate == Ps.standby || s.pstate == Ps.split || s.pstate == Ps.resync)

/-- Check C5: solo, or the module holds the Imprint. -/
def State.imprintOk (s : State) : Bool := !s.pair || s.pstate == Ps.holder

/-! ### Mode state and functions -/

/-- A requested anchor window ends with a result (R219): the setpoint is released, a kept TARGET taken over (R272). -/
def State.anchorEnd (s : State) (result : Nat) : State :=
  let s := if s.flag Fld.PROF_STATE_PENDING then
    (s.setReg Reg.PROF_TARGET (s.getReg Reg.PROF_PENDING_TARGET)).setB Fld.PROF_STATE_PENDING false else s
  let s := (s.setF Fld.EST_STATE_ANCHOR 3).setReg Reg.EST_ANCHOR_RESULT result
  let s := { s with prof := { s.prof with anchor := false } }
  if result == 1 then s else s.raise Ev.EST_ANCHOR_FAIL

/-- A requested anchor window is in its ramp or hold (R219). -/
def State.anchorOn (s : State) : Bool := s.getF Fld.EST_STATE_ANCHOR == 1 || s.getF Fld.EST_STATE_ANCHOR == 2

/-- A change of CURRENT is stamped and raises MODE_CHANGED (R41, R42). -/
def State.modeChanged (s : State) : State := (s.setReg Reg.MODE_ENTRY_TIME s.stamp).raise Ev.MODE_MODE_CHANGED

/-- MODE.STATE takes CURRENT, TARGET and PREV; a change of CURRENT is stamped and raises MODE_CHANGED (R24, R41); LEVEL_CLOSED
reads 0 in every state but LEVEL. -/
def State.setMode (s : State) (cur tgt prev : Nat) : State :=
  let old := s.cur
  let s := if cur == Md.level then s else s.setB Fld.MODE_STATE_LEVEL_CLOSED false
  let s := ((s.setF Fld.MODE_STATE_CURRENT cur).setF Fld.MODE_STATE_TARGET tgt).setF Fld.MODE_STATE_PREV prev
  if old == cur then s
  else
    let s := if s.anchorOn then s.anchorEnd 3 else s
    s.modeChanged

/-- The mode left: CURRENT, or PREV while a transition runs (R24). -/
def State.leftMode (s : State) : Nat :=
  if s.cur == Md.starting || s.cur == Md.stopping then s.getF Fld.MODE_STATE_PREV else s.cur

/-- The field of function 0 POWER, 1 PERTURB, 2 BLEED, 3 SAMPLE_FAST (R26). -/
def funcFld : Nat → Fld
  | 0 => Fld.MODE_FUNC_STATE_POWER
  | 1 => Fld.MODE_FUNC_STATE_PERTURB
  | 2 => Fld.MODE_FUNC_STATE_BLEED
  | _ => Fld.MODE_FUNC_STATE_SAMPLE_FAST

/-- The CAUSE field bit of a cause code (R336). -/
def causeBit (code : Nat) : Fld :=
  if code < 0x20 then ⟨Reg.SAFE_CAUSE_LO, code, code⟩ else ⟨Reg.SAFE_CAUSE_HI, code - 0x20, code - 0x20⟩

/-- A cause is active (R314). -/
def State.causeOn (s : State) (code : Nat) : Bool := s.flag (causeBit code)

/-- FAULT_ACTIVE shows whether an Ellipsis cause is active (R314). -/
def State.faultShow (s : State) : State := s.setB Fld.MODE_STATE_FAULT_ACTIVE (s.getReg Reg.SAFE_CAUSE_HI != 0)

/-- A cause ceases to be active; CAUSE_CLEARED is raised. -/
def State.dropCause (s : State) (code : Nat) : State :=
  if s.causeOn code then ((s.setB (causeBit code) false).raise Ev.SAFE_CAUSE_CLEARED).faultShow else s

/-- POWER leaving OFF, as an occurrence of the present CLK_FAB cycle: the confirming Sync of a step counts as granted before it (R441). -/
abbrev powerKey : Nat := 12

/-- What follows a change of POWER: the safety complex's record in MRAM (R308); when POWER leaves OFF the first trip is
forgotten (R334) and an offset calibration is abandoned (R168); when it becomes OFF the targets are 0 (R271), DRIVE_EN is released (R293), cause FEEDBACK_LOST ends
and slots 0 and 1 leave DRIVE_OFF (R267). -/
def State.powerChanged (s : State) (old new : Nat) : State :=
  let s := { s with mram := { s.mram with power := new } }
  let s := if old == 0 then s.arrive powerKey else s
  let s := s.raiseInt Pg.MODE 40 3
  let st := s.getF Fld.CYC_STATE_STATE
  let s := if st == 1 || st == 2 then s
    else { s with cyc := { s.cyc with outNs := if new == 0 then none else if old == 0 then some s.localNs else s.cyc.outNs } }
  let s := if old == 0 then
      { (s.setReg Reg.MRG_TRIP 0xFFFF0000) with meas := { s.meas with calibrating := false } } else s
  if new == 0 then
    let s := ((s.setReg Reg.PROF_TARGET 0).setReg Reg.PROF_PENDING_TARGET 0).setB Fld.PROF_STATE_PENDING false
    let s := ((s.setB Fld.DRV_EN_PULL_A false).setB Fld.DRV_EN_PULL_B false)
    let s := { s with safe := { s.safe with removed := false, afterRemoval := false, carrierReq := false } }
    let s := { s with loops := (withIdx 0 s.loops).map (fun (p : Nat × Slot) =>
      if p.1 < 2 && p.2.state == 6 then { p.2 with state := 3 } else p.2) }
    (s.dropCause 0x0B).profZero
  else s

/-- A function takes a state; at OFF, a BUSY_STOPPING that it caused ends with FUNC_OFF (R31). -/
def State.setFunc (s : State) (k v : Nat) : State :=
  let old := s.getF (funcFld k)
  if old == v then s
  else
    let s := s.setF (funcFld k) v
    let s := if k == 0 then s.powerChanged old v else s
    if v == 0 && s.flag Fld.MODE_STATE_BUSY_STOPPING && s.mode.busyFunc == k then
      (s.setB Fld.MODE_STATE_BUSY_STOPPING false).raise Ev.MODE_FUNC_OFF
    else s

/-- A function that is STARTING or ON goes to STOPPING. -/
def State.stopFunc (s : State) (k : Nat) : State :=
  let v := s.getF (funcFld k)
  if v == 1 || v == 2 then s.setFunc k 3 else s

/-- Balancing and fast sampling are brought off. -/
def State.stopOthers (s : State) : State := (s.stopFunc 2).stopFunc 3

/-! ### The Assay run's end as other units cause it (R234, R236) -/

/-- The Drive unit forces the perturbation to 0 without a taper: PERTURB is OFF at once (R234). -/
def State.forcePerturb (s : State) : State :=
  if s.getF Fld.MODE_FUNC_STATE_PERTURB == 0 then s
  else
    let s := s.raise Ev.DRV_PERTURB_ZERO
    { (s.setFunc 1 0) with drv := { s.drv with perturbMoving := false } }

/-- A run in progress ends early with a cause: the bin in progress is discarded, the cause recorded (R236). With
`force` the perturbation is forced to 0, else the taper begins. -/
def State.asyAbort (s : State) (cause : Nat) (force : Bool) : State :=
  let st := s.getF Fld.ASY_RUN_STATUS_STATE
  let s := if st == 1 || st == 2 || st == 3 then
      let s := (s.setReg Reg.ASY_ABORT_CAUSE cause).raise Ev.ASY_RUN_ABORTED
      let s := { s with asy := { s.asy with bins := [], endState := 6, metricsDue := true } }
      (if force then s else s.asyFall).setF Fld.ASY_RUN_STATUS_STATE (if force then 6 else 4)
    else if st == 4 && force then s.setF Fld.ASY_RUN_STATUS_STATE s.asy.endState
    else s
  let s := { s with asy := { s.asy with wantRun := false } }
  if force then s.forcePerturb else s

/-! ### PWM inhibit, RENEW and the contactor command -/

/-- The inhibit causes of DRV.PWM_STATUS bits 6:0 (R285). -/
def State.pwmCauses (s : State) : Nat :=
  b2n (!s.drv.imprint) + 2 * b2n (!s.drv.arm)
  + 4 * b2n (!(s.flag Fld.DRV_EN_LEVEL_A && s.flag Fld.DRV_EN_LEVEL_B))
  + 8 * b2n s.safe.removed + 16 * b2n (s.getF Fld.DRV_LINK_STATE != 2)
  + 32 * b2n (s.getF Fld.LOOP_SLOT_MAP_LOST % 4 != 0)
  + 64 * b2n (!bitOf (s.getF Fld.DRV_OS_STATUS_READY) 1)

/-- The inhibit causes are taken up; a cause while the pairs switch puts them into inhibit with PWM_INHIBITED (R285). -/
def State.pwmRefresh (s : State) : State :=
  let c := s.pwmCauses
  let s := s.setF ⟨Reg.DRV_PWM_STATUS, 6, 0⟩ c
  if c != 0 && s.flag Fld.DRV_PWM_STATUS_ENABLED then
    (s.setB Fld.DRV_PWM_STATUS_ENABLED false).raise Ev.DRV_PWM_INHIBITED
  else s

/-- A drive link frame without SOF and EOF (R288): TYPE, FLAGS, SEQ, LEN, EDITION, body, CRC-16. -/
def driveFrame (seq type edition : Nat) (body : List Nat) : List Nat :=
  let b := [type, 0, seq % 256, body.length] ++ beBytes 4 edition ++ body
  b ++ beBytes 2 (crc16 b)

/-- A frame leaves on the drive link with the next SEQ, and counts in FRAMES_TX. -/
def State.driveOut (s : State) (type edition : Nat) (body : List Nat) : State :=
  let s := (s.emit .drive type (driveFrame s.drv.txSeq type edition body)).countReg Reg.DRV_FRAMES_TX
  { s with drv := { s.drv with txSeq := (s.drv.txSeq + 1) % 256 } }

/-- A module frame with the module's own edition. -/
def State.driveMsg (s : State) (type : Nat) (body : List Nat) : State := s.driveOut type (s.getReg Reg.PAIR_EDITION) body

/-- The holder sends RENEW with the contactor command and ARM (R289). -/
def State.sendRenew (s : State) : State :=
  if s.drv.imprint && s.drv.renew && s.variant != .C then
    s.driveMsg 0x02 [s.getF Fld.DRV_CONT_CMD, b2n s.drv.arm]
  else s

/-- The contactor command takes a value: CONT.CMD, the static request pairs (R295) and, at once, RENEW. -/
def State.setCmd (s : State) (c : Nat) : State :=
  let s := s.setF Fld.DRV_CONT_CMD c
  let s := { s with drv := { s.drv with req := c } }
  (s.emit .pin 0x10 [c]).sendRenew

/-- ARM is set or cleared, and RENEW says so at once. -/
def State.setArm (s : State) (b : Bool) : State :=
  if s.drv.arm == b then s
  else ({ s with drv := { s.drv with arm := b } }).sendRenew.pwmRefresh

/-- DRIVE_EN_A and DRIVE_EN_B are pulled low by this module (R293). -/
def State.pullEn (s : State) : State :=
  let s := (s.setB Fld.DRV_EN_PULL_A true).setB Fld.DRV_EN_PULL_B true
  ((s.setB Fld.DRV_EN_LEVEL_A false).setB Fld.DRV_EN_LEVEL_B false).emit .pin 0x11 [1, 1]

/-- The DRIVE_EN lines are wired: always where there is a Drive unit, in a VB-2064-C as the Plant Record states (R301). -/
def State.enWired (s : State) : Bool := s.variant != .C || (match s.record with
  | some r => r.enWired
  | none => false)

/-- Drive is removed: ARM cleared, PWM inhibited and, with `drop`, both DRIVE_EN lines pulled low; where the lines are not
wired the static request pairs open instead (R298, R301). A removal forces the perturbation to 0 (R234). -/
def State.removeDrive (s : State) (drop : Bool) : State :=
  let s := { s with drv := { s.drv with arm := false, removedSamples := 0 },
                    safe := { s.safe with removed := s.safe.removed || drop, afterRemoval := true } }
  let s := if drop then (if s.enWired then s.pullEn else (s.setF Fld.DRV_CONT_CMD 0).emit .pin 0x10 [0]) else s
  (s.sendRenew.pwmRefresh).asyAbort 0x04 true

/-- A contactor counts as confirmed open (R326): 0 K_NEG, 1 K_PRE, 2 K_POS. -/
def State.fbOpen (s : State) (i : Nat) : Bool := bitOf (s.getF Fld.SIO_FB_ACCEPTED) i

/-- All contactors are confirmed open. -/
def State.allOpen (s : State) : Bool := s.fbOpen 0 && s.fbOpen 1 && s.fbOpen 2

/-- An opening under load is counted in MRAM and recorded with the voted current (R299, R415). -/
def State.loadOpen (s : State) : State :=
  (s.countRegM Reg.SAFE_LOAD_OPENS).raiseC ⟨Pg.SAFE, 33⟩ 1 (s.getReg Reg.VOTE_CUR_VOTED)

/-! ### Ends of transitions -/

/-- STOP_LATCH is set with a cause (R38): the cause and the count in MRAM, STOP_LATCH_SET, announced (R452). -/
def State.setStopLatch (s : State) (cause : Nat) : State :=
  let s := s.setF Fld.MODE_LATCH_STOP_LATCH 1
  let s := s.setF Fld.MODE_LATCH_CAUSE cause
  let s := (s.countF Fld.MODE_LATCH_COUNT).toMram Reg.MODE_LATCH
  let s := (s.setB Fld.MODE_STATE_STOP_LATCH true).raise Ev.MODE_STOP_LATCH_SET
  s.announce 0x04 cause (s.getF Fld.MODE_LATCH_COUNT)

/-- A transition has reached its target: CURRENT takes it, the transition is counted, the Galley line closed. Whether
TRANS_COUNT counts a transition that was aborted the spec leaves open: the model does not count it (assumption log 106). -/
def State.finish (s : State) : State :=
  let t := s.getF Fld.MODE_STATE_TARGET
  let row := s.mode.row
  let ab := s.mode.aborted
  let s := { s with mode := { s.mode with row := 0, waitOwt := false, waitAck := false, aborted := false } }
  let s := s.setB Fld.MODE_STATE_LEVEL_CLOSED (row == 8)
  let s := s.setMode t t (s.getF Fld.MODE_STATE_PREV)
  (if ab then s else s.wrapReg Reg.MODE_TRANS_COUNT).galClose Kind.mode true

/-- A transition begins: the row, the transitional state, the mode left. -/
def State.begin (s : State) (row cur tgt : Nat) : State :=
  let left := s.leftMode
  let s := { s with mode := { s.mode with row := row, aborted := false } }
  s.setMode cur tgt left

/-- Full Stop has confirmed every contactor open, or found POWER OFF: SURVEY with STOP_LATCH set, FS_DONE (R317, step 7). -/
def State.fsDone (s : State) : State :=
  let cause := s.getF Fld.SAFE_STATE_FIRST_CAUSE
  let s := s.setReg Reg.SAFE_FS_TIME ((s.localNs - s.safe.fsStartNs) / 1000)
  let s := ((s.setB Fld.SAFE_STATE_FS_ACTIVE false).setB Fld.SAFE_STATE_NO_RAMP false).setF Fld.SAFE_STATE_FS_STEP 0
  let s := (s.setB Fld.SAFE_STATE_ELLIPSIS false).setReg Reg.SAFE_ELL_LEFT 0
  let s := { s with mode := { s.mode with row := 0, waitOwt := false, waitAck := false, kept := none, aborted := false } }
  let s := s.setMode Md.survey Md.survey (s.getF Fld.MODE_STATE_PREV)
  let s := (s.wrapReg Reg.MODE_TRANS_COUNT).setStopLatch cause
  let s := (((s.dropCause 0x12).dropCause 0x17).dropCause 0x18).dropCause 0x19
  (s.raise Ev.SAFE_FS_DONE).announce 0x02 cause (s.getReg Reg.SAFE_FS_TIME)

/-- All four functions are OFF. -/
def State.allOff (s : State) : Bool := s.getReg Reg.MODE_FUNC_STATE % 256 == 0

/-- POWER has become OFF: every contactor is confirmed open. The contactor line closes, done or, after a failed
closing, rolled back; CONT.RESULT reads OPENED unless a failure stands there. -/
def State.powerOff (s : State) : State :=
  let s := s.setF Fld.DRV_CONT_STEP 0
  let s := if s.flag Fld.SAFE_STATE_FS_ACTIVE then s.setF Fld.SAFE_STATE_FS_STEP 6 else s
  let s := if s.drv.failing then s else s.setF Fld.DRV_CONT_RESULT 0x02
  let s := s.galClose Kind.contactor (!s.drv.failing)
  let s := { s with drv := { s.drv with failing := false, arm := false } }
  let s := (s.setB Fld.DRV_CONT_WELD false).dropCause 0x11
  s.setFunc 0 0

/-! ### Opening the contactors (R294) -/

/-- The ARGS of a contactor line (R419). -/
def State.contArgs (s : State) (dir : Nat) : List Nat :=
  [dir, s.getF Fld.DRV_CONT_CMD, s.getF Fld.SAFE_STATE_FIRST_CAUSE, 0] ++ leBytes 4 (toU 32 s.safe.i0)

/-- The contactor line of an opening: a new line, or the open one turned to opening (R419). -/
def State.openLine (s : State) : State :=
  match s.gal.openOf Kind.contactor with
  | some _ => s.galUpdate Kind.contactor (fun x => { x with phase := 9, args := s.contArgs 1 })
  | none => s.galOpen Kind.contactor 9 (s.contArgs 1)

/-- The opening goes on as the accepted feedback allows: K_NEG after K_POS and K_PRE are confirmed open, then the end
(R294, R317 steps 5 and 6). -/
def State.openAdvance (s : State) : State :=
  if s.getF Fld.DRV_CONT_STEP != 9 then s
  else
    let s := if s.fbOpen 2 && s.fbOpen 1 && s.getF Fld.DRV_CONT_CMD != 0 then
        (s.setCmd 0).setF Fld.SAFE_STATE_FS_STEP (if s.flag Fld.SAFE_STATE_FS_ACTIVE then 5 else 0)
      else s
    if s.allOpen && s.getF Fld.DRV_CONT_CMD == 0 then s.powerOff else s

/-- The contactors are commanded open: K_POS and K_PRE first (R294). -/
def State.openContactors (s : State) : State :=
  let s := s.openLine
  let s := s.setF Fld.DRV_CONT_STEP 9
  let s := if s.flag Fld.SAFE_STATE_FS_ACTIVE then s.setF Fld.SAFE_STATE_FS_STEP 4 else s
  (s.setCmd (s.getF Fld.DRV_CONT_CMD % 2)).openAdvance

/-! ### Full Stop and Ellipsis -/

/-- Causes marked "No" under Ramp in R314. -/
def noRamp (code : Nat) : Bool := code == 0x0A || code == 0x0B || code == 0x0C || code == 0x0D || code == 0x15

/-- The no-ramp path: drive removed within 20 µs, contactors opened later by current or time (R318). FS_STEP reads the step of R317
that the sequence has last reached (assumption log 116). -/
def State.noRampPath (s : State) : State :=
  if s.flag Fld.SAFE_STATE_NO_RAMP then s
  else
    let s := (s.setB Fld.SAFE_STATE_NO_RAMP true).raise Ev.SAFE_NO_RAMP
    (s.setF Fld.SAFE_STATE_FS_STEP 3).removeDrive true

/-- The envelope is fixed from the reference current (R317 step 1); a VB-2064-C starts from the voted current and asks the
plant to reduce it (R300). -/
def State.fixEnvelope (s : State) : State :=
  let s := s.setF Fld.SAFE_STATE_FS_STEP 1
  if s.variant == .C then
    let i0 := s.getI Reg.VOTE_CUR_VOTED
    let s := { s with safe := { s.safe with i0 := i0, envR := mAtoA i0, envV := F64.zero, envA := F64.zero,
                                            carrierReq := true } }
    s.announce 0x06 (s.getF Fld.SAFE_STATE_FIRST_CAUSE) (400 * 65536)
  else
    { s with safe := { s.safe with i0 := s.getI Reg.PROF_REF, envR := s.prof.r, envV := s.prof.v, envA := s.prof.a } }

/-- A closing sequence is under way: CONT.STEP is one of its steps. -/
def State.closing (s : State) : Bool := s.getF Fld.DRV_CONT_STEP != 0 && s.getF Fld.DRV_CONT_STEP != 9

/-- A closing sequence stops where it stands, for good (R297): RESULT, SEQ_FAIL and the event of its own that the result has,
the DRIVE_EN test's pulls released, ARM cleared. Nothing where none is under way. -/
def State.cutClosing (s : State) (result : Nat) : State :=
  if !s.closing then s
  else
    let s := (s.setF Fld.DRV_CONT_RESULT result).raise Ev.DRV_SEQ_FAIL
    let s := s.raiseIf (result == 0x10) Ev.DRV_EN_TEST_FAIL
    let s := s.raiseIf (result == 0x11) Ev.DRV_CONTACTOR_WELD
    let s := (s.setB Fld.DRV_EN_PULL_A false).setB Fld.DRV_EN_PULL_B false
    let s := { s.setF Fld.DRV_CONT_STEP 0 with drv := { s.drv with failing := true } }
    s.setArm false

/-- ASSAY is being left for DISPATCH and PERTURB or SAMPLE_FAST is not yet OFF: a safety demand waits for that (R35). -/
def State.leavingAssay (s : State) : Bool :=
  s.mode.row == 7 && !(s.getF Fld.MODE_FUNC_STATE_PERTURB == 0 && s.getF Fld.MODE_FUNC_STATE_SAMPLE_FAST == 0)

/-- A demand is kept until ASSAY has been left (R35); a kept Full Stop outranks an Ellipsis demand (R319). -/
def State.keep (s : State) (code : Nat) : State :=
  match s.mode.kept with
  | some k => if code < 0x20 && 0x20 ≤ k then { s with mode := { s.mode with kept := some code } } else s
  | none => { s with mode := { s.mode with kept := some code } }

/-- A Full Stop starts with a cause (R316), or, while one runs, a no-ramp cause switches it to the no-ramp path (R319). While
ASSAY is being left it waits until PERTURB and SAMPLE_FAST are OFF (R35), unless the cause removes drive at once (R318;
assumption log 20). A transition toward another state than SURVEY ends in SURVEY instead: TRANS_ABORTED (R42). -/
def State.fsStart (s : State) (code : Nat) : State :=
  if s.flag Fld.SAFE_STATE_FS_ACTIVE then
    if noRamp code && s.power != 0 && s.getF Fld.DRV_CONT_STEP != 9 then s.noRampPath else s
  else if s.leavingAssay && !noRamp code then s.keep code
  else
    let left := s.leftMode
    let cut := (s.cur == Md.starting || s.cur == Md.stopping) && s.getF Fld.MODE_STATE_TARGET != Md.survey
    let s := s.raiseIf cut Ev.MODE_TRANS_ABORTED
    let s := (s.setF Fld.SAFE_STATE_FIRST_CAUSE code).setB Fld.SAFE_STATE_FS_ACTIVE true
    let s := (s.setFM Fld.MODE_LATCH_CAUSE code).countRegM Reg.SAFE_FS_COUNT
    let s := { s with safe := { s.safe with fsStartNs := s.localNs } }
    let s := s.raise Ev.SAFE_FS_START
    let s := s.galClose Kind.mode false
    let s := { s with mode := { s.mode with row := 13, waitOwt := false, waitAck := false, kept := none,
                                              aborted := false } }
    let s := s.setMode Md.stopping Md.survey left
    let s := (s.asyAbort 0x02 true).stopOthers
    let s := s.announce 0x01 code 0
    if s.power == 0 then s.fsDone
    else
      let st := s.getF Fld.DRV_CONT_STEP
      let s := ((s.cutClosing 0x17).setFunc 0 3).openLine
      let s := s.fixEnvelope
      let s := (s.setSource Src.fullStop).setB Fld.PROF_STATE_STOP_LIMITS true
      if st == 9 then s.setF Fld.SAFE_STATE_FS_STEP (if s.getF Fld.DRV_CONT_CMD == 0 then 5 else 4) else if noRamp code then s.noRampPath else s

/-- The Margins permit Ellipsis for an E-class cause (R315). -/
def State.permitted (s : State) (code : Nat) : Bool :=
  bitOf (s.getReg Reg.MRG_ELL_PERMIT) (code - 0x20) &&
  (match code with
   | 0x23 => decide (s.safe.unmon ≤ s.getReg Reg.MRG_UNMON_MAX) && s.flag Fld.BAL_FLOOP_PRESENT
   | 0x22 => decide (3 ≤ s.safe.goodSweeps)
   | 0x24 => !s.safe.bothMarks
   | _ => true)

/-- ELLIPSIS is entered for a cause (R321, row 12): timer, limit, count; an Assay run is aborted, balancing taken off. -/
def State.ellEnter (s : State) (code : Nat) : State :=
  let left := s.leftMode
  let s := (s.setF Fld.SAFE_STATE_ELL_CAUSE code).setB Fld.SAFE_STATE_ELLIPSIS true
  let s := s.countRegM Reg.SAFE_ELL_COUNT
  let d := s.getF Fld.SAFE_ELL_CFG_DURATION_S
  let s := { (s.setReg Reg.SAFE_ELL_LEFT d) with safe := { s.safe with ellLeftNs := d * 1000000000 } }
  let s := { s with mode := { s.mode with row := 0, kept := none, aborted := false } }
  let s := (s.setMode Md.ellipsis Md.ellipsis left).wrapReg Reg.MODE_TRANS_COUNT
  let s := (s.asyAbort 0x02 true).stopOthers
  (s.raise Ev.SAFE_ELL_ENTER).announce 0x03 code d

/-- A transition is aborted (R33, R35, R297): its line is rolled back, TRANS_ABORTED raised, and the module goes to SURVEY,
through STOPPING while anything is still on. -/
def State.abortTransition (s : State) : State :=
  let left := s.leftMode
  let s := (s.galClose Kind.mode false).raise Ev.MODE_TRANS_ABORTED
  let s := { s with mode := { s.mode with row := 11, waitOwt := false, waitAck := false, aborted := true } }
  let s := (s.asyAbort 0x02 true).stopOthers
  let s := if s.power == 0 then s else s.setFunc 0 3
  if s.allOff then
    let s := { s with mode := { s.mode with row := 0, aborted := false } }
    s.setMode Md.survey Md.survey left
  else s.setMode Md.stopping Md.survey left

/-- A transition that brings POWER on, or runs with POWER ON, is cut short (R33, R35, R297): a closing sequence stops with
`result`; with nothing commanded and every contactor open POWER is OFF at once. Otherwise what has closed opens: at once below
5 A while POWER was being brought on, or under load where `load` says that the rule opens it regardless of current (R299);
else once the current has fallen below 5 A. -/
def State.cutTransition (s : State) (result : Nat) (load : Bool) : State :=
  let was := s.closing
  let on := s.power == 1
  let s := s.cutClosing result
  if on && s.getF Fld.DRV_CONT_CMD == 0 && s.allOpen then (if was then s.powerOff else s.setFunc 0 0).abortTransition
  else
    let s := s.abortTransition
    if !on then s
    else if s.below5 then s.openContactors
    else if load then s.loadOpen.openContactors
    else s

/-- An Ellipsis demand takes effect by the state it finds (R27 row 12, R35). -/
def State.ellDemand (s : State) (code : Nat) : State :=
  if s.cur == Md.dispatch || s.cur == Md.assay || (s.cur == Md.level && s.flag Fld.MODE_STATE_LEVEL_CLOSED) then s.ellEnter code
  else if s.cur == Md.starting then s.cutTransition 0x17 false
  else if s.leavingAssay then s.keep code
  else s

/-- The judgement of R315 on an active E-class cause while POWER is not OFF: Ellipsis, or a Full Stop with ELL_DENIED. -/
def State.judge (s : State) (code : Nat) : State :=
  if s.permitted code then s.ellDemand code else (s.raise Ev.MRG_ELL_DENIED).fsStart code

/-- A cause becomes active (R314): its bit is set with CAUSE_SET; an FS-class cause starts a Full Stop, or in a module of
a pair without the Imprint sends the stop request of R320; an E-class cause sets FAULT_ACTIVE and is judged while
POWER is not OFF. Before the partner is known to hold the Imprint (INIT, CLAIMING) a module with POWER OFF also latches its own
Full Stop (assumption log 106). -/
def State.setCause (s : State) (code : Nat) : State :=
  if s.causeOn code then s
  else
    let s := ((s.setB (causeBit code) true).raise Ev.SAFE_CAUSE_SET).faultShow
    if code < 0x20 then
      if s.pair && s.pstate != Ps.holder then
        let s := { (s.plnkOut 0x04 [code]) with safe := { s.safe with stopReqSent := true } }
        if !s.standby && s.power == 0 then s.fsStart code else s
      else s.fsStart code
    else if s.power != 0 && !s.standby then s.judge code
    else s

/-- A cause follows its condition: set while it holds, dropped when it ceases. -/
def State.holdCause (s : State) (code : Nat) (on : Bool) : State :=
  if on then s.setCause code else s.dropCause code

/-- A demand that was active before this module could act on it takes effect (R364): the first Full Stop cause, or else the
judgement of the Ellipsis causes while POWER is not OFF. -/
def State.demandNow (s : State) : State :=
  match (List.range 32).find? s.causeOn with
  | some c => if s.flag Fld.SAFE_STATE_FS_ACTIVE then s else s.fsStart c
  | none =>
    if s.power == 0 || s.flag Fld.SAFE_STATE_ELLIPSIS then s
    else match ((List.range 32).map (· + 32)).find? s.causeOn with
      | some c => s.judge c
      | none => s

/-- The judgement again after a change in a condition, for every active E-class cause whose own condition can fail
(R315). -/
def State.rejudge (s : State) : State :=
  if s.power == 0 || s.standby || s.flag Fld.SAFE_STATE_FS_ACTIVE then s
  else [0x22, 0x23, 0x24].foldl (fun s c =>
    if s.causeOn c && !s.permitted c && !s.flag Fld.SAFE_STATE_FS_ACTIVE then
      (s.raise Ev.MRG_ELL_DENIED).fsStart c else s) s

/-! ### The insulation monitor's state (R179, R180) -/

/-- This module is the one that may inject: solo, the holder of the Imprint, or role A before any Imprint is held. -/
def State.imdTurn (s : State) : Bool :=
  !s.pair || s.pstate == Ps.holder
  || ((s.pstate == Ps.init || s.pstate == Ps.claiming) && s.getF Fld.PAIR_STATE_ROLE == 0 && s.pairU.partnerState != Ps.holder)

/-- The state that conditions outside the measurement force on the monitor: OFF, PASSIVE or SUSPENDED. -/
def State.imdForced (s : State) : Option Nat :=
  if !s.flag Fld.MEAS_IMD_CTL_ENABLE || s.meas.hvLost then some 7
  else if !s.imdTurn then some 5
  else if s.getF Fld.MEAS_IMD_CTL_CLOSED_MODE == 1 && s.flag Fld.MODE_STATE_CONTACTORS then some 4
  else none

/-- The monitor injects: nothing forces it to be silent, and a new holder's wait has ended. -/
def State.imdInjects (s : State) : Bool := s.imdForced.isNone && !s.meas.imdWait

/-- The insulation state takes a value, with cause IMD_ALARM following ALARM (R314). -/
def State.imdState (s : State) (st : Nat) : State :=
  (s.setF Fld.MEAS_IMD_RESULT_STATE st).holdCause 0x27 (st == 3)

/-- The state that the monitor reports whatever it measures: CONN_FAULT while the chassis loop is open (R178), but OFF where the monitor
is off (assumption log 112). -/
def State.imdShown (s : State) : Option Nat := match s.imdForced with
  | some 7 => some 7
  | f => if s.meas.loopOpen then some 6 else f

/-- The insulation state follows what is reported whatever is measured; when nothing is any more, a fresh cycle starts from NONE. -/
def State.imdRefresh (s : State) : State :=
  let st := s.getF Fld.MEAS_IMD_RESULT_STATE
  match s.imdShown with
  | some f => if st == f then s else s.imdState f
  | none =>
    if 4 ≤ st then
      ({ s with meas := { s.meas with imdCycle := s.meas.imdCycle + 1 } }).imdState 0
    else s

/-! ### Progress of a transition -/

/-- An open-wire test is wanted (R146). -/
def State.wantOwt (s : State) : State := { s with bal := { s.bal with owtWanted := true } }

/-- The voted current lies within a magnitude (mA). -/
def State.within (s : State) (lim : Nat) : Bool := decide ((s.getI Reg.VOTE_CUR_VOTED).natAbs ≤ lim)

/-- A running transition ends when what its row names has come about (R27): POWER ON for row 3, BLEED ON for row 4, and so
on; a Full Stop ends when POWER is OFF. Entry to DISPATCH by row 7 asks for an open-wire test (R146). -/
def State.progress (s : State) : State :=
  let c := s.getReg Reg.SAFE_C_CURRENT
  let f := fun k => s.getF (funcFld k)
  match s.mode.row with
  | 3 => if f 0 == 2 then s.finish else s
  | 4 => if f 2 == 2 then s.finish else s
  | 6 =>
    let s := if f 2 == 0 && f 3 == 0 then s.setFunc 3 1 else s
    if s.within (c / 4) && f 2 == 0 && f 3 == 2 && f 1 == 2 then s.finish else s
  | 7 =>
    if f 1 == 0 && f 3 == 0 then
      let kept := s.mode.kept
      let s := { s with mode := { s.mode with kept := none } }.finish.wantOwt
      match kept with
      | some code => if code < 0x20 then s.fsStart code else s.judge code
      | none => s
    else s
  | 8 => if s.within (c / 2) && f 2 == 2 then s.finish else s
  | 10 => if f 2 == 0 then s.finish else s
  | 11 => if s.allOff then s.finish else s
  | 13 => if f 0 == 0 && s.flag Fld.SAFE_STATE_FS_ACTIVE then s.fsDone else s
  | _ => s

/-- The module leaves ASSAY for DISPATCH by row 7, without a request: PERTURB and SAMPLE_FAST are brought off. The Galley line has
no request to name: TAG and number read 0 (assumption log 106). -/
def State.leaveAssay (s : State) : State :=
  if s.cur == Md.assay then
    let s := s.galOpen Kind.mode 0 ([Md.assay, Md.dispatch, 0, 0] ++ leBytes 4 0)
    let s := s.begin 7 Md.stopping Md.dispatch
    ((s.stopFunc 1).stopFunc 3).progress
  else s

end Sys2Proof.Machine
end

