-- ==== Sys2Proof/Machine/Permit.lean ====
section
/-! DEFINITION. The checks of a write to a register page (R5, R49, R51, R554): what a refused access records, and the two
guards that every command which is a register write goes through. -/

namespace Sys2Proof.Machine

/-- STATUS codes of R59. -/
abbrev St.ok : Nat := 0x00
abbrev St.ownerDenied : Nat := 0x01
abbrev St.levelDenied : Nat := 0x02
abbrev St.absent : Nat := 0x03
abbrev St.unmapped : Nat := 0x04
abbrev St.align : Nat := 0x05
abbrev St.notExecuted : Nat := 0x06
abbrev St.keyDenied : Nat := 0x07

/-- A refused access is recorded in SYS.ACCESS_ERR_ADDR and SYS.ACCESS_ERR, over the previous record (R554). -/
def State.recordErr (s : State) (master addr status : Nat) : State :=
  let s := s.setReg Reg.SYS_ACCESS_ERR_ADDR addr
  (s.setF Fld.SYS_ACCESS_ERR_MASTER master).setF Fld.SYS_ACCESS_ERR_STATUS status

/-- The bit of OWNER that a master needs (R46, R50). -/
def ownerBit : Nat → Nat
  | 0 => 0
  | 1 => 0
  | 2 => 1
  | 3 => 2
  | 4 => 3
  | _ => 4

/-- A master's bit in the OWNER register of a page is 1 (R49). -/
def State.owns (s : State) (master page : Nat) : Bool := bitOf (s.getReg (Folio.OWNER page)) (ownerBit master)

/-- The two-wire target writes no register; the service UART writes only those of R60. -/
def pathWrites (master addr : Nat) : Bool :=
  if master == 4 then false
  else if master == 5 then addr == Reg.MODE_REQUEST || addr == Reg.MODE_LATCH_CLR || addr == Folio.LOCK Pg.MODE
  else true

/-- The outcome of the checks on a write to a register page that need no key: UNMAPPED for the path (R60), ABSENT (R5),
OWNER_DENIED (R49), OK; `page` governs the address. -/
def State.writeStatus (s : State) (master addr page : Nat) : Nat :=
  if !pathWrites master addr then St.unmapped
  else if !pagePresent s.variant page then St.absent
  else if !s.owns master page then St.ownerDenied
  else St.ok

/-- What a refusal of a write does: the event its rule names and the record of R554. -/
def State.refuseWrite (s : State) (master addr status : Nat) : State :=
  let s := if status == St.absent then s.raise Ev.SYS_ABSENT_WRITE
    else if status == St.ownerDenied then s.raise Ev.SYS_OWNER_DENIED
    else if status == St.unmapped then s.raise Ev.SYS_UNMAPPED_ACCESS
    else s
  s.recordErr master addr status

/-- Core 0 runs policy code, in user mode: its memory protection lets it write the TMR page alone (R368). -/
def State.userStore (s : State) (master page : Nat) : Bool := master == 0 && s.cyc.entry.isSome && page != Pg.TMR

/-- An access that the memory protection of R368 stops: the access fault at the core (5 load, 7 store); nothing reaches the fabric. -/
def State.pmpFault (s : State) (master addr : Nat) (store : Bool) : State :=
  s.emit (.core master) (if store then 7 else 5) [addr]

/-- A write that needs no key, to an address that a page governs (R44): `f` where the module runs and the checks pass, else the
refusal. -/
def State.permitAt (s : State) (master addr page : Nat) (f : State → State) : State :=
  if !s.live then s
  else if s.userStore master page then s.pmpFault master addr true
  else
    let st := s.writeStatus master addr page
    if st == St.ok then f s else s.refuseWrite master addr st

/-- A write to a register page that needs no key. -/
def State.permit (s : State) (master addr : Nat) (f : State → State) : State := s.permitAt master addr (pageOf addr) f

/-- LOCK of a page holds a key, written by this master (R51). -/
def State.keyOk (s : State) (master page key : Nat) : Bool :=
  s.getF (Folio.LOCK_KEY page) == key && s.getF (Folio.LOCK_MASTER page) == master

/-- LOCK.KEY of a page is cleared. -/
def State.clearKey (s : State) (page : Nat) : State := s.setF (Folio.LOCK_KEY page) 0

/-- A keyed write (R51): every such write clears LOCK.KEY; with the key `f` takes place, without it the event `deny` is
raised and the refusal recorded. A write that OWNER, the access code or a session's level refuses never reaches the key, and leaves
it (the model's choice, assumption log 107). -/
def State.permitKeyed (s : State) (master addr key : Nat) (deny : Ev) (f : State → State) : State :=
  s.permit master addr (fun s =>
    let ok := s.keyOk master (pageOf addr) key
    let s := s.clearKey (pageOf addr)
    if ok then f s else (s.raise deny).recordErr master addr St.keyDenied)

end Sys2Proof.Machine
end

