-- ==== Sys2Proof/Machine/Modes.lean ====
section
/-! DEFINITION. The commands of *Operating Modes*: requests (R29, R30), the deadlines of a transition (R33, R34) and
STOP_LATCH (R39). -/

namespace Sys2Proof.Machine

/-- What every command answers: a next state. -/
abbrev Step := Host.Outcome State Fault Refusal

/-- REQ_RESULT codes (R30). -/
abbrev Rq.accepted : Nat := 0x01
abbrev Rq.already : Nat := 0x02
abbrev Rq.transition : Nat := 0x10
abbrev Rq.busyStopping : Nat := 0x11
abbrev Rq.pending : Nat := 0x12
abbrev Rq.stopLatch : Nat := 0x13
abbrev Rq.variant : Nat := 0x14
abbrev Rq.condition : Nat := 0x15
abbrev Rq.imprint : Nat := 0x16
abbrev Rq.faultActive : Nat := 0x17

/-- The row of R27 that a host request takes from a state to a target; 0 where the table has none. -/
def rowOf (cur tgt : Nat) (closed : Bool) : Nat :=
  match cur, tgt with
  | 2, 3 => 3
  | 2, 5 => 4
  | 2, 1 => 5
  | 3, 4 => 6
  | 4, 3 => 7
  | 3, 5 => 8
  | 5, 3 => if closed then 9 else 0
  | 5, 2 => if closed then 11 else 10
  | 3, 2 => 11
  | 4, 2 => 11
  | 6, 2 => 11
  | _, _ => 0

/-- Functions that are ON in a target (R26): 0 POWER, 1 PERTURB, 2 BLEED, 3 SAMPLE_FAST. Whether LEVEL counts POWER, which is
ON only in LEVEL closed, the spec leaves open: the model counts BLEED alone (assumption log 106). -/
def targetFuncs : Nat → List Nat
  | 3 => [0]
  | 4 => [0, 1, 3]
  | 5 => [2]
  | _ => []

/-- The first function that a target brings on while it is STOPPING (R29, R31). Where several are, the model takes this one as
the function that caused the rejection (assumption log 106). -/
def State.stoppingFunc (s : State) (tgt : Nat) : Option Nat :=
  (targetFuncs tgt).find? (fun k => s.getF (funcFld k) == 3)

/-- A target brings power on: DISPATCH or ASSAY, requested while POWER is OFF or STOPPING (R29). -/
def State.bringsPower (s : State) (tgt : Nat) : Bool := (tgt == 3 || tgt == 4) && (s.power == 0 || s.power == 3)

/-- Safety input pair `i` is in the run state, or its function exempts it from check C8 (R28, R323). -/
def State.pairRuns (s : State) (i : Nat) : Bool :=
  let f := s.getF (Fld.SIO_CFG_FUNCTION i)
  f == 0 || f == 4 || s.getReg Reg.SIO_STATE / 4 ^ i % 4 == 0

/-- The bin set of a run KIND, before the enable mask (R231). -/
def State.kindMask (s : State) : Nat :=
  match s.getF Fld.ASY_RUN_CTL_KIND with
  | 1 => 2 ^ 64 - 1
  | 2 => s.getReg Reg.ASY_CUSTOM_LO + 2 ^ 32 * s.getReg Reg.ASY_CUSTOM_HI
  | _ => (2 ^ 64 - 1) - (2 ^ 34 - 1)

/-- The bins that a run would measure (R231). -/
def State.runMask (s : State) : Nat :=
  s.kindMask &&& (s.getReg Reg.ASY_BIN_EN_LO + 2 ^ 32 * s.getReg Reg.ASY_BIN_EN_HI)

/-- The insulation check C7: state VALID, and the result completed within the last 60 s (R28, R179). -/
def State.isoOk (s : State) : Bool :=
  s.getF Fld.MEAS_IMD_RESULT_STATE == 1 &&
  (match s.meas.imdAt with
   | some t => decide (s.localNs - t ≤ 60000000000)
   | none => false)

/-- A module of the pair reports DORMANT, or has been absent (C12). -/
def State.partnerAsleep (s : State) : Bool :=
  !s.pair || !s.flag Fld.PAIR_STATE_PARTNER_PRESENT || s.getF Fld.PAIR_STATE_PARTNER_MODE == Md.dormant
  || bitOf s.pairU.partnerFlags 2

/-- A check of R28 holds; C6, and C9 of a VB-2064-C, are judged after acceptance. -/
def State.check (s : State) : Nat → Bool
  | 1 => s.record.isSome && bitOf (s.getReg (Folio.STATUS Pg.NODE)) 0
  | 2 => !s.flag Fld.MODE_LATCH_STOP_LATCH
  | 3 => !s.flag Fld.MODE_STATE_FAULT_ACTIVE
  | 4 => s.getReg Reg.VOTE_CH_STATE / 4 % 4096 == 0 && s.flag Fld.VOTE_CH_STATE_CUR_VALID
         && s.flag Fld.VOTE_CH_STATE_V_VALID && s.getReg Reg.VOTE_CNT_CUR == 0 && s.getReg Reg.VOTE_CNT_V == 0
  | 5 => s.imprintOk
  | 7 => s.isoOk
  | 8 => [0, 1, 2, 3, 4, 5, 6, 7].all s.pairRuns
  | 9 => s.variant == .C || (s.getF Fld.DRV_LINK_STATE == 2 && bitOf (s.getF Fld.DRV_OS_STATUS_READY) 0)
  | 10 => s.power == 0
  | 11 => s.power == 0 && s.gal.openLines.isEmpty
  | 12 => s.partnerAsleep
  | 13 => s.variant == .F && s.runMask != 0
  | _ => true

/-- The checks of each row, in ascending number (R27). -/
def rowChecks : Nat → List Nat
  | 3 => [1, 2, 3, 4, 5, 6, 7, 8, 9, 10]
  | 4 => [1, 8]
  | 5 => [11, 12]
  | 6 => [4, 13]
  | 8 => [8]
  | 9 => [4]
  | _ => []

/-- The outcome of R29 for a target: its code, and the failing check for REJ_CONDITION. -/
def State.evalCode (s : State) (tgt : Nat) : Nat × Nat :=
  let row := rowOf s.cur tgt (s.flag Fld.MODE_STATE_LEVEL_CLOSED)
  if tgt == 0 || tgt == 7 || 10 ≤ tgt || tgt == 6 then (Rq.transition, 0)
  else if tgt == 4 && s.variant != .F then (Rq.variant, 0)
  else if (s.stoppingFunc tgt).isSome then (Rq.busyStopping, 0)
  else if s.cur == 8 || s.cur == 9 then (Rq.pending, 0)
  else if tgt == s.cur then (Rq.already, 0)
  else if row == 0 then (Rq.transition, 0)
  else if s.bringsPower tgt && s.flag Fld.MODE_LATCH_STOP_LATCH then (Rq.stopLatch, 0)
  else if s.bringsPower tgt && !s.imprintOk then (Rq.imprint, 0)
  else if s.bringsPower tgt && s.flag Fld.MODE_STATE_FAULT_ACTIVE then (Rq.faultActive, 0)
  else match (rowChecks row).find? (fun c => !s.check c) with
    | some c => (Rq.condition, c)
    | none => (Rq.accepted, 0)

/-- The outcome is reported (R30): REQ_RESULT, REQ_DONE, and for a code of 0x10 or above REQ_REJECTED. -/
def State.report (s : State) (tag tgt code chk : Nat) : State :=
  let s := s.setReg Reg.MODE_REQ_RESULT (tag % 256 * 65536 + chk % 16 * 4096 + tgt % 16 * 256 + code % 256)
  let s := s.raise Ev.MODE_REQ_DONE
  if 0x10 ≤ code then (s.wrapReg Reg.MODE_REJECT_COUNT).raise Ev.MODE_REQ_REJECTED else s

/-- The chain in DORMANT (R118, R146): no schedule, no sweep, and a deferred open-wire test is dropped. -/
def State.chainSleep (s : State) : State :=
  { s.setReg Reg.CHN0_SCHED 0 with
    chain := { s.chain with sweeps := [], relay := none }, bal := { s.bal with owtWanted := false, owtForMode := false } }

/-- In DORMANT every loop slot is STOPPED and every thermal output off (R260, R274). -/
def State.loopsStop (s : State) : State :=
  let s := { s with loops := s.loops.map (fun (x : Slot) => { x with state := 0 }) }
  [0, 1, 2, 3, 4].foldl (fun (s : State) (k : Nat) => s.setReg (Reg.THM_OUT_VALVE + 4 * k) 0) (s.setF Fld.LOOP_SLOT_MAP_RUN 0)

/-- The module enters DORMANT (R40): everything but the wake domain stops. A holder has released the Imprint (R349). -/
def State.sleep (s : State) : State :=
  let s := if s.drv.imprint && s.variant != .C then
      s.driveMsg 0x03 [0x02] else s
  let s := { s with drv := { s.drv with imprint := false, renew := false, arm := false } }
  let s := if s.pair then s.setF Fld.PAIR_STATE_PSTATE Ps.standby else s
  let s := s.finish.chainSleep.loopsStop
  { s.pwmRefresh with phase := .dormant, dormantAt := s.localNs }

/-- The first steps of an accepted transition, by its row. Entry to DISPATCH by row 9 asks for an open-wire test (R146). -/
def State.takeRow (s : State) (row tgt : Nat) : State :=
  match row with
  | 3 =>
    let s := (s.begin 3 Md.starting tgt).setFunc 0 1
    let s := { s with mode := { s.mode with waitOwt := true, waitAck := s.variant == .C },
                      bal := { s.bal with owtWanted := true, owtForMode := true } }
    if s.variant == .C then s.announce 0x07 0 0 else s
  | 4 =>
    let s := (s.begin 4 Md.starting tgt).setFunc 2 1
    s
  | 5 => (s.begin 5 Md.stopping tgt).sleep
  | 6 =>
    let s := (s.begin 6 Md.starting tgt).stopFunc 2
    let s := s.setFunc 1 1
    { s with asy := { s.asy with wantRun := true, mask := s.runMask, kind := s.getF Fld.ASY_RUN_CTL_KIND } }
  | 7 => ((s.begin 7 Md.stopping tgt).asyAbort 0x02 false).stopFunc 1 |>.stopFunc 3 |>.progress
  | 8 => (s.begin 8 Md.starting tgt).setFunc 2 1
  | 9 =>
    let s := s.begin 9 s.cur tgt
    (s.stopFunc 2).finish.wantOwt
  | 10 => ((s.begin 10 Md.stopping tgt).stopFunc 2).progress
  | 11 =>
    let s := s.begin 11 Md.stopping tgt
    let s := ((s.asyAbort 0x02 false).stopFunc 1).stopOthers
    let s := if s.power == 0 then s else s.setFunc 0 3
    let s := if s.variant == .C then
        { (s.announce 0x06 0 (s.getReg Reg.MODE_STOP_LIMIT * 65536)) with safe := { s.safe with carrierReq := true } }
      else s
    s.progress
  | _ => s

/-- A request is evaluated (R29) and reported; an accepted one writes its Galley line, with the number of the request's event, and
begins. -/
def State.evaluate (s : State) (tag tgt : Nat) : State :=
  let (code, chk) := s.evalCode tgt
  if code == Rq.accepted then
    let row := rowOf s.cur tgt (s.flag Fld.MODE_STATE_LEVEL_CLOSED)
    let s := s.galOpen Kind.mode 0 ([s.cur, tgt, tag, 0] ++ leBytes 4 s.mode.dueSeq)
    let s := { s with mode := { s.mode with accTag := tag, accTgt := tgt } }
    (s.report tag tgt code 0).takeRow row tgt
  else if code == Rq.busyStopping then
    let s := s.setB Fld.MODE_STATE_BUSY_STOPPING true
    let s := { s with mode := { s.mode with busyFunc := (s.stoppingFunc tgt).getD 0 } }
    s.report tag tgt code 0
  else s.report tag tgt code chk

/-- A request reaches the mode manager: evaluated here, or, by a module without the Imprint whose partner is present and
holds it, forwarded to the holder unless its target is DORMANT (R351). During start-up every request is evaluated here (R75). -/
def State.request (s : State) (tag tgt : Nat) : State :=
  if s.pair && s.phase == .up && s.pstate != Ps.holder && tgt != Md.dormant
      && s.flag Fld.PAIR_STATE_PARTNER_PRESENT && s.pairU.partnerState == Ps.holder then
    let s := s.plnkOut 0x05 [tag, tgt]
    { s with mode := { s.mode with forwardTag := some tag, forwardTarget := tgt } }
  else s.evaluate tag tgt

/-- A write to MODE.REQUEST has passed its checks: TAG and TARGET are kept, and the write reaches the Compositor as an
informational event (R29, R41). -/
def State.requestWrite (s : State) (value : Nat) : State :=
  let tag := bitsOf value 15 8
  let tgt := bitsOf value 3 0
  (s.setReg Reg.MODE_REQUEST (tag * 256 + tgt)).raiseInt Pg.MODE 32 5

/-- The event of a request has been granted with number `seq` (R29): the next CLK_FAB cycle evaluates it. -/
def State.requestGranted (s : State) (who tag tgt seq : Nat) : State :=
  { s with mode := { s.mode with due := who, dueTag := tag, dueTgt := tgt, dueSeq := seq } }

/-- The request granted in the cycle before is evaluated, against the state as it now stands (R29): this module's own, or the
partner's, whose outcome goes back to it (R351). -/
def State.evalDue (s : State) : State :=
  let u := s.mode
  if u.due == 0 then s
  else
    let s := { s with mode := { s.mode with due := 0 } }
    if u.due == 1 then s.request u.dueTag u.dueTgt
    else
      let s := s.evaluate u.dueTag u.dueTgt
      s.plnkOut 0x06 [s.getF Fld.MODE_REQ_RESULT_CODE, s.getF Fld.MODE_REQ_RESULT_CHECK, u.dueTgt]

/-- MODE_REQUEST (R29): a write to MODE.REQUEST; through the service UART only targets DORMANT and SURVEY (R60). -/
def execModeRequest (master value : Nat) (s : State) : Step :=
  .next (s.permit master Reg.MODE_REQUEST (fun s =>
    let tgt := bitsOf value 3 0
    if master == 5 && tgt != Md.dormant && tgt != Md.survey then s.recordErr master Reg.MODE_REQUEST St.levelDenied
    else s.requestWrite value))

/-- TRANS_TIMEOUT (R33): START_LIMIT has passed while a transition brings POWER on; it is aborted, and the contactors open
below 5 A. -/
def execTransTimeout (s : State) : Step :=
  if s.live && s.cur == Md.starting && s.mode.row == 3 && s.power == 1 then
    .next (((s.raiseInt Pg.MODE 33 4).raise Ev.MODE_TRANS_TIMEOUT).cutTransition 0x17 false).progress
  else .next s

/-- STOP_LIMIT_EXPIRY (R34): the voted current of a normal stop is not below 5 A within STOP_LIMIT; Full Stop runs. -/
def execStopLimitExpiry (s : State) : Step :=
  if s.live && s.mode.row == 11 && s.power == 3 && s.getF Fld.DRV_CONT_STEP != 9 && !s.below5 then
    .next ((s.raiseInt Pg.MODE 34 4).setCause 0x17)
  else .next s

/-- The conditions of R39 under which STOP_LATCH clears, besides key and value. -/
def State.latchMayClear (s : State) : Bool :=
  s.cur == Md.survey && s.allOpen && !s.causeOn (s.getF Fld.MODE_LATCH_CAUSE)

/-- LATCH_CLR (R39): the keyed write that clears STOP_LATCH, or LATCH_CLR_DENIED. -/
def execLatchClr (master value : Nat) (s : State) : Step :=
  .next (s.permitKeyed master Reg.MODE_LATCH_CLR 0x3A7D Ev.MODE_LATCH_CLR_DENIED (fun s =>
    if bitsOf value 15 0 == 0x5C1E && s.latchMayClear then
      let s := s.setFM Fld.MODE_LATCH_STOP_LATCH 0
      let s := (s.setB Fld.MODE_STATE_STOP_LATCH false).raise Ev.MODE_STOP_LATCH_CLEARED
      s.announce 0x05 (s.getF Fld.MODE_LATCH_CAUSE) 0
    else s.raise Ev.MODE_LATCH_CLR_DENIED))

end Sys2Proof.Machine
end

