-- ==== Sys2Proof/Machine/Drive.lean ====
section
/-! DEFINITION. The commands of *The Drive Unit and the Output Stage* besides STATUS: the drive link (R287 to R290), PWM
enable (R285), DRIVE_EN (R293), the closing sequence (R296, R297, R301), the feedback contacts (R326 to R328), and the
current reduction of a VB-2064-C (R300). -/

namespace Sys2Proof.Machine

/-! ### The closing sequence (R296, R297, R301) -/

/-- A voltage of the MEAS page lies at or below WELD_V (R296). -/
def State.belowWeld (s : State) (a : Nat) : Bool := decide (s.getI a ≤ (s.getReg Reg.DRV_WELD_V : Int) * 1000)

/-- The closing sequence aborts with a RESULT (R297): what has closed is opened, the transition aborted. The opening of step 2 or
3 with a current present counts as under load (R299). -/
def State.seqFail (s : State) (result : Nat) : State := (s.cutTransition result (result == 0x11)).progress

/-- Step 2, the weld check, and the command of step 3. -/
def State.seqStep2 (s : State) : State :=
  let s := (s.setF Fld.DRV_CONT_STEP 2).galPhase Kind.contactor 2
  if s.allOpen && s.belowWeld Reg.MEAS_V_PRE && s.belowWeld Reg.MEAS_V_LINK then
    ((s.setF Fld.DRV_CONT_STEP 3).galPhase Kind.contactor 3).setCmd 1
  else s.seqFail 0x11

/-- One DRIVE_EN line is pulled low for the test of step 1: 0 A, 1 B. -/
def State.seqPull (s : State) (line : Nat) : State :=
  let s := { s with drv := { s.drv with enLine := line } }
  (s.setB (if line == 0 then Fld.DRV_EN_PULL_A else Fld.DRV_EN_PULL_B) true).emit .pin 0x11 [b2n (line == 0), b2n (line == 1)]

/-- The closing sequence begins: its Galley line, then step 1, skipped where the lines are not wired (R301). -/
def State.seqStart (s : State) : State :=
  let s := { s with drv := { s.drv with failing := false } }
  let s := (s.setF Fld.DRV_CONT_RESULT 0).setF Fld.DRV_CONT_STEP 1
  let s := s.galOpen Kind.contactor 1 (s.contArgs 0)
  if s.enWired then s.seqPull 0 else s.seqStep2

/-- The sequence has ended in its last step: POWER ON, the line closed, the transition finished (R296 step 8, R301). -/
def State.seqDone (s : State) : State :=
  let s := (s.setF Fld.DRV_CONT_RESULT 0x01).setF Fld.DRV_CONT_STEP 0
  ((s.setFunc 0 2).galClose Kind.contactor true).progress

/-- Step 8: the link voltage check and ARM; a VB-2064-C ends here (R301). -/
def State.seqStep8 (s : State) : State :=
  let s := (s.setF Fld.DRV_CONT_STEP 8).galPhase Kind.contactor 8
  if s.variant == .C then s.seqDone
  else if s.getI Reg.VOTE_V_VOTED * 65536 ≤ s.getI Reg.MEAS_V_LINK * (s.getF Fld.DRV_DUTY_LIM_MAX : Int) then s.setArm true
  else s.seqFail 0x15

/-- An accepted feedback change advances the closing sequence. -/
def State.seqFb (s : State) : State :=
  match s.getF Fld.DRV_CONT_STEP with
  | 3 =>
    if !s.fbOpen 1 || !s.fbOpen 2 then s.seqFail 0x11
    else if !s.fbOpen 0 then
      if s.belowWeld Reg.MEAS_V_PRE then ((s.setF Fld.DRV_CONT_STEP 4).galPhase Kind.contactor 4).setCmd 3
      else s.seqFail 0x11
    else s
  | 4 =>
    if !s.fbOpen 1 then
      { ((s.setF Fld.DRV_CONT_STEP 5).galPhase Kind.contactor 5) with drv := { s.drv with preSamples := 0 } }
    else s
  | 6 => if !s.fbOpen 2 then ((s.setF Fld.DRV_CONT_STEP 7).galPhase Kind.contactor 7).setCmd 5 else s
  | 7 => if s.fbOpen 1 then s.seqStep8 else s
  | _ => s

/-- Step 5 in a voted sample: V_VOTED − V_PRE ≤ PRE_DONE × V_VOTED, not earlier than PRE_MIN after step 4; 100 voted
samples are 1 ms. -/
def State.seqVoted (s : State) : State :=
  if s.getF Fld.DRV_CONT_STEP != 5 then s
  else
    let n := s.drv.preSamples + 1
    let s := { s with drv := { s.drv with preSamples := n } }
    let v := s.getI Reg.VOTE_V_VOTED
    if (v - s.getI Reg.MEAS_V_PRE) * 1000 ≤ (s.getF Fld.DRV_PRE_CFG_PRE_DONE : Int) * v then
      if n < 100 * s.getF Fld.DRV_PRE_CFG_PRE_MIN then s.seqFail 0x14
      else (((s.raise Ev.DRV_PRECHARGE_DONE).setF Fld.DRV_CONT_STEP 6).galPhase Kind.contactor 6).setCmd 7
    else s

/-- A request accepted before C6 or C9 was judged is rejected after all (R28, R30): REJ_CONDITION with the check and with the TAG
and TARGET of that request, and the transition is rolled back before anything is energised. -/
def State.rejectLate (s : State) (chk : Nat) : State :=
  let s := (s.setFunc 0 0).abortTransition
  s.report s.mode.accTag s.mode.accTgt Rq.condition chk

/-- C6 has passed, or C9 has been acknowledged: the closing sequence begins when neither is awaited any more. -/
def State.seqTry (s : State) : State :=
  if s.mode.row == 3 && s.cur == Md.starting && s.power == 1 && !s.mode.waitOwt && !s.mode.waitAck
    && s.getF Fld.DRV_CONT_STEP == 0 then s.seqStart else s

/-- The open-wire test run for a request has ended (R28, C6). -/
def State.owtForModeDone (s : State) (passed : Bool) : State :=
  if s.mode.waitOwt then
    let s := { s with mode := { s.mode with waitOwt := false } }
    if passed then s.seqTry else s.rejectLate 6
  else s

/-! ### Drive link and PWM -/

/-- DRIVE_LINK_UP (R287). -/
def execDriveLinkUp (s : State) : Step :=
  if s.live && s.variant != .C then
    .next ((s.setF Fld.DRV_LINK_STATE 2).raise Ev.DRV_LINK_UP).pwmRefresh
  else .next s

/-- DRIVE_LINK_LOST (R287): the link is not UP, so PWM is inhibited (R285). -/
def execDriveLinkLost (s : State) : Step :=
  if s.live && s.variant != .C then
    .next ((s.setF Fld.DRV_LINK_STATE 3).raise Ev.DRV_LINK_LOST).pwmRefresh
  else .next s

/-- A valid STATUS, and feedback that advances a sequence, as arrivals that a timeout of the same cycle yields to (R292, R302). -/
abbrev statusKey : Nat := 4
abbrev fbKey : Nat := 5

/-- STATUS_TIMEOUT (R292): no valid STATUS for 5 ms; a holder with POWER not OFF hands the safety complex a Full Stop demand. -/
def execStatusTimeout (s : State) : Step :=
  if s.live && s.variant != .C && !s.arrivedNow statusKey then
    let s := (s.raiseInt Pg.DRV 33 4).raise Ev.DRV_LINK_LOST
    .next (if s.drv.imprint && s.power != 0 then s.setCause 0x0C else s)
  else .next s

/-- RENEW_SEND (R289): the holder's periodic RENEW. -/
def execRenewSend (s : State) : Step := .next (if s.live then s.sendRenew else s)

/-- WATCH_SEND (R289): a module without the Imprint sends WATCH. -/
def execWatchSend (s : State) : Step :=
  if s.live && s.variant != .C && !s.drv.imprint then
    .next (s.driveMsg 0x04 [])
  else .next s

/-- The claim number (R290): PRIORITY above the low byte of the serial number. -/
def State.claimNum (s : State) : Nat := s.getF Fld.DRV_CLAIM_PRIORITY * 256 + s.getReg Reg.SYS_SERIAL_LO % 256

/-- A CLAIM of an edition leaves the module (R289, R290). -/
def State.sendClaim (s : State) (edition : Nat) : State :=
  let s := s.driveOut 0x01 edition (beBytes 2 s.claimNum ++ beBytes 4 (s.getReg Reg.SYS_SERIAL_HI) ++ beBytes 4 (s.getReg Reg.SYS_SERIAL_LO))
  { s with drv := { s.drv with claimPending := true, claimEdition := edition, claimNs := s.localNs } }

/-- CLAIM_REPEAT (R289): a pending CLAIM is sent again. -/
def execClaimRepeat (s : State) : Step :=
  .next (if s.live && s.variant != .C && s.drv.claimPending then s.sendClaim s.drv.claimEdition else s)

/-- A role swap has succeeded (R361): RESULT DONE, SWAP_DONE, SWAPS, its line closed. -/
def State.swapDone (s : State) : State :=
  let p := { s.pairU with swap := 0, swapDue := s.hours + 3600 * s.getF Fld.PAIR_SWAP_CFG_PERIOD_H }
  let s := ({ s with pairU := p }.setF Fld.PAIR_SWAP_STATUS_RESULT 1).countRegM Reg.PAIR_SWAPS
  (s.raise Ev.PAIR_SWAP_DONE).galClose Kind.swap true

/-- Phase `p`'s switches `t` units of 125 ps after a valley of phase 0's carrier, high side and low side; none in the inhibit state and
for an unused phase (R282, R283, R285). The carrier of phase p lags by p × PWM_PERIOD / PHASES, the high side is on for
D × PWM_PERIOD centred on its valley, and the low side is the complement with its rising edge delayed by DEAD_RISE and its falling edge
advanced by DEAD_FALL. -/
def State.pwmPair (s : State) (p t : Nat) : Option (Bool × Bool) :=
  let n := s.getReg Reg.DRV_PWM_PERIOD % 2 ^ 19
  let k := s.getF Fld.DRV_PWM_CFG_PHASES
  if !s.flag Fld.DRV_PWM_STATUS_ENABLED || k ≤ p || n == 0 then none
  else
    let lag := (divEither ((p * n : Nat) : Int) k).toNat
    let w := (divEither ((s.getReg Reg.DRV_DUTY * n : Nat) : Int) (2 ^ 23)).toNat
    let u := 2 * ((t + n - lag) % n)
    some (decide (u < w ∨ 2 * n ≤ u + w),
      decide (w + 2 * s.getF Fld.DRV_DEAD_DEAD_RISE ≤ u ∧ u + w + 2 * s.getF Fld.DRV_DEAD_DEAD_FALL < 2 * n))

/-- PWM_ENABLE (R285): at a carrier valley with no cause left the pairs leave inhibit; in step 8 of a closing sequence
POWER is then ON (R296). -/
def execPwmEnable (s : State) : Step :=
  if s.live && s.variant != .C && s.pwmCauses == 0 && !s.flag Fld.DRV_PWM_STATUS_ENABLED then
    let s := s.pwmRefresh
    let s := (s.setB Fld.DRV_PWM_STATUS_ENABLED true).raise Ev.DRV_PWM_ENABLED
    let s := if s.getF Fld.DRV_CONT_STEP == 8 then s.seqDone else s
    .next (if s.pairU.swap == 4 then s.swapDone else s)
  else .next s

/-- DRIVE_EN_CHANGE (R293): a line (0 A, 1 B) reads a new level; low without this module pulling it is cause EN_LOW_EXT. -/
def execDriveEnChange (line : Nat) (high : Bool) (s : State) : Step :=
  if s.live then
    let f := if line == 0 then Fld.DRV_EN_LEVEL_A else Fld.DRV_EN_LEVEL_B
    let s := (s.setB f high).raiseInt Pg.DRV 34 5
    let ext := (!s.flag Fld.DRV_EN_LEVEL_A && !s.flag Fld.DRV_EN_PULL_A && line == 0 && !high)
      || (!s.flag Fld.DRV_EN_LEVEL_B && !s.flag Fld.DRV_EN_PULL_B && line != 0 && !high)
    let s := if ext then s.setCause 0x0D
      else if (s.flag Fld.DRV_EN_LEVEL_A || s.flag Fld.DRV_EN_PULL_A) && (s.flag Fld.DRV_EN_LEVEL_B || s.flag Fld.DRV_EN_PULL_B)
      then s.dropCause 0x0D
      else s
    .next s.pwmRefresh
  else .next s

/-- DRIVE_EN_TEST (R296 step 1, R301): the pull of a line ends; it must have read low, and read high after release, with
STATUS showing it where there is a drive link. -/
def execDriveEnTest (readLow readHigh : Bool) (s : State) : Step :=
  if s.live && s.getF Fld.DRV_CONT_STEP == 1 then
    let line := s.drv.enLine
    let s := s.setB (if line == 0 then Fld.DRV_EN_PULL_A else Fld.DRV_EN_PULL_B) false
    let s := (s.setB (if line == 0 then Fld.DRV_EN_LEVEL_A else Fld.DRV_EN_LEVEL_B) readHigh).emit .pin 0x11 [0, 0]
    let shown := s.variant == .C || bitOf (s.getF Fld.DRV_OS_STATUS_READY) (2 + line)
    if readLow && readHigh && shown then .next (if line == 0 then s.seqPull 1 else s.seqStep2)
    else .next (s.seqFail 0x10)
  else .next s

/-! ### Contactors -/

/-- The contactors that the accepted feedback does not confirm open, bits as CONT. -/
def State.closedBits (s : State) : Nat := 7 - s.getF Fld.SIO_FB_ACCEPTED

/-- What follows an accepted change of feedback (R326): the views of it, the insulation monitor's suspension (R180), the
closing or opening sequence, the end of a transition. -/
def State.fbAccept (s : State) (acc : Nat) : State :=
  let s := (s.setF Fld.SIO_FB_ACCEPTED acc).raiseInt Pg.SIO 34 2
  let s := (s.setF Fld.DRV_CONT_FB (7 - acc)).setB Fld.MODE_STATE_CONTACTORS (acc != 7)
  let t := s.imdRefresh.seqFb.openAdvance
  if t.getReg Reg.DRV_CONT == s.getReg Reg.DRV_CONT then t else t.arrive fbKey

/-- The state that three equal consecutive samples of an input establish, else the accepted one (R326). -/
def accept3 (hist : List Nat) (old i : Nat) : Nat :=
  match hist with
  | a :: b :: c :: _ => if bitOf a i == bitOf b i && bitOf b i == bitOf c i then b2n (bitOf a i) else b2n (bitOf old i)
  | _ => b2n (bitOf old i)

/-- FB_SAMPLE (R326): one 1 kHz sample of FB_NEG, FB_PRE, FB_POS; energised means open. -/
def execFbSample (neg pre pos : Bool) (s : State) : Step :=
  if s.live then
    let w := b2n neg + 2 * b2n pre + 4 * b2n pos
    let s := s.setF Fld.SIO_FB_SAMPLE w
    let hist := (w :: s.safe.fbHist).take 3
    let s := { s with safe := { s.safe with fbHist := hist } }
    let old := s.getF Fld.SIO_FB_ACCEPTED
    let acc := accept3 hist old 0 + 2 * accept3 hist old 1 + 4 * accept3 hist old 2
    let s := if acc == old then s else s.fbAccept acc
    let s := if s.closedBits == s.getF Fld.DRV_CONT_CMD then s.dropCause 0x10 else s
    .next s.progress
  else .next s

/-- CONT_STEP_TIMEOUT (R297, R298): a contactor gave no feedback in time. In a closing step the sequence fails with
CLOSE_FAIL; in an opening the weld is reported, the other series contactor opens, and cause CONTACTOR_WELD is active. -/
def execContStepTimeout (s : State) : Step :=
  if s.live then
    let st := s.getF Fld.DRV_CONT_STEP
    if s.arrivedNow fbKey then .next s
    else if st == 3 || st == 4 || st == 6 || st == 7 then .next ((s.raiseInt Pg.DRV 35 4).seqFail 0x12)
    else if st == 9 && !s.allOpen then
      let s := (s.raiseInt Pg.DRV 35 4).raise Ev.DRV_CONTACTOR_WELD
      let s := (s.setB Fld.DRV_CONT_WELD true).setF Fld.DRV_CONT_RESULT 0x18
      .next ((s.setCmd 0).setCause 0x11)
    else .next s
  else .next s

/-- PRE_TIMEOUT (R297): pre-charge has not completed in time. -/
def execPreTimeout (s : State) : Step :=
  if s.live && s.getF Fld.DRV_CONT_STEP == 5 then .next ((s.raiseInt Pg.DRV 36 4).seqFail 0x13)
  else .next (s.lateTimeout Pg.DRV 36 Ev.DRV_PRECHARGE_DONE)

/-- GATES_TIMEOUT (R297): gates are not reported switching within 12 ms of ARM. -/
def execGatesTimeout (s : State) : Step :=
  if s.live && s.getF Fld.DRV_CONT_STEP == 8 && s.drv.arm then .next ((s.raiseInt Pg.DRV 37 4).seqFail 0x16)
  else .next s

/-- FB_DISAGREE (R295): the stage's CONT_FB has disagreed with the feedback contacts for 100 ms. -/
def execFbDisagree (s : State) : Step :=
  if s.live && s.getF Fld.DRV_OS_STATUS_CONT_FB % 8 != s.closedBits then .next (s.raise Ev.DRV_FB_DISAGREE) else .next s

/-- CONT_UNEXPECTED (R327): a contactor's accepted state has differed from its steady command for 10 ms. -/
def execContUnexpected (s : State) : Step :=
  if s.live && s.closedBits != s.getF Fld.DRV_CONT_CMD then .next ((s.raise Ev.SIO_FB_UNEXPECTED).setCause 0x10) else .next s

/-- FB_TEST_GAP (R328): the inputs sampled inside a gap of FB_SUPPLY; an input that reads energised is shorted. Cause FB_TEST
lasts until three gaps in a row pass. -/
def execFbTestGap (reads : Nat) (s : State) : Step :=
  if s.live then
    let r := reads % 8
    let s := s.setF Fld.SIO_FB_TEST_GAPS (s.getF Fld.SIO_FB_TEST_GAPS + 1)
    let s := s.setF Fld.SIO_FB_TEST_FAIL r
    if r != 0 then
      let s := { s with safe := { s.safe with fbTestPass := 0 } }
      .next ((s.raise Ev.SIO_FB_TEST_FAIL).setCause 0x16)
    else
      let n := s.safe.fbTestPass + 1
      let s := { s with safe := { s.safe with fbTestPass := min n 3 } }
      .next (if 3 ≤ n then s.dropCause 0x16 else s)
  else .next s

/-! ### Current reduction in the VB-2064-C -/

/-- CUR_REDUCE_REPEAT (R300): the request is repeated every 10 ms until the current magnitude falls below 5 A. -/
def execCurReduceRepeat (s : State) : Step :=
  if s.live && s.variant == .C && s.safe.carrierReq then
    if s.below5 then .next { s with safe := { s.safe with carrierReq := false } }
    else .next (s.announce 0x06 (s.getF Fld.SAFE_STATE_FIRST_CAUSE)
      ((if s.flag Fld.SAFE_STATE_FS_ACTIVE then 400 else s.getReg Reg.MODE_STOP_LIMIT) * 65536))
  else .next s

/-- The plant of a VB-2064-C has missed the envelope or the deadline: DRIVE_EN dropped and the contactors opened at once,
under load (R300). -/
def State.reduceMissed (s : State) : State :=
  let s := s.raise Ev.SAFE_RAMP_FAILED
  let s := (s.removeDrive true).loadOpen
  { s.openContactors with safe := { s.openContactors.safe with carrierReq := false } }

/-- CUR_REDUCE_DEADLINE (R300): the ramp deadline of a Full Stop passes with the current still up. -/
def execCurReduceDeadline (s : State) : Step :=
  if s.live && s.variant == .C && s.flag Fld.SAFE_STATE_FS_ACTIVE && s.power != 0 && s.getF Fld.DRV_CONT_STEP != 9 then
    .next (s.raiseInt Pg.SAFE 35 4).reduceMissed.progress
  else .next s

/-- The plant accepts or refuses the connect request of a VB-2064-C (R300, R451): C9 passes, or the request is rejected. -/
def State.connectAck (s : State) (accept : Bool) : State :=
  if s.variant == .C && s.mode.waitAck && s.cur == Md.starting then
    if accept then { s with mode := { s.mode with waitAck := false } }.seqTry else s.rejectLate 9
  else s

/-- CONNECT_ACK (R451): the command arrives on a CAN controller. -/
def execConnectAck (can : Nat) (accept : Bool) (s : State) : Step :=
  .next (if s.live then (s.raise (Ev.CAN_CONNECT_ACK (can % 2))).connectAck accept else s)

/-- CONNECT_TIMEOUT (R300): no acknowledgement within 1 s; the request is rejected with CHECK 9. -/
def execConnectTimeout (s : State) : Step :=
  if s.live && s.mode.waitAck && s.cur == Md.starting then .next ((s.raiseInt Pg.MODE 35 4).rejectLate 9)
  else .next s

/-! ### Lease-independent stops -/

/-- FS_RAMP_DEADLINE (R317): the deadline of the ramp passes before the current is below 5 A; RAMP_FAILED, no-ramp path. -/
def execFsRampDeadline (s : State) : Step :=
  if s.live && s.flag Fld.SAFE_STATE_FS_ACTIVE && !s.flag Fld.SAFE_STATE_NO_RAMP && s.power != 0
      && s.getF Fld.DRV_CONT_STEP != 9 then
    let s := s.raiseInt Pg.SAFE 34 4
    if s.variant == .C then .next s.reduceMissed.progress
    else .next ((s.raise Ev.SAFE_RAMP_FAILED).noRampPath)
  else .next s

/-- FS_NO_RAMP_FALLBACK (R318, R267): 200 ms after drive removal the contactors open regardless of current; with 5 A or more,
or without a valid current, this is an opening under load. -/
def execFsNoRampFallback (s : State) : Step :=
  if s.live && s.flag Fld.SAFE_STATE_FS_ACTIVE && s.flag Fld.SAFE_STATE_NO_RAMP && s.power != 0
      && s.getF Fld.DRV_CONT_STEP != 9 then
    let s := s.raiseInt Pg.SAFE 36 4
    let s := if s.flag Fld.VOTE_CH_STATE_CUR_VALID && s.below5 then s else s.loadOpen
    .next s.openContactors.progress
  else .next s

end Sys2Proof.Machine
end

