-- ==== Sys2Proof/Machine/Restart.lean ====
section
/-! DEFINITION. Entering reset (R68, R69): what every restart kind does to the state, and what survives it. -/

namespace Sys2Proof.Machine

/-- What a restart keeps of a position: the marks of R144 and R157, which MRAM holds. -/
def Position.marks (p : Position) : Position :=
  { Position.reset with
    suspect := p.suspect, pairs := p.pairs, singles := p.singles, proofFault := p.proofFault, stuck := p.stuck }

/-- Reset is asserted with the cause that the next start reports (R68): the whole state is the reset state, but for MRAM
content (Plant Record, MRAM words, event recorder ring, Galley slots), factory values and fuses, what is outside the chip, and the
model's own fields; LOCK_COUNT runs on from power-on (R83); every output is de-energised (R69). -/
def State.enterReset (s : State) (cause source : Nat) : State :=
  let r := State.reset
  let r := { r with
    pending := s.pending, variant := s.variant, record := s.record, freeCtr := s.freeCtr,
    sent := ⟨.pin, 0x00, []⟩ :: s.sent,
    evr := { r.evr with ring := s.evr.ring }, gal := s.gal,
    est := { r.est with
      basis := s.est.basis, shadows := s.est.shadows, shadowAt := s.est.shadowAt, suspects := s.est.suspects, staged := s.est.staged,
      reinit := s.est.reinit },
    aux := { r.aux with step4 := s.aux.step4, hold := 0 },
    asy := { r.asy with tcals := s.asy.tcals, tcalAt := s.asy.tcalAt },
    upd := { r.upd with
      nextStart := s.upd.nextStart, app := s.upd.app, safe := s.upd.safe, floors := s.upd.floors, recIfs := s.upd.recIfs,
      store := s.upd.store },
    cyc := { r.cyc with shadow := s.cyc.shadow, retains := s.cyc.retains, unsealed := s.cyc.restart.isSome && s.cyc.writing.isSome },
    mram := { s.mram with regs := s.mram.regs.set Reg.SYS_HOURS (BitVec.ofNat 32 s.hours) },
    chain := { r.chain with pos := s.chain.pos.map Position.marks } }
  let r := factoryFlds.foldl (fun (r : State) (f : Fld) => r.setF f (s.getF f)) r
  let r := if cause == 1 then r else r.setF Fld.CLK_PLL_LOCK_COUNT (satU 16 (s.getF Fld.CLK_PLL_LOCK_COUNT + 1))
  let r := r.setF Fld.SYS_RESET_CAUSE_CAUSE cause
  let r := r.setF Fld.SYS_RESET_CAUSE_WAKE_SRC source
  { r with phase := .held }

/-- A clock or watchdog fault asserts reset (R66, R67): CLOCK and CODE go to CLK.LAST_FAULT in MRAM first. -/
def State.faultReset (s : State) (cause clock code : Nat) : State :=
  let s := ((s.setF Fld.CLK_LAST_FAULT_CLOCK clock).setF Fld.CLK_LAST_FAULT_CODE code).toMram Reg.CLK_LAST_FAULT
  let s := s.enterReset cause 0
  { s with aux := { s.aux with faultSeen := true } }

/-- The module leaves DORMANT by a bit of WAKE_EN (R40): the start-up sequence follows; SLOW_COUNT is the stay in cycles of the
32.768 kHz oscillator; bit 7 is row 14 of R27. -/
def State.wakeUp (s : State) (bit : Nat) : State :=
  let slow := (s.localNs - s.dormantAt) * 32768 / 1000000000
  let s := (s.enterReset 7 (2 ^ bit)).setReg Reg.CLK_SLOW_COUNT slow
  let s := { s with aux := { s.aux with oscCheck := true } }
  (s.raise Ev.MODE_WAKE).raiseIf (bit == 7) Ev.BAL_FLOOP_LOSS

end Sys2Proof.Machine
end

