-- ==== Sys2Proof/Machine/Clock.lean ====
section
/-! DEFINITION. One tick of CLK_TB (R429): what happens with time when no command waits (assumption log 2). -/

namespace Sys2Proof.Machine

/-- INCR of the time unit (R429): 8 integer and 32 fraction bits of ns. -/
def State.incr (s : State) : Nat := s.getReg Reg.TIME_INCR_HI % 256 * 2 ^ 32 + s.getReg Reg.TIME_INCR_LO

/-- The time unit's count moves by a signed number of ns and 2^-32 ns, wrapping at 64 bits; wraps of its low 32 bits are
counted for TIME_WRAPS of the event recorder (R416). -/
def State.timeAdd (s : State) (ns : Nat) (frac : Nat) : State :=
  let f := s.time.frac + frac
  let n := s.time.now + ns + f / 2 ^ 32
  { s with
    time := { s.time with now := n % 2 ^ 64, frac := f % 2 ^ 32 },
    comp := { s.comp with wraps := s.comp.wraps + (n / 2 ^ 32 - s.time.now / 2 ^ 32) } }

/-- The remaining seconds of ELLIPSIS count down (R322). -/
def State.ellTick (s : State) : State :=
  if s.flag Fld.SAFE_STATE_ELLIPSIS then
    let left := s.safe.ellLeftNs - 4
    { (s.setReg Reg.SAFE_ELL_LEFT ((left + 999999999) / 1000000000)) with safe := { s.safe with ellLeftNs := left } }
  else s

/-- At every whole second LOAD_PCT shows the use of the partner line over the second that ends (R481; assumption log 109). -/
def State.loadTick (s : State) : State :=
  if s.localNs % 1000000000 == 0 then
    { s.setF Fld.PLNK_LINK_LOAD_PCT (min 100 (s.eth.txUsed / 10000000)) with eth := { s.eth with txUsed := 0 } }
  else s

/-- One CLK_TB tick of 4 ns, two CLK_FAB cycles: local time and, while the module runs, the time unit, the count of ELLIPSIS, the
partner line. -/
def State.tick (s : State) : State :=
  let s := { s with ticks := s.ticks + 1, comp := { s.comp with cycle := s.comp.cycle + 2, occ := [] } }
  if s.live then (s.timeAdd (s.incr / 2 ^ 32) (s.incr % 2 ^ 32)).ellTick.loadTick.plnkLine else s

end Sys2Proof.Machine
end

