-- ==== Sys2Proof/Machine/TimeCore.lean ====
section
/-! DEFINITION. The time unit's shared operations (R429 to R440): the servo's states, steps, pair alignment, launch times,
compatibility bases. The servo's gains are not stated, so the increment that it sets is a free value within its limits
(assumption log 82). -/

namespace Sys2Proof.Machine

/-- States of the servo (R434). -/
abbrev Ts.free : Nat := 0
abbrev Ts.listening : Nat := 1
abbrev Ts.acquiring : Nat := 2
abbrev Ts.locked : Nat := 3
abbrev Ts.holdover : Nat := 4
abbrev Ts.pairFollow : Nat := 5

/-- TIME.SYNC_STATE.STATE. -/
def State.sync (s : State) : Nat := s.getF Fld.TIME_SYNC_STATE_STATE

/-- The nominal increment of 4 ns and its range of ±500 ppm (R429). -/
def incrNom : Nat := 0x0400000000
def incrMin : Nat := 0x03FF7CED91
def incrMax : Nat := 0x040083126F

/-- INCR takes a value. -/
def State.setIncr (s : State) (v : Nat) : State := (s.setReg Reg.TIME_INCR_LO v).setReg Reg.TIME_INCR_HI (v / 2 ^ 32 % 256)

/-- CLK.ROOT_PPB: the rate ratio while LOCKED, else 0x80000000 (R434). -/
def State.rootShow (s : State) : State :=
  if s.sync == Ts.locked then
    s.setI Reg.CLK_ROOT_PPB (divEither (((incrNom : Int) - s.time.rate) * 1000000000) s.time.rate)
  else s.setReg Reg.CLK_ROOT_PPB 0x80000000

/-- The servo enters a state: SYNCS restarts, events, ROOT_PPB (R434, R443). -/
def State.syncEnter (s : State) (v : Nat) : State :=
  let old := s.sync
  if old == v then s
  else
    let s := ((s.setF Fld.TIME_SYNC_STATE_STATE v).setF ⟨Folio.STATUS Pg.TIME, 2, 0⟩ v).setF Fld.TIME_SYNC_STATE_SYNCS 0
    let s := { s with time := { s.time with lockRun := 0, stepRun := [], slewing := false } }
    let s := (s.raiseIf (old == Ts.locked) Ev.TIME_SYNC_LOST).raiseIf (v == Ts.locked) Ev.TIME_LOCKED
    (s.raiseIf (v == Ts.holdover) Ev.TIME_HOLDOVER).rootShow

/-- The module follows its partner's count: in a pair with SOURCE PTP, all but the holder, or role A before any Imprint is
held (R437). -/
def State.pairFollower (s : State) : Bool :=
  s.pair && s.variant != .C && s.pstate != Ps.holder
  && !(s.getF Fld.PAIR_STATE_ROLE == 0 && (s.pstate == Ps.init || s.pstate == Ps.claiming) && s.pairU.partnerState != Ps.holder)

/-- The state follows SOURCE and the module's part in the pair (R434, R437). -/
def State.timeRole (s : State) : State :=
  if s.getF Fld.TIME_SYNC_CTL_SOURCE != 1 then s.syncEnter Ts.free
  else if s.pairFollower then (if s.sync == Ts.holdover then s else s.syncEnter Ts.pairFollow)
  else if s.sync == Ts.pairFollow then s.syncEnter Ts.acquiring
  else if s.sync == Ts.free then s.syncEnter Ts.listening
  else s

/-! ### Steps (R435, R436) -/

/-- The count steps by a signed number of ns, wrapping at 64 bits. -/
def State.stepBy (s : State) (d : Int) : State :=
  let s := { s with time := { s.time with now := toU 64 ((s.time.now : Int) + d), lockRun := 0, stepRun := [] } }
  ((s.setReg Reg.TIME_LAST_STEP_NS (toU 32 (satS 32 d))).countUp Reg.TIME_STEPS).raiseA Ev.TIME_STEPPED (toU 32 (satS 32 d))

/-- A Sync of the grandmaster, as an arrival of the present CLK_FAB cycle (R441). -/
abbrev syncKey : Nat := 11

/-- A step is permitted: POWER OFF, or ALLOW_POWERED. -/
def State.stepOk (s : State) : Bool := s.power == 0 || s.flag Fld.TIME_STEP_CTL_ALLOW_POWERED

/-- A step is refused. -/
def State.stepRefused (s : State) (d : Int) : State :=
  let s := { s with time := { s.time with stepRun := [] } }
  (s.setReg Reg.TIME_LAST_STEP_NS (toU 32 (satS 32 d))).raiseA Ev.TIME_STEP_REFUSED (toU 32 (satS 32 d))

/-- The host steps that wait are decided, with the grant of their event (R435, R441). -/
def State.stepsGranted (s : State) : State :=
  s.time.stepWait.foldl (fun (s : State) (d : Int) => if s.stepOk then s.stepBy d else s.stepRefused d)
    { s with time := { s.time with stepWait := [] } }

/-! ### The servo (R434) -/

/-- MAX_SLEW_PPM in units of INCR. -/
def State.maxSlew (s : State) : Nat := (incrNom * s.getF Fld.TIME_STEP_CTL_MAX_SLEW_PPM + 500000) / 1000000

/-- The controller sets INCR at an offset: a free rate correction in the range and a free slew within MAX_SLEW_PPM; while a
refused step is slewed away, the whole MAX_SLEW_PPM against the offset. The sum is clamped to the range. -/
def State.servo (s : State) (o : Int) : State :=
  let m := s.maxSlew
  let rate := incrMin + Config.freeValue s.freeCtr % (incrMax - incrMin + 1)
  let s := s.fresh
  let pi : Int := (Config.freeValue s.freeCtr % (2 * m + 1) : Nat) - (m : Int)
  let s := s.fresh
  let slewing := s.time.slewing && decide (1000 < o.natAbs)
  let slew := if slewing then (if 0 < o then -(m : Int) else (m : Int)) else pi
  let s := { s with time := { s.time with rate := rate, slewing := slewing } }
  s.setIncr (clampI incrMin incrMax ((rate : Int) + slew)).toNat

/-- A run of offsets beyond STEP_THR: with the CONFIRM'th the time base steps, or slews where no step may be made (R435). Where POWER
leaves OFF in the same cycle, the Sync is granted first and the step is made (R441). -/
def State.offsetFar (s : State) (o : Int) (l : List Int) : State :=
  if s.getF Fld.TIME_STEP_CTL_CONFIRM ≤ l.length then
    if s.stepOk || s.arrivedNow powerKey then s.stepBy (-o)
    else ({ s.stepRefused (-o) with time := { (s.stepRefused (-o)).time with slewing := true } }).servo o
  else { s with time := { s.time with stepRun := l } }

/-- An offset within STEP_THR moves the controller; the run of small offsets leads to LOCKED (R435). -/
def State.offsetNear (s : State) (o : Int) : State :=
  let s := ({ s with time := { s.time with stepRun := [] } }).servo o
  if s.sync == Ts.acquiring && 10 ≤ s.time.lockRun then s.syncEnter Ts.locked else s.rootShow

/-- The run of offsets within 1 µs counts this one, or ends with it (R435). -/
def State.offsetCount (s : State) (o : Int) : State :=
  { s with time := { s.time with lockRun := if o.natAbs ≤ 1000 then s.time.lockRun + 1 else 0 } }

/-- An offset beyond 10 µs takes a locked servo back to ACQUIRING (R435). -/
def State.offsetLost (s : State) (o : Int) : State :=
  if s.sync == Ts.locked && decide (10000 < o.natAbs) then s.syncEnter Ts.acquiring else s

/-- An offset enters the servo (R434, R435): the step rule beyond STEP_THR, else the controller and the run toward LOCKED. -/
def State.offsetIn (s : State) (o : Int) : State :=
  let s := ((s.setReg Reg.TIME_OFFSET_NS (toU 32 (satS 32 o))).offsetLost o).offsetCount o
  if decide (s.getReg Reg.TIME_STEP_THR < o.natAbs) && !s.time.slewing then
    s.offsetFar o (if s.time.stepRun.all (fun (x : Int) => decide ((o - x).natAbs ≤ 1000)) then o :: s.time.stepRun else [o])
  else s.offsetNear o

/-! ### Pair alignment (R437) -/

/-- PAIR_ALIGN takes a value; LOCKED raises PAIR_ALIGNED. -/
def State.pairAlign (s : State) (v : Nat) : State :=
  let old := s.getF Fld.TIME_SYNC_STATE_PAIR_ALIGN
  (s.setF Fld.TIME_SYNC_STATE_PAIR_ALIGN v).raiseIf (v == 3 && old != 3) Ev.TIME_PAIR_ALIGNED

/-- The offset that one exchange gives (R437), in eighths of a ns, as the receive times have a resolution of 0.25 ns (R431): own time
minus the partner's. `rx` and `peerRx` are receive times of the partner's heartbeat and of the module's own, in quarters of a ns. -/
def pairOffset (rx sentPartner peerRx sentOwn : Nat) : Int :=
  sInt 34 (toU 34 ((rx : Int) - 4 * sentPartner)) - sInt 34 (toU 34 ((peerRx : Int) - 4 * sentOwn))

/-- An exchange with the partner gives an offset in eighths of a ns; the mean of 16 sets PAIR_OFS_NS and PAIR_ALIGN, and a follower's
servo. -/
def State.pairExchange (s : State) (o : Int) : State :=
  let s := if s.sync == Ts.holdover && s.pairFollower then s.syncEnter Ts.pairFollow else s
  let l := o :: s.time.ofs
  if l.length < 16 then
    let s := { s with time := { s.time with ofs := l } }
    if s.getF Fld.TIME_SYNC_STATE_PAIR_ALIGN == 0 then s.pairAlign 1 else s
  else
    let mean := divEither l.sum 128
    let s := { s with time := { s.time with ofs := [] } }.setReg Reg.TIME_PAIR_OFS_NS (toU 32 (satS 32 mean))
    let s := s.pairAlign (if l.sum.natAbs ≤ 256 then 3 else if l.sum.natAbs ≤ 64000 then 2 else 1)
    if s.sync == Ts.pairFollow then s.offsetIn mean else s

/-- Both heartbeat paths are LOST: alignment ends; a follower goes to HOLDOVER. -/
def State.pairUnaligned (s : State) : State :=
  let s := { s with time := { s.time with ofs := [] } }.pairAlign 0
  if s.sync == Ts.pairFollow then (s.syncEnter Ts.holdover).raise Ev.TIME_PAIR_UNALIGNED else s

/-! ### Launch times (R438) -/

/-- `now − L` as a signed 32-bit value. -/
def State.sinceLaunch (s : State) (l : Nat) : Int := sInt 32 (toU 32 ((s.stamp : Int) - l))

/-- L is in the future. -/
def State.future (s : State) (l : Nat) : Bool :=
  let d := toU 32 ((l : Int) - s.stamp)
  0 < d && d < 2 ^ 31

/-- A late launch is counted and raised. -/
def State.launchLate (s : State) : State := (s.countReg Reg.TIME_LAUNCH_LATE).raise Ev.TIME_LAUNCH_LATE

/-- A trigger acts: TRIG_FIRED, and a pulse on its pin where OUT and GPIO_DIR say so. -/
def State.trigFire (s : State) (n : Nat) : State :=
  let s := { s with time := { s.time with armed := s.time.armed.set n false } }.raiseA Ev.TIME_TRIG_FIRED n
  if bitOf (s.getF Fld.TIME_TRIG_CTL_OUT) n && bitOf (s.getReg Reg.AUX_GPIO_DIR) n then
    { s with time := { s.time with pulse := s.time.pulse.set n true } }.emit .pin (0x30 + n) [1]
  else s

/-- An enabled trigger whose launch time is first considered and not in the future is late: it acts at once. -/
def State.trigConsider (s : State) (n : Nat) : State :=
  if bitOf (s.getF Fld.TIME_TRIG_CTL_EN) n && (s.time.armed[n]?).getD false && !s.future (s.getReg (Reg.TIME_TRIG n)) then
    s.launchLate.trigFire n
  else s

/-- An enabled, armed trigger whose launch time the count has reached. -/
def State.trigDue (s : State) (n : Nat) : Bool :=
  bitOf (s.getF Fld.TIME_TRIG_CTL_EN) n && (s.time.armed[n]?).getD false && decide (0 ≤ s.sinceLaunch (s.getReg (Reg.TIME_TRIG n)))

/-- A trigger acts at its launch time; one that a step of the count has passed over is late (R438). -/
def State.trigLaunch (s : State) (n : Nat) : State :=
  if decide (s.sinceLaunch (s.getReg (Reg.TIME_TRIG n)) ≤ 4) then s.trigFire n else s.launchLate.trigFire n

/-- A write of a trigger's L arms it again; a trigger that is due in the same cycle acts first (R441). -/
def State.trigWrite (s : State) (n value : Nat) : State :=
  let s := if s.trigDue n then s.trigLaunch n else s
  ({ s with time := { s.time with armed := s.time.armed.set n true } }.setReg (Reg.TIME_TRIG n) value).trigConsider n

/-- A write of TRIG_CTL: WIDTH_US within 1 to 1,000; triggers newly enabled are considered. -/
def State.trigCtl (s : State) (value : Nat) : State :=
  let w := bitsOf value 31 16
  let old := s.getF Fld.TIME_TRIG_CTL_EN
  let s := (s.setReg Reg.TIME_TRIG_CTL value).setF Fld.TIME_TRIG_CTL_WIDTH_US
    (if 1 ≤ w && w ≤ 1000 then w else s.getF Fld.TIME_TRIG_CTL_WIDTH_US)
  [0, 1, 2, 3].foldl (fun (s : State) (n : Nat) => if bitOf old n then s else s.trigConsider n) s

/-! ### Compatibility bases (R440) -/

/-- ns in one UNIT. -/
def compatNs (ctl : Nat) : Nat := [1, 10, 100, 1000].getD (bitsOf ctl 3 2) 1000

/-- The local time base in ns (R387): CLK_TB corrected by CLK.CAL_PPB. -/
def State.localBase (s : State) : Nat :=
  s.aux.baseNs + (((s.localNs - s.aux.baseAt : Nat) : Int) * (1000000000 + s.getI Reg.CLK_CAL_PPB) / 1000000000).toNat

/-- The source's ns of a base. -/
def State.compatSrc (s : State) (ctl : Nat) : Nat := if bitOf ctl 1 then s.time.now else s.localBase

/-- The value of a base: 48 bits, following steps of its source. -/
def State.compatNow (s : State) (b : Compat) : Nat :=
  if bitOf b.ctl 0 then toU 48 ((b.val : Int) + ((s.compatSrc b.ctl : Int) - b.since) / (compatNs b.ctl : Int)) else b.val

/-- The base that COMPAT_SEL names. -/
def State.compatSel (s : State) : Nat := s.getReg Reg.TIME_COMPAT_SEL % 4

/-- A base takes a CTL word: it goes on from its present value. -/
def State.compatCtl (s : State) (value : Nat) : State :=
  { s with time := { s.time with compat := s.time.compat.modify s.compatSel (fun b =>
      { ctl := value % 2 ^ 32, val := s.compatNow b, since := s.compatSrc value }) } }

/-- A write of COMPAT_LOAD_HI loads the base. -/
def State.compatLoad (s : State) (value : Nat) : State :=
  { s with time := { s.time with compat := s.time.compat.modify s.compatSel (fun b =>
      { b with val := value % 65536 * 2 ^ 32 + s.time.loadLo, since := s.compatSrc b.ctl }) } }

end Sys2Proof.Machine
end

