-- ==== Sys2Proof/Machine/App.lean ====
section
/-! DEFINITION. APP image bodies (R370 to R372), their loading, the timer slots (R388, R394), program shadows and retentive
copies (R391, R392), and the warm restart that waits for a shadow. -/

namespace Sys2Proof.Machine

/-- The address of an input image bank (R369). -/
def bankAddr (b : Nat) : Nat := 0x10700000 + 0x20000 * b

/-- `n` bytes of a body from offset `o`, as a little-endian number. -/
def leAt (b : List Nat) (o n : Nat) : Nat := ofLe ((b.drop o).take n)

/-- A segment of an APP body (R371). -/
structure Seg where
  kind : Nat
  size : Nat
  off : Nat
  mem : Nat
  load : Nat
  deriving DecidableEq, Repr

/-- The segments of a body. -/
def segsOf (b : List Nat) : List Seg := (List.range (leAt b 6 2)).map (fun i =>
  let o := 64 + 32 * i
  ⟨leAt b o 1, leAt b (o + 4) 4, leAt b (o + 8) 4, leAt b (o + 12) 4, leAt b (o + 16) 8⟩)

/-- The timer declarations of a body: (KIND, UNIT, PT). -/
def timersOf (b : List Nat) : List (Nat × Nat × Nat) := (List.range 64).map (fun i =>
  let o := 64 + 32 * leAt b 6 2 + 8 * i
  (leAt b o 1, leAt b (o + 1) 1, leAt b (o + 4) 4))

/-- The retentive descriptors of a body: (NAME_HASH, OFFSET, SIZE). -/
def retainsOf (b : List Nat) : List (Nat × Nat × Nat) := (List.range (leAt b 60 4)).map (fun i =>
  let o := 64 + 32 * leAt b 6 2 + 512 + 12 * i
  (leAt b o 4, leAt b (o + 4) 4, leAt b (o + 8) 4))

/-- No two of a list of intervals (start, length) overlap. -/
def disjoint : List (Nat × Nat) → Bool
  | [] => true
  | a :: t => t.all (fun b => a.2 == 0 || b.2 == 0 || a.1 + a.2 ≤ b.1 || b.1 + b.2 ≤ a.1) && disjoint t

/-- No number occurs twice. -/
def distinct : List Nat → Bool
  | [] => true
  | a :: t => !t.contains a && distinct t

/-- The CFG.PERIOD code of a period in µs (R398). -/
def periodCode : Nat → Option Nat
  | 1000 => some 0
  | 2000 => some 1
  | 5000 => some 2
  | 10000 => some 3
  | _ => none

/-- The period in µs of a code. -/
def periodUs : Nat → Nat
  | 0 => 1000
  | 1 => 2000
  | 2 => 5000
  | _ => 10000

/-- Core 1's segments lie in DRAM, the others in the policy area of SRAM (R369). -/
def segPlaced (g : Seg) : Bool :=
  if g.kind == 2 || g.kind == 7 || g.kind == 8 then 0x80000000 ≤ g.load && g.load + g.mem ≤ 0xC0000000
  else 0x10000000 ≤ g.load && g.load + g.mem ≤ 0x10600000

/-- The checks of R370 and R372 on an APP body. -/
def appOk (b : List Nat) : Bool :=
  let gs := segsOf b
  let n := leAt b 6 2
  let rc := leAt b 60 4
  let cnt := fun (k : Nat) => (gs.filter (fun g => g.kind == k)).length
  let memOf := fun (k : Nat) => ((gs.filter (fun g => g.kind == k)).map (fun g => g.mem)).sum
  let svc := leAt b 13 1 % 2
  let inSeg := fun (k a : Nat) => a % 2 == 0 && gs.any (fun g => g.kind == k && g.load ≤ a && a < g.load + g.mem)
  let per := leAt b 8 4
  let rs := retainsOf b
  b.take 4 == [0x55, 0x4E, 0x47, 0x31] && leAt b 4 2 == 1 && 1 ≤ n && n ≤ 16 && rc ≤ 1024
  && 64 + 32 * n + 512 + 12 * rc ≤ b.length && leAt b 13 1 < 2
  && gs.all (fun g => 1 ≤ g.kind && g.kind ≤ 9 && segPlaced g && g.size ≤ g.mem && g.off + g.size ≤ b.length
      && ((g.kind != 5 && g.kind != 8) || g.size == 0))
  && cnt 1 == 1 && cnt 4 == 1 && cnt 5 == 1 && cnt 2 == svc && cnt 8 == svc
  && [3, 6, 7, 9].all (fun k => cnt k ≤ 1)
  && disjoint (gs.map (fun g => (g.load, g.mem)))
  && memOf 4 + memOf 5 ≤ 524288 && 65536 ≤ memOf 5 && (svc == 0 || 65536 ≤ memOf 8) && memOf 6 ≤ 65536
  && rs.all (fun r => r.2.1 + r.2.2 ≤ memOf 6) && disjoint (rs.map (fun r => (r.2.1, r.2.2))) && distinct (rs.map (fun r => r.1))
  && [16, 24, 32, 40].all (fun o => leAt b o 8 == 0 || inSeg 1 (leAt b o 8))
  && (if svc == 1 then leAt b 48 8 == 0 || inSeg 2 (leAt b 48 8) else leAt b 48 8 == 0)
  && (periodCode per).isSome && 1 ≤ leAt b 12 1 && leAt b 12 1 ≤ 16 && leAt b 14 2 + 100 ≤ per
  && (timersOf b).all (fun t => t.1 ≤ 6 && t.2.1 ≤ 3)

/-! ### Timer slots -/

/-- ns in one UNIT (R388). -/
def unitNs : Nat → Nat
  | 0 => 1000
  | 1 => 1000000
  | 2 => 10000000
  | _ => 1000000000

/-- The time that a slot has counted at a local time, in whole units, saturating; TON, TOF and TP stop at PT (R388). -/
def Tmr.count (t : Tmr) (now : Nat) : Nat :=
  let ns := t.acc + (match t.since with | some a => now - a | none => 0)
  let n := satU 32 (ns / unitNs t.unit)
  if t.kind == 1 || t.kind == 2 || t.kind == 3 then min n t.pt else n

/-- Q of a slot at a local time (R388). -/
def Tmr.qAt (t : Tmr) (now : Nat) : Bool := match t.kind with
  | 1 => t.inp && t.pt ≤ t.count now
  | 2 => t.q && (t.inp || decide (t.count now < t.pt))
  | 3 => t.q && decide (t.count now < t.pt)
  | 4 => t.q
  | 5 => t.q
  | 6 => t.pt ≤ t.count now
  | _ => false

/-- ET of a slot at a local time (R388): a TP whose pulse has ended shows 0 while IN is 0. -/
def Tmr.et (t : Tmr) (now : Nat) : Nat := if t.kind == 3 && !t.inp && !t.qAt now then 0 else t.count now

/-- A slot after everything that time has done to it: the Q of TOF and TP falls for good, and ET of a TP holds at PT. -/
def Tmr.settle (t : Tmr) (now : Nat) : Tmr :=
  let ended := t.kind == 3 && t.q && !t.qAt now
  { t with q := t.qAt now, acc := if ended then t.pt * unitNs t.unit else t.acc, since := if ended then none else t.since }

/-- A write of IN (R388): the expiry is evaluated first, then the write. -/
def Tmr.write (t : Tmr) (b : Bool) (now : Nat) : Tmr :=
  let t := t.settle now
  let p := t.inp
  let t := { t with inp := b, prev := p }
  match t.kind with
  | 1 => if b then (if p then t else { t with acc := 0, since := some now }) else { t with acc := 0, since := none }
  | 2 => if b then { t with q := true, acc := 0, since := none } else if p then { t with acc := 0, since := some now } else t
  | 3 =>
    if b && !p && !t.q then { t with q := true, acc := 0, since := some now }
    else if !b && !t.q then { t with acc := 0, since := none }
    else t
  | 4 => { t with q := b && !p }
  | 5 => { t with q := p && !b }
  | 6 =>
    if b then (if p then t else { t with since := some now })
    else { t with acc := t.acc + (match t.since with | some a => now - a | none => 0), since := none }
  | _ => t

/-- A slot as declared (R390); ET of a TOF counts while IN is 0 (R388), so it counts from here (assumption log 117). -/
def Tmr.decl (d : Nat × Nat × Nat) (now : Nat) : Tmr :=
  { Tmr.reset with kind := d.1, unit := d.2.1, pt := d.2.2, since := if d.1 == 2 then some now else none }

/-- A slot through an exchange (R394), and whether it is retyped. -/
def Tmr.exchange (t : Tmr) (d : Nat × Nat × Nat) (now : Nat) : Tmr × Bool :=
  if t.kind == 0 then (Tmr.decl d now, false)
  else if d.1 == 0 then (Tmr.reset, false)
  else if t.kind == d.1 && t.unit == d.2.1 then ({ t with pt := d.2.2 }, false)
  else (Tmr.decl d now, true)

/-- Timer slot `i` becomes `f` of it. -/
def State.tmrMod (s : State) (i : Nat) (f : Tmr → Tmr) : State :=
  { s with cyc := { s.cyc with tmr := s.cyc.tmr.modify i f } }

/-! ### Images, segments, copies -/

/-- The CFG, version and declaration registers show an image. -/
def State.showImage (s : State) (p : Payload) : State :=
  let b := p.body
  let ts := timersOf b
  let mask := fun (l : List (Nat × Nat × Nat)) => bitsToNat (l.map (fun t => t.1 != 0))
  let s := s.setF Fld.CYC_CFG_OFFSET_US (leAt b 14 2)
  let s := (s.setF Fld.CYC_CFG_OVR_LIMIT (leAt b 12 1)).setF Fld.CYC_CFG_PERIOD ((periodCode (leAt b 8 4)).getD 0)
  let s := (s.setReg Reg.CYC_IMAGE_VERSION p.version).setReg Reg.CYC_LAYOUT_HASH (leAt b 56 4)
  let s := (s.setReg Reg.TMR_DECL_LO (mask (ts.take 32))).setReg Reg.TMR_DECL_HI (mask (ts.drop 32))
  s.setB ⟨Folio.STATUS Pg.TMR, 0, 0⟩ (ts.any (fun t => t.1 != 0))

/-- Segments of some kinds are loaded with their initial values (R371). -/
def State.loadSegs (s : State) (b : List Nat) (kinds : List Nat) : State :=
  ((segsOf b).filter (fun g => kinds.contains g.kind)).foldl (fun s g =>
    s.setBytes g.load ((b.drop g.off).take g.size ++ List.replicate (g.mem - g.size) 0)) s

/-- An image becomes the running one: its registers, its code, constants and shared data, and core 1's segments with the service
entry where it has one (R374). -/
def State.setImage (s : State) (p : Payload) : State :=
  let c := { s.cyc with image := some p, svcRuns := leAt p.body 13 1 % 2 == 1, svcTraps := [] }
  let s := ({ s with cyc := c }.showImage p).setReg Reg.UPD_APP_VERSION p.version
  s.loadSegs p.body [1, 2, 3, 7, 8, 9]

/-- The segment of a kind. -/
def segOf (b : List Nat) (k : Nat) : Option Seg := (segsOf b).find? (fun g => g.kind == k)

/-- The bytes of a segment as they stand in memory. -/
def State.segBytes (s : State) (g : Seg) : List Nat := readBytes s.ram g.load g.mem

/-- The RETAIN variables as they stand. -/
def State.retainVars (s : State) (b : List Nat) : List (Nat × List Nat) := match segOf b 6 with
  | none => []
  | some g => (retainsOf b).map (fun r => (r.1, readBytes s.ram (g.load + r.2.1) r.2.2))

/-- A copy of DATA0, BSS0 and RETAIN, not yet sealed (R391). -/
def State.takeCopy (s : State) (p : Payload) : Copy :=
  let parts := ((segsOf p.body).filter (fun g => g.kind == 4 || g.kind == 5 || g.kind == 6)).map (fun g => (g.load, s.segBytes g))
  ⟨parts, s.retainVars p.body, leAt p.body 56 4, p.version, false, s.hours⟩

/-- The program shadow is valid: sealed, with the LAYOUT_HASH of the running image (R391). -/
def State.shadowOk (s : State) : Bool := match s.cyc.shadow, s.cyc.image with
  | some c, some p => c.sealOk && c.layout == leAt p.body 56 4
  | _, _ => false

/-- The registers that show the copies. -/
def State.copyShow (s : State) : State :=
  let s := s.setB Fld.CYC_SHADOW_SHADOW_VALID s.shadowOk
  s.setB Fld.CYC_SHADOW_RETAIN_VALID (s.cyc.retains.any (fun c => c.sealOk))

/-- The retentive area takes a copy of RETAIN, sealed last; two copies alternate (R392). -/
def State.storeRetain (s : State) : State := match s.cyc.image with
  | none => s
  | some p =>
    let c := { s.takeCopy p with parts := [], sealOk := true }
    { s with cyc := { s.cyc with retains := (c :: s.cyc.retains).take 2, retainWant := false } }.copyShow

/-- RETAIN variables of a copy go to the variables of equal name and size (R392, R395). -/
def State.putRetain (s : State) (b : List Nat) (vars : List (Nat × List Nat)) : State := match segOf b 6 with
  | none => s
  | some g => (retainsOf b).foldl (fun s r => match vars.find? (fun v => v.1 == r.1 && v.2.length == r.2.2) with
    | some v => s.setBytes (g.load + r.2.1) v.2
    | none => s) s

/-- RETAIN is restored from the newest valid retentive copy; none raises RETAIN_INVALID (R392). -/
def State.restoreRetain (s : State) (b : List Nat) : State := match s.cyc.retains.find? (fun c => c.sealOk) with
  | some c => s.putRetain b c.vars
  | none => s.raise Ev.CYC_RETAIN_INVALID

/-- CYC.STATE.STATE takes a value (R375): STATE_CHANGED, HOLD_ENTER, the page's STATUS, the supervision of R382 and R383. A program that
leaves RUN with a warm restart waiting for a boundary's shadow is copied as it stands (R391). -/
def State.cycState (s : State) (v : Nat) : State :=
  let old := s.getF Fld.CYC_STATE_STATE
  if old == v then s
  else
    let s := (s.setF Fld.CYC_STATE_STATE v).setF ⟨Folio.STATUS Pg.CYC, 3, 0⟩ v
    let s := (s.raise Ev.CYC_STATE_CHANGED).raiseIf (v == 2) Ev.CYC_HOLD_ENTER
    let counts := v == 2 || (v != 1 && s.power != 0)
    let out := if v == 1 then none else if v == 2 then some s.localNs
      else if counts then (match s.cyc.outNs with | some a => some a | none => some s.localNs) else none
    let s := { s with cyc := { s.cyc with outNs := out } }
    let s := if v == 1 then s.dropCause 0x2B else s
    match s.cyc.restart.isSome && s.cyc.shadowWant && v != 1, s.cyc.image with
    | true, some p => { s with cyc := { s.cyc with shadowWant := false, writing := some (s.takeCopy p) } }
    | _, _ => s

/-- The program stops with a cause; the retentive area is written (R392). -/
def State.cycStop (s : State) (cause : Nat) : State :=
  let s := { s with cyc := { s.cyc with entry := none, late := false, skip := false, done := false, stopAt := 0, step := false } }
  ((s.cycState 0).setF Fld.CYC_STATE_STOP_CAUSE cause).storeRetain

/-! ### Starts (R389, R390) -/

/-- Every timer slot is reset to its declaration. -/
def State.declareTimers (s : State) (b : List Nat) : State :=
  { s with cyc := { s.cyc with tmr := (timersOf b).map (fun d => Tmr.decl d s.localBase) } }

/-- Initial values, RETAIN restored from the retentive area, timer slots reset (R390): START_RULE reads RETAIN where a valid copy
was found, else INITIAL. -/
def State.startRetain (s : State) (b : List Nat) : State :=
  let some' := s.cyc.retains.any (fun c => c.sealOk)
  let s := ((s.loadSegs b [4, 5, 6]).restoreRetain b).declareTimers b
  s.setF Fld.CYC_STATE_START_RULE (if some' then 2 else 3)

/-- The program starts with an init entry (none where its address is 0): RUN, the lattice follows the entry's return. -/
def State.startAt (s : State) (b : List Nat) (entry : Option Nat) : State :=
  let e := match entry with
    | some k => if leAt b (16 + 8 * k) 8 == 0 then none else some k
    | none => none
  let c := { s.cyc with entry := e, late := false, skip := false, done := false, stopAt := 0, step := false, inTime := 0 }
  (({ s with cyc := c }.setF Fld.CYC_STATE_OVR_RUN 0).setF Fld.CYC_STATE_STOP_CAUSE 0).cycState 1

/-- A start as the table of R390 states it: 0 after a restart that keeps MRAM only, 1 warm restart, 2 cold restart, 3 RUN with
RESUME, 4 with WARM, 5 with COLD. -/
def State.cycStart (s : State) (kind : Nat) : State := match s.cyc.image with
  | none => s
  | some p =>
    let b := p.body
    match kind with
    | 1 => match s.shadowOk, s.cyc.shadow with
      | true, some c =>
        let s := c.parts.foldl (fun (s : State) (q : Nat × List Nat) => s.setBytes q.1 q.2) (s.loadSegs b [4, 5, 6])
        ((s.declareTimers b).setF Fld.CYC_STATE_START_RULE 1).startAt b (some 1)
      | _, _ => ((s.raise Ev.CYC_SHADOW_INVALID).startRetain b).startAt b (some 1)
    | 3 => (s.setF Fld.CYC_STATE_START_RULE 4).startAt b none
    | 0 => (s.startRetain b).startAt b (some 1)
    | 4 => (s.startRetain b).startAt b (some 1)
    | _ =>
      let s := ({ s with cyc := { s.cyc with retains := [] } }).copyShow
      (((s.loadSegs b [4, 5, 6]).declareTimers b).setF Fld.CYC_STATE_START_RULE 3).startAt b (some 0)

/-- After step 8 of the start-up sequence the program starts by the kind of restart where AUTORUN is 1 (R389). -/
def State.autorun (s : State) : State :=
  if s.flag Fld.CYC_BOOT_AUTORUN then
    match s.getF Fld.SYS_RESET_CAUSE_CAUSE with
    | 5 => s.cycStart 1
    | 6 => s.cycStart 2
    | _ => s.cycStart 0
  else s

/-- A warm restart is asked for (R391): in RUN a fresh shadow is written from the next boundary, in STOPPED and HOLD at once,
and the reset follows its seal; in EMPTY the reset is immediate. -/
def State.restartWarm (s : State) : State :=
  match s.getF Fld.CYC_STATE_STATE, s.cyc.image with
  | 1, _ => { s with cyc := { s.cyc with restart := some 5, shadowWant := true } }
  | 3, _ => s.enterReset 5 0
  | _, some p => { s with cyc := { s.cyc with restart := some 5, writing := some (s.takeCopy p) } }
  | _, none => s.enterReset 5 0

end Sys2Proof.Machine
end

