-- ==== Sys2Proof/Machine/SafetyCmds.lean ====
section
/-! DEFINITION. The commands of *Margins, Full Stop and Ellipsis* that test and sample: lockstep (R306), self-tests (R307),
safety inputs (R323, R324), Ellipsis expiry (R322); and the crossing counts of the Margin engine (R311). -/

namespace Sys2Proof.Machine

/-- A Margin trips (R311): the first trip since POWER left OFF is kept with its cell or input, the trips are counted, the
cause becomes active. -/
def State.tripMargin (s : State) (code cell : Nat) : State :=
  let s := if s.getF Fld.MRG_TRIP_CAUSE == 0 then
      let s := s.setF Fld.MRG_TRIP_CAUSE code
      if 0x02 ≤ code && code ≤ 0x05 && s.getF Fld.MRG_TRIP_CELL == 0xFFFF then s.setF Fld.MRG_TRIP_CELL cell else s
    else s
  ((s.countF Fld.MRG_TRIP_COUNT).raiseA Ev.MRG_TRIP code).setCause code

/-- The crossing count kept under a key. -/
def countAt (cs : List (Nat × Nat)) (k : Nat) : Nat := ((cs.find? (fun e => e.1 == k)).map (·.2)).getD 0

/-- The crossing counts with `n` under a key; 0 removes it. -/
def putCount (cs : List (Nat × Nat)) (k n : Nat) : List (Nat × Nat) :=
  let cs := cs.filter (fun e => e.1 != k)
  if n == 0 then cs else (k, n) :: cs

/-- One evaluation of a Margin (R311) for a cause code and a cell, input or quantity: a crossing counts up to `n` and trips
there; a sample without one ends it, and the cause ceases when no crossing of its code persists. -/
def State.marginCheck (s : State) (code cell n : Nat) (crossing : Bool) : State :=
  let k := code * 65536 + cell
  let c := countAt s.safe.crossings k
  if crossing then
    if n ≤ c then s
    else
      let s := { s with safe := { s.safe with crossings := putCount s.safe.crossings k (c + 1) } }
      if c + 1 == n then s.tripMargin code cell else s
  else if c == 0 then s
  else
    let s := { s with safe := { s.safe with crossings := putCount s.safe.crossings k 0 } }
    if s.safe.crossings.any (fun e => e.1 / 65536 == code && n ≤ e.2) then s else s.dropCause code

/-- LOCKSTEP (R306): the lockstep cores diverge or the memory reports an uncorrectable error; the no-ramp path starts, and
the safety-commanded reset is held back. -/
def execLockstep (s : State) : Step :=
  if s.live then
    let s := (s.setB Fld.SAFE_STATE_LOCKSTEP_OK false).raise Ev.SAFE_LOCKSTEP
    let s := { s with safe := { s.safe with lockstepHold := true }, mram := { s.mram with lockstepSeen := true } }
    .next (s.setCause 0x15)
  else .next s

/-- LOCKSTEP_RESET_HOLD (R306): the contactors are confirmed open, or 300 ms have passed; the held reset asserts. -/
def execLockstepResetHold (s : State) : Step :=
  if s.live && s.safe.lockstepHold then .next (s.enterReset 0x4 0) else .next s

/-- ECC_CORRECTED (R306): a correctable memory error is counted. -/
def execEccCorrected (s : State) : Step :=
  .next (if s.live then (s.countF Fld.SAFE_ECC_CORRECTED).raise Ev.SAFE_ECC_CORRECTED else s)

/-- MARGIN_SELFTEST (R307): one round over every comparator bank; a wrong result is cause MARGIN_TEST until a test passes. -/
def execMarginSelftest (failBank : Option Nat) (s : State) : Step :=
  if s.live then
    let s := s.setF Fld.MRG_SELFTEST_RUNS (s.getF Fld.MRG_SELFTEST_RUNS + 1)
    match failBank with
    | some b =>
      let s := (s.setF Fld.MRG_SELFTEST_FAIL_BANK b).setF Fld.MRG_SELFTEST_RESULT 2
      .next ((s.raise Ev.MRG_SELFTEST_FAIL).setCause 0x13)
    | none =>
      let s := (s.setF Fld.MRG_SELFTEST_FAIL_BANK 0xFF).setF Fld.MRG_SELFTEST_RESULT 1
      .next (s.dropCause 0x13)
  else .next s

/-- The 71 words of the configuration CRC with their SO masks, in the order of R307. -/
def cfgWords : List (Nat × Nat) :=
  [(Reg.VOTE_CUR_THR, 0xFFFFFFFF), (Reg.VOTE_V_THR, 0xFFFFFFFF), (Reg.VOTE_READMIT, 0x1FFFF),
   (Reg.VOTE_SUM_CFG, 0xFFFFFFFF), (Reg.VOTE_DELAY_C, 0x1FFF), (Reg.MRG_I_MAX, 0xFFFFFFFF), (Reg.MRG_VSTR, 0xFFFFFFFF),
   (Reg.MRG_FILT, 0xFFFFFFFF), (Reg.MRG_DIR_BAND, 0xFFFF), (Reg.MRG_ELL_PERMIT, 0xFFF), (Reg.MRG_UNMON_MAX, 0x3F)]
  ++ (List.range 48).map (fun i => (Reg.MRG_SET_MARGIN 0 + 4 * i, 0xFFFFFFFF))
  ++ [(Reg.SAFE_ELL_CFG, 0xFFFFFFFF)]
  ++ (List.range 8).map (fun i => (Reg.SIO_CFG i, 0x3FF003F))
  ++ [(Reg.PROF_STOP_RATE, 0xFFFFFFFF), (Reg.PROF_STOP_ACCEL, 0xFFFFFFFF), (Reg.PROF_STOP_JERK, 0xFFFFFFFF)]

/-- The configuration CRC of R307. -/
def State.cfgCrc (s : State) : Nat :=
  crc32 (cfgWords.flatMap (fun (p : Nat × Nat) => leBytes 4 (s.getReg p.1 &&& p.2)))

/-- CFG_CRC_CHECK (R307): the CRC is computed and compared with the Plant Record's; a difference is cause CFG_CRC. -/
def execCfgCrcCheck (s : State) : Step :=
  if s.live then
    let s := s.setReg Reg.MRG_CFG_CRC s.cfgCrc
    if s.getReg Reg.MRG_CFG_CRC == s.getReg Reg.MRG_PR_CRC then .next (s.dropCause 0x14)
    else .next ((s.raiseIf (!s.causeOn 0x14) Ev.MRG_CFG_CRC_FAIL).setCause 0x14)
  else .next s

/-- ELLIPSIS_EXPIRY (R322): the timer of ELLIPSIS expires and a Full Stop starts. -/
def execEllipsisExpiry (s : State) : Step :=
  if s.live && s.flag Fld.SAFE_STATE_ELLIPSIS && s.cur == Md.ellipsis then
    let s := (s.raise Ev.SAFE_ELL_EXPIRED).setReg Reg.SAFE_ELL_LEFT 0
    .next (({ s with safe := { s.safe with ellLeftNs := 0 } }).setCause 0x12)
  else .next s

/-! ### Safety inputs (R323, R324) -/

/-- What a pair's two channels read under its type: 0 RUN, 1 STOP, 2 mismatch (R323). -/
def pairReads (type : Nat) (a b : Bool) : Nat :=
  if type == 1 then (if a && !b then 0 else if !a && b then 1 else 2)
  else (if a && b then 0 else if !a && !b then 1 else 2)

/-- State codes of a pair (R338). -/
abbrev Sio.run : Nat := 0
abbrev Sio.stop : Nat := 1
abbrev Sio.mismatch : Nat := 2
abbrev Sio.discFault : Nat := 3

/-- The pair state field of pair `i`. -/
def sioFld (i : Nat) : Fld := ⟨Reg.SIO_STATE, 2 * i + 1, 2 * i⟩

/-- Pair `i` takes a state, with the event of entering it. -/
def State.sioEnter (s : State) (i st : Nat) : State :=
  if s.getF (sioFld i) == st then s
  else
    let s := s.setF (sioFld i) st
    s.raise (match st with
      | 0 => Ev.SIO_PAIR_RUN
      | 1 => Ev.SIO_PAIR_STOP
      | 2 => Ev.SIO_MISMATCH
      | _ => Ev.SIO_DISC_FAULT)

/-- One sample of pair `i` (R323, R324). -/
def State.sioPair (s : State) (chA chB i : Nat) : State :=
  let r := pairReads (s.getF (Fld.SIO_CFG_TYPE i)) (bitOf chA i) (bitOf chB i)
  let mis := (s.safe.sioMis[i]?).getD 0
  let rec' := (s.safe.sioRec[i]?).getD false
  let put := fun (s : State) (m : Nat) (r : Bool) =>
    { s with safe := { s.safe with sioMis := s.safe.sioMis.set i m, sioRec := s.safe.sioRec.set i r } }
  if s.getF (sioFld i) == Sio.discFault then
    if r == 0 && rec' then ((put s 0 false).raise Ev.SIO_DISC_CLEARED).sioEnter i Sio.run
    else put s 0 (rec' || r == 1)
  else if r == 2 then
    if s.getF (Fld.SIO_CFG_DISC_MS i) < mis + 1 then (put s 0 false).sioEnter i Sio.discFault
    else (put s (mis + 1) false).sioEnter i Sio.mismatch
  else (put s 0 false).sioEnter i r

/-- A pair of a function does not read RUN. -/
def State.sioStops (s : State) (f : Nat) : Bool :=
  [0, 1, 2, 3, 4, 5, 6, 7].any (fun i => s.getF (Fld.SIO_CFG_FUNCTION i) == f && s.getF (sioFld i) != 0)

/-- SIO_SAMPLE (R323): both channels of all pairs at one instant; the values act by function. -/
def execSioSample (chA chB : Nat) (s : State) : Step :=
  if s.live then
    let s := (s.setF Fld.SIO_RAW_CH_A chA).setF Fld.SIO_RAW_CH_B chB
    let s := [0, 1, 2, 3, 4, 5, 6, 7].foldl (fun s i => s.sioPair chA chB i) s
    let s := s.holdCause 0x0F (s.sioStops 1)
    let s := s.holdCause 0x28 (s.sioStops 2)
    .next (s.holdCause 0x29 ([0, 1, 2, 3, 4, 5, 6, 7].any (fun i => s.getF (sioFld i) == Sio.discFault)))
  else .next s

end Sys2Proof.Machine
end

