-- ==== Sys2Proof/Machine/Loop.lean ====
section
/-! DEFINITION. The loop engine's arithmetic and slots (R251 to R268), the duty hand-over (R284, R286) and thermal outputs
(R274). -/

namespace Sys2Proof.Machine

/-! ### Block floating point (R255, R256) -/

/-- `x / 2^k` rounded to nearest, ties away from zero. -/
def rshR (x : Int) (k : Nat) : Int :=
  let n := (x.natAbs + 2 ^ k / 2) / 2 ^ k
  if x < 0 then -(n : Int) else (n : Int)

/-- `x * 2^e`, a right shift rounded. -/
def scale2 (x e : Int) : Int := if 0 ≤ e then x * ((2 ^ e.toNat : Nat) : Int) else rshR x (-e).toNat

/-- `x` saturated to plus or minus `2^(w-1) - 1`. -/
def satSym (w : Nat) (x : Int) : Int := clampI (1 - (2 ^ (w - 1) : Int)) ((2 ^ (w - 1) : Int) - 1) x

/-- The mantissa of a value under exponent `e`. -/
def toMant (x e : Int) : Int := satSym 24 (scale2 x (-e))

/-- A term joins the 48-bit accumulator; the flag says whether any sum has saturated. -/
def accAdd (p : Int × Bool) (t : Int) : Int × Bool :=
  let v := p.1 + t
  let c := satSym 48 v
  (c, p.2 || decide (c ≠ v))

/-- Terms summed in order. -/
def accSum (ts : List Int) : Int × Bool := ts.foldl accAdd (0, false)

/-- A B-stage term in state units: coefficient mantissa `c` times the error. -/
def Bank.tB (k : Bank) (c : Nat) (e : Int) : Int := scale2 (sInt 24 c * e) (sInt 6 (bitsOf k.exp 13 8) + 1)

/-- An A-stage term in state units: coefficient mantissa `c` times the output. -/
def Bank.tA (k : Bank) (c : Nat) (y : Int) : Int := scale2 (sInt 24 c * y) (sInt 6 (bitsOf k.exp 5 0) + 1)

/-- The output limits of a bank. -/
def Bank.hi (k : Bank) : Int := sInt 24 k.outMax
def Bank.lo (k : Bank) : Int := sInt 24 k.outMin

/-- Fields of a slot's configuration. -/
def Slot.kind (x : Slot) : Nat := bitsOf x.cfg 3 0
def Slot.div (x : Slot) : Nat := bitsOf x.cfg 21 8
def Slot.src (x : Slot) : Nat := bitsOf x.cfg 29 24
def Slot.three (x : Slot) : Bool := bitOf x.cfg 4
def Slot.dst (x : Slot) : Nat := bitsOf x.route 11 8
def Slot.refSrc (x : Slot) : Nat := bitsOf x.route 3 0
def Slot.eIn (x : Slot) : Int := sInt 6 (bitsOf x.fmt 13 8)
def Slot.eOut (x : Slot) : Int := sInt 6 (bitsOf x.fmt 5 0)

/-- The preset of R261 to output `yp` with error `e` and the active bank; the flag says whether a sum saturated. -/
def Slot.preset (x : Slot) (yp e : Int) : Slot × Bool :=
  let k := x.active
  let p3 := if x.three then accSum [k.tB k.b3 e, k.tA k.a3 yp] else (0, false)
  let p2 := if x.three then accSum [k.tB k.b2 e, k.tA k.a2 yp, p3.1] else accSum [k.tB k.b2 e, k.tA k.a2 yp]
  let p1 := accSum [yp * 16777216, -(k.tB k.b0 e)]
  ({ x with s1 := p1.1, s2 := p2.1, s3 := p3.1 }, p1.2 || p2.2 || p3.2)

/-- One sample of R258 with error `e`; the flag says whether a sum saturated. -/
def Slot.run (x : Slot) (e : Int) : Slot × Bool :=
  let k := x.active
  let u := accSum [k.tB k.b0 e, x.s1]
  let r := rshR u.1 24
  let y := clampI k.lo k.hi r
  let p1 := accSum [k.tB k.b1 e, k.tA k.a1 y, x.s2]
  let p2 := if x.three then accSum [k.tB k.b2 e, k.tA k.a2 y, x.s3] else accSum [k.tB k.b2 e, k.tA k.a2 y]
  let p3 := if x.three then accSum [k.tB k.b3 e, k.tA k.a3 y] else (0, false)
  ({ x with out := y, err := e, s1 := clampI (k.lo * 16777216) (k.hi * 16777216) p1.1, s2 := p2.1, s3 := p3.1,
            sat := decide (y ≠ r), satHi := decide (y < r) },
   u.2 || p1.2 || p2.2 || p3.2)

/-! ### The slots in the state -/

/-- Slot `i`. -/
def State.slot (s : State) (i : Nat) : Slot := (s.loops[i]?).getD Slot.reset

/-- SLOT_MAP and the LOOP page's STATUS show the slots. -/
def State.slotMap (s : State) : State :=
  let lost := bitsToNat (s.loops.map (·.lost))
  let s := s.setF Fld.LOOP_SLOT_MAP_LOST lost
  let s := s.setF Fld.LOOP_SLOT_MAP_SAT (bitsToNat (s.loops.map (·.sat)))
  let s := s.setF Fld.LOOP_SLOT_MAP_RUN (bitsToNat (s.loops.map (fun x => x.state != 0)))
  s.setReg (Folio.STATUS Pg.LOOP) (b2n (lost != 0))

/-- The key under which ACC_SAT of slot `i` is kept for a clear of the same cycle (R9): the register's address, and the slot. -/
def accSatKey (i : Nat) : Nat := Reg.LOOP_SEL_STATUS + 2 ^ 32 * (i + 1)

/-- Slot `i` becomes `x`; SAT_ENTER and BINDING are raised where they rise, ACC_SAT where a sum saturated. -/
def State.putSlot (s : State) (i : Nat) (x : Slot) (satur : Bool) : State :=
  let old := s.slot i
  let s := { s with loops := s.loops.set i { x with accSat := x.accSat || satur } }
  let s := if satur then s.occurFlag (accSatKey i) x.accSat else s
  let s := s.raiseIf (x.sat && !old.sat) Ev.LOOP_SAT_ENTER
  let s := s.raiseIf (x.binding && !old.binding) Ev.LOOP_BINDING
  (s.raiseIf satur Ev.LOOP_ACC_SAT).slotMap

/-- A refusal is written to CFG_ERR. -/
def State.cfgErr (s : State) (i code : Nat) : State :=
  (s.setF Fld.LOOP_CFG_ERR_SLOT i).setF Fld.LOOP_CFG_ERR_CODE code

/-- `m * 2^e` is at or below `n`. -/
def leScaled (m e : Int) (n : Int) : Bool :=
  if 0 ≤ e then decide (m * ((2 ^ e.toNat : Nat) : Int) ≤ n) else decide (m ≤ n * ((2 ^ (-e).toNat : Nat) : Int))

/-- `n` is at or below `m * 2^e`. -/
def geScaled (m e : Int) (n : Int) : Bool :=
  if 0 ≤ e then decide (n ≤ m * ((2 ^ e.toNat : Nat) : Int)) else decide (n * ((2 ^ (-e).toNat : Nat) : Int) ≤ m)

/-- The shadow bank of slot `i` may become active (R264): OUT_MIN < OUT_MAX, and for slot 0 both inside DUTY_LIM (units of
1/65,536). -/
def State.swapOk (s : State) (i : Nat) (x : Slot) : Bool :=
  decide (x.shadow.lo < x.shadow.hi) &&
  (i != 0 || (leScaled x.shadow.hi (x.eOut + 16) (s.getF Fld.DRV_DUTY_LIM_MAX) &&
    geScaled x.shadow.lo (x.eOut + 16) (s.getF Fld.DRV_DUTY_LIM_MIN)))

/-- A pending swap at the sample boundary (R264, R265), with the present error: the slot, whether SAT is kept for the sample,
and whether a sum saturated. -/
def State.swapAt (s : State) (i : Nat) (x : Slot) (e : Int) : State × Slot × Bool × Bool :=
  if !x.swapPend then (s, x, false, false)
  else if !s.swapOk i x then
    ((s.cfgErr i 0x07).raise Ev.LOOP_SWAP_REFUSED, { x with swapPend := false }, false, false)
  else
    let x := { x with active := x.shadow, shadow := x.active, bankNo := 1 - x.bankNo, swapPend := false }
    let s := s.raise Ev.LOOP_SWAP_DONE
    if x.sat then
      (s, { x with s1 := clampI (x.active.lo * 16777216) (x.active.hi * 16777216) x.s1 }, true, false)
    else
      let p := x.preset x.out e
      (s, p.1, false, p.2)

/-- The freeze count with the present feedback and error, on a new sample of the source (R266). -/
def Slot.freeze (x : Slot) : Slot :=
  let big := decide ((x.frzThr : Int) < (x.err.natAbs : Int))
  if !big then { x with frzCount := 0, frozen := false }
  else if x.frzCount == 0 || decide (1 < (x.fb - x.frzRef).natAbs) then
    { x with frzRef := x.fb, frzCount := 1, frozen := false }
  else
    let n := min 64 (x.frzCount + 1)
    { x with frzCount := n, frozen := x.frozen || n == 64 }

/-! ### Thermal outputs (R274) -/

/-- The THERMAL slot that drives the actuator with OUT_DST code `d`, if there is one. -/
def State.driver (s : State) (d : Nat) : Option (Nat × Slot) :=
  (withIdx 0 s.loops).find? (fun (p : Nat × Slot) => p.1 ≥ 2 && p.2.kind == 3 && p.2.dst == d && p.2.state != 0)

/-- The thermal outputs follow their slots or MAN_ registers; a change of source raises OUT_SOURCE. -/
def State.thmOutputs (s : State) : State :=
  [0, 1, 2, 3, 4].foldl (fun s k =>
    let drvFld : Fld := ⟨Reg.THM_DRIVER, 4 * k + 3, 4 * k⟩
    let old := s.getF drvFld
    match s.driver (k + 3) with
    | some (i, x) =>
      let s := s.setReg (Reg.THM_OUT_VALVE + 4 * k) (clampI 0 10000 (scale2 x.out x.eOut)).toNat
      if old == i then s else (s.setF drvFld i).raise Ev.THM_OUT_SOURCE
    | none =>
      let s := s.setReg (Reg.THM_OUT_VALVE + 4 * k) (min 10000 (s.getReg (Reg.THM_MAN_VALVE + 4 * k)))
      if old == 0xF then s else (s.setF drvFld 0xF).raise Ev.THM_OUT_SOURCE) s

/-- What an output of X12 carries (VALVE, PUMP, FAN_A, FAN_B, HEATER by 0 to 4): the command in 0.01 %, which is 1 mV of VALVE and the duty
of the drivers; none where the output is off or high-impedance: under reset, in DORMANT (R69, R274), and in a module of a pair that
does not hold the Imprint (R350). -/
def State.x12 (s : State) (k : Nat) : Option Nat :=
  if s.live && (!s.pair || s.holder) then some (s.getReg (Reg.THM_OUT_VALVE + 4 * k)) else none

/-- The HEATER switch is on for command × HEAT_PERIOD in each HEAT_PERIOD (R273), which begins at whole multiples of local time
(assumption log 116). -/
def State.heaterOn (s : State) : Bool := match s.x12 4 with
  | some c => decide (10000 * (s.localNs % (s.getReg Reg.THM_HEAT_PERIOD % 64 * 1000000000))
      < c * (s.getReg Reg.THM_HEAT_PERIOD % 64 * 1000000000))
  | none => false

/-! ### Feedback lost (R266 to R268) -/

/-- Slots 0 and 1 enter DRIVE_OFF; a swap that waits there is refused (R267, R275). -/
def State.driveOff (s : State) : State :=
  [0, 1].foldl (fun s i =>
    let x := s.slot i
    if x.kind == 0 then s
    else
      let s := s.raiseIf x.swapPend Ev.LOOP_SWAP_REFUSED
      s.putSlot i { x with state := 6, swapPend := false, binding := false } false) s

/-- Slot `i` declares FEEDBACK_LOST. -/
def State.feedbackLost (s : State) (i : Nat) : State :=
  let s := (s.putSlot i { s.slot i with lost := true } false).raise Ev.LOOP_FEEDBACK_LOST
  if i < 2 then
    if s.power != 0 then (s.driveOff.setCause 0x0B).pwmRefresh else s.pwmRefresh
  else
    ((s.putSlot i { s.slot i with state := 4, holdEnd := s.localNs + 10000000000 } false).raise Ev.LOOP_THERMAL_HOLD).thmOutputs

/-! ### Slots 0 and 1 -/

/-- The perturbation value of this sample in mA (R233): a(t) × A × sin θ(t); the spec fixes no rounding, so the upper or the
lower neighbour is free. -/
def State.perturbValue (s : State) : Int × State :=
  if s.drv.perturbMoving then
    let a := F64.mul (F64.ofInt (s.asy.amplMa : Int)) (s.asyEnv s.time.now)
    let v := (F64.mul a (s.asyTheta s.time.now).sinT).floor
    (v + (if Config.freeBool s.freeCtr then 1 else 0), s.fresh)
  else (0, s)

/-- A slot that restarts after a configuration write enters TRACK. -/
def Slot.toTrack (x : Slot) : Slot :=
  if x.restart then { x with restart := false, state := 3, samples := 0 } else x

/-- The reference of slot 0 under slot 1 (R263): the selected current as slot 0's mantissa. -/
def State.limiter (s : State) (r : Int) : State × Int :=
  let x0 := s.slot 0
  let x := (s.slot 1).toTrack
  let r0 := toMant r x0.eIn
  if x.kind != 2 || x.state == 6 then (s, r0)
  else
    let neg := decide (r < 0)
    let fb := toMant (s.getI (if neg then Reg.VOTE_V_LOW else Reg.VOTE_V_HIGH)) x.eIn
    let sp := toMant (sInt 32 (if neg then x.setpoint2 else x.setpoint)) x.eIn
    let e := satSym 24 (sp - fb)
    let rp := toMant r x.eOut
    let runs := s.getReg Reg.VOTE_SAMPLE_SEQ % x.div == 0
    let pre := if neg != x.negRef then x.preset rp e else (x, false)
    let x := { pre.1 with negRef := neg, fb := fb, err := e }
    if runs then
      let (s, x, keep, f1) := s.swapAt 1 x e
      let ran := x.run e
      let x := if keep then { ran.1 with sat := true, satHi := if ran.1.sat then ran.1.satHi else x.satHi && x.sat } else ran.1
      let y1 := if neg then clampI x.active.lo 0 x.out else clampI 0 x.active.hi x.out
      let y1m := satSym 24 (scale2 y1 (x.eOut - x0.eIn))
      let sel := if neg then max r0 y1m else min r0 y1m
      let binding := sel == y1m && y1m != r0
      let x := { x with out := y1, samples := (x.samples + 1) % 2 ^ 32, binding := binding }
      let x := x.freeze
      let ended := if binding then ({ x with state := 1 }, false)
        else ({ (x.preset rp e).1 with state := 3, out := rp }, (x.preset rp e).2)
      let x := { ended.1 with lost := ended.1.lost && (ended.1.stale || ended.1.frozen), stale := false }
      let f2 := ran.2
      let f3 := ended.2
      let s := s.putSlot 1 x (pre.2 || f1 || f2 || f3)
      (if x.frozen && !x.lost then s.feedbackLost 1 else s, sel)
    else
      let y1m := satSym 24 (scale2 x.out (x.eOut - x0.eIn))
      let sel := if x.binding then (if neg then max r0 y1m else min r0 y1m) else r0
      (s.putSlot 1 x pre.2, sel)

/-- The duty hand-over (R284): slot 0's output in units of 2^−23 of full duty, clamped to DUTY_LIM. -/
def State.handDuty (s : State) (x : Slot) : State :=
  let d := scale2 x.out (x.eOut + 23)
  let c := clampI (s.getF Fld.DRV_DUTY_LIM_MIN * 128 : Nat) (s.getF Fld.DRV_DUTY_LIM_MAX * 128 : Nat) d
  let s := s.setReg Reg.DRV_DUTY (c.toNat % 2 ^ 24)
  if c == d then { s with drv := { s.drv with clampedLast := false } }
  else
    let s := (s.countReg Reg.DRV_DUTY_CLAMPS).raiseIf (!s.drv.clampedLast) Ev.DRV_DUTY_CLAMPED
    { s with drv := { s.drv with clampedLast := true } }

/-- The duty preset (R286), in units of 2^−23 of full duty, rounded to nearest, while the pairs are inhibited. -/
def State.dutyPreset (s : State) : State :=
  if !s.pwmInhibited || s.variant == .C then s
  else
    let v := s.getI Reg.VOTE_V_VOTED
    let l := s.getI Reg.MEAS_V_LINK
    let hi : Int := (s.getF Fld.DRV_DUTY_LIM_MAX * 128 : Nat)
    let lo : Int := (s.getF Fld.DRV_DUTY_LIM_MIN * 128 : Nat)
    let d := if l ≤ 0 then hi else clampI lo hi ((2 * v * 8388608 + l) / (2 * l))
    s.setReg Reg.DRV_DUTY_PRESET (d.toNat % 2 ^ 24)

/-- Slot 0's part of a sample, with the selected reference and the perturbation as mantissas (R252, R262, R263). -/
def State.slot0 (s : State) (sel ip : Int) : State :=
  let x := (s.slot 0).toTrack
  let fb := toMant (s.getI Reg.VOTE_CUR_VOTED) x.eIn
  let e := satSym 24 (satSym 24 (sel + ip) - fb)
  let x := { x with fb := fb, err := e }
  if x.state == 6 then s.putSlot 0 x false
  else
    let (s, x, keep, f1) := s.swapAt 0 x e
    let yp := satSym 24 (scale2 (s.getReg Reg.DRV_DUTY_PRESET) (-23 - x.eOut))
    let (x, f2) := if s.pwmInhibited || x.state == 3 then x.preset yp e else (x, false)
    let (hi0, sat0) := (x.satHi, x.sat)
    let (x, f3) := x.run e
    let x := if keep then { x with sat := true, satHi := if x.sat then x.satHi else hi0 && sat0 } else x
    let x := { x with state := if s.pwmInhibited then 3 else 1, samples := (x.samples + 1) % 2 ^ 32 }
    let x := x.freeze
    let x := { x with lost := x.lost && (x.stale || x.frozen), stale := false }
    let s := (s.putSlot 0 x (f1 || f2 || f3)).handDuty x
    if x.frozen && !x.lost then s.feedbackLost 0 else s

/-- Slots 0 and 1 on a voted sample (R254). -/
def State.driveLoops (s : State) : State :=
  let s := s.dutyPreset
  let x0 := s.slot 0
  if x0.kind != 1 || s.getReg Reg.VOTE_SAMPLE_SEQ % x0.div != 0 then s
  else
    let (s, sel) := s.limiter (s.getI Reg.PROF_REF)
    let (ip, s) := s.perturbValue
    let sum := s.getI Reg.PROF_REF + ip
    let s := s.asyClip (decide ((s.getF Fld.MRG_I_MAX_ICHG_MAX * 100 : Nat) < sum)
      || decide ((s.getF Fld.MRG_I_MAX_IDIS_MAX * 100 : Nat) < -sum))
    s.slot0 sel (toMant ip x0.eIn)

/-! ### THERMAL slots -/

/-- How many samples a source has delivered. -/
def State.srcCountOf (s : State) (src : Nat) : Nat := countAt s.thm.srcCount src

/-- New samples of a source, and voted samples (0xFF), as arrivals that a stale evaluation of the same cycle yields to (R275). -/
abbrev srcKey (src : Nat) : Nat := 1024 + src

/-- A source delivers a sample. -/
def State.srcTick (s : State) (src : Nat) : State :=
  { s with thm := { s.thm with srcCount := putCount s.thm.srcCount src (s.srcCountOf src + 1) } }.arrive (srcKey src)

/-- The latest value of a feedback source (R252). -/
def State.sourceValue (s : State) (src : Nat) : Option Int :=
  if 0x10 ≤ src && src ≤ 0x13 then
    let v := s.getReg (Reg.THM_TIN0 + 4 * (src - 0x10))
    if v == 0x80000000 then none else some (sInt 32 v)
  else if src == 0x18 then s.thm.chain.map (·.1)
  else if src == 0x19 then s.thm.chain.map (·.2.1)
  else if src == 0x1A then s.thm.chain.map (·.2.2)
  else if src == 0x1B then s.thm.core
  else if src == 0x20 then some (s.getReg Reg.THM_TACH_A)
  else if src == 0x21 then some (s.getReg Reg.THM_TACH_B)
  else if src == 0x22 then some (s.getReg Reg.THM_FLOW)
  else none

/-- The reference mantissa of a THERMAL slot: SETPOINT, or another slot's output (R252). -/
def State.thermalRef (s : State) (x : Slot) : Int :=
  if 0xA ≤ x.refSrc then
    let y := s.slot (x.refSrc - 8)
    satSym 24 (scale2 y.out (y.eOut - x.eIn))
  else toMant (sInt 32 x.setpoint) x.eIn

/-- One sample of THERMAL slot `i` (R254, R260). -/
def State.thermalSample (s : State) (i : Nat) : State :=
  let x := s.slot i
  if x.kind != 3 then s
  else
    let x := if x.restart then { x with restart := false, state := 2, manual := true, samples := 0 } else x
    let cnt := s.srcCountOf x.src
    let val := s.sourceValue x.src
    let new := cnt != x.srcSeq && val.isSome
    let fb := match val with
      | some v => toMant v x.eIn
      | none => x.fb
    let e := satSym 24 (s.thermalRef x - fb)
    let x := { x with fb := fb, err := e, srcSeq := cnt, stale := x.stale && !new, samples := (x.samples + 1) % 2 ^ 32 }
    let (s, x, keep, f1) := s.swapAt i x e
    let x := if new then x.freeze else x
    let man := sInt 24 x.manOut
    let (x, f2) :=
      if x.manual then
        let p := x.preset man e
        ({ p.1 with state := 2, out := man, sat := false, satHi := false, lost := false }, p.2)
      else if x.state == 2 || x.state == 1 then
        let p := if x.state == 2 then x.preset man e else (x, false)
        let (hi0, sat0) := (x.satHi, x.sat)
        let q := p.1.run e
        let y := { q.1 with state := 1 }
        (if keep then { y with sat := true, satHi := if y.sat then y.satHi else hi0 && sat0 } else y, p.2 || q.2)
      else if x.state == 5 then ({ x with out := sInt 24 x.fallback }, false)
      else (x, false)
    let s := s.putSlot i x (f1 || f2)
    if x.state == 1 && (x.frozen || x.stale) then s.feedbackLost i else s.thmOutputs

/-! ### Commands -/

/-- The slot that LOOP.SEL selects. -/
def State.loopSel (s : State) : Nat := s.getReg Reg.LOOP_SEL % 8

/-- The slot references of THERMAL slots form no loop: following them from slot `i` ends within the given steps. -/
def refEnds (ls : List Slot) : Nat → Nat → Bool
  | 0, _ => false
  | k + 1, i =>
    let x := (ls[i]?).getD Slot.reset
    if x.kind == 3 && 0xA ≤ x.refSrc then refEnds ls k (x.refSrc - 8) else true

/-- Slot `i` of a proposed configuration meets the conditions on references and routes. -/
def routeOk (ls : List Slot) (i : Nat) : Bool :=
  let x := (ls[i]?).getD Slot.reset
  if x.kind != 3 then true
  else
    (if 0xA ≤ x.refSrc then
      let y := (ls[x.refSrc - 8]?).getD Slot.reset
      y.kind == 3 && y.dst == 8 && decide (x.div ≤ y.div) && refEnds ls 8 i
     else true)
    && (!(3 ≤ x.dst && x.dst ≤ 7) ||
        ((ls.drop 2).filter (fun y => y.kind == 3 && y.dst == x.dst)).length ≤ 1)

/-- The refusal code of a proposed configuration of all slots after a write to slot `i`; 0 where every condition of R253
holds. -/
def State.cfgCheck (s : State) (ls : List Slot) (i : Nat) : Nat :=
  let x := (ls[i]?).getD Slot.reset
  let k := x.kind
  let k0 := ((ls[0]?).getD Slot.reset).kind
  let k1 := ((ls[1]?).getD Slot.reset).kind
  let kindOk := k == 0 || (k == 1 && i == 0) || (k == 2 && i == 1) || (k == 3 && 2 ≤ i)
  if !kindOk then 0x01
  else if i < 2 && s.power != 0 then 0x05
  else if i < 2 && s.variant == .C && k != 0 then 0x06
  else if k1 == 2 && k0 != 1 then 0x01
  else if k1 == 2 && ((ls[1]?).getD Slot.reset).div % ((ls[0]?).getD Slot.reset).div != 0 then 0x04
  else if k == 3 && !([0x10, 0x11, 0x12, 0x13, 0x18, 0x19, 0x1A, 0x1B, 0x20, 0x21, 0x22].contains x.src) then 0x02
  else if !([0, 1, 2, 3, 4, 5, 6, 7].all (routeOk ls)) then 0x03
  else 0

/-- SEL_CFG as a write would leave it: a DIV outside the slot's range leaves DIV (R251, R555). -/
def newCfg (i old value : Nat) : Nat :=
  let v := (value % 2 ^ 30) &&& 0x3F3FFF1F
  let d := bitsOf v 21 8
  if 1 ≤ d && d ≤ (if i < 2 then 100 else 10000) then v else putBits v 21 8 (bitsOf old 21 8)

/-- An accepted configuration stops the slot and clears its states (R253). -/
def Slot.restarted (x : Slot) (cfg route : Nat) : Slot :=
  { x with cfg := cfg, route := route, state := 0, fb := 0, err := 0, out := 0, s1 := 0, s2 := 0, s3 := 0, sat := false,
           satHi := false, stale := false, frozen := false, lost := false, binding := false, frzCount := 0, negRef := false,
           restart := bitsOf cfg 3 0 != 0 }

/-- A write to SEL_CFG or SEL_ROUTE of the selected slot. -/
def State.loopCfg (s : State) (isRoute : Bool) (value : Nat) : State :=
  let i := s.loopSel
  let x := s.slot i
  let y := if isRoute then x.restarted x.cfg (value &&& 0xF0F) else x.restarted (newCfg i x.cfg value) x.route
  let code := s.cfgCheck (s.loops.set i y) i
  if code == 0 then (s.putSlot i y false).thmOutputs.pwmRefresh
  else (s.cfgErr i code).raise Ev.LOOP_CFG_REFUSED

/-- LOOP_CFG_WRITE (R253). -/
def execLoopCfgWrite (master : Nat) (isRoute : Bool) (value : Nat) (s : State) : Step :=
  .next (s.permit master (if isRoute then Reg.LOOP_SEL_ROUTE else Reg.LOOP_SEL_CFG) (fun s => s.loopCfg isRoute value))

/-- SEL_CTL.MODE of the selected slot: slots 0 and 1 ignore it (R260). -/
def State.loopMode (s : State) (manual : Bool) : State :=
  if s.loopSel < 2 then s else s.putSlot s.loopSel { s.slot s.loopSel with manual := manual } false

/-- LOOP_MODE_WRITE (R260). -/
def execLoopModeWrite (master : Nat) (manual : Bool) (s : State) : Step :=
  .next (s.permit master Reg.LOOP_SEL_CTL (fun s => s.loopMode manual))

/-- A swap request for slot `i` (R264, R275). -/
def State.loopSwapOne (s : State) (i : Nat) : State :=
  let x := s.slot i
  if x.swapPend then (s.cfgErr i 0x08).raise Ev.LOOP_CFG_REFUSED
  else if x.state == 6 then s.raise Ev.LOOP_SWAP_REFUSED
  else s.putSlot i { x with swapPend := true } false

/-- LOOP_SWAP (R264): SEL_CTL.SWAP, or SWAP_MULTI with its bits. -/
def execLoopSwap (master : Nat) (multi : Option Nat) (s : State) : Step :=
  match multi with
  | none => .next (s.permit master Reg.LOOP_SEL_CTL (fun s => s.loopSwapOne s.loopSel))
  | some m => .next (s.permit master Reg.LOOP_SWAP_MULTI (fun s =>
      [0, 1, 2, 3, 4, 5, 6, 7].foldl (fun s i => if bitOf m i then s.loopSwapOne i else s) s))

/-- SEL_CTL.RESUME of the selected slot (R268). -/
def State.loopResume (s : State) : State :=
  let i := s.loopSel
  let x := s.slot i
  if 2 ≤ i && (x.state == 4 || x.state == 5) && !x.stale && !x.frozen then
    let p := x.preset x.out x.err
    ((s.putSlot i { p.1 with state := 1, lost := false, frzCount := 0 } p.2).raise Ev.LOOP_RESUMED).thmOutputs
  else s.raise Ev.LOOP_RESUME_REFUSED

/-- LOOP_RESUME (R268). -/
def execLoopResume (master : Nat) (s : State) : Step := .next (s.permit master Reg.LOOP_SEL_CTL State.loopResume)

/-- THERMAL_SLOT_SAMPLE (R254). -/
def execThermalSlotSample (slot : Nat) (s : State) : Step :=
  .next (if s.live && 2 ≤ slot then s.thermalSample slot else s)

/-- FEEDBACK_STALE (R266): a slot's source has delivered nothing for 3 nominal periods. -/
def execFeedbackStale (slot : Nat) (s : State) : Step :=
  let x := s.slot slot
  if s.live && x.kind != 0 && !s.arrivedNow (srcKey (if slot < 2 then 0xFF else x.src)) then
    if x.state == 1 || x.state == 3 then
      .next ((s.putSlot slot { x with stale := true } false).feedbackLost slot)
    else if x.state == 2 || x.state == 4 || x.state == 5 then .next (s.putSlot slot { x with stale := true } false)
    else .next s
  else .next s

/-- THERMAL_HOLD_EXPIRY (R268): the 10 s of HOLD_LAST have elapsed. -/
def execThermalHoldExpiry (slot : Nat) (s : State) : Step :=
  let x := s.slot slot
  if s.live && 2 ≤ slot && x.state == 4 then
    .next ((s.putSlot slot { x with state := 5, out := sInt 24 x.fallback } false).raise Ev.LOOP_FALLBACK).thmOutputs
  else .next s

/-! ### The profile generator's commands -/

/-- A value clamped to the Margins is reported (R15, R313). -/
def State.clampNote (s : State) (addr : Nat) : State :=
  ((s.setReg Reg.MRG_CLAMP_ADDR addr).countReg Reg.MRG_CLAMP_COUNT).raise Ev.MRG_POLICY_CLAMPED

/-- One step of the profile generator toward a target in mA under a source (R270). -/
def State.profMove (s : State) (src : Nat) (target : Int) : State :=
  let l := s.profLimits src
  let p := profileStep l.1 l.2.1 l.2.2 (mAtoA target) s.prof.r s.prof.v s.prof.a
  let s := s.raiseIf (p.2.2.2 && !s.prof.arrived) Ev.PROF_ARRIVED
  ({ s with prof := { s.prof with r := p.1, v := p.2.1, a := p.2.2.1, arrived := p.2.2.2 } }).profPublish target

/-- The generator's 10 µs step (R269 to R271). -/
def State.profStep (s : State) : State :=
  let (lo, hi) := s.authority
  let s := (s.setI Reg.PROF_AUTH_HI hi).setI Reg.PROF_AUTH_LO lo
  let base := s.baseSource
  let stopLim := fun (s : State) (b : Bool) => s.setB Fld.PROF_STATE_STOP_LIMITS b
  if base == Src.zero then (((stopLim (s.setSource Src.zero) false).setReg Reg.PROF_TARGET_EFF 0).profZero).profPublish 0
  else if base == Src.fullStop then
    let s := stopLim (s.setSource Src.fullStop) true
    ({ s with prof := { s.prof with bound := none } }.setReg Reg.PROF_TARGET_EFF 0).profMove Src.fullStop 0
  else
    let out := if F64.lt (mAtoA hi) s.prof.r then some hi else if F64.lt s.prof.r (mAtoA lo) then some lo else none
    match out with
    | some b =>
      let s := s.raiseIf s.prof.bound.isNone Ev.PROF_BOUND_RAMP
      let s := stopLim ({ s with prof := { s.prof with bound := some b } }.setSource Src.bound) true
      (s.setI Reg.PROF_TARGET_EFF b).profMove Src.bound b
    | none =>
      let s := stopLim ({ s with prof := { s.prof with bound := none } }.setSource base) false
      let want : Int := if base == Src.policy then s.getI Reg.PROF_TARGET else 0
      let eff := clampI lo hi want
      let cl := if eff == want then none else some (want, eff)
      let s := s.raiseIf (cl.isSome && cl != s.prof.clamped) Ev.PROF_TARGET_CLAMPED
      let s := { s with prof := { s.prof with clamped := cl } }
      (s.setI Reg.PROF_TARGET_EFF eff).profMove base eff

/-- PROFILE_STEP (R270). -/
def execProfileStep (s : State) : Step := .next (if s.live then s.profStep else s)

/-- A write to PROF.TARGET that has passed its checks (R271, R272, R313). -/
def State.targetWrite (s : State) (value : Nat) : State :=
  if s.flag Fld.SAFE_STATE_FS_ACTIVE then s.raise Ev.PROF_TARGET_IGNORED
  else
    let v := sInt 32 value
    let c := clampI (-(s.getReg Reg.MRG_POL_IDIS : Int)) (s.getReg Reg.MRG_POL_ICHG) v
    let s := if c == v then s else s.clampNote Reg.PROF_TARGET
    if s.prof.anchor then
      ((s.setI Reg.PROF_PENDING_TARGET c).setB Fld.PROF_STATE_PENDING true).raise Ev.PROF_TARGET_KEPT
    else s.setI Reg.PROF_TARGET c

/-- PROF_TARGET_WRITE (R272). -/
def execProfTargetWrite (master value : Nat) (s : State) : Step :=
  .next (s.permit master Reg.PROF_TARGET (fun s => s.targetWrite value))

/-- The range of RATE, ACCEL or JERK (R270). -/
def profRange : Nat → Nat × Nat
  | 0 => (1, 100000)
  | 1 => (10, 10000000)
  | _ => (100, 4000000000)

/-- The register of RATE (0), ACCEL (1) or JERK. -/
def profLimReg : Nat → Nat
  | 0 => Reg.PROF_RATE
  | 1 => Reg.PROF_ACCEL
  | _ => Reg.PROF_JERK

/-- PROF_LIMIT_WRITE (R270): a value out of range is ignored with LIMIT_IGNORED. -/
def execProfLimitWrite (master which value : Nat) (s : State) : Step :=
  .next (s.permit master (profLimReg which) (fun s =>
    let (lo, hi) := profRange which
    if lo ≤ value && value ≤ hi then s.setReg (profLimReg which) value else s.raise Ev.PROF_LIMIT_IGNORED))

/-! ### Thermal inputs (R273, R274) -/

/-- One reading of TIN `i`. -/
def State.tinOne (s : State) (i : Nat) (v : Option Int) : State :=
  let used := bitsOf (s.getReg Reg.THM_TIN_CFG) (2 * i + 1) (2 * i)
  let was := (s.thm.tinFault[i]?).getD false
  let put := fun (s : State) (b : Bool) => { s with thm := { s.thm with tinFault := s.thm.tinFault.set i b } }
  if used == 0 || used == 3 then put (s.setReg (Reg.THM_TIN0 + 4 * i) 0x80000000) false
  else match v with
    | none => (put (s.setReg (Reg.THM_TIN0 + 4 * i) 0x80000000) true).raiseIf (!was) Ev.THM_TIN_FAULT
    | some x =>
      ((put (s.setI (Reg.THM_TIN0 + 4 * i) x) false).raiseIf was Ev.THM_TIN_OK).srcTick (0x10 + i)

/-- STATUS of the THM page. -/
def State.thmStatus (s : State) : State :=
  s.setReg (Folio.STATUS Pg.THM) (b2n (s.thm.tinFault.any id) + 2 * b2n (s.thm.fanStall || s.thm.flowLow))

/-- TIN_SAMPLE (R273): the four inputs at 100 Hz; `none` is open or short. -/
def execTinSample (values : List (Option Int)) (s : State) : Step :=
  .next (if s.live then
    ((withIdx 0 (values.take 4)).foldl (fun s (p : Nat × Option Int) => s.tinOne p.1 p.2) s).thmStatus else s)

/-- A fan (0 A, 1 B) is below TACH_MIN with a command of 20 % or more. -/
def State.fanSlow (s : State) (fan : Nat) : Bool :=
  decide (s.getReg (Reg.THM_TACH_A + 4 * (fan % 2)) < s.getReg Reg.THM_TACH_MIN) &&
  decide (2000 ≤ s.getReg (Reg.THM_OUT_FAN_A + 4 * (fan % 2)))

/-- FLOW is below FLOW_MIN with a PUMP command of 20 % or more. -/
def State.flowSlow (s : State) : Bool :=
  decide (s.getReg Reg.THM_FLOW < s.getReg Reg.THM_FLOW_MIN) && decide (2000 ≤ s.getReg Reg.THM_OUT_PUMP)

/-- TACH_EVAL (R273): the pulse frequencies in mHz of the tachometers, 2 pulses per revolution, and of the flow meter, every 100 ms. -/
def execTachEval (tachA tachB flow : Nat) (s : State) : Step :=
  if s.live then
    let rpm := fun (f : Nat) => satU 16 (divEither (30 * (f : Int)) 1000).toNat
    let ppl := max 1 ((s.record.map (·.flowPpl)).getD 1)
    let s := ((s.setReg Reg.THM_TACH_A (rpm tachA)).setReg Reg.THM_TACH_B (rpm tachB)).setReg Reg.THM_FLOW
      (satU 16 (divEither (6 * (flow : Int)) ppl).toNat)
    let s := ((s.srcTick 0x20).srcTick 0x21).srcTick 0x22
    let s := { s with thm := { s.thm with fanStall := s.thm.fanStall && (s.fanSlow 0 || s.fanSlow 1),
                                          flowLow := s.thm.flowLow && s.flowSlow } }
    .next s.thmStatus
  else .next s

/-- FAN_STALL (R274): a fan (0 A, 1 B) has been below TACH_MIN for 2 s under a command of 20 % or more. -/
def execFanStall (fan : Nat) (s : State) : Step :=
  if s.live && s.fanSlow fan then
    .next ({ s with thm := { s.thm with fanStall := true } }.raise Ev.THM_FAN_STALL).thmStatus
  else .next s

/-- FLOW_LOW (R274): FLOW has been below FLOW_MIN for 2 s under a PUMP command of 20 % or more. -/
def execFlowLow (s : State) : Step :=
  if s.live && s.flowSlow then
    .next ({ s with thm := { s.thm with flowLow := true } }.raise Ev.THM_FLOW_LOW).thmStatus
  else .next s

end Sys2Proof.Machine
end

