-- ==== Sys2Proof/Machine/Meas.lean ====
section
/-! DEFINITION. The commands of *String Current, String Voltage and the Voter*: channel values (R163 to R168), the voter
(R170 to R176), what a voted sample sets in motion, insulation monitoring (R178 to R180), charge accumulation (R181). -/

namespace Sys2Proof.Machine

/-! ### Channel values (R164 to R167) -/

/-- The register of channel `i`: CUR_A … CUR_C, VSTR_A … VSTR_C, V_LINK, V_PRE. -/
def chanReg (i : Nat) : Nat := Reg.MEAS_CUR_A + 4 * i

/-- The offset of current channel `i` in mA. -/
def State.offsetMa (s : State) (i : Nat) : Int :=
  10 * (match i with
    | 0 => sInt 16 (s.getF Fld.MEAS_OFS_AB_OFS_A)
    | 1 => sInt 16 (s.getF Fld.MEAS_OFS_AB_OFS_B)
    | _ => sInt 16 (s.getReg Reg.MEAS_OFS_C))

/-- The bounds of a channel's value: ±1,200 A, 0 V to 2,200 V, −50 V to 2,200 V (R164 to R166). -/
def chanRange (i : Nat) : Int × Int :=
  if i < 3 then (-1200000, 1200000) else if i < 6 then (0, 2200000) else (-50000, 2200000)

/-- The conversions of current channel `i` in a window. -/
def curOf (f : ChanFrame) (i : Nat) : List Int := if i == 0 then f.curA else if i == 1 then f.curB else f.curC

/-- The values of the high-voltage channels 3 to 7, absent with their frame (R167). -/
def hvOf (f : ChanFrame) (i : Nat) : Option Int :=
  if f.hvFrame then (if i == 3 then f.vA else if i == 4 then f.vB else if i == 5 then f.vC else if i == 6 then f.vLink else f.vPre)
  else none

/-- The usable range of a current channel's input: ±320 mV in nV, ±10.5 V in µV (R164). -/
def inputLim (i : Nat) : Int := if i < 2 then 320000000 else 10500000

/-- The scaling of R164 as a fraction: current in mA is `sum · n / d` for the sum of the 20 conversions. -/
def CurScale.ratio (c : CurScale) (i : Nat) : Int × Nat :=
  let sg := fun (neg : Bool) => if neg then (-1 : Int) else 1
  if i == 0 then (sg c.negA * (1000000 + c.gainA), 20000 * c.shuntA)
  else if i == 1 then (sg c.negB * (1000000 + c.gainB), 20000 * c.shuntB)
  else (sg c.negC * (1000000 + c.gainC) * c.cScale, 20000000000000)

/-- The value of R164 with ofs at 0, in mA, from the mean of 20 saturated conversions (R163), and whether one was saturated; `none`
where fewer arrived (R167). The rounding to whole mA is free, and so is the whole value without a Plant Record, which gives the
scaling (assumption log 50). -/
def State.curRaw (s : State) (i : Nat) (l : List Int) : Option (Int × Bool) :=
  if l.length < 20 then none
  else
    let sat := (l.take 20).map (clampI (-inputLim i) (inputLim i))
    let v := match s.record with
      | some r => divEither (sat.sum * (r.cur.ratio i).1) (r.cur.ratio i).2
      | none => sInt 32 (Config.freeValue (s.freeCtr + i) % 2 ^ 32)
    some (v, sat != l.take 20)

/-- The channel value of channel `i`, with whether it was limited; `none` where it is invalid (R164, R167). -/
def State.chanValue (s : State) (f : ChanFrame) (i : Nat) : Option (Int × Bool) :=
  let lim := fun (v : Int) => clampI (chanRange i).1 (chanRange i).2 v
  if i < 3 then
    if bitOf (s.getF Fld.MEAS_CH_FLAGS_OFFSET_HIGH) i then none
    else (s.curRaw i (curOf f i)).map (fun x => (lim (x.1 - s.offsetMa i), x.2 || lim (x.1 - s.offsetMa i) != x.1 - s.offsetMa i))
  else (hvOf f i).map (fun v => (lim v, lim v != v))

/-- A window adds to a calibration under way: each current channel whose conversions are complete counts with its value without offset
(R168). -/
def State.calWindow (s : State) (f : ChanFrame) : State :=
  if s.meas.calibrating then
    let l := (withIdx 0 s.meas.cal).map (fun (p : Nat × Nat × Int) => match s.curRaw p.1 (curOf f p.1) with
      | some x => (p.2.1 + 1, p.2.2 + clampI (chanRange 0).1 (chanRange 0).2 x.1)
      | none => p.2)
    { s with meas := { s.meas with cal := l } }
  else s

/-- A window's channel values enter their registers and CH_FLAGS; a rising OVERRANGE bit raises OVERRANGE (R184). An
invalid channel keeps its last value. -/
def State.measWindow (s : State) (f : ChanFrame) : State :=
  let res := (List.range 8).map (s.chanValue f)
  let s := s.calWindow f
  let s := if s.record.isNone then { s with freeCtr := s.freeCtr + 3 } else s
  let s := (withIdx 0 res).foldl (fun s (p : Nat × Option (Int × Bool)) => match p.2 with
    | some v => s.setI (chanReg p.1) v.1
    | none => s) s
  let inv := bitsToNat (res.map (·.isNone))
  let ovr := bitsToNat (res.map (fun (x : Option (Int × Bool)) => (x.map (·.2)).getD false))
  let rise := ovr &&& (0xFF ^^^ s.getF Fld.MEAS_CH_FLAGS_OVERRANGE)
  let s := (s.setF Fld.MEAS_CH_FLAGS_INVALID inv).setF Fld.MEAS_CH_FLAGS_OVERRANGE ovr
  let s := s.raiseIf (rise != 0) Ev.MEAS_OVERRANGE
  let m := s.meas
  let m := if f.hvFrame then { m with hvMissing := 0, hvArrived := min 100 (m.hvArrived + 1) }
    else { m with hvMissing := min 3 (m.hvMissing + 1), hvArrived := 0 }
  let back := m.hvLost && m.hvArrived == 100
  let s := { s with meas := { m with hvLost := m.hvLost && !back } }
  let s := (s.raiseIf back Ev.MEAS_HV_BACK).imdRefresh
  s.setReg (Folio.STATUS Pg.MEAS) (b2n f.hvFrame + 2 * b2n s.imdInjects)

/-- HV_LOST (R167): frames have been missing for three windows in a row. -/
def execHvLost (s : State) : Step :=
  if s.live && s.meas.hvMissing == 3 && !s.meas.hvLost then
    .next ({ s with meas := { s.meas with hvLost := true } }.raise Ev.MEAS_HV_LOST).imdRefresh
  else .next s

/-! ### The voter (R171 to R173) -/

/-- The median of one value, of three, or the first of another number (not used). -/
def median : List Int → Int
  | [a, b, c] => max (min a b) (min (max a b) c)
  | a :: _ => a
  | [] => 0

/-- The threshold of R171 around a magnitude, times 1,000,000: ABS in the quantity's unit, REL in ppm. -/
def voteThr (abs rel m : Nat) : Nat := max (abs * 1000000) (rel * m)

/-- A used value disagrees (R171). -/
def disagrees (used : List Int) (abs rel : Nat) (x : Int) : Bool :=
  match used with
  | [p, q] => decide (voteThr abs rel (max p.natAbs q.natAbs) < (p - q).natAbs * 1000000)
  | _ => decide (voteThr abs rel (median used).natAbs < (x - median used).natAbs * 1000000)

/-- The state field of channel `i` of six (R185). -/
def chStateFld (i : Nat) : Fld := ⟨Reg.VOTE_CH_STATE, 2 * i + 3, 2 * i + 2⟩

/-- The count field of channel `i` of six. -/
def chCountFld (i : Nat) : Fld :=
  ⟨if i < 3 then Reg.VOTE_CNT_CUR else Reg.VOTE_CNT_V, 10 * (i % 3) + 9, 10 * (i % 3)⟩

/-- The exclusion count field of channel `i` of six. -/
def chExclFld (i : Nat) : Fld := ⟨Reg.VOTE_EXCL_COUNT, 5 * i + 4, 5 * i⟩

/-- Channel `i` of six is excluded. -/
def State.excluded (s : State) (i : Nat) : Bool := s.getF (chStateFld i) == 2

/-- Channel `i` of six had a valid value in the last window. -/
def State.chanValid (s : State) (i : Nat) : Bool := !bitOf (s.getF Fld.MEAS_CH_FLAGS_INVALID) i

/-- The channels of a quantity: 0 current, 1 voltage. -/
def quantChans (q : Nat) : List Nat := [3 * q, 3 * q + 1, 3 * q + 2]

/-- The channels of a quantity that are not excluded. -/
def State.inUse (s : State) (q : Nat) : List Nat := (quantChans q).filter (fun i => !s.excluded i)

/-- The values in use: not excluded and valid. -/
def State.usedValues (s : State) (q : Nat) : List Int :=
  ((s.inUse q).filter s.chanValid).map (fun i => s.getI (chanReg i))

/-- The voted, high and low registers of a quantity take values. -/
def State.votePut (s : State) (q : Nat) (v h l : Int) : State :=
  ((s.setI (Reg.VOTE_CUR_VOTED + 12 * q) v).setI (Reg.VOTE_CUR_HIGH + 12 * q) h).setI (Reg.VOTE_CUR_LOW + 12 * q) l

/-- The mean of two values. R173 states no rounding: a sum that is odd leaves it free between the two neighbours. -/
def State.mean2 (s : State) (a b : Int) : Int × State :=
  let f := (a + b) / 2
  if (a + b) % 2 = 0 then (f, s) else (if Config.freeBool s.freeCtr then f + 1 else f, s.fresh)

/-- The outputs of a quantity from its used values (R173). -/
def State.voteOut (s : State) (q : Nat) : State :=
  let used := s.usedValues q
  let valid := if q == 0 then Fld.VOTE_CH_STATE_CUR_VALID else Fld.VOTE_CH_STATE_V_VALID
  let unsub := fun (s : State) => if q == 1 then s.setB Fld.VOTE_CH_STATE_V_SUBST false else s
  match used with
  | [a, b, c] => unsub ((s.votePut q (median [a, b, c]) (median [a, b, c]) (median [a, b, c])).setB valid true)
  | [a, b] =>
    let (m, s) := s.mean2 a b
    unsub ((s.votePut q m (max a b) (min a b)).setB valid true)
  | [a] => if q == 1 then unsub ((s.votePut 1 a a a).setB valid true) else s.setB valid false
  | _ =>
    let s := s.setB valid false
    if q == 1 && (s.inUse 1).isEmpty then
      if s.meas.sumFormed then
        let c := s.getI Reg.VOTE_CHAIN_SUM
        (s.votePut 1 c c c).setB Fld.VOTE_CH_STATE_V_SUBST true
      else s.votePut 1 (s.getI Reg.VOTE_V_VOTED) (s.getI Reg.VOTE_V_VOTED) (s.getI Reg.VOTE_V_VOTED)
    else s

/-- The thresholds of a quantity: ABS in mA or mV, REL in ppm (R171, R185). -/
def State.voteThrs (s : State) (q : Nat) : Nat × Nat :=
  if q == 0 then (10 * s.getF Fld.VOTE_CUR_THR_ABS, s.getF Fld.VOTE_CUR_THR_REL)
  else (10 * s.getF Fld.VOTE_V_THR_ABS, s.getF Fld.VOTE_V_THR_REL)

/-- The state and count of channel `i` after this sample (R172). -/
def State.voteChan (s : State) (used : List Int) (abs rel i : Nat) : State :=
  if s.excluded i then s
  else
    let old := s.getF (chStateFld i)
    let cnt := s.getF (chCountFld i)
    if !s.chanValid i then
      ((s.setF (chStateFld i) 3).setF (chCountFld i) (min 200 (cnt + 1))).raiseIf (old != 3) Ev.VOTE_CH_INVALID
    else if disagrees used abs rel (s.getI (chanReg i)) then
      ((s.setF (chStateFld i) 1).setF (chCountFld i) (min 200 (cnt + 1))).raiseIf (old == 0) Ev.VOTE_CH_DISAGREE
    else (s.setF (chStateFld i) 0).setF (chCountFld i) (cnt - 1)

/-- Channel `i` of six is excluded (R172): its count in MRAM, CH_EXCLUDED. -/
def State.exclude (s : State) (i : Nat) : State :=
  let s := (s.setF (chStateFld i) 2).countF (chExclFld i)
  (s.toMram Reg.VOTE_EXCL_COUNT).raise Ev.VOTE_CH_EXCLUDED

/-- The Ellipsis causes that follow from exclusions (R174, R314). -/
def State.exclEllipsis (s : State) : State :=
  let nc := (s.inUse 0).length
  let nv := (s.inUse 1).length
  let s := s.holdCause 0x20 (nc != 3)
  let s := s.holdCause 0x21 (nv == 1 || nv == 2)
  s.holdCause 0x22 (nv == 0)

/-- The cause of a lost current (R173, R314), at once. -/
def State.exclLost (s : State) : State := s.holdCause 0x0A ((s.inUse 0).length ≤ 1)

/-- The reaction to the number of channels left in use (R173). The Ellipsis demand follows with the next sample, 10 µs later, so that a
mode request of the cycle of the exclusion meets check C4 (R182 and the worked example of the voter; assumption log 112). -/
def State.exclReact (s : State) (q : Nat) : State :=
  let n := (s.inUse q).length
  let s := if q == 0 then (if n == 2 then s.raise Ev.VOTE_CUR_DEGRADED else s.raise Ev.VOTE_CUR_LOST)
    else if n == 2 then s.raise Ev.VOTE_V_DEGRADED
    else if n == 1 then s.raise Ev.VOTE_V_SINGLE
    else s.raise Ev.VOTE_V_LOST
  s.exclLost

/-- Which of two voltage channels that reach the limit together are excluded: the one farther from CHAIN_SUM, or both (R172). -/
def State.farther (s : State) (i j : Nat) : List Nat :=
  if !s.meas.sumFormed then [i, j]
  else
    let c := s.getI Reg.VOTE_CHAIN_SUM
    let di := (s.getI (chanReg i) - c).natAbs
    let dj := (s.getI (chanReg j) - c).natAbs
    if di < dj then [j] else if dj < di then [i] else [i, j]

/-- One quantity of one voted sample: outputs from the channels in use, then counts and exclusions. -/
def State.voteQuant (s : State) (q : Nat) : State :=
  let used := s.usedValues q
  let (abs, rel) := s.voteThrs q
  let s := s.voteOut q
  let s := (quantChans q).foldl (fun s i => s.voteChan used abs rel i) s
  let full := (s.inUse q).filter (fun i => s.getF (chCountFld i) == 200 && s.getF (chStateFld i) != 0)
  match full with
  | [] => s
  | [i, j] =>
    let out := if q == 1 && (s.inUse 1).length == 2 then s.farther i j else [i, j]
    (out.foldl State.exclude s).exclReact q
  | l => (l.foldl State.exclude s).exclReact q

/-- The agreement of an excluded channel with the two others in use, counted in voted samples (R175). -/
def State.agreeCount (s : State) (i : Nat) : State :=
  let others := (quantChans (i / 3)).filter (fun j => j != i)
  let vals := (quantChans (i / 3)).map (fun j => s.getI (chanReg j))
  let (abs, rel) := s.voteThrs (i / 3)
  let ok := s.excluded i && (quantChans (i / 3)).all s.chanValid && others.all (fun j => !s.excluded j)
    && !disagrees vals abs rel (s.getI (chanReg i))
  let n := if ok then (s.meas.agree[i]?).getD 0 + 1 else 0
  { s with meas := { s.meas with agree := s.meas.agree.set i n } }

/-- CH_READMITTED (R175): an excluded channel (0 to 5) returns to use. -/
def execChReadmitted (chan : Nat) (s : State) : Step :=
  let others := (quantChans (chan / 3)).filter (fun j => j != chan)
  if s.live && chan < 6 && s.excluded chan && s.power == 0 && s.flag Fld.VOTE_READMIT_ENABLE
      && others.all (fun j => !s.excluded j)
      && decide (100000 * s.getF Fld.VOTE_READMIT_AGREE_S ≤ (s.meas.agree[chan]?).getD 0) then
    let s := (s.setF (chStateFld chan) 0).setF (chCountFld chan) 0
    let s := { s with meas := { s.meas with agree := s.meas.agree.set chan 0 } }
    .next (s.raise Ev.VOTE_CH_READMITTED).exclLost.exclEllipsis
  else .next s

/-! ### What a voted sample sets in motion -/

/-- The current and string voltage Margins on a voted sample (R309, R311); a quantity whose validity flag is 0 counts as
missing. -/
def State.voteMargins (s : State) : State :=
  if s.record.isNone then s
  else
    let nc := s.getF Fld.MRG_FILT_CUR_N
    let nv := s.getF Fld.MRG_FILT_VSTR_N
    let s := if s.flag Fld.VOTE_CH_STATE_CUR_VALID then
        let s := s.marginCheck 0x08 0 nc (decide ((s.getF Fld.MRG_I_MAX_ICHG_MAX * 100 : Nat) < s.getI Reg.VOTE_CUR_HIGH))
        s.marginCheck 0x09 0 nc (decide ((s.getF Fld.MRG_I_MAX_IDIS_MAX * 100 : Nat) < -s.getI Reg.VOTE_CUR_LOW))
      else s
    if s.flag Fld.VOTE_CH_STATE_V_VALID then
      let s := s.marginCheck 0x06 0 nv (decide ((s.getF Fld.MRG_VSTR_VSTR_MAX * 100 : Nat) < s.getI Reg.VOTE_V_HIGH))
      s.marginCheck 0x07 0 nv (decide (s.getI Reg.VOTE_V_LOW < (s.getF Fld.MRG_VSTR_VSTR_MIN * 100 : Nat)))
    else s

/-- A 64-bit quantity held in two registers, low word at `a`. -/
def State.get64 (s : State) (a : Nat) : Nat := s.getReg a + 2 ^ 32 * s.getReg (a + 4)

/-- A 64-bit quantity takes a value, wrapping. -/
def State.set64 (s : State) (a v : Nat) : State := (s.setReg a v).setReg (a + 4) (v / 2 ^ 32)

/-- The charge accumulators (R181). -/
def State.charge (s : State) : State :=
  if s.flag Fld.VOTE_CH_STATE_CUR_VALID then
    let i := s.getI Reg.VOTE_CUR_VOTED
    let s := s.set64 Reg.MEAS_CHG_ACC_LO (toU 64 ((s.get64 Reg.MEAS_CHG_ACC_LO : Int) + i))
    let s := if 0 ≤ i then s.set64 Reg.MEAS_CHG_IN_LO (s.get64 Reg.MEAS_CHG_IN_LO + i.natAbs)
      else s.set64 Reg.MEAS_CHG_OUT_LO (s.get64 Reg.MEAS_CHG_OUT_LO + i.natAbs)
    { s with meas := { s.meas with lastValid := true } }
  else
    let s := (s.countUp Reg.MEAS_CHG_GAP).raiseIf s.meas.lastValid Ev.MEAS_CHG_GAP
    { s with meas := { s.meas with lastValid := false } }

/-- The Full Stop sequencer on a voted sample (R317, R318): the envelope moves, the current is held against it, and below
5 A drive is removed and the contactors open. -/
def State.fsSample (s : State) : State :=
  if !s.flag Fld.SAFE_STATE_FS_ACTIVE || s.power == 0 || s.getF Fld.DRV_CONT_STEP == 9 then s
  else if s.flag Fld.SAFE_STATE_NO_RAMP then
    if s.flag Fld.VOTE_CH_STATE_CUR_VALID && s.below5 then s.openContactors else s
  else
    let l := s.profLimits Src.fullStop
    let p := profileStep l.1 l.2.1 l.2.2 F64.zero s.safe.envR s.safe.envV s.safe.envA
    let s := { s with safe := { s.safe with envR := p.1, envV := p.2.1, envA := p.2.2.1 } }
    let rated := s.getReg Reg.SAFE_I_RATED
    let s := s.setI Reg.SAFE_ENVELOPE (divEither (20 * ((aToMa p.1).natAbs : Int) + rated) 20)
    if !s.flag Fld.VOTE_CH_STATE_CUR_VALID then s
    else if s.below5 then ((s.setF Fld.SAFE_STATE_FS_STEP 3).removeDrive true).openContactors
    else if F64.lt (F64.mul p.1.abs (F64.ofInt 20000)) (F64.ofInt (20 * (s.magnitude : Int) - rated)) then
      if s.variant == .C then s.reduceMissed else (s.raise Ev.SAFE_RAMP_FAILED).noRampPath
    else s

/-- A normal stop or an abort on a voted sample (R34): with the setpoint ramped to zero (the plant's ramp in a VB-2064-C), the
current below 5 A and the other functions OFF, drive is removed and the contactors open; a VB-2064-C also drops DRIVE_EN, as R300
has it. -/
def State.stopSample (s : State) : State :=
  if s.mode.row == 11 && s.power == 3 && s.getF Fld.DRV_CONT_STEP != 9 && s.flag Fld.VOTE_CH_STATE_CUR_VALID && s.below5
      && (s.variant == .C || s.prof.r.m == 0) && s.getReg Reg.MODE_FUNC_STATE % 256 / 4 == 0 then
    (s.removeDrive (s.variant == .C)).openContactors
  else s

/-- SAMPLE_SEQ and SAMPLE_TIME of the voted sample (R170), and its place among the last samples. -/
def State.sampleNo (s : State) : State :=
  let s := if s.meas.published then s.wrapReg Reg.VOTE_SAMPLE_SEQ else s
  let s := s.setReg Reg.VOTE_SAMPLE_TIME s.stamp
  let h := (s.stamp, s.getI Reg.VOTE_V_VOTED, s.getI Reg.VOTE_CUR_VOTED) :: s.meas.hist
  let loud := decide (s.getReg Reg.SAFE_C_CURRENT ≤ 10 * (s.getI Reg.VOTE_CUR_VOTED).natAbs)
  { s.arrive (srcKey 0xFF) with meas := { s.meas with published := true, hist := h.take 64, loudNs := if loud then some s.localNs else s.meas.loudNs } }

/-- The estimation engine's own count of charge between two updates (R194, R199): the voted currents with CUR_VALID at 1, the
number of samples without it, and the last samples themselves. -/
def State.estCount (s : State) : State :=
  let v := s.flag Fld.VOTE_CH_STATE_CUR_VALID
  let i := s.getI Reg.VOTE_CUR_VOTED
  { s with est := { s.est with
    charge := if v then s.est.charge + i else s.est.charge, gaps := if v then s.est.gaps else s.est.gaps + 1,
    recent := ((s.stamp, if v then some i else none) :: s.est.recent).take 64 } }

/-- VOTED_SAMPLE (R170): one 10 µs window. -/
def State.voted (s : State) (f : ChanFrame) : State :=
  let s := (s.measWindow f).exclEllipsis
  let s := (s.voteQuant 0).voteQuant 1
  let s := s.sampleNo
  let s := s.setReg (Folio.STATUS Pg.VOTE) (s.getReg Reg.VOTE_CH_STATE % 4)
  let s := [0, 1, 2, 3, 4, 5].foldl State.agreeCount s
  let s := ((s.voteMargins.charge).estCount).asyCurrent
  let s := (s.seqVoted.fsSample).stopSample
  s.driveLoops.progress

/-- The start-up sequence has stopped at step 4 (R76): the safety complex does not run. -/
def State.stopped4 (s : State) : Bool := s.phase == .starting && s.getF Fld.AUX_START_STATUS_STEP == 3

/-- VOTED_SAMPLE (R170). -/
def execVotedSample (chans : ChanFrame) (s : State) : Step := .next (if s.live && !s.stopped4 then s.voted chans else s)

/-! ### Offset calibration (R168) -/

/-- OFFSET_CAL_START (R168): 100 ms after the contactors have opened in SURVEY. -/
def execOffsetCalStart (s : State) : Step :=
  .next (if s.live && s.cur == Md.survey && !s.flag Fld.MODE_STATE_CONTACTORS && s.power == 0 then
    { s with meas := { s.meas with calibrating := true, cal := List.replicate 3 (0, 0) } } else s)

/-- OFS_LIM of the Plant Record, mA. -/
def State.ofsLim (s : State) : Nat := (s.record.map (·.ofsLim)).getD 0

/-- The mean in units of 10 mA; where it is not whole, R168 states no rounding and it is free between its neighbours. -/
def State.calMean (s : State) (n : Nat) (sum : Int) : Int × State :=
  let d : Int := 10 * n
  if sum % d = 0 then (sum / d, s) else (sum / d + (if Config.freeBool s.freeCtr then 1 else 0), s.fresh)

/-- The outcome of a calibration for current channel `i` with `n` complete windows summing to `sum` mA. -/
def State.calOne (s : State) (i n : Nat) (sum : Int) : State :=
  if n < 90000 then s.raise Ev.MEAS_OFFSET_SKIPPED
  else
    let high : Fld := ⟨Reg.MEAS_CH_FLAGS, 16 + i, 16 + i⟩
    if s.ofsLim * n < sum.natAbs then (s.setB high true).raise Ev.MEAS_OFFSET_HIGH
    else
      let (m, s) := s.calMean n sum
      let w := toU 16 (satS 16 m)
      let s := match i with
        | 0 => s.setF Fld.MEAS_OFS_AB_OFS_A w
        | 1 => s.setF Fld.MEAS_OFS_AB_OFS_B w
        | _ => s.setReg Reg.MEAS_OFS_C w
      (s.setB high false).raise Ev.MEAS_OFFSET_DONE

/-- Count and sum of the complete windows of each current channel: those of the samples and `more`. -/
def State.calTotal (s : State) (more : List (Nat × Int)) : List (Nat × Int) :=
  (withIdx 0 s.meas.cal).map (fun (p : Nat × Nat × Int) =>
    (p.2.1 + ((more[p.1]?).getD (0, 0)).1, p.2.2 + ((more[p.1]?).getD (0, 0)).2))

/-- OFFSET_CAL_END (R168): 1 s after its start the outcome for each current channel; an abandoned calibration changes nothing.
`sums` holds count and sum, for each channel with ofs at 0, over the windows of that second that came in no VOTED_SAMPLE. -/
def execOffsetCalEnd (sums : List (Nat × Int)) (s : State) : Step :=
  if s.live && s.meas.calibrating then
    let s := { s with meas := { s.meas with calibrating := false } }
    .next ((withIdx 0 (s.calTotal sums)).foldl (fun s (p : Nat × Nat × Int) => s.calOne p.1 p.2.1 p.2.2) s)
  else .next s

/-! ### Insulation monitoring (R178 to R180) -/

/-- The state after a result (R179): ALARM and WARN at or below their levels, left when a result exceeds the level by 25 %. -/
def imdNext (old riso warn alarm : Nat) : Nat :=
  if riso ≤ alarm || (old == 3 && riso * 4 ≤ alarm * 5) then 3
  else if riso ≤ warn || ((old == 2 || old == 3) && riso * 4 ≤ warn * 5) then 2
  else 1

/-- IMD_DONE (R178): a half-period result, R_ISO in kΩ, capacitance in nF, fault location in %. -/
def execImdDone (riso cap loc : Nat) (s : State) : Step :=
  if s.live && s.imdInjects then
    let r := if 20000 < riso then 20001 else riso
    let s := s.setF Fld.MEAS_IMD_RESULT_RISO_KOHM r
    let s := s.setF Fld.MEAS_IMD_DETAIL_CAP_NF (if 5000 < cap then 0xFFFF else cap)
    let s := s.setF Fld.MEAS_IMD_DETAIL_LOCATION (if 100 < loc then 0xFF else loc)
    let s := { s with meas := { s.meas with imdAt := some s.localNs } }.raise Ev.MEAS_IMD_DONE
    let old := s.getF Fld.MEAS_IMD_RESULT_STATE
    if s.meas.loopOpen then .next s
    else
      let st := imdNext old r (s.getF Fld.MEAS_IMD_LEVELS_WARN_KOHM) (s.getF Fld.MEAS_IMD_LEVELS_ALARM_KOHM)
      let s := s.raiseIf (st == 2 && old != 2) Ev.MEAS_IMD_WARN
      let s := s.raiseIf (st == 3 && old != 3) Ev.MEAS_IMD_ALARM
      .next (s.imdState st)
  else .next s

/-- IMD_CONN_FAULT (R178): the chassis loop has exceeded 1 kΩ for 1 s, whatever the monitor does at that time. -/
def execImdConnFault (s : State) : Step :=
  if s.live then
    .next (({ s with meas := { s.meas with loopOpen := true } }).raiseIf (!s.meas.loopOpen) Ev.MEAS_IMD_CONN_FAULT).imdRefresh
  else .next s

/-- CHASSIS_LOOP_CLOSED (R178): the loop closes again, and the monitor leaves CONN_FAULT. -/
def execChassisLoopClosed (s : State) : Step :=
  if s.live then .next { s with meas := { s.meas with loopOpen := false } }.imdRefresh else .next s

/-- IMD_START (R183): the cycle in progress is discarded and a new one starts. -/
def execImdStart (master : Nat) (s : State) : Step :=
  .next (s.permit master Reg.MEAS_IMD_CTL (fun s =>
    if s.imdInjects then { s with meas := { s.meas with imdCycle := s.meas.imdCycle + 1 } } else s))

/-- IMD_HOLDER_START (R180): 1 s after a change of holder the new holder starts a fresh cycle. -/
def execImdHolderStart (s : State) : Step :=
  if s.live && s.meas.imdWait && s.imdForced.isNone then
    let s := { s with meas := { s.meas with imdWait := false, imdCycle := s.meas.imdCycle + 1 } }
    .next (if s.meas.loopOpen then s else s.imdState 0)
  else .next s

/-! ### Charge -/

/-- CHG_CLR (R181): the keyed write zeroes CHG_ACC and CHG_GAP. -/
def execChgClr (master value : Nat) (s : State) : Step :=
  .next (s.permitKeyed master Reg.MEAS_CHG_CLR 0x1F6A Ev.SYS_OWNER_DENIED (fun s =>
    if bitOf value 0 then (s.set64 Reg.MEAS_CHG_ACC_LO 0).setReg Reg.MEAS_CHG_GAP 0 else s))

/-- CHG_IN and CHG_OUT are written to MRAM. -/
def State.chgToMram (s : State) : State :=
  (((s.toMram Reg.MEAS_CHG_IN_LO).toMram Reg.MEAS_CHG_IN_HI).toMram Reg.MEAS_CHG_OUT_LO).toMram Reg.MEAS_CHG_OUT_HI

/-- CHG_STORE (R181): every 1 s. -/
def execChgStore (s : State) : Step := .next (if s.live then s.chgToMram else s)

end Sys2Proof.Machine
end

