-- ==== Sys2Proof/Machine/Integrity.lean ====
section
/-! DEFINITION. Cell measurement integrity (R137 to R144, R157, R158): the proof comparison, the pair signature, the
classification of marks, the estimates of suspect cells, what is unmonitored; and the cell and temperature Margins on an
accepted slot (R309 to R311). -/

namespace Sys2Proof.Machine

/-! ### Positions -/

/-- The node count N of the Plant Record (R90). -/
def State.nodes (s : State) : Nat := match s.record with
  | some r => r.positions.length
  | none => 0

/-- Position `i` (from 1) as the master knows it. -/
def State.posAt (s : State) (i : Nat) : Position := if i = 0 then Position.reset else (s.chain.pos[i - 1]?).getD Position.reset

/-- Position `i` (from 1) is changed by `f`. -/
def State.posMod (s : State) (i : Nat) (f : Position → Position) : State :=
  if i = 0 then s else { s with chain := { s.chain with pos := s.chain.pos.modify (i - 1) f } }

/-- What an unlisted position of the Plant Record holds. -/
def PosRec.blank : PosRec := ⟨0, 0, 0, [], [], 0, [], 0⟩

/-- Position `i` (from 1) of the Plant Record. -/
def State.recAt (s : State) (i : Nat) : PosRec := match s.record with
  | some r => if i = 0 then PosRec.blank else (r.positions[i - 1]?).getD PosRec.blank
  | none => PosRec.blank

/-- The positions 1 to N. -/
def State.allPos (s : State) : List Nat := (List.range s.nodes).map (· + 1)

/-- Position maps: bit `i − 1` of the _LO register for 1 to 32, bit `i − 33` of the _HI register above (R135). -/
def State.mapSet (s : State) (lo i : Nat) (b : Bool) : State :=
  if i = 0 then s
  else if i ≤ 32 then s.setB ⟨lo, i - 1, i - 1⟩ b else s.setB ⟨lo + 4, i - 33, i - 33⟩ b

/-- The bit of a position in a map. -/
def State.mapGet (s : State) (lo i : Nat) : Bool :=
  if i = 0 then false else if i ≤ 32 then bitOf (s.getReg lo) (i - 1) else bitOf (s.getReg (lo + 4)) (i - 33)

/-- A map takes the positions for which `f` holds. -/
def State.mapAll (s : State) (lo : Nat) (f : Nat → Bool) : State :=
  let s := (s.setReg lo 0).setReg (lo + 4) 0
  s.allPos.foldl (fun s i => if f i then s.mapSet lo i true else s) s

/-- The numbers, from 1, of the set bits of a mask of `n` bits. -/
def maskNums (n m : Nat) : List Nat := ((List.range n).filter (bitOf m)).map (· + 1)

/-- The populated cells of position `i` (R103). -/
def State.cellsOf (s : State) (i : Nat) : List Nat := maskNums 16 (s.recAt i).cellMask

/-- The cell index (R187): populated cells numbered from 0 by position and cell number. -/
def State.cellIndex (s : State) (i n : Nat) : Nat :=
  ((List.range (i - 1)).map (fun j => (s.cellsOf (j + 1)).length)).sum + ((s.cellsOf i).filter (· < n)).length

/-- Two bytes, big-endian, at offset `i`. -/
def be16 (bs : List Nat) (i : Nat) : Nat := (bs[i]?).getD 0 % 256 * 256 + (bs[i + 1]?).getD 0 % 256

/-- `n` big-endian pairs of bytes from offset `i`. -/
def be16s (bs : List Nat) (i n : Nat) : List Nat := (List.range n).map (fun k => be16 bs (i + 2 * k))

/-- The voltage of cell `n` in the last sampled slot, in 100 µV. -/
def Position.v (p : Position) (n : Nat) : Int := ((p.volts[n - 1]?).getD 0 : Nat)

/-- The sample of a sweep at position `i` was LATE (R115, R126). -/
def Sweep.lateAt (sw : Sweep) (i : Nat) : Bool := sw.latePos.contains i || sw.offsets.any (fun o => o.1 == i && decide (1000 < o.2))

/-! ### Estimates for suspect cells (R143) -/

/-- The proof sum of the last sweep is usable (R139, R143). -/
def Position.proofValid (p : Position) : Bool := bitOf p.pstat 15 && !bitOf p.pstat 14

/-- The wire of the suspect pair that holds cell `n`, with its bound. -/
def Position.pairOf (p : Position) (n : Nat) : Option (Nat × Nat) := p.pairs.find? (fun w => w.1 == n || w.1 + 1 == n)

/-- Cell `n` of position `i` is suspect and has no value for the safety checks (R143). -/
def State.noEstimate (s : State) (i n : Nat) : Bool :=
  let p := s.posAt i
  bitOf p.suspect (n - 1) &&
  (p.proofFault || (p.singles.contains n && (2 ≤ p.singles.length || !p.proofValid)))

/-- Twice the value of cell `n` that the safety checks use, in 100 µV, and its bound b (R143); `none` where there is none. -/
def State.cellValue2 (s : State) (i n : Nat) : Option (Int × Nat) :=
  let p := s.posAt i
  if !bitOf p.suspect (n - 1) then some (2 * p.v n, 0)
  else if s.noEstimate i n then none
  else match p.pairOf n with
    | some (k, b) => some (p.v k + p.v (k + 1), b)
    | none =>
      let others := ((s.cellsOf i).filter (· != n)).map p.v
      some (2 * ((p.proofP : Int) - others.sum), p.proofT)

/-- The number of unmonitored populated cells of position `i` (R122, R128, R143, R147, R149). -/
def State.unmonOf (s : State) (i : Nat) : Nat :=
  let p := s.posAt i
  if p.state == 3 || p.state == 4 || p.compBad || p.owUnmon then (s.cellsOf i).length
  else ((s.cellsOf i).filter (s.noEstimate i)).length

/-- The Ellipsis causes of marks and unmonitored cells, the position maps of the BAL page in MRAM, and the judgement of R315
are taken up after a change. -/
def State.remark (s : State) : State :=
  let marked := fun i => (s.posAt i).suspect != 0 || (s.posAt i).proofFault
  let stuck := fun i => (s.posAt i).stuck
  let old := [s.getReg Reg.BAL_SUSPECT_LO, s.getReg Reg.BAL_SUSPECT_HI, s.getReg Reg.BAL_STUCK_LO, s.getReg Reg.BAL_STUCK_HI]
  let s := (s.mapAll Reg.BAL_SUSPECT_LO marked).mapAll Reg.BAL_STUCK_LO stuck
  let new := [s.getReg Reg.BAL_SUSPECT_LO, s.getReg Reg.BAL_SUSPECT_HI, s.getReg Reg.BAL_STUCK_LO, s.getReg Reg.BAL_STUCK_HI]
  let s := if old == new then s
    else (((s.toMram Reg.BAL_SUSPECT_LO).toMram Reg.BAL_SUSPECT_HI).toMram Reg.BAL_STUCK_LO).toMram Reg.BAL_STUCK_HI
  let both := s.chain.pos.any (fun p => p.suspect != 0 && p.proofFault)
  let un := (s.allPos.map s.unmonOf).sum
  let s := { s with safe := { s.safe with unmon := un, bothMarks := both } }
  let s := s.holdCause 0x24 (s.chain.pos.any (fun p => p.suspect != 0))
  let s := s.holdCause 0x25 (s.chain.pos.any (·.proofFault))
  let s := s.holdCause 0x26 (s.chain.pos.any (·.stuck))
  (s.holdCause 0x23 (un != 0)).rejudge

/-! ### Marks (R142) -/

/-- A pending clear of a position's marks is denied (R144). -/
def State.clearDenied (s : State) (i : Nat) : State :=
  (s.posMod i (fun p => { p with clr := 0, clrProofs := 0 })).raise Ev.BAL_SUSPECT_CLR_DENIED

/-- The arrival of a marking at a position (R160). -/
abbrev markKey (i : Nat) : Nat := 256 + i

/-- A marking that arises on a position while its clear is pending denies the clear (R144), and a clear written in the same CLK_FAB
cycle sees it (R160). -/
def State.newMark (s : State) (i : Nat) : State :=
  let s := s.arrive (markKey i)
  if (s.posAt i).clr != 0 then s.clearDenied i else s

/-- The signature that a test's report classifies: one that arose before the test was commanded (R142, R146). -/
def Position.sigSeen (p : Position) : Option Nat := if p.sigNew then none else p.sigWire

/-- The mismatch that a test's report classifies (R142, R146). -/
def Position.misSeen (p : Position) : Bool := p.proofBad && !p.misNew

/-- The readings of the last sweep before the starting sweep (R143): that of the signature, of the first mismatch, or of the
periodic, C6 or OWT_NOW test. -/
def Position.base (p : Position) : List Nat :=
  if p.sigSeen.isSome then p.sigBase else if p.misSeen then p.misBase else p.testBase

/-- The bound of a suspect pair (R143). The readings before the starting sweep are unstated where there was none. -/
def State.pairBound (s : State) (i k : Nat) : Nat × State :=
  let p := s.posAt i
  let (diff, s) := match p.base with
    | [] => (Config.freeValue s.freeCtr, s.fresh)
    | e => ((((e[k - 1]?).getD 0 : Nat) - ((e[k]?).getD 0 : Nat) : Int).natAbs, s)
  (max (s.getF Fld.BAL_SIG_CFG_SPLIT_BOUND * 10) (diff + 100), s)

/-- Cells `k` and `k + 1` of position `i` are marked as a pair. -/
def State.markPair (s : State) (i k : Nat) : State :=
  if (s.posAt i).pairs.any (fun w => w.1 == k) then s
  else
    let (b, s) := s.pairBound i k
    let s := s.posMod i (fun p => { p with pairs := p.pairs ++ [(k, b)], suspect := p.suspect ||| (2 ^ (k - 1) + 2 ^ k) })
    (s.raise Ev.BAL_SENSE_SUSPECT).newMark i

/-- Cell `j` of position `i` is marked for the proof remainder. -/
def State.markSingle (s : State) (i j : Nat) : State :=
  if (s.posAt i).singles.contains j then s
  else
    let s := s.posMod i (fun p => { p with singles := p.singles ++ [j], suspect := p.suspect ||| 2 ^ (j - 1) })
    (s.raise Ev.BAL_SENSE_SUSPECT).newMark i

/-- Position `i` is marked PROOF_FAULT. -/
def State.markProof (s : State) (i : Nat) : State :=
  if (s.posAt i).proofFault then s
  else ((s.posMod i (fun p => { p with proofFault := true })).raise Ev.BAL_PROOF_MISMATCH).newMark i

/-- Cells the node of position `i` provides, from its ENUM record (R109). -/
def State.nodeCells (s : State) (i : Nat) : Nat := bitsOf (s.posAt i).caps 15 8

/-- One flagged wire marks its cells: an interior wire two, an end wire one (R142). -/
def State.markWire (s : State) (i k : Nat) : State :=
  let c := s.nodeCells i
  if k == 0 then s.markSingle i 1 else if k == c then s.markSingle i c else if k < c then s.markPair i k else s

/-- The classification of R142 for position `i` after its open-wire test. Flagged wires govern; of the proof wires PB and PT the
table names only the proof path fault, which they then mean with any observation (assumption log 110); with nothing flagged, the
observation decides. -/
def State.classify (s : State) (i : Nat) : State :=
  let p := s.posAt i
  let wires := (List.range 17).filter (bitOf p.owFlags)
  let proofWire := bitOf p.owFlags 17 || bitOf p.owFlags 18
  let s := if !wires.isEmpty then wires.foldl (fun s k => s.markWire i k) s
    else if proofWire then (if p.misSeen || p.sigSeen.isSome then s.markProof i else s)
    else if p.misSeen then
      match maskNums 16 p.steps with
      | [] => s.markProof i
      | cells => cells.foldl (fun s j => s.markSingle i j) s
    else match p.sigSeen with
      | some k => s.markPair i k
      | none => s
  (s.posMod i (fun p => if p.sigNew then p else { p with sigWire := none })).remark

/-! ### The checks of an accepted FULL or FAST slot (R140, R141) -/

/-- The steps Δn against the previous sweep of the same kind, of the populated cells: (cell, Δ). -/
def stepsOf (cells : List Nat) (old new : List Nat) : List (Nat × Int) :=
  cells.map (fun n => (n, ((new[n - 1]?).getD 0 : Int) - ((old[n - 1]?).getD 0 : Int)))

/-- The interior wire of a pair signature, if the steps show one (R141): S in 100 µV. -/
def pairSig (steps : List (Nat × Int)) (S : Nat) : Option Nat :=
  (steps.find? (fun (p : Nat × Int) =>
    decide (p.2 ≤ -(S : Int)) &&
    steps.any (fun (q : Nat × Int) => q.1 == p.1 + 1 && decide ((S : Int) ≤ q.2) && decide (4 * (p.2 + q.2).natAbs ≤ S)) &&
    steps.all (fun (q : Nat × Int) => q.1 == p.1 || q.1 == p.1 + 1 || decide (q.2.natAbs < S)))).map (·.1)

/-- The mask of the cells that step by S or more. -/
def stepMask (steps : List (Nat × Int)) (S : Nat) : Nat :=
  ((steps.filter (fun (p : Nat × Int) => decide (S ≤ p.2.natAbs))).map (fun p => 2 ^ (p.1 - 1))).sum

/-- The tolerance t of R140 for a proof sum in 100 µV. -/
def State.proofTol (s : State) (pr : Nat) : Nat :=
  s.getF Fld.BAL_PROOF_TOL_PT_ABS * 10 + pr * s.getF Fld.BAL_PROOF_TOL_PT_REL / 1000000

/-- The proof comparison of R140 for position `i`, whose proof sum has been taken in; `mask` is the sweep's step mask. The second
sweep in a row that fails it is a mismatch; a mismatch that arises while a test runs is served by a later one (R146). -/
def State.proofCompare (s : State) (i mask : Nat) : State :=
  let p := s.posAt i
  let d := ((s.cellsOf i).map p.v).sum - (p.proofP : Int)
  let s := s.posMod i (fun p => { p with proofDiff := d })
  if decide (d.natAbs ≤ p.proofT) && p.proofValid then
    s.posMod i (fun p => { p with proofMis := 0, proofBad := false, clrProofs := if p.clr == 3 then p.clrProofs + 1 else 0 })
  else
    let first := p.proofMis == 0
    let s := s.posMod i (fun p => { p with
      clrProofs := 0, proofMis := min 2 (p.proofMis + 1), steps := if first then mask else p.steps,
      misBase := if first then p.prev else p.misBase })
    if p.proofMis == 1 && !p.proofBad then
      let running := s.bal.owtRunning
      ((s.posMod i (fun p => { p with proofBad := true, misNew := running })).raise Ev.BAL_PROOF_MISMATCH).wantOwt
    else s

/-- The voltages and the proof sum of a sampled FULL (kind 1) or FAST (kind 2) slot of position `i` are taken in and
checked. -/
def State.integrity (s : State) (i kind : Nat) (bytes : List Nat) (late : Bool) : State :=
  let p := s.posAt i
  let new := be16s bytes 4 16
  let prev := if kind == 1 then p.full else p.fast
  let pr := be16 bytes 36 * 20
  let t := s.proofTol pr
  let running := s.bal.owtRunning
  let S := s.getF Fld.BAL_SIG_CFG_SIG_STEP * 10
  let steps := match prev with
    | some old => stepsOf (s.cellsOf i) old new
    | none => []
  let s := s.posMod i (fun p => { p with
    volts := new, prev := p.volts, proofP := pr, proofT := t, full := if kind == 1 then some new else p.full,
    fast := if kind == 2 then some new else p.fast, pstat := if kind == 1 then be16 bytes 38 else p.pstat })
  let s := match pairSig steps S with
    | some k => ((s.posMod i (fun p => { p with sigWire := some k, sigNew := running, sigBase := p.prev })).raise
        Ev.BAL_PAIR_SIGNATURE).wantOwt
    | none => s
  if late then s else s.proofCompare i (stepMask steps S)

/-! ### Margins of cells and temperatures (R309 to R311) -/

/-- The cell Margins on a sampled slot of position `i`: each populated cell's value, with its bound where it is suspect. -/
def State.cellMargins (s : State) (i : Nat) : State :=
  let nv := s.getF Fld.MRG_FILT_VCELL_N
  (s.cellsOf i).foldl (fun s n => match s.cellValue2 i n with
    | none => s
    | some (v2, b) =>
      let set := ((s.recAt i).sets[n - 1]?).getD 0
      let k := s.cellIndex i n
      let s := s.marginCheck 0x02 k nv (decide ((2 * s.getF (Fld.MRG_SET_VCELL_MAX set) : Nat) < v2 + 2 * b))
      s.marginCheck 0x03 k nv (decide (v2 - 2 * b < (2 * s.getF (Fld.MRG_SET_VCELL_MIN set) : Nat)))) s

/-- The temperature limits (MAX, MIN) of a parameter set in the present direction (R310). -/
def State.tempLimits (s : State) (set : Nat) : Int × Int :=
  let f := fun (x : Fld) => sInt 16 (s.getF x)
  let cm := f (Fld.MRG_SET_TCHG_MAX set)
  let cn := f (Fld.MRG_SET_TCHG_MIN set)
  let dm := f (Fld.MRG_SET_TDIS_MAX set)
  let dn := f (Fld.MRG_SET_TDIS_MIN set)
  let band : Int := 100 * (s.getReg Reg.MRG_DIR_BAND % 65536 : Nat)
  if band < s.getI Reg.VOTE_CUR_LOW then (cm, cn)
  else if s.getI Reg.VOTE_CUR_HIGH < -band then (dm, dn)
  else (min cm dm, max cn dn)

/-- The temperature Margins on a sampled slot of position `i`: each input in use against the sets of its cells. -/
def State.tempMargins (s : State) (i : Nat) : State :=
  let n := s.getF Fld.MRG_FILT_T_N
  (maskNums 8 (s.recAt i).tempMask).foldl (fun s k =>
    let t := ((s.posAt i).temps[k - 1]?).getD 0
    let cells := (maskNums 16 (((s.recAt i).tempCells[k - 1]?).getD 0)).filter ((s.cellsOf i).contains ·)
    let lims := cells.map (fun c => s.tempLimits (((s.recAt i).sets[c - 1]?).getD 0))
    let key := 32768 + (i - 1) * 8 + (k - 1)
    let s := s.marginCheck 0x04 key n (lims.any (fun l => decide (l.1 < t)))
    s.marginCheck 0x05 key n (lims.any (fun l => decide (t < l.2)))) s

/-! ### Bleed states and node temperature (R157, R158) -/

/-- A sampled slot of position `i` shows which bleed switches were closed: the cells are disturbed, the position gets ON_TIME
0 until a slot shows all open; the same cell in three sweeps in a row marks BLEED_STUCK (R157). -/
def State.bleedSeen (s : State) (i m : Nat) : State :=
  let p := s.posAt i
  let three := match p.closed with
    | a :: b :: _ => m &&& a &&& b
    | _ => 0
  let s := s.posMod i (fun p => { p with disturbed := m, hold := m != 0, closed := (m :: p.closed).take 2 })
  if three != 0 && !p.stuck then
    (((s.posMod i (fun p => { p with stuck := true })).raise Ev.BAL_BLEED_STUCK).newMark i).remark
  else s

/-- NODE_TEMP of position `i` (0.1 °C) against BAL.NODE_TEMP_LIM (R158). -/
def State.nodeHot (s : State) (i : Nat) (t : Int) : State :=
  let lim := sInt 16 (s.getReg Reg.BAL_NODE_TEMP_LIM)
  let p := s.posAt i
  let s := s.posMod i (fun p => { p with nodeTemp := t })
  if decide (lim ≤ t) && !p.hot then (s.posMod i (fun p => { p with hot := true })).raise Ev.BAL_NODE_HOT
  else if p.hot && decide (t ≤ lim - 50) then s.posMod i (fun p => { p with hot := false })
  else s

end Sys2Proof.Machine
end

