-- ==== Sys2Proof/Machine/Estim.lean ====
section
/-! DEFINITION. The commands of *The Estimation Engine* (R187 to R227): the used sweeps, the update of every cell, reported
state of charge, declarations, warnings, capacity learning, anchors, the shadow and the view of the Cell Record Table. -/

namespace Sys2Proof.Machine

/-! ### Cells -/

/-- The populated cells in the order of the cell index (R187): (position, cell number). -/
def State.cellList (s : State) : List (Nat × Nat) := s.allPos.flatMap (fun i => (s.cellsOf i).map (fun n => (i, n)))

/-- A parameter set with every number 0. -/
def PSet.zero : PSet :=
  ⟨0, 0, 0, 0, F64.zero, F64.zero, F64.zero, F64.zero, F64.zero, F64.zero, F64.zero, 0, F64.zero, F64.zero, F64.zero,
   F64.zero, F64.zero, F64.zero, [], F64.zero, F64.zero, [], [], 0, [], F64.zero, F64.zero⟩

/-- The number of the parameter set of a cell (R191). -/
def State.psetNo (s : State) (c : Nat × Nat) : Nat := ((s.recAt c.1).sets[c.2 - 1]?).getD 0

/-- Parameter set `k` of the Plant Record. -/
def State.pset (s : State) (k : Nat) : PSet := match s.record with
  | some r => (r.psets[k]?).getD PSet.zero
  | none => PSet.zero

/-- The capacity basis of cell index `k`, mA·s; Q_NOM where none has been committed. -/
def State.basisOf (s : State) (k : Nat) (set : PSet) : Nat := (s.est.basis[k]?).getD set.qNom

/-- The temperature input that the Plant Record assigns to a cell: its latest value in 0.01 °C. -/
def State.surfOf (s : State) (c : Nat × Nat) : Int :=
  match (maskNums 8 (s.recAt c.1).tempMask).find? (fun k =>
      bitOf (((s.recAt c.1).tempCells[k - 1]?).getD 0) (c.2 - 1)) with
  | some k => ((s.posAt c.1).temps[k - 1]?).getD 0
  | none => 0

/-- 0.01 °C as K. -/
def kelvin (t : Int) : F64 := F64.rat (t + 27315) 100

/-! ### The used sweeps (R193, R194) -/

/-- The update rate in Hz and the sweeps per update (R193). -/
def State.estRate (s : State) : Nat × Nat :=
  let m := if s.cur == Md.stopping then s.getF Fld.MODE_STATE_PREV else s.cur
  if m == Md.survey then (10, 10) else if m == Md.level then (10, 1)
  else if m == Md.dispatch || m == Md.ellipsis then (50, 2) else if m == Md.assay then (50, 80) else (0, 0)

/-- The charge of the voted samples that end after an instant, and the number of invalid ones among them. -/
def tailOf (recent : List (Nat × Option Int)) (instant : Nat) : Int × Nat :=
  let after := recent.filter (fun r => 0 < (r.1 + 2 ^ 32 - instant) % 2 ^ 32 && (r.1 + 2 ^ 32 - instant) % 2 ^ 32 < 2 ^ 31)
  ((after.map (fun r => r.2.getD 0)).sum, (after.filter (fun r => r.2.isNone)).length)

/-- What a sweep measured of a cell (R197). -/
def State.cellMeas (s : State) (sw : Sweep) (c : Nat × Nat) : CellMeas :=
  let p := s.posAt c.1
  let v := (s.cellValue2 c.1 c.2).getD (2 * p.v c.2, 0)
  let case := if p.state == 3 || p.state == 4 then 3
    else if !sw.sampled.contains c.1 then 4
    else if bitOf p.disturbed (c.2 - 1) then 5
    else if s.noEstimate c.1 c.2 then 6
    else if bitOf p.suspect (c.2 - 1) then 1
    else if sw.lateAt c.1 then 2 else 0
  ⟨case, v.1, v.2, s.surfOf c⟩

/-- The comparator flag of a cell in its position's last slot: `ov` for OV_FLAGS, else UV_FLAGS (R103, R104). -/
def State.flagOf (s : State) (ov : Bool) (c : Nat × Nat) : Bool :=
  let b := (s.posAt c.1).bytes
  let at' := if b[1]? == some 1 then (if ov then 56 else 58) else if ov then 38 else 40
  !b.isEmpty && bitOf (be16 b at') (c.2 - 1)

/-- What the engine takes of a completed sweep that is to be used: the charge and the bleed since the last used one (R194). -/
def State.estUsed (s : State) (sw : Sweep) : Used :=
  let tail := tailOf s.est.recent sw.instant
  { num := sw.num, instant := sw.instant,
    dt := match s.est.lastLaunch with
      | some t => sw.launchNs - t
      | none => 0,
    q := s.est.charge - tail.1, gaps := s.est.gaps - tail.2,
    iS := ((s.meas.hist.find? (fun h => (h.1 + 2 ^ 32 - sw.instant) % 2 ^ 32 < 10000)).map (·.2.2)).getD (s.getI Reg.VOTE_CUR_VOTED),
    cells := s.cellList.map (s.cellMeas sw), bleeds := s.est.cells.map (·.bleed),
    uv := s.cellList.map (s.flagOf false), ov := s.cellList.map (s.flagOf true), doneNs := s.localNs, launchNs := sw.launchNs }

/-- A sweep has completed: every n-th one of the kind that R193 counts is to be used. -/
def State.estSweep (s : State) (sw : Sweep) : State :=
  let (hz, d) := s.estRate
  let s := (s.setF Fld.EST_STATE_RATE hz).setB Fld.EST_STATE_RUNNING (hz != 0)
  if d == 0 || s.record.isNone then { s with est := { s.est with rate := 0, div := 0, count := 0 } }
  else if sw.kind != (if d == 80 then 2 else 1) then s
  else
    let n := if (hz, d) == (s.est.rate, s.est.div) then s.est.count + 1 else 1
    let due := decide (d ≤ n)
    let s := { s with est := { s.est with rate := hz, div := d, count := if due then 0 else n } }
    if due then { s with est := { s.est with next := some (s.estUsed sw) } } else s

/-- Temperature estimates of the Assay unit, as arrivals of a CLK_FAB cycle. -/
abbrev tempKey : Nat := 3

/-- The grant of SWEEP_DONE: the engine takes the sweep with the temperature estimates handed to it in earlier cycles (R248), or counts an overrun where the present update has not been published (R200,
R220); the following update then spans both intervals. -/
def State.estAdopt (s : State) : State := match s.est.next with
  | none => s
  | some u =>
    let s := { s with est := { s.est with next := none } }
    if s.est.used.isSome then (s.countRc Fld.EST_COUNTS_OVERRUN).raise Ev.EST_EST_OVERRUN
    else
      let cs := (List.zip s.est.cells (u.bleeds ++ List.replicate s.est.cells.length 0)).map (fun q =>
        { q.1 with
          bleed := q.1.bleed - q.2, tUse := if s.arrivedNow tempKey then none else q.1.tNew,
          tNew := if s.arrivedNow tempKey then q.1.tNew else none })
      { s with est := { s.est with
        used := some u, lastLaunch := some u.launchNs, charge := s.est.charge - u.q, gaps := s.est.gaps - u.gaps, cells := cs } }

/-- Bleed of ON_TIME `t` (10 µs) on a mask of position `i` joins the interval's bleed charge of each cell (R194). -/
def State.estBleed (s : State) (i mask t : Nat) : State :=
  if t == 0 || mask == 0 then s
  else
    let cs := (withIdx 0 s.cellList).map (fun (p : Nat × Nat × Nat) =>
      if p.2.1 == i && bitOf mask (p.2.2 - 1) then
        (p.1, divEither ((t : Int) * (s.posAt i).v p.2.2 * 100) (s.recAt i).rBleed) else (p.1, 0))
    { s with est := { s.est with cells := (List.zip s.est.cells cs).map (fun q => { q.1 with bleed := q.1.bleed + q.2.2 }) } }

/-! ### Confidence and reported state of charge (R205, R216) -/

/-- σ of x1 as a fraction. -/
def CellEst.sigma (c : CellEst) : F64 := F64.sqrt (vget ((c.p[0]?).getD []) 0)

/-- CONF of R216. -/
def CellEst.conf (c : CellEst) : Nat :=
  (F64.mul (F64.ofInt 255) (F64.max F64.zero (F64.sub F64.one (F64.mul (F64.ofInt 10) c.sigma)))).floor.toNat

/-- REMAIN as a fraction of a basis in mA·s. -/
def CellEst.frac (c : CellEst) (q : Nat) : F64 := F64.rat c.remain (q * 100000)

/-- x1 times a basis, as a REMAIN in 10^-5 mA·s. -/
def CellEst.modelRemain (c : CellEst) (q : Nat) : Int := (F64.mul (vget c.x 0) (F64.ofInt (q * 100000))).toInt

/-- The rules of R205 on a previous value, a candidate, the mean current in A and the interval in s. -/
def State.socMove (s : State) (old cand i dt : F64) : F64 :=
  let d := F64.rat (s.getF Fld.EST_SOC_RULES_DEADBAND) 10
  if F64.lt i (F64.neg d) then F64.min old cand
  else if F64.lt d i then F64.max old cand
  else
    let step := F64.mul (F64.rat (s.getF Fld.EST_SOC_RULES_SLEW) 600000) dt
    F64.clamp (F64.sub old step) (F64.add old step) cand

/-- The candidate of R205. -/
def CellEst.cand (c : CellEst) (q : Nat) : F64 :=
  let w := F64.rat c.conf 255
  F64.clamp F64.zero F64.one (F64.add (F64.mul w (vget c.x 0)) (F64.mul (F64.sub F64.one w) (c.frac q)))

/-! ### One cell's update (R196 to R198) -/

/-- The FLAGS bits of a case of R197, with VALID. -/
def caseFlags : Nat → Nat
  | 1 => 0x8000 + 0x2000
  | 2 => 0x8000 + 0x0800
  | 3 => 0x8000 + 0x4000 + 0x0200
  | 4 => 0x8000 + 0x4000
  | 5 => 0x8000 + 0x4000 + 0x1000
  | 6 => 0x8000 + 0x4000 + 0x0200 + 0x2000
  | _ => 0x8000

/-- The covariance P0 of a set. -/
def PSet.cov0 (k : PSet) : Mat := diag k.p0

/-- The Assay temperature that goes into this update is applied as a measurement of x10 with its variance (R203). -/
def CellEst.assayTemp (c : CellEst) : CellEst :=
  match c.tUse with
  | none => c
  | some (t, v) =>
    let row := (List.range 12).map (fun j => if j = 9 then F64.one else F64.zero)
    let (x, p, _, _) := measUpdate c.x c.p row (F64.sub (F64.add t (F64.rat 27315 100)) (vget c.x 9)) v ⟨1, 4096⟩
    { c with x := x, p := p, tUse := none }

/-- The prediction of a cell over `dt` ns with the mean current of a charge in 10^-5 mA·s. -/
def CellEst.predict (c : CellEst) (k : PSet) (q : Int) (dt : Nat) (t : Int) : CellEst :=
  let i := F64.rat (10 * q) dt
  let dtS := F64.rat dt 1000000000
  let (x, a) := k.predict c.x i (kelvin t) c.vPred dtS
  { c with x := x, p := matAdd (matMul (matMul a c.p) (transpose12 a)) (diag (vscale dtS k.qProc)) }

/-- A usable measurement joins (R196): with R_MEAS or R_ANCHOR and the extra variance of the case. -/
def CellEst.measure (c : CellEst) (k : PSet) (m : CellMeas) (iS rMeas gate : F64) : CellEst × Bool :=
  let b := F64.rat m.b 30000
  let r := F64.add rMeas (if m.case = 1 then F64.mul b b else F64.zero)
  let nu := F64.sub (F64.rat m.v2 20000) (k.vPred c.x iS)
  let (x, p, nis, gated) := measUpdate c.x c.p (k.dh c.x iS) nu r gate
  ({ c with x := x, p := p, nis := (nis :: c.nis).take 50, gatedRun := if gated then c.gatedRun + 1 else 0 }, gated)

/-- R198 asks for a reset of the covariance. -/
def CellEst.diverged (c : CellEst) : Bool :=
  c.gatedRun ≥ 5 || (c.nis.length == 50 && F64.lt (F64.ofInt 200) (c.nis.foldl F64.add F64.zero))

/-- One cell in step 2 of an update (R196): the cell, whether it was gated, whether it was reset. -/
def CellEst.update (c : CellEst) (k : PSet) (m : CellMeas) (bleed : Int) (u : Used) (gate : F64) (useT : Bool) :
    CellEst × Bool × Bool :=
  let q := u.q - bleed
  let iS := F64.rat u.iS 1000
  let c := c.predict k q u.dt m.t
  let c := if useT then c.assayTemp else { c with tUse := none }
  let (c, gated) := if m.case ≤ 2 then
      let (c, g) := c.measure k m iS k.rMeas gate
      ({ c with staleN := 0, sweep := u.num, v2 := m.v2 }, g)
    else ({ c with staleN := min 65535 (c.staleN + 1) }, false)
  let reset := c.diverged
  let c := if reset then { c with p := k.cov0, gatedRun := 0, nis := [] } else c
  let (x, clamped) := k.clamp c.x
  let fl := caseFlags m.case + 0x400 * b2n gated + 0x100 * b2n reset + 8 * b2n clamped
  ({ c with
      x := x, flags := fl, tSurf := m.t, vPred := k.vPred x iS, remain := c.remain + q,
      bleedSum := c.bleedSum + bleed, dq := c.dq - q, tSum := c.tSum + m.t, tNum := c.tNum + 1 }, gated, reset)

/-- A cell with states, covariance and REMAIN, and nothing else known. -/
def CellEst.blank (x : List F64) (p : List (List F64)) (remain : Int) : CellEst := {
  x := x, p := p, remain := remain, bleed := 0, bleedSum := 0, s := F64.zero, flags := 0x8000, staleN := 0, gatedRun := 0,
  nis := [], v2 := 0, vPred := F64.zero, sweep := 0, tSurf := 0, lowRun := 0, emptyMet := false, fullMet := false, dq := 0,
  x1Start := F64.zero, tSum := 0, tNum := 0, tAssay := none, tAssayH := 0, tNew := none, tUse := none, anchorH := 0 }

/-- A cell at start without a valid shadow (R201). -/
def CellEst.init (k : PSet) (basis : Nat) (m : CellMeas) (v : F64) : CellEst :=
  let t := kelvin m.t
  let x1 := k.invOcv v t
  let x := (k.clamp ([x1] ++ List.replicate 8 F64.zero ++ [t, F64.one, F64.rat basis k.qNom])).1
  let c := { CellEst.blank x k.cov0 0 with flags := caseFlags m.case, v2 := m.v2, vPred := v, tSurf := m.t }
  { c with remain := c.modelRemain basis }

/-- A cell at start from its shadow (R201), with the variance that the interruption of `t` s and an undetected load add to the diagonal. -/
def CellEst.fromShadow (h : ShadowCell) (k : PSet) (m : CellMeas) (u : Used) (t anchorH : Nat) (extra : F64) : CellEst :=
  let x := (withIdx 0 h.x).map (fun (q : Nat × F64) => if q.1 = 5 || q.1 = 6 || q.1 = 7 then F64.zero else q.2)
  let add := (withIdx 0 (vscale (F64.ofInt t) k.qProc)).map (fun (q : Nat × F64) => if q.1 = 0 then F64.add q.2 extra else q.2)
  { CellEst.blank x (diag (vadd h.d add)) h.remain with
    flags := caseFlags m.case, v2 := m.v2, vPred := k.vPred x (F64.rat u.iS 1000), tSurf := m.t, anchorH := anchorH }

/-! ### Step 3 and 4: string values and declarations (R206 to R210) -/

/-- The cells with their index, set and basis. -/
def State.estCells (s : State) : List (Nat × CellEst × PSet × Nat) :=
  (withIdx 0 (List.zip s.est.cells s.cellList)).map (fun (p : Nat × CellEst × Nat × Nat) =>
    let k := s.pset (s.psetNo p.2.2)
    (p.1, p.2.1, k, s.basisOf p.1 k))

/-- The index and value of the smallest of `f` over the cells. -/
def minCell (l : List (Nat × F64)) : Nat × F64 := match l with
  | [] => (0, F64.zero)
  | a :: r => r.foldl (fun m x => if F64.lt x.2 m.2 then x else m) a

/-- A number as an unsigned register. -/
def F64.toReg (x : F64) : Nat := satU 32 x.toInt.toNat

/-- A fraction in 0.01 %. -/
def F64.pct (x : F64) : Nat := (F64.mul (F64.clamp F64.zero F64.one x) (F64.ofInt 10000)).toInt.toNat

/-- The cells change by a function of index, set and basis. -/
def State.cellsMap (s : State) (f : Nat → CellEst → PSet → Nat → CellEst) : State :=
  let cs := s.estCells.map (fun p => f p.1 p.2.1 p.2.2.1 p.2.2.2)
  { s with est := { s.est with cells := cs } }

/-- SOC_STATE values. -/
abbrev Soc.track : Nat := 0
abbrev Soc.holdLow : Nat := 1
abbrev Soc.empty : Nat := 2
abbrev Soc.holdHigh : Nat := 3
abbrev Soc.full : Nat := 4

/-- CAP_SUSPECT shows whether a cell keeps the basis suspect (R209). -/
def State.capShow (s : State) : State :=
  let b := !s.est.suspects.isEmpty
  let s := (s.setB Fld.EST_STATE_CAP_SUSPECT b).setB Fld.EST_WARN_CAP_SUSPECT b
  (s.toMram Reg.EST_STATE).toMram Reg.EST_WARN

/-- The smallest capacity basis, mA·s. -/
def State.minBasis (s : State) : Nat := match s.estCells.map (·.2.2.2) with
  | [] => 0
  | a :: r => r.foldl min a

/-- The string enters a state of R207. -/
def State.socEnter (s : State) (st : Nat) : State :=
  let old := s.getF Fld.EST_STATE_SOC_STATE
  let s := s.setF Fld.EST_STATE_SOC_STATE st
  let s := { s with est := { s.est with net := 0, netLow := 0, netHigh := 0 } }
  let s := { s with est := { s.est with holdCell := none } }
  let s := if old == Soc.empty then s.cellsMap (fun _ c _ _ => { c with emptyMet := false }) else s
  let s := if old == Soc.full then
      let s := s.cellsMap (fun _ c _ _ => { c with fullMet := false })
      if st == Soc.track && s.getF Fld.EST_STATE_LEARN == 1 then
        let s := (s.setF Fld.EST_STATE_LEARN 2).cellsMap (fun _ c _ _ => { c with dq := 0, x1Start := vget c.x 0, tSum := 0, tNum := 0 })
        { s with est := { s.est with learnNs := 0, learnBack := 0, learnGap := false } }
      else s
    else s
  if old == Soc.holdLow || old == Soc.holdHigh then s.setB Fld.EST_WARN_CHARGE_VOLTAGE_DISAGREE false else s

/-- A learning cycle passes R213 for a cell. -/
def State.learnPass (s : State) (c : CellEst) : Bool :=
  let swing := F64.sub c.x1Start (vget c.x 0)
  let lo := sInt 8 (s.getF Fld.EST_LEARN_CFG_T_MIN) * 100 * (c.tNum : Int)
  let hi := sInt 8 (s.getF Fld.EST_LEARN_CFG_T_MAX) * 100 * (c.tNum : Int)
  F64.le (F64.rat (s.getF Fld.EST_LEARN_CFG_MIN_SWING) 100) swing && decide (lo ≤ c.tSum) && decide (c.tSum ≤ hi)
  && c.flags &&& 0x2200 == 0

/-- The new basis of a passing cell (R214). -/
def State.learnBasis (s : State) (c : CellEst) (k : PSet) (q : Nat) : Nat :=
  let swing := F64.sub c.x1Start (vget c.x 0)
  let qm := F64.div (F64.rat c.dq 100000) swing
  let d := F64.mul (F64.rat (s.getF Fld.EST_LEARN_CFG_GAIN) 256) (F64.sub qm (F64.ofInt q))
  let lim := F64.rat (3 * k.qNom) 100
  (F64.add (F64.ofInt q) (F64.clamp (F64.neg lim) lim d)).toInt.toNat

/-- The staged values become the basis (R214); a learned cycle (`none`) or the set of one cell (R215) is complete. -/
def State.capDone (s : State) (cell : Option Nat) : State :=
  let keep := match cell with
    | some i => s.est.suspects.filter (· != i)
    | none => []
  let s := { s with est := { s.est with suspects := keep } }.capShow
  match cell with
  | some _ => s.raise Ev.EST_CAP_SET_DONE
  | none => ((s.countF Fld.EST_LEARN_STATUS_CYCLES).toMram Reg.EST_LEARN_STATUS).raise Ev.EST_CAP_LEARNED

/-- Replay completes a capacity commit from the staged values (R214, R421); the cell of a capacity set starts anew. -/
def State.capReplay (s : State) : State := match s.est.staged with
  | some (new, cell) =>
    let re := match cell with
      | some i => i :: s.est.reinit.filter (· != i)
      | none => s.est.reinit
    ({ s with est := { s.est with basis := new, reinit := re } }).capDone cell
  | none => s

/-- Capacity values are committed: staged, a Galley line of kind capacity commit, copied into the basis, the line closed
(R214). -/
def State.capCommit (s : State) (new : List Nat) (cells : Nat) (cell : Option Nat) : State :=
  let crc := crc32 (new.flatMap (leBytes 8))
  let s := { s with est := { s.est with staged := some (new, cell) } }
  let s := s.galOpen Kind.capacity 1 (leBytes 2 cells ++ [0, 0] ++ leBytes 4 crc)
  ({ s with est := { s.est with basis := new } }).galClose Kind.capacity true

/-- A learning cycle ends with a result and passed cells. -/
def State.learnEnd (s : State) (result passed : Nat) : State :=
  ((s.setF Fld.EST_LEARN_STATUS_LAST_RESULT result).setF Fld.EST_LEARN_STATUS_PASSED (min 255 passed)).setF Fld.EST_STATE_LEARN 0

/-- The outcome of a cycle at the declaration of voltage empty (R212): the first applicable row; a learned cycle commits,
on the holder of the Imprint only (R204). -/
def State.learnDone (s : State) : State :=
  if s.getF Fld.EST_STATE_LEARN != 2 then s
  else if !s.flag Fld.EST_CTL_LEARN_EN then s.learnEnd 0x09 0
  else if s.est.learnGap then s.learnEnd 0x03 0
  else if (s.minBasis : Int) * 10000 < s.est.learnBack then s.learnEnd 0x04 0
  else if 48 * 3600 * 1000000000 < s.est.learnNs then s.learnEnd 0x08 0
  else
    let pass := s.estCells.filter (fun p => s.learnPass p.2.1)
    if pass.isEmpty then s.learnEnd 0x06 0
    else if !s.imprintOk then s.learnEnd 0x01 pass.length
    else
      let new := s.estCells.map (fun p => if s.learnPass p.2.1 then s.learnBasis p.2.1 p.2.2.1 p.2.2.2 else p.2.2.2)
      ((s.capCommit new pass.length none).capDone none).learnEnd 0x01 pass.length

/-- The count has reached an end before the voltage (R209), for the limiting cell. -/
def State.socHold (s : State) (st cell : Nat) : State :=
  let s := s.socEnter st
  let s := { s with est := { s.est with holdCell := some cell } }
  let was := s.flag Fld.EST_STATE_CAP_SUSPECT
  let s := (s.setB Fld.EST_WARN_CHARGE_VOLTAGE_DISAGREE true).raise Ev.EST_CHARGE_VOLTAGE_DISAGREE
  let s := { s with est := { s.est with suspects := if s.est.suspects.contains cell then s.est.suspects else cell :: s.est.suspects } }
  let s := s.capShow.raiseIf (!was) Ev.EST_CAP_SUSPECT
  if s.getF Fld.EST_STATE_LEARN == 2 then s.learnEnd 0x02 0 else s

/-- Voltage empty is declared (R210): the count is rescaled. -/
def State.socEmpty (s : State) (met : Nat → CellEst → Bool) (cell : Nat) : State :=
  let err := ((s.est.cells[cell]?).map (·.remain)).getD 0
  let s := s.socEnter Soc.empty
  let s := s.setI Reg.EST_RESCALE_ERR (clampI (-2147483647) 2147483647 (divEither err 100000))
  let s := s.cellsMap (fun i c _ q => if met i c then { c with remain := 0, emptyMet := true } else { c with remain := c.modelRemain q })
  s.raise Ev.EST_EMPTY

/-- Voltage full is declared (R210); a learning cycle arms (R212). -/
def State.socFull (s : State) (met : Nat → CellEst → Bool) (cell : Nat) : State :=
  let err := ((s.est.cells[cell]?).map (·.remain)).getD 0
  let s := s.socEnter Soc.full
  let s := s.setI Reg.EST_RESCALE_ERR (clampI (-2147483647) 2147483647 (divEither err 100000))
  let s := s.cellsMap (fun i c _ q =>
    { c with
      remain := if met i c then (q : Int) * 100000 else c.modelRemain q, fullMet := met i c, bleedSum := 0 })
  (s.setF Fld.EST_STATE_LEARN 1).raise Ev.EST_FULL

/-- The load-compensated voltage of a cell in V (R208). -/
def vLc (c : CellEst) (k : PSet) (iS : F64) : F64 :=
  F64.sub (F64.rat c.v2 20000) (F64.mul iS (k.rOhm (vget c.x 10) (vget c.x 9)))

/-- Step 3: reported values of the cells, then of the string (R205, R206). At the engine's first update, where nothing has been
reported before, each takes its candidate (assumption log 113). -/
def State.estString (s : State) (i dt : F64) (first : Bool) : State :=
  let s := s.cellsMap (fun _ c _ q => { c with s := if first then c.cand q else s.socMove c.s (c.cand q) i dt })
  let dis := minCell (s.estCells.map (fun p => (p.1, F64.mul p.2.1.s (F64.ofInt p.2.2.2))))
  let chg := minCell (s.estCells.map (fun p => (p.1, F64.mul (F64.sub F64.one p.2.1.s) (F64.ofInt p.2.2.2))))
  let cand := F64.div dis.2 (F64.add dis.2 chg.2)
  let s := (s.setReg Reg.EST_DISCHARGEABLE (F64.div dis.2 (F64.ofInt 10)).toReg).setReg Reg.EST_CHARGEABLE (F64.div chg.2 (F64.ofInt 10)).toReg
  let s := (s.setF ⟨Reg.EST_EXTREMES, 24, 16⟩ chg.1).setF ⟨Reg.EST_EXTREMES, 8, 0⟩ dis.1
  let s := s.setF Fld.EST_STRING_SOC_SOC_MODEL cand.pct
  let ss := s.est.cells.map (·.s)
  let spread := match ss with
    | [] => F64.zero
    | a :: r => F64.sub (r.foldl F64.max a) (r.foldl F64.min a)
  let s := s.setReg Reg.EST_SOC_SPREAD spread.pct
  { s with est := { s.est with soc := if first then cand else s.socMove s.est.soc cand i dt } }

/-- The reported string SoC limited by the state of R207. -/
def State.socPublish (s : State) : State :=
  let st := s.getF Fld.EST_STATE_SOC_STATE
  let v := if st == Soc.holdLow then F64.rat 1 100 else if st == Soc.empty then F64.zero
    else if st == Soc.holdHigh then F64.rat 99 100 else if st == Soc.full then F64.one
    else F64.clamp (F64.rat 1 100) (F64.rat 99 100) s.est.soc
  ({ s with est := { s.est with soc := v } }).setF Fld.EST_STRING_SOC_SOC v.pct

/-- The index of the smallest of `f` over the cells; of equal ones the lowest. -/
def argMin (l : List (Nat × Int)) : Nat := match l with
  | [] => 0
  | a :: r => (r.foldl (fun m x => if x.2 < m.2 then x else m) a).1

/-- Step 4: the criteria of R207 and R208 and the table of states. The cell that limits the count is the one whose count is nearest
to its end (R209, R210; assumption log 113). -/
def State.estStates (s : State) (u : Used) (i : F64) : State :=
  let iS := F64.rat u.iS 1000
  let usable := fun (k : Nat) => decide (((u.cells[k]?).map (·.case)).getD 4 ≤ 2)
  let s := s.cellsMap (fun k c set _ =>
    if usable k then { c with lowRun := if F64.le (vLc c set iS) (F64.rat set.vEmpty 10000) then min 3 (c.lowRun + 1) else 0 } else c)
  let taper := F64.le i (F64.rat ((s.record.map (·.iTaper)).getD 0) 1000)
  let high := s.estCells.any (fun p => F64.le (F64.rat p.2.2.1.vFull 10000) (vLc p.2.1 p.2.2.1 iS))
  let e := s.est
  let s := { s with est := { e with
    fullNs := if high && taper then e.fullNs + u.dt else 0, net := e.net + u.q, netLow := min e.netLow (e.net + u.q),
    netHigh := max e.netHigh (e.net + u.q) } }
  let flag := fun (l : List Bool) (k : Nat) => (l[k]?).getD false
  let metE := fun (k : Nat) (c : CellEst) => c.lowRun == 3 || flag u.uv k
  let highCells := (s.estCells.filter (fun p => F64.le (F64.rat p.2.2.1.vFull 10000) (vLc p.2.1 p.2.2.1 iS))).map (·.1)
  let timed := decide ((60000000000 : Nat) ≤ s.est.fullNs)
  let metF := fun (k : Nat) (_ : CellEst) => (timed && highCells.contains k) || flag u.ov k
  let vE := s.estCells.any (fun p => metE p.1 p.2.1)
  let vF := s.estCells.any (fun p => metF p.1 p.2.1)
  let cE := s.est.cells.any (fun c => decide (c.remain ≤ 0))
  let cF := s.estCells.any (fun p => decide ((p.2.2.2 : Int) * 100000 ≤ p.2.1.remain))
  let one := (s.minBasis : Int) * 1000
  let up := decide (one ≤ s.est.net - s.est.netLow)
  let down := decide (one ≤ s.est.netHigh - s.est.net)
  let lowCell := argMin ((withIdx 0 s.est.cells).map (fun p => (p.1, p.2.remain)))
  let highCell := argMin (s.estCells.map (fun p => (p.1, (p.2.2.2 : Int) * 100000 - p.2.1.remain)))
  let reset := fun (s : State) => s.cellsMap (fun _ c _ q => { c with remain := c.modelRemain q })
  let st := s.getF Fld.EST_STATE_SOC_STATE
  let s := if st == Soc.track then
      if vE then s.socEmpty metE lowCell else if vF then s.socFull metF highCell
      else if cE then s.socHold Soc.holdLow lowCell else if cF then s.socHold Soc.holdHigh highCell else s
    else if st == Soc.holdLow then
      if vE then s.socEmpty metE lowCell else if up then (reset s).socEnter Soc.track else s
    else if st == Soc.empty then (if up then s.socEnter Soc.track else s)
    else if st == Soc.holdHigh then
      if vF then s.socFull metF highCell else if down then (reset s).socEnter Soc.track else s
    else (if down then s.socEnter Soc.track else s)
  s.socPublish

/-! ### Step 5: warnings, anchor, learning -/

/-- A warning follows its setting and clearing conditions; an event marks that it sets (R211). -/
def State.warn (s : State) (f : Fld) (sets clears : Bool) (e : Option Ev) : State :=
  if s.flag f then (if clears then s.setB f false else s)
  else if sets then
    let s := s.setB f true
    match e with
    | some e => s.raise e
    | none => s
  else s

/-- The warnings of R211 that this step evaluates. -/
def State.estWarn (s : State) : State :=
  let soc := s.getF Fld.EST_STRING_SOC_SOC
  let lo := s.getF Fld.EST_WARN_LEVELS_EMPTY_PCT
  let hi := s.getF Fld.EST_WARN_LEVELS_FULL_PCT
  let s := s.warn Fld.EST_WARN_LOW_SOC (soc ≤ lo) (lo + 200 < soc) (some Ev.EST_LOW_SOC)
  let s := s.warn Fld.EST_WARN_HIGH_SOC (hi ≤ soc) (soc + 200 < hi) (some Ev.EST_HIGH_SOC)
  let drift := fun (pct : Nat) => s.estCells.any (fun p =>
    F64.lt (F64.rat (pct * p.2.2.1.qNom) 100)
      (F64.abs (F64.sub (F64.mul (vget p.2.1.x 11) (F64.ofInt p.2.2.1.qNom)) (F64.ofInt p.2.2.2))))
  let s := s.warn Fld.EST_WARN_CAP_DRIFT (drift 5) (!drift 4) (some Ev.EST_CAP_DRIFT)
  let stale := s.est.cells.any (fun c => 10 ≤ c.staleN)
  let s := s.raiseIf (s.est.cells.any (fun c => c.staleN == 10)) Ev.EST_STALE_CELL
  let s := s.warn Fld.EST_WARN_STALE stale (!stale) none
  let recent := match s.est.divergeNs with
    | some t => decide (s.localNs < t + 60000000000)
    | none => false
  let s := s.warn Fld.EST_WARN_DIVERGE recent (!recent) none
  let sp := s.getReg Reg.EST_SOC_SPREAD
  s.warn Fld.EST_WARN_SPREAD (s.getReg Reg.EST_SPREAD_LIM % 65536 < sp) (sp + 100 < s.getReg Reg.EST_SPREAD_LIM % 65536) none

/-- An anchor update of every cell whose measurement is usable (R217). -/
def State.anchorUpdate (s : State) (u : Used) : State :=
  let h := s.hours
  let gate := F64.rat (s.getReg Reg.EST_GATE % 65536) 100
  let s := s.cellsMap (fun i c k q => match u.cells[i]? with
    | none => c
    | some m =>
      if 2 < m.case then c
      else
        let x := (withIdx 0 c.x).map (fun (p : Nat × F64) => if p.1 = 5 || p.1 = 6 || p.1 = 7 then F64.zero else p.2)
        let c := (({ c with x := x }).measure k m (F64.rat u.iS 1000) k.rAnchor gate).1
        let c := { c with x := (k.clamp c.x).1, anchorH := h }
        if 128 ≤ c.conf then { c with remain := c.modelRemain q } else c)
  let s := { s with est := { s.est with anchorH := h, quietNs := 0 } }
  (s.setB Fld.EST_WARN_NO_ANCHOR false).raise Ev.EST_ANCHOR_DONE

/-- The anchor window (R217) and the phases of a requested one (R219) at an update. -/
def State.estAnchor (s : State) (u : Used) (i : F64) : State :=
  let quiet := F64.lt (F64.mul (F64.abs i) (F64.ofInt 50000)) (F64.ofInt (s.getReg Reg.SAFE_C_CURRENT))
  let s := { s with est := { s.est with quietNs := if quiet then s.est.quietNs + u.dt else 0 } }
  let s := s.asyCalm quiet (s.est.cells.map (fun (c : CellEst) => c.tSurf))
  let ph := s.getF Fld.EST_STATE_ANCHOR
  let s := { s with est := { s.est with holdNs := if ph == 2 then s.est.holdNs + u.dt else 0 } }
  let held := quiet && ph == 2 && decide ((90000000000 : Nat) ≤ s.est.holdNs)
  let s := if held || decide ((90000000000 : Nat) ≤ s.est.quietNs) then s.anchorUpdate u else s
  if ph == 1 then (if quiet then s.setF Fld.EST_STATE_ANCHOR 2 else s)
  else if ph == 2 then (if held then s.anchorEnd 1 else if quiet then s else s.anchorEnd 2)
  else if ph == 3 && (s.prof.arrived || s.cur != Md.dispatch) then s.setF Fld.EST_STATE_ANCHOR 0
  else s

/-- The learning cycle's sums over an interval (R212). -/
def State.estLearn (s : State) (u : Used) : State :=
  if s.getF Fld.EST_STATE_LEARN == 2 then
    { s with est := { s.est with learnNs := s.est.learnNs + u.dt, learnBack := s.est.learnBack + max 0 u.q } }
  else s

/-! ### The update (R195) -/

/-- A cell from its measured voltage; where it has none that is usable the voltage is free (R201). -/
def State.freshCell (s : State) (i : Nat) (c : Nat × Nat) (m : CellMeas) : CellEst :=
  let k := s.pset (s.psetNo c)
  let v := if m.case ≤ 2 then F64.rat m.v2 20000 else F64.rat (Config.freeValue (s.freeCtr + i) % 50001 : Nat) 10000
  CellEst.init k (s.basisOf i k) m v

/-- The newest shadow that is sealed (R202). -/
def Estim.valid (e : Estim) : Option Shadow :=
  let area := fun (i : Nat) => ((e.shadows[i]?).getD none).filter (·.sealOk)
  match area e.shadowAt with
  | some x => some x
  | none => area (1 - e.shadowAt)

/-- The first used sweep: every cell from the shadow or from its measurement (R201). -/
def State.estStart (s : State) (u : Used) : State :=
  let version := (s.record.map (·.version)).getD 0
  let cs := withIdx 0 (List.zip s.cellList u.cells)
  let sh := s.est.valid.filter (fun x => x.version == version && x.cells.length == u.cells.length)
  let s := match sh with
    | some x =>
      let t := s.hours - x.hours
      let rest := s.est.startPower == 0
      let cells := cs.map (fun (p : Nat × (Nat × Nat) × CellMeas) => match x.cells[p.1]? with
        | some h =>
          if s.est.reinit.contains p.1 then s.freshCell p.1 p.2.1 p.2.2
          else
            let k := s.pset (s.psetNo p.2.1)
            let d := F64.div (F64.ofInt (600 * Min.min (2 * t) 1)) (F64.mul (F64.rat k.qNom 1000) (vget h.x 11))
            CellEst.fromShadow h k p.2.2 u t x.anchorS (if rest then F64.zero else F64.mul d d)
        | none => s.freshCell p.1 p.2.1 p.2.2)
      let s := { s with est := { s.est with cells := cells, anchorH := x.anchorS, restAnchor := rest && 90 ≤ t } }
      if x.learn == 2 then s.learnEnd 0x07 0 else s
    | none => { s with est := { s.est with cells := cs.map (fun (p : Nat × (Nat × Nat) × CellMeas) => s.freshCell p.1 p.2.1 p.2.2) } }
  { s with freeCtr := s.freeCtr + u.cells.length, est := { s.est with reinit := [] } }

/-- The completed bank of records is published; EST_DONE (step 6 of R195). -/
def State.estPublish (s : State) (u : Used) : State :=
  let s := { s with est := { s.est with pub := s.est.cells, pubTime := u.instant } }
  let s := (s.setReg Reg.EST_UPDATE_TIME u.instant).setF Fld.EST_UPDATE_STAT_SWEEP u.num
  let s := s.setF Fld.EST_UPDATE_STAT_DURATION_US (min 65535 ((s.localNs - u.doneNs) / 1000))
  s.raise Ev.EST_EST_DONE

/-- FLAGS of the records take the bits that the string sets (R222). -/
def State.estFlags (s : State) : State :=
  let susp := s.est.suspects
  s.cellsMap (fun i c _ _ =>
    let lim := s.est.holdCell == some i
    { c with flags := c.flags &&& 0xFF0C ||| (0x80 * b2n lim + 0x40 * b2n (susp.contains i) + 0x20 * b2n c.emptyMet
        + 0x10 * b2n c.fullMet) })

/-- Steps 3 to 6 of an update (R195): a learning cycle that the declaration of voltage empty ends is judged last in step 5. -/
def State.estTail (s : State) (u : Used) (i : F64) (first : Bool) : State :=
  let was := s.getF Fld.EST_STATE_SOC_STATE
  let s := s.estString i (F64.rat u.dt 1000000000) first
  let s := (s.estLearn u).estStates u i
  let s := s.estWarn.estAnchor u i
  let s := if s.est.restAnchor then { (s.anchorUpdate u) with est := { (s.anchorUpdate u).est with restAnchor := false } } else s
  let s := if was != Soc.empty && s.getF Fld.EST_STATE_SOC_STATE == Soc.empty then s.learnDone else s
  s.estFlags.estPublish u

/-- Step 2 of an update whose interval has valid current throughout (R195). -/
def State.estRun (s : State) (u : Used) : State :=
  let gate := F64.rat (s.getReg Reg.EST_GATE % 65536) 100
  let useT := s.flag Fld.EST_CTL_ASSAY_TEMP
  let res := (withIdx 0 (List.zip s.estCells u.cells)).map (fun (q : Nat × (Nat × CellEst × PSet × Nat) × CellMeas) =>
    q.2.1.2.1.update q.2.1.2.2.1 q.2.2 ((u.bleeds[q.1]?).getD 0) u gate useT)
  let s := { s with est := { s.est with cells := res.map (fun (r : CellEst × Bool × Bool) => r.1) } }
  let resets := (res.filter (fun r => r.2.2)).length
  let s := s.occurAdd Fld.EST_COUNTS_GATED (res.filter (fun r => r.2.1)).length
  let s := s.occurAdd Fld.EST_COUNTS_REINIT resets
  let s := if resets == 0 then s
    else ({ s with est := { s.est with divergeNs := some s.localNs } }).raise Ev.EST_FILTER_REINIT
  s.estTail u (F64.rat (10 * u.q) u.dt) false

/-- The engine resumes after invalid current (R199): each cell is predicted over the gap with no current, and the variance of
x1 grows by what 1,200 A could have moved in the invalid samples of 10 µs. -/
def State.estResume (s : State) (u : Used) : State :=
  let g := s.est.gapNs
  let amps : F64 := F64.rat (1200 * (s.est.gapN : Int)) 100000
  let s := s.cellsMap (fun i c k _ =>
    let c := c.predict k 0 g (((u.cells[i]?).map (·.t)).getD c.tSurf)
    let d := F64.div amps (F64.mul (F64.rat k.qNom 1000) (vget c.x 11))
    let add := diag ((List.range 12).map (fun j => if j = 0 then F64.mul d d else F64.zero))
    { c with p := matAdd c.p add, x := (k.clamp c.x).1 })
  let s := { s with est := { s.est with gapNs := 0, gapN := 0, learnGap := true } }
  (s.setB Fld.EST_STATE_SUSPENDED false).raise Ev.EST_EST_RESUMED

/-- An update (R195): suspended while the interval holds an invalid voted sample (R199); at the first used sweep the engine starts
(R201), with no interval behind it. -/
def State.estUpdate (s : State) (u : Used) : State :=
  let s := { s with est := { s.est with used := none } }
  if u.gaps != 0 then
    let s := { s with est := { s.est with gapNs := s.est.gapNs + u.dt, gapN := s.est.gapN + u.gaps } }
    if s.flag Fld.EST_STATE_SUSPENDED then s else (s.setB Fld.EST_STATE_SUSPENDED true).raise Ev.EST_EST_SUSPENDED
  else
    let start := s.est.cells.isEmpty
    let s := if s.flag Fld.EST_STATE_SUSPENDED then s.estResume u else s
    if start then (s.estStart u).estTail { u with q := 0, dt := 0 } F64.zero true else s.estRun u

/-- EST_DONE (R195): the update of the used sweep that waits ends and is published. -/
def execEstDone (s : State) : Step :=
  if s.live then
    match s.est.used with
    | some u => .next (s.estUpdate u)
    | none => .next s
  else .next s

/-! ### Shadow, capacity set, anchor requests (R202, R215, R218, R219) -/

/-- The shadow is written to the area that does not hold the last one, and sealed (R202). -/
def State.estShadow (s : State) : State :=
  if s.est.cells.isEmpty then s
  else
    let cs := s.est.cells.map (fun c => (⟨c.x, (List.range 12).map (fun j => vget ((c.p[j]?).getD []) j), c.remain⟩ : ShadowCell))
    let sh : Shadow := ⟨cs, s.hours, (s.record.map (·.version)).getD 0, s.getF Fld.EST_STATE_LEARN, s.est.anchorH, true⟩
    let i := 1 - s.est.shadowAt
    { s with est := { s.est with shadows := s.est.shadows.set i (some sh), shadowAt := i } }

/-- EST_SHADOW_WRITE (R202): every 60 s. -/
def execEstShadowWrite (s : State) : Step := .next (if s.live then s.estShadow else s)

/-- The set of one cell's basis in mA·s (R215): committed, and the cell starts anew; denied outside its conditions, and in a module that
does not write capacity lines (R204; assumption log 113). -/
def State.capSet (s : State) (i q : Nat) : State :=
  match s.cellList[i]? with
  | none => s.raise Ev.EST_CAP_SET_DENIED
  | some c =>
    let k := s.pset (s.psetNo c)
    if s.power == 0 && s.imprintOk && k.qNom ≤ 2 * q && 10 * q ≤ 12 * k.qNom then
      let new := (withIdx 0 s.cellList).map (fun (p : Nat × Nat × Nat) =>
        if p.1 == i then q else s.basisOf p.1 (s.pset (s.psetNo p.2)))
      let s := s.capCommit new 1 (some i)
      let m : CellMeas := ⟨0, ((s.cellValue2 c.1 c.2).getD (2 * (s.posAt c.1).v c.2, 0)).1, 0, s.surfOf c⟩
      let cs := s.est.cells.modify i (fun _ => CellEst.init k q m (F64.rat m.v2 20000))
      ({ s with est := { s.est with cells := cs } }).capDone (some i)
    else s.raise Ev.EST_CAP_SET_DENIED

/-- CAP_SET (R215, R220): the host sets the basis of the cell in CAP_SEL, in units of 10 mA·s; the write waits in the Compositor as an
informational event. -/
def execCapSet (master value : Nat) (s : State) : Step :=
  .next (s.permitKeyed master Reg.EST_CAP_SET 0x52E7 Ev.EST_CAP_SET_DENIED (fun s =>
    let w := (s.getReg Reg.EST_CAP_SEL % 512, 10 * (value % 2 ^ 32))
    ({ s with est := { s.est with capWait := s.est.capWait ++ [w] } }).raiseInt Pg.EST 40 5))

/-- The grant of capacity sets. -/
def State.capGranted (s : State) : State :=
  s.est.capWait.foldl (fun (s : State) (w : Nat × Nat) => s.capSet w.1 w.2) { s with est := { s.est with capWait := [] } }

/-- ANCHOR_REQ (R219, R220): EST.CTL.ANCHOR_REQ waits in the Compositor as an informational event. -/
def execAnchorReq (master : Nat) (s : State) : Step :=
  .next (s.permit master Reg.EST_CTL (fun s => s.raiseInt Pg.EST 41 5))

/-- The grant of a request for an anchor window (R219). -/
def State.anchorReqGranted (s : State) : State :=
  if s.cur == Md.dispatch && s.variant != .C && s.imprintOk then
    if s.anchorOn then s
    else { (s.setF Fld.EST_STATE_ANCHOR 1) with prof := { s.prof with anchor := true } }
  else (s.setReg Reg.EST_ANCHOR_RESULT 6).raise Ev.EST_ANCHOR_REFUSED

/-- ANCHOR_CANCEL (R219, R220). -/
def execAnchorCancel (master : Nat) (s : State) : Step :=
  .next (s.permit master Reg.EST_CTL (fun s => s.raiseInt Pg.EST 42 5))

/-- The grant of a cancel. -/
def State.anchorCancelGranted (s : State) : State := if s.anchorOn then s.anchorEnd 4 else s

/-- ANCHOR_RAMP_TIMEOUT (R219): 60 s without the current below C/50. -/
def execAnchorRampTimeout (s : State) : Step :=
  .next (if s.live && s.getF Fld.EST_STATE_ANCHOR == 1 then s.anchorEnd 5 else s)

/-- NO_ANCHOR (R218): 72 h without an anchor window. -/
def execNoAnchor (s : State) : Step :=
  .next (if s.live && !s.flag Fld.EST_WARN_NO_ANCHOR && 72 * 3600 ≤ s.hours - s.est.anchorH then
    (s.setB Fld.EST_WARN_NO_ANCHOR true).raise Ev.EST_NO_ANCHOR else s)

/-! ### The view of the Cell Record Table (R223, R226) -/

/-- CELL_VIEW_WRITE (R223, R220): HOLD pins the bank that is latest at the grant of its informational event, LIVE releases it. -/
def execCellViewWrite (master value : Nat) (s : State) : Step :=
  .next (s.permit master Reg.CELL_VIEW (fun s =>
    let s := s.setReg Reg.CELL_VIEW (value % 2)
    let s := s.setReg (Folio.STATUS Pg.CELL) (value % 2)
    if value % 2 == 1 then ({ s with est := { s.est with held := none, heldNs := s.localNs } }).raiseInt Pg.CELL 40 5
    else { s with est := { s.est with held := none } }))

/-- The grant of HOLD. -/
def State.holdGranted (s : State) : State :=
  if s.getReg Reg.CELL_VIEW % 2 == 1 then
    { s with est := { s.est with held := some (s.est.pub, s.est.pubTime, s.getReg Reg.EST_UPDATE_SEQ) } }
  else s

/-- HOLD_EXPIRED (R223): HOLD_LIMIT has elapsed; the view returns to LIVE. -/
def execHoldExpired (s : State) : Step :=
  if s.live && s.getReg Reg.CELL_VIEW % 2 == 1 then
    let s := (s.setReg Reg.CELL_VIEW 0).setReg (Folio.STATUS Pg.CELL) 0
    .next ({ s with est := { s.est with held := none } }.raise Ev.CELL_HOLD_EXPIRED)
  else .next s

/-! ### The records (R221) -/

/-- A signed value in `w` bits. -/
def sPat (w : Nat) (i : Int) : Nat := toU w (satS w i)

/-- The bytes 0 to 123 of record `k` for a cell in a published bank. -/
def State.recordBody (s : State) (k : Nat) (c : CellEst) (time : Nat) : List Nat :=
  match s.cellList[k]? with
  | none => []
  | some pc =>
    let set := s.pset (s.psetNo pc)
    let q := s.basisOf k set
    let sE := set.sEff c.x
    let v4 := fun (x : F64) => satU 16 (F64.mul x (F64.ofInt 10000)).toInt.toNat
    leBytes 2 k ++ [pc.1, pc.2] ++ leBytes 2 c.flags ++ [s.psetNo pc, c.conf] ++ leBytes 2 c.sweep ++ leBytes 2 c.staleN
    ++ leBytes 4 time ++ c.x.flatMap (fun v => leBytes 4 v.bits32)
    ++ leBytes 2 c.s.pct ++ leBytes 2 (vget c.x 0).pct ++ leBytes 2 (satU 16 (F64.mul c.sigma (F64.ofInt 10000)).toInt.toNat)
    ++ leBytes 2 (satU 16 (F64.mul (F64.rat q set.qNom) (F64.ofInt 10000)).toInt.toNat)
    ++ leBytes 2 (satU 16 (divEither c.v2 2).toNat) ++ leBytes 2 (v4 c.vPred) ++ leBytes 2 (v4 (set.ocvAt sE).1)
    ++ leBytes 2 (satU 16 (F64.mul (set.rOhm (vget c.x 10) (vget c.x 9)) (F64.ofInt 1000000)).toInt.toNat)
    ++ leBytes 2 (sPat 16 c.tSurf)
    ++ leBytes 2 (sPat 16 ((F64.mul (vget c.x 9) (F64.ofInt 100)).toInt - 27315))
    ++ leBytes 2 (match c.tAssay with | some t => sPat 16 t | none => 0x8000)
    ++ leBytes 2 (match c.tAssay with | some _ => satU 16 (s.hours - c.tAssayH) | none => 0)
    ++ leBytes 8 q ++ leBytes 8 (toU 64 (divEither c.remain 100000))
    ++ leBytes 4 (satU 32 (divEither c.bleedSum 100000).toNat)
    ++ leBytes 2 (satU 16 (F64.mul (vget c.nis 0) (F64.ofInt 100)).toInt.toNat)
    ++ leBytes 2 (satU 16 ((s.hours - c.anchorH) / 60)) ++ List.replicate 12 0

/-- Record `k` as the window shows it: 128 bytes; a record past the populated cells carries UNPOPULATED (R187). -/
def State.cellRecord (s : State) (k : Nat) : List Nat :=
  let (cells, time) := match s.est.held with
    | some (cs, t, _) => (cs, t)
    | none => (s.est.pub, s.est.pubTime)
  let body := match cells[k]? with
    | some c => s.recordBody k c time
    | none => if k < s.cellList.length then List.replicate 124 0 else [0, 0, 0, 0, 4, 0] ++ List.replicate 118 0
  body ++ leBytes 4 (crc32 body)

end Sys2Proof.Machine
end

