-- ==== Sys2Proof/Machine/Frames.lean ====
section
/-! DEFINITION. Mastering (R91, R92), the state of the line (R93, R125 to R128), the frames that the master launches (R97 to R110)
and the delays of the positions with what follows from them (R112, R114 to R116). -/

namespace Sys2Proof.Machine

/-! ### Mastering (R91, R92, R113) -/

/-- This module masters the chain (R91, R340): solo, the holder of the Imprint, or in INIT the module that enumerates at
start-up (R113); not while a frame of a higher EDITION has silenced it (R92). -/
def State.masters (s : State) : Bool :=
  !s.chain.silenced && (!s.pair || s.pstate == Ps.holder
  || (s.pstate == Ps.init && (s.getF Fld.PAIR_STATE_ROLE == 0 || !s.flag Fld.PAIR_STATE_PARTNER_PRESENT)))

/-- The module is role B of a pair: it launches descending (R91). -/
def State.roleB (s : State) : Bool := s.pair && s.getF Fld.PAIR_STATE_ROLE == 1

/-! ### The state of the line (R93, R125 to R128) -/

/-- The breaks in force, lowest first (R125). -/
def State.breaks (s : State) : List Nat :=
  (if s.getF Fld.CHN0_RING_BREAK_LO == 0xFF then [] else [s.getF Fld.CHN0_RING_BREAK_LO])
  ++ (if s.getF Fld.CHN0_RING_BREAK_HI == 0xFF then [] else [s.getF Fld.CHN0_RING_BREAK_HI])

/-- The positions that a frame from the module's own HEAD reaches, in the order of its slots (R97, R126). -/
def State.ownSeg (s : State) : List Nat :=
  if s.roleB then (s.allPos.filter (fun i => s.breaks.all (fun k => decide (k < i)))).reverse
  else s.allPos.filter (fun i => s.breaks.all (fun k => decide (i ≤ k)))

/-- The positions beyond the breaks that the other end reaches, in the order of its slots; none without a break. -/
def State.otherSeg (s : State) : List Nat :=
  if s.breaks.isEmpty then []
  else if s.roleB then s.allPos.filter (fun i => s.breaks.all (fun k => decide (i ≤ k)))
  else (s.allPos.filter (fun i => s.breaks.all (fun k => decide (k < i)))).reverse

/-- RING.MODE for the breaks in force (R93). -/
def State.ringMode (s : State) : List Nat → Nat
  | [] => if s.pair then 1 else 0
  | [k] => if k == 0 || k == s.nodes then 2 else 3
  | _ => 4

/-- Nodes remain on both sides of the breaks (R126). -/
def State.bothSides (s : State) : Bool := match s.breaks with
  | [k] => k != 0 && k != s.nodes
  | [a, b] => a != 0 && b != s.nodes
  | _ => false

/-- A position lies between two breaks (R128). -/
def between (bs : List Nat) (i : Nat) : Bool := match bs with
  | [a, b] => a < i && i ≤ b
  | _ => false

/-- The segment of a position (R135): 1 when reached from the end that is not role A's. -/
def State.segmentOf (s : State) (bs : List Nat) (i : Nat) : Bool := match bs with
  | [] => s.roleB
  | a :: _ => a < i

/-- The breaks take a value: MODE, unreachable positions with NODE_UNREACHABLE, segments, what is unmonitored. A position that is
reachable again is as its slots left it: UNHEARD where its mark stands. -/
def State.setBreaks (s : State) (bs : List Nat) : State :=
  let s := (s.setF Fld.CHN0_RING_BREAK_LO ((bs[0]?).getD 0xFF)).setF Fld.CHN0_RING_BREAK_HI ((bs[1]?).getD 0xFF)
  let s := s.setF Fld.CHN0_RING_MODE (s.ringMode bs)
  let new := s.allPos.any (fun i => between bs i && (s.posAt i).state != 4)
  let s := s.allPos.foldl (fun s i =>
    let back := if s.mapGet Reg.NODE_UNHEARD_LO i then 3 else 2
    s.posMod i (fun p => { p with
      segment := s.segmentOf bs i, state := if between bs i then 4 else if p.state == 4 then back else p.state })) s
  let s := s.mapAll Reg.NODE_UNREACH_LO (between bs)
  (s.raiseIf new Ev.NODE_NODE_UNREACHABLE).remark

/-! ### Frames and ordered sets of the master (R94, R97 to R110) -/

/-- Bit 0 of FLAGS for a launch at a port (R97): role B's HEAD and a solo module's TAIL launch descending. -/
def State.dirBit (s : State) (port : Nat) : Nat := b2n (s.roleB || port == 1)

/-- One entry of a CMD frame (R107): POS, OP, ADDR, VALUE. -/
structure CmdEntry where
  pos : Nat
  op : Nat
  addr : Nat
  value : Nat
  deriving DecidableEq, Repr

/-- The 8 bytes of a CMD entry, RESULT 0. -/
def CmdEntry.bytes (e : CmdEntry) : List Nat := [e.pos, e.op] ++ beBytes 2 e.addr ++ beBytes 2 e.value ++ [0, 0]

/-- CMD frames of at most 128 entries leave a port (R107). -/
def State.cmdFrames (s : State) (port : Nat) (es : List CmdEntry) : State :=
  if es.isEmpty then s
  else (pieces 128 es.length es).foldl (fun (s : State) (l : List CmdEntry) =>
    s.frameOut port ⟨0x02, s.dirBit port, 0, s.chainEdition, 0, 0, l.length, 0, 8⟩ (l.flatMap CmdEntry.bytes)) s

/-- Entries for nodes leave from the end that reaches them: HEAD, and in a solo string TAIL for those beyond a break; an entry for
every node leaves both. -/
def State.cmdOut (s : State) (es : List CmdEntry) : State :=
  let far := s.otherSeg
  let own := es.filter (fun e => e.pos == 0xFF || !far.contains e.pos)
  let oth := es.filter (fun e => e.pos == 0xFF || far.contains e.pos)
  let s := s.cmdFrames 0 own
  if s.pair || far.isEmpty then s else s.cmdFrames 1 oth

/-- The master reads node registers (R107). -/
def State.nodeReads (s : State) (es : List (Nat × Nat)) : State := s.cmdOut (es.map (fun e => ⟨e.1, 1, e.2, 0⟩))

/-- The master writes node registers and reads each back in a later CMD frame (R107): (position, address, value). -/
def State.nodeWrites (s : State) (es : List (Nat × Nat × Nat)) : State :=
  (s.cmdOut (es.map (fun e => ⟨e.1, 2, e.2.1, e.2.2⟩))).nodeReads (es.map (fun e => (e.1, e.2.1)))

/-- The master writes one node register. -/
def State.nodeWrite (s : State) (pos addr value : Nat) : State := s.nodeWrites [(pos, addr, value)]

/-- An NFW frame leaves for a position (R110). -/
def State.nfwOut (s : State) (pos op block : Nat) (data : List Nat) : State :=
  let port := if !s.pair && s.otherSeg.contains pos then 1 else 0
  s.frameOut port ⟨0x05, s.dirBit port, 0, s.chainEdition, 0, 0, 1, 0, 0⟩
    ([pos, op] ++ beBytes 2 block ++ beBytes 2 data.length ++ [0, 0] ++ data)

/-- An ENUM frame leaves (R109): TAKEN 0, `count` empty records from position `first`. -/
def State.enumOut (s : State) (port flags first count : Nat) : State :=
  s.frameOut port ⟨0x03, s.dirBit port + flags, 0, s.chainEdition, 0, first, count, 0, 16⟩ (List.replicate (16 * count) 0)

/-- A REJOIN of one position begins (R109, R113): BUSY, and ENUM with REJOIN set. -/
def State.rejoinOut (s : State) (pos : Nat) : State :=
  let s := { s.setF Fld.NODE_ENUM_STATUS_BUSY 1 with chain := { s.chain with enum := 1, enumSent := true, rejoin := pos } }
  s.enumOut (if !s.pair && s.otherSeg.contains pos then 1 else 0) 8 pos 1

/-- DLY leaves a chain port (R94): POS, OP, CHK. -/
def State.dlyOut (s : State) (port pos op : Nat) : State := s.symOut port 0x11 [pos, op, pos ^^^ op ^^^ 0x3C]

/-- TRIG leaves a chain port (R94): SWEEP, CTRL, CHK. -/
def State.trigOut (s : State) (port num ctrl : Nat) : State :=
  s.symOut port 0x10 [num / 256 % 256, num % 256, ctrl, (num / 256 % 256) ^^^ (num % 256) ^^^ ctrl ^^^ 0x5A]

/-! ### Delays (R112, R114 to R116) -/

/-- The delay of position `i` from role A's end, ps. -/
def State.dlyFwd (s : State) (i : Nat) : Option Nat :=
  if s.roleB then match s.chain.endDly, (s.posAt i).dly with
    | some e, some d => some (e - d)
    | _, _ => none
  else (s.posAt i).dly

/-- The delay of position `i` from the other end, ps; none while unmeasured. -/
def State.dlyRev (s : State) (i : Nat) : Option Nat :=
  if s.roleB then (s.posAt i).dly else match s.chain.endDly, (s.posAt i).dly with
    | some e, some d => some (e - d)
    | _, _ => none

/-- A WAIT value (R115): 20 µs less a delay in ps, in units of 1.25 ns rounded to the nearest. -/
def waitOf (d : Nat) : Nat := (2 * (20000000 - d) + 1250) / 2500

/-- The hop delay to position `i`, ps: from the position before it, or from the end for position 1 (R112). -/
def State.hopPs (s : State) (i : Nat) : Option Int :=
  match s.dlyFwd i, (if i ≤ 1 then some 0 else s.dlyFwd (i - 1)) with
  | some a, some b => some ((a : Int) - (b : Int))
  | _, _ => none

/-- The hop delay to position `i` lies within its tolerance (R112); an unmeasured one does not count against it. -/
def State.hopOk (s : State) (i : Nat) : Bool := match s.hopPs i with
  | some h => decide ((h - ((s.recAt i).hopPs : Int)).natAbs ≤ s.getReg Reg.NODE_DLY_TOL)
  | none => true

/-- The averaged delay from the sum of 32 round trips in ps: half of what exceeds 200 ns. -/
def State.dlyMean (s : State) (sum : Nat) : Nat × State :=
  let (d, s) := s.divFree ((sum : Int) - 32 * 200000) 64
  (d.toNat, s)

/-- The WAIT values of a position that differ from those before (R115, R116), as writes. -/
def State.waitWrites (s : State) (i : Nat) (old : Option Nat × Option Nat) : List (Nat × Nat × Nat) :=
  let put := fun (addr : Nat) (a b : Option Nat) => match a, b with
    | some x, some y => if waitOf x == waitOf y then [] else [(i, addr, waitOf y)]
    | none, some y => [(i, addr, waitOf y)]
    | _, none => []
  put 0x11 old.1 (s.dlyFwd i) ++ put 0x12 old.2 (s.dlyRev i)

/-- A measurement of all positions and the far end starts: 32 round trips of each, the next after each echo (R114; assumption
log 108). -/
def State.dlyStart (s : State) : State :=
  let c := { s.chain with
    endSum := 0, endLeft := 32, pos := s.chain.pos.map (fun p => { p with dlySum := 0, dlyLeft := 32 }) }
  let s := { s with chain := c }
  (s.allPos ++ [0xFE]).foldl (fun (s : State) i => s.dlyOut 0 i 1) s

end Sys2Proof.Machine
end

