-- ==== Sys2Proof/Machine/Balance.lean ====
section
/-! DEFINITION. The commands of *Cell Measurement Integrity and Balancing*: the open-wire test (R145 to R147), clearing
marks (R144), the comparator read-back (R149), the fault loop (R152), balancing (R154 to R159). -/

namespace Sys2Proof.Machine

/-! ### The open-wire test (R145 to R147) -/

/-- The schedule has sample instants (R118). -/
def State.sampling (s : State) : Bool := s.getF Fld.CHN0_SCHED_SCHED != 0 && s.getF Fld.CHN0_SCHED_SCHED != 4

/-- A test may run now (R146): none in ASSAY, STOPPING or DORMANT, in STARTING only for check C6, none without sample
instants. -/
def State.owtAllowed (s : State) : Bool :=
  s.sampling && (s.cur == Md.survey || s.cur == Md.dispatch || s.cur == Md.level || s.cur == Md.ellipsis
    || (s.cur == Md.starting && s.bal.owtForMode))

/-- A position enters a test (R145 to R147): its report is awaited, what was observed before is what the test classifies, the
readings before the sweep of this period are those of R143's periodic case, a clear's test begins. -/
def Position.owtStart (p : Position) : Position :=
  { p with owAnswered := false, owRead := 0, sigNew := false, misNew := false, testBase := p.prev,
           clr := if p.clr == 1 then 2 else p.clr }

/-- OWT_LAUNCH (R146): in the sweep period after a test was asked for, the master commands it on all nodes, with a CMD entry at
POS 0xFF. -/
def execOwtLaunch (s : State) : Step :=
  if s.live && s.masters && s.bal.owtWanted && !s.bal.owtRunning && s.owtAllowed then
    let s := s.cmdOut [⟨0xFF, 2, 0x0028, 1⟩]
    let b := { s.bal with owtWanted := false, owtForMode := false, owtRunning := true, owtServes := s.bal.owtForMode }
    let c := { s.chain with owtPeriod := true, pos := s.chain.pos.map Position.owtStart }
    let s := { s with bal := b, chain := c }
    let s := s.setF Fld.BAL_OWT_STATUS_RUNS (s.getF Fld.BAL_OWT_STATUS_RUNS + 1)
    .next (s.setF Fld.BAL_OWT_STATUS_RESULT 3)
  else .next s

/-- A position passes the test: it has reported done and flags nothing (R147). -/
def Position.owPass (p : Position) : Bool := p.owAnswered && p.owFlags == 0

/-- A running test ends (R147): the result with the first position that failed, a NO_REPLY retried outside check C6, the
request and the clears of marks it served. -/
def State.owtEnd (s : State) : State :=
  let bad := s.allPos.filter (fun i => !(s.posAt i).owPass)
  let passed := bad.isEmpty
  let silent := s.allPos.filter (fun i => !(s.posAt i).owAnswered)
  let result := match bad with
    | [] => 1
    | i :: _ => if (s.posAt i).owAnswered then 2 else 5
  let s := (s.setF Fld.BAL_OWT_STATUS_RESULT result).setF Fld.BAL_OWT_STATUS_FIRST_FAIL (bad.head?.getD 0)
  let s := (s.raise Ev.BAL_OWT_DONE).raiseIf (!passed) Ev.BAL_OWT_FAIL
  let serves := s.bal.owtServes
  let s := if serves then s else silent.foldl (fun s i => s.posMod i (fun p =>
    { p with owNoReply := min 3 (p.owNoReply + 1), owUnmon := p.owUnmon || 2 ≤ p.owNoReply })) s
  let b := { s.bal with owtRunning := false, owtServes := false, owtWanted := s.bal.owtWanted || (!serves && !silent.isEmpty) }
  let s := ({ s with bal := b }).remark
  let s := (s.allPos.filter (fun i => (s.posAt i).clr == 2)).foldl (fun (s : State) i =>
    if (s.posAt i).owPass then s.posMod i (fun p => { p with clr := 3, clrProofs := 0 }) else s.clearDenied i) s
  if serves then s.owtForModeDone passed else s

/-- A node's report of the running test has arrived (R145, R147): it may mark cells, and the last one ends the test. -/
def State.owtAnswer (s : State) (i flags : Nat) : State :=
  if !s.bal.owtRunning || (s.posAt i).owAnswered then s
  else
    let s := s.posMod i (fun p => { p with owAnswered := true, owFlags := flags, owNoReply := 0 })
    let s := if flags == 0 then s.posMod i (fun p => { p with owUnmon := false }) else s
    let p := s.posAt i
    let s := if flags != 0 || p.misSeen || p.sigSeen.isSome then s.classify i else s.remark
    if s.allPos.all (fun j => (s.posAt j).owAnswered) then s.owtEnd else s

/-- OWT_DEADLINE (R147): 20 ms after the CMD frame the nodes that have not reported fail the test with NO_REPLY. -/
def execOwtDeadline (s : State) : Step := .next (if s.live && s.bal.owtRunning then s.owtEnd else s)

/-- OWT_PERIODIC (R146): every 10 s; a running test serves it. -/
def execOwtPeriodic (s : State) : Step :=
  if s.live && s.masters && !s.bal.owtRunning then
    let s := if s.owtAllowed then s else s.setF Fld.BAL_OWT_STATUS_RESULT 4
    .next s.wantOwt
  else .next s

/-- OWT_NOW (R146): BAL.CTL.OWT_NOW asks for a test. -/
def execOwtNow (master : Nat) (s : State) : Step :=
  .next (s.permit master Reg.BAL_CTL (fun s => (if s.owtAllowed then s else s.setF Fld.BAL_OWT_STATUS_RESULT 4).wantOwt))

/-! ### Clearing marks (R144) -/

/-- SUSPECT_CLR (R144): the keyed write that asks for the marks of a position to be cleared. A write while a clear of the same position
is pending denies that one and starts afresh (assumption log 110); a marking of the same CLK_FAB cycle denies it (R160). -/
def execSuspectClr (master pos : Nat) (s : State) : Step :=
  .next (s.permitKeyed master Reg.BAL_SUSPECT_CLR 0x8B3D Ev.BAL_SUSPECT_CLR_DENIED (fun s =>
    if pos == 0 || s.nodes < pos || s.cur != Md.survey then s.raise Ev.BAL_SUSPECT_CLR_DENIED
    else
      let s := if (s.posAt pos).clr == 0 then s else s.clearDenied pos
      if s.arrivedNow (markKey pos) then s.raise Ev.BAL_SUSPECT_CLR_DENIED
      else (s.posMod pos (fun p => { p with clr := 1, clrProofs := 0 })).wantOwt))

/-- The marks of position `i` are cleared with SUSPECT_CLEARED. -/
def State.clearMarks (s : State) (i : Nat) : State :=
  let s := s.posMod i (fun p => { p with
    suspect := 0, pairs := [], singles := [], proofFault := false, stuck := false, closed := [], clr := 0, clrProofs := 0 })
  (s.raise Ev.BAL_SUSPECT_CLEARED).remark

/-- The pending clear of a position is decided as soon as its test has passed and ten proof comparisons in a row have agreed
(R144). -/
def State.clearOne (s : State) (i : Nat) : State :=
  let p := s.posAt i
  if p.clr == 0 then s
  else if s.cur != Md.survey then s.clearDenied i
  else if p.clr == 3 && 10 ≤ p.clrProofs then s.clearMarks i
  else s

/-- Every pending clear is judged (R144). -/
def State.clearCheck (s : State) : State := s.allPos.foldl State.clearOne s

/-- SUSPECT_CLR_DECISION (R144): 1 s after the write the clear of a position is decided. -/
def execSuspectClrDecision (s : State) (pos : Nat := 1) : Step :=
  if s.live then
    let s := s.clearOne pos
    .next (if (s.posAt pos).clr == 0 then s else s.clearDenied pos)
  else .next s

/-! ### Returning CMD frames (R91, R107) -/

/-- A CMD frame with answers (position, address, value, RESULT) has come back at the module's far end of the line: counted at the
port, and forwarded where this module is not the master (R91; assumption log 108). -/
def State.cmdSeen (s : State) (es : List (Nat × Nat × Nat × Nat)) : State :=
  let s := s.frameIn (if s.pair then 0 else 1) true
  if s.pair && !s.masters then
    let h : ChainHead := ⟨0x02, b2n (!s.roleB), 0, s.getReg Reg.PAIR_PARTNER_EDITION, 0, 0, es.length, 0, 8⟩
    let bytes := h.bytes ++ es.flatMap (fun e => [e.1, 1] ++ beBytes 2 e.2.1 ++ beBytes 2 e.2.2.1 ++ beBytes 2 e.2.2.2)
    s.fwdBytes (bytes ++ frameCrc bytes) true
  else s

/-! ### Comparators (R149) -/

/-- COMP_READBACK (R149): the 10 s read-back of a position's seven settings. A first difference is rewritten and read again,
a second is COMP_CFG_MISMATCH and makes the position unmonitored. -/
def execCompReadback (pos : Nat) (words : List Nat) (s : State) : Step :=
  if s.live && 1 ≤ pos && pos ≤ s.nodes then
    let s := s.cmdSeen ((withIdx 0 words).map (fun w => (pos, 0x20 + w.1, w.2, 1)))
    let want := (s.recAt pos).comp
    if words == want then .next (s.posMod pos (fun p => { p with compAgain := false }))
    else
      let s := s.nodeWrites (((withIdx 0 want).filter (fun w => words[w.1]? != some w.2)).map (fun w => (pos, 0x20 + w.1, w.2)))
      if (s.posAt pos).compAgain then
        let s := s.posMod pos (fun p => { p with compAgain := false, compBad := true })
        .next (s.raise Ev.BAL_COMP_CFG_MISMATCH).remark
      else .next (s.posMod pos (fun p => { p with compAgain := true }))
  else .next s

/-! ### The fault loop (R151, R152) -/

/-- The arrival of the tone. -/
abbrev toneKey : Nat := 1

/-- After a fault loop trip the master reads COMP_STATE of every node it can reach (R153). -/
def State.floopRead (s : State) : State :=
  if s.masters then
    let is := s.allPos.filter (fun i => (s.posAt i).state != 4)
    { s with bal := { s.bal with floopWait := is, floopOpen := [] } }.nodeReads (is.map (fun i => (i, 0x27)))
  else s

/-- A position whose loop switch is open, or whose STATUS shows COMP_TRIP, is recorded while the nodes' answers are awaited (R153;
where the record keeps it is the model's choice, assumption log 110). -/
def State.floopSeen (s : State) (i : Nat) (isOpen : Bool) : State :=
  if isOpen && !s.bal.floopWait.isEmpty && !s.bal.floopOpen.contains i then
    { s with bal := { s.bal with floopOpen := s.bal.floopOpen ++ [i] } }
  else s

/-- A node has answered the read of COMP_STATE (R153). -/
def State.floopReply (s : State) (i value : Nat) : State :=
  let s := s.floopSeen i (bitOf value 4)
  { s with bal := { s.bal with floopWait := s.bal.floopWait.filter (· != i) } }

/-- FLOOP_ABSENT (R152): the tone has stayed below 2 mA rms for 8 periods, with an amplitude in 0.01 mA; FAULT_LOOP trips, or, in
DORMANT, the module wakes by row 14 of R27: bit 7 of WAKE_EN, which is always 1. A tone that came in the same CLK_FAB cycle wins
(R160). -/
def execFloopAbsent (s : State) (amplitude : Nat := 0) : Step :=
  if s.phase == .dormant then .next (s.wakeUp 7)
  else if s.live && amplitude < 200 && !s.arrivedNow toneKey then
    let s := ((s.setB Fld.BAL_FLOOP_PRESENT false).setF Fld.BAL_FLOOP_AMPLITUDE amplitude).countF Fld.BAL_FLOOP_LOSSES
    .next ((((s.raise Ev.BAL_FLOOP_LOSS).tripMargin 0x01 0xFFFF).rejudge).floopRead)
  else .next s

/-- The time bases of a pair are aligned within 500 ns (R151, R437). -/
def State.aligned (s : State) : Bool := 2 ≤ s.getF Fld.TIME_SYNC_STATE_PAIR_ALIGN

/-- This module drives the fault loop tone (R151): solo, role A, or aligned with the partner and not in DORMANT; a module held in
reset or halted in the boot ROM drives none. -/
def State.sourcing (s : State) : Bool :=
  (s.live || s.phase == .dormant) && (!s.pair || s.getF Fld.PAIR_STATE_ROLE == 0 || (s.aligned && s.phase != .dormant))

/-- The partner drives the tone, as the partner link reports (R151, R152): present, and of role A or aligned and not in DORMANT. -/
def State.partnerSources (s : State) : Bool :=
  s.pair && s.flag Fld.PAIR_STATE_PARTNER_PRESENT
  && (s.getF Fld.PAIR_STATE_ROLE == 1 || (s.aligned && s.getF Fld.PAIR_STATE_PARTNER_MODE != Md.dormant))

/-- The number of modules that source the tone (R151). -/
def State.sources (s : State) : Nat := b2n s.sourcing + b2n s.partnerSources

/-- TONE_PRESENT (R152): the tone is there with an amplitude in 0.01 mA rms; one that contradicts the sources reported over the
partner link (each contributes 5 mA ±20 %) raises FLOOP_AMPLITUDE. -/
def execTonePresent (amplitude : Nat) (s : State) : Step :=
  if s.live then
    let s := ((s.arrive toneKey).setB Fld.BAL_FLOOP_PRESENT true).setF Fld.BAL_FLOOP_AMPLITUDE (min amplitude 4095)
    let n := s.sources
    let s := s.raiseIf (s.pair && (amplitude < 400 * n || 600 * n < amplitude)) Ev.BAL_FLOOP_AMPLITUDE
    .next (s.dropCause 0x01)
  else .next s

/-! ### Balancing (R154 to R159) -/

/-- The sample period of the schedule in force, µs. -/
def State.periodUs (s : State) : Nat := s.getF Fld.CHN0_SCHED_PERIOD_US

/-- The duty ceiling in % (R155). -/
def State.ceiling (s : State) : Nat :=
  if s.cur == Md.dispatch then 70
  else if s.cur == Md.level then 90
  else if s.cur == Md.starting && (s.mode.row == 4 || s.mode.row == 8) then 90
  else 0

/-- The mask the scheduler may use of a position's plan (R156). -/
def State.bleedMask (s : State) (i : Nat) : Nat :=
  let p := s.posAt i
  if p.state == 3 || p.state == 4 || p.late || p.stuck || p.hot then 0
  else ((p.plan % 65536) &&& (s.recAt i).cellMask) &&& (65535 ^^^ (p.suspect % 65536))

/-- The duty of a plan in %. -/
def planDuty (plan : Nat) : Nat := bitsOf plan 31 24

/-- ON_TIME in units of 10 µs of R154 for a duty in %, a ceiling in % and a period in µs: the least of the duty, the
ceiling and what the quiet window leaves, rounded down. -/
def onTime (duty ceil period : Nat) : Nat :=
  let avail10 := (period - 1500 - 455) * 100 / 101 / 10
  min (min duty ceil * period / 1000) avail10

/-- What position `i` gets in this BLEED frame: mask, ON_TIME, whether QUIET_SKIP is raised, whether the plan is clamped. `late` says
that the frame cannot leave by the sample instant plus 1 ms. -/
def State.bleedFor (s : State) (late : Bool) (i : Nat) : Nat × Nat × Bool × Bool :=
  let p := s.posAt i
  if !s.flag Fld.BAL_CTL_ENABLE then (0, 0, false, false)
  else
    let mask := s.bleedMask i
    let duty := planDuty p.plan
    let ceil := s.ceiling
    if p.hold || p.hot then (0, 0, false, false)
    else
      let clamped := duty != 0 && p.plan % 65536 != 0 && (mask != p.plan % 65536 || ceil < duty)
      if duty == 0 || mask == 0 then (0, 0, false, clamped)
      else
        let t := onTime duty ceil s.periodUs
        if t < 10 || late then (0, 0, true, clamped) else (mask, t, false, clamped)

/-- One position's entry of the BLEED frame is decided. -/
def State.bleedOne (late : Bool) (s : State) (i : Nat) : State :=
  let (mask, t, skip, clamped) := s.bleedFor late i
  let p := s.posAt i
  let s := s.raiseIf skip Ev.BAL_QUIET_SKIP
  let s := s.raiseIf (clamped && (!p.clamped || s.bal.newPlan)) Ev.BAL_PLAN_CLAMPED
  let s := s.posMod i (fun p => { p with applied := t * 65536 + mask, clamped := clamped })
  s.estBleed i mask t

/-- The 4 bytes of a position's BLEED entry (R108): MASK, ON_TIME. -/
def State.bleedBytes (s : State) (i : Nat) : List Nat :=
  beBytes 2 ((s.posAt i).applied % 65536) ++ beBytes 2 ((s.posAt i).applied / 65536)

/-- A BLEED frame leaves a port for a segment (R100, R108). -/
def State.bleedFrame (s : State) (port : Nat) (is : List Nat) : State :=
  match is with
  | [] => s
  | first :: _ =>
    s.frameOut port ⟨0x04, s.dirBit port, 0, s.chainEdition, 0, first, is.length, 0, 4⟩ (is.flatMap s.bleedBytes)

/-- BLEED_LAUNCH (R154): the BLEED frame of a sample period, `late` where it cannot leave by the sample instant plus 1 ms. The plan is
that of the sweep from which the frame is computed (R160). BLEED becomes ON as R159 states, and in DISPATCH goes off with a frame
that bleeds nothing. -/
def execBleedLaunch (s : State) (late : Bool := false) : Step :=
  if s.live && s.masters && (s.getF Fld.CHN0_SCHED_SCHED == 1 || s.getF Fld.CHN0_SCHED_SCHED == 2) then
    if s.chain.owtPeriod then .next s
    else
      let s := s.allPos.foldl (State.bleedOne late) s
      let s := s.bleedFrame 0 s.ownSeg
      let s := if s.pair then s else s.bleedFrame 1 s.otherSeg
      let any := s.allPos.any (fun i => (s.posAt i).applied / 65536 != 0)
      let s := { s with bal := { s.bal with newPlan := false, zeroSent := !any } }
      let b := s.getF Fld.MODE_FUNC_STATE_BLEED
      if (s.cur == Md.dispatch && any && b != 2) || (s.cur == Md.starting && b == 1) then
        .next ((s.raise Ev.BAL_BLEED_ON).setFunc 2 2).progress
      else if s.cur == Md.dispatch && !any then .next (s.stopFunc 2)
      else .next s
  else .next s

/-- BLEED becomes OFF when every heard position has shown BLEED_ACTIVE clear in one sweep after ON_TIME 0 was sent (R159). -/
def State.bleedOff (s : State) (quiet : List Nat) : State :=
  let b := s.getF Fld.MODE_FUNC_STATE_BLEED
  if b == 3 && s.bal.zeroSent
      && s.allPos.all (fun i => (s.posAt i).state == 3 || (s.posAt i).state == 4 || quiet.contains i) then
    ((s.raise Ev.BAL_BLEED_OFF).setFunc 2 0).progress
  else s

/-- The arrival of a commit. -/
abbrev commitKey : Nat := 2

/-- The staged plan is committed (R156). -/
def State.planCommit (s : State) : State :=
  let s := s.arrive commitKey
  { s with bal := { s.bal with committed := s.bal.staged, commitWaits := true } }

/-- A completed sweep takes the committed plan of every position for the BLEED frame computed from it; a commit of the same CLK_FAB
cycle waits for the next sweep (R156, R160). -/
def State.planTake (s : State) : State :=
  if s.bal.commitWaits && !s.arrivedNow commitKey then
    let ps := (withIdx 0 s.chain.pos).map (fun (q : Nat × Position) => { q.2 with plan := (s.bal.committed[q.1]?).getD 0 })
    { s with chain := { s.chain with pos := ps }, bal := { s.bal with commitWaits := false, newPlan := true } }
  else s

/-- PLAN_COMMIT (R156): the staged plan of all positions takes effect at the next BLEED frame. -/
def execPlanCommit (master : Nat) (s : State) : Step :=
  .next (s.permit master Reg.BAL_PLAN_COMMIT State.planCommit)

/-- PLAN_CLEAR (R161): every position's staged plan becomes 0 and is committed. -/
def execPlanClear (master : Nat) (s : State) : Step :=
  .next (s.permit master Reg.BAL_PLAN_COMMIT (fun s =>
    { s with bal := { s.bal with staged := List.replicate 64 0 } }.planCommit))

end Sys2Proof.Machine
end

