-- ==== Sys2Proof/Machine/UpdCore.lean ====
section
/-! DEFINITION. The update manager's shared operations (chapter 20): interfaces, activation, node sequences, output stage
loads. -/

namespace Sys2Proof.Machine

/-- Payload kinds (R496). -/
abbrev Pk.app : Nat := 1
abbrev Pk.safe : Nat := 2
abbrev Pk.node : Nat := 3
abbrev Pk.ostage : Nat := 4
abbrev Pk.record : Nat := 5

/-- A READY or armed payload of a kind. -/
def ofKind (l : List Payload) (k : Nat) : Option Payload := l.find? (fun p => p.kind == k)

/-- The active bank of APP or SAFE. -/
def State.bankNo (s : State) (k : Nat) : Nat := s.getF (if k == Pk.app then Fld.UPD_BANKS_APP_ACTIVE else Fld.UPD_BANKS_SAFE_ACTIVE)

/-- What a bank of APP or SAFE holds. -/
def State.bankOf (s : State) (k i : Nat) : Option Payload := ((if k == Pk.app then s.upd.app else s.upd.safe)[i]?).getD none

/-- A bank takes a content, and BANKS shows whether the inactive ones are valid. -/
def State.putBank (s : State) (k i : Nat) (p : Option Payload) : State :=
  let s := if k == Pk.app then { s with upd := { s.upd with app := s.upd.app.set i p } }
    else { s with upd := { s.upd with safe := s.upd.safe.set i p } }
  let s := s.setB Fld.UPD_BANKS_APP_OTHER_VALID (s.bankOf Pk.app (1 - s.bankNo Pk.app)).isSome
  s.setB Fld.UPD_BANKS_SAFE_OTHER_VALID (s.bankOf Pk.safe (1 - s.bankNo Pk.safe)).isSome

/-- The active bank of APP or SAFE changes (MRAM). -/
def State.switchBank (s : State) (k i : Nat) : State :=
  let s := s.setFM (if k == Pk.app then Fld.UPD_BANKS_APP_ACTIVE else Fld.UPD_BANKS_SAFE_ACTIVE) i
  s.putBank k i (s.bankOf k i)

/-- STATE.STATE, its KIND and STAGED_KINDS show the manager: a transfer, else an activation, arming, READY payloads. -/
def State.updShow (s : State) : State :=
  let u := s.upd
  let v := if u.state != 0 then u.state
    else if !u.active.isEmpty then 7
    else if !u.armed.isEmpty || !u.nextStart.isEmpty then 6
    else if !u.ready.isEmpty then 5 else 0
  let s := (s.setF Fld.UPD_STATE_STATE v).setF ⟨Folio.STATUS Pg.UPD, 3, 0⟩ v
  let s := s.setF Fld.UPD_STATE_KIND (if u.state != 0 then (u.cur.map (·.kind)).getD 0 else 0)
  s.setReg Reg.UPD_STAGED_KINDS (bitsToNat ([1, 2, 3, 4, 5].map (fun k => u.ready.any (fun p => p.kind == k))))

/-! ### Interfaces (R498) -/

/-- Two major ranges overlap; 0 is not concerned. -/
def overlaps (a b : Nat) : Bool := a == 0 || b == 0 || (a / 256 ≤ b % 256 && b / 256 ≤ a % 256)

/-- Entry `i` of a payload's ranges: 0 SAFE_API, 1 CHAIN, 2 DRIVE, 3 PAIR, 4 RECORD. -/
def Payload.ifAt (p : Payload) (i : Nat) : Nat := (p.ifs[i]?).getD 0

/-- The ranges of the running set: a kind of `l` where it holds one, else what runs. -/
def State.runIf (s : State) (l : List Payload) (k i : Nat) : Nat := match ofKind l k with
  | some p => p.ifAt i
  | none =>
    if k == Pk.record then (s.upd.recIfs[i]?).getD 0
    else if k == Pk.app then (s.cyc.image.map (fun p => p.ifAt i)).getD 0
    else ((s.bankOf Pk.safe (s.bankNo Pk.safe)).map (fun p => p.ifAt i)).getD 0

/-- Every node's CHAIN_RANGE overlaps a range; positions of a type that a READY NODE payload updates may take its range. -/
def State.nodesFit (s : State) (l : List Payload) (r : Nat) : Bool := s.chain.pos.all (fun p =>
  overlaps r p.range || (match ofKind l Pk.node with
    | some q => q.targetType == p.type && overlaps r (q.ifAt 1)
    | none => false))

/-- The rows of R498 that concern a payload hold, each against the running set with the payloads of one of the sets `ls` in it. -/
def State.ifaceOk (s : State) (ls : List (List Payload)) (p : Payload) : Bool :=
  let row := fun (i k : Nat) => ls.any (fun l => overlaps (p.ifAt i) (s.runIf l k i))
  match p.kind with
  | 1 => row 0 Pk.safe && row 4 Pk.record
  | 2 => row 0 Pk.app && ls.any (fun l => s.nodesFit l (p.ifAt 1)) && overlaps (p.ifAt 2) (s.getReg Reg.UPD_OS_DRIVE_IF)
      && row 4 Pk.record
  | 3 => row 1 Pk.safe
  | 4 => row 2 Pk.safe
  | _ => row 4 Pk.safe && row 4 Pk.app

/-- The payloads that are activated together by a restart (R504): SAFE with APP and RECORD, or RECORD alone. -/
def togetherOf (l : List Payload) : List Payload :=
  if (ofKind l Pk.safe).isSome then l.filter (fun p => p.kind == Pk.app || p.kind == Pk.safe || p.kind == Pk.record)
  else l.filter (fun p => p.kind == Pk.record)

/-- What is left of payloads armed together when those that do not fit the set that will run are taken out, until all fit (R504). -/
def State.fitting (s : State) : Nat → List Payload → List Payload
  | 0, _ => []
  | k + 1, l =>
    let set := if (ofKind l Pk.safe).isSome then togetherOf l else []
    let fits := fun (p : Payload) => s.ifaceOk [if set.contains p then set else []] p
    if l.all fits then l else s.fitting k (l.filter fits)

/-! ### Activation (R503, R504) -/

/-- A kind's activation has ended: its payload leaves READY and raises the floor, or fails with a RESULT and stays READY. With
the last kind the lines close, and where all succeeded RESULT is DONE. -/
def State.updKind (s : State) (p : Payload) (fail : Option Nat) : State :=
  let u := { s.upd with active := s.upd.active.filter (· != p.kind), armed := s.upd.armed.filter (fun q => q.kind != p.kind) }
  let s := match fail with
    | none => { s with upd := { u with
        ready := u.ready.filter (fun q => q.kind != p.kind),
        floors := u.floors.set (p.kind - 1) (max ((u.floors[p.kind - 1]?).getD 0) p.epoch) } }
    | some r => (({ s with upd := { u with anyFail := true } }).setF Fld.UPD_STATE_RESULT r).raise Ev.UPD_ACTIVATE_FAIL
  let s := if !s.upd.active.isEmpty then s
    else
      let s := (s.galClose Kind.image (!s.upd.anyFail)).galClose Kind.record (!s.upd.anyFail)
      if s.upd.anyFail then s else (s.setF Fld.UPD_STATE_RESULT 0x01).raise Ev.UPD_ACTIVATED
  s.updShow

/-- The NFW frame of a node sequence leaves, after its Galley line; it waits on in ASSAY, and ACTIVATE until POWER is OFF (R505). -/
def State.nodeFrame (s : State) (n : NodeUpd) : State :=
  let pos := n.left.headD 0
  if (n.op == 4 && s.power != 0) || (n.op != 4 && s.cur == Md.assay) then
    { s with upd := { s.upd with node := some { n with waits := true } } }
  else
    let p := n.payload
    let args := [pos, n.op] ++ leBytes 2 n.block ++ leBytes 4 p.version
    let s := match s.gal.openOf Kind.node with
      | none => s.galOpen Kind.node n.op args
      | some _ => s.galUpdate Kind.node (fun x => { x with phase := n.op, args := args })
    let data := if n.op == 2 then (p.body.drop (4096 * n.block)).take 4096 else if n.op == 3 then p.hash else []
    let s := s.nfwOut pos n.op n.block data
    ({ s with upd := { s.upd with node := some { n with waits := false } } }).setF Fld.UPD_STATE_POS pos

/-- The next operation of a node sequence: while sweeps run, its frame leaves when a sweep has completed, so that at most one leaves in
a sweep period and none delays a COLLECT (R119, R505). -/
def State.nodeSend (s : State) (n : NodeUpd) : State :=
  if s.sampling then { s with upd := { s.upd with node := some { n with waits := true } } } else s.nodeFrame n

/-- A sweep has completed: the operation that waits is sent if its condition holds (R505, R508). -/
def State.nodeResume (s : State) : State := match s.upd.node with
  | some n => if n.waits then s.nodeFrame n else s
  | none => s

/-- A node sequence fails at its position (R505). -/
def State.nodeFail (s : State) : State := match s.upd.node with
  | none => s
  | some n => ({ s with upd := { s.upd with node := none } }.galClose Kind.node false).updKind n.payload (some 0x12)

/-- The next position begins, or the sequence ends. -/
def State.nodeNext (s : State) (n : NodeUpd) : State := match n.left with
  | _ :: r :: t => s.nodeSend { n with left := r :: t, op := 1, block := 0, again := false, waits := false, rejoin := false }
  | _ => (({ s with upd := { s.upd with node := none } }.setF Fld.UPD_STATE_POS 0).galClose Kind.node true).updKind n.payload none

/-- The REJOIN after ACTIVATE has ended with a result of R112: FW_VER and CHAIN_RANGE are checked; while the node is still
restarting, the REJOIN is sent again (R505). -/
def State.nodeRejoined (s : State) (result : Nat) : State := match s.upd.node with
  | none => s
  | some n =>
    if !n.rejoin then s
    else if result == 2 || result == 5 then s.rejoinOut (n.left.headD 0)
    else
      let pos := n.left.headD 0
      let x := s.posAt pos
      if result == 1 && x.fw == n.payload.version / 65536 && overlaps x.range (s.runIf [] Pk.safe 1) then
        let s := (s.setReg Reg.UPD_NODES_DONE ((s.getReg Reg.UPD_NODES_DONE + 1) % 128)).raiseA Ev.UPD_NODE_DONE pos
        s.nodeNext n
      else s.nodeFail

/-- LOAD_DATA frames of 28 bytes up to 16 unacknowledged ones (R506). -/
def State.loadSend (s : State) : Nat → Load → State
  | 0, l => { s with upd := { s.upd with load := some l } }
  | n + 1, l =>
    if l.payload.bodyLen ≤ l.sentTo || l.acked + 16 * 28 ≤ l.sentTo then { s with upd := { s.upd with load := some l } }
    else
      let d := (l.payload.body.drop l.sentTo).take 28
      (s.driveMsg 0x41 (beBytes 4 l.sentTo ++ d)).loadSend n { l with sentTo := l.sentTo + d.length }

/-- An output stage load begins (R506): the Imprint is released, both DRIVE_EN lines are pulled low. -/
def State.loadBegin (s : State) (p : Payload) : State :=
  let s := s.driveMsg 0x03 [0x02]
  let s := { s with drv := { s.drv with imprint := false, renew := false, claimPending := false } }
  let s := s.pwmRefresh.pullEn
  let s := s.driveMsg 0x40 p.hash
  { s with upd := { s.upd with load := some ⟨p, 1, 0, 0⟩ } }

/-- After a load the lines are released and the module claims again (R290, R506). -/
def State.loadOver (s : State) : State :=
  let s := { s with upd := { s.upd with load := none } }
  let s := (s.setB Fld.DRV_EN_PULL_A false).setB Fld.DRV_EN_PULL_B false
  s.sendClaim (s.getReg Reg.DRV_EDITION + 1)

/-- A load ends with LOAD_CANCEL and OSTAGE_FAIL. -/
def State.loadFail (s : State) : State := match s.upd.load with
  | none => s
  | some l => ((s.driveMsg 0x44 []).loadOver).updKind l.payload (some 0x13)

/-- STATUS frames resume after LOAD_ACTIVATE: the load is complete, and the payload's DRIVE range is stored (R506). -/
def State.loadResumed (s : State) : State := match s.upd.load with
  | none => s
  | some l =>
    if l.phase != 4 then s
    else ((s.loadOver).setRegM Reg.UPD_OS_DRIVE_IF (l.payload.ifAt 2)).updKind l.payload none

/-- The APP image of a payload becomes active at once, outside RUN (R393). -/
def State.appNow (s : State) (p : Payload) : State :=
  let s := (s.switchBank Pk.app (1 - s.bankNo Pk.app)).setImage p
  let s := if s.getF Fld.CYC_STATE_STATE == 3 then s.cycState 0 else s
  s.updKind p none

/-- What the kinds of a restart set change before the restart: banks, the record and its version (R504). -/
def State.commitSet (s : State) (l : List Payload) : State := l.foldl (fun (s : State) (p : Payload) =>
  let s := { s with upd := { s.upd with floors := s.upd.floors.set (p.kind - 1) (max ((s.upd.floors[p.kind - 1]?).getD 0) p.epoch) } }
  if p.kind == Pk.record then
    { (s.setRegM Reg.UPD_RECORD_VERSION p.version) with
      record := p.record, upd := { s.upd with recIfs := p.ifs }, mram := { s.mram with deliveryKey := [] } }
  else s.switchBank p.kind (1 - s.bankNo p.kind)) s

/-- The Galley lines of an activation open (R504), one of each kind where none is open (R419). -/
def State.commitLines (s : State) (good : List Payload) : State :=
  let s := match good.find? (fun (p : Payload) => p.kind != Pk.record), s.gal.openOf Kind.image with
    | some p, none => s.galOpen Kind.image 0 ([p.kind, 1 - s.bankNo p.kind, 0, 0] ++ leBytes 4 p.version ++ p.hash)
    | _, _ => s
  match ofKind good Pk.record, s.gal.openOf Kind.record with
  | some p, none => s.galOpen Kind.record 0 ([0, 0, 0, 0] ++ leBytes 4 p.version ++ leBytes 4 (crc32 p.body))
  | _, _ => s

/-- A node sequence begins at the first position of the payload's type (R505). -/
def State.nodeStart (s : State) (p : Payload) : State :=
  let ps := s.allPos.filter (fun i => (s.posAt i).type == p.targetType)
  if s.masters && !ps.isEmpty then (s.setReg Reg.UPD_NODES_DONE 0).nodeSend ⟨p, ps, 1, 0, false, false, false⟩
  else s.updKind p (some 0x12)

/-- The string is in SURVEY with POWER OFF (R504). -/
def State.quiet (s : State) : Bool := s.cur == Md.survey && s.power == 0

/-- A kind that no restart activates is activated (R504): APP, NODE, OSTAGE. -/
def State.activateOne (s : State) (p : Payload) : State := match p.kind with
  | 1 =>
    let st := s.getF Fld.CYC_STATE_STATE
    if st == 1 || st == 2 then { s with upd := { s.upd with exchange := some p } } else s.appNow p
  | 3 => s.nodeStart p
  | _ =>
    if s.pair && !s.holder then s.updKind p (some 0x15)
    else if s.quiet && s.variant != .C then s.loadBegin p else s.updKind p (some 0x13)

/-- The armed payloads are activated (R504), but for those of a kind whose activation still runs: the kinds that fail the interface
check are reported, the lines open, each kind is activated, last those that a restart activates together. -/
def State.updActivate (s : State) (l0 : List Payload) : State :=
  let l := l0.filter (fun p => !s.upd.active.contains p.kind)
  let good := s.fitting 6 l
  let u := { s.upd with active := s.upd.active ++ l.map (·.kind), anyFail := s.upd.anyFail && !s.upd.active.isEmpty }
  let s := ({ s with upd := u }).commitLines good
  let s := ((l.filter (fun p => !good.contains p)).foldl (fun (s : State) (p : Payload) => s.updKind p (some 0x16)) s).updShow
  let rs := togetherOf good
  let s := (good.filter (fun p => !rs.contains p)).foldl State.activateOne s
  if rs.isEmpty then s
  else if s.quiet then (s.commitSet rs).restartWarm
  else rs.foldl (fun (s : State) (p : Payload) => s.updKind p (some 0x11)) s

/-- The due instant, or an ARM or REVERT that activates at once, has been granted (R504, R508). -/
def State.activateGranted (s : State) : State := s.updActivate s.upd.armed

/-- An APP exchange that waits is given up: its payload has been discarded or replaced (assumption log 118). -/
def State.exchangeDrop (s : State) : State := match s.upd.exchange with
  | some p =>
    if !s.upd.ready.contains p then s
    else
      let a := s.upd.active.filter (· != Pk.app)
      let s := { s with upd := { s.upd with exchange := none, active := a, anyFail := true } }
      if a.isEmpty then (s.galClose Kind.image false).galClose Kind.record false else s
  | none => s

/-! ### What a restart leaves to complete (R421) -/

/-- An image commit is completed from its recorded phase (R421): the bank switches where it had not, a node sequence or an output
stage load is taken up again once the start-up sequence allows. -/
def State.imageReplay (s : State) (args : List Nat) : State :=
  let kind := args.headD 0
  let bank := (args[1]?).getD 0
  let ver := leAt args 4 4
  if kind == Pk.node || kind == Pk.ostage then
    if (ofKind s.upd.store kind).any (fun p => p.version == ver) then { s with upd := { s.upd with active := [kind] } } else s
  else
    let s := match kind, s.bankOf Pk.app bank with
      | 1, some p =>
        if s.bankNo Pk.app != bank && p.version == ver then
          let f := s.upd.floors.set 0 (max ((s.upd.floors[0]?).getD 0) p.epoch)
          ({ s with upd := { s.upd with floors := f } }.switchBank Pk.app bank).setImage p
        else s
      | _, _ => s
    (s.setF Fld.UPD_STATE_RESULT 0x01).raise Ev.UPD_ACTIVATED

/-- The governing copy of the node firmware line replayed last: position, operation, block, image version. -/
def State.nodeLine (s : State) : Option (Nat × Nat × Nat × Nat) :=
  ((governing s.gal.slots []).find? (fun x => x.kind == Kind.node && x.state == 4)).map (fun x =>
    (x.args.headD 0, (x.args[1]?).getD 0, leAt x.args 2 2, leAt x.args 4 4))

/-- The chain master repeats the recorded NFW operation, and the sequence goes on from it (R421). -/
def State.nodeReplay (s : State) : State :=
  match s.nodeLine, ofKind s.upd.store Pk.node with
  | some (pos, op, block, ver), some p =>
    if p.version == ver && s.masters then
      let ps := s.allPos.filter (fun i => pos ≤ i && (s.posAt i).type == p.targetType)
      if ps.head? == some pos then
        { s with upd := { s.upd with active := [Pk.node] } }.nodeSend ⟨p, ps, op, block, false, false, false⟩
      else { s with aux := { s.aux with nodeRepeat := false } }
    else { s with aux := { s.aux with nodeRepeat := false } }
  | _, _ => { s with aux := { s.aux with nodeRepeat := false } }

/-- What replay left to take up again once SURVEY is reached: a node sequence that had sent nothing, an output stage load. -/
def State.updResume (s : State) : State :=
  if s.upd.node.isSome || s.upd.load.isSome then s
  else match s.upd.active.head?, ofKind s.upd.store (s.upd.active.headD 0) with
    | some 3, some p => s.nodeStart p
    | some 4, some p => s.activateOne p
    | _, _ => s

end Sys2Proof.Machine
end

