-- ==== Sys2Proof/Machine/Enum.lean ====
section
/-! DEFINITION. The first half of *The Ovgil Chain*: demotion, entry to SURVEY, the schedule (R118, R120), enumeration and REJOIN
(R109 to R113), the measurement of delays (R114, R116), node registers (R107, R132, R135). -/

namespace Sys2Proof.Machine

/-! ### Demotion (R358) -/

/-- The module learns of an edition: the higher one is its own (R341). -/
def State.learnEdition (s : State) (e : Nat) : State :=
  if s.getReg Reg.PAIR_EDITION < e then s.setReg Reg.PAIR_EDITION e else s

/-- The module demotes (R358): no RENEW, PWM inhibited, no mastering, no injection; its own operations stop without a
rollback, the Full Stop sequencer and a closing sequence among them (RESULT ABORTED, R297), since it commands no contactor any
more; it enters RESYNC. -/
def State.demote (s : State) (edition : Nat) : State :=
  let s := s.cutClosing 0x17
  let d := { s.drv with imprint := false, renew := false, arm := false, claimPending := false, failing := false }
  let m := { s.mode with row := 0, waitOwt := false, waitAck := false, kept := none, due := 0, aborted := false }
  let s := ({ s with drv := d, mode := m, safe := { s.safe with carrierReq := false } }).learnEdition edition
  let s := ((s.setB Fld.SAFE_STATE_FS_ACTIVE false).setB Fld.SAFE_STATE_NO_RAMP false).setF Fld.SAFE_STATE_FS_STEP 0
  let s := (s.setF Fld.PAIR_STATE_PSTATE Ps.resync).setF Fld.DRV_CONT_STEP 0
  let s := { s with chain := { s.chain with sweeps := [] } }
  let s := (s.pwmRefresh.asyAbort 0x06 true).imdRefresh.timeRole
  (s.raise Ev.PAIR_DEMOTED).plnkOut 0x03 []

/-- An edition higher than the module's own (R341): a HOLDER or CLAIMING module demotes, any other adopts it. -/
def State.higherEdition (s : State) (e : Nat) : State :=
  if s.getReg Reg.PAIR_EDITION < e then
    if s.pstate == Ps.holder || s.pstate == Ps.claiming then s.demote e else s.learnEdition e
  else s

/-- STALE_MASTER (R92): a frame at HEAD carries a higher EDITION; the module launches no further trigger or frame until it is
granted the Imprint. -/
def execStaleMaster (edition : Nat) (s : State) : Step :=
  if s.live && s.pair && s.getReg Reg.PAIR_EDITION < edition then
    let s := { s with chain := { s.chain with silenced := true } }
    .next ((s.raise Ev.NODE_STALE_MASTER).higherEdition edition)
  else .next s

/-! ### Entry to SURVEY (step 8 of R75) -/

/-- Step 8 of the start-up sequence: SURVEY (row 2 of R27); a solo module with a committed Plant Record sends CLAIM (R290); the program
starts (R389). What replay left to the update manager goes on (R421); an output stage load precedes the claim (R506). -/
def State.enterSurvey (s : State) : State :=
  let s := { s with phase := .up }.setReg Reg.AUX_START_TIME (s.localNs / 1000000)
  let s := ((s.setF Fld.AUX_START_STATUS_STEP 8).setMode Md.survey Md.survey (s.getF Fld.MODE_STATE_PREV)).wrapReg
    Reg.MODE_TRANS_COUNT
  let s := s.imdRefresh
  let load := s.upd.active.contains Pk.ostage
  let s := if s.record.isSome && !s.pair && s.variant != .C && !load then s.sendClaim (s.getReg Reg.DRV_EDITION + 1) else s
  s.updResume.autorun

/-- A node operation that replay repeats has ended, and step 8 follows (R421). -/
def State.afterRepeat (s : State) : State :=
  if s.phase == .starting && s.aux.nodeRepeat then { s with aux := { s.aux with nodeRepeat := false } }.enterSurvey else s

/-! ### The schedule (R118, R120) -/

/-- The schedule code of a mode. -/
def schedOf (mode : Nat) : Nat := if mode == Md.level then 2 else if mode == Md.assay then 3 else 1

/-- The schedule that the mode manager has ordered (R118, R120). -/
def State.wantSched (s : State) : Nat :=
  let fast := s.getF Fld.MODE_FUNC_STATE_SAMPLE_FAST
  let left := s.getF Fld.MODE_STATE_PREV
  if s.chain.enum != 0 && s.chain.rejoin == 0 then 4
  else if s.cur == Md.dormant then 0
  else if s.phase == .starting then 4
  else if s.cur == Md.starting || s.cur == Md.stopping then
    if fast == 1 || fast == 2 then 3 else if left == Md.assay then 1 else schedOf left
  else schedOf s.cur

/-- The sample period of a schedule in µs. -/
def periodOf : Nat → Nat
  | 1 => 10000
  | 2 => 100000
  | 3 => 250
  | _ => 0

/-- CHN0.SCHED shows a schedule. -/
def State.setSched (s : State) (c : Nat) : State :=
  (s.setF Fld.CHN0_SCHED_SCHED c).setF Fld.CHN0_SCHED_PERIOD_US (periodOf c)

/-! ### Enumeration (R109 to R113) -/

/-- The links of the module's own ports in use are UP. -/
def State.linksUp (s : State) : Bool :=
  [0, 1].all (fun p => !s.flag (Fld.CHN_PORT_CTL_ENABLE p) || s.getF (Fld.CHN_PORT_STATUS_LINK p) == 2)

/-- ENUM with RESET_ALL leaves once the hops are UP (R111 steps 2 and 3), as far as the module's own links show. -/
def State.enumLaunch (s : State) : State :=
  if s.chain.enum == 1 && s.chain.rejoin == 0 && !s.chain.enumSent && s.masters && s.linksUp then
    { s with chain := { s.chain with enumSent := true } }.enumOut 0 16 (if s.roleB then s.nodes else 1) s.nodes
  else s

/-- The transmitters of the ports in use start with IDLE (R111 step 1): a link that is not UP trains (assumption log 108). -/
def State.train (s : State) : State :=
  [0, 1].foldl (fun s p =>
    if s.flag (Fld.CHN_PORT_CTL_ENABLE p) && s.getF (Fld.CHN_PORT_STATUS_LINK p) != 2 then s.setF (Fld.CHN_PORT_STATUS_LINK p) 1
    else s) s

/-- An enumeration with RESET_ALL begins: no sweep, NODE.STATUS bit 0 cleared, BUSY. -/
def State.enumBegin (s : State) : State :=
  let s := s.setB ⟨Folio.STATUS Pg.NODE, 0, 0⟩ false
  let s := (s.setF Fld.NODE_ENUM_STATUS_BUSY 1).setF Fld.NODE_COUNT_EXPECTED s.nodes
  let c := { s.chain with
    enum := 1, enumSent := false, rejoin := 0, sweeps := [], last := none, nextNum := 0, fastCount := 0 }
  (({ s with chain := c }).setSched 4).train.enumLaunch

/-- ENUM_START (R113): NODE.ENUM_CTL.START. -/
def execEnumStart (master : Nat) (s : State) : Step :=
  .next (s.permit master Reg.NODE_ENUM_CTL (fun s =>
    if s.cur == Md.survey && s.power == 0 && !s.flag Fld.NODE_ENUM_STATUS_BUSY && s.masters then s.enumBegin
    else s.setF Fld.NODE_ENUM_STATUS_RESULT 6))

/-- REJOIN_POS (R113): a REJOIN of one position, allowed in every mode. -/
def execRejoinPos (master pos : Nat) (s : State) : Step :=
  .next (s.permit master Reg.NODE_ENUM_CTL (fun s =>
    if pos == 0 then s
    else if s.flag Fld.NODE_ENUM_STATUS_BUSY || s.nodes < pos || !s.masters then s.setF Fld.NODE_ENUM_STATUS_RESULT 6
    else s.rejoinOut pos))

/-- An enumeration or a REJOIN ends with a result. During the start-up sequence the module then enters SURVEY. -/
def State.enumEnd (s : State) (result bad : Nat) : State :=
  let rejoin := s.chain.rejoin
  let s := ((s.setF Fld.NODE_ENUM_STATUS_RESULT result).setF Fld.NODE_ENUM_STATUS_FIRST_BAD bad).setF Fld.NODE_ENUM_STATUS_BUSY 0
  let s := { s with chain := { s.chain with enum := 0, enumSent := false, rejoin := 0 } }
  if rejoin != 0 then (s.raise Ev.NODE_REJOIN_DONE).nodeRejoined result
  else
    let s := if result == 1 then s.setB ⟨Folio.STATUS Pg.NODE, 0, 0⟩ true
      else (s.setB ⟨Folio.STATUS Pg.NODE, 0, 0⟩ false).raise Ev.NODE_CHAIN_MISMATCH
    let s := s.raise Ev.NODE_ENUM_DONE
    if s.phase == .starting then
      let s := if result == 1 then s else s.setF Fld.AUX_START_STATUS_FAULT (if result == 5 then 0x07 else 0x06)
      let s := if s.aux.nodeRepeat then s.nodeReplay else s
      if s.aux.nodeRepeat then s else s.enterSurvey
    else s

/-- What a position keeps when its node is enumerated again: its marks (R144), its failed comparator read-back until step 6 succeeds
(R149), its silence in open-wire tests until it passes one (R147), its plan. -/
def Position.kept (p : Position) : Position :=
  { p.marks with plan := p.plan, compBad := p.compBad, owNoReply := p.owNoReply, owUnmon := p.owUnmon }

/-- A node's record enters its position (R109). -/
def enumInto (r : EnumRec) (p : Position) : Position :=
  { p with state := 1, uid := r.uid, type := r.type, fw := r.fwVer, caps := r.caps, range := r.range }

/-- The positions after an enumeration that found `recs`. -/
def State.enumPositions (s : State) (recs : List EnumRec) : List Position :=
  s.allPos.map (fun i =>
    let p := { (s.posAt i).kept with dly := (s.posAt i).dly, segment := s.roleB }
    match recs.find? (fun r => r.pos == i) with
    | some r => enumInto r p
    | none => p)

/-- The bytes of an ENUM record before its CRC-16 (R109). -/
def enumHead (r : EnumRec) : List Nat :=
  [r.pos, r.type] ++ beBytes 2 r.fwVer ++ beBytes 8 r.uid ++ beBytes 2 r.caps

/-- The CRC-16 of an ENUM record holds: over TAKEN as its node found it, which is the record's index in the frame, and the record
(R102, R109; assumption log 108). -/
def enumCrcOk (taken : Nat) (r : EnumRec) : Bool := crc16 (beBytes 2 taken ++ enumHead r) == r.crc

/-- A list of records with whether the CRC-16 of each holds. -/
def crcMarks (recs : List EnumRec) : List (EnumRec × Bool) := (withIdx 0 recs).map (fun q => (q.2, enumCrcOk q.1 q.2))

/-- CAPS covers the populated cells and temperature inputs (R112). -/
def capsOk (caps : Nat) (r : PosRec) : Bool :=
  r.cellMask < 2 ^ bitsOf caps 15 8 && r.tempMask < 2 ^ bitsOf caps 7 0

/-- The lowest of the positions 1 to N whose record fails a check. -/
def State.firstBad (s : State) (recs : List (EnumRec × Bool)) (ok : Nat → EnumRec → Bool → Bool) : Option Nat :=
  s.allPos.find? (fun i => match recs.find? (fun r => r.1.pos == i) with
    | some r => !ok i r.1 r.2
    | none => true)

/-- The checks of R112 on the records, in their order: the result code and FIRST_BAD. A record whose CRC-16 fails gives no UID, and
counts as a failed UID check (assumption log 108). -/
def State.enumCheck (s : State) (recs : List EnumRec) : Nat × Nat :=
  let ms := crcMarks recs
  if recs.length != s.nodes then (2, min recs.length s.nodes + 1)
  else match s.firstBad ms (fun i r ok => ok && r.uid == (s.recAt i).uid) with
    | some i => (3, i)
    | none => match s.firstBad ms (fun i r _ => capsOk r.caps (s.recAt i)) with
      | some i => (7, i)
      | none => (1, 0)

/-- The settings of step 6 of R111 for a position: WAIT values as far as they are measured, CELL_MASK, TEMP_MASK and the comparator
settings of R149. -/
def State.settingsOf (s : State) (i : Nat) : List (Nat × Nat × Nat) :=
  s.waitWrites i (none, none) ++ [(i, 0x13, (s.recAt i).cellMask), (i, 0x14, (s.recAt i).tempMask)]
  ++ (withIdx 0 (s.recAt i).comp).map (fun p => (i, 0x20 + p.1, p.2))

/-- The positions that the enumeration or the REJOIN under way covers. -/
def State.enumScope (s : State) : List Nat := if s.chain.rejoin != 0 then [s.chain.rejoin] else s.allPos

/-- Step 6 of R111 begins: the master writes the settings and reads them back. -/
def State.nodeSettings (s : State) : State :=
  let s := { s with chain := { s.chain with enum := 3 } }
  if s.masters then s.nodeWrites (s.enumScope.flatMap s.settingsOf) else s

/-- Steps 4 and 5 of R111: once the delays are measured, the hop delays are checked (R112). In a pair the far end's answer is not
waited for (R115). -/
def State.enumMeasured (s : State) : State :=
  if s.chain.enum != 2 || s.allPos.any (fun i => (s.posAt i).dlyLeft != 0) || (!s.pair && s.chain.endLeft != 0) then s
  else match s.allPos.find? (fun i => !s.hopOk i) with
    | some i => s.enumEnd 4 i
    | none => s.nodeSettings

/-- The ENUM frame has come back at the module's far end: counted at the port; role B that does not master forwards it (R91, R113). -/
def State.enumSeen (s : State) (recs : List EnumRec) : State :=
  let s := s.frameIn (if s.pair then 0 else 1) true
  if s.pair && !s.masters then
    let h : ChainHead := ⟨0x03, b2n (!s.roleB) + 16, recs.length, s.getReg Reg.PAIR_PARTNER_EDITION, 0,
      if s.roleB then 1 else s.nodes, s.nodes, 0, 16⟩
    let body := recs.flatMap (fun r => enumHead r ++ beBytes 2 r.crc) ++ List.replicate (16 * (s.nodes - recs.length)) 0
    s.fwdBytes (h.bytes ++ body ++ frameCrc (h.bytes ++ body)) true
  else s

/-- ENUM_RETURN (R112): the ENUM frame is back; the string is checked as the frame shows it. The master then measures the delays and
writes the settings of step 6; of a REJOIN only the UID counts (R113). -/
def execEnumReturn (recs : List EnumRec) (s : State) : Step :=
  if !s.live || s.chain.enum != 1 then .next s
  else if s.chain.rejoin != 0 then
    let s := s.frameIn (if s.pair then 0 else 1) true
    match recs with
    | r :: _ =>
      if enumCrcOk 0 r && r.uid == (s.recAt s.chain.rejoin).uid then .next (s.posMod s.chain.rejoin (enumInto r)).nodeSettings
      else .next (s.enumEnd 3 s.chain.rejoin)
    | [] => .next (s.enumEnd 2 s.chain.rejoin)
  else
    let s := (s.enumSeen recs).setF Fld.NODE_COUNT_FOUND (recs.length % 256)
    let s := { s with chain := { s.chain with pos := s.enumPositions recs } }
    let (res, bad) := s.enumCheck recs
    if res != 1 then .next (s.enumEnd res bad)
    else if s.masters then .next ({ s with chain := { s.chain with enum := 2 } }.dlyStart)
    else .next s.nodeSettings

/-- ENUM_TIMEOUT (R111): at 100 ms a hop is not UP, the ENUM frame is not back, or the delays are not measured. -/
def execEnumTimeout (s : State) : Step :=
  .next (if s.live && (s.chain.enum == 1 || s.chain.enum == 2) then s.enumEnd 5 0 else s)

/-- ENUM_DONE (R111 steps 6 and 7): the settings of the node or of all nodes have been read back, RUN is set. `bad` are the positions
whose comparator read-back differed a second time (R149). -/
def execEnumDone (bad : List Nat) (s : State) : Step :=
  if !s.live || s.chain.enum != 3 then .next s
  else
    let is := s.enumScope
    let s := if s.masters then s.nodeWrites (is.map (fun i => (i, 0x19, 1))) else s
    let s := is.foldl (fun s i => s.posMod i (fun p => { p with
      state := 2, compBad := bad.contains i, compAgain := false })) s
    let s := is.foldl (fun s i => s.mapSet Reg.NODE_UNHEARD_LO i false) s
    let s := s.raiseIf (is.any (bad.contains ·)) Ev.BAL_COMP_CFG_MISMATCH
    let all := s.chain.rejoin == 0
    let s := { s with chain := if all then { s.chain with nextNum := 0, healed := [], unmeasured := [] } else s.chain }
    let s := if all then s.setBreaks [] else s.remark
    .next (s.enumEnd 1 0)

/-! ### Delays (R114 to R116) -/

/-- A finished measurement of position `i`: WAIT values that change are written, a hop out of tolerance in service is DELAY_DRIFT; an
enumeration goes on. -/
def State.dlyDone (s : State) (i sum : Nat) : State :=
  let old := (s.dlyFwd i, s.dlyRev i)
  let (d, s) := s.dlyMean sum
  let s := s.posMod i (fun p => { p with dly := some d, dlySum := 0, dlyLeft := 0 })
  let s := { s with chain := { s.chain with unmeasured := s.chain.unmeasured.filter (· != i) } }
  if s.chain.enum == 2 then s.enumMeasured
  else
    let s := if s.masters then s.nodeWrites (s.waitWrites i old) else s
    s.raiseIf (s.sampling && !(s.hopOk i && (s.nodes ≤ i || s.hopOk (i + 1)))) Ev.NODE_DELAY_DRIFT

/-- The delay to the far end has been measured. -/
def State.dlyEnd (s : State) (sum : Nat) : State :=
  let old := s.allPos.map (fun i => (i, s.dlyFwd i, s.dlyRev i))
  let (d, s) := s.dlyMean sum
  let c := { s.chain with
    endDly := some d, endSum := 0, endLeft := 0, unmeasured := s.chain.unmeasured.filter (· != 0xFE) }
  let s := { s with chain := c }
  if s.chain.enum == 2 then s.enumMeasured
  else if s.masters then s.nodeWrites (old.flatMap (fun p => s.waitWrites p.1 p.2)) else s

/-- The next request of a measurement under way leaves (R114). -/
def State.dlyAgain (s : State) (pos : Nat) : State :=
  let left := if pos == 0xFE then s.chain.endLeft else if 1 ≤ pos && pos ≤ s.nodes then (s.posAt pos).dlyLeft else 0
  if left == 0 then s else s.dlyOut 0 pos 1

/-- A round trip in ps joins its average, whose 32nd ends the measurement. -/
def State.dlyTrip (s : State) (pos ps : Nat) : State :=
  if pos == 0xFE then
    match s.chain.endLeft with
    | 0 => s
    | 1 => s.dlyEnd (s.chain.endSum + ps)
    | n + 2 => { s with chain := { s.chain with endSum := s.chain.endSum + ps, endLeft := n + 1 } }.dlyAgain pos
  else if 1 ≤ pos && pos ≤ s.nodes then
    match (s.posAt pos).dlyLeft with
    | 0 => s
    | 1 => s.dlyDone pos ((s.posAt pos).dlySum + ps)
    | n + 2 => (s.posMod pos (fun p => { p with dlySum := p.dlySum + ps, dlyLeft := n + 1 })).dlyAgain pos
  else s

/-- DLY_ECHO (R114): a DLY set reaches a port. One whose CHK fails is discarded and counted (R94). A request that names the far-end
module is answered there with an echo. An echo ends a round trip in ps, which joins the average unless it lasted longer than 25 µs
or overlapped a TRIG; POS 0xFE is the far end. -/
def execDlyEcho (pos roundTripPs : Nat) (s : State) (port : Nat := 0) (op : Nat := 2) (overlap : Bool := false)
    (chk : Nat := pos ^^^ op ^^^ 0x3C) : Step :=
  if !s.live || 2 ≤ port then .next s
  else if chk != pos ^^^ op ^^^ 0x3C then .next (s.codeErr port 1)
  else if op == 1 then .next (if pos == 0xFE && (port == 1 || !s.masters) then s.dlyOut port pos 2 else s)
  else if op != 2 then .next s
  else .next (if overlap || 25000000 < roundTripPs then s.dlyAgain pos else s.dlyTrip pos roundTripPs)

/-- DLY_TIMEOUT (R114): a round trip above 25 µs is discarded; the next request leaves, the average and its count stay. -/
def execDlyTimeout (pos : Nat) (s : State) : Step := .next (if s.live && s.masters then s.dlyAgain pos else s)

/-- DLY_PERIOD (R116). -/
def execDlyPeriod (s : State) : Step := .next (if s.live && s.masters && s.sampling then s.dlyStart else s)

/-- DLY_NOW (R133). -/
def execDlyNow (master : Nat) (s : State) : Step :=
  .next (s.permit master Reg.CHN0_DLY_CTL (fun s => if s.masters then s.dlyStart else s))

/-! ### Node registers (R107, R132, R135) -/

/-- Registers the master owns: the host writes none of them through NREG (R132, R149). -/
def ownedNreg (a : Nat) : Bool := [0x10, 0x11, 0x12, 0x15, 0x19].contains a || (0x20 ≤ a && a ≤ 0x29)

/-- NREG_CMD is written: the command starts, or is refused; a POS outside 1 to 64 starts none (R135). A WRITE is read back in a later CMD
frame. -/
def State.nregStart (s : State) (op pos reg value : Nat) : State :=
  if s.flag Fld.NODE_NREG_STATUS_BUSY || pos == 0 || 64 < pos then s
  else
    let s := ((s.setF Fld.NODE_NREG_CMD_OP op).setF Fld.NODE_NREG_CMD_POS pos).setF Fld.NODE_NREG_CMD_ADDR reg
    let s := if op == 2 then s.setReg Reg.NODE_NREG_DATA (value % 65536) else s
    if op == 2 && ownedNreg (reg % 65536) then (s.setF Fld.NODE_NREG_STATUS_RESULT 5).raise Ev.NODE_NREG_DONE
    else
      let s := ((s.setF Fld.NODE_NREG_STATUS_RESULT 0).setF Fld.NODE_NREG_STATUS_BUSY 1)
      if op == 2 then s.nodeWrites [(pos, reg % 65536, value % 65536)] else s.nodeReads [(pos, reg % 65536)]

/-- NREG_READ (R135). -/
def execNregRead (master pos reg : Nat) (s : State) : Step :=
  .next (s.permit master Reg.NODE_NREG_CMD (fun s => s.nregStart 1 pos reg 0))

/-- NREG_WRITE (R135, R132). -/
def execNregWrite (master pos reg value : Nat) (s : State) : Step :=
  .next (s.permit master Reg.NODE_NREG_CMD (fun s => s.nregStart 2 pos reg value))

/-- The end of a node register command. -/
def State.nregEnd (s : State) (result : Nat) : State :=
  ((s.setF Fld.NODE_NREG_STATUS_RESULT result).setF Fld.NODE_NREG_STATUS_BUSY 0).raise Ev.NODE_NREG_DONE

/-- A node's answer to the master's own reads: COMP_STATE after a fault loop trip (R153), and while a test runs OWT_STATE and, once it
says done, the flag registers (R147). -/
def State.nodeAnswer (s : State) (pos reg value : Nat) : State :=
  let p := s.posAt pos
  if reg == 0x27 && s.bal.floopWait.contains pos then s.floopReply pos value
  else if !s.bal.owtRunning || p.owAnswered then s
  else if reg == 0x29 then s.posMod pos (fun p => { p with owRead := b2n (bitOf value 1) })
  else if reg == 0x2A && p.owRead == 1 then s.posMod pos (fun p => { p with owRead := 2, owFlags := value % 65536 })
  else if reg == 0x2B && p.owRead == 2 then s.owtAnswer pos (p.owFlags + 65536 * (value % 8))
  else s

/-- NREG_REPLY (R107, R135): a node answers a READ, or the read-back of a WRITE, with RESULT. -/
def execNregReply (pos reg value result : Nat) (s : State) : Step :=
  if !s.live then .next s
  else
    let s := s.cmdSeen [(pos, reg, value, result)]
    if s.flag Fld.NODE_NREG_STATUS_BUSY && s.getF Fld.NODE_NREG_CMD_POS == pos && s.getF Fld.NODE_NREG_CMD_ADDR == reg then
      let write := s.getF Fld.NODE_NREG_CMD_OP == 2
      let s := s.raiseIf (result == 4) Ev.NODE_STALE_MASTER
      if result == 2 then .next (s.nregEnd 2)
      else if result == 4 then .next (s.nregEnd 6)
      else if write then .next (s.nregEnd (if value % 65536 == s.getReg Reg.NODE_NREG_DATA % 65536 then 1 else 4))
      else .next ((s.setReg Reg.NODE_NREG_DATA (value % 65536)).nregEnd 1)
    else if 1 ≤ pos && pos ≤ s.nodes && result == 1 then .next (s.nodeAnswer pos reg value)
    else .next (s.raiseIf (result == 4) Ev.NODE_STALE_MASTER)

/-- NREG_TIMEOUT (R135): no answer within 50 ms. -/
def execNregTimeout (s : State) : Step := .next (if s.live && s.flag Fld.NODE_NREG_STATUS_BUSY then s.nregEnd 3 else s)

end Sys2Proof.Machine
end

