-- ==== Sys2Proof/Machine/Chain.lean ====
section
/-! DEFINITION. The second half of *The Ovgil Chain*: links, breaks and ALARMs (R89, R123 to R129), sweeps and slots (R101 to R106,
R118 to R122), the far-end and the relay module (R91, R127). -/

namespace Sys2Proof.Machine

/-- A sweep is marked SPLIT: a run in progress ends with cause SPLIT and the taper begins (R126, R236). -/
def State.splitAbort (s : State) : State :=
  let st := s.getF Fld.ASY_RUN_STATUS_STATE
  if st == 1 || st == 2 || st == 3 then (s.asyAbort 0x03 false).leaveAssay else s

/-- The positions beyond break `k` as seen from the master's end. -/
def State.beyond (s : State) (k : Nat) : List Nat := s.allPos.filter (fun i => if s.roleB then i ≤ k else k < i)

/-- The largest REDUCE in µs that leaves each node a WAIT of 500 ns or more (R126). -/
def State.rMax (s : State) (is : List Nat) : Nat :=
  is.foldl (fun m i => min m ((19500000 - ((if s.roleB then s.dlyFwd i else s.dlyRev i).getD 0)) / 1000000)) 15

/-- COLLECT_DELAY in ns (R119). -/
def State.collectDelay (s : State) : Nat := 1000 * s.getF Fld.CHN0_SWEEP_CTL_COLLECT_DELAY

/-- TRIG leaves the end that is not the master's: port TAIL of a solo module, or the partner by a RELAY that names sweep number,
CTRL with REDUCE, instant and launch time of COLLECT (R126, R127; assumption log 109). -/
def State.otherTrig (s : State) (sw : Sweep) (ctrl instant : Nat) : State :=
  if s.pair then
    s.plnkOut 0x0C (beBytes 2 sw.num ++ [ctrl] ++ beBytes 4 instant ++ beBytes 4 (instant + s.collectDelay))
  else s.trigOut 1 sw.num ctrl

/-- CTRL of TRIG for a sweep (R94): KIND, and RETRIG with REDUCE. -/
def trigCtrl (sw : Sweep) (retrig : Bool) (reduce : Nat) : Nat :=
  64 * (if sw.kind == 1 then 0 else if sw.withTemps then 2 else 1) + 32 * b2n retrig + reduce % 16

/-- The positions of the other end's segment whose TRIG uses a WAIT value that the master of a pair cannot compute before the far end
has answered: all of them then (R115). -/
def State.unmeasuredFar (s : State) (is : List Nat) : List Nat := if s.pair && s.chain.endDly.isNone then is else []

/-- The sweep of a number is changed. -/
def State.sweepMod (s : State) (num : Nat) (f : Sweep → Sweep) : State :=
  { s with chain := { s.chain with sweeps := s.chain.sweeps.map (fun x => if x.num == num then f x else x) } }

/-- The master learns of break `k` at a local time while TRIG of sweep `sw` has not reached the nodes beyond: it launches
again from the other end (R126 step 2), and that segment has its own instant and deadline (step 4). A TRIG counts as passed when it reached the first node beyond 900 ns or more
before that node's ALARM set out (assumption log 60). -/
def State.retrig (s : State) (sw : Sweep) (k time : Nat) : State :=
  let is := s.beyond k
  let first := if s.roleB then k else k + 1
  let own := ((s.posAt first).dly.getD 0) / 1000
  let other := ((if s.roleB then s.dlyFwd first else s.dlyRev first).getD 0) / 1000
  let passed := decide (sw.launchNs + own + 900 + other ≤ time)
  if is.isEmpty || passed || is.any (sw.got.contains ·) then s
  else
    let launch := time + 500
    let r := min (min ((launch - sw.launchNs) / 1000) (s.rMax is)) 15
    let off : Int := (launch : Int) - (sw.launchNs : Int) - 1000 * (r : Int)
    let s := s.otherTrig sw (trigCtrl sw true r) (toU 32 ((sw.instant : Int) + off))
    let s := s.raise (Ev.CHN_RETRIG 0)
    let un := s.unmeasuredFar is
    let s := s.sweepMod sw.num (fun x => { x with
      other := is, latePos := un ++ x.latePos, offsets := is.map (fun i => (i, off)) ++ x.offsets })
    s.raiseIf (decide (1000 < off)) Ev.NODE_LATE

/-- A break becomes known at a local time (R125, R126, R128). -/
def State.newBreak (s : State) (k time : Nat) : State :=
  let old := s.breaks
  if old.contains k then s
  else
    let bs := match old with
      | [] => [k]
      | [a] => [min a k, max a k]
      | a :: b :: _ => [min a k, max b k]
    let s := { s with chain := { s.chain with healed := s.chain.healed.filter (· != k) } }
    let s := s.setBreaks bs
    if !s.masters then s
    else
      let s := match s.chain.sweeps with
        | sw :: _ => if old.isEmpty then s.retrig sw k time else s
        | [] => s
      if s.bothSides then
        let marked := s.chain.sweeps.map (fun (x : Sweep) => { x with split := true })
        let s := { s with chain := { s.chain with sweeps := marked } }
        (s.raise (Ev.CHN_SPLIT 0)).splitAbort
      else s

/-- The positions on both sides of break `k`, the far end as 0xFE. -/
def State.sidesOf (s : State) (k : Nat) : List Nat :=
  (if k == 0 then [] else [k]) ++ [if k == s.nodes then 0xFE else k + 1]

/-- A broken hop reports UP again: the master measures across it (R129). -/
def State.heal (s : State) (k : Nat) : State :=
  if s.breaks.contains k && !s.chain.healed.contains k then
    let c := { s.chain with healed := k :: s.chain.healed, unmeasured := s.sidesOf k ++ s.chain.unmeasured }
    let s := { s with chain := c }
    if s.masters then s.dlyStart else s
  else s

/-- The end of the line that is not the master's (R91): position and LOOP value of its outer port, and its break value. -/
def State.farEnd (s : State) : Nat × Nat × Nat := if s.roleB then (1, 1, 0) else (s.nodes, 2, s.nodes)

/-- At a sweep boundary: the loopback of R363 is cleared once the partner link has been UP for 1 s. -/
def State.unloop (s : State) : State :=
  if s.pairU.loopN && s.flag Fld.PLNK_LINK_UP && s.pairU.linkUpNs + 1000000000 ≤ s.localNs then
    let e := s.farEnd
    let s := { s with pairU := { s.pairU with loopN := false } }.nodeWrite e.1 0x15 0
    (s.setBreaks (s.breaks.filter (fun k => k != e.2.2))).raise (Ev.CHN_REJOINED 0)
  else s

/-- The hop of a healed break has been measured since and lies within its tolerance (R129). -/
def State.hopBack (s : State) (k : Nat) : Bool :=
  (s.sidesOf k).all (fun i => !s.chain.unmeasured.contains i) && (k == s.nodes || s.hopOk (k + 1))

/-- At a sweep boundary: healed hops within tolerance are restored where the host asked or AUTO_REJOIN is 1 (R129). -/
def State.boundary (s : State) : State :=
  if s.chain.healed.isEmpty || !(s.chain.rejoinWanted || s.flag Fld.CHN0_SWEEP_CTL_AUTO_REJOIN) then s
  else
    let ok := s.chain.healed.filter s.hopBack
    if ok.isEmpty then s
    else
      let s := s.nodeWrites ((ok.flatMap s.sidesOf).filter (· != 0xFE) |>.map (fun i => (i, 0x15, 0)))
      let left := s.breaks.filter (fun k => !ok.contains k)
      let s := { s with chain := { s.chain with healed := s.chain.healed.filter (fun k => !ok.contains k) } }
      let s := s.setBreaks left
      if left.isEmpty then
        ({ s with chain := { s.chain with rejoinWanted := false } }).raise (Ev.CHN_REJOINED 0)
      else s

/-- The break value at a module port: the end that it faces (R125). -/
def State.portBreak (s : State) (port : Nat) : Nat := if (port == 0) == s.roleB then s.nodes else 0

/-- CHAIN_LINK_UP (R89): an enumeration that waits for it goes on (R111 step 2). -/
def execChainLinkUp (port : Nat) (s : State) : Step :=
  if s.live && port < 2 then
    let s := (s.setF (Fld.CHN_PORT_STATUS_LINK port) 2).setB (Fld.CHN_PORT_STATUS_RX_ALIGNED port) true
    let s := (s.countF (Fld.CHN_PORT_STATUS_LINK_UPS port)).raise (Ev.CHN_LINK_UP port)
    .next ((s.heal (s.portBreak port)).enumLaunch)
  else .next s

/-- CHAIN_LINK_LOST (R89): the hop at the module's own port is broken. -/
def execChainLinkLost (port : Nat) (s : State) : Step :=
  if s.live && port < 2 then
    let s := (s.setF (Fld.CHN_PORT_STATUS_LINK port) 3).setB (Fld.CHN_PORT_STATUS_RX_ALIGNED port) false
    .next ((s.raise (Ev.CHN_LINK_LOST port)).newBreak (s.portBreak port) s.localNs)
  else .next s

/-- SWEEP_REJOIN (R129): the host asks for the return to RING or LINE. -/
def execSweepRejoin (master : Nat) (s : State) : Step :=
  .next (s.permit master Reg.CHN0_SWEEP_CTL (fun s => { s with chain := { s.chain with rejoinWanted := true } }))

/-! ### Alarms (R123, R124) -/

/-- A comparator ALARM (port, cause, time) is the copy of one already counted: its node sent it out of both ports, and the other
one's came no more than 25 µs earlier (R123; assumption log 108). -/
def alarmCopy (l : List (Nat × Nat × Nat)) (port cause time : Nat) : Bool :=
  l.any (fun a => a.1 != port && a.2.1 == cause && decide (time ≤ a.2.2 + 25000))

/-- A comparator ALARM of position `pos` is counted: the second within 200 µs of the first makes NODE_ALARM active (R124). -/
def State.alarmCount (s : State) (port pos cause time : Nat) : State :=
  let l := (s.posAt pos).alarms
  if alarmCopy l port cause time then s
  else
    let second := l.any (fun a => decide (time ≤ a.2.2 + 200000))
    let s := s.posMod pos (fun p => { p with alarms := ((port, cause, time) :: l).take 4, alarmOn := p.alarmOn || second })
    if second then s.setCause 0x0E else s

/-- ALARM_RX (R124): an ALARM reaches a port at a local time. One whose CHK fails is discarded and counted (R94). -/
def execAlarmRx (port pos cause time : Nat) (s : State) (chk : Nat := pos ^^^ cause ^^^ 0xA5) : Step :=
  if !s.live || 2 ≤ port then .next s
  else if chk != pos ^^^ cause ^^^ 0xA5 then .next (s.codeErr port 1)
  else
    let s := s.countF ⟨Reg.CHN_ALARM_LAST port, 31, 16⟩
    let s := (s.setF (Fld.CHN_ALARM_LAST_POS port) pos).setF (Fld.CHN_ALARM_LAST_CAUSE port) cause
    let s := (s.posMod pos (fun p => { p with alarm := cause })).raise (Ev.CHN_ALARM_RX port)
    if 1 ≤ cause && cause ≤ 4 then .next (s.alarmCount port pos cause time)
    else if cause == 5 then .next (s.newBreak (pos - 1) time)
    else if cause == 6 then .next (s.newBreak pos time)
    else if cause == 7 then .next (s.heal (pos - 1))
    else if cause == 8 then .next (s.heal pos)
    else .next s

/-- NODE_ALARM_RELEASE (R124): 300 µs without such an ALARM from a position. -/
def execNodeAlarmRelease (pos : Nat) (s : State) : Step :=
  if s.live then
    let s := s.posMod pos (fun p => { p with alarms := [], alarmOn := false })
    .next (if s.chain.pos.any (·.alarmOn) then s else s.dropCause 0x0E)
  else .next s

/-! ### Sweeps (R118 to R120, R127) -/

/-- The relay module launches TRIG as its RELAY directs (R127). -/
def State.relayTrig (s : State) : State := match s.chain.relay with
  | some r => if r.trig then s
      else { s with chain := { s.chain with relay := some { r with trig := true } } }.trigOut 0 r.num r.ctrl
  | none => s

/-- The sweep that a TRIG under schedule `c` begins (R118, R119): every 400th FAST sweep collects temperatures too; a broken chain
makes it SPLIT. -/
def State.nextSweep (s : State) (c : Nat) : Sweep :=
  { num := s.chain.nextNum, kind := if c == 3 then 2 else 1, instant := (s.stamp + 20000) % 2 ^ 32, launchNs := s.localNs,
    withTemps := c == 3 && s.chain.fastCount == 399, split := s.bothSides, latePos := s.unmeasuredFar s.otherSeg,
    other := [], deadOwn := false, deadOther := false, got := [], gotT := [], sampled := [], quiet := [], offsets := [] }

/-- A sweep is under way under schedule `c`; at most two are, and their numbers and the count of FAST sweeps go on. -/
def State.sweepOpen (s : State) (c : Nat) (sw : Sweep) : State :=
  { s with chain := { s.chain with
    owtPeriod := false, sweeps := (sw :: s.chain.sweeps).take 2, nextNum := (sw.num + 1) % 65536,
    fastCount := if c == 3 && !sw.withTemps then s.chain.fastCount + 1 else 0 } }

/-- TRIG_LAUNCH (R119, R120): an ordered change of schedule takes effect, healed hops are restored, and TRIG of the next
sweep leaves 20 µs before its instant; at a relay module, the TRIG that a RELAY named for this time. A sweep that is SPLIT ends a run
of the Assay unit (R126). -/
def execTrigLaunch (s : State) : Step :=
  let c := s.wantSched
  if !s.live then .next s
  else if !s.masters then .next s.relayTrig
  else if c == 0 || c == 4 then .next s
  else
    let s := (s.setSched c).unloop.boundary
    let sw := s.nextSweep c
    let s := (s.sweepOpen c sw).trigOut 0 sw.num (trigCtrl sw false 0)
    let s := if s.breaks.isEmpty then s else s.otherTrig sw (trigCtrl sw false 0) sw.instant
    .next (if sw.split then s.splitAbort else s)

/-! ### Slots (R101 to R106) -/

/-- Bytes per slot of a kind (R101). -/
def slotLen : Nat → Nat
  | 1 => 80
  | 2 => 44
  | 3 => 24
  | 4 => 12
  | _ => 0

/-- A COLLECT frame leaves a port for a segment (R97, R101): its slots hold the position, KIND 0 and zeros. -/
def State.collectOut (s : State) (port flags num instant kind : Nat) (is : List Nat) : State :=
  match is with
  | [] => s
  | first :: _ =>
    let n := slotLen kind
    s.frameOut port ⟨0x01, s.dirBit port + flags, num, s.chainEdition, instant, first, is.length, kind, n⟩
      (is.flatMap (fun i => i :: List.replicate (n - 1) 0))

/-- The frames of a sweep leave a port for a segment: a TEMP collection follows where it is FAST with temperatures. -/
def State.collectSweep (s : State) (port flags : Nat) (sw : Sweep) (is : List Nat) : State :=
  let s := s.collectOut port (flags + 2 * b2n sw.split) sw.num sw.instant sw.kind is
  if sw.withTemps then s.collectOut port (flags + 2 * b2n sw.split) sw.num sw.instant 3 is else s

/-- The relay module launches COLLECT for its segment (R127): RELAY set, the sweep SPLIT where nodes remain on both sides. -/
def State.relayCollect (s : State) : State := match s.chain.relay with
  | some r =>
    let s := { s with chain := { s.chain with relay := none } }
    let kind := if r.ctrl / 64 == 0 then 1 else 2
    let flags := 4 + 2 * b2n s.bothSides
    let s := s.collectOut 0 flags r.num r.instant kind s.ownSeg
    if r.ctrl / 64 == 2 then s.collectOut 0 flags r.num r.instant 3 s.ownSeg else s
  | none => s

/-- While a test runs in LEVEL, the master reads the report of the nodes that have not answered: no FULL slot comes within 20 ms
(R147). -/
def State.owtRead (s : State) : State :=
  if s.bal.owtRunning then
    s.nodeReads ((s.allPos.filter (fun i => !(s.posAt i).owAnswered)).flatMap (fun i => [(i, 0x29), (i, 0x2A), (i, 0x2B)]))
  else s

/-- COLLECT_LAUNCH (R119, R101): COLLECT of the newest sweep leaves the module's HEAD, or with `other`, in a solo string, its TAIL for
the segment beyond a break, at that segment's instant plus COLLECT_DELAY (R126); between the sweeps of LEVEL, COLLECT HEALTH. At a
relay module, the COLLECT that a RELAY named for this time. -/
def execCollectLaunch (s : State) (other : Bool := false) : Step :=
  if !s.live then .next s
  else if !s.masters then .next s.relayCollect
  else if other && s.pair then .next s
  else
    let port := b2n other
    let is := if other then s.otherSeg else s.ownSeg
    match s.chain.sweeps with
    | [] =>
      if s.getF Fld.CHN0_SCHED_SCHED == 2 then
        let s := s.collectOut port 0 0 0 4 is
        .next (if other then s else s.owtRead)
      else .next s
    | sw :: _ => .next (s.collectSweep port 0 sw is)

/-- The acceptance of R106: header as sent, CRC-16 over SWEEP and the slot, POS and KIND. -/
def slotOk (m : SlotMsg) : Bool :=
  let n := slotLen m.kind
  m.headerOk && n != 0 && m.bytes.length == n && m.bytes[0]? == some m.pos && m.bytes[1]? == some m.kind
  && crc16 (beBytes 2 m.sweep ++ m.bytes.take (n - 2)) == be16 m.bytes (n - 2)

/-- The ports whose adjacent node is position `i` report its loopback toward them (R133). -/
def State.remoteLoop (s : State) (i st : Nat) : State :=
  let s := if i == 1 && !s.roleB then s.setB (Fld.CHN_PORT_STATUS_REMOTE_LOOP 0) (bitOf st 10) else s
  if i == s.nodes then s.setB (Fld.CHN_PORT_STATUS_REMOTE_LOOP (if s.roleB then 0 else 1)) (bitOf st 9 && (s.roleB || !s.pair))
  else s

/-- The arrival of a valid slot of a position. -/
abbrev heardKey (i : Nat) : Nat := 512 + i

/-- A valid slot of position `i` shows that it is heard (R122): its UNHEARD mark goes, whether or not it counts as unreachable. A
node whose STATUS has RUN 0 has lost its position, and returns to RUN only through a REJOIN. -/
def State.hear (s : State) (i st : Nat) : State :=
  let s := (s.arrive (heardKey i)).remoteLoop i st
  let s := s.raiseIf (bitOf st 4) Ev.NODE_STALE_MASTER
  let s := s.floopSeen i (bitOf st 11)
  let p := s.posAt i
  let s := if p.state == 2 || p.state == 3 then s.posMod i (fun p => { p with state := if bitOf st 15 then 2 else 1 }) else s
  if s.mapGet Reg.NODE_UNHEARD_LO i then ((s.mapSet Reg.NODE_UNHEARD_LO i false).raise Ev.NODE_NODE_HEARD).remark else s

/-- The open-wire flags of a FULL slot: OW_FLAGS, PB and PT (R139, R145). -/
def owOf (bytes : List Nat) : Nat :=
  (be16 bytes 64 * 65536 + be16 bytes 66) % 131072 + 131072 * b2n (bitOf (be16 bytes 38) 13)
    + 262144 * b2n (bitOf (be16 bytes 38) 12)

/-- The measurement of a sampled slot goes to the Margin engine and the integrity checks (R140, R141, R311, R157, R158). -/
def State.slotMeasured (s : State) (i kind st : Nat) (bytes : List Nat) (late : Bool) : State :=
  let tempsAt := if kind == 1 then 40 else 4
  let s := if kind == 3 then s else (s.integrity i kind bytes late).cellMargins i
  let s := if kind == 2 then s
    else (s.posMod i (fun p => { p with temps := (be16s bytes tempsAt 8).map (sInt 16) })).tempMargins i
  let s := if kind == 1 then (s.bleedSeen i (be16 bytes 62)).nodeHot i (sInt 16 (be16 bytes 68))
    else if kind == 2 then s.posMod i (fun p => { p with hold := bitOf st 12 })
    else s
  let s := if kind == 1 && !bitOf st 3 then s.owtAnswer i (owOf bytes) else s
  if kind == 3 then s else s.remark

/-! ### Completion of a sweep (R119, R176, R120, R159) -/

/-- CHAIN_SUM of a complete sweep in mV (R176); none where a populated cell has no value. -/
def State.chainSum (s : State) : Option Int :=
  let vs := s.allPos.flatMap (fun i => (s.cellsOf i).map (s.cellValue2 i))
  if vs.any (·.isNone) then none else some (((vs.map (fun v => (v.getD (0, 0)).1)).sum + 10) / 20)

/-- The voted sample whose window contains an instant: (voltage, current). -/
def State.sampleAt (s : State) (instant : Nat) : Option (Int × Int) :=
  (s.meas.hist.find? (fun h => (h.1 + 2 ^ 32 - instant) % 2 ^ 32 < 10000)).map (·.2)

/-- The comparison of CHAIN_SUM with the voted voltage (R176), in nV. -/
def State.sumDiffers (s : State) (cs v i : Int) : Bool :=
  decide (s.getF Fld.VOTE_SUM_CFG_SUM_TOL * 100 * 1000000 < ((v - cs) * 1000000 - i * (s.getF Fld.VOTE_SUM_CFG_R_STR : Int)).natAbs)

/-- A CHAIN_SUM has formed for a sweep's instant: the comparison, the substitute where no voltage channel is in use, and its
Margins (R173, R176, R311). -/
def State.sumFormed (s : State) (cs : Int) (instant : Nat) : State :=
  let s := { (s.setI Reg.VOTE_CHAIN_SUM cs) with meas := { s.meas with sumFormed := true } }
  let s := match s.sampleAt instant with
    | some (v, i) =>
      if s.sumDiffers cs v i then
        let n := s.meas.sumMismatch + 1
        let s := { s with meas := { s.meas with sumMismatch := if n == 3 then 0 else n } }
        if n == 3 then
          let s := s.raise Ev.VOTE_SUM_MISMATCH
          match s.inUse 1 with
          | [c] => (s.exclude c).exclReact 1
          | _ => s
        else s
      else { s with meas := { s.meas with sumMismatch := 0 } }
    | none => s
  if (s.inUse 1).isEmpty then
    let s := (s.votePut 1 cs cs cs).setB Fld.VOTE_CH_STATE_V_SUBST true
    let n := s.getF Fld.MRG_FILT_VCELL_N
    let s := s.marginCheck 0x06 1 n (decide ((s.getF Fld.MRG_VSTR_VSTR_MAX * 100 : Nat) < cs))
    s.marginCheck 0x07 1 n (decide (cs < (s.getF Fld.MRG_VSTR_VSTR_MIN * 100 : Nat)))
  else s

/-- The highest, mean and lowest chain temperature of a sweep that carried temperatures become feedback samples (R252). -/
def State.chainTemps (s : State) : State :=
  let ts := s.allPos.flatMap (fun i => (maskNums 8 (s.recAt i).tempMask).map (fun k => ((s.posAt i).temps[k - 1]?).getD 0))
  match ts with
  | [] => s
  | t :: r =>
    let (m, s) := s.divFree ts.sum ts.length
    let s := { s with thm := { s.thm with chain := some (r.foldl max t, m, r.foldl min t) } }
    ((s.srcTick 0x18).srcTick 0x19).srcTick 0x1A

/-- A sweep is complete, or its deadline has come with positions missing (R119). A position without a sampled slot breaks its count of
sweeps in a row with a closed bleed switch (R157). -/
def State.sweepEnd (s : State) (sw : Sweep) (partial' : Bool) : State :=
  let ch := { s.chain with
    sweeps := s.chain.sweeps.filter (fun x => x.num != sw.num), last := some sw,
    image := s.allPos.map (fun i => if sw.got.contains i then (s.posAt i).bytes else i :: List.replicate (slotLen sw.kind - 1) 0) }
  let s := { s with chain := ch }
  let s := s.allPos.foldl (fun s i => s.posMod i (fun p => { p with
    closed := if sw.sampled.contains i then p.closed else [],
    late := sw.lateAt i, offset := ((sw.offsets.find? (fun o => o.1 == i)).map (·.2)).getD 0 })) s
  let s := s.mapAll Reg.NODE_LATE_LO sw.lateAt
  let lates := (s.allPos.filter sw.lateAt).length
  let s := (s.setReg Reg.CHN0_SWEEP_STATUS
    (sw.num * 65536 + lates % 256 * 256 + 128 * b2n sw.split + 64 * b2n partial' + sw.kind)).setReg (Reg.CHN_SWEEP_TIME 0) sw.instant
  let full := s.allPos.all (sw.sampled.contains ·)
  let s := { s with safe := { s.safe with goodSweeps := if partial' then 0 else min 3 (s.safe.goodSweeps + 1) } }
  let s := (s.raise (Ev.CHN_SWEEP_DONE 0)).raiseIf partial' (Ev.CHN_SWEEP_PARTIAL 0)
  let s := if full && !partial' && lates == 0 && !sw.split then
      match s.chainSum with
      | some cs => s.sumFormed cs sw.instant
      | none => s
    else s
  let s := if sw.kind == 1 || sw.withTemps then s.chainTemps else s
  let fast := s.getF Fld.MODE_FUNC_STATE_SAMPLE_FAST
  let s := if sw.kind == 2 then s.asySweep sw.instant (s.cellList.map (fun c =>
      let ok := sw.sampled.contains c.1 && sw.quiet.contains c.1
      (if ok then some ((s.posAt c.1).v c.2).toNat else none, bitOf (s.posAt c.1).suspect (c.2 - 1)))) else s
  let s := if sw.kind == 2 && fast == 1 then
      let s := s.setFunc 3 2
      if s.asy.wantRun then s.asyBegin (binsOf s.asy.mask) (s.nextInstant sw.instant) s.cellList.length else s
    else if sw.kind == 1 && fast == 3 then s.setFunc 3 0 else s
  (((s.estSweep sw).bleedOff sw.quiet).clearCheck.planTake.rejudge).progress

/-- Every position has its slots of a sweep. -/
def State.sweepFull (s : State) (sw : Sweep) : Bool :=
  s.allPos.all (fun i => sw.got.contains i && (!sw.withTemps || sw.gotT.contains i))

/-- The local time at which the TRIG of a sample instant on the time base was launched (R115). -/
def State.launchOf (s : State) (instant : Nat) : Nat :=
  ((s.localNs : Int) - sInt 32 ((s.stamp + 2 ^ 32 - instant % 2 ^ 32) % 2 ^ 32) - 20000).toNat

/-- The deadline of the segment that position `i` belongs to has passed (R126). -/
def Sweep.closedTo (sw : Sweep) (i : Nat) : Bool := if sw.other.contains i then sw.deadOther else sw.deadOwn

/-- A module at the far end of a pair follows the sweeps it sees in frames (R91). -/
def State.followSweep (s : State) (m : SlotMsg) : State :=
  if s.masters || m.kind == 4 || s.chain.sweeps.any (fun x => x.num == m.sweep)
      || (match s.chain.last with | some l => l.num == m.sweep && l.instant == m.instant | none => false) then s
  else
    let sw : Sweep := {
      num := m.sweep, kind := if m.kind == 3 then 2 else m.kind, instant := m.instant, launchNs := s.launchOf m.instant,
      withTemps := m.kind == 3, split := bitOf m.flags 1, latePos := [], other := [], deadOwn := false, deadOther := false,
      got := [], gotT := [], sampled := [], quiet := [], offsets := [] }
    { s with chain := { s.chain with sweeps := (sw :: s.chain.sweeps).take 2, nextNum := (m.sweep + 1) % 65536 } }

/-- What a slot's frame shows on the line (R91, R133): violations, the frame that ends with it, and at a far-end module that does not
master the bytes to forward. -/
def State.slotLine (s : State) (m : SlotMsg) : State :=
  let s := s.codeErr m.port m.lineErrs
  let s := if m.last then s.frameIn m.port m.crcOk else s
  if s.pair && !s.masters && m.port == 0 then
    let h : ChainHead := ⟨0x01, m.flags, m.sweep, m.edition, m.instant, m.first, m.count, m.kind, slotLen m.kind⟩
    let begins := s.chain.fwd.isEmpty && s.chain.fwdFrag == 0
    s.fwdBytes ((if begins then h.bytes else []) ++ m.bytes ++ (if m.last then leBytes 4 m.crc else [])) m.last
  else s

/-- A slot of a returning frame is rejected and counted, or accepted and used (R106); one that comes after the deadline of its
segment is ignored (R119, R126). -/
def State.slotIn (s : State) (m : SlotMsg) : State :=
  let s := s.slotLine m
  if m.pos == 0 || s.nodes < m.pos || !slotOk m then
    let s := if m.port < 2 then s.countReg (Reg.CHN_SLOT_ERR m.port) else s
    s.posMod m.pos (fun p => { p with slotErr := satU 16 (p.slotErr + 1) })
  else
    let st := be16 m.bytes 2
    let s := s.followSweep m
    if m.kind == 4 then s.hear m.pos st
    else match s.chain.sweeps.find? (fun x => x.num == m.sweep) with
      | none => s
      | some sw =>
        if sw.closedTo m.pos then s else
        let s := (s.posMod m.pos (fun p => { p with bytes := if m.kind == 3 then p.bytes else m.bytes })).hear m.pos st
        let smp := bitOf st 14
        let s := s.sweepMod sw.num (fun x => { x with
          got := if m.kind == 3 then x.got else m.pos :: x.got, gotT := if m.kind == 3 then m.pos :: x.gotT else x.gotT,
          sampled := if smp && m.kind != 3 then m.pos :: x.sampled else x.sampled,
          quiet := if bitOf st 12 then x.quiet else m.pos :: x.quiet })
        let s := if smp then s.slotMeasured m.pos m.kind st m.bytes (sw.lateAt m.pos) else s
        match s.chain.sweeps.find? (fun x => x.num == m.sweep) with
        | some sw => if s.sweepFull sw then s.sweepEnd sw false else s
        | none => s

/-- SLOT_ARRIVAL (R106). -/
def execSlotArrival (slot : SlotMsg) (s : State) : Step := .next (if s.live then s.slotIn slot else s)

/-- FWD (R91): a frame that the far-end partner forwards. -/
def execFwd (slots : List SlotMsg) (s : State) : Step :=
  .next (if s.live && s.pair && s.plnkOn then slots.foldl State.slotIn s else s)

/-- SWEEP_DEADLINE (R119, R126): 400 µs after the instant of a sweep in progress, or with `other` after that of its segment triggered
again from the other end; the last of them ends the sweep. -/
def execSweepDeadline (s : State) (num : Nat := 0) (other : Bool := false) : Step :=
  .next (if s.live then
    match s.chain.sweeps.find? (fun x => x.num == num) with
    | some sw =>
      let sw := { sw with deadOwn := sw.deadOwn || !other || sw.other.isEmpty, deadOther := sw.deadOther || other }
      if sw.deadOwn && (sw.deadOther || sw.other.isEmpty) then s.sweepEnd sw (!s.allPos.all (sw.got.contains ·))
      else s.sweepMod num (fun _ => sw)
    | none => s
  else s)

/-- NODE_UNHEARD (R122): no valid slot from a position for 30 ms. A slot that came in the same CLK_FAB cycle wins (R130). -/
def execNodeUnheard (pos : Nat) (s : State) : Step :=
  if s.live && s.sampling && 1 ≤ pos && pos ≤ s.nodes && !s.mapGet Reg.NODE_UNHEARD_LO pos && !s.arrivedNow (heardKey pos) then
    let s := s.posMod pos (fun p => { p with state := if p.state == 4 then 4 else 3 })
    .next ((s.mapSet Reg.NODE_UNHEARD_LO pos true).raise Ev.NODE_NODE_UNHEARD).remark
  else .next s

/-- A time on the time base lies in the past. -/
def State.pastTime (s : State) (t : Nat) : Bool := decide (0 ≤ sInt 32 ((s.stamp + 2 ^ 32 - t % 2 ^ 32) % 2 ^ 32))

/-- RELAY (R127): the master names sweep number, CTRL of TRIG with REDUCE, instant and launch time of COLLECT for the segment that this
module triggers. TRIG is launched 20 µs less REDUCE before the instant: at once where that time has come, else at TRIG_LAUNCH. -/
def execRelay (sweep ctrl instant : Nat) (s : State) (collect : Nat := instant) : Step :=
  if s.live && s.pair && s.plnkOn && !s.masters then
    let s := { s with chain := { s.chain with relay := some ⟨sweep, ctrl, instant, collect, false⟩ } }
    .next (if s.pastTime (instant + 2 ^ 32 - 20000 + 1000 * (ctrl % 16)) then s.relayTrig else s)
  else .next s

end Sys2Proof.Machine
end

