-- ==== Sys2Proof/Machine/Assay.lean ====
section
/-! DEFINITION. The Assay unit's commands (chapter 9): runs, bins, results, metrics and internal temperatures. -/

namespace Sys2Proof.Machine

/-- Whether a run is in progress. -/
def State.asyRuns (s : State) : Bool :=
  let st := s.getF Fld.ASY_RUN_STATUS_STATE
  st == 1 || st == 2 || st == 3

/-- ASSAY_START (R235, R236): START while idle in ASSAY; an empty set aborts at once. -/
def execAssayStart (master : Nat) (s : State) : Step :=
  .next (s.permit master Reg.ASY_RUN_CTL (fun s =>
    let st := s.getF Fld.ASY_RUN_STATUS_STATE
    if s.cur == Md.assay && (st == 0 || st == 5 || st == 6) && (!s.pair || s.holder) then
      match binsOf s.runMask with
      | [] => ((s.setReg Reg.ASY_ABORT_CAUSE 0x05).raise Ev.ASY_RUN_ABORTED).leaveAssay
      | bins => s.asyBegin bins (s.nextInstant ((s.chain.last.map (fun (w : Sweep) => w.instant)).getD s.stamp)) s.cellList.length
    else s.raise Ev.ASY_START_REFUSED))

/-- ASSAY_ABORT (R236): ABORT ends the run with cause HOST and a taper; without a run it has no effect. -/
def execAssayAbort (master : Nat) (s : State) : Step :=
  .next (s.permit master Reg.ASY_RUN_CTL (fun s => if s.asyRuns then (s.asyAbort 0x01 false).leaveAssay else s))

/-- PERTURB_RISE_END (R234): a(t) reaches 1; PERTURB becomes ON. -/
def execPerturbRiseEnd (s : State) : Step :=
  .next (if s.live && s.getF Fld.ASY_RUN_STATUS_STATE == 1 then
    let s := s.setF Fld.ASY_RUN_STATUS_STATE 2
    if s.getF Fld.MODE_FUNC_STATE_PERTURB == 1 then (s.setFunc 1 2).progress else s
  else s)

/-- The state of a bin by the first row of R239 that applies, with I. -/
def State.asyJudge (s : State) (f : Fit) : Nat × (F64 × F64) :=
  let k := sincOf s.asy.m s.asy.l
  let i0 := phasor (solve4 f.gramI f.vecI)
  let i := (F64.div i0.1 k, F64.div i0.2 k)
  let ab := F64.sqrt (F64.add (F64.mul i.1 i.1) (F64.mul i.2 i.2))
  let drift := f.half1 * f.n2 - f.half2 * f.n1
  let st := if f.curBad then 2
    else if f.clipped then 5
    else if s.getReg Reg.ASY_DRIFT_LIM % 65536 * 10 * f.n1 * f.n2 < drift.natAbs then 3
    else if F64.lt ab (F64.rat s.asy.amplMa 2000) then 4
    else 1
  (st, i)

/-- The entry of a cell in a bin judged DONE (R239, R243): Z_RE and Z_IM in nΩ. -/
def cellEntry (f : Fit) (l : Nat) (i : F64 × F64) (c : List F64 × Nat × Bool) : Int × Int :=
  if c.2.1 != l then (-(2 ^ 31), 6)
  else
    let z := cdiv (phasor (solve4 f.gramV c.1)) i
    let re := (F64.mul z.1 (F64.ofInt 1000000000)).toInt
    let im := (F64.mul z.2 (F64.ofInt 1000000000)).toInt
    (satS 32 re, if c.2.2 then satS 32 im / 16 * 16 + 7 else satS 32 im)

/-- Whether an entry holds a result. -/
def hasResult (e : Int × Int) : Bool := e.1 != -(2 ^ 31)

/-- The run ends after its last bin (R235): RUN_DONE, the taper, and with ASSAY_RETURN the way back to DISPATCH. -/
def State.asyRunDone (s : State) : State :=
  let s := (s.setReg Reg.ASY_RUN_TIME ((s.asy.startNs + (s.asy.sN + s.asy.l) * 250000 - s.asy.riseNs) / 1000000)).raise Ev.ASY_RUN_DONE
  let s := (s.asyFall).setF Fld.ASY_RUN_STATUS_STATE 4
  let s := { s with asy := { s.asy with endState := 5, metricsDue := true } }
  if s.flag Fld.MODE_CTL_ASSAY_RETURN then s.leaveAssay else s

/-- Some parameter set uses a bin for its temperature. -/
def State.usesBin (s : State) (j : Nat) : Bool := s.cellList.any (fun c =>
  let k := s.pset (s.psetNo c)
  k.fT == j && !k.phi.isEmpty)

/-- BIN_SPAN_END (R238, R239): the fit is solved, the bin judged, retried once or written, and the next bin begins. -/
def execBinSpanEnd (s : State) : Step :=
  let st := s.getF Fld.ASY_RUN_STATUS_STATE
  match s.asy.fit, s.asy.bins with
  | some f, j :: rest =>
    if s.live && (st == 2 || st == 3) then
      let (code, i) := s.asyJudge f
      let t := s.asy.startNs + (s.asy.sN + s.asy.l) * 250000
      let th := s.asyTheta t
      let n := s.cellList.length
      let s := s.setF Fld.ASY_RUN_STATUS_STATE 2
      if code != 1 && s.asy.tries == 1 then
        .next ({ (s.asyBin t th n) with asy := { (s.asyBin t th n).asy with tries := 2 } }.raise Ev.ASY_BIN_RETRY)
      else
        let cells := f.cells.map (fun (c : List F64 × Nat × Bool) =>
          if code == 1 then cellEntry f s.asy.l i c else (-(2 ^ 31), (code : Int)))
        let ab := F64.sqrt (F64.add (F64.mul i.1 i.1) (F64.mul i.2 i.2))
        let r : BinRes := ⟨j, s.asy.l, s.asy.m, s.asy.tries, code, ab, F64.arg i.2 i.1, cells⟩
        let due := if code == 1 && s.usesBin j then some j else s.asy.tempDue
        let s := { s with asy := { s.asy with res := r :: s.asy.res, tempDue := due } }
        let s := s.raise (if code == 1 then Ev.ASY_BIN_DONE else Ev.ASY_BIN_INVALID)
        match rest with
        | [] => .next ({ s with asy := { s.asy with bins := [] } }.asyRunDone)
        | _ => .next ({ s with asy := { s.asy with bins := rest, tries := 1 } }.asyBin t th n)
    else .next s
  | _, _ => .next s

/-! ### Metrics (R244) -/

/-- A spectrum from the highest bin down to the lowest: (L, M, Z_RE, Z_IM). -/
abbrev Spec := List (Nat × Nat × Int × Int)

/-- The spectrum of cell `k`: its entries with results, in descending frequency. -/
def State.spectrum (s : State) (k : Nat) : Spec :=
  s.asy.res.reverse.filterMap (fun r => match r.cells[k]? with
    | some e => if hasResult e then some (r.l, r.m, e.1, e.2) else none
    | none => none)

/-- The first crossing of Z_IM from positive to negative: Z_RE there and the spectrum below it. -/
def crossing : Spec → Option (Int × Spec)
  | [] => none
  | a :: t => match t with
    | [] => none
    | b :: _ =>
      if 0 < a.2.2.2 && b.2.2.2 ≤ 0 then
        some (a.2.2.1 + divEither (a.2.2.2 * (b.2.2.1 - a.2.2.1)) (a.2.2.2 - b.2.2.2).toNat, t)
      else crossing t

/-- The part of a spectrum down to its first local minimum of `f`, that minimum included, and whether there is one. -/
def downTo (f : Nat × Nat × Int × Int → Int) : Spec → Spec × Bool
  | [] => ([], false)
  | a :: t =>
    if t.isEmpty then ([a], false)
    else match t with
      | b :: c :: _ =>
        if f b ≤ f a && f b < f c then ([a, b], true)
        else let r := downTo f t; (a :: r.1, r.2)
      | _ => let r := downTo f t; (a :: r.1, r.2)

/-- The entry with the most negative Z_IM. -/
def peakOf (l : Spec) : Option (Nat × Nat × Int × Int) :=
  l.foldl (fun m e => if 0 ≤ e.2.2.2 then m else match m with
    | none => some e
    | some x => if e.2.2.2 < x.2.2.2 then some e else some x) none

/-- A cell's metrics but for OUTLIER. -/
def metricOf (sp : Spec) : Metric :=
  if sp.length < 4 then ⟨0, 0, 0, 0, 0x10⟩
  else
    let zre := fun (o : Option (Nat × Nat × Int × Int)) => (match o with | some e => e.2.2.1 | none => 0)
    let last := zre sp.getLast?
    let (rHf, below, f0) := match crossing sp with
      | some (r, t) => (r, t, 0)
      | none => (zre sp.head?, sp, 1)
    match peakOf (downTo (fun e => e.2.2.1 + e.2.2.2) below).1 with
    | none => ⟨rHf, last - rHf, last, 0, f0 + 2 + 4⟩
    | some p =>
      let fp := divEither ((p.2.1 : Int) * 4000000) p.1
      let low := sp.dropWhile (fun e => e != p)
      let (arc, found) := downTo (fun e => -e.2.2.2) low
      let r := if found then zre arc.getLast? else last
      ⟨rHf, r - rHf, last, fp.toNat, f0 + (if found then 0 else 4)⟩

/-- METRICS_DONE (R244): the metrics of every populated cell, OUTLIER against the median R_HF. -/
def execMetricsDone (s : State) : Step :=
  if s.live && s.asy.metricsDue then
    let n := s.cellList.length
    let ms := (List.range n).map (fun k => metricOf (s.spectrum k))
    let sus := (List.range n).map (fun k => bitOf (s.posAt ((s.cellList[k]?).getD (0, 1)).1).suspect (((s.cellList[k]?).getD (0, 1)).2 - 1))
    let hf := ((ms.filter (fun (m : Metric) => !bitOf m.flags 4)).map (fun (m : Metric) => m.rHf)).mergeSort (fun a b => decide (a ≤ b))
    let h := hf.length
    let med2 := if h % 2 = 1 then 2 * (hf[h / 2]?).getD 0 else (hf[h / 2 - 1]?).getD 0 + (hf[h / 2]?).getD 0
    let pct : Int := (s.getReg Reg.ASY_OUTLIER_PCT % 256 : Nat)
    let old := s.asy.metrics
    let ms := (withIdx 0 (List.zip ms sus)).map (fun (q : Nat × Metric × Bool) =>
      let m := q.2.1
      let out := !bitOf m.flags 4 && decide (pct * med2 < 100 * (2 * m.rHf - med2))
      let keep := ((old[q.1]?).map (·.flags)).getD 0 / 64 * 64
      { m with flags := m.flags + 8 * b2n out + 32 * b2n q.2.2 + keep })
    let c := (ms.filter (fun (m : Metric) => bitOf m.flags 3)).length
    let s := ({ s with asy := { s.asy with metrics := ms, metricsDue := false } }).setReg Reg.ASY_OUTLIER_COUNT (c % 1024)
    .next ((s.raiseIf (c != 0) Ev.ASY_OUTLIER).raise Ev.ASY_METRICS_DONE)
  else .next s

/-! ### Internal temperature (R245 to R247) -/

/-- The curve at a phase in degrees: temperature in °C and slope in °C per degree; the end values hold beyond it. -/
def curveAt (phi : F64) : List (F64 × F64) → F64 × F64
  | [] => (F64.zero, F64.zero)
  | [a] => (a.2, F64.zero)
  | a :: b :: t =>
    if F64.lt phi a.1 then (a.2, F64.zero)
    else if F64.le phi b.1 then
      let sl := F64.div (F64.sub b.2 a.2) (F64.sub b.1 a.1)
      (F64.add a.2 (F64.mul sl (F64.sub phi a.1)), sl)
    else curveAt phi (b :: t)

/-- °C in units of 0.01 °C. -/
def centi (x : F64) : Int := (F64.mul x (F64.ofInt 100)).toInt

/-- TEMP_ESTIMATE (R245 to R247): the estimates of the bin's cells go to the engine, are compared with T_CORE, and in
thermal equilibrium trim the offsets. -/
def execTempEstimate (s : State) : Step :=
  match s.asy.tempDue with
  | none => .next s
  | some j =>
    if !s.live then .next s
    else
      let r := s.asy.res.find? (fun r => r.bin == j)
      let low := match r with
        | some x => decide (x.m * 4000 < x.l)
        | none => false
      let sp := if low then F64.rat 3 10 else F64.rat 5 100
      let en := s.flag Fld.ASY_TEMP_CTL_TEMP_EN
      let tc := s.flag Fld.ASY_TEMP_CTL_TCAL_EN && s.asy.equil
      let base := fun (k : Nat) (pc : Nat × Nat) =>
        let set := s.pset (s.psetNo pc)
        match (r.bind (fun x => x.cells[k]?)) with
        | none => none
        | some e =>
          if !hasResult e || set.fT != j || set.phi.isEmpty then none
          else
            let (t, sl) := curveAt (F64.arg (F64.ofInt e.2) (F64.ofInt e.1)) set.phi
            let soc := F64.mul (((s.est.pub[k]?).map (·.s)).getD F64.zero) (F64.ofInt 100)
            let v := F64.mul sl sp
            some (F64.add t (F64.mul set.kSoc (F64.sub soc (F64.ofInt 50))),
              F64.add (F64.mul v v) (F64.mul set.sigC set.sigC), bitOf (s.posAt pc.1).suspect (pc.2 - 1))
      let vals : List (Option (F64 × F64 × Bool)) := (withIdx 0 s.cellList).map (fun (q : Nat × Nat × Nat) => base q.1 q.2)
      let ofs := fun (k : Nat) => (s.tcal[k]?).getD 0
      let est : List (Option (F64 × F64)) := (withIdx 0 vals).map (fun (q : Nat × Option (F64 × F64 × Bool)) => match q.2 with
        | some (t, v, sus) => if sus || !en then none else some (F64.add t (F64.rat (ofs q.1) 100), v)
        | none => none)
      let lim : Int := (10 * s.getF Fld.ASY_TEMP_CTL_DISAGREE : Nat)
      let core := fun (k : Nat) => ((s.est.pub[k]?).map (fun c => F64.sub (vget c.x 9) (F64.rat 27315 100)))
      let dis := (withIdx 0 est).map (fun (q : Nat × Option (F64 × F64)) => match q.2, core q.1 with
        | some (t, _), some c => F64.lt (F64.rat lim 100) (F64.sub t c).abs
        | _, _ => false)
      let new : List (Option Int) := (withIdx 0 vals).map (fun (q : Nat × Option (F64 × F64 × Bool)) => match q.2, s.est.cells[q.1]? with
        | some (t, _, _), some c => if tc then some (c.tSurf - centi t) else none
        | _, _ => none)
      let bad := new.map (fun (o : Option Int) => match o with | some v => decide (500 < v.natAbs) | none => false)
      let cells := (withIdx 0 s.est.cells).map (fun (q : Nat × CellEst) => match est[q.1]? with
        | some (some e) => { q.2 with tNew := if s.flag Fld.EST_CTL_ASSAY_TEMP then some e else none, tAssay := some (centi e.1), tAssayH := s.hours }
        | _ => q.2)
      let ms := (List.range s.cellList.length).map (fun k => (s.asy.metrics[k]?).getD ⟨0, 0, 0, 0, 0⟩)
      let ms := (withIdx 0 ms).map (fun (q : Nat × Metric) =>
        let d := if ((est[q.1]?).getD none).isSome then (dis[q.1]?).getD false else bitOf q.2.flags 7
        let o := if ((new[q.1]?).getD none).isSome then (bad[q.1]?).getD false else bitOf q.2.flags 6
        { q.2 with flags := q.2.flags % 64 + 128 * b2n d + 64 * b2n o })
      let tcal := (List.range s.cellList.length).map (fun k => match (new[k]?).getD none with
        | some v => if v.natAbs ≤ 500 then v else ofs k
        | none => ofs k)
      let s := { s with est := { s.est with cells := cells }, asy := { s.asy with metrics := ms, tempDue := none } }.arrive tempKey
      let s := s.raiseIf (dis.any id) Ev.ASY_CORE_TEMP_DISAGREE
      if new.any Option.isSome then
        let s := s.putTcal tcal
        let s := if s.pair then s.plnkOut 0x0A (tcal.flatMap (fun v => beBytes 2 (toU 16 v))) else s
        .next ((s.raiseIf (bad.any id) Ev.ASY_TCAL_OUTLIER).raise Ev.ASY_TCAL_DONE)
      else .next s

/-- TCAL_CLR (R247): the keyed write sets every offset to 0, only while no run is in progress. -/
def execTcalClr (master value : Nat) (s : State) : Step :=
  .next (s.permitKeyed master Reg.ASY_TCAL_CLR 0x6D2A Ev.SYS_OWNER_DENIED (fun s =>
    if bitOf value 0 && !s.asyRuns then s.putTcal [] else s))

/-- TCAL (R247): the partner stores the holder's new offsets in its own MRAM. -/
def execTcal (edition : Nat) (offsets : List Int) (s : State) : Step :=
  if s.live && s.pair && s.plnkOn && s.getReg Reg.PAIR_EDITION ≤ edition then
    let s := s.higherEdition edition
    .next (if s.holder then s else s.putTcal offsets)
  else .next s

/-- PERTURB_ZERO (R26, R234, R236, R284): the amplitude is at 0; a taper ends, PERTURB that is STOPPING at rest is OFF, or the
perturbation was lost. -/
def execPerturbZero (s : State) : Step :=
  let st := s.getF Fld.ASY_RUN_STATUS_STATE
  let moving := s.drv.perturbMoving
  if s.live && (moving || s.getF Fld.MODE_FUNC_STATE_PERTURB == 3) then
    let s := { s with drv := { s.drv with perturbMoving := false } }.raise Ev.DRV_PERTURB_ZERO
    if st == 4 || !moving then
      let s := if st == 4 then s.setF Fld.ASY_RUN_STATUS_STATE s.asy.endState else s
      .next (if s.getF Fld.MODE_FUNC_STATE_PERTURB == 3 then (s.setFunc 1 0).progress else s)
    else .next ((s.asyAbort 0x04 true).leaveAssay)
  else .next s

end Sys2Proof.Machine
end

