-- ==== Sys2Proof/Machine/RecordCheck.lean ====
section
/-! DEFINITION. The checks that the chapters name for the Plant Record (R500): the variant (R21), the parameter sets and their
tables (R191, R192, R245), the Assay bins (R229), the Margins (R309), the comparators and stop limits (R312), the claim
priorities (R342). -/

namespace Sys2Proof.Machine

/-- `v` lies from `lo` to `hi`, both in multiples of 10^-k. -/
def F64.within (k : Nat) (lo hi : Int) (v : F64) : Bool :=
  F64.le (F64.rat lo (10 ^ k)) v && F64.le v (F64.rat hi (10 ^ k))

/-- A list rises strictly. -/
def rising (lt : F64 → F64 → Bool) : List F64 → Bool
  | x :: y :: t => lt x y && rising lt (y :: t)
  | _ => true

/-- The OCV of a table does not decrease from one point to the next (R192). -/
def ocvOk : List (Nat × Int) → Bool
  | x :: y :: t => decide (x.1 ≤ y.1) && ocvOk (y :: t)
  | _ => true

/-- A parameter set lies in the ranges of R191, its OCV table does not decrease (R192), its calibration is monotonic (R245). -/
def PSet.ok (p : PSet) : Bool :=
  decide (3600000 ≤ p.qNom ∧ p.qNom ≤ 4200000000 ∧ 10000 ≤ p.vEmpty ∧ p.vEmpty < p.vFull ∧ p.vFull ≤ 50000)
  && F64.within 0 1 100000 p.tauN && F64.within 0 1 100000 p.tauP && F64.within 1 1 10000 p.tauE
  && F64.within 4 1 10000 p.tauCt && F64.within 0 (-1) 1 p.kN && F64.within 0 (-1) 1 p.kP && F64.within 1 (-5) 5 p.kE
  && decide (10 ≤ p.r0 ∧ p.r0 ≤ 65535) && F64.within 1 1 100000 p.i0 && F64.within 0 0 10000 p.eaR
  && F64.within 1 0 1 p.hMax && F64.within 0 0 1 p.gammaH && F64.within 2 1 10000 p.rTh && F64.within 0 10 100000 p.cTh
  && p.qProc.all (F64.within 0 0 1) && F64.within 8 1 100000 p.rMeas && F64.within 8 1 100000 p.rAnchor
  && p.p0.all (F64.within 0 0 1)
  && p.ocv.length == 256 && ocvOk p.ocv
  && p.phi.length == 8 && rising F64.lt (p.phi.map (·.1))
  && (rising F64.lt (p.phi.map (·.2)) || rising (fun x y => F64.lt y x) (p.phi.map (·.2)))

/-- A table of nominal bin frequencies in µHz: 64 rising entries from 0.05 Hz to 1,000 Hz (R229). -/
def binsOk (l : List Nat) : Bool :=
  l.length == 64 && l.all (fun f => decide (50000 ≤ f ∧ f ≤ 1000000000)) && decide (l.Pairwise (· < ·))

/-- A field of the words that the record gives. -/
def PlantRecord.fld (r : PlantRecord) (f : Fld) : Nat := bitsOf (r.regs.get f.addr).toNat f.hi f.lo

/-- A signed temperature field. -/
def PlantRecord.temp (r : PlantRecord) (f : Fld) : Int := sInt 16 (r.fld f)

/-- The cell Margins of set `i` lie in their ranges (R309). -/
def PlantRecord.setMarginsOk (r : PlantRecord) (i : Nat) : Bool :=
  decide (10000 ≤ r.fld (Fld.MRG_SET_VCELL_MIN i) ∧ r.fld (Fld.MRG_SET_VCELL_MIN i) < r.fld (Fld.MRG_SET_VCELL_MAX i)
    ∧ r.fld (Fld.MRG_SET_VCELL_MAX i) ≤ 50000)
  && [Fld.MRG_SET_TCHG_MAX i, Fld.MRG_SET_TCHG_MIN i, Fld.MRG_SET_TDIS_MAX i, Fld.MRG_SET_TDIS_MIN i].all
    (fun f => decide (-4000 ≤ r.temp f ∧ r.temp f ≤ 12500))

/-- Every Margin lies in its range (R309). -/
def PlantRecord.marginsOk (r : PlantRecord) : Bool :=
  (List.range 16).all r.setMarginsOk
  && decide (r.fld Fld.MRG_VSTR_VSTR_MAX ≤ 22000 ∧ r.fld Fld.MRG_VSTR_VSTR_MIN ≤ 22000)
  && [Fld.MRG_I_MAX_ICHG_MAX, Fld.MRG_I_MAX_IDIS_MAX].all (fun f => decide (100 ≤ r.fld f ∧ r.fld f ≤ 8000))

/-- The parameter sets assigned to populated cells of a position. -/
def PosRec.setsUsed (p : PosRec) : List Nat :=
  (List.range 16).filterMap (fun c => if bitOf p.cellMask c then some ((p.sets[c]?).getD 0) else none)

/-- The comparator thresholds of a position lie just beyond the Margins of a set (R312). -/
def PlantRecord.compOk (r : PlantRecord) (p : PosRec) (i : Nat) : Bool :=
  let th := fun (k : Nat) => (p.comp[k]?).getD 0
  let hot := max (r.temp (Fld.MRG_SET_TCHG_MAX i)) (r.temp (Fld.MRG_SET_TDIS_MAX i))
  let cold := min (r.temp (Fld.MRG_SET_TCHG_MIN i)) (r.temp (Fld.MRG_SET_TDIS_MIN i))
  let vmax := r.fld (Fld.MRG_SET_VCELL_MAX i)
  let vmin := r.fld (Fld.MRG_SET_VCELL_MIN i)
  decide (vmax ≤ th 0 ∧ th 0 ≤ vmax + 1000 ∧ vmin ≤ th 1 + 1000 ∧ th 1 ≤ vmin
    ∧ hot ≤ sInt 16 (th 2) ∧ sInt 16 (th 2) ≤ hot + 500 ∧ cold - 500 ≤ sInt 16 (th 3) ∧ sInt 16 (th 3) ≤ cold)

/-- The profile of R270 reaches 0 A within `n` steps of 10 µs. -/
def reachesZero (vmax amax jmax : F64) : Nat → F64 → F64 → F64 → Bool
  | 0, _, _, _ => false
  | n + 1, r, v, a =>
    let x := profileStep vmax amax jmax F64.zero r v a
    x.2.2.2 || reachesZero vmax amax jmax n x.1 x.2.1 x.2.2.1

/-- The stop limits bring 800 A to 0 A within 390 ms; from −800 A the profile is the same with every sign changed (R312). -/
def PlantRecord.stopOk (r : PlantRecord) : Bool :=
  let w := fun (a : Nat) => F64.ofInt ((r.regs.get a).toNat : Int)
  reachesZero (w Reg.PROF_STOP_RATE) (w Reg.PROF_STOP_ACCEL) (w Reg.PROF_STOP_JERK) 39000 (F64.ofInt 800) F64.zero F64.zero

/-- The variant refuses a record: pair topology in a VB-2064-C, Assay bins in a VB-2064-A or VB-2064-C (R21). -/
def PlantRecord.conflicts (r : PlantRecord) (v : Variant) : Bool :=
  (r.pair && v == .C)
    || (v != .F && ((r.regs.get Reg.ASY_BIN_EN_LO).toNat != 0 || (r.regs.get Reg.ASY_BIN_EN_HI).toNat != 0))

/-- The checks that the chapters name for a Plant Record, but for the variant (R191, R192, R229, R245, R309, R312, R342). -/
def PlantRecord.checked (r : PlantRecord) : Bool :=
  r.psets.length == 16 && r.psets.all PSet.ok
  && r.positions.all (fun p => p.setsUsed.all (fun i => decide (i < 16) && r.compOk p i))
  && (match r.binTable with | some l => binsOk l | none => true)
  && r.marginsOk && !(r.pair && r.fld Fld.DRV_CLAIM_PRIORITY == r.prioB % 256) && r.stopOk

end Sys2Proof.Machine
end

