-- ==== Sys2Proof/Machine/Update.lean ====
section
/-! DEFINITION. The update manager's commands (R496 to R506). -/

namespace Sys2Proof.Machine

/-- The transfer ends with a REJECT code (R499, R500). -/
def State.updReject (s : State) (code : Nat) : State :=
  let s := { s with upd := { s.upd with state := 0, rx := [], cur := none } }
  ((s.setF Fld.UPD_STATE_REJECT code).raise Ev.UPD_REJECTED).updShow

/-- An ABORT (R501): a transfer ends, or without one all READY payloads are discarded. -/
def State.abortNow (s : State) : State :=
  if s.upd.state != 0 then { s with upd := { s.upd with state := 0, rx := [], cur := none } }.updShow
  else
    let s := s.exchangeDrop
    let s := s.upd.ready.foldl (fun (s : State) (p : Payload) =>
      if p.kind == Pk.app || p.kind == Pk.safe then s.putBank p.kind (1 - s.bankNo p.kind) none else s) s
    { s with upd := { s.upd with ready := [], armed := [], nextStart := [] } }.updShow

/-- An ABORT that waits takes effect: at its grant, or before a later command of the update manager (R508, assumption log 118). -/
def State.abortDue (s : State) : State :=
  if s.upd.abortWait then { s with upd := { s.upd with abortWait := false } }.abortNow else s

/-- UPD_BEGIN (R499, R501): a transfer starts; during another one it is refused with BUSY. -/
def execUpdBegin (master : Nat) (s : State) : Step :=
  .next (s.permit master Reg.UPD_CTL (fun s =>
    let s := s.abortDue
    if s.upd.state != 0 then (s.setF Fld.UPD_STATE_REJECT 0x0D).raise Ev.UPD_REJECTED
    else
      let s := { s with upd := { s.upd with state := 1, rx := [], cur := none } }
      ((s.setReg Reg.UPD_RECEIVED 0).setF Fld.UPD_STATE_REJECT 0).updShow))

/-- UPD_DATA (R499, R500): a word is appended to the header or the body, or refused. -/
def execUpdData (master value : Nat) (s : State) : Step :=
  .next (s.permit master Reg.UPD_DATA (fun s =>
    let u := s.upd
    match u.state, u.cur with
    | 1, _ =>
      let rx := (leBytes 4 value).reverse ++ u.rx
      let s := { s with upd := { u with rx := rx, state := if rx.length == 512 then 2 else 1 } }
      (s.setReg Reg.UPD_RECEIVED rx.length).updShow
    | 3, some p =>
      let bs := (leBytes 4 value).take (p.bodyLen - u.rx.length)
      let rx := bs.reverse ++ u.rx
      let all := decide (p.bodyLen ≤ rx.length)
      let s := { s with upd := { u with
        rx := if all then [] else rx, cur := some (if all then { p with body := rx.reverse } else p), state := if all then 4 else 3 } }
      (s.setReg Reg.UPD_RECEIVED (512 + rx.length)).updShow
    | _, _ => s.raise Ev.UPD_DATA_REFUSED))

/-- The longest body of a kind (R499). -/
def bodyLimit : Nat → Nat
  | 1 => 16777216
  | 5 => 262144
  | _ => 1048576

/-- A header as a payload (R496). -/
def headerOf (h : List Nat) : Payload :=
  ⟨leAt h 6 1, leAt h 9 1, leAt h 12 4, (List.range 5).map (fun i => leAt h (16 + 2 * i) 2), leAt h 26 2, leAt h 28 4,
   (h.drop 32).take 32, [], none⟩

/-- The bit of VARIANT_MASK of a variant. -/
def variantBit : Variant → Nat
  | .F => 0
  | .A => 1
  | .C => 2

/-- The first check of R499 that a header fails; 0 none. -/
def State.headerFault (s : State) (h : List Nat) (sigOk : Bool) : Nat :=
  let p := headerOf h
  let key := leAt h 10 1
  if h.take 4 != [0x56, 0x42, 0x49, 0x4D] then 0x01
  else if leAt h 4 2 != 1 || leAt h 7 1 != 0 || leAt h 11 1 != 0 || ((h.drop 64).take 384).any (· != 0) then 0x02
  else if p.kind == 0 || 5 < p.kind then 0x03
  else if !bitOf (leAt h 8 1) (variantBit s.variant) then 0x04
  else if 3 < key || bitOf (s.getReg Reg.UPD_KEY_STATE) key then 0x05
  else if !sigOk then 0x06
  else if p.bodyLen < 4 || bodyLimit p.kind < p.bodyLen then 0x07
  else if (p.kind == Pk.node && !s.chain.pos.any (fun x => x.type == p.targetType))
      || (p.kind == Pk.ostage && s.record.map (·.stageType) != some p.targetType) then 0x08
  else if p.epoch < (s.upd.floors[p.kind - 1]?).getD 0 then 0x09
  else if !s.ifaceOk [[], s.upd.ready] p then 0x0A
  else 0

/-- HEADER_CHECK_DONE (R499): the checks in order; the transfer goes on with the body, the inactive bank of its kind given up. -/
def execHeaderCheckDone (sigOk : Bool) (s : State) : Step :=
  if s.live && s.upd.state == 2 then
    let h := s.upd.rx.reverse
    let p := headerOf h
    match s.headerFault h sigOk with
    | 0 =>
      let s := if p.kind == Pk.app then s.exchangeDrop else s
      let others := fun (l : List Payload) => l.filter (fun q => q.kind != p.kind)
      let s := { s with upd := { s.upd with
        state := 3, rx := [], cur := some p, ready := others s.upd.ready, armed := others s.upd.armed,
        nextStart := others s.upd.nextStart, store := others s.upd.store } }
      let s := if p.kind == Pk.app || p.kind == Pk.safe then s.putBank p.kind (1 - s.bankNo p.kind) none else s
      .next (s.raise Ev.UPD_HEADER_OK).updShow
    | c => .next (s.updReject c)
  else .next s

/-- What the checks of an APP or RECORD body find: it fails, and whether it is for the variant (R21, R372, R500). A body that
spells no record fails. -/
def State.bodyFault (s : State) (p : Payload) (r : Option PlantRecord) : Bool × Bool :=
  if p.kind == Pk.app then (!appOk p.body, false)
  else if p.kind != Pk.record then (false, false)
  else match r with
    | none => (true, false)
    | some r => if r.conflicts s.variant then (true, true) else (!r.checked, false)

/-- PAYLOAD_VERIFIED (R500): the hash, the checks of an APP or RECORD body, READY. -/
def execPayloadVerified (body : BodyCheck) (s : State) : Step :=
  match s.upd.cur with
  | some p =>
    if s.live && s.upd.state == 4 then
      if sha256 p.body != p.hash then .next (s.updReject 0x0B)
      else if (s.bodyFault p body.record).1 then
        .next ((s.updReject 0x0C).raiseIf (s.bodyFault p body.record).2 Ev.SYS_VARIANT_CONFLICT)
      else
        let p := if p.kind == Pk.record then { p with record := body.record } else p
        let s := { s with upd := { s.upd with state := 0, cur := none, rx := [], ready := s.upd.ready ++ [p] } }
        let s := if p.kind == Pk.app || p.kind == Pk.safe then s.putBank p.kind (1 - s.bankNo p.kind) (some p)
          else if p.kind == Pk.record then s else { s with upd := { s.upd with store := p :: s.upd.store } }
        .next (s.raise Ev.UPD_READY).updShow
    else .next s
  | none => .next s

/-- UPD_ABORT (R501): the write waits in the Compositor as an informational event, so that a READY of its cycle precedes it (R508). -/
def execUpdAbort (master : Nat) (s : State) : Step :=
  .next (s.permit master Reg.UPD_CTL (fun s => { s with upd := { s.upd with abortWait := true } }.raiseInt Pg.UPD 40 5))

/-- UPD_ARM (R503): the keyed write arms the READY kinds in KINDS: for the next start, at once, or for ACTIVATE_AT. -/
def execUpdArm (master value : Nat) (s : State) : Step :=
  .next (s.permitKeyed master Reg.UPD_CTL 0x9A3F Ev.SYS_OWNER_DENIED (fun s =>
    let s := s.abortDue
    let kinds := bitsOf value 11 7
    let l := s.upd.ready.filter (fun p => bitOf kinds (p.kind - 1))
    let at' := s.getReg Reg.UPD_ACTIVATE_AT
    if !bitOf value 3 || l.isEmpty then s
    else if bitOf value 5 then ({ s with upd := { s.upd with nextStart := l } }.raise Ev.UPD_ARMED).updShow
    else if at' == 0 then
      (({ s with upd := { s.upd with armed := l } }.raise Ev.UPD_ARMED).updShow).raiseInt Pg.UPD 43 5
    else if sInt 32 (toU 32 ((at' : Int) - (s.stamp : Int))) ≤ 0 then s.setF Fld.UPD_STATE_RESULT 0x10
    else ({ s with upd := { s.upd with armed := l } }.raise Ev.UPD_ARMED).updShow))

/-- UPD_REVERT (R502): the keyed write activates what the other bank of APP or SAFE holds, its EPOCH not below the floor. -/
def execUpdRevert (master value : Nat) (s : State) : Step :=
  .next (s.permitKeyed master Reg.UPD_CTL 0x9A3F Ev.SYS_OWNER_DENIED (fun s =>
    let s := s.abortDue
    let kinds := bitsOf value 11 7
    let l := [Pk.app, Pk.safe].filterMap (fun k => match s.bankOf k (1 - s.bankNo k) with
      | some p => if bitOf kinds (k - 1) && (s.upd.floors[k - 1]?).getD 0 ≤ p.epoch then some p else none
      | none => none)
    if !bitOf value 4 || l.isEmpty then s
    else (({ s with upd := { s.upd with armed := l } }.raise Ev.UPD_ARMED).updShow).raiseInt Pg.UPD 43 5))

/-- ACTIVATE_AT_DUE (R504): the expiry waits in the Compositor, and at its grant the armed kinds are activated. -/
def execActivateAtDue (s : State) : Step :=
  .next (if s.live && !s.upd.armed.isEmpty then s.raiseInt Pg.UPD 42 4 else s)

/-- KEY_REVOKE (R497): the keyed write revokes keys, never the last one. -/
def execKeyRevoke (master value : Nat) (s : State) : Step :=
  .next (s.permitKeyed master Reg.UPD_KEY_REVOKE 0x9A3F Ev.SYS_OWNER_DENIED (fun s =>
    let old := s.getReg Reg.UPD_KEY_STATE % 16
    let new := old ||| value % 16
    if new == 15 || new == old then s else (s.setRegM Reg.UPD_KEY_STATE new).raise Ev.UPD_KEY_REVOKED))

/-- A returned NFW frame and progress of a load, as arrivals that a limit of the same cycle yields to (R508). -/
abbrev nfwKey : Nat := 6
abbrev loadKey : Nat := 7

/-- The present operation of a node sequence has been taken and the previous one has ended well: the next one, or, after ACTIVATE, the
rejoin of the restarted node. -/
def State.nodeOn (s : State) (n : NodeUpd) : State :=
  if n.op == 4 then { s with upd := { s.upd with node := some { n with rejoin := true } } }.rejoinOut (n.left.headD 0)
  else if n.op == 2 && n.block + 1 < (n.payload.bodyLen + 4095) / 4096 then s.nodeSend { n with block := n.block + 1 }
  else s.nodeSend { n with op := n.op + 1, block := 0 }

/-- What a returned NFW frame says of the node's previous operation (R505): BUSY repeats the present one; BAD_BLOCK or VERIFY_FAIL begins
with ERASE once more, then fails. The frame of an ERASE says nothing of this position's sequence. -/
def State.nodeResult (s : State) (n : NodeUpd) (result : Nat) : State :=
  if result == 2 then s.nodeSend n
  else if n.op == 1 || result == 1 then s.nodeOn n
  else if (result == 3 || result == 5) && !n.again then s.nodeSend { n with op := 1, block := 0, again := true }
  else s.nodeFail

/-- NFW_RESULT (R505): an NFW frame has returned with the result of the node's previous operation. -/
def execNfwResult (pos result : Nat) (s : State) : Step :=
  if !s.live then .next s
  else
    let s := (s.frameIn (if s.pair then 0 else 1) true).raiseIf (result == 4) Ev.NODE_STALE_MASTER
    match s.upd.node with
    | none => .next s
    | some n =>
      if n.left.headD 0 != pos || n.waits || n.rejoin then .next s
      else
        let s := (s.arrive nfwKey).nodeResult n result
        .next (if result == 2 then s else s.afterRepeat)

/-- NFW_BUSY_TIMEOUT (R505): a node has reported BUSY for 1 s. -/
def execNfwBusyTimeout (s : State) : Step :=
  .next (match s.upd.node with
    | some n => if s.live && !n.rejoin && !s.arrivedNow nfwKey then s.nodeFail.afterRepeat else s
    | none => s)

/-- NODE_REJOIN_TIMEOUT (R505): an updated node has not rejoined within 2 s; a REJOIN still under way ends with TIMEOUT (R136). -/
def execNodeRejoinTimeout (s : State) : Step :=
  .next (match s.upd.node with
    | some n =>
      if s.live && n.rejoin then
        let s := s.nodeFail
        if s.chain.rejoin == 0 then s else s.enumEnd 5 0
      else s
    | none => s)

/-- LOAD_STATUS (R506): a drive link frame; progress of a load by its phase; HASH_FAIL or REFUSED ends it. -/
def execLoadStatus (_state offset result : Nat) (s : State) : Step :=
  let s := if s.live && s.variant != .C then s.countReg Reg.DRV_FRAMES_RX else s
  .next (match s.upd.load with
    | none => s
    | some l =>
      if !s.live || l.phase == 4 then s
      else if result == 3 || result == 4 then s.loadFail
      else if result != 1 then s
      else
        let s := if l.phase == 2 && offset ≤ l.acked then s else s.arrive loadKey
        match l.phase with
        | 1 => s.loadSend 16 { l with phase := 2 }
        | 2 =>
          let l := { l with acked := max l.acked (min offset l.sentTo) }
          if l.payload.bodyLen ≤ l.acked then
            { (s.driveMsg 0x42 (beBytes 4 l.payload.bodyLen)) with upd := { s.upd with load := some { l with phase := 3 } } }
          else s.loadSend 16 l
        | _ => { (s.driveMsg 0x43 []) with upd := { s.upd with load := some { l with phase := 4 } } })

/-- LOAD_RESEND (R506): 10 ms without progress; the frames after the last acknowledged offset are sent again. -/
def execLoadResend (s : State) : Step :=
  .next (match s.upd.load with
    | some l => if s.live && l.phase == 2 && !s.arrivedNow loadKey then s.loadSend 16 { l with sentTo := l.acked } else s
    | none => s)

/-- LOAD_TIMEOUT (R506): 5 s without progress. -/
def execLoadTimeout (s : State) : Step := .next (if s.live && !s.arrivedNow loadKey then s.loadFail else s)

end Sys2Proof.Machine
end

