-- ==== Sys2Proof/Machine/Replay.lean ====
section
/-! DEFINITION. Replay of the Galley (R421), at step 6 of the start-up sequence and at a takeover (R356). -/

namespace Sys2Proof.Machine

/-- Whether an open line of a kind is completed forward; else it is rolled back (R421). -/
def replayFwd (kind : Nat) (args : List Nat) : Bool :=
  if kind == Kind.contactor then args.headD 0 == 1
  else kind == Kind.image || kind == Kind.capacity || kind == Kind.record || kind == Kind.node

/-- One open line is decided: its outcome as a new slot, the counts, the event, and what the outcome does. What a takeover does about
the contactors is in the table of R356, and a partner's image and record are not this module's to commit. -/
def State.replayLine (s : State) (x : GSlot) : State :=
  let fwd := replayFwd x.kind x.args
  let s := { s with gal := s.gal.write { x with state := if fwd then 4 else 5, time := s.stamp, mirrored := false } }
  let s := (s.countF (if fwd then Fld.GAL_REPLAY_FWD else Fld.GAL_REPLAY_BACK)).setReg Reg.GAL_REPLAY_SEQ x.seq
  let s := (s.raiseA (if fwd then Ev.GAL_REPLAY_FWD else Ev.GAL_REPLAY_BACK) x.seq).galShow
  if x.kind == Kind.contactor then (if x.mirrored then s else s.setCmd 0)
  else if x.kind == Kind.image then (if x.mirrored then s else s.imageReplay x.args)
  else if x.kind == Kind.record then (if x.mirrored then s else (s.setF Fld.UPD_STATE_RESULT 0x01).raise Ev.UPD_ACTIVATED)
  else if x.kind == Kind.capacity then s.capReplay
  else if x.kind == Kind.node then { s with aux := { s.aux with nodeRepeat := true } }
  else s

/-- Slots with an invalid seal are discarded (R421); the line's previous slot then governs. -/
def State.discardBad (s : State) : State :=
  let bad := s.gal.slots.filter (fun x => !x.sealOk && x.state != 6)
  bad.foldl (fun (s : State) (x : GSlot) =>
    let l := s.gal.slots.map (fun (y : GSlot) => if y.idx == x.idx then { y with state := 6 } else y)
    let s := { s with gal := { s.gal with slots := l } }
    (s.countF Fld.GAL_REPLAY_DISCARDED).raiseA Ev.GAL_LINE_DISCARDED x.seq) s

/-- Every open line that is MIRRORED, or every one that is not, is decided. -/
def State.replay (s : State) (mirrored : Bool) : State :=
  ((s.gal.openLines.filter (fun x => x.mirrored == mirrored)).reverse).foldl State.replayLine s

end Sys2Proof.Machine
end

