-- ==== Sys2Proof/Machine/Pair.lean ====
section
/-! DEFINITION. *The Redundant Pair* (R340 to R363) and the output stage's STATUS (R292): heartbeats, claiming, mirroring,
takeover, role swaps, stop requests between partners. -/

namespace Sys2Proof.Machine

/-- The pair commands act: the module runs, is in pair topology and has a drive link. -/
def State.paired (s : State) : Bool := s.live && s.pair && s.variant != .C

/-- The partner link can deliver a frame: it is enabled, and CLK_ETH does not hold it down (R66, R474). -/
def State.plnkRx (s : State) : Bool := s.paired && s.plnkOn

/-- A partner message other than a heartbeat is heard unless its edition is lower than the module's own (R476). -/
def State.plnkHears (s : State) (edition : Nat) : Bool := s.plnkRx && s.getReg Reg.PAIR_EDITION ≤ edition

/-- PSTATE takes a value. -/
def State.setPstate (s : State) (v : Nat) : State := s.setF Fld.PAIR_STATE_PSTATE v

/-- A Full Stop cause, or an Ellipsis cause, is active. -/
def State.anyCause (s : State) : Bool := s.getReg Reg.SAFE_CAUSE_LO != 0 || s.getReg Reg.SAFE_CAUSE_HI != 0

/-- A sweep completed in the last 30 ms (R343). -/
def State.sweepFresh (s : State) : Bool := match s.chain.last with
  | some w => decide (s.localNs ≤ w.launchNs + 30000000)
  | none => false

/-- The words of a slot's configuration (R354). -/
def Slot.cfgWords (x : Slot) : List Nat :=
  let b := fun (k : Bank) => [k.b0, k.b1, k.b2, k.b3, k.a1, k.a2, k.a3, k.exp, k.outMax, k.outMin]
  [x.cfg, x.route, x.fmt, b2n x.manual] ++ b x.active ++ b x.shadow ++ [x.fallback, x.frzThr]

/-- PAIR.CFG_CRC (R354); the order of the words is the model's (assumption log 80). -/
def State.pairCrc (s : State) : Nat :=
  let ws := s.loops.flatMap Slot.cfgWords ++ [s.getReg Reg.PROF_RATE, s.getReg Reg.PROF_ACCEL, s.getReg Reg.PROF_JERK,
    s.getF Fld.BAL_CTL_ENABLE, s.getReg Reg.EST_CTL, s.getReg Reg.EST_SOC_RULES, s.getReg Reg.EST_WARN_LEVELS]
  crc32 (ws.flatMap (leBytes 4))

/-- FLAGS of the module's own heartbeat (R343). -/
def State.hbFlags (s : State) : Nat :=
  let ready := s.cur == Md.survey && s.power == 0 && s.gal.openLines.isEmpty && (s.pstate == Ps.standby || s.pstate == Ps.resync)
  b2n s.drv.imprint + 2 * b2n (s.flag Fld.SAFE_STATE_FS_ACTIVE) + 4 * b2n ready + 8 * b2n (s.flag Fld.PAIR_STATE_SYNCED)
  + 16 * b2n (s.getF Fld.DRV_LINK_STATE == 2) + 32 * b2n s.sweepFresh + 64 * b2n (s.getReg Reg.SAFE_CAUSE_HI != 0)
  + 128 * b2n (s.flag Fld.PAIR_STATE_LATENT_FAULT)

/-- The heartbeats of the LINK and PULSE paths and an applied MIRROR, as arrivals that a timeout of the same cycle yields to (R364). -/
abbrev hbKey (path : Nat) : Nat := 8 + path
abbrev mirrorKey : Nat := 10

/-- The width in µs of the module's own pulse (R343). -/
def State.pulseWidth (s : State) : Nat :=
  if s.flag Fld.SAFE_STATE_FS_ACTIVE then 500
  else if s.pstate == Ps.holder then 300
  else if s.pstate == Ps.init || s.pstate == Ps.claiming then 50 else 100

/-- HEARTBEAT_SEND (R343): a heartbeat on both paths; the partner link keeps free the time of the next one, 5 ms later (R475).
With every twentieth a module in RESYNC asks again for a snapshot that has not begun (R345). -/
def execHeartbeatSend (s : State) : Step :=
  if s.paired then
    let n := (s.pairU.hbCounter + 1) % 65536
    let s := ({ s with pairU := { s.pairU with hbCounter := n, hbSentAt := s.stamp } }).setReg Reg.PAIR_CFG_CRC s.pairCrc
    let body := beBytes 2 n ++ beBytes 4 (s.getReg Reg.PAIR_EDITION) ++ [s.pstate, s.cur] ++ beBytes 2 s.hbFlags
      ++ beBytes 4 s.stamp ++ beBytes 4 (s.getReg Reg.PAIR_CFG_CRC)
    let s := s.plnkOut 0x01 body
    let s := { s with eth := { s.eth with hbAt := some (s.localNs + 5000000) } }
    let s := if s.pstate == Ps.resync && s.pairU.snapshot == 0 && n % 20 == 0 then s.plnkOut 0x03 [] else s
    .next (s.emit .hbOut 0 [s.pulseWidth])
  else .next s

/-- RESYNC begins (R355). -/
def State.enterResync (s : State) : State :=
  let s := { s with pairU := { s.pairU with snapshot := 0 } }
  ((s.setPstate Ps.resync).setB Fld.PAIR_STATE_SYNCED false).plnkOut 0x03 []

/-- A valid heartbeat has come: the partner is present, SPLIT ends (R344, R348). -/
def State.partnerHere (s : State) : State :=
  let s := if s.flag Fld.PAIR_STATE_PARTNER_PRESENT then s
    else (s.setB Fld.PAIR_STATE_PARTNER_PRESENT true).raise Ev.PAIR_PARTNER_BACK
  if s.pstate == Ps.split then (s.raise Ev.PAIR_SPLIT_CLEARED).enterResync else s

/-- One more valid heartbeat on a path: UP after three in a row (R344). -/
def State.pathGood (s : State) (f : Fld) (n : Nat) : State :=
  let old := s.getF f
  if old == 1 || n < 3 then s else (s.setF f 1).raiseIf (old == 2) Ev.PAIR_HB_PATH_BACK

/-- The exchange that a heartbeat ends: its own send and receive times with those of the module's last heartbeat (R437). How the
partner's receive time reaches the module the spec does not say: without it there is no exchange (assumption log 82). -/
def State.hbExchange (s : State) (hb : HeartbeatMsg) : State := match hb.peerRx with
  | some t => s.pairExchange (pairOffset hb.rxAt hb.sentAt t s.pairU.hbSentAt)
  | none => s

/-- HEARTBEAT (R343, R344): what the partner reports; a higher edition demotes (R341, R358). -/
def execHeartbeat (hb : HeartbeatMsg) (s : State) : Step :=
  if s.plnkRx then
    let p := { s.pairU with partnerFlags := hb.flags % 256, partnerState := hb.pstate, linkGood := min 3 (s.pairU.linkGood + 1) }
    let s := { s with pairU := p }.arrive (hbKey 0)
    let s := (s.setF Fld.PAIR_STATE_PARTNER_MODE hb.mode).setF Fld.PAIR_HB_PARTNER_FLAGS hb.flags
    let s := (s.setReg Reg.PAIR_PARTNER_EDITION hb.edition).setReg Reg.PAIR_CFG_CRC_PARTNER hb.cfgCrc
    let s := if s.getReg Reg.PAIR_CFG_CRC_PARTNER == s.pairCrc then s.setB Fld.PAIR_STATE_CFG_DIFFER false else s
    let s := if hb.mode == Md.stopping || bitOf hb.flags 1 then { s with safe := { s.safe with stopReqSent := false } } else s
    -- a blind standby whose link has been UP for 1 s again (R363)
    let s := if s.flag Fld.PAIR_STATE_BLIND && s.flag Fld.PLNK_LINK_UP && s.pairU.linkUpNs + 1000000000 ≤ s.localNs then
        (s.setB Fld.PAIR_STATE_BLIND false).enterResync else s
    .next ((((s.pathGood Fld.PAIR_HB_LINK p.linkGood).partnerHere).hbExchange hb).higherEdition hb.edition)
  else .next s

/-- The state that a pulse width names: 1 STANDBY, RESYNC or SPLIT, 2 HOLDER, 3 Full Stop, 4 INIT or CLAIMING; none outside
every window (R343). -/
def pulseOf (w : Nat) : Option Nat :=
  if 76 ≤ w && w ≤ 124 then some 1
  else if 276 ≤ w && w ≤ 324 then some 2
  else if 476 ≤ w && w ≤ 524 then some 3
  else if 26 ≤ w && w ≤ 74 then some 4
  else none

/-- HB_PULSE (R343): a pulse at HB_IN, `gapUs` after the last valid one; while the path is not UP no earlier pulse bounds it, and a
pulse out of step counts as the first of the three (assumption log 114).
With LINK not UP, the pulse is what names the partner's state (R363). -/
def execHbPulse (widthUs gapUs : Nat) (s : State) : Step :=
  let fresh := s.getF Fld.PAIR_HB_PULSE != 1
  let inStep := decide (4000 ≤ gapUs ∧ gapUs ≤ 6000)
  match pulseOf widthUs with
  | some k =>
    if s.paired && (fresh || inStep) then
      let p := { s.pairU with pulseGood := if inStep then min 3 (s.pairU.pulseGood + 1) else 1 }
      let p := if s.getF Fld.PAIR_HB_LINK == 1 then p else { p with
        partnerState := if k == 2 then Ps.holder else if k == 1 then Ps.standby else if k == 4 then Ps.init else p.partnerState,
        partnerFlags := putBit p.partnerFlags 1 (k == 3) }
      let s := { s with pairU := p }.arrive (hbKey 1)
      let s := if k == 3 then { s with safe := { s.safe with stopReqSent := false } } else s
      .next ((s.pathGood Fld.PAIR_HB_PULSE p.pulseGood).partnerHere)
    else .next s
  | none => .next s

/-- A heartbeat path (0 LINK, 1 PULSE) is LOST (R344). -/
def State.pathLost (s : State) (path : Nat) : State :=
  let f := if path == 0 then Fld.PAIR_HB_LINK else Fld.PAIR_HB_PULSE
  if s.getF f == 2 then s
  else
    let p := if path == 0 then { s.pairU with linkGood := 0 } else { s.pairU with pulseGood := 0 }
    let s := ({ s with pairU := p }.setF f 2).raise Ev.PAIR_HB_PATH_LOST
    if s.getF Fld.PAIR_HB_LINK == 2 && s.getF Fld.PAIR_HB_PULSE == 2 then s.pairUnaligned else s

/-- HB_PATH_LOST (R344): 15 ms without a valid heartbeat on a path; one that arrives in the same cycle wins (R364). -/
def execHbPathLost (path : Nat) (s : State) : Step :=
  .next (if s.paired && !s.arrivedNow (hbKey path) then s.pathLost path else s)

/-- HOLDER of a STATUS as this module's own port: A for role A, B for role B (R289). -/
def State.ownPort (s : State) : Nat := 1 + s.getF Fld.AUX_ADDR_ROLE

/-- At step 7 of the start-up sequence, role B waits for role A's enumeration (R113). -/
def State.awaitsEnum (s : State) : Bool :=
  s.phase == .starting && s.roleB && s.chain.enum == 1 && !s.flag Fld.NODE_ENUM_STATUS_BUSY

/-- PARTNER_LOST (R344, R348, R357): both paths LOST and 50 ms without any heartbeat; SPLIT where the partner's lease is still
renewed. During the start-up sequence, role B then enumerates itself (R113). -/
def execPartnerLost (s : State) : Step :=
  let silent := s.paired && s.getF Fld.PAIR_HB_LINK == 2 && s.getF Fld.PAIR_HB_PULSE == 2
    && !s.arrivedNow (hbKey 0) && !s.arrivedNow (hbKey 1)
  if silent && s.awaitsEnum then .next (s.setB Fld.PAIR_STATE_PARTNER_PRESENT false).enumBegin
  else if silent && s.flag Fld.PAIR_STATE_PARTNER_PRESENT then
    let s := ((s.setB Fld.PAIR_STATE_PARTNER_PRESENT false).countF Fld.PAIR_HB_LOSSES).raise Ev.PAIR_PARTNER_LOST
    let renewed := s.getF Fld.DRV_LINK_HOLDER == 3 - s.ownPort && (match s.pairU.leaseNs with
      | some t => decide (s.localNs ≤ t + 20000000)
      | none => false)
    .next (if renewed && s.standby then (s.setPstate Ps.split).raise Ev.PAIR_PAIR_SPLIT else s)
  else .next s

/-! ### Claiming (R290, R346, R347) -/

/-- The conditions of R346 in a pair, those of R290 for a solo module. -/
def State.mayClaim (s : State) : Bool :=
  s.phase == .up && s.variant != .C && s.record.isSome && !s.drv.imprint && !s.drv.claimPending && s.upd.load.isNone
  && (if s.pair then
      s.flag Fld.PAIR_CTL_CLAIM_EN && s.getF Fld.DRV_LINK_STATE == 2 && s.drv.statusSeen && s.getF Fld.DRV_LINK_HOLDER == 0
      && ((s.flag Fld.DRV_EN_LEVEL_A && s.flag Fld.DRV_EN_LEVEL_B) || s.power == 0)
      && (!s.flag Fld.PAIR_STATE_PARTNER_PRESENT || !bitOf s.pairU.partnerFlags 1)
      && !s.pairU.holdoff && (!s.flag Fld.PAIR_STATE_LATENT_FAULT || s.power == 0)
    else s.cur == Md.survey)

/-- A CLAIM is sent with the edition of the last STATUS plus 1. -/
def State.claim (s : State) : State :=
  let s := if s.pair then s.setPstate Ps.claiming else s
  s.sendClaim (s.getReg Reg.DRV_EDITION + 1)

/-- CLAIM_SEND (R346). -/
def execClaimSend (s : State) : Step := .next (if s.mayClaim then s.claim else s)

/-- PAIR_CLAIM (R346): PAIR.CTL.CLAIM sends a CLAIM under the same conditions. -/
def execPairClaim (master : Nat) (s : State) : Step :=
  .next (s.permit master Reg.PAIR_CTL (fun s => if s.pair && s.mayClaim then s.claim else s))

/-- CLAIM_TIMEOUT (R347): no RESULT within 300 ms. -/
def execClaimTimeout (s : State) : Step :=
  if s.live && s.drv.claimPending then
    let s := { s with drv := { s.drv with claimPending := false } }
    .next (if s.pair then s.setPstate Ps.standby else s)
  else .next s

/-! ### Takeover (R356) -/

/-- The mirrored slot states are taken over: slot 1 is preset, THERMAL slots in AUTO are preset to their mirrored output. -/
def State.takeSlots (s : State) : State :=
  let s := s.loops.length.fold (init := s) (fun i _ s =>
    let x := s.slot i
    if 2 ≤ i && x.kind == 3 && x.state == 1 then
      let p := x.preset x.out x.err
      s.putSlot i p.1 p.2
    else if i == 1 && x.kind == 2 then
      let p := x.preset x.out x.err
      s.putSlot i p.1 p.2
    else s)
  s.thmOutputs

/-- The mirrored transition goes on by its row (R25, R356): the row that its states name, with POWER telling the normal stop of
LEVEL closed from row 10; ASSAY, and a transition toward it, returns to DISPATCH with cause TAKEOVER (R236), and a perturbation
that the new holder does not drive is OFF. -/
def State.takeRowOver (s : State) : State :=
  let closed := s.power != 0
  let row := if s.cur == Md.starting || s.cur == Md.stopping then
      rowOf (s.getF Fld.MODE_STATE_PREV) (s.getF Fld.MODE_STATE_TARGET) closed else 0
  let s := { s with mode := { s.mode with row := row, aborted := false } }
  if s.cur == Md.assay || row == 6 then
    let s := (s.setReg Reg.ASY_ABORT_CAUSE 0x06).raise Ev.ASY_RUN_ABORTED
    let s := s.galOpen Kind.mode 0 ([Md.assay, Md.dispatch, 0, 0] ++ leBytes 4 0)
    let s := s.begin 7 Md.stopping Md.dispatch
    ((s.stopFunc 3).setFunc 1 0).progress
  else if row == 7 || row == 11 then (s.setFunc 1 0).progress
  else s.progress

/-- The new holder acts on its mirrored state by the table of R356. -/
def State.takeover (s : State) : State :=
  let m := s.pairU.mirror
  let fs := (match m with | some x => bitOf x.safe Fld.SAFE_STATE_FS_ACTIVE.lo | none => false) || bitOf s.pairU.partnerFlags 1
  let ell := (match m with | some x => bitOf x.safe Fld.SAFE_STATE_ELLIPSIS.lo | none => false)
  let cause := match m with
    | some x => if bitOf x.safe Fld.SAFE_STATE_FS_ACTIVE.lo then bitsOf x.safe Fld.SAFE_STATE_FIRST_CAUSE.hi Fld.SAFE_STATE_FIRST_CAUSE.lo else 0x18
    | none => 0x18
  let cont := match m with | some x => x.cont % 8 | none => 0
  let s := (s.replay true).takeSlots
  let s := { s with mram := { s.mram with power := s.power }, meas := { s.meas with imdWait := true } }
  let s := (s.setB Fld.EST_STATE_MIRRORED false).imdRefresh
  let s := if s.power == 0 then (s.setCmd 0).takeRowOver
    else if fs then
      let s := ((s.setF Fld.DRV_CONT_CMD cont).setF Fld.SAFE_STATE_FIRST_CAUSE cause).setB Fld.SAFE_STATE_FS_ACTIVE true
      let s := { s with safe := { s.safe with fsStartNs := s.localNs }, mode := { s.mode with row := 13, aborted := false } }
      ((s.setFunc 0 3).setMode Md.stopping Md.survey s.cur).noRampPath
    else if s.power == 1 then ((s.setCmd cont).abortTransition).openContactors
    else if s.power == 3 then
      let s := (({ (s.setCmd cont) with mode := { s.mode with row := 11, aborted := false } }.removeDrive false).profZero).setFunc 1 0
      if s.below5 then s.openContactors else s
    else
      let s := s.profZero
      let s := match m with
        | some x => ((s.setReg Reg.PROF_TARGET x.target).setReg Reg.PROF_PENDING_TARGET x.pendTarget).setB Fld.PROF_STATE_PENDING x.pend
        | none => s
      let s := (s.setCmd cont).setArm true
      let s := match m with
        | some x => if ell then
            { (s.setB Fld.SAFE_STATE_ELLIPSIS true) with safe := { s.safe with ellLeftNs := x.ellLeft * 1000000000 } }.setReg Reg.SAFE_ELL_LEFT x.ellLeft
          else s
        | none => s
      s.takeRowOver
  -- a blind standby clears the loopback at its own end of the line (R363)
  let s := if s.flag Fld.PAIR_STATE_BLIND then
      (s.nodeWrite (if s.roleB then s.nodes else 1) 0x15 0).setB Fld.PAIR_STATE_BLIND false else s
  let s := if s.aux.nodeRepeat then { s.nodeReplay with aux := { s.nodeReplay.aux with nodeRepeat := false } } else s
  (s.countRegM Reg.PAIR_TAKEOVERS).raise Ev.PAIR_TAKEOVER

/-- GRANTED (R347): the edition is adopted, the Imprint held, RENEW sent; in a pair HOLDER and the takeover, which completes an
accepted swap unless drive has still to come on. -/
def State.granted (s : State) (edition : Nat) : State :=
  let s := { s with drv := { s.drv with claimPending := false, imprint := true, renew := true },
                    chain := { s.chain with silenced := false, fwd := [], fwdFrag := 0, relay := none } }
  let s := (s.setReg Reg.PAIR_EDITION edition).setReg Reg.PAIR_TAKEOVER_GAP ((s.localNs - s.drv.claimNs) / 1000)
  let s := s.raise Ev.DRV_CLAIM_GRANTED
  if s.pair then
    let s := ((s.setPstate Ps.holder).setB ⟨Folio.STATUS Pg.PAIR, 0, 0⟩ true).takeover.demandNow
    let s := s.timeRole.sendRenew.pwmRefresh
    if s.pairU.swap == 3 then
      if s.drv.arm then { s with pairU := { s.pairU with swap := 4 } } else s.swapDone
    else { s with pairU := { s.pairU with swapDue := s.hours + 3600 * s.getF Fld.PAIR_SWAP_CFG_PERIOD_H } }
  else s.sendRenew.pwmRefresh

/-- RESULT of a pending CLAIM (R347). -/
def State.claimResult (s : State) (st : StatusMsg) : State :=
  if !s.drv.claimPending then s
  else match st.result with
    | 1 => s.granted st.edition
    | 3 | 6 =>
      let s := { s with drv := { s.drv with claimPending := false } }.raise Ev.DRV_CLAIM_REFUSED
      if s.pair then s.enterResync else s
    | 4 | 5 =>
      ({ s with drv := { s.drv with claimEdition := st.edition + 1 } }.raise Ev.DRV_CLAIM_REFUSED).learnEdition st.edition
    | _ => s

/-- A role swap fails (R362): RESULT, SWAP_FAIL, the line rolled back; the module that failed sets LATENT_FAULT. -/
def State.swapFail (s : State) (result : Nat) (mine : Bool) : State :=
  let s := ({ s with pairU := { s.pairU with swap := 0 } }.setF Fld.PAIR_SWAP_STATUS_RESULT result).raise Ev.PAIR_SWAP_FAIL
  let s := s.galClose Kind.swap false
  if mine then (s.setB Fld.PAIR_STATE_LATENT_FAULT true).toMram Reg.PAIR_STATE else s

/-- What HOLDER of a STATUS means to the module (R292, R346, R348, R361). -/
def State.holderSeen (s : State) (h : Nat) (gates held : Bool) : State :=
  if held && h != s.ownPort && s.drv.imprint then
    let s := s.raise Ev.DRV_LEASE_LOST
    if s.pair then s.demote (s.getReg Reg.DRV_EDITION)
    else { s with drv := { s.drv with imprint := false, renew := false } }.pwmRefresh
  else if !s.pair then s
  else if s.pstate == Ps.init && s.phase == .up && h != 0 && h != s.ownPort then s.enterResync
  else if s.pstate == Ps.split && h == 0 then (if s.mayClaim then s.claim else s.setPstate Ps.claiming)
  else if s.pairU.swap == 2 && h == 3 - s.ownPort then
    if s.drv.arm && !gates then { s with pairU := { s.pairU with swap := 5 } } else s.swapDone
  else if s.pairU.swap == 5 then
    if h == 0 then s.swapFail 3 false else if gates then s.swapDone else s
  else s

/-- STATUS (R289, R292). -/
def execStatus (st : StatusMsg) (s : State) : Step :=
  if !s.live || s.variant == .C then .next s
  else
    if !st.crcOk then .next (s.countReg Reg.DRV_CRC_ERR)
    else
      let s := (s.countReg Reg.DRV_FRAMES_RX).arrive statusKey
      let fault := bitOf st.ready 4 && !bitOf (s.getF Fld.DRV_OS_STATUS_READY) 4
      let rise := decide (s.getF Fld.DRV_LINK_LEASE_LEFT < st.leaseLeft % 256)
      let held := s.drv.imprint
      let s := ((s.setF Fld.DRV_LINK_RESULT st.result).setF Fld.DRV_LINK_LEASE_LEFT st.leaseLeft).setF Fld.DRV_LINK_HOLDER st.holder
      let s := s.setReg Reg.DRV_OS_STATUS (toU 8 (sInt 8 st.temp) * 2 ^ 24 + st.fault % 256 * 65536 + st.ready % 256 * 256 + st.contFb % 256)
      let s := (s.setI Reg.DRV_OS_CURRENT (st.iOs * 100)).setReg Reg.DRV_EDITION st.edition
      let s := { s with drv := { s.drv with statusSeen := true },
                        pairU := { s.pairU with leaseNs := if rise then some s.localNs else s.pairU.leaseNs } }
      let s := ((s.dropCause 0x0C).raiseIf fault Ev.DRV_OS_FAULT).loadResumed
      let s := if s.getReg Reg.PAIR_EDITION < st.edition && st.result != 1 then
          let s := s.raise Ev.DRV_EDITION_HIGHER
          if s.pair then s.higherEdition st.edition
          else { s with drv := { s.drv with imprint := false, renew := false } }.learnEdition st.edition
        else s
      let s := s.claimResult st
      let s := s.holderSeen st.holder (bitOf st.ready 1) held
      let low := decide (st.iOs.natAbs * 100 < 5000)
      let s := if s.flag Fld.SAFE_STATE_NO_RAMP && s.power != 0 && s.getF Fld.DRV_CONT_STEP != 9 && low then s.openContactors else s
      .next s.pwmRefresh

/-! ### Mirroring (R353 to R355) -/

/-- A byte of each of several numbers. -/
def oneByte (l : List Nat) : List Nat := l.map (· % 256)

/-- The content of a MIRROR but for its number and check, in the order of R353; the widths of its fields are the model's (assumption
log 109). -/
def State.mirrorData (s : State) (all : Bool) : List Nat :=
  let cells := s.est.pub.flatMap (fun c =>
    (c.x.map F64.bits32 ++ (withIdx 0 c.p).flatMap (fun (r : Nat × List F64) => (r.2.drop r.1).map F64.bits32)).flatMap (beBytes 4)
      ++ beBytes 8 (toU 64 c.remain) ++ beBytes 2 c.s.pct)
  let est := oneByte [s.getF Fld.EST_STATE_SOC_STATE] ++ beBytes 2 s.est.soc.pct ++ oneByte [s.getF Fld.EST_STATE_LEARN]
    ++ s.est.pub.flatMap (fun c => beBytes 8 (toU 64 c.dq))
    ++ beBytes 4 (s.hours - s.est.anchorH) ++ oneByte [s.getF Fld.EST_STATE_ANCHOR] ++ s.est.basis.flatMap (beBytes 8)
  let slots := (withIdx 0 s.loops).flatMap (fun (p : Nat × Slot) => if p.1 == 0 then [] else
    oneByte [p.1] ++ beBytes 8 (toU 64 p.2.s1) ++ beBytes 8 (toU 64 p.2.s2) ++ beBytes 8 (toU 64 p.2.s3) ++ beBytes 4 (toU 32 p.2.out)
      ++ oneByte [p.2.state, p.2.bankNo] ++ beBytes 4 ((p.2.holdEnd - s.localNs) / 1000000))
  let lines := (s.gal.slots.filter (fun x => !x.mirrored && (if all then x.state == 1 else (x.idx + 2048 - s.pairU.lineWr) % 2048 < (s.gal.wr + 2048 - s.pairU.lineWr) % 2048))).flatMap
    (fun x => beBytes 4 x.seq ++ oneByte [x.kind, x.phase, x.state] ++ beBytes 4 x.edition ++ beBytes 4 x.lineNo ++ oneByte x.args)
  [s.getReg Reg.MODE_STATE, s.getReg Reg.MODE_FUNC_STATE, s.getReg Reg.MODE_LATCH].flatMap (beBytes 4)
  ++ oneByte [s.getF Fld.DRV_CONT_CMD, b2n s.drv.arm]
  ++ [s.getReg Reg.SAFE_STATE, s.getReg Reg.SAFE_CAUSE_LO, s.getReg Reg.SAFE_CAUSE_HI, s.getReg Reg.SAFE_ELL_LEFT,
      s.getReg Reg.PROF_TARGET, s.getReg Reg.PROF_PENDING_TARGET].flatMap (beBytes 4)
  ++ oneByte [b2n (s.flag Fld.PROF_STATE_PENDING)] ++ slots ++ lines ++ beBytes 4 (s.getReg Reg.EVR_NEWEST) ++ cells ++ est

/-- A MIRROR leaves (R353): its number, whether it ends a snapshot that was asked for (R355), its content, CRC-32. -/
def State.sendMirror (s : State) : State :=
  let n := (s.getReg Reg.PAIR_MIRROR_SEQ + 1) % 2 ^ 32
  let s := s.setReg Reg.PAIR_MIRROR_SEQ n
  let body := beBytes 4 n ++ [b2n s.pairU.snapDue] ++ s.mirrorData s.pairU.snapDue
  let s := s.plnkOut 0x02 (body ++ beBytes 4 (crc32 body))
  { s with pairU := { s.pairU with snapDue := false, lineWr := s.gal.wr } }

/-- MIRROR_SEND (R353): the holder's periodic MIRROR. -/
def execMirrorSend (s : State) : Step := .next (if s.paired && s.pstate == Ps.holder then s.sendMirror else s)

/-- A mirrored Galley line enters the standby's own Galley, marked mirrored. -/
def State.mirrorLine (s : State) (l : MirrorLine) : State :=
  { s with gal := s.gal.write ⟨0, l.seq, true, s.stamp, l.kind, l.phase, l.state, true, l.edition, l.args, l.lineNo + 2 ^ 32, true⟩ }

/-- The estimator takes the partner's content (R204), also before its own first used sweep. -/
def State.mirrorEst (s : State) (m : MirrorMsg) : State :=
  let own := if s.est.cells.isEmpty then m.cells.map (fun c => CellEst.blank c.x c.p c.remain) else s.est.cells
  let cs := (withIdx 0 own).map (fun (q : Nat × CellEst) => match m.cells[q.1]? with
    | some c => { q.2 with x := c.x, p := c.p, remain := c.remain, s := c.s, dq := (m.est.dq[q.1]?).getD q.2.dq }
    | none => q.2)
  let s := { s with est := { s.est with
    cells := cs, soc := m.est.soc, anchorH := s.hours - m.est.anchorAge, basis := if m.est.basis.isEmpty then s.est.basis else m.est.basis } }
  let s := (s.setF Fld.EST_STATE_SOC_STATE m.est.socState).setF Fld.EST_STATE_LEARN m.est.learn
  (s.setF Fld.EST_STATE_ANCHOR m.est.anchor).setB Fld.EST_STATE_MIRRORED true

/-- A MIRROR is applied as a whole (R353, R354). -/
def State.applyMirror (s : State) (m : MirrorMsg) : State :=
  let gap := s.pairU.mirror.isSome && s.getReg Reg.PAIR_MIRROR_SEQ + 1 < m.seq
  let s := (s.mirrorEst m).arrive mirrorKey
  let old := s.cur
  let s := (s.setReg Reg.MODE_STATE m.mode).setReg Reg.MODE_FUNC_STATE m.func
  let s := if s.cur == old then s else s.modeChanged
  let s := (s.setReg Reg.MODE_LATCH m.latch).toMram Reg.MODE_LATCH
  let s := m.slots.foldl (fun s x => if x.slot == 0 || 8 ≤ x.slot then s else
    let o := s.slot x.slot
    s.putSlot x.slot { o with s1 := x.s1, s2 := x.s2, s3 := x.s3, out := x.out, state := if x.slot == 1 then o.state else x.state,
                              bankNo := x.bank, holdEnd := s.localNs + x.holdLeft } false) s
  let s := (m.lines.foldl State.mirrorLine s).galShow
  let s := ((s.setReg Reg.PAIR_HOLDER_EVR_INDEX m.lastIndex).setReg Reg.PAIR_MIRROR_SEQ m.seq).setB Fld.PAIR_STATE_MIRROR_STALE false
  let snap := if m.snapshotEnd then 1 else if gap then 0 else if s.pairU.snapshot == 1 then 2 else s.pairU.snapshot
  let s := { s with pairU := { s.pairU with mirror := some m, mirrorNs := s.localNs, snapshot := snap } }
  if s.pstate == Ps.resync && snap == 2 then
    ((s.setPstate Ps.standby).setB Fld.PAIR_STATE_SYNCED true).raise Ev.PAIR_SYNCED
  else s.setB Fld.PAIR_STATE_SYNCED (snap == 2 && s.pstate == Ps.standby)

/-- MIRROR (R353, R354): applied, or discarded for its CRC, edition or number. -/
def execMirror (m : MirrorMsg) (s : State) : Step :=
  if !s.plnkRx || !(s.pstate == Ps.standby || s.pstate == Ps.resync) then .next s
  else
    let s := s.higherEdition m.edition
    if !m.crcOk || m.edition != s.getReg Reg.PAIR_EDITION || (s.pairU.mirror.isSome && m.seq ≤ s.getReg Reg.PAIR_MIRROR_SEQ) then
      .next (s.countReg Reg.PLNK_MIRROR_DROP)
    else .next (s.applyMirror m)

/-- MIRROR_STALE (R354): MIRROR_AGE exceeds 30 ms. -/
def execMirrorStale (s : State) : Step :=
  if s.paired && s.standby && !s.flag Fld.PAIR_STATE_MIRROR_STALE && !s.arrivedNow mirrorKey then
    .next (((s.setB Fld.PAIR_STATE_MIRROR_STALE true).setB Fld.PAIR_STATE_SYNCED false).raise Ev.PAIR_MIRROR_STALE)
  else .next s

/-- CFG_DIFFER (R354): the two CRCs have differed for 1 s. -/
def execCfgDiffer (s : State) : Step :=
  if s.paired && s.getReg Reg.PAIR_CFG_CRC_PARTNER != s.pairCrc && !s.flag Fld.PAIR_STATE_CFG_DIFFER then
    .next (((s.setReg Reg.PAIR_CFG_CRC s.pairCrc).setB Fld.PAIR_STATE_CFG_DIFFER true).raise Ev.PAIR_CFG_DIFFER)
  else .next s

/-- RESYNC_REQ (R355): the holder's next MIRROR carries the full snapshot. -/
def execResyncReq (edition : Nat) (s : State) : Step :=
  if s.plnkHears edition then
    let s := s.higherEdition edition
    .next (if s.pstate == Ps.holder then { s with pairU := { s.pairU with snapDue := true } } else s)
  else .next s

/-! ### Forwarded mode requests (R351) -/

/-- MODE_REQ (R351): the request waits in the Compositor as one of the holder's own would (R29); its outcome goes back after the
evaluation. -/
def execModeReq (edition tag target : Nat) (s : State) : Step :=
  if s.plnkHears edition then
    let s := s.higherEdition edition
    if s.pstate == Ps.holder then
      .next ({ s with mode := { s.mode with partnerTag := tag, partnerTgt := target } }.raiseInt Pg.MODE 41 5)
    else .next s
  else .next s

/-- MODE_RESULT (R351): the holder's outcome is reported with the module's own TAG. -/
def execModeResult (edition code check target : Nat) (s : State) : Step :=
  if s.plnkHears edition then
    let s := s.higherEdition edition
    match s.mode.forwardTag with
    | some tag => .next ({ s with mode := { s.mode with forwardTag := none } }.report tag target code check)
    | none => .next s
  else .next s

/-- MODE_REQ_TIMEOUT (R351): no MODE_RESULT within 10 ms. -/
def execModeReqTimeout (s : State) : Step :=
  match s.mode.forwardTag with
  | some tag =>
    if s.live then .next ({ s with mode := { s.mode with forwardTag := none } }.report tag s.mode.forwardTarget Rq.imprint 0)
    else .next s
  | none => .next s

/-! ### Role swap (R360 to R362) -/

/-- The conditions of R360 that both sides can check. -/
def State.swapFit (s : State) : Bool :=
  s.flag Fld.PAIR_STATE_PARTNER_PRESENT && !s.anyCause && !bitOf s.pairU.partnerFlags 6 && !bitOf s.pairU.partnerFlags 1
  && s.getF Fld.PAIR_HB_LINK == 1 && s.getF Fld.PAIR_HB_PULSE == 1

/-- The conditions of R360 at the holder. -/
def State.mayOffer (s : State) : Bool :=
  let quiet := match s.meas.loudNs with
    | some t => decide (t + 1000000000 < s.localNs)
    | none => true
  let fn := s.getReg Reg.MODE_FUNC_STATE
  s.pstate == Ps.holder && s.swapFit && bitOf s.pairU.partnerFlags 3 && !bitOf s.pairU.partnerFlags 7
  && (s.cur == Md.survey || (s.cur == Md.dispatch && quiet))
  && s.gal.openLines.isEmpty && !s.asyRuns && s.getF Fld.EST_STATE_ANCHOR == 0
  && [0, 1, 2, 3].all (fun k => let v := fn / 4 ^ k % 4; v == 0 || v == 2)

/-- A swap is offered, or deferred (R360). -/
def State.swapOffer (s : State) : State :=
  if s.mayOffer then
    let s := s.galOpen Kind.swap 0 (leBytes 4 (s.getReg Reg.PAIR_EDITION) ++ leBytes 4 (s.getReg Reg.PAIR_PARTNER_SERIAL_LO))
    { (s.plnkOut 0x07 []) with pairU := { s.pairU with swap := 1 } }
  else s.setF Fld.PAIR_SWAP_STATUS_RESULT 5

/-- SWAP_DUE (R360): the periodic swap, or a retry. -/
def execSwapDue (s : State) : Step :=
  .next (if s.paired && s.pstate == Ps.holder && s.flag Fld.PAIR_CTL_AUTO_SWAP then s.swapOffer else s)

/-- SWAP_NOW (R360): PAIR.CTL.SWAP_NOW. -/
def execSwapNow (master : Nat) (s : State) : Step :=
  .next (s.permit master Reg.PAIR_CTL (fun s => if s.pair && s.pstate == Ps.holder then s.swapOffer else s))

/-- SWAP_OVERDUE (R360). -/
def execSwapOverdue (s : State) : Step :=
  .next (if s.paired && s.pstate == Ps.holder && s.flag Fld.PAIR_CTL_AUTO_SWAP then
    (s.setF Fld.PAIR_SWAP_STATUS_RESULT 6).raise Ev.PAIR_SWAP_OVERDUE else s)

/-- SWAP_OFFER (R361): the standby checks R360 from its side and answers. -/
def execSwapOffer (edition : Nat) (s : State) : Step :=
  if s.plnkHears edition then
    let s := s.higherEdition edition
    if s.pstate == Ps.standby && s.flag Fld.PAIR_STATE_SYNCED && !s.flag Fld.PAIR_STATE_LATENT_FAULT && s.swapFit then
      .next { (s.plnkOut 0x08 []) with pairU := { s.pairU with swap := 3 } }
    else if s.standby then .next (s.plnkOut 0x09 [])
    else .next s
  else .next s

/-- SWAP_ACCEPT (R361): a final MIRROR, RELEASE, STANDBY with a release hold-off. -/
def execSwapAccept (edition : Nat) (s : State) : Step :=
  if s.plnkHears edition then
    let s := s.higherEdition edition
    if s.pairU.swap == 1 && s.pstate == Ps.holder then
      let s := s.sendMirror.driveMsg 0x03 [0x01]
      let s := { s with drv := { s.drv with imprint := false, renew := false },
                        pairU := { s.pairU with swap := 2, holdoff := true } }
      .next (((s.setPstate Ps.standby).setB ⟨Folio.STATUS Pg.PAIR, 0, 0⟩ false).pwmRefresh.asyAbort 0x06 true).imdRefresh.timeRole
    else .next s
  else .next s

/-- SWAP_DECLINE (R361). -/
def execSwapDecline (edition : Nat) (s : State) : Step :=
  if s.plnkHears edition then
    let s := s.higherEdition edition
    if s.pairU.swap == 1 then
      .next (({ s with pairU := { s.pairU with swap := 0 } }.setF Fld.PAIR_SWAP_STATUS_RESULT 4).galClose Kind.swap false)
    else .next s
  else .next s

/-- SWAP_HOLDOFF_END (R361). -/
def execSwapHoldoffEnd (s : State) : Step :=
  .next (if s.paired then { s with pairU := { s.pairU with holdoff := false } } else s)

/-- SWAP_GRANT_TIMEOUT (R362): the incoming module is not granted within 100 ms of the RELEASE. -/
def execSwapGrantTimeout (s : State) : Step :=
  .next (if s.paired && s.pairU.swap == 2 then s.swapFail 2 false
    else if s.paired && s.pairU.swap == 3 then s.swapFail 2 true else s)

/-- SWAP_DRIVE_TIMEOUT (R362): PWM_ENABLED has not come within 12 ms of the grant. -/
def execSwapDriveTimeout (s : State) : Step :=
  if s.paired && s.pairU.swap == 4 then
    let s := s.driveMsg 0x03 [0x03]
    let s := { s with drv := { s.drv with imprint := false, renew := false } }
    .next ((s.setPstate Ps.standby).pwmRefresh.swapFail 3 true)
  else .next s

/-- LATENT_CLR (R362): the keyed write clears LATENT_FAULT. -/
def execLatentClr (master value : Nat) (s : State) : Step :=
  .next (s.permitKeyed master Reg.PAIR_LATENT_CLR 0x4C19 Ev.SYS_OWNER_DENIED (fun s =>
    if bitOf value 0 then (s.setB Fld.PAIR_STATE_LATENT_FAULT false).toMram Reg.PAIR_STATE else s))

/-! ### Stop requests (R320) -/

/-- STOP_REQ (R320): the holder starts a Full Stop with cause PARTNER_STOP. -/
def execStopReq (edition : Nat) (s : State) : Step :=
  if s.plnkHears edition then
    let s := (s.raise Ev.PAIR_STOP_REQ_RX).higherEdition edition
    .next (if s.pstate == Ps.holder then s.setCause 0x18 else s)
  else .next s

/-- STOP_REQ_TIMEOUT (R320): the standby has not seen the holder enter STOPPING within 2 ms; it pulls both DRIVE_EN lines. -/
def execStopReqTimeout (s : State) : Step :=
  if s.paired && s.safe.stopReqSent && s.cur != Md.stopping then
    .next { s.pullEn with safe := { s.safe with stopReqSent := false } }
  else .next s

end Sys2Proof.Machine
end

