-- ==== Sys2Proof/Machine/Startup.lean ====
section
/-! DEFINITION. *Clocks, Restarts, Start-Up and Addressing* (R64 to R86): the start-up sequence, wakes, clock supervision, the
watchdog, RESET_N, SVC_N, restart requests, the address walk. -/

namespace Sys2Proof.Machine

/-! ### The start-up sequence (R75, R76) -/

/-- Registers take what MRAM, the part, the role strap and the Plant Record give them. -/
def State.loadWords (s : State) (roleB : Bool) : State :=
  let m := s.mram.regs
  let s := mramFlds.foldl (fun (s : State) (f : Fld) => s.setF f (bitsOf (m.get f.addr).toNat f.hi f.lo)) s
  let s := s.setB Fld.MODE_STATE_STOP_LATCH (s.flag Fld.MODE_LATCH_STOP_LATCH)
  let s := s.setB ⟨Folio.STATUS Pg.AUX, 0, 0⟩ (s.getF Fld.AUX_ADDR_STRING_ADDR != 0)
  let s := s.setF Fld.SYS_IDENT_VARIANT (match s.variant with | .F => 0x46 | .A => 0x41 | .C => 0x43)
  let s := s.setF Fld.DRV_CLAIM_SERIAL8 (s.getReg Reg.SYS_SERIAL_LO % 256)
  let s := (s.setB Fld.AUX_ADDR_ROLE roleB).setB Fld.AUX_ADDR_IO_ROLE_SEL roleB
  let s := (s.setB Fld.PAIR_STATE_ROLE roleB).setB Fld.PLNK_LINK_MASTER (!roleB)
  s.setF Fld.PAIR_STATE_PSTATE (if s.pair && s.variant != .C then Ps.init else Ps.solo)

/-- The words that the Plant Record gives (R309, and the register tables), with the values that follow from them. -/
def State.loadRecord (s : State) : State := match s.record with
  | none => s
  | some r =>
    let s := recordFlds.foldl (fun (s : State) (f : Fld) => s.setF f (bitsOf (r.regs.get f.addr).toNat f.hi f.lo)) s
    let s := if r.pair && s.flag Fld.AUX_ADDR_ROLE then s.setF Fld.DRV_CLAIM_PRIORITY r.prioB else s
    let s := safetyFlds.foldl (fun (s : State) (f : Fld × Nat × Nat) =>
      let v := bitsOf (r.regs.get f.1.addr).toNat f.1.hi f.1.lo
      if f.2.1 ≤ v && v ≤ f.2.2 then s.setF f.1 v else s) s
    let s := if (r.regs.get Reg.VOTE_READMIT).toNat == 0 then s
      else s.setF Fld.VOTE_READMIT_ENABLE (bitsOf (r.regs.get Reg.VOTE_READMIT).toNat 16 16)
    let s := (List.range 48).foldl (fun (s : State) (k : Nat) =>
      s.setReg (Reg.MRG_SET_MARGIN 0 + 4 * k) (r.regs.get (Reg.MRG_SET_MARGIN 0 + 4 * k)).toNat) s
    let s := s.setF Fld.ASY_AMPL_AMPL (s.getF Fld.ASY_AMPL_CEIL)
    let s := (s.setB (Fld.CHN_PORT_CTL_ENABLE 1) (s.flag (Fld.CHN_PORT_CTL_ENABLE 1) && !r.pair)).setB Fld.PLNK_LINK_ENABLE r.pair
    let s := (s.setReg Reg.MRG_POL_ICHG (s.getF Fld.MRG_I_MAX_ICHG_MAX * 100)).setReg Reg.MRG_POL_IDIS (s.getF Fld.MRG_I_MAX_IDIS_MAX * 100)
    s.timeRole

/-- A kind boots from its bank, or from the other one where only that is valid (R76, R502); whether either is. -/
def State.bootBank (s : State) (k : Nat) (ok other : Bool) : State × Bool :=
  let a := s.bankNo k
  if ok && (s.bankOf k a).isSome then (s, true)
  else if other && (s.bankOf k (1 - a)).isSome then
    let s := (s.switchBank k (1 - a)).countRegM Reg.UPD_FALLBACKS
    ((s.setF Fld.AUX_START_STATUS_FAULT 0x01).raise Ev.UPD_BANK_FALLBACK, true)
  else (s, false)

/-- What was armed for the next start is activated (R503, R504): SAFE, APP and RECORD where they fit the set that will run. The others
stay READY (R501). -/
def State.activateNext (s : State) : State :=
  let l := s.upd.nextStart.filter (fun (p : Payload) => p.kind == Pk.app || p.kind == Pk.safe || p.kind == Pk.record)
  let good := s.fitting 6 l
  let s := { s with upd := { s.upd with nextStart := [], ready := s.upd.nextStart.filter (fun p => !good.contains p) } }
  let s := ((s.commitLines good).commitSet good).updShow
  let s := (s.galClose Kind.image true).galClose Kind.record true
  if l.isEmpty then s
  else if l.all good.contains then (s.setF Fld.UPD_STATE_RESULT 0x01).raise Ev.UPD_ACTIVATED
  else (s.setF Fld.UPD_STATE_RESULT 0x16).raise Ev.UPD_ACTIVATE_FAIL

/-- Step 4: what the safety complex finds as it starts (R306, R308, row 14 of R27). -/
def State.safetyStart (s : State) (floop : Bool) : State :=
  let s := s.setB Fld.BAL_FLOOP_PRESENT floop
  let woken := s.getF Fld.SYS_RESET_CAUSE_CAUSE == 7 && bitOf (s.getF Fld.SYS_RESET_CAUSE_WAKE_SRC) 7
  let s := if woken then s.setStopLatch 0x01 else s
  let s := if s.mram.power != 0 then s.setStopLatch 0x19 else s
  let s := s.raiseIf s.mram.lockstepSeen Ev.SAFE_LOCKSTEP
  { s with est := { s.est with startPower := s.mram.power }, mram := { s.mram with power := 0, lockstepSeen := false } }

/-- Step 6: the Galley is replayed (R421); discarded slots leave FAULT 0x04. -/
def State.galleyStart (s : State) : State :=
  let n := s.getF Fld.GAL_REPLAY_DISCARDED
  let s := s.discardBad
  let s := if s.getF Fld.GAL_REPLAY_DISCARDED == n then s else s.setF Fld.AUX_START_STATUS_FAULT 0x04
  (s.replay false).galShow

/-- Step 7 begins: without a Plant Record SURVEY follows; else the string is enumerated, in a pair by role A (R113). -/
def State.chainStart (s : State) : State :=
  if s.record.isNone then (s.setF Fld.AUX_START_STATUS_FAULT 0x05).enterSurvey
  else if s.roleB then { s with chain := { s.chain with enum := 1, rejoin := 0 } }.setSched 4
  else s.enumBegin

/-- Steps 5 to 7, once the safety complex runs. -/
def State.appStart (s : State) (appRuns : Bool) : State :=
  let s := match appRuns, s.bankOf Pk.app (s.bankNo Pk.app) with
    | true, some p => (s.setImage p).copyShow
    | _, _ => (s.setF Fld.CYC_STATE_STATE 3).setF Fld.CYC_STATE_STOP_CAUSE 6
  let s := s.raiseIf s.cyc.unsealed Ev.CYC_SHADOW_INVALID
  let s := { s with cyc := { s.cyc with unsealed := false } }
  (s.galleyStart.setF Fld.AUX_START_STATUS_STEP 6).chainStart

/-- Steps 1 and 2 of R75: time counts from here, the state that activation set for the next start is taken, the words of the
Plant Record and MRAM are loaded, a clock fault of the last run and a closed service input are reported. -/
def State.resetStart (s : State) (boot : BootResult) : State :=
  let m := { s.mram with regs := s.mram.regs.set Reg.SYS_HOURS (BitVec.ofNat 32
    (satU 32 ((s.mram.regs.get Reg.SYS_HOURS).toNat + s.localNs / 1000000000))) }
  let s := { s with mram := m, ticks := 0, phase := .starting }
  let s := s.activateNext.loadWords boot.roleB
  let s := (s.setReg Reg.SEQ_LAST (s.getReg Reg.SEQ_NEXT + 65535)).setB ⟨Folio.STATUS Pg.CLK, 0, 0⟩ true
  let s := { (s.raiseIf s.aux.faultSeen Ev.CLK_CLK_FAULT_SEEN) with aux := { s.aux with faultSeen := false, svcIgnore := boot.svcClosed } }
  let s := if boot.svcClosed then (s.setB Fld.AUX_SVC_HELD_AT_START true).raise Ev.AUX_SVC_HELD_AT_START else s
  (s.setF Fld.MODE_STATE_PREV (if s.getF Fld.SYS_RESET_CAUSE_CAUSE == 7 then 1 else 2)).setF Fld.AUX_START_STATUS_STEP 2

/-- The self-test of step 4 fails (R76): a fault restart, but for one that three within ten minutes precede; communication then takes
its settings from the Plant Record all the same. -/
def State.selfTestFails (s : State) : State :=
  let now := s.hours
  let early := s.aux.step4.filter (fun t => now ≤ t + 600)
  let s := { (s.setF Fld.AUX_START_STATUS_FAULT 0x03) with aux := { s.aux with step4 := now :: early } }
  if early.length < 3 then s.enterReset 4 0 else s.loadRecord

/-- Steps 3 to 6 of R75, once the banks have been checked: the boot ROM keeps the module where no safety image is valid. -/
def State.resetGo (s : State) (boot : BootResult) (safe app : Bool) : State :=
  if !safe then { (s.setF Fld.AUX_START_STATUS_FAULT 0x02) with phase := .bootHalt }
  else if !boot.selfTestOk then (s.setF Fld.AUX_START_STATUS_STEP 3).selfTestFails
  else (((s.setF Fld.AUX_START_STATUS_STEP 3).loadRecord.safetyStart boot.floopPresent).setF Fld.AUX_START_STATUS_STEP 5).appStart app

/-- RESET_RELEASE (R75, R76): reset is released with a lock of the PLL, and the start-up sequence runs to the enumeration, or,
without a Plant Record, to SURVEY. -/
def execResetRelease (boot : BootResult) (s : State) : Step :=
  if s.phase != .held || s.aux.hold != 0 || !s.flag Fld.CLK_PLL_LOCKED then .next s
  else
    let (s, safe) := (s.resetStart boot).bootBank Pk.safe boot.safeOk boot.safeOtherOk
    let (s, app) := s.bootBank Pk.app boot.appOk boot.appOtherOk
    .next ((s.setReg Reg.UPD_SAFE_VERSION (((s.bankOf Pk.safe (s.bankNo Pk.safe)).map (·.version)).getD 0)).resetGo boot safe app)

/-- PLL_LOCK_RETRY (R76): 10 ms after release, and every 100 ms after, the PLL is found locked or not. -/
def execPllLockRetry (locked : Bool) (s : State) : Step :=
  .next (if s.phase == .held then (s.setB Fld.CLK_PLL_LOCKED locked).setB ⟨Folio.STATUS Pg.CLK, 0, 0⟩ locked else s)

/-! ### Supply and RESET_N (R70, R71) -/

/-- POWER_ON (R70): the supply has been at 17.5 V or more for 10 ms. -/
def execPowerOn (s : State) : Step :=
  if s.phase == .held && bitOf s.aux.hold 0 then
    let n := satU 32 ((s.mram.regs.get Reg.SYS_POWER_CYCLES).toNat + 1)
    let m := { s.mram with regs := s.mram.regs.set Reg.SYS_POWER_CYCLES (BitVec.ofNat 32 n) }
    let s := { s with mram := m, ticks := 0, aux := { s.aux with hold := putBit s.aux.hold 0 false } }
    .next (s.setF Fld.SYS_RESET_CAUSE_CAUSE 0x1)
  else .next s

/-- RESET_N_ASSERT (R71): RESET_N has been low for 10 µs. -/
def execResetNAssert (s : State) : Step :=
  let h := putBit s.aux.hold 1 true
  let s := if s.phase == .held then s else s.enterReset 2 0
  .next { s with aux := { s.aux with hold := h } }

/-- RESET_N_RELEASE (R71): the module starts with cause 0x2. -/
def execResetNRelease (s : State) : Step :=
  if s.phase == .held && bitOf s.aux.hold 1 then
    let s := (s.setF Fld.SYS_RESET_CAUSE_CAUSE 0x2).setF Fld.SYS_RESET_CAUSE_WAKE_SRC 0
    .next { s with aux := { s.aux with hold := putBit s.aux.hold 1 false } }
  else .next s

/-! ### Wakes (R40, R65) -/

/-- A wake source that WAKE_EN enables wakes the module from DORMANT. -/
def State.wakeBy (s : State) (bit : Nat) : State :=
  if s.phase == .dormant && bit < 8 && (bit == 7 || bitOf (s.getReg Reg.MODE_WAKE_EN) bit) then s.wakeUp bit else s

/-- WAKE (R40): a wake source, by its bit of MODE.WAKE_EN. -/
def execWake (source : Nat) (s : State) : Step := .next (s.wakeBy source)

/-- WAKE_TIMER_EXPIRY (R41): WAKE_TIMER seconds after the entry to DORMANT; 0 disables. -/
def execWakeTimerExpiry (s : State) : Step := .next (if s.getReg Reg.MODE_WAKE_TIMER == 0 then s else s.wakeBy 3)

/-- WAKE_OSC_CHECK (R65): the count over the first 100 ms after a wake's PLL lock against the nominal 3,276.8. -/
def execWakeOscCheck (count : Nat) (s : State) : Step :=
  if s.live && s.aux.oscCheck then
    let s := { s with aux := { s.aux with oscCheck := false } }
    .next (s.raiseIf (decide (32768 < 100 * ((10 * count : Int) - 32768).natAbs)) Ev.CLK_WAKE_OSC_FAULT)
  else .next s

/-! ### Clock supervision and the watchdog (R66, R67) -/

/-- PLL_UNLOCK (R66): the monitor is armed from step 2 on, in the boot ROM too. -/
def execPllUnlock (s : State) : Step := .next (if s.live || s.phase == .bootHalt then s.faultReset 4 0 1 else s)

/-- ROOT_DRIFT (R66): abs(ROOT_PPB) has been above DRIFT_LIM for 10 s. -/
def execRootDrift (s : State) : Step :=
  let p := s.getReg Reg.CLK_ROOT_PPB
  .next (s.raiseIf (s.live && p != 0x80000000 && decide ((s.getReg Reg.CLK_DRIFT_LIM) < (sInt 32 p).natAbs)) Ev.CLK_ROOT_DRIFT)

/-- The watchdog is serviced. -/
def State.kicked (s : State) (v : Nat) : State :=
  { s with cyc := { s.cyc with kick := v }, aux := { s.aux with kickNs := s.localNs } }

/-- The value that services the watchdog next. -/
def State.kickNext (s : State) : Nat := if s.cyc.kick == 0x55AA then 0xAA55 else 0x55AA

/-- WDG_KICK (R67): the two cores alone service the watchdog. -/
def execWdgKick (master value : Nat) (s : State) : Step :=
  if !s.live then .next s
  else if 2 ≤ master then .next ((s.raise Ev.SYS_OWNER_DENIED).recordErr master Reg.CLK_WDG_KICK St.ownerDenied)
  else if value % 65536 == s.kickNext then .next (s.kicked (value % 65536))
  else .next (s.faultReset 3 0 5)

/-- WDG_EXPIRY (R67): armed from step 2 on, in the boot ROM too. -/
def execWdgExpiry (s : State) : Step := .next (if s.live || s.phase == .bootHalt then s.faultReset 3 0 4 else s)

/-! ### Restart requests (R72 to R74) -/


/-- A cold restart: the program shadow and the retentive variables are invalidated (R68). -/
def State.restartCold (s : State) : State :=
  ({ s with cyc := { s.cyc with shadow := none, retains := [], restart := none, writing := none } }).enterReset 6 0

/-- A restart is asked for (R74): the request waits in the Compositor as an informational event; of two that wait, the first counts
(assumption log 111). -/
def State.restartReq (s : State) (cold : Bool) : State :=
  ({ s with aux := { s.aux with restartWait := some (s.aux.restartWait.getD cold) } }).raiseInt Pg.AUX 40 5

/-- The grant of a restart request (R74): only POWER OFF permits it. -/
def State.restartGranted (s : State) : State := match s.aux.restartWait with
  | some cold =>
    let s := { s with aux := { s.aux with restartWait := none } }
    if s.power != 0 then s.raise Ev.AUX_RESTART_REFUSED else if cold then s.restartCold else s.restartWarm
  | none => s

/-- SVC_DEBOUNCED_CLOSE (R72, R73): a press, or in DORMANT a wake. While a closure present at the start is ignored PRESSED stays 0
(assumption log 111). -/
def execSvcDebouncedClose (s : State) : Step :=
  if s.phase == .dormant then .next (s.wakeBy 2)
  else .next (if s.live && !s.aux.svcIgnore then s.setB Fld.AUX_SVC_PRESSED true else s)

/-- SVC_DEBOUNCED_OPEN (R72, R73): the press ends, with its length in ms. -/
def execSvcDebouncedOpen (pressMs : Nat) (s : State) : Step :=
  if !s.live then .next s
  else if s.aux.svcIgnore then
    .next ({ s with aux := { s.aux with svcIgnore := false } }.setB Fld.AUX_SVC_HELD_AT_START false)
  else if !s.flag Fld.AUX_SVC_PRESSED then .next s
  else
    let s := ((s.setB Fld.AUX_SVC_PRESSED false).setB Fld.AUX_SVC_STUCK false).setF Fld.AUX_SVC_LAST_PRESS (satU 16 pressMs)
    .next (if pressMs < 3000 then (s.raise Ev.AUX_SVC_WARM).restartReq false
      else if pressMs ≤ 8000 then (s.raise Ev.AUX_SVC_COLD).restartReq true
      else s)

/-- SVC_STUCK (R72): the press passes 8 s. -/
def execSvcStuck (s : State) : Step :=
  .next (if s.live && s.flag Fld.AUX_SVC_PRESSED && !s.flag Fld.AUX_SVC_STUCK then
    (s.setB Fld.AUX_SVC_STUCK true).raise Ev.AUX_SVC_STUCK else s)

/-- RESTART_WARM (R74): the keyed AUX.RESTART with 0x5. -/
def execRestartWarm (master : Nat) (s : State) : Step :=
  .next (s.permitKeyed master Reg.AUX_RESTART 0x7E44 Ev.SYS_OWNER_DENIED (fun s => s.restartReq false))

/-- RESTART_COLD (R74): the keyed AUX.RESTART with 0x6. -/
def execRestartCold (master : Nat) (s : State) : Step :=
  .next (s.permitKeyed master Reg.AUX_RESTART 0x7E44 Ev.SYS_OWNER_DENIED (fun s => s.restartReq true))

/-! ### The address walk (R77 to R82) and the pins -/

/-- The string address changes, in MRAM and in AUX.STATUS. -/
def State.putAddr (s : State) (a : Nat) : State :=
  ((s.setFM Fld.AUX_ADDR_STRING_ADDR a).setB ⟨Folio.STATUS Pg.AUX, 0, 0⟩ (a != 0)).raise
    (if a == 0 then Ev.AUX_ADDR_CLEARED else Ev.AUX_ADDR_TAKEN)

/-- ADDR_SET (R85): the keyed write of the string address. With POWER not OFF the write is refused whatever its value (assumption
log 111). -/
def execAddrSet (master value : Nat) (s : State) : Step :=
  .next (s.permitKeyed master Reg.AUX_ADDR_SET 0x2D91 Ev.SYS_OWNER_DENIED (fun s =>
    if s.power != 0 then s.raise Ev.AUX_RESTART_REFUSED
    else if 120 < value % 128 then s
    else s.putAddr (value % 128)))

/-- A CAN controller carries the walk. -/
def State.walkBus (s : State) (can : Nat) : Bool := s.live && can < 2 && bitOf (s.getF Fld.AUX_WALK_CTL_BUS) can

/-- The module requests its TAKEN on a CAN controller (R79): buffer 29, the one that needs no address. -/
def State.sendTaken (s : State) (can : Nat) : State :=
  let topo := if s.record.isNone then 0xFF else b2n s.pair
  s.moduleTx can 29 (0x400 + s.addr) 0 ([0x81, s.addr, s.getF Fld.AUX_ADDR_ROLE, topo]
    ++ beBytes 4 (s.getReg Reg.SYS_SERIAL_HI) ++ beBytes 4 (s.getReg Reg.SYS_SERIAL_LO))

/-- An OFFER arrives: it is counted, and waits in the Compositor as data arrival (R80). -/
def State.offerIn (s : State) (can address : Nat) : State :=
  if !s.walkBus can then s
  else
    let s := s.countF Fld.AUX_ADDR_OFFERS
    ({ s with aux := { s.aux with offers := s.aux.offers ++ [(can, address)] } }).raiseInt Pg.AUX 42 2

/-- An OFFER is taken by an enabled module without an address whose ADDR_IN is asserted; role B waits for its partner's TAKEN, but in
a solo module (R79). -/
def State.offerTake (s : State) (can address : Nat) : State :=
    if s.flag Fld.AUX_WALK_CTL_ENABLE && s.addr == 0 && s.flag Fld.AUX_ADDR_IO_ADDR_IN && 1 ≤ address && address ≤ 120 then
      let s := ((s.putAddr address).setB Fld.AUX_ADDR_IO_ADDR_OUT true).emit .pin 0x20 [1]
      if (s.pair || s.record.isNone) && s.getF Fld.AUX_ADDR_ROLE == 1 then { s with aux := { s.aux with takenWait := some can } }
      else s.sendTaken can
    else s

/-- The grant of OFFERs (R79, R80): each sees ADDR_IN as granted before. -/
def State.offersGranted (s : State) : State :=
  s.aux.offers.foldl (fun (s : State) (x : Nat × Nat) => s.offerTake x.1 x.2) { s with aux := { s.aux with offers := [] } }

/-- A CLEAR is obeyed while POWER is OFF (R80). -/
def State.clearIn (s : State) (can byte1 byte2 : Nat) : State :=
  if s.walkBus can && byte1 == 0xC1 && byte2 == 0xEA && s.power == 0 then
    let s := ((s.putAddr 0).setB Fld.AUX_ADDR_IO_ADDR_OUT false).emit .pin 0x20 [0]
    { s with aux := { s.aux with takenWait := none } }
  else s

/-- A TAKEN that role B holds back is sent. -/
def State.takenNow (s : State) : State := match s.aux.takenWait with
  | some can => { s with aux := { s.aux with takenWait := none } }.sendTaken can
  | none => s

/-- A TAKEN comes from the partner: it has the serial number known as the partner's; while none is known, the other role in a string
that is not known to be solo, whose serial number is then taken up (assumption log 111). -/
def State.fromPartner (s : State) (role topology serialHi serialLo : Nat) : Bool :=
  if s.getReg Reg.PAIR_PARTNER_SERIAL_HI == 0 && s.getReg Reg.PAIR_PARTNER_SERIAL_LO == 0 then
    (s.pair || s.record.isNone) && topology != 0 && role == 1 - s.getF Fld.AUX_ADDR_ROLE
  else serialHi == s.getReg Reg.PAIR_PARTNER_SERIAL_HI && serialLo == s.getReg Reg.PAIR_PARTNER_SERIAL_LO

/-- A received TAKEN: the partner's lets role B send its own; another module's with this address is a conflict (R79, R81). -/
def State.takenIn (s : State) (can address role topology serialHi serialLo : Nat) : State :=
  if !s.walkBus can || address != s.addr || s.addr == 0 then s
  else
    let own := serialHi == s.getReg Reg.SYS_SERIAL_HI && serialLo == s.getReg Reg.SYS_SERIAL_LO
    if own then s
    else if s.fromPartner role topology serialHi serialLo then
      ((s.setReg Reg.PAIR_PARTNER_SERIAL_HI serialHi).setReg Reg.PAIR_PARTNER_SERIAL_LO serialLo).takenNow
    else s.raise Ev.AUX_ADDR_CONFLICT

/-- OFFER (R79). -/
def execOffer (can address : Nat) (s : State) : Step := .next (s.offerIn can address)

/-- CLEAR (R80). -/
def execClearAddr (can byte1 byte2 : Nat) (s : State) : Step := .next (s.clearIn can byte1 byte2)

/-- END (R78): the walk is over; the module keeps its address and its ADDR_OUT. -/
def execEndWalk (_can : Nat) (s : State) : Step := .next s

/-- TAKEN (R79, R81). -/
def execTaken (can address role topology serialHi serialLo : Nat) (s : State) : Step :=
  .next (s.takenIn can address role topology serialHi serialLo)

/-- TAKEN_TIMEOUT (R79): 20 ms after the OFFER. -/
def execTakenTimeout (s : State) : Step := .next (if s.live then s.takenNow else s)

/-- ADDR_IN_CHANGE (R80): the debounced ADDR_IN changes; the change is an informational event. -/
def execAddrInChange (level : Bool) (s : State) : Step :=
  .next (if s.live then ({ s with aux := { s.aux with addrInNext := level } }).raiseInt Pg.AUX 41 5 else s)

/-- ROLE_SEL_SAMPLE (R82): every 1 s. -/
def execRoleSelSample (roleB : Bool) (s : State) : Step :=
  if s.live then
    .next ((s.setB Fld.AUX_ADDR_IO_ROLE_SEL roleB).raiseIf (s.flag Fld.AUX_ADDR_ROLE != roleB) Ev.AUX_ROLE_SEL_CHANGED)
  else .next s

/-- GPIO_CHANGE (R86): a pin takes a level; an input that changes raises the event. GPIO_IN, which has no reset value, reads 0 from a
reset to a pin's first change (assumption log 111). -/
def execGpioChange (pin : Nat) (level : Bool) (s : State) : Step :=
  if s.live && pin < 4 then
    let old := s.getReg Reg.AUX_GPIO_IN
    let input := !bitOf (s.getReg Reg.AUX_GPIO_DIR) pin
    .next ((s.setReg Reg.AUX_GPIO_IN (putBit old pin level)).raiseIf (input && bitOf old pin != level) Ev.AUX_GPIO_CHANGE)
  else .next s

end Sys2Proof.Machine
end

