-- ==== Sys2Proof/Machine/Can.lean ====
section
/-! DEFINITION. *The CAN FD Message Bus* (R444 to R468): transmission, launch times, the module's messages, reception through
the filter store into the queues, errors and bus off. -/

namespace Sys2Proof.Machine

/-! ### Controller state -/

/-- The code in CTL.MODE (R446). -/
def State.canMode (s : State) (n : Nat) : Nat := s.getF (Fld.CAN_CTL_MODE n)

/-- ERR.STATE of a controller: 3 BUS_OFF, 4 RECOVERING. -/
def State.canErr (s : State) (n : Nat) : Nat := s.getF (Fld.CAN_ERR_STATE n)

/-- The error counters take values (R461, R462): the state they put the controller in, with an event for each counter that reaches
96 or exceeds 127; above 255 bus off, and with BUSOFF_AUTO the recovery at once. -/
def State.errCount (s : State) (n tec rec : Nat) : State :=
  let oldT := s.getF (Fld.CAN_ERR_TEC n)
  let oldR := s.getF (Fld.CAN_ERR_REC n)
  let new := max tec rec
  let s := (s.setF (Fld.CAN_ERR_TEC n) (satU 8 tec)).setF (Fld.CAN_ERR_REC n) (satU 8 rec)
  let s := s.raiseIf ((oldT < 96 && 96 ≤ tec) || (oldR < 96 && 96 ≤ rec)) (Ev.CAN_ERR_WARNING n)
  let s := s.raiseIf ((oldT < 128 && 128 ≤ tec) || (oldR < 128 && 128 ≤ rec)) (Ev.CAN_ERR_PASSIVE n)
  if 255 < tec then
    let s := (s.setF (Fld.CAN_ERR_STATE n) 3).raise (Ev.CAN_BUS_OFF n)
    if s.flag (Fld.CAN_CTL_BUSOFF_AUTO n) then (s.setF (Fld.CAN_ERR_STATE n) 4).setReg (Reg.CAN_RECOVERY n) 0 else s
  else s.setF (Fld.CAN_ERR_STATE n) (if new < 96 then 0 else if new < 128 then 1 else 2)

/-! ### Reception -/

/-- A frame's data length in bytes. -/
def frameLen (f : CanFrame) : Nat := if f.rtr then 0 else lenOfDlc f.fdf (f.dlc % 16)

/-- A frame's data, as many bytes as its DLC says. -/
def frameData (f : CanFrame) : List Nat :=
  ((f.data.map (· % 256)) ++ List.replicate 64 0).take (frameLen f)

/-- A filter element matches a frame (R454). -/
def elemMatches (w0 w1 : Nat) (f : CanFrame) : Bool :=
  let t := bitsOf w0 31 30
  let id1 := bitsOf w0 28 0
  let id2 := bitsOf w1 28 0
  bitOf w0 29 == f.xtd &&
  (if t == 1 then id1 ≤ f.id && f.id ≤ id2
   else if t == 2 then f.id == id1 || f.id == id2
   else if t == 3 then (f.id &&& id2) == (id1 &&& id2)
   else false)

/-- Where filter element `e` lies (R43, R454). -/
def elemAddr (e : Nat) : Nat := 0x50010000 + 8 * e

/-- The elements of a controller's span in scan order (R456). -/
def State.span (s : State) (n : Nat) : List Nat :=
  let w := s.getReg (Reg.FLT_SPAN0 + 4 * n)
  (List.range (min 4096 (bitsOf w 28 16))).map (fun k => (bitsOf w 11 0 + k) % 4096)

/-- The filter decides a frame (R456): its action and the element that matched, with the counts of the FLT page. An element committed in
the same cycle still counts as it was (R455). -/
def State.filterFrame (s : State) (n : Nat) (f : CanFrame) : Nat × Nat × State :=
  if f.rtr && s.flag Fld.FLT_GLOBAL_REMOTE_REJ then (0, 0xFFF, s)
  else match (s.span n).find? (fun e => elemMatches (s.before (elemAddr e)) (s.before (elemAddr e + 4)) f) with
  | some e =>
    let s := (s.countReg Reg.FLT_HITS).setReg Reg.FLT_HIT_LAST (n * 2 ^ 31 + e)
    (bitsOf (s.before (elemAddr e + 4)) 31 29, e, s)
  | none =>
    (s.getF (if n == 0 then Fld.FLT_GLOBAL_NOMATCH0 else Fld.FLT_GLOBAL_NOMATCH1), 0xFFF, s.countReg Reg.FLT_NOMATCHES)

/-- The entry that a frame leaves in a queue (R447). -/
def entryOf (f : CanFrame) (elem : Nat) (fixed : Bool) : RxEntry :=
  { w0 := f.id % 2 ^ 29 + 2 ^ 29 * b2n f.xtd + 2 ^ 30 * b2n f.rtr
    w1 := f.dlc % 16 + 16 * b2n f.fdf + 32 * b2n f.brs + 64 * b2n f.esi + 65536 * elem + 2 ^ 28 * b2n fixed
    w2 := f.sofNs % 2 ^ 32
    w3 := f.sofNs / 2 ^ 32 % 2 ^ 32
    data := frameData f }

/-- A receive queue of a controller. -/
def State.queue (s : State) (n q : Nat) : RxQueue := ((s.canU n).rxq[q]?).getD ⟨[], none, false⟩

/-- A receive queue takes a value; FILL follows. -/
def State.setQueue (s : State) (n q : Nat) (r : RxQueue) : State :=
  (s.setCan n (fun u => { u with rxq := u.rxq.set q r })).setF (Fld.CAN_RXQ_STAT_FILL n q) r.entries.length

/-- What the host did in the present CLK_FAB cycle, after which the Compositor puts the bus's own events of that cycle (R464): an
RXQ_ACK that found the queue empty, one that released its head, a TXB_CANCEL of a pending buffer, a TXB_REQ of a pending one. -/
abbrev ackEmptyKey (n q : Nat) : Nat := 2048 + 4 * n + q
abbrev ackHeadKey (n q : Nat) : Nat := 2064 + 4 * n + q
abbrev cancelKey (n b : Nat) : Nat := 2112 + 32 * n + b
abbrev rearmKey (n b : Nat) : Nat := 2176 + 32 * n + b

/-- The head of a queue is released. -/
def State.release (s : State) (n q : Nat) : State :=
  s.setQueue n q { s.queue n q with entries := (s.queue n q).entries.tail, lock := none }

/-- A frame enters a queue, or is dropped where the queue is full (R460). An RXQ_ACK of the same cycle comes after it (R464). -/
def State.storeFrame (s : State) (n q : Nat) (e : RxEntry) : State :=
  let r := s.queue n q
  let acked := s.arrivedNow (ackHeadKey n q)
  if s.getF (Fld.CAN_RXQ_CFG_DEPTH n q) ≤ r.entries.length + b2n acked then
    let s := (s.countRc (Fld.CAN_RXQ_STAT_LOST n q)).raiseIf (!r.dropping) (Ev.CAN_RXQ_OVERFLOW n)
    s.setQueue n q { r with dropping := true }
  else
    let s := s.setQueue n q { r with entries := r.entries ++ [e], dropping := false }
    let s := if r.entries.isEmpty && !acked then s.raiseA (Ev.CAN_RX_NEW n) q else s
    if s.arrivedNow (ackEmptyKey n q) && r.entries.isEmpty then s.release n q else s

/-- A time reference from the accepted master (R453): the offset of the one before, where none is missing between. -/
def State.trefIn (s : State) (n : Nat) (f : CanFrame) : State :=
  let d := frameData f
  if d.length < 12 then s
  else
    let k := d.headD 0
    let sent := ofBe ((d.drop 4).take 8)
    let was := (s.canU n).trefLast
    let s := s.setCan n (fun u => { u with trefLast := some (k, f.sofNs), trefNs := some s.localNs })
    match was with
    | some (j, rx) =>
      if k == (j + 1) % 256 then
        (s.setReg (Reg.CAN_TREF_OFS_NS n) (toU 32 ((rx : Int) - sent - (s.getReg (Reg.CAN_TREF_DLY_NS n) : Nat)))).raise (Ev.CAN_TREF_RX n)
      else s
    | none => s

/-- The module's own receptions (R457): what they do, and whether the frame is one of them. -/
def State.fixedFrame (s : State) (n : Nat) (f : CanFrame) : State × Bool :=
  let d := frameData f
  let b := fun (i : Nat) => (d[i]?).getD 0
  if f.xtd || f.rtr then (s, false)
  else if f.id == 0x47F then
    (if d.isEmpty then s
     else if b 0 == 1 then s.offerIn n (b 1)
     else if b 0 == 2 then s.clearIn n (b 1) (b 2)
     else s, true)
  else if 0x400 ≤ f.id && f.id ≤ 0x478 then
    (if b 0 == 0x81 && 12 ≤ d.length then s.takenIn n (b 1) (b 2) (b 3) (ofBe ((d.drop 4).take 4)) (ofBe ((d.drop 8).take 4)) else s, true)
  else if (f.id == 0x0FF || (s.addr != 0 && f.id == 0x080 + s.addr)) && b 0 == 0x10 then
    let s := s.raise (Ev.CAN_CONNECT_ACK n)
    (if b 1 == 1 then s.connectAck true else if b 1 == 0 then s.connectAck false else s, true)
  else if s.flag (Fld.CAN_TREF_CTL_SLAVE n) && f.id == 0x180 + s.getF (Fld.CAN_TREF_CTL_MASTER_ADDR n) then (s.trefIn n f, true)
  else (s, false)

/-- A frame is received without error (R456, R457): counters, the module's own receptions, the filter, the queue. A REC
above 127 falls to a free value of 119 to 127, as ISO 11898-1 has it (assumption log 93). -/
def State.receive (s : State) (n : Nat) (f : CanFrame) : State :=
  let s := s.countReg (Reg.CAN_FRAMES_RX n)
  let rec0 := s.getF (Fld.CAN_ERR_REC n)
  let s := if rec0 == 0 then s
    else if rec0 < 128 then s.errCount n (s.getF (Fld.CAN_ERR_TEC n)) (rec0 - 1)
    else (s.errCount n (s.getF (Fld.CAN_ERR_TEC n)) (119 + Config.freeValue s.freeCtr % 9)).fresh
  let (s, fixed) := s.fixedFrame n f
  let (act, e, s) := s.filterFrame n f
  if 1 ≤ act && act ≤ 4 then s.storeFrame n (act - 1) (entryOf f e fixed) else s

/-- CAN_RX_FRAME (R456): a controller that receives takes a frame. -/
def execCanRxFrame (can : Nat) (f : CanFrame) (s : State) : Step :=
  let m := s.canMode can
  .next (if s.live && can < 2 && 1 ≤ m && m ≤ 3 && s.canErr can < 3 then s.receive can f else s)

/-! ### The heads of the queues (R458, R459) -/

/-- Word `k` of a queue's head; 0 where the queue is empty. -/
def State.headWord (s : State) (n q k : Nat) : Nat := match (s.queue n q).entries.head? with
  | none => 0
  | some e =>
    if k == 0 then e.w0 else if k == 1 then e.w1 else if k == 2 then e.w2 else if k == 3 then e.w3
    else ofLe ((e.data.drop (4 * (k - 4))).take 4)

/-- A master reads word `k` of a queue's head: in LAST_WORD mode word 0 locks it, the owner's read of its last data word releases it. -/
def State.headRead (s : State) (n q master k : Nat) : State :=
  let r := s.queue n q
  if !s.flag (Fld.CAN_RXQ_CFG_LAST_WORD n q) then s
  else match r.entries.head? with
  | none => s
  | some e =>
    let mine := match r.lock with
      | some (m, _) => m == master
      | none => k == 0
    if !mine then s
    else
      let s := s.setQueue n q { r with lock := some (master, s.localNs) }
      if k == 3 + (e.data.length + 3) / 4 then s.release n q else s

/-- RXQ_HEAD_READ (R459). -/
def execRxqHeadRead (can master queue word : Nat) (s : State) : Step :=
  if s.live && can < 2 && queue < 4 && word < 20 then
    .next ((s.headRead can queue master word).emit .reply master [Reg.CAN_RXQ can queue + 4 * word, s.headWord can queue word])
  else .next s

/-- RXQ_LOCK_EXPIRY (R459): 10 ms without a read by the lock's master. -/
def execRxqLockExpiry (can queue : Nat) (s : State) : Step :=
  let r := s.queue can queue
  .next (match r.lock with
    | some (_, t) => if s.live && t + 10000000 ≤ s.localNs then s.setQueue can queue { r with lock := none } else s
    | none => s)

/-- RXQ_ACK takes a value: in ACK mode each bit releases the head of its queue. -/
def State.rxqAck (s : State) (n value : Nat) : State :=
  [0, 1, 2, 3].foldl (fun (s : State) (q : Nat) =>
    if !bitOf value q || s.flag (Fld.CAN_RXQ_CFG_LAST_WORD n q) then s
    else if (s.queue n q).entries.isEmpty then s.arrive (ackEmptyKey n q)
    else (s.release n q).arrive (ackHeadKey n q)) s

/-- RXQ_ACK (R458). -/
def execRxqAck (can master value : Nat) (s : State) : Step :=
  .next (s.permit master (Reg.CAN_RXQ_ACK can) (fun s => s.rxqAck can value))

/-! ### The filter store (R455) -/

/-- A write to word 0 of an element commits both words, unless the held ACTION is reserved. -/
def State.filterCommit (s : State) (e word : Nat) : State :=
  let w1 := (s.fltHeld.get e).toNat
  if 5 ≤ bitsOf w1 31 29 then s.raise Ev.FLT_ELEM_REFUSED
  else (s.occur (elemAddr e) (fun _ => word)).occur (elemAddr e + 4) (fun _ => w1)

/-- FILTER_COMMIT (R455). -/
def execFilterCommit (master elem word : Nat) (s : State) : Step :=
  .next (if elem < 4096 then s.permitAt master (elemAddr elem) Pg.FLT (fun s => s.filterCommit elem word) else s)

/-! ### Transmission (R447 to R449) -/

/-- A buffer may start a frame (R448); without a string address only TAKEN, in buffer 29, reaches the bus (R77). -/
def State.eligible (s : State) (n b : Nat) : Bool :=
  s.txPend n b && (s.addr != 0 || b == 29 || s.canMode n == 4) && (!bitOf (s.txWord n b 1) 8 || bitOf (s.canU n).due b)
  && (!bitOf (s.txWord n b 1) 4 || s.flag (Fld.CAN_CTL_FD_EN n))

/-- How an identifier word ranks (R448): 11 bits against 11, base first at equality. -/
def idRank (w0 : Nat) : Nat :=
  let id := bitsOf w0 28 0
  if bitOf w0 29 then (id / 2 ^ 18) * 2 ^ 19 + 2 ^ 18 + id % 2 ^ 18 else (id % 2 ^ 11) * 2 ^ 19

/-- The buffer that the controller offers next: the lowest identifier, then the lower number. -/
def State.winner (s : State) (n : Nat) : Option Nat :=
  ((List.range 32).filter (fun b => s.eligible n b)).foldl (fun (m : Option Nat) (b : Nat) => match m with
    | none => some b
    | some x => if idRank (s.txWord n b 0) < idRank (s.txWord n x 0) then some b else some x) none

/-- A launch buffer is late (R448): withdrawn, or sent with LATE set; its bit in TXB_LATE, TX_LATE. -/
def State.txLate (s : State) (n b : Nat) : State :=
  let w1 := s.txWord n b 1
  let s := if bitOf w1 9 then s.setB ⟨Reg.CAN_TXB_PEND n, b, b⟩ false
    else (s.setReg (Reg.CAN_TXB n b + 4) (putBit w1 12 true)).setCan n (fun u => { u with due := putBit u.due b true })
  (s.occurBit (Reg.CAN_TXB_LATE n) b).raise (Ev.CAN_TX_LATE n)

/-- A launch time is first considered (R438): one that is not in the future is late. -/
def State.txConsider (s : State) (n b : Nat) : State :=
  let w1 := s.txWord n b 1
  if bitOf w1 8 && !s.future (s.txWord n b 2) then
    (if bitOf w1 9 then s else s.launchLate).txLate n b
  else s

/-- TXB_REQ takes a value (R447, R449): each bit requests a host buffer; module buffers are denied. -/
def State.txbReq (s : State) (n value : Nat) : State :=
  let s := s.raiseIf (2 ^ 24 ≤ value % 2 ^ 32) (Ev.CAN_TX_DENIED n)
  (List.range 24).foldl (fun (s : State) (b : Nat) =>
    if bitOf value b && !s.txPend n b then
      let s := s.setReg (Reg.CAN_TXB n b + 4) (putBit (s.txWord n b 1) 12 false)
      (s.txRequest n b).txConsider n b
    else if bitOf value b then s.arrive (rearmKey n b)
    else s) s

/-- TXB_REQ (R447). -/
def execTxbReq (can master value : Nat) (s : State) : Step :=
  .next (s.permit master (Reg.CAN_TXB_REQ can) (fun s => s.txbReq can value))

/-- TXB_CANCEL takes a value (R465): pending host buffers are withdrawn. -/
def State.txbCancel (s : State) (n value : Nat) : State :=
  let s := (List.range 24).foldl (fun (s : State) (b : Nat) =>
    if bitOf value b && s.txPend n b then s.arrive (cancelKey n b) else s) s
  s.setReg (Reg.CAN_TXB_PEND n) (s.getReg (Reg.CAN_TXB_PEND n) &&& (0xFFFFFFFF ^^^ (value % 2 ^ 24)))

/-- TXB_CANCEL (R465). -/
def execTxbCancel (can master value : Nat) (s : State) : Step :=
  .next (s.permit master (Reg.CAN_TXB_CANCEL can) (fun s => s.txbCancel can value))

/-- CAN_LAUNCH_DUE (R438, R448): the launch time of a pending buffer has come in this tick, or has been passed over by a step of
the count, which makes the buffer late. -/
def execCanLaunchDue (can buf : Nat) (s : State) : Step :=
  let w1 := s.txWord can buf 1
  let l := s.txWord can buf 2
  if !(s.live && can < 2 && buf < 32 && s.txPend can buf && bitOf w1 8 && !bitOf (s.canU can).due buf && !s.future l) then .next s
  else if decide (s.sinceLaunch l ≤ 4) then .next (s.setCan can (fun u => { u with due := putBit u.due buf true }))
  else .next (s.txConsider can buf)

/-- CAN_LATE_WINDOW (R448): a pending launch buffer has not begun SOF by L + LATE_WIN_US. -/
def execCanLateWindow (can buf : Nat) (s : State) : Step :=
  let w1 := s.txWord can buf 1
  let win : Nat := 1000 * (s.getReg (Reg.CAN_LATE_WIN_US can) % 65536)
  .next (if s.live && can < 2 && buf < 32 && s.txPend can buf && bitOf w1 8 && !bitOf w1 12
      && decide ((win : Int) ≤ s.sinceLaunch (s.txWord can buf 2)) then s.txLate can buf else s)

/-- The frame that a buffer sends. -/
def State.txFrame (s : State) (n b sofNs : Nat) : CanFrame :=
  let w0 := s.txWord n b 0
  let w1 := s.txWord n b 1
  { id := if bitOf w0 29 then bitsOf w0 28 0 else bitsOf w0 10 0, xtd := bitOf w0 29, rtr := false, fdf := bitOf w1 4,
    brs := bitOf w1 4 && bitOf w1 5 && s.flag (Fld.CAN_CTL_BRS_EN n), esi := bitOf w1 4 && s.canErr n == 2, dlc := w1 % 16,
    data := s.txData n b, sofNs := sofNs }

/-- A frame leaves the module: its identifier word, then DLC and format bits, then its data. -/
def State.emitFrame (s : State) (n : Nat) (f : CanFrame) : State :=
  let e := entryOf f 0 false
  s.emit (.can n) e.w0 (e.w1 :: e.data)

/-- A buffer's frame has been sent and acknowledged (R439, R447): write-backs, TXB_DONE, counts; the next safety announcement
takes buffer 31. In LOOPBACK the frame comes back and nothing is driven (R446). -/
def State.txSent (s : State) (n b sofNs : Nat) : State :=
  let f := s.txFrame n b sofNs
  let w1 := s.txWord n b 1
  let s := s.setReg (Reg.CAN_TXB n b + 4) (putBit w1 6 f.esi)
  let s := if bitOf w1 11 then
    (s.setReg (Reg.CAN_TXB n b + 8) (sofNs % 2 ^ 32)).setReg (Reg.CAN_TXB n b + 12) (sofNs / 2 ^ 32) else s
  let s := (s.setB ⟨Reg.CAN_TXB_PEND n, b, b⟩ false).occurBit (Reg.CAN_TXB_DONE n) b
  let s := s.setCan n (fun u => { u with
    due := putBit u.due b false, bitErr := putBit u.bitErr b false, trefSent := if b == 28 then sofNs else u.trefSent })
  let s := (s.countReg (Reg.CAN_FRAMES_TX n)).raiseA (Ev.CAN_TX_DONE n) b
  let s := s.errCount n (s.getF (Fld.CAN_ERR_TEC n) - 1) (s.getF (Fld.CAN_ERR_REC n))
  let s := if s.canMode n == 4 then s.receive n f else s.emitFrame n f
  match b == 31, (s.canU n).annQ with
  | true, x :: t => (s.setCan n (fun u => { u with annQ := t })).annCan n x
  | _, _ => s

/-- TX_DONE (R447, R448): the buffer that the controller offered is sent; no other one can be. A TXB_CANCEL of the same cycle has
no effect (R464). -/
def execTxDone (can buf sofNs : Nat) (s : State) : Step :=
  let m := s.canMode can
  let t := if s.arrivedNow (cancelKey can buf) then s.setB ⟨Reg.CAN_TXB_PEND can, buf, buf⟩ true else s
  .next (if s.live && can < 2 && (m == 1 || m == 4) && s.canErr can < 3 && t.winner can == some buf then t.txSent can buf sofNs else s)

/-! ### Errors and bus off (R461 to R463) -/

/-- An attempt of a buffer ends without success (R447, R463): a second data-field bit error in a row halts it, unless it is rearmed in the
same cycle (R464); a one-shot buffer ends in TXB_LATE. -/
def State.txFailed (s : State) (n b : Nat) (dataBit : Bool) : State :=
  if !s.txPend n b then s
  else if bitOf (s.txWord n b 1) 10 then
    let s := (s.setB ⟨Reg.CAN_TXB_PEND n, b, b⟩ false).occurBit (Reg.CAN_TXB_LATE n) b
    s.setReg (Reg.CAN_TXB n b + 4) (putBit (s.txWord n b 1) 12 false)
  else if dataBit && bitOf (s.canU n).bitErr b then
    let s := (s.raiseA (Ev.CAN_ID_COLLISION n) b).setReg (Reg.CAN_COLL_ID n) (s.txWord n b 0 % 2 ^ 30)
    let s := if s.arrivedNow (rearmKey n b) then s
      else (s.setB ⟨Reg.CAN_TXB_HALT n, b, b⟩ true).setB ⟨Reg.CAN_TXB_PEND n, b, b⟩ false
    s.setCan n (fun u => { u with bitErr := putBit u.bitErr b false })
  else s.setCan n (fun u => { u with bitErr := putBit u.bitErr b dataBit })

/-- CAN_BUS_ERROR (R444, R461): KIND codes LAST_ERR (0 an attempt lost without an error, 7 a protocol exception), with the
increments of the counters by ISO 11898-1 and the buffer whose attempt ended. -/
def execCanBusError (can tecInc recInc kind : Nat) (buf : Option Nat) (dataBit : Bool) (s : State) : Step :=
  if !(s.live && can < 2 && s.canMode can != 0 && s.canErr can < 3) then .next s
  else if kind == 7 then .next ((s.countReg (Reg.CAN_PROTO_EXC can)).raise (Ev.CAN_PROTO_EXC can))
  else
    let fail := fun (s : State) => match buf with
      | some b => if b < 32 then s.txFailed can b (dataBit && kind != 0) else s
      | none => s
    if kind == 0 then .next (fail s)
    else
      let s := s.setF (Fld.CAN_ERR_LAST_ERR can) (min kind 6)
      let m := s.canMode can
      let s := if m == 1 || m == 4 then s.countReg (Reg.CAN_ERR_FRAMES can) else s
      let s := fail s
      .next (s.errCount can (s.getF (Fld.CAN_ERR_TEC can) + tecInc) (s.getF (Fld.CAN_ERR_REC can) + recInc))

/-- CTL.RECOVER (R462): recovery begins from bus off and is ignored in any other state. -/
def State.canRecover (s : State) (n : Nat) : State :=
  if s.canErr n == 3 then (s.setF (Fld.CAN_ERR_STATE n) 4).setReg (Reg.CAN_RECOVERY n) 0 else s

/-- RECOVER (R462). -/
def execRecover (can master : Nat) (s : State) : Step :=
  .next (s.permit master (Reg.CAN_CTL can) (fun s => s.canRecover can))

/-- BUS_ON (R462): 128 sequences have been counted. -/
def execBusOn (can : Nat) (s : State) : Step :=
  if s.live && can < 2 && s.canErr can == 4 then
    let s := (s.setF (Fld.CAN_ERR_TEC can) 0).setF (Fld.CAN_ERR_REC can) 0
    .next (((s.setF (Fld.CAN_ERR_STATE can) 0).setReg (Reg.CAN_RECOVERY can) 128).raise (Ev.CAN_BUS_ON can))
  else .next s

/-! ### Controller modes (R445, R446) -/

/-- The bit timing passes the checks of R445. -/
def State.timingOk (s : State) (n : Nat) : Bool :=
  let f := fun (x : Fld) => s.getF x
  let nom := f (Fld.CAN_NBT_BRP n) * (1 + f (Fld.CAN_NBT_TSEG1 n) + f (Fld.CAN_NBT_TSEG2 n))
  let dat := f (Fld.CAN_DBT_BRP n) * (1 + f (Fld.CAN_DBT_TSEG1 n) + f (Fld.CAN_DBT_TSEG2 n))
  40 ≤ nom && nom ≤ 320 && 5 ≤ dat && dat ≤ nom
  && f (Fld.CAN_NBT_SJW n) ≤ f (Fld.CAN_NBT_TSEG2 n) && f (Fld.CAN_DBT_SJW n) ≤ f (Fld.CAN_DBT_TSEG2 n)
  && (40 ≤ dat || s.flag (Fld.CAN_CTL_TDC_EN n))

/-- A new value of CTL.MODE is refused (R445, R446): LOOPBACK with POWER not OFF, or leaving CONFIG with a timing that fails a check. -/
def State.canRefuses (s : State) (n mode : Nat) : Bool :=
  mode < 5 && mode != s.canMode n && ((mode == 4 && s.power != 0) || (s.canMode n == 0 && !s.timingOk n))

/-- CTL.MODE takes a value; reserved codes change nothing (assumption log 94). -/
def State.canSetMode (s : State) (n mode : Nat) : State :=
  if 5 ≤ mode || mode == s.canMode n then s
  else if s.canRefuses n mode then s.raise (Ev.CAN_CFG_REFUSED n)
  else s.setF (Fld.CAN_CTL_MODE n) mode

/-- CAN_MODE_WRITE (R445, R446). -/
def execCanModeWrite (can master mode : Nat) (s : State) : Step :=
  .next (s.permit master (Reg.CAN_CTL can) (fun s => s.canSetMode can (mode % 8)))

/-! ### The module's messages (R451) -/

/-- Content of function 0x2. -/
def State.modeMsg (s : State) : List Nat :=
  let fl := b2n (s.flag Fld.MODE_STATE_STOP_LATCH) + 2 * b2n (s.flag Fld.MODE_STATE_FAULT_ACTIVE)
    + 4 * b2n (s.flag Fld.MODE_STATE_CONTACTORS) + 8 * b2n (s.flag Fld.MODE_STATE_LEVEL_CLOSED)
  [s.cur, s.getF Fld.MODE_STATE_PREV, s.getF Fld.MODE_STATE_TARGET, fl] ++ beBytes 4 (s.getReg Reg.MODE_ENTRY_SEQ)

/-- Content of function 0x5; A from mA with a free rounding (assumption log 12). -/
def State.dispatchMsg (s : State) : List Nat :=
  let fl := b2n (s.flag Fld.MODE_STATE_STOP_LATCH) + 2 * b2n (s.flag Fld.MODE_STATE_FAULT_ACTIVE)
    + 4 * b2n (s.flag Fld.MODE_STATE_CONTACTORS) + 8 * b2n (s.flag Fld.VOTE_CH_STATE_CUR_VALID)
  let amp := fun (r : Nat) => beBytes 2 (toU 16 (satS 16 (divEither (s.getI r) 1000)))
  beBytes 4 (s.getReg Reg.VOTE_CUR_VOTED) ++ beBytes 4 (s.getReg Reg.VOTE_V_VOTED) ++ beBytes 2 (s.getF Fld.EST_STRING_SOC_SOC)
    ++ [s.cur, fl] ++ amp Reg.PROF_AUTH_HI ++ amp Reg.PROF_AUTH_LO

/-- Cells with a voltage in the last complete sweep: (cell index, voltage in 100 µV). -/
def State.sweepVolts (s : State) : List (Nat × Int) := match s.chain.last with
  | none => []
  | some w => (s.cellList.filter (fun c => w.got.contains c.1)).filterMap (fun c =>
      (s.cellValue2 c.1 c.2).map (fun v => (s.cellIndex c.1 c.2, divEither v.1 2)))

/-- Temperatures of the last complete sweep, in 0.01 °C. -/
def State.sweepTemps (s : State) : List Int := match s.chain.last with
  | none => []
  | some w => (s.allPos.filter (fun i => w.got.contains i)).flatMap (fun i =>
      (maskNums 8 (s.recAt i).tempMask).filterMap (fun k => (s.posAt i).temps[k - 1]?))

/-- Content of function 0x6: extremes of the last complete sweep, of equal cells the one of lowest index; free values where it gave
none (assumption log 95). -/
def State.cellsMsg (s : State) : List Nat × State :=
  let vs := s.sweepVolts
  let ts := s.sweepTemps
  let s := if vs.isEmpty || ts.isEmpty then s.fresh else s
  let free := Config.freeValue (s.freeCtr - 1)
  let hi := vs.foldl (fun (m : Nat × Int) (x : Nat × Int) => if m.2 < x.2 then x else m) (vs.headD (free, (free : Int)))
  let lo := vs.foldl (fun (m : Nat × Int) (x : Nat × Int) => if x.2 < m.2 then x else m) (vs.headD (free, (free : Int)))
  let tHi := ts.foldl max (ts.headD (free : Int))
  let tLo := ts.foldl min (ts.headD (free : Int))
  let w := fun (x : Int) => beBytes 2 (toU 16 x)
  let fl := b2n (s.chain.pos.any (fun p => p.suspect != 0)) + 2 * b2n (s.safe.unmon != 0)
    + 4 * b2n (s.allPos.any (fun i => (s.posAt i).late)) + 8 * b2n (s.flag Fld.EST_WARN_NO_ANCHOR)
  (w hi.2 ++ beBytes 2 hi.1 ++ w lo.2 ++ beBytes 2 lo.1 ++ w tHi ++ w tLo ++ beBytes 2 (s.getReg Reg.EST_SOC_SPREAD) ++ beBytes 2 fl, s)

/-- Content of function 0x7. -/
def State.thermalMsg (s : State) : List Nat :=
  let tin := fun (r : Nat) => beBytes 2 (if s.getReg r == 0x80000000 then 0x8000 else toU 16 (satS 16 (s.getI r)))
  [Reg.THM_TIN0, Reg.THM_TIN1, Reg.THM_TIN2, Reg.THM_TIN3].flatMap tin
  ++ [Reg.THM_OUT_VALVE, Reg.THM_OUT_PUMP, Reg.THM_OUT_FAN_A, Reg.THM_OUT_FAN_B, Reg.THM_OUT_HEATER, Reg.THM_FLOW].flatMap
      (fun r => beBytes 2 (s.getReg r))

/-- Content of function 0x9; the holder's serial number is free where no module holds the Imprint (assumption log 95). -/
def State.pairMsg (s : State) : List Nat × State :=
  let here := s.flag Fld.PAIR_STATE_PARTNER_PRESENT
  let fl := b2n (here && bitOf s.pairU.partnerFlags 3) + 2 * b2n (s.flag Fld.PAIR_STATE_CFG_DIFFER)
    + 4 * b2n (s.flag Fld.PAIR_STATE_LATENT_FAULT || (here && bitOf s.pairU.partnerFlags 7))
  let known := !s.pair || s.pstate == Ps.solo || s.pstate == Ps.holder
  let serial := if known then s.getReg Reg.SYS_SERIAL_LO else Config.freeValue s.freeCtr
  ([s.pstate, if here then s.pairU.partnerState else 0xFF, fl, 0] ++ beBytes 4 (s.getReg Reg.PAIR_EDITION) ++ beBytes 4 serial,
    if known then s else s.fresh)

/-- The content of a periodic function. -/
def State.messageOf (s : State) (fn : Nat) : List Nat × State :=
  if fn == 2 then (s.modeMsg, s) else if fn == 5 then (s.dispatchMsg, s) else if fn == 6 then s.cellsMsg
  else if fn == 7 then (s.thermalMsg, s) else s.pairMsg

/-- The bit of a function in CANx.AUTO_EN and its transmit buffer; ETHx.ANN_EN has its bit one lower (R449, R465, R479). -/
def autoBit (fn : Nat) : Nat := if fn == 2 then 1 else if fn == 5 then 2 else if fn == 6 then 3 else if fn == 7 then 4 else 5
def autoBuf (fn : Nat) : Nat := if fn == 2 then 30 else if fn == 5 then 27 else if fn == 6 then 26 else if fn == 7 then 25 else 24

/-- A message of a function leaves on a path: CAN controller 0 or 1, or (2) the plant Ethernet ports that enable it. -/
def State.sendFunction (s : State) (path fn : Nat) : State :=
  if !s.speaker then s
  else if path < 2 then
    if bitOf (s.getReg (Reg.CAN_AUTO_EN path)) (autoBit fn) then
      let (m, s) := s.messageOf fn
      s.functionTx path (autoBuf fn) fn m
    else s
  else
    let ports := [0, 1].filter (fun p => bitOf (s.getReg (Reg.ETH_ANN_EN p)) (autoBit fn - 1))
    if ports.isEmpty then s
    else
      let (m, s) := s.messageOf fn
      s.annEth ports fn m

/-- CAN_PERIODIC_DUE (R449, R451, R472): a periodic function falls due on a path. -/
def execCanPeriodicDue (path fn : Nat) (s : State) : Step :=
  .next (if s.live && path < 3 && (fn == 2 || fn == 5 || fn == 6 || fn == 7 || fn == 9) then s.sendFunction path fn else s)

/-- What the grant of an event sends (R451, R452): the safety announcements that waited for its number, and the mode
announcement at MODE_CHANGED. -/
def State.announceGranted (s : State) (e : Ev) (seq time : Nat) : State :=
  let k := if e == Ev.SAFE_FS_START then 1 else if e == Ev.SAFE_FS_DONE then 2 else if e == Ev.SAFE_ELL_ENTER then 3
    else if e == Ev.MODE_STOP_LATCH_SET then 4 else if e == Ev.MODE_STOP_LATCH_CLEARED then 5 else 0
  let l := s.comp.annWait.filter (fun (a : Ann) => a.kind == k)
  let s := { s with comp := { s.comp with annWait := s.comp.annWait.filter (fun (a : Ann) => a.kind != k) } }
  let s := l.foldl (fun (s : State) (a : Ann) => s.annSend a seq time) s
  if e == Ev.MODE_MODE_CHANGED then [0, 1, 2].foldl (fun (s : State) (p : Nat) => s.sendFunction p 2) s else s

/-! ### Time references (R453) -/

/-- TREF_SEND (R453): at a multiple of PERIOD_MS on the time unit's count the time master's reference is launched. -/
def execTrefSend (can : Nat) (s : State) : Step :=
  let p := 1000000 * s.getF (Fld.CAN_TREF_CTL_PERIOD_MS can)
  if s.live && can < 2 && s.flag (Fld.CAN_TREF_CTL_MASTER can) && p != 0 && s.addr != 0 && s.flag (Fld.CAN_CTL_FD_EN can) then
    let u := s.canU can
    let body := [u.trefCount, b2n (s.sync == Ts.locked), 0, 0] ++ beBytes 8 u.trefSent
    let s := s.setCan can (fun u => { u with trefCount := (u.trefCount + 1) % 256 })
    let s := s.moduleTx can 28 (0x180 + s.addr) (256 + 2048) body
    let s := s.setReg (Reg.CAN_TXB can 28 + 8) (s.time.now / p * p % 2 ^ 32)
    .next (s.setCan can (fun u => { u with due := putBit u.due 28 true }))
  else .next s

/-- TREF_LOST (R453): three periods without a reference. -/
def execTrefLost (can : Nat) (s : State) : Step :=
  let p := 1000000 * s.getF (Fld.CAN_TREF_CTL_PERIOD_MS can)
  .next (match (s.canU can).trefNs with
    | some t =>
      if s.live && can < 2 && s.flag (Fld.CAN_TREF_CTL_SLAVE can) && t + 3 * p ≤ s.localNs then
        (s.setCan can (fun u => { u with trefNs := none })).raise (Ev.CAN_TREF_LOST can)
      else s
    | none => s)

end Sys2Proof.Machine
end

