-- ==== Sys2Proof/Machine/Cyclic.lean ====
section
/-! DEFINITION. *Cyclic Execution of Policy Firmware* (R367 to R401), but for the boundary and the deadline: commands, entries,
traps, services, hold supervision, copies in MRAM, timer slots. -/

namespace Sys2Proof.Machine

/-- CYC.STATE.STATE. -/
def State.cycNow (s : State) : Nat := s.getF Fld.CYC_STATE_STATE

/-- The exchange entry has ended (R396, R504): the activation of APP fails where it trapped, else it has succeeded. -/
def State.exchangeOver (s : State) (trapped : Bool) : State := match s.cyc.entry, s.cyc.image with
  | some 2, some p => s.updKind p (if trapped then some 0x14 else none)
  | _, _ => s

/-- The program enters STOPPED; an APP exchange that waited becomes active at once (R393). -/
def State.cycHalt (s : State) (cause : Nat) : State :=
  let s := (s.exchangeOver (cause == 5)).cycStop cause
  match s.upd.exchange with
  | some p => { s with upd := { s.upd with exchange := none } }.appNow p
  | none => s

/-- The program enters HOLD (R381): entries and outputs of the cycle are given up. -/
def State.cycHoldNow (s : State) : State :=
  { s with cyc := { s.cyc with entry := none, late := false, skip := false, done := false, stopAt := 0, step := false } }.cycState 2

/-! ### Commands (R381) -/

/-- CMD RUN: from STOPPED by START_KIND, from HOLD without an init entry. -/
def State.cmdRun (s : State) (kind : Nat) : State :=
  if s.cycNow == 0 && s.cyc.image.isSome && kind ≤ 2 then s.cycStart (3 + kind)
  else if s.cycNow == 2 then { s with cyc := { s.cyc with step := false, stopAt := 0 } }.cycState 1
  else s.raise Ev.CYC_CMD_IGNORED

/-- CMD STOP: in RUN at the boundary, in HOLD at once. -/
def State.cmdStop (s : State) : State :=
  if s.cycNow == 1 then { s with cyc := { s.cyc with stopAt := 1 } }
  else if s.cycNow == 2 then s.cycHalt 1
  else s.raise Ev.CYC_CMD_IGNORED

/-- CMD HOLD: in RUN at the boundary. -/
def State.cmdHold (s : State) : State :=
  if s.cycNow == 1 then { s with cyc := { s.cyc with stopAt := 2 } } else s.raise Ev.CYC_CMD_IGNORED

/-- A command of CYC.CTL waits in the Compositor as an informational event (R397). -/
def State.cycAsk (s : State) (cmd kind : Nat) : State :=
  if cmd == 0 then s
  else ({ s with cyc := { s.cyc with cmds := s.cyc.cmds ++ [(cmd, kind)] } }).raiseInt Pg.CYC 40 5

/-- CYC_RUN (R381). -/
def execCycRun (master startKind : Nat) (s : State) : Step :=
  .next (s.permit master Reg.CYC_CTL (fun s => s.cycAsk 1 startKind))

/-- CYC_STOP (R381). -/
def execCycStop (master : Nat) (s : State) : Step := .next (s.permit master Reg.CYC_CTL (fun s => s.cycAsk 2 0))

/-- CYC_HOLD (R381). -/
def execCycHold (master : Nat) (s : State) : Step := .next (s.permit master Reg.CYC_CTL (fun s => s.cycAsk 3 0))

/-! ### Entries (R373, R377, R384 to R386, R396) -/

/-- ENTRY_RETURN (R377, R384): the entry on core 0 returns after `execUs`. An init entry hands over its output image; the exchange
entry is followed by the cycle entry; a cycle in time clears OVR_RUN, and ten of them end cause OVERRUN. -/
def execEntryReturn (execUs : Nat) (s : State) : Step :=
  match s.live, s.cyc.entry with
  | true, some 2 =>
    let s := s.exchangeOver false
    .next { s with cyc := { s.cyc with entry := some 3 } }
  | true, some 3 =>
    let s := s.setReg Reg.CYC_EXEC_US (satU 32 execUs)
    let s := s.occur Reg.CYC_EXEC_MAX_US (fun w => max w (satU 32 execUs))
    if s.cyc.late then
      let again := { s.cyc with entry := none, late := false, step := false }
      .next { s with cyc := again }
    else
      let n := s.cyc.inTime + 1
      let s := { s with cyc := { s.cyc with entry := none, done := true, inTime := n } }.setF Fld.CYC_STATE_OVR_RUN 0
      .next (if 10 ≤ n && s.cycNow == 1 then s.dropCause 0x2A else s)
  | true, some _ => .next { s with cyc := { s.cyc with entry := none, done := true } }
  | _, _ => .next s

/-- A missed deadline, or a lattice instant at which the same entry still runs, counts; at OVR_LIMIT cause OVERRUN becomes active,
and an entry still running is preempted (R384, R385). -/
def State.overrun (s : State) : State :=
  let s := { s with cyc := { s.cyc with inTime := 0 } }.countF Fld.CYC_STATE_OVR_RUN
  if s.getF Fld.CYC_CFG_OVR_LIMIT ≤ s.getF Fld.CYC_STATE_OVR_RUN then
    let s := (s.raise Ev.CYC_OVR_LIMIT).setCause 0x2A
    if s.cyc.entry.isSome then s.cycHalt 3 else s
  else s

/-- CORE_TRAP (R386, R396): a trap in user mode on core 0, with the RISC-V exception code (0x18 for an unknown service). -/
def execCoreTrap (cause pc : Nat) (s : State) : Step :=
  match s.live, s.cyc.entry with
  | true, some e =>
    let s := ((s.setF Fld.CYC_TRAP_ENTRY e).setF Fld.CYC_TRAP_CODE cause).setF Fld.CYC_TRAP_CORE 0
    let s := ((s.setReg Reg.CYC_TRAP_PC_LO pc).setReg Reg.CYC_TRAP_PC_HI (pc / 2 ^ 32)).raise Ev.CYC_TRAP
    .next (if e == 2 then (s.raise Ev.CYC_EXCHANGE_FAIL).cycHalt 5 else s.cycHalt 2)
  | _, _ => .next s

/-- EBREAK (R381): HOLD at once; the PC is recorded, the cycle's output image discarded. -/
def execEbreak (pc : Nat) (s : State) : Step :=
  if s.live && s.cyc.entry.isSome then
    let s := (s.setReg Reg.CYC_TRAP_PC_LO pc).setReg Reg.CYC_TRAP_PC_HI (pc / 2 ^ 32)
    .next (s.exchangeOver false).cycHoldNow
  else .next s

/-- INIT_TIMEOUT (R390): an init entry has not returned within 1 s. -/
def execInitTimeout (s : State) : Step :=
  .next (if s.live && (s.cyc.entry == some 0 || s.cyc.entry == some 1) then s.cycHalt 4 else s)

/-- SERVICE_TRAP (R374): core 1's entry returns, or traps with a code at a PC. -/
def execServiceTrap (returned : Bool) (code pc : Nat) (s : State) : Step :=
  if s.live && s.cyc.svcRuns then
    let s := if returned then s
      else
        let s := ((s.setF Fld.CYC_TRAP_ENTRY 4).setF Fld.CYC_TRAP_CODE code).setF Fld.CYC_TRAP_CORE 1
        (s.setReg Reg.CYC_TRAP_PC_LO pc).setReg Reg.CYC_TRAP_PC_HI (pc / 2 ^ 32)
    let recent := s.cyc.svcTraps.filter (fun t => s.localNs ≤ t + 60000000000)
    .next ({ s with cyc := { s.cyc with svcRuns := false, svcTraps := s.localNs :: recent } }.raise Ev.CYC_SERVICE_TRAP)
  else .next s

/-- SERVICE_RESTART (R374): 100 ms later the entry runs again, unless it has trapped three times within 60 s. -/
def execServiceRestart (s : State) : Step :=
  let serves := match s.cyc.image with
    | some p => leAt p.body 13 1 % 2 == 1
    | none => false
  .next (if s.live && serves && !s.cyc.svcRuns && s.cyc.svcTraps.length < 3 then
    { s with cyc := { s.cyc with svcRuns := true } } else s)

/-- A service call can come from this entry: core 0 runs one, or core 1 runs its own. -/
def State.serving (s : State) : Bool := s.live && (s.cyc.entry.isSome || s.cyc.svcRuns)

/-- RETAIN_COMMIT (R373): RETAIN is written from the next boundary. -/
def execRetainCommit (s : State) : Step :=
  .next (if s.serving then { s with cyc := { s.cyc with retainWant := true } } else s)

/-- NOTE (R373). -/
def execNote (a0 : Nat) (s : State) : Step :=
  .next (if s.serving then (s.setReg Reg.CYC_USER_NOTE a0).raise Ev.CYC_USER_NOTE else s)

/-- SHADOW_NOW (R373): a program shadow is written from the next boundary. -/
def execShadowNow (s : State) : Step :=
  .next (if s.serving then { s with cyc := { s.cyc with shadowWant := true } } else s)

/-! ### Supervision (R382, R383) -/

/-- HOLD_LIMIT (R382, R383): the time outside RUN has reached LIMIT_S. -/
def execHoldLimit (s : State) : Step :=
  .next (if s.live && s.cyc.outNs.isSome && !s.causeOn 0x2B then (s.raise Ev.CYC_HOLD_LIMIT).setCause 0x2B else s)

/-! ### Shadows and retentive copies (R391, R392) -/

/-- PROG_SHADOW (R391): SHADOW_PERIOD has passed; the copy is taken at the next boundary. -/
def execProgShadow (s : State) : Step :=
  .next (if s.live && s.cycNow == 1 then { s with cyc := { s.cyc with shadowWant := true } } else s)

/-- SHADOW_SEALED (R391): the copy being written is sealed; a warm restart that waited for its own copy resets. -/
def execShadowSealed (s : State) : Step :=
  match s.live, s.cyc.writing with
  | true, some c =>
    let s := { s with cyc := { s.cyc with shadow := some { c with sealOk := true, hours := s.hours }, writing := none } }.copyShow
    .next (match s.cyc.restart, s.cyc.shadowWant with
      | some k, false => { s with cyc := { s.cyc with restart := none } }.enterReset k 0
      | _, _ => s)
  | _, _ => .next s

/-- RETAIN_STORE (R392): every 1 s, where RETAIN differs from the last sealed copy. -/
def execRetainStore (s : State) : Step :=
  match s.live, s.cyc.image with
  | true, some p =>
    let last := (s.cyc.retains.find? (fun c => c.sealOk)).map (·.vars)
    .next (if last == some (s.retainVars p.body) then s else s.storeRetain)
  | _, _ => .next s

/-! ### Timer slots (R387, R388, R400) -/

/-- A write of a slot's IN. -/
def State.tmrIn (s : State) (slot : Nat) (level : Bool) : State :=
  match s.cyc.tmr[slot]? with
  | some t => if t.kind == 0 then s.raise Ev.TMR_IN_IGNORED else s.tmrMod slot (fun t => t.write level s.localBase)
  | none => s

/-- A write of a slot's PT: it takes effect at once, after an expiry of the same instant. -/
def State.tmrPt (s : State) (slot value : Nat) : State :=
  s.tmrMod slot (fun t => { t.settle s.localBase with pt := value % 2 ^ 32 })

/-- TMR_IN_WRITE (R388). -/
def execTmrInWrite (master slot : Nat) (level : Bool) (s : State) : Step :=
  .next (if slot < 64 then s.permit master (Reg.TMR_IO slot) (fun s => s.tmrIn slot level) else s)

/-- TMR_PT_WRITE (R388). -/
def execTmrPtWrite (master slot value : Nat) (s : State) : Step :=
  .next (if slot < 64 then s.permit master (Reg.TMR_PT slot) (fun s => s.tmrPt slot value) else s)

/-- TMR_EXPIRY (R388): the slot's ET has reached PT; its Q is evaluated. -/
def execTmrExpiry (slot : Nat) (s : State) : Step :=
  .next (if s.live then s.tmrMod slot (fun t => t.settle s.localBase) else s)

end Sys2Proof.Machine
end

