-- ==== Sys2Proof/Machine/Eth.lean ====
section
/-! DEFINITION. *Plant Ethernet and the Partner Link* (R469 to R482), and the supervision of the clocks that hold them down (R66):
links, the switch, datagrams, descriptor rings, partner frames. -/

namespace Sys2Proof.Machine

/-! ### Links (R469, R477) -/

/-- A plant port's LINK changes. -/
def State.ethLink (s : State) (p : Nat) (up : Bool) (speed : Nat) (phyMaster : Bool) : State :=
  if s.flag (Fld.ETH_PORT_STATUS_LINK p) == up then s
  else
    let s := ((s.setB (Fld.ETH_PORT_STATUS_LINK p) up).setB ⟨Folio.STATUS (Pg.ETH0 + p), 0, 0⟩ up).setF (Fld.ETH_PORT_STATUS_SPEED p) speed
    let s := s.setB (Fld.ETH_PORT_STATUS_MASTER p) phyMaster
    if up then (s.countF (Fld.ETH_PORT_STATUS_LINK_UPS p)).raise (Ev.ETH_LINK_UP p) else s.raise (Ev.ETH_LINK_DOWN p)

/-- A speed (1 100 Mbit/s, 2 1,000 Mbit/s) that a port advertises. -/
def State.advertised (s : State) (p speed : Nat) : Bool :=
  (speed == 1 || speed == 2) && bitOf (s.getF (Fld.ETH_PORT_CTL_ADV p)) (speed - 1)

/-- ETH_LINK_CHANGE (R469): auto-negotiation ends, or the link is lost; a port out of use, or held down by R66, stays down. -/
def execEthLinkChange (port : Nat) (up : Bool) (speed : Nat) (phyMaster : Bool) (s : State) : Step :=
  if !s.live || 2 ≤ port then .next s
  else if !up then .next (s.ethLink port false 0 false)
  else if s.flag (Fld.ETH_PORT_CTL_ENABLE port) && !s.flag Fld.CLK_MON_ETH && s.advertised port speed then
    .next (s.ethLink port true speed (phyMaster && speed == 2))
  else .next s

/-- The partner link is DOWN: the LINK path is LOST, and with PULSE still UP the standby is blind and the holder turns frames back
at the far end of the line (R363). -/
def State.plnkDown (s : State) : State :=
  if !s.flag Fld.PLNK_LINK_UP then s
  else
    let s := ((s.setB Fld.PLNK_LINK_UP false).setB ⟨Folio.STATUS Pg.PLNK, 0, 0⟩ false).raise Ev.PLNK_LINK_DOWN
    let s := s.pathLost 0
    if s.getF Fld.PAIR_HB_PULSE != 1 then s
    else if s.pstate == Ps.holder then
      let e := s.farEnd
      let s := { s with pairU := { s.pairU with loopN := true } }.nodeWrite e.1 0x15 e.2.1
      s.newBreak e.2.2 s.localNs
    else if s.standby && !s.flag Fld.PAIR_STATE_BLIND then
      let s := (s.setB Fld.PAIR_STATE_BLIND true).setB Fld.PAIR_STATE_MIRROR_STALE true
      (s.setB Fld.PAIR_STATE_SYNCED false).raise Ev.PAIR_BLIND
    else s

/-- PLNK_LINK_DOWN (R477): the PHY reports link fail, or 15 ms have passed without a valid frame. -/
def execPlnkLinkDown (phyFail : Bool) (s : State) : Step :=
  .next (if s.paired && (phyFail || s.eth.plnkNs + 15000000 ≤ s.localNs) then s.plnkDown else s)

/-- PLNK_LINK_UP (R477): link OK and three heartbeats; the LINK path is UP again. -/
def execPlnkLinkUp (s : State) : Step :=
  if s.paired && s.flag Fld.PLNK_LINK_ENABLE && !s.flag Fld.PLNK_LINK_UP && !s.flag Fld.CLK_MON_ETH && 3 ≤ s.pairU.linkGood then
    let s := ((s.setB Fld.PLNK_LINK_UP true).setB ⟨Folio.STATUS Pg.PLNK, 0, 0⟩ true).countF Fld.PLNK_LINK_LINK_UPS
    let s := { s with pairU := { s.pairU with linkUpNs := s.localNs }, eth := { s.eth with plnkNs := s.localNs } }
    .next ((s.raise Ev.PLNK_LINK_UP).pathGood Fld.PAIR_HB_LINK 3)
  else .next s

/-! ### Clock supervision (R64, R66) -/

/-- Cycles of a clock in a window of 100 µs, by its code in LAST_FAULT.CLOCK. -/
def nominalCount (c : Nat) : Nat := [2500, 100000, 50000, 40000, 25000, 20000, 12500, 2000, 200000].getD c 0

/-- CLK_MON_WINDOW (R66): a window of a clock ends with a count; outside ±0.5 % in two windows in a row a clock asserts reset,
CLK_ETH holds its ports down until two windows in a row pass. -/
def execClkMonWindow (clock count : Nat) (s : State) : Step :=
  if !(s.live || s.phase == .bootHalt) || 9 ≤ clock then .next s
  else
    let s := if s.getReg Reg.CLK_FREQ_SEL == clock then s.setReg Reg.CLK_FREQ_MEAS (10 * count) else s
    let bad := decide (nominalCount clock < 200 * ((count : Int) - nominalCount clock).natAbs)
    let was := s.aux.badClocks.contains clock
    let held := clock == 6 && s.flag Fld.CLK_MON_ETH
    let put := fun (s : State) (b : Bool) => { s with aux := { s.aux with
      badClocks := (if b then [clock] else []) ++ s.aux.badClocks.filter (fun c => c != clock) } }
    if held then
      -- here `badClocks` remembers that the last window passed
      if bad then .next (put s false)
      else if was then .next ((put s false).setB Fld.CLK_MON_ETH false)
      else .next (put s true)
    else if bad && was then
      if clock == 6 then
        let s := ((put s false).setB Fld.CLK_MON_ETH true).raise Ev.CLK_CLK_FAULT
        .next (((s.ethLink 0 false 0 false).ethLink 1 false 0 false).plnkDown)
      else .next (s.faultReset 4 clock (if clock == 0 then 3 else 2))
    else .next (put s bad)

/-! ### The switch (R470) -/

/-- The module's MAC address. -/
def State.macAddr (s : State) : Nat := s.getReg (Reg.ETH_MAC_HI 0) % 65536 * 2 ^ 32 + s.getReg (Reg.ETH_MAC_LO 0)

/-- A group address (broadcast and multicast). -/
def groupMac (m : Nat) : Bool := (m / 2 ^ 40) % 2 == 1

/-- A source address is learned at a port; a full table learns no new one (assumption log 97). -/
def State.learnMac (s : State) (mac port : Nat) : State :=
  let l := s.eth.macs.filter (fun e => e.1 != mac)
  if groupMac mac || 1024 ≤ l.length then s
  else { s with eth := { s.eth with macs := (mac, port, s.localNs) :: l } }

/-- MAC_AGE (R470): an address not seen for 300 s is forgotten. -/
def execMacAge (mac : Nat) (s : State) : Step :=
  .next (if s.live then
    { s with eth := { s.eth with macs := s.eth.macs.filter (fun e => e.1 != mac || s.localNs < e.2.2 + 300000000000) } } else s)

/-- A frame's bytes without FCS; `tag` says whether a tag stays in. -/
def frameBytes (f : EthFrame) (tag : Bool) : List Nat :=
  beBytes 6 f.dst ++ beBytes 6 f.src
  ++ (match f.vlan with | some t => if tag then [0x81, 0x00] ++ beBytes 2 t else [] | none => [])
  ++ beBytes 2 f.etherType ++ f.payload.map (· % 256)

/-- A frame leaves a plant port that is UP. -/
def State.egress (s : State) (p : Nat) (bytes : List Nat) : State :=
  if s.flag (Fld.ETH_PORT_STATUS_LINK p) then (s.countReg (Reg.ETH_FRAMES_TX p)).emit (.eth p) 0x01 bytes else s

/-- The plant ports that a frame for an address is sent to, but for the one it came from: all for a group address and an
unknown one. -/
def State.routes (s : State) (dst : Nat) (ingress : Option Nat) : List Nat :=
  let ports := if groupMac dst then [0, 1] else match s.eth.macs.find? (fun e => e.1 == dst) with
    | some e => [e.2.1]
    | none => [0, 1]
  ports.filter (fun p => some p != ingress)

/-- The plant network's VLAN (R469); 0 without a Plant Record. -/
def State.vlan (s : State) : Nat := (s.record.map (·.vlan)).getD 0

/-- A frame passes to the internal port (R470): addressed to the module or to a group, with the plant network's VLAN. -/
def State.internal (s : State) (f : EthFrame) : Bool :=
  (groupMac f.dst || f.dst == s.macAddr) &&
  (match f.vlan with
   | some t => s.vlan != 0 && t % 4096 == s.vlan
   | none => s.vlan == 0)

/-! ### Receive rings (R473) -/

/-- The index after one of a ring. -/
def ringNext (size i : Nat) : Nat := if size == 0 then 0 else (i + 1) % size

/-- A frame is placed in the receive ring of its ingress port, or dropped where no descriptor with OWN waits; a tail written in the
same cycle comes after it (R478). -/
def State.deliver (s : State) (p : Nat) (f : EthFrame) (auth : Bool) : State :=
  let head := s.getReg (Reg.ETH_RX_HEAD p)
  let d := s.getReg (Reg.ETH_RX_BASE p) + 16 * head
  if head == s.before (Reg.ETH_RX_TAIL p) || !bitOf (s.memWord (d + 4)) 16 then
    (s.countReg (Reg.ETH_RX_NO_DESC p)).raise (Ev.ETH_RX_NO_DESC p)
  else
    let bytes := frameBytes f false
    let buf := s.memWord d
    let s := if isRam buf && isRam (buf + bytes.length - 1) then s.setBytes buf bytes else s
    let tag := match f.vlan with | some t => 2 ^ 18 + t % 4096 * 2 ^ 20 | none => 0
    let s := s.setMemWord (d + 4) (bytes.length % 65536 + 2 ^ 17 * b2n auth + tag)
    let s := (s.setMemWord (d + 8) (f.rxNs % 2 ^ 32)).setMemWord (d + 12) (f.rxNs / 2 ^ 32)
    (s.setReg (Reg.ETH_RX_HEAD p) (ringNext (s.getReg (Reg.ETH_RX_SIZE p)) head)).raise (Ev.ETH_RX_NEW p)

/-- The bytes of an IPv4 packet from its UDP or ICMP part on: (protocol, source address, part). -/
def ipPart (b : List Nat) : Nat × Nat × List Nat :=
  ((b[9]?).getD 0, ofBe ((b.drop 12).take 4), b.drop (4 * (b.headD 0 % 16)))

/-- Frames that the module handles itself (R473): PTP, ARP, ICMP echo, VRA, port 40965. Their own commands carry what they
do. -/
def handled (f : EthFrame) : Bool :=
  if f.etherType == 0x88F7 || f.etherType == 0x0806 then true
  else if f.etherType == 0x0800 then
    let q := ipPart f.payload
    let port := ofBe ((q.2.2.drop 2).take 2)
    (q.1 == 1 && q.2.2.headD 0 == 8) || (q.1 == 17 && (port == 40964 || port == 40965 || port == 319 || port == 320))
  else false

/-- PTP messages that the switch does not forward as they are: Sync, Follow_Up and Announce, which their own commands forward, and peer
delay messages (R433). -/
def ptpOwn (f : EthFrame) : Bool := f.etherType == 0x88F7 && [0, 2, 3, 8, 10, 11].contains (f.payload.headD 0 % 16)

/-- ETH_RX_FRAME (R469, R470): a frame reaches a plant port and the switch. -/
def execEthRxFrame (port : Nat) (f : EthFrame) (s : State) : Step :=
  if !s.live || 2 ≤ port || !s.flag (Fld.ETH_PORT_STATUS_LINK port) then .next s
  else if !f.fcsOk then .next (s.countReg (Reg.ETH_FCS_ERR port))
  else if 1522 < (frameBytes f true).length + 4 then .next (s.countReg (Reg.ETH_SW_DROP port))
  else
    let s := s.countReg (Reg.ETH_FRAMES_RX port)
    if f.etherType == 0x8808 then .next s
    else
      let s := s.learnMac f.src port
      let s := if f.dst == s.macAddr || ptpOwn f then s
        else (s.routes f.dst (some port)).foldl (fun (s : State) (p : Nat) => s.egress p (frameBytes f true)) s
      .next (if s.internal f && !handled f then s.deliver port f false else s)

/-- RX_TAIL_WRITE (R473): receive descriptors are handed to the module. -/
def execRxTailWrite (port master value : Nat) (s : State) : Step :=
  .next (s.permit master (Reg.ETH_RX_TAIL port) (fun s => s.occur (Reg.ETH_RX_TAIL port) (fun _ => value % 4096)))

/-! ### Transmit rings (R438, R473) -/

/-- The head descriptor of a transmit ring is handed to the module. -/
def State.txHead (s : State) (p : Nat) : Option Nat :=
  let head := s.getReg (Reg.ETH_TX_HEAD p)
  let d := s.getReg (Reg.ETH_TX_BASE p) + 16 * head
  if head != s.getReg (Reg.ETH_TX_TAIL p) && bitOf (s.memWord (d + 4)) 16 then some d else none

/-- The mark of a ring's head descriptor: 0 none, 1 its launch time has come, 2 it is late. -/
def State.headMark (s : State) (p : Nat) : Nat := (s.eth.head[p]?).getD 0

/-- The head descriptor's mark takes a value. -/
def State.setMark (s : State) (p v : Nat) : State := { s with eth := { s.eth with head := s.eth.head.set p v } }

/-- A transmit descriptor is written back and the ring moves on. -/
def State.writeBack (s : State) (p d : Nat) (late done : Bool) : State :=
  let w := putBit (putBit (putBit (s.memWord (d + 4)) 16 false) 21 late) 22 done
  let s := (s.setMemWord (d + 4) w).setMark p 0
  let s := s.setReg (Reg.ETH_TX_HEAD p) (ringNext (s.getReg (Reg.ETH_TX_SIZE p)) (s.getReg (Reg.ETH_TX_HEAD p)))
  s.raise (Ev.ETH_TX_DONE p)

/-- The head descriptors are considered in ring order (R438): one with a launch time that is not in the future is late: it is
written back unsent where LATE_DISCARD says so, else it is due, flagged. -/
def State.txScan (s : State) (p : Nat) : Nat → State
  | 0 => s
  | k + 1 => match s.txHead p with
    | none => s
    | some d =>
      let w := s.memWord (d + 4)
      if s.headMark p == 0 && bitOf w 17 && !s.future (s.memWord (d + 8)) then
        if bitOf w 18 then (s.writeBack p d true false).txScan p k else s.launchLate.setMark p 2
      else s

/-- TX_TAIL_WRITE (R473): transmit descriptors are handed to the module. -/
def execTxTailWrite (port master value : Nat) (s : State) : Step :=
  .next (s.permit master (Reg.ETH_TX_TAIL port) (fun s =>
    (s.setReg (Reg.ETH_TX_TAIL port) (value % 4096)).txScan port 4096))

/-- ETH_LAUNCH_DUE (R438): the launch time of the head descriptor has come: in this tick, or passed over by a step of the
count, which makes it late. -/
def execEthLaunchDue (port : Nat) (s : State) : Step :=
  if !s.live || 2 ≤ port then .next s
  else match s.txHead port with
    | none => .next s
    | some d =>
      let w := s.memWord (d + 4)
      let l := s.memWord (d + 8)
      if !bitOf w 17 || s.headMark port != 0 || s.future l then .next s
      else if decide (s.sinceLaunch l ≤ 4) then .next (s.setMark port 1)
      else .next (s.txScan port 4096)

/-- A descriptor's frame leaves: on its own port with DIRECT, else through the switch; the module's VLAN tag goes in with PCP 4
(R470). -/
def State.sendHost (s : State) (p : Nat) (w : Nat) (bytes : List Nat) : State :=
  let b := if s.vlan == 0 then bytes
    else bytes.take 12 ++ [0x81, 0x00] ++ beBytes 2 (4 * 2 ^ 13 + s.vlan) ++ bytes.drop 12
  let ports := if bitOf w 20 then [p] else s.routes (ofBe (bytes.take 6)) none
  ports.foldl (fun (s : State) (q : Nat) => s.egress q b) s

/-- ETH_TX_DONE (R439, R473): the head descriptor's frame has been sent, at a timestamp in ns, and is written back. A LEN outside 60
to 1,518 is written back unsent (assumption log 97). -/
def execEthTxDone (port sfdNs : Nat) (s : State) : Step :=
  if !s.live || 2 ≤ port then .next s
  else match s.txHead port with
    | none => .next s
    | some d =>
      let w := s.memWord (d + 4)
      let len := w % 65536
      if bitOf w 17 && s.headMark port == 0 then .next s
      else if len < 60 || 1518 < len then .next ((s.writeBack port d false false).txScan port 4096)
      else
        let late := s.headMark port == 2
        let s := s.sendHost port w (readBytes s.ram (s.memWord d) len)
        let s := if bitOf w 19 then (s.setMemWord (d + 8) (sfdNs % 2 ^ 32)).setMemWord (d + 12) (sfdNs / 2 ^ 32 % 2 ^ 32) else s
        .next ((s.writeBack port d late true).txScan port 4096)

/-! ### IPv4 services (R469) -/

/-- The module answers for its IPv4 address at a port: it has one, and the port is UP. -/
def State.hasIp (s : State) (port : Nat) : Bool :=
  s.live && port < 2 && s.flag (Fld.ETH_PORT_STATUS_LINK port) && s.getReg (Reg.ETH_IPV4 port) != 0

/-- ARP_REQUEST (R469): the reply names the module's MAC and IPv4 addresses. -/
def execArpRequest (port ip senderIp senderMacHi senderMacLo : Nat) (s : State) : Step :=
  .next (if s.hasIp port && ip == s.getReg (Reg.ETH_IPV4 port) then
    s.ethOut port 0x0806 4 [s.macAddr, ip, senderMacHi * 2 ^ 32 + senderMacLo, senderIp] else s)

/-- ICMP_ECHO (R469): the reply repeats the data. -/
def execIcmpEcho (port srcIp : Nat) (data : List Nat) (s : State) : Step :=
  .next (if s.hasIp port then s.ethOut port 0x0800 4 (srcIp :: data) else s)

/-! ### Plant commands (R472) -/

/-- A datagram is authentic under a key: layout, length and tag. -/
def datagramOk (key b : List Nat) : Bool :=
  let n := ofBe ((b.drop 6).take 2)
  b.take 3 == [0x56, 0x41, 0x01] && n ≤ 64 && b.length == 28 + n && (hmac256 key (b.take (12 + n))).take 16 == b.drop (12 + n)

/-- PLANT_DATAGRAM (R472): functions 0x1 and 0x4 under the OPERATE key with a rising COUNTER are accepted; all else is dropped. -/
def execPlantDatagram (port : Nat) (f : EthFrame) (s : State) : Step :=
  if !s.hasIp port || !f.fcsOk then .next s
  else
    let q := ipPart f.payload
    let b := (q.2.2.drop 8).map (· % 256)
    let fn := (b[3]?).getD 0
    let counter := ofBe ((b.drop 8).take 4)
    let fresh := match s.eth.seen.find? (fun e => e.1 == q.2.1) with
      | some e => decide (e.2 < counter)
      | none => true
    let good := match s.accessKey 1 with
      | some key => datagramOk key b
      | none => false
    if (fn == 1 || fn == 4) && good && fresh then
      let s := { s with eth := { s.eth with seen := (q.2.1, counter) :: s.eth.seen.filter (fun e => e.1 != q.2.1) } }
      let dest := (b[4]?).getD 0
      let mine := dest == 0x7F || (dest == s.addr && s.addr != 0)
      let p := b.drop 12
      let s := if fn == 1 && mine && p.headD 0 == 0x10 && ofBe ((b.drop 6).take 2) != 0 then
          (if (p[1]?).getD 0 == 1 then s.connectAck true else if (p[1]?).getD 0 == 0 then s.connectAck false else s) else s
      .next (s.deliver port f true)
    else .next ((s.countReg (Reg.ETH_AUTH_FAIL port)).raise (Ev.ETH_AUTH_FAIL port))

/-! ### Partner link frames (R474 to R476) -/

/-- A frame or message that breaks the sequence is dropped and counted. -/
def State.seqGap (s : State) : State :=
  let old := s.getReg Reg.PLNK_SEQ_GAPS
  (s.countReg Reg.PLNK_SEQ_GAPS).raiseIf (old == 0) Ev.PLNK_SEQ_GAP

/-- The message of a TYPE that is under reassembly is given up; a MIRROR so discarded is counted. -/
def State.breakOff (s : State) (type : Nat) : State :=
  if s.eth.frags.any (fun (x : Frags) => x.type == type) then
    let s := { s with eth := { s.eth with frags := s.eth.frags.filter (fun (x : Frags) => x.type != type) } }
    if type == 2 then (s.countReg Reg.PLNK_MIRROR_DROP).raise Ev.PLNK_MIRROR_DROP else s
  else s

/-- PLNK_FRAME (R476): a frame is dropped, or joins its message; a complete message's own command says what it does. -/
def execPlnkFrame (f : PlnkFrame) (s : State) : Step :=
  if !s.plnkRx then .next s
  else if !f.fcsOk then .next (s.countReg Reg.PLNK_FCS_ERR)
  else
    let s := { (s.countReg Reg.PLNK_FRAMES_RX) with eth := { s.eth with plnkNs := s.localNs } }
    if f.type != 1 && f.type != 0x0B && f.edition < s.getReg Reg.PAIR_EDITION then .next (s.countReg Reg.PLNK_STALE)
    else
      let s := s.higherEdition f.edition
      let cur := s.eth.frags.find? (fun (x : Frags) => x.type == f.type)
      let put := fun (s : State) => { s with eth := { s.eth with
        frags := (if f.frag + 1 < f.frags then [⟨f.type, f.msg, f.frag + 1⟩] else [])
          ++ s.eth.frags.filter (fun (x : Frags) => x.type != f.type) } }
      match cur with
      | some x =>
        if x.msg == f.msg && x.next == f.frag then .next (put s)
        else
          let s := s.seqGap.breakOff f.type
          .next (if f.frag == 0 then put s else s)
      | none => .next (if f.frag == 0 then put s else s.seqGap)

end Sys2Proof.Machine
end

