-- ==== Sys2Proof/Machine/Time.lean ====
section
/-! DEFINITION. The commands of *Time* (R429 to R443): PTP messages, losses, host steps, triggers, compatibility loads. Messages
that the module sends on a plant port carry the code 0x20 plus the PTP messageType. -/

namespace Sys2Proof.Machine

/-- The module's clockIdentity: its MAC address with FF FE in the middle (IEEE 1588 default; assumption log 83). -/
def State.clockId (s : State) : Nat :=
  let m := s.getReg (Reg.ETH_MAC_HI 0) % 65536 * 2 ^ 32 + s.getReg (Reg.ETH_MAC_LO 0)
  m / 2 ^ 24 * 2 ^ 40 + 0xFFFE * 2 ^ 24 + m % 2 ^ 24

/-- Lexicographic order of data sets, the better one first. -/
def better : List Nat → List Nat → Bool
  | a :: x, b :: y => if a < b then true else if b < a then false else better x y
  | _, _ => false

/-- The data set of an Announce in the BMCA's order of comparison (R432). -/
def announceRank (m : PtpMsg) : List Nat :=
  [m.prio1, m.clockClass, m.accuracy, m.variance, m.prio2, m.gmId, m.steps, m.srcId, m.srcPort]

/-- The module's own data set (R432): clockClass 248, accuracy and variance of the default profile. -/
def State.ownRank (s : State) : List Nat :=
  [s.getF Fld.TIME_PTP_CFG_PRIORITY1, 248, 0xFE, 0xFFFF, s.getF Fld.TIME_PTP_CFG_PRIORITY2, s.clockId, 0, s.clockId, 1]

/-- A PTP message reaches the switch of a running module at a plant port that is UP. -/
def State.ptpAt (s : State) (port : Nat) : Bool := s.live && port < 2 && s.flag (Fld.ETH_PORT_STATUS_LINK port)

/-- The module's own clock takes part: SOURCE PTP, and the message is of its domain (R432). -/
def State.ptpOn (s : State) (m : PtpMsg) : Bool :=
  s.getF Fld.TIME_SYNC_CTL_SOURCE == 1 && m.domain == s.getF Fld.TIME_PTP_CFG_DOMAIN

/-- The peer delay of a port. -/
def State.pdAt (s : State) (p : Nat) : PdPort := (s.time.pd[p]?).getD ⟨0, 0, 0, 0, false, 0⟩

/-- The switch forwards a PTP message to the other plant port, whatever the module's own clock follows, with the residence time and the
ingress peer delay in correctionField where it is a one-step Sync or a Follow_Up (R433); the residence time is free. -/
def State.ptpForward (s : State) (m : PtpMsg) (type : Nat) (correct : Bool) : State :=
  let c := if correct then m.correctionNs + (s.pdAt m.port).delay + (Config.freeValue s.freeCtr % 2 ^ 32 : Nat) else m.correctionNs
  let s := if correct then s.fresh else s
  s.portOut (1 - m.port) (0x20 + type) (if type < 8 then 7 else 4) [m.domain, m.seq, m.srcId, m.srcPort, m.originNs, toU 64 c, b2n m.twoStep]

/-- A Sync with its precise origin time from the selected grandmaster enters the servo (R434). -/
def State.syncIn (s : State) (m : PtpMsg) (rxNs : Nat) (corr : Int) : State := match s.time.gm with
  | none => s
  | some g =>
    if m.srcId != g.id || s.sync < 2 || 4 < s.sync then s
    else
      let s := if s.sync == Ts.holdover then s.syncEnter Ts.acquiring else s
      let s := (s.arrive syncKey).setF Fld.TIME_SYNC_STATE_PORT m.port
      let s := s.countF Fld.TIME_SYNC_STATE_SYNCS
      let d := (s.pdAt m.port).delay
      let s := s.setReg Reg.TIME_PATH_DELAY_NS (toU 32 (satS 32 d))
      s.offsetIn ((rxNs : Int) - m.originNs - corr - d)

/-- SYNC (R432 to R435): a one-step Sync is used at once, a two-step Sync waits for its Follow_Up. -/
def execSync (m : PtpMsg) (s : State) : Step :=
  if !s.ptpAt m.port then .next s
  else
    let s := s.ptpForward m 0 (!m.twoStep)
    .next (if !s.ptpOn m then s else if m.twoStep then { s with time := { s.time with waits := some m } } else s.syncIn m m.rxNs m.correctionNs)

/-- FOLLOW_UP (R432): the precise origin time of the two-step Sync that waits. -/
def execFollowUp (m : PtpMsg) (s : State) : Step :=
  if !s.ptpAt m.port then .next s
  else
    let s := s.ptpForward m 8 true
    match s.time.waits with
    | some y =>
      if s.ptpOn m && y.seq == m.seq && y.srcId == m.srcId && y.srcPort == m.srcPort && y.port == m.port then
        .next ({ s with time := { s.time with waits := none } }.syncIn m y.rxNs (y.correctionNs + m.correctionNs))
      else .next s
    | none => .next s

/-- ANNOUNCE (R434): the BMCA; a new grandmaster raises GM_CHANGED and returns the servo to ACQUIRING. -/
def execAnnounce (m : PtpMsg) (s : State) : Step :=
  if !s.ptpAt m.port then .next s
  else
    let s := s.ptpForward m 11 false
    let wins := match s.time.gm with
      | none => true
      | some g => g.id == m.gmId || better (announceRank m) g.rank
    let s' := { s with time := { s.time with gm := some ⟨announceRank m, m.gmId, m.port⟩ } }
    if !s.ptpOn m || s.sync == Ts.pairFollow || !wins then .next s
    else if !s.flag Fld.TIME_PTP_CFG_SLAVE_ONLY && better s.ownRank (announceRank m) then .next s
    else
      let new := s.time.gm.map (·.id) != some m.gmId
      let s := (s'.setReg Reg.TIME_GM_ID_LO m.gmId).setReg Reg.TIME_GM_ID_HI (m.gmId / 2 ^ 32)
      let s := s.setReg Reg.TIME_UTC_OFFSET (toU 16 m.utcOffset + 65536 * b2n m.utcValid)
      if new || s.sync == Ts.listening then
        let s := (s.raiseIf new Ev.TIME_GM_CHANGED).syncEnter Ts.acquiring
        .next { s with time := { s.time with lockRun := 0, stepRun := [] } }
      else .next s

/-- PDELAY_REQ (R432): answered with Pdelay_Resp and its Follow_Up. -/
def execPdelayReq (m : PtpMsg) (s : State) : Step :=
  if s.ptpAt m.port then
    let s := s.ethOut m.port 0x23 7 [m.domain, m.seq, m.srcId, m.srcPort, m.rxNs]
    .next (s.ethOut m.port 0x2A 4 [m.domain, m.seq, m.srcId, m.srcPort, s.time.now])
  else .next s

/-- PDELAY_REQ_SEND (R432). -/
def execPdelayReqSend (port : Nat) (s : State) : Step :=
  if s.ptpAt port then
    let n := ((s.pdAt port).seq + 1) % 65536
    let s := { s with time := { s.time with pd := s.time.pd.modify port (fun p => { p with seq := n, t1 := s.time.now, waits := false }) } }
    .next (s.ethOut port 0x22 7 [s.getF Fld.TIME_PTP_CFG_DOMAIN, n])
  else .next s

/-- A peer delay measurement completes: the mean of both directions. -/
def State.pdDone (s : State) (port : Nat) (p : PdPort) (turn corr : Int) : State :=
  let d := divEither ((p.t4 : Int) - p.t1 - turn - corr) 2
  { s with time := { s.time with pd := s.time.pd.set port { p with waits := false, delay := d } } }

/-- PDELAY_RESP (R432): a one-step response completes a measurement, a two-step one waits for its Follow_Up, which completes it. -/
def execPdelayResp (m : PtpMsg) (s : State) : Step :=
  let p := s.pdAt m.port
  if !s.ptpAt m.port || p.seq != m.seq then .next s
  else if m.isFollowUp then
    .next (if p.waits then s.pdDone m.port p ((m.originNs : Int) - p.t2) m.correctionNs else s)
  else
    let p := { p with t2 := m.requestRxNs, t4 := m.rxNs }
    .next (if m.twoStep then { s with time := { s.time with pd := s.time.pd.set m.port { p with waits := true } } }
      else s.pdDone m.port p 0 m.correctionNs)

/-- SYNC_LOSS (R434): 3 s without a valid Sync; one that arrives in the same cycle wins (R441). -/
def execSyncLoss (s : State) : Step := .next (if s.live && s.sync == Ts.locked && !s.arrivedNow syncKey then s.syncEnter Ts.holdover else s)

/-- ANNOUNCE_TIMEOUT (R434): announceReceiptTimeout in HOLDOVER. -/
def execAnnounceTimeout (s : State) : Step :=
  .next (if s.live && s.sync == Ts.holdover && !s.pairFollower then
    ({ s with time := { s.time with gm := none } }).syncEnter Ts.listening else s)

/-- SYNC_SEND (R432): with SLAVE_ONLY 0 and no better grandmaster, the module sends Sync, Follow_Up and Announce; one that follows its
partner does not (R437). -/
def execSyncSend (port : Nat) (s : State) : Step :=
  if s.ptpAt port && s.getF Fld.TIME_SYNC_CTL_SOURCE == 1 && s.sync != Ts.pairFollow && !s.flag Fld.TIME_PTP_CFG_SLAVE_ONLY && s.time.gm.isNone then
    let n := (s.time.seqOut + 1) % 65536
    let d := s.getF Fld.TIME_PTP_CFG_DOMAIN
    let s := ({ s with time := { s.time with seqOut := n } }).ethOut port 0x20 7 [d, n, s.clockId]
    .next ((s.ethOut port 0x28 4 [d, n, s.clockId, s.time.now]).ethOut port 0x2B 4 (d :: n :: s.ownRank))
  else .next s

/-- STEP_NS (R435): the keyed host step, without confirmation; it is decided at its grant (R441). -/
def execStepNs (master value : Nat) (s : State) : Step :=
  .next (s.permitKeyed master Reg.TIME_STEP_NS 0x3E61 Ev.SYS_OWNER_DENIED (fun s =>
    ({ s with time := { s.time with stepWait := s.time.stepWait ++ [sInt 32 value] } }).raiseInt Pg.TIME 40 5))

/-- LAUNCH_TRIG (R438): an armed, enabled trigger acts when the count has reached L: in this tick, or passed over by a step of the
count, which makes it late. -/
def execLaunchTrig (trig : Nat) (s : State) : Step := .next (if s.live && trig < 4 && s.trigDue trig then s.trigLaunch trig else s)

/-- TRIG_PULSE_END (R438): the pin follows GPIO_OUT again. -/
def execTrigPulseEnd (trig : Nat) (s : State) : Step :=
  .next (if s.live && (s.time.pulse[trig]?).getD false then
    { s with time := { s.time with pulse := s.time.pulse.set trig false } }.emit .pin (0x30 + trig)
      [b2n (bitOf (s.getReg Reg.AUX_GPIO_OUT) trig)] else s)

/-- COMPAT_LOAD (R440): a write of COMPAT_LOAD_HI. -/
def execCompatLoad (master value : Nat) (s : State) : Step :=
  .next (s.permit master Reg.TIME_COMPAT_LOAD_HI (fun s => s.compatLoad value))

end Sys2Proof.Machine
end

