-- ==== Sys2Proof/Machine/Views.lean ====
section
/-! DEFINITION. What a register shows: the value of every word of the register pages and the memory windows as a read finds it
(R44 to R46). A register that the store holds reads from there; one that is a view of a unit's own state is formed here. -/

namespace Sys2Proof.Machine

/-! ### The Folio (R5, R46) -/

/-- Block kind of page `p` (R45): CHN1, ETH1 and CAN1 repeat the kind of the page before. -/
def kindOf (p : Nat) : Nat := if p ≤ 0x08 then p + 1 else if p ≤ 0x19 then p else if p ≤ 0x1C then p - 1 else p - 2

/-- OWNER at reset (R45). -/
def ownerReset (p : Nat) : Nat :=
  if p == Pg.VOTE || p == Pg.MRG || p == Pg.SAFE || p == Pg.SIO then 0x02
  else if p == Pg.MODE then 0x17
  else if p == Pg.GAL || p == Pg.DRV || p == Pg.PAIR || p == Pg.PLNK || p == Pg.CYC || p == Pg.TMR then 0x03
  else 0x07

/-- PRESENT with the capability flags of the page's chapter (R46). -/
def presentWord (v : Variant) (p : Nat) : Nat :=
  if p == Pg.SYS then
    1 + 2 * b2n (pagePresent v Pg.ASY) + 4 * b2n (pagePresent v Pg.DRV) + 8 * b2n (pagePresent v Pg.PLNK)
  else if p == Pg.LOOP then 1 + 2 * b2n (v != .C)
  else if p == Pg.PAIR then 1 + 2 * b2n (v != .C)
  else 1

/-- STATUS of page `p`, as the page's chapter defines it. -/
def State.statusWord (s : State) (p : Nat) : Nat :=
  if p == Pg.BAL then
    s.getF Fld.BAL_CTL_ENABLE + 2 * b2n s.bal.owtRunning + 4 * s.getF Fld.BAL_FLOOP_PRESENT
      + 8 * b2n (s.chain.pos.any (fun q => q.suspect != 0 || q.proofFault || q.stuck))
  else if p == Pg.CHN0 then s.getF (Fld.CHN_PORT_STATUS_LINK 0) + 4 * s.getF Fld.CHN0_RING_MODE
  else if p == Pg.CHN1 then s.getF (Fld.CHN_PORT_STATUS_LINK 1) + 4 * s.getF Fld.CHN0_RING_MODE
  else if p == Pg.EST then
    s.getF Fld.EST_STATE_RUNNING + 2 * s.getF Fld.EST_STATE_SUSPENDED + 4 * s.getF Fld.EST_STATE_MIRRORED
  else if p == Pg.ASY then b2n s.asyRuns + 2 * b2n (s.getF Fld.MODE_FUNC_STATE_PERTURB != 0)
  else if p == Pg.PROF then s.getF Fld.PROF_STATE_MOVING
  else if p == Pg.DRV then
    s.getF Fld.DRV_PWM_STATUS_ENABLED + 2 * b2n s.drv.imprint + 4 * b2n (s.getF Fld.DRV_LINK_STATE == 2)
  else if p == Pg.MRG then
    b2n (s.getF Fld.MRG_TRIP_CAUSE != 0) + 2 * b2n (s.getF Fld.MRG_SELFTEST_RESULT == 1)
      + 4 * b2n (s.getReg Reg.MRG_CFG_CRC == s.getReg Reg.MRG_PR_CRC)
  else if p == Pg.SAFE then
    s.getF Fld.SAFE_STATE_LOCKSTEP_OK + 2 * s.getF Fld.SAFE_STATE_FS_ACTIVE + 4 * s.getF Fld.SAFE_STATE_ELLIPSIS
  else if p == Pg.SIO then b2n (s.getReg Reg.SIO_STATE != 0)
  else if p == Pg.PAIR then
    b2n s.drv.imprint + 2 * s.getF Fld.PAIR_STATE_PARTNER_PRESENT + 4 * s.getF Fld.PAIR_STATE_SYNCED
  else if p == Pg.CYC then s.cycNow + 16 * b2n (s.causeOn 0x2A || s.causeOn 0x2B)
  else if p == Pg.SEQ then s.getReg Reg.SEQ_CTL % 4
  else if p == Pg.EVR then s.getF Fld.EVR_STATE_FROZEN + 2 * b2n s.evr.copying.isSome
  else if p == Pg.GAL then b2n (!s.gal.openLines.isEmpty)
  else if p == Pg.CAN0 then s.canErr 0 + 8 * b2n (s.getReg (Reg.CAN_TXB_PEND 0) != 0)
  else if p == Pg.CAN1 then s.canErr 1 + 8 * b2n (s.getReg (Reg.CAN_TXB_PEND 1) != 0)
  else if p == Pg.FLT then b2n (s.getF Fld.FLT_SPAN0_COUNT != 0 || s.getF Fld.FLT_SPAN1_COUNT != 0)
  else if p == Pg.TWB then s.getF Fld.TWB_C_STATUS_BUSY + 2 * b2n s.twb.free + 4 * s.getF Fld.TWB_TGT_CTL_ENABLE
  else s.getReg (Folio.STATUS p)

/-- The Folio word at offset `o` of page `p`. -/
def State.folioWord (s : State) (p o : Nat) : Nat :=
  if o == 0x000 then p * 2 ^ 24 + kindOf p * 2 ^ 16 + 0x0100
  else if o == 0x004 then (if pagePresent s.variant p then presentWord s.variant p else 0)
  else if !pagePresent s.variant p then (if o == 0x014 then ownerReset p else 0)
  else if o == 0x008 then s.statusWord p
  else s.getReg (pageBase p + o)

/-! ### Views of the units -/

/-- ms since a local time. -/
def State.msSince (s : State) (t : Nat) : Nat := (s.localNs - t) / 1000000

/-- What is left of a limit of `ms` that runs since a local time. -/
def State.msLeft (s : State) (ms t : Nat) : Nat := ms - s.msSince t

/-- SYS, CLK and CELL views: HOURS, sessions open, the watchdog's rest, the clock check, the shown bank. -/
def State.viewSys (s : State) (a : Nat) : Option Nat :=
  if a == Reg.SYS_IDENT then
    some (0x20640001 + 256 * (match s.variant with | .F => 0x46 | .A => 0x41 | .C => 0x43))
  else if a == Reg.SYS_HOURS then some s.hours
  else if a == Reg.SYS_VRA_CTL then some (putBits (s.getReg a) 7 4 s.acc.sessions.length)
  else if a == Reg.CLK_WDG_REMAIN then some (s.msLeft (s.getF Fld.CLK_WDG_CTL_TIMEOUT) s.aux.kickNs)
  else if a == Reg.CELL_COUNT then some s.cellList.length
  else if a == Reg.CELL_BANK_SEQ then some (match s.est.held with | some (_, _, q) => q | none => s.est.pubSeq)
  else if a == Reg.CELL_BANK_TIME then some (match s.est.held with | some (_, t, _) => t | none => s.est.pubTime)
  else if a == Reg.CELL_HOLD_LEFT then
    some (if s.getReg Reg.CELL_VIEW % 2 == 1 then s.msLeft (s.getReg Reg.CELL_HOLD_LIMIT) s.est.heldNs else 0)
  else none

/-- The positions for which `f` holds, as the word of a position map: bits 0 to 31 for positions from `k` + 1. -/
def State.posMap (s : State) (k : Nat) (f : Position → Bool) : Nat :=
  bitsToNat (((s.chain.pos.drop k).take 32).map f)

/-- NODE views of the position that NODE.SEL selects (R115, R133). -/
def State.viewNode (s : State) (a : Nat) : Option Nat :=
  let i := s.getReg Reg.NODE_SEL
  let p := s.posAt i
  let wait := fun (d : Option Nat) => match d with | some x => waitOf x | none => 0
  if a == Reg.NODE_SEL_UID_LO then some (p.uid % 2 ^ 32)
  else if a == Reg.NODE_SEL_UID_HI then some (p.uid / 2 ^ 32)
  else if a == Reg.NODE_SEL_DLY_FWD then some (satU 32 ((s.dlyFwd i).getD 0))
  else if a == Reg.NODE_SEL_DLY_REV then some (satU 32 ((s.dlyRev i).getD 0xFFFFFFFF))
  else if a == Reg.NODE_SEL_WAIT then some (wait (s.dlyRev i) * 65536 + wait (s.dlyFwd i))
  else if a == Reg.NODE_SEL_STATE then
    some (satU 16 p.slotErr * 65536 + p.alarm % 256 * 256 + 16 * b2n p.late + 8 * b2n p.segment + p.state % 8)
  else if a == Reg.NODE_SEL_OFFSET then some (toU 32 p.offset)
  else if a == Reg.NODE_SEL_FW then some (p.fw % 65536 * 65536 + p.type % 256 * 256)
  else if a == Reg.NODE_SEL_CAPS then some (p.caps % 65536)
  else none

/-- BAL views of the position that BAL.SEL selects, the ceiling of the present mode, the tone source (R155, R151). -/
def State.viewBal (s : State) (a : Nat) : Option Nat :=
  let p := s.posAt (s.getReg Reg.BAL_SEL)
  if a == Reg.BAL_PLAN_STAGE then some ((s.bal.staged[s.getReg Reg.BAL_SEL - 1]?).getD 0 % 2 ^ 32)
  else if a == Reg.BAL_SEL_APPLIED then some (p.applied % 2 ^ 32)
  else if a == Reg.BAL_SEL_INTEG then
    some (p.suspect % 65536 * 65536 + 128 * b2n p.proofFault + 64 * b2n p.stuck + 32 * b2n p.hot + 16 * b2n p.compBad
      + 8 * b2n p.proofBad)
  else if a == Reg.BAL_SEL_OW then some (p.owFlags % 2 ^ 19)
  else if a == Reg.BAL_SEL_PROOF_DIFF then some (toU 32 p.proofDiff)
  else if a == Reg.BAL_CEIL then
    some (if s.ceiling == 0 then 0 else s.periodUs % 2 ^ 24 * 256 + s.ceiling)
  else if a == Reg.BAL_FLOOP then some (putBit (s.getReg a) 1 s.sourcing)
  else none

/-- MEAS, EST and PAIR views: ages, the parameter set that EST.PSET_SEL selects, the minutes to the next swap (R361). -/
def State.viewEst (s : State) (a : Nat) : Option Nat :=
  let set := (s.record.bind (fun r => r.psets[s.getReg Reg.EST_PSET_SEL % 16]?)).getD PSet.zero
  if a == Reg.MEAS_IMD_AGE then some (match s.meas.imdAt with | some t => satU 32 (s.msSince t) | none => 0xFFFFFFFF)
  else if a == Reg.EST_ANCHOR_AGE then some (s.hours - s.est.anchorH)
  else if a == Reg.EST_PSET_ID then some (set.setId % 2 ^ 32)
  else if a == Reg.EST_PSET_QNOM then some (set.qNom % 2 ^ 32)
  else if a == Reg.EST_PSET_VLIM then some (set.vFull % 65536 * 65536 + set.vEmpty % 65536)
  else if a == Reg.PAIR_MIRROR_AGE then
    some (match s.pairU.mirror with | some _ => satU 32 (s.msSince s.pairU.mirrorNs) | none => 0xFFFFFFFF)
  else if a == Reg.PAIR_SWAP_STATUS then
    some (putBits (s.getReg a) 31 16 (satU 16 ((s.pairU.swapDue - s.hours + 59) / 60)))
  else none

/-- ASY views of the bin and the cell selected (R230, R239, R244, R247). -/
def State.viewAsy (s : State) (a : Nat) : Option Nat :=
  let j := s.getReg Reg.ASY_BIN_SEL % 64
  let k := s.getReg Reg.ASY_CELL_SEL % 512
  let res := s.asy.res.find? (fun r => r.bin == j)
  let met := (s.asy.metrics[k]?).getD ⟨0, 0, 0, 0, 0⟩
  if a == Reg.ASY_SEL_FREQ then
    let m := (s.asyPeriods j).2
    some (match s.record with
      | some r => satU 32 (divEither ((m : Int) * 4000000000) (binL r.binTable j m)).toNat
      | none => 0)
  else if a == Reg.ASY_SEL_BIN_I then
    some (match res with
      | some r => satU 16 (centi r.iAbs).toNat * 65536 + toU 16 (centi r.iArg)
      | none => 0)
  else if a == Reg.ASY_SEL_BIN_STATE then
    some (match res with
      | some r => satU 16 (r.cells.filter hasResult).length * 65536 + r.tries % 256 * 256 + r.state % 256
      | none => 0)
  else if a == Reg.ASY_SEL_R_HF then some (toU 32 met.rHf)
  else if a == Reg.ASY_SEL_R_ARC then some (toU 32 met.rArc)
  else if a == Reg.ASY_SEL_F_PEAK then some (satU 32 met.fPeak)
  else if a == Reg.ASY_SEL_R_LF then some (toU 32 met.rLf)
  else if a == Reg.ASY_SEL_METRIC_FLAGS then some (met.flags % 256)
  else if a == Reg.ASY_SEL_TCAL_OFS then some (toU 16 ((s.tcal[k]?).getD 0))
  else none

/-- LOOP views of the slot that LOOP.SEL selects (R255 to R268). -/
def State.viewLoop (s : State) (a : Nat) : Option Nat :=
  let x := s.slot s.loopSel
  let b := x.shadow
  if a == Reg.LOOP_SEL_CFG then some x.cfg
  else if a == Reg.LOOP_SEL_ROUTE then some x.route
  else if a == Reg.LOOP_SEL_FMT then some x.fmt
  else if a == Reg.LOOP_SEL_CTL then some (b2n x.manual)
  else if a == Reg.LOOP_SEL_STATUS then
    some (x.state % 8 + 16 * x.bankNo + 32 * b2n x.swapPend + 64 * b2n x.sat + 128 * b2n x.satHi + 256 * b2n x.accSat
      + 512 * b2n x.stale + 1024 * b2n x.frozen + 2048 * b2n x.binding)
  else if a == Reg.LOOP_SH_B0 then some b.b0
  else if a == Reg.LOOP_SH_B1 then some b.b1
  else if a == Reg.LOOP_SH_B2 then some b.b2
  else if a == Reg.LOOP_SH_B3 then some b.b3
  else if a == Reg.LOOP_SH_A1 then some b.a1
  else if a == Reg.LOOP_SH_A2 then some b.a2
  else if a == Reg.LOOP_SH_A3 then some b.a3
  else if a == Reg.LOOP_SH_EXP then some b.exp
  else if a == Reg.LOOP_SH_OUT_MAX then some b.outMax
  else if a == Reg.LOOP_SH_OUT_MIN then some b.outMin
  else if a == Reg.LOOP_SETPOINT then some x.setpoint
  else if a == Reg.LOOP_SETPOINT2 then some x.setpoint2
  else if a == Reg.LOOP_MAN_OUT then some x.manOut
  else if a == Reg.LOOP_FALLBACK then some x.fallback
  else if a == Reg.LOOP_FRZ_THR then some x.frzThr
  else if a == Reg.LOOP_SEL_FB then some (toU 24 x.fb)
  else if a == Reg.LOOP_SEL_ERR then some (toU 24 x.err)
  else if a == Reg.LOOP_SEL_OUT then some (toU 24 x.out)
  else if a == Reg.LOOP_SEL_S1 then some (toU 32 (x.s1 / 65536))
  else if a == Reg.LOOP_SEL_SAMPLES then some (x.samples % 2 ^ 32)
  else none

/-- CYC and TMR views: the hold limit's rest, the shadow's age, the timer slots, the local time base (R383, R387, R388). -/
def State.viewCyc (s : State) (a : Nat) : Option Nat :=
  let d := a - Reg.TMR_IO 0
  if a == Reg.CYC_HOLD then
    some (putBits (s.getReg a) 31 16 (match s.cyc.outNs with
      | some t => satU 16 (s.msLeft (1000 * s.getF Fld.CYC_HOLD_LIMIT_S) t)
      | none => 0))
  else if a == Reg.CYC_SHADOW then
    some (putBits (s.getReg a) 31 16 (match s.cyc.shadow with | some c => satU 16 (s.hours - c.hours) | none => 0xFFFF))
  else if a == Reg.TMR_BASE_LO then some (s.localBase % 2 ^ 32)
  else if a == Reg.TMR_BASE_HI then some (s.localBase / 2 ^ 32 % 2 ^ 32)
  else if Reg.TMR_IO 0 ≤ a && d < 512 then
    let t := (s.cyc.tmr[d / 8]?).getD Tmr.reset
    some (if d % 8 == 0 then
        t.kind * 4096 + t.unit * 256 + 4 * b2n t.prev + 2 * b2n (t.qAt s.localBase) + b2n t.inp
      else t.et s.localBase)
  else if Reg.TMR_PT 0 ≤ a && a < Reg.TMR_PT 0 + 256 then
    some (((s.cyc.tmr[(a - Reg.TMR_PT 0) / 4]?).getD Tmr.reset).pt)
  else none

/-- TIME views: the count and the compatibility base selected (R429, R440). -/
def State.viewTime (s : State) (a : Nat) : Option Nat :=
  let b := (s.time.compat[s.compatSel]?).getD ⟨12, 0, 0⟩
  if a == Reg.TIME_NOW_LO then some (s.time.now % 2 ^ 32)
  else if a == Reg.TIME_NOW_HI then some (s.time.now / 2 ^ 32 % 2 ^ 32)
  else if a == Reg.TIME_COMPAT_CTL then some (b.ctl % 16)
  else if a == Reg.TIME_COMPAT_LO then some (s.compatNow b % 2 ^ 32)
  else if a == Reg.TIME_COMPAT_HI then some (s.compatNow b / 2 ^ 32)
  else none

/-- The bytes 0 to 59 of a Galley slot with its SEAL (R420); a slot whose seal does not hold carries another word. -/
def GSlot.bytes (g : GSlot) : List Nat :=
  let b := leBytes 4 g.seq ++ leBytes 4 g.time ++ [g.kind % 256, g.phase % 256, g.state % 256, b2n g.mirrored] ++ leBytes 4 g.edition
    ++ (g.args ++ List.replicate 40 0).take 40 ++ leBytes 4 g.lineNo
  b ++ leBytes 4 (if g.sealOk then crc32 b else crc32 b ^^^ 0xFFFFFFFF)

/-- The bytes of a record (R416): CHECK is the CRC-32 over the bytes around it. -/
def Record.bytes (r : Record) : List Nat :=
  let head := leBytes 4 r.index ++ leBytes 4 r.seq ++ leBytes 4 r.time ++ leBytes 4 r.timeWraps ++ leBytes 4 r.hours
    ++ leBytes 4 r.powerCycles ++ [r.trigger % 256, r.source % 256, r.bit % 256, r.snap.length % 256] ++ leBytes 4 r.arg
    ++ leBytes 4 r.modeState ++ leBytes 4 r.edition ++ leBytes 4 r.flags ++ List.replicate 16 0
  let body := ((r.snap.take 48).flatMap (leBytes 4) ++ List.replicate 192 0).take 192
  head ++ leBytes 4 (crc32 (head ++ body)) ++ body

/-- The words of a delivered event record (R410). -/
def EvRec.words (e : EvRec) : List Nat := [e.seq, e.time, e.word2, e.arg]

/-- SEQ, EVR and GAL views (R411, R412, R413, R418, R420). -/
def State.viewSeq (s : State) (a : Nat) : Option Nat :=
  let ringWord := fun (d : Nat) => match s.comp.ring.find? (fun e => e.1 == d / 16) with
    | some e => (e.2.words[d % 16 / 4]?).getD 0
    | none => 0
  if a == Reg.SEQ_CORE_PENDING then some s.comp.core.length
  else if Reg.SEQ_HOST_RING 0 ≤ a && a < Reg.SEQ_HOST_RING 192 then some (ringWord (a - Reg.SEQ_HOST_RING 0))
  else if a == Reg.EVR_STATE then
    let frozen := s.flag Fld.EVR_STATE_FROZEN
    let limit := s.getF Fld.EVR_CTL_FREEZE_LIMIT_S
    let left := if frozen then limit - (s.localNs - s.evr.freezeAt) / 1000000000 else 0
    some (left * 65536 + 4 * b2n s.evr.copying.isSome + 2 * b2n s.evr.post.isSome + b2n frozen)
  else if a == Reg.EVR_NEWEST then some ((s.evr.ring.head?.map (·.index)).getD 0)
  else if a == Reg.EVR_OLDEST then some ((s.evr.ring.getLast?.map (·.index)).getD 0)
  else if Reg.GAL_SEL_SLOT ≤ a && a < Reg.GAL_SEL_SLOT + 64 then
    some (match s.gal.slots.find? (fun g => g.idx == s.getReg Reg.GAL_SEL % 2048) with
      | some g => ofLe ((g.bytes.drop (a - Reg.GAL_SEL_SLOT)).take 4)
      | none => 0)
  else none

/-- CAN and chain views: the heads of the receive queues (R458), the sequences counted during a recovery, which the bus decides
(R462: a free value of 0 to 128), the chain master's registers as CHN1 shows them. -/
def State.viewBus (s : State) (a : Nat) : Option Nat :=
  let n := (a - Reg.CAN_CTL 0 + 0x40) / 0x1000
  let o := a % 0x1000
  if n < 2 && a == Reg.CAN_RECOVERY n && s.canErr n == 4 then some (Config.freeValue s.freeCtr % 129)
  else if Reg.CAN_CTL 0 ≤ a && n < 2 && 0xE00 ≤ o && o < 0xF40 then some (s.headWord n ((o - 0xE00) / 80) ((o - 0xE00) % 80 / 4))
  else if pageBase Pg.CHN1 + 0x60 ≤ a && a ≤ pageBase Pg.CHN1 + 0x78 then some (s.getReg (a - 0x1000))
  else none

/-- A register of a present page past its Folio. -/
def State.unitWord (s : State) (a : Nat) : Nat :=
  let p := pageOf a
  let v := if p == Pg.SYS || p == Pg.CLK || p == Pg.CELL then s.viewSys a
    else if p == Pg.NODE then s.viewNode a
    else if p == Pg.BAL then s.viewBal a
    else if p == Pg.MEAS || p == Pg.EST || p == Pg.PAIR then s.viewEst a
    else if p == Pg.ASY then s.viewAsy a
    else if p == Pg.LOOP then s.viewLoop a
    else if p == Pg.CYC || p == Pg.TMR then s.viewCyc a
    else if p == Pg.TIME then s.viewTime a
    else if p == Pg.SEQ || p == Pg.EVR || p == Pg.GAL then s.viewSeq a
    else if p == Pg.CAN0 || p == Pg.CAN1 || p == Pg.CHN1 then s.viewBus a
    else none
  v.getD (s.getReg a)

/-! ### Words by address (R43, R44) -/

/-- The page that governs an address: its own page, or the controlling page of a memory window (R44). -/
def governing? (a : Nat) : Option Nat :=
  if 0x40000000 ≤ a && a < 0x40023000 then some (pageOf a)
  else if 0x50000000 ≤ a && a < 0x50010000 then some Pg.CELL
  else if 0x50010000 ≤ a && a < 0x50018000 then some Pg.FLT
  else if 0x50020000 ≤ a && a < 0x50021000 then some Pg.EVR
  else if 0x50040000 ≤ a && a < 0x50080000 then some Pg.ASY
  else none

/-- The Assay result buffer's word at an offset (R243): Z_RE, then Z_IM, of the cell and bin; without a result the mark and its
reason. -/
def State.assayWord (s : State) (o : Nat) : Nat :=
  let k := o / 512
  let none' : Int := -(2 ^ 31)
  let e : Int × Int :=
    if s.cellList.length ≤ k then (none', 8)
    else match s.asy.res.find? (fun r => r.bin == o % 512 / 8) with
      | some r => (r.cells[k]?).getD (none', 0)
      | none => (none', 0)
  toU 32 (if o % 8 < 4 then e.1 else e.2)

/-- A word of the memory windows. -/
def State.windowWord (s : State) (a : Nat) : Nat :=
  if a < 0x50010000 then
    let o := a - 0x50000000
    ofLe (((s.cellRecord (o / 128)).drop (o % 128)).take 4)
  else if a < 0x50018000 then s.getReg a
  else if a < 0x50021000 then
    let o := a - 0x50020000
    match (s.evr.window[o / 256]?).getD none with
    | some r => ofLe ((r.bytes.drop (o % 256)).take 4)
    | none => 0
  else s.assayWord (a - 0x50040000)

/-- The word that a register page or a memory window shows at `a`, aligned to 4 bytes. An absent unit's page shows its Folio and
0 (R5). -/
def State.peek (s : State) (a : Nat) : Nat :=
  match governing? a with
  | none => 0
  | some p =>
    if a < 0x40023000 then
      let o := a % 0x1000
      if o < 0x20 then s.folioWord p o
      else if o < 0x40 || !pagePresent s.variant p then 0
      else s.unitWord a
    else if !pagePresent s.variant p then 0
    else s.windowWord a

end Sys2Proof.Machine
end

