-- ==== Sys2Proof/Machine/Access.lean ====
section
/-! DEFINITION. Access checks and reads (R43, R49 to R52, R59, R60, R554): which master reaches an address, what a refused access
records, the latch of 64-bit quantities, what a read clears. -/

namespace Sys2Proof.Machine

/-! ### Reach (R43, R60) -/

/-- An address lies in the register pages. -/
def inPages (a : Nat) : Bool := 0x40000000 ≤ a && a < 0x40023000

/-- The registers that the two-wire target and the service UART may read (R60). -/
def subset60 (a : Nat) : Bool :=
  inPages a && (a % 0x1000 < 0x20 || pageOf a == Pg.AUX
    || [Reg.SYS_IDENT, Reg.SYS_SERIAL_LO, Reg.SYS_SERIAL_HI, Reg.SYS_RESET_CAUSE, Reg.SYS_HOURS, Reg.SYS_POWER_CYCLES,
        Reg.MODE_STATE, Reg.MODE_LATCH, Reg.MODE_REQ_RESULT].contains a)

/-- A master reaches an address with a read (R43, R60). -/
def readable (master a : Nat) : Bool :=
  if master < 2 then (governing? a).isSome || isRam a || a < 0x10000
  else if master == 2 then inPages a
  else if master == 3 then (governing? a).isSome
  else subset60 a

/-- A master reaches an address with a write (R43, R60). -/
def writable (master a : Nat) : Bool :=
  if master < 2 then (governing? a).isSome || isRam a
  else if master == 2 then inPages a
  else if master == 3 then (governing? a).isSome
  else inPages a && pathWrites master a

/-! ### Refused accesses (R49, R52, R554) -/

/-- A refused access: the record of R554 and, at a core, the load (5) or store (7) access fault. -/
def State.refuse (s : State) (master addr status : Nat) (store : Bool) : State :=
  let s := s.recordErr master addr status
  if master < 2 && (status == St.unmapped || status == St.align) then s.emit (.core master) (if store then 7 else 5) [addr]
  else s

/-- An unmapped access (R43). -/
def State.unmapped (s : State) (master addr : Nat) (store : Bool) : State :=
  (s.raise Ev.SYS_UNMAPPED_ACCESS).refuse master addr St.unmapped store

/-! ### Keyed registers (R51) -/

/-- A page whose OWNER register is fixed (R49). -/
def fixedOwner (p : Nat) : Bool := p == Pg.VOTE || p == Pg.MRG || p == Pg.SAFE || p == Pg.SIO

/-- A keyed register with its key and the event of a write that fails it; UPD.CTL is keyed where the value holds ARM or REVERT. -/
def keyOf (a v : Nat) : Option (Nat × Ev) :=
  let den := Ev.SYS_OWNER_DENIED
  if inPages a && a % 0x1000 == 0x14 && !fixedOwner (pageOf a) then some (0xC3A5, den)
  else if a == Reg.MODE_LATCH_CLR then some (0x3A7D, Ev.MODE_LATCH_CLR_DENIED)
  else if a == Reg.SYS_VRA_CTL then some (0x6B19, den)
  else if a == Reg.CLK_WDG_CTL then some (0x91C7, den)
  else if a == Reg.CLK_CAL_PPB then some (0x4E2B, den)
  else if a == Reg.AUX_ADDR_SET then some (0x2D91, den)
  else if a == Reg.AUX_RESTART then some (0x7E44, den)
  else if a == Reg.BAL_SUSPECT_CLR then some (0x8B3D, Ev.BAL_SUSPECT_CLR_DENIED)
  else if a == Reg.MEAS_CHG_CLR then some (0x1F6A, den)
  else if a == Reg.EST_CAP_SET then some (0x52E7, Ev.EST_CAP_SET_DENIED)
  else if a == Reg.ASY_TCAL_CLR then some (0x6D2A, den)
  else if a == Reg.PAIR_LATENT_CLR then some (0x4C19, den)
  else if a == Reg.TIME_STEP_CTL || a == Reg.TIME_STEP_NS then some (0x3E61, den)
  else if a == Reg.UPD_KEY_REVOKE then some (0x9A3F, den)
  else if a == Reg.UPD_CTL && bitsOf v 4 3 != 0 then some (0x9A3F, den)
  else none

/-- The first check of R59 that a 32-bit aligned write to a mapped address fails, levels apart; OK where it takes effect. OWNER is
written by the cores alone, LOCK by them whatever OWNER.APP holds (R49); the watchdog is serviced by the cores (R67). -/
def State.writeCheck (s : State) (master a v : Nat) : Nat :=
  match governing? a with
  | none => St.unmapped
  | some p =>
    let key := match keyOf a v with
      | some (k, _) => if s.keyOk master p k then St.ok else St.keyDenied
      | none => St.ok
    if !pagePresent s.variant p then St.absent
    else if master == 5 && a == Reg.MODE_REQUEST && v % 16 != Md.dormant && v % 16 != Md.survey then St.levelDenied
    else if inPages a && a % 0x1000 == 0x14 then (if master < 2 && !fixedOwner p then key else St.ownerDenied)
    else if inPages a && a % 0x1000 == 0x18 && master < 2 then St.ok
    else if a == Reg.CLK_WDG_KICK then (if master < 2 then St.ok else St.ownerDenied)
    else if !s.owns master p then St.ownerDenied
    else if inPages a && 0x20 ≤ a % 0x1000 && (accAt a).so != 0 && master != 2 then St.ownerDenied
    else key

/-- A write that a check has refused: the event the check names and the record of R554. A keyed write without its key clears
LOCK.KEY (R51); one refused before its key is looked at leaves it (the model's choice, assumption log 107). -/
def State.refuseAt (s : State) (master a v st : Nat) : State :=
  if st == St.keyDenied then
    match governing? a, keyOf a v with
    | some p, some (_, e) => ((s.clearKey p).raise e).refuse master a st true
    | _, _ => s
  else if st == St.absent then (s.raise Ev.SYS_ABSENT_WRITE).refuse master a st true
  else if st == St.ownerDenied then (s.raise Ev.SYS_OWNER_DENIED).refuse master a st true
  else s.refuse master a st true

/-! ### Reads (R9, R52, R458) -/

/-- Low words of the 64-bit quantities (R52). -/
def lowWords : List Nat := [Reg.SYS_SERIAL_LO, Reg.NODE_SEL_UID_LO, Reg.MEAS_CHG_ACC_LO, Reg.MEAS_CHG_IN_LO, Reg.MEAS_CHG_OUT_LO,
  Reg.PAIR_PARTNER_SERIAL_LO, Reg.CYC_TRAP_PC_LO, Reg.CYC_CYCLE_LO, Reg.TMR_BASE_LO, Reg.TIME_NOW_LO, Reg.TIME_GM_ID_LO,
  Reg.TIME_COMPAT_LO, Reg.ETH_MAC_LO 0, Reg.ETH_MAC_LO 1]

/-- The high word that a master has latched. -/
def State.latched (s : State) (master a : Nat) : Option Nat :=
  (s.acc.latches.find? (fun l => l.1 == master && l.2.1 == a)).map (·.2.2)

/-- The registers of a voted sample, which a read of VOTE.SAMPLE_SEQ latches for its master (R170). -/
def voteRegs : List Nat := [Reg.VOTE_CUR_VOTED, Reg.VOTE_CUR_HIGH, Reg.VOTE_CUR_LOW, Reg.VOTE_V_VOTED, Reg.VOTE_V_HIGH,
  Reg.VOTE_V_LOW, Reg.VOTE_SAMPLE_TIME, Reg.VOTE_CH_STATE]

/-- A master's latch for a high word goes. -/
def State.unlatch (s : State) (master a : Nat) : State :=
  { s with acc := { s.acc with latches := s.acc.latches.filter (fun l => !(l.1 == master && l.2.1 == a)) } }

/-- A master's latch for a high word takes a value. -/
def State.latch (s : State) (master a v : Nat) : State :=
  let s := s.unlatch master a
  { s with acc := { s.acc with latches := (master, a, v) :: s.acc.latches } }

/-- A read of VOTE.SAMPLE_SEQ latches the other voted registers of the sample for the master (R170). -/
def State.latchVote (s : State) (master : Nat) : State := voteRegs.foldl (fun (t : State) r => t.latch master r (s.peek r)) s

/-- A voted register as latched for a master: of CH_STATE the three flags of the sample, the channels' states as they stand. -/
def State.votedAs (s : State) (a v : Nat) : Nat :=
  if a == Reg.VOTE_CH_STATE then (s.peek a &&& (0xFFFFFFFF ^^^ 0x4003)) ||| (v &&& 0x4003) else v

/-- The register that a read at an address clears: CHN1 repeats the sweep registers of CHN0 (R133). -/
def rcReg (a : Nat) : Nat := if pageOf a == Pg.CHN1 && 0x60 ≤ a % 0x1000 && a % 0x1000 ≤ 0x78 then a - 0x1000 else a

/-- The RC bits of the register at `a`; ACC_SAT of the selected slot in LOOP.SEL_STATUS (R258). -/
def rcMask (a : Nat) : Nat := if a == Reg.LOOP_SEL_STATUS then 0x100 else (accAt a).rc

/-- The value that a read returns: in RC fields the one before the additions of its own CLK_FAB cycle (R9). -/
def State.rcValue (s : State) (a v : Nat) : Nat :=
  let rc := rcMask a
  let k := if a == Reg.LOOP_SEL_STATUS then accSatKey s.loopSel else rcReg a
  match s.comp.occ.find? (fun x => x.1 == k) with
  | some e => (v &&& (0xFFFFFFFF ^^^ rc)) ||| ((if a == Reg.LOOP_SEL_STATUS then 0x100 * e.2.1 else e.2.1) &&& rc)
  | none => v

/-- What a read of a register clears (R7, R9): its RC fields, which then hold what the present cycle has added and nothing else. -/
def State.clearRead (s : State) (a : Nat) : State :=
  let rc := rcMask a
  if a == Reg.LOOP_SEL_STATUS then
    let k := accSatKey s.loopSel
    let now := s.added k == 1
    let occ := s.comp.occ.map (fun x => if x.1 == k then (k, 0, 1) else x)
    { s with loops := s.loops.modify s.loopSel (fun x => { x with accSat := now }), comp := { s.comp with occ := occ } }
  else if rc == 0 then s
  else
    let b := rcReg a
    let occ := s.comp.occ.map (fun x => if x.1 == b then (b, 0, x.2.2) else x)
    { s.setReg b ((s.getReg b &&& (0xFFFFFFFF ^^^ rc)) ||| (s.added b &&& rc)) with comp := { s.comp with occ := occ } }

/-- A read of an aligned word of a present page or window by a master: its value, and the state after what the read does. -/
def State.readWord (s : State) (master a : Nat) : Nat × State :=
  let p := pageOf a
  match s.latched master a with
  | some v => if voteRegs.contains a then (s.votedAs a v, s) else (v, s.unlatch master a)
  | none =>
    let v := s.rcValue a (s.peek a)
    if !inPages a || a % 0x1000 < 0x20 || !pagePresent s.variant p then (v, s)
    else
      let s := if lowWords.contains a then s.latch master (a + 4) (s.peek (a + 4))
        else if a == Reg.VOTE_SAMPLE_SEQ then s.latchVote master
        else s.clearRead a
      let o := a % 0x1000
      if (p == Pg.CAN0 || p == Pg.CAN1) && 0xE00 ≤ o && o < 0xF40 then
        (v, s.headRead (p - Pg.CAN0) ((o - 0xE00) / 80) master ((o - 0xE00) % 80 / 4))
      else (v, s)

/-- A group of registers as bytes, low byte first, each word read by a master in its turn (R485). -/
def State.readGroup (s : State) (master : Nat) : List Nat → List Nat × State
  | [] => ([], s)
  | a :: as =>
    let (v, s) := s.readWord master a
    let (bs, s) := s.readGroup master as
    (leBytes 4 v ++ bs, s)

/-- `n` words from an address up, as a master reads them one after the other: the value that they spell, low word first. -/
def State.readWords (s : State) (master a : Nat) : Nat → Nat × State
  | 0 => (0, s)
  | n + 1 =>
    let (v, s) := s.readWord master a
    let (vs, s) := s.readWords master (a + 4) n
    (v + 2 ^ 32 * vs, s)

/-- A core's access of a width in bytes to a page or window is one that it accepts (R44, R52): 32 bits in a page, up to the fabric's
128 bits in a window, aligned. -/
def coreWidth (addr width : Nat) : Bool :=
  addr % width == 0 && (width == 4 || (!inPages addr && (width == 8 || width == 16)))

/-- Memory that core `n` in user mode may read and write, or only read (R368): the segments of the image in use by KIND, the output
image, the input image bank in use. -/
def State.userRam (s : State) (n addr : Nat) (store : Bool) : Bool :=
  let kinds := if n == 0 then (if store then [4, 5, 6, 9] else [1, 3, 4, 5, 6, 9])
    else (if store then [7, 8, 9] else [2, 3, 7, 8, 9])
  let out := 0x10740000 ≤ addr && addr < 0x10742000
  let bank := bankAddr s.cyc.bank ≤ addr && addr < bankAddr s.cyc.bank + 0x20000
  (match s.cyc.image with
   | some p => (segsOf p.body).any (fun g => kinds.contains g.kind && g.load ≤ addr && addr < g.load + g.mem)
   | none => false) || (out && (n == 0 || !store)) || (bank && !store)

/-- Core `n` runs user code: core 0 an entry of the program, core 1 its service task (R368). -/
def State.userMode (s : State) (n : Nat) : Bool := if n == 0 then s.cyc.entry.isSome else n == 1 && s.cyc.svcRuns

/-- The memory protection of R368 lets an access of a core through. -/
def State.pmpOk (s : State) (master addr : Nat) (store : Bool) : Bool :=
  if !s.userMode master then true
  else if isRam addr then s.userRam master addr store
  else match governing? addr with
    | some p => !store || (inPages addr && !s.userStore master p)
    | none => false

/-- A read by a master at any address, with its status and value (R52, R59): a narrower or misaligned read by a core is a fault,
by another master it returns the enclosing word. The contents of the boot ROM are free. -/
def State.readAny (s : State) (master addr width : Nat) : Nat × Nat × State :=
  let a := addr / 4 * 4
  if !s.pmpOk master addr false then (St.unmapped, 0, s.pmpFault master addr false)
  else if !readable master a then (St.unmapped, 0, s.unmapped master addr false)
  else if master < 2 && isRam a then (St.ok, ofLe (readBytes s.ram addr width), s)
  else if master < 2 && a < 0x10000 then (St.ok, Config.freeValue s.freeCtr % 2 ^ (8 * width), s.fresh)
  else if master < 2 && !coreWidth addr width then (St.align, 0, s.refuse master addr St.align false)
  else match governing? a with
    | some p =>
      let wide := !inPages a && coreWidth addr width && (master < 2 || (master == 3 && width == 8))
      let (v, t) := s.readWords master a (if wide then width / 4 else 1)
      (if pagePresent s.variant p then St.ok else St.absent, v, t)
    | none => (St.unmapped, 0, s)

/-- A read by a master leaves as the answer, with its status. -/
def State.readOut (s : State) (master addr width : Nat) : State :=
  let (st, v, t) := s.readAny master addr width
  t.emit .reply st [master, addr, v]

/-- READ_CLEAR (R9): a read of a register with RC fields returns the value and clears them. -/
def execReadClear (master addr : Nat) (s : State) (width : Nat := 4) : Step := .next (if s.live then s.readOut master addr width else s)

/-- LOW_WORD_READ (R52): the low word of a 64-bit quantity is read, and the high word latched for the master. -/
def execLowWordRead (master addr : Nat) (s : State) (width : Nat := 4) : Step := .next (if s.live then s.readOut master addr width else s)

end Sys2Proof.Machine
end

