-- ==== Sys2Proof/Machine/Compositor.lean ====
section
/-! DEFINITION. *The Compositor, the Event Recorder and the Galley* (R402 to R418): grants, what a grant writes, delivery to
core 1 and the host ring, the event recorder, the read window, WAIT. -/

namespace Sys2Proof.Machine

/-! ### The event recorder (R413 to R418) -/

/-- The system list (R415). -/
def systemList : List Nat := [
  Reg.VOTE_CUR_VOTED, Reg.VOTE_CUR_HIGH, Reg.VOTE_CUR_LOW, Reg.VOTE_V_VOTED, Reg.VOTE_V_HIGH, Reg.VOTE_V_LOW,
  Reg.VOTE_CH_STATE, Reg.VOTE_SAMPLE_SEQ, Reg.MODE_STATE, Reg.MODE_FUNC_STATE, Reg.MODE_LATCH, Reg.SAFE_STATE,
  Reg.SAFE_CAUSE_LO, Reg.SAFE_CAUSE_HI, Reg.SAFE_ENVELOPE, Reg.DRV_CONT, Reg.DRV_PWM_STATUS, Reg.DRV_LINK, Reg.PROF_REF,
  Reg.PROF_TARGET_EFF, Reg.CHN0_RING, Reg.NODE_UNHEARD_LO, Reg.NODE_UNHEARD_HI, Reg.PAIR_STATE, Reg.SIO_STATE, Reg.SIO_FB,
  Reg.MRG_TRIP, Reg.BAL_FLOOP]

/-- The TRIGGER code of a system event (R415); the first grant after step 8 of R75 has its own. -/
def systemCode (e : Ev) : Option Nat :=
  if e == Ev.SAFE_FS_START then some 0x80
  else if e == Ev.SAFE_FS_DONE then some 0x81
  else if e == Ev.SAFE_ELL_ENTER then some 0x82
  else if e == ⟨Pg.SAFE, 33⟩ then some 0x84
  else if e == Ev.PAIR_TAKEOVER then some 0x85
  else if e == Ev.PAIR_DEMOTED then some 0x86
  else if e == Ev.DRV_CONTACTOR_WELD then some 0x87
  else none

/-- The recorder freezes (R418). -/
def State.freeze (s : State) : State :=
  if s.flag Fld.EVR_STATE_FROZEN then s
  else
    let s := (s.setB Fld.EVR_CTL_FREEZE true).setB Fld.EVR_STATE_FROZEN true
    { s with evr := { s.evr with freezeAt := s.localNs, post := none } }.raise Ev.EVR_FROZEN

/-- A freeze ends (R418). -/
def State.thaw (s : State) : State :=
  let s := (s.setB Fld.EVR_CTL_FREEZE false).setB Fld.EVR_STATE_FROZEN false
  { s with evr := { s.evr with post := none } }

/-- The registers of a snapshot list are read in order, as reads of a master to which the latch of R52 does not apply (R416). -/
def State.snapshot : State → List Nat → List Nat × State
  | s, [] => ([], s)
  | s, a :: t =>
    let v := s.rcValue a (s.peek a)
    let s := if inPages a && 0x20 ≤ a % 0x1000 && pagePresent s.variant (pageOf a) then s.clearRead a else s
    let (vs, s) := s.snapshot t
    (v :: vs, s)

/-- A record is taken of a granted event (R413, R416); a freeze that POST delays comes after its last record (R418). -/
def State.takeRecord (s : State) (w : Waiting) (seq arg trig : Nat) (regs : List Nat) (preceded : Bool) : State :=
  let (snap, s) := s.snapshot regs
  let r : Record := {
    index := 0, seq := seq, time := w.time, timeWraps := s.comp.wraps, hours := s.hours,
    powerCycles := s.getReg Reg.SYS_POWER_CYCLES, trigger := trig, source := w.page, bit := w.num, arg := arg,
    modeState := s.getReg Reg.MODE_STATE, edition := s.getReg Reg.PAIR_EDITION,
    flags := s.getF Fld.EVR_STATE_FROZEN + 2 * b2n preceded, snap := snap }
  let s := { s with evr := { s.evr with taken := s.evr.taken ++ [r] } }
  match s.evr.post with
  | some (n + 2) => { s with evr := { s.evr with post := some (n + 1) } }
  | some _ => s.freeze
  | none => s

/-- The registers that trigger `n` snapshots: the first COUNT of its list (R414). -/
def State.trigRegs (s : State) (n : Nat) : List Nat :=
  (List.range (s.getF (Fld.EVR_TRIG_COUNT n))).map (fun i => s.getReg (Reg.EVR_LIST (s.getF (Fld.EVR_TRIG_LIST n)) + 4 * i))

/-- Whether an enabled trigger names an event (R414). -/
def State.trigMatches (s : State) (n : Nat) (w : Waiting) : Bool :=
  s.flag (Fld.EVR_TRIG_ENABLE n) && s.getF (Fld.EVR_TRIG_SOURCE n) == w.page && s.getF (Fld.EVR_TRIG_BIT n) == w.num

/-- Trigger `n` meets an event that it names (R414, R418): it records, or counts a match that holdoff or a freeze suppresses. -/
def State.trigger (s : State) (w : Waiting) (seq arg n : Nat) : State :=
  let held := s.evr.holdoff.any (fun h => h.1 == n && s.localNs < h.2)
  if s.flag Fld.EVR_STATE_FROZEN then s.countReg Reg.EVR_MISSED
  else if held then
    { (s.countReg Reg.EVR_MISSED) with evr := { s.evr with missedSince := n :: s.evr.missedSince.filter (· != n) } }
  else
    let until' := s.localNs + 1000000 * s.getF (Fld.EVR_TRIG_HOLDOFF n)
    let prec := s.evr.missedSince.contains n
    let s := s.takeRecord w seq arg n (s.trigRegs n) prec
    let s := { s with evr := { s.evr with
      missedSince := s.evr.missedSince.filter (· != n),
      holdoff := (n, until') :: s.evr.holdoff.filter (fun h => h.1 != n) } }
    if s.flag (Fld.EVR_TRIG_FREEZE n) && s.evr.post.isNone && !s.flag Fld.EVR_STATE_FROZEN then
      let p := s.getF Fld.EVR_CTL_POST
      if p == 0 then s.freeze else { s with evr := { s.evr with post := some p } }
    else s

/-- What the recorder takes of a granted event: the system record first, then the triggers in ascending order (R413). Its own
events never trigger one. -/
def State.recordGrant (s : State) (w : Waiting) (seq arg : Nat) : State :=
  if w.page == Pg.EVR then s
  else
    let first := s.phase == .up && !s.comp.firstGrantDone
    let s := match systemCode ⟨w.page, w.num⟩ with
      | some c => s.takeRecord w seq arg c systemList false
      | none => s
    let s := if first then
        ({ s with comp := { s.comp with firstGrantDone := true } }).takeRecord w seq (s.getReg Reg.SYS_RESET_CAUSE) 0x83
          systemList false
      else s
    if s.flag Fld.EVR_CTL_ENABLE && w.num < 32 then
      ((List.range 32).filter (fun n => s.trigMatches n w)).foldl (fun (s : State) n => s.trigger w seq arg n) s
    else s

/-- The oldest record taken is committed to MRAM with the next INDEX (R413, R416). -/
def State.commitRecord (s : State) : State :=
  match s.evr.taken with
  | [] => s
  | r :: t =>
    let i := (s.evr.ring.head?.map (·.index)).getD 0 + 1
    { s with evr := { s.evr with ring := ({ r with index := i % 2 ^ 32 } :: s.evr.ring).take 4096, taken := t } }.raise
      Ev.EVR_RECORD

/-- RECORD (R416): a triggered or system record is committed. -/
def execRecord (s : State) : Step := .next (if s.live then s.commitRecord else s)

/-- A write of EVR.CURSOR starts the copy into the window (R417). -/
def State.cursorWrite (s : State) (value : Nat) : State :=
  let s := s.setReg Reg.EVR_CURSOR value
  { s with evr := { s.evr with copying := some (value % 2 ^ 32) } }

/-- CURSOR_WRITE (R417). -/
def execCursorWrite (master value : Nat) (s : State) : Step :=
  .next (s.permit master Reg.EVR_CURSOR (fun s => s.cursorWrite value))

/-- CURSOR_READY (R417): the 16 records from CURSOR on stand in the window, as the ring holds them now. -/
def execCursorReady (s : State) : Step :=
  match s.live, s.evr.copying with
  | true, some c =>
    let win := (List.range 16).map (fun i => s.evr.ring.find? (fun r => r.index != 0 && r.index == (c + i) % 2 ^ 32))
    .next ({ s with evr := { s.evr with window := win, copying := none } }.raise Ev.EVR_CURSOR_READY)
  | _, _ => .next s

/-- FREEZE_EXPIRED (R418): a freeze has lasted FREEZE_LIMIT_S. -/
def execFreezeExpired (s : State) : Step :=
  .next (if s.live && s.flag Fld.EVR_STATE_FROZEN then s.thaw.raise Ev.EVR_FREEZE_EXPIRED else s)

/-! ### Delivery (R410 to R412) -/

/-- A WAIT of core 1 returns with a number of records copied (R411). -/
def State.waitReturn (s : State) (n : Nat) : State :=
  { s with comp := { s.comp with waitReq := none } }.emit (.core 1) 0x10 [n]

/-- Core 1 takes records into its buffer: as many as wait, at most `cap` (R411). -/
def State.waitCopy (s : State) (addr cap : Nat) : State :=
  let l := s.comp.core.take cap
  let s := if isRam addr then s.setBytes addr (l.flatMap (fun (e : EvRec) => e.words.flatMap (leBytes 4))) else s
  { s with comp := { s.comp with core := s.comp.core.drop cap } }.waitReturn l.length

/-- A record enters core 1's queue, or is dropped; a WAIT that blocks returns (R411). -/
def State.toCore (s : State) (e : EvRec) : State :=
  if !s.flag Fld.SEQ_CTL_CORE_QUEUE then s
  else if 1024 ≤ s.comp.core.length then
    let s := (s.countReg Reg.SEQ_CORE_LOST).raiseIf (!s.comp.dropping) Ev.SEQ_CORE_OVERFLOW
    { s with comp := { s.comp with dropping := true } }
  else
    let s := { s with comp := { s.comp with core := s.comp.core ++ [e], dropping := false } }
    match s.comp.waitReq with
    | some (a, n) => s.waitCopy a n
    | none => s

/-- A record enters the host ring (R412). -/
def State.toHost (s : State) (e : EvRec) : State :=
  if !s.flag Fld.SEQ_CTL_HOST_RING then s
  else
    let i := s.getReg Reg.SEQ_HOST_COUNT % 192
    let s := s.wrapReg Reg.SEQ_HOST_COUNT
    { s with comp := { s.comp with ring := (i, e) :: s.comp.ring.filter (fun x => x.1 != i) } }

/-- A granted page event is delivered where EVENT_EN has its bit (R410). -/
def State.deliverEvent (s : State) (w : Waiting) (seq arg : Nat) : State :=
  if bitOf (s.getReg (Folio.EVENT_EN w.page)) w.num then
    let e : EvRec := ⟨seq, w.time, w.rep * 2 ^ 24 + w.cls * 2 ^ 16 + w.num * 256 + w.page, arg⟩
    (s.toHost e).toCore e
  else s

/-- WAIT (R373, R411): core 1 takes the records that wait, or blocks. -/
def execWait (addr cap _timeoutUs : Nat) (s : State) : Step :=
  .next (if !(s.live && s.cyc.svcRuns) then s
    else if s.comp.core.isEmpty then { s with comp := { s.comp with waitReq := some (addr, cap) } }
    else s.waitCopy addr cap)

/-- WAIT_TIMEOUT (R373, R411): the time of a WAIT has run out; it returns 0. -/
def execWaitTimeout (s : State) : Step :=
  .next (if s.live && s.comp.waitReq.isSome then s.waitReturn 0 else s)

/-! ### Grants (R405 to R409) -/

/-- The order of grants among waiting events: arrival cycle, class, source, number (R405). -/
def grantKey (w : Waiting) : Nat := ((w.arrival * 8 + w.cls) * 256 + w.page) * 64 + w.num

/-- The earlier of two waiting events. -/
def earlier (a : Option Waiting) (b : Waiting) : Option Waiting :=
  match a with
  | none => some b
  | some x => if grantKey b < grantKey x then some b else some x

/-- The event granted in a cycle: the first by the order of R405 among those that have arrived, bound timeouts apart (R406). -/
def grantPick (c : Compositor) : Option Waiting :=
  (c.waiting.filter (fun w => w.arrival ≤ c.cycle && w.bound.isNone)).foldl earlier none

/-- Registers that hold the sequence number of an event of theirs. -/
def seqRegs (v : Variant) : List (Ev × Nat) := [
  (Ev.MODE_REQ_DONE, Reg.MODE_REQ_SEQ), (Ev.MODE_MODE_CHANGED, Reg.MODE_ENTRY_SEQ),
  (Ev.CHN_SWEEP_DONE 0, Reg.CHN_SWEEP_SEQ 0), (Ev.EST_EST_DONE, Reg.EST_UPDATE_SEQ), (Ev.PROF_ARRIVED, Reg.PROF_ARRIVE_SEQ),
  (Ev.CYC_CYCLE_START, Reg.CYC_START_SEQ), (Ev.CYC_EXCHANGED, Reg.CYC_EXCH_SEQ)]
  ++ (if v == .F then [(Ev.ASY_RUN_DONE, Reg.ASY_RUN_SEQ), (Ev.ASY_RUN_ABORTED, Reg.ASY_RUN_SEQ)] else [])

/-- The Galley slots that await a number take it: SEQ at LINE_OPEN (R420). -/
def seqLines (e : Ev) (seq : Nat) (l : List GSlot) : List GSlot :=
  if e == Ev.GAL_LINE_OPEN then l.map (fun (x : GSlot) => if x.seqKnown then x else { x with seq := seq, seqKnown := true })
  else l

/-- What a granted event's number is written to besides SEQ and its page. -/
def State.grantSeq (s : State) (e : Ev) (seq : Nat) : State :=
  let s := match (seqRegs s.variant).find? (fun p => p.1 == e) with
    | some p => s.setReg p.2 seq
    | none => s
  let s := if e == Ev.EST_EST_DONE then { s with est := { s.est with pubSeq := seq } } else s
  { s with gal := { s.gal with slots := seqLines e seq s.gal.slots } }

/-- The counters of a grant (R408, R409, R423): LAST, LAST_TIME, MAX_WAIT_NS, NEXT in MRAM every 65,536 grants, SEQ_WRAP. -/
def State.grantCount (s : State) (w : Waiting) (seq : Nat) : State :=
  let s := (s.setReg Reg.SEQ_LAST seq).setReg Reg.SEQ_LAST_TIME w.time
  let s := s.occur Reg.SEQ_MAX_WAIT_NS (fun x => max x (satU 32 (2 * (s.comp.cycle - w.arrival))))
  let n := s.comp.grantsSinceStore + 1
  let s := { s with comp := { s.comp with grantsSinceStore := n % 65536, lastTime := w.time } }
  let s := if n == 65536 then s.setRegM Reg.SEQ_NEXT (seq + 1) else s
  s.raiseIf (seq == 0) Ev.SEQ_SEQ_WRAP

/-- One event is granted (R405): its bound timeouts are withdrawn (R406), it is numbered, its page's EVENTS bit and SEQ_LAST are
written (R48), announcements that wait for it leave (R452), it is recorded and delivered. -/
def State.grant (s : State) (w : Waiting) : State :=
  let seq := s.nextSeq
  let e : Ev := ⟨w.page, w.num⟩
  let mine := fun (x : Waiting) => x.bound == some (w.page, w.num) && x.arrival == w.arrival
  let gone := (s.comp.waiting.filter mine).length
  let s := { s with comp := { s.comp with waiting := s.comp.waiting.filter (fun x => x != w && !mine x) } }
  let s := if gone == 0 then s else s.occur Reg.SEQ_WITHDRAWN (fun w => satU 32 (w + gone))
  let s := (s.grantCount w seq).grantSeq e seq
  let arg := if e == Ev.GAL_LINE_OPEN then seq else w.arg
  let s := if w.num < 32 then
      (s.setReg (Folio.EVENTS w.page) (putBit (s.getReg (Folio.EVENTS w.page)) w.num true)).setReg (Folio.SEQ_LAST w.page) seq
    else s
  let s := (s.announceGranted e seq w.time).recordGrant w seq arg
  if w.num < 32 then s.deliverEvent w seq arg else s

end Sys2Proof.Machine
end

