-- ==== Sys2Proof/Machine/Latch.lean ====
section
/-! DEFINITION. The input image of the cyclic program (R378), the deadline of a cycle (R377, R384), single steps (R381). -/

namespace Sys2Proof.Machine

/-- Registers that stand in the input image from offset 16 to 139, in the order of R378. -/
def imageRegs : List Nat := [
  Reg.MODE_STATE, Reg.MODE_FUNC_STATE, Reg.MODE_LATCH, Reg.SAFE_CAUSE_LO, Reg.SAFE_CAUSE_HI, Reg.SIO_STATE, Reg.SIO_FB,
  Reg.VOTE_CUR_VOTED, Reg.VOTE_CUR_HIGH, Reg.VOTE_CUR_LOW, Reg.VOTE_V_VOTED, Reg.VOTE_V_HIGH, Reg.VOTE_V_LOW,
  Reg.VOTE_CH_STATE, Reg.VOTE_SAMPLE_SEQ, Reg.MEAS_CHG_ACC_LO, Reg.MEAS_CHG_ACC_HI, Reg.EST_STRING_SOC,
  Reg.EST_DISCHARGEABLE, Reg.EST_CHARGEABLE, Reg.EST_STATE, Reg.EST_WARN, Reg.EST_UPDATE_SEQ, Reg.EST_EXTREMES, Reg.PROF_REF,
  Reg.PROF_AUTH_HI, Reg.PROF_AUTH_LO, Reg.MRG_POL_ICHG, Reg.MRG_POL_IDIS, Reg.CYC_OUT_STATUS, Reg.CYC_STATE]

/-- Bytes 0 to 511 of the input image, with the number of the cycle start event. -/
def State.imageHead (s : State) (cycle seq : Nat) : List Nat :=
  let g := fun (i : Nat) => (s.chain.wordsG[i]?).getD 0
  let st := g 0
  let kind := st % 16
  leBytes 8 cycle ++ leBytes 4 s.stamp ++ leBytes 4 seq ++ imageRegs.flatMap (fun a => leBytes 4 (s.peek a))
    ++ leBytes 2 (st / 65536)
    ++ [kind, b2n (bitOf st 7) + 2 * b2n (bitOf st 6) + 4 * b2n (bitsOf st 15 8 != 0)]
    ++ leBytes 4 (g 1) ++ leBytes 4 (g 2) ++ [slotLen kind, 0, 0, 0]
    ++ leBytes 4 (s.peek Reg.PAIR_STATE) ++ leBytes 4 (s.peek (Folio.STATUS Pg.BAL)) ++ List.replicate 348 0

/-- The slots of the last sweep whose completion has been granted, at 80 bytes each (R13, R378). -/
def State.imageSlots (s : State) : List Nat :=
  ((s.chain.imageG.take 64).flatMap (fun (b : List Nat) => (b ++ List.replicate 80 0).take 80) ++ List.replicate 5120 0).take 5120

/-- The latest published bank of the Cell Record Table, whatever bank a host holds (R378, R221). -/
def State.imageCells (s : State) : List Nat :=
  let t := { s with est := { s.est with held := none } }
  (List.range 512).flatMap t.cellRecord

/-- The last completed sweep is the last one granted (R13); the estimation engine takes it where it is a used one (R200, R220). -/
def State.sweepGranted (s : State) : State :=
  let ws := [s.getReg Reg.CHN0_SWEEP_STATUS, s.getReg (Reg.CHN_SWEEP_TIME 0), s.getReg (Reg.CHN_SWEEP_SEQ 0)]
  { s with chain := { s.chain with imageG := s.chain.image, wordsG := ws } }.estAdopt

/-- The cycle start event has been granted with number `seq` (R13): the free bank takes the input image, and the program's bank is
that one (R378). A program that a trap of the same cycle has stopped latches none (R397). -/
def State.latchImage (s : State) (seq : Nat) : State :=
  if s.cycNow != 1 && !s.cyc.step then s
  else
  let cycle := s.getReg Reg.CYC_CYCLE_LO + 2 ^ 32 * s.getReg Reg.CYC_CYCLE_HI
  let b := 1 - s.cyc.bank % 2
  let a := bankAddr b
  let kept := s.ram.filter (fun (e : Nat × BitVec 8) => decide (e.1 < a) || decide (a + 0x20000 ≤ e.1))
  let s := { s with ram := kept, cyc := { s.cyc with bank := b } }
  (((s.setBytes a (s.imageHead cycle seq)).setBytes (a + 512) s.imageSlots).setBytes (a + 8192) s.imageCells)

/-- A cycle starts (R377): CYCLE_START is raised, at whose grant the input image is latched (R13), the edge slots lose their Q
(R388), and the entry is called. -/
def State.cycleCall (s : State) (entry lateNs : Nat) : State :=
  let n := s.getReg Reg.CYC_CYCLE_LO + 2 ^ 32 * s.getReg Reg.CYC_CYCLE_HI + 1
  let s := s.raise Ev.CYC_CYCLE_START
  let s := (s.setReg Reg.CYC_CYCLE_LO (n % 2 ^ 32)).setReg Reg.CYC_CYCLE_HI (n / 2 ^ 32)
  let tmr := s.cyc.tmr.map (fun (t : Tmr) => if t.kind == 4 || t.kind == 5 then { t with q := false } else t)
  let s := s.occur Reg.CYC_START_LATE_NS (fun w => max w (satU 32 lateNs))
  { s with cyc := { s.cyc with tmr := tmr, entry := some entry, late := false, done := false } }

/-- CMD STEP (R381): from HOLD one cycle runs on a fresh input image. -/
def State.cmdStep (s : State) (lateNs : Nat) : State :=
  if s.cycNow != 2 then s.raise Ev.CYC_CMD_IGNORED
  else if s.cyc.step then s
  else ({ s with cyc := { s.cyc with step := true, skip := false } }).cycleCall 3 lateNs

/-- CYC_STEP (R381). -/
def execCycStep (master : Nat) (s : State) : Step := .next (s.permit master Reg.CYC_CTL (fun s => s.cycAsk 4 0))

/-- The grant of the commands of CYC.CTL (R381, R397). -/
def State.cycGranted (s : State) : State :=
  s.cyc.cmds.foldl (fun (s : State) (c : Nat × Nat) => match c.1 with
    | 1 => s.cmdRun c.2
    | 2 => s.cmdStop
    | 3 => s.cmdHold
    | 4 => s.fresh.cmdStep (Config.freeValue s.freeCtr)
    | _ => s.raise Ev.CYC_CMD_IGNORED) { s with cyc := { s.cyc with cmds := [] } }

/-- A cycle's entry has missed its deadline (R384): OVERRUN; the next cycle is skipped. -/
def State.deadlineMissed (s : State) : State :=
  let s := { s with cyc := { s.cyc with late := true, skip := true, step := false } }
  ((s.countReg Reg.CYC_OVERRUNS).raise Ev.CYC_OVERRUN).overrun

/-- The cycle entry, or the exchange entry before it, runs. -/
def State.cycleRuns (s : State) : Bool := s.cyc.entry == some 2 || s.cyc.entry == some 3

end Sys2Proof.Machine
end

