-- ==== Sys2Proof/Machine/Ranges.lean ====
section
/-! DEFINITION. The ranges of register fields (R555): a write that places a value outside the range of a field leaves that field
unchanged. -/

namespace Sys2Proof.Machine

/-- A field with its allowed values `min` to `max`, those divisible by `step` alone. -/
structure Range where
  fld : Fld
  min : Nat
  max : Nat
  step : Nat
  deriving DecidableEq, Repr

/-- Ranges of the pages SYS to MEAS and AUX. -/
def ranges0 : List Range := [
  ⟨⟨Reg.MODE_START_LIMIT, 15, 0⟩, 100, 10000, 1⟩, ⟨⟨Reg.MODE_STOP_LIMIT, 15, 0⟩, 100, 10000, 1⟩,
  ⟨⟨Reg.SYS_VRA_CTL, 31, 16⟩, 10, 3600, 1⟩, ⟨⟨Reg.CLK_WDG_CTL, 15, 0⟩, 10, 1000, 1⟩,
  ⟨⟨Reg.CLK_DRIFT_LIM, 31, 0⟩, 1000, 100000, 1⟩, ⟨⟨Reg.AUX_WALK_CTL, 2, 1⟩, 1, 3, 1⟩, ⟨⟨Reg.EVR_CTL, 31, 16⟩, 1, 600, 1⟩,
  ⟨⟨Reg.TIME_SYNC_CTL, 1, 0⟩, 0, 2, 1⟩, ⟨⟨Reg.TIME_STEP_CTL, 31, 16⟩, 1, 500, 1⟩, ⟨⟨Reg.TIME_STEP_CTL, 7, 4⟩, 1, 8, 1⟩,
  ⟨⟨Reg.TIME_PTP_CFG, 7, 0⟩, 0, 127, 1⟩, ⟨⟨Reg.TIME_STEP_THR, 31, 0⟩, 1000, 1000000000, 1⟩,
  ⟨⟨Reg.CHN0_SWEEP_CTL, 23, 16⟩, 100, 130, 1⟩, ⟨⟨Reg.CHN0_DLY_CTL, 15, 0⟩, 1, 600, 1⟩, ⟨⟨Reg.NODE_SEL, 7, 0⟩, 1, 64, 1⟩,
  ⟨⟨Reg.NODE_NREG_CMD, 31, 24⟩, 1, 64, 1⟩, ⟨⟨Reg.BAL_SEL, 7, 0⟩, 1, 64, 1⟩, ⟨⟨Reg.VOTE_READMIT, 15, 0⟩, 1, 600, 1⟩,
  ⟨⟨Reg.VOTE_DELAY_C, 12, 0⟩, 0, 5000, 1⟩]

/-- Ranges of the pages EST to PAIR. -/
def ranges1 : List Range := [
  ⟨⟨Reg.EST_WARN_LEVELS, 31, 16⟩, 5000, 10000, 1⟩, ⟨⟨Reg.EST_WARN_LEVELS, 15, 0⟩, 0, 5000, 1⟩,
  ⟨⟨Reg.EST_SOC_RULES, 31, 16⟩, 1, 1000, 1⟩, ⟨⟨Reg.EST_SOC_RULES, 15, 0⟩, 1, 1000, 1⟩, ⟨⟨Reg.EST_SPREAD_LIM, 15, 0⟩, 100, 5000, 1⟩,
  ⟨⟨Reg.CELL_HOLD_LIMIT, 31, 0⟩, 100, 60000, 1⟩, ⟨⟨Reg.ASY_PERIODS, 31, 24⟩, 2, 64, 2⟩, ⟨⟨Reg.ASY_PERIODS, 23, 16⟩, 1, 16, 1⟩,
  ⟨⟨Reg.ASY_PERIODS, 15, 8⟩, 2, 64, 2⟩, ⟨⟨Reg.ASY_PERIODS, 7, 0⟩, 1, 16, 1⟩, ⟨⟨Reg.ASY_TEMP_CTL, 15, 8⟩, 10, 250, 1⟩,
  ⟨⟨Reg.ASY_DRIFT_LIM, 15, 0⟩, 10, 5000, 1⟩, ⟨⟨Reg.ASY_OUTLIER_PCT, 7, 0⟩, 5, 200, 1⟩,
  ⟨⟨Reg.THM_TIN_CFG, 7, 6⟩, 0, 2, 1⟩, ⟨⟨Reg.THM_TIN_CFG, 5, 4⟩, 0, 2, 1⟩, ⟨⟨Reg.THM_TIN_CFG, 3, 2⟩, 0, 2, 1⟩,
  ⟨⟨Reg.THM_TIN_CFG, 1, 0⟩, 0, 2, 1⟩, ⟨⟨Reg.THM_HEAT_PERIOD, 5, 0⟩, 1, 60, 1⟩, ⟨⟨Reg.PAIR_SWAP_CFG, 31, 16⟩, 1, 24, 1⟩,
  ⟨⟨Reg.PAIR_SWAP_CFG, 15, 0⟩, 1, 168, 1⟩, ⟨⟨Reg.MRG_FILT, 31, 24⟩, 1, 4, 1⟩, ⟨⟨Reg.MRG_FILT, 23, 16⟩, 1, 4, 1⟩,
  ⟨⟨Reg.MRG_FILT, 15, 8⟩, 1, 100, 1⟩, ⟨⟨Reg.MRG_FILT, 7, 0⟩, 1, 100, 1⟩, ⟨⟨Reg.MRG_UNMON_MAX, 5, 0⟩, 0, 32, 1⟩,
  ⟨⟨Reg.SAFE_ELL_CFG, 31, 16⟩, 60, 1800, 1⟩, ⟨⟨Reg.SAFE_ELL_CFG, 15, 0⟩, 1, 50, 1⟩]
  ++ (List.range 8).flatMap (fun i => [⟨⟨Reg.SIO_CFG i, 25, 16⟩, 10, 1000, 1⟩, ⟨⟨Reg.SIO_CFG i, 5, 4⟩, 0, 1, 1⟩])

/-- Ranges of the pages CYC to TWB. -/
def ranges2 : List Range := [
  ⟨⟨Reg.CYC_HOLD, 15, 0⟩, 1, 60, 1⟩, ⟨⟨Reg.CYC_CFG, 15, 8⟩, 1, 16, 1⟩, ⟨⟨Reg.CYC_SHADOW_PERIOD, 31, 0⟩, 100, 60000, 1⟩,
  ⟨⟨Reg.FLT_SPAN0, 28, 16⟩, 0, 4096, 1⟩, ⟨⟨Reg.FLT_SPAN1, 28, 16⟩, 0, 4096, 1⟩, ⟨⟨Reg.TWB_TGT_CTL, 6, 0⟩, 0x08, 0x76, 1⟩,
  ⟨⟨Reg.TWB_C_CMD, 31, 26⟩, 0, 32, 1⟩, ⟨⟨Reg.TWB_C_CMD, 25, 20⟩, 0, 32, 1⟩]
  ++ [0, 1].flatMap (fun n => [
    ⟨⟨Reg.CAN_NBT n, 31, 24⟩, 2, 255, 1⟩, ⟨⟨Reg.CAN_NBT n, 23, 17⟩, 1, 127, 1⟩, ⟨⟨Reg.CAN_NBT n, 16, 10⟩, 1, 127, 1⟩,
    ⟨⟨Reg.CAN_NBT n, 4, 0⟩, 1, 31, 1⟩, ⟨⟨Reg.CAN_DBT n, 24, 20⟩, 1, 31, 1⟩, ⟨⟨Reg.CAN_DBT n, 4, 0⟩, 1, 31, 1⟩,
    ⟨⟨Reg.CAN_DBT n, 19, 16⟩, 1, 15, 1⟩, ⟨⟨Reg.CAN_DBT n, 15, 12⟩, 1, 15, 1⟩, ⟨⟨Reg.CAN_TREF_CTL n, 31, 16⟩, 10, 10000, 1⟩,
    ⟨⟨Reg.CAN_TREF_DLY_NS n, 15, 0⟩, 0, 10000, 1⟩, ⟨⟨Reg.ETH_PORT_CTL n, 2, 1⟩, 1, 3, 1⟩])

/-- The ranges of the fields of a register. -/
def rangesOf (a : Nat) : List Range := (ranges0 ++ ranges1 ++ ranges2).filter (fun r => r.fld.addr == a)

/-- A word to be written, with the old bits in every field that it would take out of its range. -/
def inRanges (rs : List Range) (old new : Nat) : Nat :=
  rs.foldl (fun w (r : Range) =>
    let x := bitsOf new r.fld.hi r.fld.lo
    if r.min ≤ x && x ≤ r.max && x % r.step == 0 then w else putBits w r.fld.hi r.fld.lo (bitsOf old r.fld.hi r.fld.lo)) new

end Sys2Proof.Machine
end

