-- ==== Sys2Proof/Machine/Twb.lean ====
section
/-! DEFINITION. *The Two-Wire Rack Bus* (R483 to R495): the module as target and as controller. -/

namespace Sys2Proof.Machine

/-! ### Target (R485 to R488, R491) -/

/-- The target's 7-bit address (R485). -/
def State.tgtAddr (s : State) : Nat := s.getF Fld.TWB_TGT_CTL_ADDR + s.getF Fld.AUX_ADDR_ROLE

/-- The target answers (R486): from step 5 of the start-up sequence on, while ENABLE is 1; a write of ENABLE in the same cycle comes
after the address match (R493). -/
def State.tgtReady (s : State) : Bool := bitOf (s.before Reg.TWB_TGT_CTL) 8 && decide (5 ≤ s.getF Fld.AUX_START_STATUS_STEP)

/-- Command codes of the target (R485). -/
def tgtCodes : List Nat := [0x01, 0x02, 0x03, 0x04, 0x10, 0x11, 0x12]

/-- A transaction addressed to the target with a command code, of the row of command `own`: the target NACKs its address where it
cannot answer; `f` where the code is the row's; a code that the table does not list is counted (R485, R486). -/
def State.target (s : State) (own code : Nat) (f : State → State) : State :=
  if !s.live then s
  else
    let s := { s with twb := { s.twb with free := false } }
    if !s.tgtReady then s.countReg Reg.TWB_BUSY_NACKS
    else if code == own then f s
    else if tgtCodes.contains code then s
    else (s.countReg Reg.TWB_CMD_ERR).raise Ev.TWB_CMD_UNKNOWN

/-- The bytes of a read leave (R487): the count byte if the command has one, the data bytes that the controller clocks, and the PEC
where it acknowledges the last data byte and clocks one more. -/
def State.tgtSend (s : State) (code : Nat) (block : Bool) (data : List Nat) (len : Nat) (pec : Bool) : State :=
  let head := if block then [data.length] else []
  let all := [2 * s.tgtAddr, code, 2 * s.tgtAddr + 1] ++ head ++ data
  let tail := if pec && data.length ≤ len then [crc8 all] else []
  (s.emit .twb code (head ++ data.take len ++ tail)).countReg Reg.TWB_TGT_READS

/-- The answer to a command that names a group of registers: each word is read by the two-wire target (R52, R485). -/
def State.tgtGroup (s : State) (code : Nat) (as : List Nat) (len : Nat) (pec : Bool) : State :=
  let (bs, t) := s.readGroup 4 as
  t.tgtSend code true bs len pec

/-- TWB_IDENT_READ (R485): command 0x01. -/
def execTwbIdentRead (code len : Nat) (pec : Bool) (s : State) : Step :=
  .next (s.target 0x01 code (fun s => s.tgtGroup 0x01 [Reg.SYS_IDENT, Reg.SYS_SERIAL_LO, Reg.SYS_SERIAL_HI] len pec))

/-- TWB_MODE_READ (R485): command 0x02. -/
def execTwbModeRead (code len : Nat) (pec : Bool) (s : State) : Step :=
  .next (s.target 0x02 code (fun s =>
    s.tgtGroup 0x02 [Reg.MODE_STATE, Reg.MODE_LATCH, Reg.MODE_REQ_RESULT, Reg.SYS_RESET_CAUSE] len pec))

/-- TWB_HOURS_READ (R485): command 0x03. -/
def execTwbHoursRead (code len : Nat) (pec : Bool) (s : State) : Step :=
  .next (s.target 0x03 code (fun s => s.tgtGroup 0x03 [Reg.SYS_HOURS, Reg.SYS_POWER_CYCLES] len pec))

/-- TWB_ADDR_READ (R485): command 0x04. -/
def execTwbAddrRead (code len : Nat) (pec : Bool) (s : State) : Step :=
  .next (s.target 0x04 code (fun s =>
    s.tgtGroup 0x04 [Reg.AUX_ADDR, Reg.AUX_ADDR_IO, Reg.AUX_START_STATUS] len pec))

/-- TWB_POINTER_WRITE (R485, R487): command 0x10; a PEC that fails, or a missing one that PEC_REQ asks for, discards the write. -/
def execTwbPointerWrite (code addr : Nat) (pec : Option Nat) (s : State) : Step :=
  .next (s.target 0x10 code (fun s =>
    let sum := crc8 ([2 * s.tgtAddr, 0x10, 4] ++ leBytes 4 addr)
    match pec with
    | some p =>
      if p == sum then (s.setReg Reg.TWB_TGT_POINTER addr).countReg Reg.TWB_TGT_READS
      else (s.countReg Reg.TWB_PEC_ERRS).raise Ev.TWB_PEC_ERR
    | none =>
      (if s.flag Fld.TWB_TGT_CTL_PEC_REQ then s else s.setReg Reg.TWB_TGT_POINTER addr).countReg Reg.TWB_TGT_READS))

/-- TWB_POINTER_READ (R485): command 0x11: STATUS and the word at the pointer, which advances after OK or ABSENT. The word of a
refused access is unstated. -/
def execTwbPointerRead (code len : Nat) (pec : Bool) (s : State) : Step :=
  .next (s.target 0x11 code (fun s =>
    let p := s.getReg Reg.TWB_TGT_POINTER
    let (st, v, t) := s.readAny 4 p 4
    if st == St.ok || st == St.absent then (t.setReg Reg.TWB_TGT_POINTER (p + 4)).tgtSend 0x11 true (st :: leBytes 4 v) len pec
    else t.fresh.tgtSend 0x11 true (st :: leBytes 4 (Config.freeValue t.freeCtr)) len pec))

/-- TWB_FIXED_POINTER_READ (R485): command 0x12: the word at the pointer, 0 where the access is refused. -/
def execTwbFixedPointerRead (code len : Nat) (pec : Bool) (s : State) : Step :=
  .next (s.target 0x12 code (fun s =>
    let (_, v, t) := s.readAny 4 (s.getReg Reg.TWB_TGT_POINTER) 4
    t.tgtSend 0x12 false (leBytes 4 v) len pec))

/-- TWB_PROTO_ERR (R488): a START in the acknowledge slot of a transaction with the target. -/
def execTwbProtoErr (s : State) : Step :=
  .next (if s.live then (s.countReg Reg.TWB_PROTO_ERRS).raise Ev.TWB_PROTO_ERR else s)

/-- TWB_TGT_TIMEOUT (R491): SCL low for 30 ms resets the target's interface. -/
def execTwbTgtTimeout (s : State) : Step :=
  .next (if s.live then (s.countReg Reg.TWB_TIMEOUTS).raise Ev.TWB_TIMEOUT else s)

/-! ### Controller (R489 to R492) -/

/-- Fields of the latched C_CTL and C_CMD. -/
def TwbRun.prot (r : TwbRun) : Nat := bitsOf r.cmd 3 0
def TwbRun.code (r : TwbRun) : Nat := bitsOf r.cmd 15 8
def TwbRun.wlen (r : TwbRun) : Nat := bitsOf r.cmd 25 20
def TwbRun.rlen (r : TwbRun) : Nat := bitsOf r.cmd 31 26
def TwbRun.addr (r : TwbRun) : Nat := bitsOf r.ctl 6 0
def TwbRun.pec (r : TwbRun) : Bool := bitOf r.ctl 7

/-- The bytes that the controller sends up to its STOP, PEC apart, or up to the first byte it reads (R483, R489). -/
def TwbRun.bytes (r : TwbRun) : List Nat :=
  let w := 2 * r.addr
  match r.prot with
  | 0x0 => [w]
  | 0x1 => [w + 1]
  | 0x2 => [w, r.code]
  | 0x3 => [w + 1]
  | 0x4 => [w, r.code] ++ r.data.take 1
  | 0x5 => [w, r.code, w + 1]
  | 0x6 => [w, r.code] ++ r.data.take 2
  | 0x7 => [w, r.code, w + 1]
  | 0x8 => [w, r.code] ++ r.data.take 2 ++ [w + 1]
  | 0x9 => [w, r.code, r.wlen] ++ r.data.take r.wlen
  | 0xA => [w, r.code, w + 1]
  | 0xB => [w, r.code, r.wlen] ++ r.data.take r.wlen ++ [w + 1]
  | 0xC => [w, r.code] ++ r.data.take r.wlen
  | _ => [w, r.code, w + 1]

/-- The transaction reads a block with a count byte. -/
def TwbRun.block (r : TwbRun) : Bool := r.prot == 0xA || r.prot == 0xB

/-- The transaction ends with bytes written. -/
def TwbRun.writes (r : TwbRun) : Bool := [0x2, 0x4, 0x6, 0x9, 0xC].contains r.prot

/-- The bytes the transaction reads after a count byte of `count`. -/
def TwbRun.reads (r : TwbRun) (count : Nat) : Nat := match r.prot with
  | 0x3 => 1
  | 0x5 => 1
  | 0x7 => 2
  | 0x8 => 2
  | 0xA => min count (min 32 r.rlen)
  | 0xB => min count (min 32 r.rlen)
  | 0xD => min 32 r.rlen
  | _ => 0

/-- START goes out on a free bus: the bytes to send leave, with PEC at the end of a write that asks for it. -/
def State.twbStart (s : State) (r : TwbRun) : State :=
  let tail := if r.pec && r.writes then [crc8 r.bytes] else []
  { s with twb := { free := false, run := some { r with started := true } } }.emit .twb (0x100 + r.prot) (r.bytes ++ tail)

/-- A transaction ends with RESULT and the bytes read: C_DATA, C_STATUS, then C_DONE or C_FAIL. -/
def State.twbEnd (s : State) (result : Nat) (data : List Nat) : State :=
  let retried := (s.twb.run.map (·.retried)).getD false
  let s := (withIdx 0 data).foldl (fun (s : State) (b : Nat × Nat) =>
    s.setF ⟨Reg.TWB_C_DATA (b.1 / 4), 8 * (b.1 % 4) + 7, 8 * (b.1 % 4)⟩ b.2) s
  let s := s.setReg Reg.TWB_C_STATUS (data.length * 65536 + result * 256 + 2 * b2n retried)
  { s with twb := { s.twb with run := none } }.raise (if result == 1 then Ev.TWB_C_DONE else Ev.TWB_C_FAIL)

/-- A GO that found BUSY, in the present CLK_FAB cycle (R493). -/
abbrev goKey : Nat := 13

/-- GO is written for protocol `prot` (R489): refused while BUSY, from a module that is not the speaker where HOLDER_ONLY asks for it,
and for a reserved protocol or a block write outside 1 to 32 bytes (assumption log 98); else the transaction waits for a free bus. -/
def State.twbGo (s : State) (prot : Nat) : State :=
  let cmd := s.getReg Reg.TWB_C_CMD
  if cmd % 16 != prot then s
  else if s.flag Fld.TWB_C_STATUS_BUSY then (s.raise Ev.TWB_CFG_REFUSED).arrive goKey
  else
    let data := (List.range 8).flatMap (fun i => leBytes 4 (s.getReg (Reg.TWB_C_DATA i)))
    let r : TwbRun := ⟨s.getReg Reg.TWB_C_CTL, cmd, data, false, false⟩
    let s := { s with twb := { s.twb with run := some r } }
    if (s.flag Fld.TWB_BUS_CFG_HOLDER_ONLY && !s.speaker) || 0xE ≤ prot || ((prot == 0x9 || prot == 0xB) && (r.wlen == 0 || 32 < r.wlen)) then
      s.twbEnd 0x0A []
    else
      let s := s.setB Fld.TWB_C_STATUS_BUSY true
      if s.twb.free then s.twbStart r else s

/-- A transaction on the wire ends. A GO of the same cycle comes after it: it is not refused, and starts a new one (R493). -/
def State.twbFinish (s : State) (result : Nat) (data : List Nat) : State :=
  let s := s.twbEnd result data
  if s.arrivedNow goKey then (s.unraise Ev.TWB_CFG_REFUSED).twbGo (s.getReg Reg.TWB_C_CMD % 16) else s

/-- C_CTL is written with GO, by a command of protocol `prot`: ADDR, PEC and RETRY are taken over first. -/
def State.twbCtl (s : State) (master ctl prot : Nat) : State :=
  s.permit master Reg.TWB_C_CTL (fun s =>
    (s.setReg Reg.TWB_C_CTL (ctl &&& 0x1FF)).twbGo prot)

/-- TWB_QUICK_WRITE (R489). -/
def execTwbQuickWrite (master ctl : Nat) (s : State) : Step := .next (s.twbCtl master ctl 0x0)

/-- TWB_QUICK_READ (R489). -/
def execTwbQuickRead (master ctl : Nat) (s : State) : Step := .next (s.twbCtl master ctl 0x1)

/-- TWB_SEND_BYTE (R489). -/
def execTwbSendByte (master ctl : Nat) (s : State) : Step := .next (s.twbCtl master ctl 0x2)

/-- TWB_RECEIVE_BYTE (R489). -/
def execTwbReceiveByte (master ctl : Nat) (s : State) : Step := .next (s.twbCtl master ctl 0x3)

/-- TWB_WRITE_BYTE (R489). -/
def execTwbWriteByte (master ctl : Nat) (s : State) : Step := .next (s.twbCtl master ctl 0x4)

/-- TWB_READ_BYTE (R489). -/
def execTwbReadByte (master ctl : Nat) (s : State) : Step := .next (s.twbCtl master ctl 0x5)

/-- TWB_WRITE_WORD (R489). -/
def execTwbWriteWord (master ctl : Nat) (s : State) : Step := .next (s.twbCtl master ctl 0x6)

/-- TWB_READ_WORD (R489). -/
def execTwbReadWord (master ctl : Nat) (s : State) : Step := .next (s.twbCtl master ctl 0x7)

/-- TWB_PROCESS_CALL (R489). -/
def execTwbProcessCall (master ctl : Nat) (s : State) : Step := .next (s.twbCtl master ctl 0x8)

/-- TWB_BLOCK_WRITE (R489). -/
def execTwbBlockWrite (master ctl : Nat) (s : State) : Step := .next (s.twbCtl master ctl 0x9)

/-- TWB_BLOCK_READ (R489). -/
def execTwbBlockRead (master ctl : Nat) (s : State) : Step := .next (s.twbCtl master ctl 0xA)

/-- TWB_BLOCK_WRITE_BLOCK_READ (R489). -/
def execTwbBlockWriteBlockRead (master ctl : Nat) (s : State) : Step := .next (s.twbCtl master ctl 0xB)

/-- TWB_FIXED_WRITE (R489). -/
def execTwbFixedWrite (master ctl : Nat) (s : State) : Step := .next (s.twbCtl master ctl 0xC)

/-- TWB_FIXED_READ (R489). -/
def execTwbFixedRead (master ctl : Nat) (s : State) : Step := .next (s.twbCtl master ctl 0xD)

/-- CANCEL (R489): a transaction whose START has not gone out ends with CANCELLED. -/
def State.twbCancel (s : State) : State := match s.twb.run with
  | some r => if r.started || r.retried then s else s.twbEnd 0x0B []
  | none => s

/-- TWB_CANCEL (R489). -/
def execTwbCancel (master : Nat) (s : State) : Step := .next (s.permit master Reg.TWB_C_CTL State.twbCancel)

/-- TWB_BUS_FREE (R490): a waiting transaction, or its retry, starts. -/
def execTwbBusFree (s : State) : Step :=
  if !s.live then .next s
  else match s.twb.run with
    | some r => .next (if r.started then s else s.twbStart r)
    | none => .next { s with twb := { s.twb with free := true } }

/-- C_DONE (R489): the transaction ends on the wire. An excess count gives TOO_LONG, a PEC that fails PEC_ERR. -/
def execCDone (result : TwbResult) (s : State) : Step :=
  match s.live, s.twb.run with
  | true, some r =>
    if !r.started then .next s
    else if result.code == 2 || result.code == 3 then .next (s.twbFinish result.code [])
    else if result.code != 1 then .next s
    else
      let data := (result.data.map (· % 256)).take (r.reads result.count)
      let sum := crc8 (r.bytes ++ (if r.block then [result.count] else []) ++ data)
      if r.block && min 32 r.rlen < result.count then .next (s.twbFinish 0x08 data)
      else if r.pec && !r.writes && 0x1 < r.prot && result.pec != sum then
        .next (((s.countReg Reg.TWB_PEC_ERRS).raise Ev.TWB_PEC_ERR).twbFinish 0x07 data)
      else .next (s.twbFinish 0x01 data)
  | _, _ => .next s

/-- ARB_LOST (R492): in a STOP or repeated START the transaction ends at once; elsewhere the loss is counted and the transaction
retried once where RETRY says so. -/
def execArbLost (afterSr : Bool) (s : State) : Step :=
  match s.live, s.twb.run with
  | true, some r =>
    if !r.started then .next s
    else if afterSr then .next ((s.raise Ev.TWB_ARB_LOST_SR).twbFinish 0x05 [])
    else
      let s := (s.countReg Reg.TWB_ARB_LOSSES).raise Ev.TWB_ARB_LOST
      if bitOf r.ctl 8 && !r.retried then
        .next { s with twb := { s.twb with run := some { r with started := false, retried := true } } }
      else .next (s.twbFinish 0x04 [])
  | _, _ => .next s

/-- TWB_C_TIMEOUT (R491): a transaction in progress is aborted. -/
def execTwbCTimeout (s : State) : Step :=
  .next (if s.live && s.twb.run.isSome then (s.raise Ev.TWB_TIMEOUT).twbFinish 0x06 [] else s)

/-- BUS_STUCK (R491): SDA reads low while START waits; up to 9 clocks and STOP go out. -/
def execBusStuck (cleared : Bool) (s : State) : Step :=
  match s.live, s.twb.run with
  | true, some r => .next (if r.started then s else ((s.emit .twb 0x200 [b2n cleared]).raise Ev.TWB_BUS_STUCK).twbFinish 0x09 [])
  | _, _ => .next s

end Sys2Proof.Machine
end

