-- ==== Sys2Proof/Machine/RegWrite.lean ====
section
/-! DEFINITION. Writes to the register pages and the memory windows (R7, R43 to R52, R60, R61): what a write that has passed its
checks does at each register, and the commands that are such writes. -/

namespace Sys2Proof.Machine

/-- All but some bits of a 32-bit word. -/
def without (v mask : Nat) : Nat := v &&& (0xFFFFFFFF ^^^ (mask % 2 ^ 32))

/-- A plain write (R7, R9, R555): RW and SO bits take the value where their field allows it, W1C bits written 1 are cleared but for
those that the present cycle has set, every other bit stays. -/
def State.putRw (s : State) (a v : Nat) : State :=
  let r := accAt a
  let rw := r.rw ||| r.so
  let old := s.getReg a
  s.setReg a (without (inRanges (rangesOf a) old (without old rw ||| (v &&& rw))) (without (v &&& r.w1c) (s.added a)))

/-- The state that a command leaves. -/
def State.via (s : State) (r : Step) : State := match r with
  | .next t => t
  | _ => s

/-- A bit of the written value starts an action. -/
def State.act (s : State) (b : Bool) (r : State → Step) : State := if b then s.via (r s) else s

/-! ### VRA sessions (R55, R62) -/

/-- A VRA session ends. -/
def State.closeSession (s : State) (id : Nat) : State :=
  if s.acc.sessions.any (fun x => x.id == id) then
    { s with acc := { s.acc with sessions := s.acc.sessions.filter (fun x => x.id != id) } }.raise Ev.SYS_VRA_SESSION
  else s

/-! ### The Folio (R46, R49, R51) -/

/-- A write to a Folio register. -/
def State.writeFolio (s : State) (master p o v : Nat) : State :=
  if o == 0x0C then s.setReg (Folio.EVENTS p) (without (s.getReg (Folio.EVENTS p)) (without v (s.added (Folio.EVENTS p))))
  else if o == 0x10 then s.setReg (Folio.EVENT_EN p) (v &&& evMask p)
  else if o == 0x14 then (s.setReg (Folio.OWNER p) ((v &&& 0x1D) ||| 2)).clearKey p
  else if o == 0x18 then s.setReg (Folio.LOCK p) (master * 65536 + v % 65536)
  else s

/-! ### Pages -/

/-- SYS and MODE pages. -/
def State.writeSys (s : State) (master a v : Nat) : State :=
  if a == Reg.SYS_VRA_CTL then
    let s := (s.clearKey Pg.SYS).putRw a v
    if bitOf v 0 then s else s.acc.sessions.foldl (fun (s : State) (x : VraSession) => s.closeSession x.id) s
  else if a == Reg.MODE_REQUEST then s.requestWrite v
  else if a == Reg.MODE_LATCH_CLR then s.act true (execLatchClr master v)
  else s.putRw a v

/-- CLK page (R65 to R67). -/
def State.writeClk (s : State) (master a v : Nat) : State :=
  if a == Reg.CLK_WDG_KICK then s.act true (execWdgKick master v)
  else if a == Reg.CLK_WDG_CTL then (s.clearKey Pg.CLK).putRw a v
  else if a == Reg.CLK_CAL_PPB then
    let s := s.clearKey Pg.CLK
    if (sInt 32 v).natAbs ≤ 10000 then
      { s with aux := { s.aux with baseNs := s.localBase, baseAt := s.localNs } }.setRegM a v
    else s
  else s.putRw a v

/-- TIME page (R429 to R440). -/
def State.writeTime (s : State) (master a v : Nat) : State :=
  let host := s.getF Fld.TIME_SYNC_CTL_SOURCE == 2
  let incrTo := fun (x : Nat) => if host && incrMin ≤ x && x ≤ incrMax then s.setIncr x else s
  if a == Reg.TIME_SYNC_CTL then (s.putRw a v).timeRole
  else if a == Reg.TIME_INCR_LO then incrTo (s.getReg Reg.TIME_INCR_HI % 256 * 2 ^ 32 + v)
  else if a == Reg.TIME_INCR_HI then incrTo (v % 256 * 2 ^ 32 + s.getReg Reg.TIME_INCR_LO)
  else if a == Reg.TIME_STEP_CTL then (s.clearKey Pg.TIME).putRw a v
  else if a == Reg.TIME_STEP_NS then s.act true (execStepNs master v)
  else if Reg.TIME_TRIG 0 ≤ a && a ≤ Reg.TIME_TRIG 3 then s.trigWrite ((a - Reg.TIME_TRIG 0) / 4) v
  else if a == Reg.TIME_TRIG_CTL then s.trigCtl (v &&& 0xFFFF00FF)
  else if a == Reg.TIME_COMPAT_CTL then s.compatCtl (v % 16)
  else if a == Reg.TIME_COMPAT_LOAD_LO then { s with time := { s.time with loadLo := v } }
  else if a == Reg.TIME_COMPAT_LOAD_HI then s.compatLoad v
  else s.putRw a v

/-- EVR page (R414, R417, R418). -/
def State.writeEvr (s : State) (a v : Nat) : State :=
  if a == Reg.EVR_CTL then
    let s := s.putRw a v
    if bitOf v 0 then s.freeze else if s.flag Fld.EVR_STATE_FROZEN then s.thaw else s
  else if a == Reg.EVR_CURSOR then s.cursorWrite v
  else if Reg.EVR_TRIG 0 ≤ a && a < Reg.EVR_TRIG 32 then
    if a % 8 == 0 && (0x22 < bitsOf v 15 8 || 48 < bitsOf v 27 22) then s.raise Ev.EVR_TRIG_REFUSED else s.putRw a v
  else if Reg.EVR_LIST 0 ≤ a && a < Reg.EVR_LIST 4 then
    if inPages v && v % 4 == 0 then s.setReg a v else s.raise Ev.EVR_TRIG_REFUSED
  else s.putRw a v

/-- UPD page (R499 to R503). -/
def State.writeUpd (s : State) (master a v : Nat) : State :=
  if a == Reg.UPD_CTL then
    let s := (s.act (bitOf v 0) (execUpdBegin master)).act (bitOf v 2) (execUpdAbort master)
    if bitOf v 3 then s.act true (execUpdArm master v) else s.act (bitOf v 4) (execUpdRevert master v)
  else if a == Reg.UPD_KEY_REVOKE then s.act true (execKeyRevoke master v)
  else if Reg.UPD_DATA ≤ a && a < Reg.UPD_DATA + 0x400 then s.act true (execUpdData master v)
  else s.putRw a v

/-- CHN and NODE pages; CHN1 repeats the master's registers of CHN0 (R133). -/
def State.writeChn (s : State) (master a0 v : Nat) : State :=
  let a := if Reg.CHN0_SWEEP_CTL + 0x1000 ≤ a0 && a0 ≤ Reg.CHN0_SWEEP_CTL + 0x1018 then a0 - 0x1000 else a0
  if a == Reg.CHN0_SWEEP_CTL then
    let s := s.putRw a v
    if bitOf v 1 then { s with chain := { s.chain with rejoinWanted := true } } else s
  else if a == Reg.CHN0_DLY_CTL then
    let s := s.putRw a v
    if bitOf v 31 && s.masters then s.dlyStart else s
  else if a % 0x1000 == 0x40 && pageOf a != Pg.NODE then
    s.putRw a (if s.power == 0 then v else putBits v 2 1 (bitsOf (s.getReg a) 2 1))
  else if a == Reg.NODE_ENUM_CTL then
    if bitOf v 8 then s.act true (execEnumStart master) else s.act (v % 256 != 0) (execRejoinPos master (v % 256))
  else if a == Reg.NODE_NREG_CMD then
    if s.flag Fld.NODE_NREG_STATUS_BUSY then s
    else
      let s := s.putRw a v
      let op := s.getF Fld.NODE_NREG_CMD_OP
      if op == 1 || op == 2 then
        s.nregStart op (s.getF Fld.NODE_NREG_CMD_POS) (s.getF Fld.NODE_NREG_CMD_ADDR) (if op == 2 then s.getReg Reg.NODE_NREG_DATA else 0)
      else s
  else s.putRw a v

/-- BAL, MEAS, EST and CELL pages. -/
def State.writeCells (s : State) (master a v : Nat) : State :=
  if a == Reg.BAL_CTL then (s.putRw a v).act (bitOf v 1) (execOwtNow master)
  else if a == Reg.BAL_PLAN_STAGE then
    { s with bal := { s.bal with staged := s.bal.staged.modify (s.getReg Reg.BAL_SEL - 1) (fun p =>
        (if v / 2 ^ 24 ≤ 100 then v / 2 ^ 24 else p / 2 ^ 24) * 2 ^ 24 + v % 65536) } }
  else if a == Reg.BAL_PLAN_COMMIT then (s.act (bitOf v 1) (execPlanClear master)).act (bitOf v 0) (execPlanCommit master)
  else if a == Reg.BAL_SUSPECT_CLR then s.act true (execSuspectClr master (v % 256))
  else if a == Reg.MEAS_IMD_CTL then s.act (bitOf v 1) (execImdStart master)
  else if a == Reg.MEAS_CHG_CLR then s.act true (execChgClr master v)
  else if a == Reg.EST_CTL then ((s.putRw a v).act (bitOf v 1) (execAnchorReq master)).act (bitOf v 2) (execAnchorCancel master)
  else if a == Reg.EST_CAP_SET then s.act true (execCapSet master v)
  else if a == Reg.CELL_VIEW then s.act true (execCellViewWrite master v)
  else s.putRw a v

/-- ASY page (R230 to R247). -/
def State.writeAsy (s : State) (master a v : Nat) : State :=
  if a == Reg.ASY_RUN_CTL then
    ((s.putRw a v).act (bitOf v 8) (execAssayStart master)).act (bitOf v 9) (execAssayAbort master)
  else if a == Reg.ASY_TCAL_CLR then s.act true (execTcalClr master v)
  else s.putRw a v

/-- The shadow bank of the selected slot takes a word (R264); while a swap is pending the write is refused. -/
def State.writeShadow (s : State) (a v : Nat) : State :=
  let x := s.slot s.loopSel
  let m := v % 2 ^ 24
  if x.swapPend then (s.cfgErr s.loopSel 0x08).raise Ev.LOOP_CFG_REFUSED
  else
    let b := x.shadow
    let b := if a == Reg.LOOP_SH_B0 then { b with b0 := m }
      else if a == Reg.LOOP_SH_B1 then { b with b1 := m }
      else if a == Reg.LOOP_SH_B2 then { b with b2 := m }
      else if a == Reg.LOOP_SH_B3 then { b with b3 := m }
      else if a == Reg.LOOP_SH_A1 then { b with a1 := m }
      else if a == Reg.LOOP_SH_A2 then { b with a2 := m }
      else if a == Reg.LOOP_SH_A3 then { b with a3 := m }
      else if a == Reg.LOOP_SH_EXP then { b with exp := v &&& 0x3F3F }
      else if a == Reg.LOOP_SH_OUT_MAX then { b with outMax := m }
      else { b with outMin := m }
    { s with loops := s.loops.modify s.loopSel (fun y => { y with shadow := b }) }

/-- A setpoint of slot 1 as the Margins clamp it (R313): SETPOINT at most VSTR_MAX − 1 %, SETPOINT2 at least VSTR_MIN + 1 % of
VSTR_MAX, in mV. -/
def State.loopClamp (s : State) (second : Bool) (v : Nat) : Int :=
  let hi := s.getF Fld.MRG_VSTR_VSTR_MAX
  let lo := s.getF Fld.MRG_VSTR_VSTR_MIN
  if s.loopSel != 1 then sInt 32 v
  else if second then max (sInt 32 v) ((lo * 100 + hi : Nat) : Int)
  else min (sInt 32 v) ((hi * 99 : Nat) : Int)

/-- SETPOINT or SETPOINT2 of the selected slot takes a value. -/
def State.writeSetpoint (s : State) (second : Bool) (v : Nat) : State :=
  let c := s.loopClamp second v
  let s := if c == sInt 32 v then s else s.clampNote (if second then Reg.LOOP_SETPOINT2 else Reg.LOOP_SETPOINT)
  { s with loops := s.loops.modify s.loopSel (fun y =>
      if second then { y with setpoint2 := toU 32 c } else { y with setpoint := toU 32 c }) }

/-- LOOP page (R253 to R268). -/
def State.writeLoop (s : State) (a v : Nat) : State :=
  let put := fun (f : Slot → Slot) => { s with loops := s.loops.modify s.loopSel f }
  let m := v % 2 ^ 24
  if a == Reg.LOOP_SEL_CFG then s.loopCfg false v
  else if a == Reg.LOOP_SEL_ROUTE then s.loopCfg true v
  else if a == Reg.LOOP_SEL_FMT then put (fun y => { y with fmt := v &&& 0x3F3F })
  else if a == Reg.LOOP_SEL_CTL then
    let s := s.loopMode (bitOf v 0)
    let s := if bitOf v 8 then s.loopSwapOne s.loopSel else s
    if bitOf v 9 then s.loopResume else s
  else if Reg.LOOP_SH_B0 ≤ a && a ≤ Reg.LOOP_SH_OUT_MIN then s.writeShadow a v
  else if a == Reg.LOOP_SETPOINT then s.writeSetpoint false v
  else if a == Reg.LOOP_SETPOINT2 then s.writeSetpoint true v
  else if a == Reg.LOOP_MAN_OUT then put (fun y => { y with manOut := m })
  else if a == Reg.LOOP_FALLBACK then put (fun y => { y with fallback := m })
  else if a == Reg.LOOP_FRZ_THR then put (fun y => { y with frzThr := m })
  else if a == Reg.LOOP_SWAP_MULTI then
    [0, 1, 2, 3, 4, 5, 6, 7].foldl (fun (s : State) i => if bitOf v i then s.loopSwapOne i else s) s
  else s.putRw a v

/-- PROF, THM and PAIR pages. -/
def State.writeProf (s : State) (master a v : Nat) : State :=
  if a == Reg.PROF_TARGET then s.targetWrite v
  else if a == Reg.PROF_RATE then s.act true (execProfLimitWrite master 0 v)
  else if a == Reg.PROF_ACCEL then s.act true (execProfLimitWrite master 1 v)
  else if a == Reg.PROF_JERK then s.act true (execProfLimitWrite master 2 v)
  else if Reg.THM_MAN_VALVE ≤ a && a ≤ Reg.THM_MAN_VALVE + 16 then (s.putRw a v).thmOutputs
  else if a == Reg.PAIR_CTL then ((s.putRw a v).act (bitOf v 1) (execPairClaim master)).act (bitOf v 2) (execSwapNow master)
  else if a == Reg.PAIR_LATENT_CLR then s.act true (execLatentClr master v)
  else s.putRw a v

/-- CYC.CFG (R398): only in STOPPED; OFFSET_US within the period that the write leaves. -/
def State.writeCycCfg (s : State) (v : Nat) : State :=
  if s.cycNow != 0 then s.raise Ev.CYC_CFG_REFUSED
  else
    let s' := s.putRw Reg.CYC_CFG v
    if bitsOf v 31 16 + 100 ≤ Sys2Proof.Machine.periodUs (v % 4) then s'
    else s'.setF Fld.CYC_CFG_OFFSET_US (s.getF Fld.CYC_CFG_OFFSET_US)

/-- CYC and TMR pages (R381, R388, R389). -/
def State.writeCyc (s : State) (a v : Nat) : State :=
  let d := a - Reg.TMR_IO 0
  if a == Reg.CYC_CTL then
    s.cycAsk (v % 8) (bitsOf v 7 4)
  else if a == Reg.CYC_CFG then s.writeCycCfg v
  else if a == Reg.CYC_BOOT then (s.putRw a v).toMram a
  else if Reg.TMR_IO 0 ≤ a && d < 512 then (if d % 8 == 0 then s.tmrIn (d / 8) (bitOf v 0) else s)
  else if Reg.TMR_PT 0 ≤ a && a < Reg.TMR_PT 0 + 256 then s.tmrPt ((a - Reg.TMR_PT 0) / 4) v
  else s.putRw a v

/-- The DEPTH values of a controller's queues with one of them replaced (R458). -/
def State.depthSum (s : State) (n q v : Nat) : Nat :=
  ([0, 1, 2, 3].map (fun i => if i == q then v else s.getF (Fld.CAN_RXQ_CFG_DEPTH n i))).sum

/-- Bits of the words of a transmit buffer that a write changes (R447): the reserved bits of words 0 and 1 read 0, ESI and LATE are
the module's. -/
def txMask (o : Nat) : Nat :=
  let k := (o - 0x400) % 80
  if k == 0 then 0x3FFFFFFF else if k == 4 then 0x00FF0F3F else 0xFFFFFFFF

/-- CAN pages (R445 to R453, R458). A write of CTL whose MODE is refused changes nothing (R555). -/
def State.writeCan (s : State) (master n a v : Nat) : State :=
  let o := a % 0x1000
  let config := s.canMode n == 0
  if a == Reg.CAN_CTL n then
    let t := s.setReg a (without (s.getReg a) 0x170 ||| (v &&& 0x170))
    if t.canRefuses n (v % 8) then s.raise (Ev.CAN_CFG_REFUSED n)
    else
      let t := t.canSetMode n (v % 8)
      if bitOf v 7 then t.canRecover n else t
  else if a == Reg.CAN_NBT n || a == Reg.CAN_DBT n then (if config then s.putRw a v else s)
  else if Reg.CAN_RXQ_CFG n 0 ≤ a && a ≤ Reg.CAN_RXQ_CFG n 3 then
    let q := (a - Reg.CAN_RXQ_CFG n 0) / 4
    if !config then s
    else if s.depthSum n q (v % 1024) ≤ 512 then s.putRw a v
    else s.putRw a (putBits v 9 0 (s.getF (Fld.CAN_RXQ_CFG_DEPTH n q)))
  else if a == Reg.CAN_TREF_CTL n then
    let was := s.flag (Fld.CAN_TREF_CTL_SLAVE n)
    let s := s.putRw a v
    if bitOf v 1 && !was then s.setCan n (fun u => { u with trefNs := some s.localNs, trefLast := none }) else s
  else if a == Reg.CAN_TXB_REQ n then s.txbReq n v
  else if a == Reg.CAN_TXB_CANCEL n then s.txbCancel n v
  else if a == Reg.CAN_RXQ_ACK n then s.rxqAck n v
  else if 0x400 ≤ o && o < 0xE00 then
    let b := (o - 0x400) / 80
    let m := txMask o
    if 24 ≤ b || s.txPend n b then s.raise (Ev.CAN_TX_DENIED n) else s.setReg a (without (s.getReg a) m ||| (v &&& m))
  else if master < 6 then s.putRw a v
  else s

/-- FLT page (R456): a span takes a write only while its controller is in CONFIG. -/
def State.writeFlt (s : State) (a v : Nat) : State :=
  if (a == Reg.FLT_SPAN0 && s.canMode 0 != 0) || (a == Reg.FLT_SPAN1 && s.canMode 1 != 0) then s.raise Ev.FLT_SPAN_REFUSED
  else s.putRw a v

/-- ETH pages (R469, R473). -/
def State.writeEth (s : State) (master n a v : Nat) : State :=
  let pow := fun (x : Nat) => [16, 32, 64, 128, 256, 512, 1024, 2048, 4096].contains x
  if a == Reg.ETH_PORT_CTL n then
    let s := s.putRw a v
    if bitOf v 0 then s else s.ethLink n false 0 false
  else if a == Reg.ETH_TX_TAIL n then s.act true (execTxTailWrite n master v)
  else if a == Reg.ETH_RX_TAIL n then s.act true (execRxTailWrite n master v)
  else if a == Reg.ETH_TX_SIZE n || a == Reg.ETH_RX_SIZE n then (if pow (v % 8192) then s.setReg a (v % 8192) else s)
  else if a == Reg.ETH_TX_BASE n then (if v % 16 == 0 then s.setReg a v else s)
  else s.putRw a v

/-- TWB page (R484, R485, R489). -/
def State.writeTwb (s : State) (a v : Nat) : State :=
  if a == Reg.TWB_BUS_CFG then
    let sp := v % 4
    let sl := bitsOf v 3 2
    if sp ≤ sl && sl ≤ 2 then s.putRw a v else s.raise Ev.TWB_CFG_REFUSED
  else if a == Reg.TWB_TGT_CTL then s.occur a (fun _ => (s.putRw a v).getReg a)
  else if a == Reg.TWB_C_CTL then
    let s := s.putRw a v
    let s := if bitOf v 10 then s.twbCancel else s
    if bitOf v 9 then s.twbGo (s.getReg Reg.TWB_C_CMD % 16) else s
  else s.putRw a v

/-- The levels of the output pins that no launch pulse drives leave (R438). -/
def State.gpioOut (s : State) : State :=
  [0, 1, 2, 3].foldl (fun (s : State) n =>
    if bitOf (s.getReg Reg.AUX_GPIO_DIR) n && !(s.time.pulse[n]?).getD false then
      s.emit .pin (0x30 + n) [b2n (bitOf (s.getReg Reg.AUX_GPIO_OUT) n)]
    else s) s

/-- AUX page (R72 to R86). -/
def State.writeAux (s : State) (master a v : Nat) : State :=
  if a == Reg.AUX_ADDR_SET then s.act true (execAddrSet master v)
  else if a == Reg.AUX_RESTART then
    if v % 16 == 5 then s.act true (execRestartWarm master)
    else if v % 16 == 6 then s.act true (execRestartCold master)
    else s.clearKey Pg.AUX
  else if a == Reg.AUX_GPIO_DIR || a == Reg.AUX_GPIO_OUT then (s.putRw a v).gpioOut
  else s.putRw a v

/-- A write to a register past the Folio of page `p` that has passed its checks. -/
def State.writePage (s : State) (master p a v : Nat) : State :=
  if p == Pg.SYS || p == Pg.MODE then s.writeSys master a v
  else if p == Pg.CLK then s.writeClk master a v
  else if p == Pg.TIME then s.writeTime master a v
  else if p == Pg.EVR then s.writeEvr a v
  else if p == Pg.UPD then s.writeUpd master a v
  else if p == Pg.CHN0 || p == Pg.CHN1 || p == Pg.NODE then s.writeChn master a v
  else if p == Pg.BAL || p == Pg.MEAS || p == Pg.EST || p == Pg.CELL then s.writeCells master a v
  else if p == Pg.ASY then s.writeAsy master a v
  else if p == Pg.LOOP then s.writeLoop a v
  else if p == Pg.PROF || p == Pg.THM || p == Pg.PAIR then s.writeProf master a v
  else if p == Pg.CYC || p == Pg.TMR then s.writeCyc a v
  else if p == Pg.CAN0 then s.writeCan master 0 a v
  else if p == Pg.CAN1 then s.writeCan master 1 a v
  else if p == Pg.FLT then s.writeFlt a v
  else if p == Pg.ETH0 then s.writeEth master 0 a v
  else if p == Pg.ETH1 then s.writeEth master 1 a v
  else if p == Pg.TWB then s.writeTwb a v
  else if p == Pg.AUX then s.writeAux master a v
  else s.putRw a v

/-- A write to a word of a memory window: filter elements take it (R455), the read-only windows report it (R223, R243, R417). -/
def State.writeWindow (s : State) (a v : Nat) : State :=
  if a < 0x50010000 then s.raise Ev.CELL_WINDOW_WRITE
  else if a < 0x50018000 then
    let e := (a - 0x50010000) / 8
    if a % 8 == 0 then s.filterCommit e v else { s with fltHeld := s.fltHeld.set e (BitVec.ofNat 32 v) }
  else if a < 0x50021000 then s.raise Ev.EVR_WINDOW_WRITE
  else s.raise Ev.ASY_BUFFER_WRITE

/-- A write of a word that has passed its checks. -/
def State.writeAt (s : State) (master a v : Nat) : State :=
  match governing? a with
  | none => s
  | some p =>
    if !inPages a then s.writeWindow a v
    else if a % 0x1000 < 0x20 then s.writeFolio master p (a % 0x1000) v
    else s.writePage master p a v

/-- A write of an aligned word to a page or window (R49 to R51): its status, and the state after the effect or the refusal. -/
def State.writeWord (s : State) (master a v : Nat) : Nat × State :=
  let v := v % 2 ^ 32
  let st := s.writeCheck master a v
  if st == St.ok then (St.ok, s.writeAt master a v) else (st, s.refuseAt master a v st)

/-- A narrower or misaligned write (R52). -/
def State.badWidth (s : State) (master a : Nat) : State := (s.raise Ev.SYS_ACCESS_WIDTH).refuse master a St.align true

/-- `n` words of a value are written from an address up, the highest first. -/
def State.writeDown (s : State) (master a v : Nat) : Nat → State
  | 0 => s
  | n + 1 => (s.writeAt master (a + 4 * n) (v / 2 ^ (32 * n) % 2 ^ 32)).writeDown master a v n

/-- A 64-bit or 128-bit write to a window (R44): one access, judged once and refused under its own address (R554); its high words go
first, so that one write commits a filter element (R455). -/
def State.writeWide (s : State) (master a width v : Nat) : Nat × State :=
  let st := s.writeCheck master a v
  if st == St.ok then (St.ok, s.writeDown master a v (width / 4)) else (st, s.refuseAt master a v st)

/-- A write on a path that cannot reach the address (R43, R60); one to an OWNER register raises OWNER_DENIED too (R49). -/
def State.writeUnmapped (s : State) (master a : Nat) : State :=
  (s.raiseIf (inPages a && a % 0x1000 / 4 == 5) Ev.SYS_OWNER_DENIED).unmapped master a true

/-- A write by a master at any address with a width in bytes (R43, R44, R52, R60): its status and the state after it. -/
def State.writeAny (s : State) (master a width v : Nat) : Nat × State :=
  if !s.pmpOk master a true then (St.unmapped, s.pmpFault master a true)
  else if !writable master (a / 4 * 4) then (St.unmapped, s.writeUnmapped master a)
  else if master < 2 && isRam a then
    if isRam (a + width - 1) then (St.ok, s.setBytes a (leBytes width v)) else (St.unmapped, s.unmapped master a true)
  else if width == 4 && a % 4 == 0 then s.writeWord master a v
  else if !inPages a && coreWidth a width && (master < 2 || (master == 3 && width == 8)) then s.writeWide master a width v
  else (St.align, s.badWidth master a)

/-- REGISTER_WRITE (R49, R51, R52): a master's write to any address. -/
def execRegisterWrite (master addr width value : Nat) (s : State) : Step :=
  .next (if s.live then (s.writeAny master addr width value).2 else s)

/-- OWNER_WRITE (R49): the OWNER register of a page. -/
def execOwnerWrite (master page value : Nat) (s : State) : Step :=
  .next (if s.live then (s.writeAny master (Folio.OWNER page) 4 value).2 else s)

/-- LOCK_WRITE (R51): LOCK.KEY of a page takes a key, and LOCK.MASTER names the master. -/
def execLockWrite (master page key : Nat) (s : State) : Step :=
  .next (if s.live then (s.writeAny master (Folio.LOCK page) 4 key).2 else s)

/-- LOCK_KEY_EXPIRY (R51): 100 ms after a LOCK write without a keyed write. -/
def execLockKeyExpiry (page : Nat) (s : State) : Step :=
  .next (if s.live && page < 35 then s.clearKey page else s)

/-- VRA_CTL_WRITE (R62): the keyed write of SYS.VRA_CTL. -/
def execVraCtlWrite (master value : Nat) (s : State) : Step :=
  .next (if s.live then (s.writeAny master Reg.SYS_VRA_CTL 4 value).2 else s)

/-! ### The service UART (R60, R61) -/

/-- The service UART answers: the module runs, or it has stopped in the boot ROM (R76). -/
def State.uartLive (s : State) : Bool := s.live || s.phase == .bootHalt

/-- The reply line of the service UART: OK with a word, or ER with a STATUS. A read of an absent unit's page answers ER 03 without the
word: R59 gives ABSENT together with data, R61 either OK with the word or ER with a STATUS (the model's choice, assumption log 107). -/
def State.uartReply (s : State) (st v : Nat) : State :=
  if st == St.ok then s.emit .uart 0 [v] else s.emit .uart 1 [st]

/-- The value of a hexadecimal digit in ASCII; capitals and small letters alike (assumption log 107). -/
def hexDigit (c : Nat) : Option Nat :=
  if 48 ≤ c && c ≤ 57 then some (c - 48)
  else if 65 ≤ c && c ≤ 70 then some (c - 55)
  else if 97 ≤ c && c ≤ 102 then some (c - 87)
  else none

/-- The number that hexadecimal digits spell, the first digit highest. -/
def hexNum : List Nat → Nat → Option Nat
  | [], n => some n
  | c :: cs, n => match hexDigit c with
    | some d => hexNum cs (16 * n + d)
    | none => none

/-- The words of a line after its two letters, each of a space and 8 hexadecimal digits: exactly `k` of them. -/
def hexWords : Nat → List Nat → Option (List Nat)
  | 0, l => if l.isEmpty then some [] else none
  | k + 1, l =>
    if l.take 1 != [32] || l.length < 9 then none
    else match hexNum ((l.drop 1).take 8) 0, hexWords k (l.drop 9) with
      | some v, some vs => some (v :: vs)
      | _, _ => none

/-- A command line (R61), its CR LF left off: one longer than 32 characters is discarded with ER 05; of a shorter one that spells
no command the answer is unstated, ER with a free number (assumption log 107). -/
def State.uartLine (s : State) (line : List Nat) : State :=
  let bad := s.fresh.uartReply (Config.freeValue s.freeCtr % 255 + 1) 0
  if 32 < line.length then s.uartReply St.align 0
  else if line.take 2 == [82, 68] then
    match hexWords 1 (line.drop 2) with
    | some [a] =>
      let (st, v, t) := s.readAny 5 a 4
      t.uartReply st v
    | _ => bad
  else if line.take 2 == [87, 82] then
    match hexWords 2 (line.drop 2) with
    | some [a, v] =>
      let (st, t) := s.writeAny 5 a 4 v
      t.uartReply st v
    | _ => bad
  else bad

/-- UART_RD (R61): a line that begins with RD; one of any other beginning but WR is answered here too. -/
def execUartRd (line : List Nat) (s : State) : Step :=
  .next (if s.uartLive && line.take 2 != [87, 82] then s.uartLine line else s)

/-- UART_WR (R61): a line of WR, a space, the characters of the address, a space and those of the value. -/
def execUartWr (addr value : List Nat) (s : State) : Step :=
  .next (if s.uartLive then s.uartLine ([87, 82, 32] ++ addr ++ [32] ++ value) else s)

end Sys2Proof.Machine
end

