-- ==== Sys2Proof/Machine/Vra.lean ====
section
/-! DEFINITION. The Volbin Register Access protocol (R53 to R59): sessions, tags, requests and their operations. -/

namespace Sys2Proof.Machine

/-! ### Datagrams (R54) -/

/-- `n` bytes from offset `o`, as a big-endian number. -/
def beAt (b : List Nat) (o n : Nat) : Nat := ofBe ((b.drop o).take n)

/-- What a datagram holds before its tag, and the tag. -/
def vraMsg (b : List Nat) : List Nat := b.take (b.length - 16)
def vraTag (b : List Nat) : List Nat := b.drop (b.length - 16)

/-- A datagram is tagged under a key. -/
def tagOk (key b : List Nat) : Bool := 32 ≤ b.length && vraTag b == (hmac256 key (vraMsg b)).take 16

/-- A tagged datagram of the module. -/
def vraBytes (key : List Nat) (type session seq count : Nat) (body : List Nat) : List Nat :=
  let m := [0x56, 0x52, 0x01, type] ++ beBytes 2 session ++ [0, 0] ++ beBytes 4 seq ++ beBytes 2 count ++ beBytes 2 body.length ++ body
  m ++ (hmac256 key m).take 16

/-- Error codes (R57). -/
abbrev Ve.badVersion : Nat := 0x01
abbrev Ve.badLength : Nat := 0x02
abbrev Ve.sessionsFull : Nat := 0x03
abbrev Ve.badType : Nat := 0x05

/-- Which row of the table of operations a datagram belongs to: 1 OPEN, 5 CLOSE, else the first operation of its body: 2 WRITE,
3 WRITE_MASK, 4 READ and everything else. -/
def vraClass (b : List Nat) : Nat :=
  let t := beAt b 3 1
  if t == 1 then 1
  else if t == 5 then 5
  else if beAt b 16 1 == 2 then 2
  else if beAt b 16 1 == 3 then 3
  else 4

/-- A datagram leaves for its requester. -/
def State.vraOut (s : State) (port ip sp : Nat) (b : List Nat) : State := s.ethOut port 0xA004 7 (ip :: sp :: b)

/-- A dropped datagram (R57). -/
def State.vraDrop (s : State) : State := s.countReg Reg.SYS_VRA_DROP

/-- A datagram whose tag does not verify (R57): the sixteenth within 10 s blocks its source address. -/
def State.tagFail (s : State) (ip : Nat) : State :=
  let s := s.vraDrop.raise Ev.SYS_VRA_AUTH_FAIL
  let l := (ip, s.localNs) :: s.acc.failures.filter (fun f => s.localNs ≤ f.2 + 10000000000)
  let n := (l.filter (fun f => f.1 == ip)).length
  { s with acc := { s.acc with failures := l, blocked := if 16 ≤ n then ip :: s.acc.blocked.filter (· != ip) else s.acc.blocked } }

/-- The datagram's MAGIC, VERSION and LENGTH: the code of the first that is wrong, 0 for none. -/
def vraFault (b : List Nat) : Nat :=
  if beAt b 0 2 != 0x5652 || beAt b 2 1 != 1 then Ve.badVersion
  else if beAt b 14 2 + 32 != b.length || 1400 < beAt b 14 2 then Ve.badLength
  else 0

/-! ### Sessions (R55) -/

/-- The first identifier from `i` on that no open session has. -/
def freeId (used : List Nat) : Nat → Nat → Nat
  | 0, i => i
  | k + 1, i => if used.contains i then freeId used k (i % 65535 + 1) else i

/-- An OPEN datagram (R55, R57). -/
def State.vraOpen (s : State) (port ip sp : Nat) (b : List Nat) : State :=
  let level := beAt b 16 1
  match (if 1 ≤ level && level ≤ 3 then s.accessKey (level - 1) else none) with
  | none => s.tagFail ip
  | some k =>
    let err := fun (code : Nat) => s.vraOut port ip sp (vraBytes k 0x06 (beAt b 4 2) (beAt b 8 4) 0 [code, 0, 0, 0])
    if !tagOk k b then s.tagFail ip
    else if vraFault b != 0 then err (vraFault b)
    else if beAt b 14 2 != 20 then err Ve.badLength
    else if 8 ≤ s.acc.sessions.length then err Ve.sessionsFull
    else
      let id := freeId (s.acc.sessions.map (·.id)) 9 (Config.freeValue s.freeCtr % 65535 + 1)
      let nonce := beBytes 16 (Config.freeValue (s.freeCtr + 1))
      let key := hmac256 k ([0x56, 0x52, 0x41, 0x31] ++ (b.drop 20).take 16 ++ nonce ++ beBytes 2 id)
      let s := s.fresh.fresh
      let s := { s with acc := { s.acc with sessions := ⟨id, level, key, 0, [], [], s.comp.cycle⟩ :: s.acc.sessions } }.raise Ev.SYS_VRA_SESSION
      s.vraOut port ip sp (vraBytes key 0x02 id 0 0 ([level, 0] ++ beBytes 2 (s.getF ⟨Reg.SYS_VRA_CTL, 31, 16⟩) ++ nonce))

/-! ### Requests (R58, R59) -/

/-- An operation of a request: OP, WORDS, ADDRESS, and its data words (mask and value for WRITE_MASK). -/
structure VraOp where
  op : Nat
  words : Nat
  addr : Nat
  data : List Nat
  deriving DecidableEq, Repr

/-- The operations of a body; none where the body does not spell exactly `n` of them. -/
def vraOps : Nat → List Nat → Option (List VraOp)
  | 0, b => if b.isEmpty then some [] else none
  | n + 1, b =>
    let op := beAt b 0 1
    let k := if op == 2 then beAt b 2 2 else if op == 3 then 2 else 0
    if b.length < 8 + 4 * k || op == 0 || 3 < op then none
    else match vraOps n (b.drop (8 + 4 * k)) with
      | some l => some (⟨op, beAt b 2 2, beAt b 4 4, words32 k (b.drop 8)⟩ :: l)
      | none => none

/-- ADDRESS is aligned and WORDS in range (check 1 of R59). -/
def VraOp.aligned (o : VraOp) : Bool :=
  o.addr % 4 == 0 && (if o.op == 3 then o.words == 1 else 1 ≤ o.words && o.words ≤ 256)

/-- The bytes that an operation's entry takes in the reply where it is carried out. -/
def VraOp.size (o : VraOp) : Nat := if o.op == 1 && o.aligned then 8 + 4 * o.words else 8

/-- The level of a session permits a write (check 3 of R59, R53). -/
def levelOk (level a v : Nat) : Bool := level == 3 || (level == 2 && (keyOf a v).isNone && governing? a != some Pg.UPD)

/-- One word of a READ: status, words so far. -/
def State.vraRead (s : State) (addr : Nat) : Nat → Nat × List Nat × State
  | 0 => (St.ok, [], s)
  | n + 1 =>
    let (st, v, s) := s.readAny 3 addr 4
    if st == St.unmapped then (st, [], s)
    else
      let (st', vs, s) := s.vraRead (addr + 4) n
      (if st' == St.unmapped then st' else if st == St.absent then st else st', v :: vs, s)

/-- The words of a WRITE, each under the checks of R59. -/
def State.vraWrite (s : State) (level addr : Nat) : List Nat → Nat × State
  | [] => (St.ok, s)
  | v :: vs =>
    if (governing? addr).isNone then (St.unmapped, s.unmapped 3 addr true)
    else if !levelOk level addr v then (St.levelDenied, s.recordErr 3 addr St.levelDenied)
    else
      let (st, s) := s.writeWord 3 addr v
      if st == St.ok then s.vraWrite level (addr + 4) vs else (st, s)

/-- The word that a WRITE_MASK writes: (old AND NOT mask) OR (value AND mask). -/
def masked (old mask v : Nat) : Nat := without old mask ||| (v &&& (mask % 2 ^ 32))

/-- One operation is carried out: its STATUS and the words it returns. -/
def State.vraDo (s : State) (level : Nat) (o : VraOp) : Nat × List Nat × State :=
  if !o.aligned then
    (St.align, [], if o.op != 1 && o.addr % 4 != 0 then s.badWidth 3 o.addr else s)
  else if o.op == 1 then
    let (st, vs, s) := s.vraRead o.addr o.words
    (st, if st == St.unmapped then [] else vs, s)
  else if o.op == 2 then
    let (st, s) := s.vraWrite level o.addr o.data
    (st, [], s)
  else
    let (st, s) := s.vraWrite level o.addr [masked (s.peek o.addr) ((o.data[0]?).getD 0) ((o.data[1]?).getD 0)]
    (st, [], s)

/-- The operations in order; after the first with a STATUS other than OK the others are not executed (R59). -/
def State.vraRun (s : State) (level : Nat) (stop : Bool) : List VraOp → List Nat × State
  | [] => ([], s)
  | o :: t =>
    let (st, vs, s) := if stop then (St.notExecuted, [], s) else s.vraDo level o
    let (rest, s) := s.vraRun level (stop || st != St.ok) t
    ([st, 0] ++ beBytes 2 o.words ++ beBytes 4 o.addr ++ vs.flatMap (beBytes 4) ++ rest, s)

/-- A REQUEST that passed its checks is carried out and answered; the reply is kept (R56). -/
def State.vraRequest (s : State) (port ip sp : Nat) (x : VraSession) (b : List Nat) : State :=
  let seq := beAt b 8 4
  let err := fun (code : Nat) => s.vraOut port ip sp (vraBytes x.key 0x06 x.id seq 0 [code, 0, 0, 0])
  match vraOps (beAt b 12 2) ((vraMsg b).drop 16) with
  | none => err Ve.badLength
  | some ops =>
    if 1400 < (ops.map VraOp.size).sum then err Ve.badLength
    else
      let (body, s) := s.vraRun x.level false ops
      let reply := vraBytes x.key 0x04 x.id seq ops.length body
      let upd := fun (y : VraSession) => if y.id == x.id then { y with seq := seq, tag := vraTag b, reply := reply } else y
      if s.live then { s with acc := { s.acc with sessions := s.acc.sessions.map upd } }.vraOut port ip sp reply else s

/-- A valid request has arrived on a session in the present cycle (R55). -/
def State.vraTouch (s : State) (id : Nat) : State :=
  { s with acc := { s.acc with
      sessions := s.acc.sessions.map (fun x => if x.id == id then { x with cycle := s.comp.cycle } else x) } }

/-- A datagram of an open session (R55 to R57). R56 says that the first request carries SEQUENCE 1, and R57 names no drop for another
number above 0: the module takes such a request (the model's choice, assumption log 107). -/
def State.vraSession (s : State) (port ip sp : Nat) (b : List Nat) : State :=
  match s.acc.sessions.find? (fun x => x.id == beAt b 4 2) with
  | none => s.vraDrop.raise Ev.SYS_VRA_AUTH_FAIL
  | some x =>
    let seq := beAt b 8 4
    let type := beAt b 3 1
    let err := fun (code : Nat) => s.vraOut port ip sp (vraBytes x.key 0x06 x.id seq 0 [code, 0, 0, 0])
    if !tagOk x.key b then s.tagFail ip
    else if seq ≤ x.seq then
      if seq == x.seq && seq != 0 && vraTag b == x.tag then (s.vraTouch x.id).vraOut port ip sp x.reply else s.vraDrop
    else if vraFault b != 0 then err (vraFault b)
    else if type == 5 then (s.closeSession x.id).vraOut port ip sp (vraBytes x.key 0x05 x.id seq 0 [])
    else if type == 3 then (s.vraTouch x.id).vraRequest port ip sp x b
    else err Ve.badType

/-- A VRA datagram of a row's class reaches the module: dropped where VRA is off or its source blocked (R57, R62). -/
def State.vraIn (s : State) (cls port ip sp : Nat) (b : List Nat) : State :=
  if !s.live || vraClass b != cls || 2 ≤ port || !bitOf (s.getReg Reg.SYS_VRA_CTL) 0 then s
  else if s.acc.blocked.contains ip then s.vraDrop
  else if cls == 1 then s.vraOpen port ip sp b
  else s.vraSession port ip sp b

/-- VRA_OPEN (R55). -/
def execVraOpen (port srcIp srcPort : Nat) (bytes : List Nat) (s : State) : Step := .next (s.vraIn 1 port srcIp srcPort bytes)

/-- VRA_READ (R58): a request whose first operation is a READ. -/
def execVraRead (port srcIp srcPort : Nat) (bytes : List Nat) (s : State) : Step := .next (s.vraIn 4 port srcIp srcPort bytes)

/-- VRA_WRITE (R58): a request whose first operation is a WRITE. -/
def execVraWrite (port srcIp srcPort : Nat) (bytes : List Nat) (s : State) : Step := .next (s.vraIn 2 port srcIp srcPort bytes)

/-- VRA_WRITE_MASK (R58): a request whose first operation is a WRITE_MASK. -/
def execVraWriteMask (port srcIp srcPort : Nat) (bytes : List Nat) (s : State) : Step :=
  .next (s.vraIn 3 port srcIp srcPort bytes)

/-- VRA_CLOSE (R55). -/
def execVraClose (port srcIp srcPort : Nat) (bytes : List Nat) (s : State) : Step := .next (s.vraIn 5 port srcIp srcPort bytes)

/-- VRA_IDLE_TIMEOUT (R55): a session without a valid request for IDLE_S ends; one whose last request came in the CLK_FAB cycle of
the expiry stays open, since the arrival outranks the timeout. -/
def execVraIdleTimeout (session : Nat) (s : State) : Step :=
  .next (if s.live && !s.acc.sessions.any (fun x => x.id == session && x.cycle == s.comp.cycle) then s.closeSession session else s)

/-- VRA_SOURCE_BLOCK_END (R57): the 10 s of a blocked source address are over. -/
def execVraSourceBlockEnd (srcIp : Nat) (s : State) : Step :=
  .next (if s.live then
    { s with acc := { s.acc with blocked := s.acc.blocked.filter (· != srcIp), failures := s.acc.failures.filter (fun f => f.1 != srcIp) } }
  else s)

end Sys2Proof.Machine
end

