-- ==== Sys2Proof/Machine/Boundary.lean ====
section
/-! DEFINITION. The cycle boundary (R377 to R380, R384, R391 to R395): the output image's transfer, copies, the online exchange, the
next cycle; the deadline; and the loss of the supply (R70). -/

namespace Sys2Proof.Machine

/-! ### The output image (R379) -/

/-- The policy limits go to the Margin engine, which clamps them (R313). -/
def State.policyLimits (s : State) (ichg idis : Nat) : State :=
  let one := fun (s : State) (a v max' : Nat) =>
    let s := s.setReg a (min v max')
    if v ≤ max' then s else s.clampNote a
  let s := one s Reg.MRG_POL_ICHG (ichg % 2 ^ 32) (s.getF Fld.MRG_I_MAX_ICHG_MAX * 100)
  one s Reg.MRG_POL_IDIS (idis % 2 ^ 32) (s.getF Fld.MRG_I_MAX_IDIS_MAX * 100)

/-- One entry of the image: a write by core 0 to a register page, with its R59 status. -/
def State.outEntry (s : State) (a v mask : Nat) : Nat × State :=
  if a % 4 != 0 then (St.align, (s.raise Ev.SYS_ACCESS_WIDTH).recordErr 0 a St.align)
  else if !inPages a then (St.unmapped, (s.raise Ev.SYS_UNMAPPED_ACCESS).recordErr 0 a St.unmapped)
  else s.writeWord 0 a (masked (s.peek a) mask v)

/-- The entries in order, from index `i`: how many applied, how many failed, the first that failed with its status. -/
def State.outEntries (s : State) (i ok bad : Nat) (fail : Option (Nat × Nat)) :
    List (Nat × Nat × Nat) → (Nat × Nat × Option (Nat × Nat)) × State
  | [] => ((ok, bad, fail), s)
  | (a, v, m) :: t =>
    if !s.live then ((ok, bad, fail), s)
    else
      let (st, s) := s.outEntry a v m
      if st == St.ok then s.outEntries (i + 1) (ok + 1) bad fail t
      else s.outEntries (i + 1) ok (bad + 1) (some (fail.getD (i, st))) t

/-- The output image of a cycle is transferred. -/
def State.transfer (s : State) (o : OutImage) : State :=
  let s := if o.polValid then s.policyLimits o.polIchg o.polIdis else s
  let ((ok, bad, fail), s) := s.outEntries 0 0 0 none (o.writes.take 255)
  if !s.live then s
  else
    let (i, code) := fail.getD (0xFF, 0)
    let s := s.setReg Reg.CYC_OUT_STATUS (code * 2 ^ 24 + i % 256 * 65536 + ok * 256 + bad)
    s.raiseIf (bad != 0) Ev.CYC_OUT_REFUSED

/-! ### The boundary (R377) -/

/-- Copies at the boundary, after the transfer (R391, R392). -/
def State.boundaryCopies (s : State) : State :=
  let s := if s.cyc.retainWant then s.storeRetain else s
  match s.cyc.shadowWant, s.cyc.image with
  | true, some p => { s with cyc := { s.cyc with shadowWant := false, writing := some (s.takeCopy p) } }
  | _, _ => s

/-- The online exchange (R393 to R395): segments, retentive variables, timer slots. The lattice goes on unchanged, PERIOD and OFFSET_US
with it (assumption log 117). An exchange entry of the new image decides with its return or its trap whether the activation has
succeeded (R396, R504). -/
def State.exchangeNow (s : State) (old new : Payload) : State :=
  let vars := s.retainVars old.body
  let b := new.body
  let cfg := (s.getF Fld.CYC_CFG_PERIOD, s.getF Fld.CYC_CFG_OFFSET_US)
  let s := (s.switchBank Pk.app (1 - s.bankNo Pk.app)).setImage new
  let s := (s.setF Fld.CYC_CFG_PERIOD cfg.1).setF Fld.CYC_CFG_OFFSET_US cfg.2
  let s := (s.loadSegs b [4, 5, 6]).putRetain b vars
  let slots := (s.cyc.tmr.zip (timersOf b)).map (fun (p : Tmr × Nat × Nat × Nat) => (p.1.settle s.localBase).exchange p.2 s.localBase)
  let re := bitsToNat (slots.map (fun (x : Tmr × Bool) => x.2))
  let s := { s with cyc := { s.cyc with tmr := slots.map (fun (x : Tmr × Bool) => x.1) }, upd := { s.upd with exchange := none } }
  let s := (s.occur Reg.TMR_RETYPED_LO (fun _ => re % 2 ^ 32)).occur Reg.TMR_RETYPED_HI (fun _ => re / 2 ^ 32)
  let s := (s.raiseIf (re != 0) Ev.TMR_TMR_RETYPED).setF Fld.CYC_STATE_START_RULE 5
  let s := (s.raise Ev.CYC_EXCHANGED).copyShow
  if leAt b 32 8 == 0 then s.updKind new none else s

/-- What follows the transfer at a boundary: a stop that waits, the exchange after a cycle in time, the next cycle. -/
def State.boundaryNext (s : State) (inTime : Bool) (lateNs : Nat) : State :=
  if s.cyc.stopAt == 1 then s.cycHalt 1
  else if s.cyc.stopAt == 2 then s.cycHoldNow
  else match inTime, s.upd.exchange, s.cyc.image with
    | true, some new, some old =>
      let s := s.exchangeNow old new
      s.cycleCall (if leAt new.body 32 8 == 0 then 3 else 2) lateNs
    | _, _, _ => s.cycleCall 3 lateNs

/-- A lattice instant in RUN. -/
def State.latticeInstant (s : State) (o : OutImage) : State :=
  let s := s.kicked s.kickNext
  let s := if s.cycleRuns && !s.cyc.late then s.deadlineMissed else s
  if s.cycNow != 1 then s
  else if s.cycleRuns then ({ s with cyc := { s.cyc with skip := false } }).overrun
  else if s.cyc.skip then
    let s := { s with cyc := { s.cyc with skip := false, done := false } }.boundaryCopies
    if s.cyc.stopAt == 0 then s else s.boundaryNext false o.lateNs
  else
    let inTime := s.cyc.done
    let s := if inTime then s.transfer o else s
    if !s.live then s
    else
      let s := { s with cyc := { s.cyc with done := false } }
      if s.cycNow == 1 then s.boundaryCopies.boundaryNext inTime o.lateNs else s

/-- CYCLE_BOUNDARY (R377): a lattice instant of RUN, with the output image that the program left and the lateness of the next
entry's call. While an init entry runs the lattice is not anchored (R390). -/
def execCycleBoundary (out : OutImage) (s : State) : Step :=
  .next (if s.live && s.cycNow == 1 && s.cyc.entry != some 0 && s.cyc.entry != some 1 then s.latticeInstant out else s)

/-- CYCLE_DEADLINE (R377, R384): the entry has returned, or OVERRUN; the image of a single step is transferred (R381). -/
def execCycleDeadline (out : OutImage) (s : State) : Step :=
  .next (if !s.live then s
    else if s.cycleRuns then (if s.cyc.late then s else s.deadlineMissed)
    else if s.cyc.step && s.cyc.done then
      ({ s with cyc := { s.cyc with step := false, done := false } }).transfer out
    else s)

/-! ### Loss of the supply (R70) -/

/-- What the module writes to MRAM on detection of supply loss (R70, R181, R202, R408), and the MRAM writes already begun. -/
def State.lastWrites (s : State) : State :=
  let s := ((s.estShadow).chgToMram).setRegM Reg.SEQ_NEXT s.nextSeq
  let s := s.evr.taken.foldl (fun (s : State) _ => s.commitRecord) s
  match s.cyc.writing with
  | some c => { s with cyc := { s.cyc with shadow := some { c with sealOk := true, hours := s.hours }, writing := none } }
  | none => s

/-- SUPPLY_LOSS (R70): reset is asserted until POWER_ON. -/
def execSupplyLoss (s : State) : Step :=
  let h := putBit s.aux.hold 0 true
  let s := (if s.live then s.lastWrites else s).enterReset 1 0
  .next { s with aux := { s.aux with hold := h } }

end Sys2Proof.Machine
end

