-- ==== Sys2Proof/Machine/Grants.lean ====
section
/-! DEFINITION. What the module decides at the grant of an event and not before (R10, R407): mode requests (R29), restart
requests (R74), ADDR_IN and OFFERs (R80), what the host asks of the estimation engine (R220), the input image (R13), the commands of the
program (R397), host steps of the count (R441), aborts and activations of the update manager (R508), and the CLK_FAB cycle that EVENT_GRANT is. -/

namespace Sys2Proof.Machine

/-- The decision that the grant of an event with number `seq` brings. -/
def State.atGrant (s : State) (e : Ev) (seq : Nat) : State :=
  if e == ⟨Pg.MODE, 32⟩ then
    let r := s.getReg Reg.MODE_REQUEST
    s.requestGranted 1 (bitsOf r 15 8) (bitsOf r 3 0) seq
  else if e == ⟨Pg.MODE, 41⟩ then s.requestGranted 2 s.mode.partnerTag s.mode.partnerTgt seq
  else if e == ⟨Pg.AUX, 40⟩ then s.restartGranted
  else if e == ⟨Pg.AUX, 41⟩ then s.setB Fld.AUX_ADDR_IO_ADDR_IN s.aux.addrInNext
  else if e == ⟨Pg.AUX, 42⟩ then s.offersGranted
  else if e == ⟨Pg.EST, 40⟩ then s.capGranted
  else if e == ⟨Pg.EST, 41⟩ then s.anchorReqGranted
  else if e == ⟨Pg.EST, 42⟩ then s.anchorCancelGranted
  else if e == ⟨Pg.CELL, 40⟩ then s.holdGranted
  else if e == ⟨Pg.CYC, 40⟩ then s.cycGranted
  else if e == ⟨Pg.TIME, 40⟩ then s.stepsGranted
  else if e == ⟨Pg.UPD, 40⟩ then s.abortDue
  else if e == ⟨Pg.UPD, 42⟩ || e == ⟨Pg.UPD, 43⟩ then s.activateGranted
  else if e == Ev.CHN_SWEEP_DONE 0 then s.sweepGranted.nodeResume
  else if e == Ev.CYC_CYCLE_START then s.latchImage seq
  else s

/-- EVENT_GRANT (R405): a CLK_FAB cycle, in which the Compositor grants one waiting event. A request granted in the cycle before is
evaluated against the state after this cycle's grant (R29). -/
def execEventGrant (s : State) : Step :=
  if !s.live then .next s
  else
    let s := match grantPick s.comp with
      | some w => ((s.grant w).evalDue).atGrant ⟨w.page, w.num⟩ s.nextSeq
      | none => s.evalDue
    .next { s with comp := { s.comp with cycle := s.comp.cycle + 1, occ := [] } }

/-- What the module does while no command waits: a request granted in the cycle before is evaluated (R29), and one CLK_TB tick
passes (assumption log 2). -/
def State.idle (s : State) : State := (if s.live then s.evalDue else s).tick

end Sys2Proof.Machine
end

