-- ==== Sys2Proof/Machine/Dispatch.lean ====
section
/-! DEFINITION. One arm per command, each one call of the command's meaning. -/

namespace Sys2Proof.Machine

/-- What a command does to everything but the queue. -/
def exec (i : Instr) (s : State) : Host.Outcome State Fault Refusal :=
  match i with
  | .registerWrite master addr width value => Sys2Proof.Machine.execRegisterWrite master addr width value s
  | .ownerWrite master page value => Sys2Proof.Machine.execOwnerWrite master page value s
  | .lockWrite master page key => Sys2Proof.Machine.execLockWrite master page key s
  | .lockKeyExpiry page => Sys2Proof.Machine.execLockKeyExpiry page s
  | .readClear master addr width => Sys2Proof.Machine.execReadClear master addr s width
  | .lowWordRead master addr width => Sys2Proof.Machine.execLowWordRead master addr s width
  | .vraOpen port srcIp srcPort bytes => Sys2Proof.Machine.execVraOpen port srcIp srcPort bytes s
  | .vraRead port srcIp srcPort bytes => Sys2Proof.Machine.execVraRead port srcIp srcPort bytes s
  | .vraWrite port srcIp srcPort bytes => Sys2Proof.Machine.execVraWrite port srcIp srcPort bytes s
  | .vraWriteMask port srcIp srcPort bytes => Sys2Proof.Machine.execVraWriteMask port srcIp srcPort bytes s
  | .vraClose port srcIp srcPort bytes => Sys2Proof.Machine.execVraClose port srcIp srcPort bytes s
  | .vraIdleTimeout session => Sys2Proof.Machine.execVraIdleTimeout session s
  | .vraSourceBlockEnd srcIp => Sys2Proof.Machine.execVraSourceBlockEnd srcIp s
  | .vraCtlWrite master value => Sys2Proof.Machine.execVraCtlWrite master value s
  | .uartRd line => Sys2Proof.Machine.execUartRd line s
  | .uartWr addr value => Sys2Proof.Machine.execUartWr addr value s
  | .modeRequest master value => Sys2Proof.Machine.execModeRequest master value s
  | .transTimeout => Sys2Proof.Machine.execTransTimeout s
  | .stopLimitExpiry => Sys2Proof.Machine.execStopLimitExpiry s
  | .latchClr master value => Sys2Proof.Machine.execLatchClr master value s
  | .wake source => Sys2Proof.Machine.execWake source s
  | .wakeTimerExpiry => Sys2Proof.Machine.execWakeTimerExpiry s
  | .wakeOscCheck count => Sys2Proof.Machine.execWakeOscCheck count s
  | .pllUnlock => Sys2Proof.Machine.execPllUnlock s
  | .clkMonWindow clock count => Sys2Proof.Machine.execClkMonWindow clock count s
  | .rootDrift => Sys2Proof.Machine.execRootDrift s
  | .wdgKick master value => Sys2Proof.Machine.execWdgKick master value s
  | .wdgExpiry => Sys2Proof.Machine.execWdgExpiry s
  | .powerOn => Sys2Proof.Machine.execPowerOn s
  | .supplyLoss => Sys2Proof.Machine.execSupplyLoss s
  | .resetNAssert => Sys2Proof.Machine.execResetNAssert s
  | .resetNRelease => Sys2Proof.Machine.execResetNRelease s
  | .resetRelease boot => Sys2Proof.Machine.execResetRelease boot s
  | .pllLockRetry locked => Sys2Proof.Machine.execPllLockRetry locked s
  | .svcDebouncedClose => Sys2Proof.Machine.execSvcDebouncedClose s
  | .svcDebouncedOpen pressMs => Sys2Proof.Machine.execSvcDebouncedOpen pressMs s
  | .svcStuck => Sys2Proof.Machine.execSvcStuck s
  | .restartWarm master => Sys2Proof.Machine.execRestartWarm master s
  | .restartCold master => Sys2Proof.Machine.execRestartCold master s
  | .addrSet master value => Sys2Proof.Machine.execAddrSet master value s
  | .offer can address => Sys2Proof.Machine.execOffer can address s
  | .clearAddr can byte1 byte2 => Sys2Proof.Machine.execClearAddr can byte1 byte2 s
  | .endWalk can => Sys2Proof.Machine.execEndWalk can s
  | .taken can address role topology serialHi serialLo => Sys2Proof.Machine.execTaken can address role topology serialHi serialLo s
  | .takenTimeout => Sys2Proof.Machine.execTakenTimeout s
  | .addrInChange level => Sys2Proof.Machine.execAddrInChange level s
  | .roleSelSample roleB => Sys2Proof.Machine.execRoleSelSample roleB s
  | .gpioChange pin level => Sys2Proof.Machine.execGpioChange pin level s
  | .chainLinkUp port => Sys2Proof.Machine.execChainLinkUp port s
  | .chainLinkLost port => Sys2Proof.Machine.execChainLinkLost port s
  | .trigLaunch => Sys2Proof.Machine.execTrigLaunch s
  | .collectLaunch other => Sys2Proof.Machine.execCollectLaunch s other
  | .slotArrival slot => Sys2Proof.Machine.execSlotArrival slot s
  | .sweepDeadline num other => Sys2Proof.Machine.execSweepDeadline s num other
  | .nodeUnheard pos => Sys2Proof.Machine.execNodeUnheard pos s
  | .alarmRx port pos cause time chk => Sys2Proof.Machine.execAlarmRx port pos cause time s chk
  | .nodeAlarmRelease pos => Sys2Proof.Machine.execNodeAlarmRelease pos s
  | .staleMaster edition => Sys2Proof.Machine.execStaleMaster edition s
  | .fwd slots => Sys2Proof.Machine.execFwd slots s
  | .relay sweep ctrl instant collect => Sys2Proof.Machine.execRelay sweep ctrl instant s collect
  | .dlyEcho pos roundTripPs port op overlap chk => Sys2Proof.Machine.execDlyEcho pos roundTripPs s port op overlap chk
  | .dlyTimeout pos => Sys2Proof.Machine.execDlyTimeout pos s
  | .dlyPeriod => Sys2Proof.Machine.execDlyPeriod s
  | .dlyNow master => Sys2Proof.Machine.execDlyNow master s
  | .enumStart master => Sys2Proof.Machine.execEnumStart master s
  | .rejoinPos master pos => Sys2Proof.Machine.execRejoinPos master pos s
  | .enumReturn recs => Sys2Proof.Machine.execEnumReturn recs s
  | .enumTimeout => Sys2Proof.Machine.execEnumTimeout s
  | .enumDone bad => Sys2Proof.Machine.execEnumDone bad s
  | .sweepRejoin master => Sys2Proof.Machine.execSweepRejoin master s
  | .nregRead master pos reg => Sys2Proof.Machine.execNregRead master pos reg s
  | .nregWrite master pos reg value => Sys2Proof.Machine.execNregWrite master pos reg value s
  | .nregReply pos reg value result => Sys2Proof.Machine.execNregReply pos reg value result s
  | .nregTimeout => Sys2Proof.Machine.execNregTimeout s
  | .owtLaunch => Sys2Proof.Machine.execOwtLaunch s
  | .owtPeriodic => Sys2Proof.Machine.execOwtPeriodic s
  | .owtNow master => Sys2Proof.Machine.execOwtNow master s
  | .owtDeadline => Sys2Proof.Machine.execOwtDeadline s
  | .suspectClr master pos => Sys2Proof.Machine.execSuspectClr master pos s
  | .suspectClrDecision pos => Sys2Proof.Machine.execSuspectClrDecision s pos
  | .compReadback pos words => Sys2Proof.Machine.execCompReadback pos words s
  | .floopAbsent amplitude => Sys2Proof.Machine.execFloopAbsent s amplitude
  | .bleedLaunch late => Sys2Proof.Machine.execBleedLaunch s late
  | .planCommit master => Sys2Proof.Machine.execPlanCommit master s
  | .planClear master => Sys2Proof.Machine.execPlanClear master s
  | .votedSample chans => Sys2Proof.Machine.execVotedSample chans s
  | .hvLost => Sys2Proof.Machine.execHvLost s
  | .chReadmitted chan => Sys2Proof.Machine.execChReadmitted chan s
  | .offsetCalStart => Sys2Proof.Machine.execOffsetCalStart s
  | .offsetCalEnd sums => Sys2Proof.Machine.execOffsetCalEnd sums s
  | .imdDone riso cap loc => Sys2Proof.Machine.execImdDone riso cap loc s
  | .imdConnFault => Sys2Proof.Machine.execImdConnFault s
  | .imdStart master => Sys2Proof.Machine.execImdStart master s
  | .imdHolderStart => Sys2Proof.Machine.execImdHolderStart s
  | .chgClr master value => Sys2Proof.Machine.execChgClr master value s
  | .chgStore => Sys2Proof.Machine.execChgStore s
  | .estDone => Sys2Proof.Machine.execEstDone s
  | .estShadowWrite => Sys2Proof.Machine.execEstShadowWrite s
  | .capSet master value => Sys2Proof.Machine.execCapSet master value s
  | .anchorReq master => Sys2Proof.Machine.execAnchorReq master s
  | .anchorCancel master => Sys2Proof.Machine.execAnchorCancel master s
  | .anchorRampTimeout => Sys2Proof.Machine.execAnchorRampTimeout s
  | .noAnchor => Sys2Proof.Machine.execNoAnchor s
  | .cellViewWrite master value => Sys2Proof.Machine.execCellViewWrite master value s
  | .holdExpired => Sys2Proof.Machine.execHoldExpired s
  | .assayStart master => Sys2Proof.Machine.execAssayStart master s
  | .assayAbort master => Sys2Proof.Machine.execAssayAbort master s
  | .perturbRiseEnd => Sys2Proof.Machine.execPerturbRiseEnd s
  | .binSpanEnd => Sys2Proof.Machine.execBinSpanEnd s
  | .metricsDone => Sys2Proof.Machine.execMetricsDone s
  | .tempEstimate => Sys2Proof.Machine.execTempEstimate s
  | .tcalClr master value => Sys2Proof.Machine.execTcalClr master value s
  | .tcal edition offsets => Sys2Proof.Machine.execTcal edition offsets s
  | .perturbZero => Sys2Proof.Machine.execPerturbZero s
  | .loopCfgWrite master isRoute value => Sys2Proof.Machine.execLoopCfgWrite master isRoute value s
  | .loopModeWrite master manual => Sys2Proof.Machine.execLoopModeWrite master manual s
  | .loopSwap master multi => Sys2Proof.Machine.execLoopSwap master multi s
  | .loopResume master => Sys2Proof.Machine.execLoopResume master s
  | .thermalSlotSample slot => Sys2Proof.Machine.execThermalSlotSample slot s
  | .feedbackStale slot => Sys2Proof.Machine.execFeedbackStale slot s
  | .thermalHoldExpiry slot => Sys2Proof.Machine.execThermalHoldExpiry slot s
  | .profileStep => Sys2Proof.Machine.execProfileStep s
  | .profTargetWrite master value => Sys2Proof.Machine.execProfTargetWrite master value s
  | .profLimitWrite master which value => Sys2Proof.Machine.execProfLimitWrite master which value s
  | .tinSample values => Sys2Proof.Machine.execTinSample values s
  | .tachEval tachA tachB flow => Sys2Proof.Machine.execTachEval tachA tachB flow s
  | .fanStall fan => Sys2Proof.Machine.execFanStall fan s
  | .flowLow => Sys2Proof.Machine.execFlowLow s
  | .status st => Sys2Proof.Machine.execStatus st s
  | .driveLinkUp => Sys2Proof.Machine.execDriveLinkUp s
  | .driveLinkLost => Sys2Proof.Machine.execDriveLinkLost s
  | .statusTimeout => Sys2Proof.Machine.execStatusTimeout s
  | .renewSend => Sys2Proof.Machine.execRenewSend s
  | .watchSend => Sys2Proof.Machine.execWatchSend s
  | .claimRepeat => Sys2Proof.Machine.execClaimRepeat s
  | .pwmEnable => Sys2Proof.Machine.execPwmEnable s
  | .driveEnChange line high => Sys2Proof.Machine.execDriveEnChange line high s
  | .driveEnTest readLow readHigh => Sys2Proof.Machine.execDriveEnTest readLow readHigh s
  | .fbSample neg pre pos => Sys2Proof.Machine.execFbSample neg pre pos s
  | .contStepTimeout => Sys2Proof.Machine.execContStepTimeout s
  | .preTimeout => Sys2Proof.Machine.execPreTimeout s
  | .gatesTimeout => Sys2Proof.Machine.execGatesTimeout s
  | .fbDisagree => Sys2Proof.Machine.execFbDisagree s
  | .contUnexpected => Sys2Proof.Machine.execContUnexpected s
  | .fbTestGap reads => Sys2Proof.Machine.execFbTestGap reads s
  | .curReduceRepeat => Sys2Proof.Machine.execCurReduceRepeat s
  | .curReduceDeadline => Sys2Proof.Machine.execCurReduceDeadline s
  | .connectAck can accept => Sys2Proof.Machine.execConnectAck can accept s
  | .connectTimeout => Sys2Proof.Machine.execConnectTimeout s
  | .lockstep => Sys2Proof.Machine.execLockstep s
  | .lockstepResetHold => Sys2Proof.Machine.execLockstepResetHold s
  | .marginSelftest failBank => Sys2Proof.Machine.execMarginSelftest failBank s
  | .cfgCrcCheck => Sys2Proof.Machine.execCfgCrcCheck s
  | .fsRampDeadline => Sys2Proof.Machine.execFsRampDeadline s
  | .fsNoRampFallback => Sys2Proof.Machine.execFsNoRampFallback s
  | .stopReq edition => Sys2Proof.Machine.execStopReq edition s
  | .stopReqTimeout => Sys2Proof.Machine.execStopReqTimeout s
  | .ellipsisExpiry => Sys2Proof.Machine.execEllipsisExpiry s
  | .sioSample chA chB => Sys2Proof.Machine.execSioSample chA chB s
  | .heartbeatSend => Sys2Proof.Machine.execHeartbeatSend s
  | .heartbeat hb => Sys2Proof.Machine.execHeartbeat hb s
  | .hbPulse widthUs gapUs => Sys2Proof.Machine.execHbPulse widthUs gapUs s
  | .hbPathLost path => Sys2Proof.Machine.execHbPathLost path s
  | .partnerLost => Sys2Proof.Machine.execPartnerLost s
  | .claimSend => Sys2Proof.Machine.execClaimSend s
  | .pairClaim master => Sys2Proof.Machine.execPairClaim master s
  | .claimTimeout => Sys2Proof.Machine.execClaimTimeout s
  | .mirrorSend => Sys2Proof.Machine.execMirrorSend s
  | .mirror m => Sys2Proof.Machine.execMirror m s
  | .mirrorStale => Sys2Proof.Machine.execMirrorStale s
  | .cfgDiffer => Sys2Proof.Machine.execCfgDiffer s
  | .resyncReq edition => Sys2Proof.Machine.execResyncReq edition s
  | .modeReq edition tag target => Sys2Proof.Machine.execModeReq edition tag target s
  | .modeResult edition code check target => Sys2Proof.Machine.execModeResult edition code check target s
  | .modeReqTimeout => Sys2Proof.Machine.execModeReqTimeout s
  | .swapDue => Sys2Proof.Machine.execSwapDue s
  | .swapNow master => Sys2Proof.Machine.execSwapNow master s
  | .swapOverdue => Sys2Proof.Machine.execSwapOverdue s
  | .swapOffer edition => Sys2Proof.Machine.execSwapOffer edition s
  | .swapAccept edition => Sys2Proof.Machine.execSwapAccept edition s
  | .swapDecline edition => Sys2Proof.Machine.execSwapDecline edition s
  | .swapHoldoffEnd => Sys2Proof.Machine.execSwapHoldoffEnd s
  | .swapGrantTimeout => Sys2Proof.Machine.execSwapGrantTimeout s
  | .latentClr master value => Sys2Proof.Machine.execLatentClr master value s
  | .cycleBoundary out => Sys2Proof.Machine.execCycleBoundary out s
  | .entryReturn execUs => Sys2Proof.Machine.execEntryReturn execUs s
  | .cycleDeadline out => Sys2Proof.Machine.execCycleDeadline out s
  | .retainCommit => Sys2Proof.Machine.execRetainCommit s
  | .note a0 => Sys2Proof.Machine.execNote a0 s
  | .shadowNow => Sys2Proof.Machine.execShadowNow s
  | .wait addr cap timeoutUs => Sys2Proof.Machine.execWait addr cap timeoutUs s
  | .waitTimeout => Sys2Proof.Machine.execWaitTimeout s
  | .coreTrap cause pc => Sys2Proof.Machine.execCoreTrap cause pc s
  | .ebreak pc => Sys2Proof.Machine.execEbreak pc s
  | .serviceTrap returned code pc => Sys2Proof.Machine.execServiceTrap returned code pc s
  | .serviceRestart => Sys2Proof.Machine.execServiceRestart s
  | .cycRun master startKind => Sys2Proof.Machine.execCycRun master startKind s
  | .cycStop master => Sys2Proof.Machine.execCycStop master s
  | .cycHold master => Sys2Proof.Machine.execCycHold master s
  | .cycStep master => Sys2Proof.Machine.execCycStep master s
  | .holdLimit => Sys2Proof.Machine.execHoldLimit s
  | .initTimeout => Sys2Proof.Machine.execInitTimeout s
  | .progShadow => Sys2Proof.Machine.execProgShadow s
  | .shadowSealed => Sys2Proof.Machine.execShadowSealed s
  | .retainStore => Sys2Proof.Machine.execRetainStore s
  | .tmrInWrite master slot level => Sys2Proof.Machine.execTmrInWrite master slot level s
  | .tmrPtWrite master slot value => Sys2Proof.Machine.execTmrPtWrite master slot value s
  | .tmrExpiry slot => Sys2Proof.Machine.execTmrExpiry slot s
  | .eventGrant => Sys2Proof.Machine.execEventGrant s
  | .record => Sys2Proof.Machine.execRecord s
  | .cursorWrite master value => Sys2Proof.Machine.execCursorWrite master value s
  | .cursorReady => Sys2Proof.Machine.execCursorReady s
  | .freezeExpired => Sys2Proof.Machine.execFreezeExpired s
  | .sync m => Sys2Proof.Machine.execSync m s
  | .followUp m => Sys2Proof.Machine.execFollowUp m s
  | .announce m => Sys2Proof.Machine.execAnnounce m s
  | .pdelayReq m => Sys2Proof.Machine.execPdelayReq m s
  | .pdelayResp m => Sys2Proof.Machine.execPdelayResp m s
  | .pdelayReqSend port => Sys2Proof.Machine.execPdelayReqSend port s
  | .syncLoss => Sys2Proof.Machine.execSyncLoss s
  | .announceTimeout => Sys2Proof.Machine.execAnnounceTimeout s
  | .stepNs master value => Sys2Proof.Machine.execStepNs master value s
  | .launchTrig trig => Sys2Proof.Machine.execLaunchTrig trig s
  | .trigPulseEnd trig => Sys2Proof.Machine.execTrigPulseEnd trig s
  | .compatLoad master value => Sys2Proof.Machine.execCompatLoad master value s
  | .txbReq can master value => Sys2Proof.Machine.execTxbReq can master value s
  | .txbCancel can master value => Sys2Proof.Machine.execTxbCancel can master value s
  | .canLaunchDue can buf => Sys2Proof.Machine.execCanLaunchDue can buf s
  | .canLateWindow can buf => Sys2Proof.Machine.execCanLateWindow can buf s
  | .txDone can buf sofNs => Sys2Proof.Machine.execTxDone can buf sofNs s
  | .canRxFrame can f => Sys2Proof.Machine.execCanRxFrame can f s
  | .canBusError can tecInc recInc kind buf dataBit => Sys2Proof.Machine.execCanBusError can tecInc recInc kind buf dataBit s
  | .recover can master => Sys2Proof.Machine.execRecover can master s
  | .busOn can => Sys2Proof.Machine.execBusOn can s
  | .canModeWrite can master mode => Sys2Proof.Machine.execCanModeWrite can master mode s
  | .canPeriodicDue path fn => Sys2Proof.Machine.execCanPeriodicDue path fn s
  | .trefSend can => Sys2Proof.Machine.execTrefSend can s
  | .trefLost can => Sys2Proof.Machine.execTrefLost can s
  | .rxqAck can master value => Sys2Proof.Machine.execRxqAck can master value s
  | .rxqHeadRead can master queue word => Sys2Proof.Machine.execRxqHeadRead can master queue word s
  | .rxqLockExpiry can queue => Sys2Proof.Machine.execRxqLockExpiry can queue s
  | .filterCommit master elem word => Sys2Proof.Machine.execFilterCommit master elem word s
  | .ethLinkChange port up speed phyMaster => Sys2Proof.Machine.execEthLinkChange port up speed phyMaster s
  | .ethRxFrame port f => Sys2Proof.Machine.execEthRxFrame port f s
  | .plantDatagram port f => Sys2Proof.Machine.execPlantDatagram port f s
  | .arpRequest port ip senderIp senderMacHi senderMacLo => Sys2Proof.Machine.execArpRequest port ip senderIp senderMacHi senderMacLo s
  | .icmpEcho port srcIp data => Sys2Proof.Machine.execIcmpEcho port srcIp data s
  | .txTailWrite port master value => Sys2Proof.Machine.execTxTailWrite port master value s
  | .rxTailWrite port master value => Sys2Proof.Machine.execRxTailWrite port master value s
  | .ethTxDone port sfdNs => Sys2Proof.Machine.execEthTxDone port sfdNs s
  | .macAge mac => Sys2Proof.Machine.execMacAge mac s
  | .plnkFrame f => Sys2Proof.Machine.execPlnkFrame f s
  | .plnkLinkDown phyFail => Sys2Proof.Machine.execPlnkLinkDown phyFail s
  | .plnkLinkUp => Sys2Proof.Machine.execPlnkLinkUp s
  | .twbIdentRead code len pec => Sys2Proof.Machine.execTwbIdentRead code len pec s
  | .twbModeRead code len pec => Sys2Proof.Machine.execTwbModeRead code len pec s
  | .twbHoursRead code len pec => Sys2Proof.Machine.execTwbHoursRead code len pec s
  | .twbAddrRead code len pec => Sys2Proof.Machine.execTwbAddrRead code len pec s
  | .twbPointerWrite code addr pec => Sys2Proof.Machine.execTwbPointerWrite code addr pec s
  | .twbPointerRead code len pec => Sys2Proof.Machine.execTwbPointerRead code len pec s
  | .twbFixedPointerRead code len pec => Sys2Proof.Machine.execTwbFixedPointerRead code len pec s
  | .twbProtoErr => Sys2Proof.Machine.execTwbProtoErr s
  | .twbTgtTimeout => Sys2Proof.Machine.execTwbTgtTimeout s
  | .twbQuickWrite master ctl => Sys2Proof.Machine.execTwbQuickWrite master ctl s
  | .twbQuickRead master ctl => Sys2Proof.Machine.execTwbQuickRead master ctl s
  | .twbSendByte master ctl => Sys2Proof.Machine.execTwbSendByte master ctl s
  | .twbReceiveByte master ctl => Sys2Proof.Machine.execTwbReceiveByte master ctl s
  | .twbWriteByte master ctl => Sys2Proof.Machine.execTwbWriteByte master ctl s
  | .twbReadByte master ctl => Sys2Proof.Machine.execTwbReadByte master ctl s
  | .twbWriteWord master ctl => Sys2Proof.Machine.execTwbWriteWord master ctl s
  | .twbReadWord master ctl => Sys2Proof.Machine.execTwbReadWord master ctl s
  | .twbProcessCall master ctl => Sys2Proof.Machine.execTwbProcessCall master ctl s
  | .twbBlockWrite master ctl => Sys2Proof.Machine.execTwbBlockWrite master ctl s
  | .twbBlockRead master ctl => Sys2Proof.Machine.execTwbBlockRead master ctl s
  | .twbBlockWriteBlockRead master ctl => Sys2Proof.Machine.execTwbBlockWriteBlockRead master ctl s
  | .twbFixedWrite master ctl => Sys2Proof.Machine.execTwbFixedWrite master ctl s
  | .twbFixedRead master ctl => Sys2Proof.Machine.execTwbFixedRead master ctl s
  | .twbCancel master => Sys2Proof.Machine.execTwbCancel master s
  | .twbBusFree => Sys2Proof.Machine.execTwbBusFree s
  | .cDone result => Sys2Proof.Machine.execCDone result s
  | .arbLost afterSr => Sys2Proof.Machine.execArbLost afterSr s
  | .twbCTimeout => Sys2Proof.Machine.execTwbCTimeout s
  | .busStuck cleared => Sys2Proof.Machine.execBusStuck cleared s
  | .updBegin master => Sys2Proof.Machine.execUpdBegin master s
  | .updData master value => Sys2Proof.Machine.execUpdData master value s
  | .headerCheckDone sigOk => Sys2Proof.Machine.execHeaderCheckDone sigOk s
  | .payloadVerified body => Sys2Proof.Machine.execPayloadVerified body s
  | .updAbort master => Sys2Proof.Machine.execUpdAbort master s
  | .updArm master value => Sys2Proof.Machine.execUpdArm master value s
  | .updRevert master value => Sys2Proof.Machine.execUpdRevert master value s
  | .activateAtDue => Sys2Proof.Machine.execActivateAtDue s
  | .keyRevoke master value => Sys2Proof.Machine.execKeyRevoke master value s
  | .nfwResult pos result => Sys2Proof.Machine.execNfwResult pos result s
  | .nfwBusyTimeout => Sys2Proof.Machine.execNfwBusyTimeout s
  | .nodeRejoinTimeout => Sys2Proof.Machine.execNodeRejoinTimeout s
  | .loadStatus state offset result => Sys2Proof.Machine.execLoadStatus state offset result s
  | .loadResend => Sys2Proof.Machine.execLoadResend s
  | .loadTimeout => Sys2Proof.Machine.execLoadTimeout s
  | .tonePresent amplitude => Sys2Proof.Machine.execTonePresent amplitude s
  | .chassisLoopClosed => Sys2Proof.Machine.execChassisLoopClosed s
  | .ethLaunchDue port => Sys2Proof.Machine.execEthLaunchDue port s
  | .syncSend port => Sys2Proof.Machine.execSyncSend port s
  | .swapDriveTimeout => Sys2Proof.Machine.execSwapDriveTimeout s
  | .eccCorrected => Sys2Proof.Machine.execEccCorrected s

end Sys2Proof.Machine
end

