-- ==== Sys2Proof/Safety.lean ====
section
/-! DEFINITION. What a safe step is, in the terms statements use: it answers a next state, and the stores of the state keep
their canonical form. -/

namespace Sys2Proof.Machine

/-- Every store of the state is in canonical form: the registers, memory, the registers held in MRAM, the filter elements. -/
def State.wf (s : State) : Bool := s.regs.wf && s.ram.wf && s.mram.regs.wf && s.fltHeld.wf

/-- No waiting event belongs to a page that a part lacks (R5). -/
def evOk (v : Variant) (ws : List Waiting) : Bool := ws.all (fun w => pagePresent v w.page)

/-- A state is sound: its stores are canonical, and no event of a unit that the variant lacks waits (R5). -/
def State.Sound (s : State) : Prop := s.wf = true ∧ evOk s.variant s.comp.waiting = true

/-- An event waits in the Compositor. -/
def State.waits (s : State) (e : Ev) : Bool := s.comp.waiting.any (fun w => w.page == e.page && w.num == e.num)

/-- Memory reads as before, byte by byte. -/
def MemSame (s t : State) : Prop := ∀ a, t.getByte a = s.getByte a

/-- Every register but those listed reads as before. -/
def RegsBut (rs : List Nat) (s t : State) : Prop := ∀ a, a ∉ rs → t.getReg a = s.getReg a

/-- The events that wait are those that waited and the listed ones. -/
def Added (es : List Ev) (s t : State) : Prop := ∀ e, t.waits e = true ↔ s.waits e = true ∨ e ∈ es

/-- A master's write to a register that needs no key passes its checks: the module runs, the memory protection of core 0 lets the write
through (R368), the path may write there, the unit is present, OWNER has the master's bit (R5, R49, R60). -/
def State.permits (s : State) (master addr : Nat) : Bool :=
  s.live && !s.userStore master (pageOf addr) && s.writeStatus master addr (pageOf addr) == St.ok

/-- A keyed write passes its checks too: LOCK holds the key, written by this master (R51). -/
def State.permitsKeyed (s : State) (master addr key : Nat) : Bool :=
  s.permits master addr && s.keyOk master (pageOf addr) key

/-- A VRA datagram of a class from a source passes the checks of R55 to R57 for the session `x`. -/
def State.vraAccepts (s : State) (cls port ip : Nat) (b : List Nat) (x : VraSession) : Bool :=
  s.live && decide (port < 2) && bitOf (s.getReg Reg.SYS_VRA_CTL) 0 && !s.acc.blocked.contains ip && vraClass b == cls
    && s.acc.sessions.find? (fun y => y.id == beAt b 4 2) == some x && tagOk x.key b && decide (x.seq < beAt b 8 4)
    && vraFault b == 0

/-- The slot that LOOP.SEL names, after a write to its CFG or its ROUTE. -/
def State.cfgWritten (s : State) (isRoute : Bool) (value : Nat) : Slot :=
  if isRoute then (s.slot s.loopSel).restarted (s.slot s.loopSel).cfg (value &&& 0xF0F)
  else (s.slot s.loopSel).restarted (newCfg s.loopSel (s.slot s.loopSel).cfg value) (s.slot s.loopSel).route

/-- The bytes of TWB.C_DATA. -/
def State.cData (s : State) : List Nat := (List.range 8).flatMap (fun i => leBytes 4 (s.getReg (Reg.TWB_C_DATA i)))

/-- GO for a protocol is permitted, and the bus is free (R489, R490). -/
def State.twbMayGo (s : State) (m prot : Nat) : Bool :=
  s.permits m Reg.TWB_C_CTL && s.getReg Reg.TWB_C_CMD % 16 == prot && !s.flag Fld.TWB_C_STATUS_BUSY && (!s.flag Fld.TWB_BUS_CFG_HOLDER_ONLY || s.speaker) && s.twb.free

/-- The transaction has started: its bytes have left, BUSY reads 1, the run is kept, no event has come, no other register has
changed. -/
def TwbStarted (s t : State) (ctl prot : Nat) (bytes : List Nat) : Prop :=
  t.sent = ⟨.twb, 0x100 + prot, bytes⟩ :: s.sent ∧ t.flag Fld.TWB_C_STATUS_BUSY = true ∧
  t.twb = { free := false, run := some ⟨ctl &&& 0x1FF, s.getReg Reg.TWB_C_CMD, s.cData, true, false⟩ } ∧
  Added [] s t ∧ RegsBut [Reg.TWB_C_CTL, Reg.TWB_C_STATUS] s t

/-- The first byte of a transaction that writes: the address of C_CTL, shifted for the direction bit. -/
def State.twbAddr (ctl : Nat) : Nat := 2 * (ctl % 128)

/-- A chain frame as it leaves a port: header, body, CRC-32 (R97). -/
def chainFrame (port : Nat) (h : ChainHead) (body : List Nat) : Out :=
  ⟨.chain port, h.type, (h.bytes ++ body) ++ frameCrc (h.bytes ++ body)⟩

/-- A chain port sends: its transmitter is on, and no loop test turns the frames back (R133). -/
def State.portSends (s : State) (port : Nat) : Bool := s.chainTx port && !s.chainLoop port

/-- The ordered set DLY as it leaves a port (R94). -/
def dlySet (port pos op : Nat) : Out := ⟨.chain port, 0x11, [pos, op, pos ^^^ op ^^^ 0x3C]⟩

/-- The ordered set TRIG as it leaves a port (R94). -/
def trigSet (port num ctrl : Nat) : Out :=
  ⟨.chain port, 0x10, [num / 256 % 256, num % 256, ctrl, (num / 256 % 256) ^^^ (num % 256) ^^^ ctrl ^^^ 0x5A]⟩

/-- A partner message waits in the transmitter or has left it (R474, R475). -/
def State.plnkSaid (t : State) (type : Nat) (body : List Nat) : Bool :=
  t.eth.txq.any (fun x => x.type == type && x.body == body)
    || t.sent.any (fun o => o.port == .plnk && o.code == type && o.data.drop 20 == body)

/-- The events whose grant decides something besides what every grant does (R10, R407). -/
def grantDecides : List Ev := [⟨Pg.MODE, 32⟩, ⟨Pg.MODE, 41⟩, ⟨Pg.AUX, 40⟩, ⟨Pg.AUX, 41⟩, ⟨Pg.AUX, 42⟩, ⟨Pg.EST, 40⟩, ⟨Pg.EST, 41⟩,
  ⟨Pg.EST, 42⟩, ⟨Pg.CELL, 40⟩, ⟨Pg.CYC, 40⟩, ⟨Pg.TIME, 40⟩, ⟨Pg.UPD, 40⟩, ⟨Pg.UPD, 42⟩, ⟨Pg.UPD, 43⟩, Ev.CHN_SWEEP_DONE 0,
  Ev.CYC_CYCLE_START]

/-- A step of `s` answers a next state in canonical form. -/
def SafeStep (s : State) : Prop := ∃ t, step s = .next t ∧ t.wf = true

end Sys2Proof.Machine
end

