-- ==== Sys2Proof/Certificates/Slice0/Obligations.lean ====
section
/-! DEFINITION. The statements for the provers. `Says` holds their clauses, one for a command and case: what the command does to
every state and operands that meet the conditions named; `keeps_…` what it leaves as it was. An obligation joins the clauses of
one subject, under the rules of the spec that it names. -/

open Sys2Proof Sys2Proof.Machine

namespace Sys2Proof.Says

/-- A command of the controller with the code of its protocol (R489). -/
def TwbGo (p : Nat) (f : Nat → Nat → Instr) : Prop :=
  (p = 0 ∧ f = fun m c => .twbQuickWrite m c) ∨
  (p = 1 ∧ f = fun m c => .twbQuickRead m c) ∨
  (p = 2 ∧ f = fun m c => .twbSendByte m c) ∨
  (p = 3 ∧ f = fun m c => .twbReceiveByte m c) ∨
  (p = 4 ∧ f = fun m c => .twbWriteByte m c) ∨
  (p = 5 ∧ f = fun m c => .twbReadByte m c) ∨
  (p = 6 ∧ f = fun m c => .twbWriteWord m c) ∨
  (p = 7 ∧ f = fun m c => .twbReadWord m c) ∨
  (p = 8 ∧ f = fun m c => .twbProcessCall m c) ∨
  (p = 9 ∧ f = fun m c => .twbBlockWrite m c) ∨
  (p = 10 ∧ f = fun m c => .twbBlockRead m c) ∨
  (p = 11 ∧ f = fun m c => .twbBlockWriteBlockRead m c) ∨
  (p = 12 ∧ f = fun m c => .twbFixedWrite m c) ∨
  (p = 13 ∧ f = fun m c => .twbFixedRead m c)

/-- REGISTER_WRITE (R49), case `mem`. -/
def registerWrite_mem : Prop :=
  ∀ (s : State) (m a w v : Nat), s.live = true → m < 2 → w ∈ [1, 2, 4, 8, 16] → a % w = 0 → isRam a = true → s.pmpOk m a true = true →
    ∃ t, exec (.registerWrite m a w v) s = .next t ∧ t = { s with ram := t.ram } ∧
      (∀ i, i < w → t.getByte (a + i) = v / 256 ^ i % 256) ∧
      (∀ b, b < a ∨ a + w ≤ b → t.getByte b = s.getByte b)

/-- REGISTER_WRITE (R49). -/
def registerWrite : Prop :=
  ∀ (s : State) (m p v : Nat), s.live = true → p < 35 → m < 4 → pagePresent s.variant p = true → s.owns m p = true → s.pmpOk m (Folio.EVENT_EN p) true = true →
    ∃ t, exec (.registerWrite m (Folio.EVENT_EN p) 4 v) s = .next t ∧ t = { s with regs := t.regs } ∧
      t.getReg (Folio.EVENT_EN p) = v % 2 ^ 32 &&& evMask p ∧ RegsBut [Folio.EVENT_EN p] s t

/-- REGISTER_WRITE (R49), case `owner`. -/
def registerWrite_owner : Prop :=
  ∀ (s : State) (m p v : Nat), s.live = true → p < 35 → m < 4 → pagePresent s.variant p = true → s.owns m p = false → s.pmpOk m (Folio.EVENT_EN p) true = true →
    ∃ t, exec (.registerWrite m (Folio.EVENT_EN p) 4 v) s = .next t ∧ Added [Ev.SYS_OWNER_DENIED] s t ∧
      t.getReg Reg.SYS_ACCESS_ERR_ADDR = Folio.EVENT_EN p ∧
      t.getF Fld.SYS_ACCESS_ERR_MASTER = m ∧ t.getF Fld.SYS_ACCESS_ERR_STATUS = St.ownerDenied ∧
      RegsBut [Reg.SYS_ACCESS_ERR_ADDR, Reg.SYS_ACCESS_ERR, Reg.SEQ_COALESCED] s t

/-- OWNER_WRITE (R49). -/
def ownerWrite : Prop :=
  ∀ (s : State) (m p v : Nat), s.live = true → p < 35 → m < 2 → pagePresent s.variant p = true → fixedOwner p = false → s.keyOk m p 0xC3A5 = true →
      s.pmpOk m (Folio.OWNER p) true = true →
    ∃ t, exec (.ownerWrite m p v) s = .next t ∧ t.getReg (Folio.OWNER p) = v % 2 ^ 32 &&& 0x1D ||| 2 ∧
      t.getF (Folio.LOCK_KEY p) = 0 ∧ RegsBut [Folio.OWNER p, Folio.LOCK p] s t

/-- LOCK_WRITE (R51). -/
def lockWrite : Prop :=
  ∀ (s : State) (m p k : Nat), s.live = true → p < 35 → m < 2 ∨ (m < 4 ∧ s.owns m p = true) → pagePresent s.variant p = true →
      s.pmpOk m (Folio.LOCK p) true = true →
    ∃ t, exec (.lockWrite m p k) s = .next t ∧ t.getF (Folio.LOCK_KEY p) = k % 65536 ∧ t.getF (Folio.LOCK_MASTER p) = m ∧
      RegsBut [Folio.LOCK p] s t

/-- LOCK_KEY_EXPIRY (R51). -/
def lockKeyExpiry : Prop :=
  ∀ (s : State) (p : Nat), s.live = true → p < 35 →
    ∃ t, exec (.lockKeyExpiry p) s = .next t ∧ t.getF (Folio.LOCK_KEY p) = 0 ∧
      t.getF (Folio.LOCK_MASTER p) = s.getF (Folio.LOCK_MASTER p) ∧ RegsBut [Folio.LOCK p] s t

/-- OWNER_WRITE (R49), case `denied`. -/
def ownerWrite_denied : Prop :=
  ∀ (s : State) (m p v : Nat), s.live = true → p < 35 → 2 ≤ m → m < 4 → pagePresent s.variant p = true →
    ∃ t, exec (.ownerWrite m p v) s = .next t ∧ Added [Ev.SYS_OWNER_DENIED] s t ∧ t.getReg Reg.SYS_ACCESS_ERR_ADDR = Folio.OWNER p ∧
      t.getF Fld.SYS_ACCESS_ERR_MASTER = m ∧ t.getF Fld.SYS_ACCESS_ERR_STATUS = St.ownerDenied ∧
      RegsBut [Reg.SYS_ACCESS_ERR_ADDR, Reg.SYS_ACCESS_ERR, Reg.SEQ_COALESCED] s t

/-- REGISTER_WRITE (R49), case `user`. -/
def registerWrite_user : Prop :=
  ∀ (s : State) (a w v : Nat), s.live = true → s.pmpOk 0 a true = false →
    ∃ t, exec (.registerWrite 0 a w v) s = .next t ∧ t = { s with sent := ⟨.core 0, 7, [a]⟩ :: s.sent }

/-- READ_CLEAR (R9). -/
def readClear : Prop :=
  ∀ (s : State) (m a : Nat), s.live = true → readable m a = true → a % 4 = 0 → inPages a = true → 0x20 ≤ a % 0x1000 →
    pagePresent s.variant (pageOf a) = true → ¬ (pageOf a = Pg.CHN1 ∧ 0x60 ≤ a % 0x1000 ∧ a % 0x1000 ≤ 0x78) →
    ¬ ((pageOf a = Pg.CAN0 ∨ pageOf a = Pg.CAN1) ∧ 0xE00 ≤ a % 0x1000 ∧ a % 0x1000 < 0xF40) → a ≠ Reg.LOOP_SEL_STATUS → a ≠ Reg.VOTE_SAMPLE_SEQ →
    a ∉ lowWords → s.latched m a = none → s.pmpOk m a false = true →
    ∃ t, exec (.readClear m a 4) s = .next t ∧ t.sent = ⟨.reply, St.ok, [m, a, s.rcValue a (s.peek a)]⟩ :: s.sent ∧
      t.getReg a = (s.getReg a &&& (0xFFFFFFFF ^^^ (accAt a).rc)) ||| (s.added a &&& (accAt a).rc) ∧ RegsBut [a] s t

/-- READ_CLEAR (R9), case `vote`. -/
def readClear_vote : Prop :=
  ∀ (s : State) (m : Nat), s.live = true → m < 4 → s.latched m Reg.VOTE_SAMPLE_SEQ = none → s.pmpOk m Reg.VOTE_SAMPLE_SEQ false = true →
    ∃ t, exec (.readClear m Reg.VOTE_SAMPLE_SEQ 4) s = .next t ∧
      t.sent = ⟨.reply, St.ok, [m, Reg.VOTE_SAMPLE_SEQ, s.getReg Reg.VOTE_SAMPLE_SEQ]⟩ :: s.sent ∧
      (∀ r ∈ voteRegs, t.latched m r = some (s.peek r)) ∧ t = { s with acc := t.acc, sent := t.sent }

/-- READ_CLEAR (R9), case `width`. -/
def readClear_width : Prop :=
  ∀ (s : State) (m a w : Nat), s.live = true → m < 2 → readable m (a / 4 * 4) = true → inPages (a / 4 * 4) = true → coreWidth a w = false → s.pmpOk m a false = true →
    ∃ t, exec (.readClear m a w) s = .next t ∧ t.sent = ⟨.reply, St.align, [m, a, 0]⟩ :: ⟨.core m, 5, [a]⟩ :: s.sent ∧
      t.getF Fld.SYS_ACCESS_ERR_MASTER = m ∧ t.getF Fld.SYS_ACCESS_ERR_STATUS = St.align ∧ Added [] s t ∧
      RegsBut [Reg.SYS_ACCESS_ERR_ADDR, Reg.SYS_ACCESS_ERR] s t

/-- LOW_WORD_READ (R52). -/
def lowWordRead : Prop :=
  ∀ (s : State) (m a : Nat), s.live = true → readable m a = true → a ∈ lowWords → pagePresent s.variant (pageOf a) = true → s.latched m a = none →
      s.pmpOk m a false = true →
    ∃ t, exec (.lowWordRead m a 4) s = .next t ∧ t.sent = ⟨.reply, St.ok, [m, a, s.peek a]⟩ :: s.sent ∧
      t.latched m (a + 4) = some (s.peek (a + 4)) ∧ t = { s with acc := t.acc, sent := t.sent }

/-- READ_CLEAR (R9). -/
def readLatched : Prop :=
  ∀ (s : State) (m a v : Nat), s.live = true → readable m a = true → a % 4 = 0 → inPages a = true → a ∉ voteRegs →
    pagePresent s.variant (pageOf a) = true → s.latched m a = some v → s.pmpOk m a false = true →
    ∃ t, exec (.readClear m a 4) s = .next t ∧ t.sent = ⟨.reply, St.ok, [m, a, v]⟩ :: s.sent ∧ t.latched m a = none ∧
      t = { s with acc := t.acc, sent := t.sent }

/-- UART_RD (R61). -/
def uartRd : Prop :=
  ∀ (s : State) (l : List Nat) (a : Nat), s.uartLive = true → l.length ≤ 32 → l.take 2 = [82, 68] → hexWords 1 (l.drop 2) = some [a] →
      a % 4 = 0 → subset60 a = true → pagePresent s.variant (pageOf a) = true → s.latched 5 a = none →
    ∃ t, exec (.uartRd l) s = .next t ∧ t.sent = ⟨.uart, 0, [s.rcValue a (s.peek a)]⟩ :: s.sent ∧
      RegsBut [a] s t

/-- UART_RD (R61), case `long`. -/
def uartRd_long : Prop :=
  ∀ (s : State) (l : List Nat), s.uartLive = true → 32 < l.length → l.take 2 ≠ [87, 82] →
    ∃ t, exec (.uartRd l) s = .next t ∧ t = { s with sent := ⟨.uart, 1, [St.align]⟩ :: s.sent }

/-- UART_WR (R61). -/
def uartWr : Prop :=
  ∀ (s : State) (a v : List Nat) (k : Nat), s.uartLive = true → s.owns 5 Pg.MODE = true → a.length + v.length ≤ 28 →
      hexWords 2 ([32] ++ a ++ [32] ++ v) = some [Folio.LOCK Pg.MODE, k] →
    ∃ t, exec (.uartWr a v) s = .next t ∧ t.getF (Folio.LOCK_KEY Pg.MODE) = k % 65536 ∧
      t.getF (Folio.LOCK_MASTER Pg.MODE) = 5 ∧ t.sent = ⟨.uart, 0, [k]⟩ :: s.sent ∧ RegsBut [Folio.LOCK Pg.MODE] s t

/-- UART_WR (R61), case `long`. -/
def uartWr_long : Prop :=
  ∀ (s : State) (a v : List Nat), s.uartLive = true → 28 < a.length + v.length →
    ∃ t, exec (.uartWr a v) s = .next t ∧ t = { s with sent := ⟨.uart, 1, [St.align]⟩ :: s.sent }

/-- VRA_IDLE_TIMEOUT (R55). -/
def vraIdleTimeout : Prop :=
  ∀ (s : State) (id : Nat), s.live = true → s.acc.sessions.any (fun x => x.id == id) = true →
      (∀ x ∈ s.acc.sessions, x.id = id → x.cycle ≠ s.comp.cycle) →
    ∃ t, exec (.vraIdleTimeout id) s = .next t ∧ (∀ x, x ∈ t.acc.sessions ↔ x ∈ s.acc.sessions ∧ x.id ≠ id) ∧
      Added [Ev.SYS_VRA_SESSION] s t ∧ RegsBut [Reg.SEQ_COALESCED] s t

/-- VRA_IDLE_TIMEOUT (R55), case `arrival`. -/
def vraIdleTimeout_arrival : Prop :=
  ∀ (s : State) (id : Nat), s.live = true → s.acc.sessions.any (fun x => x.id == id && x.cycle == s.comp.cycle) = true →
    ∃ t, exec (.vraIdleTimeout id) s = .next t ∧ t = s

/-- VRA_SOURCE_BLOCK_END (R57). -/
def vraSourceBlockEnd : Prop :=
  ∀ (s : State) (ip : Nat), s.live = true →
    ∃ t, exec (.vraSourceBlockEnd ip) s = .next t ∧ (∀ x, x ∈ t.acc.blocked ↔ x ∈ s.acc.blocked ∧ x ≠ ip) ∧
      t.acc.sessions = s.acc.sessions ∧ t = { s with acc := t.acc }

/-- VRA_CLOSE (R55). -/
def vraClose : Prop :=
  ∀ (s : State) (p ip sp : Nat) (b : List Nat) (x : VraSession), s.vraAccepts 5 p ip b x = true → beAt b 3 1 = 5 →
    ∃ t, exec (.vraClose p ip sp b) s = .next t ∧ (∀ y, y ∈ t.acc.sessions ↔ y ∈ s.acc.sessions ∧ y.id ≠ x.id) ∧
      Added [Ev.SYS_VRA_SESSION] s t ∧ t.sent.tail = s.sent ∧ t.sent.head?.map (fun m => (m.port, m.code)) = some (.eth p, 0xA004) ∧
      RegsBut [Reg.ETH_FRAMES_TX p, Reg.SEQ_COALESCED] s t

/-- VRA_READ (R58). -/
def vraRead : Prop :=
  ∀ (s : State) (p ip sp : Nat) (b : List Nat) (x : VraSession) (a : Nat), s.vraAccepts 4 p ip b x = true → beAt b 3 1 = 3 → 
    vraOps (beAt b 12 2) ((vraMsg b).drop 16) = some [⟨1, 1, a, []⟩] → a % 4 = 0 → inPages a = true → a % 0x1000 < 0x20 →
    pagePresent s.variant (pageOf a) = true → s.latched 3 a = none →
    ∃ t, exec (.vraRead p ip sp b) s = .next t ∧
      t.sent = ⟨.eth p, 0xA004, 7 :: (s.record.map (·.vlan)).getD 0 :: ip :: sp ::
        vraBytes x.key 0x04 x.id (beAt b 8 4) 1 ([0, 0, 0, 1] ++ beBytes 4 a ++ beBytes 4 (s.peek a))⟩ :: s.sent ∧
      (∀ y ∈ t.acc.sessions, y.id = x.id → y.seq = beAt b 8 4) ∧
      RegsBut [a, Reg.ETH_FRAMES_TX p] s t

/-- VRA_OPEN (R55). -/
def vraOpen : Prop :=
  ∀ (s : State) (p ip sp : Nat) (b k : List Nat), s.live = true → p < 2 → bitOf (s.getReg Reg.SYS_VRA_CTL) 0 = true →
    ip ∉ s.acc.blocked → vraClass b = 1 → 1 ≤ beAt b 16 1 → beAt b 16 1 ≤ 3 → s.accessKey (beAt b 16 1 - 1) = some k →
    tagOk k b = true → vraFault b = 0 → beAt b 14 2 = 20 → s.acc.sessions.length < 8 →
    ∃ t, exec (.vraOpen p ip sp b) s = .next t ∧ t.acc.sessions.tail = s.acc.sessions ∧
      t.acc.sessions.head?.map (fun x => (x.level, x.seq)) = some (beAt b 16 1, 0) ∧ Added [Ev.SYS_VRA_SESSION] s t ∧
      t.sent.tail = s.sent ∧ t.sent.head?.map (fun m => (m.port, m.code)) = some (.eth p, 0xA004) ∧
      RegsBut [Reg.ETH_FRAMES_TX p, Reg.SEQ_COALESCED] s t

/-- VRA_WRITE (R58). -/
def vraWrite : Prop :=
  ∀ (s : State) (p ip sp : Nat) (b : List Nat) (x : VraSession) (q v : Nat), s.vraAccepts 2 p ip b x = true → beAt b 3 1 = 3 →
    vraOps (beAt b 12 2) ((vraMsg b).drop 16) = some [⟨2, 1, Folio.EVENT_EN q, [v]⟩] → q < 35 → pagePresent s.variant q = true →
    s.owns 3 q = true → x.level = 3 ∨ (x.level = 2 ∧ q ≠ Pg.UPD) →
    ∃ t, exec (.vraWrite p ip sp b) s = .next t ∧ t.getReg (Folio.EVENT_EN q) = v % 2 ^ 32 &&& evMask q ∧
      (∀ y ∈ t.acc.sessions, y.id = x.id → y.seq = beAt b 8 4) ∧
      t.sent.tail = s.sent ∧ t.sent.head?.map (fun m => (m.port, m.code)) = some (.eth p, 0xA004) ∧
      RegsBut [Folio.EVENT_EN q, Reg.ETH_FRAMES_TX p] s t

/-- VRA_WRITE_MASK (R58). -/
def vraWriteMask : Prop :=
  ∀ (s : State) (p ip sp : Nat) (b : List Nat) (x : VraSession) (q k v : Nat), s.vraAccepts 3 p ip b x = true → beAt b 3 1 = 3 →
    vraOps (beAt b 12 2) ((vraMsg b).drop 16) = some [⟨3, 1, Folio.EVENT_EN q, [k, v]⟩] → q < 35 → pagePresent s.variant q = true →
    s.owns 3 q = true → x.level = 3 ∨ (x.level = 2 ∧ q ≠ Pg.UPD) →
    ∃ t, exec (.vraWriteMask p ip sp b) s = .next t ∧
      t.getReg (Folio.EVENT_EN q) = masked (s.getReg (Folio.EVENT_EN q)) k v % 2 ^ 32 &&& evMask q ∧
      (∀ y ∈ t.acc.sessions, y.id = x.id → y.seq = beAt b 8 4) ∧
      t.sent.tail = s.sent ∧ t.sent.head?.map (fun m => (m.port, m.code)) = some (.eth p, 0xA004) ∧
      RegsBut [Folio.EVENT_EN q, Reg.ETH_FRAMES_TX p] s t

/-- VRA_CTL_WRITE (R62). -/
def vraCtlWrite : Prop :=
  ∀ (s : State) (m v : Nat), s.live = true → m < 4 → s.owns m Pg.SYS = true → s.keyOk m Pg.SYS 0x6B19 = true → s.pmpOk m Reg.SYS_VRA_CTL true = true →
    ∃ t, exec (.vraCtlWrite m v) s = .next t ∧ t.getF Fld.SYS_VRA_CTL_ENABLE = v % 2 ∧ t.getF (Folio.LOCK_KEY Pg.SYS) = 0 ∧
      (v % 2 = 1 → t.acc.sessions = s.acc.sessions) ∧ (v % 2 = 0 → t.acc.sessions = []) ∧
      RegsBut [Folio.LOCK Pg.SYS, Reg.SYS_VRA_CTL, Reg.SEQ_COALESCED] s t

/-- ASSAY_START (R235). -/
def assayStart : Prop :=
  ∀ (s : State) (m b : Nat) (l : List Nat), s.permits m Reg.ASY_RUN_CTL = true → s.cur = Md.assay → s.getF Fld.ASY_RUN_STATUS_STATE ∈ [0, 5, 6] →
    s.pair = false ∨ s.holder = true → binsOf s.runMask = b :: l →
    ∃ t, exec (.assayStart m) s = .next t ∧ t.getF Fld.ASY_RUN_STATUS_STATE = 1 ∧ t.getF Fld.ASY_RUN_STATUS_BIN = b ∧ t.asy.bins = b :: l ∧ t.asy.tries = 1 ∧
      t.asy.amplMa = min (10 * s.getF Fld.ASY_AMPL_AMPL) (min (s.getReg Reg.SAFE_I_RATED / 20) 20000) ∧ t.drv.perturbMoving = true ∧ t.waits Ev.ASY_RUN_START = true ∧
      RegsBut [Fld.ASY_RUN_STATUS_STATE.addr, Reg.SEQ_COALESCED] s t

/-- ASSAY_START (R235), case `refused`. -/
def assayStart_refused : Prop :=
  ∀ (s : State) (m : Nat), s.permits m Reg.ASY_RUN_CTL = true → s.cur ≠ Md.assay →
    ∃ t, exec (.assayStart m) s = .next t ∧ t.asy = s.asy ∧ Added [Ev.ASY_START_REFUSED] s t ∧ RegsBut [Reg.SEQ_COALESCED] s t

/-- ASSAY_ABORT (R236). -/
def assayAbort : Prop :=
  ∀ (s : State) (m : Nat), s.permits m Reg.ASY_RUN_CTL = true → s.asyRuns = true →
    ∃ t, exec (.assayAbort m) s = .next t ∧ t.waits Ev.ASY_RUN_ABORTED = true ∧
      (s.cur ≠ Md.assay → t.getReg Reg.ASY_ABORT_CAUSE = 1 ∧ t.getF Fld.ASY_RUN_STATUS_STATE = 4 ∧ t.asy.bins = [])

/-- PERTURB_RISE_END (R234). -/
def perturbRiseEnd : Prop :=
  ∀ (s : State), s.live = true → s.getF Fld.ASY_RUN_STATUS_STATE = 1 → s.mode.row = 0 ∨ (s.mode.row = 6 ∧ s.getF Fld.MODE_FUNC_STATE_BLEED ≠ 0) →
    ∃ t, exec .perturbRiseEnd s = .next t ∧ t.getF Fld.ASY_RUN_STATUS_STATE = 2 ∧
      (s.getF Fld.MODE_FUNC_STATE_PERTURB = 1 → t.getF Fld.MODE_FUNC_STATE_PERTURB = 2) ∧ Added [] s t ∧
      RegsBut [Fld.ASY_RUN_STATUS_STATE.addr, Reg.MODE_FUNC_STATE] s t

/-- BIN_SPAN_END (R238), case `retry`. -/
def binSpanEnd_retry : Prop :=
  ∀ (s : State) (f : Fit) (j : Nat) (l : List Nat), s.live = true → s.variant = .F → s.asy.fit = some f → s.asy.bins = j :: l →
    s.getF Fld.ASY_RUN_STATUS_STATE = 2 ∨ s.getF Fld.ASY_RUN_STATUS_STATE = 3 → (s.asyJudge f).1 ≠ 1 → s.asy.tries = 1 →
    ∃ t, exec .binSpanEnd s = .next t ∧ t.waits Ev.ASY_BIN_RETRY = true ∧ t.asy.tries = 2 ∧ t.asy.bins = j :: l ∧ t.asy.res = s.asy.res ∧
      t.getF Fld.ASY_RUN_STATUS_STATE = 2 ∧
      RegsBut [Fld.ASY_RUN_STATUS_STATE.addr, Reg.SEQ_COALESCED] s t

/-- BIN_SPAN_END (R238), case `judged`. -/
def binSpanEnd_judged : Prop :=
  ∀ (s : State) (f : Fit) (j : Nat) (l : List Nat), s.live = true → s.variant = .F → s.asy.fit = some f → s.asy.bins = j :: l →
    s.getF Fld.ASY_RUN_STATUS_STATE = 2 ∨ s.getF Fld.ASY_RUN_STATUS_STATE = 3 → (s.asyJudge f).1 = 1 ∨ s.asy.tries ≠ 1 →
    ∃ t, exec .binSpanEnd s = .next t ∧ t.waits (if (s.asyJudge f).1 = 1 then Ev.ASY_BIN_DONE else Ev.ASY_BIN_INVALID) = true ∧
      (l ≠ [] → t.asy.bins = l ∧ t.asy.tries = 1 ∧ t.asy.res.head?.map (fun r => (r.bin, r.state)) = some (j, (s.asyJudge f).1)) ∧
      (l = [] → t.waits Ev.ASY_RUN_DONE = true) ∧
      RegsBut [Fld.ASY_RUN_STATUS_STATE.addr, Reg.ASY_RUN_TIME, Reg.SEQ_COALESCED] s t

/-- METRICS_DONE (R244). -/
def metricsDone : Prop :=
  ∀ (s : State), s.live = true → s.variant = .F → s.asy.metricsDue = true →
    ∃ t, exec .metricsDone s = .next t ∧ t.waits Ev.ASY_METRICS_DONE = true ∧ t.asy.metricsDue = false ∧ t.asy.metrics.length = s.cellList.length ∧
      RegsBut [Reg.ASY_OUTLIER_COUNT, Reg.SEQ_COALESCED] s t

/-- TEMP_ESTIMATE (R246). -/
def tempEstimate : Prop :=
  ∀ (s : State) (j : Nat), s.live = true → s.asy.tempDue = some j →
    ∃ t, exec .tempEstimate s = .next t ∧ t.asy.tempDue = none ∧ t.asy.res = s.asy.res ∧ t.asy.bins = s.asy.bins ∧ t.est.cells.length = s.est.cells.length ∧
      t.regs = s.regs

/-- TCAL_CLR (R247). -/
def tcalClr : Prop :=
  ∀ (s : State) (m v : Nat), s.permitsKeyed m Reg.ASY_TCAL_CLR 0x6D2A = true → bitOf v 0 = true → s.asyRuns = false → s.asy.tcals.length = 2 → s.asy.tcalAt < 2 →
    ∃ t, exec (.tcalClr m v) s = .next t ∧ t.asy = { s.asy with tcals := t.asy.tcals, tcalAt := 1 - s.asy.tcalAt } ∧ t.tcal = [] ∧
      t.asy.tcals[s.asy.tcalAt]? = s.asy.tcals[s.asy.tcalAt]? ∧ t.getF (Folio.LOCK_KEY Pg.ASY) = 0 ∧ Added [] s t ∧
      RegsBut [Folio.LOCK Pg.ASY] s t

/-- TCAL (R247). -/
def tcal : Prop :=
  ∀ (s : State) (e : Nat) (l : List Int), s.live = true → s.pair = true → s.plnkOn = true → s.holder = false → s.getReg Reg.PAIR_EDITION = e →
      s.asy.tcals.length = 2 → s.asy.tcalAt < 2 →
    ∃ t, exec (.tcal e l) s = .next t ∧ t.tcal = l ∧ t = { s with asy := { s.asy with tcals := t.asy.tcals, tcalAt := 1 - s.asy.tcalAt } }

/-- PERTURB_ZERO (R284). -/
def perturbZero : Prop :=
  ∀ (s : State), s.live = true → s.variant ≠ .C → s.drv.perturbMoving = true → s.getF Fld.ASY_RUN_STATUS_STATE = 4 → s.getF Fld.MODE_FUNC_STATE_PERTURB ≠ 3 → s.asy.endState < 8 →
    ∃ t, exec .perturbZero s = .next t ∧ t.getF Fld.ASY_RUN_STATUS_STATE = s.asy.endState ∧ t.drv = { s.drv with perturbMoving := false } ∧
      Added [Ev.DRV_PERTURB_ZERO] s t ∧ RegsBut [Fld.ASY_RUN_STATUS_STATE.addr, Reg.SEQ_COALESCED] s t

/-- PERTURB_ZERO (R284), case `stopping`. -/
def perturbZero_stopping : Prop :=
  ∀ (s : State), s.live = true → s.variant ≠ .C → s.drv.perturbMoving = false → s.getF Fld.MODE_FUNC_STATE_PERTURB = 3 → s.mode.row = 0 →
    ∃ t, exec .perturbZero s = .next t ∧ t.getF Fld.MODE_FUNC_STATE_PERTURB = 0 ∧ Added [Ev.DRV_PERTURB_ZERO] s t ∧
      RegsBut [Reg.MODE_FUNC_STATE, Fld.ASY_RUN_STATUS_STATE.addr, Reg.MODE_STATE, Reg.SEQ_COALESCED] s t

/-- PERTURB_ZERO (R284), case `lost`. -/
def perturbZero_lost : Prop :=
  ∀ (s : State), s.live = true → s.variant = .F → s.drv.perturbMoving = true → s.asyRuns = true →
    ∃ t, exec .perturbZero s = .next t ∧ t.waits Ev.DRV_PERTURB_ZERO = true ∧ t.waits Ev.ASY_RUN_ABORTED = true

/-- OWT_LAUNCH (R146). -/
def owtLaunch : Prop :=
  ∀ (s : State), s.live = true → s.masters = true → s.bal.owtWanted = true → s.bal.owtRunning = false → s.owtAllowed = true →
    ∃ t, exec .owtLaunch s = .next t ∧ t.bal = { s.bal with owtWanted := false, owtForMode := false, owtRunning := true, owtServes := s.bal.owtForMode } ∧
      t.getF Fld.BAL_OWT_STATUS_RESULT = 3 ∧
      (s.otherSeg = [] → s.chainTx 0 = true → s.chainLoop 0 = false →
        t.sent = chainFrame 0 ⟨0x02, s.dirBit 0, 0, s.chainEdition, 0, 0, 1, 0, 8⟩ [0xFF, 2, 0x00, 0x28, 0, 1, 0, 0] :: s.sent) ∧
      (∀ p ∈ t.chain.pos, p.owAnswered = false ∧ p.owRead = 0) ∧ Added [] s t ∧
      RegsBut [Reg.CHN_FRAMES_TX 0, Reg.CHN_FRAMES_TX 1, Reg.CHN_FRAMES_RX 0, Reg.CHN_FRAMES_RX 1, Fld.BAL_OWT_STATUS_RESULT.addr] s t

/-- OWT_PERIODIC (R146). -/
def owtPeriodic : Prop :=
  ∀ (s : State), s.live = true → s.masters = true → s.bal.owtRunning = false →
    ∃ t, exec .owtPeriodic s = .next t ∧ t.bal = { s.bal with owtWanted := true } ∧ (s.owtAllowed = false → t.getF Fld.BAL_OWT_STATUS_RESULT = 4) ∧
      (s.owtAllowed = true → t.regs = s.regs) ∧
      RegsBut [Fld.BAL_OWT_STATUS_RESULT.addr] s t

/-- OWT_NOW (R161). -/
def owtNow : Prop :=
  ∀ (s : State) (m : Nat), s.permits m Reg.BAL_CTL = true →
    ∃ t, exec (.owtNow m) s = .next t ∧ t.bal = { s.bal with owtWanted := true } ∧ (s.owtAllowed = false → t.getF Fld.BAL_OWT_STATUS_RESULT = 4) ∧
      (s.owtAllowed = true → t.regs = s.regs) ∧
      RegsBut [Fld.BAL_OWT_STATUS_RESULT.addr] s t

/-- OWT_DEADLINE (R147). -/
def owtDeadline : Prop :=
  ∀ (s : State), s.live = true → s.bal.owtRunning = true →
    ∃ t, exec .owtDeadline s = .next t ∧ t.waits Ev.BAL_OWT_DONE = true ∧ ((∃ j ∈ s.allPos, (s.posAt j).owPass = false) → t.waits Ev.BAL_OWT_FAIL = true) ∧
      (s.bal.owtServes = false → t.bal.owtRunning = false)

/-- SUSPECT_CLR (R144). -/
def suspectClr : Prop :=
  ∀ (s : State) (m i : Nat), s.permitsKeyed m Reg.BAL_SUSPECT_CLR 0x8B3D = true → 1 ≤ i → i ≤ s.nodes → i ≤ s.chain.pos.length → s.cur = Md.survey →
      (s.posAt i).clr = 0 → s.arrivedNow (markKey i) = false →
    ∃ t, exec (.suspectClr m i) s = .next t ∧ (t.posAt i).clr = 1 ∧ (t.posAt i).clrProofs = 0 ∧ (t.posAt i).suspect = (s.posAt i).suspect ∧
      t.bal = { s.bal with owtWanted := true } ∧
      t.getF (Folio.LOCK_KEY Pg.BAL) = 0 ∧ Added [] s t ∧ RegsBut [Folio.LOCK Pg.BAL] s t

/-- SUSPECT_CLR (R144), case `mark`. -/
def suspectClr_mark : Prop :=
  ∀ (s : State) (m i : Nat), s.permitsKeyed m Reg.BAL_SUSPECT_CLR 0x8B3D = true → (s.posAt i).clr = 0 → s.arrivedNow (markKey i) = true →
    ∃ t, exec (.suspectClr m i) s = .next t ∧ t.chain = s.chain ∧ t.bal = s.bal ∧ t.getF (Folio.LOCK_KEY Pg.BAL) = 0 ∧
      Added [Ev.BAL_SUSPECT_CLR_DENIED] s t ∧ RegsBut [Folio.LOCK Pg.BAL, Reg.SEQ_COALESCED] s t

/-- SUSPECT_CLR (R144), case `denied`. -/
def suspectClr_denied : Prop :=
  ∀ (s : State) (m i : Nat), s.permitsKeyed m Reg.BAL_SUSPECT_CLR 0x8B3D = true → i = 0 ∨ s.nodes < i ∨ s.cur ≠ Md.survey →
    ∃ t, exec (.suspectClr m i) s = .next t ∧ t.bal = s.bal ∧ t.getF (Folio.LOCK_KEY Pg.BAL) = 0 ∧ Added [Ev.BAL_SUSPECT_CLR_DENIED] s t ∧
      RegsBut [Folio.LOCK Pg.BAL, Reg.SEQ_COALESCED] s t

/-- SUSPECT_CLR_DECISION (R144). -/
def suspectClrDecision : Prop :=
  ∀ (s : State) (i : Nat), s.live = true → (s.posAt i).clr ≠ 0 → s.cur ≠ Md.survey ∨ (s.posAt i).clr ≠ 3 ∨ (s.posAt i).clrProofs < 10 →
    ∃ t, exec (.suspectClrDecision i) s = .next t ∧ (t.posAt i).clr = 0 ∧ (t.posAt i).suspect = (s.posAt i).suspect ∧ t.bal = s.bal ∧
      Added [Ev.BAL_SUSPECT_CLR_DENIED] s t ∧ RegsBut [Reg.SEQ_COALESCED] s t

/-- SUSPECT_CLR_DECISION (R144), case `cleared`. -/
def suspectClrDecision_cleared : Prop :=
  ∀ (s : State) (i : Nat), s.live = true → s.cur = Md.survey → (s.posAt i).clr = 3 → 10 ≤ (s.posAt i).clrProofs →
    ∃ t, exec (.suspectClrDecision i) s = .next t ∧ (t.posAt i).clr = 0 ∧ (t.posAt i).suspect = 0 ∧ (t.posAt i).stuck = false ∧ (t.posAt i).proofFault = false ∧
      t.waits Ev.BAL_SUSPECT_CLEARED = true ∧
      RegsBut [Reg.MODE_STATE, Reg.SAFE_CAUSE_LO, Reg.SAFE_CAUSE_HI, Reg.BAL_SUSPECT_LO, Reg.BAL_SUSPECT_HI, Reg.BAL_STUCK_LO, Reg.BAL_STUCK_HI, Reg.SEQ_COALESCED] s t

/-- COMP_READBACK (R149). -/
def compReadback : Prop :=
  ∀ (s : State) (i : Nat) (w : List Nat), s.live = true → s.pair = false → 1 ≤ i → i ≤ s.nodes → i ≤ s.chain.pos.length → w = (s.recAt i).comp →
    ∃ t, exec (.compReadback i w) s = .next t ∧ (t.posAt i).compAgain = false ∧ t.getReg (Reg.CHN_FRAMES_RX 1) = min (2 ^ 32 - 1) (s.getReg (Reg.CHN_FRAMES_RX 1) + 1) ∧
      t = { s with chain := t.chain, regs := t.regs, comp := t.comp } ∧ Added [] s t ∧ RegsBut [Reg.CHN_FRAMES_RX 1] s t

/-- COMP_READBACK (R149), case `differs`. -/
def compReadback_differs : Prop :=
  ∀ (s : State) (i : Nat) (w : List Nat), s.live = true → 1 ≤ i → i ≤ s.nodes → i ≤ s.chain.pos.length → w ≠ (s.recAt i).comp →
    ∃ t, exec (.compReadback i w) s = .next t ∧
      ((s.posAt i).compAgain = false → (t.posAt i).compAgain = true ∧ Added [] s t) ∧
      ((s.posAt i).compAgain = true → (t.posAt i).compBad = true ∧ t.waits Ev.BAL_COMP_CFG_MISMATCH = true) ∧
      RegsBut [Reg.MODE_STATE, Reg.SAFE_CAUSE_LO, Reg.SAFE_CAUSE_HI, Reg.BAL_SUSPECT_LO, Reg.BAL_SUSPECT_HI, Reg.BAL_STUCK_LO, Reg.BAL_STUCK_HI, Reg.CHN_FRAMES_RX 0, Reg.CHN_FRAMES_RX 1, Reg.SEQ_COALESCED] s t

/-- FLOOP_ABSENT (R152). -/
def floopAbsent : Prop :=
  ∀ (s : State) (a : Nat), s.live = true → a < 200 → s.arrivedNow toneKey = false →
    ∃ t, exec (.floopAbsent a) s = .next t ∧ t.waits Ev.BAL_FLOOP_LOSS = true ∧ t.waits Ev.MRG_TRIP = true ∧
      t.flag Fld.BAL_FLOOP_PRESENT = false ∧ t.getF Fld.BAL_FLOOP_AMPLITUDE = a ∧
      (s.causeOn 0x01 = false → t.waits Ev.SAFE_CAUSE_SET = true)

/-- FLOOP_ABSENT (R152), case `tone`. -/
def floopAbsent_tone : Prop :=
  ∀ (s : State) (a : Nat), s.live = true → s.arrivedNow toneKey = true →
    ∃ t, exec (.floopAbsent a) s = .next t ∧ t = s

/-- FLOOP_ABSENT (R152), case `dormant`. -/
def floopAbsent_dormant : Prop :=
  ∀ (s : State) (a : Nat), s.phase = .dormant →
    ∃ t, exec (.floopAbsent a) s = .next t ∧ t.phase = .held ∧ t.getF Fld.SYS_RESET_CAUSE_CAUSE = 7 ∧ t.getF Fld.SYS_RESET_CAUSE_WAKE_SRC = 128 ∧
      t.waits Ev.MODE_WAKE = true

/-- TONE_PRESENT (R152). -/
def tonePresent : Prop :=
  ∀ (s : State) (a : Nat), s.live = true →
    ∃ t, exec (.tonePresent a) s = .next t ∧ t.arrivedNow toneKey = true ∧ t.flag Fld.BAL_FLOOP_PRESENT = true ∧ t.getF Fld.BAL_FLOOP_AMPLITUDE = min a 4095 ∧ t.causeOn 0x01 = false ∧
      Added ((if s.pair = true ∧ (a < 400 * s.sources ∨ 600 * s.sources < a) then [Ev.BAL_FLOOP_AMPLITUDE] else []) ++
        (if s.causeOn 0x01 then [Ev.SAFE_CAUSE_CLEARED] else [])) s t ∧
      RegsBut [Fld.BAL_FLOOP_PRESENT.addr, Reg.SAFE_CAUSE_LO, Reg.MODE_STATE, Reg.SEQ_COALESCED] s t

/-- BLEED_LAUNCH (R154). -/
def bleedLaunch : Prop :=
  ∀ (s : State), s.live = true → s.masters = true → s.getF Fld.CHN0_SCHED_SCHED = 1 ∨ s.getF Fld.CHN0_SCHED_SCHED = 2 → s.chain.owtPeriod = false →
      s.flag Fld.BAL_CTL_ENABLE = false → s.chainTx 0 = true → s.chainLoop 0 = false → s.otherSeg = [] → s.ownSeg ≠ [] → s.chain.pos.length = s.nodes →
      s.cur ≠ Md.dispatch → s.cur ≠ Md.starting →
    ∃ t, exec (.bleedLaunch false) s = .next t ∧ t.bal = { s.bal with newPlan := false, zeroSent := true } ∧
      t.sent = chainFrame 0 ⟨0x04, s.dirBit 0, 0, s.chainEdition, 0, s.ownSeg.headD 0, s.ownSeg.length, 0, 4⟩ (List.replicate (4 * s.ownSeg.length) 0) :: s.sent ∧
      Added [] s t ∧ RegsBut [Reg.CHN_FRAMES_TX 0] s t

/-- BLEED_LAUNCH (R154), case `test`. -/
def bleedLaunch_test : Prop :=
  ∀ (s : State) (l : Bool), s.live = true → s.masters = true → s.chain.owtPeriod = true →
    ∃ t, exec (.bleedLaunch l) s = .next t ∧ t = s

/-- PLAN_COMMIT (R156). -/
def planCommit : Prop :=
  ∀ (s : State) (m : Nat), s.permits m Reg.BAL_PLAN_COMMIT = true →
    ∃ t, exec (.planCommit m) s = .next t ∧ t.bal = { s.bal with committed := s.bal.staged, commitWaits := true } ∧
      t.arrivedNow commitKey = true ∧ t = { s with bal := t.bal, comp := t.comp } ∧ Added [] s t

/-- PLAN_CLEAR (R161). -/
def planClear : Prop :=
  ∀ (s : State) (m : Nat), s.permits m Reg.BAL_PLAN_COMMIT = true →
    ∃ t, exec (.planClear m) s = .next t ∧ t.bal = { s.bal with staged := List.replicate 64 0, committed := List.replicate 64 0, commitWaits := true } ∧
      t = { s with bal := t.bal, comp := t.comp } ∧ Added [] s t

/-- TXB_REQ (R447). -/
def txbReq : Prop :=
  ∀ (s : State) (n m v b : Nat), s.permits m (Reg.CAN_TXB_REQ n) = true → n < 2 → b < 24 → v % 2 ^ 24 = 2 ^ b →
    ∃ t, exec (.txbReq n m v) s = .next t ∧ (v < 2 ^ 24 → bitOf (s.txWord n b 1) 8 = false → t.txPend n b = true ∧ Added [] s t) ∧
      (2 ^ 24 ≤ v % 2 ^ 32 → t.waits (Ev.CAN_TX_DENIED n) = true) ∧ t.getReg (Reg.CAN_TXB n b) = s.getReg (Reg.CAN_TXB n b) ∧
      RegsBut [Reg.TIME_LAUNCH_LATE, Reg.CAN_TXB n b + 4, Reg.CAN_TXB_HALT n, Reg.CAN_TXB_PEND n, Reg.CAN_TXB_LATE n, Reg.SEQ_COALESCED] s t

/-- TXB_CANCEL (R465). -/
def txbCancel : Prop :=
  ∀ (s : State) (n m v : Nat), s.permits m (Reg.CAN_TXB_CANCEL n) = true →
    ∃ t, exec (.txbCancel n m v) s = .next t ∧ RegsBut [Reg.CAN_TXB_PEND n] s t ∧ Added [] s t ∧
      (∀ b : Nat, b < 24 → t.txPend n b = (s.txPend n b && !bitOf v b)) ∧ (∀ b : Nat, b < 8 → t.txPend n (24 + b) = s.txPend n (24 + b))

/-- CAN_LAUNCH_DUE (R448). -/
def canLaunchDue : Prop :=
  ∀ (s : State) (n b : Nat), s.live = true → n < 2 → s.can.length = 2 → b < 32 → s.txPend n b = true → bitOf (s.txWord n b 1) 8 = true → bitOf (s.canU n).due b = false → s.future (s.txWord n b 2) = false →
    ∃ t, exec (.canLaunchDue n b) s = .next t ∧
      (s.sinceLaunch (s.txWord n b 2) ≤ 4 → t = s.setCan n (fun u => { u with due := putBit u.due b true }) ∧ bitOf (t.canU n).due b = true) ∧
      (4 < s.sinceLaunch (s.txWord n b 2) → t.waits (Ev.CAN_TX_LATE n) = true ∧ (bitOf (s.txWord n b 1) 9 = true → t.txPend n b = false))

/-- CAN_LATE_WINDOW (R448). -/
def canLateWindow : Prop :=
  ∀ (s : State) (n b : Nat), s.live = true → n < 2 → s.can.length = 2 → b < 32 → s.txPend n b = true → bitOf (s.txWord n b 1) 8 = true → bitOf (s.txWord n b 1) 12 = false →
      1000 * (s.getReg (Reg.CAN_LATE_WIN_US n) % 65536 : Nat) ≤ s.sinceLaunch (s.txWord n b 2) →
    ∃ t, exec (.canLateWindow n b) s = .next t ∧ Added [Ev.CAN_TX_LATE n] s t ∧ bitOf (t.getReg (Reg.CAN_TXB_LATE n)) b = true ∧
      t.txPend n b = (!bitOf (s.txWord n b 1) 9) ∧ (bitOf (s.txWord n b 1) 9 = false → bitOf (t.txWord n b 1) 12 = true) ∧
      RegsBut [Reg.CAN_TXB_PEND n, Reg.CAN_TXB_LATE n, Reg.CAN_TXB n b + 4, Reg.SEQ_COALESCED] s t

/-- TX_DONE (R447). -/
def txDone : Prop :=
  ∀ (s : State) (n b f : Nat), s.live = true → n < 2 → s.can.length = 2 → s.canMode n = 1 → s.canErr n < 3 → s.winner n = some b → b ≠ 31 → s.getF (Fld.CAN_ERR_TEC n) ≤ 96 → s.getF (Fld.CAN_ERR_REC n) < 96 →
    ∃ t, exec (.txDone n b f) s = .next t ∧ t.txPend n b = false ∧ bitOf (t.getReg (Reg.CAN_TXB_DONE n)) b = true ∧ Added [Ev.CAN_TX_DONE n] s t ∧
      t.sent.head?.map (fun o => o.port) = some (.can n) ∧ t.sent.length = s.sent.length + 1 ∧
      (bitOf (s.txWord n b 1) 11 = true → t.txWord n b 2 = f % 2 ^ 32) ∧
      t.getReg (Reg.CAN_FRAMES_TX n) = min (2 ^ 32 - 1) (s.getReg (Reg.CAN_FRAMES_TX n) + 1) ∧
      RegsBut [Reg.CAN_ERR n, Reg.CAN_TXB_PEND n, Reg.CAN_TXB_DONE n, Reg.CAN_FRAMES_TX n, Reg.CAN_TXB n b + 8, Reg.CAN_TXB n b + 12, Reg.SEQ_COALESCED] s t

/-- CAN_RX_FRAME (R456). -/
def canRxFrame : Prop :=
  ∀ (s : State) (n : Nat) (f : CanFrame), s.live = true → n < 2 → s.can.length = 2 → (s.canU n).rxq.length = 4 → s.canMode n = 1 → s.canErr n < 3 → s.getF (Fld.CAN_ERR_REC n) = 0 →
      s.arrivedNow (ackHeadKey n 0) = false → s.arrivedNow (ackEmptyKey n 0) = false → f.xtd = false → f.rtr = false → 0x200 ≤ f.id → f.id < 0x400 → s.flag (Fld.CAN_TREF_CTL_SLAVE n) = false →
      s.getReg (Reg.FLT_SPAN0 + 4 * n) = 0 → s.getF (if n = 0 then Fld.FLT_GLOBAL_NOMATCH0 else Fld.FLT_GLOBAL_NOMATCH1) = 1 →
    ∃ t, exec (.canRxFrame n f) s = .next t ∧ t.getReg Reg.FLT_NOMATCHES = min (2 ^ 32 - 1) (s.getReg Reg.FLT_NOMATCHES + 1) ∧
      ((s.queue n 0).entries.length < s.getF (Fld.CAN_RXQ_CFG_DEPTH n 0) →
        (t.queue n 0).entries = (s.queue n 0).entries ++ [entryOf f 0xFFF false] ∧ ((s.queue n 0).entries = [] → t.waits (Ev.CAN_RX_NEW n) = true)) ∧
      (s.getF (Fld.CAN_RXQ_CFG_DEPTH n 0) ≤ (s.queue n 0).entries.length →
        (t.queue n 0).entries = (s.queue n 0).entries ∧ ((s.queue n 0).dropping = false → t.waits (Ev.CAN_RXQ_OVERFLOW n) = true)) ∧
      RegsBut [Reg.CAN_RXQ_STAT n 0, Reg.CAN_FRAMES_RX n, Reg.FLT_NOMATCHES, Reg.SEQ_COALESCED] s t

/-- CAN_BUS_ERROR (R461). -/
def canBusError : Prop :=
  ∀ (s : State) (n a b k : Nat), s.live = true → n < 2 → s.canMode n = 1 → s.canErr n < 3 → k ≠ 0 → k ≠ 7 → s.flag (Fld.CAN_CTL_BUSOFF_AUTO n) = false →
    ∃ t, exec (.canBusError n a b k none false) s = .next t ∧ t.getF (Fld.CAN_ERR_LAST_ERR n) = min k 6 ∧
      t.getF (Fld.CAN_ERR_TEC n) = min 255 (s.getF (Fld.CAN_ERR_TEC n) + a) ∧ t.getF (Fld.CAN_ERR_REC n) = min 255 (s.getF (Fld.CAN_ERR_REC n) + b) ∧
      (255 < s.getF (Fld.CAN_ERR_TEC n) + a → t.canErr n = 3 ∧ t.waits (Ev.CAN_BUS_OFF n) = true) ∧
      (s.getF (Fld.CAN_ERR_TEC n) < 96 → s.getF (Fld.CAN_ERR_REC n) < 96 → 96 ≤ s.getF (Fld.CAN_ERR_TEC n) + a → t.waits (Ev.CAN_ERR_WARNING n) = true) ∧
      RegsBut [Reg.CAN_ERR n, Reg.CAN_ERR_FRAMES n, Reg.SEQ_COALESCED] s t

/-- CAN_BUS_ERROR (R461), case `collision`. -/
def canBusError_collision : Prop :=
  ∀ (s : State) (n a b k i : Nat), s.live = true → n < 2 → i < 32 → s.canMode n = 1 → s.canErr n < 3 → k ≠ 0 → k ≠ 7 → s.txPend n i = true → bitOf (s.txWord n i 1) 10 = false → bitOf (s.canU n).bitErr i = true → s.arrivedNow (rearmKey n i) = false →
    ∃ t, exec (.canBusError n a b k (some i) true) s = .next t ∧ t.txPend n i = false ∧ bitOf (t.getReg (Reg.CAN_TXB_HALT n)) i = true ∧
      t.waits (Ev.CAN_ID_COLLISION n) = true ∧ t.getReg (Reg.CAN_COLL_ID n) = s.txWord n i 0 % 2 ^ 30 ∧
      (s.getF (Fld.CAN_ERR_TEC n) + a < 256 → RegsBut [Reg.CAN_ERR n, Reg.CAN_ERR_FRAMES n, Reg.CAN_TXB_PEND n, Reg.CAN_TXB_HALT n, Reg.CAN_COLL_ID n, Reg.SEQ_COALESCED] s t)

/-- CAN_BUS_ERROR (R461), case `exception`. -/
def canBusError_exception : Prop :=
  ∀ (s : State) (n a b : Nat) (i : Option Nat) (d : Bool), s.live = true → n < 2 → s.canMode n ≠ 0 → s.canErr n < 3 →
    ∃ t, exec (.canBusError n a b 7 i d) s = .next t ∧ t.getReg (Reg.CAN_PROTO_EXC n) = min (2 ^ 32 - 1) (s.getReg (Reg.CAN_PROTO_EXC n) + 1) ∧
      Added [Ev.CAN_PROTO_EXC n] s t ∧ RegsBut [Reg.CAN_PROTO_EXC n, Reg.SEQ_COALESCED] s t

/-- RECOVER (R462). -/
def recover : Prop :=
  ∀ (s : State) (n m : Nat), s.permits m (Reg.CAN_CTL n) = true →
    ∃ t, exec (.recover n m) s = .next t ∧ (s.canErr n = 3 → t.canErr n = 4 ∧ t.getReg (Reg.CAN_RECOVERY n) = 0 ∧ RegsBut [Reg.CAN_ERR n, Reg.CAN_RECOVERY n] s t ∧ Added [] s t) ∧
      (s.canErr n ≠ 3 → t = s)

/-- BUS_ON (R462). -/
def busOn : Prop :=
  ∀ (s : State) (n : Nat), s.live = true → n < 2 → s.canErr n = 4 →
    ∃ t, exec (.busOn n) s = .next t ∧ t.canErr n = 0 ∧ t.getF (Fld.CAN_ERR_TEC n) = 0 ∧ t.getF (Fld.CAN_ERR_REC n) = 0 ∧ t.getReg (Reg.CAN_RECOVERY n) = 128 ∧
      Added [Ev.CAN_BUS_ON n] s t ∧ RegsBut [Reg.CAN_ERR n, Reg.CAN_RECOVERY n, Reg.SEQ_COALESCED] s t

/-- CAN_MODE_WRITE (R445). -/
def canModeWrite : Prop :=
  ∀ (s : State) (n m k : Nat), s.permits m (Reg.CAN_CTL n) = true → k < 4 → s.canMode n ≠ 0 →
    ∃ t, exec (.canModeWrite n m k) s = .next t ∧ t.canMode n = k ∧ RegsBut [Reg.CAN_CTL n] s t ∧ Added [] s t

/-- CAN_MODE_WRITE (R445), case `refused`. -/
def canModeWrite_refused : Prop :=
  ∀ (s : State) (n m k : Nat), s.permits m (Reg.CAN_CTL n) = true → k < 5 → k ≠ s.canMode n → (k = 4 ∧ s.power ≠ 0) ∨ (s.canMode n = 0 ∧ s.timingOk n = false) →
    ∃ t, exec (.canModeWrite n m k) s = .next t ∧ t.canMode n = s.canMode n ∧ Added [Ev.CAN_CFG_REFUSED n] s t ∧ RegsBut [Reg.SEQ_COALESCED] s t

/-- CAN_PERIODIC_DUE (R451). -/
def canPeriodicDue : Prop :=
  ∀ (s : State) (n : Nat), s.live = true → n < 2 → s.speaker = true → s.addr ≠ 0 → bitOf (s.getReg (Reg.CAN_AUTO_EN n)) 1 = true →
    ∃ t, exec (.canPeriodicDue n 2) s = .next t ∧ t.txPend n 30 = true ∧ t.txWord n 30 0 = 0x100 + s.addr ∧ t.txWord n 30 1 % 16 = 8 ∧ Added [] s t

/-- CAN_PERIODIC_DUE (R451), case `quiet`. -/
def canPeriodicDue_quiet : Prop :=
  ∀ (s : State) (p fn : Nat), s.speaker = false ∨ (p < 2 ∧ fn = 2 ∧ bitOf (s.getReg (Reg.CAN_AUTO_EN p)) 1 = false) →
    ∃ t, exec (.canPeriodicDue p fn) s = .next t ∧ t = s

/-- TREF_SEND (R453). -/
def trefSend : Prop :=
  ∀ (s : State) (n : Nat), s.live = true → n < 2 → s.can.length = 2 → s.flag (Fld.CAN_TREF_CTL_MASTER n) = true → s.getF (Fld.CAN_TREF_CTL_PERIOD_MS n) ≠ 0 → s.addr ≠ 0 → s.flag (Fld.CAN_CTL_FD_EN n) = true →
    ∃ t, exec (.trefSend n) s = .next t ∧ t.txPend n 28 = true ∧ t.txWord n 28 0 = 0x180 + s.addr ∧ bitOf (t.canU n).due 28 = true ∧
      (t.canU n).trefCount = ((s.canU n).trefCount + 1) % 256 ∧ Added [] s t ∧
      RegsBut [Reg.CAN_TXB_PEND n, Reg.CAN_TXB_HALT n, Reg.CAN_TXB n 28, Reg.CAN_TXB n 28 + 4, Reg.CAN_TXB n 28 + 8, Reg.CAN_TXB n 28 + 16, Reg.CAN_TXB n 28 + 20] s t

/-- TREF_LOST (R453). -/
def trefLost : Prop :=
  ∀ (s : State) (n u : Nat), s.live = true → n < 2 → (s.canU n).trefNs = some u → s.flag (Fld.CAN_TREF_CTL_SLAVE n) = true → u + 3000000 * s.getF (Fld.CAN_TREF_CTL_PERIOD_MS n) ≤ s.localNs →
    ∃ t, exec (.trefLost n) s = .next t ∧ (t.canU n).trefNs = none ∧ Added [Ev.CAN_TREF_LOST n] s t ∧ RegsBut [Reg.SEQ_COALESCED] s t

/-- RXQ_ACK (R458). -/
def rxqAck : Prop :=
  ∀ (s : State) (n m v q : Nat), s.permits m (Reg.CAN_RXQ_ACK n) = true → n < 2 → s.can.length = 2 → (s.canU n).rxq.length = 4 → q < 4 → v = 2 ^ q → s.flag (Fld.CAN_RXQ_CFG_LAST_WORD n q) = false → (s.queue n q).entries ≠ [] →
    ∃ t, exec (.rxqAck n m v) s = .next t ∧ (t.queue n q).entries = (s.queue n q).entries.tail ∧ t.getF (Fld.CAN_RXQ_STAT_FILL n q) = ((s.queue n q).entries.length - 1) % 1024 ∧
      RegsBut [Reg.CAN_RXQ_STAT n q] s t ∧ Added [] s t

/-- RXQ_HEAD_READ (R459). -/
def rxqHeadRead : Prop :=
  ∀ (s : State) (n m q k : Nat), s.live = true → n < 2 → q < 4 → k < 20 → s.flag (Fld.CAN_RXQ_CFG_LAST_WORD n q) = false →
    ∃ t, exec (.rxqHeadRead n m q k) s = .next t ∧ t = { s with sent := ⟨.reply, m, [Reg.CAN_RXQ n q + 4 * k, s.headWord n q k]⟩ :: s.sent }

/-- RXQ_HEAD_READ (R459), case `last`. -/
def rxqHeadRead_last : Prop :=
  ∀ (s : State) (n m q : Nat) (e : RxEntry) (a : Nat), s.live = true → n < 2 → s.can.length = 2 → (s.canU n).rxq.length = 4 → q < 4 → s.flag (Fld.CAN_RXQ_CFG_LAST_WORD n q) = true →
      (s.queue n q).entries.head? = some e → (s.queue n q).lock = some (m, a) → e.data.length ≤ 64 →
    ∃ t, exec (.rxqHeadRead n m q (3 + (e.data.length + 3) / 4)) s = .next t ∧ (t.queue n q).entries = (s.queue n q).entries.tail ∧ (t.queue n q).lock = none ∧
      RegsBut [Reg.CAN_RXQ_STAT n q] s t

/-- RXQ_LOCK_EXPIRY (R459). -/
def rxqLockExpiry : Prop :=
  ∀ (s : State) (n q m u : Nat), s.live = true → (s.queue n q).lock = some (m, u) → u + 10000000 ≤ s.localNs → n < s.can.length → q < (s.canU n).rxq.length →
    ∃ t, exec (.rxqLockExpiry n q) s = .next t ∧ t.queue n q = { s.queue n q with lock := none } ∧ RegsBut [Reg.CAN_RXQ_STAT n q] s t ∧ Added [] s t

/-- FILTER_COMMIT (R455). -/
def filterCommit : Prop :=
  ∀ (s : State) (m e w : Nat), s.live = true → s.userStore m Pg.FLT = false → s.writeStatus m (elemAddr e) Pg.FLT = St.ok → e < 4096 →
    ∃ t, exec (.filterCommit m e w) s = .next t ∧
      (bitsOf (s.fltHeld.get e).toNat 31 29 < 5 → t.getReg (elemAddr e) = w % 2 ^ 32 ∧ t.getReg (elemAddr e + 4) = (s.fltHeld.get e).toNat ∧
        RegsBut [elemAddr e, elemAddr e + 4] s t ∧ Added [] s t) ∧
      (5 ≤ bitsOf (s.fltHeld.get e).toNat 31 29 → Added [Ev.FLT_ELEM_REFUSED] s t ∧ RegsBut [Reg.SEQ_COALESCED] s t)

/-- CHAIN_LINK_UP (R89). -/
def chainLinkUp : Prop :=
  ∀ (s : State) (p : Nat), s.live = true → p < 2 →
    ∃ t, exec (.chainLinkUp p) s = .next t ∧ t.getF (Fld.CHN_PORT_STATUS_LINK p) = 2 ∧ t.flag (Fld.CHN_PORT_STATUS_RX_ALIGNED p) = true ∧
      Added [Ev.CHN_LINK_UP p] s t ∧
      RegsBut [(Fld.CHN_PORT_STATUS_LINK p).addr, (Fld.CHN_PORT_STATUS_LINK_UPS p).addr, Reg.CHN_FRAMES_TX 0, Reg.CHN_FRAMES_RX 0, Reg.SEQ_COALESCED] s t

/-- CHAIN_LINK_LOST (R89). -/
def chainLinkLost : Prop :=
  ∀ (s : State) (p : Nat), s.live = true → p < 2 →
    ∃ t, exec (.chainLinkLost p) s = .next t ∧ t.waits (Ev.CHN_LINK_LOST p) = true ∧
      t.getF (Fld.CHN_PORT_STATUS_LINK p) = 3 ∧ t.flag (Fld.CHN_PORT_STATUS_RX_ALIGNED p) = false

/-- TRIG_LAUNCH (R119). -/
def trigLaunch : Prop :=
  ∀ (s : State), s.live = true → s.masters = true → s.wantSched ≠ 0 → s.wantSched ≠ 4 → s.pairU.loopN = false → s.chain.healed = [] → s.breaks = [] →
    ∃ t, exec .trigLaunch s = .next t ∧ t.getF Fld.CHN0_SCHED_SCHED = s.wantSched ∧
      t.chain.nextNum = (s.chain.nextNum + 1) % 65536 ∧ t.chain.sweeps.length ≤ 2 ∧
      t.chain.sweeps.head?.map (fun x => (x.num, x.kind, x.instant)) = some (s.chain.nextNum, if s.wantSched = 3 then 2 else 1, (s.stamp + 20000) % 2 ^ 32) ∧
      (s.portSends 0 = true → t.sent = trigSet 0 s.chain.nextNum (if s.wantSched = 3 then (if s.chain.fastCount = 399 then 128 else 64) else 0) :: s.sent) ∧
      Added [] s t ∧ RegsBut [Reg.CHN0_SCHED] s t

/-- TRIG_LAUNCH (R119), case `break`. -/
def trigLaunch_break : Prop :=
  ∀ (s : State), s.live = true → s.pair = false → s.masters = true → s.wantSched = 1 → s.pairU.loopN = false → s.chain.healed = [] → s.breaks ≠ [] →
      s.asyRuns = false → s.portSends 0 = true → s.portSends 1 = true →
    ∃ t, exec .trigLaunch s = .next t ∧ t.sent = trigSet 1 s.chain.nextNum 0 :: trigSet 0 s.chain.nextNum 0 :: s.sent ∧
      t.chain.sweeps.head?.map (fun x => x.split) = some s.bothSides ∧ Added [] s t ∧ RegsBut [Reg.CHN0_SCHED] s t

/-- TRIG_LAUNCH (R119), case `relay`. -/
def trigLaunch_relay : Prop :=
  ∀ (s : State) (r : Relay), s.live = true → s.masters = false → s.chain.relay = some r → r.trig = false → s.portSends 0 = true →
    ∃ t, exec .trigLaunch s = .next t ∧ t.sent = trigSet 0 r.num r.ctrl :: s.sent ∧ t.chain = { s.chain with relay := some { r with trig := true } } ∧
      t = { s with chain := t.chain, sent := t.sent }

/-- COLLECT_LAUNCH (R119). -/
def collectLaunch : Prop :=
  ∀ (s : State) (w : Sweep) (l : List Sweep) (i : Nat) (is : List Nat), s.live = true → s.masters = true → s.chain.sweeps = w :: l → w.withTemps = false →
      s.ownSeg = i :: is → s.portSends 0 = true →
    ∃ t, exec (.collectLaunch false) s = .next t ∧
      t.sent = chainFrame 0 ⟨0x01, s.dirBit 0 + 2 * b2n w.split, w.num, s.chainEdition, w.instant, i, (i :: is).length, w.kind, slotLen w.kind⟩
        ((i :: is).flatMap (fun j => j :: List.replicate (slotLen w.kind - 1) 0)) :: s.sent ∧ Added [] s t ∧
      RegsBut [Reg.CHN_FRAMES_TX 0] s t

/-- COLLECT_LAUNCH (R119), case `other`. -/
def collectLaunch_other : Prop :=
  ∀ (s : State) (w : Sweep) (l : List Sweep) (i : Nat) (is : List Nat), s.live = true → s.pair = false → s.masters = true → s.chain.sweeps = w :: l → w.withTemps = false →
      s.otherSeg = i :: is → s.portSends 1 = true →
    ∃ t, exec (.collectLaunch true) s = .next t ∧
      t.sent = chainFrame 1 ⟨0x01, 1 + 2 * b2n w.split, w.num, s.chainEdition, w.instant, i, (i :: is).length, w.kind, slotLen w.kind⟩
        ((i :: is).flatMap (fun j => j :: List.replicate (slotLen w.kind - 1) 0)) :: s.sent ∧ Added [] s t ∧
      RegsBut [Reg.CHN_FRAMES_TX 1] s t

/-- COLLECT_LAUNCH (R119), case `health`. -/
def collectLaunch_health : Prop :=
  ∀ (s : State) (i : Nat) (is : List Nat), s.live = true → s.masters = true → s.chain.sweeps = [] → s.getF Fld.CHN0_SCHED_SCHED = 2 → s.bal.owtRunning = false →
      s.ownSeg = i :: is → s.portSends 0 = true →
    ∃ t, exec (.collectLaunch false) s = .next t ∧
      t.sent = chainFrame 0 ⟨0x01, s.dirBit 0, 0, s.chainEdition, 0, i, (i :: is).length, 4, 12⟩
        ((i :: is).flatMap (fun j => j :: List.replicate 11 0)) :: s.sent ∧ Added [] s t ∧
      RegsBut [Reg.CHN_FRAMES_TX 0] s t

/-- COLLECT_LAUNCH (R119), case `relay`. -/
def collectLaunch_relay : Prop :=
  ∀ (s : State) (r : Relay) (i : Nat) (is : List Nat), s.live = true → s.masters = false → s.chain.relay = some r → r.ctrl < 64 →
      s.ownSeg = i :: is → s.portSends 0 = true →
    ∃ t, exec (.collectLaunch false) s = .next t ∧
      t.sent = chainFrame 0 ⟨0x01, s.dirBit 0 + (4 + 2 * b2n s.bothSides), r.num, s.chainEdition, r.instant, i, (i :: is).length, 1, 80⟩
        ((i :: is).flatMap (fun j => j :: List.replicate 79 0)) :: s.sent ∧ t.chain = { s.chain with relay := none } ∧ Added [] s t ∧
      RegsBut [Reg.CHN_FRAMES_TX 0] s t

/-- SLOT_ARRIVAL (R106). -/
def slotArrival : Prop :=
  ∀ (s : State) (m : SlotMsg) (w : Sweep), s.live = true → s.masters = true → slotOk m = true → m.kind = 1 ∨ m.kind = 2 → 1 ≤ m.pos → m.pos ≤ s.nodes → m.pos ≤ s.chain.pos.length →
    s.chain.sweeps = [w] → w.num = m.sweep → w.withTemps = false → w.closedTo m.pos = false → bitOf (be16 m.bytes 2) 14 = false → (s.posAt m.pos).state = 2 →
    ∃ t, exec (.slotArrival m) s = .next t ∧
      ((∃ j ∈ s.allPos, j ≠ m.pos ∧ j ∉ w.got) → (t.posAt m.pos).bytes = m.bytes ∧ t.chain.sweeps.map (·.got) = [m.pos :: w.got]) ∧
      ((∀ j ∈ s.allPos, j = m.pos ∨ j ∈ w.got) → t.waits (Ev.CHN_SWEEP_DONE 0) = true)

/-- SLOT_ARRIVAL (R106), case `rejected`. -/
def slotArrival_rejected : Prop :=
  ∀ (s : State) (m : SlotMsg), s.live = true → s.pair = false ∨ s.masters = true → slotOk m = false → 1 ≤ m.pos → m.pos ≤ s.chain.pos.length → m.port < 2 →
      m.lineErrs = 0 → m.last = false →
    ∃ t, exec (.slotArrival m) s = .next t ∧ t.getReg (Reg.CHN_SLOT_ERR m.port) = min (2 ^ 32 - 1) (s.getReg (Reg.CHN_SLOT_ERR m.port) + 1) ∧
      (t.posAt m.pos).slotErr = min 65535 ((s.posAt m.pos).slotErr + 1) ∧ t.chain.sweeps = s.chain.sweeps ∧ Added [] s t ∧
      RegsBut [Reg.CHN_SLOT_ERR m.port] s t

/-- SLOT_ARRIVAL (R106), case `line`. -/
def slotArrival_line : Prop :=
  ∀ (s : State) (m : SlotMsg), s.live = true → s.pair = false ∨ s.masters = true → m.pos = 0 → m.port < 2 → m.last = true → m.crcOk = false → m.lineErrs ≠ 0 →
    ∃ t, exec (.slotArrival m) s = .next t ∧
      t.getReg (Reg.CHN_FRAMES_RX m.port) = min (2 ^ 32 - 1) (s.getReg (Reg.CHN_FRAMES_RX m.port) + 1) ∧
      t.getReg (Reg.CHN_CRC32_ERR m.port) = min (2 ^ 32 - 1) (s.getReg (Reg.CHN_CRC32_ERR m.port) + 1) ∧
      t.getReg (Reg.CHN_CODE_ERR m.port) = min (2 ^ 32 - 1) (s.getReg (Reg.CHN_CODE_ERR m.port) + m.lineErrs) ∧
      Added ((if s.getReg (Reg.CHN_CRC32_ERR m.port) = 0 then [Ev.CHN_CRC_ERR m.port] else []) ++
        (if s.getReg (Reg.CHN_CODE_ERR m.port) = 0 then [Ev.CHN_CODE_ERR m.port] else [])) s t ∧ t.chain = s.chain ∧
      RegsBut [Reg.CHN_FRAMES_RX m.port, Reg.CHN_CRC32_ERR m.port, Reg.CHN_SLOT_ERR m.port, Reg.CHN_CODE_ERR m.port, Reg.SEQ_COALESCED] s t

/-- SWEEP_DEADLINE (R119). -/
def sweepDeadline : Prop :=
  ∀ (s : State) (w : Sweep), s.live = true → s.chain.sweeps.find? (fun x => x.num == w.num) = some w → w.other = [] →
    ∃ t, exec (.sweepDeadline w.num false) s = .next t ∧ t.waits (Ev.CHN_SWEEP_DONE 0) = true ∧
      ((∃ j ∈ s.allPos, j ∉ w.got) → t.waits (Ev.CHN_SWEEP_PARTIAL 0) = true)

/-- SWEEP_DEADLINE (R119), case `segment`. -/
def sweepDeadline_segment : Prop :=
  ∀ (s : State) (w : Sweep), s.live = true → s.chain.sweeps.find? (fun x => x.num == w.num) = some w → w.other ≠ [] → w.deadOther = false →
    ∃ t, exec (.sweepDeadline w.num false) s = .next t ∧
      t.chain.sweeps.find? (fun x => x.num == w.num) = some { w with deadOwn := true } ∧ t = { s with chain := t.chain }

/-- SWEEP_DEADLINE (R119), case `late`. -/
def sweepDeadline_late : Prop :=
  ∀ (s : State) (n : Nat) (o : Bool), s.chain.sweeps.find? (fun x => x.num == n) = none →
    ∃ t, exec (.sweepDeadline n o) s = .next t ∧ t = s

/-- NODE_UNHEARD (R122). -/
def nodeUnheard : Prop :=
  ∀ (s : State) (i : Nat), s.live = true → s.sampling = true → 1 ≤ i → i ≤ s.nodes → i ≤ s.chain.pos.length → i ≤ 64 → (s.posAt i).state = 2 →
      s.mapGet Reg.NODE_UNHEARD_LO i = false → s.arrivedNow (heardKey i) = false →
    ∃ t, exec (.nodeUnheard i) s = .next t ∧ t.waits Ev.NODE_NODE_UNHEARD = true ∧ (t.posAt i).state = 3 ∧ t.mapGet Reg.NODE_UNHEARD_LO i = true ∧
      RegsBut [Reg.MODE_STATE, Reg.SAFE_CAUSE_LO, Reg.SAFE_CAUSE_HI, Reg.NODE_UNHEARD_LO, Reg.NODE_UNHEARD_HI, Reg.BAL_SUSPECT_LO, Reg.BAL_SUSPECT_HI, Reg.BAL_STUCK_LO, Reg.BAL_STUCK_HI, Reg.SEQ_COALESCED] s t

/-- NODE_UNHEARD (R122), case `heard`. -/
def nodeUnheard_heard : Prop :=
  ∀ (s : State) (i : Nat), s.arrivedNow (heardKey i) = true →
    ∃ t, exec (.nodeUnheard i) s = .next t ∧ t = s

/-- ALARM_RX (R124). -/
def alarmRx : Prop :=
  ∀ (s : State) (p i c k ns : Nat), s.live = true → p < 2 → k = i ^^^ c ^^^ 0xA5 →
    ∃ t, exec (.alarmRx p i c ns k) s = .next t ∧ t.waits (Ev.CHN_ALARM_RX p) = true ∧
      (c = 0 ∨ 8 < c → t.getF (Fld.CHN_ALARM_LAST_POS p) = i % 256 ∧ t.getF (Fld.CHN_ALARM_LAST_CAUSE p) = c % 256 ∧
        Added [Ev.CHN_ALARM_RX p] s t ∧ RegsBut [Reg.CHN_ALARM_LAST p, Reg.SEQ_COALESCED] s t)

/-- ALARM_RX (R124), case `chk`. -/
def alarmRx_chk : Prop :=
  ∀ (s : State) (p i c k ns : Nat), s.live = true → p < 2 → k ≠ i ^^^ c ^^^ 0xA5 →
    ∃ t, exec (.alarmRx p i c ns k) s = .next t ∧
      t.getReg (Reg.CHN_CODE_ERR p) = min (2 ^ 32 - 1) (s.getReg (Reg.CHN_CODE_ERR p) + 1) ∧
      Added (if s.getReg (Reg.CHN_CODE_ERR p) = 0 then [Ev.CHN_CODE_ERR p] else []) s t ∧ t.chain = s.chain ∧
      RegsBut [Reg.CHN_CODE_ERR p, Reg.SEQ_COALESCED] s t

/-- ALARM_RX (R124), case `second`. -/
def alarmRx_second : Prop :=
  ∀ (s : State) (p i c k ns : Nat), s.live = true → p < 2 → k = i ^^^ c ^^^ 0xA5 → 1 ≤ c → c ≤ 4 → 1 ≤ i → i ≤ s.chain.pos.length →
      (∃ a ∈ (s.posAt i).alarms, ns ≤ a.2.2 + 200000) → alarmCopy (s.posAt i).alarms p c ns = false → s.causeOn 0x0E = false →
    ∃ t, exec (.alarmRx p i c ns k) s = .next t ∧ t.waits Ev.SAFE_CAUSE_SET = true ∧ t.waits (Ev.CHN_ALARM_RX p) = true

/-- ALARM_RX (R124), case `copy`. -/
def alarmRx_copy : Prop :=
  ∀ (s : State) (p i c k ns : Nat), s.live = true → p < 2 → k = i ^^^ c ^^^ 0xA5 → 1 ≤ c → c ≤ 4 → alarmCopy (s.posAt i).alarms p c ns = true →
    ∃ t, exec (.alarmRx p i c ns k) s = .next t ∧ (t.posAt i).alarms = (s.posAt i).alarms ∧ Added [Ev.CHN_ALARM_RX p] s t ∧
      RegsBut [Reg.CHN_ALARM_LAST p, Reg.SEQ_COALESCED] s t

/-- NODE_ALARM_RELEASE (R124). -/
def nodeAlarmRelease : Prop :=
  ∀ (s : State) (i : Nat), s.live = true → 1 ≤ i → (s.chain.pos.modify (i - 1) (fun p => { p with alarms := [], alarmOn := false })).any (·.alarmOn) = false →
    ∃ t, exec (.nodeAlarmRelease i) s = .next t ∧ t.causeOn 0x0E = false ∧ (t.posAt i).alarms = [] ∧
      Added (if s.causeOn 0x0E then [Ev.SAFE_CAUSE_CLEARED] else []) s t ∧
      RegsBut [Reg.SAFE_CAUSE_LO, Reg.MODE_STATE, Reg.SEQ_COALESCED] s t

/-- STALE_MASTER (R92). -/
def staleMaster : Prop :=
  ∀ (s : State) (e : Nat), s.live = true → s.pair = true → s.getReg Reg.PAIR_EDITION < e →
    ∃ t, exec (.staleMaster e) s = .next t ∧ t.waits Ev.NODE_STALE_MASTER = true ∧ t.masters = false ∧
      (s.pstate = Ps.standby → t.getReg Reg.PAIR_EDITION = e % 2 ^ 32) ∧ (s.pstate = Ps.holder → t.waits Ev.PAIR_DEMOTED = true)

/-- FWD (R91). -/
def fwd : Prop :=
  ∀ (s : State) (m : SlotMsg), s.live = true → s.pair = true → s.plnkOn = true →
    ∃ t, exec (.fwd [m]) s = .next t ∧ exec (.slotArrival m) s = .next t

/-- RELAY (R127). -/
def relay : Prop :=
  ∀ (s : State) (n c i k : Nat), s.live = true → s.pair = true → s.plnkOn = true → s.masters = false → s.portSends 0 = true →
    ∃ t, exec (.relay n c i k) s = .next t ∧
      (s.pastTime (i + 2 ^ 32 - 20000 + 1000 * (c % 16)) = true → t.sent = trigSet 0 n c :: s.sent ∧ t.chain.relay = some ⟨n, c, i, k, true⟩) ∧
      (s.pastTime (i + 2 ^ 32 - 20000 + 1000 * (c % 16)) = false → t.sent = s.sent ∧ t.chain.relay = some ⟨n, c, i, k, false⟩) ∧
      t = { s with chain := t.chain, sent := t.sent }

/-- DLY_ECHO (R114). -/
def dlyEcho : Prop :=
  ∀ (s : State) (p i k rt n : Nat), s.live = true → p < 2 → k = i ^^^ 2 ^^^ 0x3C → rt ≤ 25000000 → 1 ≤ i → i ≤ s.nodes → i ≠ 0xFE → i ≤ s.chain.pos.length →
      (s.posAt i).dlyLeft = n + 2 →
    ∃ t, exec (.dlyEcho i rt p 2 false k) s = .next t ∧ (t.posAt i).dlySum = (s.posAt i).dlySum + rt ∧ (t.posAt i).dlyLeft = n + 1 ∧
      (s.portSends 0 = true → t.sent = dlySet 0 i 1 :: s.sent) ∧ t = { s with chain := t.chain, sent := t.sent }

/-- DLY_ECHO (R114), case `chk`. -/
def dlyEcho_chk : Prop :=
  ∀ (s : State) (p i o k rt : Nat) (v : Bool), s.live = true → p < 2 → k ≠ i ^^^ o ^^^ 0x3C →
    ∃ t, exec (.dlyEcho i rt p o v k) s = .next t ∧
      t.getReg (Reg.CHN_CODE_ERR p) = min (2 ^ 32 - 1) (s.getReg (Reg.CHN_CODE_ERR p) + 1) ∧ t.chain = s.chain ∧ t.sent = s.sent ∧
      Added (if s.getReg (Reg.CHN_CODE_ERR p) = 0 then [Ev.CHN_CODE_ERR p] else []) s t ∧ RegsBut [Reg.CHN_CODE_ERR p, Reg.SEQ_COALESCED] s t

/-- DLY_ECHO (R114), case `request`. -/
def dlyEcho_request : Prop :=
  ∀ (s : State) (p rt : Nat), s.live = true → p < 2 → p = 1 ∨ s.masters = false → s.portSends p = true →
    ∃ t, exec (.dlyEcho 0xFE rt p 1 false 0xC3) s = .next t ∧ t = { s with sent := dlySet p 0xFE 2 :: s.sent }

/-- DLY_ECHO (R114), case `discard`. -/
def dlyEcho_discard : Prop :=
  ∀ (s : State) (p i k rt : Nat) (v : Bool), s.live = true → p < 2 → k = i ^^^ 2 ^^^ 0x3C → v = true ∨ 25000000 < rt →
    ∃ t, exec (.dlyEcho i rt p 2 v k) s = .next t ∧ t = { s with sent := t.sent }

/-- DLY_ECHO (R114), case `mean`. -/
def dlyEcho_mean : Prop :=
  ∀ (s : State) (p i k rt d : Nat), s.live = true → p < 2 → k = i ^^^ 2 ^^^ 0x3C → rt ≤ 25000000 → 1 ≤ i → i ≤ s.nodes → i ≠ 0xFE → i ≤ s.chain.pos.length →
      (s.posAt i).dlyLeft = 1 → s.chain.enum ≠ 2 → (s.posAt i).dlySum + rt = 32 * 200000 + 64 * d →
    ∃ t, exec (.dlyEcho i rt p 2 false k) s = .next t ∧ (t.posAt i).dly = some d ∧ (t.posAt i).dlyLeft = 0 ∧ (t.posAt i).dlySum = 0 ∧
      RegsBut [Reg.CHN_FRAMES_TX 0, Reg.CHN_FRAMES_TX 1, Reg.CHN_FRAMES_RX 0, Reg.CHN_FRAMES_RX 1, Reg.SEQ_COALESCED] s t

/-- DLY_TIMEOUT (R114). -/
def dlyTimeout : Prop :=
  ∀ (s : State) (i : Nat), ∃ t, exec (.dlyTimeout i) s = .next t ∧ t = { s with sent := t.sent } ∧
      (s.live = true → s.masters = true → 1 ≤ i → i ≤ s.nodes → i ≠ 0xFE → (s.posAt i).dlyLeft ≠ 0 → s.portSends 0 = true → t.sent = dlySet 0 i 1 :: s.sent)

/-- DLY_PERIOD (R116). -/
def dlyPeriod : Prop :=
  ∀ (s : State), s.live = true → s.masters = true → s.sampling = true → s.portSends 0 = true →
    ∃ t, exec .dlyPeriod s = .next t ∧ t.sent = ((s.allPos ++ [0xFE]).map (fun j => dlySet 0 j 1)).reverse ++ s.sent ∧
      (∀ p ∈ t.chain.pos, p.dlyLeft = 32 ∧ p.dlySum = 0) ∧ t.chain.endLeft = 32 ∧ t = { s with chain := t.chain, sent := t.sent }

/-- DLY_NOW (R133). -/
def dlyNow : Prop :=
  ∀ (s : State) (m : Nat), s.permits m Reg.CHN0_DLY_CTL = true → s.masters = true → s.portSends 0 = true →
    ∃ t, exec (.dlyNow m) s = .next t ∧ t.sent = ((s.allPos ++ [0xFE]).map (fun j => dlySet 0 j 1)).reverse ++ s.sent ∧
      (∀ p ∈ t.chain.pos, p.dlyLeft = 32 ∧ p.dlySum = 0) ∧ t.chain.endLeft = 32 ∧ t = { s with chain := t.chain, sent := t.sent }

/-- ENUM_START (R113). -/
def enumStart : Prop :=
  ∀ (s : State) (m : Nat), s.permits m Reg.NODE_ENUM_CTL = true → s.cur = Md.survey → s.power = 0 → s.flag Fld.NODE_ENUM_STATUS_BUSY = false → s.masters = true →
    ∃ t, exec (.enumStart m) s = .next t ∧ t.getF Fld.NODE_ENUM_STATUS_BUSY = 1 ∧ t.flag ⟨Folio.STATUS Pg.NODE, 0, 0⟩ = false ∧ t.chain.enum = 1 ∧
      t.chain.sweeps = [] ∧ Added [] s t ∧
      (s.linksUp = true → s.portSends 0 = true →
        t.sent = chainFrame 0 ⟨0x03, s.dirBit 0 + 16, 0, s.chainEdition, 0, if s.roleB then s.nodes else 1, s.nodes, 0, 16⟩ (List.replicate (16 * s.nodes) 0) :: s.sent) ∧
      RegsBut [Reg.CHN_FRAMES_TX 0, Reg.CHN_FRAMES_TX 1, Reg.CHN_FRAMES_RX 0, Reg.CHN_FRAMES_RX 1, Reg.CHN0_SCHED, Reg.NODE_COUNT, (Fld.CHN_PORT_STATUS_LINK 0).addr, (Fld.CHN_PORT_STATUS_LINK 1).addr, Fld.NODE_ENUM_STATUS_BUSY.addr,
        Folio.STATUS Pg.NODE] s t

/-- ENUM_START (R113), case `refused`. -/
def enumStart_refused : Prop :=
  ∀ (s : State) (m : Nat), s.permits m Reg.NODE_ENUM_CTL = true → s.cur ≠ Md.survey →
    ∃ t, exec (.enumStart m) s = .next t ∧ t.getF Fld.NODE_ENUM_STATUS_RESULT = 6 ∧ t.chain = s.chain ∧ RegsBut [Fld.NODE_ENUM_STATUS_RESULT.addr] s t

/-- REJOIN_POS (R113). -/
def rejoinPos : Prop :=
  ∀ (s : State) (m i : Nat), s.permits m Reg.NODE_ENUM_CTL = true → s.flag Fld.NODE_ENUM_STATUS_BUSY = false → 1 ≤ i → i ≤ s.nodes → s.masters = true →
    ∃ t, exec (.rejoinPos m i) s = .next t ∧ t.getF Fld.NODE_ENUM_STATUS_BUSY = 1 ∧ t.chain = { s.chain with enum := 1, enumSent := true, rejoin := i } ∧
      (i ∉ s.otherSeg → s.portSends 0 = true →
        t.sent = chainFrame 0 ⟨0x03, s.dirBit 0 + 8, 0, s.chainEdition, 0, i, 1, 0, 16⟩ (List.replicate 16 0) :: s.sent) ∧ Added [] s t ∧
      RegsBut [Reg.CHN_FRAMES_TX 0, Reg.CHN_FRAMES_TX 1, Reg.CHN_FRAMES_RX 0, Reg.CHN_FRAMES_RX 1, Fld.NODE_ENUM_STATUS_BUSY.addr] s t

/-- ENUM_RETURN (R112). -/
def enumReturn : Prop :=
  ∀ (s : State) (recs : List EnumRec), s.live = true → s.masters = true → s.chain.enum = 1 → s.chain.rejoin = 0 → (s.enumCheck recs).1 = 1 →
    ∃ t, exec (.enumReturn recs) s = .next t ∧ t.chain.enum = 2 ∧ t.chain.endLeft = 32 ∧ (∀ p ∈ t.chain.pos, p.state = 1 ∧ p.dlyLeft = 32) ∧
      t.getF Fld.NODE_COUNT_FOUND = recs.length % 256 ∧ Added [] s t ∧
      RegsBut [Fld.NODE_COUNT_FOUND.addr, Reg.CHN_FRAMES_RX 0, Reg.CHN_FRAMES_RX 1] s t

/-- ENUM_RETURN (R112), case `crc`. -/
def enumReturn_crc : Prop :=
  ∀ (s : State) (recs : List EnumRec) (i : Nat), s.phase = .up → s.masters = true → s.chain.enum = 1 → s.chain.rejoin = 0 → s.enumCheck recs = (3, i) →
    ∃ t, exec (.enumReturn recs) s = .next t ∧ t.chain.enum = 0 ∧ t.getF Fld.NODE_ENUM_STATUS_RESULT = 3 ∧ t.getF Fld.NODE_ENUM_STATUS_FIRST_BAD = i % 256 ∧
      t.getF Fld.NODE_ENUM_STATUS_BUSY = 0 ∧ Added [Ev.NODE_CHAIN_MISMATCH, Ev.NODE_ENUM_DONE] s t ∧
      RegsBut [Reg.CHN_FRAMES_RX 0, Reg.CHN_FRAMES_RX 1, Reg.NODE_COUNT, Reg.NODE_ENUM_STATUS, Reg.SEQ_COALESCED] s t

/-- ENUM_RETURN (R112), case `mismatch`. -/
def enumReturn_mismatch : Prop :=
  ∀ (s : State) (recs : List EnumRec), s.phase = .up → s.masters = true → s.chain.enum = 1 → s.chain.rejoin = 0 → recs.length ≠ s.nodes →
    ∃ t, exec (.enumReturn recs) s = .next t ∧ t.chain.enum = 0 ∧ t.getF Fld.NODE_ENUM_STATUS_RESULT = 2 ∧ t.getF Fld.NODE_ENUM_STATUS_BUSY = 0 ∧
      t.flag ⟨Folio.STATUS Pg.NODE, 0, 0⟩ = false ∧ Added [Ev.NODE_CHAIN_MISMATCH, Ev.NODE_ENUM_DONE] s t ∧
      RegsBut [Reg.NODE_COUNT, Fld.NODE_ENUM_STATUS_BUSY.addr, Folio.STATUS Pg.NODE, Reg.CHN_FRAMES_RX 0, Reg.CHN_FRAMES_RX 1, Reg.SEQ_COALESCED] s t

/-- ENUM_TIMEOUT (R111). -/
def enumTimeout : Prop :=
  ∀ (s : State), s.phase = .up → s.chain.enum = 1 → s.chain.rejoin = 0 →
    ∃ t, exec .enumTimeout s = .next t ∧ t.chain.enum = 0 ∧ t.getF Fld.NODE_ENUM_STATUS_RESULT = 5 ∧ t.getF Fld.NODE_ENUM_STATUS_BUSY = 0 ∧
      Added [Ev.NODE_CHAIN_MISMATCH, Ev.NODE_ENUM_DONE] s t ∧
      RegsBut [Fld.NODE_ENUM_STATUS_BUSY.addr, Folio.STATUS Pg.NODE, Reg.SEQ_COALESCED] s t

/-- ENUM_DONE (R111). -/
def enumDone : Prop :=
  ∀ (s : State) (bad : List Nat), s.phase = .up → s.chain.enum = 3 → s.chain.rejoin = 0 →
    ∃ t, exec (.enumDone bad) s = .next t ∧ t.chain.enum = 0 ∧ t.getF Fld.NODE_ENUM_STATUS_RESULT = 1 ∧ t.getF Fld.NODE_ENUM_STATUS_BUSY = 0 ∧
      t.flag ⟨Folio.STATUS Pg.NODE, 0, 0⟩ = true ∧ t.waits Ev.NODE_ENUM_DONE = true

/-- SWEEP_REJOIN (R129). -/
def sweepRejoin : Prop :=
  ∀ (s : State) (m : Nat), s.permits m Reg.CHN0_SWEEP_CTL = true →
    ∃ t, exec (.sweepRejoin m) s = .next t ∧ t = { s with chain := { s.chain with rejoinWanted := true } }

/-- NREG_READ (R132). -/
def nregRead : Prop :=
  ∀ (s : State) (m i r : Nat), s.permits m Reg.NODE_NREG_CMD = true → s.flag Fld.NODE_NREG_STATUS_BUSY = false → 1 ≤ i → i ≤ 64 →
    ∃ t, exec (.nregRead m i r) s = .next t ∧ t.getF Fld.NODE_NREG_STATUS_BUSY = 1 ∧ t.getF Fld.NODE_NREG_STATUS_RESULT = 0 ∧
      (i ∉ s.otherSeg → s.portSends 0 = true →
        t.sent = chainFrame 0 ⟨0x02, s.dirBit 0, 0, s.chainEdition, 0, 0, 1, 0, 8⟩ ([i, 1] ++ beBytes 2 (r % 65536) ++ [0, 0, 0, 0]) :: s.sent) ∧ Added [] s t ∧
      RegsBut [Reg.CHN_FRAMES_TX 0, Reg.CHN_FRAMES_TX 1, Reg.CHN_FRAMES_RX 0, Reg.CHN_FRAMES_RX 1, Reg.NODE_NREG_CMD, Fld.NODE_NREG_STATUS_BUSY.addr] s t

/-- NREG_READ (R132), case `range`. -/
def nregRead_range : Prop :=
  ∀ (s : State) (m i r : Nat), s.permits m Reg.NODE_NREG_CMD = true → i = 0 ∨ 64 < i →
    ∃ t, exec (.nregRead m i r) s = .next t ∧ t = s

/-- NREG_WRITE (R132). -/
def nregWrite : Prop :=
  ∀ (s : State) (m i r v : Nat), s.permits m Reg.NODE_NREG_CMD = true → s.flag Fld.NODE_NREG_STATUS_BUSY = false → 1 ≤ i → i ≤ 64 → ownedNreg (r % 65536) = false →
    ∃ t, exec (.nregWrite m i r v) s = .next t ∧ t.getF Fld.NODE_NREG_STATUS_BUSY = 1 ∧ t.getReg Reg.NODE_NREG_DATA = v % 65536 ∧
      (i ∉ s.otherSeg → s.portSends 0 = true →
        t.sent = chainFrame 0 ⟨0x02, s.dirBit 0, 0, s.chainEdition, 0, 0, 1, 0, 8⟩ ([i, 1] ++ beBytes 2 (r % 65536) ++ [0, 0, 0, 0]) ::
          chainFrame 0 ⟨0x02, s.dirBit 0, 0, s.chainEdition, 0, 0, 1, 0, 8⟩ ([i, 2] ++ beBytes 2 (r % 65536) ++ beBytes 2 (v % 65536) ++ [0, 0]) :: s.sent) ∧ Added [] s t ∧
      RegsBut [Reg.CHN_FRAMES_TX 0, Reg.CHN_FRAMES_TX 1, Reg.CHN_FRAMES_RX 0, Reg.CHN_FRAMES_RX 1, Reg.NODE_NREG_CMD, Reg.NODE_NREG_DATA, Fld.NODE_NREG_STATUS_BUSY.addr] s t

/-- NREG_WRITE (R132), case `owned`. -/
def nregWrite_owned : Prop :=
  ∀ (s : State) (m i r v : Nat), s.permits m Reg.NODE_NREG_CMD = true → s.flag Fld.NODE_NREG_STATUS_BUSY = false → 1 ≤ i → i ≤ 64 → ownedNreg (r % 65536) = true →
    ∃ t, exec (.nregWrite m i r v) s = .next t ∧ t.getF Fld.NODE_NREG_STATUS_RESULT = 5 ∧ t.getF Fld.NODE_NREG_STATUS_BUSY = 0 ∧
      t.sent = s.sent ∧ Added [Ev.NODE_NREG_DONE] s t ∧
      RegsBut [Reg.NODE_NREG_CMD, Reg.NODE_NREG_DATA, Fld.NODE_NREG_STATUS_BUSY.addr, Reg.SEQ_COALESCED] s t

/-- NREG_REPLY (R130). -/
def nregReply : Prop :=
  ∀ (s : State) (i r v : Nat), s.live = true → s.pair = false ∨ s.masters = true → s.flag Fld.NODE_NREG_STATUS_BUSY = true → s.getF Fld.NODE_NREG_CMD_POS = i → s.getF Fld.NODE_NREG_CMD_ADDR = r →
    s.getF Fld.NODE_NREG_CMD_OP = 1 →
    ∃ t, exec (.nregReply i r v 1) s = .next t ∧ t.getReg Reg.NODE_NREG_DATA = v % 65536 ∧ t.getF Fld.NODE_NREG_STATUS_RESULT = 1 ∧
      t.getF Fld.NODE_NREG_STATUS_BUSY = 0 ∧ Added [Ev.NODE_NREG_DONE] s t ∧
      RegsBut [Reg.CHN_FRAMES_RX 0, Reg.CHN_FRAMES_RX 1, Reg.NODE_NREG_DATA, Fld.NODE_NREG_STATUS_BUSY.addr, Reg.SEQ_COALESCED] s t

/-- NREG_TIMEOUT (R135). -/
def nregTimeout : Prop :=
  ∀ (s : State), s.live = true → s.flag Fld.NODE_NREG_STATUS_BUSY = true →
    ∃ t, exec .nregTimeout s = .next t ∧ t.getF Fld.NODE_NREG_STATUS_RESULT = 3 ∧ t.getF Fld.NODE_NREG_STATUS_BUSY = 0 ∧ Added [Ev.NODE_NREG_DONE] s t ∧
      RegsBut [Fld.NODE_NREG_STATUS_BUSY.addr, Reg.SEQ_COALESCED] s t

/-- EVENT_GRANT (R405), case `none`. -/
def eventGrant_none : Prop :=
  ∀ (s : State), s.live = true → grantPick s.comp = none → s.mode.due = 0 →
    ∃ t, exec .eventGrant s = .next t ∧ t = { s with comp := { s.comp with cycle := s.comp.cycle + 1, occ := [] } }

/-- EVENT_GRANT (R405). -/
def eventGrant : Prop :=
  ∀ (s : State) (w : Waiting), s.live = true → grantPick s.comp = some w → s.mode.due = 0 → Ev.mk w.page w.num ∉ grantDecides → s.comp.firstGrantDone = true → systemCode ⟨w.page, w.num⟩ = none → s.flag Fld.EVR_CTL_ENABLE = false →
      s.comp.annWait = [] → Ev.mk w.page w.num ≠ Ev.MODE_MODE_CHANGED → s.getReg Reg.SEQ_LAST < 2 ^ 32 - 1 → s.flag Fld.SEQ_CTL_CORE_QUEUE = false → s.flag Fld.SEQ_CTL_HOST_RING = false →
    ∃ t, exec .eventGrant s = .next t ∧ t.getReg Reg.SEQ_LAST = s.getReg Reg.SEQ_LAST + 1 ∧ t.getReg Reg.SEQ_LAST_TIME = w.time % 2 ^ 32 ∧
      t.comp.waiting = s.comp.waiting.filter (fun x => x != w && !(x.bound == some (w.page, w.num) && x.arrival == w.arrival)) ∧
      (w.num < 32 → bitOf (t.getReg (Folio.EVENTS w.page)) w.num = true ∧ t.getReg (Folio.SEQ_LAST w.page) = s.getReg Reg.SEQ_LAST + 1) ∧
      t.comp.cycle = s.comp.cycle + 1 ∧
      RegsBut [Reg.SEQ_LAST, Reg.SEQ_LAST_TIME, Reg.SEQ_MAX_WAIT_NS, Reg.SEQ_NEXT, Folio.EVENTS w.page, Folio.SEQ_LAST w.page, Reg.SEQ_COALESCED] s t

/-- EVENT_GRANT (R405), case `core`. -/
def eventGrant_core : Prop :=
  ∀ (s : State) (w : Waiting), s.live = true → grantPick s.comp = some w → s.mode.due = 0 → Ev.mk w.page w.num ∉ grantDecides → w.num < 32 → s.comp.firstGrantDone = true → systemCode ⟨w.page, w.num⟩ = none → s.flag Fld.EVR_CTL_ENABLE = false →
      s.comp.annWait = [] → Ev.mk w.page w.num ≠ Ev.MODE_MODE_CHANGED → Ev.mk w.page w.num ≠ Ev.GAL_LINE_OPEN → s.flag Fld.SEQ_CTL_CORE_QUEUE = true → s.flag Fld.SEQ_CTL_HOST_RING = false →
      bitOf (s.getReg (Folio.EVENT_EN w.page)) w.num = true → s.comp.core.length < 1024 → s.comp.waitReq = none →
    ∃ t, exec .eventGrant s = .next t ∧
      t.comp.core = s.comp.core ++ [⟨s.nextSeq, w.time, w.rep * 2 ^ 24 + w.cls * 2 ^ 16 + w.num * 256 + w.page, w.arg⟩] ∧ MemSame s t ∧
      RegsBut [Reg.SEQ_LAST, Reg.SEQ_LAST_TIME, Reg.SEQ_MAX_WAIT_NS, Reg.SEQ_NEXT, Folio.EVENTS w.page, Folio.SEQ_LAST w.page, Reg.SEQ_COALESCED] s t

/-- WAIT (R411). -/
def wait : Prop :=
  ∀ (s : State) (a c u : Nat), s.live = true → s.cyc.svcRuns = true → isRam a = true →
    ∃ t, exec (.wait a c u) s = .next t ∧
      (s.comp.core = [] → t = { s with comp := { s.comp with waitReq := some (a, c) } }) ∧
      (s.comp.core ≠ [] → t.comp = { s.comp with core := s.comp.core.drop c, waitReq := none } ∧ t.sent = ⟨.core 1, 0x10, [min c s.comp.core.length]⟩ :: s.sent ∧
        t.regs = s.regs ∧ (∀ b, b < a ∨ a + 16 * min c s.comp.core.length ≤ b → t.getByte b = s.getByte b))

/-- WAIT_TIMEOUT (R373). -/
def waitTimeout : Prop :=
  ∀ (s : State), s.live = true → s.comp.waitReq.isSome →
    ∃ t, exec .waitTimeout s = .next t ∧ t = { s with comp := { s.comp with waitReq := none }, sent := ⟨.core 1, 0x10, [0]⟩ :: s.sent }

/-- RECORD (R416). -/
def record : Prop :=
  ∀ (s : State) (r : Record) (l : List Record), s.live = true → s.evr.taken = r :: l →
    ∃ t, exec .record s = .next t ∧ t.evr = { s.evr with taken := l, ring := ({ r with index := ((s.evr.ring.head?.map (fun x => x.index)).getD 0 + 1) % 2 ^ 32 } :: s.evr.ring).take 4096 } ∧
      Added [Ev.EVR_RECORD] s t ∧ RegsBut [Reg.SEQ_COALESCED] s t

/-- CURSOR_WRITE (R417). -/
def cursorWrite : Prop :=
  ∀ (s : State) (m v : Nat), s.permits m Reg.EVR_CURSOR = true →
    ∃ t, exec (.cursorWrite m v) s = .next t ∧ t.evr = { s.evr with copying := some (v % 2 ^ 32) } ∧ t.getReg Reg.EVR_CURSOR = v % 2 ^ 32 ∧
      RegsBut [Reg.EVR_CURSOR] s t ∧ Added [] s t

/-- CURSOR_READY (R417). -/
def cursorReady : Prop :=
  ∀ (s : State) (c : Nat), s.live = true → s.evr.copying = some c →
    ∃ t, exec .cursorReady s = .next t ∧ t.evr.copying = none ∧ t.evr.window.length = 16 ∧ t.evr.ring = s.evr.ring ∧
      t.evr.window = (List.range 16).map (fun i => s.evr.ring.find? (fun r => r.index != 0 && r.index == (c + i) % 2 ^ 32)) ∧ Added [Ev.EVR_CURSOR_READY] s t ∧
      RegsBut [Reg.SEQ_COALESCED] s t

/-- FREEZE_EXPIRED (R418). -/
def freezeExpired : Prop :=
  ∀ (s : State), s.live = true → s.flag Fld.EVR_STATE_FROZEN = true →
    ∃ t, exec .freezeExpired s = .next t ∧ t.flag Fld.EVR_STATE_FROZEN = false ∧ t.flag Fld.EVR_CTL_FREEZE = false ∧ t.evr = { s.evr with post := none } ∧
      Added [Ev.EVR_FREEZE_EXPIRED] s t ∧ RegsBut [Reg.EVR_CTL, Reg.EVR_STATE, Reg.SEQ_COALESCED] s t

/-- EVENT_GRANT (R405), case `request`. -/
def eventGrant_request : Prop :=
  ∀ (s : State) (w : Waiting), s.live = true → grantPick s.comp = some w → Ev.mk w.page w.num = ⟨Pg.MODE, 32⟩ → s.mode.due = 0 →
    ∃ t, exec .eventGrant s = .next t ∧ t.mode = { s.mode with due := 1, dueTag := s.getReg Reg.MODE_REQUEST / 256 % 256, dueTgt := s.getReg Reg.MODE_REQUEST % 16, dueSeq := s.nextSeq } ∧ t.getReg Reg.SEQ_LAST = s.nextSeq ∧
      t.comp.occ = [] ∧ t.comp.cycle = s.comp.cycle + 1 ∧
      RegsBut [Reg.SEQ_LAST, Reg.SEQ_LAST_TIME, Reg.SEQ_MAX_WAIT_NS, Reg.SEQ_NEXT, Reg.SEQ_COALESCED] s t

/-- EVENT_GRANT (R405), case `rejected`. -/
def eventGrant_rejected : Prop :=
  ∀ (s : State), s.live = true → grantPick s.comp = none → s.mode.due = 1 → s.pair = false ∨ s.pstate = Ps.holder →
    0x10 ≤ (s.evalCode s.mode.dueTgt).1 → (s.evalCode s.mode.dueTgt).1 ≠ Rq.busyStopping → s.mode.dueTgt < 16 → s.mode.dueTag < 256 →
    ∃ t, exec .eventGrant s = .next t ∧ t.waits Ev.MODE_REQ_DONE = true ∧ t.waits Ev.MODE_REQ_REJECTED = true ∧ t.mode = { s.mode with due := 0 } ∧
      t.cur = s.cur ∧ t.getReg Reg.MODE_REQ_RESULT = s.mode.dueTag * 65536 + (s.evalCode s.mode.dueTgt).2 % 16 * 4096 +
        s.mode.dueTgt * 256 + (s.evalCode s.mode.dueTgt).1 ∧
      RegsBut [Reg.MODE_REQ_RESULT, Reg.MODE_REJECT_COUNT, Reg.SEQ_COALESCED] s t

/-- EVENT_GRANT (R405), case `dispatch`. -/
def eventGrant_dispatch : Prop :=
  ∀ (s : State), s.live = true → grantPick s.comp = none → s.mode.due = 1 → s.pair = false ∨ s.pstate = Ps.holder →
    s.mode.dueTgt = Md.dispatch → s.cur = Md.survey → s.evalCode Md.dispatch = (Rq.accepted, 0) →
    ∃ t, exec .eventGrant s = .next t ∧ t.waits Ev.MODE_REQ_DONE = true ∧ t.mode.row = 3 ∧ t.cur = Md.starting ∧
      t.power = 1 ∧ t.bal.owtWanted = true

/-- EVENT_GRANT (R405), case `restart`. -/
def eventGrant_restart : Prop :=
  ∀ (s : State) (w : Waiting) (cold : Bool), s.live = true → grantPick s.comp = some w → Ev.mk w.page w.num = ⟨Pg.AUX, 40⟩ → s.mode.due = 0 →
      s.aux.restartWait = some cold →
    ∃ t, exec .eventGrant s = .next t ∧
      (s.power ≠ 0 → t.waits Ev.AUX_RESTART_REFUSED = true ∧ t.phase = s.phase ∧ t.aux = { s.aux with restartWait := none }) ∧
      (s.power = 0 → cold = true → t.phase = .held ∧ t.getF Fld.SYS_RESET_CAUSE_CAUSE = 6 ∧ t.cyc.shadow = none ∧ t.cyc.retains = []) ∧
      (s.power = 0 → cold = false → s.getF Fld.CYC_STATE_STATE = 3 →
        t.phase = .held ∧ t.getF Fld.SYS_RESET_CAUSE_CAUSE = 5 ∧ t.cyc.shadow = s.cyc.shadow ∧ t.cyc.retains = s.cyc.retains) ∧
      (s.power = 0 → cold = false → s.getF Fld.CYC_STATE_STATE = 1 →
        t.phase = s.phase ∧ t.cyc = { s.cyc with restart := some 5, shadowWant := true })

/-- EVENT_GRANT (R405), case `addrIn`. -/
def eventGrant_addrIn : Prop :=
  ∀ (s : State) (w : Waiting), s.live = true → grantPick s.comp = some w → Ev.mk w.page w.num = ⟨Pg.AUX, 41⟩ → s.mode.due = 0 →
    ∃ t, exec .eventGrant s = .next t ∧ t.flag Fld.AUX_ADDR_IO_ADDR_IN = s.aux.addrInNext ∧ t.aux = s.aux ∧
      RegsBut [Reg.SEQ_LAST, Reg.SEQ_LAST_TIME, Reg.SEQ_MAX_WAIT_NS, Reg.SEQ_NEXT, Reg.SEQ_COALESCED, Reg.AUX_ADDR_IO] s t

/-- EVENT_GRANT (R405), case `offer`. -/
def eventGrant_offer : Prop :=
  ∀ (s : State) (w : Waiting) (c a : Nat), s.live = true → grantPick s.comp = some w → Ev.mk w.page w.num = ⟨Pg.AUX, 42⟩ → s.mode.due = 0 →
      s.aux.offers = [(c, a)] → s.flag Fld.AUX_WALK_CTL_ENABLE = true → s.getF Fld.AUX_ADDR_STRING_ADDR = 0 →
      s.flag Fld.AUX_ADDR_IO_ADDR_IN = true → 1 ≤ a → a ≤ 120 →
    ∃ t, exec .eventGrant s = .next t ∧ t.getF Fld.AUX_ADDR_STRING_ADDR = a ∧ t.flag Fld.AUX_ADDR_IO_ADDR_OUT = true ∧
      t.waits Ev.AUX_ADDR_TAKEN = true ∧ ⟨.pin, 0x20, [1]⟩ ∈ t.sent ∧ t.aux.offers = []

/-- EVENT_GRANT (R405), case `cycRun`. -/
def eventGrant_cycRun : Prop :=
  ∀ (s : State) (w : Waiting) (k : Nat), s.live = true → grantPick s.comp = some w → Ev.mk w.page w.num = ⟨Pg.CYC, 40⟩ → s.mode.due = 0 → s.cyc.cmds = [(1, k)] → k ≤ 2 →
    ∃ t, exec .eventGrant s = .next t ∧ ((s.cycNow = 0 ∧ s.cyc.image.isSome) ∨ s.cycNow = 2 → t.cycNow = 1 ∧ t.waits Ev.CYC_STATE_CHANGED = true ∧ t.cyc.cmds = []) ∧
      (s.cycNow = 1 ∨ s.cycNow = 3 → t.cyc = { s.cyc with cmds := [] } ∧ t.waits Ev.CYC_CMD_IGNORED = true)

/-- EVENT_GRANT (R405), case `cycStop`. -/
def eventGrant_cycStop : Prop :=
  ∀ (s : State) (w : Waiting), s.live = true → grantPick s.comp = some w → Ev.mk w.page w.num = ⟨Pg.CYC, 40⟩ → s.mode.due = 0 → s.cyc.cmds = [(2, 0)] →
    ∃ t, exec .eventGrant s = .next t ∧ (s.cycNow = 1 → t.cyc = { s.cyc with cmds := [], stopAt := 1 }) ∧
      (s.cycNow = 2 → t.cycNow = 0 ∧ t.cyc.entry = none ∧ t.getF Fld.CYC_STATE_STOP_CAUSE = 1 ∧ t.waits Ev.CYC_STATE_CHANGED = true) ∧
      (s.cycNow ≠ 1 → s.cycNow ≠ 2 → t.cyc = { s.cyc with cmds := [] } ∧ t.waits Ev.CYC_CMD_IGNORED = true)

/-- EVENT_GRANT (R405), case `cycHold`. -/
def eventGrant_cycHold : Prop :=
  ∀ (s : State) (w : Waiting), s.live = true → grantPick s.comp = some w → Ev.mk w.page w.num = ⟨Pg.CYC, 40⟩ → s.mode.due = 0 → s.cyc.cmds = [(3, 0)] →
    ∃ t, exec .eventGrant s = .next t ∧ (s.cycNow = 1 → t.cyc = { s.cyc with cmds := [], stopAt := 2 }) ∧
      (s.cycNow ≠ 1 → t.cyc = { s.cyc with cmds := [] } ∧ t.waits Ev.CYC_CMD_IGNORED = true) ∧
      RegsBut [Reg.SEQ_LAST, Reg.SEQ_LAST_TIME, Reg.SEQ_MAX_WAIT_NS, Reg.SEQ_NEXT, Reg.SEQ_COALESCED] s t

/-- EVENT_GRANT (R405), case `cycStep`. -/
def eventGrant_cycStep : Prop :=
  ∀ (s : State) (w : Waiting), s.live = true → grantPick s.comp = some w → Ev.mk w.page w.num = ⟨Pg.CYC, 40⟩ → s.mode.due = 0 → s.cyc.cmds = [(4, 0)] → s.cyc.step = false →
    ∃ t, exec .eventGrant s = .next t ∧ (s.cycNow = 2 → t.cyc.step = true ∧ t.cyc.entry = some 3 ∧ t.waits Ev.CYC_CYCLE_START = true ∧
        t.getReg Reg.CYC_CYCLE_LO = (s.getReg Reg.CYC_CYCLE_LO + 1) % 2 ^ 32) ∧
      (s.cycNow ≠ 2 → t.cyc = { s.cyc with cmds := [] } ∧ t.waits Ev.CYC_CMD_IGNORED = true) ∧
      RegsBut [Reg.SEQ_LAST, Reg.SEQ_LAST_TIME, Reg.SEQ_MAX_WAIT_NS, Reg.SEQ_NEXT, Reg.SEQ_COALESCED, Reg.CYC_CYCLE_LO, Reg.CYC_CYCLE_HI] s t

/-- EVENT_GRANT (R405), case `cycleStart`. -/
def eventGrant_cycleStart : Prop :=
  ∀ (s : State) (w : Waiting), s.live = true → grantPick s.comp = some w → Ev.mk w.page w.num = Ev.CYC_CYCLE_START → s.mode.due = 0 → s.cycNow = 1 → s.comp.waitReq = none →
    ∃ t, exec .eventGrant s = .next t ∧ t.cyc = { s.cyc with bank := 1 - s.cyc.bank % 2 } ∧
      (∀ i : Nat, i < 4 → t.getByte (bankAddr (1 - s.cyc.bank % 2) + i) = s.getReg Reg.CYC_CYCLE_LO / 256 ^ i % 256) ∧
      (∀ i : Nat, i < 4 → t.getByte (bankAddr (1 - s.cyc.bank % 2) + 12 + i) = s.nextSeq / 256 ^ i % 256) ∧
      (∀ x, x < bankAddr (1 - s.cyc.bank % 2) ∨ bankAddr (1 - s.cyc.bank % 2) + 0x20000 ≤ x → t.getByte x = s.getByte x) ∧
      RegsBut [Reg.SEQ_LAST, Reg.SEQ_LAST_TIME, Reg.SEQ_MAX_WAIT_NS, Reg.SEQ_NEXT, Reg.SEQ_COALESCED, Folio.EVENTS Pg.CYC, Folio.SEQ_LAST Pg.CYC, Reg.CYC_START_SEQ] s t

/-- EVENT_GRANT (R405), case `capSet`. -/
def eventGrant_capSet : Prop :=
  ∀ (s : State) (w : Waiting) (i q : Nat) (c : Nat × Nat), s.live = true → grantPick s.comp = some w → Ev.mk w.page w.num = ⟨Pg.EST, 40⟩ → s.mode.due = 0 → s.est.capWait = [(i, q)] → s.cellList[i]? = some c →
      s.power = 0 → s.imprintOk = true → (s.pset (s.psetNo c)).qNom ≤ 2 * q → 10 * q ≤ 12 * (s.pset (s.psetNo c)).qNom →
    ∃ t, exec .eventGrant s = .next t ∧ t.est.basis[i]? = some q ∧ t.waits Ev.EST_CAP_SET_DONE = true ∧ t.est.capWait = [] ∧
      RegsBut [Reg.SEQ_LAST, Reg.SEQ_LAST_TIME, Reg.SEQ_MAX_WAIT_NS, Reg.SEQ_NEXT, Reg.SEQ_COALESCED, Reg.GAL_LINE_NO, Reg.GAL_OPEN_COUNT, Reg.GAL_OPEN 0, Reg.GAL_OPEN 1, Reg.GAL_OPEN 2, Reg.GAL_OPEN 3, Reg.GAL_OPEN 4, Reg.GAL_OPEN 5, Reg.GAL_OPEN 6, Reg.GAL_OPEN 7, Reg.EST_STATE, Reg.EST_WARN] s t

/-- EVENT_GRANT (R405), case `capSet_denied`. -/
def eventGrant_capSet_denied : Prop :=
  ∀ (s : State) (w : Waiting) (i q : Nat), s.live = true → grantPick s.comp = some w → Ev.mk w.page w.num = ⟨Pg.EST, 40⟩ → s.mode.due = 0 → s.est.capWait = [(i, q)] → s.power ≠ 0 ∨ s.imprintOk = false →
    ∃ t, exec .eventGrant s = .next t ∧ t.waits Ev.EST_CAP_SET_DENIED = true ∧ t.est = { s.est with capWait := [] } ∧
      RegsBut [Reg.SEQ_LAST, Reg.SEQ_LAST_TIME, Reg.SEQ_MAX_WAIT_NS, Reg.SEQ_NEXT, Reg.SEQ_COALESCED] s t

/-- EVENT_GRANT (R405), case `anchorReq`. -/
def eventGrant_anchorReq : Prop :=
  ∀ (s : State) (w : Waiting), s.live = true → grantPick s.comp = some w → Ev.mk w.page w.num = ⟨Pg.EST, 41⟩ → s.mode.due = 0 → s.cur = Md.dispatch → s.variant ≠ .C → s.imprintOk = true → s.anchorOn = false →
    ∃ t, exec .eventGrant s = .next t ∧ t.getF Fld.EST_STATE_ANCHOR = 1 ∧ t.prof = { s.prof with anchor := true } ∧ t.est = s.est ∧
      RegsBut [Reg.SEQ_LAST, Reg.SEQ_LAST_TIME, Reg.SEQ_MAX_WAIT_NS, Reg.SEQ_NEXT, Reg.SEQ_COALESCED, Reg.EST_STATE, Reg.PROF_STATE] s t

/-- EVENT_GRANT (R405), case `anchorReq_refused`. -/
def eventGrant_anchorReq_refused : Prop :=
  ∀ (s : State) (w : Waiting), s.live = true → grantPick s.comp = some w → Ev.mk w.page w.num = ⟨Pg.EST, 41⟩ → s.mode.due = 0 → s.cur ≠ Md.dispatch ∨ s.variant = .C ∨ s.imprintOk = false →
    ∃ t, exec .eventGrant s = .next t ∧ t.getReg Reg.EST_ANCHOR_RESULT = 6 ∧ t.waits Ev.EST_ANCHOR_REFUSED = true ∧ t.prof = s.prof ∧ t.est = s.est ∧
      RegsBut [Reg.SEQ_LAST, Reg.SEQ_LAST_TIME, Reg.SEQ_MAX_WAIT_NS, Reg.SEQ_NEXT, Reg.SEQ_COALESCED, Reg.EST_ANCHOR_RESULT] s t

/-- EVENT_GRANT (R405), case `anchorCancel`. -/
def eventGrant_anchorCancel : Prop :=
  ∀ (s : State) (w : Waiting), s.live = true → grantPick s.comp = some w → Ev.mk w.page w.num = ⟨Pg.EST, 42⟩ → s.mode.due = 0 →
    ∃ t, exec .eventGrant s = .next t ∧ (s.anchorOn = true → t.getF Fld.EST_STATE_ANCHOR = 3 ∧ t.getReg Reg.EST_ANCHOR_RESULT = 4 ∧ t.prof = { s.prof with anchor := false } ∧
        t.waits Ev.EST_ANCHOR_FAIL = true) ∧ (s.anchorOn = false → t.est = s.est ∧ t.prof = s.prof) ∧
      RegsBut [Reg.SEQ_LAST, Reg.SEQ_LAST_TIME, Reg.SEQ_MAX_WAIT_NS, Reg.SEQ_NEXT, Reg.SEQ_COALESCED, Reg.EST_STATE, Reg.EST_ANCHOR_RESULT, Reg.PROF_STATE, Reg.PROF_TARGET] s t

/-- EVENT_GRANT (R405), case `hold`. -/
def eventGrant_hold : Prop :=
  ∀ (s : State) (w : Waiting), s.live = true → grantPick s.comp = some w → Ev.mk w.page w.num = ⟨Pg.CELL, 40⟩ → s.mode.due = 0 →
    ∃ t, exec .eventGrant s = .next t ∧ t.est = (if s.getReg Reg.CELL_VIEW % 2 = 1 then
        { s.est with held := some (s.est.pub, s.est.pubTime, s.getReg Reg.EST_UPDATE_SEQ) } else s.est) ∧
      RegsBut [Reg.SEQ_LAST, Reg.SEQ_LAST_TIME, Reg.SEQ_MAX_WAIT_NS, Reg.SEQ_NEXT, Reg.SEQ_COALESCED] s t

/-- EVENT_GRANT (R405), case `stepNs`. -/
def eventGrant_stepNs : Prop :=
  ∀ (s : State) (w : Waiting) (d : Int), s.live = true → grantPick s.comp = some w → Ev.mk w.page w.num = ⟨Pg.TIME, 40⟩ → s.mode.due = 0 → s.time.stepWait = [d] →
    ∃ t, exec .eventGrant s = .next t ∧ (s.stepOk = true → t.time = { s.time with now := toU 64 ((s.time.now : Int) + d), lockRun := 0, stepRun := [], stepWait := [] } ∧
        t.waits Ev.TIME_STEPPED = true ∧ t.getReg Reg.TIME_STEPS = min (2 ^ 32 - 1) (s.getReg Reg.TIME_STEPS + 1)) ∧
      (s.stepOk = false → t.time = { s.time with stepRun := [], stepWait := [] } ∧ t.waits Ev.TIME_STEP_REFUSED = true) ∧
      RegsBut [Reg.SEQ_LAST, Reg.SEQ_LAST_TIME, Reg.SEQ_MAX_WAIT_NS, Reg.SEQ_NEXT, Reg.SEQ_COALESCED, Reg.TIME_LAST_STEP_NS, Reg.TIME_STEPS] s t

/-- EVENT_GRANT (R405), case `partnerRequest`. -/
def eventGrant_partnerRequest : Prop :=
  ∀ (s : State) (w : Waiting), s.live = true → grantPick s.comp = some w → Ev.mk w.page w.num = ⟨Pg.MODE, 41⟩ → s.mode.due = 0 →
    ∃ t, exec .eventGrant s = .next t ∧ t.mode = { s.mode with due := 2, dueTag := s.mode.partnerTag, dueTgt := s.mode.partnerTgt, dueSeq := s.nextSeq } ∧
      RegsBut [Reg.SEQ_LAST, Reg.SEQ_LAST_TIME, Reg.SEQ_MAX_WAIT_NS, Reg.SEQ_NEXT, Reg.SEQ_COALESCED] s t

/-- EVENT_GRANT (R405), case `partnerRejected`. -/
def eventGrant_partnerRejected : Prop :=
  ∀ (s : State), s.live = true → grantPick s.comp = none → s.mode.due = 2 → s.plnkOn = true → s.mode.dueTgt < 16 → s.mode.dueTag < 256 →
    0x10 ≤ (s.evalCode s.mode.dueTgt).1 → (s.evalCode s.mode.dueTgt).1 ≠ Rq.busyStopping →
    ∃ t, exec .eventGrant s = .next t ∧ t.mode = { s.mode with due := 0 } ∧ t.waits Ev.MODE_REQ_REJECTED = true ∧
      t.plnkSaid 0x06 [(s.evalCode s.mode.dueTgt).1, (s.evalCode s.mode.dueTgt).2 % 16, s.mode.dueTgt] = true ∧
      RegsBut [Reg.MODE_REQ_RESULT, Reg.MODE_REJECT_COUNT, Reg.PLNK_FRAMES_TX, Reg.PLNK_FWD_MAX_NS, Reg.PLNK_FWD_LATE, Reg.SEQ_COALESCED] s t

/-- EVENT_GRANT (R405), case `abort`. -/
def eventGrant_abort : Prop :=
  ∀ (s : State) (w : Waiting), s.live = true → grantPick s.comp = some w → Ev.mk w.page w.num = ⟨Pg.UPD, 40⟩ → s.mode.due = 0 →
    ∃ t, exec .eventGrant s = .next t ∧ (s.upd.abortWait = false → t.upd = s.upd) ∧
      (s.upd.abortWait = true → s.upd.state ≠ 0 → t.upd = { s.upd with state := 0, rx := [], cur := none, abortWait := false }) ∧
      (s.upd.abortWait = true → s.upd.state = 0 → t.upd.ready = [] ∧ t.upd.armed = [] ∧ t.upd.nextStart = [] ∧ t.upd.abortWait = false) ∧
      RegsBut [Reg.SEQ_LAST, Reg.SEQ_LAST_TIME, Reg.SEQ_MAX_WAIT_NS, Reg.SEQ_NEXT, Reg.SEQ_COALESCED, Folio.STATUS Pg.UPD, Reg.UPD_STATE, Reg.UPD_STAGED_KINDS] s t

/-- EVENT_GRANT (R405), case `activate`. -/
def eventGrant_activate : Prop :=
  ∀ (s : State) (w : Waiting) (p : Payload), s.live = true → grantPick s.comp = some w → w.page = Pg.UPD → w.num = 42 ∨ w.num = 43 → s.mode.due = 0 →
      s.upd.armed = [p] → s.upd.active = [] → p.kind = Pk.app → s.ifaceOk [[]] p = true → s.cycNow = 1 → s.gal.openOf Kind.image = none →
    ∃ t, exec .eventGrant s = .next t ∧ t.upd = { s.upd with active := [Pk.app], anyFail := false, exchange := some p } ∧ t.waits Ev.GAL_LINE_OPEN = true

/-- CYC_RUN (R381). -/
def cycRun : Prop :=
  ∀ (s : State) (m k : Nat), s.permits m Reg.CYC_CTL = true →
    ∃ t, exec (.cycRun m k) s = .next t ∧ t.cyc = { s.cyc with cmds := s.cyc.cmds ++ [(1, k)] } ∧
      Added [⟨Pg.CYC, 40⟩] s t ∧ RegsBut [Reg.SEQ_COALESCED] s t ∧ MemSame s t

/-- CYC_STOP (R381). -/
def cycStop : Prop :=
  ∀ (s : State) (m : Nat), s.permits m Reg.CYC_CTL = true →
    ∃ t, exec (.cycStop m) s = .next t ∧ t.cyc = { s.cyc with cmds := s.cyc.cmds ++ [(2, 0)] } ∧
      Added [⟨Pg.CYC, 40⟩] s t ∧ RegsBut [Reg.SEQ_COALESCED] s t ∧ MemSame s t

/-- CYC_HOLD (R381). -/
def cycHold : Prop :=
  ∀ (s : State) (m : Nat), s.permits m Reg.CYC_CTL = true →
    ∃ t, exec (.cycHold m) s = .next t ∧ t.cyc = { s.cyc with cmds := s.cyc.cmds ++ [(3, 0)] } ∧
      Added [⟨Pg.CYC, 40⟩] s t ∧ RegsBut [Reg.SEQ_COALESCED] s t ∧ MemSame s t

/-- CYC_STEP (R381). -/
def cycStep : Prop :=
  ∀ (s : State) (m : Nat), s.permits m Reg.CYC_CTL = true →
    ∃ t, exec (.cycStep m) s = .next t ∧ t.cyc = { s.cyc with cmds := s.cyc.cmds ++ [(4, 0)] } ∧
      Added [⟨Pg.CYC, 40⟩] s t ∧ RegsBut [Reg.SEQ_COALESCED] s t ∧ MemSame s t

/-- CYCLE_BOUNDARY (R377). -/
def cycleBoundary : Prop :=
  ∀ (s : State) (o : OutImage), s.live = true → s.cycNow = 1 → s.cyc.entry = none → s.cyc.skip = false → s.cyc.stopAt = 0 → s.upd.exchange = none →
      o.writes = [] → o.polValid = false →
    ∃ t, exec (.cycleBoundary o) s = .next t ∧ t.cyc.entry = some 3 ∧ t.cyc.bank = s.cyc.bank ∧ t.cyc.kick = s.kickNext ∧ t.waits Ev.CYC_CYCLE_START = true ∧
      t.getReg Reg.CYC_CYCLE_LO = (s.getReg Reg.CYC_CYCLE_LO + 1) % 2 ^ 32 ∧ (s.cyc.done = true → t.getReg Reg.CYC_OUT_STATUS = 0x00FF0000) ∧ MemSame s t ∧
      RegsBut [Reg.CYC_SHADOW, Reg.CYC_OUT_STATUS, Reg.CYC_CYCLE_LO, Reg.CYC_CYCLE_HI, Reg.CYC_START_LATE_NS, Reg.SEQ_COALESCED] s t

/-- CYCLE_BOUNDARY (R377), case `late`. -/
def cycleBoundary_late : Prop :=
  ∀ (s : State) (o : OutImage), s.live = true → s.cycNow = 1 → s.cyc.entry = some 3 → s.cyc.late = true → s.getF Fld.CYC_STATE_OVR_RUN + 1 < s.getF Fld.CYC_CFG_OVR_LIMIT →
    ∃ t, exec (.cycleBoundary o) s = .next t ∧ t.cyc.skip = false ∧ t.cyc.entry = some 3 ∧ t.cyc.inTime = 0 ∧ t.getF Fld.CYC_STATE_OVR_RUN = s.getF Fld.CYC_STATE_OVR_RUN + 1 ∧
      Added [] s t ∧ MemSame s t ∧ RegsBut [Reg.CYC_STATE] s t

/-- CYCLE_BOUNDARY (R377), case `stop`. -/
def cycleBoundary_stop : Prop :=
  ∀ (s : State) (o : OutImage), s.live = true → s.cycNow = 1 → s.cyc.entry = none → s.cyc.skip = false → s.cyc.done = false → s.cyc.stopAt = 1 → s.upd.exchange = none →
    ∃ t, exec (.cycleBoundary o) s = .next t ∧ t.cycNow = 0 ∧ t.getF Fld.CYC_STATE_STOP_CAUSE = 1 ∧ t.waits Ev.CYC_STATE_CHANGED = true ∧ MemSame s t ∧
      RegsBut [Reg.CYC_STATE, Reg.CYC_SHADOW, Reg.SEQ_COALESCED] s t

/-- CYCLE_DEADLINE (R384). -/
def cycleDeadline : Prop :=
  ∀ (s : State) (o : OutImage), s.live = true → s.cyc.entry = some 2 ∨ s.cyc.entry = some 3 → s.cyc.late = false →
    ∃ t, exec (.cycleDeadline o) s = .next t ∧ t.waits Ev.CYC_OVERRUN = true ∧
      (s.getF Fld.CYC_STATE_OVR_RUN + 1 < s.getF Fld.CYC_CFG_OVR_LIMIT →
        t.cyc = { s.cyc with late := true, skip := true, step := false, inTime := 0 } ∧
        t.getReg Reg.CYC_OVERRUNS = min (2 ^ 32 - 1) (s.getReg Reg.CYC_OVERRUNS + 1) ∧ RegsBut [Reg.CYC_OVERRUNS, Reg.CYC_STATE, Reg.SEQ_COALESCED] s t)

/-- CYCLE_DEADLINE (R384), case `step`. -/
def cycleDeadline_step : Prop :=
  ∀ (s : State) (o : OutImage), s.live = true → s.cyc.entry = none → s.cyc.step = true → s.cyc.done = true → o.writes = [] → o.polValid = false →
    ∃ t, exec (.cycleDeadline o) s = .next t ∧ t.cyc = { s.cyc with step := false, done := false } ∧
      t.getReg Reg.CYC_OUT_STATUS = 0x00FF0000 ∧ RegsBut [Reg.CYC_OUT_STATUS] s t ∧ Added [] s t

/-- ENTRY_RETURN (R377). -/
def entryReturn : Prop :=
  ∀ (s : State) (u : Nat), s.live = true → s.cyc.entry = some 3 → u < 2 ^ 32 → s.cyc.late = true ∨ s.cyc.inTime < 9 →
    ∃ t, exec (.entryReturn u) s = .next t ∧ t.getReg Reg.CYC_EXEC_US = u ∧ t.getReg Reg.CYC_EXEC_MAX_US = max (s.getReg Reg.CYC_EXEC_MAX_US) u ∧
      t.cyc = (if s.cyc.late = true then { s.cyc with entry := none, late := false, step := false }
        else { s.cyc with entry := none, done := true, inTime := s.cyc.inTime + 1 }) ∧
      (s.cyc.late = false → t.getF Fld.CYC_STATE_OVR_RUN = 0) ∧ RegsBut [Reg.CYC_EXEC_US, Reg.CYC_EXEC_MAX_US, Reg.CYC_STATE] s t ∧ Added [] s t

/-- ENTRY_RETURN (R377), case `overrunEnds`. -/
def entryReturn_overrunEnds : Prop :=
  ∀ (s : State) (u : Nat), s.live = true → s.cyc.entry = some 3 → s.cyc.late = false → 9 ≤ s.cyc.inTime → s.cycNow = 1 → s.causeOn 0x2A = true →
    ∃ t, exec (.entryReturn u) s = .next t ∧ t.causeOn 0x2A = false ∧ Added [Ev.SAFE_CAUSE_CLEARED] s t ∧
      RegsBut [Reg.SAFE_CAUSE_HI, Reg.MODE_STATE, Reg.CYC_EXEC_US, Reg.CYC_EXEC_MAX_US, Reg.CYC_STATE, Reg.SEQ_COALESCED] s t

/-- ENTRY_RETURN (R377), case `other`. -/
def entryReturn_other : Prop :=
  ∀ (s : State) (u e : Nat), s.live = true → s.cyc.entry = some e → e < 2 ∨ (e = 2 ∧ s.cyc.image = none) →
    ∃ t, exec (.entryReturn u) s = .next t ∧ t = { s with cyc := if e = 2 then { s.cyc with entry := some 3 } else { s.cyc with entry := none, done := true } }

/-- ENTRY_RETURN (R377), case `exchange`. -/
def entryReturn_exchange : Prop :=
  ∀ (s : State) (u : Nat) (p : Payload), s.live = true → s.cyc.entry = some 2 → s.cyc.image = some p → s.upd.active = [p.kind] → s.upd.anyFail = false →
    ∃ t, exec (.entryReturn u) s = .next t ∧ t.cyc = { s.cyc with entry := some 3 } ∧ t.upd.active = [] ∧
      t.upd.ready = s.upd.ready.filter (fun q => q.kind != p.kind) ∧ t.getF Fld.UPD_STATE_RESULT = 1 ∧ t.waits Ev.UPD_ACTIVATED = true

/-- CORE_TRAP (R386), case `exchange`. -/
def coreTrap_exchange : Prop :=
  ∀ (s : State) (c pc : Nat) (p : Payload), s.live = true → s.cyc.entry = some 2 → s.cyc.image = some p → s.upd.exchange = none →
    ∃ t, exec (.coreTrap c pc) s = .next t ∧ t.getF Fld.UPD_STATE_RESULT = 0x14 ∧ t.waits Ev.UPD_ACTIVATE_FAIL = true ∧ t.upd.ready = s.upd.ready ∧
      t.waits Ev.CYC_EXCHANGE_FAIL = true ∧ t.getF Fld.CYC_STATE_STOP_CAUSE = 5

/-- CORE_TRAP (R386). -/
def coreTrap : Prop :=
  ∀ (s : State) (c pc e : Nat), s.live = true → s.cyc.entry = some e → s.upd.exchange = none →
    ∃ t, exec (.coreTrap c pc) s = .next t ∧ t.waits Ev.CYC_TRAP = true ∧ (e = 2 → t.waits Ev.CYC_EXCHANGE_FAIL = true) ∧ t.cyc.entry = none ∧
      t.cycNow = 0 ∧ t.getF Fld.CYC_STATE_STOP_CAUSE = (if e = 2 then 5 else 2) ∧ t.getF Fld.CYC_TRAP_ENTRY = e % 256 ∧ t.getF Fld.CYC_TRAP_CODE = c % 256 ∧
      t.getF Fld.CYC_TRAP_CORE = 0 ∧ t.getReg Reg.CYC_TRAP_PC_LO = pc % 2 ^ 32 ∧ t.getReg Reg.CYC_TRAP_PC_HI = pc / 2 ^ 32 % 2 ^ 32 ∧
      (e ≠ 2 → RegsBut [Reg.CYC_STATE, Reg.CYC_SHADOW, Fld.CYC_TRAP_ENTRY.addr, Reg.CYC_TRAP_PC_LO, Reg.CYC_TRAP_PC_HI, Folio.STATUS Pg.CYC, Reg.SEQ_COALESCED] s t)

/-- EBREAK (R381). -/
def ebreak : Prop :=
  ∀ (s : State) (pc : Nat), s.live = true → s.cyc.entry.isSome → s.cycNow = 1 →
    ∃ t, exec (.ebreak pc) s = .next t ∧ t.cycNow = 2 ∧ t.cyc.entry = none ∧ t.cyc.done = false ∧ t.cyc.outNs = some s.localNs ∧
      t.getReg Reg.CYC_TRAP_PC_LO = pc % 2 ^ 32 ∧ t.getReg Reg.CYC_TRAP_PC_HI = pc / 2 ^ 32 % 2 ^ 32 ∧ 
      (s.cyc.entry ≠ some 2 → Added [Ev.CYC_STATE_CHANGED, Ev.CYC_HOLD_ENTER] s t ∧
      RegsBut [Reg.CYC_STATE, Reg.CYC_SHADOW, Reg.CYC_TRAP_PC_LO, Reg.CYC_TRAP_PC_HI, Folio.STATUS Pg.CYC, Reg.SEQ_COALESCED] s t)

/-- INIT_TIMEOUT (R390). -/
def initTimeout : Prop :=
  ∀ (s : State), s.live = true → s.cyc.entry = some 0 ∨ s.cyc.entry = some 1 → s.upd.exchange = none →
    ∃ t, exec .initTimeout s = .next t ∧ t.cycNow = 0 ∧ t.getF Fld.CYC_STATE_STOP_CAUSE = 4 ∧ t.cyc.entry = none ∧
      RegsBut [Reg.CYC_STATE, Reg.CYC_SHADOW, Folio.STATUS Pg.CYC, Reg.SEQ_COALESCED] s t

/-- SERVICE_TRAP (R374). -/
def serviceTrap : Prop :=
  ∀ (s : State) (r : Bool) (c pc : Nat), s.live = true → s.cyc.svcRuns = true →
    ∃ t, exec (.serviceTrap r c pc) s = .next t ∧
      t.cyc = { s.cyc with svcRuns := false, svcTraps := s.localNs :: s.cyc.svcTraps.filter (fun n => decide (s.localNs ≤ n + 60000000000)) } ∧
      (r = false → t.getF Fld.CYC_TRAP_ENTRY = 4 ∧ t.getF Fld.CYC_TRAP_CODE = c % 256 ∧ t.getF Fld.CYC_TRAP_CORE = 1 ∧ t.getReg Reg.CYC_TRAP_PC_LO = pc % 2 ^ 32) ∧
      (r = true → RegsBut [Reg.SEQ_COALESCED] s t) ∧ Added [Ev.CYC_SERVICE_TRAP] s t

/-- SERVICE_RESTART (R374). -/
def serviceRestart : Prop :=
  ∀ (s : State) (p : Payload), s.live = true → s.cyc.image = some p → leAt p.body 13 1 % 2 = 1 → s.cyc.svcTraps.length < 3 →
    ∃ t, exec .serviceRestart s = .next t ∧ t = { s with cyc := { s.cyc with svcRuns := true } }

/-- SERVICE_RESTART (R374), case `not`. -/
def serviceRestart_not : Prop :=
  ∀ (s : State), 3 ≤ s.cyc.svcTraps.length →
    ∃ t, exec .serviceRestart s = .next t ∧ t = s

/-- RETAIN_COMMIT (R373). -/
def retainCommit : Prop :=
  ∀ (s : State), s.serving = true →
    ∃ t, exec .retainCommit s = .next t ∧ t = { s with cyc := { s.cyc with retainWant := true } }

/-- NOTE (R373). -/
def note : Prop :=
  ∀ (s : State) (a : Nat), s.serving = true →
    ∃ t, exec (.note a) s = .next t ∧ t.getReg Reg.CYC_USER_NOTE = a % 2 ^ 32 ∧ Added [Ev.CYC_USER_NOTE] s t ∧
      RegsBut [Reg.CYC_USER_NOTE, Reg.SEQ_COALESCED] s t

/-- SHADOW_NOW (R373). -/
def shadowNow : Prop :=
  ∀ (s : State), s.serving = true →
    ∃ t, exec .shadowNow s = .next t ∧ t = { s with cyc := { s.cyc with shadowWant := true } }

/-- NOTE (R373), case `outside`. -/
def services_outside : Prop :=
  ∀ (s : State) (a : Nat), s.serving = false →
    ∃ t, exec (.note a) s = .next t ∧ t = s

/-- HOLD_LIMIT (R382). -/
def holdLimit : Prop :=
  ∀ (s : State), s.live = true → s.cyc.outNs.isSome → s.causeOn 0x2B = false →
    ∃ t, exec .holdLimit s = .next t ∧ t.waits Ev.CYC_HOLD_LIMIT = true ∧ t.waits Ev.SAFE_CAUSE_SET = true ∧ (s.power = 0 → t.causeOn 0x2B = true ∧
      Added [Ev.CYC_HOLD_LIMIT, Ev.SAFE_CAUSE_SET] s t)

/-- PROG_SHADOW (R391). -/
def progShadow : Prop :=
  ∀ (s : State), s.live = true → s.cycNow = 1 →
    ∃ t, exec .progShadow s = .next t ∧ t = { s with cyc := { s.cyc with shadowWant := true } }

/-- SHADOW_SEALED (R391). -/
def shadowSealed : Prop :=
  ∀ (s : State) (c : Copy), s.live = true → s.cyc.writing = some c → s.cyc.restart = none →
    ∃ t, exec .shadowSealed s = .next t ∧ t.cyc = { s.cyc with shadow := some { c with sealOk := true, hours := s.hours }, writing := none } ∧
      t.flag Fld.CYC_SHADOW_SHADOW_VALID = t.shadowOk ∧ RegsBut [Reg.CYC_SHADOW] s t ∧ Added [] s t

/-- SHADOW_SEALED (R391), case `restart`. -/
def shadowSealed_restart : Prop :=
  ∀ (s : State) (c : Copy) (k : Nat), s.live = true → s.cyc.writing = some c → s.cyc.restart = some k → s.cyc.shadowWant = false →
    ∃ t, exec .shadowSealed s = .next t ∧ t.phase = .held ∧ t.cyc.shadow = some { c with sealOk := true, hours := s.hours }

/-- RETAIN_STORE (R392). -/
def retainStore : Prop :=
  ∀ (s : State) (p : Payload), s.live = true → s.cyc.image = some p → s.cyc.retains = [] →
    ∃ t, exec .retainStore s = .next t ∧ t.cyc.retains = [{ s.takeCopy p with parts := [], sealOk := true }] ∧
      t.flag Fld.CYC_SHADOW_RETAIN_VALID = true ∧ RegsBut [Reg.CYC_SHADOW] s t ∧ Added [] s t

/-- RETAIN_STORE (R392), case `same`. -/
def retainStore_same : Prop :=
  ∀ (s : State) (p : Payload) (c : Copy) (l : List Copy), s.live = true → s.cyc.image = some p → s.cyc.retains = c :: l → c.sealOk = true → c.vars = s.retainVars p.body →
    ∃ t, exec .retainStore s = .next t ∧ t = s

/-- TMR_IN_WRITE (R388). -/
def tmrInWrite : Prop :=
  ∀ (s : State) (m n : Nat) (b : Bool) (x : Tmr), s.permits m (Reg.TMR_IO n) = true → n < 64 → s.cyc.tmr[n]? = some x →
    ∃ t, exec (.tmrInWrite m n b) s = .next t ∧
      (x.kind ≠ 0 → t = s.tmrMod n (fun y => y.write b s.localBase) ∧ t.cyc.tmr[n]? = some (x.write b s.localBase)) ∧
      (x.kind = 0 → t.cyc = s.cyc ∧ Added [Ev.TMR_IN_IGNORED] s t ∧ RegsBut [Reg.SEQ_COALESCED] s t)

/-- TMR_PT_WRITE (R388). -/
def tmrPtWrite : Prop :=
  ∀ (s : State) (m n v : Nat) (x : Tmr), s.permits m (Reg.TMR_PT n) = true → n < 64 → s.cyc.tmr[n]? = some x →
    ∃ t, exec (.tmrPtWrite m n v) s = .next t ∧ t.cyc.tmr[n]? = some { x.settle s.localBase with pt := v % 2 ^ 32 } ∧
      (∀ i : Nat, i < 64 → i = n ∨ t.cyc.tmr[i]? = s.cyc.tmr[i]?) ∧ t = { s with cyc := { s.cyc with tmr := t.cyc.tmr } }

/-- TMR_EXPIRY (R388). -/
def tmrExpiry : Prop :=
  ∀ (s : State) (n : Nat) (x : Tmr), s.live = true → s.cyc.tmr[n]? = some x →
    ∃ t, exec (.tmrExpiry n) s = .next t ∧ t.cyc.tmr[n]? = some (x.settle s.localBase) ∧ t = { s with cyc := { s.cyc with tmr := t.cyc.tmr } }

/-- SUPPLY_LOSS (R70). -/
def supplyLoss : Prop :=
  ∀ (s : State),
    ∃ t, exec .supplyLoss s = .next t ∧ t.phase = .held ∧ bitOf t.aux.hold 0 = true ∧ ⟨.pin, 0x00, []⟩ ∈ t.sent ∧ t.comp.waiting = [] ∧ (∀ a, t.getByte a = 0) ∧ t.record = s.record

/-- DRIVE_LINK_UP (R287). -/
def driveLinkUp : Prop :=
  ∀ (s : State), s.live = true → s.variant ≠ .C →
    ∃ t, exec .driveLinkUp s = .next t ∧ t.getF Fld.DRV_LINK_STATE = 2 ∧ t.waits Ev.DRV_LINK_UP = true ∧
      RegsBut [Fld.DRV_LINK_STATE.addr, Reg.DRV_PWM_STATUS, Reg.SEQ_COALESCED] s t

/-- DRIVE_LINK_LOST (R287). -/
def driveLinkLost : Prop :=
  ∀ (s : State), s.live = true → s.variant ≠ .C →
    ∃ t, exec .driveLinkLost s = .next t ∧ t.getF Fld.DRV_LINK_STATE = 3 ∧ t.flag Fld.DRV_PWM_STATUS_ENABLED = false ∧
      Added (if s.flag Fld.DRV_PWM_STATUS_ENABLED then [Ev.DRV_LINK_LOST, Ev.DRV_PWM_INHIBITED] else [Ev.DRV_LINK_LOST]) s t ∧
      RegsBut [Fld.DRV_LINK_STATE.addr, Reg.DRV_PWM_STATUS, Reg.SEQ_COALESCED] s t

/-- STATUS_TIMEOUT (R292). -/
def statusTimeout : Prop :=
  ∀ (s : State), s.live = true → s.variant ≠ .C → s.arrivedNow statusKey = false →
    ∃ t, exec .statusTimeout s = .next t ∧ t.waits Ev.DRV_LINK_LOST = true ∧ t.waits ⟨Pg.DRV, 33⟩ = true ∧
      (s.drv.imprint = true → s.power ≠ 0 → s.causeOn 0x0C = false → t.waits Ev.SAFE_CAUSE_SET = true) ∧
      (s.drv.imprint = false ∨ s.power = 0 → Added [⟨Pg.DRV, 33⟩, Ev.DRV_LINK_LOST] s t ∧ RegsBut [Reg.SEQ_COALESCED] s t)

/-- STATUS_TIMEOUT (R292), case `arrived`. -/
def statusTimeout_arrived : Prop :=
  ∀ (s : State), s.arrivedNow (statusKey) = true →
    ∃ t, exec .statusTimeout s = .next t ∧ t = s

/-- RENEW_SEND (R289). -/
def renewSend : Prop :=
  ∀ (s : State), s.live = true → s.variant ≠ .C → s.drv.imprint = true → s.drv.renew = true →
    ∃ t, exec .renewSend s = .next t ∧ t.sent = ⟨.drive, 0x02, driveFrame s.drv.txSeq 0x02 (s.getReg Reg.PAIR_EDITION) [s.getF Fld.DRV_CONT_CMD, b2n s.drv.arm]⟩ :: s.sent ∧
      t.drv = { s.drv with txSeq := (s.drv.txSeq + 1) % 256 } ∧ t.getReg Reg.DRV_FRAMES_TX = min (2 ^ 32 - 1) (s.getReg Reg.DRV_FRAMES_TX + 1) ∧
      RegsBut [Reg.DRV_FRAMES_TX] s t

/-- WATCH_SEND (R289). -/
def watchSend : Prop :=
  ∀ (s : State), s.live = true → s.variant ≠ .C → s.drv.imprint = false →
    ∃ t, exec .watchSend s = .next t ∧ t.sent = ⟨.drive, 0x04, driveFrame s.drv.txSeq 0x04 (s.getReg Reg.PAIR_EDITION) []⟩ :: s.sent ∧
      t.getReg Reg.DRV_FRAMES_TX = min (2 ^ 32 - 1) (s.getReg Reg.DRV_FRAMES_TX + 1) ∧ RegsBut [Reg.DRV_FRAMES_TX] s t

/-- CLAIM_REPEAT (R289). -/
def claimRepeat : Prop :=
  ∀ (s : State), s.live = true → s.variant ≠ .C → s.drv.claimPending = true →
    ∃ t, exec .claimRepeat s = .next t ∧
      t.sent = ⟨.drive, 0x01, driveFrame s.drv.txSeq 0x01 s.drv.claimEdition (beBytes 2 s.claimNum ++ beBytes 4 (s.getReg Reg.SYS_SERIAL_HI) ++ beBytes 4 (s.getReg Reg.SYS_SERIAL_LO))⟩ :: s.sent ∧
      t.drv = { s.drv with claimNs := s.localNs, txSeq := (s.drv.txSeq + 1) % 256 } ∧ RegsBut [Reg.DRV_FRAMES_TX] s t

/-- PWM_ENABLE (R285). -/
def pwmEnable : Prop :=
  ∀ (s : State), s.live = true → s.variant ≠ .C → s.pwmCauses = 0 → s.flag Fld.DRV_PWM_STATUS_ENABLED = false →
    ∃ t, exec .pwmEnable s = .next t ∧ t.waits Ev.DRV_PWM_ENABLED = true ∧
      (s.getF Fld.DRV_CONT_STEP ≠ 8 → s.pairU.swap ≠ 4 → t.flag Fld.DRV_PWM_STATUS_ENABLED = true ∧ Added [Ev.DRV_PWM_ENABLED] s t ∧
        RegsBut [Reg.DRV_PWM_STATUS, Reg.SEQ_COALESCED] s t)

/-- DRIVE_EN_CHANGE (R293). -/
def driveEnChange : Prop :=
  ∀ (s : State) (l : Nat), s.live = true →
    ∃ t, exec (.driveEnChange l true) s = .next t ∧ t.flag (if l = 0 then Fld.DRV_EN_LEVEL_A else Fld.DRV_EN_LEVEL_B) = true ∧
      (s.flag Fld.DRV_EN_LEVEL_A = true ∨ l = 0 → s.flag Fld.DRV_EN_LEVEL_B = true ∨ l ≠ 0 → t.causeOn 0x0D = false)

/-- DRIVE_EN_CHANGE (R293), case `low`. -/
def driveEnChange_low : Prop :=
  ∀ (s : State) (l : Nat), s.live = true → s.flag (if l = 0 then Fld.DRV_EN_PULL_A else Fld.DRV_EN_PULL_B) = false → s.causeOn 0x0D = false →
    ∃ t, exec (.driveEnChange l false) s = .next t ∧ t.waits Ev.SAFE_CAUSE_SET = true

/-- DRIVE_EN_TEST (R296). -/
def driveEnTest : Prop :=
  ∀ (s : State), s.live = true → s.getF Fld.DRV_CONT_STEP = 1 → s.drv.enLine = 0 → s.variant = .C ∨ bitOf (s.getF Fld.DRV_OS_STATUS_READY) 2 = true →
    ∃ t, exec (.driveEnTest true true) s = .next t ∧ t.drv = { s.drv with enLine := 1 } ∧ t.flag Fld.DRV_EN_PULL_A = false ∧ t.flag Fld.DRV_EN_PULL_B = true ∧
      t.sent = ⟨.pin, 0x11, [0, 1]⟩ :: ⟨.pin, 0x11, [0, 0]⟩ :: s.sent ∧ Added [] s t ∧
      RegsBut [Reg.DRV_EN] s t

/-- DRIVE_EN_TEST (R296), case `fail`. -/
def driveEnTest_fail : Prop :=
  ∀ (s : State) (a b : Bool), s.live = true → s.getF Fld.DRV_CONT_STEP = 1 → a = false ∨ b = false →
    ∃ t, exec (.driveEnTest a b) s = .next t ∧ t.waits Ev.MODE_TRANS_ABORTED = true ∧
      (s.variant ≠ .C → t.waits Ev.DRV_SEQ_FAIL = true ∧ t.waits Ev.DRV_EN_TEST_FAIL = true)

/-- FB_SAMPLE (R326). -/
def fbSample : Prop :=
  ∀ (s : State) (n p q : Bool), s.live = true → s.getF Fld.SIO_FB_ACCEPTED = b2n n + 2 * b2n p + 4 * b2n q →
    s.mode.row = 0 →
    ∃ t, exec (.fbSample n p q) s = .next t ∧ t.getF Fld.SIO_FB_SAMPLE = b2n n + 2 * b2n p + 4 * b2n q ∧
      t.safe.fbHist = ((b2n n + 2 * b2n p + 4 * b2n q) :: s.safe.fbHist).take 3 ∧ (7 - s.getF Fld.SIO_FB_ACCEPTED = s.getF Fld.DRV_CONT_CMD → t.causeOn 0x10 = false) ∧
      RegsBut [Reg.SIO_FB] s t

/-- FB_SAMPLE (R326), case `accepted`. -/
def fbSample_accepted : Prop :=
  ∀ (s : State) (n p q : Bool) (l : List Nat), s.live = true → s.safe.fbHist = (b2n n + 2 * b2n p + 4 * b2n q) :: (b2n n + 2 * b2n p + 4 * b2n q) :: l →
    s.getF Fld.SIO_FB_ACCEPTED ≠ b2n n + 2 * b2n p + 4 * b2n q →
    ∃ t, exec (.fbSample n p q) s = .next t ∧ t.waits ⟨Pg.SIO, 34⟩ = true

/-- CONT_STEP_TIMEOUT (R297). -/
def contStepTimeout : Prop :=
  ∀ (s : State), s.live = true → s.getF Fld.DRV_CONT_STEP ∈ [3, 4, 6, 7] → s.arrivedNow fbKey = false →
    ∃ t, exec .contStepTimeout s = .next t ∧ t.waits Ev.MODE_TRANS_ABORTED = true ∧ (s.variant ≠ .C → t.waits Ev.DRV_SEQ_FAIL = true)

/-- CONT_STEP_TIMEOUT (R297), case `arrived`. -/
def contStepTimeout_arrived : Prop :=
  ∀ (s : State), s.arrivedNow (fbKey) = true →
    ∃ t, exec .contStepTimeout s = .next t ∧ t = s

/-- CONT_STEP_TIMEOUT (R297), case `weld`. -/
def contStepTimeout_weld : Prop :=
  ∀ (s : State), s.live = true → s.getF Fld.DRV_CONT_STEP = 9 → s.allOpen = false → s.arrivedNow fbKey = false →
    ∃ t, exec .contStepTimeout s = .next t ∧ (s.variant ≠ .C → t.waits Ev.DRV_CONTACTOR_WELD = true) ∧ (s.causeOn 0x11 = false → t.waits Ev.SAFE_CAUSE_SET = true) ∧
      ⟨.pin, 0x10, [0]⟩ ∈ t.sent

/-- PRE_TIMEOUT (R297). -/
def preTimeout : Prop :=
  ∀ (s : State), s.live = true → s.getF Fld.DRV_CONT_STEP = 5 →
    ∃ t, exec .preTimeout s = .next t ∧ t.waits Ev.MODE_TRANS_ABORTED = true ∧ (s.variant ≠ .C → t.waits Ev.DRV_SEQ_FAIL = true ∧ t.waits ⟨Pg.DRV, 36⟩ = true)

/-- GATES_TIMEOUT (R297). -/
def gatesTimeout : Prop :=
  ∀ (s : State), s.live = true → s.getF Fld.DRV_CONT_STEP = 8 → s.drv.arm = true →
    ∃ t, exec .gatesTimeout s = .next t ∧ t.waits Ev.MODE_TRANS_ABORTED = true ∧ (s.variant ≠ .C → t.waits Ev.DRV_SEQ_FAIL = true ∧ t.waits ⟨Pg.DRV, 37⟩ = true)

/-- FB_DISAGREE (R295). -/
def fbDisagree : Prop :=
  ∀ (s : State), s.live = true → s.variant ≠ .C → s.getF Fld.DRV_OS_STATUS_CONT_FB % 8 ≠ 7 - s.getF Fld.SIO_FB_ACCEPTED →
    ∃ t, exec .fbDisagree s = .next t ∧ Added [Ev.DRV_FB_DISAGREE] s t ∧ RegsBut [Reg.SEQ_COALESCED] s t

/-- CONT_UNEXPECTED (R327). -/
def contUnexpected : Prop :=
  ∀ (s : State), s.live = true → 7 - s.getF Fld.SIO_FB_ACCEPTED ≠ s.getF Fld.DRV_CONT_CMD →
    ∃ t, exec .contUnexpected s = .next t ∧ t.waits Ev.SIO_FB_UNEXPECTED = true ∧ (s.causeOn 0x10 = false → t.waits Ev.SAFE_CAUSE_SET = true)

/-- FB_TEST_GAP (R328). -/
def fbTestGap : Prop :=
  ∀ (s : State) (r : Nat), s.live = true → r % 8 = 0 →
    ∃ t, exec (.fbTestGap r) s = .next t ∧ t.getF Fld.SIO_FB_TEST_FAIL = 0 ∧ t.safe = { s.safe with fbTestPass := min (s.safe.fbTestPass + 1) 3 } ∧
      (2 ≤ s.safe.fbTestPass → t.causeOn 0x16 = false) ∧
      RegsBut [Reg.SAFE_CAUSE_LO, Reg.MODE_STATE, Fld.SIO_FB_TEST_FAIL.addr, Reg.SEQ_COALESCED] s t

/-- FB_TEST_GAP (R328), case `fail`. -/
def fbTestGap_fail : Prop :=
  ∀ (s : State) (r : Nat), s.live = true → r % 8 ≠ 0 →
    ∃ t, exec (.fbTestGap r) s = .next t ∧ t.waits Ev.SIO_FB_TEST_FAIL = true ∧ (s.causeOn 0x16 = false → t.waits Ev.SAFE_CAUSE_SET = true)

/-- CUR_REDUCE_REPEAT (R300). -/
def curReduceRepeat : Prop :=
  ∀ (s : State), s.live = true → s.variant = .C → s.safe.carrierReq = true →
    ∃ t, exec .curReduceRepeat s = .next t ∧ (s.below5 = true → t = { s with safe := { s.safe with carrierReq := false } }) ∧
      (s.below5 = false → t = s.announce 0x06 (s.getF Fld.SAFE_STATE_FIRST_CAUSE) ((if s.flag Fld.SAFE_STATE_FS_ACTIVE then 400 else s.getReg Reg.MODE_STOP_LIMIT) * 65536))

/-- CUR_REDUCE_DEADLINE (R300). -/
def curReduceDeadline : Prop :=
  ∀ (s : State), s.live = true → s.variant = .C → s.flag Fld.SAFE_STATE_FS_ACTIVE = true → s.power ≠ 0 → s.getF Fld.DRV_CONT_STEP ≠ 9 →
    ∃ t, exec .curReduceDeadline s = .next t ∧ t.waits Ev.SAFE_RAMP_FAILED = true ∧ t.waits ⟨Pg.SAFE, 35⟩ = true ∧ t.waits ⟨Pg.SAFE, 33⟩ = true

/-- CONNECT_ACK (R451). -/
def connectAck : Prop :=
  ∀ (s : State) (c : Nat) (a : Bool), s.live = true → s.variant = .C → s.mode.waitAck = true → s.cur = Md.starting →
    ∃ t, exec (.connectAck c a) s = .next t ∧ t.waits (Ev.CAN_CONNECT_ACK (c % 2)) = true ∧ (a = true → s.mode.waitOwt = true → t.mode = { s.mode with waitAck := false }) ∧
      (a = false → t.waits Ev.MODE_REQ_REJECTED = true ∧ t.getF Fld.MODE_REQ_RESULT_CODE = Rq.condition ∧ t.getF Fld.MODE_REQ_RESULT_CHECK = 9)

/-- CONNECT_TIMEOUT (R300). -/
def connectTimeout : Prop :=
  ∀ (s : State), s.live = true → s.mode.waitAck = true → s.cur = Md.starting →
    ∃ t, exec .connectTimeout s = .next t ∧ t.waits ⟨Pg.MODE, 35⟩ = true ∧ t.waits Ev.MODE_REQ_REJECTED = true ∧ t.getF Fld.MODE_REQ_RESULT_CODE = Rq.condition ∧
      t.getF Fld.MODE_REQ_RESULT_CHECK = 9

/-- FS_RAMP_DEADLINE (R317). -/
def fsRampDeadline : Prop :=
  ∀ (s : State), s.live = true → s.flag Fld.SAFE_STATE_FS_ACTIVE = true → s.flag Fld.SAFE_STATE_NO_RAMP = false → s.power ≠ 0 → s.getF Fld.DRV_CONT_STEP ≠ 9 →
    ∃ t, exec .fsRampDeadline s = .next t ∧ t.waits ⟨Pg.SAFE, 34⟩ = true ∧ t.waits Ev.SAFE_RAMP_FAILED = true ∧
      (s.variant ≠ .C → t.waits Ev.SAFE_NO_RAMP = true)

/-- FS_NO_RAMP_FALLBACK (R318). -/
def fsNoRampFallback : Prop :=
  ∀ (s : State), s.live = true → s.flag Fld.SAFE_STATE_FS_ACTIVE = true → s.flag Fld.SAFE_STATE_NO_RAMP = true → s.power ≠ 0 → s.getF Fld.DRV_CONT_STEP ≠ 9 →
    ∃ t, exec .fsNoRampFallback s = .next t ∧ t.waits ⟨Pg.SAFE, 36⟩ = true ∧
      (s.flag Fld.VOTE_CH_STATE_CUR_VALID = false ∨ s.below5 = false → t.waits ⟨Pg.SAFE, 33⟩ = true)

/-- LOCKSTEP (R306). -/
def lockstep : Prop :=
  ∀ (s : State), s.live = true →
    ∃ t, exec .lockstep s = .next t ∧ t.waits Ev.SAFE_LOCKSTEP = true ∧ (s.causeOn 0x15 = false → t.waits Ev.SAFE_CAUSE_SET = true) ∧
      (s.causeOn 0x15 = true → t.safe = { s.safe with lockstepHold := true } ∧ t.mram = { s.mram with lockstepSeen := true })

/-- LOCKSTEP_RESET_HOLD (R306). -/
def lockstepResetHold : Prop :=
  ∀ (s : State), s.live = true → s.safe.lockstepHold = true →
    ∃ t, exec .lockstepResetHold s = .next t ∧ t.phase = .held ∧ t.getF Fld.SYS_RESET_CAUSE_CAUSE = 4 ∧ t.record = s.record ∧ ⟨.pin, 0x00, []⟩ ∈ t.sent

/-- ECC_CORRECTED (R306). -/
def eccCorrected : Prop :=
  ∀ (s : State), s.live = true →
    ∃ t, exec .eccCorrected s = .next t ∧ Added [Ev.SAFE_ECC_CORRECTED] s t ∧ RegsBut [Fld.SAFE_ECC_CORRECTED.addr, Reg.SEQ_COALESCED] s t ∧
      s.getF Fld.SAFE_ECC_CORRECTED ≤ t.getF Fld.SAFE_ECC_CORRECTED

/-- MARGIN_SELFTEST (R307). -/
def marginSelftest : Prop :=
  ∀ (s : State), s.live = true →
    ∃ t, exec (.marginSelftest none) s = .next t ∧ t.getF Fld.MRG_SELFTEST_RESULT = 1 ∧ t.getF Fld.MRG_SELFTEST_FAIL_BANK = 0xFF ∧ t.causeOn 0x13 = false ∧
      Added (if s.causeOn 0x13 then [Ev.SAFE_CAUSE_CLEARED] else []) s t ∧
      RegsBut [Reg.SAFE_CAUSE_LO, Reg.MODE_STATE, Fld.MRG_SELFTEST_RESULT.addr, Reg.SEQ_COALESCED] s t

/-- MARGIN_SELFTEST (R307), case `fail`. -/
def marginSelftest_fail : Prop :=
  ∀ (s : State) (b : Nat), s.live = true →
    ∃ t, exec (.marginSelftest (some b)) s = .next t ∧ t.waits Ev.MRG_SELFTEST_FAIL = true ∧ (s.causeOn 0x13 = false → t.waits Ev.SAFE_CAUSE_SET = true)

/-- CFG_CRC_CHECK (R307). -/
def cfgCrcCheck : Prop :=
  ∀ (s : State), s.live = true → s.cfgCrc = s.getReg Reg.MRG_PR_CRC →
    ∃ t, exec .cfgCrcCheck s = .next t ∧ t.getReg Reg.MRG_CFG_CRC = s.cfgCrc ∧ t.causeOn 0x14 = false ∧
      Added (if s.causeOn 0x14 then [Ev.SAFE_CAUSE_CLEARED] else []) s t ∧
      RegsBut [Reg.SAFE_CAUSE_LO, Reg.MODE_STATE, Reg.MRG_CFG_CRC, Reg.SEQ_COALESCED] s t

/-- CFG_CRC_CHECK (R307), case `fail`. -/
def cfgCrcCheck_fail : Prop :=
  ∀ (s : State), s.live = true → s.cfgCrc % 2 ^ 32 ≠ s.getReg Reg.MRG_PR_CRC → s.causeOn 0x14 = false →
    ∃ t, exec .cfgCrcCheck s = .next t ∧ t.waits Ev.MRG_CFG_CRC_FAIL = true ∧ t.waits Ev.SAFE_CAUSE_SET = true

/-- ELLIPSIS_EXPIRY (R322). -/
def ellipsisExpiry : Prop :=
  ∀ (s : State), s.live = true → s.flag Fld.SAFE_STATE_ELLIPSIS = true → s.cur = Md.ellipsis →
    ∃ t, exec .ellipsisExpiry s = .next t ∧ t.waits Ev.SAFE_ELL_EXPIRED = true ∧ (s.causeOn 0x12 = false → t.waits Ev.SAFE_CAUSE_SET = true)

/-- SIO_SAMPLE (R323). -/
def sioSample : Prop :=
  ∀ (s : State) (a b i : Nat), s.live = true → i < 8 → s.getF (sioFld i) = 0 → pairReads (s.getF (Fld.SIO_CFG_TYPE i)) (bitOf a i) (bitOf b i) = 1 →
    ∃ t, exec (.sioSample a b) s = .next t ∧ t.waits Ev.SIO_PAIR_STOP = true ∧
      (s.getF (Fld.SIO_CFG_FUNCTION i) = 1 → s.causeOn 0x0F = false → t.waits Ev.SAFE_CAUSE_SET = true)

/-- EST_DONE (R195). -/
def estDone : Prop :=
  ∀ (s : State) (u : Used), s.live = true → s.est.used = some u → u.gaps = 0 →
    ∃ t, exec .estDone s = .next t ∧ t.waits Ev.EST_EST_DONE = true ∧ t.getReg Reg.EST_UPDATE_TIME = u.instant % 2 ^ 32 ∧ t.est.pubTime = u.instant ∧
      t.est.pub = t.est.cells

/-- EST_DONE (R195), case `suspended`. -/
def estDone_suspended : Prop :=
  ∀ (s : State) (u : Used), s.live = true → s.est.used = some u → u.gaps ≠ 0 →
    ∃ t, exec .estDone s = .next t ∧ t.flag Fld.EST_STATE_SUSPENDED = true ∧ t.est = { s.est with used := none, gapNs := s.est.gapNs + u.dt, gapN := s.est.gapN + u.gaps } ∧
      Added (if s.flag Fld.EST_STATE_SUSPENDED then [] else [Ev.EST_EST_SUSPENDED]) s t ∧
      RegsBut [Fld.EST_STATE_SUSPENDED.addr, Reg.SEQ_COALESCED] s t

/-- EST_SHADOW_WRITE (R202). -/
def estShadowWrite : Prop :=
  ∀ (s : State), s.live = true → s.est.cells ≠ [] → s.est.shadows.length = 2 → s.est.shadowAt < 2 →
    ∃ t, exec .estShadowWrite s = .next t ∧ t.est.shadowAt = 1 - s.est.shadowAt ∧
      (t.est.shadows[1 - s.est.shadowAt]?).map (fun a => a.map (fun h => (h.hours, h.version, h.learn, h.anchorS, h.cells.length))) =
        some (some (s.hours, (s.record.map (·.version)).getD 0, s.getF Fld.EST_STATE_LEARN, s.est.anchorH, s.est.cells.length)) ∧
      (t.est.shadows[1 - s.est.shadowAt]?).map (fun a => a.map (fun h => h.sealOk)) = some (some true) ∧
      t.est.shadows[s.est.shadowAt]? = s.est.shadows[s.est.shadowAt]? ∧
      t = { s with est := { s.est with shadows := t.est.shadows, shadowAt := t.est.shadowAt } }

/-- CAP_SET (R215). -/
def capSet : Prop :=
  ∀ (s : State) (m v : Nat), s.permitsKeyed m Reg.EST_CAP_SET 0x52E7 = true →
    ∃ t, exec (.capSet m v) s = .next t ∧
      t.est = { s.est with capWait := s.est.capWait ++ [(s.getReg Reg.EST_CAP_SEL % 512, 10 * (v % 2 ^ 32))] } ∧
      Added [⟨Pg.EST, 40⟩] s t ∧ t.getF (Folio.LOCK_KEY Pg.EST) = 0 ∧ RegsBut [Folio.LOCK Pg.EST, Reg.SEQ_COALESCED] s t

/-- CAP_SET (R215), case `denied`. -/
def capSet_denied : Prop :=
  ∀ (s : State) (m v : Nat), s.permits m Reg.EST_CAP_SET = true → s.keyOk m Pg.EST 0x52E7 = false →
    ∃ t, exec (.capSet m v) s = .next t ∧ t.est = s.est ∧ t.getF (Folio.LOCK_KEY Pg.EST) = 0 ∧ Added [Ev.EST_CAP_SET_DENIED] s t ∧
      RegsBut [Folio.LOCK Pg.EST, Reg.SYS_ACCESS_ERR_ADDR, Reg.SYS_ACCESS_ERR, Reg.SEQ_COALESCED] s t

/-- ANCHOR_REQ (R219). -/
def anchorReq : Prop :=
  ∀ (s : State) (m : Nat), s.permits m Reg.EST_CTL = true →
    ∃ t, exec (.anchorReq m) s = .next t ∧ t.est = s.est ∧ t.prof = s.prof ∧ Added [⟨Pg.EST, 41⟩] s t ∧ RegsBut [Reg.SEQ_COALESCED] s t

/-- ANCHOR_CANCEL (R219). -/
def anchorCancel : Prop :=
  ∀ (s : State) (m : Nat), s.permits m Reg.EST_CTL = true →
    ∃ t, exec (.anchorCancel m) s = .next t ∧ t.est = s.est ∧ t.prof = s.prof ∧ Added [⟨Pg.EST, 42⟩] s t ∧ RegsBut [Reg.SEQ_COALESCED] s t

/-- ANCHOR_RAMP_TIMEOUT (R219). -/
def anchorRampTimeout : Prop :=
  ∀ (s : State), s.live = true → s.getF Fld.EST_STATE_ANCHOR = 1 →
    ∃ t, exec .anchorRampTimeout s = .next t ∧ t.getF Fld.EST_STATE_ANCHOR = 3 ∧ t.getReg Reg.EST_ANCHOR_RESULT = 5 ∧ t.prof = { s.prof with anchor := false } ∧
      (s.flag Fld.PROF_STATE_PENDING = true → t.getReg Reg.PROF_TARGET = s.getReg Reg.PROF_PENDING_TARGET) ∧ Added [Ev.EST_ANCHOR_FAIL] s t ∧
      RegsBut [Fld.EST_STATE_ANCHOR.addr, Reg.EST_ANCHOR_RESULT, Reg.PROF_TARGET, Reg.PROF_PENDING_TARGET, Fld.PROF_STATE_PENDING.addr, Reg.SEQ_COALESCED] s t

/-- NO_ANCHOR (R218). -/
def noAnchor : Prop :=
  ∀ (s : State), s.live = true → s.flag Fld.EST_WARN_NO_ANCHOR = false → s.est.anchorH + 259200 ≤ s.hours →
    ∃ t, exec .noAnchor s = .next t ∧ t.flag Fld.EST_WARN_NO_ANCHOR = true ∧ Added [Ev.EST_NO_ANCHOR] s t ∧
      RegsBut [Fld.EST_WARN_NO_ANCHOR.addr, Reg.SEQ_COALESCED] s t

/-- CELL_VIEW_WRITE (R223). -/
def cellViewWrite : Prop :=
  ∀ (s : State) (m v : Nat), s.permits m Reg.CELL_VIEW = true →
    ∃ t, exec (.cellViewWrite m v) s = .next t ∧ t.getReg Reg.CELL_VIEW = v % 2 ∧ t.getReg (Folio.STATUS Pg.CELL) = v % 2 ∧
      (v % 2 = 1 → t.est = { s.est with held := none, heldNs := s.localNs } ∧ Added [⟨Pg.CELL, 40⟩] s t) ∧
      (v % 2 = 0 → t.est = { s.est with held := none }) ∧ (v % 2 = 0 → Added [] s t) ∧ RegsBut [Reg.SEQ_COALESCED, Reg.CELL_VIEW, Folio.STATUS Pg.CELL] s t

/-- HOLD_EXPIRED (R223). -/
def holdExpired : Prop :=
  ∀ (s : State), s.live = true → s.getReg Reg.CELL_VIEW % 2 = 1 →
    ∃ t, exec .holdExpired s = .next t ∧ t.getReg Reg.CELL_VIEW = 0 ∧ t.est = { s.est with held := none } ∧ Added [Ev.CELL_HOLD_EXPIRED] s t ∧
      RegsBut [Reg.CELL_VIEW, Folio.STATUS Pg.CELL, Reg.SEQ_COALESCED] s t

/-- ETH_LINK_CHANGE (R469). -/
def ethLinkChange : Prop :=
  ∀ (s : State) (p sp : Nat) (k : Bool), s.live = true → p < 2 → s.flag (Fld.ETH_PORT_STATUS_LINK p) = false → s.flag (Fld.ETH_PORT_CTL_ENABLE p) = true → s.flag Fld.CLK_MON_ETH = false → s.advertised p sp = true →
    ∃ t, exec (.ethLinkChange p true sp k) s = .next t ∧ t.flag (Fld.ETH_PORT_STATUS_LINK p) = true ∧ t.getF (Fld.ETH_PORT_STATUS_SPEED p) = sp ∧
      t.flag (Fld.ETH_PORT_STATUS_MASTER p) = (k && sp == 2) ∧ Added [Ev.ETH_LINK_UP p] s t ∧ RegsBut [Reg.ETH_PORT_STATUS p, Folio.STATUS (Pg.ETH0 + p), Reg.SEQ_COALESCED] s t

/-- ETH_LINK_CHANGE (R469), case `down`. -/
def ethLinkChange_down : Prop :=
  ∀ (s : State) (p sp : Nat) (k : Bool), s.live = true → p < 2 → s.flag (Fld.ETH_PORT_STATUS_LINK p) = true →
    ∃ t, exec (.ethLinkChange p false sp k) s = .next t ∧ t.flag (Fld.ETH_PORT_STATUS_LINK p) = false ∧ t.getF (Fld.ETH_PORT_STATUS_SPEED p) = 0 ∧
      Added [Ev.ETH_LINK_DOWN p] s t ∧ RegsBut [Reg.ETH_PORT_STATUS p, Folio.STATUS (Pg.ETH0 + p), Reg.SEQ_COALESCED] s t

/-- ETH_RX_FRAME (R470). -/
def ethRxFrame : Prop :=
  ∀ (s : State) (p : Nat) (f : EthFrame), s.live = true → p < 2 → s.flag (Fld.ETH_PORT_STATUS_LINK p) = true → f.fcsOk = true → f.dst = s.macAddr → f.vlan = none → s.vlan = 0 →
      handled f = false → f.etherType ≠ 0x8808 → f.payload.length ≤ 1500 → s.getReg (Reg.ETH_RX_HEAD p) ≠ s.getReg (Reg.ETH_RX_TAIL p) →
      bitOf (s.memWord (s.getReg (Reg.ETH_RX_BASE p) + 16 * s.getReg (Reg.ETH_RX_HEAD p) + 4)) 16 = true →
    ∃ t, exec (.ethRxFrame p f) s = .next t ∧ Added [Ev.ETH_RX_NEW p] s t ∧ t.sent = s.sent ∧
      t.getReg (Reg.ETH_RX_HEAD p) = ringNext (s.getReg (Reg.ETH_RX_SIZE p)) (s.getReg (Reg.ETH_RX_HEAD p)) % 2 ^ 32 ∧
      RegsBut [Reg.ETH_RX_HEAD p, Reg.ETH_FRAMES_RX p, Reg.SEQ_COALESCED] s t

/-- ETH_RX_FRAME (R470), case `noDesc`. -/
def ethRxFrame_noDesc : Prop :=
  ∀ (s : State) (p : Nat) (f : EthFrame), s.live = true → p < 2 → s.flag (Fld.ETH_PORT_STATUS_LINK p) = true → f.fcsOk = true → f.dst = s.macAddr → f.vlan = none → s.vlan = 0 →
      handled f = false → f.etherType ≠ 0x8808 → f.payload.length ≤ 1500 → s.getReg (Reg.ETH_RX_HEAD p) = s.getReg (Reg.ETH_RX_TAIL p) →
    ∃ t, exec (.ethRxFrame p f) s = .next t ∧ Added [Ev.ETH_RX_NO_DESC p] s t ∧ MemSame s t ∧
      t.getReg (Reg.ETH_RX_NO_DESC p) = min (2 ^ 32 - 1) (s.getReg (Reg.ETH_RX_NO_DESC p) + 1) ∧ RegsBut [Reg.ETH_RX_NO_DESC p, Reg.ETH_FRAMES_RX p, Reg.SEQ_COALESCED] s t

/-- ETH_RX_FRAME (R470), case `bad`. -/
def ethRxFrame_bad : Prop :=
  ∀ (s : State) (p : Nat) (f : EthFrame), s.live = true → p < 2 → s.flag (Fld.ETH_PORT_STATUS_LINK p) = true → f.fcsOk = false →
    ∃ t, exec (.ethRxFrame p f) s = .next t ∧ t = { s with regs := t.regs, comp := t.comp } ∧ t.comp.waiting = s.comp.waiting ∧ 
      t.getReg (Reg.ETH_FCS_ERR p) = min (2 ^ 32 - 1) (s.getReg (Reg.ETH_FCS_ERR p) + 1) ∧ RegsBut [Reg.ETH_FCS_ERR p] s t

/-- PLANT_DATAGRAM (R472). -/
def plantDatagram : Prop :=
  ∀ (s : State) (p : Nat) (f : EthFrame) (key pl : List Nat) (fn c : Nat), s.hasIp p = true → f.fcsOk = true → s.accessKey 1 = some key → fn = 1 ∨ fn = 4 → pl.length ≤ 64 → pl.headD 0 ≠ 0x10 → c < 2 ^ 32 →
      ((ipPart f.payload).2.2.drop 8).map (fun x => x % 256) = datagram key fn 5 c pl → datagramOk key (datagram key fn 5 c pl) = true →
      (∀ e ∈ s.eth.seen, e.1 = (ipPart f.payload).2.1 → e.2 < c) → s.getReg (Reg.ETH_RX_HEAD p) = s.getReg (Reg.ETH_RX_TAIL p) →
    ∃ t, exec (.plantDatagram p f) s = .next t ∧ t.eth.seen = ((ipPart f.payload).2.1, c) :: s.eth.seen.filter (fun e => e.1 != (ipPart f.payload).2.1) ∧
      Added [Ev.ETH_RX_NO_DESC p] s t ∧ MemSame s t ∧
      RegsBut [Reg.ETH_RX_NO_DESC p, Reg.ETH_FRAMES_RX p, Reg.SEQ_COALESCED] s t

/-- PLANT_DATAGRAM (R472), case `refused`. -/
def plantDatagram_refused : Prop :=
  ∀ (s : State) (p : Nat) (f : EthFrame), s.hasIp p = true → f.fcsOk = true → (s.accessKey 1 = none ∨ s.accessKey 1 = some [4] ∧ datagramOk [4] (((ipPart f.payload).2.2.drop 8).map (fun x => x % 256)) = false) →
    ∃ t, exec (.plantDatagram p f) s = .next t ∧ t.getReg (Reg.ETH_AUTH_FAIL p) = min (2 ^ 32 - 1) (s.getReg (Reg.ETH_AUTH_FAIL p) + 1) ∧
      Added [Ev.ETH_AUTH_FAIL p] s t ∧ RegsBut [Reg.ETH_AUTH_FAIL p, Reg.SEQ_COALESCED] s t ∧ t.eth = s.eth

/-- ARP_REQUEST (R469). -/
def arpRequest : Prop :=
  ∀ (s : State) (p ip h l : Nat), s.hasIp p = true →
    ∃ t, exec (.arpRequest p (s.getReg (Reg.ETH_IPV4 p)) ip h l) s = .next t ∧ t.sent = ⟨.eth p, 0x0806, [4, s.vlan, s.macAddr, s.getReg (Reg.ETH_IPV4 p), h * 2 ^ 32 + l, ip]⟩ :: s.sent ∧
      RegsBut [Reg.ETH_FRAMES_TX p] s t ∧ Added [] s t

/-- ARP_REQUEST (R469), case `other`. -/
def arpRequest_other : Prop :=
  ∀ (s : State) (p ip q h l : Nat), s.hasIp p = false ∨ ip ≠ s.getReg (Reg.ETH_IPV4 p) →
    ∃ t, exec (.arpRequest p ip q h l) s = .next t ∧ t = s

/-- ICMP_ECHO (R469). -/
def icmpEcho : Prop :=
  ∀ (s : State) (p ip : Nat) (d : List Nat), s.hasIp p = true →
    ∃ t, exec (.icmpEcho p ip d) s = .next t ∧ t.sent = ⟨.eth p, 0x0800, 4 :: s.vlan :: ip :: d⟩ :: s.sent ∧ RegsBut [Reg.ETH_FRAMES_TX p] s t ∧ Added [] s t

/-- TX_TAIL_WRITE (R473). -/
def txTailWrite : Prop :=
  ∀ (s : State) (p m v : Nat), s.permits m (Reg.ETH_TX_TAIL p) = true → p < 2 → bitOf (s.memWord (s.getReg (Reg.ETH_TX_BASE p) + 16 * s.getReg (Reg.ETH_TX_HEAD p) + 4)) 17 = false →
    ∃ t, exec (.txTailWrite p m v) s = .next t ∧ t = s.setReg (Reg.ETH_TX_TAIL p) (v % 4096)

/-- TX_TAIL_WRITE (R473), case `late`. -/
def txTailWrite_late : Prop :=
  ∀ (s : State) (p m v : Nat), s.permits m (Reg.ETH_TX_TAIL p) = true → p < 2 → s.getReg (Reg.ETH_TX_HEAD p) = 0 → s.headMark p = 0 → s.eth.head.length = 2 → s.getReg (Reg.ETH_TX_SIZE p) ≤ 4096 →
      v % 4096 = 1 → s.getReg (Reg.ETH_TX_SIZE p) ≠ 1 → s.getReg (Reg.ETH_TX_SIZE p) ≠ 0 → isRam (s.getReg (Reg.ETH_TX_BASE p) + 4) = true → s.memWord (s.getReg (Reg.ETH_TX_BASE p) + 4) = 0x70040 →
      s.future (s.memWord (s.getReg (Reg.ETH_TX_BASE p) + 8)) = false →
    ∃ t, exec (.txTailWrite p m v) s = .next t ∧ t.getReg (Reg.ETH_TX_HEAD p) = 1 ∧ Added [Ev.ETH_TX_DONE p] s t ∧ t.sent = s.sent ∧
      (∀ b, b < s.getReg (Reg.ETH_TX_BASE p) + 4 ∨ s.getReg (Reg.ETH_TX_BASE p) + 4 + 4 ≤ b → t.getByte b = s.getByte b) ∧
      RegsBut [Reg.ETH_TX_HEAD p, Reg.ETH_TX_TAIL p, Reg.TIME_LAUNCH_LATE, Reg.SEQ_COALESCED] s t

/-- RX_TAIL_WRITE (R473). -/
def rxTailWrite : Prop :=
  ∀ (s : State) (p m v : Nat), s.permits m (Reg.ETH_RX_TAIL p) = true →
    ∃ t, exec (.rxTailWrite p m v) s = .next t ∧ t = { s with regs := t.regs, comp := t.comp } ∧ t.comp.waiting = s.comp.waiting ∧ 
      t.getReg (Reg.ETH_RX_TAIL p) = v % 4096 ∧ RegsBut [Reg.ETH_RX_TAIL p] s t

/-- ETH_LAUNCH_DUE (R438). -/
def ethLaunchDue : Prop :=
  ∀ (s : State) (p d : Nat), s.live = true → p < 2 → s.txHead p = some d → bitOf (s.memWord (d + 4)) 17 = true → s.headMark p = 0 → s.future (s.memWord (d + 8)) = false → s.sinceLaunch (s.memWord (d + 8)) ≤ 4 →
    ∃ t, exec (.ethLaunchDue p) s = .next t ∧ t = s.setMark p 1

/-- ETH_TX_DONE (R473). -/
def ethTxDone : Prop :=
  ∀ (s : State) (p f d : Nat), s.live = true → p < 2 → s.txHead p = some d → isRam (d + 4) = true → s.flag (Fld.ETH_PORT_STATUS_LINK p) = true → s.vlan = 0 → s.memWord (d + 4) = 0x110040 → s.getReg (Reg.ETH_TX_TAIL p) = 1 → s.getReg (Reg.ETH_TX_HEAD p) = 0 → s.getReg (Reg.ETH_TX_SIZE p) ≠ 1 → s.getReg (Reg.ETH_TX_SIZE p) ≠ 0 → s.getReg (Reg.ETH_TX_SIZE p) ≤ 4096 →
    ∃ t, exec (.ethTxDone p f) s = .next t ∧ t.sent = ⟨.eth p, 0x01, readBytes s.ram (s.memWord d) 64⟩ :: s.sent ∧ t.getReg (Reg.ETH_TX_HEAD p) = 1 ∧ Added [Ev.ETH_TX_DONE p] s t ∧
      bitOf (t.memWord (d + 4)) 16 = false ∧ bitOf (t.memWord (d + 4)) 22 = true ∧ (∀ b, b < d + 4 ∨ d + 4 + 4 ≤ b → t.getByte b = s.getByte b) ∧
      RegsBut [Reg.ETH_TX_HEAD p, Reg.ETH_FRAMES_TX p, Reg.SEQ_COALESCED] s t

/-- ETH_TX_DONE (R473), case `none`. -/
def ethTx_none : Prop :=
  ∀ (s : State) (p f : Nat), s.txHead p = none →
    ∃ t, exec (.ethTxDone p f) s = .next t ∧ t = s

/-- MAC_AGE (R470). -/
def macAge : Prop :=
  ∀ (s : State) (m : Nat), s.live = true →
    ∃ t, exec (.macAge m) s = .next t ∧ t = { s with eth := { s.eth with macs := s.eth.macs.filter (fun e => e.1 != m || decide (s.localNs < e.2.2 + 300000000000)) } }

/-- PLNK_FRAME (R476). -/
def plnkFrame : Prop :=
  ∀ (s : State) (f : PlnkFrame), s.plnkRx = true → f.fcsOk = true → f.edition = s.getReg Reg.PAIR_EDITION → f.frag + 1 < f.frags →
      (f.frag = 0 ∧ s.eth.frags = []) ∨ s.eth.frags = [⟨f.type, f.msg, f.frag⟩] →
    ∃ t, exec (.plnkFrame f) s = .next t ∧ t.eth = { s.eth with plnkNs := s.localNs, frags := [⟨f.type, f.msg, f.frag + 1⟩] } ∧
      t.getReg Reg.PLNK_FRAMES_RX = min (2 ^ 32 - 1) (s.getReg Reg.PLNK_FRAMES_RX + 1) ∧ RegsBut [Reg.PLNK_FRAMES_RX] s t ∧ Added [] s t

/-- PLNK_FRAME (R476), case `gap`. -/
def plnkFrame_gap : Prop :=
  ∀ (s : State) (f : PlnkFrame), s.plnkRx = true → f.fcsOk = true → f.edition = s.getReg Reg.PAIR_EDITION → f.type = 2 → f.frag ≠ 0 → s.eth.frags = [⟨2, f.msg, 1⟩] → f.frag ≠ 1 →
    ∃ t, exec (.plnkFrame f) s = .next t ∧ t.eth = { s.eth with plnkNs := s.localNs, frags := [] } ∧
      Added (if s.getReg Reg.PLNK_SEQ_GAPS = 0 then [Ev.PLNK_SEQ_GAP, Ev.PLNK_MIRROR_DROP] else [Ev.PLNK_MIRROR_DROP]) s t ∧
      t.getReg Reg.PLNK_MIRROR_DROP = min (2 ^ 32 - 1) (s.getReg Reg.PLNK_MIRROR_DROP + 1) ∧
      RegsBut [Reg.PLNK_FRAMES_RX, Reg.PLNK_SEQ_GAPS, Reg.PLNK_MIRROR_DROP, Reg.SEQ_COALESCED] s t

/-- PLNK_FRAME (R476), case `stale`. -/
def plnkFrame_stale : Prop :=
  ∀ (s : State) (f : PlnkFrame), s.plnkRx = true → f.fcsOk = true → f.edition < s.getReg Reg.PAIR_EDITION → f.type ≠ 1 → f.type ≠ 0x0B →
    ∃ t, exec (.plnkFrame f) s = .next t ∧ t.getReg Reg.PLNK_STALE = min (2 ^ 32 - 1) (s.getReg Reg.PLNK_STALE + 1) ∧ t.eth = { s.eth with plnkNs := s.localNs } ∧
      RegsBut [Reg.PLNK_STALE, Reg.PLNK_FRAMES_RX] s t

/-- PLNK_LINK_DOWN (R477). -/
def plnkLinkDown : Prop :=
  ∀ (s : State), s.paired = true → s.flag Fld.PLNK_LINK_UP = true → s.pstate ≠ Ps.holder →
    ∃ t, exec (.plnkLinkDown true) s = .next t ∧ t.flag Fld.PLNK_LINK_UP = false ∧ t.waits Ev.PLNK_LINK_DOWN = true ∧ t.getF Fld.PAIR_HB_LINK = 2 ∧
      (s.getF Fld.PAIR_HB_PULSE = 1 → s.standby = true → s.flag Fld.PAIR_STATE_BLIND = false → t.flag Fld.PAIR_STATE_BLIND = true ∧ t.waits Ev.PAIR_BLIND = true) ∧
      RegsBut [Reg.TIME_SYNC_STATE, Reg.PAIR_STATE, Reg.PAIR_HB, Reg.PLNK_LINK, Reg.CLK_ROOT_PPB, Folio.STATUS Pg.TIME, Reg.TIME_INCR_LO, Reg.TIME_INCR_HI, Reg.SEQ_COALESCED] s t

/-- PLNK_LINK_UP (R477). -/
def plnkLinkUp : Prop :=
  ∀ (s : State), s.paired = true → s.flag Fld.PLNK_LINK_ENABLE = true → s.flag Fld.PLNK_LINK_UP = false → s.flag Fld.CLK_MON_ETH = false → 3 ≤ s.pairU.linkGood →
    ∃ t, exec .plnkLinkUp s = .next t ∧ t.flag Fld.PLNK_LINK_UP = true ∧ t.getF Fld.PAIR_HB_LINK = 1 ∧ t.pairU = { s.pairU with linkUpNs := s.localNs } ∧
      Added (if s.getF Fld.PAIR_HB_LINK = 2 then [Ev.PLNK_LINK_UP, Ev.PAIR_HB_PATH_BACK] else [Ev.PLNK_LINK_UP]) s t ∧
      RegsBut [Reg.PAIR_HB, Folio.STATUS Pg.PLNK, Reg.PLNK_LINK, Reg.SEQ_COALESCED] s t

/-- CLK_MON_WINDOW (R66). -/
def clkMonWindow : Prop :=
  ∀ (s : State) (c n : Nat), s.live = true → c < 9 → c ≠ 6 → 200 * ((n : Int) - nominalCount c).natAbs ≤ nominalCount c →
    ∃ t, exec (.clkMonWindow c n) s = .next t ∧ t.aux = { s.aux with badClocks := s.aux.badClocks.filter (fun x => x != c) } ∧
      (s.getReg Reg.CLK_FREQ_SEL = c → t.getReg Reg.CLK_FREQ_MEAS = 10 * n) ∧ RegsBut [Reg.CLK_FREQ_MEAS] s t ∧ Added [] s t

/-- CLK_MON_WINDOW (R66), case `reset`. -/
def clkMonWindow_reset : Prop :=
  ∀ (s : State) (c n : Nat), s.live = true → c < 9 → c ≠ 6 → nominalCount c < 200 * ((n : Int) - nominalCount c).natAbs → c ∈ s.aux.badClocks →
    ∃ t, exec (.clkMonWindow c n) s = .next t ∧ t.phase = .held ∧ ⟨.pin, 0x00, []⟩ ∈ t.sent ∧ t.getF Fld.SYS_RESET_CAUSE_CAUSE = 4

/-- CLK_MON_WINDOW (R66), case `first`. -/
def clkMonWindow_first : Prop :=
  ∀ (s : State) (c n : Nat), s.live = true → c < 9 → s.flag Fld.CLK_MON_ETH = false → nominalCount c < 200 * ((n : Int) - nominalCount c).natAbs → c ∉ s.aux.badClocks →
    ∃ t, exec (.clkMonWindow c n) s = .next t ∧ c ∈ t.aux.badClocks ∧ t.phase = s.phase ∧ RegsBut [Reg.CLK_FREQ_MEAS] s t ∧ Added [] s t

/-- CLK_MON_WINDOW (R66), case `eth`. -/
def clkMonWindow_eth : Prop :=
  ∀ (s : State) (n : Nat), s.live = true → s.flag Fld.CLK_MON_ETH = false → nominalCount 6 < 200 * ((n : Int) - nominalCount 6).natAbs → 6 ∈ s.aux.badClocks → s.pstate ≠ Ps.holder →
    ∃ t, exec (.clkMonWindow 6 n) s = .next t ∧ t.waits Ev.CLK_CLK_FAULT = true ∧ t.flag Fld.CLK_MON_ETH = true ∧ t.phase = s.phase ∧ t.flag (Fld.ETH_PORT_STATUS_LINK 0) = false ∧
      t.flag (Fld.ETH_PORT_STATUS_LINK 1) = false ∧
      RegsBut [Reg.CLK_MON, Reg.PAIR_HB, Reg.PAIR_STATE, Reg.TIME_SYNC_STATE, Reg.ETH_PORT_STATUS 0, Reg.ETH_PORT_STATUS 1, Reg.PLNK_LINK, Reg.CLK_ROOT_PPB, Folio.STATUS Pg.TIME, Reg.TIME_INCR_LO, Reg.TIME_INCR_HI, Reg.SEQ_COALESCED] s t

/-- LOOP_CFG_WRITE (R253). -/
def loopCfgWrite : Prop :=
  ∀ (s : State) (m : Nat) (r : Bool) (v : Nat), s.permits m (if r then Reg.LOOP_SEL_ROUTE else Reg.LOOP_SEL_CFG) = true → s.loops.length = 8 →
    s.cfgCheck (s.loops.set s.loopSel (s.cfgWritten r v)) s.loopSel = 0 →
    ∃ t, exec (.loopCfgWrite m r v) s = .next t ∧ t.loops = s.loops.set s.loopSel (s.cfgWritten r v) ∧ (s.cfgWritten r v).state = 0 ∧
      t.getReg Reg.LOOP_CFG_ERR = s.getReg Reg.LOOP_CFG_ERR ∧
      RegsBut [Reg.LOOP_SLOT_MAP, Reg.DRV_PWM_STATUS, Reg.THM_OUT_VALVE, Reg.THM_OUT_PUMP, Reg.THM_OUT_FAN_A, Reg.THM_OUT_FAN_B, Reg.THM_OUT_HEATER, Reg.THM_DRIVER, Reg.SEQ_COALESCED] s t

/-- LOOP_CFG_WRITE (R253), case `refused`. -/
def loopCfgWrite_refused : Prop :=
  ∀ (s : State) (m : Nat) (r : Bool) (v : Nat), s.permits m (if r then Reg.LOOP_SEL_ROUTE else Reg.LOOP_SEL_CFG) = true →
    s.cfgCheck (s.loops.set s.loopSel (s.cfgWritten r v)) s.loopSel ≠ 0 →
    ∃ t, exec (.loopCfgWrite m r v) s = .next t ∧ t.loops = s.loops ∧ t.getF Fld.LOOP_CFG_ERR_SLOT = s.loopSel ∧
      t.getF Fld.LOOP_CFG_ERR_CODE = s.cfgCheck (s.loops.set s.loopSel (s.cfgWritten r v)) s.loopSel ∧ Added [Ev.LOOP_CFG_REFUSED] s t ∧
      RegsBut [Reg.LOOP_CFG_ERR, Reg.SEQ_COALESCED] s t

/-- LOOP_MODE_WRITE (R260). -/
def loopModeWrite : Prop :=
  ∀ (s : State) (m : Nat) (b : Bool), s.permits m Reg.LOOP_SEL_CTL = true → s.loops.length = 8 →
    ∃ t, exec (.loopModeWrite m b) s = .next t ∧ (s.loopSel < 2 → t = s) ∧
      (2 ≤ s.loopSel → t.loops = s.loops.set s.loopSel { s.slot s.loopSel with manual := b }) ∧ Added [] s t

/-- LOOP_SWAP (R264). -/
def loopSwap : Prop :=
  ∀ (s : State) (m : Nat), s.permits m Reg.LOOP_SEL_CTL = true → s.loops.length = 8 →
    ∃ t, exec (.loopSwap m none) s = .next t ∧
      ((s.slot s.loopSel).swapPend = false → (s.slot s.loopSel).state ≠ 6 →
        t.loops = s.loops.set s.loopSel { s.slot s.loopSel with swapPend := true } ∧ Added [] s t) ∧
      ((s.slot s.loopSel).swapPend = true → t.loops = s.loops ∧ t.getF Fld.LOOP_CFG_ERR_CODE = 8 ∧ Added [Ev.LOOP_CFG_REFUSED] s t) ∧
      ((s.slot s.loopSel).swapPend = false → (s.slot s.loopSel).state = 6 → t.loops = s.loops ∧ Added [Ev.LOOP_SWAP_REFUSED] s t) ∧
      RegsBut [Reg.LOOP_SLOT_MAP, Reg.LOOP_CFG_ERR, Reg.SEQ_COALESCED] s t

/-- LOOP_SWAP (R264), case `multi`. -/
def loopSwap_multi : Prop :=
  ∀ (s : State) (m k : Nat), s.permits m Reg.LOOP_SWAP_MULTI = true → s.loops.length = 8 → (∀ x ∈ s.loops, x.swapPend = false ∧ x.state ≠ 6) →
    ∃ t, exec (.loopSwap m (some k)) s = .next t ∧ ((List.range 8).all fun i => (t.slot i).swapPend == bitOf k i) = true ∧ Added [] s t ∧
      RegsBut [Reg.LOOP_SLOT_MAP] s t

/-- LOOP_RESUME (R268). -/
def loopResume : Prop :=
  ∀ (s : State) (m : Nat), s.permits m Reg.LOOP_SEL_CTL = true → s.loops.length = 8 →
    ∃ t, exec (.loopResume m) s = .next t ∧
      (2 ≤ s.loopSel ∧ ((s.slot s.loopSel).state = 4 ∨ (s.slot s.loopSel).state = 5) ∧ (s.slot s.loopSel).stale = false ∧ (s.slot s.loopSel).frozen = false →
        t.waits Ev.LOOP_RESUMED = true ∧ (t.slot s.loopSel).state = 1 ∧ (t.slot s.loopSel).lost = false) ∧
      (s.loopSel < 2 ∨ ((s.slot s.loopSel).state ≠ 4 ∧ (s.slot s.loopSel).state ≠ 5) ∨ (s.slot s.loopSel).stale = true ∨ (s.slot s.loopSel).frozen = true →
        t.loops = s.loops ∧ Added [Ev.LOOP_RESUME_REFUSED] s t) ∧
      RegsBut [Reg.LOOP_SLOT_MAP, Reg.THM_OUT_VALVE, Reg.THM_OUT_PUMP, Reg.THM_OUT_FAN_A, Reg.THM_OUT_FAN_B, Reg.THM_OUT_HEATER, Reg.THM_DRIVER, Reg.SEQ_COALESCED] s t

/-- THERMAL_SLOT_SAMPLE (R254). -/
def thermalSlotSample : Prop :=
  ∀ (s : State) (i : Nat), s.live = true → 2 ≤ i → i < s.loops.length → (s.slot i).kind = 3 → (s.slot i).restart = false → (s.slot i).swapPend = false → (s.slot i).manual = true →
    ∃ t, exec (.thermalSlotSample i) s = .next t ∧ (t.slot i).out = sInt 24 (s.slot i).manOut ∧ (t.slot i).state = 2 ∧
      (t.slot i).samples = ((s.slot i).samples + 1) % 2 ^ 32 ∧
      RegsBut [Reg.LOOP_SLOT_MAP, Reg.THM_OUT_VALVE, Reg.THM_OUT_PUMP, Reg.THM_OUT_FAN_A, Reg.THM_OUT_FAN_B, Reg.THM_OUT_HEATER, Reg.THM_DRIVER, Reg.SEQ_COALESCED] s t

/-- FEEDBACK_STALE (R266). -/
def feedbackStale : Prop :=
  ∀ (s : State) (i : Nat), s.live = true → i < s.loops.length → (s.slot i).kind ≠ 0 → (s.slot i).state = 1 ∨ (s.slot i).state = 3 →
      s.arrivedNow (srcKey (if i < 2 then 0xFF else (s.slot i).src)) = false →
    ∃ t, exec (.feedbackStale i) s = .next t ∧ t.waits Ev.LOOP_FEEDBACK_LOST = true ∧
      (2 ≤ i → t.waits Ev.LOOP_THERMAL_HOLD = true ∧ (t.slot i).state = 4 ∧ (t.slot i).lost = true ∧ (t.slot i).stale = true ∧
        (t.slot i).holdEnd = s.localNs + 10000000000) ∧
      (i < 2 → s.power ≠ 0 → s.causeOn 0x0B = false → t.waits Ev.SAFE_CAUSE_SET = true)

/-- FEEDBACK_STALE (R266), case `arrived`. -/
def feedbackStale_arrived : Prop :=
  ∀ (s : State) (i : Nat), s.arrivedNow (srcKey (if i < 2 then 0xFF else (s.slot i).src)) = true →
    ∃ t, exec (.feedbackStale i) s = .next t ∧ t = s

/-- THERMAL_HOLD_EXPIRY (R268). -/
def thermalHoldExpiry : Prop :=
  ∀ (s : State) (i : Nat), s.live = true → 2 ≤ i → i < s.loops.length → (s.slot i).state = 4 →
    ∃ t, exec (.thermalHoldExpiry i) s = .next t ∧ (t.slot i).state = 5 ∧ (t.slot i).out = sInt 24 (s.slot i).fallback ∧ t.waits Ev.LOOP_FALLBACK = true ∧
      RegsBut [Reg.LOOP_SLOT_MAP, Reg.THM_OUT_VALVE, Reg.THM_OUT_PUMP, Reg.THM_OUT_FAN_A, Reg.THM_OUT_FAN_B, Reg.THM_OUT_HEATER, Reg.THM_DRIVER, Reg.SEQ_COALESCED] s t

/-- PROFILE_STEP (R270). -/
def profileStep : Prop :=
  ∀ (s : State), s.live = true →
    ∃ t, exec .profileStep s = .next t ∧ t.getReg Reg.PROF_AUTH_HI = toU 32 s.authority.2 ∧ t.getReg Reg.PROF_AUTH_LO = toU 32 s.authority.1 ∧
      (s.baseSource = Src.zero → t.getReg Reg.PROF_REF = 0 ∧ t.getReg Reg.PROF_TARGET_EFF = 0 ∧ t.getF Fld.PROF_STATE_SOURCE = Src.zero) ∧
      RegsBut [Reg.PROF_TARGET_EFF, Reg.PROF_REF, Reg.PROF_REF_RATE, Reg.PROF_REF_ACCEL, Reg.PROF_STATE, Reg.PROF_AUTH_HI, Reg.PROF_AUTH_LO] s t

/-- PROF_TARGET_WRITE (R272). -/
def profTargetWrite : Prop :=
  ∀ (s : State) (m v : Nat), s.permits m Reg.PROF_TARGET = true → s.flag Fld.SAFE_STATE_FS_ACTIVE = false → s.prof.anchor = false →
    ∃ t, exec (.profTargetWrite m v) s = .next t ∧
      t.getReg Reg.PROF_TARGET = toU 32 (clampI (-(s.getReg Reg.MRG_POL_IDIS : Int)) (s.getReg Reg.MRG_POL_ICHG) (sInt 32 v)) ∧
      Added (if clampI (-(s.getReg Reg.MRG_POL_IDIS : Int)) (s.getReg Reg.MRG_POL_ICHG) (sInt 32 v) = sInt 32 v then [] else [Ev.MRG_POLICY_CLAMPED]) s t ∧
      RegsBut [Reg.MRG_CLAMP_ADDR, Reg.MRG_CLAMP_COUNT, Reg.PROF_TARGET, Reg.SEQ_COALESCED] s t

/-- PROF_TARGET_WRITE (R272), case `kept`. -/
def profTargetWrite_kept : Prop :=
  ∀ (s : State) (m v : Nat), s.permits m Reg.PROF_TARGET = true → s.flag Fld.SAFE_STATE_FS_ACTIVE = true ∨ s.prof.anchor = true →
    ∃ t, exec (.profTargetWrite m v) s = .next t ∧ t.getReg Reg.PROF_TARGET = s.getReg Reg.PROF_TARGET ∧
      (s.flag Fld.SAFE_STATE_FS_ACTIVE = true → Added [Ev.PROF_TARGET_IGNORED] s t) ∧
      (s.flag Fld.SAFE_STATE_FS_ACTIVE = false → t.flag Fld.PROF_STATE_PENDING = true ∧ t.waits Ev.PROF_TARGET_KEPT = true) ∧
      RegsBut [Reg.MRG_CLAMP_ADDR, Reg.MRG_CLAMP_COUNT, Reg.PROF_STATE, Reg.PROF_PENDING_TARGET, Reg.SEQ_COALESCED] s t

/-- PROF_LIMIT_WRITE (R270). -/
def profLimitWrite : Prop :=
  ∀ (s : State) (m k v : Nat), s.permits m (profLimReg k) = true →
    ∃ t, exec (.profLimitWrite m k v) s = .next t ∧
      ((profRange k).1 ≤ v ∧ v ≤ (profRange k).2 → t.getReg (profLimReg k) = v ∧ Added [] s t ∧ RegsBut [profLimReg k] s t) ∧
      (v < (profRange k).1 ∨ (profRange k).2 < v → Added [Ev.PROF_LIMIT_IGNORED] s t ∧ RegsBut [Reg.SEQ_COALESCED] s t)

/-- TIN_SAMPLE (R273). -/
def tinSample : Prop :=
  ∀ (s : State) (a b c d : Option Int), s.live = true →
    ∃ t, exec (.tinSample [a, b, c, d]) s = .next t ∧
      (∀ i, i < 4 → bitsOf (s.getReg Reg.THM_TIN_CFG) (2 * i + 1) (2 * i) ∈ [1, 2] → t.getReg (Reg.THM_TIN0 + 4 * i) = (match [a, b, c, d][i]? with | some (some x) => toU 32 x | _ => 0x80000000)) ∧
      (∀ i, i < 4 → bitsOf (s.getReg Reg.THM_TIN_CFG) (2 * i + 1) (2 * i) ∉ [1, 2] → t.getReg (Reg.THM_TIN0 + 4 * i) = 0x80000000) ∧
      RegsBut [Folio.STATUS Pg.THM, Reg.THM_TIN0, Reg.THM_TIN0 + 4, Reg.THM_TIN0 + 8, Reg.THM_TIN0 + 12] s t

/-- TACH_EVAL (R273). -/
def tachEval : Prop :=
  ∀ (s : State) (a b f : Nat), s.live = true →
    ∃ t, exec (.tachEval a b f) s = .next t ∧ 
      (30 * a < 65535000 → t.getReg Reg.THM_TACH_A * 1000 < 30 * a + 1000 ∧ 30 * a < t.getReg Reg.THM_TACH_A * 1000 + 1000) ∧
      (30 * b < 65535000 → t.getReg Reg.THM_TACH_B * 1000 < 30 * b + 1000 ∧ 30 * b < t.getReg Reg.THM_TACH_B * 1000 + 1000) ∧
      (65535000 ≤ 30 * a → t.getReg Reg.THM_TACH_A = 65535) ∧
      (6 * f < 65535 * max 1 ((s.record.map (fun r => r.flowPpl)).getD 1) →
        t.getReg Reg.THM_FLOW * max 1 ((s.record.map (fun r => r.flowPpl)).getD 1) < 6 * f + max 1 ((s.record.map (fun r => r.flowPpl)).getD 1) ∧
        6 * f < (t.getReg Reg.THM_FLOW + 1) * max 1 ((s.record.map (fun r => r.flowPpl)).getD 1)) ∧
      Added [] s t ∧ RegsBut [Reg.THM_TACH_A, Reg.THM_TACH_B, Reg.THM_FLOW, Folio.STATUS Pg.THM] s t

/-- FAN_STALL (R274). -/
def fanStall : Prop :=
  ∀ (s : State) (k : Nat), s.live = true → k < 2 → s.getReg (Reg.THM_TACH_A + 4 * k) < s.getReg Reg.THM_TACH_MIN → 2000 ≤ s.getReg (Reg.THM_OUT_FAN_A + 4 * k) →
    ∃ t, exec (.fanStall k) s = .next t ∧ t.thm = { s.thm with fanStall := true } ∧ Added [Ev.THM_FAN_STALL] s t ∧ bitOf (t.getReg (Folio.STATUS Pg.THM)) 1 = true ∧
      RegsBut [Folio.STATUS Pg.THM, Reg.SEQ_COALESCED] s t

/-- FLOW_LOW (R274). -/
def flowLow : Prop :=
  ∀ (s : State), s.live = true → s.getReg Reg.THM_FLOW < s.getReg Reg.THM_FLOW_MIN → 2000 ≤ s.getReg Reg.THM_OUT_PUMP →
    ∃ t, exec .flowLow s = .next t ∧ t.thm = { s.thm with flowLow := true } ∧ Added [Ev.THM_FLOW_LOW] s t ∧ bitOf (t.getReg (Folio.STATUS Pg.THM)) 1 = true ∧
      RegsBut [Folio.STATUS Pg.THM, Reg.SEQ_COALESCED] s t

/-- VOTED_SAMPLE (R170). -/
def votedSample : Prop :=
  ∀ (s : State) (f : ChanFrame) (v : Int) (b : Bool), s.live = true → s.stopped4 = false → s.curRaw 0 f.curA = some (v, b) → bitOf (s.getF Fld.MEAS_CH_FLAGS_OFFSET_HIGH) 0 = false →
    ∃ t, exec (.votedSample f) s = .next t ∧ sInt 32 (t.getReg Reg.MEAS_CUR_A) = clampI (-1200000) 1200000 (v - s.offsetMa 0) ∧
      (b = true ∨ 1200000 < (v - s.offsetMa 0).natAbs → bitOf (s.getF Fld.MEAS_CH_FLAGS_OVERRANGE) 0 = false → t.waits Ev.MEAS_OVERRANGE = true)

/-- VOTED_SAMPLE (R170), case `scaled`. -/
def votedSample_scaled : Prop :=
  ∀ (s : State) (f : ChanFrame) (r : PlantRecord) (k : Int), s.live = true → s.stopped4 = false → s.record = some r → f.curA.length = 20 → (∀ x ∈ f.curA, x.natAbs ≤ 320000000) →
      0 < r.cur.shuntA → f.curA.sum * ((if r.cur.negA = true then -1 else 1) * (1000000 + r.cur.gainA)) = k * (20000 * r.cur.shuntA : Nat) →
      bitOf (s.getF Fld.MEAS_CH_FLAGS_OFFSET_HIGH) 0 = false →
    ∃ t, exec (.votedSample f) s = .next t ∧ sInt 32 (t.getReg Reg.MEAS_CUR_A) = clampI (-1200000) 1200000 (k - s.offsetMa 0)

/-- VOTED_SAMPLE (R170), case `stopped`. -/
def votedSample_stopped : Prop :=
  ∀ (s : State) (f : ChanFrame), s.stopped4 = true →
    ∃ t, exec (.votedSample f) s = .next t ∧ t = s

/-- VOTED_SAMPLE (R170), case `counted`. -/
def votedSample_counted : Prop :=
  ∀ (s : State) (f : ChanFrame), s.live = true →
    ∃ t, exec (.votedSample f) s = .next t ∧ t.est.recent.head?.map (·.1) = some s.stamp

/-- HV_LOST (R167). -/
def hvLost : Prop :=
  ∀ (s : State), s.live = true → s.meas.hvMissing = 3 → s.meas.hvLost = false →
    ∃ t, exec .hvLost s = .next t ∧ t.waits Ev.MEAS_HV_LOST = true ∧ t.meas.hvLost = true ∧ t.getF Fld.MEAS_IMD_RESULT_STATE = 7 ∧
      RegsBut [Reg.SAFE_CAUSE_HI, Reg.MODE_STATE, Fld.MEAS_IMD_RESULT_STATE.addr, Reg.SEQ_COALESCED] s t

/-- CH_READMITTED (R175). -/
def chReadmitted : Prop :=
  ∀ (s : State) (c : Nat), s.live = true → c < 6 → s.excluded c = true → s.power = 0 → s.flag Fld.VOTE_READMIT_ENABLE = true →
    ((quantChans (c / 3)).filter (fun j => j != c)).all (fun j => !s.excluded j) = true → 100000 * s.getF Fld.VOTE_READMIT_AGREE_S ≤ (s.meas.agree[c]?).getD 0 →
    ∃ t, exec (.chReadmitted c) s = .next t ∧ t.waits Ev.VOTE_CH_READMITTED = true ∧
      RegsBut [Reg.MODE_STATE, Reg.SAFE_CAUSE_LO, Reg.SAFE_CAUSE_HI, Reg.VOTE_CH_STATE, Reg.VOTE_CNT_CUR, Reg.VOTE_CNT_V, Reg.SEQ_COALESCED] s t

/-- OFFSET_CAL_START (R168). -/
def offsetCalStart : Prop :=
  ∀ (s : State), s.live = true → s.cur = Md.survey → s.flag Fld.MODE_STATE_CONTACTORS = false → s.power = 0 →
    ∃ t, exec .offsetCalStart s = .next t ∧ t = { s with meas := { s.meas with calibrating := true, cal := [(0, 0), (0, 0), (0, 0)] } }

/-- OFFSET_CAL_END (R168). -/
def offsetCalEnd : Prop :=
  ∀ (s : State) (ms : List (Nat × Int)) (n m p : Nat) (k x y : Int), s.live = true → s.meas.calibrating = true → s.calTotal ms = [(n, 10 * n * k), (m, x), (p, y)] →
      90000 ≤ n → m < 90000 → p < 90000 → (10 * n * k).natAbs ≤ s.ofsLim * n → -32768 ≤ k → k ≤ 32767 →
    ∃ t, exec (.offsetCalEnd ms) s = .next t ∧ t.getF Fld.MEAS_OFS_AB_OFS_A = (k % 65536).toNat ∧ t.meas = { s.meas with calibrating := false } ∧
      Added [Ev.MEAS_OFFSET_DONE, Ev.MEAS_OFFSET_SKIPPED] s t ∧ bitOf (t.getF Fld.MEAS_CH_FLAGS_OFFSET_HIGH) 0 = false ∧
      RegsBut [Fld.MEAS_OFS_AB_OFS_A.addr, Reg.MEAS_CH_FLAGS, Reg.SEQ_COALESCED] s t

/-- OFFSET_CAL_END (R168), case `high`. -/
def offsetCalEnd_high : Prop :=
  ∀ (s : State) (ms : List (Nat × Int)) (m p n : Nat) (x y z : Int), s.live = true → s.meas.calibrating = true → s.calTotal ms = [(m, x), (p, y), (n, z)] →
      90000 ≤ n → m < 90000 → p < 90000 → s.ofsLim * n < z.natAbs →
    ∃ t, exec (.offsetCalEnd ms) s = .next t ∧ bitOf (t.getF Fld.MEAS_CH_FLAGS_OFFSET_HIGH) 2 = true ∧ t.getReg Reg.MEAS_OFS_C = s.getReg Reg.MEAS_OFS_C ∧
      Added [Ev.MEAS_OFFSET_HIGH, Ev.MEAS_OFFSET_SKIPPED] s t ∧ RegsBut [Reg.MEAS_CH_FLAGS, Reg.SEQ_COALESCED] s t

/-- OFFSET_CAL_END (R168), case `skipped`. -/
def offsetCalEnd_skipped : Prop :=
  ∀ (s : State) (ms : List (Nat × Int)) (l : List (Nat × Int)), s.live = true → s.meas.calibrating = true → s.calTotal ms = l → l ≠ [] → (∀ p ∈ l, p.1 < 90000) →
    ∃ t, exec (.offsetCalEnd ms) s = .next t ∧ t.meas = { s.meas with calibrating := false } ∧ Added [Ev.MEAS_OFFSET_SKIPPED] s t ∧
      RegsBut [Reg.SEQ_COALESCED] s t

/-- IMD_DONE (R178). -/
def imdDone : Prop :=
  ∀ (s : State) (r c l : Nat), s.live = true → s.imdInjects = true → s.getF Fld.MEAS_IMD_RESULT_STATE < 2 → s.meas.loopOpen = false →
    s.getF Fld.MEAS_IMD_LEVELS_WARN_KOHM < min r 20001 → s.getF Fld.MEAS_IMD_LEVELS_ALARM_KOHM < min r 20001 →
    ∃ t, exec (.imdDone r c l) s = .next t ∧ t.getF Fld.MEAS_IMD_RESULT_RISO_KOHM = min r 20001 ∧ t.getF Fld.MEAS_IMD_RESULT_STATE = 1 ∧
      t.getF Fld.MEAS_IMD_DETAIL_CAP_NF = (if 5000 < c then 0xFFFF else c) ∧ t.getF Fld.MEAS_IMD_DETAIL_LOCATION = (if 100 < l then 0xFF else l) ∧
      t.meas = { s.meas with imdAt := some s.localNs } ∧ t.waits Ev.MEAS_IMD_DONE = true ∧
      RegsBut [Reg.MODE_STATE, Reg.SAFE_CAUSE_LO, Reg.SAFE_CAUSE_HI, Reg.MEAS_IMD_RESULT, Reg.MEAS_IMD_DETAIL, Reg.SEQ_COALESCED] s t

/-- IMD_DONE (R178), case `alarm`. -/
def imdDone_alarm : Prop :=
  ∀ (s : State) (r c l : Nat), s.live = true → s.imdInjects = true → s.getF Fld.MEAS_IMD_RESULT_STATE < 3 → r ≤ s.getF Fld.MEAS_IMD_LEVELS_ALARM_KOHM → r ≤ 20000 → s.meas.loopOpen = false →
    ∃ t, exec (.imdDone r c l) s = .next t ∧ t.waits Ev.MEAS_IMD_ALARM = true ∧ (s.causeOn 0x27 = false → t.waits Ev.SAFE_CAUSE_SET = true)

/-- IMD_CONN_FAULT (R178). -/
def imdConnFault : Prop :=
  ∀ (s : State), s.live = true → s.imdForced = none →
    ∃ t, exec .imdConnFault s = .next t ∧ t.getF Fld.MEAS_IMD_RESULT_STATE = 6 ∧ (s.meas.loopOpen = false → t.waits Ev.MEAS_IMD_CONN_FAULT = true) ∧ (s.getF Fld.MEAS_IMD_RESULT_STATE ≠ 6 → t.causeOn 0x27 = false) ∧
      RegsBut [Reg.MODE_STATE, Reg.SAFE_CAUSE_LO, Reg.SAFE_CAUSE_HI, Reg.MEAS_IMD_RESULT, Reg.SEQ_COALESCED] s t

/-- CHASSIS_LOOP_CLOSED (R178). -/
def chassisLoopClosed : Prop :=
  ∀ (s : State), s.live = true → s.getF Fld.MEAS_IMD_RESULT_STATE = 6 →
    ∃ t, exec .chassisLoopClosed s = .next t ∧ t.meas.loopOpen = false ∧
      (s.imdForced = none → t.getF Fld.MEAS_IMD_RESULT_STATE = 0 ∧ t.meas = { s.meas with loopOpen := false, imdCycle := s.meas.imdCycle + 1 }) ∧
      s.imdForced.all (fun f => t.getF Fld.MEAS_IMD_RESULT_STATE == f) = true ∧
      RegsBut [Fld.MEAS_IMD_RESULT_STATE.addr, Reg.SAFE_CAUSE_HI, Reg.MODE_STATE, Reg.SEQ_COALESCED] s t

/-- IMD_START (R183). -/
def imdStart : Prop :=
  ∀ (s : State) (m : Nat), s.permits m Reg.MEAS_IMD_CTL = true → s.imdInjects = true →
    ∃ t, exec (.imdStart m) s = .next t ∧ t = { s with meas := { s.meas with imdCycle := s.meas.imdCycle + 1 } }

/-- IMD_HOLDER_START (R180). -/
def imdHolderStart : Prop :=
  ∀ (s : State), s.live = true → s.meas.imdWait = true → s.imdForced = none →
    ∃ t, exec .imdHolderStart s = .next t ∧ t.getF Fld.MEAS_IMD_RESULT_STATE = 0 ∧
      t.meas = { s.meas with imdWait := false, imdCycle := s.meas.imdCycle + 1 } ∧
      RegsBut [Fld.MEAS_IMD_RESULT_STATE.addr, Reg.SAFE_CAUSE_HI, Reg.MODE_STATE, Reg.SEQ_COALESCED] s t

/-- CHG_CLR (R181). -/
def chgClr : Prop :=
  ∀ (s : State) (m v : Nat), s.permitsKeyed m Reg.MEAS_CHG_CLR 0x1F6A = true → bitOf v 0 = true →
    ∃ t, exec (.chgClr m v) s = .next t ∧ t.get64 Reg.MEAS_CHG_ACC_LO = 0 ∧ t.getReg Reg.MEAS_CHG_GAP = 0 ∧ t.getF (Folio.LOCK_KEY Pg.MEAS) = 0 ∧
      RegsBut [Reg.MEAS_CHG_ACC_LO, Reg.MEAS_CHG_ACC_LO + 4, Reg.MEAS_CHG_GAP, Folio.LOCK Pg.MEAS] s t

/-- CHG_STORE (R181). -/
def chgStore : Prop :=
  ∀ (s : State), s.live = true →
    ∃ t, exec .chgStore s = .next t ∧ (∀ a ∈ [Reg.MEAS_CHG_IN_LO, Reg.MEAS_CHG_IN_HI, Reg.MEAS_CHG_OUT_LO, Reg.MEAS_CHG_OUT_HI], t.mram.regs.get a = s.regs.get a) ∧
      t = { s with mram := t.mram }

/-- MODE_REQUEST (R29). -/
def modeRequest : Prop :=
  ∀ (s : State) (m v : Nat), s.permits m Reg.MODE_REQUEST = true → m ≠ 5 ∨ v % 16 = Md.dormant ∨ v % 16 = Md.survey →
    ∃ t, exec (.modeRequest m v) s = .next t ∧ t.getReg Reg.MODE_REQUEST = v / 256 % 256 * 256 + v % 16 ∧
      Added [⟨Pg.MODE, 32⟩] s t ∧ t.mode = s.mode ∧ RegsBut [Reg.MODE_REQUEST, Reg.SEQ_COALESCED] s t

/-- MODE_REQUEST (R29), case `uart`. -/
def modeRequest_uart : Prop :=
  ∀ (s : State) (v : Nat), s.permits 5 Reg.MODE_REQUEST = true → v % 16 ≠ Md.dormant → v % 16 ≠ Md.survey →
    ∃ t, exec (.modeRequest 5 v) s = .next t ∧ t.getReg Reg.SYS_ACCESS_ERR_ADDR = Reg.MODE_REQUEST ∧
      t.getF Fld.SYS_ACCESS_ERR_MASTER = 5 ∧ t.getF Fld.SYS_ACCESS_ERR_STATUS = St.levelDenied ∧
      Added [] s t ∧ RegsBut [Reg.SYS_ACCESS_ERR_ADDR, Reg.SYS_ACCESS_ERR] s t

/-- TRANS_TIMEOUT (R33). -/
def transTimeout : Prop :=
  ∀ (s : State), s.live = true → s.cur = Md.starting → s.mode.row = 3 → s.power = 1 →
    ∃ t, exec .transTimeout s = .next t ∧ t.waits Ev.MODE_TRANS_TIMEOUT = true ∧ t.waits Ev.MODE_TRANS_ABORTED = true ∧ t.cur ≠ Md.starting

/-- STOP_LIMIT_EXPIRY (R34). -/
def stopLimitExpiry : Prop :=
  ∀ (s : State), s.live = true → s.mode.row = 11 → s.power = 3 → s.getF Fld.DRV_CONT_STEP ≠ 9 → s.below5 = false → s.causeOn 0x17 = false →
    ∃ t, exec .stopLimitExpiry s = .next t ∧ t.waits ⟨Pg.MODE, 34⟩ = true ∧ t.waits Ev.SAFE_CAUSE_SET = true ∧
      (s.pair = false ∨ s.pstate = Ps.holder → s.leavingAssay = false → t.waits Ev.SAFE_FS_START = true ∨ s.flag Fld.SAFE_STATE_FS_ACTIVE = true)

/-- LATCH_CLR (R39). -/
def latchClr : Prop :=
  ∀ (s : State) (m v : Nat), s.permitsKeyed m Reg.MODE_LATCH_CLR 0x3A7D = true → v % 65536 = 0x5C1E → s.latchMayClear = true →
    ∃ t, exec (.latchClr m v) s = .next t ∧ t.getF Fld.MODE_LATCH_STOP_LATCH = 0 ∧ t.getF Fld.MODE_STATE_STOP_LATCH = 0 ∧
      t.getF (Folio.LOCK_KEY Pg.MODE) = 0 ∧ Added [Ev.MODE_STOP_LATCH_CLEARED] s t ∧
      RegsBut [Reg.MODE_LATCH, Reg.MODE_STATE, Folio.LOCK Pg.MODE, Reg.SEQ_COALESCED] s t

/-- LATCH_CLR (R39), case `denied`. -/
def latchClr_denied : Prop :=
  ∀ (s : State) (m v : Nat), s.permits m Reg.MODE_LATCH_CLR = true → s.keyOk m Pg.MODE 0x3A7D = false ∨ v % 65536 ≠ 0x5C1E ∨ s.latchMayClear = false →
    ∃ t, exec (.latchClr m v) s = .next t ∧ Added [Ev.MODE_LATCH_CLR_DENIED] s t ∧
      t.getReg Reg.MODE_LATCH = s.getReg Reg.MODE_LATCH ∧ t.getF (Folio.LOCK_KEY Pg.MODE) = 0 ∧
      RegsBut [Folio.LOCK Pg.MODE, Reg.SYS_ACCESS_ERR_ADDR, Reg.SYS_ACCESS_ERR, Reg.SEQ_COALESCED] s t

/-- WAKE (R40). -/
def wake : Prop :=
  ∀ (s : State) (b : Nat), s.phase = .dormant → b < 8 → b = 7 ∨ bitOf (s.getReg Reg.MODE_WAKE_EN) b = true →
    ∃ t, exec (.wake b) s = .next t ∧ t.phase = .held ∧ t.getF Fld.SYS_RESET_CAUSE_CAUSE = 7 ∧
      t.getF Fld.SYS_RESET_CAUSE_WAKE_SRC = 2 ^ b ∧ t.waits Ev.MODE_WAKE = true ∧ t.record = s.record

/-- WAKE_TIMER_EXPIRY (R41). -/
def wakeTimerExpiry : Prop :=
  ∀ (s : State), s.phase = .dormant → s.getReg Reg.MODE_WAKE_TIMER ≠ 0 → bitOf (s.getReg Reg.MODE_WAKE_EN) 3 = true →
    ∃ t, exec .wakeTimerExpiry s = .next t ∧ t.phase = .held ∧ t.getF Fld.SYS_RESET_CAUSE_CAUSE = 7 ∧ t.getF Fld.SYS_RESET_CAUSE_WAKE_SRC = 8 ∧
      t.waits Ev.MODE_WAKE = true

/-- WAKE_OSC_CHECK (R65). -/
def wakeOscCheck : Prop :=
  ∀ (s : State) (n : Nat), s.live = true → s.aux.oscCheck = true →
    ∃ t, exec (.wakeOscCheck n) s = .next t ∧ t.aux = { s.aux with oscCheck := false } ∧
      (32768 < 100 * ((10 * n : Int) - 32768).natAbs → Added [Ev.CLK_WAKE_OSC_FAULT] s t) ∧
      (¬ 32768 < 100 * ((10 * n : Int) - 32768).natAbs → Added [] s t) ∧ RegsBut [Reg.SEQ_COALESCED] s t

/-- PLL_UNLOCK (R66). -/
def pllUnlock : Prop :=
  ∀ (s : State), s.live = true →
    ∃ t, exec .pllUnlock s = .next t ∧ t.phase = .held ∧ t.getF Fld.SYS_RESET_CAUSE_CAUSE = 4 ∧
      bitsOf (t.mram.regs.get Reg.CLK_LAST_FAULT).toNat Fld.CLK_LAST_FAULT_CODE.hi Fld.CLK_LAST_FAULT_CODE.lo = 1 ∧
      bitsOf (t.mram.regs.get Reg.CLK_LAST_FAULT).toNat Fld.CLK_LAST_FAULT_CLOCK.hi Fld.CLK_LAST_FAULT_CLOCK.lo = 0 ∧ t.aux.faultSeen = true

/-- ROOT_DRIFT (R66). -/
def rootDrift : Prop :=
  ∀ (s : State), s.live = true → s.getReg Reg.CLK_ROOT_PPB ≠ 0x80000000 → s.getReg Reg.CLK_DRIFT_LIM < (sInt 32 (s.getReg Reg.CLK_ROOT_PPB)).natAbs →
    ∃ t, exec .rootDrift s = .next t ∧ Added [Ev.CLK_ROOT_DRIFT] s t ∧ RegsBut [Reg.SEQ_COALESCED] s t

/-- WDG_KICK (R67). -/
def wdgKick : Prop :=
  ∀ (s : State) (m v : Nat), s.live = true → m < 2 → v % 65536 = (if s.cyc.kick = 0x55AA then 0xAA55 else 0x55AA) →
    ∃ t, exec (.wdgKick m v) s = .next t ∧ t.cyc.kick = v % 65536 ∧ t.aux.kickNs = s.localNs ∧
      t = { s with cyc := { s.cyc with kick := t.cyc.kick }, aux := { s.aux with kickNs := t.aux.kickNs } }

/-- WDG_KICK (R67), case `wrong`. -/
def wdgKick_wrong : Prop :=
  ∀ (s : State) (m v : Nat), s.live = true → m < 2 → v % 65536 ≠ (if s.cyc.kick = 0x55AA then 0xAA55 else 0x55AA) →
    ∃ t, exec (.wdgKick m v) s = .next t ∧ t.phase = .held ∧ t.getF Fld.SYS_RESET_CAUSE_CAUSE = 3 ∧
      bitsOf (t.mram.regs.get Reg.CLK_LAST_FAULT).toNat Fld.CLK_LAST_FAULT_CODE.hi Fld.CLK_LAST_FAULT_CODE.lo = 5

/-- WDG_EXPIRY (R67). -/
def wdgExpiry : Prop :=
  ∀ (s : State), s.live = true →
    ∃ t, exec .wdgExpiry s = .next t ∧ t.phase = .held ∧ t.getF Fld.SYS_RESET_CAUSE_CAUSE = 3 ∧ t.record = s.record ∧
      bitsOf (t.mram.regs.get Reg.CLK_LAST_FAULT).toNat Fld.CLK_LAST_FAULT_CODE.hi Fld.CLK_LAST_FAULT_CODE.lo = 4

/-- POWER_ON (R70). -/
def powerOn : Prop :=
  ∀ (s : State), s.phase = .held → bitOf s.aux.hold 0 = true →
    ∃ t, exec .powerOn s = .next t ∧ bitOf t.aux.hold 0 = false ∧ t.ticks = 0 ∧ t.getF Fld.SYS_RESET_CAUSE_CAUSE = 1 ∧
      (t.mram.regs.get Reg.SYS_POWER_CYCLES).toNat = min (2 ^ 32 - 1) ((s.mram.regs.get Reg.SYS_POWER_CYCLES).toNat + 1) ∧
      RegsBut [Reg.SYS_RESET_CAUSE] s t

/-- RESET_N_ASSERT (R71). -/
def resetNAssert : Prop :=
  ∀ (s : State),
    ∃ t, exec .resetNAssert s = .next t ∧ t.phase = .held ∧ bitOf t.aux.hold 1 = true ∧
      (s.phase ≠ .held → t.getF Fld.SYS_RESET_CAUSE_CAUSE = 2 ∧ ⟨.pin, 0, []⟩ ∈ t.sent)

/-- RESET_N_RELEASE (R71). -/
def resetNRelease : Prop :=
  ∀ (s : State), s.phase = .held → bitOf s.aux.hold 1 = true →
    ∃ t, exec .resetNRelease s = .next t ∧ bitOf t.aux.hold 1 = false ∧ t.getF Fld.SYS_RESET_CAUSE_CAUSE = 2 ∧
      t.getF Fld.SYS_RESET_CAUSE_WAKE_SRC = 0 ∧ RegsBut [Reg.SYS_RESET_CAUSE] s t

/-- RESET_RELEASE (R75). -/
def resetRelease : Prop :=
  ∀ (s : State) (b : BootResult), s.phase = .held → s.aux.hold = 0 → s.flag Fld.CLK_PLL_LOCKED = true → s.upd.nextStart = [] →
    b.safeOk = true → (s.bankOf Pk.safe ((s.resetStart b).bankNo Pk.safe)).isSome = true → b.selfTestOk = true →
    ∃ t, exec (.resetRelease b) s = .next t ∧ t.live = true ∧ t.ticks = 0 ∧ (s.record = none → t.phase = .up ∧ t.cur = Md.survey)

/-- RESET_RELEASE (R75), case `halt`. -/
def resetRelease_halt : Prop :=
  ∀ (s : State) (b : BootResult), s.phase = .held → s.aux.hold = 0 → s.flag Fld.CLK_PLL_LOCKED = true → b.safeOk = false → b.safeOtherOk = false →
    ∃ t, exec (.resetRelease b) s = .next t ∧ t.phase = .bootHalt ∧ t.getF Fld.AUX_START_STATUS_FAULT = 0x02

/-- PLL_LOCK_RETRY (R76). -/
def pllLockRetry : Prop :=
  ∀ (s : State) (b : Bool), s.phase = .held →
    ∃ t, exec (.pllLockRetry b) s = .next t ∧ t.flag Fld.CLK_PLL_LOCKED = b ∧ RegsBut [Fld.CLK_PLL_LOCKED.addr, Folio.STATUS Pg.CLK] s t

/-- SVC_DEBOUNCED_CLOSE (R72). -/
def svcDebouncedClose : Prop :=
  ∀ (s : State), s.live = true → s.aux.svcIgnore = false →
    ∃ t, exec .svcDebouncedClose s = .next t ∧ t.flag Fld.AUX_SVC_PRESSED = true ∧ RegsBut [Fld.AUX_SVC_PRESSED.addr] s t

/-- SVC_DEBOUNCED_OPEN (R72). -/
def svcDebouncedOpen : Prop :=
  ∀ (s : State) (ms : Nat), s.live = true → s.aux.svcIgnore = false → s.flag Fld.AUX_SVC_PRESSED = true →
    ∃ t, exec (.svcDebouncedOpen ms) s = .next t ∧ t.flag Fld.AUX_SVC_PRESSED = false ∧ t.flag Fld.AUX_SVC_STUCK = false ∧
      t.getF Fld.AUX_SVC_LAST_PRESS = min 65535 ms ∧
      (ms < 3000 → Added [Ev.AUX_SVC_WARM, ⟨Pg.AUX, 40⟩] s t ∧ t.aux = { s.aux with restartWait := some (s.aux.restartWait.getD false) }) ∧
      (3000 ≤ ms → ms ≤ 8000 → Added [Ev.AUX_SVC_COLD, ⟨Pg.AUX, 40⟩] s t ∧ t.aux = { s.aux with restartWait := some (s.aux.restartWait.getD true) }) ∧
      (8000 < ms → Added [] s t ∧ t.aux = s.aux) ∧ RegsBut [Fld.AUX_SVC_PRESSED.addr, Reg.SEQ_COALESCED] s t

/-- SVC_STUCK (R72). -/
def svcStuck : Prop :=
  ∀ (s : State), s.live = true → s.flag Fld.AUX_SVC_PRESSED = true → s.flag Fld.AUX_SVC_STUCK = false →
    ∃ t, exec .svcStuck s = .next t ∧ t.flag Fld.AUX_SVC_STUCK = true ∧ Added [Ev.AUX_SVC_STUCK] s t ∧
      RegsBut [Fld.AUX_SVC_STUCK.addr, Reg.SEQ_COALESCED] s t

/-- RESTART_WARM (R74). -/
def restartWarm : Prop :=
  ∀ (s : State) (m : Nat), s.permitsKeyed m Reg.AUX_RESTART 0x7E44 = true →
    ∃ t, exec (.restartWarm m) s = .next t ∧ t.aux = { s.aux with restartWait := some (s.aux.restartWait.getD false) } ∧
      t.getF (Folio.LOCK_KEY Pg.AUX) = 0 ∧ Added [⟨Pg.AUX, 40⟩] s t ∧ RegsBut [Folio.LOCK Pg.AUX, Reg.SEQ_COALESCED] s t

/-- RESTART_COLD (R74). -/
def restartCold : Prop :=
  ∀ (s : State) (m : Nat), s.permitsKeyed m Reg.AUX_RESTART 0x7E44 = true →
    ∃ t, exec (.restartCold m) s = .next t ∧ t.aux = { s.aux with restartWait := some (s.aux.restartWait.getD true) } ∧
      t.getF (Folio.LOCK_KEY Pg.AUX) = 0 ∧ Added [⟨Pg.AUX, 40⟩] s t ∧ RegsBut [Folio.LOCK Pg.AUX, Reg.SEQ_COALESCED] s t

/-- ADDR_SET (R85). -/
def addrSet : Prop :=
  ∀ (s : State) (m v : Nat), s.permitsKeyed m Reg.AUX_ADDR_SET 0x2D91 = true → s.power = 0 → v % 128 ≤ 120 →
    ∃ t, exec (.addrSet m v) s = .next t ∧ t.getF Fld.AUX_ADDR_STRING_ADDR = v % 128 ∧ t.getF (Folio.LOCK_KEY Pg.AUX) = 0 ∧
      t.flag ⟨Folio.STATUS Pg.AUX, 0, 0⟩ = decide (v % 128 ≠ 0) ∧
      Added [if v % 128 = 0 then Ev.AUX_ADDR_CLEARED else Ev.AUX_ADDR_TAKEN] s t ∧
      RegsBut [Folio.LOCK Pg.AUX, Fld.AUX_ADDR_STRING_ADDR.addr, Folio.STATUS Pg.AUX, Reg.SEQ_COALESCED] s t

/-- OFFER (R79). -/
def offer : Prop :=
  ∀ (s : State) (c a : Nat), s.live = true → c < 2 → bitOf (s.getF Fld.AUX_WALK_CTL_BUS) c = true →
    ∃ t, exec (.offer c a) s = .next t ∧ t.aux = { s.aux with offers := s.aux.offers ++ [(c, a)] } ∧
      t.getF Fld.AUX_ADDR_OFFERS = min (2 ^ (Fld.AUX_ADDR_OFFERS.hi - Fld.AUX_ADDR_OFFERS.lo + 1) - 1) (s.getF Fld.AUX_ADDR_OFFERS + 1) ∧
      Added [⟨Pg.AUX, 42⟩] s t ∧ RegsBut [Fld.AUX_ADDR_OFFERS.addr, Reg.SEQ_COALESCED] s t

/-- CLEAR (R80). -/
def clearAddr : Prop :=
  ∀ (s : State) (c : Nat), s.live = true → c < 2 → bitOf (s.getF Fld.AUX_WALK_CTL_BUS) c = true → s.power = 0 →
    ∃ t, exec (.clearAddr c 0xC1 0xEA) s = .next t ∧ t.getF Fld.AUX_ADDR_STRING_ADDR = 0 ∧ t.flag Fld.AUX_ADDR_IO_ADDR_OUT = false ∧
      Added [Ev.AUX_ADDR_CLEARED] s t ∧ t.sent = ⟨.pin, 0x20, [0]⟩ :: s.sent ∧ t.aux = { s.aux with takenWait := none } ∧
      RegsBut [Folio.STATUS Pg.AUX, Fld.AUX_ADDR_STRING_ADDR.addr, Fld.AUX_ADDR_IO_ADDR_OUT.addr, Reg.SEQ_COALESCED] s t

/-- END (R78). -/
def endWalk : Prop :=
  ∀ (s : State) (c : Nat), ∃ t, exec (.endWalk c) s = .next t ∧ t = s

/-- TAKEN (R79). -/
def taken : Prop :=
  ∀ (s : State) (c r p h l : Nat), s.live = true → c < 2 → bitOf (s.getF Fld.AUX_WALK_CTL_BUS) c = true → s.fromPartner r p h l = false →
    s.getF Fld.AUX_ADDR_STRING_ADDR ≠ 0 → h ≠ s.getReg Reg.SYS_SERIAL_HI ∨ l ≠ s.getReg Reg.SYS_SERIAL_LO →
    ∃ t, exec (.taken c (s.getF Fld.AUX_ADDR_STRING_ADDR) r p h l) s = .next t ∧ Added [Ev.AUX_ADDR_CONFLICT] s t ∧ RegsBut [Reg.SEQ_COALESCED] s t

/-- TAKEN_TIMEOUT (R79). -/
def takenTimeout : Prop :=
  ∀ (s : State) (c : Nat), s.live = true → s.aux.takenWait = some c →
    ∃ t, exec .takenTimeout s = .next t ∧ t.aux = { s.aux with takenWait := none } ∧
      t = ({ s with aux := { s.aux with takenWait := none } } : State).sendTaken c

/-- ADDR_IN_CHANGE (R80). -/
def addrInChange : Prop :=
  ∀ (s : State) (b : Bool), s.live = true →
    ∃ t, exec (.addrInChange b) s = .next t ∧ t.aux = { s.aux with addrInNext := b } ∧ Added [⟨Pg.AUX, 41⟩] s t ∧
      RegsBut [Reg.SEQ_COALESCED] s t

/-- ROLE_SEL_SAMPLE (R82). -/
def roleSelSample : Prop :=
  ∀ (s : State) (b : Bool), s.live = true →
    ∃ t, exec (.roleSelSample b) s = .next t ∧ t.flag Fld.AUX_ADDR_IO_ROLE_SEL = b ∧
      Added (if s.flag Fld.AUX_ADDR_ROLE = b then [] else [Ev.AUX_ROLE_SEL_CHANGED]) s t ∧
      RegsBut [Fld.AUX_ADDR_IO_ROLE_SEL.addr, Reg.SEQ_COALESCED] s t

/-- GPIO_CHANGE (R86). -/
def gpioChange : Prop :=
  ∀ (s : State) (k : Nat) (b : Bool), s.live = true → k < 4 →
    ∃ t, exec (.gpioChange k b) s = .next t ∧ t.getReg Reg.AUX_GPIO_IN = putBit (s.getReg Reg.AUX_GPIO_IN) k b ∧
      Added (if bitOf (s.getReg Reg.AUX_GPIO_DIR) k = false ∧ bitOf (s.getReg Reg.AUX_GPIO_IN) k ≠ b then [Ev.AUX_GPIO_CHANGE] else []) s t ∧
      RegsBut [Reg.AUX_GPIO_IN, Reg.SEQ_COALESCED] s t

/-- HEARTBEAT_SEND (R343). -/
def heartbeatSend : Prop :=
  ∀ (s : State), s.paired = true →
    ∃ t, exec .heartbeatSend s = .next t ∧ t.pairU = { s.pairU with hbCounter := (s.pairU.hbCounter + 1) % 65536, hbSentAt := s.stamp } ∧
      ⟨.hbOut, 0, [s.pulseWidth]⟩ ∈ t.sent ∧ t.getReg Reg.PAIR_CFG_CRC = s.pairCrc % 2 ^ 32 ∧ t.eth.hbAt = some (s.localNs + 5000000) ∧
      (s.plnkOn = false → t.sent = ⟨.hbOut, 0, [s.pulseWidth]⟩ :: s.sent) ∧
      (s.eth.txq = [] → Added [] s t ∧ RegsBut [Reg.PAIR_CFG_CRC, Reg.PLNK_FRAMES_TX] s t) ∧ MemSame s t

/-- HEARTBEAT_SEND (R343), case `frame`. -/
def heartbeatSend_frame : Prop :=
  ∀ (s : State), s.paired = true → s.plnkOn = true → s.eth.txq = [] → s.eth.txBusy ≤ s.localNs → s.pstate ≠ Ps.resync →
    ∃ t, exec .heartbeatSend s = .next t ∧ t.plnkSaid 0x01 (beBytes 2 ((s.pairU.hbCounter + 1) % 65536) ++ beBytes 4 (s.getReg Reg.PAIR_EDITION) ++
      [s.pstate, s.cur] ++ beBytes 2 s.hbFlags ++ beBytes 4 s.stamp ++ beBytes 4 (s.pairCrc % 2 ^ 32)) = true ∧
      RegsBut [Reg.PAIR_CFG_CRC, Reg.PLNK_FRAMES_TX, Reg.PLNK_FWD_MAX_NS, Reg.PLNK_FWD_LATE, Reg.SEQ_COALESCED] s t

/-- HEARTBEAT (R343). -/
def heartbeat : Prop :=
  ∀ (s : State) (hb : HeartbeatMsg), s.plnkRx = true → hb.edition ≤ s.getReg Reg.PAIR_EDITION → s.pstate ≠ Ps.split → s.flag Fld.PAIR_STATE_BLIND = false →
    ∃ t, exec (.heartbeat hb) s = .next t ∧
      t.pairU = { s.pairU with partnerFlags := hb.flags % 256, partnerState := hb.pstate, linkGood := min 3 (s.pairU.linkGood + 1) } ∧
      (s.flag Fld.PAIR_STATE_PARTNER_PRESENT = false → t.waits Ev.PAIR_PARTNER_BACK = true) ∧
      (s.getF Fld.PAIR_HB_LINK = 2 → 2 ≤ s.pairU.linkGood → t.waits Ev.PAIR_HB_PATH_BACK = true) ∧
      t.getReg Reg.PAIR_PARTNER_EDITION = hb.edition % 2 ^ 32 ∧ t.getReg Reg.PAIR_EDITION = s.getReg Reg.PAIR_EDITION ∧ MemSame s t ∧
      RegsBut [Reg.TIME_SYNC_STATE, Reg.PAIR_STATE, Reg.PAIR_HB, Reg.PAIR_PARTNER_EDITION, Reg.PAIR_CFG_CRC_PARTNER, Reg.CLK_ROOT_PPB, Folio.STATUS Pg.TIME, Reg.TIME_INCR_LO, Reg.TIME_INCR_HI, Reg.TIME_OFFSET_NS, Reg.TIME_PAIR_OFS_NS, Reg.TIME_LAST_STEP_NS, Reg.TIME_STEPS, Reg.SEQ_COALESCED] s t

/-- HEARTBEAT (R343), case `demoted`. -/
def heartbeat_demoted : Prop :=
  ∀ (s : State) (hb : HeartbeatMsg), s.plnkRx = true → s.getReg Reg.PAIR_EDITION < hb.edition → s.pstate = Ps.holder ∨ s.pstate = Ps.claiming → s.flag Fld.PAIR_STATE_BLIND = false →
    ∃ t, exec (.heartbeat hb) s = .next t ∧ t.drv.imprint = false ∧ t.drv.renew = false ∧ t.waits Ev.PAIR_DEMOTED = true ∧ t.chain.sweeps = []

/-- HB_PULSE (R343). -/
def hbPulse : Prop :=
  ∀ (s : State) (w g : Nat), s.paired = true → (pulseOf w).isSome → s.getF Fld.PAIR_HB_PULSE ≠ 1 ∨ (4000 ≤ g ∧ g ≤ 6000) → s.pstate ≠ Ps.split →
    ∃ t, exec (.hbPulse w g) s = .next t ∧ t.pairU.pulseGood = (if 4000 ≤ g ∧ g ≤ 6000 then min 3 (s.pairU.pulseGood + 1) else 1) ∧
      (s.getF Fld.PAIR_HB_LINK = 1 → t.pairU.partnerState = s.pairU.partnerState) ∧
      (s.getF Fld.PAIR_HB_LINK ≠ 1 → pulseOf w = some 2 → t.pairU.partnerState = Ps.holder) ∧
      (s.flag Fld.PAIR_STATE_PARTNER_PRESENT = false → t.waits Ev.PAIR_PARTNER_BACK = true) ∧
      (s.getF Fld.PAIR_HB_PULSE = 2 → 2 ≤ s.pairU.pulseGood → 4000 ≤ g → g ≤ 6000 → t.waits Ev.PAIR_HB_PATH_BACK = true) ∧
      RegsBut [Fld.PAIR_STATE_PARTNER_PRESENT.addr, Fld.PAIR_HB_PULSE.addr, Reg.SEQ_COALESCED] s t

/-- HB_PULSE (R343), case `invalid`. -/
def hbPulse_invalid : Prop :=
  ∀ (s : State) (w g : Nat), s.paired = true → pulseOf w = none ∨ (s.getF Fld.PAIR_HB_PULSE = 1 ∧ (g < 4000 ∨ 6000 < g)) →
    ∃ t, exec (.hbPulse w g) s = .next t ∧ t = s

/-- HB_PATH_LOST (R344). -/
def hbPathLost : Prop :=
  ∀ (s : State) (p : Nat), s.paired = true → s.getF (if p = 0 then Fld.PAIR_HB_LINK else Fld.PAIR_HB_PULSE) ≠ 2 → s.arrivedNow (hbKey p) = false →
    ∃ t, exec (.hbPathLost p) s = .next t ∧ t.waits Ev.PAIR_HB_PATH_LOST = true ∧ t.getF (if p = 0 then Fld.PAIR_HB_LINK else Fld.PAIR_HB_PULSE) = 2 ∧
      t.pairU = (if p = 0 then { s.pairU with linkGood := 0 } else { s.pairU with pulseGood := 0 }) ∧
      RegsBut [Reg.CLK_ROOT_PPB, Folio.STATUS Pg.TIME, Reg.TIME_SYNC_STATE, Reg.PAIR_HB, Reg.PAIR_STATE, Reg.TIME_INCR_LO, Reg.TIME_INCR_HI, Reg.SEQ_COALESCED] s t

/-- HB_PATH_LOST (R344), case `arrived`. -/
def hbPathLost_arrived : Prop :=
  ∀ (s : State) (p : Nat), s.arrivedNow (hbKey p) = true →
    ∃ t, exec (.hbPathLost p) s = .next t ∧ t = s

/-- PARTNER_LOST (R344). -/
def partnerLost : Prop :=
  ∀ (s : State), s.paired = true → s.phase = .up → s.getF Fld.PAIR_HB_LINK = 2 → s.getF Fld.PAIR_HB_PULSE = 2 → s.flag Fld.PAIR_STATE_PARTNER_PRESENT = true →
      s.arrivedNow (hbKey 0) = false → s.arrivedNow (hbKey 1) = false →
    ∃ t, exec .partnerLost s = .next t ∧ t.waits Ev.PAIR_PARTNER_LOST = true ∧ t.flag Fld.PAIR_STATE_PARTNER_PRESENT = false ∧
      (s.standby = true → s.getF Fld.DRV_LINK_HOLDER = 3 - s.ownPort → s.pairU.leaseNs = some s.localNs → t.pstate = Ps.split ∧ t.waits Ev.PAIR_PAIR_SPLIT = true) ∧
      (s.standby = false ∨ s.getF Fld.DRV_LINK_HOLDER ≠ 3 - s.ownPort ∨ s.pairU.leaseNs = none → t.pstate = s.pstate ∧ Added [Ev.PAIR_PARTNER_LOST] s t) ∧
      RegsBut [Reg.PAIR_STATE, Reg.PAIR_HB, Reg.SEQ_COALESCED] s t

/-- CLAIM_SEND (R346). -/
def claimSend : Prop :=
  ∀ (s : State), s.mayClaim = true →
    ∃ t, exec .claimSend s = .next t ∧ (s.pair = true → t.pstate = Ps.claiming) ∧ t.drv.claimPending = true ∧ t.drv.imprint = s.drv.imprint ∧
      t.drv.claimEdition = s.getReg Reg.DRV_EDITION + 1 ∧ t.sent.length = s.sent.length + 1 ∧ Added [] s t ∧
      RegsBut [Reg.PAIR_STATE, Reg.DRV_FRAMES_TX] s t

/-- PAIR_CLAIM (R346). -/
def pairClaim : Prop :=
  ∀ (s : State) (m : Nat), s.permits m Reg.PAIR_CTL = true → s.pair = true → s.mayClaim = true →
    ∃ t, exec (.pairClaim m) s = .next t ∧ t.pstate = Ps.claiming ∧ t.drv.claimPending = true ∧
      t.drv.claimEdition = s.getReg Reg.DRV_EDITION + 1 ∧ Added [] s t ∧
      RegsBut [Reg.PAIR_STATE, Reg.DRV_FRAMES_TX] s t

/-- PAIR_CLAIM (R346), case `not`. -/
def pairClaim_not : Prop :=
  ∀ (s : State) (m : Nat), s.permits m Reg.PAIR_CTL = true → s.pair = false ∨ s.mayClaim = false →
    ∃ t, exec (.pairClaim m) s = .next t ∧ t = s

/-- CLAIM_TIMEOUT (R347). -/
def claimTimeout : Prop :=
  ∀ (s : State), s.live = true → s.drv.claimPending = true →
    ∃ t, exec .claimTimeout s = .next t ∧ t.drv = { s.drv with claimPending := false } ∧ (s.pair = true → t.pstate = Ps.standby) ∧
      (s.pair = false → t.regs = s.regs) ∧ RegsBut [Reg.PAIR_STATE] s t ∧ Added [] s t

/-- STATUS (R292). -/
def status : Prop :=
  ∀ (s : State) (st : StatusMsg), s.live = true → s.variant ≠ .C → st.crcOk = true → st.edition ≤ s.getReg Reg.PAIR_EDITION → s.drv.claimPending = false → s.drv.imprint = false →
      s.pstate ≠ Ps.init → s.pstate ≠ Ps.split → s.pairU.swap = 0 → s.flag Fld.SAFE_STATE_NO_RAMP = false → s.upd.load = none →
    ∃ t, exec (.status st) s = .next t ∧ t.drv.statusSeen = true ∧ t.drv.imprint = false ∧
      t.pairU.leaseNs = (if s.getF Fld.DRV_LINK_LEASE_LEFT < st.leaseLeft % 256 then some s.localNs else s.pairU.leaseNs) ∧
      (bitOf st.ready 4 = true → bitOf (s.getF Fld.DRV_OS_STATUS_READY) 4 = false → t.waits Ev.DRV_OS_FAULT = true) ∧
      t.causeOn 0x0C = false ∧ t.getReg Reg.PAIR_EDITION = s.getReg Reg.PAIR_EDITION ∧
      RegsBut [Reg.MODE_STATE, Reg.SAFE_CAUSE_LO, Reg.SAFE_CAUSE_HI, Reg.DRV_PWM_STATUS, Reg.DRV_LINK, Reg.DRV_EDITION, Reg.DRV_OS_STATUS, Reg.DRV_OS_CURRENT, Reg.DRV_FRAMES_RX, Reg.SEQ_COALESCED] s t

/-- STATUS (R292), case `crc`. -/
def status_crc : Prop :=
  ∀ (s : State) (st : StatusMsg), s.live = true → s.variant ≠ .C → st.crcOk = false →
    ∃ t, exec (.status st) s = .next t ∧ t.getReg Reg.DRV_CRC_ERR = min (2 ^ 32 - 1) (s.getReg Reg.DRV_CRC_ERR + 1) ∧ RegsBut [Reg.DRV_CRC_ERR] s t ∧
      t = { s with regs := t.regs, comp := t.comp } ∧ t.comp.waiting = s.comp.waiting

/-- STATUS (R292), case `granted`. -/
def status_granted : Prop :=
  ∀ (s : State) (st : StatusMsg), s.live = true → s.variant ≠ .C → s.pair = false → st.crcOk = true → s.drv.claimPending = true → s.drv.imprint = false → st.result = 1 →
    ∃ t, exec (.status st) s = .next t ∧ t.drv.imprint = true ∧ t.drv.claimPending = false ∧ t.waits Ev.DRV_CLAIM_GRANTED = true

/-- STATUS (R292), case `lost`. -/
def status_lost : Prop :=
  ∀ (s : State) (st : StatusMsg), s.live = true → s.variant ≠ .C → st.crcOk = true → st.edition ≤ s.getReg Reg.PAIR_EDITION → s.drv.claimPending = false → s.drv.imprint = true →
      st.holder ≠ s.ownPort →
    ∃ t, exec (.status st) s = .next t ∧ t.drv.imprint = false ∧ t.waits Ev.DRV_LEASE_LOST = true ∧ (s.pair = true → t.waits Ev.PAIR_DEMOTED = true)

/-- MIRROR_SEND (R353). -/
def mirrorSend : Prop :=
  ∀ (s : State), s.paired = true → s.pstate = Ps.holder →
    ∃ t, exec .mirrorSend s = .next t ∧ t.getReg Reg.PAIR_MIRROR_SEQ = (s.getReg Reg.PAIR_MIRROR_SEQ + 1) % 2 ^ 32 ∧
      t.pairU = { s.pairU with snapDue := false, lineWr := s.gal.wr } ∧
      (s.plnkOn = false → t.sent = s.sent ∧ RegsBut [Reg.PAIR_MIRROR_SEQ] s t ∧ Added [] s t) ∧ MemSame s t

/-- MIRROR_SEND (R353), case `frame`. -/
def mirrorSend_frame : Prop :=
  ∀ (s u : State) (b : List Nat), s.paired = true → s.pstate = Ps.holder → u = s.setReg Reg.PAIR_MIRROR_SEQ ((s.getReg Reg.PAIR_MIRROR_SEQ + 1) % 2 ^ 32) →
      b = beBytes 4 ((s.getReg Reg.PAIR_MIRROR_SEQ + 1) % 2 ^ 32) ++ [b2n s.pairU.snapDue] ++ u.mirrorData s.pairU.snapDue →
    ∃ t, exec .mirrorSend s = .next t ∧ t.sent = (u.plnkOut 0x02 (b ++ beBytes 4 (crc32 b))).sent ∧ t.eth = (u.plnkOut 0x02 (b ++ beBytes 4 (crc32 b))).eth

/-- MIRROR (R354). -/
def mirror : Prop :=
  ∀ (s : State) (m : MirrorMsg), s.plnkRx = true → s.pstate = Ps.standby ∨ s.pstate = Ps.resync → m.crcOk = true → m.edition = s.getReg Reg.PAIR_EDITION →
      s.pairU.mirror = none ∨ s.getReg Reg.PAIR_MIRROR_SEQ < m.seq →
    ∃ t, exec (.mirror m) s = .next t ∧ t.pairU.mirror = some m ∧ t.pairU.mirrorNs = s.localNs ∧
      t.getReg Reg.PAIR_MIRROR_SEQ = m.seq % 2 ^ 32 ∧ t.getReg Reg.MODE_STATE = m.mode % 2 ^ 32 ∧ t.getReg Reg.PAIR_HOLDER_EVR_INDEX = m.lastIndex % 2 ^ 32 ∧
      (s.pstate = Ps.resync → t.pairU.snapshot = 2 → t.pstate = Ps.standby ∧ t.waits Ev.PAIR_SYNCED = true)

/-- MIRROR (R354), case `dropped`. -/
def mirror_dropped : Prop :=
  ∀ (s : State) (m : MirrorMsg), s.plnkRx = true → s.pstate = Ps.standby ∨ s.pstate = Ps.resync → m.edition ≤ s.getReg Reg.PAIR_EDITION →
      m.crcOk = false ∨ m.edition ≠ s.getReg Reg.PAIR_EDITION ∨ (s.pairU.mirror.isSome ∧ m.seq ≤ s.getReg Reg.PAIR_MIRROR_SEQ) →
    ∃ t, exec (.mirror m) s = .next t ∧ t = { s with regs := t.regs, comp := t.comp } ∧ t.comp.waiting = s.comp.waiting ∧
      t.getReg Reg.PLNK_MIRROR_DROP = min (2 ^ 32 - 1) (s.getReg Reg.PLNK_MIRROR_DROP + 1) ∧ RegsBut [Reg.PLNK_MIRROR_DROP] s t

/-- MIRROR_STALE (R354). -/
def mirrorStale : Prop :=
  ∀ (s : State), s.paired = true → s.standby = true → s.flag Fld.PAIR_STATE_MIRROR_STALE = false → s.arrivedNow mirrorKey = false →
    ∃ t, exec .mirrorStale s = .next t ∧ t.flag Fld.PAIR_STATE_MIRROR_STALE = true ∧ t.flag Fld.PAIR_STATE_SYNCED = false ∧
      Added [Ev.PAIR_MIRROR_STALE] s t ∧ RegsBut [Reg.PAIR_STATE, Reg.SEQ_COALESCED] s t

/-- MIRROR_STALE (R354), case `arrived`. -/
def mirrorStale_arrived : Prop :=
  ∀ (s : State), s.arrivedNow mirrorKey = true →
    ∃ t, exec .mirrorStale s = .next t ∧ t = s

/-- CFG_DIFFER (R354). -/
def cfgDiffer : Prop :=
  ∀ (s : State), s.paired = true → s.getReg Reg.PAIR_CFG_CRC_PARTNER ≠ s.pairCrc → s.flag Fld.PAIR_STATE_CFG_DIFFER = false →
    ∃ t, exec .cfgDiffer s = .next t ∧ t.flag Fld.PAIR_STATE_CFG_DIFFER = true ∧ t.getReg Reg.PAIR_CFG_CRC = s.pairCrc % 2 ^ 32 ∧
      Added [Ev.PAIR_CFG_DIFFER] s t ∧ RegsBut [Reg.PAIR_STATE, Reg.PAIR_CFG_CRC, Reg.SEQ_COALESCED] s t

/-- RESYNC_REQ (R355). -/
def resyncReq : Prop :=
  ∀ (s : State) (e : Nat), s.plnkHears e = true → s.pstate = Ps.holder → e ≤ s.getReg Reg.PAIR_EDITION →
    ∃ t, exec (.resyncReq e) s = .next t ∧ t = { s with pairU := { s.pairU with snapDue := true } }

/-- MODE_REQ (R351). -/
def modeReq : Prop :=
  ∀ (s : State) (e tag g : Nat), s.plnkHears e = true → s.pstate = Ps.holder → e ≤ s.getReg Reg.PAIR_EDITION →
    ∃ t, exec (.modeReq e tag g) s = .next t ∧ t.mode = { s.mode with partnerTag := tag, partnerTgt := g } ∧ Added [⟨Pg.MODE, 41⟩] s t ∧
      RegsBut [Reg.SEQ_COALESCED] s t ∧ MemSame s t

/-- MODE_RESULT (R351). -/
def modeResult : Prop :=
  ∀ (s : State) (e code chk g tag : Nat), s.plnkHears e = true → e ≤ s.getReg Reg.PAIR_EDITION → s.mode.forwardTag = some tag →
    ∃ t, exec (.modeResult e code chk g) s = .next t ∧ t.mode = { s.mode with forwardTag := none } ∧
      t.getReg Reg.MODE_REQ_RESULT = tag % 256 * 65536 + chk % 16 * 4096 + g % 16 * 256 + code % 256 ∧
      Added (if 0x10 ≤ code then [Ev.MODE_REQ_DONE, Ev.MODE_REQ_REJECTED] else [Ev.MODE_REQ_DONE]) s t ∧
      RegsBut [Reg.MODE_REQ_RESULT, Reg.MODE_REJECT_COUNT, Reg.SEQ_COALESCED] s t

/-- MODE_REQ_TIMEOUT (R351). -/
def modeReqTimeout : Prop :=
  ∀ (s : State) (tag : Nat), s.live = true → s.mode.forwardTag = some tag →
    ∃ t, exec .modeReqTimeout s = .next t ∧ t.mode = { s.mode with forwardTag := none } ∧ t.getF Fld.MODE_REQ_RESULT_CODE = Rq.imprint ∧
      t.getF Fld.MODE_REQ_RESULT_TAG = tag % 256 ∧ Added [Ev.MODE_REQ_DONE, Ev.MODE_REQ_REJECTED] s t ∧
      RegsBut [Reg.MODE_REQ_RESULT, Reg.MODE_REJECT_COUNT, Reg.SEQ_COALESCED] s t

/-- SWAP_DUE (R360). -/
def swapDue : Prop :=
  ∀ (s : State), s.paired = true → s.pstate = Ps.holder → s.flag Fld.PAIR_CTL_AUTO_SWAP = true →
    ∃ t, exec .swapDue s = .next t ∧
      (s.mayOffer = true → t.pairU = { s.pairU with swap := 1 } ∧ (s.plnkOn = true → t.plnkSaid 0x07 [] = true) ∧ t.waits Ev.GAL_LINE_OPEN = true) ∧
      (s.mayOffer = false → t = s.setF Fld.PAIR_SWAP_STATUS_RESULT 5)

/-- SWAP_NOW (R360). -/
def swapNow : Prop :=
  ∀ (s : State) (m : Nat), s.permits m Reg.PAIR_CTL = true → s.pair = true → s.pstate = Ps.holder →
    ∃ t, exec (.swapNow m) s = .next t ∧
      (s.mayOffer = true → t.pairU = { s.pairU with swap := 1 } ∧ (s.plnkOn = true → t.plnkSaid 0x07 [] = true) ∧ t.waits Ev.GAL_LINE_OPEN = true) ∧
      (s.mayOffer = false → t = s.setF Fld.PAIR_SWAP_STATUS_RESULT 5)

/-- SWAP_OVERDUE (R360). -/
def swapOverdue : Prop :=
  ∀ (s : State), s.paired = true → s.pstate = Ps.holder → s.flag Fld.PAIR_CTL_AUTO_SWAP = true →
    ∃ t, exec .swapOverdue s = .next t ∧ t.getF Fld.PAIR_SWAP_STATUS_RESULT = 6 ∧ Added [Ev.PAIR_SWAP_OVERDUE] s t ∧
      RegsBut [Reg.PAIR_SWAP_STATUS, Reg.SEQ_COALESCED] s t

/-- SWAP_OFFER (R361). -/
def swapOffer : Prop :=
  ∀ (s : State) (e : Nat), s.plnkHears e = true → s.pstate = Ps.standby → e ≤ s.getReg Reg.PAIR_EDITION →
    ∃ t, exec (.swapOffer e) s = .next t ∧ (s.eth.txq = [] → RegsBut [Reg.PLNK_FRAMES_TX] s t) ∧
      (s.flag Fld.PAIR_STATE_SYNCED = true ∧ s.flag Fld.PAIR_STATE_LATENT_FAULT = false ∧ s.swapFit = true →
        t.plnkSaid 0x08 [] = true ∧ t.pairU = { s.pairU with swap := 3 }) ∧
      (s.flag Fld.PAIR_STATE_SYNCED = false ∨ s.flag Fld.PAIR_STATE_LATENT_FAULT = true ∨ s.swapFit = false →
        t.plnkSaid 0x09 [] = true ∧ t.pairU = s.pairU)

/-- SWAP_ACCEPT (R361). -/
def swapAccept : Prop :=
  ∀ (s : State) (e : Nat), s.plnkHears e = true → s.pstate = Ps.holder → s.pairU.swap = 1 → e ≤ s.getReg Reg.PAIR_EDITION →
    ∃ t, exec (.swapAccept e) s = .next t ∧ ⟨.drive, 0x03, driveFrame s.drv.txSeq 0x03 (s.getReg Reg.PAIR_EDITION) [0x01]⟩ ∈ t.sent ∧
      t.pairU = { s.pairU with swap := 2, holdoff := true, snapDue := false, lineWr := s.gal.wr } ∧ t.drv.imprint = false ∧ t.drv.renew = false

/-- SWAP_DECLINE (R361). -/
def swapDecline : Prop :=
  ∀ (s : State) (e : Nat), s.plnkHears e = true → s.pairU.swap = 1 → e ≤ s.getReg Reg.PAIR_EDITION →
    ∃ t, exec (.swapDecline e) s = .next t ∧ t.pairU = { s.pairU with swap := 0 } ∧
      ((s.gal.openOf Kind.swap).isSome → t.waits Ev.GAL_LINE_ROLLED_BACK = true) ∧
      (s.gal.openOf Kind.swap = none → t.getF Fld.PAIR_SWAP_STATUS_RESULT = 4 ∧ Added [] s t) ∧
      RegsBut [Reg.GAL_OPEN_COUNT, Reg.GAL_OPEN 0, Reg.GAL_OPEN 1, Reg.GAL_OPEN 2, Reg.GAL_OPEN 3, Reg.PAIR_SWAP_STATUS, Reg.SEQ_COALESCED] s t

/-- SWAP_HOLDOFF_END (R361). -/
def swapHoldoffEnd : Prop :=
  ∀ (s : State), s.paired = true →
    ∃ t, exec .swapHoldoffEnd s = .next t ∧ t = { s with pairU := { s.pairU with holdoff := false } }

/-- SWAP_GRANT_TIMEOUT (R362). -/
def swapGrantTimeout : Prop :=
  ∀ (s : State), s.paired = true → s.pairU.swap = 2 ∨ s.pairU.swap = 3 →
    ∃ t, exec .swapGrantTimeout s = .next t ∧ t.pairU = { s.pairU with swap := 0 } ∧ t.waits Ev.PAIR_SWAP_FAIL = true ∧
      (s.pairU.swap = 3 → t.flag Fld.PAIR_STATE_LATENT_FAULT = true)

/-- SWAP_DRIVE_TIMEOUT (R362). -/
def swapDriveTimeout : Prop :=
  ∀ (s : State), s.paired = true → s.pairU.swap = 4 →
    ∃ t, exec .swapDriveTimeout s = .next t ∧ t.pairU = { s.pairU with swap := 0 } ∧ t.waits Ev.PAIR_SWAP_FAIL = true ∧ t.drv.imprint = false ∧
      ⟨.drive, 0x03, driveFrame s.drv.txSeq 0x03 (s.getReg Reg.PAIR_EDITION) [0x03]⟩ ∈ t.sent ∧ t.flag Fld.PAIR_STATE_LATENT_FAULT = true

/-- LATENT_CLR (R362). -/
def latentClr : Prop :=
  ∀ (s : State) (m v : Nat), s.permitsKeyed m Reg.PAIR_LATENT_CLR 0x4C19 = true →
    ∃ t, exec (.latentClr m v) s = .next t ∧ t.flag Fld.PAIR_STATE_LATENT_FAULT = (!bitOf v 0 && s.flag Fld.PAIR_STATE_LATENT_FAULT) ∧
      t.getF (Folio.LOCK_KEY Pg.PAIR) = 0 ∧ RegsBut [Reg.PAIR_STATE, (Folio.LOCK_KEY Pg.PAIR).addr] s t ∧ Added [] s t ∧
      (bitOf v 0 = true → t.mram.regs.get Reg.PAIR_STATE = t.regs.get Reg.PAIR_STATE)

/-- STOP_REQ (R320). -/
def stopReq : Prop :=
  ∀ (s : State) (e : Nat), s.plnkHears e = true → s.pstate = Ps.holder → e ≤ s.getReg Reg.PAIR_EDITION →
    ∃ t, exec (.stopReq e) s = .next t ∧ t.waits Ev.PAIR_STOP_REQ_RX = true ∧ (s.causeOn 0x18 = false → t.waits Ev.SAFE_CAUSE_SET = true)

/-- STOP_REQ_TIMEOUT (R320). -/
def stopReqTimeout : Prop :=
  ∀ (s : State), s.paired = true → s.safe.stopReqSent = true → s.cur ≠ Md.stopping →
    ∃ t, exec .stopReqTimeout s = .next t ∧ t.safe = { s.safe with stopReqSent := false } ∧ t.sent = ⟨.pin, 0x11, [1, 1]⟩ :: s.sent ∧
      t.flag Fld.DRV_EN_PULL_A = true ∧ t.flag Fld.DRV_EN_PULL_B = true ∧ t.flag Fld.DRV_EN_LEVEL_A = false ∧ t.flag Fld.DRV_EN_LEVEL_B = false ∧ Added [] s t ∧
      RegsBut [Reg.DRV_EN] s t

/-- SYNC (R434). -/
def sync : Prop :=
  ∀ (s : State) (m : PtpMsg), s.ptpAt m.port = true → s.ptpOn m = true → m.twoStep = false → s.time.gm.map (fun g => g.id) = some m.srcId → 2 ≤ s.sync → s.sync ≤ 4 →
    ∃ t, exec (.sync m) s = .next t ∧ t.getReg Reg.TIME_OFFSET_NS = toU 32 (satS 32 ((m.rxNs : Int) - m.originNs - m.correctionNs - (s.pdAt m.port).delay)) ∧
      t.freeCtr ≠ s.freeCtr ∧ MemSame s t ∧
      RegsBut [Reg.CLK_ROOT_PPB, Folio.STATUS Pg.TIME, Reg.TIME_SYNC_STATE, Reg.TIME_INCR_LO, Reg.TIME_INCR_HI, Reg.TIME_OFFSET_NS, Reg.TIME_PATH_DELAY_NS, Reg.ETH_FRAMES_TX 0, Reg.ETH_FRAMES_TX 1, Reg.SEQ_COALESCED] s t

/-- SYNC (R434), case `twoStep`. -/
def sync_twoStep : Prop :=
  ∀ (s : State) (m : PtpMsg), s.ptpAt m.port = true → s.ptpOn m = true → m.twoStep = true →
    ∃ t, exec (.sync m) s = .next t ∧ t.time = { s.time with waits := some m } ∧
      (s.flag (Fld.ETH_PORT_STATUS_LINK (1 - m.port)) = true → t.sent = ⟨.eth (1 - m.port), 0x20, [7, (s.record.map (fun r => r.vlan)).getD 0, m.domain, m.seq, m.srcId, m.srcPort, m.originNs, toU 64 m.correctionNs, 1]⟩ :: s.sent) ∧
      (s.flag (Fld.ETH_PORT_STATUS_LINK (1 - m.port)) = false → t.sent = s.sent) ∧
      RegsBut [Reg.ETH_FRAMES_TX (1 - m.port)] s t ∧ Added [] s t

/-- SYNC (R434), case `ignored`. -/
def sync_ignored : Prop :=
  ∀ (s : State) (m : PtpMsg), s.ptpAt m.port = false →
    ∃ t, exec (.sync m) s = .next t ∧ t = s

/-- SYNC (R434), case `otherDomain`. -/
def sync_otherDomain : Prop :=
  ∀ (s : State) (m : PtpMsg), s.ptpAt m.port = true → s.ptpOn m = false →
    ∃ t, exec (.sync m) s = .next t ∧ t.time = s.time ∧ Added [] s t ∧ RegsBut [Reg.ETH_FRAMES_TX (1 - m.port)] s t ∧
      t.sent.length = s.sent.length + b2n (s.flag (Fld.ETH_PORT_STATUS_LINK (1 - m.port)))

/-- FOLLOW_UP (R432). -/
def followUp : Prop :=
  ∀ (s : State) (m y : PtpMsg), s.ptpAt m.port = true → s.ptpOn m = true → s.time.waits = some y → y.seq = m.seq → y.srcId = m.srcId → y.srcPort = m.srcPort → y.port = m.port →
      s.time.gm.map (fun g => g.id) = some m.srcId → 2 ≤ s.sync → s.sync ≤ 4 →
    ∃ t, exec (.followUp m) s = .next t ∧ t.time.waits = none ∧
      t.getReg Reg.TIME_OFFSET_NS = toU 32 (satS 32 ((y.rxNs : Int) - m.originNs - (y.correctionNs + m.correctionNs) - (s.pdAt m.port).delay)) ∧
      RegsBut [Reg.CLK_ROOT_PPB, Folio.STATUS Pg.TIME, Reg.TIME_SYNC_STATE, Reg.TIME_INCR_LO, Reg.TIME_INCR_HI, Reg.TIME_OFFSET_NS, Reg.TIME_PATH_DELAY_NS, Reg.ETH_FRAMES_TX 0, Reg.ETH_FRAMES_TX 1, Reg.SEQ_COALESCED] s t

/-- FOLLOW_UP (R432), case `none`. -/
def followUp_none : Prop :=
  ∀ (s : State) (m : PtpMsg), s.ptpAt m.port = true → s.time.waits = none →
    ∃ t, exec (.followUp m) s = .next t ∧ t.time = s.time ∧ t.sent.length = s.sent.length + b2n (s.flag (Fld.ETH_PORT_STATUS_LINK (1 - m.port))) ∧ RegsBut [Reg.ETH_FRAMES_TX (1 - m.port)] s t

/-- ANNOUNCE (R434). -/
def announce : Prop :=
  ∀ (s : State) (m : PtpMsg), s.ptpAt m.port = true → s.ptpOn m = true → s.time.gm = none → s.flag Fld.TIME_PTP_CFG_SLAVE_ONLY = true → s.sync ≠ Ts.pairFollow → s.sync ≠ Ts.acquiring →
    ∃ t, exec (.announce m) s = .next t ∧ t.time.gm = some ⟨announceRank m, m.gmId, m.port⟩ ∧ t.sync = Ts.acquiring ∧ t.waits Ev.TIME_GM_CHANGED = true ∧
      t.getReg Reg.TIME_GM_ID_LO = m.gmId % 2 ^ 32 ∧
      RegsBut [Reg.CLK_ROOT_PPB, Folio.STATUS Pg.TIME, Reg.TIME_SYNC_STATE, Reg.TIME_GM_ID_LO, Reg.TIME_GM_ID_HI, Reg.TIME_UTC_OFFSET, Reg.ETH_FRAMES_TX 0, Reg.ETH_FRAMES_TX 1, Reg.SEQ_COALESCED] s t

/-- ANNOUNCE (R434), case `worse`. -/
def announce_worse : Prop :=
  ∀ (s : State) (m : PtpMsg) (g : Gm), s.ptpAt m.port = true → s.ptpOn m = true → s.time.gm = some g → g.id ≠ m.gmId → better (announceRank m) g.rank = false →
    ∃ t, exec (.announce m) s = .next t ∧ t.time = s.time ∧ Added [] s t ∧ RegsBut [Reg.ETH_FRAMES_TX (1 - m.port)] s t

/-- PDELAY_REQ (R432). -/
def pdelayReq : Prop :=
  ∀ (s : State) (m : PtpMsg), s.ptpAt m.port = true →
    ∃ t, exec (.pdelayReq m) s = .next t ∧ Added [] s t ∧ RegsBut [Reg.ETH_FRAMES_TX m.port] s t ∧
      t.sent = ⟨.eth m.port, 0x2A, [4, (s.record.map (fun r => r.vlan)).getD 0, m.domain, m.seq, m.srcId, m.srcPort, s.time.now]⟩ ::
        ⟨.eth m.port, 0x23, [7, (s.record.map (fun r => r.vlan)).getD 0, m.domain, m.seq, m.srcId, m.srcPort, m.rxNs]⟩ :: s.sent

/-- PDELAY_REQ_SEND (R432). -/
def pdelayReqSend : Prop :=
  ∀ (s : State) (p : Nat), s.ptpAt p = true → s.time.pd.length = 2 →
    ∃ t, exec (.pdelayReqSend p) s = .next t ∧ t.pdAt p = { s.pdAt p with seq := ((s.pdAt p).seq + 1) % 65536, t1 := s.time.now, waits := false } ∧
      t.sent.length = s.sent.length + 1 ∧ RegsBut [Reg.ETH_FRAMES_TX p] s t

/-- PDELAY_RESP (R432). -/
def pdelayResp : Prop :=
  ∀ (s : State) (m : PtpMsg), s.ptpAt m.port = true → s.time.pd.length = 2 → (s.pdAt m.port).seq = m.seq → m.isFollowUp = false → m.twoStep = false →
    ∃ t, exec (.pdelayResp m) s = .next t ∧ (t.pdAt m.port).delay = divEither ((m.rxNs : Int) - (s.pdAt m.port).t1 - m.correctionNs) 2 ∧
      (t.pdAt m.port).waits = false ∧ t = { s with time := { s.time with pd := t.time.pd } }

/-- PDELAY_RESP (R432), case `twoStep`. -/
def pdelayResp_twoStep : Prop :=
  ∀ (s : State) (m : PtpMsg), s.ptpAt m.port = true → s.time.pd.length = 2 → (s.pdAt m.port).seq = m.seq → m.isFollowUp = false → m.twoStep = true →
    ∃ t, exec (.pdelayResp m) s = .next t ∧ t.pdAt m.port = { s.pdAt m.port with t2 := m.requestRxNs, t4 := m.rxNs, waits := true } ∧ t = { s with time := { s.time with pd := t.time.pd } }

/-- SYNC_LOSS (R434). -/
def syncLoss : Prop :=
  ∀ (s : State), s.live = true → s.sync = Ts.locked → s.arrivedNow syncKey = false →
    ∃ t, exec .syncLoss s = .next t ∧ t.sync = Ts.holdover ∧ Added [Ev.TIME_SYNC_LOST, Ev.TIME_HOLDOVER] s t ∧ t.time = { s.time with lockRun := 0, stepRun := [], slewing := false } ∧
      t.getReg Reg.CLK_ROOT_PPB = 0x80000000 ∧
      RegsBut [Reg.CLK_ROOT_PPB, Folio.STATUS Pg.TIME, Fld.TIME_SYNC_STATE_STATE.addr, Reg.SEQ_COALESCED] s t

/-- SYNC_LOSS (R434), case `arrived`. -/
def syncLoss_arrived : Prop :=
  ∀ (s : State), s.arrivedNow syncKey = true →
    ∃ t, exec .syncLoss s = .next t ∧ t = s

/-- ANNOUNCE_TIMEOUT (R434). -/
def announceTimeout : Prop :=
  ∀ (s : State), s.live = true → s.sync = Ts.holdover → s.pairFollower = false →
    ∃ t, exec .announceTimeout s = .next t ∧ t.sync = Ts.listening ∧ t.time.gm = none ∧ Added [] s t ∧
      RegsBut [Reg.CLK_ROOT_PPB, Folio.STATUS Pg.TIME, Fld.TIME_SYNC_STATE_STATE.addr, Reg.SEQ_COALESCED] s t

/-- SYNC_SEND (R432). -/
def syncSend : Prop :=
  ∀ (s : State) (p : Nat), s.ptpAt p = true → s.sync ≠ Ts.pairFollow → s.getF Fld.TIME_SYNC_CTL_SOURCE = 1 → s.flag Fld.TIME_PTP_CFG_SLAVE_ONLY = false → s.time.gm = none →
    ∃ t, exec (.syncSend p) s = .next t ∧ t.time = { s.time with seqOut := (s.time.seqOut + 1) % 65536 } ∧ t.sent.length = s.sent.length + 3 ∧
      RegsBut [Reg.ETH_FRAMES_TX p] s t ∧ Added [] s t

/-- STEP_NS (R435). -/
def stepNs : Prop :=
  ∀ (s : State) (m v : Nat), s.permitsKeyed m Reg.TIME_STEP_NS 0x3E61 = true →
    ∃ t, exec (.stepNs m v) s = .next t ∧ t.getF (Folio.LOCK_KEY Pg.TIME) = 0 ∧
      t.time = { s.time with stepWait := s.time.stepWait ++ [sInt 32 v] } ∧ Added [⟨Pg.TIME, 40⟩] s t ∧
      RegsBut [Folio.LOCK Pg.TIME, Reg.SEQ_COALESCED] s t

/-- LAUNCH_TRIG (R438). -/
def launchTrig : Prop :=
  ∀ (s : State) (n : Nat), s.live = true → n < 4 → bitOf (s.getF Fld.TIME_TRIG_CTL_EN) n = true → s.time.armed[n]? = some true → 0 ≤ s.sinceLaunch (s.getReg (Reg.TIME_TRIG n)) →
    ∃ t, exec (.launchTrig n) s = .next t ∧ t.time.armed[n]? = some false ∧ 
      (s.sinceLaunch (s.getReg (Reg.TIME_TRIG n)) ≤ 4 → Added [Ev.TIME_TRIG_FIRED] s t ∧ RegsBut [Reg.SEQ_COALESCED] s t) ∧
      (4 < s.sinceLaunch (s.getReg (Reg.TIME_TRIG n)) → Added [Ev.TIME_TRIG_FIRED, Ev.TIME_LAUNCH_LATE] s t ∧
        t.getReg Reg.TIME_LAUNCH_LATE = min (2 ^ 32 - 1) (s.getReg Reg.TIME_LAUNCH_LATE + 1) ∧ RegsBut [Reg.TIME_LAUNCH_LATE, Reg.SEQ_COALESCED] s t) ∧
      (bitOf (s.getF Fld.TIME_TRIG_CTL_OUT) n = true → bitOf (s.getReg Reg.AUX_GPIO_DIR) n = true → t.sent = ⟨.pin, 0x30 + n, [1]⟩ :: s.sent)

/-- TRIG_PULSE_END (R438). -/
def trigPulseEnd : Prop :=
  ∀ (s : State) (n : Nat), s.live = true → s.time.pulse[n]? = some true →
    ∃ t, exec (.trigPulseEnd n) s = .next t ∧ t = { s with time := { s.time with pulse := s.time.pulse.set n false }, sent := ⟨.pin, 0x30 + n, [b2n (bitOf (s.getReg Reg.AUX_GPIO_OUT) n)]⟩ :: s.sent }

/-- COMPAT_LOAD (R440). -/
def compatLoad : Prop :=
  ∀ (s : State) (m v : Nat), s.permits m Reg.TIME_COMPAT_LOAD_HI = true → s.time.compat.length = 4 →
    ∃ t, exec (.compatLoad m v) s = .next t ∧ t = { s with time := { s.time with compat := t.time.compat } } ∧
      (t.time.compat[s.compatSel]?).map (fun b => b.val) = some (v % 65536 * 2 ^ 32 + s.time.loadLo)

/-- TWB_QUICK_WRITE (R489). -/
def twbQuickWrite : Prop :=
  ∀ (s : State) (m k : Nat), s.twbMayGo m 0 = true →
    ∃ t, exec (.twbQuickWrite m k) s = .next t ∧ TwbStarted s t k 0 ([State.twbAddr k])

/-- TWB_QUICK_READ (R489). -/
def twbQuickRead : Prop :=
  ∀ (s : State) (m k : Nat), s.twbMayGo m 1 = true →
    ∃ t, exec (.twbQuickRead m k) s = .next t ∧ TwbStarted s t k 1 ([State.twbAddr k + 1])

/-- TWB_SEND_BYTE (R489). -/
def twbSendByte : Prop :=
  ∀ (s : State) (m k : Nat), s.twbMayGo m 2 = true →
    ∃ t, exec (.twbSendByte m k) s = .next t ∧ TwbStarted s t k 2 (([State.twbAddr k, s.getF Fld.TWB_C_CMD_CODE]) ++ (if bitOf k 7 then [crc8 ([State.twbAddr k, s.getF Fld.TWB_C_CMD_CODE])] else []))

/-- TWB_RECEIVE_BYTE (R489). -/
def twbReceiveByte : Prop :=
  ∀ (s : State) (m k : Nat), s.twbMayGo m 3 = true →
    ∃ t, exec (.twbReceiveByte m k) s = .next t ∧ TwbStarted s t k 3 ([State.twbAddr k + 1])

/-- TWB_WRITE_BYTE (R489). -/
def twbWriteByte : Prop :=
  ∀ (s : State) (m k : Nat), s.twbMayGo m 4 = true →
    ∃ t, exec (.twbWriteByte m k) s = .next t ∧ TwbStarted s t k 4 (([State.twbAddr k, s.getF Fld.TWB_C_CMD_CODE] ++ s.cData.take 1) ++ (if bitOf k 7 then [crc8 ([State.twbAddr k, s.getF Fld.TWB_C_CMD_CODE] ++ s.cData.take 1)] else []))

/-- TWB_READ_BYTE (R489). -/
def twbReadByte : Prop :=
  ∀ (s : State) (m k : Nat), s.twbMayGo m 5 = true →
    ∃ t, exec (.twbReadByte m k) s = .next t ∧ TwbStarted s t k 5 ([State.twbAddr k, s.getF Fld.TWB_C_CMD_CODE, State.twbAddr k + 1])

/-- TWB_WRITE_WORD (R489). -/
def twbWriteWord : Prop :=
  ∀ (s : State) (m k : Nat), s.twbMayGo m 6 = true →
    ∃ t, exec (.twbWriteWord m k) s = .next t ∧ TwbStarted s t k 6 (([State.twbAddr k, s.getF Fld.TWB_C_CMD_CODE] ++ s.cData.take 2) ++ (if bitOf k 7 then [crc8 ([State.twbAddr k, s.getF Fld.TWB_C_CMD_CODE] ++ s.cData.take 2)] else []))

/-- TWB_READ_WORD (R489). -/
def twbReadWord : Prop :=
  ∀ (s : State) (m k : Nat), s.twbMayGo m 7 = true →
    ∃ t, exec (.twbReadWord m k) s = .next t ∧ TwbStarted s t k 7 ([State.twbAddr k, s.getF Fld.TWB_C_CMD_CODE, State.twbAddr k + 1])

/-- TWB_PROCESS_CALL (R489). -/
def twbProcessCall : Prop :=
  ∀ (s : State) (m k : Nat), s.twbMayGo m 8 = true →
    ∃ t, exec (.twbProcessCall m k) s = .next t ∧ TwbStarted s t k 8 ([State.twbAddr k, s.getF Fld.TWB_C_CMD_CODE] ++ s.cData.take 2 ++ [State.twbAddr k + 1])

/-- TWB_BLOCK_WRITE (R489). -/
def twbBlockWrite : Prop :=
  ∀ (s : State) (m k : Nat), s.twbMayGo m 9 = true → 1 ≤ s.getF Fld.TWB_C_CMD_WLEN → s.getF Fld.TWB_C_CMD_WLEN ≤ 32 →
    ∃ t, exec (.twbBlockWrite m k) s = .next t ∧ TwbStarted s t k 9 (([State.twbAddr k, s.getF Fld.TWB_C_CMD_CODE, s.getF Fld.TWB_C_CMD_WLEN] ++ s.cData.take (s.getF Fld.TWB_C_CMD_WLEN)) ++ (if bitOf k 7 then [crc8 ([State.twbAddr k, s.getF Fld.TWB_C_CMD_CODE, s.getF Fld.TWB_C_CMD_WLEN] ++ s.cData.take (s.getF Fld.TWB_C_CMD_WLEN))] else []))

/-- GO of every protocol, case `wrong` (R489). -/
def twbGo_wrong : Prop :=
  ∀ (p : Nat) (f : Nat → Nat → Instr), TwbGo p f → ∀ (s : State) (m k : Nat), s.permits m Reg.TWB_C_CTL = true → s.getReg Reg.TWB_C_CMD % 16 ≠ p →
    ∃ t, exec (f m k) s = .next t ∧ t = s.setReg Reg.TWB_C_CTL (k &&& 0x1FF)

/-- GO of every protocol, case `busy` (R489). -/
def twbGo_busy : Prop :=
  ∀ (p : Nat) (f : Nat → Nat → Instr), TwbGo p f → ∀ (s : State) (m k : Nat), s.permits m Reg.TWB_C_CTL = true → s.getReg Reg.TWB_C_CMD % 16 = p → s.flag Fld.TWB_C_STATUS_BUSY = true →
    ∃ t, exec (f m k) s = .next t ∧ t.twb = s.twb ∧ Added [Ev.TWB_CFG_REFUSED] s t ∧ t.sent = s.sent ∧
      RegsBut [Reg.TWB_C_CTL, Reg.SEQ_COALESCED] s t

/-- TWB_BLOCK_WRITE (R489), case `badLength`. -/
def twbGo_badLength : Prop :=
  ∀ (s : State) (m k : Nat), s.permits m Reg.TWB_C_CTL = true → s.getReg Reg.TWB_C_CMD % 16 = 9 → s.flag Fld.TWB_C_STATUS_BUSY = false → s.getF Fld.TWB_C_CMD_WLEN = 0 ∨ 32 < s.getF Fld.TWB_C_CMD_WLEN →
    ∃ t, exec (.twbBlockWrite m k) s = .next t ∧ t.twb = { s.twb with run := none } ∧ Added [Ev.TWB_C_FAIL] s t ∧ t.sent = s.sent ∧ t.getReg Reg.TWB_C_STATUS = 0x0A00 ∧
      RegsBut [Reg.TWB_C_CTL, Reg.TWB_C_STATUS, Reg.SEQ_COALESCED] s t

/-- GO of every protocol, case `waits` (R489). -/
def twbGo_waits : Prop :=
  ∀ (p : Nat) (f : Nat → Nat → Instr), TwbGo p f → ∀ (s : State) (m k : Nat), s.permits m Reg.TWB_C_CTL = true → s.getReg Reg.TWB_C_CMD % 16 = p → s.flag Fld.TWB_C_STATUS_BUSY = false → s.flag Fld.TWB_BUS_CFG_HOLDER_ONLY = false → s.twb.free = false → 1 ≤ s.getF Fld.TWB_C_CMD_WLEN → s.getF Fld.TWB_C_CMD_WLEN ≤ 32 →
    ∃ t, exec (f m k) s = .next t ∧ t.twb = { free := false, run := some ⟨k &&& 0x1FF, s.getReg Reg.TWB_C_CMD, s.cData, false, false⟩ } ∧ t.sent = s.sent ∧
      t.flag Fld.TWB_C_STATUS_BUSY = true ∧ Added [] s t ∧
      RegsBut [Reg.TWB_C_CTL, Reg.TWB_C_STATUS] s t

/-- TWB_BLOCK_READ (R489). -/
def twbBlockRead : Prop :=
  ∀ (s : State) (m k : Nat), s.twbMayGo m 10 = true →
    ∃ t, exec (.twbBlockRead m k) s = .next t ∧ TwbStarted s t k 10 ([State.twbAddr k, s.getF Fld.TWB_C_CMD_CODE, State.twbAddr k + 1])

/-- TWB_BLOCK_WRITE_BLOCK_READ (R489). -/
def twbBlockWriteBlockRead : Prop :=
  ∀ (s : State) (m k : Nat), s.twbMayGo m 11 = true → 1 ≤ s.getF Fld.TWB_C_CMD_WLEN → s.getF Fld.TWB_C_CMD_WLEN ≤ 32 →
    ∃ t, exec (.twbBlockWriteBlockRead m k) s = .next t ∧ TwbStarted s t k 11 ([State.twbAddr k, s.getF Fld.TWB_C_CMD_CODE, s.getF Fld.TWB_C_CMD_WLEN] ++ s.cData.take (s.getF Fld.TWB_C_CMD_WLEN) ++ [State.twbAddr k + 1])

/-- TWB_FIXED_WRITE (R489). -/
def twbFixedWrite : Prop :=
  ∀ (s : State) (m k : Nat), s.twbMayGo m 12 = true →
    ∃ t, exec (.twbFixedWrite m k) s = .next t ∧ TwbStarted s t k 12 (([State.twbAddr k, s.getF Fld.TWB_C_CMD_CODE] ++ s.cData.take (s.getF Fld.TWB_C_CMD_WLEN)) ++ (if bitOf k 7 then [crc8 ([State.twbAddr k, s.getF Fld.TWB_C_CMD_CODE] ++ s.cData.take (s.getF Fld.TWB_C_CMD_WLEN))] else []))

/-- TWB_FIXED_READ (R489). -/
def twbFixedRead : Prop :=
  ∀ (s : State) (m k : Nat), s.twbMayGo m 13 = true →
    ∃ t, exec (.twbFixedRead m k) s = .next t ∧ TwbStarted s t k 13 ([State.twbAddr k, s.getF Fld.TWB_C_CMD_CODE, State.twbAddr k + 1])

/-- TWB_IDENT_READ (R485). -/
def twbIdentRead : Prop :=
  ∀ (s : State) (l : Nat) (p : Bool), s.live = true → s.tgtReady = true →
    ∃ t, exec (.twbIdentRead 1 l p) s = .next t ∧
      t.sent = ⟨.twb, 1, [12] ++ ([Reg.SYS_IDENT, Reg.SYS_SERIAL_LO, Reg.SYS_SERIAL_HI].flatMap (fun a => leBytes 4 (s.peek a))).take l ++
        (if p = true ∧ 12 ≤ l then [crc8 ([2 * s.tgtAddr, 1, 2 * s.tgtAddr + 1, 12] ++ [Reg.SYS_IDENT, Reg.SYS_SERIAL_LO, Reg.SYS_SERIAL_HI].flatMap (fun a => leBytes 4 (s.peek a)))] else [])⟩ :: s.sent ∧
      RegsBut [Reg.TWB_TGT_READS] s t ∧ Added [] s t

/-- TWB_MODE_READ (R485). -/
def twbModeRead : Prop :=
  ∀ (s : State) (l : Nat) (p : Bool), s.live = true → s.tgtReady = true →
    ∃ t, exec (.twbModeRead 2 l p) s = .next t ∧
      t.sent = ⟨.twb, 2, [16] ++ ([Reg.MODE_STATE, Reg.MODE_LATCH, Reg.MODE_REQ_RESULT, Reg.SYS_RESET_CAUSE].flatMap (fun a => leBytes 4 (s.peek a))).take l ++
        (if p = true ∧ 16 ≤ l then [crc8 ([2 * s.tgtAddr, 2, 2 * s.tgtAddr + 1, 16] ++ [Reg.MODE_STATE, Reg.MODE_LATCH, Reg.MODE_REQ_RESULT, Reg.SYS_RESET_CAUSE].flatMap (fun a => leBytes 4 (s.peek a)))] else [])⟩ :: s.sent ∧
      RegsBut [Reg.TWB_TGT_READS] s t ∧ Added [] s t

/-- TWB_HOURS_READ (R485). -/
def twbHoursRead : Prop :=
  ∀ (s : State) (l : Nat) (p : Bool), s.live = true → s.tgtReady = true →
    ∃ t, exec (.twbHoursRead 3 l p) s = .next t ∧
      t.sent = ⟨.twb, 3, [8] ++ ([Reg.SYS_HOURS, Reg.SYS_POWER_CYCLES].flatMap (fun a => leBytes 4 (s.peek a))).take l ++
        (if p = true ∧ 8 ≤ l then [crc8 ([2 * s.tgtAddr, 3, 2 * s.tgtAddr + 1, 8] ++ [Reg.SYS_HOURS, Reg.SYS_POWER_CYCLES].flatMap (fun a => leBytes 4 (s.peek a)))] else [])⟩ :: s.sent ∧
      RegsBut [Reg.TWB_TGT_READS] s t ∧ Added [] s t

/-- TWB_ADDR_READ (R485). -/
def twbAddrRead : Prop :=
  ∀ (s : State) (l : Nat) (p : Bool), s.live = true → s.tgtReady = true →
    ∃ t, exec (.twbAddrRead 4 l p) s = .next t ∧
      t.sent = ⟨.twb, 4, [12] ++ ([Reg.AUX_ADDR, Reg.AUX_ADDR_IO, Reg.AUX_START_STATUS].flatMap (fun a => leBytes 4 (s.peek a))).take l ++
        (if p = true ∧ 12 ≤ l then [crc8 ([2 * s.tgtAddr, 4, 2 * s.tgtAddr + 1, 12] ++ [Reg.AUX_ADDR, Reg.AUX_ADDR_IO, Reg.AUX_START_STATUS].flatMap (fun a => leBytes 4 (s.peek a)))] else [])⟩ :: s.sent ∧
      RegsBut [Reg.TWB_TGT_READS] s t ∧ Added [] s t

/-- TWB_IDENT_READ (R485), case `busy`. -/
def twbTarget_busy : Prop :=
  ∀ (s : State) (c l : Nat) (p : Bool), s.live = true → s.tgtReady = false →
    ∃ t, exec (.twbIdentRead c l p) s = .next t ∧ t.sent = s.sent ∧ t.getReg Reg.TWB_BUSY_NACKS = min (2 ^ 32 - 1) (s.getReg Reg.TWB_BUSY_NACKS + 1) ∧
      RegsBut [Reg.TWB_BUSY_NACKS] s t ∧ Added [] s t

/-- TWB_IDENT_READ (R485), case `unknown`. -/
def twbTarget_unknown : Prop :=
  ∀ (s : State) (c l : Nat) (p : Bool), s.live = true → s.tgtReady = true → c ∉ tgtCodes →
    ∃ t, exec (.twbIdentRead c l p) s = .next t ∧ t.sent = s.sent ∧ t.getReg Reg.TWB_CMD_ERR = min (2 ^ 32 - 1) (s.getReg Reg.TWB_CMD_ERR + 1) ∧
      Added [Ev.TWB_CMD_UNKNOWN] s t ∧
      RegsBut [Reg.TWB_CMD_ERR, Reg.SEQ_COALESCED] s t

/-- TWB_POINTER_WRITE (R485). -/
def twbPointerWrite : Prop :=
  ∀ (s : State) (a : Nat) (p : Option Nat), s.live = true → s.tgtReady = true →
    ∃ t, exec (.twbPointerWrite 0x10 a p) s = .next t ∧ t.sent = s.sent ∧
      (p = some (crc8 ([2 * s.tgtAddr, 0x10, 4] ++ leBytes 4 a)) ∨ (p = none ∧ s.flag Fld.TWB_TGT_CTL_PEC_REQ = false) →
        t.getReg Reg.TWB_TGT_POINTER = a % 2 ^ 32 ∧ RegsBut [Reg.TWB_TGT_POINTER, Reg.TWB_TGT_READS] s t ∧ Added [] s t) ∧
      (p = none ∧ s.flag Fld.TWB_TGT_CTL_PEC_REQ = true → RegsBut [Reg.TWB_TGT_READS] s t ∧ Added [] s t) ∧
      (p.isSome ∧ p ≠ some (crc8 ([2 * s.tgtAddr, 0x10, 4] ++ leBytes 4 a)) → t.getReg Reg.TWB_TGT_POINTER = s.getReg Reg.TWB_TGT_POINTER ∧ Added [Ev.TWB_PEC_ERR] s t)

/-- TWB_POINTER_READ (R485). -/
def twbPointerRead : Prop :=
  ∀ (s : State) (l : Nat) (p : Bool), s.live = true → s.tgtReady = true → s.getReg Reg.TWB_TGT_POINTER = Reg.SYS_SERIAL_LO ∨ s.getReg Reg.TWB_TGT_POINTER = Reg.SYS_IDENT →
    ∃ t, exec (.twbPointerRead 0x11 l p) s = .next t ∧ t.getReg Reg.TWB_TGT_POINTER = s.getReg Reg.TWB_TGT_POINTER + 4 ∧
      (p = false → t.sent = ⟨.twb, 0x11, 5 :: ([0] ++ leBytes 4 (s.peek (s.getReg Reg.TWB_TGT_POINTER))).take l⟩ :: s.sent) ∧ Added [] s t ∧
      RegsBut [Reg.TWB_TGT_POINTER, Reg.TWB_TGT_READS] s t

/-- TWB_POINTER_READ (R485), case `refused`. -/
def twbPointerRead_refused : Prop :=
  ∀ (s : State) (l : Nat) (p : Bool), s.live = true → s.tgtReady = true → s.getReg Reg.TWB_TGT_POINTER < 4 → s.getReg Reg.TWB_TGT_POINTER ≠ 0 →
    ∃ t, exec (.twbPointerRead 0x11 l p) s = .next t ∧ t.getReg Reg.TWB_TGT_POINTER = s.getReg Reg.TWB_TGT_POINTER ∧ t.freeCtr = s.freeCtr + 1 ∧
      RegsBut [Reg.SYS_ACCESS_ERR_ADDR, Reg.SYS_ACCESS_ERR, Reg.TWB_TGT_READS, Reg.SEQ_COALESCED] s t

/-- TWB_FIXED_POINTER_READ (R485). -/
def twbFixedPointerRead : Prop :=
  ∀ (s : State) (l : Nat) (p : Bool), s.live = true → s.tgtReady = true → s.getReg Reg.TWB_TGT_POINTER = Reg.SYS_SERIAL_LO ∨ s.getReg Reg.TWB_TGT_POINTER = Reg.SYS_IDENT →
    ∃ t, exec (.twbFixedPointerRead 0x12 l p) s = .next t ∧ t.getReg Reg.TWB_TGT_POINTER = s.getReg Reg.TWB_TGT_POINTER ∧
      (p = false → t.sent = ⟨.twb, 0x12, (leBytes 4 (s.peek (s.getReg Reg.TWB_TGT_POINTER))).take l⟩ :: s.sent) ∧ Added [] s t ∧
      RegsBut [Reg.TWB_TGT_READS] s t

/-- TWB_PROTO_ERR (R488). -/
def twbProtoErr : Prop :=
  ∀ (s : State), s.live = true →
    ∃ t, exec .twbProtoErr s = .next t ∧ t.getReg Reg.TWB_PROTO_ERRS = min (2 ^ 32 - 1) (s.getReg Reg.TWB_PROTO_ERRS + 1) ∧ Added [Ev.TWB_PROTO_ERR] s t ∧
      RegsBut [Reg.TWB_PROTO_ERRS, Reg.SEQ_COALESCED] s t ∧ t.twb = s.twb

/-- TWB_TGT_TIMEOUT (R491). -/
def twbTgtTimeout : Prop :=
  ∀ (s : State), s.live = true →
    ∃ t, exec .twbTgtTimeout s = .next t ∧ t.getReg Reg.TWB_TIMEOUTS = min (2 ^ 32 - 1) (s.getReg Reg.TWB_TIMEOUTS + 1) ∧ Added [Ev.TWB_TIMEOUT] s t ∧
      RegsBut [Reg.TWB_TIMEOUTS, Reg.SEQ_COALESCED] s t

/-- TWB_CANCEL (R489). -/
def twbCancel : Prop :=
  ∀ (s : State) (m : Nat) (r : TwbRun), s.permits m Reg.TWB_C_CTL = true → s.twb.run = some r → r.started = false → r.retried = false →
    ∃ t, exec (.twbCancel m) s = .next t ∧ t.twb = { s.twb with run := none } ∧ t.getReg Reg.TWB_C_STATUS = 0x0B00 ∧ Added [Ev.TWB_C_FAIL] s t ∧
      RegsBut [Reg.TWB_C_STATUS, Reg.SEQ_COALESCED] s t

/-- TWB_CANCEL (R489), case `started`. -/
def twbCancel_started : Prop :=
  ∀ (s : State) (m : Nat) (r : TwbRun), s.permits m Reg.TWB_C_CTL = true → s.twb.run = some r → r.started = true →
    ∃ t, exec (.twbCancel m) s = .next t ∧ t = s

/-- TWB_BUS_FREE (R490). -/
def twbBusFree : Prop :=
  ∀ (s : State) (r : TwbRun), s.live = true → s.twb.run = some r → r.started = false → r.pec = false →
    ∃ t, exec .twbBusFree s = .next t ∧ t = { s with twb := { free := false, run := some { r with started := true } }, sent := ⟨.twb, 0x100 + r.prot, r.bytes⟩ :: s.sent }

/-- TWB_BUS_FREE (R490), case `idle`. -/
def twbBusFree_idle : Prop :=
  ∀ (s : State), s.live = true → s.twb.run = none →
    ∃ t, exec .twbBusFree s = .next t ∧ t = { s with twb := { s.twb with free := true } }

/-- C_DONE (R489), case `nack`. -/
def cDone_nack : Prop :=
  ∀ (s : State) (x : TwbResult) (r : TwbRun), s.live = true → s.twb.run = some r → r.started = true → r.retried = false → x.code = 2 ∨ x.code = 3 → s.arrivedNow goKey = false →
    ∃ t, exec (.cDone x) s = .next t ∧ t.twb = { s.twb with run := none } ∧ t.getReg Reg.TWB_C_STATUS = x.code * 256 ∧ Added [Ev.TWB_C_FAIL] s t ∧
      RegsBut [Reg.TWB_C_STATUS, Reg.SEQ_COALESCED] s t

/-- C_DONE (R489), case `thenGo`. -/
def cDone_thenGo : Prop :=
  ∀ (s : State) (x : TwbResult) (r : TwbRun), s.live = true → s.twb.run = some r → r.started = true → x.code = 2 → s.arrivedNow goKey = true → s.twb.free = false →
      s.flag Fld.TWB_BUS_CFG_HOLDER_ONLY = false → s.getReg Reg.TWB_C_CMD % 16 = 5 →
    ∃ t, exec (.cDone x) s = .next t ∧ t.twb = ⟨false, some ⟨s.getReg Reg.TWB_C_CTL, s.getReg Reg.TWB_C_CMD, s.cData, false, false⟩⟩ ∧
      t.flag Fld.TWB_C_STATUS_BUSY = true ∧ t.getF Fld.TWB_C_STATUS_RESULT = 2 ∧ t.waits Ev.TWB_C_FAIL = true ∧
      RegsBut [Reg.TWB_C_STATUS, Reg.SEQ_COALESCED] s t

/-- C_DONE (R489). -/
def cDone : Prop :=
  ∀ (s : State) (x : TwbResult) (r : TwbRun), s.live = true → s.twb.run = some r → r.started = true → r.prot = 5 → r.pec = false → x.code = 1 → x.data.length = 1 → s.arrivedNow goKey = false →
    ∃ t, exec (.cDone x) s = .next t ∧ t.twb = { s.twb with run := none } ∧ t.getF Fld.TWB_C_STATUS_RESULT = 1 ∧ t.getF Fld.TWB_C_STATUS_COUNT = 1 ∧ t.flag Fld.TWB_C_STATUS_BUSY = false ∧
      t.getReg (Reg.TWB_C_DATA 0) % 256 = x.data.headD 0 % 256 ∧ Added [Ev.TWB_C_DONE] s t ∧ RegsBut [Reg.TWB_C_STATUS, Reg.TWB_C_DATA 0, Reg.SEQ_COALESCED] s t

/-- C_DONE (R489), case `pec`. -/
def cDone_pec : Prop :=
  ∀ (s : State) (x : TwbResult) (r : TwbRun), s.live = true → s.twb.run = some r → r.started = true → r.prot = 5 → r.pec = true → x.code = 1 → 256 ≤ x.pec → s.arrivedNow goKey = false →
    ∃ t, exec (.cDone x) s = .next t ∧ t.twb.run = none ∧ t.getF Fld.TWB_C_STATUS_RESULT = 7 ∧ Added [Ev.TWB_PEC_ERR, Ev.TWB_C_FAIL] s t ∧
      RegsBut [Reg.TWB_C_STATUS, Reg.TWB_C_DATA 0, Reg.TWB_PEC_ERRS, Reg.SEQ_COALESCED] s t

/-- C_DONE (R489), case `long`. -/
def cDone_long : Prop :=
  ∀ (s : State) (x : TwbResult) (r : TwbRun), s.live = true → s.twb.run = some r → r.started = true → r.prot = 10 → x.code = 1 → min 32 r.rlen < x.count → s.arrivedNow goKey = false →
    ∃ t, exec (.cDone x) s = .next t ∧ t.twb.run = none ∧ t.getF Fld.TWB_C_STATUS_RESULT = 8 ∧ Added [Ev.TWB_C_FAIL] s t

/-- ARB_LOST (R492). -/
def arbLost : Prop :=
  ∀ (s : State) (r : TwbRun), s.live = true → s.twb.run = some r → r.started = true → r.retried = false → s.arrivedNow goKey = false →
    ∃ t, exec (.arbLost false) s = .next t ∧ t.getReg Reg.TWB_ARB_LOSSES = min (2 ^ 32 - 1) (s.getReg Reg.TWB_ARB_LOSSES + 1) ∧
      (bitOf r.ctl 8 = true → t.twb = { s.twb with run := some { r with started := false, retried := true } } ∧ Added [Ev.TWB_ARB_LOST] s t) ∧
      (bitOf r.ctl 8 = false → t.twb = { s.twb with run := none } ∧ t.getReg Reg.TWB_C_STATUS = 0x0400 ∧ Added [Ev.TWB_ARB_LOST, Ev.TWB_C_FAIL] s t) ∧
      RegsBut [Reg.TWB_C_STATUS, Reg.TWB_ARB_LOSSES, Reg.SEQ_COALESCED] s t

/-- ARB_LOST (R492), case `afterSr`. -/
def arbLost_afterSr : Prop :=
  ∀ (s : State) (r : TwbRun), s.live = true → s.twb.run = some r → r.started = true → s.arrivedNow goKey = false →
    ∃ t, exec (.arbLost true) s = .next t ∧ t.twb = { s.twb with run := none } ∧ t.getF Fld.TWB_C_STATUS_RESULT = 5 ∧ Added [Ev.TWB_ARB_LOST_SR, Ev.TWB_C_FAIL] s t ∧
      RegsBut [Reg.TWB_C_STATUS, Reg.SEQ_COALESCED] s t

/-- TWB_C_TIMEOUT (R491). -/
def twbCTimeout : Prop :=
  ∀ (s : State), s.live = true → s.twb.run.isSome → s.arrivedNow goKey = false →
    ∃ t, exec .twbCTimeout s = .next t ∧ t.twb = { s.twb with run := none } ∧ t.getF Fld.TWB_C_STATUS_RESULT = 6 ∧ Added [Ev.TWB_TIMEOUT, Ev.TWB_C_FAIL] s t ∧
      RegsBut [Reg.TWB_C_STATUS, Reg.SEQ_COALESCED] s t

/-- BUS_STUCK (R491). -/
def busStuck : Prop :=
  ∀ (s : State) (b : Bool) (r : TwbRun), s.live = true → s.twb.run = some r → r.started = false → s.arrivedNow goKey = false →
    ∃ t, exec (.busStuck b) s = .next t ∧ t.twb = { s.twb with run := none } ∧ t.getF Fld.TWB_C_STATUS_RESULT = 9 ∧ t.sent = ⟨.twb, 0x200, [b2n b]⟩ :: s.sent ∧
      Added [Ev.TWB_BUS_STUCK, Ev.TWB_C_FAIL] s t ∧
      RegsBut [Reg.TWB_C_STATUS, Reg.SEQ_COALESCED] s t

/-- UPD_BEGIN (R499). -/
def updBegin : Prop :=
  ∀ (s : State) (m : Nat), s.permits m Reg.UPD_CTL = true → s.upd.state = 0 → s.upd.abortWait = false →
    ∃ t, exec (.updBegin m) s = .next t ∧ t.upd = { s.upd with state := 1, rx := [], cur := none } ∧ t.getReg Reg.UPD_RECEIVED = 0 ∧ t.getF Fld.UPD_STATE_REJECT = 0 ∧
      t.getF Fld.UPD_STATE_STATE = 1 ∧ Added [] s t ∧
      RegsBut [Folio.STATUS Pg.UPD, Reg.UPD_STATE, Reg.UPD_RECEIVED, Reg.UPD_STAGED_KINDS] s t

/-- UPD_BEGIN (R499), case `busy`. -/
def updBegin_busy : Prop :=
  ∀ (s : State) (m : Nat), s.permits m Reg.UPD_CTL = true → s.upd.state ≠ 0 → s.upd.abortWait = false →
    ∃ t, exec (.updBegin m) s = .next t ∧ t.upd = s.upd ∧ t.getF Fld.UPD_STATE_REJECT = 0x0D ∧ Added [Ev.UPD_REJECTED] s t ∧
      RegsBut [Reg.UPD_STATE, Reg.SEQ_COALESCED] s t

/-- UPD_BEGIN (R499), case `afterAbort`. -/
def updBegin_afterAbort : Prop :=
  ∀ (s : State) (m : Nat), s.permits m Reg.UPD_CTL = true → s.upd.state ≠ 0 → s.upd.abortWait = true →
    ∃ t, exec (.updBegin m) s = .next t ∧ t.upd = { s.upd with state := 1, rx := [], cur := none, abortWait := false } ∧ t.getReg Reg.UPD_RECEIVED = 0 ∧ Added [] s t ∧
      RegsBut [Folio.STATUS Pg.UPD, Reg.UPD_STATE, Reg.UPD_RECEIVED, Reg.UPD_STAGED_KINDS] s t

/-- UPD_DATA (R499). -/
def updData : Prop :=
  ∀ (s : State) (m v : Nat), s.permits m Reg.UPD_DATA = true → s.upd.state = 1 → s.upd.rx.length ≤ 508 →
    ∃ t, exec (.updData m v) s = .next t ∧ t.upd.rx = (leBytes 4 v).reverse ++ s.upd.rx ∧ t.getReg Reg.UPD_RECEIVED = s.upd.rx.length + 4 ∧
      t.upd.state = (if s.upd.rx.length = 508 then 2 else 1) ∧ Added [] s t ∧
      RegsBut [Folio.STATUS Pg.UPD, Reg.UPD_STATE, Reg.UPD_RECEIVED, Reg.UPD_STAGED_KINDS] s t

/-- UPD_DATA (R499), case `body`. -/
def updData_body : Prop :=
  ∀ (s : State) (m v : Nat) (p : Payload), s.permits m Reg.UPD_DATA = true → s.upd.state = 3 → s.upd.cur = some p → s.upd.rx.length < p.bodyLen → p.bodyLen ≤ 2 ^ 24 →
    ∃ t, exec (.updData m v) s = .next t ∧ (s.upd.rx.length + 4 < p.bodyLen → t.upd = { s.upd with rx := (leBytes 4 v).reverse ++ s.upd.rx }) ∧
      (p.bodyLen ≤ s.upd.rx.length + 4 → t.upd = { s.upd with rx := [], state := 4, cur := some { p with body := s.upd.rx.reverse ++ (leBytes 4 v).take (p.bodyLen - s.upd.rx.length) } }) ∧
      t.getReg Reg.UPD_RECEIVED = 512 + min p.bodyLen (s.upd.rx.length + 4) ∧
      RegsBut [Folio.STATUS Pg.UPD, Reg.UPD_STATE, Reg.UPD_RECEIVED, Reg.UPD_STAGED_KINDS] s t

/-- UPD_DATA (R499), case `refused`. -/
def updData_refused : Prop :=
  ∀ (s : State) (m v : Nat), s.permits m Reg.UPD_DATA = true → s.upd.state ≠ 1 → s.upd.state ≠ 3 →
    ∃ t, exec (.updData m v) s = .next t ∧ t.upd = s.upd ∧ Added [Ev.UPD_DATA_REFUSED] s t ∧ RegsBut [Reg.SEQ_COALESCED] s t

/-- HEADER_CHECK_DONE (R499). -/
def headerCheckDone : Prop :=
  ∀ (s : State) (g : Bool), s.live = true → s.upd.state = 2 → s.headerFault s.upd.rx.reverse g = 0 → (headerOf s.upd.rx.reverse).kind ≠ Pk.app → (headerOf s.upd.rx.reverse).kind ≠ Pk.safe →
    ∃ t, exec (.headerCheckDone g) s = .next t ∧ t.upd.state = 3 ∧ t.upd.cur = some (headerOf s.upd.rx.reverse) ∧ t.upd.rx = [] ∧
      t.upd.ready = s.upd.ready.filter (fun q => q.kind != (headerOf s.upd.rx.reverse).kind) ∧ Added [Ev.UPD_HEADER_OK] s t ∧
      RegsBut [Folio.STATUS Pg.UPD, Reg.UPD_STATE, Reg.UPD_STAGED_KINDS, Reg.SEQ_COALESCED] s t

/-- HEADER_CHECK_DONE (R499), case `rejected`. -/
def headerCheckDone_rejected : Prop :=
  ∀ (s : State) (g : Bool), s.live = true → s.upd.state = 2 → s.headerFault s.upd.rx.reverse g ≠ 0 →
    ∃ t, exec (.headerCheckDone g) s = .next t ∧ t.upd = { s.upd with state := 0, rx := [], cur := none } ∧ t.getF Fld.UPD_STATE_REJECT = s.headerFault s.upd.rx.reverse g ∧ Added [Ev.UPD_REJECTED] s t ∧
      RegsBut [Folio.STATUS Pg.UPD, Reg.UPD_STATE, Reg.UPD_STAGED_KINDS, Reg.SEQ_COALESCED] s t

/-- PAYLOAD_VERIFIED (R500). -/
def payloadVerified : Prop :=
  ∀ (s : State) (b : BodyCheck) (p : Payload), s.live = true → s.upd.state = 4 → s.upd.cur = some p → sha256 p.body = p.hash → p.kind = Pk.node ∨ p.kind = Pk.ostage →
    ∃ t, exec (.payloadVerified b) s = .next t ∧ t.upd = { s.upd with state := 0, cur := none, rx := [], ready := s.upd.ready ++ [p], store := p :: s.upd.store } ∧ Added [Ev.UPD_READY] s t ∧ t.getF Fld.UPD_STATE_KIND = 0 ∧
      RegsBut [Folio.STATUS Pg.UPD, Reg.UPD_STATE, Reg.UPD_STAGED_KINDS, Reg.SEQ_COALESCED] s t

/-- PAYLOAD_VERIFIED (R500), case `record`. -/
def payloadVerified_record : Prop :=
  ∀ (s : State) (b : BodyCheck) (p : Payload), s.live = true → s.upd.state = 4 → s.upd.cur = some p → sha256 p.body = p.hash → p.kind = Pk.record →
    ∃ t, exec (.payloadVerified b) s = .next t ∧
      t.upd.ready = (if b.record.any (fun r => !r.conflicts s.variant && r.checked) = true then s.upd.ready ++ [{ p with record := b.record }] else s.upd.ready) ∧
      (b.record.any (fun r => !r.conflicts s.variant && r.checked) = false → t.getF Fld.UPD_STATE_REJECT = 0x0C ∧ t.waits Ev.UPD_REJECTED = true) ∧
      (b.record.any (fun r => r.conflicts s.variant) = true → t.waits Ev.SYS_VARIANT_CONFLICT = true) ∧
      RegsBut [Folio.STATUS Pg.UPD, Reg.UPD_STATE, Reg.UPD_STAGED_KINDS, Reg.SEQ_COALESCED] s t

/-- PAYLOAD_VERIFIED (R500), case `badHash`. -/
def payloadVerified_badHash : Prop :=
  ∀ (s : State) (b : BodyCheck) (p : Payload), s.live = true → s.upd.state = 4 → s.upd.cur = some p → sha256 p.body ≠ p.hash →
    ∃ t, exec (.payloadVerified b) s = .next t ∧ t.upd = { s.upd with state := 0, rx := [], cur := none } ∧ t.getF Fld.UPD_STATE_REJECT = 0x0B ∧ Added [Ev.UPD_REJECTED] s t ∧
      RegsBut [Folio.STATUS Pg.UPD, Reg.UPD_STATE, Reg.UPD_STAGED_KINDS, Reg.SEQ_COALESCED] s t

/-- UPD_ABORT (R501). -/
def updAbort : Prop :=
  ∀ (s : State) (m : Nat), s.permits m Reg.UPD_CTL = true →
    ∃ t, exec (.updAbort m) s = .next t ∧ t.upd = { s.upd with abortWait := true } ∧ Added [⟨Pg.UPD, 40⟩] s t ∧ RegsBut [Reg.SEQ_COALESCED] s t

/-- UPD_ARM (R503). -/
def updArm : Prop :=
  ∀ (s : State) (m v : Nat), s.permitsKeyed m Reg.UPD_CTL 0x9A3F = true → bitOf v 3 = true → bitOf v 5 = true → s.upd.ready.filter (fun p => bitOf (bitsOf v 11 7) (p.kind - 1)) ≠ [] → s.upd.abortWait = false →
    ∃ t, exec (.updArm m v) s = .next t ∧ t.upd = { s.upd with nextStart := s.upd.ready.filter (fun p => bitOf (bitsOf v 11 7) (p.kind - 1)) } ∧ Added [Ev.UPD_ARMED] s t ∧
      t.getF (Folio.LOCK_KEY Pg.UPD) = 0 ∧
      RegsBut [Folio.LOCK Pg.UPD, Folio.STATUS Pg.UPD, Reg.UPD_STATE, Reg.UPD_STAGED_KINDS, Reg.SEQ_COALESCED] s t

/-- UPD_ARM (R503), case `at`. -/
def updArm_at : Prop :=
  ∀ (s : State) (m v : Nat), s.permitsKeyed m Reg.UPD_CTL 0x9A3F = true → bitOf v 3 = true → bitOf v 5 = false → s.upd.ready.filter (fun p => bitOf (bitsOf v 11 7) (p.kind - 1)) ≠ [] → s.getReg Reg.UPD_ACTIVATE_AT ≠ 0 → s.upd.abortWait = false →
    ∃ t, exec (.updArm m v) s = .next t ∧
      (0 < sInt 32 (toU 32 ((s.getReg Reg.UPD_ACTIVATE_AT : Int) - s.stamp)) → t.upd = { s.upd with armed := s.upd.ready.filter (fun p => bitOf (bitsOf v 11 7) (p.kind - 1)) } ∧ Added [Ev.UPD_ARMED] s t) ∧
      (sInt 32 (toU 32 ((s.getReg Reg.UPD_ACTIVATE_AT : Int) - s.stamp)) ≤ 0 → t.upd = s.upd ∧ t.getF Fld.UPD_STATE_RESULT = 0x10 ∧ Added [] s t) ∧
      RegsBut [Folio.LOCK Pg.UPD, Folio.STATUS Pg.UPD, Reg.UPD_STATE, Reg.UPD_STAGED_KINDS, Reg.SEQ_COALESCED] s t

/-- UPD_ARM (R503), case `atOnce`. -/
def updArm_atOnce : Prop :=
  ∀ (s : State) (m v : Nat), s.permitsKeyed m Reg.UPD_CTL 0x9A3F = true → bitOf v 3 = true → bitOf v 5 = false → s.upd.ready.filter (fun p => bitOf (bitsOf v 11 7) (p.kind - 1)) ≠ [] → s.getReg Reg.UPD_ACTIVATE_AT = 0 → s.upd.abortWait = false →
    ∃ t, exec (.updArm m v) s = .next t ∧ t.upd = { s.upd with armed := s.upd.ready.filter (fun p => bitOf (bitsOf v 11 7) (p.kind - 1)) } ∧
      Added [Ev.UPD_ARMED, ⟨Pg.UPD, 43⟩] s t ∧ RegsBut [Folio.LOCK Pg.UPD, Folio.STATUS Pg.UPD, Reg.UPD_STATE, Reg.UPD_STAGED_KINDS, Reg.SEQ_COALESCED] s t

/-- UPD_REVERT (R502). -/
def updRevert : Prop :=
  ∀ (s : State) (m v : Nat) (p : Payload), s.permitsKeyed m Reg.UPD_CTL 0x9A3F = true → bitOf v 4 = true → bitOf (bitsOf v 11 7) 0 = true → s.bankOf Pk.app (1 - s.bankNo Pk.app) = some p → (s.upd.floors[0]?).getD 0 ≤ p.epoch → s.upd.abortWait = false →
    ∃ t, exec (.updRevert m v) s = .next t ∧ t.waits Ev.UPD_ARMED = true ∧ t.waits ⟨Pg.UPD, 43⟩ = true ∧ p ∈ t.upd.armed ∧
      RegsBut [Folio.STATUS Pg.UPD, Folio.LOCK Pg.UPD, Reg.UPD_STATE, Reg.UPD_STAGED_KINDS, Reg.SEQ_COALESCED] s t

/-- UPD_REVERT (R502), case `none`. -/
def updRevert_none : Prop :=
  ∀ (s : State) (m v : Nat), s.permitsKeyed m Reg.UPD_CTL 0x9A3F = true → bitOf v 4 = false ∨ bitsOf v 11 7 % 4 = 0 ∨ (s.bankOf Pk.app (1 - s.bankNo Pk.app) = none ∧ s.bankOf Pk.safe (1 - s.bankNo Pk.safe) = none) → s.upd.abortWait = false →
    ∃ t, exec (.updRevert m v) s = .next t ∧ t.upd = s.upd ∧ t.getF (Folio.LOCK_KEY Pg.UPD) = 0 ∧ Added [] s t ∧ RegsBut [(Folio.LOCK_KEY Pg.UPD).addr] s t

/-- ACTIVATE_AT_DUE (R504). -/
def activateAtDue : Prop :=
  ∀ (s : State), s.live = true → s.upd.armed ≠ [] →
    ∃ t, exec .activateAtDue s = .next t ∧ t.upd = s.upd ∧ Added [⟨Pg.UPD, 42⟩] s t ∧ RegsBut [Reg.SEQ_COALESCED] s t

/-- ACTIVATE_AT_DUE (R504), case `none`. -/
def activateAtDue_none : Prop :=
  ∀ (s : State), s.upd.armed = [] →
    ∃ t, exec .activateAtDue s = .next t ∧ t = s

/-- KEY_REVOKE (R497). -/
def keyRevoke : Prop :=
  ∀ (s : State) (m v : Nat), s.permitsKeyed m Reg.UPD_KEY_REVOKE 0x9A3F = true →
    ∃ t, exec (.keyRevoke m v) s = .next t ∧ t.getF (Folio.LOCK_KEY Pg.UPD) = 0 ∧
      (s.getReg Reg.UPD_KEY_STATE % 16 ||| v % 16 ≠ 15 → s.getReg Reg.UPD_KEY_STATE % 16 ||| v % 16 ≠ s.getReg Reg.UPD_KEY_STATE % 16 →
        t.getReg Reg.UPD_KEY_STATE = s.getReg Reg.UPD_KEY_STATE % 16 ||| v % 16 ∧ Added [Ev.UPD_KEY_REVOKED] s t) ∧
      (s.getReg Reg.UPD_KEY_STATE % 16 ||| v % 16 = 15 → t.getReg Reg.UPD_KEY_STATE = s.getReg Reg.UPD_KEY_STATE ∧ Added [] s t) ∧
      RegsBut [Folio.LOCK Pg.UPD, Reg.UPD_KEY_STATE, Reg.SEQ_COALESCED] s t

/-- NFW_RESULT (R505). -/
def nfwResult : Prop :=
  ∀ (s : State) (i : Nat) (n : NodeUpd) (d : List Nat), s.live = true → s.upd.node = some n → n.left.headD 0 = i → n.waits = false → n.rejoin = false → n.op = 2 → (n.block + 1) * 4096 < n.payload.bodyLen → s.cur ≠ Md.assay →
      s.aux.nodeRepeat = false → s.sampling = false → d = (n.payload.body.drop (4096 * (n.block + 1))).take 4096 →
    ∃ t, exec (.nfwResult i 1) s = .next t ∧ t.upd = { s.upd with node := some { n with block := n.block + 1 } } ∧ t.getF Fld.UPD_STATE_POS = i % 2 ^ 8 ∧
      (s.pair = true ∨ s.otherSeg = [] → s.portSends 0 = true →
        t.sent = chainFrame 0 ⟨0x05, s.dirBit 0, 0, s.chainEdition, 0, 0, 1, 0, 0⟩ ([i, 2] ++ beBytes 2 (n.block + 1) ++ beBytes 2 d.length ++ [0, 0] ++ d) :: s.sent)

/-- NFW_RESULT (R505), case `waits`. -/
def nfwResult_waits : Prop :=
  ∀ (s : State) (i : Nat) (n : NodeUpd), s.live = true → s.upd.node = some n → n.left.headD 0 = i → n.waits = false → n.rejoin = false → n.op = 2 → (n.block + 1) * 4096 < n.payload.bodyLen →
      s.aux.nodeRepeat = false → s.sampling = true →
    ∃ t, exec (.nfwResult i 1) s = .next t ∧ t.upd = { s.upd with node := some { n with block := n.block + 1, waits := true } } ∧ t.sent = s.sent ∧
      RegsBut [Reg.CHN_FRAMES_RX 0, Reg.CHN_FRAMES_RX 1] s t

/-- NFW_RESULT (R505), case `busy`. -/
def nfwResult_busy : Prop :=
  ∀ (s : State) (i : Nat) (n : NodeUpd), s.live = true → s.upd.node = some n → n.left.headD 0 = i → n.waits = false → n.rejoin = false → s.sampling = true →
    ∃ t, exec (.nfwResult i 2) s = .next t ∧ t.upd = { s.upd with node := some { n with waits := true } } ∧ t.sent = s.sent ∧
      RegsBut [Reg.CHN_FRAMES_RX 0, Reg.CHN_FRAMES_RX 1] s t

/-- NFW_RESULT (R505), case `again`. -/
def nfwResult_again : Prop :=
  ∀ (s : State) (i : Nat) (n : NodeUpd), s.live = true → s.upd.node = some n → n.left.headD 0 = i → n.waits = false → n.rejoin = false → n.again = false → n.op ≠ 1 → s.cur ≠ Md.assay → s.aux.nodeRepeat = false →
    ∃ t, exec (.nfwResult i 3) s = .next t ∧ t.upd = { s.upd with node := some { n with op := 1, block := 0, again := true, waits := s.sampling } }

/-- NFW_RESULT (R505), case `fail`. -/
def nfwResult_fail : Prop :=
  ∀ (s : State) (i r : Nat) (n : NodeUpd), s.live = true → s.upd.node = some n → n.left.headD 0 = i → n.waits = false → n.rejoin = false → n.op ≠ 1 → r = 0 ∨ r = 4 ∨ 6 ≤ r → s.aux.nodeRepeat = false →
    ∃ t, exec (.nfwResult i r) s = .next t ∧ t.upd.node = none ∧ t.waits Ev.UPD_ACTIVATE_FAIL = true ∧ t.getF Fld.UPD_STATE_RESULT = 0x12

/-- NFW_BUSY_TIMEOUT (R505). -/
def nfwBusyTimeout : Prop :=
  ∀ (s : State) (n : NodeUpd), s.live = true → s.upd.node = some n → n.rejoin = false → s.arrivedNow nfwKey = false → s.aux.nodeRepeat = false →
    ∃ t, exec .nfwBusyTimeout s = .next t ∧ t.upd.node = none ∧ t.waits Ev.UPD_ACTIVATE_FAIL = true ∧ t.getF Fld.UPD_STATE_RESULT = 0x12

/-- NFW_BUSY_TIMEOUT (R505), case `arrived`. -/
def nfwBusyTimeout_arrived : Prop :=
  ∀ (s : State), s.arrivedNow nfwKey = true →
    ∃ t, exec .nfwBusyTimeout s = .next t ∧ t = s

/-- NODE_REJOIN_TIMEOUT (R505). -/
def nodeRejoinTimeout : Prop :=
  ∀ (s : State) (n : NodeUpd), s.live = true → s.upd.node = some n → n.rejoin = true →
    ∃ t, exec .nodeRejoinTimeout s = .next t ∧ t.upd.node = none ∧ t.waits Ev.UPD_ACTIVATE_FAIL = true ∧
      (s.chain.rejoin = 0 → t.chain = s.chain ∧ t.getF Fld.UPD_STATE_RESULT = 0x12) ∧
      (s.chain.rejoin ≠ 0 → t.chain.rejoin = 0 ∧ t.getF Fld.NODE_ENUM_STATUS_BUSY = 0 ∧ t.waits Ev.NODE_REJOIN_DONE = true)

/-- LOAD_STATUS (R506), case `begin`. -/
def loadStatus_begin : Prop :=
  ∀ (s : State) (x o : Nat) (l : Load), s.live = true → s.upd.load = some l → l.phase = 1 → l.acked = 0 → l.sentTo = 0 → 0 < l.payload.bodyLen → l.payload.bodyLen ≤ 28 → l.payload.body.length = l.payload.bodyLen →
    ∃ t, exec (.loadStatus x o 1) s = .next t ∧ t = { s with upd := { s.upd with load := some { l with phase := 2, sentTo := l.payload.bodyLen } }, sent := ⟨.drive, 0x41, driveFrame s.drv.txSeq 0x41 (s.getReg Reg.PAIR_EDITION) (beBytes 4 0 ++ l.payload.body)⟩ :: s.sent, drv := { s.drv with txSeq := (s.drv.txSeq + 1) % 256 }, regs := t.regs, comp := t.comp } ∧ t.comp.waiting = s.comp.waiting ∧ RegsBut [Reg.DRV_FRAMES_RX, Reg.DRV_FRAMES_TX] s t

/-- LOAD_STATUS (R506), case `end`. -/
def loadStatus_end : Prop :=
  ∀ (s : State) (x o : Nat) (l : Load), s.live = true → s.upd.load = some l → l.phase = 2 → l.sentTo = l.payload.bodyLen → l.payload.bodyLen ≤ o → l.acked ≤ l.sentTo →
    ∃ t, exec (.loadStatus x o 1) s = .next t ∧ t = { s with upd := { s.upd with load := some { l with phase := 3, acked := l.payload.bodyLen } }, sent := ⟨.drive, 0x42, driveFrame s.drv.txSeq 0x42 (s.getReg Reg.PAIR_EDITION) (beBytes 4 l.payload.bodyLen)⟩ :: s.sent, drv := { s.drv with txSeq := (s.drv.txSeq + 1) % 256 }, regs := t.regs, comp := t.comp } ∧ t.comp.waiting = s.comp.waiting ∧ RegsBut [Reg.DRV_FRAMES_RX, Reg.DRV_FRAMES_TX] s t

/-- LOAD_STATUS (R506), case `activate`. -/
def loadStatus_activate : Prop :=
  ∀ (s : State) (x o : Nat) (l : Load), s.live = true → s.upd.load = some l → l.phase = 3 →
    ∃ t, exec (.loadStatus x o 1) s = .next t ∧ t = { s with upd := { s.upd with load := some { l with phase := 4 } }, sent := ⟨.drive, 0x43, driveFrame s.drv.txSeq 0x43 (s.getReg Reg.PAIR_EDITION) ([])⟩ :: s.sent, drv := { s.drv with txSeq := (s.drv.txSeq + 1) % 256 }, regs := t.regs, comp := t.comp } ∧ t.comp.waiting = s.comp.waiting ∧ RegsBut [Reg.DRV_FRAMES_RX, Reg.DRV_FRAMES_TX] s t

/-- LOAD_STATUS (R506), case `fail`. -/
def loadStatus_fail : Prop :=
  ∀ (s : State) (x o r : Nat) (l : Load), s.live = true → s.upd.load = some l → l.phase ≠ 4 → r = 3 ∨ r = 4 →
    ∃ t, exec (.loadStatus x o r) s = .next t ∧ t.upd.load = none ∧ ⟨.drive, 0x44, driveFrame s.drv.txSeq 0x44 (s.getReg Reg.PAIR_EDITION) ([])⟩ ∈ t.sent ∧ t.waits Ev.UPD_ACTIVATE_FAIL = true ∧ t.getF Fld.UPD_STATE_RESULT = 0x13 ∧ t.drv.claimPending = true

/-- LOAD_RESEND (R506). -/
def loadResend : Prop :=
  ∀ (s : State) (l : Load), s.live = true → s.upd.load = some l → l.phase = 2 → l.acked = 0 → 0 < l.payload.bodyLen → l.payload.bodyLen ≤ 28 → l.payload.body.length = l.payload.bodyLen → s.arrivedNow loadKey = false →
    ∃ t, exec .loadResend s = .next t ∧ t = { s with upd := { s.upd with load := some { l with sentTo := l.payload.bodyLen } }, sent := ⟨.drive, 0x41, driveFrame s.drv.txSeq 0x41 (s.getReg Reg.PAIR_EDITION) (beBytes 4 0 ++ l.payload.body)⟩ :: s.sent, drv := { s.drv with txSeq := (s.drv.txSeq + 1) % 256 }, regs := t.regs, comp := t.comp } ∧ t.comp.waiting = s.comp.waiting ∧ RegsBut [Reg.DRV_FRAMES_RX, Reg.DRV_FRAMES_TX] s t

/-- LOAD_RESEND (R506), case `arrived`. -/
def loadResend_arrived : Prop :=
  ∀ (s : State), s.arrivedNow loadKey = true →
    ∃ t, exec .loadResend s = .next t ∧ t = s

/-- LOAD_TIMEOUT (R506). -/
def loadTimeout : Prop :=
  ∀ (s : State) (l : Load), s.live = true → s.upd.load = some l → s.arrivedNow loadKey = false →
    ∃ t, exec .loadTimeout s = .next t ∧ t.upd.load = none ∧ ⟨.drive, 0x44, driveFrame s.drv.txSeq 0x44 (s.getReg Reg.PAIR_EDITION) ([])⟩ ∈ t.sent ∧ t.waits Ev.UPD_ACTIVATE_FAIL = true ∧ t.getF Fld.UPD_STATE_RESULT = 0x13

/-- LOAD_TIMEOUT (R506), case `arrived`. -/
def loadTimeout_arrived : Prop :=
  ∀ (s : State), s.arrivedNow loadKey = true →
    ∃ t, exec .loadTimeout s = .next t ∧ t = s

/-- What REGISTER_WRITE leaves as it was. -/
def keeps_registerWrite : Prop :=
  ∀ (s : State) (master addr width value : Nat), ∃ t, exec (.registerWrite master addr width value) s = .next t ∧
    t.pending = s.pending ∧ t.variant = s.variant ∧ t.record = s.record

/-- What OWNER_WRITE leaves as it was. -/
def keeps_ownerWrite : Prop :=
  ∀ (s : State) (master page value : Nat), ∃ t, exec (.ownerWrite master page value) s = .next t ∧
    t.pending = s.pending ∧ t.variant = s.variant ∧ t.record = s.record

/-- What LOCK_WRITE leaves as it was. -/
def keeps_lockWrite : Prop :=
  ∀ (s : State) (master page key : Nat), ∃ t, exec (.lockWrite master page key) s = .next t ∧
    t.pending = s.pending ∧ t.variant = s.variant ∧ t.record = s.record

/-- What LOCK_KEY_EXPIRY leaves as it was. -/
def keeps_lockKeyExpiry : Prop :=
  ∀ (s : State) (page : Nat), ∃ t, exec (.lockKeyExpiry page) s = .next t ∧
    t = { s with regs := t.regs, comp := t.comp, sent := t.sent, freeCtr := t.freeCtr }

/-- What READ_CLEAR leaves as it was. -/
def keeps_readClear : Prop :=
  ∀ (s : State) (master addr : Nat) (width : Nat := 4), ∃ t, exec (.readClear master addr width) s = .next t ∧
    t = { s with regs := t.regs, comp := t.comp, sent := t.sent, freeCtr := t.freeCtr, loops := t.loops, can := t.can, acc := t.acc }

/-- What LOW_WORD_READ leaves as it was. -/
def keeps_lowWordRead : Prop :=
  ∀ (s : State) (master addr : Nat) (width : Nat := 4), ∃ t, exec (.lowWordRead master addr width) s = .next t ∧
    t = { s with regs := t.regs, comp := t.comp, sent := t.sent, freeCtr := t.freeCtr, loops := t.loops, can := t.can, acc := t.acc }

/-- What VRA_OPEN leaves as it was. -/
def keeps_vraOpen : Prop :=
  ∀ (s : State) (port srcIp srcPort : Nat) (bytes : List Nat), ∃ t, exec (.vraOpen port srcIp srcPort bytes) s = .next t ∧
    t.pending = s.pending ∧ t.variant = s.variant ∧ t.record = s.record

/-- What VRA_READ leaves as it was. -/
def keeps_vraRead : Prop :=
  ∀ (s : State) (port srcIp srcPort : Nat) (bytes : List Nat), ∃ t, exec (.vraRead port srcIp srcPort bytes) s = .next t ∧
    t.pending = s.pending ∧ t.variant = s.variant ∧ t.record = s.record

/-- What VRA_WRITE leaves as it was. -/
def keeps_vraWrite : Prop :=
  ∀ (s : State) (port srcIp srcPort : Nat) (bytes : List Nat), ∃ t, exec (.vraWrite port srcIp srcPort bytes) s = .next t ∧
    t.pending = s.pending ∧ t.variant = s.variant ∧ t.record = s.record

/-- What VRA_WRITE_MASK leaves as it was. -/
def keeps_vraWriteMask : Prop :=
  ∀ (s : State) (port srcIp srcPort : Nat) (bytes : List Nat), ∃ t, exec (.vraWriteMask port srcIp srcPort bytes) s = .next t ∧
    t.pending = s.pending ∧ t.variant = s.variant ∧ t.record = s.record

/-- What VRA_CLOSE leaves as it was. -/
def keeps_vraClose : Prop :=
  ∀ (s : State) (port srcIp srcPort : Nat) (bytes : List Nat), ∃ t, exec (.vraClose port srcIp srcPort bytes) s = .next t ∧
    t.pending = s.pending ∧ t.variant = s.variant ∧ t.record = s.record

/-- What VRA_IDLE_TIMEOUT leaves as it was. -/
def keeps_vraIdleTimeout : Prop :=
  ∀ (s : State) (session : Nat), ∃ t, exec (.vraIdleTimeout session) s = .next t ∧
    t = { s with regs := t.regs, comp := t.comp, sent := t.sent, freeCtr := t.freeCtr, acc := t.acc }

/-- What VRA_SOURCE_BLOCK_END leaves as it was. -/
def keeps_vraSourceBlockEnd : Prop :=
  ∀ (s : State) (srcIp : Nat), ∃ t, exec (.vraSourceBlockEnd srcIp) s = .next t ∧
    t = { s with regs := t.regs, comp := t.comp, sent := t.sent, freeCtr := t.freeCtr, acc := t.acc }

/-- What VRA_CTL_WRITE leaves as it was. -/
def keeps_vraCtlWrite : Prop :=
  ∀ (s : State) (master value : Nat), ∃ t, exec (.vraCtlWrite master value) s = .next t ∧
    t.pending = s.pending ∧ t.variant = s.variant ∧ t.record = s.record

/-- What UART_RD leaves as it was. -/
def keeps_uartRd : Prop :=
  ∀ (s : State) (line : List Nat), ∃ t, exec (.uartRd line) s = .next t ∧
    t.pending = s.pending ∧ t.variant = s.variant ∧ t.record = s.record

/-- What UART_WR leaves as it was. -/
def keeps_uartWr : Prop :=
  ∀ (s : State) (addr value : List Nat), ∃ t, exec (.uartWr addr value) s = .next t ∧
    t.pending = s.pending ∧ t.variant = s.variant ∧ t.record = s.record

/-- What MODE_REQUEST leaves as it was. -/
def keeps_modeRequest : Prop :=
  ∀ (s : State) (master value : Nat), ∃ t, exec (.modeRequest master value) s = .next t ∧
    t = { s with regs := t.regs, comp := t.comp, sent := t.sent, freeCtr := t.freeCtr }

/-- What TRANS_TIMEOUT leaves as it was. -/
def keeps_transTimeout : Prop :=
  ∀ (s : State), ∃ t, exec .transTimeout s = .next t ∧
    t = { s with regs := t.regs, comp := t.comp, sent := t.sent, freeCtr := t.freeCtr, mram := t.mram, gal := t.gal, mode := t.mode, loops := t.loops, prof := t.prof, drv := t.drv, safe := t.safe, asy := t.asy, meas := t.meas, bal := t.bal, cyc := t.cyc, can := t.can, eth := t.eth }

/-- What STOP_LIMIT_EXPIRY leaves as it was. -/
def keeps_stopLimitExpiry : Prop :=
  ∀ (s : State), ∃ t, exec .stopLimitExpiry s = .next t ∧
    t = { s with regs := t.regs, comp := t.comp, sent := t.sent, freeCtr := t.freeCtr, mram := t.mram, gal := t.gal, mode := t.mode, loops := t.loops, prof := t.prof, drv := t.drv, safe := t.safe, asy := t.asy, meas := t.meas, cyc := t.cyc, can := t.can, eth := t.eth }

/-- What LATCH_CLR leaves as it was. -/
def keeps_latchClr : Prop :=
  ∀ (s : State) (master value : Nat), ∃ t, exec (.latchClr master value) s = .next t ∧
    t = { s with regs := t.regs, comp := t.comp, sent := t.sent, freeCtr := t.freeCtr, mram := t.mram, can := t.can, eth := t.eth }

/-- What WAKE leaves as it was. -/
def keeps_wake : Prop :=
  ∀ (s : State) (source : Nat), ∃ t, exec (.wake source) s = .next t ∧
    t.pending = s.pending ∧ t.variant = s.variant ∧ t.record = s.record ∧ t.gal = s.gal

/-- What WAKE_TIMER_EXPIRY leaves as it was. -/
def keeps_wakeTimerExpiry : Prop :=
  ∀ (s : State), ∃ t, exec .wakeTimerExpiry s = .next t ∧
    t.pending = s.pending ∧ t.variant = s.variant ∧ t.record = s.record ∧ t.gal = s.gal

/-- What WAKE_OSC_CHECK leaves as it was. -/
def keeps_wakeOscCheck : Prop :=
  ∀ (s : State) (count : Nat), ∃ t, exec (.wakeOscCheck count) s = .next t ∧
    t = { s with regs := t.regs, comp := t.comp, sent := t.sent, freeCtr := t.freeCtr, aux := t.aux }

/-- What PLL_UNLOCK leaves as it was. -/
def keeps_pllUnlock : Prop :=
  ∀ (s : State), ∃ t, exec .pllUnlock s = .next t ∧
    t.pending = s.pending ∧ t.variant = s.variant ∧ t.record = s.record ∧ t.gal = s.gal

/-- What ROOT_DRIFT leaves as it was. -/
def keeps_rootDrift : Prop :=
  ∀ (s : State), ∃ t, exec .rootDrift s = .next t ∧
    t = { s with regs := t.regs, comp := t.comp, sent := t.sent, freeCtr := t.freeCtr }

/-- What WDG_KICK leaves as it was. -/
def keeps_wdgKick : Prop :=
  ∀ (s : State) (master value : Nat), ∃ t, exec (.wdgKick master value) s = .next t ∧
    t.pending = s.pending ∧ t.variant = s.variant ∧ t.record = s.record ∧ t.gal = s.gal

/-- What WDG_EXPIRY leaves as it was. -/
def keeps_wdgExpiry : Prop :=
  ∀ (s : State), ∃ t, exec .wdgExpiry s = .next t ∧
    t.pending = s.pending ∧ t.variant = s.variant ∧ t.record = s.record ∧ t.gal = s.gal

/-- What POWER_ON leaves as it was. -/
def keeps_powerOn : Prop :=
  ∀ (s : State), ∃ t, exec .powerOn s = .next t ∧
    t = { s with regs := t.regs, comp := t.comp, sent := t.sent, freeCtr := t.freeCtr, mram := t.mram, ticks := t.ticks, aux := t.aux }

/-- What RESET_N_ASSERT leaves as it was. -/
def keeps_resetNAssert : Prop :=
  ∀ (s : State), ∃ t, exec .resetNAssert s = .next t ∧
    t.pending = s.pending ∧ t.variant = s.variant ∧ t.record = s.record ∧ t.gal = s.gal

/-- What RESET_N_RELEASE leaves as it was. -/
def keeps_resetNRelease : Prop :=
  ∀ (s : State), ∃ t, exec .resetNRelease s = .next t ∧
    t = { s with regs := t.regs, comp := t.comp, sent := t.sent, freeCtr := t.freeCtr, aux := t.aux }

/-- What RESET_RELEASE leaves as it was. -/
def keeps_resetRelease : Prop :=
  ∀ (s : State) (boot : BootResult), ∃ t, exec (.resetRelease boot) s = .next t ∧
    t.pending = s.pending ∧ t.variant = s.variant

/-- What PLL_LOCK_RETRY leaves as it was. -/
def keeps_pllLockRetry : Prop :=
  ∀ (s : State) (locked : Bool), ∃ t, exec (.pllLockRetry locked) s = .next t ∧
    t = { s with regs := t.regs, comp := t.comp, sent := t.sent, freeCtr := t.freeCtr }

/-- What SVC_DEBOUNCED_CLOSE leaves as it was. -/
def keeps_svcDebouncedClose : Prop :=
  ∀ (s : State), ∃ t, exec .svcDebouncedClose s = .next t ∧
    t.pending = s.pending ∧ t.variant = s.variant ∧ t.record = s.record ∧ t.gal = s.gal

/-- What SVC_DEBOUNCED_OPEN leaves as it was. -/
def keeps_svcDebouncedOpen : Prop :=
  ∀ (s : State) (pressMs : Nat), ∃ t, exec (.svcDebouncedOpen pressMs) s = .next t ∧
    t = { s with regs := t.regs, comp := t.comp, sent := t.sent, freeCtr := t.freeCtr, aux := t.aux }

/-- What SVC_STUCK leaves as it was. -/
def keeps_svcStuck : Prop :=
  ∀ (s : State), ∃ t, exec .svcStuck s = .next t ∧
    t = { s with regs := t.regs, comp := t.comp, sent := t.sent, freeCtr := t.freeCtr }

/-- What RESTART_WARM leaves as it was. -/
def keeps_restartWarm : Prop :=
  ∀ (s : State) (master : Nat), ∃ t, exec (.restartWarm master) s = .next t ∧
    t = { s with regs := t.regs, comp := t.comp, sent := t.sent, freeCtr := t.freeCtr, aux := t.aux }

/-- What RESTART_COLD leaves as it was. -/
def keeps_restartCold : Prop :=
  ∀ (s : State) (master : Nat), ∃ t, exec (.restartCold master) s = .next t ∧
    t = { s with regs := t.regs, comp := t.comp, sent := t.sent, freeCtr := t.freeCtr, aux := t.aux }

/-- What ADDR_SET leaves as it was. -/
def keeps_addrSet : Prop :=
  ∀ (s : State) (master value : Nat), ∃ t, exec (.addrSet master value) s = .next t ∧
    t = { s with regs := t.regs, comp := t.comp, sent := t.sent, freeCtr := t.freeCtr, mram := t.mram }

/-- What OFFER leaves as it was. -/
def keeps_offer : Prop :=
  ∀ (s : State) (can address : Nat), ∃ t, exec (.offer can address) s = .next t ∧
    t = { s with regs := t.regs, comp := t.comp, sent := t.sent, freeCtr := t.freeCtr, aux := t.aux }

/-- What CLEAR leaves as it was. -/
def keeps_clearAddr : Prop :=
  ∀ (s : State) (can byte1 byte2 : Nat), ∃ t, exec (.clearAddr can byte1 byte2) s = .next t ∧
    t = { s with regs := t.regs, comp := t.comp, sent := t.sent, freeCtr := t.freeCtr, mram := t.mram, aux := t.aux }

/-- What END leaves as it was. -/
def keeps_endWalk : Prop :=
  ∀ (s : State) (can : Nat), ∃ t, exec (.endWalk can) s = .next t ∧
    t = { s with regs := t.regs, comp := t.comp, sent := t.sent, freeCtr := t.freeCtr }

/-- What TAKEN leaves as it was. -/
def keeps_taken : Prop :=
  ∀ (s : State) (can address role topology serialHi serialLo : Nat), ∃ t, exec (.taken can address role topology serialHi serialLo) s = .next t ∧
    t = { s with regs := t.regs, comp := t.comp, sent := t.sent, freeCtr := t.freeCtr, aux := t.aux, can := t.can }

/-- What TAKEN_TIMEOUT leaves as it was. -/
def keeps_takenTimeout : Prop :=
  ∀ (s : State), ∃ t, exec .takenTimeout s = .next t ∧
    t = { s with regs := t.regs, comp := t.comp, sent := t.sent, freeCtr := t.freeCtr, aux := t.aux, can := t.can }

/-- What ADDR_IN_CHANGE leaves as it was. -/
def keeps_addrInChange : Prop :=
  ∀ (s : State) (level : Bool), ∃ t, exec (.addrInChange level) s = .next t ∧
    t = { s with regs := t.regs, comp := t.comp, sent := t.sent, freeCtr := t.freeCtr, aux := t.aux }

/-- What ROLE_SEL_SAMPLE leaves as it was. -/
def keeps_roleSelSample : Prop :=
  ∀ (s : State) (roleB : Bool), ∃ t, exec (.roleSelSample roleB) s = .next t ∧
    t = { s with regs := t.regs, comp := t.comp, sent := t.sent, freeCtr := t.freeCtr }

/-- What GPIO_CHANGE leaves as it was. -/
def keeps_gpioChange : Prop :=
  ∀ (s : State) (pin : Nat) (level : Bool), ∃ t, exec (.gpioChange pin level) s = .next t ∧
    t = { s with regs := t.regs, comp := t.comp, sent := t.sent, freeCtr := t.freeCtr }

/-- What WAIT leaves as it was. -/
def keeps_wait : Prop :=
  ∀ (s : State) (addr cap timeoutUs : Nat), ∃ t, exec (.wait addr cap timeoutUs) s = .next t ∧
    t = { s with regs := t.regs, comp := t.comp, sent := t.sent, freeCtr := t.freeCtr, ram := t.ram }

/-- What WAIT_TIMEOUT leaves as it was. -/
def keeps_waitTimeout : Prop :=
  ∀ (s : State), ∃ t, exec .waitTimeout s = .next t ∧
    t = { s with regs := t.regs, comp := t.comp, sent := t.sent, freeCtr := t.freeCtr }

/-- What EVENT_GRANT leaves as it was. -/
def keeps_eventGrant : Prop :=
  ∀ (s : State), ∃ t, exec .eventGrant s = .next t ∧
    t.pending = s.pending ∧ t.variant = s.variant

/-- What RECORD leaves as it was. -/
def keeps_record : Prop :=
  ∀ (s : State), ∃ t, exec .record s = .next t ∧
    t = { s with regs := t.regs, comp := t.comp, sent := t.sent, freeCtr := t.freeCtr, evr := t.evr }

/-- What CURSOR_WRITE leaves as it was. -/
def keeps_cursorWrite : Prop :=
  ∀ (s : State) (master value : Nat), ∃ t, exec (.cursorWrite master value) s = .next t ∧
    t = { s with regs := t.regs, comp := t.comp, sent := t.sent, freeCtr := t.freeCtr, evr := t.evr }

/-- What CURSOR_READY leaves as it was. -/
def keeps_cursorReady : Prop :=
  ∀ (s : State), ∃ t, exec .cursorReady s = .next t ∧
    t = { s with regs := t.regs, comp := t.comp, sent := t.sent, freeCtr := t.freeCtr, evr := t.evr }

/-- What FREEZE_EXPIRED leaves as it was. -/
def keeps_freezeExpired : Prop :=
  ∀ (s : State), ∃ t, exec .freezeExpired s = .next t ∧
    t = { s with regs := t.regs, comp := t.comp, sent := t.sent, freeCtr := t.freeCtr, evr := t.evr }

/-- What OWT_LAUNCH leaves as it was. -/
def keeps_owtLaunch : Prop :=
  ∀ (s : State), ∃ t, exec .owtLaunch s = .next t ∧
    t = { s with regs := t.regs, comp := t.comp, sent := t.sent, freeCtr := t.freeCtr, bal := t.bal, chain := t.chain }

/-- What OWT_PERIODIC leaves as it was. -/
def keeps_owtPeriodic : Prop :=
  ∀ (s : State), ∃ t, exec .owtPeriodic s = .next t ∧
    t = { s with regs := t.regs, comp := t.comp, sent := t.sent, freeCtr := t.freeCtr, bal := t.bal }

/-- What OWT_NOW leaves as it was. -/
def keeps_owtNow : Prop :=
  ∀ (s : State) (master : Nat), ∃ t, exec (.owtNow master) s = .next t ∧
    t = { s with regs := t.regs, comp := t.comp, sent := t.sent, freeCtr := t.freeCtr, bal := t.bal }

/-- What OWT_DEADLINE leaves as it was. -/
def keeps_owtDeadline : Prop :=
  ∀ (s : State), ∃ t, exec .owtDeadline s = .next t ∧
    t = { s with regs := t.regs, comp := t.comp, sent := t.sent, freeCtr := t.freeCtr, mram := t.mram, gal := t.gal, mode := t.mode, loops := t.loops, prof := t.prof, drv := t.drv, safe := t.safe, asy := t.asy, meas := t.meas, bal := t.bal, chain := t.chain, cyc := t.cyc, can := t.can, eth := t.eth }

/-- What SUSPECT_CLR leaves as it was. -/
def keeps_suspectClr : Prop :=
  ∀ (s : State) (master pos : Nat), ∃ t, exec (.suspectClr master pos) s = .next t ∧
    t = { s with regs := t.regs, comp := t.comp, sent := t.sent, freeCtr := t.freeCtr, bal := t.bal, chain := t.chain }

/-- What SUSPECT_CLR_DECISION leaves as it was. -/
def keeps_suspectClrDecision : Prop :=
  ∀ (s : State) (pos : Nat := 1), ∃ t, exec (.suspectClrDecision pos) s = .next t ∧
    t = { s with regs := t.regs, comp := t.comp, sent := t.sent, freeCtr := t.freeCtr, mram := t.mram, gal := t.gal, mode := t.mode, loops := t.loops, prof := t.prof, drv := t.drv, safe := t.safe, asy := t.asy, meas := t.meas, chain := t.chain, cyc := t.cyc, can := t.can, eth := t.eth }

/-- What COMP_READBACK leaves as it was. -/
def keeps_compReadback : Prop :=
  ∀ (s : State) (pos : Nat) (words : List Nat), ∃ t, exec (.compReadback pos words) s = .next t ∧
    t = { s with regs := t.regs, comp := t.comp, sent := t.sent, freeCtr := t.freeCtr, mram := t.mram, gal := t.gal, mode := t.mode, loops := t.loops, prof := t.prof, drv := t.drv, safe := t.safe, asy := t.asy, meas := t.meas, chain := t.chain, cyc := t.cyc, can := t.can, eth := t.eth }

/-- What FLOOP_ABSENT leaves as it was. -/
def keeps_floopAbsent : Prop :=
  ∀ (s : State) (amplitude : Nat := 0), ∃ t, exec (.floopAbsent amplitude) s = .next t ∧
    t.pending = s.pending ∧ t.variant = s.variant ∧ t.record = s.record

/-- What BLEED_LAUNCH leaves as it was. -/
def keeps_bleedLaunch : Prop :=
  ∀ (s : State) (late : Bool := false), ∃ t, exec (.bleedLaunch late) s = .next t ∧
    t = { s with regs := t.regs, comp := t.comp, sent := t.sent, freeCtr := t.freeCtr, mram := t.mram, gal := t.gal, mode := t.mode, loops := t.loops, prof := t.prof, drv := t.drv, safe := t.safe, asy := t.asy, meas := t.meas, est := t.est, bal := t.bal, chain := t.chain, cyc := t.cyc, can := t.can, eth := t.eth }

/-- What PLAN_COMMIT leaves as it was. -/
def keeps_planCommit : Prop :=
  ∀ (s : State) (master : Nat), ∃ t, exec (.planCommit master) s = .next t ∧
    t = { s with regs := t.regs, comp := t.comp, sent := t.sent, freeCtr := t.freeCtr, bal := t.bal }

/-- What PLAN_CLEAR leaves as it was. -/
def keeps_planClear : Prop :=
  ∀ (s : State) (master : Nat), ∃ t, exec (.planClear master) s = .next t ∧
    t = { s with regs := t.regs, comp := t.comp, sent := t.sent, freeCtr := t.freeCtr, bal := t.bal }

/-- What VOTED_SAMPLE leaves as it was. -/
def keeps_votedSample : Prop :=
  ∀ (s : State) (chans : ChanFrame), ∃ t, exec (.votedSample chans) s = .next t ∧
    t = { s with regs := t.regs, comp := t.comp, sent := t.sent, freeCtr := t.freeCtr, mram := t.mram, gal := t.gal, mode := t.mode, loops := t.loops, prof := t.prof, drv := t.drv, safe := t.safe, asy := t.asy, meas := t.meas, est := t.est, bal := t.bal, cyc := t.cyc, can := t.can, eth := t.eth }

/-- What HV_LOST leaves as it was. -/
def keeps_hvLost : Prop :=
  ∀ (s : State), ∃ t, exec .hvLost s = .next t ∧
    t = { s with regs := t.regs, comp := t.comp, sent := t.sent, freeCtr := t.freeCtr, mram := t.mram, gal := t.gal, mode := t.mode, loops := t.loops, prof := t.prof, drv := t.drv, safe := t.safe, asy := t.asy, meas := t.meas, cyc := t.cyc, can := t.can, eth := t.eth }

/-- What CH_READMITTED leaves as it was. -/
def keeps_chReadmitted : Prop :=
  ∀ (s : State) (chan : Nat), ∃ t, exec (.chReadmitted chan) s = .next t ∧
    t = { s with regs := t.regs, comp := t.comp, sent := t.sent, freeCtr := t.freeCtr, mram := t.mram, gal := t.gal, mode := t.mode, loops := t.loops, prof := t.prof, drv := t.drv, safe := t.safe, asy := t.asy, meas := t.meas, cyc := t.cyc, can := t.can, eth := t.eth }

/-- What OFFSET_CAL_START leaves as it was. -/
def keeps_offsetCalStart : Prop :=
  ∀ (s : State), ∃ t, exec .offsetCalStart s = .next t ∧
    t = { s with regs := t.regs, comp := t.comp, sent := t.sent, freeCtr := t.freeCtr, meas := t.meas }

/-- What OFFSET_CAL_END leaves as it was. -/
def keeps_offsetCalEnd : Prop :=
  ∀ (s : State) (sums : List (Nat × Int)), ∃ t, exec (.offsetCalEnd sums) s = .next t ∧
    t = { s with regs := t.regs, comp := t.comp, sent := t.sent, freeCtr := t.freeCtr, meas := t.meas }

/-- What IMD_DONE leaves as it was. -/
def keeps_imdDone : Prop :=
  ∀ (s : State) (riso cap loc : Nat), ∃ t, exec (.imdDone riso cap loc) s = .next t ∧
    t = { s with regs := t.regs, comp := t.comp, sent := t.sent, freeCtr := t.freeCtr, mram := t.mram, gal := t.gal, mode := t.mode, loops := t.loops, prof := t.prof, drv := t.drv, safe := t.safe, asy := t.asy, meas := t.meas, cyc := t.cyc, can := t.can, eth := t.eth }

/-- What IMD_CONN_FAULT leaves as it was. -/
def keeps_imdConnFault : Prop :=
  ∀ (s : State), ∃ t, exec .imdConnFault s = .next t ∧
    t = { s with regs := t.regs, comp := t.comp, sent := t.sent, freeCtr := t.freeCtr, mram := t.mram, gal := t.gal, mode := t.mode, loops := t.loops, prof := t.prof, drv := t.drv, safe := t.safe, asy := t.asy, meas := t.meas, cyc := t.cyc, can := t.can, eth := t.eth }

/-- What IMD_START leaves as it was. -/
def keeps_imdStart : Prop :=
  ∀ (s : State) (master : Nat), ∃ t, exec (.imdStart master) s = .next t ∧
    t = { s with regs := t.regs, comp := t.comp, sent := t.sent, freeCtr := t.freeCtr, meas := t.meas }

/-- What IMD_HOLDER_START leaves as it was. -/
def keeps_imdHolderStart : Prop :=
  ∀ (s : State), ∃ t, exec .imdHolderStart s = .next t ∧
    t = { s with regs := t.regs, comp := t.comp, sent := t.sent, freeCtr := t.freeCtr, mram := t.mram, gal := t.gal, mode := t.mode, loops := t.loops, prof := t.prof, drv := t.drv, safe := t.safe, asy := t.asy, meas := t.meas, cyc := t.cyc, can := t.can, eth := t.eth }

/-- What CHG_CLR leaves as it was. -/
def keeps_chgClr : Prop :=
  ∀ (s : State) (master value : Nat), ∃ t, exec (.chgClr master value) s = .next t ∧
    t = { s with regs := t.regs, comp := t.comp, sent := t.sent, freeCtr := t.freeCtr }

/-- What CHG_STORE leaves as it was. -/
def keeps_chgStore : Prop :=
  ∀ (s : State), ∃ t, exec .chgStore s = .next t ∧
    t = { s with regs := t.regs, comp := t.comp, sent := t.sent, freeCtr := t.freeCtr, mram := t.mram }

/-- What EST_DONE leaves as it was. -/
def keeps_estDone : Prop :=
  ∀ (s : State), ∃ t, exec .estDone s = .next t ∧
    t = { s with regs := t.regs, comp := t.comp, sent := t.sent, freeCtr := t.freeCtr, mram := t.mram, gal := t.gal, prof := t.prof, asy := t.asy, est := t.est }

/-- What EST_SHADOW_WRITE leaves as it was. -/
def keeps_estShadowWrite : Prop :=
  ∀ (s : State), ∃ t, exec .estShadowWrite s = .next t ∧
    t = { s with regs := t.regs, comp := t.comp, sent := t.sent, freeCtr := t.freeCtr, est := t.est }

/-- What CAP_SET leaves as it was. -/
def keeps_capSet : Prop :=
  ∀ (s : State) (master value : Nat), ∃ t, exec (.capSet master value) s = .next t ∧
    t = { s with regs := t.regs, comp := t.comp, sent := t.sent, freeCtr := t.freeCtr, est := t.est }

/-- What ANCHOR_REQ leaves as it was. -/
def keeps_anchorReq : Prop :=
  ∀ (s : State) (master : Nat), ∃ t, exec (.anchorReq master) s = .next t ∧
    t = { s with regs := t.regs, comp := t.comp, sent := t.sent, freeCtr := t.freeCtr }

/-- What ANCHOR_CANCEL leaves as it was. -/
def keeps_anchorCancel : Prop :=
  ∀ (s : State) (master : Nat), ∃ t, exec (.anchorCancel master) s = .next t ∧
    t = { s with regs := t.regs, comp := t.comp, sent := t.sent, freeCtr := t.freeCtr }

/-- What ANCHOR_RAMP_TIMEOUT leaves as it was. -/
def keeps_anchorRampTimeout : Prop :=
  ∀ (s : State), ∃ t, exec .anchorRampTimeout s = .next t ∧
    t = { s with regs := t.regs, comp := t.comp, sent := t.sent, freeCtr := t.freeCtr, prof := t.prof }

/-- What NO_ANCHOR leaves as it was. -/
def keeps_noAnchor : Prop :=
  ∀ (s : State), ∃ t, exec .noAnchor s = .next t ∧
    t = { s with regs := t.regs, comp := t.comp, sent := t.sent, freeCtr := t.freeCtr }

/-- What CELL_VIEW_WRITE leaves as it was. -/
def keeps_cellViewWrite : Prop :=
  ∀ (s : State) (master value : Nat), ∃ t, exec (.cellViewWrite master value) s = .next t ∧
    t = { s with regs := t.regs, comp := t.comp, sent := t.sent, freeCtr := t.freeCtr, est := t.est }

/-- What HOLD_EXPIRED leaves as it was. -/
def keeps_holdExpired : Prop :=
  ∀ (s : State), ∃ t, exec .holdExpired s = .next t ∧
    t = { s with regs := t.regs, comp := t.comp, sent := t.sent, freeCtr := t.freeCtr, est := t.est }

/-- What ASSAY_START leaves as it was. -/
def keeps_assayStart : Prop :=
  ∀ (s : State) (master : Nat), ∃ t, exec (.assayStart master) s = .next t ∧
    t = { s with regs := t.regs, comp := t.comp, sent := t.sent, freeCtr := t.freeCtr, mram := t.mram, gal := t.gal, mode := t.mode, loops := t.loops, prof := t.prof, drv := t.drv, safe := t.safe, asy := t.asy, meas := t.meas, bal := t.bal, cyc := t.cyc, can := t.can, eth := t.eth }

/-- What ASSAY_ABORT leaves as it was. -/
def keeps_assayAbort : Prop :=
  ∀ (s : State) (master : Nat), ∃ t, exec (.assayAbort master) s = .next t ∧
    t = { s with regs := t.regs, comp := t.comp, sent := t.sent, freeCtr := t.freeCtr, mram := t.mram, gal := t.gal, mode := t.mode, loops := t.loops, prof := t.prof, drv := t.drv, safe := t.safe, asy := t.asy, meas := t.meas, bal := t.bal, cyc := t.cyc, can := t.can, eth := t.eth }

/-- What PERTURB_RISE_END leaves as it was. -/
def keeps_perturbRiseEnd : Prop :=
  ∀ (s : State), ∃ t, exec .perturbRiseEnd s = .next t ∧
    t = { s with regs := t.regs, comp := t.comp, sent := t.sent, freeCtr := t.freeCtr, mram := t.mram, gal := t.gal, mode := t.mode, loops := t.loops, prof := t.prof, drv := t.drv, safe := t.safe, asy := t.asy, meas := t.meas, bal := t.bal, cyc := t.cyc, can := t.can, eth := t.eth }

/-- What BIN_SPAN_END leaves as it was. -/
def keeps_binSpanEnd : Prop :=
  ∀ (s : State), ∃ t, exec .binSpanEnd s = .next t ∧
    t = { s with regs := t.regs, comp := t.comp, sent := t.sent, freeCtr := t.freeCtr, mram := t.mram, gal := t.gal, mode := t.mode, loops := t.loops, prof := t.prof, drv := t.drv, safe := t.safe, asy := t.asy, meas := t.meas, bal := t.bal, cyc := t.cyc, can := t.can, eth := t.eth }

/-- What METRICS_DONE leaves as it was. -/
def keeps_metricsDone : Prop :=
  ∀ (s : State), ∃ t, exec .metricsDone s = .next t ∧
    t = { s with regs := t.regs, comp := t.comp, sent := t.sent, freeCtr := t.freeCtr, asy := t.asy }

/-- What TEMP_ESTIMATE leaves as it was. -/
def keeps_tempEstimate : Prop :=
  ∀ (s : State), ∃ t, exec .tempEstimate s = .next t ∧
    t = { s with regs := t.regs, comp := t.comp, sent := t.sent, freeCtr := t.freeCtr, asy := t.asy, est := t.est, eth := t.eth }

/-- What TCAL_CLR leaves as it was. -/
def keeps_tcalClr : Prop :=
  ∀ (s : State) (master value : Nat), ∃ t, exec (.tcalClr master value) s = .next t ∧
    t = { s with regs := t.regs, comp := t.comp, sent := t.sent, freeCtr := t.freeCtr, asy := t.asy }

/-- What TCAL leaves as it was. -/
def keeps_tcal : Prop :=
  ∀ (s : State) (edition : Nat) (offsets : List Int), ∃ t, exec (.tcal edition offsets) s = .next t ∧
    t = { s with regs := t.regs, comp := t.comp, sent := t.sent, freeCtr := t.freeCtr, mram := t.mram, time := t.time, gal := t.gal, mode := t.mode, loops := t.loops, prof := t.prof, drv := t.drv, safe := t.safe, asy := t.asy, meas := t.meas, chain := t.chain, cyc := t.cyc, can := t.can, eth := t.eth }

/-- What PERTURB_ZERO leaves as it was. -/
def keeps_perturbZero : Prop :=
  ∀ (s : State), ∃ t, exec .perturbZero s = .next t ∧
    t = { s with regs := t.regs, comp := t.comp, sent := t.sent, freeCtr := t.freeCtr, mram := t.mram, gal := t.gal, mode := t.mode, loops := t.loops, prof := t.prof, drv := t.drv, safe := t.safe, asy := t.asy, meas := t.meas, bal := t.bal, cyc := t.cyc, can := t.can, eth := t.eth }

/-- What LOOP_CFG_WRITE leaves as it was. -/
def keeps_loopCfgWrite : Prop :=
  ∀ (s : State) (master : Nat) (isRoute : Bool) (value : Nat), ∃ t, exec (.loopCfgWrite master isRoute value) s = .next t ∧
    t = { s with regs := t.regs, comp := t.comp, sent := t.sent, freeCtr := t.freeCtr, loops := t.loops }

/-- What LOOP_MODE_WRITE leaves as it was. -/
def keeps_loopModeWrite : Prop :=
  ∀ (s : State) (master : Nat) (manual : Bool), ∃ t, exec (.loopModeWrite master manual) s = .next t ∧
    t = { s with regs := t.regs, comp := t.comp, sent := t.sent, freeCtr := t.freeCtr, loops := t.loops }

/-- What LOOP_SWAP leaves as it was. -/
def keeps_loopSwap : Prop :=
  ∀ (s : State) (master : Nat) (multi : Option Nat), ∃ t, exec (.loopSwap master multi) s = .next t ∧
    t = { s with regs := t.regs, comp := t.comp, sent := t.sent, freeCtr := t.freeCtr, loops := t.loops }

/-- What LOOP_RESUME leaves as it was. -/
def keeps_loopResume : Prop :=
  ∀ (s : State) (master : Nat), ∃ t, exec (.loopResume master) s = .next t ∧
    t = { s with regs := t.regs, comp := t.comp, sent := t.sent, freeCtr := t.freeCtr, loops := t.loops }

/-- What THERMAL_SLOT_SAMPLE leaves as it was. -/
def keeps_thermalSlotSample : Prop :=
  ∀ (s : State) (slot : Nat), ∃ t, exec (.thermalSlotSample slot) s = .next t ∧
    t = { s with regs := t.regs, comp := t.comp, sent := t.sent, freeCtr := t.freeCtr, mram := t.mram, gal := t.gal, mode := t.mode, loops := t.loops, prof := t.prof, drv := t.drv, safe := t.safe, asy := t.asy, meas := t.meas, cyc := t.cyc, can := t.can, eth := t.eth }

/-- What FEEDBACK_STALE leaves as it was. -/
def keeps_feedbackStale : Prop :=
  ∀ (s : State) (slot : Nat), ∃ t, exec (.feedbackStale slot) s = .next t ∧
    t = { s with regs := t.regs, comp := t.comp, sent := t.sent, freeCtr := t.freeCtr, mram := t.mram, gal := t.gal, mode := t.mode, loops := t.loops, prof := t.prof, drv := t.drv, safe := t.safe, asy := t.asy, meas := t.meas, cyc := t.cyc, can := t.can, eth := t.eth }

/-- What THERMAL_HOLD_EXPIRY leaves as it was. -/
def keeps_thermalHoldExpiry : Prop :=
  ∀ (s : State) (slot : Nat), ∃ t, exec (.thermalHoldExpiry slot) s = .next t ∧
    t = { s with regs := t.regs, comp := t.comp, sent := t.sent, freeCtr := t.freeCtr, loops := t.loops }

/-- What PROFILE_STEP leaves as it was. -/
def keeps_profileStep : Prop :=
  ∀ (s : State), ∃ t, exec .profileStep s = .next t ∧
    t = { s with regs := t.regs, comp := t.comp, sent := t.sent, freeCtr := t.freeCtr, prof := t.prof }

/-- What PROF_TARGET_WRITE leaves as it was. -/
def keeps_profTargetWrite : Prop :=
  ∀ (s : State) (master value : Nat), ∃ t, exec (.profTargetWrite master value) s = .next t ∧
    t = { s with regs := t.regs, comp := t.comp, sent := t.sent, freeCtr := t.freeCtr }

/-- What PROF_LIMIT_WRITE leaves as it was. -/
def keeps_profLimitWrite : Prop :=
  ∀ (s : State) (master which value : Nat), ∃ t, exec (.profLimitWrite master which value) s = .next t ∧
    t = { s with regs := t.regs, comp := t.comp, sent := t.sent, freeCtr := t.freeCtr }

/-- What TIN_SAMPLE leaves as it was. -/
def keeps_tinSample : Prop :=
  ∀ (s : State) (values : List (Option Int)), ∃ t, exec (.tinSample values) s = .next t ∧
    t = { s with regs := t.regs, comp := t.comp, sent := t.sent, freeCtr := t.freeCtr, thm := t.thm }

/-- What TACH_EVAL leaves as it was. -/
def keeps_tachEval : Prop :=
  ∀ (s : State) (tachA tachB flow : Nat), ∃ t, exec (.tachEval tachA tachB flow) s = .next t ∧
    t = { s with regs := t.regs, comp := t.comp, sent := t.sent, freeCtr := t.freeCtr, thm := t.thm }

/-- What FAN_STALL leaves as it was. -/
def keeps_fanStall : Prop :=
  ∀ (s : State) (fan : Nat), ∃ t, exec (.fanStall fan) s = .next t ∧
    t = { s with regs := t.regs, comp := t.comp, sent := t.sent, freeCtr := t.freeCtr, thm := t.thm }

/-- What FLOW_LOW leaves as it was. -/
def keeps_flowLow : Prop :=
  ∀ (s : State), ∃ t, exec .flowLow s = .next t ∧
    t = { s with regs := t.regs, comp := t.comp, sent := t.sent, freeCtr := t.freeCtr, thm := t.thm }

/-- What TONE_PRESENT leaves as it was. -/
def keeps_tonePresent : Prop :=
  ∀ (s : State) (amplitude : Nat), ∃ t, exec (.tonePresent amplitude) s = .next t ∧
    t = { s with regs := t.regs, comp := t.comp, sent := t.sent, freeCtr := t.freeCtr }

/-- What CHASSIS_LOOP_CLOSED leaves as it was. -/
def keeps_chassisLoopClosed : Prop :=
  ∀ (s : State), ∃ t, exec .chassisLoopClosed s = .next t ∧
    t = { s with regs := t.regs, comp := t.comp, sent := t.sent, freeCtr := t.freeCtr, mram := t.mram, gal := t.gal, mode := t.mode, loops := t.loops, prof := t.prof, drv := t.drv, safe := t.safe, asy := t.asy, meas := t.meas, cyc := t.cyc, can := t.can, eth := t.eth }

/-- What CHAIN_LINK_UP leaves as it was. -/
def keeps_chainLinkUp : Prop :=
  ∀ (s : State) (port : Nat), ∃ t, exec (.chainLinkUp port) s = .next t ∧
    t = { s with regs := t.regs, comp := t.comp, sent := t.sent, freeCtr := t.freeCtr, chain := t.chain }

/-- What CHAIN_LINK_LOST leaves as it was. -/
def keeps_chainLinkLost : Prop :=
  ∀ (s : State) (port : Nat), ∃ t, exec (.chainLinkLost port) s = .next t ∧
    t = { s with regs := t.regs, comp := t.comp, sent := t.sent, freeCtr := t.freeCtr, mram := t.mram, gal := t.gal, mode := t.mode, loops := t.loops, prof := t.prof, drv := t.drv, safe := t.safe, asy := t.asy, meas := t.meas, bal := t.bal, chain := t.chain, cyc := t.cyc, can := t.can, eth := t.eth }

/-- What TRIG_LAUNCH leaves as it was. -/
def keeps_trigLaunch : Prop :=
  ∀ (s : State), ∃ t, exec .trigLaunch s = .next t ∧
    t = { s with regs := t.regs, comp := t.comp, sent := t.sent, freeCtr := t.freeCtr, mram := t.mram, gal := t.gal, mode := t.mode, loops := t.loops, prof := t.prof, drv := t.drv, safe := t.safe, asy := t.asy, meas := t.meas, bal := t.bal, chain := t.chain, pairU := t.pairU, cyc := t.cyc, can := t.can, eth := t.eth }

/-- What COLLECT_LAUNCH leaves as it was. -/
def keeps_collectLaunch : Prop :=
  ∀ (s : State) (other : Bool := false), ∃ t, exec (.collectLaunch other) s = .next t ∧
    t = { s with regs := t.regs, comp := t.comp, sent := t.sent, freeCtr := t.freeCtr, chain := t.chain }

/-- What SLOT_ARRIVAL leaves as it was. -/
def keeps_slotArrival : Prop :=
  ∀ (s : State) (slot : SlotMsg), ∃ t, exec (.slotArrival slot) s = .next t ∧
    t = { s with regs := t.regs, comp := t.comp, sent := t.sent, freeCtr := t.freeCtr, mram := t.mram, gal := t.gal, mode := t.mode, loops := t.loops, prof := t.prof, thm := t.thm, drv := t.drv, safe := t.safe, asy := t.asy, meas := t.meas, est := t.est, bal := t.bal, chain := t.chain, cyc := t.cyc, can := t.can, eth := t.eth }

/-- What SWEEP_DEADLINE leaves as it was. -/
def keeps_sweepDeadline : Prop :=
  ∀ (s : State) (num : Nat := 0) (other : Bool := false), ∃ t, exec (.sweepDeadline num other) s = .next t ∧
    t = { s with regs := t.regs, comp := t.comp, sent := t.sent, freeCtr := t.freeCtr, mram := t.mram, gal := t.gal, mode := t.mode, loops := t.loops, prof := t.prof, thm := t.thm, drv := t.drv, safe := t.safe, asy := t.asy, meas := t.meas, est := t.est, bal := t.bal, chain := t.chain, cyc := t.cyc, can := t.can, eth := t.eth }

/-- What NODE_UNHEARD leaves as it was. -/
def keeps_nodeUnheard : Prop :=
  ∀ (s : State) (pos : Nat), ∃ t, exec (.nodeUnheard pos) s = .next t ∧
    t = { s with regs := t.regs, comp := t.comp, sent := t.sent, freeCtr := t.freeCtr, mram := t.mram, gal := t.gal, mode := t.mode, loops := t.loops, prof := t.prof, drv := t.drv, safe := t.safe, asy := t.asy, meas := t.meas, chain := t.chain, cyc := t.cyc, can := t.can, eth := t.eth }

/-- What ALARM_RX leaves as it was. -/
def keeps_alarmRx : Prop :=
  ∀ (s : State) (port pos cause time : Nat) (chk : Nat := pos ^^^ cause ^^^ 0xA5), ∃ t, exec (.alarmRx port pos cause time chk) s = .next t ∧
    t = { s with regs := t.regs, comp := t.comp, sent := t.sent, freeCtr := t.freeCtr, mram := t.mram, gal := t.gal, mode := t.mode, loops := t.loops, prof := t.prof, drv := t.drv, safe := t.safe, asy := t.asy, meas := t.meas, bal := t.bal, chain := t.chain, cyc := t.cyc, can := t.can, eth := t.eth }

/-- What NODE_ALARM_RELEASE leaves as it was. -/
def keeps_nodeAlarmRelease : Prop :=
  ∀ (s : State) (pos : Nat), ∃ t, exec (.nodeAlarmRelease pos) s = .next t ∧
    t = { s with regs := t.regs, comp := t.comp, sent := t.sent, freeCtr := t.freeCtr, chain := t.chain }

/-- What STALE_MASTER leaves as it was. -/
def keeps_staleMaster : Prop :=
  ∀ (s : State) (edition : Nat), ∃ t, exec (.staleMaster edition) s = .next t ∧
    t = { s with regs := t.regs, comp := t.comp, sent := t.sent, freeCtr := t.freeCtr, mram := t.mram, time := t.time, gal := t.gal, mode := t.mode, loops := t.loops, prof := t.prof, drv := t.drv, safe := t.safe, asy := t.asy, meas := t.meas, chain := t.chain, cyc := t.cyc, can := t.can, eth := t.eth }

/-- What FWD leaves as it was. -/
def keeps_fwd : Prop :=
  ∀ (s : State) (slots : List SlotMsg), ∃ t, exec (.fwd slots) s = .next t ∧
    t = { s with regs := t.regs, comp := t.comp, sent := t.sent, freeCtr := t.freeCtr, mram := t.mram, gal := t.gal, mode := t.mode, loops := t.loops, prof := t.prof, thm := t.thm, drv := t.drv, safe := t.safe, asy := t.asy, meas := t.meas, est := t.est, bal := t.bal, chain := t.chain, cyc := t.cyc, can := t.can, eth := t.eth }

/-- What RELAY leaves as it was. -/
def keeps_relay : Prop :=
  ∀ (s : State) (sweep ctrl instant : Nat) (collect : Nat := instant), ∃ t, exec (.relay sweep ctrl instant collect) s = .next t ∧
    t = { s with regs := t.regs, comp := t.comp, sent := t.sent, freeCtr := t.freeCtr, chain := t.chain }

/-- What DLY_ECHO leaves as it was. -/
def keeps_dlyEcho : Prop :=
  ∀ (s : State) (pos roundTripPs : Nat) (port : Nat := 0) (op : Nat := 2) (overlap : Bool := false) (chk : Nat := pos ^^^ op ^^^ 0x3C), ∃ t, exec (.dlyEcho pos roundTripPs port op overlap chk) s = .next t ∧
    t.pending = s.pending ∧ t.variant = s.variant ∧ t.record = s.record ∧ t.ticks = s.ticks ∧ t.time = s.time ∧ t.evr = s.evr ∧ t.thm = s.thm ∧ t.est = s.est ∧ t.bal = s.bal ∧ t.pairU = s.pairU ∧ t.fltHeld = s.fltHeld ∧ t.twb = s.twb ∧ t.acc = s.acc ∧ t.dormantAt = s.dormantAt

/-- What DLY_TIMEOUT leaves as it was. -/
def keeps_dlyTimeout : Prop :=
  ∀ (s : State) (pos : Nat), ∃ t, exec (.dlyTimeout pos) s = .next t ∧
    t = { s with regs := t.regs, comp := t.comp, sent := t.sent, freeCtr := t.freeCtr }

/-- What DLY_PERIOD leaves as it was. -/
def keeps_dlyPeriod : Prop :=
  ∀ (s : State), ∃ t, exec .dlyPeriod s = .next t ∧
    t = { s with regs := t.regs, comp := t.comp, sent := t.sent, freeCtr := t.freeCtr, chain := t.chain }

/-- What DLY_NOW leaves as it was. -/
def keeps_dlyNow : Prop :=
  ∀ (s : State) (master : Nat), ∃ t, exec (.dlyNow master) s = .next t ∧
    t = { s with regs := t.regs, comp := t.comp, sent := t.sent, freeCtr := t.freeCtr, chain := t.chain }

/-- What ENUM_START leaves as it was. -/
def keeps_enumStart : Prop :=
  ∀ (s : State) (master : Nat), ∃ t, exec (.enumStart master) s = .next t ∧
    t = { s with regs := t.regs, comp := t.comp, sent := t.sent, freeCtr := t.freeCtr, chain := t.chain }

/-- What REJOIN_POS leaves as it was. -/
def keeps_rejoinPos : Prop :=
  ∀ (s : State) (master pos : Nat), ∃ t, exec (.rejoinPos master pos) s = .next t ∧
    t = { s with regs := t.regs, comp := t.comp, sent := t.sent, freeCtr := t.freeCtr, chain := t.chain }

/-- What ENUM_RETURN leaves as it was. -/
def keeps_enumReturn : Prop :=
  ∀ (s : State) (recs : List EnumRec), ∃ t, exec (.enumReturn recs) s = .next t ∧
    t.pending = s.pending ∧ t.variant = s.variant ∧ t.record = s.record ∧ t.ticks = s.ticks ∧ t.time = s.time ∧ t.evr = s.evr ∧ t.thm = s.thm ∧ t.est = s.est ∧ t.bal = s.bal ∧ t.pairU = s.pairU ∧ t.fltHeld = s.fltHeld ∧ t.twb = s.twb ∧ t.acc = s.acc ∧ t.dormantAt = s.dormantAt

/-- What ENUM_TIMEOUT leaves as it was. -/
def keeps_enumTimeout : Prop :=
  ∀ (s : State), ∃ t, exec .enumTimeout s = .next t ∧
    t.pending = s.pending ∧ t.variant = s.variant ∧ t.record = s.record ∧ t.ticks = s.ticks ∧ t.time = s.time ∧ t.evr = s.evr ∧ t.thm = s.thm ∧ t.est = s.est ∧ t.bal = s.bal ∧ t.pairU = s.pairU ∧ t.fltHeld = s.fltHeld ∧ t.twb = s.twb ∧ t.acc = s.acc ∧ t.dormantAt = s.dormantAt

/-- What ENUM_DONE leaves as it was. -/
def keeps_enumDone : Prop :=
  ∀ (s : State) (bad : List Nat), ∃ t, exec (.enumDone bad) s = .next t ∧
    t.pending = s.pending ∧ t.variant = s.variant ∧ t.record = s.record ∧ t.ticks = s.ticks ∧ t.time = s.time ∧ t.evr = s.evr ∧ t.thm = s.thm ∧ t.est = s.est ∧ t.bal = s.bal ∧ t.pairU = s.pairU ∧ t.fltHeld = s.fltHeld ∧ t.twb = s.twb ∧ t.acc = s.acc ∧ t.dormantAt = s.dormantAt

/-- What SWEEP_REJOIN leaves as it was. -/
def keeps_sweepRejoin : Prop :=
  ∀ (s : State) (master : Nat), ∃ t, exec (.sweepRejoin master) s = .next t ∧
    t = { s with regs := t.regs, comp := t.comp, sent := t.sent, freeCtr := t.freeCtr, chain := t.chain }

/-- What NREG_READ leaves as it was. -/
def keeps_nregRead : Prop :=
  ∀ (s : State) (master pos reg : Nat), ∃ t, exec (.nregRead master pos reg) s = .next t ∧
    t = { s with regs := t.regs, comp := t.comp, sent := t.sent, freeCtr := t.freeCtr }

/-- What NREG_WRITE leaves as it was. -/
def keeps_nregWrite : Prop :=
  ∀ (s : State) (master pos reg value : Nat), ∃ t, exec (.nregWrite master pos reg value) s = .next t ∧
    t = { s with regs := t.regs, comp := t.comp, sent := t.sent, freeCtr := t.freeCtr }

/-- What NREG_REPLY leaves as it was. -/
def keeps_nregReply : Prop :=
  ∀ (s : State) (pos reg value result : Nat), ∃ t, exec (.nregReply pos reg value result) s = .next t ∧
    t = { s with regs := t.regs, comp := t.comp, sent := t.sent, freeCtr := t.freeCtr, mram := t.mram, gal := t.gal, mode := t.mode, loops := t.loops, prof := t.prof, drv := t.drv, safe := t.safe, asy := t.asy, meas := t.meas, bal := t.bal, chain := t.chain, cyc := t.cyc, can := t.can, eth := t.eth }

/-- What NREG_TIMEOUT leaves as it was. -/
def keeps_nregTimeout : Prop :=
  ∀ (s : State), ∃ t, exec .nregTimeout s = .next t ∧
    t = { s with regs := t.regs, comp := t.comp, sent := t.sent, freeCtr := t.freeCtr }

/-- What DRIVE_LINK_UP leaves as it was. -/
def keeps_driveLinkUp : Prop :=
  ∀ (s : State), ∃ t, exec .driveLinkUp s = .next t ∧
    t = { s with regs := t.regs, comp := t.comp, sent := t.sent, freeCtr := t.freeCtr }

/-- What DRIVE_LINK_LOST leaves as it was. -/
def keeps_driveLinkLost : Prop :=
  ∀ (s : State), ∃ t, exec .driveLinkLost s = .next t ∧
    t = { s with regs := t.regs, comp := t.comp, sent := t.sent, freeCtr := t.freeCtr }

/-- What STATUS_TIMEOUT leaves as it was. -/
def keeps_statusTimeout : Prop :=
  ∀ (s : State), ∃ t, exec .statusTimeout s = .next t ∧
    t = { s with regs := t.regs, comp := t.comp, sent := t.sent, freeCtr := t.freeCtr, mram := t.mram, gal := t.gal, mode := t.mode, loops := t.loops, prof := t.prof, drv := t.drv, safe := t.safe, asy := t.asy, meas := t.meas, cyc := t.cyc, can := t.can, eth := t.eth }

/-- What RENEW_SEND leaves as it was. -/
def keeps_renewSend : Prop :=
  ∀ (s : State), ∃ t, exec .renewSend s = .next t ∧
    t = { s with regs := t.regs, comp := t.comp, sent := t.sent, freeCtr := t.freeCtr, drv := t.drv }

/-- What WATCH_SEND leaves as it was. -/
def keeps_watchSend : Prop :=
  ∀ (s : State), ∃ t, exec .watchSend s = .next t ∧
    t = { s with regs := t.regs, comp := t.comp, sent := t.sent, freeCtr := t.freeCtr, drv := t.drv }

/-- What CLAIM_REPEAT leaves as it was. -/
def keeps_claimRepeat : Prop :=
  ∀ (s : State), ∃ t, exec .claimRepeat s = .next t ∧
    t = { s with regs := t.regs, comp := t.comp, sent := t.sent, freeCtr := t.freeCtr, drv := t.drv }

/-- What PWM_ENABLE leaves as it was. -/
def keeps_pwmEnable : Prop :=
  ∀ (s : State), ∃ t, exec .pwmEnable s = .next t ∧
    t = { s with regs := t.regs, comp := t.comp, sent := t.sent, freeCtr := t.freeCtr, mram := t.mram, gal := t.gal, mode := t.mode, loops := t.loops, prof := t.prof, drv := t.drv, safe := t.safe, asy := t.asy, meas := t.meas, bal := t.bal, pairU := t.pairU, cyc := t.cyc, can := t.can, eth := t.eth }

/-- What DRIVE_EN_CHANGE leaves as it was. -/
def keeps_driveEnChange : Prop :=
  ∀ (s : State) (line : Nat) (high : Bool), ∃ t, exec (.driveEnChange line high) s = .next t ∧
    t = { s with regs := t.regs, comp := t.comp, sent := t.sent, freeCtr := t.freeCtr, mram := t.mram, gal := t.gal, mode := t.mode, loops := t.loops, prof := t.prof, drv := t.drv, safe := t.safe, asy := t.asy, meas := t.meas, cyc := t.cyc, can := t.can, eth := t.eth }

/-- What DRIVE_EN_TEST leaves as it was. -/
def keeps_driveEnTest : Prop :=
  ∀ (s : State) (readLow readHigh : Bool), ∃ t, exec (.driveEnTest readLow readHigh) s = .next t ∧
    t = { s with regs := t.regs, comp := t.comp, sent := t.sent, freeCtr := t.freeCtr, mram := t.mram, gal := t.gal, mode := t.mode, loops := t.loops, prof := t.prof, drv := t.drv, safe := t.safe, asy := t.asy, meas := t.meas, bal := t.bal, cyc := t.cyc, can := t.can, eth := t.eth }

/-- What FB_SAMPLE leaves as it was. -/
def keeps_fbSample : Prop :=
  ∀ (s : State) (neg pre pos : Bool), ∃ t, exec (.fbSample neg pre pos) s = .next t ∧
    t = { s with regs := t.regs, comp := t.comp, sent := t.sent, freeCtr := t.freeCtr, mram := t.mram, gal := t.gal, mode := t.mode, loops := t.loops, prof := t.prof, drv := t.drv, safe := t.safe, asy := t.asy, meas := t.meas, bal := t.bal, cyc := t.cyc, can := t.can, eth := t.eth }

/-- What CONT_STEP_TIMEOUT leaves as it was. -/
def keeps_contStepTimeout : Prop :=
  ∀ (s : State), ∃ t, exec .contStepTimeout s = .next t ∧
    t = { s with regs := t.regs, comp := t.comp, sent := t.sent, freeCtr := t.freeCtr, mram := t.mram, gal := t.gal, mode := t.mode, loops := t.loops, prof := t.prof, drv := t.drv, safe := t.safe, asy := t.asy, meas := t.meas, bal := t.bal, cyc := t.cyc, can := t.can, eth := t.eth }

/-- What PRE_TIMEOUT leaves as it was. -/
def keeps_preTimeout : Prop :=
  ∀ (s : State), ∃ t, exec .preTimeout s = .next t ∧
    t = { s with regs := t.regs, comp := t.comp, sent := t.sent, freeCtr := t.freeCtr, mram := t.mram, gal := t.gal, mode := t.mode, loops := t.loops, prof := t.prof, drv := t.drv, safe := t.safe, asy := t.asy, meas := t.meas, bal := t.bal, cyc := t.cyc, can := t.can, eth := t.eth }

/-- What GATES_TIMEOUT leaves as it was. -/
def keeps_gatesTimeout : Prop :=
  ∀ (s : State), ∃ t, exec .gatesTimeout s = .next t ∧
    t = { s with regs := t.regs, comp := t.comp, sent := t.sent, freeCtr := t.freeCtr, mram := t.mram, gal := t.gal, mode := t.mode, loops := t.loops, prof := t.prof, drv := t.drv, safe := t.safe, asy := t.asy, meas := t.meas, bal := t.bal, cyc := t.cyc, can := t.can, eth := t.eth }

/-- What FB_DISAGREE leaves as it was. -/
def keeps_fbDisagree : Prop :=
  ∀ (s : State), ∃ t, exec .fbDisagree s = .next t ∧
    t = { s with regs := t.regs, comp := t.comp, sent := t.sent, freeCtr := t.freeCtr }

/-- What CONT_UNEXPECTED leaves as it was. -/
def keeps_contUnexpected : Prop :=
  ∀ (s : State), ∃ t, exec .contUnexpected s = .next t ∧
    t = { s with regs := t.regs, comp := t.comp, sent := t.sent, freeCtr := t.freeCtr, mram := t.mram, gal := t.gal, mode := t.mode, loops := t.loops, prof := t.prof, drv := t.drv, safe := t.safe, asy := t.asy, meas := t.meas, cyc := t.cyc, can := t.can, eth := t.eth }

/-- What FB_TEST_GAP leaves as it was. -/
def keeps_fbTestGap : Prop :=
  ∀ (s : State) (reads : Nat), ∃ t, exec (.fbTestGap reads) s = .next t ∧
    t = { s with regs := t.regs, comp := t.comp, sent := t.sent, freeCtr := t.freeCtr, mram := t.mram, gal := t.gal, mode := t.mode, loops := t.loops, prof := t.prof, drv := t.drv, safe := t.safe, asy := t.asy, meas := t.meas, cyc := t.cyc, can := t.can, eth := t.eth }

/-- What CUR_REDUCE_REPEAT leaves as it was. -/
def keeps_curReduceRepeat : Prop :=
  ∀ (s : State), ∃ t, exec .curReduceRepeat s = .next t ∧
    t = { s with regs := t.regs, comp := t.comp, sent := t.sent, freeCtr := t.freeCtr, safe := t.safe, can := t.can, eth := t.eth }

/-- What CUR_REDUCE_DEADLINE leaves as it was. -/
def keeps_curReduceDeadline : Prop :=
  ∀ (s : State), ∃ t, exec .curReduceDeadline s = .next t ∧
    t = { s with regs := t.regs, comp := t.comp, sent := t.sent, freeCtr := t.freeCtr, mram := t.mram, gal := t.gal, mode := t.mode, loops := t.loops, prof := t.prof, drv := t.drv, safe := t.safe, asy := t.asy, meas := t.meas, bal := t.bal, cyc := t.cyc, can := t.can, eth := t.eth }

/-- What CONNECT_ACK leaves as it was. -/
def keeps_connectAck : Prop :=
  ∀ (s : State) (can : Nat) (accept : Bool), ∃ t, exec (.connectAck can accept) s = .next t ∧
    t = { s with regs := t.regs, comp := t.comp, sent := t.sent, freeCtr := t.freeCtr, mram := t.mram, gal := t.gal, mode := t.mode, loops := t.loops, prof := t.prof, drv := t.drv, safe := t.safe, asy := t.asy, meas := t.meas, bal := t.bal, cyc := t.cyc, can := t.can, eth := t.eth }

/-- What CONNECT_TIMEOUT leaves as it was. -/
def keeps_connectTimeout : Prop :=
  ∀ (s : State), ∃ t, exec .connectTimeout s = .next t ∧
    t = { s with regs := t.regs, comp := t.comp, sent := t.sent, freeCtr := t.freeCtr, mram := t.mram, gal := t.gal, mode := t.mode, loops := t.loops, prof := t.prof, drv := t.drv, safe := t.safe, asy := t.asy, meas := t.meas, cyc := t.cyc }

/-- What LOCKSTEP leaves as it was. -/
def keeps_lockstep : Prop :=
  ∀ (s : State), ∃ t, exec .lockstep s = .next t ∧
    t = { s with regs := t.regs, comp := t.comp, sent := t.sent, freeCtr := t.freeCtr, mram := t.mram, gal := t.gal, mode := t.mode, loops := t.loops, prof := t.prof, drv := t.drv, safe := t.safe, asy := t.asy, meas := t.meas, cyc := t.cyc, can := t.can, eth := t.eth }

/-- What LOCKSTEP_RESET_HOLD leaves as it was. -/
def keeps_lockstepResetHold : Prop :=
  ∀ (s : State), ∃ t, exec .lockstepResetHold s = .next t ∧
    t.pending = s.pending ∧ t.variant = s.variant ∧ t.record = s.record ∧ t.gal = s.gal

/-- What MARGIN_SELFTEST leaves as it was. -/
def keeps_marginSelftest : Prop :=
  ∀ (s : State) (failBank : Option Nat), ∃ t, exec (.marginSelftest failBank) s = .next t ∧
    t = { s with regs := t.regs, comp := t.comp, sent := t.sent, freeCtr := t.freeCtr, mram := t.mram, gal := t.gal, mode := t.mode, loops := t.loops, prof := t.prof, drv := t.drv, safe := t.safe, asy := t.asy, meas := t.meas, cyc := t.cyc, can := t.can, eth := t.eth }

/-- What CFG_CRC_CHECK leaves as it was. -/
def keeps_cfgCrcCheck : Prop :=
  ∀ (s : State), ∃ t, exec .cfgCrcCheck s = .next t ∧
    t = { s with regs := t.regs, comp := t.comp, sent := t.sent, freeCtr := t.freeCtr, mram := t.mram, gal := t.gal, mode := t.mode, loops := t.loops, prof := t.prof, drv := t.drv, safe := t.safe, asy := t.asy, meas := t.meas, cyc := t.cyc, can := t.can, eth := t.eth }

/-- What FS_RAMP_DEADLINE leaves as it was. -/
def keeps_fsRampDeadline : Prop :=
  ∀ (s : State), ∃ t, exec .fsRampDeadline s = .next t ∧
    t = { s with regs := t.regs, comp := t.comp, sent := t.sent, freeCtr := t.freeCtr, mram := t.mram, gal := t.gal, mode := t.mode, loops := t.loops, prof := t.prof, drv := t.drv, safe := t.safe, asy := t.asy, meas := t.meas, bal := t.bal, cyc := t.cyc, can := t.can, eth := t.eth }

/-- What FS_NO_RAMP_FALLBACK leaves as it was. -/
def keeps_fsNoRampFallback : Prop :=
  ∀ (s : State), ∃ t, exec .fsNoRampFallback s = .next t ∧
    t = { s with regs := t.regs, comp := t.comp, sent := t.sent, freeCtr := t.freeCtr, mram := t.mram, gal := t.gal, mode := t.mode, loops := t.loops, prof := t.prof, drv := t.drv, safe := t.safe, asy := t.asy, meas := t.meas, bal := t.bal, cyc := t.cyc, can := t.can, eth := t.eth }

/-- What ELLIPSIS_EXPIRY leaves as it was. -/
def keeps_ellipsisExpiry : Prop :=
  ∀ (s : State), ∃ t, exec .ellipsisExpiry s = .next t ∧
    t = { s with regs := t.regs, comp := t.comp, sent := t.sent, freeCtr := t.freeCtr, mram := t.mram, gal := t.gal, mode := t.mode, loops := t.loops, prof := t.prof, drv := t.drv, safe := t.safe, asy := t.asy, meas := t.meas, cyc := t.cyc, can := t.can, eth := t.eth }

/-- What SIO_SAMPLE leaves as it was. -/
def keeps_sioSample : Prop :=
  ∀ (s : State) (chA chB : Nat), ∃ t, exec (.sioSample chA chB) s = .next t ∧
    t = { s with regs := t.regs, comp := t.comp, sent := t.sent, freeCtr := t.freeCtr, mram := t.mram, gal := t.gal, mode := t.mode, loops := t.loops, prof := t.prof, drv := t.drv, safe := t.safe, asy := t.asy, meas := t.meas, cyc := t.cyc, can := t.can, eth := t.eth }

/-- What ECC_CORRECTED leaves as it was. -/
def keeps_eccCorrected : Prop :=
  ∀ (s : State), ∃ t, exec .eccCorrected s = .next t ∧
    t = { s with regs := t.regs, comp := t.comp, sent := t.sent, freeCtr := t.freeCtr }

/-- What SUPPLY_LOSS leaves as it was. -/
def keeps_supplyLoss : Prop :=
  ∀ (s : State), ∃ t, exec .supplyLoss s = .next t ∧
    t.pending = s.pending ∧ t.variant = s.variant ∧ t.record = s.record ∧ t.gal = s.gal

/-- What STATUS leaves as it was. -/
def keeps_status : Prop :=
  ∀ (s : State) (st : StatusMsg), ∃ t, exec (.status st) s = .next t ∧
    t.pending = s.pending ∧ t.phase = s.phase ∧ t.variant = s.variant ∧ t.record = s.record ∧ t.ticks = s.ticks ∧ t.evr = s.evr ∧ t.thm = s.thm ∧ t.fltHeld = s.fltHeld ∧ t.twb = s.twb ∧ t.acc = s.acc ∧ t.dormantAt = s.dormantAt

/-- What STOP_REQ leaves as it was. -/
def keeps_stopReq : Prop :=
  ∀ (s : State) (edition : Nat), ∃ t, exec (.stopReq edition) s = .next t ∧
    t = { s with regs := t.regs, comp := t.comp, sent := t.sent, freeCtr := t.freeCtr, mram := t.mram, time := t.time, gal := t.gal, mode := t.mode, loops := t.loops, prof := t.prof, drv := t.drv, safe := t.safe, asy := t.asy, meas := t.meas, chain := t.chain, cyc := t.cyc, can := t.can, eth := t.eth }

/-- What STOP_REQ_TIMEOUT leaves as it was. -/
def keeps_stopReqTimeout : Prop :=
  ∀ (s : State), ∃ t, exec .stopReqTimeout s = .next t ∧
    t = { s with regs := t.regs, comp := t.comp, sent := t.sent, freeCtr := t.freeCtr, safe := t.safe }

/-- What HEARTBEAT_SEND leaves as it was. -/
def keeps_heartbeatSend : Prop :=
  ∀ (s : State), ∃ t, exec .heartbeatSend s = .next t ∧
    t = { s with regs := t.regs, comp := t.comp, sent := t.sent, freeCtr := t.freeCtr, pairU := t.pairU, eth := t.eth }

/-- What HEARTBEAT leaves as it was. -/
def keeps_heartbeat : Prop :=
  ∀ (s : State) (hb : HeartbeatMsg), ∃ t, exec (.heartbeat hb) s = .next t ∧
    t = { s with regs := t.regs, comp := t.comp, sent := t.sent, freeCtr := t.freeCtr, mram := t.mram, time := t.time, gal := t.gal, mode := t.mode, loops := t.loops, prof := t.prof, drv := t.drv, safe := t.safe, asy := t.asy, meas := t.meas, chain := t.chain, pairU := t.pairU, cyc := t.cyc, can := t.can, eth := t.eth }

/-- What HB_PULSE leaves as it was. -/
def keeps_hbPulse : Prop :=
  ∀ (s : State) (widthUs gapUs : Nat), ∃ t, exec (.hbPulse widthUs gapUs) s = .next t ∧
    t = { s with regs := t.regs, comp := t.comp, sent := t.sent, freeCtr := t.freeCtr, safe := t.safe, pairU := t.pairU, eth := t.eth }

/-- What HB_PATH_LOST leaves as it was. -/
def keeps_hbPathLost : Prop :=
  ∀ (s : State) (path : Nat), ∃ t, exec (.hbPathLost path) s = .next t ∧
    t = { s with regs := t.regs, comp := t.comp, sent := t.sent, freeCtr := t.freeCtr, time := t.time, pairU := t.pairU }

/-- What PARTNER_LOST leaves as it was. -/
def keeps_partnerLost : Prop :=
  ∀ (s : State), ∃ t, exec .partnerLost s = .next t ∧
    t = { s with regs := t.regs, comp := t.comp, sent := t.sent, freeCtr := t.freeCtr, chain := t.chain }

/-- What CLAIM_SEND leaves as it was. -/
def keeps_claimSend : Prop :=
  ∀ (s : State), ∃ t, exec .claimSend s = .next t ∧
    t = { s with regs := t.regs, comp := t.comp, sent := t.sent, freeCtr := t.freeCtr, drv := t.drv }

/-- What PAIR_CLAIM leaves as it was. -/
def keeps_pairClaim : Prop :=
  ∀ (s : State) (master : Nat), ∃ t, exec (.pairClaim master) s = .next t ∧
    t = { s with regs := t.regs, comp := t.comp, sent := t.sent, freeCtr := t.freeCtr, drv := t.drv }

/-- What CLAIM_TIMEOUT leaves as it was. -/
def keeps_claimTimeout : Prop :=
  ∀ (s : State), ∃ t, exec .claimTimeout s = .next t ∧
    t = { s with regs := t.regs, comp := t.comp, sent := t.sent, freeCtr := t.freeCtr, drv := t.drv }

/-- What MIRROR_SEND leaves as it was. -/
def keeps_mirrorSend : Prop :=
  ∀ (s : State), ∃ t, exec .mirrorSend s = .next t ∧
    t = { s with regs := t.regs, comp := t.comp, sent := t.sent, freeCtr := t.freeCtr, pairU := t.pairU, eth := t.eth }

/-- What MIRROR leaves as it was. -/
def keeps_mirror : Prop :=
  ∀ (s : State) (m : MirrorMsg), ∃ t, exec (.mirror m) s = .next t ∧
    t = { s with regs := t.regs, comp := t.comp, sent := t.sent, freeCtr := t.freeCtr, mram := t.mram, time := t.time, gal := t.gal, mode := t.mode, loops := t.loops, prof := t.prof, drv := t.drv, safe := t.safe, asy := t.asy, meas := t.meas, est := t.est, chain := t.chain, pairU := t.pairU, cyc := t.cyc, can := t.can, eth := t.eth }

/-- What MIRROR_STALE leaves as it was. -/
def keeps_mirrorStale : Prop :=
  ∀ (s : State), ∃ t, exec .mirrorStale s = .next t ∧
    t = { s with regs := t.regs, comp := t.comp, sent := t.sent, freeCtr := t.freeCtr }

/-- What CFG_DIFFER leaves as it was. -/
def keeps_cfgDiffer : Prop :=
  ∀ (s : State), ∃ t, exec .cfgDiffer s = .next t ∧
    t = { s with regs := t.regs, comp := t.comp, sent := t.sent, freeCtr := t.freeCtr }

/-- What RESYNC_REQ leaves as it was. -/
def keeps_resyncReq : Prop :=
  ∀ (s : State) (edition : Nat), ∃ t, exec (.resyncReq edition) s = .next t ∧
    t = { s with regs := t.regs, comp := t.comp, sent := t.sent, freeCtr := t.freeCtr, mram := t.mram, time := t.time, gal := t.gal, mode := t.mode, loops := t.loops, prof := t.prof, drv := t.drv, safe := t.safe, asy := t.asy, meas := t.meas, chain := t.chain, pairU := t.pairU, cyc := t.cyc, can := t.can, eth := t.eth }

/-- What MODE_REQ leaves as it was. -/
def keeps_modeReq : Prop :=
  ∀ (s : State) (edition tag target : Nat), ∃ t, exec (.modeReq edition tag target) s = .next t ∧
    t = { s with regs := t.regs, comp := t.comp, sent := t.sent, freeCtr := t.freeCtr, mram := t.mram, time := t.time, gal := t.gal, mode := t.mode, loops := t.loops, prof := t.prof, drv := t.drv, safe := t.safe, asy := t.asy, meas := t.meas, chain := t.chain, cyc := t.cyc, can := t.can, eth := t.eth }

/-- What MODE_RESULT leaves as it was. -/
def keeps_modeResult : Prop :=
  ∀ (s : State) (edition code check target : Nat), ∃ t, exec (.modeResult edition code check target) s = .next t ∧
    t = { s with regs := t.regs, comp := t.comp, sent := t.sent, freeCtr := t.freeCtr, mram := t.mram, time := t.time, gal := t.gal, mode := t.mode, loops := t.loops, prof := t.prof, drv := t.drv, safe := t.safe, asy := t.asy, meas := t.meas, chain := t.chain, cyc := t.cyc, can := t.can, eth := t.eth }

/-- What MODE_REQ_TIMEOUT leaves as it was. -/
def keeps_modeReqTimeout : Prop :=
  ∀ (s : State), ∃ t, exec .modeReqTimeout s = .next t ∧
    t = { s with regs := t.regs, comp := t.comp, sent := t.sent, freeCtr := t.freeCtr, mode := t.mode }

/-- What SWAP_DUE leaves as it was. -/
def keeps_swapDue : Prop :=
  ∀ (s : State), ∃ t, exec .swapDue s = .next t ∧
    t = { s with regs := t.regs, comp := t.comp, sent := t.sent, freeCtr := t.freeCtr, mram := t.mram, gal := t.gal, pairU := t.pairU, eth := t.eth }

/-- What SWAP_NOW leaves as it was. -/
def keeps_swapNow : Prop :=
  ∀ (s : State) (master : Nat), ∃ t, exec (.swapNow master) s = .next t ∧
    t = { s with regs := t.regs, comp := t.comp, sent := t.sent, freeCtr := t.freeCtr, mram := t.mram, gal := t.gal, pairU := t.pairU, eth := t.eth }

/-- What SWAP_OVERDUE leaves as it was. -/
def keeps_swapOverdue : Prop :=
  ∀ (s : State), ∃ t, exec .swapOverdue s = .next t ∧
    t = { s with regs := t.regs, comp := t.comp, sent := t.sent, freeCtr := t.freeCtr }

/-- What SWAP_OFFER leaves as it was. -/
def keeps_swapOffer : Prop :=
  ∀ (s : State) (edition : Nat), ∃ t, exec (.swapOffer edition) s = .next t ∧
    t = { s with regs := t.regs, comp := t.comp, sent := t.sent, freeCtr := t.freeCtr, mram := t.mram, time := t.time, gal := t.gal, mode := t.mode, loops := t.loops, prof := t.prof, drv := t.drv, safe := t.safe, asy := t.asy, meas := t.meas, chain := t.chain, pairU := t.pairU, cyc := t.cyc, can := t.can, eth := t.eth }

/-- What SWAP_ACCEPT leaves as it was. -/
def keeps_swapAccept : Prop :=
  ∀ (s : State) (edition : Nat), ∃ t, exec (.swapAccept edition) s = .next t ∧
    t = { s with regs := t.regs, comp := t.comp, sent := t.sent, freeCtr := t.freeCtr, mram := t.mram, time := t.time, gal := t.gal, mode := t.mode, loops := t.loops, prof := t.prof, drv := t.drv, safe := t.safe, asy := t.asy, meas := t.meas, chain := t.chain, pairU := t.pairU, cyc := t.cyc, can := t.can, eth := t.eth }

/-- What SWAP_DECLINE leaves as it was. -/
def keeps_swapDecline : Prop :=
  ∀ (s : State) (edition : Nat), ∃ t, exec (.swapDecline edition) s = .next t ∧
    t = { s with regs := t.regs, comp := t.comp, sent := t.sent, freeCtr := t.freeCtr, mram := t.mram, time := t.time, gal := t.gal, mode := t.mode, loops := t.loops, prof := t.prof, drv := t.drv, safe := t.safe, asy := t.asy, meas := t.meas, chain := t.chain, pairU := t.pairU, cyc := t.cyc, can := t.can, eth := t.eth }

/-- What SWAP_HOLDOFF_END leaves as it was. -/
def keeps_swapHoldoffEnd : Prop :=
  ∀ (s : State), ∃ t, exec .swapHoldoffEnd s = .next t ∧
    t = { s with regs := t.regs, comp := t.comp, sent := t.sent, freeCtr := t.freeCtr, pairU := t.pairU }

/-- What SWAP_GRANT_TIMEOUT leaves as it was. -/
def keeps_swapGrantTimeout : Prop :=
  ∀ (s : State), ∃ t, exec .swapGrantTimeout s = .next t ∧
    t = { s with regs := t.regs, comp := t.comp, sent := t.sent, freeCtr := t.freeCtr, mram := t.mram, gal := t.gal, pairU := t.pairU }

/-- What LATENT_CLR leaves as it was. -/
def keeps_latentClr : Prop :=
  ∀ (s : State) (master value : Nat), ∃ t, exec (.latentClr master value) s = .next t ∧
    t = { s with regs := t.regs, comp := t.comp, sent := t.sent, freeCtr := t.freeCtr, mram := t.mram }

/-- What CYCLE_BOUNDARY leaves as it was. -/
def keeps_cycleBoundary : Prop :=
  ∀ (s : State) (out : OutImage), ∃ t, exec (.cycleBoundary out) s = .next t ∧
    t.pending = s.pending ∧ t.variant = s.variant ∧ t.record = s.record

/-- What ENTRY_RETURN leaves as it was. -/
def keeps_entryReturn : Prop :=
  ∀ (s : State) (execUs : Nat), ∃ t, exec (.entryReturn execUs) s = .next t ∧
    t = { s with regs := t.regs, comp := t.comp, sent := t.sent, freeCtr := t.freeCtr, gal := t.gal, upd := t.upd, cyc := t.cyc }

/-- What CYCLE_DEADLINE leaves as it was. -/
def keeps_cycleDeadline : Prop :=
  ∀ (s : State) (out : OutImage), ∃ t, exec (.cycleDeadline out) s = .next t ∧
    t.pending = s.pending ∧ t.variant = s.variant ∧ t.record = s.record

/-- What RETAIN_COMMIT leaves as it was. -/
def keeps_retainCommit : Prop :=
  ∀ (s : State), ∃ t, exec .retainCommit s = .next t ∧
    t = { s with regs := t.regs, comp := t.comp, sent := t.sent, freeCtr := t.freeCtr, cyc := t.cyc }

/-- What NOTE leaves as it was. -/
def keeps_note : Prop :=
  ∀ (s : State) (a0 : Nat), ∃ t, exec (.note a0) s = .next t ∧
    t = { s with regs := t.regs, comp := t.comp, sent := t.sent, freeCtr := t.freeCtr }

/-- What SHADOW_NOW leaves as it was. -/
def keeps_shadowNow : Prop :=
  ∀ (s : State), ∃ t, exec .shadowNow s = .next t ∧
    t = { s with regs := t.regs, comp := t.comp, sent := t.sent, freeCtr := t.freeCtr, cyc := t.cyc }

/-- What CORE_TRAP leaves as it was. -/
def keeps_coreTrap : Prop :=
  ∀ (s : State) (cause pc : Nat), ∃ t, exec (.coreTrap cause pc) s = .next t ∧
    t = { s with regs := t.regs, comp := t.comp, sent := t.sent, freeCtr := t.freeCtr, ram := t.ram, mram := t.mram, gal := t.gal, upd := t.upd, cyc := t.cyc }

/-- What EBREAK leaves as it was. -/
def keeps_ebreak : Prop :=
  ∀ (s : State) (pc : Nat), ∃ t, exec (.ebreak pc) s = .next t ∧
    t = { s with regs := t.regs, comp := t.comp, sent := t.sent, freeCtr := t.freeCtr, gal := t.gal, upd := t.upd, cyc := t.cyc }

/-- What SERVICE_TRAP leaves as it was. -/
def keeps_serviceTrap : Prop :=
  ∀ (s : State) (returned : Bool) (code pc : Nat), ∃ t, exec (.serviceTrap returned code pc) s = .next t ∧
    t = { s with regs := t.regs, comp := t.comp, sent := t.sent, freeCtr := t.freeCtr, cyc := t.cyc }

/-- What SERVICE_RESTART leaves as it was. -/
def keeps_serviceRestart : Prop :=
  ∀ (s : State), ∃ t, exec .serviceRestart s = .next t ∧
    t = { s with regs := t.regs, comp := t.comp, sent := t.sent, freeCtr := t.freeCtr, cyc := t.cyc }

/-- What CYC_RUN leaves as it was. -/
def keeps_cycRun : Prop :=
  ∀ (s : State) (master startKind : Nat), ∃ t, exec (.cycRun master startKind) s = .next t ∧
    t = { s with regs := t.regs, comp := t.comp, sent := t.sent, freeCtr := t.freeCtr, cyc := t.cyc }

/-- What CYC_STOP leaves as it was. -/
def keeps_cycStop : Prop :=
  ∀ (s : State) (master : Nat), ∃ t, exec (.cycStop master) s = .next t ∧
    t = { s with regs := t.regs, comp := t.comp, sent := t.sent, freeCtr := t.freeCtr, cyc := t.cyc }

/-- What CYC_HOLD leaves as it was. -/
def keeps_cycHold : Prop :=
  ∀ (s : State) (master : Nat), ∃ t, exec (.cycHold master) s = .next t ∧
    t = { s with regs := t.regs, comp := t.comp, sent := t.sent, freeCtr := t.freeCtr, cyc := t.cyc }

/-- What CYC_STEP leaves as it was. -/
def keeps_cycStep : Prop :=
  ∀ (s : State) (master : Nat), ∃ t, exec (.cycStep master) s = .next t ∧
    t = { s with regs := t.regs, comp := t.comp, sent := t.sent, freeCtr := t.freeCtr, cyc := t.cyc }

/-- What HOLD_LIMIT leaves as it was. -/
def keeps_holdLimit : Prop :=
  ∀ (s : State), ∃ t, exec .holdLimit s = .next t ∧
    t = { s with regs := t.regs, comp := t.comp, sent := t.sent, freeCtr := t.freeCtr, mram := t.mram, gal := t.gal, mode := t.mode, loops := t.loops, prof := t.prof, drv := t.drv, safe := t.safe, asy := t.asy, meas := t.meas, cyc := t.cyc, can := t.can, eth := t.eth }

/-- What INIT_TIMEOUT leaves as it was. -/
def keeps_initTimeout : Prop :=
  ∀ (s : State), ∃ t, exec .initTimeout s = .next t ∧
    t = { s with regs := t.regs, comp := t.comp, sent := t.sent, freeCtr := t.freeCtr, ram := t.ram, mram := t.mram, gal := t.gal, upd := t.upd, cyc := t.cyc }

/-- What PROG_SHADOW leaves as it was. -/
def keeps_progShadow : Prop :=
  ∀ (s : State), ∃ t, exec .progShadow s = .next t ∧
    t = { s with regs := t.regs, comp := t.comp, sent := t.sent, freeCtr := t.freeCtr, cyc := t.cyc }

/-- What SHADOW_SEALED leaves as it was. -/
def keeps_shadowSealed : Prop :=
  ∀ (s : State), ∃ t, exec .shadowSealed s = .next t ∧
    t.pending = s.pending ∧ t.variant = s.variant ∧ t.record = s.record ∧ t.gal = s.gal

/-- What RETAIN_STORE leaves as it was. -/
def keeps_retainStore : Prop :=
  ∀ (s : State), ∃ t, exec .retainStore s = .next t ∧
    t = { s with regs := t.regs, comp := t.comp, sent := t.sent, freeCtr := t.freeCtr, cyc := t.cyc }

/-- What TMR_IN_WRITE leaves as it was. -/
def keeps_tmrInWrite : Prop :=
  ∀ (s : State) (master slot : Nat) (level : Bool), ∃ t, exec (.tmrInWrite master slot level) s = .next t ∧
    t = { s with regs := t.regs, comp := t.comp, sent := t.sent, freeCtr := t.freeCtr, cyc := t.cyc }

/-- What TMR_PT_WRITE leaves as it was. -/
def keeps_tmrPtWrite : Prop :=
  ∀ (s : State) (master slot value : Nat), ∃ t, exec (.tmrPtWrite master slot value) s = .next t ∧
    t = { s with regs := t.regs, comp := t.comp, sent := t.sent, freeCtr := t.freeCtr, cyc := t.cyc }

/-- What TMR_EXPIRY leaves as it was. -/
def keeps_tmrExpiry : Prop :=
  ∀ (s : State) (slot : Nat), ∃ t, exec (.tmrExpiry slot) s = .next t ∧
    t = { s with regs := t.regs, comp := t.comp, sent := t.sent, freeCtr := t.freeCtr, cyc := t.cyc }

/-- What SYNC leaves as it was. -/
def keeps_sync : Prop :=
  ∀ (s : State) (m : PtpMsg), ∃ t, exec (.sync m) s = .next t ∧
    t = { s with regs := t.regs, comp := t.comp, sent := t.sent, freeCtr := t.freeCtr, time := t.time }

/-- What FOLLOW_UP leaves as it was. -/
def keeps_followUp : Prop :=
  ∀ (s : State) (m : PtpMsg), ∃ t, exec (.followUp m) s = .next t ∧
    t = { s with regs := t.regs, comp := t.comp, sent := t.sent, freeCtr := t.freeCtr, time := t.time }

/-- What ANNOUNCE leaves as it was. -/
def keeps_announce : Prop :=
  ∀ (s : State) (m : PtpMsg), ∃ t, exec (.announce m) s = .next t ∧
    t = { s with regs := t.regs, comp := t.comp, sent := t.sent, freeCtr := t.freeCtr, time := t.time }

/-- What PDELAY_REQ leaves as it was. -/
def keeps_pdelayReq : Prop :=
  ∀ (s : State) (m : PtpMsg), ∃ t, exec (.pdelayReq m) s = .next t ∧
    t = { s with regs := t.regs, comp := t.comp, sent := t.sent, freeCtr := t.freeCtr }

/-- What PDELAY_RESP leaves as it was. -/
def keeps_pdelayResp : Prop :=
  ∀ (s : State) (m : PtpMsg), ∃ t, exec (.pdelayResp m) s = .next t ∧
    t = { s with regs := t.regs, comp := t.comp, sent := t.sent, freeCtr := t.freeCtr, time := t.time }

/-- What PDELAY_REQ_SEND leaves as it was. -/
def keeps_pdelayReqSend : Prop :=
  ∀ (s : State) (port : Nat), ∃ t, exec (.pdelayReqSend port) s = .next t ∧
    t = { s with regs := t.regs, comp := t.comp, sent := t.sent, freeCtr := t.freeCtr, time := t.time }

/-- What SYNC_LOSS leaves as it was. -/
def keeps_syncLoss : Prop :=
  ∀ (s : State), ∃ t, exec .syncLoss s = .next t ∧
    t = { s with regs := t.regs, comp := t.comp, sent := t.sent, freeCtr := t.freeCtr, time := t.time }

/-- What ANNOUNCE_TIMEOUT leaves as it was. -/
def keeps_announceTimeout : Prop :=
  ∀ (s : State), ∃ t, exec .announceTimeout s = .next t ∧
    t = { s with regs := t.regs, comp := t.comp, sent := t.sent, freeCtr := t.freeCtr, time := t.time }

/-- What STEP_NS leaves as it was. -/
def keeps_stepNs : Prop :=
  ∀ (s : State) (master value : Nat), ∃ t, exec (.stepNs master value) s = .next t ∧
    t = { s with regs := t.regs, comp := t.comp, sent := t.sent, freeCtr := t.freeCtr, time := t.time }

/-- What LAUNCH_TRIG leaves as it was. -/
def keeps_launchTrig : Prop :=
  ∀ (s : State) (trig : Nat), ∃ t, exec (.launchTrig trig) s = .next t ∧
    t = { s with regs := t.regs, comp := t.comp, sent := t.sent, freeCtr := t.freeCtr, time := t.time }

/-- What TRIG_PULSE_END leaves as it was. -/
def keeps_trigPulseEnd : Prop :=
  ∀ (s : State) (trig : Nat), ∃ t, exec (.trigPulseEnd trig) s = .next t ∧
    t = { s with regs := t.regs, comp := t.comp, sent := t.sent, freeCtr := t.freeCtr, time := t.time }

/-- What COMPAT_LOAD leaves as it was. -/
def keeps_compatLoad : Prop :=
  ∀ (s : State) (master value : Nat), ∃ t, exec (.compatLoad master value) s = .next t ∧
    t = { s with regs := t.regs, comp := t.comp, sent := t.sent, freeCtr := t.freeCtr, time := t.time }

/-- What UPD_BEGIN leaves as it was. -/
def keeps_updBegin : Prop :=
  ∀ (s : State) (master : Nat), ∃ t, exec (.updBegin master) s = .next t ∧
    t = { s with regs := t.regs, comp := t.comp, sent := t.sent, freeCtr := t.freeCtr, gal := t.gal, upd := t.upd }

/-- What UPD_DATA leaves as it was. -/
def keeps_updData : Prop :=
  ∀ (s : State) (master value : Nat), ∃ t, exec (.updData master value) s = .next t ∧
    t = { s with regs := t.regs, comp := t.comp, sent := t.sent, freeCtr := t.freeCtr, upd := t.upd }

/-- What HEADER_CHECK_DONE leaves as it was. -/
def keeps_headerCheckDone : Prop :=
  ∀ (s : State) (sigOk : Bool), ∃ t, exec (.headerCheckDone sigOk) s = .next t ∧
    t = { s with regs := t.regs, comp := t.comp, sent := t.sent, freeCtr := t.freeCtr, gal := t.gal, upd := t.upd }

/-- What PAYLOAD_VERIFIED leaves as it was. -/
def keeps_payloadVerified : Prop :=
  ∀ (s : State) (body : BodyCheck), ∃ t, exec (.payloadVerified body) s = .next t ∧
    t = { s with regs := t.regs, comp := t.comp, sent := t.sent, freeCtr := t.freeCtr, upd := t.upd }

/-- What UPD_ABORT leaves as it was. -/
def keeps_updAbort : Prop :=
  ∀ (s : State) (master : Nat), ∃ t, exec (.updAbort master) s = .next t ∧
    t = { s with regs := t.regs, comp := t.comp, sent := t.sent, freeCtr := t.freeCtr, upd := t.upd }

/-- What UPD_ARM leaves as it was. -/
def keeps_updArm : Prop :=
  ∀ (s : State) (master value : Nat), ∃ t, exec (.updArm master value) s = .next t ∧
    t = { s with regs := t.regs, comp := t.comp, sent := t.sent, freeCtr := t.freeCtr, gal := t.gal, upd := t.upd }

/-- What UPD_REVERT leaves as it was. -/
def keeps_updRevert : Prop :=
  ∀ (s : State) (master value : Nat), ∃ t, exec (.updRevert master value) s = .next t ∧
    t = { s with regs := t.regs, comp := t.comp, sent := t.sent, freeCtr := t.freeCtr, gal := t.gal, upd := t.upd }

/-- What ACTIVATE_AT_DUE leaves as it was. -/
def keeps_activateAtDue : Prop :=
  ∀ (s : State), ∃ t, exec .activateAtDue s = .next t ∧
    t = { s with regs := t.regs, comp := t.comp, sent := t.sent, freeCtr := t.freeCtr }

/-- What KEY_REVOKE leaves as it was. -/
def keeps_keyRevoke : Prop :=
  ∀ (s : State) (master value : Nat), ∃ t, exec (.keyRevoke master value) s = .next t ∧
    t = { s with regs := t.regs, comp := t.comp, sent := t.sent, freeCtr := t.freeCtr, mram := t.mram }

/-- What NFW_RESULT leaves as it was. -/
def keeps_nfwResult : Prop :=
  ∀ (s : State) (pos result : Nat), ∃ t, exec (.nfwResult pos result) s = .next t ∧
    t.pending = s.pending ∧ t.variant = s.variant ∧ t.record = s.record ∧ t.ticks = s.ticks ∧ t.time = s.time ∧ t.evr = s.evr ∧ t.thm = s.thm ∧ t.est = s.est ∧ t.bal = s.bal ∧ t.pairU = s.pairU ∧ t.fltHeld = s.fltHeld ∧ t.twb = s.twb ∧ t.acc = s.acc ∧ t.dormantAt = s.dormantAt

/-- What NFW_BUSY_TIMEOUT leaves as it was. -/
def keeps_nfwBusyTimeout : Prop :=
  ∀ (s : State), ∃ t, exec .nfwBusyTimeout s = .next t ∧
    t = { s with regs := t.regs, comp := t.comp, sent := t.sent, freeCtr := t.freeCtr, ram := t.ram, phase := t.phase, mram := t.mram, gal := t.gal, mode := t.mode, loops := t.loops, prof := t.prof, drv := t.drv, safe := t.safe, asy := t.asy, meas := t.meas, aux := t.aux, upd := t.upd, cyc := t.cyc, can := t.can, eth := t.eth }

/-- What NODE_REJOIN_TIMEOUT leaves as it was. -/
def keeps_nodeRejoinTimeout : Prop :=
  ∀ (s : State), ∃ t, exec .nodeRejoinTimeout s = .next t ∧
    t.pending = s.pending ∧ t.variant = s.variant ∧ t.record = s.record ∧ t.ticks = s.ticks ∧ t.time = s.time ∧ t.evr = s.evr ∧ t.thm = s.thm ∧ t.est = s.est ∧ t.bal = s.bal ∧ t.pairU = s.pairU ∧ t.fltHeld = s.fltHeld ∧ t.twb = s.twb ∧ t.acc = s.acc ∧ t.dormantAt = s.dormantAt

/-- What LOAD_STATUS leaves as it was. -/
def keeps_loadStatus : Prop :=
  ∀ (s : State) (state offset result : Nat), ∃ t, exec (.loadStatus state offset result) s = .next t ∧
    t = { s with regs := t.regs, comp := t.comp, sent := t.sent, freeCtr := t.freeCtr, gal := t.gal, drv := t.drv, upd := t.upd }

/-- What LOAD_RESEND leaves as it was. -/
def keeps_loadResend : Prop :=
  ∀ (s : State), ∃ t, exec .loadResend s = .next t ∧
    t = { s with regs := t.regs, comp := t.comp, sent := t.sent, freeCtr := t.freeCtr, drv := t.drv, upd := t.upd }

/-- What LOAD_TIMEOUT leaves as it was. -/
def keeps_loadTimeout : Prop :=
  ∀ (s : State), ∃ t, exec .loadTimeout s = .next t ∧
    t = { s with regs := t.regs, comp := t.comp, sent := t.sent, freeCtr := t.freeCtr, gal := t.gal, drv := t.drv, upd := t.upd }

/-- What SYNC_SEND leaves as it was. -/
def keeps_syncSend : Prop :=
  ∀ (s : State) (port : Nat), ∃ t, exec (.syncSend port) s = .next t ∧
    t = { s with regs := t.regs, comp := t.comp, sent := t.sent, freeCtr := t.freeCtr, time := t.time }

/-- What SWAP_DRIVE_TIMEOUT leaves as it was. -/
def keeps_swapDriveTimeout : Prop :=
  ∀ (s : State), ∃ t, exec .swapDriveTimeout s = .next t ∧
    t = { s with regs := t.regs, comp := t.comp, sent := t.sent, freeCtr := t.freeCtr, mram := t.mram, gal := t.gal, drv := t.drv, pairU := t.pairU }

/-- What CLK_MON_WINDOW leaves as it was. -/
def keeps_clkMonWindow : Prop :=
  ∀ (s : State) (clock count : Nat), ∃ t, exec (.clkMonWindow clock count) s = .next t ∧
    t.pending = s.pending ∧ t.variant = s.variant ∧ t.record = s.record

/-- What TXB_REQ leaves as it was. -/
def keeps_txbReq : Prop :=
  ∀ (s : State) (can master value : Nat), ∃ t, exec (.txbReq can master value) s = .next t ∧
    t = { s with regs := t.regs, comp := t.comp, sent := t.sent, freeCtr := t.freeCtr, can := t.can }

/-- What TXB_CANCEL leaves as it was. -/
def keeps_txbCancel : Prop :=
  ∀ (s : State) (can master value : Nat), ∃ t, exec (.txbCancel can master value) s = .next t ∧
    t = { s with regs := t.regs, comp := t.comp, sent := t.sent, freeCtr := t.freeCtr }

/-- What CAN_LAUNCH_DUE leaves as it was. -/
def keeps_canLaunchDue : Prop :=
  ∀ (s : State) (can buf : Nat), ∃ t, exec (.canLaunchDue can buf) s = .next t ∧
    t = { s with regs := t.regs, comp := t.comp, sent := t.sent, freeCtr := t.freeCtr, can := t.can }

/-- What CAN_LATE_WINDOW leaves as it was. -/
def keeps_canLateWindow : Prop :=
  ∀ (s : State) (can buf : Nat), ∃ t, exec (.canLateWindow can buf) s = .next t ∧
    t = { s with regs := t.regs, comp := t.comp, sent := t.sent, freeCtr := t.freeCtr, can := t.can }

/-- What TX_DONE leaves as it was. -/
def keeps_txDone : Prop :=
  ∀ (s : State) (can buf sofNs : Nat), ∃ t, exec (.txDone can buf sofNs) s = .next t ∧
    t = { s with regs := t.regs, comp := t.comp, sent := t.sent, freeCtr := t.freeCtr, mram := t.mram, gal := t.gal, mode := t.mode, loops := t.loops, prof := t.prof, drv := t.drv, safe := t.safe, asy := t.asy, meas := t.meas, bal := t.bal, aux := t.aux, cyc := t.cyc, can := t.can, eth := t.eth }

/-- What CAN_RX_FRAME leaves as it was. -/
def keeps_canRxFrame : Prop :=
  ∀ (s : State) (can : Nat) (f : CanFrame), ∃ t, exec (.canRxFrame can f) s = .next t ∧
    t = { s with regs := t.regs, comp := t.comp, sent := t.sent, freeCtr := t.freeCtr, mram := t.mram, gal := t.gal, mode := t.mode, loops := t.loops, prof := t.prof, drv := t.drv, safe := t.safe, asy := t.asy, meas := t.meas, bal := t.bal, aux := t.aux, cyc := t.cyc, can := t.can, eth := t.eth }

/-- What CAN_BUS_ERROR leaves as it was. -/
def keeps_canBusError : Prop :=
  ∀ (s : State) (can tecInc recInc kind : Nat) (buf : Option Nat) (dataBit : Bool), ∃ t, exec (.canBusError can tecInc recInc kind buf dataBit) s = .next t ∧
    t = { s with regs := t.regs, comp := t.comp, sent := t.sent, freeCtr := t.freeCtr, can := t.can }

/-- What RECOVER leaves as it was. -/
def keeps_recover : Prop :=
  ∀ (s : State) (can master : Nat), ∃ t, exec (.recover can master) s = .next t ∧
    t = { s with regs := t.regs, comp := t.comp, sent := t.sent, freeCtr := t.freeCtr }

/-- What BUS_ON leaves as it was. -/
def keeps_busOn : Prop :=
  ∀ (s : State) (can : Nat), ∃ t, exec (.busOn can) s = .next t ∧
    t = { s with regs := t.regs, comp := t.comp, sent := t.sent, freeCtr := t.freeCtr }

/-- What CAN_MODE_WRITE leaves as it was. -/
def keeps_canModeWrite : Prop :=
  ∀ (s : State) (can master mode : Nat), ∃ t, exec (.canModeWrite can master mode) s = .next t ∧
    t = { s with regs := t.regs, comp := t.comp, sent := t.sent, freeCtr := t.freeCtr }

/-- What CAN_PERIODIC_DUE leaves as it was. -/
def keeps_canPeriodicDue : Prop :=
  ∀ (s : State) (path fn : Nat), ∃ t, exec (.canPeriodicDue path fn) s = .next t ∧
    t = { s with regs := t.regs, comp := t.comp, sent := t.sent, freeCtr := t.freeCtr, can := t.can, eth := t.eth }

/-- What TREF_SEND leaves as it was. -/
def keeps_trefSend : Prop :=
  ∀ (s : State) (can : Nat), ∃ t, exec (.trefSend can) s = .next t ∧
    t = { s with regs := t.regs, comp := t.comp, sent := t.sent, freeCtr := t.freeCtr, can := t.can }

/-- What TREF_LOST leaves as it was. -/
def keeps_trefLost : Prop :=
  ∀ (s : State) (can : Nat), ∃ t, exec (.trefLost can) s = .next t ∧
    t = { s with regs := t.regs, comp := t.comp, sent := t.sent, freeCtr := t.freeCtr, can := t.can }

/-- What RXQ_ACK leaves as it was. -/
def keeps_rxqAck : Prop :=
  ∀ (s : State) (can master value : Nat), ∃ t, exec (.rxqAck can master value) s = .next t ∧
    t = { s with regs := t.regs, comp := t.comp, sent := t.sent, freeCtr := t.freeCtr, can := t.can }

/-- What RXQ_HEAD_READ leaves as it was. -/
def keeps_rxqHeadRead : Prop :=
  ∀ (s : State) (can master queue word : Nat), ∃ t, exec (.rxqHeadRead can master queue word) s = .next t ∧
    t = { s with regs := t.regs, comp := t.comp, sent := t.sent, freeCtr := t.freeCtr, can := t.can }

/-- What RXQ_LOCK_EXPIRY leaves as it was. -/
def keeps_rxqLockExpiry : Prop :=
  ∀ (s : State) (can queue : Nat), ∃ t, exec (.rxqLockExpiry can queue) s = .next t ∧
    t = { s with regs := t.regs, comp := t.comp, sent := t.sent, freeCtr := t.freeCtr, can := t.can }

/-- What FILTER_COMMIT leaves as it was. -/
def keeps_filterCommit : Prop :=
  ∀ (s : State) (master elem word : Nat), ∃ t, exec (.filterCommit master elem word) s = .next t ∧
    t = { s with regs := t.regs, comp := t.comp, sent := t.sent, freeCtr := t.freeCtr }

/-- What ETH_LINK_CHANGE leaves as it was. -/
def keeps_ethLinkChange : Prop :=
  ∀ (s : State) (port : Nat) (up : Bool) (speed : Nat) (phyMaster : Bool), ∃ t, exec (.ethLinkChange port up speed phyMaster) s = .next t ∧
    t = { s with regs := t.regs, comp := t.comp, sent := t.sent, freeCtr := t.freeCtr }

/-- What ETH_RX_FRAME leaves as it was. -/
def keeps_ethRxFrame : Prop :=
  ∀ (s : State) (port : Nat) (f : EthFrame), ∃ t, exec (.ethRxFrame port f) s = .next t ∧
    t = { s with regs := t.regs, comp := t.comp, sent := t.sent, freeCtr := t.freeCtr, ram := t.ram, eth := t.eth }

/-- What PLANT_DATAGRAM leaves as it was. -/
def keeps_plantDatagram : Prop :=
  ∀ (s : State) (port : Nat) (f : EthFrame), ∃ t, exec (.plantDatagram port f) s = .next t ∧
    t = { s with regs := t.regs, comp := t.comp, sent := t.sent, freeCtr := t.freeCtr, ram := t.ram, mram := t.mram, gal := t.gal, mode := t.mode, loops := t.loops, prof := t.prof, drv := t.drv, safe := t.safe, asy := t.asy, meas := t.meas, bal := t.bal, cyc := t.cyc, can := t.can, eth := t.eth }

/-- What ARP_REQUEST leaves as it was. -/
def keeps_arpRequest : Prop :=
  ∀ (s : State) (port ip senderIp senderMacHi senderMacLo : Nat), ∃ t, exec (.arpRequest port ip senderIp senderMacHi senderMacLo) s = .next t ∧
    t = { s with regs := t.regs, comp := t.comp, sent := t.sent, freeCtr := t.freeCtr }

/-- What ICMP_ECHO leaves as it was. -/
def keeps_icmpEcho : Prop :=
  ∀ (s : State) (port srcIp : Nat) (data : List Nat), ∃ t, exec (.icmpEcho port srcIp data) s = .next t ∧
    t = { s with regs := t.regs, comp := t.comp, sent := t.sent, freeCtr := t.freeCtr }

/-- What TX_TAIL_WRITE leaves as it was. -/
def keeps_txTailWrite : Prop :=
  ∀ (s : State) (port master value : Nat), ∃ t, exec (.txTailWrite port master value) s = .next t ∧
    t = { s with regs := t.regs, comp := t.comp, sent := t.sent, freeCtr := t.freeCtr, ram := t.ram, eth := t.eth }

/-- What RX_TAIL_WRITE leaves as it was. -/
def keeps_rxTailWrite : Prop :=
  ∀ (s : State) (port master value : Nat), ∃ t, exec (.rxTailWrite port master value) s = .next t ∧
    t = { s with regs := t.regs, comp := t.comp, sent := t.sent, freeCtr := t.freeCtr }

/-- What ETH_TX_DONE leaves as it was. -/
def keeps_ethTxDone : Prop :=
  ∀ (s : State) (port sfdNs : Nat), ∃ t, exec (.ethTxDone port sfdNs) s = .next t ∧
    t = { s with regs := t.regs, comp := t.comp, sent := t.sent, freeCtr := t.freeCtr, ram := t.ram, eth := t.eth }

/-- What MAC_AGE leaves as it was. -/
def keeps_macAge : Prop :=
  ∀ (s : State) (mac : Nat), ∃ t, exec (.macAge mac) s = .next t ∧
    t = { s with regs := t.regs, comp := t.comp, sent := t.sent, freeCtr := t.freeCtr, eth := t.eth }

/-- What PLNK_FRAME leaves as it was. -/
def keeps_plnkFrame : Prop :=
  ∀ (s : State) (f : PlnkFrame), ∃ t, exec (.plnkFrame f) s = .next t ∧
    t = { s with regs := t.regs, comp := t.comp, sent := t.sent, freeCtr := t.freeCtr, mram := t.mram, time := t.time, gal := t.gal, mode := t.mode, loops := t.loops, prof := t.prof, drv := t.drv, safe := t.safe, asy := t.asy, meas := t.meas, chain := t.chain, cyc := t.cyc, can := t.can, eth := t.eth }

/-- What PLNK_LINK_DOWN leaves as it was. -/
def keeps_plnkLinkDown : Prop :=
  ∀ (s : State) (phyFail : Bool), ∃ t, exec (.plnkLinkDown phyFail) s = .next t ∧
    t = { s with regs := t.regs, comp := t.comp, sent := t.sent, freeCtr := t.freeCtr, mram := t.mram, time := t.time, gal := t.gal, mode := t.mode, loops := t.loops, prof := t.prof, drv := t.drv, safe := t.safe, asy := t.asy, meas := t.meas, bal := t.bal, chain := t.chain, pairU := t.pairU, cyc := t.cyc, can := t.can, eth := t.eth }

/-- What PLNK_LINK_UP leaves as it was. -/
def keeps_plnkLinkUp : Prop :=
  ∀ (s : State), ∃ t, exec .plnkLinkUp s = .next t ∧
    t = { s with regs := t.regs, comp := t.comp, sent := t.sent, freeCtr := t.freeCtr, pairU := t.pairU, eth := t.eth }

/-- What TWB_IDENT_READ leaves as it was. -/
def keeps_twbIdentRead : Prop :=
  ∀ (s : State) (code len : Nat) (pec : Bool), ∃ t, exec (.twbIdentRead code len pec) s = .next t ∧
    t = { s with regs := t.regs, comp := t.comp, sent := t.sent, freeCtr := t.freeCtr, loops := t.loops, can := t.can, twb := t.twb, acc := t.acc }

/-- What TWB_MODE_READ leaves as it was. -/
def keeps_twbModeRead : Prop :=
  ∀ (s : State) (code len : Nat) (pec : Bool), ∃ t, exec (.twbModeRead code len pec) s = .next t ∧
    t = { s with regs := t.regs, comp := t.comp, sent := t.sent, freeCtr := t.freeCtr, loops := t.loops, can := t.can, twb := t.twb, acc := t.acc }

/-- What TWB_HOURS_READ leaves as it was. -/
def keeps_twbHoursRead : Prop :=
  ∀ (s : State) (code len : Nat) (pec : Bool), ∃ t, exec (.twbHoursRead code len pec) s = .next t ∧
    t = { s with regs := t.regs, comp := t.comp, sent := t.sent, freeCtr := t.freeCtr, loops := t.loops, can := t.can, twb := t.twb, acc := t.acc }

/-- What TWB_ADDR_READ leaves as it was. -/
def keeps_twbAddrRead : Prop :=
  ∀ (s : State) (code len : Nat) (pec : Bool), ∃ t, exec (.twbAddrRead code len pec) s = .next t ∧
    t = { s with regs := t.regs, comp := t.comp, sent := t.sent, freeCtr := t.freeCtr, loops := t.loops, can := t.can, twb := t.twb, acc := t.acc }

/-- What TWB_POINTER_WRITE leaves as it was. -/
def keeps_twbPointerWrite : Prop :=
  ∀ (s : State) (code addr : Nat) (pec : Option Nat), ∃ t, exec (.twbPointerWrite code addr pec) s = .next t ∧
    t = { s with regs := t.regs, comp := t.comp, sent := t.sent, freeCtr := t.freeCtr, twb := t.twb }

/-- What TWB_POINTER_READ leaves as it was. -/
def keeps_twbPointerRead : Prop :=
  ∀ (s : State) (code len : Nat) (pec : Bool), ∃ t, exec (.twbPointerRead code len pec) s = .next t ∧
    t = { s with regs := t.regs, comp := t.comp, sent := t.sent, freeCtr := t.freeCtr, loops := t.loops, can := t.can, twb := t.twb, acc := t.acc }

/-- What TWB_FIXED_POINTER_READ leaves as it was. -/
def keeps_twbFixedPointerRead : Prop :=
  ∀ (s : State) (code len : Nat) (pec : Bool), ∃ t, exec (.twbFixedPointerRead code len pec) s = .next t ∧
    t = { s with regs := t.regs, comp := t.comp, sent := t.sent, freeCtr := t.freeCtr, loops := t.loops, can := t.can, twb := t.twb, acc := t.acc }

/-- What TWB_PROTO_ERR leaves as it was. -/
def keeps_twbProtoErr : Prop :=
  ∀ (s : State), ∃ t, exec .twbProtoErr s = .next t ∧
    t = { s with regs := t.regs, comp := t.comp, sent := t.sent, freeCtr := t.freeCtr }

/-- What TWB_TGT_TIMEOUT leaves as it was. -/
def keeps_twbTgtTimeout : Prop :=
  ∀ (s : State), ∃ t, exec .twbTgtTimeout s = .next t ∧
    t = { s with regs := t.regs, comp := t.comp, sent := t.sent, freeCtr := t.freeCtr }

/-- What TWB_QUICK_WRITE leaves as it was. -/
def keeps_twbQuickWrite : Prop :=
  ∀ (s : State) (master ctl : Nat), ∃ t, exec (.twbQuickWrite master ctl) s = .next t ∧
    t = { s with regs := t.regs, comp := t.comp, sent := t.sent, freeCtr := t.freeCtr, twb := t.twb }

/-- What TWB_QUICK_READ leaves as it was. -/
def keeps_twbQuickRead : Prop :=
  ∀ (s : State) (master ctl : Nat), ∃ t, exec (.twbQuickRead master ctl) s = .next t ∧
    t = { s with regs := t.regs, comp := t.comp, sent := t.sent, freeCtr := t.freeCtr, twb := t.twb }

/-- What TWB_SEND_BYTE leaves as it was. -/
def keeps_twbSendByte : Prop :=
  ∀ (s : State) (master ctl : Nat), ∃ t, exec (.twbSendByte master ctl) s = .next t ∧
    t = { s with regs := t.regs, comp := t.comp, sent := t.sent, freeCtr := t.freeCtr, twb := t.twb }

/-- What TWB_RECEIVE_BYTE leaves as it was. -/
def keeps_twbReceiveByte : Prop :=
  ∀ (s : State) (master ctl : Nat), ∃ t, exec (.twbReceiveByte master ctl) s = .next t ∧
    t = { s with regs := t.regs, comp := t.comp, sent := t.sent, freeCtr := t.freeCtr, twb := t.twb }

/-- What TWB_WRITE_BYTE leaves as it was. -/
def keeps_twbWriteByte : Prop :=
  ∀ (s : State) (master ctl : Nat), ∃ t, exec (.twbWriteByte master ctl) s = .next t ∧
    t = { s with regs := t.regs, comp := t.comp, sent := t.sent, freeCtr := t.freeCtr, twb := t.twb }

/-- What TWB_READ_BYTE leaves as it was. -/
def keeps_twbReadByte : Prop :=
  ∀ (s : State) (master ctl : Nat), ∃ t, exec (.twbReadByte master ctl) s = .next t ∧
    t = { s with regs := t.regs, comp := t.comp, sent := t.sent, freeCtr := t.freeCtr, twb := t.twb }

/-- What TWB_WRITE_WORD leaves as it was. -/
def keeps_twbWriteWord : Prop :=
  ∀ (s : State) (master ctl : Nat), ∃ t, exec (.twbWriteWord master ctl) s = .next t ∧
    t = { s with regs := t.regs, comp := t.comp, sent := t.sent, freeCtr := t.freeCtr, twb := t.twb }

/-- What TWB_READ_WORD leaves as it was. -/
def keeps_twbReadWord : Prop :=
  ∀ (s : State) (master ctl : Nat), ∃ t, exec (.twbReadWord master ctl) s = .next t ∧
    t = { s with regs := t.regs, comp := t.comp, sent := t.sent, freeCtr := t.freeCtr, twb := t.twb }

/-- What TWB_PROCESS_CALL leaves as it was. -/
def keeps_twbProcessCall : Prop :=
  ∀ (s : State) (master ctl : Nat), ∃ t, exec (.twbProcessCall master ctl) s = .next t ∧
    t = { s with regs := t.regs, comp := t.comp, sent := t.sent, freeCtr := t.freeCtr, twb := t.twb }

/-- What TWB_BLOCK_WRITE leaves as it was. -/
def keeps_twbBlockWrite : Prop :=
  ∀ (s : State) (master ctl : Nat), ∃ t, exec (.twbBlockWrite master ctl) s = .next t ∧
    t = { s with regs := t.regs, comp := t.comp, sent := t.sent, freeCtr := t.freeCtr, twb := t.twb }

/-- What TWB_BLOCK_READ leaves as it was. -/
def keeps_twbBlockRead : Prop :=
  ∀ (s : State) (master ctl : Nat), ∃ t, exec (.twbBlockRead master ctl) s = .next t ∧
    t = { s with regs := t.regs, comp := t.comp, sent := t.sent, freeCtr := t.freeCtr, twb := t.twb }

/-- What TWB_BLOCK_WRITE_BLOCK_READ leaves as it was. -/
def keeps_twbBlockWriteBlockRead : Prop :=
  ∀ (s : State) (master ctl : Nat), ∃ t, exec (.twbBlockWriteBlockRead master ctl) s = .next t ∧
    t = { s with regs := t.regs, comp := t.comp, sent := t.sent, freeCtr := t.freeCtr, twb := t.twb }

/-- What TWB_FIXED_WRITE leaves as it was. -/
def keeps_twbFixedWrite : Prop :=
  ∀ (s : State) (master ctl : Nat), ∃ t, exec (.twbFixedWrite master ctl) s = .next t ∧
    t = { s with regs := t.regs, comp := t.comp, sent := t.sent, freeCtr := t.freeCtr, twb := t.twb }

/-- What TWB_FIXED_READ leaves as it was. -/
def keeps_twbFixedRead : Prop :=
  ∀ (s : State) (master ctl : Nat), ∃ t, exec (.twbFixedRead master ctl) s = .next t ∧
    t = { s with regs := t.regs, comp := t.comp, sent := t.sent, freeCtr := t.freeCtr, twb := t.twb }

/-- What TWB_CANCEL leaves as it was. -/
def keeps_twbCancel : Prop :=
  ∀ (s : State) (master : Nat), ∃ t, exec (.twbCancel master) s = .next t ∧
    t = { s with regs := t.regs, comp := t.comp, sent := t.sent, freeCtr := t.freeCtr, twb := t.twb }

/-- What TWB_BUS_FREE leaves as it was. -/
def keeps_twbBusFree : Prop :=
  ∀ (s : State), ∃ t, exec .twbBusFree s = .next t ∧
    t = { s with regs := t.regs, comp := t.comp, sent := t.sent, freeCtr := t.freeCtr, twb := t.twb }

/-- What C_DONE leaves as it was. -/
def keeps_cDone : Prop :=
  ∀ (s : State) (result : TwbResult), ∃ t, exec (.cDone result) s = .next t ∧
    t = { s with regs := t.regs, comp := t.comp, sent := t.sent, freeCtr := t.freeCtr, twb := t.twb }

/-- What ARB_LOST leaves as it was. -/
def keeps_arbLost : Prop :=
  ∀ (s : State) (afterSr : Bool), ∃ t, exec (.arbLost afterSr) s = .next t ∧
    t = { s with regs := t.regs, comp := t.comp, sent := t.sent, freeCtr := t.freeCtr, twb := t.twb }

/-- What TWB_C_TIMEOUT leaves as it was. -/
def keeps_twbCTimeout : Prop :=
  ∀ (s : State), ∃ t, exec .twbCTimeout s = .next t ∧
    t = { s with regs := t.regs, comp := t.comp, sent := t.sent, freeCtr := t.freeCtr, twb := t.twb }

/-- What BUS_STUCK leaves as it was. -/
def keeps_busStuck : Prop :=
  ∀ (s : State) (cleared : Bool), ∃ t, exec (.busStuck cleared) s = .next t ∧
    t = { s with regs := t.regs, comp := t.comp, sent := t.sent, freeCtr := t.freeCtr, twb := t.twb }

/-- What ETH_LAUNCH_DUE leaves as it was. -/
def keeps_ethLaunchDue : Prop :=
  ∀ (s : State) (port : Nat), ∃ t, exec (.ethLaunchDue port) s = .next t ∧
    t = { s with regs := t.regs, comp := t.comp, sent := t.sent, freeCtr := t.freeCtr, ram := t.ram, eth := t.eth }
/-- The table of R45: page, KIND, OWNER at reset. -/
def pageTable : List (Nat × Nat × Nat) :=
  [(0, 0x01, 0x07), (1, 0x02, 0x17), (2, 0x03, 0x07), (3, 0x04, 0x07), (4, 0x05, 0x07), (5, 0x06, 0x07),
   (6, 0x07, 0x03), (7, 0x08, 0x07), (8, 0x09, 0x07), (9, 0x09, 0x07), (10, 0x0A, 0x07), (11, 0x0B, 0x07),
   (12, 0x0C, 0x02), (13, 0x0D, 0x02), (14, 0x0E, 0x02), (15, 0x0F, 0x02), (16, 0x10, 0x07), (17, 0x11, 0x07),
   (18, 0x12, 0x03), (19, 0x13, 0x07), (20, 0x14, 0x07), (21, 0x15, 0x07), (22, 0x16, 0x07), (23, 0x17, 0x07),
   (24, 0x18, 0x03), (25, 0x19, 0x07), (26, 0x19, 0x07), (27, 0x1A, 0x03), (28, 0x1B, 0x07), (29, 0x1B, 0x07),
   (30, 0x1C, 0x07), (31, 0x1D, 0x07), (32, 0x1E, 0x03), (33, 0x1F, 0x03), (34, 0x20, 0x07)]

end Sys2Proof.Says

/-- A step is the command at the front of the queue, carried out with the rest of the queue. The queue is the form that this model gives to the order in which steps come (95_what_each_step_holds.md). -/
def Obligations.StepRunsTheFrontCommand : Prop :=
  ∀ (s : State) (c : Instr) (q : List Instr), s.pending = c :: q → step s = exec c (s.withPending q)

/-- On an empty queue one tick of CLK_TB passes, two CLK_FAB cycles (the clocks of R64; that an idle step is one tick is the model's choice, assumption log 2). -/
def Obligations.EmptyQueuePassesOneTick : Prop :=
  ∀ (s : State), s.pending = [] → ∃ t, step s = .next t ∧ t.ticks = s.ticks + 1 ∧ t.comp.cycle = s.comp.cycle + 2 ∧
    t.comp.occ = [] ∧ (s.live = false → t = { s with ticks := s.ticks + 1, comp := { s.comp with cycle := s.comp.cycle + 2, occ := [] } }) ∧
    (s.live = true → t = s.evalDue.tick) ∧ (s.mode.due = 0 → t = s.tick)

/-- R45: each page returns its block kind in FOLIO.KIND, and its OWNER register resets to the value of the table. -/
def Obligations.EachPageReadsItsKindAndOwner : Prop :=
  ∀ x ∈ Says.pageTable, (∀ s : State, bitsOf (s.peek (Folio.FOLIO x.1)) 23 16 = x.2.1 ∧ bitsOf (s.peek (Folio.FOLIO x.1)) 31 24 = x.1) ∧
    State.reset.getReg (Folio.OWNER x.1) = x.2.2

/-- After reset (R46, R68, R69): nothing waits, nothing is stored, EVENTS, EVENT_EN, LOCK and SEQ_LAST of every page are 0, and the state is sound (`Sound`). -/
def Obligations.ResetLeavesNothingWaiting : Prop :=
  State.reset.Sound ∧ State.reset.pending = [] ∧ State.reset.phase = .held ∧ State.reset.ram = [] ∧ State.reset.comp.waiting = [] ∧
    State.reset.sent = [] ∧ (∀ p, p < 35 → State.reset.getReg (Folio.EVENTS p) = 0 ∧ State.reset.getReg (Folio.EVENT_EN p) = 0 ∧
      State.reset.getReg (Folio.LOCK p) = 0 ∧ State.reset.getReg (Folio.SEQ_LAST p) = 0)

/-- From every sound state, a step answers a sound state: the stores keep their one canonical form, so equal contents are equal data, and a unit that the variant lacks raises no event (R5). -/
def Obligations.EveryStepKeepsTheStateSound : Prop :=
  ∀ (s : State), s.Sound → ∃ t, step s = .next t ∧ t.Sound

/-- For every state a step answers a next state: no command ends the run. The variant is fixed (R4), the queue loses its front and nothing else, what has left the module is not withdrawn, the counter of free values never falls. -/
def Obligations.EveryStepAnswersAndKeepsWhatLeft : Prop :=
  ∀ (s : State), ∃ t, step s = .next t ∧ t.variant = s.variant ∧ t.pending = s.pending.tail ∧ (∀ m ∈ s.sent, m ∈ t.sent) ∧
    s.freeCtr ≤ t.freeCtr

/-- The event that a cycle grants has arrived and precedes every other that has, by arrival cycle, class, source number and event number (R405), which `grantKey` joins in one number; bound timeouts are apart (R406). -/
def Obligations.GrantTakesTheFirstWaitingEvent : Prop :=
  (∀ (c : Compositor) (w : Waiting), grantPick c = some w → w ∈ c.waiting ∧ w.arrival ≤ c.cycle ∧ w.bound = none ∧
    ∀ x ∈ c.waiting, x.arrival ≤ c.cycle → x.bound = none → grantKey w ≤ grantKey x) ∧
  (∀ (c : Compositor), grantPick c = none ↔ ∀ x ∈ c.waiting, x.arrival ≤ c.cycle → x.bound.isSome)

/-- R19: a VB-2064-A or VB-2064-C rejects a request to enter ASSAY, whether its own host makes it or its partner forwards it; the mode stays, and MODE.REQ_RESULT and REQ_REJECTED report the rejection. The request is evaluated in the cycle after its grant (R29). -/
def Obligations.OtherVariantsRejectAssay : Prop :=
  (∀ (s : State) (m v : Nat), s.permits m Reg.MODE_REQUEST = true → m ≠ 5 → s.variant ≠ .F → v % 16 = Md.assay →
    ∃ t, exec (.modeRequest m v) s = .next t ∧ t.mode = s.mode ∧ t.cur = s.cur ∧ t.getReg Reg.MODE_REQUEST % 16 = Md.assay ∧ t.waits ⟨Pg.MODE, 32⟩ = true) ∧
  (∀ (s : State) (e tag : Nat), s.plnkHears e = true → s.pstate = Ps.holder → e ≤ s.getReg Reg.PAIR_EDITION → s.variant ≠ .F →
    ∃ t, exec (.modeReq e tag Md.assay) s = .next t ∧ t.mode = { s.mode with partnerTag := tag, partnerTgt := Md.assay } ∧ t.cur = s.cur ∧
      t.waits ⟨Pg.MODE, 41⟩ = true) ∧
  (∀ (s : State) (w : Waiting), s.live = true → grantPick s.comp = some w → s.mode.due = 0 →
    ∃ t, exec .eventGrant s = .next t ∧
      (Ev.mk w.page w.num = ⟨Pg.MODE, 32⟩ → t.mode.due = 1 ∧ t.mode.dueTgt = s.getReg Reg.MODE_REQUEST % 16) ∧
      (Ev.mk w.page w.num = ⟨Pg.MODE, 41⟩ → t.mode.due = 2 ∧ t.mode.dueTgt = s.mode.partnerTgt)) ∧
  (∀ (s : State), s.live = true → s.variant ≠ .F → s.mode.due ≠ 0 → s.mode.dueTgt = Md.assay → s.mode.due ≠ 1 ∨ s.pair = false ∨ s.phase ≠ .up ∨
    s.pstate = Ps.holder ∨ s.flag Fld.PAIR_STATE_PARTNER_PRESENT = false ∨ s.pairU.partnerState ≠ Ps.holder →
    s.evalDue.cur = s.cur ∧ s.evalDue.mode.row = s.mode.row ∧ s.evalDue.mode.due = 0 ∧ s.evalDue.waits Ev.MODE_REQ_REJECTED = true ∧
      s.evalDue.getF Fld.MODE_REQ_RESULT_CODE = Rq.variant ∧
      (grantPick s.comp = none → ∃ t, exec .eventGrant s = .next t ∧
        t = { s.evalDue with comp := { s.evalDue.comp with cycle := s.evalDue.comp.cycle + 1, occ := [] } }))

/-- R455: a write to word 1 is held (no register changes, so a frame filtered before the commit uses the old element); a write to word 0 commits both words at once; a commit whose held ACTION is reserved is ignored and raises ELEM_REFUSED. -/
def Obligations.FilterElementsCommitBothWords : Prop :=
  ∀ (s : State) (m e v w : Nat), s.live = true → m < 4 → m ≠ 2 → s.userStore m Pg.FLT = false → s.writeStatus m (elemAddr e) Pg.FLT = St.ok → s.writeStatus m (elemAddr e + 4) Pg.FLT = St.ok →
    e < 4096 →
    ∃ t u, exec (.registerWrite m (elemAddr e + 4) 4 v) s = .next t ∧ t = { s with fltHeld := t.fltHeld } ∧ exec (.filterCommit m e w) t = .next u ∧
      (bitsOf (v % 2 ^ 32) 31 29 < 5 → u.getReg (elemAddr e) = w % 2 ^ 32 ∧ u.getReg (elemAddr e + 4) = v % 2 ^ 32 ∧
        RegsBut [elemAddr e, elemAddr e + 4] s u ∧ Added [] s u) ∧
      (5 ≤ bitsOf (v % 2 ^ 32) 31 29 → Added [Ev.FLT_ELEM_REFUSED] s u ∧ RegsBut [Reg.SEQ_COALESCED] s u)

/-- R460: a frame that finds its queue full is dropped, LOST is incremented (to its limit, 65,535), RXQ_OVERFLOW is raised at the first of a run of drops, the entries held stay; RX_NEW, with ARG the queue, is raised when the queue goes from empty to non-empty. -/
def Obligations.FullReceiveQueueDropsFrames : Prop :=
  ∀ (s : State) (n q : Nat) (e : RxEntry), n < 2 → q < 4 → s.can.length = 2 → (s.canU n).rxq.length = 4 →
    s.arrivedNow (ackHeadKey n q) = false → s.arrivedNow (ackEmptyKey n q) = false →
    (s.getF (Fld.CAN_RXQ_CFG_DEPTH n q) ≤ (s.queue n q).entries.length →
      ((s.storeFrame n q e).queue n q).entries = (s.queue n q).entries ∧ ((s.storeFrame n q e).queue n q).dropping = true ∧
      (s.storeFrame n q e).getF (Fld.CAN_RXQ_STAT_LOST n q) = min 65535 (s.getF (Fld.CAN_RXQ_STAT_LOST n q) + 1) ∧
      Added (if (s.queue n q).dropping then [] else [Ev.CAN_RXQ_OVERFLOW n]) s (s.storeFrame n q e)) ∧
    ((s.queue n q).entries.length < s.getF (Fld.CAN_RXQ_CFG_DEPTH n q) →
      ((s.storeFrame n q e).queue n q).entries = (s.queue n q).entries ++ [e] ∧ ((s.storeFrame n q e).queue n q).dropping = false ∧
      (s.storeFrame n q e).getF (Fld.CAN_RXQ_STAT_LOST n q) = s.getF (Fld.CAN_RXQ_STAT_LOST n q) ∧
      Added (if (s.queue n q).entries = [] then [Ev.CAN_RX_NEW n] else []) s (s.storeFrame n q e) ∧
      ((s.queue n q).entries = [] → s.waits (Ev.CAN_RX_NEW n) = false →
        ∀ w ∈ (s.storeFrame n q e).comp.waiting, w.page = Pg.CAN0 + n → w.num = (Ev.CAN_RX_NEW n).num → w.arg = q))

/-- R488: the protocol error is counted in PROTO_ERRS and raised, the partial block and a pointer value in it are discarded (the pointer and all else stay), and the target listens as before. -/
def Obligations.TwoWireProtocolErrorDiscards : Prop :=
  ∀ (s : State), s.live = true →
    ∃ t, exec .twbProtoErr s = .next t ∧ t.getReg Reg.TWB_PROTO_ERRS = min (2 ^ 32 - 1) (s.getReg Reg.TWB_PROTO_ERRS + 1) ∧
      Added [Ev.TWB_PROTO_ERR] s t ∧ t.getReg Reg.TWB_TGT_POINTER = s.getReg Reg.TWB_TGT_POINTER ∧ t.tgtReady = s.tgtReady ∧
      RegsBut [Reg.TWB_PROTO_ERRS, Reg.SEQ_COALESCED] s t ∧ t = { s with regs := t.regs, comp := t.comp }

/-- Register and memory writes, ownership, keys, clears by reading, latched high words (rules R9, R49, R51, R52). A master that passes the checks writes a register or memory and nothing else; a write that OWNER refuses changes only SYS.ACCESS_ERR and raises OWNER_DENIED; OWNER takes a keyed write and clears LOCK.KEY; the memory protection of core 0 stops a write of policy code outside TMR; a read of a width answers with the word it finds, clears the read-clear bits, latches the high word of a wide value, or all voted registers at SAMPLE_SEQ, and hands the latch out once; a width that does not fit is refused with ALIGN. -/
def Obligations.RegisterAndMemoryWrites : Prop :=
  Says.registerWrite_mem ∧
  Says.registerWrite ∧
  Says.registerWrite_owner ∧
  Says.ownerWrite ∧
  Says.lockWrite ∧
  Says.lockKeyExpiry ∧
  Says.ownerWrite_denied ∧
  Says.registerWrite_user ∧
  Says.readClear ∧
  Says.readClear_vote ∧
  Says.readClear_width ∧
  Says.lowWordRead ∧
  Says.readLatched

/-- Reads and writes over the service UART and over VRA sessions (rules R55, R57, R58, R61, R62). The UART answers a read with the word and arms LOCK in its own name, and a line of more than 32 characters with ER 05; a VRA datagram that passes its checks opens or closes a session, reads a Folio word, writes EVENT_EN of a page whole or under a mask, and is answered; an idle session is closed unless a request of the same cycle came, and an expired source block is removed; SYS.VRA_CTL takes a keyed write. -/
def Obligations.UartAndVraAccess : Prop :=
  Says.uartRd ∧
  Says.uartRd_long ∧
  Says.uartWr ∧
  Says.uartWr_long ∧
  Says.vraIdleTimeout ∧
  Says.vraIdleTimeout_arrival ∧
  Says.vraSourceBlockEnd ∧
  Says.vraClose ∧
  Says.vraRead ∧
  Says.vraOpen ∧
  Says.vraWrite ∧
  Says.vraWriteMask ∧
  Says.vraCtlWrite

/-- An assay run: start, refusal, abort, ramps, bins, metrics, temperature table (rules R234, R235, R236, R238, R244, R246, R247, R284). A run starts in ASSAY with the first enabled bin and the amplitude of the rule and is refused in any other mode; an abort ends it; a bin span ends judged or is repeated once; the perturbation reaches zero, also without a run or a valid current; the temperature table is cleared by key or taken from the holder. -/
def Obligations.AssayRuns : Prop :=
  Says.assayStart ∧
  Says.assayStart_refused ∧
  Says.assayAbort ∧
  Says.perturbRiseEnd ∧
  Says.binSpanEnd_retry ∧
  Says.binSpanEnd_judged ∧
  Says.metricsDone ∧
  Says.tempEstimate ∧
  Says.tcalClr ∧
  Says.tcal ∧
  Says.perturbZero ∧
  Says.perturbZero_stopping ∧
  Says.perturbZero_lost

/-- The open-wire test and the clearing of suspect positions (rules R144, R146, R147, R161). A wanted test that is allowed starts on all nodes, one that is not allowed is reported as refused for now; its deadline reports it and the positions that have not passed; SUSPECT_CLR starts only in SURVEY for a position that exists, is denied where a slot of the same cycle marks it, and clears the marks only after a passed test and ten proofs. -/
def Obligations.OpenWireTestsAndSuspects : Prop :=
  Says.owtLaunch ∧
  Says.owtPeriodic ∧
  Says.owtNow ∧
  Says.owtDeadline ∧
  Says.suspectClr ∧
  Says.suspectClr_mark ∧
  Says.suspectClr_denied ∧
  Says.suspectClrDecision ∧
  Says.suspectClrDecision_cleared

/-- Comparator readback, the fault loop tone, bleed launches and plans (rules R149, R152, R154, R156, R161). A readback that differs is repeated once and then marks the position; an absent tone sets its cause and wakes a dormant module, a present one clears it and reports its amplitude; a bleed launch sends one frame for the period, with zero for every position where ENABLE is 0; PLAN_COMMIT takes the staged plan and PLAN_CLEAR empties it. -/
def Obligations.FaultLoopAndBleeding : Prop :=
  Says.compReadback ∧
  Says.compReadback_differs ∧
  Says.floopAbsent ∧
  Says.floopAbsent_tone ∧
  Says.floopAbsent_dormant ∧
  Says.tonePresent ∧
  Says.bleedLaunch ∧
  Says.bleedLaunch_test ∧
  Says.planCommit ∧
  Says.planClear

/-- CAN transmit buffers, launch windows, received frames and bus errors (rules R447, R448, R456, R461, R465). A request makes a host buffer pending and one that names a module buffer is denied; a cancel withdraws it; a launch is released in its window and late outside it; a sent frame clears PEND and sets DONE and its timestamp; a received frame enters its queue or is dropped where the queue is full; an error moves the counters, the error state and the collision record. -/
def Obligations.CanFramesAndErrors : Prop :=
  Says.txbReq ∧
  Says.txbCancel ∧
  Says.canLaunchDue ∧
  Says.canLateWindow ∧
  Says.txDone ∧
  Says.canRxFrame ∧
  Says.canBusError ∧
  Says.canBusError_collision ∧
  Says.canBusError_exception

/-- CAN recovery, modes, periodic messages, time references, receive queues, filters (rules R445, R451, R453, R455, R458, R459, R462). RECOVER acts only in bus off; BUS_ON zeroes the error counters; a mode is entered or refused; a periodic message loads its buffer only where enabled and the module speaks; a queue head is read, acknowledged and unlocked; a filter element is committed whole or refused. -/
def Obligations.CanModesQueuesAndFilters : Prop :=
  Says.recover ∧
  Says.busOn ∧
  Says.canModeWrite ∧
  Says.canModeWrite_refused ∧
  Says.canPeriodicDue ∧
  Says.canPeriodicDue_quiet ∧
  Says.trefSend ∧
  Says.trefLost ∧
  Says.rxqAck ∧
  Says.rxqHeadRead ∧
  Says.rxqHeadRead_last ∧
  Says.rxqLockExpiry ∧
  Says.filterCommit

/-- Chain links, triggers, collections, slots and sweep deadlines (rules R89, R106, R119). A link that comes up or is lost is reported; a launch takes the next sweep number and the wanted schedule, at both ends of a broken chain, also by the relay of the partner; a collection frame carries edition, sweep, kind and an empty slot for each position; a good slot is kept and the last one ends the sweep, one with a bad check sum is only counted; a deadline ends a sweep as partial where positions are missing, unless the last slot came in the same cycle. -/
def Obligations.ChainLinksAndSweeps : Prop :=
  Says.chainLinkUp ∧
  Says.chainLinkLost ∧
  Says.trigLaunch ∧
  Says.trigLaunch_break ∧
  Says.trigLaunch_relay ∧
  Says.collectLaunch ∧
  Says.collectLaunch_other ∧
  Says.collectLaunch_health ∧
  Says.collectLaunch_relay ∧
  Says.slotArrival ∧
  Says.slotArrival_rejected ∧
  Says.slotArrival_line ∧
  Says.sweepDeadline ∧
  Says.sweepDeadline_segment ∧
  Says.sweepDeadline_late

/-- Unheard nodes, alarms, stale mastering, forwarded slots and relayed collections (rules R91, R92, R122, R124, R127). An unheard node is marked and raised, unless a slot of the same cycle brings it; an alarm is reported with position and cause and a second one of a position within 200 us, which is not the copy of the first at the other end, sets the alarm cause, which the last release clears; a higher edition ends mastering; a forwarded slot acts as the same slot on the wire; a relay sends on and keeps the chain state. -/
def Obligations.ChainAlarmsAndMastering : Prop :=
  Says.nodeUnheard ∧
  Says.nodeUnheard_heard ∧
  Says.alarmRx ∧
  Says.alarmRx_chk ∧
  Says.alarmRx_second ∧
  Says.alarmRx_copy ∧
  Says.nodeAlarmRelease ∧
  Says.staleMaster ∧
  Says.fwd ∧
  Says.relay

/-- Hop delay measurement, enumeration and rejoin (rules R111, R112, R113, R114, R116, R129, R133). Each request of a measurement follows an echo or its timeout; a round trip under a TRIG is discarded; thirty-two echoes give the mean of the rule; an enumeration starts only in SURVEY at POWER OFF, ends with a result for a full, short or missing return, and clears BUSY; a single position rejoins. -/
def Obligations.DelaysAndEnumeration : Prop :=
  Says.dlyEcho ∧
  Says.dlyEcho_chk ∧
  Says.dlyEcho_request ∧
  Says.dlyEcho_discard ∧
  Says.dlyEcho_mean ∧
  Says.dlyTimeout ∧
  Says.dlyPeriod ∧
  Says.dlyNow ∧
  Says.enumStart ∧
  Says.enumStart_refused ∧
  Says.rejoinPos ∧
  Says.enumReturn ∧
  Says.enumReturn_crc ∧
  Says.enumReturn_mismatch ∧
  Says.enumTimeout ∧
  Says.enumDone ∧
  Says.sweepRejoin

/-- Node register reads and writes through NODE.NREG_CMD (rules R130, R132, R135). A read or write of a position of the string is sent once and BUSY is set; a write to a register that the module owns is refused at once; a reply or its timeout ends it with DATA, RESULT and NREG_DONE. -/
def Obligations.NodeRegisterAccess : Prop :=
  Says.nregRead ∧
  Says.nregRead_range ∧
  Says.nregWrite ∧
  Says.nregWrite_owned ∧
  Says.nregReply ∧
  Says.nregTimeout

/-- Grants of the Compositor, WAIT of core 1, records and the record cursor (rules R373, R405, R411, R416, R417, R418). A cycle with nothing eligible only passes; a granted event takes the next number, sets its EVENTS bit and SEQ_LAST and leaves the queue together with timeouts bound to it; an enabled event enters the queue of core 1; WAIT hands over what the queue holds; a record takes the next index; the cursor fills sixteen window entries; a freeze expires. -/
def Obligations.GrantsWaitsAndRecords : Prop :=
  Says.eventGrant_none ∧
  Says.eventGrant ∧
  Says.eventGrant_core ∧
  Says.wait ∧
  Says.waitTimeout ∧
  Says.record ∧
  Says.cursorWrite ∧
  Says.cursorReady ∧
  Says.freezeExpired

/-- What is decided at the grant of an event and not before (rules R405). A mode request is due at its grant and evaluated in the next cycle, rejected with its code or accepted into its row; a restart, an address input, an OFFER, the commands of the program, a capacity, an anchor request and its cancellation, HOLD, a step of time, an abort and an activation act at their grant, on the state of that cycle; the input image of a cycle is latched at the grant of CYCLE_START. -/
def Obligations.WhatGrantsDecide : Prop :=
  Says.eventGrant_request ∧
  Says.eventGrant_rejected ∧
  Says.eventGrant_dispatch ∧
  Says.eventGrant_restart ∧
  Says.eventGrant_addrIn ∧
  Says.eventGrant_offer ∧
  Says.eventGrant_cycRun ∧
  Says.eventGrant_cycStop ∧
  Says.eventGrant_cycHold ∧
  Says.eventGrant_cycStep ∧
  Says.eventGrant_cycleStart ∧
  Says.eventGrant_capSet ∧
  Says.eventGrant_capSet_denied ∧
  Says.eventGrant_anchorReq ∧
  Says.eventGrant_anchorReq_refused ∧
  Says.eventGrant_anchorCancel ∧
  Says.eventGrant_hold ∧
  Says.eventGrant_stepNs ∧
  Says.eventGrant_partnerRequest ∧
  Says.eventGrant_partnerRejected ∧
  Says.eventGrant_abort ∧
  Says.eventGrant_activate

/-- CYC.CTL commands, cycle boundaries and deadlines (rules R377, R381, R384). RUN, STOP, HOLD and STEP wait in the Compositor in the order written and act at their grant; a boundary starts a cycle in the other bank and writes no memory outside it, skips a late cycle, or stops; a deadline that is passed counts the overrun. -/
def Obligations.CycleCommandsAndBoundaries : Prop :=
  Says.cycRun ∧
  Says.cycStop ∧
  Says.cycHold ∧
  Says.cycStep ∧
  Says.cycleBoundary ∧
  Says.cycleBoundary_late ∧
  Says.cycleBoundary_stop ∧
  Says.cycleDeadline ∧
  Says.cycleDeadline_step

/-- Entry returns, traps, breakpoints, services and the hold limit (rules R373, R374, R377, R381, R382, R386, R390). An entry that returns records its time and leaves the output image due, or lets an exchange of images go on; a trap stops the program with cause, entry, code and PC, or fails the exchange; ebreak holds it; the service program traps, restarts at most three times and its services act only while it or the program serves; time outside RUN raises the hold limit cause. -/
def Obligations.EntriesTrapsAndServices : Prop :=
  Says.entryReturn ∧
  Says.entryReturn_overrunEnds ∧
  Says.entryReturn_other ∧
  Says.entryReturn_exchange ∧
  Says.coreTrap_exchange ∧
  Says.coreTrap ∧
  Says.ebreak ∧
  Says.initTimeout ∧
  Says.serviceTrap ∧
  Says.serviceRestart ∧
  Says.serviceRestart_not ∧
  Says.retainCommit ∧
  Says.note ∧
  Says.shadowNow ∧
  Says.services_outside ∧
  Says.holdLimit

/-- Program shadow and RETAIN copies, timer slots, loss of supply (rules R70, R388, R391, R392). A shadow copy is requested, sealed and reported; a RETAIN copy is written when it differs; a timer slot takes IN and PT and settles its output; loss of supply asserts reset, drives the reset pin and forgets memory and waiting events while the Plant Record stays. -/
def Obligations.ShadowRetainAndTimers : Prop :=
  Says.progShadow ∧
  Says.shadowSealed ∧
  Says.shadowSealed_restart ∧
  Says.retainStore ∧
  Says.retainStore_same ∧
  Says.tmrInWrite ∧
  Says.tmrPtWrite ∧
  Says.tmrExpiry ∧
  Says.supplyLoss

/-- The drive link, its periodic frames, PWM and the DRIVE_EN lines (rules R285, R287, R289, R292, R293, R296). The link is reported up or lost and PWM is inhibited with it; a STATUS of the same cycle outranks its timeout; RENEW, WATCH and CLAIM frames carry edition and state; PWM starts where permitted; a DRIVE_EN level is reported and the lines are tested before a close. -/
def Obligations.DriveLinkAndEnable : Prop :=
  Says.driveLinkUp ∧
  Says.driveLinkLost ∧
  Says.statusTimeout ∧
  Says.statusTimeout_arrived ∧
  Says.renewSend ∧
  Says.watchSend ∧
  Says.claimRepeat ∧
  Says.pwmEnable ∧
  Says.driveEnChange ∧
  Says.driveEnChange_low ∧
  Says.driveEnTest ∧
  Says.driveEnTest_fail

/-- Contactor feedback, steps of the contactor sequence and their timeouts (rules R295, R297, R326, R327, R328). A feedback sample is shown and accepted after equal samples; a step that does not finish in time fails the sequence and the transition; a contactor that does not open raises the weld cause; a disagreement and an unexpected contact are raised; the feedback test passes or sets its cause. -/
def Obligations.ContactorsAndFeedback : Prop :=
  Says.fbSample ∧
  Says.fbSample_accepted ∧
  Says.contStepTimeout ∧
  Says.contStepTimeout_arrived ∧
  Says.contStepTimeout_weld ∧
  Says.preTimeout ∧
  Says.gatesTimeout ∧
  Says.fbDisagree ∧
  Says.contUnexpected ∧
  Says.fbTestGap ∧
  Says.fbTestGap_fail

/-- Current-reduction requests, connect answers and the fallbacks of Full Stop (rules R300, R317, R318, R451). A request to the plant is repeated until the current is below 5 A; a connect answer lets the transition go on or rejects it, its absence rejects it; a Full Stop whose ramp fails is reported and falls back to opening. -/
def Obligations.RampsAndConnectAnswers : Prop :=
  Says.curReduceRepeat ∧
  Says.curReduceDeadline ∧
  Says.connectAck ∧
  Says.connectTimeout ∧
  Says.fsRampDeadline ∧
  Says.fsNoRampFallback

/-- Lockstep, ECC, margin self-test, configuration check, Ellipsis expiry, safety inputs (rules R306, R307, R322, R323). A lockstep error sets its cause and ends in a held reset; a corrected ECC error is counted; a self-test and a configuration check set or clear their causes; an expired Ellipsis sets its cause; a safety input pair that reads stop is raised and sets its cause where it is the stop function. -/
def Obligations.SelfTestsAndSafetyInputs : Prop :=
  Says.lockstep ∧
  Says.lockstepResetHold ∧
  Says.eccCorrected ∧
  Says.marginSelftest ∧
  Says.marginSelftest_fail ∧
  Says.cfgCrcCheck ∧
  Says.cfgCrcCheck_fail ∧
  Says.ellipsisExpiry ∧
  Says.sioSample

/-- Estimates, capacity writes, anchors and the held cell view (rules R195, R202, R215, R218, R219, R223). An estimate is published with its instant or suspended by gaps; a write of a capacity takes its key and waits in the Compositor, without the key it is denied; the request for an anchor and its cancellation wait there too; a ramp to an anchor times out; a missing anchor is warned of; a write of HOLD waits for its grant, and a held set is released. -/
def Obligations.EstimationAnchorsAndHold : Prop :=
  Says.estDone ∧
  Says.estDone_suspended ∧
  Says.estShadowWrite ∧
  Says.capSet ∧
  Says.capSet_denied ∧
  Says.anchorReq ∧
  Says.anchorCancel ∧
  Says.anchorRampTimeout ∧
  Says.noAnchor ∧
  Says.cellViewWrite ∧
  Says.holdExpired

/-- Plant Ethernet links, received frames and plant datagrams (rules R469, R470, R472). A link change is reported with its speed; a frame for the module takes a descriptor and is written to its memory, or is counted where none is free or its check fails; a plant datagram with a good tag and a higher counter is taken and one without is refused and counted. -/
def Obligations.EthernetFramesAndDatagrams : Prop :=
  Says.ethLinkChange ∧
  Says.ethLinkChange_down ∧
  Says.ethRxFrame ∧
  Says.ethRxFrame_noDesc ∧
  Says.ethRxFrame_bad ∧
  Says.plantDatagram ∧
  Says.plantDatagram_refused

/-- ARP and ICMP replies, descriptor rings, launches and the address table (rules R438, R469, R470, R473). The module answers for its own address and for no other; TAIL takes a write and starts what is due; a late launch is skipped; a sent frame writes back its descriptor, no other memory, and moves HEAD; an old address entry leaves the table. -/
def Obligations.EthernetRepliesAndRings : Prop :=
  Says.arpRequest ∧
  Says.arpRequest_other ∧
  Says.icmpEcho ∧
  Says.txTailWrite ∧
  Says.txTailWrite_late ∧
  Says.rxTailWrite ∧
  Says.ethLaunchDue ∧
  Says.ethTxDone ∧
  Says.ethTx_none ∧
  Says.macAge

/-- The partner link and the clock monitor (rules R66, R476, R477). A partner frame is assembled in order, a gap drops the message, a frame of an older edition is counted as stale; the link going down or up is reported with its heartbeat path; a clock in range is measured, one out of range twice resets the module, the Ethernet clock alone faults its links and holds the partner link down. -/
def Obligations.PartnerLinkAndClockMonitor : Prop :=
  Says.plnkFrame ∧
  Says.plnkFrame_gap ∧
  Says.plnkFrame_stale ∧
  Says.plnkLinkDown ∧
  Says.plnkLinkUp ∧
  Says.clkMonWindow ∧
  Says.clkMonWindow_reset ∧
  Says.clkMonWindow_first ∧
  Says.clkMonWindow_eth

/-- Loop slot configuration, swaps, resumption and thermal hold (rules R253, R254, R260, R264, R266, R268). A slot configuration is taken whole or refused with its code; MANUAL applies to slots 2 to 7 only; a swap waits or is refused; a resumption needs a held slot with fresh feedback; a lost feedback, where no sample of the same cycle comes, holds a thermal slot and stops a current slot; the hold ends in the fallback output. -/
def Obligations.LoopSlotsAndThermalHold : Prop :=
  Says.loopCfgWrite ∧
  Says.loopCfgWrite_refused ∧
  Says.loopModeWrite ∧
  Says.loopSwap ∧
  Says.loopSwap_multi ∧
  Says.loopResume ∧
  Says.thermalSlotSample ∧
  Says.feedbackStale ∧
  Says.feedbackStale_arrived ∧
  Says.thermalHoldExpiry

/-- The reference profile, its targets and limits, thermal inputs and alarms (rules R270, R272, R273, R274). A step shows the authority and a zero base forces a zero reference; a target is clamped to the policy, with TARGET_CLAMPED, ignored in Full Stop, kept during an anchor; a limit outside its range is ignored; thermal inputs and tacho counts are shown; a stalled fan and low flow are raised. -/
def Obligations.ProfileTargetsAndThermalInputs : Prop :=
  Says.profileStep ∧
  Says.profTargetWrite ∧
  Says.profTargetWrite_kept ∧
  Says.profLimitWrite ∧
  Says.tinSample ∧
  Says.tachEval ∧
  Says.fanStall ∧
  Says.flowLow

/-- Voted samples, lost high-voltage frames, readmission and offset calibration (rules R167, R168, R170, R175). The raw conversions of a window give the means of the rule, scaled by the shunt and gain of the record; a sample beyond the range is raised and counted into the estimate; lost high-voltage frames are reported; an excluded channel is readmitted after agreement; an offset calibration starts in SURVEY, is stored within its limit, reported beyond it, or is skipped where too few windows were averaged. -/
def Obligations.ChannelsAndOffsets : Prop :=
  Says.votedSample ∧
  Says.votedSample_scaled ∧
  Says.votedSample_stopped ∧
  Says.votedSample_counted ∧
  Says.hvLost ∧
  Says.chReadmitted ∧
  Says.offsetCalStart ∧
  Says.offsetCalEnd ∧
  Says.offsetCalEnd_high ∧
  Says.offsetCalEnd_skipped

/-- Insulation monitoring and the charge accumulators (rules R178, R180, R181, R183). A result is shown, saturated and judged against warning and alarm levels; a connection fault and its end are reported; a measurement cycle starts on command and at the holder; the charge accumulator is cleared by key and its counters are stored. -/
def Obligations.InsulationAndCharge : Prop :=
  Says.imdDone ∧
  Says.imdDone_alarm ∧
  Says.imdConnFault ∧
  Says.chassisLoopClosed ∧
  Says.imdStart ∧
  Says.imdHolderStart ∧
  Says.chgClr ∧
  Says.chgStore

/-- Mode requests, transition limits and the stop latch (rules R29, R33, R34, R39). A permitted request is kept and waits for its grant (WhatGrantsDecide), by the UART only for DORMANT and SURVEY; a transition that takes too long is aborted; a stop that takes too long runs Full Stop; STOP_LATCH is cleared only by its key, value and conditions. -/
def Obligations.ModeRequestsAndStopLatch : Prop :=
  Says.modeRequest ∧
  Says.modeRequest_uart ∧
  Says.transTimeout ∧
  Says.stopLimitExpiry ∧
  Says.latchClr ∧
  Says.latchClr_denied

/-- Wake sources, wake oscillator, PLL, root drift and the watchdog (rules R40, R41, R65, R66, R67). An enabled source wakes a dormant module into reset with its cause and source; the wake oscillator and the root drift are checked; an unlocked PLL, a wrong kick and an expired watchdog reset the module and leave the fault in MRAM; a right kick only restarts its window. -/
def Obligations.WakeClocksAndWatchdog : Prop :=
  Says.wake ∧
  Says.wakeTimerExpiry ∧
  Says.wakeOscCheck ∧
  Says.pllUnlock ∧
  Says.rootDrift ∧
  Says.wdgKick ∧
  Says.wdgKick_wrong ∧
  Says.wdgExpiry

/-- Reset causes, release of reset and the service button (rules R70, R71, R72, R75, R76). Power-on counts the cycle and names its cause; RESET_N holds and releases; a release with good images runs the start-up sequence to SURVEY and one with no safety image halts; the service button is debounced and acts by the length of its press. -/
def Obligations.ResetAndServiceButton : Prop :=
  Says.powerOn ∧
  Says.resetNAssert ∧
  Says.resetNRelease ∧
  Says.resetRelease ∧
  Says.resetRelease_halt ∧
  Says.pllLockRetry ∧
  Says.svcDebouncedClose ∧
  Says.svcDebouncedOpen ∧
  Says.svcStuck

/-- Warm and cold restarts, the address walk and general pins (rules R74, R78, R79, R80, R82, R85, R86). A restart written with its key, an OFFER and a change of ADDR_IN wait for their grant (WhatGrantsDecide); an address is set, cleared and kept; a conflicting TAKEN is raised; ROLE_SEL and pins are sampled. -/
def Obligations.RestartsAddressesAndPins : Prop :=
  Says.restartWarm ∧
  Says.restartCold ∧
  Says.addrSet ∧
  Says.offer ∧
  Says.clearAddr ∧
  Says.endWalk ∧
  Says.taken ∧
  Says.takenTimeout ∧
  Says.addrInChange ∧
  Says.roleSelSample ∧
  Says.gpioChange

/-- Heartbeats, the pulse path and the loss of the partner (rules R343, R344). A heartbeat carries the counter; a received one restores the partner and its path; a higher edition demotes a holder; the pulse path is judged by its width; a lost path and a lost partner are reported once, and a heartbeat of the same cycle comes before the loss; a heartbeat leaves ahead of every other frame of the partner link. -/
def Obligations.HeartbeatsAndPartner : Prop :=
  Says.heartbeatSend ∧
  Says.heartbeatSend_frame ∧
  Says.heartbeat ∧
  Says.heartbeat_demoted ∧
  Says.hbPulse ∧
  Says.hbPulse_invalid ∧
  Says.hbPathLost ∧
  Says.hbPathLost_arrived ∧
  Says.partnerLost

/-- Claims of the Imprint and STATUS of the output stage (rules R292, R346, R347). A claim is sent with the next edition; a STATUS is counted, shown and acted on: a claim is granted or lost; a bad check sum is only counted; a claim times out. -/
def Obligations.ClaimsAndImprint : Prop :=
  Says.claimSend ∧
  Says.pairClaim ∧
  Says.pairClaim_not ∧
  Says.claimTimeout ∧
  Says.status ∧
  Says.status_crc ∧
  Says.status_granted ∧
  Says.status_lost

/-- Mirrors between partners, configuration check, forwarded mode requests (rules R351, R353, R354, R355). A mirror is sent, taken or dropped, and grows stale; a differing configuration is raised once; a resynchronisation is answered by a snapshot; a mirror is split into fragments; a forwarded request waits for its grant at the holder, and the answer of the holder or its absence is reported. -/
def Obligations.MirrorsAndForwardedRequests : Prop :=
  Says.mirrorSend ∧
  Says.mirrorSend_frame ∧
  Says.mirror ∧
  Says.mirror_dropped ∧
  Says.mirrorStale ∧
  Says.mirrorStale_arrived ∧
  Says.cfgDiffer ∧
  Says.resyncReq ∧
  Says.modeReq ∧
  Says.modeResult ∧
  Says.modeReqTimeout

/-- Role swaps, latent faults and stop requests between partners (rules R320, R360, R361, R362). A holder offers a swap only where it may; a standby accepts or declines by its own fitness; acceptance releases the Imprint; a decline and each timeout end the swap with its result; a latent fault is cleared by key; a stop request sets its cause, and one without an answer pulls DRIVE_EN. -/
def Obligations.RoleSwapsAndStopRequests : Prop :=
  Says.swapDue ∧
  Says.swapNow ∧
  Says.swapOverdue ∧
  Says.swapOffer ∧
  Says.swapAccept ∧
  Says.swapDecline ∧
  Says.swapHoldoffEnd ∧
  Says.swapGrantTimeout ∧
  Says.swapDriveTimeout ∧
  Says.latentClr ∧
  Says.stopReq ∧
  Says.stopReqTimeout

/-- PTP Sync, Follow_Up, Announce and path delay (rules R432, R434). A Sync of the grandmaster gives the offset of the rule, at once or at its Follow_Up; others, and those of another domain, change nothing; a better Announce changes the grandmaster; a path delay is requested, answered and measured. -/
def Obligations.PtpReceptionAndDelays : Prop :=
  Says.sync ∧
  Says.sync_twoStep ∧
  Says.sync_ignored ∧
  Says.sync_otherDomain ∧
  Says.followUp ∧
  Says.followUp_none ∧
  Says.announce ∧
  Says.announce_worse ∧
  Says.pdelayReq ∧
  Says.pdelayReqSend ∧
  Says.pdelayResp ∧
  Says.pdelayResp_twoStep

/-- Loss of synchronisation, steps, launch triggers and compatibility time (rules R432, R434, R435, R438, R440). A locked servo goes to holdover and a silent grandmaster is dropped; a time step is taken by key and waits for its grant, or is refused; a Sync of the same cycle comes before its loss; a trigger fires once, raises its event and drives its pin; a compatibility base is loaded. -/
def Obligations.TimeLossStepsAndTriggers : Prop :=
  Says.syncLoss ∧
  Says.syncLoss_arrived ∧
  Says.announceTimeout ∧
  Says.syncSend ∧
  Says.stepNs ∧
  Says.launchTrig ∧
  Says.trigPulseEnd ∧
  Says.compatLoad

/-- Two-wire controller: every protocol starts, waits, or is refused (rules R489). GO with the protocol of the command sends the address, command, data and PEC bytes in their order and sets BUSY; a busy controller, a wrong length and a busy bus are handled by their own rules. -/
def Obligations.TwbControllerStarts : Prop :=
  Says.twbQuickWrite ∧
  Says.twbQuickRead ∧
  Says.twbSendByte ∧
  Says.twbReceiveByte ∧
  Says.twbWriteByte ∧
  Says.twbReadByte ∧
  Says.twbWriteWord ∧
  Says.twbReadWord ∧
  Says.twbProcessCall ∧
  Says.twbBlockWrite ∧
  Says.twbGo_wrong ∧
  Says.twbGo_busy ∧
  Says.twbGo_badLength ∧
  Says.twbGo_waits ∧
  Says.twbBlockRead ∧
  Says.twbBlockWriteBlockRead ∧
  Says.twbFixedWrite ∧
  Says.twbFixedRead

/-- Two-wire target: reads, the pointer and errors (rules R485, R488, R491). The target answers each read with its count, bytes and PEC, counts a busy or unknown access, takes a pointer with a good PEC only, advances it on a pointer read, and counts timeouts. -/
def Obligations.TwbTargetReadsAndPointer : Prop :=
  Says.twbIdentRead ∧
  Says.twbModeRead ∧
  Says.twbHoursRead ∧
  Says.twbAddrRead ∧
  Says.twbTarget_busy ∧
  Says.twbTarget_unknown ∧
  Says.twbPointerWrite ∧
  Says.twbPointerRead ∧
  Says.twbPointerRead_refused ∧
  Says.twbFixedPointerRead ∧
  Says.twbProtoErr ∧
  Says.twbTgtTimeout

/-- Two-wire controller: how a transaction ends (rules R489, R490, R491, R492). A transaction not yet started is cancelled and one that has started goes on; a free bus starts the waiting one; it ends with OK and its data, NACK, PEC error, TOO_LONG, a lost arbitration that may be retried once, a timeout or a stuck bus, each with its RESULT and event. -/
def Obligations.TwbControllerEnds : Prop :=
  Says.twbCancel ∧
  Says.twbCancel_started ∧
  Says.twbBusFree ∧
  Says.twbBusFree_idle ∧
  Says.cDone_nack ∧
  Says.cDone_thenGo ∧
  Says.cDone ∧
  Says.cDone_pec ∧
  Says.cDone_long ∧
  Says.arbLost ∧
  Says.arbLost_afterSr ∧
  Says.twbCTimeout ∧
  Says.busStuck

/-- Reception and checking of a payload (rules R499, R500, R501). BEGIN opens a reception only when none runs; data words fill header and body in order and are refused outside them; a header is accepted or rejected with its code; a body with the right hash becomes ready and one with another, or a Plant Record that the checks of the rules refuse, is rejected; ABORT waits for its grant, which comes before a BEGIN that was written after it. -/
def Obligations.UpdateReception : Prop :=
  Says.updBegin ∧
  Says.updBegin_busy ∧
  Says.updBegin_afterAbort ∧
  Says.updData ∧
  Says.updData_body ∧
  Says.updData_refused ∧
  Says.headerCheckDone ∧
  Says.headerCheckDone_rejected ∧
  Says.payloadVerified ∧
  Says.payloadVerified_record ∧
  Says.payloadVerified_badHash ∧
  Says.updAbort

/-- Arming, reverting and activating payloads, key revocation (rules R497, R502, R503, R504). ARM takes the ready payloads named, at once, at the next start or at a future time only; REVERT takes the other bank where its epoch permits; a due activation opens its Galley line; a key is revoked unless it is the last one. -/
def Obligations.UpdateActivation : Prop :=
  Says.updArm ∧
  Says.updArm_at ∧
  Says.updArm_atOnce ∧
  Says.updRevert ∧
  Says.updRevert_none ∧
  Says.activateAtDue ∧
  Says.activateAtDue_none ∧
  Says.keyRevoke

/-- Node firmware and output-stage loads (rules R505, R506). A node result sends the next block, waits while the node is busy, repeats once or fails the activation; a missing answer fails it; a load proceeds from BEGIN over DATA and END to ACTIVATE by the STATUS answers, is resent, and fails or times out with ABORT and its RESULT. -/
def Obligations.UpdateOfNodesAndStage : Prop :=
  Says.nfwResult ∧
  Says.nfwResult_waits ∧
  Says.nfwResult_busy ∧
  Says.nfwResult_again ∧
  Says.nfwResult_fail ∧
  Says.nfwBusyTimeout ∧
  Says.nfwBusyTimeout_arrived ∧
  Says.nodeRejoinTimeout ∧
  Says.loadStatus_begin ∧
  Says.loadStatus_end ∧
  Says.loadStatus_activate ∧
  Says.loadStatus_fail ∧
  Says.loadResend ∧
  Says.loadResend_arrived ∧
  Says.loadTimeout ∧
  Says.loadTimeout_arrived

/-- The frame of the commands of register access, modes, restarts and the Compositor: each answers a next state, for every state and operands, and leaves every part of
the state that its clause does not let change as it was, memory too where the clause does not name it. Registers, waiting
events, messages and the counter of free values stand in the statements of each command. -/
def Obligations.UnitsKeptByAccessAndModes : Prop :=
  Says.keeps_registerWrite ∧ Says.keeps_ownerWrite ∧ Says.keeps_lockWrite ∧ Says.keeps_lockKeyExpiry ∧
  Says.keeps_readClear ∧ Says.keeps_lowWordRead ∧ Says.keeps_vraOpen ∧ Says.keeps_vraRead ∧
  Says.keeps_vraWrite ∧ Says.keeps_vraWriteMask ∧ Says.keeps_vraClose ∧ Says.keeps_vraIdleTimeout ∧
  Says.keeps_vraSourceBlockEnd ∧ Says.keeps_vraCtlWrite ∧ Says.keeps_uartRd ∧ Says.keeps_uartWr ∧
  Says.keeps_modeRequest ∧ Says.keeps_transTimeout ∧ Says.keeps_stopLimitExpiry ∧ Says.keeps_latchClr ∧
  Says.keeps_wake ∧ Says.keeps_wakeTimerExpiry ∧ Says.keeps_wakeOscCheck ∧ Says.keeps_pllUnlock ∧
  Says.keeps_rootDrift ∧ Says.keeps_wdgKick ∧ Says.keeps_wdgExpiry ∧ Says.keeps_powerOn ∧
  Says.keeps_resetNAssert ∧ Says.keeps_resetNRelease ∧ Says.keeps_resetRelease ∧ Says.keeps_pllLockRetry ∧
  Says.keeps_svcDebouncedClose ∧ Says.keeps_svcDebouncedOpen ∧ Says.keeps_svcStuck ∧ Says.keeps_restartWarm ∧
  Says.keeps_restartCold ∧ Says.keeps_addrSet ∧ Says.keeps_offer ∧ Says.keeps_clearAddr ∧
  Says.keeps_endWalk ∧ Says.keeps_taken ∧ Says.keeps_takenTimeout ∧ Says.keeps_addrInChange ∧
  Says.keeps_roleSelSample ∧ Says.keeps_gpioChange ∧ Says.keeps_wait ∧ Says.keeps_waitTimeout ∧
  Says.keeps_eventGrant ∧ Says.keeps_record ∧ Says.keeps_cursorWrite ∧ Says.keeps_cursorReady ∧
  Says.keeps_freezeExpired

/-- The frame of the commands of measuring, estimation, balancing, assay and the loops: each answers a next state, for every state and operands, and leaves every part of
the state that its clause does not let change as it was, memory too where the clause does not name it. Registers, waiting
events, messages and the counter of free values stand in the statements of each command. -/
def Obligations.UnitsKeptByMeasuringAndLoops : Prop :=
  Says.keeps_owtLaunch ∧ Says.keeps_owtPeriodic ∧ Says.keeps_owtNow ∧ Says.keeps_owtDeadline ∧
  Says.keeps_suspectClr ∧ Says.keeps_suspectClrDecision ∧ Says.keeps_compReadback ∧ Says.keeps_floopAbsent ∧
  Says.keeps_bleedLaunch ∧ Says.keeps_planCommit ∧ Says.keeps_planClear ∧ Says.keeps_votedSample ∧
  Says.keeps_hvLost ∧ Says.keeps_chReadmitted ∧ Says.keeps_offsetCalStart ∧ Says.keeps_offsetCalEnd ∧
  Says.keeps_imdDone ∧ Says.keeps_imdConnFault ∧ Says.keeps_imdStart ∧ Says.keeps_imdHolderStart ∧
  Says.keeps_chgClr ∧ Says.keeps_chgStore ∧ Says.keeps_estDone ∧ Says.keeps_estShadowWrite ∧
  Says.keeps_capSet ∧ Says.keeps_anchorReq ∧ Says.keeps_anchorCancel ∧ Says.keeps_anchorRampTimeout ∧
  Says.keeps_noAnchor ∧ Says.keeps_cellViewWrite ∧ Says.keeps_holdExpired ∧ Says.keeps_assayStart ∧
  Says.keeps_assayAbort ∧ Says.keeps_perturbRiseEnd ∧ Says.keeps_binSpanEnd ∧ Says.keeps_metricsDone ∧
  Says.keeps_tempEstimate ∧ Says.keeps_tcalClr ∧ Says.keeps_tcal ∧ Says.keeps_perturbZero ∧
  Says.keeps_loopCfgWrite ∧ Says.keeps_loopModeWrite ∧ Says.keeps_loopSwap ∧ Says.keeps_loopResume ∧
  Says.keeps_thermalSlotSample ∧ Says.keeps_feedbackStale ∧ Says.keeps_thermalHoldExpiry ∧ Says.keeps_profileStep ∧
  Says.keeps_profTargetWrite ∧ Says.keeps_profLimitWrite ∧ Says.keeps_tinSample ∧ Says.keeps_tachEval ∧
  Says.keeps_fanStall ∧ Says.keeps_flowLow ∧ Says.keeps_tonePresent ∧ Says.keeps_chassisLoopClosed

/-- The frame of the commands of the chain and the drive: each answers a next state, for every state and operands, and leaves every part of
the state that its clause does not let change as it was, memory too where the clause does not name it. Registers, waiting
events, messages and the counter of free values stand in the statements of each command. -/
def Obligations.UnitsKeptByChainAndDrive : Prop :=
  Says.keeps_chainLinkUp ∧ Says.keeps_chainLinkLost ∧ Says.keeps_trigLaunch ∧ Says.keeps_collectLaunch ∧
  Says.keeps_slotArrival ∧ Says.keeps_sweepDeadline ∧ Says.keeps_nodeUnheard ∧ Says.keeps_alarmRx ∧
  Says.keeps_nodeAlarmRelease ∧ Says.keeps_staleMaster ∧ Says.keeps_fwd ∧ Says.keeps_relay ∧
  Says.keeps_dlyEcho ∧ Says.keeps_dlyTimeout ∧ Says.keeps_dlyPeriod ∧ Says.keeps_dlyNow ∧
  Says.keeps_enumStart ∧ Says.keeps_rejoinPos ∧ Says.keeps_enumReturn ∧ Says.keeps_enumTimeout ∧
  Says.keeps_enumDone ∧ Says.keeps_sweepRejoin ∧ Says.keeps_nregRead ∧ Says.keeps_nregWrite ∧
  Says.keeps_nregReply ∧ Says.keeps_nregTimeout ∧ Says.keeps_driveLinkUp ∧ Says.keeps_driveLinkLost ∧
  Says.keeps_statusTimeout ∧ Says.keeps_renewSend ∧ Says.keeps_watchSend ∧ Says.keeps_claimRepeat ∧
  Says.keeps_pwmEnable ∧ Says.keeps_driveEnChange ∧ Says.keeps_driveEnTest ∧ Says.keeps_fbSample ∧
  Says.keeps_contStepTimeout ∧ Says.keeps_preTimeout ∧ Says.keeps_gatesTimeout ∧ Says.keeps_fbDisagree ∧
  Says.keeps_contUnexpected ∧ Says.keeps_fbTestGap ∧ Says.keeps_curReduceRepeat ∧ Says.keeps_curReduceDeadline ∧
  Says.keeps_connectAck ∧ Says.keeps_connectTimeout ∧ Says.keeps_lockstep ∧ Says.keeps_lockstepResetHold ∧
  Says.keeps_marginSelftest ∧ Says.keeps_cfgCrcCheck ∧ Says.keeps_fsRampDeadline ∧ Says.keeps_fsNoRampFallback ∧
  Says.keeps_ellipsisExpiry ∧ Says.keeps_sioSample ∧ Says.keeps_eccCorrected

/-- The frame of the commands of the pair, time, updates and the program: each answers a next state, for every state and operands, and leaves every part of
the state that its clause does not let change as it was, memory too where the clause does not name it. Registers, waiting
events, messages and the counter of free values stand in the statements of each command. -/
def Obligations.UnitsKeptByPairTimeAndProgram : Prop :=
  Says.keeps_supplyLoss ∧ Says.keeps_status ∧ Says.keeps_stopReq ∧ Says.keeps_stopReqTimeout ∧
  Says.keeps_heartbeatSend ∧ Says.keeps_heartbeat ∧ Says.keeps_hbPulse ∧ Says.keeps_hbPathLost ∧
  Says.keeps_partnerLost ∧ Says.keeps_claimSend ∧ Says.keeps_pairClaim ∧ Says.keeps_claimTimeout ∧
  Says.keeps_mirrorSend ∧ Says.keeps_mirror ∧ Says.keeps_mirrorStale ∧ Says.keeps_cfgDiffer ∧
  Says.keeps_resyncReq ∧ Says.keeps_modeReq ∧ Says.keeps_modeResult ∧ Says.keeps_modeReqTimeout ∧
  Says.keeps_swapDue ∧ Says.keeps_swapNow ∧ Says.keeps_swapOverdue ∧ Says.keeps_swapOffer ∧
  Says.keeps_swapAccept ∧ Says.keeps_swapDecline ∧ Says.keeps_swapHoldoffEnd ∧ Says.keeps_swapGrantTimeout ∧
  Says.keeps_latentClr ∧ Says.keeps_cycleBoundary ∧ Says.keeps_entryReturn ∧ Says.keeps_cycleDeadline ∧
  Says.keeps_retainCommit ∧ Says.keeps_note ∧ Says.keeps_shadowNow ∧ Says.keeps_coreTrap ∧
  Says.keeps_ebreak ∧ Says.keeps_serviceTrap ∧ Says.keeps_serviceRestart ∧ Says.keeps_cycRun ∧
  Says.keeps_cycStop ∧ Says.keeps_cycHold ∧ Says.keeps_cycStep ∧ Says.keeps_holdLimit ∧
  Says.keeps_initTimeout ∧ Says.keeps_progShadow ∧ Says.keeps_shadowSealed ∧ Says.keeps_retainStore ∧
  Says.keeps_tmrInWrite ∧ Says.keeps_tmrPtWrite ∧ Says.keeps_tmrExpiry ∧ Says.keeps_sync ∧
  Says.keeps_followUp ∧ Says.keeps_announce ∧ Says.keeps_pdelayReq ∧ Says.keeps_pdelayResp ∧
  Says.keeps_pdelayReqSend ∧ Says.keeps_syncLoss ∧ Says.keeps_announceTimeout ∧ Says.keeps_stepNs ∧
  Says.keeps_launchTrig ∧ Says.keeps_trigPulseEnd ∧ Says.keeps_compatLoad ∧ Says.keeps_updBegin ∧
  Says.keeps_updData ∧ Says.keeps_headerCheckDone ∧ Says.keeps_payloadVerified ∧ Says.keeps_updAbort ∧
  Says.keeps_updArm ∧ Says.keeps_updRevert ∧ Says.keeps_activateAtDue ∧ Says.keeps_keyRevoke ∧
  Says.keeps_nfwResult ∧ Says.keeps_nfwBusyTimeout ∧ Says.keeps_nodeRejoinTimeout ∧ Says.keeps_loadStatus ∧
  Says.keeps_loadResend ∧ Says.keeps_loadTimeout ∧ Says.keeps_syncSend ∧ Says.keeps_swapDriveTimeout

/-- The frame of the commands of CAN, Ethernet and the two-wire bus: each answers a next state, for every state and operands, and leaves every part of
the state that its clause does not let change as it was, memory too where the clause does not name it. Registers, waiting
events, messages and the counter of free values stand in the statements of each command. -/
def Obligations.UnitsKeptByBusesAndLinks : Prop :=
  Says.keeps_clkMonWindow ∧ Says.keeps_txbReq ∧ Says.keeps_txbCancel ∧ Says.keeps_canLaunchDue ∧
  Says.keeps_canLateWindow ∧ Says.keeps_txDone ∧ Says.keeps_canRxFrame ∧ Says.keeps_canBusError ∧
  Says.keeps_recover ∧ Says.keeps_busOn ∧ Says.keeps_canModeWrite ∧ Says.keeps_canPeriodicDue ∧
  Says.keeps_trefSend ∧ Says.keeps_trefLost ∧ Says.keeps_rxqAck ∧ Says.keeps_rxqHeadRead ∧
  Says.keeps_rxqLockExpiry ∧ Says.keeps_filterCommit ∧ Says.keeps_ethLinkChange ∧ Says.keeps_ethRxFrame ∧
  Says.keeps_plantDatagram ∧ Says.keeps_arpRequest ∧ Says.keeps_icmpEcho ∧ Says.keeps_txTailWrite ∧
  Says.keeps_rxTailWrite ∧ Says.keeps_ethTxDone ∧ Says.keeps_macAge ∧ Says.keeps_plnkFrame ∧
  Says.keeps_plnkLinkDown ∧ Says.keeps_plnkLinkUp ∧ Says.keeps_twbIdentRead ∧ Says.keeps_twbModeRead ∧
  Says.keeps_twbHoursRead ∧ Says.keeps_twbAddrRead ∧ Says.keeps_twbPointerWrite ∧ Says.keeps_twbPointerRead ∧
  Says.keeps_twbFixedPointerRead ∧ Says.keeps_twbProtoErr ∧ Says.keeps_twbTgtTimeout ∧ Says.keeps_twbQuickWrite ∧
  Says.keeps_twbQuickRead ∧ Says.keeps_twbSendByte ∧ Says.keeps_twbReceiveByte ∧ Says.keeps_twbWriteByte ∧
  Says.keeps_twbReadByte ∧ Says.keeps_twbWriteWord ∧ Says.keeps_twbReadWord ∧ Says.keeps_twbProcessCall ∧
  Says.keeps_twbBlockWrite ∧ Says.keeps_twbBlockRead ∧ Says.keeps_twbBlockWriteBlockRead ∧ Says.keeps_twbFixedWrite ∧
  Says.keeps_twbFixedRead ∧ Says.keeps_twbCancel ∧ Says.keeps_twbBusFree ∧ Says.keeps_cDone ∧
  Says.keeps_arbLost ∧ Says.keeps_twbCTimeout ∧ Says.keeps_busStuck ∧ Says.keeps_ethLaunchDue
end

