-- ==== Sys2Proof/Laws/Store.lean ====
section
/-! SUPPORT. The basic laws of a store: a read after a write, the other addresses, and that every operation keeps the
canonical form. -/

namespace Sys2Proof.Machine

variable {w : Nat}

theorem Store.get_erase (m : Store w) (a b : Nat) :
    Store.get (Store.erase m a) b = if b = a then 0 else Store.get m b := by
  induction m with
  | nil => simp [Store.erase, Store.get]
  | cons p t ih =>
    obtain ⟨k, v⟩ := p
    simp only [Store.erase]
    split
    · rename_i h; subst h; rw [ih]; simp only [Store.get]
      by_cases hb : b = k
      · simp [hb]
      · have : ¬ k = b := fun h => hb h.symm
        simp [hb, this]
    · rename_i h
      simp only [Store.get, ih]
      by_cases hk : k = b
      · subst hk; simp [h]
      · simp [hk]

theorem Store.get_ins (m : Store w) (a b : Nat) (v : BitVec w) (h : ∀ c v', (c, v') ∈ m → c ≠ a) :
    Store.get (Store.ins m a v) b = if b = a then v else Store.get m b := by
  induction m with
  | nil =>
    by_cases hb : b = a
    · simp [Store.ins, Store.get, hb]
    · have : ¬ a = b := fun h => hb h.symm
      simp [Store.ins, Store.get, hb, this]
  | cons p t ih =>
    obtain ⟨k, x⟩ := p
    have hk : k ≠ a := h k x (by simp)
    have ht : ∀ c v', (c, v') ∈ t → c ≠ a := fun c v' hc => h c v' (by simp [hc])
    simp only [Store.ins]
    split
    · by_cases hb : b = a
      · simp [Store.get, hb]
      · have : ¬ a = b := fun h => hb h.symm
        simp [Store.get, hb, this]
    · simp only [Store.get, ih ht]
      by_cases hb : b = a
      · subst hb; simp [hk]
      · simp [hb]

theorem Store.erase_ne (m : Store w) (a : Nat) : ∀ c v', (c, v') ∈ Store.erase m a → c ≠ a := by
  induction m with
  | nil => simp [Store.erase]
  | cons p t ih =>
    obtain ⟨k, x⟩ := p
    intro c v' hc
    simp only [Store.erase] at hc
    split at hc
    · exact ih c v' hc
    · rename_i hk
      simp only [List.mem_cons, Prod.mk.injEq] at hc
      rcases hc with ⟨rfl, -⟩ | hc
      · exact hk
      · exact ih c v' hc

/-- A read after a write: the written address gives the value, every other address is as before. -/
@[simp] theorem Store.get_set (m : Store w) (a b : Nat) (v : BitVec w) :
    Store.get (Store.set m a v) b = if b = a then v else Store.get m b := by
  unfold Store.set
  split
  · rename_i h; rw [Store.get_erase, h]
  · rw [Store.get_ins _ _ _ _ (Store.erase_ne m a), Store.get_erase]
    by_cases hb : b = a <;> simp [hb]

theorem Store.above_mono (m : Store w) (a b : Nat) (h : b < a) (ha : Store.above a m = true) :
    Store.above b m = true := by
  induction m with
  | nil => rfl
  | cons p t ih =>
    obtain ⟨k, x⟩ := p
    simp only [Store.above, Bool.and_eq_true, decide_eq_true_eq] at *
    exact ⟨by omega, ih ha.2⟩

theorem Store.above_erase (m : Store w) (a k : Nat) (h : Store.above k m = true) :
    Store.above k (Store.erase m a) = true := by
  induction m with
  | nil => rfl
  | cons p t ih =>
    obtain ⟨j, x⟩ := p
    simp only [Store.above, Bool.and_eq_true, decide_eq_true_eq] at h
    simp only [Store.erase]
    split
    · exact ih h.2
    · simp only [Store.above, Bool.and_eq_true, decide_eq_true_eq]; exact ⟨h.1, ih h.2⟩

theorem Store.wf_erase (m : Store w) (a : Nat) (h : Store.wf m = true) : Store.wf (Store.erase m a) = true := by
  induction m with
  | nil => rfl
  | cons p t ih =>
    obtain ⟨k, x⟩ := p
    simp only [Store.wf, Bool.and_eq_true] at h
    simp only [Store.erase]
    split
    · exact ih h.2
    · simp only [Store.wf, Bool.and_eq_true]
      exact ⟨⟨h.1.1, Store.above_erase t a k h.1.2⟩, ih h.2⟩

theorem Store.above_ins (m : Store w) (a k : Nat) (v : BitVec w) (hk : k < a) (h : Store.above k m = true) :
    Store.above k (Store.ins m a v) = true := by
  induction m with
  | nil => simp [Store.ins, Store.above, hk]
  | cons p t ih =>
    obtain ⟨j, x⟩ := p
    simp only [Store.above, Bool.and_eq_true, decide_eq_true_eq] at h
    simp only [Store.ins]
    split
    · simp [Store.above, hk, h.1, h.2]
    · simp only [Store.above, Bool.and_eq_true, decide_eq_true_eq]; exact ⟨h.1, ih h.2⟩

theorem Store.wf_ins (m : Store w) (a : Nat) (v : BitVec w) (hv : v ≠ 0)
    (hne : ∀ c v', (c, v') ∈ m → c ≠ a) (h : Store.wf m = true) : Store.wf (Store.ins m a v) = true := by
  induction m with
  | nil => simpa [Store.ins, Store.wf, Store.above] using hv
  | cons p t ih =>
    obtain ⟨j, x⟩ := p
    have hj : j ≠ a := hne j x (by simp)
    have ht : ∀ c v', (c, v') ∈ t → c ≠ a := fun c v' hc => hne c v' (by simp [hc])
    simp only [Store.wf, Bool.and_eq_true] at h
    simp only [Store.ins]
    split
    · rename_i hlt
      simp only [Store.wf, Store.above, Bool.and_eq_true, decide_eq_true_eq]
      simp only [decide_eq_true_eq] at h
      exact ⟨⟨hv, hlt, Store.above_mono t j a hlt h.1.2⟩, h⟩
    · rename_i hlt
      simp only [Store.wf, Bool.and_eq_true]
      exact ⟨⟨h.1.1, Store.above_ins t a j v (by omega) h.1.2⟩, ih ht h.2⟩

/-- A write keeps the canonical form. -/
@[simp] theorem Store.wf_set (m : Store w) (a : Nat) (v : BitVec w) (h : Store.wf m = true) :
    Store.wf (Store.set m a v) = true := by
  unfold Store.set
  split
  · exact Store.wf_erase m a h
  · rename_i hv
    exact Store.wf_ins _ a v hv (Store.erase_ne m a) (Store.wf_erase m a h)

end Sys2Proof.Machine
end

