-- ==== Sys2Proof/Laws/Kept.lean ====
section
/-! SUPPORT. What every operation and every meaning keeps: the stores canonical, the part, no waiting event of an absent page;
events that wait, messages that have left, the counter of free values, as a `Watch` names them; and which fields of the state it
may change. The lemmas of single operations stand in Kept1 to Kept8, in the order of their use. In such a lemma `hE` marks an
operation that can take an event out of the Compositor, and `hk` says which fields it changes, as a mask by their numbers in the
order of State: the fields of the mask are those that `g.mask` allows. -/

namespace Sys2Proof.Machine

/-- `s` agrees with `b` on every field but those whose number (in the order of State) is a bit of the mask; registers, the
Compositor, messages and the counter of free values apart. -/
structure Only (m : Nat) (b s : State) : Prop where
  f0 : m.testBit 0 = true ∨ s.pending = b.pending
  f2 : m.testBit 2 = true ∨ s.ram = b.ram
  f3 : m.testBit 3 = true ∨ s.phase = b.phase
  f5 : m.testBit 5 = true ∨ s.record = b.record
  f6 : m.testBit 6 = true ∨ s.mram = b.mram
  f7 : m.testBit 7 = true ∨ s.ticks = b.ticks
  f8 : m.testBit 8 = true ∨ s.time = b.time
  f10 : m.testBit 10 = true ∨ s.evr = b.evr
  f11 : m.testBit 11 = true ∨ s.gal = b.gal
  f12 : m.testBit 12 = true ∨ s.mode = b.mode
  f13 : m.testBit 13 = true ∨ s.loops = b.loops
  f14 : m.testBit 14 = true ∨ s.prof = b.prof
  f15 : m.testBit 15 = true ∨ s.thm = b.thm
  f16 : m.testBit 16 = true ∨ s.drv = b.drv
  f17 : m.testBit 17 = true ∨ s.safe = b.safe
  f18 : m.testBit 18 = true ∨ s.asy = b.asy
  f19 : m.testBit 19 = true ∨ s.meas = b.meas
  f20 : m.testBit 20 = true ∨ s.est = b.est
  f21 : m.testBit 21 = true ∨ s.bal = b.bal
  f22 : m.testBit 22 = true ∨ s.chain = b.chain
  f23 : m.testBit 23 = true ∨ s.pairU = b.pairU
  f24 : m.testBit 24 = true ∨ s.aux = b.aux
  f25 : m.testBit 25 = true ∨ s.upd = b.upd
  f26 : m.testBit 26 = true ∨ s.cyc = b.cyc
  f27 : m.testBit 27 = true ∨ s.can = b.can
  f28 : m.testBit 28 = true ∨ s.fltHeld = b.fltHeld
  f29 : m.testBit 29 = true ∨ s.eth = b.eth
  f30 : m.testBit 30 = true ∨ s.twb = b.twb
  f31 : m.testBit 31 = true ∨ s.acc = b.acc
  f32 : m.testBit 32 = true ∨ s.dormantAt = b.dormantAt

/-- What is watched over a run of operations: whether the state is to be sound, a state to compare with and the mask of fields that may differ, events that wait,
messages that have left, a bound on the counter of free values. -/
structure Watch where
  sound : Prop
  base : State
  mask : Nat
  events : Ev → Prop
  msgs : Out → Prop
  ctr : Nat

/-- The watched events wait. -/
def watchE (g : Watch) (ws : List Waiting) : Prop :=
  ∀ e, g.events e → ws.any (fun w => w.page == e.page && w.num == e.num) = true

/-- The watched messages have left. -/
def watchM (g : Watch) (l : List Out) : Prop := ∀ m, g.msgs m → m ∈ l

/-- What `g` watches holds: where it is to be sound, every store canonical and no event of an absent page waiting (R5); the part
of the base, the watched events and messages there, the counter not below its bound, the fields off the mask as in the base. -/
structure Kept (g : Watch) (s : State) : Prop where
  regs : g.sound → s.regs.wf = true
  ram : g.sound → s.ram.wf = true
  mram : g.sound → s.mram.regs.wf = true
  flt : g.sound → s.fltHeld.wf = true
  variant : s.variant = g.base.variant
  ev : g.sound → evOk g.base.variant s.comp.waiting = true
  has : watchE g s.comp.waiting
  out : watchM g s.sent
  ctr : g.ctr ≤ s.freeCtr
  only : Only g.mask g.base s

/-- A meaning answers a next state that keeps what `g` watches. -/
def KeptO (g : Watch) (o : Host.Outcome State Fault Refusal) : Prop := ∃ t, o = .next t ∧ Kept g t

variable {g : Watch} {s t a b : State}

theorem KeptO_next (h : Kept g s) : KeptO g (.next s) := ⟨s, rfl, h⟩
theorem Kept_ite {c : Prop} [Decidable c] (ha : Kept g a) (hb : Kept g b) : Kept g (if c then a else b) := by
  split <;> assumption
theorem KeptO_ite {c : Prop} [Decidable c] {a b} (ha : KeptO g a) (hb : KeptO g b) : KeptO g (if c then a else b) := by
  split <;> assumption
theorem Kept_ite1 {α} {c : Prop} [Decidable c] {a b : State × α} (ha : Kept g a.1) (hb : Kept g b.1) :
    Kept g (if c then a else b).1 := by split <;> assumption
theorem Kept_ite2 {α} {c : Prop} [Decidable c] {a b : α × State} (ha : Kept g a.2) (hb : Kept g b.2) :
    Kept g (if c then a else b).2 := by split <;> assumption
theorem Kept_ite3 {α β} {c : Prop} [Decidable c] {a b : α × β × State} (ha : Kept g a.2.2) (hb : Kept g b.2.2) :
    Kept g (if c then a else b).2.2 := by split <;> assumption
theorem Kept_regs (h : Kept g s) (k : g.sound) : Store.wf s.regs = true := h.regs k
theorem Kept_ram (h : Kept g s) (k : g.sound) : Store.wf s.ram = true := h.ram k
theorem Kept_mram (h : Kept g s) (k : g.sound) : Store.wf s.mram.regs = true := h.mram k
theorem Kept_flt (h : Kept g s) (k : g.sound) : Store.wf s.fltHeld = true := h.flt k
theorem Kept_var (h : Kept g s) : s.variant = g.base.variant := h.variant
theorem Kept_ev (h : Kept g s) (k : g.sound) : evOk g.base.variant s.comp.waiting = true := h.ev k
theorem Kept_has (h : Kept g s) : watchE g s.comp.waiting := h.has
theorem Kept_out (h : Kept g s) : watchM g s.sent := h.out
theorem Kept_ctr (h : Kept g s) : g.ctr ≤ s.freeCtr := h.ctr
theorem Kept_o0 (h : Kept g s) : g.mask.testBit 0 = true ∨ s.pending = g.base.pending := h.only.f0
theorem Kept_o2 (h : Kept g s) : g.mask.testBit 2 = true ∨ s.ram = g.base.ram := h.only.f2
theorem Kept_o3 (h : Kept g s) : g.mask.testBit 3 = true ∨ s.phase = g.base.phase := h.only.f3
theorem Kept_o5 (h : Kept g s) : g.mask.testBit 5 = true ∨ s.record = g.base.record := h.only.f5
theorem Kept_o6 (h : Kept g s) : g.mask.testBit 6 = true ∨ s.mram = g.base.mram := h.only.f6
theorem Kept_o7 (h : Kept g s) : g.mask.testBit 7 = true ∨ s.ticks = g.base.ticks := h.only.f7
theorem Kept_o8 (h : Kept g s) : g.mask.testBit 8 = true ∨ s.time = g.base.time := h.only.f8
theorem Kept_o10 (h : Kept g s) : g.mask.testBit 10 = true ∨ s.evr = g.base.evr := h.only.f10
theorem Kept_o11 (h : Kept g s) : g.mask.testBit 11 = true ∨ s.gal = g.base.gal := h.only.f11
theorem Kept_o12 (h : Kept g s) : g.mask.testBit 12 = true ∨ s.mode = g.base.mode := h.only.f12
theorem Kept_o13 (h : Kept g s) : g.mask.testBit 13 = true ∨ s.loops = g.base.loops := h.only.f13
theorem Kept_o14 (h : Kept g s) : g.mask.testBit 14 = true ∨ s.prof = g.base.prof := h.only.f14
theorem Kept_o15 (h : Kept g s) : g.mask.testBit 15 = true ∨ s.thm = g.base.thm := h.only.f15
theorem Kept_o16 (h : Kept g s) : g.mask.testBit 16 = true ∨ s.drv = g.base.drv := h.only.f16
theorem Kept_o17 (h : Kept g s) : g.mask.testBit 17 = true ∨ s.safe = g.base.safe := h.only.f17
theorem Kept_o18 (h : Kept g s) : g.mask.testBit 18 = true ∨ s.asy = g.base.asy := h.only.f18
theorem Kept_o19 (h : Kept g s) : g.mask.testBit 19 = true ∨ s.meas = g.base.meas := h.only.f19
theorem Kept_o20 (h : Kept g s) : g.mask.testBit 20 = true ∨ s.est = g.base.est := h.only.f20
theorem Kept_o21 (h : Kept g s) : g.mask.testBit 21 = true ∨ s.bal = g.base.bal := h.only.f21
theorem Kept_o22 (h : Kept g s) : g.mask.testBit 22 = true ∨ s.chain = g.base.chain := h.only.f22
theorem Kept_o23 (h : Kept g s) : g.mask.testBit 23 = true ∨ s.pairU = g.base.pairU := h.only.f23
theorem Kept_o24 (h : Kept g s) : g.mask.testBit 24 = true ∨ s.aux = g.base.aux := h.only.f24
theorem Kept_o25 (h : Kept g s) : g.mask.testBit 25 = true ∨ s.upd = g.base.upd := h.only.f25
theorem Kept_o26 (h : Kept g s) : g.mask.testBit 26 = true ∨ s.cyc = g.base.cyc := h.only.f26
theorem Kept_o27 (h : Kept g s) : g.mask.testBit 27 = true ∨ s.can = g.base.can := h.only.f27
theorem Kept_o28 (h : Kept g s) : g.mask.testBit 28 = true ∨ s.fltHeld = g.base.fltHeld := h.only.f28
theorem Kept_o29 (h : Kept g s) : g.mask.testBit 29 = true ∨ s.eth = g.base.eth := h.only.f29
theorem Kept_o30 (h : Kept g s) : g.mask.testBit 30 = true ∨ s.twb = g.base.twb := h.only.f30
theorem Kept_o31 (h : Kept g s) : g.mask.testBit 31 = true ∨ s.acc = g.base.acc := h.only.f31
theorem Kept_o32 (h : Kept g s) : g.mask.testBit 32 = true ∨ s.dormantAt = g.base.dormantAt := h.only.f32
theorem Only_mk {a0 a1 a2 a3 a4 a5 a6 a7 a8 a9 a10 a11 a12 a13 a14 a15 a16 a17 a18 a19 a20 a21 a22 a23 a24 a25 a26 a27 a28 a29 a30 a31 a32 a33 a34} (h : Kept g s) (f0 : g.mask.testBit 0 = true ∨ a0 = s.pending) (f2 : g.mask.testBit 2 = true ∨ a2 = s.ram) (f3 : g.mask.testBit 3 = true ∨ a3 = s.phase) (f5 : g.mask.testBit 5 = true ∨ a5 = s.record) (f6 : g.mask.testBit 6 = true ∨ a6 = s.mram) (f7 : g.mask.testBit 7 = true ∨ a7 = s.ticks) (f8 : g.mask.testBit 8 = true ∨ a8 = s.time) (f10 : g.mask.testBit 10 = true ∨ a10 = s.evr) (f11 : g.mask.testBit 11 = true ∨ a11 = s.gal) (f12 : g.mask.testBit 12 = true ∨ a12 = s.mode) (f13 : g.mask.testBit 13 = true ∨ a13 = s.loops) (f14 : g.mask.testBit 14 = true ∨ a14 = s.prof) (f15 : g.mask.testBit 15 = true ∨ a15 = s.thm) (f16 : g.mask.testBit 16 = true ∨ a16 = s.drv) (f17 : g.mask.testBit 17 = true ∨ a17 = s.safe) (f18 : g.mask.testBit 18 = true ∨ a18 = s.asy) (f19 : g.mask.testBit 19 = true ∨ a19 = s.meas) (f20 : g.mask.testBit 20 = true ∨ a20 = s.est) (f21 : g.mask.testBit 21 = true ∨ a21 = s.bal) (f22 : g.mask.testBit 22 = true ∨ a22 = s.chain) (f23 : g.mask.testBit 23 = true ∨ a23 = s.pairU) (f24 : g.mask.testBit 24 = true ∨ a24 = s.aux) (f25 : g.mask.testBit 25 = true ∨ a25 = s.upd) (f26 : g.mask.testBit 26 = true ∨ a26 = s.cyc) (f27 : g.mask.testBit 27 = true ∨ a27 = s.can) (f28 : g.mask.testBit 28 = true ∨ a28 = s.fltHeld) (f29 : g.mask.testBit 29 = true ∨ a29 = s.eth) (f30 : g.mask.testBit 30 = true ∨ a30 = s.twb) (f31 : g.mask.testBit 31 = true ∨ a31 = s.acc) (f32 : g.mask.testBit 32 = true ∨ a32 = s.dormantAt) : Only g.mask g.base (State.mk a0 a1 a2 a3 a4 a5 a6 a7 a8 a9 a10 a11 a12 a13 a14 a15 a16 a17 a18 a19 a20 a21 a22 a23 a24 a25 a26 a27 a28 a29 a30 a31 a32 a33 a34) :=
  ⟨f0.elim .inl (fun e => e ▸ h.only.f0), f2.elim .inl (fun e => e ▸ h.only.f2), f3.elim .inl (fun e => e ▸ h.only.f3), f5.elim .inl (fun e => e ▸ h.only.f5), f6.elim .inl (fun e => e ▸ h.only.f6), f7.elim .inl (fun e => e ▸ h.only.f7), f8.elim .inl (fun e => e ▸ h.only.f8), f10.elim .inl (fun e => e ▸ h.only.f10), f11.elim .inl (fun e => e ▸ h.only.f11), f12.elim .inl (fun e => e ▸ h.only.f12), f13.elim .inl (fun e => e ▸ h.only.f13), f14.elim .inl (fun e => e ▸ h.only.f14), f15.elim .inl (fun e => e ▸ h.only.f15), f16.elim .inl (fun e => e ▸ h.only.f16), f17.elim .inl (fun e => e ▸ h.only.f17), f18.elim .inl (fun e => e ▸ h.only.f18), f19.elim .inl (fun e => e ▸ h.only.f19), f20.elim .inl (fun e => e ▸ h.only.f20), f21.elim .inl (fun e => e ▸ h.only.f21), f22.elim .inl (fun e => e ▸ h.only.f22), f23.elim .inl (fun e => e ▸ h.only.f23), f24.elim .inl (fun e => e ▸ h.only.f24), f25.elim .inl (fun e => e ▸ h.only.f25), f26.elim .inl (fun e => e ▸ h.only.f26), f27.elim .inl (fun e => e ▸ h.only.f27), f28.elim .inl (fun e => e ▸ h.only.f28), f29.elim .inl (fun e => e ▸ h.only.f29), f30.elim .inl (fun e => e ▸ h.only.f30), f31.elim .inl (fun e => e ▸ h.only.f31), f32.elim .inl (fun e => e ▸ h.only.f32)⟩
theorem Only_of {m : Nat} {b s t : State} (h : Only m b s) (f0 : t.pending = s.pending) (f2 : t.ram = s.ram) (f3 : t.phase = s.phase) (f5 : t.record = s.record) (f6 : t.mram = s.mram) (f7 : t.ticks = s.ticks) (f8 : t.time = s.time) (f10 : t.evr = s.evr) (f11 : t.gal = s.gal) (f12 : t.mode = s.mode) (f13 : t.loops = s.loops) (f14 : t.prof = s.prof) (f15 : t.thm = s.thm) (f16 : t.drv = s.drv) (f17 : t.safe = s.safe) (f18 : t.asy = s.asy) (f19 : t.meas = s.meas) (f20 : t.est = s.est) (f21 : t.bal = s.bal) (f22 : t.chain = s.chain) (f23 : t.pairU = s.pairU) (f24 : t.aux = s.aux) (f25 : t.upd = s.upd) (f26 : t.cyc = s.cyc) (f27 : t.can = s.can) (f28 : t.fltHeld = s.fltHeld) (f29 : t.eth = s.eth) (f30 : t.twb = s.twb) (f31 : t.acc = s.acc) (f32 : t.dormantAt = s.dormantAt) : Only m b t :=
  ⟨f0 ▸ h.f0, f2 ▸ h.f2, f3 ▸ h.f3, f5 ▸ h.f5, f6 ▸ h.f6, f7 ▸ h.f7, f8 ▸ h.f8, f10 ▸ h.f10, f11 ▸ h.f11, f12 ▸ h.f12, f13 ▸ h.f13, f14 ▸ h.f14, f15 ▸ h.f15, f16 ▸ h.f16, f17 ▸ h.f17, f18 ▸ h.f18, f19 ▸ h.f19, f20 ▸ h.f20, f21 ▸ h.f21, f22 ▸ h.f22, f23 ▸ h.f23, f24 ▸ h.f24, f25 ▸ h.f25, f26 ▸ h.f26, f27 ▸ h.f27, f28 ▸ h.f28, f29 ▸ h.f29, f30 ▸ h.f30, f31 ▸ h.f31, f32 ▸ h.f32⟩
theorem Only_comp {m : Nat} {b s : State} {c} (h : Only m b s) : Only m b { s with comp := c } :=
  ⟨h.f0, h.f2, h.f3, h.f5, h.f6, h.f7, h.f8, h.f10, h.f11, h.f12, h.f13, h.f14, h.f15, h.f16, h.f17, h.f18, h.f19, h.f20, h.f21, h.f22, h.f23, h.f24, h.f25, h.f26, h.f27, h.f28, h.f29, h.f30, h.f31, h.f32⟩
theorem Only_sent {m : Nat} {b s : State} {c} (h : Only m b s) : Only m b { s with sent := c } :=
  ⟨h.f0, h.f2, h.f3, h.f5, h.f6, h.f7, h.f8, h.f10, h.f11, h.f12, h.f13, h.f14, h.f15, h.f16, h.f17, h.f18, h.f19, h.f20, h.f21, h.f22, h.f23, h.f24, h.f25, h.f26, h.f27, h.f28, h.f29, h.f30, h.f31, h.f32⟩
theorem mask_bit {a m i : Nat} (h : a &&& m = a) (k : a.testBit i = true) : m.testBit i = true := by
  have := congrArg (Nat.testBit · i) h
  simp only [Nat.testBit_and, k, Bool.true_and] at this; exact this
theorem mask_sub {a b m : Nat} (h : a &&& m = a) (k : b &&& a = b) : b &&& m = b := by
  rw [← k, Nat.and_assoc, h]
theorem watchM_cons {x : Out} {l} (h : watchM g l) : watchM g (x :: l) := fun m hm => List.mem_cons_of_mem _ (h m hm)
theorem ctr_add {n k : Nat} (h : g.ctr ≤ n) : g.ctr ≤ n + k := Nat.le_trans h (Nat.le_add_right _ _)
theorem watchE_none {ws} (h : ∀ e, ¬ g.events e) : watchE g ws := fun e he => absurd he (h e)
theorem Kept_foldl {α} {f : State → α → State} {l : List α} (h : Kept g s)
    (k : ∀ s x, Kept g s → Kept g (f s x)) : Kept g (l.foldl f s) := by
  induction l generalizing s with
  | nil => exact h
  | cons x l ih => exact ih (k s x h)
theorem Kept_fold {n : Nat} {f : (i : Nat) → i < n → State → State} (h : Kept g s)
    (k : ∀ i hi s, Kept g s → Kept g (f i hi s)) : Kept g (n.fold f s) := by
  induction n generalizing s with
  | zero => exact h
  | succ n ih => rw [Nat.fold_succ]; exact k _ _ _ (ih h (fun i hi s hs => k _ _ _ hs))
theorem Kept_snd {α} {x : α × State} {y} (e : x = (y, t)) (h : Kept g x.2) : Kept g t := by rw [e] at h; exact h
theorem Kept_fst {α} {x : State × α} {y} (e : x = (t, y)) (h : Kept g x.1) : Kept g t := by rw [e] at h; exact h
theorem Kept_of_O {o : Host.Outcome State Fault Refusal} (e : o = .next t) (h : KeptO g o) : Kept g t := by
  obtain ⟨u, hu, hk⟩ := h; rw [e] at hu; cases hu; exact hk
theorem Kept_of_next (h : KeptO g (.next t)) : Kept g t := by
  obtain ⟨u, hu, hk⟩ := h; cases hu; exact hk
theorem Kept_mk_iff {a0 a1 a2 a3 a4 a5 a6 a7 a8 a9 a10 a11 a12 a13 a14 a15 a16 a17 a18 a19 a20 a21 a22 a23 a24 a25 a26 a27 a28 a29 a30 a31 a32 a33 a34} :
    Kept g (State.mk a0 a1 a2 a3 a4 a5 a6 a7 a8 a9 a10 a11 a12 a13 a14 a15 a16 a17 a18 a19 a20 a21 a22 a23 a24 a25 a26 a27 a28 a29 a30 a31 a32 a33 a34) ↔
    ((g.sound → Store.wf a1 = true) ∧ (g.sound → Store.wf a2 = true) ∧ (g.sound → Store.wf a6.regs = true) ∧ (g.sound → Store.wf a28 = true) ∧ a4 = g.base.variant ∧
      (g.sound → evOk g.base.variant a9.waiting = true) ∧ watchE g a9.waiting ∧ watchM g a34 ∧ g.ctr ≤ a33 ∧ Only g.mask g.base (State.mk a0 a1 a2 a3 a4 a5 a6 a7 a8 a9 a10 a11 a12 a13 a14 a15 a16 a17 a18 a19 a20 a21 a22 a23 a24 a25 a26 a27 a28 a29 a30 a31 a32 a33 a34)) :=
  ⟨fun ⟨h1, h2, h3, h4, h5, h6, h7, h8, h9, h10⟩ => ⟨h1, h2, h3, h4, h5, h6, h7, h8, h9, h10⟩,
   fun ⟨h1, h2, h3, h4, h5, h6, h7, h8, h9, h10⟩ => ⟨h1, h2, h3, h4, h5, h6, h7, h8, h9, h10⟩⟩
theorem storeBytes_wf {m : Store 8} {a bs} (h : Store.wf m = true) : Store.wf (storeBytes m a bs) = true := by
  induction bs generalizing m a with
  | nil => exact h
  | cons b t ih => exact ih (Store.wf_set _ _ _ h)
theorem above_filter {w} {m : Store w} {f} {a} (h : Store.above a m = true) : Store.above a (List.filter f m) = true := by
  induction m with
  | nil => rfl
  | cons p t ih =>
    simp only [Store.above, Bool.and_eq_true] at h
    simp only [List.filter]
    split
    · simp only [Store.above, Bool.and_eq_true]; exact ⟨h.1, ih h.2⟩
    · exact ih h.2
theorem filter_wf {w} {m : Store w} {f} (h : Store.wf m = true) : Store.wf (List.filter f m) = true := by
  induction m with
  | nil => rfl
  | cons p t ih =>
    simp only [Store.wf, Bool.and_eq_true] at h
    simp only [List.filter]
    split
    · simp only [Store.wf, Bool.and_eq_true]; exact ⟨⟨h.1.1, above_filter h.1.2⟩, ih h.2⟩
    · exact ih h.2
theorem evOk_filter {v ws f} (h : evOk v ws = true) : evOk v (List.filter f ws) = true := by
  simp only [evOk, List.all_eq_true, List.mem_filter] at *; exact fun x hx => h x hx.1

/-- A queue after `enter` holds, by page and number, everything it held and the event that entered. -/
theorem enter_has {c : Compositor} {w : Waiting} {p n : Nat}
    (h : c.waiting.any (fun x => x.page == p && x.num == n) = true ∨ (w.page = p ∧ w.num = n)) :
    (enter c w).waiting.any (fun x => x.page == p && x.num == n) = true := by
  simp only [List.any_eq_true, Bool.and_eq_true, beq_iff_eq] at *
  unfold enter
  split
  · rename_i hc
    simp only [Bool.and_eq_true, List.any_eq_true, beq_iff_eq] at hc
    have hx : ∃ x ∈ c.waiting, x.page = p ∧ x.num = n := by
      rcases h with h | ⟨rfl, rfl⟩
      · exact h
      · obtain ⟨-, x, hx, ⟨h1, h2⟩, -⟩ := hc; exact ⟨x, hx, h1, h2⟩
    obtain ⟨x, hx, h1, h2⟩ := hx
    refine ⟨_, List.mem_map_of_mem hx, ?_⟩
    split <;> exact ⟨h1, h2⟩
  · split
    · rcases h with ⟨x, hx, h1, h2⟩ | ⟨rfl, rfl⟩
      · exact ⟨x, List.mem_append_left _ hx, h1, h2⟩
      · exact ⟨_, List.mem_append_right _ (List.mem_singleton_self _), rfl, rfl⟩
    · lift_lets
      intro same top later
      split
      · rcases h with ⟨x, hx, h1, h2⟩ | ⟨rfl, rfl⟩
        · refine ⟨_, List.mem_append_left _ (List.mem_map_of_mem hx), ?_⟩
          split <;> exact ⟨h1, h2⟩
        · exact ⟨_, List.mem_append_right _ (List.mem_singleton_self _), rfl, rfl⟩
      · rcases h with ⟨x, hx, h1, h2⟩ | ⟨rfl, rfl⟩
        · exact ⟨x, List.mem_append_left _ hx, h1, h2⟩
        · exact ⟨_, List.mem_append_right _ (List.mem_singleton_self _), rfl, rfl⟩
theorem watchE_enter {c : Compositor} {w : Waiting} (h : watchE g c.waiting) : watchE g (enter c w).waiting :=
  fun e he => enter_has (.inl (h e he))
theorem evOk_enter {v} {c : Compositor} {w : Waiting} (h : evOk v c.waiting = true) (k : pagePresent v w.page = true) :
    evOk v (enter c w).waiting = true := by
  simp only [evOk, List.all_eq_true] at *
  unfold enter
  repeat' split
  · simp only [List.mem_map]
    rintro x ⟨y, hy, rfl⟩
    split <;> exact h y hy
  · intro x hx
    simp only [List.mem_append, List.mem_singleton] at hx
    rcases hx with hx | rfl
    · exact h x hx
    · exact k
  · lift_lets
    intro same top later
    split
    · intro x hx
      simp only [List.mem_append, List.mem_map, List.mem_singleton] at hx
      rcases hx with ⟨y, hy, rfl⟩ | rfl
      · split <;> exact h y hy
      · exact k
    · intro x hx
      simp only [List.mem_append, List.mem_singleton] at hx
      rcases hx with hx | rfl
      · exact h x hx
      · exact k
theorem reset_regs_wf : Store.wf State.reset.regs = true := by decide +kernel

end Sys2Proof.Machine
end

