-- ==== Sys2Proof/Laws/Kept1.lean ====
section
/-! SUPPORT. What operations and meanings keep (Laws/Kept.lean), part 1 of 8. -/

set_option linter.all false
set_option Elab.async false

namespace Sys2Proof.Machine

variable {g : Watch}

theorem kept_setReg {x0 x1 x2} (h0 : Kept g x0) : Kept g (State.setReg x0 x1 x2) := by
  unfold State.setReg
  repeat' (first
    | with_reducible assumption
    | with_reducible refine fun _ => ?_
    | ((try lift_lets); intro s; refine (have hs : Kept g s := ?_; ?_); subst s; rotate_left; clear_value s; rotate_left)
    | ((try lift_lets); first | (intro (x : Mram); subst x) | (intro (x : Compositor); subst x) | (intro (x : Store 32); subst x) | (intro (x : Store 8); subst x) | (intro (x : State × _); subst x) | (intro (x : _ × State); subst x) | (intro (x : _ × _ × State); subst x) | (intro (x : State → _); subst x) | (intro (x : _ → State → _); subst x) | (intro (x : _ → State); subst x) | (intro x; clear_value x))
    | (simp only [↓Kept_mk_iff]; refine And.intro ?_ (And.intro ?_ (And.intro ?_ (And.intro ?_ (And.intro ?_ (And.intro ?_ (And.intro ?_ (And.intro ?_ (And.intro ?_ ?_)))))))))
    | with_reducible (first | apply Kept_ite | apply Store.wf_set)
    | with_reducible (first | exact Kept_regs (by assumption) (by assumption) | exact Kept_ram (by assumption) (by assumption) | exact Kept_mram (by assumption) (by assumption) | exact Kept_flt (by assumption) (by assumption) | exact Kept_var (by assumption) | exact Kept_ev (by assumption) (by assumption) | exact Kept_has (by assumption) | exact Kept_out (by assumption) | exact Kept_ctr (by assumption) | exact watchE_none (by assumption))
    | with_reducible refine Only_mk ?_ (.inr rfl) (.inr rfl) (.inr rfl) (.inr rfl) (.inr rfl) (.inr rfl) (.inr rfl) (.inr rfl) (.inr rfl) (.inr rfl) (.inr rfl) (.inr rfl) (.inr rfl) (.inr rfl) (.inr rfl) (.inr rfl) (.inr rfl) (.inr rfl) (.inr rfl) (.inr rfl) (.inr rfl) (.inr rfl) (.inr rfl) (.inr rfl) (.inr rfl) (.inr rfl) (.inr rfl) (.inr rfl) (.inr rfl) (.inr rfl)
    | (first | rfl)
    | with_reducible (first | refine Kept_snd (by assumption) ?_ | refine Kept_fst (by assumption) ?_)
    | with_reducible exact Kept_of_next (by assumption)
    | with_reducible (refine Kept_of_O (by assumption) ?_)
    | with_reducible (first | refine Kept_regs (g := g) ?_ (by assumption) | refine Kept_ram (g := g) ?_ (by assumption) | refine Kept_mram (g := g) ?_ (by assumption) | refine Kept_flt (g := g) ?_ (by assumption) | refine Kept_var ?_ | refine Kept_ev ?_ (by assumption) | refine Kept_has ?_ | refine Kept_out ?_ | refine Kept_ctr ?_)
    | dsimp -zeta only
    | split)

theorem kept_setF {x0 x1 x2} (h0 : Kept g x0) : Kept g (State.setF x0 x1 x2) := by
  unfold State.setF
  repeat' (first | with_reducible assumption | with_reducible (first | apply kept_setReg | apply Kept_ite) | split | intro _)

theorem kept_updShow {x0} (h0 : Kept g x0) : Kept g (State.updShow x0) := by
  unfold State.updShow
  repeat' (first | with_reducible assumption | with_reducible (first | apply kept_setF | apply kept_setReg | apply Kept_ite) | split | intro _)

theorem kept_galUpdate {x0 x1 x2} (h0 : Kept g x0) (hk : 2048 &&& g.mask = 2048) : Kept g (State.galUpdate x0 x1 x2) := by
  unfold State.galUpdate
  repeat' (first
    | with_reducible assumption
    | with_reducible refine fun _ => ?_
    | ((try lift_lets); intro s; refine (have hs : Kept g s := ?_; ?_); subst s; rotate_left; clear_value s; rotate_left)
    | ((try lift_lets); first | (intro (x : Mram); subst x) | (intro (x : Compositor); subst x) | (intro (x : Store 32); subst x) | (intro (x : Store 8); subst x) | (intro (x : State × _); subst x) | (intro (x : _ × State); subst x) | (intro (x : _ × _ × State); subst x) | (intro (x : State → _); subst x) | (intro (x : _ → State → _); subst x) | (intro (x : _ → State); subst x) | (intro x; clear_value x))
    | (simp only [↓Kept_mk_iff]; refine And.intro ?_ (And.intro ?_ (And.intro ?_ (And.intro ?_ (And.intro ?_ (And.intro ?_ (And.intro ?_ (And.intro ?_ (And.intro ?_ ?_)))))))))
    | with_reducible (first | apply Kept_ite)
    | with_reducible (first | exact Kept_regs (by assumption) (by assumption) | exact Kept_ram (by assumption) (by assumption) | exact Kept_mram (by assumption) (by assumption) | exact Kept_flt (by assumption) (by assumption) | exact Kept_var (by assumption) | exact Kept_ev (by assumption) (by assumption) | exact Kept_has (by assumption) | exact Kept_out (by assumption) | exact Kept_ctr (by assumption) | exact watchE_none (by assumption))
    | with_reducible refine Only_mk ?_ (.inr rfl) (.inr rfl) (.inr rfl) (.inr rfl) (.inr rfl) (.inr rfl) (.inr rfl) (.inr rfl) (.inl (mask_bit hk rfl)) (.inr rfl) (.inr rfl) (.inr rfl) (.inr rfl) (.inr rfl) (.inr rfl) (.inr rfl) (.inr rfl) (.inr rfl) (.inr rfl) (.inr rfl) (.inr rfl) (.inr rfl) (.inr rfl) (.inr rfl) (.inr rfl) (.inr rfl) (.inr rfl) (.inr rfl) (.inr rfl) (.inr rfl)
    | (first | exact mask_sub hk rfl | exact hk)
    | with_reducible (first | refine Kept_snd (by assumption) ?_ | refine Kept_fst (by assumption) ?_)
    | with_reducible exact Kept_of_next (by assumption)
    | with_reducible (refine Kept_of_O (by assumption) ?_)
    | with_reducible (first | refine Kept_regs (g := g) ?_ (by assumption) | refine Kept_ram (g := g) ?_ (by assumption) | refine Kept_mram (g := g) ?_ (by assumption) | refine Kept_flt (g := g) ?_ (by assumption) | refine Kept_var ?_ | refine Kept_ev ?_ (by assumption) | refine Kept_has ?_ | refine Kept_out ?_ | refine Kept_ctr ?_)
    | dsimp -zeta only
    | split)

theorem kept_galShow {x0} (h0 : Kept g x0) : Kept g (State.galShow x0) := by
  unfold State.galShow
  repeat' (first
    | with_reducible assumption
    | with_reducible refine fun _ => ?_
    | ((try lift_lets); intro s; refine (have hs : Kept g s := ?_; ?_); subst s; rotate_left; clear_value s; rotate_left)
    | ((try lift_lets); first | (intro (x : Mram); subst x) | (intro (x : Compositor); subst x) | (intro (x : Store 32); subst x) | (intro (x : Store 8); subst x) | (intro (x : State × _); subst x) | (intro (x : _ × State); subst x) | (intro (x : _ × _ × State); subst x) | (intro (x : State → _); subst x) | (intro (x : _ → State → _); subst x) | (intro (x : _ → State); subst x) | (intro x; clear_value x))
    | (simp only [↓Kept_mk_iff]; refine And.intro ?_ (And.intro ?_ (And.intro ?_ (And.intro ?_ (And.intro ?_ (And.intro ?_ (And.intro ?_ (And.intro ?_ (And.intro ?_ ?_)))))))))
    | with_reducible (first | apply kept_setReg | apply Kept_ite | apply Kept_foldl)
    | with_reducible (first | exact Kept_regs (by assumption) (by assumption) | exact Kept_ram (by assumption) (by assumption) | exact Kept_mram (by assumption) (by assumption) | exact Kept_flt (by assumption) (by assumption) | exact Kept_var (by assumption) | exact Kept_ev (by assumption) (by assumption) | exact Kept_has (by assumption) | exact Kept_out (by assumption) | exact Kept_ctr (by assumption) | exact watchE_none (by assumption))
    | (first | rfl)
    | with_reducible (first | refine Kept_snd (by assumption) ?_ | refine Kept_fst (by assumption) ?_)
    | with_reducible exact Kept_of_next (by assumption)
    | with_reducible (refine Kept_of_O (by assumption) ?_)
    | with_reducible (first | refine Kept_regs (g := g) ?_ (by assumption) | refine Kept_ram (g := g) ?_ (by assumption) | refine Kept_mram (g := g) ?_ (by assumption) | refine Kept_flt (g := g) ?_ (by assumption) | refine Kept_var ?_ | refine Kept_ev ?_ (by assumption) | refine Kept_has ?_ | refine Kept_out ?_ | refine Kept_ctr ?_)
    | dsimp -zeta only
    | split)

theorem kept_occur {x0 x1 x2} (h0 : Kept g x0) : Kept g (State.occur x0 x1 x2) := by
  unfold State.occur
  repeat' (first
    | with_reducible assumption
    | with_reducible refine fun _ => ?_
    | ((try lift_lets); intro s; refine (have hs : Kept g s := ?_; ?_); subst s; rotate_left; clear_value s; rotate_left)
    | ((try lift_lets); first | (intro (x : Mram); subst x) | (intro (x : Compositor); subst x) | (intro (x : Store 32); subst x) | (intro (x : Store 8); subst x) | (intro (x : State × _); subst x) | (intro (x : _ × State); subst x) | (intro (x : _ × _ × State); subst x) | (intro (x : State → _); subst x) | (intro (x : _ → State → _); subst x) | (intro (x : _ → State); subst x) | (intro x; clear_value x))
    | (simp only [↓Kept_mk_iff]; refine And.intro ?_ (And.intro ?_ (And.intro ?_ (And.intro ?_ (And.intro ?_ (And.intro ?_ (And.intro ?_ (And.intro ?_ (And.intro ?_ ?_)))))))))
    | with_reducible (first | apply kept_setReg | apply Kept_ite | apply filter_wf | apply evOk_filter)
    | with_reducible (first | exact Kept_regs (by assumption) (by assumption) | exact Kept_ram (by assumption) (by assumption) | exact Kept_mram (by assumption) (by assumption) | exact Kept_flt (by assumption) (by assumption) | exact Kept_var (by assumption) | exact Kept_ev (by assumption) (by assumption) | exact Kept_has (by assumption) | exact Kept_out (by assumption) | exact Kept_ctr (by assumption) | exact watchE_none (by assumption))
    | with_reducible refine Only_mk ?_ (.inr rfl) (.inr rfl) (.inr rfl) (.inr rfl) (.inr rfl) (.inr rfl) (.inr rfl) (.inr rfl) (.inr rfl) (.inr rfl) (.inr rfl) (.inr rfl) (.inr rfl) (.inr rfl) (.inr rfl) (.inr rfl) (.inr rfl) (.inr rfl) (.inr rfl) (.inr rfl) (.inr rfl) (.inr rfl) (.inr rfl) (.inr rfl) (.inr rfl) (.inr rfl) (.inr rfl) (.inr rfl) (.inr rfl) (.inr rfl)
    | (first | rfl)
    | with_reducible (first | refine Kept_snd (by assumption) ?_ | refine Kept_fst (by assumption) ?_)
    | with_reducible exact Kept_of_next (by assumption)
    | with_reducible (refine Kept_of_O (by assumption) ?_)
    | with_reducible (first | refine Kept_regs (g := g) ?_ (by assumption) | refine Kept_ram (g := g) ?_ (by assumption) | refine Kept_mram (g := g) ?_ (by assumption) | refine Kept_flt (g := g) ?_ (by assumption) | refine Kept_var ?_ | refine Kept_ev ?_ (by assumption) | refine Kept_has ?_ | refine Kept_out ?_ | refine Kept_ctr ?_)
    | dsimp -zeta only
    | split)

theorem kept_countReg {x0 x1} (h0 : Kept g x0) : Kept g (State.countReg x0 x1) := by
  unfold State.countReg
  repeat' (first | with_reducible assumption | with_reducible (first | apply kept_occur | apply Kept_ite) | split | intro _)

theorem kept_raiseC {x0 x1 x2 x3} (h0 : Kept g x0) : Kept g (State.raiseC x0 x1 x2 x3) := by
  unfold State.raiseC
  split
  · exact h0
  · rename_i hp
    have hp : pagePresent g.base.variant x1.page = true := by rw [← h0.variant]; simpa using hp
    lift_lets
    intro s; refine (have hs : Kept g s := ?_; ?_); subst s; rotate_left; clear_value s; rotate_left
    · skip
      repeat' (first
        | with_reducible assumption
        | with_reducible refine fun _ => ?_
        | ((try lift_lets); intro s; refine (have hs : Kept g s := ?_; ?_); subst s; rotate_left; clear_value s; rotate_left)
        | ((try lift_lets); first | (intro (x : Mram); subst x) | (intro (x : Compositor); subst x) | (intro (x : Store 32); subst x) | (intro (x : Store 8); subst x) | (intro (x : State × _); subst x) | (intro (x : _ × State); subst x) | (intro (x : _ × _ × State); subst x) | (intro (x : State → _); subst x) | (intro (x : _ → State → _); subst x) | (intro (x : _ → State); subst x) | (intro x; clear_value x))
        | (simp only [↓Kept_mk_iff]; refine And.intro ?_ (And.intro ?_ (And.intro ?_ (And.intro ?_ (And.intro ?_ (And.intro ?_ (And.intro ?_ (And.intro ?_ (And.intro ?_ ?_)))))))))
        | with_reducible (first | apply kept_countReg | apply Kept_ite)
        | with_reducible (first | exact Kept_regs (by assumption) (by assumption) | exact Kept_ram (by assumption) (by assumption) | exact Kept_mram (by assumption) (by assumption) | exact Kept_flt (by assumption) (by assumption) | exact Kept_var (by assumption) | exact Kept_ev (by assumption) (by assumption) | exact Kept_has (by assumption) | exact Kept_out (by assumption) | exact Kept_ctr (by assumption) | exact watchE_none (by assumption))
        | with_reducible refine Only_mk ?_ (.inr rfl) (.inr rfl) (.inr rfl) (.inr rfl) (.inr rfl) (.inr rfl) (.inr rfl) (.inr rfl) (.inr rfl) (.inr rfl) (.inr rfl) (.inr rfl) (.inr rfl) (.inr rfl) (.inr rfl) (.inr rfl) (.inr rfl) (.inr rfl) (.inr rfl) (.inr rfl) (.inr rfl) (.inr rfl) (.inr rfl) (.inr rfl) (.inr rfl) (.inr rfl) (.inr rfl) (.inr rfl) (.inr rfl) (.inr rfl)
        | (first | rfl)
        | with_reducible (first | refine Kept_snd (by assumption) ?_ | refine Kept_fst (by assumption) ?_)
        | with_reducible exact Kept_of_next (by assumption)
        | with_reducible (refine Kept_of_O (by assumption) ?_)
        | with_reducible (first | refine Kept_regs (g := g) ?_ (by assumption) | refine Kept_ram (g := g) ?_ (by assumption) | refine Kept_mram (g := g) ?_ (by assumption) | refine Kept_flt (g := g) ?_ (by assumption) | refine Kept_var ?_ | refine Kept_ev ?_ (by assumption) | refine Kept_has ?_ | refine Kept_out ?_ | refine Kept_ctr ?_)
        | dsimp -zeta only
        | split)
    · exact ⟨hs.regs, hs.ram, hs.mram, hs.flt, hs.variant, fun k => evOk_enter (hs.ev k) hp, watchE_enter hs.has,
        hs.out, hs.ctr, Only_comp hs.only⟩

theorem kept_raiseA {x0 x1 x2} (h0 : Kept g x0) : Kept g (State.raiseA x0 x1 x2) := by
  unfold State.raiseA
  repeat' (first | with_reducible assumption | with_reducible (first | apply kept_raiseC | apply Kept_ite) | split | intro _)

theorem kept_galClose {x0 x1 x2} (h0 : Kept g x0) (hk : 2048 &&& g.mask = 2048) : Kept g (State.galClose x0 x1 x2) := by
  unfold State.galClose
  repeat' (first | with_reducible assumption | exact mask_sub hk rfl | with_reducible (first | apply kept_galUpdate | apply kept_galShow | apply kept_raiseA | apply Kept_ite) | split | intro _)

theorem kept_exchangeDrop {x0} (h0 : Kept g x0) (hk : 33556480 &&& g.mask = 33556480) : Kept g (State.exchangeDrop x0) := by
  unfold State.exchangeDrop
  repeat' (first
    | with_reducible assumption
    | with_reducible refine fun _ => ?_
    | ((try lift_lets); intro s; refine (have hs : Kept g s := ?_; ?_); subst s; rotate_left; clear_value s; rotate_left)
    | ((try lift_lets); first | (intro (x : Mram); subst x) | (intro (x : Compositor); subst x) | (intro (x : Store 32); subst x) | (intro (x : Store 8); subst x) | (intro (x : State × _); subst x) | (intro (x : _ × State); subst x) | (intro (x : _ × _ × State); subst x) | (intro (x : State → _); subst x) | (intro (x : _ → State → _); subst x) | (intro (x : _ → State); subst x) | (intro x; clear_value x))
    | (simp only [↓Kept_mk_iff]; refine And.intro ?_ (And.intro ?_ (And.intro ?_ (And.intro ?_ (And.intro ?_ (And.intro ?_ (And.intro ?_ (And.intro ?_ (And.intro ?_ ?_)))))))))
    | with_reducible (first | apply kept_galClose | apply Kept_ite | apply filter_wf | apply evOk_filter)
    | with_reducible (first | exact Kept_regs (by assumption) (by assumption) | exact Kept_ram (by assumption) (by assumption) | exact Kept_mram (by assumption) (by assumption) | exact Kept_flt (by assumption) (by assumption) | exact Kept_var (by assumption) | exact Kept_ev (by assumption) (by assumption) | exact Kept_has (by assumption) | exact Kept_out (by assumption) | exact Kept_ctr (by assumption) | exact watchE_none (by assumption))
    | with_reducible refine Only_mk ?_ (.inr rfl) (.inr rfl) (.inr rfl) (.inr rfl) (.inr rfl) (.inr rfl) (.inr rfl) (.inr rfl) (.inr rfl) (.inr rfl) (.inr rfl) (.inr rfl) (.inr rfl) (.inr rfl) (.inr rfl) (.inr rfl) (.inr rfl) (.inr rfl) (.inr rfl) (.inr rfl) (.inr rfl) (.inr rfl) (.inl (mask_bit hk rfl)) (.inr rfl) (.inr rfl) (.inr rfl) (.inr rfl) (.inr rfl) (.inr rfl) (.inr rfl)
    | (first | exact mask_sub hk rfl | exact hk)
    | with_reducible (first | refine Kept_snd (by assumption) ?_ | refine Kept_fst (by assumption) ?_)
    | with_reducible exact Kept_of_next (by assumption)
    | with_reducible (refine Kept_of_O (by assumption) ?_)
    | with_reducible (first | refine Kept_regs (g := g) ?_ (by assumption) | refine Kept_ram (g := g) ?_ (by assumption) | refine Kept_mram (g := g) ?_ (by assumption) | refine Kept_flt (g := g) ?_ (by assumption) | refine Kept_var ?_ | refine Kept_ev ?_ (by assumption) | refine Kept_has ?_ | refine Kept_out ?_ | refine Kept_ctr ?_)
    | dsimp -zeta only
    | split)

theorem kept_setB {x0 x1 x2} (h0 : Kept g x0) : Kept g (State.setB x0 x1 x2) := by
  unfold State.setB
  repeat' (first | with_reducible assumption | with_reducible (first | apply kept_setF | apply Kept_ite) | split | intro _)

theorem kept_putBank {x0 x1 x2 x3} (h0 : Kept g x0) (hk : 33554432 &&& g.mask = 33554432) : Kept g (State.putBank x0 x1 x2 x3) := by
  unfold State.putBank
  repeat' (first
    | with_reducible assumption
    | with_reducible refine fun _ => ?_
    | ((try lift_lets); intro s; refine (have hs : Kept g s := ?_; ?_); subst s; rotate_left; clear_value s; rotate_left)
    | ((try lift_lets); first | (intro (x : Mram); subst x) | (intro (x : Compositor); subst x) | (intro (x : Store 32); subst x) | (intro (x : Store 8); subst x) | (intro (x : State × _); subst x) | (intro (x : _ × State); subst x) | (intro (x : _ × _ × State); subst x) | (intro (x : State → _); subst x) | (intro (x : _ → State → _); subst x) | (intro (x : _ → State); subst x) | (intro x; clear_value x))
    | (simp only [↓Kept_mk_iff]; refine And.intro ?_ (And.intro ?_ (And.intro ?_ (And.intro ?_ (And.intro ?_ (And.intro ?_ (And.intro ?_ (And.intro ?_ (And.intro ?_ ?_)))))))))
    | with_reducible (first | apply kept_setB | apply Kept_ite)
    | with_reducible (first | exact Kept_regs (by assumption) (by assumption) | exact Kept_ram (by assumption) (by assumption) | exact Kept_mram (by assumption) (by assumption) | exact Kept_flt (by assumption) (by assumption) | exact Kept_var (by assumption) | exact Kept_ev (by assumption) (by assumption) | exact Kept_has (by assumption) | exact Kept_out (by assumption) | exact Kept_ctr (by assumption) | exact watchE_none (by assumption))
    | with_reducible refine Only_mk ?_ (.inr rfl) (.inr rfl) (.inr rfl) (.inr rfl) (.inr rfl) (.inr rfl) (.inr rfl) (.inr rfl) (.inr rfl) (.inr rfl) (.inr rfl) (.inr rfl) (.inr rfl) (.inr rfl) (.inr rfl) (.inr rfl) (.inr rfl) (.inr rfl) (.inr rfl) (.inr rfl) (.inr rfl) (.inr rfl) (.inl (mask_bit hk rfl)) (.inr rfl) (.inr rfl) (.inr rfl) (.inr rfl) (.inr rfl) (.inr rfl) (.inr rfl)
    | (first | exact mask_sub hk rfl | exact hk)
    | with_reducible (first | refine Kept_snd (by assumption) ?_ | refine Kept_fst (by assumption) ?_)
    | with_reducible exact Kept_of_next (by assumption)
    | with_reducible (refine Kept_of_O (by assumption) ?_)
    | with_reducible (first | refine Kept_regs (g := g) ?_ (by assumption) | refine Kept_ram (g := g) ?_ (by assumption) | refine Kept_mram (g := g) ?_ (by assumption) | refine Kept_flt (g := g) ?_ (by assumption) | refine Kept_var ?_ | refine Kept_ev ?_ (by assumption) | refine Kept_has ?_ | refine Kept_out ?_ | refine Kept_ctr ?_)
    | dsimp -zeta only
    | split)

theorem kept_abortNow {x0} (h0 : Kept g x0) (hk : 33556480 &&& g.mask = 33556480) : Kept g (State.abortNow x0) := by
  unfold State.abortNow
  repeat' (first
    | with_reducible assumption
    | with_reducible refine fun _ => ?_
    | ((try lift_lets); intro s; refine (have hs : Kept g s := ?_; ?_); subst s; rotate_left; clear_value s; rotate_left)
    | ((try lift_lets); first | (intro (x : Mram); subst x) | (intro (x : Compositor); subst x) | (intro (x : Store 32); subst x) | (intro (x : Store 8); subst x) | (intro (x : State × _); subst x) | (intro (x : _ × State); subst x) | (intro (x : _ × _ × State); subst x) | (intro (x : State → _); subst x) | (intro (x : _ → State → _); subst x) | (intro (x : _ → State); subst x) | (intro x; clear_value x))
    | (simp only [↓Kept_mk_iff]; refine And.intro ?_ (And.intro ?_ (And.intro ?_ (And.intro ?_ (And.intro ?_ (And.intro ?_ (And.intro ?_ (And.intro ?_ (And.intro ?_ ?_)))))))))
    | with_reducible (first | apply kept_updShow | apply kept_exchangeDrop | apply kept_putBank | apply Kept_ite | apply Kept_foldl)
    | with_reducible (first | exact Kept_regs (by assumption) (by assumption) | exact Kept_ram (by assumption) (by assumption) | exact Kept_mram (by assumption) (by assumption) | exact Kept_flt (by assumption) (by assumption) | exact Kept_var (by assumption) | exact Kept_ev (by assumption) (by assumption) | exact Kept_has (by assumption) | exact Kept_out (by assumption) | exact Kept_ctr (by assumption) | exact watchE_none (by assumption))
    | with_reducible refine Only_mk ?_ (.inr rfl) (.inr rfl) (.inr rfl) (.inr rfl) (.inr rfl) (.inr rfl) (.inr rfl) (.inr rfl) (.inr rfl) (.inr rfl) (.inr rfl) (.inr rfl) (.inr rfl) (.inr rfl) (.inr rfl) (.inr rfl) (.inr rfl) (.inr rfl) (.inr rfl) (.inr rfl) (.inr rfl) (.inr rfl) (.inl (mask_bit hk rfl)) (.inr rfl) (.inr rfl) (.inr rfl) (.inr rfl) (.inr rfl) (.inr rfl) (.inr rfl)
    | (first | exact mask_sub hk rfl | exact hk)
    | with_reducible (first | refine Kept_snd (by assumption) ?_ | refine Kept_fst (by assumption) ?_)
    | with_reducible exact Kept_of_next (by assumption)
    | with_reducible (refine Kept_of_O (by assumption) ?_)
    | with_reducible (first | refine Kept_regs (g := g) ?_ (by assumption) | refine Kept_ram (g := g) ?_ (by assumption) | refine Kept_mram (g := g) ?_ (by assumption) | refine Kept_flt (g := g) ?_ (by assumption) | refine Kept_var ?_ | refine Kept_ev ?_ (by assumption) | refine Kept_has ?_ | refine Kept_out ?_ | refine Kept_ctr ?_)
    | dsimp -zeta only
    | split)

theorem kept_abortDue {x0} (h0 : Kept g x0) (hk : 33556480 &&& g.mask = 33556480) : Kept g (State.abortDue x0) := by
  unfold State.abortDue
  repeat' (first
    | with_reducible assumption
    | with_reducible refine fun _ => ?_
    | ((try lift_lets); intro s; refine (have hs : Kept g s := ?_; ?_); subst s; rotate_left; clear_value s; rotate_left)
    | ((try lift_lets); first | (intro (x : Mram); subst x) | (intro (x : Compositor); subst x) | (intro (x : Store 32); subst x) | (intro (x : Store 8); subst x) | (intro (x : State × _); subst x) | (intro (x : _ × State); subst x) | (intro (x : _ × _ × State); subst x) | (intro (x : State → _); subst x) | (intro (x : _ → State → _); subst x) | (intro (x : _ → State); subst x) | (intro x; clear_value x))
    | (simp only [↓Kept_mk_iff]; refine And.intro ?_ (And.intro ?_ (And.intro ?_ (And.intro ?_ (And.intro ?_ (And.intro ?_ (And.intro ?_ (And.intro ?_ (And.intro ?_ ?_)))))))))
    | with_reducible (first | apply kept_abortNow | apply Kept_ite)
    | with_reducible (first | exact Kept_regs (by assumption) (by assumption) | exact Kept_ram (by assumption) (by assumption) | exact Kept_mram (by assumption) (by assumption) | exact Kept_flt (by assumption) (by assumption) | exact Kept_var (by assumption) | exact Kept_ev (by assumption) (by assumption) | exact Kept_has (by assumption) | exact Kept_out (by assumption) | exact Kept_ctr (by assumption) | exact watchE_none (by assumption))
    | with_reducible refine Only_mk ?_ (.inr rfl) (.inr rfl) (.inr rfl) (.inr rfl) (.inr rfl) (.inr rfl) (.inr rfl) (.inr rfl) (.inr rfl) (.inr rfl) (.inr rfl) (.inr rfl) (.inr rfl) (.inr rfl) (.inr rfl) (.inr rfl) (.inr rfl) (.inr rfl) (.inr rfl) (.inr rfl) (.inr rfl) (.inr rfl) (.inl (mask_bit hk rfl)) (.inr rfl) (.inr rfl) (.inr rfl) (.inr rfl) (.inr rfl) (.inr rfl) (.inr rfl)
    | (first | exact mask_sub hk rfl | exact hk)
    | with_reducible (first | refine Kept_snd (by assumption) ?_ | refine Kept_fst (by assumption) ?_)
    | with_reducible exact Kept_of_next (by assumption)
    | with_reducible (refine Kept_of_O (by assumption) ?_)
    | with_reducible (first | refine Kept_regs (g := g) ?_ (by assumption) | refine Kept_ram (g := g) ?_ (by assumption) | refine Kept_mram (g := g) ?_ (by assumption) | refine Kept_flt (g := g) ?_ (by assumption) | refine Kept_var ?_ | refine Kept_ev ?_ (by assumption) | refine Kept_has ?_ | refine Kept_out ?_ | refine Kept_ctr ?_)
    | dsimp -zeta only
    | split)

theorem kept_raise {x0 x1} (h0 : Kept g x0) : Kept g (State.raise x0 x1) := by
  unfold State.raise
  repeat' (first | with_reducible assumption | with_reducible (first | apply kept_raiseA | apply Kept_ite) | split | intro _)

theorem kept_occurFlag {x0 x1 x2} (h0 : Kept g x0) : Kept g (State.occurFlag x0 x1 x2) := by
  unfold State.occurFlag
  repeat' (first
    | with_reducible assumption
    | with_reducible refine fun _ => ?_
    | ((try lift_lets); intro s; refine (have hs : Kept g s := ?_; ?_); subst s; rotate_left; clear_value s; rotate_left)
    | ((try lift_lets); first | (intro (x : Mram); subst x) | (intro (x : Compositor); subst x) | (intro (x : Store 32); subst x) | (intro (x : Store 8); subst x) | (intro (x : State × _); subst x) | (intro (x : _ × State); subst x) | (intro (x : _ × _ × State); subst x) | (intro (x : State → _); subst x) | (intro (x : _ → State → _); subst x) | (intro (x : _ → State); subst x) | (intro x; clear_value x))
    | (simp only [↓Kept_mk_iff]; refine And.intro ?_ (And.intro ?_ (And.intro ?_ (And.intro ?_ (And.intro ?_ (And.intro ?_ (And.intro ?_ (And.intro ?_ (And.intro ?_ ?_)))))))))
    | with_reducible (first | apply Kept_ite)
    | with_reducible (first | exact Kept_regs (by assumption) (by assumption) | exact Kept_ram (by assumption) (by assumption) | exact Kept_mram (by assumption) (by assumption) | exact Kept_flt (by assumption) (by assumption) | exact Kept_var (by assumption) | exact Kept_ev (by assumption) (by assumption) | exact Kept_has (by assumption) | exact Kept_out (by assumption) | exact Kept_ctr (by assumption) | exact watchE_none (by assumption))
    | with_reducible refine Only_mk ?_ (.inr rfl) (.inr rfl) (.inr rfl) (.inr rfl) (.inr rfl) (.inr rfl) (.inr rfl) (.inr rfl) (.inr rfl) (.inr rfl) (.inr rfl) (.inr rfl) (.inr rfl) (.inr rfl) (.inr rfl) (.inr rfl) (.inr rfl) (.inr rfl) (.inr rfl) (.inr rfl) (.inr rfl) (.inr rfl) (.inr rfl) (.inr rfl) (.inr rfl) (.inr rfl) (.inr rfl) (.inr rfl) (.inr rfl) (.inr rfl)
    | (first | rfl)
    | with_reducible (first | refine Kept_snd (by assumption) ?_ | refine Kept_fst (by assumption) ?_)
    | with_reducible exact Kept_of_next (by assumption)
    | with_reducible (refine Kept_of_O (by assumption) ?_)
    | with_reducible (first | refine Kept_regs (g := g) ?_ (by assumption) | refine Kept_ram (g := g) ?_ (by assumption) | refine Kept_mram (g := g) ?_ (by assumption) | refine Kept_flt (g := g) ?_ (by assumption) | refine Kept_var ?_ | refine Kept_ev ?_ (by assumption) | refine Kept_has ?_ | refine Kept_out ?_ | refine Kept_ctr ?_)
    | dsimp -zeta only
    | split)

theorem kept_arrive {x0 x1} (h0 : Kept g x0) : Kept g (State.arrive x0 x1) := by
  unfold State.arrive
  repeat' (first | with_reducible assumption | with_reducible (first | apply kept_occurFlag | apply Kept_ite) | split | intro _)

theorem kept_raiseInt {x0 x1 x2 x3} (h0 : Kept g x0) : Kept g (State.raiseInt x0 x1 x2 x3) := by
  unfold State.raiseInt
  repeat' (first | with_reducible assumption | with_reducible (first | apply kept_raiseC | apply Kept_ite) | split | intro _)

theorem kept_profZero {x0} (h0 : Kept g x0) (hk : 16384 &&& g.mask = 16384) : Kept g (State.profZero x0) := by
  unfold State.profZero
  repeat' (first
    | with_reducible assumption
    | with_reducible refine fun _ => ?_
    | ((try lift_lets); intro s; refine (have hs : Kept g s := ?_; ?_); subst s; rotate_left; clear_value s; rotate_left)
    | ((try lift_lets); first | (intro (x : Mram); subst x) | (intro (x : Compositor); subst x) | (intro (x : Store 32); subst x) | (intro (x : Store 8); subst x) | (intro (x : State × _); subst x) | (intro (x : _ × State); subst x) | (intro (x : _ × _ × State); subst x) | (intro (x : State → _); subst x) | (intro (x : _ → State → _); subst x) | (intro (x : _ → State); subst x) | (intro x; clear_value x))
    | (simp only [↓Kept_mk_iff]; refine And.intro ?_ (And.intro ?_ (And.intro ?_ (And.intro ?_ (And.intro ?_ (And.intro ?_ (And.intro ?_ (And.intro ?_ (And.intro ?_ ?_)))))))))
    | with_reducible (first | apply kept_setReg | apply Kept_ite)
    | with_reducible (first | exact Kept_regs (by assumption) (by assumption) | exact Kept_ram (by assumption) (by assumption) | exact Kept_mram (by assumption) (by assumption) | exact Kept_flt (by assumption) (by assumption) | exact Kept_var (by assumption) | exact Kept_ev (by assumption) (by assumption) | exact Kept_has (by assumption) | exact Kept_out (by assumption) | exact Kept_ctr (by assumption) | exact watchE_none (by assumption))
    | with_reducible refine Only_mk ?_ (.inr rfl) (.inr rfl) (.inr rfl) (.inr rfl) (.inr rfl) (.inr rfl) (.inr rfl) (.inr rfl) (.inr rfl) (.inr rfl) (.inr rfl) (.inl (mask_bit hk rfl)) (.inr rfl) (.inr rfl) (.inr rfl) (.inr rfl) (.inr rfl) (.inr rfl) (.inr rfl) (.inr rfl) (.inr rfl) (.inr rfl) (.inr rfl) (.inr rfl) (.inr rfl) (.inr rfl) (.inr rfl) (.inr rfl) (.inr rfl) (.inr rfl)
    | (first | exact mask_sub hk rfl | exact hk)
    | with_reducible (first | refine Kept_snd (by assumption) ?_ | refine Kept_fst (by assumption) ?_)
    | with_reducible exact Kept_of_next (by assumption)
    | with_reducible (refine Kept_of_O (by assumption) ?_)
    | with_reducible (first | refine Kept_regs (g := g) ?_ (by assumption) | refine Kept_ram (g := g) ?_ (by assumption) | refine Kept_mram (g := g) ?_ (by assumption) | refine Kept_flt (g := g) ?_ (by assumption) | refine Kept_var ?_ | refine Kept_ev ?_ (by assumption) | refine Kept_has ?_ | refine Kept_out ?_ | refine Kept_ctr ?_)
    | dsimp -zeta only
    | split)

theorem kept_faultShow {x0} (h0 : Kept g x0) : Kept g (State.faultShow x0) := by
  unfold State.faultShow
  repeat' (first | with_reducible assumption | with_reducible (first | apply kept_setB | apply Kept_ite) | split | intro _)

theorem kept_dropCause {x0 x1} (h0 : Kept g x0) : Kept g (State.dropCause x0 x1) := by
  unfold State.dropCause
  repeat' (first | with_reducible assumption | with_reducible (first | apply kept_faultShow | apply kept_raise | apply kept_setB | apply Kept_ite) | split | intro _)

theorem kept_powerChanged {x0 x1 x2} (h0 : Kept g x0) (hk : 67788864 &&& g.mask = 67788864) : Kept g (State.powerChanged x0 x1 x2) := by
  unfold State.powerChanged
  repeat' (first
    | with_reducible assumption
    | with_reducible refine fun _ => ?_
    | ((try lift_lets); intro s; refine (have hs : Kept g s := ?_; ?_); subst s; rotate_left; clear_value s; rotate_left)
    | ((try lift_lets); first | (intro (x : Mram); subst x) | (intro (x : Compositor); subst x) | (intro (x : Store 32); subst x) | (intro (x : Store 8); subst x) | (intro (x : State × _); subst x) | (intro (x : _ × State); subst x) | (intro (x : _ × _ × State); subst x) | (intro (x : State → _); subst x) | (intro (x : _ → State → _); subst x) | (intro (x : _ → State); subst x) | (intro x; clear_value x))
    | (simp only [↓Kept_mk_iff]; refine And.intro ?_ (And.intro ?_ (And.intro ?_ (And.intro ?_ (And.intro ?_ (And.intro ?_ (And.intro ?_ (And.intro ?_ (And.intro ?_ ?_)))))))))
    | with_reducible (first | apply kept_arrive | apply kept_raiseInt | apply kept_setReg | apply kept_setB | apply kept_profZero | apply kept_dropCause | apply Kept_ite)
    | with_reducible (first | exact Kept_regs (by assumption) (by assumption) | exact Kept_ram (by assumption) (by assumption) | exact Kept_mram (by assumption) (by assumption) | exact Kept_flt (by assumption) (by assumption) | exact Kept_var (by assumption) | exact Kept_ev (by assumption) (by assumption) | exact Kept_has (by assumption) | exact Kept_out (by assumption) | exact Kept_ctr (by assumption) | exact watchE_none (by assumption))
    | with_reducible refine Only_mk ?_ (.inr rfl) (.inr rfl) (.inr rfl) (.inr rfl) (.inl (mask_bit hk rfl)) (.inr rfl) (.inr rfl) (.inr rfl) (.inr rfl) (.inr rfl) (.inl (mask_bit hk rfl)) (.inr rfl) (.inr rfl) (.inr rfl) (.inl (mask_bit hk rfl)) (.inr rfl) (.inl (mask_bit hk rfl)) (.inr rfl) (.inr rfl) (.inr rfl) (.inr rfl) (.inr rfl) (.inr rfl) (.inl (mask_bit hk rfl)) (.inr rfl) (.inr rfl) (.inr rfl) (.inr rfl) (.inr rfl) (.inr rfl)
    | (first | exact mask_sub hk rfl | exact hk)
    | with_reducible (first | refine Kept_snd (by assumption) ?_ | refine Kept_fst (by assumption) ?_)
    | with_reducible exact Kept_of_next (by assumption)
    | with_reducible (refine Kept_of_O (by assumption) ?_)
    | with_reducible (first | refine Kept_regs (g := g) ?_ (by assumption) | refine Kept_ram (g := g) ?_ (by assumption) | refine Kept_mram (g := g) ?_ (by assumption) | refine Kept_flt (g := g) ?_ (by assumption) | refine Kept_var ?_ | refine Kept_ev ?_ (by assumption) | refine Kept_has ?_ | refine Kept_out ?_ | refine Kept_ctr ?_)
    | dsimp -zeta only
    | split)

theorem kept_setFunc {x0 x1 x2} (h0 : Kept g x0) (hk : 67788864 &&& g.mask = 67788864) : Kept g (State.setFunc x0 x1 x2) := by
  unfold State.setFunc
  repeat' (first | with_reducible assumption | exact mask_sub hk rfl | with_reducible (first | apply kept_setF | apply kept_powerChanged | apply kept_raise | apply kept_setB | apply Kept_ite) | split | intro _)

theorem kept_stopFunc {x0 x1} (h0 : Kept g x0) (hk : 67788864 &&& g.mask = 67788864) : Kept g (State.stopFunc x0 x1) := by
  unfold State.stopFunc
  repeat' (first | with_reducible assumption | exact mask_sub hk rfl | with_reducible (first | apply kept_setFunc | apply Kept_ite) | split | intro _)

theorem kept_stopOthers {x0} (h0 : Kept g x0) (hk : 67788864 &&& g.mask = 67788864) : Kept g (State.stopOthers x0) := by
  unfold State.stopOthers
  repeat' (first | with_reducible assumption | exact mask_sub hk rfl | with_reducible (first | apply kept_stopFunc | apply Kept_ite) | split | intro _)

theorem kept_asyFall {x0} (h0 : Kept g x0) (hk : 262144 &&& g.mask = 262144) : Kept g (State.asyFall x0) := by
  unfold State.asyFall
  repeat' (first
    | with_reducible assumption
    | with_reducible refine fun _ => ?_
    | ((try lift_lets); intro s; refine (have hs : Kept g s := ?_; ?_); subst s; rotate_left; clear_value s; rotate_left)
    | ((try lift_lets); first | (intro (x : Mram); subst x) | (intro (x : Compositor); subst x) | (intro (x : Store 32); subst x) | (intro (x : Store 8); subst x) | (intro (x : State × _); subst x) | (intro (x : _ × State); subst x) | (intro (x : _ × _ × State); subst x) | (intro (x : State → _); subst x) | (intro (x : _ → State → _); subst x) | (intro (x : _ → State); subst x) | (intro x; clear_value x))
    | (simp only [↓Kept_mk_iff]; refine And.intro ?_ (And.intro ?_ (And.intro ?_ (And.intro ?_ (And.intro ?_ (And.intro ?_ (And.intro ?_ (And.intro ?_ (And.intro ?_ ?_)))))))))
    | with_reducible (first | apply Kept_ite)
    | with_reducible (first | exact Kept_regs (by assumption) (by assumption) | exact Kept_ram (by assumption) (by assumption) | exact Kept_mram (by assumption) (by assumption) | exact Kept_flt (by assumption) (by assumption) | exact Kept_var (by assumption) | exact Kept_ev (by assumption) (by assumption) | exact Kept_has (by assumption) | exact Kept_out (by assumption) | exact Kept_ctr (by assumption) | exact watchE_none (by assumption))
    | with_reducible refine Only_mk ?_ (.inr rfl) (.inr rfl) (.inr rfl) (.inr rfl) (.inr rfl) (.inr rfl) (.inr rfl) (.inr rfl) (.inr rfl) (.inr rfl) (.inr rfl) (.inr rfl) (.inr rfl) (.inr rfl) (.inr rfl) (.inl (mask_bit hk rfl)) (.inr rfl) (.inr rfl) (.inr rfl) (.inr rfl) (.inr rfl) (.inr rfl) (.inr rfl) (.inr rfl) (.inr rfl) (.inr rfl) (.inr rfl) (.inr rfl) (.inr rfl) (.inr rfl)
    | (first | exact mask_sub hk rfl | exact hk)
    | with_reducible (first | refine Kept_snd (by assumption) ?_ | refine Kept_fst (by assumption) ?_)
    | with_reducible exact Kept_of_next (by assumption)
    | with_reducible (refine Kept_of_O (by assumption) ?_)
    | with_reducible (first | refine Kept_regs (g := g) ?_ (by assumption) | refine Kept_ram (g := g) ?_ (by assumption) | refine Kept_mram (g := g) ?_ (by assumption) | refine Kept_flt (g := g) ?_ (by assumption) | refine Kept_var ?_ | refine Kept_ev ?_ (by assumption) | refine Kept_has ?_ | refine Kept_out ?_ | refine Kept_ctr ?_)
    | dsimp -zeta only
    | split)

theorem kept_forcePerturb {x0} (h0 : Kept g x0) (hk : 67854400 &&& g.mask = 67854400) : Kept g (State.forcePerturb x0) := by
  unfold State.forcePerturb
  repeat' (first
    | with_reducible assumption
    | with_reducible refine fun _ => ?_
    | ((try lift_lets); intro s; refine (have hs : Kept g s := ?_; ?_); subst s; rotate_left; clear_value s; rotate_left)
    | ((try lift_lets); first | (intro (x : Mram); subst x) | (intro (x : Compositor); subst x) | (intro (x : Store 32); subst x) | (intro (x : Store 8); subst x) | (intro (x : State × _); subst x) | (intro (x : _ × State); subst x) | (intro (x : _ × _ × State); subst x) | (intro (x : State → _); subst x) | (intro (x : _ → State → _); subst x) | (intro (x : _ → State); subst x) | (intro x; clear_value x))
    | (simp only [↓Kept_mk_iff]; refine And.intro ?_ (And.intro ?_ (And.intro ?_ (And.intro ?_ (And.intro ?_ (And.intro ?_ (And.intro ?_ (And.intro ?_ (And.intro ?_ ?_)))))))))
    | with_reducible (first | apply kept_raise | apply kept_setFunc | apply Kept_ite)
    | with_reducible (first | exact Kept_regs (by assumption) (by assumption) | exact Kept_ram (by assumption) (by assumption) | exact Kept_mram (by assumption) (by assumption) | exact Kept_flt (by assumption) (by assumption) | exact Kept_var (by assumption) | exact Kept_ev (by assumption) (by assumption) | exact Kept_has (by assumption) | exact Kept_out (by assumption) | exact Kept_ctr (by assumption) | exact watchE_none (by assumption))
    | with_reducible refine Only_mk ?_ (.inr rfl) (.inr rfl) (.inr rfl) (.inr rfl) (.inr rfl) (.inr rfl) (.inr rfl) (.inr rfl) (.inr rfl) (.inr rfl) (.inr rfl) (.inr rfl) (.inr rfl) (.inl (mask_bit hk rfl)) (.inr rfl) (.inr rfl) (.inr rfl) (.inr rfl) (.inr rfl) (.inr rfl) (.inr rfl) (.inr rfl) (.inr rfl) (.inr rfl) (.inr rfl) (.inr rfl) (.inr rfl) (.inr rfl) (.inr rfl) (.inr rfl)
    | (first | exact mask_sub hk rfl | exact hk)
    | with_reducible (first | refine Kept_snd (by assumption) ?_ | refine Kept_fst (by assumption) ?_)
    | with_reducible exact Kept_of_next (by assumption)
    | with_reducible (refine Kept_of_O (by assumption) ?_)
    | with_reducible (first | refine Kept_regs (g := g) ?_ (by assumption) | refine Kept_ram (g := g) ?_ (by assumption) | refine Kept_mram (g := g) ?_ (by assumption) | refine Kept_flt (g := g) ?_ (by assumption) | refine Kept_var ?_ | refine Kept_ev ?_ (by assumption) | refine Kept_has ?_ | refine Kept_out ?_ | refine Kept_ctr ?_)
    | dsimp -zeta only
    | split)

theorem kept_asyAbort {x0 x1 x2} (h0 : Kept g x0) (hk : 68116544 &&& g.mask = 68116544) : Kept g (State.asyAbort x0 x1 x2) := by
  unfold State.asyAbort
  repeat' (first
    | with_reducible assumption
    | with_reducible refine fun _ => ?_
    | ((try lift_lets); intro s; refine (have hs : Kept g s := ?_; ?_); subst s; rotate_left; clear_value s; rotate_left)
    | ((try lift_lets); first | (intro (x : Mram); subst x) | (intro (x : Compositor); subst x) | (intro (x : Store 32); subst x) | (intro (x : Store 8); subst x) | (intro (x : State × _); subst x) | (intro (x : _ × State); subst x) | (intro (x : _ × _ × State); subst x) | (intro (x : State → _); subst x) | (intro (x : _ → State → _); subst x) | (intro (x : _ → State); subst x) | (intro x; clear_value x))
    | (simp only [↓Kept_mk_iff]; refine And.intro ?_ (And.intro ?_ (And.intro ?_ (And.intro ?_ (And.intro ?_ (And.intro ?_ (And.intro ?_ (And.intro ?_ (And.intro ?_ ?_)))))))))
    | with_reducible (first | apply kept_raise | apply kept_setReg | apply kept_setF | apply kept_asyFall | apply kept_forcePerturb | apply Kept_ite)
    | with_reducible (first | exact Kept_regs (by assumption) (by assumption) | exact Kept_ram (by assumption) (by assumption) | exact Kept_mram (by assumption) (by assumption) | exact Kept_flt (by assumption) (by assumption) | exact Kept_var (by assumption) | exact Kept_ev (by assumption) (by assumption) | exact Kept_has (by assumption) | exact Kept_out (by assumption) | exact Kept_ctr (by assumption) | exact watchE_none (by assumption))
    | with_reducible refine Only_mk ?_ (.inr rfl) (.inr rfl) (.inr rfl) (.inr rfl) (.inr rfl) (.inr rfl) (.inr rfl) (.inr rfl) (.inr rfl) (.inr rfl) (.inr rfl) (.inr rfl) (.inr rfl) (.inr rfl) (.inr rfl) (.inl (mask_bit hk rfl)) (.inr rfl) (.inr rfl) (.inr rfl) (.inr rfl) (.inr rfl) (.inr rfl) (.inr rfl) (.inr rfl) (.inr rfl) (.inr rfl) (.inr rfl) (.inr rfl) (.inr rfl) (.inr rfl)
    | (first | exact mask_sub hk rfl | exact hk)
    | with_reducible (first | refine Kept_snd (by assumption) ?_ | refine Kept_fst (by assumption) ?_)
    | with_reducible exact Kept_of_next (by assumption)
    | with_reducible (refine Kept_of_O (by assumption) ?_)
    | with_reducible (first | refine Kept_regs (g := g) ?_ (by assumption) | refine Kept_ram (g := g) ?_ (by assumption) | refine Kept_mram (g := g) ?_ (by assumption) | refine Kept_flt (g := g) ?_ (by assumption) | refine Kept_var ?_ | refine Kept_ev ?_ (by assumption) | refine Kept_has ?_ | refine Kept_out ?_ | refine Kept_ctr ?_)
    | dsimp -zeta only
    | split)

theorem kept_anchorEnd {x0 x1} (h0 : Kept g x0) (hk : 16384 &&& g.mask = 16384) : Kept g (State.anchorEnd x0 x1) := by
  unfold State.anchorEnd
  repeat' (first
    | with_reducible assumption
    | with_reducible refine fun _ => ?_
    | ((try lift_lets); intro s; refine (have hs : Kept g s := ?_; ?_); subst s; rotate_left; clear_value s; rotate_left)
    | ((try lift_lets); first | (intro (x : Mram); subst x) | (intro (x : Compositor); subst x) | (intro (x : Store 32); subst x) | (intro (x : Store 8); subst x) | (intro (x : State × _); subst x) | (intro (x : _ × State); subst x) | (intro (x : _ × _ × State); subst x) | (intro (x : State → _); subst x) | (intro (x : _ → State → _); subst x) | (intro (x : _ → State); subst x) | (intro x; clear_value x))
    | (simp only [↓Kept_mk_iff]; refine And.intro ?_ (And.intro ?_ (And.intro ?_ (And.intro ?_ (And.intro ?_ (And.intro ?_ (And.intro ?_ (And.intro ?_ (And.intro ?_ ?_)))))))))
    | with_reducible (first | apply kept_setB | apply kept_setReg | apply kept_setF | apply kept_raise | apply Kept_ite)
    | with_reducible (first | exact Kept_regs (by assumption) (by assumption) | exact Kept_ram (by assumption) (by assumption) | exact Kept_mram (by assumption) (by assumption) | exact Kept_flt (by assumption) (by assumption) | exact Kept_var (by assumption) | exact Kept_ev (by assumption) (by assumption) | exact Kept_has (by assumption) | exact Kept_out (by assumption) | exact Kept_ctr (by assumption) | exact watchE_none (by assumption))
    | with_reducible refine Only_mk ?_ (.inr rfl) (.inr rfl) (.inr rfl) (.inr rfl) (.inr rfl) (.inr rfl) (.inr rfl) (.inr rfl) (.inr rfl) (.inr rfl) (.inr rfl) (.inl (mask_bit hk rfl)) (.inr rfl) (.inr rfl) (.inr rfl) (.inr rfl) (.inr rfl) (.inr rfl) (.inr rfl) (.inr rfl) (.inr rfl) (.inr rfl) (.inr rfl) (.inr rfl) (.inr rfl) (.inr rfl) (.inr rfl) (.inr rfl) (.inr rfl) (.inr rfl)
    | (first | exact mask_sub hk rfl | exact hk)
    | with_reducible (first | refine Kept_snd (by assumption) ?_ | refine Kept_fst (by assumption) ?_)
    | with_reducible exact Kept_of_next (by assumption)
    | with_reducible (refine Kept_of_O (by assumption) ?_)
    | with_reducible (first | refine Kept_regs (g := g) ?_ (by assumption) | refine Kept_ram (g := g) ?_ (by assumption) | refine Kept_mram (g := g) ?_ (by assumption) | refine Kept_flt (g := g) ?_ (by assumption) | refine Kept_var ?_ | refine Kept_ev ?_ (by assumption) | refine Kept_has ?_ | refine Kept_out ?_ | refine Kept_ctr ?_)
    | dsimp -zeta only
    | split)

theorem kept_modeChanged {x0} (h0 : Kept g x0) : Kept g (State.modeChanged x0) := by
  unfold State.modeChanged
  repeat' (first | with_reducible assumption | with_reducible (first | apply kept_raise | apply kept_setReg | apply Kept_ite) | split | intro _)

theorem kept_setMode {x0 x1 x2 x3} (h0 : Kept g x0) (hk : 16384 &&& g.mask = 16384) : Kept g (State.setMode x0 x1 x2 x3) := by
  unfold State.setMode
  repeat' (first | with_reducible assumption | exact mask_sub hk rfl | with_reducible (first | apply kept_setB | apply kept_setF | apply kept_anchorEnd | apply kept_modeChanged | apply Kept_ite) | split | intro _)

theorem kept_abortTransition {x0} (h0 : Kept g x0) (hk : 68122688 &&& g.mask = 68122688) : Kept g (State.abortTransition x0) := by
  unfold State.abortTransition
  repeat' (first
    | with_reducible assumption
    | with_reducible refine fun _ => ?_
    | ((try lift_lets); intro s; refine (have hs : Kept g s := ?_; ?_); subst s; rotate_left; clear_value s; rotate_left)
    | ((try lift_lets); first | (intro (x : Mram); subst x) | (intro (x : Compositor); subst x) | (intro (x : Store 32); subst x) | (intro (x : Store 8); subst x) | (intro (x : State × _); subst x) | (intro (x : _ × State); subst x) | (intro (x : _ × _ × State); subst x) | (intro (x : State → _); subst x) | (intro (x : _ → State → _); subst x) | (intro (x : _ → State); subst x) | (intro x; clear_value x))
    | (simp only [↓Kept_mk_iff]; refine And.intro ?_ (And.intro ?_ (And.intro ?_ (And.intro ?_ (And.intro ?_ (And.intro ?_ (And.intro ?_ (And.intro ?_ (And.intro ?_ ?_)))))))))
    | with_reducible (first | apply kept_raise | apply kept_galClose | apply kept_stopOthers | apply kept_asyAbort | apply kept_setFunc | apply kept_setMode | apply Kept_ite)
    | with_reducible (first | exact Kept_regs (by assumption) (by assumption) | exact Kept_ram (by assumption) (by assumption) | exact Kept_mram (by assumption) (by assumption) | exact Kept_flt (by assumption) (by assumption) | exact Kept_var (by assumption) | exact Kept_ev (by assumption) (by assumption) | exact Kept_has (by assumption) | exact Kept_out (by assumption) | exact Kept_ctr (by assumption) | exact watchE_none (by assumption))
    | with_reducible refine Only_mk ?_ (.inr rfl) (.inr rfl) (.inr rfl) (.inr rfl) (.inr rfl) (.inr rfl) (.inr rfl) (.inr rfl) (.inr rfl) (.inl (mask_bit hk rfl)) (.inr rfl) (.inr rfl) (.inr rfl) (.inr rfl) (.inr rfl) (.inr rfl) (.inr rfl) (.inr rfl) (.inr rfl) (.inr rfl) (.inr rfl) (.inr rfl) (.inr rfl) (.inr rfl) (.inr rfl) (.inr rfl) (.inr rfl) (.inr rfl) (.inr rfl) (.inr rfl)
    | (first | exact mask_sub hk rfl | exact hk)
    | with_reducible (first | refine Kept_snd (by assumption) ?_ | refine Kept_fst (by assumption) ?_)
    | with_reducible exact Kept_of_next (by assumption)
    | with_reducible (refine Kept_of_O (by assumption) ?_)
    | with_reducible (first | refine Kept_regs (g := g) ?_ (by assumption) | refine Kept_ram (g := g) ?_ (by assumption) | refine Kept_mram (g := g) ?_ (by assumption) | refine Kept_flt (g := g) ?_ (by assumption) | refine Kept_var ?_ | refine Kept_ev ?_ (by assumption) | refine Kept_has ?_ | refine Kept_out ?_ | refine Kept_ctr ?_)
    | dsimp -zeta only
    | split)

theorem kept_via {x0 x1} (h0 : Kept g x0) (h1 : KeptO g x1) : Kept g (State.via x0 x1) := by
  unfold State.via
  repeat' (first
    | with_reducible assumption
    | with_reducible refine fun _ => ?_
    | ((try lift_lets); intro s; refine (have hs : Kept g s := ?_; ?_); subst s; rotate_left; clear_value s; rotate_left)
    | ((try lift_lets); first | (intro (x : Mram); subst x) | (intro (x : Compositor); subst x) | (intro (x : Store 32); subst x) | (intro (x : Store 8); subst x) | (intro (x : State × _); subst x) | (intro (x : _ × State); subst x) | (intro (x : _ × _ × State); subst x) | (intro (x : State → _); subst x) | (intro (x : _ → State → _); subst x) | (intro (x : _ → State); subst x) | (intro x; clear_value x))
    | (simp only [↓Kept_mk_iff]; refine And.intro ?_ (And.intro ?_ (And.intro ?_ (And.intro ?_ (And.intro ?_ (And.intro ?_ (And.intro ?_ (And.intro ?_ (And.intro ?_ ?_)))))))))
    | with_reducible (first | apply Kept_ite)
    | with_reducible (first | exact Kept_regs (by assumption) (by assumption) | exact Kept_ram (by assumption) (by assumption) | exact Kept_mram (by assumption) (by assumption) | exact Kept_flt (by assumption) (by assumption) | exact Kept_var (by assumption) | exact Kept_ev (by assumption) (by assumption) | exact Kept_has (by assumption) | exact Kept_out (by assumption) | exact Kept_ctr (by assumption) | exact watchE_none (by assumption))
    | (first | rfl)
    | with_reducible (first | refine Kept_snd (by assumption) ?_ | refine Kept_fst (by assumption) ?_)
    | with_reducible exact Kept_of_next (by assumption)
    | with_reducible (refine Kept_of_O (by assumption) ?_)
    | with_reducible (first | refine Kept_regs (g := g) ?_ (by assumption) | refine Kept_ram (g := g) ?_ (by assumption) | refine Kept_mram (g := g) ?_ (by assumption) | refine Kept_flt (g := g) ?_ (by assumption) | refine Kept_var ?_ | refine Kept_ev ?_ (by assumption) | refine Kept_has ?_ | refine Kept_out ?_ | refine Kept_ctr ?_)
    | dsimp -zeta only
    | split)

theorem kept_act {x0 x1 x2} (h0 : Kept g x0) (h2 : ∀ t, Kept g t → KeptO g (x2 t)) : Kept g (State.act x0 x1 x2) := by
  unfold State.act
  repeat' (first | with_reducible assumption | with_reducible (first | apply h2 | apply kept_via | apply Kept_ite) | split | intro _)

theorem kept_toMram {x0 x1} (h0 : Kept g x0) (hk : 64 &&& g.mask = 64) : Kept g (State.toMram x0 x1) := by
  unfold State.toMram
  repeat' (first
    | with_reducible assumption
    | with_reducible refine fun _ => ?_
    | ((try lift_lets); intro s; refine (have hs : Kept g s := ?_; ?_); subst s; rotate_left; clear_value s; rotate_left)
    | ((try lift_lets); first | (intro (x : Mram); subst x) | (intro (x : Compositor); subst x) | (intro (x : Store 32); subst x) | (intro (x : Store 8); subst x) | (intro (x : State × _); subst x) | (intro (x : _ × State); subst x) | (intro (x : _ × _ × State); subst x) | (intro (x : State → _); subst x) | (intro (x : _ → State → _); subst x) | (intro (x : _ → State); subst x) | (intro x; clear_value x))
    | (simp only [↓Kept_mk_iff]; refine And.intro ?_ (And.intro ?_ (And.intro ?_ (And.intro ?_ (And.intro ?_ (And.intro ?_ (And.intro ?_ (And.intro ?_ (And.intro ?_ ?_)))))))))
    | with_reducible (first | apply Kept_ite | apply Store.wf_set)
    | with_reducible (first | exact Kept_regs (by assumption) (by assumption) | exact Kept_ram (by assumption) (by assumption) | exact Kept_mram (by assumption) (by assumption) | exact Kept_flt (by assumption) (by assumption) | exact Kept_var (by assumption) | exact Kept_ev (by assumption) (by assumption) | exact Kept_has (by assumption) | exact Kept_out (by assumption) | exact Kept_ctr (by assumption) | exact watchE_none (by assumption))
    | with_reducible refine Only_mk ?_ (.inr rfl) (.inr rfl) (.inr rfl) (.inr rfl) (.inl (mask_bit hk rfl)) (.inr rfl) (.inr rfl) (.inr rfl) (.inr rfl) (.inr rfl) (.inr rfl) (.inr rfl) (.inr rfl) (.inr rfl) (.inr rfl) (.inr rfl) (.inr rfl) (.inr rfl) (.inr rfl) (.inr rfl) (.inr rfl) (.inr rfl) (.inr rfl) (.inr rfl) (.inr rfl) (.inr rfl) (.inr rfl) (.inr rfl) (.inr rfl) (.inr rfl)
    | (first | exact mask_sub hk rfl | exact hk)
    | with_reducible (first | refine Kept_snd (by assumption) ?_ | refine Kept_fst (by assumption) ?_)
    | with_reducible exact Kept_of_next (by assumption)
    | with_reducible (refine Kept_of_O (by assumption) ?_)
    | with_reducible (first | refine Kept_regs (g := g) ?_ (by assumption) | refine Kept_ram (g := g) ?_ (by assumption) | refine Kept_mram (g := g) ?_ (by assumption) | refine Kept_flt (g := g) ?_ (by assumption) | refine Kept_var ?_ | refine Kept_ev ?_ (by assumption) | refine Kept_has ?_ | refine Kept_out ?_ | refine Kept_ctr ?_)
    | dsimp -zeta only
    | split)

theorem kept_setRegM {x0 x1 x2} (h0 : Kept g x0) (hk : 64 &&& g.mask = 64) : Kept g (State.setRegM x0 x1 x2) := by
  unfold State.setRegM
  repeat' (first | with_reducible assumption | exact mask_sub hk rfl | with_reducible (first | apply kept_toMram | apply kept_setReg | apply Kept_ite) | split | intro _)

theorem kept_galOpen {x0 x1 x2 x3} (h0 : Kept g x0) (hk : 2112 &&& g.mask = 2112) : Kept g (State.galOpen x0 x1 x2 x3) := by
  unfold State.galOpen
  repeat' (first
    | with_reducible assumption
    | with_reducible refine fun _ => ?_
    | ((try lift_lets); intro s; refine (have hs : Kept g s := ?_; ?_); subst s; rotate_left; clear_value s; rotate_left)
    | ((try lift_lets); first | (intro (x : Mram); subst x) | (intro (x : Compositor); subst x) | (intro (x : Store 32); subst x) | (intro (x : Store 8); subst x) | (intro (x : State × _); subst x) | (intro (x : _ × State); subst x) | (intro (x : _ × _ × State); subst x) | (intro (x : State → _); subst x) | (intro (x : _ → State → _); subst x) | (intro (x : _ → State); subst x) | (intro x; clear_value x))
    | (simp only [↓Kept_mk_iff]; refine And.intro ?_ (And.intro ?_ (And.intro ?_ (And.intro ?_ (And.intro ?_ (And.intro ?_ (And.intro ?_ (And.intro ?_ (And.intro ?_ ?_)))))))))
    | with_reducible (first | apply kept_setRegM | apply kept_galShow | apply kept_raise | apply Kept_ite)
    | with_reducible (first | exact Kept_regs (by assumption) (by assumption) | exact Kept_ram (by assumption) (by assumption) | exact Kept_mram (by assumption) (by assumption) | exact Kept_flt (by assumption) (by assumption) | exact Kept_var (by assumption) | exact Kept_ev (by assumption) (by assumption) | exact Kept_has (by assumption) | exact Kept_out (by assumption) | exact Kept_ctr (by assumption) | exact watchE_none (by assumption))
    | with_reducible refine Only_mk ?_ (.inr rfl) (.inr rfl) (.inr rfl) (.inr rfl) (.inr rfl) (.inr rfl) (.inr rfl) (.inr rfl) (.inl (mask_bit hk rfl)) (.inr rfl) (.inr rfl) (.inr rfl) (.inr rfl) (.inr rfl) (.inr rfl) (.inr rfl) (.inr rfl) (.inr rfl) (.inr rfl) (.inr rfl) (.inr rfl) (.inr rfl) (.inr rfl) (.inr rfl) (.inr rfl) (.inr rfl) (.inr rfl) (.inr rfl) (.inr rfl) (.inr rfl)
    | (first | exact mask_sub hk rfl | exact hk)
    | with_reducible (first | refine Kept_snd (by assumption) ?_ | refine Kept_fst (by assumption) ?_)
    | with_reducible exact Kept_of_next (by assumption)
    | with_reducible (refine Kept_of_O (by assumption) ?_)
    | with_reducible (first | refine Kept_regs (g := g) ?_ (by assumption) | refine Kept_ram (g := g) ?_ (by assumption) | refine Kept_mram (g := g) ?_ (by assumption) | refine Kept_flt (g := g) ?_ (by assumption) | refine Kept_var ?_ | refine Kept_ev ?_ (by assumption) | refine Kept_has ?_ | refine Kept_out ?_ | refine Kept_ctr ?_)
    | dsimp -zeta only
    | split)

theorem kept_commitLines {x0 x1} (h0 : Kept g x0) (hk : 2112 &&& g.mask = 2112) : Kept g (State.commitLines x0 x1) := by
  unfold State.commitLines
  repeat' (first
    | with_reducible assumption
    | with_reducible refine fun _ => ?_
    | ((try lift_lets); intro s; refine (have hs : Kept g s := ?_; ?_); subst s; rotate_left; clear_value s; rotate_left)
    | ((try lift_lets); first | (intro (x : Mram); subst x) | (intro (x : Compositor); subst x) | (intro (x : Store 32); subst x) | (intro (x : Store 8); subst x) | (intro (x : State × _); subst x) | (intro (x : _ × State); subst x) | (intro (x : _ × _ × State); subst x) | (intro (x : State → _); subst x) | (intro (x : _ → State → _); subst x) | (intro (x : _ → State); subst x) | (intro x; clear_value x))
    | (simp only [↓Kept_mk_iff]; refine And.intro ?_ (And.intro ?_ (And.intro ?_ (And.intro ?_ (And.intro ?_ (And.intro ?_ (And.intro ?_ (And.intro ?_ (And.intro ?_ ?_)))))))))
    | with_reducible (first | apply kept_galOpen | apply Kept_ite)
    | with_reducible (first | exact Kept_regs (by assumption) (by assumption) | exact Kept_ram (by assumption) (by assumption) | exact Kept_mram (by assumption) (by assumption) | exact Kept_flt (by assumption) (by assumption) | exact Kept_var (by assumption) | exact Kept_ev (by assumption) (by assumption) | exact Kept_has (by assumption) | exact Kept_out (by assumption) | exact Kept_ctr (by assumption) | exact watchE_none (by assumption))
    | (first | exact mask_sub hk rfl | exact hk)
    | with_reducible (first | refine Kept_snd (by assumption) ?_ | refine Kept_fst (by assumption) ?_)
    | with_reducible exact Kept_of_next (by assumption)
    | with_reducible (refine Kept_of_O (by assumption) ?_)
    | with_reducible (first | refine Kept_regs (g := g) ?_ (by assumption) | refine Kept_ram (g := g) ?_ (by assumption) | refine Kept_mram (g := g) ?_ (by assumption) | refine Kept_flt (g := g) ?_ (by assumption) | refine Kept_var ?_ | refine Kept_ev ?_ (by assumption) | refine Kept_has ?_ | refine Kept_out ?_ | refine Kept_ctr ?_)
    | dsimp -zeta only
    | split)

theorem kept_updKind {x0 x1 x2} (h0 : Kept g x0) (hk : 33556480 &&& g.mask = 33556480) : Kept g (State.updKind x0 x1 x2) := by
  unfold State.updKind
  repeat' (first
    | with_reducible assumption
    | with_reducible refine fun _ => ?_
    | ((try lift_lets); intro s; refine (have hs : Kept g s := ?_; ?_); subst s; rotate_left; clear_value s; rotate_left)
    | ((try lift_lets); first | (intro (x : Mram); subst x) | (intro (x : Compositor); subst x) | (intro (x : Store 32); subst x) | (intro (x : Store 8); subst x) | (intro (x : State × _); subst x) | (intro (x : _ × State); subst x) | (intro (x : _ × _ × State); subst x) | (intro (x : State → _); subst x) | (intro (x : _ → State → _); subst x) | (intro (x : _ → State); subst x) | (intro x; clear_value x))
    | (simp only [↓Kept_mk_iff]; refine And.intro ?_ (And.intro ?_ (And.intro ?_ (And.intro ?_ (And.intro ?_ (And.intro ?_ (And.intro ?_ (And.intro ?_ (And.intro ?_ ?_)))))))))
    | with_reducible (first | apply kept_raise | apply kept_setF | apply kept_galClose | apply kept_updShow | apply Kept_ite | apply filter_wf | apply evOk_filter)
    | with_reducible (first | exact Kept_regs (by assumption) (by assumption) | exact Kept_ram (by assumption) (by assumption) | exact Kept_mram (by assumption) (by assumption) | exact Kept_flt (by assumption) (by assumption) | exact Kept_var (by assumption) | exact Kept_ev (by assumption) (by assumption) | exact Kept_has (by assumption) | exact Kept_out (by assumption) | exact Kept_ctr (by assumption) | exact watchE_none (by assumption))
    | with_reducible refine Only_mk ?_ (.inr rfl) (.inr rfl) (.inr rfl) (.inr rfl) (.inr rfl) (.inr rfl) (.inr rfl) (.inr rfl) (.inr rfl) (.inr rfl) (.inr rfl) (.inr rfl) (.inr rfl) (.inr rfl) (.inr rfl) (.inr rfl) (.inr rfl) (.inr rfl) (.inr rfl) (.inr rfl) (.inr rfl) (.inr rfl) (.inl (mask_bit hk rfl)) (.inr rfl) (.inr rfl) (.inr rfl) (.inr rfl) (.inr rfl) (.inr rfl) (.inr rfl)
    | (first | exact mask_sub hk rfl | exact hk)
    | with_reducible (first | refine Kept_snd (by assumption) ?_ | refine Kept_fst (by assumption) ?_)
    | with_reducible exact Kept_of_next (by assumption)
    | with_reducible (refine Kept_of_O (by assumption) ?_)
    | with_reducible (first | refine Kept_regs (g := g) ?_ (by assumption) | refine Kept_ram (g := g) ?_ (by assumption) | refine Kept_mram (g := g) ?_ (by assumption) | refine Kept_flt (g := g) ?_ (by assumption) | refine Kept_var ?_ | refine Kept_ev ?_ (by assumption) | refine Kept_has ?_ | refine Kept_out ?_ | refine Kept_ctr ?_)
    | dsimp -zeta only
    | split)

theorem kept_showImage {x0 x1} (h0 : Kept g x0) : Kept g (State.showImage x0 x1) := by
  unfold State.showImage
  repeat' (first | with_reducible assumption | with_reducible (first | apply kept_setF | apply kept_setReg | apply kept_setB | apply Kept_ite) | split | intro _)

theorem kept_setBytes {x0 x1 x2} (h0 : Kept g x0) (hk : 4 &&& g.mask = 4) : Kept g (State.setBytes x0 x1 x2) := by
  unfold State.setBytes
  repeat' (first
    | with_reducible assumption
    | with_reducible refine fun _ => ?_
    | ((try lift_lets); intro s; refine (have hs : Kept g s := ?_; ?_); subst s; rotate_left; clear_value s; rotate_left)
    | ((try lift_lets); first | (intro (x : Mram); subst x) | (intro (x : Compositor); subst x) | (intro (x : Store 32); subst x) | (intro (x : Store 8); subst x) | (intro (x : State × _); subst x) | (intro (x : _ × State); subst x) | (intro (x : _ × _ × State); subst x) | (intro (x : State → _); subst x) | (intro (x : _ → State → _); subst x) | (intro (x : _ → State); subst x) | (intro x; clear_value x))
    | (simp only [↓Kept_mk_iff]; refine And.intro ?_ (And.intro ?_ (And.intro ?_ (And.intro ?_ (And.intro ?_ (And.intro ?_ (And.intro ?_ (And.intro ?_ (And.intro ?_ ?_)))))))))
    | with_reducible (first | apply Kept_ite | apply storeBytes_wf)
    | with_reducible (first | exact Kept_regs (by assumption) (by assumption) | exact Kept_ram (by assumption) (by assumption) | exact Kept_mram (by assumption) (by assumption) | exact Kept_flt (by assumption) (by assumption) | exact Kept_var (by assumption) | exact Kept_ev (by assumption) (by assumption) | exact Kept_has (by assumption) | exact Kept_out (by assumption) | exact Kept_ctr (by assumption) | exact watchE_none (by assumption))
    | with_reducible refine Only_mk ?_ (.inr rfl) (.inl (mask_bit hk rfl)) (.inr rfl) (.inr rfl) (.inr rfl) (.inr rfl) (.inr rfl) (.inr rfl) (.inr rfl) (.inr rfl) (.inr rfl) (.inr rfl) (.inr rfl) (.inr rfl) (.inr rfl) (.inr rfl) (.inr rfl) (.inr rfl) (.inr rfl) (.inr rfl) (.inr rfl) (.inr rfl) (.inr rfl) (.inr rfl) (.inr rfl) (.inr rfl) (.inr rfl) (.inr rfl) (.inr rfl) (.inr rfl)
    | (first | exact mask_sub hk rfl | exact hk)
    | with_reducible (first | refine Kept_snd (by assumption) ?_ | refine Kept_fst (by assumption) ?_)
    | with_reducible exact Kept_of_next (by assumption)
    | with_reducible (refine Kept_of_O (by assumption) ?_)
    | with_reducible (first | refine Kept_regs (g := g) ?_ (by assumption) | refine Kept_ram (g := g) ?_ (by assumption) | refine Kept_mram (g := g) ?_ (by assumption) | refine Kept_flt (g := g) ?_ (by assumption) | refine Kept_var ?_ | refine Kept_ev ?_ (by assumption) | refine Kept_has ?_ | refine Kept_out ?_ | refine Kept_ctr ?_)
    | dsimp -zeta only
    | split)

theorem kept_loadSegs {x0 x1 x2} (h0 : Kept g x0) (hk : 4 &&& g.mask = 4) : Kept g (State.loadSegs x0 x1 x2) := by
  unfold State.loadSegs
  repeat' (first
    | with_reducible assumption
    | with_reducible refine fun _ => ?_
    | ((try lift_lets); intro s; refine (have hs : Kept g s := ?_; ?_); subst s; rotate_left; clear_value s; rotate_left)
    | ((try lift_lets); first | (intro (x : Mram); subst x) | (intro (x : Compositor); subst x) | (intro (x : Store 32); subst x) | (intro (x : Store 8); subst x) | (intro (x : State × _); subst x) | (intro (x : _ × State); subst x) | (intro (x : _ × _ × State); subst x) | (intro (x : State → _); subst x) | (intro (x : _ → State → _); subst x) | (intro (x : _ → State); subst x) | (intro x; clear_value x))
    | (simp only [↓Kept_mk_iff]; refine And.intro ?_ (And.intro ?_ (And.intro ?_ (And.intro ?_ (And.intro ?_ (And.intro ?_ (And.intro ?_ (And.intro ?_ (And.intro ?_ ?_)))))))))
    | with_reducible (first | apply kept_setBytes | apply Kept_ite | apply Kept_foldl | apply filter_wf | apply evOk_filter)
    | with_reducible (first | exact Kept_regs (by assumption) (by assumption) | exact Kept_ram (by assumption) (by assumption) | exact Kept_mram (by assumption) (by assumption) | exact Kept_flt (by assumption) (by assumption) | exact Kept_var (by assumption) | exact Kept_ev (by assumption) (by assumption) | exact Kept_has (by assumption) | exact Kept_out (by assumption) | exact Kept_ctr (by assumption) | exact watchE_none (by assumption))
    | (first | exact mask_sub hk rfl | exact hk)
    | with_reducible (first | refine Kept_snd (by assumption) ?_ | refine Kept_fst (by assumption) ?_)
    | with_reducible exact Kept_of_next (by assumption)
    | with_reducible (refine Kept_of_O (by assumption) ?_)
    | with_reducible (first | refine Kept_regs (g := g) ?_ (by assumption) | refine Kept_ram (g := g) ?_ (by assumption) | refine Kept_mram (g := g) ?_ (by assumption) | refine Kept_flt (g := g) ?_ (by assumption) | refine Kept_var ?_ | refine Kept_ev ?_ (by assumption) | refine Kept_has ?_ | refine Kept_out ?_ | refine Kept_ctr ?_)
    | dsimp -zeta only
    | split)

theorem kept_setImage {x0 x1} (h0 : Kept g x0) (hk : 67108868 &&& g.mask = 67108868) : Kept g (State.setImage x0 x1) := by
  unfold State.setImage
  repeat' (first
    | with_reducible assumption
    | with_reducible refine fun _ => ?_
    | ((try lift_lets); intro s; refine (have hs : Kept g s := ?_; ?_); subst s; rotate_left; clear_value s; rotate_left)
    | ((try lift_lets); first | (intro (x : Mram); subst x) | (intro (x : Compositor); subst x) | (intro (x : Store 32); subst x) | (intro (x : Store 8); subst x) | (intro (x : State × _); subst x) | (intro (x : _ × State); subst x) | (intro (x : _ × _ × State); subst x) | (intro (x : State → _); subst x) | (intro (x : _ → State → _); subst x) | (intro (x : _ → State); subst x) | (intro x; clear_value x))
    | (simp only [↓Kept_mk_iff]; refine And.intro ?_ (And.intro ?_ (And.intro ?_ (And.intro ?_ (And.intro ?_ (And.intro ?_ (And.intro ?_ (And.intro ?_ (And.intro ?_ ?_)))))))))
    | with_reducible (first | apply kept_setReg | apply kept_showImage | apply kept_loadSegs | apply Kept_ite)
    | with_reducible (first | exact Kept_regs (by assumption) (by assumption) | exact Kept_ram (by assumption) (by assumption) | exact Kept_mram (by assumption) (by assumption) | exact Kept_flt (by assumption) (by assumption) | exact Kept_var (by assumption) | exact Kept_ev (by assumption) (by assumption) | exact Kept_has (by assumption) | exact Kept_out (by assumption) | exact Kept_ctr (by assumption) | exact watchE_none (by assumption))
    | with_reducible refine Only_mk ?_ (.inr rfl) (.inr rfl) (.inr rfl) (.inr rfl) (.inr rfl) (.inr rfl) (.inr rfl) (.inr rfl) (.inr rfl) (.inr rfl) (.inr rfl) (.inr rfl) (.inr rfl) (.inr rfl) (.inr rfl) (.inr rfl) (.inr rfl) (.inr rfl) (.inr rfl) (.inr rfl) (.inr rfl) (.inr rfl) (.inr rfl) (.inl (mask_bit hk rfl)) (.inr rfl) (.inr rfl) (.inr rfl) (.inr rfl) (.inr rfl) (.inr rfl)
    | (first | exact mask_sub hk rfl | exact hk)
    | with_reducible (first | refine Kept_snd (by assumption) ?_ | refine Kept_fst (by assumption) ?_)
    | with_reducible exact Kept_of_next (by assumption)
    | with_reducible (refine Kept_of_O (by assumption) ?_)
    | with_reducible (first | refine Kept_regs (g := g) ?_ (by assumption) | refine Kept_ram (g := g) ?_ (by assumption) | refine Kept_mram (g := g) ?_ (by assumption) | refine Kept_flt (g := g) ?_ (by assumption) | refine Kept_var ?_ | refine Kept_ev ?_ (by assumption) | refine Kept_has ?_ | refine Kept_out ?_ | refine Kept_ctr ?_)
    | dsimp -zeta only
    | split)

theorem kept_setFM {x0 x1 x2} (h0 : Kept g x0) (hk : 64 &&& g.mask = 64) : Kept g (State.setFM x0 x1 x2) := by
  unfold State.setFM
  repeat' (first | with_reducible assumption | exact mask_sub hk rfl | with_reducible (first | apply kept_toMram | apply kept_setF | apply Kept_ite) | split | intro _)

theorem kept_switchBank {x0 x1 x2} (h0 : Kept g x0) (hk : 33554496 &&& g.mask = 33554496) : Kept g (State.switchBank x0 x1 x2) := by
  unfold State.switchBank
  repeat' (first | with_reducible assumption | exact mask_sub hk rfl | with_reducible (first | apply kept_setFM | apply kept_putBank | apply Kept_ite) | split | intro _)

theorem kept_raiseIf {x0 x1 x2} (h0 : Kept g x0) : Kept g (State.raiseIf x0 x1 x2) := by
  unfold State.raiseIf
  repeat' (first | with_reducible assumption | with_reducible (first | apply kept_raise | apply Kept_ite) | split | intro _)

theorem kept_cycState {x0 x1} (h0 : Kept g x0) (hk : 67108864 &&& g.mask = 67108864) : Kept g (State.cycState x0 x1) := by
  unfold State.cycState
  repeat' (first
    | with_reducible assumption
    | with_reducible refine fun _ => ?_
    | ((try lift_lets); intro s; refine (have hs : Kept g s := ?_; ?_); subst s; rotate_left; clear_value s; rotate_left)
    | ((try lift_lets); first | (intro (x : Mram); subst x) | (intro (x : Compositor); subst x) | (intro (x : Store 32); subst x) | (intro (x : Store 8); subst x) | (intro (x : State × _); subst x) | (intro (x : _ × State); subst x) | (intro (x : _ × _ × State); subst x) | (intro (x : State → _); subst x) | (intro (x : _ → State → _); subst x) | (intro (x : _ → State); subst x) | (intro x; clear_value x))
    | (simp only [↓Kept_mk_iff]; refine And.intro ?_ (And.intro ?_ (And.intro ?_ (And.intro ?_ (And.intro ?_ (And.intro ?_ (And.intro ?_ (And.intro ?_ (And.intro ?_ ?_)))))))))
    | with_reducible (first | apply kept_setF | apply kept_raiseIf | apply kept_raise | apply kept_dropCause | apply Kept_ite)
    | with_reducible (first | exact Kept_regs (by assumption) (by assumption) | exact Kept_ram (by assumption) (by assumption) | exact Kept_mram (by assumption) (by assumption) | exact Kept_flt (by assumption) (by assumption) | exact Kept_var (by assumption) | exact Kept_ev (by assumption) (by assumption) | exact Kept_has (by assumption) | exact Kept_out (by assumption) | exact Kept_ctr (by assumption) | exact watchE_none (by assumption))
    | with_reducible refine Only_mk ?_ (.inr rfl) (.inr rfl) (.inr rfl) (.inr rfl) (.inr rfl) (.inr rfl) (.inr rfl) (.inr rfl) (.inr rfl) (.inr rfl) (.inr rfl) (.inr rfl) (.inr rfl) (.inr rfl) (.inr rfl) (.inr rfl) (.inr rfl) (.inr rfl) (.inr rfl) (.inr rfl) (.inr rfl) (.inr rfl) (.inr rfl) (.inl (mask_bit hk rfl)) (.inr rfl) (.inr rfl) (.inr rfl) (.inr rfl) (.inr rfl) (.inr rfl)
    | (first | exact mask_sub hk rfl | exact hk)
    | with_reducible (first | refine Kept_snd (by assumption) ?_ | refine Kept_fst (by assumption) ?_)
    | with_reducible exact Kept_of_next (by assumption)
    | with_reducible (refine Kept_of_O (by assumption) ?_)
    | with_reducible (first | refine Kept_regs (g := g) ?_ (by assumption) | refine Kept_ram (g := g) ?_ (by assumption) | refine Kept_mram (g := g) ?_ (by assumption) | refine Kept_flt (g := g) ?_ (by assumption) | refine Kept_var ?_ | refine Kept_ev ?_ (by assumption) | refine Kept_has ?_ | refine Kept_out ?_ | refine Kept_ctr ?_)
    | dsimp -zeta only
    | split)

theorem kept_appNow {x0 x1} (h0 : Kept g x0) (hk : 100665412 &&& g.mask = 100665412) : Kept g (State.appNow x0 x1) := by
  unfold State.appNow
  repeat' (first | with_reducible assumption | exact mask_sub hk rfl | with_reducible (first | apply kept_setImage | apply kept_switchBank | apply kept_cycState | apply kept_updKind | apply Kept_ite) | split | intro _)

theorem kept_chainErr {x0 x1 x2 x3} (h0 : Kept g x0) : Kept g (State.chainErr x0 x1 x2 x3) := by
  unfold State.chainErr
  repeat' (first | with_reducible assumption | with_reducible (first | apply kept_raiseIf | apply kept_occur | apply Kept_ite) | split | intro _)

theorem kept_frameIn {x0 x1 x2} (h0 : Kept g x0) : Kept g (State.frameIn x0 x1 x2) := by
  unfold State.frameIn
  repeat' (first | with_reducible assumption | with_reducible (first | apply kept_chainErr | apply kept_countReg | apply Kept_ite) | split | intro _)

theorem kept_emit {x0 x1 x2 x3} (h0 : Kept g x0) : Kept g (State.emit x0 x1 x2 x3) := by
  unfold State.emit
  repeat' (first
    | with_reducible assumption
    | with_reducible refine fun _ => ?_
    | ((try lift_lets); intro s; refine (have hs : Kept g s := ?_; ?_); subst s; rotate_left; clear_value s; rotate_left)
    | ((try lift_lets); first | (intro (x : Mram); subst x) | (intro (x : Compositor); subst x) | (intro (x : Store 32); subst x) | (intro (x : Store 8); subst x) | (intro (x : State × _); subst x) | (intro (x : _ × State); subst x) | (intro (x : _ × _ × State); subst x) | (intro (x : State → _); subst x) | (intro (x : _ → State → _); subst x) | (intro (x : _ → State); subst x) | (intro x; clear_value x))
    | (simp only [↓Kept_mk_iff]; refine And.intro ?_ (And.intro ?_ (And.intro ?_ (And.intro ?_ (And.intro ?_ (And.intro ?_ (And.intro ?_ (And.intro ?_ (And.intro ?_ ?_)))))))))
    | with_reducible (first | apply Kept_ite | apply watchM_cons | apply ctr_add)
    | with_reducible (first | exact Kept_regs (by assumption) (by assumption) | exact Kept_ram (by assumption) (by assumption) | exact Kept_mram (by assumption) (by assumption) | exact Kept_flt (by assumption) (by assumption) | exact Kept_var (by assumption) | exact Kept_ev (by assumption) (by assumption) | exact Kept_has (by assumption) | exact Kept_out (by assumption) | exact Kept_ctr (by assumption) | exact watchE_none (by assumption))
    | with_reducible refine Only_mk ?_ (.inr rfl) (.inr rfl) (.inr rfl) (.inr rfl) (.inr rfl) (.inr rfl) (.inr rfl) (.inr rfl) (.inr rfl) (.inr rfl) (.inr rfl) (.inr rfl) (.inr rfl) (.inr rfl) (.inr rfl) (.inr rfl) (.inr rfl) (.inr rfl) (.inr rfl) (.inr rfl) (.inr rfl) (.inr rfl) (.inr rfl) (.inr rfl) (.inr rfl) (.inr rfl) (.inr rfl) (.inr rfl) (.inr rfl) (.inr rfl)
    | (first | rfl)
    | with_reducible (first | refine Kept_snd (by assumption) ?_ | refine Kept_fst (by assumption) ?_)
    | with_reducible exact Kept_of_next (by assumption)
    | with_reducible (refine Kept_of_O (by assumption) ?_)
    | with_reducible (first | refine Kept_regs (g := g) ?_ (by assumption) | refine Kept_ram (g := g) ?_ (by assumption) | refine Kept_mram (g := g) ?_ (by assumption) | refine Kept_flt (g := g) ?_ (by assumption) | refine Kept_var ?_ | refine Kept_ev ?_ (by assumption) | refine Kept_has ?_ | refine Kept_out ?_ | refine Kept_ctr ?_)
    | dsimp -zeta only
    | split)

theorem kept_frameOut {x0 x1 x2 x3} (h0 : Kept g x0) : Kept g (State.frameOut x0 x1 x2 x3) := by
  unfold State.frameOut
  repeat' (first | with_reducible assumption | with_reducible (first | apply kept_countReg | apply kept_frameIn | apply kept_emit | apply Kept_ite) | split | intro _)

theorem kept_nfwOut {x0 x1 x2 x3 x4} (h0 : Kept g x0) : Kept g (State.nfwOut x0 x1 x2 x3 x4) := by
  unfold State.nfwOut
  repeat' (first | with_reducible assumption | with_reducible (first | apply kept_frameOut | apply Kept_ite) | split | intro _)

theorem kept_nodeFrame {x0 x1} (h0 : Kept g x0) (hk : 33556544 &&& g.mask = 33556544) : Kept g (State.nodeFrame x0 x1) := by
  unfold State.nodeFrame
  repeat' (first
    | with_reducible assumption
    | with_reducible refine fun _ => ?_
    | ((try lift_lets); intro s; refine (have hs : Kept g s := ?_; ?_); subst s; rotate_left; clear_value s; rotate_left)
    | ((try lift_lets); first | (intro (x : Mram); subst x) | (intro (x : Compositor); subst x) | (intro (x : Store 32); subst x) | (intro (x : Store 8); subst x) | (intro (x : State × _); subst x) | (intro (x : _ × State); subst x) | (intro (x : _ × _ × State); subst x) | (intro (x : State → _); subst x) | (intro (x : _ → State → _); subst x) | (intro (x : _ → State); subst x) | (intro x; clear_value x))
    | (simp only [↓Kept_mk_iff]; refine And.intro ?_ (And.intro ?_ (And.intro ?_ (And.intro ?_ (And.intro ?_ (And.intro ?_ (And.intro ?_ (And.intro ?_ (And.intro ?_ ?_)))))))))
    | with_reducible (first | apply kept_galOpen | apply kept_galUpdate | apply kept_nfwOut | apply kept_setF | apply Kept_ite)
    | with_reducible (first | exact Kept_regs (by assumption) (by assumption) | exact Kept_ram (by assumption) (by assumption) | exact Kept_mram (by assumption) (by assumption) | exact Kept_flt (by assumption) (by assumption) | exact Kept_var (by assumption) | exact Kept_ev (by assumption) (by assumption) | exact Kept_has (by assumption) | exact Kept_out (by assumption) | exact Kept_ctr (by assumption) | exact watchE_none (by assumption))
    | with_reducible refine Only_mk ?_ (.inr rfl) (.inr rfl) (.inr rfl) (.inr rfl) (.inr rfl) (.inr rfl) (.inr rfl) (.inr rfl) (.inr rfl) (.inr rfl) (.inr rfl) (.inr rfl) (.inr rfl) (.inr rfl) (.inr rfl) (.inr rfl) (.inr rfl) (.inr rfl) (.inr rfl) (.inr rfl) (.inr rfl) (.inr rfl) (.inl (mask_bit hk rfl)) (.inr rfl) (.inr rfl) (.inr rfl) (.inr rfl) (.inr rfl) (.inr rfl) (.inr rfl)
    | (first | exact mask_sub hk rfl | exact hk)
    | with_reducible (first | refine Kept_snd (by assumption) ?_ | refine Kept_fst (by assumption) ?_)
    | with_reducible exact Kept_of_next (by assumption)
    | with_reducible (refine Kept_of_O (by assumption) ?_)
    | with_reducible (first | refine Kept_regs (g := g) ?_ (by assumption) | refine Kept_ram (g := g) ?_ (by assumption) | refine Kept_mram (g := g) ?_ (by assumption) | refine Kept_flt (g := g) ?_ (by assumption) | refine Kept_var ?_ | refine Kept_ev ?_ (by assumption) | refine Kept_has ?_ | refine Kept_out ?_ | refine Kept_ctr ?_)
    | dsimp -zeta only
    | split)

theorem kept_nodeSend {x0 x1} (h0 : Kept g x0) (hk : 33556544 &&& g.mask = 33556544) : Kept g (State.nodeSend x0 x1) := by
  unfold State.nodeSend
  repeat' (first
    | with_reducible assumption
    | with_reducible refine fun _ => ?_
    | ((try lift_lets); intro s; refine (have hs : Kept g s := ?_; ?_); subst s; rotate_left; clear_value s; rotate_left)
    | ((try lift_lets); first | (intro (x : Mram); subst x) | (intro (x : Compositor); subst x) | (intro (x : Store 32); subst x) | (intro (x : Store 8); subst x) | (intro (x : State × _); subst x) | (intro (x : _ × State); subst x) | (intro (x : _ × _ × State); subst x) | (intro (x : State → _); subst x) | (intro (x : _ → State → _); subst x) | (intro (x : _ → State); subst x) | (intro x; clear_value x))
    | (simp only [↓Kept_mk_iff]; refine And.intro ?_ (And.intro ?_ (And.intro ?_ (And.intro ?_ (And.intro ?_ (And.intro ?_ (And.intro ?_ (And.intro ?_ (And.intro ?_ ?_)))))))))
    | with_reducible (first | apply kept_nodeFrame | apply Kept_ite)
    | with_reducible (first | exact Kept_regs (by assumption) (by assumption) | exact Kept_ram (by assumption) (by assumption) | exact Kept_mram (by assumption) (by assumption) | exact Kept_flt (by assumption) (by assumption) | exact Kept_var (by assumption) | exact Kept_ev (by assumption) (by assumption) | exact Kept_has (by assumption) | exact Kept_out (by assumption) | exact Kept_ctr (by assumption) | exact watchE_none (by assumption))
    | with_reducible refine Only_mk ?_ (.inr rfl) (.inr rfl) (.inr rfl) (.inr rfl) (.inr rfl) (.inr rfl) (.inr rfl) (.inr rfl) (.inr rfl) (.inr rfl) (.inr rfl) (.inr rfl) (.inr rfl) (.inr rfl) (.inr rfl) (.inr rfl) (.inr rfl) (.inr rfl) (.inr rfl) (.inr rfl) (.inr rfl) (.inr rfl) (.inl (mask_bit hk rfl)) (.inr rfl) (.inr rfl) (.inr rfl) (.inr rfl) (.inr rfl) (.inr rfl) (.inr rfl)
    | (first | exact mask_sub hk rfl | exact hk)
    | with_reducible (first | refine Kept_snd (by assumption) ?_ | refine Kept_fst (by assumption) ?_)
    | with_reducible exact Kept_of_next (by assumption)
    | with_reducible (refine Kept_of_O (by assumption) ?_)
    | with_reducible (first | refine Kept_regs (g := g) ?_ (by assumption) | refine Kept_ram (g := g) ?_ (by assumption) | refine Kept_mram (g := g) ?_ (by assumption) | refine Kept_flt (g := g) ?_ (by assumption) | refine Kept_var ?_ | refine Kept_ev ?_ (by assumption) | refine Kept_has ?_ | refine Kept_out ?_ | refine Kept_ctr ?_)
    | dsimp -zeta only
    | split)

theorem kept_nodeStart {x0 x1} (h0 : Kept g x0) (hk : 33556544 &&& g.mask = 33556544) : Kept g (State.nodeStart x0 x1) := by
  unfold State.nodeStart
  repeat' (first | with_reducible assumption | exact mask_sub hk rfl | with_reducible (first | apply kept_nodeSend | apply kept_setReg | apply kept_updKind | apply Kept_ite) | split | intro _)

theorem kept_driveOut {x0 x1 x2 x3} (h0 : Kept g x0) (hk : 65536 &&& g.mask = 65536) : Kept g (State.driveOut x0 x1 x2 x3) := by
  unfold State.driveOut
  repeat' (first
    | with_reducible assumption
    | with_reducible refine fun _ => ?_
    | ((try lift_lets); intro s; refine (have hs : Kept g s := ?_; ?_); subst s; rotate_left; clear_value s; rotate_left)
    | ((try lift_lets); first | (intro (x : Mram); subst x) | (intro (x : Compositor); subst x) | (intro (x : Store 32); subst x) | (intro (x : Store 8); subst x) | (intro (x : State × _); subst x) | (intro (x : _ × State); subst x) | (intro (x : _ × _ × State); subst x) | (intro (x : State → _); subst x) | (intro (x : _ → State → _); subst x) | (intro (x : _ → State); subst x) | (intro x; clear_value x))
    | (simp only [↓Kept_mk_iff]; refine And.intro ?_ (And.intro ?_ (And.intro ?_ (And.intro ?_ (And.intro ?_ (And.intro ?_ (And.intro ?_ (And.intro ?_ (And.intro ?_ ?_)))))))))
    | with_reducible (first | apply kept_countReg | apply kept_emit | apply Kept_ite)
    | with_reducible (first | exact Kept_regs (by assumption) (by assumption) | exact Kept_ram (by assumption) (by assumption) | exact Kept_mram (by assumption) (by assumption) | exact Kept_flt (by assumption) (by assumption) | exact Kept_var (by assumption) | exact Kept_ev (by assumption) (by assumption) | exact Kept_has (by assumption) | exact Kept_out (by assumption) | exact Kept_ctr (by assumption) | exact watchE_none (by assumption))
    | with_reducible refine Only_mk ?_ (.inr rfl) (.inr rfl) (.inr rfl) (.inr rfl) (.inr rfl) (.inr rfl) (.inr rfl) (.inr rfl) (.inr rfl) (.inr rfl) (.inr rfl) (.inr rfl) (.inr rfl) (.inl (mask_bit hk rfl)) (.inr rfl) (.inr rfl) (.inr rfl) (.inr rfl) (.inr rfl) (.inr rfl) (.inr rfl) (.inr rfl) (.inr rfl) (.inr rfl) (.inr rfl) (.inr rfl) (.inr rfl) (.inr rfl) (.inr rfl) (.inr rfl)
    | (first | exact mask_sub hk rfl | exact hk)
    | with_reducible (first | refine Kept_snd (by assumption) ?_ | refine Kept_fst (by assumption) ?_)
    | with_reducible exact Kept_of_next (by assumption)
    | with_reducible (refine Kept_of_O (by assumption) ?_)
    | with_reducible (first | refine Kept_regs (g := g) ?_ (by assumption) | refine Kept_ram (g := g) ?_ (by assumption) | refine Kept_mram (g := g) ?_ (by assumption) | refine Kept_flt (g := g) ?_ (by assumption) | refine Kept_var ?_ | refine Kept_ev ?_ (by assumption) | refine Kept_has ?_ | refine Kept_out ?_ | refine Kept_ctr ?_)
    | dsimp -zeta only
    | split)

theorem kept_driveMsg {x0 x1 x2} (h0 : Kept g x0) (hk : 65536 &&& g.mask = 65536) : Kept g (State.driveMsg x0 x1 x2) := by
  unfold State.driveMsg
  repeat' (first | with_reducible assumption | exact mask_sub hk rfl | with_reducible (first | apply kept_driveOut | apply Kept_ite) | split | intro _)

theorem kept_pullEn {x0} (h0 : Kept g x0) : Kept g (State.pullEn x0) := by
  unfold State.pullEn
  repeat' (first | with_reducible assumption | with_reducible (first | apply kept_setB | apply kept_emit | apply Kept_ite) | split | intro _)

theorem kept_pwmRefresh {x0} (h0 : Kept g x0) : Kept g (State.pwmRefresh x0) := by
  unfold State.pwmRefresh
  repeat' (first | with_reducible assumption | with_reducible (first | apply kept_setF | apply kept_raise | apply kept_setB | apply Kept_ite) | split | intro _)

theorem kept_loadBegin {x0 x1} (h0 : Kept g x0) (hk : 33619968 &&& g.mask = 33619968) : Kept g (State.loadBegin x0 x1) := by
  unfold State.loadBegin
  repeat' (first
    | with_reducible assumption
    | with_reducible refine fun _ => ?_
    | ((try lift_lets); intro s; refine (have hs : Kept g s := ?_; ?_); subst s; rotate_left; clear_value s; rotate_left)
    | ((try lift_lets); first | (intro (x : Mram); subst x) | (intro (x : Compositor); subst x) | (intro (x : Store 32); subst x) | (intro (x : Store 8); subst x) | (intro (x : State × _); subst x) | (intro (x : _ × State); subst x) | (intro (x : _ × _ × State); subst x) | (intro (x : State → _); subst x) | (intro (x : _ → State → _); subst x) | (intro (x : _ → State); subst x) | (intro x; clear_value x))
    | (simp only [↓Kept_mk_iff]; refine And.intro ?_ (And.intro ?_ (And.intro ?_ (And.intro ?_ (And.intro ?_ (And.intro ?_ (And.intro ?_ (And.intro ?_ (And.intro ?_ ?_)))))))))
    | with_reducible (first | apply kept_driveMsg | apply kept_pullEn | apply kept_pwmRefresh | apply Kept_ite)
    | with_reducible (first | exact Kept_regs (by assumption) (by assumption) | exact Kept_ram (by assumption) (by assumption) | exact Kept_mram (by assumption) (by assumption) | exact Kept_flt (by assumption) (by assumption) | exact Kept_var (by assumption) | exact Kept_ev (by assumption) (by assumption) | exact Kept_has (by assumption) | exact Kept_out (by assumption) | exact Kept_ctr (by assumption) | exact watchE_none (by assumption))
    | with_reducible refine Only_mk ?_ (.inr rfl) (.inr rfl) (.inr rfl) (.inr rfl) (.inr rfl) (.inr rfl) (.inr rfl) (.inr rfl) (.inr rfl) (.inr rfl) (.inr rfl) (.inr rfl) (.inr rfl) (.inl (mask_bit hk rfl)) (.inr rfl) (.inr rfl) (.inr rfl) (.inr rfl) (.inr rfl) (.inr rfl) (.inr rfl) (.inr rfl) (.inl (mask_bit hk rfl)) (.inr rfl) (.inr rfl) (.inr rfl) (.inr rfl) (.inr rfl) (.inr rfl) (.inr rfl)
    | (first | exact mask_sub hk rfl | exact hk)
    | with_reducible (first | refine Kept_snd (by assumption) ?_ | refine Kept_fst (by assumption) ?_)
    | with_reducible exact Kept_of_next (by assumption)
    | with_reducible (refine Kept_of_O (by assumption) ?_)
    | with_reducible (first | refine Kept_regs (g := g) ?_ (by assumption) | refine Kept_ram (g := g) ?_ (by assumption) | refine Kept_mram (g := g) ?_ (by assumption) | refine Kept_flt (g := g) ?_ (by assumption) | refine Kept_var ?_ | refine Kept_ev ?_ (by assumption) | refine Kept_has ?_ | refine Kept_out ?_ | refine Kept_ctr ?_)
    | dsimp -zeta only
    | split)

theorem kept_activateOne {x0 x1} (h0 : Kept g x0) (hk : 100730948 &&& g.mask = 100730948) : Kept g (State.activateOne x0 x1) := by
  unfold State.activateOne
  repeat' (first
    | with_reducible assumption
    | with_reducible refine fun _ => ?_
    | ((try lift_lets); intro s; refine (have hs : Kept g s := ?_; ?_); subst s; rotate_left; clear_value s; rotate_left)
    | ((try lift_lets); first | (intro (x : Mram); subst x) | (intro (x : Compositor); subst x) | (intro (x : Store 32); subst x) | (intro (x : Store 8); subst x) | (intro (x : State × _); subst x) | (intro (x : _ × State); subst x) | (intro (x : _ × _ × State); subst x) | (intro (x : State → _); subst x) | (intro (x : _ → State → _); subst x) | (intro (x : _ → State); subst x) | (intro x; clear_value x))
    | (simp only [↓Kept_mk_iff]; refine And.intro ?_ (And.intro ?_ (And.intro ?_ (And.intro ?_ (And.intro ?_ (And.intro ?_ (And.intro ?_ (And.intro ?_ (And.intro ?_ ?_)))))))))
    | with_reducible (first | apply kept_appNow | apply kept_nodeStart | apply kept_updKind | apply kept_loadBegin | apply Kept_ite)
    | with_reducible (first | exact Kept_regs (by assumption) (by assumption) | exact Kept_ram (by assumption) (by assumption) | exact Kept_mram (by assumption) (by assumption) | exact Kept_flt (by assumption) (by assumption) | exact Kept_var (by assumption) | exact Kept_ev (by assumption) (by assumption) | exact Kept_has (by assumption) | exact Kept_out (by assumption) | exact Kept_ctr (by assumption) | exact watchE_none (by assumption))
    | with_reducible refine Only_mk ?_ (.inr rfl) (.inr rfl) (.inr rfl) (.inr rfl) (.inr rfl) (.inr rfl) (.inr rfl) (.inr rfl) (.inr rfl) (.inr rfl) (.inr rfl) (.inr rfl) (.inr rfl) (.inr rfl) (.inr rfl) (.inr rfl) (.inr rfl) (.inr rfl) (.inr rfl) (.inr rfl) (.inr rfl) (.inr rfl) (.inl (mask_bit hk rfl)) (.inr rfl) (.inr rfl) (.inr rfl) (.inr rfl) (.inr rfl) (.inr rfl) (.inr rfl)
    | (first | exact mask_sub hk rfl | exact hk)
    | with_reducible (first | refine Kept_snd (by assumption) ?_ | refine Kept_fst (by assumption) ?_)
    | with_reducible exact Kept_of_next (by assumption)
    | with_reducible (refine Kept_of_O (by assumption) ?_)
    | with_reducible (first | refine Kept_regs (g := g) ?_ (by assumption) | refine Kept_ram (g := g) ?_ (by assumption) | refine Kept_mram (g := g) ?_ (by assumption) | refine Kept_flt (g := g) ?_ (by assumption) | refine Kept_var ?_ | refine Kept_ev ?_ (by assumption) | refine Kept_has ?_ | refine Kept_out ?_ | refine Kept_ctr ?_)
    | dsimp -zeta only
    | split)

theorem kept_enterReset {x0 x1 x2} (h0 : Kept g x0) (hE : ∀ e, ¬ g.events e) (hk : 8589931980 &&& g.mask = 8589931980) : Kept g (State.enterReset x0 x1 x2) := by
  unfold State.enterReset
  have f1 : Store.wf State.reset.regs = true := reset_regs_wf
  have f2 : Store.wf State.reset.ram = true := rfl
  have f3 : Store.wf State.reset.fltHeld = true := rfl
  have f4 : evOk g.base.variant State.reset.comp.waiting = true := rfl
  generalize State.reset = r at *
  lift_lets
  intro r0; subst r0
  repeat' (first
    | with_reducible assumption
    | with_reducible refine fun _ => ?_
    | ((try lift_lets); intro s; refine (have hs : Kept g s := ?_; ?_); subst s; rotate_left; clear_value s; rotate_left)
    | ((try lift_lets); first | (intro (x : Mram); subst x) | (intro (x : Compositor); subst x) | (intro (x : Store 32); subst x) | (intro (x : Store 8); subst x) | (intro (x : State × _); subst x) | (intro (x : _ × State); subst x) | (intro (x : _ × _ × State); subst x) | (intro (x : State → _); subst x) | (intro (x : _ → State → _); subst x) | (intro (x : _ → State); subst x) | (intro x; clear_value x))
    | (simp only [↓Kept_mk_iff]; refine And.intro ?_ (And.intro ?_ (And.intro ?_ (And.intro ?_ (And.intro ?_ (And.intro ?_ (And.intro ?_ (And.intro ?_ (And.intro ?_ ?_)))))))))
    | with_reducible (first | apply kept_setF | apply Kept_ite | apply Kept_foldl | apply Store.wf_set | apply watchM_cons | apply ctr_add)
    | with_reducible (first | exact Kept_regs (by assumption) (by assumption) | exact Kept_ram (by assumption) (by assumption) | exact Kept_mram (by assumption) (by assumption) | exact Kept_flt (by assumption) (by assumption) | exact Kept_var (by assumption) | exact Kept_ev (by assumption) (by assumption) | exact Kept_has (by assumption) | exact Kept_out (by assumption) | exact Kept_ctr (by assumption) | exact watchE_none (by assumption))
    | with_reducible refine Only_mk ?_ (.inr rfl) (.inl (mask_bit hk rfl)) (.inl (mask_bit hk rfl)) (.inr rfl) (.inl (mask_bit hk rfl)) (.inl (mask_bit hk rfl)) (.inl (mask_bit hk rfl)) (.inl (mask_bit hk rfl)) (.inr rfl) (.inl (mask_bit hk rfl)) (.inl (mask_bit hk rfl)) (.inl (mask_bit hk rfl)) (.inl (mask_bit hk rfl)) (.inl (mask_bit hk rfl)) (.inl (mask_bit hk rfl)) (.inl (mask_bit hk rfl)) (.inl (mask_bit hk rfl)) (.inl (mask_bit hk rfl)) (.inl (mask_bit hk rfl)) (.inl (mask_bit hk rfl)) (.inl (mask_bit hk rfl)) (.inl (mask_bit hk rfl)) (.inl (mask_bit hk rfl)) (.inl (mask_bit hk rfl)) (.inl (mask_bit hk rfl)) (.inl (mask_bit hk rfl)) (.inl (mask_bit hk rfl)) (.inl (mask_bit hk rfl)) (.inl (mask_bit hk rfl)) (.inl (mask_bit hk rfl))
    | (first | exact mask_sub hk rfl | exact hk)
    | with_reducible (first | refine Kept_snd (by assumption) ?_ | refine Kept_fst (by assumption) ?_)
    | with_reducible exact Kept_of_next (by assumption)
    | with_reducible (refine Kept_of_O (by assumption) ?_)
    | with_reducible (first | refine Kept_regs (g := g) ?_ (by assumption) | refine Kept_ram (g := g) ?_ (by assumption) | refine Kept_mram (g := g) ?_ (by assumption) | refine Kept_flt (g := g) ?_ (by assumption) | refine Kept_var ?_ | refine Kept_ev ?_ (by assumption) | refine Kept_has ?_ | refine Kept_out ?_ | refine Kept_ctr ?_)
    | dsimp -zeta only
    | split)

theorem kept_restartWarm {x0} (h0 : Kept g x0) (hE : ∀ e, ¬ g.events e) (hk : 8589931980 &&& g.mask = 8589931980) : Kept g (State.restartWarm x0) := by
  unfold State.restartWarm
  repeat' (first
    | with_reducible assumption
    | with_reducible refine fun _ => ?_
    | ((try lift_lets); intro s; refine (have hs : Kept g s := ?_; ?_); subst s; rotate_left; clear_value s; rotate_left)
    | ((try lift_lets); first | (intro (x : Mram); subst x) | (intro (x : Compositor); subst x) | (intro (x : Store 32); subst x) | (intro (x : Store 8); subst x) | (intro (x : State × _); subst x) | (intro (x : _ × State); subst x) | (intro (x : _ × _ × State); subst x) | (intro (x : State → _); subst x) | (intro (x : _ → State → _); subst x) | (intro (x : _ → State); subst x) | (intro x; clear_value x))
    | (simp only [↓Kept_mk_iff]; refine And.intro ?_ (And.intro ?_ (And.intro ?_ (And.intro ?_ (And.intro ?_ (And.intro ?_ (And.intro ?_ (And.intro ?_ (And.intro ?_ ?_)))))))))
    | with_reducible (first | apply kept_enterReset | apply Kept_ite)
    | with_reducible (first | exact Kept_regs (by assumption) (by assumption) | exact Kept_ram (by assumption) (by assumption) | exact Kept_mram (by assumption) (by assumption) | exact Kept_flt (by assumption) (by assumption) | exact Kept_var (by assumption) | exact Kept_ev (by assumption) (by assumption) | exact Kept_has (by assumption) | exact Kept_out (by assumption) | exact Kept_ctr (by assumption) | exact watchE_none (by assumption))
    | with_reducible refine Only_mk ?_ (.inr rfl) (.inr rfl) (.inr rfl) (.inr rfl) (.inr rfl) (.inr rfl) (.inr rfl) (.inr rfl) (.inr rfl) (.inr rfl) (.inr rfl) (.inr rfl) (.inr rfl) (.inr rfl) (.inr rfl) (.inr rfl) (.inr rfl) (.inr rfl) (.inr rfl) (.inr rfl) (.inr rfl) (.inr rfl) (.inr rfl) (.inl (mask_bit hk rfl)) (.inr rfl) (.inr rfl) (.inr rfl) (.inr rfl) (.inr rfl) (.inr rfl)
    | (first | exact mask_sub hk rfl | exact hk)
    | with_reducible (first | refine Kept_snd (by assumption) ?_ | refine Kept_fst (by assumption) ?_)
    | with_reducible exact Kept_of_next (by assumption)
    | with_reducible (refine Kept_of_O (by assumption) ?_)
    | with_reducible (first | refine Kept_regs (g := g) ?_ (by assumption) | refine Kept_ram (g := g) ?_ (by assumption) | refine Kept_mram (g := g) ?_ (by assumption) | refine Kept_flt (g := g) ?_ (by assumption) | refine Kept_var ?_ | refine Kept_ev ?_ (by assumption) | refine Kept_has ?_ | refine Kept_out ?_ | refine Kept_ctr ?_)
    | dsimp -zeta only
    | split)

theorem kept_commitSet {x0 x1} (h0 : Kept g x0) (hk : 33554528 &&& g.mask = 33554528) : Kept g (State.commitSet x0 x1) := by
  unfold State.commitSet
  repeat' (first
    | with_reducible assumption
    | with_reducible refine fun _ => ?_
    | ((try lift_lets); intro s; refine (have hs : Kept g s := ?_; ?_); subst s; rotate_left; clear_value s; rotate_left)
    | ((try lift_lets); first | (intro (x : Mram); subst x) | (intro (x : Compositor); subst x) | (intro (x : Store 32); subst x) | (intro (x : Store 8); subst x) | (intro (x : State × _); subst x) | (intro (x : _ × State); subst x) | (intro (x : _ × _ × State); subst x) | (intro (x : State → _); subst x) | (intro (x : _ → State → _); subst x) | (intro (x : _ → State); subst x) | (intro x; clear_value x))
    | (simp only [↓Kept_mk_iff]; refine And.intro ?_ (And.intro ?_ (And.intro ?_ (And.intro ?_ (And.intro ?_ (And.intro ?_ (And.intro ?_ (And.intro ?_ (And.intro ?_ ?_)))))))))
    | with_reducible (first | apply kept_setRegM | apply kept_switchBank | apply Kept_ite | apply Kept_foldl)
    | with_reducible (first | exact Kept_regs (by assumption) (by assumption) | exact Kept_ram (by assumption) (by assumption) | exact Kept_mram (by assumption) (by assumption) | exact Kept_flt (by assumption) (by assumption) | exact Kept_var (by assumption) | exact Kept_ev (by assumption) (by assumption) | exact Kept_has (by assumption) | exact Kept_out (by assumption) | exact Kept_ctr (by assumption) | exact watchE_none (by assumption))
    | with_reducible refine Only_mk ?_ (.inr rfl) (.inr rfl) (.inr rfl) (.inl (mask_bit hk rfl)) (.inl (mask_bit hk rfl)) (.inr rfl) (.inr rfl) (.inr rfl) (.inr rfl) (.inr rfl) (.inr rfl) (.inr rfl) (.inr rfl) (.inr rfl) (.inr rfl) (.inr rfl) (.inr rfl) (.inr rfl) (.inr rfl) (.inr rfl) (.inr rfl) (.inr rfl) (.inl (mask_bit hk rfl)) (.inr rfl) (.inr rfl) (.inr rfl) (.inr rfl) (.inr rfl) (.inr rfl) (.inr rfl)
    | (first | exact mask_sub hk rfl | exact hk)
    | with_reducible (first | refine Kept_snd (by assumption) ?_ | refine Kept_fst (by assumption) ?_)
    | with_reducible exact Kept_of_next (by assumption)
    | with_reducible (refine Kept_of_O (by assumption) ?_)
    | with_reducible (first | refine Kept_regs (g := g) ?_ (by assumption) | refine Kept_ram (g := g) ?_ (by assumption) | refine Kept_mram (g := g) ?_ (by assumption) | refine Kept_flt (g := g) ?_ (by assumption) | refine Kept_var ?_ | refine Kept_ev ?_ (by assumption) | refine Kept_has ?_ | refine Kept_out ?_ | refine Kept_ctr ?_)
    | dsimp -zeta only
    | split)

theorem kept_updActivate {x0 x1} (h0 : Kept g x0) (hE : ∀ e, ¬ g.events e) (hk : 8589934060 &&& g.mask = 8589934060) : Kept g (State.updActivate x0 x1) := by
  unfold State.updActivate
  repeat' (first
    | with_reducible assumption
    | with_reducible refine fun _ => ?_
    | ((try lift_lets); intro s; refine (have hs : Kept g s := ?_; ?_); subst s; rotate_left; clear_value s; rotate_left)
    | ((try lift_lets); first | (intro (x : Mram); subst x) | (intro (x : Compositor); subst x) | (intro (x : Store 32); subst x) | (intro (x : Store 8); subst x) | (intro (x : State × _); subst x) | (intro (x : _ × State); subst x) | (intro (x : _ × _ × State); subst x) | (intro (x : State → _); subst x) | (intro (x : _ → State → _); subst x) | (intro (x : _ → State); subst x) | (intro x; clear_value x))
    | (simp only [↓Kept_mk_iff]; refine And.intro ?_ (And.intro ?_ (And.intro ?_ (And.intro ?_ (And.intro ?_ (And.intro ?_ (And.intro ?_ (And.intro ?_ (And.intro ?_ ?_)))))))))
    | with_reducible (first | apply kept_commitLines | apply kept_updShow | apply kept_updKind | apply kept_activateOne | apply kept_restartWarm | apply kept_commitSet | apply Kept_ite | apply Kept_foldl | apply filter_wf | apply evOk_filter)
    | with_reducible (first | exact Kept_regs (by assumption) (by assumption) | exact Kept_ram (by assumption) (by assumption) | exact Kept_mram (by assumption) (by assumption) | exact Kept_flt (by assumption) (by assumption) | exact Kept_var (by assumption) | exact Kept_ev (by assumption) (by assumption) | exact Kept_has (by assumption) | exact Kept_out (by assumption) | exact Kept_ctr (by assumption) | exact watchE_none (by assumption))
    | with_reducible refine Only_mk ?_ (.inr rfl) (.inr rfl) (.inr rfl) (.inr rfl) (.inr rfl) (.inr rfl) (.inr rfl) (.inr rfl) (.inr rfl) (.inr rfl) (.inr rfl) (.inr rfl) (.inr rfl) (.inr rfl) (.inr rfl) (.inr rfl) (.inr rfl) (.inr rfl) (.inr rfl) (.inr rfl) (.inr rfl) (.inr rfl) (.inl (mask_bit hk rfl)) (.inr rfl) (.inr rfl) (.inr rfl) (.inr rfl) (.inr rfl) (.inr rfl) (.inr rfl)
    | (first | exact mask_sub hk rfl | exact hk)
    | with_reducible (first | refine Kept_snd (by assumption) ?_ | refine Kept_fst (by assumption) ?_)
    | with_reducible exact Kept_of_next (by assumption)
    | with_reducible (refine Kept_of_O (by assumption) ?_)
    | with_reducible (first | refine Kept_regs (g := g) ?_ (by assumption) | refine Kept_ram (g := g) ?_ (by assumption) | refine Kept_mram (g := g) ?_ (by assumption) | refine Kept_flt (g := g) ?_ (by assumption) | refine Kept_var ?_ | refine Kept_ev ?_ (by assumption) | refine Kept_has ?_ | refine Kept_out ?_ | refine Kept_ctr ?_)
    | dsimp -zeta only
    | split)

theorem kept_activateGranted {x0} (h0 : Kept g x0) (hE : ∀ e, ¬ g.events e) (hk : 8589934060 &&& g.mask = 8589934060) : Kept g (State.activateGranted x0) := by
  unfold State.activateGranted
  repeat' (first | with_reducible assumption | exact mask_sub hk rfl | with_reducible (first | apply kept_updActivate | apply Kept_ite) | split | intro _)

theorem kept_activateNext {x0} (h0 : Kept g x0) (hk : 33556576 &&& g.mask = 33556576) : Kept g (State.activateNext x0) := by
  unfold State.activateNext
  repeat' (first
    | with_reducible assumption
    | with_reducible refine fun _ => ?_
    | ((try lift_lets); intro s; refine (have hs : Kept g s := ?_; ?_); subst s; rotate_left; clear_value s; rotate_left)
    | ((try lift_lets); first | (intro (x : Mram); subst x) | (intro (x : Compositor); subst x) | (intro (x : Store 32); subst x) | (intro (x : Store 8); subst x) | (intro (x : State × _); subst x) | (intro (x : _ × State); subst x) | (intro (x : _ × _ × State); subst x) | (intro (x : State → _); subst x) | (intro (x : _ → State → _); subst x) | (intro (x : _ → State); subst x) | (intro x; clear_value x))
    | (simp only [↓Kept_mk_iff]; refine And.intro ?_ (And.intro ?_ (And.intro ?_ (And.intro ?_ (And.intro ?_ (And.intro ?_ (And.intro ?_ (And.intro ?_ (And.intro ?_ ?_)))))))))
    | with_reducible (first | apply kept_updShow | apply kept_commitSet | apply kept_commitLines | apply kept_galClose | apply kept_raise | apply kept_setF | apply Kept_ite | apply filter_wf | apply evOk_filter)
    | with_reducible (first | exact Kept_regs (by assumption) (by assumption) | exact Kept_ram (by assumption) (by assumption) | exact Kept_mram (by assumption) (by assumption) | exact Kept_flt (by assumption) (by assumption) | exact Kept_var (by assumption) | exact Kept_ev (by assumption) (by assumption) | exact Kept_has (by assumption) | exact Kept_out (by assumption) | exact Kept_ctr (by assumption) | exact watchE_none (by assumption))
    | with_reducible refine Only_mk ?_ (.inr rfl) (.inr rfl) (.inr rfl) (.inr rfl) (.inr rfl) (.inr rfl) (.inr rfl) (.inr rfl) (.inr rfl) (.inr rfl) (.inr rfl) (.inr rfl) (.inr rfl) (.inr rfl) (.inr rfl) (.inr rfl) (.inr rfl) (.inr rfl) (.inr rfl) (.inr rfl) (.inr rfl) (.inr rfl) (.inl (mask_bit hk rfl)) (.inr rfl) (.inr rfl) (.inr rfl) (.inr rfl) (.inr rfl) (.inr rfl) (.inr rfl)
    | (first | exact mask_sub hk rfl | exact hk)
    | with_reducible (first | refine Kept_snd (by assumption) ?_ | refine Kept_fst (by assumption) ?_)
    | with_reducible exact Kept_of_next (by assumption)
    | with_reducible (refine Kept_of_O (by assumption) ?_)
    | with_reducible (first | refine Kept_regs (g := g) ?_ (by assumption) | refine Kept_ram (g := g) ?_ (by assumption) | refine Kept_mram (g := g) ?_ (by assumption) | refine Kept_flt (g := g) ?_ (by assumption) | refine Kept_var ?_ | refine Kept_ev ?_ (by assumption) | refine Kept_has ?_ | refine Kept_out ?_ | refine Kept_ctr ?_)
    | dsimp -zeta only
    | split)

theorem kept_wrapReg {x0 x1} (h0 : Kept g x0) : Kept g (State.wrapReg x0 x1) := by
  unfold State.wrapReg
  repeat' (first | with_reducible assumption | with_reducible (first | apply kept_setReg | apply Kept_ite) | split | intro _)

theorem kept_fwdTimed {x0 x1} (h0 : Kept g x0) : Kept g (State.fwdTimed x0 x1) := by
  unfold State.fwdTimed
  repeat' (first | with_reducible assumption | with_reducible (first | apply kept_occur | apply kept_raise | apply kept_countReg | apply Kept_ite) | split | intro _)

theorem kept_plnkLine {x0} (h0 : Kept g x0) (hk : 536870912 &&& g.mask = 536870912) : Kept g (State.plnkLine x0) := by
  unfold State.plnkLine
  repeat' (first
    | with_reducible assumption
    | with_reducible refine fun _ => ?_
    | ((try lift_lets); intro s; refine (have hs : Kept g s := ?_; ?_); subst s; rotate_left; clear_value s; rotate_left)
    | ((try lift_lets); first | (intro (x : Mram); subst x) | (intro (x : Compositor); subst x) | (intro (x : Store 32); subst x) | (intro (x : Store 8); subst x) | (intro (x : State × _); subst x) | (intro (x : _ × State); subst x) | (intro (x : _ × _ × State); subst x) | (intro (x : State → _); subst x) | (intro (x : _ → State → _); subst x) | (intro (x : _ → State); subst x) | (intro x; clear_value x))
    | (simp only [↓Kept_mk_iff]; refine And.intro ?_ (And.intro ?_ (And.intro ?_ (And.intro ?_ (And.intro ?_ (And.intro ?_ (And.intro ?_ (And.intro ?_ (And.intro ?_ ?_)))))))))
    | with_reducible (first | apply kept_emit | apply kept_countReg | apply kept_fwdTimed | apply Kept_ite)
    | with_reducible (first | exact Kept_regs (by assumption) (by assumption) | exact Kept_ram (by assumption) (by assumption) | exact Kept_mram (by assumption) (by assumption) | exact Kept_flt (by assumption) (by assumption) | exact Kept_var (by assumption) | exact Kept_ev (by assumption) (by assumption) | exact Kept_has (by assumption) | exact Kept_out (by assumption) | exact Kept_ctr (by assumption) | exact watchE_none (by assumption))
    | with_reducible refine Only_mk ?_ (.inr rfl) (.inr rfl) (.inr rfl) (.inr rfl) (.inr rfl) (.inr rfl) (.inr rfl) (.inr rfl) (.inr rfl) (.inr rfl) (.inr rfl) (.inr rfl) (.inr rfl) (.inr rfl) (.inr rfl) (.inr rfl) (.inr rfl) (.inr rfl) (.inr rfl) (.inr rfl) (.inr rfl) (.inr rfl) (.inr rfl) (.inr rfl) (.inr rfl) (.inr rfl) (.inl (mask_bit hk rfl)) (.inr rfl) (.inr rfl) (.inr rfl)
    | (first | exact mask_sub hk rfl | exact hk)
    | with_reducible (first | refine Kept_snd (by assumption) ?_ | refine Kept_fst (by assumption) ?_)
    | with_reducible exact Kept_of_next (by assumption)
    | with_reducible (refine Kept_of_O (by assumption) ?_)
    | with_reducible (first | refine Kept_regs (g := g) ?_ (by assumption) | refine Kept_ram (g := g) ?_ (by assumption) | refine Kept_mram (g := g) ?_ (by assumption) | refine Kept_flt (g := g) ?_ (by assumption) | refine Kept_var ?_ | refine Kept_ev ?_ (by assumption) | refine Kept_has ?_ | refine Kept_out ?_ | refine Kept_ctr ?_)
    | dsimp -zeta only
    | split)

theorem kept_plnkQueue {x0 x1} (h0 : Kept g x0) (hk : 536870912 &&& g.mask = 536870912) : Kept g (State.plnkQueue x0 x1) := by
  unfold State.plnkQueue
  repeat' (first
    | with_reducible assumption
    | with_reducible refine fun _ => ?_
    | ((try lift_lets); intro s; refine (have hs : Kept g s := ?_; ?_); subst s; rotate_left; clear_value s; rotate_left)
    | ((try lift_lets); first | (intro (x : Mram); subst x) | (intro (x : Compositor); subst x) | (intro (x : Store 32); subst x) | (intro (x : Store 8); subst x) | (intro (x : State × _); subst x) | (intro (x : _ × State); subst x) | (intro (x : _ × _ × State); subst x) | (intro (x : State → _); subst x) | (intro (x : _ → State → _); subst x) | (intro (x : _ → State); subst x) | (intro x; clear_value x))
    | (simp only [↓Kept_mk_iff]; refine And.intro ?_ (And.intro ?_ (And.intro ?_ (And.intro ?_ (And.intro ?_ (And.intro ?_ (And.intro ?_ (And.intro ?_ (And.intro ?_ ?_)))))))))
    | with_reducible (first | apply kept_plnkLine | apply Kept_ite)
    | with_reducible (first | exact Kept_regs (by assumption) (by assumption) | exact Kept_ram (by assumption) (by assumption) | exact Kept_mram (by assumption) (by assumption) | exact Kept_flt (by assumption) (by assumption) | exact Kept_var (by assumption) | exact Kept_ev (by assumption) (by assumption) | exact Kept_has (by assumption) | exact Kept_out (by assumption) | exact Kept_ctr (by assumption) | exact watchE_none (by assumption))
    | with_reducible refine Only_mk ?_ (.inr rfl) (.inr rfl) (.inr rfl) (.inr rfl) (.inr rfl) (.inr rfl) (.inr rfl) (.inr rfl) (.inr rfl) (.inr rfl) (.inr rfl) (.inr rfl) (.inr rfl) (.inr rfl) (.inr rfl) (.inr rfl) (.inr rfl) (.inr rfl) (.inr rfl) (.inr rfl) (.inr rfl) (.inr rfl) (.inr rfl) (.inr rfl) (.inr rfl) (.inr rfl) (.inl (mask_bit hk rfl)) (.inr rfl) (.inr rfl) (.inr rfl)
    | (first | exact mask_sub hk rfl | exact hk)
    | with_reducible (first | refine Kept_snd (by assumption) ?_ | refine Kept_fst (by assumption) ?_)
    | with_reducible exact Kept_of_next (by assumption)
    | with_reducible (refine Kept_of_O (by assumption) ?_)
    | with_reducible (first | refine Kept_regs (g := g) ?_ (by assumption) | refine Kept_ram (g := g) ?_ (by assumption) | refine Kept_mram (g := g) ?_ (by assumption) | refine Kept_flt (g := g) ?_ (by assumption) | refine Kept_var ?_ | refine Kept_ev ?_ (by assumption) | refine Kept_has ?_ | refine Kept_out ?_ | refine Kept_ctr ?_)
    | dsimp -zeta only
    | split)

theorem kept_plnkOut {x0 x1 x2} (h0 : Kept g x0) (hk : 536870912 &&& g.mask = 536870912) : Kept g (State.plnkOut x0 x1 x2) := by
  unfold State.plnkOut
  repeat' (first
    | with_reducible assumption
    | with_reducible refine fun _ => ?_
    | ((try lift_lets); intro s; refine (have hs : Kept g s := ?_; ?_); subst s; rotate_left; clear_value s; rotate_left)
    | ((try lift_lets); first | (intro (x : Mram); subst x) | (intro (x : Compositor); subst x) | (intro (x : Store 32); subst x) | (intro (x : Store 8); subst x) | (intro (x : State × _); subst x) | (intro (x : _ × State); subst x) | (intro (x : _ × _ × State); subst x) | (intro (x : State → _); subst x) | (intro (x : _ → State → _); subst x) | (intro (x : _ → State); subst x) | (intro x; clear_value x))
    | (simp only [↓Kept_mk_iff]; refine And.intro ?_ (And.intro ?_ (And.intro ?_ (And.intro ?_ (And.intro ?_ (And.intro ?_ (And.intro ?_ (And.intro ?_ (And.intro ?_ ?_)))))))))
    | with_reducible (first | apply kept_plnkQueue | apply Kept_ite | apply Kept_foldl)
    | with_reducible (first | exact Kept_regs (by assumption) (by assumption) | exact Kept_ram (by assumption) (by assumption) | exact Kept_mram (by assumption) (by assumption) | exact Kept_flt (by assumption) (by assumption) | exact Kept_var (by assumption) | exact Kept_ev (by assumption) (by assumption) | exact Kept_has (by assumption) | exact Kept_out (by assumption) | exact Kept_ctr (by assumption) | exact watchE_none (by assumption))
    | with_reducible refine Only_mk ?_ (.inr rfl) (.inr rfl) (.inr rfl) (.inr rfl) (.inr rfl) (.inr rfl) (.inr rfl) (.inr rfl) (.inr rfl) (.inr rfl) (.inr rfl) (.inr rfl) (.inr rfl) (.inr rfl) (.inr rfl) (.inr rfl) (.inr rfl) (.inr rfl) (.inr rfl) (.inr rfl) (.inr rfl) (.inr rfl) (.inr rfl) (.inr rfl) (.inr rfl) (.inr rfl) (.inr rfl) (.inr rfl) (.inr rfl) (.inr rfl)
    | (first | exact mask_sub hk rfl | exact hk)
    | with_reducible (first | refine Kept_snd (by assumption) ?_ | refine Kept_fst (by assumption) ?_)
    | with_reducible exact Kept_of_next (by assumption)
    | with_reducible (refine Kept_of_O (by assumption) ?_)
    | with_reducible (first | refine Kept_regs (g := g) ?_ (by assumption) | refine Kept_ram (g := g) ?_ (by assumption) | refine Kept_mram (g := g) ?_ (by assumption) | refine Kept_flt (g := g) ?_ (by assumption) | refine Kept_var ?_ | refine Kept_ev ?_ (by assumption) | refine Kept_has ?_ | refine Kept_out ?_ | refine Kept_ctr ?_)
    | dsimp -zeta only
    | split)

theorem kept_sendRenew {x0} (h0 : Kept g x0) (hk : 65536 &&& g.mask = 65536) : Kept g (State.sendRenew x0) := by
  unfold State.sendRenew
  repeat' (first | with_reducible assumption | exact mask_sub hk rfl | with_reducible (first | apply kept_driveMsg | apply Kept_ite) | split | intro _)

theorem kept_removeDrive {x0 x1} (h0 : Kept g x0) (hk : 68116544 &&& g.mask = 68116544) : Kept g (State.removeDrive x0 x1) := by
  unfold State.removeDrive
  repeat' (first
    | with_reducible assumption
    | with_reducible refine fun _ => ?_
    | ((try lift_lets); intro s; refine (have hs : Kept g s := ?_; ?_); subst s; rotate_left; clear_value s; rotate_left)
    | ((try lift_lets); first | (intro (x : Mram); subst x) | (intro (x : Compositor); subst x) | (intro (x : Store 32); subst x) | (intro (x : Store 8); subst x) | (intro (x : State × _); subst x) | (intro (x : _ × State); subst x) | (intro (x : _ × _ × State); subst x) | (intro (x : State → _); subst x) | (intro (x : _ → State → _); subst x) | (intro (x : _ → State); subst x) | (intro x; clear_value x))
    | (simp only [↓Kept_mk_iff]; refine And.intro ?_ (And.intro ?_ (And.intro ?_ (And.intro ?_ (And.intro ?_ (And.intro ?_ (And.intro ?_ (And.intro ?_ (And.intro ?_ ?_)))))))))
    | with_reducible (first | apply kept_pullEn | apply kept_emit | apply kept_setF | apply kept_asyAbort | apply kept_pwmRefresh | apply kept_sendRenew | apply Kept_ite)
    | with_reducible (first | exact Kept_regs (by assumption) (by assumption) | exact Kept_ram (by assumption) (by assumption) | exact Kept_mram (by assumption) (by assumption) | exact Kept_flt (by assumption) (by assumption) | exact Kept_var (by assumption) | exact Kept_ev (by assumption) (by assumption) | exact Kept_has (by assumption) | exact Kept_out (by assumption) | exact Kept_ctr (by assumption) | exact watchE_none (by assumption))
    | with_reducible refine Only_mk ?_ (.inr rfl) (.inr rfl) (.inr rfl) (.inr rfl) (.inr rfl) (.inr rfl) (.inr rfl) (.inr rfl) (.inr rfl) (.inr rfl) (.inr rfl) (.inr rfl) (.inr rfl) (.inl (mask_bit hk rfl)) (.inl (mask_bit hk rfl)) (.inr rfl) (.inr rfl) (.inr rfl) (.inr rfl) (.inr rfl) (.inr rfl) (.inr rfl) (.inr rfl) (.inr rfl) (.inr rfl) (.inr rfl) (.inr rfl) (.inr rfl) (.inr rfl) (.inr rfl)
    | (first | exact mask_sub hk rfl | exact hk)
    | with_reducible (first | refine Kept_snd (by assumption) ?_ | refine Kept_fst (by assumption) ?_)
    | with_reducible exact Kept_of_next (by assumption)
    | with_reducible (refine Kept_of_O (by assumption) ?_)
    | with_reducible (first | refine Kept_regs (g := g) ?_ (by assumption) | refine Kept_ram (g := g) ?_ (by assumption) | refine Kept_mram (g := g) ?_ (by assumption) | refine Kept_flt (g := g) ?_ (by assumption) | refine Kept_var ?_ | refine Kept_ev ?_ (by assumption) | refine Kept_has ?_ | refine Kept_out ?_ | refine Kept_ctr ?_)
    | dsimp -zeta only
    | split)

theorem kept_noRampPath {x0} (h0 : Kept g x0) (hk : 68116544 &&& g.mask = 68116544) : Kept g (State.noRampPath x0) := by
  unfold State.noRampPath
  repeat' (first | with_reducible assumption | exact mask_sub hk rfl | with_reducible (first | apply kept_raise | apply kept_setB | apply kept_removeDrive | apply kept_setF | apply Kept_ite) | split | intro _)

theorem kept_keep {x0 x1} (h0 : Kept g x0) (hk : 4096 &&& g.mask = 4096) : Kept g (State.keep x0 x1) := by
  unfold State.keep
  repeat' (first
    | with_reducible assumption
    | with_reducible refine fun _ => ?_
    | ((try lift_lets); intro s; refine (have hs : Kept g s := ?_; ?_); subst s; rotate_left; clear_value s; rotate_left)
    | ((try lift_lets); first | (intro (x : Mram); subst x) | (intro (x : Compositor); subst x) | (intro (x : Store 32); subst x) | (intro (x : Store 8); subst x) | (intro (x : State × _); subst x) | (intro (x : _ × State); subst x) | (intro (x : _ × _ × State); subst x) | (intro (x : State → _); subst x) | (intro (x : _ → State → _); subst x) | (intro (x : _ → State); subst x) | (intro x; clear_value x))
    | (simp only [↓Kept_mk_iff]; refine And.intro ?_ (And.intro ?_ (And.intro ?_ (And.intro ?_ (And.intro ?_ (And.intro ?_ (And.intro ?_ (And.intro ?_ (And.intro ?_ ?_)))))))))
    | with_reducible (first | apply Kept_ite)
    | with_reducible (first | exact Kept_regs (by assumption) (by assumption) | exact Kept_ram (by assumption) (by assumption) | exact Kept_mram (by assumption) (by assumption) | exact Kept_flt (by assumption) (by assumption) | exact Kept_var (by assumption) | exact Kept_ev (by assumption) (by assumption) | exact Kept_has (by assumption) | exact Kept_out (by assumption) | exact Kept_ctr (by assumption) | exact watchE_none (by assumption))
    | with_reducible refine Only_mk ?_ (.inr rfl) (.inr rfl) (.inr rfl) (.inr rfl) (.inr rfl) (.inr rfl) (.inr rfl) (.inr rfl) (.inr rfl) (.inl (mask_bit hk rfl)) (.inr rfl) (.inr rfl) (.inr rfl) (.inr rfl) (.inr rfl) (.inr rfl) (.inr rfl) (.inr rfl) (.inr rfl) (.inr rfl) (.inr rfl) (.inr rfl) (.inr rfl) (.inr rfl) (.inr rfl) (.inr rfl) (.inr rfl) (.inr rfl) (.inr rfl) (.inr rfl)
    | (first | exact mask_sub hk rfl | exact hk)
    | with_reducible (first | refine Kept_snd (by assumption) ?_ | refine Kept_fst (by assumption) ?_)
    | with_reducible exact Kept_of_next (by assumption)
    | with_reducible (refine Kept_of_O (by assumption) ?_)
    | with_reducible (first | refine Kept_regs (g := g) ?_ (by assumption) | refine Kept_ram (g := g) ?_ (by assumption) | refine Kept_mram (g := g) ?_ (by assumption) | refine Kept_flt (g := g) ?_ (by assumption) | refine Kept_var ?_ | refine Kept_ev ?_ (by assumption) | refine Kept_has ?_ | refine Kept_out ?_ | refine Kept_ctr ?_)
    | dsimp -zeta only
    | split)

theorem kept_countUp {x0 x1} (h0 : Kept g x0) : Kept g (State.countUp x0 x1) := by
  unfold State.countUp
  repeat' (first | with_reducible assumption | with_reducible (first | apply kept_setReg | apply Kept_ite) | split | intro _)

theorem kept_countRegM {x0 x1} (h0 : Kept g x0) (hk : 64 &&& g.mask = 64) : Kept g (State.countRegM x0 x1) := by
  unfold State.countRegM
  repeat' (first | with_reducible assumption | exact mask_sub hk rfl | with_reducible (first | apply kept_toMram | apply kept_countUp | apply Kept_ite) | split | intro _)

theorem kept_ethOut {x0 x1 x2 x3 x4} (h0 : Kept g x0) : Kept g (State.ethOut x0 x1 x2 x3 x4) := by
  unfold State.ethOut
  repeat' (first | with_reducible assumption | with_reducible (first | apply kept_emit | apply kept_countReg | apply Kept_ite) | split | intro _)

theorem kept_annEth {x0 x1 x2 x3} (h0 : Kept g x0) (hk : 536870912 &&& g.mask = 536870912) : Kept g (State.annEth x0 x1 x2 x3) := by
  unfold State.annEth
  repeat' (first
    | with_reducible assumption
    | with_reducible refine fun _ => ?_
    | ((try lift_lets); intro s; refine (have hs : Kept g s := ?_; ?_); subst s; rotate_left; clear_value s; rotate_left)
    | ((try lift_lets); first | (intro (x : Mram); subst x) | (intro (x : Compositor); subst x) | (intro (x : Store 32); subst x) | (intro (x : Store 8); subst x) | (intro (x : State × _); subst x) | (intro (x : _ × State); subst x) | (intro (x : _ × _ × State); subst x) | (intro (x : State → _); subst x) | (intro (x : _ → State → _); subst x) | (intro (x : _ → State); subst x) | (intro x; clear_value x))
    | (simp only [↓Kept_mk_iff]; refine And.intro ?_ (And.intro ?_ (And.intro ?_ (And.intro ?_ (And.intro ?_ (And.intro ?_ (And.intro ?_ (And.intro ?_ (And.intro ?_ ?_)))))))))
    | with_reducible (first | apply kept_ethOut | apply Kept_ite | apply Kept_foldl | apply filter_wf | apply evOk_filter)
    | with_reducible (first | exact Kept_regs (by assumption) (by assumption) | exact Kept_ram (by assumption) (by assumption) | exact Kept_mram (by assumption) (by assumption) | exact Kept_flt (by assumption) (by assumption) | exact Kept_var (by assumption) | exact Kept_ev (by assumption) (by assumption) | exact Kept_has (by assumption) | exact Kept_out (by assumption) | exact Kept_ctr (by assumption) | exact watchE_none (by assumption))
    | with_reducible refine Only_mk ?_ (.inr rfl) (.inr rfl) (.inr rfl) (.inr rfl) (.inr rfl) (.inr rfl) (.inr rfl) (.inr rfl) (.inr rfl) (.inr rfl) (.inr rfl) (.inr rfl) (.inr rfl) (.inr rfl) (.inr rfl) (.inr rfl) (.inr rfl) (.inr rfl) (.inr rfl) (.inr rfl) (.inr rfl) (.inr rfl) (.inr rfl) (.inr rfl) (.inr rfl) (.inr rfl) (.inl (mask_bit hk rfl)) (.inr rfl) (.inr rfl) (.inr rfl)
    | (first | exact mask_sub hk rfl | exact hk)
    | with_reducible (first | refine Kept_snd (by assumption) ?_ | refine Kept_fst (by assumption) ?_)
    | with_reducible exact Kept_of_next (by assumption)
    | with_reducible (refine Kept_of_O (by assumption) ?_)
    | with_reducible (first | refine Kept_regs (g := g) ?_ (by assumption) | refine Kept_ram (g := g) ?_ (by assumption) | refine Kept_mram (g := g) ?_ (by assumption) | refine Kept_flt (g := g) ?_ (by assumption) | refine Kept_var ?_ | refine Kept_ev ?_ (by assumption) | refine Kept_has ?_ | refine Kept_out ?_ | refine Kept_ctr ?_)
    | dsimp -zeta only
    | split)

theorem kept_txPut {x0 x1 x2 x3 x4 x5} (h0 : Kept g x0) : Kept g (State.txPut x0 x1 x2 x3 x4 x5) := by
  unfold State.txPut
  repeat' (first
    | with_reducible assumption
    | with_reducible refine fun _ => ?_
    | ((try lift_lets); intro s; refine (have hs : Kept g s := ?_; ?_); subst s; rotate_left; clear_value s; rotate_left)
    | ((try lift_lets); first | (intro (x : Mram); subst x) | (intro (x : Compositor); subst x) | (intro (x : Store 32); subst x) | (intro (x : Store 8); subst x) | (intro (x : State × _); subst x) | (intro (x : _ × State); subst x) | (intro (x : _ × _ × State); subst x) | (intro (x : State → _); subst x) | (intro (x : _ → State → _); subst x) | (intro (x : _ → State); subst x) | (intro x; clear_value x))
    | (simp only [↓Kept_mk_iff]; refine And.intro ?_ (And.intro ?_ (And.intro ?_ (And.intro ?_ (And.intro ?_ (And.intro ?_ (And.intro ?_ (And.intro ?_ (And.intro ?_ ?_)))))))))
    | with_reducible (first | apply kept_setReg | apply Kept_ite | apply Kept_foldl)
    | with_reducible (first | exact Kept_regs (by assumption) (by assumption) | exact Kept_ram (by assumption) (by assumption) | exact Kept_mram (by assumption) (by assumption) | exact Kept_flt (by assumption) (by assumption) | exact Kept_var (by assumption) | exact Kept_ev (by assumption) (by assumption) | exact Kept_has (by assumption) | exact Kept_out (by assumption) | exact Kept_ctr (by assumption) | exact watchE_none (by assumption))
    | (first | rfl)
    | with_reducible (first | refine Kept_snd (by assumption) ?_ | refine Kept_fst (by assumption) ?_)
    | with_reducible exact Kept_of_next (by assumption)
    | with_reducible (refine Kept_of_O (by assumption) ?_)
    | with_reducible (first | refine Kept_regs (g := g) ?_ (by assumption) | refine Kept_ram (g := g) ?_ (by assumption) | refine Kept_mram (g := g) ?_ (by assumption) | refine Kept_flt (g := g) ?_ (by assumption) | refine Kept_var ?_ | refine Kept_ev ?_ (by assumption) | refine Kept_has ?_ | refine Kept_out ?_ | refine Kept_ctr ?_)
    | dsimp -zeta only
    | split)

theorem kept_setCan {x0 x1 x2} (h0 : Kept g x0) (hk : 134217728 &&& g.mask = 134217728) : Kept g (State.setCan x0 x1 x2) := by
  unfold State.setCan
  repeat' (first
    | with_reducible assumption
    | with_reducible refine fun _ => ?_
    | ((try lift_lets); intro s; refine (have hs : Kept g s := ?_; ?_); subst s; rotate_left; clear_value s; rotate_left)
    | ((try lift_lets); first | (intro (x : Mram); subst x) | (intro (x : Compositor); subst x) | (intro (x : Store 32); subst x) | (intro (x : Store 8); subst x) | (intro (x : State × _); subst x) | (intro (x : _ × State); subst x) | (intro (x : _ × _ × State); subst x) | (intro (x : State → _); subst x) | (intro (x : _ → State → _); subst x) | (intro (x : _ → State); subst x) | (intro x; clear_value x))
    | (simp only [↓Kept_mk_iff]; refine And.intro ?_ (And.intro ?_ (And.intro ?_ (And.intro ?_ (And.intro ?_ (And.intro ?_ (And.intro ?_ (And.intro ?_ (And.intro ?_ ?_)))))))))
    | with_reducible (first | apply Kept_ite)
    | with_reducible (first | exact Kept_regs (by assumption) (by assumption) | exact Kept_ram (by assumption) (by assumption) | exact Kept_mram (by assumption) (by assumption) | exact Kept_flt (by assumption) (by assumption) | exact Kept_var (by assumption) | exact Kept_ev (by assumption) (by assumption) | exact Kept_has (by assumption) | exact Kept_out (by assumption) | exact Kept_ctr (by assumption) | exact watchE_none (by assumption))
    | with_reducible refine Only_mk ?_ (.inr rfl) (.inr rfl) (.inr rfl) (.inr rfl) (.inr rfl) (.inr rfl) (.inr rfl) (.inr rfl) (.inr rfl) (.inr rfl) (.inr rfl) (.inr rfl) (.inr rfl) (.inr rfl) (.inr rfl) (.inr rfl) (.inr rfl) (.inr rfl) (.inr rfl) (.inr rfl) (.inr rfl) (.inr rfl) (.inr rfl) (.inr rfl) (.inl (mask_bit hk rfl)) (.inr rfl) (.inr rfl) (.inr rfl) (.inr rfl) (.inr rfl)
    | (first | exact mask_sub hk rfl | exact hk)
    | with_reducible (first | refine Kept_snd (by assumption) ?_ | refine Kept_fst (by assumption) ?_)
    | with_reducible exact Kept_of_next (by assumption)
    | with_reducible (refine Kept_of_O (by assumption) ?_)
    | with_reducible (first | refine Kept_regs (g := g) ?_ (by assumption) | refine Kept_ram (g := g) ?_ (by assumption) | refine Kept_mram (g := g) ?_ (by assumption) | refine Kept_flt (g := g) ?_ (by assumption) | refine Kept_var ?_ | refine Kept_ev ?_ (by assumption) | refine Kept_has ?_ | refine Kept_out ?_ | refine Kept_ctr ?_)
    | dsimp -zeta only
    | split)

theorem kept_txRequest {x0 x1 x2} (h0 : Kept g x0) (hk : 134217728 &&& g.mask = 134217728) : Kept g (State.txRequest x0 x1 x2) := by
  unfold State.txRequest
  repeat' (first | with_reducible assumption | exact mask_sub hk rfl | with_reducible (first | apply kept_setB | apply kept_setCan | apply Kept_ite) | split | intro _)

theorem kept_moduleTx {x0 x1 x2 x3 x4 x5} (h0 : Kept g x0) (hk : 134217728 &&& g.mask = 134217728) : Kept g (State.moduleTx x0 x1 x2 x3 x4 x5) := by
  unfold State.moduleTx
  repeat' (first | with_reducible assumption | exact mask_sub hk rfl | with_reducible (first | apply kept_txPut | apply kept_txRequest | apply Kept_ite) | split | intro _)

theorem kept_functionTx {x0 x1 x2 x3 x4} (h0 : Kept g x0) (hk : 134217728 &&& g.mask = 134217728) : Kept g (State.functionTx x0 x1 x2 x3 x4) := by
  unfold State.functionTx
  repeat' (first | with_reducible assumption | exact mask_sub hk rfl | with_reducible (first | apply kept_moduleTx | apply Kept_ite) | split | intro _)

theorem kept_annCan {x0 x1 x2} (h0 : Kept g x0) (hk : 134217728 &&& g.mask = 134217728) : Kept g (State.annCan x0 x1 x2) := by
  unfold State.annCan
  repeat' (first | with_reducible assumption | exact mask_sub hk rfl | with_reducible (first | apply kept_functionTx | apply kept_setCan | apply Kept_ite) | split | intro _)

theorem kept_annSend {x0 x1 x2 x3} (h0 : Kept g x0) (hk : 671088640 &&& g.mask = 671088640) : Kept g (State.annSend x0 x1 x2 x3) := by
  unfold State.annSend
  repeat' (first | with_reducible assumption | exact mask_sub hk rfl | with_reducible (first | apply kept_annEth | apply kept_annCan | apply Kept_ite) | split | intro _)

theorem kept_fresh {x0} (h0 : Kept g x0) : Kept g (State.fresh x0) := by
  unfold State.fresh
  repeat' (first
    | with_reducible assumption
    | with_reducible refine fun _ => ?_
    | ((try lift_lets); intro s; refine (have hs : Kept g s := ?_; ?_); subst s; rotate_left; clear_value s; rotate_left)
    | ((try lift_lets); first | (intro (x : Mram); subst x) | (intro (x : Compositor); subst x) | (intro (x : Store 32); subst x) | (intro (x : Store 8); subst x) | (intro (x : State × _); subst x) | (intro (x : _ × State); subst x) | (intro (x : _ × _ × State); subst x) | (intro (x : State → _); subst x) | (intro (x : _ → State → _); subst x) | (intro (x : _ → State); subst x) | (intro x; clear_value x))
    | (simp only [↓Kept_mk_iff]; refine And.intro ?_ (And.intro ?_ (And.intro ?_ (And.intro ?_ (And.intro ?_ (And.intro ?_ (And.intro ?_ (And.intro ?_ (And.intro ?_ ?_)))))))))
    | with_reducible (first | apply Kept_ite | apply watchM_cons | apply ctr_add)
    | with_reducible (first | exact Kept_regs (by assumption) (by assumption) | exact Kept_ram (by assumption) (by assumption) | exact Kept_mram (by assumption) (by assumption) | exact Kept_flt (by assumption) (by assumption) | exact Kept_var (by assumption) | exact Kept_ev (by assumption) (by assumption) | exact Kept_has (by assumption) | exact Kept_out (by assumption) | exact Kept_ctr (by assumption) | exact watchE_none (by assumption))
    | with_reducible refine Only_mk ?_ (.inr rfl) (.inr rfl) (.inr rfl) (.inr rfl) (.inr rfl) (.inr rfl) (.inr rfl) (.inr rfl) (.inr rfl) (.inr rfl) (.inr rfl) (.inr rfl) (.inr rfl) (.inr rfl) (.inr rfl) (.inr rfl) (.inr rfl) (.inr rfl) (.inr rfl) (.inr rfl) (.inr rfl) (.inr rfl) (.inr rfl) (.inr rfl) (.inr rfl) (.inr rfl) (.inr rfl) (.inr rfl) (.inr rfl) (.inr rfl)
    | (first | rfl)
    | with_reducible (first | refine Kept_snd (by assumption) ?_ | refine Kept_fst (by assumption) ?_)
    | with_reducible exact Kept_of_next (by assumption)
    | with_reducible (refine Kept_of_O (by assumption) ?_)
    | with_reducible (first | refine Kept_regs (g := g) ?_ (by assumption) | refine Kept_ram (g := g) ?_ (by assumption) | refine Kept_mram (g := g) ?_ (by assumption) | refine Kept_flt (g := g) ?_ (by assumption) | refine Kept_var ?_ | refine Kept_ev ?_ (by assumption) | refine Kept_has ?_ | refine Kept_out ?_ | refine Kept_ctr ?_)
    | dsimp -zeta only
    | split)

theorem kept_announce {x0 x1 x2 x3} (h0 : Kept g x0) (hk : 671088640 &&& g.mask = 671088640) : Kept g (State.announce x0 x1 x2 x3) := by
  unfold State.announce
  repeat' (first
    | with_reducible assumption
    | with_reducible refine fun _ => ?_
    | ((try lift_lets); intro s; refine (have hs : Kept g s := ?_; ?_); subst s; rotate_left; clear_value s; rotate_left)
    | ((try lift_lets); first | (intro (x : Mram); subst x) | (intro (x : Compositor); subst x) | (intro (x : Store 32); subst x) | (intro (x : Store 8); subst x) | (intro (x : State × _); subst x) | (intro (x : _ × State); subst x) | (intro (x : _ × _ × State); subst x) | (intro (x : State → _); subst x) | (intro (x : _ → State → _); subst x) | (intro (x : _ → State); subst x) | (intro x; clear_value x))
    | (simp only [↓Kept_mk_iff]; refine And.intro ?_ (And.intro ?_ (And.intro ?_ (And.intro ?_ (And.intro ?_ (And.intro ?_ (And.intro ?_ (And.intro ?_ (And.intro ?_ ?_)))))))))
    | with_reducible (first | apply kept_annSend | apply kept_fresh | apply Kept_ite)
    | with_reducible (first | exact Kept_regs (by assumption) (by assumption) | exact Kept_ram (by assumption) (by assumption) | exact Kept_mram (by assumption) (by assumption) | exact Kept_flt (by assumption) (by assumption) | exact Kept_var (by assumption) | exact Kept_ev (by assumption) (by assumption) | exact Kept_has (by assumption) | exact Kept_out (by assumption) | exact Kept_ctr (by assumption) | exact watchE_none (by assumption))
    | with_reducible refine Only_mk ?_ (.inr rfl) (.inr rfl) (.inr rfl) (.inr rfl) (.inr rfl) (.inr rfl) (.inr rfl) (.inr rfl) (.inr rfl) (.inr rfl) (.inr rfl) (.inr rfl) (.inr rfl) (.inr rfl) (.inr rfl) (.inr rfl) (.inr rfl) (.inr rfl) (.inr rfl) (.inr rfl) (.inr rfl) (.inr rfl) (.inr rfl) (.inr rfl) (.inr rfl) (.inr rfl) (.inr rfl) (.inr rfl) (.inr rfl) (.inr rfl)
    | (first | exact mask_sub hk rfl | exact hk)
    | with_reducible (first | refine Kept_snd (by assumption) ?_ | refine Kept_fst (by assumption) ?_)
    | with_reducible exact Kept_of_next (by assumption)
    | with_reducible (refine Kept_of_O (by assumption) ?_)
    | with_reducible (first | refine Kept_regs (g := g) ?_ (by assumption) | refine Kept_ram (g := g) ?_ (by assumption) | refine Kept_mram (g := g) ?_ (by assumption) | refine Kept_flt (g := g) ?_ (by assumption) | refine Kept_var ?_ | refine Kept_ev ?_ (by assumption) | refine Kept_has ?_ | refine Kept_out ?_ | refine Kept_ctr ?_)
    | dsimp -zeta only
    | split)

theorem kept_countF {x0 x1} (h0 : Kept g x0) : Kept g (State.countF x0 x1) := by
  unfold State.countF
  repeat' (first | with_reducible assumption | with_reducible (first | apply kept_setF | apply Kept_ite) | split | intro _)

theorem kept_setStopLatch {x0 x1} (h0 : Kept g x0) (hk : 671088704 &&& g.mask = 671088704) : Kept g (State.setStopLatch x0 x1) := by
  unfold State.setStopLatch
  repeat' (first | with_reducible assumption | exact mask_sub hk rfl | with_reducible (first | apply kept_setF | apply kept_toMram | apply kept_countF | apply kept_raise | apply kept_setB | apply kept_announce | apply Kept_ite) | split | intro _)

theorem kept_fsDone {x0} (h0 : Kept g x0) (hk : 671109184 &&& g.mask = 671109184) : Kept g (State.fsDone x0) := by
  unfold State.fsDone
  repeat' (first
    | with_reducible assumption
    | with_reducible refine fun _ => ?_
    | ((try lift_lets); intro s; refine (have hs : Kept g s := ?_; ?_); subst s; rotate_left; clear_value s; rotate_left)
    | ((try lift_lets); first | (intro (x : Mram); subst x) | (intro (x : Compositor); subst x) | (intro (x : Store 32); subst x) | (intro (x : Store 8); subst x) | (intro (x : State × _); subst x) | (intro (x : _ × State); subst x) | (intro (x : _ × _ × State); subst x) | (intro (x : State → _); subst x) | (intro (x : _ → State → _); subst x) | (intro (x : _ → State); subst x) | (intro x; clear_value x))
    | (simp only [↓Kept_mk_iff]; refine And.intro ?_ (And.intro ?_ (And.intro ?_ (And.intro ?_ (And.intro ?_ (And.intro ?_ (And.intro ?_ (And.intro ?_ (And.intro ?_ ?_)))))))))
    | with_reducible (first | apply kept_setReg | apply kept_setF | apply kept_setB | apply kept_setMode | apply kept_setStopLatch | apply kept_wrapReg | apply kept_dropCause | apply kept_announce | apply kept_raise | apply Kept_ite)
    | with_reducible (first | exact Kept_regs (by assumption) (by assumption) | exact Kept_ram (by assumption) (by assumption) | exact Kept_mram (by assumption) (by assumption) | exact Kept_flt (by assumption) (by assumption) | exact Kept_var (by assumption) | exact Kept_ev (by assumption) (by assumption) | exact Kept_has (by assumption) | exact Kept_out (by assumption) | exact Kept_ctr (by assumption) | exact watchE_none (by assumption))
    | with_reducible refine Only_mk ?_ (.inr rfl) (.inr rfl) (.inr rfl) (.inr rfl) (.inr rfl) (.inr rfl) (.inr rfl) (.inr rfl) (.inr rfl) (.inl (mask_bit hk rfl)) (.inr rfl) (.inr rfl) (.inr rfl) (.inr rfl) (.inr rfl) (.inr rfl) (.inr rfl) (.inr rfl) (.inr rfl) (.inr rfl) (.inr rfl) (.inr rfl) (.inr rfl) (.inr rfl) (.inr rfl) (.inr rfl) (.inr rfl) (.inr rfl) (.inr rfl) (.inr rfl)
    | (first | exact mask_sub hk rfl | exact hk)
    | with_reducible (first | refine Kept_snd (by assumption) ?_ | refine Kept_fst (by assumption) ?_)
    | with_reducible exact Kept_of_next (by assumption)
    | with_reducible (refine Kept_of_O (by assumption) ?_)
    | with_reducible (first | refine Kept_regs (g := g) ?_ (by assumption) | refine Kept_ram (g := g) ?_ (by assumption) | refine Kept_mram (g := g) ?_ (by assumption) | refine Kept_flt (g := g) ?_ (by assumption) | refine Kept_var ?_ | refine Kept_ev ?_ (by assumption) | refine Kept_has ?_ | refine Kept_out ?_ | refine Kept_ctr ?_)
    | dsimp -zeta only
    | split)

theorem kept_openLine {x0} (h0 : Kept g x0) (hk : 2112 &&& g.mask = 2112) : Kept g (State.openLine x0) := by
  unfold State.openLine
  repeat' (first | with_reducible assumption | exact mask_sub hk rfl | with_reducible (first | apply kept_galUpdate | apply kept_galOpen | apply Kept_ite) | split | intro _)

theorem kept_setArm {x0 x1} (h0 : Kept g x0) (hk : 65536 &&& g.mask = 65536) : Kept g (State.setArm x0 x1) := by
  unfold State.setArm
  repeat' (first
    | with_reducible assumption
    | with_reducible refine fun _ => ?_
    | ((try lift_lets); intro s; refine (have hs : Kept g s := ?_; ?_); subst s; rotate_left; clear_value s; rotate_left)
    | ((try lift_lets); first | (intro (x : Mram); subst x) | (intro (x : Compositor); subst x) | (intro (x : Store 32); subst x) | (intro (x : Store 8); subst x) | (intro (x : State × _); subst x) | (intro (x : _ × State); subst x) | (intro (x : _ × _ × State); subst x) | (intro (x : State → _); subst x) | (intro (x : _ → State → _); subst x) | (intro (x : _ → State); subst x) | (intro x; clear_value x))
    | (simp only [↓Kept_mk_iff]; refine And.intro ?_ (And.intro ?_ (And.intro ?_ (And.intro ?_ (And.intro ?_ (And.intro ?_ (And.intro ?_ (And.intro ?_ (And.intro ?_ ?_)))))))))
    | with_reducible (first | apply kept_pwmRefresh | apply kept_sendRenew | apply Kept_ite)
    | with_reducible (first | exact Kept_regs (by assumption) (by assumption) | exact Kept_ram (by assumption) (by assumption) | exact Kept_mram (by assumption) (by assumption) | exact Kept_flt (by assumption) (by assumption) | exact Kept_var (by assumption) | exact Kept_ev (by assumption) (by assumption) | exact Kept_has (by assumption) | exact Kept_out (by assumption) | exact Kept_ctr (by assumption) | exact watchE_none (by assumption))
    | with_reducible refine Only_mk ?_ (.inr rfl) (.inr rfl) (.inr rfl) (.inr rfl) (.inr rfl) (.inr rfl) (.inr rfl) (.inr rfl) (.inr rfl) (.inr rfl) (.inr rfl) (.inr rfl) (.inr rfl) (.inl (mask_bit hk rfl)) (.inr rfl) (.inr rfl) (.inr rfl) (.inr rfl) (.inr rfl) (.inr rfl) (.inr rfl) (.inr rfl) (.inr rfl) (.inr rfl) (.inr rfl) (.inr rfl) (.inr rfl) (.inr rfl) (.inr rfl) (.inr rfl)
    | (first | exact mask_sub hk rfl | exact hk)
    | with_reducible (first | refine Kept_snd (by assumption) ?_ | refine Kept_fst (by assumption) ?_)
    | with_reducible exact Kept_of_next (by assumption)
    | with_reducible (refine Kept_of_O (by assumption) ?_)
    | with_reducible (first | refine Kept_regs (g := g) ?_ (by assumption) | refine Kept_ram (g := g) ?_ (by assumption) | refine Kept_mram (g := g) ?_ (by assumption) | refine Kept_flt (g := g) ?_ (by assumption) | refine Kept_var ?_ | refine Kept_ev ?_ (by assumption) | refine Kept_has ?_ | refine Kept_out ?_ | refine Kept_ctr ?_)
    | dsimp -zeta only
    | split)

theorem kept_cutClosing {x0 x1} (h0 : Kept g x0) (hk : 65536 &&& g.mask = 65536) : Kept g (State.cutClosing x0 x1) := by
  unfold State.cutClosing
  repeat' (first
    | with_reducible assumption
    | with_reducible refine fun _ => ?_
    | ((try lift_lets); intro s; refine (have hs : Kept g s := ?_; ?_); subst s; rotate_left; clear_value s; rotate_left)
    | ((try lift_lets); first | (intro (x : Mram); subst x) | (intro (x : Compositor); subst x) | (intro (x : Store 32); subst x) | (intro (x : Store 8); subst x) | (intro (x : State × _); subst x) | (intro (x : _ × State); subst x) | (intro (x : _ × _ × State); subst x) | (intro (x : State → _); subst x) | (intro (x : _ → State → _); subst x) | (intro (x : _ → State); subst x) | (intro x; clear_value x))
    | (simp only [↓Kept_mk_iff]; refine And.intro ?_ (And.intro ?_ (And.intro ?_ (And.intro ?_ (And.intro ?_ (And.intro ?_ (And.intro ?_ (And.intro ?_ (And.intro ?_ ?_)))))))))
    | with_reducible (first | apply kept_raise | apply kept_setF | apply kept_raiseIf | apply kept_setB | apply kept_setArm | apply Kept_ite)
    | with_reducible (first | exact Kept_regs (by assumption) (by assumption) | exact Kept_ram (by assumption) (by assumption) | exact Kept_mram (by assumption) (by assumption) | exact Kept_flt (by assumption) (by assumption) | exact Kept_var (by assumption) | exact Kept_ev (by assumption) (by assumption) | exact Kept_has (by assumption) | exact Kept_out (by assumption) | exact Kept_ctr (by assumption) | exact watchE_none (by assumption))
    | with_reducible refine Only_mk ?_ (.inr rfl) (.inr rfl) (.inr rfl) (.inr rfl) (.inr rfl) (.inr rfl) (.inr rfl) (.inr rfl) (.inr rfl) (.inr rfl) (.inr rfl) (.inr rfl) (.inr rfl) (.inl (mask_bit hk rfl)) (.inr rfl) (.inr rfl) (.inr rfl) (.inr rfl) (.inr rfl) (.inr rfl) (.inr rfl) (.inr rfl) (.inr rfl) (.inr rfl) (.inr rfl) (.inr rfl) (.inr rfl) (.inr rfl) (.inr rfl) (.inr rfl)
    | (first | exact mask_sub hk rfl | exact hk)
    | with_reducible (first | refine Kept_snd (by assumption) ?_ | refine Kept_fst (by assumption) ?_)
    | with_reducible exact Kept_of_next (by assumption)
    | with_reducible (refine Kept_of_O (by assumption) ?_)
    | with_reducible (first | refine Kept_regs (g := g) ?_ (by assumption) | refine Kept_ram (g := g) ?_ (by assumption) | refine Kept_mram (g := g) ?_ (by assumption) | refine Kept_flt (g := g) ?_ (by assumption) | refine Kept_var ?_ | refine Kept_ev ?_ (by assumption) | refine Kept_has ?_ | refine Kept_out ?_ | refine Kept_ctr ?_)
    | dsimp -zeta only
    | split)

theorem kept_fixEnvelope {x0} (h0 : Kept g x0) (hk : 671219712 &&& g.mask = 671219712) : Kept g (State.fixEnvelope x0) := by
  unfold State.fixEnvelope
  repeat' (first
    | with_reducible assumption
    | with_reducible refine fun _ => ?_
    | ((try lift_lets); intro s; refine (have hs : Kept g s := ?_; ?_); subst s; rotate_left; clear_value s; rotate_left)
    | ((try lift_lets); first | (intro (x : Mram); subst x) | (intro (x : Compositor); subst x) | (intro (x : Store 32); subst x) | (intro (x : Store 8); subst x) | (intro (x : State × _); subst x) | (intro (x : _ × State); subst x) | (intro (x : _ × _ × State); subst x) | (intro (x : State → _); subst x) | (intro (x : _ → State → _); subst x) | (intro (x : _ → State); subst x) | (intro x; clear_value x))
    | (simp only [↓Kept_mk_iff]; refine And.intro ?_ (And.intro ?_ (And.intro ?_ (And.intro ?_ (And.intro ?_ (And.intro ?_ (And.intro ?_ (And.intro ?_ (And.intro ?_ ?_)))))))))
    | with_reducible (first | apply kept_setF | apply kept_announce | apply Kept_ite)
    | with_reducible (first | exact Kept_regs (by assumption) (by assumption) | exact Kept_ram (by assumption) (by assumption) | exact Kept_mram (by assumption) (by assumption) | exact Kept_flt (by assumption) (by assumption) | exact Kept_var (by assumption) | exact Kept_ev (by assumption) (by assumption) | exact Kept_has (by assumption) | exact Kept_out (by assumption) | exact Kept_ctr (by assumption) | exact watchE_none (by assumption))
    | with_reducible refine Only_mk ?_ (.inr rfl) (.inr rfl) (.inr rfl) (.inr rfl) (.inr rfl) (.inr rfl) (.inr rfl) (.inr rfl) (.inr rfl) (.inr rfl) (.inr rfl) (.inr rfl) (.inr rfl) (.inr rfl) (.inl (mask_bit hk rfl)) (.inr rfl) (.inr rfl) (.inr rfl) (.inr rfl) (.inr rfl) (.inr rfl) (.inr rfl) (.inr rfl) (.inr rfl) (.inr rfl) (.inr rfl) (.inr rfl) (.inr rfl) (.inr rfl) (.inr rfl)
    | (first | exact mask_sub hk rfl | exact hk)
    | with_reducible (first | refine Kept_snd (by assumption) ?_ | refine Kept_fst (by assumption) ?_)
    | with_reducible exact Kept_of_next (by assumption)
    | with_reducible (refine Kept_of_O (by assumption) ?_)
    | with_reducible (first | refine Kept_regs (g := g) ?_ (by assumption) | refine Kept_ram (g := g) ?_ (by assumption) | refine Kept_mram (g := g) ?_ (by assumption) | refine Kept_flt (g := g) ?_ (by assumption) | refine Kept_var ?_ | refine Kept_ev ?_ (by assumption) | refine Kept_has ?_ | refine Kept_out ?_ | refine Kept_ctr ?_)
    | dsimp -zeta only
    | split)

theorem kept_setSource {x0 x1} (h0 : Kept g x0) : Kept g (State.setSource x0 x1) := by
  unfold State.setSource
  repeat' (first | with_reducible assumption | with_reducible (first | apply kept_raise | apply kept_setF | apply Kept_ite) | split | intro _)

theorem kept_fsStart {x0 x1} (h0 : Kept g x0) (hk : 739211328 &&& g.mask = 739211328) : Kept g (State.fsStart x0 x1) := by
  unfold State.fsStart
  repeat' (first
    | with_reducible assumption
    | with_reducible refine fun _ => ?_
    | ((try lift_lets); intro s; refine (have hs : Kept g s := ?_; ?_); subst s; rotate_left; clear_value s; rotate_left)
    | ((try lift_lets); first | (intro (x : Mram); subst x) | (intro (x : Compositor); subst x) | (intro (x : Store 32); subst x) | (intro (x : Store 8); subst x) | (intro (x : State × _); subst x) | (intro (x : _ × State); subst x) | (intro (x : _ × _ × State); subst x) | (intro (x : State → _); subst x) | (intro (x : _ → State → _); subst x) | (intro (x : _ → State); subst x) | (intro x; clear_value x))
    | (simp only [↓Kept_mk_iff]; refine And.intro ?_ (And.intro ?_ (And.intro ?_ (And.intro ?_ (And.intro ?_ (And.intro ?_ (And.intro ?_ (And.intro ?_ (And.intro ?_ ?_)))))))))
    | with_reducible (first | apply kept_noRampPath | apply kept_keep | apply kept_raiseIf | apply kept_setB | apply kept_setF | apply kept_countRegM | apply kept_setFM | apply kept_raise | apply kept_galClose | apply kept_setMode | apply kept_stopOthers | apply kept_asyAbort | apply kept_announce | apply kept_fsDone | apply kept_openLine | apply kept_setFunc | apply kept_cutClosing | apply kept_fixEnvelope | apply kept_setSource | apply Kept_ite)
    | with_reducible (first | exact Kept_regs (by assumption) (by assumption) | exact Kept_ram (by assumption) (by assumption) | exact Kept_mram (by assumption) (by assumption) | exact Kept_flt (by assumption) (by assumption) | exact Kept_var (by assumption) | exact Kept_ev (by assumption) (by assumption) | exact Kept_has (by assumption) | exact Kept_out (by assumption) | exact Kept_ctr (by assumption) | exact watchE_none (by assumption))
    | with_reducible refine Only_mk ?_ (.inr rfl) (.inr rfl) (.inr rfl) (.inr rfl) (.inr rfl) (.inr rfl) (.inr rfl) (.inr rfl) (.inr rfl) (.inl (mask_bit hk rfl)) (.inr rfl) (.inr rfl) (.inr rfl) (.inr rfl) (.inl (mask_bit hk rfl)) (.inr rfl) (.inr rfl) (.inr rfl) (.inr rfl) (.inr rfl) (.inr rfl) (.inr rfl) (.inr rfl) (.inr rfl) (.inr rfl) (.inr rfl) (.inr rfl) (.inr rfl) (.inr rfl) (.inr rfl)
    | (first | exact mask_sub hk rfl | exact hk)
    | with_reducible (first | refine Kept_snd (by assumption) ?_ | refine Kept_fst (by assumption) ?_)
    | with_reducible exact Kept_of_next (by assumption)
    | with_reducible (refine Kept_of_O (by assumption) ?_)
    | with_reducible (first | refine Kept_regs (g := g) ?_ (by assumption) | refine Kept_ram (g := g) ?_ (by assumption) | refine Kept_mram (g := g) ?_ (by assumption) | refine Kept_flt (g := g) ?_ (by assumption) | refine Kept_var ?_ | refine Kept_ev ?_ (by assumption) | refine Kept_has ?_ | refine Kept_out ?_ | refine Kept_ctr ?_)
    | dsimp -zeta only
    | split)

theorem kept_ellEnter {x0 x1} (h0 : Kept g x0) (hk : 739209280 &&& g.mask = 739209280) : Kept g (State.ellEnter x0 x1) := by
  unfold State.ellEnter
  repeat' (first
    | with_reducible assumption
    | with_reducible refine fun _ => ?_
    | ((try lift_lets); intro s; refine (have hs : Kept g s := ?_; ?_); subst s; rotate_left; clear_value s; rotate_left)
    | ((try lift_lets); first | (intro (x : Mram); subst x) | (intro (x : Compositor); subst x) | (intro (x : Store 32); subst x) | (intro (x : Store 8); subst x) | (intro (x : State × _); subst x) | (intro (x : _ × State); subst x) | (intro (x : _ × _ × State); subst x) | (intro (x : State → _); subst x) | (intro (x : _ → State → _); subst x) | (intro (x : _ → State); subst x) | (intro x; clear_value x))
    | (simp only [↓Kept_mk_iff]; refine And.intro ?_ (And.intro ?_ (And.intro ?_ (And.intro ?_ (And.intro ?_ (And.intro ?_ (And.intro ?_ (And.intro ?_ (And.intro ?_ ?_)))))))))
    | with_reducible (first | apply kept_setB | apply kept_setF | apply kept_countRegM | apply kept_setReg | apply kept_wrapReg | apply kept_setMode | apply kept_stopOthers | apply kept_asyAbort | apply kept_announce | apply kept_raise | apply Kept_ite)
    | with_reducible (first | exact Kept_regs (by assumption) (by assumption) | exact Kept_ram (by assumption) (by assumption) | exact Kept_mram (by assumption) (by assumption) | exact Kept_flt (by assumption) (by assumption) | exact Kept_var (by assumption) | exact Kept_ev (by assumption) (by assumption) | exact Kept_has (by assumption) | exact Kept_out (by assumption) | exact Kept_ctr (by assumption) | exact watchE_none (by assumption))
    | with_reducible refine Only_mk ?_ (.inr rfl) (.inr rfl) (.inr rfl) (.inr rfl) (.inr rfl) (.inr rfl) (.inr rfl) (.inr rfl) (.inr rfl) (.inl (mask_bit hk rfl)) (.inr rfl) (.inr rfl) (.inr rfl) (.inr rfl) (.inl (mask_bit hk rfl)) (.inr rfl) (.inr rfl) (.inr rfl) (.inr rfl) (.inr rfl) (.inr rfl) (.inr rfl) (.inr rfl) (.inr rfl) (.inr rfl) (.inr rfl) (.inr rfl) (.inr rfl) (.inr rfl) (.inr rfl)
    | (first | exact mask_sub hk rfl | exact hk)
    | with_reducible (first | refine Kept_snd (by assumption) ?_ | refine Kept_fst (by assumption) ?_)
    | with_reducible exact Kept_of_next (by assumption)
    | with_reducible (refine Kept_of_O (by assumption) ?_)
    | with_reducible (first | refine Kept_regs (g := g) ?_ (by assumption) | refine Kept_ram (g := g) ?_ (by assumption) | refine Kept_mram (g := g) ?_ (by assumption) | refine Kept_flt (g := g) ?_ (by assumption) | refine Kept_var ?_ | refine Kept_ev ?_ (by assumption) | refine Kept_has ?_ | refine Kept_out ?_ | refine Kept_ctr ?_)
    | dsimp -zeta only
    | split)

theorem kept_powerOff {x0} (h0 : Kept g x0) (hk : 67856448 &&& g.mask = 67856448) : Kept g (State.powerOff x0) := by
  unfold State.powerOff
  repeat' (first
    | with_reducible assumption
    | with_reducible refine fun _ => ?_
    | ((try lift_lets); intro s; refine (have hs : Kept g s := ?_; ?_); subst s; rotate_left; clear_value s; rotate_left)
    | ((try lift_lets); first | (intro (x : Mram); subst x) | (intro (x : Compositor); subst x) | (intro (x : Store 32); subst x) | (intro (x : Store 8); subst x) | (intro (x : State × _); subst x) | (intro (x : _ × State); subst x) | (intro (x : _ × _ × State); subst x) | (intro (x : State → _); subst x) | (intro (x : _ → State → _); subst x) | (intro (x : _ → State); subst x) | (intro x; clear_value x))
    | (simp only [↓Kept_mk_iff]; refine And.intro ?_ (And.intro ?_ (And.intro ?_ (And.intro ?_ (And.intro ?_ (And.intro ?_ (And.intro ?_ (And.intro ?_ (And.intro ?_ ?_)))))))))
    | with_reducible (first | apply kept_setF | apply kept_galClose | apply kept_dropCause | apply kept_setB | apply kept_setFunc | apply Kept_ite)
    | with_reducible (first | exact Kept_regs (by assumption) (by assumption) | exact Kept_ram (by assumption) (by assumption) | exact Kept_mram (by assumption) (by assumption) | exact Kept_flt (by assumption) (by assumption) | exact Kept_var (by assumption) | exact Kept_ev (by assumption) (by assumption) | exact Kept_has (by assumption) | exact Kept_out (by assumption) | exact Kept_ctr (by assumption) | exact watchE_none (by assumption))
    | with_reducible refine Only_mk ?_ (.inr rfl) (.inr rfl) (.inr rfl) (.inr rfl) (.inr rfl) (.inr rfl) (.inr rfl) (.inr rfl) (.inr rfl) (.inr rfl) (.inr rfl) (.inr rfl) (.inr rfl) (.inl (mask_bit hk rfl)) (.inr rfl) (.inr rfl) (.inr rfl) (.inr rfl) (.inr rfl) (.inr rfl) (.inr rfl) (.inr rfl) (.inr rfl) (.inr rfl) (.inr rfl) (.inr rfl) (.inr rfl) (.inr rfl) (.inr rfl) (.inr rfl)
    | (first | exact mask_sub hk rfl | exact hk)
    | with_reducible (first | refine Kept_snd (by assumption) ?_ | refine Kept_fst (by assumption) ?_)
    | with_reducible exact Kept_of_next (by assumption)
    | with_reducible (refine Kept_of_O (by assumption) ?_)
    | with_reducible (first | refine Kept_regs (g := g) ?_ (by assumption) | refine Kept_ram (g := g) ?_ (by assumption) | refine Kept_mram (g := g) ?_ (by assumption) | refine Kept_flt (g := g) ?_ (by assumption) | refine Kept_var ?_ | refine Kept_ev ?_ (by assumption) | refine Kept_has ?_ | refine Kept_out ?_ | refine Kept_ctr ?_)
    | dsimp -zeta only
    | split)

theorem kept_setCmd {x0 x1} (h0 : Kept g x0) (hk : 65536 &&& g.mask = 65536) : Kept g (State.setCmd x0 x1) := by
  unfold State.setCmd
  repeat' (first
    | with_reducible assumption
    | with_reducible refine fun _ => ?_
    | ((try lift_lets); intro s; refine (have hs : Kept g s := ?_; ?_); subst s; rotate_left; clear_value s; rotate_left)
    | ((try lift_lets); first | (intro (x : Mram); subst x) | (intro (x : Compositor); subst x) | (intro (x : Store 32); subst x) | (intro (x : Store 8); subst x) | (intro (x : State × _); subst x) | (intro (x : _ × State); subst x) | (intro (x : _ × _ × State); subst x) | (intro (x : State → _); subst x) | (intro (x : _ → State → _); subst x) | (intro (x : _ → State); subst x) | (intro x; clear_value x))
    | (simp only [↓Kept_mk_iff]; refine And.intro ?_ (And.intro ?_ (And.intro ?_ (And.intro ?_ (And.intro ?_ (And.intro ?_ (And.intro ?_ (And.intro ?_ (And.intro ?_ ?_)))))))))
    | with_reducible (first | apply kept_setF | apply kept_sendRenew | apply kept_emit | apply Kept_ite)
    | with_reducible (first | exact Kept_regs (by assumption) (by assumption) | exact Kept_ram (by assumption) (by assumption) | exact Kept_mram (by assumption) (by assumption) | exact Kept_flt (by assumption) (by assumption) | exact Kept_var (by assumption) | exact Kept_ev (by assumption) (by assumption) | exact Kept_has (by assumption) | exact Kept_out (by assumption) | exact Kept_ctr (by assumption) | exact watchE_none (by assumption))
    | with_reducible refine Only_mk ?_ (.inr rfl) (.inr rfl) (.inr rfl) (.inr rfl) (.inr rfl) (.inr rfl) (.inr rfl) (.inr rfl) (.inr rfl) (.inr rfl) (.inr rfl) (.inr rfl) (.inr rfl) (.inl (mask_bit hk rfl)) (.inr rfl) (.inr rfl) (.inr rfl) (.inr rfl) (.inr rfl) (.inr rfl) (.inr rfl) (.inr rfl) (.inr rfl) (.inr rfl) (.inr rfl) (.inr rfl) (.inr rfl) (.inr rfl) (.inr rfl) (.inr rfl)
    | (first | exact mask_sub hk rfl | exact hk)
    | with_reducible (first | refine Kept_snd (by assumption) ?_ | refine Kept_fst (by assumption) ?_)
    | with_reducible exact Kept_of_next (by assumption)
    | with_reducible (refine Kept_of_O (by assumption) ?_)
    | with_reducible (first | refine Kept_regs (g := g) ?_ (by assumption) | refine Kept_ram (g := g) ?_ (by assumption) | refine Kept_mram (g := g) ?_ (by assumption) | refine Kept_flt (g := g) ?_ (by assumption) | refine Kept_var ?_ | refine Kept_ev ?_ (by assumption) | refine Kept_has ?_ | refine Kept_out ?_ | refine Kept_ctr ?_)
    | dsimp -zeta only
    | split)

theorem kept_openAdvance {x0} (h0 : Kept g x0) (hk : 67856448 &&& g.mask = 67856448) : Kept g (State.openAdvance x0) := by
  unfold State.openAdvance
  repeat' (first | with_reducible assumption | exact mask_sub hk rfl | with_reducible (first | apply kept_setF | apply kept_setCmd | apply kept_powerOff | apply Kept_ite) | split | intro _)

theorem kept_openContactors {x0} (h0 : Kept g x0) (hk : 67856448 &&& g.mask = 67856448) : Kept g (State.openContactors x0) := by
  unfold State.openContactors
  repeat' (first | with_reducible assumption | exact mask_sub hk rfl | with_reducible (first | apply kept_openLine | apply kept_setF | apply kept_openAdvance | apply kept_setCmd | apply Kept_ite) | split | intro _)

theorem kept_loadOpen {x0} (h0 : Kept g x0) (hk : 64 &&& g.mask = 64) : Kept g (State.loadOpen x0) := by
  unfold State.loadOpen
  repeat' (first | with_reducible assumption | exact mask_sub hk rfl | with_reducible (first | apply kept_raiseC | apply kept_countRegM | apply Kept_ite) | split | intro _)

theorem kept_cutTransition {x0 x1 x2} (h0 : Kept g x0) (hk : 68122688 &&& g.mask = 68122688) : Kept g (State.cutTransition x0 x1 x2) := by
  unfold State.cutTransition
  repeat' (first | with_reducible assumption | exact mask_sub hk rfl | with_reducible (first | apply kept_cutClosing | apply kept_abortTransition | apply kept_powerOff | apply kept_setFunc | apply kept_openContactors | apply kept_loadOpen | apply Kept_ite) | split | intro _)

theorem kept_ellDemand {x0 x1} (h0 : Kept g x0) (hk : 739211328 &&& g.mask = 739211328) : Kept g (State.ellDemand x0 x1) := by
  unfold State.ellDemand
  repeat' (first | with_reducible assumption | exact mask_sub hk rfl | with_reducible (first | apply kept_ellEnter | apply kept_cutTransition | apply kept_keep | apply Kept_ite) | split | intro _)

theorem kept_judge {x0 x1} (h0 : Kept g x0) (hk : 739211328 &&& g.mask = 739211328) : Kept g (State.judge x0 x1) := by
  unfold State.judge
  repeat' (first | with_reducible assumption | exact mask_sub hk rfl | with_reducible (first | apply kept_ellDemand | apply kept_fsStart | apply kept_raise | apply Kept_ite) | split | intro _)

theorem kept_setCause {x0 x1} (h0 : Kept g x0) (hk : 739211328 &&& g.mask = 739211328) : Kept g (State.setCause x0 x1) := by
  unfold State.setCause
  repeat' (first
    | with_reducible assumption
    | with_reducible refine fun _ => ?_
    | ((try lift_lets); intro s; refine (have hs : Kept g s := ?_; ?_); subst s; rotate_left; clear_value s; rotate_left)
    | ((try lift_lets); first | (intro (x : Mram); subst x) | (intro (x : Compositor); subst x) | (intro (x : Store 32); subst x) | (intro (x : Store 8); subst x) | (intro (x : State × _); subst x) | (intro (x : _ × State); subst x) | (intro (x : _ × _ × State); subst x) | (intro (x : State → _); subst x) | (intro (x : _ → State → _); subst x) | (intro (x : _ → State); subst x) | (intro x; clear_value x))
    | (simp only [↓Kept_mk_iff]; refine And.intro ?_ (And.intro ?_ (And.intro ?_ (And.intro ?_ (And.intro ?_ (And.intro ?_ (And.intro ?_ (And.intro ?_ (And.intro ?_ ?_)))))))))
    | with_reducible (first | apply kept_faultShow | apply kept_raise | apply kept_setB | apply kept_plnkOut | apply kept_fsStart | apply kept_judge | apply Kept_ite)
    | with_reducible (first | exact Kept_regs (by assumption) (by assumption) | exact Kept_ram (by assumption) (by assumption) | exact Kept_mram (by assumption) (by assumption) | exact Kept_flt (by assumption) (by assumption) | exact Kept_var (by assumption) | exact Kept_ev (by assumption) (by assumption) | exact Kept_has (by assumption) | exact Kept_out (by assumption) | exact Kept_ctr (by assumption) | exact watchE_none (by assumption))
    | with_reducible refine Only_mk ?_ (.inr rfl) (.inr rfl) (.inr rfl) (.inr rfl) (.inr rfl) (.inr rfl) (.inr rfl) (.inr rfl) (.inr rfl) (.inr rfl) (.inr rfl) (.inr rfl) (.inr rfl) (.inr rfl) (.inl (mask_bit hk rfl)) (.inr rfl) (.inr rfl) (.inr rfl) (.inr rfl) (.inr rfl) (.inr rfl) (.inr rfl) (.inr rfl) (.inr rfl) (.inr rfl) (.inr rfl) (.inr rfl) (.inr rfl) (.inr rfl) (.inr rfl)
    | (first | exact mask_sub hk rfl | exact hk)
    | with_reducible (first | refine Kept_snd (by assumption) ?_ | refine Kept_fst (by assumption) ?_)
    | with_reducible exact Kept_of_next (by assumption)
    | with_reducible (refine Kept_of_O (by assumption) ?_)
    | with_reducible (first | refine Kept_regs (g := g) ?_ (by assumption) | refine Kept_ram (g := g) ?_ (by assumption) | refine Kept_mram (g := g) ?_ (by assumption) | refine Kept_flt (g := g) ?_ (by assumption) | refine Kept_var ?_ | refine Kept_ev ?_ (by assumption) | refine Kept_has ?_ | refine Kept_out ?_ | refine Kept_ctr ?_)
    | dsimp -zeta only
    | split)

theorem kept_holdCause {x0 x1 x2} (h0 : Kept g x0) (hk : 739211328 &&& g.mask = 739211328) : Kept g (State.holdCause x0 x1 x2) := by
  unfold State.holdCause
  repeat' (first | with_reducible assumption | exact mask_sub hk rfl | with_reducible (first | apply kept_setCause | apply kept_dropCause | apply Kept_ite) | split | intro _)

theorem kept_imdState {x0 x1} (h0 : Kept g x0) (hk : 739211328 &&& g.mask = 739211328) : Kept g (State.imdState x0 x1) := by
  unfold State.imdState
  repeat' (first | with_reducible assumption | exact mask_sub hk rfl | with_reducible (first | apply kept_holdCause | apply kept_setF | apply Kept_ite) | split | intro _)

theorem kept_imdRefresh {x0} (h0 : Kept g x0) (hk : 739211328 &&& g.mask = 739211328) : Kept g (State.imdRefresh x0) := by
  unfold State.imdRefresh
  repeat' (first
    | with_reducible assumption
    | with_reducible refine fun _ => ?_
    | ((try lift_lets); intro s; refine (have hs : Kept g s := ?_; ?_); subst s; rotate_left; clear_value s; rotate_left)
    | ((try lift_lets); first | (intro (x : Mram); subst x) | (intro (x : Compositor); subst x) | (intro (x : Store 32); subst x) | (intro (x : Store 8); subst x) | (intro (x : State × _); subst x) | (intro (x : _ × State); subst x) | (intro (x : _ × _ × State); subst x) | (intro (x : State → _); subst x) | (intro (x : _ → State → _); subst x) | (intro (x : _ → State); subst x) | (intro x; clear_value x))
    | (simp only [↓Kept_mk_iff]; refine And.intro ?_ (And.intro ?_ (And.intro ?_ (And.intro ?_ (And.intro ?_ (And.intro ?_ (And.intro ?_ (And.intro ?_ (And.intro ?_ ?_)))))))))
    | with_reducible (first | apply kept_imdState | apply Kept_ite)
    | with_reducible (first | exact Kept_regs (by assumption) (by assumption) | exact Kept_ram (by assumption) (by assumption) | exact Kept_mram (by assumption) (by assumption) | exact Kept_flt (by assumption) (by assumption) | exact Kept_var (by assumption) | exact Kept_ev (by assumption) (by assumption) | exact Kept_has (by assumption) | exact Kept_out (by assumption) | exact Kept_ctr (by assumption) | exact watchE_none (by assumption))
    | with_reducible refine Only_mk ?_ (.inr rfl) (.inr rfl) (.inr rfl) (.inr rfl) (.inr rfl) (.inr rfl) (.inr rfl) (.inr rfl) (.inr rfl) (.inr rfl) (.inr rfl) (.inr rfl) (.inr rfl) (.inr rfl) (.inr rfl) (.inr rfl) (.inl (mask_bit hk rfl)) (.inr rfl) (.inr rfl) (.inr rfl) (.inr rfl) (.inr rfl) (.inr rfl) (.inr rfl) (.inr rfl) (.inr rfl) (.inr rfl) (.inr rfl) (.inr rfl) (.inr rfl)
    | (first | exact mask_sub hk rfl | exact hk)
    | with_reducible (first | refine Kept_snd (by assumption) ?_ | refine Kept_fst (by assumption) ?_)
    | with_reducible exact Kept_of_next (by assumption)
    | with_reducible (refine Kept_of_O (by assumption) ?_)
    | with_reducible (first | refine Kept_regs (g := g) ?_ (by assumption) | refine Kept_ram (g := g) ?_ (by assumption) | refine Kept_mram (g := g) ?_ (by assumption) | refine Kept_flt (g := g) ?_ (by assumption) | refine Kept_var ?_ | refine Kept_ev ?_ (by assumption) | refine Kept_has ?_ | refine Kept_out ?_ | refine Kept_ctr ?_)
    | dsimp -zeta only
    | split)

theorem kept_sendClaim {x0 x1} (h0 : Kept g x0) (hk : 65536 &&& g.mask = 65536) : Kept g (State.sendClaim x0 x1) := by
  unfold State.sendClaim
  repeat' (first
    | with_reducible assumption
    | with_reducible refine fun _ => ?_
    | ((try lift_lets); intro s; refine (have hs : Kept g s := ?_; ?_); subst s; rotate_left; clear_value s; rotate_left)
    | ((try lift_lets); first | (intro (x : Mram); subst x) | (intro (x : Compositor); subst x) | (intro (x : Store 32); subst x) | (intro (x : Store 8); subst x) | (intro (x : State × _); subst x) | (intro (x : _ × State); subst x) | (intro (x : _ × _ × State); subst x) | (intro (x : State → _); subst x) | (intro (x : _ → State → _); subst x) | (intro (x : _ → State); subst x) | (intro x; clear_value x))
    | (simp only [↓Kept_mk_iff]; refine And.intro ?_ (And.intro ?_ (And.intro ?_ (And.intro ?_ (And.intro ?_ (And.intro ?_ (And.intro ?_ (And.intro ?_ (And.intro ?_ ?_)))))))))
    | with_reducible (first | apply kept_driveOut | apply Kept_ite)
    | with_reducible (first | exact Kept_regs (by assumption) (by assumption) | exact Kept_ram (by assumption) (by assumption) | exact Kept_mram (by assumption) (by assumption) | exact Kept_flt (by assumption) (by assumption) | exact Kept_var (by assumption) | exact Kept_ev (by assumption) (by assumption) | exact Kept_has (by assumption) | exact Kept_out (by assumption) | exact Kept_ctr (by assumption) | exact watchE_none (by assumption))
    | with_reducible refine Only_mk ?_ (.inr rfl) (.inr rfl) (.inr rfl) (.inr rfl) (.inr rfl) (.inr rfl) (.inr rfl) (.inr rfl) (.inr rfl) (.inr rfl) (.inr rfl) (.inr rfl) (.inr rfl) (.inl (mask_bit hk rfl)) (.inr rfl) (.inr rfl) (.inr rfl) (.inr rfl) (.inr rfl) (.inr rfl) (.inr rfl) (.inr rfl) (.inr rfl) (.inr rfl) (.inr rfl) (.inr rfl) (.inr rfl) (.inr rfl) (.inr rfl) (.inr rfl)
    | (first | exact mask_sub hk rfl | exact hk)
    | with_reducible (first | refine Kept_snd (by assumption) ?_ | refine Kept_fst (by assumption) ?_)
    | with_reducible exact Kept_of_next (by assumption)
    | with_reducible (refine Kept_of_O (by assumption) ?_)
    | with_reducible (first | refine Kept_regs (g := g) ?_ (by assumption) | refine Kept_ram (g := g) ?_ (by assumption) | refine Kept_mram (g := g) ?_ (by assumption) | refine Kept_flt (g := g) ?_ (by assumption) | refine Kept_var ?_ | refine Kept_ev ?_ (by assumption) | refine Kept_has ?_ | refine Kept_out ?_ | refine Kept_ctr ?_)
    | dsimp -zeta only
    | split)

end Sys2Proof.Machine
end

