-- ==== Sys2Proof/Laws/Kept2.lean ====
section
/-! SUPPORT. What operations and meanings keep (Laws/Kept.lean), part 2 of 8. -/

set_option linter.all false
set_option Elab.async false

namespace Sys2Proof.Machine

variable {g : Watch}

theorem kept_startAt {x0 x1 x2} (h0 : Kept g x0) (hk : 67108864 &&& g.mask = 67108864) : Kept g (State.startAt x0 x1 x2) := by
  unfold State.startAt
  repeat' (first
    | with_reducible assumption
    | with_reducible refine fun _ => ?_
    | ((try lift_lets); intro s; refine (have hs : Kept g s := ?_; ?_); subst s; rotate_left; clear_value s; rotate_left)
    | ((try lift_lets); first | (intro (x : Mram); subst x) | (intro (x : Compositor); subst x) | (intro (x : Store 32); subst x) | (intro (x : Store 8); subst x) | (intro (x : State × _); subst x) | (intro (x : _ × State); subst x) | (intro (x : _ × _ × State); subst x) | (intro (x : State → _); subst x) | (intro (x : _ → State → _); subst x) | (intro (x : _ → State); subst x) | (intro x; clear_value x))
    | (simp only [↓Kept_mk_iff]; refine And.intro ?_ (And.intro ?_ (And.intro ?_ (And.intro ?_ (And.intro ?_ (And.intro ?_ (And.intro ?_ (And.intro ?_ (And.intro ?_ ?_)))))))))
    | with_reducible (first | apply kept_cycState | apply kept_setF | apply Kept_ite)
    | with_reducible (first | exact Kept_regs (by assumption) (by assumption) | exact Kept_ram (by assumption) (by assumption) | exact Kept_mram (by assumption) (by assumption) | exact Kept_flt (by assumption) (by assumption) | exact Kept_var (by assumption) | exact Kept_ev (by assumption) (by assumption) | exact Kept_has (by assumption) | exact Kept_out (by assumption) | exact Kept_ctr (by assumption) | exact watchE_none (by assumption))
    | with_reducible refine Only_mk ?_ (.inr rfl) (.inr rfl) (.inr rfl) (.inr rfl) (.inr rfl) (.inr rfl) (.inr rfl) (.inr rfl) (.inr rfl) (.inr rfl) (.inr rfl) (.inr rfl) (.inr rfl) (.inr rfl) (.inr rfl) (.inr rfl) (.inr rfl) (.inr rfl) (.inr rfl) (.inr rfl) (.inr rfl) (.inr rfl) (.inr rfl) (.inl (mask_bit hk rfl)) (.inr rfl) (.inr rfl) (.inr rfl) (.inr rfl) (.inr rfl) (.inr rfl)
    | (first | exact mask_sub hk rfl | exact hk)
    | with_reducible (first | refine Kept_snd (by assumption) ?_ | refine Kept_fst (by assumption) ?_)
    | with_reducible exact Kept_of_next (by assumption)
    | with_reducible (refine Kept_of_O (by assumption) ?_)
    | with_reducible (first | refine Kept_regs (g := g) ?_ (by assumption) | refine Kept_ram (g := g) ?_ (by assumption) | refine Kept_mram (g := g) ?_ (by assumption) | refine Kept_flt (g := g) ?_ (by assumption) | refine Kept_var ?_ | refine Kept_ev ?_ (by assumption) | refine Kept_has ?_ | refine Kept_out ?_ | refine Kept_ctr ?_)
    | dsimp -zeta only
    | split)

theorem kept_declareTimers {x0 x1} (h0 : Kept g x0) (hk : 67108864 &&& g.mask = 67108864) : Kept g (State.declareTimers x0 x1) := by
  unfold State.declareTimers
  repeat' (first
    | with_reducible assumption
    | with_reducible refine fun _ => ?_
    | ((try lift_lets); intro s; refine (have hs : Kept g s := ?_; ?_); subst s; rotate_left; clear_value s; rotate_left)
    | ((try lift_lets); first | (intro (x : Mram); subst x) | (intro (x : Compositor); subst x) | (intro (x : Store 32); subst x) | (intro (x : Store 8); subst x) | (intro (x : State × _); subst x) | (intro (x : _ × State); subst x) | (intro (x : _ × _ × State); subst x) | (intro (x : State → _); subst x) | (intro (x : _ → State → _); subst x) | (intro (x : _ → State); subst x) | (intro x; clear_value x))
    | (simp only [↓Kept_mk_iff]; refine And.intro ?_ (And.intro ?_ (And.intro ?_ (And.intro ?_ (And.intro ?_ (And.intro ?_ (And.intro ?_ (And.intro ?_ (And.intro ?_ ?_)))))))))
    | with_reducible (first | apply Kept_ite)
    | with_reducible (first | exact Kept_regs (by assumption) (by assumption) | exact Kept_ram (by assumption) (by assumption) | exact Kept_mram (by assumption) (by assumption) | exact Kept_flt (by assumption) (by assumption) | exact Kept_var (by assumption) | exact Kept_ev (by assumption) (by assumption) | exact Kept_has (by assumption) | exact Kept_out (by assumption) | exact Kept_ctr (by assumption) | exact watchE_none (by assumption))
    | with_reducible refine Only_mk ?_ (.inr rfl) (.inr rfl) (.inr rfl) (.inr rfl) (.inr rfl) (.inr rfl) (.inr rfl) (.inr rfl) (.inr rfl) (.inr rfl) (.inr rfl) (.inr rfl) (.inr rfl) (.inr rfl) (.inr rfl) (.inr rfl) (.inr rfl) (.inr rfl) (.inr rfl) (.inr rfl) (.inr rfl) (.inr rfl) (.inr rfl) (.inl (mask_bit hk rfl)) (.inr rfl) (.inr rfl) (.inr rfl) (.inr rfl) (.inr rfl) (.inr rfl)
    | (first | exact mask_sub hk rfl | exact hk)
    | with_reducible (first | refine Kept_snd (by assumption) ?_ | refine Kept_fst (by assumption) ?_)
    | with_reducible exact Kept_of_next (by assumption)
    | with_reducible (refine Kept_of_O (by assumption) ?_)
    | with_reducible (first | refine Kept_regs (g := g) ?_ (by assumption) | refine Kept_ram (g := g) ?_ (by assumption) | refine Kept_mram (g := g) ?_ (by assumption) | refine Kept_flt (g := g) ?_ (by assumption) | refine Kept_var ?_ | refine Kept_ev ?_ (by assumption) | refine Kept_has ?_ | refine Kept_out ?_ | refine Kept_ctr ?_)
    | dsimp -zeta only
    | split)

theorem kept_putRetain {x0 x1 x2} (h0 : Kept g x0) (hk : 4 &&& g.mask = 4) : Kept g (State.putRetain x0 x1 x2) := by
  unfold State.putRetain
  repeat' (first
    | with_reducible assumption
    | with_reducible refine fun _ => ?_
    | ((try lift_lets); intro s; refine (have hs : Kept g s := ?_; ?_); subst s; rotate_left; clear_value s; rotate_left)
    | ((try lift_lets); first | (intro (x : Mram); subst x) | (intro (x : Compositor); subst x) | (intro (x : Store 32); subst x) | (intro (x : Store 8); subst x) | (intro (x : State × _); subst x) | (intro (x : _ × State); subst x) | (intro (x : _ × _ × State); subst x) | (intro (x : State → _); subst x) | (intro (x : _ → State → _); subst x) | (intro (x : _ → State); subst x) | (intro x; clear_value x))
    | (simp only [↓Kept_mk_iff]; refine And.intro ?_ (And.intro ?_ (And.intro ?_ (And.intro ?_ (And.intro ?_ (And.intro ?_ (And.intro ?_ (And.intro ?_ (And.intro ?_ ?_)))))))))
    | with_reducible (first | apply kept_setBytes | apply Kept_ite | apply Kept_foldl)
    | with_reducible (first | exact Kept_regs (by assumption) (by assumption) | exact Kept_ram (by assumption) (by assumption) | exact Kept_mram (by assumption) (by assumption) | exact Kept_flt (by assumption) (by assumption) | exact Kept_var (by assumption) | exact Kept_ev (by assumption) (by assumption) | exact Kept_has (by assumption) | exact Kept_out (by assumption) | exact Kept_ctr (by assumption) | exact watchE_none (by assumption))
    | (first | exact mask_sub hk rfl | exact hk)
    | with_reducible (first | refine Kept_snd (by assumption) ?_ | refine Kept_fst (by assumption) ?_)
    | with_reducible exact Kept_of_next (by assumption)
    | with_reducible (refine Kept_of_O (by assumption) ?_)
    | with_reducible (first | refine Kept_regs (g := g) ?_ (by assumption) | refine Kept_ram (g := g) ?_ (by assumption) | refine Kept_mram (g := g) ?_ (by assumption) | refine Kept_flt (g := g) ?_ (by assumption) | refine Kept_var ?_ | refine Kept_ev ?_ (by assumption) | refine Kept_has ?_ | refine Kept_out ?_ | refine Kept_ctr ?_)
    | dsimp -zeta only
    | split)

theorem kept_restoreRetain {x0 x1} (h0 : Kept g x0) (hk : 4 &&& g.mask = 4) : Kept g (State.restoreRetain x0 x1) := by
  unfold State.restoreRetain
  repeat' (first | with_reducible assumption | exact mask_sub hk rfl | with_reducible (first | apply kept_putRetain | apply kept_raise | apply Kept_ite) | split | intro _)

theorem kept_startRetain {x0 x1} (h0 : Kept g x0) (hk : 67108868 &&& g.mask = 67108868) : Kept g (State.startRetain x0 x1) := by
  unfold State.startRetain
  repeat' (first | with_reducible assumption | exact mask_sub hk rfl | with_reducible (first | apply kept_declareTimers | apply kept_restoreRetain | apply kept_loadSegs | apply kept_setF | apply Kept_ite) | split | intro _)

theorem kept_copyShow {x0} (h0 : Kept g x0) : Kept g (State.copyShow x0) := by
  unfold State.copyShow
  repeat' (first | with_reducible assumption | with_reducible (first | apply kept_setB | apply Kept_ite) | split | intro _)

theorem kept_cycStart {x0 x1} (h0 : Kept g x0) (hk : 67108868 &&& g.mask = 67108868) : Kept g (State.cycStart x0 x1) := by
  unfold State.cycStart
  repeat' (first
    | with_reducible assumption
    | with_reducible refine fun _ => ?_
    | ((try lift_lets); intro s; refine (have hs : Kept g s := ?_; ?_); subst s; rotate_left; clear_value s; rotate_left)
    | ((try lift_lets); first | (intro (x : Mram); subst x) | (intro (x : Compositor); subst x) | (intro (x : Store 32); subst x) | (intro (x : Store 8); subst x) | (intro (x : State × _); subst x) | (intro (x : _ × State); subst x) | (intro (x : _ × _ × State); subst x) | (intro (x : State → _); subst x) | (intro (x : _ → State → _); subst x) | (intro (x : _ → State); subst x) | (intro x; clear_value x))
    | (simp only [↓Kept_mk_iff]; refine And.intro ?_ (And.intro ?_ (And.intro ?_ (And.intro ?_ (And.intro ?_ (And.intro ?_ (And.intro ?_ (And.intro ?_ (And.intro ?_ ?_)))))))))
    | with_reducible (first | apply kept_setBytes | apply kept_loadSegs | apply kept_startAt | apply kept_setF | apply kept_declareTimers | apply kept_startRetain | apply kept_raise | apply kept_copyShow | apply Kept_ite | apply Kept_foldl)
    | with_reducible (first | exact Kept_regs (by assumption) (by assumption) | exact Kept_ram (by assumption) (by assumption) | exact Kept_mram (by assumption) (by assumption) | exact Kept_flt (by assumption) (by assumption) | exact Kept_var (by assumption) | exact Kept_ev (by assumption) (by assumption) | exact Kept_has (by assumption) | exact Kept_out (by assumption) | exact Kept_ctr (by assumption) | exact watchE_none (by assumption))
    | with_reducible refine Only_mk ?_ (.inr rfl) (.inr rfl) (.inr rfl) (.inr rfl) (.inr rfl) (.inr rfl) (.inr rfl) (.inr rfl) (.inr rfl) (.inr rfl) (.inr rfl) (.inr rfl) (.inr rfl) (.inr rfl) (.inr rfl) (.inr rfl) (.inr rfl) (.inr rfl) (.inr rfl) (.inr rfl) (.inr rfl) (.inr rfl) (.inr rfl) (.inl (mask_bit hk rfl)) (.inr rfl) (.inr rfl) (.inr rfl) (.inr rfl) (.inr rfl) (.inr rfl)
    | (first | exact mask_sub hk rfl | exact hk)
    | with_reducible (first | refine Kept_snd (by assumption) ?_ | refine Kept_fst (by assumption) ?_)
    | with_reducible exact Kept_of_next (by assumption)
    | with_reducible (refine Kept_of_O (by assumption) ?_)
    | with_reducible (first | refine Kept_regs (g := g) ?_ (by assumption) | refine Kept_ram (g := g) ?_ (by assumption) | refine Kept_mram (g := g) ?_ (by assumption) | refine Kept_flt (g := g) ?_ (by assumption) | refine Kept_var ?_ | refine Kept_ev ?_ (by assumption) | refine Kept_has ?_ | refine Kept_out ?_ | refine Kept_ctr ?_)
    | dsimp -zeta only
    | split)

theorem kept_autorun {x0} (h0 : Kept g x0) (hk : 67108868 &&& g.mask = 67108868) : Kept g (State.autorun x0) := by
  unfold State.autorun
  repeat' (first | with_reducible assumption | exact mask_sub hk rfl | with_reducible (first | apply kept_cycStart | apply Kept_ite) | split | intro _)

theorem kept_updResume {x0} (h0 : Kept g x0) (hk : 100730948 &&& g.mask = 100730948) : Kept g (State.updResume x0) := by
  unfold State.updResume
  repeat' (first | with_reducible assumption | exact mask_sub hk rfl | with_reducible (first | apply kept_nodeStart | apply kept_activateOne | apply Kept_ite) | split | intro _)

theorem kept_enterSurvey {x0} (h0 : Kept g x0) (hk : 772765772 &&& g.mask = 772765772) : Kept g (State.enterSurvey x0) := by
  unfold State.enterSurvey
  repeat' (first
    | with_reducible assumption
    | with_reducible refine fun _ => ?_
    | ((try lift_lets); intro s; refine (have hs : Kept g s := ?_; ?_); subst s; rotate_left; clear_value s; rotate_left)
    | ((try lift_lets); first | (intro (x : Mram); subst x) | (intro (x : Compositor); subst x) | (intro (x : Store 32); subst x) | (intro (x : Store 8); subst x) | (intro (x : State × _); subst x) | (intro (x : _ × State); subst x) | (intro (x : _ × _ × State); subst x) | (intro (x : State → _); subst x) | (intro (x : _ → State → _); subst x) | (intro (x : _ → State); subst x) | (intro x; clear_value x))
    | (simp only [↓Kept_mk_iff]; refine And.intro ?_ (And.intro ?_ (And.intro ?_ (And.intro ?_ (And.intro ?_ (And.intro ?_ (And.intro ?_ (And.intro ?_ (And.intro ?_ ?_)))))))))
    | with_reducible (first | apply kept_setReg | apply kept_wrapReg | apply kept_setMode | apply kept_setF | apply kept_imdRefresh | apply kept_sendClaim | apply kept_autorun | apply kept_updResume | apply Kept_ite)
    | with_reducible (first | exact Kept_regs (by assumption) (by assumption) | exact Kept_ram (by assumption) (by assumption) | exact Kept_mram (by assumption) (by assumption) | exact Kept_flt (by assumption) (by assumption) | exact Kept_var (by assumption) | exact Kept_ev (by assumption) (by assumption) | exact Kept_has (by assumption) | exact Kept_out (by assumption) | exact Kept_ctr (by assumption) | exact watchE_none (by assumption))
    | with_reducible refine Only_mk ?_ (.inr rfl) (.inr rfl) (.inl (mask_bit hk rfl)) (.inr rfl) (.inr rfl) (.inr rfl) (.inr rfl) (.inr rfl) (.inr rfl) (.inr rfl) (.inr rfl) (.inr rfl) (.inr rfl) (.inr rfl) (.inr rfl) (.inr rfl) (.inr rfl) (.inr rfl) (.inr rfl) (.inr rfl) (.inr rfl) (.inr rfl) (.inr rfl) (.inr rfl) (.inr rfl) (.inr rfl) (.inr rfl) (.inr rfl) (.inr rfl) (.inr rfl)
    | (first | exact mask_sub hk rfl | exact hk)
    | with_reducible (first | refine Kept_snd (by assumption) ?_ | refine Kept_fst (by assumption) ?_)
    | with_reducible exact Kept_of_next (by assumption)
    | with_reducible (refine Kept_of_O (by assumption) ?_)
    | with_reducible (first | refine Kept_regs (g := g) ?_ (by assumption) | refine Kept_ram (g := g) ?_ (by assumption) | refine Kept_mram (g := g) ?_ (by assumption) | refine Kept_flt (g := g) ?_ (by assumption) | refine Kept_var ?_ | refine Kept_ev ?_ (by assumption) | refine Kept_has ?_ | refine Kept_out ?_ | refine Kept_ctr ?_)
    | dsimp -zeta only
    | split)

theorem kept_afterRepeat {x0} (h0 : Kept g x0) (hk : 789542988 &&& g.mask = 789542988) : Kept g (State.afterRepeat x0) := by
  unfold State.afterRepeat
  repeat' (first
    | with_reducible assumption
    | with_reducible refine fun _ => ?_
    | ((try lift_lets); intro s; refine (have hs : Kept g s := ?_; ?_); subst s; rotate_left; clear_value s; rotate_left)
    | ((try lift_lets); first | (intro (x : Mram); subst x) | (intro (x : Compositor); subst x) | (intro (x : Store 32); subst x) | (intro (x : Store 8); subst x) | (intro (x : State × _); subst x) | (intro (x : _ × State); subst x) | (intro (x : _ × _ × State); subst x) | (intro (x : State → _); subst x) | (intro (x : _ → State → _); subst x) | (intro (x : _ → State); subst x) | (intro x; clear_value x))
    | (simp only [↓Kept_mk_iff]; refine And.intro ?_ (And.intro ?_ (And.intro ?_ (And.intro ?_ (And.intro ?_ (And.intro ?_ (And.intro ?_ (And.intro ?_ (And.intro ?_ ?_)))))))))
    | with_reducible (first | apply kept_enterSurvey | apply Kept_ite)
    | with_reducible (first | exact Kept_regs (by assumption) (by assumption) | exact Kept_ram (by assumption) (by assumption) | exact Kept_mram (by assumption) (by assumption) | exact Kept_flt (by assumption) (by assumption) | exact Kept_var (by assumption) | exact Kept_ev (by assumption) (by assumption) | exact Kept_has (by assumption) | exact Kept_out (by assumption) | exact Kept_ctr (by assumption) | exact watchE_none (by assumption))
    | with_reducible refine Only_mk ?_ (.inr rfl) (.inr rfl) (.inr rfl) (.inr rfl) (.inr rfl) (.inr rfl) (.inr rfl) (.inr rfl) (.inr rfl) (.inr rfl) (.inr rfl) (.inr rfl) (.inr rfl) (.inr rfl) (.inr rfl) (.inr rfl) (.inr rfl) (.inr rfl) (.inr rfl) (.inr rfl) (.inr rfl) (.inl (mask_bit hk rfl)) (.inr rfl) (.inr rfl) (.inr rfl) (.inr rfl) (.inr rfl) (.inr rfl) (.inr rfl) (.inr rfl)
    | (first | exact mask_sub hk rfl | exact hk)
    | with_reducible (first | refine Kept_snd (by assumption) ?_ | refine Kept_fst (by assumption) ?_)
    | with_reducible exact Kept_of_next (by assumption)
    | with_reducible (refine Kept_of_O (by assumption) ?_)
    | with_reducible (first | refine Kept_regs (g := g) ?_ (by assumption) | refine Kept_ram (g := g) ?_ (by assumption) | refine Kept_mram (g := g) ?_ (by assumption) | refine Kept_flt (g := g) ?_ (by assumption) | refine Kept_var ?_ | refine Kept_ev ?_ (by assumption) | refine Kept_has ?_ | refine Kept_out ?_ | refine Kept_ctr ?_)
    | dsimp -zeta only
    | split)

theorem kept_agreeCount {x0 x1} (h0 : Kept g x0) (hk : 524288 &&& g.mask = 524288) : Kept g (State.agreeCount x0 x1) := by
  unfold State.agreeCount
  repeat' (first
    | with_reducible assumption
    | with_reducible refine fun _ => ?_
    | ((try lift_lets); intro s; refine (have hs : Kept g s := ?_; ?_); subst s; rotate_left; clear_value s; rotate_left)
    | ((try lift_lets); first | (intro (x : Mram); subst x) | (intro (x : Compositor); subst x) | (intro (x : Store 32); subst x) | (intro (x : Store 8); subst x) | (intro (x : State × _); subst x) | (intro (x : _ × State); subst x) | (intro (x : _ × _ × State); subst x) | (intro (x : State → _); subst x) | (intro (x : _ → State → _); subst x) | (intro (x : _ → State); subst x) | (intro x; clear_value x))
    | (simp only [↓Kept_mk_iff]; refine And.intro ?_ (And.intro ?_ (And.intro ?_ (And.intro ?_ (And.intro ?_ (And.intro ?_ (And.intro ?_ (And.intro ?_ (And.intro ?_ ?_)))))))))
    | with_reducible (first | apply Kept_ite | apply filter_wf | apply evOk_filter)
    | with_reducible (first | exact Kept_regs (by assumption) (by assumption) | exact Kept_ram (by assumption) (by assumption) | exact Kept_mram (by assumption) (by assumption) | exact Kept_flt (by assumption) (by assumption) | exact Kept_var (by assumption) | exact Kept_ev (by assumption) (by assumption) | exact Kept_has (by assumption) | exact Kept_out (by assumption) | exact Kept_ctr (by assumption) | exact watchE_none (by assumption))
    | with_reducible refine Only_mk ?_ (.inr rfl) (.inr rfl) (.inr rfl) (.inr rfl) (.inr rfl) (.inr rfl) (.inr rfl) (.inr rfl) (.inr rfl) (.inr rfl) (.inr rfl) (.inr rfl) (.inr rfl) (.inr rfl) (.inr rfl) (.inr rfl) (.inl (mask_bit hk rfl)) (.inr rfl) (.inr rfl) (.inr rfl) (.inr rfl) (.inr rfl) (.inr rfl) (.inr rfl) (.inr rfl) (.inr rfl) (.inr rfl) (.inr rfl) (.inr rfl) (.inr rfl)
    | (first | exact mask_sub hk rfl | exact hk)
    | with_reducible (first | refine Kept_snd (by assumption) ?_ | refine Kept_fst (by assumption) ?_)
    | with_reducible exact Kept_of_next (by assumption)
    | with_reducible (refine Kept_of_O (by assumption) ?_)
    | with_reducible (first | refine Kept_regs (g := g) ?_ (by assumption) | refine Kept_ram (g := g) ?_ (by assumption) | refine Kept_mram (g := g) ?_ (by assumption) | refine Kept_flt (g := g) ?_ (by assumption) | refine Kept_var ?_ | refine Kept_ev ?_ (by assumption) | refine Kept_has ?_ | refine Kept_out ?_ | refine Kept_ctr ?_)
    | dsimp -zeta only
    | split)

theorem kept_posMod {x0 x1 x2} (h0 : Kept g x0) (hk : 4194304 &&& g.mask = 4194304) : Kept g (State.posMod x0 x1 x2) := by
  unfold State.posMod
  repeat' (first
    | with_reducible assumption
    | with_reducible refine fun _ => ?_
    | ((try lift_lets); intro s; refine (have hs : Kept g s := ?_; ?_); subst s; rotate_left; clear_value s; rotate_left)
    | ((try lift_lets); first | (intro (x : Mram); subst x) | (intro (x : Compositor); subst x) | (intro (x : Store 32); subst x) | (intro (x : Store 8); subst x) | (intro (x : State × _); subst x) | (intro (x : _ × State); subst x) | (intro (x : _ × _ × State); subst x) | (intro (x : State → _); subst x) | (intro (x : _ → State → _); subst x) | (intro (x : _ → State); subst x) | (intro x; clear_value x))
    | (simp only [↓Kept_mk_iff]; refine And.intro ?_ (And.intro ?_ (And.intro ?_ (And.intro ?_ (And.intro ?_ (And.intro ?_ (And.intro ?_ (And.intro ?_ (And.intro ?_ ?_)))))))))
    | with_reducible (first | apply Kept_ite)
    | with_reducible (first | exact Kept_regs (by assumption) (by assumption) | exact Kept_ram (by assumption) (by assumption) | exact Kept_mram (by assumption) (by assumption) | exact Kept_flt (by assumption) (by assumption) | exact Kept_var (by assumption) | exact Kept_ev (by assumption) (by assumption) | exact Kept_has (by assumption) | exact Kept_out (by assumption) | exact Kept_ctr (by assumption) | exact watchE_none (by assumption))
    | with_reducible refine Only_mk ?_ (.inr rfl) (.inr rfl) (.inr rfl) (.inr rfl) (.inr rfl) (.inr rfl) (.inr rfl) (.inr rfl) (.inr rfl) (.inr rfl) (.inr rfl) (.inr rfl) (.inr rfl) (.inr rfl) (.inr rfl) (.inr rfl) (.inr rfl) (.inr rfl) (.inr rfl) (.inl (mask_bit hk rfl)) (.inr rfl) (.inr rfl) (.inr rfl) (.inr rfl) (.inr rfl) (.inr rfl) (.inr rfl) (.inr rfl) (.inr rfl) (.inr rfl)
    | (first | exact mask_sub hk rfl | exact hk)
    | with_reducible (first | refine Kept_snd (by assumption) ?_ | refine Kept_fst (by assumption) ?_)
    | with_reducible exact Kept_of_next (by assumption)
    | with_reducible (refine Kept_of_O (by assumption) ?_)
    | with_reducible (first | refine Kept_regs (g := g) ?_ (by assumption) | refine Kept_ram (g := g) ?_ (by assumption) | refine Kept_mram (g := g) ?_ (by assumption) | refine Kept_flt (g := g) ?_ (by assumption) | refine Kept_var ?_ | refine Kept_ev ?_ (by assumption) | refine Kept_has ?_ | refine Kept_out ?_ | refine Kept_ctr ?_)
    | dsimp -zeta only
    | split)

theorem kept_alarmCount {x0 x1 x2 x3 x4} (h0 : Kept g x0) (hk : 743405632 &&& g.mask = 743405632) : Kept g (State.alarmCount x0 x1 x2 x3 x4) := by
  unfold State.alarmCount
  repeat' (first | with_reducible assumption | exact mask_sub hk rfl | with_reducible (first | apply kept_posMod | apply kept_setCause | apply Kept_ite) | split | intro _)

theorem kept_anchorCancelGranted {x0} (h0 : Kept g x0) (hk : 16384 &&& g.mask = 16384) : Kept g (State.anchorCancelGranted x0) := by
  unfold State.anchorCancelGranted
  repeat' (first | with_reducible assumption | exact mask_sub hk rfl | with_reducible (first | apply kept_anchorEnd | apply Kept_ite) | split | intro _)

theorem kept_anchorReqGranted {x0} (h0 : Kept g x0) (hk : 16384 &&& g.mask = 16384) : Kept g (State.anchorReqGranted x0) := by
  unfold State.anchorReqGranted
  repeat' (first
    | with_reducible assumption
    | with_reducible refine fun _ => ?_
    | ((try lift_lets); intro s; refine (have hs : Kept g s := ?_; ?_); subst s; rotate_left; clear_value s; rotate_left)
    | ((try lift_lets); first | (intro (x : Mram); subst x) | (intro (x : Compositor); subst x) | (intro (x : Store 32); subst x) | (intro (x : Store 8); subst x) | (intro (x : State × _); subst x) | (intro (x : _ × State); subst x) | (intro (x : _ × _ × State); subst x) | (intro (x : State → _); subst x) | (intro (x : _ → State → _); subst x) | (intro (x : _ → State); subst x) | (intro x; clear_value x))
    | (simp only [↓Kept_mk_iff]; refine And.intro ?_ (And.intro ?_ (And.intro ?_ (And.intro ?_ (And.intro ?_ (And.intro ?_ (And.intro ?_ (And.intro ?_ (And.intro ?_ ?_)))))))))
    | with_reducible (first | apply kept_setF | apply kept_raise | apply kept_setReg | apply Kept_ite)
    | with_reducible (first | exact Kept_regs (by assumption) (by assumption) | exact Kept_ram (by assumption) (by assumption) | exact Kept_mram (by assumption) (by assumption) | exact Kept_flt (by assumption) (by assumption) | exact Kept_var (by assumption) | exact Kept_ev (by assumption) (by assumption) | exact Kept_has (by assumption) | exact Kept_out (by assumption) | exact Kept_ctr (by assumption) | exact watchE_none (by assumption))
    | with_reducible refine Only_mk ?_ (.inr rfl) (.inr rfl) (.inr rfl) (.inr rfl) (.inr rfl) (.inr rfl) (.inr rfl) (.inr rfl) (.inr rfl) (.inr rfl) (.inr rfl) (.inl (mask_bit hk rfl)) (.inr rfl) (.inr rfl) (.inr rfl) (.inr rfl) (.inr rfl) (.inr rfl) (.inr rfl) (.inr rfl) (.inr rfl) (.inr rfl) (.inr rfl) (.inr rfl) (.inr rfl) (.inr rfl) (.inr rfl) (.inr rfl) (.inr rfl) (.inr rfl)
    | (first | exact mask_sub hk rfl | exact hk)
    | with_reducible (first | refine Kept_snd (by assumption) ?_ | refine Kept_fst (by assumption) ?_)
    | with_reducible exact Kept_of_next (by assumption)
    | with_reducible (refine Kept_of_O (by assumption) ?_)
    | with_reducible (first | refine Kept_regs (g := g) ?_ (by assumption) | refine Kept_ram (g := g) ?_ (by assumption) | refine Kept_mram (g := g) ?_ (by assumption) | refine Kept_flt (g := g) ?_ (by assumption) | refine Kept_var ?_ | refine Kept_ev ?_ (by assumption) | refine Kept_has ?_ | refine Kept_out ?_ | refine Kept_ctr ?_)
    | dsimp -zeta only
    | split)

theorem kept_cellsMap {x0 x1} (h0 : Kept g x0) (hk : 1048576 &&& g.mask = 1048576) : Kept g (State.cellsMap x0 x1) := by
  unfold State.cellsMap
  repeat' (first
    | with_reducible assumption
    | with_reducible refine fun _ => ?_
    | ((try lift_lets); intro s; refine (have hs : Kept g s := ?_; ?_); subst s; rotate_left; clear_value s; rotate_left)
    | ((try lift_lets); first | (intro (x : Mram); subst x) | (intro (x : Compositor); subst x) | (intro (x : Store 32); subst x) | (intro (x : Store 8); subst x) | (intro (x : State × _); subst x) | (intro (x : _ × State); subst x) | (intro (x : _ × _ × State); subst x) | (intro (x : State → _); subst x) | (intro (x : _ → State → _); subst x) | (intro (x : _ → State); subst x) | (intro x; clear_value x))
    | (simp only [↓Kept_mk_iff]; refine And.intro ?_ (And.intro ?_ (And.intro ?_ (And.intro ?_ (And.intro ?_ (And.intro ?_ (And.intro ?_ (And.intro ?_ (And.intro ?_ ?_)))))))))
    | with_reducible (first | apply Kept_ite)
    | with_reducible (first | exact Kept_regs (by assumption) (by assumption) | exact Kept_ram (by assumption) (by assumption) | exact Kept_mram (by assumption) (by assumption) | exact Kept_flt (by assumption) (by assumption) | exact Kept_var (by assumption) | exact Kept_ev (by assumption) (by assumption) | exact Kept_has (by assumption) | exact Kept_out (by assumption) | exact Kept_ctr (by assumption) | exact watchE_none (by assumption))
    | with_reducible refine Only_mk ?_ (.inr rfl) (.inr rfl) (.inr rfl) (.inr rfl) (.inr rfl) (.inr rfl) (.inr rfl) (.inr rfl) (.inr rfl) (.inr rfl) (.inr rfl) (.inr rfl) (.inr rfl) (.inr rfl) (.inr rfl) (.inr rfl) (.inr rfl) (.inl (mask_bit hk rfl)) (.inr rfl) (.inr rfl) (.inr rfl) (.inr rfl) (.inr rfl) (.inr rfl) (.inr rfl) (.inr rfl) (.inr rfl) (.inr rfl) (.inr rfl) (.inr rfl)
    | (first | exact mask_sub hk rfl | exact hk)
    | with_reducible (first | refine Kept_snd (by assumption) ?_ | refine Kept_fst (by assumption) ?_)
    | with_reducible exact Kept_of_next (by assumption)
    | with_reducible (refine Kept_of_O (by assumption) ?_)
    | with_reducible (first | refine Kept_regs (g := g) ?_ (by assumption) | refine Kept_ram (g := g) ?_ (by assumption) | refine Kept_mram (g := g) ?_ (by assumption) | refine Kept_flt (g := g) ?_ (by assumption) | refine Kept_var ?_ | refine Kept_ev ?_ (by assumption) | refine Kept_has ?_ | refine Kept_out ?_ | refine Kept_ctr ?_)
    | dsimp -zeta only
    | split)

theorem kept_anchorUpdate {x0 x1} (h0 : Kept g x0) (hk : 1048576 &&& g.mask = 1048576) : Kept g (State.anchorUpdate x0 x1) := by
  unfold State.anchorUpdate
  try generalize @State.hours = g0
  try generalize @F64.rat = g1
  try generalize @State.getReg = g2
  try generalize @withIdx = g3
  try generalize @CellEst.measure = g4
  try generalize @PSet.clamp = g5
  try generalize @CellEst.conf = g6
  try generalize @CellEst.modelRemain = g7
  repeat' (first
    | with_reducible assumption
    | with_reducible refine fun _ => ?_
    | ((try lift_lets); intro s; refine (have hs : Kept g s := ?_; ?_); subst s; rotate_left; clear_value s; rotate_left)
    | ((try lift_lets); first | (intro (x : Mram); subst x) | (intro (x : Compositor); subst x) | (intro (x : Store 32); subst x) | (intro (x : Store 8); subst x) | (intro (x : State × _); subst x) | (intro (x : _ × State); subst x) | (intro (x : _ × _ × State); subst x) | (intro (x : State → _); subst x) | (intro (x : _ → State → _); subst x) | (intro (x : _ → State); subst x) | (intro x; clear_value x))
    | (simp only [↓Kept_mk_iff]; refine And.intro ?_ (And.intro ?_ (And.intro ?_ (And.intro ?_ (And.intro ?_ (And.intro ?_ (And.intro ?_ (And.intro ?_ (And.intro ?_ ?_)))))))))
    | with_reducible (first | apply kept_cellsMap | apply kept_raise | apply kept_setB | apply Kept_ite)
    | with_reducible (first | exact Kept_regs (by assumption) (by assumption) | exact Kept_ram (by assumption) (by assumption) | exact Kept_mram (by assumption) (by assumption) | exact Kept_flt (by assumption) (by assumption) | exact Kept_var (by assumption) | exact Kept_ev (by assumption) (by assumption) | exact Kept_has (by assumption) | exact Kept_out (by assumption) | exact Kept_ctr (by assumption) | exact watchE_none (by assumption))
    | with_reducible refine Only_mk ?_ (.inr rfl) (.inr rfl) (.inr rfl) (.inr rfl) (.inr rfl) (.inr rfl) (.inr rfl) (.inr rfl) (.inr rfl) (.inr rfl) (.inr rfl) (.inr rfl) (.inr rfl) (.inr rfl) (.inr rfl) (.inr rfl) (.inr rfl) (.inl (mask_bit hk rfl)) (.inr rfl) (.inr rfl) (.inr rfl) (.inr rfl) (.inr rfl) (.inr rfl) (.inr rfl) (.inr rfl) (.inr rfl) (.inr rfl) (.inr rfl) (.inr rfl)
    | (first | exact mask_sub hk rfl | exact hk)
    | with_reducible (first | refine Kept_snd (by assumption) ?_ | refine Kept_fst (by assumption) ?_)
    | with_reducible exact Kept_of_next (by assumption)
    | with_reducible (refine Kept_of_O (by assumption) ?_)
    | with_reducible (first | refine Kept_regs (g := g) ?_ (by assumption) | refine Kept_ram (g := g) ?_ (by assumption) | refine Kept_mram (g := g) ?_ (by assumption) | refine Kept_flt (g := g) ?_ (by assumption) | refine Kept_var ?_ | refine Kept_ev ?_ (by assumption) | refine Kept_has ?_ | refine Kept_out ?_ | refine Kept_ctr ?_)
    | dsimp -zeta only
    | split)

theorem kept_cellsMsg {x0} (h0 : Kept g x0) : Kept g (State.cellsMsg x0).2 := by
  unfold State.cellsMsg
  repeat' (first | with_reducible assumption | with_reducible (first | apply kept_fresh | apply Kept_ite) | split | intro _)

theorem kept_pairMsg {x0} (h0 : Kept g x0) : Kept g (State.pairMsg x0).2 := by
  unfold State.pairMsg
  repeat' (first | with_reducible assumption | with_reducible (first | apply kept_fresh | apply Kept_ite) | split | intro _)

theorem kept_messageOf {x0 x1} (h0 : Kept g x0) : Kept g (State.messageOf x0 x1).2 := by
  unfold State.messageOf
  repeat' (first | with_reducible assumption | with_reducible (first | apply kept_cellsMsg | apply kept_pairMsg | apply Kept_ite) | split | intro _)

theorem kept_sendFunction {x0 x1 x2} (h0 : Kept g x0) (hk : 671088640 &&& g.mask = 671088640) : Kept g (State.sendFunction x0 x1 x2) := by
  unfold State.sendFunction
  repeat' (first | with_reducible assumption | exact mask_sub hk rfl | with_reducible (first | apply kept_messageOf | apply kept_functionTx | apply kept_annEth | apply Kept_ite) | split | intro _)

theorem kept_announceGranted {x0 x1 x2 x3} (h0 : Kept g x0) (hk : 671088640 &&& g.mask = 671088640) : Kept g (State.announceGranted x0 x1 x2 x3) := by
  unfold State.announceGranted
  repeat' (first
    | with_reducible assumption
    | with_reducible refine fun _ => ?_
    | ((try lift_lets); intro s; refine (have hs : Kept g s := ?_; ?_); subst s; rotate_left; clear_value s; rotate_left)
    | ((try lift_lets); first | (intro (x : Mram); subst x) | (intro (x : Compositor); subst x) | (intro (x : Store 32); subst x) | (intro (x : Store 8); subst x) | (intro (x : State × _); subst x) | (intro (x : _ × State); subst x) | (intro (x : _ × _ × State); subst x) | (intro (x : State → _); subst x) | (intro (x : _ → State → _); subst x) | (intro (x : _ → State); subst x) | (intro x; clear_value x))
    | (simp only [↓Kept_mk_iff]; refine And.intro ?_ (And.intro ?_ (And.intro ?_ (And.intro ?_ (And.intro ?_ (And.intro ?_ (And.intro ?_ (And.intro ?_ (And.intro ?_ ?_)))))))))
    | with_reducible (first | apply kept_annSend | apply kept_sendFunction | apply Kept_ite | apply Kept_foldl | apply filter_wf | apply evOk_filter)
    | with_reducible (first | exact Kept_regs (by assumption) (by assumption) | exact Kept_ram (by assumption) (by assumption) | exact Kept_mram (by assumption) (by assumption) | exact Kept_flt (by assumption) (by assumption) | exact Kept_var (by assumption) | exact Kept_ev (by assumption) (by assumption) | exact Kept_has (by assumption) | exact Kept_out (by assumption) | exact Kept_ctr (by assumption) | exact watchE_none (by assumption))
    | with_reducible refine Only_mk ?_ (.inr rfl) (.inr rfl) (.inr rfl) (.inr rfl) (.inr rfl) (.inr rfl) (.inr rfl) (.inr rfl) (.inr rfl) (.inr rfl) (.inr rfl) (.inr rfl) (.inr rfl) (.inr rfl) (.inr rfl) (.inr rfl) (.inr rfl) (.inr rfl) (.inr rfl) (.inr rfl) (.inr rfl) (.inr rfl) (.inr rfl) (.inr rfl) (.inr rfl) (.inr rfl) (.inr rfl) (.inr rfl) (.inr rfl) (.inr rfl)
    | (first | exact mask_sub hk rfl | exact hk)
    | with_reducible (first | refine Kept_snd (by assumption) ?_ | refine Kept_fst (by assumption) ?_)
    | with_reducible exact Kept_of_next (by assumption)
    | with_reducible (refine Kept_of_O (by assumption) ?_)
    | with_reducible (first | refine Kept_regs (g := g) ?_ (by assumption) | refine Kept_ram (g := g) ?_ (by assumption) | refine Kept_mram (g := g) ?_ (by assumption) | refine Kept_flt (g := g) ?_ (by assumption) | refine Kept_var ?_ | refine Kept_ev ?_ (by assumption) | refine Kept_has ?_ | refine Kept_out ?_ | refine Kept_ctr ?_)
    | dsimp -zeta only
    | split)

theorem kept_setSched {x0 x1} (h0 : Kept g x0) : Kept g (State.setSched x0 x1) := by
  unfold State.setSched
  repeat' (first | with_reducible assumption | with_reducible (first | apply kept_setF | apply Kept_ite) | split | intro _)

theorem kept_enumOut {x0 x1 x2 x3 x4} (h0 : Kept g x0) : Kept g (State.enumOut x0 x1 x2 x3 x4) := by
  unfold State.enumOut
  repeat' (first | with_reducible assumption | with_reducible (first | apply kept_frameOut | apply Kept_ite) | split | intro _)

theorem kept_enumLaunch {x0} (h0 : Kept g x0) (hk : 4194304 &&& g.mask = 4194304) : Kept g (State.enumLaunch x0) := by
  unfold State.enumLaunch
  repeat' (first
    | with_reducible assumption
    | with_reducible refine fun _ => ?_
    | ((try lift_lets); intro s; refine (have hs : Kept g s := ?_; ?_); subst s; rotate_left; clear_value s; rotate_left)
    | ((try lift_lets); first | (intro (x : Mram); subst x) | (intro (x : Compositor); subst x) | (intro (x : Store 32); subst x) | (intro (x : Store 8); subst x) | (intro (x : State × _); subst x) | (intro (x : _ × State); subst x) | (intro (x : _ × _ × State); subst x) | (intro (x : State → _); subst x) | (intro (x : _ → State → _); subst x) | (intro (x : _ → State); subst x) | (intro x; clear_value x))
    | (simp only [↓Kept_mk_iff]; refine And.intro ?_ (And.intro ?_ (And.intro ?_ (And.intro ?_ (And.intro ?_ (And.intro ?_ (And.intro ?_ (And.intro ?_ (And.intro ?_ ?_)))))))))
    | with_reducible (first | apply kept_enumOut | apply Kept_ite)
    | with_reducible (first | exact Kept_regs (by assumption) (by assumption) | exact Kept_ram (by assumption) (by assumption) | exact Kept_mram (by assumption) (by assumption) | exact Kept_flt (by assumption) (by assumption) | exact Kept_var (by assumption) | exact Kept_ev (by assumption) (by assumption) | exact Kept_has (by assumption) | exact Kept_out (by assumption) | exact Kept_ctr (by assumption) | exact watchE_none (by assumption))
    | with_reducible refine Only_mk ?_ (.inr rfl) (.inr rfl) (.inr rfl) (.inr rfl) (.inr rfl) (.inr rfl) (.inr rfl) (.inr rfl) (.inr rfl) (.inr rfl) (.inr rfl) (.inr rfl) (.inr rfl) (.inr rfl) (.inr rfl) (.inr rfl) (.inr rfl) (.inr rfl) (.inr rfl) (.inl (mask_bit hk rfl)) (.inr rfl) (.inr rfl) (.inr rfl) (.inr rfl) (.inr rfl) (.inr rfl) (.inr rfl) (.inr rfl) (.inr rfl) (.inr rfl)
    | (first | exact mask_sub hk rfl | exact hk)
    | with_reducible (first | refine Kept_snd (by assumption) ?_ | refine Kept_fst (by assumption) ?_)
    | with_reducible exact Kept_of_next (by assumption)
    | with_reducible (refine Kept_of_O (by assumption) ?_)
    | with_reducible (first | refine Kept_regs (g := g) ?_ (by assumption) | refine Kept_ram (g := g) ?_ (by assumption) | refine Kept_mram (g := g) ?_ (by assumption) | refine Kept_flt (g := g) ?_ (by assumption) | refine Kept_var ?_ | refine Kept_ev ?_ (by assumption) | refine Kept_has ?_ | refine Kept_out ?_ | refine Kept_ctr ?_)
    | dsimp -zeta only
    | split)

theorem kept_train {x0} (h0 : Kept g x0) : Kept g (State.train x0) := by
  unfold State.train
  repeat' (first
    | with_reducible assumption
    | with_reducible refine fun _ => ?_
    | ((try lift_lets); intro s; refine (have hs : Kept g s := ?_; ?_); subst s; rotate_left; clear_value s; rotate_left)
    | ((try lift_lets); first | (intro (x : Mram); subst x) | (intro (x : Compositor); subst x) | (intro (x : Store 32); subst x) | (intro (x : Store 8); subst x) | (intro (x : State × _); subst x) | (intro (x : _ × State); subst x) | (intro (x : _ × _ × State); subst x) | (intro (x : State → _); subst x) | (intro (x : _ → State → _); subst x) | (intro (x : _ → State); subst x) | (intro x; clear_value x))
    | (simp only [↓Kept_mk_iff]; refine And.intro ?_ (And.intro ?_ (And.intro ?_ (And.intro ?_ (And.intro ?_ (And.intro ?_ (And.intro ?_ (And.intro ?_ (And.intro ?_ ?_)))))))))
    | with_reducible (first | apply kept_setF | apply Kept_ite | apply Kept_foldl)
    | with_reducible (first | exact Kept_regs (by assumption) (by assumption) | exact Kept_ram (by assumption) (by assumption) | exact Kept_mram (by assumption) (by assumption) | exact Kept_flt (by assumption) (by assumption) | exact Kept_var (by assumption) | exact Kept_ev (by assumption) (by assumption) | exact Kept_has (by assumption) | exact Kept_out (by assumption) | exact Kept_ctr (by assumption) | exact watchE_none (by assumption))
    | (first | rfl)
    | with_reducible (first | refine Kept_snd (by assumption) ?_ | refine Kept_fst (by assumption) ?_)
    | with_reducible exact Kept_of_next (by assumption)
    | with_reducible (refine Kept_of_O (by assumption) ?_)
    | with_reducible (first | refine Kept_regs (g := g) ?_ (by assumption) | refine Kept_ram (g := g) ?_ (by assumption) | refine Kept_mram (g := g) ?_ (by assumption) | refine Kept_flt (g := g) ?_ (by assumption) | refine Kept_var ?_ | refine Kept_ev ?_ (by assumption) | refine Kept_has ?_ | refine Kept_out ?_ | refine Kept_ctr ?_)
    | dsimp -zeta only
    | split)

theorem kept_enumBegin {x0} (h0 : Kept g x0) (hk : 4194304 &&& g.mask = 4194304) : Kept g (State.enumBegin x0) := by
  unfold State.enumBegin
  repeat' (first
    | with_reducible assumption
    | with_reducible refine fun _ => ?_
    | ((try lift_lets); intro s; refine (have hs : Kept g s := ?_; ?_); subst s; rotate_left; clear_value s; rotate_left)
    | ((try lift_lets); first | (intro (x : Mram); subst x) | (intro (x : Compositor); subst x) | (intro (x : Store 32); subst x) | (intro (x : Store 8); subst x) | (intro (x : State × _); subst x) | (intro (x : _ × State); subst x) | (intro (x : _ × _ × State); subst x) | (intro (x : State → _); subst x) | (intro (x : _ → State → _); subst x) | (intro (x : _ → State); subst x) | (intro x; clear_value x))
    | (simp only [↓Kept_mk_iff]; refine And.intro ?_ (And.intro ?_ (And.intro ?_ (And.intro ?_ (And.intro ?_ (And.intro ?_ (And.intro ?_ (And.intro ?_ (And.intro ?_ ?_)))))))))
    | with_reducible (first | apply kept_setB | apply kept_setF | apply kept_enumLaunch | apply kept_train | apply kept_setSched | apply Kept_ite)
    | with_reducible (first | exact Kept_regs (by assumption) (by assumption) | exact Kept_ram (by assumption) (by assumption) | exact Kept_mram (by assumption) (by assumption) | exact Kept_flt (by assumption) (by assumption) | exact Kept_var (by assumption) | exact Kept_ev (by assumption) (by assumption) | exact Kept_has (by assumption) | exact Kept_out (by assumption) | exact Kept_ctr (by assumption) | exact watchE_none (by assumption))
    | with_reducible refine Only_mk ?_ (.inr rfl) (.inr rfl) (.inr rfl) (.inr rfl) (.inr rfl) (.inr rfl) (.inr rfl) (.inr rfl) (.inr rfl) (.inr rfl) (.inr rfl) (.inr rfl) (.inr rfl) (.inr rfl) (.inr rfl) (.inr rfl) (.inr rfl) (.inr rfl) (.inr rfl) (.inl (mask_bit hk rfl)) (.inr rfl) (.inr rfl) (.inr rfl) (.inr rfl) (.inr rfl) (.inr rfl) (.inr rfl) (.inr rfl) (.inr rfl) (.inr rfl)
    | (first | exact mask_sub hk rfl | exact hk)
    | with_reducible (first | refine Kept_snd (by assumption) ?_ | refine Kept_fst (by assumption) ?_)
    | with_reducible exact Kept_of_next (by assumption)
    | with_reducible (refine Kept_of_O (by assumption) ?_)
    | with_reducible (first | refine Kept_regs (g := g) ?_ (by assumption) | refine Kept_ram (g := g) ?_ (by assumption) | refine Kept_mram (g := g) ?_ (by assumption) | refine Kept_flt (g := g) ?_ (by assumption) | refine Kept_var ?_ | refine Kept_ev ?_ (by assumption) | refine Kept_has ?_ | refine Kept_out ?_ | refine Kept_ctr ?_)
    | dsimp -zeta only
    | split)

theorem kept_chainStart {x0} (h0 : Kept g x0) (hk : 776960076 &&& g.mask = 776960076) : Kept g (State.chainStart x0) := by
  unfold State.chainStart
  repeat' (first
    | with_reducible assumption
    | with_reducible refine fun _ => ?_
    | ((try lift_lets); intro s; refine (have hs : Kept g s := ?_; ?_); subst s; rotate_left; clear_value s; rotate_left)
    | ((try lift_lets); first | (intro (x : Mram); subst x) | (intro (x : Compositor); subst x) | (intro (x : Store 32); subst x) | (intro (x : Store 8); subst x) | (intro (x : State × _); subst x) | (intro (x : _ × State); subst x) | (intro (x : _ × _ × State); subst x) | (intro (x : State → _); subst x) | (intro (x : _ → State → _); subst x) | (intro (x : _ → State); subst x) | (intro x; clear_value x))
    | (simp only [↓Kept_mk_iff]; refine And.intro ?_ (And.intro ?_ (And.intro ?_ (And.intro ?_ (And.intro ?_ (And.intro ?_ (And.intro ?_ (And.intro ?_ (And.intro ?_ ?_)))))))))
    | with_reducible (first | apply kept_enterSurvey | apply kept_setF | apply kept_setSched | apply kept_enumBegin | apply Kept_ite)
    | with_reducible (first | exact Kept_regs (by assumption) (by assumption) | exact Kept_ram (by assumption) (by assumption) | exact Kept_mram (by assumption) (by assumption) | exact Kept_flt (by assumption) (by assumption) | exact Kept_var (by assumption) | exact Kept_ev (by assumption) (by assumption) | exact Kept_has (by assumption) | exact Kept_out (by assumption) | exact Kept_ctr (by assumption) | exact watchE_none (by assumption))
    | with_reducible refine Only_mk ?_ (.inr rfl) (.inr rfl) (.inr rfl) (.inr rfl) (.inr rfl) (.inr rfl) (.inr rfl) (.inr rfl) (.inr rfl) (.inr rfl) (.inr rfl) (.inr rfl) (.inr rfl) (.inr rfl) (.inr rfl) (.inr rfl) (.inr rfl) (.inr rfl) (.inr rfl) (.inl (mask_bit hk rfl)) (.inr rfl) (.inr rfl) (.inr rfl) (.inr rfl) (.inr rfl) (.inr rfl) (.inr rfl) (.inr rfl) (.inr rfl) (.inr rfl)
    | (first | exact mask_sub hk rfl | exact hk)
    | with_reducible (first | refine Kept_snd (by assumption) ?_ | refine Kept_fst (by assumption) ?_)
    | with_reducible exact Kept_of_next (by assumption)
    | with_reducible (refine Kept_of_O (by assumption) ?_)
    | with_reducible (first | refine Kept_regs (g := g) ?_ (by assumption) | refine Kept_ram (g := g) ?_ (by assumption) | refine Kept_mram (g := g) ?_ (by assumption) | refine Kept_flt (g := g) ?_ (by assumption) | refine Kept_var ?_ | refine Kept_ev ?_ (by assumption) | refine Kept_has ?_ | refine Kept_out ?_ | refine Kept_ctr ?_)
    | dsimp -zeta only
    | split)

theorem kept_discardBad {x0} (h0 : Kept g x0) (hk : 2048 &&& g.mask = 2048) : Kept g (State.discardBad x0) := by
  unfold State.discardBad
  repeat' (first
    | with_reducible assumption
    | with_reducible refine fun _ => ?_
    | ((try lift_lets); intro s; refine (have hs : Kept g s := ?_; ?_); subst s; rotate_left; clear_value s; rotate_left)
    | ((try lift_lets); first | (intro (x : Mram); subst x) | (intro (x : Compositor); subst x) | (intro (x : Store 32); subst x) | (intro (x : Store 8); subst x) | (intro (x : State × _); subst x) | (intro (x : _ × State); subst x) | (intro (x : _ × _ × State); subst x) | (intro (x : State → _); subst x) | (intro (x : _ → State → _); subst x) | (intro (x : _ → State); subst x) | (intro x; clear_value x))
    | (simp only [↓Kept_mk_iff]; refine And.intro ?_ (And.intro ?_ (And.intro ?_ (And.intro ?_ (And.intro ?_ (And.intro ?_ (And.intro ?_ (And.intro ?_ (And.intro ?_ ?_)))))))))
    | with_reducible (first | apply kept_raiseA | apply kept_countF | apply Kept_ite | apply Kept_foldl | apply filter_wf | apply evOk_filter)
    | with_reducible (first | exact Kept_regs (by assumption) (by assumption) | exact Kept_ram (by assumption) (by assumption) | exact Kept_mram (by assumption) (by assumption) | exact Kept_flt (by assumption) (by assumption) | exact Kept_var (by assumption) | exact Kept_ev (by assumption) (by assumption) | exact Kept_has (by assumption) | exact Kept_out (by assumption) | exact Kept_ctr (by assumption) | exact watchE_none (by assumption))
    | with_reducible refine Only_mk ?_ (.inr rfl) (.inr rfl) (.inr rfl) (.inr rfl) (.inr rfl) (.inr rfl) (.inr rfl) (.inr rfl) (.inl (mask_bit hk rfl)) (.inr rfl) (.inr rfl) (.inr rfl) (.inr rfl) (.inr rfl) (.inr rfl) (.inr rfl) (.inr rfl) (.inr rfl) (.inr rfl) (.inr rfl) (.inr rfl) (.inr rfl) (.inr rfl) (.inr rfl) (.inr rfl) (.inr rfl) (.inr rfl) (.inr rfl) (.inr rfl) (.inr rfl)
    | (first | exact mask_sub hk rfl | exact hk)
    | with_reducible (first | refine Kept_snd (by assumption) ?_ | refine Kept_fst (by assumption) ?_)
    | with_reducible exact Kept_of_next (by assumption)
    | with_reducible (refine Kept_of_O (by assumption) ?_)
    | with_reducible (first | refine Kept_regs (g := g) ?_ (by assumption) | refine Kept_ram (g := g) ?_ (by assumption) | refine Kept_mram (g := g) ?_ (by assumption) | refine Kept_flt (g := g) ?_ (by assumption) | refine Kept_var ?_ | refine Kept_ev ?_ (by assumption) | refine Kept_has ?_ | refine Kept_out ?_ | refine Kept_ctr ?_)
    | dsimp -zeta only
    | split)

theorem kept_imageReplay {x0 x1} (h0 : Kept g x0) (hk : 100663364 &&& g.mask = 100663364) : Kept g (State.imageReplay x0 x1) := by
  unfold State.imageReplay
  repeat' (first
    | with_reducible assumption
    | with_reducible refine fun _ => ?_
    | ((try lift_lets); intro s; refine (have hs : Kept g s := ?_; ?_); subst s; rotate_left; clear_value s; rotate_left)
    | ((try lift_lets); first | (intro (x : Mram); subst x) | (intro (x : Compositor); subst x) | (intro (x : Store 32); subst x) | (intro (x : Store 8); subst x) | (intro (x : State × _); subst x) | (intro (x : _ × State); subst x) | (intro (x : _ × _ × State); subst x) | (intro (x : State → _); subst x) | (intro (x : _ → State → _); subst x) | (intro (x : _ → State); subst x) | (intro x; clear_value x))
    | (simp only [↓Kept_mk_iff]; refine And.intro ?_ (And.intro ?_ (And.intro ?_ (And.intro ?_ (And.intro ?_ (And.intro ?_ (And.intro ?_ (And.intro ?_ (And.intro ?_ ?_)))))))))
    | with_reducible (first | apply kept_setImage | apply kept_switchBank | apply kept_raise | apply kept_setF | apply Kept_ite)
    | with_reducible (first | exact Kept_regs (by assumption) (by assumption) | exact Kept_ram (by assumption) (by assumption) | exact Kept_mram (by assumption) (by assumption) | exact Kept_flt (by assumption) (by assumption) | exact Kept_var (by assumption) | exact Kept_ev (by assumption) (by assumption) | exact Kept_has (by assumption) | exact Kept_out (by assumption) | exact Kept_ctr (by assumption) | exact watchE_none (by assumption))
    | with_reducible refine Only_mk ?_ (.inr rfl) (.inr rfl) (.inr rfl) (.inr rfl) (.inr rfl) (.inr rfl) (.inr rfl) (.inr rfl) (.inr rfl) (.inr rfl) (.inr rfl) (.inr rfl) (.inr rfl) (.inr rfl) (.inr rfl) (.inr rfl) (.inr rfl) (.inr rfl) (.inr rfl) (.inr rfl) (.inr rfl) (.inr rfl) (.inl (mask_bit hk rfl)) (.inr rfl) (.inr rfl) (.inr rfl) (.inr rfl) (.inr rfl) (.inr rfl) (.inr rfl)
    | (first | exact mask_sub hk rfl | exact hk)
    | with_reducible (first | refine Kept_snd (by assumption) ?_ | refine Kept_fst (by assumption) ?_)
    | with_reducible exact Kept_of_next (by assumption)
    | with_reducible (refine Kept_of_O (by assumption) ?_)
    | with_reducible (first | refine Kept_regs (g := g) ?_ (by assumption) | refine Kept_ram (g := g) ?_ (by assumption) | refine Kept_mram (g := g) ?_ (by assumption) | refine Kept_flt (g := g) ?_ (by assumption) | refine Kept_var ?_ | refine Kept_ev ?_ (by assumption) | refine Kept_has ?_ | refine Kept_out ?_ | refine Kept_ctr ?_)
    | dsimp -zeta only
    | split)

theorem kept_capShow {x0} (h0 : Kept g x0) (hk : 64 &&& g.mask = 64) : Kept g (State.capShow x0) := by
  unfold State.capShow
  repeat' (first | with_reducible assumption | exact mask_sub hk rfl | with_reducible (first | apply kept_setB | apply kept_toMram | apply Kept_ite) | split | intro _)

theorem kept_capDone {x0 x1} (h0 : Kept g x0) (hk : 1048640 &&& g.mask = 1048640) : Kept g (State.capDone x0 x1) := by
  unfold State.capDone
  repeat' (first
    | with_reducible assumption
    | with_reducible refine fun _ => ?_
    | ((try lift_lets); intro s; refine (have hs : Kept g s := ?_; ?_); subst s; rotate_left; clear_value s; rotate_left)
    | ((try lift_lets); first | (intro (x : Mram); subst x) | (intro (x : Compositor); subst x) | (intro (x : Store 32); subst x) | (intro (x : Store 8); subst x) | (intro (x : State × _); subst x) | (intro (x : _ × State); subst x) | (intro (x : _ × _ × State); subst x) | (intro (x : State → _); subst x) | (intro (x : _ → State → _); subst x) | (intro (x : _ → State); subst x) | (intro x; clear_value x))
    | (simp only [↓Kept_mk_iff]; refine And.intro ?_ (And.intro ?_ (And.intro ?_ (And.intro ?_ (And.intro ?_ (And.intro ?_ (And.intro ?_ (And.intro ?_ (And.intro ?_ ?_)))))))))
    | with_reducible (first | apply kept_capShow | apply kept_raise | apply kept_toMram | apply kept_countF | apply Kept_ite | apply filter_wf | apply evOk_filter)
    | with_reducible (first | exact Kept_regs (by assumption) (by assumption) | exact Kept_ram (by assumption) (by assumption) | exact Kept_mram (by assumption) (by assumption) | exact Kept_flt (by assumption) (by assumption) | exact Kept_var (by assumption) | exact Kept_ev (by assumption) (by assumption) | exact Kept_has (by assumption) | exact Kept_out (by assumption) | exact Kept_ctr (by assumption) | exact watchE_none (by assumption))
    | with_reducible refine Only_mk ?_ (.inr rfl) (.inr rfl) (.inr rfl) (.inr rfl) (.inr rfl) (.inr rfl) (.inr rfl) (.inr rfl) (.inr rfl) (.inr rfl) (.inr rfl) (.inr rfl) (.inr rfl) (.inr rfl) (.inr rfl) (.inr rfl) (.inr rfl) (.inl (mask_bit hk rfl)) (.inr rfl) (.inr rfl) (.inr rfl) (.inr rfl) (.inr rfl) (.inr rfl) (.inr rfl) (.inr rfl) (.inr rfl) (.inr rfl) (.inr rfl) (.inr rfl)
    | (first | exact mask_sub hk rfl | exact hk)
    | with_reducible (first | refine Kept_snd (by assumption) ?_ | refine Kept_fst (by assumption) ?_)
    | with_reducible exact Kept_of_next (by assumption)
    | with_reducible (refine Kept_of_O (by assumption) ?_)
    | with_reducible (first | refine Kept_regs (g := g) ?_ (by assumption) | refine Kept_ram (g := g) ?_ (by assumption) | refine Kept_mram (g := g) ?_ (by assumption) | refine Kept_flt (g := g) ?_ (by assumption) | refine Kept_var ?_ | refine Kept_ev ?_ (by assumption) | refine Kept_has ?_ | refine Kept_out ?_ | refine Kept_ctr ?_)
    | dsimp -zeta only
    | split)

theorem kept_capReplay {x0} (h0 : Kept g x0) (hk : 1048640 &&& g.mask = 1048640) : Kept g (State.capReplay x0) := by
  unfold State.capReplay
  repeat' (first
    | with_reducible assumption
    | with_reducible refine fun _ => ?_
    | ((try lift_lets); intro s; refine (have hs : Kept g s := ?_; ?_); subst s; rotate_left; clear_value s; rotate_left)
    | ((try lift_lets); first | (intro (x : Mram); subst x) | (intro (x : Compositor); subst x) | (intro (x : Store 32); subst x) | (intro (x : Store 8); subst x) | (intro (x : State × _); subst x) | (intro (x : _ × State); subst x) | (intro (x : _ × _ × State); subst x) | (intro (x : State → _); subst x) | (intro (x : _ → State → _); subst x) | (intro (x : _ → State); subst x) | (intro x; clear_value x))
    | (simp only [↓Kept_mk_iff]; refine And.intro ?_ (And.intro ?_ (And.intro ?_ (And.intro ?_ (And.intro ?_ (And.intro ?_ (And.intro ?_ (And.intro ?_ (And.intro ?_ ?_)))))))))
    | with_reducible (first | apply kept_capDone | apply Kept_ite | apply filter_wf | apply evOk_filter)
    | with_reducible (first | exact Kept_regs (by assumption) (by assumption) | exact Kept_ram (by assumption) (by assumption) | exact Kept_mram (by assumption) (by assumption) | exact Kept_flt (by assumption) (by assumption) | exact Kept_var (by assumption) | exact Kept_ev (by assumption) (by assumption) | exact Kept_has (by assumption) | exact Kept_out (by assumption) | exact Kept_ctr (by assumption) | exact watchE_none (by assumption))
    | with_reducible refine Only_mk ?_ (.inr rfl) (.inr rfl) (.inr rfl) (.inr rfl) (.inr rfl) (.inr rfl) (.inr rfl) (.inr rfl) (.inr rfl) (.inr rfl) (.inr rfl) (.inr rfl) (.inr rfl) (.inr rfl) (.inr rfl) (.inr rfl) (.inr rfl) (.inl (mask_bit hk rfl)) (.inr rfl) (.inr rfl) (.inr rfl) (.inr rfl) (.inr rfl) (.inr rfl) (.inr rfl) (.inr rfl) (.inr rfl) (.inr rfl) (.inr rfl) (.inr rfl)
    | (first | exact mask_sub hk rfl | exact hk)
    | with_reducible (first | refine Kept_snd (by assumption) ?_ | refine Kept_fst (by assumption) ?_)
    | with_reducible exact Kept_of_next (by assumption)
    | with_reducible (refine Kept_of_O (by assumption) ?_)
    | with_reducible (first | refine Kept_regs (g := g) ?_ (by assumption) | refine Kept_ram (g := g) ?_ (by assumption) | refine Kept_mram (g := g) ?_ (by assumption) | refine Kept_flt (g := g) ?_ (by assumption) | refine Kept_var ?_ | refine Kept_ev ?_ (by assumption) | refine Kept_has ?_ | refine Kept_out ?_ | refine Kept_ctr ?_)
    | dsimp -zeta only
    | split)

theorem kept_replayLine {x0 x1} (h0 : Kept g x0) (hk : 118556740 &&& g.mask = 118556740) : Kept g (State.replayLine x0 x1) := by
  unfold State.replayLine
  repeat' (first
    | with_reducible assumption
    | with_reducible refine fun _ => ?_
    | ((try lift_lets); intro s; refine (have hs : Kept g s := ?_; ?_); subst s; rotate_left; clear_value s; rotate_left)
    | ((try lift_lets); first | (intro (x : Mram); subst x) | (intro (x : Compositor); subst x) | (intro (x : Store 32); subst x) | (intro (x : Store 8); subst x) | (intro (x : State × _); subst x) | (intro (x : _ × State); subst x) | (intro (x : _ × _ × State); subst x) | (intro (x : State → _); subst x) | (intro (x : _ → State → _); subst x) | (intro (x : _ → State); subst x) | (intro x; clear_value x))
    | (simp only [↓Kept_mk_iff]; refine And.intro ?_ (And.intro ?_ (And.intro ?_ (And.intro ?_ (And.intro ?_ (And.intro ?_ (And.intro ?_ (And.intro ?_ (And.intro ?_ ?_)))))))))
    | with_reducible (first | apply kept_setReg | apply kept_countF | apply kept_galShow | apply kept_raiseA | apply kept_setCmd | apply kept_imageReplay | apply kept_raise | apply kept_setF | apply kept_capReplay | apply Kept_ite)
    | with_reducible (first | exact Kept_regs (by assumption) (by assumption) | exact Kept_ram (by assumption) (by assumption) | exact Kept_mram (by assumption) (by assumption) | exact Kept_flt (by assumption) (by assumption) | exact Kept_var (by assumption) | exact Kept_ev (by assumption) (by assumption) | exact Kept_has (by assumption) | exact Kept_out (by assumption) | exact Kept_ctr (by assumption) | exact watchE_none (by assumption))
    | with_reducible refine Only_mk ?_ (.inr rfl) (.inr rfl) (.inr rfl) (.inr rfl) (.inr rfl) (.inr rfl) (.inr rfl) (.inr rfl) (.inl (mask_bit hk rfl)) (.inr rfl) (.inr rfl) (.inr rfl) (.inr rfl) (.inr rfl) (.inr rfl) (.inr rfl) (.inr rfl) (.inr rfl) (.inr rfl) (.inr rfl) (.inr rfl) (.inl (mask_bit hk rfl)) (.inr rfl) (.inr rfl) (.inr rfl) (.inr rfl) (.inr rfl) (.inr rfl) (.inr rfl) (.inr rfl)
    | (first | exact mask_sub hk rfl | exact hk)
    | with_reducible (first | refine Kept_snd (by assumption) ?_ | refine Kept_fst (by assumption) ?_)
    | with_reducible exact Kept_of_next (by assumption)
    | with_reducible (refine Kept_of_O (by assumption) ?_)
    | with_reducible (first | refine Kept_regs (g := g) ?_ (by assumption) | refine Kept_ram (g := g) ?_ (by assumption) | refine Kept_mram (g := g) ?_ (by assumption) | refine Kept_flt (g := g) ?_ (by assumption) | refine Kept_var ?_ | refine Kept_ev ?_ (by assumption) | refine Kept_has ?_ | refine Kept_out ?_ | refine Kept_ctr ?_)
    | dsimp -zeta only
    | split)

theorem kept_replay {x0 x1} (h0 : Kept g x0) (hk : 118556740 &&& g.mask = 118556740) : Kept g (State.replay x0 x1) := by
  unfold State.replay
  repeat' (first
    | with_reducible assumption
    | with_reducible refine fun _ => ?_
    | ((try lift_lets); intro s; refine (have hs : Kept g s := ?_; ?_); subst s; rotate_left; clear_value s; rotate_left)
    | ((try lift_lets); first | (intro (x : Mram); subst x) | (intro (x : Compositor); subst x) | (intro (x : Store 32); subst x) | (intro (x : Store 8); subst x) | (intro (x : State × _); subst x) | (intro (x : _ × State); subst x) | (intro (x : _ × _ × State); subst x) | (intro (x : State → _); subst x) | (intro (x : _ → State → _); subst x) | (intro (x : _ → State); subst x) | (intro x; clear_value x))
    | (simp only [↓Kept_mk_iff]; refine And.intro ?_ (And.intro ?_ (And.intro ?_ (And.intro ?_ (And.intro ?_ (And.intro ?_ (And.intro ?_ (And.intro ?_ (And.intro ?_ ?_)))))))))
    | with_reducible (first | apply kept_replayLine | apply Kept_ite | apply Kept_foldl | apply filter_wf | apply evOk_filter)
    | with_reducible (first | exact Kept_regs (by assumption) (by assumption) | exact Kept_ram (by assumption) (by assumption) | exact Kept_mram (by assumption) (by assumption) | exact Kept_flt (by assumption) (by assumption) | exact Kept_var (by assumption) | exact Kept_ev (by assumption) (by assumption) | exact Kept_has (by assumption) | exact Kept_out (by assumption) | exact Kept_ctr (by assumption) | exact watchE_none (by assumption))
    | (first | exact mask_sub hk rfl | exact hk)
    | with_reducible (first | refine Kept_snd (by assumption) ?_ | refine Kept_fst (by assumption) ?_)
    | with_reducible exact Kept_of_next (by assumption)
    | with_reducible (refine Kept_of_O (by assumption) ?_)
    | with_reducible (first | refine Kept_regs (g := g) ?_ (by assumption) | refine Kept_ram (g := g) ?_ (by assumption) | refine Kept_mram (g := g) ?_ (by assumption) | refine Kept_flt (g := g) ?_ (by assumption) | refine Kept_var ?_ | refine Kept_ev ?_ (by assumption) | refine Kept_has ?_ | refine Kept_out ?_ | refine Kept_ctr ?_)
    | dsimp -zeta only
    | split)

theorem kept_galleyStart {x0} (h0 : Kept g x0) (hk : 118556740 &&& g.mask = 118556740) : Kept g (State.galleyStart x0) := by
  unfold State.galleyStart
  repeat' (first | with_reducible assumption | exact mask_sub hk rfl | with_reducible (first | apply kept_discardBad | apply kept_setF | apply kept_galShow | apply kept_replay | apply Kept_ite) | split | intro _)

theorem kept_appStart {x0 x1} (h0 : Kept g x0) (hk : 794785868 &&& g.mask = 794785868) : Kept g (State.appStart x0 x1) := by
  unfold State.appStart
  repeat' (first
    | with_reducible assumption
    | with_reducible refine fun _ => ?_
    | ((try lift_lets); intro s; refine (have hs : Kept g s := ?_; ?_); subst s; rotate_left; clear_value s; rotate_left)
    | ((try lift_lets); first | (intro (x : Mram); subst x) | (intro (x : Compositor); subst x) | (intro (x : Store 32); subst x) | (intro (x : Store 8); subst x) | (intro (x : State × _); subst x) | (intro (x : _ × State); subst x) | (intro (x : _ × _ × State); subst x) | (intro (x : State → _); subst x) | (intro (x : _ → State → _); subst x) | (intro (x : _ → State); subst x) | (intro x; clear_value x))
    | (simp only [↓Kept_mk_iff]; refine And.intro ?_ (And.intro ?_ (And.intro ?_ (And.intro ?_ (And.intro ?_ (And.intro ?_ (And.intro ?_ (And.intro ?_ (And.intro ?_ ?_)))))))))
    | with_reducible (first | apply kept_copyShow | apply kept_setImage | apply kept_setF | apply kept_raiseIf | apply kept_chainStart | apply kept_galleyStart | apply Kept_ite)
    | with_reducible (first | exact Kept_regs (by assumption) (by assumption) | exact Kept_ram (by assumption) (by assumption) | exact Kept_mram (by assumption) (by assumption) | exact Kept_flt (by assumption) (by assumption) | exact Kept_var (by assumption) | exact Kept_ev (by assumption) (by assumption) | exact Kept_has (by assumption) | exact Kept_out (by assumption) | exact Kept_ctr (by assumption) | exact watchE_none (by assumption))
    | with_reducible refine Only_mk ?_ (.inr rfl) (.inr rfl) (.inr rfl) (.inr rfl) (.inr rfl) (.inr rfl) (.inr rfl) (.inr rfl) (.inr rfl) (.inr rfl) (.inr rfl) (.inr rfl) (.inr rfl) (.inr rfl) (.inr rfl) (.inr rfl) (.inr rfl) (.inr rfl) (.inr rfl) (.inr rfl) (.inr rfl) (.inr rfl) (.inr rfl) (.inl (mask_bit hk rfl)) (.inr rfl) (.inr rfl) (.inr rfl) (.inr rfl) (.inr rfl) (.inr rfl)
    | (first | exact mask_sub hk rfl | exact hk)
    | with_reducible (first | refine Kept_snd (by assumption) ?_ | refine Kept_fst (by assumption) ?_)
    | with_reducible exact Kept_of_next (by assumption)
    | with_reducible (refine Kept_of_O (by assumption) ?_)
    | with_reducible (first | refine Kept_regs (g := g) ?_ (by assumption) | refine Kept_ram (g := g) ?_ (by assumption) | refine Kept_mram (g := g) ?_ (by assumption) | refine Kept_flt (g := g) ?_ (by assumption) | refine Kept_var ?_ | refine Kept_ev ?_ (by assumption) | refine Kept_has ?_ | refine Kept_out ?_ | refine Kept_ctr ?_)
    | dsimp -zeta only
    | split)

theorem kept_mirrorEst {x0 x1} (h0 : Kept g x0) (hk : 1048576 &&& g.mask = 1048576) : Kept g (State.mirrorEst x0 x1) := by
  unfold State.mirrorEst
  repeat' (first
    | with_reducible assumption
    | with_reducible refine fun _ => ?_
    | ((try lift_lets); intro s; refine (have hs : Kept g s := ?_; ?_); subst s; rotate_left; clear_value s; rotate_left)
    | ((try lift_lets); first | (intro (x : Mram); subst x) | (intro (x : Compositor); subst x) | (intro (x : Store 32); subst x) | (intro (x : Store 8); subst x) | (intro (x : State × _); subst x) | (intro (x : _ × State); subst x) | (intro (x : _ × _ × State); subst x) | (intro (x : State → _); subst x) | (intro (x : _ → State → _); subst x) | (intro (x : _ → State); subst x) | (intro x; clear_value x))
    | (simp only [↓Kept_mk_iff]; refine And.intro ?_ (And.intro ?_ (And.intro ?_ (And.intro ?_ (And.intro ?_ (And.intro ?_ (And.intro ?_ (And.intro ?_ (And.intro ?_ ?_)))))))))
    | with_reducible (first | apply kept_setF | apply kept_setB | apply Kept_ite)
    | with_reducible (first | exact Kept_regs (by assumption) (by assumption) | exact Kept_ram (by assumption) (by assumption) | exact Kept_mram (by assumption) (by assumption) | exact Kept_flt (by assumption) (by assumption) | exact Kept_var (by assumption) | exact Kept_ev (by assumption) (by assumption) | exact Kept_has (by assumption) | exact Kept_out (by assumption) | exact Kept_ctr (by assumption) | exact watchE_none (by assumption))
    | with_reducible refine Only_mk ?_ (.inr rfl) (.inr rfl) (.inr rfl) (.inr rfl) (.inr rfl) (.inr rfl) (.inr rfl) (.inr rfl) (.inr rfl) (.inr rfl) (.inr rfl) (.inr rfl) (.inr rfl) (.inr rfl) (.inr rfl) (.inr rfl) (.inr rfl) (.inl (mask_bit hk rfl)) (.inr rfl) (.inr rfl) (.inr rfl) (.inr rfl) (.inr rfl) (.inr rfl) (.inr rfl) (.inr rfl) (.inr rfl) (.inr rfl) (.inr rfl) (.inr rfl)
    | (first | exact mask_sub hk rfl | exact hk)
    | with_reducible (first | refine Kept_snd (by assumption) ?_ | refine Kept_fst (by assumption) ?_)
    | with_reducible exact Kept_of_next (by assumption)
    | with_reducible (refine Kept_of_O (by assumption) ?_)
    | with_reducible (first | refine Kept_regs (g := g) ?_ (by assumption) | refine Kept_ram (g := g) ?_ (by assumption) | refine Kept_mram (g := g) ?_ (by assumption) | refine Kept_flt (g := g) ?_ (by assumption) | refine Kept_var ?_ | refine Kept_ev ?_ (by assumption) | refine Kept_has ?_ | refine Kept_out ?_ | refine Kept_ctr ?_)
    | dsimp -zeta only
    | split)

theorem kept_slotMap {x0} (h0 : Kept g x0) : Kept g (State.slotMap x0) := by
  unfold State.slotMap
  repeat' (first | with_reducible assumption | with_reducible (first | apply kept_setF | apply kept_setReg | apply Kept_ite) | split | intro _)

theorem kept_putSlot {x0 x1 x2 x3} (h0 : Kept g x0) (hk : 8192 &&& g.mask = 8192) : Kept g (State.putSlot x0 x1 x2 x3) := by
  unfold State.putSlot
  repeat' (first
    | with_reducible assumption
    | with_reducible refine fun _ => ?_
    | ((try lift_lets); intro s; refine (have hs : Kept g s := ?_; ?_); subst s; rotate_left; clear_value s; rotate_left)
    | ((try lift_lets); first | (intro (x : Mram); subst x) | (intro (x : Compositor); subst x) | (intro (x : Store 32); subst x) | (intro (x : Store 8); subst x) | (intro (x : State × _); subst x) | (intro (x : _ × State); subst x) | (intro (x : _ × _ × State); subst x) | (intro (x : State → _); subst x) | (intro (x : _ → State → _); subst x) | (intro (x : _ → State); subst x) | (intro x; clear_value x))
    | (simp only [↓Kept_mk_iff]; refine And.intro ?_ (And.intro ?_ (And.intro ?_ (And.intro ?_ (And.intro ?_ (And.intro ?_ (And.intro ?_ (And.intro ?_ (And.intro ?_ ?_)))))))))
    | with_reducible (first | apply kept_occurFlag | apply kept_raiseIf | apply kept_slotMap | apply Kept_ite)
    | with_reducible (first | exact Kept_regs (by assumption) (by assumption) | exact Kept_ram (by assumption) (by assumption) | exact Kept_mram (by assumption) (by assumption) | exact Kept_flt (by assumption) (by assumption) | exact Kept_var (by assumption) | exact Kept_ev (by assumption) (by assumption) | exact Kept_has (by assumption) | exact Kept_out (by assumption) | exact Kept_ctr (by assumption) | exact watchE_none (by assumption))
    | with_reducible refine Only_mk ?_ (.inr rfl) (.inr rfl) (.inr rfl) (.inr rfl) (.inr rfl) (.inr rfl) (.inr rfl) (.inr rfl) (.inr rfl) (.inr rfl) (.inl (mask_bit hk rfl)) (.inr rfl) (.inr rfl) (.inr rfl) (.inr rfl) (.inr rfl) (.inr rfl) (.inr rfl) (.inr rfl) (.inr rfl) (.inr rfl) (.inr rfl) (.inr rfl) (.inr rfl) (.inr rfl) (.inr rfl) (.inr rfl) (.inr rfl) (.inr rfl) (.inr rfl)
    | (first | exact mask_sub hk rfl | exact hk)
    | with_reducible (first | refine Kept_snd (by assumption) ?_ | refine Kept_fst (by assumption) ?_)
    | with_reducible exact Kept_of_next (by assumption)
    | with_reducible (refine Kept_of_O (by assumption) ?_)
    | with_reducible (first | refine Kept_regs (g := g) ?_ (by assumption) | refine Kept_ram (g := g) ?_ (by assumption) | refine Kept_mram (g := g) ?_ (by assumption) | refine Kept_flt (g := g) ?_ (by assumption) | refine Kept_var ?_ | refine Kept_ev ?_ (by assumption) | refine Kept_has ?_ | refine Kept_out ?_ | refine Kept_ctr ?_)
    | dsimp -zeta only
    | split)

theorem kept_mirrorLine {x0 x1} (h0 : Kept g x0) (hk : 2048 &&& g.mask = 2048) : Kept g (State.mirrorLine x0 x1) := by
  unfold State.mirrorLine
  repeat' (first
    | with_reducible assumption
    | with_reducible refine fun _ => ?_
    | ((try lift_lets); intro s; refine (have hs : Kept g s := ?_; ?_); subst s; rotate_left; clear_value s; rotate_left)
    | ((try lift_lets); first | (intro (x : Mram); subst x) | (intro (x : Compositor); subst x) | (intro (x : Store 32); subst x) | (intro (x : Store 8); subst x) | (intro (x : State × _); subst x) | (intro (x : _ × State); subst x) | (intro (x : _ × _ × State); subst x) | (intro (x : State → _); subst x) | (intro (x : _ → State → _); subst x) | (intro (x : _ → State); subst x) | (intro x; clear_value x))
    | (simp only [↓Kept_mk_iff]; refine And.intro ?_ (And.intro ?_ (And.intro ?_ (And.intro ?_ (And.intro ?_ (And.intro ?_ (And.intro ?_ (And.intro ?_ (And.intro ?_ ?_)))))))))
    | with_reducible (first | apply Kept_ite)
    | with_reducible (first | exact Kept_regs (by assumption) (by assumption) | exact Kept_ram (by assumption) (by assumption) | exact Kept_mram (by assumption) (by assumption) | exact Kept_flt (by assumption) (by assumption) | exact Kept_var (by assumption) | exact Kept_ev (by assumption) (by assumption) | exact Kept_has (by assumption) | exact Kept_out (by assumption) | exact Kept_ctr (by assumption) | exact watchE_none (by assumption))
    | with_reducible refine Only_mk ?_ (.inr rfl) (.inr rfl) (.inr rfl) (.inr rfl) (.inr rfl) (.inr rfl) (.inr rfl) (.inr rfl) (.inl (mask_bit hk rfl)) (.inr rfl) (.inr rfl) (.inr rfl) (.inr rfl) (.inr rfl) (.inr rfl) (.inr rfl) (.inr rfl) (.inr rfl) (.inr rfl) (.inr rfl) (.inr rfl) (.inr rfl) (.inr rfl) (.inr rfl) (.inr rfl) (.inr rfl) (.inr rfl) (.inr rfl) (.inr rfl) (.inr rfl)
    | (first | exact mask_sub hk rfl | exact hk)
    | with_reducible (first | refine Kept_snd (by assumption) ?_ | refine Kept_fst (by assumption) ?_)
    | with_reducible exact Kept_of_next (by assumption)
    | with_reducible (refine Kept_of_O (by assumption) ?_)
    | with_reducible (first | refine Kept_regs (g := g) ?_ (by assumption) | refine Kept_ram (g := g) ?_ (by assumption) | refine Kept_mram (g := g) ?_ (by assumption) | refine Kept_flt (g := g) ?_ (by assumption) | refine Kept_var ?_ | refine Kept_ev ?_ (by assumption) | refine Kept_has ?_ | refine Kept_out ?_ | refine Kept_ctr ?_)
    | dsimp -zeta only
    | split)

theorem kept_setPstate {x0 x1} (h0 : Kept g x0) : Kept g (State.setPstate x0 x1) := by
  unfold State.setPstate
  repeat' (first | with_reducible assumption | with_reducible (first | apply kept_setF | apply Kept_ite) | split | intro _)

theorem kept_applyMirror {x0 x1} (h0 : Kept g x0) (hk : 9447488 &&& g.mask = 9447488) : Kept g (State.applyMirror x0 x1) := by
  unfold State.applyMirror
  repeat' (first
    | with_reducible assumption
    | with_reducible refine fun _ => ?_
    | ((try lift_lets); intro s; refine (have hs : Kept g s := ?_; ?_); subst s; rotate_left; clear_value s; rotate_left)
    | ((try lift_lets); first | (intro (x : Mram); subst x) | (intro (x : Compositor); subst x) | (intro (x : Store 32); subst x) | (intro (x : Store 8); subst x) | (intro (x : State × _); subst x) | (intro (x : _ × State); subst x) | (intro (x : _ × _ × State); subst x) | (intro (x : State → _); subst x) | (intro (x : _ → State → _); subst x) | (intro (x : _ → State); subst x) | (intro x; clear_value x))
    | (simp only [↓Kept_mk_iff]; refine And.intro ?_ (And.intro ?_ (And.intro ?_ (And.intro ?_ (And.intro ?_ (And.intro ?_ (And.intro ?_ (And.intro ?_ (And.intro ?_ ?_)))))))))
    | with_reducible (first | apply kept_arrive | apply kept_mirrorEst | apply kept_setReg | apply kept_modeChanged | apply kept_toMram | apply kept_putSlot | apply kept_galShow | apply kept_mirrorLine | apply kept_setB | apply kept_raise | apply kept_setPstate | apply Kept_ite | apply Kept_foldl)
    | with_reducible (first | exact Kept_regs (by assumption) (by assumption) | exact Kept_ram (by assumption) (by assumption) | exact Kept_mram (by assumption) (by assumption) | exact Kept_flt (by assumption) (by assumption) | exact Kept_var (by assumption) | exact Kept_ev (by assumption) (by assumption) | exact Kept_has (by assumption) | exact Kept_out (by assumption) | exact Kept_ctr (by assumption) | exact watchE_none (by assumption))
    | with_reducible refine Only_mk ?_ (.inr rfl) (.inr rfl) (.inr rfl) (.inr rfl) (.inr rfl) (.inr rfl) (.inr rfl) (.inr rfl) (.inr rfl) (.inr rfl) (.inr rfl) (.inr rfl) (.inr rfl) (.inr rfl) (.inr rfl) (.inr rfl) (.inr rfl) (.inr rfl) (.inr rfl) (.inr rfl) (.inl (mask_bit hk rfl)) (.inr rfl) (.inr rfl) (.inr rfl) (.inr rfl) (.inr rfl) (.inr rfl) (.inr rfl) (.inr rfl) (.inr rfl)
    | (first | exact mask_sub hk rfl | exact hk)
    | with_reducible (first | refine Kept_snd (by assumption) ?_ | refine Kept_fst (by assumption) ?_)
    | with_reducible exact Kept_of_next (by assumption)
    | with_reducible (refine Kept_of_O (by assumption) ?_)
    | with_reducible (first | refine Kept_regs (g := g) ?_ (by assumption) | refine Kept_ram (g := g) ?_ (by assumption) | refine Kept_mram (g := g) ?_ (by assumption) | refine Kept_flt (g := g) ?_ (by assumption) | refine Kept_var ?_ | refine Kept_ev ?_ (by assumption) | refine Kept_has ?_ | refine Kept_out ?_ | refine Kept_ctr ?_)
    | dsimp -zeta only
    | split)

theorem kept_asyBin {x0 x1 x2 x3} (h0 : Kept g x0) (hk : 262144 &&& g.mask = 262144) : Kept g (State.asyBin x0 x1 x2 x3) := by
  unfold State.asyBin
  repeat' (first
    | with_reducible assumption
    | with_reducible refine fun _ => ?_
    | ((try lift_lets); intro s; refine (have hs : Kept g s := ?_; ?_); subst s; rotate_left; clear_value s; rotate_left)
    | ((try lift_lets); first | (intro (x : Mram); subst x) | (intro (x : Compositor); subst x) | (intro (x : Store 32); subst x) | (intro (x : Store 8); subst x) | (intro (x : State × _); subst x) | (intro (x : _ × State); subst x) | (intro (x : _ × _ × State); subst x) | (intro (x : State → _); subst x) | (intro (x : _ → State → _); subst x) | (intro (x : _ → State); subst x) | (intro x; clear_value x))
    | (simp only [↓Kept_mk_iff]; refine And.intro ?_ (And.intro ?_ (And.intro ?_ (And.intro ?_ (And.intro ?_ (And.intro ?_ (And.intro ?_ (And.intro ?_ (And.intro ?_ ?_)))))))))
    | with_reducible (first | apply kept_setF | apply Kept_ite)
    | with_reducible (first | exact Kept_regs (by assumption) (by assumption) | exact Kept_ram (by assumption) (by assumption) | exact Kept_mram (by assumption) (by assumption) | exact Kept_flt (by assumption) (by assumption) | exact Kept_var (by assumption) | exact Kept_ev (by assumption) (by assumption) | exact Kept_has (by assumption) | exact Kept_out (by assumption) | exact Kept_ctr (by assumption) | exact watchE_none (by assumption))
    | with_reducible refine Only_mk ?_ (.inr rfl) (.inr rfl) (.inr rfl) (.inr rfl) (.inr rfl) (.inr rfl) (.inr rfl) (.inr rfl) (.inr rfl) (.inr rfl) (.inr rfl) (.inr rfl) (.inr rfl) (.inr rfl) (.inr rfl) (.inl (mask_bit hk rfl)) (.inr rfl) (.inr rfl) (.inr rfl) (.inr rfl) (.inr rfl) (.inr rfl) (.inr rfl) (.inr rfl) (.inr rfl) (.inr rfl) (.inr rfl) (.inr rfl) (.inr rfl) (.inr rfl)
    | (first | exact mask_sub hk rfl | exact hk)
    | with_reducible (first | refine Kept_snd (by assumption) ?_ | refine Kept_fst (by assumption) ?_)
    | with_reducible exact Kept_of_next (by assumption)
    | with_reducible (refine Kept_of_O (by assumption) ?_)
    | with_reducible (first | refine Kept_regs (g := g) ?_ (by assumption) | refine Kept_ram (g := g) ?_ (by assumption) | refine Kept_mram (g := g) ?_ (by assumption) | refine Kept_flt (g := g) ?_ (by assumption) | refine Kept_var ?_ | refine Kept_ev ?_ (by assumption) | refine Kept_has ?_ | refine Kept_out ?_ | refine Kept_ctr ?_)
    | dsimp -zeta only
    | split)

theorem kept_asyBegin {x0 x1 x2 x3} (h0 : Kept g x0) (hk : 327680 &&& g.mask = 327680) : Kept g (State.asyBegin x0 x1 x2 x3) := by
  unfold State.asyBegin
  repeat' (first
    | with_reducible assumption
    | with_reducible refine fun _ => ?_
    | ((try lift_lets); intro s; refine (have hs : Kept g s := ?_; ?_); subst s; rotate_left; clear_value s; rotate_left)
    | ((try lift_lets); first | (intro (x : Mram); subst x) | (intro (x : Compositor); subst x) | (intro (x : Store 32); subst x) | (intro (x : Store 8); subst x) | (intro (x : State × _); subst x) | (intro (x : _ × State); subst x) | (intro (x : _ × _ × State); subst x) | (intro (x : State → _); subst x) | (intro (x : _ → State → _); subst x) | (intro (x : _ → State); subst x) | (intro x; clear_value x))
    | (simp only [↓Kept_mk_iff]; refine And.intro ?_ (And.intro ?_ (And.intro ?_ (And.intro ?_ (And.intro ?_ (And.intro ?_ (And.intro ?_ (And.intro ?_ (And.intro ?_ ?_)))))))))
    | with_reducible (first | apply kept_raiseIf | apply kept_setF | apply kept_raise | apply kept_asyBin | apply Kept_ite | apply Kept_foldl)
    | with_reducible (first | exact Kept_regs (by assumption) (by assumption) | exact Kept_ram (by assumption) (by assumption) | exact Kept_mram (by assumption) (by assumption) | exact Kept_flt (by assumption) (by assumption) | exact Kept_var (by assumption) | exact Kept_ev (by assumption) (by assumption) | exact Kept_has (by assumption) | exact Kept_out (by assumption) | exact Kept_ctr (by assumption) | exact watchE_none (by assumption))
    | with_reducible refine Only_mk ?_ (.inr rfl) (.inr rfl) (.inr rfl) (.inr rfl) (.inr rfl) (.inr rfl) (.inr rfl) (.inr rfl) (.inr rfl) (.inr rfl) (.inr rfl) (.inr rfl) (.inr rfl) (.inl (mask_bit hk rfl)) (.inr rfl) (.inl (mask_bit hk rfl)) (.inr rfl) (.inr rfl) (.inr rfl) (.inr rfl) (.inr rfl) (.inr rfl) (.inr rfl) (.inr rfl) (.inr rfl) (.inr rfl) (.inr rfl) (.inr rfl) (.inr rfl) (.inr rfl)
    | (first | exact mask_sub hk rfl | exact hk)
    | with_reducible (first | refine Kept_snd (by assumption) ?_ | refine Kept_fst (by assumption) ?_)
    | with_reducible exact Kept_of_next (by assumption)
    | with_reducible (refine Kept_of_O (by assumption) ?_)
    | with_reducible (first | refine Kept_regs (g := g) ?_ (by assumption) | refine Kept_ram (g := g) ?_ (by assumption) | refine Kept_mram (g := g) ?_ (by assumption) | refine Kept_flt (g := g) ?_ (by assumption) | refine Kept_var ?_ | refine Kept_ev ?_ (by assumption) | refine Kept_has ?_ | refine Kept_out ?_ | refine Kept_ctr ?_)
    | dsimp -zeta only
    | split)

theorem kept_asyCalm {x0 x1 x2} (h0 : Kept g x0) (hk : 262144 &&& g.mask = 262144) : Kept g (State.asyCalm x0 x1 x2) := by
  unfold State.asyCalm
  repeat' (first
    | with_reducible assumption
    | with_reducible refine fun _ => ?_
    | ((try lift_lets); intro s; refine (have hs : Kept g s := ?_; ?_); subst s; rotate_left; clear_value s; rotate_left)
    | ((try lift_lets); first | (intro (x : Mram); subst x) | (intro (x : Compositor); subst x) | (intro (x : Store 32); subst x) | (intro (x : Store 8); subst x) | (intro (x : State × _); subst x) | (intro (x : _ × State); subst x) | (intro (x : _ × _ × State); subst x) | (intro (x : State → _); subst x) | (intro (x : _ → State → _); subst x) | (intro (x : _ → State); subst x) | (intro x; clear_value x))
    | (simp only [↓Kept_mk_iff]; refine And.intro ?_ (And.intro ?_ (And.intro ?_ (And.intro ?_ (And.intro ?_ (And.intro ?_ (And.intro ?_ (And.intro ?_ (And.intro ?_ ?_)))))))))
    | with_reducible (first | apply Kept_ite | apply filter_wf | apply evOk_filter)
    | with_reducible (first | exact Kept_regs (by assumption) (by assumption) | exact Kept_ram (by assumption) (by assumption) | exact Kept_mram (by assumption) (by assumption) | exact Kept_flt (by assumption) (by assumption) | exact Kept_var (by assumption) | exact Kept_ev (by assumption) (by assumption) | exact Kept_has (by assumption) | exact Kept_out (by assumption) | exact Kept_ctr (by assumption) | exact watchE_none (by assumption))
    | with_reducible refine Only_mk ?_ (.inr rfl) (.inr rfl) (.inr rfl) (.inr rfl) (.inr rfl) (.inr rfl) (.inr rfl) (.inr rfl) (.inr rfl) (.inr rfl) (.inr rfl) (.inr rfl) (.inr rfl) (.inr rfl) (.inr rfl) (.inl (mask_bit hk rfl)) (.inr rfl) (.inr rfl) (.inr rfl) (.inr rfl) (.inr rfl) (.inr rfl) (.inr rfl) (.inr rfl) (.inr rfl) (.inr rfl) (.inr rfl) (.inr rfl) (.inr rfl) (.inr rfl)
    | (first | exact mask_sub hk rfl | exact hk)
    | with_reducible (first | refine Kept_snd (by assumption) ?_ | refine Kept_fst (by assumption) ?_)
    | with_reducible exact Kept_of_next (by assumption)
    | with_reducible (refine Kept_of_O (by assumption) ?_)
    | with_reducible (first | refine Kept_regs (g := g) ?_ (by assumption) | refine Kept_ram (g := g) ?_ (by assumption) | refine Kept_mram (g := g) ?_ (by assumption) | refine Kept_flt (g := g) ?_ (by assumption) | refine Kept_var ?_ | refine Kept_ev ?_ (by assumption) | refine Kept_has ?_ | refine Kept_out ?_ | refine Kept_ctr ?_)
    | dsimp -zeta only
    | split)

theorem kept_asyClip {x0 x1} (h0 : Kept g x0) (hk : 262144 &&& g.mask = 262144) : Kept g (State.asyClip x0 x1) := by
  unfold State.asyClip
  repeat' (first
    | with_reducible assumption
    | with_reducible refine fun _ => ?_
    | ((try lift_lets); intro s; refine (have hs : Kept g s := ?_; ?_); subst s; rotate_left; clear_value s; rotate_left)
    | ((try lift_lets); first | (intro (x : Mram); subst x) | (intro (x : Compositor); subst x) | (intro (x : Store 32); subst x) | (intro (x : Store 8); subst x) | (intro (x : State × _); subst x) | (intro (x : _ × State); subst x) | (intro (x : _ × _ × State); subst x) | (intro (x : State → _); subst x) | (intro (x : _ → State → _); subst x) | (intro (x : _ → State); subst x) | (intro x; clear_value x))
    | (simp only [↓Kept_mk_iff]; refine And.intro ?_ (And.intro ?_ (And.intro ?_ (And.intro ?_ (And.intro ?_ (And.intro ?_ (And.intro ?_ (And.intro ?_ (And.intro ?_ ?_)))))))))
    | with_reducible (first | apply Kept_ite)
    | with_reducible (first | exact Kept_regs (by assumption) (by assumption) | exact Kept_ram (by assumption) (by assumption) | exact Kept_mram (by assumption) (by assumption) | exact Kept_flt (by assumption) (by assumption) | exact Kept_var (by assumption) | exact Kept_ev (by assumption) (by assumption) | exact Kept_has (by assumption) | exact Kept_out (by assumption) | exact Kept_ctr (by assumption) | exact watchE_none (by assumption))
    | with_reducible refine Only_mk ?_ (.inr rfl) (.inr rfl) (.inr rfl) (.inr rfl) (.inr rfl) (.inr rfl) (.inr rfl) (.inr rfl) (.inr rfl) (.inr rfl) (.inr rfl) (.inr rfl) (.inr rfl) (.inr rfl) (.inr rfl) (.inl (mask_bit hk rfl)) (.inr rfl) (.inr rfl) (.inr rfl) (.inr rfl) (.inr rfl) (.inr rfl) (.inr rfl) (.inr rfl) (.inr rfl) (.inr rfl) (.inr rfl) (.inr rfl) (.inr rfl) (.inr rfl)
    | (first | exact mask_sub hk rfl | exact hk)
    | with_reducible (first | refine Kept_snd (by assumption) ?_ | refine Kept_fst (by assumption) ?_)
    | with_reducible exact Kept_of_next (by assumption)
    | with_reducible (refine Kept_of_O (by assumption) ?_)
    | with_reducible (first | refine Kept_regs (g := g) ?_ (by assumption) | refine Kept_ram (g := g) ?_ (by assumption) | refine Kept_mram (g := g) ?_ (by assumption) | refine Kept_flt (g := g) ?_ (by assumption) | refine Kept_var ?_ | refine Kept_ev ?_ (by assumption) | refine Kept_has ?_ | refine Kept_out ?_ | refine Kept_ctr ?_)
    | dsimp -zeta only
    | split)

theorem kept_asyMeasure {x0} (h0 : Kept g x0) : Kept g (State.asyMeasure x0) := by
  unfold State.asyMeasure
  repeat' (first | with_reducible assumption | with_reducible (first | apply kept_setF | apply Kept_ite) | split | intro _)

theorem kept_asyCurrent {x0} (h0 : Kept g x0) (hk : 262144 &&& g.mask = 262144) : Kept g (State.asyCurrent x0) := by
  unfold State.asyCurrent
  repeat' (first
    | with_reducible assumption
    | with_reducible refine fun _ => ?_
    | ((try lift_lets); intro s; refine (have hs : Kept g s := ?_; ?_); subst s; rotate_left; clear_value s; rotate_left)
    | ((try lift_lets); first | (intro (x : Mram); subst x) | (intro (x : Compositor); subst x) | (intro (x : Store 32); subst x) | (intro (x : Store 8); subst x) | (intro (x : State × _); subst x) | (intro (x : _ × State); subst x) | (intro (x : _ × _ × State); subst x) | (intro (x : State → _); subst x) | (intro (x : _ → State → _); subst x) | (intro (x : _ → State); subst x) | (intro x; clear_value x))
    | (simp only [↓Kept_mk_iff]; refine And.intro ?_ (And.intro ?_ (And.intro ?_ (And.intro ?_ (And.intro ?_ (And.intro ?_ (And.intro ?_ (And.intro ?_ (And.intro ?_ ?_)))))))))
    | with_reducible (first | apply kept_asyMeasure | apply Kept_ite)
    | with_reducible (first | exact Kept_regs (by assumption) (by assumption) | exact Kept_ram (by assumption) (by assumption) | exact Kept_mram (by assumption) (by assumption) | exact Kept_flt (by assumption) (by assumption) | exact Kept_var (by assumption) | exact Kept_ev (by assumption) (by assumption) | exact Kept_has (by assumption) | exact Kept_out (by assumption) | exact Kept_ctr (by assumption) | exact watchE_none (by assumption))
    | with_reducible refine Only_mk ?_ (.inr rfl) (.inr rfl) (.inr rfl) (.inr rfl) (.inr rfl) (.inr rfl) (.inr rfl) (.inr rfl) (.inr rfl) (.inr rfl) (.inr rfl) (.inr rfl) (.inr rfl) (.inr rfl) (.inr rfl) (.inl (mask_bit hk rfl)) (.inr rfl) (.inr rfl) (.inr rfl) (.inr rfl) (.inr rfl) (.inr rfl) (.inr rfl) (.inr rfl) (.inr rfl) (.inr rfl) (.inr rfl) (.inr rfl) (.inr rfl) (.inr rfl)
    | (first | exact mask_sub hk rfl | exact hk)
    | with_reducible (first | refine Kept_snd (by assumption) ?_ | refine Kept_fst (by assumption) ?_)
    | with_reducible exact Kept_of_next (by assumption)
    | with_reducible (refine Kept_of_O (by assumption) ?_)
    | with_reducible (first | refine Kept_regs (g := g) ?_ (by assumption) | refine Kept_ram (g := g) ?_ (by assumption) | refine Kept_mram (g := g) ?_ (by assumption) | refine Kept_flt (g := g) ?_ (by assumption) | refine Kept_var ?_ | refine Kept_ev ?_ (by assumption) | refine Kept_has ?_ | refine Kept_out ?_ | refine Kept_ctr ?_)
    | dsimp -zeta only
    | split)

theorem kept_begin {x0 x1 x2 x3} (h0 : Kept g x0) (hk : 20480 &&& g.mask = 20480) : Kept g (State.begin x0 x1 x2 x3) := by
  unfold State.begin
  repeat' (first
    | with_reducible assumption
    | with_reducible refine fun _ => ?_
    | ((try lift_lets); intro s; refine (have hs : Kept g s := ?_; ?_); subst s; rotate_left; clear_value s; rotate_left)
    | ((try lift_lets); first | (intro (x : Mram); subst x) | (intro (x : Compositor); subst x) | (intro (x : Store 32); subst x) | (intro (x : Store 8); subst x) | (intro (x : State × _); subst x) | (intro (x : _ × State); subst x) | (intro (x : _ × _ × State); subst x) | (intro (x : State → _); subst x) | (intro (x : _ → State → _); subst x) | (intro (x : _ → State); subst x) | (intro x; clear_value x))
    | (simp only [↓Kept_mk_iff]; refine And.intro ?_ (And.intro ?_ (And.intro ?_ (And.intro ?_ (And.intro ?_ (And.intro ?_ (And.intro ?_ (And.intro ?_ (And.intro ?_ ?_)))))))))
    | with_reducible (first | apply kept_setMode | apply Kept_ite)
    | with_reducible (first | exact Kept_regs (by assumption) (by assumption) | exact Kept_ram (by assumption) (by assumption) | exact Kept_mram (by assumption) (by assumption) | exact Kept_flt (by assumption) (by assumption) | exact Kept_var (by assumption) | exact Kept_ev (by assumption) (by assumption) | exact Kept_has (by assumption) | exact Kept_out (by assumption) | exact Kept_ctr (by assumption) | exact watchE_none (by assumption))
    | with_reducible refine Only_mk ?_ (.inr rfl) (.inr rfl) (.inr rfl) (.inr rfl) (.inr rfl) (.inr rfl) (.inr rfl) (.inr rfl) (.inr rfl) (.inl (mask_bit hk rfl)) (.inr rfl) (.inr rfl) (.inr rfl) (.inr rfl) (.inr rfl) (.inr rfl) (.inr rfl) (.inr rfl) (.inr rfl) (.inr rfl) (.inr rfl) (.inr rfl) (.inr rfl) (.inr rfl) (.inr rfl) (.inr rfl) (.inr rfl) (.inr rfl) (.inr rfl) (.inr rfl)
    | (first | exact mask_sub hk rfl | exact hk)
    | with_reducible (first | refine Kept_snd (by assumption) ?_ | refine Kept_fst (by assumption) ?_)
    | with_reducible exact Kept_of_next (by assumption)
    | with_reducible (refine Kept_of_O (by assumption) ?_)
    | with_reducible (first | refine Kept_regs (g := g) ?_ (by assumption) | refine Kept_ram (g := g) ?_ (by assumption) | refine Kept_mram (g := g) ?_ (by assumption) | refine Kept_flt (g := g) ?_ (by assumption) | refine Kept_var ?_ | refine Kept_ev ?_ (by assumption) | refine Kept_has ?_ | refine Kept_out ?_ | refine Kept_ctr ?_)
    | dsimp -zeta only
    | split)

theorem kept_finish {x0} (h0 : Kept g x0) (hk : 22528 &&& g.mask = 22528) : Kept g (State.finish x0) := by
  unfold State.finish
  repeat' (first
    | with_reducible assumption
    | with_reducible refine fun _ => ?_
    | ((try lift_lets); intro s; refine (have hs : Kept g s := ?_; ?_); subst s; rotate_left; clear_value s; rotate_left)
    | ((try lift_lets); first | (intro (x : Mram); subst x) | (intro (x : Compositor); subst x) | (intro (x : Store 32); subst x) | (intro (x : Store 8); subst x) | (intro (x : State × _); subst x) | (intro (x : _ × State); subst x) | (intro (x : _ × _ × State); subst x) | (intro (x : State → _); subst x) | (intro (x : _ → State → _); subst x) | (intro (x : _ → State); subst x) | (intro x; clear_value x))
    | (simp only [↓Kept_mk_iff]; refine And.intro ?_ (And.intro ?_ (And.intro ?_ (And.intro ?_ (And.intro ?_ (And.intro ?_ (And.intro ?_ (And.intro ?_ (And.intro ?_ ?_)))))))))
    | with_reducible (first | apply kept_setB | apply kept_setMode | apply kept_galClose | apply kept_wrapReg | apply Kept_ite)
    | with_reducible (first | exact Kept_regs (by assumption) (by assumption) | exact Kept_ram (by assumption) (by assumption) | exact Kept_mram (by assumption) (by assumption) | exact Kept_flt (by assumption) (by assumption) | exact Kept_var (by assumption) | exact Kept_ev (by assumption) (by assumption) | exact Kept_has (by assumption) | exact Kept_out (by assumption) | exact Kept_ctr (by assumption) | exact watchE_none (by assumption))
    | with_reducible refine Only_mk ?_ (.inr rfl) (.inr rfl) (.inr rfl) (.inr rfl) (.inr rfl) (.inr rfl) (.inr rfl) (.inr rfl) (.inr rfl) (.inl (mask_bit hk rfl)) (.inr rfl) (.inr rfl) (.inr rfl) (.inr rfl) (.inr rfl) (.inr rfl) (.inr rfl) (.inr rfl) (.inr rfl) (.inr rfl) (.inr rfl) (.inr rfl) (.inr rfl) (.inr rfl) (.inr rfl) (.inr rfl) (.inr rfl) (.inr rfl) (.inr rfl) (.inr rfl)
    | (first | exact mask_sub hk rfl | exact hk)
    | with_reducible (first | refine Kept_snd (by assumption) ?_ | refine Kept_fst (by assumption) ?_)
    | with_reducible exact Kept_of_next (by assumption)
    | with_reducible (refine Kept_of_O (by assumption) ?_)
    | with_reducible (first | refine Kept_regs (g := g) ?_ (by assumption) | refine Kept_ram (g := g) ?_ (by assumption) | refine Kept_mram (g := g) ?_ (by assumption) | refine Kept_flt (g := g) ?_ (by assumption) | refine Kept_var ?_ | refine Kept_ev ?_ (by assumption) | refine Kept_has ?_ | refine Kept_out ?_ | refine Kept_ctr ?_)
    | dsimp -zeta only
    | split)

theorem kept_wantOwt {x0} (h0 : Kept g x0) (hk : 2097152 &&& g.mask = 2097152) : Kept g (State.wantOwt x0) := by
  unfold State.wantOwt
  repeat' (first
    | with_reducible assumption
    | with_reducible refine fun _ => ?_
    | ((try lift_lets); intro s; refine (have hs : Kept g s := ?_; ?_); subst s; rotate_left; clear_value s; rotate_left)
    | ((try lift_lets); first | (intro (x : Mram); subst x) | (intro (x : Compositor); subst x) | (intro (x : Store 32); subst x) | (intro (x : Store 8); subst x) | (intro (x : State × _); subst x) | (intro (x : _ × State); subst x) | (intro (x : _ × _ × State); subst x) | (intro (x : State → _); subst x) | (intro (x : _ → State → _); subst x) | (intro (x : _ → State); subst x) | (intro x; clear_value x))
    | (simp only [↓Kept_mk_iff]; refine And.intro ?_ (And.intro ?_ (And.intro ?_ (And.intro ?_ (And.intro ?_ (And.intro ?_ (And.intro ?_ (And.intro ?_ (And.intro ?_ ?_)))))))))
    | with_reducible (first | apply Kept_ite)
    | with_reducible (first | exact Kept_regs (by assumption) (by assumption) | exact Kept_ram (by assumption) (by assumption) | exact Kept_mram (by assumption) (by assumption) | exact Kept_flt (by assumption) (by assumption) | exact Kept_var (by assumption) | exact Kept_ev (by assumption) (by assumption) | exact Kept_has (by assumption) | exact Kept_out (by assumption) | exact Kept_ctr (by assumption) | exact watchE_none (by assumption))
    | with_reducible refine Only_mk ?_ (.inr rfl) (.inr rfl) (.inr rfl) (.inr rfl) (.inr rfl) (.inr rfl) (.inr rfl) (.inr rfl) (.inr rfl) (.inr rfl) (.inr rfl) (.inr rfl) (.inr rfl) (.inr rfl) (.inr rfl) (.inr rfl) (.inr rfl) (.inr rfl) (.inl (mask_bit hk rfl)) (.inr rfl) (.inr rfl) (.inr rfl) (.inr rfl) (.inr rfl) (.inr rfl) (.inr rfl) (.inr rfl) (.inr rfl) (.inr rfl) (.inr rfl)
    | (first | exact mask_sub hk rfl | exact hk)
    | with_reducible (first | refine Kept_snd (by assumption) ?_ | refine Kept_fst (by assumption) ?_)
    | with_reducible exact Kept_of_next (by assumption)
    | with_reducible (refine Kept_of_O (by assumption) ?_)
    | with_reducible (first | refine Kept_regs (g := g) ?_ (by assumption) | refine Kept_ram (g := g) ?_ (by assumption) | refine Kept_mram (g := g) ?_ (by assumption) | refine Kept_flt (g := g) ?_ (by assumption) | refine Kept_var ?_ | refine Kept_ev ?_ (by assumption) | refine Kept_has ?_ | refine Kept_out ?_ | refine Kept_ctr ?_)
    | dsimp -zeta only
    | split)

theorem kept_progress {x0} (h0 : Kept g x0) (hk : 741308480 &&& g.mask = 741308480) : Kept g (State.progress x0) := by
  unfold State.progress
  repeat' (first
    | with_reducible assumption
    | with_reducible refine fun _ => ?_
    | ((try lift_lets); intro s; refine (have hs : Kept g s := ?_; ?_); subst s; rotate_left; clear_value s; rotate_left)
    | ((try lift_lets); first | (intro (x : Mram); subst x) | (intro (x : Compositor); subst x) | (intro (x : Store 32); subst x) | (intro (x : Store 8); subst x) | (intro (x : State × _); subst x) | (intro (x : _ × State); subst x) | (intro (x : _ × _ × State); subst x) | (intro (x : State → _); subst x) | (intro (x : _ → State → _); subst x) | (intro (x : _ → State); subst x) | (intro x; clear_value x))
    | (simp only [↓Kept_mk_iff]; refine And.intro ?_ (And.intro ?_ (And.intro ?_ (And.intro ?_ (And.intro ?_ (And.intro ?_ (And.intro ?_ (And.intro ?_ (And.intro ?_ ?_)))))))))
    | with_reducible (first | apply kept_finish | apply kept_setFunc | apply kept_wantOwt | apply kept_fsStart | apply kept_judge | apply kept_fsDone | apply Kept_ite)
    | with_reducible (first | exact Kept_regs (by assumption) (by assumption) | exact Kept_ram (by assumption) (by assumption) | exact Kept_mram (by assumption) (by assumption) | exact Kept_flt (by assumption) (by assumption) | exact Kept_var (by assumption) | exact Kept_ev (by assumption) (by assumption) | exact Kept_has (by assumption) | exact Kept_out (by assumption) | exact Kept_ctr (by assumption) | exact watchE_none (by assumption))
    | with_reducible refine Only_mk ?_ (.inr rfl) (.inr rfl) (.inr rfl) (.inr rfl) (.inr rfl) (.inr rfl) (.inr rfl) (.inr rfl) (.inr rfl) (.inl (mask_bit hk rfl)) (.inr rfl) (.inr rfl) (.inr rfl) (.inr rfl) (.inr rfl) (.inr rfl) (.inr rfl) (.inr rfl) (.inr rfl) (.inr rfl) (.inr rfl) (.inr rfl) (.inr rfl) (.inr rfl) (.inr rfl) (.inr rfl) (.inr rfl) (.inr rfl) (.inr rfl) (.inr rfl)
    | (first | exact mask_sub hk rfl | exact hk)
    | with_reducible (first | refine Kept_snd (by assumption) ?_ | refine Kept_fst (by assumption) ?_)
    | with_reducible exact Kept_of_next (by assumption)
    | with_reducible (refine Kept_of_O (by assumption) ?_)
    | with_reducible (first | refine Kept_regs (g := g) ?_ (by assumption) | refine Kept_ram (g := g) ?_ (by assumption) | refine Kept_mram (g := g) ?_ (by assumption) | refine Kept_flt (g := g) ?_ (by assumption) | refine Kept_var ?_ | refine Kept_ev ?_ (by assumption) | refine Kept_has ?_ | refine Kept_out ?_ | refine Kept_ctr ?_)
    | dsimp -zeta only
    | split)

theorem kept_leaveAssay {x0} (h0 : Kept g x0) (hk : 741308480 &&& g.mask = 741308480) : Kept g (State.leaveAssay x0) := by
  unfold State.leaveAssay
  repeat' (first | with_reducible assumption | exact mask_sub hk rfl | with_reducible (first | apply kept_galOpen | apply kept_begin | apply kept_progress | apply kept_stopFunc | apply Kept_ite) | split | intro _)

theorem kept_asyRunDone {x0} (h0 : Kept g x0) (hk : 741308480 &&& g.mask = 741308480) : Kept g (State.asyRunDone x0) := by
  unfold State.asyRunDone
  repeat' (first
    | with_reducible assumption
    | with_reducible refine fun _ => ?_
    | ((try lift_lets); intro s; refine (have hs : Kept g s := ?_; ?_); subst s; rotate_left; clear_value s; rotate_left)
    | ((try lift_lets); first | (intro (x : Mram); subst x) | (intro (x : Compositor); subst x) | (intro (x : Store 32); subst x) | (intro (x : Store 8); subst x) | (intro (x : State × _); subst x) | (intro (x : _ × State); subst x) | (intro (x : _ × _ × State); subst x) | (intro (x : State → _); subst x) | (intro (x : _ → State → _); subst x) | (intro (x : _ → State); subst x) | (intro x; clear_value x))
    | (simp only [↓Kept_mk_iff]; refine And.intro ?_ (And.intro ?_ (And.intro ?_ (And.intro ?_ (And.intro ?_ (And.intro ?_ (And.intro ?_ (And.intro ?_ (And.intro ?_ ?_)))))))))
    | with_reducible (first | apply kept_raise | apply kept_setReg | apply kept_setF | apply kept_asyFall | apply kept_leaveAssay | apply Kept_ite)
    | with_reducible (first | exact Kept_regs (by assumption) (by assumption) | exact Kept_ram (by assumption) (by assumption) | exact Kept_mram (by assumption) (by assumption) | exact Kept_flt (by assumption) (by assumption) | exact Kept_var (by assumption) | exact Kept_ev (by assumption) (by assumption) | exact Kept_has (by assumption) | exact Kept_out (by assumption) | exact Kept_ctr (by assumption) | exact watchE_none (by assumption))
    | with_reducible refine Only_mk ?_ (.inr rfl) (.inr rfl) (.inr rfl) (.inr rfl) (.inr rfl) (.inr rfl) (.inr rfl) (.inr rfl) (.inr rfl) (.inr rfl) (.inr rfl) (.inr rfl) (.inr rfl) (.inr rfl) (.inr rfl) (.inl (mask_bit hk rfl)) (.inr rfl) (.inr rfl) (.inr rfl) (.inr rfl) (.inr rfl) (.inr rfl) (.inr rfl) (.inr rfl) (.inr rfl) (.inr rfl) (.inr rfl) (.inr rfl) (.inr rfl) (.inr rfl)
    | (first | exact mask_sub hk rfl | exact hk)
    | with_reducible (first | refine Kept_snd (by assumption) ?_ | refine Kept_fst (by assumption) ?_)
    | with_reducible exact Kept_of_next (by assumption)
    | with_reducible (refine Kept_of_O (by assumption) ?_)
    | with_reducible (first | refine Kept_regs (g := g) ?_ (by assumption) | refine Kept_ram (g := g) ?_ (by assumption) | refine Kept_mram (g := g) ?_ (by assumption) | refine Kept_flt (g := g) ?_ (by assumption) | refine Kept_var ?_ | refine Kept_ev ?_ (by assumption) | refine Kept_has ?_ | refine Kept_out ?_ | refine Kept_ctr ?_)
    | dsimp -zeta only
    | split)

theorem kept_asySweep {x0 x1 x2} (h0 : Kept g x0) (hk : 262144 &&& g.mask = 262144) : Kept g (State.asySweep x0 x1 x2) := by
  unfold State.asySweep
  repeat' (first
    | with_reducible assumption
    | with_reducible refine fun _ => ?_
    | ((try lift_lets); intro s; refine (have hs : Kept g s := ?_; ?_); subst s; rotate_left; clear_value s; rotate_left)
    | ((try lift_lets); first | (intro (x : Mram); subst x) | (intro (x : Compositor); subst x) | (intro (x : Store 32); subst x) | (intro (x : Store 8); subst x) | (intro (x : State × _); subst x) | (intro (x : _ × State); subst x) | (intro (x : _ × _ × State); subst x) | (intro (x : State → _); subst x) | (intro (x : _ → State → _); subst x) | (intro (x : _ → State); subst x) | (intro x; clear_value x))
    | (simp only [↓Kept_mk_iff]; refine And.intro ?_ (And.intro ?_ (And.intro ?_ (And.intro ?_ (And.intro ?_ (And.intro ?_ (And.intro ?_ (And.intro ?_ (And.intro ?_ ?_)))))))))
    | with_reducible (first | apply kept_asyMeasure | apply Kept_ite)
    | with_reducible (first | exact Kept_regs (by assumption) (by assumption) | exact Kept_ram (by assumption) (by assumption) | exact Kept_mram (by assumption) (by assumption) | exact Kept_flt (by assumption) (by assumption) | exact Kept_var (by assumption) | exact Kept_ev (by assumption) (by assumption) | exact Kept_has (by assumption) | exact Kept_out (by assumption) | exact Kept_ctr (by assumption) | exact watchE_none (by assumption))
    | with_reducible refine Only_mk ?_ (.inr rfl) (.inr rfl) (.inr rfl) (.inr rfl) (.inr rfl) (.inr rfl) (.inr rfl) (.inr rfl) (.inr rfl) (.inr rfl) (.inr rfl) (.inr rfl) (.inr rfl) (.inr rfl) (.inr rfl) (.inl (mask_bit hk rfl)) (.inr rfl) (.inr rfl) (.inr rfl) (.inr rfl) (.inr rfl) (.inr rfl) (.inr rfl) (.inr rfl) (.inr rfl) (.inr rfl) (.inr rfl) (.inr rfl) (.inr rfl) (.inr rfl)
    | (first | exact mask_sub hk rfl | exact hk)
    | with_reducible (first | refine Kept_snd (by assumption) ?_ | refine Kept_fst (by assumption) ?_)
    | with_reducible exact Kept_of_next (by assumption)
    | with_reducible (refine Kept_of_O (by assumption) ?_)
    | with_reducible (first | refine Kept_regs (g := g) ?_ (by assumption) | refine Kept_ram (g := g) ?_ (by assumption) | refine Kept_mram (g := g) ?_ (by assumption) | refine Kept_flt (g := g) ?_ (by assumption) | refine Kept_var ?_ | refine Kept_ev ?_ (by assumption) | refine Kept_has ?_ | refine Kept_out ?_ | refine Kept_ctr ?_)
    | dsimp -zeta only
    | split)

theorem kept_requestGranted {x0 x1 x2 x3 x4} (h0 : Kept g x0) (hk : 4096 &&& g.mask = 4096) : Kept g (State.requestGranted x0 x1 x2 x3 x4) := by
  unfold State.requestGranted
  repeat' (first
    | with_reducible assumption
    | with_reducible refine fun _ => ?_
    | ((try lift_lets); intro s; refine (have hs : Kept g s := ?_; ?_); subst s; rotate_left; clear_value s; rotate_left)
    | ((try lift_lets); first | (intro (x : Mram); subst x) | (intro (x : Compositor); subst x) | (intro (x : Store 32); subst x) | (intro (x : Store 8); subst x) | (intro (x : State × _); subst x) | (intro (x : _ × State); subst x) | (intro (x : _ × _ × State); subst x) | (intro (x : State → _); subst x) | (intro (x : _ → State → _); subst x) | (intro (x : _ → State); subst x) | (intro x; clear_value x))
    | (simp only [↓Kept_mk_iff]; refine And.intro ?_ (And.intro ?_ (And.intro ?_ (And.intro ?_ (And.intro ?_ (And.intro ?_ (And.intro ?_ (And.intro ?_ (And.intro ?_ ?_)))))))))
    | with_reducible (first | apply Kept_ite)
    | with_reducible (first | exact Kept_regs (by assumption) (by assumption) | exact Kept_ram (by assumption) (by assumption) | exact Kept_mram (by assumption) (by assumption) | exact Kept_flt (by assumption) (by assumption) | exact Kept_var (by assumption) | exact Kept_ev (by assumption) (by assumption) | exact Kept_has (by assumption) | exact Kept_out (by assumption) | exact Kept_ctr (by assumption) | exact watchE_none (by assumption))
    | with_reducible refine Only_mk ?_ (.inr rfl) (.inr rfl) (.inr rfl) (.inr rfl) (.inr rfl) (.inr rfl) (.inr rfl) (.inr rfl) (.inr rfl) (.inl (mask_bit hk rfl)) (.inr rfl) (.inr rfl) (.inr rfl) (.inr rfl) (.inr rfl) (.inr rfl) (.inr rfl) (.inr rfl) (.inr rfl) (.inr rfl) (.inr rfl) (.inr rfl) (.inr rfl) (.inr rfl) (.inr rfl) (.inr rfl) (.inr rfl) (.inr rfl) (.inr rfl) (.inr rfl)
    | (first | exact mask_sub hk rfl | exact hk)
    | with_reducible (first | refine Kept_snd (by assumption) ?_ | refine Kept_fst (by assumption) ?_)
    | with_reducible exact Kept_of_next (by assumption)
    | with_reducible (refine Kept_of_O (by assumption) ?_)
    | with_reducible (first | refine Kept_regs (g := g) ?_ (by assumption) | refine Kept_ram (g := g) ?_ (by assumption) | refine Kept_mram (g := g) ?_ (by assumption) | refine Kept_flt (g := g) ?_ (by assumption) | refine Kept_var ?_ | refine Kept_ev ?_ (by assumption) | refine Kept_has ?_ | refine Kept_out ?_ | refine Kept_ctr ?_)
    | dsimp -zeta only
    | split)

theorem kept_restartCold {x0} (h0 : Kept g x0) (hE : ∀ e, ¬ g.events e) (hk : 8589931980 &&& g.mask = 8589931980) : Kept g (State.restartCold x0) := by
  unfold State.restartCold
  repeat' (first
    | with_reducible assumption
    | with_reducible refine fun _ => ?_
    | ((try lift_lets); intro s; refine (have hs : Kept g s := ?_; ?_); subst s; rotate_left; clear_value s; rotate_left)
    | ((try lift_lets); first | (intro (x : Mram); subst x) | (intro (x : Compositor); subst x) | (intro (x : Store 32); subst x) | (intro (x : Store 8); subst x) | (intro (x : State × _); subst x) | (intro (x : _ × State); subst x) | (intro (x : _ × _ × State); subst x) | (intro (x : State → _); subst x) | (intro (x : _ → State → _); subst x) | (intro (x : _ → State); subst x) | (intro x; clear_value x))
    | (simp only [↓Kept_mk_iff]; refine And.intro ?_ (And.intro ?_ (And.intro ?_ (And.intro ?_ (And.intro ?_ (And.intro ?_ (And.intro ?_ (And.intro ?_ (And.intro ?_ ?_)))))))))
    | with_reducible (first | apply kept_enterReset | apply Kept_ite)
    | with_reducible (first | exact Kept_regs (by assumption) (by assumption) | exact Kept_ram (by assumption) (by assumption) | exact Kept_mram (by assumption) (by assumption) | exact Kept_flt (by assumption) (by assumption) | exact Kept_var (by assumption) | exact Kept_ev (by assumption) (by assumption) | exact Kept_has (by assumption) | exact Kept_out (by assumption) | exact Kept_ctr (by assumption) | exact watchE_none (by assumption))
    | with_reducible refine Only_mk ?_ (.inr rfl) (.inr rfl) (.inr rfl) (.inr rfl) (.inr rfl) (.inr rfl) (.inr rfl) (.inr rfl) (.inr rfl) (.inr rfl) (.inr rfl) (.inr rfl) (.inr rfl) (.inr rfl) (.inr rfl) (.inr rfl) (.inr rfl) (.inr rfl) (.inr rfl) (.inr rfl) (.inr rfl) (.inr rfl) (.inr rfl) (.inl (mask_bit hk rfl)) (.inr rfl) (.inr rfl) (.inr rfl) (.inr rfl) (.inr rfl) (.inr rfl)
    | (first | exact mask_sub hk rfl | exact hk)
    | with_reducible (first | refine Kept_snd (by assumption) ?_ | refine Kept_fst (by assumption) ?_)
    | with_reducible exact Kept_of_next (by assumption)
    | with_reducible (refine Kept_of_O (by assumption) ?_)
    | with_reducible (first | refine Kept_regs (g := g) ?_ (by assumption) | refine Kept_ram (g := g) ?_ (by assumption) | refine Kept_mram (g := g) ?_ (by assumption) | refine Kept_flt (g := g) ?_ (by assumption) | refine Kept_var ?_ | refine Kept_ev ?_ (by assumption) | refine Kept_has ?_ | refine Kept_out ?_ | refine Kept_ctr ?_)
    | dsimp -zeta only
    | split)

theorem kept_restartGranted {x0} (h0 : Kept g x0) (hE : ∀ e, ¬ g.events e) (hk : 8589931980 &&& g.mask = 8589931980) : Kept g (State.restartGranted x0) := by
  unfold State.restartGranted
  repeat' (first
    | with_reducible assumption
    | with_reducible refine fun _ => ?_
    | ((try lift_lets); intro s; refine (have hs : Kept g s := ?_; ?_); subst s; rotate_left; clear_value s; rotate_left)
    | ((try lift_lets); first | (intro (x : Mram); subst x) | (intro (x : Compositor); subst x) | (intro (x : Store 32); subst x) | (intro (x : Store 8); subst x) | (intro (x : State × _); subst x) | (intro (x : _ × State); subst x) | (intro (x : _ × _ × State); subst x) | (intro (x : State → _); subst x) | (intro (x : _ → State → _); subst x) | (intro (x : _ → State); subst x) | (intro x; clear_value x))
    | (simp only [↓Kept_mk_iff]; refine And.intro ?_ (And.intro ?_ (And.intro ?_ (And.intro ?_ (And.intro ?_ (And.intro ?_ (And.intro ?_ (And.intro ?_ (And.intro ?_ ?_)))))))))
    | with_reducible (first | apply kept_raise | apply kept_restartCold | apply kept_restartWarm | apply Kept_ite)
    | with_reducible (first | exact Kept_regs (by assumption) (by assumption) | exact Kept_ram (by assumption) (by assumption) | exact Kept_mram (by assumption) (by assumption) | exact Kept_flt (by assumption) (by assumption) | exact Kept_var (by assumption) | exact Kept_ev (by assumption) (by assumption) | exact Kept_has (by assumption) | exact Kept_out (by assumption) | exact Kept_ctr (by assumption) | exact watchE_none (by assumption))
    | with_reducible refine Only_mk ?_ (.inr rfl) (.inr rfl) (.inr rfl) (.inr rfl) (.inr rfl) (.inr rfl) (.inr rfl) (.inr rfl) (.inr rfl) (.inr rfl) (.inr rfl) (.inr rfl) (.inr rfl) (.inr rfl) (.inr rfl) (.inr rfl) (.inr rfl) (.inr rfl) (.inr rfl) (.inr rfl) (.inr rfl) (.inl (mask_bit hk rfl)) (.inr rfl) (.inr rfl) (.inr rfl) (.inr rfl) (.inr rfl) (.inr rfl) (.inr rfl) (.inr rfl)
    | (first | exact mask_sub hk rfl | exact hk)
    | with_reducible (first | refine Kept_snd (by assumption) ?_ | refine Kept_fst (by assumption) ?_)
    | with_reducible exact Kept_of_next (by assumption)
    | with_reducible (refine Kept_of_O (by assumption) ?_)
    | with_reducible (first | refine Kept_regs (g := g) ?_ (by assumption) | refine Kept_ram (g := g) ?_ (by assumption) | refine Kept_mram (g := g) ?_ (by assumption) | refine Kept_flt (g := g) ?_ (by assumption) | refine Kept_var ?_ | refine Kept_ev ?_ (by assumption) | refine Kept_has ?_ | refine Kept_out ?_ | refine Kept_ctr ?_)
    | dsimp -zeta only
    | split)

theorem kept_putAddr {x0 x1} (h0 : Kept g x0) (hk : 64 &&& g.mask = 64) : Kept g (State.putAddr x0 x1) := by
  unfold State.putAddr
  repeat' (first | with_reducible assumption | exact mask_sub hk rfl | with_reducible (first | apply kept_raise | apply kept_setB | apply kept_setFM | apply Kept_ite) | split | intro _)

theorem kept_sendTaken {x0 x1} (h0 : Kept g x0) (hk : 134217728 &&& g.mask = 134217728) : Kept g (State.sendTaken x0 x1) := by
  unfold State.sendTaken
  repeat' (first | with_reducible assumption | exact mask_sub hk rfl | with_reducible (first | apply kept_moduleTx | apply Kept_ite) | split | intro _)

theorem kept_offerTake {x0 x1 x2} (h0 : Kept g x0) (hk : 150995008 &&& g.mask = 150995008) : Kept g (State.offerTake x0 x1 x2) := by
  unfold State.offerTake
  repeat' (first
    | with_reducible assumption
    | with_reducible refine fun _ => ?_
    | ((try lift_lets); intro s; refine (have hs : Kept g s := ?_; ?_); subst s; rotate_left; clear_value s; rotate_left)
    | ((try lift_lets); first | (intro (x : Mram); subst x) | (intro (x : Compositor); subst x) | (intro (x : Store 32); subst x) | (intro (x : Store 8); subst x) | (intro (x : State × _); subst x) | (intro (x : _ × State); subst x) | (intro (x : _ × _ × State); subst x) | (intro (x : State → _); subst x) | (intro (x : _ → State → _); subst x) | (intro (x : _ → State); subst x) | (intro x; clear_value x))
    | (simp only [↓Kept_mk_iff]; refine And.intro ?_ (And.intro ?_ (And.intro ?_ (And.intro ?_ (And.intro ?_ (And.intro ?_ (And.intro ?_ (And.intro ?_ (And.intro ?_ ?_)))))))))
    | with_reducible (first | apply kept_emit | apply kept_setB | apply kept_putAddr | apply kept_sendTaken | apply Kept_ite)
    | with_reducible (first | exact Kept_regs (by assumption) (by assumption) | exact Kept_ram (by assumption) (by assumption) | exact Kept_mram (by assumption) (by assumption) | exact Kept_flt (by assumption) (by assumption) | exact Kept_var (by assumption) | exact Kept_ev (by assumption) (by assumption) | exact Kept_has (by assumption) | exact Kept_out (by assumption) | exact Kept_ctr (by assumption) | exact watchE_none (by assumption))
    | with_reducible refine Only_mk ?_ (.inr rfl) (.inr rfl) (.inr rfl) (.inr rfl) (.inr rfl) (.inr rfl) (.inr rfl) (.inr rfl) (.inr rfl) (.inr rfl) (.inr rfl) (.inr rfl) (.inr rfl) (.inr rfl) (.inr rfl) (.inr rfl) (.inr rfl) (.inr rfl) (.inr rfl) (.inr rfl) (.inr rfl) (.inl (mask_bit hk rfl)) (.inr rfl) (.inr rfl) (.inr rfl) (.inr rfl) (.inr rfl) (.inr rfl) (.inr rfl) (.inr rfl)
    | (first | exact mask_sub hk rfl | exact hk)
    | with_reducible (first | refine Kept_snd (by assumption) ?_ | refine Kept_fst (by assumption) ?_)
    | with_reducible exact Kept_of_next (by assumption)
    | with_reducible (refine Kept_of_O (by assumption) ?_)
    | with_reducible (first | refine Kept_regs (g := g) ?_ (by assumption) | refine Kept_ram (g := g) ?_ (by assumption) | refine Kept_mram (g := g) ?_ (by assumption) | refine Kept_flt (g := g) ?_ (by assumption) | refine Kept_var ?_ | refine Kept_ev ?_ (by assumption) | refine Kept_has ?_ | refine Kept_out ?_ | refine Kept_ctr ?_)
    | dsimp -zeta only
    | split)

theorem kept_offersGranted {x0} (h0 : Kept g x0) (hk : 150995008 &&& g.mask = 150995008) : Kept g (State.offersGranted x0) := by
  unfold State.offersGranted
  repeat' (first
    | with_reducible assumption
    | with_reducible refine fun _ => ?_
    | ((try lift_lets); intro s; refine (have hs : Kept g s := ?_; ?_); subst s; rotate_left; clear_value s; rotate_left)
    | ((try lift_lets); first | (intro (x : Mram); subst x) | (intro (x : Compositor); subst x) | (intro (x : Store 32); subst x) | (intro (x : Store 8); subst x) | (intro (x : State × _); subst x) | (intro (x : _ × State); subst x) | (intro (x : _ × _ × State); subst x) | (intro (x : State → _); subst x) | (intro (x : _ → State → _); subst x) | (intro (x : _ → State); subst x) | (intro x; clear_value x))
    | (simp only [↓Kept_mk_iff]; refine And.intro ?_ (And.intro ?_ (And.intro ?_ (And.intro ?_ (And.intro ?_ (And.intro ?_ (And.intro ?_ (And.intro ?_ (And.intro ?_ ?_)))))))))
    | with_reducible (first | apply kept_offerTake | apply Kept_ite | apply Kept_foldl)
    | with_reducible (first | exact Kept_regs (by assumption) (by assumption) | exact Kept_ram (by assumption) (by assumption) | exact Kept_mram (by assumption) (by assumption) | exact Kept_flt (by assumption) (by assumption) | exact Kept_var (by assumption) | exact Kept_ev (by assumption) (by assumption) | exact Kept_has (by assumption) | exact Kept_out (by assumption) | exact Kept_ctr (by assumption) | exact watchE_none (by assumption))
    | with_reducible refine Only_mk ?_ (.inr rfl) (.inr rfl) (.inr rfl) (.inr rfl) (.inr rfl) (.inr rfl) (.inr rfl) (.inr rfl) (.inr rfl) (.inr rfl) (.inr rfl) (.inr rfl) (.inr rfl) (.inr rfl) (.inr rfl) (.inr rfl) (.inr rfl) (.inr rfl) (.inr rfl) (.inr rfl) (.inr rfl) (.inl (mask_bit hk rfl)) (.inr rfl) (.inr rfl) (.inr rfl) (.inr rfl) (.inr rfl) (.inr rfl) (.inr rfl) (.inr rfl)
    | (first | exact mask_sub hk rfl | exact hk)
    | with_reducible (first | refine Kept_snd (by assumption) ?_ | refine Kept_fst (by assumption) ?_)
    | with_reducible exact Kept_of_next (by assumption)
    | with_reducible (refine Kept_of_O (by assumption) ?_)
    | with_reducible (first | refine Kept_regs (g := g) ?_ (by assumption) | refine Kept_ram (g := g) ?_ (by assumption) | refine Kept_mram (g := g) ?_ (by assumption) | refine Kept_flt (g := g) ?_ (by assumption) | refine Kept_var ?_ | refine Kept_ev ?_ (by assumption) | refine Kept_has ?_ | refine Kept_out ?_ | refine Kept_ctr ?_)
    | dsimp -zeta only
    | split)

theorem kept_capCommit {x0 x1 x2 x3} (h0 : Kept g x0) (hk : 1050688 &&& g.mask = 1050688) : Kept g (State.capCommit x0 x1 x2 x3) := by
  unfold State.capCommit
  repeat' (first
    | with_reducible assumption
    | with_reducible refine fun _ => ?_
    | ((try lift_lets); intro s; refine (have hs : Kept g s := ?_; ?_); subst s; rotate_left; clear_value s; rotate_left)
    | ((try lift_lets); first | (intro (x : Mram); subst x) | (intro (x : Compositor); subst x) | (intro (x : Store 32); subst x) | (intro (x : Store 8); subst x) | (intro (x : State × _); subst x) | (intro (x : _ × State); subst x) | (intro (x : _ × _ × State); subst x) | (intro (x : State → _); subst x) | (intro (x : _ → State → _); subst x) | (intro (x : _ → State); subst x) | (intro x; clear_value x))
    | (simp only [↓Kept_mk_iff]; refine And.intro ?_ (And.intro ?_ (And.intro ?_ (And.intro ?_ (And.intro ?_ (And.intro ?_ (And.intro ?_ (And.intro ?_ (And.intro ?_ ?_)))))))))
    | with_reducible (first | apply kept_galOpen | apply kept_galClose | apply Kept_ite)
    | with_reducible (first | exact Kept_regs (by assumption) (by assumption) | exact Kept_ram (by assumption) (by assumption) | exact Kept_mram (by assumption) (by assumption) | exact Kept_flt (by assumption) (by assumption) | exact Kept_var (by assumption) | exact Kept_ev (by assumption) (by assumption) | exact Kept_has (by assumption) | exact Kept_out (by assumption) | exact Kept_ctr (by assumption) | exact watchE_none (by assumption))
    | with_reducible refine Only_mk ?_ (.inr rfl) (.inr rfl) (.inr rfl) (.inr rfl) (.inr rfl) (.inr rfl) (.inr rfl) (.inr rfl) (.inr rfl) (.inr rfl) (.inr rfl) (.inr rfl) (.inr rfl) (.inr rfl) (.inr rfl) (.inr rfl) (.inr rfl) (.inl (mask_bit hk rfl)) (.inr rfl) (.inr rfl) (.inr rfl) (.inr rfl) (.inr rfl) (.inr rfl) (.inr rfl) (.inr rfl) (.inr rfl) (.inr rfl) (.inr rfl) (.inr rfl)
    | (first | exact mask_sub hk rfl | exact hk)
    | with_reducible (first | refine Kept_snd (by assumption) ?_ | refine Kept_fst (by assumption) ?_)
    | with_reducible exact Kept_of_next (by assumption)
    | with_reducible (refine Kept_of_O (by assumption) ?_)
    | with_reducible (first | refine Kept_regs (g := g) ?_ (by assumption) | refine Kept_ram (g := g) ?_ (by assumption) | refine Kept_mram (g := g) ?_ (by assumption) | refine Kept_flt (g := g) ?_ (by assumption) | refine Kept_var ?_ | refine Kept_ev ?_ (by assumption) | refine Kept_has ?_ | refine Kept_out ?_ | refine Kept_ctr ?_)
    | dsimp -zeta only
    | split)

theorem kept_capSet {x0 x1 x2} (h0 : Kept g x0) (hk : 1050688 &&& g.mask = 1050688) : Kept g (State.capSet x0 x1 x2) := by
  unfold State.capSet
  repeat' (first
    | with_reducible assumption
    | with_reducible refine fun _ => ?_
    | ((try lift_lets); intro s; refine (have hs : Kept g s := ?_; ?_); subst s; rotate_left; clear_value s; rotate_left)
    | ((try lift_lets); first | (intro (x : Mram); subst x) | (intro (x : Compositor); subst x) | (intro (x : Store 32); subst x) | (intro (x : Store 8); subst x) | (intro (x : State × _); subst x) | (intro (x : _ × State); subst x) | (intro (x : _ × _ × State); subst x) | (intro (x : State → _); subst x) | (intro (x : _ → State → _); subst x) | (intro (x : _ → State); subst x) | (intro x; clear_value x))
    | (simp only [↓Kept_mk_iff]; refine And.intro ?_ (And.intro ?_ (And.intro ?_ (And.intro ?_ (And.intro ?_ (And.intro ?_ (And.intro ?_ (And.intro ?_ (And.intro ?_ ?_)))))))))
    | with_reducible (first | apply kept_raise | apply kept_capCommit | apply kept_capDone | apply Kept_ite)
    | with_reducible (first | exact Kept_regs (by assumption) (by assumption) | exact Kept_ram (by assumption) (by assumption) | exact Kept_mram (by assumption) (by assumption) | exact Kept_flt (by assumption) (by assumption) | exact Kept_var (by assumption) | exact Kept_ev (by assumption) (by assumption) | exact Kept_has (by assumption) | exact Kept_out (by assumption) | exact Kept_ctr (by assumption) | exact watchE_none (by assumption))
    | with_reducible refine Only_mk ?_ (.inr rfl) (.inr rfl) (.inr rfl) (.inr rfl) (.inr rfl) (.inr rfl) (.inr rfl) (.inr rfl) (.inr rfl) (.inr rfl) (.inr rfl) (.inr rfl) (.inr rfl) (.inr rfl) (.inr rfl) (.inr rfl) (.inr rfl) (.inl (mask_bit hk rfl)) (.inr rfl) (.inr rfl) (.inr rfl) (.inr rfl) (.inr rfl) (.inr rfl) (.inr rfl) (.inr rfl) (.inr rfl) (.inr rfl) (.inr rfl) (.inr rfl)
    | (first | exact mask_sub hk rfl | exact hk)
    | with_reducible (first | refine Kept_snd (by assumption) ?_ | refine Kept_fst (by assumption) ?_)
    | with_reducible exact Kept_of_next (by assumption)
    | with_reducible (refine Kept_of_O (by assumption) ?_)
    | with_reducible (first | refine Kept_regs (g := g) ?_ (by assumption) | refine Kept_ram (g := g) ?_ (by assumption) | refine Kept_mram (g := g) ?_ (by assumption) | refine Kept_flt (g := g) ?_ (by assumption) | refine Kept_var ?_ | refine Kept_ev ?_ (by assumption) | refine Kept_has ?_ | refine Kept_out ?_ | refine Kept_ctr ?_)
    | dsimp -zeta only
    | split)

theorem kept_capGranted {x0} (h0 : Kept g x0) (hk : 1050688 &&& g.mask = 1050688) : Kept g (State.capGranted x0) := by
  unfold State.capGranted
  repeat' (first
    | with_reducible assumption
    | with_reducible refine fun _ => ?_
    | ((try lift_lets); intro s; refine (have hs : Kept g s := ?_; ?_); subst s; rotate_left; clear_value s; rotate_left)
    | ((try lift_lets); first | (intro (x : Mram); subst x) | (intro (x : Compositor); subst x) | (intro (x : Store 32); subst x) | (intro (x : Store 8); subst x) | (intro (x : State × _); subst x) | (intro (x : _ × State); subst x) | (intro (x : _ × _ × State); subst x) | (intro (x : State → _); subst x) | (intro (x : _ → State → _); subst x) | (intro (x : _ → State); subst x) | (intro x; clear_value x))
    | (simp only [↓Kept_mk_iff]; refine And.intro ?_ (And.intro ?_ (And.intro ?_ (And.intro ?_ (And.intro ?_ (And.intro ?_ (And.intro ?_ (And.intro ?_ (And.intro ?_ ?_)))))))))
    | with_reducible (first | apply kept_capSet | apply Kept_ite | apply Kept_foldl)
    | with_reducible (first | exact Kept_regs (by assumption) (by assumption) | exact Kept_ram (by assumption) (by assumption) | exact Kept_mram (by assumption) (by assumption) | exact Kept_flt (by assumption) (by assumption) | exact Kept_var (by assumption) | exact Kept_ev (by assumption) (by assumption) | exact Kept_has (by assumption) | exact Kept_out (by assumption) | exact Kept_ctr (by assumption) | exact watchE_none (by assumption))
    | with_reducible refine Only_mk ?_ (.inr rfl) (.inr rfl) (.inr rfl) (.inr rfl) (.inr rfl) (.inr rfl) (.inr rfl) (.inr rfl) (.inr rfl) (.inr rfl) (.inr rfl) (.inr rfl) (.inr rfl) (.inr rfl) (.inr rfl) (.inr rfl) (.inr rfl) (.inl (mask_bit hk rfl)) (.inr rfl) (.inr rfl) (.inr rfl) (.inr rfl) (.inr rfl) (.inr rfl) (.inr rfl) (.inr rfl) (.inr rfl) (.inr rfl) (.inr rfl) (.inr rfl)
    | (first | exact mask_sub hk rfl | exact hk)
    | with_reducible (first | refine Kept_snd (by assumption) ?_ | refine Kept_fst (by assumption) ?_)
    | with_reducible exact Kept_of_next (by assumption)
    | with_reducible (refine Kept_of_O (by assumption) ?_)
    | with_reducible (first | refine Kept_regs (g := g) ?_ (by assumption) | refine Kept_ram (g := g) ?_ (by assumption) | refine Kept_mram (g := g) ?_ (by assumption) | refine Kept_flt (g := g) ?_ (by assumption) | refine Kept_var ?_ | refine Kept_ev ?_ (by assumption) | refine Kept_has ?_ | refine Kept_out ?_ | refine Kept_ctr ?_)
    | dsimp -zeta only
    | split)

theorem kept_holdGranted {x0} (h0 : Kept g x0) (hk : 1048576 &&& g.mask = 1048576) : Kept g (State.holdGranted x0) := by
  unfold State.holdGranted
  repeat' (first
    | with_reducible assumption
    | with_reducible refine fun _ => ?_
    | ((try lift_lets); intro s; refine (have hs : Kept g s := ?_; ?_); subst s; rotate_left; clear_value s; rotate_left)
    | ((try lift_lets); first | (intro (x : Mram); subst x) | (intro (x : Compositor); subst x) | (intro (x : Store 32); subst x) | (intro (x : Store 8); subst x) | (intro (x : State × _); subst x) | (intro (x : _ × State); subst x) | (intro (x : _ × _ × State); subst x) | (intro (x : State → _); subst x) | (intro (x : _ → State → _); subst x) | (intro (x : _ → State); subst x) | (intro x; clear_value x))
    | (simp only [↓Kept_mk_iff]; refine And.intro ?_ (And.intro ?_ (And.intro ?_ (And.intro ?_ (And.intro ?_ (And.intro ?_ (And.intro ?_ (And.intro ?_ (And.intro ?_ ?_)))))))))
    | with_reducible (first | apply Kept_ite)
    | with_reducible (first | exact Kept_regs (by assumption) (by assumption) | exact Kept_ram (by assumption) (by assumption) | exact Kept_mram (by assumption) (by assumption) | exact Kept_flt (by assumption) (by assumption) | exact Kept_var (by assumption) | exact Kept_ev (by assumption) (by assumption) | exact Kept_has (by assumption) | exact Kept_out (by assumption) | exact Kept_ctr (by assumption) | exact watchE_none (by assumption))
    | with_reducible refine Only_mk ?_ (.inr rfl) (.inr rfl) (.inr rfl) (.inr rfl) (.inr rfl) (.inr rfl) (.inr rfl) (.inr rfl) (.inr rfl) (.inr rfl) (.inr rfl) (.inr rfl) (.inr rfl) (.inr rfl) (.inr rfl) (.inr rfl) (.inr rfl) (.inl (mask_bit hk rfl)) (.inr rfl) (.inr rfl) (.inr rfl) (.inr rfl) (.inr rfl) (.inr rfl) (.inr rfl) (.inr rfl) (.inr rfl) (.inr rfl) (.inr rfl) (.inr rfl)
    | (first | exact mask_sub hk rfl | exact hk)
    | with_reducible (first | refine Kept_snd (by assumption) ?_ | refine Kept_fst (by assumption) ?_)
    | with_reducible exact Kept_of_next (by assumption)
    | with_reducible (refine Kept_of_O (by assumption) ?_)
    | with_reducible (first | refine Kept_regs (g := g) ?_ (by assumption) | refine Kept_ram (g := g) ?_ (by assumption) | refine Kept_mram (g := g) ?_ (by assumption) | refine Kept_flt (g := g) ?_ (by assumption) | refine Kept_var ?_ | refine Kept_ev ?_ (by assumption) | refine Kept_has ?_ | refine Kept_out ?_ | refine Kept_ctr ?_)
    | dsimp -zeta only
    | split)

theorem kept_cmdRun {x0 x1} (h0 : Kept g x0) (hk : 67108868 &&& g.mask = 67108868) : Kept g (State.cmdRun x0 x1) := by
  unfold State.cmdRun
  repeat' (first
    | with_reducible assumption
    | with_reducible refine fun _ => ?_
    | ((try lift_lets); intro s; refine (have hs : Kept g s := ?_; ?_); subst s; rotate_left; clear_value s; rotate_left)
    | ((try lift_lets); first | (intro (x : Mram); subst x) | (intro (x : Compositor); subst x) | (intro (x : Store 32); subst x) | (intro (x : Store 8); subst x) | (intro (x : State × _); subst x) | (intro (x : _ × State); subst x) | (intro (x : _ × _ × State); subst x) | (intro (x : State → _); subst x) | (intro (x : _ → State → _); subst x) | (intro (x : _ → State); subst x) | (intro x; clear_value x))
    | (simp only [↓Kept_mk_iff]; refine And.intro ?_ (And.intro ?_ (And.intro ?_ (And.intro ?_ (And.intro ?_ (And.intro ?_ (And.intro ?_ (And.intro ?_ (And.intro ?_ ?_)))))))))
    | with_reducible (first | apply kept_cycStart | apply kept_cycState | apply kept_raise | apply Kept_ite)
    | with_reducible (first | exact Kept_regs (by assumption) (by assumption) | exact Kept_ram (by assumption) (by assumption) | exact Kept_mram (by assumption) (by assumption) | exact Kept_flt (by assumption) (by assumption) | exact Kept_var (by assumption) | exact Kept_ev (by assumption) (by assumption) | exact Kept_has (by assumption) | exact Kept_out (by assumption) | exact Kept_ctr (by assumption) | exact watchE_none (by assumption))
    | with_reducible refine Only_mk ?_ (.inr rfl) (.inr rfl) (.inr rfl) (.inr rfl) (.inr rfl) (.inr rfl) (.inr rfl) (.inr rfl) (.inr rfl) (.inr rfl) (.inr rfl) (.inr rfl) (.inr rfl) (.inr rfl) (.inr rfl) (.inr rfl) (.inr rfl) (.inr rfl) (.inr rfl) (.inr rfl) (.inr rfl) (.inr rfl) (.inr rfl) (.inl (mask_bit hk rfl)) (.inr rfl) (.inr rfl) (.inr rfl) (.inr rfl) (.inr rfl) (.inr rfl)
    | (first | exact mask_sub hk rfl | exact hk)
    | with_reducible (first | refine Kept_snd (by assumption) ?_ | refine Kept_fst (by assumption) ?_)
    | with_reducible exact Kept_of_next (by assumption)
    | with_reducible (refine Kept_of_O (by assumption) ?_)
    | with_reducible (first | refine Kept_regs (g := g) ?_ (by assumption) | refine Kept_ram (g := g) ?_ (by assumption) | refine Kept_mram (g := g) ?_ (by assumption) | refine Kept_flt (g := g) ?_ (by assumption) | refine Kept_var ?_ | refine Kept_ev ?_ (by assumption) | refine Kept_has ?_ | refine Kept_out ?_ | refine Kept_ctr ?_)
    | dsimp -zeta only
    | split)

theorem kept_storeRetain {x0} (h0 : Kept g x0) (hk : 67108864 &&& g.mask = 67108864) : Kept g (State.storeRetain x0) := by
  unfold State.storeRetain
  repeat' (first
    | with_reducible assumption
    | with_reducible refine fun _ => ?_
    | ((try lift_lets); intro s; refine (have hs : Kept g s := ?_; ?_); subst s; rotate_left; clear_value s; rotate_left)
    | ((try lift_lets); first | (intro (x : Mram); subst x) | (intro (x : Compositor); subst x) | (intro (x : Store 32); subst x) | (intro (x : Store 8); subst x) | (intro (x : State × _); subst x) | (intro (x : _ × State); subst x) | (intro (x : _ × _ × State); subst x) | (intro (x : State → _); subst x) | (intro (x : _ → State → _); subst x) | (intro (x : _ → State); subst x) | (intro x; clear_value x))
    | (simp only [↓Kept_mk_iff]; refine And.intro ?_ (And.intro ?_ (And.intro ?_ (And.intro ?_ (And.intro ?_ (And.intro ?_ (And.intro ?_ (And.intro ?_ (And.intro ?_ ?_)))))))))
    | with_reducible (first | apply kept_copyShow | apply Kept_ite)
    | with_reducible (first | exact Kept_regs (by assumption) (by assumption) | exact Kept_ram (by assumption) (by assumption) | exact Kept_mram (by assumption) (by assumption) | exact Kept_flt (by assumption) (by assumption) | exact Kept_var (by assumption) | exact Kept_ev (by assumption) (by assumption) | exact Kept_has (by assumption) | exact Kept_out (by assumption) | exact Kept_ctr (by assumption) | exact watchE_none (by assumption))
    | with_reducible refine Only_mk ?_ (.inr rfl) (.inr rfl) (.inr rfl) (.inr rfl) (.inr rfl) (.inr rfl) (.inr rfl) (.inr rfl) (.inr rfl) (.inr rfl) (.inr rfl) (.inr rfl) (.inr rfl) (.inr rfl) (.inr rfl) (.inr rfl) (.inr rfl) (.inr rfl) (.inr rfl) (.inr rfl) (.inr rfl) (.inr rfl) (.inr rfl) (.inl (mask_bit hk rfl)) (.inr rfl) (.inr rfl) (.inr rfl) (.inr rfl) (.inr rfl) (.inr rfl)
    | (first | exact mask_sub hk rfl | exact hk)
    | with_reducible (first | refine Kept_snd (by assumption) ?_ | refine Kept_fst (by assumption) ?_)
    | with_reducible exact Kept_of_next (by assumption)
    | with_reducible (refine Kept_of_O (by assumption) ?_)
    | with_reducible (first | refine Kept_regs (g := g) ?_ (by assumption) | refine Kept_ram (g := g) ?_ (by assumption) | refine Kept_mram (g := g) ?_ (by assumption) | refine Kept_flt (g := g) ?_ (by assumption) | refine Kept_var ?_ | refine Kept_ev ?_ (by assumption) | refine Kept_has ?_ | refine Kept_out ?_ | refine Kept_ctr ?_)
    | dsimp -zeta only
    | split)

theorem kept_cycStop {x0 x1} (h0 : Kept g x0) (hk : 67108864 &&& g.mask = 67108864) : Kept g (State.cycStop x0 x1) := by
  unfold State.cycStop
  repeat' (first
    | with_reducible assumption
    | with_reducible refine fun _ => ?_
    | ((try lift_lets); intro s; refine (have hs : Kept g s := ?_; ?_); subst s; rotate_left; clear_value s; rotate_left)
    | ((try lift_lets); first | (intro (x : Mram); subst x) | (intro (x : Compositor); subst x) | (intro (x : Store 32); subst x) | (intro (x : Store 8); subst x) | (intro (x : State × _); subst x) | (intro (x : _ × State); subst x) | (intro (x : _ × _ × State); subst x) | (intro (x : State → _); subst x) | (intro (x : _ → State → _); subst x) | (intro (x : _ → State); subst x) | (intro x; clear_value x))
    | (simp only [↓Kept_mk_iff]; refine And.intro ?_ (And.intro ?_ (And.intro ?_ (And.intro ?_ (And.intro ?_ (And.intro ?_ (And.intro ?_ (And.intro ?_ (And.intro ?_ ?_)))))))))
    | with_reducible (first | apply kept_storeRetain | apply kept_setF | apply kept_cycState | apply Kept_ite)
    | with_reducible (first | exact Kept_regs (by assumption) (by assumption) | exact Kept_ram (by assumption) (by assumption) | exact Kept_mram (by assumption) (by assumption) | exact Kept_flt (by assumption) (by assumption) | exact Kept_var (by assumption) | exact Kept_ev (by assumption) (by assumption) | exact Kept_has (by assumption) | exact Kept_out (by assumption) | exact Kept_ctr (by assumption) | exact watchE_none (by assumption))
    | with_reducible refine Only_mk ?_ (.inr rfl) (.inr rfl) (.inr rfl) (.inr rfl) (.inr rfl) (.inr rfl) (.inr rfl) (.inr rfl) (.inr rfl) (.inr rfl) (.inr rfl) (.inr rfl) (.inr rfl) (.inr rfl) (.inr rfl) (.inr rfl) (.inr rfl) (.inr rfl) (.inr rfl) (.inr rfl) (.inr rfl) (.inr rfl) (.inr rfl) (.inl (mask_bit hk rfl)) (.inr rfl) (.inr rfl) (.inr rfl) (.inr rfl) (.inr rfl) (.inr rfl)
    | (first | exact mask_sub hk rfl | exact hk)
    | with_reducible (first | refine Kept_snd (by assumption) ?_ | refine Kept_fst (by assumption) ?_)
    | with_reducible exact Kept_of_next (by assumption)
    | with_reducible (refine Kept_of_O (by assumption) ?_)
    | with_reducible (first | refine Kept_regs (g := g) ?_ (by assumption) | refine Kept_ram (g := g) ?_ (by assumption) | refine Kept_mram (g := g) ?_ (by assumption) | refine Kept_flt (g := g) ?_ (by assumption) | refine Kept_var ?_ | refine Kept_ev ?_ (by assumption) | refine Kept_has ?_ | refine Kept_out ?_ | refine Kept_ctr ?_)
    | dsimp -zeta only
    | split)

theorem kept_exchangeOver {x0 x1} (h0 : Kept g x0) (hk : 33556480 &&& g.mask = 33556480) : Kept g (State.exchangeOver x0 x1) := by
  unfold State.exchangeOver
  repeat' (first | with_reducible assumption | exact mask_sub hk rfl | with_reducible (first | apply kept_updKind | apply Kept_ite) | split | intro _)

theorem kept_cycHalt {x0 x1} (h0 : Kept g x0) (hk : 100665412 &&& g.mask = 100665412) : Kept g (State.cycHalt x0 x1) := by
  unfold State.cycHalt
  repeat' (first
    | with_reducible assumption
    | with_reducible refine fun _ => ?_
    | ((try lift_lets); intro s; refine (have hs : Kept g s := ?_; ?_); subst s; rotate_left; clear_value s; rotate_left)
    | ((try lift_lets); first | (intro (x : Mram); subst x) | (intro (x : Compositor); subst x) | (intro (x : Store 32); subst x) | (intro (x : Store 8); subst x) | (intro (x : State × _); subst x) | (intro (x : _ × State); subst x) | (intro (x : _ × _ × State); subst x) | (intro (x : State → _); subst x) | (intro (x : _ → State → _); subst x) | (intro (x : _ → State); subst x) | (intro x; clear_value x))
    | (simp only [↓Kept_mk_iff]; refine And.intro ?_ (And.intro ?_ (And.intro ?_ (And.intro ?_ (And.intro ?_ (And.intro ?_ (And.intro ?_ (And.intro ?_ (And.intro ?_ ?_)))))))))
    | with_reducible (first | apply kept_cycStop | apply kept_exchangeOver | apply kept_appNow | apply Kept_ite)
    | with_reducible (first | exact Kept_regs (by assumption) (by assumption) | exact Kept_ram (by assumption) (by assumption) | exact Kept_mram (by assumption) (by assumption) | exact Kept_flt (by assumption) (by assumption) | exact Kept_var (by assumption) | exact Kept_ev (by assumption) (by assumption) | exact Kept_has (by assumption) | exact Kept_out (by assumption) | exact Kept_ctr (by assumption) | exact watchE_none (by assumption))
    | with_reducible refine Only_mk ?_ (.inr rfl) (.inr rfl) (.inr rfl) (.inr rfl) (.inr rfl) (.inr rfl) (.inr rfl) (.inr rfl) (.inr rfl) (.inr rfl) (.inr rfl) (.inr rfl) (.inr rfl) (.inr rfl) (.inr rfl) (.inr rfl) (.inr rfl) (.inr rfl) (.inr rfl) (.inr rfl) (.inr rfl) (.inr rfl) (.inl (mask_bit hk rfl)) (.inr rfl) (.inr rfl) (.inr rfl) (.inr rfl) (.inr rfl) (.inr rfl) (.inr rfl)
    | (first | exact mask_sub hk rfl | exact hk)
    | with_reducible (first | refine Kept_snd (by assumption) ?_ | refine Kept_fst (by assumption) ?_)
    | with_reducible exact Kept_of_next (by assumption)
    | with_reducible (refine Kept_of_O (by assumption) ?_)
    | with_reducible (first | refine Kept_regs (g := g) ?_ (by assumption) | refine Kept_ram (g := g) ?_ (by assumption) | refine Kept_mram (g := g) ?_ (by assumption) | refine Kept_flt (g := g) ?_ (by assumption) | refine Kept_var ?_ | refine Kept_ev ?_ (by assumption) | refine Kept_has ?_ | refine Kept_out ?_ | refine Kept_ctr ?_)
    | dsimp -zeta only
    | split)

theorem kept_cmdStop {x0} (h0 : Kept g x0) (hk : 100665412 &&& g.mask = 100665412) : Kept g (State.cmdStop x0) := by
  unfold State.cmdStop
  repeat' (first
    | with_reducible assumption
    | with_reducible refine fun _ => ?_
    | ((try lift_lets); intro s; refine (have hs : Kept g s := ?_; ?_); subst s; rotate_left; clear_value s; rotate_left)
    | ((try lift_lets); first | (intro (x : Mram); subst x) | (intro (x : Compositor); subst x) | (intro (x : Store 32); subst x) | (intro (x : Store 8); subst x) | (intro (x : State × _); subst x) | (intro (x : _ × State); subst x) | (intro (x : _ × _ × State); subst x) | (intro (x : State → _); subst x) | (intro (x : _ → State → _); subst x) | (intro (x : _ → State); subst x) | (intro x; clear_value x))
    | (simp only [↓Kept_mk_iff]; refine And.intro ?_ (And.intro ?_ (And.intro ?_ (And.intro ?_ (And.intro ?_ (And.intro ?_ (And.intro ?_ (And.intro ?_ (And.intro ?_ ?_)))))))))
    | with_reducible (first | apply kept_cycHalt | apply kept_raise | apply Kept_ite)
    | with_reducible (first | exact Kept_regs (by assumption) (by assumption) | exact Kept_ram (by assumption) (by assumption) | exact Kept_mram (by assumption) (by assumption) | exact Kept_flt (by assumption) (by assumption) | exact Kept_var (by assumption) | exact Kept_ev (by assumption) (by assumption) | exact Kept_has (by assumption) | exact Kept_out (by assumption) | exact Kept_ctr (by assumption) | exact watchE_none (by assumption))
    | with_reducible refine Only_mk ?_ (.inr rfl) (.inr rfl) (.inr rfl) (.inr rfl) (.inr rfl) (.inr rfl) (.inr rfl) (.inr rfl) (.inr rfl) (.inr rfl) (.inr rfl) (.inr rfl) (.inr rfl) (.inr rfl) (.inr rfl) (.inr rfl) (.inr rfl) (.inr rfl) (.inr rfl) (.inr rfl) (.inr rfl) (.inr rfl) (.inr rfl) (.inl (mask_bit hk rfl)) (.inr rfl) (.inr rfl) (.inr rfl) (.inr rfl) (.inr rfl) (.inr rfl)
    | (first | exact mask_sub hk rfl | exact hk)
    | with_reducible (first | refine Kept_snd (by assumption) ?_ | refine Kept_fst (by assumption) ?_)
    | with_reducible exact Kept_of_next (by assumption)
    | with_reducible (refine Kept_of_O (by assumption) ?_)
    | with_reducible (first | refine Kept_regs (g := g) ?_ (by assumption) | refine Kept_ram (g := g) ?_ (by assumption) | refine Kept_mram (g := g) ?_ (by assumption) | refine Kept_flt (g := g) ?_ (by assumption) | refine Kept_var ?_ | refine Kept_ev ?_ (by assumption) | refine Kept_has ?_ | refine Kept_out ?_ | refine Kept_ctr ?_)
    | dsimp -zeta only
    | split)

theorem kept_cmdHold {x0} (h0 : Kept g x0) (hk : 67108864 &&& g.mask = 67108864) : Kept g (State.cmdHold x0) := by
  unfold State.cmdHold
  repeat' (first
    | with_reducible assumption
    | with_reducible refine fun _ => ?_
    | ((try lift_lets); intro s; refine (have hs : Kept g s := ?_; ?_); subst s; rotate_left; clear_value s; rotate_left)
    | ((try lift_lets); first | (intro (x : Mram); subst x) | (intro (x : Compositor); subst x) | (intro (x : Store 32); subst x) | (intro (x : Store 8); subst x) | (intro (x : State × _); subst x) | (intro (x : _ × State); subst x) | (intro (x : _ × _ × State); subst x) | (intro (x : State → _); subst x) | (intro (x : _ → State → _); subst x) | (intro (x : _ → State); subst x) | (intro x; clear_value x))
    | (simp only [↓Kept_mk_iff]; refine And.intro ?_ (And.intro ?_ (And.intro ?_ (And.intro ?_ (And.intro ?_ (And.intro ?_ (And.intro ?_ (And.intro ?_ (And.intro ?_ ?_)))))))))
    | with_reducible (first | apply kept_raise | apply Kept_ite)
    | with_reducible (first | exact Kept_regs (by assumption) (by assumption) | exact Kept_ram (by assumption) (by assumption) | exact Kept_mram (by assumption) (by assumption) | exact Kept_flt (by assumption) (by assumption) | exact Kept_var (by assumption) | exact Kept_ev (by assumption) (by assumption) | exact Kept_has (by assumption) | exact Kept_out (by assumption) | exact Kept_ctr (by assumption) | exact watchE_none (by assumption))
    | with_reducible refine Only_mk ?_ (.inr rfl) (.inr rfl) (.inr rfl) (.inr rfl) (.inr rfl) (.inr rfl) (.inr rfl) (.inr rfl) (.inr rfl) (.inr rfl) (.inr rfl) (.inr rfl) (.inr rfl) (.inr rfl) (.inr rfl) (.inr rfl) (.inr rfl) (.inr rfl) (.inr rfl) (.inr rfl) (.inr rfl) (.inr rfl) (.inr rfl) (.inl (mask_bit hk rfl)) (.inr rfl) (.inr rfl) (.inr rfl) (.inr rfl) (.inr rfl) (.inr rfl)
    | (first | exact mask_sub hk rfl | exact hk)
    | with_reducible (first | refine Kept_snd (by assumption) ?_ | refine Kept_fst (by assumption) ?_)
    | with_reducible exact Kept_of_next (by assumption)
    | with_reducible (refine Kept_of_O (by assumption) ?_)
    | with_reducible (first | refine Kept_regs (g := g) ?_ (by assumption) | refine Kept_ram (g := g) ?_ (by assumption) | refine Kept_mram (g := g) ?_ (by assumption) | refine Kept_flt (g := g) ?_ (by assumption) | refine Kept_var ?_ | refine Kept_ev ?_ (by assumption) | refine Kept_has ?_ | refine Kept_out ?_ | refine Kept_ctr ?_)
    | dsimp -zeta only
    | split)

theorem kept_cycleCall {x0 x1 x2} (h0 : Kept g x0) (hk : 67108864 &&& g.mask = 67108864) : Kept g (State.cycleCall x0 x1 x2) := by
  unfold State.cycleCall
  repeat' (first
    | with_reducible assumption
    | with_reducible refine fun _ => ?_
    | ((try lift_lets); intro s; refine (have hs : Kept g s := ?_; ?_); subst s; rotate_left; clear_value s; rotate_left)
    | ((try lift_lets); first | (intro (x : Mram); subst x) | (intro (x : Compositor); subst x) | (intro (x : Store 32); subst x) | (intro (x : Store 8); subst x) | (intro (x : State × _); subst x) | (intro (x : _ × State); subst x) | (intro (x : _ × _ × State); subst x) | (intro (x : State → _); subst x) | (intro (x : _ → State → _); subst x) | (intro (x : _ → State); subst x) | (intro x; clear_value x))
    | (simp only [↓Kept_mk_iff]; refine And.intro ?_ (And.intro ?_ (And.intro ?_ (And.intro ?_ (And.intro ?_ (And.intro ?_ (And.intro ?_ (And.intro ?_ (And.intro ?_ ?_)))))))))
    | with_reducible (first | apply kept_raise | apply kept_setReg | apply kept_occur | apply Kept_ite)
    | with_reducible (first | exact Kept_regs (by assumption) (by assumption) | exact Kept_ram (by assumption) (by assumption) | exact Kept_mram (by assumption) (by assumption) | exact Kept_flt (by assumption) (by assumption) | exact Kept_var (by assumption) | exact Kept_ev (by assumption) (by assumption) | exact Kept_has (by assumption) | exact Kept_out (by assumption) | exact Kept_ctr (by assumption) | exact watchE_none (by assumption))
    | with_reducible refine Only_mk ?_ (.inr rfl) (.inr rfl) (.inr rfl) (.inr rfl) (.inr rfl) (.inr rfl) (.inr rfl) (.inr rfl) (.inr rfl) (.inr rfl) (.inr rfl) (.inr rfl) (.inr rfl) (.inr rfl) (.inr rfl) (.inr rfl) (.inr rfl) (.inr rfl) (.inr rfl) (.inr rfl) (.inr rfl) (.inr rfl) (.inr rfl) (.inl (mask_bit hk rfl)) (.inr rfl) (.inr rfl) (.inr rfl) (.inr rfl) (.inr rfl) (.inr rfl)
    | (first | exact mask_sub hk rfl | exact hk)
    | with_reducible (first | refine Kept_snd (by assumption) ?_ | refine Kept_fst (by assumption) ?_)
    | with_reducible exact Kept_of_next (by assumption)
    | with_reducible (refine Kept_of_O (by assumption) ?_)
    | with_reducible (first | refine Kept_regs (g := g) ?_ (by assumption) | refine Kept_ram (g := g) ?_ (by assumption) | refine Kept_mram (g := g) ?_ (by assumption) | refine Kept_flt (g := g) ?_ (by assumption) | refine Kept_var ?_ | refine Kept_ev ?_ (by assumption) | refine Kept_has ?_ | refine Kept_out ?_ | refine Kept_ctr ?_)
    | dsimp -zeta only
    | split)

theorem kept_cmdStep {x0 x1} (h0 : Kept g x0) (hk : 67108864 &&& g.mask = 67108864) : Kept g (State.cmdStep x0 x1) := by
  unfold State.cmdStep
  repeat' (first
    | with_reducible assumption
    | with_reducible refine fun _ => ?_
    | ((try lift_lets); intro s; refine (have hs : Kept g s := ?_; ?_); subst s; rotate_left; clear_value s; rotate_left)
    | ((try lift_lets); first | (intro (x : Mram); subst x) | (intro (x : Compositor); subst x) | (intro (x : Store 32); subst x) | (intro (x : Store 8); subst x) | (intro (x : State × _); subst x) | (intro (x : _ × State); subst x) | (intro (x : _ × _ × State); subst x) | (intro (x : State → _); subst x) | (intro (x : _ → State → _); subst x) | (intro (x : _ → State); subst x) | (intro x; clear_value x))
    | (simp only [↓Kept_mk_iff]; refine And.intro ?_ (And.intro ?_ (And.intro ?_ (And.intro ?_ (And.intro ?_ (And.intro ?_ (And.intro ?_ (And.intro ?_ (And.intro ?_ ?_)))))))))
    | with_reducible (first | apply kept_raise | apply kept_cycleCall | apply Kept_ite)
    | with_reducible (first | exact Kept_regs (by assumption) (by assumption) | exact Kept_ram (by assumption) (by assumption) | exact Kept_mram (by assumption) (by assumption) | exact Kept_flt (by assumption) (by assumption) | exact Kept_var (by assumption) | exact Kept_ev (by assumption) (by assumption) | exact Kept_has (by assumption) | exact Kept_out (by assumption) | exact Kept_ctr (by assumption) | exact watchE_none (by assumption))
    | with_reducible refine Only_mk ?_ (.inr rfl) (.inr rfl) (.inr rfl) (.inr rfl) (.inr rfl) (.inr rfl) (.inr rfl) (.inr rfl) (.inr rfl) (.inr rfl) (.inr rfl) (.inr rfl) (.inr rfl) (.inr rfl) (.inr rfl) (.inr rfl) (.inr rfl) (.inr rfl) (.inr rfl) (.inr rfl) (.inr rfl) (.inr rfl) (.inr rfl) (.inl (mask_bit hk rfl)) (.inr rfl) (.inr rfl) (.inr rfl) (.inr rfl) (.inr rfl) (.inr rfl)
    | (first | exact mask_sub hk rfl | exact hk)
    | with_reducible (first | refine Kept_snd (by assumption) ?_ | refine Kept_fst (by assumption) ?_)
    | with_reducible exact Kept_of_next (by assumption)
    | with_reducible (refine Kept_of_O (by assumption) ?_)
    | with_reducible (first | refine Kept_regs (g := g) ?_ (by assumption) | refine Kept_ram (g := g) ?_ (by assumption) | refine Kept_mram (g := g) ?_ (by assumption) | refine Kept_flt (g := g) ?_ (by assumption) | refine Kept_var ?_ | refine Kept_ev ?_ (by assumption) | refine Kept_has ?_ | refine Kept_out ?_ | refine Kept_ctr ?_)
    | dsimp -zeta only
    | split)

theorem kept_cycGranted {x0} (h0 : Kept g x0) (hk : 100665412 &&& g.mask = 100665412) : Kept g (State.cycGranted x0) := by
  unfold State.cycGranted
  repeat' (first
    | with_reducible assumption
    | with_reducible refine fun _ => ?_
    | ((try lift_lets); intro s; refine (have hs : Kept g s := ?_; ?_); subst s; rotate_left; clear_value s; rotate_left)
    | ((try lift_lets); first | (intro (x : Mram); subst x) | (intro (x : Compositor); subst x) | (intro (x : Store 32); subst x) | (intro (x : Store 8); subst x) | (intro (x : State × _); subst x) | (intro (x : _ × State); subst x) | (intro (x : _ × _ × State); subst x) | (intro (x : State → _); subst x) | (intro (x : _ → State → _); subst x) | (intro (x : _ → State); subst x) | (intro x; clear_value x))
    | (simp only [↓Kept_mk_iff]; refine And.intro ?_ (And.intro ?_ (And.intro ?_ (And.intro ?_ (And.intro ?_ (And.intro ?_ (And.intro ?_ (And.intro ?_ (And.intro ?_ ?_)))))))))
    | with_reducible (first | apply kept_cmdRun | apply kept_cmdStop | apply kept_cmdHold | apply kept_cmdStep | apply kept_fresh | apply kept_raise | apply Kept_ite | apply Kept_foldl)
    | with_reducible (first | exact Kept_regs (by assumption) (by assumption) | exact Kept_ram (by assumption) (by assumption) | exact Kept_mram (by assumption) (by assumption) | exact Kept_flt (by assumption) (by assumption) | exact Kept_var (by assumption) | exact Kept_ev (by assumption) (by assumption) | exact Kept_has (by assumption) | exact Kept_out (by assumption) | exact Kept_ctr (by assumption) | exact watchE_none (by assumption))
    | with_reducible refine Only_mk ?_ (.inr rfl) (.inr rfl) (.inr rfl) (.inr rfl) (.inr rfl) (.inr rfl) (.inr rfl) (.inr rfl) (.inr rfl) (.inr rfl) (.inr rfl) (.inr rfl) (.inr rfl) (.inr rfl) (.inr rfl) (.inr rfl) (.inr rfl) (.inr rfl) (.inr rfl) (.inr rfl) (.inr rfl) (.inr rfl) (.inr rfl) (.inl (mask_bit hk rfl)) (.inr rfl) (.inr rfl) (.inr rfl) (.inr rfl) (.inr rfl) (.inr rfl)
    | (first | exact mask_sub hk rfl | exact hk)
    | with_reducible (first | refine Kept_snd (by assumption) ?_ | refine Kept_fst (by assumption) ?_)
    | with_reducible exact Kept_of_next (by assumption)
    | with_reducible (refine Kept_of_O (by assumption) ?_)
    | with_reducible (first | refine Kept_regs (g := g) ?_ (by assumption) | refine Kept_ram (g := g) ?_ (by assumption) | refine Kept_mram (g := g) ?_ (by assumption) | refine Kept_flt (g := g) ?_ (by assumption) | refine Kept_var ?_ | refine Kept_ev ?_ (by assumption) | refine Kept_has ?_ | refine Kept_out ?_ | refine Kept_ctr ?_)
    | dsimp -zeta only
    | split)

theorem kept_stepBy {x0 x1} (h0 : Kept g x0) (hk : 256 &&& g.mask = 256) : Kept g (State.stepBy x0 x1) := by
  unfold State.stepBy
  repeat' (first
    | with_reducible assumption
    | with_reducible refine fun _ => ?_
    | ((try lift_lets); intro s; refine (have hs : Kept g s := ?_; ?_); subst s; rotate_left; clear_value s; rotate_left)
    | ((try lift_lets); first | (intro (x : Mram); subst x) | (intro (x : Compositor); subst x) | (intro (x : Store 32); subst x) | (intro (x : Store 8); subst x) | (intro (x : State × _); subst x) | (intro (x : _ × State); subst x) | (intro (x : _ × _ × State); subst x) | (intro (x : State → _); subst x) | (intro (x : _ → State → _); subst x) | (intro (x : _ → State); subst x) | (intro x; clear_value x))
    | (simp only [↓Kept_mk_iff]; refine And.intro ?_ (And.intro ?_ (And.intro ?_ (And.intro ?_ (And.intro ?_ (And.intro ?_ (And.intro ?_ (And.intro ?_ (And.intro ?_ ?_)))))))))
    | with_reducible (first | apply kept_raiseA | apply kept_countUp | apply kept_setReg | apply Kept_ite)
    | with_reducible (first | exact Kept_regs (by assumption) (by assumption) | exact Kept_ram (by assumption) (by assumption) | exact Kept_mram (by assumption) (by assumption) | exact Kept_flt (by assumption) (by assumption) | exact Kept_var (by assumption) | exact Kept_ev (by assumption) (by assumption) | exact Kept_has (by assumption) | exact Kept_out (by assumption) | exact Kept_ctr (by assumption) | exact watchE_none (by assumption))
    | with_reducible refine Only_mk ?_ (.inr rfl) (.inr rfl) (.inr rfl) (.inr rfl) (.inr rfl) (.inr rfl) (.inl (mask_bit hk rfl)) (.inr rfl) (.inr rfl) (.inr rfl) (.inr rfl) (.inr rfl) (.inr rfl) (.inr rfl) (.inr rfl) (.inr rfl) (.inr rfl) (.inr rfl) (.inr rfl) (.inr rfl) (.inr rfl) (.inr rfl) (.inr rfl) (.inr rfl) (.inr rfl) (.inr rfl) (.inr rfl) (.inr rfl) (.inr rfl) (.inr rfl)
    | (first | exact mask_sub hk rfl | exact hk)
    | with_reducible (first | refine Kept_snd (by assumption) ?_ | refine Kept_fst (by assumption) ?_)
    | with_reducible exact Kept_of_next (by assumption)
    | with_reducible (refine Kept_of_O (by assumption) ?_)
    | with_reducible (first | refine Kept_regs (g := g) ?_ (by assumption) | refine Kept_ram (g := g) ?_ (by assumption) | refine Kept_mram (g := g) ?_ (by assumption) | refine Kept_flt (g := g) ?_ (by assumption) | refine Kept_var ?_ | refine Kept_ev ?_ (by assumption) | refine Kept_has ?_ | refine Kept_out ?_ | refine Kept_ctr ?_)
    | dsimp -zeta only
    | split)

theorem kept_stepRefused {x0 x1} (h0 : Kept g x0) (hk : 256 &&& g.mask = 256) : Kept g (State.stepRefused x0 x1) := by
  unfold State.stepRefused
  repeat' (first
    | with_reducible assumption
    | with_reducible refine fun _ => ?_
    | ((try lift_lets); intro s; refine (have hs : Kept g s := ?_; ?_); subst s; rotate_left; clear_value s; rotate_left)
    | ((try lift_lets); first | (intro (x : Mram); subst x) | (intro (x : Compositor); subst x) | (intro (x : Store 32); subst x) | (intro (x : Store 8); subst x) | (intro (x : State × _); subst x) | (intro (x : _ × State); subst x) | (intro (x : _ × _ × State); subst x) | (intro (x : State → _); subst x) | (intro (x : _ → State → _); subst x) | (intro (x : _ → State); subst x) | (intro x; clear_value x))
    | (simp only [↓Kept_mk_iff]; refine And.intro ?_ (And.intro ?_ (And.intro ?_ (And.intro ?_ (And.intro ?_ (And.intro ?_ (And.intro ?_ (And.intro ?_ (And.intro ?_ ?_)))))))))
    | with_reducible (first | apply kept_raiseA | apply kept_setReg | apply Kept_ite)
    | with_reducible (first | exact Kept_regs (by assumption) (by assumption) | exact Kept_ram (by assumption) (by assumption) | exact Kept_mram (by assumption) (by assumption) | exact Kept_flt (by assumption) (by assumption) | exact Kept_var (by assumption) | exact Kept_ev (by assumption) (by assumption) | exact Kept_has (by assumption) | exact Kept_out (by assumption) | exact Kept_ctr (by assumption) | exact watchE_none (by assumption))
    | with_reducible refine Only_mk ?_ (.inr rfl) (.inr rfl) (.inr rfl) (.inr rfl) (.inr rfl) (.inr rfl) (.inl (mask_bit hk rfl)) (.inr rfl) (.inr rfl) (.inr rfl) (.inr rfl) (.inr rfl) (.inr rfl) (.inr rfl) (.inr rfl) (.inr rfl) (.inr rfl) (.inr rfl) (.inr rfl) (.inr rfl) (.inr rfl) (.inr rfl) (.inr rfl) (.inr rfl) (.inr rfl) (.inr rfl) (.inr rfl) (.inr rfl) (.inr rfl) (.inr rfl)
    | (first | exact mask_sub hk rfl | exact hk)
    | with_reducible (first | refine Kept_snd (by assumption) ?_ | refine Kept_fst (by assumption) ?_)
    | with_reducible exact Kept_of_next (by assumption)
    | with_reducible (refine Kept_of_O (by assumption) ?_)
    | with_reducible (first | refine Kept_regs (g := g) ?_ (by assumption) | refine Kept_ram (g := g) ?_ (by assumption) | refine Kept_mram (g := g) ?_ (by assumption) | refine Kept_flt (g := g) ?_ (by assumption) | refine Kept_var ?_ | refine Kept_ev ?_ (by assumption) | refine Kept_has ?_ | refine Kept_out ?_ | refine Kept_ctr ?_)
    | dsimp -zeta only
    | split)

theorem kept_stepsGranted {x0} (h0 : Kept g x0) (hk : 256 &&& g.mask = 256) : Kept g (State.stepsGranted x0) := by
  unfold State.stepsGranted
  repeat' (first
    | with_reducible assumption
    | with_reducible refine fun _ => ?_
    | ((try lift_lets); intro s; refine (have hs : Kept g s := ?_; ?_); subst s; rotate_left; clear_value s; rotate_left)
    | ((try lift_lets); first | (intro (x : Mram); subst x) | (intro (x : Compositor); subst x) | (intro (x : Store 32); subst x) | (intro (x : Store 8); subst x) | (intro (x : State × _); subst x) | (intro (x : _ × State); subst x) | (intro (x : _ × _ × State); subst x) | (intro (x : State → _); subst x) | (intro (x : _ → State → _); subst x) | (intro (x : _ → State); subst x) | (intro x; clear_value x))
    | (simp only [↓Kept_mk_iff]; refine And.intro ?_ (And.intro ?_ (And.intro ?_ (And.intro ?_ (And.intro ?_ (And.intro ?_ (And.intro ?_ (And.intro ?_ (And.intro ?_ ?_)))))))))
    | with_reducible (first | apply kept_stepBy | apply kept_stepRefused | apply Kept_ite | apply Kept_foldl)
    | with_reducible (first | exact Kept_regs (by assumption) (by assumption) | exact Kept_ram (by assumption) (by assumption) | exact Kept_mram (by assumption) (by assumption) | exact Kept_flt (by assumption) (by assumption) | exact Kept_var (by assumption) | exact Kept_ev (by assumption) (by assumption) | exact Kept_has (by assumption) | exact Kept_out (by assumption) | exact Kept_ctr (by assumption) | exact watchE_none (by assumption))
    | with_reducible refine Only_mk ?_ (.inr rfl) (.inr rfl) (.inr rfl) (.inr rfl) (.inr rfl) (.inr rfl) (.inl (mask_bit hk rfl)) (.inr rfl) (.inr rfl) (.inr rfl) (.inr rfl) (.inr rfl) (.inr rfl) (.inr rfl) (.inr rfl) (.inr rfl) (.inr rfl) (.inr rfl) (.inr rfl) (.inr rfl) (.inr rfl) (.inr rfl) (.inr rfl) (.inr rfl) (.inr rfl) (.inr rfl) (.inr rfl) (.inr rfl) (.inr rfl) (.inr rfl)
    | (first | exact mask_sub hk rfl | exact hk)
    | with_reducible (first | refine Kept_snd (by assumption) ?_ | refine Kept_fst (by assumption) ?_)
    | with_reducible exact Kept_of_next (by assumption)
    | with_reducible (refine Kept_of_O (by assumption) ?_)
    | with_reducible (first | refine Kept_regs (g := g) ?_ (by assumption) | refine Kept_ram (g := g) ?_ (by assumption) | refine Kept_mram (g := g) ?_ (by assumption) | refine Kept_flt (g := g) ?_ (by assumption) | refine Kept_var ?_ | refine Kept_ev ?_ (by assumption) | refine Kept_has ?_ | refine Kept_out ?_ | refine Kept_ctr ?_)
    | dsimp -zeta only
    | split)

theorem kept_nodeResume {x0} (h0 : Kept g x0) (hk : 33556544 &&& g.mask = 33556544) : Kept g (State.nodeResume x0) := by
  unfold State.nodeResume
  repeat' (first | with_reducible assumption | exact mask_sub hk rfl | with_reducible (first | apply kept_nodeFrame | apply Kept_ite) | split | intro _)

theorem kept_occurAdd {x0 x1 x2} (h0 : Kept g x0) : Kept g (State.occurAdd x0 x1 x2) := by
  unfold State.occurAdd
  repeat' (first | with_reducible assumption | with_reducible (first | apply kept_occur | apply Kept_ite) | split | intro _)

theorem kept_countRc {x0 x1} (h0 : Kept g x0) : Kept g (State.countRc x0 x1) := by
  unfold State.countRc
  repeat' (first | with_reducible assumption | with_reducible (first | apply kept_occurAdd | apply Kept_ite) | split | intro _)

theorem kept_estAdopt {x0} (h0 : Kept g x0) (hk : 1048576 &&& g.mask = 1048576) : Kept g (State.estAdopt x0) := by
  unfold State.estAdopt
  repeat' (first
    | with_reducible assumption
    | with_reducible refine fun _ => ?_
    | ((try lift_lets); intro s; refine (have hs : Kept g s := ?_; ?_); subst s; rotate_left; clear_value s; rotate_left)
    | ((try lift_lets); first | (intro (x : Mram); subst x) | (intro (x : Compositor); subst x) | (intro (x : Store 32); subst x) | (intro (x : Store 8); subst x) | (intro (x : State × _); subst x) | (intro (x : _ × State); subst x) | (intro (x : _ × _ × State); subst x) | (intro (x : State → _); subst x) | (intro (x : _ → State → _); subst x) | (intro (x : _ → State); subst x) | (intro x; clear_value x))
    | (simp only [↓Kept_mk_iff]; refine And.intro ?_ (And.intro ?_ (And.intro ?_ (And.intro ?_ (And.intro ?_ (And.intro ?_ (And.intro ?_ (And.intro ?_ (And.intro ?_ ?_)))))))))
    | with_reducible (first | apply kept_raise | apply kept_countRc | apply Kept_ite)
    | with_reducible (first | exact Kept_regs (by assumption) (by assumption) | exact Kept_ram (by assumption) (by assumption) | exact Kept_mram (by assumption) (by assumption) | exact Kept_flt (by assumption) (by assumption) | exact Kept_var (by assumption) | exact Kept_ev (by assumption) (by assumption) | exact Kept_has (by assumption) | exact Kept_out (by assumption) | exact Kept_ctr (by assumption) | exact watchE_none (by assumption))
    | with_reducible refine Only_mk ?_ (.inr rfl) (.inr rfl) (.inr rfl) (.inr rfl) (.inr rfl) (.inr rfl) (.inr rfl) (.inr rfl) (.inr rfl) (.inr rfl) (.inr rfl) (.inr rfl) (.inr rfl) (.inr rfl) (.inr rfl) (.inr rfl) (.inr rfl) (.inl (mask_bit hk rfl)) (.inr rfl) (.inr rfl) (.inr rfl) (.inr rfl) (.inr rfl) (.inr rfl) (.inr rfl) (.inr rfl) (.inr rfl) (.inr rfl) (.inr rfl) (.inr rfl)
    | (first | exact mask_sub hk rfl | exact hk)
    | with_reducible (first | refine Kept_snd (by assumption) ?_ | refine Kept_fst (by assumption) ?_)
    | with_reducible exact Kept_of_next (by assumption)
    | with_reducible (refine Kept_of_O (by assumption) ?_)
    | with_reducible (first | refine Kept_regs (g := g) ?_ (by assumption) | refine Kept_ram (g := g) ?_ (by assumption) | refine Kept_mram (g := g) ?_ (by assumption) | refine Kept_flt (g := g) ?_ (by assumption) | refine Kept_var ?_ | refine Kept_ev ?_ (by assumption) | refine Kept_has ?_ | refine Kept_out ?_ | refine Kept_ctr ?_)
    | dsimp -zeta only
    | split)

theorem kept_sweepGranted {x0} (h0 : Kept g x0) (hk : 5242880 &&& g.mask = 5242880) : Kept g (State.sweepGranted x0) := by
  unfold State.sweepGranted
  repeat' (first
    | with_reducible assumption
    | with_reducible refine fun _ => ?_
    | ((try lift_lets); intro s; refine (have hs : Kept g s := ?_; ?_); subst s; rotate_left; clear_value s; rotate_left)
    | ((try lift_lets); first | (intro (x : Mram); subst x) | (intro (x : Compositor); subst x) | (intro (x : Store 32); subst x) | (intro (x : Store 8); subst x) | (intro (x : State × _); subst x) | (intro (x : _ × State); subst x) | (intro (x : _ × _ × State); subst x) | (intro (x : State → _); subst x) | (intro (x : _ → State → _); subst x) | (intro (x : _ → State); subst x) | (intro x; clear_value x))
    | (simp only [↓Kept_mk_iff]; refine And.intro ?_ (And.intro ?_ (And.intro ?_ (And.intro ?_ (And.intro ?_ (And.intro ?_ (And.intro ?_ (And.intro ?_ (And.intro ?_ ?_)))))))))
    | with_reducible (first | apply kept_estAdopt | apply Kept_ite)
    | with_reducible (first | exact Kept_regs (by assumption) (by assumption) | exact Kept_ram (by assumption) (by assumption) | exact Kept_mram (by assumption) (by assumption) | exact Kept_flt (by assumption) (by assumption) | exact Kept_var (by assumption) | exact Kept_ev (by assumption) (by assumption) | exact Kept_has (by assumption) | exact Kept_out (by assumption) | exact Kept_ctr (by assumption) | exact watchE_none (by assumption))
    | with_reducible refine Only_mk ?_ (.inr rfl) (.inr rfl) (.inr rfl) (.inr rfl) (.inr rfl) (.inr rfl) (.inr rfl) (.inr rfl) (.inr rfl) (.inr rfl) (.inr rfl) (.inr rfl) (.inr rfl) (.inr rfl) (.inr rfl) (.inr rfl) (.inr rfl) (.inr rfl) (.inr rfl) (.inl (mask_bit hk rfl)) (.inr rfl) (.inr rfl) (.inr rfl) (.inr rfl) (.inr rfl) (.inr rfl) (.inr rfl) (.inr rfl) (.inr rfl) (.inr rfl)
    | (first | exact mask_sub hk rfl | exact hk)
    | with_reducible (first | refine Kept_snd (by assumption) ?_ | refine Kept_fst (by assumption) ?_)
    | with_reducible exact Kept_of_next (by assumption)
    | with_reducible (refine Kept_of_O (by assumption) ?_)
    | with_reducible (first | refine Kept_regs (g := g) ?_ (by assumption) | refine Kept_ram (g := g) ?_ (by assumption) | refine Kept_mram (g := g) ?_ (by assumption) | refine Kept_flt (g := g) ?_ (by assumption) | refine Kept_var ?_ | refine Kept_ev ?_ (by assumption) | refine Kept_has ?_ | refine Kept_out ?_ | refine Kept_ctr ?_)
    | dsimp -zeta only
    | split)

theorem kept_latchImage {x0 x1} (h0 : Kept g x0) (hk : 67108868 &&& g.mask = 67108868) : Kept g (State.latchImage x0 x1) := by
  unfold State.latchImage
  repeat' (first
    | with_reducible assumption
    | with_reducible refine fun _ => ?_
    | ((try lift_lets); intro s; refine (have hs : Kept g s := ?_; ?_); subst s; rotate_left; clear_value s; rotate_left)
    | ((try lift_lets); first | (intro (x : Mram); subst x) | (intro (x : Compositor); subst x) | (intro (x : Store 32); subst x) | (intro (x : Store 8); subst x) | (intro (x : State × _); subst x) | (intro (x : _ × State); subst x) | (intro (x : _ × _ × State); subst x) | (intro (x : State → _); subst x) | (intro (x : _ → State → _); subst x) | (intro (x : _ → State); subst x) | (intro x; clear_value x))
    | (simp only [↓Kept_mk_iff]; refine And.intro ?_ (And.intro ?_ (And.intro ?_ (And.intro ?_ (And.intro ?_ (And.intro ?_ (And.intro ?_ (And.intro ?_ (And.intro ?_ ?_)))))))))
    | with_reducible (first | apply kept_setBytes | apply Kept_ite | apply filter_wf | apply evOk_filter)
    | with_reducible (first | exact Kept_regs (by assumption) (by assumption) | exact Kept_ram (by assumption) (by assumption) | exact Kept_mram (by assumption) (by assumption) | exact Kept_flt (by assumption) (by assumption) | exact Kept_var (by assumption) | exact Kept_ev (by assumption) (by assumption) | exact Kept_has (by assumption) | exact Kept_out (by assumption) | exact Kept_ctr (by assumption) | exact watchE_none (by assumption))
    | with_reducible refine Only_mk ?_ (.inr rfl) (.inl (mask_bit hk rfl)) (.inr rfl) (.inr rfl) (.inr rfl) (.inr rfl) (.inr rfl) (.inr rfl) (.inr rfl) (.inr rfl) (.inr rfl) (.inr rfl) (.inr rfl) (.inr rfl) (.inr rfl) (.inr rfl) (.inr rfl) (.inr rfl) (.inr rfl) (.inr rfl) (.inr rfl) (.inr rfl) (.inr rfl) (.inl (mask_bit hk rfl)) (.inr rfl) (.inr rfl) (.inr rfl) (.inr rfl) (.inr rfl) (.inr rfl)
    | (first | exact mask_sub hk rfl | exact hk)
    | with_reducible (first | refine Kept_snd (by assumption) ?_ | refine Kept_fst (by assumption) ?_)
    | with_reducible exact Kept_of_next (by assumption)
    | with_reducible (refine Kept_of_O (by assumption) ?_)
    | with_reducible (first | refine Kept_regs (g := g) ?_ (by assumption) | refine Kept_ram (g := g) ?_ (by assumption) | refine Kept_mram (g := g) ?_ (by assumption) | refine Kept_flt (g := g) ?_ (by assumption) | refine Kept_var ?_ | refine Kept_ev ?_ (by assumption) | refine Kept_has ?_ | refine Kept_out ?_ | refine Kept_ctr ?_)
    | dsimp -zeta only
    | split)

theorem kept_atGrant {x0 x1 x2} (h0 : Kept g x0) (hE : ∀ e, ¬ g.events e) (hk : 8589934060 &&& g.mask = 8589934060) : Kept g (State.atGrant x0 x1 x2) := by
  unfold State.atGrant
  repeat' (first | with_reducible assumption | exact mask_sub hk rfl | with_reducible (first | apply kept_requestGranted | apply kept_restartGranted | apply kept_setB | apply kept_offersGranted | apply kept_capGranted | apply kept_anchorReqGranted | apply kept_anchorCancelGranted | apply kept_holdGranted | apply kept_cycGranted | apply kept_stepsGranted | apply kept_abortDue | apply kept_activateGranted | apply kept_nodeResume | apply kept_sweepGranted | apply kept_latchImage | apply Kept_ite) | split | intro _)

theorem kept_recordErr {x0 x1 x2 x3} (h0 : Kept g x0) : Kept g (State.recordErr x0 x1 x2 x3) := by
  unfold State.recordErr
  repeat' (first | with_reducible assumption | with_reducible (first | apply kept_setReg | apply kept_setF | apply Kept_ite) | split | intro _)

theorem kept_refuse {x0 x1 x2 x3 x4} (h0 : Kept g x0) : Kept g (State.refuse x0 x1 x2 x3 x4) := by
  unfold State.refuse
  repeat' (first | with_reducible assumption | with_reducible (first | apply kept_recordErr | apply kept_emit | apply Kept_ite) | split | intro _)

theorem kept_badWidth {x0 x1 x2} (h0 : Kept g x0) : Kept g (State.badWidth x0 x1 x2) := by
  unfold State.badWidth
  repeat' (first | with_reducible assumption | with_reducible (first | apply kept_refuse | apply kept_raise | apply Kept_ite) | split | intro _)

theorem kept_bleedFrame {x0 x1 x2} (h0 : Kept g x0) : Kept g (State.bleedFrame x0 x1 x2) := by
  unfold State.bleedFrame
  repeat' (first | with_reducible assumption | with_reducible (first | apply kept_frameOut | apply Kept_ite) | split | intro _)

theorem kept_bleedOff {x0 x1} (h0 : Kept g x0) (hk : 741308480 &&& g.mask = 741308480) : Kept g (State.bleedOff x0 x1) := by
  unfold State.bleedOff
  repeat' (first | with_reducible assumption | exact mask_sub hk rfl | with_reducible (first | apply kept_progress | apply kept_setFunc | apply kept_raise | apply Kept_ite) | split | intro _)

theorem kept_estBleed {x0 x1 x2 x3} (h0 : Kept g x0) (hk : 1048576 &&& g.mask = 1048576) : Kept g (State.estBleed x0 x1 x2 x3) := by
  unfold State.estBleed
  repeat' (first
    | with_reducible assumption
    | with_reducible refine fun _ => ?_
    | ((try lift_lets); intro s; refine (have hs : Kept g s := ?_; ?_); subst s; rotate_left; clear_value s; rotate_left)
    | ((try lift_lets); first | (intro (x : Mram); subst x) | (intro (x : Compositor); subst x) | (intro (x : Store 32); subst x) | (intro (x : Store 8); subst x) | (intro (x : State × _); subst x) | (intro (x : _ × State); subst x) | (intro (x : _ × _ × State); subst x) | (intro (x : State → _); subst x) | (intro (x : _ → State → _); subst x) | (intro (x : _ → State); subst x) | (intro x; clear_value x))
    | (simp only [↓Kept_mk_iff]; refine And.intro ?_ (And.intro ?_ (And.intro ?_ (And.intro ?_ (And.intro ?_ (And.intro ?_ (And.intro ?_ (And.intro ?_ (And.intro ?_ ?_)))))))))
    | with_reducible (first | apply Kept_ite)
    | with_reducible (first | exact Kept_regs (by assumption) (by assumption) | exact Kept_ram (by assumption) (by assumption) | exact Kept_mram (by assumption) (by assumption) | exact Kept_flt (by assumption) (by assumption) | exact Kept_var (by assumption) | exact Kept_ev (by assumption) (by assumption) | exact Kept_has (by assumption) | exact Kept_out (by assumption) | exact Kept_ctr (by assumption) | exact watchE_none (by assumption))
    | with_reducible refine Only_mk ?_ (.inr rfl) (.inr rfl) (.inr rfl) (.inr rfl) (.inr rfl) (.inr rfl) (.inr rfl) (.inr rfl) (.inr rfl) (.inr rfl) (.inr rfl) (.inr rfl) (.inr rfl) (.inr rfl) (.inr rfl) (.inr rfl) (.inr rfl) (.inl (mask_bit hk rfl)) (.inr rfl) (.inr rfl) (.inr rfl) (.inr rfl) (.inr rfl) (.inr rfl) (.inr rfl) (.inr rfl) (.inr rfl) (.inr rfl) (.inr rfl) (.inr rfl)
    | (first | exact mask_sub hk rfl | exact hk)
    | with_reducible (first | refine Kept_snd (by assumption) ?_ | refine Kept_fst (by assumption) ?_)
    | with_reducible exact Kept_of_next (by assumption)
    | with_reducible (refine Kept_of_O (by assumption) ?_)
    | with_reducible (first | refine Kept_regs (g := g) ?_ (by assumption) | refine Kept_ram (g := g) ?_ (by assumption) | refine Kept_mram (g := g) ?_ (by assumption) | refine Kept_flt (g := g) ?_ (by assumption) | refine Kept_var ?_ | refine Kept_ev ?_ (by assumption) | refine Kept_has ?_ | refine Kept_out ?_ | refine Kept_ctr ?_)
    | dsimp -zeta only
    | split)

theorem kept_bleedOne {x0 x1 x2} (h1 : Kept g x1) (hk : 5242880 &&& g.mask = 5242880) : Kept g (State.bleedOne x0 x1 x2) := by
  unfold State.bleedOne
  repeat' (first | with_reducible assumption | exact mask_sub hk rfl | with_reducible (first | apply kept_raiseIf | apply kept_posMod | apply kept_estBleed | apply Kept_ite) | split | intro _)

theorem kept_mapSet {x0 x1 x2 x3} (h0 : Kept g x0) : Kept g (State.mapSet x0 x1 x2 x3) := by
  unfold State.mapSet
  repeat' (first | with_reducible assumption | with_reducible (first | apply kept_setB | apply Kept_ite) | split | intro _)

theorem kept_mapAll {x0 x1 x2} (h0 : Kept g x0) : Kept g (State.mapAll x0 x1 x2) := by
  unfold State.mapAll
  repeat' (first
    | with_reducible assumption
    | with_reducible refine fun _ => ?_
    | ((try lift_lets); intro s; refine (have hs : Kept g s := ?_; ?_); subst s; rotate_left; clear_value s; rotate_left)
    | ((try lift_lets); first | (intro (x : Mram); subst x) | (intro (x : Compositor); subst x) | (intro (x : Store 32); subst x) | (intro (x : Store 8); subst x) | (intro (x : State × _); subst x) | (intro (x : _ × State); subst x) | (intro (x : _ × _ × State); subst x) | (intro (x : State → _); subst x) | (intro (x : _ → State → _); subst x) | (intro (x : _ → State); subst x) | (intro x; clear_value x))
    | (simp only [↓Kept_mk_iff]; refine And.intro ?_ (And.intro ?_ (And.intro ?_ (And.intro ?_ (And.intro ?_ (And.intro ?_ (And.intro ?_ (And.intro ?_ (And.intro ?_ ?_)))))))))
    | with_reducible (first | apply kept_setReg | apply kept_mapSet | apply Kept_ite | apply Kept_foldl)
    | with_reducible (first | exact Kept_regs (by assumption) (by assumption) | exact Kept_ram (by assumption) (by assumption) | exact Kept_mram (by assumption) (by assumption) | exact Kept_flt (by assumption) (by assumption) | exact Kept_var (by assumption) | exact Kept_ev (by assumption) (by assumption) | exact Kept_has (by assumption) | exact Kept_out (by assumption) | exact Kept_ctr (by assumption) | exact watchE_none (by assumption))
    | (first | rfl)
    | with_reducible (first | refine Kept_snd (by assumption) ?_ | refine Kept_fst (by assumption) ?_)
    | with_reducible exact Kept_of_next (by assumption)
    | with_reducible (refine Kept_of_O (by assumption) ?_)
    | with_reducible (first | refine Kept_regs (g := g) ?_ (by assumption) | refine Kept_ram (g := g) ?_ (by assumption) | refine Kept_mram (g := g) ?_ (by assumption) | refine Kept_flt (g := g) ?_ (by assumption) | refine Kept_var ?_ | refine Kept_ev ?_ (by assumption) | refine Kept_has ?_ | refine Kept_out ?_ | refine Kept_ctr ?_)
    | dsimp -zeta only
    | split)

theorem kept_rejudge {x0} (h0 : Kept g x0) (hk : 739211328 &&& g.mask = 739211328) : Kept g (State.rejudge x0) := by
  unfold State.rejudge
  repeat' (first
    | with_reducible assumption
    | with_reducible refine fun _ => ?_
    | ((try lift_lets); intro s; refine (have hs : Kept g s := ?_; ?_); subst s; rotate_left; clear_value s; rotate_left)
    | ((try lift_lets); first | (intro (x : Mram); subst x) | (intro (x : Compositor); subst x) | (intro (x : Store 32); subst x) | (intro (x : Store 8); subst x) | (intro (x : State × _); subst x) | (intro (x : _ × State); subst x) | (intro (x : _ × _ × State); subst x) | (intro (x : State → _); subst x) | (intro (x : _ → State → _); subst x) | (intro (x : _ → State); subst x) | (intro x; clear_value x))
    | (simp only [↓Kept_mk_iff]; refine And.intro ?_ (And.intro ?_ (And.intro ?_ (And.intro ?_ (And.intro ?_ (And.intro ?_ (And.intro ?_ (And.intro ?_ (And.intro ?_ ?_)))))))))
    | with_reducible (first | apply kept_fsStart | apply kept_raise | apply Kept_ite | apply Kept_foldl)
    | with_reducible (first | exact Kept_regs (by assumption) (by assumption) | exact Kept_ram (by assumption) (by assumption) | exact Kept_mram (by assumption) (by assumption) | exact Kept_flt (by assumption) (by assumption) | exact Kept_var (by assumption) | exact Kept_ev (by assumption) (by assumption) | exact Kept_has (by assumption) | exact Kept_out (by assumption) | exact Kept_ctr (by assumption) | exact watchE_none (by assumption))
    | (first | exact mask_sub hk rfl | exact hk)
    | with_reducible (first | refine Kept_snd (by assumption) ?_ | refine Kept_fst (by assumption) ?_)
    | with_reducible exact Kept_of_next (by assumption)
    | with_reducible (refine Kept_of_O (by assumption) ?_)
    | with_reducible (first | refine Kept_regs (g := g) ?_ (by assumption) | refine Kept_ram (g := g) ?_ (by assumption) | refine Kept_mram (g := g) ?_ (by assumption) | refine Kept_flt (g := g) ?_ (by assumption) | refine Kept_var ?_ | refine Kept_ev ?_ (by assumption) | refine Kept_has ?_ | refine Kept_out ?_ | refine Kept_ctr ?_)
    | dsimp -zeta only
    | split)

theorem kept_remark {x0} (h0 : Kept g x0) (hk : 739211328 &&& g.mask = 739211328) : Kept g (State.remark x0) := by
  unfold State.remark
  repeat' (first
    | with_reducible assumption
    | with_reducible refine fun _ => ?_
    | ((try lift_lets); intro s; refine (have hs : Kept g s := ?_; ?_); subst s; rotate_left; clear_value s; rotate_left)
    | ((try lift_lets); first | (intro (x : Mram); subst x) | (intro (x : Compositor); subst x) | (intro (x : Store 32); subst x) | (intro (x : Store 8); subst x) | (intro (x : State × _); subst x) | (intro (x : _ × State); subst x) | (intro (x : _ × _ × State); subst x) | (intro (x : State → _); subst x) | (intro (x : _ → State → _); subst x) | (intro (x : _ → State); subst x) | (intro x; clear_value x))
    | (simp only [↓Kept_mk_iff]; refine And.intro ?_ (And.intro ?_ (And.intro ?_ (And.intro ?_ (And.intro ?_ (And.intro ?_ (And.intro ?_ (And.intro ?_ (And.intro ?_ ?_)))))))))
    | with_reducible (first | apply kept_mapAll | apply kept_toMram | apply kept_holdCause | apply kept_rejudge | apply Kept_ite)
    | with_reducible (first | exact Kept_regs (by assumption) (by assumption) | exact Kept_ram (by assumption) (by assumption) | exact Kept_mram (by assumption) (by assumption) | exact Kept_flt (by assumption) (by assumption) | exact Kept_var (by assumption) | exact Kept_ev (by assumption) (by assumption) | exact Kept_has (by assumption) | exact Kept_out (by assumption) | exact Kept_ctr (by assumption) | exact watchE_none (by assumption))
    | with_reducible refine Only_mk ?_ (.inr rfl) (.inr rfl) (.inr rfl) (.inr rfl) (.inr rfl) (.inr rfl) (.inr rfl) (.inr rfl) (.inr rfl) (.inr rfl) (.inr rfl) (.inr rfl) (.inr rfl) (.inr rfl) (.inl (mask_bit hk rfl)) (.inr rfl) (.inr rfl) (.inr rfl) (.inr rfl) (.inr rfl) (.inr rfl) (.inr rfl) (.inr rfl) (.inr rfl) (.inr rfl) (.inr rfl) (.inr rfl) (.inr rfl) (.inr rfl) (.inr rfl)
    | (first | exact mask_sub hk rfl | exact hk)
    | with_reducible (first | refine Kept_snd (by assumption) ?_ | refine Kept_fst (by assumption) ?_)
    | with_reducible exact Kept_of_next (by assumption)
    | with_reducible (refine Kept_of_O (by assumption) ?_)
    | with_reducible (first | refine Kept_regs (g := g) ?_ (by assumption) | refine Kept_ram (g := g) ?_ (by assumption) | refine Kept_mram (g := g) ?_ (by assumption) | refine Kept_flt (g := g) ?_ (by assumption) | refine Kept_var ?_ | refine Kept_ev ?_ (by assumption) | refine Kept_has ?_ | refine Kept_out ?_ | refine Kept_ctr ?_)
    | dsimp -zeta only
    | split)

theorem kept_clearDenied {x0 x1} (h0 : Kept g x0) (hk : 4194304 &&& g.mask = 4194304) : Kept g (State.clearDenied x0 x1) := by
  unfold State.clearDenied
  repeat' (first | with_reducible assumption | exact mask_sub hk rfl | with_reducible (first | apply kept_raise | apply kept_posMod | apply Kept_ite) | split | intro _)

theorem kept_newMark {x0 x1} (h0 : Kept g x0) (hk : 4194304 &&& g.mask = 4194304) : Kept g (State.newMark x0 x1) := by
  unfold State.newMark
  repeat' (first | with_reducible assumption | exact mask_sub hk rfl | with_reducible (first | apply kept_arrive | apply kept_clearDenied | apply Kept_ite) | split | intro _)

theorem kept_bleedSeen {x0 x1 x2} (h0 : Kept g x0) (hk : 743405632 &&& g.mask = 743405632) : Kept g (State.bleedSeen x0 x1 x2) := by
  unfold State.bleedSeen
  repeat' (first | with_reducible assumption | exact mask_sub hk rfl | with_reducible (first | apply kept_posMod | apply kept_remark | apply kept_newMark | apply kept_raise | apply Kept_ite) | split | intro _)

theorem kept_bootBank {x0 x1 x2 x3} (h0 : Kept g x0) (hk : 33554496 &&& g.mask = 33554496) : Kept g (State.bootBank x0 x1 x2 x3).1 := by
  unfold State.bootBank
  repeat' (first
    | with_reducible assumption
    | with_reducible refine fun _ => ?_
    | ((try lift_lets); intro s; refine (have hs : Kept g s := ?_; ?_); subst s; rotate_left; clear_value s; rotate_left)
    | ((try lift_lets); first | (intro (x : Mram); subst x) | (intro (x : Compositor); subst x) | (intro (x : Store 32); subst x) | (intro (x : Store 8); subst x) | (intro (x : State × _); subst x) | (intro (x : _ × State); subst x) | (intro (x : _ × _ × State); subst x) | (intro (x : State → _); subst x) | (intro (x : _ → State → _); subst x) | (intro (x : _ → State); subst x) | (intro x; clear_value x))
    | (simp only [↓Kept_mk_iff]; refine And.intro ?_ (And.intro ?_ (And.intro ?_ (And.intro ?_ (And.intro ?_ (And.intro ?_ (And.intro ?_ (And.intro ?_ (And.intro ?_ ?_)))))))))
    | with_reducible (first | apply kept_countRegM | apply kept_switchBank | apply kept_raise | apply kept_setF | apply Kept_ite | apply Kept_ite1 | apply Kept_ite2 | apply Kept_ite3)
    | with_reducible (first | exact Kept_regs (by assumption) (by assumption) | exact Kept_ram (by assumption) (by assumption) | exact Kept_mram (by assumption) (by assumption) | exact Kept_flt (by assumption) (by assumption) | exact Kept_var (by assumption) | exact Kept_ev (by assumption) (by assumption) | exact Kept_has (by assumption) | exact Kept_out (by assumption) | exact Kept_ctr (by assumption) | exact watchE_none (by assumption))
    | with_reducible refine Only_mk ?_ (.inr rfl) (.inr rfl) (.inr rfl) (.inr rfl) (.inr rfl) (.inr rfl) (.inr rfl) (.inr rfl) (.inr rfl) (.inr rfl) (.inr rfl) (.inr rfl) (.inr rfl) (.inr rfl) (.inr rfl) (.inr rfl) (.inr rfl) (.inr rfl) (.inr rfl) (.inr rfl) (.inr rfl) (.inr rfl) (.inr rfl) (.inr rfl) (.inr rfl) (.inr rfl) (.inr rfl) (.inr rfl) (.inr rfl) (.inr rfl)
    | (first | exact mask_sub hk rfl | exact hk)
    | with_reducible (first | refine Kept_snd (by assumption) ?_ | refine Kept_fst (by assumption) ?_)
    | with_reducible exact Kept_of_next (by assumption)
    | with_reducible (refine Kept_of_O (by assumption) ?_)
    | with_reducible (first | refine Kept_regs (g := g) ?_ (by assumption) | refine Kept_ram (g := g) ?_ (by assumption) | refine Kept_mram (g := g) ?_ (by assumption) | refine Kept_flt (g := g) ?_ (by assumption) | refine Kept_var ?_ | refine Kept_ev ?_ (by assumption) | refine Kept_has ?_ | refine Kept_out ?_ | refine Kept_ctr ?_)
    | dsimp -zeta only
    | split)

theorem kept_cmdFrames {x0 x1 x2} (h0 : Kept g x0) : Kept g (State.cmdFrames x0 x1 x2) := by
  unfold State.cmdFrames
  repeat' (first
    | with_reducible assumption
    | with_reducible refine fun _ => ?_
    | ((try lift_lets); intro s; refine (have hs : Kept g s := ?_; ?_); subst s; rotate_left; clear_value s; rotate_left)
    | ((try lift_lets); first | (intro (x : Mram); subst x) | (intro (x : Compositor); subst x) | (intro (x : Store 32); subst x) | (intro (x : Store 8); subst x) | (intro (x : State × _); subst x) | (intro (x : _ × State); subst x) | (intro (x : _ × _ × State); subst x) | (intro (x : State → _); subst x) | (intro (x : _ → State → _); subst x) | (intro (x : _ → State); subst x) | (intro x; clear_value x))
    | (simp only [↓Kept_mk_iff]; refine And.intro ?_ (And.intro ?_ (And.intro ?_ (And.intro ?_ (And.intro ?_ (And.intro ?_ (And.intro ?_ (And.intro ?_ (And.intro ?_ ?_)))))))))
    | with_reducible (first | apply kept_frameOut | apply Kept_ite | apply Kept_foldl)
    | with_reducible (first | exact Kept_regs (by assumption) (by assumption) | exact Kept_ram (by assumption) (by assumption) | exact Kept_mram (by assumption) (by assumption) | exact Kept_flt (by assumption) (by assumption) | exact Kept_var (by assumption) | exact Kept_ev (by assumption) (by assumption) | exact Kept_has (by assumption) | exact Kept_out (by assumption) | exact Kept_ctr (by assumption) | exact watchE_none (by assumption))
    | with_reducible refine Only_mk ?_ (.inr rfl) (.inr rfl) (.inr rfl) (.inr rfl) (.inr rfl) (.inr rfl) (.inr rfl) (.inr rfl) (.inr rfl) (.inr rfl) (.inr rfl) (.inr rfl) (.inr rfl) (.inr rfl) (.inr rfl) (.inr rfl) (.inr rfl) (.inr rfl) (.inr rfl) (.inr rfl) (.inr rfl) (.inr rfl) (.inr rfl) (.inr rfl) (.inr rfl) (.inr rfl) (.inr rfl) (.inr rfl) (.inr rfl) (.inr rfl)
    | (first | rfl)
    | with_reducible (first | refine Kept_snd (by assumption) ?_ | refine Kept_fst (by assumption) ?_)
    | with_reducible exact Kept_of_next (by assumption)
    | with_reducible (refine Kept_of_O (by assumption) ?_)
    | with_reducible (first | refine Kept_regs (g := g) ?_ (by assumption) | refine Kept_ram (g := g) ?_ (by assumption) | refine Kept_mram (g := g) ?_ (by assumption) | refine Kept_flt (g := g) ?_ (by assumption) | refine Kept_var ?_ | refine Kept_ev ?_ (by assumption) | refine Kept_has ?_ | refine Kept_out ?_ | refine Kept_ctr ?_)
    | dsimp -zeta only
    | split)

theorem kept_cmdOut {x0 x1} (h0 : Kept g x0) : Kept g (State.cmdOut x0 x1) := by
  unfold State.cmdOut
  repeat' (first | with_reducible assumption | with_reducible (first | apply kept_cmdFrames | apply Kept_ite) | split | intro _)

theorem kept_nodeReads {x0 x1} (h0 : Kept g x0) : Kept g (State.nodeReads x0 x1) := by
  unfold State.nodeReads
  repeat' (first | with_reducible assumption | with_reducible (first | apply kept_cmdOut | apply Kept_ite) | split | intro _)

theorem kept_nodeWrites {x0 x1} (h0 : Kept g x0) : Kept g (State.nodeWrites x0 x1) := by
  unfold State.nodeWrites
  repeat' (first | with_reducible assumption | with_reducible (first | apply kept_nodeReads | apply kept_cmdOut | apply Kept_ite) | split | intro _)

theorem kept_setBreaks {x0 x1} (h0 : Kept g x0) (hk : 743405632 &&& g.mask = 743405632) : Kept g (State.setBreaks x0 x1) := by
  unfold State.setBreaks
  repeat' (first
    | with_reducible assumption
    | with_reducible refine fun _ => ?_
    | ((try lift_lets); intro s; refine (have hs : Kept g s := ?_; ?_); subst s; rotate_left; clear_value s; rotate_left)
    | ((try lift_lets); first | (intro (x : Mram); subst x) | (intro (x : Compositor); subst x) | (intro (x : Store 32); subst x) | (intro (x : Store 8); subst x) | (intro (x : State × _); subst x) | (intro (x : _ × State); subst x) | (intro (x : _ × _ × State); subst x) | (intro (x : State → _); subst x) | (intro (x : _ → State → _); subst x) | (intro (x : _ → State); subst x) | (intro x; clear_value x))
    | (simp only [↓Kept_mk_iff]; refine And.intro ?_ (And.intro ?_ (And.intro ?_ (And.intro ?_ (And.intro ?_ (And.intro ?_ (And.intro ?_ (And.intro ?_ (And.intro ?_ ?_)))))))))
    | with_reducible (first | apply kept_setF | apply kept_posMod | apply kept_mapAll | apply kept_remark | apply kept_raiseIf | apply Kept_ite | apply Kept_foldl)
    | with_reducible (first | exact Kept_regs (by assumption) (by assumption) | exact Kept_ram (by assumption) (by assumption) | exact Kept_mram (by assumption) (by assumption) | exact Kept_flt (by assumption) (by assumption) | exact Kept_var (by assumption) | exact Kept_ev (by assumption) (by assumption) | exact Kept_has (by assumption) | exact Kept_out (by assumption) | exact Kept_ctr (by assumption) | exact watchE_none (by assumption))
    | with_reducible refine Only_mk ?_ (.inr rfl) (.inr rfl) (.inr rfl) (.inr rfl) (.inr rfl) (.inr rfl) (.inr rfl) (.inr rfl) (.inr rfl) (.inr rfl) (.inr rfl) (.inr rfl) (.inr rfl) (.inr rfl) (.inr rfl) (.inr rfl) (.inr rfl) (.inr rfl) (.inr rfl) (.inr rfl) (.inr rfl) (.inr rfl) (.inr rfl) (.inr rfl) (.inr rfl) (.inr rfl) (.inr rfl) (.inr rfl) (.inr rfl) (.inr rfl)
    | (first | exact mask_sub hk rfl | exact hk)
    | with_reducible (first | refine Kept_snd (by assumption) ?_ | refine Kept_fst (by assumption) ?_)
    | with_reducible exact Kept_of_next (by assumption)
    | with_reducible (refine Kept_of_O (by assumption) ?_)
    | with_reducible (first | refine Kept_regs (g := g) ?_ (by assumption) | refine Kept_ram (g := g) ?_ (by assumption) | refine Kept_mram (g := g) ?_ (by assumption) | refine Kept_flt (g := g) ?_ (by assumption) | refine Kept_var ?_ | refine Kept_ev ?_ (by assumption) | refine Kept_has ?_ | refine Kept_out ?_ | refine Kept_ctr ?_)
    | dsimp -zeta only
    | split)

theorem kept_boundary {x0} (h0 : Kept g x0) (hk : 743405632 &&& g.mask = 743405632) : Kept g (State.boundary x0) := by
  unfold State.boundary
  repeat' (first
    | with_reducible assumption
    | with_reducible refine fun _ => ?_
    | ((try lift_lets); intro s; refine (have hs : Kept g s := ?_; ?_); subst s; rotate_left; clear_value s; rotate_left)
    | ((try lift_lets); first | (intro (x : Mram); subst x) | (intro (x : Compositor); subst x) | (intro (x : Store 32); subst x) | (intro (x : Store 8); subst x) | (intro (x : State × _); subst x) | (intro (x : _ × State); subst x) | (intro (x : _ × _ × State); subst x) | (intro (x : State → _); subst x) | (intro (x : _ → State → _); subst x) | (intro (x : _ → State); subst x) | (intro x; clear_value x))
    | (simp only [↓Kept_mk_iff]; refine And.intro ?_ (And.intro ?_ (And.intro ?_ (And.intro ?_ (And.intro ?_ (And.intro ?_ (And.intro ?_ (And.intro ?_ (And.intro ?_ ?_)))))))))
    | with_reducible (first | apply kept_nodeWrites | apply kept_setBreaks | apply kept_raise | apply Kept_ite | apply filter_wf | apply evOk_filter)
    | with_reducible (first | exact Kept_regs (by assumption) (by assumption) | exact Kept_ram (by assumption) (by assumption) | exact Kept_mram (by assumption) (by assumption) | exact Kept_flt (by assumption) (by assumption) | exact Kept_var (by assumption) | exact Kept_ev (by assumption) (by assumption) | exact Kept_has (by assumption) | exact Kept_out (by assumption) | exact Kept_ctr (by assumption) | exact watchE_none (by assumption))
    | with_reducible refine Only_mk ?_ (.inr rfl) (.inr rfl) (.inr rfl) (.inr rfl) (.inr rfl) (.inr rfl) (.inr rfl) (.inr rfl) (.inr rfl) (.inr rfl) (.inr rfl) (.inr rfl) (.inr rfl) (.inr rfl) (.inr rfl) (.inr rfl) (.inr rfl) (.inr rfl) (.inr rfl) (.inl (mask_bit hk rfl)) (.inr rfl) (.inr rfl) (.inr rfl) (.inr rfl) (.inr rfl) (.inr rfl) (.inr rfl) (.inr rfl) (.inr rfl) (.inr rfl)
    | (first | exact mask_sub hk rfl | exact hk)
    | with_reducible (first | refine Kept_snd (by assumption) ?_ | refine Kept_fst (by assumption) ?_)
    | with_reducible exact Kept_of_next (by assumption)
    | with_reducible (refine Kept_of_O (by assumption) ?_)
    | with_reducible (first | refine Kept_regs (g := g) ?_ (by assumption) | refine Kept_ram (g := g) ?_ (by assumption) | refine Kept_mram (g := g) ?_ (by assumption) | refine Kept_flt (g := g) ?_ (by assumption) | refine Kept_var ?_ | refine Kept_ev ?_ (by assumption) | refine Kept_has ?_ | refine Kept_out ?_ | refine Kept_ctr ?_)
    | dsimp -zeta only
    | split)

theorem kept_boundaryCopies {x0} (h0 : Kept g x0) (hk : 67108864 &&& g.mask = 67108864) : Kept g (State.boundaryCopies x0) := by
  unfold State.boundaryCopies
  repeat' (first
    | with_reducible assumption
    | with_reducible refine fun _ => ?_
    | ((try lift_lets); intro s; refine (have hs : Kept g s := ?_; ?_); subst s; rotate_left; clear_value s; rotate_left)
    | ((try lift_lets); first | (intro (x : Mram); subst x) | (intro (x : Compositor); subst x) | (intro (x : Store 32); subst x) | (intro (x : Store 8); subst x) | (intro (x : State × _); subst x) | (intro (x : _ × State); subst x) | (intro (x : _ × _ × State); subst x) | (intro (x : State → _); subst x) | (intro (x : _ → State → _); subst x) | (intro (x : _ → State); subst x) | (intro x; clear_value x))
    | (simp only [↓Kept_mk_iff]; refine And.intro ?_ (And.intro ?_ (And.intro ?_ (And.intro ?_ (And.intro ?_ (And.intro ?_ (And.intro ?_ (And.intro ?_ (And.intro ?_ ?_)))))))))
    | with_reducible (first | apply kept_storeRetain | apply Kept_ite)
    | with_reducible (first | exact Kept_regs (by assumption) (by assumption) | exact Kept_ram (by assumption) (by assumption) | exact Kept_mram (by assumption) (by assumption) | exact Kept_flt (by assumption) (by assumption) | exact Kept_var (by assumption) | exact Kept_ev (by assumption) (by assumption) | exact Kept_has (by assumption) | exact Kept_out (by assumption) | exact Kept_ctr (by assumption) | exact watchE_none (by assumption))
    | with_reducible refine Only_mk ?_ (.inr rfl) (.inr rfl) (.inr rfl) (.inr rfl) (.inr rfl) (.inr rfl) (.inr rfl) (.inr rfl) (.inr rfl) (.inr rfl) (.inr rfl) (.inr rfl) (.inr rfl) (.inr rfl) (.inr rfl) (.inr rfl) (.inr rfl) (.inr rfl) (.inr rfl) (.inr rfl) (.inr rfl) (.inr rfl) (.inr rfl) (.inl (mask_bit hk rfl)) (.inr rfl) (.inr rfl) (.inr rfl) (.inr rfl) (.inr rfl) (.inr rfl)
    | (first | exact mask_sub hk rfl | exact hk)
    | with_reducible (first | refine Kept_snd (by assumption) ?_ | refine Kept_fst (by assumption) ?_)
    | with_reducible exact Kept_of_next (by assumption)
    | with_reducible (refine Kept_of_O (by assumption) ?_)
    | with_reducible (first | refine Kept_regs (g := g) ?_ (by assumption) | refine Kept_ram (g := g) ?_ (by assumption) | refine Kept_mram (g := g) ?_ (by assumption) | refine Kept_flt (g := g) ?_ (by assumption) | refine Kept_var ?_ | refine Kept_ev ?_ (by assumption) | refine Kept_has ?_ | refine Kept_out ?_ | refine Kept_ctr ?_)
    | dsimp -zeta only
    | split)

theorem kept_cycHoldNow {x0} (h0 : Kept g x0) (hk : 67108864 &&& g.mask = 67108864) : Kept g (State.cycHoldNow x0) := by
  unfold State.cycHoldNow
  repeat' (first
    | with_reducible assumption
    | with_reducible refine fun _ => ?_
    | ((try lift_lets); intro s; refine (have hs : Kept g s := ?_; ?_); subst s; rotate_left; clear_value s; rotate_left)
    | ((try lift_lets); first | (intro (x : Mram); subst x) | (intro (x : Compositor); subst x) | (intro (x : Store 32); subst x) | (intro (x : Store 8); subst x) | (intro (x : State × _); subst x) | (intro (x : _ × State); subst x) | (intro (x : _ × _ × State); subst x) | (intro (x : State → _); subst x) | (intro (x : _ → State → _); subst x) | (intro (x : _ → State); subst x) | (intro x; clear_value x))
    | (simp only [↓Kept_mk_iff]; refine And.intro ?_ (And.intro ?_ (And.intro ?_ (And.intro ?_ (And.intro ?_ (And.intro ?_ (And.intro ?_ (And.intro ?_ (And.intro ?_ ?_)))))))))
    | with_reducible (first | apply kept_cycState | apply Kept_ite)
    | with_reducible (first | exact Kept_regs (by assumption) (by assumption) | exact Kept_ram (by assumption) (by assumption) | exact Kept_mram (by assumption) (by assumption) | exact Kept_flt (by assumption) (by assumption) | exact Kept_var (by assumption) | exact Kept_ev (by assumption) (by assumption) | exact Kept_has (by assumption) | exact Kept_out (by assumption) | exact Kept_ctr (by assumption) | exact watchE_none (by assumption))
    | with_reducible refine Only_mk ?_ (.inr rfl) (.inr rfl) (.inr rfl) (.inr rfl) (.inr rfl) (.inr rfl) (.inr rfl) (.inr rfl) (.inr rfl) (.inr rfl) (.inr rfl) (.inr rfl) (.inr rfl) (.inr rfl) (.inr rfl) (.inr rfl) (.inr rfl) (.inr rfl) (.inr rfl) (.inr rfl) (.inr rfl) (.inr rfl) (.inr rfl) (.inl (mask_bit hk rfl)) (.inr rfl) (.inr rfl) (.inr rfl) (.inr rfl) (.inr rfl) (.inr rfl)
    | (first | exact mask_sub hk rfl | exact hk)
    | with_reducible (first | refine Kept_snd (by assumption) ?_ | refine Kept_fst (by assumption) ?_)
    | with_reducible exact Kept_of_next (by assumption)
    | with_reducible (refine Kept_of_O (by assumption) ?_)
    | with_reducible (first | refine Kept_regs (g := g) ?_ (by assumption) | refine Kept_ram (g := g) ?_ (by assumption) | refine Kept_mram (g := g) ?_ (by assumption) | refine Kept_flt (g := g) ?_ (by assumption) | refine Kept_var ?_ | refine Kept_ev ?_ (by assumption) | refine Kept_has ?_ | refine Kept_out ?_ | refine Kept_ctr ?_)
    | dsimp -zeta only
    | split)

theorem kept_exchangeNow {x0 x1 x2} (h0 : Kept g x0) (hk : 100665412 &&& g.mask = 100665412) : Kept g (State.exchangeNow x0 x1 x2) := by
  unfold State.exchangeNow
  repeat' (first
    | with_reducible assumption
    | with_reducible refine fun _ => ?_
    | ((try lift_lets); intro s; refine (have hs : Kept g s := ?_; ?_); subst s; rotate_left; clear_value s; rotate_left)
    | ((try lift_lets); first | (intro (x : Mram); subst x) | (intro (x : Compositor); subst x) | (intro (x : Store 32); subst x) | (intro (x : Store 8); subst x) | (intro (x : State × _); subst x) | (intro (x : _ × State); subst x) | (intro (x : _ × _ × State); subst x) | (intro (x : State → _); subst x) | (intro (x : _ → State → _); subst x) | (intro (x : _ → State); subst x) | (intro x; clear_value x))
    | (simp only [↓Kept_mk_iff]; refine And.intro ?_ (And.intro ?_ (And.intro ?_ (And.intro ?_ (And.intro ?_ (And.intro ?_ (And.intro ?_ (And.intro ?_ (And.intro ?_ ?_)))))))))
    | with_reducible (first | apply kept_setImage | apply kept_switchBank | apply kept_setF | apply kept_putRetain | apply kept_loadSegs | apply kept_occur | apply kept_raiseIf | apply kept_copyShow | apply kept_raise | apply kept_updKind | apply Kept_ite)
    | with_reducible (first | exact Kept_regs (by assumption) (by assumption) | exact Kept_ram (by assumption) (by assumption) | exact Kept_mram (by assumption) (by assumption) | exact Kept_flt (by assumption) (by assumption) | exact Kept_var (by assumption) | exact Kept_ev (by assumption) (by assumption) | exact Kept_has (by assumption) | exact Kept_out (by assumption) | exact Kept_ctr (by assumption) | exact watchE_none (by assumption))
    | with_reducible refine Only_mk ?_ (.inr rfl) (.inr rfl) (.inr rfl) (.inr rfl) (.inr rfl) (.inr rfl) (.inr rfl) (.inr rfl) (.inr rfl) (.inr rfl) (.inr rfl) (.inr rfl) (.inr rfl) (.inr rfl) (.inr rfl) (.inr rfl) (.inr rfl) (.inr rfl) (.inr rfl) (.inr rfl) (.inr rfl) (.inr rfl) (.inl (mask_bit hk rfl)) (.inl (mask_bit hk rfl)) (.inr rfl) (.inr rfl) (.inr rfl) (.inr rfl) (.inr rfl) (.inr rfl)
    | (first | exact mask_sub hk rfl | exact hk)
    | with_reducible (first | refine Kept_snd (by assumption) ?_ | refine Kept_fst (by assumption) ?_)
    | with_reducible exact Kept_of_next (by assumption)
    | with_reducible (refine Kept_of_O (by assumption) ?_)
    | with_reducible (first | refine Kept_regs (g := g) ?_ (by assumption) | refine Kept_ram (g := g) ?_ (by assumption) | refine Kept_mram (g := g) ?_ (by assumption) | refine Kept_flt (g := g) ?_ (by assumption) | refine Kept_var ?_ | refine Kept_ev ?_ (by assumption) | refine Kept_has ?_ | refine Kept_out ?_ | refine Kept_ctr ?_)
    | dsimp -zeta only
    | split)

theorem kept_boundaryNext {x0 x1 x2} (h0 : Kept g x0) (hk : 100665412 &&& g.mask = 100665412) : Kept g (State.boundaryNext x0 x1 x2) := by
  unfold State.boundaryNext
  repeat' (first | with_reducible assumption | exact mask_sub hk rfl | with_reducible (first | apply kept_cycHalt | apply kept_cycHoldNow | apply kept_exchangeNow | apply kept_cycleCall | apply Kept_ite) | split | intro _)

theorem kept_breakOff {x0 x1} (h0 : Kept g x0) (hk : 536870912 &&& g.mask = 536870912) : Kept g (State.breakOff x0 x1) := by
  unfold State.breakOff
  repeat' (first
    | with_reducible assumption
    | with_reducible refine fun _ => ?_
    | ((try lift_lets); intro s; refine (have hs : Kept g s := ?_; ?_); subst s; rotate_left; clear_value s; rotate_left)
    | ((try lift_lets); first | (intro (x : Mram); subst x) | (intro (x : Compositor); subst x) | (intro (x : Store 32); subst x) | (intro (x : Store 8); subst x) | (intro (x : State × _); subst x) | (intro (x : _ × State); subst x) | (intro (x : _ × _ × State); subst x) | (intro (x : State → _); subst x) | (intro (x : _ → State → _); subst x) | (intro (x : _ → State); subst x) | (intro x; clear_value x))
    | (simp only [↓Kept_mk_iff]; refine And.intro ?_ (And.intro ?_ (And.intro ?_ (And.intro ?_ (And.intro ?_ (And.intro ?_ (And.intro ?_ (And.intro ?_ (And.intro ?_ ?_)))))))))
    | with_reducible (first | apply kept_raise | apply kept_countReg | apply Kept_ite | apply filter_wf | apply evOk_filter)
    | with_reducible (first | exact Kept_regs (by assumption) (by assumption) | exact Kept_ram (by assumption) (by assumption) | exact Kept_mram (by assumption) (by assumption) | exact Kept_flt (by assumption) (by assumption) | exact Kept_var (by assumption) | exact Kept_ev (by assumption) (by assumption) | exact Kept_has (by assumption) | exact Kept_out (by assumption) | exact Kept_ctr (by assumption) | exact watchE_none (by assumption))
    | with_reducible refine Only_mk ?_ (.inr rfl) (.inr rfl) (.inr rfl) (.inr rfl) (.inr rfl) (.inr rfl) (.inr rfl) (.inr rfl) (.inr rfl) (.inr rfl) (.inr rfl) (.inr rfl) (.inr rfl) (.inr rfl) (.inr rfl) (.inr rfl) (.inr rfl) (.inr rfl) (.inr rfl) (.inr rfl) (.inr rfl) (.inr rfl) (.inr rfl) (.inr rfl) (.inr rfl) (.inr rfl) (.inl (mask_bit hk rfl)) (.inr rfl) (.inr rfl) (.inr rfl)
    | (first | exact mask_sub hk rfl | exact hk)
    | with_reducible (first | refine Kept_snd (by assumption) ?_ | refine Kept_fst (by assumption) ?_)
    | with_reducible exact Kept_of_next (by assumption)
    | with_reducible (refine Kept_of_O (by assumption) ?_)
    | with_reducible (first | refine Kept_regs (g := g) ?_ (by assumption) | refine Kept_ram (g := g) ?_ (by assumption) | refine Kept_mram (g := g) ?_ (by assumption) | refine Kept_flt (g := g) ?_ (by assumption) | refine Kept_var ?_ | refine Kept_ev ?_ (by assumption) | refine Kept_has ?_ | refine Kept_out ?_ | refine Kept_ctr ?_)
    | dsimp -zeta only
    | split)

end Sys2Proof.Machine
end

