-- ==== Sys2Proof/Laws/Kept3.lean ====
section
/-! SUPPORT. What operations and meanings keep (Laws/Kept.lean), part 3 of 8. -/

set_option linter.all false
set_option Elab.async false

namespace Sys2Proof.Machine

variable {g : Watch}

theorem kept_calMean {x0 x1 x2} (h0 : Kept g x0) : Kept g (State.calMean x0 x1 x2).2 := by
  unfold State.calMean
  repeat' (first
    | with_reducible assumption
    | with_reducible refine fun _ => ?_
    | ((try lift_lets); intro s; refine (have hs : Kept g s := ?_; ?_); subst s; rotate_left; clear_value s; rotate_left)
    | ((try lift_lets); first | (intro (x : Mram); subst x) | (intro (x : Compositor); subst x) | (intro (x : Store 32); subst x) | (intro (x : Store 8); subst x) | (intro (x : State × _); subst x) | (intro (x : _ × State); subst x) | (intro (x : _ × _ × State); subst x) | (intro (x : State → _); subst x) | (intro (x : _ → State → _); subst x) | (intro (x : _ → State); subst x) | (intro x; clear_value x))
    | (simp only [↓Kept_mk_iff]; refine And.intro ?_ (And.intro ?_ (And.intro ?_ (And.intro ?_ (And.intro ?_ (And.intro ?_ (And.intro ?_ (And.intro ?_ (And.intro ?_ ?_)))))))))
    | with_reducible (first | apply kept_fresh | apply Kept_ite | apply Kept_ite1 | apply Kept_ite2 | apply Kept_ite3)
    | with_reducible (first | exact Kept_regs (by assumption) (by assumption) | exact Kept_ram (by assumption) (by assumption) | exact Kept_mram (by assumption) (by assumption) | exact Kept_flt (by assumption) (by assumption) | exact Kept_var (by assumption) | exact Kept_ev (by assumption) (by assumption) | exact Kept_has (by assumption) | exact Kept_out (by assumption) | exact Kept_ctr (by assumption) | exact watchE_none (by assumption))
    | with_reducible refine Only_mk ?_ (.inr rfl) (.inr rfl) (.inr rfl) (.inr rfl) (.inr rfl) (.inr rfl) (.inr rfl) (.inr rfl) (.inr rfl) (.inr rfl) (.inr rfl) (.inr rfl) (.inr rfl) (.inr rfl) (.inr rfl) (.inr rfl) (.inr rfl) (.inr rfl) (.inr rfl) (.inr rfl) (.inr rfl) (.inr rfl) (.inr rfl) (.inr rfl) (.inr rfl) (.inr rfl) (.inr rfl) (.inr rfl) (.inr rfl) (.inr rfl)
    | (first | rfl)
    | with_reducible (first | refine Kept_snd (by assumption) ?_ | refine Kept_fst (by assumption) ?_)
    | with_reducible exact Kept_of_next (by assumption)
    | with_reducible (refine Kept_of_O (by assumption) ?_)
    | with_reducible (first | refine Kept_regs (g := g) ?_ (by assumption) | refine Kept_ram (g := g) ?_ (by assumption) | refine Kept_mram (g := g) ?_ (by assumption) | refine Kept_flt (g := g) ?_ (by assumption) | refine Kept_var ?_ | refine Kept_ev ?_ (by assumption) | refine Kept_has ?_ | refine Kept_out ?_ | refine Kept_ctr ?_)
    | dsimp -zeta only
    | split)

theorem kept_calOne {x0 x1 x2 x3} (h0 : Kept g x0) : Kept g (State.calOne x0 x1 x2 x3) := by
  unfold State.calOne
  repeat' (first | with_reducible assumption | with_reducible (first | apply kept_raise | apply kept_setB | apply kept_calMean | apply kept_setF | apply kept_setReg | apply Kept_ite) | split | intro _)

theorem kept_calWindow {x0 x1} (h0 : Kept g x0) (hk : 524288 &&& g.mask = 524288) : Kept g (State.calWindow x0 x1) := by
  unfold State.calWindow
  repeat' (first
    | with_reducible assumption
    | with_reducible refine fun _ => ?_
    | ((try lift_lets); intro s; refine (have hs : Kept g s := ?_; ?_); subst s; rotate_left; clear_value s; rotate_left)
    | ((try lift_lets); first | (intro (x : Mram); subst x) | (intro (x : Compositor); subst x) | (intro (x : Store 32); subst x) | (intro (x : Store 8); subst x) | (intro (x : State × _); subst x) | (intro (x : _ × State); subst x) | (intro (x : _ × _ × State); subst x) | (intro (x : State → _); subst x) | (intro (x : _ → State → _); subst x) | (intro (x : _ → State); subst x) | (intro x; clear_value x))
    | (simp only [↓Kept_mk_iff]; refine And.intro ?_ (And.intro ?_ (And.intro ?_ (And.intro ?_ (And.intro ?_ (And.intro ?_ (And.intro ?_ (And.intro ?_ (And.intro ?_ ?_)))))))))
    | with_reducible (first | apply Kept_ite)
    | with_reducible (first | exact Kept_regs (by assumption) (by assumption) | exact Kept_ram (by assumption) (by assumption) | exact Kept_mram (by assumption) (by assumption) | exact Kept_flt (by assumption) (by assumption) | exact Kept_var (by assumption) | exact Kept_ev (by assumption) (by assumption) | exact Kept_has (by assumption) | exact Kept_out (by assumption) | exact Kept_ctr (by assumption) | exact watchE_none (by assumption))
    | with_reducible refine Only_mk ?_ (.inr rfl) (.inr rfl) (.inr rfl) (.inr rfl) (.inr rfl) (.inr rfl) (.inr rfl) (.inr rfl) (.inr rfl) (.inr rfl) (.inr rfl) (.inr rfl) (.inr rfl) (.inr rfl) (.inr rfl) (.inr rfl) (.inl (mask_bit hk rfl)) (.inr rfl) (.inr rfl) (.inr rfl) (.inr rfl) (.inr rfl) (.inr rfl) (.inr rfl) (.inr rfl) (.inr rfl) (.inr rfl) (.inr rfl) (.inr rfl) (.inr rfl)
    | (first | exact mask_sub hk rfl | exact hk)
    | with_reducible (first | refine Kept_snd (by assumption) ?_ | refine Kept_fst (by assumption) ?_)
    | with_reducible exact Kept_of_next (by assumption)
    | with_reducible (refine Kept_of_O (by assumption) ?_)
    | with_reducible (first | refine Kept_regs (g := g) ?_ (by assumption) | refine Kept_ram (g := g) ?_ (by assumption) | refine Kept_mram (g := g) ?_ (by assumption) | refine Kept_flt (g := g) ?_ (by assumption) | refine Kept_var ?_ | refine Kept_ev ?_ (by assumption) | refine Kept_has ?_ | refine Kept_out ?_ | refine Kept_ctr ?_)
    | dsimp -zeta only
    | split)

theorem kept_canRecover {x0 x1} (h0 : Kept g x0) : Kept g (State.canRecover x0 x1) := by
  unfold State.canRecover
  repeat' (first | with_reducible assumption | with_reducible (first | apply kept_setReg | apply kept_setF | apply Kept_ite) | split | intro _)

theorem kept_canSetMode {x0 x1 x2} (h0 : Kept g x0) : Kept g (State.canSetMode x0 x1 x2) := by
  unfold State.canSetMode
  repeat' (first | with_reducible assumption | with_reducible (first | apply kept_raise | apply kept_setF | apply Kept_ite) | split | intro _)

theorem kept_tripMargin {x0 x1 x2} (h0 : Kept g x0) (hk : 739211328 &&& g.mask = 739211328) : Kept g (State.tripMargin x0 x1 x2) := by
  unfold State.tripMargin
  repeat' (first | with_reducible assumption | exact mask_sub hk rfl | with_reducible (first | apply kept_setF | apply kept_setCause | apply kept_raiseA | apply kept_countF | apply Kept_ite) | split | intro _)

theorem kept_marginCheck {x0 x1 x2 x3 x4} (h0 : Kept g x0) (hk : 739211328 &&& g.mask = 739211328) : Kept g (State.marginCheck x0 x1 x2 x3 x4) := by
  unfold State.marginCheck
  repeat' (first
    | with_reducible assumption
    | with_reducible refine fun _ => ?_
    | ((try lift_lets); intro s; refine (have hs : Kept g s := ?_; ?_); subst s; rotate_left; clear_value s; rotate_left)
    | ((try lift_lets); first | (intro (x : Mram); subst x) | (intro (x : Compositor); subst x) | (intro (x : Store 32); subst x) | (intro (x : Store 8); subst x) | (intro (x : State × _); subst x) | (intro (x : _ × State); subst x) | (intro (x : _ × _ × State); subst x) | (intro (x : State → _); subst x) | (intro (x : _ → State → _); subst x) | (intro (x : _ → State); subst x) | (intro x; clear_value x))
    | (simp only [↓Kept_mk_iff]; refine And.intro ?_ (And.intro ?_ (And.intro ?_ (And.intro ?_ (And.intro ?_ (And.intro ?_ (And.intro ?_ (And.intro ?_ (And.intro ?_ ?_)))))))))
    | with_reducible (first | apply kept_tripMargin | apply kept_dropCause | apply Kept_ite)
    | with_reducible (first | exact Kept_regs (by assumption) (by assumption) | exact Kept_ram (by assumption) (by assumption) | exact Kept_mram (by assumption) (by assumption) | exact Kept_flt (by assumption) (by assumption) | exact Kept_var (by assumption) | exact Kept_ev (by assumption) (by assumption) | exact Kept_has (by assumption) | exact Kept_out (by assumption) | exact Kept_ctr (by assumption) | exact watchE_none (by assumption))
    | with_reducible refine Only_mk ?_ (.inr rfl) (.inr rfl) (.inr rfl) (.inr rfl) (.inr rfl) (.inr rfl) (.inr rfl) (.inr rfl) (.inr rfl) (.inr rfl) (.inr rfl) (.inr rfl) (.inr rfl) (.inr rfl) (.inl (mask_bit hk rfl)) (.inr rfl) (.inr rfl) (.inr rfl) (.inr rfl) (.inr rfl) (.inr rfl) (.inr rfl) (.inr rfl) (.inr rfl) (.inr rfl) (.inr rfl) (.inr rfl) (.inr rfl) (.inr rfl) (.inr rfl)
    | (first | exact mask_sub hk rfl | exact hk)
    | with_reducible (first | refine Kept_snd (by assumption) ?_ | refine Kept_fst (by assumption) ?_)
    | with_reducible exact Kept_of_next (by assumption)
    | with_reducible (refine Kept_of_O (by assumption) ?_)
    | with_reducible (first | refine Kept_regs (g := g) ?_ (by assumption) | refine Kept_ram (g := g) ?_ (by assumption) | refine Kept_mram (g := g) ?_ (by assumption) | refine Kept_flt (g := g) ?_ (by assumption) | refine Kept_var ?_ | refine Kept_ev ?_ (by assumption) | refine Kept_has ?_ | refine Kept_out ?_ | refine Kept_ctr ?_)
    | dsimp -zeta only
    | split)

theorem kept_cellMargins {x0 x1} (h0 : Kept g x0) (hk : 739211328 &&& g.mask = 739211328) : Kept g (State.cellMargins x0 x1) := by
  unfold State.cellMargins
  repeat' (first
    | with_reducible assumption
    | with_reducible refine fun _ => ?_
    | ((try lift_lets); intro s; refine (have hs : Kept g s := ?_; ?_); subst s; rotate_left; clear_value s; rotate_left)
    | ((try lift_lets); first | (intro (x : Mram); subst x) | (intro (x : Compositor); subst x) | (intro (x : Store 32); subst x) | (intro (x : Store 8); subst x) | (intro (x : State × _); subst x) | (intro (x : _ × State); subst x) | (intro (x : _ × _ × State); subst x) | (intro (x : State → _); subst x) | (intro (x : _ → State → _); subst x) | (intro (x : _ → State); subst x) | (intro x; clear_value x))
    | (simp only [↓Kept_mk_iff]; refine And.intro ?_ (And.intro ?_ (And.intro ?_ (And.intro ?_ (And.intro ?_ (And.intro ?_ (And.intro ?_ (And.intro ?_ (And.intro ?_ ?_)))))))))
    | with_reducible (first | apply kept_marginCheck | apply Kept_ite | apply Kept_foldl)
    | with_reducible (first | exact Kept_regs (by assumption) (by assumption) | exact Kept_ram (by assumption) (by assumption) | exact Kept_mram (by assumption) (by assumption) | exact Kept_flt (by assumption) (by assumption) | exact Kept_var (by assumption) | exact Kept_ev (by assumption) (by assumption) | exact Kept_has (by assumption) | exact Kept_out (by assumption) | exact Kept_ctr (by assumption) | exact watchE_none (by assumption))
    | (first | exact mask_sub hk rfl | exact hk)
    | with_reducible (first | refine Kept_snd (by assumption) ?_ | refine Kept_fst (by assumption) ?_)
    | with_reducible exact Kept_of_next (by assumption)
    | with_reducible (refine Kept_of_O (by assumption) ?_)
    | with_reducible (first | refine Kept_regs (g := g) ?_ (by assumption) | refine Kept_ram (g := g) ?_ (by assumption) | refine Kept_mram (g := g) ?_ (by assumption) | refine Kept_flt (g := g) ?_ (by assumption) | refine Kept_var ?_ | refine Kept_ev ?_ (by assumption) | refine Kept_has ?_ | refine Kept_out ?_ | refine Kept_ctr ?_)
    | dsimp -zeta only
    | split)

theorem kept_cfgErr {x0 x1 x2} (h0 : Kept g x0) : Kept g (State.cfgErr x0 x1 x2) := by
  unfold State.cfgErr
  repeat' (first | with_reducible assumption | with_reducible (first | apply kept_setF | apply Kept_ite) | split | intro _)

theorem kept_chainSleep {x0} (h0 : Kept g x0) (hk : 6291456 &&& g.mask = 6291456) : Kept g (State.chainSleep x0) := by
  unfold State.chainSleep
  repeat' (first
    | with_reducible assumption
    | with_reducible refine fun _ => ?_
    | ((try lift_lets); intro s; refine (have hs : Kept g s := ?_; ?_); subst s; rotate_left; clear_value s; rotate_left)
    | ((try lift_lets); first | (intro (x : Mram); subst x) | (intro (x : Compositor); subst x) | (intro (x : Store 32); subst x) | (intro (x : Store 8); subst x) | (intro (x : State × _); subst x) | (intro (x : _ × State); subst x) | (intro (x : _ × _ × State); subst x) | (intro (x : State → _); subst x) | (intro (x : _ → State → _); subst x) | (intro (x : _ → State); subst x) | (intro x; clear_value x))
    | (simp only [↓Kept_mk_iff]; refine And.intro ?_ (And.intro ?_ (And.intro ?_ (And.intro ?_ (And.intro ?_ (And.intro ?_ (And.intro ?_ (And.intro ?_ (And.intro ?_ ?_)))))))))
    | with_reducible (first | apply kept_setReg | apply Kept_ite)
    | with_reducible (first | exact Kept_regs (by assumption) (by assumption) | exact Kept_ram (by assumption) (by assumption) | exact Kept_mram (by assumption) (by assumption) | exact Kept_flt (by assumption) (by assumption) | exact Kept_var (by assumption) | exact Kept_ev (by assumption) (by assumption) | exact Kept_has (by assumption) | exact Kept_out (by assumption) | exact Kept_ctr (by assumption) | exact watchE_none (by assumption))
    | with_reducible refine Only_mk ?_ (.inr rfl) (.inr rfl) (.inr rfl) (.inr rfl) (.inr rfl) (.inr rfl) (.inr rfl) (.inr rfl) (.inr rfl) (.inr rfl) (.inr rfl) (.inr rfl) (.inr rfl) (.inr rfl) (.inr rfl) (.inr rfl) (.inr rfl) (.inr rfl) (.inl (mask_bit hk rfl)) (.inl (mask_bit hk rfl)) (.inr rfl) (.inr rfl) (.inr rfl) (.inr rfl) (.inr rfl) (.inr rfl) (.inr rfl) (.inr rfl) (.inr rfl) (.inr rfl)
    | (first | exact mask_sub hk rfl | exact hk)
    | with_reducible (first | refine Kept_snd (by assumption) ?_ | refine Kept_fst (by assumption) ?_)
    | with_reducible exact Kept_of_next (by assumption)
    | with_reducible (refine Kept_of_O (by assumption) ?_)
    | with_reducible (first | refine Kept_regs (g := g) ?_ (by assumption) | refine Kept_ram (g := g) ?_ (by assumption) | refine Kept_mram (g := g) ?_ (by assumption) | refine Kept_flt (g := g) ?_ (by assumption) | refine Kept_var ?_ | refine Kept_ev ?_ (by assumption) | refine Kept_has ?_ | refine Kept_out ?_ | refine Kept_ctr ?_)
    | dsimp -zeta only
    | split)

theorem kept_divFree {x0 x1 x2} (h0 : Kept g x0) : Kept g (State.divFree x0 x1 x2).2 := by
  unfold State.divFree
  repeat' (first | with_reducible assumption | with_reducible (first | apply kept_fresh | apply Kept_ite) | split | intro _)

theorem kept_srcTick {x0 x1} (h0 : Kept g x0) (hk : 32768 &&& g.mask = 32768) : Kept g (State.srcTick x0 x1) := by
  unfold State.srcTick
  repeat' (first
    | with_reducible assumption
    | with_reducible refine fun _ => ?_
    | ((try lift_lets); intro s; refine (have hs : Kept g s := ?_; ?_); subst s; rotate_left; clear_value s; rotate_left)
    | ((try lift_lets); first | (intro (x : Mram); subst x) | (intro (x : Compositor); subst x) | (intro (x : Store 32); subst x) | (intro (x : Store 8); subst x) | (intro (x : State × _); subst x) | (intro (x : _ × State); subst x) | (intro (x : _ × _ × State); subst x) | (intro (x : State → _); subst x) | (intro (x : _ → State → _); subst x) | (intro (x : _ → State); subst x) | (intro x; clear_value x))
    | (simp only [↓Kept_mk_iff]; refine And.intro ?_ (And.intro ?_ (And.intro ?_ (And.intro ?_ (And.intro ?_ (And.intro ?_ (And.intro ?_ (And.intro ?_ (And.intro ?_ ?_)))))))))
    | with_reducible (first | apply kept_arrive | apply Kept_ite)
    | with_reducible (first | exact Kept_regs (by assumption) (by assumption) | exact Kept_ram (by assumption) (by assumption) | exact Kept_mram (by assumption) (by assumption) | exact Kept_flt (by assumption) (by assumption) | exact Kept_var (by assumption) | exact Kept_ev (by assumption) (by assumption) | exact Kept_has (by assumption) | exact Kept_out (by assumption) | exact Kept_ctr (by assumption) | exact watchE_none (by assumption))
    | with_reducible refine Only_mk ?_ (.inr rfl) (.inr rfl) (.inr rfl) (.inr rfl) (.inr rfl) (.inr rfl) (.inr rfl) (.inr rfl) (.inr rfl) (.inr rfl) (.inr rfl) (.inr rfl) (.inl (mask_bit hk rfl)) (.inr rfl) (.inr rfl) (.inr rfl) (.inr rfl) (.inr rfl) (.inr rfl) (.inr rfl) (.inr rfl) (.inr rfl) (.inr rfl) (.inr rfl) (.inr rfl) (.inr rfl) (.inr rfl) (.inr rfl) (.inr rfl) (.inr rfl)
    | (first | exact mask_sub hk rfl | exact hk)
    | with_reducible (first | refine Kept_snd (by assumption) ?_ | refine Kept_fst (by assumption) ?_)
    | with_reducible exact Kept_of_next (by assumption)
    | with_reducible (refine Kept_of_O (by assumption) ?_)
    | with_reducible (first | refine Kept_regs (g := g) ?_ (by assumption) | refine Kept_ram (g := g) ?_ (by assumption) | refine Kept_mram (g := g) ?_ (by assumption) | refine Kept_flt (g := g) ?_ (by assumption) | refine Kept_var ?_ | refine Kept_ev ?_ (by assumption) | refine Kept_has ?_ | refine Kept_out ?_ | refine Kept_ctr ?_)
    | dsimp -zeta only
    | split)

theorem kept_chainTemps {x0} (h0 : Kept g x0) (hk : 32768 &&& g.mask = 32768) : Kept g (State.chainTemps x0) := by
  unfold State.chainTemps
  repeat' (first
    | with_reducible assumption
    | with_reducible refine fun _ => ?_
    | ((try lift_lets); intro s; refine (have hs : Kept g s := ?_; ?_); subst s; rotate_left; clear_value s; rotate_left)
    | ((try lift_lets); first | (intro (x : Mram); subst x) | (intro (x : Compositor); subst x) | (intro (x : Store 32); subst x) | (intro (x : Store 8); subst x) | (intro (x : State × _); subst x) | (intro (x : _ × State); subst x) | (intro (x : _ × _ × State); subst x) | (intro (x : State → _); subst x) | (intro (x : _ → State → _); subst x) | (intro (x : _ → State); subst x) | (intro x; clear_value x))
    | (simp only [↓Kept_mk_iff]; refine And.intro ?_ (And.intro ?_ (And.intro ?_ (And.intro ?_ (And.intro ?_ (And.intro ?_ (And.intro ?_ (And.intro ?_ (And.intro ?_ ?_)))))))))
    | with_reducible (first | apply kept_divFree | apply kept_srcTick | apply Kept_ite | apply Kept_foldl)
    | with_reducible (first | exact Kept_regs (by assumption) (by assumption) | exact Kept_ram (by assumption) (by assumption) | exact Kept_mram (by assumption) (by assumption) | exact Kept_flt (by assumption) (by assumption) | exact Kept_var (by assumption) | exact Kept_ev (by assumption) (by assumption) | exact Kept_has (by assumption) | exact Kept_out (by assumption) | exact Kept_ctr (by assumption) | exact watchE_none (by assumption))
    | with_reducible refine Only_mk ?_ (.inr rfl) (.inr rfl) (.inr rfl) (.inr rfl) (.inr rfl) (.inr rfl) (.inr rfl) (.inr rfl) (.inr rfl) (.inr rfl) (.inr rfl) (.inr rfl) (.inl (mask_bit hk rfl)) (.inr rfl) (.inr rfl) (.inr rfl) (.inr rfl) (.inr rfl) (.inr rfl) (.inr rfl) (.inr rfl) (.inr rfl) (.inr rfl) (.inr rfl) (.inr rfl) (.inr rfl) (.inr rfl) (.inr rfl) (.inr rfl) (.inr rfl)
    | (first | exact mask_sub hk rfl | exact hk)
    | with_reducible (first | refine Kept_snd (by assumption) ?_ | refine Kept_fst (by assumption) ?_)
    | with_reducible exact Kept_of_next (by assumption)
    | with_reducible (refine Kept_of_O (by assumption) ?_)
    | with_reducible (first | refine Kept_regs (g := g) ?_ (by assumption) | refine Kept_ram (g := g) ?_ (by assumption) | refine Kept_mram (g := g) ?_ (by assumption) | refine Kept_flt (g := g) ?_ (by assumption) | refine Kept_var ?_ | refine Kept_ev ?_ (by assumption) | refine Kept_has ?_ | refine Kept_out ?_ | refine Kept_ctr ?_)
    | dsimp -zeta only
    | split)

theorem kept_set64 {x0 x1 x2} (h0 : Kept g x0) : Kept g (State.set64 x0 x1 x2) := by
  unfold State.set64
  repeat' (first | with_reducible assumption | with_reducible (first | apply kept_setReg | apply Kept_ite) | split | intro _)

theorem kept_charge {x0} (h0 : Kept g x0) (hk : 524288 &&& g.mask = 524288) : Kept g (State.charge x0) := by
  unfold State.charge
  repeat' (first
    | with_reducible assumption
    | with_reducible refine fun _ => ?_
    | ((try lift_lets); intro s; refine (have hs : Kept g s := ?_; ?_); subst s; rotate_left; clear_value s; rotate_left)
    | ((try lift_lets); first | (intro (x : Mram); subst x) | (intro (x : Compositor); subst x) | (intro (x : Store 32); subst x) | (intro (x : Store 8); subst x) | (intro (x : State × _); subst x) | (intro (x : _ × State); subst x) | (intro (x : _ × _ × State); subst x) | (intro (x : State → _); subst x) | (intro (x : _ → State → _); subst x) | (intro (x : _ → State); subst x) | (intro x; clear_value x))
    | (simp only [↓Kept_mk_iff]; refine And.intro ?_ (And.intro ?_ (And.intro ?_ (And.intro ?_ (And.intro ?_ (And.intro ?_ (And.intro ?_ (And.intro ?_ (And.intro ?_ ?_)))))))))
    | with_reducible (first | apply kept_set64 | apply kept_raiseIf | apply kept_countUp | apply Kept_ite)
    | with_reducible (first | exact Kept_regs (by assumption) (by assumption) | exact Kept_ram (by assumption) (by assumption) | exact Kept_mram (by assumption) (by assumption) | exact Kept_flt (by assumption) (by assumption) | exact Kept_var (by assumption) | exact Kept_ev (by assumption) (by assumption) | exact Kept_has (by assumption) | exact Kept_out (by assumption) | exact Kept_ctr (by assumption) | exact watchE_none (by assumption))
    | with_reducible refine Only_mk ?_ (.inr rfl) (.inr rfl) (.inr rfl) (.inr rfl) (.inr rfl) (.inr rfl) (.inr rfl) (.inr rfl) (.inr rfl) (.inr rfl) (.inr rfl) (.inr rfl) (.inr rfl) (.inr rfl) (.inr rfl) (.inr rfl) (.inl (mask_bit hk rfl)) (.inr rfl) (.inr rfl) (.inr rfl) (.inr rfl) (.inr rfl) (.inr rfl) (.inr rfl) (.inr rfl) (.inr rfl) (.inr rfl) (.inr rfl) (.inr rfl) (.inr rfl)
    | (first | exact mask_sub hk rfl | exact hk)
    | with_reducible (first | refine Kept_snd (by assumption) ?_ | refine Kept_fst (by assumption) ?_)
    | with_reducible exact Kept_of_next (by assumption)
    | with_reducible (refine Kept_of_O (by assumption) ?_)
    | with_reducible (first | refine Kept_regs (g := g) ?_ (by assumption) | refine Kept_ram (g := g) ?_ (by assumption) | refine Kept_mram (g := g) ?_ (by assumption) | refine Kept_flt (g := g) ?_ (by assumption) | refine Kept_var ?_ | refine Kept_ev ?_ (by assumption) | refine Kept_has ?_ | refine Kept_out ?_ | refine Kept_ctr ?_)
    | dsimp -zeta only
    | split)

theorem kept_chgToMram {x0} (h0 : Kept g x0) (hk : 64 &&& g.mask = 64) : Kept g (State.chgToMram x0) := by
  unfold State.chgToMram
  repeat' (first | with_reducible assumption | exact mask_sub hk rfl | with_reducible (first | apply kept_toMram | apply Kept_ite) | split | intro _)

theorem kept_claim {x0} (h0 : Kept g x0) (hk : 65536 &&& g.mask = 65536) : Kept g (State.claim x0) := by
  unfold State.claim
  repeat' (first | with_reducible assumption | exact mask_sub hk rfl | with_reducible (first | apply kept_setPstate | apply kept_sendClaim | apply Kept_ite) | split | intro _)

theorem kept_demandNow {x0} (h0 : Kept g x0) (hk : 739211328 &&& g.mask = 739211328) : Kept g (State.demandNow x0) := by
  unfold State.demandNow
  repeat' (first | with_reducible assumption | exact mask_sub hk rfl | with_reducible (first | apply kept_fsStart | apply kept_judge | apply Kept_ite) | split | intro _)

theorem kept_thmOutputs {x0} (h0 : Kept g x0) : Kept g (State.thmOutputs x0) := by
  unfold State.thmOutputs
  repeat' (first
    | with_reducible assumption
    | with_reducible refine fun _ => ?_
    | ((try lift_lets); intro s; refine (have hs : Kept g s := ?_; ?_); subst s; rotate_left; clear_value s; rotate_left)
    | ((try lift_lets); first | (intro (x : Mram); subst x) | (intro (x : Compositor); subst x) | (intro (x : Store 32); subst x) | (intro (x : Store 8); subst x) | (intro (x : State × _); subst x) | (intro (x : _ × State); subst x) | (intro (x : _ × _ × State); subst x) | (intro (x : State → _); subst x) | (intro (x : _ → State → _); subst x) | (intro (x : _ → State); subst x) | (intro x; clear_value x))
    | (simp only [↓Kept_mk_iff]; refine And.intro ?_ (And.intro ?_ (And.intro ?_ (And.intro ?_ (And.intro ?_ (And.intro ?_ (And.intro ?_ (And.intro ?_ (And.intro ?_ ?_)))))))))
    | with_reducible (first | apply kept_setReg | apply kept_raise | apply kept_setF | apply Kept_ite | apply Kept_foldl)
    | with_reducible (first | exact Kept_regs (by assumption) (by assumption) | exact Kept_ram (by assumption) (by assumption) | exact Kept_mram (by assumption) (by assumption) | exact Kept_flt (by assumption) (by assumption) | exact Kept_var (by assumption) | exact Kept_ev (by assumption) (by assumption) | exact Kept_has (by assumption) | exact Kept_out (by assumption) | exact Kept_ctr (by assumption) | exact watchE_none (by assumption))
    | with_reducible refine Only_mk ?_ (.inr rfl) (.inr rfl) (.inr rfl) (.inr rfl) (.inr rfl) (.inr rfl) (.inr rfl) (.inr rfl) (.inr rfl) (.inr rfl) (.inr rfl) (.inr rfl) (.inr rfl) (.inr rfl) (.inr rfl) (.inr rfl) (.inr rfl) (.inr rfl) (.inr rfl) (.inr rfl) (.inr rfl) (.inr rfl) (.inr rfl) (.inr rfl) (.inr rfl) (.inr rfl) (.inr rfl) (.inr rfl) (.inr rfl) (.inr rfl)
    | (first | rfl)
    | with_reducible (first | refine Kept_snd (by assumption) ?_ | refine Kept_fst (by assumption) ?_)
    | with_reducible exact Kept_of_next (by assumption)
    | with_reducible (refine Kept_of_O (by assumption) ?_)
    | with_reducible (first | refine Kept_regs (g := g) ?_ (by assumption) | refine Kept_ram (g := g) ?_ (by assumption) | refine Kept_mram (g := g) ?_ (by assumption) | refine Kept_flt (g := g) ?_ (by assumption) | refine Kept_var ?_ | refine Kept_ev ?_ (by assumption) | refine Kept_has ?_ | refine Kept_out ?_ | refine Kept_ctr ?_)
    | dsimp -zeta only
    | split)

theorem kept_takeSlots {x0} (h0 : Kept g x0) (hk : 8192 &&& g.mask = 8192) : Kept g (State.takeSlots x0) := by
  unfold State.takeSlots
  repeat' (first
    | with_reducible assumption
    | with_reducible refine fun _ => ?_
    | ((try lift_lets); intro s; refine (have hs : Kept g s := ?_; ?_); subst s; rotate_left; clear_value s; rotate_left)
    | ((try lift_lets); first | (intro (x : Mram); subst x) | (intro (x : Compositor); subst x) | (intro (x : Store 32); subst x) | (intro (x : Store 8); subst x) | (intro (x : State × _); subst x) | (intro (x : _ × State); subst x) | (intro (x : _ × _ × State); subst x) | (intro (x : State → _); subst x) | (intro (x : _ → State → _); subst x) | (intro (x : _ → State); subst x) | (intro x; clear_value x))
    | (simp only [↓Kept_mk_iff]; refine And.intro ?_ (And.intro ?_ (And.intro ?_ (And.intro ?_ (And.intro ?_ (And.intro ?_ (And.intro ?_ (And.intro ?_ (And.intro ?_ ?_)))))))))
    | with_reducible (first | apply kept_putSlot | apply kept_thmOutputs | apply Kept_ite | apply Kept_fold)
    | with_reducible (first | exact Kept_regs (by assumption) (by assumption) | exact Kept_ram (by assumption) (by assumption) | exact Kept_mram (by assumption) (by assumption) | exact Kept_flt (by assumption) (by assumption) | exact Kept_var (by assumption) | exact Kept_ev (by assumption) (by assumption) | exact Kept_has (by assumption) | exact Kept_out (by assumption) | exact Kept_ctr (by assumption) | exact watchE_none (by assumption))
    | (first | exact mask_sub hk rfl | exact hk)
    | with_reducible (first | refine Kept_snd (by assumption) ?_ | refine Kept_fst (by assumption) ?_)
    | with_reducible exact Kept_of_next (by assumption)
    | with_reducible (refine Kept_of_O (by assumption) ?_)
    | with_reducible (first | refine Kept_regs (g := g) ?_ (by assumption) | refine Kept_ram (g := g) ?_ (by assumption) | refine Kept_mram (g := g) ?_ (by assumption) | refine Kept_flt (g := g) ?_ (by assumption) | refine Kept_var ?_ | refine Kept_ev ?_ (by assumption) | refine Kept_has ?_ | refine Kept_out ?_ | refine Kept_ctr ?_)
    | dsimp -zeta only
    | split)

theorem kept_takeRowOver {x0} (h0 : Kept g x0) (hk : 741308480 &&& g.mask = 741308480) : Kept g (State.takeRowOver x0) := by
  unfold State.takeRowOver
  repeat' (first
    | with_reducible assumption
    | with_reducible refine fun _ => ?_
    | ((try lift_lets); intro s; refine (have hs : Kept g s := ?_; ?_); subst s; rotate_left; clear_value s; rotate_left)
    | ((try lift_lets); first | (intro (x : Mram); subst x) | (intro (x : Compositor); subst x) | (intro (x : Store 32); subst x) | (intro (x : Store 8); subst x) | (intro (x : State × _); subst x) | (intro (x : _ × State); subst x) | (intro (x : _ × _ × State); subst x) | (intro (x : State → _); subst x) | (intro (x : _ → State → _); subst x) | (intro (x : _ → State); subst x) | (intro x; clear_value x))
    | (simp only [↓Kept_mk_iff]; refine And.intro ?_ (And.intro ?_ (And.intro ?_ (And.intro ?_ (And.intro ?_ (And.intro ?_ (And.intro ?_ (And.intro ?_ (And.intro ?_ ?_)))))))))
    | with_reducible (first | apply kept_raise | apply kept_setReg | apply kept_galOpen | apply kept_begin | apply kept_progress | apply kept_setFunc | apply kept_stopFunc | apply Kept_ite)
    | with_reducible (first | exact Kept_regs (by assumption) (by assumption) | exact Kept_ram (by assumption) (by assumption) | exact Kept_mram (by assumption) (by assumption) | exact Kept_flt (by assumption) (by assumption) | exact Kept_var (by assumption) | exact Kept_ev (by assumption) (by assumption) | exact Kept_has (by assumption) | exact Kept_out (by assumption) | exact Kept_ctr (by assumption) | exact watchE_none (by assumption))
    | with_reducible refine Only_mk ?_ (.inr rfl) (.inr rfl) (.inr rfl) (.inr rfl) (.inr rfl) (.inr rfl) (.inr rfl) (.inr rfl) (.inr rfl) (.inl (mask_bit hk rfl)) (.inr rfl) (.inr rfl) (.inr rfl) (.inr rfl) (.inr rfl) (.inr rfl) (.inr rfl) (.inr rfl) (.inr rfl) (.inr rfl) (.inr rfl) (.inr rfl) (.inr rfl) (.inr rfl) (.inr rfl) (.inr rfl) (.inr rfl) (.inr rfl) (.inr rfl) (.inr rfl)
    | (first | exact mask_sub hk rfl | exact hk)
    | with_reducible (first | refine Kept_snd (by assumption) ?_ | refine Kept_fst (by assumption) ?_)
    | with_reducible exact Kept_of_next (by assumption)
    | with_reducible (refine Kept_of_O (by assumption) ?_)
    | with_reducible (first | refine Kept_regs (g := g) ?_ (by assumption) | refine Kept_ram (g := g) ?_ (by assumption) | refine Kept_mram (g := g) ?_ (by assumption) | refine Kept_flt (g := g) ?_ (by assumption) | refine Kept_var ?_ | refine Kept_ev ?_ (by assumption) | refine Kept_has ?_ | refine Kept_out ?_ | refine Kept_ctr ?_)
    | dsimp -zeta only
    | split)

theorem kept_nodeWrite {x0 x1 x2 x3} (h0 : Kept g x0) : Kept g (State.nodeWrite x0 x1 x2 x3) := by
  unfold State.nodeWrite
  repeat' (first | with_reducible assumption | with_reducible (first | apply kept_nodeWrites | apply Kept_ite) | split | intro _)

theorem kept_nodeReplay {x0} (h0 : Kept g x0) (hk : 50333760 &&& g.mask = 50333760) : Kept g (State.nodeReplay x0) := by
  unfold State.nodeReplay
  repeat' (first
    | with_reducible assumption
    | with_reducible refine fun _ => ?_
    | ((try lift_lets); intro s; refine (have hs : Kept g s := ?_; ?_); subst s; rotate_left; clear_value s; rotate_left)
    | ((try lift_lets); first | (intro (x : Mram); subst x) | (intro (x : Compositor); subst x) | (intro (x : Store 32); subst x) | (intro (x : Store 8); subst x) | (intro (x : State × _); subst x) | (intro (x : _ × State); subst x) | (intro (x : _ × _ × State); subst x) | (intro (x : State → _); subst x) | (intro (x : _ → State → _); subst x) | (intro (x : _ → State); subst x) | (intro x; clear_value x))
    | (simp only [↓Kept_mk_iff]; refine And.intro ?_ (And.intro ?_ (And.intro ?_ (And.intro ?_ (And.intro ?_ (And.intro ?_ (And.intro ?_ (And.intro ?_ (And.intro ?_ ?_)))))))))
    | with_reducible (first | apply kept_nodeSend | apply Kept_ite | apply filter_wf | apply evOk_filter)
    | with_reducible (first | exact Kept_regs (by assumption) (by assumption) | exact Kept_ram (by assumption) (by assumption) | exact Kept_mram (by assumption) (by assumption) | exact Kept_flt (by assumption) (by assumption) | exact Kept_var (by assumption) | exact Kept_ev (by assumption) (by assumption) | exact Kept_has (by assumption) | exact Kept_out (by assumption) | exact Kept_ctr (by assumption) | exact watchE_none (by assumption))
    | with_reducible refine Only_mk ?_ (.inr rfl) (.inr rfl) (.inr rfl) (.inr rfl) (.inr rfl) (.inr rfl) (.inr rfl) (.inr rfl) (.inr rfl) (.inr rfl) (.inr rfl) (.inr rfl) (.inr rfl) (.inr rfl) (.inr rfl) (.inr rfl) (.inr rfl) (.inr rfl) (.inr rfl) (.inr rfl) (.inr rfl) (.inl (mask_bit hk rfl)) (.inl (mask_bit hk rfl)) (.inr rfl) (.inr rfl) (.inr rfl) (.inr rfl) (.inr rfl) (.inr rfl) (.inr rfl)
    | (first | exact mask_sub hk rfl | exact hk)
    | with_reducible (first | refine Kept_snd (by assumption) ?_ | refine Kept_fst (by assumption) ?_)
    | with_reducible exact Kept_of_next (by assumption)
    | with_reducible (refine Kept_of_O (by assumption) ?_)
    | with_reducible (first | refine Kept_regs (g := g) ?_ (by assumption) | refine Kept_ram (g := g) ?_ (by assumption) | refine Kept_mram (g := g) ?_ (by assumption) | refine Kept_flt (g := g) ?_ (by assumption) | refine Kept_var ?_ | refine Kept_ev ?_ (by assumption) | refine Kept_has ?_ | refine Kept_out ?_ | refine Kept_ctr ?_)
    | dsimp -zeta only
    | split)

theorem kept_takeover {x0} (h0 : Kept g x0) (hk : 792688708 &&& g.mask = 792688708) : Kept g (State.takeover x0) := by
  unfold State.takeover
  repeat' (first
    | with_reducible assumption
    | with_reducible refine fun _ => ?_
    | ((try lift_lets); intro s; refine (have hs : Kept g s := ?_; ?_); subst s; rotate_left; clear_value s; rotate_left)
    | ((try lift_lets); first | (intro (x : Mram); subst x) | (intro (x : Compositor); subst x) | (intro (x : Store 32); subst x) | (intro (x : Store 8); subst x) | (intro (x : State × _); subst x) | (intro (x : _ × State); subst x) | (intro (x : _ × _ × State); subst x) | (intro (x : State → _); subst x) | (intro (x : _ → State → _); subst x) | (intro (x : _ → State); subst x) | (intro x; clear_value x))
    | (simp only [↓Kept_mk_iff]; refine And.intro ?_ (And.intro ?_ (And.intro ?_ (And.intro ?_ (And.intro ?_ (And.intro ?_ (And.intro ?_ (And.intro ?_ (And.intro ?_ ?_)))))))))
    | with_reducible (first | apply kept_takeSlots | apply kept_replay | apply kept_imdRefresh | apply kept_setB | apply kept_takeRowOver | apply kept_setCmd | apply kept_setF | apply kept_noRampPath | apply kept_setMode | apply kept_setFunc | apply kept_openContactors | apply kept_abortTransition | apply kept_profZero | apply kept_removeDrive | apply kept_setReg | apply kept_setArm | apply kept_nodeWrite | apply kept_nodeReplay | apply kept_raise | apply kept_countRegM | apply Kept_ite)
    | with_reducible (first | exact Kept_regs (by assumption) (by assumption) | exact Kept_ram (by assumption) (by assumption) | exact Kept_mram (by assumption) (by assumption) | exact Kept_flt (by assumption) (by assumption) | exact Kept_var (by assumption) | exact Kept_ev (by assumption) (by assumption) | exact Kept_has (by assumption) | exact Kept_out (by assumption) | exact Kept_ctr (by assumption) | exact watchE_none (by assumption))
    | with_reducible refine Only_mk ?_ (.inr rfl) (.inr rfl) (.inr rfl) (.inr rfl) (.inl (mask_bit hk rfl)) (.inr rfl) (.inr rfl) (.inr rfl) (.inr rfl) (.inl (mask_bit hk rfl)) (.inr rfl) (.inr rfl) (.inr rfl) (.inr rfl) (.inl (mask_bit hk rfl)) (.inr rfl) (.inl (mask_bit hk rfl)) (.inr rfl) (.inr rfl) (.inr rfl) (.inr rfl) (.inl (mask_bit hk rfl)) (.inr rfl) (.inr rfl) (.inr rfl) (.inr rfl) (.inr rfl) (.inr rfl) (.inr rfl) (.inr rfl)
    | (first | exact mask_sub hk rfl | exact hk)
    | with_reducible (first | refine Kept_snd (by assumption) ?_ | refine Kept_fst (by assumption) ?_)
    | with_reducible exact Kept_of_next (by assumption)
    | with_reducible (refine Kept_of_O (by assumption) ?_)
    | with_reducible (first | refine Kept_regs (g := g) ?_ (by assumption) | refine Kept_ram (g := g) ?_ (by assumption) | refine Kept_mram (g := g) ?_ (by assumption) | refine Kept_flt (g := g) ?_ (by assumption) | refine Kept_var ?_ | refine Kept_ev ?_ (by assumption) | refine Kept_has ?_ | refine Kept_out ?_ | refine Kept_ctr ?_)
    | dsimp -zeta only
    | split)

theorem kept_setI {x0 x1 x2} (h0 : Kept g x0) : Kept g (State.setI x0 x1 x2) := by
  unfold State.setI
  repeat' (first | with_reducible assumption | with_reducible (first | apply kept_setReg | apply Kept_ite) | split | intro _)

theorem kept_rootShow {x0} (h0 : Kept g x0) : Kept g (State.rootShow x0) := by
  unfold State.rootShow
  repeat' (first | with_reducible assumption | with_reducible (first | apply kept_setI | apply kept_setReg | apply Kept_ite) | split | intro _)

theorem kept_syncEnter {x0 x1} (h0 : Kept g x0) (hk : 256 &&& g.mask = 256) : Kept g (State.syncEnter x0 x1) := by
  unfold State.syncEnter
  repeat' (first
    | with_reducible assumption
    | with_reducible refine fun _ => ?_
    | ((try lift_lets); intro s; refine (have hs : Kept g s := ?_; ?_); subst s; rotate_left; clear_value s; rotate_left)
    | ((try lift_lets); first | (intro (x : Mram); subst x) | (intro (x : Compositor); subst x) | (intro (x : Store 32); subst x) | (intro (x : Store 8); subst x) | (intro (x : State × _); subst x) | (intro (x : _ × State); subst x) | (intro (x : _ × _ × State); subst x) | (intro (x : State → _); subst x) | (intro (x : _ → State → _); subst x) | (intro (x : _ → State); subst x) | (intro x; clear_value x))
    | (simp only [↓Kept_mk_iff]; refine And.intro ?_ (And.intro ?_ (And.intro ?_ (And.intro ?_ (And.intro ?_ (And.intro ?_ (And.intro ?_ (And.intro ?_ (And.intro ?_ ?_)))))))))
    | with_reducible (first | apply kept_setF | apply kept_raiseIf | apply kept_rootShow | apply Kept_ite)
    | with_reducible (first | exact Kept_regs (by assumption) (by assumption) | exact Kept_ram (by assumption) (by assumption) | exact Kept_mram (by assumption) (by assumption) | exact Kept_flt (by assumption) (by assumption) | exact Kept_var (by assumption) | exact Kept_ev (by assumption) (by assumption) | exact Kept_has (by assumption) | exact Kept_out (by assumption) | exact Kept_ctr (by assumption) | exact watchE_none (by assumption))
    | with_reducible refine Only_mk ?_ (.inr rfl) (.inr rfl) (.inr rfl) (.inr rfl) (.inr rfl) (.inr rfl) (.inl (mask_bit hk rfl)) (.inr rfl) (.inr rfl) (.inr rfl) (.inr rfl) (.inr rfl) (.inr rfl) (.inr rfl) (.inr rfl) (.inr rfl) (.inr rfl) (.inr rfl) (.inr rfl) (.inr rfl) (.inr rfl) (.inr rfl) (.inr rfl) (.inr rfl) (.inr rfl) (.inr rfl) (.inr rfl) (.inr rfl) (.inr rfl) (.inr rfl)
    | (first | exact mask_sub hk rfl | exact hk)
    | with_reducible (first | refine Kept_snd (by assumption) ?_ | refine Kept_fst (by assumption) ?_)
    | with_reducible exact Kept_of_next (by assumption)
    | with_reducible (refine Kept_of_O (by assumption) ?_)
    | with_reducible (first | refine Kept_regs (g := g) ?_ (by assumption) | refine Kept_ram (g := g) ?_ (by assumption) | refine Kept_mram (g := g) ?_ (by assumption) | refine Kept_flt (g := g) ?_ (by assumption) | refine Kept_var ?_ | refine Kept_ev ?_ (by assumption) | refine Kept_has ?_ | refine Kept_out ?_ | refine Kept_ctr ?_)
    | dsimp -zeta only
    | split)

theorem kept_timeRole {x0} (h0 : Kept g x0) (hk : 256 &&& g.mask = 256) : Kept g (State.timeRole x0) := by
  unfold State.timeRole
  repeat' (first | with_reducible assumption | exact mask_sub hk rfl | with_reducible (first | apply kept_syncEnter | apply Kept_ite) | split | intro _)

theorem kept_swapDone {x0} (h0 : Kept g x0) (hk : 8390720 &&& g.mask = 8390720) : Kept g (State.swapDone x0) := by
  unfold State.swapDone
  repeat' (first
    | with_reducible assumption
    | with_reducible refine fun _ => ?_
    | ((try lift_lets); intro s; refine (have hs : Kept g s := ?_; ?_); subst s; rotate_left; clear_value s; rotate_left)
    | ((try lift_lets); first | (intro (x : Mram); subst x) | (intro (x : Compositor); subst x) | (intro (x : Store 32); subst x) | (intro (x : Store 8); subst x) | (intro (x : State × _); subst x) | (intro (x : _ × State); subst x) | (intro (x : _ × _ × State); subst x) | (intro (x : State → _); subst x) | (intro (x : _ → State → _); subst x) | (intro (x : _ → State); subst x) | (intro x; clear_value x))
    | (simp only [↓Kept_mk_iff]; refine And.intro ?_ (And.intro ?_ (And.intro ?_ (And.intro ?_ (And.intro ?_ (And.intro ?_ (And.intro ?_ (And.intro ?_ (And.intro ?_ ?_)))))))))
    | with_reducible (first | apply kept_countRegM | apply kept_setF | apply kept_galClose | apply kept_raise | apply Kept_ite)
    | with_reducible (first | exact Kept_regs (by assumption) (by assumption) | exact Kept_ram (by assumption) (by assumption) | exact Kept_mram (by assumption) (by assumption) | exact Kept_flt (by assumption) (by assumption) | exact Kept_var (by assumption) | exact Kept_ev (by assumption) (by assumption) | exact Kept_has (by assumption) | exact Kept_out (by assumption) | exact Kept_ctr (by assumption) | exact watchE_none (by assumption))
    | with_reducible refine Only_mk ?_ (.inr rfl) (.inr rfl) (.inr rfl) (.inr rfl) (.inr rfl) (.inr rfl) (.inr rfl) (.inr rfl) (.inr rfl) (.inr rfl) (.inr rfl) (.inr rfl) (.inr rfl) (.inr rfl) (.inr rfl) (.inr rfl) (.inr rfl) (.inr rfl) (.inr rfl) (.inr rfl) (.inl (mask_bit hk rfl)) (.inr rfl) (.inr rfl) (.inr rfl) (.inr rfl) (.inr rfl) (.inr rfl) (.inr rfl) (.inr rfl) (.inr rfl)
    | (first | exact mask_sub hk rfl | exact hk)
    | with_reducible (first | refine Kept_snd (by assumption) ?_ | refine Kept_fst (by assumption) ?_)
    | with_reducible exact Kept_of_next (by assumption)
    | with_reducible (refine Kept_of_O (by assumption) ?_)
    | with_reducible (first | refine Kept_regs (g := g) ?_ (by assumption) | refine Kept_ram (g := g) ?_ (by assumption) | refine Kept_mram (g := g) ?_ (by assumption) | refine Kept_flt (g := g) ?_ (by assumption) | refine Kept_var ?_ | refine Kept_ev ?_ (by assumption) | refine Kept_has ?_ | refine Kept_out ?_ | refine Kept_ctr ?_)
    | dsimp -zeta only
    | split)

theorem kept_granted {x0 x1} (h0 : Kept g x0) (hk : 805271876 &&& g.mask = 805271876) : Kept g (State.granted x0 x1) := by
  unfold State.granted
  repeat' (first
    | with_reducible assumption
    | with_reducible refine fun _ => ?_
    | ((try lift_lets); intro s; refine (have hs : Kept g s := ?_; ?_); subst s; rotate_left; clear_value s; rotate_left)
    | ((try lift_lets); first | (intro (x : Mram); subst x) | (intro (x : Compositor); subst x) | (intro (x : Store 32); subst x) | (intro (x : Store 8); subst x) | (intro (x : State × _); subst x) | (intro (x : _ × State); subst x) | (intro (x : _ × _ × State); subst x) | (intro (x : State → _); subst x) | (intro (x : _ → State → _); subst x) | (intro (x : _ → State); subst x) | (intro x; clear_value x))
    | (simp only [↓Kept_mk_iff]; refine And.intro ?_ (And.intro ?_ (And.intro ?_ (And.intro ?_ (And.intro ?_ (And.intro ?_ (And.intro ?_ (And.intro ?_ (And.intro ?_ ?_)))))))))
    | with_reducible (first | apply kept_setReg | apply kept_raise | apply kept_demandNow | apply kept_takeover | apply kept_setB | apply kept_setPstate | apply kept_pwmRefresh | apply kept_sendRenew | apply kept_timeRole | apply kept_swapDone | apply Kept_ite)
    | with_reducible (first | exact Kept_regs (by assumption) (by assumption) | exact Kept_ram (by assumption) (by assumption) | exact Kept_mram (by assumption) (by assumption) | exact Kept_flt (by assumption) (by assumption) | exact Kept_var (by assumption) | exact Kept_ev (by assumption) (by assumption) | exact Kept_has (by assumption) | exact Kept_out (by assumption) | exact Kept_ctr (by assumption) | exact watchE_none (by assumption))
    | with_reducible refine Only_mk ?_ (.inr rfl) (.inr rfl) (.inr rfl) (.inr rfl) (.inr rfl) (.inr rfl) (.inr rfl) (.inr rfl) (.inr rfl) (.inr rfl) (.inr rfl) (.inr rfl) (.inr rfl) (.inl (mask_bit hk rfl)) (.inr rfl) (.inr rfl) (.inr rfl) (.inr rfl) (.inr rfl) (.inl (mask_bit hk rfl)) (.inl (mask_bit hk rfl)) (.inr rfl) (.inr rfl) (.inr rfl) (.inr rfl) (.inr rfl) (.inr rfl) (.inr rfl) (.inr rfl) (.inr rfl)
    | (first | exact mask_sub hk rfl | exact hk)
    | with_reducible (first | refine Kept_snd (by assumption) ?_ | refine Kept_fst (by assumption) ?_)
    | with_reducible exact Kept_of_next (by assumption)
    | with_reducible (refine Kept_of_O (by assumption) ?_)
    | with_reducible (first | refine Kept_regs (g := g) ?_ (by assumption) | refine Kept_ram (g := g) ?_ (by assumption) | refine Kept_mram (g := g) ?_ (by assumption) | refine Kept_flt (g := g) ?_ (by assumption) | refine Kept_var ?_ | refine Kept_ev ?_ (by assumption) | refine Kept_has ?_ | refine Kept_out ?_ | refine Kept_ctr ?_)
    | dsimp -zeta only
    | split)

theorem kept_enterResync {x0} (h0 : Kept g x0) (hk : 545259520 &&& g.mask = 545259520) : Kept g (State.enterResync x0) := by
  unfold State.enterResync
  repeat' (first
    | with_reducible assumption
    | with_reducible refine fun _ => ?_
    | ((try lift_lets); intro s; refine (have hs : Kept g s := ?_; ?_); subst s; rotate_left; clear_value s; rotate_left)
    | ((try lift_lets); first | (intro (x : Mram); subst x) | (intro (x : Compositor); subst x) | (intro (x : Store 32); subst x) | (intro (x : Store 8); subst x) | (intro (x : State × _); subst x) | (intro (x : _ × State); subst x) | (intro (x : _ × _ × State); subst x) | (intro (x : State → _); subst x) | (intro (x : _ → State → _); subst x) | (intro (x : _ → State); subst x) | (intro x; clear_value x))
    | (simp only [↓Kept_mk_iff]; refine And.intro ?_ (And.intro ?_ (And.intro ?_ (And.intro ?_ (And.intro ?_ (And.intro ?_ (And.intro ?_ (And.intro ?_ (And.intro ?_ ?_)))))))))
    | with_reducible (first | apply kept_plnkOut | apply kept_setB | apply kept_setPstate | apply Kept_ite)
    | with_reducible (first | exact Kept_regs (by assumption) (by assumption) | exact Kept_ram (by assumption) (by assumption) | exact Kept_mram (by assumption) (by assumption) | exact Kept_flt (by assumption) (by assumption) | exact Kept_var (by assumption) | exact Kept_ev (by assumption) (by assumption) | exact Kept_has (by assumption) | exact Kept_out (by assumption) | exact Kept_ctr (by assumption) | exact watchE_none (by assumption))
    | with_reducible refine Only_mk ?_ (.inr rfl) (.inr rfl) (.inr rfl) (.inr rfl) (.inr rfl) (.inr rfl) (.inr rfl) (.inr rfl) (.inr rfl) (.inr rfl) (.inr rfl) (.inr rfl) (.inr rfl) (.inr rfl) (.inr rfl) (.inr rfl) (.inr rfl) (.inr rfl) (.inr rfl) (.inr rfl) (.inl (mask_bit hk rfl)) (.inr rfl) (.inr rfl) (.inr rfl) (.inr rfl) (.inr rfl) (.inr rfl) (.inr rfl) (.inr rfl) (.inr rfl)
    | (first | exact mask_sub hk rfl | exact hk)
    | with_reducible (first | refine Kept_snd (by assumption) ?_ | refine Kept_fst (by assumption) ?_)
    | with_reducible exact Kept_of_next (by assumption)
    | with_reducible (refine Kept_of_O (by assumption) ?_)
    | with_reducible (first | refine Kept_regs (g := g) ?_ (by assumption) | refine Kept_ram (g := g) ?_ (by assumption) | refine Kept_mram (g := g) ?_ (by assumption) | refine Kept_flt (g := g) ?_ (by assumption) | refine Kept_var ?_ | refine Kept_ev ?_ (by assumption) | refine Kept_has ?_ | refine Kept_out ?_ | refine Kept_ctr ?_)
    | dsimp -zeta only
    | split)

theorem kept_learnEdition {x0 x1} (h0 : Kept g x0) : Kept g (State.learnEdition x0 x1) := by
  unfold State.learnEdition
  repeat' (first | with_reducible assumption | with_reducible (first | apply kept_setReg | apply Kept_ite) | split | intro _)

theorem kept_claimResult {x0 x1} (h0 : Kept g x0) (hk : 805271876 &&& g.mask = 805271876) : Kept g (State.claimResult x0 x1) := by
  unfold State.claimResult
  repeat' (first
    | with_reducible assumption
    | with_reducible refine fun _ => ?_
    | ((try lift_lets); intro s; refine (have hs : Kept g s := ?_; ?_); subst s; rotate_left; clear_value s; rotate_left)
    | ((try lift_lets); first | (intro (x : Mram); subst x) | (intro (x : Compositor); subst x) | (intro (x : Store 32); subst x) | (intro (x : Store 8); subst x) | (intro (x : State × _); subst x) | (intro (x : _ × State); subst x) | (intro (x : _ × _ × State); subst x) | (intro (x : State → _); subst x) | (intro (x : _ → State → _); subst x) | (intro (x : _ → State); subst x) | (intro x; clear_value x))
    | (simp only [↓Kept_mk_iff]; refine And.intro ?_ (And.intro ?_ (And.intro ?_ (And.intro ?_ (And.intro ?_ (And.intro ?_ (And.intro ?_ (And.intro ?_ (And.intro ?_ ?_)))))))))
    | with_reducible (first | apply kept_granted | apply kept_raise | apply kept_enterResync | apply kept_learnEdition | apply Kept_ite)
    | with_reducible (first | exact Kept_regs (by assumption) (by assumption) | exact Kept_ram (by assumption) (by assumption) | exact Kept_mram (by assumption) (by assumption) | exact Kept_flt (by assumption) (by assumption) | exact Kept_var (by assumption) | exact Kept_ev (by assumption) (by assumption) | exact Kept_has (by assumption) | exact Kept_out (by assumption) | exact Kept_ctr (by assumption) | exact watchE_none (by assumption))
    | with_reducible refine Only_mk ?_ (.inr rfl) (.inr rfl) (.inr rfl) (.inr rfl) (.inr rfl) (.inr rfl) (.inr rfl) (.inr rfl) (.inr rfl) (.inr rfl) (.inr rfl) (.inr rfl) (.inr rfl) (.inl (mask_bit hk rfl)) (.inr rfl) (.inr rfl) (.inr rfl) (.inr rfl) (.inr rfl) (.inr rfl) (.inr rfl) (.inr rfl) (.inr rfl) (.inr rfl) (.inr rfl) (.inr rfl) (.inr rfl) (.inr rfl) (.inr rfl) (.inr rfl)
    | (first | exact mask_sub hk rfl | exact hk)
    | with_reducible (first | refine Kept_snd (by assumption) ?_ | refine Kept_fst (by assumption) ?_)
    | with_reducible exact Kept_of_next (by assumption)
    | with_reducible (refine Kept_of_O (by assumption) ?_)
    | with_reducible (first | refine Kept_regs (g := g) ?_ (by assumption) | refine Kept_ram (g := g) ?_ (by assumption) | refine Kept_mram (g := g) ?_ (by assumption) | refine Kept_flt (g := g) ?_ (by assumption) | refine Kept_var ?_ | refine Kept_ev ?_ (by assumption) | refine Kept_has ?_ | refine Kept_out ?_ | refine Kept_ctr ?_)
    | dsimp -zeta only
    | split)

theorem kept_clampNote {x0 x1} (h0 : Kept g x0) : Kept g (State.clampNote x0 x1) := by
  unfold State.clampNote
  repeat' (first | with_reducible assumption | with_reducible (first | apply kept_raise | apply kept_countReg | apply kept_setReg | apply Kept_ite) | split | intro _)

theorem kept_markSingle {x0 x1 x2} (h0 : Kept g x0) (hk : 4194304 &&& g.mask = 4194304) : Kept g (State.markSingle x0 x1 x2) := by
  unfold State.markSingle
  repeat' (first | with_reducible assumption | exact mask_sub hk rfl | with_reducible (first | apply kept_posMod | apply kept_newMark | apply kept_raise | apply Kept_ite) | split | intro _)

theorem kept_pairBound {x0 x1 x2} (h0 : Kept g x0) : Kept g (State.pairBound x0 x1 x2).2 := by
  unfold State.pairBound
  repeat' (first
    | with_reducible assumption
    | with_reducible refine fun _ => ?_
    | ((try lift_lets); intro s; refine (have hs : Kept g s := ?_; ?_); subst s; rotate_left; clear_value s; rotate_left)
    | ((try lift_lets); first | (intro (x : Mram); subst x) | (intro (x : Compositor); subst x) | (intro (x : Store 32); subst x) | (intro (x : Store 8); subst x) | (intro (x : State × _); subst x) | (intro (x : _ × State); subst x) | (intro (x : _ × _ × State); subst x) | (intro (x : State → _); subst x) | (intro (x : _ → State → _); subst x) | (intro (x : _ → State); subst x) | (intro x; clear_value x))
    | (simp only [↓Kept_mk_iff]; refine And.intro ?_ (And.intro ?_ (And.intro ?_ (And.intro ?_ (And.intro ?_ (And.intro ?_ (And.intro ?_ (And.intro ?_ (And.intro ?_ ?_)))))))))
    | with_reducible (first | apply kept_fresh | apply Kept_ite | apply Kept_ite1 | apply Kept_ite2 | apply Kept_ite3)
    | with_reducible (first | exact Kept_regs (by assumption) (by assumption) | exact Kept_ram (by assumption) (by assumption) | exact Kept_mram (by assumption) (by assumption) | exact Kept_flt (by assumption) (by assumption) | exact Kept_var (by assumption) | exact Kept_ev (by assumption) (by assumption) | exact Kept_has (by assumption) | exact Kept_out (by assumption) | exact Kept_ctr (by assumption) | exact watchE_none (by assumption))
    | with_reducible refine Only_mk ?_ (.inr rfl) (.inr rfl) (.inr rfl) (.inr rfl) (.inr rfl) (.inr rfl) (.inr rfl) (.inr rfl) (.inr rfl) (.inr rfl) (.inr rfl) (.inr rfl) (.inr rfl) (.inr rfl) (.inr rfl) (.inr rfl) (.inr rfl) (.inr rfl) (.inr rfl) (.inr rfl) (.inr rfl) (.inr rfl) (.inr rfl) (.inr rfl) (.inr rfl) (.inr rfl) (.inr rfl) (.inr rfl) (.inr rfl) (.inr rfl)
    | (first | rfl)
    | with_reducible (first | refine Kept_snd (by assumption) ?_ | refine Kept_fst (by assumption) ?_)
    | with_reducible exact Kept_of_next (by assumption)
    | with_reducible (refine Kept_of_O (by assumption) ?_)
    | with_reducible (first | refine Kept_regs (g := g) ?_ (by assumption) | refine Kept_ram (g := g) ?_ (by assumption) | refine Kept_mram (g := g) ?_ (by assumption) | refine Kept_flt (g := g) ?_ (by assumption) | refine Kept_var ?_ | refine Kept_ev ?_ (by assumption) | refine Kept_has ?_ | refine Kept_out ?_ | refine Kept_ctr ?_)
    | dsimp -zeta only
    | split)

theorem kept_markPair {x0 x1 x2} (h0 : Kept g x0) (hk : 4194304 &&& g.mask = 4194304) : Kept g (State.markPair x0 x1 x2) := by
  unfold State.markPair
  repeat' (first | with_reducible assumption | exact mask_sub hk rfl | with_reducible (first | apply kept_pairBound | apply kept_posMod | apply kept_newMark | apply kept_raise | apply Kept_ite) | split | intro _)

theorem kept_markWire {x0 x1 x2} (h0 : Kept g x0) (hk : 4194304 &&& g.mask = 4194304) : Kept g (State.markWire x0 x1 x2) := by
  unfold State.markWire
  repeat' (first | with_reducible assumption | exact mask_sub hk rfl | with_reducible (first | apply kept_markSingle | apply kept_markPair | apply Kept_ite) | split | intro _)

theorem kept_markProof {x0 x1} (h0 : Kept g x0) (hk : 4194304 &&& g.mask = 4194304) : Kept g (State.markProof x0 x1) := by
  unfold State.markProof
  repeat' (first | with_reducible assumption | exact mask_sub hk rfl | with_reducible (first | apply kept_newMark | apply kept_raise | apply kept_posMod | apply Kept_ite) | split | intro _)

theorem kept_classify {x0 x1} (h0 : Kept g x0) (hk : 743405632 &&& g.mask = 743405632) : Kept g (State.classify x0 x1) := by
  unfold State.classify
  repeat' (first
    | with_reducible assumption
    | with_reducible refine fun _ => ?_
    | ((try lift_lets); intro s; refine (have hs : Kept g s := ?_; ?_); subst s; rotate_left; clear_value s; rotate_left)
    | ((try lift_lets); first | (intro (x : Mram); subst x) | (intro (x : Compositor); subst x) | (intro (x : Store 32); subst x) | (intro (x : Store 8); subst x) | (intro (x : State × _); subst x) | (intro (x : _ × State); subst x) | (intro (x : _ × _ × State); subst x) | (intro (x : State → _); subst x) | (intro (x : _ → State → _); subst x) | (intro (x : _ → State); subst x) | (intro x; clear_value x))
    | (simp only [↓Kept_mk_iff]; refine And.intro ?_ (And.intro ?_ (And.intro ?_ (And.intro ?_ (And.intro ?_ (And.intro ?_ (And.intro ?_ (And.intro ?_ (And.intro ?_ ?_)))))))))
    | with_reducible (first | apply kept_markWire | apply kept_markProof | apply kept_markSingle | apply kept_markPair | apply kept_remark | apply kept_posMod | apply Kept_ite | apply Kept_foldl | apply filter_wf | apply evOk_filter)
    | with_reducible (first | exact Kept_regs (by assumption) (by assumption) | exact Kept_ram (by assumption) (by assumption) | exact Kept_mram (by assumption) (by assumption) | exact Kept_flt (by assumption) (by assumption) | exact Kept_var (by assumption) | exact Kept_ev (by assumption) (by assumption) | exact Kept_has (by assumption) | exact Kept_out (by assumption) | exact Kept_ctr (by assumption) | exact watchE_none (by assumption))
    | with_reducible refine Only_mk ?_ (.inr rfl) (.inr rfl) (.inr rfl) (.inr rfl) (.inr rfl) (.inr rfl) (.inr rfl) (.inr rfl) (.inr rfl) (.inr rfl) (.inr rfl) (.inr rfl) (.inr rfl) (.inr rfl) (.inr rfl) (.inr rfl) (.inr rfl) (.inr rfl) (.inr rfl) (.inr rfl) (.inr rfl) (.inr rfl) (.inr rfl) (.inr rfl) (.inr rfl) (.inr rfl) (.inr rfl) (.inr rfl) (.inr rfl) (.inr rfl)
    | (first | exact mask_sub hk rfl | exact hk)
    | with_reducible (first | refine Kept_snd (by assumption) ?_ | refine Kept_fst (by assumption) ?_)
    | with_reducible exact Kept_of_next (by assumption)
    | with_reducible (refine Kept_of_O (by assumption) ?_)
    | with_reducible (first | refine Kept_regs (g := g) ?_ (by assumption) | refine Kept_ram (g := g) ?_ (by assumption) | refine Kept_mram (g := g) ?_ (by assumption) | refine Kept_flt (g := g) ?_ (by assumption) | refine Kept_var ?_ | refine Kept_ev ?_ (by assumption) | refine Kept_has ?_ | refine Kept_out ?_ | refine Kept_ctr ?_)
    | dsimp -zeta only
    | split)

theorem kept_clearMarks {x0 x1} (h0 : Kept g x0) (hk : 743405632 &&& g.mask = 743405632) : Kept g (State.clearMarks x0 x1) := by
  unfold State.clearMarks
  repeat' (first | with_reducible assumption | exact mask_sub hk rfl | with_reducible (first | apply kept_posMod | apply kept_remark | apply kept_raise | apply Kept_ite) | split | intro _)

theorem kept_clearOne {x0 x1} (h0 : Kept g x0) (hk : 743405632 &&& g.mask = 743405632) : Kept g (State.clearOne x0 x1) := by
  unfold State.clearOne
  repeat' (first | with_reducible assumption | exact mask_sub hk rfl | with_reducible (first | apply kept_clearDenied | apply kept_clearMarks | apply Kept_ite) | split | intro _)

theorem kept_clearCheck {x0} (h0 : Kept g x0) (hk : 743405632 &&& g.mask = 743405632) : Kept g (State.clearCheck x0) := by
  unfold State.clearCheck
  repeat' (first
    | with_reducible assumption
    | with_reducible refine fun _ => ?_
    | ((try lift_lets); intro s; refine (have hs : Kept g s := ?_; ?_); subst s; rotate_left; clear_value s; rotate_left)
    | ((try lift_lets); first | (intro (x : Mram); subst x) | (intro (x : Compositor); subst x) | (intro (x : Store 32); subst x) | (intro (x : Store 8); subst x) | (intro (x : State × _); subst x) | (intro (x : _ × State); subst x) | (intro (x : _ × _ × State); subst x) | (intro (x : State → _); subst x) | (intro (x : _ → State → _); subst x) | (intro (x : _ → State); subst x) | (intro x; clear_value x))
    | (simp only [↓Kept_mk_iff]; refine And.intro ?_ (And.intro ?_ (And.intro ?_ (And.intro ?_ (And.intro ?_ (And.intro ?_ (And.intro ?_ (And.intro ?_ (And.intro ?_ ?_)))))))))
    | with_reducible (first | apply kept_clearOne | apply Kept_ite | apply Kept_foldl)
    | with_reducible (first | exact Kept_regs (by assumption) (by assumption) | exact Kept_ram (by assumption) (by assumption) | exact Kept_mram (by assumption) (by assumption) | exact Kept_flt (by assumption) (by assumption) | exact Kept_var (by assumption) | exact Kept_ev (by assumption) (by assumption) | exact Kept_has (by assumption) | exact Kept_out (by assumption) | exact Kept_ctr (by assumption) | exact watchE_none (by assumption))
    | (first | exact mask_sub hk rfl | exact hk)
    | with_reducible (first | refine Kept_snd (by assumption) ?_ | refine Kept_fst (by assumption) ?_)
    | with_reducible exact Kept_of_next (by assumption)
    | with_reducible (refine Kept_of_O (by assumption) ?_)
    | with_reducible (first | refine Kept_regs (g := g) ?_ (by assumption) | refine Kept_ram (g := g) ?_ (by assumption) | refine Kept_mram (g := g) ?_ (by assumption) | refine Kept_flt (g := g) ?_ (by assumption) | refine Kept_var ?_ | refine Kept_ev ?_ (by assumption) | refine Kept_has ?_ | refine Kept_out ?_ | refine Kept_ctr ?_)
    | dsimp -zeta only
    | split)

theorem kept_clearIn {x0 x1 x2 x3} (h0 : Kept g x0) (hk : 16777280 &&& g.mask = 16777280) : Kept g (State.clearIn x0 x1 x2 x3) := by
  unfold State.clearIn
  repeat' (first
    | with_reducible assumption
    | with_reducible refine fun _ => ?_
    | ((try lift_lets); intro s; refine (have hs : Kept g s := ?_; ?_); subst s; rotate_left; clear_value s; rotate_left)
    | ((try lift_lets); first | (intro (x : Mram); subst x) | (intro (x : Compositor); subst x) | (intro (x : Store 32); subst x) | (intro (x : Store 8); subst x) | (intro (x : State × _); subst x) | (intro (x : _ × State); subst x) | (intro (x : _ × _ × State); subst x) | (intro (x : State → _); subst x) | (intro (x : _ → State → _); subst x) | (intro (x : _ → State); subst x) | (intro x; clear_value x))
    | (simp only [↓Kept_mk_iff]; refine And.intro ?_ (And.intro ?_ (And.intro ?_ (And.intro ?_ (And.intro ?_ (And.intro ?_ (And.intro ?_ (And.intro ?_ (And.intro ?_ ?_)))))))))
    | with_reducible (first | apply kept_emit | apply kept_setB | apply kept_putAddr | apply Kept_ite)
    | with_reducible (first | exact Kept_regs (by assumption) (by assumption) | exact Kept_ram (by assumption) (by assumption) | exact Kept_mram (by assumption) (by assumption) | exact Kept_flt (by assumption) (by assumption) | exact Kept_var (by assumption) | exact Kept_ev (by assumption) (by assumption) | exact Kept_has (by assumption) | exact Kept_out (by assumption) | exact Kept_ctr (by assumption) | exact watchE_none (by assumption))
    | with_reducible refine Only_mk ?_ (.inr rfl) (.inr rfl) (.inr rfl) (.inr rfl) (.inr rfl) (.inr rfl) (.inr rfl) (.inr rfl) (.inr rfl) (.inr rfl) (.inr rfl) (.inr rfl) (.inr rfl) (.inr rfl) (.inr rfl) (.inr rfl) (.inr rfl) (.inr rfl) (.inr rfl) (.inr rfl) (.inr rfl) (.inl (mask_bit hk rfl)) (.inr rfl) (.inr rfl) (.inr rfl) (.inr rfl) (.inr rfl) (.inr rfl) (.inr rfl) (.inr rfl)
    | (first | exact mask_sub hk rfl | exact hk)
    | with_reducible (first | refine Kept_snd (by assumption) ?_ | refine Kept_fst (by assumption) ?_)
    | with_reducible exact Kept_of_next (by assumption)
    | with_reducible (refine Kept_of_O (by assumption) ?_)
    | with_reducible (first | refine Kept_regs (g := g) ?_ (by assumption) | refine Kept_ram (g := g) ?_ (by assumption) | refine Kept_mram (g := g) ?_ (by assumption) | refine Kept_flt (g := g) ?_ (by assumption) | refine Kept_var ?_ | refine Kept_ev ?_ (by assumption) | refine Kept_has ?_ | refine Kept_out ?_ | refine Kept_ctr ?_)
    | dsimp -zeta only
    | split)

theorem kept_clearKey {x0 x1} (h0 : Kept g x0) : Kept g (State.clearKey x0 x1) := by
  unfold State.clearKey
  repeat' (first | with_reducible assumption | with_reducible (first | apply kept_setF | apply Kept_ite) | split | intro _)

theorem kept_clearRead {x0 x1} (h0 : Kept g x0) (hk : 8192 &&& g.mask = 8192) : Kept g (State.clearRead x0 x1) := by
  unfold State.clearRead
  repeat' (first
    | with_reducible assumption
    | with_reducible refine fun _ => ?_
    | ((try lift_lets); intro s; refine (have hs : Kept g s := ?_; ?_); subst s; rotate_left; clear_value s; rotate_left)
    | ((try lift_lets); first | (intro (x : Mram); subst x) | (intro (x : Compositor); subst x) | (intro (x : Store 32); subst x) | (intro (x : Store 8); subst x) | (intro (x : State × _); subst x) | (intro (x : _ × State); subst x) | (intro (x : _ × _ × State); subst x) | (intro (x : State → _); subst x) | (intro (x : _ → State → _); subst x) | (intro (x : _ → State); subst x) | (intro x; clear_value x))
    | (simp only [↓Kept_mk_iff]; refine And.intro ?_ (And.intro ?_ (And.intro ?_ (And.intro ?_ (And.intro ?_ (And.intro ?_ (And.intro ?_ (And.intro ?_ (And.intro ?_ ?_)))))))))
    | with_reducible (first | apply kept_setReg | apply Kept_ite)
    | with_reducible (first | exact Kept_regs (by assumption) (by assumption) | exact Kept_ram (by assumption) (by assumption) | exact Kept_mram (by assumption) (by assumption) | exact Kept_flt (by assumption) (by assumption) | exact Kept_var (by assumption) | exact Kept_ev (by assumption) (by assumption) | exact Kept_has (by assumption) | exact Kept_out (by assumption) | exact Kept_ctr (by assumption) | exact watchE_none (by assumption))
    | with_reducible refine Only_mk ?_ (.inr rfl) (.inr rfl) (.inr rfl) (.inr rfl) (.inr rfl) (.inr rfl) (.inr rfl) (.inr rfl) (.inr rfl) (.inr rfl) (.inl (mask_bit hk rfl)) (.inr rfl) (.inr rfl) (.inr rfl) (.inr rfl) (.inr rfl) (.inr rfl) (.inr rfl) (.inr rfl) (.inr rfl) (.inr rfl) (.inr rfl) (.inr rfl) (.inr rfl) (.inr rfl) (.inr rfl) (.inr rfl) (.inr rfl) (.inr rfl) (.inr rfl)
    | (first | exact mask_sub hk rfl | exact hk)
    | with_reducible (first | refine Kept_snd (by assumption) ?_ | refine Kept_fst (by assumption) ?_)
    | with_reducible exact Kept_of_next (by assumption)
    | with_reducible (refine Kept_of_O (by assumption) ?_)
    | with_reducible (first | refine Kept_regs (g := g) ?_ (by assumption) | refine Kept_ram (g := g) ?_ (by assumption) | refine Kept_mram (g := g) ?_ (by assumption) | refine Kept_flt (g := g) ?_ (by assumption) | refine Kept_var ?_ | refine Kept_ev ?_ (by assumption) | refine Kept_has ?_ | refine Kept_out ?_ | refine Kept_ctr ?_)
    | dsimp -zeta only
    | split)

theorem kept_closeSession {x0 x1} (h0 : Kept g x0) (hk : 2147483648 &&& g.mask = 2147483648) : Kept g (State.closeSession x0 x1) := by
  unfold State.closeSession
  repeat' (first
    | with_reducible assumption
    | with_reducible refine fun _ => ?_
    | ((try lift_lets); intro s; refine (have hs : Kept g s := ?_; ?_); subst s; rotate_left; clear_value s; rotate_left)
    | ((try lift_lets); first | (intro (x : Mram); subst x) | (intro (x : Compositor); subst x) | (intro (x : Store 32); subst x) | (intro (x : Store 8); subst x) | (intro (x : State × _); subst x) | (intro (x : _ × State); subst x) | (intro (x : _ × _ × State); subst x) | (intro (x : State → _); subst x) | (intro (x : _ → State → _); subst x) | (intro (x : _ → State); subst x) | (intro x; clear_value x))
    | (simp only [↓Kept_mk_iff]; refine And.intro ?_ (And.intro ?_ (And.intro ?_ (And.intro ?_ (And.intro ?_ (And.intro ?_ (And.intro ?_ (And.intro ?_ (And.intro ?_ ?_)))))))))
    | with_reducible (first | apply kept_raise | apply Kept_ite | apply filter_wf | apply evOk_filter)
    | with_reducible (first | exact Kept_regs (by assumption) (by assumption) | exact Kept_ram (by assumption) (by assumption) | exact Kept_mram (by assumption) (by assumption) | exact Kept_flt (by assumption) (by assumption) | exact Kept_var (by assumption) | exact Kept_ev (by assumption) (by assumption) | exact Kept_has (by assumption) | exact Kept_out (by assumption) | exact Kept_ctr (by assumption) | exact watchE_none (by assumption))
    | with_reducible refine Only_mk ?_ (.inr rfl) (.inr rfl) (.inr rfl) (.inr rfl) (.inr rfl) (.inr rfl) (.inr rfl) (.inr rfl) (.inr rfl) (.inr rfl) (.inr rfl) (.inr rfl) (.inr rfl) (.inr rfl) (.inr rfl) (.inr rfl) (.inr rfl) (.inr rfl) (.inr rfl) (.inr rfl) (.inr rfl) (.inr rfl) (.inr rfl) (.inr rfl) (.inr rfl) (.inr rfl) (.inr rfl) (.inr rfl) (.inl (mask_bit hk rfl)) (.inr rfl)
    | (first | exact mask_sub hk rfl | exact hk)
    | with_reducible (first | refine Kept_snd (by assumption) ?_ | refine Kept_fst (by assumption) ?_)
    | with_reducible exact Kept_of_next (by assumption)
    | with_reducible (refine Kept_of_O (by assumption) ?_)
    | with_reducible (first | refine Kept_regs (g := g) ?_ (by assumption) | refine Kept_ram (g := g) ?_ (by assumption) | refine Kept_mram (g := g) ?_ (by assumption) | refine Kept_flt (g := g) ?_ (by assumption) | refine Kept_var ?_ | refine Kept_ev ?_ (by assumption) | refine Kept_has ?_ | refine Kept_out ?_ | refine Kept_ctr ?_)
    | dsimp -zeta only
    | split)

theorem kept_fwdFlush {x0 x1} (h1 : Kept g x1) (hk : 541065216 &&& g.mask = 541065216) : Kept g (State.fwdFlush x0 x1) := by
  induction x0 generalizing x1 with
  | zero => exact h1
  | succ a ih =>
    unfold State.fwdFlush
    repeat' (first
      | with_reducible assumption
      | with_reducible refine fun _ => ?_
      | ((try lift_lets); intro s; refine (have hs : Kept g s := ?_; ?_); subst s; rotate_left; clear_value s; rotate_left)
      | ((try lift_lets); first | (intro (x : Mram); subst x) | (intro (x : Compositor); subst x) | (intro (x : Store 32); subst x) | (intro (x : Store 8); subst x) | (intro (x : State × _); subst x) | (intro (x : _ × State); subst x) | (intro (x : _ × _ × State); subst x) | (intro (x : State → _); subst x) | (intro (x : _ → State → _); subst x) | (intro (x : _ → State); subst x) | (intro x; clear_value x))
      | (simp only [↓Kept_mk_iff]; refine And.intro ?_ (And.intro ?_ (And.intro ?_ (And.intro ?_ (And.intro ?_ (And.intro ?_ (And.intro ?_ (And.intro ?_ (And.intro ?_ ?_)))))))))
      | with_reducible (first | apply ih | apply kept_plnkQueue | apply Kept_ite)
      | with_reducible (first | exact Kept_regs (by assumption) (by assumption) | exact Kept_ram (by assumption) (by assumption) | exact Kept_mram (by assumption) (by assumption) | exact Kept_flt (by assumption) (by assumption) | exact Kept_var (by assumption) | exact Kept_ev (by assumption) (by assumption) | exact Kept_has (by assumption) | exact Kept_out (by assumption) | exact Kept_ctr (by assumption) | exact watchE_none (by assumption))
      | with_reducible refine Only_mk ?_ (.inr rfl) (.inr rfl) (.inr rfl) (.inr rfl) (.inr rfl) (.inr rfl) (.inr rfl) (.inr rfl) (.inr rfl) (.inr rfl) (.inr rfl) (.inr rfl) (.inr rfl) (.inr rfl) (.inr rfl) (.inr rfl) (.inr rfl) (.inr rfl) (.inr rfl) (.inl (mask_bit hk rfl)) (.inr rfl) (.inr rfl) (.inr rfl) (.inr rfl) (.inr rfl) (.inr rfl) (.inr rfl) (.inr rfl) (.inr rfl) (.inr rfl)
      | (first | exact mask_sub hk rfl | exact hk)
      | with_reducible (first | refine Kept_snd (by assumption) ?_ | refine Kept_fst (by assumption) ?_)
      | with_reducible exact Kept_of_next (by assumption)
      | with_reducible (refine Kept_of_O (by assumption) ?_)
      | with_reducible (first | refine Kept_regs (g := g) ?_ (by assumption) | refine Kept_ram (g := g) ?_ (by assumption) | refine Kept_mram (g := g) ?_ (by assumption) | refine Kept_flt (g := g) ?_ (by assumption) | refine Kept_var ?_ | refine Kept_ev ?_ (by assumption) | refine Kept_has ?_ | refine Kept_out ?_ | refine Kept_ctr ?_)
      | dsimp -zeta only
      | split)

theorem kept_fwdBytes {x0 x1 x2} (h0 : Kept g x0) (hk : 541065216 &&& g.mask = 541065216) : Kept g (State.fwdBytes x0 x1 x2) := by
  unfold State.fwdBytes
  repeat' (first
    | with_reducible assumption
    | with_reducible refine fun _ => ?_
    | ((try lift_lets); intro s; refine (have hs : Kept g s := ?_; ?_); subst s; rotate_left; clear_value s; rotate_left)
    | ((try lift_lets); first | (intro (x : Mram); subst x) | (intro (x : Compositor); subst x) | (intro (x : Store 32); subst x) | (intro (x : Store 8); subst x) | (intro (x : State × _); subst x) | (intro (x : _ × State); subst x) | (intro (x : _ × _ × State); subst x) | (intro (x : State → _); subst x) | (intro (x : _ → State → _); subst x) | (intro (x : _ → State); subst x) | (intro x; clear_value x))
    | (simp only [↓Kept_mk_iff]; refine And.intro ?_ (And.intro ?_ (And.intro ?_ (And.intro ?_ (And.intro ?_ (And.intro ?_ (And.intro ?_ (And.intro ?_ (And.intro ?_ ?_)))))))))
    | with_reducible (first | apply kept_fwdFlush | apply kept_plnkQueue | apply Kept_ite)
    | with_reducible (first | exact Kept_regs (by assumption) (by assumption) | exact Kept_ram (by assumption) (by assumption) | exact Kept_mram (by assumption) (by assumption) | exact Kept_flt (by assumption) (by assumption) | exact Kept_var (by assumption) | exact Kept_ev (by assumption) (by assumption) | exact Kept_has (by assumption) | exact Kept_out (by assumption) | exact Kept_ctr (by assumption) | exact watchE_none (by assumption))
    | with_reducible refine Only_mk ?_ (.inr rfl) (.inr rfl) (.inr rfl) (.inr rfl) (.inr rfl) (.inr rfl) (.inr rfl) (.inr rfl) (.inr rfl) (.inr rfl) (.inr rfl) (.inr rfl) (.inr rfl) (.inr rfl) (.inr rfl) (.inr rfl) (.inr rfl) (.inr rfl) (.inr rfl) (.inl (mask_bit hk rfl)) (.inr rfl) (.inr rfl) (.inr rfl) (.inr rfl) (.inr rfl) (.inr rfl) (.inr rfl) (.inr rfl) (.inr rfl) (.inr rfl)
    | (first | exact mask_sub hk rfl | exact hk)
    | with_reducible (first | refine Kept_snd (by assumption) ?_ | refine Kept_fst (by assumption) ?_)
    | with_reducible exact Kept_of_next (by assumption)
    | with_reducible (refine Kept_of_O (by assumption) ?_)
    | with_reducible (first | refine Kept_regs (g := g) ?_ (by assumption) | refine Kept_ram (g := g) ?_ (by assumption) | refine Kept_mram (g := g) ?_ (by assumption) | refine Kept_flt (g := g) ?_ (by assumption) | refine Kept_var ?_ | refine Kept_ev ?_ (by assumption) | refine Kept_has ?_ | refine Kept_out ?_ | refine Kept_ctr ?_)
    | dsimp -zeta only
    | split)

theorem kept_cmdSeen {x0 x1} (h0 : Kept g x0) (hk : 541065216 &&& g.mask = 541065216) : Kept g (State.cmdSeen x0 x1) := by
  unfold State.cmdSeen
  repeat' (first | with_reducible assumption | exact mask_sub hk rfl | with_reducible (first | apply kept_frameIn | apply kept_fwdBytes | apply Kept_ite) | split | intro _)

theorem kept_codeErr {x0 x1 x2} (h0 : Kept g x0) : Kept g (State.codeErr x0 x1 x2) := by
  unfold State.codeErr
  repeat' (first | with_reducible assumption | with_reducible (first | apply kept_chainErr | apply Kept_ite) | split | intro _)

theorem kept_collectOut {x0 x1 x2 x3 x4 x5 x6} (h0 : Kept g x0) : Kept g (State.collectOut x0 x1 x2 x3 x4 x5 x6) := by
  unfold State.collectOut
  repeat' (first | with_reducible assumption | with_reducible (first | apply kept_frameOut | apply Kept_ite) | split | intro _)

theorem kept_collectSweep {x0 x1 x2 x3 x4} (h0 : Kept g x0) : Kept g (State.collectSweep x0 x1 x2 x3 x4) := by
  unfold State.collectSweep
  repeat' (first | with_reducible assumption | with_reducible (first | apply kept_collectOut | apply Kept_ite) | split | intro _)

theorem kept_commitRecord {x0} (h0 : Kept g x0) (hk : 1024 &&& g.mask = 1024) : Kept g (State.commitRecord x0) := by
  unfold State.commitRecord
  repeat' (first
    | with_reducible assumption
    | with_reducible refine fun _ => ?_
    | ((try lift_lets); intro s; refine (have hs : Kept g s := ?_; ?_); subst s; rotate_left; clear_value s; rotate_left)
    | ((try lift_lets); first | (intro (x : Mram); subst x) | (intro (x : Compositor); subst x) | (intro (x : Store 32); subst x) | (intro (x : Store 8); subst x) | (intro (x : State × _); subst x) | (intro (x : _ × State); subst x) | (intro (x : _ × _ × State); subst x) | (intro (x : State → _); subst x) | (intro (x : _ → State → _); subst x) | (intro (x : _ → State); subst x) | (intro x; clear_value x))
    | (simp only [↓Kept_mk_iff]; refine And.intro ?_ (And.intro ?_ (And.intro ?_ (And.intro ?_ (And.intro ?_ (And.intro ?_ (And.intro ?_ (And.intro ?_ (And.intro ?_ ?_)))))))))
    | with_reducible (first | apply kept_raise | apply Kept_ite)
    | with_reducible (first | exact Kept_regs (by assumption) (by assumption) | exact Kept_ram (by assumption) (by assumption) | exact Kept_mram (by assumption) (by assumption) | exact Kept_flt (by assumption) (by assumption) | exact Kept_var (by assumption) | exact Kept_ev (by assumption) (by assumption) | exact Kept_has (by assumption) | exact Kept_out (by assumption) | exact Kept_ctr (by assumption) | exact watchE_none (by assumption))
    | with_reducible refine Only_mk ?_ (.inr rfl) (.inr rfl) (.inr rfl) (.inr rfl) (.inr rfl) (.inr rfl) (.inr rfl) (.inl (mask_bit hk rfl)) (.inr rfl) (.inr rfl) (.inr rfl) (.inr rfl) (.inr rfl) (.inr rfl) (.inr rfl) (.inr rfl) (.inr rfl) (.inr rfl) (.inr rfl) (.inr rfl) (.inr rfl) (.inr rfl) (.inr rfl) (.inr rfl) (.inr rfl) (.inr rfl) (.inr rfl) (.inr rfl) (.inr rfl) (.inr rfl)
    | (first | exact mask_sub hk rfl | exact hk)
    | with_reducible (first | refine Kept_snd (by assumption) ?_ | refine Kept_fst (by assumption) ?_)
    | with_reducible exact Kept_of_next (by assumption)
    | with_reducible (refine Kept_of_O (by assumption) ?_)
    | with_reducible (first | refine Kept_regs (g := g) ?_ (by assumption) | refine Kept_ram (g := g) ?_ (by assumption) | refine Kept_mram (g := g) ?_ (by assumption) | refine Kept_flt (g := g) ?_ (by assumption) | refine Kept_var ?_ | refine Kept_ev ?_ (by assumption) | refine Kept_has ?_ | refine Kept_out ?_ | refine Kept_ctr ?_)
    | dsimp -zeta only
    | split)

theorem kept_compatCtl {x0 x1} (h0 : Kept g x0) (hk : 256 &&& g.mask = 256) : Kept g (State.compatCtl x0 x1) := by
  unfold State.compatCtl
  repeat' (first
    | with_reducible assumption
    | with_reducible refine fun _ => ?_
    | ((try lift_lets); intro s; refine (have hs : Kept g s := ?_; ?_); subst s; rotate_left; clear_value s; rotate_left)
    | ((try lift_lets); first | (intro (x : Mram); subst x) | (intro (x : Compositor); subst x) | (intro (x : Store 32); subst x) | (intro (x : Store 8); subst x) | (intro (x : State × _); subst x) | (intro (x : _ × State); subst x) | (intro (x : _ × _ × State); subst x) | (intro (x : State → _); subst x) | (intro (x : _ → State → _); subst x) | (intro (x : _ → State); subst x) | (intro x; clear_value x))
    | (simp only [↓Kept_mk_iff]; refine And.intro ?_ (And.intro ?_ (And.intro ?_ (And.intro ?_ (And.intro ?_ (And.intro ?_ (And.intro ?_ (And.intro ?_ (And.intro ?_ ?_)))))))))
    | with_reducible (first | apply Kept_ite)
    | with_reducible (first | exact Kept_regs (by assumption) (by assumption) | exact Kept_ram (by assumption) (by assumption) | exact Kept_mram (by assumption) (by assumption) | exact Kept_flt (by assumption) (by assumption) | exact Kept_var (by assumption) | exact Kept_ev (by assumption) (by assumption) | exact Kept_has (by assumption) | exact Kept_out (by assumption) | exact Kept_ctr (by assumption) | exact watchE_none (by assumption))
    | with_reducible refine Only_mk ?_ (.inr rfl) (.inr rfl) (.inr rfl) (.inr rfl) (.inr rfl) (.inr rfl) (.inl (mask_bit hk rfl)) (.inr rfl) (.inr rfl) (.inr rfl) (.inr rfl) (.inr rfl) (.inr rfl) (.inr rfl) (.inr rfl) (.inr rfl) (.inr rfl) (.inr rfl) (.inr rfl) (.inr rfl) (.inr rfl) (.inr rfl) (.inr rfl) (.inr rfl) (.inr rfl) (.inr rfl) (.inr rfl) (.inr rfl) (.inr rfl) (.inr rfl)
    | (first | exact mask_sub hk rfl | exact hk)
    | with_reducible (first | refine Kept_snd (by assumption) ?_ | refine Kept_fst (by assumption) ?_)
    | with_reducible exact Kept_of_next (by assumption)
    | with_reducible (refine Kept_of_O (by assumption) ?_)
    | with_reducible (first | refine Kept_regs (g := g) ?_ (by assumption) | refine Kept_ram (g := g) ?_ (by assumption) | refine Kept_mram (g := g) ?_ (by assumption) | refine Kept_flt (g := g) ?_ (by assumption) | refine Kept_var ?_ | refine Kept_ev ?_ (by assumption) | refine Kept_has ?_ | refine Kept_out ?_ | refine Kept_ctr ?_)
    | dsimp -zeta only
    | split)

theorem kept_compatLoad {x0 x1} (h0 : Kept g x0) (hk : 256 &&& g.mask = 256) : Kept g (State.compatLoad x0 x1) := by
  unfold State.compatLoad
  repeat' (first
    | with_reducible assumption
    | with_reducible refine fun _ => ?_
    | ((try lift_lets); intro s; refine (have hs : Kept g s := ?_; ?_); subst s; rotate_left; clear_value s; rotate_left)
    | ((try lift_lets); first | (intro (x : Mram); subst x) | (intro (x : Compositor); subst x) | (intro (x : Store 32); subst x) | (intro (x : Store 8); subst x) | (intro (x : State × _); subst x) | (intro (x : _ × State); subst x) | (intro (x : _ × _ × State); subst x) | (intro (x : State → _); subst x) | (intro (x : _ → State → _); subst x) | (intro (x : _ → State); subst x) | (intro x; clear_value x))
    | (simp only [↓Kept_mk_iff]; refine And.intro ?_ (And.intro ?_ (And.intro ?_ (And.intro ?_ (And.intro ?_ (And.intro ?_ (And.intro ?_ (And.intro ?_ (And.intro ?_ ?_)))))))))
    | with_reducible (first | apply Kept_ite)
    | with_reducible (first | exact Kept_regs (by assumption) (by assumption) | exact Kept_ram (by assumption) (by assumption) | exact Kept_mram (by assumption) (by assumption) | exact Kept_flt (by assumption) (by assumption) | exact Kept_var (by assumption) | exact Kept_ev (by assumption) (by assumption) | exact Kept_has (by assumption) | exact Kept_out (by assumption) | exact Kept_ctr (by assumption) | exact watchE_none (by assumption))
    | with_reducible refine Only_mk ?_ (.inr rfl) (.inr rfl) (.inr rfl) (.inr rfl) (.inr rfl) (.inr rfl) (.inl (mask_bit hk rfl)) (.inr rfl) (.inr rfl) (.inr rfl) (.inr rfl) (.inr rfl) (.inr rfl) (.inr rfl) (.inr rfl) (.inr rfl) (.inr rfl) (.inr rfl) (.inr rfl) (.inr rfl) (.inr rfl) (.inr rfl) (.inr rfl) (.inr rfl) (.inr rfl) (.inr rfl) (.inr rfl) (.inr rfl) (.inr rfl) (.inr rfl)
    | (first | exact mask_sub hk rfl | exact hk)
    | with_reducible (first | refine Kept_snd (by assumption) ?_ | refine Kept_fst (by assumption) ?_)
    | with_reducible exact Kept_of_next (by assumption)
    | with_reducible (refine Kept_of_O (by assumption) ?_)
    | with_reducible (first | refine Kept_regs (g := g) ?_ (by assumption) | refine Kept_ram (g := g) ?_ (by assumption) | refine Kept_mram (g := g) ?_ (by assumption) | refine Kept_flt (g := g) ?_ (by assumption) | refine Kept_var ?_ | refine Kept_ev ?_ (by assumption) | refine Kept_has ?_ | refine Kept_out ?_ | refine Kept_ctr ?_)
    | dsimp -zeta only
    | split)

theorem kept_seqPull {x0 x1} (h0 : Kept g x0) (hk : 65536 &&& g.mask = 65536) : Kept g (State.seqPull x0 x1) := by
  unfold State.seqPull
  repeat' (first
    | with_reducible assumption
    | with_reducible refine fun _ => ?_
    | ((try lift_lets); intro s; refine (have hs : Kept g s := ?_; ?_); subst s; rotate_left; clear_value s; rotate_left)
    | ((try lift_lets); first | (intro (x : Mram); subst x) | (intro (x : Compositor); subst x) | (intro (x : Store 32); subst x) | (intro (x : Store 8); subst x) | (intro (x : State × _); subst x) | (intro (x : _ × State); subst x) | (intro (x : _ × _ × State); subst x) | (intro (x : State → _); subst x) | (intro (x : _ → State → _); subst x) | (intro (x : _ → State); subst x) | (intro x; clear_value x))
    | (simp only [↓Kept_mk_iff]; refine And.intro ?_ (And.intro ?_ (And.intro ?_ (And.intro ?_ (And.intro ?_ (And.intro ?_ (And.intro ?_ (And.intro ?_ (And.intro ?_ ?_)))))))))
    | with_reducible (first | apply kept_emit | apply kept_setB | apply Kept_ite)
    | with_reducible (first | exact Kept_regs (by assumption) (by assumption) | exact Kept_ram (by assumption) (by assumption) | exact Kept_mram (by assumption) (by assumption) | exact Kept_flt (by assumption) (by assumption) | exact Kept_var (by assumption) | exact Kept_ev (by assumption) (by assumption) | exact Kept_has (by assumption) | exact Kept_out (by assumption) | exact Kept_ctr (by assumption) | exact watchE_none (by assumption))
    | with_reducible refine Only_mk ?_ (.inr rfl) (.inr rfl) (.inr rfl) (.inr rfl) (.inr rfl) (.inr rfl) (.inr rfl) (.inr rfl) (.inr rfl) (.inr rfl) (.inr rfl) (.inr rfl) (.inr rfl) (.inl (mask_bit hk rfl)) (.inr rfl) (.inr rfl) (.inr rfl) (.inr rfl) (.inr rfl) (.inr rfl) (.inr rfl) (.inr rfl) (.inr rfl) (.inr rfl) (.inr rfl) (.inr rfl) (.inr rfl) (.inr rfl) (.inr rfl) (.inr rfl)
    | (first | exact mask_sub hk rfl | exact hk)
    | with_reducible (first | refine Kept_snd (by assumption) ?_ | refine Kept_fst (by assumption) ?_)
    | with_reducible exact Kept_of_next (by assumption)
    | with_reducible (refine Kept_of_O (by assumption) ?_)
    | with_reducible (first | refine Kept_regs (g := g) ?_ (by assumption) | refine Kept_ram (g := g) ?_ (by assumption) | refine Kept_mram (g := g) ?_ (by assumption) | refine Kept_flt (g := g) ?_ (by assumption) | refine Kept_var ?_ | refine Kept_ev ?_ (by assumption) | refine Kept_has ?_ | refine Kept_out ?_ | refine Kept_ctr ?_)
    | dsimp -zeta only
    | split)

theorem kept_galPhase {x0 x1 x2} (h0 : Kept g x0) (hk : 2048 &&& g.mask = 2048) : Kept g (State.galPhase x0 x1 x2) := by
  unfold State.galPhase
  repeat' (first | with_reducible assumption | exact mask_sub hk rfl | with_reducible (first | apply kept_galUpdate | apply Kept_ite) | split | intro _)

theorem kept_seqFail {x0 x1} (h0 : Kept g x0) (hk : 741308480 &&& g.mask = 741308480) : Kept g (State.seqFail x0 x1) := by
  unfold State.seqFail
  repeat' (first | with_reducible assumption | exact mask_sub hk rfl | with_reducible (first | apply kept_progress | apply kept_cutTransition | apply Kept_ite) | split | intro _)

theorem kept_seqStep2 {x0} (h0 : Kept g x0) (hk : 741308480 &&& g.mask = 741308480) : Kept g (State.seqStep2 x0) := by
  unfold State.seqStep2
  repeat' (first | with_reducible assumption | exact mask_sub hk rfl | with_reducible (first | apply kept_galPhase | apply kept_setF | apply kept_setCmd | apply kept_seqFail | apply Kept_ite) | split | intro _)

theorem kept_seqStart {x0} (h0 : Kept g x0) (hk : 741308480 &&& g.mask = 741308480) : Kept g (State.seqStart x0) := by
  unfold State.seqStart
  repeat' (first
    | with_reducible assumption
    | with_reducible refine fun _ => ?_
    | ((try lift_lets); intro s; refine (have hs : Kept g s := ?_; ?_); subst s; rotate_left; clear_value s; rotate_left)
    | ((try lift_lets); first | (intro (x : Mram); subst x) | (intro (x : Compositor); subst x) | (intro (x : Store 32); subst x) | (intro (x : Store 8); subst x) | (intro (x : State × _); subst x) | (intro (x : _ × State); subst x) | (intro (x : _ × _ × State); subst x) | (intro (x : State → _); subst x) | (intro (x : _ → State → _); subst x) | (intro (x : _ → State); subst x) | (intro x; clear_value x))
    | (simp only [↓Kept_mk_iff]; refine And.intro ?_ (And.intro ?_ (And.intro ?_ (And.intro ?_ (And.intro ?_ (And.intro ?_ (And.intro ?_ (And.intro ?_ (And.intro ?_ ?_)))))))))
    | with_reducible (first | apply kept_setF | apply kept_galOpen | apply kept_seqPull | apply kept_seqStep2 | apply Kept_ite)
    | with_reducible (first | exact Kept_regs (by assumption) (by assumption) | exact Kept_ram (by assumption) (by assumption) | exact Kept_mram (by assumption) (by assumption) | exact Kept_flt (by assumption) (by assumption) | exact Kept_var (by assumption) | exact Kept_ev (by assumption) (by assumption) | exact Kept_has (by assumption) | exact Kept_out (by assumption) | exact Kept_ctr (by assumption) | exact watchE_none (by assumption))
    | with_reducible refine Only_mk ?_ (.inr rfl) (.inr rfl) (.inr rfl) (.inr rfl) (.inr rfl) (.inr rfl) (.inr rfl) (.inr rfl) (.inr rfl) (.inr rfl) (.inr rfl) (.inr rfl) (.inr rfl) (.inl (mask_bit hk rfl)) (.inr rfl) (.inr rfl) (.inr rfl) (.inr rfl) (.inr rfl) (.inr rfl) (.inr rfl) (.inr rfl) (.inr rfl) (.inr rfl) (.inr rfl) (.inr rfl) (.inr rfl) (.inr rfl) (.inr rfl) (.inr rfl)
    | (first | exact mask_sub hk rfl | exact hk)
    | with_reducible (first | refine Kept_snd (by assumption) ?_ | refine Kept_fst (by assumption) ?_)
    | with_reducible exact Kept_of_next (by assumption)
    | with_reducible (refine Kept_of_O (by assumption) ?_)
    | with_reducible (first | refine Kept_regs (g := g) ?_ (by assumption) | refine Kept_ram (g := g) ?_ (by assumption) | refine Kept_mram (g := g) ?_ (by assumption) | refine Kept_flt (g := g) ?_ (by assumption) | refine Kept_var ?_ | refine Kept_ev ?_ (by assumption) | refine Kept_has ?_ | refine Kept_out ?_ | refine Kept_ctr ?_)
    | dsimp -zeta only
    | split)

theorem kept_seqTry {x0} (h0 : Kept g x0) (hk : 741308480 &&& g.mask = 741308480) : Kept g (State.seqTry x0) := by
  unfold State.seqTry
  repeat' (first | with_reducible assumption | exact mask_sub hk rfl | with_reducible (first | apply kept_seqStart | apply Kept_ite) | split | intro _)

theorem kept_report {x0 x1 x2 x3 x4} (h0 : Kept g x0) : Kept g (State.report x0 x1 x2 x3 x4) := by
  unfold State.report
  repeat' (first | with_reducible assumption | with_reducible (first | apply kept_setReg | apply kept_raise | apply kept_wrapReg | apply Kept_ite) | split | intro _)

theorem kept_rejectLate {x0 x1} (h0 : Kept g x0) (hk : 68122688 &&& g.mask = 68122688) : Kept g (State.rejectLate x0 x1) := by
  unfold State.rejectLate
  repeat' (first | with_reducible assumption | exact mask_sub hk rfl | with_reducible (first | apply kept_abortTransition | apply kept_setFunc | apply kept_report | apply Kept_ite) | split | intro _)

theorem kept_connectAck {x0 x1} (h0 : Kept g x0) (hk : 741308480 &&& g.mask = 741308480) : Kept g (State.connectAck x0 x1) := by
  unfold State.connectAck
  repeat' (first
    | with_reducible assumption
    | with_reducible refine fun _ => ?_
    | ((try lift_lets); intro s; refine (have hs : Kept g s := ?_; ?_); subst s; rotate_left; clear_value s; rotate_left)
    | ((try lift_lets); first | (intro (x : Mram); subst x) | (intro (x : Compositor); subst x) | (intro (x : Store 32); subst x) | (intro (x : Store 8); subst x) | (intro (x : State × _); subst x) | (intro (x : _ × State); subst x) | (intro (x : _ × _ × State); subst x) | (intro (x : State → _); subst x) | (intro (x : _ → State → _); subst x) | (intro (x : _ → State); subst x) | (intro x; clear_value x))
    | (simp only [↓Kept_mk_iff]; refine And.intro ?_ (And.intro ?_ (And.intro ?_ (And.intro ?_ (And.intro ?_ (And.intro ?_ (And.intro ?_ (And.intro ?_ (And.intro ?_ ?_)))))))))
    | with_reducible (first | apply kept_seqTry | apply kept_rejectLate | apply Kept_ite)
    | with_reducible (first | exact Kept_regs (by assumption) (by assumption) | exact Kept_ram (by assumption) (by assumption) | exact Kept_mram (by assumption) (by assumption) | exact Kept_flt (by assumption) (by assumption) | exact Kept_var (by assumption) | exact Kept_ev (by assumption) (by assumption) | exact Kept_has (by assumption) | exact Kept_out (by assumption) | exact Kept_ctr (by assumption) | exact watchE_none (by assumption))
    | with_reducible refine Only_mk ?_ (.inr rfl) (.inr rfl) (.inr rfl) (.inr rfl) (.inr rfl) (.inr rfl) (.inr rfl) (.inr rfl) (.inr rfl) (.inl (mask_bit hk rfl)) (.inr rfl) (.inr rfl) (.inr rfl) (.inr rfl) (.inr rfl) (.inr rfl) (.inr rfl) (.inr rfl) (.inr rfl) (.inr rfl) (.inr rfl) (.inr rfl) (.inr rfl) (.inr rfl) (.inr rfl) (.inr rfl) (.inr rfl) (.inr rfl) (.inr rfl) (.inr rfl)
    | (first | exact mask_sub hk rfl | exact hk)
    | with_reducible (first | refine Kept_snd (by assumption) ?_ | refine Kept_fst (by assumption) ?_)
    | with_reducible exact Kept_of_next (by assumption)
    | with_reducible (refine Kept_of_O (by assumption) ?_)
    | with_reducible (first | refine Kept_regs (g := g) ?_ (by assumption) | refine Kept_ram (g := g) ?_ (by assumption) | refine Kept_mram (g := g) ?_ (by assumption) | refine Kept_flt (g := g) ?_ (by assumption) | refine Kept_var ?_ | refine Kept_ev ?_ (by assumption) | refine Kept_has ?_ | refine Kept_out ?_ | refine Kept_ctr ?_)
    | dsimp -zeta only
    | split)

theorem kept_cursorWrite {x0 x1} (h0 : Kept g x0) (hk : 1024 &&& g.mask = 1024) : Kept g (State.cursorWrite x0 x1) := by
  unfold State.cursorWrite
  repeat' (first
    | with_reducible assumption
    | with_reducible refine fun _ => ?_
    | ((try lift_lets); intro s; refine (have hs : Kept g s := ?_; ?_); subst s; rotate_left; clear_value s; rotate_left)
    | ((try lift_lets); first | (intro (x : Mram); subst x) | (intro (x : Compositor); subst x) | (intro (x : Store 32); subst x) | (intro (x : Store 8); subst x) | (intro (x : State × _); subst x) | (intro (x : _ × State); subst x) | (intro (x : _ × _ × State); subst x) | (intro (x : State → _); subst x) | (intro (x : _ → State → _); subst x) | (intro (x : _ → State); subst x) | (intro x; clear_value x))
    | (simp only [↓Kept_mk_iff]; refine And.intro ?_ (And.intro ?_ (And.intro ?_ (And.intro ?_ (And.intro ?_ (And.intro ?_ (And.intro ?_ (And.intro ?_ (And.intro ?_ ?_)))))))))
    | with_reducible (first | apply kept_setReg | apply Kept_ite)
    | with_reducible (first | exact Kept_regs (by assumption) (by assumption) | exact Kept_ram (by assumption) (by assumption) | exact Kept_mram (by assumption) (by assumption) | exact Kept_flt (by assumption) (by assumption) | exact Kept_var (by assumption) | exact Kept_ev (by assumption) (by assumption) | exact Kept_has (by assumption) | exact Kept_out (by assumption) | exact Kept_ctr (by assumption) | exact watchE_none (by assumption))
    | with_reducible refine Only_mk ?_ (.inr rfl) (.inr rfl) (.inr rfl) (.inr rfl) (.inr rfl) (.inr rfl) (.inr rfl) (.inl (mask_bit hk rfl)) (.inr rfl) (.inr rfl) (.inr rfl) (.inr rfl) (.inr rfl) (.inr rfl) (.inr rfl) (.inr rfl) (.inr rfl) (.inr rfl) (.inr rfl) (.inr rfl) (.inr rfl) (.inr rfl) (.inr rfl) (.inr rfl) (.inr rfl) (.inr rfl) (.inr rfl) (.inr rfl) (.inr rfl) (.inr rfl)
    | (first | exact mask_sub hk rfl | exact hk)
    | with_reducible (first | refine Kept_snd (by assumption) ?_ | refine Kept_fst (by assumption) ?_)
    | with_reducible exact Kept_of_next (by assumption)
    | with_reducible (refine Kept_of_O (by assumption) ?_)
    | with_reducible (first | refine Kept_regs (g := g) ?_ (by assumption) | refine Kept_ram (g := g) ?_ (by assumption) | refine Kept_mram (g := g) ?_ (by assumption) | refine Kept_flt (g := g) ?_ (by assumption) | refine Kept_var ?_ | refine Kept_ev ?_ (by assumption) | refine Kept_has ?_ | refine Kept_out ?_ | refine Kept_ctr ?_)
    | dsimp -zeta only
    | split)

theorem kept_cycAsk {x0 x1 x2} (h0 : Kept g x0) (hk : 67108864 &&& g.mask = 67108864) : Kept g (State.cycAsk x0 x1 x2) := by
  unfold State.cycAsk
  repeat' (first
    | with_reducible assumption
    | with_reducible refine fun _ => ?_
    | ((try lift_lets); intro s; refine (have hs : Kept g s := ?_; ?_); subst s; rotate_left; clear_value s; rotate_left)
    | ((try lift_lets); first | (intro (x : Mram); subst x) | (intro (x : Compositor); subst x) | (intro (x : Store 32); subst x) | (intro (x : Store 8); subst x) | (intro (x : State × _); subst x) | (intro (x : _ × State); subst x) | (intro (x : _ × _ × State); subst x) | (intro (x : State → _); subst x) | (intro (x : _ → State → _); subst x) | (intro (x : _ → State); subst x) | (intro x; clear_value x))
    | (simp only [↓Kept_mk_iff]; refine And.intro ?_ (And.intro ?_ (And.intro ?_ (And.intro ?_ (And.intro ?_ (And.intro ?_ (And.intro ?_ (And.intro ?_ (And.intro ?_ ?_)))))))))
    | with_reducible (first | apply kept_raiseInt | apply Kept_ite)
    | with_reducible (first | exact Kept_regs (by assumption) (by assumption) | exact Kept_ram (by assumption) (by assumption) | exact Kept_mram (by assumption) (by assumption) | exact Kept_flt (by assumption) (by assumption) | exact Kept_var (by assumption) | exact Kept_ev (by assumption) (by assumption) | exact Kept_has (by assumption) | exact Kept_out (by assumption) | exact Kept_ctr (by assumption) | exact watchE_none (by assumption))
    | with_reducible refine Only_mk ?_ (.inr rfl) (.inr rfl) (.inr rfl) (.inr rfl) (.inr rfl) (.inr rfl) (.inr rfl) (.inr rfl) (.inr rfl) (.inr rfl) (.inr rfl) (.inr rfl) (.inr rfl) (.inr rfl) (.inr rfl) (.inr rfl) (.inr rfl) (.inr rfl) (.inr rfl) (.inr rfl) (.inr rfl) (.inr rfl) (.inr rfl) (.inl (mask_bit hk rfl)) (.inr rfl) (.inr rfl) (.inr rfl) (.inr rfl) (.inr rfl) (.inr rfl)
    | (first | exact mask_sub hk rfl | exact hk)
    | with_reducible (first | refine Kept_snd (by assumption) ?_ | refine Kept_fst (by assumption) ?_)
    | with_reducible exact Kept_of_next (by assumption)
    | with_reducible (refine Kept_of_O (by assumption) ?_)
    | with_reducible (first | refine Kept_regs (g := g) ?_ (by assumption) | refine Kept_ram (g := g) ?_ (by assumption) | refine Kept_mram (g := g) ?_ (by assumption) | refine Kept_flt (g := g) ?_ (by assumption) | refine Kept_var ?_ | refine Kept_ev ?_ (by assumption) | refine Kept_has ?_ | refine Kept_out ?_ | refine Kept_ctr ?_)
    | dsimp -zeta only
    | split)

theorem kept_overrun {x0} (h0 : Kept g x0) (hk : 772765764 &&& g.mask = 772765764) : Kept g (State.overrun x0) := by
  unfold State.overrun
  try generalize @State.getF = g0
  repeat' (first
    | with_reducible assumption
    | with_reducible refine fun _ => ?_
    | ((try lift_lets); intro s; refine (have hs : Kept g s := ?_; ?_); subst s; rotate_left; clear_value s; rotate_left)
    | ((try lift_lets); first | (intro (x : Mram); subst x) | (intro (x : Compositor); subst x) | (intro (x : Store 32); subst x) | (intro (x : Store 8); subst x) | (intro (x : State × _); subst x) | (intro (x : _ × State); subst x) | (intro (x : _ × _ × State); subst x) | (intro (x : State → _); subst x) | (intro (x : _ → State → _); subst x) | (intro (x : _ → State); subst x) | (intro x; clear_value x))
    | (simp only [↓Kept_mk_iff]; refine And.intro ?_ (And.intro ?_ (And.intro ?_ (And.intro ?_ (And.intro ?_ (And.intro ?_ (And.intro ?_ (And.intro ?_ (And.intro ?_ ?_)))))))))
    | with_reducible (first | apply kept_countF | apply kept_setCause | apply kept_raise | apply kept_cycHalt | apply Kept_ite)
    | with_reducible (first | exact Kept_regs (by assumption) (by assumption) | exact Kept_ram (by assumption) (by assumption) | exact Kept_mram (by assumption) (by assumption) | exact Kept_flt (by assumption) (by assumption) | exact Kept_var (by assumption) | exact Kept_ev (by assumption) (by assumption) | exact Kept_has (by assumption) | exact Kept_out (by assumption) | exact Kept_ctr (by assumption) | exact watchE_none (by assumption))
    | with_reducible refine Only_mk ?_ (.inr rfl) (.inr rfl) (.inr rfl) (.inr rfl) (.inr rfl) (.inr rfl) (.inr rfl) (.inr rfl) (.inr rfl) (.inr rfl) (.inr rfl) (.inr rfl) (.inr rfl) (.inr rfl) (.inr rfl) (.inr rfl) (.inr rfl) (.inr rfl) (.inr rfl) (.inr rfl) (.inr rfl) (.inr rfl) (.inr rfl) (.inl (mask_bit hk rfl)) (.inr rfl) (.inr rfl) (.inr rfl) (.inr rfl) (.inr rfl) (.inr rfl)
    | (first | exact mask_sub hk rfl | exact hk)
    | with_reducible (first | refine Kept_snd (by assumption) ?_ | refine Kept_fst (by assumption) ?_)
    | with_reducible exact Kept_of_next (by assumption)
    | with_reducible (refine Kept_of_O (by assumption) ?_)
    | with_reducible (first | refine Kept_regs (g := g) ?_ (by assumption) | refine Kept_ram (g := g) ?_ (by assumption) | refine Kept_mram (g := g) ?_ (by assumption) | refine Kept_flt (g := g) ?_ (by assumption) | refine Kept_var ?_ | refine Kept_ev ?_ (by assumption) | refine Kept_has ?_ | refine Kept_out ?_ | refine Kept_ctr ?_)
    | dsimp -zeta only
    | split)

theorem kept_deadlineMissed {x0} (h0 : Kept g x0) (hk : 772765764 &&& g.mask = 772765764) : Kept g (State.deadlineMissed x0) := by
  unfold State.deadlineMissed
  repeat' (first
    | with_reducible assumption
    | with_reducible refine fun _ => ?_
    | ((try lift_lets); intro s; refine (have hs : Kept g s := ?_; ?_); subst s; rotate_left; clear_value s; rotate_left)
    | ((try lift_lets); first | (intro (x : Mram); subst x) | (intro (x : Compositor); subst x) | (intro (x : Store 32); subst x) | (intro (x : Store 8); subst x) | (intro (x : State × _); subst x) | (intro (x : _ × State); subst x) | (intro (x : _ × _ × State); subst x) | (intro (x : State → _); subst x) | (intro (x : _ → State → _); subst x) | (intro (x : _ → State); subst x) | (intro x; clear_value x))
    | (simp only [↓Kept_mk_iff]; refine And.intro ?_ (And.intro ?_ (And.intro ?_ (And.intro ?_ (And.intro ?_ (And.intro ?_ (And.intro ?_ (And.intro ?_ (And.intro ?_ ?_)))))))))
    | with_reducible (first | apply kept_overrun | apply kept_raise | apply kept_countReg | apply Kept_ite)
    | with_reducible (first | exact Kept_regs (by assumption) (by assumption) | exact Kept_ram (by assumption) (by assumption) | exact Kept_mram (by assumption) (by assumption) | exact Kept_flt (by assumption) (by assumption) | exact Kept_var (by assumption) | exact Kept_ev (by assumption) (by assumption) | exact Kept_has (by assumption) | exact Kept_out (by assumption) | exact Kept_ctr (by assumption) | exact watchE_none (by assumption))
    | with_reducible refine Only_mk ?_ (.inr rfl) (.inr rfl) (.inr rfl) (.inr rfl) (.inr rfl) (.inr rfl) (.inr rfl) (.inr rfl) (.inr rfl) (.inr rfl) (.inr rfl) (.inr rfl) (.inr rfl) (.inr rfl) (.inr rfl) (.inr rfl) (.inr rfl) (.inr rfl) (.inr rfl) (.inr rfl) (.inr rfl) (.inr rfl) (.inr rfl) (.inl (mask_bit hk rfl)) (.inr rfl) (.inr rfl) (.inr rfl) (.inr rfl) (.inr rfl) (.inr rfl)
    | (first | exact mask_sub hk rfl | exact hk)
    | with_reducible (first | refine Kept_snd (by assumption) ?_ | refine Kept_fst (by assumption) ?_)
    | with_reducible exact Kept_of_next (by assumption)
    | with_reducible (refine Kept_of_O (by assumption) ?_)
    | with_reducible (first | refine Kept_regs (g := g) ?_ (by assumption) | refine Kept_ram (g := g) ?_ (by assumption) | refine Kept_mram (g := g) ?_ (by assumption) | refine Kept_flt (g := g) ?_ (by assumption) | refine Kept_var ?_ | refine Kept_ev ?_ (by assumption) | refine Kept_has ?_ | refine Kept_out ?_ | refine Kept_ctr ?_)
    | dsimp -zeta only
    | split)

theorem kept_setMemWord {x0 x1 x2} (h0 : Kept g x0) (hk : 4 &&& g.mask = 4) : Kept g (State.setMemWord x0 x1 x2) := by
  unfold State.setMemWord
  repeat' (first | with_reducible assumption | exact mask_sub hk rfl | with_reducible (first | apply kept_setBytes | apply Kept_ite) | split | intro _)

theorem kept_deliver {x0 x1 x2 x3} (h0 : Kept g x0) (hk : 4 &&& g.mask = 4) : Kept g (State.deliver x0 x1 x2 x3) := by
  unfold State.deliver
  repeat' (first | with_reducible assumption | exact mask_sub hk rfl | with_reducible (first | apply kept_raise | apply kept_countReg | apply kept_setBytes | apply kept_setMemWord | apply kept_setReg | apply Kept_ite) | split | intro _)

theorem kept_waitReturn {x0 x1} (h0 : Kept g x0) : Kept g (State.waitReturn x0 x1) := by
  unfold State.waitReturn
  repeat' (first
    | with_reducible assumption
    | with_reducible refine fun _ => ?_
    | ((try lift_lets); intro s; refine (have hs : Kept g s := ?_; ?_); subst s; rotate_left; clear_value s; rotate_left)
    | ((try lift_lets); first | (intro (x : Mram); subst x) | (intro (x : Compositor); subst x) | (intro (x : Store 32); subst x) | (intro (x : Store 8); subst x) | (intro (x : State × _); subst x) | (intro (x : _ × State); subst x) | (intro (x : _ × _ × State); subst x) | (intro (x : State → _); subst x) | (intro (x : _ → State → _); subst x) | (intro (x : _ → State); subst x) | (intro x; clear_value x))
    | (simp only [↓Kept_mk_iff]; refine And.intro ?_ (And.intro ?_ (And.intro ?_ (And.intro ?_ (And.intro ?_ (And.intro ?_ (And.intro ?_ (And.intro ?_ (And.intro ?_ ?_)))))))))
    | with_reducible (first | apply kept_emit | apply Kept_ite)
    | with_reducible (first | exact Kept_regs (by assumption) (by assumption) | exact Kept_ram (by assumption) (by assumption) | exact Kept_mram (by assumption) (by assumption) | exact Kept_flt (by assumption) (by assumption) | exact Kept_var (by assumption) | exact Kept_ev (by assumption) (by assumption) | exact Kept_has (by assumption) | exact Kept_out (by assumption) | exact Kept_ctr (by assumption) | exact watchE_none (by assumption))
    | with_reducible refine Only_mk ?_ (.inr rfl) (.inr rfl) (.inr rfl) (.inr rfl) (.inr rfl) (.inr rfl) (.inr rfl) (.inr rfl) (.inr rfl) (.inr rfl) (.inr rfl) (.inr rfl) (.inr rfl) (.inr rfl) (.inr rfl) (.inr rfl) (.inr rfl) (.inr rfl) (.inr rfl) (.inr rfl) (.inr rfl) (.inr rfl) (.inr rfl) (.inr rfl) (.inr rfl) (.inr rfl) (.inr rfl) (.inr rfl) (.inr rfl) (.inr rfl)
    | (first | rfl)
    | with_reducible (first | refine Kept_snd (by assumption) ?_ | refine Kept_fst (by assumption) ?_)
    | with_reducible exact Kept_of_next (by assumption)
    | with_reducible (refine Kept_of_O (by assumption) ?_)
    | with_reducible (first | refine Kept_regs (g := g) ?_ (by assumption) | refine Kept_ram (g := g) ?_ (by assumption) | refine Kept_mram (g := g) ?_ (by assumption) | refine Kept_flt (g := g) ?_ (by assumption) | refine Kept_var ?_ | refine Kept_ev ?_ (by assumption) | refine Kept_has ?_ | refine Kept_out ?_ | refine Kept_ctr ?_)
    | dsimp -zeta only
    | split)

theorem kept_waitCopy {x0 x1 x2} (h0 : Kept g x0) (hk : 4 &&& g.mask = 4) : Kept g (State.waitCopy x0 x1 x2) := by
  unfold State.waitCopy
  repeat' (first
    | with_reducible assumption
    | with_reducible refine fun _ => ?_
    | ((try lift_lets); intro s; refine (have hs : Kept g s := ?_; ?_); subst s; rotate_left; clear_value s; rotate_left)
    | ((try lift_lets); first | (intro (x : Mram); subst x) | (intro (x : Compositor); subst x) | (intro (x : Store 32); subst x) | (intro (x : Store 8); subst x) | (intro (x : State × _); subst x) | (intro (x : _ × State); subst x) | (intro (x : _ × _ × State); subst x) | (intro (x : State → _); subst x) | (intro (x : _ → State → _); subst x) | (intro (x : _ → State); subst x) | (intro x; clear_value x))
    | (simp only [↓Kept_mk_iff]; refine And.intro ?_ (And.intro ?_ (And.intro ?_ (And.intro ?_ (And.intro ?_ (And.intro ?_ (And.intro ?_ (And.intro ?_ (And.intro ?_ ?_)))))))))
    | with_reducible (first | apply kept_setBytes | apply kept_waitReturn | apply Kept_ite)
    | with_reducible (first | exact Kept_regs (by assumption) (by assumption) | exact Kept_ram (by assumption) (by assumption) | exact Kept_mram (by assumption) (by assumption) | exact Kept_flt (by assumption) (by assumption) | exact Kept_var (by assumption) | exact Kept_ev (by assumption) (by assumption) | exact Kept_has (by assumption) | exact Kept_out (by assumption) | exact Kept_ctr (by assumption) | exact watchE_none (by assumption))
    | with_reducible refine Only_mk ?_ (.inr rfl) (.inr rfl) (.inr rfl) (.inr rfl) (.inr rfl) (.inr rfl) (.inr rfl) (.inr rfl) (.inr rfl) (.inr rfl) (.inr rfl) (.inr rfl) (.inr rfl) (.inr rfl) (.inr rfl) (.inr rfl) (.inr rfl) (.inr rfl) (.inr rfl) (.inr rfl) (.inr rfl) (.inr rfl) (.inr rfl) (.inr rfl) (.inr rfl) (.inr rfl) (.inr rfl) (.inr rfl) (.inr rfl) (.inr rfl)
    | (first | exact mask_sub hk rfl | exact hk)
    | with_reducible (first | refine Kept_snd (by assumption) ?_ | refine Kept_fst (by assumption) ?_)
    | with_reducible exact Kept_of_next (by assumption)
    | with_reducible (refine Kept_of_O (by assumption) ?_)
    | with_reducible (first | refine Kept_regs (g := g) ?_ (by assumption) | refine Kept_ram (g := g) ?_ (by assumption) | refine Kept_mram (g := g) ?_ (by assumption) | refine Kept_flt (g := g) ?_ (by assumption) | refine Kept_var ?_ | refine Kept_ev ?_ (by assumption) | refine Kept_has ?_ | refine Kept_out ?_ | refine Kept_ctr ?_)
    | dsimp -zeta only
    | split)

theorem kept_toCore {x0 x1} (h0 : Kept g x0) (hk : 4 &&& g.mask = 4) : Kept g (State.toCore x0 x1) := by
  unfold State.toCore
  repeat' (first
    | with_reducible assumption
    | with_reducible refine fun _ => ?_
    | ((try lift_lets); intro s; refine (have hs : Kept g s := ?_; ?_); subst s; rotate_left; clear_value s; rotate_left)
    | ((try lift_lets); first | (intro (x : Mram); subst x) | (intro (x : Compositor); subst x) | (intro (x : Store 32); subst x) | (intro (x : Store 8); subst x) | (intro (x : State × _); subst x) | (intro (x : _ × State); subst x) | (intro (x : _ × _ × State); subst x) | (intro (x : State → _); subst x) | (intro (x : _ → State → _); subst x) | (intro (x : _ → State); subst x) | (intro x; clear_value x))
    | (simp only [↓Kept_mk_iff]; refine And.intro ?_ (And.intro ?_ (And.intro ?_ (And.intro ?_ (And.intro ?_ (And.intro ?_ (And.intro ?_ (And.intro ?_ (And.intro ?_ ?_)))))))))
    | with_reducible (first | apply kept_raiseIf | apply kept_countReg | apply kept_waitCopy | apply Kept_ite)
    | with_reducible (first | exact Kept_regs (by assumption) (by assumption) | exact Kept_ram (by assumption) (by assumption) | exact Kept_mram (by assumption) (by assumption) | exact Kept_flt (by assumption) (by assumption) | exact Kept_var (by assumption) | exact Kept_ev (by assumption) (by assumption) | exact Kept_has (by assumption) | exact Kept_out (by assumption) | exact Kept_ctr (by assumption) | exact watchE_none (by assumption))
    | with_reducible refine Only_mk ?_ (.inr rfl) (.inr rfl) (.inr rfl) (.inr rfl) (.inr rfl) (.inr rfl) (.inr rfl) (.inr rfl) (.inr rfl) (.inr rfl) (.inr rfl) (.inr rfl) (.inr rfl) (.inr rfl) (.inr rfl) (.inr rfl) (.inr rfl) (.inr rfl) (.inr rfl) (.inr rfl) (.inr rfl) (.inr rfl) (.inr rfl) (.inr rfl) (.inr rfl) (.inr rfl) (.inr rfl) (.inr rfl) (.inr rfl) (.inr rfl)
    | (first | exact mask_sub hk rfl | exact hk)
    | with_reducible (first | refine Kept_snd (by assumption) ?_ | refine Kept_fst (by assumption) ?_)
    | with_reducible exact Kept_of_next (by assumption)
    | with_reducible (refine Kept_of_O (by assumption) ?_)
    | with_reducible (first | refine Kept_regs (g := g) ?_ (by assumption) | refine Kept_ram (g := g) ?_ (by assumption) | refine Kept_mram (g := g) ?_ (by assumption) | refine Kept_flt (g := g) ?_ (by assumption) | refine Kept_var ?_ | refine Kept_ev ?_ (by assumption) | refine Kept_has ?_ | refine Kept_out ?_ | refine Kept_ctr ?_)
    | dsimp -zeta only
    | split)

theorem kept_toHost {x0 x1} (h0 : Kept g x0) : Kept g (State.toHost x0 x1) := by
  unfold State.toHost
  repeat' (first
    | with_reducible assumption
    | with_reducible refine fun _ => ?_
    | ((try lift_lets); intro s; refine (have hs : Kept g s := ?_; ?_); subst s; rotate_left; clear_value s; rotate_left)
    | ((try lift_lets); first | (intro (x : Mram); subst x) | (intro (x : Compositor); subst x) | (intro (x : Store 32); subst x) | (intro (x : Store 8); subst x) | (intro (x : State × _); subst x) | (intro (x : _ × State); subst x) | (intro (x : _ × _ × State); subst x) | (intro (x : State → _); subst x) | (intro (x : _ → State → _); subst x) | (intro (x : _ → State); subst x) | (intro x; clear_value x))
    | (simp only [↓Kept_mk_iff]; refine And.intro ?_ (And.intro ?_ (And.intro ?_ (And.intro ?_ (And.intro ?_ (And.intro ?_ (And.intro ?_ (And.intro ?_ (And.intro ?_ ?_)))))))))
    | with_reducible (first | apply kept_wrapReg | apply Kept_ite | apply filter_wf | apply evOk_filter)
    | with_reducible (first | exact Kept_regs (by assumption) (by assumption) | exact Kept_ram (by assumption) (by assumption) | exact Kept_mram (by assumption) (by assumption) | exact Kept_flt (by assumption) (by assumption) | exact Kept_var (by assumption) | exact Kept_ev (by assumption) (by assumption) | exact Kept_has (by assumption) | exact Kept_out (by assumption) | exact Kept_ctr (by assumption) | exact watchE_none (by assumption))
    | with_reducible refine Only_mk ?_ (.inr rfl) (.inr rfl) (.inr rfl) (.inr rfl) (.inr rfl) (.inr rfl) (.inr rfl) (.inr rfl) (.inr rfl) (.inr rfl) (.inr rfl) (.inr rfl) (.inr rfl) (.inr rfl) (.inr rfl) (.inr rfl) (.inr rfl) (.inr rfl) (.inr rfl) (.inr rfl) (.inr rfl) (.inr rfl) (.inr rfl) (.inr rfl) (.inr rfl) (.inr rfl) (.inr rfl) (.inr rfl) (.inr rfl) (.inr rfl)
    | (first | rfl)
    | with_reducible (first | refine Kept_snd (by assumption) ?_ | refine Kept_fst (by assumption) ?_)
    | with_reducible exact Kept_of_next (by assumption)
    | with_reducible (refine Kept_of_O (by assumption) ?_)
    | with_reducible (first | refine Kept_regs (g := g) ?_ (by assumption) | refine Kept_ram (g := g) ?_ (by assumption) | refine Kept_mram (g := g) ?_ (by assumption) | refine Kept_flt (g := g) ?_ (by assumption) | refine Kept_var ?_ | refine Kept_ev ?_ (by assumption) | refine Kept_has ?_ | refine Kept_out ?_ | refine Kept_ctr ?_)
    | dsimp -zeta only
    | split)

theorem kept_deliverEvent {x0 x1 x2 x3} (h0 : Kept g x0) (hk : 4 &&& g.mask = 4) : Kept g (State.deliverEvent x0 x1 x2 x3) := by
  unfold State.deliverEvent
  repeat' (first | with_reducible assumption | exact mask_sub hk rfl | with_reducible (first | apply kept_toCore | apply kept_toHost | apply Kept_ite) | split | intro _)

theorem kept_demote {x0 x1} (h0 : Kept g x0) (hk : 743405888 &&& g.mask = 743405888) : Kept g (State.demote x0 x1) := by
  unfold State.demote
  repeat' (first
    | with_reducible assumption
    | with_reducible refine fun _ => ?_
    | ((try lift_lets); intro s; refine (have hs : Kept g s := ?_; ?_); subst s; rotate_left; clear_value s; rotate_left)
    | ((try lift_lets); first | (intro (x : Mram); subst x) | (intro (x : Compositor); subst x) | (intro (x : Store 32); subst x) | (intro (x : Store 8); subst x) | (intro (x : State × _); subst x) | (intro (x : _ × State); subst x) | (intro (x : _ × _ × State); subst x) | (intro (x : State → _); subst x) | (intro (x : _ → State → _); subst x) | (intro (x : _ → State); subst x) | (intro x; clear_value x))
    | (simp only [↓Kept_mk_iff]; refine And.intro ?_ (And.intro ?_ (And.intro ?_ (And.intro ?_ (And.intro ?_ (And.intro ?_ (And.intro ?_ (And.intro ?_ (And.intro ?_ ?_)))))))))
    | with_reducible (first | apply kept_cutClosing | apply kept_learnEdition | apply kept_setF | apply kept_setB | apply kept_timeRole | apply kept_imdRefresh | apply kept_asyAbort | apply kept_pwmRefresh | apply kept_plnkOut | apply kept_raise | apply Kept_ite)
    | with_reducible (first | exact Kept_regs (by assumption) (by assumption) | exact Kept_ram (by assumption) (by assumption) | exact Kept_mram (by assumption) (by assumption) | exact Kept_flt (by assumption) (by assumption) | exact Kept_var (by assumption) | exact Kept_ev (by assumption) (by assumption) | exact Kept_has (by assumption) | exact Kept_out (by assumption) | exact Kept_ctr (by assumption) | exact watchE_none (by assumption))
    | with_reducible refine Only_mk ?_ (.inr rfl) (.inr rfl) (.inr rfl) (.inr rfl) (.inr rfl) (.inr rfl) (.inr rfl) (.inr rfl) (.inr rfl) (.inl (mask_bit hk rfl)) (.inr rfl) (.inr rfl) (.inr rfl) (.inl (mask_bit hk rfl)) (.inl (mask_bit hk rfl)) (.inr rfl) (.inr rfl) (.inr rfl) (.inr rfl) (.inl (mask_bit hk rfl)) (.inr rfl) (.inr rfl) (.inr rfl) (.inr rfl) (.inr rfl) (.inr rfl) (.inr rfl) (.inr rfl) (.inr rfl) (.inr rfl)
    | (first | exact mask_sub hk rfl | exact hk)
    | with_reducible (first | refine Kept_snd (by assumption) ?_ | refine Kept_fst (by assumption) ?_)
    | with_reducible exact Kept_of_next (by assumption)
    | with_reducible (refine Kept_of_O (by assumption) ?_)
    | with_reducible (first | refine Kept_regs (g := g) ?_ (by assumption) | refine Kept_ram (g := g) ?_ (by assumption) | refine Kept_mram (g := g) ?_ (by assumption) | refine Kept_flt (g := g) ?_ (by assumption) | refine Kept_var ?_ | refine Kept_ev ?_ (by assumption) | refine Kept_has ?_ | refine Kept_out ?_ | refine Kept_ctr ?_)
    | dsimp -zeta only
    | split)

theorem kept_symOut {x0 x1 x2 x3} (h0 : Kept g x0) : Kept g (State.symOut x0 x1 x2 x3) := by
  unfold State.symOut
  repeat' (first | with_reducible assumption | with_reducible (first | apply kept_emit | apply Kept_ite) | split | intro _)

theorem kept_dlyOut {x0 x1 x2 x3} (h0 : Kept g x0) : Kept g (State.dlyOut x0 x1 x2 x3) := by
  unfold State.dlyOut
  repeat' (first | with_reducible assumption | with_reducible (first | apply kept_symOut | apply Kept_ite) | split | intro _)

theorem kept_dlyAgain {x0 x1} (h0 : Kept g x0) : Kept g (State.dlyAgain x0 x1) := by
  unfold State.dlyAgain
  repeat' (first | with_reducible assumption | with_reducible (first | apply kept_dlyOut | apply Kept_ite) | split | intro _)

theorem kept_dlyMean {x0 x1} (h0 : Kept g x0) : Kept g (State.dlyMean x0 x1).2 := by
  unfold State.dlyMean
  repeat' (first | with_reducible assumption | with_reducible (first | apply kept_divFree | apply Kept_ite) | split | intro _)

theorem kept_rejoinOut {x0 x1} (h0 : Kept g x0) (hk : 4194304 &&& g.mask = 4194304) : Kept g (State.rejoinOut x0 x1) := by
  unfold State.rejoinOut
  repeat' (first
    | with_reducible assumption
    | with_reducible refine fun _ => ?_
    | ((try lift_lets); intro s; refine (have hs : Kept g s := ?_; ?_); subst s; rotate_left; clear_value s; rotate_left)
    | ((try lift_lets); first | (intro (x : Mram); subst x) | (intro (x : Compositor); subst x) | (intro (x : Store 32); subst x) | (intro (x : Store 8); subst x) | (intro (x : State × _); subst x) | (intro (x : _ × State); subst x) | (intro (x : _ × _ × State); subst x) | (intro (x : State → _); subst x) | (intro (x : _ → State → _); subst x) | (intro (x : _ → State); subst x) | (intro x; clear_value x))
    | (simp only [↓Kept_mk_iff]; refine And.intro ?_ (And.intro ?_ (And.intro ?_ (And.intro ?_ (And.intro ?_ (And.intro ?_ (And.intro ?_ (And.intro ?_ (And.intro ?_ ?_)))))))))
    | with_reducible (first | apply kept_setF | apply kept_enumOut | apply Kept_ite)
    | with_reducible (first | exact Kept_regs (by assumption) (by assumption) | exact Kept_ram (by assumption) (by assumption) | exact Kept_mram (by assumption) (by assumption) | exact Kept_flt (by assumption) (by assumption) | exact Kept_var (by assumption) | exact Kept_ev (by assumption) (by assumption) | exact Kept_has (by assumption) | exact Kept_out (by assumption) | exact Kept_ctr (by assumption) | exact watchE_none (by assumption))
    | with_reducible refine Only_mk ?_ (.inr rfl) (.inr rfl) (.inr rfl) (.inr rfl) (.inr rfl) (.inr rfl) (.inr rfl) (.inr rfl) (.inr rfl) (.inr rfl) (.inr rfl) (.inr rfl) (.inr rfl) (.inr rfl) (.inr rfl) (.inr rfl) (.inr rfl) (.inr rfl) (.inr rfl) (.inl (mask_bit hk rfl)) (.inr rfl) (.inr rfl) (.inr rfl) (.inr rfl) (.inr rfl) (.inr rfl) (.inr rfl) (.inr rfl) (.inr rfl) (.inr rfl)
    | (first | exact mask_sub hk rfl | exact hk)
    | with_reducible (first | refine Kept_snd (by assumption) ?_ | refine Kept_fst (by assumption) ?_)
    | with_reducible exact Kept_of_next (by assumption)
    | with_reducible (refine Kept_of_O (by assumption) ?_)
    | with_reducible (first | refine Kept_regs (g := g) ?_ (by assumption) | refine Kept_ram (g := g) ?_ (by assumption) | refine Kept_mram (g := g) ?_ (by assumption) | refine Kept_flt (g := g) ?_ (by assumption) | refine Kept_var ?_ | refine Kept_ev ?_ (by assumption) | refine Kept_has ?_ | refine Kept_out ?_ | refine Kept_ctr ?_)
    | dsimp -zeta only
    | split)

theorem kept_nodeNext {x0 x1} (h0 : Kept g x0) (hk : 33556544 &&& g.mask = 33556544) : Kept g (State.nodeNext x0 x1) := by
  unfold State.nodeNext
  repeat' (first
    | with_reducible assumption
    | with_reducible refine fun _ => ?_
    | ((try lift_lets); intro s; refine (have hs : Kept g s := ?_; ?_); subst s; rotate_left; clear_value s; rotate_left)
    | ((try lift_lets); first | (intro (x : Mram); subst x) | (intro (x : Compositor); subst x) | (intro (x : Store 32); subst x) | (intro (x : Store 8); subst x) | (intro (x : State × _); subst x) | (intro (x : _ × State); subst x) | (intro (x : _ × _ × State); subst x) | (intro (x : State → _); subst x) | (intro (x : _ → State → _); subst x) | (intro (x : _ → State); subst x) | (intro x; clear_value x))
    | (simp only [↓Kept_mk_iff]; refine And.intro ?_ (And.intro ?_ (And.intro ?_ (And.intro ?_ (And.intro ?_ (And.intro ?_ (And.intro ?_ (And.intro ?_ (And.intro ?_ ?_)))))))))
    | with_reducible (first | apply kept_nodeSend | apply kept_updKind | apply kept_galClose | apply kept_setF | apply Kept_ite)
    | with_reducible (first | exact Kept_regs (by assumption) (by assumption) | exact Kept_ram (by assumption) (by assumption) | exact Kept_mram (by assumption) (by assumption) | exact Kept_flt (by assumption) (by assumption) | exact Kept_var (by assumption) | exact Kept_ev (by assumption) (by assumption) | exact Kept_has (by assumption) | exact Kept_out (by assumption) | exact Kept_ctr (by assumption) | exact watchE_none (by assumption))
    | with_reducible refine Only_mk ?_ (.inr rfl) (.inr rfl) (.inr rfl) (.inr rfl) (.inr rfl) (.inr rfl) (.inr rfl) (.inr rfl) (.inr rfl) (.inr rfl) (.inr rfl) (.inr rfl) (.inr rfl) (.inr rfl) (.inr rfl) (.inr rfl) (.inr rfl) (.inr rfl) (.inr rfl) (.inr rfl) (.inr rfl) (.inr rfl) (.inl (mask_bit hk rfl)) (.inr rfl) (.inr rfl) (.inr rfl) (.inr rfl) (.inr rfl) (.inr rfl) (.inr rfl)
    | (first | exact mask_sub hk rfl | exact hk)
    | with_reducible (first | refine Kept_snd (by assumption) ?_ | refine Kept_fst (by assumption) ?_)
    | with_reducible exact Kept_of_next (by assumption)
    | with_reducible (refine Kept_of_O (by assumption) ?_)
    | with_reducible (first | refine Kept_regs (g := g) ?_ (by assumption) | refine Kept_ram (g := g) ?_ (by assumption) | refine Kept_mram (g := g) ?_ (by assumption) | refine Kept_flt (g := g) ?_ (by assumption) | refine Kept_var ?_ | refine Kept_ev ?_ (by assumption) | refine Kept_has ?_ | refine Kept_out ?_ | refine Kept_ctr ?_)
    | dsimp -zeta only
    | split)

theorem kept_nodeFail {x0} (h0 : Kept g x0) (hk : 33556480 &&& g.mask = 33556480) : Kept g (State.nodeFail x0) := by
  unfold State.nodeFail
  repeat' (first
    | with_reducible assumption
    | with_reducible refine fun _ => ?_
    | ((try lift_lets); intro s; refine (have hs : Kept g s := ?_; ?_); subst s; rotate_left; clear_value s; rotate_left)
    | ((try lift_lets); first | (intro (x : Mram); subst x) | (intro (x : Compositor); subst x) | (intro (x : Store 32); subst x) | (intro (x : Store 8); subst x) | (intro (x : State × _); subst x) | (intro (x : _ × State); subst x) | (intro (x : _ × _ × State); subst x) | (intro (x : State → _); subst x) | (intro (x : _ → State → _); subst x) | (intro (x : _ → State); subst x) | (intro x; clear_value x))
    | (simp only [↓Kept_mk_iff]; refine And.intro ?_ (And.intro ?_ (And.intro ?_ (And.intro ?_ (And.intro ?_ (And.intro ?_ (And.intro ?_ (And.intro ?_ (And.intro ?_ ?_)))))))))
    | with_reducible (first | apply kept_updKind | apply kept_galClose | apply Kept_ite)
    | with_reducible (first | exact Kept_regs (by assumption) (by assumption) | exact Kept_ram (by assumption) (by assumption) | exact Kept_mram (by assumption) (by assumption) | exact Kept_flt (by assumption) (by assumption) | exact Kept_var (by assumption) | exact Kept_ev (by assumption) (by assumption) | exact Kept_has (by assumption) | exact Kept_out (by assumption) | exact Kept_ctr (by assumption) | exact watchE_none (by assumption))
    | with_reducible refine Only_mk ?_ (.inr rfl) (.inr rfl) (.inr rfl) (.inr rfl) (.inr rfl) (.inr rfl) (.inr rfl) (.inr rfl) (.inr rfl) (.inr rfl) (.inr rfl) (.inr rfl) (.inr rfl) (.inr rfl) (.inr rfl) (.inr rfl) (.inr rfl) (.inr rfl) (.inr rfl) (.inr rfl) (.inr rfl) (.inr rfl) (.inl (mask_bit hk rfl)) (.inr rfl) (.inr rfl) (.inr rfl) (.inr rfl) (.inr rfl) (.inr rfl) (.inr rfl)
    | (first | exact mask_sub hk rfl | exact hk)
    | with_reducible (first | refine Kept_snd (by assumption) ?_ | refine Kept_fst (by assumption) ?_)
    | with_reducible exact Kept_of_next (by assumption)
    | with_reducible (refine Kept_of_O (by assumption) ?_)
    | with_reducible (first | refine Kept_regs (g := g) ?_ (by assumption) | refine Kept_ram (g := g) ?_ (by assumption) | refine Kept_mram (g := g) ?_ (by assumption) | refine Kept_flt (g := g) ?_ (by assumption) | refine Kept_var ?_ | refine Kept_ev ?_ (by assumption) | refine Kept_has ?_ | refine Kept_out ?_ | refine Kept_ctr ?_)
    | dsimp -zeta only
    | split)

theorem kept_nodeRejoined {x0 x1} (h0 : Kept g x0) (hk : 37750848 &&& g.mask = 37750848) : Kept g (State.nodeRejoined x0 x1) := by
  unfold State.nodeRejoined
  repeat' (first | with_reducible assumption | exact mask_sub hk rfl | with_reducible (first | apply kept_rejoinOut | apply kept_raiseA | apply kept_setReg | apply kept_nodeNext | apply kept_nodeFail | apply Kept_ite) | split | intro _)

theorem kept_enumEnd {x0 x1 x2} (h0 : Kept g x0) (hk : 793737292 &&& g.mask = 793737292) : Kept g (State.enumEnd x0 x1 x2) := by
  unfold State.enumEnd
  repeat' (first
    | with_reducible assumption
    | with_reducible refine fun _ => ?_
    | ((try lift_lets); intro s; refine (have hs : Kept g s := ?_; ?_); subst s; rotate_left; clear_value s; rotate_left)
    | ((try lift_lets); first | (intro (x : Mram); subst x) | (intro (x : Compositor); subst x) | (intro (x : Store 32); subst x) | (intro (x : Store 8); subst x) | (intro (x : State × _); subst x) | (intro (x : _ × State); subst x) | (intro (x : _ × _ × State); subst x) | (intro (x : State → _); subst x) | (intro (x : _ → State → _); subst x) | (intro (x : _ → State); subst x) | (intro x; clear_value x))
    | (simp only [↓Kept_mk_iff]; refine And.intro ?_ (And.intro ?_ (And.intro ?_ (And.intro ?_ (And.intro ?_ (And.intro ?_ (And.intro ?_ (And.intro ?_ (And.intro ?_ ?_)))))))))
    | with_reducible (first | apply kept_setF | apply kept_nodeRejoined | apply kept_raise | apply kept_setB | apply kept_nodeReplay | apply kept_enterSurvey | apply Kept_ite)
    | with_reducible (first | exact Kept_regs (by assumption) (by assumption) | exact Kept_ram (by assumption) (by assumption) | exact Kept_mram (by assumption) (by assumption) | exact Kept_flt (by assumption) (by assumption) | exact Kept_var (by assumption) | exact Kept_ev (by assumption) (by assumption) | exact Kept_has (by assumption) | exact Kept_out (by assumption) | exact Kept_ctr (by assumption) | exact watchE_none (by assumption))
    | with_reducible refine Only_mk ?_ (.inr rfl) (.inr rfl) (.inr rfl) (.inr rfl) (.inr rfl) (.inr rfl) (.inr rfl) (.inr rfl) (.inr rfl) (.inr rfl) (.inr rfl) (.inr rfl) (.inr rfl) (.inr rfl) (.inr rfl) (.inr rfl) (.inr rfl) (.inr rfl) (.inr rfl) (.inl (mask_bit hk rfl)) (.inr rfl) (.inr rfl) (.inr rfl) (.inr rfl) (.inr rfl) (.inr rfl) (.inr rfl) (.inr rfl) (.inr rfl) (.inr rfl)
    | (first | exact mask_sub hk rfl | exact hk)
    | with_reducible (first | refine Kept_snd (by assumption) ?_ | refine Kept_fst (by assumption) ?_)
    | with_reducible exact Kept_of_next (by assumption)
    | with_reducible (refine Kept_of_O (by assumption) ?_)
    | with_reducible (first | refine Kept_regs (g := g) ?_ (by assumption) | refine Kept_ram (g := g) ?_ (by assumption) | refine Kept_mram (g := g) ?_ (by assumption) | refine Kept_flt (g := g) ?_ (by assumption) | refine Kept_var ?_ | refine Kept_ev ?_ (by assumption) | refine Kept_has ?_ | refine Kept_out ?_ | refine Kept_ctr ?_)
    | dsimp -zeta only
    | split)

theorem kept_nodeSettings {x0} (h0 : Kept g x0) (hk : 4194304 &&& g.mask = 4194304) : Kept g (State.nodeSettings x0) := by
  unfold State.nodeSettings
  repeat' (first
    | with_reducible assumption
    | with_reducible refine fun _ => ?_
    | ((try lift_lets); intro s; refine (have hs : Kept g s := ?_; ?_); subst s; rotate_left; clear_value s; rotate_left)
    | ((try lift_lets); first | (intro (x : Mram); subst x) | (intro (x : Compositor); subst x) | (intro (x : Store 32); subst x) | (intro (x : Store 8); subst x) | (intro (x : State × _); subst x) | (intro (x : _ × State); subst x) | (intro (x : _ × _ × State); subst x) | (intro (x : State → _); subst x) | (intro (x : _ → State → _); subst x) | (intro (x : _ → State); subst x) | (intro x; clear_value x))
    | (simp only [↓Kept_mk_iff]; refine And.intro ?_ (And.intro ?_ (And.intro ?_ (And.intro ?_ (And.intro ?_ (And.intro ?_ (And.intro ?_ (And.intro ?_ (And.intro ?_ ?_)))))))))
    | with_reducible (first | apply kept_nodeWrites | apply Kept_ite)
    | with_reducible (first | exact Kept_regs (by assumption) (by assumption) | exact Kept_ram (by assumption) (by assumption) | exact Kept_mram (by assumption) (by assumption) | exact Kept_flt (by assumption) (by assumption) | exact Kept_var (by assumption) | exact Kept_ev (by assumption) (by assumption) | exact Kept_has (by assumption) | exact Kept_out (by assumption) | exact Kept_ctr (by assumption) | exact watchE_none (by assumption))
    | with_reducible refine Only_mk ?_ (.inr rfl) (.inr rfl) (.inr rfl) (.inr rfl) (.inr rfl) (.inr rfl) (.inr rfl) (.inr rfl) (.inr rfl) (.inr rfl) (.inr rfl) (.inr rfl) (.inr rfl) (.inr rfl) (.inr rfl) (.inr rfl) (.inr rfl) (.inr rfl) (.inr rfl) (.inl (mask_bit hk rfl)) (.inr rfl) (.inr rfl) (.inr rfl) (.inr rfl) (.inr rfl) (.inr rfl) (.inr rfl) (.inr rfl) (.inr rfl) (.inr rfl)
    | (first | exact mask_sub hk rfl | exact hk)
    | with_reducible (first | refine Kept_snd (by assumption) ?_ | refine Kept_fst (by assumption) ?_)
    | with_reducible exact Kept_of_next (by assumption)
    | with_reducible (refine Kept_of_O (by assumption) ?_)
    | with_reducible (first | refine Kept_regs (g := g) ?_ (by assumption) | refine Kept_ram (g := g) ?_ (by assumption) | refine Kept_mram (g := g) ?_ (by assumption) | refine Kept_flt (g := g) ?_ (by assumption) | refine Kept_var ?_ | refine Kept_ev ?_ (by assumption) | refine Kept_has ?_ | refine Kept_out ?_ | refine Kept_ctr ?_)
    | dsimp -zeta only
    | split)

theorem kept_enumMeasured {x0} (h0 : Kept g x0) (hk : 793737292 &&& g.mask = 793737292) : Kept g (State.enumMeasured x0) := by
  unfold State.enumMeasured
  repeat' (first | with_reducible assumption | exact mask_sub hk rfl | with_reducible (first | apply kept_enumEnd | apply kept_nodeSettings | apply Kept_ite) | split | intro _)

theorem kept_dlyDone {x0 x1 x2} (h0 : Kept g x0) (hk : 793737292 &&& g.mask = 793737292) : Kept g (State.dlyDone x0 x1 x2) := by
  unfold State.dlyDone
  repeat' (first
    | with_reducible assumption
    | with_reducible refine fun _ => ?_
    | ((try lift_lets); intro s; refine (have hs : Kept g s := ?_; ?_); subst s; rotate_left; clear_value s; rotate_left)
    | ((try lift_lets); first | (intro (x : Mram); subst x) | (intro (x : Compositor); subst x) | (intro (x : Store 32); subst x) | (intro (x : Store 8); subst x) | (intro (x : State × _); subst x) | (intro (x : _ × State); subst x) | (intro (x : _ × _ × State); subst x) | (intro (x : State → _); subst x) | (intro (x : _ → State → _); subst x) | (intro (x : _ → State); subst x) | (intro x; clear_value x))
    | (simp only [↓Kept_mk_iff]; refine And.intro ?_ (And.intro ?_ (And.intro ?_ (And.intro ?_ (And.intro ?_ (And.intro ?_ (And.intro ?_ (And.intro ?_ (And.intro ?_ ?_)))))))))
    | with_reducible (first | apply kept_dlyMean | apply kept_posMod | apply kept_enumMeasured | apply kept_nodeWrites | apply kept_raiseIf | apply Kept_ite | apply filter_wf | apply evOk_filter)
    | with_reducible (first | exact Kept_regs (by assumption) (by assumption) | exact Kept_ram (by assumption) (by assumption) | exact Kept_mram (by assumption) (by assumption) | exact Kept_flt (by assumption) (by assumption) | exact Kept_var (by assumption) | exact Kept_ev (by assumption) (by assumption) | exact Kept_has (by assumption) | exact Kept_out (by assumption) | exact Kept_ctr (by assumption) | exact watchE_none (by assumption))
    | with_reducible refine Only_mk ?_ (.inr rfl) (.inr rfl) (.inr rfl) (.inr rfl) (.inr rfl) (.inr rfl) (.inr rfl) (.inr rfl) (.inr rfl) (.inr rfl) (.inr rfl) (.inr rfl) (.inr rfl) (.inr rfl) (.inr rfl) (.inr rfl) (.inr rfl) (.inr rfl) (.inr rfl) (.inl (mask_bit hk rfl)) (.inr rfl) (.inr rfl) (.inr rfl) (.inr rfl) (.inr rfl) (.inr rfl) (.inr rfl) (.inr rfl) (.inr rfl) (.inr rfl)
    | (first | exact mask_sub hk rfl | exact hk)
    | with_reducible (first | refine Kept_snd (by assumption) ?_ | refine Kept_fst (by assumption) ?_)
    | with_reducible exact Kept_of_next (by assumption)
    | with_reducible (refine Kept_of_O (by assumption) ?_)
    | with_reducible (first | refine Kept_regs (g := g) ?_ (by assumption) | refine Kept_ram (g := g) ?_ (by assumption) | refine Kept_mram (g := g) ?_ (by assumption) | refine Kept_flt (g := g) ?_ (by assumption) | refine Kept_var ?_ | refine Kept_ev ?_ (by assumption) | refine Kept_has ?_ | refine Kept_out ?_ | refine Kept_ctr ?_)
    | dsimp -zeta only
    | split)

theorem kept_dlyEnd {x0 x1} (h0 : Kept g x0) (hk : 793737292 &&& g.mask = 793737292) : Kept g (State.dlyEnd x0 x1) := by
  unfold State.dlyEnd
  repeat' (first
    | with_reducible assumption
    | with_reducible refine fun _ => ?_
    | ((try lift_lets); intro s; refine (have hs : Kept g s := ?_; ?_); subst s; rotate_left; clear_value s; rotate_left)
    | ((try lift_lets); first | (intro (x : Mram); subst x) | (intro (x : Compositor); subst x) | (intro (x : Store 32); subst x) | (intro (x : Store 8); subst x) | (intro (x : State × _); subst x) | (intro (x : _ × State); subst x) | (intro (x : _ × _ × State); subst x) | (intro (x : State → _); subst x) | (intro (x : _ → State → _); subst x) | (intro (x : _ → State); subst x) | (intro x; clear_value x))
    | (simp only [↓Kept_mk_iff]; refine And.intro ?_ (And.intro ?_ (And.intro ?_ (And.intro ?_ (And.intro ?_ (And.intro ?_ (And.intro ?_ (And.intro ?_ (And.intro ?_ ?_)))))))))
    | with_reducible (first | apply kept_dlyMean | apply kept_enumMeasured | apply kept_nodeWrites | apply Kept_ite | apply filter_wf | apply evOk_filter)
    | with_reducible (first | exact Kept_regs (by assumption) (by assumption) | exact Kept_ram (by assumption) (by assumption) | exact Kept_mram (by assumption) (by assumption) | exact Kept_flt (by assumption) (by assumption) | exact Kept_var (by assumption) | exact Kept_ev (by assumption) (by assumption) | exact Kept_has (by assumption) | exact Kept_out (by assumption) | exact Kept_ctr (by assumption) | exact watchE_none (by assumption))
    | with_reducible refine Only_mk ?_ (.inr rfl) (.inr rfl) (.inr rfl) (.inr rfl) (.inr rfl) (.inr rfl) (.inr rfl) (.inr rfl) (.inr rfl) (.inr rfl) (.inr rfl) (.inr rfl) (.inr rfl) (.inr rfl) (.inr rfl) (.inr rfl) (.inr rfl) (.inr rfl) (.inr rfl) (.inl (mask_bit hk rfl)) (.inr rfl) (.inr rfl) (.inr rfl) (.inr rfl) (.inr rfl) (.inr rfl) (.inr rfl) (.inr rfl) (.inr rfl) (.inr rfl)
    | (first | exact mask_sub hk rfl | exact hk)
    | with_reducible (first | refine Kept_snd (by assumption) ?_ | refine Kept_fst (by assumption) ?_)
    | with_reducible exact Kept_of_next (by assumption)
    | with_reducible (refine Kept_of_O (by assumption) ?_)
    | with_reducible (first | refine Kept_regs (g := g) ?_ (by assumption) | refine Kept_ram (g := g) ?_ (by assumption) | refine Kept_mram (g := g) ?_ (by assumption) | refine Kept_flt (g := g) ?_ (by assumption) | refine Kept_var ?_ | refine Kept_ev ?_ (by assumption) | refine Kept_has ?_ | refine Kept_out ?_ | refine Kept_ctr ?_)
    | dsimp -zeta only
    | split)

theorem kept_dlyStart {x0} (h0 : Kept g x0) (hk : 4194304 &&& g.mask = 4194304) : Kept g (State.dlyStart x0) := by
  unfold State.dlyStart
  repeat' (first
    | with_reducible assumption
    | with_reducible refine fun _ => ?_
    | ((try lift_lets); intro s; refine (have hs : Kept g s := ?_; ?_); subst s; rotate_left; clear_value s; rotate_left)
    | ((try lift_lets); first | (intro (x : Mram); subst x) | (intro (x : Compositor); subst x) | (intro (x : Store 32); subst x) | (intro (x : Store 8); subst x) | (intro (x : State × _); subst x) | (intro (x : _ × State); subst x) | (intro (x : _ × _ × State); subst x) | (intro (x : State → _); subst x) | (intro (x : _ → State → _); subst x) | (intro (x : _ → State); subst x) | (intro x; clear_value x))
    | (simp only [↓Kept_mk_iff]; refine And.intro ?_ (And.intro ?_ (And.intro ?_ (And.intro ?_ (And.intro ?_ (And.intro ?_ (And.intro ?_ (And.intro ?_ (And.intro ?_ ?_)))))))))
    | with_reducible (first | apply kept_dlyOut | apply Kept_ite | apply Kept_foldl)
    | with_reducible (first | exact Kept_regs (by assumption) (by assumption) | exact Kept_ram (by assumption) (by assumption) | exact Kept_mram (by assumption) (by assumption) | exact Kept_flt (by assumption) (by assumption) | exact Kept_var (by assumption) | exact Kept_ev (by assumption) (by assumption) | exact Kept_has (by assumption) | exact Kept_out (by assumption) | exact Kept_ctr (by assumption) | exact watchE_none (by assumption))
    | with_reducible refine Only_mk ?_ (.inr rfl) (.inr rfl) (.inr rfl) (.inr rfl) (.inr rfl) (.inr rfl) (.inr rfl) (.inr rfl) (.inr rfl) (.inr rfl) (.inr rfl) (.inr rfl) (.inr rfl) (.inr rfl) (.inr rfl) (.inr rfl) (.inr rfl) (.inr rfl) (.inr rfl) (.inl (mask_bit hk rfl)) (.inr rfl) (.inr rfl) (.inr rfl) (.inr rfl) (.inr rfl) (.inr rfl) (.inr rfl) (.inr rfl) (.inr rfl) (.inr rfl)
    | (first | exact mask_sub hk rfl | exact hk)
    | with_reducible (first | refine Kept_snd (by assumption) ?_ | refine Kept_fst (by assumption) ?_)
    | with_reducible exact Kept_of_next (by assumption)
    | with_reducible (refine Kept_of_O (by assumption) ?_)
    | with_reducible (first | refine Kept_regs (g := g) ?_ (by assumption) | refine Kept_ram (g := g) ?_ (by assumption) | refine Kept_mram (g := g) ?_ (by assumption) | refine Kept_flt (g := g) ?_ (by assumption) | refine Kept_var ?_ | refine Kept_ev ?_ (by assumption) | refine Kept_has ?_ | refine Kept_out ?_ | refine Kept_ctr ?_)
    | dsimp -zeta only
    | split)

theorem kept_dlyTrip {x0 x1 x2} (h0 : Kept g x0) (hk : 793737292 &&& g.mask = 793737292) : Kept g (State.dlyTrip x0 x1 x2) := by
  unfold State.dlyTrip
  repeat' (first
    | with_reducible assumption
    | with_reducible refine fun _ => ?_
    | ((try lift_lets); intro s; refine (have hs : Kept g s := ?_; ?_); subst s; rotate_left; clear_value s; rotate_left)
    | ((try lift_lets); first | (intro (x : Mram); subst x) | (intro (x : Compositor); subst x) | (intro (x : Store 32); subst x) | (intro (x : Store 8); subst x) | (intro (x : State × _); subst x) | (intro (x : _ × State); subst x) | (intro (x : _ × _ × State); subst x) | (intro (x : State → _); subst x) | (intro (x : _ → State → _); subst x) | (intro (x : _ → State); subst x) | (intro x; clear_value x))
    | (simp only [↓Kept_mk_iff]; refine And.intro ?_ (And.intro ?_ (And.intro ?_ (And.intro ?_ (And.intro ?_ (And.intro ?_ (And.intro ?_ (And.intro ?_ (And.intro ?_ ?_)))))))))
    | with_reducible (first | apply kept_dlyEnd | apply kept_dlyAgain | apply kept_dlyDone | apply kept_posMod | apply Kept_ite)
    | with_reducible (first | exact Kept_regs (by assumption) (by assumption) | exact Kept_ram (by assumption) (by assumption) | exact Kept_mram (by assumption) (by assumption) | exact Kept_flt (by assumption) (by assumption) | exact Kept_var (by assumption) | exact Kept_ev (by assumption) (by assumption) | exact Kept_has (by assumption) | exact Kept_out (by assumption) | exact Kept_ctr (by assumption) | exact watchE_none (by assumption))
    | with_reducible refine Only_mk ?_ (.inr rfl) (.inr rfl) (.inr rfl) (.inr rfl) (.inr rfl) (.inr rfl) (.inr rfl) (.inr rfl) (.inr rfl) (.inr rfl) (.inr rfl) (.inr rfl) (.inr rfl) (.inr rfl) (.inr rfl) (.inr rfl) (.inr rfl) (.inr rfl) (.inr rfl) (.inl (mask_bit hk rfl)) (.inr rfl) (.inr rfl) (.inr rfl) (.inr rfl) (.inr rfl) (.inr rfl) (.inr rfl) (.inr rfl) (.inr rfl) (.inr rfl)
    | (first | exact mask_sub hk rfl | exact hk)
    | with_reducible (first | refine Kept_snd (by assumption) ?_ | refine Kept_fst (by assumption) ?_)
    | with_reducible exact Kept_of_next (by assumption)
    | with_reducible (refine Kept_of_O (by assumption) ?_)
    | with_reducible (first | refine Kept_regs (g := g) ?_ (by assumption) | refine Kept_ram (g := g) ?_ (by assumption) | refine Kept_mram (g := g) ?_ (by assumption) | refine Kept_flt (g := g) ?_ (by assumption) | refine Kept_var ?_ | refine Kept_ev ?_ (by assumption) | refine Kept_has ?_ | refine Kept_out ?_ | refine Kept_ctr ?_)
    | dsimp -zeta only
    | split)

theorem kept_dutyPreset {x0} (h0 : Kept g x0) : Kept g (State.dutyPreset x0) := by
  unfold State.dutyPreset
  repeat' (first | with_reducible assumption | with_reducible (first | apply kept_setReg | apply Kept_ite) | split | intro _)

theorem kept_swapAt {x0 x1 x2 x3} (h0 : Kept g x0) : Kept g (State.swapAt x0 x1 x2 x3).1 := by
  unfold State.swapAt
  repeat' (first
    | with_reducible assumption
    | with_reducible refine fun _ => ?_
    | ((try lift_lets); intro s; refine (have hs : Kept g s := ?_; ?_); subst s; rotate_left; clear_value s; rotate_left)
    | ((try lift_lets); first | (intro (x : Mram); subst x) | (intro (x : Compositor); subst x) | (intro (x : Store 32); subst x) | (intro (x : Store 8); subst x) | (intro (x : State × _); subst x) | (intro (x : _ × State); subst x) | (intro (x : _ × _ × State); subst x) | (intro (x : State → _); subst x) | (intro (x : _ → State → _); subst x) | (intro (x : _ → State); subst x) | (intro x; clear_value x))
    | (simp only [↓Kept_mk_iff]; refine And.intro ?_ (And.intro ?_ (And.intro ?_ (And.intro ?_ (And.intro ?_ (And.intro ?_ (And.intro ?_ (And.intro ?_ (And.intro ?_ ?_)))))))))
    | with_reducible (first | apply kept_raise | apply kept_cfgErr | apply Kept_ite | apply Kept_ite1 | apply Kept_ite2 | apply Kept_ite3)
    | with_reducible (first | exact Kept_regs (by assumption) (by assumption) | exact Kept_ram (by assumption) (by assumption) | exact Kept_mram (by assumption) (by assumption) | exact Kept_flt (by assumption) (by assumption) | exact Kept_var (by assumption) | exact Kept_ev (by assumption) (by assumption) | exact Kept_has (by assumption) | exact Kept_out (by assumption) | exact Kept_ctr (by assumption) | exact watchE_none (by assumption))
    | with_reducible refine Only_mk ?_ (.inr rfl) (.inr rfl) (.inr rfl) (.inr rfl) (.inr rfl) (.inr rfl) (.inr rfl) (.inr rfl) (.inr rfl) (.inr rfl) (.inr rfl) (.inr rfl) (.inr rfl) (.inr rfl) (.inr rfl) (.inr rfl) (.inr rfl) (.inr rfl) (.inr rfl) (.inr rfl) (.inr rfl) (.inr rfl) (.inr rfl) (.inr rfl) (.inr rfl) (.inr rfl) (.inr rfl) (.inr rfl) (.inr rfl) (.inr rfl)
    | (first | rfl)
    | with_reducible (first | refine Kept_snd (by assumption) ?_ | refine Kept_fst (by assumption) ?_)
    | with_reducible exact Kept_of_next (by assumption)
    | with_reducible (refine Kept_of_O (by assumption) ?_)
    | with_reducible (first | refine Kept_regs (g := g) ?_ (by assumption) | refine Kept_ram (g := g) ?_ (by assumption) | refine Kept_mram (g := g) ?_ (by assumption) | refine Kept_flt (g := g) ?_ (by assumption) | refine Kept_var ?_ | refine Kept_ev ?_ (by assumption) | refine Kept_has ?_ | refine Kept_out ?_ | refine Kept_ctr ?_)
    | dsimp -zeta only
    | split)

theorem kept_driveOff {x0} (h0 : Kept g x0) (hk : 8192 &&& g.mask = 8192) : Kept g (State.driveOff x0) := by
  unfold State.driveOff
  repeat' (first
    | with_reducible assumption
    | with_reducible refine fun _ => ?_
    | ((try lift_lets); intro s; refine (have hs : Kept g s := ?_; ?_); subst s; rotate_left; clear_value s; rotate_left)
    | ((try lift_lets); first | (intro (x : Mram); subst x) | (intro (x : Compositor); subst x) | (intro (x : Store 32); subst x) | (intro (x : Store 8); subst x) | (intro (x : State × _); subst x) | (intro (x : _ × State); subst x) | (intro (x : _ × _ × State); subst x) | (intro (x : State → _); subst x) | (intro (x : _ → State → _); subst x) | (intro (x : _ → State); subst x) | (intro x; clear_value x))
    | (simp only [↓Kept_mk_iff]; refine And.intro ?_ (And.intro ?_ (And.intro ?_ (And.intro ?_ (And.intro ?_ (And.intro ?_ (And.intro ?_ (And.intro ?_ (And.intro ?_ ?_)))))))))
    | with_reducible (first | apply kept_raiseIf | apply kept_putSlot | apply Kept_ite | apply Kept_foldl)
    | with_reducible (first | exact Kept_regs (by assumption) (by assumption) | exact Kept_ram (by assumption) (by assumption) | exact Kept_mram (by assumption) (by assumption) | exact Kept_flt (by assumption) (by assumption) | exact Kept_var (by assumption) | exact Kept_ev (by assumption) (by assumption) | exact Kept_has (by assumption) | exact Kept_out (by assumption) | exact Kept_ctr (by assumption) | exact watchE_none (by assumption))
    | with_reducible refine Only_mk ?_ (.inr rfl) (.inr rfl) (.inr rfl) (.inr rfl) (.inr rfl) (.inr rfl) (.inr rfl) (.inr rfl) (.inr rfl) (.inr rfl) (.inr rfl) (.inr rfl) (.inr rfl) (.inr rfl) (.inr rfl) (.inr rfl) (.inr rfl) (.inr rfl) (.inr rfl) (.inr rfl) (.inr rfl) (.inr rfl) (.inr rfl) (.inr rfl) (.inr rfl) (.inr rfl) (.inr rfl) (.inr rfl) (.inr rfl) (.inr rfl)
    | (first | exact mask_sub hk rfl | exact hk)
    | with_reducible (first | refine Kept_snd (by assumption) ?_ | refine Kept_fst (by assumption) ?_)
    | with_reducible exact Kept_of_next (by assumption)
    | with_reducible (refine Kept_of_O (by assumption) ?_)
    | with_reducible (first | refine Kept_regs (g := g) ?_ (by assumption) | refine Kept_ram (g := g) ?_ (by assumption) | refine Kept_mram (g := g) ?_ (by assumption) | refine Kept_flt (g := g) ?_ (by assumption) | refine Kept_var ?_ | refine Kept_ev ?_ (by assumption) | refine Kept_has ?_ | refine Kept_out ?_ | refine Kept_ctr ?_)
    | dsimp -zeta only
    | split)

theorem kept_feedbackLost {x0 x1} (h0 : Kept g x0) (hk : 739211328 &&& g.mask = 739211328) : Kept g (State.feedbackLost x0 x1) := by
  unfold State.feedbackLost
  repeat' (first | with_reducible assumption | exact mask_sub hk rfl | with_reducible (first | apply kept_raise | apply kept_putSlot | apply kept_pwmRefresh | apply kept_setCause | apply kept_driveOff | apply kept_thmOutputs | apply Kept_ite) | split | intro _)

theorem kept_limiter {x0 x1} (h0 : Kept g x0) (hk : 739211328 &&& g.mask = 739211328) : Kept g (State.limiter x0 x1).1 := by
  unfold State.limiter
  repeat' (first
    | with_reducible assumption
    | with_reducible refine fun _ => ?_
    | ((try lift_lets); intro s; refine (have hs : Kept g s := ?_; ?_); subst s; rotate_left; clear_value s; rotate_left)
    | ((try lift_lets); first | (intro (x : Mram); subst x) | (intro (x : Compositor); subst x) | (intro (x : Store 32); subst x) | (intro (x : Store 8); subst x) | (intro (x : State × _); subst x) | (intro (x : _ × State); subst x) | (intro (x : _ × _ × State); subst x) | (intro (x : State → _); subst x) | (intro (x : _ → State → _); subst x) | (intro (x : _ → State); subst x) | (intro x; clear_value x))
    | (simp only [↓Kept_mk_iff]; refine And.intro ?_ (And.intro ?_ (And.intro ?_ (And.intro ?_ (And.intro ?_ (And.intro ?_ (And.intro ?_ (And.intro ?_ (And.intro ?_ ?_)))))))))
    | with_reducible (first | apply kept_swapAt | apply kept_putSlot | apply kept_feedbackLost | apply Kept_ite | apply Kept_ite1 | apply Kept_ite2 | apply Kept_ite3)
    | with_reducible (first | exact Kept_regs (by assumption) (by assumption) | exact Kept_ram (by assumption) (by assumption) | exact Kept_mram (by assumption) (by assumption) | exact Kept_flt (by assumption) (by assumption) | exact Kept_var (by assumption) | exact Kept_ev (by assumption) (by assumption) | exact Kept_has (by assumption) | exact Kept_out (by assumption) | exact Kept_ctr (by assumption) | exact watchE_none (by assumption))
    | with_reducible refine Only_mk ?_ (.inr rfl) (.inr rfl) (.inr rfl) (.inr rfl) (.inr rfl) (.inr rfl) (.inr rfl) (.inr rfl) (.inr rfl) (.inr rfl) (.inr rfl) (.inr rfl) (.inr rfl) (.inr rfl) (.inr rfl) (.inr rfl) (.inr rfl) (.inr rfl) (.inr rfl) (.inr rfl) (.inr rfl) (.inr rfl) (.inr rfl) (.inr rfl) (.inr rfl) (.inr rfl) (.inr rfl) (.inr rfl) (.inr rfl) (.inr rfl)
    | (first | exact mask_sub hk rfl | exact hk)
    | with_reducible (first | refine Kept_snd (by assumption) ?_ | refine Kept_fst (by assumption) ?_)
    | with_reducible exact Kept_of_next (by assumption)
    | with_reducible (refine Kept_of_O (by assumption) ?_)
    | with_reducible (first | refine Kept_regs (g := g) ?_ (by assumption) | refine Kept_ram (g := g) ?_ (by assumption) | refine Kept_mram (g := g) ?_ (by assumption) | refine Kept_flt (g := g) ?_ (by assumption) | refine Kept_var ?_ | refine Kept_ev ?_ (by assumption) | refine Kept_has ?_ | refine Kept_out ?_ | refine Kept_ctr ?_)
    | dsimp -zeta only
    | split)

theorem kept_perturbValue {x0} (h0 : Kept g x0) : Kept g (State.perturbValue x0).2 := by
  unfold State.perturbValue
  repeat' (first | with_reducible assumption | with_reducible (first | apply kept_fresh | apply Kept_ite) | split | intro _)

theorem kept_handDuty {x0 x1} (h0 : Kept g x0) (hk : 65536 &&& g.mask = 65536) : Kept g (State.handDuty x0 x1) := by
  unfold State.handDuty
  repeat' (first
    | with_reducible assumption
    | with_reducible refine fun _ => ?_
    | ((try lift_lets); intro s; refine (have hs : Kept g s := ?_; ?_); subst s; rotate_left; clear_value s; rotate_left)
    | ((try lift_lets); first | (intro (x : Mram); subst x) | (intro (x : Compositor); subst x) | (intro (x : Store 32); subst x) | (intro (x : Store 8); subst x) | (intro (x : State × _); subst x) | (intro (x : _ × State); subst x) | (intro (x : _ × _ × State); subst x) | (intro (x : State → _); subst x) | (intro (x : _ → State → _); subst x) | (intro (x : _ → State); subst x) | (intro x; clear_value x))
    | (simp only [↓Kept_mk_iff]; refine And.intro ?_ (And.intro ?_ (And.intro ?_ (And.intro ?_ (And.intro ?_ (And.intro ?_ (And.intro ?_ (And.intro ?_ (And.intro ?_ ?_)))))))))
    | with_reducible (first | apply kept_setReg | apply kept_raiseIf | apply kept_countReg | apply Kept_ite)
    | with_reducible (first | exact Kept_regs (by assumption) (by assumption) | exact Kept_ram (by assumption) (by assumption) | exact Kept_mram (by assumption) (by assumption) | exact Kept_flt (by assumption) (by assumption) | exact Kept_var (by assumption) | exact Kept_ev (by assumption) (by assumption) | exact Kept_has (by assumption) | exact Kept_out (by assumption) | exact Kept_ctr (by assumption) | exact watchE_none (by assumption))
    | with_reducible refine Only_mk ?_ (.inr rfl) (.inr rfl) (.inr rfl) (.inr rfl) (.inr rfl) (.inr rfl) (.inr rfl) (.inr rfl) (.inr rfl) (.inr rfl) (.inr rfl) (.inr rfl) (.inr rfl) (.inl (mask_bit hk rfl)) (.inr rfl) (.inr rfl) (.inr rfl) (.inr rfl) (.inr rfl) (.inr rfl) (.inr rfl) (.inr rfl) (.inr rfl) (.inr rfl) (.inr rfl) (.inr rfl) (.inr rfl) (.inr rfl) (.inr rfl) (.inr rfl)
    | (first | exact mask_sub hk rfl | exact hk)
    | with_reducible (first | refine Kept_snd (by assumption) ?_ | refine Kept_fst (by assumption) ?_)
    | with_reducible exact Kept_of_next (by assumption)
    | with_reducible (refine Kept_of_O (by assumption) ?_)
    | with_reducible (first | refine Kept_regs (g := g) ?_ (by assumption) | refine Kept_ram (g := g) ?_ (by assumption) | refine Kept_mram (g := g) ?_ (by assumption) | refine Kept_flt (g := g) ?_ (by assumption) | refine Kept_var ?_ | refine Kept_ev ?_ (by assumption) | refine Kept_has ?_ | refine Kept_out ?_ | refine Kept_ctr ?_)
    | dsimp -zeta only
    | split)

theorem kept_slot0 {x0 x1 x2} (h0 : Kept g x0) (hk : 739211328 &&& g.mask = 739211328) : Kept g (State.slot0 x0 x1 x2) := by
  unfold State.slot0
  repeat' (first | with_reducible assumption | exact mask_sub hk rfl | with_reducible (first | apply kept_putSlot | apply kept_swapAt | apply kept_handDuty | apply kept_feedbackLost | apply Kept_ite) | split | intro _)

theorem kept_driveLoops {x0} (h0 : Kept g x0) (hk : 739211328 &&& g.mask = 739211328) : Kept g (State.driveLoops x0) := by
  unfold State.driveLoops
  repeat' (first | with_reducible assumption | exact mask_sub hk rfl | with_reducible (first | apply kept_dutyPreset | apply kept_limiter | apply kept_perturbValue | apply kept_asyClip | apply kept_slot0 | apply Kept_ite) | split | intro _)

theorem kept_egress {x0 x1 x2} (h0 : Kept g x0) : Kept g (State.egress x0 x1 x2) := by
  unfold State.egress
  repeat' (first | with_reducible assumption | with_reducible (first | apply kept_emit | apply kept_countReg | apply Kept_ite) | split | intro _)

theorem kept_ellTick {x0} (h0 : Kept g x0) (hk : 131072 &&& g.mask = 131072) : Kept g (State.ellTick x0) := by
  unfold State.ellTick
  repeat' (first
    | with_reducible assumption
    | with_reducible refine fun _ => ?_
    | ((try lift_lets); intro s; refine (have hs : Kept g s := ?_; ?_); subst s; rotate_left; clear_value s; rotate_left)
    | ((try lift_lets); first | (intro (x : Mram); subst x) | (intro (x : Compositor); subst x) | (intro (x : Store 32); subst x) | (intro (x : Store 8); subst x) | (intro (x : State × _); subst x) | (intro (x : _ × State); subst x) | (intro (x : _ × _ × State); subst x) | (intro (x : State → _); subst x) | (intro (x : _ → State → _); subst x) | (intro (x : _ → State); subst x) | (intro x; clear_value x))
    | (simp only [↓Kept_mk_iff]; refine And.intro ?_ (And.intro ?_ (And.intro ?_ (And.intro ?_ (And.intro ?_ (And.intro ?_ (And.intro ?_ (And.intro ?_ (And.intro ?_ ?_)))))))))
    | with_reducible (first | apply kept_setReg | apply Kept_ite)
    | with_reducible (first | exact Kept_regs (by assumption) (by assumption) | exact Kept_ram (by assumption) (by assumption) | exact Kept_mram (by assumption) (by assumption) | exact Kept_flt (by assumption) (by assumption) | exact Kept_var (by assumption) | exact Kept_ev (by assumption) (by assumption) | exact Kept_has (by assumption) | exact Kept_out (by assumption) | exact Kept_ctr (by assumption) | exact watchE_none (by assumption))
    | with_reducible refine Only_mk ?_ (.inr rfl) (.inr rfl) (.inr rfl) (.inr rfl) (.inr rfl) (.inr rfl) (.inr rfl) (.inr rfl) (.inr rfl) (.inr rfl) (.inr rfl) (.inr rfl) (.inr rfl) (.inr rfl) (.inl (mask_bit hk rfl)) (.inr rfl) (.inr rfl) (.inr rfl) (.inr rfl) (.inr rfl) (.inr rfl) (.inr rfl) (.inr rfl) (.inr rfl) (.inr rfl) (.inr rfl) (.inr rfl) (.inr rfl) (.inr rfl) (.inr rfl)
    | (first | exact mask_sub hk rfl | exact hk)
    | with_reducible (first | refine Kept_snd (by assumption) ?_ | refine Kept_fst (by assumption) ?_)
    | with_reducible exact Kept_of_next (by assumption)
    | with_reducible (refine Kept_of_O (by assumption) ?_)
    | with_reducible (first | refine Kept_regs (g := g) ?_ (by assumption) | refine Kept_ram (g := g) ?_ (by assumption) | refine Kept_mram (g := g) ?_ (by assumption) | refine Kept_flt (g := g) ?_ (by assumption) | refine Kept_var ?_ | refine Kept_ev ?_ (by assumption) | refine Kept_has ?_ | refine Kept_out ?_ | refine Kept_ctr ?_)
    | dsimp -zeta only
    | split)

theorem kept_emitFrame {x0 x1 x2} (h0 : Kept g x0) : Kept g (State.emitFrame x0 x1 x2) := by
  unfold State.emitFrame
  repeat' (first | with_reducible assumption | with_reducible (first | apply kept_emit | apply Kept_ite) | split | intro _)

theorem kept_enumSeen {x0 x1} (h0 : Kept g x0) (hk : 541065216 &&& g.mask = 541065216) : Kept g (State.enumSeen x0 x1) := by
  unfold State.enumSeen
  repeat' (first | with_reducible assumption | exact mask_sub hk rfl | with_reducible (first | apply kept_frameIn | apply kept_fwdBytes | apply Kept_ite) | split | intro _)

theorem kept_errCount {x0 x1 x2 x3} (h0 : Kept g x0) : Kept g (State.errCount x0 x1 x2 x3) := by
  unfold State.errCount
  repeat' (first | with_reducible assumption | with_reducible (first | apply kept_setF | apply kept_raiseIf | apply kept_raise | apply kept_setReg | apply Kept_ite) | split | intro _)

theorem kept_estAnchor {x0 x1 x2} (h0 : Kept g x0) (hk : 1327104 &&& g.mask = 1327104) : Kept g (State.estAnchor x0 x1 x2) := by
  unfold State.estAnchor
  repeat' (first
    | with_reducible assumption
    | with_reducible refine fun _ => ?_
    | ((try lift_lets); intro s; refine (have hs : Kept g s := ?_; ?_); subst s; rotate_left; clear_value s; rotate_left)
    | ((try lift_lets); first | (intro (x : Mram); subst x) | (intro (x : Compositor); subst x) | (intro (x : Store 32); subst x) | (intro (x : Store 8); subst x) | (intro (x : State × _); subst x) | (intro (x : _ × State); subst x) | (intro (x : _ × _ × State); subst x) | (intro (x : State → _); subst x) | (intro (x : _ → State → _); subst x) | (intro (x : _ → State); subst x) | (intro x; clear_value x))
    | (simp only [↓Kept_mk_iff]; refine And.intro ?_ (And.intro ?_ (And.intro ?_ (And.intro ?_ (And.intro ?_ (And.intro ?_ (And.intro ?_ (And.intro ?_ (And.intro ?_ ?_)))))))))
    | with_reducible (first | apply kept_asyCalm | apply kept_anchorUpdate | apply kept_setF | apply kept_anchorEnd | apply Kept_ite)
    | with_reducible (first | exact Kept_regs (by assumption) (by assumption) | exact Kept_ram (by assumption) (by assumption) | exact Kept_mram (by assumption) (by assumption) | exact Kept_flt (by assumption) (by assumption) | exact Kept_var (by assumption) | exact Kept_ev (by assumption) (by assumption) | exact Kept_has (by assumption) | exact Kept_out (by assumption) | exact Kept_ctr (by assumption) | exact watchE_none (by assumption))
    | with_reducible refine Only_mk ?_ (.inr rfl) (.inr rfl) (.inr rfl) (.inr rfl) (.inr rfl) (.inr rfl) (.inr rfl) (.inr rfl) (.inr rfl) (.inr rfl) (.inr rfl) (.inr rfl) (.inr rfl) (.inr rfl) (.inr rfl) (.inr rfl) (.inr rfl) (.inl (mask_bit hk rfl)) (.inr rfl) (.inr rfl) (.inr rfl) (.inr rfl) (.inr rfl) (.inr rfl) (.inr rfl) (.inr rfl) (.inr rfl) (.inr rfl) (.inr rfl) (.inr rfl)
    | (first | exact mask_sub hk rfl | exact hk)
    | with_reducible (first | refine Kept_snd (by assumption) ?_ | refine Kept_fst (by assumption) ?_)
    | with_reducible exact Kept_of_next (by assumption)
    | with_reducible (refine Kept_of_O (by assumption) ?_)
    | with_reducible (first | refine Kept_regs (g := g) ?_ (by assumption) | refine Kept_ram (g := g) ?_ (by assumption) | refine Kept_mram (g := g) ?_ (by assumption) | refine Kept_flt (g := g) ?_ (by assumption) | refine Kept_var ?_ | refine Kept_ev ?_ (by assumption) | refine Kept_has ?_ | refine Kept_out ?_ | refine Kept_ctr ?_)
    | dsimp -zeta only
    | split)

theorem kept_estCount {x0} (h0 : Kept g x0) (hk : 1048576 &&& g.mask = 1048576) : Kept g (State.estCount x0) := by
  unfold State.estCount
  repeat' (first
    | with_reducible assumption
    | with_reducible refine fun _ => ?_
    | ((try lift_lets); intro s; refine (have hs : Kept g s := ?_; ?_); subst s; rotate_left; clear_value s; rotate_left)
    | ((try lift_lets); first | (intro (x : Mram); subst x) | (intro (x : Compositor); subst x) | (intro (x : Store 32); subst x) | (intro (x : Store 8); subst x) | (intro (x : State × _); subst x) | (intro (x : _ × State); subst x) | (intro (x : _ × _ × State); subst x) | (intro (x : State → _); subst x) | (intro (x : _ → State → _); subst x) | (intro (x : _ → State); subst x) | (intro x; clear_value x))
    | (simp only [↓Kept_mk_iff]; refine And.intro ?_ (And.intro ?_ (And.intro ?_ (And.intro ?_ (And.intro ?_ (And.intro ?_ (And.intro ?_ (And.intro ?_ (And.intro ?_ ?_)))))))))
    | with_reducible (first | apply Kept_ite)
    | with_reducible (first | exact Kept_regs (by assumption) (by assumption) | exact Kept_ram (by assumption) (by assumption) | exact Kept_mram (by assumption) (by assumption) | exact Kept_flt (by assumption) (by assumption) | exact Kept_var (by assumption) | exact Kept_ev (by assumption) (by assumption) | exact Kept_has (by assumption) | exact Kept_out (by assumption) | exact Kept_ctr (by assumption) | exact watchE_none (by assumption))
    | with_reducible refine Only_mk ?_ (.inr rfl) (.inr rfl) (.inr rfl) (.inr rfl) (.inr rfl) (.inr rfl) (.inr rfl) (.inr rfl) (.inr rfl) (.inr rfl) (.inr rfl) (.inr rfl) (.inr rfl) (.inr rfl) (.inr rfl) (.inr rfl) (.inr rfl) (.inl (mask_bit hk rfl)) (.inr rfl) (.inr rfl) (.inr rfl) (.inr rfl) (.inr rfl) (.inr rfl) (.inr rfl) (.inr rfl) (.inr rfl) (.inr rfl) (.inr rfl) (.inr rfl)
    | (first | exact mask_sub hk rfl | exact hk)
    | with_reducible (first | refine Kept_snd (by assumption) ?_ | refine Kept_fst (by assumption) ?_)
    | with_reducible exact Kept_of_next (by assumption)
    | with_reducible (refine Kept_of_O (by assumption) ?_)
    | with_reducible (first | refine Kept_regs (g := g) ?_ (by assumption) | refine Kept_ram (g := g) ?_ (by assumption) | refine Kept_mram (g := g) ?_ (by assumption) | refine Kept_flt (g := g) ?_ (by assumption) | refine Kept_var ?_ | refine Kept_ev ?_ (by assumption) | refine Kept_has ?_ | refine Kept_out ?_ | refine Kept_ctr ?_)
    | dsimp -zeta only
    | split)

theorem kept_estFlags {x0} (h0 : Kept g x0) (hk : 1048576 &&& g.mask = 1048576) : Kept g (State.estFlags x0) := by
  unfold State.estFlags
  repeat' (first | with_reducible assumption | exact mask_sub hk rfl | with_reducible (first | apply kept_cellsMap | apply Kept_ite) | split | intro _)

theorem kept_estLearn {x0 x1} (h0 : Kept g x0) (hk : 1048576 &&& g.mask = 1048576) : Kept g (State.estLearn x0 x1) := by
  unfold State.estLearn
  repeat' (first
    | with_reducible assumption
    | with_reducible refine fun _ => ?_
    | ((try lift_lets); intro s; refine (have hs : Kept g s := ?_; ?_); subst s; rotate_left; clear_value s; rotate_left)
    | ((try lift_lets); first | (intro (x : Mram); subst x) | (intro (x : Compositor); subst x) | (intro (x : Store 32); subst x) | (intro (x : Store 8); subst x) | (intro (x : State × _); subst x) | (intro (x : _ × State); subst x) | (intro (x : _ × _ × State); subst x) | (intro (x : State → _); subst x) | (intro (x : _ → State → _); subst x) | (intro (x : _ → State); subst x) | (intro x; clear_value x))
    | (simp only [↓Kept_mk_iff]; refine And.intro ?_ (And.intro ?_ (And.intro ?_ (And.intro ?_ (And.intro ?_ (And.intro ?_ (And.intro ?_ (And.intro ?_ (And.intro ?_ ?_)))))))))
    | with_reducible (first | apply Kept_ite)
    | with_reducible (first | exact Kept_regs (by assumption) (by assumption) | exact Kept_ram (by assumption) (by assumption) | exact Kept_mram (by assumption) (by assumption) | exact Kept_flt (by assumption) (by assumption) | exact Kept_var (by assumption) | exact Kept_ev (by assumption) (by assumption) | exact Kept_has (by assumption) | exact Kept_out (by assumption) | exact Kept_ctr (by assumption) | exact watchE_none (by assumption))
    | with_reducible refine Only_mk ?_ (.inr rfl) (.inr rfl) (.inr rfl) (.inr rfl) (.inr rfl) (.inr rfl) (.inr rfl) (.inr rfl) (.inr rfl) (.inr rfl) (.inr rfl) (.inr rfl) (.inr rfl) (.inr rfl) (.inr rfl) (.inr rfl) (.inr rfl) (.inl (mask_bit hk rfl)) (.inr rfl) (.inr rfl) (.inr rfl) (.inr rfl) (.inr rfl) (.inr rfl) (.inr rfl) (.inr rfl) (.inr rfl) (.inr rfl) (.inr rfl) (.inr rfl)
    | (first | exact mask_sub hk rfl | exact hk)
    | with_reducible (first | refine Kept_snd (by assumption) ?_ | refine Kept_fst (by assumption) ?_)
    | with_reducible exact Kept_of_next (by assumption)
    | with_reducible (refine Kept_of_O (by assumption) ?_)
    | with_reducible (first | refine Kept_regs (g := g) ?_ (by assumption) | refine Kept_ram (g := g) ?_ (by assumption) | refine Kept_mram (g := g) ?_ (by assumption) | refine Kept_flt (g := g) ?_ (by assumption) | refine Kept_var ?_ | refine Kept_ev ?_ (by assumption) | refine Kept_has ?_ | refine Kept_out ?_ | refine Kept_ctr ?_)
    | dsimp -zeta only
    | split)

theorem kept_estPublish {x0 x1} (h0 : Kept g x0) (hk : 1048576 &&& g.mask = 1048576) : Kept g (State.estPublish x0 x1) := by
  unfold State.estPublish
  repeat' (first
    | with_reducible assumption
    | with_reducible refine fun _ => ?_
    | ((try lift_lets); intro s; refine (have hs : Kept g s := ?_; ?_); subst s; rotate_left; clear_value s; rotate_left)
    | ((try lift_lets); first | (intro (x : Mram); subst x) | (intro (x : Compositor); subst x) | (intro (x : Store 32); subst x) | (intro (x : Store 8); subst x) | (intro (x : State × _); subst x) | (intro (x : _ × State); subst x) | (intro (x : _ × _ × State); subst x) | (intro (x : State → _); subst x) | (intro (x : _ → State → _); subst x) | (intro (x : _ → State); subst x) | (intro x; clear_value x))
    | (simp only [↓Kept_mk_iff]; refine And.intro ?_ (And.intro ?_ (And.intro ?_ (And.intro ?_ (And.intro ?_ (And.intro ?_ (And.intro ?_ (And.intro ?_ (And.intro ?_ ?_)))))))))
    | with_reducible (first | apply kept_setF | apply kept_setReg | apply kept_raise | apply Kept_ite)
    | with_reducible (first | exact Kept_regs (by assumption) (by assumption) | exact Kept_ram (by assumption) (by assumption) | exact Kept_mram (by assumption) (by assumption) | exact Kept_flt (by assumption) (by assumption) | exact Kept_var (by assumption) | exact Kept_ev (by assumption) (by assumption) | exact Kept_has (by assumption) | exact Kept_out (by assumption) | exact Kept_ctr (by assumption) | exact watchE_none (by assumption))
    | with_reducible refine Only_mk ?_ (.inr rfl) (.inr rfl) (.inr rfl) (.inr rfl) (.inr rfl) (.inr rfl) (.inr rfl) (.inr rfl) (.inr rfl) (.inr rfl) (.inr rfl) (.inr rfl) (.inr rfl) (.inr rfl) (.inr rfl) (.inr rfl) (.inr rfl) (.inl (mask_bit hk rfl)) (.inr rfl) (.inr rfl) (.inr rfl) (.inr rfl) (.inr rfl) (.inr rfl) (.inr rfl) (.inr rfl) (.inr rfl) (.inr rfl) (.inr rfl) (.inr rfl)
    | (first | exact mask_sub hk rfl | exact hk)
    | with_reducible (first | refine Kept_snd (by assumption) ?_ | refine Kept_fst (by assumption) ?_)
    | with_reducible exact Kept_of_next (by assumption)
    | with_reducible (refine Kept_of_O (by assumption) ?_)
    | with_reducible (first | refine Kept_regs (g := g) ?_ (by assumption) | refine Kept_ram (g := g) ?_ (by assumption) | refine Kept_mram (g := g) ?_ (by assumption) | refine Kept_flt (g := g) ?_ (by assumption) | refine Kept_var ?_ | refine Kept_ev ?_ (by assumption) | refine Kept_has ?_ | refine Kept_out ?_ | refine Kept_ctr ?_)
    | dsimp -zeta only
    | split)

theorem kept_estResume {x0 x1} (h0 : Kept g x0) (hk : 1048576 &&& g.mask = 1048576) : Kept g (State.estResume x0 x1) := by
  unfold State.estResume
  repeat' (first
    | with_reducible assumption
    | with_reducible refine fun _ => ?_
    | ((try lift_lets); intro s; refine (have hs : Kept g s := ?_; ?_); subst s; rotate_left; clear_value s; rotate_left)
    | ((try lift_lets); first | (intro (x : Mram); subst x) | (intro (x : Compositor); subst x) | (intro (x : Store 32); subst x) | (intro (x : Store 8); subst x) | (intro (x : State × _); subst x) | (intro (x : _ × State); subst x) | (intro (x : _ × _ × State); subst x) | (intro (x : State → _); subst x) | (intro (x : _ → State → _); subst x) | (intro (x : _ → State); subst x) | (intro x; clear_value x))
    | (simp only [↓Kept_mk_iff]; refine And.intro ?_ (And.intro ?_ (And.intro ?_ (And.intro ?_ (And.intro ?_ (And.intro ?_ (And.intro ?_ (And.intro ?_ (And.intro ?_ ?_)))))))))
    | with_reducible (first | apply kept_cellsMap | apply kept_raise | apply kept_setB | apply Kept_ite)
    | with_reducible (first | exact Kept_regs (by assumption) (by assumption) | exact Kept_ram (by assumption) (by assumption) | exact Kept_mram (by assumption) (by assumption) | exact Kept_flt (by assumption) (by assumption) | exact Kept_var (by assumption) | exact Kept_ev (by assumption) (by assumption) | exact Kept_has (by assumption) | exact Kept_out (by assumption) | exact Kept_ctr (by assumption) | exact watchE_none (by assumption))
    | with_reducible refine Only_mk ?_ (.inr rfl) (.inr rfl) (.inr rfl) (.inr rfl) (.inr rfl) (.inr rfl) (.inr rfl) (.inr rfl) (.inr rfl) (.inr rfl) (.inr rfl) (.inr rfl) (.inr rfl) (.inr rfl) (.inr rfl) (.inr rfl) (.inr rfl) (.inl (mask_bit hk rfl)) (.inr rfl) (.inr rfl) (.inr rfl) (.inr rfl) (.inr rfl) (.inr rfl) (.inr rfl) (.inr rfl) (.inr rfl) (.inr rfl) (.inr rfl) (.inr rfl)
    | (first | exact mask_sub hk rfl | exact hk)
    | with_reducible (first | refine Kept_snd (by assumption) ?_ | refine Kept_fst (by assumption) ?_)
    | with_reducible exact Kept_of_next (by assumption)
    | with_reducible (refine Kept_of_O (by assumption) ?_)
    | with_reducible (first | refine Kept_regs (g := g) ?_ (by assumption) | refine Kept_ram (g := g) ?_ (by assumption) | refine Kept_mram (g := g) ?_ (by assumption) | refine Kept_flt (g := g) ?_ (by assumption) | refine Kept_var ?_ | refine Kept_ev ?_ (by assumption) | refine Kept_has ?_ | refine Kept_out ?_ | refine Kept_ctr ?_)
    | dsimp -zeta only
    | split)

theorem kept_estString {x0 x1 x2 x3} (h0 : Kept g x0) (hk : 1048576 &&& g.mask = 1048576) : Kept g (State.estString x0 x1 x2 x3) := by
  unfold State.estString
  repeat' (first
    | with_reducible assumption
    | with_reducible refine fun _ => ?_
    | ((try lift_lets); intro s; refine (have hs : Kept g s := ?_; ?_); subst s; rotate_left; clear_value s; rotate_left)
    | ((try lift_lets); first | (intro (x : Mram); subst x) | (intro (x : Compositor); subst x) | (intro (x : Store 32); subst x) | (intro (x : Store 8); subst x) | (intro (x : State × _); subst x) | (intro (x : _ × State); subst x) | (intro (x : _ × _ × State); subst x) | (intro (x : State → _); subst x) | (intro (x : _ → State → _); subst x) | (intro (x : _ → State); subst x) | (intro x; clear_value x))
    | (simp only [↓Kept_mk_iff]; refine And.intro ?_ (And.intro ?_ (And.intro ?_ (And.intro ?_ (And.intro ?_ (And.intro ?_ (And.intro ?_ (And.intro ?_ (And.intro ?_ ?_)))))))))
    | with_reducible (first | apply kept_cellsMap | apply kept_setReg | apply kept_setF | apply Kept_ite | apply Kept_foldl)
    | with_reducible (first | exact Kept_regs (by assumption) (by assumption) | exact Kept_ram (by assumption) (by assumption) | exact Kept_mram (by assumption) (by assumption) | exact Kept_flt (by assumption) (by assumption) | exact Kept_var (by assumption) | exact Kept_ev (by assumption) (by assumption) | exact Kept_has (by assumption) | exact Kept_out (by assumption) | exact Kept_ctr (by assumption) | exact watchE_none (by assumption))
    | with_reducible refine Only_mk ?_ (.inr rfl) (.inr rfl) (.inr rfl) (.inr rfl) (.inr rfl) (.inr rfl) (.inr rfl) (.inr rfl) (.inr rfl) (.inr rfl) (.inr rfl) (.inr rfl) (.inr rfl) (.inr rfl) (.inr rfl) (.inr rfl) (.inr rfl) (.inl (mask_bit hk rfl)) (.inr rfl) (.inr rfl) (.inr rfl) (.inr rfl) (.inr rfl) (.inr rfl) (.inr rfl) (.inr rfl) (.inr rfl) (.inr rfl) (.inr rfl) (.inr rfl)
    | (first | exact mask_sub hk rfl | exact hk)
    | with_reducible (first | refine Kept_snd (by assumption) ?_ | refine Kept_fst (by assumption) ?_)
    | with_reducible exact Kept_of_next (by assumption)
    | with_reducible (refine Kept_of_O (by assumption) ?_)
    | with_reducible (first | refine Kept_regs (g := g) ?_ (by assumption) | refine Kept_ram (g := g) ?_ (by assumption) | refine Kept_mram (g := g) ?_ (by assumption) | refine Kept_flt (g := g) ?_ (by assumption) | refine Kept_var ?_ | refine Kept_ev ?_ (by assumption) | refine Kept_has ?_ | refine Kept_out ?_ | refine Kept_ctr ?_)
    | dsimp -zeta only
    | split)

theorem kept_socEnter {x0 x1} (h0 : Kept g x0) (hk : 1048576 &&& g.mask = 1048576) : Kept g (State.socEnter x0 x1) := by
  unfold State.socEnter
  repeat' (first
    | with_reducible assumption
    | with_reducible refine fun _ => ?_
    | ((try lift_lets); intro s; refine (have hs : Kept g s := ?_; ?_); subst s; rotate_left; clear_value s; rotate_left)
    | ((try lift_lets); first | (intro (x : Mram); subst x) | (intro (x : Compositor); subst x) | (intro (x : Store 32); subst x) | (intro (x : Store 8); subst x) | (intro (x : State × _); subst x) | (intro (x : _ × State); subst x) | (intro (x : _ × _ × State); subst x) | (intro (x : State → _); subst x) | (intro (x : _ → State → _); subst x) | (intro (x : _ → State); subst x) | (intro x; clear_value x))
    | (simp only [↓Kept_mk_iff]; refine And.intro ?_ (And.intro ?_ (And.intro ?_ (And.intro ?_ (And.intro ?_ (And.intro ?_ (And.intro ?_ (And.intro ?_ (And.intro ?_ ?_)))))))))
    | with_reducible (first | apply kept_setF | apply kept_cellsMap | apply kept_setB | apply Kept_ite)
    | with_reducible (first | exact Kept_regs (by assumption) (by assumption) | exact Kept_ram (by assumption) (by assumption) | exact Kept_mram (by assumption) (by assumption) | exact Kept_flt (by assumption) (by assumption) | exact Kept_var (by assumption) | exact Kept_ev (by assumption) (by assumption) | exact Kept_has (by assumption) | exact Kept_out (by assumption) | exact Kept_ctr (by assumption) | exact watchE_none (by assumption))
    | with_reducible refine Only_mk ?_ (.inr rfl) (.inr rfl) (.inr rfl) (.inr rfl) (.inr rfl) (.inr rfl) (.inr rfl) (.inr rfl) (.inr rfl) (.inr rfl) (.inr rfl) (.inr rfl) (.inr rfl) (.inr rfl) (.inr rfl) (.inr rfl) (.inr rfl) (.inl (mask_bit hk rfl)) (.inr rfl) (.inr rfl) (.inr rfl) (.inr rfl) (.inr rfl) (.inr rfl) (.inr rfl) (.inr rfl) (.inr rfl) (.inr rfl) (.inr rfl) (.inr rfl)
    | (first | exact mask_sub hk rfl | exact hk)
    | with_reducible (first | refine Kept_snd (by assumption) ?_ | refine Kept_fst (by assumption) ?_)
    | with_reducible exact Kept_of_next (by assumption)
    | with_reducible (refine Kept_of_O (by assumption) ?_)
    | with_reducible (first | refine Kept_regs (g := g) ?_ (by assumption) | refine Kept_ram (g := g) ?_ (by assumption) | refine Kept_mram (g := g) ?_ (by assumption) | refine Kept_flt (g := g) ?_ (by assumption) | refine Kept_var ?_ | refine Kept_ev ?_ (by assumption) | refine Kept_has ?_ | refine Kept_out ?_ | refine Kept_ctr ?_)
    | dsimp -zeta only
    | split)

end Sys2Proof.Machine
end

