-- ==== Sys2Proof/Laws/Kept4.lean ====
section
/-! SUPPORT. What operations and meanings keep (Laws/Kept.lean), part 4 of 8. -/

set_option linter.all false
set_option Elab.async false

namespace Sys2Proof.Machine

variable {g : Watch}

theorem kept_socEmpty {x0 x1 x2} (h0 : Kept g x0) (hk : 1048576 &&& g.mask = 1048576) : Kept g (State.socEmpty x0 x1 x2) := by
  unfold State.socEmpty
  repeat' (first | with_reducible assumption | exact mask_sub hk rfl | with_reducible (first | apply kept_socEnter | apply kept_setI | apply kept_cellsMap | apply kept_raise | apply Kept_ite) | split | intro _)

theorem kept_socFull {x0 x1 x2} (h0 : Kept g x0) (hk : 1048576 &&& g.mask = 1048576) : Kept g (State.socFull x0 x1 x2) := by
  unfold State.socFull
  repeat' (first | with_reducible assumption | exact mask_sub hk rfl | with_reducible (first | apply kept_socEnter | apply kept_setI | apply kept_cellsMap | apply kept_raise | apply kept_setF | apply Kept_ite) | split | intro _)

theorem kept_learnEnd {x0 x1 x2} (h0 : Kept g x0) : Kept g (State.learnEnd x0 x1 x2) := by
  unfold State.learnEnd
  repeat' (first | with_reducible assumption | with_reducible (first | apply kept_setF | apply Kept_ite) | split | intro _)

theorem kept_socHold {x0 x1 x2} (h0 : Kept g x0) (hk : 1048640 &&& g.mask = 1048640) : Kept g (State.socHold x0 x1 x2) := by
  unfold State.socHold
  repeat' (first
    | with_reducible assumption
    | with_reducible refine fun _ => ?_
    | ((try lift_lets); intro s; refine (have hs : Kept g s := ?_; ?_); subst s; rotate_left; clear_value s; rotate_left)
    | ((try lift_lets); first | (intro (x : Mram); subst x) | (intro (x : Compositor); subst x) | (intro (x : Store 32); subst x) | (intro (x : Store 8); subst x) | (intro (x : State × _); subst x) | (intro (x : _ × State); subst x) | (intro (x : _ × _ × State); subst x) | (intro (x : State → _); subst x) | (intro (x : _ → State → _); subst x) | (intro (x : _ → State); subst x) | (intro x; clear_value x))
    | (simp only [↓Kept_mk_iff]; refine And.intro ?_ (And.intro ?_ (And.intro ?_ (And.intro ?_ (And.intro ?_ (And.intro ?_ (And.intro ?_ (And.intro ?_ (And.intro ?_ ?_)))))))))
    | with_reducible (first | apply kept_socEnter | apply kept_raise | apply kept_setB | apply kept_raiseIf | apply kept_capShow | apply kept_learnEnd | apply Kept_ite)
    | with_reducible (first | exact Kept_regs (by assumption) (by assumption) | exact Kept_ram (by assumption) (by assumption) | exact Kept_mram (by assumption) (by assumption) | exact Kept_flt (by assumption) (by assumption) | exact Kept_var (by assumption) | exact Kept_ev (by assumption) (by assumption) | exact Kept_has (by assumption) | exact Kept_out (by assumption) | exact Kept_ctr (by assumption) | exact watchE_none (by assumption))
    | with_reducible refine Only_mk ?_ (.inr rfl) (.inr rfl) (.inr rfl) (.inr rfl) (.inr rfl) (.inr rfl) (.inr rfl) (.inr rfl) (.inr rfl) (.inr rfl) (.inr rfl) (.inr rfl) (.inr rfl) (.inr rfl) (.inr rfl) (.inr rfl) (.inr rfl) (.inl (mask_bit hk rfl)) (.inr rfl) (.inr rfl) (.inr rfl) (.inr rfl) (.inr rfl) (.inr rfl) (.inr rfl) (.inr rfl) (.inr rfl) (.inr rfl) (.inr rfl) (.inr rfl)
    | (first | exact mask_sub hk rfl | exact hk)
    | with_reducible (first | refine Kept_snd (by assumption) ?_ | refine Kept_fst (by assumption) ?_)
    | with_reducible exact Kept_of_next (by assumption)
    | with_reducible (refine Kept_of_O (by assumption) ?_)
    | with_reducible (first | refine Kept_regs (g := g) ?_ (by assumption) | refine Kept_ram (g := g) ?_ (by assumption) | refine Kept_mram (g := g) ?_ (by assumption) | refine Kept_flt (g := g) ?_ (by assumption) | refine Kept_var ?_ | refine Kept_ev ?_ (by assumption) | refine Kept_has ?_ | refine Kept_out ?_ | refine Kept_ctr ?_)
    | dsimp -zeta only
    | split)

theorem kept_socPublish {x0} (h0 : Kept g x0) (hk : 1048576 &&& g.mask = 1048576) : Kept g (State.socPublish x0) := by
  unfold State.socPublish
  repeat' (first
    | with_reducible assumption
    | with_reducible refine fun _ => ?_
    | ((try lift_lets); intro s; refine (have hs : Kept g s := ?_; ?_); subst s; rotate_left; clear_value s; rotate_left)
    | ((try lift_lets); first | (intro (x : Mram); subst x) | (intro (x : Compositor); subst x) | (intro (x : Store 32); subst x) | (intro (x : Store 8); subst x) | (intro (x : State × _); subst x) | (intro (x : _ × State); subst x) | (intro (x : _ × _ × State); subst x) | (intro (x : State → _); subst x) | (intro (x : _ → State → _); subst x) | (intro (x : _ → State); subst x) | (intro x; clear_value x))
    | (simp only [↓Kept_mk_iff]; refine And.intro ?_ (And.intro ?_ (And.intro ?_ (And.intro ?_ (And.intro ?_ (And.intro ?_ (And.intro ?_ (And.intro ?_ (And.intro ?_ ?_)))))))))
    | with_reducible (first | apply kept_setF | apply Kept_ite)
    | with_reducible (first | exact Kept_regs (by assumption) (by assumption) | exact Kept_ram (by assumption) (by assumption) | exact Kept_mram (by assumption) (by assumption) | exact Kept_flt (by assumption) (by assumption) | exact Kept_var (by assumption) | exact Kept_ev (by assumption) (by assumption) | exact Kept_has (by assumption) | exact Kept_out (by assumption) | exact Kept_ctr (by assumption) | exact watchE_none (by assumption))
    | with_reducible refine Only_mk ?_ (.inr rfl) (.inr rfl) (.inr rfl) (.inr rfl) (.inr rfl) (.inr rfl) (.inr rfl) (.inr rfl) (.inr rfl) (.inr rfl) (.inr rfl) (.inr rfl) (.inr rfl) (.inr rfl) (.inr rfl) (.inr rfl) (.inr rfl) (.inl (mask_bit hk rfl)) (.inr rfl) (.inr rfl) (.inr rfl) (.inr rfl) (.inr rfl) (.inr rfl) (.inr rfl) (.inr rfl) (.inr rfl) (.inr rfl) (.inr rfl) (.inr rfl)
    | (first | exact mask_sub hk rfl | exact hk)
    | with_reducible (first | refine Kept_snd (by assumption) ?_ | refine Kept_fst (by assumption) ?_)
    | with_reducible exact Kept_of_next (by assumption)
    | with_reducible (refine Kept_of_O (by assumption) ?_)
    | with_reducible (first | refine Kept_regs (g := g) ?_ (by assumption) | refine Kept_ram (g := g) ?_ (by assumption) | refine Kept_mram (g := g) ?_ (by assumption) | refine Kept_flt (g := g) ?_ (by assumption) | refine Kept_var ?_ | refine Kept_ev ?_ (by assumption) | refine Kept_has ?_ | refine Kept_out ?_ | refine Kept_ctr ?_)
    | dsimp -zeta only
    | split)

theorem kept_estStates {x0 x1 x2} (h0 : Kept g x0) (hk : 1048640 &&& g.mask = 1048640) : Kept g (State.estStates x0 x1 x2) := by
  unfold State.estStates
  repeat' (first
    | with_reducible assumption
    | with_reducible refine fun _ => ?_
    | ((try lift_lets); intro s; refine (have hs : Kept g s := ?_; ?_); subst s; rotate_left; clear_value s; rotate_left)
    | ((try lift_lets); first | (intro (x : Mram); subst x) | (intro (x : Compositor); subst x) | (intro (x : Store 32); subst x) | (intro (x : Store 8); subst x) | (intro (x : State × _); subst x) | (intro (x : _ × State); subst x) | (intro (x : _ × _ × State); subst x) | (intro (x : State → _); subst x) | (intro (x : _ → State → _); subst x) | (intro (x : _ → State); subst x) | (intro x; clear_value x))
    | (simp only [↓Kept_mk_iff]; refine And.intro ?_ (And.intro ?_ (And.intro ?_ (And.intro ?_ (And.intro ?_ (And.intro ?_ (And.intro ?_ (And.intro ?_ (And.intro ?_ ?_)))))))))
    | with_reducible (first | apply kept_cellsMap | apply kept_socEmpty | apply kept_socFull | apply kept_socHold | apply kept_socEnter | apply kept_socPublish | apply Kept_ite | apply filter_wf | apply evOk_filter)
    | with_reducible (first | exact Kept_regs (by assumption) (by assumption) | exact Kept_ram (by assumption) (by assumption) | exact Kept_mram (by assumption) (by assumption) | exact Kept_flt (by assumption) (by assumption) | exact Kept_var (by assumption) | exact Kept_ev (by assumption) (by assumption) | exact Kept_has (by assumption) | exact Kept_out (by assumption) | exact Kept_ctr (by assumption) | exact watchE_none (by assumption))
    | with_reducible refine Only_mk ?_ (.inr rfl) (.inr rfl) (.inr rfl) (.inr rfl) (.inr rfl) (.inr rfl) (.inr rfl) (.inr rfl) (.inr rfl) (.inr rfl) (.inr rfl) (.inr rfl) (.inr rfl) (.inr rfl) (.inr rfl) (.inr rfl) (.inr rfl) (.inl (mask_bit hk rfl)) (.inr rfl) (.inr rfl) (.inr rfl) (.inr rfl) (.inr rfl) (.inr rfl) (.inr rfl) (.inr rfl) (.inr rfl) (.inr rfl) (.inr rfl) (.inr rfl)
    | (first | exact mask_sub hk rfl | exact hk)
    | with_reducible (first | refine Kept_snd (by assumption) ?_ | refine Kept_fst (by assumption) ?_)
    | with_reducible exact Kept_of_next (by assumption)
    | with_reducible (refine Kept_of_O (by assumption) ?_)
    | with_reducible (first | refine Kept_regs (g := g) ?_ (by assumption) | refine Kept_ram (g := g) ?_ (by assumption) | refine Kept_mram (g := g) ?_ (by assumption) | refine Kept_flt (g := g) ?_ (by assumption) | refine Kept_var ?_ | refine Kept_ev ?_ (by assumption) | refine Kept_has ?_ | refine Kept_out ?_ | refine Kept_ctr ?_)
    | dsimp -zeta only
    | split)

theorem kept_warn {x0 x1 x2 x3 x4} (h0 : Kept g x0) : Kept g (State.warn x0 x1 x2 x3 x4) := by
  unfold State.warn
  repeat' (first | with_reducible assumption | with_reducible (first | apply kept_setB | apply kept_raise | apply Kept_ite) | split | intro _)

theorem kept_estWarn {x0} (h0 : Kept g x0) : Kept g (State.estWarn x0) := by
  unfold State.estWarn
  repeat' (first | with_reducible assumption | with_reducible (first | apply kept_warn | apply kept_raiseIf | apply Kept_ite) | split | intro _)

theorem kept_learnDone {x0} (h0 : Kept g x0) (hk : 1050688 &&& g.mask = 1050688) : Kept g (State.learnDone x0) := by
  unfold State.learnDone
  repeat' (first | with_reducible assumption | exact mask_sub hk rfl | with_reducible (first | apply kept_learnEnd | apply kept_capDone | apply kept_capCommit | apply Kept_ite) | split | intro _)

theorem kept_estTail {x0 x1 x2 x3} (h0 : Kept g x0) (hk : 1329216 &&& g.mask = 1329216) : Kept g (State.estTail x0 x1 x2 x3) := by
  unfold State.estTail
  repeat' (first
    | with_reducible assumption
    | with_reducible refine fun _ => ?_
    | ((try lift_lets); intro s; refine (have hs : Kept g s := ?_; ?_); subst s; rotate_left; clear_value s; rotate_left)
    | ((try lift_lets); first | (intro (x : Mram); subst x) | (intro (x : Compositor); subst x) | (intro (x : Store 32); subst x) | (intro (x : Store 8); subst x) | (intro (x : State × _); subst x) | (intro (x : _ × State); subst x) | (intro (x : _ × _ × State); subst x) | (intro (x : State → _); subst x) | (intro (x : _ → State → _); subst x) | (intro (x : _ → State); subst x) | (intro x; clear_value x))
    | (simp only [↓Kept_mk_iff]; refine And.intro ?_ (And.intro ?_ (And.intro ?_ (And.intro ?_ (And.intro ?_ (And.intro ?_ (And.intro ?_ (And.intro ?_ (And.intro ?_ ?_)))))))))
    | with_reducible (first | apply kept_estString | apply kept_estStates | apply kept_estLearn | apply kept_estAnchor | apply kept_estWarn | apply kept_anchorUpdate | apply kept_learnDone | apply kept_estPublish | apply kept_estFlags | apply Kept_ite)
    | with_reducible (first | exact Kept_regs (by assumption) (by assumption) | exact Kept_ram (by assumption) (by assumption) | exact Kept_mram (by assumption) (by assumption) | exact Kept_flt (by assumption) (by assumption) | exact Kept_var (by assumption) | exact Kept_ev (by assumption) (by assumption) | exact Kept_has (by assumption) | exact Kept_out (by assumption) | exact Kept_ctr (by assumption) | exact watchE_none (by assumption))
    | with_reducible refine Only_mk ?_ (.inr rfl) (.inr rfl) (.inr rfl) (.inr rfl) (.inr rfl) (.inr rfl) (.inr rfl) (.inr rfl) (.inr rfl) (.inr rfl) (.inr rfl) (.inr rfl) (.inr rfl) (.inr rfl) (.inr rfl) (.inr rfl) (.inr rfl) (.inl (mask_bit hk rfl)) (.inr rfl) (.inr rfl) (.inr rfl) (.inr rfl) (.inr rfl) (.inr rfl) (.inr rfl) (.inr rfl) (.inr rfl) (.inr rfl) (.inr rfl) (.inr rfl)
    | (first | exact mask_sub hk rfl | exact hk)
    | with_reducible (first | refine Kept_snd (by assumption) ?_ | refine Kept_fst (by assumption) ?_)
    | with_reducible exact Kept_of_next (by assumption)
    | with_reducible (refine Kept_of_O (by assumption) ?_)
    | with_reducible (first | refine Kept_regs (g := g) ?_ (by assumption) | refine Kept_ram (g := g) ?_ (by assumption) | refine Kept_mram (g := g) ?_ (by assumption) | refine Kept_flt (g := g) ?_ (by assumption) | refine Kept_var ?_ | refine Kept_ev ?_ (by assumption) | refine Kept_has ?_ | refine Kept_out ?_ | refine Kept_ctr ?_)
    | dsimp -zeta only
    | split)

theorem kept_estRun {x0 x1} (h0 : Kept g x0) (hk : 1329216 &&& g.mask = 1329216) : Kept g (State.estRun x0 x1) := by
  unfold State.estRun
  repeat' (first
    | with_reducible assumption
    | with_reducible refine fun _ => ?_
    | ((try lift_lets); intro s; refine (have hs : Kept g s := ?_; ?_); subst s; rotate_left; clear_value s; rotate_left)
    | ((try lift_lets); first | (intro (x : Mram); subst x) | (intro (x : Compositor); subst x) | (intro (x : Store 32); subst x) | (intro (x : Store 8); subst x) | (intro (x : State × _); subst x) | (intro (x : _ × State); subst x) | (intro (x : _ × _ × State); subst x) | (intro (x : State → _); subst x) | (intro (x : _ → State → _); subst x) | (intro (x : _ → State); subst x) | (intro x; clear_value x))
    | (simp only [↓Kept_mk_iff]; refine And.intro ?_ (And.intro ?_ (And.intro ?_ (And.intro ?_ (And.intro ?_ (And.intro ?_ (And.intro ?_ (And.intro ?_ (And.intro ?_ ?_)))))))))
    | with_reducible (first | apply kept_occurAdd | apply kept_raise | apply kept_estTail | apply Kept_ite | apply filter_wf | apply evOk_filter)
    | with_reducible (first | exact Kept_regs (by assumption) (by assumption) | exact Kept_ram (by assumption) (by assumption) | exact Kept_mram (by assumption) (by assumption) | exact Kept_flt (by assumption) (by assumption) | exact Kept_var (by assumption) | exact Kept_ev (by assumption) (by assumption) | exact Kept_has (by assumption) | exact Kept_out (by assumption) | exact Kept_ctr (by assumption) | exact watchE_none (by assumption))
    | with_reducible refine Only_mk ?_ (.inr rfl) (.inr rfl) (.inr rfl) (.inr rfl) (.inr rfl) (.inr rfl) (.inr rfl) (.inr rfl) (.inr rfl) (.inr rfl) (.inr rfl) (.inr rfl) (.inr rfl) (.inr rfl) (.inr rfl) (.inr rfl) (.inr rfl) (.inl (mask_bit hk rfl)) (.inr rfl) (.inr rfl) (.inr rfl) (.inr rfl) (.inr rfl) (.inr rfl) (.inr rfl) (.inr rfl) (.inr rfl) (.inr rfl) (.inr rfl) (.inr rfl)
    | (first | exact mask_sub hk rfl | exact hk)
    | with_reducible (first | refine Kept_snd (by assumption) ?_ | refine Kept_fst (by assumption) ?_)
    | with_reducible exact Kept_of_next (by assumption)
    | with_reducible (refine Kept_of_O (by assumption) ?_)
    | with_reducible (first | refine Kept_regs (g := g) ?_ (by assumption) | refine Kept_ram (g := g) ?_ (by assumption) | refine Kept_mram (g := g) ?_ (by assumption) | refine Kept_flt (g := g) ?_ (by assumption) | refine Kept_var ?_ | refine Kept_ev ?_ (by assumption) | refine Kept_has ?_ | refine Kept_out ?_ | refine Kept_ctr ?_)
    | dsimp -zeta only
    | split)

theorem kept_estShadow {x0} (h0 : Kept g x0) (hk : 1048576 &&& g.mask = 1048576) : Kept g (State.estShadow x0) := by
  unfold State.estShadow
  repeat' (first
    | with_reducible assumption
    | with_reducible refine fun _ => ?_
    | ((try lift_lets); intro s; refine (have hs : Kept g s := ?_; ?_); subst s; rotate_left; clear_value s; rotate_left)
    | ((try lift_lets); first | (intro (x : Mram); subst x) | (intro (x : Compositor); subst x) | (intro (x : Store 32); subst x) | (intro (x : Store 8); subst x) | (intro (x : State × _); subst x) | (intro (x : _ × State); subst x) | (intro (x : _ × _ × State); subst x) | (intro (x : State → _); subst x) | (intro (x : _ → State → _); subst x) | (intro (x : _ → State); subst x) | (intro x; clear_value x))
    | (simp only [↓Kept_mk_iff]; refine And.intro ?_ (And.intro ?_ (And.intro ?_ (And.intro ?_ (And.intro ?_ (And.intro ?_ (And.intro ?_ (And.intro ?_ (And.intro ?_ ?_)))))))))
    | with_reducible (first | apply Kept_ite)
    | with_reducible (first | exact Kept_regs (by assumption) (by assumption) | exact Kept_ram (by assumption) (by assumption) | exact Kept_mram (by assumption) (by assumption) | exact Kept_flt (by assumption) (by assumption) | exact Kept_var (by assumption) | exact Kept_ev (by assumption) (by assumption) | exact Kept_has (by assumption) | exact Kept_out (by assumption) | exact Kept_ctr (by assumption) | exact watchE_none (by assumption))
    | with_reducible refine Only_mk ?_ (.inr rfl) (.inr rfl) (.inr rfl) (.inr rfl) (.inr rfl) (.inr rfl) (.inr rfl) (.inr rfl) (.inr rfl) (.inr rfl) (.inr rfl) (.inr rfl) (.inr rfl) (.inr rfl) (.inr rfl) (.inr rfl) (.inr rfl) (.inl (mask_bit hk rfl)) (.inr rfl) (.inr rfl) (.inr rfl) (.inr rfl) (.inr rfl) (.inr rfl) (.inr rfl) (.inr rfl) (.inr rfl) (.inr rfl) (.inr rfl) (.inr rfl)
    | (first | exact mask_sub hk rfl | exact hk)
    | with_reducible (first | refine Kept_snd (by assumption) ?_ | refine Kept_fst (by assumption) ?_)
    | with_reducible exact Kept_of_next (by assumption)
    | with_reducible (refine Kept_of_O (by assumption) ?_)
    | with_reducible (first | refine Kept_regs (g := g) ?_ (by assumption) | refine Kept_ram (g := g) ?_ (by assumption) | refine Kept_mram (g := g) ?_ (by assumption) | refine Kept_flt (g := g) ?_ (by assumption) | refine Kept_var ?_ | refine Kept_ev ?_ (by assumption) | refine Kept_has ?_ | refine Kept_out ?_ | refine Kept_ctr ?_)
    | dsimp -zeta only
    | split)

theorem kept_estStart {x0 x1} (h0 : Kept g x0) (hk : 1048576 &&& g.mask = 1048576) : Kept g (State.estStart x0 x1) := by
  unfold State.estStart
  try generalize @withIdx = g0
  try generalize @State.cellList = g1
  try generalize @Estim.valid = g2
  try generalize @State.hours = g3
  try generalize @State.freshCell = g4
  try generalize @State.pset = g5
  try generalize @State.psetNo = g6
  try generalize @F64.div = g7
  try generalize @F64.ofInt = g8
  try generalize @F64.mul = g9
  try generalize @F64.rat = g10
  try generalize @vget = g11
  try generalize @CellEst.fromShadow = g12
  repeat' (first
    | with_reducible assumption
    | with_reducible refine fun _ => ?_
    | ((try lift_lets); intro s; refine (have hs : Kept g s := ?_; ?_); subst s; rotate_left; clear_value s; rotate_left)
    | ((try lift_lets); first | (intro (x : Mram); subst x) | (intro (x : Compositor); subst x) | (intro (x : Store 32); subst x) | (intro (x : Store 8); subst x) | (intro (x : State × _); subst x) | (intro (x : _ × State); subst x) | (intro (x : _ × _ × State); subst x) | (intro (x : State → _); subst x) | (intro (x : _ → State → _); subst x) | (intro (x : _ → State); subst x) | (intro x; clear_value x))
    | (simp only [↓Kept_mk_iff]; refine And.intro ?_ (And.intro ?_ (And.intro ?_ (And.intro ?_ (And.intro ?_ (And.intro ?_ (And.intro ?_ (And.intro ?_ (And.intro ?_ ?_)))))))))
    | with_reducible (first | apply kept_learnEnd | apply Kept_ite | apply watchM_cons | apply ctr_add)
    | with_reducible (first | exact Kept_regs (by assumption) (by assumption) | exact Kept_ram (by assumption) (by assumption) | exact Kept_mram (by assumption) (by assumption) | exact Kept_flt (by assumption) (by assumption) | exact Kept_var (by assumption) | exact Kept_ev (by assumption) (by assumption) | exact Kept_has (by assumption) | exact Kept_out (by assumption) | exact Kept_ctr (by assumption) | exact watchE_none (by assumption))
    | with_reducible refine Only_mk ?_ (.inr rfl) (.inr rfl) (.inr rfl) (.inr rfl) (.inr rfl) (.inr rfl) (.inr rfl) (.inr rfl) (.inr rfl) (.inr rfl) (.inr rfl) (.inr rfl) (.inr rfl) (.inr rfl) (.inr rfl) (.inr rfl) (.inr rfl) (.inl (mask_bit hk rfl)) (.inr rfl) (.inr rfl) (.inr rfl) (.inr rfl) (.inr rfl) (.inr rfl) (.inr rfl) (.inr rfl) (.inr rfl) (.inr rfl) (.inr rfl) (.inr rfl)
    | (first | exact mask_sub hk rfl | exact hk)
    | with_reducible (first | refine Kept_snd (by assumption) ?_ | refine Kept_fst (by assumption) ?_)
    | with_reducible exact Kept_of_next (by assumption)
    | with_reducible (refine Kept_of_O (by assumption) ?_)
    | with_reducible (first | refine Kept_regs (g := g) ?_ (by assumption) | refine Kept_ram (g := g) ?_ (by assumption) | refine Kept_mram (g := g) ?_ (by assumption) | refine Kept_flt (g := g) ?_ (by assumption) | refine Kept_var ?_ | refine Kept_ev ?_ (by assumption) | refine Kept_has ?_ | refine Kept_out ?_ | refine Kept_ctr ?_)
    | dsimp -zeta only
    | split)

theorem kept_estSweep {x0 x1} (h0 : Kept g x0) (hk : 1048576 &&& g.mask = 1048576) : Kept g (State.estSweep x0 x1) := by
  unfold State.estSweep
  repeat' (first
    | with_reducible assumption
    | with_reducible refine fun _ => ?_
    | ((try lift_lets); intro s; refine (have hs : Kept g s := ?_; ?_); subst s; rotate_left; clear_value s; rotate_left)
    | ((try lift_lets); first | (intro (x : Mram); subst x) | (intro (x : Compositor); subst x) | (intro (x : Store 32); subst x) | (intro (x : Store 8); subst x) | (intro (x : State × _); subst x) | (intro (x : _ × State); subst x) | (intro (x : _ × _ × State); subst x) | (intro (x : State → _); subst x) | (intro (x : _ → State → _); subst x) | (intro (x : _ → State); subst x) | (intro x; clear_value x))
    | (simp only [↓Kept_mk_iff]; refine And.intro ?_ (And.intro ?_ (And.intro ?_ (And.intro ?_ (And.intro ?_ (And.intro ?_ (And.intro ?_ (And.intro ?_ (And.intro ?_ ?_)))))))))
    | with_reducible (first | apply kept_setB | apply kept_setF | apply Kept_ite)
    | with_reducible (first | exact Kept_regs (by assumption) (by assumption) | exact Kept_ram (by assumption) (by assumption) | exact Kept_mram (by assumption) (by assumption) | exact Kept_flt (by assumption) (by assumption) | exact Kept_var (by assumption) | exact Kept_ev (by assumption) (by assumption) | exact Kept_has (by assumption) | exact Kept_out (by assumption) | exact Kept_ctr (by assumption) | exact watchE_none (by assumption))
    | with_reducible refine Only_mk ?_ (.inr rfl) (.inr rfl) (.inr rfl) (.inr rfl) (.inr rfl) (.inr rfl) (.inr rfl) (.inr rfl) (.inr rfl) (.inr rfl) (.inr rfl) (.inr rfl) (.inr rfl) (.inr rfl) (.inr rfl) (.inr rfl) (.inr rfl) (.inl (mask_bit hk rfl)) (.inr rfl) (.inr rfl) (.inr rfl) (.inr rfl) (.inr rfl) (.inr rfl) (.inr rfl) (.inr rfl) (.inr rfl) (.inr rfl) (.inr rfl) (.inr rfl)
    | (first | exact mask_sub hk rfl | exact hk)
    | with_reducible (first | refine Kept_snd (by assumption) ?_ | refine Kept_fst (by assumption) ?_)
    | with_reducible exact Kept_of_next (by assumption)
    | with_reducible (refine Kept_of_O (by assumption) ?_)
    | with_reducible (first | refine Kept_regs (g := g) ?_ (by assumption) | refine Kept_ram (g := g) ?_ (by assumption) | refine Kept_mram (g := g) ?_ (by assumption) | refine Kept_flt (g := g) ?_ (by assumption) | refine Kept_var ?_ | refine Kept_ev ?_ (by assumption) | refine Kept_has ?_ | refine Kept_out ?_ | refine Kept_ctr ?_)
    | dsimp -zeta only
    | split)

theorem kept_estUpdate {x0 x1} (h0 : Kept g x0) (hk : 1329216 &&& g.mask = 1329216) : Kept g (State.estUpdate x0 x1) := by
  unfold State.estUpdate
  repeat' (first
    | with_reducible assumption
    | with_reducible refine fun _ => ?_
    | ((try lift_lets); intro s; refine (have hs : Kept g s := ?_; ?_); subst s; rotate_left; clear_value s; rotate_left)
    | ((try lift_lets); first | (intro (x : Mram); subst x) | (intro (x : Compositor); subst x) | (intro (x : Store 32); subst x) | (intro (x : Store 8); subst x) | (intro (x : State × _); subst x) | (intro (x : _ × State); subst x) | (intro (x : _ × _ × State); subst x) | (intro (x : State → _); subst x) | (intro (x : _ → State → _); subst x) | (intro (x : _ → State); subst x) | (intro x; clear_value x))
    | (simp only [↓Kept_mk_iff]; refine And.intro ?_ (And.intro ?_ (And.intro ?_ (And.intro ?_ (And.intro ?_ (And.intro ?_ (And.intro ?_ (And.intro ?_ (And.intro ?_ ?_)))))))))
    | with_reducible (first | apply kept_raise | apply kept_setB | apply kept_estResume | apply kept_estTail | apply kept_estStart | apply kept_estRun | apply Kept_ite)
    | with_reducible (first | exact Kept_regs (by assumption) (by assumption) | exact Kept_ram (by assumption) (by assumption) | exact Kept_mram (by assumption) (by assumption) | exact Kept_flt (by assumption) (by assumption) | exact Kept_var (by assumption) | exact Kept_ev (by assumption) (by assumption) | exact Kept_has (by assumption) | exact Kept_out (by assumption) | exact Kept_ctr (by assumption) | exact watchE_none (by assumption))
    | with_reducible refine Only_mk ?_ (.inr rfl) (.inr rfl) (.inr rfl) (.inr rfl) (.inr rfl) (.inr rfl) (.inr rfl) (.inr rfl) (.inr rfl) (.inr rfl) (.inr rfl) (.inr rfl) (.inr rfl) (.inr rfl) (.inr rfl) (.inr rfl) (.inr rfl) (.inl (mask_bit hk rfl)) (.inr rfl) (.inr rfl) (.inr rfl) (.inr rfl) (.inr rfl) (.inr rfl) (.inr rfl) (.inr rfl) (.inr rfl) (.inr rfl) (.inr rfl) (.inr rfl)
    | (first | exact mask_sub hk rfl | exact hk)
    | with_reducible (first | refine Kept_snd (by assumption) ?_ | refine Kept_fst (by assumption) ?_)
    | with_reducible exact Kept_of_next (by assumption)
    | with_reducible (refine Kept_of_O (by assumption) ?_)
    | with_reducible (first | refine Kept_regs (g := g) ?_ (by assumption) | refine Kept_ram (g := g) ?_ (by assumption) | refine Kept_mram (g := g) ?_ (by assumption) | refine Kept_flt (g := g) ?_ (by assumption) | refine Kept_var ?_ | refine Kept_ev ?_ (by assumption) | refine Kept_has ?_ | refine Kept_out ?_ | refine Kept_ctr ?_)
    | dsimp -zeta only
    | split)

theorem kept_ethLink {x0 x1 x2 x3 x4} (h0 : Kept g x0) : Kept g (State.ethLink x0 x1 x2 x3 x4) := by
  unfold State.ethLink
  repeat' (first | with_reducible assumption | with_reducible (first | apply kept_setF | apply kept_setB | apply kept_raise | apply kept_countF | apply Kept_ite) | split | intro _)

theorem kept_loopsStop {x0} (h0 : Kept g x0) (hk : 8192 &&& g.mask = 8192) : Kept g (State.loopsStop x0) := by
  unfold State.loopsStop
  repeat' (first
    | with_reducible assumption
    | with_reducible refine fun _ => ?_
    | ((try lift_lets); intro s; refine (have hs : Kept g s := ?_; ?_); subst s; rotate_left; clear_value s; rotate_left)
    | ((try lift_lets); first | (intro (x : Mram); subst x) | (intro (x : Compositor); subst x) | (intro (x : Store 32); subst x) | (intro (x : Store 8); subst x) | (intro (x : State × _); subst x) | (intro (x : _ × State); subst x) | (intro (x : _ × _ × State); subst x) | (intro (x : State → _); subst x) | (intro (x : _ → State → _); subst x) | (intro (x : _ → State); subst x) | (intro x; clear_value x))
    | (simp only [↓Kept_mk_iff]; refine And.intro ?_ (And.intro ?_ (And.intro ?_ (And.intro ?_ (And.intro ?_ (And.intro ?_ (And.intro ?_ (And.intro ?_ (And.intro ?_ ?_)))))))))
    | with_reducible (first | apply kept_setReg | apply kept_setF | apply Kept_ite | apply Kept_foldl)
    | with_reducible (first | exact Kept_regs (by assumption) (by assumption) | exact Kept_ram (by assumption) (by assumption) | exact Kept_mram (by assumption) (by assumption) | exact Kept_flt (by assumption) (by assumption) | exact Kept_var (by assumption) | exact Kept_ev (by assumption) (by assumption) | exact Kept_has (by assumption) | exact Kept_out (by assumption) | exact Kept_ctr (by assumption) | exact watchE_none (by assumption))
    | with_reducible refine Only_mk ?_ (.inr rfl) (.inr rfl) (.inr rfl) (.inr rfl) (.inr rfl) (.inr rfl) (.inr rfl) (.inr rfl) (.inr rfl) (.inr rfl) (.inl (mask_bit hk rfl)) (.inr rfl) (.inr rfl) (.inr rfl) (.inr rfl) (.inr rfl) (.inr rfl) (.inr rfl) (.inr rfl) (.inr rfl) (.inr rfl) (.inr rfl) (.inr rfl) (.inr rfl) (.inr rfl) (.inr rfl) (.inr rfl) (.inr rfl) (.inr rfl) (.inr rfl)
    | (first | exact mask_sub hk rfl | exact hk)
    | with_reducible (first | refine Kept_snd (by assumption) ?_ | refine Kept_fst (by assumption) ?_)
    | with_reducible exact Kept_of_next (by assumption)
    | with_reducible (refine Kept_of_O (by assumption) ?_)
    | with_reducible (first | refine Kept_regs (g := g) ?_ (by assumption) | refine Kept_ram (g := g) ?_ (by assumption) | refine Kept_mram (g := g) ?_ (by assumption) | refine Kept_flt (g := g) ?_ (by assumption) | refine Kept_var ?_ | refine Kept_ev ?_ (by assumption) | refine Kept_has ?_ | refine Kept_out ?_ | refine Kept_ctr ?_)
    | dsimp -zeta only
    | split)

theorem kept_sleep {x0} (h0 : Kept g x0) (hk : 4301355016 &&& g.mask = 4301355016) : Kept g (State.sleep x0) := by
  unfold State.sleep
  repeat' (first
    | with_reducible assumption
    | with_reducible refine fun _ => ?_
    | ((try lift_lets); intro s; refine (have hs : Kept g s := ?_; ?_); subst s; rotate_left; clear_value s; rotate_left)
    | ((try lift_lets); first | (intro (x : Mram); subst x) | (intro (x : Compositor); subst x) | (intro (x : Store 32); subst x) | (intro (x : Store 8); subst x) | (intro (x : State × _); subst x) | (intro (x : _ × State); subst x) | (intro (x : _ × _ × State); subst x) | (intro (x : State → _); subst x) | (intro (x : _ → State → _); subst x) | (intro (x : _ → State); subst x) | (intro x; clear_value x))
    | (simp only [↓Kept_mk_iff]; refine And.intro ?_ (And.intro ?_ (And.intro ?_ (And.intro ?_ (And.intro ?_ (And.intro ?_ (And.intro ?_ (And.intro ?_ (And.intro ?_ ?_)))))))))
    | with_reducible (first | apply kept_driveMsg | apply kept_setF | apply kept_loopsStop | apply kept_chainSleep | apply kept_finish | apply kept_pwmRefresh | apply Kept_ite)
    | with_reducible (first | exact Kept_regs (by assumption) (by assumption) | exact Kept_ram (by assumption) (by assumption) | exact Kept_mram (by assumption) (by assumption) | exact Kept_flt (by assumption) (by assumption) | exact Kept_var (by assumption) | exact Kept_ev (by assumption) (by assumption) | exact Kept_has (by assumption) | exact Kept_out (by assumption) | exact Kept_ctr (by assumption) | exact watchE_none (by assumption))
    | with_reducible refine Only_mk ?_ (.inr rfl) (.inr rfl) (.inl (mask_bit hk rfl)) (.inr rfl) (.inr rfl) (.inr rfl) (.inr rfl) (.inr rfl) (.inr rfl) (.inr rfl) (.inr rfl) (.inr rfl) (.inr rfl) (.inl (mask_bit hk rfl)) (.inr rfl) (.inr rfl) (.inr rfl) (.inr rfl) (.inr rfl) (.inr rfl) (.inr rfl) (.inr rfl) (.inr rfl) (.inr rfl) (.inr rfl) (.inr rfl) (.inr rfl) (.inr rfl) (.inr rfl) (.inl (mask_bit hk rfl))
    | (first | exact mask_sub hk rfl | exact hk)
    | with_reducible (first | refine Kept_snd (by assumption) ?_ | refine Kept_fst (by assumption) ?_)
    | with_reducible exact Kept_of_next (by assumption)
    | with_reducible (refine Kept_of_O (by assumption) ?_)
    | with_reducible (first | refine Kept_regs (g := g) ?_ (by assumption) | refine Kept_ram (g := g) ?_ (by assumption) | refine Kept_mram (g := g) ?_ (by assumption) | refine Kept_flt (g := g) ?_ (by assumption) | refine Kept_var ?_ | refine Kept_ev ?_ (by assumption) | refine Kept_has ?_ | refine Kept_out ?_ | refine Kept_ctr ?_)
    | dsimp -zeta only
    | split)

theorem kept_takeRow {x0 x1 x2} (h0 : Kept g x0) (hk : 5040470088 &&& g.mask = 5040470088) : Kept g (State.takeRow x0 x1 x2) := by
  unfold State.takeRow
  repeat' (first
    | with_reducible assumption
    | with_reducible refine fun _ => ?_
    | ((try lift_lets); intro s; refine (have hs : Kept g s := ?_; ?_); subst s; rotate_left; clear_value s; rotate_left)
    | ((try lift_lets); first | (intro (x : Mram); subst x) | (intro (x : Compositor); subst x) | (intro (x : Store 32); subst x) | (intro (x : Store 8); subst x) | (intro (x : State × _); subst x) | (intro (x : _ × State); subst x) | (intro (x : _ × _ × State); subst x) | (intro (x : State → _); subst x) | (intro (x : _ → State → _); subst x) | (intro (x : _ → State); subst x) | (intro x; clear_value x))
    | (simp only [↓Kept_mk_iff]; refine And.intro ?_ (And.intro ?_ (And.intro ?_ (And.intro ?_ (And.intro ?_ (And.intro ?_ (And.intro ?_ (And.intro ?_ (And.intro ?_ ?_)))))))))
    | with_reducible (first | apply kept_setFunc | apply kept_begin | apply kept_announce | apply kept_sleep | apply kept_stopFunc | apply kept_progress | apply kept_asyAbort | apply kept_wantOwt | apply kept_finish | apply kept_stopOthers | apply Kept_ite)
    | with_reducible (first | exact Kept_regs (by assumption) (by assumption) | exact Kept_ram (by assumption) (by assumption) | exact Kept_mram (by assumption) (by assumption) | exact Kept_flt (by assumption) (by assumption) | exact Kept_var (by assumption) | exact Kept_ev (by assumption) (by assumption) | exact Kept_has (by assumption) | exact Kept_out (by assumption) | exact Kept_ctr (by assumption) | exact watchE_none (by assumption))
    | with_reducible refine Only_mk ?_ (.inr rfl) (.inr rfl) (.inr rfl) (.inr rfl) (.inr rfl) (.inr rfl) (.inr rfl) (.inr rfl) (.inr rfl) (.inl (mask_bit hk rfl)) (.inr rfl) (.inr rfl) (.inr rfl) (.inr rfl) (.inl (mask_bit hk rfl)) (.inl (mask_bit hk rfl)) (.inr rfl) (.inr rfl) (.inl (mask_bit hk rfl)) (.inr rfl) (.inr rfl) (.inr rfl) (.inr rfl) (.inr rfl) (.inr rfl) (.inr rfl) (.inr rfl) (.inr rfl) (.inr rfl) (.inr rfl)
    | (first | exact mask_sub hk rfl | exact hk)
    | with_reducible (first | refine Kept_snd (by assumption) ?_ | refine Kept_fst (by assumption) ?_)
    | with_reducible exact Kept_of_next (by assumption)
    | with_reducible (refine Kept_of_O (by assumption) ?_)
    | with_reducible (first | refine Kept_regs (g := g) ?_ (by assumption) | refine Kept_ram (g := g) ?_ (by assumption) | refine Kept_mram (g := g) ?_ (by assumption) | refine Kept_flt (g := g) ?_ (by assumption) | refine Kept_var ?_ | refine Kept_ev ?_ (by assumption) | refine Kept_has ?_ | refine Kept_out ?_ | refine Kept_ctr ?_)
    | dsimp -zeta only
    | split)

theorem kept_evaluate {x0 x1 x2} (h0 : Kept g x0) (hk : 5040470088 &&& g.mask = 5040470088) : Kept g (State.evaluate x0 x1 x2) := by
  unfold State.evaluate
  repeat' (first
    | with_reducible assumption
    | with_reducible refine fun _ => ?_
    | ((try lift_lets); intro s; refine (have hs : Kept g s := ?_; ?_); subst s; rotate_left; clear_value s; rotate_left)
    | ((try lift_lets); first | (intro (x : Mram); subst x) | (intro (x : Compositor); subst x) | (intro (x : Store 32); subst x) | (intro (x : Store 8); subst x) | (intro (x : State × _); subst x) | (intro (x : _ × State); subst x) | (intro (x : _ × _ × State); subst x) | (intro (x : State → _); subst x) | (intro (x : _ → State → _); subst x) | (intro (x : _ → State); subst x) | (intro x; clear_value x))
    | (simp only [↓Kept_mk_iff]; refine And.intro ?_ (And.intro ?_ (And.intro ?_ (And.intro ?_ (And.intro ?_ (And.intro ?_ (And.intro ?_ (And.intro ?_ (And.intro ?_ ?_)))))))))
    | with_reducible (first | apply kept_galOpen | apply kept_takeRow | apply kept_report | apply kept_setB | apply Kept_ite)
    | with_reducible (first | exact Kept_regs (by assumption) (by assumption) | exact Kept_ram (by assumption) (by assumption) | exact Kept_mram (by assumption) (by assumption) | exact Kept_flt (by assumption) (by assumption) | exact Kept_var (by assumption) | exact Kept_ev (by assumption) (by assumption) | exact Kept_has (by assumption) | exact Kept_out (by assumption) | exact Kept_ctr (by assumption) | exact watchE_none (by assumption))
    | with_reducible refine Only_mk ?_ (.inr rfl) (.inr rfl) (.inr rfl) (.inr rfl) (.inr rfl) (.inr rfl) (.inr rfl) (.inr rfl) (.inr rfl) (.inl (mask_bit hk rfl)) (.inr rfl) (.inr rfl) (.inr rfl) (.inr rfl) (.inr rfl) (.inr rfl) (.inr rfl) (.inr rfl) (.inr rfl) (.inr rfl) (.inr rfl) (.inr rfl) (.inr rfl) (.inr rfl) (.inr rfl) (.inr rfl) (.inr rfl) (.inr rfl) (.inr rfl) (.inr rfl)
    | (first | exact mask_sub hk rfl | exact hk)
    | with_reducible (first | refine Kept_snd (by assumption) ?_ | refine Kept_fst (by assumption) ?_)
    | with_reducible exact Kept_of_next (by assumption)
    | with_reducible (refine Kept_of_O (by assumption) ?_)
    | with_reducible (first | refine Kept_regs (g := g) ?_ (by assumption) | refine Kept_ram (g := g) ?_ (by assumption) | refine Kept_mram (g := g) ?_ (by assumption) | refine Kept_flt (g := g) ?_ (by assumption) | refine Kept_var ?_ | refine Kept_ev ?_ (by assumption) | refine Kept_has ?_ | refine Kept_out ?_ | refine Kept_ctr ?_)
    | dsimp -zeta only
    | split)

theorem kept_request {x0 x1 x2} (h0 : Kept g x0) (hk : 5040470088 &&& g.mask = 5040470088) : Kept g (State.request x0 x1 x2) := by
  unfold State.request
  repeat' (first
    | with_reducible assumption
    | with_reducible refine fun _ => ?_
    | ((try lift_lets); intro s; refine (have hs : Kept g s := ?_; ?_); subst s; rotate_left; clear_value s; rotate_left)
    | ((try lift_lets); first | (intro (x : Mram); subst x) | (intro (x : Compositor); subst x) | (intro (x : Store 32); subst x) | (intro (x : Store 8); subst x) | (intro (x : State × _); subst x) | (intro (x : _ × State); subst x) | (intro (x : _ × _ × State); subst x) | (intro (x : State → _); subst x) | (intro (x : _ → State → _); subst x) | (intro (x : _ → State); subst x) | (intro x; clear_value x))
    | (simp only [↓Kept_mk_iff]; refine And.intro ?_ (And.intro ?_ (And.intro ?_ (And.intro ?_ (And.intro ?_ (And.intro ?_ (And.intro ?_ (And.intro ?_ (And.intro ?_ ?_)))))))))
    | with_reducible (first | apply kept_plnkOut | apply kept_evaluate | apply Kept_ite)
    | with_reducible (first | exact Kept_regs (by assumption) (by assumption) | exact Kept_ram (by assumption) (by assumption) | exact Kept_mram (by assumption) (by assumption) | exact Kept_flt (by assumption) (by assumption) | exact Kept_var (by assumption) | exact Kept_ev (by assumption) (by assumption) | exact Kept_has (by assumption) | exact Kept_out (by assumption) | exact Kept_ctr (by assumption) | exact watchE_none (by assumption))
    | with_reducible refine Only_mk ?_ (.inr rfl) (.inr rfl) (.inr rfl) (.inr rfl) (.inr rfl) (.inr rfl) (.inr rfl) (.inr rfl) (.inr rfl) (.inl (mask_bit hk rfl)) (.inr rfl) (.inr rfl) (.inr rfl) (.inr rfl) (.inr rfl) (.inr rfl) (.inr rfl) (.inr rfl) (.inr rfl) (.inr rfl) (.inr rfl) (.inr rfl) (.inr rfl) (.inr rfl) (.inr rfl) (.inr rfl) (.inr rfl) (.inr rfl) (.inr rfl) (.inr rfl)
    | (first | exact mask_sub hk rfl | exact hk)
    | with_reducible (first | refine Kept_snd (by assumption) ?_ | refine Kept_fst (by assumption) ?_)
    | with_reducible exact Kept_of_next (by assumption)
    | with_reducible (refine Kept_of_O (by assumption) ?_)
    | with_reducible (first | refine Kept_regs (g := g) ?_ (by assumption) | refine Kept_ram (g := g) ?_ (by assumption) | refine Kept_mram (g := g) ?_ (by assumption) | refine Kept_flt (g := g) ?_ (by assumption) | refine Kept_var ?_ | refine Kept_ev ?_ (by assumption) | refine Kept_has ?_ | refine Kept_out ?_ | refine Kept_ctr ?_)
    | dsimp -zeta only
    | split)

theorem kept_evalDue {x0} (h0 : Kept g x0) (hk : 5040470088 &&& g.mask = 5040470088) : Kept g (State.evalDue x0) := by
  unfold State.evalDue
  repeat' (first
    | with_reducible assumption
    | with_reducible refine fun _ => ?_
    | ((try lift_lets); intro s; refine (have hs : Kept g s := ?_; ?_); subst s; rotate_left; clear_value s; rotate_left)
    | ((try lift_lets); first | (intro (x : Mram); subst x) | (intro (x : Compositor); subst x) | (intro (x : Store 32); subst x) | (intro (x : Store 8); subst x) | (intro (x : State × _); subst x) | (intro (x : _ × State); subst x) | (intro (x : _ × _ × State); subst x) | (intro (x : State → _); subst x) | (intro (x : _ → State → _); subst x) | (intro (x : _ → State); subst x) | (intro x; clear_value x))
    | (simp only [↓Kept_mk_iff]; refine And.intro ?_ (And.intro ?_ (And.intro ?_ (And.intro ?_ (And.intro ?_ (And.intro ?_ (And.intro ?_ (And.intro ?_ (And.intro ?_ ?_)))))))))
    | with_reducible (first | apply kept_request | apply kept_evaluate | apply kept_plnkOut | apply Kept_ite)
    | with_reducible (first | exact Kept_regs (by assumption) (by assumption) | exact Kept_ram (by assumption) (by assumption) | exact Kept_mram (by assumption) (by assumption) | exact Kept_flt (by assumption) (by assumption) | exact Kept_var (by assumption) | exact Kept_ev (by assumption) (by assumption) | exact Kept_has (by assumption) | exact Kept_out (by assumption) | exact Kept_ctr (by assumption) | exact watchE_none (by assumption))
    | with_reducible refine Only_mk ?_ (.inr rfl) (.inr rfl) (.inr rfl) (.inr rfl) (.inr rfl) (.inr rfl) (.inr rfl) (.inr rfl) (.inr rfl) (.inl (mask_bit hk rfl)) (.inr rfl) (.inr rfl) (.inr rfl) (.inr rfl) (.inr rfl) (.inr rfl) (.inr rfl) (.inr rfl) (.inr rfl) (.inr rfl) (.inr rfl) (.inr rfl) (.inr rfl) (.inr rfl) (.inr rfl) (.inr rfl) (.inr rfl) (.inr rfl) (.inr rfl) (.inr rfl)
    | (first | exact mask_sub hk rfl | exact hk)
    | with_reducible (first | refine Kept_snd (by assumption) ?_ | refine Kept_fst (by assumption) ?_)
    | with_reducible exact Kept_of_next (by assumption)
    | with_reducible (refine Kept_of_O (by assumption) ?_)
    | with_reducible (first | refine Kept_regs (g := g) ?_ (by assumption) | refine Kept_ram (g := g) ?_ (by assumption) | refine Kept_mram (g := g) ?_ (by assumption) | refine Kept_flt (g := g) ?_ (by assumption) | refine Kept_var ?_ | refine Kept_ev ?_ (by assumption) | refine Kept_has ?_ | refine Kept_out ?_ | refine Kept_ctr ?_)
    | dsimp -zeta only
    | split)

theorem kept_exclEllipsis {x0} (h0 : Kept g x0) (hk : 739211328 &&& g.mask = 739211328) : Kept g (State.exclEllipsis x0) := by
  unfold State.exclEllipsis
  repeat' (first | with_reducible assumption | exact mask_sub hk rfl | with_reducible (first | apply kept_holdCause | apply Kept_ite) | split | intro _)

theorem kept_exclLost {x0} (h0 : Kept g x0) (hk : 739211328 &&& g.mask = 739211328) : Kept g (State.exclLost x0) := by
  unfold State.exclLost
  repeat' (first | with_reducible assumption | exact mask_sub hk rfl | with_reducible (first | apply kept_holdCause | apply Kept_ite) | split | intro _)

theorem kept_exclReact {x0 x1} (h0 : Kept g x0) (hk : 739211328 &&& g.mask = 739211328) : Kept g (State.exclReact x0 x1) := by
  unfold State.exclReact
  repeat' (first | with_reducible assumption | exact mask_sub hk rfl | with_reducible (first | apply kept_raise | apply kept_exclLost | apply Kept_ite) | split | intro _)

theorem kept_exclude {x0 x1} (h0 : Kept g x0) (hk : 64 &&& g.mask = 64) : Kept g (State.exclude x0 x1) := by
  unfold State.exclude
  repeat' (first | with_reducible assumption | exact mask_sub hk rfl | with_reducible (first | apply kept_countF | apply kept_setF | apply kept_raise | apply kept_toMram | apply Kept_ite) | split | intro _)

theorem kept_faultReset {x0 x1 x2 x3} (h0 : Kept g x0) (hE : ∀ e, ¬ g.events e) (hk : 8589931980 &&& g.mask = 8589931980) : Kept g (State.faultReset x0 x1 x2 x3) := by
  unfold State.faultReset
  repeat' (first
    | with_reducible assumption
    | with_reducible refine fun _ => ?_
    | ((try lift_lets); intro s; refine (have hs : Kept g s := ?_; ?_); subst s; rotate_left; clear_value s; rotate_left)
    | ((try lift_lets); first | (intro (x : Mram); subst x) | (intro (x : Compositor); subst x) | (intro (x : Store 32); subst x) | (intro (x : Store 8); subst x) | (intro (x : State × _); subst x) | (intro (x : _ × State); subst x) | (intro (x : _ × _ × State); subst x) | (intro (x : State → _); subst x) | (intro (x : _ → State → _); subst x) | (intro (x : _ → State); subst x) | (intro x; clear_value x))
    | (simp only [↓Kept_mk_iff]; refine And.intro ?_ (And.intro ?_ (And.intro ?_ (And.intro ?_ (And.intro ?_ (And.intro ?_ (And.intro ?_ (And.intro ?_ (And.intro ?_ ?_)))))))))
    | with_reducible (first | apply kept_toMram | apply kept_setF | apply kept_enterReset | apply Kept_ite)
    | with_reducible (first | exact Kept_regs (by assumption) (by assumption) | exact Kept_ram (by assumption) (by assumption) | exact Kept_mram (by assumption) (by assumption) | exact Kept_flt (by assumption) (by assumption) | exact Kept_var (by assumption) | exact Kept_ev (by assumption) (by assumption) | exact Kept_has (by assumption) | exact Kept_out (by assumption) | exact Kept_ctr (by assumption) | exact watchE_none (by assumption))
    | with_reducible refine Only_mk ?_ (.inr rfl) (.inr rfl) (.inr rfl) (.inr rfl) (.inr rfl) (.inr rfl) (.inr rfl) (.inr rfl) (.inr rfl) (.inr rfl) (.inr rfl) (.inr rfl) (.inr rfl) (.inr rfl) (.inr rfl) (.inr rfl) (.inr rfl) (.inr rfl) (.inr rfl) (.inr rfl) (.inr rfl) (.inl (mask_bit hk rfl)) (.inr rfl) (.inr rfl) (.inr rfl) (.inr rfl) (.inr rfl) (.inr rfl) (.inr rfl) (.inr rfl)
    | (first | exact mask_sub hk rfl | exact hk)
    | with_reducible (first | refine Kept_snd (by assumption) ?_ | refine Kept_fst (by assumption) ?_)
    | with_reducible exact Kept_of_next (by assumption)
    | with_reducible (refine Kept_of_O (by assumption) ?_)
    | with_reducible (first | refine Kept_regs (g := g) ?_ (by assumption) | refine Kept_ram (g := g) ?_ (by assumption) | refine Kept_mram (g := g) ?_ (by assumption) | refine Kept_flt (g := g) ?_ (by assumption) | refine Kept_var ?_ | refine Kept_ev ?_ (by assumption) | refine Kept_has ?_ | refine Kept_out ?_ | refine Kept_ctr ?_)
    | dsimp -zeta only
    | split)

theorem kept_seqDone {x0} (h0 : Kept g x0) (hk : 741308480 &&& g.mask = 741308480) : Kept g (State.seqDone x0) := by
  unfold State.seqDone
  repeat' (first | with_reducible assumption | exact mask_sub hk rfl | with_reducible (first | apply kept_setF | apply kept_progress | apply kept_galClose | apply kept_setFunc | apply Kept_ite) | split | intro _)

theorem kept_seqStep8 {x0} (h0 : Kept g x0) (hk : 741308480 &&& g.mask = 741308480) : Kept g (State.seqStep8 x0) := by
  unfold State.seqStep8
  repeat' (first | with_reducible assumption | exact mask_sub hk rfl | with_reducible (first | apply kept_galPhase | apply kept_setF | apply kept_seqDone | apply kept_setArm | apply kept_seqFail | apply Kept_ite) | split | intro _)

theorem kept_seqFb {x0} (h0 : Kept g x0) (hk : 741308480 &&& g.mask = 741308480) : Kept g (State.seqFb x0) := by
  unfold State.seqFb
  repeat' (first
    | with_reducible assumption
    | with_reducible refine fun _ => ?_
    | ((try lift_lets); intro s; refine (have hs : Kept g s := ?_; ?_); subst s; rotate_left; clear_value s; rotate_left)
    | ((try lift_lets); first | (intro (x : Mram); subst x) | (intro (x : Compositor); subst x) | (intro (x : Store 32); subst x) | (intro (x : Store 8); subst x) | (intro (x : State × _); subst x) | (intro (x : _ × State); subst x) | (intro (x : _ × _ × State); subst x) | (intro (x : State → _); subst x) | (intro (x : _ → State → _); subst x) | (intro (x : _ → State); subst x) | (intro x; clear_value x))
    | (simp only [↓Kept_mk_iff]; refine And.intro ?_ (And.intro ?_ (And.intro ?_ (And.intro ?_ (And.intro ?_ (And.intro ?_ (And.intro ?_ (And.intro ?_ (And.intro ?_ ?_)))))))))
    | with_reducible (first | apply kept_seqFail | apply kept_setCmd | apply kept_galPhase | apply kept_setF | apply kept_seqStep8 | apply Kept_ite)
    | with_reducible (first | exact Kept_regs (by assumption) (by assumption) | exact Kept_ram (by assumption) (by assumption) | exact Kept_mram (by assumption) (by assumption) | exact Kept_flt (by assumption) (by assumption) | exact Kept_var (by assumption) | exact Kept_ev (by assumption) (by assumption) | exact Kept_has (by assumption) | exact Kept_out (by assumption) | exact Kept_ctr (by assumption) | exact watchE_none (by assumption))
    | with_reducible refine Only_mk ?_ (.inr rfl) (.inr rfl) (.inr rfl) (.inr rfl) (.inr rfl) (.inr rfl) (.inr rfl) (.inr rfl) (.inr rfl) (.inr rfl) (.inr rfl) (.inr rfl) (.inr rfl) (.inl (mask_bit hk rfl)) (.inr rfl) (.inr rfl) (.inr rfl) (.inr rfl) (.inr rfl) (.inr rfl) (.inr rfl) (.inr rfl) (.inr rfl) (.inr rfl) (.inr rfl) (.inr rfl) (.inr rfl) (.inr rfl) (.inr rfl) (.inr rfl)
    | (first | exact mask_sub hk rfl | exact hk)
    | with_reducible (first | refine Kept_snd (by assumption) ?_ | refine Kept_fst (by assumption) ?_)
    | with_reducible exact Kept_of_next (by assumption)
    | with_reducible (refine Kept_of_O (by assumption) ?_)
    | with_reducible (first | refine Kept_regs (g := g) ?_ (by assumption) | refine Kept_ram (g := g) ?_ (by assumption) | refine Kept_mram (g := g) ?_ (by assumption) | refine Kept_flt (g := g) ?_ (by assumption) | refine Kept_var ?_ | refine Kept_ev ?_ (by assumption) | refine Kept_has ?_ | refine Kept_out ?_ | refine Kept_ctr ?_)
    | dsimp -zeta only
    | split)

theorem kept_fbAccept {x0 x1} (h0 : Kept g x0) (hk : 741308480 &&& g.mask = 741308480) : Kept g (State.fbAccept x0 x1) := by
  unfold State.fbAccept
  repeat' (first | with_reducible assumption | exact mask_sub hk rfl | with_reducible (first | apply kept_raiseInt | apply kept_setF | apply kept_setB | apply kept_openAdvance | apply kept_seqFb | apply kept_imdRefresh | apply kept_arrive | apply Kept_ite) | split | intro _)

theorem kept_filterCommit {x0 x1 x2} (h0 : Kept g x0) : Kept g (State.filterCommit x0 x1 x2) := by
  unfold State.filterCommit
  repeat' (first | with_reducible assumption | with_reducible (first | apply kept_raise | apply kept_occur | apply Kept_ite) | split | intro _)

theorem kept_filterFrame {x0 x1 x2} (h0 : Kept g x0) : Kept g (State.filterFrame x0 x1 x2).2.2 := by
  unfold State.filterFrame
  repeat' (first | with_reducible assumption | with_reducible (first | apply kept_setReg | apply kept_countReg | apply Kept_ite) | split | intro _)

theorem kept_offerIn {x0 x1 x2} (h0 : Kept g x0) (hk : 16777216 &&& g.mask = 16777216) : Kept g (State.offerIn x0 x1 x2) := by
  unfold State.offerIn
  repeat' (first
    | with_reducible assumption
    | with_reducible refine fun _ => ?_
    | ((try lift_lets); intro s; refine (have hs : Kept g s := ?_; ?_); subst s; rotate_left; clear_value s; rotate_left)
    | ((try lift_lets); first | (intro (x : Mram); subst x) | (intro (x : Compositor); subst x) | (intro (x : Store 32); subst x) | (intro (x : Store 8); subst x) | (intro (x : State × _); subst x) | (intro (x : _ × State); subst x) | (intro (x : _ × _ × State); subst x) | (intro (x : State → _); subst x) | (intro (x : _ → State → _); subst x) | (intro (x : _ → State); subst x) | (intro x; clear_value x))
    | (simp only [↓Kept_mk_iff]; refine And.intro ?_ (And.intro ?_ (And.intro ?_ (And.intro ?_ (And.intro ?_ (And.intro ?_ (And.intro ?_ (And.intro ?_ (And.intro ?_ ?_)))))))))
    | with_reducible (first | apply kept_countF | apply kept_raiseInt | apply Kept_ite)
    | with_reducible (first | exact Kept_regs (by assumption) (by assumption) | exact Kept_ram (by assumption) (by assumption) | exact Kept_mram (by assumption) (by assumption) | exact Kept_flt (by assumption) (by assumption) | exact Kept_var (by assumption) | exact Kept_ev (by assumption) (by assumption) | exact Kept_has (by assumption) | exact Kept_out (by assumption) | exact Kept_ctr (by assumption) | exact watchE_none (by assumption))
    | with_reducible refine Only_mk ?_ (.inr rfl) (.inr rfl) (.inr rfl) (.inr rfl) (.inr rfl) (.inr rfl) (.inr rfl) (.inr rfl) (.inr rfl) (.inr rfl) (.inr rfl) (.inr rfl) (.inr rfl) (.inr rfl) (.inr rfl) (.inr rfl) (.inr rfl) (.inr rfl) (.inr rfl) (.inr rfl) (.inr rfl) (.inl (mask_bit hk rfl)) (.inr rfl) (.inr rfl) (.inr rfl) (.inr rfl) (.inr rfl) (.inr rfl) (.inr rfl) (.inr rfl)
    | (first | exact mask_sub hk rfl | exact hk)
    | with_reducible (first | refine Kept_snd (by assumption) ?_ | refine Kept_fst (by assumption) ?_)
    | with_reducible exact Kept_of_next (by assumption)
    | with_reducible (refine Kept_of_O (by assumption) ?_)
    | with_reducible (first | refine Kept_regs (g := g) ?_ (by assumption) | refine Kept_ram (g := g) ?_ (by assumption) | refine Kept_mram (g := g) ?_ (by assumption) | refine Kept_flt (g := g) ?_ (by assumption) | refine Kept_var ?_ | refine Kept_ev ?_ (by assumption) | refine Kept_has ?_ | refine Kept_out ?_ | refine Kept_ctr ?_)
    | dsimp -zeta only
    | split)

theorem kept_takenNow {x0} (h0 : Kept g x0) (hk : 150994944 &&& g.mask = 150994944) : Kept g (State.takenNow x0) := by
  unfold State.takenNow
  repeat' (first
    | with_reducible assumption
    | with_reducible refine fun _ => ?_
    | ((try lift_lets); intro s; refine (have hs : Kept g s := ?_; ?_); subst s; rotate_left; clear_value s; rotate_left)
    | ((try lift_lets); first | (intro (x : Mram); subst x) | (intro (x : Compositor); subst x) | (intro (x : Store 32); subst x) | (intro (x : Store 8); subst x) | (intro (x : State × _); subst x) | (intro (x : _ × State); subst x) | (intro (x : _ × _ × State); subst x) | (intro (x : State → _); subst x) | (intro (x : _ → State → _); subst x) | (intro (x : _ → State); subst x) | (intro x; clear_value x))
    | (simp only [↓Kept_mk_iff]; refine And.intro ?_ (And.intro ?_ (And.intro ?_ (And.intro ?_ (And.intro ?_ (And.intro ?_ (And.intro ?_ (And.intro ?_ (And.intro ?_ ?_)))))))))
    | with_reducible (first | apply kept_sendTaken | apply Kept_ite)
    | with_reducible (first | exact Kept_regs (by assumption) (by assumption) | exact Kept_ram (by assumption) (by assumption) | exact Kept_mram (by assumption) (by assumption) | exact Kept_flt (by assumption) (by assumption) | exact Kept_var (by assumption) | exact Kept_ev (by assumption) (by assumption) | exact Kept_has (by assumption) | exact Kept_out (by assumption) | exact Kept_ctr (by assumption) | exact watchE_none (by assumption))
    | with_reducible refine Only_mk ?_ (.inr rfl) (.inr rfl) (.inr rfl) (.inr rfl) (.inr rfl) (.inr rfl) (.inr rfl) (.inr rfl) (.inr rfl) (.inr rfl) (.inr rfl) (.inr rfl) (.inr rfl) (.inr rfl) (.inr rfl) (.inr rfl) (.inr rfl) (.inr rfl) (.inr rfl) (.inr rfl) (.inr rfl) (.inl (mask_bit hk rfl)) (.inr rfl) (.inr rfl) (.inr rfl) (.inr rfl) (.inr rfl) (.inr rfl) (.inr rfl) (.inr rfl)
    | (first | exact mask_sub hk rfl | exact hk)
    | with_reducible (first | refine Kept_snd (by assumption) ?_ | refine Kept_fst (by assumption) ?_)
    | with_reducible exact Kept_of_next (by assumption)
    | with_reducible (refine Kept_of_O (by assumption) ?_)
    | with_reducible (first | refine Kept_regs (g := g) ?_ (by assumption) | refine Kept_ram (g := g) ?_ (by assumption) | refine Kept_mram (g := g) ?_ (by assumption) | refine Kept_flt (g := g) ?_ (by assumption) | refine Kept_var ?_ | refine Kept_ev ?_ (by assumption) | refine Kept_has ?_ | refine Kept_out ?_ | refine Kept_ctr ?_)
    | dsimp -zeta only
    | split)

theorem kept_takenIn {x0 x1 x2 x3 x4 x5 x6} (h0 : Kept g x0) (hk : 150994944 &&& g.mask = 150994944) : Kept g (State.takenIn x0 x1 x2 x3 x4 x5 x6) := by
  unfold State.takenIn
  repeat' (first | with_reducible assumption | exact mask_sub hk rfl | with_reducible (first | apply kept_takenNow | apply kept_setReg | apply kept_raise | apply Kept_ite) | split | intro _)

theorem kept_trefIn {x0 x1 x2} (h0 : Kept g x0) (hk : 134217728 &&& g.mask = 134217728) : Kept g (State.trefIn x0 x1 x2) := by
  unfold State.trefIn
  repeat' (first
    | with_reducible assumption
    | with_reducible refine fun _ => ?_
    | ((try lift_lets); intro s; refine (have hs : Kept g s := ?_; ?_); subst s; rotate_left; clear_value s; rotate_left)
    | ((try lift_lets); first | (intro (x : Mram); subst x) | (intro (x : Compositor); subst x) | (intro (x : Store 32); subst x) | (intro (x : Store 8); subst x) | (intro (x : State × _); subst x) | (intro (x : _ × State); subst x) | (intro (x : _ × _ × State); subst x) | (intro (x : State → _); subst x) | (intro (x : _ → State → _); subst x) | (intro (x : _ → State); subst x) | (intro x; clear_value x))
    | (simp only [↓Kept_mk_iff]; refine And.intro ?_ (And.intro ?_ (And.intro ?_ (And.intro ?_ (And.intro ?_ (And.intro ?_ (And.intro ?_ (And.intro ?_ (And.intro ?_ ?_)))))))))
    | with_reducible (first | apply kept_setCan | apply kept_raise | apply kept_setReg | apply Kept_ite)
    | with_reducible (first | exact Kept_regs (by assumption) (by assumption) | exact Kept_ram (by assumption) (by assumption) | exact Kept_mram (by assumption) (by assumption) | exact Kept_flt (by assumption) (by assumption) | exact Kept_var (by assumption) | exact Kept_ev (by assumption) (by assumption) | exact Kept_has (by assumption) | exact Kept_out (by assumption) | exact Kept_ctr (by assumption) | exact watchE_none (by assumption))
    | with_reducible refine Only_mk ?_ (.inr rfl) (.inr rfl) (.inr rfl) (.inr rfl) (.inr rfl) (.inr rfl) (.inr rfl) (.inr rfl) (.inr rfl) (.inr rfl) (.inr rfl) (.inr rfl) (.inr rfl) (.inr rfl) (.inr rfl) (.inr rfl) (.inr rfl) (.inr rfl) (.inr rfl) (.inr rfl) (.inr rfl) (.inr rfl) (.inr rfl) (.inr rfl) (.inr rfl) (.inr rfl) (.inr rfl) (.inr rfl) (.inr rfl) (.inr rfl)
    | (first | exact mask_sub hk rfl | exact hk)
    | with_reducible (first | refine Kept_snd (by assumption) ?_ | refine Kept_fst (by assumption) ?_)
    | with_reducible exact Kept_of_next (by assumption)
    | with_reducible (refine Kept_of_O (by assumption) ?_)
    | with_reducible (first | refine Kept_regs (g := g) ?_ (by assumption) | refine Kept_ram (g := g) ?_ (by assumption) | refine Kept_mram (g := g) ?_ (by assumption) | refine Kept_flt (g := g) ?_ (by assumption) | refine Kept_var ?_ | refine Kept_ev ?_ (by assumption) | refine Kept_has ?_ | refine Kept_out ?_ | refine Kept_ctr ?_)
    | dsimp -zeta only
    | split)

theorem kept_fixedFrame {x0 x1 x2} (h0 : Kept g x0) (hk : 758085696 &&& g.mask = 758085696) : Kept g (State.fixedFrame x0 x1 x2).1 := by
  unfold State.fixedFrame
  repeat' (first
    | with_reducible assumption
    | with_reducible refine fun _ => ?_
    | ((try lift_lets); intro s; refine (have hs : Kept g s := ?_; ?_); subst s; rotate_left; clear_value s; rotate_left)
    | ((try lift_lets); first | (intro (x : Mram); subst x) | (intro (x : Compositor); subst x) | (intro (x : Store 32); subst x) | (intro (x : Store 8); subst x) | (intro (x : State × _); subst x) | (intro (x : _ × State); subst x) | (intro (x : _ × _ × State); subst x) | (intro (x : State → _); subst x) | (intro (x : _ → State → _); subst x) | (intro (x : _ → State); subst x) | (intro x; clear_value x))
    | (simp only [↓Kept_mk_iff]; refine And.intro ?_ (And.intro ?_ (And.intro ?_ (And.intro ?_ (And.intro ?_ (And.intro ?_ (And.intro ?_ (And.intro ?_ (And.intro ?_ ?_)))))))))
    | with_reducible (first | apply kept_offerIn | apply kept_clearIn | apply kept_takenIn | apply kept_raise | apply kept_connectAck | apply kept_trefIn | apply Kept_ite | apply Kept_ite1 | apply Kept_ite2 | apply Kept_ite3)
    | with_reducible (first | exact Kept_regs (by assumption) (by assumption) | exact Kept_ram (by assumption) (by assumption) | exact Kept_mram (by assumption) (by assumption) | exact Kept_flt (by assumption) (by assumption) | exact Kept_var (by assumption) | exact Kept_ev (by assumption) (by assumption) | exact Kept_has (by assumption) | exact Kept_out (by assumption) | exact Kept_ctr (by assumption) | exact watchE_none (by assumption))
    | with_reducible refine Only_mk ?_ (.inr rfl) (.inr rfl) (.inr rfl) (.inr rfl) (.inr rfl) (.inr rfl) (.inr rfl) (.inr rfl) (.inr rfl) (.inr rfl) (.inr rfl) (.inr rfl) (.inr rfl) (.inr rfl) (.inr rfl) (.inr rfl) (.inr rfl) (.inr rfl) (.inr rfl) (.inr rfl) (.inr rfl) (.inr rfl) (.inr rfl) (.inr rfl) (.inr rfl) (.inr rfl) (.inr rfl) (.inr rfl) (.inr rfl) (.inr rfl)
    | (first | exact mask_sub hk rfl | exact hk)
    | with_reducible (first | refine Kept_snd (by assumption) ?_ | refine Kept_fst (by assumption) ?_)
    | with_reducible exact Kept_of_next (by assumption)
    | with_reducible (refine Kept_of_O (by assumption) ?_)
    | with_reducible (first | refine Kept_regs (g := g) ?_ (by assumption) | refine Kept_ram (g := g) ?_ (by assumption) | refine Kept_mram (g := g) ?_ (by assumption) | refine Kept_flt (g := g) ?_ (by assumption) | refine Kept_var ?_ | refine Kept_ev ?_ (by assumption) | refine Kept_has ?_ | refine Kept_out ?_ | refine Kept_ctr ?_)
    | dsimp -zeta only
    | split)

theorem kept_floopRead {x0} (h0 : Kept g x0) (hk : 2097152 &&& g.mask = 2097152) : Kept g (State.floopRead x0) := by
  unfold State.floopRead
  repeat' (first
    | with_reducible assumption
    | with_reducible refine fun _ => ?_
    | ((try lift_lets); intro s; refine (have hs : Kept g s := ?_; ?_); subst s; rotate_left; clear_value s; rotate_left)
    | ((try lift_lets); first | (intro (x : Mram); subst x) | (intro (x : Compositor); subst x) | (intro (x : Store 32); subst x) | (intro (x : Store 8); subst x) | (intro (x : State × _); subst x) | (intro (x : _ × State); subst x) | (intro (x : _ × _ × State); subst x) | (intro (x : State → _); subst x) | (intro (x : _ → State → _); subst x) | (intro (x : _ → State); subst x) | (intro x; clear_value x))
    | (simp only [↓Kept_mk_iff]; refine And.intro ?_ (And.intro ?_ (And.intro ?_ (And.intro ?_ (And.intro ?_ (And.intro ?_ (And.intro ?_ (And.intro ?_ (And.intro ?_ ?_)))))))))
    | with_reducible (first | apply kept_nodeReads | apply Kept_ite | apply filter_wf | apply evOk_filter)
    | with_reducible (first | exact Kept_regs (by assumption) (by assumption) | exact Kept_ram (by assumption) (by assumption) | exact Kept_mram (by assumption) (by assumption) | exact Kept_flt (by assumption) (by assumption) | exact Kept_var (by assumption) | exact Kept_ev (by assumption) (by assumption) | exact Kept_has (by assumption) | exact Kept_out (by assumption) | exact Kept_ctr (by assumption) | exact watchE_none (by assumption))
    | with_reducible refine Only_mk ?_ (.inr rfl) (.inr rfl) (.inr rfl) (.inr rfl) (.inr rfl) (.inr rfl) (.inr rfl) (.inr rfl) (.inr rfl) (.inr rfl) (.inr rfl) (.inr rfl) (.inr rfl) (.inr rfl) (.inr rfl) (.inr rfl) (.inr rfl) (.inr rfl) (.inl (mask_bit hk rfl)) (.inr rfl) (.inr rfl) (.inr rfl) (.inr rfl) (.inr rfl) (.inr rfl) (.inr rfl) (.inr rfl) (.inr rfl) (.inr rfl) (.inr rfl)
    | (first | exact mask_sub hk rfl | exact hk)
    | with_reducible (first | refine Kept_snd (by assumption) ?_ | refine Kept_fst (by assumption) ?_)
    | with_reducible exact Kept_of_next (by assumption)
    | with_reducible (refine Kept_of_O (by assumption) ?_)
    | with_reducible (first | refine Kept_regs (g := g) ?_ (by assumption) | refine Kept_ram (g := g) ?_ (by assumption) | refine Kept_mram (g := g) ?_ (by assumption) | refine Kept_flt (g := g) ?_ (by assumption) | refine Kept_var ?_ | refine Kept_ev ?_ (by assumption) | refine Kept_has ?_ | refine Kept_out ?_ | refine Kept_ctr ?_)
    | dsimp -zeta only
    | split)

theorem kept_floopSeen {x0 x1 x2} (h0 : Kept g x0) (hk : 2097152 &&& g.mask = 2097152) : Kept g (State.floopSeen x0 x1 x2) := by
  unfold State.floopSeen
  repeat' (first
    | with_reducible assumption
    | with_reducible refine fun _ => ?_
    | ((try lift_lets); intro s; refine (have hs : Kept g s := ?_; ?_); subst s; rotate_left; clear_value s; rotate_left)
    | ((try lift_lets); first | (intro (x : Mram); subst x) | (intro (x : Compositor); subst x) | (intro (x : Store 32); subst x) | (intro (x : Store 8); subst x) | (intro (x : State × _); subst x) | (intro (x : _ × State); subst x) | (intro (x : _ × _ × State); subst x) | (intro (x : State → _); subst x) | (intro (x : _ → State → _); subst x) | (intro (x : _ → State); subst x) | (intro x; clear_value x))
    | (simp only [↓Kept_mk_iff]; refine And.intro ?_ (And.intro ?_ (And.intro ?_ (And.intro ?_ (And.intro ?_ (And.intro ?_ (And.intro ?_ (And.intro ?_ (And.intro ?_ ?_)))))))))
    | with_reducible (first | apply Kept_ite)
    | with_reducible (first | exact Kept_regs (by assumption) (by assumption) | exact Kept_ram (by assumption) (by assumption) | exact Kept_mram (by assumption) (by assumption) | exact Kept_flt (by assumption) (by assumption) | exact Kept_var (by assumption) | exact Kept_ev (by assumption) (by assumption) | exact Kept_has (by assumption) | exact Kept_out (by assumption) | exact Kept_ctr (by assumption) | exact watchE_none (by assumption))
    | with_reducible refine Only_mk ?_ (.inr rfl) (.inr rfl) (.inr rfl) (.inr rfl) (.inr rfl) (.inr rfl) (.inr rfl) (.inr rfl) (.inr rfl) (.inr rfl) (.inr rfl) (.inr rfl) (.inr rfl) (.inr rfl) (.inr rfl) (.inr rfl) (.inr rfl) (.inr rfl) (.inl (mask_bit hk rfl)) (.inr rfl) (.inr rfl) (.inr rfl) (.inr rfl) (.inr rfl) (.inr rfl) (.inr rfl) (.inr rfl) (.inr rfl) (.inr rfl) (.inr rfl)
    | (first | exact mask_sub hk rfl | exact hk)
    | with_reducible (first | refine Kept_snd (by assumption) ?_ | refine Kept_fst (by assumption) ?_)
    | with_reducible exact Kept_of_next (by assumption)
    | with_reducible (refine Kept_of_O (by assumption) ?_)
    | with_reducible (first | refine Kept_regs (g := g) ?_ (by assumption) | refine Kept_ram (g := g) ?_ (by assumption) | refine Kept_mram (g := g) ?_ (by assumption) | refine Kept_flt (g := g) ?_ (by assumption) | refine Kept_var ?_ | refine Kept_ev ?_ (by assumption) | refine Kept_has ?_ | refine Kept_out ?_ | refine Kept_ctr ?_)
    | dsimp -zeta only
    | split)

theorem kept_floopReply {x0 x1 x2} (h0 : Kept g x0) (hk : 2097152 &&& g.mask = 2097152) : Kept g (State.floopReply x0 x1 x2) := by
  unfold State.floopReply
  repeat' (first
    | with_reducible assumption
    | with_reducible refine fun _ => ?_
    | ((try lift_lets); intro s; refine (have hs : Kept g s := ?_; ?_); subst s; rotate_left; clear_value s; rotate_left)
    | ((try lift_lets); first | (intro (x : Mram); subst x) | (intro (x : Compositor); subst x) | (intro (x : Store 32); subst x) | (intro (x : Store 8); subst x) | (intro (x : State × _); subst x) | (intro (x : _ × State); subst x) | (intro (x : _ × _ × State); subst x) | (intro (x : State → _); subst x) | (intro (x : _ → State → _); subst x) | (intro (x : _ → State); subst x) | (intro x; clear_value x))
    | (simp only [↓Kept_mk_iff]; refine And.intro ?_ (And.intro ?_ (And.intro ?_ (And.intro ?_ (And.intro ?_ (And.intro ?_ (And.intro ?_ (And.intro ?_ (And.intro ?_ ?_)))))))))
    | with_reducible (first | apply kept_floopSeen | apply Kept_ite | apply filter_wf | apply evOk_filter)
    | with_reducible (first | exact Kept_regs (by assumption) (by assumption) | exact Kept_ram (by assumption) (by assumption) | exact Kept_mram (by assumption) (by assumption) | exact Kept_flt (by assumption) (by assumption) | exact Kept_var (by assumption) | exact Kept_ev (by assumption) (by assumption) | exact Kept_has (by assumption) | exact Kept_out (by assumption) | exact Kept_ctr (by assumption) | exact watchE_none (by assumption))
    | with_reducible refine Only_mk ?_ (.inr rfl) (.inr rfl) (.inr rfl) (.inr rfl) (.inr rfl) (.inr rfl) (.inr rfl) (.inr rfl) (.inr rfl) (.inr rfl) (.inr rfl) (.inr rfl) (.inr rfl) (.inr rfl) (.inr rfl) (.inr rfl) (.inr rfl) (.inr rfl) (.inl (mask_bit hk rfl)) (.inr rfl) (.inr rfl) (.inr rfl) (.inr rfl) (.inr rfl) (.inr rfl) (.inr rfl) (.inr rfl) (.inr rfl) (.inr rfl) (.inr rfl)
    | (first | exact mask_sub hk rfl | exact hk)
    | with_reducible (first | refine Kept_snd (by assumption) ?_ | refine Kept_fst (by assumption) ?_)
    | with_reducible exact Kept_of_next (by assumption)
    | with_reducible (refine Kept_of_O (by assumption) ?_)
    | with_reducible (first | refine Kept_regs (g := g) ?_ (by assumption) | refine Kept_ram (g := g) ?_ (by assumption) | refine Kept_mram (g := g) ?_ (by assumption) | refine Kept_flt (g := g) ?_ (by assumption) | refine Kept_var ?_ | refine Kept_ev ?_ (by assumption) | refine Kept_has ?_ | refine Kept_out ?_ | refine Kept_ctr ?_)
    | dsimp -zeta only
    | split)

theorem kept_followSweep {x0 x1} (h0 : Kept g x0) (hk : 4194304 &&& g.mask = 4194304) : Kept g (State.followSweep x0 x1) := by
  unfold State.followSweep
  repeat' (first
    | with_reducible assumption
    | with_reducible refine fun _ => ?_
    | ((try lift_lets); intro s; refine (have hs : Kept g s := ?_; ?_); subst s; rotate_left; clear_value s; rotate_left)
    | ((try lift_lets); first | (intro (x : Mram); subst x) | (intro (x : Compositor); subst x) | (intro (x : Store 32); subst x) | (intro (x : Store 8); subst x) | (intro (x : State × _); subst x) | (intro (x : _ × State); subst x) | (intro (x : _ × _ × State); subst x) | (intro (x : State → _); subst x) | (intro (x : _ → State → _); subst x) | (intro (x : _ → State); subst x) | (intro x; clear_value x))
    | (simp only [↓Kept_mk_iff]; refine And.intro ?_ (And.intro ?_ (And.intro ?_ (And.intro ?_ (And.intro ?_ (And.intro ?_ (And.intro ?_ (And.intro ?_ (And.intro ?_ ?_)))))))))
    | with_reducible (first | apply Kept_ite)
    | with_reducible (first | exact Kept_regs (by assumption) (by assumption) | exact Kept_ram (by assumption) (by assumption) | exact Kept_mram (by assumption) (by assumption) | exact Kept_flt (by assumption) (by assumption) | exact Kept_var (by assumption) | exact Kept_ev (by assumption) (by assumption) | exact Kept_has (by assumption) | exact Kept_out (by assumption) | exact Kept_ctr (by assumption) | exact watchE_none (by assumption))
    | with_reducible refine Only_mk ?_ (.inr rfl) (.inr rfl) (.inr rfl) (.inr rfl) (.inr rfl) (.inr rfl) (.inr rfl) (.inr rfl) (.inr rfl) (.inr rfl) (.inr rfl) (.inr rfl) (.inr rfl) (.inr rfl) (.inr rfl) (.inr rfl) (.inr rfl) (.inr rfl) (.inr rfl) (.inl (mask_bit hk rfl)) (.inr rfl) (.inr rfl) (.inr rfl) (.inr rfl) (.inr rfl) (.inr rfl) (.inr rfl) (.inr rfl) (.inr rfl) (.inr rfl)
    | (first | exact mask_sub hk rfl | exact hk)
    | with_reducible (first | refine Kept_snd (by assumption) ?_ | refine Kept_fst (by assumption) ?_)
    | with_reducible exact Kept_of_next (by assumption)
    | with_reducible (refine Kept_of_O (by assumption) ?_)
    | with_reducible (first | refine Kept_regs (g := g) ?_ (by assumption) | refine Kept_ram (g := g) ?_ (by assumption) | refine Kept_mram (g := g) ?_ (by assumption) | refine Kept_flt (g := g) ?_ (by assumption) | refine Kept_var ?_ | refine Kept_ev ?_ (by assumption) | refine Kept_has ?_ | refine Kept_out ?_ | refine Kept_ctr ?_)
    | dsimp -zeta only
    | split)

theorem kept_freeze {x0} (h0 : Kept g x0) (hk : 1024 &&& g.mask = 1024) : Kept g (State.freeze x0) := by
  unfold State.freeze
  repeat' (first
    | with_reducible assumption
    | with_reducible refine fun _ => ?_
    | ((try lift_lets); intro s; refine (have hs : Kept g s := ?_; ?_); subst s; rotate_left; clear_value s; rotate_left)
    | ((try lift_lets); first | (intro (x : Mram); subst x) | (intro (x : Compositor); subst x) | (intro (x : Store 32); subst x) | (intro (x : Store 8); subst x) | (intro (x : State × _); subst x) | (intro (x : _ × State); subst x) | (intro (x : _ × _ × State); subst x) | (intro (x : State → _); subst x) | (intro (x : _ → State → _); subst x) | (intro (x : _ → State); subst x) | (intro x; clear_value x))
    | (simp only [↓Kept_mk_iff]; refine And.intro ?_ (And.intro ?_ (And.intro ?_ (And.intro ?_ (And.intro ?_ (And.intro ?_ (And.intro ?_ (And.intro ?_ (And.intro ?_ ?_)))))))))
    | with_reducible (first | apply kept_setB | apply kept_raise | apply Kept_ite)
    | with_reducible (first | exact Kept_regs (by assumption) (by assumption) | exact Kept_ram (by assumption) (by assumption) | exact Kept_mram (by assumption) (by assumption) | exact Kept_flt (by assumption) (by assumption) | exact Kept_var (by assumption) | exact Kept_ev (by assumption) (by assumption) | exact Kept_has (by assumption) | exact Kept_out (by assumption) | exact Kept_ctr (by assumption) | exact watchE_none (by assumption))
    | with_reducible refine Only_mk ?_ (.inr rfl) (.inr rfl) (.inr rfl) (.inr rfl) (.inr rfl) (.inr rfl) (.inr rfl) (.inl (mask_bit hk rfl)) (.inr rfl) (.inr rfl) (.inr rfl) (.inr rfl) (.inr rfl) (.inr rfl) (.inr rfl) (.inr rfl) (.inr rfl) (.inr rfl) (.inr rfl) (.inr rfl) (.inr rfl) (.inr rfl) (.inr rfl) (.inr rfl) (.inr rfl) (.inr rfl) (.inr rfl) (.inr rfl) (.inr rfl) (.inr rfl)
    | (first | exact mask_sub hk rfl | exact hk)
    | with_reducible (first | refine Kept_snd (by assumption) ?_ | refine Kept_fst (by assumption) ?_)
    | with_reducible exact Kept_of_next (by assumption)
    | with_reducible (refine Kept_of_O (by assumption) ?_)
    | with_reducible (first | refine Kept_regs (g := g) ?_ (by assumption) | refine Kept_ram (g := g) ?_ (by assumption) | refine Kept_mram (g := g) ?_ (by assumption) | refine Kept_flt (g := g) ?_ (by assumption) | refine Kept_var ?_ | refine Kept_ev ?_ (by assumption) | refine Kept_has ?_ | refine Kept_out ?_ | refine Kept_ctr ?_)
    | dsimp -zeta only
    | split)

theorem kept_reduceMissed {x0} (h0 : Kept g x0) (hk : 68118592 &&& g.mask = 68118592) : Kept g (State.reduceMissed x0) := by
  unfold State.reduceMissed
  repeat' (first
    | with_reducible assumption
    | with_reducible refine fun _ => ?_
    | ((try lift_lets); intro s; refine (have hs : Kept g s := ?_; ?_); subst s; rotate_left; clear_value s; rotate_left)
    | ((try lift_lets); first | (intro (x : Mram); subst x) | (intro (x : Compositor); subst x) | (intro (x : Store 32); subst x) | (intro (x : Store 8); subst x) | (intro (x : State × _); subst x) | (intro (x : _ × State); subst x) | (intro (x : _ × _ × State); subst x) | (intro (x : State → _); subst x) | (intro (x : _ → State → _); subst x) | (intro (x : _ → State); subst x) | (intro x; clear_value x))
    | (simp only [↓Kept_mk_iff]; refine And.intro ?_ (And.intro ?_ (And.intro ?_ (And.intro ?_ (And.intro ?_ (And.intro ?_ (And.intro ?_ (And.intro ?_ (And.intro ?_ ?_)))))))))
    | with_reducible (first | apply kept_raise | apply kept_loadOpen | apply kept_removeDrive | apply kept_openContactors | apply Kept_ite)
    | with_reducible (first | exact Kept_regs (by assumption) (by assumption) | exact Kept_ram (by assumption) (by assumption) | exact Kept_mram (by assumption) (by assumption) | exact Kept_flt (by assumption) (by assumption) | exact Kept_var (by assumption) | exact Kept_ev (by assumption) (by assumption) | exact Kept_has (by assumption) | exact Kept_out (by assumption) | exact Kept_ctr (by assumption) | exact watchE_none (by assumption))
    | with_reducible refine Only_mk ?_ (.inr rfl) (.inr rfl) (.inr rfl) (.inr rfl) (.inr rfl) (.inr rfl) (.inr rfl) (.inr rfl) (.inr rfl) (.inr rfl) (.inr rfl) (.inr rfl) (.inr rfl) (.inr rfl) (.inl (mask_bit hk rfl)) (.inr rfl) (.inr rfl) (.inr rfl) (.inr rfl) (.inr rfl) (.inr rfl) (.inr rfl) (.inr rfl) (.inr rfl) (.inr rfl) (.inr rfl) (.inr rfl) (.inr rfl) (.inr rfl) (.inr rfl)
    | (first | exact mask_sub hk rfl | exact hk)
    | with_reducible (first | refine Kept_snd (by assumption) ?_ | refine Kept_fst (by assumption) ?_)
    | with_reducible exact Kept_of_next (by assumption)
    | with_reducible (refine Kept_of_O (by assumption) ?_)
    | with_reducible (first | refine Kept_regs (g := g) ?_ (by assumption) | refine Kept_ram (g := g) ?_ (by assumption) | refine Kept_mram (g := g) ?_ (by assumption) | refine Kept_flt (g := g) ?_ (by assumption) | refine Kept_var ?_ | refine Kept_ev ?_ (by assumption) | refine Kept_has ?_ | refine Kept_out ?_ | refine Kept_ctr ?_)
    | dsimp -zeta only
    | split)

theorem kept_fsSample {x0} (h0 : Kept g x0) (hk : 68118592 &&& g.mask = 68118592) : Kept g (State.fsSample x0) := by
  unfold State.fsSample
  repeat' (first
    | with_reducible assumption
    | with_reducible refine fun _ => ?_
    | ((try lift_lets); intro s; refine (have hs : Kept g s := ?_; ?_); subst s; rotate_left; clear_value s; rotate_left)
    | ((try lift_lets); first | (intro (x : Mram); subst x) | (intro (x : Compositor); subst x) | (intro (x : Store 32); subst x) | (intro (x : Store 8); subst x) | (intro (x : State × _); subst x) | (intro (x : _ × State); subst x) | (intro (x : _ × _ × State); subst x) | (intro (x : State → _); subst x) | (intro (x : _ → State → _); subst x) | (intro (x : _ → State); subst x) | (intro x; clear_value x))
    | (simp only [↓Kept_mk_iff]; refine And.intro ?_ (And.intro ?_ (And.intro ?_ (And.intro ?_ (And.intro ?_ (And.intro ?_ (And.intro ?_ (And.intro ?_ (And.intro ?_ ?_)))))))))
    | with_reducible (first | apply kept_openContactors | apply kept_setI | apply kept_removeDrive | apply kept_setF | apply kept_reduceMissed | apply kept_noRampPath | apply kept_raise | apply Kept_ite)
    | with_reducible (first | exact Kept_regs (by assumption) (by assumption) | exact Kept_ram (by assumption) (by assumption) | exact Kept_mram (by assumption) (by assumption) | exact Kept_flt (by assumption) (by assumption) | exact Kept_var (by assumption) | exact Kept_ev (by assumption) (by assumption) | exact Kept_has (by assumption) | exact Kept_out (by assumption) | exact Kept_ctr (by assumption) | exact watchE_none (by assumption))
    | with_reducible refine Only_mk ?_ (.inr rfl) (.inr rfl) (.inr rfl) (.inr rfl) (.inr rfl) (.inr rfl) (.inr rfl) (.inr rfl) (.inr rfl) (.inr rfl) (.inr rfl) (.inr rfl) (.inr rfl) (.inr rfl) (.inl (mask_bit hk rfl)) (.inr rfl) (.inr rfl) (.inr rfl) (.inr rfl) (.inr rfl) (.inr rfl) (.inr rfl) (.inr rfl) (.inr rfl) (.inr rfl) (.inr rfl) (.inr rfl) (.inr rfl) (.inr rfl) (.inr rfl)
    | (first | exact mask_sub hk rfl | exact hk)
    | with_reducible (first | refine Kept_snd (by assumption) ?_ | refine Kept_fst (by assumption) ?_)
    | with_reducible exact Kept_of_next (by assumption)
    | with_reducible (refine Kept_of_O (by assumption) ?_)
    | with_reducible (first | refine Kept_regs (g := g) ?_ (by assumption) | refine Kept_ram (g := g) ?_ (by assumption) | refine Kept_mram (g := g) ?_ (by assumption) | refine Kept_flt (g := g) ?_ (by assumption) | refine Kept_var ?_ | refine Kept_ev ?_ (by assumption) | refine Kept_has ?_ | refine Kept_out ?_ | refine Kept_ctr ?_)
    | dsimp -zeta only
    | split)

theorem kept_gpioOut {x0} (h0 : Kept g x0) : Kept g (State.gpioOut x0) := by
  unfold State.gpioOut
  repeat' (first
    | with_reducible assumption
    | with_reducible refine fun _ => ?_
    | ((try lift_lets); intro s; refine (have hs : Kept g s := ?_; ?_); subst s; rotate_left; clear_value s; rotate_left)
    | ((try lift_lets); first | (intro (x : Mram); subst x) | (intro (x : Compositor); subst x) | (intro (x : Store 32); subst x) | (intro (x : Store 8); subst x) | (intro (x : State × _); subst x) | (intro (x : _ × State); subst x) | (intro (x : _ × _ × State); subst x) | (intro (x : State → _); subst x) | (intro (x : _ → State → _); subst x) | (intro (x : _ → State); subst x) | (intro x; clear_value x))
    | (simp only [↓Kept_mk_iff]; refine And.intro ?_ (And.intro ?_ (And.intro ?_ (And.intro ?_ (And.intro ?_ (And.intro ?_ (And.intro ?_ (And.intro ?_ (And.intro ?_ ?_)))))))))
    | with_reducible (first | apply kept_emit | apply Kept_ite | apply Kept_foldl)
    | with_reducible (first | exact Kept_regs (by assumption) (by assumption) | exact Kept_ram (by assumption) (by assumption) | exact Kept_mram (by assumption) (by assumption) | exact Kept_flt (by assumption) (by assumption) | exact Kept_var (by assumption) | exact Kept_ev (by assumption) (by assumption) | exact Kept_has (by assumption) | exact Kept_out (by assumption) | exact Kept_ctr (by assumption) | exact watchE_none (by assumption))
    | (first | rfl)
    | with_reducible (first | refine Kept_snd (by assumption) ?_ | refine Kept_fst (by assumption) ?_)
    | with_reducible exact Kept_of_next (by assumption)
    | with_reducible (refine Kept_of_O (by assumption) ?_)
    | with_reducible (first | refine Kept_regs (g := g) ?_ (by assumption) | refine Kept_ram (g := g) ?_ (by assumption) | refine Kept_mram (g := g) ?_ (by assumption) | refine Kept_flt (g := g) ?_ (by assumption) | refine Kept_var ?_ | refine Kept_ev ?_ (by assumption) | refine Kept_has ?_ | refine Kept_out ?_ | refine Kept_ctr ?_)
    | dsimp -zeta only
    | split)

theorem kept_grantSeq {x0 x1 x2} (h0 : Kept g x0) (hk : 1050624 &&& g.mask = 1050624) : Kept g (State.grantSeq x0 x1 x2) := by
  unfold State.grantSeq
  repeat' (first
    | with_reducible assumption
    | with_reducible refine fun _ => ?_
    | ((try lift_lets); intro s; refine (have hs : Kept g s := ?_; ?_); subst s; rotate_left; clear_value s; rotate_left)
    | ((try lift_lets); first | (intro (x : Mram); subst x) | (intro (x : Compositor); subst x) | (intro (x : Store 32); subst x) | (intro (x : Store 8); subst x) | (intro (x : State × _); subst x) | (intro (x : _ × State); subst x) | (intro (x : _ × _ × State); subst x) | (intro (x : State → _); subst x) | (intro (x : _ → State → _); subst x) | (intro (x : _ → State); subst x) | (intro x; clear_value x))
    | (simp only [↓Kept_mk_iff]; refine And.intro ?_ (And.intro ?_ (And.intro ?_ (And.intro ?_ (And.intro ?_ (And.intro ?_ (And.intro ?_ (And.intro ?_ (And.intro ?_ ?_)))))))))
    | with_reducible (first | apply kept_setReg | apply Kept_ite)
    | with_reducible (first | exact Kept_regs (by assumption) (by assumption) | exact Kept_ram (by assumption) (by assumption) | exact Kept_mram (by assumption) (by assumption) | exact Kept_flt (by assumption) (by assumption) | exact Kept_var (by assumption) | exact Kept_ev (by assumption) (by assumption) | exact Kept_has (by assumption) | exact Kept_out (by assumption) | exact Kept_ctr (by assumption) | exact watchE_none (by assumption))
    | with_reducible refine Only_mk ?_ (.inr rfl) (.inr rfl) (.inr rfl) (.inr rfl) (.inr rfl) (.inr rfl) (.inr rfl) (.inr rfl) (.inl (mask_bit hk rfl)) (.inr rfl) (.inr rfl) (.inr rfl) (.inr rfl) (.inr rfl) (.inr rfl) (.inr rfl) (.inr rfl) (.inl (mask_bit hk rfl)) (.inr rfl) (.inr rfl) (.inr rfl) (.inr rfl) (.inr rfl) (.inr rfl) (.inr rfl) (.inr rfl) (.inr rfl) (.inr rfl) (.inr rfl) (.inr rfl)
    | (first | exact mask_sub hk rfl | exact hk)
    | with_reducible (first | refine Kept_snd (by assumption) ?_ | refine Kept_fst (by assumption) ?_)
    | with_reducible exact Kept_of_next (by assumption)
    | with_reducible (refine Kept_of_O (by assumption) ?_)
    | with_reducible (first | refine Kept_regs (g := g) ?_ (by assumption) | refine Kept_ram (g := g) ?_ (by assumption) | refine Kept_mram (g := g) ?_ (by assumption) | refine Kept_flt (g := g) ?_ (by assumption) | refine Kept_var ?_ | refine Kept_ev ?_ (by assumption) | refine Kept_has ?_ | refine Kept_out ?_ | refine Kept_ctr ?_)
    | dsimp -zeta only
    | split)

theorem kept_grantCount {x0 x1 x2} (h0 : Kept g x0) (hk : 64 &&& g.mask = 64) : Kept g (State.grantCount x0 x1 x2) := by
  unfold State.grantCount
  repeat' (first
    | with_reducible assumption
    | with_reducible refine fun _ => ?_
    | ((try lift_lets); intro s; refine (have hs : Kept g s := ?_; ?_); subst s; rotate_left; clear_value s; rotate_left)
    | ((try lift_lets); first | (intro (x : Mram); subst x) | (intro (x : Compositor); subst x) | (intro (x : Store 32); subst x) | (intro (x : Store 8); subst x) | (intro (x : State × _); subst x) | (intro (x : _ × State); subst x) | (intro (x : _ × _ × State); subst x) | (intro (x : State → _); subst x) | (intro (x : _ → State → _); subst x) | (intro (x : _ → State); subst x) | (intro x; clear_value x))
    | (simp only [↓Kept_mk_iff]; refine And.intro ?_ (And.intro ?_ (And.intro ?_ (And.intro ?_ (And.intro ?_ (And.intro ?_ (And.intro ?_ (And.intro ?_ (And.intro ?_ ?_)))))))))
    | with_reducible (first | apply kept_setReg | apply kept_occur | apply kept_setRegM | apply kept_raiseIf | apply Kept_ite)
    | with_reducible (first | exact Kept_regs (by assumption) (by assumption) | exact Kept_ram (by assumption) (by assumption) | exact Kept_mram (by assumption) (by assumption) | exact Kept_flt (by assumption) (by assumption) | exact Kept_var (by assumption) | exact Kept_ev (by assumption) (by assumption) | exact Kept_has (by assumption) | exact Kept_out (by assumption) | exact Kept_ctr (by assumption) | exact watchE_none (by assumption))
    | with_reducible refine Only_mk ?_ (.inr rfl) (.inr rfl) (.inr rfl) (.inr rfl) (.inr rfl) (.inr rfl) (.inr rfl) (.inr rfl) (.inr rfl) (.inr rfl) (.inr rfl) (.inr rfl) (.inr rfl) (.inr rfl) (.inr rfl) (.inr rfl) (.inr rfl) (.inr rfl) (.inr rfl) (.inr rfl) (.inr rfl) (.inr rfl) (.inr rfl) (.inr rfl) (.inr rfl) (.inr rfl) (.inr rfl) (.inr rfl) (.inr rfl) (.inr rfl)
    | (first | exact mask_sub hk rfl | exact hk)
    | with_reducible (first | refine Kept_snd (by assumption) ?_ | refine Kept_fst (by assumption) ?_)
    | with_reducible exact Kept_of_next (by assumption)
    | with_reducible (refine Kept_of_O (by assumption) ?_)
    | with_reducible (first | refine Kept_regs (g := g) ?_ (by assumption) | refine Kept_ram (g := g) ?_ (by assumption) | refine Kept_mram (g := g) ?_ (by assumption) | refine Kept_flt (g := g) ?_ (by assumption) | refine Kept_var ?_ | refine Kept_ev ?_ (by assumption) | refine Kept_has ?_ | refine Kept_out ?_ | refine Kept_ctr ?_)
    | dsimp -zeta only
    | split)

theorem kept_snapshot {x0 x1} (h0 : Kept g x0) (hk : 8192 &&& g.mask = 8192) : Kept g (State.snapshot x0 x1).2 := by
  induction x1 generalizing x0 with
  | nil => exact h0
  | cons a t ih =>
    unfold State.snapshot
    repeat' (first
      | with_reducible assumption
      | with_reducible refine fun _ => ?_
      | ((try lift_lets); intro s; refine (have hs : Kept g s := ?_; ?_); subst s; rotate_left; clear_value s; rotate_left)
      | ((try lift_lets); first | (intro (x : Mram); subst x) | (intro (x : Compositor); subst x) | (intro (x : Store 32); subst x) | (intro (x : Store 8); subst x) | (intro (x : State × _); subst x) | (intro (x : _ × State); subst x) | (intro (x : _ × _ × State); subst x) | (intro (x : State → _); subst x) | (intro (x : _ → State → _); subst x) | (intro (x : _ → State); subst x) | (intro x; clear_value x))
      | (simp only [↓Kept_mk_iff]; refine And.intro ?_ (And.intro ?_ (And.intro ?_ (And.intro ?_ (And.intro ?_ (And.intro ?_ (And.intro ?_ (And.intro ?_ (And.intro ?_ ?_)))))))))
      | with_reducible (first | apply ih | apply kept_clearRead | apply Kept_ite | apply Kept_ite1 | apply Kept_ite2 | apply Kept_ite3)
      | with_reducible (first | exact Kept_regs (by assumption) (by assumption) | exact Kept_ram (by assumption) (by assumption) | exact Kept_mram (by assumption) (by assumption) | exact Kept_flt (by assumption) (by assumption) | exact Kept_var (by assumption) | exact Kept_ev (by assumption) (by assumption) | exact Kept_has (by assumption) | exact Kept_out (by assumption) | exact Kept_ctr (by assumption) | exact watchE_none (by assumption))
      | (first | exact mask_sub hk rfl | exact hk)
      | with_reducible (first | refine Kept_snd (by assumption) ?_ | refine Kept_fst (by assumption) ?_)
      | with_reducible exact Kept_of_next (by assumption)
      | with_reducible (refine Kept_of_O (by assumption) ?_)
      | with_reducible (first | refine Kept_regs (g := g) ?_ (by assumption) | refine Kept_ram (g := g) ?_ (by assumption) | refine Kept_mram (g := g) ?_ (by assumption) | refine Kept_flt (g := g) ?_ (by assumption) | refine Kept_var ?_ | refine Kept_ev ?_ (by assumption) | refine Kept_has ?_ | refine Kept_out ?_ | refine Kept_ctr ?_)
      | dsimp -zeta only
      | split)

theorem kept_takeRecord {x0 x1 x2 x3 x4 x5 x6} (h0 : Kept g x0) (hk : 9216 &&& g.mask = 9216) : Kept g (State.takeRecord x0 x1 x2 x3 x4 x5 x6) := by
  unfold State.takeRecord
  repeat' (first
    | with_reducible assumption
    | with_reducible refine fun _ => ?_
    | ((try lift_lets); intro s; refine (have hs : Kept g s := ?_; ?_); subst s; rotate_left; clear_value s; rotate_left)
    | ((try lift_lets); first | (intro (x : Mram); subst x) | (intro (x : Compositor); subst x) | (intro (x : Store 32); subst x) | (intro (x : Store 8); subst x) | (intro (x : State × _); subst x) | (intro (x : _ × State); subst x) | (intro (x : _ × _ × State); subst x) | (intro (x : State → _); subst x) | (intro (x : _ → State → _); subst x) | (intro (x : _ → State); subst x) | (intro x; clear_value x))
    | (simp only [↓Kept_mk_iff]; refine And.intro ?_ (And.intro ?_ (And.intro ?_ (And.intro ?_ (And.intro ?_ (And.intro ?_ (And.intro ?_ (And.intro ?_ (And.intro ?_ ?_)))))))))
    | with_reducible (first | apply kept_snapshot | apply kept_freeze | apply Kept_ite)
    | with_reducible (first | exact Kept_regs (by assumption) (by assumption) | exact Kept_ram (by assumption) (by assumption) | exact Kept_mram (by assumption) (by assumption) | exact Kept_flt (by assumption) (by assumption) | exact Kept_var (by assumption) | exact Kept_ev (by assumption) (by assumption) | exact Kept_has (by assumption) | exact Kept_out (by assumption) | exact Kept_ctr (by assumption) | exact watchE_none (by assumption))
    | with_reducible refine Only_mk ?_ (.inr rfl) (.inr rfl) (.inr rfl) (.inr rfl) (.inr rfl) (.inr rfl) (.inr rfl) (.inl (mask_bit hk rfl)) (.inr rfl) (.inr rfl) (.inr rfl) (.inr rfl) (.inr rfl) (.inr rfl) (.inr rfl) (.inr rfl) (.inr rfl) (.inr rfl) (.inr rfl) (.inr rfl) (.inr rfl) (.inr rfl) (.inr rfl) (.inr rfl) (.inr rfl) (.inr rfl) (.inr rfl) (.inr rfl) (.inr rfl) (.inr rfl)
    | (first | exact mask_sub hk rfl | exact hk)
    | with_reducible (first | refine Kept_snd (by assumption) ?_ | refine Kept_fst (by assumption) ?_)
    | with_reducible exact Kept_of_next (by assumption)
    | with_reducible (refine Kept_of_O (by assumption) ?_)
    | with_reducible (first | refine Kept_regs (g := g) ?_ (by assumption) | refine Kept_ram (g := g) ?_ (by assumption) | refine Kept_mram (g := g) ?_ (by assumption) | refine Kept_flt (g := g) ?_ (by assumption) | refine Kept_var ?_ | refine Kept_ev ?_ (by assumption) | refine Kept_has ?_ | refine Kept_out ?_ | refine Kept_ctr ?_)
    | dsimp -zeta only
    | split)

theorem kept_trigger {x0 x1 x2 x3 x4} (h0 : Kept g x0) (hk : 9216 &&& g.mask = 9216) : Kept g (State.trigger x0 x1 x2 x3 x4) := by
  unfold State.trigger
  repeat' (first
    | with_reducible assumption
    | with_reducible refine fun _ => ?_
    | ((try lift_lets); intro s; refine (have hs : Kept g s := ?_; ?_); subst s; rotate_left; clear_value s; rotate_left)
    | ((try lift_lets); first | (intro (x : Mram); subst x) | (intro (x : Compositor); subst x) | (intro (x : Store 32); subst x) | (intro (x : Store 8); subst x) | (intro (x : State × _); subst x) | (intro (x : _ × State); subst x) | (intro (x : _ × _ × State); subst x) | (intro (x : State → _); subst x) | (intro (x : _ → State → _); subst x) | (intro (x : _ → State); subst x) | (intro x; clear_value x))
    | (simp only [↓Kept_mk_iff]; refine And.intro ?_ (And.intro ?_ (And.intro ?_ (And.intro ?_ (And.intro ?_ (And.intro ?_ (And.intro ?_ (And.intro ?_ (And.intro ?_ ?_)))))))))
    | with_reducible (first | apply kept_countReg | apply kept_takeRecord | apply kept_freeze | apply Kept_ite | apply filter_wf | apply evOk_filter)
    | with_reducible (first | exact Kept_regs (by assumption) (by assumption) | exact Kept_ram (by assumption) (by assumption) | exact Kept_mram (by assumption) (by assumption) | exact Kept_flt (by assumption) (by assumption) | exact Kept_var (by assumption) | exact Kept_ev (by assumption) (by assumption) | exact Kept_has (by assumption) | exact Kept_out (by assumption) | exact Kept_ctr (by assumption) | exact watchE_none (by assumption))
    | with_reducible refine Only_mk ?_ (.inr rfl) (.inr rfl) (.inr rfl) (.inr rfl) (.inr rfl) (.inr rfl) (.inr rfl) (.inl (mask_bit hk rfl)) (.inr rfl) (.inr rfl) (.inr rfl) (.inr rfl) (.inr rfl) (.inr rfl) (.inr rfl) (.inr rfl) (.inr rfl) (.inr rfl) (.inr rfl) (.inr rfl) (.inr rfl) (.inr rfl) (.inr rfl) (.inr rfl) (.inr rfl) (.inr rfl) (.inr rfl) (.inr rfl) (.inr rfl) (.inr rfl)
    | (first | exact mask_sub hk rfl | exact hk)
    | with_reducible (first | refine Kept_snd (by assumption) ?_ | refine Kept_fst (by assumption) ?_)
    | with_reducible exact Kept_of_next (by assumption)
    | with_reducible (refine Kept_of_O (by assumption) ?_)
    | with_reducible (first | refine Kept_regs (g := g) ?_ (by assumption) | refine Kept_ram (g := g) ?_ (by assumption) | refine Kept_mram (g := g) ?_ (by assumption) | refine Kept_flt (g := g) ?_ (by assumption) | refine Kept_var ?_ | refine Kept_ev ?_ (by assumption) | refine Kept_has ?_ | refine Kept_out ?_ | refine Kept_ctr ?_)
    | dsimp -zeta only
    | split)

theorem kept_recordGrant {x0 x1 x2 x3} (h0 : Kept g x0) (hk : 9216 &&& g.mask = 9216) : Kept g (State.recordGrant x0 x1 x2 x3) := by
  unfold State.recordGrant
  repeat' (first
    | with_reducible assumption
    | with_reducible refine fun _ => ?_
    | ((try lift_lets); intro s; refine (have hs : Kept g s := ?_; ?_); subst s; rotate_left; clear_value s; rotate_left)
    | ((try lift_lets); first | (intro (x : Mram); subst x) | (intro (x : Compositor); subst x) | (intro (x : Store 32); subst x) | (intro (x : Store 8); subst x) | (intro (x : State × _); subst x) | (intro (x : _ × State); subst x) | (intro (x : _ × _ × State); subst x) | (intro (x : State → _); subst x) | (intro (x : _ → State → _); subst x) | (intro (x : _ → State); subst x) | (intro x; clear_value x))
    | (simp only [↓Kept_mk_iff]; refine And.intro ?_ (And.intro ?_ (And.intro ?_ (And.intro ?_ (And.intro ?_ (And.intro ?_ (And.intro ?_ (And.intro ?_ (And.intro ?_ ?_)))))))))
    | with_reducible (first | apply kept_takeRecord | apply kept_trigger | apply Kept_ite | apply Kept_foldl | apply filter_wf | apply evOk_filter)
    | with_reducible (first | exact Kept_regs (by assumption) (by assumption) | exact Kept_ram (by assumption) (by assumption) | exact Kept_mram (by assumption) (by assumption) | exact Kept_flt (by assumption) (by assumption) | exact Kept_var (by assumption) | exact Kept_ev (by assumption) (by assumption) | exact Kept_has (by assumption) | exact Kept_out (by assumption) | exact Kept_ctr (by assumption) | exact watchE_none (by assumption))
    | with_reducible refine Only_mk ?_ (.inr rfl) (.inr rfl) (.inr rfl) (.inr rfl) (.inr rfl) (.inr rfl) (.inr rfl) (.inr rfl) (.inr rfl) (.inr rfl) (.inr rfl) (.inr rfl) (.inr rfl) (.inr rfl) (.inr rfl) (.inr rfl) (.inr rfl) (.inr rfl) (.inr rfl) (.inr rfl) (.inr rfl) (.inr rfl) (.inr rfl) (.inr rfl) (.inr rfl) (.inr rfl) (.inr rfl) (.inr rfl) (.inr rfl) (.inr rfl)
    | (first | exact mask_sub hk rfl | exact hk)
    | with_reducible (first | refine Kept_snd (by assumption) ?_ | refine Kept_fst (by assumption) ?_)
    | with_reducible exact Kept_of_next (by assumption)
    | with_reducible (refine Kept_of_O (by assumption) ?_)
    | with_reducible (first | refine Kept_regs (g := g) ?_ (by assumption) | refine Kept_ram (g := g) ?_ (by assumption) | refine Kept_mram (g := g) ?_ (by assumption) | refine Kept_flt (g := g) ?_ (by assumption) | refine Kept_var ?_ | refine Kept_ev ?_ (by assumption) | refine Kept_has ?_ | refine Kept_out ?_ | refine Kept_ctr ?_)
    | dsimp -zeta only
    | split)

theorem kept_grant {x0 x1} (h0 : Kept g x0) (hE : ∀ e, ¬ g.events e) (hk : 672148548 &&& g.mask = 672148548) : Kept g (State.grant x0 x1) := by
  unfold State.grant
  repeat' (first
    | with_reducible assumption
    | with_reducible refine fun _ => ?_
    | ((try lift_lets); intro s; refine (have hs : Kept g s := ?_; ?_); subst s; rotate_left; clear_value s; rotate_left)
    | ((try lift_lets); first | (intro (x : Mram); subst x) | (intro (x : Compositor); subst x) | (intro (x : Store 32); subst x) | (intro (x : Store 8); subst x) | (intro (x : State × _); subst x) | (intro (x : _ × State); subst x) | (intro (x : _ × _ × State); subst x) | (intro (x : State → _); subst x) | (intro (x : _ → State → _); subst x) | (intro (x : _ → State); subst x) | (intro x; clear_value x))
    | (simp only [↓Kept_mk_iff]; refine And.intro ?_ (And.intro ?_ (And.intro ?_ (And.intro ?_ (And.intro ?_ (And.intro ?_ (And.intro ?_ (And.intro ?_ (And.intro ?_ ?_)))))))))
    | with_reducible (first | apply kept_occur | apply kept_grantSeq | apply kept_grantCount | apply kept_setReg | apply kept_recordGrant | apply kept_announceGranted | apply kept_deliverEvent | apply Kept_ite | apply filter_wf | apply evOk_filter)
    | with_reducible (first | exact Kept_regs (by assumption) (by assumption) | exact Kept_ram (by assumption) (by assumption) | exact Kept_mram (by assumption) (by assumption) | exact Kept_flt (by assumption) (by assumption) | exact Kept_var (by assumption) | exact Kept_ev (by assumption) (by assumption) | exact Kept_has (by assumption) | exact Kept_out (by assumption) | exact Kept_ctr (by assumption) | exact watchE_none (by assumption))
    | with_reducible refine Only_mk ?_ (.inr rfl) (.inr rfl) (.inr rfl) (.inr rfl) (.inr rfl) (.inr rfl) (.inr rfl) (.inr rfl) (.inr rfl) (.inr rfl) (.inr rfl) (.inr rfl) (.inr rfl) (.inr rfl) (.inr rfl) (.inr rfl) (.inr rfl) (.inr rfl) (.inr rfl) (.inr rfl) (.inr rfl) (.inr rfl) (.inr rfl) (.inr rfl) (.inr rfl) (.inr rfl) (.inr rfl) (.inr rfl) (.inr rfl) (.inr rfl)
    | (first | exact mask_sub hk rfl | exact hk)
    | with_reducible (first | refine Kept_snd (by assumption) ?_ | refine Kept_fst (by assumption) ?_)
    | with_reducible exact Kept_of_next (by assumption)
    | with_reducible (refine Kept_of_O (by assumption) ?_)
    | with_reducible (first | refine Kept_regs (g := g) ?_ (by assumption) | refine Kept_ram (g := g) ?_ (by assumption) | refine Kept_mram (g := g) ?_ (by assumption) | refine Kept_flt (g := g) ?_ (by assumption) | refine Kept_var ?_ | refine Kept_ev ?_ (by assumption) | refine Kept_has ?_ | refine Kept_out ?_ | refine Kept_ctr ?_)
    | dsimp -zeta only
    | split)

theorem kept_pairAlign {x0 x1} (h0 : Kept g x0) : Kept g (State.pairAlign x0 x1) := by
  unfold State.pairAlign
  repeat' (first | with_reducible assumption | with_reducible (first | apply kept_raiseIf | apply kept_setF | apply Kept_ite) | split | intro _)

theorem kept_offsetCount {x0 x1} (h0 : Kept g x0) (hk : 256 &&& g.mask = 256) : Kept g (State.offsetCount x0 x1) := by
  unfold State.offsetCount
  repeat' (first
    | with_reducible assumption
    | with_reducible refine fun _ => ?_
    | ((try lift_lets); intro s; refine (have hs : Kept g s := ?_; ?_); subst s; rotate_left; clear_value s; rotate_left)
    | ((try lift_lets); first | (intro (x : Mram); subst x) | (intro (x : Compositor); subst x) | (intro (x : Store 32); subst x) | (intro (x : Store 8); subst x) | (intro (x : State × _); subst x) | (intro (x : _ × State); subst x) | (intro (x : _ × _ × State); subst x) | (intro (x : State → _); subst x) | (intro (x : _ → State → _); subst x) | (intro (x : _ → State); subst x) | (intro x; clear_value x))
    | (simp only [↓Kept_mk_iff]; refine And.intro ?_ (And.intro ?_ (And.intro ?_ (And.intro ?_ (And.intro ?_ (And.intro ?_ (And.intro ?_ (And.intro ?_ (And.intro ?_ ?_)))))))))
    | with_reducible (first | apply Kept_ite)
    | with_reducible (first | exact Kept_regs (by assumption) (by assumption) | exact Kept_ram (by assumption) (by assumption) | exact Kept_mram (by assumption) (by assumption) | exact Kept_flt (by assumption) (by assumption) | exact Kept_var (by assumption) | exact Kept_ev (by assumption) (by assumption) | exact Kept_has (by assumption) | exact Kept_out (by assumption) | exact Kept_ctr (by assumption) | exact watchE_none (by assumption))
    | with_reducible refine Only_mk ?_ (.inr rfl) (.inr rfl) (.inr rfl) (.inr rfl) (.inr rfl) (.inr rfl) (.inl (mask_bit hk rfl)) (.inr rfl) (.inr rfl) (.inr rfl) (.inr rfl) (.inr rfl) (.inr rfl) (.inr rfl) (.inr rfl) (.inr rfl) (.inr rfl) (.inr rfl) (.inr rfl) (.inr rfl) (.inr rfl) (.inr rfl) (.inr rfl) (.inr rfl) (.inr rfl) (.inr rfl) (.inr rfl) (.inr rfl) (.inr rfl) (.inr rfl)
    | (first | exact mask_sub hk rfl | exact hk)
    | with_reducible (first | refine Kept_snd (by assumption) ?_ | refine Kept_fst (by assumption) ?_)
    | with_reducible exact Kept_of_next (by assumption)
    | with_reducible (refine Kept_of_O (by assumption) ?_)
    | with_reducible (first | refine Kept_regs (g := g) ?_ (by assumption) | refine Kept_ram (g := g) ?_ (by assumption) | refine Kept_mram (g := g) ?_ (by assumption) | refine Kept_flt (g := g) ?_ (by assumption) | refine Kept_var ?_ | refine Kept_ev ?_ (by assumption) | refine Kept_has ?_ | refine Kept_out ?_ | refine Kept_ctr ?_)
    | dsimp -zeta only
    | split)

theorem kept_offsetLost {x0 x1} (h0 : Kept g x0) (hk : 256 &&& g.mask = 256) : Kept g (State.offsetLost x0 x1) := by
  unfold State.offsetLost
  repeat' (first | with_reducible assumption | exact mask_sub hk rfl | with_reducible (first | apply kept_syncEnter | apply Kept_ite) | split | intro _)

theorem kept_setIncr {x0 x1} (h0 : Kept g x0) : Kept g (State.setIncr x0 x1) := by
  unfold State.setIncr
  repeat' (first | with_reducible assumption | with_reducible (first | apply kept_setReg | apply Kept_ite) | split | intro _)

theorem kept_servo {x0 x1} (h0 : Kept g x0) (hk : 256 &&& g.mask = 256) : Kept g (State.servo x0 x1) := by
  unfold State.servo
  repeat' (first
    | with_reducible assumption
    | with_reducible refine fun _ => ?_
    | ((try lift_lets); intro s; refine (have hs : Kept g s := ?_; ?_); subst s; rotate_left; clear_value s; rotate_left)
    | ((try lift_lets); first | (intro (x : Mram); subst x) | (intro (x : Compositor); subst x) | (intro (x : Store 32); subst x) | (intro (x : Store 8); subst x) | (intro (x : State × _); subst x) | (intro (x : _ × State); subst x) | (intro (x : _ × _ × State); subst x) | (intro (x : State → _); subst x) | (intro (x : _ → State → _); subst x) | (intro (x : _ → State); subst x) | (intro x; clear_value x))
    | (simp only [↓Kept_mk_iff]; refine And.intro ?_ (And.intro ?_ (And.intro ?_ (And.intro ?_ (And.intro ?_ (And.intro ?_ (And.intro ?_ (And.intro ?_ (And.intro ?_ ?_)))))))))
    | with_reducible (first | apply kept_fresh | apply kept_setIncr | apply Kept_ite)
    | with_reducible (first | exact Kept_regs (by assumption) (by assumption) | exact Kept_ram (by assumption) (by assumption) | exact Kept_mram (by assumption) (by assumption) | exact Kept_flt (by assumption) (by assumption) | exact Kept_var (by assumption) | exact Kept_ev (by assumption) (by assumption) | exact Kept_has (by assumption) | exact Kept_out (by assumption) | exact Kept_ctr (by assumption) | exact watchE_none (by assumption))
    | with_reducible refine Only_mk ?_ (.inr rfl) (.inr rfl) (.inr rfl) (.inr rfl) (.inr rfl) (.inr rfl) (.inl (mask_bit hk rfl)) (.inr rfl) (.inr rfl) (.inr rfl) (.inr rfl) (.inr rfl) (.inr rfl) (.inr rfl) (.inr rfl) (.inr rfl) (.inr rfl) (.inr rfl) (.inr rfl) (.inr rfl) (.inr rfl) (.inr rfl) (.inr rfl) (.inr rfl) (.inr rfl) (.inr rfl) (.inr rfl) (.inr rfl) (.inr rfl) (.inr rfl)
    | (first | exact mask_sub hk rfl | exact hk)
    | with_reducible (first | refine Kept_snd (by assumption) ?_ | refine Kept_fst (by assumption) ?_)
    | with_reducible exact Kept_of_next (by assumption)
    | with_reducible (refine Kept_of_O (by assumption) ?_)
    | with_reducible (first | refine Kept_regs (g := g) ?_ (by assumption) | refine Kept_ram (g := g) ?_ (by assumption) | refine Kept_mram (g := g) ?_ (by assumption) | refine Kept_flt (g := g) ?_ (by assumption) | refine Kept_var ?_ | refine Kept_ev ?_ (by assumption) | refine Kept_has ?_ | refine Kept_out ?_ | refine Kept_ctr ?_)
    | dsimp -zeta only
    | split)

theorem kept_offsetFar {x0 x1 x2} (h0 : Kept g x0) (hk : 256 &&& g.mask = 256) : Kept g (State.offsetFar x0 x1 x2) := by
  unfold State.offsetFar
  repeat' (first
    | with_reducible assumption
    | with_reducible refine fun _ => ?_
    | ((try lift_lets); intro s; refine (have hs : Kept g s := ?_; ?_); subst s; rotate_left; clear_value s; rotate_left)
    | ((try lift_lets); first | (intro (x : Mram); subst x) | (intro (x : Compositor); subst x) | (intro (x : Store 32); subst x) | (intro (x : Store 8); subst x) | (intro (x : State × _); subst x) | (intro (x : _ × State); subst x) | (intro (x : _ × _ × State); subst x) | (intro (x : State → _); subst x) | (intro (x : _ → State → _); subst x) | (intro (x : _ → State); subst x) | (intro x; clear_value x))
    | (simp only [↓Kept_mk_iff]; refine And.intro ?_ (And.intro ?_ (And.intro ?_ (And.intro ?_ (And.intro ?_ (And.intro ?_ (And.intro ?_ (And.intro ?_ (And.intro ?_ ?_)))))))))
    | with_reducible (first | apply kept_stepBy | apply kept_servo | apply kept_stepRefused | apply Kept_ite)
    | with_reducible (first | exact Kept_regs (by assumption) (by assumption) | exact Kept_ram (by assumption) (by assumption) | exact Kept_mram (by assumption) (by assumption) | exact Kept_flt (by assumption) (by assumption) | exact Kept_var (by assumption) | exact Kept_ev (by assumption) (by assumption) | exact Kept_has (by assumption) | exact Kept_out (by assumption) | exact Kept_ctr (by assumption) | exact watchE_none (by assumption))
    | with_reducible refine Only_mk ?_ (.inr rfl) (.inr rfl) (.inr rfl) (.inr rfl) (.inr rfl) (.inr rfl) (.inl (mask_bit hk rfl)) (.inr rfl) (.inr rfl) (.inr rfl) (.inr rfl) (.inr rfl) (.inr rfl) (.inr rfl) (.inr rfl) (.inr rfl) (.inr rfl) (.inr rfl) (.inr rfl) (.inr rfl) (.inr rfl) (.inr rfl) (.inr rfl) (.inr rfl) (.inr rfl) (.inr rfl) (.inr rfl) (.inr rfl) (.inr rfl) (.inr rfl)
    | (first | exact mask_sub hk rfl | exact hk)
    | with_reducible (first | refine Kept_snd (by assumption) ?_ | refine Kept_fst (by assumption) ?_)
    | with_reducible exact Kept_of_next (by assumption)
    | with_reducible (refine Kept_of_O (by assumption) ?_)
    | with_reducible (first | refine Kept_regs (g := g) ?_ (by assumption) | refine Kept_ram (g := g) ?_ (by assumption) | refine Kept_mram (g := g) ?_ (by assumption) | refine Kept_flt (g := g) ?_ (by assumption) | refine Kept_var ?_ | refine Kept_ev ?_ (by assumption) | refine Kept_has ?_ | refine Kept_out ?_ | refine Kept_ctr ?_)
    | dsimp -zeta only
    | split)

theorem kept_offsetNear {x0 x1} (h0 : Kept g x0) (hk : 256 &&& g.mask = 256) : Kept g (State.offsetNear x0 x1) := by
  unfold State.offsetNear
  repeat' (first
    | with_reducible assumption
    | with_reducible refine fun _ => ?_
    | ((try lift_lets); intro s; refine (have hs : Kept g s := ?_; ?_); subst s; rotate_left; clear_value s; rotate_left)
    | ((try lift_lets); first | (intro (x : Mram); subst x) | (intro (x : Compositor); subst x) | (intro (x : Store 32); subst x) | (intro (x : Store 8); subst x) | (intro (x : State × _); subst x) | (intro (x : _ × State); subst x) | (intro (x : _ × _ × State); subst x) | (intro (x : State → _); subst x) | (intro (x : _ → State → _); subst x) | (intro (x : _ → State); subst x) | (intro x; clear_value x))
    | (simp only [↓Kept_mk_iff]; refine And.intro ?_ (And.intro ?_ (And.intro ?_ (And.intro ?_ (And.intro ?_ (And.intro ?_ (And.intro ?_ (And.intro ?_ (And.intro ?_ ?_)))))))))
    | with_reducible (first | apply kept_servo | apply kept_syncEnter | apply kept_rootShow | apply Kept_ite)
    | with_reducible (first | exact Kept_regs (by assumption) (by assumption) | exact Kept_ram (by assumption) (by assumption) | exact Kept_mram (by assumption) (by assumption) | exact Kept_flt (by assumption) (by assumption) | exact Kept_var (by assumption) | exact Kept_ev (by assumption) (by assumption) | exact Kept_has (by assumption) | exact Kept_out (by assumption) | exact Kept_ctr (by assumption) | exact watchE_none (by assumption))
    | with_reducible refine Only_mk ?_ (.inr rfl) (.inr rfl) (.inr rfl) (.inr rfl) (.inr rfl) (.inr rfl) (.inl (mask_bit hk rfl)) (.inr rfl) (.inr rfl) (.inr rfl) (.inr rfl) (.inr rfl) (.inr rfl) (.inr rfl) (.inr rfl) (.inr rfl) (.inr rfl) (.inr rfl) (.inr rfl) (.inr rfl) (.inr rfl) (.inr rfl) (.inr rfl) (.inr rfl) (.inr rfl) (.inr rfl) (.inr rfl) (.inr rfl) (.inr rfl) (.inr rfl)
    | (first | exact mask_sub hk rfl | exact hk)
    | with_reducible (first | refine Kept_snd (by assumption) ?_ | refine Kept_fst (by assumption) ?_)
    | with_reducible exact Kept_of_next (by assumption)
    | with_reducible (refine Kept_of_O (by assumption) ?_)
    | with_reducible (first | refine Kept_regs (g := g) ?_ (by assumption) | refine Kept_ram (g := g) ?_ (by assumption) | refine Kept_mram (g := g) ?_ (by assumption) | refine Kept_flt (g := g) ?_ (by assumption) | refine Kept_var ?_ | refine Kept_ev ?_ (by assumption) | refine Kept_has ?_ | refine Kept_out ?_ | refine Kept_ctr ?_)
    | dsimp -zeta only
    | split)

theorem kept_offsetIn {x0 x1} (h0 : Kept g x0) (hk : 256 &&& g.mask = 256) : Kept g (State.offsetIn x0 x1) := by
  unfold State.offsetIn
  repeat' (first | with_reducible assumption | exact mask_sub hk rfl | with_reducible (first | apply kept_offsetCount | apply kept_offsetLost | apply kept_setReg | apply kept_offsetFar | apply kept_offsetNear | apply Kept_ite) | split | intro _)

theorem kept_pairExchange {x0 x1} (h0 : Kept g x0) (hk : 256 &&& g.mask = 256) : Kept g (State.pairExchange x0 x1) := by
  unfold State.pairExchange
  repeat' (first
    | with_reducible assumption
    | with_reducible refine fun _ => ?_
    | ((try lift_lets); intro s; refine (have hs : Kept g s := ?_; ?_); subst s; rotate_left; clear_value s; rotate_left)
    | ((try lift_lets); first | (intro (x : Mram); subst x) | (intro (x : Compositor); subst x) | (intro (x : Store 32); subst x) | (intro (x : Store 8); subst x) | (intro (x : State × _); subst x) | (intro (x : _ × State); subst x) | (intro (x : _ × _ × State); subst x) | (intro (x : State → _); subst x) | (intro (x : _ → State → _); subst x) | (intro (x : _ → State); subst x) | (intro x; clear_value x))
    | (simp only [↓Kept_mk_iff]; refine And.intro ?_ (And.intro ?_ (And.intro ?_ (And.intro ?_ (And.intro ?_ (And.intro ?_ (And.intro ?_ (And.intro ?_ (And.intro ?_ ?_)))))))))
    | with_reducible (first | apply kept_syncEnter | apply kept_pairAlign | apply kept_setReg | apply kept_offsetIn | apply Kept_ite)
    | with_reducible (first | exact Kept_regs (by assumption) (by assumption) | exact Kept_ram (by assumption) (by assumption) | exact Kept_mram (by assumption) (by assumption) | exact Kept_flt (by assumption) (by assumption) | exact Kept_var (by assumption) | exact Kept_ev (by assumption) (by assumption) | exact Kept_has (by assumption) | exact Kept_out (by assumption) | exact Kept_ctr (by assumption) | exact watchE_none (by assumption))
    | with_reducible refine Only_mk ?_ (.inr rfl) (.inr rfl) (.inr rfl) (.inr rfl) (.inr rfl) (.inr rfl) (.inl (mask_bit hk rfl)) (.inr rfl) (.inr rfl) (.inr rfl) (.inr rfl) (.inr rfl) (.inr rfl) (.inr rfl) (.inr rfl) (.inr rfl) (.inr rfl) (.inr rfl) (.inr rfl) (.inr rfl) (.inr rfl) (.inr rfl) (.inr rfl) (.inr rfl) (.inr rfl) (.inr rfl) (.inr rfl) (.inr rfl) (.inr rfl) (.inr rfl)
    | (first | exact mask_sub hk rfl | exact hk)
    | with_reducible (first | refine Kept_snd (by assumption) ?_ | refine Kept_fst (by assumption) ?_)
    | with_reducible exact Kept_of_next (by assumption)
    | with_reducible (refine Kept_of_O (by assumption) ?_)
    | with_reducible (first | refine Kept_regs (g := g) ?_ (by assumption) | refine Kept_ram (g := g) ?_ (by assumption) | refine Kept_mram (g := g) ?_ (by assumption) | refine Kept_flt (g := g) ?_ (by assumption) | refine Kept_var ?_ | refine Kept_ev ?_ (by assumption) | refine Kept_has ?_ | refine Kept_out ?_ | refine Kept_ctr ?_)
    | dsimp -zeta only
    | split)

theorem kept_hbExchange {x0 x1} (h0 : Kept g x0) (hk : 256 &&& g.mask = 256) : Kept g (State.hbExchange x0 x1) := by
  unfold State.hbExchange
  repeat' (first | with_reducible assumption | exact mask_sub hk rfl | with_reducible (first | apply kept_pairExchange | apply Kept_ite) | split | intro _)

theorem kept_setQueue {x0 x1 x2 x3} (h0 : Kept g x0) (hk : 134217728 &&& g.mask = 134217728) : Kept g (State.setQueue x0 x1 x2 x3) := by
  unfold State.setQueue
  repeat' (first | with_reducible assumption | exact mask_sub hk rfl | with_reducible (first | apply kept_setF | apply kept_setCan | apply Kept_ite) | split | intro _)

theorem kept_release {x0 x1 x2} (h0 : Kept g x0) (hk : 134217728 &&& g.mask = 134217728) : Kept g (State.release x0 x1 x2) := by
  unfold State.release
  repeat' (first | with_reducible assumption | exact mask_sub hk rfl | with_reducible (first | apply kept_setQueue | apply Kept_ite) | split | intro _)

theorem kept_headRead {x0 x1 x2 x3 x4} (h0 : Kept g x0) (hk : 134217728 &&& g.mask = 134217728) : Kept g (State.headRead x0 x1 x2 x3 x4) := by
  unfold State.headRead
  repeat' (first | with_reducible assumption | exact mask_sub hk rfl | with_reducible (first | apply kept_setQueue | apply kept_release | apply Kept_ite) | split | intro _)

theorem kept_heal {x0 x1} (h0 : Kept g x0) (hk : 4194304 &&& g.mask = 4194304) : Kept g (State.heal x0 x1) := by
  unfold State.heal
  repeat' (first
    | with_reducible assumption
    | with_reducible refine fun _ => ?_
    | ((try lift_lets); intro s; refine (have hs : Kept g s := ?_; ?_); subst s; rotate_left; clear_value s; rotate_left)
    | ((try lift_lets); first | (intro (x : Mram); subst x) | (intro (x : Compositor); subst x) | (intro (x : Store 32); subst x) | (intro (x : Store 8); subst x) | (intro (x : State × _); subst x) | (intro (x : _ × State); subst x) | (intro (x : _ × _ × State); subst x) | (intro (x : State → _); subst x) | (intro (x : _ → State → _); subst x) | (intro (x : _ → State); subst x) | (intro x; clear_value x))
    | (simp only [↓Kept_mk_iff]; refine And.intro ?_ (And.intro ?_ (And.intro ?_ (And.intro ?_ (And.intro ?_ (And.intro ?_ (And.intro ?_ (And.intro ?_ (And.intro ?_ ?_)))))))))
    | with_reducible (first | apply kept_dlyStart | apply Kept_ite)
    | with_reducible (first | exact Kept_regs (by assumption) (by assumption) | exact Kept_ram (by assumption) (by assumption) | exact Kept_mram (by assumption) (by assumption) | exact Kept_flt (by assumption) (by assumption) | exact Kept_var (by assumption) | exact Kept_ev (by assumption) (by assumption) | exact Kept_has (by assumption) | exact Kept_out (by assumption) | exact Kept_ctr (by assumption) | exact watchE_none (by assumption))
    | with_reducible refine Only_mk ?_ (.inr rfl) (.inr rfl) (.inr rfl) (.inr rfl) (.inr rfl) (.inr rfl) (.inr rfl) (.inr rfl) (.inr rfl) (.inr rfl) (.inr rfl) (.inr rfl) (.inr rfl) (.inr rfl) (.inr rfl) (.inr rfl) (.inr rfl) (.inr rfl) (.inr rfl) (.inl (mask_bit hk rfl)) (.inr rfl) (.inr rfl) (.inr rfl) (.inr rfl) (.inr rfl) (.inr rfl) (.inr rfl) (.inr rfl) (.inr rfl) (.inr rfl)
    | (first | exact mask_sub hk rfl | exact hk)
    | with_reducible (first | refine Kept_snd (by assumption) ?_ | refine Kept_fst (by assumption) ?_)
    | with_reducible exact Kept_of_next (by assumption)
    | with_reducible (refine Kept_of_O (by assumption) ?_)
    | with_reducible (first | refine Kept_regs (g := g) ?_ (by assumption) | refine Kept_ram (g := g) ?_ (by assumption) | refine Kept_mram (g := g) ?_ (by assumption) | refine Kept_flt (g := g) ?_ (by assumption) | refine Kept_var ?_ | refine Kept_ev ?_ (by assumption) | refine Kept_has ?_ | refine Kept_out ?_ | refine Kept_ctr ?_)
    | dsimp -zeta only
    | split)

theorem kept_remoteLoop {x0 x1 x2} (h0 : Kept g x0) : Kept g (State.remoteLoop x0 x1 x2) := by
  unfold State.remoteLoop
  repeat' (first | with_reducible assumption | with_reducible (first | apply kept_setB | apply Kept_ite) | split | intro _)

theorem kept_hear {x0 x1 x2} (h0 : Kept g x0) (hk : 745502784 &&& g.mask = 745502784) : Kept g (State.hear x0 x1 x2) := by
  unfold State.hear
  repeat' (first | with_reducible assumption | exact mask_sub hk rfl | with_reducible (first | apply kept_remoteLoop | apply kept_arrive | apply kept_raiseIf | apply kept_floopSeen | apply kept_posMod | apply kept_remark | apply kept_raise | apply kept_mapSet | apply Kept_ite) | split | intro _)

theorem kept_higherEdition {x0 x1} (h0 : Kept g x0) (hk : 743405888 &&& g.mask = 743405888) : Kept g (State.higherEdition x0 x1) := by
  unfold State.higherEdition
  repeat' (first | with_reducible assumption | exact mask_sub hk rfl | with_reducible (first | apply kept_demote | apply kept_learnEdition | apply Kept_ite) | split | intro _)

theorem kept_swapFail {x0 x1 x2} (h0 : Kept g x0) (hk : 8390720 &&& g.mask = 8390720) : Kept g (State.swapFail x0 x1 x2) := by
  unfold State.swapFail
  repeat' (first
    | with_reducible assumption
    | with_reducible refine fun _ => ?_
    | ((try lift_lets); intro s; refine (have hs : Kept g s := ?_; ?_); subst s; rotate_left; clear_value s; rotate_left)
    | ((try lift_lets); first | (intro (x : Mram); subst x) | (intro (x : Compositor); subst x) | (intro (x : Store 32); subst x) | (intro (x : Store 8); subst x) | (intro (x : State × _); subst x) | (intro (x : _ × State); subst x) | (intro (x : _ × _ × State); subst x) | (intro (x : State → _); subst x) | (intro (x : _ → State → _); subst x) | (intro (x : _ → State); subst x) | (intro x; clear_value x))
    | (simp only [↓Kept_mk_iff]; refine And.intro ?_ (And.intro ?_ (And.intro ?_ (And.intro ?_ (And.intro ?_ (And.intro ?_ (And.intro ?_ (And.intro ?_ (And.intro ?_ ?_)))))))))
    | with_reducible (first | apply kept_raise | apply kept_setF | apply kept_galClose | apply kept_toMram | apply kept_setB | apply Kept_ite)
    | with_reducible (first | exact Kept_regs (by assumption) (by assumption) | exact Kept_ram (by assumption) (by assumption) | exact Kept_mram (by assumption) (by assumption) | exact Kept_flt (by assumption) (by assumption) | exact Kept_var (by assumption) | exact Kept_ev (by assumption) (by assumption) | exact Kept_has (by assumption) | exact Kept_out (by assumption) | exact Kept_ctr (by assumption) | exact watchE_none (by assumption))
    | with_reducible refine Only_mk ?_ (.inr rfl) (.inr rfl) (.inr rfl) (.inr rfl) (.inr rfl) (.inr rfl) (.inr rfl) (.inr rfl) (.inr rfl) (.inr rfl) (.inr rfl) (.inr rfl) (.inr rfl) (.inr rfl) (.inr rfl) (.inr rfl) (.inr rfl) (.inr rfl) (.inr rfl) (.inr rfl) (.inl (mask_bit hk rfl)) (.inr rfl) (.inr rfl) (.inr rfl) (.inr rfl) (.inr rfl) (.inr rfl) (.inr rfl) (.inr rfl) (.inr rfl)
    | (first | exact mask_sub hk rfl | exact hk)
    | with_reducible (first | refine Kept_snd (by assumption) ?_ | refine Kept_fst (by assumption) ?_)
    | with_reducible exact Kept_of_next (by assumption)
    | with_reducible (refine Kept_of_O (by assumption) ?_)
    | with_reducible (first | refine Kept_regs (g := g) ?_ (by assumption) | refine Kept_ram (g := g) ?_ (by assumption) | refine Kept_mram (g := g) ?_ (by assumption) | refine Kept_flt (g := g) ?_ (by assumption) | refine Kept_var ?_ | refine Kept_ev ?_ (by assumption) | refine Kept_has ?_ | refine Kept_out ?_ | refine Kept_ctr ?_)
    | dsimp -zeta only
    | split)

theorem kept_holderSeen {x0 x1 x2 x3} (h0 : Kept g x0) (hk : 751794496 &&& g.mask = 751794496) : Kept g (State.holderSeen x0 x1 x2 x3) := by
  unfold State.holderSeen
  repeat' (first
    | with_reducible assumption
    | with_reducible refine fun _ => ?_
    | ((try lift_lets); intro s; refine (have hs : Kept g s := ?_; ?_); subst s; rotate_left; clear_value s; rotate_left)
    | ((try lift_lets); first | (intro (x : Mram); subst x) | (intro (x : Compositor); subst x) | (intro (x : Store 32); subst x) | (intro (x : Store 8); subst x) | (intro (x : State × _); subst x) | (intro (x : _ × State); subst x) | (intro (x : _ × _ × State); subst x) | (intro (x : State → _); subst x) | (intro (x : _ → State → _); subst x) | (intro (x : _ → State); subst x) | (intro x; clear_value x))
    | (simp only [↓Kept_mk_iff]; refine And.intro ?_ (And.intro ?_ (And.intro ?_ (And.intro ?_ (And.intro ?_ (And.intro ?_ (And.intro ?_ (And.intro ?_ (And.intro ?_ ?_)))))))))
    | with_reducible (first | apply kept_raise | apply kept_demote | apply kept_pwmRefresh | apply kept_enterResync | apply kept_claim | apply kept_setPstate | apply kept_swapDone | apply kept_swapFail | apply Kept_ite)
    | with_reducible (first | exact Kept_regs (by assumption) (by assumption) | exact Kept_ram (by assumption) (by assumption) | exact Kept_mram (by assumption) (by assumption) | exact Kept_flt (by assumption) (by assumption) | exact Kept_var (by assumption) | exact Kept_ev (by assumption) (by assumption) | exact Kept_has (by assumption) | exact Kept_out (by assumption) | exact Kept_ctr (by assumption) | exact watchE_none (by assumption))
    | with_reducible refine Only_mk ?_ (.inr rfl) (.inr rfl) (.inr rfl) (.inr rfl) (.inr rfl) (.inr rfl) (.inr rfl) (.inr rfl) (.inr rfl) (.inr rfl) (.inr rfl) (.inr rfl) (.inr rfl) (.inl (mask_bit hk rfl)) (.inr rfl) (.inr rfl) (.inr rfl) (.inr rfl) (.inr rfl) (.inr rfl) (.inl (mask_bit hk rfl)) (.inr rfl) (.inr rfl) (.inr rfl) (.inr rfl) (.inr rfl) (.inr rfl) (.inr rfl) (.inr rfl) (.inr rfl)
    | (first | exact mask_sub hk rfl | exact hk)
    | with_reducible (first | refine Kept_snd (by assumption) ?_ | refine Kept_fst (by assumption) ?_)
    | with_reducible exact Kept_of_next (by assumption)
    | with_reducible (refine Kept_of_O (by assumption) ?_)
    | with_reducible (first | refine Kept_regs (g := g) ?_ (by assumption) | refine Kept_ram (g := g) ?_ (by assumption) | refine Kept_mram (g := g) ?_ (by assumption) | refine Kept_flt (g := g) ?_ (by assumption) | refine Kept_var ?_ | refine Kept_ev ?_ (by assumption) | refine Kept_has ?_ | refine Kept_out ?_ | refine Kept_ctr ?_)
    | dsimp -zeta only
    | split)

theorem kept_loadTick {x0} (h0 : Kept g x0) (hk : 536870912 &&& g.mask = 536870912) : Kept g (State.loadTick x0) := by
  unfold State.loadTick
  repeat' (first
    | with_reducible assumption
    | with_reducible refine fun _ => ?_
    | ((try lift_lets); intro s; refine (have hs : Kept g s := ?_; ?_); subst s; rotate_left; clear_value s; rotate_left)
    | ((try lift_lets); first | (intro (x : Mram); subst x) | (intro (x : Compositor); subst x) | (intro (x : Store 32); subst x) | (intro (x : Store 8); subst x) | (intro (x : State × _); subst x) | (intro (x : _ × State); subst x) | (intro (x : _ × _ × State); subst x) | (intro (x : State → _); subst x) | (intro (x : _ → State → _); subst x) | (intro (x : _ → State); subst x) | (intro x; clear_value x))
    | (simp only [↓Kept_mk_iff]; refine And.intro ?_ (And.intro ?_ (And.intro ?_ (And.intro ?_ (And.intro ?_ (And.intro ?_ (And.intro ?_ (And.intro ?_ (And.intro ?_ ?_)))))))))
    | with_reducible (first | apply kept_setF | apply Kept_ite)
    | with_reducible (first | exact Kept_regs (by assumption) (by assumption) | exact Kept_ram (by assumption) (by assumption) | exact Kept_mram (by assumption) (by assumption) | exact Kept_flt (by assumption) (by assumption) | exact Kept_var (by assumption) | exact Kept_ev (by assumption) (by assumption) | exact Kept_has (by assumption) | exact Kept_out (by assumption) | exact Kept_ctr (by assumption) | exact watchE_none (by assumption))
    | with_reducible refine Only_mk ?_ (.inr rfl) (.inr rfl) (.inr rfl) (.inr rfl) (.inr rfl) (.inr rfl) (.inr rfl) (.inr rfl) (.inr rfl) (.inr rfl) (.inr rfl) (.inr rfl) (.inr rfl) (.inr rfl) (.inr rfl) (.inr rfl) (.inr rfl) (.inr rfl) (.inr rfl) (.inr rfl) (.inr rfl) (.inr rfl) (.inr rfl) (.inr rfl) (.inr rfl) (.inr rfl) (.inl (mask_bit hk rfl)) (.inr rfl) (.inr rfl) (.inr rfl)
    | (first | exact mask_sub hk rfl | exact hk)
    | with_reducible (first | refine Kept_snd (by assumption) ?_ | refine Kept_fst (by assumption) ?_)
    | with_reducible exact Kept_of_next (by assumption)
    | with_reducible (refine Kept_of_O (by assumption) ?_)
    | with_reducible (first | refine Kept_regs (g := g) ?_ (by assumption) | refine Kept_ram (g := g) ?_ (by assumption) | refine Kept_mram (g := g) ?_ (by assumption) | refine Kept_flt (g := g) ?_ (by assumption) | refine Kept_var ?_ | refine Kept_ev ?_ (by assumption) | refine Kept_has ?_ | refine Kept_out ?_ | refine Kept_ctr ?_)
    | dsimp -zeta only
    | split)

theorem kept_timeAdd {x0 x1 x2} (h0 : Kept g x0) (hk : 256 &&& g.mask = 256) : Kept g (State.timeAdd x0 x1 x2) := by
  unfold State.timeAdd
  repeat' (first
    | with_reducible assumption
    | with_reducible refine fun _ => ?_
    | ((try lift_lets); intro s; refine (have hs : Kept g s := ?_; ?_); subst s; rotate_left; clear_value s; rotate_left)
    | ((try lift_lets); first | (intro (x : Mram); subst x) | (intro (x : Compositor); subst x) | (intro (x : Store 32); subst x) | (intro (x : Store 8); subst x) | (intro (x : State × _); subst x) | (intro (x : _ × State); subst x) | (intro (x : _ × _ × State); subst x) | (intro (x : State → _); subst x) | (intro (x : _ → State → _); subst x) | (intro (x : _ → State); subst x) | (intro x; clear_value x))
    | (simp only [↓Kept_mk_iff]; refine And.intro ?_ (And.intro ?_ (And.intro ?_ (And.intro ?_ (And.intro ?_ (And.intro ?_ (And.intro ?_ (And.intro ?_ (And.intro ?_ ?_)))))))))
    | with_reducible (first | apply Kept_ite)
    | with_reducible (first | exact Kept_regs (by assumption) (by assumption) | exact Kept_ram (by assumption) (by assumption) | exact Kept_mram (by assumption) (by assumption) | exact Kept_flt (by assumption) (by assumption) | exact Kept_var (by assumption) | exact Kept_ev (by assumption) (by assumption) | exact Kept_has (by assumption) | exact Kept_out (by assumption) | exact Kept_ctr (by assumption) | exact watchE_none (by assumption))
    | with_reducible refine Only_mk ?_ (.inr rfl) (.inr rfl) (.inr rfl) (.inr rfl) (.inr rfl) (.inr rfl) (.inl (mask_bit hk rfl)) (.inr rfl) (.inr rfl) (.inr rfl) (.inr rfl) (.inr rfl) (.inr rfl) (.inr rfl) (.inr rfl) (.inr rfl) (.inr rfl) (.inr rfl) (.inr rfl) (.inr rfl) (.inr rfl) (.inr rfl) (.inr rfl) (.inr rfl) (.inr rfl) (.inr rfl) (.inr rfl) (.inr rfl) (.inr rfl) (.inr rfl)
    | (first | exact mask_sub hk rfl | exact hk)
    | with_reducible (first | refine Kept_snd (by assumption) ?_ | refine Kept_fst (by assumption) ?_)
    | with_reducible exact Kept_of_next (by assumption)
    | with_reducible (refine Kept_of_O (by assumption) ?_)
    | with_reducible (first | refine Kept_regs (g := g) ?_ (by assumption) | refine Kept_ram (g := g) ?_ (by assumption) | refine Kept_mram (g := g) ?_ (by assumption) | refine Kept_flt (g := g) ?_ (by assumption) | refine Kept_var ?_ | refine Kept_ev ?_ (by assumption) | refine Kept_has ?_ | refine Kept_out ?_ | refine Kept_ctr ?_)
    | dsimp -zeta only
    | split)

theorem kept_tick {x0} (h0 : Kept g x0) (hk : 537002368 &&& g.mask = 537002368) : Kept g (State.tick x0) := by
  unfold State.tick
  repeat' (first
    | with_reducible assumption
    | with_reducible refine fun _ => ?_
    | ((try lift_lets); intro s; refine (have hs : Kept g s := ?_; ?_); subst s; rotate_left; clear_value s; rotate_left)
    | ((try lift_lets); first | (intro (x : Mram); subst x) | (intro (x : Compositor); subst x) | (intro (x : Store 32); subst x) | (intro (x : Store 8); subst x) | (intro (x : State × _); subst x) | (intro (x : _ × State); subst x) | (intro (x : _ × _ × State); subst x) | (intro (x : State → _); subst x) | (intro (x : _ → State → _); subst x) | (intro (x : _ → State); subst x) | (intro x; clear_value x))
    | (simp only [↓Kept_mk_iff]; refine And.intro ?_ (And.intro ?_ (And.intro ?_ (And.intro ?_ (And.intro ?_ (And.intro ?_ (And.intro ?_ (And.intro ?_ (And.intro ?_ ?_)))))))))
    | with_reducible (first | apply kept_plnkLine | apply kept_loadTick | apply kept_ellTick | apply kept_timeAdd | apply Kept_ite)
    | with_reducible (first | exact Kept_regs (by assumption) (by assumption) | exact Kept_ram (by assumption) (by assumption) | exact Kept_mram (by assumption) (by assumption) | exact Kept_flt (by assumption) (by assumption) | exact Kept_var (by assumption) | exact Kept_ev (by assumption) (by assumption) | exact Kept_has (by assumption) | exact Kept_out (by assumption) | exact Kept_ctr (by assumption) | exact watchE_none (by assumption))
    | with_reducible refine Only_mk ?_ (.inr rfl) (.inr rfl) (.inr rfl) (.inr rfl) (.inr rfl) (.inl (mask_bit hk rfl)) (.inr rfl) (.inr rfl) (.inr rfl) (.inr rfl) (.inr rfl) (.inr rfl) (.inr rfl) (.inr rfl) (.inr rfl) (.inr rfl) (.inr rfl) (.inr rfl) (.inr rfl) (.inr rfl) (.inr rfl) (.inr rfl) (.inr rfl) (.inr rfl) (.inr rfl) (.inr rfl) (.inr rfl) (.inr rfl) (.inr rfl) (.inr rfl)
    | (first | exact mask_sub hk rfl | exact hk)
    | with_reducible (first | refine Kept_snd (by assumption) ?_ | refine Kept_fst (by assumption) ?_)
    | with_reducible exact Kept_of_next (by assumption)
    | with_reducible (refine Kept_of_O (by assumption) ?_)
    | with_reducible (first | refine Kept_regs (g := g) ?_ (by assumption) | refine Kept_ram (g := g) ?_ (by assumption) | refine Kept_mram (g := g) ?_ (by assumption) | refine Kept_flt (g := g) ?_ (by assumption) | refine Kept_var ?_ | refine Kept_ev ?_ (by assumption) | refine Kept_has ?_ | refine Kept_out ?_ | refine Kept_ctr ?_)
    | dsimp -zeta only
    | split)

theorem kept_idle {x0} (h0 : Kept g x0) (hk : 5040470472 &&& g.mask = 5040470472) : Kept g (State.idle x0) := by
  unfold State.idle
  repeat' (first | with_reducible assumption | exact mask_sub hk rfl | with_reducible (first | apply kept_tick | apply kept_evalDue | apply Kept_ite) | split | intro _)

theorem kept_proofCompare {x0 x1 x2} (h0 : Kept g x0) (hk : 6291456 &&& g.mask = 6291456) : Kept g (State.proofCompare x0 x1 x2) := by
  unfold State.proofCompare
  repeat' (first | with_reducible assumption | exact mask_sub hk rfl | with_reducible (first | apply kept_posMod | apply kept_wantOwt | apply kept_raise | apply Kept_ite) | split | intro _)

theorem kept_integrity {x0 x1 x2 x3 x4} (h0 : Kept g x0) (hk : 6291456 &&& g.mask = 6291456) : Kept g (State.integrity x0 x1 x2 x3 x4) := by
  unfold State.integrity
  repeat' (first | with_reducible assumption | exact mask_sub hk rfl | with_reducible (first | apply kept_posMod | apply kept_wantOwt | apply kept_raise | apply kept_proofCompare | apply Kept_ite) | split | intro _)

theorem kept_kicked {x0 x1} (h0 : Kept g x0) (hk : 83886080 &&& g.mask = 83886080) : Kept g (State.kicked x0 x1) := by
  unfold State.kicked
  repeat' (first
    | with_reducible assumption
    | with_reducible refine fun _ => ?_
    | ((try lift_lets); intro s; refine (have hs : Kept g s := ?_; ?_); subst s; rotate_left; clear_value s; rotate_left)
    | ((try lift_lets); first | (intro (x : Mram); subst x) | (intro (x : Compositor); subst x) | (intro (x : Store 32); subst x) | (intro (x : Store 8); subst x) | (intro (x : State × _); subst x) | (intro (x : _ × State); subst x) | (intro (x : _ × _ × State); subst x) | (intro (x : State → _); subst x) | (intro (x : _ → State → _); subst x) | (intro (x : _ → State); subst x) | (intro x; clear_value x))
    | (simp only [↓Kept_mk_iff]; refine And.intro ?_ (And.intro ?_ (And.intro ?_ (And.intro ?_ (And.intro ?_ (And.intro ?_ (And.intro ?_ (And.intro ?_ (And.intro ?_ ?_)))))))))
    | with_reducible (first | apply Kept_ite)
    | with_reducible (first | exact Kept_regs (by assumption) (by assumption) | exact Kept_ram (by assumption) (by assumption) | exact Kept_mram (by assumption) (by assumption) | exact Kept_flt (by assumption) (by assumption) | exact Kept_var (by assumption) | exact Kept_ev (by assumption) (by assumption) | exact Kept_has (by assumption) | exact Kept_out (by assumption) | exact Kept_ctr (by assumption) | exact watchE_none (by assumption))
    | with_reducible refine Only_mk ?_ (.inr rfl) (.inr rfl) (.inr rfl) (.inr rfl) (.inr rfl) (.inr rfl) (.inr rfl) (.inr rfl) (.inr rfl) (.inr rfl) (.inr rfl) (.inr rfl) (.inr rfl) (.inr rfl) (.inr rfl) (.inr rfl) (.inr rfl) (.inr rfl) (.inr rfl) (.inr rfl) (.inr rfl) (.inl (mask_bit hk rfl)) (.inr rfl) (.inl (mask_bit hk rfl)) (.inr rfl) (.inr rfl) (.inr rfl) (.inr rfl) (.inr rfl) (.inr rfl)
    | (first | exact mask_sub hk rfl | exact hk)
    | with_reducible (first | refine Kept_snd (by assumption) ?_ | refine Kept_fst (by assumption) ?_)
    | with_reducible exact Kept_of_next (by assumption)
    | with_reducible (refine Kept_of_O (by assumption) ?_)
    | with_reducible (first | refine Kept_regs (g := g) ?_ (by assumption) | refine Kept_ram (g := g) ?_ (by assumption) | refine Kept_mram (g := g) ?_ (by assumption) | refine Kept_flt (g := g) ?_ (by assumption) | refine Kept_var ?_ | refine Kept_ev ?_ (by assumption) | refine Kept_has ?_ | refine Kept_out ?_ | refine Kept_ctr ?_)
    | dsimp -zeta only
    | split)

theorem kept_lastWrites {x0} (h0 : Kept g x0) (hk : 68158528 &&& g.mask = 68158528) : Kept g (State.lastWrites x0) := by
  unfold State.lastWrites
  repeat' (first
    | with_reducible assumption
    | with_reducible refine fun _ => ?_
    | ((try lift_lets); intro s; refine (have hs : Kept g s := ?_; ?_); subst s; rotate_left; clear_value s; rotate_left)
    | ((try lift_lets); first | (intro (x : Mram); subst x) | (intro (x : Compositor); subst x) | (intro (x : Store 32); subst x) | (intro (x : Store 8); subst x) | (intro (x : State × _); subst x) | (intro (x : _ × State); subst x) | (intro (x : _ × _ × State); subst x) | (intro (x : State → _); subst x) | (intro (x : _ → State → _); subst x) | (intro (x : _ → State); subst x) | (intro x; clear_value x))
    | (simp only [↓Kept_mk_iff]; refine And.intro ?_ (And.intro ?_ (And.intro ?_ (And.intro ?_ (And.intro ?_ (And.intro ?_ (And.intro ?_ (And.intro ?_ (And.intro ?_ ?_)))))))))
    | with_reducible (first | apply kept_setRegM | apply kept_chgToMram | apply kept_estShadow | apply kept_commitRecord | apply Kept_ite | apply Kept_foldl)
    | with_reducible (first | exact Kept_regs (by assumption) (by assumption) | exact Kept_ram (by assumption) (by assumption) | exact Kept_mram (by assumption) (by assumption) | exact Kept_flt (by assumption) (by assumption) | exact Kept_var (by assumption) | exact Kept_ev (by assumption) (by assumption) | exact Kept_has (by assumption) | exact Kept_out (by assumption) | exact Kept_ctr (by assumption) | exact watchE_none (by assumption))
    | with_reducible refine Only_mk ?_ (.inr rfl) (.inr rfl) (.inr rfl) (.inr rfl) (.inr rfl) (.inr rfl) (.inr rfl) (.inr rfl) (.inr rfl) (.inr rfl) (.inr rfl) (.inr rfl) (.inr rfl) (.inr rfl) (.inr rfl) (.inr rfl) (.inr rfl) (.inr rfl) (.inr rfl) (.inr rfl) (.inr rfl) (.inr rfl) (.inr rfl) (.inl (mask_bit hk rfl)) (.inr rfl) (.inr rfl) (.inr rfl) (.inr rfl) (.inr rfl) (.inr rfl)
    | (first | exact mask_sub hk rfl | exact hk)
    | with_reducible (first | refine Kept_snd (by assumption) ?_ | refine Kept_fst (by assumption) ?_)
    | with_reducible exact Kept_of_next (by assumption)
    | with_reducible (refine Kept_of_O (by assumption) ?_)
    | with_reducible (first | refine Kept_regs (g := g) ?_ (by assumption) | refine Kept_ram (g := g) ?_ (by assumption) | refine Kept_mram (g := g) ?_ (by assumption) | refine Kept_flt (g := g) ?_ (by assumption) | refine Kept_var ?_ | refine Kept_ev ?_ (by assumption) | refine Kept_has ?_ | refine Kept_out ?_ | refine Kept_ctr ?_)
    | dsimp -zeta only
    | split)

theorem kept_unlatch {x0 x1 x2} (h0 : Kept g x0) (hk : 2147483648 &&& g.mask = 2147483648) : Kept g (State.unlatch x0 x1 x2) := by
  unfold State.unlatch
  repeat' (first
    | with_reducible assumption
    | with_reducible refine fun _ => ?_
    | ((try lift_lets); intro s; refine (have hs : Kept g s := ?_; ?_); subst s; rotate_left; clear_value s; rotate_left)
    | ((try lift_lets); first | (intro (x : Mram); subst x) | (intro (x : Compositor); subst x) | (intro (x : Store 32); subst x) | (intro (x : Store 8); subst x) | (intro (x : State × _); subst x) | (intro (x : _ × State); subst x) | (intro (x : _ × _ × State); subst x) | (intro (x : State → _); subst x) | (intro (x : _ → State → _); subst x) | (intro (x : _ → State); subst x) | (intro x; clear_value x))
    | (simp only [↓Kept_mk_iff]; refine And.intro ?_ (And.intro ?_ (And.intro ?_ (And.intro ?_ (And.intro ?_ (And.intro ?_ (And.intro ?_ (And.intro ?_ (And.intro ?_ ?_)))))))))
    | with_reducible (first | apply Kept_ite | apply filter_wf | apply evOk_filter)
    | with_reducible (first | exact Kept_regs (by assumption) (by assumption) | exact Kept_ram (by assumption) (by assumption) | exact Kept_mram (by assumption) (by assumption) | exact Kept_flt (by assumption) (by assumption) | exact Kept_var (by assumption) | exact Kept_ev (by assumption) (by assumption) | exact Kept_has (by assumption) | exact Kept_out (by assumption) | exact Kept_ctr (by assumption) | exact watchE_none (by assumption))
    | with_reducible refine Only_mk ?_ (.inr rfl) (.inr rfl) (.inr rfl) (.inr rfl) (.inr rfl) (.inr rfl) (.inr rfl) (.inr rfl) (.inr rfl) (.inr rfl) (.inr rfl) (.inr rfl) (.inr rfl) (.inr rfl) (.inr rfl) (.inr rfl) (.inr rfl) (.inr rfl) (.inr rfl) (.inr rfl) (.inr rfl) (.inr rfl) (.inr rfl) (.inr rfl) (.inr rfl) (.inr rfl) (.inr rfl) (.inr rfl) (.inl (mask_bit hk rfl)) (.inr rfl)
    | (first | exact mask_sub hk rfl | exact hk)
    | with_reducible (first | refine Kept_snd (by assumption) ?_ | refine Kept_fst (by assumption) ?_)
    | with_reducible exact Kept_of_next (by assumption)
    | with_reducible (refine Kept_of_O (by assumption) ?_)
    | with_reducible (first | refine Kept_regs (g := g) ?_ (by assumption) | refine Kept_ram (g := g) ?_ (by assumption) | refine Kept_mram (g := g) ?_ (by assumption) | refine Kept_flt (g := g) ?_ (by assumption) | refine Kept_var ?_ | refine Kept_ev ?_ (by assumption) | refine Kept_has ?_ | refine Kept_out ?_ | refine Kept_ctr ?_)
    | dsimp -zeta only
    | split)

theorem kept_latch {x0 x1 x2 x3} (h0 : Kept g x0) (hk : 2147483648 &&& g.mask = 2147483648) : Kept g (State.latch x0 x1 x2 x3) := by
  unfold State.latch
  repeat' (first
    | with_reducible assumption
    | with_reducible refine fun _ => ?_
    | ((try lift_lets); intro s; refine (have hs : Kept g s := ?_; ?_); subst s; rotate_left; clear_value s; rotate_left)
    | ((try lift_lets); first | (intro (x : Mram); subst x) | (intro (x : Compositor); subst x) | (intro (x : Store 32); subst x) | (intro (x : Store 8); subst x) | (intro (x : State × _); subst x) | (intro (x : _ × State); subst x) | (intro (x : _ × _ × State); subst x) | (intro (x : State → _); subst x) | (intro (x : _ → State → _); subst x) | (intro (x : _ → State); subst x) | (intro x; clear_value x))
    | (simp only [↓Kept_mk_iff]; refine And.intro ?_ (And.intro ?_ (And.intro ?_ (And.intro ?_ (And.intro ?_ (And.intro ?_ (And.intro ?_ (And.intro ?_ (And.intro ?_ ?_)))))))))
    | with_reducible (first | apply kept_unlatch | apply Kept_ite)
    | with_reducible (first | exact Kept_regs (by assumption) (by assumption) | exact Kept_ram (by assumption) (by assumption) | exact Kept_mram (by assumption) (by assumption) | exact Kept_flt (by assumption) (by assumption) | exact Kept_var (by assumption) | exact Kept_ev (by assumption) (by assumption) | exact Kept_has (by assumption) | exact Kept_out (by assumption) | exact Kept_ctr (by assumption) | exact watchE_none (by assumption))
    | with_reducible refine Only_mk ?_ (.inr rfl) (.inr rfl) (.inr rfl) (.inr rfl) (.inr rfl) (.inr rfl) (.inr rfl) (.inr rfl) (.inr rfl) (.inr rfl) (.inr rfl) (.inr rfl) (.inr rfl) (.inr rfl) (.inr rfl) (.inr rfl) (.inr rfl) (.inr rfl) (.inr rfl) (.inr rfl) (.inr rfl) (.inr rfl) (.inr rfl) (.inr rfl) (.inr rfl) (.inr rfl) (.inr rfl) (.inr rfl) (.inl (mask_bit hk rfl)) (.inr rfl)
    | (first | exact mask_sub hk rfl | exact hk)
    | with_reducible (first | refine Kept_snd (by assumption) ?_ | refine Kept_fst (by assumption) ?_)
    | with_reducible exact Kept_of_next (by assumption)
    | with_reducible (refine Kept_of_O (by assumption) ?_)
    | with_reducible (first | refine Kept_regs (g := g) ?_ (by assumption) | refine Kept_ram (g := g) ?_ (by assumption) | refine Kept_mram (g := g) ?_ (by assumption) | refine Kept_flt (g := g) ?_ (by assumption) | refine Kept_var ?_ | refine Kept_ev ?_ (by assumption) | refine Kept_has ?_ | refine Kept_out ?_ | refine Kept_ctr ?_)
    | dsimp -zeta only
    | split)

theorem kept_latchVote {x0 x1} (h0 : Kept g x0) (hk : 2147483648 &&& g.mask = 2147483648) : Kept g (State.latchVote x0 x1) := by
  unfold State.latchVote
  repeat' (first
    | with_reducible assumption
    | with_reducible refine fun _ => ?_
    | ((try lift_lets); intro s; refine (have hs : Kept g s := ?_; ?_); subst s; rotate_left; clear_value s; rotate_left)
    | ((try lift_lets); first | (intro (x : Mram); subst x) | (intro (x : Compositor); subst x) | (intro (x : Store 32); subst x) | (intro (x : Store 8); subst x) | (intro (x : State × _); subst x) | (intro (x : _ × State); subst x) | (intro (x : _ × _ × State); subst x) | (intro (x : State → _); subst x) | (intro (x : _ → State → _); subst x) | (intro (x : _ → State); subst x) | (intro x; clear_value x))
    | (simp only [↓Kept_mk_iff]; refine And.intro ?_ (And.intro ?_ (And.intro ?_ (And.intro ?_ (And.intro ?_ (And.intro ?_ (And.intro ?_ (And.intro ?_ (And.intro ?_ ?_)))))))))
    | with_reducible (first | apply kept_latch | apply Kept_ite | apply Kept_foldl)
    | with_reducible (first | exact Kept_regs (by assumption) (by assumption) | exact Kept_ram (by assumption) (by assumption) | exact Kept_mram (by assumption) (by assumption) | exact Kept_flt (by assumption) (by assumption) | exact Kept_var (by assumption) | exact Kept_ev (by assumption) (by assumption) | exact Kept_has (by assumption) | exact Kept_out (by assumption) | exact Kept_ctr (by assumption) | exact watchE_none (by assumption))
    | (first | exact mask_sub hk rfl | exact hk)
    | with_reducible (first | refine Kept_snd (by assumption) ?_ | refine Kept_fst (by assumption) ?_)
    | with_reducible exact Kept_of_next (by assumption)
    | with_reducible (refine Kept_of_O (by assumption) ?_)
    | with_reducible (first | refine Kept_regs (g := g) ?_ (by assumption) | refine Kept_ram (g := g) ?_ (by assumption) | refine Kept_mram (g := g) ?_ (by assumption) | refine Kept_flt (g := g) ?_ (by assumption) | refine Kept_var ?_ | refine Kept_ev ?_ (by assumption) | refine Kept_has ?_ | refine Kept_out ?_ | refine Kept_ctr ?_)
    | dsimp -zeta only
    | split)

theorem kept_lateTimeout {x0 x1 x2 x3} (h0 : Kept g x0) : Kept g (State.lateTimeout x0 x1 x2 x3) := by
  unfold State.lateTimeout
  split
  · rename_i hp
    have hp : pagePresent g.base.variant x1 = true := by rw [← h0.variant]; simp only [Bool.and_eq_true] at hp; exact hp.1
    exact ⟨h0.regs, h0.ram, h0.mram, h0.flt, h0.variant, fun k => evOk_enter (h0.ev k) hp, watchE_enter h0.has,
      h0.out, h0.ctr, Only_comp h0.only⟩
  · exact h0

theorem kept_policyLimits {x0 x1 x2} (h0 : Kept g x0) : Kept g (State.policyLimits x0 x1 x2) := by
  unfold State.policyLimits
  repeat' (first | with_reducible assumption | with_reducible (first | apply kept_setReg | apply kept_clampNote | apply Kept_ite) | split | intro _)

theorem kept_writeWindow {x0 x1 x2} (h0 : Kept g x0) (hk : 268435456 &&& g.mask = 268435456) : Kept g (State.writeWindow x0 x1 x2) := by
  unfold State.writeWindow
  repeat' (first
    | with_reducible assumption
    | with_reducible refine fun _ => ?_
    | ((try lift_lets); intro s; refine (have hs : Kept g s := ?_; ?_); subst s; rotate_left; clear_value s; rotate_left)
    | ((try lift_lets); first | (intro (x : Mram); subst x) | (intro (x : Compositor); subst x) | (intro (x : Store 32); subst x) | (intro (x : Store 8); subst x) | (intro (x : State × _); subst x) | (intro (x : _ × State); subst x) | (intro (x : _ × _ × State); subst x) | (intro (x : State → _); subst x) | (intro (x : _ → State → _); subst x) | (intro (x : _ → State); subst x) | (intro x; clear_value x))
    | (simp only [↓Kept_mk_iff]; refine And.intro ?_ (And.intro ?_ (And.intro ?_ (And.intro ?_ (And.intro ?_ (And.intro ?_ (And.intro ?_ (And.intro ?_ (And.intro ?_ ?_)))))))))
    | with_reducible (first | apply kept_raise | apply kept_filterCommit | apply Kept_ite | apply Store.wf_set)
    | with_reducible (first | exact Kept_regs (by assumption) (by assumption) | exact Kept_ram (by assumption) (by assumption) | exact Kept_mram (by assumption) (by assumption) | exact Kept_flt (by assumption) (by assumption) | exact Kept_var (by assumption) | exact Kept_ev (by assumption) (by assumption) | exact Kept_has (by assumption) | exact Kept_out (by assumption) | exact Kept_ctr (by assumption) | exact watchE_none (by assumption))
    | with_reducible refine Only_mk ?_ (.inr rfl) (.inr rfl) (.inr rfl) (.inr rfl) (.inr rfl) (.inr rfl) (.inr rfl) (.inr rfl) (.inr rfl) (.inr rfl) (.inr rfl) (.inr rfl) (.inr rfl) (.inr rfl) (.inr rfl) (.inr rfl) (.inr rfl) (.inr rfl) (.inr rfl) (.inr rfl) (.inr rfl) (.inr rfl) (.inr rfl) (.inr rfl) (.inr rfl) (.inl (mask_bit hk rfl)) (.inr rfl) (.inr rfl) (.inr rfl) (.inr rfl)
    | (first | exact mask_sub hk rfl | exact hk)
    | with_reducible (first | refine Kept_snd (by assumption) ?_ | refine Kept_fst (by assumption) ?_)
    | with_reducible exact Kept_of_next (by assumption)
    | with_reducible (refine Kept_of_O (by assumption) ?_)
    | with_reducible (first | refine Kept_regs (g := g) ?_ (by assumption) | refine Kept_ram (g := g) ?_ (by assumption) | refine Kept_mram (g := g) ?_ (by assumption) | refine Kept_flt (g := g) ?_ (by assumption) | refine Kept_var ?_ | refine Kept_ev ?_ (by assumption) | refine Kept_has ?_ | refine Kept_out ?_ | refine Kept_ctr ?_)
    | dsimp -zeta only
    | split)

theorem kept_writeFolio {x0 x1 x2 x3 x4} (h0 : Kept g x0) : Kept g (State.writeFolio x0 x1 x2 x3 x4) := by
  unfold State.writeFolio
  repeat' (first | with_reducible assumption | with_reducible (first | apply kept_setReg | apply kept_clearKey | apply Kept_ite) | split | intro _)

theorem kept_putRw {x0 x1 x2} (h0 : Kept g x0) : Kept g (State.putRw x0 x1 x2) := by
  unfold State.putRw
  repeat' (first | with_reducible assumption | with_reducible (first | apply kept_setReg | apply Kept_ite) | split | intro _)

theorem kept_requestWrite {x0 x1} (h0 : Kept g x0) : Kept g (State.requestWrite x0 x1) := by
  unfold State.requestWrite
  repeat' (first | with_reducible assumption | with_reducible (first | apply kept_raiseInt | apply kept_setReg | apply Kept_ite) | split | intro _)

theorem kept_pmpFault {x0 x1 x2 x3} (h0 : Kept g x0) : Kept g (State.pmpFault x0 x1 x2 x3) := by
  unfold State.pmpFault
  repeat' (first | with_reducible assumption | with_reducible (first | apply kept_emit | apply Kept_ite) | split | intro _)

theorem kept_refuseWrite {x0 x1 x2 x3} (h0 : Kept g x0) : Kept g (State.refuseWrite x0 x1 x2 x3) := by
  unfold State.refuseWrite
  repeat' (first | with_reducible assumption | with_reducible (first | apply kept_raise | apply kept_recordErr | apply Kept_ite) | split | intro _)

theorem kept_permitAt {x0 x1 x2 x3 x4} (h0 : Kept g x0) (h4 : ∀ t, Kept g t → Kept g (x4 t)) : Kept g (State.permitAt x0 x1 x2 x3 x4) := by
  unfold State.permitAt
  repeat' (first | with_reducible assumption | with_reducible (first | apply h4 | apply kept_pmpFault | apply kept_refuseWrite | apply Kept_ite) | split | intro _)

theorem kept_permit {x0 x1 x2 x3} (h0 : Kept g x0) (h3 : ∀ t, Kept g t → Kept g (x3 t)) : Kept g (State.permit x0 x1 x2 x3) := by
  unfold State.permit
  repeat' (first | with_reducible assumption | with_reducible (first | apply h3 | apply kept_permitAt | apply Kept_ite) | split | intro _)

theorem kept_permitKeyed {x0 x1 x2 x3 x4 x5} (h0 : Kept g x0) (h5 : ∀ t, Kept g t → Kept g (x5 t)) : Kept g (State.permitKeyed x0 x1 x2 x3 x4 x5) := by
  unfold State.permitKeyed
  repeat' (first | with_reducible assumption | with_reducible (first | apply h5 | apply kept_permit | apply kept_clearKey | apply kept_recordErr | apply kept_raise | apply Kept_ite) | split | intro _)

theorem kept_execLatchClr {x0 x1 x2} (h2 : Kept g x2) (hk : 671088704 &&& g.mask = 671088704) : KeptO g (execLatchClr x0 x1 x2) := by
  unfold execLatchClr
  repeat' (first | with_reducible assumption | exact mask_sub hk rfl | with_reducible (first | apply kept_permitKeyed | apply kept_setFM | apply kept_raise | apply kept_setB | apply kept_announce | apply KeptO_ite | apply KeptO_next | apply Kept_ite) | split | intro _)

theorem kept_writeSys {x0 x1 x2 x3} (h0 : Kept g x0) (hk : 2818572352 &&& g.mask = 2818572352) : Kept g (State.writeSys x0 x1 x2 x3) := by
  unfold State.writeSys
  repeat' (first
    | with_reducible assumption
    | with_reducible refine fun _ => ?_
    | ((try lift_lets); intro s; refine (have hs : Kept g s := ?_; ?_); subst s; rotate_left; clear_value s; rotate_left)
    | ((try lift_lets); first | (intro (x : Mram); subst x) | (intro (x : Compositor); subst x) | (intro (x : Store 32); subst x) | (intro (x : Store 8); subst x) | (intro (x : State × _); subst x) | (intro (x : _ × State); subst x) | (intro (x : _ × _ × State); subst x) | (intro (x : State → _); subst x) | (intro (x : _ → State → _); subst x) | (intro (x : _ → State); subst x) | (intro x; clear_value x))
    | (simp only [↓Kept_mk_iff]; refine And.intro ?_ (And.intro ?_ (And.intro ?_ (And.intro ?_ (And.intro ?_ (And.intro ?_ (And.intro ?_ (And.intro ?_ (And.intro ?_ ?_)))))))))
    | with_reducible (first | apply kept_putRw | apply kept_clearKey | apply kept_closeSession | apply kept_requestWrite | apply kept_act | apply kept_execLatchClr | apply Kept_ite | apply Kept_foldl)
    | with_reducible (first | exact Kept_regs (by assumption) (by assumption) | exact Kept_ram (by assumption) (by assumption) | exact Kept_mram (by assumption) (by assumption) | exact Kept_flt (by assumption) (by assumption) | exact Kept_var (by assumption) | exact Kept_ev (by assumption) (by assumption) | exact Kept_has (by assumption) | exact Kept_out (by assumption) | exact Kept_ctr (by assumption) | exact watchE_none (by assumption))
    | (first | exact mask_sub hk rfl | exact hk)
    | with_reducible (first | refine Kept_snd (by assumption) ?_ | refine Kept_fst (by assumption) ?_)
    | with_reducible exact Kept_of_next (by assumption)
    | with_reducible (refine Kept_of_O (by assumption) ?_)
    | with_reducible (first | refine Kept_regs (g := g) ?_ (by assumption) | refine Kept_ram (g := g) ?_ (by assumption) | refine Kept_mram (g := g) ?_ (by assumption) | refine Kept_flt (g := g) ?_ (by assumption) | refine Kept_var ?_ | refine Kept_ev ?_ (by assumption) | refine Kept_has ?_ | refine Kept_out ?_ | refine Kept_ctr ?_)
    | dsimp -zeta only
    | split)

theorem kept_execWdgKick {x0 x1 x2} (h2 : Kept g x2) (hE : ∀ e, ¬ g.events e) (hk : 8589931980 &&& g.mask = 8589931980) : KeptO g (execWdgKick x0 x1 x2) := by
  unfold execWdgKick
  repeat' (first | with_reducible assumption | exact mask_sub hk rfl | with_reducible (first | apply kept_recordErr | apply kept_raise | apply kept_kicked | apply kept_faultReset | apply KeptO_ite | apply KeptO_next | apply Kept_ite) | split | intro _)

theorem kept_writeClk {x0 x1 x2 x3} (h0 : Kept g x0) (hE : ∀ e, ¬ g.events e) (hk : 8589931980 &&& g.mask = 8589931980) : Kept g (State.writeClk x0 x1 x2 x3) := by
  unfold State.writeClk
  repeat' (first
    | with_reducible assumption
    | with_reducible refine fun _ => ?_
    | ((try lift_lets); intro s; refine (have hs : Kept g s := ?_; ?_); subst s; rotate_left; clear_value s; rotate_left)
    | ((try lift_lets); first | (intro (x : Mram); subst x) | (intro (x : Compositor); subst x) | (intro (x : Store 32); subst x) | (intro (x : Store 8); subst x) | (intro (x : State × _); subst x) | (intro (x : _ × State); subst x) | (intro (x : _ × _ × State); subst x) | (intro (x : State → _); subst x) | (intro (x : _ → State → _); subst x) | (intro (x : _ → State); subst x) | (intro x; clear_value x))
    | (simp only [↓Kept_mk_iff]; refine And.intro ?_ (And.intro ?_ (And.intro ?_ (And.intro ?_ (And.intro ?_ (And.intro ?_ (And.intro ?_ (And.intro ?_ (And.intro ?_ ?_)))))))))
    | with_reducible (first | apply kept_act | apply kept_execWdgKick | apply kept_putRw | apply kept_clearKey | apply kept_setRegM | apply Kept_ite)
    | with_reducible (first | exact Kept_regs (by assumption) (by assumption) | exact Kept_ram (by assumption) (by assumption) | exact Kept_mram (by assumption) (by assumption) | exact Kept_flt (by assumption) (by assumption) | exact Kept_var (by assumption) | exact Kept_ev (by assumption) (by assumption) | exact Kept_has (by assumption) | exact Kept_out (by assumption) | exact Kept_ctr (by assumption) | exact watchE_none (by assumption))
    | with_reducible refine Only_mk ?_ (.inr rfl) (.inr rfl) (.inr rfl) (.inr rfl) (.inr rfl) (.inr rfl) (.inr rfl) (.inr rfl) (.inr rfl) (.inr rfl) (.inr rfl) (.inr rfl) (.inr rfl) (.inr rfl) (.inr rfl) (.inr rfl) (.inr rfl) (.inr rfl) (.inr rfl) (.inr rfl) (.inr rfl) (.inl (mask_bit hk rfl)) (.inr rfl) (.inr rfl) (.inr rfl) (.inr rfl) (.inr rfl) (.inr rfl) (.inr rfl) (.inr rfl)
    | (first | exact mask_sub hk rfl | exact hk)
    | with_reducible (first | refine Kept_snd (by assumption) ?_ | refine Kept_fst (by assumption) ?_)
    | with_reducible exact Kept_of_next (by assumption)
    | with_reducible (refine Kept_of_O (by assumption) ?_)
    | with_reducible (first | refine Kept_regs (g := g) ?_ (by assumption) | refine Kept_ram (g := g) ?_ (by assumption) | refine Kept_mram (g := g) ?_ (by assumption) | refine Kept_flt (g := g) ?_ (by assumption) | refine Kept_var ?_ | refine Kept_ev ?_ (by assumption) | refine Kept_has ?_ | refine Kept_out ?_ | refine Kept_ctr ?_)
    | dsimp -zeta only
    | split)

theorem kept_execStepNs {x0 x1 x2} (h2 : Kept g x2) (hk : 256 &&& g.mask = 256) : KeptO g (execStepNs x0 x1 x2) := by
  unfold execStepNs
  repeat' (first
    | with_reducible assumption
    | with_reducible refine fun _ => ?_
    | ((try lift_lets); intro s; refine (have hs : Kept g s := ?_; ?_); subst s; rotate_left; clear_value s; rotate_left)
    | ((try lift_lets); first | (intro (x : Mram); subst x) | (intro (x : Compositor); subst x) | (intro (x : Store 32); subst x) | (intro (x : Store 8); subst x) | (intro (x : State × _); subst x) | (intro (x : _ × State); subst x) | (intro (x : _ × _ × State); subst x) | (intro (x : State → _); subst x) | (intro (x : _ → State → _); subst x) | (intro (x : _ → State); subst x) | (intro x; clear_value x))
    | (simp only [↓Kept_mk_iff]; refine And.intro ?_ (And.intro ?_ (And.intro ?_ (And.intro ?_ (And.intro ?_ (And.intro ?_ (And.intro ?_ (And.intro ?_ (And.intro ?_ ?_)))))))))
    | with_reducible (first | apply kept_permitKeyed | apply kept_raiseInt | apply Kept_ite | apply KeptO_ite | apply KeptO_next)
    | with_reducible (first | exact Kept_regs (by assumption) (by assumption) | exact Kept_ram (by assumption) (by assumption) | exact Kept_mram (by assumption) (by assumption) | exact Kept_flt (by assumption) (by assumption) | exact Kept_var (by assumption) | exact Kept_ev (by assumption) (by assumption) | exact Kept_has (by assumption) | exact Kept_out (by assumption) | exact Kept_ctr (by assumption) | exact watchE_none (by assumption))
    | with_reducible refine Only_mk ?_ (.inr rfl) (.inr rfl) (.inr rfl) (.inr rfl) (.inr rfl) (.inr rfl) (.inl (mask_bit hk rfl)) (.inr rfl) (.inr rfl) (.inr rfl) (.inr rfl) (.inr rfl) (.inr rfl) (.inr rfl) (.inr rfl) (.inr rfl) (.inr rfl) (.inr rfl) (.inr rfl) (.inr rfl) (.inr rfl) (.inr rfl) (.inr rfl) (.inr rfl) (.inr rfl) (.inr rfl) (.inr rfl) (.inr rfl) (.inr rfl) (.inr rfl)
    | (first | exact mask_sub hk rfl | exact hk)
    | with_reducible (first | refine Kept_snd (by assumption) ?_ | refine Kept_fst (by assumption) ?_)
    | with_reducible exact Kept_of_next (by assumption)
    | with_reducible (refine Kept_of_O (by assumption) ?_)
    | with_reducible (first | refine Kept_regs (g := g) ?_ (by assumption) | refine Kept_ram (g := g) ?_ (by assumption) | refine Kept_mram (g := g) ?_ (by assumption) | refine Kept_flt (g := g) ?_ (by assumption) | refine Kept_var ?_ | refine Kept_ev ?_ (by assumption) | refine Kept_has ?_ | refine Kept_out ?_ | refine Kept_ctr ?_)
    | dsimp -zeta only
    | split)

theorem kept_trigFire {x0 x1} (h0 : Kept g x0) (hk : 256 &&& g.mask = 256) : Kept g (State.trigFire x0 x1) := by
  unfold State.trigFire
  repeat' (first
    | with_reducible assumption
    | with_reducible refine fun _ => ?_
    | ((try lift_lets); intro s; refine (have hs : Kept g s := ?_; ?_); subst s; rotate_left; clear_value s; rotate_left)
    | ((try lift_lets); first | (intro (x : Mram); subst x) | (intro (x : Compositor); subst x) | (intro (x : Store 32); subst x) | (intro (x : Store 8); subst x) | (intro (x : State × _); subst x) | (intro (x : _ × State); subst x) | (intro (x : _ × _ × State); subst x) | (intro (x : State → _); subst x) | (intro (x : _ → State → _); subst x) | (intro (x : _ → State); subst x) | (intro x; clear_value x))
    | (simp only [↓Kept_mk_iff]; refine And.intro ?_ (And.intro ?_ (And.intro ?_ (And.intro ?_ (And.intro ?_ (And.intro ?_ (And.intro ?_ (And.intro ?_ (And.intro ?_ ?_)))))))))
    | with_reducible (first | apply kept_raiseA | apply kept_emit | apply Kept_ite)
    | with_reducible (first | exact Kept_regs (by assumption) (by assumption) | exact Kept_ram (by assumption) (by assumption) | exact Kept_mram (by assumption) (by assumption) | exact Kept_flt (by assumption) (by assumption) | exact Kept_var (by assumption) | exact Kept_ev (by assumption) (by assumption) | exact Kept_has (by assumption) | exact Kept_out (by assumption) | exact Kept_ctr (by assumption) | exact watchE_none (by assumption))
    | with_reducible refine Only_mk ?_ (.inr rfl) (.inr rfl) (.inr rfl) (.inr rfl) (.inr rfl) (.inr rfl) (.inl (mask_bit hk rfl)) (.inr rfl) (.inr rfl) (.inr rfl) (.inr rfl) (.inr rfl) (.inr rfl) (.inr rfl) (.inr rfl) (.inr rfl) (.inr rfl) (.inr rfl) (.inr rfl) (.inr rfl) (.inr rfl) (.inr rfl) (.inr rfl) (.inr rfl) (.inr rfl) (.inr rfl) (.inr rfl) (.inr rfl) (.inr rfl) (.inr rfl)
    | (first | exact mask_sub hk rfl | exact hk)
    | with_reducible (first | refine Kept_snd (by assumption) ?_ | refine Kept_fst (by assumption) ?_)
    | with_reducible exact Kept_of_next (by assumption)
    | with_reducible (refine Kept_of_O (by assumption) ?_)
    | with_reducible (first | refine Kept_regs (g := g) ?_ (by assumption) | refine Kept_ram (g := g) ?_ (by assumption) | refine Kept_mram (g := g) ?_ (by assumption) | refine Kept_flt (g := g) ?_ (by assumption) | refine Kept_var ?_ | refine Kept_ev ?_ (by assumption) | refine Kept_has ?_ | refine Kept_out ?_ | refine Kept_ctr ?_)
    | dsimp -zeta only
    | split)

theorem kept_launchLate {x0} (h0 : Kept g x0) : Kept g (State.launchLate x0) := by
  unfold State.launchLate
  repeat' (first | with_reducible assumption | with_reducible (first | apply kept_raise | apply kept_countReg | apply Kept_ite) | split | intro _)

theorem kept_trigLaunch {x0 x1} (h0 : Kept g x0) (hk : 256 &&& g.mask = 256) : Kept g (State.trigLaunch x0 x1) := by
  unfold State.trigLaunch
  repeat' (first | with_reducible assumption | exact mask_sub hk rfl | with_reducible (first | apply kept_trigFire | apply kept_launchLate | apply Kept_ite) | split | intro _)

theorem kept_trigConsider {x0 x1} (h0 : Kept g x0) (hk : 256 &&& g.mask = 256) : Kept g (State.trigConsider x0 x1) := by
  unfold State.trigConsider
  repeat' (first | with_reducible assumption | exact mask_sub hk rfl | with_reducible (first | apply kept_trigFire | apply kept_launchLate | apply Kept_ite) | split | intro _)

theorem kept_trigWrite {x0 x1 x2} (h0 : Kept g x0) (hk : 256 &&& g.mask = 256) : Kept g (State.trigWrite x0 x1 x2) := by
  unfold State.trigWrite
  repeat' (first
    | with_reducible assumption
    | with_reducible refine fun _ => ?_
    | ((try lift_lets); intro s; refine (have hs : Kept g s := ?_; ?_); subst s; rotate_left; clear_value s; rotate_left)
    | ((try lift_lets); first | (intro (x : Mram); subst x) | (intro (x : Compositor); subst x) | (intro (x : Store 32); subst x) | (intro (x : Store 8); subst x) | (intro (x : State × _); subst x) | (intro (x : _ × State); subst x) | (intro (x : _ × _ × State); subst x) | (intro (x : State → _); subst x) | (intro (x : _ → State → _); subst x) | (intro (x : _ → State); subst x) | (intro x; clear_value x))
    | (simp only [↓Kept_mk_iff]; refine And.intro ?_ (And.intro ?_ (And.intro ?_ (And.intro ?_ (And.intro ?_ (And.intro ?_ (And.intro ?_ (And.intro ?_ (And.intro ?_ ?_)))))))))
    | with_reducible (first | apply kept_trigLaunch | apply kept_trigConsider | apply kept_setReg | apply Kept_ite)
    | with_reducible (first | exact Kept_regs (by assumption) (by assumption) | exact Kept_ram (by assumption) (by assumption) | exact Kept_mram (by assumption) (by assumption) | exact Kept_flt (by assumption) (by assumption) | exact Kept_var (by assumption) | exact Kept_ev (by assumption) (by assumption) | exact Kept_has (by assumption) | exact Kept_out (by assumption) | exact Kept_ctr (by assumption) | exact watchE_none (by assumption))
    | with_reducible refine Only_mk ?_ (.inr rfl) (.inr rfl) (.inr rfl) (.inr rfl) (.inr rfl) (.inr rfl) (.inl (mask_bit hk rfl)) (.inr rfl) (.inr rfl) (.inr rfl) (.inr rfl) (.inr rfl) (.inr rfl) (.inr rfl) (.inr rfl) (.inr rfl) (.inr rfl) (.inr rfl) (.inr rfl) (.inr rfl) (.inr rfl) (.inr rfl) (.inr rfl) (.inr rfl) (.inr rfl) (.inr rfl) (.inr rfl) (.inr rfl) (.inr rfl) (.inr rfl)
    | (first | exact mask_sub hk rfl | exact hk)
    | with_reducible (first | refine Kept_snd (by assumption) ?_ | refine Kept_fst (by assumption) ?_)
    | with_reducible exact Kept_of_next (by assumption)
    | with_reducible (refine Kept_of_O (by assumption) ?_)
    | with_reducible (first | refine Kept_regs (g := g) ?_ (by assumption) | refine Kept_ram (g := g) ?_ (by assumption) | refine Kept_mram (g := g) ?_ (by assumption) | refine Kept_flt (g := g) ?_ (by assumption) | refine Kept_var ?_ | refine Kept_ev ?_ (by assumption) | refine Kept_has ?_ | refine Kept_out ?_ | refine Kept_ctr ?_)
    | dsimp -zeta only
    | split)

theorem kept_trigCtl {x0 x1} (h0 : Kept g x0) (hk : 256 &&& g.mask = 256) : Kept g (State.trigCtl x0 x1) := by
  unfold State.trigCtl
  repeat' (first
    | with_reducible assumption
    | with_reducible refine fun _ => ?_
    | ((try lift_lets); intro s; refine (have hs : Kept g s := ?_; ?_); subst s; rotate_left; clear_value s; rotate_left)
    | ((try lift_lets); first | (intro (x : Mram); subst x) | (intro (x : Compositor); subst x) | (intro (x : Store 32); subst x) | (intro (x : Store 8); subst x) | (intro (x : State × _); subst x) | (intro (x : _ × State); subst x) | (intro (x : _ × _ × State); subst x) | (intro (x : State → _); subst x) | (intro (x : _ → State → _); subst x) | (intro (x : _ → State); subst x) | (intro x; clear_value x))
    | (simp only [↓Kept_mk_iff]; refine And.intro ?_ (And.intro ?_ (And.intro ?_ (And.intro ?_ (And.intro ?_ (And.intro ?_ (And.intro ?_ (And.intro ?_ (And.intro ?_ ?_)))))))))
    | with_reducible (first | apply kept_setF | apply kept_setReg | apply kept_trigConsider | apply Kept_ite | apply Kept_foldl)
    | with_reducible (first | exact Kept_regs (by assumption) (by assumption) | exact Kept_ram (by assumption) (by assumption) | exact Kept_mram (by assumption) (by assumption) | exact Kept_flt (by assumption) (by assumption) | exact Kept_var (by assumption) | exact Kept_ev (by assumption) (by assumption) | exact Kept_has (by assumption) | exact Kept_out (by assumption) | exact Kept_ctr (by assumption) | exact watchE_none (by assumption))
    | (first | exact mask_sub hk rfl | exact hk)
    | with_reducible (first | refine Kept_snd (by assumption) ?_ | refine Kept_fst (by assumption) ?_)
    | with_reducible exact Kept_of_next (by assumption)
    | with_reducible (refine Kept_of_O (by assumption) ?_)
    | with_reducible (first | refine Kept_regs (g := g) ?_ (by assumption) | refine Kept_ram (g := g) ?_ (by assumption) | refine Kept_mram (g := g) ?_ (by assumption) | refine Kept_flt (g := g) ?_ (by assumption) | refine Kept_var ?_ | refine Kept_ev ?_ (by assumption) | refine Kept_has ?_ | refine Kept_out ?_ | refine Kept_ctr ?_)
    | dsimp -zeta only
    | split)

theorem kept_writeTime {x0 x1 x2 x3} (h0 : Kept g x0) (hk : 256 &&& g.mask = 256) : Kept g (State.writeTime x0 x1 x2 x3) := by
  unfold State.writeTime
  repeat' (first
    | with_reducible assumption
    | with_reducible refine fun _ => ?_
    | ((try lift_lets); intro s; refine (have hs : Kept g s := ?_; ?_); subst s; rotate_left; clear_value s; rotate_left)
    | ((try lift_lets); first | (intro (x : Mram); subst x) | (intro (x : Compositor); subst x) | (intro (x : Store 32); subst x) | (intro (x : Store 8); subst x) | (intro (x : State × _); subst x) | (intro (x : _ × State); subst x) | (intro (x : _ × _ × State); subst x) | (intro (x : State → _); subst x) | (intro (x : _ → State → _); subst x) | (intro (x : _ → State); subst x) | (intro x; clear_value x))
    | (simp only [↓Kept_mk_iff]; refine And.intro ?_ (And.intro ?_ (And.intro ?_ (And.intro ?_ (And.intro ?_ (And.intro ?_ (And.intro ?_ (And.intro ?_ (And.intro ?_ ?_)))))))))
    | with_reducible (first | apply kept_setIncr | apply kept_timeRole | apply kept_putRw | apply kept_clearKey | apply kept_act | apply kept_execStepNs | apply kept_trigWrite | apply kept_trigCtl | apply kept_compatCtl | apply kept_compatLoad | apply Kept_ite)
    | with_reducible (first | exact Kept_regs (by assumption) (by assumption) | exact Kept_ram (by assumption) (by assumption) | exact Kept_mram (by assumption) (by assumption) | exact Kept_flt (by assumption) (by assumption) | exact Kept_var (by assumption) | exact Kept_ev (by assumption) (by assumption) | exact Kept_has (by assumption) | exact Kept_out (by assumption) | exact Kept_ctr (by assumption) | exact watchE_none (by assumption))
    | with_reducible refine Only_mk ?_ (.inr rfl) (.inr rfl) (.inr rfl) (.inr rfl) (.inr rfl) (.inr rfl) (.inl (mask_bit hk rfl)) (.inr rfl) (.inr rfl) (.inr rfl) (.inr rfl) (.inr rfl) (.inr rfl) (.inr rfl) (.inr rfl) (.inr rfl) (.inr rfl) (.inr rfl) (.inr rfl) (.inr rfl) (.inr rfl) (.inr rfl) (.inr rfl) (.inr rfl) (.inr rfl) (.inr rfl) (.inr rfl) (.inr rfl) (.inr rfl) (.inr rfl)
    | (first | exact mask_sub hk rfl | exact hk)
    | with_reducible (first | refine Kept_snd (by assumption) ?_ | refine Kept_fst (by assumption) ?_)
    | with_reducible exact Kept_of_next (by assumption)
    | with_reducible (refine Kept_of_O (by assumption) ?_)
    | with_reducible (first | refine Kept_regs (g := g) ?_ (by assumption) | refine Kept_ram (g := g) ?_ (by assumption) | refine Kept_mram (g := g) ?_ (by assumption) | refine Kept_flt (g := g) ?_ (by assumption) | refine Kept_var ?_ | refine Kept_ev ?_ (by assumption) | refine Kept_has ?_ | refine Kept_out ?_ | refine Kept_ctr ?_)
    | dsimp -zeta only
    | split)

theorem kept_thaw {x0} (h0 : Kept g x0) (hk : 1024 &&& g.mask = 1024) : Kept g (State.thaw x0) := by
  unfold State.thaw
  repeat' (first
    | with_reducible assumption
    | with_reducible refine fun _ => ?_
    | ((try lift_lets); intro s; refine (have hs : Kept g s := ?_; ?_); subst s; rotate_left; clear_value s; rotate_left)
    | ((try lift_lets); first | (intro (x : Mram); subst x) | (intro (x : Compositor); subst x) | (intro (x : Store 32); subst x) | (intro (x : Store 8); subst x) | (intro (x : State × _); subst x) | (intro (x : _ × State); subst x) | (intro (x : _ × _ × State); subst x) | (intro (x : State → _); subst x) | (intro (x : _ → State → _); subst x) | (intro (x : _ → State); subst x) | (intro x; clear_value x))
    | (simp only [↓Kept_mk_iff]; refine And.intro ?_ (And.intro ?_ (And.intro ?_ (And.intro ?_ (And.intro ?_ (And.intro ?_ (And.intro ?_ (And.intro ?_ (And.intro ?_ ?_)))))))))
    | with_reducible (first | apply kept_setB | apply Kept_ite)
    | with_reducible (first | exact Kept_regs (by assumption) (by assumption) | exact Kept_ram (by assumption) (by assumption) | exact Kept_mram (by assumption) (by assumption) | exact Kept_flt (by assumption) (by assumption) | exact Kept_var (by assumption) | exact Kept_ev (by assumption) (by assumption) | exact Kept_has (by assumption) | exact Kept_out (by assumption) | exact Kept_ctr (by assumption) | exact watchE_none (by assumption))
    | with_reducible refine Only_mk ?_ (.inr rfl) (.inr rfl) (.inr rfl) (.inr rfl) (.inr rfl) (.inr rfl) (.inr rfl) (.inl (mask_bit hk rfl)) (.inr rfl) (.inr rfl) (.inr rfl) (.inr rfl) (.inr rfl) (.inr rfl) (.inr rfl) (.inr rfl) (.inr rfl) (.inr rfl) (.inr rfl) (.inr rfl) (.inr rfl) (.inr rfl) (.inr rfl) (.inr rfl) (.inr rfl) (.inr rfl) (.inr rfl) (.inr rfl) (.inr rfl) (.inr rfl)
    | (first | exact mask_sub hk rfl | exact hk)
    | with_reducible (first | refine Kept_snd (by assumption) ?_ | refine Kept_fst (by assumption) ?_)
    | with_reducible exact Kept_of_next (by assumption)
    | with_reducible (refine Kept_of_O (by assumption) ?_)
    | with_reducible (first | refine Kept_regs (g := g) ?_ (by assumption) | refine Kept_ram (g := g) ?_ (by assumption) | refine Kept_mram (g := g) ?_ (by assumption) | refine Kept_flt (g := g) ?_ (by assumption) | refine Kept_var ?_ | refine Kept_ev ?_ (by assumption) | refine Kept_has ?_ | refine Kept_out ?_ | refine Kept_ctr ?_)
    | dsimp -zeta only
    | split)

theorem kept_writeEvr {x0 x1 x2} (h0 : Kept g x0) (hk : 1024 &&& g.mask = 1024) : Kept g (State.writeEvr x0 x1 x2) := by
  unfold State.writeEvr
  repeat' (first | with_reducible assumption | exact mask_sub hk rfl | with_reducible (first | apply kept_putRw | apply kept_freeze | apply kept_thaw | apply kept_cursorWrite | apply kept_raise | apply kept_setReg | apply Kept_ite) | split | intro _)

theorem kept_execUpdBegin {x0 x1} (h1 : Kept g x1) (hk : 33556480 &&& g.mask = 33556480) : KeptO g (execUpdBegin x0 x1) := by
  unfold execUpdBegin
  repeat' (first
    | with_reducible assumption
    | with_reducible refine fun _ => ?_
    | ((try lift_lets); intro s; refine (have hs : Kept g s := ?_; ?_); subst s; rotate_left; clear_value s; rotate_left)
    | ((try lift_lets); first | (intro (x : Mram); subst x) | (intro (x : Compositor); subst x) | (intro (x : Store 32); subst x) | (intro (x : Store 8); subst x) | (intro (x : State × _); subst x) | (intro (x : _ × State); subst x) | (intro (x : _ × _ × State); subst x) | (intro (x : State → _); subst x) | (intro (x : _ → State → _); subst x) | (intro (x : _ → State); subst x) | (intro x; clear_value x))
    | (simp only [↓Kept_mk_iff]; refine And.intro ?_ (And.intro ?_ (And.intro ?_ (And.intro ?_ (And.intro ?_ (And.intro ?_ (And.intro ?_ (And.intro ?_ (And.intro ?_ ?_)))))))))
    | with_reducible (first | apply kept_permit | apply kept_abortDue | apply kept_raise | apply kept_setF | apply kept_updShow | apply kept_setReg | apply Kept_ite | apply KeptO_ite | apply KeptO_next)
    | with_reducible (first | exact Kept_regs (by assumption) (by assumption) | exact Kept_ram (by assumption) (by assumption) | exact Kept_mram (by assumption) (by assumption) | exact Kept_flt (by assumption) (by assumption) | exact Kept_var (by assumption) | exact Kept_ev (by assumption) (by assumption) | exact Kept_has (by assumption) | exact Kept_out (by assumption) | exact Kept_ctr (by assumption) | exact watchE_none (by assumption))
    | with_reducible refine Only_mk ?_ (.inr rfl) (.inr rfl) (.inr rfl) (.inr rfl) (.inr rfl) (.inr rfl) (.inr rfl) (.inr rfl) (.inr rfl) (.inr rfl) (.inr rfl) (.inr rfl) (.inr rfl) (.inr rfl) (.inr rfl) (.inr rfl) (.inr rfl) (.inr rfl) (.inr rfl) (.inr rfl) (.inr rfl) (.inr rfl) (.inl (mask_bit hk rfl)) (.inr rfl) (.inr rfl) (.inr rfl) (.inr rfl) (.inr rfl) (.inr rfl) (.inr rfl)
    | (first | exact mask_sub hk rfl | exact hk)
    | with_reducible (first | refine Kept_snd (by assumption) ?_ | refine Kept_fst (by assumption) ?_)
    | with_reducible exact Kept_of_next (by assumption)
    | with_reducible (refine Kept_of_O (by assumption) ?_)
    | with_reducible (first | refine Kept_regs (g := g) ?_ (by assumption) | refine Kept_ram (g := g) ?_ (by assumption) | refine Kept_mram (g := g) ?_ (by assumption) | refine Kept_flt (g := g) ?_ (by assumption) | refine Kept_var ?_ | refine Kept_ev ?_ (by assumption) | refine Kept_has ?_ | refine Kept_out ?_ | refine Kept_ctr ?_)
    | dsimp -zeta only
    | split)

theorem kept_execUpdAbort {x0 x1} (h1 : Kept g x1) (hk : 33554432 &&& g.mask = 33554432) : KeptO g (execUpdAbort x0 x1) := by
  unfold execUpdAbort
  repeat' (first
    | with_reducible assumption
    | with_reducible refine fun _ => ?_
    | ((try lift_lets); intro s; refine (have hs : Kept g s := ?_; ?_); subst s; rotate_left; clear_value s; rotate_left)
    | ((try lift_lets); first | (intro (x : Mram); subst x) | (intro (x : Compositor); subst x) | (intro (x : Store 32); subst x) | (intro (x : Store 8); subst x) | (intro (x : State × _); subst x) | (intro (x : _ × State); subst x) | (intro (x : _ × _ × State); subst x) | (intro (x : State → _); subst x) | (intro (x : _ → State → _); subst x) | (intro (x : _ → State); subst x) | (intro x; clear_value x))
    | (simp only [↓Kept_mk_iff]; refine And.intro ?_ (And.intro ?_ (And.intro ?_ (And.intro ?_ (And.intro ?_ (And.intro ?_ (And.intro ?_ (And.intro ?_ (And.intro ?_ ?_)))))))))
    | with_reducible (first | apply kept_permit | apply kept_raiseInt | apply Kept_ite | apply KeptO_ite | apply KeptO_next)
    | with_reducible (first | exact Kept_regs (by assumption) (by assumption) | exact Kept_ram (by assumption) (by assumption) | exact Kept_mram (by assumption) (by assumption) | exact Kept_flt (by assumption) (by assumption) | exact Kept_var (by assumption) | exact Kept_ev (by assumption) (by assumption) | exact Kept_has (by assumption) | exact Kept_out (by assumption) | exact Kept_ctr (by assumption) | exact watchE_none (by assumption))
    | with_reducible refine Only_mk ?_ (.inr rfl) (.inr rfl) (.inr rfl) (.inr rfl) (.inr rfl) (.inr rfl) (.inr rfl) (.inr rfl) (.inr rfl) (.inr rfl) (.inr rfl) (.inr rfl) (.inr rfl) (.inr rfl) (.inr rfl) (.inr rfl) (.inr rfl) (.inr rfl) (.inr rfl) (.inr rfl) (.inr rfl) (.inr rfl) (.inl (mask_bit hk rfl)) (.inr rfl) (.inr rfl) (.inr rfl) (.inr rfl) (.inr rfl) (.inr rfl) (.inr rfl)
    | (first | exact mask_sub hk rfl | exact hk)
    | with_reducible (first | refine Kept_snd (by assumption) ?_ | refine Kept_fst (by assumption) ?_)
    | with_reducible exact Kept_of_next (by assumption)
    | with_reducible (refine Kept_of_O (by assumption) ?_)
    | with_reducible (first | refine Kept_regs (g := g) ?_ (by assumption) | refine Kept_ram (g := g) ?_ (by assumption) | refine Kept_mram (g := g) ?_ (by assumption) | refine Kept_flt (g := g) ?_ (by assumption) | refine Kept_var ?_ | refine Kept_ev ?_ (by assumption) | refine Kept_has ?_ | refine Kept_out ?_ | refine Kept_ctr ?_)
    | dsimp -zeta only
    | split)

theorem kept_execUpdArm {x0 x1 x2} (h2 : Kept g x2) (hk : 33556480 &&& g.mask = 33556480) : KeptO g (execUpdArm x0 x1 x2) := by
  unfold execUpdArm
  repeat' (first
    | with_reducible assumption
    | with_reducible refine fun _ => ?_
    | ((try lift_lets); intro s; refine (have hs : Kept g s := ?_; ?_); subst s; rotate_left; clear_value s; rotate_left)
    | ((try lift_lets); first | (intro (x : Mram); subst x) | (intro (x : Compositor); subst x) | (intro (x : Store 32); subst x) | (intro (x : Store 8); subst x) | (intro (x : State × _); subst x) | (intro (x : _ × State); subst x) | (intro (x : _ × _ × State); subst x) | (intro (x : State → _); subst x) | (intro (x : _ → State → _); subst x) | (intro (x : _ → State); subst x) | (intro x; clear_value x))
    | (simp only [↓Kept_mk_iff]; refine And.intro ?_ (And.intro ?_ (And.intro ?_ (And.intro ?_ (And.intro ?_ (And.intro ?_ (And.intro ?_ (And.intro ?_ (And.intro ?_ ?_)))))))))
    | with_reducible (first | apply kept_permitKeyed | apply kept_abortDue | apply kept_updShow | apply kept_raise | apply kept_raiseInt | apply kept_setF | apply Kept_ite | apply KeptO_ite | apply KeptO_next | apply filter_wf | apply evOk_filter)
    | with_reducible (first | exact Kept_regs (by assumption) (by assumption) | exact Kept_ram (by assumption) (by assumption) | exact Kept_mram (by assumption) (by assumption) | exact Kept_flt (by assumption) (by assumption) | exact Kept_var (by assumption) | exact Kept_ev (by assumption) (by assumption) | exact Kept_has (by assumption) | exact Kept_out (by assumption) | exact Kept_ctr (by assumption) | exact watchE_none (by assumption))
    | with_reducible refine Only_mk ?_ (.inr rfl) (.inr rfl) (.inr rfl) (.inr rfl) (.inr rfl) (.inr rfl) (.inr rfl) (.inr rfl) (.inr rfl) (.inr rfl) (.inr rfl) (.inr rfl) (.inr rfl) (.inr rfl) (.inr rfl) (.inr rfl) (.inr rfl) (.inr rfl) (.inr rfl) (.inr rfl) (.inr rfl) (.inr rfl) (.inl (mask_bit hk rfl)) (.inr rfl) (.inr rfl) (.inr rfl) (.inr rfl) (.inr rfl) (.inr rfl) (.inr rfl)
    | (first | exact mask_sub hk rfl | exact hk)
    | with_reducible (first | refine Kept_snd (by assumption) ?_ | refine Kept_fst (by assumption) ?_)
    | with_reducible exact Kept_of_next (by assumption)
    | with_reducible (refine Kept_of_O (by assumption) ?_)
    | with_reducible (first | refine Kept_regs (g := g) ?_ (by assumption) | refine Kept_ram (g := g) ?_ (by assumption) | refine Kept_mram (g := g) ?_ (by assumption) | refine Kept_flt (g := g) ?_ (by assumption) | refine Kept_var ?_ | refine Kept_ev ?_ (by assumption) | refine Kept_has ?_ | refine Kept_out ?_ | refine Kept_ctr ?_)
    | dsimp -zeta only
    | split)

theorem kept_execUpdRevert {x0 x1 x2} (h2 : Kept g x2) (hk : 33556480 &&& g.mask = 33556480) : KeptO g (execUpdRevert x0 x1 x2) := by
  unfold execUpdRevert
  repeat' (first
    | with_reducible assumption
    | with_reducible refine fun _ => ?_
    | ((try lift_lets); intro s; refine (have hs : Kept g s := ?_; ?_); subst s; rotate_left; clear_value s; rotate_left)
    | ((try lift_lets); first | (intro (x : Mram); subst x) | (intro (x : Compositor); subst x) | (intro (x : Store 32); subst x) | (intro (x : Store 8); subst x) | (intro (x : State × _); subst x) | (intro (x : _ × State); subst x) | (intro (x : _ × _ × State); subst x) | (intro (x : State → _); subst x) | (intro (x : _ → State → _); subst x) | (intro (x : _ → State); subst x) | (intro x; clear_value x))
    | (simp only [↓Kept_mk_iff]; refine And.intro ?_ (And.intro ?_ (And.intro ?_ (And.intro ?_ (And.intro ?_ (And.intro ?_ (And.intro ?_ (And.intro ?_ (And.intro ?_ ?_)))))))))
    | with_reducible (first | apply kept_permitKeyed | apply kept_abortDue | apply kept_raiseInt | apply kept_updShow | apply kept_raise | apply Kept_ite | apply KeptO_ite | apply KeptO_next | apply filter_wf | apply evOk_filter)
    | with_reducible (first | exact Kept_regs (by assumption) (by assumption) | exact Kept_ram (by assumption) (by assumption) | exact Kept_mram (by assumption) (by assumption) | exact Kept_flt (by assumption) (by assumption) | exact Kept_var (by assumption) | exact Kept_ev (by assumption) (by assumption) | exact Kept_has (by assumption) | exact Kept_out (by assumption) | exact Kept_ctr (by assumption) | exact watchE_none (by assumption))
    | with_reducible refine Only_mk ?_ (.inr rfl) (.inr rfl) (.inr rfl) (.inr rfl) (.inr rfl) (.inr rfl) (.inr rfl) (.inr rfl) (.inr rfl) (.inr rfl) (.inr rfl) (.inr rfl) (.inr rfl) (.inr rfl) (.inr rfl) (.inr rfl) (.inr rfl) (.inr rfl) (.inr rfl) (.inr rfl) (.inr rfl) (.inr rfl) (.inl (mask_bit hk rfl)) (.inr rfl) (.inr rfl) (.inr rfl) (.inr rfl) (.inr rfl) (.inr rfl) (.inr rfl)
    | (first | exact mask_sub hk rfl | exact hk)
    | with_reducible (first | refine Kept_snd (by assumption) ?_ | refine Kept_fst (by assumption) ?_)
    | with_reducible exact Kept_of_next (by assumption)
    | with_reducible (refine Kept_of_O (by assumption) ?_)
    | with_reducible (first | refine Kept_regs (g := g) ?_ (by assumption) | refine Kept_ram (g := g) ?_ (by assumption) | refine Kept_mram (g := g) ?_ (by assumption) | refine Kept_flt (g := g) ?_ (by assumption) | refine Kept_var ?_ | refine Kept_ev ?_ (by assumption) | refine Kept_has ?_ | refine Kept_out ?_ | refine Kept_ctr ?_)
    | dsimp -zeta only
    | split)

theorem kept_execKeyRevoke {x0 x1 x2} (h2 : Kept g x2) (hk : 64 &&& g.mask = 64) : KeptO g (execKeyRevoke x0 x1 x2) := by
  unfold execKeyRevoke
  repeat' (first | with_reducible assumption | exact mask_sub hk rfl | with_reducible (first | apply kept_permitKeyed | apply kept_raise | apply kept_setRegM | apply KeptO_ite | apply KeptO_next | apply Kept_ite) | split | intro _)

theorem kept_execUpdData {x0 x1 x2} (h2 : Kept g x2) (hk : 33554432 &&& g.mask = 33554432) : KeptO g (execUpdData x0 x1 x2) := by
  unfold execUpdData
  repeat' (first
    | with_reducible assumption
    | with_reducible refine fun _ => ?_
    | ((try lift_lets); intro s; refine (have hs : Kept g s := ?_; ?_); subst s; rotate_left; clear_value s; rotate_left)
    | ((try lift_lets); first | (intro (x : Mram); subst x) | (intro (x : Compositor); subst x) | (intro (x : Store 32); subst x) | (intro (x : Store 8); subst x) | (intro (x : State × _); subst x) | (intro (x : _ × State); subst x) | (intro (x : _ × _ × State); subst x) | (intro (x : State → _); subst x) | (intro (x : _ → State → _); subst x) | (intro (x : _ → State); subst x) | (intro x; clear_value x))
    | (simp only [↓Kept_mk_iff]; refine And.intro ?_ (And.intro ?_ (And.intro ?_ (And.intro ?_ (And.intro ?_ (And.intro ?_ (And.intro ?_ (And.intro ?_ (And.intro ?_ ?_)))))))))
    | with_reducible (first | apply kept_permit | apply kept_updShow | apply kept_setReg | apply kept_raise | apply Kept_ite | apply KeptO_ite | apply KeptO_next)
    | with_reducible (first | exact Kept_regs (by assumption) (by assumption) | exact Kept_ram (by assumption) (by assumption) | exact Kept_mram (by assumption) (by assumption) | exact Kept_flt (by assumption) (by assumption) | exact Kept_var (by assumption) | exact Kept_ev (by assumption) (by assumption) | exact Kept_has (by assumption) | exact Kept_out (by assumption) | exact Kept_ctr (by assumption) | exact watchE_none (by assumption))
    | with_reducible refine Only_mk ?_ (.inr rfl) (.inr rfl) (.inr rfl) (.inr rfl) (.inr rfl) (.inr rfl) (.inr rfl) (.inr rfl) (.inr rfl) (.inr rfl) (.inr rfl) (.inr rfl) (.inr rfl) (.inr rfl) (.inr rfl) (.inr rfl) (.inr rfl) (.inr rfl) (.inr rfl) (.inr rfl) (.inr rfl) (.inr rfl) (.inl (mask_bit hk rfl)) (.inr rfl) (.inr rfl) (.inr rfl) (.inr rfl) (.inr rfl) (.inr rfl) (.inr rfl)
    | (first | exact mask_sub hk rfl | exact hk)
    | with_reducible (first | refine Kept_snd (by assumption) ?_ | refine Kept_fst (by assumption) ?_)
    | with_reducible exact Kept_of_next (by assumption)
    | with_reducible (refine Kept_of_O (by assumption) ?_)
    | with_reducible (first | refine Kept_regs (g := g) ?_ (by assumption) | refine Kept_ram (g := g) ?_ (by assumption) | refine Kept_mram (g := g) ?_ (by assumption) | refine Kept_flt (g := g) ?_ (by assumption) | refine Kept_var ?_ | refine Kept_ev ?_ (by assumption) | refine Kept_has ?_ | refine Kept_out ?_ | refine Kept_ctr ?_)
    | dsimp -zeta only
    | split)

end Sys2Proof.Machine
end

