-- ==== Sys2Proof/Laws/Kept5.lean ====
section
/-! SUPPORT. What operations and meanings keep (Laws/Kept.lean), part 5 of 8. -/

set_option linter.all false
set_option Elab.async false

namespace Sys2Proof.Machine

variable {g : Watch}

theorem kept_writeUpd {x0 x1 x2 x3} (h0 : Kept g x0) (hk : 33556544 &&& g.mask = 33556544) : Kept g (State.writeUpd x0 x1 x2 x3) := by
  unfold State.writeUpd
  repeat' (first | with_reducible assumption | exact mask_sub hk rfl | with_reducible (first | apply kept_act | apply kept_execUpdBegin | apply kept_execUpdAbort | apply kept_execUpdArm | apply kept_execUpdRevert | apply kept_execKeyRevoke | apply kept_execUpdData | apply kept_putRw | apply Kept_ite) | split | intro _)

theorem kept_execEnumStart {x0 x1} (h1 : Kept g x1) (hk : 4194304 &&& g.mask = 4194304) : KeptO g (execEnumStart x0 x1) := by
  unfold execEnumStart
  repeat' (first | with_reducible assumption | exact mask_sub hk rfl | with_reducible (first | apply kept_permit | apply kept_enumBegin | apply kept_setF | apply KeptO_ite | apply KeptO_next | apply Kept_ite) | split | intro _)

theorem kept_execRejoinPos {x0 x1 x2} (h2 : Kept g x2) (hk : 4194304 &&& g.mask = 4194304) : KeptO g (execRejoinPos x0 x1 x2) := by
  unfold execRejoinPos
  repeat' (first | with_reducible assumption | exact mask_sub hk rfl | with_reducible (first | apply kept_permit | apply kept_setF | apply kept_rejoinOut | apply KeptO_ite | apply KeptO_next | apply Kept_ite) | split | intro _)

theorem kept_nregStart {x0 x1 x2 x3 x4} (h0 : Kept g x0) : Kept g (State.nregStart x0 x1 x2 x3 x4) := by
  unfold State.nregStart
  repeat' (first | with_reducible assumption | with_reducible (first | apply kept_setF | apply kept_setReg | apply kept_raise | apply kept_nodeWrites | apply kept_nodeReads | apply Kept_ite) | split | intro _)

theorem kept_writeChn {x0 x1 x2 x3} (h0 : Kept g x0) (hk : 4194304 &&& g.mask = 4194304) : Kept g (State.writeChn x0 x1 x2 x3) := by
  unfold State.writeChn
  repeat' (first
    | with_reducible assumption
    | with_reducible refine fun _ => ?_
    | ((try lift_lets); intro s; refine (have hs : Kept g s := ?_; ?_); subst s; rotate_left; clear_value s; rotate_left)
    | ((try lift_lets); first | (intro (x : Mram); subst x) | (intro (x : Compositor); subst x) | (intro (x : Store 32); subst x) | (intro (x : Store 8); subst x) | (intro (x : State × _); subst x) | (intro (x : _ × State); subst x) | (intro (x : _ × _ × State); subst x) | (intro (x : State → _); subst x) | (intro (x : _ → State → _); subst x) | (intro (x : _ → State); subst x) | (intro x; clear_value x))
    | (simp only [↓Kept_mk_iff]; refine And.intro ?_ (And.intro ?_ (And.intro ?_ (And.intro ?_ (And.intro ?_ (And.intro ?_ (And.intro ?_ (And.intro ?_ (And.intro ?_ ?_)))))))))
    | with_reducible (first | apply kept_putRw | apply kept_dlyStart | apply kept_act | apply kept_execEnumStart | apply kept_execRejoinPos | apply kept_nregStart | apply Kept_ite)
    | with_reducible (first | exact Kept_regs (by assumption) (by assumption) | exact Kept_ram (by assumption) (by assumption) | exact Kept_mram (by assumption) (by assumption) | exact Kept_flt (by assumption) (by assumption) | exact Kept_var (by assumption) | exact Kept_ev (by assumption) (by assumption) | exact Kept_has (by assumption) | exact Kept_out (by assumption) | exact Kept_ctr (by assumption) | exact watchE_none (by assumption))
    | with_reducible refine Only_mk ?_ (.inr rfl) (.inr rfl) (.inr rfl) (.inr rfl) (.inr rfl) (.inr rfl) (.inr rfl) (.inr rfl) (.inr rfl) (.inr rfl) (.inr rfl) (.inr rfl) (.inr rfl) (.inr rfl) (.inr rfl) (.inr rfl) (.inr rfl) (.inr rfl) (.inr rfl) (.inl (mask_bit hk rfl)) (.inr rfl) (.inr rfl) (.inr rfl) (.inr rfl) (.inr rfl) (.inr rfl) (.inr rfl) (.inr rfl) (.inr rfl) (.inr rfl)
    | (first | exact mask_sub hk rfl | exact hk)
    | with_reducible (first | refine Kept_snd (by assumption) ?_ | refine Kept_fst (by assumption) ?_)
    | with_reducible exact Kept_of_next (by assumption)
    | with_reducible (refine Kept_of_O (by assumption) ?_)
    | with_reducible (first | refine Kept_regs (g := g) ?_ (by assumption) | refine Kept_ram (g := g) ?_ (by assumption) | refine Kept_mram (g := g) ?_ (by assumption) | refine Kept_flt (g := g) ?_ (by assumption) | refine Kept_var ?_ | refine Kept_ev ?_ (by assumption) | refine Kept_has ?_ | refine Kept_out ?_ | refine Kept_ctr ?_)
    | dsimp -zeta only
    | split)

theorem kept_execOwtNow {x0 x1} (h1 : Kept g x1) (hk : 2097152 &&& g.mask = 2097152) : KeptO g (execOwtNow x0 x1) := by
  unfold execOwtNow
  repeat' (first | with_reducible assumption | exact mask_sub hk rfl | with_reducible (first | apply kept_permit | apply kept_wantOwt | apply kept_setF | apply KeptO_ite | apply KeptO_next | apply Kept_ite) | split | intro _)

theorem kept_planCommit {x0} (h0 : Kept g x0) (hk : 2097152 &&& g.mask = 2097152) : Kept g (State.planCommit x0) := by
  unfold State.planCommit
  repeat' (first
    | with_reducible assumption
    | with_reducible refine fun _ => ?_
    | ((try lift_lets); intro s; refine (have hs : Kept g s := ?_; ?_); subst s; rotate_left; clear_value s; rotate_left)
    | ((try lift_lets); first | (intro (x : Mram); subst x) | (intro (x : Compositor); subst x) | (intro (x : Store 32); subst x) | (intro (x : Store 8); subst x) | (intro (x : State × _); subst x) | (intro (x : _ × State); subst x) | (intro (x : _ × _ × State); subst x) | (intro (x : State → _); subst x) | (intro (x : _ → State → _); subst x) | (intro (x : _ → State); subst x) | (intro x; clear_value x))
    | (simp only [↓Kept_mk_iff]; refine And.intro ?_ (And.intro ?_ (And.intro ?_ (And.intro ?_ (And.intro ?_ (And.intro ?_ (And.intro ?_ (And.intro ?_ (And.intro ?_ ?_)))))))))
    | with_reducible (first | apply kept_arrive | apply Kept_ite)
    | with_reducible (first | exact Kept_regs (by assumption) (by assumption) | exact Kept_ram (by assumption) (by assumption) | exact Kept_mram (by assumption) (by assumption) | exact Kept_flt (by assumption) (by assumption) | exact Kept_var (by assumption) | exact Kept_ev (by assumption) (by assumption) | exact Kept_has (by assumption) | exact Kept_out (by assumption) | exact Kept_ctr (by assumption) | exact watchE_none (by assumption))
    | with_reducible refine Only_mk ?_ (.inr rfl) (.inr rfl) (.inr rfl) (.inr rfl) (.inr rfl) (.inr rfl) (.inr rfl) (.inr rfl) (.inr rfl) (.inr rfl) (.inr rfl) (.inr rfl) (.inr rfl) (.inr rfl) (.inr rfl) (.inr rfl) (.inr rfl) (.inr rfl) (.inl (mask_bit hk rfl)) (.inr rfl) (.inr rfl) (.inr rfl) (.inr rfl) (.inr rfl) (.inr rfl) (.inr rfl) (.inr rfl) (.inr rfl) (.inr rfl) (.inr rfl)
    | (first | exact mask_sub hk rfl | exact hk)
    | with_reducible (first | refine Kept_snd (by assumption) ?_ | refine Kept_fst (by assumption) ?_)
    | with_reducible exact Kept_of_next (by assumption)
    | with_reducible (refine Kept_of_O (by assumption) ?_)
    | with_reducible (first | refine Kept_regs (g := g) ?_ (by assumption) | refine Kept_ram (g := g) ?_ (by assumption) | refine Kept_mram (g := g) ?_ (by assumption) | refine Kept_flt (g := g) ?_ (by assumption) | refine Kept_var ?_ | refine Kept_ev ?_ (by assumption) | refine Kept_has ?_ | refine Kept_out ?_ | refine Kept_ctr ?_)
    | dsimp -zeta only
    | split)

theorem kept_execPlanClear {x0 x1} (h1 : Kept g x1) (hk : 2097152 &&& g.mask = 2097152) : KeptO g (execPlanClear x0 x1) := by
  unfold execPlanClear
  repeat' (first
    | with_reducible assumption
    | with_reducible refine fun _ => ?_
    | ((try lift_lets); intro s; refine (have hs : Kept g s := ?_; ?_); subst s; rotate_left; clear_value s; rotate_left)
    | ((try lift_lets); first | (intro (x : Mram); subst x) | (intro (x : Compositor); subst x) | (intro (x : Store 32); subst x) | (intro (x : Store 8); subst x) | (intro (x : State × _); subst x) | (intro (x : _ × State); subst x) | (intro (x : _ × _ × State); subst x) | (intro (x : State → _); subst x) | (intro (x : _ → State → _); subst x) | (intro (x : _ → State); subst x) | (intro x; clear_value x))
    | (simp only [↓Kept_mk_iff]; refine And.intro ?_ (And.intro ?_ (And.intro ?_ (And.intro ?_ (And.intro ?_ (And.intro ?_ (And.intro ?_ (And.intro ?_ (And.intro ?_ ?_)))))))))
    | with_reducible (first | apply kept_permit | apply kept_planCommit | apply Kept_ite | apply KeptO_ite | apply KeptO_next)
    | with_reducible (first | exact Kept_regs (by assumption) (by assumption) | exact Kept_ram (by assumption) (by assumption) | exact Kept_mram (by assumption) (by assumption) | exact Kept_flt (by assumption) (by assumption) | exact Kept_var (by assumption) | exact Kept_ev (by assumption) (by assumption) | exact Kept_has (by assumption) | exact Kept_out (by assumption) | exact Kept_ctr (by assumption) | exact watchE_none (by assumption))
    | with_reducible refine Only_mk ?_ (.inr rfl) (.inr rfl) (.inr rfl) (.inr rfl) (.inr rfl) (.inr rfl) (.inr rfl) (.inr rfl) (.inr rfl) (.inr rfl) (.inr rfl) (.inr rfl) (.inr rfl) (.inr rfl) (.inr rfl) (.inr rfl) (.inr rfl) (.inr rfl) (.inl (mask_bit hk rfl)) (.inr rfl) (.inr rfl) (.inr rfl) (.inr rfl) (.inr rfl) (.inr rfl) (.inr rfl) (.inr rfl) (.inr rfl) (.inr rfl) (.inr rfl)
    | (first | exact mask_sub hk rfl | exact hk)
    | with_reducible (first | refine Kept_snd (by assumption) ?_ | refine Kept_fst (by assumption) ?_)
    | with_reducible exact Kept_of_next (by assumption)
    | with_reducible (refine Kept_of_O (by assumption) ?_)
    | with_reducible (first | refine Kept_regs (g := g) ?_ (by assumption) | refine Kept_ram (g := g) ?_ (by assumption) | refine Kept_mram (g := g) ?_ (by assumption) | refine Kept_flt (g := g) ?_ (by assumption) | refine Kept_var ?_ | refine Kept_ev ?_ (by assumption) | refine Kept_has ?_ | refine Kept_out ?_ | refine Kept_ctr ?_)
    | dsimp -zeta only
    | split)

theorem kept_execPlanCommit {x0 x1} (h1 : Kept g x1) (hk : 2097152 &&& g.mask = 2097152) : KeptO g (execPlanCommit x0 x1) := by
  unfold execPlanCommit
  repeat' (first | with_reducible assumption | exact mask_sub hk rfl | with_reducible (first | apply kept_permit | apply kept_planCommit | apply KeptO_ite | apply KeptO_next | apply Kept_ite) | split | intro _)

theorem kept_execSuspectClr {x0 x1 x2} (h2 : Kept g x2) (hk : 6291456 &&& g.mask = 6291456) : KeptO g (execSuspectClr x0 x1 x2) := by
  unfold execSuspectClr
  repeat' (first | with_reducible assumption | exact mask_sub hk rfl | with_reducible (first | apply kept_permitKeyed | apply kept_raise | apply kept_clearDenied | apply kept_wantOwt | apply kept_posMod | apply KeptO_ite | apply KeptO_next | apply Kept_ite) | split | intro _)

theorem kept_execImdStart {x0 x1} (h1 : Kept g x1) (hk : 524288 &&& g.mask = 524288) : KeptO g (execImdStart x0 x1) := by
  unfold execImdStart
  repeat' (first
    | with_reducible assumption
    | with_reducible refine fun _ => ?_
    | ((try lift_lets); intro s; refine (have hs : Kept g s := ?_; ?_); subst s; rotate_left; clear_value s; rotate_left)
    | ((try lift_lets); first | (intro (x : Mram); subst x) | (intro (x : Compositor); subst x) | (intro (x : Store 32); subst x) | (intro (x : Store 8); subst x) | (intro (x : State × _); subst x) | (intro (x : _ × State); subst x) | (intro (x : _ × _ × State); subst x) | (intro (x : State → _); subst x) | (intro (x : _ → State → _); subst x) | (intro (x : _ → State); subst x) | (intro x; clear_value x))
    | (simp only [↓Kept_mk_iff]; refine And.intro ?_ (And.intro ?_ (And.intro ?_ (And.intro ?_ (And.intro ?_ (And.intro ?_ (And.intro ?_ (And.intro ?_ (And.intro ?_ ?_)))))))))
    | with_reducible (first | apply kept_permit | apply Kept_ite | apply KeptO_ite | apply KeptO_next)
    | with_reducible (first | exact Kept_regs (by assumption) (by assumption) | exact Kept_ram (by assumption) (by assumption) | exact Kept_mram (by assumption) (by assumption) | exact Kept_flt (by assumption) (by assumption) | exact Kept_var (by assumption) | exact Kept_ev (by assumption) (by assumption) | exact Kept_has (by assumption) | exact Kept_out (by assumption) | exact Kept_ctr (by assumption) | exact watchE_none (by assumption))
    | with_reducible refine Only_mk ?_ (.inr rfl) (.inr rfl) (.inr rfl) (.inr rfl) (.inr rfl) (.inr rfl) (.inr rfl) (.inr rfl) (.inr rfl) (.inr rfl) (.inr rfl) (.inr rfl) (.inr rfl) (.inr rfl) (.inr rfl) (.inr rfl) (.inl (mask_bit hk rfl)) (.inr rfl) (.inr rfl) (.inr rfl) (.inr rfl) (.inr rfl) (.inr rfl) (.inr rfl) (.inr rfl) (.inr rfl) (.inr rfl) (.inr rfl) (.inr rfl) (.inr rfl)
    | (first | exact mask_sub hk rfl | exact hk)
    | with_reducible (first | refine Kept_snd (by assumption) ?_ | refine Kept_fst (by assumption) ?_)
    | with_reducible exact Kept_of_next (by assumption)
    | with_reducible (refine Kept_of_O (by assumption) ?_)
    | with_reducible (first | refine Kept_regs (g := g) ?_ (by assumption) | refine Kept_ram (g := g) ?_ (by assumption) | refine Kept_mram (g := g) ?_ (by assumption) | refine Kept_flt (g := g) ?_ (by assumption) | refine Kept_var ?_ | refine Kept_ev ?_ (by assumption) | refine Kept_has ?_ | refine Kept_out ?_ | refine Kept_ctr ?_)
    | dsimp -zeta only
    | split)

theorem kept_execChgClr {x0 x1 x2} (h2 : Kept g x2) : KeptO g (execChgClr x0 x1 x2) := by
  unfold execChgClr
  repeat' (first | with_reducible assumption | with_reducible (first | apply kept_permitKeyed | apply kept_setReg | apply kept_set64 | apply KeptO_ite | apply KeptO_next | apply Kept_ite) | split | intro _)

theorem kept_execAnchorReq {x0 x1} (h1 : Kept g x1) : KeptO g (execAnchorReq x0 x1) := by
  unfold execAnchorReq
  repeat' (first | with_reducible assumption | with_reducible (first | apply kept_permit | apply kept_raiseInt | apply KeptO_ite | apply KeptO_next | apply Kept_ite) | split | intro _)

theorem kept_execAnchorCancel {x0 x1} (h1 : Kept g x1) : KeptO g (execAnchorCancel x0 x1) := by
  unfold execAnchorCancel
  repeat' (first | with_reducible assumption | with_reducible (first | apply kept_permit | apply kept_raiseInt | apply KeptO_ite | apply KeptO_next | apply Kept_ite) | split | intro _)

theorem kept_execCapSet {x0 x1 x2} (h2 : Kept g x2) (hk : 1048576 &&& g.mask = 1048576) : KeptO g (execCapSet x0 x1 x2) := by
  unfold execCapSet
  repeat' (first
    | with_reducible assumption
    | with_reducible refine fun _ => ?_
    | ((try lift_lets); intro s; refine (have hs : Kept g s := ?_; ?_); subst s; rotate_left; clear_value s; rotate_left)
    | ((try lift_lets); first | (intro (x : Mram); subst x) | (intro (x : Compositor); subst x) | (intro (x : Store 32); subst x) | (intro (x : Store 8); subst x) | (intro (x : State × _); subst x) | (intro (x : _ × State); subst x) | (intro (x : _ × _ × State); subst x) | (intro (x : State → _); subst x) | (intro (x : _ → State → _); subst x) | (intro (x : _ → State); subst x) | (intro x; clear_value x))
    | (simp only [↓Kept_mk_iff]; refine And.intro ?_ (And.intro ?_ (And.intro ?_ (And.intro ?_ (And.intro ?_ (And.intro ?_ (And.intro ?_ (And.intro ?_ (And.intro ?_ ?_)))))))))
    | with_reducible (first | apply kept_permitKeyed | apply kept_raiseInt | apply Kept_ite | apply KeptO_ite | apply KeptO_next)
    | with_reducible (first | exact Kept_regs (by assumption) (by assumption) | exact Kept_ram (by assumption) (by assumption) | exact Kept_mram (by assumption) (by assumption) | exact Kept_flt (by assumption) (by assumption) | exact Kept_var (by assumption) | exact Kept_ev (by assumption) (by assumption) | exact Kept_has (by assumption) | exact Kept_out (by assumption) | exact Kept_ctr (by assumption) | exact watchE_none (by assumption))
    | with_reducible refine Only_mk ?_ (.inr rfl) (.inr rfl) (.inr rfl) (.inr rfl) (.inr rfl) (.inr rfl) (.inr rfl) (.inr rfl) (.inr rfl) (.inr rfl) (.inr rfl) (.inr rfl) (.inr rfl) (.inr rfl) (.inr rfl) (.inr rfl) (.inr rfl) (.inl (mask_bit hk rfl)) (.inr rfl) (.inr rfl) (.inr rfl) (.inr rfl) (.inr rfl) (.inr rfl) (.inr rfl) (.inr rfl) (.inr rfl) (.inr rfl) (.inr rfl) (.inr rfl)
    | (first | exact mask_sub hk rfl | exact hk)
    | with_reducible (first | refine Kept_snd (by assumption) ?_ | refine Kept_fst (by assumption) ?_)
    | with_reducible exact Kept_of_next (by assumption)
    | with_reducible (refine Kept_of_O (by assumption) ?_)
    | with_reducible (first | refine Kept_regs (g := g) ?_ (by assumption) | refine Kept_ram (g := g) ?_ (by assumption) | refine Kept_mram (g := g) ?_ (by assumption) | refine Kept_flt (g := g) ?_ (by assumption) | refine Kept_var ?_ | refine Kept_ev ?_ (by assumption) | refine Kept_has ?_ | refine Kept_out ?_ | refine Kept_ctr ?_)
    | dsimp -zeta only
    | split)

theorem kept_execCellViewWrite {x0 x1 x2} (h2 : Kept g x2) (hk : 1048576 &&& g.mask = 1048576) : KeptO g (execCellViewWrite x0 x1 x2) := by
  unfold execCellViewWrite
  repeat' (first
    | with_reducible assumption
    | with_reducible refine fun _ => ?_
    | ((try lift_lets); intro s; refine (have hs : Kept g s := ?_; ?_); subst s; rotate_left; clear_value s; rotate_left)
    | ((try lift_lets); first | (intro (x : Mram); subst x) | (intro (x : Compositor); subst x) | (intro (x : Store 32); subst x) | (intro (x : Store 8); subst x) | (intro (x : State × _); subst x) | (intro (x : _ × State); subst x) | (intro (x : _ × _ × State); subst x) | (intro (x : State → _); subst x) | (intro (x : _ → State → _); subst x) | (intro (x : _ → State); subst x) | (intro x; clear_value x))
    | (simp only [↓Kept_mk_iff]; refine And.intro ?_ (And.intro ?_ (And.intro ?_ (And.intro ?_ (And.intro ?_ (And.intro ?_ (And.intro ?_ (And.intro ?_ (And.intro ?_ ?_)))))))))
    | with_reducible (first | apply kept_permit | apply kept_setReg | apply kept_raiseInt | apply Kept_ite | apply KeptO_ite | apply KeptO_next)
    | with_reducible (first | exact Kept_regs (by assumption) (by assumption) | exact Kept_ram (by assumption) (by assumption) | exact Kept_mram (by assumption) (by assumption) | exact Kept_flt (by assumption) (by assumption) | exact Kept_var (by assumption) | exact Kept_ev (by assumption) (by assumption) | exact Kept_has (by assumption) | exact Kept_out (by assumption) | exact Kept_ctr (by assumption) | exact watchE_none (by assumption))
    | with_reducible refine Only_mk ?_ (.inr rfl) (.inr rfl) (.inr rfl) (.inr rfl) (.inr rfl) (.inr rfl) (.inr rfl) (.inr rfl) (.inr rfl) (.inr rfl) (.inr rfl) (.inr rfl) (.inr rfl) (.inr rfl) (.inr rfl) (.inr rfl) (.inr rfl) (.inl (mask_bit hk rfl)) (.inr rfl) (.inr rfl) (.inr rfl) (.inr rfl) (.inr rfl) (.inr rfl) (.inr rfl) (.inr rfl) (.inr rfl) (.inr rfl) (.inr rfl) (.inr rfl)
    | (first | exact mask_sub hk rfl | exact hk)
    | with_reducible (first | refine Kept_snd (by assumption) ?_ | refine Kept_fst (by assumption) ?_)
    | with_reducible exact Kept_of_next (by assumption)
    | with_reducible (refine Kept_of_O (by assumption) ?_)
    | with_reducible (first | refine Kept_regs (g := g) ?_ (by assumption) | refine Kept_ram (g := g) ?_ (by assumption) | refine Kept_mram (g := g) ?_ (by assumption) | refine Kept_flt (g := g) ?_ (by assumption) | refine Kept_var ?_ | refine Kept_ev ?_ (by assumption) | refine Kept_has ?_ | refine Kept_out ?_ | refine Kept_ctr ?_)
    | dsimp -zeta only
    | split)

theorem kept_writeCells {x0 x1 x2 x3} (h0 : Kept g x0) (hk : 7864320 &&& g.mask = 7864320) : Kept g (State.writeCells x0 x1 x2 x3) := by
  unfold State.writeCells
  repeat' (first
    | with_reducible assumption
    | with_reducible refine fun _ => ?_
    | ((try lift_lets); intro s; refine (have hs : Kept g s := ?_; ?_); subst s; rotate_left; clear_value s; rotate_left)
    | ((try lift_lets); first | (intro (x : Mram); subst x) | (intro (x : Compositor); subst x) | (intro (x : Store 32); subst x) | (intro (x : Store 8); subst x) | (intro (x : State × _); subst x) | (intro (x : _ × State); subst x) | (intro (x : _ × _ × State); subst x) | (intro (x : State → _); subst x) | (intro (x : _ → State → _); subst x) | (intro (x : _ → State); subst x) | (intro x; clear_value x))
    | (simp only [↓Kept_mk_iff]; refine And.intro ?_ (And.intro ?_ (And.intro ?_ (And.intro ?_ (And.intro ?_ (And.intro ?_ (And.intro ?_ (And.intro ?_ (And.intro ?_ ?_)))))))))
    | with_reducible (first | apply kept_act | apply kept_putRw | apply kept_execOwtNow | apply kept_execPlanClear | apply kept_execPlanCommit | apply kept_execSuspectClr | apply kept_execImdStart | apply kept_execChgClr | apply kept_execAnchorReq | apply kept_execAnchorCancel | apply kept_execCapSet | apply kept_execCellViewWrite | apply Kept_ite)
    | with_reducible (first | exact Kept_regs (by assumption) (by assumption) | exact Kept_ram (by assumption) (by assumption) | exact Kept_mram (by assumption) (by assumption) | exact Kept_flt (by assumption) (by assumption) | exact Kept_var (by assumption) | exact Kept_ev (by assumption) (by assumption) | exact Kept_has (by assumption) | exact Kept_out (by assumption) | exact Kept_ctr (by assumption) | exact watchE_none (by assumption))
    | with_reducible refine Only_mk ?_ (.inr rfl) (.inr rfl) (.inr rfl) (.inr rfl) (.inr rfl) (.inr rfl) (.inr rfl) (.inr rfl) (.inr rfl) (.inr rfl) (.inr rfl) (.inr rfl) (.inr rfl) (.inr rfl) (.inr rfl) (.inr rfl) (.inr rfl) (.inr rfl) (.inl (mask_bit hk rfl)) (.inr rfl) (.inr rfl) (.inr rfl) (.inr rfl) (.inr rfl) (.inr rfl) (.inr rfl) (.inr rfl) (.inr rfl) (.inr rfl) (.inr rfl)
    | (first | exact mask_sub hk rfl | exact hk)
    | with_reducible (first | refine Kept_snd (by assumption) ?_ | refine Kept_fst (by assumption) ?_)
    | with_reducible exact Kept_of_next (by assumption)
    | with_reducible (refine Kept_of_O (by assumption) ?_)
    | with_reducible (first | refine Kept_regs (g := g) ?_ (by assumption) | refine Kept_ram (g := g) ?_ (by assumption) | refine Kept_mram (g := g) ?_ (by assumption) | refine Kept_flt (g := g) ?_ (by assumption) | refine Kept_var ?_ | refine Kept_ev ?_ (by assumption) | refine Kept_has ?_ | refine Kept_out ?_ | refine Kept_ctr ?_)
    | dsimp -zeta only
    | split)

theorem kept_execAssayStart {x0 x1} (h1 : Kept g x1) (hk : 741308480 &&& g.mask = 741308480) : KeptO g (execAssayStart x0 x1) := by
  unfold execAssayStart
  repeat' (first | with_reducible assumption | exact mask_sub hk rfl | with_reducible (first | apply kept_permit | apply kept_leaveAssay | apply kept_raise | apply kept_setReg | apply kept_asyBegin | apply KeptO_ite | apply KeptO_next | apply Kept_ite) | split | intro _)

theorem kept_execAssayAbort {x0 x1} (h1 : Kept g x1) (hk : 741308480 &&& g.mask = 741308480) : KeptO g (execAssayAbort x0 x1) := by
  unfold execAssayAbort
  repeat' (first
    | with_reducible assumption
    | with_reducible refine fun _ => ?_
    | ((try lift_lets); intro s; refine (have hs : Kept g s := ?_; ?_); subst s; rotate_left; clear_value s; rotate_left)
    | ((try lift_lets); first | (intro (x : Mram); subst x) | (intro (x : Compositor); subst x) | (intro (x : Store 32); subst x) | (intro (x : Store 8); subst x) | (intro (x : State × _); subst x) | (intro (x : _ × State); subst x) | (intro (x : _ × _ × State); subst x) | (intro (x : State → _); subst x) | (intro (x : _ → State → _); subst x) | (intro (x : _ → State); subst x) | (intro x; clear_value x))
    | (simp only [↓Kept_mk_iff]; refine And.intro ?_ (And.intro ?_ (And.intro ?_ (And.intro ?_ (And.intro ?_ (And.intro ?_ (And.intro ?_ (And.intro ?_ (And.intro ?_ ?_)))))))))
    | with_reducible (first | apply kept_permit | apply kept_leaveAssay | apply kept_asyAbort | apply Kept_ite | apply KeptO_ite | apply KeptO_next)
    | with_reducible (first | exact Kept_regs (by assumption) (by assumption) | exact Kept_ram (by assumption) (by assumption) | exact Kept_mram (by assumption) (by assumption) | exact Kept_flt (by assumption) (by assumption) | exact Kept_var (by assumption) | exact Kept_ev (by assumption) (by assumption) | exact Kept_has (by assumption) | exact Kept_out (by assumption) | exact Kept_ctr (by assumption) | exact watchE_none (by assumption))
    | (first | exact mask_sub hk rfl | exact hk)
    | with_reducible (first | refine Kept_snd (by assumption) ?_ | refine Kept_fst (by assumption) ?_)
    | with_reducible exact Kept_of_next (by assumption)
    | with_reducible (refine Kept_of_O (by assumption) ?_)
    | with_reducible (first | refine Kept_regs (g := g) ?_ (by assumption) | refine Kept_ram (g := g) ?_ (by assumption) | refine Kept_mram (g := g) ?_ (by assumption) | refine Kept_flt (g := g) ?_ (by assumption) | refine Kept_var ?_ | refine Kept_ev ?_ (by assumption) | refine Kept_has ?_ | refine Kept_out ?_ | refine Kept_ctr ?_)
    | dsimp -zeta only
    | split)

theorem kept_putTcal {x0 x1} (h0 : Kept g x0) (hk : 262144 &&& g.mask = 262144) : Kept g (State.putTcal x0 x1) := by
  unfold State.putTcal
  repeat' (first
    | with_reducible assumption
    | with_reducible refine fun _ => ?_
    | ((try lift_lets); intro s; refine (have hs : Kept g s := ?_; ?_); subst s; rotate_left; clear_value s; rotate_left)
    | ((try lift_lets); first | (intro (x : Mram); subst x) | (intro (x : Compositor); subst x) | (intro (x : Store 32); subst x) | (intro (x : Store 8); subst x) | (intro (x : State × _); subst x) | (intro (x : _ × State); subst x) | (intro (x : _ × _ × State); subst x) | (intro (x : State → _); subst x) | (intro (x : _ → State → _); subst x) | (intro (x : _ → State); subst x) | (intro x; clear_value x))
    | (simp only [↓Kept_mk_iff]; refine And.intro ?_ (And.intro ?_ (And.intro ?_ (And.intro ?_ (And.intro ?_ (And.intro ?_ (And.intro ?_ (And.intro ?_ (And.intro ?_ ?_)))))))))
    | with_reducible (first | apply Kept_ite)
    | with_reducible (first | exact Kept_regs (by assumption) (by assumption) | exact Kept_ram (by assumption) (by assumption) | exact Kept_mram (by assumption) (by assumption) | exact Kept_flt (by assumption) (by assumption) | exact Kept_var (by assumption) | exact Kept_ev (by assumption) (by assumption) | exact Kept_has (by assumption) | exact Kept_out (by assumption) | exact Kept_ctr (by assumption) | exact watchE_none (by assumption))
    | with_reducible refine Only_mk ?_ (.inr rfl) (.inr rfl) (.inr rfl) (.inr rfl) (.inr rfl) (.inr rfl) (.inr rfl) (.inr rfl) (.inr rfl) (.inr rfl) (.inr rfl) (.inr rfl) (.inr rfl) (.inr rfl) (.inr rfl) (.inl (mask_bit hk rfl)) (.inr rfl) (.inr rfl) (.inr rfl) (.inr rfl) (.inr rfl) (.inr rfl) (.inr rfl) (.inr rfl) (.inr rfl) (.inr rfl) (.inr rfl) (.inr rfl) (.inr rfl) (.inr rfl)
    | (first | exact mask_sub hk rfl | exact hk)
    | with_reducible (first | refine Kept_snd (by assumption) ?_ | refine Kept_fst (by assumption) ?_)
    | with_reducible exact Kept_of_next (by assumption)
    | with_reducible (refine Kept_of_O (by assumption) ?_)
    | with_reducible (first | refine Kept_regs (g := g) ?_ (by assumption) | refine Kept_ram (g := g) ?_ (by assumption) | refine Kept_mram (g := g) ?_ (by assumption) | refine Kept_flt (g := g) ?_ (by assumption) | refine Kept_var ?_ | refine Kept_ev ?_ (by assumption) | refine Kept_has ?_ | refine Kept_out ?_ | refine Kept_ctr ?_)
    | dsimp -zeta only
    | split)

theorem kept_execTcalClr {x0 x1 x2} (h2 : Kept g x2) (hk : 262144 &&& g.mask = 262144) : KeptO g (execTcalClr x0 x1 x2) := by
  unfold execTcalClr
  repeat' (first
    | with_reducible assumption
    | with_reducible refine fun _ => ?_
    | ((try lift_lets); intro s; refine (have hs : Kept g s := ?_; ?_); subst s; rotate_left; clear_value s; rotate_left)
    | ((try lift_lets); first | (intro (x : Mram); subst x) | (intro (x : Compositor); subst x) | (intro (x : Store 32); subst x) | (intro (x : Store 8); subst x) | (intro (x : State × _); subst x) | (intro (x : _ × State); subst x) | (intro (x : _ × _ × State); subst x) | (intro (x : State → _); subst x) | (intro (x : _ → State → _); subst x) | (intro (x : _ → State); subst x) | (intro x; clear_value x))
    | (simp only [↓Kept_mk_iff]; refine And.intro ?_ (And.intro ?_ (And.intro ?_ (And.intro ?_ (And.intro ?_ (And.intro ?_ (And.intro ?_ (And.intro ?_ (And.intro ?_ ?_)))))))))
    | with_reducible (first | apply kept_permitKeyed | apply kept_putTcal | apply Kept_ite | apply KeptO_ite | apply KeptO_next)
    | with_reducible (first | exact Kept_regs (by assumption) (by assumption) | exact Kept_ram (by assumption) (by assumption) | exact Kept_mram (by assumption) (by assumption) | exact Kept_flt (by assumption) (by assumption) | exact Kept_var (by assumption) | exact Kept_ev (by assumption) (by assumption) | exact Kept_has (by assumption) | exact Kept_out (by assumption) | exact Kept_ctr (by assumption) | exact watchE_none (by assumption))
    | (first | exact mask_sub hk rfl | exact hk)
    | with_reducible (first | refine Kept_snd (by assumption) ?_ | refine Kept_fst (by assumption) ?_)
    | with_reducible exact Kept_of_next (by assumption)
    | with_reducible (refine Kept_of_O (by assumption) ?_)
    | with_reducible (first | refine Kept_regs (g := g) ?_ (by assumption) | refine Kept_ram (g := g) ?_ (by assumption) | refine Kept_mram (g := g) ?_ (by assumption) | refine Kept_flt (g := g) ?_ (by assumption) | refine Kept_var ?_ | refine Kept_ev ?_ (by assumption) | refine Kept_has ?_ | refine Kept_out ?_ | refine Kept_ctr ?_)
    | dsimp -zeta only
    | split)

theorem kept_writeAsy {x0 x1 x2 x3} (h0 : Kept g x0) (hk : 741308480 &&& g.mask = 741308480) : Kept g (State.writeAsy x0 x1 x2 x3) := by
  unfold State.writeAsy
  repeat' (first | with_reducible assumption | exact mask_sub hk rfl | with_reducible (first | apply kept_act | apply kept_putRw | apply kept_execAssayStart | apply kept_execAssayAbort | apply kept_execTcalClr | apply Kept_ite) | split | intro _)

theorem kept_loopCfg {x0 x1 x2} (h0 : Kept g x0) (hk : 8192 &&& g.mask = 8192) : Kept g (State.loopCfg x0 x1 x2) := by
  unfold State.loopCfg
  repeat' (first | with_reducible assumption | exact mask_sub hk rfl | with_reducible (first | apply kept_pwmRefresh | apply kept_thmOutputs | apply kept_putSlot | apply kept_raise | apply kept_cfgErr | apply Kept_ite) | split | intro _)

theorem kept_loopMode {x0 x1} (h0 : Kept g x0) (hk : 8192 &&& g.mask = 8192) : Kept g (State.loopMode x0 x1) := by
  unfold State.loopMode
  repeat' (first | with_reducible assumption | exact mask_sub hk rfl | with_reducible (first | apply kept_putSlot | apply Kept_ite) | split | intro _)

theorem kept_loopSwapOne {x0 x1} (h0 : Kept g x0) (hk : 8192 &&& g.mask = 8192) : Kept g (State.loopSwapOne x0 x1) := by
  unfold State.loopSwapOne
  repeat' (first | with_reducible assumption | exact mask_sub hk rfl | with_reducible (first | apply kept_raise | apply kept_cfgErr | apply kept_putSlot | apply Kept_ite) | split | intro _)

theorem kept_loopResume {x0} (h0 : Kept g x0) (hk : 8192 &&& g.mask = 8192) : Kept g (State.loopResume x0) := by
  unfold State.loopResume
  repeat' (first | with_reducible assumption | exact mask_sub hk rfl | with_reducible (first | apply kept_thmOutputs | apply kept_raise | apply kept_putSlot | apply Kept_ite) | split | intro _)

theorem kept_writeShadow {x0 x1 x2} (h0 : Kept g x0) (hk : 8192 &&& g.mask = 8192) : Kept g (State.writeShadow x0 x1 x2) := by
  unfold State.writeShadow
  repeat' (first
    | with_reducible assumption
    | with_reducible refine fun _ => ?_
    | ((try lift_lets); intro s; refine (have hs : Kept g s := ?_; ?_); subst s; rotate_left; clear_value s; rotate_left)
    | ((try lift_lets); first | (intro (x : Mram); subst x) | (intro (x : Compositor); subst x) | (intro (x : Store 32); subst x) | (intro (x : Store 8); subst x) | (intro (x : State × _); subst x) | (intro (x : _ × State); subst x) | (intro (x : _ × _ × State); subst x) | (intro (x : State → _); subst x) | (intro (x : _ → State → _); subst x) | (intro (x : _ → State); subst x) | (intro x; clear_value x))
    | (simp only [↓Kept_mk_iff]; refine And.intro ?_ (And.intro ?_ (And.intro ?_ (And.intro ?_ (And.intro ?_ (And.intro ?_ (And.intro ?_ (And.intro ?_ (And.intro ?_ ?_)))))))))
    | with_reducible (first | apply kept_raise | apply kept_cfgErr | apply Kept_ite)
    | with_reducible (first | exact Kept_regs (by assumption) (by assumption) | exact Kept_ram (by assumption) (by assumption) | exact Kept_mram (by assumption) (by assumption) | exact Kept_flt (by assumption) (by assumption) | exact Kept_var (by assumption) | exact Kept_ev (by assumption) (by assumption) | exact Kept_has (by assumption) | exact Kept_out (by assumption) | exact Kept_ctr (by assumption) | exact watchE_none (by assumption))
    | with_reducible refine Only_mk ?_ (.inr rfl) (.inr rfl) (.inr rfl) (.inr rfl) (.inr rfl) (.inr rfl) (.inr rfl) (.inr rfl) (.inr rfl) (.inr rfl) (.inl (mask_bit hk rfl)) (.inr rfl) (.inr rfl) (.inr rfl) (.inr rfl) (.inr rfl) (.inr rfl) (.inr rfl) (.inr rfl) (.inr rfl) (.inr rfl) (.inr rfl) (.inr rfl) (.inr rfl) (.inr rfl) (.inr rfl) (.inr rfl) (.inr rfl) (.inr rfl) (.inr rfl)
    | (first | exact mask_sub hk rfl | exact hk)
    | with_reducible (first | refine Kept_snd (by assumption) ?_ | refine Kept_fst (by assumption) ?_)
    | with_reducible exact Kept_of_next (by assumption)
    | with_reducible (refine Kept_of_O (by assumption) ?_)
    | with_reducible (first | refine Kept_regs (g := g) ?_ (by assumption) | refine Kept_ram (g := g) ?_ (by assumption) | refine Kept_mram (g := g) ?_ (by assumption) | refine Kept_flt (g := g) ?_ (by assumption) | refine Kept_var ?_ | refine Kept_ev ?_ (by assumption) | refine Kept_has ?_ | refine Kept_out ?_ | refine Kept_ctr ?_)
    | dsimp -zeta only
    | split)

theorem kept_writeSetpoint {x0 x1 x2} (h0 : Kept g x0) (hk : 8192 &&& g.mask = 8192) : Kept g (State.writeSetpoint x0 x1 x2) := by
  unfold State.writeSetpoint
  repeat' (first
    | with_reducible assumption
    | with_reducible refine fun _ => ?_
    | ((try lift_lets); intro s; refine (have hs : Kept g s := ?_; ?_); subst s; rotate_left; clear_value s; rotate_left)
    | ((try lift_lets); first | (intro (x : Mram); subst x) | (intro (x : Compositor); subst x) | (intro (x : Store 32); subst x) | (intro (x : Store 8); subst x) | (intro (x : State × _); subst x) | (intro (x : _ × State); subst x) | (intro (x : _ × _ × State); subst x) | (intro (x : State → _); subst x) | (intro (x : _ → State → _); subst x) | (intro (x : _ → State); subst x) | (intro x; clear_value x))
    | (simp only [↓Kept_mk_iff]; refine And.intro ?_ (And.intro ?_ (And.intro ?_ (And.intro ?_ (And.intro ?_ (And.intro ?_ (And.intro ?_ (And.intro ?_ (And.intro ?_ ?_)))))))))
    | with_reducible (first | apply kept_clampNote | apply Kept_ite)
    | with_reducible (first | exact Kept_regs (by assumption) (by assumption) | exact Kept_ram (by assumption) (by assumption) | exact Kept_mram (by assumption) (by assumption) | exact Kept_flt (by assumption) (by assumption) | exact Kept_var (by assumption) | exact Kept_ev (by assumption) (by assumption) | exact Kept_has (by assumption) | exact Kept_out (by assumption) | exact Kept_ctr (by assumption) | exact watchE_none (by assumption))
    | with_reducible refine Only_mk ?_ (.inr rfl) (.inr rfl) (.inr rfl) (.inr rfl) (.inr rfl) (.inr rfl) (.inr rfl) (.inr rfl) (.inr rfl) (.inr rfl) (.inl (mask_bit hk rfl)) (.inr rfl) (.inr rfl) (.inr rfl) (.inr rfl) (.inr rfl) (.inr rfl) (.inr rfl) (.inr rfl) (.inr rfl) (.inr rfl) (.inr rfl) (.inr rfl) (.inr rfl) (.inr rfl) (.inr rfl) (.inr rfl) (.inr rfl) (.inr rfl) (.inr rfl)
    | (first | exact mask_sub hk rfl | exact hk)
    | with_reducible (first | refine Kept_snd (by assumption) ?_ | refine Kept_fst (by assumption) ?_)
    | with_reducible exact Kept_of_next (by assumption)
    | with_reducible (refine Kept_of_O (by assumption) ?_)
    | with_reducible (first | refine Kept_regs (g := g) ?_ (by assumption) | refine Kept_ram (g := g) ?_ (by assumption) | refine Kept_mram (g := g) ?_ (by assumption) | refine Kept_flt (g := g) ?_ (by assumption) | refine Kept_var ?_ | refine Kept_ev ?_ (by assumption) | refine Kept_has ?_ | refine Kept_out ?_ | refine Kept_ctr ?_)
    | dsimp -zeta only
    | split)

theorem kept_writeLoop {x0 x1 x2} (h0 : Kept g x0) (hk : 8192 &&& g.mask = 8192) : Kept g (State.writeLoop x0 x1 x2) := by
  unfold State.writeLoop
  repeat' (first
    | with_reducible assumption
    | with_reducible refine fun _ => ?_
    | ((try lift_lets); intro s; refine (have hs : Kept g s := ?_; ?_); subst s; rotate_left; clear_value s; rotate_left)
    | ((try lift_lets); first | (intro (x : Mram); subst x) | (intro (x : Compositor); subst x) | (intro (x : Store 32); subst x) | (intro (x : Store 8); subst x) | (intro (x : State × _); subst x) | (intro (x : _ × State); subst x) | (intro (x : _ × _ × State); subst x) | (intro (x : State → _); subst x) | (intro (x : _ → State → _); subst x) | (intro (x : _ → State); subst x) | (intro x; clear_value x))
    | (simp only [↓Kept_mk_iff]; refine And.intro ?_ (And.intro ?_ (And.intro ?_ (And.intro ?_ (And.intro ?_ (And.intro ?_ (And.intro ?_ (And.intro ?_ (And.intro ?_ ?_)))))))))
    | with_reducible (first | apply kept_loopCfg | apply kept_loopMode | apply kept_loopSwapOne | apply kept_loopResume | apply kept_writeShadow | apply kept_writeSetpoint | apply kept_putRw | apply Kept_ite | apply Kept_foldl)
    | with_reducible (first | exact Kept_regs (by assumption) (by assumption) | exact Kept_ram (by assumption) (by assumption) | exact Kept_mram (by assumption) (by assumption) | exact Kept_flt (by assumption) (by assumption) | exact Kept_var (by assumption) | exact Kept_ev (by assumption) (by assumption) | exact Kept_has (by assumption) | exact Kept_out (by assumption) | exact Kept_ctr (by assumption) | exact watchE_none (by assumption))
    | with_reducible refine Only_mk ?_ (.inr rfl) (.inr rfl) (.inr rfl) (.inr rfl) (.inr rfl) (.inr rfl) (.inr rfl) (.inr rfl) (.inr rfl) (.inr rfl) (.inl (mask_bit hk rfl)) (.inr rfl) (.inr rfl) (.inr rfl) (.inr rfl) (.inr rfl) (.inr rfl) (.inr rfl) (.inr rfl) (.inr rfl) (.inr rfl) (.inr rfl) (.inr rfl) (.inr rfl) (.inr rfl) (.inr rfl) (.inr rfl) (.inr rfl) (.inr rfl) (.inr rfl)
    | (first | exact mask_sub hk rfl | exact hk)
    | with_reducible (first | refine Kept_snd (by assumption) ?_ | refine Kept_fst (by assumption) ?_)
    | with_reducible exact Kept_of_next (by assumption)
    | with_reducible (refine Kept_of_O (by assumption) ?_)
    | with_reducible (first | refine Kept_regs (g := g) ?_ (by assumption) | refine Kept_ram (g := g) ?_ (by assumption) | refine Kept_mram (g := g) ?_ (by assumption) | refine Kept_flt (g := g) ?_ (by assumption) | refine Kept_var ?_ | refine Kept_ev ?_ (by assumption) | refine Kept_has ?_ | refine Kept_out ?_ | refine Kept_ctr ?_)
    | dsimp -zeta only
    | split)

theorem kept_targetWrite {x0 x1} (h0 : Kept g x0) : Kept g (State.targetWrite x0 x1) := by
  unfold State.targetWrite
  repeat' (first | with_reducible assumption | with_reducible (first | apply kept_raise | apply kept_clampNote | apply kept_setB | apply kept_setI | apply Kept_ite) | split | intro _)

theorem kept_execProfLimitWrite {x0 x1 x2 x3} (h3 : Kept g x3) : KeptO g (execProfLimitWrite x0 x1 x2 x3) := by
  unfold execProfLimitWrite
  repeat' (first | with_reducible assumption | with_reducible (first | apply kept_permit | apply kept_setReg | apply kept_raise | apply KeptO_ite | apply KeptO_next | apply Kept_ite) | split | intro _)

theorem kept_execPairClaim {x0 x1} (h1 : Kept g x1) (hk : 65536 &&& g.mask = 65536) : KeptO g (execPairClaim x0 x1) := by
  unfold execPairClaim
  repeat' (first
    | with_reducible assumption
    | with_reducible refine fun _ => ?_
    | ((try lift_lets); intro s; refine (have hs : Kept g s := ?_; ?_); subst s; rotate_left; clear_value s; rotate_left)
    | ((try lift_lets); first | (intro (x : Mram); subst x) | (intro (x : Compositor); subst x) | (intro (x : Store 32); subst x) | (intro (x : Store 8); subst x) | (intro (x : State × _); subst x) | (intro (x : _ × State); subst x) | (intro (x : _ × _ × State); subst x) | (intro (x : State → _); subst x) | (intro (x : _ → State → _); subst x) | (intro (x : _ → State); subst x) | (intro x; clear_value x))
    | (simp only [↓Kept_mk_iff]; refine And.intro ?_ (And.intro ?_ (And.intro ?_ (And.intro ?_ (And.intro ?_ (And.intro ?_ (And.intro ?_ (And.intro ?_ (And.intro ?_ ?_)))))))))
    | with_reducible (first | apply kept_permit | apply kept_claim | apply Kept_ite | apply KeptO_ite | apply KeptO_next)
    | with_reducible (first | exact Kept_regs (by assumption) (by assumption) | exact Kept_ram (by assumption) (by assumption) | exact Kept_mram (by assumption) (by assumption) | exact Kept_flt (by assumption) (by assumption) | exact Kept_var (by assumption) | exact Kept_ev (by assumption) (by assumption) | exact Kept_has (by assumption) | exact Kept_out (by assumption) | exact Kept_ctr (by assumption) | exact watchE_none (by assumption))
    | (first | exact mask_sub hk rfl | exact hk)
    | with_reducible (first | refine Kept_snd (by assumption) ?_ | refine Kept_fst (by assumption) ?_)
    | with_reducible exact Kept_of_next (by assumption)
    | with_reducible (refine Kept_of_O (by assumption) ?_)
    | with_reducible (first | refine Kept_regs (g := g) ?_ (by assumption) | refine Kept_ram (g := g) ?_ (by assumption) | refine Kept_mram (g := g) ?_ (by assumption) | refine Kept_flt (g := g) ?_ (by assumption) | refine Kept_var ?_ | refine Kept_ev ?_ (by assumption) | refine Kept_has ?_ | refine Kept_out ?_ | refine Kept_ctr ?_)
    | dsimp -zeta only
    | split)

theorem kept_swapOffer {x0} (h0 : Kept g x0) (hk : 545261632 &&& g.mask = 545261632) : Kept g (State.swapOffer x0) := by
  unfold State.swapOffer
  repeat' (first
    | with_reducible assumption
    | with_reducible refine fun _ => ?_
    | ((try lift_lets); intro s; refine (have hs : Kept g s := ?_; ?_); subst s; rotate_left; clear_value s; rotate_left)
    | ((try lift_lets); first | (intro (x : Mram); subst x) | (intro (x : Compositor); subst x) | (intro (x : Store 32); subst x) | (intro (x : Store 8); subst x) | (intro (x : State × _); subst x) | (intro (x : _ × State); subst x) | (intro (x : _ × _ × State); subst x) | (intro (x : State → _); subst x) | (intro (x : _ → State → _); subst x) | (intro (x : _ → State); subst x) | (intro x; clear_value x))
    | (simp only [↓Kept_mk_iff]; refine And.intro ?_ (And.intro ?_ (And.intro ?_ (And.intro ?_ (And.intro ?_ (And.intro ?_ (And.intro ?_ (And.intro ?_ (And.intro ?_ ?_)))))))))
    | with_reducible (first | apply kept_galOpen | apply kept_plnkOut | apply kept_setF | apply Kept_ite)
    | with_reducible (first | exact Kept_regs (by assumption) (by assumption) | exact Kept_ram (by assumption) (by assumption) | exact Kept_mram (by assumption) (by assumption) | exact Kept_flt (by assumption) (by assumption) | exact Kept_var (by assumption) | exact Kept_ev (by assumption) (by assumption) | exact Kept_has (by assumption) | exact Kept_out (by assumption) | exact Kept_ctr (by assumption) | exact watchE_none (by assumption))
    | with_reducible refine Only_mk ?_ (.inr rfl) (.inr rfl) (.inr rfl) (.inr rfl) (.inr rfl) (.inr rfl) (.inr rfl) (.inr rfl) (.inr rfl) (.inr rfl) (.inr rfl) (.inr rfl) (.inr rfl) (.inr rfl) (.inr rfl) (.inr rfl) (.inr rfl) (.inr rfl) (.inr rfl) (.inr rfl) (.inl (mask_bit hk rfl)) (.inr rfl) (.inr rfl) (.inr rfl) (.inr rfl) (.inr rfl) (.inr rfl) (.inr rfl) (.inr rfl) (.inr rfl)
    | (first | exact mask_sub hk rfl | exact hk)
    | with_reducible (first | refine Kept_snd (by assumption) ?_ | refine Kept_fst (by assumption) ?_)
    | with_reducible exact Kept_of_next (by assumption)
    | with_reducible (refine Kept_of_O (by assumption) ?_)
    | with_reducible (first | refine Kept_regs (g := g) ?_ (by assumption) | refine Kept_ram (g := g) ?_ (by assumption) | refine Kept_mram (g := g) ?_ (by assumption) | refine Kept_flt (g := g) ?_ (by assumption) | refine Kept_var ?_ | refine Kept_ev ?_ (by assumption) | refine Kept_has ?_ | refine Kept_out ?_ | refine Kept_ctr ?_)
    | dsimp -zeta only
    | split)

theorem kept_execSwapNow {x0 x1} (h1 : Kept g x1) (hk : 545261632 &&& g.mask = 545261632) : KeptO g (execSwapNow x0 x1) := by
  unfold execSwapNow
  repeat' (first
    | with_reducible assumption
    | with_reducible refine fun _ => ?_
    | ((try lift_lets); intro s; refine (have hs : Kept g s := ?_; ?_); subst s; rotate_left; clear_value s; rotate_left)
    | ((try lift_lets); first | (intro (x : Mram); subst x) | (intro (x : Compositor); subst x) | (intro (x : Store 32); subst x) | (intro (x : Store 8); subst x) | (intro (x : State × _); subst x) | (intro (x : _ × State); subst x) | (intro (x : _ × _ × State); subst x) | (intro (x : State → _); subst x) | (intro (x : _ → State → _); subst x) | (intro (x : _ → State); subst x) | (intro x; clear_value x))
    | (simp only [↓Kept_mk_iff]; refine And.intro ?_ (And.intro ?_ (And.intro ?_ (And.intro ?_ (And.intro ?_ (And.intro ?_ (And.intro ?_ (And.intro ?_ (And.intro ?_ ?_)))))))))
    | with_reducible (first | apply kept_permit | apply kept_swapOffer | apply Kept_ite | apply KeptO_ite | apply KeptO_next)
    | with_reducible (first | exact Kept_regs (by assumption) (by assumption) | exact Kept_ram (by assumption) (by assumption) | exact Kept_mram (by assumption) (by assumption) | exact Kept_flt (by assumption) (by assumption) | exact Kept_var (by assumption) | exact Kept_ev (by assumption) (by assumption) | exact Kept_has (by assumption) | exact Kept_out (by assumption) | exact Kept_ctr (by assumption) | exact watchE_none (by assumption))
    | (first | exact mask_sub hk rfl | exact hk)
    | with_reducible (first | refine Kept_snd (by assumption) ?_ | refine Kept_fst (by assumption) ?_)
    | with_reducible exact Kept_of_next (by assumption)
    | with_reducible (refine Kept_of_O (by assumption) ?_)
    | with_reducible (first | refine Kept_regs (g := g) ?_ (by assumption) | refine Kept_ram (g := g) ?_ (by assumption) | refine Kept_mram (g := g) ?_ (by assumption) | refine Kept_flt (g := g) ?_ (by assumption) | refine Kept_var ?_ | refine Kept_ev ?_ (by assumption) | refine Kept_has ?_ | refine Kept_out ?_ | refine Kept_ctr ?_)
    | dsimp -zeta only
    | split)

theorem kept_execLatentClr {x0 x1 x2} (h2 : Kept g x2) (hk : 64 &&& g.mask = 64) : KeptO g (execLatentClr x0 x1 x2) := by
  unfold execLatentClr
  repeat' (first | with_reducible assumption | exact mask_sub hk rfl | with_reducible (first | apply kept_permitKeyed | apply kept_toMram | apply kept_setB | apply KeptO_ite | apply KeptO_next | apply Kept_ite) | split | intro _)

theorem kept_writeProf {x0 x1 x2 x3} (h0 : Kept g x0) (hk : 545327168 &&& g.mask = 545327168) : Kept g (State.writeProf x0 x1 x2 x3) := by
  unfold State.writeProf
  repeat' (first | with_reducible assumption | exact mask_sub hk rfl | with_reducible (first | apply kept_targetWrite | apply kept_act | apply kept_execProfLimitWrite | apply kept_thmOutputs | apply kept_putRw | apply kept_execPairClaim | apply kept_execSwapNow | apply kept_execLatentClr | apply Kept_ite) | split | intro _)

theorem kept_writeCycCfg {x0 x1} (h0 : Kept g x0) : Kept g (State.writeCycCfg x0 x1) := by
  unfold State.writeCycCfg
  repeat' (first | with_reducible assumption | with_reducible (first | apply kept_raise | apply kept_putRw | apply kept_setF | apply Kept_ite) | split | intro _)

theorem kept_tmrMod {x0 x1 x2} (h0 : Kept g x0) (hk : 67108864 &&& g.mask = 67108864) : Kept g (State.tmrMod x0 x1 x2) := by
  unfold State.tmrMod
  repeat' (first
    | with_reducible assumption
    | with_reducible refine fun _ => ?_
    | ((try lift_lets); intro s; refine (have hs : Kept g s := ?_; ?_); subst s; rotate_left; clear_value s; rotate_left)
    | ((try lift_lets); first | (intro (x : Mram); subst x) | (intro (x : Compositor); subst x) | (intro (x : Store 32); subst x) | (intro (x : Store 8); subst x) | (intro (x : State × _); subst x) | (intro (x : _ × State); subst x) | (intro (x : _ × _ × State); subst x) | (intro (x : State → _); subst x) | (intro (x : _ → State → _); subst x) | (intro (x : _ → State); subst x) | (intro x; clear_value x))
    | (simp only [↓Kept_mk_iff]; refine And.intro ?_ (And.intro ?_ (And.intro ?_ (And.intro ?_ (And.intro ?_ (And.intro ?_ (And.intro ?_ (And.intro ?_ (And.intro ?_ ?_)))))))))
    | with_reducible (first | apply Kept_ite)
    | with_reducible (first | exact Kept_regs (by assumption) (by assumption) | exact Kept_ram (by assumption) (by assumption) | exact Kept_mram (by assumption) (by assumption) | exact Kept_flt (by assumption) (by assumption) | exact Kept_var (by assumption) | exact Kept_ev (by assumption) (by assumption) | exact Kept_has (by assumption) | exact Kept_out (by assumption) | exact Kept_ctr (by assumption) | exact watchE_none (by assumption))
    | with_reducible refine Only_mk ?_ (.inr rfl) (.inr rfl) (.inr rfl) (.inr rfl) (.inr rfl) (.inr rfl) (.inr rfl) (.inr rfl) (.inr rfl) (.inr rfl) (.inr rfl) (.inr rfl) (.inr rfl) (.inr rfl) (.inr rfl) (.inr rfl) (.inr rfl) (.inr rfl) (.inr rfl) (.inr rfl) (.inr rfl) (.inr rfl) (.inr rfl) (.inl (mask_bit hk rfl)) (.inr rfl) (.inr rfl) (.inr rfl) (.inr rfl) (.inr rfl) (.inr rfl)
    | (first | exact mask_sub hk rfl | exact hk)
    | with_reducible (first | refine Kept_snd (by assumption) ?_ | refine Kept_fst (by assumption) ?_)
    | with_reducible exact Kept_of_next (by assumption)
    | with_reducible (refine Kept_of_O (by assumption) ?_)
    | with_reducible (first | refine Kept_regs (g := g) ?_ (by assumption) | refine Kept_ram (g := g) ?_ (by assumption) | refine Kept_mram (g := g) ?_ (by assumption) | refine Kept_flt (g := g) ?_ (by assumption) | refine Kept_var ?_ | refine Kept_ev ?_ (by assumption) | refine Kept_has ?_ | refine Kept_out ?_ | refine Kept_ctr ?_)
    | dsimp -zeta only
    | split)

theorem kept_tmrIn {x0 x1 x2} (h0 : Kept g x0) (hk : 67108864 &&& g.mask = 67108864) : Kept g (State.tmrIn x0 x1 x2) := by
  unfold State.tmrIn
  repeat' (first | with_reducible assumption | exact mask_sub hk rfl | with_reducible (first | apply kept_raise | apply kept_tmrMod | apply Kept_ite) | split | intro _)

theorem kept_tmrPt {x0 x1 x2} (h0 : Kept g x0) (hk : 67108864 &&& g.mask = 67108864) : Kept g (State.tmrPt x0 x1 x2) := by
  unfold State.tmrPt
  repeat' (first | with_reducible assumption | exact mask_sub hk rfl | with_reducible (first | apply kept_tmrMod | apply Kept_ite) | split | intro _)

theorem kept_writeCyc {x0 x1 x2} (h0 : Kept g x0) (hk : 67108928 &&& g.mask = 67108928) : Kept g (State.writeCyc x0 x1 x2) := by
  unfold State.writeCyc
  repeat' (first | with_reducible assumption | exact mask_sub hk rfl | with_reducible (first | apply kept_cycAsk | apply kept_writeCycCfg | apply kept_toMram | apply kept_putRw | apply kept_tmrIn | apply kept_tmrPt | apply Kept_ite) | split | intro _)

theorem kept_occurBit {x0 x1 x2} (h0 : Kept g x0) : Kept g (State.occurBit x0 x1 x2) := by
  unfold State.occurBit
  repeat' (first | with_reducible assumption | with_reducible (first | apply kept_occur | apply Kept_ite) | split | intro _)

theorem kept_txLate {x0 x1 x2} (h0 : Kept g x0) (hk : 134217728 &&& g.mask = 134217728) : Kept g (State.txLate x0 x1 x2) := by
  unfold State.txLate
  repeat' (first | with_reducible assumption | exact mask_sub hk rfl | with_reducible (first | apply kept_setB | apply kept_setCan | apply kept_setReg | apply kept_raise | apply kept_occurBit | apply Kept_ite) | split | intro _)

theorem kept_txConsider {x0 x1 x2} (h0 : Kept g x0) (hk : 134217728 &&& g.mask = 134217728) : Kept g (State.txConsider x0 x1 x2) := by
  unfold State.txConsider
  repeat' (first | with_reducible assumption | exact mask_sub hk rfl | with_reducible (first | apply kept_txLate | apply kept_launchLate | apply Kept_ite) | split | intro _)

theorem kept_txbReq {x0 x1 x2} (h0 : Kept g x0) (hk : 134217728 &&& g.mask = 134217728) : Kept g (State.txbReq x0 x1 x2) := by
  unfold State.txbReq
  repeat' (first
    | with_reducible assumption
    | with_reducible refine fun _ => ?_
    | ((try lift_lets); intro s; refine (have hs : Kept g s := ?_; ?_); subst s; rotate_left; clear_value s; rotate_left)
    | ((try lift_lets); first | (intro (x : Mram); subst x) | (intro (x : Compositor); subst x) | (intro (x : Store 32); subst x) | (intro (x : Store 8); subst x) | (intro (x : State × _); subst x) | (intro (x : _ × State); subst x) | (intro (x : _ × _ × State); subst x) | (intro (x : State → _); subst x) | (intro (x : _ → State → _); subst x) | (intro (x : _ → State); subst x) | (intro x; clear_value x))
    | (simp only [↓Kept_mk_iff]; refine And.intro ?_ (And.intro ?_ (And.intro ?_ (And.intro ?_ (And.intro ?_ (And.intro ?_ (And.intro ?_ (And.intro ?_ (And.intro ?_ ?_)))))))))
    | with_reducible (first | apply kept_raiseIf | apply kept_setReg | apply kept_txConsider | apply kept_txRequest | apply kept_arrive | apply Kept_ite | apply Kept_foldl)
    | with_reducible (first | exact Kept_regs (by assumption) (by assumption) | exact Kept_ram (by assumption) (by assumption) | exact Kept_mram (by assumption) (by assumption) | exact Kept_flt (by assumption) (by assumption) | exact Kept_var (by assumption) | exact Kept_ev (by assumption) (by assumption) | exact Kept_has (by assumption) | exact Kept_out (by assumption) | exact Kept_ctr (by assumption) | exact watchE_none (by assumption))
    | (first | exact mask_sub hk rfl | exact hk)
    | with_reducible (first | refine Kept_snd (by assumption) ?_ | refine Kept_fst (by assumption) ?_)
    | with_reducible exact Kept_of_next (by assumption)
    | with_reducible (refine Kept_of_O (by assumption) ?_)
    | with_reducible (first | refine Kept_regs (g := g) ?_ (by assumption) | refine Kept_ram (g := g) ?_ (by assumption) | refine Kept_mram (g := g) ?_ (by assumption) | refine Kept_flt (g := g) ?_ (by assumption) | refine Kept_var ?_ | refine Kept_ev ?_ (by assumption) | refine Kept_has ?_ | refine Kept_out ?_ | refine Kept_ctr ?_)
    | dsimp -zeta only
    | split)

theorem kept_txbCancel {x0 x1 x2} (h0 : Kept g x0) : Kept g (State.txbCancel x0 x1 x2) := by
  unfold State.txbCancel
  repeat' (first
    | with_reducible assumption
    | with_reducible refine fun _ => ?_
    | ((try lift_lets); intro s; refine (have hs : Kept g s := ?_; ?_); subst s; rotate_left; clear_value s; rotate_left)
    | ((try lift_lets); first | (intro (x : Mram); subst x) | (intro (x : Compositor); subst x) | (intro (x : Store 32); subst x) | (intro (x : Store 8); subst x) | (intro (x : State × _); subst x) | (intro (x : _ × State); subst x) | (intro (x : _ × _ × State); subst x) | (intro (x : State → _); subst x) | (intro (x : _ → State → _); subst x) | (intro (x : _ → State); subst x) | (intro x; clear_value x))
    | (simp only [↓Kept_mk_iff]; refine And.intro ?_ (And.intro ?_ (And.intro ?_ (And.intro ?_ (And.intro ?_ (And.intro ?_ (And.intro ?_ (And.intro ?_ (And.intro ?_ ?_)))))))))
    | with_reducible (first | apply kept_arrive | apply kept_setReg | apply Kept_ite | apply Kept_foldl)
    | with_reducible (first | exact Kept_regs (by assumption) (by assumption) | exact Kept_ram (by assumption) (by assumption) | exact Kept_mram (by assumption) (by assumption) | exact Kept_flt (by assumption) (by assumption) | exact Kept_var (by assumption) | exact Kept_ev (by assumption) (by assumption) | exact Kept_has (by assumption) | exact Kept_out (by assumption) | exact Kept_ctr (by assumption) | exact watchE_none (by assumption))
    | (first | rfl)
    | with_reducible (first | refine Kept_snd (by assumption) ?_ | refine Kept_fst (by assumption) ?_)
    | with_reducible exact Kept_of_next (by assumption)
    | with_reducible (refine Kept_of_O (by assumption) ?_)
    | with_reducible (first | refine Kept_regs (g := g) ?_ (by assumption) | refine Kept_ram (g := g) ?_ (by assumption) | refine Kept_mram (g := g) ?_ (by assumption) | refine Kept_flt (g := g) ?_ (by assumption) | refine Kept_var ?_ | refine Kept_ev ?_ (by assumption) | refine Kept_has ?_ | refine Kept_out ?_ | refine Kept_ctr ?_)
    | dsimp -zeta only
    | split)

theorem kept_rxqAck {x0 x1 x2} (h0 : Kept g x0) (hk : 134217728 &&& g.mask = 134217728) : Kept g (State.rxqAck x0 x1 x2) := by
  unfold State.rxqAck
  repeat' (first
    | with_reducible assumption
    | with_reducible refine fun _ => ?_
    | ((try lift_lets); intro s; refine (have hs : Kept g s := ?_; ?_); subst s; rotate_left; clear_value s; rotate_left)
    | ((try lift_lets); first | (intro (x : Mram); subst x) | (intro (x : Compositor); subst x) | (intro (x : Store 32); subst x) | (intro (x : Store 8); subst x) | (intro (x : State × _); subst x) | (intro (x : _ × State); subst x) | (intro (x : _ × _ × State); subst x) | (intro (x : State → _); subst x) | (intro (x : _ → State → _); subst x) | (intro (x : _ → State); subst x) | (intro x; clear_value x))
    | (simp only [↓Kept_mk_iff]; refine And.intro ?_ (And.intro ?_ (And.intro ?_ (And.intro ?_ (And.intro ?_ (And.intro ?_ (And.intro ?_ (And.intro ?_ (And.intro ?_ ?_)))))))))
    | with_reducible (first | apply kept_arrive | apply kept_release | apply Kept_ite | apply Kept_foldl)
    | with_reducible (first | exact Kept_regs (by assumption) (by assumption) | exact Kept_ram (by assumption) (by assumption) | exact Kept_mram (by assumption) (by assumption) | exact Kept_flt (by assumption) (by assumption) | exact Kept_var (by assumption) | exact Kept_ev (by assumption) (by assumption) | exact Kept_has (by assumption) | exact Kept_out (by assumption) | exact Kept_ctr (by assumption) | exact watchE_none (by assumption))
    | (first | exact mask_sub hk rfl | exact hk)
    | with_reducible (first | refine Kept_snd (by assumption) ?_ | refine Kept_fst (by assumption) ?_)
    | with_reducible exact Kept_of_next (by assumption)
    | with_reducible (refine Kept_of_O (by assumption) ?_)
    | with_reducible (first | refine Kept_regs (g := g) ?_ (by assumption) | refine Kept_ram (g := g) ?_ (by assumption) | refine Kept_mram (g := g) ?_ (by assumption) | refine Kept_flt (g := g) ?_ (by assumption) | refine Kept_var ?_ | refine Kept_ev ?_ (by assumption) | refine Kept_has ?_ | refine Kept_out ?_ | refine Kept_ctr ?_)
    | dsimp -zeta only
    | split)

theorem kept_writeCan {x0 x1 x2 x3 x4} (h0 : Kept g x0) (hk : 134217728 &&& g.mask = 134217728) : Kept g (State.writeCan x0 x1 x2 x3 x4) := by
  unfold State.writeCan
  repeat' (first | with_reducible assumption | exact mask_sub hk rfl | with_reducible (first | apply kept_setReg | apply kept_raise | apply kept_canSetMode | apply kept_canRecover | apply kept_putRw | apply kept_setCan | apply kept_txbReq | apply kept_txbCancel | apply kept_rxqAck | apply Kept_ite) | split | intro _)

theorem kept_writeFlt {x0 x1 x2} (h0 : Kept g x0) : Kept g (State.writeFlt x0 x1 x2) := by
  unfold State.writeFlt
  repeat' (first | with_reducible assumption | with_reducible (first | apply kept_raise | apply kept_putRw | apply Kept_ite) | split | intro _)

theorem kept_setMark {x0 x1 x2} (h0 : Kept g x0) (hk : 536870912 &&& g.mask = 536870912) : Kept g (State.setMark x0 x1 x2) := by
  unfold State.setMark
  repeat' (first
    | with_reducible assumption
    | with_reducible refine fun _ => ?_
    | ((try lift_lets); intro s; refine (have hs : Kept g s := ?_; ?_); subst s; rotate_left; clear_value s; rotate_left)
    | ((try lift_lets); first | (intro (x : Mram); subst x) | (intro (x : Compositor); subst x) | (intro (x : Store 32); subst x) | (intro (x : Store 8); subst x) | (intro (x : State × _); subst x) | (intro (x : _ × State); subst x) | (intro (x : _ × _ × State); subst x) | (intro (x : State → _); subst x) | (intro (x : _ → State → _); subst x) | (intro (x : _ → State); subst x) | (intro x; clear_value x))
    | (simp only [↓Kept_mk_iff]; refine And.intro ?_ (And.intro ?_ (And.intro ?_ (And.intro ?_ (And.intro ?_ (And.intro ?_ (And.intro ?_ (And.intro ?_ (And.intro ?_ ?_)))))))))
    | with_reducible (first | apply Kept_ite)
    | with_reducible (first | exact Kept_regs (by assumption) (by assumption) | exact Kept_ram (by assumption) (by assumption) | exact Kept_mram (by assumption) (by assumption) | exact Kept_flt (by assumption) (by assumption) | exact Kept_var (by assumption) | exact Kept_ev (by assumption) (by assumption) | exact Kept_has (by assumption) | exact Kept_out (by assumption) | exact Kept_ctr (by assumption) | exact watchE_none (by assumption))
    | with_reducible refine Only_mk ?_ (.inr rfl) (.inr rfl) (.inr rfl) (.inr rfl) (.inr rfl) (.inr rfl) (.inr rfl) (.inr rfl) (.inr rfl) (.inr rfl) (.inr rfl) (.inr rfl) (.inr rfl) (.inr rfl) (.inr rfl) (.inr rfl) (.inr rfl) (.inr rfl) (.inr rfl) (.inr rfl) (.inr rfl) (.inr rfl) (.inr rfl) (.inr rfl) (.inr rfl) (.inr rfl) (.inl (mask_bit hk rfl)) (.inr rfl) (.inr rfl) (.inr rfl)
    | (first | exact mask_sub hk rfl | exact hk)
    | with_reducible (first | refine Kept_snd (by assumption) ?_ | refine Kept_fst (by assumption) ?_)
    | with_reducible exact Kept_of_next (by assumption)
    | with_reducible (refine Kept_of_O (by assumption) ?_)
    | with_reducible (first | refine Kept_regs (g := g) ?_ (by assumption) | refine Kept_ram (g := g) ?_ (by assumption) | refine Kept_mram (g := g) ?_ (by assumption) | refine Kept_flt (g := g) ?_ (by assumption) | refine Kept_var ?_ | refine Kept_ev ?_ (by assumption) | refine Kept_has ?_ | refine Kept_out ?_ | refine Kept_ctr ?_)
    | dsimp -zeta only
    | split)

theorem kept_writeBack {x0 x1 x2 x3 x4} (h0 : Kept g x0) (hk : 536870916 &&& g.mask = 536870916) : Kept g (State.writeBack x0 x1 x2 x3 x4) := by
  unfold State.writeBack
  repeat' (first | with_reducible assumption | exact mask_sub hk rfl | with_reducible (first | apply kept_setMark | apply kept_setMemWord | apply kept_setReg | apply kept_raise | apply Kept_ite) | split | intro _)

theorem kept_txScan {x0 x1 x2} (h0 : Kept g x0) (hk : 536870916 &&& g.mask = 536870916) : Kept g (State.txScan x0 x1 x2) := by
  induction x2 generalizing x0 with
  | zero => exact h0
  | succ a ih =>
    unfold State.txScan
    repeat' (first
      | with_reducible assumption
      | with_reducible refine fun _ => ?_
      | ((try lift_lets); intro s; refine (have hs : Kept g s := ?_; ?_); subst s; rotate_left; clear_value s; rotate_left)
      | ((try lift_lets); first | (intro (x : Mram); subst x) | (intro (x : Compositor); subst x) | (intro (x : Store 32); subst x) | (intro (x : Store 8); subst x) | (intro (x : State × _); subst x) | (intro (x : _ × State); subst x) | (intro (x : _ × _ × State); subst x) | (intro (x : State → _); subst x) | (intro (x : _ → State → _); subst x) | (intro (x : _ → State); subst x) | (intro x; clear_value x))
      | (simp only [↓Kept_mk_iff]; refine And.intro ?_ (And.intro ?_ (And.intro ?_ (And.intro ?_ (And.intro ?_ (And.intro ?_ (And.intro ?_ (And.intro ?_ (And.intro ?_ ?_)))))))))
      | with_reducible (first | apply ih | apply kept_writeBack | apply kept_launchLate | apply kept_setMark | apply Kept_ite)
      | with_reducible (first | exact Kept_regs (by assumption) (by assumption) | exact Kept_ram (by assumption) (by assumption) | exact Kept_mram (by assumption) (by assumption) | exact Kept_flt (by assumption) (by assumption) | exact Kept_var (by assumption) | exact Kept_ev (by assumption) (by assumption) | exact Kept_has (by assumption) | exact Kept_out (by assumption) | exact Kept_ctr (by assumption) | exact watchE_none (by assumption))
      | (first | exact mask_sub hk rfl | exact hk)
      | with_reducible (first | refine Kept_snd (by assumption) ?_ | refine Kept_fst (by assumption) ?_)
      | with_reducible exact Kept_of_next (by assumption)
      | with_reducible (refine Kept_of_O (by assumption) ?_)
      | with_reducible (first | refine Kept_regs (g := g) ?_ (by assumption) | refine Kept_ram (g := g) ?_ (by assumption) | refine Kept_mram (g := g) ?_ (by assumption) | refine Kept_flt (g := g) ?_ (by assumption) | refine Kept_var ?_ | refine Kept_ev ?_ (by assumption) | refine Kept_has ?_ | refine Kept_out ?_ | refine Kept_ctr ?_)
      | dsimp -zeta only
      | split)

theorem kept_execTxTailWrite {x0 x1 x2 x3} (h3 : Kept g x3) (hk : 536870916 &&& g.mask = 536870916) : KeptO g (execTxTailWrite x0 x1 x2 x3) := by
  unfold execTxTailWrite
  repeat' (first | with_reducible assumption | exact mask_sub hk rfl | with_reducible (first | apply kept_permit | apply kept_txScan | apply kept_setReg | apply KeptO_ite | apply KeptO_next | apply Kept_ite) | split | intro _)

theorem kept_execRxTailWrite {x0 x1 x2 x3} (h3 : Kept g x3) : KeptO g (execRxTailWrite x0 x1 x2 x3) := by
  unfold execRxTailWrite
  repeat' (first | with_reducible assumption | with_reducible (first | apply kept_permit | apply kept_occur | apply KeptO_ite | apply KeptO_next | apply Kept_ite) | split | intro _)

theorem kept_writeEth {x0 x1 x2 x3 x4} (h0 : Kept g x0) (hk : 536870916 &&& g.mask = 536870916) : Kept g (State.writeEth x0 x1 x2 x3 x4) := by
  unfold State.writeEth
  repeat' (first | with_reducible assumption | exact mask_sub hk rfl | with_reducible (first | apply kept_putRw | apply kept_ethLink | apply kept_act | apply kept_execTxTailWrite | apply kept_execRxTailWrite | apply kept_setReg | apply Kept_ite) | split | intro _)

theorem kept_twbEnd {x0 x1 x2} (h0 : Kept g x0) (hk : 1073741824 &&& g.mask = 1073741824) : Kept g (State.twbEnd x0 x1 x2) := by
  unfold State.twbEnd
  repeat' (first
    | with_reducible assumption
    | with_reducible refine fun _ => ?_
    | ((try lift_lets); intro s; refine (have hs : Kept g s := ?_; ?_); subst s; rotate_left; clear_value s; rotate_left)
    | ((try lift_lets); first | (intro (x : Mram); subst x) | (intro (x : Compositor); subst x) | (intro (x : Store 32); subst x) | (intro (x : Store 8); subst x) | (intro (x : State × _); subst x) | (intro (x : _ × State); subst x) | (intro (x : _ × _ × State); subst x) | (intro (x : State → _); subst x) | (intro (x : _ → State → _); subst x) | (intro (x : _ → State); subst x) | (intro x; clear_value x))
    | (simp only [↓Kept_mk_iff]; refine And.intro ?_ (And.intro ?_ (And.intro ?_ (And.intro ?_ (And.intro ?_ (And.intro ?_ (And.intro ?_ (And.intro ?_ (And.intro ?_ ?_)))))))))
    | with_reducible (first | apply kept_setF | apply kept_setReg | apply kept_raise | apply Kept_ite | apply Kept_foldl)
    | with_reducible (first | exact Kept_regs (by assumption) (by assumption) | exact Kept_ram (by assumption) (by assumption) | exact Kept_mram (by assumption) (by assumption) | exact Kept_flt (by assumption) (by assumption) | exact Kept_var (by assumption) | exact Kept_ev (by assumption) (by assumption) | exact Kept_has (by assumption) | exact Kept_out (by assumption) | exact Kept_ctr (by assumption) | exact watchE_none (by assumption))
    | with_reducible refine Only_mk ?_ (.inr rfl) (.inr rfl) (.inr rfl) (.inr rfl) (.inr rfl) (.inr rfl) (.inr rfl) (.inr rfl) (.inr rfl) (.inr rfl) (.inr rfl) (.inr rfl) (.inr rfl) (.inr rfl) (.inr rfl) (.inr rfl) (.inr rfl) (.inr rfl) (.inr rfl) (.inr rfl) (.inr rfl) (.inr rfl) (.inr rfl) (.inr rfl) (.inr rfl) (.inr rfl) (.inr rfl) (.inl (mask_bit hk rfl)) (.inr rfl) (.inr rfl)
    | (first | exact mask_sub hk rfl | exact hk)
    | with_reducible (first | refine Kept_snd (by assumption) ?_ | refine Kept_fst (by assumption) ?_)
    | with_reducible exact Kept_of_next (by assumption)
    | with_reducible (refine Kept_of_O (by assumption) ?_)
    | with_reducible (first | refine Kept_regs (g := g) ?_ (by assumption) | refine Kept_ram (g := g) ?_ (by assumption) | refine Kept_mram (g := g) ?_ (by assumption) | refine Kept_flt (g := g) ?_ (by assumption) | refine Kept_var ?_ | refine Kept_ev ?_ (by assumption) | refine Kept_has ?_ | refine Kept_out ?_ | refine Kept_ctr ?_)
    | dsimp -zeta only
    | split)

theorem kept_twbCancel {x0} (h0 : Kept g x0) (hk : 1073741824 &&& g.mask = 1073741824) : Kept g (State.twbCancel x0) := by
  unfold State.twbCancel
  repeat' (first | with_reducible assumption | exact mask_sub hk rfl | with_reducible (first | apply kept_twbEnd | apply Kept_ite) | split | intro _)

theorem kept_twbStart {x0 x1} (h0 : Kept g x0) (hk : 1073741824 &&& g.mask = 1073741824) : Kept g (State.twbStart x0 x1) := by
  unfold State.twbStart
  repeat' (first
    | with_reducible assumption
    | with_reducible refine fun _ => ?_
    | ((try lift_lets); intro s; refine (have hs : Kept g s := ?_; ?_); subst s; rotate_left; clear_value s; rotate_left)
    | ((try lift_lets); first | (intro (x : Mram); subst x) | (intro (x : Compositor); subst x) | (intro (x : Store 32); subst x) | (intro (x : Store 8); subst x) | (intro (x : State × _); subst x) | (intro (x : _ × State); subst x) | (intro (x : _ × _ × State); subst x) | (intro (x : State → _); subst x) | (intro (x : _ → State → _); subst x) | (intro (x : _ → State); subst x) | (intro x; clear_value x))
    | (simp only [↓Kept_mk_iff]; refine And.intro ?_ (And.intro ?_ (And.intro ?_ (And.intro ?_ (And.intro ?_ (And.intro ?_ (And.intro ?_ (And.intro ?_ (And.intro ?_ ?_)))))))))
    | with_reducible (first | apply kept_emit | apply Kept_ite)
    | with_reducible (first | exact Kept_regs (by assumption) (by assumption) | exact Kept_ram (by assumption) (by assumption) | exact Kept_mram (by assumption) (by assumption) | exact Kept_flt (by assumption) (by assumption) | exact Kept_var (by assumption) | exact Kept_ev (by assumption) (by assumption) | exact Kept_has (by assumption) | exact Kept_out (by assumption) | exact Kept_ctr (by assumption) | exact watchE_none (by assumption))
    | with_reducible refine Only_mk ?_ (.inr rfl) (.inr rfl) (.inr rfl) (.inr rfl) (.inr rfl) (.inr rfl) (.inr rfl) (.inr rfl) (.inr rfl) (.inr rfl) (.inr rfl) (.inr rfl) (.inr rfl) (.inr rfl) (.inr rfl) (.inr rfl) (.inr rfl) (.inr rfl) (.inr rfl) (.inr rfl) (.inr rfl) (.inr rfl) (.inr rfl) (.inr rfl) (.inr rfl) (.inr rfl) (.inr rfl) (.inl (mask_bit hk rfl)) (.inr rfl) (.inr rfl)
    | (first | exact mask_sub hk rfl | exact hk)
    | with_reducible (first | refine Kept_snd (by assumption) ?_ | refine Kept_fst (by assumption) ?_)
    | with_reducible exact Kept_of_next (by assumption)
    | with_reducible (refine Kept_of_O (by assumption) ?_)
    | with_reducible (first | refine Kept_regs (g := g) ?_ (by assumption) | refine Kept_ram (g := g) ?_ (by assumption) | refine Kept_mram (g := g) ?_ (by assumption) | refine Kept_flt (g := g) ?_ (by assumption) | refine Kept_var ?_ | refine Kept_ev ?_ (by assumption) | refine Kept_has ?_ | refine Kept_out ?_ | refine Kept_ctr ?_)
    | dsimp -zeta only
    | split)

theorem kept_twbGo {x0 x1} (h0 : Kept g x0) (hk : 1073741824 &&& g.mask = 1073741824) : Kept g (State.twbGo x0 x1) := by
  unfold State.twbGo
  repeat' (first
    | with_reducible assumption
    | with_reducible refine fun _ => ?_
    | ((try lift_lets); intro s; refine (have hs : Kept g s := ?_; ?_); subst s; rotate_left; clear_value s; rotate_left)
    | ((try lift_lets); first | (intro (x : Mram); subst x) | (intro (x : Compositor); subst x) | (intro (x : Store 32); subst x) | (intro (x : Store 8); subst x) | (intro (x : State × _); subst x) | (intro (x : _ × State); subst x) | (intro (x : _ × _ × State); subst x) | (intro (x : State → _); subst x) | (intro (x : _ → State → _); subst x) | (intro (x : _ → State); subst x) | (intro x; clear_value x))
    | (simp only [↓Kept_mk_iff]; refine And.intro ?_ (And.intro ?_ (And.intro ?_ (And.intro ?_ (And.intro ?_ (And.intro ?_ (And.intro ?_ (And.intro ?_ (And.intro ?_ ?_)))))))))
    | with_reducible (first | apply kept_arrive | apply kept_raise | apply kept_twbEnd | apply kept_setB | apply kept_twbStart | apply Kept_ite)
    | with_reducible (first | exact Kept_regs (by assumption) (by assumption) | exact Kept_ram (by assumption) (by assumption) | exact Kept_mram (by assumption) (by assumption) | exact Kept_flt (by assumption) (by assumption) | exact Kept_var (by assumption) | exact Kept_ev (by assumption) (by assumption) | exact Kept_has (by assumption) | exact Kept_out (by assumption) | exact Kept_ctr (by assumption) | exact watchE_none (by assumption))
    | with_reducible refine Only_mk ?_ (.inr rfl) (.inr rfl) (.inr rfl) (.inr rfl) (.inr rfl) (.inr rfl) (.inr rfl) (.inr rfl) (.inr rfl) (.inr rfl) (.inr rfl) (.inr rfl) (.inr rfl) (.inr rfl) (.inr rfl) (.inr rfl) (.inr rfl) (.inr rfl) (.inr rfl) (.inr rfl) (.inr rfl) (.inr rfl) (.inr rfl) (.inr rfl) (.inr rfl) (.inr rfl) (.inr rfl) (.inl (mask_bit hk rfl)) (.inr rfl) (.inr rfl)
    | (first | exact mask_sub hk rfl | exact hk)
    | with_reducible (first | refine Kept_snd (by assumption) ?_ | refine Kept_fst (by assumption) ?_)
    | with_reducible exact Kept_of_next (by assumption)
    | with_reducible (refine Kept_of_O (by assumption) ?_)
    | with_reducible (first | refine Kept_regs (g := g) ?_ (by assumption) | refine Kept_ram (g := g) ?_ (by assumption) | refine Kept_mram (g := g) ?_ (by assumption) | refine Kept_flt (g := g) ?_ (by assumption) | refine Kept_var ?_ | refine Kept_ev ?_ (by assumption) | refine Kept_has ?_ | refine Kept_out ?_ | refine Kept_ctr ?_)
    | dsimp -zeta only
    | split)

theorem kept_writeTwb {x0 x1 x2} (h0 : Kept g x0) (hk : 1073741824 &&& g.mask = 1073741824) : Kept g (State.writeTwb x0 x1 x2) := by
  unfold State.writeTwb
  repeat' (first | with_reducible assumption | exact mask_sub hk rfl | with_reducible (first | apply kept_putRw | apply kept_raise | apply kept_occur | apply kept_twbCancel | apply kept_twbGo | apply Kept_ite) | split | intro _)

theorem kept_execAddrSet {x0 x1 x2} (h2 : Kept g x2) (hk : 64 &&& g.mask = 64) : KeptO g (execAddrSet x0 x1 x2) := by
  unfold execAddrSet
  repeat' (first
    | with_reducible assumption
    | with_reducible refine fun _ => ?_
    | ((try lift_lets); intro s; refine (have hs : Kept g s := ?_; ?_); subst s; rotate_left; clear_value s; rotate_left)
    | ((try lift_lets); first | (intro (x : Mram); subst x) | (intro (x : Compositor); subst x) | (intro (x : Store 32); subst x) | (intro (x : Store 8); subst x) | (intro (x : State × _); subst x) | (intro (x : _ × State); subst x) | (intro (x : _ × _ × State); subst x) | (intro (x : State → _); subst x) | (intro (x : _ → State → _); subst x) | (intro (x : _ → State); subst x) | (intro x; clear_value x))
    | (simp only [↓Kept_mk_iff]; refine And.intro ?_ (And.intro ?_ (And.intro ?_ (And.intro ?_ (And.intro ?_ (And.intro ?_ (And.intro ?_ (And.intro ?_ (And.intro ?_ ?_)))))))))
    | with_reducible (first | apply kept_permitKeyed | apply kept_raise | apply kept_putAddr | apply Kept_ite | apply KeptO_ite | apply KeptO_next)
    | with_reducible (first | exact Kept_regs (by assumption) (by assumption) | exact Kept_ram (by assumption) (by assumption) | exact Kept_mram (by assumption) (by assumption) | exact Kept_flt (by assumption) (by assumption) | exact Kept_var (by assumption) | exact Kept_ev (by assumption) (by assumption) | exact Kept_has (by assumption) | exact Kept_out (by assumption) | exact Kept_ctr (by assumption) | exact watchE_none (by assumption))
    | (first | exact mask_sub hk rfl | exact hk)
    | with_reducible (first | refine Kept_snd (by assumption) ?_ | refine Kept_fst (by assumption) ?_)
    | with_reducible exact Kept_of_next (by assumption)
    | with_reducible (refine Kept_of_O (by assumption) ?_)
    | with_reducible (first | refine Kept_regs (g := g) ?_ (by assumption) | refine Kept_ram (g := g) ?_ (by assumption) | refine Kept_mram (g := g) ?_ (by assumption) | refine Kept_flt (g := g) ?_ (by assumption) | refine Kept_var ?_ | refine Kept_ev ?_ (by assumption) | refine Kept_has ?_ | refine Kept_out ?_ | refine Kept_ctr ?_)
    | dsimp -zeta only
    | split)

theorem kept_restartReq {x0 x1} (h0 : Kept g x0) (hk : 16777216 &&& g.mask = 16777216) : Kept g (State.restartReq x0 x1) := by
  unfold State.restartReq
  repeat' (first
    | with_reducible assumption
    | with_reducible refine fun _ => ?_
    | ((try lift_lets); intro s; refine (have hs : Kept g s := ?_; ?_); subst s; rotate_left; clear_value s; rotate_left)
    | ((try lift_lets); first | (intro (x : Mram); subst x) | (intro (x : Compositor); subst x) | (intro (x : Store 32); subst x) | (intro (x : Store 8); subst x) | (intro (x : State × _); subst x) | (intro (x : _ × State); subst x) | (intro (x : _ × _ × State); subst x) | (intro (x : State → _); subst x) | (intro (x : _ → State → _); subst x) | (intro (x : _ → State); subst x) | (intro x; clear_value x))
    | (simp only [↓Kept_mk_iff]; refine And.intro ?_ (And.intro ?_ (And.intro ?_ (And.intro ?_ (And.intro ?_ (And.intro ?_ (And.intro ?_ (And.intro ?_ (And.intro ?_ ?_)))))))))
    | with_reducible (first | apply kept_raiseInt | apply Kept_ite)
    | with_reducible (first | exact Kept_regs (by assumption) (by assumption) | exact Kept_ram (by assumption) (by assumption) | exact Kept_mram (by assumption) (by assumption) | exact Kept_flt (by assumption) (by assumption) | exact Kept_var (by assumption) | exact Kept_ev (by assumption) (by assumption) | exact Kept_has (by assumption) | exact Kept_out (by assumption) | exact Kept_ctr (by assumption) | exact watchE_none (by assumption))
    | with_reducible refine Only_mk ?_ (.inr rfl) (.inr rfl) (.inr rfl) (.inr rfl) (.inr rfl) (.inr rfl) (.inr rfl) (.inr rfl) (.inr rfl) (.inr rfl) (.inr rfl) (.inr rfl) (.inr rfl) (.inr rfl) (.inr rfl) (.inr rfl) (.inr rfl) (.inr rfl) (.inr rfl) (.inr rfl) (.inr rfl) (.inl (mask_bit hk rfl)) (.inr rfl) (.inr rfl) (.inr rfl) (.inr rfl) (.inr rfl) (.inr rfl) (.inr rfl) (.inr rfl)
    | (first | exact mask_sub hk rfl | exact hk)
    | with_reducible (first | refine Kept_snd (by assumption) ?_ | refine Kept_fst (by assumption) ?_)
    | with_reducible exact Kept_of_next (by assumption)
    | with_reducible (refine Kept_of_O (by assumption) ?_)
    | with_reducible (first | refine Kept_regs (g := g) ?_ (by assumption) | refine Kept_ram (g := g) ?_ (by assumption) | refine Kept_mram (g := g) ?_ (by assumption) | refine Kept_flt (g := g) ?_ (by assumption) | refine Kept_var ?_ | refine Kept_ev ?_ (by assumption) | refine Kept_has ?_ | refine Kept_out ?_ | refine Kept_ctr ?_)
    | dsimp -zeta only
    | split)

theorem kept_execRestartWarm {x0 x1} (h1 : Kept g x1) (hk : 16777216 &&& g.mask = 16777216) : KeptO g (execRestartWarm x0 x1) := by
  unfold execRestartWarm
  repeat' (first | with_reducible assumption | exact mask_sub hk rfl | with_reducible (first | apply kept_permitKeyed | apply kept_restartReq | apply KeptO_ite | apply KeptO_next | apply Kept_ite) | split | intro _)

theorem kept_execRestartCold {x0 x1} (h1 : Kept g x1) (hk : 16777216 &&& g.mask = 16777216) : KeptO g (execRestartCold x0 x1) := by
  unfold execRestartCold
  repeat' (first | with_reducible assumption | exact mask_sub hk rfl | with_reducible (first | apply kept_permitKeyed | apply kept_restartReq | apply KeptO_ite | apply KeptO_next | apply Kept_ite) | split | intro _)

theorem kept_writeAux {x0 x1 x2 x3} (h0 : Kept g x0) (hk : 16777280 &&& g.mask = 16777280) : Kept g (State.writeAux x0 x1 x2 x3) := by
  unfold State.writeAux
  repeat' (first | with_reducible assumption | exact mask_sub hk rfl | with_reducible (first | apply kept_act | apply kept_execAddrSet | apply kept_execRestartWarm | apply kept_execRestartCold | apply kept_clearKey | apply kept_gpioOut | apply kept_putRw | apply Kept_ite) | split | intro _)

theorem kept_writePage {x0 x1 x2 x3 x4} (h0 : Kept g x0) (hE : ∀ e, ¬ g.events e) (hk : 8589934028 &&& g.mask = 8589934028) : Kept g (State.writePage x0 x1 x2 x3 x4) := by
  unfold State.writePage
  repeat' (first | with_reducible assumption | exact mask_sub hk rfl | with_reducible (first | apply kept_writeSys | apply kept_writeClk | apply kept_writeTime | apply kept_writeEvr | apply kept_writeUpd | apply kept_writeChn | apply kept_writeCells | apply kept_writeAsy | apply kept_writeLoop | apply kept_writeProf | apply kept_writeCyc | apply kept_writeCan | apply kept_writeFlt | apply kept_writeEth | apply kept_writeTwb | apply kept_writeAux | apply kept_putRw | apply Kept_ite) | split | intro _)

theorem kept_writeAt {x0 x1 x2 x3} (h0 : Kept g x0) (hE : ∀ e, ¬ g.events e) (hk : 8589934028 &&& g.mask = 8589934028) : Kept g (State.writeAt x0 x1 x2 x3) := by
  unfold State.writeAt
  repeat' (first | with_reducible assumption | exact mask_sub hk rfl | with_reducible (first | apply kept_writeWindow | apply kept_writeFolio | apply kept_writePage | apply Kept_ite) | split | intro _)

theorem kept_refuseAt {x0 x1 x2 x3 x4} (h0 : Kept g x0) : Kept g (State.refuseAt x0 x1 x2 x3 x4) := by
  unfold State.refuseAt
  repeat' (first | with_reducible assumption | with_reducible (first | apply kept_refuse | apply kept_raise | apply kept_clearKey | apply Kept_ite) | split | intro _)

theorem kept_writeWord {x0 x1 x2 x3} (h0 : Kept g x0) (hE : ∀ e, ¬ g.events e) (hk : 8589934028 &&& g.mask = 8589934028) : Kept g (State.writeWord x0 x1 x2 x3).2 := by
  unfold State.writeWord
  repeat' (first
    | with_reducible assumption
    | with_reducible refine fun _ => ?_
    | ((try lift_lets); intro s; refine (have hs : Kept g s := ?_; ?_); subst s; rotate_left; clear_value s; rotate_left)
    | ((try lift_lets); first | (intro (x : Mram); subst x) | (intro (x : Compositor); subst x) | (intro (x : Store 32); subst x) | (intro (x : Store 8); subst x) | (intro (x : State × _); subst x) | (intro (x : _ × State); subst x) | (intro (x : _ × _ × State); subst x) | (intro (x : State → _); subst x) | (intro (x : _ → State → _); subst x) | (intro (x : _ → State); subst x) | (intro x; clear_value x))
    | (simp only [↓Kept_mk_iff]; refine And.intro ?_ (And.intro ?_ (And.intro ?_ (And.intro ?_ (And.intro ?_ (And.intro ?_ (And.intro ?_ (And.intro ?_ (And.intro ?_ ?_)))))))))
    | with_reducible (first | apply kept_writeAt | apply kept_refuseAt | apply Kept_ite | apply Kept_ite1 | apply Kept_ite2 | apply Kept_ite3)
    | with_reducible (first | exact Kept_regs (by assumption) (by assumption) | exact Kept_ram (by assumption) (by assumption) | exact Kept_mram (by assumption) (by assumption) | exact Kept_flt (by assumption) (by assumption) | exact Kept_var (by assumption) | exact Kept_ev (by assumption) (by assumption) | exact Kept_has (by assumption) | exact Kept_out (by assumption) | exact Kept_ctr (by assumption) | exact watchE_none (by assumption))
    | with_reducible refine Only_mk ?_ (.inr rfl) (.inr rfl) (.inr rfl) (.inr rfl) (.inr rfl) (.inr rfl) (.inr rfl) (.inr rfl) (.inr rfl) (.inr rfl) (.inr rfl) (.inr rfl) (.inr rfl) (.inr rfl) (.inr rfl) (.inr rfl) (.inr rfl) (.inr rfl) (.inr rfl) (.inr rfl) (.inr rfl) (.inr rfl) (.inr rfl) (.inr rfl) (.inr rfl) (.inr rfl) (.inr rfl) (.inr rfl) (.inr rfl) (.inr rfl)
    | (first | exact mask_sub hk rfl | exact hk)
    | with_reducible (first | refine Kept_snd (by assumption) ?_ | refine Kept_fst (by assumption) ?_)
    | with_reducible exact Kept_of_next (by assumption)
    | with_reducible (refine Kept_of_O (by assumption) ?_)
    | with_reducible (first | refine Kept_regs (g := g) ?_ (by assumption) | refine Kept_ram (g := g) ?_ (by assumption) | refine Kept_mram (g := g) ?_ (by assumption) | refine Kept_flt (g := g) ?_ (by assumption) | refine Kept_var ?_ | refine Kept_ev ?_ (by assumption) | refine Kept_has ?_ | refine Kept_out ?_ | refine Kept_ctr ?_)
    | dsimp -zeta only
    | split)

theorem kept_outEntry {x0 x1 x2 x3} (h0 : Kept g x0) (hE : ∀ e, ¬ g.events e) (hk : 8589934028 &&& g.mask = 8589934028) : Kept g (State.outEntry x0 x1 x2 x3).2 := by
  unfold State.outEntry
  repeat' (first | with_reducible assumption | exact mask_sub hk rfl | with_reducible (first | apply kept_recordErr | apply kept_raise | apply kept_writeWord | apply Kept_ite) | split | intro _)

theorem kept_outEntries {x0 x1 x2 x3 x4 x5} (h0 : Kept g x0) (hE : ∀ e, ¬ g.events e) (hk : 8589934028 &&& g.mask = 8589934028) : Kept g (State.outEntries x0 x1 x2 x3 x4 x5).2 := by
  induction x5 generalizing x0 x1 x2 x3 x4 with
  | nil => exact h0
  | cons a t ih =>
    obtain ⟨a, w, m⟩ := a
    unfold State.outEntries
    repeat' (first
      | with_reducible assumption
      | with_reducible refine fun _ => ?_
      | ((try lift_lets); intro s; refine (have hs : Kept g s := ?_; ?_); subst s; rotate_left; clear_value s; rotate_left)
      | ((try lift_lets); first | (intro (x : Mram); subst x) | (intro (x : Compositor); subst x) | (intro (x : Store 32); subst x) | (intro (x : Store 8); subst x) | (intro (x : State × _); subst x) | (intro (x : _ × State); subst x) | (intro (x : _ × _ × State); subst x) | (intro (x : State → _); subst x) | (intro (x : _ → State → _); subst x) | (intro (x : _ → State); subst x) | (intro x; clear_value x))
      | (simp only [↓Kept_mk_iff]; refine And.intro ?_ (And.intro ?_ (And.intro ?_ (And.intro ?_ (And.intro ?_ (And.intro ?_ (And.intro ?_ (And.intro ?_ (And.intro ?_ ?_)))))))))
      | with_reducible (first | apply ih | apply kept_outEntry | apply Kept_ite | apply Kept_ite1 | apply Kept_ite2 | apply Kept_ite3)
      | with_reducible (first | exact Kept_regs (by assumption) (by assumption) | exact Kept_ram (by assumption) (by assumption) | exact Kept_mram (by assumption) (by assumption) | exact Kept_flt (by assumption) (by assumption) | exact Kept_var (by assumption) | exact Kept_ev (by assumption) (by assumption) | exact Kept_has (by assumption) | exact Kept_out (by assumption) | exact Kept_ctr (by assumption) | exact watchE_none (by assumption))
      | (first | exact mask_sub hk rfl | exact hk)
      | with_reducible (first | refine Kept_snd (by assumption) ?_ | refine Kept_fst (by assumption) ?_)
      | with_reducible exact Kept_of_next (by assumption)
      | with_reducible (refine Kept_of_O (by assumption) ?_)
      | with_reducible (first | refine Kept_regs (g := g) ?_ (by assumption) | refine Kept_ram (g := g) ?_ (by assumption) | refine Kept_mram (g := g) ?_ (by assumption) | refine Kept_flt (g := g) ?_ (by assumption) | refine Kept_var ?_ | refine Kept_ev ?_ (by assumption) | refine Kept_has ?_ | refine Kept_out ?_ | refine Kept_ctr ?_)
      | dsimp -zeta only
      | split)

theorem kept_transfer {x0 x1} (h0 : Kept g x0) (hE : ∀ e, ¬ g.events e) (hk : 8589934028 &&& g.mask = 8589934028) : Kept g (State.transfer x0 x1) := by
  unfold State.transfer
  repeat' (first | with_reducible assumption | exact mask_sub hk rfl | with_reducible (first | apply kept_policyLimits | apply kept_outEntries | apply kept_setReg | apply kept_raiseIf | apply Kept_ite) | split | intro _)

theorem kept_latticeInstant {x0 x1} (h0 : Kept g x0) (hE : ∀ e, ¬ g.events e) (hk : 8589934028 &&& g.mask = 8589934028) : Kept g (State.latticeInstant x0 x1) := by
  unfold State.latticeInstant
  repeat' (first
    | with_reducible assumption
    | with_reducible refine fun _ => ?_
    | ((try lift_lets); intro s; refine (have hs : Kept g s := ?_; ?_); subst s; rotate_left; clear_value s; rotate_left)
    | ((try lift_lets); first | (intro (x : Mram); subst x) | (intro (x : Compositor); subst x) | (intro (x : Store 32); subst x) | (intro (x : Store 8); subst x) | (intro (x : State × _); subst x) | (intro (x : _ × State); subst x) | (intro (x : _ × _ × State); subst x) | (intro (x : State → _); subst x) | (intro (x : _ → State → _); subst x) | (intro (x : _ → State); subst x) | (intro x; clear_value x))
    | (simp only [↓Kept_mk_iff]; refine And.intro ?_ (And.intro ?_ (And.intro ?_ (And.intro ?_ (And.intro ?_ (And.intro ?_ (And.intro ?_ (And.intro ?_ (And.intro ?_ ?_)))))))))
    | with_reducible (first | apply kept_kicked | apply kept_deadlineMissed | apply kept_overrun | apply kept_boundaryCopies | apply kept_boundaryNext | apply kept_transfer | apply Kept_ite)
    | with_reducible (first | exact Kept_regs (by assumption) (by assumption) | exact Kept_ram (by assumption) (by assumption) | exact Kept_mram (by assumption) (by assumption) | exact Kept_flt (by assumption) (by assumption) | exact Kept_var (by assumption) | exact Kept_ev (by assumption) (by assumption) | exact Kept_has (by assumption) | exact Kept_out (by assumption) | exact Kept_ctr (by assumption) | exact watchE_none (by assumption))
    | with_reducible refine Only_mk ?_ (.inr rfl) (.inr rfl) (.inr rfl) (.inr rfl) (.inr rfl) (.inr rfl) (.inr rfl) (.inr rfl) (.inr rfl) (.inr rfl) (.inr rfl) (.inr rfl) (.inr rfl) (.inr rfl) (.inr rfl) (.inr rfl) (.inr rfl) (.inr rfl) (.inr rfl) (.inr rfl) (.inr rfl) (.inr rfl) (.inr rfl) (.inl (mask_bit hk rfl)) (.inr rfl) (.inr rfl) (.inr rfl) (.inr rfl) (.inr rfl) (.inr rfl)
    | (first | exact mask_sub hk rfl | exact hk)
    | with_reducible (first | refine Kept_snd (by assumption) ?_ | refine Kept_fst (by assumption) ?_)
    | with_reducible exact Kept_of_next (by assumption)
    | with_reducible (refine Kept_of_O (by assumption) ?_)
    | with_reducible (first | refine Kept_regs (g := g) ?_ (by assumption) | refine Kept_ram (g := g) ?_ (by assumption) | refine Kept_mram (g := g) ?_ (by assumption) | refine Kept_flt (g := g) ?_ (by assumption) | refine Kept_var ?_ | refine Kept_ev ?_ (by assumption) | refine Kept_has ?_ | refine Kept_out ?_ | refine Kept_ctr ?_)
    | dsimp -zeta only
    | split)

theorem kept_learnMac {x0 x1 x2} (h0 : Kept g x0) (hk : 536870912 &&& g.mask = 536870912) : Kept g (State.learnMac x0 x1 x2) := by
  unfold State.learnMac
  repeat' (first
    | with_reducible assumption
    | with_reducible refine fun _ => ?_
    | ((try lift_lets); intro s; refine (have hs : Kept g s := ?_; ?_); subst s; rotate_left; clear_value s; rotate_left)
    | ((try lift_lets); first | (intro (x : Mram); subst x) | (intro (x : Compositor); subst x) | (intro (x : Store 32); subst x) | (intro (x : Store 8); subst x) | (intro (x : State × _); subst x) | (intro (x : _ × State); subst x) | (intro (x : _ × _ × State); subst x) | (intro (x : State → _); subst x) | (intro (x : _ → State → _); subst x) | (intro (x : _ → State); subst x) | (intro x; clear_value x))
    | (simp only [↓Kept_mk_iff]; refine And.intro ?_ (And.intro ?_ (And.intro ?_ (And.intro ?_ (And.intro ?_ (And.intro ?_ (And.intro ?_ (And.intro ?_ (And.intro ?_ ?_)))))))))
    | with_reducible (first | apply Kept_ite | apply filter_wf | apply evOk_filter)
    | with_reducible (first | exact Kept_regs (by assumption) (by assumption) | exact Kept_ram (by assumption) (by assumption) | exact Kept_mram (by assumption) (by assumption) | exact Kept_flt (by assumption) (by assumption) | exact Kept_var (by assumption) | exact Kept_ev (by assumption) (by assumption) | exact Kept_has (by assumption) | exact Kept_out (by assumption) | exact Kept_ctr (by assumption) | exact watchE_none (by assumption))
    | with_reducible refine Only_mk ?_ (.inr rfl) (.inr rfl) (.inr rfl) (.inr rfl) (.inr rfl) (.inr rfl) (.inr rfl) (.inr rfl) (.inr rfl) (.inr rfl) (.inr rfl) (.inr rfl) (.inr rfl) (.inr rfl) (.inr rfl) (.inr rfl) (.inr rfl) (.inr rfl) (.inr rfl) (.inr rfl) (.inr rfl) (.inr rfl) (.inr rfl) (.inr rfl) (.inr rfl) (.inr rfl) (.inl (mask_bit hk rfl)) (.inr rfl) (.inr rfl) (.inr rfl)
    | (first | exact mask_sub hk rfl | exact hk)
    | with_reducible (first | refine Kept_snd (by assumption) ?_ | refine Kept_fst (by assumption) ?_)
    | with_reducible exact Kept_of_next (by assumption)
    | with_reducible (refine Kept_of_O (by assumption) ?_)
    | with_reducible (first | refine Kept_regs (g := g) ?_ (by assumption) | refine Kept_ram (g := g) ?_ (by assumption) | refine Kept_mram (g := g) ?_ (by assumption) | refine Kept_flt (g := g) ?_ (by assumption) | refine Kept_var ?_ | refine Kept_ev ?_ (by assumption) | refine Kept_has ?_ | refine Kept_out ?_ | refine Kept_ctr ?_)
    | dsimp -zeta only
    | split)

theorem kept_loadOver {x0} (h0 : Kept g x0) (hk : 33619968 &&& g.mask = 33619968) : Kept g (State.loadOver x0) := by
  unfold State.loadOver
  repeat' (first
    | with_reducible assumption
    | with_reducible refine fun _ => ?_
    | ((try lift_lets); intro s; refine (have hs : Kept g s := ?_; ?_); subst s; rotate_left; clear_value s; rotate_left)
    | ((try lift_lets); first | (intro (x : Mram); subst x) | (intro (x : Compositor); subst x) | (intro (x : Store 32); subst x) | (intro (x : Store 8); subst x) | (intro (x : State × _); subst x) | (intro (x : _ × State); subst x) | (intro (x : _ × _ × State); subst x) | (intro (x : State → _); subst x) | (intro (x : _ → State → _); subst x) | (intro (x : _ → State); subst x) | (intro x; clear_value x))
    | (simp only [↓Kept_mk_iff]; refine And.intro ?_ (And.intro ?_ (And.intro ?_ (And.intro ?_ (And.intro ?_ (And.intro ?_ (And.intro ?_ (And.intro ?_ (And.intro ?_ ?_)))))))))
    | with_reducible (first | apply kept_setB | apply kept_sendClaim | apply Kept_ite)
    | with_reducible (first | exact Kept_regs (by assumption) (by assumption) | exact Kept_ram (by assumption) (by assumption) | exact Kept_mram (by assumption) (by assumption) | exact Kept_flt (by assumption) (by assumption) | exact Kept_var (by assumption) | exact Kept_ev (by assumption) (by assumption) | exact Kept_has (by assumption) | exact Kept_out (by assumption) | exact Kept_ctr (by assumption) | exact watchE_none (by assumption))
    | with_reducible refine Only_mk ?_ (.inr rfl) (.inr rfl) (.inr rfl) (.inr rfl) (.inr rfl) (.inr rfl) (.inr rfl) (.inr rfl) (.inr rfl) (.inr rfl) (.inr rfl) (.inr rfl) (.inr rfl) (.inr rfl) (.inr rfl) (.inr rfl) (.inr rfl) (.inr rfl) (.inr rfl) (.inr rfl) (.inr rfl) (.inr rfl) (.inl (mask_bit hk rfl)) (.inr rfl) (.inr rfl) (.inr rfl) (.inr rfl) (.inr rfl) (.inr rfl) (.inr rfl)
    | (first | exact mask_sub hk rfl | exact hk)
    | with_reducible (first | refine Kept_snd (by assumption) ?_ | refine Kept_fst (by assumption) ?_)
    | with_reducible exact Kept_of_next (by assumption)
    | with_reducible (refine Kept_of_O (by assumption) ?_)
    | with_reducible (first | refine Kept_regs (g := g) ?_ (by assumption) | refine Kept_ram (g := g) ?_ (by assumption) | refine Kept_mram (g := g) ?_ (by assumption) | refine Kept_flt (g := g) ?_ (by assumption) | refine Kept_var ?_ | refine Kept_ev ?_ (by assumption) | refine Kept_has ?_ | refine Kept_out ?_ | refine Kept_ctr ?_)
    | dsimp -zeta only
    | split)

theorem kept_loadFail {x0} (h0 : Kept g x0) (hk : 33622016 &&& g.mask = 33622016) : Kept g (State.loadFail x0) := by
  unfold State.loadFail
  repeat' (first | with_reducible assumption | exact mask_sub hk rfl | with_reducible (first | apply kept_updKind | apply kept_loadOver | apply kept_driveMsg | apply Kept_ite) | split | intro _)

theorem kept_loadRecord {x0} (h0 : Kept g x0) (hk : 256 &&& g.mask = 256) : Kept g (State.loadRecord x0) := by
  unfold State.loadRecord
  repeat' (first
    | with_reducible assumption
    | with_reducible refine fun _ => ?_
    | ((try lift_lets); intro s; refine (have hs : Kept g s := ?_; ?_); subst s; rotate_left; clear_value s; rotate_left)
    | ((try lift_lets); first | (intro (x : Mram); subst x) | (intro (x : Compositor); subst x) | (intro (x : Store 32); subst x) | (intro (x : Store 8); subst x) | (intro (x : State × _); subst x) | (intro (x : _ × State); subst x) | (intro (x : _ × _ × State); subst x) | (intro (x : State → _); subst x) | (intro (x : _ → State → _); subst x) | (intro (x : _ → State); subst x) | (intro x; clear_value x))
    | (simp only [↓Kept_mk_iff]; refine And.intro ?_ (And.intro ?_ (And.intro ?_ (And.intro ?_ (And.intro ?_ (And.intro ?_ (And.intro ?_ (And.intro ?_ (And.intro ?_ ?_)))))))))
    | with_reducible (first | apply kept_setF | apply kept_setReg | apply kept_setB | apply kept_timeRole | apply Kept_ite | apply Kept_foldl)
    | with_reducible (first | exact Kept_regs (by assumption) (by assumption) | exact Kept_ram (by assumption) (by assumption) | exact Kept_mram (by assumption) (by assumption) | exact Kept_flt (by assumption) (by assumption) | exact Kept_var (by assumption) | exact Kept_ev (by assumption) (by assumption) | exact Kept_has (by assumption) | exact Kept_out (by assumption) | exact Kept_ctr (by assumption) | exact watchE_none (by assumption))
    | (first | exact mask_sub hk rfl | exact hk)
    | with_reducible (first | refine Kept_snd (by assumption) ?_ | refine Kept_fst (by assumption) ?_)
    | with_reducible exact Kept_of_next (by assumption)
    | with_reducible (refine Kept_of_O (by assumption) ?_)
    | with_reducible (first | refine Kept_regs (g := g) ?_ (by assumption) | refine Kept_ram (g := g) ?_ (by assumption) | refine Kept_mram (g := g) ?_ (by assumption) | refine Kept_flt (g := g) ?_ (by assumption) | refine Kept_var ?_ | refine Kept_ev ?_ (by assumption) | refine Kept_has ?_ | refine Kept_out ?_ | refine Kept_ctr ?_)
    | dsimp -zeta only
    | split)

theorem kept_loadResumed {x0} (h0 : Kept g x0) (hk : 33622080 &&& g.mask = 33622080) : Kept g (State.loadResumed x0) := by
  unfold State.loadResumed
  repeat' (first | with_reducible assumption | exact mask_sub hk rfl | with_reducible (first | apply kept_updKind | apply kept_setRegM | apply kept_loadOver | apply Kept_ite) | split | intro _)

theorem kept_loadSend {x0 x1 x2} (h0 : Kept g x0) (hk : 33619968 &&& g.mask = 33619968) : Kept g (State.loadSend x0 x1 x2) := by
  induction x1 generalizing x0 x2 with
  | zero =>
    unfold State.loadSend
    repeat' (first
      | with_reducible assumption
      | with_reducible refine fun _ => ?_
      | ((try lift_lets); intro s; refine (have hs : Kept g s := ?_; ?_); subst s; rotate_left; clear_value s; rotate_left)
      | ((try lift_lets); first | (intro (x : Mram); subst x) | (intro (x : Compositor); subst x) | (intro (x : Store 32); subst x) | (intro (x : Store 8); subst x) | (intro (x : State × _); subst x) | (intro (x : _ × State); subst x) | (intro (x : _ × _ × State); subst x) | (intro (x : State → _); subst x) | (intro (x : _ → State → _); subst x) | (intro (x : _ → State); subst x) | (intro x; clear_value x))
      | (simp only [↓Kept_mk_iff]; refine And.intro ?_ (And.intro ?_ (And.intro ?_ (And.intro ?_ (And.intro ?_ (And.intro ?_ (And.intro ?_ (And.intro ?_ (And.intro ?_ ?_)))))))))
      | with_reducible (first | apply ih | apply kept_driveMsg | apply Kept_ite)
      | with_reducible (first | exact Kept_regs (by assumption) (by assumption) | exact Kept_ram (by assumption) (by assumption) | exact Kept_mram (by assumption) (by assumption) | exact Kept_flt (by assumption) (by assumption) | exact Kept_var (by assumption) | exact Kept_ev (by assumption) (by assumption) | exact Kept_has (by assumption) | exact Kept_out (by assumption) | exact Kept_ctr (by assumption) | exact watchE_none (by assumption))
      | with_reducible refine Only_mk ?_ (.inr rfl) (.inr rfl) (.inr rfl) (.inr rfl) (.inr rfl) (.inr rfl) (.inr rfl) (.inr rfl) (.inr rfl) (.inr rfl) (.inr rfl) (.inr rfl) (.inr rfl) (.inr rfl) (.inr rfl) (.inr rfl) (.inr rfl) (.inr rfl) (.inr rfl) (.inr rfl) (.inr rfl) (.inr rfl) (.inl (mask_bit hk rfl)) (.inr rfl) (.inr rfl) (.inr rfl) (.inr rfl) (.inr rfl) (.inr rfl) (.inr rfl)
      | (first | exact mask_sub hk rfl | exact hk)
      | with_reducible (first | refine Kept_snd (by assumption) ?_ | refine Kept_fst (by assumption) ?_)
      | with_reducible exact Kept_of_next (by assumption)
      | with_reducible (refine Kept_of_O (by assumption) ?_)
      | with_reducible (first | refine Kept_regs (g := g) ?_ (by assumption) | refine Kept_ram (g := g) ?_ (by assumption) | refine Kept_mram (g := g) ?_ (by assumption) | refine Kept_flt (g := g) ?_ (by assumption) | refine Kept_var ?_ | refine Kept_ev ?_ (by assumption) | refine Kept_has ?_ | refine Kept_out ?_ | refine Kept_ctr ?_)
      | dsimp -zeta only
      | split)
  | succ a ih =>
    unfold State.loadSend
    repeat' (first
      | with_reducible assumption
      | with_reducible refine fun _ => ?_
      | ((try lift_lets); intro s; refine (have hs : Kept g s := ?_; ?_); subst s; rotate_left; clear_value s; rotate_left)
      | ((try lift_lets); first | (intro (x : Mram); subst x) | (intro (x : Compositor); subst x) | (intro (x : Store 32); subst x) | (intro (x : Store 8); subst x) | (intro (x : State × _); subst x) | (intro (x : _ × State); subst x) | (intro (x : _ × _ × State); subst x) | (intro (x : State → _); subst x) | (intro (x : _ → State → _); subst x) | (intro (x : _ → State); subst x) | (intro x; clear_value x))
      | (simp only [↓Kept_mk_iff]; refine And.intro ?_ (And.intro ?_ (And.intro ?_ (And.intro ?_ (And.intro ?_ (And.intro ?_ (And.intro ?_ (And.intro ?_ (And.intro ?_ ?_)))))))))
      | with_reducible (first | apply ih | apply kept_driveMsg | apply Kept_ite)
      | with_reducible (first | exact Kept_regs (by assumption) (by assumption) | exact Kept_ram (by assumption) (by assumption) | exact Kept_mram (by assumption) (by assumption) | exact Kept_flt (by assumption) (by assumption) | exact Kept_var (by assumption) | exact Kept_ev (by assumption) (by assumption) | exact Kept_has (by assumption) | exact Kept_out (by assumption) | exact Kept_ctr (by assumption) | exact watchE_none (by assumption))
      | with_reducible refine Only_mk ?_ (.inr rfl) (.inr rfl) (.inr rfl) (.inr rfl) (.inr rfl) (.inr rfl) (.inr rfl) (.inr rfl) (.inr rfl) (.inr rfl) (.inr rfl) (.inr rfl) (.inr rfl) (.inr rfl) (.inr rfl) (.inr rfl) (.inr rfl) (.inr rfl) (.inr rfl) (.inr rfl) (.inr rfl) (.inr rfl) (.inl (mask_bit hk rfl)) (.inr rfl) (.inr rfl) (.inr rfl) (.inr rfl) (.inr rfl) (.inr rfl) (.inr rfl)
      | (first | exact mask_sub hk rfl | exact hk)
      | with_reducible (first | refine Kept_snd (by assumption) ?_ | refine Kept_fst (by assumption) ?_)
      | with_reducible exact Kept_of_next (by assumption)
      | with_reducible (refine Kept_of_O (by assumption) ?_)
      | with_reducible (first | refine Kept_regs (g := g) ?_ (by assumption) | refine Kept_ram (g := g) ?_ (by assumption) | refine Kept_mram (g := g) ?_ (by assumption) | refine Kept_flt (g := g) ?_ (by assumption) | refine Kept_var ?_ | refine Kept_ev ?_ (by assumption) | refine Kept_has ?_ | refine Kept_out ?_ | refine Kept_ctr ?_)
      | dsimp -zeta only
      | split)

theorem kept_loadWords {x0 x1} (h0 : Kept g x0) : Kept g (State.loadWords x0 x1) := by
  unfold State.loadWords
  repeat' (first
    | with_reducible assumption
    | with_reducible refine fun _ => ?_
    | ((try lift_lets); intro s; refine (have hs : Kept g s := ?_; ?_); subst s; rotate_left; clear_value s; rotate_left)
    | ((try lift_lets); first | (intro (x : Mram); subst x) | (intro (x : Compositor); subst x) | (intro (x : Store 32); subst x) | (intro (x : Store 8); subst x) | (intro (x : State × _); subst x) | (intro (x : _ × State); subst x) | (intro (x : _ × _ × State); subst x) | (intro (x : State → _); subst x) | (intro (x : _ → State → _); subst x) | (intro (x : _ → State); subst x) | (intro x; clear_value x))
    | (simp only [↓Kept_mk_iff]; refine And.intro ?_ (And.intro ?_ (And.intro ?_ (And.intro ?_ (And.intro ?_ (And.intro ?_ (And.intro ?_ (And.intro ?_ (And.intro ?_ ?_)))))))))
    | with_reducible (first | apply kept_setF | apply kept_setB | apply Kept_ite | apply Kept_foldl)
    | with_reducible (first | exact Kept_regs (by assumption) (by assumption) | exact Kept_ram (by assumption) (by assumption) | exact Kept_mram (by assumption) (by assumption) | exact Kept_flt (by assumption) (by assumption) | exact Kept_var (by assumption) | exact Kept_ev (by assumption) (by assumption) | exact Kept_has (by assumption) | exact Kept_out (by assumption) | exact Kept_ctr (by assumption) | exact watchE_none (by assumption))
    | with_reducible refine Only_mk ?_ (.inr rfl) (.inr rfl) (.inr rfl) (.inr rfl) (.inr rfl) (.inr rfl) (.inr rfl) (.inr rfl) (.inr rfl) (.inr rfl) (.inr rfl) (.inr rfl) (.inr rfl) (.inr rfl) (.inr rfl) (.inr rfl) (.inr rfl) (.inr rfl) (.inr rfl) (.inr rfl) (.inr rfl) (.inr rfl) (.inr rfl) (.inr rfl) (.inr rfl) (.inr rfl) (.inr rfl) (.inr rfl) (.inr rfl) (.inr rfl)
    | (first | rfl)
    | with_reducible (first | refine Kept_snd (by assumption) ?_ | refine Kept_fst (by assumption) ?_)
    | with_reducible exact Kept_of_next (by assumption)
    | with_reducible (refine Kept_of_O (by assumption) ?_)
    | with_reducible (first | refine Kept_regs (g := g) ?_ (by assumption) | refine Kept_ram (g := g) ?_ (by assumption) | refine Kept_mram (g := g) ?_ (by assumption) | refine Kept_flt (g := g) ?_ (by assumption) | refine Kept_var ?_ | refine Kept_ev ?_ (by assumption) | refine Kept_has ?_ | refine Kept_out ?_ | refine Kept_ctr ?_)
    | dsimp -zeta only
    | split)

theorem kept_mean2 {x0 x1 x2} (h0 : Kept g x0) : Kept g (State.mean2 x0 x1 x2).2 := by
  unfold State.mean2
  repeat' (first | with_reducible assumption | with_reducible (first | apply kept_fresh | apply Kept_ite) | split | intro _)

theorem kept_measWindow {x0 x1} (h0 : Kept g x0) (hk : 739211328 &&& g.mask = 739211328) : Kept g (State.measWindow x0 x1) := by
  unfold State.measWindow
  try generalize @State.chanValue = g0
  try generalize @chanReg = g1
  try generalize @withIdx = g2
  try generalize @bitsToNat = g3
  try generalize @State.getF = g4
  try generalize @b2n = g5
  try generalize @State.imdInjects = g6
  repeat' (first
    | with_reducible assumption
    | with_reducible refine fun _ => ?_
    | ((try lift_lets); intro s; refine (have hs : Kept g s := ?_; ?_); subst s; rotate_left; clear_value s; rotate_left)
    | ((try lift_lets); first | (intro (x : Mram); subst x) | (intro (x : Compositor); subst x) | (intro (x : Store 32); subst x) | (intro (x : Store 8); subst x) | (intro (x : State × _); subst x) | (intro (x : _ × State); subst x) | (intro (x : _ × _ × State); subst x) | (intro (x : State → _); subst x) | (intro (x : _ → State → _); subst x) | (intro (x : _ → State); subst x) | (intro x; clear_value x))
    | (simp only [↓Kept_mk_iff]; refine And.intro ?_ (And.intro ?_ (And.intro ?_ (And.intro ?_ (And.intro ?_ (And.intro ?_ (And.intro ?_ (And.intro ?_ (And.intro ?_ ?_)))))))))
    | with_reducible (first | apply kept_calWindow | apply kept_setI | apply kept_setF | apply kept_raiseIf | apply kept_imdRefresh | apply kept_setReg | apply Kept_ite | apply Kept_foldl | apply watchM_cons | apply ctr_add)
    | with_reducible (first | exact Kept_regs (by assumption) (by assumption) | exact Kept_ram (by assumption) (by assumption) | exact Kept_mram (by assumption) (by assumption) | exact Kept_flt (by assumption) (by assumption) | exact Kept_var (by assumption) | exact Kept_ev (by assumption) (by assumption) | exact Kept_has (by assumption) | exact Kept_out (by assumption) | exact Kept_ctr (by assumption) | exact watchE_none (by assumption))
    | with_reducible refine Only_mk ?_ (.inr rfl) (.inr rfl) (.inr rfl) (.inr rfl) (.inr rfl) (.inr rfl) (.inr rfl) (.inr rfl) (.inr rfl) (.inr rfl) (.inr rfl) (.inr rfl) (.inr rfl) (.inr rfl) (.inr rfl) (.inr rfl) (.inl (mask_bit hk rfl)) (.inr rfl) (.inr rfl) (.inr rfl) (.inr rfl) (.inr rfl) (.inr rfl) (.inr rfl) (.inr rfl) (.inr rfl) (.inr rfl) (.inr rfl) (.inr rfl) (.inr rfl)
    | (first | exact mask_sub hk rfl | exact hk)
    | with_reducible (first | refine Kept_snd (by assumption) ?_ | refine Kept_fst (by assumption) ?_)
    | with_reducible exact Kept_of_next (by assumption)
    | with_reducible (refine Kept_of_O (by assumption) ?_)
    | with_reducible (first | refine Kept_regs (g := g) ?_ (by assumption) | refine Kept_ram (g := g) ?_ (by assumption) | refine Kept_mram (g := g) ?_ (by assumption) | refine Kept_flt (g := g) ?_ (by assumption) | refine Kept_var ?_ | refine Kept_ev ?_ (by assumption) | refine Kept_has ?_ | refine Kept_out ?_ | refine Kept_ctr ?_)
    | dsimp -zeta only
    | split)

theorem kept_trigOut {x0 x1 x2 x3} (h0 : Kept g x0) : Kept g (State.trigOut x0 x1 x2 x3) := by
  unfold State.trigOut
  repeat' (first | with_reducible assumption | with_reducible (first | apply kept_symOut | apply Kept_ite) | split | intro _)

theorem kept_otherTrig {x0 x1 x2 x3} (h0 : Kept g x0) (hk : 536870912 &&& g.mask = 536870912) : Kept g (State.otherTrig x0 x1 x2 x3) := by
  unfold State.otherTrig
  repeat' (first | with_reducible assumption | exact mask_sub hk rfl | with_reducible (first | apply kept_plnkOut | apply kept_trigOut | apply Kept_ite) | split | intro _)

theorem kept_sweepMod {x0 x1 x2} (h0 : Kept g x0) (hk : 4194304 &&& g.mask = 4194304) : Kept g (State.sweepMod x0 x1 x2) := by
  unfold State.sweepMod
  repeat' (first
    | with_reducible assumption
    | with_reducible refine fun _ => ?_
    | ((try lift_lets); intro s; refine (have hs : Kept g s := ?_; ?_); subst s; rotate_left; clear_value s; rotate_left)
    | ((try lift_lets); first | (intro (x : Mram); subst x) | (intro (x : Compositor); subst x) | (intro (x : Store 32); subst x) | (intro (x : Store 8); subst x) | (intro (x : State × _); subst x) | (intro (x : _ × State); subst x) | (intro (x : _ × _ × State); subst x) | (intro (x : State → _); subst x) | (intro (x : _ → State → _); subst x) | (intro (x : _ → State); subst x) | (intro x; clear_value x))
    | (simp only [↓Kept_mk_iff]; refine And.intro ?_ (And.intro ?_ (And.intro ?_ (And.intro ?_ (And.intro ?_ (And.intro ?_ (And.intro ?_ (And.intro ?_ (And.intro ?_ ?_)))))))))
    | with_reducible (first | apply Kept_ite)
    | with_reducible (first | exact Kept_regs (by assumption) (by assumption) | exact Kept_ram (by assumption) (by assumption) | exact Kept_mram (by assumption) (by assumption) | exact Kept_flt (by assumption) (by assumption) | exact Kept_var (by assumption) | exact Kept_ev (by assumption) (by assumption) | exact Kept_has (by assumption) | exact Kept_out (by assumption) | exact Kept_ctr (by assumption) | exact watchE_none (by assumption))
    | with_reducible refine Only_mk ?_ (.inr rfl) (.inr rfl) (.inr rfl) (.inr rfl) (.inr rfl) (.inr rfl) (.inr rfl) (.inr rfl) (.inr rfl) (.inr rfl) (.inr rfl) (.inr rfl) (.inr rfl) (.inr rfl) (.inr rfl) (.inr rfl) (.inr rfl) (.inr rfl) (.inr rfl) (.inl (mask_bit hk rfl)) (.inr rfl) (.inr rfl) (.inr rfl) (.inr rfl) (.inr rfl) (.inr rfl) (.inr rfl) (.inr rfl) (.inr rfl) (.inr rfl)
    | (first | exact mask_sub hk rfl | exact hk)
    | with_reducible (first | refine Kept_snd (by assumption) ?_ | refine Kept_fst (by assumption) ?_)
    | with_reducible exact Kept_of_next (by assumption)
    | with_reducible (refine Kept_of_O (by assumption) ?_)
    | with_reducible (first | refine Kept_regs (g := g) ?_ (by assumption) | refine Kept_ram (g := g) ?_ (by assumption) | refine Kept_mram (g := g) ?_ (by assumption) | refine Kept_flt (g := g) ?_ (by assumption) | refine Kept_var ?_ | refine Kept_ev ?_ (by assumption) | refine Kept_has ?_ | refine Kept_out ?_ | refine Kept_ctr ?_)
    | dsimp -zeta only
    | split)

theorem kept_retrig {x0 x1 x2 x3} (h0 : Kept g x0) (hk : 541065216 &&& g.mask = 541065216) : Kept g (State.retrig x0 x1 x2 x3) := by
  unfold State.retrig
  repeat' (first | with_reducible assumption | exact mask_sub hk rfl | with_reducible (first | apply kept_otherTrig | apply kept_raise | apply kept_sweepMod | apply kept_raiseIf | apply Kept_ite) | split | intro _)

theorem kept_splitAbort {x0} (h0 : Kept g x0) (hk : 741308480 &&& g.mask = 741308480) : Kept g (State.splitAbort x0) := by
  unfold State.splitAbort
  repeat' (first | with_reducible assumption | exact mask_sub hk rfl | with_reducible (first | apply kept_leaveAssay | apply kept_asyAbort | apply Kept_ite) | split | intro _)

theorem kept_newBreak {x0 x1 x2} (h0 : Kept g x0) (hk : 745502784 &&& g.mask = 745502784) : Kept g (State.newBreak x0 x1 x2) := by
  unfold State.newBreak
  repeat' (first
    | with_reducible assumption
    | with_reducible refine fun _ => ?_
    | ((try lift_lets); intro s; refine (have hs : Kept g s := ?_; ?_); subst s; rotate_left; clear_value s; rotate_left)
    | ((try lift_lets); first | (intro (x : Mram); subst x) | (intro (x : Compositor); subst x) | (intro (x : Store 32); subst x) | (intro (x : Store 8); subst x) | (intro (x : State × _); subst x) | (intro (x : _ × State); subst x) | (intro (x : _ × _ × State); subst x) | (intro (x : State → _); subst x) | (intro (x : _ → State → _); subst x) | (intro (x : _ → State); subst x) | (intro x; clear_value x))
    | (simp only [↓Kept_mk_iff]; refine And.intro ?_ (And.intro ?_ (And.intro ?_ (And.intro ?_ (And.intro ?_ (And.intro ?_ (And.intro ?_ (And.intro ?_ (And.intro ?_ ?_)))))))))
    | with_reducible (first | apply kept_setBreaks | apply kept_retrig | apply kept_splitAbort | apply kept_raise | apply Kept_ite | apply filter_wf | apply evOk_filter)
    | with_reducible (first | exact Kept_regs (by assumption) (by assumption) | exact Kept_ram (by assumption) (by assumption) | exact Kept_mram (by assumption) (by assumption) | exact Kept_flt (by assumption) (by assumption) | exact Kept_var (by assumption) | exact Kept_ev (by assumption) (by assumption) | exact Kept_has (by assumption) | exact Kept_out (by assumption) | exact Kept_ctr (by assumption) | exact watchE_none (by assumption))
    | with_reducible refine Only_mk ?_ (.inr rfl) (.inr rfl) (.inr rfl) (.inr rfl) (.inr rfl) (.inr rfl) (.inr rfl) (.inr rfl) (.inr rfl) (.inr rfl) (.inr rfl) (.inr rfl) (.inr rfl) (.inr rfl) (.inr rfl) (.inr rfl) (.inr rfl) (.inr rfl) (.inr rfl) (.inl (mask_bit hk rfl)) (.inr rfl) (.inr rfl) (.inr rfl) (.inr rfl) (.inr rfl) (.inr rfl) (.inr rfl) (.inr rfl) (.inr rfl) (.inr rfl)
    | (first | exact mask_sub hk rfl | exact hk)
    | with_reducible (first | refine Kept_snd (by assumption) ?_ | refine Kept_fst (by assumption) ?_)
    | with_reducible exact Kept_of_next (by assumption)
    | with_reducible (refine Kept_of_O (by assumption) ?_)
    | with_reducible (first | refine Kept_regs (g := g) ?_ (by assumption) | refine Kept_ram (g := g) ?_ (by assumption) | refine Kept_mram (g := g) ?_ (by assumption) | refine Kept_flt (g := g) ?_ (by assumption) | refine Kept_var ?_ | refine Kept_ev ?_ (by assumption) | refine Kept_has ?_ | refine Kept_out ?_ | refine Kept_ctr ?_)
    | dsimp -zeta only
    | split)

theorem kept_owtForModeDone {x0 x1} (h0 : Kept g x0) (hk : 741308480 &&& g.mask = 741308480) : Kept g (State.owtForModeDone x0 x1) := by
  unfold State.owtForModeDone
  repeat' (first
    | with_reducible assumption
    | with_reducible refine fun _ => ?_
    | ((try lift_lets); intro s; refine (have hs : Kept g s := ?_; ?_); subst s; rotate_left; clear_value s; rotate_left)
    | ((try lift_lets); first | (intro (x : Mram); subst x) | (intro (x : Compositor); subst x) | (intro (x : Store 32); subst x) | (intro (x : Store 8); subst x) | (intro (x : State × _); subst x) | (intro (x : _ × State); subst x) | (intro (x : _ × _ × State); subst x) | (intro (x : State → _); subst x) | (intro (x : _ → State → _); subst x) | (intro (x : _ → State); subst x) | (intro x; clear_value x))
    | (simp only [↓Kept_mk_iff]; refine And.intro ?_ (And.intro ?_ (And.intro ?_ (And.intro ?_ (And.intro ?_ (And.intro ?_ (And.intro ?_ (And.intro ?_ (And.intro ?_ ?_)))))))))
    | with_reducible (first | apply kept_seqTry | apply kept_rejectLate | apply Kept_ite)
    | with_reducible (first | exact Kept_regs (by assumption) (by assumption) | exact Kept_ram (by assumption) (by assumption) | exact Kept_mram (by assumption) (by assumption) | exact Kept_flt (by assumption) (by assumption) | exact Kept_var (by assumption) | exact Kept_ev (by assumption) (by assumption) | exact Kept_has (by assumption) | exact Kept_out (by assumption) | exact Kept_ctr (by assumption) | exact watchE_none (by assumption))
    | with_reducible refine Only_mk ?_ (.inr rfl) (.inr rfl) (.inr rfl) (.inr rfl) (.inr rfl) (.inr rfl) (.inr rfl) (.inr rfl) (.inr rfl) (.inl (mask_bit hk rfl)) (.inr rfl) (.inr rfl) (.inr rfl) (.inr rfl) (.inr rfl) (.inr rfl) (.inr rfl) (.inr rfl) (.inr rfl) (.inr rfl) (.inr rfl) (.inr rfl) (.inr rfl) (.inr rfl) (.inr rfl) (.inr rfl) (.inr rfl) (.inr rfl) (.inr rfl) (.inr rfl)
    | (first | exact mask_sub hk rfl | exact hk)
    | with_reducible (first | refine Kept_snd (by assumption) ?_ | refine Kept_fst (by assumption) ?_)
    | with_reducible exact Kept_of_next (by assumption)
    | with_reducible (refine Kept_of_O (by assumption) ?_)
    | with_reducible (first | refine Kept_regs (g := g) ?_ (by assumption) | refine Kept_ram (g := g) ?_ (by assumption) | refine Kept_mram (g := g) ?_ (by assumption) | refine Kept_flt (g := g) ?_ (by assumption) | refine Kept_var ?_ | refine Kept_ev ?_ (by assumption) | refine Kept_has ?_ | refine Kept_out ?_ | refine Kept_ctr ?_)
    | dsimp -zeta only
    | split)

theorem kept_owtEnd {x0} (h0 : Kept g x0) (hk : 745502784 &&& g.mask = 745502784) : Kept g (State.owtEnd x0) := by
  unfold State.owtEnd
  repeat' (first
    | with_reducible assumption
    | with_reducible refine fun _ => ?_
    | ((try lift_lets); intro s; refine (have hs : Kept g s := ?_; ?_); subst s; rotate_left; clear_value s; rotate_left)
    | ((try lift_lets); first | (intro (x : Mram); subst x) | (intro (x : Compositor); subst x) | (intro (x : Store 32); subst x) | (intro (x : Store 8); subst x) | (intro (x : State × _); subst x) | (intro (x : _ × State); subst x) | (intro (x : _ × _ × State); subst x) | (intro (x : State → _); subst x) | (intro (x : _ → State → _); subst x) | (intro (x : _ → State); subst x) | (intro x; clear_value x))
    | (simp only [↓Kept_mk_iff]; refine And.intro ?_ (And.intro ?_ (And.intro ?_ (And.intro ?_ (And.intro ?_ (And.intro ?_ (And.intro ?_ (And.intro ?_ (And.intro ?_ ?_)))))))))
    | with_reducible (first | apply kept_setF | apply kept_raiseIf | apply kept_raise | apply kept_posMod | apply kept_remark | apply kept_clearDenied | apply kept_owtForModeDone | apply Kept_ite | apply Kept_foldl | apply filter_wf | apply evOk_filter)
    | with_reducible (first | exact Kept_regs (by assumption) (by assumption) | exact Kept_ram (by assumption) (by assumption) | exact Kept_mram (by assumption) (by assumption) | exact Kept_flt (by assumption) (by assumption) | exact Kept_var (by assumption) | exact Kept_ev (by assumption) (by assumption) | exact Kept_has (by assumption) | exact Kept_out (by assumption) | exact Kept_ctr (by assumption) | exact watchE_none (by assumption))
    | with_reducible refine Only_mk ?_ (.inr rfl) (.inr rfl) (.inr rfl) (.inr rfl) (.inr rfl) (.inr rfl) (.inr rfl) (.inr rfl) (.inr rfl) (.inr rfl) (.inr rfl) (.inr rfl) (.inr rfl) (.inr rfl) (.inr rfl) (.inr rfl) (.inr rfl) (.inr rfl) (.inl (mask_bit hk rfl)) (.inr rfl) (.inr rfl) (.inr rfl) (.inr rfl) (.inr rfl) (.inr rfl) (.inr rfl) (.inr rfl) (.inr rfl) (.inr rfl) (.inr rfl)
    | (first | exact mask_sub hk rfl | exact hk)
    | with_reducible (first | refine Kept_snd (by assumption) ?_ | refine Kept_fst (by assumption) ?_)
    | with_reducible exact Kept_of_next (by assumption)
    | with_reducible (refine Kept_of_O (by assumption) ?_)
    | with_reducible (first | refine Kept_regs (g := g) ?_ (by assumption) | refine Kept_ram (g := g) ?_ (by assumption) | refine Kept_mram (g := g) ?_ (by assumption) | refine Kept_flt (g := g) ?_ (by assumption) | refine Kept_var ?_ | refine Kept_ev ?_ (by assumption) | refine Kept_has ?_ | refine Kept_out ?_ | refine Kept_ctr ?_)
    | dsimp -zeta only
    | split)

theorem kept_owtAnswer {x0 x1 x2} (h0 : Kept g x0) (hk : 745502784 &&& g.mask = 745502784) : Kept g (State.owtAnswer x0 x1 x2) := by
  unfold State.owtAnswer
  repeat' (first | with_reducible assumption | exact mask_sub hk rfl | with_reducible (first | apply kept_posMod | apply kept_classify | apply kept_remark | apply kept_owtEnd | apply Kept_ite) | split | intro _)

theorem kept_nodeAnswer {x0 x1 x2 x3} (h0 : Kept g x0) (hk : 745502784 &&& g.mask = 745502784) : Kept g (State.nodeAnswer x0 x1 x2 x3) := by
  unfold State.nodeAnswer
  repeat' (first | with_reducible assumption | exact mask_sub hk rfl | with_reducible (first | apply kept_floopReply | apply kept_posMod | apply kept_owtAnswer | apply Kept_ite) | split | intro _)

theorem kept_nodeHot {x0 x1 x2} (h0 : Kept g x0) (hk : 4194304 &&& g.mask = 4194304) : Kept g (State.nodeHot x0 x1 x2) := by
  unfold State.nodeHot
  repeat' (first | with_reducible assumption | exact mask_sub hk rfl | with_reducible (first | apply kept_posMod | apply kept_raise | apply Kept_ite) | split | intro _)

theorem kept_nodeOn {x0 x1} (h0 : Kept g x0) (hk : 37750848 &&& g.mask = 37750848) : Kept g (State.nodeOn x0 x1) := by
  unfold State.nodeOn
  repeat' (first
    | with_reducible assumption
    | with_reducible refine fun _ => ?_
    | ((try lift_lets); intro s; refine (have hs : Kept g s := ?_; ?_); subst s; rotate_left; clear_value s; rotate_left)
    | ((try lift_lets); first | (intro (x : Mram); subst x) | (intro (x : Compositor); subst x) | (intro (x : Store 32); subst x) | (intro (x : Store 8); subst x) | (intro (x : State × _); subst x) | (intro (x : _ × State); subst x) | (intro (x : _ × _ × State); subst x) | (intro (x : State → _); subst x) | (intro (x : _ → State → _); subst x) | (intro (x : _ → State); subst x) | (intro x; clear_value x))
    | (simp only [↓Kept_mk_iff]; refine And.intro ?_ (And.intro ?_ (And.intro ?_ (And.intro ?_ (And.intro ?_ (And.intro ?_ (And.intro ?_ (And.intro ?_ (And.intro ?_ ?_)))))))))
    | with_reducible (first | apply kept_rejoinOut | apply kept_nodeSend | apply Kept_ite)
    | with_reducible (first | exact Kept_regs (by assumption) (by assumption) | exact Kept_ram (by assumption) (by assumption) | exact Kept_mram (by assumption) (by assumption) | exact Kept_flt (by assumption) (by assumption) | exact Kept_var (by assumption) | exact Kept_ev (by assumption) (by assumption) | exact Kept_has (by assumption) | exact Kept_out (by assumption) | exact Kept_ctr (by assumption) | exact watchE_none (by assumption))
    | with_reducible refine Only_mk ?_ (.inr rfl) (.inr rfl) (.inr rfl) (.inr rfl) (.inr rfl) (.inr rfl) (.inr rfl) (.inr rfl) (.inr rfl) (.inr rfl) (.inr rfl) (.inr rfl) (.inr rfl) (.inr rfl) (.inr rfl) (.inr rfl) (.inr rfl) (.inr rfl) (.inr rfl) (.inr rfl) (.inr rfl) (.inr rfl) (.inl (mask_bit hk rfl)) (.inr rfl) (.inr rfl) (.inr rfl) (.inr rfl) (.inr rfl) (.inr rfl) (.inr rfl)
    | (first | exact mask_sub hk rfl | exact hk)
    | with_reducible (first | refine Kept_snd (by assumption) ?_ | refine Kept_fst (by assumption) ?_)
    | with_reducible exact Kept_of_next (by assumption)
    | with_reducible (refine Kept_of_O (by assumption) ?_)
    | with_reducible (first | refine Kept_regs (g := g) ?_ (by assumption) | refine Kept_ram (g := g) ?_ (by assumption) | refine Kept_mram (g := g) ?_ (by assumption) | refine Kept_flt (g := g) ?_ (by assumption) | refine Kept_var ?_ | refine Kept_ev ?_ (by assumption) | refine Kept_has ?_ | refine Kept_out ?_ | refine Kept_ctr ?_)
    | dsimp -zeta only
    | split)

theorem kept_nodeResult {x0 x1 x2} (h0 : Kept g x0) (hk : 37750848 &&& g.mask = 37750848) : Kept g (State.nodeResult x0 x1 x2) := by
  unfold State.nodeResult
  repeat' (first | with_reducible assumption | exact mask_sub hk rfl | with_reducible (first | apply kept_nodeSend | apply kept_nodeOn | apply kept_nodeFail | apply Kept_ite) | split | intro _)

theorem kept_nregEnd {x0 x1} (h0 : Kept g x0) : Kept g (State.nregEnd x0 x1) := by
  unfold State.nregEnd
  repeat' (first | with_reducible assumption | with_reducible (first | apply kept_raise | apply kept_setF | apply Kept_ite) | split | intro _)

theorem kept_owtRead {x0} (h0 : Kept g x0) : Kept g (State.owtRead x0) := by
  unfold State.owtRead
  repeat' (first | with_reducible assumption | with_reducible (first | apply kept_nodeReads | apply Kept_ite) | split | intro _)

theorem kept_pairUnaligned {x0} (h0 : Kept g x0) (hk : 256 &&& g.mask = 256) : Kept g (State.pairUnaligned x0) := by
  unfold State.pairUnaligned
  repeat' (first
    | with_reducible assumption
    | with_reducible refine fun _ => ?_
    | ((try lift_lets); intro s; refine (have hs : Kept g s := ?_; ?_); subst s; rotate_left; clear_value s; rotate_left)
    | ((try lift_lets); first | (intro (x : Mram); subst x) | (intro (x : Compositor); subst x) | (intro (x : Store 32); subst x) | (intro (x : Store 8); subst x) | (intro (x : State × _); subst x) | (intro (x : _ × State); subst x) | (intro (x : _ × _ × State); subst x) | (intro (x : State → _); subst x) | (intro (x : _ → State → _); subst x) | (intro (x : _ → State); subst x) | (intro x; clear_value x))
    | (simp only [↓Kept_mk_iff]; refine And.intro ?_ (And.intro ?_ (And.intro ?_ (And.intro ?_ (And.intro ?_ (And.intro ?_ (And.intro ?_ (And.intro ?_ (And.intro ?_ ?_)))))))))
    | with_reducible (first | apply kept_pairAlign | apply kept_raise | apply kept_syncEnter | apply Kept_ite)
    | with_reducible (first | exact Kept_regs (by assumption) (by assumption) | exact Kept_ram (by assumption) (by assumption) | exact Kept_mram (by assumption) (by assumption) | exact Kept_flt (by assumption) (by assumption) | exact Kept_var (by assumption) | exact Kept_ev (by assumption) (by assumption) | exact Kept_has (by assumption) | exact Kept_out (by assumption) | exact Kept_ctr (by assumption) | exact watchE_none (by assumption))
    | with_reducible refine Only_mk ?_ (.inr rfl) (.inr rfl) (.inr rfl) (.inr rfl) (.inr rfl) (.inr rfl) (.inl (mask_bit hk rfl)) (.inr rfl) (.inr rfl) (.inr rfl) (.inr rfl) (.inr rfl) (.inr rfl) (.inr rfl) (.inr rfl) (.inr rfl) (.inr rfl) (.inr rfl) (.inr rfl) (.inr rfl) (.inr rfl) (.inr rfl) (.inr rfl) (.inr rfl) (.inr rfl) (.inr rfl) (.inr rfl) (.inr rfl) (.inr rfl) (.inr rfl)
    | (first | exact mask_sub hk rfl | exact hk)
    | with_reducible (first | refine Kept_snd (by assumption) ?_ | refine Kept_fst (by assumption) ?_)
    | with_reducible exact Kept_of_next (by assumption)
    | with_reducible (refine Kept_of_O (by assumption) ?_)
    | with_reducible (first | refine Kept_regs (g := g) ?_ (by assumption) | refine Kept_ram (g := g) ?_ (by assumption) | refine Kept_mram (g := g) ?_ (by assumption) | refine Kept_flt (g := g) ?_ (by assumption) | refine Kept_var ?_ | refine Kept_ev ?_ (by assumption) | refine Kept_has ?_ | refine Kept_out ?_ | refine Kept_ctr ?_)
    | dsimp -zeta only
    | split)

theorem kept_partnerHere {x0} (h0 : Kept g x0) (hk : 545259520 &&& g.mask = 545259520) : Kept g (State.partnerHere x0) := by
  unfold State.partnerHere
  repeat' (first | with_reducible assumption | exact mask_sub hk rfl | with_reducible (first | apply kept_raise | apply kept_setB | apply kept_enterResync | apply Kept_ite) | split | intro _)

theorem kept_pathGood {x0 x1 x2} (h0 : Kept g x0) : Kept g (State.pathGood x0 x1 x2) := by
  unfold State.pathGood
  repeat' (first | with_reducible assumption | with_reducible (first | apply kept_raiseIf | apply kept_setF | apply Kept_ite) | split | intro _)

theorem kept_pathLost {x0 x1} (h0 : Kept g x0) (hk : 8388864 &&& g.mask = 8388864) : Kept g (State.pathLost x0 x1) := by
  unfold State.pathLost
  repeat' (first
    | with_reducible assumption
    | with_reducible refine fun _ => ?_
    | ((try lift_lets); intro s; refine (have hs : Kept g s := ?_; ?_); subst s; rotate_left; clear_value s; rotate_left)
    | ((try lift_lets); first | (intro (x : Mram); subst x) | (intro (x : Compositor); subst x) | (intro (x : Store 32); subst x) | (intro (x : Store 8); subst x) | (intro (x : State × _); subst x) | (intro (x : _ × State); subst x) | (intro (x : _ × _ × State); subst x) | (intro (x : State → _); subst x) | (intro (x : _ → State → _); subst x) | (intro (x : _ → State); subst x) | (intro x; clear_value x))
    | (simp only [↓Kept_mk_iff]; refine And.intro ?_ (And.intro ?_ (And.intro ?_ (And.intro ?_ (And.intro ?_ (And.intro ?_ (And.intro ?_ (And.intro ?_ (And.intro ?_ ?_)))))))))
    | with_reducible (first | apply kept_raise | apply kept_setF | apply kept_pairUnaligned | apply Kept_ite)
    | with_reducible (first | exact Kept_regs (by assumption) (by assumption) | exact Kept_ram (by assumption) (by assumption) | exact Kept_mram (by assumption) (by assumption) | exact Kept_flt (by assumption) (by assumption) | exact Kept_var (by assumption) | exact Kept_ev (by assumption) (by assumption) | exact Kept_has (by assumption) | exact Kept_out (by assumption) | exact Kept_ctr (by assumption) | exact watchE_none (by assumption))
    | with_reducible refine Only_mk ?_ (.inr rfl) (.inr rfl) (.inr rfl) (.inr rfl) (.inr rfl) (.inr rfl) (.inr rfl) (.inr rfl) (.inr rfl) (.inr rfl) (.inr rfl) (.inr rfl) (.inr rfl) (.inr rfl) (.inr rfl) (.inr rfl) (.inr rfl) (.inr rfl) (.inr rfl) (.inr rfl) (.inl (mask_bit hk rfl)) (.inr rfl) (.inr rfl) (.inr rfl) (.inr rfl) (.inr rfl) (.inr rfl) (.inr rfl) (.inr rfl) (.inr rfl)
    | (first | exact mask_sub hk rfl | exact hk)
    | with_reducible (first | refine Kept_snd (by assumption) ?_ | refine Kept_fst (by assumption) ?_)
    | with_reducible exact Kept_of_next (by assumption)
    | with_reducible (refine Kept_of_O (by assumption) ?_)
    | with_reducible (first | refine Kept_regs (g := g) ?_ (by assumption) | refine Kept_ram (g := g) ?_ (by assumption) | refine Kept_mram (g := g) ?_ (by assumption) | refine Kept_flt (g := g) ?_ (by assumption) | refine Kept_var ?_ | refine Kept_ev ?_ (by assumption) | refine Kept_has ?_ | refine Kept_out ?_ | refine Kept_ctr ?_)
    | dsimp -zeta only
    | split)

theorem kept_pdDone {x0 x1 x2 x3 x4} (h0 : Kept g x0) (hk : 256 &&& g.mask = 256) : Kept g (State.pdDone x0 x1 x2 x3 x4) := by
  unfold State.pdDone
  repeat' (first
    | with_reducible assumption
    | with_reducible refine fun _ => ?_
    | ((try lift_lets); intro s; refine (have hs : Kept g s := ?_; ?_); subst s; rotate_left; clear_value s; rotate_left)
    | ((try lift_lets); first | (intro (x : Mram); subst x) | (intro (x : Compositor); subst x) | (intro (x : Store 32); subst x) | (intro (x : Store 8); subst x) | (intro (x : State × _); subst x) | (intro (x : _ × State); subst x) | (intro (x : _ × _ × State); subst x) | (intro (x : State → _); subst x) | (intro (x : _ → State → _); subst x) | (intro (x : _ → State); subst x) | (intro x; clear_value x))
    | (simp only [↓Kept_mk_iff]; refine And.intro ?_ (And.intro ?_ (And.intro ?_ (And.intro ?_ (And.intro ?_ (And.intro ?_ (And.intro ?_ (And.intro ?_ (And.intro ?_ ?_)))))))))
    | with_reducible (first | apply Kept_ite)
    | with_reducible (first | exact Kept_regs (by assumption) (by assumption) | exact Kept_ram (by assumption) (by assumption) | exact Kept_mram (by assumption) (by assumption) | exact Kept_flt (by assumption) (by assumption) | exact Kept_var (by assumption) | exact Kept_ev (by assumption) (by assumption) | exact Kept_has (by assumption) | exact Kept_out (by assumption) | exact Kept_ctr (by assumption) | exact watchE_none (by assumption))
    | with_reducible refine Only_mk ?_ (.inr rfl) (.inr rfl) (.inr rfl) (.inr rfl) (.inr rfl) (.inr rfl) (.inl (mask_bit hk rfl)) (.inr rfl) (.inr rfl) (.inr rfl) (.inr rfl) (.inr rfl) (.inr rfl) (.inr rfl) (.inr rfl) (.inr rfl) (.inr rfl) (.inr rfl) (.inr rfl) (.inr rfl) (.inr rfl) (.inr rfl) (.inr rfl) (.inr rfl) (.inr rfl) (.inr rfl) (.inr rfl) (.inr rfl) (.inr rfl) (.inr rfl)
    | (first | exact mask_sub hk rfl | exact hk)
    | with_reducible (first | refine Kept_snd (by assumption) ?_ | refine Kept_fst (by assumption) ?_)
    | with_reducible exact Kept_of_next (by assumption)
    | with_reducible (refine Kept_of_O (by assumption) ?_)
    | with_reducible (first | refine Kept_regs (g := g) ?_ (by assumption) | refine Kept_ram (g := g) ?_ (by assumption) | refine Kept_mram (g := g) ?_ (by assumption) | refine Kept_flt (g := g) ?_ (by assumption) | refine Kept_var ?_ | refine Kept_ev ?_ (by assumption) | refine Kept_has ?_ | refine Kept_out ?_ | refine Kept_ctr ?_)
    | dsimp -zeta only
    | split)

theorem kept_planTake {x0} (h0 : Kept g x0) (hk : 6291456 &&& g.mask = 6291456) : Kept g (State.planTake x0) := by
  unfold State.planTake
  repeat' (first
    | with_reducible assumption
    | with_reducible refine fun _ => ?_
    | ((try lift_lets); intro s; refine (have hs : Kept g s := ?_; ?_); subst s; rotate_left; clear_value s; rotate_left)
    | ((try lift_lets); first | (intro (x : Mram); subst x) | (intro (x : Compositor); subst x) | (intro (x : Store 32); subst x) | (intro (x : Store 8); subst x) | (intro (x : State × _); subst x) | (intro (x : _ × State); subst x) | (intro (x : _ × _ × State); subst x) | (intro (x : State → _); subst x) | (intro (x : _ → State → _); subst x) | (intro (x : _ → State); subst x) | (intro x; clear_value x))
    | (simp only [↓Kept_mk_iff]; refine And.intro ?_ (And.intro ?_ (And.intro ?_ (And.intro ?_ (And.intro ?_ (And.intro ?_ (And.intro ?_ (And.intro ?_ (And.intro ?_ ?_)))))))))
    | with_reducible (first | apply Kept_ite)
    | with_reducible (first | exact Kept_regs (by assumption) (by assumption) | exact Kept_ram (by assumption) (by assumption) | exact Kept_mram (by assumption) (by assumption) | exact Kept_flt (by assumption) (by assumption) | exact Kept_var (by assumption) | exact Kept_ev (by assumption) (by assumption) | exact Kept_has (by assumption) | exact Kept_out (by assumption) | exact Kept_ctr (by assumption) | exact watchE_none (by assumption))
    | with_reducible refine Only_mk ?_ (.inr rfl) (.inr rfl) (.inr rfl) (.inr rfl) (.inr rfl) (.inr rfl) (.inr rfl) (.inr rfl) (.inr rfl) (.inr rfl) (.inr rfl) (.inr rfl) (.inr rfl) (.inr rfl) (.inr rfl) (.inr rfl) (.inr rfl) (.inr rfl) (.inl (mask_bit hk rfl)) (.inl (mask_bit hk rfl)) (.inr rfl) (.inr rfl) (.inr rfl) (.inr rfl) (.inr rfl) (.inr rfl) (.inr rfl) (.inr rfl) (.inr rfl) (.inr rfl)
    | (first | exact mask_sub hk rfl | exact hk)
    | with_reducible (first | refine Kept_snd (by assumption) ?_ | refine Kept_fst (by assumption) ?_)
    | with_reducible exact Kept_of_next (by assumption)
    | with_reducible (refine Kept_of_O (by assumption) ?_)
    | with_reducible (first | refine Kept_regs (g := g) ?_ (by assumption) | refine Kept_ram (g := g) ?_ (by assumption) | refine Kept_mram (g := g) ?_ (by assumption) | refine Kept_flt (g := g) ?_ (by assumption) | refine Kept_var ?_ | refine Kept_ev ?_ (by assumption) | refine Kept_has ?_ | refine Kept_out ?_ | refine Kept_ctr ?_)
    | dsimp -zeta only
    | split)

theorem kept_plnkDown {x0} (h0 : Kept g x0) (hk : 753891648 &&& g.mask = 753891648) : Kept g (State.plnkDown x0) := by
  unfold State.plnkDown
  repeat' (first
    | with_reducible assumption
    | with_reducible refine fun _ => ?_
    | ((try lift_lets); intro s; refine (have hs : Kept g s := ?_; ?_); subst s; rotate_left; clear_value s; rotate_left)
    | ((try lift_lets); first | (intro (x : Mram); subst x) | (intro (x : Compositor); subst x) | (intro (x : Store 32); subst x) | (intro (x : Store 8); subst x) | (intro (x : State × _); subst x) | (intro (x : _ × State); subst x) | (intro (x : _ × _ × State); subst x) | (intro (x : State → _); subst x) | (intro (x : _ → State → _); subst x) | (intro (x : _ → State); subst x) | (intro x; clear_value x))
    | (simp only [↓Kept_mk_iff]; refine And.intro ?_ (And.intro ?_ (And.intro ?_ (And.intro ?_ (And.intro ?_ (And.intro ?_ (And.intro ?_ (And.intro ?_ (And.intro ?_ ?_)))))))))
    | with_reducible (first | apply kept_raise | apply kept_setB | apply kept_pathLost | apply kept_nodeWrite | apply kept_newBreak | apply Kept_ite)
    | with_reducible (first | exact Kept_regs (by assumption) (by assumption) | exact Kept_ram (by assumption) (by assumption) | exact Kept_mram (by assumption) (by assumption) | exact Kept_flt (by assumption) (by assumption) | exact Kept_var (by assumption) | exact Kept_ev (by assumption) (by assumption) | exact Kept_has (by assumption) | exact Kept_out (by assumption) | exact Kept_ctr (by assumption) | exact watchE_none (by assumption))
    | with_reducible refine Only_mk ?_ (.inr rfl) (.inr rfl) (.inr rfl) (.inr rfl) (.inr rfl) (.inr rfl) (.inr rfl) (.inr rfl) (.inr rfl) (.inr rfl) (.inr rfl) (.inr rfl) (.inr rfl) (.inr rfl) (.inr rfl) (.inr rfl) (.inr rfl) (.inr rfl) (.inr rfl) (.inr rfl) (.inl (mask_bit hk rfl)) (.inr rfl) (.inr rfl) (.inr rfl) (.inr rfl) (.inr rfl) (.inr rfl) (.inr rfl) (.inr rfl) (.inr rfl)
    | (first | exact mask_sub hk rfl | exact hk)
    | with_reducible (first | refine Kept_snd (by assumption) ?_ | refine Kept_fst (by assumption) ?_)
    | with_reducible exact Kept_of_next (by assumption)
    | with_reducible (refine Kept_of_O (by assumption) ?_)
    | with_reducible (first | refine Kept_regs (g := g) ?_ (by assumption) | refine Kept_ram (g := g) ?_ (by assumption) | refine Kept_mram (g := g) ?_ (by assumption) | refine Kept_flt (g := g) ?_ (by assumption) | refine Kept_var ?_ | refine Kept_ev ?_ (by assumption) | refine Kept_has ?_ | refine Kept_out ?_ | refine Kept_ctr ?_)
    | dsimp -zeta only
    | split)

theorem kept_portOut {x0 x1 x2 x3 x4} (h0 : Kept g x0) : Kept g (State.portOut x0 x1 x2 x3 x4) := by
  unfold State.portOut
  repeat' (first | with_reducible assumption | with_reducible (first | apply kept_ethOut | apply Kept_ite) | split | intro _)

theorem kept_profPublish {x0 x1} (h0 : Kept g x0) : Kept g (State.profPublish x0 x1) := by
  unfold State.profPublish
  repeat' (first | with_reducible assumption | with_reducible (first | apply kept_setI | apply kept_setB | apply Kept_ite) | split | intro _)

theorem kept_profMove {x0 x1 x2} (h0 : Kept g x0) (hk : 16384 &&& g.mask = 16384) : Kept g (State.profMove x0 x1 x2) := by
  unfold State.profMove
  repeat' (first
    | with_reducible assumption
    | with_reducible refine fun _ => ?_
    | ((try lift_lets); intro s; refine (have hs : Kept g s := ?_; ?_); subst s; rotate_left; clear_value s; rotate_left)
    | ((try lift_lets); first | (intro (x : Mram); subst x) | (intro (x : Compositor); subst x) | (intro (x : Store 32); subst x) | (intro (x : Store 8); subst x) | (intro (x : State × _); subst x) | (intro (x : _ × State); subst x) | (intro (x : _ × _ × State); subst x) | (intro (x : State → _); subst x) | (intro (x : _ → State → _); subst x) | (intro (x : _ → State); subst x) | (intro x; clear_value x))
    | (simp only [↓Kept_mk_iff]; refine And.intro ?_ (And.intro ?_ (And.intro ?_ (And.intro ?_ (And.intro ?_ (And.intro ?_ (And.intro ?_ (And.intro ?_ (And.intro ?_ ?_)))))))))
    | with_reducible (first | apply kept_raiseIf | apply kept_profPublish | apply Kept_ite)
    | with_reducible (first | exact Kept_regs (by assumption) (by assumption) | exact Kept_ram (by assumption) (by assumption) | exact Kept_mram (by assumption) (by assumption) | exact Kept_flt (by assumption) (by assumption) | exact Kept_var (by assumption) | exact Kept_ev (by assumption) (by assumption) | exact Kept_has (by assumption) | exact Kept_out (by assumption) | exact Kept_ctr (by assumption) | exact watchE_none (by assumption))
    | with_reducible refine Only_mk ?_ (.inr rfl) (.inr rfl) (.inr rfl) (.inr rfl) (.inr rfl) (.inr rfl) (.inr rfl) (.inr rfl) (.inr rfl) (.inr rfl) (.inr rfl) (.inl (mask_bit hk rfl)) (.inr rfl) (.inr rfl) (.inr rfl) (.inr rfl) (.inr rfl) (.inr rfl) (.inr rfl) (.inr rfl) (.inr rfl) (.inr rfl) (.inr rfl) (.inr rfl) (.inr rfl) (.inr rfl) (.inr rfl) (.inr rfl) (.inr rfl) (.inr rfl)
    | (first | exact mask_sub hk rfl | exact hk)
    | with_reducible (first | refine Kept_snd (by assumption) ?_ | refine Kept_fst (by assumption) ?_)
    | with_reducible exact Kept_of_next (by assumption)
    | with_reducible (refine Kept_of_O (by assumption) ?_)
    | with_reducible (first | refine Kept_regs (g := g) ?_ (by assumption) | refine Kept_ram (g := g) ?_ (by assumption) | refine Kept_mram (g := g) ?_ (by assumption) | refine Kept_flt (g := g) ?_ (by assumption) | refine Kept_var ?_ | refine Kept_ev ?_ (by assumption) | refine Kept_has ?_ | refine Kept_out ?_ | refine Kept_ctr ?_)
    | dsimp -zeta only
    | split)

theorem kept_profStep {x0} (h0 : Kept g x0) (hk : 16384 &&& g.mask = 16384) : Kept g (State.profStep x0) := by
  unfold State.profStep
  try generalize @State.authority = g0
  try generalize @State.baseSource = g1
  try generalize @F64.lt = g2
  try generalize @mAtoA = g3
  try generalize @State.getI = g4
  try generalize @clampI = g5
  repeat' (first
    | with_reducible assumption
    | with_reducible refine fun _ => ?_
    | ((try lift_lets); intro s; refine (have hs : Kept g s := ?_; ?_); subst s; rotate_left; clear_value s; rotate_left)
    | ((try lift_lets); first | (intro (x : Mram); subst x) | (intro (x : Compositor); subst x) | (intro (x : Store 32); subst x) | (intro (x : Store 8); subst x) | (intro (x : State × _); subst x) | (intro (x : _ × State); subst x) | (intro (x : _ × _ × State); subst x) | (intro (x : State → _); subst x) | (intro (x : _ → State → _); subst x) | (intro (x : _ → State); subst x) | (intro x; clear_value x))
    | (simp only [↓Kept_mk_iff]; refine And.intro ?_ (And.intro ?_ (And.intro ?_ (And.intro ?_ (And.intro ?_ (And.intro ?_ (And.intro ?_ (And.intro ?_ (And.intro ?_ ?_)))))))))
    | with_reducible (first | apply kept_setI | apply kept_setB | apply kept_profPublish | apply kept_profZero | apply kept_setReg | apply kept_setSource | apply kept_profMove | apply kept_raiseIf | apply Kept_ite)
    | with_reducible (first | exact Kept_regs (by assumption) (by assumption) | exact Kept_ram (by assumption) (by assumption) | exact Kept_mram (by assumption) (by assumption) | exact Kept_flt (by assumption) (by assumption) | exact Kept_var (by assumption) | exact Kept_ev (by assumption) (by assumption) | exact Kept_has (by assumption) | exact Kept_out (by assumption) | exact Kept_ctr (by assumption) | exact watchE_none (by assumption))
    | with_reducible refine Only_mk ?_ (.inr rfl) (.inr rfl) (.inr rfl) (.inr rfl) (.inr rfl) (.inr rfl) (.inr rfl) (.inr rfl) (.inr rfl) (.inr rfl) (.inr rfl) (.inl (mask_bit hk rfl)) (.inr rfl) (.inr rfl) (.inr rfl) (.inr rfl) (.inr rfl) (.inr rfl) (.inr rfl) (.inr rfl) (.inr rfl) (.inr rfl) (.inr rfl) (.inr rfl) (.inr rfl) (.inr rfl) (.inr rfl) (.inr rfl) (.inr rfl) (.inr rfl)
    | (first | exact mask_sub hk rfl | exact hk)
    | with_reducible (first | refine Kept_snd (by assumption) ?_ | refine Kept_fst (by assumption) ?_)
    | with_reducible exact Kept_of_next (by assumption)
    | with_reducible (refine Kept_of_O (by assumption) ?_)
    | with_reducible (first | refine Kept_regs (g := g) ?_ (by assumption) | refine Kept_ram (g := g) ?_ (by assumption) | refine Kept_mram (g := g) ?_ (by assumption) | refine Kept_flt (g := g) ?_ (by assumption) | refine Kept_var ?_ | refine Kept_ev ?_ (by assumption) | refine Kept_has ?_ | refine Kept_out ?_ | refine Kept_ctr ?_)
    | dsimp -zeta only
    | split)

theorem kept_ptpForward {x0 x1 x2 x3} (h0 : Kept g x0) : Kept g (State.ptpForward x0 x1 x2 x3) := by
  unfold State.ptpForward
  repeat' (first | with_reducible assumption | with_reducible (first | apply kept_fresh | apply kept_portOut | apply Kept_ite) | split | intro _)

theorem kept_unmapped {x0 x1 x2 x3} (h0 : Kept g x0) : Kept g (State.unmapped x0 x1 x2 x3) := by
  unfold State.unmapped
  repeat' (first | with_reducible assumption | with_reducible (first | apply kept_refuse | apply kept_raise | apply Kept_ite) | split | intro _)

theorem kept_readWord {x0 x1 x2} (h0 : Kept g x0) (hk : 2281709568 &&& g.mask = 2281709568) : Kept g (State.readWord x0 x1 x2).2 := by
  unfold State.readWord
  repeat' (first
    | with_reducible assumption
    | with_reducible refine fun _ => ?_
    | ((try lift_lets); intro s; refine (have hs : Kept g s := ?_; ?_); subst s; rotate_left; clear_value s; rotate_left)
    | ((try lift_lets); first | (intro (x : Mram); subst x) | (intro (x : Compositor); subst x) | (intro (x : Store 32); subst x) | (intro (x : Store 8); subst x) | (intro (x : State × _); subst x) | (intro (x : _ × State); subst x) | (intro (x : _ × _ × State); subst x) | (intro (x : State → _); subst x) | (intro (x : _ → State → _); subst x) | (intro (x : _ → State); subst x) | (intro x; clear_value x))
    | (simp only [↓Kept_mk_iff]; refine And.intro ?_ (And.intro ?_ (And.intro ?_ (And.intro ?_ (And.intro ?_ (And.intro ?_ (And.intro ?_ (And.intro ?_ (And.intro ?_ ?_)))))))))
    | with_reducible (first | apply kept_unlatch | apply kept_latch | apply kept_latchVote | apply kept_clearRead | apply kept_headRead | apply Kept_ite | apply Kept_ite1 | apply Kept_ite2 | apply Kept_ite3)
    | with_reducible (first | exact Kept_regs (by assumption) (by assumption) | exact Kept_ram (by assumption) (by assumption) | exact Kept_mram (by assumption) (by assumption) | exact Kept_flt (by assumption) (by assumption) | exact Kept_var (by assumption) | exact Kept_ev (by assumption) (by assumption) | exact Kept_has (by assumption) | exact Kept_out (by assumption) | exact Kept_ctr (by assumption) | exact watchE_none (by assumption))
    | with_reducible refine Only_mk ?_ (.inr rfl) (.inr rfl) (.inr rfl) (.inr rfl) (.inr rfl) (.inr rfl) (.inr rfl) (.inr rfl) (.inr rfl) (.inr rfl) (.inr rfl) (.inr rfl) (.inr rfl) (.inr rfl) (.inr rfl) (.inr rfl) (.inr rfl) (.inr rfl) (.inr rfl) (.inr rfl) (.inr rfl) (.inr rfl) (.inr rfl) (.inr rfl) (.inr rfl) (.inr rfl) (.inr rfl) (.inr rfl) (.inr rfl) (.inr rfl)
    | (first | exact mask_sub hk rfl | exact hk)
    | with_reducible (first | refine Kept_snd (by assumption) ?_ | refine Kept_fst (by assumption) ?_)
    | with_reducible exact Kept_of_next (by assumption)
    | with_reducible (refine Kept_of_O (by assumption) ?_)
    | with_reducible (first | refine Kept_regs (g := g) ?_ (by assumption) | refine Kept_ram (g := g) ?_ (by assumption) | refine Kept_mram (g := g) ?_ (by assumption) | refine Kept_flt (g := g) ?_ (by assumption) | refine Kept_var ?_ | refine Kept_ev ?_ (by assumption) | refine Kept_has ?_ | refine Kept_out ?_ | refine Kept_ctr ?_)
    | dsimp -zeta only
    | split)

theorem kept_readWords {x0 x1 x2 x3} (h0 : Kept g x0) (hk : 2281709568 &&& g.mask = 2281709568) : Kept g (State.readWords x0 x1 x2 x3).2 := by
  induction x3 generalizing x0 x2 with
  | zero => exact h0
  | succ a ih =>
    unfold State.readWords
    repeat' (first
      | with_reducible assumption
      | with_reducible refine fun _ => ?_
      | ((try lift_lets); intro s; refine (have hs : Kept g s := ?_; ?_); subst s; rotate_left; clear_value s; rotate_left)
      | ((try lift_lets); first | (intro (x : Mram); subst x) | (intro (x : Compositor); subst x) | (intro (x : Store 32); subst x) | (intro (x : Store 8); subst x) | (intro (x : State × _); subst x) | (intro (x : _ × State); subst x) | (intro (x : _ × _ × State); subst x) | (intro (x : State → _); subst x) | (intro (x : _ → State → _); subst x) | (intro (x : _ → State); subst x) | (intro x; clear_value x))
      | (simp only [↓Kept_mk_iff]; refine And.intro ?_ (And.intro ?_ (And.intro ?_ (And.intro ?_ (And.intro ?_ (And.intro ?_ (And.intro ?_ (And.intro ?_ (And.intro ?_ ?_)))))))))
      | with_reducible (first | apply ih | apply kept_readWord | apply Kept_ite | apply Kept_ite1 | apply Kept_ite2 | apply Kept_ite3)
      | with_reducible (first | exact Kept_regs (by assumption) (by assumption) | exact Kept_ram (by assumption) (by assumption) | exact Kept_mram (by assumption) (by assumption) | exact Kept_flt (by assumption) (by assumption) | exact Kept_var (by assumption) | exact Kept_ev (by assumption) (by assumption) | exact Kept_has (by assumption) | exact Kept_out (by assumption) | exact Kept_ctr (by assumption) | exact watchE_none (by assumption))
      | (first | exact mask_sub hk rfl | exact hk)
      | with_reducible (first | refine Kept_snd (by assumption) ?_ | refine Kept_fst (by assumption) ?_)
      | with_reducible exact Kept_of_next (by assumption)
      | with_reducible (refine Kept_of_O (by assumption) ?_)
      | with_reducible (first | refine Kept_regs (g := g) ?_ (by assumption) | refine Kept_ram (g := g) ?_ (by assumption) | refine Kept_mram (g := g) ?_ (by assumption) | refine Kept_flt (g := g) ?_ (by assumption) | refine Kept_var ?_ | refine Kept_ev ?_ (by assumption) | refine Kept_has ?_ | refine Kept_out ?_ | refine Kept_ctr ?_)
      | dsimp -zeta only
      | split)

theorem kept_readAny {x0 x1 x2 x3} (h0 : Kept g x0) (hk : 2281709568 &&& g.mask = 2281709568) : Kept g (State.readAny x0 x1 x2 x3).2.2 := by
  unfold State.readAny
  repeat' (first
    | with_reducible assumption
    | with_reducible refine fun _ => ?_
    | ((try lift_lets); intro s; refine (have hs : Kept g s := ?_; ?_); subst s; rotate_left; clear_value s; rotate_left)
    | ((try lift_lets); first | (intro (x : Mram); subst x) | (intro (x : Compositor); subst x) | (intro (x : Store 32); subst x) | (intro (x : Store 8); subst x) | (intro (x : State × _); subst x) | (intro (x : _ × State); subst x) | (intro (x : _ × _ × State); subst x) | (intro (x : State → _); subst x) | (intro (x : _ → State → _); subst x) | (intro (x : _ → State); subst x) | (intro x; clear_value x))
    | (simp only [↓Kept_mk_iff]; refine And.intro ?_ (And.intro ?_ (And.intro ?_ (And.intro ?_ (And.intro ?_ (And.intro ?_ (And.intro ?_ (And.intro ?_ (And.intro ?_ ?_)))))))))
    | with_reducible (first | apply kept_pmpFault | apply kept_unmapped | apply kept_fresh | apply kept_refuse | apply kept_readWords | apply Kept_ite | apply Kept_ite1 | apply Kept_ite2 | apply Kept_ite3)
    | with_reducible (first | exact Kept_regs (by assumption) (by assumption) | exact Kept_ram (by assumption) (by assumption) | exact Kept_mram (by assumption) (by assumption) | exact Kept_flt (by assumption) (by assumption) | exact Kept_var (by assumption) | exact Kept_ev (by assumption) (by assumption) | exact Kept_has (by assumption) | exact Kept_out (by assumption) | exact Kept_ctr (by assumption) | exact watchE_none (by assumption))
    | with_reducible refine Only_mk ?_ (.inr rfl) (.inr rfl) (.inr rfl) (.inr rfl) (.inr rfl) (.inr rfl) (.inr rfl) (.inr rfl) (.inr rfl) (.inr rfl) (.inr rfl) (.inr rfl) (.inr rfl) (.inr rfl) (.inr rfl) (.inr rfl) (.inr rfl) (.inr rfl) (.inr rfl) (.inr rfl) (.inr rfl) (.inr rfl) (.inr rfl) (.inr rfl) (.inr rfl) (.inr rfl) (.inr rfl) (.inr rfl) (.inr rfl) (.inr rfl)
    | (first | exact mask_sub hk rfl | exact hk)
    | with_reducible (first | refine Kept_snd (by assumption) ?_ | refine Kept_fst (by assumption) ?_)
    | with_reducible exact Kept_of_next (by assumption)
    | with_reducible (refine Kept_of_O (by assumption) ?_)
    | with_reducible (first | refine Kept_regs (g := g) ?_ (by assumption) | refine Kept_ram (g := g) ?_ (by assumption) | refine Kept_mram (g := g) ?_ (by assumption) | refine Kept_flt (g := g) ?_ (by assumption) | refine Kept_var ?_ | refine Kept_ev ?_ (by assumption) | refine Kept_has ?_ | refine Kept_out ?_ | refine Kept_ctr ?_)
    | dsimp -zeta only
    | split)

theorem kept_readGroup {x0 x1 x2} (h0 : Kept g x0) (hk : 2281709568 &&& g.mask = 2281709568) : Kept g (State.readGroup x0 x1 x2).2 := by
  induction x2 generalizing x0 with
  | nil => exact h0
  | cons a t ih =>
    unfold State.readGroup
    repeat' (first
      | with_reducible assumption
      | with_reducible refine fun _ => ?_
      | ((try lift_lets); intro s; refine (have hs : Kept g s := ?_; ?_); subst s; rotate_left; clear_value s; rotate_left)
      | ((try lift_lets); first | (intro (x : Mram); subst x) | (intro (x : Compositor); subst x) | (intro (x : Store 32); subst x) | (intro (x : Store 8); subst x) | (intro (x : State × _); subst x) | (intro (x : _ × State); subst x) | (intro (x : _ × _ × State); subst x) | (intro (x : State → _); subst x) | (intro (x : _ → State → _); subst x) | (intro (x : _ → State); subst x) | (intro x; clear_value x))
      | (simp only [↓Kept_mk_iff]; refine And.intro ?_ (And.intro ?_ (And.intro ?_ (And.intro ?_ (And.intro ?_ (And.intro ?_ (And.intro ?_ (And.intro ?_ (And.intro ?_ ?_)))))))))
      | with_reducible (first | apply ih | apply kept_readWord | apply Kept_ite | apply Kept_ite1 | apply Kept_ite2 | apply Kept_ite3)
      | with_reducible (first | exact Kept_regs (by assumption) (by assumption) | exact Kept_ram (by assumption) (by assumption) | exact Kept_mram (by assumption) (by assumption) | exact Kept_flt (by assumption) (by assumption) | exact Kept_var (by assumption) | exact Kept_ev (by assumption) (by assumption) | exact Kept_has (by assumption) | exact Kept_out (by assumption) | exact Kept_ctr (by assumption) | exact watchE_none (by assumption))
      | (first | exact mask_sub hk rfl | exact hk)
      | with_reducible (first | refine Kept_snd (by assumption) ?_ | refine Kept_fst (by assumption) ?_)
      | with_reducible exact Kept_of_next (by assumption)
      | with_reducible (refine Kept_of_O (by assumption) ?_)
      | with_reducible (first | refine Kept_regs (g := g) ?_ (by assumption) | refine Kept_ram (g := g) ?_ (by assumption) | refine Kept_mram (g := g) ?_ (by assumption) | refine Kept_flt (g := g) ?_ (by assumption) | refine Kept_var ?_ | refine Kept_ev ?_ (by assumption) | refine Kept_has ?_ | refine Kept_out ?_ | refine Kept_ctr ?_)
      | dsimp -zeta only
      | split)

end Sys2Proof.Machine
end

