-- ==== Sys2Proof/Laws/Kept8.lean ====
section
/-! SUPPORT. What operations and meanings keep (Laws/Kept.lean), part 8 of 8. -/

set_option linter.all false
set_option Elab.async false

namespace Sys2Proof.Machine

variable {g : Watch}

theorem kept_execNote {x0 x1} (h1 : Kept g x1) : KeptO g (execNote x0 x1) := by
  unfold execNote
  repeat' (first | with_reducible assumption | with_reducible (first | apply kept_raise | apply kept_setReg | apply KeptO_ite | apply KeptO_next | apply Kept_ite) | split | intro _)

theorem kept_execShadowNow {x0} (h0 : Kept g x0) (hk : 67108864 &&& g.mask = 67108864) : KeptO g (execShadowNow x0) := by
  unfold execShadowNow
  repeat' (first
    | with_reducible assumption
    | with_reducible refine fun _ => ?_
    | ((try lift_lets); intro s; refine (have hs : Kept g s := ?_; ?_); subst s; rotate_left; clear_value s; rotate_left)
    | ((try lift_lets); first | (intro (x : Mram); subst x) | (intro (x : Compositor); subst x) | (intro (x : Store 32); subst x) | (intro (x : Store 8); subst x) | (intro (x : State × _); subst x) | (intro (x : _ × State); subst x) | (intro (x : _ × _ × State); subst x) | (intro (x : State → _); subst x) | (intro (x : _ → State → _); subst x) | (intro (x : _ → State); subst x) | (intro x; clear_value x))
    | (simp only [↓Kept_mk_iff]; refine And.intro ?_ (And.intro ?_ (And.intro ?_ (And.intro ?_ (And.intro ?_ (And.intro ?_ (And.intro ?_ (And.intro ?_ (And.intro ?_ ?_)))))))))
    | with_reducible (first | apply Kept_ite | apply KeptO_ite | apply KeptO_next)
    | with_reducible (first | exact Kept_regs (by assumption) (by assumption) | exact Kept_ram (by assumption) (by assumption) | exact Kept_mram (by assumption) (by assumption) | exact Kept_flt (by assumption) (by assumption) | exact Kept_var (by assumption) | exact Kept_ev (by assumption) (by assumption) | exact Kept_has (by assumption) | exact Kept_out (by assumption) | exact Kept_ctr (by assumption) | exact watchE_none (by assumption))
    | with_reducible refine Only_mk ?_ (.inr rfl) (.inr rfl) (.inr rfl) (.inr rfl) (.inr rfl) (.inr rfl) (.inr rfl) (.inr rfl) (.inr rfl) (.inr rfl) (.inr rfl) (.inr rfl) (.inr rfl) (.inr rfl) (.inr rfl) (.inr rfl) (.inr rfl) (.inr rfl) (.inr rfl) (.inr rfl) (.inr rfl) (.inr rfl) (.inr rfl) (.inl (mask_bit hk rfl)) (.inr rfl) (.inr rfl) (.inr rfl) (.inr rfl) (.inr rfl) (.inr rfl)
    | (first | exact mask_sub hk rfl | exact hk)
    | with_reducible (first | refine Kept_snd (by assumption) ?_ | refine Kept_fst (by assumption) ?_)
    | with_reducible exact Kept_of_next (by assumption)
    | with_reducible (refine Kept_of_O (by assumption) ?_)
    | with_reducible (first | refine Kept_regs (g := g) ?_ (by assumption) | refine Kept_ram (g := g) ?_ (by assumption) | refine Kept_mram (g := g) ?_ (by assumption) | refine Kept_flt (g := g) ?_ (by assumption) | refine Kept_var ?_ | refine Kept_ev ?_ (by assumption) | refine Kept_has ?_ | refine Kept_out ?_ | refine Kept_ctr ?_)
    | dsimp -zeta only
    | split)

theorem kept_execWait {x0 x1 x2 x3} (h3 : Kept g x3) (hk : 4 &&& g.mask = 4) : KeptO g (execWait x0 x1 x2 x3) := by
  unfold execWait
  repeat' (first
    | with_reducible assumption
    | with_reducible refine fun _ => ?_
    | ((try lift_lets); intro s; refine (have hs : Kept g s := ?_; ?_); subst s; rotate_left; clear_value s; rotate_left)
    | ((try lift_lets); first | (intro (x : Mram); subst x) | (intro (x : Compositor); subst x) | (intro (x : Store 32); subst x) | (intro (x : Store 8); subst x) | (intro (x : State × _); subst x) | (intro (x : _ × State); subst x) | (intro (x : _ × _ × State); subst x) | (intro (x : State → _); subst x) | (intro (x : _ → State → _); subst x) | (intro (x : _ → State); subst x) | (intro x; clear_value x))
    | (simp only [↓Kept_mk_iff]; refine And.intro ?_ (And.intro ?_ (And.intro ?_ (And.intro ?_ (And.intro ?_ (And.intro ?_ (And.intro ?_ (And.intro ?_ (And.intro ?_ ?_)))))))))
    | with_reducible (first | apply kept_waitCopy | apply Kept_ite | apply KeptO_ite | apply KeptO_next)
    | with_reducible (first | exact Kept_regs (by assumption) (by assumption) | exact Kept_ram (by assumption) (by assumption) | exact Kept_mram (by assumption) (by assumption) | exact Kept_flt (by assumption) (by assumption) | exact Kept_var (by assumption) | exact Kept_ev (by assumption) (by assumption) | exact Kept_has (by assumption) | exact Kept_out (by assumption) | exact Kept_ctr (by assumption) | exact watchE_none (by assumption))
    | with_reducible refine Only_mk ?_ (.inr rfl) (.inr rfl) (.inr rfl) (.inr rfl) (.inr rfl) (.inr rfl) (.inr rfl) (.inr rfl) (.inr rfl) (.inr rfl) (.inr rfl) (.inr rfl) (.inr rfl) (.inr rfl) (.inr rfl) (.inr rfl) (.inr rfl) (.inr rfl) (.inr rfl) (.inr rfl) (.inr rfl) (.inr rfl) (.inr rfl) (.inr rfl) (.inr rfl) (.inr rfl) (.inr rfl) (.inr rfl) (.inr rfl) (.inr rfl)
    | (first | exact mask_sub hk rfl | exact hk)
    | with_reducible (first | refine Kept_snd (by assumption) ?_ | refine Kept_fst (by assumption) ?_)
    | with_reducible exact Kept_of_next (by assumption)
    | with_reducible (refine Kept_of_O (by assumption) ?_)
    | with_reducible (first | refine Kept_regs (g := g) ?_ (by assumption) | refine Kept_ram (g := g) ?_ (by assumption) | refine Kept_mram (g := g) ?_ (by assumption) | refine Kept_flt (g := g) ?_ (by assumption) | refine Kept_var ?_ | refine Kept_ev ?_ (by assumption) | refine Kept_has ?_ | refine Kept_out ?_ | refine Kept_ctr ?_)
    | dsimp -zeta only
    | split)

theorem kept_execWaitTimeout {x0} (h0 : Kept g x0) : KeptO g (execWaitTimeout x0) := by
  unfold execWaitTimeout
  repeat' (first | with_reducible assumption | with_reducible (first | apply kept_waitReturn | apply KeptO_ite | apply KeptO_next | apply Kept_ite) | split | intro _)

theorem kept_execCoreTrap {x0 x1 x2} (h2 : Kept g x2) (hk : 100665412 &&& g.mask = 100665412) : KeptO g (execCoreTrap x0 x1 x2) := by
  unfold execCoreTrap
  repeat' (first | with_reducible assumption | exact mask_sub hk rfl | with_reducible (first | apply kept_setF | apply kept_raise | apply kept_setReg | apply kept_cycHalt | apply KeptO_ite | apply KeptO_next | apply Kept_ite) | split | intro _)

theorem kept_execEbreak {x0 x1} (h1 : Kept g x1) (hk : 100665344 &&& g.mask = 100665344) : KeptO g (execEbreak x0 x1) := by
  unfold execEbreak
  repeat' (first | with_reducible assumption | exact mask_sub hk rfl | with_reducible (first | apply kept_setReg | apply kept_cycHoldNow | apply kept_exchangeOver | apply KeptO_ite | apply KeptO_next | apply Kept_ite) | split | intro _)

theorem kept_execServiceTrap {x0 x1 x2 x3} (h3 : Kept g x3) (hk : 67108864 &&& g.mask = 67108864) : KeptO g (execServiceTrap x0 x1 x2 x3) := by
  unfold execServiceTrap
  repeat' (first
    | with_reducible assumption
    | with_reducible refine fun _ => ?_
    | ((try lift_lets); intro s; refine (have hs : Kept g s := ?_; ?_); subst s; rotate_left; clear_value s; rotate_left)
    | ((try lift_lets); first | (intro (x : Mram); subst x) | (intro (x : Compositor); subst x) | (intro (x : Store 32); subst x) | (intro (x : Store 8); subst x) | (intro (x : State × _); subst x) | (intro (x : _ × State); subst x) | (intro (x : _ × _ × State); subst x) | (intro (x : State → _); subst x) | (intro (x : _ → State → _); subst x) | (intro (x : _ → State); subst x) | (intro x; clear_value x))
    | (simp only [↓Kept_mk_iff]; refine And.intro ?_ (And.intro ?_ (And.intro ?_ (And.intro ?_ (And.intro ?_ (And.intro ?_ (And.intro ?_ (And.intro ?_ (And.intro ?_ ?_)))))))))
    | with_reducible (first | apply kept_setF | apply kept_setReg | apply kept_raise | apply Kept_ite | apply KeptO_ite | apply KeptO_next | apply filter_wf | apply evOk_filter)
    | with_reducible (first | exact Kept_regs (by assumption) (by assumption) | exact Kept_ram (by assumption) (by assumption) | exact Kept_mram (by assumption) (by assumption) | exact Kept_flt (by assumption) (by assumption) | exact Kept_var (by assumption) | exact Kept_ev (by assumption) (by assumption) | exact Kept_has (by assumption) | exact Kept_out (by assumption) | exact Kept_ctr (by assumption) | exact watchE_none (by assumption))
    | with_reducible refine Only_mk ?_ (.inr rfl) (.inr rfl) (.inr rfl) (.inr rfl) (.inr rfl) (.inr rfl) (.inr rfl) (.inr rfl) (.inr rfl) (.inr rfl) (.inr rfl) (.inr rfl) (.inr rfl) (.inr rfl) (.inr rfl) (.inr rfl) (.inr rfl) (.inr rfl) (.inr rfl) (.inr rfl) (.inr rfl) (.inr rfl) (.inr rfl) (.inl (mask_bit hk rfl)) (.inr rfl) (.inr rfl) (.inr rfl) (.inr rfl) (.inr rfl) (.inr rfl)
    | (first | exact mask_sub hk rfl | exact hk)
    | with_reducible (first | refine Kept_snd (by assumption) ?_ | refine Kept_fst (by assumption) ?_)
    | with_reducible exact Kept_of_next (by assumption)
    | with_reducible (refine Kept_of_O (by assumption) ?_)
    | with_reducible (first | refine Kept_regs (g := g) ?_ (by assumption) | refine Kept_ram (g := g) ?_ (by assumption) | refine Kept_mram (g := g) ?_ (by assumption) | refine Kept_flt (g := g) ?_ (by assumption) | refine Kept_var ?_ | refine Kept_ev ?_ (by assumption) | refine Kept_has ?_ | refine Kept_out ?_ | refine Kept_ctr ?_)
    | dsimp -zeta only
    | split)

theorem kept_execServiceRestart {x0} (h0 : Kept g x0) (hk : 67108864 &&& g.mask = 67108864) : KeptO g (execServiceRestart x0) := by
  unfold execServiceRestart
  repeat' (first
    | with_reducible assumption
    | with_reducible refine fun _ => ?_
    | ((try lift_lets); intro s; refine (have hs : Kept g s := ?_; ?_); subst s; rotate_left; clear_value s; rotate_left)
    | ((try lift_lets); first | (intro (x : Mram); subst x) | (intro (x : Compositor); subst x) | (intro (x : Store 32); subst x) | (intro (x : Store 8); subst x) | (intro (x : State × _); subst x) | (intro (x : _ × State); subst x) | (intro (x : _ × _ × State); subst x) | (intro (x : State → _); subst x) | (intro (x : _ → State → _); subst x) | (intro (x : _ → State); subst x) | (intro x; clear_value x))
    | (simp only [↓Kept_mk_iff]; refine And.intro ?_ (And.intro ?_ (And.intro ?_ (And.intro ?_ (And.intro ?_ (And.intro ?_ (And.intro ?_ (And.intro ?_ (And.intro ?_ ?_)))))))))
    | with_reducible (first | apply Kept_ite | apply KeptO_ite | apply KeptO_next)
    | with_reducible (first | exact Kept_regs (by assumption) (by assumption) | exact Kept_ram (by assumption) (by assumption) | exact Kept_mram (by assumption) (by assumption) | exact Kept_flt (by assumption) (by assumption) | exact Kept_var (by assumption) | exact Kept_ev (by assumption) (by assumption) | exact Kept_has (by assumption) | exact Kept_out (by assumption) | exact Kept_ctr (by assumption) | exact watchE_none (by assumption))
    | with_reducible refine Only_mk ?_ (.inr rfl) (.inr rfl) (.inr rfl) (.inr rfl) (.inr rfl) (.inr rfl) (.inr rfl) (.inr rfl) (.inr rfl) (.inr rfl) (.inr rfl) (.inr rfl) (.inr rfl) (.inr rfl) (.inr rfl) (.inr rfl) (.inr rfl) (.inr rfl) (.inr rfl) (.inr rfl) (.inr rfl) (.inr rfl) (.inr rfl) (.inl (mask_bit hk rfl)) (.inr rfl) (.inr rfl) (.inr rfl) (.inr rfl) (.inr rfl) (.inr rfl)
    | (first | exact mask_sub hk rfl | exact hk)
    | with_reducible (first | refine Kept_snd (by assumption) ?_ | refine Kept_fst (by assumption) ?_)
    | with_reducible exact Kept_of_next (by assumption)
    | with_reducible (refine Kept_of_O (by assumption) ?_)
    | with_reducible (first | refine Kept_regs (g := g) ?_ (by assumption) | refine Kept_ram (g := g) ?_ (by assumption) | refine Kept_mram (g := g) ?_ (by assumption) | refine Kept_flt (g := g) ?_ (by assumption) | refine Kept_var ?_ | refine Kept_ev ?_ (by assumption) | refine Kept_has ?_ | refine Kept_out ?_ | refine Kept_ctr ?_)
    | dsimp -zeta only
    | split)

theorem kept_execCycRun {x0 x1 x2} (h2 : Kept g x2) (hk : 67108864 &&& g.mask = 67108864) : KeptO g (execCycRun x0 x1 x2) := by
  unfold execCycRun
  repeat' (first | with_reducible assumption | exact mask_sub hk rfl | with_reducible (first | apply kept_permit | apply kept_cycAsk | apply KeptO_ite | apply KeptO_next | apply Kept_ite) | split | intro _)

theorem kept_execCycStop {x0 x1} (h1 : Kept g x1) (hk : 67108864 &&& g.mask = 67108864) : KeptO g (execCycStop x0 x1) := by
  unfold execCycStop
  repeat' (first | with_reducible assumption | exact mask_sub hk rfl | with_reducible (first | apply kept_permit | apply kept_cycAsk | apply KeptO_ite | apply KeptO_next | apply Kept_ite) | split | intro _)

theorem kept_execCycHold {x0 x1} (h1 : Kept g x1) (hk : 67108864 &&& g.mask = 67108864) : KeptO g (execCycHold x0 x1) := by
  unfold execCycHold
  repeat' (first | with_reducible assumption | exact mask_sub hk rfl | with_reducible (first | apply kept_permit | apply kept_cycAsk | apply KeptO_ite | apply KeptO_next | apply Kept_ite) | split | intro _)

theorem kept_execCycStep {x0 x1} (h1 : Kept g x1) (hk : 67108864 &&& g.mask = 67108864) : KeptO g (execCycStep x0 x1) := by
  unfold execCycStep
  repeat' (first | with_reducible assumption | exact mask_sub hk rfl | with_reducible (first | apply kept_permit | apply kept_cycAsk | apply KeptO_ite | apply KeptO_next | apply Kept_ite) | split | intro _)

theorem kept_execHoldLimit {x0} (h0 : Kept g x0) (hk : 739211328 &&& g.mask = 739211328) : KeptO g (execHoldLimit x0) := by
  unfold execHoldLimit
  repeat' (first | with_reducible assumption | exact mask_sub hk rfl | with_reducible (first | apply kept_setCause | apply kept_raise | apply KeptO_ite | apply KeptO_next | apply Kept_ite) | split | intro _)

theorem kept_execInitTimeout {x0} (h0 : Kept g x0) (hk : 100665412 &&& g.mask = 100665412) : KeptO g (execInitTimeout x0) := by
  unfold execInitTimeout
  repeat' (first | with_reducible assumption | exact mask_sub hk rfl | with_reducible (first | apply kept_cycHalt | apply KeptO_ite | apply KeptO_next | apply Kept_ite) | split | intro _)

theorem kept_execProgShadow {x0} (h0 : Kept g x0) (hk : 67108864 &&& g.mask = 67108864) : KeptO g (execProgShadow x0) := by
  unfold execProgShadow
  repeat' (first
    | with_reducible assumption
    | with_reducible refine fun _ => ?_
    | ((try lift_lets); intro s; refine (have hs : Kept g s := ?_; ?_); subst s; rotate_left; clear_value s; rotate_left)
    | ((try lift_lets); first | (intro (x : Mram); subst x) | (intro (x : Compositor); subst x) | (intro (x : Store 32); subst x) | (intro (x : Store 8); subst x) | (intro (x : State × _); subst x) | (intro (x : _ × State); subst x) | (intro (x : _ × _ × State); subst x) | (intro (x : State → _); subst x) | (intro (x : _ → State → _); subst x) | (intro (x : _ → State); subst x) | (intro x; clear_value x))
    | (simp only [↓Kept_mk_iff]; refine And.intro ?_ (And.intro ?_ (And.intro ?_ (And.intro ?_ (And.intro ?_ (And.intro ?_ (And.intro ?_ (And.intro ?_ (And.intro ?_ ?_)))))))))
    | with_reducible (first | apply Kept_ite | apply KeptO_ite | apply KeptO_next)
    | with_reducible (first | exact Kept_regs (by assumption) (by assumption) | exact Kept_ram (by assumption) (by assumption) | exact Kept_mram (by assumption) (by assumption) | exact Kept_flt (by assumption) (by assumption) | exact Kept_var (by assumption) | exact Kept_ev (by assumption) (by assumption) | exact Kept_has (by assumption) | exact Kept_out (by assumption) | exact Kept_ctr (by assumption) | exact watchE_none (by assumption))
    | with_reducible refine Only_mk ?_ (.inr rfl) (.inr rfl) (.inr rfl) (.inr rfl) (.inr rfl) (.inr rfl) (.inr rfl) (.inr rfl) (.inr rfl) (.inr rfl) (.inr rfl) (.inr rfl) (.inr rfl) (.inr rfl) (.inr rfl) (.inr rfl) (.inr rfl) (.inr rfl) (.inr rfl) (.inr rfl) (.inr rfl) (.inr rfl) (.inr rfl) (.inl (mask_bit hk rfl)) (.inr rfl) (.inr rfl) (.inr rfl) (.inr rfl) (.inr rfl) (.inr rfl)
    | (first | exact mask_sub hk rfl | exact hk)
    | with_reducible (first | refine Kept_snd (by assumption) ?_ | refine Kept_fst (by assumption) ?_)
    | with_reducible exact Kept_of_next (by assumption)
    | with_reducible (refine Kept_of_O (by assumption) ?_)
    | with_reducible (first | refine Kept_regs (g := g) ?_ (by assumption) | refine Kept_ram (g := g) ?_ (by assumption) | refine Kept_mram (g := g) ?_ (by assumption) | refine Kept_flt (g := g) ?_ (by assumption) | refine Kept_var ?_ | refine Kept_ev ?_ (by assumption) | refine Kept_has ?_ | refine Kept_out ?_ | refine Kept_ctr ?_)
    | dsimp -zeta only
    | split)

theorem kept_execShadowSealed {x0} (h0 : Kept g x0) (hE : ∀ e, ¬ g.events e) (hk : 8589931980 &&& g.mask = 8589931980) : KeptO g (execShadowSealed x0) := by
  unfold execShadowSealed
  repeat' (first
    | with_reducible assumption
    | with_reducible refine fun _ => ?_
    | ((try lift_lets); intro s; refine (have hs : Kept g s := ?_; ?_); subst s; rotate_left; clear_value s; rotate_left)
    | ((try lift_lets); first | (intro (x : Mram); subst x) | (intro (x : Compositor); subst x) | (intro (x : Store 32); subst x) | (intro (x : Store 8); subst x) | (intro (x : State × _); subst x) | (intro (x : _ × State); subst x) | (intro (x : _ × _ × State); subst x) | (intro (x : State → _); subst x) | (intro (x : _ → State → _); subst x) | (intro (x : _ → State); subst x) | (intro x; clear_value x))
    | (simp only [↓Kept_mk_iff]; refine And.intro ?_ (And.intro ?_ (And.intro ?_ (And.intro ?_ (And.intro ?_ (And.intro ?_ (And.intro ?_ (And.intro ?_ (And.intro ?_ ?_)))))))))
    | with_reducible (first | apply kept_copyShow | apply kept_enterReset | apply Kept_ite | apply KeptO_ite | apply KeptO_next)
    | with_reducible (first | exact Kept_regs (by assumption) (by assumption) | exact Kept_ram (by assumption) (by assumption) | exact Kept_mram (by assumption) (by assumption) | exact Kept_flt (by assumption) (by assumption) | exact Kept_var (by assumption) | exact Kept_ev (by assumption) (by assumption) | exact Kept_has (by assumption) | exact Kept_out (by assumption) | exact Kept_ctr (by assumption) | exact watchE_none (by assumption))
    | with_reducible refine Only_mk ?_ (.inr rfl) (.inr rfl) (.inr rfl) (.inr rfl) (.inr rfl) (.inr rfl) (.inr rfl) (.inr rfl) (.inr rfl) (.inr rfl) (.inr rfl) (.inr rfl) (.inr rfl) (.inr rfl) (.inr rfl) (.inr rfl) (.inr rfl) (.inr rfl) (.inr rfl) (.inr rfl) (.inr rfl) (.inr rfl) (.inr rfl) (.inl (mask_bit hk rfl)) (.inr rfl) (.inr rfl) (.inr rfl) (.inr rfl) (.inr rfl) (.inr rfl)
    | (first | exact mask_sub hk rfl | exact hk)
    | with_reducible (first | refine Kept_snd (by assumption) ?_ | refine Kept_fst (by assumption) ?_)
    | with_reducible exact Kept_of_next (by assumption)
    | with_reducible (refine Kept_of_O (by assumption) ?_)
    | with_reducible (first | refine Kept_regs (g := g) ?_ (by assumption) | refine Kept_ram (g := g) ?_ (by assumption) | refine Kept_mram (g := g) ?_ (by assumption) | refine Kept_flt (g := g) ?_ (by assumption) | refine Kept_var ?_ | refine Kept_ev ?_ (by assumption) | refine Kept_has ?_ | refine Kept_out ?_ | refine Kept_ctr ?_)
    | dsimp -zeta only
    | split)

theorem kept_execRetainStore {x0} (h0 : Kept g x0) (hk : 67108864 &&& g.mask = 67108864) : KeptO g (execRetainStore x0) := by
  unfold execRetainStore
  repeat' (first | with_reducible assumption | exact mask_sub hk rfl | with_reducible (first | apply kept_storeRetain | apply KeptO_ite | apply KeptO_next | apply Kept_ite) | split | intro _)

theorem kept_execTmrInWrite {x0 x1 x2 x3} (h3 : Kept g x3) (hk : 67108864 &&& g.mask = 67108864) : KeptO g (execTmrInWrite x0 x1 x2 x3) := by
  unfold execTmrInWrite
  repeat' (first | with_reducible assumption | exact mask_sub hk rfl | with_reducible (first | apply kept_permit | apply kept_tmrIn | apply KeptO_ite | apply KeptO_next | apply Kept_ite) | split | intro _)

theorem kept_execTmrPtWrite {x0 x1 x2 x3} (h3 : Kept g x3) (hk : 67108864 &&& g.mask = 67108864) : KeptO g (execTmrPtWrite x0 x1 x2 x3) := by
  unfold execTmrPtWrite
  repeat' (first | with_reducible assumption | exact mask_sub hk rfl | with_reducible (first | apply kept_permit | apply kept_tmrPt | apply KeptO_ite | apply KeptO_next | apply Kept_ite) | split | intro _)

theorem kept_execTmrExpiry {x0 x1} (h1 : Kept g x1) (hk : 67108864 &&& g.mask = 67108864) : KeptO g (execTmrExpiry x0 x1) := by
  unfold execTmrExpiry
  repeat' (first | with_reducible assumption | exact mask_sub hk rfl | with_reducible (first | apply kept_tmrMod | apply KeptO_ite | apply KeptO_next | apply Kept_ite) | split | intro _)

theorem kept_execEventGrant {x0} (h0 : Kept g x0) (hE : ∀ e, ¬ g.events e) (hk : 8589934060 &&& g.mask = 8589934060) : KeptO g (execEventGrant x0) := by
  unfold execEventGrant
  repeat' (first
    | with_reducible assumption
    | with_reducible refine fun _ => ?_
    | ((try lift_lets); intro s; refine (have hs : Kept g s := ?_; ?_); subst s; rotate_left; clear_value s; rotate_left)
    | ((try lift_lets); first | (intro (x : Mram); subst x) | (intro (x : Compositor); subst x) | (intro (x : Store 32); subst x) | (intro (x : Store 8); subst x) | (intro (x : State × _); subst x) | (intro (x : _ × State); subst x) | (intro (x : _ × _ × State); subst x) | (intro (x : State → _); subst x) | (intro (x : _ → State → _); subst x) | (intro (x : _ → State); subst x) | (intro x; clear_value x))
    | (simp only [↓Kept_mk_iff]; refine And.intro ?_ (And.intro ?_ (And.intro ?_ (And.intro ?_ (And.intro ?_ (And.intro ?_ (And.intro ?_ (And.intro ?_ (And.intro ?_ ?_)))))))))
    | with_reducible (first | apply kept_atGrant | apply kept_evalDue | apply kept_grant | apply Kept_ite | apply KeptO_ite | apply KeptO_next)
    | with_reducible (first | exact Kept_regs (by assumption) (by assumption) | exact Kept_ram (by assumption) (by assumption) | exact Kept_mram (by assumption) (by assumption) | exact Kept_flt (by assumption) (by assumption) | exact Kept_var (by assumption) | exact Kept_ev (by assumption) (by assumption) | exact Kept_has (by assumption) | exact Kept_out (by assumption) | exact Kept_ctr (by assumption) | exact watchE_none (by assumption))
    | with_reducible refine Only_mk ?_ (.inr rfl) (.inr rfl) (.inr rfl) (.inr rfl) (.inr rfl) (.inr rfl) (.inr rfl) (.inr rfl) (.inr rfl) (.inr rfl) (.inr rfl) (.inr rfl) (.inr rfl) (.inr rfl) (.inr rfl) (.inr rfl) (.inr rfl) (.inr rfl) (.inr rfl) (.inr rfl) (.inr rfl) (.inr rfl) (.inr rfl) (.inr rfl) (.inr rfl) (.inr rfl) (.inr rfl) (.inr rfl) (.inr rfl) (.inr rfl)
    | (first | exact mask_sub hk rfl | exact hk)
    | with_reducible (first | refine Kept_snd (by assumption) ?_ | refine Kept_fst (by assumption) ?_)
    | with_reducible exact Kept_of_next (by assumption)
    | with_reducible (refine Kept_of_O (by assumption) ?_)
    | with_reducible (first | refine Kept_regs (g := g) ?_ (by assumption) | refine Kept_ram (g := g) ?_ (by assumption) | refine Kept_mram (g := g) ?_ (by assumption) | refine Kept_flt (g := g) ?_ (by assumption) | refine Kept_var ?_ | refine Kept_ev ?_ (by assumption) | refine Kept_has ?_ | refine Kept_out ?_ | refine Kept_ctr ?_)
    | dsimp -zeta only
    | split)

theorem kept_execRecord {x0} (h0 : Kept g x0) (hk : 1024 &&& g.mask = 1024) : KeptO g (execRecord x0) := by
  unfold execRecord
  repeat' (first | with_reducible assumption | exact mask_sub hk rfl | with_reducible (first | apply kept_commitRecord | apply KeptO_ite | apply KeptO_next | apply Kept_ite) | split | intro _)

theorem kept_execCursorWrite {x0 x1 x2} (h2 : Kept g x2) (hk : 1024 &&& g.mask = 1024) : KeptO g (execCursorWrite x0 x1 x2) := by
  unfold execCursorWrite
  repeat' (first | with_reducible assumption | exact mask_sub hk rfl | with_reducible (first | apply kept_permit | apply kept_cursorWrite | apply KeptO_ite | apply KeptO_next | apply Kept_ite) | split | intro _)

theorem kept_execCursorReady {x0} (h0 : Kept g x0) (hk : 1024 &&& g.mask = 1024) : KeptO g (execCursorReady x0) := by
  unfold execCursorReady
  repeat' (first
    | with_reducible assumption
    | with_reducible refine fun _ => ?_
    | ((try lift_lets); intro s; refine (have hs : Kept g s := ?_; ?_); subst s; rotate_left; clear_value s; rotate_left)
    | ((try lift_lets); first | (intro (x : Mram); subst x) | (intro (x : Compositor); subst x) | (intro (x : Store 32); subst x) | (intro (x : Store 8); subst x) | (intro (x : State × _); subst x) | (intro (x : _ × State); subst x) | (intro (x : _ × _ × State); subst x) | (intro (x : State → _); subst x) | (intro (x : _ → State → _); subst x) | (intro (x : _ → State); subst x) | (intro x; clear_value x))
    | (simp only [↓Kept_mk_iff]; refine And.intro ?_ (And.intro ?_ (And.intro ?_ (And.intro ?_ (And.intro ?_ (And.intro ?_ (And.intro ?_ (And.intro ?_ (And.intro ?_ ?_)))))))))
    | with_reducible (first | apply kept_raise | apply Kept_ite | apply KeptO_ite | apply KeptO_next)
    | with_reducible (first | exact Kept_regs (by assumption) (by assumption) | exact Kept_ram (by assumption) (by assumption) | exact Kept_mram (by assumption) (by assumption) | exact Kept_flt (by assumption) (by assumption) | exact Kept_var (by assumption) | exact Kept_ev (by assumption) (by assumption) | exact Kept_has (by assumption) | exact Kept_out (by assumption) | exact Kept_ctr (by assumption) | exact watchE_none (by assumption))
    | with_reducible refine Only_mk ?_ (.inr rfl) (.inr rfl) (.inr rfl) (.inr rfl) (.inr rfl) (.inr rfl) (.inr rfl) (.inl (mask_bit hk rfl)) (.inr rfl) (.inr rfl) (.inr rfl) (.inr rfl) (.inr rfl) (.inr rfl) (.inr rfl) (.inr rfl) (.inr rfl) (.inr rfl) (.inr rfl) (.inr rfl) (.inr rfl) (.inr rfl) (.inr rfl) (.inr rfl) (.inr rfl) (.inr rfl) (.inr rfl) (.inr rfl) (.inr rfl) (.inr rfl)
    | (first | exact mask_sub hk rfl | exact hk)
    | with_reducible (first | refine Kept_snd (by assumption) ?_ | refine Kept_fst (by assumption) ?_)
    | with_reducible exact Kept_of_next (by assumption)
    | with_reducible (refine Kept_of_O (by assumption) ?_)
    | with_reducible (first | refine Kept_regs (g := g) ?_ (by assumption) | refine Kept_ram (g := g) ?_ (by assumption) | refine Kept_mram (g := g) ?_ (by assumption) | refine Kept_flt (g := g) ?_ (by assumption) | refine Kept_var ?_ | refine Kept_ev ?_ (by assumption) | refine Kept_has ?_ | refine Kept_out ?_ | refine Kept_ctr ?_)
    | dsimp -zeta only
    | split)

theorem kept_execFreezeExpired {x0} (h0 : Kept g x0) (hk : 1024 &&& g.mask = 1024) : KeptO g (execFreezeExpired x0) := by
  unfold execFreezeExpired
  repeat' (first | with_reducible assumption | exact mask_sub hk rfl | with_reducible (first | apply kept_raise | apply kept_thaw | apply KeptO_ite | apply KeptO_next | apply Kept_ite) | split | intro _)

theorem kept_execSync {x0 x1} (h1 : Kept g x1) (hk : 256 &&& g.mask = 256) : KeptO g (execSync x0 x1) := by
  unfold execSync
  repeat' (first
    | with_reducible assumption
    | with_reducible refine fun _ => ?_
    | ((try lift_lets); intro s; refine (have hs : Kept g s := ?_; ?_); subst s; rotate_left; clear_value s; rotate_left)
    | ((try lift_lets); first | (intro (x : Mram); subst x) | (intro (x : Compositor); subst x) | (intro (x : Store 32); subst x) | (intro (x : Store 8); subst x) | (intro (x : State × _); subst x) | (intro (x : _ × State); subst x) | (intro (x : _ × _ × State); subst x) | (intro (x : State → _); subst x) | (intro (x : _ → State → _); subst x) | (intro (x : _ → State); subst x) | (intro x; clear_value x))
    | (simp only [↓Kept_mk_iff]; refine And.intro ?_ (And.intro ?_ (And.intro ?_ (And.intro ?_ (And.intro ?_ (And.intro ?_ (And.intro ?_ (And.intro ?_ (And.intro ?_ ?_)))))))))
    | with_reducible (first | apply kept_ptpForward | apply kept_syncIn | apply Kept_ite | apply KeptO_ite | apply KeptO_next)
    | with_reducible (first | exact Kept_regs (by assumption) (by assumption) | exact Kept_ram (by assumption) (by assumption) | exact Kept_mram (by assumption) (by assumption) | exact Kept_flt (by assumption) (by assumption) | exact Kept_var (by assumption) | exact Kept_ev (by assumption) (by assumption) | exact Kept_has (by assumption) | exact Kept_out (by assumption) | exact Kept_ctr (by assumption) | exact watchE_none (by assumption))
    | with_reducible refine Only_mk ?_ (.inr rfl) (.inr rfl) (.inr rfl) (.inr rfl) (.inr rfl) (.inr rfl) (.inl (mask_bit hk rfl)) (.inr rfl) (.inr rfl) (.inr rfl) (.inr rfl) (.inr rfl) (.inr rfl) (.inr rfl) (.inr rfl) (.inr rfl) (.inr rfl) (.inr rfl) (.inr rfl) (.inr rfl) (.inr rfl) (.inr rfl) (.inr rfl) (.inr rfl) (.inr rfl) (.inr rfl) (.inr rfl) (.inr rfl) (.inr rfl) (.inr rfl)
    | (first | exact mask_sub hk rfl | exact hk)
    | with_reducible (first | refine Kept_snd (by assumption) ?_ | refine Kept_fst (by assumption) ?_)
    | with_reducible exact Kept_of_next (by assumption)
    | with_reducible (refine Kept_of_O (by assumption) ?_)
    | with_reducible (first | refine Kept_regs (g := g) ?_ (by assumption) | refine Kept_ram (g := g) ?_ (by assumption) | refine Kept_mram (g := g) ?_ (by assumption) | refine Kept_flt (g := g) ?_ (by assumption) | refine Kept_var ?_ | refine Kept_ev ?_ (by assumption) | refine Kept_has ?_ | refine Kept_out ?_ | refine Kept_ctr ?_)
    | dsimp -zeta only
    | split)

theorem kept_execFollowUp {x0 x1} (h1 : Kept g x1) (hk : 256 &&& g.mask = 256) : KeptO g (execFollowUp x0 x1) := by
  unfold execFollowUp
  repeat' (first
    | with_reducible assumption
    | with_reducible refine fun _ => ?_
    | ((try lift_lets); intro s; refine (have hs : Kept g s := ?_; ?_); subst s; rotate_left; clear_value s; rotate_left)
    | ((try lift_lets); first | (intro (x : Mram); subst x) | (intro (x : Compositor); subst x) | (intro (x : Store 32); subst x) | (intro (x : Store 8); subst x) | (intro (x : State × _); subst x) | (intro (x : _ × State); subst x) | (intro (x : _ × _ × State); subst x) | (intro (x : State → _); subst x) | (intro (x : _ → State → _); subst x) | (intro (x : _ → State); subst x) | (intro x; clear_value x))
    | (simp only [↓Kept_mk_iff]; refine And.intro ?_ (And.intro ?_ (And.intro ?_ (And.intro ?_ (And.intro ?_ (And.intro ?_ (And.intro ?_ (And.intro ?_ (And.intro ?_ ?_)))))))))
    | with_reducible (first | apply kept_ptpForward | apply kept_syncIn | apply Kept_ite | apply KeptO_ite | apply KeptO_next)
    | with_reducible (first | exact Kept_regs (by assumption) (by assumption) | exact Kept_ram (by assumption) (by assumption) | exact Kept_mram (by assumption) (by assumption) | exact Kept_flt (by assumption) (by assumption) | exact Kept_var (by assumption) | exact Kept_ev (by assumption) (by assumption) | exact Kept_has (by assumption) | exact Kept_out (by assumption) | exact Kept_ctr (by assumption) | exact watchE_none (by assumption))
    | with_reducible refine Only_mk ?_ (.inr rfl) (.inr rfl) (.inr rfl) (.inr rfl) (.inr rfl) (.inr rfl) (.inl (mask_bit hk rfl)) (.inr rfl) (.inr rfl) (.inr rfl) (.inr rfl) (.inr rfl) (.inr rfl) (.inr rfl) (.inr rfl) (.inr rfl) (.inr rfl) (.inr rfl) (.inr rfl) (.inr rfl) (.inr rfl) (.inr rfl) (.inr rfl) (.inr rfl) (.inr rfl) (.inr rfl) (.inr rfl) (.inr rfl) (.inr rfl) (.inr rfl)
    | (first | exact mask_sub hk rfl | exact hk)
    | with_reducible (first | refine Kept_snd (by assumption) ?_ | refine Kept_fst (by assumption) ?_)
    | with_reducible exact Kept_of_next (by assumption)
    | with_reducible (refine Kept_of_O (by assumption) ?_)
    | with_reducible (first | refine Kept_regs (g := g) ?_ (by assumption) | refine Kept_ram (g := g) ?_ (by assumption) | refine Kept_mram (g := g) ?_ (by assumption) | refine Kept_flt (g := g) ?_ (by assumption) | refine Kept_var ?_ | refine Kept_ev ?_ (by assumption) | refine Kept_has ?_ | refine Kept_out ?_ | refine Kept_ctr ?_)
    | dsimp -zeta only
    | split)

theorem kept_execAnnounce {x0 x1} (h1 : Kept g x1) (hk : 256 &&& g.mask = 256) : KeptO g (execAnnounce x0 x1) := by
  unfold execAnnounce
  repeat' (first
    | with_reducible assumption
    | with_reducible refine fun _ => ?_
    | ((try lift_lets); intro s; refine (have hs : Kept g s := ?_; ?_); subst s; rotate_left; clear_value s; rotate_left)
    | ((try lift_lets); first | (intro (x : Mram); subst x) | (intro (x : Compositor); subst x) | (intro (x : Store 32); subst x) | (intro (x : Store 8); subst x) | (intro (x : State × _); subst x) | (intro (x : _ × State); subst x) | (intro (x : _ × _ × State); subst x) | (intro (x : State → _); subst x) | (intro (x : _ → State → _); subst x) | (intro (x : _ → State); subst x) | (intro x; clear_value x))
    | (simp only [↓Kept_mk_iff]; refine And.intro ?_ (And.intro ?_ (And.intro ?_ (And.intro ?_ (And.intro ?_ (And.intro ?_ (And.intro ?_ (And.intro ?_ (And.intro ?_ ?_)))))))))
    | with_reducible (first | apply kept_ptpForward | apply kept_setReg | apply kept_syncEnter | apply kept_raiseIf | apply Kept_ite | apply KeptO_ite | apply KeptO_next)
    | with_reducible (first | exact Kept_regs (by assumption) (by assumption) | exact Kept_ram (by assumption) (by assumption) | exact Kept_mram (by assumption) (by assumption) | exact Kept_flt (by assumption) (by assumption) | exact Kept_var (by assumption) | exact Kept_ev (by assumption) (by assumption) | exact Kept_has (by assumption) | exact Kept_out (by assumption) | exact Kept_ctr (by assumption) | exact watchE_none (by assumption))
    | with_reducible refine Only_mk ?_ (.inr rfl) (.inr rfl) (.inr rfl) (.inr rfl) (.inr rfl) (.inr rfl) (.inl (mask_bit hk rfl)) (.inr rfl) (.inr rfl) (.inr rfl) (.inr rfl) (.inr rfl) (.inr rfl) (.inr rfl) (.inr rfl) (.inr rfl) (.inr rfl) (.inr rfl) (.inr rfl) (.inr rfl) (.inr rfl) (.inr rfl) (.inr rfl) (.inr rfl) (.inr rfl) (.inr rfl) (.inr rfl) (.inr rfl) (.inr rfl) (.inr rfl)
    | (first | exact mask_sub hk rfl | exact hk)
    | with_reducible (first | refine Kept_snd (by assumption) ?_ | refine Kept_fst (by assumption) ?_)
    | with_reducible exact Kept_of_next (by assumption)
    | with_reducible (refine Kept_of_O (by assumption) ?_)
    | with_reducible (first | refine Kept_regs (g := g) ?_ (by assumption) | refine Kept_ram (g := g) ?_ (by assumption) | refine Kept_mram (g := g) ?_ (by assumption) | refine Kept_flt (g := g) ?_ (by assumption) | refine Kept_var ?_ | refine Kept_ev ?_ (by assumption) | refine Kept_has ?_ | refine Kept_out ?_ | refine Kept_ctr ?_)
    | dsimp -zeta only
    | split)

theorem kept_execPdelayReq {x0 x1} (h1 : Kept g x1) : KeptO g (execPdelayReq x0 x1) := by
  unfold execPdelayReq
  repeat' (first | with_reducible assumption | with_reducible (first | apply kept_ethOut | apply KeptO_ite | apply KeptO_next | apply Kept_ite) | split | intro _)

theorem kept_execPdelayResp {x0 x1} (h1 : Kept g x1) (hk : 256 &&& g.mask = 256) : KeptO g (execPdelayResp x0 x1) := by
  unfold execPdelayResp
  repeat' (first
    | with_reducible assumption
    | with_reducible refine fun _ => ?_
    | ((try lift_lets); intro s; refine (have hs : Kept g s := ?_; ?_); subst s; rotate_left; clear_value s; rotate_left)
    | ((try lift_lets); first | (intro (x : Mram); subst x) | (intro (x : Compositor); subst x) | (intro (x : Store 32); subst x) | (intro (x : Store 8); subst x) | (intro (x : State × _); subst x) | (intro (x : _ × State); subst x) | (intro (x : _ × _ × State); subst x) | (intro (x : State → _); subst x) | (intro (x : _ → State → _); subst x) | (intro (x : _ → State); subst x) | (intro x; clear_value x))
    | (simp only [↓Kept_mk_iff]; refine And.intro ?_ (And.intro ?_ (And.intro ?_ (And.intro ?_ (And.intro ?_ (And.intro ?_ (And.intro ?_ (And.intro ?_ (And.intro ?_ ?_)))))))))
    | with_reducible (first | apply kept_pdDone | apply Kept_ite | apply KeptO_ite | apply KeptO_next)
    | with_reducible (first | exact Kept_regs (by assumption) (by assumption) | exact Kept_ram (by assumption) (by assumption) | exact Kept_mram (by assumption) (by assumption) | exact Kept_flt (by assumption) (by assumption) | exact Kept_var (by assumption) | exact Kept_ev (by assumption) (by assumption) | exact Kept_has (by assumption) | exact Kept_out (by assumption) | exact Kept_ctr (by assumption) | exact watchE_none (by assumption))
    | with_reducible refine Only_mk ?_ (.inr rfl) (.inr rfl) (.inr rfl) (.inr rfl) (.inr rfl) (.inr rfl) (.inl (mask_bit hk rfl)) (.inr rfl) (.inr rfl) (.inr rfl) (.inr rfl) (.inr rfl) (.inr rfl) (.inr rfl) (.inr rfl) (.inr rfl) (.inr rfl) (.inr rfl) (.inr rfl) (.inr rfl) (.inr rfl) (.inr rfl) (.inr rfl) (.inr rfl) (.inr rfl) (.inr rfl) (.inr rfl) (.inr rfl) (.inr rfl) (.inr rfl)
    | (first | exact mask_sub hk rfl | exact hk)
    | with_reducible (first | refine Kept_snd (by assumption) ?_ | refine Kept_fst (by assumption) ?_)
    | with_reducible exact Kept_of_next (by assumption)
    | with_reducible (refine Kept_of_O (by assumption) ?_)
    | with_reducible (first | refine Kept_regs (g := g) ?_ (by assumption) | refine Kept_ram (g := g) ?_ (by assumption) | refine Kept_mram (g := g) ?_ (by assumption) | refine Kept_flt (g := g) ?_ (by assumption) | refine Kept_var ?_ | refine Kept_ev ?_ (by assumption) | refine Kept_has ?_ | refine Kept_out ?_ | refine Kept_ctr ?_)
    | dsimp -zeta only
    | split)

theorem kept_execPdelayReqSend {x0 x1} (h1 : Kept g x1) (hk : 256 &&& g.mask = 256) : KeptO g (execPdelayReqSend x0 x1) := by
  unfold execPdelayReqSend
  repeat' (first
    | with_reducible assumption
    | with_reducible refine fun _ => ?_
    | ((try lift_lets); intro s; refine (have hs : Kept g s := ?_; ?_); subst s; rotate_left; clear_value s; rotate_left)
    | ((try lift_lets); first | (intro (x : Mram); subst x) | (intro (x : Compositor); subst x) | (intro (x : Store 32); subst x) | (intro (x : Store 8); subst x) | (intro (x : State × _); subst x) | (intro (x : _ × State); subst x) | (intro (x : _ × _ × State); subst x) | (intro (x : State → _); subst x) | (intro (x : _ → State → _); subst x) | (intro (x : _ → State); subst x) | (intro x; clear_value x))
    | (simp only [↓Kept_mk_iff]; refine And.intro ?_ (And.intro ?_ (And.intro ?_ (And.intro ?_ (And.intro ?_ (And.intro ?_ (And.intro ?_ (And.intro ?_ (And.intro ?_ ?_)))))))))
    | with_reducible (first | apply kept_ethOut | apply Kept_ite | apply KeptO_ite | apply KeptO_next)
    | with_reducible (first | exact Kept_regs (by assumption) (by assumption) | exact Kept_ram (by assumption) (by assumption) | exact Kept_mram (by assumption) (by assumption) | exact Kept_flt (by assumption) (by assumption) | exact Kept_var (by assumption) | exact Kept_ev (by assumption) (by assumption) | exact Kept_has (by assumption) | exact Kept_out (by assumption) | exact Kept_ctr (by assumption) | exact watchE_none (by assumption))
    | with_reducible refine Only_mk ?_ (.inr rfl) (.inr rfl) (.inr rfl) (.inr rfl) (.inr rfl) (.inr rfl) (.inl (mask_bit hk rfl)) (.inr rfl) (.inr rfl) (.inr rfl) (.inr rfl) (.inr rfl) (.inr rfl) (.inr rfl) (.inr rfl) (.inr rfl) (.inr rfl) (.inr rfl) (.inr rfl) (.inr rfl) (.inr rfl) (.inr rfl) (.inr rfl) (.inr rfl) (.inr rfl) (.inr rfl) (.inr rfl) (.inr rfl) (.inr rfl) (.inr rfl)
    | (first | exact mask_sub hk rfl | exact hk)
    | with_reducible (first | refine Kept_snd (by assumption) ?_ | refine Kept_fst (by assumption) ?_)
    | with_reducible exact Kept_of_next (by assumption)
    | with_reducible (refine Kept_of_O (by assumption) ?_)
    | with_reducible (first | refine Kept_regs (g := g) ?_ (by assumption) | refine Kept_ram (g := g) ?_ (by assumption) | refine Kept_mram (g := g) ?_ (by assumption) | refine Kept_flt (g := g) ?_ (by assumption) | refine Kept_var ?_ | refine Kept_ev ?_ (by assumption) | refine Kept_has ?_ | refine Kept_out ?_ | refine Kept_ctr ?_)
    | dsimp -zeta only
    | split)

theorem kept_execSyncLoss {x0} (h0 : Kept g x0) (hk : 256 &&& g.mask = 256) : KeptO g (execSyncLoss x0) := by
  unfold execSyncLoss
  repeat' (first | with_reducible assumption | exact mask_sub hk rfl | with_reducible (first | apply kept_syncEnter | apply KeptO_ite | apply KeptO_next | apply Kept_ite) | split | intro _)

theorem kept_execAnnounceTimeout {x0} (h0 : Kept g x0) (hk : 256 &&& g.mask = 256) : KeptO g (execAnnounceTimeout x0) := by
  unfold execAnnounceTimeout
  repeat' (first
    | with_reducible assumption
    | with_reducible refine fun _ => ?_
    | ((try lift_lets); intro s; refine (have hs : Kept g s := ?_; ?_); subst s; rotate_left; clear_value s; rotate_left)
    | ((try lift_lets); first | (intro (x : Mram); subst x) | (intro (x : Compositor); subst x) | (intro (x : Store 32); subst x) | (intro (x : Store 8); subst x) | (intro (x : State × _); subst x) | (intro (x : _ × State); subst x) | (intro (x : _ × _ × State); subst x) | (intro (x : State → _); subst x) | (intro (x : _ → State → _); subst x) | (intro (x : _ → State); subst x) | (intro x; clear_value x))
    | (simp only [↓Kept_mk_iff]; refine And.intro ?_ (And.intro ?_ (And.intro ?_ (And.intro ?_ (And.intro ?_ (And.intro ?_ (And.intro ?_ (And.intro ?_ (And.intro ?_ ?_)))))))))
    | with_reducible (first | apply kept_syncEnter | apply Kept_ite | apply KeptO_ite | apply KeptO_next)
    | with_reducible (first | exact Kept_regs (by assumption) (by assumption) | exact Kept_ram (by assumption) (by assumption) | exact Kept_mram (by assumption) (by assumption) | exact Kept_flt (by assumption) (by assumption) | exact Kept_var (by assumption) | exact Kept_ev (by assumption) (by assumption) | exact Kept_has (by assumption) | exact Kept_out (by assumption) | exact Kept_ctr (by assumption) | exact watchE_none (by assumption))
    | with_reducible refine Only_mk ?_ (.inr rfl) (.inr rfl) (.inr rfl) (.inr rfl) (.inr rfl) (.inr rfl) (.inl (mask_bit hk rfl)) (.inr rfl) (.inr rfl) (.inr rfl) (.inr rfl) (.inr rfl) (.inr rfl) (.inr rfl) (.inr rfl) (.inr rfl) (.inr rfl) (.inr rfl) (.inr rfl) (.inr rfl) (.inr rfl) (.inr rfl) (.inr rfl) (.inr rfl) (.inr rfl) (.inr rfl) (.inr rfl) (.inr rfl) (.inr rfl) (.inr rfl)
    | (first | exact mask_sub hk rfl | exact hk)
    | with_reducible (first | refine Kept_snd (by assumption) ?_ | refine Kept_fst (by assumption) ?_)
    | with_reducible exact Kept_of_next (by assumption)
    | with_reducible (refine Kept_of_O (by assumption) ?_)
    | with_reducible (first | refine Kept_regs (g := g) ?_ (by assumption) | refine Kept_ram (g := g) ?_ (by assumption) | refine Kept_mram (g := g) ?_ (by assumption) | refine Kept_flt (g := g) ?_ (by assumption) | refine Kept_var ?_ | refine Kept_ev ?_ (by assumption) | refine Kept_has ?_ | refine Kept_out ?_ | refine Kept_ctr ?_)
    | dsimp -zeta only
    | split)

theorem kept_execLaunchTrig {x0 x1} (h1 : Kept g x1) (hk : 256 &&& g.mask = 256) : KeptO g (execLaunchTrig x0 x1) := by
  unfold execLaunchTrig
  repeat' (first | with_reducible assumption | exact mask_sub hk rfl | with_reducible (first | apply kept_trigLaunch | apply KeptO_ite | apply KeptO_next | apply Kept_ite) | split | intro _)

theorem kept_execTrigPulseEnd {x0 x1} (h1 : Kept g x1) (hk : 256 &&& g.mask = 256) : KeptO g (execTrigPulseEnd x0 x1) := by
  unfold execTrigPulseEnd
  repeat' (first
    | with_reducible assumption
    | with_reducible refine fun _ => ?_
    | ((try lift_lets); intro s; refine (have hs : Kept g s := ?_; ?_); subst s; rotate_left; clear_value s; rotate_left)
    | ((try lift_lets); first | (intro (x : Mram); subst x) | (intro (x : Compositor); subst x) | (intro (x : Store 32); subst x) | (intro (x : Store 8); subst x) | (intro (x : State × _); subst x) | (intro (x : _ × State); subst x) | (intro (x : _ × _ × State); subst x) | (intro (x : State → _); subst x) | (intro (x : _ → State → _); subst x) | (intro (x : _ → State); subst x) | (intro x; clear_value x))
    | (simp only [↓Kept_mk_iff]; refine And.intro ?_ (And.intro ?_ (And.intro ?_ (And.intro ?_ (And.intro ?_ (And.intro ?_ (And.intro ?_ (And.intro ?_ (And.intro ?_ ?_)))))))))
    | with_reducible (first | apply kept_emit | apply Kept_ite | apply KeptO_ite | apply KeptO_next)
    | with_reducible (first | exact Kept_regs (by assumption) (by assumption) | exact Kept_ram (by assumption) (by assumption) | exact Kept_mram (by assumption) (by assumption) | exact Kept_flt (by assumption) (by assumption) | exact Kept_var (by assumption) | exact Kept_ev (by assumption) (by assumption) | exact Kept_has (by assumption) | exact Kept_out (by assumption) | exact Kept_ctr (by assumption) | exact watchE_none (by assumption))
    | with_reducible refine Only_mk ?_ (.inr rfl) (.inr rfl) (.inr rfl) (.inr rfl) (.inr rfl) (.inr rfl) (.inl (mask_bit hk rfl)) (.inr rfl) (.inr rfl) (.inr rfl) (.inr rfl) (.inr rfl) (.inr rfl) (.inr rfl) (.inr rfl) (.inr rfl) (.inr rfl) (.inr rfl) (.inr rfl) (.inr rfl) (.inr rfl) (.inr rfl) (.inr rfl) (.inr rfl) (.inr rfl) (.inr rfl) (.inr rfl) (.inr rfl) (.inr rfl) (.inr rfl)
    | (first | exact mask_sub hk rfl | exact hk)
    | with_reducible (first | refine Kept_snd (by assumption) ?_ | refine Kept_fst (by assumption) ?_)
    | with_reducible exact Kept_of_next (by assumption)
    | with_reducible (refine Kept_of_O (by assumption) ?_)
    | with_reducible (first | refine Kept_regs (g := g) ?_ (by assumption) | refine Kept_ram (g := g) ?_ (by assumption) | refine Kept_mram (g := g) ?_ (by assumption) | refine Kept_flt (g := g) ?_ (by assumption) | refine Kept_var ?_ | refine Kept_ev ?_ (by assumption) | refine Kept_has ?_ | refine Kept_out ?_ | refine Kept_ctr ?_)
    | dsimp -zeta only
    | split)

theorem kept_execCompatLoad {x0 x1 x2} (h2 : Kept g x2) (hk : 256 &&& g.mask = 256) : KeptO g (execCompatLoad x0 x1 x2) := by
  unfold execCompatLoad
  repeat' (first | with_reducible assumption | exact mask_sub hk rfl | with_reducible (first | apply kept_permit | apply kept_compatLoad | apply KeptO_ite | apply KeptO_next | apply Kept_ite) | split | intro _)

theorem kept_execTxbReq {x0 x1 x2 x3} (h3 : Kept g x3) (hk : 134217728 &&& g.mask = 134217728) : KeptO g (execTxbReq x0 x1 x2 x3) := by
  unfold execTxbReq
  repeat' (first | with_reducible assumption | exact mask_sub hk rfl | with_reducible (first | apply kept_permit | apply kept_txbReq | apply KeptO_ite | apply KeptO_next | apply Kept_ite) | split | intro _)

theorem kept_execTxbCancel {x0 x1 x2 x3} (h3 : Kept g x3) : KeptO g (execTxbCancel x0 x1 x2 x3) := by
  unfold execTxbCancel
  repeat' (first | with_reducible assumption | with_reducible (first | apply kept_permit | apply kept_txbCancel | apply KeptO_ite | apply KeptO_next | apply Kept_ite) | split | intro _)

theorem kept_execCanLaunchDue {x0 x1 x2} (h2 : Kept g x2) (hk : 134217728 &&& g.mask = 134217728) : KeptO g (execCanLaunchDue x0 x1 x2) := by
  unfold execCanLaunchDue
  repeat' (first | with_reducible assumption | exact mask_sub hk rfl | with_reducible (first | apply kept_setCan | apply kept_txConsider | apply KeptO_ite | apply KeptO_next | apply Kept_ite) | split | intro _)

theorem kept_execCanLateWindow {x0 x1 x2} (h2 : Kept g x2) (hk : 134217728 &&& g.mask = 134217728) : KeptO g (execCanLateWindow x0 x1 x2) := by
  unfold execCanLateWindow
  repeat' (first | with_reducible assumption | exact mask_sub hk rfl | with_reducible (first | apply kept_txLate | apply KeptO_ite | apply KeptO_next | apply Kept_ite) | split | intro _)

theorem kept_execTxDone {x0 x1 x2 x3} (h3 : Kept g x3) (hk : 758085696 &&& g.mask = 758085696) : KeptO g (execTxDone x0 x1 x2 x3) := by
  unfold execTxDone
  repeat' (first | with_reducible assumption | exact mask_sub hk rfl | with_reducible (first | apply kept_setB | apply kept_txSent | apply KeptO_ite | apply KeptO_next | apply Kept_ite) | split | intro _)

theorem kept_execCanRxFrame {x0 x1 x2} (h2 : Kept g x2) (hk : 758085696 &&& g.mask = 758085696) : KeptO g (execCanRxFrame x0 x1 x2) := by
  unfold execCanRxFrame
  repeat' (first | with_reducible assumption | exact mask_sub hk rfl | with_reducible (first | apply kept_receive | apply KeptO_ite | apply KeptO_next | apply Kept_ite) | split | intro _)

theorem kept_execCanBusError {x0 x1 x2 x3 x4 x5 x6} (h6 : Kept g x6) (hk : 134217728 &&& g.mask = 134217728) : KeptO g (execCanBusError x0 x1 x2 x3 x4 x5 x6) := by
  unfold execCanBusError
  repeat' (first | with_reducible assumption | exact mask_sub hk rfl | with_reducible (first | apply kept_raise | apply kept_countReg | apply kept_txFailed | apply kept_setF | apply kept_errCount | apply KeptO_ite | apply KeptO_next | apply Kept_ite) | split | intro _)

theorem kept_execRecover {x0 x1 x2} (h2 : Kept g x2) : KeptO g (execRecover x0 x1 x2) := by
  unfold execRecover
  repeat' (first | with_reducible assumption | with_reducible (first | apply kept_permit | apply kept_canRecover | apply KeptO_ite | apply KeptO_next | apply Kept_ite) | split | intro _)

theorem kept_execBusOn {x0 x1} (h1 : Kept g x1) : KeptO g (execBusOn x0 x1) := by
  unfold execBusOn
  repeat' (first | with_reducible assumption | with_reducible (first | apply kept_setF | apply kept_raise | apply kept_setReg | apply KeptO_ite | apply KeptO_next | apply Kept_ite) | split | intro _)

theorem kept_execCanModeWrite {x0 x1 x2 x3} (h3 : Kept g x3) : KeptO g (execCanModeWrite x0 x1 x2 x3) := by
  unfold execCanModeWrite
  repeat' (first | with_reducible assumption | with_reducible (first | apply kept_permit | apply kept_canSetMode | apply KeptO_ite | apply KeptO_next | apply Kept_ite) | split | intro _)

theorem kept_execCanPeriodicDue {x0 x1 x2} (h2 : Kept g x2) (hk : 671088640 &&& g.mask = 671088640) : KeptO g (execCanPeriodicDue x0 x1 x2) := by
  unfold execCanPeriodicDue
  repeat' (first | with_reducible assumption | exact mask_sub hk rfl | with_reducible (first | apply kept_sendFunction | apply KeptO_ite | apply KeptO_next | apply Kept_ite) | split | intro _)

theorem kept_execTrefSend {x0 x1} (h1 : Kept g x1) (hk : 134217728 &&& g.mask = 134217728) : KeptO g (execTrefSend x0 x1) := by
  unfold execTrefSend
  repeat' (first | with_reducible assumption | exact mask_sub hk rfl | with_reducible (first | apply kept_setCan | apply kept_moduleTx | apply kept_setReg | apply KeptO_ite | apply KeptO_next | apply Kept_ite) | split | intro _)

theorem kept_execTrefLost {x0 x1} (h1 : Kept g x1) (hk : 134217728 &&& g.mask = 134217728) : KeptO g (execTrefLost x0 x1) := by
  unfold execTrefLost
  repeat' (first | with_reducible assumption | exact mask_sub hk rfl | with_reducible (first | apply kept_raise | apply kept_setCan | apply KeptO_ite | apply KeptO_next | apply Kept_ite) | split | intro _)

theorem kept_execRxqAck {x0 x1 x2 x3} (h3 : Kept g x3) (hk : 134217728 &&& g.mask = 134217728) : KeptO g (execRxqAck x0 x1 x2 x3) := by
  unfold execRxqAck
  repeat' (first | with_reducible assumption | exact mask_sub hk rfl | with_reducible (first | apply kept_permit | apply kept_rxqAck | apply KeptO_ite | apply KeptO_next | apply Kept_ite) | split | intro _)

theorem kept_execRxqHeadRead {x0 x1 x2 x3 x4} (h4 : Kept g x4) (hk : 134217728 &&& g.mask = 134217728) : KeptO g (execRxqHeadRead x0 x1 x2 x3 x4) := by
  unfold execRxqHeadRead
  repeat' (first | with_reducible assumption | exact mask_sub hk rfl | with_reducible (first | apply kept_emit | apply kept_headRead | apply KeptO_ite | apply KeptO_next | apply Kept_ite) | split | intro _)

theorem kept_execRxqLockExpiry {x0 x1 x2} (h2 : Kept g x2) (hk : 134217728 &&& g.mask = 134217728) : KeptO g (execRxqLockExpiry x0 x1 x2) := by
  unfold execRxqLockExpiry
  repeat' (first | with_reducible assumption | exact mask_sub hk rfl | with_reducible (first | apply kept_setQueue | apply KeptO_ite | apply KeptO_next | apply Kept_ite) | split | intro _)

theorem kept_execFilterCommit {x0 x1 x2 x3} (h3 : Kept g x3) : KeptO g (execFilterCommit x0 x1 x2 x3) := by
  unfold execFilterCommit
  repeat' (first | with_reducible assumption | with_reducible (first | apply kept_permitAt | apply kept_filterCommit | apply KeptO_ite | apply KeptO_next | apply Kept_ite) | split | intro _)

theorem kept_execEthLinkChange {x0 x1 x2 x3 x4} (h4 : Kept g x4) : KeptO g (execEthLinkChange x0 x1 x2 x3 x4) := by
  unfold execEthLinkChange
  repeat' (first | with_reducible assumption | with_reducible (first | apply kept_ethLink | apply KeptO_ite | apply KeptO_next | apply Kept_ite) | split | intro _)

theorem kept_execEthRxFrame {x0 x1 x2} (h2 : Kept g x2) (hk : 536870916 &&& g.mask = 536870916) : KeptO g (execEthRxFrame x0 x1 x2) := by
  unfold execEthRxFrame
  repeat' (first
    | with_reducible assumption
    | with_reducible refine fun _ => ?_
    | ((try lift_lets); intro s; refine (have hs : Kept g s := ?_; ?_); subst s; rotate_left; clear_value s; rotate_left)
    | ((try lift_lets); first | (intro (x : Mram); subst x) | (intro (x : Compositor); subst x) | (intro (x : Store 32); subst x) | (intro (x : Store 8); subst x) | (intro (x : State × _); subst x) | (intro (x : _ × State); subst x) | (intro (x : _ × _ × State); subst x) | (intro (x : State → _); subst x) | (intro (x : _ → State → _); subst x) | (intro (x : _ → State); subst x) | (intro x; clear_value x))
    | (simp only [↓Kept_mk_iff]; refine And.intro ?_ (And.intro ?_ (And.intro ?_ (And.intro ?_ (And.intro ?_ (And.intro ?_ (And.intro ?_ (And.intro ?_ (And.intro ?_ ?_)))))))))
    | with_reducible (first | apply kept_countReg | apply kept_learnMac | apply kept_egress | apply kept_deliver | apply Kept_ite | apply KeptO_ite | apply KeptO_next | apply Kept_foldl)
    | with_reducible (first | exact Kept_regs (by assumption) (by assumption) | exact Kept_ram (by assumption) (by assumption) | exact Kept_mram (by assumption) (by assumption) | exact Kept_flt (by assumption) (by assumption) | exact Kept_var (by assumption) | exact Kept_ev (by assumption) (by assumption) | exact Kept_has (by assumption) | exact Kept_out (by assumption) | exact Kept_ctr (by assumption) | exact watchE_none (by assumption))
    | (first | exact mask_sub hk rfl | exact hk)
    | with_reducible (first | refine Kept_snd (by assumption) ?_ | refine Kept_fst (by assumption) ?_)
    | with_reducible exact Kept_of_next (by assumption)
    | with_reducible (refine Kept_of_O (by assumption) ?_)
    | with_reducible (first | refine Kept_regs (g := g) ?_ (by assumption) | refine Kept_ram (g := g) ?_ (by assumption) | refine Kept_mram (g := g) ?_ (by assumption) | refine Kept_flt (g := g) ?_ (by assumption) | refine Kept_var ?_ | refine Kept_ev ?_ (by assumption) | refine Kept_has ?_ | refine Kept_out ?_ | refine Kept_ctr ?_)
    | dsimp -zeta only
    | split)

theorem kept_execPlantDatagram {x0 x1 x2} (h2 : Kept g x2) (hk : 741308484 &&& g.mask = 741308484) : KeptO g (execPlantDatagram x0 x1 x2) := by
  unfold execPlantDatagram
  repeat' (first
    | with_reducible assumption
    | with_reducible refine fun _ => ?_
    | ((try lift_lets); intro s; refine (have hs : Kept g s := ?_; ?_); subst s; rotate_left; clear_value s; rotate_left)
    | ((try lift_lets); first | (intro (x : Mram); subst x) | (intro (x : Compositor); subst x) | (intro (x : Store 32); subst x) | (intro (x : Store 8); subst x) | (intro (x : State × _); subst x) | (intro (x : _ × State); subst x) | (intro (x : _ × _ × State); subst x) | (intro (x : State → _); subst x) | (intro (x : _ → State → _); subst x) | (intro (x : _ → State); subst x) | (intro x; clear_value x))
    | (simp only [↓Kept_mk_iff]; refine And.intro ?_ (And.intro ?_ (And.intro ?_ (And.intro ?_ (And.intro ?_ (And.intro ?_ (And.intro ?_ (And.intro ?_ (And.intro ?_ ?_)))))))))
    | with_reducible (first | apply kept_connectAck | apply kept_deliver | apply kept_raise | apply kept_countReg | apply Kept_ite | apply KeptO_ite | apply KeptO_next | apply filter_wf | apply evOk_filter)
    | with_reducible (first | exact Kept_regs (by assumption) (by assumption) | exact Kept_ram (by assumption) (by assumption) | exact Kept_mram (by assumption) (by assumption) | exact Kept_flt (by assumption) (by assumption) | exact Kept_var (by assumption) | exact Kept_ev (by assumption) (by assumption) | exact Kept_has (by assumption) | exact Kept_out (by assumption) | exact Kept_ctr (by assumption) | exact watchE_none (by assumption))
    | with_reducible refine Only_mk ?_ (.inr rfl) (.inr rfl) (.inr rfl) (.inr rfl) (.inr rfl) (.inr rfl) (.inr rfl) (.inr rfl) (.inr rfl) (.inr rfl) (.inr rfl) (.inr rfl) (.inr rfl) (.inr rfl) (.inr rfl) (.inr rfl) (.inr rfl) (.inr rfl) (.inr rfl) (.inr rfl) (.inr rfl) (.inr rfl) (.inr rfl) (.inr rfl) (.inr rfl) (.inr rfl) (.inl (mask_bit hk rfl)) (.inr rfl) (.inr rfl) (.inr rfl)
    | (first | exact mask_sub hk rfl | exact hk)
    | with_reducible (first | refine Kept_snd (by assumption) ?_ | refine Kept_fst (by assumption) ?_)
    | with_reducible exact Kept_of_next (by assumption)
    | with_reducible (refine Kept_of_O (by assumption) ?_)
    | with_reducible (first | refine Kept_regs (g := g) ?_ (by assumption) | refine Kept_ram (g := g) ?_ (by assumption) | refine Kept_mram (g := g) ?_ (by assumption) | refine Kept_flt (g := g) ?_ (by assumption) | refine Kept_var ?_ | refine Kept_ev ?_ (by assumption) | refine Kept_has ?_ | refine Kept_out ?_ | refine Kept_ctr ?_)
    | dsimp -zeta only
    | split)

theorem kept_execArpRequest {x0 x1 x2 x3 x4 x5} (h5 : Kept g x5) : KeptO g (execArpRequest x0 x1 x2 x3 x4 x5) := by
  unfold execArpRequest
  repeat' (first | with_reducible assumption | with_reducible (first | apply kept_ethOut | apply KeptO_ite | apply KeptO_next | apply Kept_ite) | split | intro _)

theorem kept_execIcmpEcho {x0 x1 x2 x3} (h3 : Kept g x3) : KeptO g (execIcmpEcho x0 x1 x2 x3) := by
  unfold execIcmpEcho
  repeat' (first | with_reducible assumption | with_reducible (first | apply kept_ethOut | apply KeptO_ite | apply KeptO_next | apply Kept_ite) | split | intro _)

theorem kept_execEthTxDone {x0 x1 x2} (h2 : Kept g x2) (hk : 536870916 &&& g.mask = 536870916) : KeptO g (execEthTxDone x0 x1 x2) := by
  unfold execEthTxDone
  repeat' (first | with_reducible assumption | exact mask_sub hk rfl | with_reducible (first | apply kept_txScan | apply kept_writeBack | apply kept_sendHost | apply kept_setMemWord | apply KeptO_ite | apply KeptO_next | apply Kept_ite) | split | intro _)

theorem kept_execMacAge {x0 x1} (h1 : Kept g x1) (hk : 536870912 &&& g.mask = 536870912) : KeptO g (execMacAge x0 x1) := by
  unfold execMacAge
  repeat' (first
    | with_reducible assumption
    | with_reducible refine fun _ => ?_
    | ((try lift_lets); intro s; refine (have hs : Kept g s := ?_; ?_); subst s; rotate_left; clear_value s; rotate_left)
    | ((try lift_lets); first | (intro (x : Mram); subst x) | (intro (x : Compositor); subst x) | (intro (x : Store 32); subst x) | (intro (x : Store 8); subst x) | (intro (x : State × _); subst x) | (intro (x : _ × State); subst x) | (intro (x : _ × _ × State); subst x) | (intro (x : State → _); subst x) | (intro (x : _ → State → _); subst x) | (intro (x : _ → State); subst x) | (intro x; clear_value x))
    | (simp only [↓Kept_mk_iff]; refine And.intro ?_ (And.intro ?_ (And.intro ?_ (And.intro ?_ (And.intro ?_ (And.intro ?_ (And.intro ?_ (And.intro ?_ (And.intro ?_ ?_)))))))))
    | with_reducible (first | apply Kept_ite | apply KeptO_ite | apply KeptO_next | apply filter_wf | apply evOk_filter)
    | with_reducible (first | exact Kept_regs (by assumption) (by assumption) | exact Kept_ram (by assumption) (by assumption) | exact Kept_mram (by assumption) (by assumption) | exact Kept_flt (by assumption) (by assumption) | exact Kept_var (by assumption) | exact Kept_ev (by assumption) (by assumption) | exact Kept_has (by assumption) | exact Kept_out (by assumption) | exact Kept_ctr (by assumption) | exact watchE_none (by assumption))
    | with_reducible refine Only_mk ?_ (.inr rfl) (.inr rfl) (.inr rfl) (.inr rfl) (.inr rfl) (.inr rfl) (.inr rfl) (.inr rfl) (.inr rfl) (.inr rfl) (.inr rfl) (.inr rfl) (.inr rfl) (.inr rfl) (.inr rfl) (.inr rfl) (.inr rfl) (.inr rfl) (.inr rfl) (.inr rfl) (.inr rfl) (.inr rfl) (.inr rfl) (.inr rfl) (.inr rfl) (.inr rfl) (.inl (mask_bit hk rfl)) (.inr rfl) (.inr rfl) (.inr rfl)
    | (first | exact mask_sub hk rfl | exact hk)
    | with_reducible (first | refine Kept_snd (by assumption) ?_ | refine Kept_fst (by assumption) ?_)
    | with_reducible exact Kept_of_next (by assumption)
    | with_reducible (refine Kept_of_O (by assumption) ?_)
    | with_reducible (first | refine Kept_regs (g := g) ?_ (by assumption) | refine Kept_ram (g := g) ?_ (by assumption) | refine Kept_mram (g := g) ?_ (by assumption) | refine Kept_flt (g := g) ?_ (by assumption) | refine Kept_var ?_ | refine Kept_ev ?_ (by assumption) | refine Kept_has ?_ | refine Kept_out ?_ | refine Kept_ctr ?_)
    | dsimp -zeta only
    | split)

theorem kept_execPlnkFrame {x0 x1} (h1 : Kept g x1) (hk : 743405888 &&& g.mask = 743405888) : KeptO g (execPlnkFrame x0 x1) := by
  unfold execPlnkFrame
  repeat' (first
    | with_reducible assumption
    | with_reducible refine fun _ => ?_
    | ((try lift_lets); intro s; refine (have hs : Kept g s := ?_; ?_); subst s; rotate_left; clear_value s; rotate_left)
    | ((try lift_lets); first | (intro (x : Mram); subst x) | (intro (x : Compositor); subst x) | (intro (x : Store 32); subst x) | (intro (x : Store 8); subst x) | (intro (x : State × _); subst x) | (intro (x : _ × State); subst x) | (intro (x : _ × _ × State); subst x) | (intro (x : State → _); subst x) | (intro (x : _ → State → _); subst x) | (intro (x : _ → State); subst x) | (intro x; clear_value x))
    | (simp only [↓Kept_mk_iff]; refine And.intro ?_ (And.intro ?_ (And.intro ?_ (And.intro ?_ (And.intro ?_ (And.intro ?_ (And.intro ?_ (And.intro ?_ (And.intro ?_ ?_)))))))))
    | with_reducible (first | apply kept_countReg | apply kept_higherEdition | apply kept_breakOff | apply kept_seqGap | apply Kept_ite | apply KeptO_ite | apply KeptO_next | apply filter_wf | apply evOk_filter)
    | with_reducible (first | exact Kept_regs (by assumption) (by assumption) | exact Kept_ram (by assumption) (by assumption) | exact Kept_mram (by assumption) (by assumption) | exact Kept_flt (by assumption) (by assumption) | exact Kept_var (by assumption) | exact Kept_ev (by assumption) (by assumption) | exact Kept_has (by assumption) | exact Kept_out (by assumption) | exact Kept_ctr (by assumption) | exact watchE_none (by assumption))
    | with_reducible refine Only_mk ?_ (.inr rfl) (.inr rfl) (.inr rfl) (.inr rfl) (.inr rfl) (.inr rfl) (.inr rfl) (.inr rfl) (.inr rfl) (.inr rfl) (.inr rfl) (.inr rfl) (.inr rfl) (.inr rfl) (.inr rfl) (.inr rfl) (.inr rfl) (.inr rfl) (.inr rfl) (.inr rfl) (.inr rfl) (.inr rfl) (.inr rfl) (.inr rfl) (.inr rfl) (.inr rfl) (.inl (mask_bit hk rfl)) (.inr rfl) (.inr rfl) (.inr rfl)
    | (first | exact mask_sub hk rfl | exact hk)
    | with_reducible (first | refine Kept_snd (by assumption) ?_ | refine Kept_fst (by assumption) ?_)
    | with_reducible exact Kept_of_next (by assumption)
    | with_reducible (refine Kept_of_O (by assumption) ?_)
    | with_reducible (first | refine Kept_regs (g := g) ?_ (by assumption) | refine Kept_ram (g := g) ?_ (by assumption) | refine Kept_mram (g := g) ?_ (by assumption) | refine Kept_flt (g := g) ?_ (by assumption) | refine Kept_var ?_ | refine Kept_ev ?_ (by assumption) | refine Kept_has ?_ | refine Kept_out ?_ | refine Kept_ctr ?_)
    | dsimp -zeta only
    | split)

theorem kept_execPlnkLinkDown {x0 x1} (h1 : Kept g x1) (hk : 753891648 &&& g.mask = 753891648) : KeptO g (execPlnkLinkDown x0 x1) := by
  unfold execPlnkLinkDown
  repeat' (first | with_reducible assumption | exact mask_sub hk rfl | with_reducible (first | apply kept_plnkDown | apply KeptO_ite | apply KeptO_next | apply Kept_ite) | split | intro _)

theorem kept_execPlnkLinkUp {x0} (h0 : Kept g x0) (hk : 545259520 &&& g.mask = 545259520) : KeptO g (execPlnkLinkUp x0) := by
  unfold execPlnkLinkUp
  repeat' (first
    | with_reducible assumption
    | with_reducible refine fun _ => ?_
    | ((try lift_lets); intro s; refine (have hs : Kept g s := ?_; ?_); subst s; rotate_left; clear_value s; rotate_left)
    | ((try lift_lets); first | (intro (x : Mram); subst x) | (intro (x : Compositor); subst x) | (intro (x : Store 32); subst x) | (intro (x : Store 8); subst x) | (intro (x : State × _); subst x) | (intro (x : _ × State); subst x) | (intro (x : _ × _ × State); subst x) | (intro (x : State → _); subst x) | (intro (x : _ → State → _); subst x) | (intro (x : _ → State); subst x) | (intro x; clear_value x))
    | (simp only [↓Kept_mk_iff]; refine And.intro ?_ (And.intro ?_ (And.intro ?_ (And.intro ?_ (And.intro ?_ (And.intro ?_ (And.intro ?_ (And.intro ?_ (And.intro ?_ ?_)))))))))
    | with_reducible (first | apply kept_countF | apply kept_setB | apply kept_pathGood | apply kept_raise | apply Kept_ite | apply KeptO_ite | apply KeptO_next)
    | with_reducible (first | exact Kept_regs (by assumption) (by assumption) | exact Kept_ram (by assumption) (by assumption) | exact Kept_mram (by assumption) (by assumption) | exact Kept_flt (by assumption) (by assumption) | exact Kept_var (by assumption) | exact Kept_ev (by assumption) (by assumption) | exact Kept_has (by assumption) | exact Kept_out (by assumption) | exact Kept_ctr (by assumption) | exact watchE_none (by assumption))
    | with_reducible refine Only_mk ?_ (.inr rfl) (.inr rfl) (.inr rfl) (.inr rfl) (.inr rfl) (.inr rfl) (.inr rfl) (.inr rfl) (.inr rfl) (.inr rfl) (.inr rfl) (.inr rfl) (.inr rfl) (.inr rfl) (.inr rfl) (.inr rfl) (.inr rfl) (.inr rfl) (.inr rfl) (.inr rfl) (.inl (mask_bit hk rfl)) (.inr rfl) (.inr rfl) (.inr rfl) (.inr rfl) (.inr rfl) (.inl (mask_bit hk rfl)) (.inr rfl) (.inr rfl) (.inr rfl)
    | (first | exact mask_sub hk rfl | exact hk)
    | with_reducible (first | refine Kept_snd (by assumption) ?_ | refine Kept_fst (by assumption) ?_)
    | with_reducible exact Kept_of_next (by assumption)
    | with_reducible (refine Kept_of_O (by assumption) ?_)
    | with_reducible (first | refine Kept_regs (g := g) ?_ (by assumption) | refine Kept_ram (g := g) ?_ (by assumption) | refine Kept_mram (g := g) ?_ (by assumption) | refine Kept_flt (g := g) ?_ (by assumption) | refine Kept_var ?_ | refine Kept_ev ?_ (by assumption) | refine Kept_has ?_ | refine Kept_out ?_ | refine Kept_ctr ?_)
    | dsimp -zeta only
    | split)

theorem kept_execTwbIdentRead {x0 x1 x2 x3} (h3 : Kept g x3) (hk : 3355451392 &&& g.mask = 3355451392) : KeptO g (execTwbIdentRead x0 x1 x2 x3) := by
  unfold execTwbIdentRead
  repeat' (first | with_reducible assumption | exact mask_sub hk rfl | with_reducible (first | apply kept_target | apply kept_tgtGroup | apply KeptO_ite | apply KeptO_next | apply Kept_ite) | split | intro _)

theorem kept_execTwbModeRead {x0 x1 x2 x3} (h3 : Kept g x3) (hk : 3355451392 &&& g.mask = 3355451392) : KeptO g (execTwbModeRead x0 x1 x2 x3) := by
  unfold execTwbModeRead
  repeat' (first | with_reducible assumption | exact mask_sub hk rfl | with_reducible (first | apply kept_target | apply kept_tgtGroup | apply KeptO_ite | apply KeptO_next | apply Kept_ite) | split | intro _)

theorem kept_execTwbHoursRead {x0 x1 x2 x3} (h3 : Kept g x3) (hk : 3355451392 &&& g.mask = 3355451392) : KeptO g (execTwbHoursRead x0 x1 x2 x3) := by
  unfold execTwbHoursRead
  repeat' (first | with_reducible assumption | exact mask_sub hk rfl | with_reducible (first | apply kept_target | apply kept_tgtGroup | apply KeptO_ite | apply KeptO_next | apply Kept_ite) | split | intro _)

theorem kept_execTwbAddrRead {x0 x1 x2 x3} (h3 : Kept g x3) (hk : 3355451392 &&& g.mask = 3355451392) : KeptO g (execTwbAddrRead x0 x1 x2 x3) := by
  unfold execTwbAddrRead
  repeat' (first | with_reducible assumption | exact mask_sub hk rfl | with_reducible (first | apply kept_target | apply kept_tgtGroup | apply KeptO_ite | apply KeptO_next | apply Kept_ite) | split | intro _)

theorem kept_execTwbPointerWrite {x0 x1 x2 x3} (h3 : Kept g x3) (hk : 1073741824 &&& g.mask = 1073741824) : KeptO g (execTwbPointerWrite x0 x1 x2 x3) := by
  unfold execTwbPointerWrite
  repeat' (first | with_reducible assumption | exact mask_sub hk rfl | with_reducible (first | apply kept_target | apply kept_countReg | apply kept_setReg | apply kept_raise | apply KeptO_ite | apply KeptO_next | apply Kept_ite) | split | intro _)

theorem kept_execTwbPointerRead {x0 x1 x2 x3} (h3 : Kept g x3) (hk : 3355451392 &&& g.mask = 3355451392) : KeptO g (execTwbPointerRead x0 x1 x2 x3) := by
  unfold execTwbPointerRead
  repeat' (first | with_reducible assumption | exact mask_sub hk rfl | with_reducible (first | apply kept_target | apply kept_readAny | apply kept_tgtSend | apply kept_setReg | apply kept_fresh | apply KeptO_ite | apply KeptO_next | apply Kept_ite) | split | intro _)

theorem kept_execTwbFixedPointerRead {x0 x1 x2 x3} (h3 : Kept g x3) (hk : 3355451392 &&& g.mask = 3355451392) : KeptO g (execTwbFixedPointerRead x0 x1 x2 x3) := by
  unfold execTwbFixedPointerRead
  repeat' (first
    | with_reducible assumption
    | with_reducible refine fun _ => ?_
    | ((try lift_lets); intro s; refine (have hs : Kept g s := ?_; ?_); subst s; rotate_left; clear_value s; rotate_left)
    | ((try lift_lets); first | (intro (x : Mram); subst x) | (intro (x : Compositor); subst x) | (intro (x : Store 32); subst x) | (intro (x : Store 8); subst x) | (intro (x : State × _); subst x) | (intro (x : _ × State); subst x) | (intro (x : _ × _ × State); subst x) | (intro (x : State → _); subst x) | (intro (x : _ → State → _); subst x) | (intro (x : _ → State); subst x) | (intro x; clear_value x))
    | (simp only [↓Kept_mk_iff]; refine And.intro ?_ (And.intro ?_ (And.intro ?_ (And.intro ?_ (And.intro ?_ (And.intro ?_ (And.intro ?_ (And.intro ?_ (And.intro ?_ ?_)))))))))
    | with_reducible (first | apply kept_target | apply kept_readAny | apply kept_tgtSend | apply Kept_ite | apply KeptO_ite | apply KeptO_next)
    | with_reducible (first | exact Kept_regs (by assumption) (by assumption) | exact Kept_ram (by assumption) (by assumption) | exact Kept_mram (by assumption) (by assumption) | exact Kept_flt (by assumption) (by assumption) | exact Kept_var (by assumption) | exact Kept_ev (by assumption) (by assumption) | exact Kept_has (by assumption) | exact Kept_out (by assumption) | exact Kept_ctr (by assumption) | exact watchE_none (by assumption))
    | (first | exact mask_sub hk rfl | exact hk)
    | with_reducible (first | refine Kept_snd (by assumption) ?_ | refine Kept_fst (by assumption) ?_)
    | with_reducible exact Kept_of_next (by assumption)
    | with_reducible (refine Kept_of_O (by assumption) ?_)
    | with_reducible (first | refine Kept_regs (g := g) ?_ (by assumption) | refine Kept_ram (g := g) ?_ (by assumption) | refine Kept_mram (g := g) ?_ (by assumption) | refine Kept_flt (g := g) ?_ (by assumption) | refine Kept_var ?_ | refine Kept_ev ?_ (by assumption) | refine Kept_has ?_ | refine Kept_out ?_ | refine Kept_ctr ?_)
    | dsimp -zeta only
    | split)

theorem kept_execTwbProtoErr {x0} (h0 : Kept g x0) : KeptO g (execTwbProtoErr x0) := by
  unfold execTwbProtoErr
  repeat' (first | with_reducible assumption | with_reducible (first | apply kept_raise | apply kept_countReg | apply KeptO_ite | apply KeptO_next | apply Kept_ite) | split | intro _)

theorem kept_execTwbTgtTimeout {x0} (h0 : Kept g x0) : KeptO g (execTwbTgtTimeout x0) := by
  unfold execTwbTgtTimeout
  repeat' (first | with_reducible assumption | with_reducible (first | apply kept_raise | apply kept_countReg | apply KeptO_ite | apply KeptO_next | apply Kept_ite) | split | intro _)

theorem kept_execTwbQuickWrite {x0 x1 x2} (h2 : Kept g x2) (hk : 1073741824 &&& g.mask = 1073741824) : KeptO g (execTwbQuickWrite x0 x1 x2) := by
  unfold execTwbQuickWrite
  repeat' (first | with_reducible assumption | exact mask_sub hk rfl | with_reducible (first | apply kept_twbCtl | apply KeptO_ite | apply KeptO_next | apply Kept_ite) | split | intro _)

theorem kept_execTwbQuickRead {x0 x1 x2} (h2 : Kept g x2) (hk : 1073741824 &&& g.mask = 1073741824) : KeptO g (execTwbQuickRead x0 x1 x2) := by
  unfold execTwbQuickRead
  repeat' (first | with_reducible assumption | exact mask_sub hk rfl | with_reducible (first | apply kept_twbCtl | apply KeptO_ite | apply KeptO_next | apply Kept_ite) | split | intro _)

theorem kept_execTwbSendByte {x0 x1 x2} (h2 : Kept g x2) (hk : 1073741824 &&& g.mask = 1073741824) : KeptO g (execTwbSendByte x0 x1 x2) := by
  unfold execTwbSendByte
  repeat' (first | with_reducible assumption | exact mask_sub hk rfl | with_reducible (first | apply kept_twbCtl | apply KeptO_ite | apply KeptO_next | apply Kept_ite) | split | intro _)

theorem kept_execTwbReceiveByte {x0 x1 x2} (h2 : Kept g x2) (hk : 1073741824 &&& g.mask = 1073741824) : KeptO g (execTwbReceiveByte x0 x1 x2) := by
  unfold execTwbReceiveByte
  repeat' (first | with_reducible assumption | exact mask_sub hk rfl | with_reducible (first | apply kept_twbCtl | apply KeptO_ite | apply KeptO_next | apply Kept_ite) | split | intro _)

theorem kept_execTwbWriteByte {x0 x1 x2} (h2 : Kept g x2) (hk : 1073741824 &&& g.mask = 1073741824) : KeptO g (execTwbWriteByte x0 x1 x2) := by
  unfold execTwbWriteByte
  repeat' (first | with_reducible assumption | exact mask_sub hk rfl | with_reducible (first | apply kept_twbCtl | apply KeptO_ite | apply KeptO_next | apply Kept_ite) | split | intro _)

theorem kept_execTwbReadByte {x0 x1 x2} (h2 : Kept g x2) (hk : 1073741824 &&& g.mask = 1073741824) : KeptO g (execTwbReadByte x0 x1 x2) := by
  unfold execTwbReadByte
  repeat' (first | with_reducible assumption | exact mask_sub hk rfl | with_reducible (first | apply kept_twbCtl | apply KeptO_ite | apply KeptO_next | apply Kept_ite) | split | intro _)

theorem kept_execTwbWriteWord {x0 x1 x2} (h2 : Kept g x2) (hk : 1073741824 &&& g.mask = 1073741824) : KeptO g (execTwbWriteWord x0 x1 x2) := by
  unfold execTwbWriteWord
  repeat' (first | with_reducible assumption | exact mask_sub hk rfl | with_reducible (first | apply kept_twbCtl | apply KeptO_ite | apply KeptO_next | apply Kept_ite) | split | intro _)

theorem kept_execTwbReadWord {x0 x1 x2} (h2 : Kept g x2) (hk : 1073741824 &&& g.mask = 1073741824) : KeptO g (execTwbReadWord x0 x1 x2) := by
  unfold execTwbReadWord
  repeat' (first | with_reducible assumption | exact mask_sub hk rfl | with_reducible (first | apply kept_twbCtl | apply KeptO_ite | apply KeptO_next | apply Kept_ite) | split | intro _)

theorem kept_execTwbProcessCall {x0 x1 x2} (h2 : Kept g x2) (hk : 1073741824 &&& g.mask = 1073741824) : KeptO g (execTwbProcessCall x0 x1 x2) := by
  unfold execTwbProcessCall
  repeat' (first | with_reducible assumption | exact mask_sub hk rfl | with_reducible (first | apply kept_twbCtl | apply KeptO_ite | apply KeptO_next | apply Kept_ite) | split | intro _)

theorem kept_execTwbBlockWrite {x0 x1 x2} (h2 : Kept g x2) (hk : 1073741824 &&& g.mask = 1073741824) : KeptO g (execTwbBlockWrite x0 x1 x2) := by
  unfold execTwbBlockWrite
  repeat' (first | with_reducible assumption | exact mask_sub hk rfl | with_reducible (first | apply kept_twbCtl | apply KeptO_ite | apply KeptO_next | apply Kept_ite) | split | intro _)

theorem kept_execTwbBlockRead {x0 x1 x2} (h2 : Kept g x2) (hk : 1073741824 &&& g.mask = 1073741824) : KeptO g (execTwbBlockRead x0 x1 x2) := by
  unfold execTwbBlockRead
  repeat' (first | with_reducible assumption | exact mask_sub hk rfl | with_reducible (first | apply kept_twbCtl | apply KeptO_ite | apply KeptO_next | apply Kept_ite) | split | intro _)

theorem kept_execTwbBlockWriteBlockRead {x0 x1 x2} (h2 : Kept g x2) (hk : 1073741824 &&& g.mask = 1073741824) : KeptO g (execTwbBlockWriteBlockRead x0 x1 x2) := by
  unfold execTwbBlockWriteBlockRead
  repeat' (first | with_reducible assumption | exact mask_sub hk rfl | with_reducible (first | apply kept_twbCtl | apply KeptO_ite | apply KeptO_next | apply Kept_ite) | split | intro _)

theorem kept_execTwbFixedWrite {x0 x1 x2} (h2 : Kept g x2) (hk : 1073741824 &&& g.mask = 1073741824) : KeptO g (execTwbFixedWrite x0 x1 x2) := by
  unfold execTwbFixedWrite
  repeat' (first | with_reducible assumption | exact mask_sub hk rfl | with_reducible (first | apply kept_twbCtl | apply KeptO_ite | apply KeptO_next | apply Kept_ite) | split | intro _)

theorem kept_execTwbFixedRead {x0 x1 x2} (h2 : Kept g x2) (hk : 1073741824 &&& g.mask = 1073741824) : KeptO g (execTwbFixedRead x0 x1 x2) := by
  unfold execTwbFixedRead
  repeat' (first | with_reducible assumption | exact mask_sub hk rfl | with_reducible (first | apply kept_twbCtl | apply KeptO_ite | apply KeptO_next | apply Kept_ite) | split | intro _)

theorem kept_execTwbCancel {x0 x1} (h1 : Kept g x1) (hk : 1073741824 &&& g.mask = 1073741824) : KeptO g (execTwbCancel x0 x1) := by
  unfold execTwbCancel
  repeat' (first | with_reducible assumption | exact mask_sub hk rfl | with_reducible (first | apply kept_permit | apply kept_twbCancel | apply KeptO_ite | apply KeptO_next | apply Kept_ite) | split | intro _)

theorem kept_execTwbBusFree {x0} (h0 : Kept g x0) (hk : 1073741824 &&& g.mask = 1073741824) : KeptO g (execTwbBusFree x0) := by
  unfold execTwbBusFree
  repeat' (first
    | with_reducible assumption
    | with_reducible refine fun _ => ?_
    | ((try lift_lets); intro s; refine (have hs : Kept g s := ?_; ?_); subst s; rotate_left; clear_value s; rotate_left)
    | ((try lift_lets); first | (intro (x : Mram); subst x) | (intro (x : Compositor); subst x) | (intro (x : Store 32); subst x) | (intro (x : Store 8); subst x) | (intro (x : State × _); subst x) | (intro (x : _ × State); subst x) | (intro (x : _ × _ × State); subst x) | (intro (x : State → _); subst x) | (intro (x : _ → State → _); subst x) | (intro (x : _ → State); subst x) | (intro x; clear_value x))
    | (simp only [↓Kept_mk_iff]; refine And.intro ?_ (And.intro ?_ (And.intro ?_ (And.intro ?_ (And.intro ?_ (And.intro ?_ (And.intro ?_ (And.intro ?_ (And.intro ?_ ?_)))))))))
    | with_reducible (first | apply kept_twbStart | apply Kept_ite | apply KeptO_ite | apply KeptO_next)
    | with_reducible (first | exact Kept_regs (by assumption) (by assumption) | exact Kept_ram (by assumption) (by assumption) | exact Kept_mram (by assumption) (by assumption) | exact Kept_flt (by assumption) (by assumption) | exact Kept_var (by assumption) | exact Kept_ev (by assumption) (by assumption) | exact Kept_has (by assumption) | exact Kept_out (by assumption) | exact Kept_ctr (by assumption) | exact watchE_none (by assumption))
    | with_reducible refine Only_mk ?_ (.inr rfl) (.inr rfl) (.inr rfl) (.inr rfl) (.inr rfl) (.inr rfl) (.inr rfl) (.inr rfl) (.inr rfl) (.inr rfl) (.inr rfl) (.inr rfl) (.inr rfl) (.inr rfl) (.inr rfl) (.inr rfl) (.inr rfl) (.inr rfl) (.inr rfl) (.inr rfl) (.inr rfl) (.inr rfl) (.inr rfl) (.inr rfl) (.inr rfl) (.inr rfl) (.inr rfl) (.inl (mask_bit hk rfl)) (.inr rfl) (.inr rfl)
    | (first | exact mask_sub hk rfl | exact hk)
    | with_reducible (first | refine Kept_snd (by assumption) ?_ | refine Kept_fst (by assumption) ?_)
    | with_reducible exact Kept_of_next (by assumption)
    | with_reducible (refine Kept_of_O (by assumption) ?_)
    | with_reducible (first | refine Kept_regs (g := g) ?_ (by assumption) | refine Kept_ram (g := g) ?_ (by assumption) | refine Kept_mram (g := g) ?_ (by assumption) | refine Kept_flt (g := g) ?_ (by assumption) | refine Kept_var ?_ | refine Kept_ev ?_ (by assumption) | refine Kept_has ?_ | refine Kept_out ?_ | refine Kept_ctr ?_)
    | dsimp -zeta only
    | split)

theorem kept_execCDone {x0 x1} (h1 : Kept g x1) (hE : ∀ e, ¬ g.events e) (hk : 1073741824 &&& g.mask = 1073741824) : KeptO g (execCDone x0 x1) := by
  unfold execCDone
  repeat' (first | with_reducible assumption | exact mask_sub hk rfl | with_reducible (first | apply kept_twbFinish | apply kept_raise | apply kept_countReg | apply KeptO_ite | apply KeptO_next | apply Kept_ite) | split | intro _)

theorem kept_execArbLost {x0 x1} (h1 : Kept g x1) (hE : ∀ e, ¬ g.events e) (hk : 1073741824 &&& g.mask = 1073741824) : KeptO g (execArbLost x0 x1) := by
  unfold execArbLost
  repeat' (first
    | with_reducible assumption
    | with_reducible refine fun _ => ?_
    | ((try lift_lets); intro s; refine (have hs : Kept g s := ?_; ?_); subst s; rotate_left; clear_value s; rotate_left)
    | ((try lift_lets); first | (intro (x : Mram); subst x) | (intro (x : Compositor); subst x) | (intro (x : Store 32); subst x) | (intro (x : Store 8); subst x) | (intro (x : State × _); subst x) | (intro (x : _ × State); subst x) | (intro (x : _ × _ × State); subst x) | (intro (x : State → _); subst x) | (intro (x : _ → State → _); subst x) | (intro (x : _ → State); subst x) | (intro x; clear_value x))
    | (simp only [↓Kept_mk_iff]; refine And.intro ?_ (And.intro ?_ (And.intro ?_ (And.intro ?_ (And.intro ?_ (And.intro ?_ (And.intro ?_ (And.intro ?_ (And.intro ?_ ?_)))))))))
    | with_reducible (first | apply kept_twbFinish | apply kept_raise | apply kept_countReg | apply Kept_ite | apply KeptO_ite | apply KeptO_next)
    | with_reducible (first | exact Kept_regs (by assumption) (by assumption) | exact Kept_ram (by assumption) (by assumption) | exact Kept_mram (by assumption) (by assumption) | exact Kept_flt (by assumption) (by assumption) | exact Kept_var (by assumption) | exact Kept_ev (by assumption) (by assumption) | exact Kept_has (by assumption) | exact Kept_out (by assumption) | exact Kept_ctr (by assumption) | exact watchE_none (by assumption))
    | with_reducible refine Only_mk ?_ (.inr rfl) (.inr rfl) (.inr rfl) (.inr rfl) (.inr rfl) (.inr rfl) (.inr rfl) (.inr rfl) (.inr rfl) (.inr rfl) (.inr rfl) (.inr rfl) (.inr rfl) (.inr rfl) (.inr rfl) (.inr rfl) (.inr rfl) (.inr rfl) (.inr rfl) (.inr rfl) (.inr rfl) (.inr rfl) (.inr rfl) (.inr rfl) (.inr rfl) (.inr rfl) (.inr rfl) (.inl (mask_bit hk rfl)) (.inr rfl) (.inr rfl)
    | (first | exact mask_sub hk rfl | exact hk)
    | with_reducible (first | refine Kept_snd (by assumption) ?_ | refine Kept_fst (by assumption) ?_)
    | with_reducible exact Kept_of_next (by assumption)
    | with_reducible (refine Kept_of_O (by assumption) ?_)
    | with_reducible (first | refine Kept_regs (g := g) ?_ (by assumption) | refine Kept_ram (g := g) ?_ (by assumption) | refine Kept_mram (g := g) ?_ (by assumption) | refine Kept_flt (g := g) ?_ (by assumption) | refine Kept_var ?_ | refine Kept_ev ?_ (by assumption) | refine Kept_has ?_ | refine Kept_out ?_ | refine Kept_ctr ?_)
    | dsimp -zeta only
    | split)

theorem kept_execTwbCTimeout {x0} (h0 : Kept g x0) (hE : ∀ e, ¬ g.events e) (hk : 1073741824 &&& g.mask = 1073741824) : KeptO g (execTwbCTimeout x0) := by
  unfold execTwbCTimeout
  repeat' (first | with_reducible assumption | exact mask_sub hk rfl | with_reducible (first | apply kept_twbFinish | apply kept_raise | apply KeptO_ite | apply KeptO_next | apply Kept_ite) | split | intro _)

theorem kept_execBusStuck {x0 x1} (h1 : Kept g x1) (hE : ∀ e, ¬ g.events e) (hk : 1073741824 &&& g.mask = 1073741824) : KeptO g (execBusStuck x0 x1) := by
  unfold execBusStuck
  repeat' (first | with_reducible assumption | exact mask_sub hk rfl | with_reducible (first | apply kept_twbFinish | apply kept_raise | apply kept_emit | apply KeptO_ite | apply KeptO_next | apply Kept_ite) | split | intro _)

theorem kept_execHeaderCheckDone {x0 x1} (h1 : Kept g x1) (hk : 33556480 &&& g.mask = 33556480) : KeptO g (execHeaderCheckDone x0 x1) := by
  unfold execHeaderCheckDone
  repeat' (first
    | with_reducible assumption
    | with_reducible refine fun _ => ?_
    | ((try lift_lets); intro s; refine (have hs : Kept g s := ?_; ?_); subst s; rotate_left; clear_value s; rotate_left)
    | ((try lift_lets); first | (intro (x : Mram); subst x) | (intro (x : Compositor); subst x) | (intro (x : Store 32); subst x) | (intro (x : Store 8); subst x) | (intro (x : State × _); subst x) | (intro (x : _ × State); subst x) | (intro (x : _ × _ × State); subst x) | (intro (x : State → _); subst x) | (intro (x : _ → State → _); subst x) | (intro (x : _ → State); subst x) | (intro x; clear_value x))
    | (simp only [↓Kept_mk_iff]; refine And.intro ?_ (And.intro ?_ (And.intro ?_ (And.intro ?_ (And.intro ?_ (And.intro ?_ (And.intro ?_ (And.intro ?_ (And.intro ?_ ?_)))))))))
    | with_reducible (first | apply kept_exchangeDrop | apply kept_putBank | apply kept_updShow | apply kept_raise | apply kept_updReject | apply Kept_ite | apply KeptO_ite | apply KeptO_next | apply filter_wf | apply evOk_filter)
    | with_reducible (first | exact Kept_regs (by assumption) (by assumption) | exact Kept_ram (by assumption) (by assumption) | exact Kept_mram (by assumption) (by assumption) | exact Kept_flt (by assumption) (by assumption) | exact Kept_var (by assumption) | exact Kept_ev (by assumption) (by assumption) | exact Kept_has (by assumption) | exact Kept_out (by assumption) | exact Kept_ctr (by assumption) | exact watchE_none (by assumption))
    | with_reducible refine Only_mk ?_ (.inr rfl) (.inr rfl) (.inr rfl) (.inr rfl) (.inr rfl) (.inr rfl) (.inr rfl) (.inr rfl) (.inr rfl) (.inr rfl) (.inr rfl) (.inr rfl) (.inr rfl) (.inr rfl) (.inr rfl) (.inr rfl) (.inr rfl) (.inr rfl) (.inr rfl) (.inr rfl) (.inr rfl) (.inr rfl) (.inl (mask_bit hk rfl)) (.inr rfl) (.inr rfl) (.inr rfl) (.inr rfl) (.inr rfl) (.inr rfl) (.inr rfl)
    | (first | exact mask_sub hk rfl | exact hk)
    | with_reducible (first | refine Kept_snd (by assumption) ?_ | refine Kept_fst (by assumption) ?_)
    | with_reducible exact Kept_of_next (by assumption)
    | with_reducible (refine Kept_of_O (by assumption) ?_)
    | with_reducible (first | refine Kept_regs (g := g) ?_ (by assumption) | refine Kept_ram (g := g) ?_ (by assumption) | refine Kept_mram (g := g) ?_ (by assumption) | refine Kept_flt (g := g) ?_ (by assumption) | refine Kept_var ?_ | refine Kept_ev ?_ (by assumption) | refine Kept_has ?_ | refine Kept_out ?_ | refine Kept_ctr ?_)
    | dsimp -zeta only
    | split)

theorem kept_execPayloadVerified {x0 x1} (h1 : Kept g x1) (hk : 33554432 &&& g.mask = 33554432) : KeptO g (execPayloadVerified x0 x1) := by
  unfold execPayloadVerified
  repeat' (first
    | with_reducible assumption
    | with_reducible refine fun _ => ?_
    | ((try lift_lets); intro s; refine (have hs : Kept g s := ?_; ?_); subst s; rotate_left; clear_value s; rotate_left)
    | ((try lift_lets); first | (intro (x : Mram); subst x) | (intro (x : Compositor); subst x) | (intro (x : Store 32); subst x) | (intro (x : Store 8); subst x) | (intro (x : State × _); subst x) | (intro (x : _ × State); subst x) | (intro (x : _ × _ × State); subst x) | (intro (x : State → _); subst x) | (intro (x : _ → State → _); subst x) | (intro (x : _ → State); subst x) | (intro x; clear_value x))
    | (simp only [↓Kept_mk_iff]; refine And.intro ?_ (And.intro ?_ (And.intro ?_ (And.intro ?_ (And.intro ?_ (And.intro ?_ (And.intro ?_ (And.intro ?_ (And.intro ?_ ?_)))))))))
    | with_reducible (first | apply kept_updReject | apply kept_raiseIf | apply kept_putBank | apply kept_updShow | apply kept_raise | apply Kept_ite | apply KeptO_ite | apply KeptO_next)
    | with_reducible (first | exact Kept_regs (by assumption) (by assumption) | exact Kept_ram (by assumption) (by assumption) | exact Kept_mram (by assumption) (by assumption) | exact Kept_flt (by assumption) (by assumption) | exact Kept_var (by assumption) | exact Kept_ev (by assumption) (by assumption) | exact Kept_has (by assumption) | exact Kept_out (by assumption) | exact Kept_ctr (by assumption) | exact watchE_none (by assumption))
    | with_reducible refine Only_mk ?_ (.inr rfl) (.inr rfl) (.inr rfl) (.inr rfl) (.inr rfl) (.inr rfl) (.inr rfl) (.inr rfl) (.inr rfl) (.inr rfl) (.inr rfl) (.inr rfl) (.inr rfl) (.inr rfl) (.inr rfl) (.inr rfl) (.inr rfl) (.inr rfl) (.inr rfl) (.inr rfl) (.inr rfl) (.inr rfl) (.inl (mask_bit hk rfl)) (.inr rfl) (.inr rfl) (.inr rfl) (.inr rfl) (.inr rfl) (.inr rfl) (.inr rfl)
    | (first | exact mask_sub hk rfl | exact hk)
    | with_reducible (first | refine Kept_snd (by assumption) ?_ | refine Kept_fst (by assumption) ?_)
    | with_reducible exact Kept_of_next (by assumption)
    | with_reducible (refine Kept_of_O (by assumption) ?_)
    | with_reducible (first | refine Kept_regs (g := g) ?_ (by assumption) | refine Kept_ram (g := g) ?_ (by assumption) | refine Kept_mram (g := g) ?_ (by assumption) | refine Kept_flt (g := g) ?_ (by assumption) | refine Kept_var ?_ | refine Kept_ev ?_ (by assumption) | refine Kept_has ?_ | refine Kept_out ?_ | refine Kept_ctr ?_)
    | dsimp -zeta only
    | split)

theorem kept_execActivateAtDue {x0} (h0 : Kept g x0) : KeptO g (execActivateAtDue x0) := by
  unfold execActivateAtDue
  repeat' (first | with_reducible assumption | with_reducible (first | apply kept_raiseInt | apply KeptO_ite | apply KeptO_next | apply Kept_ite) | split | intro _)

theorem kept_execNfwResult {x0 x1 x2} (h2 : Kept g x2) (hk : 793737292 &&& g.mask = 793737292) : KeptO g (execNfwResult x0 x1 x2) := by
  unfold execNfwResult
  repeat' (first
    | with_reducible assumption
    | with_reducible refine fun _ => ?_
    | ((try lift_lets); intro s; refine (have hs : Kept g s := ?_; ?_); subst s; rotate_left; clear_value s; rotate_left)
    | ((try lift_lets); first | (intro (x : Mram); subst x) | (intro (x : Compositor); subst x) | (intro (x : Store 32); subst x) | (intro (x : Store 8); subst x) | (intro (x : State × _); subst x) | (intro (x : _ × State); subst x) | (intro (x : _ × _ × State); subst x) | (intro (x : State → _); subst x) | (intro (x : _ → State → _); subst x) | (intro (x : _ → State); subst x) | (intro x; clear_value x))
    | (simp only [↓Kept_mk_iff]; refine And.intro ?_ (And.intro ?_ (And.intro ?_ (And.intro ?_ (And.intro ?_ (And.intro ?_ (And.intro ?_ (And.intro ?_ (And.intro ?_ ?_)))))))))
    | with_reducible (first | apply kept_raiseIf | apply kept_frameIn | apply kept_nodeResult | apply kept_arrive | apply kept_afterRepeat | apply Kept_ite | apply KeptO_ite | apply KeptO_next)
    | with_reducible (first | exact Kept_regs (by assumption) (by assumption) | exact Kept_ram (by assumption) (by assumption) | exact Kept_mram (by assumption) (by assumption) | exact Kept_flt (by assumption) (by assumption) | exact Kept_var (by assumption) | exact Kept_ev (by assumption) (by assumption) | exact Kept_has (by assumption) | exact Kept_out (by assumption) | exact Kept_ctr (by assumption) | exact watchE_none (by assumption))
    | (first | exact mask_sub hk rfl | exact hk)
    | with_reducible (first | refine Kept_snd (by assumption) ?_ | refine Kept_fst (by assumption) ?_)
    | with_reducible exact Kept_of_next (by assumption)
    | with_reducible (refine Kept_of_O (by assumption) ?_)
    | with_reducible (first | refine Kept_regs (g := g) ?_ (by assumption) | refine Kept_ram (g := g) ?_ (by assumption) | refine Kept_mram (g := g) ?_ (by assumption) | refine Kept_flt (g := g) ?_ (by assumption) | refine Kept_var ?_ | refine Kept_ev ?_ (by assumption) | refine Kept_has ?_ | refine Kept_out ?_ | refine Kept_ctr ?_)
    | dsimp -zeta only
    | split)

theorem kept_execNfwBusyTimeout {x0} (h0 : Kept g x0) (hk : 789542988 &&& g.mask = 789542988) : KeptO g (execNfwBusyTimeout x0) := by
  unfold execNfwBusyTimeout
  repeat' (first | with_reducible assumption | exact mask_sub hk rfl | with_reducible (first | apply kept_afterRepeat | apply kept_nodeFail | apply KeptO_ite | apply KeptO_next | apply Kept_ite) | split | intro _)

theorem kept_execNodeRejoinTimeout {x0} (h0 : Kept g x0) (hk : 793737292 &&& g.mask = 793737292) : KeptO g (execNodeRejoinTimeout x0) := by
  unfold execNodeRejoinTimeout
  repeat' (first | with_reducible assumption | exact mask_sub hk rfl | with_reducible (first | apply kept_nodeFail | apply kept_enumEnd | apply KeptO_ite | apply KeptO_next | apply Kept_ite) | split | intro _)

theorem kept_execLoadStatus {x0 x1 x2 x3} (h3 : Kept g x3) (hk : 33622016 &&& g.mask = 33622016) : KeptO g (execLoadStatus x0 x1 x2 x3) := by
  unfold execLoadStatus
  repeat' (first
    | with_reducible assumption
    | with_reducible refine fun _ => ?_
    | ((try lift_lets); intro s; refine (have hs : Kept g s := ?_; ?_); subst s; rotate_left; clear_value s; rotate_left)
    | ((try lift_lets); first | (intro (x : Mram); subst x) | (intro (x : Compositor); subst x) | (intro (x : Store 32); subst x) | (intro (x : Store 8); subst x) | (intro (x : State × _); subst x) | (intro (x : _ × State); subst x) | (intro (x : _ × _ × State); subst x) | (intro (x : State → _); subst x) | (intro (x : _ → State → _); subst x) | (intro (x : _ → State); subst x) | (intro x; clear_value x))
    | (simp only [↓Kept_mk_iff]; refine And.intro ?_ (And.intro ?_ (And.intro ?_ (And.intro ?_ (And.intro ?_ (And.intro ?_ (And.intro ?_ (And.intro ?_ (And.intro ?_ ?_)))))))))
    | with_reducible (first | apply kept_countReg | apply kept_loadFail | apply kept_arrive | apply kept_loadSend | apply kept_driveMsg | apply Kept_ite | apply KeptO_ite | apply KeptO_next)
    | with_reducible (first | exact Kept_regs (by assumption) (by assumption) | exact Kept_ram (by assumption) (by assumption) | exact Kept_mram (by assumption) (by assumption) | exact Kept_flt (by assumption) (by assumption) | exact Kept_var (by assumption) | exact Kept_ev (by assumption) (by assumption) | exact Kept_has (by assumption) | exact Kept_out (by assumption) | exact Kept_ctr (by assumption) | exact watchE_none (by assumption))
    | with_reducible refine Only_mk ?_ (.inr rfl) (.inr rfl) (.inr rfl) (.inr rfl) (.inr rfl) (.inr rfl) (.inr rfl) (.inr rfl) (.inr rfl) (.inr rfl) (.inr rfl) (.inr rfl) (.inr rfl) (.inr rfl) (.inr rfl) (.inr rfl) (.inr rfl) (.inr rfl) (.inr rfl) (.inr rfl) (.inr rfl) (.inr rfl) (.inl (mask_bit hk rfl)) (.inr rfl) (.inr rfl) (.inr rfl) (.inr rfl) (.inr rfl) (.inr rfl) (.inr rfl)
    | (first | exact mask_sub hk rfl | exact hk)
    | with_reducible (first | refine Kept_snd (by assumption) ?_ | refine Kept_fst (by assumption) ?_)
    | with_reducible exact Kept_of_next (by assumption)
    | with_reducible (refine Kept_of_O (by assumption) ?_)
    | with_reducible (first | refine Kept_regs (g := g) ?_ (by assumption) | refine Kept_ram (g := g) ?_ (by assumption) | refine Kept_mram (g := g) ?_ (by assumption) | refine Kept_flt (g := g) ?_ (by assumption) | refine Kept_var ?_ | refine Kept_ev ?_ (by assumption) | refine Kept_has ?_ | refine Kept_out ?_ | refine Kept_ctr ?_)
    | dsimp -zeta only
    | split)

theorem kept_execLoadResend {x0} (h0 : Kept g x0) (hk : 33619968 &&& g.mask = 33619968) : KeptO g (execLoadResend x0) := by
  unfold execLoadResend
  repeat' (first | with_reducible assumption | exact mask_sub hk rfl | with_reducible (first | apply kept_loadSend | apply KeptO_ite | apply KeptO_next | apply Kept_ite) | split | intro _)

theorem kept_execLoadTimeout {x0} (h0 : Kept g x0) (hk : 33622016 &&& g.mask = 33622016) : KeptO g (execLoadTimeout x0) := by
  unfold execLoadTimeout
  repeat' (first | with_reducible assumption | exact mask_sub hk rfl | with_reducible (first | apply kept_loadFail | apply KeptO_ite | apply KeptO_next | apply Kept_ite) | split | intro _)

theorem kept_execTonePresent {x0 x1} (h1 : Kept g x1) : KeptO g (execTonePresent x0 x1) := by
  unfold execTonePresent
  repeat' (first | with_reducible assumption | with_reducible (first | apply kept_setF | apply kept_setB | apply kept_arrive | apply kept_raiseIf | apply kept_dropCause | apply KeptO_ite | apply KeptO_next | apply Kept_ite) | split | intro _)

theorem kept_execChassisLoopClosed {x0} (h0 : Kept g x0) (hk : 739211328 &&& g.mask = 739211328) : KeptO g (execChassisLoopClosed x0) := by
  unfold execChassisLoopClosed
  repeat' (first
    | with_reducible assumption
    | with_reducible refine fun _ => ?_
    | ((try lift_lets); intro s; refine (have hs : Kept g s := ?_; ?_); subst s; rotate_left; clear_value s; rotate_left)
    | ((try lift_lets); first | (intro (x : Mram); subst x) | (intro (x : Compositor); subst x) | (intro (x : Store 32); subst x) | (intro (x : Store 8); subst x) | (intro (x : State × _); subst x) | (intro (x : _ × State); subst x) | (intro (x : _ × _ × State); subst x) | (intro (x : State → _); subst x) | (intro (x : _ → State → _); subst x) | (intro (x : _ → State); subst x) | (intro x; clear_value x))
    | (simp only [↓Kept_mk_iff]; refine And.intro ?_ (And.intro ?_ (And.intro ?_ (And.intro ?_ (And.intro ?_ (And.intro ?_ (And.intro ?_ (And.intro ?_ (And.intro ?_ ?_)))))))))
    | with_reducible (first | apply kept_imdRefresh | apply Kept_ite | apply KeptO_ite | apply KeptO_next)
    | with_reducible (first | exact Kept_regs (by assumption) (by assumption) | exact Kept_ram (by assumption) (by assumption) | exact Kept_mram (by assumption) (by assumption) | exact Kept_flt (by assumption) (by assumption) | exact Kept_var (by assumption) | exact Kept_ev (by assumption) (by assumption) | exact Kept_has (by assumption) | exact Kept_out (by assumption) | exact Kept_ctr (by assumption) | exact watchE_none (by assumption))
    | with_reducible refine Only_mk ?_ (.inr rfl) (.inr rfl) (.inr rfl) (.inr rfl) (.inr rfl) (.inr rfl) (.inr rfl) (.inr rfl) (.inr rfl) (.inr rfl) (.inr rfl) (.inr rfl) (.inr rfl) (.inr rfl) (.inr rfl) (.inr rfl) (.inl (mask_bit hk rfl)) (.inr rfl) (.inr rfl) (.inr rfl) (.inr rfl) (.inr rfl) (.inr rfl) (.inr rfl) (.inr rfl) (.inr rfl) (.inr rfl) (.inr rfl) (.inr rfl) (.inr rfl)
    | (first | exact mask_sub hk rfl | exact hk)
    | with_reducible (first | refine Kept_snd (by assumption) ?_ | refine Kept_fst (by assumption) ?_)
    | with_reducible exact Kept_of_next (by assumption)
    | with_reducible (refine Kept_of_O (by assumption) ?_)
    | with_reducible (first | refine Kept_regs (g := g) ?_ (by assumption) | refine Kept_ram (g := g) ?_ (by assumption) | refine Kept_mram (g := g) ?_ (by assumption) | refine Kept_flt (g := g) ?_ (by assumption) | refine Kept_var ?_ | refine Kept_ev ?_ (by assumption) | refine Kept_has ?_ | refine Kept_out ?_ | refine Kept_ctr ?_)
    | dsimp -zeta only
    | split)

theorem kept_execEthLaunchDue {x0 x1} (h1 : Kept g x1) (hk : 536870916 &&& g.mask = 536870916) : KeptO g (execEthLaunchDue x0 x1) := by
  unfold execEthLaunchDue
  repeat' (first | with_reducible assumption | exact mask_sub hk rfl | with_reducible (first | apply kept_setMark | apply kept_txScan | apply KeptO_ite | apply KeptO_next | apply Kept_ite) | split | intro _)

theorem kept_execSyncSend {x0 x1} (h1 : Kept g x1) (hk : 256 &&& g.mask = 256) : KeptO g (execSyncSend x0 x1) := by
  unfold execSyncSend
  repeat' (first
    | with_reducible assumption
    | with_reducible refine fun _ => ?_
    | ((try lift_lets); intro s; refine (have hs : Kept g s := ?_; ?_); subst s; rotate_left; clear_value s; rotate_left)
    | ((try lift_lets); first | (intro (x : Mram); subst x) | (intro (x : Compositor); subst x) | (intro (x : Store 32); subst x) | (intro (x : Store 8); subst x) | (intro (x : State × _); subst x) | (intro (x : _ × State); subst x) | (intro (x : _ × _ × State); subst x) | (intro (x : State → _); subst x) | (intro (x : _ → State → _); subst x) | (intro (x : _ → State); subst x) | (intro x; clear_value x))
    | (simp only [↓Kept_mk_iff]; refine And.intro ?_ (And.intro ?_ (And.intro ?_ (And.intro ?_ (And.intro ?_ (And.intro ?_ (And.intro ?_ (And.intro ?_ (And.intro ?_ ?_)))))))))
    | with_reducible (first | apply kept_ethOut | apply Kept_ite | apply KeptO_ite | apply KeptO_next)
    | with_reducible (first | exact Kept_regs (by assumption) (by assumption) | exact Kept_ram (by assumption) (by assumption) | exact Kept_mram (by assumption) (by assumption) | exact Kept_flt (by assumption) (by assumption) | exact Kept_var (by assumption) | exact Kept_ev (by assumption) (by assumption) | exact Kept_has (by assumption) | exact Kept_out (by assumption) | exact Kept_ctr (by assumption) | exact watchE_none (by assumption))
    | with_reducible refine Only_mk ?_ (.inr rfl) (.inr rfl) (.inr rfl) (.inr rfl) (.inr rfl) (.inr rfl) (.inl (mask_bit hk rfl)) (.inr rfl) (.inr rfl) (.inr rfl) (.inr rfl) (.inr rfl) (.inr rfl) (.inr rfl) (.inr rfl) (.inr rfl) (.inr rfl) (.inr rfl) (.inr rfl) (.inr rfl) (.inr rfl) (.inr rfl) (.inr rfl) (.inr rfl) (.inr rfl) (.inr rfl) (.inr rfl) (.inr rfl) (.inr rfl) (.inr rfl)
    | (first | exact mask_sub hk rfl | exact hk)
    | with_reducible (first | refine Kept_snd (by assumption) ?_ | refine Kept_fst (by assumption) ?_)
    | with_reducible exact Kept_of_next (by assumption)
    | with_reducible (refine Kept_of_O (by assumption) ?_)
    | with_reducible (first | refine Kept_regs (g := g) ?_ (by assumption) | refine Kept_ram (g := g) ?_ (by assumption) | refine Kept_mram (g := g) ?_ (by assumption) | refine Kept_flt (g := g) ?_ (by assumption) | refine Kept_var ?_ | refine Kept_ev ?_ (by assumption) | refine Kept_has ?_ | refine Kept_out ?_ | refine Kept_ctr ?_)
    | dsimp -zeta only
    | split)

theorem kept_execSwapDriveTimeout {x0} (h0 : Kept g x0) (hk : 8456256 &&& g.mask = 8456256) : KeptO g (execSwapDriveTimeout x0) := by
  unfold execSwapDriveTimeout
  repeat' (first
    | with_reducible assumption
    | with_reducible refine fun _ => ?_
    | ((try lift_lets); intro s; refine (have hs : Kept g s := ?_; ?_); subst s; rotate_left; clear_value s; rotate_left)
    | ((try lift_lets); first | (intro (x : Mram); subst x) | (intro (x : Compositor); subst x) | (intro (x : Store 32); subst x) | (intro (x : Store 8); subst x) | (intro (x : State × _); subst x) | (intro (x : _ × State); subst x) | (intro (x : _ × _ × State); subst x) | (intro (x : State → _); subst x) | (intro (x : _ → State → _); subst x) | (intro (x : _ → State); subst x) | (intro x; clear_value x))
    | (simp only [↓Kept_mk_iff]; refine And.intro ?_ (And.intro ?_ (And.intro ?_ (And.intro ?_ (And.intro ?_ (And.intro ?_ (And.intro ?_ (And.intro ?_ (And.intro ?_ ?_)))))))))
    | with_reducible (first | apply kept_driveMsg | apply kept_swapFail | apply kept_pwmRefresh | apply kept_setPstate | apply Kept_ite | apply KeptO_ite | apply KeptO_next)
    | with_reducible (first | exact Kept_regs (by assumption) (by assumption) | exact Kept_ram (by assumption) (by assumption) | exact Kept_mram (by assumption) (by assumption) | exact Kept_flt (by assumption) (by assumption) | exact Kept_var (by assumption) | exact Kept_ev (by assumption) (by assumption) | exact Kept_has (by assumption) | exact Kept_out (by assumption) | exact Kept_ctr (by assumption) | exact watchE_none (by assumption))
    | with_reducible refine Only_mk ?_ (.inr rfl) (.inr rfl) (.inr rfl) (.inr rfl) (.inr rfl) (.inr rfl) (.inr rfl) (.inr rfl) (.inr rfl) (.inr rfl) (.inr rfl) (.inr rfl) (.inr rfl) (.inl (mask_bit hk rfl)) (.inr rfl) (.inr rfl) (.inr rfl) (.inr rfl) (.inr rfl) (.inr rfl) (.inr rfl) (.inr rfl) (.inr rfl) (.inr rfl) (.inr rfl) (.inr rfl) (.inr rfl) (.inr rfl) (.inr rfl) (.inr rfl)
    | (first | exact mask_sub hk rfl | exact hk)
    | with_reducible (first | refine Kept_snd (by assumption) ?_ | refine Kept_fst (by assumption) ?_)
    | with_reducible exact Kept_of_next (by assumption)
    | with_reducible (refine Kept_of_O (by assumption) ?_)
    | with_reducible (first | refine Kept_regs (g := g) ?_ (by assumption) | refine Kept_ram (g := g) ?_ (by assumption) | refine Kept_mram (g := g) ?_ (by assumption) | refine Kept_flt (g := g) ?_ (by assumption) | refine Kept_var ?_ | refine Kept_ev ?_ (by assumption) | refine Kept_has ?_ | refine Kept_out ?_ | refine Kept_ctr ?_)
    | dsimp -zeta only
    | split)

theorem kept_execEccCorrected {x0} (h0 : Kept g x0) : KeptO g (execEccCorrected x0) := by
  unfold execEccCorrected
  repeat' (first | with_reducible assumption | with_reducible (first | apply kept_raise | apply kept_countF | apply KeptO_ite | apply KeptO_next | apply Kept_ite) | split | intro _)

end Sys2Proof.Machine
end

