-- ==== Sys2Proof/Laws/Line.lean ====
section
/-! SUPPORT. When the partner line and the evaluation of a granted mode request do nothing, and what the latter does. -/

namespace Sys2Proof.Machine

/-- No request has been granted: the cycle evaluates none (R29). -/
theorem State.evalDue_idle {s : State} (h : s.mode.due = 0) : s.evalDue = s := by
  simp [State.evalDue, h]

/-- This module's own request has been granted: the cycle evaluates it (R29). -/
theorem State.evalDue_own {s : State} (h : s.mode.due = 1) :
    s.evalDue = { s with mode := { s.mode with due := 0 } }.request s.mode.dueTag s.mode.dueTgt := by
  simp [State.evalDue, h]

/-- A link that cannot send lets no message out (R66, R474). -/
theorem State.plnkOut_off {s : State} {type : Nat} {body : List Nat} (h : s.plnkOn = false) : s.plnkOut type body = s := by
  simp [State.plnkOut, h]

/-- With no frame waiting the line takes none (R475). -/
theorem State.plnkLine_empty {s : State} (h : s.eth.txq = []) : s.plnkLine = s := by
  simp [State.plnkLine, plnkFirst, h]

/-- A busy line takes no frame (R475). -/
theorem State.plnkLine_busy {s : State} (h : s.localNs < s.eth.txBusy) : s.plnkLine = s := by
  unfold State.plnkLine; split <;> simp [h]

end Sys2Proof.Machine
end

