-- ==== Sys2Proof/Laws/State.lean ====
section
/-! SUPPORT. One lemma per field and named update of the state: an update leaves every field but its own as it was. -/

namespace Sys2Proof.Machine

/-! ### `setReg` -/

@[simp] theorem State.setReg_pending (s : State) (a v : Nat) : (s.setReg a v).pending = s.pending := rfl
@[simp] theorem State.setReg_ram (s : State) (a v : Nat) : (s.setReg a v).ram = s.ram := rfl
@[simp] theorem State.setReg_phase (s : State) (a v : Nat) : (s.setReg a v).phase = s.phase := rfl
@[simp] theorem State.setReg_variant (s : State) (a v : Nat) : (s.setReg a v).variant = s.variant := rfl
@[simp] theorem State.setReg_record (s : State) (a v : Nat) : (s.setReg a v).record = s.record := rfl
@[simp] theorem State.setReg_mram (s : State) (a v : Nat) : (s.setReg a v).mram = s.mram := rfl
@[simp] theorem State.setReg_ticks (s : State) (a v : Nat) : (s.setReg a v).ticks = s.ticks := rfl
@[simp] theorem State.setReg_time (s : State) (a v : Nat) : (s.setReg a v).time = s.time := rfl
@[simp] theorem State.setReg_comp (s : State) (a v : Nat) : (s.setReg a v).comp = s.comp := rfl
@[simp] theorem State.setReg_evr (s : State) (a v : Nat) : (s.setReg a v).evr = s.evr := rfl
@[simp] theorem State.setReg_gal (s : State) (a v : Nat) : (s.setReg a v).gal = s.gal := rfl
@[simp] theorem State.setReg_mode (s : State) (a v : Nat) : (s.setReg a v).mode = s.mode := rfl
@[simp] theorem State.setReg_loops (s : State) (a v : Nat) : (s.setReg a v).loops = s.loops := rfl
@[simp] theorem State.setReg_prof (s : State) (a v : Nat) : (s.setReg a v).prof = s.prof := rfl
@[simp] theorem State.setReg_thm (s : State) (a v : Nat) : (s.setReg a v).thm = s.thm := rfl
@[simp] theorem State.setReg_drv (s : State) (a v : Nat) : (s.setReg a v).drv = s.drv := rfl
@[simp] theorem State.setReg_safe (s : State) (a v : Nat) : (s.setReg a v).safe = s.safe := rfl
@[simp] theorem State.setReg_asy (s : State) (a v : Nat) : (s.setReg a v).asy = s.asy := rfl
@[simp] theorem State.setReg_meas (s : State) (a v : Nat) : (s.setReg a v).meas = s.meas := rfl
@[simp] theorem State.setReg_est (s : State) (a v : Nat) : (s.setReg a v).est = s.est := rfl
@[simp] theorem State.setReg_bal (s : State) (a v : Nat) : (s.setReg a v).bal = s.bal := rfl
@[simp] theorem State.setReg_chain (s : State) (a v : Nat) : (s.setReg a v).chain = s.chain := rfl
@[simp] theorem State.setReg_pairU (s : State) (a v : Nat) : (s.setReg a v).pairU = s.pairU := rfl
@[simp] theorem State.setReg_aux (s : State) (a v : Nat) : (s.setReg a v).aux = s.aux := rfl
@[simp] theorem State.setReg_upd (s : State) (a v : Nat) : (s.setReg a v).upd = s.upd := rfl
@[simp] theorem State.setReg_cyc (s : State) (a v : Nat) : (s.setReg a v).cyc = s.cyc := rfl
@[simp] theorem State.setReg_can (s : State) (a v : Nat) : (s.setReg a v).can = s.can := rfl
@[simp] theorem State.setReg_fltHeld (s : State) (a v : Nat) : (s.setReg a v).fltHeld = s.fltHeld := rfl
@[simp] theorem State.setReg_eth (s : State) (a v : Nat) : (s.setReg a v).eth = s.eth := rfl
@[simp] theorem State.setReg_twb (s : State) (a v : Nat) : (s.setReg a v).twb = s.twb := rfl
@[simp] theorem State.setReg_acc (s : State) (a v : Nat) : (s.setReg a v).acc = s.acc := rfl
@[simp] theorem State.setReg_dormantAt (s : State) (a v : Nat) : (s.setReg a v).dormantAt = s.dormantAt := rfl
@[simp] theorem State.setReg_freeCtr (s : State) (a v : Nat) : (s.setReg a v).freeCtr = s.freeCtr := rfl
@[simp] theorem State.setReg_sent (s : State) (a v : Nat) : (s.setReg a v).sent = s.sent := rfl

/-! ### `setF` -/

@[simp] theorem State.setF_pending (s : State) (f : Fld) (v : Nat) : (s.setF f v).pending = s.pending := rfl
@[simp] theorem State.setF_ram (s : State) (f : Fld) (v : Nat) : (s.setF f v).ram = s.ram := rfl
@[simp] theorem State.setF_phase (s : State) (f : Fld) (v : Nat) : (s.setF f v).phase = s.phase := rfl
@[simp] theorem State.setF_variant (s : State) (f : Fld) (v : Nat) : (s.setF f v).variant = s.variant := rfl
@[simp] theorem State.setF_record (s : State) (f : Fld) (v : Nat) : (s.setF f v).record = s.record := rfl
@[simp] theorem State.setF_mram (s : State) (f : Fld) (v : Nat) : (s.setF f v).mram = s.mram := rfl
@[simp] theorem State.setF_ticks (s : State) (f : Fld) (v : Nat) : (s.setF f v).ticks = s.ticks := rfl
@[simp] theorem State.setF_time (s : State) (f : Fld) (v : Nat) : (s.setF f v).time = s.time := rfl
@[simp] theorem State.setF_comp (s : State) (f : Fld) (v : Nat) : (s.setF f v).comp = s.comp := rfl
@[simp] theorem State.setF_evr (s : State) (f : Fld) (v : Nat) : (s.setF f v).evr = s.evr := rfl
@[simp] theorem State.setF_gal (s : State) (f : Fld) (v : Nat) : (s.setF f v).gal = s.gal := rfl
@[simp] theorem State.setF_mode (s : State) (f : Fld) (v : Nat) : (s.setF f v).mode = s.mode := rfl
@[simp] theorem State.setF_loops (s : State) (f : Fld) (v : Nat) : (s.setF f v).loops = s.loops := rfl
@[simp] theorem State.setF_prof (s : State) (f : Fld) (v : Nat) : (s.setF f v).prof = s.prof := rfl
@[simp] theorem State.setF_thm (s : State) (f : Fld) (v : Nat) : (s.setF f v).thm = s.thm := rfl
@[simp] theorem State.setF_drv (s : State) (f : Fld) (v : Nat) : (s.setF f v).drv = s.drv := rfl
@[simp] theorem State.setF_safe (s : State) (f : Fld) (v : Nat) : (s.setF f v).safe = s.safe := rfl
@[simp] theorem State.setF_asy (s : State) (f : Fld) (v : Nat) : (s.setF f v).asy = s.asy := rfl
@[simp] theorem State.setF_meas (s : State) (f : Fld) (v : Nat) : (s.setF f v).meas = s.meas := rfl
@[simp] theorem State.setF_est (s : State) (f : Fld) (v : Nat) : (s.setF f v).est = s.est := rfl
@[simp] theorem State.setF_bal (s : State) (f : Fld) (v : Nat) : (s.setF f v).bal = s.bal := rfl
@[simp] theorem State.setF_chain (s : State) (f : Fld) (v : Nat) : (s.setF f v).chain = s.chain := rfl
@[simp] theorem State.setF_pairU (s : State) (f : Fld) (v : Nat) : (s.setF f v).pairU = s.pairU := rfl
@[simp] theorem State.setF_aux (s : State) (f : Fld) (v : Nat) : (s.setF f v).aux = s.aux := rfl
@[simp] theorem State.setF_upd (s : State) (f : Fld) (v : Nat) : (s.setF f v).upd = s.upd := rfl
@[simp] theorem State.setF_cyc (s : State) (f : Fld) (v : Nat) : (s.setF f v).cyc = s.cyc := rfl
@[simp] theorem State.setF_can (s : State) (f : Fld) (v : Nat) : (s.setF f v).can = s.can := rfl
@[simp] theorem State.setF_fltHeld (s : State) (f : Fld) (v : Nat) : (s.setF f v).fltHeld = s.fltHeld := rfl
@[simp] theorem State.setF_eth (s : State) (f : Fld) (v : Nat) : (s.setF f v).eth = s.eth := rfl
@[simp] theorem State.setF_twb (s : State) (f : Fld) (v : Nat) : (s.setF f v).twb = s.twb := rfl
@[simp] theorem State.setF_acc (s : State) (f : Fld) (v : Nat) : (s.setF f v).acc = s.acc := rfl
@[simp] theorem State.setF_dormantAt (s : State) (f : Fld) (v : Nat) : (s.setF f v).dormantAt = s.dormantAt := rfl
@[simp] theorem State.setF_freeCtr (s : State) (f : Fld) (v : Nat) : (s.setF f v).freeCtr = s.freeCtr := rfl
@[simp] theorem State.setF_sent (s : State) (f : Fld) (v : Nat) : (s.setF f v).sent = s.sent := rfl

/-! ### `setB` -/

@[simp] theorem State.setB_pending (s : State) (f : Fld) (b : Bool) : (s.setB f b).pending = s.pending := rfl
@[simp] theorem State.setB_ram (s : State) (f : Fld) (b : Bool) : (s.setB f b).ram = s.ram := rfl
@[simp] theorem State.setB_phase (s : State) (f : Fld) (b : Bool) : (s.setB f b).phase = s.phase := rfl
@[simp] theorem State.setB_variant (s : State) (f : Fld) (b : Bool) : (s.setB f b).variant = s.variant := rfl
@[simp] theorem State.setB_record (s : State) (f : Fld) (b : Bool) : (s.setB f b).record = s.record := rfl
@[simp] theorem State.setB_mram (s : State) (f : Fld) (b : Bool) : (s.setB f b).mram = s.mram := rfl
@[simp] theorem State.setB_ticks (s : State) (f : Fld) (b : Bool) : (s.setB f b).ticks = s.ticks := rfl
@[simp] theorem State.setB_time (s : State) (f : Fld) (b : Bool) : (s.setB f b).time = s.time := rfl
@[simp] theorem State.setB_comp (s : State) (f : Fld) (b : Bool) : (s.setB f b).comp = s.comp := rfl
@[simp] theorem State.setB_evr (s : State) (f : Fld) (b : Bool) : (s.setB f b).evr = s.evr := rfl
@[simp] theorem State.setB_gal (s : State) (f : Fld) (b : Bool) : (s.setB f b).gal = s.gal := rfl
@[simp] theorem State.setB_mode (s : State) (f : Fld) (b : Bool) : (s.setB f b).mode = s.mode := rfl
@[simp] theorem State.setB_loops (s : State) (f : Fld) (b : Bool) : (s.setB f b).loops = s.loops := rfl
@[simp] theorem State.setB_prof (s : State) (f : Fld) (b : Bool) : (s.setB f b).prof = s.prof := rfl
@[simp] theorem State.setB_thm (s : State) (f : Fld) (b : Bool) : (s.setB f b).thm = s.thm := rfl
@[simp] theorem State.setB_drv (s : State) (f : Fld) (b : Bool) : (s.setB f b).drv = s.drv := rfl
@[simp] theorem State.setB_safe (s : State) (f : Fld) (b : Bool) : (s.setB f b).safe = s.safe := rfl
@[simp] theorem State.setB_asy (s : State) (f : Fld) (b : Bool) : (s.setB f b).asy = s.asy := rfl
@[simp] theorem State.setB_meas (s : State) (f : Fld) (b : Bool) : (s.setB f b).meas = s.meas := rfl
@[simp] theorem State.setB_est (s : State) (f : Fld) (b : Bool) : (s.setB f b).est = s.est := rfl
@[simp] theorem State.setB_bal (s : State) (f : Fld) (b : Bool) : (s.setB f b).bal = s.bal := rfl
@[simp] theorem State.setB_chain (s : State) (f : Fld) (b : Bool) : (s.setB f b).chain = s.chain := rfl
@[simp] theorem State.setB_pairU (s : State) (f : Fld) (b : Bool) : (s.setB f b).pairU = s.pairU := rfl
@[simp] theorem State.setB_aux (s : State) (f : Fld) (b : Bool) : (s.setB f b).aux = s.aux := rfl
@[simp] theorem State.setB_upd (s : State) (f : Fld) (b : Bool) : (s.setB f b).upd = s.upd := rfl
@[simp] theorem State.setB_cyc (s : State) (f : Fld) (b : Bool) : (s.setB f b).cyc = s.cyc := rfl
@[simp] theorem State.setB_can (s : State) (f : Fld) (b : Bool) : (s.setB f b).can = s.can := rfl
@[simp] theorem State.setB_fltHeld (s : State) (f : Fld) (b : Bool) : (s.setB f b).fltHeld = s.fltHeld := rfl
@[simp] theorem State.setB_eth (s : State) (f : Fld) (b : Bool) : (s.setB f b).eth = s.eth := rfl
@[simp] theorem State.setB_twb (s : State) (f : Fld) (b : Bool) : (s.setB f b).twb = s.twb := rfl
@[simp] theorem State.setB_acc (s : State) (f : Fld) (b : Bool) : (s.setB f b).acc = s.acc := rfl
@[simp] theorem State.setB_dormantAt (s : State) (f : Fld) (b : Bool) : (s.setB f b).dormantAt = s.dormantAt := rfl
@[simp] theorem State.setB_freeCtr (s : State) (f : Fld) (b : Bool) : (s.setB f b).freeCtr = s.freeCtr := rfl
@[simp] theorem State.setB_sent (s : State) (f : Fld) (b : Bool) : (s.setB f b).sent = s.sent := rfl

/-! ### `setI` -/

@[simp] theorem State.setI_pending (s : State) (a : Nat) (v : Int) : (s.setI a v).pending = s.pending := rfl
@[simp] theorem State.setI_ram (s : State) (a : Nat) (v : Int) : (s.setI a v).ram = s.ram := rfl
@[simp] theorem State.setI_phase (s : State) (a : Nat) (v : Int) : (s.setI a v).phase = s.phase := rfl
@[simp] theorem State.setI_variant (s : State) (a : Nat) (v : Int) : (s.setI a v).variant = s.variant := rfl
@[simp] theorem State.setI_record (s : State) (a : Nat) (v : Int) : (s.setI a v).record = s.record := rfl
@[simp] theorem State.setI_mram (s : State) (a : Nat) (v : Int) : (s.setI a v).mram = s.mram := rfl
@[simp] theorem State.setI_ticks (s : State) (a : Nat) (v : Int) : (s.setI a v).ticks = s.ticks := rfl
@[simp] theorem State.setI_time (s : State) (a : Nat) (v : Int) : (s.setI a v).time = s.time := rfl
@[simp] theorem State.setI_comp (s : State) (a : Nat) (v : Int) : (s.setI a v).comp = s.comp := rfl
@[simp] theorem State.setI_evr (s : State) (a : Nat) (v : Int) : (s.setI a v).evr = s.evr := rfl
@[simp] theorem State.setI_gal (s : State) (a : Nat) (v : Int) : (s.setI a v).gal = s.gal := rfl
@[simp] theorem State.setI_mode (s : State) (a : Nat) (v : Int) : (s.setI a v).mode = s.mode := rfl
@[simp] theorem State.setI_loops (s : State) (a : Nat) (v : Int) : (s.setI a v).loops = s.loops := rfl
@[simp] theorem State.setI_prof (s : State) (a : Nat) (v : Int) : (s.setI a v).prof = s.prof := rfl
@[simp] theorem State.setI_thm (s : State) (a : Nat) (v : Int) : (s.setI a v).thm = s.thm := rfl
@[simp] theorem State.setI_drv (s : State) (a : Nat) (v : Int) : (s.setI a v).drv = s.drv := rfl
@[simp] theorem State.setI_safe (s : State) (a : Nat) (v : Int) : (s.setI a v).safe = s.safe := rfl
@[simp] theorem State.setI_asy (s : State) (a : Nat) (v : Int) : (s.setI a v).asy = s.asy := rfl
@[simp] theorem State.setI_meas (s : State) (a : Nat) (v : Int) : (s.setI a v).meas = s.meas := rfl
@[simp] theorem State.setI_est (s : State) (a : Nat) (v : Int) : (s.setI a v).est = s.est := rfl
@[simp] theorem State.setI_bal (s : State) (a : Nat) (v : Int) : (s.setI a v).bal = s.bal := rfl
@[simp] theorem State.setI_chain (s : State) (a : Nat) (v : Int) : (s.setI a v).chain = s.chain := rfl
@[simp] theorem State.setI_pairU (s : State) (a : Nat) (v : Int) : (s.setI a v).pairU = s.pairU := rfl
@[simp] theorem State.setI_aux (s : State) (a : Nat) (v : Int) : (s.setI a v).aux = s.aux := rfl
@[simp] theorem State.setI_upd (s : State) (a : Nat) (v : Int) : (s.setI a v).upd = s.upd := rfl
@[simp] theorem State.setI_cyc (s : State) (a : Nat) (v : Int) : (s.setI a v).cyc = s.cyc := rfl
@[simp] theorem State.setI_can (s : State) (a : Nat) (v : Int) : (s.setI a v).can = s.can := rfl
@[simp] theorem State.setI_fltHeld (s : State) (a : Nat) (v : Int) : (s.setI a v).fltHeld = s.fltHeld := rfl
@[simp] theorem State.setI_eth (s : State) (a : Nat) (v : Int) : (s.setI a v).eth = s.eth := rfl
@[simp] theorem State.setI_twb (s : State) (a : Nat) (v : Int) : (s.setI a v).twb = s.twb := rfl
@[simp] theorem State.setI_acc (s : State) (a : Nat) (v : Int) : (s.setI a v).acc = s.acc := rfl
@[simp] theorem State.setI_dormantAt (s : State) (a : Nat) (v : Int) : (s.setI a v).dormantAt = s.dormantAt := rfl
@[simp] theorem State.setI_freeCtr (s : State) (a : Nat) (v : Int) : (s.setI a v).freeCtr = s.freeCtr := rfl
@[simp] theorem State.setI_sent (s : State) (a : Nat) (v : Int) : (s.setI a v).sent = s.sent := rfl

/-! ### `countUp` -/

@[simp] theorem State.countUp_pending (s : State) (a : Nat) : (s.countUp a).pending = s.pending := rfl
@[simp] theorem State.countUp_ram (s : State) (a : Nat) : (s.countUp a).ram = s.ram := rfl
@[simp] theorem State.countUp_phase (s : State) (a : Nat) : (s.countUp a).phase = s.phase := rfl
@[simp] theorem State.countUp_variant (s : State) (a : Nat) : (s.countUp a).variant = s.variant := rfl
@[simp] theorem State.countUp_record (s : State) (a : Nat) : (s.countUp a).record = s.record := rfl
@[simp] theorem State.countUp_mram (s : State) (a : Nat) : (s.countUp a).mram = s.mram := rfl
@[simp] theorem State.countUp_ticks (s : State) (a : Nat) : (s.countUp a).ticks = s.ticks := rfl
@[simp] theorem State.countUp_time (s : State) (a : Nat) : (s.countUp a).time = s.time := rfl
@[simp] theorem State.countUp_comp (s : State) (a : Nat) : (s.countUp a).comp = s.comp := rfl
@[simp] theorem State.countUp_evr (s : State) (a : Nat) : (s.countUp a).evr = s.evr := rfl
@[simp] theorem State.countUp_gal (s : State) (a : Nat) : (s.countUp a).gal = s.gal := rfl
@[simp] theorem State.countUp_mode (s : State) (a : Nat) : (s.countUp a).mode = s.mode := rfl
@[simp] theorem State.countUp_loops (s : State) (a : Nat) : (s.countUp a).loops = s.loops := rfl
@[simp] theorem State.countUp_prof (s : State) (a : Nat) : (s.countUp a).prof = s.prof := rfl
@[simp] theorem State.countUp_thm (s : State) (a : Nat) : (s.countUp a).thm = s.thm := rfl
@[simp] theorem State.countUp_drv (s : State) (a : Nat) : (s.countUp a).drv = s.drv := rfl
@[simp] theorem State.countUp_safe (s : State) (a : Nat) : (s.countUp a).safe = s.safe := rfl
@[simp] theorem State.countUp_asy (s : State) (a : Nat) : (s.countUp a).asy = s.asy := rfl
@[simp] theorem State.countUp_meas (s : State) (a : Nat) : (s.countUp a).meas = s.meas := rfl
@[simp] theorem State.countUp_est (s : State) (a : Nat) : (s.countUp a).est = s.est := rfl
@[simp] theorem State.countUp_bal (s : State) (a : Nat) : (s.countUp a).bal = s.bal := rfl
@[simp] theorem State.countUp_chain (s : State) (a : Nat) : (s.countUp a).chain = s.chain := rfl
@[simp] theorem State.countUp_pairU (s : State) (a : Nat) : (s.countUp a).pairU = s.pairU := rfl
@[simp] theorem State.countUp_aux (s : State) (a : Nat) : (s.countUp a).aux = s.aux := rfl
@[simp] theorem State.countUp_upd (s : State) (a : Nat) : (s.countUp a).upd = s.upd := rfl
@[simp] theorem State.countUp_cyc (s : State) (a : Nat) : (s.countUp a).cyc = s.cyc := rfl
@[simp] theorem State.countUp_can (s : State) (a : Nat) : (s.countUp a).can = s.can := rfl
@[simp] theorem State.countUp_fltHeld (s : State) (a : Nat) : (s.countUp a).fltHeld = s.fltHeld := rfl
@[simp] theorem State.countUp_eth (s : State) (a : Nat) : (s.countUp a).eth = s.eth := rfl
@[simp] theorem State.countUp_twb (s : State) (a : Nat) : (s.countUp a).twb = s.twb := rfl
@[simp] theorem State.countUp_acc (s : State) (a : Nat) : (s.countUp a).acc = s.acc := rfl
@[simp] theorem State.countUp_dormantAt (s : State) (a : Nat) : (s.countUp a).dormantAt = s.dormantAt := rfl
@[simp] theorem State.countUp_freeCtr (s : State) (a : Nat) : (s.countUp a).freeCtr = s.freeCtr := rfl
@[simp] theorem State.countUp_sent (s : State) (a : Nat) : (s.countUp a).sent = s.sent := rfl

/-! ### `occur` -/

@[simp] theorem State.occur_pending (s : State) (a : Nat) (f : Nat → Nat) : (s.occur a f).pending = s.pending := rfl
@[simp] theorem State.occur_ram (s : State) (a : Nat) (f : Nat → Nat) : (s.occur a f).ram = s.ram := rfl
@[simp] theorem State.occur_phase (s : State) (a : Nat) (f : Nat → Nat) : (s.occur a f).phase = s.phase := rfl
@[simp] theorem State.occur_variant (s : State) (a : Nat) (f : Nat → Nat) : (s.occur a f).variant = s.variant := rfl
@[simp] theorem State.occur_record (s : State) (a : Nat) (f : Nat → Nat) : (s.occur a f).record = s.record := rfl
@[simp] theorem State.occur_mram (s : State) (a : Nat) (f : Nat → Nat) : (s.occur a f).mram = s.mram := rfl
@[simp] theorem State.occur_ticks (s : State) (a : Nat) (f : Nat → Nat) : (s.occur a f).ticks = s.ticks := rfl
@[simp] theorem State.occur_time (s : State) (a : Nat) (f : Nat → Nat) : (s.occur a f).time = s.time := rfl
@[simp] theorem State.occur_evr (s : State) (a : Nat) (f : Nat → Nat) : (s.occur a f).evr = s.evr := rfl
@[simp] theorem State.occur_gal (s : State) (a : Nat) (f : Nat → Nat) : (s.occur a f).gal = s.gal := rfl
@[simp] theorem State.occur_mode (s : State) (a : Nat) (f : Nat → Nat) : (s.occur a f).mode = s.mode := rfl
@[simp] theorem State.occur_loops (s : State) (a : Nat) (f : Nat → Nat) : (s.occur a f).loops = s.loops := rfl
@[simp] theorem State.occur_prof (s : State) (a : Nat) (f : Nat → Nat) : (s.occur a f).prof = s.prof := rfl
@[simp] theorem State.occur_thm (s : State) (a : Nat) (f : Nat → Nat) : (s.occur a f).thm = s.thm := rfl
@[simp] theorem State.occur_drv (s : State) (a : Nat) (f : Nat → Nat) : (s.occur a f).drv = s.drv := rfl
@[simp] theorem State.occur_safe (s : State) (a : Nat) (f : Nat → Nat) : (s.occur a f).safe = s.safe := rfl
@[simp] theorem State.occur_asy (s : State) (a : Nat) (f : Nat → Nat) : (s.occur a f).asy = s.asy := rfl
@[simp] theorem State.occur_meas (s : State) (a : Nat) (f : Nat → Nat) : (s.occur a f).meas = s.meas := rfl
@[simp] theorem State.occur_est (s : State) (a : Nat) (f : Nat → Nat) : (s.occur a f).est = s.est := rfl
@[simp] theorem State.occur_bal (s : State) (a : Nat) (f : Nat → Nat) : (s.occur a f).bal = s.bal := rfl
@[simp] theorem State.occur_chain (s : State) (a : Nat) (f : Nat → Nat) : (s.occur a f).chain = s.chain := rfl
@[simp] theorem State.occur_pairU (s : State) (a : Nat) (f : Nat → Nat) : (s.occur a f).pairU = s.pairU := rfl
@[simp] theorem State.occur_aux (s : State) (a : Nat) (f : Nat → Nat) : (s.occur a f).aux = s.aux := rfl
@[simp] theorem State.occur_upd (s : State) (a : Nat) (f : Nat → Nat) : (s.occur a f).upd = s.upd := rfl
@[simp] theorem State.occur_cyc (s : State) (a : Nat) (f : Nat → Nat) : (s.occur a f).cyc = s.cyc := rfl
@[simp] theorem State.occur_can (s : State) (a : Nat) (f : Nat → Nat) : (s.occur a f).can = s.can := rfl
@[simp] theorem State.occur_fltHeld (s : State) (a : Nat) (f : Nat → Nat) : (s.occur a f).fltHeld = s.fltHeld := rfl
@[simp] theorem State.occur_eth (s : State) (a : Nat) (f : Nat → Nat) : (s.occur a f).eth = s.eth := rfl
@[simp] theorem State.occur_twb (s : State) (a : Nat) (f : Nat → Nat) : (s.occur a f).twb = s.twb := rfl
@[simp] theorem State.occur_acc (s : State) (a : Nat) (f : Nat → Nat) : (s.occur a f).acc = s.acc := rfl
@[simp] theorem State.occur_dormantAt (s : State) (a : Nat) (f : Nat → Nat) : (s.occur a f).dormantAt = s.dormantAt := rfl
@[simp] theorem State.occur_freeCtr (s : State) (a : Nat) (f : Nat → Nat) : (s.occur a f).freeCtr = s.freeCtr := rfl
@[simp] theorem State.occur_sent (s : State) (a : Nat) (f : Nat → Nat) : (s.occur a f).sent = s.sent := rfl

/-! ### `countReg` -/

@[simp] theorem State.countReg_pending (s : State) (a : Nat) : (s.countReg a).pending = s.pending := rfl
@[simp] theorem State.countReg_ram (s : State) (a : Nat) : (s.countReg a).ram = s.ram := rfl
@[simp] theorem State.countReg_phase (s : State) (a : Nat) : (s.countReg a).phase = s.phase := rfl
@[simp] theorem State.countReg_variant (s : State) (a : Nat) : (s.countReg a).variant = s.variant := rfl
@[simp] theorem State.countReg_record (s : State) (a : Nat) : (s.countReg a).record = s.record := rfl
@[simp] theorem State.countReg_mram (s : State) (a : Nat) : (s.countReg a).mram = s.mram := rfl
@[simp] theorem State.countReg_ticks (s : State) (a : Nat) : (s.countReg a).ticks = s.ticks := rfl
@[simp] theorem State.countReg_time (s : State) (a : Nat) : (s.countReg a).time = s.time := rfl
@[simp] theorem State.countReg_evr (s : State) (a : Nat) : (s.countReg a).evr = s.evr := rfl
@[simp] theorem State.countReg_gal (s : State) (a : Nat) : (s.countReg a).gal = s.gal := rfl
@[simp] theorem State.countReg_mode (s : State) (a : Nat) : (s.countReg a).mode = s.mode := rfl
@[simp] theorem State.countReg_loops (s : State) (a : Nat) : (s.countReg a).loops = s.loops := rfl
@[simp] theorem State.countReg_prof (s : State) (a : Nat) : (s.countReg a).prof = s.prof := rfl
@[simp] theorem State.countReg_thm (s : State) (a : Nat) : (s.countReg a).thm = s.thm := rfl
@[simp] theorem State.countReg_drv (s : State) (a : Nat) : (s.countReg a).drv = s.drv := rfl
@[simp] theorem State.countReg_safe (s : State) (a : Nat) : (s.countReg a).safe = s.safe := rfl
@[simp] theorem State.countReg_asy (s : State) (a : Nat) : (s.countReg a).asy = s.asy := rfl
@[simp] theorem State.countReg_meas (s : State) (a : Nat) : (s.countReg a).meas = s.meas := rfl
@[simp] theorem State.countReg_est (s : State) (a : Nat) : (s.countReg a).est = s.est := rfl
@[simp] theorem State.countReg_bal (s : State) (a : Nat) : (s.countReg a).bal = s.bal := rfl
@[simp] theorem State.countReg_chain (s : State) (a : Nat) : (s.countReg a).chain = s.chain := rfl
@[simp] theorem State.countReg_pairU (s : State) (a : Nat) : (s.countReg a).pairU = s.pairU := rfl
@[simp] theorem State.countReg_aux (s : State) (a : Nat) : (s.countReg a).aux = s.aux := rfl
@[simp] theorem State.countReg_upd (s : State) (a : Nat) : (s.countReg a).upd = s.upd := rfl
@[simp] theorem State.countReg_cyc (s : State) (a : Nat) : (s.countReg a).cyc = s.cyc := rfl
@[simp] theorem State.countReg_can (s : State) (a : Nat) : (s.countReg a).can = s.can := rfl
@[simp] theorem State.countReg_fltHeld (s : State) (a : Nat) : (s.countReg a).fltHeld = s.fltHeld := rfl
@[simp] theorem State.countReg_eth (s : State) (a : Nat) : (s.countReg a).eth = s.eth := rfl
@[simp] theorem State.countReg_twb (s : State) (a : Nat) : (s.countReg a).twb = s.twb := rfl
@[simp] theorem State.countReg_acc (s : State) (a : Nat) : (s.countReg a).acc = s.acc := rfl
@[simp] theorem State.countReg_dormantAt (s : State) (a : Nat) : (s.countReg a).dormantAt = s.dormantAt := rfl
@[simp] theorem State.countReg_freeCtr (s : State) (a : Nat) : (s.countReg a).freeCtr = s.freeCtr := rfl
@[simp] theorem State.countReg_sent (s : State) (a : Nat) : (s.countReg a).sent = s.sent := rfl

/-! ### `wrapReg` -/

@[simp] theorem State.wrapReg_pending (s : State) (a : Nat) : (s.wrapReg a).pending = s.pending := rfl
@[simp] theorem State.wrapReg_ram (s : State) (a : Nat) : (s.wrapReg a).ram = s.ram := rfl
@[simp] theorem State.wrapReg_phase (s : State) (a : Nat) : (s.wrapReg a).phase = s.phase := rfl
@[simp] theorem State.wrapReg_variant (s : State) (a : Nat) : (s.wrapReg a).variant = s.variant := rfl
@[simp] theorem State.wrapReg_record (s : State) (a : Nat) : (s.wrapReg a).record = s.record := rfl
@[simp] theorem State.wrapReg_mram (s : State) (a : Nat) : (s.wrapReg a).mram = s.mram := rfl
@[simp] theorem State.wrapReg_ticks (s : State) (a : Nat) : (s.wrapReg a).ticks = s.ticks := rfl
@[simp] theorem State.wrapReg_time (s : State) (a : Nat) : (s.wrapReg a).time = s.time := rfl
@[simp] theorem State.wrapReg_comp (s : State) (a : Nat) : (s.wrapReg a).comp = s.comp := rfl
@[simp] theorem State.wrapReg_evr (s : State) (a : Nat) : (s.wrapReg a).evr = s.evr := rfl
@[simp] theorem State.wrapReg_gal (s : State) (a : Nat) : (s.wrapReg a).gal = s.gal := rfl
@[simp] theorem State.wrapReg_mode (s : State) (a : Nat) : (s.wrapReg a).mode = s.mode := rfl
@[simp] theorem State.wrapReg_loops (s : State) (a : Nat) : (s.wrapReg a).loops = s.loops := rfl
@[simp] theorem State.wrapReg_prof (s : State) (a : Nat) : (s.wrapReg a).prof = s.prof := rfl
@[simp] theorem State.wrapReg_thm (s : State) (a : Nat) : (s.wrapReg a).thm = s.thm := rfl
@[simp] theorem State.wrapReg_drv (s : State) (a : Nat) : (s.wrapReg a).drv = s.drv := rfl
@[simp] theorem State.wrapReg_safe (s : State) (a : Nat) : (s.wrapReg a).safe = s.safe := rfl
@[simp] theorem State.wrapReg_asy (s : State) (a : Nat) : (s.wrapReg a).asy = s.asy := rfl
@[simp] theorem State.wrapReg_meas (s : State) (a : Nat) : (s.wrapReg a).meas = s.meas := rfl
@[simp] theorem State.wrapReg_est (s : State) (a : Nat) : (s.wrapReg a).est = s.est := rfl
@[simp] theorem State.wrapReg_bal (s : State) (a : Nat) : (s.wrapReg a).bal = s.bal := rfl
@[simp] theorem State.wrapReg_chain (s : State) (a : Nat) : (s.wrapReg a).chain = s.chain := rfl
@[simp] theorem State.wrapReg_pairU (s : State) (a : Nat) : (s.wrapReg a).pairU = s.pairU := rfl
@[simp] theorem State.wrapReg_aux (s : State) (a : Nat) : (s.wrapReg a).aux = s.aux := rfl
@[simp] theorem State.wrapReg_upd (s : State) (a : Nat) : (s.wrapReg a).upd = s.upd := rfl
@[simp] theorem State.wrapReg_cyc (s : State) (a : Nat) : (s.wrapReg a).cyc = s.cyc := rfl
@[simp] theorem State.wrapReg_can (s : State) (a : Nat) : (s.wrapReg a).can = s.can := rfl
@[simp] theorem State.wrapReg_fltHeld (s : State) (a : Nat) : (s.wrapReg a).fltHeld = s.fltHeld := rfl
@[simp] theorem State.wrapReg_eth (s : State) (a : Nat) : (s.wrapReg a).eth = s.eth := rfl
@[simp] theorem State.wrapReg_twb (s : State) (a : Nat) : (s.wrapReg a).twb = s.twb := rfl
@[simp] theorem State.wrapReg_acc (s : State) (a : Nat) : (s.wrapReg a).acc = s.acc := rfl
@[simp] theorem State.wrapReg_dormantAt (s : State) (a : Nat) : (s.wrapReg a).dormantAt = s.dormantAt := rfl
@[simp] theorem State.wrapReg_freeCtr (s : State) (a : Nat) : (s.wrapReg a).freeCtr = s.freeCtr := rfl
@[simp] theorem State.wrapReg_sent (s : State) (a : Nat) : (s.wrapReg a).sent = s.sent := rfl

/-! ### `countF` -/

@[simp] theorem State.countF_pending (s : State) (f : Fld) : (s.countF f).pending = s.pending := rfl
@[simp] theorem State.countF_ram (s : State) (f : Fld) : (s.countF f).ram = s.ram := rfl
@[simp] theorem State.countF_phase (s : State) (f : Fld) : (s.countF f).phase = s.phase := rfl
@[simp] theorem State.countF_variant (s : State) (f : Fld) : (s.countF f).variant = s.variant := rfl
@[simp] theorem State.countF_record (s : State) (f : Fld) : (s.countF f).record = s.record := rfl
@[simp] theorem State.countF_mram (s : State) (f : Fld) : (s.countF f).mram = s.mram := rfl
@[simp] theorem State.countF_ticks (s : State) (f : Fld) : (s.countF f).ticks = s.ticks := rfl
@[simp] theorem State.countF_time (s : State) (f : Fld) : (s.countF f).time = s.time := rfl
@[simp] theorem State.countF_comp (s : State) (f : Fld) : (s.countF f).comp = s.comp := rfl
@[simp] theorem State.countF_evr (s : State) (f : Fld) : (s.countF f).evr = s.evr := rfl
@[simp] theorem State.countF_gal (s : State) (f : Fld) : (s.countF f).gal = s.gal := rfl
@[simp] theorem State.countF_mode (s : State) (f : Fld) : (s.countF f).mode = s.mode := rfl
@[simp] theorem State.countF_loops (s : State) (f : Fld) : (s.countF f).loops = s.loops := rfl
@[simp] theorem State.countF_prof (s : State) (f : Fld) : (s.countF f).prof = s.prof := rfl
@[simp] theorem State.countF_thm (s : State) (f : Fld) : (s.countF f).thm = s.thm := rfl
@[simp] theorem State.countF_drv (s : State) (f : Fld) : (s.countF f).drv = s.drv := rfl
@[simp] theorem State.countF_safe (s : State) (f : Fld) : (s.countF f).safe = s.safe := rfl
@[simp] theorem State.countF_asy (s : State) (f : Fld) : (s.countF f).asy = s.asy := rfl
@[simp] theorem State.countF_meas (s : State) (f : Fld) : (s.countF f).meas = s.meas := rfl
@[simp] theorem State.countF_est (s : State) (f : Fld) : (s.countF f).est = s.est := rfl
@[simp] theorem State.countF_bal (s : State) (f : Fld) : (s.countF f).bal = s.bal := rfl
@[simp] theorem State.countF_chain (s : State) (f : Fld) : (s.countF f).chain = s.chain := rfl
@[simp] theorem State.countF_pairU (s : State) (f : Fld) : (s.countF f).pairU = s.pairU := rfl
@[simp] theorem State.countF_aux (s : State) (f : Fld) : (s.countF f).aux = s.aux := rfl
@[simp] theorem State.countF_upd (s : State) (f : Fld) : (s.countF f).upd = s.upd := rfl
@[simp] theorem State.countF_cyc (s : State) (f : Fld) : (s.countF f).cyc = s.cyc := rfl
@[simp] theorem State.countF_can (s : State) (f : Fld) : (s.countF f).can = s.can := rfl
@[simp] theorem State.countF_fltHeld (s : State) (f : Fld) : (s.countF f).fltHeld = s.fltHeld := rfl
@[simp] theorem State.countF_eth (s : State) (f : Fld) : (s.countF f).eth = s.eth := rfl
@[simp] theorem State.countF_twb (s : State) (f : Fld) : (s.countF f).twb = s.twb := rfl
@[simp] theorem State.countF_acc (s : State) (f : Fld) : (s.countF f).acc = s.acc := rfl
@[simp] theorem State.countF_dormantAt (s : State) (f : Fld) : (s.countF f).dormantAt = s.dormantAt := rfl
@[simp] theorem State.countF_freeCtr (s : State) (f : Fld) : (s.countF f).freeCtr = s.freeCtr := rfl
@[simp] theorem State.countF_sent (s : State) (f : Fld) : (s.countF f).sent = s.sent := rfl

/-! ### `setByte` -/

@[simp] theorem State.setByte_pending (s : State) (a v : Nat) : (s.setByte a v).pending = s.pending := rfl
@[simp] theorem State.setByte_regs (s : State) (a v : Nat) : (s.setByte a v).regs = s.regs := rfl
@[simp] theorem State.setByte_phase (s : State) (a v : Nat) : (s.setByte a v).phase = s.phase := rfl
@[simp] theorem State.setByte_variant (s : State) (a v : Nat) : (s.setByte a v).variant = s.variant := rfl
@[simp] theorem State.setByte_record (s : State) (a v : Nat) : (s.setByte a v).record = s.record := rfl
@[simp] theorem State.setByte_mram (s : State) (a v : Nat) : (s.setByte a v).mram = s.mram := rfl
@[simp] theorem State.setByte_ticks (s : State) (a v : Nat) : (s.setByte a v).ticks = s.ticks := rfl
@[simp] theorem State.setByte_time (s : State) (a v : Nat) : (s.setByte a v).time = s.time := rfl
@[simp] theorem State.setByte_comp (s : State) (a v : Nat) : (s.setByte a v).comp = s.comp := rfl
@[simp] theorem State.setByte_evr (s : State) (a v : Nat) : (s.setByte a v).evr = s.evr := rfl
@[simp] theorem State.setByte_gal (s : State) (a v : Nat) : (s.setByte a v).gal = s.gal := rfl
@[simp] theorem State.setByte_mode (s : State) (a v : Nat) : (s.setByte a v).mode = s.mode := rfl
@[simp] theorem State.setByte_loops (s : State) (a v : Nat) : (s.setByte a v).loops = s.loops := rfl
@[simp] theorem State.setByte_prof (s : State) (a v : Nat) : (s.setByte a v).prof = s.prof := rfl
@[simp] theorem State.setByte_thm (s : State) (a v : Nat) : (s.setByte a v).thm = s.thm := rfl
@[simp] theorem State.setByte_drv (s : State) (a v : Nat) : (s.setByte a v).drv = s.drv := rfl
@[simp] theorem State.setByte_safe (s : State) (a v : Nat) : (s.setByte a v).safe = s.safe := rfl
@[simp] theorem State.setByte_asy (s : State) (a v : Nat) : (s.setByte a v).asy = s.asy := rfl
@[simp] theorem State.setByte_meas (s : State) (a v : Nat) : (s.setByte a v).meas = s.meas := rfl
@[simp] theorem State.setByte_est (s : State) (a v : Nat) : (s.setByte a v).est = s.est := rfl
@[simp] theorem State.setByte_bal (s : State) (a v : Nat) : (s.setByte a v).bal = s.bal := rfl
@[simp] theorem State.setByte_chain (s : State) (a v : Nat) : (s.setByte a v).chain = s.chain := rfl
@[simp] theorem State.setByte_pairU (s : State) (a v : Nat) : (s.setByte a v).pairU = s.pairU := rfl
@[simp] theorem State.setByte_aux (s : State) (a v : Nat) : (s.setByte a v).aux = s.aux := rfl
@[simp] theorem State.setByte_upd (s : State) (a v : Nat) : (s.setByte a v).upd = s.upd := rfl
@[simp] theorem State.setByte_cyc (s : State) (a v : Nat) : (s.setByte a v).cyc = s.cyc := rfl
@[simp] theorem State.setByte_can (s : State) (a v : Nat) : (s.setByte a v).can = s.can := rfl
@[simp] theorem State.setByte_fltHeld (s : State) (a v : Nat) : (s.setByte a v).fltHeld = s.fltHeld := rfl
@[simp] theorem State.setByte_eth (s : State) (a v : Nat) : (s.setByte a v).eth = s.eth := rfl
@[simp] theorem State.setByte_twb (s : State) (a v : Nat) : (s.setByte a v).twb = s.twb := rfl
@[simp] theorem State.setByte_acc (s : State) (a v : Nat) : (s.setByte a v).acc = s.acc := rfl
@[simp] theorem State.setByte_dormantAt (s : State) (a v : Nat) : (s.setByte a v).dormantAt = s.dormantAt := rfl
@[simp] theorem State.setByte_freeCtr (s : State) (a v : Nat) : (s.setByte a v).freeCtr = s.freeCtr := rfl
@[simp] theorem State.setByte_sent (s : State) (a v : Nat) : (s.setByte a v).sent = s.sent := rfl

/-! ### `setBytes` -/

@[simp] theorem State.setBytes_pending (s : State) (a : Nat) (bs : List Nat) : (s.setBytes a bs).pending = s.pending := rfl
@[simp] theorem State.setBytes_regs (s : State) (a : Nat) (bs : List Nat) : (s.setBytes a bs).regs = s.regs := rfl
@[simp] theorem State.setBytes_phase (s : State) (a : Nat) (bs : List Nat) : (s.setBytes a bs).phase = s.phase := rfl
@[simp] theorem State.setBytes_variant (s : State) (a : Nat) (bs : List Nat) : (s.setBytes a bs).variant = s.variant := rfl
@[simp] theorem State.setBytes_record (s : State) (a : Nat) (bs : List Nat) : (s.setBytes a bs).record = s.record := rfl
@[simp] theorem State.setBytes_mram (s : State) (a : Nat) (bs : List Nat) : (s.setBytes a bs).mram = s.mram := rfl
@[simp] theorem State.setBytes_ticks (s : State) (a : Nat) (bs : List Nat) : (s.setBytes a bs).ticks = s.ticks := rfl
@[simp] theorem State.setBytes_time (s : State) (a : Nat) (bs : List Nat) : (s.setBytes a bs).time = s.time := rfl
@[simp] theorem State.setBytes_comp (s : State) (a : Nat) (bs : List Nat) : (s.setBytes a bs).comp = s.comp := rfl
@[simp] theorem State.setBytes_evr (s : State) (a : Nat) (bs : List Nat) : (s.setBytes a bs).evr = s.evr := rfl
@[simp] theorem State.setBytes_gal (s : State) (a : Nat) (bs : List Nat) : (s.setBytes a bs).gal = s.gal := rfl
@[simp] theorem State.setBytes_mode (s : State) (a : Nat) (bs : List Nat) : (s.setBytes a bs).mode = s.mode := rfl
@[simp] theorem State.setBytes_loops (s : State) (a : Nat) (bs : List Nat) : (s.setBytes a bs).loops = s.loops := rfl
@[simp] theorem State.setBytes_prof (s : State) (a : Nat) (bs : List Nat) : (s.setBytes a bs).prof = s.prof := rfl
@[simp] theorem State.setBytes_thm (s : State) (a : Nat) (bs : List Nat) : (s.setBytes a bs).thm = s.thm := rfl
@[simp] theorem State.setBytes_drv (s : State) (a : Nat) (bs : List Nat) : (s.setBytes a bs).drv = s.drv := rfl
@[simp] theorem State.setBytes_safe (s : State) (a : Nat) (bs : List Nat) : (s.setBytes a bs).safe = s.safe := rfl
@[simp] theorem State.setBytes_asy (s : State) (a : Nat) (bs : List Nat) : (s.setBytes a bs).asy = s.asy := rfl
@[simp] theorem State.setBytes_meas (s : State) (a : Nat) (bs : List Nat) : (s.setBytes a bs).meas = s.meas := rfl
@[simp] theorem State.setBytes_est (s : State) (a : Nat) (bs : List Nat) : (s.setBytes a bs).est = s.est := rfl
@[simp] theorem State.setBytes_bal (s : State) (a : Nat) (bs : List Nat) : (s.setBytes a bs).bal = s.bal := rfl
@[simp] theorem State.setBytes_chain (s : State) (a : Nat) (bs : List Nat) : (s.setBytes a bs).chain = s.chain := rfl
@[simp] theorem State.setBytes_pairU (s : State) (a : Nat) (bs : List Nat) : (s.setBytes a bs).pairU = s.pairU := rfl
@[simp] theorem State.setBytes_aux (s : State) (a : Nat) (bs : List Nat) : (s.setBytes a bs).aux = s.aux := rfl
@[simp] theorem State.setBytes_upd (s : State) (a : Nat) (bs : List Nat) : (s.setBytes a bs).upd = s.upd := rfl
@[simp] theorem State.setBytes_cyc (s : State) (a : Nat) (bs : List Nat) : (s.setBytes a bs).cyc = s.cyc := rfl
@[simp] theorem State.setBytes_can (s : State) (a : Nat) (bs : List Nat) : (s.setBytes a bs).can = s.can := rfl
@[simp] theorem State.setBytes_fltHeld (s : State) (a : Nat) (bs : List Nat) : (s.setBytes a bs).fltHeld = s.fltHeld := rfl
@[simp] theorem State.setBytes_eth (s : State) (a : Nat) (bs : List Nat) : (s.setBytes a bs).eth = s.eth := rfl
@[simp] theorem State.setBytes_twb (s : State) (a : Nat) (bs : List Nat) : (s.setBytes a bs).twb = s.twb := rfl
@[simp] theorem State.setBytes_acc (s : State) (a : Nat) (bs : List Nat) : (s.setBytes a bs).acc = s.acc := rfl
@[simp] theorem State.setBytes_dormantAt (s : State) (a : Nat) (bs : List Nat) : (s.setBytes a bs).dormantAt = s.dormantAt := rfl
@[simp] theorem State.setBytes_freeCtr (s : State) (a : Nat) (bs : List Nat) : (s.setBytes a bs).freeCtr = s.freeCtr := rfl
@[simp] theorem State.setBytes_sent (s : State) (a : Nat) (bs : List Nat) : (s.setBytes a bs).sent = s.sent := rfl

/-! ### `emit` -/

@[simp] theorem State.emit_pending (s : State) (p : Port) (c : Nat) (l : List Nat) : (s.emit p c l).pending = s.pending := rfl
@[simp] theorem State.emit_regs (s : State) (p : Port) (c : Nat) (l : List Nat) : (s.emit p c l).regs = s.regs := rfl
@[simp] theorem State.emit_ram (s : State) (p : Port) (c : Nat) (l : List Nat) : (s.emit p c l).ram = s.ram := rfl
@[simp] theorem State.emit_phase (s : State) (p : Port) (c : Nat) (l : List Nat) : (s.emit p c l).phase = s.phase := rfl
@[simp] theorem State.emit_variant (s : State) (p : Port) (c : Nat) (l : List Nat) : (s.emit p c l).variant = s.variant := rfl
@[simp] theorem State.emit_record (s : State) (p : Port) (c : Nat) (l : List Nat) : (s.emit p c l).record = s.record := rfl
@[simp] theorem State.emit_mram (s : State) (p : Port) (c : Nat) (l : List Nat) : (s.emit p c l).mram = s.mram := rfl
@[simp] theorem State.emit_ticks (s : State) (p : Port) (c : Nat) (l : List Nat) : (s.emit p c l).ticks = s.ticks := rfl
@[simp] theorem State.emit_time (s : State) (p : Port) (c : Nat) (l : List Nat) : (s.emit p c l).time = s.time := rfl
@[simp] theorem State.emit_comp (s : State) (p : Port) (c : Nat) (l : List Nat) : (s.emit p c l).comp = s.comp := rfl
@[simp] theorem State.emit_evr (s : State) (p : Port) (c : Nat) (l : List Nat) : (s.emit p c l).evr = s.evr := rfl
@[simp] theorem State.emit_gal (s : State) (p : Port) (c : Nat) (l : List Nat) : (s.emit p c l).gal = s.gal := rfl
@[simp] theorem State.emit_mode (s : State) (p : Port) (c : Nat) (l : List Nat) : (s.emit p c l).mode = s.mode := rfl
@[simp] theorem State.emit_loops (s : State) (p : Port) (c : Nat) (l : List Nat) : (s.emit p c l).loops = s.loops := rfl
@[simp] theorem State.emit_prof (s : State) (p : Port) (c : Nat) (l : List Nat) : (s.emit p c l).prof = s.prof := rfl
@[simp] theorem State.emit_thm (s : State) (p : Port) (c : Nat) (l : List Nat) : (s.emit p c l).thm = s.thm := rfl
@[simp] theorem State.emit_drv (s : State) (p : Port) (c : Nat) (l : List Nat) : (s.emit p c l).drv = s.drv := rfl
@[simp] theorem State.emit_safe (s : State) (p : Port) (c : Nat) (l : List Nat) : (s.emit p c l).safe = s.safe := rfl
@[simp] theorem State.emit_asy (s : State) (p : Port) (c : Nat) (l : List Nat) : (s.emit p c l).asy = s.asy := rfl
@[simp] theorem State.emit_meas (s : State) (p : Port) (c : Nat) (l : List Nat) : (s.emit p c l).meas = s.meas := rfl
@[simp] theorem State.emit_est (s : State) (p : Port) (c : Nat) (l : List Nat) : (s.emit p c l).est = s.est := rfl
@[simp] theorem State.emit_bal (s : State) (p : Port) (c : Nat) (l : List Nat) : (s.emit p c l).bal = s.bal := rfl
@[simp] theorem State.emit_chain (s : State) (p : Port) (c : Nat) (l : List Nat) : (s.emit p c l).chain = s.chain := rfl
@[simp] theorem State.emit_pairU (s : State) (p : Port) (c : Nat) (l : List Nat) : (s.emit p c l).pairU = s.pairU := rfl
@[simp] theorem State.emit_aux (s : State) (p : Port) (c : Nat) (l : List Nat) : (s.emit p c l).aux = s.aux := rfl
@[simp] theorem State.emit_upd (s : State) (p : Port) (c : Nat) (l : List Nat) : (s.emit p c l).upd = s.upd := rfl
@[simp] theorem State.emit_cyc (s : State) (p : Port) (c : Nat) (l : List Nat) : (s.emit p c l).cyc = s.cyc := rfl
@[simp] theorem State.emit_can (s : State) (p : Port) (c : Nat) (l : List Nat) : (s.emit p c l).can = s.can := rfl
@[simp] theorem State.emit_fltHeld (s : State) (p : Port) (c : Nat) (l : List Nat) : (s.emit p c l).fltHeld = s.fltHeld := rfl
@[simp] theorem State.emit_eth (s : State) (p : Port) (c : Nat) (l : List Nat) : (s.emit p c l).eth = s.eth := rfl
@[simp] theorem State.emit_twb (s : State) (p : Port) (c : Nat) (l : List Nat) : (s.emit p c l).twb = s.twb := rfl
@[simp] theorem State.emit_acc (s : State) (p : Port) (c : Nat) (l : List Nat) : (s.emit p c l).acc = s.acc := rfl
@[simp] theorem State.emit_dormantAt (s : State) (p : Port) (c : Nat) (l : List Nat) : (s.emit p c l).dormantAt = s.dormantAt := rfl
@[simp] theorem State.emit_freeCtr (s : State) (p : Port) (c : Nat) (l : List Nat) : (s.emit p c l).freeCtr = s.freeCtr := rfl

/-! ### `unraise` -/

@[simp] theorem State.unraise_pending (s : State) (e : Ev) : (s.unraise e).pending = s.pending := rfl
@[simp] theorem State.unraise_regs (s : State) (e : Ev) : (s.unraise e).regs = s.regs := rfl
@[simp] theorem State.unraise_ram (s : State) (e : Ev) : (s.unraise e).ram = s.ram := rfl
@[simp] theorem State.unraise_phase (s : State) (e : Ev) : (s.unraise e).phase = s.phase := rfl
@[simp] theorem State.unraise_variant (s : State) (e : Ev) : (s.unraise e).variant = s.variant := rfl
@[simp] theorem State.unraise_record (s : State) (e : Ev) : (s.unraise e).record = s.record := rfl
@[simp] theorem State.unraise_mram (s : State) (e : Ev) : (s.unraise e).mram = s.mram := rfl
@[simp] theorem State.unraise_ticks (s : State) (e : Ev) : (s.unraise e).ticks = s.ticks := rfl
@[simp] theorem State.unraise_time (s : State) (e : Ev) : (s.unraise e).time = s.time := rfl
@[simp] theorem State.unraise_evr (s : State) (e : Ev) : (s.unraise e).evr = s.evr := rfl
@[simp] theorem State.unraise_gal (s : State) (e : Ev) : (s.unraise e).gal = s.gal := rfl
@[simp] theorem State.unraise_mode (s : State) (e : Ev) : (s.unraise e).mode = s.mode := rfl
@[simp] theorem State.unraise_loops (s : State) (e : Ev) : (s.unraise e).loops = s.loops := rfl
@[simp] theorem State.unraise_prof (s : State) (e : Ev) : (s.unraise e).prof = s.prof := rfl
@[simp] theorem State.unraise_thm (s : State) (e : Ev) : (s.unraise e).thm = s.thm := rfl
@[simp] theorem State.unraise_drv (s : State) (e : Ev) : (s.unraise e).drv = s.drv := rfl
@[simp] theorem State.unraise_safe (s : State) (e : Ev) : (s.unraise e).safe = s.safe := rfl
@[simp] theorem State.unraise_asy (s : State) (e : Ev) : (s.unraise e).asy = s.asy := rfl
@[simp] theorem State.unraise_meas (s : State) (e : Ev) : (s.unraise e).meas = s.meas := rfl
@[simp] theorem State.unraise_est (s : State) (e : Ev) : (s.unraise e).est = s.est := rfl
@[simp] theorem State.unraise_bal (s : State) (e : Ev) : (s.unraise e).bal = s.bal := rfl
@[simp] theorem State.unraise_chain (s : State) (e : Ev) : (s.unraise e).chain = s.chain := rfl
@[simp] theorem State.unraise_pairU (s : State) (e : Ev) : (s.unraise e).pairU = s.pairU := rfl
@[simp] theorem State.unraise_aux (s : State) (e : Ev) : (s.unraise e).aux = s.aux := rfl
@[simp] theorem State.unraise_upd (s : State) (e : Ev) : (s.unraise e).upd = s.upd := rfl
@[simp] theorem State.unraise_cyc (s : State) (e : Ev) : (s.unraise e).cyc = s.cyc := rfl
@[simp] theorem State.unraise_can (s : State) (e : Ev) : (s.unraise e).can = s.can := rfl
@[simp] theorem State.unraise_fltHeld (s : State) (e : Ev) : (s.unraise e).fltHeld = s.fltHeld := rfl
@[simp] theorem State.unraise_eth (s : State) (e : Ev) : (s.unraise e).eth = s.eth := rfl
@[simp] theorem State.unraise_twb (s : State) (e : Ev) : (s.unraise e).twb = s.twb := rfl
@[simp] theorem State.unraise_acc (s : State) (e : Ev) : (s.unraise e).acc = s.acc := rfl
@[simp] theorem State.unraise_dormantAt (s : State) (e : Ev) : (s.unraise e).dormantAt = s.dormantAt := rfl
@[simp] theorem State.unraise_freeCtr (s : State) (e : Ev) : (s.unraise e).freeCtr = s.freeCtr := rfl
@[simp] theorem State.unraise_sent (s : State) (e : Ev) : (s.unraise e).sent = s.sent := rfl

/-! ### `fresh` -/

@[simp] theorem State.fresh_pending (s : State) : (s.fresh).pending = s.pending := rfl
@[simp] theorem State.fresh_regs (s : State) : (s.fresh).regs = s.regs := rfl
@[simp] theorem State.fresh_ram (s : State) : (s.fresh).ram = s.ram := rfl
@[simp] theorem State.fresh_phase (s : State) : (s.fresh).phase = s.phase := rfl
@[simp] theorem State.fresh_variant (s : State) : (s.fresh).variant = s.variant := rfl
@[simp] theorem State.fresh_record (s : State) : (s.fresh).record = s.record := rfl
@[simp] theorem State.fresh_mram (s : State) : (s.fresh).mram = s.mram := rfl
@[simp] theorem State.fresh_ticks (s : State) : (s.fresh).ticks = s.ticks := rfl
@[simp] theorem State.fresh_time (s : State) : (s.fresh).time = s.time := rfl
@[simp] theorem State.fresh_comp (s : State) : (s.fresh).comp = s.comp := rfl
@[simp] theorem State.fresh_evr (s : State) : (s.fresh).evr = s.evr := rfl
@[simp] theorem State.fresh_gal (s : State) : (s.fresh).gal = s.gal := rfl
@[simp] theorem State.fresh_mode (s : State) : (s.fresh).mode = s.mode := rfl
@[simp] theorem State.fresh_loops (s : State) : (s.fresh).loops = s.loops := rfl
@[simp] theorem State.fresh_prof (s : State) : (s.fresh).prof = s.prof := rfl
@[simp] theorem State.fresh_thm (s : State) : (s.fresh).thm = s.thm := rfl
@[simp] theorem State.fresh_drv (s : State) : (s.fresh).drv = s.drv := rfl
@[simp] theorem State.fresh_safe (s : State) : (s.fresh).safe = s.safe := rfl
@[simp] theorem State.fresh_asy (s : State) : (s.fresh).asy = s.asy := rfl
@[simp] theorem State.fresh_meas (s : State) : (s.fresh).meas = s.meas := rfl
@[simp] theorem State.fresh_est (s : State) : (s.fresh).est = s.est := rfl
@[simp] theorem State.fresh_bal (s : State) : (s.fresh).bal = s.bal := rfl
@[simp] theorem State.fresh_chain (s : State) : (s.fresh).chain = s.chain := rfl
@[simp] theorem State.fresh_pairU (s : State) : (s.fresh).pairU = s.pairU := rfl
@[simp] theorem State.fresh_aux (s : State) : (s.fresh).aux = s.aux := rfl
@[simp] theorem State.fresh_upd (s : State) : (s.fresh).upd = s.upd := rfl
@[simp] theorem State.fresh_cyc (s : State) : (s.fresh).cyc = s.cyc := rfl
@[simp] theorem State.fresh_can (s : State) : (s.fresh).can = s.can := rfl
@[simp] theorem State.fresh_fltHeld (s : State) : (s.fresh).fltHeld = s.fltHeld := rfl
@[simp] theorem State.fresh_eth (s : State) : (s.fresh).eth = s.eth := rfl
@[simp] theorem State.fresh_twb (s : State) : (s.fresh).twb = s.twb := rfl
@[simp] theorem State.fresh_acc (s : State) : (s.fresh).acc = s.acc := rfl
@[simp] theorem State.fresh_dormantAt (s : State) : (s.fresh).dormantAt = s.dormantAt := rfl
@[simp] theorem State.fresh_sent (s : State) : (s.fresh).sent = s.sent := rfl

/-! ### `toMram` -/

@[simp] theorem State.toMram_pending (s : State) (a : Nat) : (s.toMram a).pending = s.pending := rfl
@[simp] theorem State.toMram_regs (s : State) (a : Nat) : (s.toMram a).regs = s.regs := rfl
@[simp] theorem State.toMram_ram (s : State) (a : Nat) : (s.toMram a).ram = s.ram := rfl
@[simp] theorem State.toMram_phase (s : State) (a : Nat) : (s.toMram a).phase = s.phase := rfl
@[simp] theorem State.toMram_variant (s : State) (a : Nat) : (s.toMram a).variant = s.variant := rfl
@[simp] theorem State.toMram_record (s : State) (a : Nat) : (s.toMram a).record = s.record := rfl
@[simp] theorem State.toMram_ticks (s : State) (a : Nat) : (s.toMram a).ticks = s.ticks := rfl
@[simp] theorem State.toMram_time (s : State) (a : Nat) : (s.toMram a).time = s.time := rfl
@[simp] theorem State.toMram_comp (s : State) (a : Nat) : (s.toMram a).comp = s.comp := rfl
@[simp] theorem State.toMram_evr (s : State) (a : Nat) : (s.toMram a).evr = s.evr := rfl
@[simp] theorem State.toMram_gal (s : State) (a : Nat) : (s.toMram a).gal = s.gal := rfl
@[simp] theorem State.toMram_mode (s : State) (a : Nat) : (s.toMram a).mode = s.mode := rfl
@[simp] theorem State.toMram_loops (s : State) (a : Nat) : (s.toMram a).loops = s.loops := rfl
@[simp] theorem State.toMram_prof (s : State) (a : Nat) : (s.toMram a).prof = s.prof := rfl
@[simp] theorem State.toMram_thm (s : State) (a : Nat) : (s.toMram a).thm = s.thm := rfl
@[simp] theorem State.toMram_drv (s : State) (a : Nat) : (s.toMram a).drv = s.drv := rfl
@[simp] theorem State.toMram_safe (s : State) (a : Nat) : (s.toMram a).safe = s.safe := rfl
@[simp] theorem State.toMram_asy (s : State) (a : Nat) : (s.toMram a).asy = s.asy := rfl
@[simp] theorem State.toMram_meas (s : State) (a : Nat) : (s.toMram a).meas = s.meas := rfl
@[simp] theorem State.toMram_est (s : State) (a : Nat) : (s.toMram a).est = s.est := rfl
@[simp] theorem State.toMram_bal (s : State) (a : Nat) : (s.toMram a).bal = s.bal := rfl
@[simp] theorem State.toMram_chain (s : State) (a : Nat) : (s.toMram a).chain = s.chain := rfl
@[simp] theorem State.toMram_pairU (s : State) (a : Nat) : (s.toMram a).pairU = s.pairU := rfl
@[simp] theorem State.toMram_aux (s : State) (a : Nat) : (s.toMram a).aux = s.aux := rfl
@[simp] theorem State.toMram_upd (s : State) (a : Nat) : (s.toMram a).upd = s.upd := rfl
@[simp] theorem State.toMram_cyc (s : State) (a : Nat) : (s.toMram a).cyc = s.cyc := rfl
@[simp] theorem State.toMram_can (s : State) (a : Nat) : (s.toMram a).can = s.can := rfl
@[simp] theorem State.toMram_fltHeld (s : State) (a : Nat) : (s.toMram a).fltHeld = s.fltHeld := rfl
@[simp] theorem State.toMram_eth (s : State) (a : Nat) : (s.toMram a).eth = s.eth := rfl
@[simp] theorem State.toMram_twb (s : State) (a : Nat) : (s.toMram a).twb = s.twb := rfl
@[simp] theorem State.toMram_acc (s : State) (a : Nat) : (s.toMram a).acc = s.acc := rfl
@[simp] theorem State.toMram_dormantAt (s : State) (a : Nat) : (s.toMram a).dormantAt = s.dormantAt := rfl
@[simp] theorem State.toMram_freeCtr (s : State) (a : Nat) : (s.toMram a).freeCtr = s.freeCtr := rfl
@[simp] theorem State.toMram_sent (s : State) (a : Nat) : (s.toMram a).sent = s.sent := rfl

/-! ### `setRegM` -/

@[simp] theorem State.setRegM_pending (s : State) (a v : Nat) : (s.setRegM a v).pending = s.pending := rfl
@[simp] theorem State.setRegM_ram (s : State) (a v : Nat) : (s.setRegM a v).ram = s.ram := rfl
@[simp] theorem State.setRegM_phase (s : State) (a v : Nat) : (s.setRegM a v).phase = s.phase := rfl
@[simp] theorem State.setRegM_variant (s : State) (a v : Nat) : (s.setRegM a v).variant = s.variant := rfl
@[simp] theorem State.setRegM_record (s : State) (a v : Nat) : (s.setRegM a v).record = s.record := rfl
@[simp] theorem State.setRegM_ticks (s : State) (a v : Nat) : (s.setRegM a v).ticks = s.ticks := rfl
@[simp] theorem State.setRegM_time (s : State) (a v : Nat) : (s.setRegM a v).time = s.time := rfl
@[simp] theorem State.setRegM_comp (s : State) (a v : Nat) : (s.setRegM a v).comp = s.comp := rfl
@[simp] theorem State.setRegM_evr (s : State) (a v : Nat) : (s.setRegM a v).evr = s.evr := rfl
@[simp] theorem State.setRegM_gal (s : State) (a v : Nat) : (s.setRegM a v).gal = s.gal := rfl
@[simp] theorem State.setRegM_mode (s : State) (a v : Nat) : (s.setRegM a v).mode = s.mode := rfl
@[simp] theorem State.setRegM_loops (s : State) (a v : Nat) : (s.setRegM a v).loops = s.loops := rfl
@[simp] theorem State.setRegM_prof (s : State) (a v : Nat) : (s.setRegM a v).prof = s.prof := rfl
@[simp] theorem State.setRegM_thm (s : State) (a v : Nat) : (s.setRegM a v).thm = s.thm := rfl
@[simp] theorem State.setRegM_drv (s : State) (a v : Nat) : (s.setRegM a v).drv = s.drv := rfl
@[simp] theorem State.setRegM_safe (s : State) (a v : Nat) : (s.setRegM a v).safe = s.safe := rfl
@[simp] theorem State.setRegM_asy (s : State) (a v : Nat) : (s.setRegM a v).asy = s.asy := rfl
@[simp] theorem State.setRegM_meas (s : State) (a v : Nat) : (s.setRegM a v).meas = s.meas := rfl
@[simp] theorem State.setRegM_est (s : State) (a v : Nat) : (s.setRegM a v).est = s.est := rfl
@[simp] theorem State.setRegM_bal (s : State) (a v : Nat) : (s.setRegM a v).bal = s.bal := rfl
@[simp] theorem State.setRegM_chain (s : State) (a v : Nat) : (s.setRegM a v).chain = s.chain := rfl
@[simp] theorem State.setRegM_pairU (s : State) (a v : Nat) : (s.setRegM a v).pairU = s.pairU := rfl
@[simp] theorem State.setRegM_aux (s : State) (a v : Nat) : (s.setRegM a v).aux = s.aux := rfl
@[simp] theorem State.setRegM_upd (s : State) (a v : Nat) : (s.setRegM a v).upd = s.upd := rfl
@[simp] theorem State.setRegM_cyc (s : State) (a v : Nat) : (s.setRegM a v).cyc = s.cyc := rfl
@[simp] theorem State.setRegM_can (s : State) (a v : Nat) : (s.setRegM a v).can = s.can := rfl
@[simp] theorem State.setRegM_fltHeld (s : State) (a v : Nat) : (s.setRegM a v).fltHeld = s.fltHeld := rfl
@[simp] theorem State.setRegM_eth (s : State) (a v : Nat) : (s.setRegM a v).eth = s.eth := rfl
@[simp] theorem State.setRegM_twb (s : State) (a v : Nat) : (s.setRegM a v).twb = s.twb := rfl
@[simp] theorem State.setRegM_acc (s : State) (a v : Nat) : (s.setRegM a v).acc = s.acc := rfl
@[simp] theorem State.setRegM_dormantAt (s : State) (a v : Nat) : (s.setRegM a v).dormantAt = s.dormantAt := rfl
@[simp] theorem State.setRegM_freeCtr (s : State) (a v : Nat) : (s.setRegM a v).freeCtr = s.freeCtr := rfl
@[simp] theorem State.setRegM_sent (s : State) (a v : Nat) : (s.setRegM a v).sent = s.sent := rfl

/-! ### `setFM` -/

@[simp] theorem State.setFM_pending (s : State) (f : Fld) (v : Nat) : (s.setFM f v).pending = s.pending := rfl
@[simp] theorem State.setFM_ram (s : State) (f : Fld) (v : Nat) : (s.setFM f v).ram = s.ram := rfl
@[simp] theorem State.setFM_phase (s : State) (f : Fld) (v : Nat) : (s.setFM f v).phase = s.phase := rfl
@[simp] theorem State.setFM_variant (s : State) (f : Fld) (v : Nat) : (s.setFM f v).variant = s.variant := rfl
@[simp] theorem State.setFM_record (s : State) (f : Fld) (v : Nat) : (s.setFM f v).record = s.record := rfl
@[simp] theorem State.setFM_ticks (s : State) (f : Fld) (v : Nat) : (s.setFM f v).ticks = s.ticks := rfl
@[simp] theorem State.setFM_time (s : State) (f : Fld) (v : Nat) : (s.setFM f v).time = s.time := rfl
@[simp] theorem State.setFM_comp (s : State) (f : Fld) (v : Nat) : (s.setFM f v).comp = s.comp := rfl
@[simp] theorem State.setFM_evr (s : State) (f : Fld) (v : Nat) : (s.setFM f v).evr = s.evr := rfl
@[simp] theorem State.setFM_gal (s : State) (f : Fld) (v : Nat) : (s.setFM f v).gal = s.gal := rfl
@[simp] theorem State.setFM_mode (s : State) (f : Fld) (v : Nat) : (s.setFM f v).mode = s.mode := rfl
@[simp] theorem State.setFM_loops (s : State) (f : Fld) (v : Nat) : (s.setFM f v).loops = s.loops := rfl
@[simp] theorem State.setFM_prof (s : State) (f : Fld) (v : Nat) : (s.setFM f v).prof = s.prof := rfl
@[simp] theorem State.setFM_thm (s : State) (f : Fld) (v : Nat) : (s.setFM f v).thm = s.thm := rfl
@[simp] theorem State.setFM_drv (s : State) (f : Fld) (v : Nat) : (s.setFM f v).drv = s.drv := rfl
@[simp] theorem State.setFM_safe (s : State) (f : Fld) (v : Nat) : (s.setFM f v).safe = s.safe := rfl
@[simp] theorem State.setFM_asy (s : State) (f : Fld) (v : Nat) : (s.setFM f v).asy = s.asy := rfl
@[simp] theorem State.setFM_meas (s : State) (f : Fld) (v : Nat) : (s.setFM f v).meas = s.meas := rfl
@[simp] theorem State.setFM_est (s : State) (f : Fld) (v : Nat) : (s.setFM f v).est = s.est := rfl
@[simp] theorem State.setFM_bal (s : State) (f : Fld) (v : Nat) : (s.setFM f v).bal = s.bal := rfl
@[simp] theorem State.setFM_chain (s : State) (f : Fld) (v : Nat) : (s.setFM f v).chain = s.chain := rfl
@[simp] theorem State.setFM_pairU (s : State) (f : Fld) (v : Nat) : (s.setFM f v).pairU = s.pairU := rfl
@[simp] theorem State.setFM_aux (s : State) (f : Fld) (v : Nat) : (s.setFM f v).aux = s.aux := rfl
@[simp] theorem State.setFM_upd (s : State) (f : Fld) (v : Nat) : (s.setFM f v).upd = s.upd := rfl
@[simp] theorem State.setFM_cyc (s : State) (f : Fld) (v : Nat) : (s.setFM f v).cyc = s.cyc := rfl
@[simp] theorem State.setFM_can (s : State) (f : Fld) (v : Nat) : (s.setFM f v).can = s.can := rfl
@[simp] theorem State.setFM_fltHeld (s : State) (f : Fld) (v : Nat) : (s.setFM f v).fltHeld = s.fltHeld := rfl
@[simp] theorem State.setFM_eth (s : State) (f : Fld) (v : Nat) : (s.setFM f v).eth = s.eth := rfl
@[simp] theorem State.setFM_twb (s : State) (f : Fld) (v : Nat) : (s.setFM f v).twb = s.twb := rfl
@[simp] theorem State.setFM_acc (s : State) (f : Fld) (v : Nat) : (s.setFM f v).acc = s.acc := rfl
@[simp] theorem State.setFM_dormantAt (s : State) (f : Fld) (v : Nat) : (s.setFM f v).dormantAt = s.dormantAt := rfl
@[simp] theorem State.setFM_freeCtr (s : State) (f : Fld) (v : Nat) : (s.setFM f v).freeCtr = s.freeCtr := rfl
@[simp] theorem State.setFM_sent (s : State) (f : Fld) (v : Nat) : (s.setFM f v).sent = s.sent := rfl

/-! ### `countRegM` -/

@[simp] theorem State.countRegM_pending (s : State) (a : Nat) : (s.countRegM a).pending = s.pending := rfl
@[simp] theorem State.countRegM_ram (s : State) (a : Nat) : (s.countRegM a).ram = s.ram := rfl
@[simp] theorem State.countRegM_phase (s : State) (a : Nat) : (s.countRegM a).phase = s.phase := rfl
@[simp] theorem State.countRegM_variant (s : State) (a : Nat) : (s.countRegM a).variant = s.variant := rfl
@[simp] theorem State.countRegM_record (s : State) (a : Nat) : (s.countRegM a).record = s.record := rfl
@[simp] theorem State.countRegM_ticks (s : State) (a : Nat) : (s.countRegM a).ticks = s.ticks := rfl
@[simp] theorem State.countRegM_time (s : State) (a : Nat) : (s.countRegM a).time = s.time := rfl
@[simp] theorem State.countRegM_comp (s : State) (a : Nat) : (s.countRegM a).comp = s.comp := rfl
@[simp] theorem State.countRegM_evr (s : State) (a : Nat) : (s.countRegM a).evr = s.evr := rfl
@[simp] theorem State.countRegM_gal (s : State) (a : Nat) : (s.countRegM a).gal = s.gal := rfl
@[simp] theorem State.countRegM_mode (s : State) (a : Nat) : (s.countRegM a).mode = s.mode := rfl
@[simp] theorem State.countRegM_loops (s : State) (a : Nat) : (s.countRegM a).loops = s.loops := rfl
@[simp] theorem State.countRegM_prof (s : State) (a : Nat) : (s.countRegM a).prof = s.prof := rfl
@[simp] theorem State.countRegM_thm (s : State) (a : Nat) : (s.countRegM a).thm = s.thm := rfl
@[simp] theorem State.countRegM_drv (s : State) (a : Nat) : (s.countRegM a).drv = s.drv := rfl
@[simp] theorem State.countRegM_safe (s : State) (a : Nat) : (s.countRegM a).safe = s.safe := rfl
@[simp] theorem State.countRegM_asy (s : State) (a : Nat) : (s.countRegM a).asy = s.asy := rfl
@[simp] theorem State.countRegM_meas (s : State) (a : Nat) : (s.countRegM a).meas = s.meas := rfl
@[simp] theorem State.countRegM_est (s : State) (a : Nat) : (s.countRegM a).est = s.est := rfl
@[simp] theorem State.countRegM_bal (s : State) (a : Nat) : (s.countRegM a).bal = s.bal := rfl
@[simp] theorem State.countRegM_chain (s : State) (a : Nat) : (s.countRegM a).chain = s.chain := rfl
@[simp] theorem State.countRegM_pairU (s : State) (a : Nat) : (s.countRegM a).pairU = s.pairU := rfl
@[simp] theorem State.countRegM_aux (s : State) (a : Nat) : (s.countRegM a).aux = s.aux := rfl
@[simp] theorem State.countRegM_upd (s : State) (a : Nat) : (s.countRegM a).upd = s.upd := rfl
@[simp] theorem State.countRegM_cyc (s : State) (a : Nat) : (s.countRegM a).cyc = s.cyc := rfl
@[simp] theorem State.countRegM_can (s : State) (a : Nat) : (s.countRegM a).can = s.can := rfl
@[simp] theorem State.countRegM_fltHeld (s : State) (a : Nat) : (s.countRegM a).fltHeld = s.fltHeld := rfl
@[simp] theorem State.countRegM_eth (s : State) (a : Nat) : (s.countRegM a).eth = s.eth := rfl
@[simp] theorem State.countRegM_twb (s : State) (a : Nat) : (s.countRegM a).twb = s.twb := rfl
@[simp] theorem State.countRegM_acc (s : State) (a : Nat) : (s.countRegM a).acc = s.acc := rfl
@[simp] theorem State.countRegM_dormantAt (s : State) (a : Nat) : (s.countRegM a).dormantAt = s.dormantAt := rfl
@[simp] theorem State.countRegM_freeCtr (s : State) (a : Nat) : (s.countRegM a).freeCtr = s.freeCtr := rfl
@[simp] theorem State.countRegM_sent (s : State) (a : Nat) : (s.countRegM a).sent = s.sent := rfl

/-! ### `withPending` -/

@[simp] theorem State.withPending_regs (s : State) (q : List Instr) : (s.withPending q).regs = s.regs := rfl
@[simp] theorem State.withPending_ram (s : State) (q : List Instr) : (s.withPending q).ram = s.ram := rfl
@[simp] theorem State.withPending_phase (s : State) (q : List Instr) : (s.withPending q).phase = s.phase := rfl
@[simp] theorem State.withPending_variant (s : State) (q : List Instr) : (s.withPending q).variant = s.variant := rfl
@[simp] theorem State.withPending_record (s : State) (q : List Instr) : (s.withPending q).record = s.record := rfl
@[simp] theorem State.withPending_mram (s : State) (q : List Instr) : (s.withPending q).mram = s.mram := rfl
@[simp] theorem State.withPending_ticks (s : State) (q : List Instr) : (s.withPending q).ticks = s.ticks := rfl
@[simp] theorem State.withPending_time (s : State) (q : List Instr) : (s.withPending q).time = s.time := rfl
@[simp] theorem State.withPending_comp (s : State) (q : List Instr) : (s.withPending q).comp = s.comp := rfl
@[simp] theorem State.withPending_evr (s : State) (q : List Instr) : (s.withPending q).evr = s.evr := rfl
@[simp] theorem State.withPending_gal (s : State) (q : List Instr) : (s.withPending q).gal = s.gal := rfl
@[simp] theorem State.withPending_mode (s : State) (q : List Instr) : (s.withPending q).mode = s.mode := rfl
@[simp] theorem State.withPending_loops (s : State) (q : List Instr) : (s.withPending q).loops = s.loops := rfl
@[simp] theorem State.withPending_prof (s : State) (q : List Instr) : (s.withPending q).prof = s.prof := rfl
@[simp] theorem State.withPending_thm (s : State) (q : List Instr) : (s.withPending q).thm = s.thm := rfl
@[simp] theorem State.withPending_drv (s : State) (q : List Instr) : (s.withPending q).drv = s.drv := rfl
@[simp] theorem State.withPending_safe (s : State) (q : List Instr) : (s.withPending q).safe = s.safe := rfl
@[simp] theorem State.withPending_asy (s : State) (q : List Instr) : (s.withPending q).asy = s.asy := rfl
@[simp] theorem State.withPending_meas (s : State) (q : List Instr) : (s.withPending q).meas = s.meas := rfl
@[simp] theorem State.withPending_est (s : State) (q : List Instr) : (s.withPending q).est = s.est := rfl
@[simp] theorem State.withPending_bal (s : State) (q : List Instr) : (s.withPending q).bal = s.bal := rfl
@[simp] theorem State.withPending_chain (s : State) (q : List Instr) : (s.withPending q).chain = s.chain := rfl
@[simp] theorem State.withPending_pairU (s : State) (q : List Instr) : (s.withPending q).pairU = s.pairU := rfl
@[simp] theorem State.withPending_aux (s : State) (q : List Instr) : (s.withPending q).aux = s.aux := rfl
@[simp] theorem State.withPending_upd (s : State) (q : List Instr) : (s.withPending q).upd = s.upd := rfl
@[simp] theorem State.withPending_cyc (s : State) (q : List Instr) : (s.withPending q).cyc = s.cyc := rfl
@[simp] theorem State.withPending_can (s : State) (q : List Instr) : (s.withPending q).can = s.can := rfl
@[simp] theorem State.withPending_fltHeld (s : State) (q : List Instr) : (s.withPending q).fltHeld = s.fltHeld := rfl
@[simp] theorem State.withPending_eth (s : State) (q : List Instr) : (s.withPending q).eth = s.eth := rfl
@[simp] theorem State.withPending_twb (s : State) (q : List Instr) : (s.withPending q).twb = s.twb := rfl
@[simp] theorem State.withPending_acc (s : State) (q : List Instr) : (s.withPending q).acc = s.acc := rfl
@[simp] theorem State.withPending_dormantAt (s : State) (q : List Instr) : (s.withPending q).dormantAt = s.dormantAt := rfl
@[simp] theorem State.withPending_freeCtr (s : State) (q : List Instr) : (s.withPending q).freeCtr = s.freeCtr := rfl
@[simp] theorem State.withPending_sent (s : State) (q : List Instr) : (s.withPending q).sent = s.sent := rfl

@[simp] theorem State.emit_sent (s : State) (p : Port) (c : Nat) (l : List Nat) : (s.emit p c l).sent = ⟨p, c, l⟩ :: s.sent := rfl
@[simp] theorem State.fresh_freeCtr (s : State) : s.fresh.freeCtr = s.freeCtr + 1 := rfl
@[simp] theorem State.withPending_pending (s : State) (q : List Instr) : (s.withPending q).pending = q := rfl

/-- `raiseC` changes the registers (SEQ.COALESCED) and the Compositor alone. -/
theorem State.raiseC_eq (s : State) (e : Ev) (c a : Nat) :
    s.raiseC e c a = { s with regs := (s.raiseC e c a).regs, comp := (s.raiseC e c a).comp } := by
  unfold State.raiseC
  split
  · rfl
  · dsimp only; split <;> rfl

/-- `occurFlag` changes the Compositor alone. -/
theorem State.occurFlag_eq (s : State) (k : Nat) (b : Bool) : s.occurFlag k b = { s with comp := (s.occurFlag k b).comp } := by
  unfold State.occurFlag; split <;> rfl

/-! ### `occurFlag` -/

@[simp] theorem State.occurFlag_pending (s : State) (k : Nat) (b : Bool) : (s.occurFlag k b).pending = s.pending := by
  rw [s.occurFlag_eq k b]
@[simp] theorem State.occurFlag_regs (s : State) (k : Nat) (b : Bool) : (s.occurFlag k b).regs = s.regs := by
  rw [s.occurFlag_eq k b]
@[simp] theorem State.occurFlag_ram (s : State) (k : Nat) (b : Bool) : (s.occurFlag k b).ram = s.ram := by
  rw [s.occurFlag_eq k b]
@[simp] theorem State.occurFlag_phase (s : State) (k : Nat) (b : Bool) : (s.occurFlag k b).phase = s.phase := by
  rw [s.occurFlag_eq k b]
@[simp] theorem State.occurFlag_variant (s : State) (k : Nat) (b : Bool) : (s.occurFlag k b).variant = s.variant := by
  rw [s.occurFlag_eq k b]
@[simp] theorem State.occurFlag_record (s : State) (k : Nat) (b : Bool) : (s.occurFlag k b).record = s.record := by
  rw [s.occurFlag_eq k b]
@[simp] theorem State.occurFlag_mram (s : State) (k : Nat) (b : Bool) : (s.occurFlag k b).mram = s.mram := by
  rw [s.occurFlag_eq k b]
@[simp] theorem State.occurFlag_ticks (s : State) (k : Nat) (b : Bool) : (s.occurFlag k b).ticks = s.ticks := by
  rw [s.occurFlag_eq k b]
@[simp] theorem State.occurFlag_time (s : State) (k : Nat) (b : Bool) : (s.occurFlag k b).time = s.time := by
  rw [s.occurFlag_eq k b]
@[simp] theorem State.occurFlag_evr (s : State) (k : Nat) (b : Bool) : (s.occurFlag k b).evr = s.evr := by
  rw [s.occurFlag_eq k b]
@[simp] theorem State.occurFlag_gal (s : State) (k : Nat) (b : Bool) : (s.occurFlag k b).gal = s.gal := by
  rw [s.occurFlag_eq k b]
@[simp] theorem State.occurFlag_mode (s : State) (k : Nat) (b : Bool) : (s.occurFlag k b).mode = s.mode := by
  rw [s.occurFlag_eq k b]
@[simp] theorem State.occurFlag_loops (s : State) (k : Nat) (b : Bool) : (s.occurFlag k b).loops = s.loops := by
  rw [s.occurFlag_eq k b]
@[simp] theorem State.occurFlag_prof (s : State) (k : Nat) (b : Bool) : (s.occurFlag k b).prof = s.prof := by
  rw [s.occurFlag_eq k b]
@[simp] theorem State.occurFlag_thm (s : State) (k : Nat) (b : Bool) : (s.occurFlag k b).thm = s.thm := by
  rw [s.occurFlag_eq k b]
@[simp] theorem State.occurFlag_drv (s : State) (k : Nat) (b : Bool) : (s.occurFlag k b).drv = s.drv := by
  rw [s.occurFlag_eq k b]
@[simp] theorem State.occurFlag_safe (s : State) (k : Nat) (b : Bool) : (s.occurFlag k b).safe = s.safe := by
  rw [s.occurFlag_eq k b]
@[simp] theorem State.occurFlag_asy (s : State) (k : Nat) (b : Bool) : (s.occurFlag k b).asy = s.asy := by
  rw [s.occurFlag_eq k b]
@[simp] theorem State.occurFlag_meas (s : State) (k : Nat) (b : Bool) : (s.occurFlag k b).meas = s.meas := by
  rw [s.occurFlag_eq k b]
@[simp] theorem State.occurFlag_est (s : State) (k : Nat) (b : Bool) : (s.occurFlag k b).est = s.est := by
  rw [s.occurFlag_eq k b]
@[simp] theorem State.occurFlag_bal (s : State) (k : Nat) (b : Bool) : (s.occurFlag k b).bal = s.bal := by
  rw [s.occurFlag_eq k b]
@[simp] theorem State.occurFlag_chain (s : State) (k : Nat) (b : Bool) : (s.occurFlag k b).chain = s.chain := by
  rw [s.occurFlag_eq k b]
@[simp] theorem State.occurFlag_pairU (s : State) (k : Nat) (b : Bool) : (s.occurFlag k b).pairU = s.pairU := by
  rw [s.occurFlag_eq k b]
@[simp] theorem State.occurFlag_aux (s : State) (k : Nat) (b : Bool) : (s.occurFlag k b).aux = s.aux := by
  rw [s.occurFlag_eq k b]
@[simp] theorem State.occurFlag_upd (s : State) (k : Nat) (b : Bool) : (s.occurFlag k b).upd = s.upd := by
  rw [s.occurFlag_eq k b]
@[simp] theorem State.occurFlag_cyc (s : State) (k : Nat) (b : Bool) : (s.occurFlag k b).cyc = s.cyc := by
  rw [s.occurFlag_eq k b]
@[simp] theorem State.occurFlag_can (s : State) (k : Nat) (b : Bool) : (s.occurFlag k b).can = s.can := by
  rw [s.occurFlag_eq k b]
@[simp] theorem State.occurFlag_fltHeld (s : State) (k : Nat) (b : Bool) : (s.occurFlag k b).fltHeld = s.fltHeld := by
  rw [s.occurFlag_eq k b]
@[simp] theorem State.occurFlag_eth (s : State) (k : Nat) (b : Bool) : (s.occurFlag k b).eth = s.eth := by
  rw [s.occurFlag_eq k b]
@[simp] theorem State.occurFlag_twb (s : State) (k : Nat) (b : Bool) : (s.occurFlag k b).twb = s.twb := by
  rw [s.occurFlag_eq k b]
@[simp] theorem State.occurFlag_acc (s : State) (k : Nat) (b : Bool) : (s.occurFlag k b).acc = s.acc := by
  rw [s.occurFlag_eq k b]
@[simp] theorem State.occurFlag_dormantAt (s : State) (k : Nat) (b : Bool) : (s.occurFlag k b).dormantAt = s.dormantAt := by
  rw [s.occurFlag_eq k b]
@[simp] theorem State.occurFlag_freeCtr (s : State) (k : Nat) (b : Bool) : (s.occurFlag k b).freeCtr = s.freeCtr := by
  rw [s.occurFlag_eq k b]
@[simp] theorem State.occurFlag_sent (s : State) (k : Nat) (b : Bool) : (s.occurFlag k b).sent = s.sent := by
  rw [s.occurFlag_eq k b]

/-! ### `arrive` -/

@[simp] theorem State.arrive_pending (s : State) (k : Nat) : (s.arrive k).pending = s.pending := s.occurFlag_pending _ _
@[simp] theorem State.arrive_regs (s : State) (k : Nat) : (s.arrive k).regs = s.regs := s.occurFlag_regs _ _
@[simp] theorem State.arrive_ram (s : State) (k : Nat) : (s.arrive k).ram = s.ram := s.occurFlag_ram _ _
@[simp] theorem State.arrive_phase (s : State) (k : Nat) : (s.arrive k).phase = s.phase := s.occurFlag_phase _ _
@[simp] theorem State.arrive_variant (s : State) (k : Nat) : (s.arrive k).variant = s.variant := s.occurFlag_variant _ _
@[simp] theorem State.arrive_record (s : State) (k : Nat) : (s.arrive k).record = s.record := s.occurFlag_record _ _
@[simp] theorem State.arrive_mram (s : State) (k : Nat) : (s.arrive k).mram = s.mram := s.occurFlag_mram _ _
@[simp] theorem State.arrive_ticks (s : State) (k : Nat) : (s.arrive k).ticks = s.ticks := s.occurFlag_ticks _ _
@[simp] theorem State.arrive_time (s : State) (k : Nat) : (s.arrive k).time = s.time := s.occurFlag_time _ _
@[simp] theorem State.arrive_evr (s : State) (k : Nat) : (s.arrive k).evr = s.evr := s.occurFlag_evr _ _
@[simp] theorem State.arrive_gal (s : State) (k : Nat) : (s.arrive k).gal = s.gal := s.occurFlag_gal _ _
@[simp] theorem State.arrive_mode (s : State) (k : Nat) : (s.arrive k).mode = s.mode := s.occurFlag_mode _ _
@[simp] theorem State.arrive_loops (s : State) (k : Nat) : (s.arrive k).loops = s.loops := s.occurFlag_loops _ _
@[simp] theorem State.arrive_prof (s : State) (k : Nat) : (s.arrive k).prof = s.prof := s.occurFlag_prof _ _
@[simp] theorem State.arrive_thm (s : State) (k : Nat) : (s.arrive k).thm = s.thm := s.occurFlag_thm _ _
@[simp] theorem State.arrive_drv (s : State) (k : Nat) : (s.arrive k).drv = s.drv := s.occurFlag_drv _ _
@[simp] theorem State.arrive_safe (s : State) (k : Nat) : (s.arrive k).safe = s.safe := s.occurFlag_safe _ _
@[simp] theorem State.arrive_asy (s : State) (k : Nat) : (s.arrive k).asy = s.asy := s.occurFlag_asy _ _
@[simp] theorem State.arrive_meas (s : State) (k : Nat) : (s.arrive k).meas = s.meas := s.occurFlag_meas _ _
@[simp] theorem State.arrive_est (s : State) (k : Nat) : (s.arrive k).est = s.est := s.occurFlag_est _ _
@[simp] theorem State.arrive_bal (s : State) (k : Nat) : (s.arrive k).bal = s.bal := s.occurFlag_bal _ _
@[simp] theorem State.arrive_chain (s : State) (k : Nat) : (s.arrive k).chain = s.chain := s.occurFlag_chain _ _
@[simp] theorem State.arrive_pairU (s : State) (k : Nat) : (s.arrive k).pairU = s.pairU := s.occurFlag_pairU _ _
@[simp] theorem State.arrive_aux (s : State) (k : Nat) : (s.arrive k).aux = s.aux := s.occurFlag_aux _ _
@[simp] theorem State.arrive_upd (s : State) (k : Nat) : (s.arrive k).upd = s.upd := s.occurFlag_upd _ _
@[simp] theorem State.arrive_cyc (s : State) (k : Nat) : (s.arrive k).cyc = s.cyc := s.occurFlag_cyc _ _
@[simp] theorem State.arrive_can (s : State) (k : Nat) : (s.arrive k).can = s.can := s.occurFlag_can _ _
@[simp] theorem State.arrive_fltHeld (s : State) (k : Nat) : (s.arrive k).fltHeld = s.fltHeld := s.occurFlag_fltHeld _ _
@[simp] theorem State.arrive_eth (s : State) (k : Nat) : (s.arrive k).eth = s.eth := s.occurFlag_eth _ _
@[simp] theorem State.arrive_twb (s : State) (k : Nat) : (s.arrive k).twb = s.twb := s.occurFlag_twb _ _
@[simp] theorem State.arrive_acc (s : State) (k : Nat) : (s.arrive k).acc = s.acc := s.occurFlag_acc _ _
@[simp] theorem State.arrive_dormantAt (s : State) (k : Nat) : (s.arrive k).dormantAt = s.dormantAt := s.occurFlag_dormantAt _ _
@[simp] theorem State.arrive_freeCtr (s : State) (k : Nat) : (s.arrive k).freeCtr = s.freeCtr := s.occurFlag_freeCtr _ _
@[simp] theorem State.arrive_sent (s : State) (k : Nat) : (s.arrive k).sent = s.sent := s.occurFlag_sent _ _

/-! ### `raiseC` -/

@[simp] theorem State.raiseC_pending (s : State) (e : Ev) (c a : Nat) : (s.raiseC e c a).pending = s.pending := by
  rw [s.raiseC_eq e c a]
@[simp] theorem State.raiseC_ram (s : State) (e : Ev) (c a : Nat) : (s.raiseC e c a).ram = s.ram := by
  rw [s.raiseC_eq e c a]
@[simp] theorem State.raiseC_phase (s : State) (e : Ev) (c a : Nat) : (s.raiseC e c a).phase = s.phase := by
  rw [s.raiseC_eq e c a]
@[simp] theorem State.raiseC_variant (s : State) (e : Ev) (c a : Nat) : (s.raiseC e c a).variant = s.variant := by
  rw [s.raiseC_eq e c a]
@[simp] theorem State.raiseC_record (s : State) (e : Ev) (c a : Nat) : (s.raiseC e c a).record = s.record := by
  rw [s.raiseC_eq e c a]
@[simp] theorem State.raiseC_mram (s : State) (e : Ev) (c a : Nat) : (s.raiseC e c a).mram = s.mram := by
  rw [s.raiseC_eq e c a]
@[simp] theorem State.raiseC_ticks (s : State) (e : Ev) (c a : Nat) : (s.raiseC e c a).ticks = s.ticks := by
  rw [s.raiseC_eq e c a]
@[simp] theorem State.raiseC_time (s : State) (e : Ev) (c a : Nat) : (s.raiseC e c a).time = s.time := by
  rw [s.raiseC_eq e c a]
@[simp] theorem State.raiseC_evr (s : State) (e : Ev) (c a : Nat) : (s.raiseC e c a).evr = s.evr := by
  rw [s.raiseC_eq e c a]
@[simp] theorem State.raiseC_gal (s : State) (e : Ev) (c a : Nat) : (s.raiseC e c a).gal = s.gal := by
  rw [s.raiseC_eq e c a]
@[simp] theorem State.raiseC_mode (s : State) (e : Ev) (c a : Nat) : (s.raiseC e c a).mode = s.mode := by
  rw [s.raiseC_eq e c a]
@[simp] theorem State.raiseC_loops (s : State) (e : Ev) (c a : Nat) : (s.raiseC e c a).loops = s.loops := by
  rw [s.raiseC_eq e c a]
@[simp] theorem State.raiseC_prof (s : State) (e : Ev) (c a : Nat) : (s.raiseC e c a).prof = s.prof := by
  rw [s.raiseC_eq e c a]
@[simp] theorem State.raiseC_thm (s : State) (e : Ev) (c a : Nat) : (s.raiseC e c a).thm = s.thm := by
  rw [s.raiseC_eq e c a]
@[simp] theorem State.raiseC_drv (s : State) (e : Ev) (c a : Nat) : (s.raiseC e c a).drv = s.drv := by
  rw [s.raiseC_eq e c a]
@[simp] theorem State.raiseC_safe (s : State) (e : Ev) (c a : Nat) : (s.raiseC e c a).safe = s.safe := by
  rw [s.raiseC_eq e c a]
@[simp] theorem State.raiseC_asy (s : State) (e : Ev) (c a : Nat) : (s.raiseC e c a).asy = s.asy := by
  rw [s.raiseC_eq e c a]
@[simp] theorem State.raiseC_meas (s : State) (e : Ev) (c a : Nat) : (s.raiseC e c a).meas = s.meas := by
  rw [s.raiseC_eq e c a]
@[simp] theorem State.raiseC_est (s : State) (e : Ev) (c a : Nat) : (s.raiseC e c a).est = s.est := by
  rw [s.raiseC_eq e c a]
@[simp] theorem State.raiseC_bal (s : State) (e : Ev) (c a : Nat) : (s.raiseC e c a).bal = s.bal := by
  rw [s.raiseC_eq e c a]
@[simp] theorem State.raiseC_chain (s : State) (e : Ev) (c a : Nat) : (s.raiseC e c a).chain = s.chain := by
  rw [s.raiseC_eq e c a]
@[simp] theorem State.raiseC_pairU (s : State) (e : Ev) (c a : Nat) : (s.raiseC e c a).pairU = s.pairU := by
  rw [s.raiseC_eq e c a]
@[simp] theorem State.raiseC_aux (s : State) (e : Ev) (c a : Nat) : (s.raiseC e c a).aux = s.aux := by
  rw [s.raiseC_eq e c a]
@[simp] theorem State.raiseC_upd (s : State) (e : Ev) (c a : Nat) : (s.raiseC e c a).upd = s.upd := by
  rw [s.raiseC_eq e c a]
@[simp] theorem State.raiseC_cyc (s : State) (e : Ev) (c a : Nat) : (s.raiseC e c a).cyc = s.cyc := by
  rw [s.raiseC_eq e c a]
@[simp] theorem State.raiseC_can (s : State) (e : Ev) (c a : Nat) : (s.raiseC e c a).can = s.can := by
  rw [s.raiseC_eq e c a]
@[simp] theorem State.raiseC_fltHeld (s : State) (e : Ev) (c a : Nat) : (s.raiseC e c a).fltHeld = s.fltHeld := by
  rw [s.raiseC_eq e c a]
@[simp] theorem State.raiseC_eth (s : State) (e : Ev) (c a : Nat) : (s.raiseC e c a).eth = s.eth := by
  rw [s.raiseC_eq e c a]
@[simp] theorem State.raiseC_twb (s : State) (e : Ev) (c a : Nat) : (s.raiseC e c a).twb = s.twb := by
  rw [s.raiseC_eq e c a]
@[simp] theorem State.raiseC_acc (s : State) (e : Ev) (c a : Nat) : (s.raiseC e c a).acc = s.acc := by
  rw [s.raiseC_eq e c a]
@[simp] theorem State.raiseC_dormantAt (s : State) (e : Ev) (c a : Nat) : (s.raiseC e c a).dormantAt = s.dormantAt := by
  rw [s.raiseC_eq e c a]
@[simp] theorem State.raiseC_freeCtr (s : State) (e : Ev) (c a : Nat) : (s.raiseC e c a).freeCtr = s.freeCtr := by
  rw [s.raiseC_eq e c a]
@[simp] theorem State.raiseC_sent (s : State) (e : Ev) (c a : Nat) : (s.raiseC e c a).sent = s.sent := by
  rw [s.raiseC_eq e c a]

/-! ### `raiseA` -/

@[simp] theorem State.raiseA_pending (s : State) (e : Ev) (a : Nat) : (s.raiseA e a).pending = s.pending := s.raiseC_pending e _ a
@[simp] theorem State.raiseA_ram (s : State) (e : Ev) (a : Nat) : (s.raiseA e a).ram = s.ram := s.raiseC_ram e _ a
@[simp] theorem State.raiseA_phase (s : State) (e : Ev) (a : Nat) : (s.raiseA e a).phase = s.phase := s.raiseC_phase e _ a
@[simp] theorem State.raiseA_variant (s : State) (e : Ev) (a : Nat) : (s.raiseA e a).variant = s.variant := s.raiseC_variant e _ a
@[simp] theorem State.raiseA_record (s : State) (e : Ev) (a : Nat) : (s.raiseA e a).record = s.record := s.raiseC_record e _ a
@[simp] theorem State.raiseA_mram (s : State) (e : Ev) (a : Nat) : (s.raiseA e a).mram = s.mram := s.raiseC_mram e _ a
@[simp] theorem State.raiseA_ticks (s : State) (e : Ev) (a : Nat) : (s.raiseA e a).ticks = s.ticks := s.raiseC_ticks e _ a
@[simp] theorem State.raiseA_time (s : State) (e : Ev) (a : Nat) : (s.raiseA e a).time = s.time := s.raiseC_time e _ a
@[simp] theorem State.raiseA_evr (s : State) (e : Ev) (a : Nat) : (s.raiseA e a).evr = s.evr := s.raiseC_evr e _ a
@[simp] theorem State.raiseA_gal (s : State) (e : Ev) (a : Nat) : (s.raiseA e a).gal = s.gal := s.raiseC_gal e _ a
@[simp] theorem State.raiseA_mode (s : State) (e : Ev) (a : Nat) : (s.raiseA e a).mode = s.mode := s.raiseC_mode e _ a
@[simp] theorem State.raiseA_loops (s : State) (e : Ev) (a : Nat) : (s.raiseA e a).loops = s.loops := s.raiseC_loops e _ a
@[simp] theorem State.raiseA_prof (s : State) (e : Ev) (a : Nat) : (s.raiseA e a).prof = s.prof := s.raiseC_prof e _ a
@[simp] theorem State.raiseA_thm (s : State) (e : Ev) (a : Nat) : (s.raiseA e a).thm = s.thm := s.raiseC_thm e _ a
@[simp] theorem State.raiseA_drv (s : State) (e : Ev) (a : Nat) : (s.raiseA e a).drv = s.drv := s.raiseC_drv e _ a
@[simp] theorem State.raiseA_safe (s : State) (e : Ev) (a : Nat) : (s.raiseA e a).safe = s.safe := s.raiseC_safe e _ a
@[simp] theorem State.raiseA_asy (s : State) (e : Ev) (a : Nat) : (s.raiseA e a).asy = s.asy := s.raiseC_asy e _ a
@[simp] theorem State.raiseA_meas (s : State) (e : Ev) (a : Nat) : (s.raiseA e a).meas = s.meas := s.raiseC_meas e _ a
@[simp] theorem State.raiseA_est (s : State) (e : Ev) (a : Nat) : (s.raiseA e a).est = s.est := s.raiseC_est e _ a
@[simp] theorem State.raiseA_bal (s : State) (e : Ev) (a : Nat) : (s.raiseA e a).bal = s.bal := s.raiseC_bal e _ a
@[simp] theorem State.raiseA_chain (s : State) (e : Ev) (a : Nat) : (s.raiseA e a).chain = s.chain := s.raiseC_chain e _ a
@[simp] theorem State.raiseA_pairU (s : State) (e : Ev) (a : Nat) : (s.raiseA e a).pairU = s.pairU := s.raiseC_pairU e _ a
@[simp] theorem State.raiseA_aux (s : State) (e : Ev) (a : Nat) : (s.raiseA e a).aux = s.aux := s.raiseC_aux e _ a
@[simp] theorem State.raiseA_upd (s : State) (e : Ev) (a : Nat) : (s.raiseA e a).upd = s.upd := s.raiseC_upd e _ a
@[simp] theorem State.raiseA_cyc (s : State) (e : Ev) (a : Nat) : (s.raiseA e a).cyc = s.cyc := s.raiseC_cyc e _ a
@[simp] theorem State.raiseA_can (s : State) (e : Ev) (a : Nat) : (s.raiseA e a).can = s.can := s.raiseC_can e _ a
@[simp] theorem State.raiseA_fltHeld (s : State) (e : Ev) (a : Nat) : (s.raiseA e a).fltHeld = s.fltHeld := s.raiseC_fltHeld e _ a
@[simp] theorem State.raiseA_eth (s : State) (e : Ev) (a : Nat) : (s.raiseA e a).eth = s.eth := s.raiseC_eth e _ a
@[simp] theorem State.raiseA_twb (s : State) (e : Ev) (a : Nat) : (s.raiseA e a).twb = s.twb := s.raiseC_twb e _ a
@[simp] theorem State.raiseA_acc (s : State) (e : Ev) (a : Nat) : (s.raiseA e a).acc = s.acc := s.raiseC_acc e _ a
@[simp] theorem State.raiseA_dormantAt (s : State) (e : Ev) (a : Nat) : (s.raiseA e a).dormantAt = s.dormantAt := s.raiseC_dormantAt e _ a
@[simp] theorem State.raiseA_freeCtr (s : State) (e : Ev) (a : Nat) : (s.raiseA e a).freeCtr = s.freeCtr := s.raiseC_freeCtr e _ a
@[simp] theorem State.raiseA_sent (s : State) (e : Ev) (a : Nat) : (s.raiseA e a).sent = s.sent := s.raiseC_sent e _ a

/-! ### `raise` -/

@[simp] theorem State.raise_pending (s : State) (e : Ev) : (s.raise e).pending = s.pending := s.raiseA_pending e 0
@[simp] theorem State.raise_ram (s : State) (e : Ev) : (s.raise e).ram = s.ram := s.raiseA_ram e 0
@[simp] theorem State.raise_phase (s : State) (e : Ev) : (s.raise e).phase = s.phase := s.raiseA_phase e 0
@[simp] theorem State.raise_variant (s : State) (e : Ev) : (s.raise e).variant = s.variant := s.raiseA_variant e 0
@[simp] theorem State.raise_record (s : State) (e : Ev) : (s.raise e).record = s.record := s.raiseA_record e 0
@[simp] theorem State.raise_mram (s : State) (e : Ev) : (s.raise e).mram = s.mram := s.raiseA_mram e 0
@[simp] theorem State.raise_ticks (s : State) (e : Ev) : (s.raise e).ticks = s.ticks := s.raiseA_ticks e 0
@[simp] theorem State.raise_time (s : State) (e : Ev) : (s.raise e).time = s.time := s.raiseA_time e 0
@[simp] theorem State.raise_evr (s : State) (e : Ev) : (s.raise e).evr = s.evr := s.raiseA_evr e 0
@[simp] theorem State.raise_gal (s : State) (e : Ev) : (s.raise e).gal = s.gal := s.raiseA_gal e 0
@[simp] theorem State.raise_mode (s : State) (e : Ev) : (s.raise e).mode = s.mode := s.raiseA_mode e 0
@[simp] theorem State.raise_loops (s : State) (e : Ev) : (s.raise e).loops = s.loops := s.raiseA_loops e 0
@[simp] theorem State.raise_prof (s : State) (e : Ev) : (s.raise e).prof = s.prof := s.raiseA_prof e 0
@[simp] theorem State.raise_thm (s : State) (e : Ev) : (s.raise e).thm = s.thm := s.raiseA_thm e 0
@[simp] theorem State.raise_drv (s : State) (e : Ev) : (s.raise e).drv = s.drv := s.raiseA_drv e 0
@[simp] theorem State.raise_safe (s : State) (e : Ev) : (s.raise e).safe = s.safe := s.raiseA_safe e 0
@[simp] theorem State.raise_asy (s : State) (e : Ev) : (s.raise e).asy = s.asy := s.raiseA_asy e 0
@[simp] theorem State.raise_meas (s : State) (e : Ev) : (s.raise e).meas = s.meas := s.raiseA_meas e 0
@[simp] theorem State.raise_est (s : State) (e : Ev) : (s.raise e).est = s.est := s.raiseA_est e 0
@[simp] theorem State.raise_bal (s : State) (e : Ev) : (s.raise e).bal = s.bal := s.raiseA_bal e 0
@[simp] theorem State.raise_chain (s : State) (e : Ev) : (s.raise e).chain = s.chain := s.raiseA_chain e 0
@[simp] theorem State.raise_pairU (s : State) (e : Ev) : (s.raise e).pairU = s.pairU := s.raiseA_pairU e 0
@[simp] theorem State.raise_aux (s : State) (e : Ev) : (s.raise e).aux = s.aux := s.raiseA_aux e 0
@[simp] theorem State.raise_upd (s : State) (e : Ev) : (s.raise e).upd = s.upd := s.raiseA_upd e 0
@[simp] theorem State.raise_cyc (s : State) (e : Ev) : (s.raise e).cyc = s.cyc := s.raiseA_cyc e 0
@[simp] theorem State.raise_can (s : State) (e : Ev) : (s.raise e).can = s.can := s.raiseA_can e 0
@[simp] theorem State.raise_fltHeld (s : State) (e : Ev) : (s.raise e).fltHeld = s.fltHeld := s.raiseA_fltHeld e 0
@[simp] theorem State.raise_eth (s : State) (e : Ev) : (s.raise e).eth = s.eth := s.raiseA_eth e 0
@[simp] theorem State.raise_twb (s : State) (e : Ev) : (s.raise e).twb = s.twb := s.raiseA_twb e 0
@[simp] theorem State.raise_acc (s : State) (e : Ev) : (s.raise e).acc = s.acc := s.raiseA_acc e 0
@[simp] theorem State.raise_dormantAt (s : State) (e : Ev) : (s.raise e).dormantAt = s.dormantAt := s.raiseA_dormantAt e 0
@[simp] theorem State.raise_freeCtr (s : State) (e : Ev) : (s.raise e).freeCtr = s.freeCtr := s.raiseA_freeCtr e 0
@[simp] theorem State.raise_sent (s : State) (e : Ev) : (s.raise e).sent = s.sent := s.raiseA_sent e 0

/-! ### `raiseIf` -/

@[simp] theorem State.raiseIf_pending (s : State) (b : Bool) (e : Ev) : (s.raiseIf b e).pending = s.pending := by
  unfold State.raiseIf; split
  · exact s.raise_pending e
  · rfl
@[simp] theorem State.raiseIf_ram (s : State) (b : Bool) (e : Ev) : (s.raiseIf b e).ram = s.ram := by
  unfold State.raiseIf; split
  · exact s.raise_ram e
  · rfl
@[simp] theorem State.raiseIf_phase (s : State) (b : Bool) (e : Ev) : (s.raiseIf b e).phase = s.phase := by
  unfold State.raiseIf; split
  · exact s.raise_phase e
  · rfl
@[simp] theorem State.raiseIf_variant (s : State) (b : Bool) (e : Ev) : (s.raiseIf b e).variant = s.variant := by
  unfold State.raiseIf; split
  · exact s.raise_variant e
  · rfl
@[simp] theorem State.raiseIf_record (s : State) (b : Bool) (e : Ev) : (s.raiseIf b e).record = s.record := by
  unfold State.raiseIf; split
  · exact s.raise_record e
  · rfl
@[simp] theorem State.raiseIf_mram (s : State) (b : Bool) (e : Ev) : (s.raiseIf b e).mram = s.mram := by
  unfold State.raiseIf; split
  · exact s.raise_mram e
  · rfl
@[simp] theorem State.raiseIf_ticks (s : State) (b : Bool) (e : Ev) : (s.raiseIf b e).ticks = s.ticks := by
  unfold State.raiseIf; split
  · exact s.raise_ticks e
  · rfl
@[simp] theorem State.raiseIf_time (s : State) (b : Bool) (e : Ev) : (s.raiseIf b e).time = s.time := by
  unfold State.raiseIf; split
  · exact s.raise_time e
  · rfl
@[simp] theorem State.raiseIf_evr (s : State) (b : Bool) (e : Ev) : (s.raiseIf b e).evr = s.evr := by
  unfold State.raiseIf; split
  · exact s.raise_evr e
  · rfl
@[simp] theorem State.raiseIf_gal (s : State) (b : Bool) (e : Ev) : (s.raiseIf b e).gal = s.gal := by
  unfold State.raiseIf; split
  · exact s.raise_gal e
  · rfl
@[simp] theorem State.raiseIf_mode (s : State) (b : Bool) (e : Ev) : (s.raiseIf b e).mode = s.mode := by
  unfold State.raiseIf; split
  · exact s.raise_mode e
  · rfl
@[simp] theorem State.raiseIf_loops (s : State) (b : Bool) (e : Ev) : (s.raiseIf b e).loops = s.loops := by
  unfold State.raiseIf; split
  · exact s.raise_loops e
  · rfl
@[simp] theorem State.raiseIf_prof (s : State) (b : Bool) (e : Ev) : (s.raiseIf b e).prof = s.prof := by
  unfold State.raiseIf; split
  · exact s.raise_prof e
  · rfl
@[simp] theorem State.raiseIf_thm (s : State) (b : Bool) (e : Ev) : (s.raiseIf b e).thm = s.thm := by
  unfold State.raiseIf; split
  · exact s.raise_thm e
  · rfl
@[simp] theorem State.raiseIf_drv (s : State) (b : Bool) (e : Ev) : (s.raiseIf b e).drv = s.drv := by
  unfold State.raiseIf; split
  · exact s.raise_drv e
  · rfl
@[simp] theorem State.raiseIf_safe (s : State) (b : Bool) (e : Ev) : (s.raiseIf b e).safe = s.safe := by
  unfold State.raiseIf; split
  · exact s.raise_safe e
  · rfl
@[simp] theorem State.raiseIf_asy (s : State) (b : Bool) (e : Ev) : (s.raiseIf b e).asy = s.asy := by
  unfold State.raiseIf; split
  · exact s.raise_asy e
  · rfl
@[simp] theorem State.raiseIf_meas (s : State) (b : Bool) (e : Ev) : (s.raiseIf b e).meas = s.meas := by
  unfold State.raiseIf; split
  · exact s.raise_meas e
  · rfl
@[simp] theorem State.raiseIf_est (s : State) (b : Bool) (e : Ev) : (s.raiseIf b e).est = s.est := by
  unfold State.raiseIf; split
  · exact s.raise_est e
  · rfl
@[simp] theorem State.raiseIf_bal (s : State) (b : Bool) (e : Ev) : (s.raiseIf b e).bal = s.bal := by
  unfold State.raiseIf; split
  · exact s.raise_bal e
  · rfl
@[simp] theorem State.raiseIf_chain (s : State) (b : Bool) (e : Ev) : (s.raiseIf b e).chain = s.chain := by
  unfold State.raiseIf; split
  · exact s.raise_chain e
  · rfl
@[simp] theorem State.raiseIf_pairU (s : State) (b : Bool) (e : Ev) : (s.raiseIf b e).pairU = s.pairU := by
  unfold State.raiseIf; split
  · exact s.raise_pairU e
  · rfl
@[simp] theorem State.raiseIf_aux (s : State) (b : Bool) (e : Ev) : (s.raiseIf b e).aux = s.aux := by
  unfold State.raiseIf; split
  · exact s.raise_aux e
  · rfl
@[simp] theorem State.raiseIf_upd (s : State) (b : Bool) (e : Ev) : (s.raiseIf b e).upd = s.upd := by
  unfold State.raiseIf; split
  · exact s.raise_upd e
  · rfl
@[simp] theorem State.raiseIf_cyc (s : State) (b : Bool) (e : Ev) : (s.raiseIf b e).cyc = s.cyc := by
  unfold State.raiseIf; split
  · exact s.raise_cyc e
  · rfl
@[simp] theorem State.raiseIf_can (s : State) (b : Bool) (e : Ev) : (s.raiseIf b e).can = s.can := by
  unfold State.raiseIf; split
  · exact s.raise_can e
  · rfl
@[simp] theorem State.raiseIf_fltHeld (s : State) (b : Bool) (e : Ev) : (s.raiseIf b e).fltHeld = s.fltHeld := by
  unfold State.raiseIf; split
  · exact s.raise_fltHeld e
  · rfl
@[simp] theorem State.raiseIf_eth (s : State) (b : Bool) (e : Ev) : (s.raiseIf b e).eth = s.eth := by
  unfold State.raiseIf; split
  · exact s.raise_eth e
  · rfl
@[simp] theorem State.raiseIf_twb (s : State) (b : Bool) (e : Ev) : (s.raiseIf b e).twb = s.twb := by
  unfold State.raiseIf; split
  · exact s.raise_twb e
  · rfl
@[simp] theorem State.raiseIf_acc (s : State) (b : Bool) (e : Ev) : (s.raiseIf b e).acc = s.acc := by
  unfold State.raiseIf; split
  · exact s.raise_acc e
  · rfl
@[simp] theorem State.raiseIf_dormantAt (s : State) (b : Bool) (e : Ev) : (s.raiseIf b e).dormantAt = s.dormantAt := by
  unfold State.raiseIf; split
  · exact s.raise_dormantAt e
  · rfl
@[simp] theorem State.raiseIf_freeCtr (s : State) (b : Bool) (e : Ev) : (s.raiseIf b e).freeCtr = s.freeCtr := by
  unfold State.raiseIf; split
  · exact s.raise_freeCtr e
  · rfl
@[simp] theorem State.raiseIf_sent (s : State) (b : Bool) (e : Ev) : (s.raiseIf b e).sent = s.sent := by
  unfold State.raiseIf; split
  · exact s.raise_sent e
  · rfl

end Sys2Proof.Machine
end

