-- ==== Sys2Proof/Laws/Ops.lean ====
section
/-! SUPPORT. What the shared operations do: fields of a word, registers and fields after a write, memory after a store, the
events that wait after one was raised. -/

namespace Sys2Proof.Machine

/-- The bits of a word after a field is put. -/
theorem testBit_putBits {v hi lo x i : Nat} (h : lo ≤ hi) :
    (putBits v hi lo x).testBit i = if lo ≤ i ∧ i ≤ hi then x.testBit (i - lo) else v.testBit i := by
  have e : putBits v hi lo x = 2 ^ lo * (2 ^ (hi - lo + 1) * (v / 2 ^ (hi + 1)) + x % 2 ^ (hi - lo + 1)) + v % 2 ^ lo := by
    have : 2 ^ (hi + 1) = 2 ^ lo * 2 ^ (hi - lo + 1) := by rw [← Nat.pow_add]; congr 1; omega
    simp only [putBits]
    rw [Nat.mul_add, ← Nat.mul_assoc, ← this, Nat.mul_comm (v / _), Nat.mul_comm (x % _)]
  rw [e, Nat.testBit_two_pow_mul_add _ (Nat.mod_lt _ (Nat.two_pow_pos _))]
  split
  · rename_i h1
    rw [if_neg (by omega), Nat.testBit_mod_two_pow]; simp [h1]
  · rw [Nat.testBit_two_pow_mul_add _ (Nat.mod_lt _ (Nat.two_pow_pos _))]
    split
    · rw [if_pos (by omega), Nat.testBit_mod_two_pow]; simp_all
    · rw [if_neg (by omega), Nat.testBit_div_two_pow]; congr 1; omega

/-- The bits of a field. -/
theorem testBit_bitsOf {v hi lo i : Nat} : (bitsOf v hi lo).testBit i = (decide (i < hi - lo + 1) && v.testBit (lo + i)) := by
  rw [bitsOf, Nat.testBit_mod_two_pow, Nat.testBit_shiftRight]

/-- A field reads as what was put there. -/
theorem bitsOf_putBits {v hi lo x : Nat} (h : lo ≤ hi) : bitsOf (putBits v hi lo x) hi lo = x % 2 ^ (hi - lo + 1) := by
  apply Nat.eq_of_testBit_eq; intro i
  rw [testBit_bitsOf, testBit_putBits h, Nat.testBit_mod_two_pow]
  by_cases c : i < hi - lo + 1
  · rw [if_pos (by omega)]; simp
  · simp [c]

/-- A field put leaves a disjoint field as it was. -/
theorem bitsOf_putBits_disjoint {v hi lo x h l : Nat} (hl : lo ≤ hi) (hl' : l ≤ h) (d : h < lo ∨ hi < l) :
    bitsOf (putBits v hi lo x) h l = bitsOf v h l := by
  apply Nat.eq_of_testBit_eq; intro i
  rw [testBit_bitsOf, testBit_bitsOf, testBit_putBits hl]
  by_cases c : i < h - l + 1
  · rw [if_neg (by omega)]
  · simp [c]

/-- A field of a 32-bit word. -/
theorem bitsOf_mod {v hi lo : Nat} (h : hi < 32) (hl : lo ≤ hi) : bitsOf (v % 2 ^ 32) hi lo = bitsOf v hi lo := by
  apply Nat.eq_of_testBit_eq; intro i
  rw [testBit_bitsOf, testBit_bitsOf, Nat.testBit_mod_two_pow]
  by_cases c : i < hi - lo + 1
  · have : lo + i < 32 := by omega
    simp [this]
  · simp [c]

/-- A register read after a register write. -/
theorem State.getReg_setReg (s : State) (a b v : Nat) :
    (s.setReg a v).getReg b = if b = a then v % 2 ^ 32 else s.getReg b := by
  simp only [State.getReg, State.setReg, Store.get_set]
  split <;> simp

/-- A field read after it was written. -/
theorem State.getF_setF (s : State) (f : Fld) (v : Nat) (hh : f.hi < 32) (hl : f.lo ≤ f.hi) :
    (s.setF f v).getF f = v % 2 ^ (f.hi - f.lo + 1) := by
  rw [State.getF, State.setF, State.getReg_setReg, if_pos rfl, bitsOf_mod hh hl, bitsOf_putBits hl]

/-- A write of a field leaves another register's field as it was. -/
theorem State.getF_setF_ne (s : State) (f k : Fld) (v : Nat) (h : k.addr ≠ f.addr) : (s.setF f v).getF k = s.getF k := by
  rw [State.getF, State.setF, State.getReg_setReg, if_neg h, State.getF]

/-- A write of a field leaves a disjoint field as it was. -/
theorem State.getF_setF_disjoint (s : State) (f k : Fld) (v : Nat) (hh : k.hi < 32) (hl : k.lo ≤ k.hi) (hl' : f.lo ≤ f.hi)
    (d : k.hi < f.lo ∨ f.hi < k.lo) : (s.setF f v).getF k = s.getF k := by
  rw [State.getF, State.setF, State.getReg_setReg, State.getF]
  split
  · rename_i h; rw [bitsOf_mod hh hl, bitsOf_putBits_disjoint hl' hl d, h]
  · rfl

/-- A register after an occurrence. -/
theorem State.getReg_occur (s : State) (a b : Nat) (f : Nat → Nat) :
    (s.occur a f).getReg b = if b = a then f (s.getReg a) % 2 ^ 32 else s.getReg b :=
  s.getReg_setReg a b _

/-- Raising an event leaves every register but SEQ.COALESCED as it was. -/
theorem State.getReg_raiseC (s : State) (e : Ev) (c a b : Nat) (h : b ≠ Reg.SEQ_COALESCED) :
    (s.raiseC e c a).getReg b = s.getReg b := by
  unfold State.raiseC
  split
  · rfl
  · dsimp only; split
    · show (s.countReg Reg.SEQ_COALESCED).getReg b = s.getReg b
      rw [State.countReg, State.getReg_occur, if_neg h]
    · rfl

@[simp] theorem State.getReg_emit (s : State) (p : Port) (c : Nat) (l : List Nat) (a : Nat) : (s.emit p c l).getReg a = s.getReg a := rfl
@[simp] theorem State.getReg_fresh (s : State) (a : Nat) : s.fresh.getReg a = s.getReg a := rfl
@[simp] theorem State.getReg_toMram (s : State) (b a : Nat) : (s.toMram b).getReg a = s.getReg a := rfl
@[simp] theorem State.getReg_setBytes (s : State) (b : Nat) (l : List Nat) (a : Nat) : (s.setBytes b l).getReg a = s.getReg a := rfl
@[simp] theorem State.getReg_setByte (s : State) (b v a : Nat) : (s.setByte b v).getReg a = s.getReg a := rfl
@[simp] theorem State.getReg_withPending (s : State) (q : List Instr) (a : Nat) : (s.withPending q).getReg a = s.getReg a := rfl

/-- A register after a counter counted. -/
theorem State.getReg_countReg (s : State) (a b : Nat) :
    (s.countReg a).getReg b = if b = a then satU 32 (s.getReg a + 1) else s.getReg b := by
  rw [State.countReg, State.getReg_occur]
  split
  · exact Nat.mod_eq_of_lt (Nat.lt_of_le_of_lt (Nat.min_le_left _ _) (by decide))
  · rfl

@[simp] theorem State.getReg_occurFlag (s : State) (k : Nat) (o : Bool) (a : Nat) : (s.occurFlag k o).getReg a = s.getReg a := by
  rw [s.occurFlag_eq]; rfl
@[simp] theorem State.getReg_arrive (s : State) (k a : Nat) : (s.arrive k).getReg a = s.getReg a := s.getReg_occurFlag _ _ a
@[simp] theorem State.getReg_unraise (s : State) (e : Ev) (a : Nat) : (s.unraise e).getReg a = s.getReg a := rfl

/-- A register after a counter that no read clears counted. -/
theorem State.getReg_countUp (s : State) (a b : Nat) :
    (s.countUp a).getReg b = if b = a then satU 32 (s.getReg a + 1) else s.getReg b := by
  rw [State.countUp, State.getReg_setReg]
  split
  · exact Nat.mod_eq_of_lt (Nat.lt_of_le_of_lt (Nat.min_le_left _ _) (by decide))
  · rfl

/-- Raising an event leaves every register but SEQ.COALESCED as it was. -/
theorem State.getReg_raiseA (s : State) (e : Ev) (a b : Nat) (h : b ≠ Reg.SEQ_COALESCED) :
    (s.raiseA e a).getReg b = s.getReg b := s.getReg_raiseC e _ a b h

/-- Raising an event leaves every register but SEQ.COALESCED as it was. -/
theorem State.getReg_raise (s : State) (e : Ev) (b : Nat) (h : b ≠ Reg.SEQ_COALESCED) :
    (s.raise e).getReg b = s.getReg b := s.getReg_raiseC e _ 0 b h

/-- Raising an event leaves every register but SEQ.COALESCED as it was. -/
theorem State.getReg_raiseIf (s : State) (c : Bool) (e : Ev) (b : Nat) (h : b ≠ Reg.SEQ_COALESCED) :
    (s.raiseIf c e).getReg b = s.getReg b := by
  unfold State.raiseIf; split
  · exact s.getReg_raise e b h
  · rfl

/-- Raising an event leaves the fields of every register but SEQ.COALESCED as they were. -/
theorem State.getF_raise (s : State) (e : Ev) (f : Fld) (h : f.addr ≠ Reg.SEQ_COALESCED) :
    (s.raise e).getF f = s.getF f := by rw [State.getF, State.getF, s.getReg_raise e _ h]

/-- Raising an event leaves the fields of every register but SEQ.COALESCED as they were. -/
theorem State.getF_raiseA (s : State) (e : Ev) (a : Nat) (f : Fld) (h : f.addr ≠ Reg.SEQ_COALESCED) :
    (s.raiseA e a).getF f = s.getF f := by rw [State.getF, State.getF, s.getReg_raiseA e a _ h]

@[simp] theorem State.waits_setReg (s : State) (a v : Nat) (e : Ev) : (s.setReg a v).waits e = s.waits e := rfl
@[simp] theorem State.waits_setF (s : State) (f : Fld) (v : Nat) (e : Ev) : (s.setF f v).waits e = s.waits e := rfl
@[simp] theorem State.waits_emit (s : State) (p : Port) (c : Nat) (l : List Nat) (e : Ev) : (s.emit p c l).waits e = s.waits e := rfl
@[simp] theorem State.waits_occur (s : State) (a : Nat) (f : Nat → Nat) (e : Ev) : (s.occur a f).waits e = s.waits e := rfl
@[simp] theorem State.waits_occurFlag (s : State) (k : Nat) (o : Bool) (e : Ev) : (s.occurFlag k o).waits e = s.waits e := by
  unfold State.occurFlag; split <;> rfl
@[simp] theorem State.waits_arrive (s : State) (k : Nat) (e : Ev) : (s.arrive k).waits e = s.waits e := s.waits_occurFlag _ _ e
@[simp] theorem State.waits_fresh (s : State) (e : Ev) : s.fresh.waits e = s.waits e := rfl

/-- An event raised of a present page waits; an event that waited still does. -/
theorem State.waits_raiseC (s : State) (e k : Ev) (c a : Nat)
    (h : s.waits k = true ∨ (pagePresent s.variant e.page = true ∧ e = k)) : (s.raiseC e c a).waits k = true := by
  unfold State.raiseC
  split
  · rename_i hp
    rcases h with h | ⟨h, -⟩
    · exact h
    · simp [h] at hp
  · simp only [State.waits]
    apply enter_has
    rcases h with h | ⟨-, rfl⟩
    · left; split <;> exact h
    · right; exact ⟨rfl, rfl⟩

/-- An event raised of a present page waits; an event that waited still does. -/
theorem State.waits_raiseA (s : State) (e k : Ev) (a : Nat)
    (h : s.waits k = true ∨ (pagePresent s.variant e.page = true ∧ e = k)) : (s.raiseA e a).waits k = true :=
  s.waits_raiseC e k _ a h

/-- An event raised of a present page waits; an event that waited still does. -/
theorem State.waits_raise (s : State) (e k : Ev)
    (h : s.waits k = true ∨ (pagePresent s.variant e.page = true ∧ e = k)) : (s.raise e).waits k = true :=
  s.waits_raiseC e k _ 0 h

/-- An event that waits still does after another was raised. -/
theorem State.waits_raiseIf (s : State) (b : Bool) (e k : Ev) (h : s.waits k = true) : (s.raiseIf b e).waits k = true := by
  unfold State.raiseIf; split
  · exact s.waits_raise e k (.inl h)
  · exact h

/-- A store of bytes leaves every address outside them as it was. -/
theorem storeBytes_get (m : Store 8) (bs : List Nat) (a b : Nat) (h : b < a ∨ a + bs.length ≤ b) :
    (storeBytes m a bs).get b = m.get b := by
  induction bs generalizing m a with
  | nil => rfl
  | cons x t ih =>
    simp only [List.length_cons] at h
    rw [storeBytes, ih _ _ (by omega), Store.get_set, if_neg (by omega)]

/-- A stored byte reads as it was stored. -/
theorem storeBytes_get_at (m : Store 8) (bs : List Nat) (a i : Nat) (h : i < bs.length) :
    (storeBytes m a bs).get (a + i) = BitVec.ofNat 8 (bs[i]'h) := by
  induction bs generalizing m a i with
  | nil => simp at h
  | cons x t ih =>
    rw [storeBytes]
    cases i with
    | zero => rw [storeBytes_get _ _ _ _ (by omega), Nat.add_zero, Store.get_set, if_pos rfl]; rfl
    | succ i =>
      have := ih (m.set a (BitVec.ofNat 8 x)) (a + 1) i (by simpa using h)
      rw [show a + (i + 1) = a + 1 + i by omega, this]; rfl

/-- A write of bytes leaves every address outside them as it was. -/
theorem State.getByte_setBytes (s : State) (bs : List Nat) (a b : Nat) (h : b < a ∨ a + bs.length ≤ b) :
    (s.setBytes a bs).getByte b = s.getByte b := by
  rw [State.getByte, State.setBytes, storeBytes_get _ _ _ _ h, State.getByte]

/-- What waits after `enter`, by page and number: what waited and the event that entered. -/
theorem enter_waits (c : Compositor) (w : Waiting) (p n : Nat) :
    (enter c w).waiting.any (fun x => x.page == p && x.num == n) = true ↔
      c.waiting.any (fun x => x.page == p && x.num == n) = true ∨ (w.page = p ∧ w.num = n) := by
  refine ⟨fun h => ?_, enter_has⟩
  unfold enter at h
  simp only [List.any_eq_true, Bool.and_eq_true, beq_iff_eq] at h ⊢
  split at h
  · obtain ⟨x, hx, h1, h2⟩ := h
    simp only [List.mem_map] at hx
    obtain ⟨y, hy, rfl⟩ := hx
    refine .inl ⟨y, hy, ?_⟩
    split at h1 <;> split at h2 <;> simp_all
  · split at h
    · obtain ⟨x, hx, h1, h2⟩ := h
      simp only [List.mem_append, List.mem_singleton] at hx
      rcases hx with hx | rfl
      · exact .inl ⟨x, hx, h1, h2⟩
      · exact .inr ⟨h1, h2⟩
    · split at h
      · obtain ⟨x, hx, h1, h2⟩ := h
        simp only [List.mem_append, List.mem_map, List.mem_singleton] at hx
        rcases hx with ⟨y, hy, rfl⟩ | rfl
        · refine .inl ⟨y, hy, ?_⟩
          split at h1 <;> split at h2 <;> simp_all
        · exact .inr ⟨h1, h2⟩
      · obtain ⟨x, hx, h1, h2⟩ := h
        simp only [List.mem_append, List.mem_singleton] at hx
        rcases hx with hx | rfl
        · exact .inl ⟨x, hx, h1, h2⟩
        · exact .inr ⟨h1, h2⟩

/-- What waits after an event of a present page was raised: what waited, and the event. -/
theorem State.waits_raiseC_iff (s : State) (e k : Ev) (c a : Nat) (h : pagePresent s.variant e.page = true) :
    (s.raiseC e c a).waits k = true ↔ s.waits k = true ∨ k = e := by
  unfold State.raiseC
  rw [if_neg (by simp [h])]
  simp only [State.waits]
  rw [enter_waits]
  have : (if (s.comp.waiting.any fun x => x.page == e.page && x.num == e.num && x.bound.isNone) = true then
      s.countReg Reg.SEQ_COALESCED else s).comp.waiting = s.comp.waiting := by split <;> rfl
  rw [this]
  refine or_congr Iff.rfl ⟨fun ⟨h1, h2⟩ => ?_, fun h => ?_⟩
  · cases k; cases e; simp_all
  · subst h; exact ⟨rfl, rfl⟩

/-- What waits after an event of a present page was raised: what waited, and the event. -/
theorem State.waits_raiseA_iff (s : State) (e k : Ev) (a : Nat) (h : pagePresent s.variant e.page = true) :
    (s.raiseA e a).waits k = true ↔ s.waits k = true ∨ k = e := s.waits_raiseC_iff e k _ a h

/-- What waits after an event of a present page was raised: what waited, and the event. -/
theorem State.waits_raise_iff (s : State) (e k : Ev) (h : pagePresent s.variant e.page = true) :
    (s.raise e).waits k = true ↔ s.waits k = true ∨ k = e := s.waits_raiseC_iff e k _ 0 h

/-- A write that passes its checks takes its effect. -/
theorem State.permit_ok {s : State} {m a : Nat} {f : State → State} (h : s.permits m a = true) : s.permit m a f = f s := by
  simp only [State.permits, Bool.and_eq_true, beq_iff_eq, Bool.not_eq_true'] at h
  simp only [State.permit, State.permitAt, h.1.1, h.1.2, h.2]; simp

/-- A keyed write that passes its checks clears LOCK.KEY and takes its effect. -/
theorem State.permitKeyed_ok {s : State} {m a k : Nat} {e : Ev} {f : State → State} (h : s.permitsKeyed m a k = true) :
    s.permitKeyed m a k e f = f (s.clearKey (pageOf a)) := by
  simp only [State.permitsKeyed, Bool.and_eq_true] at h
  rw [State.permitKeyed, State.permit_ok h.1]; simp [h.2]

/-- An event of a present page is added to those that wait. -/
theorem Added_raiseA {s : State} {e : Ev} (a : Nat) (h : pagePresent s.variant e.page = true) : Added [e] s (s.raiseA e a) := by
  intro k; rw [s.waits_raiseA_iff e k a h]; simp

/-- An event of a present page is added to those that wait. -/
theorem Added_raise {s : State} {e : Ev} (h : pagePresent s.variant e.page = true) : Added [e] s (s.raise e) :=
  Added_raiseA 0 h

end Sys2Proof.Machine
end

