-- ==== Sys2Proof/WellFormed.lean ====
section
/-! DEFINITION. Which commands are well formed: a master is one of the six of R50, an access 1 to 16 bytes wide, a CAN controller or a port one of two, a
loop slot one of eight, a launch trigger one of four, an address and a value 32 bits wide. -/

namespace Sys2Proof

/-- The operands of a command lie in the ranges that the spec gives them. -/
def Instr.wf (i : Instr) : Bool :=
  match i with
  | .registerWrite master addr width value => decide (master < 6) && decide (addr < 2 ^ 32) && decide (width ∈ [1, 2, 4, 8, 16]) && decide (value < 2 ^ 32)
  | .ownerWrite master _ value => decide (master < 6) && decide (value < 2 ^ 32)
  | .lockWrite master _ _ => decide (master < 6)
  | .lockKeyExpiry _ => true
  | .readClear master addr width => decide (master < 6) && decide (addr < 2 ^ 32) && decide (width ∈ [1, 2, 4, 8, 16])
  | .lowWordRead master addr width => decide (master < 6) && decide (addr < 2 ^ 32) && decide (width ∈ [1, 2, 4, 8, 16])
  | .vraOpen port _ _ _ => decide (port < 2)
  | .vraRead port _ _ _ => decide (port < 2)
  | .vraWrite port _ _ _ => decide (port < 2)
  | .vraWriteMask port _ _ _ => decide (port < 2)
  | .vraClose port _ _ _ => decide (port < 2)
  | .vraIdleTimeout _ => true
  | .vraSourceBlockEnd _ => true
  | .vraCtlWrite master value => decide (master < 6) && decide (value < 2 ^ 32)
  | .uartRd _ => true
  | .uartWr _ _ => true
  | .modeRequest master value => decide (master < 6) && decide (value < 2 ^ 32)
  | .transTimeout => true
  | .stopLimitExpiry => true
  | .latchClr master value => decide (master < 6) && decide (value < 2 ^ 32)
  | .wake _ => true
  | .wakeTimerExpiry => true
  | .wakeOscCheck _ => true
  | .pllUnlock => true
  | .clkMonWindow _ _ => true
  | .rootDrift => true
  | .wdgKick master value => decide (master < 6) && decide (value < 2 ^ 32)
  | .wdgExpiry => true
  | .powerOn => true
  | .supplyLoss => true
  | .resetNAssert => true
  | .resetNRelease => true
  | .resetRelease _ => true
  | .pllLockRetry _ => true
  | .svcDebouncedClose => true
  | .svcDebouncedOpen _ => true
  | .svcStuck => true
  | .restartWarm master => decide (master < 6)
  | .restartCold master => decide (master < 6)
  | .addrSet master value => decide (master < 6) && decide (value < 2 ^ 32)
  | .offer can _ => decide (can < 2)
  | .clearAddr can _ _ => decide (can < 2)
  | .endWalk can => decide (can < 2)
  | .taken can _ _ _ _ _ => decide (can < 2)
  | .takenTimeout => true
  | .addrInChange _ => true
  | .roleSelSample _ => true
  | .gpioChange _ _ => true
  | .chainLinkUp port => decide (port < 2)
  | .chainLinkLost port => decide (port < 2)
  | .trigLaunch => true
  | .collectLaunch _ => true
  | .slotArrival _ => true
  | .sweepDeadline _ _ => true
  | .nodeUnheard _ => true
  | .alarmRx port _ _ _ _ => decide (port < 2)
  | .nodeAlarmRelease _ => true
  | .staleMaster _ => true
  | .fwd _ => true
  | .relay _ _ _ _ => true
  | .dlyEcho _ _ port _ _ _ => decide (port < 2)
  | .dlyTimeout _ => true
  | .dlyPeriod => true
  | .dlyNow master => decide (master < 6)
  | .enumStart master => decide (master < 6)
  | .rejoinPos master _ => decide (master < 6)
  | .enumReturn _ => true
  | .enumTimeout => true
  | .enumDone _ => true
  | .sweepRejoin master => decide (master < 6)
  | .nregRead master _ _ => decide (master < 6)
  | .nregWrite master _ _ value => decide (master < 6) && decide (value < 2 ^ 32)
  | .nregReply _ _ value _ => decide (value < 2 ^ 32)
  | .nregTimeout => true
  | .owtLaunch => true
  | .owtPeriodic => true
  | .owtNow master => decide (master < 6)
  | .owtDeadline => true
  | .suspectClr master _ => decide (master < 6)
  | .suspectClrDecision _ => true
  | .compReadback _ _ => true
  | .floopAbsent _ => true
  | .bleedLaunch _ => true
  | .planCommit master => decide (master < 6)
  | .planClear master => decide (master < 6)
  | .votedSample _ => true
  | .hvLost => true
  | .chReadmitted _ => true
  | .offsetCalStart => true
  | .offsetCalEnd _ => true
  | .imdDone _ _ _ => true
  | .imdConnFault => true
  | .imdStart master => decide (master < 6)
  | .imdHolderStart => true
  | .chgClr master value => decide (master < 6) && decide (value < 2 ^ 32)
  | .chgStore => true
  | .estDone => true
  | .estShadowWrite => true
  | .capSet master value => decide (master < 6) && decide (value < 2 ^ 32)
  | .anchorReq master => decide (master < 6)
  | .anchorCancel master => decide (master < 6)
  | .anchorRampTimeout => true
  | .noAnchor => true
  | .cellViewWrite master value => decide (master < 6) && decide (value < 2 ^ 32)
  | .holdExpired => true
  | .assayStart master => decide (master < 6)
  | .assayAbort master => decide (master < 6)
  | .perturbRiseEnd => true
  | .binSpanEnd => true
  | .metricsDone => true
  | .tempEstimate => true
  | .tcalClr master value => decide (master < 6) && decide (value < 2 ^ 32)
  | .tcal _ _ => true
  | .perturbZero => true
  | .loopCfgWrite master _ value => decide (master < 6) && decide (value < 2 ^ 32)
  | .loopModeWrite master _ => decide (master < 6)
  | .loopSwap master _ => decide (master < 6)
  | .loopResume master => decide (master < 6)
  | .thermalSlotSample slot => decide (slot < 8)
  | .feedbackStale slot => decide (slot < 8)
  | .thermalHoldExpiry slot => decide (slot < 8)
  | .profileStep => true
  | .profTargetWrite master value => decide (master < 6) && decide (value < 2 ^ 32)
  | .profLimitWrite master _ value => decide (master < 6) && decide (value < 2 ^ 32)
  | .tinSample _ => true
  | .tachEval _ _ _ => true
  | .fanStall fan => decide (fan < 2)
  | .flowLow => true
  | .status _ => true
  | .driveLinkUp => true
  | .driveLinkLost => true
  | .statusTimeout => true
  | .renewSend => true
  | .watchSend => true
  | .claimRepeat => true
  | .pwmEnable => true
  | .driveEnChange line _ => decide (line < 2)
  | .driveEnTest _ _ => true
  | .fbSample _ _ _ => true
  | .contStepTimeout => true
  | .preTimeout => true
  | .gatesTimeout => true
  | .fbDisagree => true
  | .contUnexpected => true
  | .fbTestGap _ => true
  | .curReduceRepeat => true
  | .curReduceDeadline => true
  | .connectAck can _ => decide (can < 2)
  | .connectTimeout => true
  | .lockstep => true
  | .lockstepResetHold => true
  | .marginSelftest _ => true
  | .cfgCrcCheck => true
  | .fsRampDeadline => true
  | .fsNoRampFallback => true
  | .stopReq _ => true
  | .stopReqTimeout => true
  | .ellipsisExpiry => true
  | .sioSample _ _ => true
  | .heartbeatSend => true
  | .heartbeat _ => true
  | .hbPulse _ _ => true
  | .hbPathLost _ => true
  | .partnerLost => true
  | .claimSend => true
  | .pairClaim master => decide (master < 6)
  | .claimTimeout => true
  | .mirrorSend => true
  | .mirror _ => true
  | .mirrorStale => true
  | .cfgDiffer => true
  | .resyncReq _ => true
  | .modeReq _ _ _ => true
  | .modeResult _ _ _ _ => true
  | .modeReqTimeout => true
  | .swapDue => true
  | .swapNow master => decide (master < 6)
  | .swapOverdue => true
  | .swapOffer _ => true
  | .swapAccept _ => true
  | .swapDecline _ => true
  | .swapHoldoffEnd => true
  | .swapGrantTimeout => true
  | .latentClr master value => decide (master < 6) && decide (value < 2 ^ 32)
  | .cycleBoundary _ => true
  | .entryReturn _ => true
  | .cycleDeadline _ => true
  | .retainCommit => true
  | .note _ => true
  | .shadowNow => true
  | .wait addr _ _ => decide (addr < 2 ^ 32)
  | .waitTimeout => true
  | .coreTrap _ _ => true
  | .ebreak _ => true
  | .serviceTrap _ _ _ => true
  | .serviceRestart => true
  | .cycRun master _ => decide (master < 6)
  | .cycStop master => decide (master < 6)
  | .cycHold master => decide (master < 6)
  | .cycStep master => decide (master < 6)
  | .holdLimit => true
  | .initTimeout => true
  | .progShadow => true
  | .shadowSealed => true
  | .retainStore => true
  | .tmrInWrite master slot _ => decide (master < 6) && decide (slot < 8)
  | .tmrPtWrite master slot value => decide (master < 6) && decide (slot < 8) && decide (value < 2 ^ 32)
  | .tmrExpiry slot => decide (slot < 8)
  | .eventGrant => true
  | .record => true
  | .cursorWrite master value => decide (master < 6) && decide (value < 2 ^ 32)
  | .cursorReady => true
  | .freezeExpired => true
  | .sync _ => true
  | .followUp _ => true
  | .announce _ => true
  | .pdelayReq _ => true
  | .pdelayResp _ => true
  | .pdelayReqSend port => decide (port < 2)
  | .syncLoss => true
  | .announceTimeout => true
  | .stepNs master value => decide (master < 6) && decide (value < 2 ^ 32)
  | .launchTrig trig => decide (trig < 4)
  | .trigPulseEnd trig => decide (trig < 4)
  | .compatLoad master value => decide (master < 6) && decide (value < 2 ^ 32)
  | .txbReq can master value => decide (can < 2) && decide (master < 6) && decide (value < 2 ^ 32)
  | .txbCancel can master value => decide (can < 2) && decide (master < 6) && decide (value < 2 ^ 32)
  | .canLaunchDue can _ => decide (can < 2)
  | .canLateWindow can _ => decide (can < 2)
  | .txDone can _ _ => decide (can < 2)
  | .canRxFrame can _ => decide (can < 2)
  | .canBusError can _ _ _ _ _ => decide (can < 2)
  | .recover can master => decide (can < 2) && decide (master < 6)
  | .busOn can => decide (can < 2)
  | .canModeWrite can master _ => decide (can < 2) && decide (master < 6)
  | .canPeriodicDue _ _ => true
  | .trefSend can => decide (can < 2)
  | .trefLost can => decide (can < 2)
  | .rxqAck can master value => decide (can < 2) && decide (master < 6) && decide (value < 2 ^ 32)
  | .rxqHeadRead can master _ _ => decide (can < 2) && decide (master < 6)
  | .rxqLockExpiry can _ => decide (can < 2)
  | .filterCommit master _ _ => decide (master < 6)
  | .ethLinkChange port _ _ _ => decide (port < 2)
  | .ethRxFrame port _ => decide (port < 2)
  | .plantDatagram port _ => decide (port < 2)
  | .arpRequest port _ _ _ _ => decide (port < 2)
  | .icmpEcho port _ _ => decide (port < 2)
  | .txTailWrite port master value => decide (port < 2) && decide (master < 6) && decide (value < 2 ^ 32)
  | .rxTailWrite port master value => decide (port < 2) && decide (master < 6) && decide (value < 2 ^ 32)
  | .ethTxDone port _ => decide (port < 2)
  | .macAge _ => true
  | .plnkFrame _ => true
  | .plnkLinkDown _ => true
  | .plnkLinkUp => true
  | .twbIdentRead _ _ _ => true
  | .twbModeRead _ _ _ => true
  | .twbHoursRead _ _ _ => true
  | .twbAddrRead _ _ _ => true
  | .twbPointerWrite _ addr _ => decide (addr < 2 ^ 32)
  | .twbPointerRead _ _ _ => true
  | .twbFixedPointerRead _ _ _ => true
  | .twbProtoErr => true
  | .twbTgtTimeout => true
  | .twbQuickWrite master _ => decide (master < 6)
  | .twbQuickRead master _ => decide (master < 6)
  | .twbSendByte master _ => decide (master < 6)
  | .twbReceiveByte master _ => decide (master < 6)
  | .twbWriteByte master _ => decide (master < 6)
  | .twbReadByte master _ => decide (master < 6)
  | .twbWriteWord master _ => decide (master < 6)
  | .twbReadWord master _ => decide (master < 6)
  | .twbProcessCall master _ => decide (master < 6)
  | .twbBlockWrite master _ => decide (master < 6)
  | .twbBlockRead master _ => decide (master < 6)
  | .twbBlockWriteBlockRead master _ => decide (master < 6)
  | .twbFixedWrite master _ => decide (master < 6)
  | .twbFixedRead master _ => decide (master < 6)
  | .twbCancel master => decide (master < 6)
  | .twbBusFree => true
  | .cDone _ => true
  | .arbLost _ => true
  | .twbCTimeout => true
  | .busStuck _ => true
  | .updBegin master => decide (master < 6)
  | .updData master value => decide (master < 6) && decide (value < 2 ^ 32)
  | .headerCheckDone _ => true
  | .payloadVerified _ => true
  | .updAbort master => decide (master < 6)
  | .updArm master value => decide (master < 6) && decide (value < 2 ^ 32)
  | .updRevert master value => decide (master < 6) && decide (value < 2 ^ 32)
  | .activateAtDue => true
  | .keyRevoke master value => decide (master < 6) && decide (value < 2 ^ 32)
  | .nfwResult _ _ => true
  | .nfwBusyTimeout => true
  | .nodeRejoinTimeout => true
  | .loadStatus _ _ _ => true
  | .loadResend => true
  | .loadTimeout => true
  | .tonePresent _ => true
  | .chassisLoopClosed => true
  | .ethLaunchDue port => decide (port < 2)
  | .syncSend port => decide (port < 2)
  | .swapDriveTimeout => true
  | .eccCorrected => true

end Sys2Proof
end

