-- ==== Sys2Proof/Tests/Slice0.lean ====
section
/-! SUPPORT. Tests of the model's own: a state and operands that meet the conditions of every clause of the statements, an
ill-formed command that each check of WellFormed refuses, and worked values of the spec. -/

open Sys2Proof Sys2Proof.Machine

namespace Sys2Proof.Tests

set_option Elab.async false
set_option linter.all false

/-- A witness state or operand. -/
def put (s : State) (l : List (Fld × Nat)) : State := l.foldl (fun (s : State) p => s.setF p.1 p.2) s

/-- A witness state or operand. -/
def putR (s : State) (l : List (Nat × Nat)) : State := l.foldl (fun (s : State) p => s.setReg p.1 p.2) s

/-- A witness state or operand. -/
def up : State := { State.reset with phase := .up }

/-- A witness state or operand. -/
def upA : State := { up with variant := .A }

/-- A witness state or operand. -/
def upC : State := { up with variant := .C }

/-- A witness state or operand. -/
def held : State := State.reset

/-- A witness state or operand. -/
def asleep : State := { State.reset with phase := .dormant }

/-- A witness state or operand. -/
def pay (k v : Nat) : Payload := ⟨k, 0, v, [], 0, 0, [], [], none⟩

/-- A witness state or operand. -/
def startable : State := put { State.reset with aux := { State.reset.aux with hold := 0 }, upd := { State.reset.upd with safe := [some (pay Pk.safe 7), none] } } [(Fld.CLK_PLL_LOCKED, 1)]

/-- A witness state or operand. -/
def bootOk : BootResult := ⟨true, false, false, false, true, false, false, true⟩

/-- A scaling under which the sum of 20 conversions is the current in mA. -/
def cs0 : CurScale := ⟨50, 50, 20000000, 0, 0, 0, false, false, false⟩

/-- A witness state or operand. -/
def plain : PlantRecord := ⟨1, [], false, false, cs0, 0, 0, 0, [], none, 0, 0, 0, [], 0, 0, []⟩

/-- A solo VB-2064-F in SURVEY with a Plant Record and everything in the state that row 3 asks for. -/
def ready : State := put { up with record := some plain, meas := { up.meas with imdAt := some 0 } }
  [(⟨Folio.STATUS Pg.NODE, 0, 0⟩, 1), (Fld.VOTE_CH_STATE_CUR_VALID, 1), (Fld.VOTE_CH_STATE_V_VALID, 1), (Fld.MEAS_IMD_RESULT_STATE, 1), (⟨Reg.VOTE_CH_STATE, 13, 2⟩, 0),
   (Fld.DRV_LINK_STATE, 2), (Fld.DRV_OS_STATUS_READY, 1), (Fld.MODE_STATE_CURRENT, 2)]

/-- A witness state or operand. -/
def starting : State := put { up with mode := { up.mode with row := 3 } } [(Fld.MODE_STATE_CURRENT, 8), (Fld.MODE_FUNC_STATE_POWER, 1)]

/-- A witness state or operand. -/
def latched : State := put up [(Fld.MODE_LATCH_STOP_LATCH, 1), (Fld.MODE_STATE_STOP_LATCH, 1), (Fld.MODE_STATE_CURRENT, 2), (Fld.SIO_FB_ACCEPTED, 7)]

/-- A witness state or operand. -/
def session (level : Nat) : State := put { up with acc := { up.acc with sessions := [⟨7, level, [1, 2], 0, [], [], 0⟩] } } [(Fld.SYS_VRA_CTL_ENABLE, 1)]

/-- A witness state or operand. -/
def keyed : State := put { up with record := some { plain with keys := [[3],[4],[5]] } } [(Fld.SYS_VRA_CTL_ENABLE, 1)]

/-- A witness state or operand. -/
def rec0 : PosRec := ⟨0, 0, 0, [], [], 0, [], 0⟩

/-- A witness state or operand. -/
def aSweep (n : Nat) : Sweep := ⟨n, 1, 0, 0, false, false, [], [], false, false, [], [], [], [], []⟩

/-- Two nodes, sampling every 10 ms. -/
def sweeping : State := put { up with record := some { plain with positions := [rec0, rec0] }, chain := { up.chain with pos := [{ Position.reset with state := 2 }, { Position.reset with state := 2 }] } } [(Fld.CHN0_SCHED_SCHED, 1), (Fld.CHN0_RING_BREAK_LO, 0xFF), (Fld.CHN0_RING_BREAK_HI, 0xFF)]

/-- A witness state or operand. -/
def slotBytes (pos : Nat) : List Nat := [pos, 1] ++ List.replicate 76 0

/-- A witness state or operand. -/
def slotOf (pos : Nat) : SlotMsg := { port := 0, flags := 0, sweep := 5, edition := 0, instant := 0, first := 1, count := 2, kind := 1, pos := pos, bytes := slotBytes pos ++ beBytes 2 (crc16 (beBytes 2 5 ++ slotBytes pos)), headerOk := true, lineErrs := 0, last := false, crc := 0, crcOk := true }

/-- A witness state or operand. -/
def paired : State := { sweeping with record := some { plain with positions := [rec0, rec0], pair := true } }

/-- A witness state or operand. -/
def frame (i : Int) : ChanFrame := { curA := i :: List.replicate 19 0, curB := i :: List.replicate 19 0, curC := i :: List.replicate 19 0, hvFrame := true, vA := some 0, vB := some 0, vC := some 0, vLink := some 0, vPre := some 0 }

/-- A witness state or operand. -/
def quietUp : State := up

/-- Insulation monitoring injects. -/
def imdUp : State := put up [(Fld.MEAS_IMD_CTL_ENABLE, 1), (Fld.MEAS_IMD_RESULT_STATE, 1)]

/-- A witness state or operand. -/
def aUsed (g : Nat) : Used := ⟨5, 1000, 1000000, 0, g, 0, [], [], [], [], 0, 0⟩

/-- One cell with a capacity of 100 mA·s. -/
def capUp : State := { up with record := some { plain with positions := [{ rec0 with cellMask := 1 }], psets := [{ PSet.zero with qNom := 100 }] } }

/-- A standby of a pair whose partner holds. -/
def stby : State := put paired [(Fld.PLNK_LINK_ENABLE, 1), (Fld.PAIR_STATE_PSTATE, 4), (Fld.PAIR_STATE_PARTNER_PRESENT, 1), (Fld.PAIR_HB_LINK, 1), (Fld.PAIR_HB_PULSE, 1)]

/-- The holder of a pair. -/
def hold : State := put { paired with drv := { paired.drv with imprint := true, renew := true } } [(Fld.PLNK_LINK_ENABLE, 1), (Fld.PAIR_STATE_PSTATE, 3), (Fld.PAIR_STATE_PARTNER_PRESENT, 1), (Fld.PAIR_HB_LINK, 1), (Fld.PAIR_HB_PULSE, 1), (Fld.MODE_STATE_CURRENT, 2)]

/-- A witness state or operand. -/
def hb0 : HeartbeatMsg := ⟨9, 0, 3, 2, 1, 0, 77, 5, some 9⟩

/-- A witness state or operand. -/
def mir0 : MirrorMsg := ⟨0, 5, true, 0, 0, 0, 0, false, 0, 0, 0, 0, 0, 0, false, [], [], [], ⟨0, F64.zero, 0, [], 0, 0, []⟩, 3, false⟩

/-- The program image is loaded and RUN. -/
def runs : State := put { up with cyc := { up.cyc with image := some (pay Pk.app 7) } } [(Fld.CYC_STATE_STATE, 1)]

/-- A witness state or operand. -/
def stopped : State := runs.setF Fld.CYC_STATE_STATE 0

/-- A witness state or operand. -/
def holding : State := runs.setF Fld.CYC_STATE_STATE 2

/-- A witness state or operand. -/
def out0 : OutImage := ⟨false, 0, 0, [], 5⟩

/-- A witness state or operand. -/
def wait0 (p n : Nat) : Waiting := ⟨p, n, 2, 0, 77, 5, 0, none⟩

/-- A witness state or operand. -/
def quiet : State := put { up with comp := { up.comp with firstGrantDone := true } } [(Fld.EVR_CTL_ENABLE, 0), (Fld.SEQ_CTL_CORE_QUEUE, 0), (Fld.SEQ_CTL_HOST_RING, 0)]

/-- A witness state or operand. -/
def evr0 (i : Nat) : Record := ⟨i, 0, 0, 0, 0, 0, 0, 0, 0, 0, 0, 0, 0, []⟩

/-- A witness state or operand. -/
def ptp0 : PtpMsg := ⟨0, 0, 5, 77, 1, false, false, 1000, 0, 5000, 900, 42, 128, 6, 0x20, 0, 128, 1, 37, true⟩

/-- A witness state or operand. -/
def ptpUp : State := put up [(Fld.ETH_PORT_STATUS_LINK 0, 1), (Fld.ETH_PORT_STATUS_LINK 1, 1), (Fld.TIME_SYNC_CTL_SOURCE, 1), (Fld.TIME_SYNC_STATE_STATE, 1), (Fld.TIME_PTP_CFG_SLAVE_ONLY, 1)]

/-- A witness state or operand. -/
def synced : State := put { ptpUp with time := { ptpUp.time with gm := some ⟨[], 77, 0⟩ } } [(Fld.TIME_SYNC_STATE_STATE, 3)]

/-- Both controllers in NORMAL, with the string address 5. -/
def canUp : State := put up [(Fld.CAN_CTL_MODE 0, 1), (Fld.CAN_CTL_MODE 1, 1), (Fld.CAN_CTL_FD_EN 0, 1), (Fld.CAN_CTL_FD_EN 1, 1), (Fld.AUX_ADDR_STRING_ADDR, 5), (Fld.CAN_RXQ_CFG_DEPTH 0 0, 4), (Fld.FLT_GLOBAL_NOMATCH0, 1)]

/-- Buffer 3 of controller 0 holds a frame with identifier 0x123 and two bytes, and is pending. -/
def canTx : State := putR canUp [(Reg.CAN_TXB 0 3, 0x123), (Reg.CAN_TXB 0 3 + 4, 2), (Reg.CAN_TXB_PEND 0, 8), (Reg.CAN_TXB 0 3 + 16, 0x0201)]

/-- A witness state or operand. -/
def cf0 : CanFrame := ⟨0x300, false, false, false, false, false, 2, [7, 8], 99⟩

/-- Both plant ports are UP, with IPv4 addresses. -/
def ethUp : State := putR (put up [(Fld.ETH_PORT_STATUS_LINK 0, 1), (Fld.ETH_PORT_STATUS_LINK 1, 1)]) [(Reg.ETH_IPV4 0, 0x0A000005), (Reg.ETH_IPV4 1, 0x0A000006), (Reg.ETH_MAC_HI 0, 0x0200), (Reg.ETH_MAC_LO 0, 0x11)]

/-- A witness state or operand. -/
def ef0 : EthFrame := ⟨0x020000000011, 0x020000000099, none, 0x88B5, [1, 2, 3], true, 5⟩

/-- One descriptor of 64 bytes waits in the transmit ring of port 0. -/
def ethTx (w : Nat) : State := putR { ethUp with ram := (ethUp.setMemWord 0x80000000 0x80001000 |>.setMemWord 0x80000004 w).ram } [(Reg.ETH_TX_BASE 0, 0x80000000), (Reg.ETH_TX_SIZE 0, 4), (Reg.ETH_TX_TAIL 0, 1)]

/-- One descriptor waits in the receive ring of port 0. -/
def ethRx : State := putR { ethUp with ram := (ethUp.setMemWord 0x80000000 0x80001000 |>.setMemWord 0x80000004 0x10000).ram } [(Reg.ETH_RX_BASE 0, 0x80000000), (Reg.ETH_RX_SIZE 0, 4), (Reg.ETH_RX_TAIL 0, 1)]

/-- A witness state or operand. -/
def plantKeyed : State := { ethUp with record := some { plain with keys := [[3], [4], [5]] } }

/-- A witness state or operand. -/
def dgram (key : List Nat) (fn counter : Nat) : EthFrame := ⟨0x020000000011, 0x020000000099, none, 0x0800, [0x45, 0, 0, 0, 0, 0, 0, 0, 64, 17, 0, 0, 10, 0, 0, 9, 10, 0, 0, 5] ++ [0xA0, 5, 0xA0, 5, 0, 0, 0, 0] ++ datagram key fn 5 counter [1], true, 5⟩

/-- A witness state or operand. -/
def pf0 : PlnkFrame := ⟨1, 0, 2, 0, 3, 9, true⟩

/-- A witness state or operand. -/
def twbUp (cmd : Nat) : State := putR (put { up with twb := ⟨true, none⟩ } [(Fld.TWB_BUS_CFG_HOLDER_ONLY, 0)]) [(Reg.TWB_C_CMD, cmd), (Reg.TWB_C_DATA 0, 0x04030201)]

/-- The target answers. -/
def twbTgt : State := put up [(Fld.TWB_TGT_CTL_ENABLE, 1), (Fld.AUX_START_STATUS_STEP, 8)]

/-- A witness state or operand. -/
def twbRuns (prot ctl : Nat) : State := put { up with twb := ⟨false, some ⟨ctl, prot + 0x0A00 + 4 * 2 ^ 26, [1, 2, 3], true, false⟩⟩ } [(Fld.TWB_C_STATUS_BUSY, 1)]

/-- A witness state or operand. -/
def runOf (prot ctl : Nat) : TwbRun := ⟨ctl, prot + 0x0A00 + 4 * 2 ^ 26, [1, 2, 3], true, false⟩

/-- A witness state or operand. -/
def locked (a key : Nat) (s : State) : State := put s [(Folio.LOCK_KEY (pageOf a), key)]

/-- A witness state or operand. -/
def node0 : Payload := { pay Pk.node 7 with bodyLen := 4 }

/-- A witness state or operand. -/
def loading (ph : Nat) : State := { up with upd := { up.upd with load := some ⟨{ pay Pk.ostage 7 with bodyLen := 4, body := [1, 2, 3, 4] }, ph, 0, 0⟩ } }

/-- A witness state or operand. -/
def load0 (ph : Nat) : Load := ⟨{ pay Pk.ostage 7 with bodyLen := 4, body := [1, 2, 3, 4] }, ph, 0, 0⟩

/-- A witness state or operand. -/
def noding (op : Nat) (rj : Bool) : State := put { sweeping with upd := { up.upd with node := some ⟨{ node0 with bodyLen := 5000 }, [1, 2], op, 0, false, false, rj⟩, active := [3], ready := [node0] } } [(Fld.MODE_STATE_CURRENT, 2)]

/-- A witness state or operand. -/
def nodeUpd (op : Nat) (rj : Bool) : NodeUpd := ⟨{ node0 with bodyLen := 5000 }, [1, 2], op, 0, false, false, rj⟩

/-- A witness state or operand. -/
def hex8 (n : Nat) : List Nat := (List.range 8).map (fun i => let d := n / 16 ^ (7 - i) % 16; if d < 10 then 48 + d else 55 + d)

/-- A witness state or operand. -/
def plnkUp (s : State) : State := s.setF Fld.PLNK_LINK_ENABLE 1

/-- Both ports of the chain send. -/
def sending (s : State) : State := put s [(Fld.CHN_PORT_CTL_ENABLE 0, 1), (Fld.CHN_PORT_CTL_ENABLE 1, 1), (Fld.CHN_PORT_STATUS_LINK 0, 2), (Fld.CHN_PORT_STATUS_LINK 1, 2)]

/-- A witness state or operand. -/
def recOk (i : Nat) : EnumRec := let r : EnumRec := ⟨i, 0, 0, 0, 0, 0, 0⟩; { r with crc := crc16 (beBytes 2 (i - 1) ++ enumHead r) }

/-- A witness state or operand. -/
def split2 (s : State) : State := put s [(Fld.CHN0_RING_BREAK_LO, 1)]

/-- The conditions of the clauses of RegisterAndMemoryWrites are met together, each by the state and operands named. -/
theorem test_conditions_RegisterAndMemoryWrites_1 : (
    ((fun (s : State) (m : Nat) (a : Nat) (w : Nat) (v : Nat) => decide (s.live = true) && decide (m < 2) && decide (w ∈ [1, 2, 4, 8, 16]) && decide (a % w = 0) && decide (isRam a = true) && decide (s.pmpOk m a true = true))
      up 0 0x10000000 4 0x12345678) &&
    ((fun (s : State) (m : Nat) (a : Nat) (w : Nat) (v : Nat) => decide (s.live = true) && decide (m < 2) && decide (w ∈ [1, 2, 4, 8, 16]) && decide (a % w = 0) && decide (isRam a = true) && decide (s.pmpOk m a true = true))
      up 1 0xBFFFFFFF 1 255) &&
    ((fun (s : State) (m : Nat) (p : Nat) (v : Nat) => decide (s.live = true) && decide (p < 35) && decide (m < 4) && decide (pagePresent s.variant p = true) && decide (s.owns m p = true) && decide (s.pmpOk m (Folio.EVENT_EN p) true = true))
      (put up [(⟨Folio.OWNER 0,4,0⟩,31)]) 3 0 0xFFFFFFFF) &&
    ((fun (s : State) (m : Nat) (p : Nat) (v : Nat) => decide (s.live = true) && decide (p < 35) && decide (m < 4) && decide (pagePresent s.variant p = true) && decide (s.owns m p = true) && decide (s.pmpOk m (Folio.EVENT_EN p) true = true))
      up 0 34 7) &&
    ((fun (s : State) (m : Nat) (p : Nat) (v : Nat) => decide (s.live = true) && decide (p < 35) && decide (m < 4) && decide (pagePresent s.variant p = true) && decide (s.owns m p = false) && decide (s.pmpOk m (Folio.EVENT_EN p) true = true))
      (put up [(⟨Folio.OWNER 0,4,0⟩,0)]) 3 0 0xFFFFFFFF) &&
    ((fun (s : State) (m : Nat) (p : Nat) (v : Nat) => decide (s.live = true) && decide (p < 35) && decide (m < 4) && decide (pagePresent s.variant p = true) && decide (s.owns m p = false) && decide (s.pmpOk m (Folio.EVENT_EN p) true = true))
      (put up [(⟨Folio.OWNER 34,4,0⟩,0)]) 0 34 7) &&
    ((fun (s : State) (m : Nat) (p : Nat) (v : Nat) => decide (s.live = true) && decide (p < 35) && decide (m < 2) && decide (pagePresent s.variant p = true) && decide (fixedOwner p = false) && decide (s.keyOk m p 0xC3A5 = true) && decide (s.pmpOk m (Folio.OWNER p) true = true))
      (put up [(Folio.LOCK_KEY 0, 0xC3A5),(Folio.LOCK_MASTER 0, 1)]) 1 0 0xFFFFFFFF) &&
    ((fun (s : State) (m : Nat) (p : Nat) (k : Nat) => decide (s.live = true) && decide (p < 35) && decide (m < 2 ∨ (m < 4 ∧ s.owns m p = true)) && decide (pagePresent s.variant p = true) && decide (s.pmpOk m (Folio.LOCK p) true = true))
      up 0 34 0x1C3A5) &&
    ((fun (s : State) (m : Nat) (p : Nat) (k : Nat) => decide (s.live = true) && decide (p < 35) && decide (m < 2 ∨ (m < 4 ∧ s.owns m p = true)) && decide (pagePresent s.variant p = true) && decide (s.pmpOk m (Folio.LOCK p) true = true))
      (put up [(⟨Folio.OWNER 3,4,0⟩,31)]) 3 3 5) &&
    ((fun (s : State) (p : Nat) => decide (s.live = true) && decide (p < 35))
      (put up [(Folio.LOCK_KEY 0, 0xC3A5),(Folio.LOCK_MASTER 0, 1)]) 0) &&
    ((fun (s : State) (m : Nat) (p : Nat) (v : Nat) => decide (s.live = true) && decide (p < 35) && decide (2 ≤ m) && decide (m < 4) && decide (pagePresent s.variant p = true))
      up 2 0 0x1F) &&
    ((fun (s : State) (m : Nat) (p : Nat) (v : Nat) => decide (s.live = true) && decide (p < 35) && decide (2 ≤ m) && decide (m < 4) && decide (pagePresent s.variant p = true))
      (put up [(Folio.LOCK_KEY 34, 0xC3A5),(Folio.LOCK_MASTER 34, 3)]) 3 34 0)) = true := by decide +kernel

/-- The conditions of the clauses of RegisterAndMemoryWrites are met together, each by the state and operands named. -/
theorem test_conditions_RegisterAndMemoryWrites_2 : (
    ((fun (s : State) (a : Nat) (w : Nat) (v : Nat) => decide (s.live = true) && decide (s.pmpOk 0 a true = false))
      ({up with cyc := {up.cyc with entry := some 3}}) 0x40001040 4 0x102) &&
    ((fun (s : State) (a : Nat) (w : Nat) (v : Nat) => decide (s.live = true) && decide (s.pmpOk 0 a true = false))
      ({up with cyc := {up.cyc with entry := some 3}}) 0x80000000 4 1) &&
    ((fun (s : State) (m : Nat) (a : Nat) => decide (s.live = true) && decide (readable m a = true) && decide (a % 4 = 0) && decide (inPages a = true) && decide (0x20 ≤ a % 0x1000) && decide (pagePresent s.variant (pageOf a) = true) && decide (¬ (pageOf a = Pg.CHN1 ∧ 0x60 ≤ a % 0x1000 ∧ a % 0x1000 ≤ 0x78)) && decide (¬ ((pageOf a = Pg.CAN0 ∨ pageOf a = Pg.CAN1) ∧ 0xE00 ≤ a % 0x1000 ∧ a % 0x1000 < 0xF40)) && decide (a ≠ Reg.LOOP_SEL_STATUS) && decide (a ≠ Reg.VOTE_SAMPLE_SEQ) && decide (a ∉ lowWords) && decide (s.latched m a = none) && decide (s.pmpOk m a false = true))
      (putR up [(0x40000058, 3)]) 0 0x40000058) &&
    ((fun (s : State) (m : Nat) (a : Nat) => decide (s.live = true) && decide (readable m a = true) && decide (a % 4 = 0) && decide (inPages a = true) && decide (0x20 ≤ a % 0x1000) && decide (pagePresent s.variant (pageOf a) = true) && decide (¬ (pageOf a = Pg.CHN1 ∧ 0x60 ≤ a % 0x1000 ∧ a % 0x1000 ≤ 0x78)) && decide (¬ ((pageOf a = Pg.CAN0 ∨ pageOf a = Pg.CAN1) ∧ 0xE00 ≤ a % 0x1000 ∧ a % 0x1000 < 0xF40)) && decide (a ≠ Reg.LOOP_SEL_STATUS) && decide (a ≠ Reg.VOTE_SAMPLE_SEQ) && decide (a ∉ lowWords) && decide (s.latched m a = none) && decide (s.pmpOk m a false = true))
      ({putR up [(0x40000058, 3)] with comp := {up.comp with occ := [(0x40000058, 2, 1)]}}) 3 0x40000058) &&
    ((fun (s : State) (m : Nat) => decide (s.live = true) && decide (m < 4) && decide (s.latched m Reg.VOTE_SAMPLE_SEQ = none) && decide (s.pmpOk m Reg.VOTE_SAMPLE_SEQ false = true))
      up 2) &&
    ((fun (s : State) (m : Nat) => decide (s.live = true) && decide (m < 4) && decide (s.latched m Reg.VOTE_SAMPLE_SEQ = none) && decide (s.pmpOk m Reg.VOTE_SAMPLE_SEQ false = true))
      (putR up [(Reg.VOTE_CUR_VOTED, 77)]) 3) &&
    ((fun (s : State) (m : Nat) (a : Nat) (w : Nat) => decide (s.live = true) && decide (m < 2) && decide (readable m (a / 4 * 4) = true) && decide (inPages (a / 4 * 4) = true) && decide (coreWidth a w = false) && decide (s.pmpOk m a false = true))
      up 0 0x40000040 2) &&
    ((fun (s : State) (m : Nat) (a : Nat) (w : Nat) => decide (s.live = true) && decide (m < 2) && decide (readable m (a / 4 * 4) = true) && decide (inPages (a / 4 * 4) = true) && decide (coreWidth a w = false) && decide (s.pmpOk m a false = true))
      up 1 0x40000042 4) &&
    ((fun (s : State) (m : Nat) (a : Nat) (w : Nat) => decide (s.live = true) && decide (m < 2) && decide (readable m (a / 4 * 4) = true) && decide (inPages (a / 4 * 4) = true) && decide (coreWidth a w = false) && decide (s.pmpOk m a false = true))
      up 0 0x40000040 8) &&
    ((fun (s : State) (m : Nat) (a : Nat) => decide (s.live = true) && decide (readable m a = true) && decide (a ∈ lowWords) && decide (pagePresent s.variant (pageOf a) = true) && decide (s.latched m a = none) && decide (s.pmpOk m a false = true))
      up 3 (Reg.TIME_NOW_LO)) &&
    ((fun (s : State) (m : Nat) (a : Nat) (v : Nat) => decide (s.live = true) && decide (readable m a = true) && decide (a % 4 = 0) && decide (inPages a = true) && decide (a ∉ voteRegs) && decide (pagePresent s.variant (pageOf a) = true) && decide (s.latched m a = some v) && decide (s.pmpOk m a false = true))
      ({up with acc := {up.acc with latches := [(1, Reg.TIME_NOW_LO + 4, 9)]}}) 1 (Reg.TIME_NOW_LO + 4) 9)) = true := by decide +kernel

/-- The conditions of the clauses of UartAndVraAccess are met together, each by the state and operands named. -/
theorem test_conditions_UartAndVraAccess_1 : (
    ((fun (s : State) (l : List Nat) (a : Nat) => decide (s.uartLive = true) && decide (l.length ≤ 32) && decide (l.take 2 = [82, 68]) && decide (hexWords 1 (l.drop 2) = some [a]) && decide (a % 4 = 0) && decide (subset60 a = true) && decide (pagePresent s.variant (pageOf a) = true) && decide (s.latched 5 a = none))
      up ([82, 68, 32] ++ hex8 Reg.MODE_STATE) (Reg.MODE_STATE)) &&
    ((fun (s : State) (l : List Nat) (a : Nat) => decide (s.uartLive = true) && decide (l.length ≤ 32) && decide (l.take 2 = [82, 68]) && decide (hexWords 1 (l.drop 2) = some [a]) && decide (a % 4 = 0) && decide (subset60 a = true) && decide (pagePresent s.variant (pageOf a) = true) && decide (s.latched 5 a = none))
      up ([82, 68, 32] ++ hex8 (Folio.LOCK 34)) (Folio.LOCK 34)) &&
    ((fun (s : State) (l : List Nat) => decide (s.uartLive = true) && decide (32 < l.length) && decide (l.take 2 ≠ [87, 82]))
      up ([82, 68] ++ List.replicate 31 32)) &&
    ((fun (s : State) (a : List Nat) (v : List Nat) (k : Nat) => decide (s.uartLive = true) && decide (s.owns 5 Pg.MODE = true) && decide (a.length + v.length ≤ 28) && decide (hexWords 2 ([32] ++ a ++ [32] ++ v) = some [Folio.LOCK Pg.MODE, k]))
      (put up [(⟨Folio.OWNER Pg.MODE,4,0⟩,31)]) (hex8 (Folio.LOCK Pg.MODE)) (hex8 0x13A7D) 0x13A7D) &&
    ((fun (s : State) (a : List Nat) (v : List Nat) => decide (s.uartLive = true) && decide (28 < a.length + v.length))
      up (List.replicate 9 48) (List.replicate 20 48)) &&
    ((fun (s : State) (id : Nat) => decide (s.live = true) && decide (s.acc.sessions.any (fun x => x.id == id) = true) && decide ((∀ x ∈ s.acc.sessions, x.id = id → x.cycle ≠ s.comp.cycle)))
      ({session 1 with comp := {up.comp with cycle := 8}}) 7) &&
    ((fun (s : State) (id : Nat) => decide (s.live = true) && decide (s.acc.sessions.any (fun x => x.id == id && x.cycle == s.comp.cycle) = true))
      (session 1) 7) &&
    ((fun (s : State) (ip : Nat) => decide (s.live = true))
      ({up with acc := {up.acc with blocked := [5,6]}}) 5) &&
    ((fun (s : State) (p : Nat) (ip : Nat) (sp : Nat) (b : List Nat) (x : VraSession) => decide (s.vraAccepts 5 p ip b x = true) && decide (beAt b 3 1 = 5))
      (session 1) 1 9 9 (vraBytes [1,2] 5 7 1 0 []) (⟨7, 1, [1,2], 0, [], [], 0⟩)) &&
    ((fun (s : State) (p : Nat) (ip : Nat) (sp : Nat) (b : List Nat) (x : VraSession) (a : Nat) => decide (s.vraAccepts 4 p ip b x = true) && decide (beAt b 3 1 = 3) && decide (vraOps (beAt b 12 2) ((vraMsg b).drop 16) = some [⟨1, 1, a, []⟩]) && decide (a % 4 = 0) && decide (inPages a = true) && decide (a % 0x1000 < 0x20) && decide (pagePresent s.variant (pageOf a) = true) && decide (s.latched 3 a = none))
      (session 1) 0 9 9 (vraBytes [1,2] 3 7 1 1 ([1, 0, 0, 1] ++ beBytes 4 0x40000004)) (⟨7, 1, [1,2], 0, [], [], 0⟩) 0x40000004) &&
    ((fun (s : State) (p : Nat) (ip : Nat) (sp : Nat) (b : List Nat) (k : List Nat) => decide (s.live = true) && decide (p < 2) && decide (bitOf (s.getReg Reg.SYS_VRA_CTL) 0 = true) && decide (ip ∉ s.acc.blocked) && decide (vraClass b = 1) && decide (1 ≤ beAt b 16 1) && decide (beAt b 16 1 ≤ 3) && decide (s.accessKey (beAt b 16 1 - 1) = some k) && decide (tagOk k b = true) && decide (vraFault b = 0) && decide (beAt b 14 2 = 20) && decide (s.acc.sessions.length < 8))
      keyed 0 9 9 (vraBytes [4] 1 0 0 0 ([2, 0, 0, 0] ++ List.replicate 16 3)) ([4])) &&
    ((fun (s : State) (p : Nat) (ip : Nat) (sp : Nat) (b : List Nat) (x : VraSession) (q : Nat) (v : Nat) => decide (s.vraAccepts 2 p ip b x = true) && decide (beAt b 3 1 = 3) && decide (vraOps (beAt b 12 2) ((vraMsg b).drop 16) = some [⟨2, 1, Folio.EVENT_EN q, [v]⟩]) && decide (q < 35) && decide (pagePresent s.variant q = true) && decide (s.owns 3 q = true) && decide (x.level = 3 ∨ (x.level = 2 ∧ q ≠ Pg.UPD)))
      (put (session 3) [(⟨Folio.OWNER 34,4,0⟩,31)]) 0 9 9 (vraBytes [1,2] 3 7 1 1 ([2, 0, 0, 1] ++ beBytes 4 0x40022010 ++ beBytes 4 0xFFFFFFFF)) (⟨7, 3, [1,2], 0, [], [], 0⟩) 34 0xFFFFFFFF)) = true := by decide +kernel

/-- The conditions of the clauses of UartAndVraAccess are met together, each by the state and operands named. -/
theorem test_conditions_UartAndVraAccess_2 : (
    ((fun (s : State) (p : Nat) (ip : Nat) (sp : Nat) (b : List Nat) (x : VraSession) (q : Nat) (k : Nat) (v : Nat) => decide (s.vraAccepts 3 p ip b x = true) && decide (beAt b 3 1 = 3) && decide (vraOps (beAt b 12 2) ((vraMsg b).drop 16) = some [⟨3, 1, Folio.EVENT_EN q, [k, v]⟩]) && decide (q < 35) && decide (pagePresent s.variant q = true) && decide (s.owns 3 q = true) && decide (x.level = 3 ∨ (x.level = 2 ∧ q ≠ Pg.UPD)))
      (put (session 2) [(⟨Folio.OWNER 5,4,0⟩,31)]) 0 9 9 (vraBytes [1,2] 3 7 1 1 ([3, 0, 0, 1] ++ beBytes 4 0x40005010 ++ beBytes 4 3 ++ beBytes 4 1)) (⟨7, 2, [1,2], 0, [], [], 0⟩) 5 3 1) &&
    ((fun (s : State) (m : Nat) (v : Nat) => decide (s.live = true) && decide (m < 4) && decide (s.owns m Pg.SYS = true) && decide (s.keyOk m Pg.SYS 0x6B19 = true) && decide (s.pmpOk m Reg.SYS_VRA_CTL true = true) && decide (v % 2 = 0))
      (put (session 2) [(⟨Folio.OWNER 0,4,0⟩,31),(Folio.LOCK_KEY 0, 0x6B19),(Folio.LOCK_MASTER 0, 3)]) 3 0) &&
    ((fun (s : State) (m : Nat) (v : Nat) => decide (s.live = true) && decide (m < 4) && decide (s.owns m Pg.SYS = true) && decide (s.keyOk m Pg.SYS 0x6B19 = true) && decide (s.pmpOk m Reg.SYS_VRA_CTL true = true) && decide (v % 2 = 1))
      (put (session 2) [(⟨Folio.OWNER 0,4,0⟩,31),(Folio.LOCK_KEY 0, 0x6B19),(Folio.LOCK_MASTER 0, 0)]) 0 1)) = true := by decide +kernel

/-- The conditions of the clauses of AssayRuns are met together, each by the state and operands named. -/
theorem test_conditions_AssayRuns_1 : (
    ((fun (s : State) (m : Nat) (b : Nat) (l : List Nat) => decide (s.permits m Reg.ASY_RUN_CTL = true) && decide (s.cur = Md.assay) && decide (s.getF Fld.ASY_RUN_STATUS_STATE ∈ [0, 5, 6]) && decide (s.pair = false ∨ s.holder = true) && decide (binsOf s.runMask = b :: l))
      (put up [(Fld.MODE_STATE_CURRENT, 4), (⟨Reg.ASY_BIN_EN_HI,31,0⟩, 0x80000004), (⟨Reg.SAFE_I_RATED,31,0⟩, 300000), (Fld.ASY_RUN_CTL_KIND, 1), (Fld.ASY_AMPL_AMPL, 2000)]) 0 63 ([34])) &&
    ((fun (s : State) (m : Nat) => decide (s.permits m Reg.ASY_RUN_CTL = true) && decide (s.cur ≠ Md.assay))
      (put up [(Fld.MODE_STATE_CURRENT, 3)]) 0) &&
    ((fun (s : State) (m : Nat) => decide (s.permits m Reg.ASY_RUN_CTL = true) && decide (s.asyRuns = true))
      (put up [(Fld.MODE_STATE_CURRENT, 4), (Fld.ASY_RUN_STATUS_STATE, 2)]) 0) &&
    ((fun (s : State) (m : Nat) => decide (s.permits m Reg.ASY_RUN_CTL = true) && decide (s.asyRuns = true) && decide (s.cur ≠ Md.assay))
      (put up [(Fld.MODE_STATE_CURRENT, 9), (Fld.ASY_RUN_STATUS_STATE, 3)]) 0) &&
    ((fun (s : State) => decide (s.live = true) && decide (s.getF Fld.ASY_RUN_STATUS_STATE = 1) && decide (s.mode.row = 0 ∨ (s.mode.row = 6 ∧ s.getF Fld.MODE_FUNC_STATE_BLEED ≠ 0)) && decide (s.getF Fld.MODE_FUNC_STATE_PERTURB = 1))
      ({put up [(Fld.ASY_RUN_STATUS_STATE, 1), (Fld.MODE_FUNC_STATE_PERTURB, 1), (Fld.MODE_FUNC_STATE_BLEED, 3)] with mode := {up.mode with row := 6}})) &&
    ((fun (s : State) (f : Fit) (j : Nat) (l : List Nat) => decide (s.live = true) && decide (s.variant = .F) && decide (s.asy.fit = some f) && decide (s.asy.bins = j :: l) && decide (s.getF Fld.ASY_RUN_STATUS_STATE = 2 ∨ s.getF Fld.ASY_RUN_STATUS_STATE = 3) && decide ((s.asyJudge f).1 ≠ 1) && decide (s.asy.tries = 1))
      ({put up [(Fld.ASY_RUN_STATUS_STATE, 2)] with asy := {up.asy with fit := some {Fit.empty 1 with curBad := true}, bins := [34, 33], tries := 1}}) ({Fit.empty 1 with curBad := true}) 34 ([33])) &&
    ((fun (s : State) (f : Fit) (j : Nat) (l : List Nat) => decide (s.live = true) && decide (s.variant = .F) && decide (s.asy.fit = some f) && decide (s.asy.bins = j :: l) && decide (s.getF Fld.ASY_RUN_STATUS_STATE = 2 ∨ s.getF Fld.ASY_RUN_STATUS_STATE = 3) && decide ((s.asyJudge f).1 = 1 ∨ s.asy.tries ≠ 1) && decide (l ≠ []))
      ({put up [(Fld.ASY_RUN_STATUS_STATE, 2)] with asy := {up.asy with fit := some {Fit.empty 1 with curBad := true}, bins := [34, 33], tries := 2}}) ({Fit.empty 1 with curBad := true}) 34 ([33])) &&
    ((fun (s : State) (f : Fit) (j : Nat) (l : List Nat) => decide (s.live = true) && decide (s.variant = .F) && decide (s.asy.fit = some f) && decide (s.asy.bins = j :: l) && decide (s.getF Fld.ASY_RUN_STATUS_STATE = 2 ∨ s.getF Fld.ASY_RUN_STATUS_STATE = 3) && decide ((s.asyJudge f).1 = 1 ∨ s.asy.tries ≠ 1) && decide (l = []))
      ({put up [(Fld.ASY_RUN_STATUS_STATE, 2)] with asy := {up.asy with fit := some (Fit.empty 1), bins := [34], tries := 1}}) (Fit.empty 1) 34 ([])) &&
    ((fun (s : State) => decide (s.live = true) && decide (s.variant = .F) && decide (s.asy.metricsDue = true))
      ({sweeping with asy := {sweeping.asy with metricsDue := true}})) &&
    ((fun (s : State) (j : Nat) => decide (s.live = true) && decide (s.asy.tempDue = some j))
      ({sweeping with asy := {sweeping.asy with tempDue := some 40}}) 40) &&
    ((fun (s : State) (m : Nat) (v : Nat) => decide (s.permitsKeyed m Reg.ASY_TCAL_CLR 0x6D2A = true) && decide (bitOf v 0 = true) && decide (s.asyRuns = false) && decide (s.asy.tcals.length = 2) && decide (s.asy.tcalAt < 2))
      ({put up [(Folio.LOCK_KEY Pg.ASY, 0x6D2A)] with asy := {up.asy with tcals := [[5], [6]], tcalAt := 1}}) 0 1) &&
    ((fun (s : State) (e : Nat) (l : List Int) => decide (s.live = true) && decide (s.pair = true) && decide (s.plnkOn = true) && decide (s.holder = false) && decide (s.getReg Reg.PAIR_EDITION = e) && decide (s.asy.tcals.length = 2) && decide (s.asy.tcalAt < 2))
      (plnkUp paired) 0 ([3, -4]))) = true := by decide +kernel

/-- The conditions of the clauses of AssayRuns are met together, each by the state and operands named. -/
theorem test_conditions_AssayRuns_2 : (
    ((fun (s : State) => decide (s.live = true) && decide (s.variant ≠ .C) && decide (s.drv.perturbMoving = true) && decide (s.getF Fld.ASY_RUN_STATUS_STATE = 4) && decide (s.getF Fld.MODE_FUNC_STATE_PERTURB ≠ 3) && decide (s.asy.endState < 8))
      ({put up [(Fld.ASY_RUN_STATUS_STATE, 4)] with drv := {up.drv with perturbMoving := true}, asy := {up.asy with endState := 6}})) &&
    ((fun (s : State) => decide (s.live = true) && decide (s.variant ≠ .C) && decide (s.drv.perturbMoving = false) && decide (s.getF Fld.MODE_FUNC_STATE_PERTURB = 3) && decide (s.mode.row = 0))
      (put up [(Fld.MODE_FUNC_STATE_PERTURB, 3), (Fld.MODE_STATE_CURRENT, 3)])) &&
    ((fun (s : State) => decide (s.live = true) && decide (s.variant = .F) && decide (s.drv.perturbMoving = true) && decide (s.asyRuns = true))
      ({put up [(Fld.ASY_RUN_STATUS_STATE, 2)] with drv := {up.drv with perturbMoving := true}}))) = true := by decide +kernel

/-- The conditions of the clauses of OpenWireTestsAndSuspects are met together, each by the state and operands named. -/
theorem test_conditions_OpenWireTestsAndSuspects : (
    ((fun (s : State) => decide (s.live = true) && decide (s.masters = true) && decide (s.bal.owtWanted = true) && decide (s.bal.owtRunning = false) && decide (s.owtAllowed = true) && decide (s.otherSeg = []) && decide (s.chainTx 0 = true) && decide (s.chainLoop 0 = false))
      ({sweeping with bal := {sweeping.bal with owtWanted := true}, regs := (put sweeping [(Fld.MODE_STATE_CURRENT, 2), (Fld.CHN_PORT_CTL_ENABLE 0, 1)]).regs})) &&
    ((fun (s : State) => decide (s.live = true) && decide (s.masters = true) && decide (s.bal.owtRunning = false) && decide (s.owtAllowed = false))
      sweeping) &&
    ((fun (s : State) => decide (s.live = true) && decide (s.masters = true) && decide (s.bal.owtRunning = false) && decide (s.owtAllowed = true))
      (put sweeping [(Fld.MODE_STATE_CURRENT, 2)])) &&
    ((fun (s : State) (m : Nat) => decide (s.permits m Reg.BAL_CTL = true) && decide (s.owtAllowed = false))
      sweeping 0) &&
    ((fun (s : State) (m : Nat) => decide (s.permits m Reg.BAL_CTL = true) && decide (s.owtAllowed = true))
      (put sweeping [(Fld.MODE_STATE_CURRENT, 2)]) 0) &&
    ((fun (s : State) => decide (s.live = true) && decide (s.bal.owtRunning = true) && decide ((∃ j ∈ s.allPos, (s.posAt j).owPass = false)) && decide (s.bal.owtServes = false))
      ({sweeping with bal := {sweeping.bal with owtRunning := true}})) &&
    ((fun (s : State) (m : Nat) (i : Nat) => decide (s.permitsKeyed m Reg.BAL_SUSPECT_CLR 0x8B3D = true) && decide (1 ≤ i) && decide (i ≤ s.nodes) && decide (i ≤ s.chain.pos.length) && decide (s.cur = Md.survey) && decide ((s.posAt i).clr = 0) && decide (s.arrivedNow (markKey i) = false))
      (put sweeping [(Fld.MODE_STATE_CURRENT, 2),(Folio.LOCK_KEY Pg.BAL, 0x8B3D)]) 0 2) &&
    ((fun (s : State) (m : Nat) (i : Nat) => decide (s.permitsKeyed m Reg.BAL_SUSPECT_CLR 0x8B3D = true) && decide ((s.posAt i).clr = 0) && decide (s.arrivedNow (markKey i) = true))
      ({put sweeping [(Fld.MODE_STATE_CURRENT, 2),(Folio.LOCK_KEY Pg.BAL, 0x8B3D)] with comp := {up.comp with occ := [(arrivalKey (markKey 2), 0, 1)]}}) 0 2) &&
    ((fun (s : State) (m : Nat) (i : Nat) => decide (s.permitsKeyed m Reg.BAL_SUSPECT_CLR 0x8B3D = true) && decide (i = 0 ∨ s.nodes < i ∨ s.cur ≠ Md.survey))
      (put sweeping [(Fld.MODE_STATE_CURRENT, 3),(Folio.LOCK_KEY Pg.BAL, 0x8B3D)]) 0 2) &&
    ((fun (s : State) (i : Nat) => decide (s.live = true) && decide ((s.posAt i).clr ≠ 0) && decide (s.cur ≠ Md.survey ∨ (s.posAt i).clr ≠ 3 ∨ (s.posAt i).clrProofs < 10))
      ({put sweeping [(Fld.MODE_STATE_CURRENT, 2)] with chain := {sweeping.chain with pos := [{Position.reset with clr := 3, clrProofs := 9, suspect := 3}]}}) 1) &&
    ((fun (s : State) (i : Nat) => decide (s.live = true) && decide ((s.posAt i).clr ≠ 0) && decide (s.cur ≠ Md.survey ∨ (s.posAt i).clr ≠ 3 ∨ (s.posAt i).clrProofs < 10))
      ({put sweeping [(Fld.MODE_STATE_CURRENT, 3)] with chain := {sweeping.chain with pos := [{Position.reset with clr := 3, clrProofs := 10}]}}) 1) &&
    ((fun (s : State) (i : Nat) => decide (s.live = true) && decide (s.cur = Md.survey) && decide ((s.posAt i).clr = 3) && decide (10 ≤ (s.posAt i).clrProofs))
      ({put sweeping [(Fld.MODE_STATE_CURRENT, 2)] with chain := {sweeping.chain with pos := [{Position.reset with suspect := 3, clr := 3, clrProofs := 10}]}}) 1)) = true := by decide +kernel

/-- The conditions of the clauses of FaultLoopAndBleeding are met together, each by the state and operands named. -/
theorem test_conditions_FaultLoopAndBleeding_1 : (
    ((fun (s : State) (i : Nat) (w : List Nat) => decide (s.live = true) && decide (s.pair = false) && decide (1 ≤ i) && decide (i ≤ s.nodes) && decide (i ≤ s.chain.pos.length) && decide (w = (s.recAt i).comp))
      ({sweeping with record := some { plain with positions := [{rec0 with comp := [1,2]}] }}) 1 ([1,2])) &&
    ((fun (s : State) (i : Nat) (w : List Nat) => decide (s.live = true) && decide (1 ≤ i) && decide (i ≤ s.nodes) && decide (i ≤ s.chain.pos.length) && decide (w ≠ (s.recAt i).comp) && decide ((s.posAt i).compAgain = false))
      ({sweeping with record := some { plain with positions := [{rec0 with comp := [1,2]}] }}) 1 ([1,3])) &&
    ((fun (s : State) (i : Nat) (w : List Nat) => decide (s.live = true) && decide (1 ≤ i) && decide (i ≤ s.nodes) && decide (i ≤ s.chain.pos.length) && decide (w ≠ (s.recAt i).comp) && decide ((s.posAt i).compAgain = true))
      ({sweeping with record := some { plain with positions := [{rec0 with comp := [1,2]}] }, chain := {sweeping.chain with pos := [{ Position.reset with compAgain := true }]}}) 1 ([1,3])) &&
    ((fun (s : State) (a : Nat) => decide (s.live = true) && decide (a < 200) && decide (s.arrivedNow toneKey = false) && decide (s.causeOn 0x01 = false))
      sweeping 199) &&
    ((fun (s : State) (a : Nat) => decide (s.live = true) && decide (s.arrivedNow toneKey = true))
      ({sweeping with comp := {up.comp with occ := [(arrivalKey toneKey, 0, 1)]}}) 100) &&
    ((fun (s : State) (a : Nat) => decide (s.phase = .dormant))
      asleep 0) &&
    ((fun (s : State) (a : Nat) => decide (s.live = true))
      (put sweeping [(causeBit 0x01, 1)]) 500) &&
    ((fun (s : State) (a : Nat) => decide (s.live = true))
      paired 399) &&
    ((fun (s : State) (a : Nat) => decide (s.live = true))
      paired 600) &&
    ((fun (s : State) => decide (s.live = true) && decide (s.masters = true) && decide (s.getF Fld.CHN0_SCHED_SCHED = 1 ∨ s.getF Fld.CHN0_SCHED_SCHED = 2) && decide (s.chain.owtPeriod = false) && decide (s.flag Fld.BAL_CTL_ENABLE = false) && decide (s.chainTx 0 = true) && decide (s.chainLoop 0 = false) && decide (s.otherSeg = []) && decide (s.ownSeg ≠ []) && decide (s.chain.pos.length = s.nodes) && decide (s.cur ≠ Md.dispatch) && decide (s.cur ≠ Md.starting))
      (put sweeping [(Fld.CHN_PORT_CTL_ENABLE 0, 1), (Fld.MODE_STATE_CURRENT, 2)])) &&
    ((fun (s : State) (l : Bool) => decide (s.live = true) && decide (s.masters = true) && decide (s.chain.owtPeriod = true))
      ({sweeping with chain := {sweeping.chain with owtPeriod := true}}) false) &&
    ((fun (s : State) (m : Nat) => decide (s.permits m Reg.BAL_PLAN_COMMIT = true))
      ({sweeping with bal := {sweeping.bal with staged := [0x32000003]}}) 0)) = true := by decide +kernel

/-- The conditions of the clauses of FaultLoopAndBleeding are met together, each by the state and operands named. -/
theorem test_conditions_FaultLoopAndBleeding_2 : (
    ((fun (s : State) (m : Nat) => decide (s.permits m Reg.BAL_PLAN_COMMIT = true))
      ({sweeping with bal := {sweeping.bal with staged := [0x32000003]}}) 0)) = true := by decide +kernel

/-- The conditions of the clauses of CanFramesAndErrors are met together, each by the state and operands named. -/
theorem test_conditions_CanFramesAndErrors_1 : (
    ((fun (s : State) (n : Nat) (m : Nat) (v : Nat) (b : Nat) => decide (s.permits m (Reg.CAN_TXB_REQ n) = true) && decide (n < 2) && decide (b < 24) && decide (v % 2 ^ 24 = 2 ^ b) && decide (v < 2 ^ 24) && decide (bitOf (s.txWord n b 1) 8 = false))
      canUp 0 0 8 3) &&
    ((fun (s : State) (n : Nat) (m : Nat) (v : Nat) (b : Nat) => decide (s.permits m (Reg.CAN_TXB_REQ n) = true) && decide (n < 2) && decide (b < 24) && decide (v % 2 ^ 24 = 2 ^ b))
      (putR canUp [(Reg.CAN_TXB 1 0 + 4, 0x1100)]) 1 0 1 0) &&
    ((fun (s : State) (n : Nat) (m : Nat) (v : Nat) (b : Nat) => decide (s.permits m (Reg.CAN_TXB_REQ n) = true) && decide (n < 2) && decide (b < 24) && decide (v % 2 ^ 24 = 2 ^ b) && decide (2 ^ 24 ≤ v % 2 ^ 32))
      canUp 0 0 0x1800000 23) &&
    ((fun (s : State) (n : Nat) (m : Nat) (v : Nat) => decide (s.permits m (Reg.CAN_TXB_CANCEL n) = true))
      canTx 0 0 0xFFFFFFFF) &&
    ((fun (s : State) (n : Nat) (m : Nat) (v : Nat) => decide (s.permits m (Reg.CAN_TXB_CANCEL n) = true))
      (putR canTx [(Reg.CAN_TXB_PEND 0, 0x80000008)]) 0 0 0x80000008) &&
    ((fun (s : State) (n : Nat) (b : Nat) => decide (s.live = true) && decide (n < 2) && decide (s.can.length = 2) && decide (b < 32) && decide (s.txPend n b = true) && decide (bitOf (s.txWord n b 1) 8 = true) && decide (bitOf (s.canU n).due b = false) && decide (s.future (s.txWord n b 2) = false) && decide (s.sinceLaunch (s.txWord n b 2) ≤ 4))
      (putR {canTx with time := {canTx.time with now := 50}} [(Reg.CAN_TXB 0 3 + 4, 0x102), (Reg.CAN_TXB 0 3 + 8, 48)]) 0 3) &&
    ((fun (s : State) (n : Nat) (b : Nat) => decide (s.live = true) && decide (n < 2) && decide (s.can.length = 2) && decide (b < 32) && decide (s.txPend n b = true) && decide (bitOf (s.txWord n b 1) 8 = true) && decide (bitOf (s.canU n).due b = false) && decide (s.future (s.txWord n b 2) = false) && decide (4 < s.sinceLaunch (s.txWord n b 2)))
      (putR {canTx with time := {canTx.time with now := 500}} [(Reg.CAN_TXB 0 3 + 4, 0x302), (Reg.CAN_TXB 0 3 + 8, 48)]) 0 3) &&
    ((fun (s : State) (n : Nat) (b : Nat) => decide (s.live = true) && decide (n < 2) && decide (s.can.length = 2) && decide (b < 32) && decide (s.txPend n b = true) && decide (bitOf (s.txWord n b 1) 8 = true) && decide (bitOf (s.txWord n b 1) 12 = false) && decide (1000 * (s.getReg (Reg.CAN_LATE_WIN_US n) % 65536 : Nat) ≤ s.sinceLaunch (s.txWord n b 2)) && decide (bitOf (s.txWord n b 1) 9 = false))
      (putR {canTx with time := {canTx.time with now := 5000000}} [(Reg.CAN_TXB 0 3 + 4, 0x102), (Reg.CAN_TXB 0 3 + 8, 48), (Reg.CAN_LATE_WIN_US 0, 100)]) 0 3) &&
    ((fun (s : State) (n : Nat) (b : Nat) => decide (s.live = true) && decide (n < 2) && decide (s.can.length = 2) && decide (b < 32) && decide (s.txPend n b = true) && decide (bitOf (s.txWord n b 1) 8 = true) && decide (bitOf (s.txWord n b 1) 12 = false) && decide (1000 * (s.getReg (Reg.CAN_LATE_WIN_US n) % 65536 : Nat) ≤ s.sinceLaunch (s.txWord n b 2)))
      (putR {canTx with time := {canTx.time with now := 5000000}} [(Reg.CAN_TXB 0 3 + 4, 0x302), (Reg.CAN_TXB 0 3 + 8, 48), (Reg.CAN_LATE_WIN_US 0, 100)]) 0 3) &&
    ((fun (s : State) (n : Nat) (b : Nat) (f : Nat) => decide (s.live = true) && decide (n < 2) && decide (s.can.length = 2) && decide (s.canMode n = 1) && decide (s.canErr n < 3) && decide (s.winner n = some b) && decide (b ≠ 31) && decide (s.getF (Fld.CAN_ERR_TEC n) ≤ 96) && decide (s.getF (Fld.CAN_ERR_REC n) < 96))
      canTx 0 3 777) &&
    ((fun (s : State) (n : Nat) (b : Nat) (f : Nat) => decide (s.live = true) && decide (n < 2) && decide (s.can.length = 2) && decide (s.canMode n = 1) && decide (s.canErr n < 3) && decide (s.winner n = some b) && decide (b ≠ 31) && decide (s.getF (Fld.CAN_ERR_TEC n) ≤ 96) && decide (s.getF (Fld.CAN_ERR_REC n) < 96) && decide (bitOf (s.txWord n b 1) 11 = true))
      (putR canTx [(Reg.CAN_TXB 0 3 + 4, 0x802)]) 0 3 777) &&
    ((fun (s : State) (n : Nat) (f : CanFrame) => decide (s.live = true) && decide (n < 2) && decide (s.can.length = 2) && decide ((s.canU n).rxq.length = 4) && decide (s.canMode n = 1) && decide (s.canErr n < 3) && decide (s.getF (Fld.CAN_ERR_REC n) = 0) && decide (s.arrivedNow (ackHeadKey n 0) = false) && decide (s.arrivedNow (ackEmptyKey n 0) = false) && decide (f.xtd = false) && decide (f.rtr = false) && decide (0x200 ≤ f.id) && decide (f.id < 0x400) && decide (s.flag (Fld.CAN_TREF_CTL_SLAVE n) = false) && decide (s.getReg (Reg.FLT_SPAN0 + 4 * n) = 0) && decide (s.getF (if n = 0 then Fld.FLT_GLOBAL_NOMATCH0 else Fld.FLT_GLOBAL_NOMATCH1) = 1) && decide ((s.queue n 0).entries.length < s.getF (Fld.CAN_RXQ_CFG_DEPTH n 0)))
      canUp 0 cf0)) = true := by decide +kernel

/-- The conditions of the clauses of CanFramesAndErrors are met together, each by the state and operands named. -/
theorem test_conditions_CanFramesAndErrors_2 : (
    ((fun (s : State) (n : Nat) (f : CanFrame) => decide (s.live = true) && decide (n < 2) && decide (s.can.length = 2) && decide ((s.canU n).rxq.length = 4) && decide (s.canMode n = 1) && decide (s.canErr n < 3) && decide (s.getF (Fld.CAN_ERR_REC n) = 0) && decide (s.arrivedNow (ackHeadKey n 0) = false) && decide (s.arrivedNow (ackEmptyKey n 0) = false) && decide (f.xtd = false) && decide (f.rtr = false) && decide (0x200 ≤ f.id) && decide (f.id < 0x400) && decide (s.flag (Fld.CAN_TREF_CTL_SLAVE n) = false) && decide (s.getReg (Reg.FLT_SPAN0 + 4 * n) = 0) && decide (s.getF (if n = 0 then Fld.FLT_GLOBAL_NOMATCH0 else Fld.FLT_GLOBAL_NOMATCH1) = 1) && decide (s.getF (Fld.CAN_RXQ_CFG_DEPTH n 0) ≤ (s.queue n 0).entries.length))
      (put canUp [(Fld.CAN_RXQ_CFG_DEPTH 0 0, 0)]) 0 cf0) &&
    ((fun (s : State) (n : Nat) (a : Nat) (b : Nat) (k : Nat) => decide (s.live = true) && decide (n < 2) && decide (s.canMode n = 1) && decide (s.canErr n < 3) && decide (k ≠ 0) && decide (k ≠ 7) && decide (s.flag (Fld.CAN_CTL_BUSOFF_AUTO n) = false))
      (put canTx [(Fld.CAN_CTL_BUSOFF_AUTO 0, 0)]) 0 8 0 3) &&
    ((fun (s : State) (n : Nat) (a : Nat) (b : Nat) (k : Nat) => decide (s.live = true) && decide (n < 2) && decide (s.canMode n = 1) && decide (s.canErr n < 3) && decide (k ≠ 0) && decide (k ≠ 7) && decide (s.flag (Fld.CAN_CTL_BUSOFF_AUTO n) = false) && decide (255 < s.getF (Fld.CAN_ERR_TEC n) + a))
      (put canTx [(Fld.CAN_CTL_BUSOFF_AUTO 0, 0), (Fld.CAN_ERR_TEC 0, 250)]) 0 8 0 9) &&
    ((fun (s : State) (n : Nat) (a : Nat) (b : Nat) (k : Nat) => decide (s.live = true) && decide (n < 2) && decide (s.canMode n = 1) && decide (s.canErr n < 3) && decide (k ≠ 0) && decide (k ≠ 7) && decide (s.flag (Fld.CAN_CTL_BUSOFF_AUTO n) = false) && decide (s.getF (Fld.CAN_ERR_TEC n) < 96) && decide (s.getF (Fld.CAN_ERR_REC n) < 96) && decide (96 ≤ s.getF (Fld.CAN_ERR_TEC n) + a))
      (put canTx [(Fld.CAN_CTL_BUSOFF_AUTO 0, 0), (Fld.CAN_ERR_TEC 0, 90)]) 0 8 0 1) &&
    ((fun (s : State) (n : Nat) (a : Nat) (b : Nat) (k : Nat) (i : Nat) => decide (s.live = true) && decide (n < 2) && decide (i < 32) && decide (s.canMode n = 1) && decide (s.canErr n < 3) && decide (k ≠ 0) && decide (k ≠ 7) && decide (s.txPend n i = true) && decide (bitOf (s.txWord n i 1) 10 = false) && decide (bitOf (s.canU n).bitErr i = true) && decide (s.arrivedNow (rearmKey n i) = false) && decide (s.getF (Fld.CAN_ERR_TEC n) + a < 256))
      ({canTx with can := canTx.can.map (fun u => {u with bitErr := 8})}) 0 8 0 3 3) &&
    ((fun (s : State) (n : Nat) (a : Nat) (b : Nat) (i : Option Nat) (d : Bool) => decide (s.live = true) && decide (n < 2) && decide (s.canMode n ≠ 0) && decide (s.canErr n < 3))
      canTx 1 8 0 none true)) = true := by decide +kernel

/-- The conditions of the clauses of CanModesQueuesAndFilters are met together, each by the state and operands named. -/
theorem test_conditions_CanModesQueuesAndFilters_1 : (
    ((fun (s : State) (n : Nat) (m : Nat) => decide (s.permits m (Reg.CAN_CTL n) = true) && decide (s.canErr n = 3))
      (put canUp [(Fld.CAN_ERR_STATE 1, 3)]) 1 0) &&
    ((fun (s : State) (n : Nat) (m : Nat) => decide (s.permits m (Reg.CAN_CTL n) = true) && decide (s.canErr n ≠ 3))
      canUp 1 0) &&
    ((fun (s : State) (n : Nat) => decide (s.live = true) && decide (n < 2) && decide (s.canErr n = 4))
      (put canUp [(Fld.CAN_ERR_STATE 1, 4), (Fld.CAN_ERR_TEC 1, 255)]) 1) &&
    ((fun (s : State) (n : Nat) (m : Nat) (k : Nat) => decide (s.permits m (Reg.CAN_CTL n) = true) && decide (k < 4) && decide (s.canMode n ≠ 0))
      canUp 0 0 3) &&
    ((fun (s : State) (n : Nat) (m : Nat) (k : Nat) => decide (s.permits m (Reg.CAN_CTL n) = true) && decide (k < 4) && decide (s.canMode n ≠ 0))
      canUp 0 0 0) &&
    ((fun (s : State) (n : Nat) (m : Nat) (k : Nat) => decide (s.permits m (Reg.CAN_CTL n) = true) && decide (k < 5) && decide (k ≠ s.canMode n) && decide ((k = 4 ∧ s.power ≠ 0) ∨ (s.canMode n = 0 ∧ s.timingOk n = false)))
      (put canUp [(Fld.CAN_CTL_MODE 0, 0), (Fld.CAN_NBT_BRP 0, 0)]) 0 0 1) &&
    ((fun (s : State) (n : Nat) (m : Nat) (k : Nat) => decide (s.permits m (Reg.CAN_CTL n) = true) && decide (k < 5) && decide (k ≠ s.canMode n) && decide ((k = 4 ∧ s.power ≠ 0) ∨ (s.canMode n = 0 ∧ s.timingOk n = false)))
      (put canUp [(Fld.MODE_FUNC_STATE_POWER, 2)]) 0 0 4) &&
    ((fun (s : State) (n : Nat) => decide (s.live = true) && decide (n < 2) && decide (s.speaker = true) && decide (s.addr ≠ 0) && decide (bitOf (s.getReg (Reg.CAN_AUTO_EN n)) 1 = true))
      (putR canUp [(Reg.CAN_AUTO_EN 0, 2)]) 0) &&
    ((fun (s : State) (n : Nat) => decide (s.live = true) && decide (n < 2) && decide (s.speaker = true) && decide (s.addr ≠ 0) && decide (bitOf (s.getReg (Reg.CAN_AUTO_EN n)) 1 = true))
      (putR canUp [(Reg.CAN_AUTO_EN 1, 2)]) 1) &&
    ((fun (s : State) (p : Nat) (fn : Nat) => decide (s.speaker = false ∨ (p < 2 ∧ fn = 2 ∧ bitOf (s.getReg (Reg.CAN_AUTO_EN p)) 1 = false)))
      (putR canUp [(Reg.CAN_AUTO_EN 0, 0)]) 0 2) &&
    ((fun (s : State) (p : Nat) (fn : Nat) => decide (s.speaker = false ∨ (p < 2 ∧ fn = 2 ∧ bitOf (s.getReg (Reg.CAN_AUTO_EN p)) 1 = false)))
      ({stby with pairU := {stby.pairU with partnerState := 3}}) 1 5) &&
    ((fun (s : State) (n : Nat) => decide (s.live = true) && decide (n < 2) && decide (s.can.length = 2) && decide (s.flag (Fld.CAN_TREF_CTL_MASTER n) = true) && decide (s.getF (Fld.CAN_TREF_CTL_PERIOD_MS n) ≠ 0) && decide (s.addr ≠ 0) && decide (s.flag (Fld.CAN_CTL_FD_EN n) = true))
      (put canUp [(Fld.CAN_TREF_CTL_MASTER 0, 1), (Fld.CAN_TREF_CTL_PERIOD_MS 0, 10)]) 0)) = true := by decide +kernel

/-- The conditions of the clauses of CanModesQueuesAndFilters are met together, each by the state and operands named. -/
theorem test_conditions_CanModesQueuesAndFilters_2 : (
    ((fun (s : State) (n : Nat) (u : Nat) => decide (s.live = true) && decide (n < 2) && decide ((s.canU n).trefNs = some u) && decide (s.flag (Fld.CAN_TREF_CTL_SLAVE n) = true) && decide (u + 3000000 * s.getF (Fld.CAN_TREF_CTL_PERIOD_MS n) ≤ s.localNs))
      (put {canUp with can := canUp.can.map (fun u => {u with trefNs := some 0}), ticks := 100000000} [(Fld.CAN_TREF_CTL_SLAVE 1, 1), (Fld.CAN_TREF_CTL_PERIOD_MS 1, 10)]) 1 0) &&
    ((fun (s : State) (n : Nat) (m : Nat) (v : Nat) (q : Nat) => decide (s.permits m (Reg.CAN_RXQ_ACK n) = true) && decide (n < 2) && decide (s.can.length = 2) && decide ((s.canU n).rxq.length = 4) && decide (q < 4) && decide (v = 2 ^ q) && decide (s.flag (Fld.CAN_RXQ_CFG_LAST_WORD n q) = false) && decide ((s.queue n q).entries ≠ []))
      ({canUp with can := canUp.can.map (fun u => {u with rxq := [⟨[entryOf cf0 1 false, entryOf cf0 2 false], none, false⟩, ⟨[], none, false⟩, ⟨[], none, false⟩, ⟨[], none, false⟩]})}) 0 0 1 0) &&
    ((fun (s : State) (n : Nat) (m : Nat) (q : Nat) (k : Nat) => decide (s.live = true) && decide (n < 2) && decide (q < 4) && decide (k < 20) && decide (s.flag (Fld.CAN_RXQ_CFG_LAST_WORD n q) = false))
      canUp 0 0 0 0) &&
    ((fun (s : State) (n : Nat) (m : Nat) (q : Nat) (k : Nat) => decide (s.live = true) && decide (n < 2) && decide (q < 4) && decide (k < 20) && decide (s.flag (Fld.CAN_RXQ_CFG_LAST_WORD n q) = false))
      ({put canUp [(Fld.CAN_RXQ_CFG_LAST_WORD 0 0, 0)] with can := canUp.can.map (fun u => {u with rxq := [⟨[entryOf cf0 1 false, entryOf cf0 2 false], none, false⟩, ⟨[], none, false⟩, ⟨[], none, false⟩, ⟨[], none, false⟩]})}) 0 2 0 4) &&
    ((fun (s : State) (n : Nat) (m : Nat) (q : Nat) (e : RxEntry) (a : Nat) => decide (s.live = true) && decide (n < 2) && decide (s.can.length = 2) && decide ((s.canU n).rxq.length = 4) && decide (q < 4) && decide (s.flag (Fld.CAN_RXQ_CFG_LAST_WORD n q) = true) && decide ((s.queue n q).entries.head? = some e) && decide ((s.queue n q).lock = some (m, a)) && decide (e.data.length ≤ 64))
      ({put canUp [(Fld.CAN_RXQ_CFG_LAST_WORD 0 0, 1)] with can := canUp.can.map (fun u => {u with rxq := [⟨[entryOf cf0 1 false], some (2, 0), false⟩, ⟨[], none, false⟩, ⟨[], none, false⟩, ⟨[], none, false⟩]})}) 0 2 0 (entryOf cf0 1 false) 0) &&
    ((fun (s : State) (n : Nat) (q : Nat) (m : Nat) (u : Nat) => decide (s.live = true) && decide ((s.queue n q).lock = some (m, u)) && decide (u + 10000000 ≤ s.localNs) && decide (n < s.can.length) && decide (q < (s.canU n).rxq.length))
      ({canUp with ticks := 2500000, can := canUp.can.map (fun u => {u with rxq := [⟨[entryOf cf0 1 false], some (2, 0), false⟩, ⟨[], none, false⟩, ⟨[], none, false⟩, ⟨[], none, false⟩]})}) 0 0 2 0) &&
    ((fun (s : State) (m : Nat) (e : Nat) (w : Nat) => decide (s.live = true) && decide (s.userStore m Pg.FLT = false) && decide (s.writeStatus m (elemAddr e) Pg.FLT = St.ok) && decide (e < 4096) && decide (bitsOf (s.fltHeld.get e).toNat 31 29 < 5))
      ({up with fltHeld := [(511, 0x80000123)]}) 0 511 0xC0000321) &&
    ((fun (s : State) (m : Nat) (e : Nat) (w : Nat) => decide (s.live = true) && decide (s.userStore m Pg.FLT = false) && decide (s.writeStatus m (elemAddr e) Pg.FLT = St.ok) && decide (e < 4096) && decide (5 ≤ bitsOf (s.fltHeld.get e).toNat 31 29))
      ({up with fltHeld := [(0, 0xA0000123)]}) 0 0 0x40000321)) = true := by decide +kernel

/-- The conditions of the clauses of ChainLinksAndSweeps are met together, each by the state and operands named. -/
theorem test_conditions_ChainLinksAndSweeps_1 : (
    ((fun (s : State) (p : Nat) => decide (s.live = true) && decide (p < 2))
      up 0) &&
    ((fun (s : State) (p : Nat) => decide (s.live = true) && decide (p < 2))
      (sending up) 1) &&
    ((fun (s : State) (p : Nat) => decide (s.live = true) && decide (p < 2))
      up 0) &&
    ((fun (s : State) (p : Nat) => decide (s.live = true) && decide (p < 2))
      sweeping 1) &&
    ((fun (s : State) => decide (s.live = true) && decide (s.masters = true) && decide (s.wantSched ≠ 0) && decide (s.wantSched ≠ 4) && decide (s.pairU.loopN = false) && decide (s.chain.healed = []) && decide (s.breaks = []) && decide (s.portSends 0 = true))
      (sending sweeping)) &&
    ((fun (s : State) => decide (s.live = true) && decide (s.pair = false) && decide (s.masters = true) && decide (s.wantSched = 1) && decide (s.pairU.loopN = false) && decide (s.chain.healed = []) && decide (s.breaks ≠ []) && decide (s.asyRuns = false) && decide (s.portSends 0 = true) && decide (s.portSends 1 = true))
      (sending (split2 sweeping))) &&
    ((fun (s : State) (r : Relay) => decide (s.live = true) && decide (s.masters = false) && decide (s.chain.relay = some r) && decide (r.trig = false) && decide (s.portSends 0 = true))
      (sending {stby with chain := {stby.chain with relay := some ⟨5, 64, 1000, 2000, false⟩}}) (⟨5, 64, 1000, 2000, false⟩)) &&
    ((fun (s : State) (w : Sweep) (l : List Sweep) (i : Nat) (is : List Nat) => decide (s.live = true) && decide (s.masters = true) && decide (s.chain.sweeps = w :: l) && decide (w.withTemps = false) && decide (s.ownSeg = i :: is) && decide (s.portSends 0 = true))
      (sending {sweeping with chain := {sweeping.chain with sweeps := [aSweep 5]}}) (aSweep 5) ([]) 1 ([2])) &&
    ((fun (s : State) (w : Sweep) (l : List Sweep) (i : Nat) (is : List Nat) => decide (s.live = true) && decide (s.pair = false) && decide (s.masters = true) && decide (s.chain.sweeps = w :: l) && decide (w.withTemps = false) && decide (s.otherSeg = i :: is) && decide (s.portSends 1 = true))
      (sending (split2 {sweeping with chain := {sweeping.chain with sweeps := [aSweep 5]}})) (aSweep 5) ([]) 2 ([])) &&
    ((fun (s : State) (i : Nat) (is : List Nat) => decide (s.live = true) && decide (s.masters = true) && decide (s.chain.sweeps = []) && decide (s.getF Fld.CHN0_SCHED_SCHED = 2) && decide (s.bal.owtRunning = false) && decide (s.ownSeg = i :: is) && decide (s.portSends 0 = true))
      (put (sending sweeping) [(Fld.CHN0_SCHED_SCHED, 2)]) 1 ([2])) &&
    ((fun (s : State) (r : Relay) (i : Nat) (is : List Nat) => decide (s.live = true) && decide (s.masters = false) && decide (s.chain.relay = some r) && decide (r.ctrl < 64) && decide (s.ownSeg = i :: is) && decide (s.portSends 0 = true))
      (sending {stby with chain := {stby.chain with relay := some ⟨5, 0, 1000, 2000, true⟩}}) (⟨5, 0, 1000, 2000, true⟩) 1 ([2])) &&
    ((fun (s : State) (m : SlotMsg) (w : Sweep) => decide (s.live = true) && decide (s.masters = true) && decide (slotOk m = true) && decide (m.kind = 1 ∨ m.kind = 2) && decide (1 ≤ m.pos) && decide (m.pos ≤ s.nodes) && decide (m.pos ≤ s.chain.pos.length) && decide (s.chain.sweeps = [w]) && decide (w.num = m.sweep) && decide (w.withTemps = false) && decide (w.closedTo m.pos = false) && decide (bitOf (be16 m.bytes 2) 14 = false) && decide ((s.posAt m.pos).state = 2) && decide ((∃ j ∈ s.allPos, j ≠ m.pos ∧ j ∉ w.got)))
      ({sweeping with chain := {sweeping.chain with sweeps := [aSweep 5]}}) (slotOf 1) (aSweep 5))) = true := by decide +kernel

/-- The conditions of the clauses of ChainLinksAndSweeps are met together, each by the state and operands named. -/
theorem test_conditions_ChainLinksAndSweeps_2 : (
    ((fun (s : State) (m : SlotMsg) (w : Sweep) => decide (s.live = true) && decide (s.masters = true) && decide (slotOk m = true) && decide (m.kind = 1 ∨ m.kind = 2) && decide (1 ≤ m.pos) && decide (m.pos ≤ s.nodes) && decide (m.pos ≤ s.chain.pos.length) && decide (s.chain.sweeps = [w]) && decide (w.num = m.sweep) && decide (w.withTemps = false) && decide (w.closedTo m.pos = false) && decide (bitOf (be16 m.bytes 2) 14 = false) && decide ((s.posAt m.pos).state = 2) && decide ((∀ j ∈ s.allPos, j = m.pos ∨ j ∈ w.got)))
      ({sweeping with chain := {sweeping.chain with sweeps := [{aSweep 5 with got := [2]}]}}) (slotOf 1) ({aSweep 5 with got := [2]})) &&
    ((fun (s : State) (m : SlotMsg) => decide (s.live = true) && decide (s.pair = false ∨ s.masters = true) && decide (slotOk m = false) && decide (1 ≤ m.pos) && decide (m.pos ≤ s.chain.pos.length) && decide (m.port < 2) && decide (m.lineErrs = 0) && decide (m.last = false))
      sweeping ({slotOf 1 with headerOk := false})) &&
    ((fun (s : State) (m : SlotMsg) => decide (s.live = true) && decide (s.pair = false ∨ s.masters = true) && decide (m.pos = 0) && decide (m.port < 2) && decide (m.last = true) && decide (m.crcOk = false) && decide (m.lineErrs ≠ 0))
      sweeping ({slotOf 1 with headerOk := false, pos := 0, lineErrs := 2, last := true, crcOk := false})) &&
    ((fun (s : State) (w : Sweep) => decide (s.live = true) && decide (s.chain.sweeps.find? (fun x => x.num == w.num) = some w) && decide (w.other = []) && decide ((∃ j ∈ s.allPos, j ∉ w.got)))
      ({sweeping with chain := {sweeping.chain with sweeps := [aSweep 6, aSweep 5]}}) (aSweep 5)) &&
    ((fun (s : State) (w : Sweep) => decide (s.live = true) && decide (s.chain.sweeps.find? (fun x => x.num == w.num) = some w) && decide (w.other = []))
      ({sweeping with chain := {sweeping.chain with sweeps := [{aSweep 5 with got := [2,1]}]}}) ({aSweep 5 with got := [2,1]})) &&
    ((fun (s : State) (w : Sweep) => decide (s.live = true) && decide (s.chain.sweeps.find? (fun x => x.num == w.num) = some w) && decide (w.other ≠ []) && decide (w.deadOther = false))
      ({sweeping with chain := {sweeping.chain with sweeps := [{aSweep 5 with other := [2]}]}}) ({aSweep 5 with other := [2]})) &&
    ((fun (s : State) (n : Nat) (o : Bool) => decide (s.chain.sweeps.find? (fun x => x.num == n) = none))
      sweeping 5 true)) = true := by decide +kernel

/-- The conditions of the clauses of ChainAlarmsAndMastering are met together, each by the state and operands named. -/
theorem test_conditions_ChainAlarmsAndMastering_1 : (
    ((fun (s : State) (i : Nat) => decide (s.live = true) && decide (s.sampling = true) && decide (1 ≤ i) && decide (i ≤ s.nodes) && decide (i ≤ s.chain.pos.length) && decide (i ≤ 64) && decide ((s.posAt i).state = 2) && decide (s.mapGet Reg.NODE_UNHEARD_LO i = false) && decide (s.arrivedNow (heardKey i) = false))
      sweeping 1) &&
    ((fun (s : State) (i : Nat) => decide (s.live = true) && decide (s.sampling = true) && decide (1 ≤ i) && decide (i ≤ s.nodes) && decide (i ≤ s.chain.pos.length) && decide (i ≤ 64) && decide ((s.posAt i).state = 2) && decide (s.mapGet Reg.NODE_UNHEARD_LO i = false) && decide (s.arrivedNow (heardKey i) = false))
      sweeping 2) &&
    ((fun (s : State) (i : Nat) => decide (s.arrivedNow (heardKey i) = true))
      ({sweeping with comp := {up.comp with occ := [(arrivalKey (heardKey 2), 0, 1)]}}) 2) &&
    ((fun (s : State) (p : Nat) (i : Nat) (c : Nat) (k : Nat) (ns : Nat) => decide (s.live = true) && decide (p < 2) && decide (k = i ^^^ c ^^^ 0xA5) && decide (c = 0 ∨ 8 < c))
      sweeping 0 1 9 0xAD 5) &&
    ((fun (s : State) (p : Nat) (i : Nat) (c : Nat) (k : Nat) (ns : Nat) => decide (s.live = true) && decide (p < 2) && decide (k = i ^^^ c ^^^ 0xA5))
      sweeping 1 2 0 0xA7 5) &&
    ((fun (s : State) (p : Nat) (i : Nat) (c : Nat) (k : Nat) (ns : Nat) => decide (s.live = true) && decide (p < 2) && decide (k = i ^^^ c ^^^ 0xA5))
      sweeping 1 2 1 0xA6 5) &&
    ((fun (s : State) (p : Nat) (i : Nat) (c : Nat) (k : Nat) (ns : Nat) => decide (s.live = true) && decide (p < 2) && decide (k ≠ i ^^^ c ^^^ 0xA5))
      sweeping 0 1 4 0xA1 5) &&
    ((fun (s : State) (p : Nat) (i : Nat) (c : Nat) (k : Nat) (ns : Nat) => decide (s.live = true) && decide (p < 2) && decide (k = i ^^^ c ^^^ 0xA5) && decide (1 ≤ c) && decide (c ≤ 4) && decide (1 ≤ i) && decide (i ≤ s.chain.pos.length) && decide ((∃ a ∈ (s.posAt i).alarms, ns ≤ a.2.2 + 200000)) && decide (alarmCopy (s.posAt i).alarms p c ns = false) && decide (s.causeOn 0x0E = false))
      ({sweeping with chain := {sweeping.chain with pos := [{Position.reset with alarms := [(0, 4, 100)]}]}}) 0 1 4 0xA0 200100) &&
    ((fun (s : State) (p : Nat) (i : Nat) (c : Nat) (k : Nat) (ns : Nat) => decide (s.live = true) && decide (p < 2) && decide (k = i ^^^ c ^^^ 0xA5) && decide (1 ≤ c) && decide (c ≤ 4) && decide (1 ≤ i) && decide (i ≤ s.chain.pos.length) && decide ((∃ a ∈ (s.posAt i).alarms, ns ≤ a.2.2 + 200000)) && decide (alarmCopy (s.posAt i).alarms p c ns = false) && decide (s.causeOn 0x0E = false))
      ({sweeping with chain := {sweeping.chain with pos := [{Position.reset with alarms := [(1, 4, 100)]}]}}) 0 1 4 0xA0 25101) &&
    ((fun (s : State) (p : Nat) (i : Nat) (c : Nat) (k : Nat) (ns : Nat) => decide (s.live = true) && decide (p < 2) && decide (k = i ^^^ c ^^^ 0xA5) && decide (1 ≤ c) && decide (c ≤ 4) && decide (alarmCopy (s.posAt i).alarms p c ns = true))
      ({sweeping with chain := {sweeping.chain with pos := [{Position.reset with alarms := [(1, 4, 100)]}]}}) 0 1 4 0xA0 25100) &&
    ((fun (s : State) (i : Nat) => decide (s.live = true) && decide (1 ≤ i) && decide ((s.chain.pos.modify (i - 1) (fun p => { p with alarms := [], alarmOn := false })).any (·.alarmOn) = false))
      (put sweeping [(causeBit 0x0E, 1)]) 1) &&
    ((fun (s : State) (e : Nat) => decide (s.live = true) && decide (s.pair = true) && decide (s.getReg Reg.PAIR_EDITION < e) && decide (s.pstate = Ps.holder))
      (put paired [(Fld.PAIR_STATE_PSTATE, 3)]) 9)) = true := by decide +kernel

/-- The conditions of the clauses of ChainAlarmsAndMastering are met together, each by the state and operands named. -/
theorem test_conditions_ChainAlarmsAndMastering_2 : (
    ((fun (s : State) (e : Nat) => decide (s.live = true) && decide (s.pair = true) && decide (s.getReg Reg.PAIR_EDITION < e) && decide (s.pstate = Ps.standby))
      (put paired [(Fld.PAIR_STATE_PSTATE, 4)]) 9) &&
    ((fun (s : State) (m : SlotMsg) => decide (s.live = true) && decide (s.pair = true) && decide (s.plnkOn = true))
      (plnkUp paired) (slotOf 1)) &&
    ((fun (s : State) (n : Nat) (c : Nat) (i : Nat) (k : Nat) => decide (s.live = true) && decide (s.pair = true) && decide (s.plnkOn = true) && decide (s.masters = false) && decide (s.portSends 0 = true) && decide (s.pastTime (i + 2 ^ 32 - 20000 + 1000 * (c % 16)) = true))
      (plnkUp (sending stby)) 5 64 4294967000 9) &&
    ((fun (s : State) (n : Nat) (c : Nat) (i : Nat) (k : Nat) => decide (s.live = true) && decide (s.pair = true) && decide (s.plnkOn = true) && decide (s.masters = false) && decide (s.portSends 0 = true) && decide (s.pastTime (i + 2 ^ 32 - 20000 + 1000 * (c % 16)) = false))
      (plnkUp (sending stby)) 5 67 50000 60000)) = true := by decide +kernel

/-- The conditions of the clauses of DelaysAndEnumeration are met together, each by the state and operands named. -/
theorem test_conditions_DelaysAndEnumeration_1 : (
    ((fun (s : State) (p : Nat) (i : Nat) (k : Nat) (rt : Nat) (n : Nat) => decide (s.live = true) && decide (p < 2) && decide (k = i ^^^ 2 ^^^ 0x3C) && decide (rt ≤ 25000000) && decide (1 ≤ i) && decide (i ≤ s.nodes) && decide (i ≠ 0xFE) && decide (i ≤ s.chain.pos.length) && decide ((s.posAt i).dlyLeft = n + 2) && decide (s.portSends 0 = true))
      (sending {sweeping with chain := {sweeping.chain with pos := [{Position.reset with dlyLeft := 32}, Position.reset]}}) 0 1 0x3F 25000000 30) &&
    ((fun (s : State) (p : Nat) (i : Nat) (o : Nat) (k : Nat) (rt : Nat) (v : Bool) => decide (s.live = true) && decide (p < 2) && decide (k ≠ i ^^^ o ^^^ 0x3C))
      sweeping 1 3 1 0 5 false) &&
    ((fun (s : State) (p : Nat) (rt : Nat) => decide (s.live = true) && decide (p < 2) && decide (p = 1 ∨ s.masters = false) && decide (s.portSends p = true))
      (sending stby) 0 5) &&
    ((fun (s : State) (p : Nat) (rt : Nat) => decide (s.live = true) && decide (p < 2) && decide (p = 1 ∨ s.masters = false) && decide (s.portSends p = true))
      (sending sweeping) 1 5) &&
    ((fun (s : State) (p : Nat) (i : Nat) (k : Nat) (rt : Nat) (v : Bool) => decide (s.live = true) && decide (p < 2) && decide (k = i ^^^ 2 ^^^ 0x3C) && decide (v = true ∨ 25000000 < rt))
      (sending {sweeping with chain := {sweeping.chain with pos := [{Position.reset with dlyLeft := 32}, Position.reset]}}) 0 1 0x3F 100 true) &&
    ((fun (s : State) (p : Nat) (i : Nat) (k : Nat) (rt : Nat) (v : Bool) => decide (s.live = true) && decide (p < 2) && decide (k = i ^^^ 2 ^^^ 0x3C) && decide (v = true ∨ 25000000 < rt))
      (sending {sweeping with chain := {sweeping.chain with pos := [{Position.reset with dlyLeft := 32}, Position.reset]}}) 0 1 0x3F 25000001 false) &&
    ((fun (s : State) (p : Nat) (i : Nat) (k : Nat) (rt : Nat) (d : Nat) => decide (s.live = true) && decide (p < 2) && decide (k = i ^^^ 2 ^^^ 0x3C) && decide (rt ≤ 25000000) && decide (1 ≤ i) && decide (i ≤ s.nodes) && decide (i ≠ 0xFE) && decide (i ≤ s.chain.pos.length) && decide ((s.posAt i).dlyLeft = 1) && decide (s.chain.enum ≠ 2) && decide ((s.posAt i).dlySum + rt = 32 * 200000 + 64 * d))
      ({sweeping with chain := {sweeping.chain with pos := [{Position.reset with dlyLeft := 1, dlySum := 6400000}, Position.reset]}}) 0 1 0x3F 6400 100) &&
    ((fun (s : State) (i : Nat) => decide (s.live = true) && decide (s.masters = true) && decide (1 ≤ i) && decide (i ≤ s.nodes) && decide (i ≠ 0xFE) && decide ((s.posAt i).dlyLeft ≠ 0) && decide (s.portSends 0 = true))
      (sending {sweeping with chain := {sweeping.chain with pos := [{Position.reset with dlyLeft := 5}, Position.reset]}}) 1) &&
    ((fun (s : State) => decide (s.live = true) && decide (s.masters = true) && decide (s.sampling = true) && decide (s.portSends 0 = true))
      (sending sweeping)) &&
    ((fun (s : State) (m : Nat) => decide (s.permits m Reg.CHN0_DLY_CTL = true) && decide (s.masters = true) && decide (s.portSends 0 = true))
      (sending sweeping) 0) &&
    ((fun (s : State) (m : Nat) => decide (s.permits m Reg.NODE_ENUM_CTL = true) && decide (s.cur = Md.survey) && decide (s.power = 0) && decide (s.flag Fld.NODE_ENUM_STATUS_BUSY = false) && decide (s.masters = true) && decide (s.linksUp = true) && decide (s.portSends 0 = true))
      (put (sending sweeping) [(Fld.MODE_STATE_CURRENT, 2)]) 0) &&
    ((fun (s : State) (m : Nat) => decide (s.permits m Reg.NODE_ENUM_CTL = true) && decide (s.cur ≠ Md.survey))
      (put sweeping [(Fld.MODE_STATE_CURRENT, 3)]) 0)) = true := by decide +kernel

/-- The conditions of the clauses of DelaysAndEnumeration are met together, each by the state and operands named. -/
theorem test_conditions_DelaysAndEnumeration_2 : (
    ((fun (s : State) (m : Nat) (i : Nat) => decide (s.permits m Reg.NODE_ENUM_CTL = true) && decide (s.flag Fld.NODE_ENUM_STATUS_BUSY = false) && decide (1 ≤ i) && decide (i ≤ s.nodes) && decide (s.masters = true) && decide (i ∉ s.otherSeg) && decide (s.portSends 0 = true))
      (sending sweeping) 0 2) &&
    ((fun (s : State) (recs : List EnumRec) => decide (s.live = true) && decide (s.masters = true) && decide (s.chain.enum = 1) && decide (s.chain.rejoin = 0) && decide ((s.enumCheck recs).1 = 1))
      ({sweeping with chain := {sweeping.chain with enum := 1}}) ([recOk 1, recOk 2])) &&
    ((fun (s : State) (recs : List EnumRec) (i : Nat) => decide (s.phase = .up) && decide (s.masters = true) && decide (s.chain.enum = 1) && decide (s.chain.rejoin = 0) && decide (s.enumCheck recs = (3, i)))
      ({sweeping with chain := {sweeping.chain with enum := 1}}) ([recOk 1, {recOk 2 with fwVer := 1}]) 2) &&
    ((fun (s : State) (recs : List EnumRec) => decide (s.phase = .up) && decide (s.masters = true) && decide (s.chain.enum = 1) && decide (s.chain.rejoin = 0) && decide (recs.length ≠ s.nodes))
      ({sweeping with chain := {sweeping.chain with enum := 1}}) ([recOk 1])) &&
    ((fun (s : State) => decide (s.phase = .up) && decide (s.chain.enum = 1) && decide (s.chain.rejoin = 0))
      ({sweeping with chain := {sweeping.chain with enum := 1}})) &&
    ((fun (s : State) (bad : List Nat) => decide (s.phase = .up) && decide (s.chain.enum = 3) && decide (s.chain.rejoin = 0))
      ({sweeping with chain := {sweeping.chain with enum := 3}}) ([])) &&
    ((fun (s : State) (m : Nat) => decide (s.permits m Reg.CHN0_SWEEP_CTL = true))
      sweeping 0)) = true := by decide +kernel

/-- The conditions of the clauses of NodeRegisterAccess are met together, each by the state and operands named. -/
theorem test_conditions_NodeRegisterAccess : (
    ((fun (s : State) (m : Nat) (i : Nat) (r : Nat) => decide (s.permits m Reg.NODE_NREG_CMD = true) && decide (s.flag Fld.NODE_NREG_STATUS_BUSY = false) && decide (1 ≤ i) && decide (i ≤ 64) && decide (i ∉ s.otherSeg) && decide (s.portSends 0 = true))
      (sending sweeping) 0 2 0x13) &&
    ((fun (s : State) (m : Nat) (i : Nat) (r : Nat) => decide (s.permits m Reg.NODE_NREG_CMD = true) && decide (i = 0 ∨ 64 < i))
      sweeping 0 65 0x13) &&
    ((fun (s : State) (m : Nat) (i : Nat) (r : Nat) => decide (s.permits m Reg.NODE_NREG_CMD = true) && decide (i = 0 ∨ 64 < i))
      sweeping 0 0 0x13) &&
    ((fun (s : State) (m : Nat) (i : Nat) (r : Nat) (v : Nat) => decide (s.permits m Reg.NODE_NREG_CMD = true) && decide (s.flag Fld.NODE_NREG_STATUS_BUSY = false) && decide (1 ≤ i) && decide (i ≤ 64) && decide (ownedNreg (r % 65536) = false) && decide (i ∉ s.otherSeg) && decide (s.portSends 0 = true))
      (sending sweeping) 0 2 0x13 0x12345) &&
    ((fun (s : State) (m : Nat) (i : Nat) (r : Nat) (v : Nat) => decide (s.permits m Reg.NODE_NREG_CMD = true) && decide (s.flag Fld.NODE_NREG_STATUS_BUSY = false) && decide (1 ≤ i) && decide (i ≤ 64) && decide (ownedNreg (r % 65536) = true))
      sweeping 0 2 0x29 1) &&
    ((fun (s : State) (i : Nat) (r : Nat) (v : Nat) => decide (s.live = true) && decide (s.pair = false ∨ s.masters = true) && decide (s.flag Fld.NODE_NREG_STATUS_BUSY = true) && decide (s.getF Fld.NODE_NREG_CMD_POS = i) && decide (s.getF Fld.NODE_NREG_CMD_ADDR = r) && decide (s.getF Fld.NODE_NREG_CMD_OP = 1))
      (put sweeping [(Fld.NODE_NREG_STATUS_BUSY,1),(Fld.NODE_NREG_CMD_POS,2),(Fld.NODE_NREG_CMD_ADDR,0x13),(Fld.NODE_NREG_CMD_OP,1)]) 2 0x13 0x10007) &&
    ((fun (s : State) => decide (s.live = true) && decide (s.flag Fld.NODE_NREG_STATUS_BUSY = true))
      (put sweeping [(Fld.NODE_NREG_STATUS_BUSY,1)]))) = true := by decide +kernel

/-- The conditions of the clauses of GrantsWaitsAndRecords are met together, each by the state and operands named. -/
theorem test_conditions_GrantsWaitsAndRecords_1 : (
    ((fun (s : State) => decide (s.live = true) && decide (grantPick s.comp = none) && decide (s.mode.due = 0))
      up) &&
    ((fun (s : State) => decide (s.live = true) && decide (grantPick s.comp = none) && decide (s.mode.due = 0))
      ({up with comp := {up.comp with waiting := [{wait0 Pg.CAN0 1 with arrival := 9}]}})) &&
    ((fun (s : State) (w : Waiting) => decide (s.live = true) && decide (grantPick s.comp = some w) && decide (s.mode.due = 0) && decide (Ev.mk w.page w.num ∉ grantDecides) && decide (s.comp.firstGrantDone = true) && decide (systemCode ⟨w.page, w.num⟩ = none) && decide (s.flag Fld.EVR_CTL_ENABLE = false) && decide (s.comp.annWait = []) && decide (Ev.mk w.page w.num ≠ Ev.MODE_MODE_CHANGED) && decide (s.getReg Reg.SEQ_LAST < 2 ^ 32 - 1) && decide (s.flag Fld.SEQ_CTL_CORE_QUEUE = false) && decide (s.flag Fld.SEQ_CTL_HOST_RING = false) && decide (w.num < 32))
      ({quiet with comp := {quiet.comp with waiting := [wait0 Pg.CAN0 5, wait0 Pg.TWB 4]}}) (wait0 Pg.CAN0 5)) &&
    ((fun (s : State) (w : Waiting) => decide (s.live = true) && decide (grantPick s.comp = some w) && decide (s.mode.due = 0) && decide (Ev.mk w.page w.num ∉ grantDecides) && decide (s.comp.firstGrantDone = true) && decide (systemCode ⟨w.page, w.num⟩ = none) && decide (s.flag Fld.EVR_CTL_ENABLE = false) && decide (s.comp.annWait = []) && decide (Ev.mk w.page w.num ≠ Ev.MODE_MODE_CHANGED) && decide (s.getReg Reg.SEQ_LAST < 2 ^ 32 - 1) && decide (s.flag Fld.SEQ_CTL_CORE_QUEUE = false) && decide (s.flag Fld.SEQ_CTL_HOST_RING = false))
      ({putR quiet [(Reg.SEQ_LAST, 0xFFFFFFFE)] with comp := {quiet.comp with cycle := 4, waiting := [wait0 Pg.CAN0 40]}}) (wait0 Pg.CAN0 40)) &&
    ((fun (s : State) (w : Waiting) => decide (s.live = true) && decide (grantPick s.comp = some w) && decide (s.mode.due = 0) && decide (Ev.mk w.page w.num ∉ grantDecides) && decide (w.num < 32) && decide (s.comp.firstGrantDone = true) && decide (systemCode ⟨w.page, w.num⟩ = none) && decide (s.flag Fld.EVR_CTL_ENABLE = false) && decide (s.comp.annWait = []) && decide (Ev.mk w.page w.num ≠ Ev.MODE_MODE_CHANGED) && decide (Ev.mk w.page w.num ≠ Ev.GAL_LINE_OPEN) && decide (s.flag Fld.SEQ_CTL_CORE_QUEUE = true) && decide (s.flag Fld.SEQ_CTL_HOST_RING = false) && decide (bitOf (s.getReg (Folio.EVENT_EN w.page)) w.num = true) && decide (s.comp.core.length < 1024) && decide (s.comp.waitReq = none))
      ({putR quiet [(Reg.SEQ_CTL, 1), (Folio.EVENT_EN Pg.CAN0, 0x20)] with comp := {quiet.comp with waiting := [wait0 Pg.CAN0 5, wait0 Pg.TWB 4]}}) (wait0 Pg.CAN0 5)) &&
    ((fun (s : State) (a : Nat) (c : Nat) (u : Nat) => decide (s.live = true) && decide (s.cyc.svcRuns = true) && decide (isRam a = true) && decide (s.comp.core = []))
      ({quiet with cyc := {quiet.cyc with svcRuns := true}}) 0x80000000 4 10) &&
    ((fun (s : State) (a : Nat) (c : Nat) (u : Nat) => decide (s.live = true) && decide (s.cyc.svcRuns = true) && decide (isRam a = true) && decide (s.comp.core ≠ []))
      ({quiet with cyc := {quiet.cyc with svcRuns := true}, comp := {quiet.comp with core := [⟨1, 2, 3, 4⟩, ⟨5, 6, 7, 8⟩]}}) 0x80000000 1 10) &&
    ((fun (s : State) => decide (s.live = true) && decide (s.comp.waitReq.isSome))
      ({quiet with comp := {quiet.comp with waitReq := some (0x80000000, 4)}})) &&
    ((fun (s : State) (r : Record) (l : List Record) => decide (s.live = true) && decide (s.evr.taken = r :: l))
      ({quiet with evr := {quiet.evr with taken := [evr0 0, evr0 0], ring := [evr0 6]}}) (evr0 0) ([evr0 0])) &&
    ((fun (s : State) (r : Record) (l : List Record) => decide (s.live = true) && decide (s.evr.taken = r :: l))
      ({quiet with evr := {quiet.evr with taken := [evr0 0], ring := []}}) (evr0 0) ([])) &&
    ((fun (s : State) (m : Nat) (v : Nat) => decide (s.permits m Reg.EVR_CURSOR = true))
      up 0 0x100000005) &&
    ((fun (s : State) (c : Nat) => decide (s.live = true) && decide (s.evr.copying = some c))
      ({quiet with evr := {quiet.evr with copying := some 6, ring := [evr0 7, evr0 6]}}) 6)) = true := by decide +kernel

/-- The conditions of the clauses of GrantsWaitsAndRecords are met together, each by the state and operands named. -/
theorem test_conditions_GrantsWaitsAndRecords_2 : (
    ((fun (s : State) (c : Nat) => decide (s.live = true) && decide (s.evr.copying = some c))
      ({quiet with evr := {quiet.evr with copying := some 0xFFFFFFFF, ring := [evr0 0xFFFFFFFF]}}) 0xFFFFFFFF) &&
    ((fun (s : State) => decide (s.live = true) && decide (s.flag Fld.EVR_STATE_FROZEN = true))
      (put up [(Fld.EVR_STATE_FROZEN, 1), (Fld.EVR_CTL_FREEZE, 1)]))) = true := by decide +kernel

/-- The conditions of the clauses of WhatGrantsDecide are met together, each by the state and operands named. -/
theorem test_conditions_WhatGrantsDecide_1 : (
    ((fun (s : State) (w : Waiting) => decide (s.live = true) && decide (grantPick s.comp = some w) && decide (Ev.mk w.page w.num = ⟨Pg.MODE, 32⟩) && decide (s.mode.due = 0))
      ({quiet with comp := {quiet.comp with waiting := [wait0 Pg.MODE 32]}}) (wait0 Pg.MODE 32)) &&
    ((fun (s : State) => decide (s.live = true) && decide (grantPick s.comp = none) && decide (s.mode.due = 1) && decide (s.pair = false ∨ s.pstate = Ps.holder) && decide (0x10 ≤ (s.evalCode s.mode.dueTgt).1) && decide ((s.evalCode s.mode.dueTgt).1 ≠ Rq.busyStopping) && decide (s.mode.dueTgt < 16) && decide (s.mode.dueTag < 256))
      ({quiet with mode := {quiet.mode with due := 1, dueTag := 0x2a, dueTgt := 3}})) &&
    ((fun (s : State) => decide (s.live = true) && decide (grantPick s.comp = none) && decide (s.mode.due = 1) && decide (s.pair = false ∨ s.pstate = Ps.holder) && decide (0x10 ≤ (s.evalCode s.mode.dueTgt).1) && decide ((s.evalCode s.mode.dueTgt).1 ≠ Rq.busyStopping) && decide (s.mode.dueTgt < 16) && decide (s.mode.dueTag < 256))
      ({quiet with variant := .A, mode := {quiet.mode with due := 1, dueTag := 0x2a, dueTgt := 4}})) &&
    ((fun (s : State) => decide (s.live = true) && decide (grantPick s.comp = none) && decide (s.mode.due = 1) && decide (s.pair = false ∨ s.pstate = Ps.holder) && decide (s.mode.dueTgt = Md.dispatch) && decide (s.cur = Md.survey) && decide (s.evalCode Md.dispatch = (Rq.accepted, 0)))
      ({ready with mode := {ready.mode with due := 1, dueTag := 0x33, dueTgt := 3}})) &&
    ((fun (s : State) (w : Waiting) (cold : Bool) => decide (s.live = true) && decide (grantPick s.comp = some w) && decide (Ev.mk w.page w.num = ⟨Pg.AUX, 40⟩) && decide (s.mode.due = 0) && decide (s.aux.restartWait = some cold) && decide (s.power = 0) && decide (cold = true))
      ({quiet with aux := {quiet.aux with restartWait := some true}, comp := {quiet.comp with waiting := [wait0 Pg.AUX 40]}}) (wait0 Pg.AUX 40) true) &&
    ((fun (s : State) (w : Waiting) (cold : Bool) => decide (s.live = true) && decide (grantPick s.comp = some w) && decide (Ev.mk w.page w.num = ⟨Pg.AUX, 40⟩) && decide (s.mode.due = 0) && decide (s.aux.restartWait = some cold) && decide (s.power = 0) && decide (cold = false) && decide (s.getF Fld.CYC_STATE_STATE = 1))
      ({(put quiet [(Fld.CYC_STATE_STATE, 1)]) with aux := {quiet.aux with restartWait := some false}, comp := {quiet.comp with waiting := [wait0 Pg.AUX 40]}}) (wait0 Pg.AUX 40) false) &&
    ((fun (s : State) (w : Waiting) (cold : Bool) => decide (s.live = true) && decide (grantPick s.comp = some w) && decide (Ev.mk w.page w.num = ⟨Pg.AUX, 40⟩) && decide (s.mode.due = 0) && decide (s.aux.restartWait = some cold) && decide (s.power = 0) && decide (cold = false) && decide (s.getF Fld.CYC_STATE_STATE = 3))
      ({(put quiet [(Fld.CYC_STATE_STATE, 3)]) with aux := {quiet.aux with restartWait := some false}, comp := {quiet.comp with waiting := [wait0 Pg.AUX 40]}}) (wait0 Pg.AUX 40) false) &&
    ((fun (s : State) (w : Waiting) (cold : Bool) => decide (s.live = true) && decide (grantPick s.comp = some w) && decide (Ev.mk w.page w.num = ⟨Pg.AUX, 40⟩) && decide (s.mode.due = 0) && decide (s.aux.restartWait = some cold) && decide (s.power ≠ 0))
      ({(put quiet [(Fld.MODE_FUNC_STATE_POWER, 2)]) with aux := {quiet.aux with restartWait := some false}, comp := {quiet.comp with waiting := [wait0 Pg.AUX 40]}}) (wait0 Pg.AUX 40) false) &&
    ((fun (s : State) (w : Waiting) => decide (s.live = true) && decide (grantPick s.comp = some w) && decide (Ev.mk w.page w.num = ⟨Pg.AUX, 41⟩) && decide (s.mode.due = 0))
      ({quiet with aux := {quiet.aux with addrInNext := true}, comp := {quiet.comp with waiting := [wait0 Pg.AUX 41]}}) (wait0 Pg.AUX 41)) &&
    ((fun (s : State) (w : Waiting) (c : Nat) (a : Nat) => decide (s.live = true) && decide (grantPick s.comp = some w) && decide (Ev.mk w.page w.num = ⟨Pg.AUX, 42⟩) && decide (s.mode.due = 0) && decide (s.aux.offers = [(c, a)]) && decide (s.flag Fld.AUX_WALK_CTL_ENABLE = true) && decide (s.getF Fld.AUX_ADDR_STRING_ADDR = 0) && decide (s.flag Fld.AUX_ADDR_IO_ADDR_IN = true) && decide (1 ≤ a) && decide (a ≤ 120))
      ({put quiet [(Fld.AUX_WALK_CTL_ENABLE,1),(Fld.AUX_ADDR_IO_ADDR_IN,1)] with aux := {quiet.aux with offers := [(0, 1)]}, comp := {quiet.comp with waiting := [wait0 Pg.AUX 42]}}) (wait0 Pg.AUX 42) 0 1) &&
    ((fun (s : State) (w : Waiting) (c : Nat) (a : Nat) => decide (s.live = true) && decide (grantPick s.comp = some w) && decide (Ev.mk w.page w.num = ⟨Pg.AUX, 42⟩) && decide (s.mode.due = 0) && decide (s.aux.offers = [(c, a)]) && decide (s.flag Fld.AUX_WALK_CTL_ENABLE = true) && decide (s.getF Fld.AUX_ADDR_STRING_ADDR = 0) && decide (s.flag Fld.AUX_ADDR_IO_ADDR_IN = true) && decide (1 ≤ a) && decide (a ≤ 120))
      ({put quiet [(Fld.AUX_WALK_CTL_ENABLE,1),(Fld.AUX_ADDR_IO_ADDR_IN,1)] with aux := {quiet.aux with offers := [(1, 120)]}, comp := {quiet.comp with waiting := [wait0 Pg.AUX 42]}}) (wait0 Pg.AUX 42) 1 120) &&
    ((fun (s : State) (w : Waiting) (k : Nat) => decide (s.live = true) && decide (grantPick s.comp = some w) && decide (Ev.mk w.page w.num = ⟨Pg.CYC, 40⟩) && decide (s.mode.due = 0) && decide (s.cyc.cmds = [(1, k)]) && decide (k ≤ 2) && decide ((s.cycNow = 0 ∧ s.cyc.image.isSome) ∨ s.cycNow = 2))
      ({(put quiet [(Fld.CYC_STATE_STATE, 0)]) with cyc := {quiet.cyc with cmds := [(1, 0)], image := some (pay Pk.app 7)}, comp := {quiet.comp with waiting := [wait0 Pg.CYC 40]}}) (wait0 Pg.CYC 40) 0)) = true := by decide +kernel

/-- The conditions of the clauses of WhatGrantsDecide are met together, each by the state and operands named. -/
theorem test_conditions_WhatGrantsDecide_2 : (
    ((fun (s : State) (w : Waiting) (k : Nat) => decide (s.live = true) && decide (grantPick s.comp = some w) && decide (Ev.mk w.page w.num = ⟨Pg.CYC, 40⟩) && decide (s.mode.due = 0) && decide (s.cyc.cmds = [(1, k)]) && decide (k ≤ 2))
      ({(put quiet [(Fld.CYC_STATE_STATE, 2)]) with cyc := {quiet.cyc with cmds := [(1, 2)], image := some (pay Pk.app 7)}, comp := {quiet.comp with waiting := [wait0 Pg.CYC 40]}}) (wait0 Pg.CYC 40) 2) &&
    ((fun (s : State) (w : Waiting) (k : Nat) => decide (s.live = true) && decide (grantPick s.comp = some w) && decide (Ev.mk w.page w.num = ⟨Pg.CYC, 40⟩) && decide (s.mode.due = 0) && decide (s.cyc.cmds = [(1, k)]) && decide (k ≤ 2) && decide (s.cycNow = 1 ∨ s.cycNow = 3))
      ({(put quiet [(Fld.CYC_STATE_STATE, 1)]) with cyc := {quiet.cyc with cmds := [(1, 0)], image := some (pay Pk.app 7)}, comp := {quiet.comp with waiting := [wait0 Pg.CYC 40]}}) (wait0 Pg.CYC 40) 0) &&
    ((fun (s : State) (w : Waiting) => decide (s.live = true) && decide (grantPick s.comp = some w) && decide (Ev.mk w.page w.num = ⟨Pg.CYC, 40⟩) && decide (s.mode.due = 0) && decide (s.cyc.cmds = [(2, 0)]) && decide (s.cycNow ≠ 1) && decide (s.cycNow ≠ 2))
      ({(put quiet [(Fld.CYC_STATE_STATE, 0)]) with cyc := {quiet.cyc with cmds := [(2, 0)], image := some (pay Pk.app 7)}, comp := {quiet.comp with waiting := [wait0 Pg.CYC 40]}}) (wait0 Pg.CYC 40)) &&
    ((fun (s : State) (w : Waiting) => decide (s.live = true) && decide (grantPick s.comp = some w) && decide (Ev.mk w.page w.num = ⟨Pg.CYC, 40⟩) && decide (s.mode.due = 0) && decide (s.cyc.cmds = [(2, 0)]) && decide (s.cycNow = 1))
      ({(put quiet [(Fld.CYC_STATE_STATE, 1)]) with cyc := {quiet.cyc with cmds := [(2, 0)], image := some (pay Pk.app 7)}, comp := {quiet.comp with waiting := [wait0 Pg.CYC 40]}}) (wait0 Pg.CYC 40)) &&
    ((fun (s : State) (w : Waiting) => decide (s.live = true) && decide (grantPick s.comp = some w) && decide (Ev.mk w.page w.num = ⟨Pg.CYC, 40⟩) && decide (s.mode.due = 0) && decide (s.cyc.cmds = [(2, 0)]) && decide (s.cycNow = 2))
      ({(put quiet [(Fld.CYC_STATE_STATE, 2)]) with cyc := {quiet.cyc with cmds := [(2, 0)], image := some (pay Pk.app 7)}, comp := {quiet.comp with waiting := [wait0 Pg.CYC 40]}}) (wait0 Pg.CYC 40)) &&
    ((fun (s : State) (w : Waiting) => decide (s.live = true) && decide (grantPick s.comp = some w) && decide (Ev.mk w.page w.num = ⟨Pg.CYC, 40⟩) && decide (s.mode.due = 0) && decide (s.cyc.cmds = [(3, 0)]) && decide (s.cycNow ≠ 1))
      ({(put quiet [(Fld.CYC_STATE_STATE, 0)]) with cyc := {quiet.cyc with cmds := [(3, 0)], image := some (pay Pk.app 7)}, comp := {quiet.comp with waiting := [wait0 Pg.CYC 40]}}) (wait0 Pg.CYC 40)) &&
    ((fun (s : State) (w : Waiting) => decide (s.live = true) && decide (grantPick s.comp = some w) && decide (Ev.mk w.page w.num = ⟨Pg.CYC, 40⟩) && decide (s.mode.due = 0) && decide (s.cyc.cmds = [(3, 0)]) && decide (s.cycNow = 1))
      ({(put quiet [(Fld.CYC_STATE_STATE, 1)]) with cyc := {quiet.cyc with cmds := [(3, 0)], image := some (pay Pk.app 7)}, comp := {quiet.comp with waiting := [wait0 Pg.CYC 40]}}) (wait0 Pg.CYC 40)) &&
    ((fun (s : State) (w : Waiting) => decide (s.live = true) && decide (grantPick s.comp = some w) && decide (Ev.mk w.page w.num = ⟨Pg.CYC, 40⟩) && decide (s.mode.due = 0) && decide (s.cyc.cmds = [(4, 0)]) && decide (s.cyc.step = false) && decide (s.cycNow = 2))
      ({(put quiet [(Fld.CYC_STATE_STATE, 2)]) with cyc := {quiet.cyc with cmds := [(4, 0)], image := some (pay Pk.app 7)}, comp := {quiet.comp with waiting := [wait0 Pg.CYC 40]}}) (wait0 Pg.CYC 40)) &&
    ((fun (s : State) (w : Waiting) => decide (s.live = true) && decide (grantPick s.comp = some w) && decide (Ev.mk w.page w.num = ⟨Pg.CYC, 40⟩) && decide (s.mode.due = 0) && decide (s.cyc.cmds = [(4, 0)]) && decide (s.cyc.step = false) && decide (s.cycNow ≠ 2))
      ({(put quiet [(Fld.CYC_STATE_STATE, 1)]) with cyc := {quiet.cyc with cmds := [(4, 0)], image := some (pay Pk.app 7)}, comp := {quiet.comp with waiting := [wait0 Pg.CYC 40]}}) (wait0 Pg.CYC 40)) &&
    ((fun (s : State) (w : Waiting) => decide (s.live = true) && decide (grantPick s.comp = some w) && decide (Ev.mk w.page w.num = Ev.CYC_CYCLE_START) && decide (s.mode.due = 0) && decide (s.cycNow = 1) && decide (s.comp.waitReq = none))
      ({runs with comp := {quiet.comp with waiting := [wait0 Pg.CYC 0]}}) (wait0 Pg.CYC 0)) &&
    ((fun (s : State) (w : Waiting) (i : Nat) (q : Nat) (c : Nat × Nat) => decide (s.live = true) && decide (grantPick s.comp = some w) && decide (Ev.mk w.page w.num = ⟨Pg.EST, 40⟩) && decide (s.mode.due = 0) && decide (s.est.capWait = [(i, q)]) && decide (s.cellList[i]? = some c) && decide (s.power = 0) && decide (s.imprintOk = true) && decide ((s.pset (s.psetNo c)).qNom ≤ 2 * q) && decide (10 * q ≤ 12 * (s.pset (s.psetNo c)).qNom))
      ({put capUp [(Fld.DRV_EN_LEVEL_A, 1)] with est := {capUp.est with capWait := [(0, 60)]}, comp := {quiet.comp with waiting := [wait0 Pg.EST 40]}}) (wait0 Pg.EST 40) 0 60 ((1, 1))) &&
    ((fun (s : State) (w : Waiting) (i : Nat) (q : Nat) => decide (s.live = true) && decide (grantPick s.comp = some w) && decide (Ev.mk w.page w.num = ⟨Pg.EST, 40⟩) && decide (s.mode.due = 0) && decide (s.est.capWait = [(i, q)]) && decide (s.power ≠ 0 ∨ s.imprintOk = false))
      ({put capUp [(Fld.MODE_FUNC_STATE_POWER, 2)] with est := {capUp.est with capWait := [(0, 60)]}, comp := {quiet.comp with waiting := [wait0 Pg.EST 40]}}) (wait0 Pg.EST 40) 0 60)) = true := by decide +kernel

/-- The conditions of the clauses of WhatGrantsDecide are met together, each by the state and operands named. -/
theorem test_conditions_WhatGrantsDecide_3 : (
    ((fun (s : State) (w : Waiting) => decide (s.live = true) && decide (grantPick s.comp = some w) && decide (Ev.mk w.page w.num = ⟨Pg.EST, 41⟩) && decide (s.mode.due = 0) && decide (s.cur = Md.dispatch) && decide (s.variant ≠ .C) && decide (s.imprintOk = true) && decide (s.anchorOn = false))
      ({put quiet [(Fld.MODE_STATE_CURRENT, 3)] with comp := {quiet.comp with waiting := [wait0 Pg.EST 41]}}) (wait0 Pg.EST 41)) &&
    ((fun (s : State) (w : Waiting) => decide (s.live = true) && decide (grantPick s.comp = some w) && decide (Ev.mk w.page w.num = ⟨Pg.EST, 41⟩) && decide (s.mode.due = 0) && decide (s.cur ≠ Md.dispatch ∨ s.variant = .C ∨ s.imprintOk = false))
      ({put quiet [(Fld.MODE_STATE_CURRENT, 2)] with comp := {quiet.comp with waiting := [wait0 Pg.EST 41]}}) (wait0 Pg.EST 41)) &&
    ((fun (s : State) (w : Waiting) => decide (s.live = true) && decide (grantPick s.comp = some w) && decide (Ev.mk w.page w.num = ⟨Pg.EST, 41⟩) && decide (s.mode.due = 0) && decide (s.cur ≠ Md.dispatch ∨ s.variant = .C ∨ s.imprintOk = false))
      ({{put quiet [(Fld.MODE_STATE_CURRENT, 3)] with variant := .C} with comp := {quiet.comp with waiting := [wait0 Pg.EST 41]}}) (wait0 Pg.EST 41)) &&
    ((fun (s : State) (w : Waiting) => decide (s.live = true) && decide (grantPick s.comp = some w) && decide (Ev.mk w.page w.num = ⟨Pg.EST, 42⟩) && decide (s.mode.due = 0) && decide (s.anchorOn = true))
      ({put quiet [(Fld.EST_STATE_ANCHOR, 2)] with comp := {quiet.comp with waiting := [wait0 Pg.EST 42]}}) (wait0 Pg.EST 42)) &&
    ((fun (s : State) (w : Waiting) => decide (s.live = true) && decide (grantPick s.comp = some w) && decide (Ev.mk w.page w.num = ⟨Pg.EST, 42⟩) && decide (s.mode.due = 0) && decide (s.anchorOn = false))
      ({quiet with comp := {quiet.comp with waiting := [wait0 Pg.EST 42]}}) (wait0 Pg.EST 42)) &&
    ((fun (s : State) (w : Waiting) => decide (s.live = true) && decide (grantPick s.comp = some w) && decide (Ev.mk w.page w.num = ⟨Pg.CELL, 40⟩) && decide (s.mode.due = 0))
      ({putR quiet [(Reg.CELL_VIEW, 1)] with comp := {quiet.comp with waiting := [wait0 Pg.CELL 40]}}) (wait0 Pg.CELL 40)) &&
    ((fun (s : State) (w : Waiting) => decide (s.live = true) && decide (grantPick s.comp = some w) && decide (Ev.mk w.page w.num = ⟨Pg.CELL, 40⟩) && decide (s.mode.due = 0))
      ({quiet with comp := {quiet.comp with waiting := [wait0 Pg.CELL 40]}}) (wait0 Pg.CELL 40)) &&
    ((fun (s : State) (w : Waiting) (d : Int) => decide (s.live = true) && decide (grantPick s.comp = some w) && decide (Ev.mk w.page w.num = ⟨Pg.TIME, 40⟩) && decide (s.mode.due = 0) && decide (s.time.stepWait = [d]) && decide (s.stepOk = true))
      ({quiet with time := {quiet.time with now := 5000, stepWait := [-1]}, comp := {quiet.comp with waiting := [wait0 Pg.TIME 40]}}) (wait0 Pg.TIME 40) (-1)) &&
    ((fun (s : State) (w : Waiting) (d : Int) => decide (s.live = true) && decide (grantPick s.comp = some w) && decide (Ev.mk w.page w.num = ⟨Pg.TIME, 40⟩) && decide (s.mode.due = 0) && decide (s.time.stepWait = [d]) && decide (s.stepOk = false))
      ({put quiet [(Fld.MODE_FUNC_STATE_POWER, 2)] with time := {quiet.time with now := 5000, stepWait := [7]}, comp := {quiet.comp with waiting := [wait0 Pg.TIME 40]}}) (wait0 Pg.TIME 40) 7) &&
    ((fun (s : State) (w : Waiting) => decide (s.live = true) && decide (grantPick s.comp = some w) && decide (Ev.mk w.page w.num = ⟨Pg.MODE, 41⟩) && decide (s.mode.due = 0))
      ({quiet with mode := {quiet.mode with partnerTag := 7, partnerTgt := 3}, comp := {quiet.comp with waiting := [wait0 Pg.MODE 41]}}) (wait0 Pg.MODE 41)) &&
    ((fun (s : State) => decide (s.live = true) && decide (grantPick s.comp = none) && decide (s.mode.due = 2) && decide (s.plnkOn = true) && decide (s.mode.dueTgt < 16) && decide (s.mode.dueTag < 256) && decide (0x10 ≤ (s.evalCode s.mode.dueTgt).1) && decide ((s.evalCode s.mode.dueTgt).1 ≠ Rq.busyStopping))
      ({hold with mode := {hold.mode with due := 2, dueTag := 0x2a, dueTgt := 3}})) &&
    ((fun (s : State) (w : Waiting) => decide (s.live = true) && decide (grantPick s.comp = some w) && decide (Ev.mk w.page w.num = ⟨Pg.UPD, 40⟩) && decide (s.mode.due = 0) && decide (s.upd.abortWait = true) && decide (s.upd.state ≠ 0))
      ({quiet with upd := {quiet.upd with abortWait := true, state := 3, cur := some node0, ready := [node0]}, comp := {quiet.comp with waiting := [wait0 Pg.UPD 40]}}) (wait0 Pg.UPD 40))) = true := by decide +kernel

/-- The conditions of the clauses of WhatGrantsDecide are met together, each by the state and operands named. -/
theorem test_conditions_WhatGrantsDecide_4 : (
    ((fun (s : State) (w : Waiting) => decide (s.live = true) && decide (grantPick s.comp = some w) && decide (Ev.mk w.page w.num = ⟨Pg.UPD, 40⟩) && decide (s.mode.due = 0) && decide (s.upd.abortWait = true) && decide (s.upd.state = 0))
      ({quiet with upd := {quiet.upd with abortWait := true, ready := [node0], armed := [node0]}, comp := {quiet.comp with waiting := [wait0 Pg.UPD 40]}}) (wait0 Pg.UPD 40)) &&
    ((fun (s : State) (w : Waiting) => decide (s.live = true) && decide (grantPick s.comp = some w) && decide (Ev.mk w.page w.num = ⟨Pg.UPD, 40⟩) && decide (s.mode.due = 0) && decide (s.upd.abortWait = false))
      ({quiet with upd := {quiet.upd with ready := [node0]}, comp := {quiet.comp with waiting := [wait0 Pg.UPD 40]}}) (wait0 Pg.UPD 40)) &&
    ((fun (s : State) (w : Waiting) (p : Payload) => decide (s.live = true) && decide (grantPick s.comp = some w) && decide (w.page = Pg.UPD) && decide (w.num = 42 ∨ w.num = 43) && decide (s.mode.due = 0) && decide (s.upd.armed = [p]) && decide (s.upd.active = []) && decide (p.kind = Pk.app) && decide (s.ifaceOk [[]] p = true) && decide (s.cycNow = 1) && decide (s.gal.openOf Kind.image = none))
      ({runs with upd := {runs.upd with armed := [pay Pk.app 9]}, comp := {quiet.comp with waiting := [wait0 Pg.UPD 42]}}) (wait0 Pg.UPD 42) (pay Pk.app 9)) &&
    ((fun (s : State) (w : Waiting) (p : Payload) => decide (s.live = true) && decide (grantPick s.comp = some w) && decide (w.page = Pg.UPD) && decide (w.num = 42 ∨ w.num = 43) && decide (s.mode.due = 0) && decide (s.upd.armed = [p]) && decide (s.upd.active = []) && decide (p.kind = Pk.app) && decide (s.ifaceOk [[]] p = true) && decide (s.cycNow = 1) && decide (s.gal.openOf Kind.image = none))
      ({runs with upd := {runs.upd with armed := [pay Pk.app 9]}, comp := {quiet.comp with waiting := [wait0 Pg.UPD 43]}}) (wait0 Pg.UPD 43) (pay Pk.app 9))) = true := by decide +kernel

/-- The conditions of the clauses of CycleCommandsAndBoundaries are met together, each by the state and operands named. -/
theorem test_conditions_CycleCommandsAndBoundaries_1 : (
    ((fun (s : State) (m : Nat) (k : Nat) => decide (s.permits m Reg.CYC_CTL = true))
      stopped 0 2) &&
    ((fun (s : State) (m : Nat) (k : Nat) => decide (s.permits m Reg.CYC_CTL = true))
      runs 0 2) &&
    ((fun (s : State) (m : Nat) => decide (s.permits m Reg.CYC_CTL = true))
      stopped 0) &&
    ((fun (s : State) (m : Nat) => decide (s.permits m Reg.CYC_CTL = true))
      runs 0) &&
    ((fun (s : State) (m : Nat) => decide (s.permits m Reg.CYC_CTL = true))
      stopped 0) &&
    ((fun (s : State) (m : Nat) => decide (s.permits m Reg.CYC_CTL = true))
      runs 0) &&
    ((fun (s : State) (m : Nat) => decide (s.permits m Reg.CYC_CTL = true))
      stopped 0) &&
    ((fun (s : State) (m : Nat) => decide (s.permits m Reg.CYC_CTL = true))
      runs 0) &&
    ((fun (s : State) (o : OutImage) => decide (s.live = true) && decide (s.cycNow = 1) && decide (s.cyc.entry = none) && decide (s.cyc.skip = false) && decide (s.cyc.stopAt = 0) && decide (s.upd.exchange = none) && decide (o.writes = []) && decide (o.polValid = false))
      runs out0) &&
    ((fun (s : State) (o : OutImage) => decide (s.live = true) && decide (s.cycNow = 1) && decide (s.cyc.entry = none) && decide (s.cyc.skip = false) && decide (s.cyc.stopAt = 0) && decide (s.upd.exchange = none) && decide (o.writes = []) && decide (o.polValid = false) && decide (s.cyc.done = true))
      ({runs with cyc := {runs.cyc with done := true}}) out0) &&
    ((fun (s : State) (o : OutImage) => decide (s.live = true) && decide (s.cycNow = 1) && decide (s.cyc.entry = some 3) && decide (s.cyc.late = true) && decide (s.getF Fld.CYC_STATE_OVR_RUN + 1 < s.getF Fld.CYC_CFG_OVR_LIMIT))
      ({putR runs [(Reg.CYC_CFG, 0x0500)] with cyc := {runs.cyc with entry := some 3, late := true, skip := true}}) out0) &&
    ((fun (s : State) (o : OutImage) => decide (s.live = true) && decide (s.cycNow = 1) && decide (s.cyc.entry = none) && decide (s.cyc.skip = false) && decide (s.cyc.done = false) && decide (s.cyc.stopAt = 1) && decide (s.upd.exchange = none))
      ({runs with cyc := {runs.cyc with stopAt := 1}}) out0)) = true := by decide +kernel

/-- The conditions of the clauses of CycleCommandsAndBoundaries are met together, each by the state and operands named. -/
theorem test_conditions_CycleCommandsAndBoundaries_2 : (
    ((fun (s : State) (o : OutImage) => decide (s.live = true) && decide (s.cyc.entry = some 2 ∨ s.cyc.entry = some 3) && decide (s.cyc.late = false) && decide (s.getF Fld.CYC_STATE_OVR_RUN + 1 < s.getF Fld.CYC_CFG_OVR_LIMIT))
      ({putR runs [(Reg.CYC_CFG, 0x0500), (Reg.CYC_OVERRUNS, 9)] with cyc := {runs.cyc with entry := some 3}}) out0) &&
    ((fun (s : State) (o : OutImage) => decide (s.live = true) && decide (s.cyc.entry = some 2 ∨ s.cyc.entry = some 3) && decide (s.cyc.late = false))
      ({putR runs [(Reg.CYC_CFG, 0x0500)] with cyc := {runs.cyc with entry := some 2}}) out0) &&
    ((fun (s : State) (o : OutImage) => decide (s.live = true) && decide (s.cyc.entry = none) && decide (s.cyc.step = true) && decide (s.cyc.done = true) && decide (o.writes = []) && decide (o.polValid = false))
      ({holding with cyc := {holding.cyc with done := true, step := true}}) out0)) = true := by decide +kernel

/-- The conditions of the clauses of EntriesTrapsAndServices are met together, each by the state and operands named. -/
theorem test_conditions_EntriesTrapsAndServices_1 : (
    ((fun (s : State) (u : Nat) => decide (s.live = true) && decide (s.cyc.entry = some 3) && decide (u < 2 ^ 32) && decide (s.cyc.late = true ∨ s.cyc.inTime < 9) && decide (s.cyc.late = false))
      ({putR runs [(Reg.CYC_EXEC_MAX_US, 50)] with cyc := {runs.cyc with entry := some 3}}) 40) &&
    ((fun (s : State) (u : Nat) => decide (s.live = true) && decide (s.cyc.entry = some 3) && decide (u < 2 ^ 32) && decide (s.cyc.late = true ∨ s.cyc.inTime < 9))
      ({runs with cyc := {runs.cyc with entry := some 3, late := true}}) 70) &&
    ((fun (s : State) (u : Nat) => decide (s.live = true) && decide (s.cyc.entry = some 3) && decide (s.cyc.late = false) && decide (9 ≤ s.cyc.inTime) && decide (s.cycNow = 1) && decide (s.causeOn 0x2A = true))
      ({put runs [(causeBit 0x2A, 1)] with cyc := {runs.cyc with entry := some 3, inTime := 9}}) 40) &&
    ((fun (s : State) (u : Nat) (e : Nat) => decide (s.live = true) && decide (s.cyc.entry = some e) && decide (e < 2 ∨ (e = 2 ∧ s.cyc.image = none)))
      ({runs with cyc := {runs.cyc with entry := some 0}}) 40 0) &&
    ((fun (s : State) (u : Nat) (e : Nat) => decide (s.live = true) && decide (s.cyc.entry = some e) && decide (e < 2 ∨ (e = 2 ∧ s.cyc.image = none)))
      ({runs with cyc := {runs.cyc with entry := some 2, image := none}}) 40 2) &&
    ((fun (s : State) (u : Nat) (p : Payload) => decide (s.live = true) && decide (s.cyc.entry = some 2) && decide (s.cyc.image = some p) && decide (s.upd.active = [p.kind]) && decide (s.upd.anyFail = false))
      ({runs with cyc := {runs.cyc with entry := some 2}, upd := {runs.upd with active := [Pk.app], ready := [pay Pk.app 7]}}) 40 (pay Pk.app 7)) &&
    ((fun (s : State) (c : Nat) (pc : Nat) (p : Payload) => decide (s.live = true) && decide (s.cyc.entry = some 2) && decide (s.cyc.image = some p) && decide (s.upd.exchange = none))
      ({runs with cyc := {runs.cyc with entry := some 2}, upd := {runs.upd with active := [Pk.app], ready := [pay Pk.app 7]}}) 2 0x80000010 (pay Pk.app 7)) &&
    ((fun (s : State) (c : Nat) (pc : Nat) (e : Nat) => decide (s.live = true) && decide (s.cyc.entry = some e) && decide (s.upd.exchange = none) && decide (e ≠ 2))
      ({runs with cyc := {runs.cyc with entry := some 3}}) 2 0x100000080000000 3) &&
    ((fun (s : State) (c : Nat) (pc : Nat) (e : Nat) => decide (s.live = true) && decide (s.cyc.entry = some e) && decide (s.upd.exchange = none) && decide (e = 2))
      ({runs with cyc := {runs.cyc with entry := some 2}}) 0x18 0 2) &&
    ((fun (s : State) (pc : Nat) => decide (s.live = true) && decide (s.cyc.entry.isSome) && decide (s.cycNow = 1) && decide (s.cyc.entry ≠ some 2))
      ({runs with cyc := {runs.cyc with entry := some 3}}) 0x80000010) &&
    ((fun (s : State) => decide (s.live = true) && decide (s.cyc.entry = some 0 ∨ s.cyc.entry = some 1) && decide (s.upd.exchange = none))
      ({runs with cyc := {runs.cyc with entry := some 1}})) &&
    ((fun (s : State) (r : Bool) (c : Nat) (pc : Nat) => decide (s.live = true) && decide (s.cyc.svcRuns = true) && decide (r = false))
      ({runs with cyc := {runs.cyc with svcRuns := true}}) false 5 0x80000010)) = true := by decide +kernel

/-- The conditions of the clauses of EntriesTrapsAndServices are met together, each by the state and operands named. -/
theorem test_conditions_EntriesTrapsAndServices_2 : (
    ((fun (s : State) (r : Bool) (c : Nat) (pc : Nat) => decide (s.live = true) && decide (s.cyc.svcRuns = true) && decide (r = true))
      ({runs with cyc := {runs.cyc with svcRuns := true, svcTraps := [0]}}) true 0 0) &&
    ((fun (s : State) (p : Payload) => decide (s.live = true) && decide (s.cyc.image = some p) && decide (leAt p.body 13 1 % 2 = 1) && decide (s.cyc.svcTraps.length < 3))
      ({runs with cyc := {runs.cyc with image := some {pay Pk.app 7 with body := List.replicate 13 0 ++ [1]}}}) ({pay Pk.app 7 with body := List.replicate 13 0 ++ [1]})) &&
    ((fun (s : State) => decide (3 ≤ s.cyc.svcTraps.length))
      ({runs with cyc := {runs.cyc with svcTraps := [0, 0, 0]}})) &&
    ((fun (s : State) => decide (s.serving = true))
      ({runs with cyc := {runs.cyc with entry := some 3}})) &&
    ((fun (s : State) (a : Nat) => decide (s.serving = true))
      ({runs with cyc := {runs.cyc with svcRuns := true}}) 0x1FFFFFFFF) &&
    ((fun (s : State) => decide (s.serving = true))
      ({runs with cyc := {runs.cyc with entry := some 3}})) &&
    ((fun (s : State) (a : Nat) => decide (s.serving = false))
      up 5) &&
    ((fun (s : State) => decide (s.live = true) && decide (s.cyc.outNs.isSome) && decide (s.causeOn 0x2B = false) && decide (s.power = 0))
      ({holding with cyc := {holding.cyc with outNs := some 0}}))) = true := by decide +kernel

/-- The conditions of the clauses of ShadowRetainAndTimers are met together, each by the state and operands named. -/
theorem test_conditions_ShadowRetainAndTimers : (
    ((fun (s : State) => decide (s.live = true) && decide (s.cycNow = 1))
      runs) &&
    ((fun (s : State) (c : Copy) => decide (s.live = true) && decide (s.cyc.writing = some c) && decide (s.cyc.restart = none))
      ({runs with cyc := {runs.cyc with writing := some ⟨[], [], 0, 7, false, 0⟩}}) (⟨[], [], 0, 7, false, 0⟩)) &&
    ((fun (s : State) (c : Copy) => decide (s.live = true) && decide (s.cyc.writing = some c) && decide (s.cyc.restart = none))
      ({runs with cyc := {runs.cyc with writing := some ⟨[], [], 5, 7, false, 0⟩}}) (⟨[], [], 5, 7, false, 0⟩)) &&
    ((fun (s : State) (c : Copy) (k : Nat) => decide (s.live = true) && decide (s.cyc.writing = some c) && decide (s.cyc.restart = some k) && decide (s.cyc.shadowWant = false))
      ({runs with cyc := {runs.cyc with writing := some ⟨[], [], 0, 7, false, 0⟩, restart := some 5}}) (⟨[], [], 0, 7, false, 0⟩) 5) &&
    ((fun (s : State) (p : Payload) => decide (s.live = true) && decide (s.cyc.image = some p) && decide (s.cyc.retains = []))
      runs (pay Pk.app 7)) &&
    ((fun (s : State) (p : Payload) (c : Copy) (l : List Copy) => decide (s.live = true) && decide (s.cyc.image = some p) && decide (s.cyc.retains = c :: l) && decide (c.sealOk = true) && decide (c.vars = s.retainVars p.body))
      ({runs with cyc := {runs.cyc with retains := [⟨[], [], 0, 7, true, 0⟩]}}) (pay Pk.app 7) (⟨[], [], 0, 7, true, 0⟩) ([])) &&
    ((fun (s : State) (m : Nat) (n : Nat) (b : Bool) (x : Tmr) => decide (s.permits m (Reg.TMR_IO n) = true) && decide (n < 64) && decide (s.cyc.tmr[n]? = some x) && decide (x.kind ≠ 0))
      ({runs with cyc := {runs.cyc with tmr := List.replicate 64 { Tmr.reset with kind := 1, unit := 1, pt := 5 }}}) 0 63 true ({ Tmr.reset with kind := 1, unit := 1, pt := 5 })) &&
    ((fun (s : State) (m : Nat) (n : Nat) (b : Bool) (x : Tmr) => decide (s.permits m (Reg.TMR_IO n) = true) && decide (n < 64) && decide (s.cyc.tmr[n]? = some x) && decide (x.kind = 0))
      ({runs with cyc := {runs.cyc with tmr := List.replicate 64 Tmr.reset}}) 0 0 true (Tmr.reset)) &&
    ((fun (s : State) (m : Nat) (n : Nat) (v : Nat) (x : Tmr) => decide (s.permits m (Reg.TMR_PT n) = true) && decide (n < 64) && decide (s.cyc.tmr[n]? = some x))
      ({runs with cyc := {runs.cyc with tmr := List.replicate 64 { Tmr.reset with kind := 3, q := true, since := some 0, pt := 5 }}}) 0 1 0x100000009 ({ Tmr.reset with kind := 3, q := true, since := some 0, pt := 5 })) &&
    ((fun (s : State) (n : Nat) (x : Tmr) => decide (s.live = true) && decide (s.cyc.tmr[n]? = some x))
      ({runs with cyc := {runs.cyc with tmr := List.replicate 64 { Tmr.reset with kind := 3, q := true, since := some 0, pt := 0 }}}) 2 ({ Tmr.reset with kind := 3, q := true, since := some 0, pt := 0 }))) = true := by decide +kernel

/-- The conditions of the clauses of DriveLinkAndEnable are met together, each by the state and operands named. -/
theorem test_conditions_DriveLinkAndEnable_1 : (
    ((fun (s : State) => decide (s.live = true) && decide (s.variant ≠ .C))
      up) &&
    ((fun (s : State) => decide (s.live = true) && decide (s.variant ≠ .C))
      (put up [(Fld.DRV_PWM_STATUS_ENABLED, 1)])) &&
    ((fun (s : State) => decide (s.live = true) && decide (s.variant ≠ .C) && decide (s.arrivedNow statusKey = false) && decide (s.drv.imprint = true) && decide (s.power ≠ 0) && decide (s.causeOn 0x0C = false))
      (put {up with drv := {up.drv with imprint := true}} [(Fld.MODE_FUNC_STATE_POWER, 2)])) &&
    ((fun (s : State) => decide (s.live = true) && decide (s.variant ≠ .C) && decide (s.arrivedNow statusKey = false) && decide (s.drv.imprint = false ∨ s.power = 0))
      up) &&
    ((fun (s : State) => decide (s.arrivedNow (statusKey) = true))
      ({up with comp := {up.comp with occ := [(arrivalKey (statusKey), 0, 0)]}})) &&
    ((fun (s : State) => decide (s.live = true) && decide (s.variant ≠ .C) && decide (s.drv.imprint = true) && decide (s.drv.renew = true))
      ({up with drv := {up.drv with imprint := true, renew := true}})) &&
    ((fun (s : State) => decide (s.live = true) && decide (s.variant ≠ .C) && decide (s.drv.imprint = false))
      ({up with drv := {up.drv with imprint := false}})) &&
    ((fun (s : State) => decide (s.live = true) && decide (s.variant ≠ .C) && decide (s.drv.claimPending = true))
      ({up with drv := {up.drv with claimPending := true, claimEdition := 9}})) &&
    ((fun (s : State) => decide (s.live = true) && decide (s.variant ≠ .C) && decide (s.pwmCauses = 0) && decide (s.flag Fld.DRV_PWM_STATUS_ENABLED = false) && decide (s.getF Fld.DRV_CONT_STEP ≠ 8) && decide (s.pairU.swap ≠ 4))
      (put {up with drv := {up.drv with imprint := true, arm := true}} [(Fld.DRV_EN_LEVEL_A, 1), (Fld.DRV_EN_LEVEL_B, 1), (Fld.DRV_LINK_STATE, 2), (Fld.DRV_OS_STATUS_READY, 3)])) &&
    ((fun (s : State) (l : Nat) => decide (s.live = true) && decide (s.flag Fld.DRV_EN_LEVEL_A = true ∨ l = 0) && decide (s.flag Fld.DRV_EN_LEVEL_B = true ∨ l ≠ 0))
      (put up [(causeBit 0x0D, 1), (Fld.DRV_EN_LEVEL_A, 0), (Fld.DRV_EN_LEVEL_B, 1)]) 0) &&
    ((fun (s : State) (l : Nat) => decide (s.live = true) && decide (s.flag (if l = 0 then Fld.DRV_EN_PULL_A else Fld.DRV_EN_PULL_B) = false) && decide (s.causeOn 0x0D = false))
      up 0) &&
    ((fun (s : State) (l : Nat) => decide (s.live = true) && decide (s.flag (if l = 0 then Fld.DRV_EN_PULL_A else Fld.DRV_EN_PULL_B) = false) && decide (s.causeOn 0x0D = false))
      up 1)) = true := by decide +kernel

/-- The conditions of the clauses of DriveLinkAndEnable are met together, each by the state and operands named. -/
theorem test_conditions_DriveLinkAndEnable_2 : (
    ((fun (s : State) => decide (s.live = true) && decide (s.getF Fld.DRV_CONT_STEP = 1) && decide (s.drv.enLine = 0) && decide (s.variant = .C ∨ bitOf (s.getF Fld.DRV_OS_STATUS_READY) 2 = true))
      (put up [(Fld.DRV_CONT_STEP, 1), (Fld.DRV_OS_STATUS_READY, 4)])) &&
    ((fun (s : State) (a : Bool) (b : Bool) => decide (s.live = true) && decide (s.getF Fld.DRV_CONT_STEP = 1) && decide (a = false ∨ b = false) && decide (s.variant ≠ .C))
      (put up [(Fld.DRV_CONT_STEP, 1)]) false true) &&
    ((fun (s : State) (a : Bool) (b : Bool) => decide (s.live = true) && decide (s.getF Fld.DRV_CONT_STEP = 1) && decide (a = false ∨ b = false))
      (put upC [(Fld.DRV_CONT_STEP, 1)]) true false)) = true := by decide +kernel

/-- The conditions of the clauses of ContactorsAndFeedback are met together, each by the state and operands named. -/
theorem test_conditions_ContactorsAndFeedback_1 : (
    ((fun (s : State) (n : Bool) (p : Bool) (q : Bool) => decide (s.live = true) && decide (s.getF Fld.SIO_FB_ACCEPTED = b2n n + 2 * b2n p + 4 * b2n q) && decide (s.mode.row = 0) && decide (7 - s.getF Fld.SIO_FB_ACCEPTED = s.getF Fld.DRV_CONT_CMD))
      ({put up [(Fld.SIO_FB_ACCEPTED, 7)] with safe := {up.safe with fbHist := [7, 7, 7]}}) true true true) &&
    ((fun (s : State) (n : Bool) (p : Bool) (q : Bool) (l : List Nat) => decide (s.live = true) && decide (s.safe.fbHist = (b2n n + 2 * b2n p + 4 * b2n q) :: (b2n n + 2 * b2n p + 4 * b2n q) :: l) && decide (s.getF Fld.SIO_FB_ACCEPTED ≠ b2n n + 2 * b2n p + 4 * b2n q))
      ({put up [(Fld.SIO_FB_ACCEPTED, 7)] with safe := {up.safe with fbHist := [6, 6, 7]}}) false true true ([7])) &&
    ((fun (s : State) => decide (s.live = true) && decide (s.getF Fld.DRV_CONT_STEP ∈ [3, 4, 6, 7]) && decide (s.arrivedNow fbKey = false) && decide (s.variant ≠ .C))
      (put up [(Fld.DRV_CONT_STEP, 3)])) &&
    ((fun (s : State) => decide (s.live = true) && decide (s.getF Fld.DRV_CONT_STEP ∈ [3, 4, 6, 7]) && decide (s.arrivedNow fbKey = false))
      (put upC [(Fld.DRV_CONT_STEP, 7)])) &&
    ((fun (s : State) => decide (s.arrivedNow (fbKey) = true))
      ({up with comp := {up.comp with occ := [(arrivalKey (fbKey), 0, 0)]}})) &&
    ((fun (s : State) => decide (s.live = true) && decide (s.getF Fld.DRV_CONT_STEP = 9) && decide (s.allOpen = false) && decide (s.arrivedNow fbKey = false) && decide (s.variant ≠ .C) && decide (s.causeOn 0x11 = false))
      (put up [(Fld.DRV_CONT_STEP, 9), (Fld.SIO_FB_ACCEPTED, 5)])) &&
    ((fun (s : State) => decide (s.live = true) && decide (s.getF Fld.DRV_CONT_STEP = 5) && decide (s.variant ≠ .C))
      (put up [(Fld.DRV_CONT_STEP, 5)])) &&
    ((fun (s : State) => decide (s.live = true) && decide (s.getF Fld.DRV_CONT_STEP = 8) && decide (s.drv.arm = true) && decide (s.variant ≠ .C))
      (put {up with drv := {up.drv with arm := true}} [(Fld.DRV_CONT_STEP, 8)])) &&
    ((fun (s : State) => decide (s.live = true) && decide (s.variant ≠ .C) && decide (s.getF Fld.DRV_OS_STATUS_CONT_FB % 8 ≠ 7 - s.getF Fld.SIO_FB_ACCEPTED))
      (put up [(Fld.DRV_OS_STATUS_CONT_FB, 5)])) &&
    ((fun (s : State) => decide (s.live = true) && decide (7 - s.getF Fld.SIO_FB_ACCEPTED ≠ s.getF Fld.DRV_CONT_CMD) && decide (s.causeOn 0x10 = false))
      (put up [(Fld.SIO_FB_ACCEPTED, 6)])) &&
    ((fun (s : State) (r : Nat) => decide (s.live = true) && decide (r % 8 = 0) && decide (2 ≤ s.safe.fbTestPass))
      (put {up with safe := {up.safe with fbTestPass := 2}} [(causeBit 0x16, 1)]) 8) &&
    ((fun (s : State) (r : Nat) => decide (s.live = true) && decide (r % 8 = 0))
      up 0)) = true := by decide +kernel

/-- The conditions of the clauses of ContactorsAndFeedback are met together, each by the state and operands named. -/
theorem test_conditions_ContactorsAndFeedback_2 : (
    ((fun (s : State) (r : Nat) => decide (s.live = true) && decide (r % 8 ≠ 0) && decide (s.causeOn 0x16 = false))
      up 15)) = true := by decide +kernel

/-- The conditions of the clauses of RampsAndConnectAnswers are met together, each by the state and operands named. -/
theorem test_conditions_RampsAndConnectAnswers : (
    ((fun (s : State) => decide (s.live = true) && decide (s.variant = .C) && decide (s.safe.carrierReq = true) && decide (s.below5 = true))
      ({upC with safe := {up.safe with carrierReq := true}})) &&
    ((fun (s : State) => decide (s.live = true) && decide (s.variant = .C) && decide (s.safe.carrierReq = true) && decide (s.below5 = false))
      (putR {upC with safe := {up.safe with carrierReq := true}} [(Reg.VOTE_CUR_VOTED, 5000)])) &&
    ((fun (s : State) => decide (s.live = true) && decide (s.variant = .C) && decide (s.flag Fld.SAFE_STATE_FS_ACTIVE = true) && decide (s.power ≠ 0) && decide (s.getF Fld.DRV_CONT_STEP ≠ 9))
      (put upC [(Fld.SAFE_STATE_FS_ACTIVE, 1), (Fld.MODE_FUNC_STATE_POWER, 3)])) &&
    ((fun (s : State) (c : Nat) (a : Bool) => decide (s.live = true) && decide (s.variant = .C) && decide (s.mode.waitAck = true) && decide (s.cur = Md.starting) && decide (a = true) && decide (s.mode.waitOwt = true))
      ({put upC [(Fld.MODE_STATE_CURRENT, 8)] with mode := {up.mode with row := 3, waitAck := true, waitOwt := true}}) 0 true) &&
    ((fun (s : State) (c : Nat) (a : Bool) => decide (s.live = true) && decide (s.variant = .C) && decide (s.mode.waitAck = true) && decide (s.cur = Md.starting) && decide (a = false))
      ({put upC [(Fld.MODE_STATE_CURRENT, 8)] with mode := {up.mode with row := 3, waitAck := true, waitOwt := true}}) 1 false) &&
    ((fun (s : State) => decide (s.live = true) && decide (s.mode.waitAck = true) && decide (s.cur = Md.starting))
      ({put upC [(Fld.MODE_STATE_CURRENT, 8)] with mode := {up.mode with row := 3, waitAck := true}})) &&
    ((fun (s : State) => decide (s.live = true) && decide (s.flag Fld.SAFE_STATE_FS_ACTIVE = true) && decide (s.flag Fld.SAFE_STATE_NO_RAMP = false) && decide (s.power ≠ 0) && decide (s.getF Fld.DRV_CONT_STEP ≠ 9) && decide (s.variant ≠ .C))
      (put up [(Fld.SAFE_STATE_FS_ACTIVE, 1), (Fld.MODE_FUNC_STATE_POWER, 3)])) &&
    ((fun (s : State) => decide (s.live = true) && decide (s.flag Fld.SAFE_STATE_FS_ACTIVE = true) && decide (s.flag Fld.SAFE_STATE_NO_RAMP = true) && decide (s.power ≠ 0) && decide (s.getF Fld.DRV_CONT_STEP ≠ 9) && decide (s.flag Fld.VOTE_CH_STATE_CUR_VALID = false ∨ s.below5 = false))
      (put up [(Fld.SAFE_STATE_FS_ACTIVE, 1), (Fld.SAFE_STATE_NO_RAMP, 1), (Fld.MODE_FUNC_STATE_POWER, 3), (⟨Reg.VOTE_CUR_VOTED,31,0⟩, 5000)]))) = true := by decide +kernel

/-- The conditions of the clauses of SelfTestsAndSafetyInputs are met together, each by the state and operands named. -/
theorem test_conditions_SelfTestsAndSafetyInputs : (
    ((fun (s : State) => decide (s.live = true) && decide (s.causeOn 0x15 = false))
      up) &&
    ((fun (s : State) => decide (s.live = true) && decide (s.causeOn 0x15 = true))
      (put up [(causeBit 0x15, 1)])) &&
    ((fun (s : State) => decide (s.live = true) && decide (s.safe.lockstepHold = true))
      ({up with safe := {up.safe with lockstepHold := true}})) &&
    ((fun (s : State) => decide (s.live = true))
      up) &&
    ((fun (s : State) => decide (s.live = true))
      (put up [(causeBit 0x13, 1)])) &&
    ((fun (s : State) (b : Nat) => decide (s.live = true) && decide (s.causeOn 0x13 = false))
      up 3) &&
    ((fun (s : State) => decide (s.live = true) && decide (s.flag Fld.SAFE_STATE_ELLIPSIS = true) && decide (s.cur = Md.ellipsis) && decide (s.causeOn 0x12 = false))
      (put up [(Fld.SAFE_STATE_ELLIPSIS, 1), (Fld.MODE_STATE_CURRENT, 6)])) &&
    ((fun (s : State) (a : Nat) (b : Nat) (i : Nat) => decide (s.live = true) && decide (i < 8) && decide (s.getF (sioFld i) = 0) && decide (pairReads (s.getF (Fld.SIO_CFG_TYPE i)) (bitOf a i) (bitOf b i) = 1))
      (put up [(sioFld 0, 0)]) 0 0 0) &&
    ((fun (s : State) (a : Nat) (b : Nat) (i : Nat) => decide (s.live = true) && decide (i < 8) && decide (s.getF (sioFld i) = 0) && decide (pairReads (s.getF (Fld.SIO_CFG_TYPE i)) (bitOf a i) (bitOf b i) = 1) && decide (s.getF (Fld.SIO_CFG_FUNCTION i) = 1) && decide (s.causeOn 0x0F = false))
      (put up [(sioFld 7, 0), (Fld.SIO_CFG_FUNCTION 7, 1), (Fld.SIO_CFG_TYPE 7, 1)]) 0x7F 0xFF 7)) = true := by decide +kernel

/-- The conditions of the clauses of EstimationAnchorsAndHold are met together, each by the state and operands named. -/
theorem test_conditions_EstimationAnchorsAndHold_1 : (
    ((fun (s : State) (u : Used) => decide (s.live = true) && decide (s.est.used = some u) && decide (u.gaps = 0))
      ({up with est := {up.est with used := some (aUsed 0)}}) (aUsed 0)) &&
    ((fun (s : State) (u : Used) => decide (s.live = true) && decide (s.est.used = some u) && decide (u.gaps ≠ 0))
      ({up with est := {up.est with used := some (aUsed 1)}}) (aUsed 1)) &&
    ((fun (s : State) => decide (s.live = true) && decide (s.est.cells ≠ []) && decide (s.est.shadows.length = 2) && decide (s.est.shadowAt < 2))
      ({up with est := {up.est with cells := [CellEst.init PSet.zero 0 ⟨0,0,0,0⟩ F64.zero]}})) &&
    ((fun (s : State) => decide (s.live = true) && decide (s.est.cells ≠ []) && decide (s.est.shadows.length = 2) && decide (s.est.shadowAt < 2))
      ({up with est := {up.est with shadowAt := 1, cells := [CellEst.init PSet.zero 0 ⟨0,0,0,0⟩ F64.zero]}})) &&
    ((fun (s : State) (m : Nat) (v : Nat) => decide (s.permitsKeyed m Reg.EST_CAP_SET 0x52E7 = true))
      (put capUp [(Folio.LOCK_KEY Pg.EST, 0x52E7)]) 0 6) &&
    ((fun (s : State) (m : Nat) (v : Nat) => decide (s.permitsKeyed m Reg.EST_CAP_SET 0x52E7 = true))
      (put up [(Folio.LOCK_KEY Pg.EST, 0x52E7), (Fld.MODE_FUNC_STATE_POWER, 2)]) 0 0x100000006) &&
    ((fun (s : State) (m : Nat) (v : Nat) => decide (s.permits m Reg.EST_CAP_SET = true) && decide (s.keyOk m Pg.EST 0x52E7 = false))
      (put capUp [(Folio.LOCK_KEY Pg.EST, 5)]) 0 6) &&
    ((fun (s : State) (m : Nat) => decide (s.permits m Reg.EST_CTL = true))
      (put up [(Fld.MODE_STATE_CURRENT, 3)]) 0) &&
    ((fun (s : State) (m : Nat) => decide (s.permits m Reg.EST_CTL = true))
      (put up [(Fld.EST_STATE_ANCHOR, 2)]) 0) &&
    ((fun (s : State) => decide (s.live = true) && decide (s.getF Fld.EST_STATE_ANCHOR = 1))
      (put up [(Fld.EST_STATE_ANCHOR, 1)])) &&
    ((fun (s : State) => decide (s.live = true) && decide (s.getF Fld.EST_STATE_ANCHOR = 1) && decide (s.flag Fld.PROF_STATE_PENDING = true))
      (putR (put up [(Fld.EST_STATE_ANCHOR, 1), (Fld.PROF_STATE_PENDING, 1)]) [(Reg.PROF_PENDING_TARGET, 77)])) &&
    ((fun (s : State) => decide (s.live = true) && decide (s.flag Fld.EST_WARN_NO_ANCHOR = false) && decide (s.est.anchorH + 259200 ≤ s.hours))
      (putR up [(Reg.SYS_HOURS, 259200)]))) = true := by decide +kernel

/-- The conditions of the clauses of EstimationAnchorsAndHold are met together, each by the state and operands named. -/
theorem test_conditions_EstimationAnchorsAndHold_2 : (
    ((fun (s : State) (m : Nat) (v : Nat) => decide (s.permits m Reg.CELL_VIEW = true) && decide (v % 2 = 1))
      up 0 3) &&
    ((fun (s : State) (m : Nat) (v : Nat) => decide (s.permits m Reg.CELL_VIEW = true) && decide (v % 2 = 0))
      up 0 2) &&
    ((fun (s : State) => decide (s.live = true) && decide (s.getReg Reg.CELL_VIEW % 2 = 1))
      ({putR up [(Reg.CELL_VIEW, 1)] with est := {up.est with held := some ([], 0, 0)}}))) = true := by decide +kernel

/-- The conditions of the clauses of EthernetFramesAndDatagrams are met together, each by the state and operands named. -/
theorem test_conditions_EthernetFramesAndDatagrams : (
    ((fun (s : State) (p : Nat) (sp : Nat) (k : Bool) => decide (s.live = true) && decide (p < 2) && decide (s.flag (Fld.ETH_PORT_STATUS_LINK p) = false) && decide (s.flag (Fld.ETH_PORT_CTL_ENABLE p) = true) && decide (s.flag Fld.CLK_MON_ETH = false) && decide (s.advertised p sp = true))
      up 0 1 true) &&
    ((fun (s : State) (p : Nat) (sp : Nat) (k : Bool) => decide (s.live = true) && decide (p < 2) && decide (s.flag (Fld.ETH_PORT_STATUS_LINK p) = false) && decide (s.flag (Fld.ETH_PORT_CTL_ENABLE p) = true) && decide (s.flag Fld.CLK_MON_ETH = false) && decide (s.advertised p sp = true))
      up 1 2 true) &&
    ((fun (s : State) (p : Nat) (sp : Nat) (k : Bool) => decide (s.live = true) && decide (p < 2) && decide (s.flag (Fld.ETH_PORT_STATUS_LINK p) = true))
      ethUp 0 2 true) &&
    ((fun (s : State) (p : Nat) (f : EthFrame) => decide (s.live = true) && decide (p < 2) && decide (s.flag (Fld.ETH_PORT_STATUS_LINK p) = true) && decide (f.fcsOk = true) && decide (f.dst = s.macAddr) && decide (f.vlan = none) && decide (s.vlan = 0) && decide (handled f = false) && decide (f.etherType ≠ 0x8808) && decide (f.payload.length ≤ 1500) && decide (s.getReg (Reg.ETH_RX_HEAD p) ≠ s.getReg (Reg.ETH_RX_TAIL p)) && decide (bitOf (s.memWord (s.getReg (Reg.ETH_RX_BASE p) + 16 * s.getReg (Reg.ETH_RX_HEAD p) + 4)) 16 = true))
      ethRx 0 ef0) &&
    ((fun (s : State) (p : Nat) (f : EthFrame) => decide (s.live = true) && decide (p < 2) && decide (s.flag (Fld.ETH_PORT_STATUS_LINK p) = true) && decide (f.fcsOk = true) && decide (f.dst = s.macAddr) && decide (f.vlan = none) && decide (s.vlan = 0) && decide (handled f = false) && decide (f.etherType ≠ 0x8808) && decide (f.payload.length ≤ 1500) && decide (s.getReg (Reg.ETH_RX_HEAD p) = s.getReg (Reg.ETH_RX_TAIL p)))
      ethUp 1 ef0) &&
    ((fun (s : State) (p : Nat) (f : EthFrame) => decide (s.live = true) && decide (p < 2) && decide (s.flag (Fld.ETH_PORT_STATUS_LINK p) = true) && decide (f.fcsOk = false))
      ethUp 1 ({ef0 with fcsOk := false})) &&
    ((fun (s : State) (p : Nat) (f : EthFrame) (key : List Nat) (pl : List Nat) (fn : Nat) (c : Nat) => decide (s.hasIp p = true) && decide (f.fcsOk = true) && decide (s.accessKey 1 = some key) && decide (fn = 1 ∨ fn = 4) && decide (pl.length ≤ 64) && decide (pl.headD 0 ≠ 0x10) && decide (c < 2 ^ 32) && decide (((ipPart f.payload).2.2.drop 8).map (fun x => x % 256) = datagram key fn 5 c pl) && decide (datagramOk key (datagram key fn 5 c pl) = true) && decide ((∀ e ∈ s.eth.seen, e.1 = (ipPart f.payload).2.1 → e.2 < c)) && decide (s.getReg (Reg.ETH_RX_HEAD p) = s.getReg (Reg.ETH_RX_TAIL p)))
      plantKeyed 0 (dgram [4] 1 7) ([4]) ([1]) 1 7) &&
    ((fun (s : State) (p : Nat) (f : EthFrame) (key : List Nat) (pl : List Nat) (fn : Nat) (c : Nat) => decide (s.hasIp p = true) && decide (f.fcsOk = true) && decide (s.accessKey 1 = some key) && decide (fn = 1 ∨ fn = 4) && decide (pl.length ≤ 64) && decide (pl.headD 0 ≠ 0x10) && decide (c < 2 ^ 32) && decide (((ipPart f.payload).2.2.drop 8).map (fun x => x % 256) = datagram key fn 5 c pl) && decide (datagramOk key (datagram key fn 5 c pl) = true) && decide ((∀ e ∈ s.eth.seen, e.1 = (ipPart f.payload).2.1 → e.2 < c)) && decide (s.getReg (Reg.ETH_RX_HEAD p) = s.getReg (Reg.ETH_RX_TAIL p)))
      ({plantKeyed with eth := {plantKeyed.eth with seen := [(0x0A000009, 6)]}}) 1 (dgram [4] 4 7) ([4]) ([1]) 4 7) &&
    ((fun (s : State) (p : Nat) (f : EthFrame) => decide (s.hasIp p = true) && decide (f.fcsOk = true) && decide ((s.accessKey 1 = none ∨ s.accessKey 1 = some [4] ∧ datagramOk [4] (((ipPart f.payload).2.2.drop 8).map (fun x => x % 256)) = false)))
      ethUp 0 (dgram [4] 1 7)) &&
    ((fun (s : State) (p : Nat) (f : EthFrame) => decide (s.hasIp p = true) && decide (f.fcsOk = true) && decide ((s.accessKey 1 = none ∨ s.accessKey 1 = some [4] ∧ datagramOk [4] (((ipPart f.payload).2.2.drop 8).map (fun x => x % 256)) = false)))
      plantKeyed 1 (dgram [5] 1 7))) = true := by decide +kernel

/-- The conditions of the clauses of EthernetRepliesAndRings are met together, each by the state and operands named. -/
theorem test_conditions_EthernetRepliesAndRings : (
    ((fun (s : State) (p : Nat) (ip : Nat) (h : Nat) (l : Nat) => decide (s.hasIp p = true))
      ethUp 1 0x0A000009 2 3) &&
    ((fun (s : State) (p : Nat) (ip : Nat) (q : Nat) (h : Nat) (l : Nat) => decide (s.hasIp p = false ∨ ip ≠ s.getReg (Reg.ETH_IPV4 p)))
      ethUp 0 0x0A000009 1 2 3) &&
    ((fun (s : State) (p : Nat) (ip : Nat) (q : Nat) (h : Nat) (l : Nat) => decide (s.hasIp p = false ∨ ip ≠ s.getReg (Reg.ETH_IPV4 p)))
      up 0 0 1 2 3) &&
    ((fun (s : State) (p : Nat) (ip : Nat) (d : List Nat) => decide (s.hasIp p = true))
      ethUp 0 0x0A000009 ([1, 2])) &&
    ((fun (s : State) (p : Nat) (m : Nat) (v : Nat) => decide (s.permits m (Reg.ETH_TX_TAIL p) = true) && decide (p < 2) && decide (bitOf (s.memWord (s.getReg (Reg.ETH_TX_BASE p) + 16 * s.getReg (Reg.ETH_TX_HEAD p) + 4)) 17 = false))
      (ethTx 0x10040) 0 0 0x1003) &&
    ((fun (s : State) (p : Nat) (m : Nat) (v : Nat) => decide (s.permits m (Reg.ETH_TX_TAIL p) = true) && decide (p < 2) && decide (s.getReg (Reg.ETH_TX_HEAD p) = 0) && decide (s.headMark p = 0) && decide (s.eth.head.length = 2) && decide (s.getReg (Reg.ETH_TX_SIZE p) ≤ 4096) && decide (v % 4096 = 1) && decide (s.getReg (Reg.ETH_TX_SIZE p) ≠ 1) && decide (s.getReg (Reg.ETH_TX_SIZE p) ≠ 0) && decide (isRam (s.getReg (Reg.ETH_TX_BASE p) + 4) = true) && decide (s.memWord (s.getReg (Reg.ETH_TX_BASE p) + 4) = 0x70040) && decide (s.future (s.memWord (s.getReg (Reg.ETH_TX_BASE p) + 8)) = false))
      ({ethTx 0x70040 with time := {up.time with now := 50}}) 0 0 1) &&
    ((fun (s : State) (p : Nat) (m : Nat) (v : Nat) => decide (s.permits m (Reg.ETH_RX_TAIL p) = true))
      ethRx 1 0 0x1FFF) &&
    ((fun (s : State) (p : Nat) (d : Nat) => decide (s.live = true) && decide (p < 2) && decide (s.txHead p = some d) && decide (bitOf (s.memWord (d + 4)) 17 = true) && decide (s.headMark p = 0) && decide (s.future (s.memWord (d + 8)) = false) && decide (s.sinceLaunch (s.memWord (d + 8)) ≤ 4))
      ({ethTx 0x30040 with time := {up.time with now := 2}}) 0 0x80000000) &&
    ((fun (s : State) (p : Nat) (f : Nat) (d : Nat) => decide (s.live = true) && decide (p < 2) && decide (s.txHead p = some d) && decide (isRam (d + 4) = true) && decide (s.flag (Fld.ETH_PORT_STATUS_LINK p) = true) && decide (s.vlan = 0) && decide (s.memWord (d + 4) = 0x110040) && decide (s.getReg (Reg.ETH_TX_TAIL p) = 1) && decide (s.getReg (Reg.ETH_TX_HEAD p) = 0) && decide (s.getReg (Reg.ETH_TX_SIZE p) ≠ 1) && decide (s.getReg (Reg.ETH_TX_SIZE p) ≠ 0) && decide (s.getReg (Reg.ETH_TX_SIZE p) ≤ 4096))
      (ethTx 0x110040) 0 777 0x80000000) &&
    ((fun (s : State) (p : Nat) (f : Nat) => decide (s.txHead p = none))
      ethUp 0 777) &&
    ((fun (s : State) (m : Nat) => decide (s.live = true))
      ({ethUp with ticks := 75000000000, eth := {ethUp.eth with macs := [(7, 0, 0), (8, 1, 0)]}}) 7)) = true := by decide +kernel

/-- The conditions of the clauses of PartnerLinkAndClockMonitor are met together, each by the state and operands named. -/
theorem test_conditions_PartnerLinkAndClockMonitor_1 : (
    ((fun (s : State) (f : PlnkFrame) => decide (s.plnkRx = true) && decide (f.fcsOk = true) && decide (f.edition = s.getReg Reg.PAIR_EDITION) && decide (f.frag + 1 < f.frags) && decide ((f.frag = 0 ∧ s.eth.frags = []) ∨ s.eth.frags = [⟨f.type, f.msg, f.frag⟩]))
      (put stby [(Fld.PLNK_LINK_ENABLE, 1)]) pf0) &&
    ((fun (s : State) (f : PlnkFrame) => decide (s.plnkRx = true) && decide (f.fcsOk = true) && decide (f.edition = s.getReg Reg.PAIR_EDITION) && decide (f.frag + 1 < f.frags) && decide ((f.frag = 0 ∧ s.eth.frags = []) ∨ s.eth.frags = [⟨f.type, f.msg, f.frag⟩]))
      (put {stby with eth := {stby.eth with frags := [⟨2, 9, 1⟩]}} [(Fld.PLNK_LINK_ENABLE, 1)]) ({pf0 with frag := 1})) &&
    ((fun (s : State) (f : PlnkFrame) => decide (s.plnkRx = true) && decide (f.fcsOk = true) && decide (f.edition = s.getReg Reg.PAIR_EDITION) && decide (f.type = 2) && decide (f.frag ≠ 0) && decide (s.eth.frags = [⟨2, f.msg, 1⟩]) && decide (f.frag ≠ 1))
      (put {stby with eth := {stby.eth with frags := [⟨2, 9, 1⟩]}} [(Fld.PLNK_LINK_ENABLE, 1)]) ({pf0 with frag := 2})) &&
    ((fun (s : State) (f : PlnkFrame) => decide (s.plnkRx = true) && decide (f.fcsOk = true) && decide (f.edition < s.getReg Reg.PAIR_EDITION) && decide (f.type ≠ 1) && decide (f.type ≠ 0x0B))
      (putR (put stby [(Fld.PLNK_LINK_ENABLE, 1)]) [(Reg.PAIR_EDITION, 4)]) ({pf0 with edition := 3})) &&
    ((fun (s : State) => decide (s.paired = true) && decide (s.flag Fld.PLNK_LINK_UP = true) && decide (s.pstate ≠ Ps.holder) && decide (s.getF Fld.PAIR_HB_PULSE = 1) && decide (s.standby = true) && decide (s.flag Fld.PAIR_STATE_BLIND = false))
      (put stby [(Fld.PLNK_LINK_UP, 1)])) &&
    ((fun (s : State) => decide (s.paired = true) && decide (s.flag Fld.PLNK_LINK_UP = true) && decide (s.pstate ≠ Ps.holder))
      (put paired [(Fld.PLNK_LINK_UP, 1)])) &&
    ((fun (s : State) => decide (s.paired = true) && decide (s.flag Fld.PLNK_LINK_ENABLE = true) && decide (s.flag Fld.PLNK_LINK_UP = false) && decide (s.flag Fld.CLK_MON_ETH = false) && decide (3 ≤ s.pairU.linkGood))
      (put {stby with pairU := {stby.pairU with linkGood := 3}} [(Fld.PLNK_LINK_ENABLE, 1), (Fld.PAIR_HB_LINK, 2)])) &&
    ((fun (s : State) (c : Nat) (n : Nat) => decide (s.live = true) && decide (c < 9) && decide (c ≠ 6) && decide (200 * ((n : Int) - nominalCount c).natAbs ≤ nominalCount c) && decide (s.getReg Reg.CLK_FREQ_SEL = c))
      (putR up [(Reg.CLK_FREQ_SEL, 8)]) 8 199000) &&
    ((fun (s : State) (c : Nat) (n : Nat) => decide (s.live = true) && decide (c < 9) && decide (c ≠ 6) && decide (200 * ((n : Int) - nominalCount c).natAbs ≤ nominalCount c))
      up 1 100500) &&
    ((fun (s : State) (c : Nat) (n : Nat) => decide (s.live = true) && decide (c < 9) && decide (c ≠ 6) && decide (200 * ((n : Int) - nominalCount c).natAbs ≤ nominalCount c))
      ({up with aux := {up.aux with badClocks := [3]}}) 3 40200) &&
    ((fun (s : State) (c : Nat) (n : Nat) => decide (s.live = true) && decide (c < 9) && decide (c ≠ 6) && decide (nominalCount c < 200 * ((n : Int) - nominalCount c).natAbs) && decide (c ∈ s.aux.badClocks))
      ({up with aux := {up.aux with badClocks := [1]}}) 1 100501) &&
    ((fun (s : State) (c : Nat) (n : Nat) => decide (s.live = true) && decide (c < 9) && decide (s.flag Fld.CLK_MON_ETH = false) && decide (nominalCount c < 200 * ((n : Int) - nominalCount c).natAbs) && decide (c ∉ s.aux.badClocks))
      up 1 99499)) = true := by decide +kernel

/-- The conditions of the clauses of PartnerLinkAndClockMonitor are met together, each by the state and operands named. -/
theorem test_conditions_PartnerLinkAndClockMonitor_2 : (
    ((fun (s : State) (n : Nat) => decide (s.live = true) && decide (s.flag Fld.CLK_MON_ETH = false) && decide (nominalCount 6 < 200 * ((n : Int) - nominalCount 6).natAbs) && decide (6 ∈ s.aux.badClocks) && decide (s.pstate ≠ Ps.holder))
      ({ethUp with aux := {up.aux with badClocks := [6]}}) 25200)) = true := by decide +kernel

/-- The conditions of the clauses of LoopSlotsAndThermalHold are met together, each by the state and operands named. -/
theorem test_conditions_LoopSlotsAndThermalHold_1 : (
    ((fun (s : State) (m : Nat) (r : Bool) (v : Nat) => decide (s.permits m (if r then Reg.LOOP_SEL_ROUTE else Reg.LOOP_SEL_CFG) = true) && decide (s.loops.length = 8) && decide (s.cfgCheck (s.loops.set s.loopSel (s.cfgWritten r v)) s.loopSel = 0))
      (putR up [(Reg.LOOP_SEL, 2)]) 0 false 0x10000A03) &&
    ((fun (s : State) (m : Nat) (r : Bool) (v : Nat) => decide (s.permits m (if r then Reg.LOOP_SEL_ROUTE else Reg.LOOP_SEL_CFG) = true) && decide (s.loops.length = 8) && decide (s.cfgCheck (s.loops.set s.loopSel (s.cfgWritten r v)) s.loopSel = 0))
      (putR up [(Reg.LOOP_SEL, 10)]) 0 true 0x300) &&
    ((fun (s : State) (m : Nat) (r : Bool) (v : Nat) => decide (s.permits m (if r then Reg.LOOP_SEL_ROUTE else Reg.LOOP_SEL_CFG) = true) && decide (s.cfgCheck (s.loops.set s.loopSel (s.cfgWritten r v)) s.loopSel ≠ 0))
      (putR up [(Reg.LOOP_SEL, 2)]) 0 false 1) &&
    ((fun (s : State) (m : Nat) (b : Bool) => decide (s.permits m Reg.LOOP_SEL_CTL = true) && decide (s.loops.length = 8) && decide (2 ≤ s.loopSel))
      (putR up [(Reg.LOOP_SEL, 7)]) 0 true) &&
    ((fun (s : State) (m : Nat) (b : Bool) => decide (s.permits m Reg.LOOP_SEL_CTL = true) && decide (s.loops.length = 8) && decide (s.loopSel < 2))
      (putR up [(Reg.LOOP_SEL, 1)]) 0 true) &&
    ((fun (s : State) (m : Nat) => decide (s.permits m Reg.LOOP_SEL_CTL = true) && decide (s.loops.length = 8) && decide ((s.slot s.loopSel).swapPend = false) && decide ((s.slot s.loopSel).state ≠ 6))
      (putR up [(Reg.LOOP_SEL, 3)]) 0) &&
    ((fun (s : State) (m : Nat) => decide (s.permits m Reg.LOOP_SEL_CTL = true) && decide (s.loops.length = 8) && decide ((s.slot s.loopSel).swapPend = true))
      (putR {up with loops := up.loops.map (fun x => {x with swapPend := true})} [(Reg.LOOP_SEL, 3)]) 0) &&
    ((fun (s : State) (m : Nat) => decide (s.permits m Reg.LOOP_SEL_CTL = true) && decide (s.loops.length = 8) && decide ((s.slot s.loopSel).swapPend = false) && decide ((s.slot s.loopSel).state = 6))
      (putR {up with loops := up.loops.map (fun x => {x with state := 6})} [(Reg.LOOP_SEL, 3)]) 0) &&
    ((fun (s : State) (m : Nat) (k : Nat) => decide (s.permits m Reg.LOOP_SWAP_MULTI = true) && decide (s.loops.length = 8) && decide ((∀ x ∈ s.loops, x.swapPend = false ∧ x.state ≠ 6)))
      up 0 0xA5) &&
    ((fun (s : State) (m : Nat) => decide (s.permits m Reg.LOOP_SEL_CTL = true) && decide (s.loops.length = 8) && decide (2 ≤ s.loopSel ∧ ((s.slot s.loopSel).state = 4 ∨ (s.slot s.loopSel).state = 5) ∧ (s.slot s.loopSel).stale = false ∧ (s.slot s.loopSel).frozen = false))
      (putR {up with loops := up.loops.map (fun x => {x with state := 5})} [(Reg.LOOP_SEL, 2)]) 0) &&
    ((fun (s : State) (m : Nat) => decide (s.permits m Reg.LOOP_SEL_CTL = true) && decide (s.loops.length = 8) && decide (s.loopSel < 2 ∨ ((s.slot s.loopSel).state ≠ 4 ∧ (s.slot s.loopSel).state ≠ 5) ∨ (s.slot s.loopSel).stale = true ∨ (s.slot s.loopSel).frozen = true))
      (putR {up with loops := up.loops.map (fun x => {x with state := 1})} [(Reg.LOOP_SEL, 2)]) 0) &&
    ((fun (s : State) (i : Nat) => decide (s.live = true) && decide (2 ≤ i) && decide (i < s.loops.length) && decide ((s.slot i).kind = 3) && decide ((s.slot i).restart = false) && decide ((s.slot i).swapPend = false) && decide ((s.slot i).manual = true))
      ({up with loops := up.loops.map (fun x => {x with cfg := 3, state := 2, manual := true, manOut := 0xFFFFFF})}) 2)) = true := by decide +kernel

/-- The conditions of the clauses of LoopSlotsAndThermalHold are met together, each by the state and operands named. -/
theorem test_conditions_LoopSlotsAndThermalHold_2 : (
    ((fun (s : State) (i : Nat) => decide (s.live = true) && decide (i < s.loops.length) && decide ((s.slot i).kind ≠ 0) && decide ((s.slot i).state = 1 ∨ (s.slot i).state = 3) && decide (s.arrivedNow (srcKey (if i < 2 then 0xFF else (s.slot i).src)) = false) && decide (2 ≤ i))
      ({up with loops := up.loops.map (fun x => {x with cfg := 3, state := 1})}) 2) &&
    ((fun (s : State) (i : Nat) => decide (s.live = true) && decide (i < s.loops.length) && decide ((s.slot i).kind ≠ 0) && decide ((s.slot i).state = 1 ∨ (s.slot i).state = 3) && decide (s.arrivedNow (srcKey (if i < 2 then 0xFF else (s.slot i).src)) = false) && decide (i < 2) && decide (s.power ≠ 0) && decide (s.causeOn 0x0B = false))
      ({put up [(Fld.MODE_FUNC_STATE_POWER, 2)] with loops := up.loops.map (fun x => {x with cfg := 1, state := 1})}) 0) &&
    ((fun (s : State) (i : Nat) => decide (s.arrivedNow (srcKey (if i < 2 then 0xFF else (s.slot i).src)) = true))
      ({up with comp := {up.comp with occ := [(arrivalKey (srcKey 0xFF), 0, 0)]}}) 1) &&
    ((fun (s : State) (i : Nat) => decide (s.arrivedNow (srcKey (if i < 2 then 0xFF else (s.slot i).src)) = true))
      ({up with comp := {up.comp with occ := [(arrivalKey (srcKey (up.slot 2).src), 0, 0)]}}) 2) &&
    ((fun (s : State) (i : Nat) => decide (s.live = true) && decide (2 ≤ i) && decide (i < s.loops.length) && decide ((s.slot i).state = 4))
      ({up with loops := up.loops.map (fun x => {x with cfg := 3, state := 4, fallback := 7})}) 7)) = true := by decide +kernel

/-- The conditions of the clauses of ProfileTargetsAndThermalInputs are met together, each by the state and operands named. -/
theorem test_conditions_ProfileTargetsAndThermalInputs_1 : (
    ((fun (s : State) => decide (s.live = true) && decide (s.baseSource = Src.zero))
      (putR up [(Reg.PROF_REF, 7)])) &&
    ((fun (s : State) => decide (s.live = true))
      (put up [(Fld.MODE_FUNC_STATE_POWER, 2), (Fld.DRV_PWM_STATUS_ENABLED, 1), (Fld.MODE_STATE_CURRENT, 3)])) &&
    ((fun (s : State) (m : Nat) (v : Nat) => decide (s.permits m Reg.PROF_TARGET = true) && decide (s.flag Fld.SAFE_STATE_FS_ACTIVE = false) && decide (s.prof.anchor = false))
      (putR up [(Reg.MRG_POL_ICHG, 500), (Reg.MRG_POL_IDIS, 400)]) 0 501) &&
    ((fun (s : State) (m : Nat) (v : Nat) => decide (s.permits m Reg.PROF_TARGET = true) && decide (s.flag Fld.SAFE_STATE_FS_ACTIVE = false) && decide (s.prof.anchor = false))
      (putR up [(Reg.MRG_POL_ICHG, 500), (Reg.MRG_POL_IDIS, 400)]) 0 0xFFFFFE70) &&
    ((fun (s : State) (m : Nat) (v : Nat) => decide (s.permits m Reg.PROF_TARGET = true) && decide (s.flag Fld.SAFE_STATE_FS_ACTIVE = true ∨ s.prof.anchor = true) && decide (s.flag Fld.SAFE_STATE_FS_ACTIVE = false))
      ({putR up [(Reg.MRG_POL_ICHG, 500), (Reg.MRG_POL_IDIS, 400)] with prof := {up.prof with anchor := true}}) 0 500) &&
    ((fun (s : State) (m : Nat) (v : Nat) => decide (s.permits m Reg.PROF_TARGET = true) && decide (s.flag Fld.SAFE_STATE_FS_ACTIVE = true ∨ s.prof.anchor = true) && decide (s.flag Fld.SAFE_STATE_FS_ACTIVE = true))
      (put up [(Fld.SAFE_STATE_FS_ACTIVE, 1)]) 0 7) &&
    ((fun (s : State) (m : Nat) (k : Nat) (v : Nat) => decide (s.permits m (profLimReg k) = true) && decide ((profRange k).1 ≤ v ∧ v ≤ (profRange k).2))
      up 0 0 100000) &&
    ((fun (s : State) (m : Nat) (k : Nat) (v : Nat) => decide (s.permits m (profLimReg k) = true) && decide (v < (profRange k).1 ∨ (profRange k).2 < v))
      up 0 2 4000000001) &&
    ((fun (s : State) (a : Option Int) (b : Option Int) (c : Option Int) (d : Option Int) => decide (s.live = true))
      (putR up [(Reg.THM_TIN_CFG, 0x95)]) (some 5) none (some (-3)) (some 7)) &&
    ((fun (s : State) (a : Nat) (b : Nat) (f : Nat) => decide (s.live = true) && decide (30 * a < 65535000) && decide (6 * f < 65535 * max 1 ((s.record.map (fun r => r.flowPpl)).getD 1)))
      up 70001 2000000000 3) &&
    ((fun (s : State) (a : Nat) (b : Nat) (f : Nat) => decide (s.live = true) && decide (30 * b < 65535000) && decide (65535000 ≤ 30 * a))
      up 2000000000 70 3) &&
    ((fun (s : State) (k : Nat) => decide (s.live = true) && decide (k < 2) && decide (s.getReg (Reg.THM_TACH_A + 4 * k) < s.getReg Reg.THM_TACH_MIN) && decide (2000 ≤ s.getReg (Reg.THM_OUT_FAN_A + 4 * k)))
      (putR up [(Reg.THM_TACH_MIN, 5), (Reg.THM_OUT_FAN_A, 2000)]) 0)) = true := by decide +kernel

/-- The conditions of the clauses of ProfileTargetsAndThermalInputs are met together, each by the state and operands named. -/
theorem test_conditions_ProfileTargetsAndThermalInputs_2 : (
    ((fun (s : State) => decide (s.live = true) && decide (s.getReg Reg.THM_FLOW < s.getReg Reg.THM_FLOW_MIN) && decide (2000 ≤ s.getReg Reg.THM_OUT_PUMP))
      (putR up [(Reg.THM_FLOW_MIN, 5), (Reg.THM_OUT_PUMP, 2000)]))) = true := by decide +kernel

/-- The conditions of the clauses of ChannelsAndOffsets are met together, each by the state and operands named. -/
theorem test_conditions_ChannelsAndOffsets_1 : (
    ((fun (s : State) (f : ChanFrame) (v : Int) (b : Bool) => decide (s.live = true) && decide (s.stopped4 = false) && decide (s.curRaw 0 f.curA = some (v, b)) && decide (bitOf (s.getF Fld.MEAS_CH_FLAGS_OFFSET_HIGH) 0 = false) && decide (b = true ∨ 1200000 < (v - s.offsetMa 0).natAbs) && decide (bitOf (s.getF Fld.MEAS_CH_FLAGS_OVERRANGE) 0 = false))
      ({up with record := some plain}) (frame 1200001) 1200001 false) &&
    ((fun (s : State) (f : ChanFrame) (v : Int) (b : Bool) => decide (s.live = true) && decide (s.stopped4 = false) && decide (s.curRaw 0 f.curA = some (v, b)) && decide (bitOf (s.getF Fld.MEAS_CH_FLAGS_OFFSET_HIGH) 0 = false))
      ({up with record := some plain}) (frame (-320000001)) (-320000000) true) &&
    ((fun (s : State) (f : ChanFrame) (r : PlantRecord) (k : Int) => decide (s.live = true) && decide (s.stopped4 = false) && decide (s.record = some r) && decide (f.curA.length = 20) && decide ((∀ x ∈ f.curA, x.natAbs ≤ 320000000)) && decide (0 < r.cur.shuntA) && decide (f.curA.sum * ((if r.cur.negA = true then -1 else 1) * (1000000 + r.cur.gainA)) = k * (20000 * r.cur.shuntA : Nat)) && decide (bitOf (s.getF Fld.MEAS_CH_FLAGS_OFFSET_HIGH) 0 = false))
      ({up with record := some plain}) (frame 1200) plain 1200) &&
    ((fun (s : State) (f : ChanFrame) (r : PlantRecord) (k : Int) => decide (s.live = true) && decide (s.stopped4 = false) && decide (s.record = some r) && decide (f.curA.length = 20) && decide ((∀ x ∈ f.curA, x.natAbs ≤ 320000000)) && decide (0 < r.cur.shuntA) && decide (f.curA.sum * ((if r.cur.negA = true then -1 else 1) * (1000000 + r.cur.gainA)) = k * (20000 * r.cur.shuntA : Nat)) && decide (bitOf (s.getF Fld.MEAS_CH_FLAGS_OFFSET_HIGH) 0 = false))
      ({up with record := some {plain with cur := {plain.cur with shuntA := 25, negA := true, gainA := 1000000}}}) (frame 300) ({plain with cur := {plain.cur with shuntA := 25, negA := true, gainA := 1000000}}) (-1200)) &&
    ((fun (s : State) (f : ChanFrame) => decide (s.stopped4 = true))
      (put {up with phase := .starting} [(Fld.AUX_START_STATUS_STEP, 3)]) (frame 5)) &&
    ((fun (s : State) (f : ChanFrame) => decide (s.live = true))
      quietUp (frame 7000)) &&
    ((fun (s : State) => decide (s.live = true) && decide (s.meas.hvMissing = 3) && decide (s.meas.hvLost = false))
      ({up with meas := {up.meas with hvMissing := 3}})) &&
    ((fun (s : State) (c : Nat) => decide (s.live = true) && decide (c < 6) && decide (s.excluded c = true) && decide (s.power = 0) && decide (s.flag Fld.VOTE_READMIT_ENABLE = true) && decide (((quantChans (c / 3)).filter (fun j => j != c)).all (fun j => !s.excluded j) = true) && decide (100000 * s.getF Fld.VOTE_READMIT_AGREE_S ≤ (s.meas.agree[c]?).getD 0))
      ({put up [(chStateFld 4, 2), (Fld.VOTE_READMIT_ENABLE, 1), (chStateFld 3, 0), (chStateFld 5, 0)] with meas := {up.meas with agree := [0,0,0,0,900000000,0]}}) 4) &&
    ((fun (s : State) => decide (s.live = true) && decide (s.cur = Md.survey) && decide (s.flag Fld.MODE_STATE_CONTACTORS = false) && decide (s.power = 0))
      (put up [(Fld.MODE_STATE_CURRENT, 2)])) &&
    ((fun (s : State) (ms : List (Nat × Int)) (n : Nat) (m : Nat) (p : Nat) (k : Int) (x : Int) (y : Int) => decide (s.live = true) && decide (s.meas.calibrating = true) && decide (s.calTotal ms = [(n, 10 * n * k), (m, x), (p, y)]) && decide (90000 ≤ n) && decide (m < 90000) && decide (p < 90000) && decide ((10 * n * k).natAbs ≤ s.ofsLim * n) && decide (-32768 ≤ k) && decide (k ≤ 32767))
      ({up with meas := {up.meas with calibrating := true, cal := [(90000, -6300000), (89999, 5), (0, 0)]}, record := some {plain with ofsLim := 500}}) ([]) 90000 89999 0 (-7) 5 0) &&
    ((fun (s : State) (ms : List (Nat × Int)) (n : Nat) (m : Nat) (p : Nat) (k : Int) (x : Int) (y : Int) => decide (s.live = true) && decide (s.meas.calibrating = true) && decide (s.calTotal ms = [(n, 10 * n * k), (m, x), (p, y)]) && decide (90000 ≤ n) && decide (m < 90000) && decide (p < 90000) && decide ((10 * n * k).natAbs ≤ s.ofsLim * n) && decide (-32768 ≤ k) && decide (k ≤ 32767))
      ({up with meas := {up.meas with calibrating := true, cal := [(1, -70), (0, 0), (0, 0)]}, record := some {plain with ofsLim := 500}}) ([(99999, -6999930), (89999, 5)]) 100000 89999 0 (-7) 5 0) &&
    ((fun (s : State) (ms : List (Nat × Int)) (m : Nat) (p : Nat) (n : Nat) (x : Int) (y : Int) (z : Int) => decide (s.live = true) && decide (s.meas.calibrating = true) && decide (s.calTotal ms = [(m, x), (p, y), (n, z)]) && decide (90000 ≤ n) && decide (m < 90000) && decide (p < 90000) && decide (s.ofsLim * n < z.natAbs))
      ({up with meas := {up.meas with calibrating := true, cal := [(0, 0), (89999, 5), (90000, -45000001)]}, record := some {plain with ofsLim := 500}}) ([]) 0 89999 90000 0 5 (-45000001))) = true := by decide +kernel

/-- The conditions of the clauses of ChannelsAndOffsets are met together, each by the state and operands named. -/
theorem test_conditions_ChannelsAndOffsets_2 : (
    ((fun (s : State) (ms : List (Nat × Int)) (l : List (Nat × Int)) => decide (s.live = true) && decide (s.meas.calibrating = true) && decide (s.calTotal ms = l) && decide (l ≠ []) && decide ((∀ p ∈ l, p.1 < 90000)))
      ({up with meas := {up.meas with calibrating := true, cal := [(89999, 5), (0, 0), (7, -3)]}}) ([]) ([(89999, 5), (0, 0), (7, -3)]))) = true := by decide +kernel

/-- The conditions of the clauses of InsulationAndCharge are met together, each by the state and operands named. -/
theorem test_conditions_InsulationAndCharge : (
    ((fun (s : State) (r : Nat) (c : Nat) (l : Nat) => decide (s.live = true) && decide (s.imdInjects = true) && decide (s.getF Fld.MEAS_IMD_RESULT_STATE < 2) && decide (s.meas.loopOpen = false) && decide (s.getF Fld.MEAS_IMD_LEVELS_WARN_KOHM < min r 20001) && decide (s.getF Fld.MEAS_IMD_LEVELS_ALARM_KOHM < min r 20001))
      (put imdUp [(Fld.MEAS_IMD_LEVELS_WARN_KOHM, 500), (Fld.MEAS_IMD_LEVELS_ALARM_KOHM, 100)]) 501 6000 101) &&
    ((fun (s : State) (r : Nat) (c : Nat) (l : Nat) => decide (s.live = true) && decide (s.imdInjects = true) && decide (s.getF Fld.MEAS_IMD_RESULT_STATE < 2) && decide (s.meas.loopOpen = false) && decide (s.getF Fld.MEAS_IMD_LEVELS_WARN_KOHM < min r 20001) && decide (s.getF Fld.MEAS_IMD_LEVELS_ALARM_KOHM < min r 20001))
      (put imdUp [(Fld.MEAS_IMD_LEVELS_WARN_KOHM, 500), (Fld.MEAS_IMD_LEVELS_ALARM_KOHM, 100)]) 20001 5000 100) &&
    ((fun (s : State) (r : Nat) (c : Nat) (l : Nat) => decide (s.live = true) && decide (s.imdInjects = true) && decide (s.getF Fld.MEAS_IMD_RESULT_STATE < 3) && decide (r ≤ s.getF Fld.MEAS_IMD_LEVELS_ALARM_KOHM) && decide (r ≤ 20000) && decide (s.meas.loopOpen = false) && decide (s.causeOn 0x27 = false))
      (put imdUp [(Fld.MEAS_IMD_LEVELS_WARN_KOHM, 500), (Fld.MEAS_IMD_LEVELS_ALARM_KOHM, 100)]) 100 0 0) &&
    ((fun (s : State) => decide (s.live = true) && decide (s.imdForced = none) && decide (s.meas.loopOpen = false) && decide (s.getF Fld.MEAS_IMD_RESULT_STATE ≠ 6))
      imdUp) &&
    ((fun (s : State) => decide (s.live = true) && decide (s.getF Fld.MEAS_IMD_RESULT_STATE = 6) && decide (s.imdForced = none))
      (put {imdUp with meas := {imdUp.meas with loopOpen := true}} [(Fld.MEAS_IMD_RESULT_STATE, 6)])) &&
    ((fun (s : State) => decide (s.live = true) && decide (s.getF Fld.MEAS_IMD_RESULT_STATE = 6))
      (put {imdUp with meas := {imdUp.meas with loopOpen := true}} [(Fld.MEAS_IMD_RESULT_STATE, 6), (Fld.MEAS_IMD_CTL_ENABLE, 0)])) &&
    ((fun (s : State) (m : Nat) => decide (s.permits m Reg.MEAS_IMD_CTL = true) && decide (s.imdInjects = true))
      imdUp 0) &&
    ((fun (s : State) => decide (s.live = true) && decide (s.meas.imdWait = true) && decide (s.imdForced = none))
      ({imdUp with meas := {imdUp.meas with imdWait := true}})) &&
    ((fun (s : State) (m : Nat) (v : Nat) => decide (s.permitsKeyed m Reg.MEAS_CHG_CLR 0x1F6A = true) && decide (bitOf v 0 = true))
      (putR (put up [(Folio.LOCK_KEY Pg.MEAS, 0x1F6A)]) [(Reg.MEAS_CHG_ACC_LO, 5), (Reg.MEAS_CHG_GAP, 7)]) 0 1) &&
    ((fun (s : State) => decide (s.live = true))
      (putR up [(Reg.MEAS_CHG_IN_LO, 5), (Reg.MEAS_CHG_OUT_HI, 7)]))) = true := by decide +kernel

/-- The conditions of the clauses of ModeRequestsAndStopLatch are met together, each by the state and operands named. -/
theorem test_conditions_ModeRequestsAndStopLatch : (
    ((fun (s : State) (m : Nat) (v : Nat) => decide (s.permits m Reg.MODE_REQUEST = true) && decide (m ≠ 5 ∨ v % 16 = Md.dormant ∨ v % 16 = Md.survey))
      up 0 0x2a03) &&
    ((fun (s : State) (m : Nat) (v : Nat) => decide (s.permits m Reg.MODE_REQUEST = true) && decide (m ≠ 5 ∨ v % 16 = Md.dormant ∨ v % 16 = Md.survey))
      up 1 0x0102) &&
    ((fun (s : State) (m : Nat) (v : Nat) => decide (s.permits m Reg.MODE_REQUEST = true) && decide (m ≠ 5 ∨ v % 16 = Md.dormant ∨ v % 16 = Md.survey))
      (put up [(⟨Folio.OWNER Pg.MODE,4,0⟩,31)]) 5 0x12FF02) &&
    ((fun (s : State) (v : Nat) => decide (s.permits 5 Reg.MODE_REQUEST = true) && decide (v % 16 ≠ Md.dormant) && decide (v % 16 ≠ Md.survey))
      (put up [(⟨Folio.OWNER Pg.MODE,4,0⟩,31)]) 0x1203) &&
    ((fun (s : State) => decide (s.live = true) && decide (s.cur = Md.starting) && decide (s.mode.row = 3) && decide (s.power = 1))
      starting) &&
    ((fun (s : State) => decide (s.live = true) && decide (s.mode.row = 11) && decide (s.power = 3) && decide (s.getF Fld.DRV_CONT_STEP ≠ 9) && decide (s.below5 = false) && decide (s.causeOn 0x17 = false) && decide (s.pair = false ∨ s.pstate = Ps.holder) && decide (s.leavingAssay = false))
      (put {up with mode := {up.mode with row := 11}} [(Fld.MODE_FUNC_STATE_POWER, 3),(⟨Reg.VOTE_CUR_VOTED,31,0⟩,7000)])) &&
    ((fun (s : State) (m : Nat) (v : Nat) => decide (s.permitsKeyed m Reg.MODE_LATCH_CLR 0x3A7D = true) && decide (v % 65536 = 0x5C1E) && decide (s.latchMayClear = true))
      (put latched [(Folio.LOCK_KEY Pg.MODE, 0x3A7D)]) 0 0x5C1E) &&
    ((fun (s : State) (m : Nat) (v : Nat) => decide (s.permits m Reg.MODE_LATCH_CLR = true) && decide (s.keyOk m Pg.MODE 0x3A7D = false ∨ v % 65536 ≠ 0x5C1E ∨ s.latchMayClear = false))
      latched 0 0x5C1E) &&
    ((fun (s : State) (m : Nat) (v : Nat) => decide (s.permits m Reg.MODE_LATCH_CLR = true) && decide (s.keyOk m Pg.MODE 0x3A7D = false ∨ v % 65536 ≠ 0x5C1E ∨ s.latchMayClear = false))
      (put latched [(Folio.LOCK_KEY Pg.MODE, 0x3A7D)]) 0 0x5C1F)) = true := by decide +kernel

/-- The conditions of the clauses of WakeClocksAndWatchdog are met together, each by the state and operands named. -/
theorem test_conditions_WakeClocksAndWatchdog : (
    ((fun (s : State) (b : Nat) => decide (s.phase = .dormant) && decide (b < 8) && decide (b = 7 ∨ bitOf (s.getReg Reg.MODE_WAKE_EN) b = true))
      asleep 7) &&
    ((fun (s : State) (b : Nat) => decide (s.phase = .dormant) && decide (b < 8) && decide (b = 7 ∨ bitOf (s.getReg Reg.MODE_WAKE_EN) b = true))
      (put asleep [(⟨Reg.MODE_WAKE_EN,7,0⟩,1)]) 0) &&
    ((fun (s : State) => decide (s.phase = .dormant) && decide (s.getReg Reg.MODE_WAKE_TIMER ≠ 0) && decide (bitOf (s.getReg Reg.MODE_WAKE_EN) 3 = true))
      (put asleep [(⟨Reg.MODE_WAKE_EN,7,0⟩,8),(⟨Reg.MODE_WAKE_TIMER,31,0⟩,60)])) &&
    ((fun (s : State) (n : Nat) => decide (s.live = true) && decide (s.aux.oscCheck = true) && decide (¬ 32768 < 100 * ((10 * n : Int) - 32768).natAbs))
      ({up with aux := {up.aux with oscCheck := true}}) 3276) &&
    ((fun (s : State) (n : Nat) => decide (s.live = true) && decide (s.aux.oscCheck = true) && decide (32768 < 100 * ((10 * n : Int) - 32768).natAbs))
      ({up with aux := {up.aux with oscCheck := true}}) 3400) &&
    ((fun (s : State) => decide (s.live = true))
      up) &&
    ((fun (s : State) => decide (s.live = true) && decide (s.getReg Reg.CLK_ROOT_PPB ≠ 0x80000000) && decide (s.getReg Reg.CLK_DRIFT_LIM < (sInt 32 (s.getReg Reg.CLK_ROOT_PPB)).natAbs))
      (putR up [(Reg.CLK_ROOT_PPB, 0xFFFF0000),(Reg.CLK_DRIFT_LIM, 65535)])) &&
    ((fun (s : State) (m : Nat) (v : Nat) => decide (s.live = true) && decide (m < 2) && decide (v % 65536 = (if s.cyc.kick = 0x55AA then 0xAA55 else 0x55AA)))
      up 0 0x55AA) &&
    ((fun (s : State) (m : Nat) (v : Nat) => decide (s.live = true) && decide (m < 2) && decide (v % 65536 = (if s.cyc.kick = 0x55AA then 0xAA55 else 0x55AA)))
      ({up with cyc := {up.cyc with kick := 0x55AA}}) 1 0xAA55) &&
    ((fun (s : State) (m : Nat) (v : Nat) => decide (s.live = true) && decide (m < 2) && decide (v % 65536 ≠ (if s.cyc.kick = 0x55AA then 0xAA55 else 0x55AA)))
      up 0 0xAA55) &&
    ((fun (s : State) => decide (s.live = true))
      up)) = true := by decide +kernel

/-- The conditions of the clauses of ResetAndServiceButton are met together, each by the state and operands named. -/
theorem test_conditions_ResetAndServiceButton_1 : (
    ((fun (s : State) => decide (s.phase = .held) && decide (bitOf s.aux.hold 0 = true))
      held) &&
    ((fun (s : State) => decide (s.phase ≠ .held))
      up) &&
    ((fun (s : State) => decide (s.phase = .held) && decide (bitOf s.aux.hold 1 = true))
      ({held with aux := {held.aux with hold := 2}})) &&
    ((fun (s : State) (b : BootResult) => decide (s.phase = .held) && decide (s.aux.hold = 0) && decide (s.flag Fld.CLK_PLL_LOCKED = true) && decide (s.upd.nextStart = []) && decide (b.safeOk = true) && decide ((s.bankOf Pk.safe ((s.resetStart b).bankNo Pk.safe)).isSome = true) && decide (b.selfTestOk = true) && decide (s.record = none))
      startable bootOk) &&
    ((fun (s : State) (b : BootResult) => decide (s.phase = .held) && decide (s.aux.hold = 0) && decide (s.flag Fld.CLK_PLL_LOCKED = true) && decide (b.safeOk = false) && decide (b.safeOtherOk = false))
      startable ({bootOk with safeOk := false})) &&
    ((fun (s : State) (b : Bool) => decide (s.phase = .held))
      held true) &&
    ((fun (s : State) (b : Bool) => decide (s.phase = .held))
      held false) &&
    ((fun (s : State) => decide (s.live = true) && decide (s.aux.svcIgnore = false))
      up) &&
    ((fun (s : State) (ms : Nat) => decide (s.live = true) && decide (s.aux.svcIgnore = false) && decide (s.flag Fld.AUX_SVC_PRESSED = true) && decide (ms < 3000))
      (put up [(Fld.AUX_SVC_PRESSED,1),(Fld.CYC_STATE_STATE,3)]) 2999) &&
    ((fun (s : State) (ms : Nat) => decide (s.live = true) && decide (s.aux.svcIgnore = false) && decide (s.flag Fld.AUX_SVC_PRESSED = true) && decide (3000 ≤ ms) && decide (ms ≤ 8000))
      (put up [(Fld.AUX_SVC_PRESSED,1)]) 3000) &&
    ((fun (s : State) (ms : Nat) => decide (s.live = true) && decide (s.aux.svcIgnore = false) && decide (s.flag Fld.AUX_SVC_PRESSED = true))
      (put up [(Fld.AUX_SVC_PRESSED,1)]) 8000) &&
    ((fun (s : State) (ms : Nat) => decide (s.live = true) && decide (s.aux.svcIgnore = false) && decide (s.flag Fld.AUX_SVC_PRESSED = true) && decide (8000 < ms))
      (put up [(Fld.AUX_SVC_PRESSED,1)]) 8001)) = true := by decide +kernel

/-- The conditions of the clauses of ResetAndServiceButton are met together, each by the state and operands named. -/
theorem test_conditions_ResetAndServiceButton_2 : (
    ((fun (s : State) => decide (s.live = true) && decide (s.flag Fld.AUX_SVC_PRESSED = true) && decide (s.flag Fld.AUX_SVC_STUCK = false))
      (put up [(Fld.AUX_SVC_PRESSED,1)]))) = true := by decide +kernel

/-- The conditions of the clauses of RestartsAddressesAndPins are met together, each by the state and operands named. -/
theorem test_conditions_RestartsAddressesAndPins_1 : (
    ((fun (s : State) (m : Nat) => decide (s.permitsKeyed m Reg.AUX_RESTART 0x7E44 = true))
      (put up [(Folio.LOCK_KEY Pg.AUX,0x7E44),(Fld.CYC_STATE_STATE,3)]) 0) &&
    ((fun (s : State) (m : Nat) => decide (s.permitsKeyed m Reg.AUX_RESTART 0x7E44 = true))
      (put up [(Folio.LOCK_KEY Pg.AUX,0x7E44)]) 0) &&
    ((fun (s : State) (m : Nat) (v : Nat) => decide (s.permitsKeyed m Reg.AUX_ADDR_SET 0x2D91 = true) && decide (s.power = 0) && decide (v % 128 ≤ 120))
      (put up [(Folio.LOCK_KEY Pg.AUX,0x2D91)]) 0 120) &&
    ((fun (s : State) (m : Nat) (v : Nat) => decide (s.permitsKeyed m Reg.AUX_ADDR_SET 0x2D91 = true) && decide (s.power = 0) && decide (v % 128 ≤ 120))
      (put up [(Folio.LOCK_KEY Pg.AUX,0x2D91)]) 0 0) &&
    ((fun (s : State) (c : Nat) (a : Nat) => decide (s.live = true) && decide (c < 2) && decide (bitOf (s.getF Fld.AUX_WALK_CTL_BUS) c = true))
      (put up [(Fld.AUX_WALK_CTL_BUS,3)]) 0 1) &&
    ((fun (s : State) (c : Nat) (a : Nat) => decide (s.live = true) && decide (c < 2) && decide (bitOf (s.getF Fld.AUX_WALK_CTL_BUS) c = true))
      (put up [(Fld.AUX_WALK_CTL_BUS,3)]) 1 120) &&
    ((fun (s : State) (c : Nat) => decide (s.live = true) && decide (c < 2) && decide (bitOf (s.getF Fld.AUX_WALK_CTL_BUS) c = true) && decide (s.power = 0))
      (put up [(Fld.AUX_WALK_CTL_BUS,3),(Fld.AUX_ADDR_STRING_ADDR,5)]) 0) &&
    ((fun (s : State) (c : Nat) (r : Nat) (p : Nat) (h : Nat) (l : Nat) => decide (s.live = true) && decide (c < 2) && decide (bitOf (s.getF Fld.AUX_WALK_CTL_BUS) c = true) && decide (s.fromPartner r p h l = false) && decide (s.getF Fld.AUX_ADDR_STRING_ADDR ≠ 0) && decide (h ≠ s.getReg Reg.SYS_SERIAL_HI ∨ l ≠ s.getReg Reg.SYS_SERIAL_LO))
      (put up [(Fld.AUX_WALK_CTL_BUS,1),(Fld.AUX_ADDR_STRING_ADDR,5)]) 0 0 0 77 0) &&
    ((fun (s : State) (c : Nat) => decide (s.live = true) && decide (s.aux.takenWait = some c))
      ({up with aux := {up.aux with takenWait := some 1}}) 1) &&
    ((fun (s : State) (b : Bool) => decide (s.live = true))
      up true) &&
    ((fun (s : State) (b : Bool) => decide (s.live = true))
      up true) &&
    ((fun (s : State) (b : Bool) => decide (s.live = true))
      up false)) = true := by decide +kernel

/-- The conditions of the clauses of RestartsAddressesAndPins are met together, each by the state and operands named. -/
theorem test_conditions_RestartsAddressesAndPins_2 : (
    ((fun (s : State) (k : Nat) (b : Bool) => decide (s.live = true) && decide (k < 4))
      up 3 true) &&
    ((fun (s : State) (k : Nat) (b : Bool) => decide (s.live = true) && decide (k < 4))
      up 0 false)) = true := by decide +kernel

/-- The conditions of the clauses of HeartbeatsAndPartner are met together, each by the state and operands named. -/
theorem test_conditions_HeartbeatsAndPartner_1 : (
    ((fun (s : State) => decide (s.paired = true) && decide (s.eth.txq = []))
      hold) &&
    ((fun (s : State) => decide (s.paired = true) && decide (s.plnkOn = false))
      (stby.setF Fld.PLNK_LINK_ENABLE 0)) &&
    ((fun (s : State) => decide (s.paired = true))
      (put stby [(Fld.PAIR_STATE_PSTATE, 6)] |> fun s => {s with pairU := {s.pairU with hbCounter := 19}})) &&
    ((fun (s : State) => decide (s.paired = true) && decide (s.plnkOn = true) && decide (s.eth.txq = []) && decide (s.eth.txBusy ≤ s.localNs) && decide (s.pstate ≠ Ps.resync))
      hold) &&
    ((fun (s : State) => decide (s.paired = true) && decide (s.plnkOn = true) && decide (s.eth.txq = []) && decide (s.eth.txBusy ≤ s.localNs) && decide (s.pstate ≠ Ps.resync))
      ({stby with ticks := 700})) &&
    ((fun (s : State) (hb : HeartbeatMsg) => decide (s.plnkRx = true) && decide (hb.edition ≤ s.getReg Reg.PAIR_EDITION) && decide (s.pstate ≠ Ps.split) && decide (s.flag Fld.PAIR_STATE_BLIND = false))
      (put hold [(Fld.PAIR_HB_LINK, 2)]) hb0) &&
    ((fun (s : State) (hb : HeartbeatMsg) => decide (s.plnkRx = true) && decide (hb.edition ≤ s.getReg Reg.PAIR_EDITION) && decide (s.pstate ≠ Ps.split) && decide (s.flag Fld.PAIR_STATE_BLIND = false))
      stby hb0) &&
    ((fun (s : State) (hb : HeartbeatMsg) => decide (s.plnkRx = true) && decide (hb.edition ≤ s.getReg Reg.PAIR_EDITION) && decide (s.pstate ≠ Ps.split) && decide (s.flag Fld.PAIR_STATE_BLIND = false) && decide (s.flag Fld.PAIR_STATE_PARTNER_PRESENT = false) && decide (s.getF Fld.PAIR_HB_LINK = 2) && decide (2 ≤ s.pairU.linkGood))
      (put (State.setB {stby with pairU := {stby.pairU with linkGood := 2}} Fld.PAIR_STATE_PARTNER_PRESENT false) [(Fld.PAIR_HB_LINK, 2)]) hb0) &&
    ((fun (s : State) (hb : HeartbeatMsg) => decide (s.plnkRx = true) && decide (s.getReg Reg.PAIR_EDITION < hb.edition) && decide (s.pstate = Ps.holder ∨ s.pstate = Ps.claiming) && decide (s.flag Fld.PAIR_STATE_BLIND = false))
      hold ({hb0 with edition := 3})) &&
    ((fun (s : State) (hb : HeartbeatMsg) => decide (s.plnkRx = true) && decide (s.getReg Reg.PAIR_EDITION < hb.edition) && decide (s.pstate = Ps.holder ∨ s.pstate = Ps.claiming) && decide (s.flag Fld.PAIR_STATE_BLIND = false))
      (put hold [(Fld.PAIR_STATE_PSTATE, 2)]) ({hb0 with edition := 3})) &&
    ((fun (s : State) (w : Nat) (g : Nat) => decide (s.paired = true) && decide ((pulseOf w).isSome) && decide (s.getF Fld.PAIR_HB_PULSE ≠ 1 ∨ (4000 ≤ g ∧ g ≤ 6000)) && decide (s.pstate ≠ Ps.split) && decide (s.getF Fld.PAIR_HB_LINK = 1))
      stby 100 5000) &&
    ((fun (s : State) (w : Nat) (g : Nat) => decide (s.paired = true) && decide ((pulseOf w).isSome) && decide (s.getF Fld.PAIR_HB_PULSE ≠ 1 ∨ (4000 ≤ g ∧ g ≤ 6000)) && decide (s.pstate ≠ Ps.split) && decide (s.flag Fld.PAIR_STATE_PARTNER_PRESENT = false) && decide (s.getF Fld.PAIR_HB_PULSE = 2) && decide (2 ≤ s.pairU.pulseGood) && decide (4000 ≤ g) && decide (g ≤ 6000))
      (put {stby with pairU := {stby.pairU with pulseGood := 2}} [(Fld.PAIR_HB_PULSE, 2), (Fld.PAIR_STATE_PARTNER_PRESENT, 0)]) 276 4000)) = true := by decide +kernel

/-- The conditions of the clauses of HeartbeatsAndPartner are met together, each by the state and operands named. -/
theorem test_conditions_HeartbeatsAndPartner_2 : (
    ((fun (s : State) (w : Nat) (g : Nat) => decide (s.paired = true) && decide ((pulseOf w).isSome) && decide (s.getF Fld.PAIR_HB_PULSE ≠ 1 ∨ (4000 ≤ g ∧ g ≤ 6000)) && decide (s.pstate ≠ Ps.split))
      ({stby with pairU := {stby.pairU with pulseGood := 2}}) 524 6000) &&
    ((fun (s : State) (w : Nat) (g : Nat) => decide (s.paired = true) && decide ((pulseOf w).isSome) && decide (s.getF Fld.PAIR_HB_PULSE ≠ 1 ∨ (4000 ≤ g ∧ g ≤ 6000)) && decide (s.pstate ≠ Ps.split) && decide (s.getF Fld.PAIR_HB_LINK ≠ 1) && decide (pulseOf w = some 2))
      (put stby [(Fld.PAIR_HB_LINK, 2), (Fld.PAIR_HB_PULSE, 2)]) 300 0) &&
    ((fun (s : State) (w : Nat) (g : Nat) => decide (s.paired = true) && decide (pulseOf w = none ∨ (s.getF Fld.PAIR_HB_PULSE = 1 ∧ (g < 4000 ∨ 6000 < g))))
      stby 125 5000) &&
    ((fun (s : State) (w : Nat) (g : Nat) => decide (s.paired = true) && decide (pulseOf w = none ∨ (s.getF Fld.PAIR_HB_PULSE = 1 ∧ (g < 4000 ∨ 6000 < g))))
      stby 25 5000) &&
    ((fun (s : State) (w : Nat) (g : Nat) => decide (s.paired = true) && decide (pulseOf w = none ∨ (s.getF Fld.PAIR_HB_PULSE = 1 ∧ (g < 4000 ∨ 6000 < g))))
      ({stby with pairU := {stby.pairU with pulseGood := 2}}) 100 6001) &&
    ((fun (s : State) (p : Nat) => decide (s.paired = true) && decide (s.getF (if p = 0 then Fld.PAIR_HB_LINK else Fld.PAIR_HB_PULSE) ≠ 2) && decide (s.arrivedNow (hbKey p) = false))
      stby 0) &&
    ((fun (s : State) (p : Nat) => decide (s.paired = true) && decide (s.getF (if p = 0 then Fld.PAIR_HB_LINK else Fld.PAIR_HB_PULSE) ≠ 2) && decide (s.arrivedNow (hbKey p) = false))
      stby 1) &&
    ((fun (s : State) (p : Nat) => decide (s.paired = true) && decide (s.getF (if p = 0 then Fld.PAIR_HB_LINK else Fld.PAIR_HB_PULSE) ≠ 2) && decide (s.arrivedNow (hbKey p) = false))
      (put stby [(Fld.PAIR_HB_PULSE, 2), (Fld.TIME_SYNC_STATE_STATE, 5)]) 0) &&
    ((fun (s : State) (p : Nat) => decide (s.arrivedNow (hbKey p) = true))
      ({stby with comp := {up.comp with occ := [(arrivalKey (hbKey 1), 0, 0)]}}) 1) &&
    ((fun (s : State) => decide (s.paired = true) && decide (s.phase = .up) && decide (s.getF Fld.PAIR_HB_LINK = 2) && decide (s.getF Fld.PAIR_HB_PULSE = 2) && decide (s.flag Fld.PAIR_STATE_PARTNER_PRESENT = true) && decide (s.arrivedNow (hbKey 0) = false) && decide (s.arrivedNow (hbKey 1) = false) && decide (s.standby = false ∨ s.getF Fld.DRV_LINK_HOLDER ≠ 3 - s.ownPort ∨ s.pairU.leaseNs = none))
      (put stby [(Fld.PAIR_HB_LINK, 2), (Fld.PAIR_HB_PULSE, 2)])) &&
    ((fun (s : State) => decide (s.paired = true) && decide (s.phase = .up) && decide (s.getF Fld.PAIR_HB_LINK = 2) && decide (s.getF Fld.PAIR_HB_PULSE = 2) && decide (s.flag Fld.PAIR_STATE_PARTNER_PRESENT = true) && decide (s.arrivedNow (hbKey 0) = false) && decide (s.arrivedNow (hbKey 1) = false) && decide (s.standby = true) && decide (s.getF Fld.DRV_LINK_HOLDER = 3 - s.ownPort) && decide (s.pairU.leaseNs = some s.localNs))
      (put {stby with pairU := {stby.pairU with leaseNs := some 0}} [(Fld.PAIR_HB_LINK, 2), (Fld.PAIR_HB_PULSE, 2), (Fld.DRV_LINK_HOLDER, 2)]))) = true := by decide +kernel

/-- The conditions of the clauses of ClaimsAndImprint are met together, each by the state and operands named. -/
theorem test_conditions_ClaimsAndImprint_1 : (
    ((fun (s : State) => decide (s.mayClaim = true) && decide (s.pair = true))
      (put paired [(Fld.PAIR_CTL_CLAIM_EN, 1), (Fld.DRV_LINK_STATE, 2)] |> fun s => {s with drv := {s.drv with statusSeen := true}})) &&
    ((fun (s : State) => decide (s.mayClaim = true))
      (put {up with record := some plain} [(Fld.MODE_STATE_CURRENT, 2)])) &&
    ((fun (s : State) (m : Nat) => decide (s.permits m Reg.PAIR_CTL = true) && decide (s.pair = true) && decide (s.mayClaim = true))
      (put paired [(Fld.PAIR_CTL_CLAIM_EN, 1), (Fld.DRV_LINK_STATE, 2)] |> fun s => {s with drv := {s.drv with statusSeen := true}}) 0) &&
    ((fun (s : State) (m : Nat) => decide (s.permits m Reg.PAIR_CTL = true) && decide (s.pair = false ∨ s.mayClaim = false))
      paired 0) &&
    ((fun (s : State) (m : Nat) => decide (s.permits m Reg.PAIR_CTL = true) && decide (s.pair = false ∨ s.mayClaim = false))
      up 1) &&
    ((fun (s : State) => decide (s.live = true) && decide (s.drv.claimPending = true) && decide (s.pair = true))
      ({hold with drv := {hold.drv with claimPending := true}})) &&
    ((fun (s : State) => decide (s.live = true) && decide (s.drv.claimPending = true) && decide (s.pair = false))
      ({up with drv := {up.drv with claimPending := true}})) &&
    ((fun (s : State) (st : StatusMsg) => decide (s.live = true) && decide (s.variant ≠ .C) && decide (st.crcOk = true) && decide (st.edition ≤ s.getReg Reg.PAIR_EDITION) && decide (s.drv.claimPending = false) && decide (s.drv.imprint = false) && decide (s.pstate ≠ Ps.init) && decide (s.pstate ≠ Ps.split) && decide (s.pairU.swap = 0) && decide (s.flag Fld.SAFE_STATE_NO_RAMP = false) && decide (s.upd.load = none))
      stby (⟨0, 0, 5, 7, 1, 0, 3, 20, 0, true⟩)) &&
    ((fun (s : State) (st : StatusMsg) => decide (s.live = true) && decide (s.variant ≠ .C) && decide (st.crcOk = true) && decide (st.edition ≤ s.getReg Reg.PAIR_EDITION) && decide (s.drv.claimPending = false) && decide (s.drv.imprint = false) && decide (s.pstate ≠ Ps.init) && decide (s.pstate ≠ Ps.split) && decide (s.pairU.swap = 0) && decide (s.flag Fld.SAFE_STATE_NO_RAMP = false) && decide (s.upd.load = none))
      (put up [(causeBit 0x0C, 1), (Fld.PAIR_STATE_PSTATE, 0)]) (⟨0, 0, 5, 7, 1, 0, 3, 20, 0, true⟩)) &&
    ((fun (s : State) (st : StatusMsg) => decide (s.live = true) && decide (s.variant ≠ .C) && decide (st.crcOk = true) && decide (st.edition ≤ s.getReg Reg.PAIR_EDITION) && decide (s.drv.claimPending = false) && decide (s.drv.imprint = false) && decide (s.pstate ≠ Ps.init) && decide (s.pstate ≠ Ps.split) && decide (s.pairU.swap = 0) && decide (s.flag Fld.SAFE_STATE_NO_RAMP = false) && decide (s.upd.load = none) && decide (bitOf st.ready 4 = true) && decide (bitOf (s.getF Fld.DRV_OS_STATUS_READY) 4 = false))
      (put stby []) (⟨0, 0, 5, 7, 16, 0, 3, 20, 0, true⟩)) &&
    ((fun (s : State) (st : StatusMsg) => decide (s.live = true) && decide (s.variant ≠ .C) && decide (st.crcOk = false))
      up (⟨0, 0, 5, 7, 1, 0, 3, 20, 0, false⟩)) &&
    ((fun (s : State) (st : StatusMsg) => decide (s.live = true) && decide (s.variant ≠ .C) && decide (s.pair = false) && decide (st.crcOk = true) && decide (s.drv.claimPending = true) && decide (s.drv.imprint = false) && decide (st.result = 1))
      ({put up [(Fld.MODE_STATE_CURRENT, 2)] with drv := {up.drv with claimPending := true}}) (⟨1, 1, 5, 7, 1, 0, 3, 20, 1, true⟩))) = true := by decide +kernel

/-- The conditions of the clauses of ClaimsAndImprint are met together, each by the state and operands named. -/
theorem test_conditions_ClaimsAndImprint_2 : (
    ((fun (s : State) (st : StatusMsg) => decide (s.live = true) && decide (s.variant ≠ .C) && decide (st.crcOk = true) && decide (st.edition ≤ s.getReg Reg.PAIR_EDITION) && decide (s.drv.claimPending = false) && decide (s.drv.imprint = true) && decide (st.holder ≠ s.ownPort))
      ({up with drv := {up.drv with imprint := true, renew := true}}) (⟨0, 2, 5, 7, 1, 0, 3, 20, 0, true⟩)) &&
    ((fun (s : State) (st : StatusMsg) => decide (s.live = true) && decide (s.variant ≠ .C) && decide (st.crcOk = true) && decide (st.edition ≤ s.getReg Reg.PAIR_EDITION) && decide (s.drv.claimPending = false) && decide (s.drv.imprint = true) && decide (st.holder ≠ s.ownPort) && decide (s.pair = true))
      ({hold with drv := {hold.drv with imprint := true}}) (⟨0, 2, 5, 7, 1, 0, 3, 20, 0, true⟩))) = true := by decide +kernel

/-- The conditions of the clauses of MirrorsAndForwardedRequests are met together, each by the state and operands named. -/
theorem test_conditions_MirrorsAndForwardedRequests_1 : (
    ((fun (s : State) => decide (s.paired = true) && decide (s.pstate = Ps.holder))
      hold) &&
    ((fun (s : State) => decide (s.paired = true) && decide (s.pstate = Ps.holder) && decide (s.plnkOn = false))
      ({hold.setF Fld.PLNK_LINK_ENABLE 0 with pairU := {hold.pairU with snapDue := true}})) &&
    ((fun (s : State) (u : State) (b : List Nat) => decide (s.paired = true) && decide (s.pstate = Ps.holder) && decide (u = s.setReg Reg.PAIR_MIRROR_SEQ ((s.getReg Reg.PAIR_MIRROR_SEQ + 1) % 2 ^ 32)) && decide (b = beBytes 4 ((s.getReg Reg.PAIR_MIRROR_SEQ + 1) % 2 ^ 32) ++ [b2n s.pairU.snapDue] ++ u.mirrorData s.pairU.snapDue))
      hold (hold.setReg Reg.PAIR_MIRROR_SEQ 1) (beBytes 4 1 ++ [0] ++ (hold.setReg Reg.PAIR_MIRROR_SEQ 1).mirrorData false)) &&
    ((fun (s : State) (m : MirrorMsg) => decide (s.plnkRx = true) && decide (s.pstate = Ps.standby ∨ s.pstate = Ps.resync) && decide (m.crcOk = true) && decide (m.edition = s.getReg Reg.PAIR_EDITION) && decide (s.pairU.mirror = none ∨ s.getReg Reg.PAIR_MIRROR_SEQ < m.seq))
      stby mir0) &&
    ((fun (s : State) (m : MirrorMsg) => decide (s.plnkRx = true) && decide (s.pstate = Ps.standby ∨ s.pstate = Ps.resync) && decide (m.crcOk = true) && decide (m.edition = s.getReg Reg.PAIR_EDITION) && decide (s.pairU.mirror = none ∨ s.getReg Reg.PAIR_MIRROR_SEQ < m.seq))
      (put stby [(Fld.PAIR_STATE_PSTATE, 6)] |> fun s => {s with pairU := {s.pairU with snapshot := 2, mirror := none}}) ({mir0 with seq := 0})) &&
    ((fun (s : State) (m : MirrorMsg) => decide (s.plnkRx = true) && decide (s.pstate = Ps.standby ∨ s.pstate = Ps.resync) && decide (m.edition ≤ s.getReg Reg.PAIR_EDITION) && decide (m.crcOk = false ∨ m.edition ≠ s.getReg Reg.PAIR_EDITION ∨ (s.pairU.mirror.isSome ∧ m.seq ≤ s.getReg Reg.PAIR_MIRROR_SEQ)))
      stby ({mir0 with crcOk := false})) &&
    ((fun (s : State) (m : MirrorMsg) => decide (s.plnkRx = true) && decide (s.pstate = Ps.standby ∨ s.pstate = Ps.resync) && decide (m.edition ≤ s.getReg Reg.PAIR_EDITION) && decide (m.crcOk = false ∨ m.edition ≠ s.getReg Reg.PAIR_EDITION ∨ (s.pairU.mirror.isSome ∧ m.seq ≤ s.getReg Reg.PAIR_MIRROR_SEQ)))
      (putR {stby with pairU := {stby.pairU with mirror := some mir0}} [(Reg.PAIR_MIRROR_SEQ, 5)]) mir0) &&
    ((fun (s : State) => decide (s.paired = true) && decide (s.standby = true) && decide (s.flag Fld.PAIR_STATE_MIRROR_STALE = false) && decide (s.arrivedNow mirrorKey = false))
      stby) &&
    ((fun (s : State) => decide (s.arrivedNow mirrorKey = true))
      ({stby with comp := {up.comp with occ := [(arrivalKey mirrorKey, 0, 0)]}})) &&
    ((fun (s : State) (e : Nat) => decide (s.plnkHears e = true) && decide (s.pstate = Ps.holder) && decide (e ≤ s.getReg Reg.PAIR_EDITION))
      hold 0) &&
    ((fun (s : State) (e : Nat) (tag : Nat) (g : Nat) => decide (s.plnkHears e = true) && decide (s.pstate = Ps.holder) && decide (e ≤ s.getReg Reg.PAIR_EDITION))
      hold 0 9 2) &&
    ((fun (s : State) (e : Nat) (tag : Nat) (g : Nat) => decide (s.plnkHears e = true) && decide (s.pstate = Ps.holder) && decide (e ≤ s.getReg Reg.PAIR_EDITION))
      hold 0 9 5)) = true := by decide +kernel

/-- The conditions of the clauses of MirrorsAndForwardedRequests are met together, each by the state and operands named. -/
theorem test_conditions_MirrorsAndForwardedRequests_2 : (
    ((fun (s : State) (e : Nat) (code : Nat) (chk : Nat) (g : Nat) (tag : Nat) => decide (s.plnkHears e = true) && decide (e ≤ s.getReg Reg.PAIR_EDITION) && decide (s.mode.forwardTag = some tag))
      ({stby with mode := {stby.mode with forwardTag := some 7}}) 0 1 0 3 7) &&
    ((fun (s : State) (e : Nat) (code : Nat) (chk : Nat) (g : Nat) (tag : Nat) => decide (s.plnkHears e = true) && decide (e ≤ s.getReg Reg.PAIR_EDITION) && decide (s.mode.forwardTag = some tag))
      ({stby with mode := {stby.mode with forwardTag := some 7}}) 0 0x15 4 3 7) &&
    ((fun (s : State) (tag : Nat) => decide (s.live = true) && decide (s.mode.forwardTag = some tag))
      ({stby with mode := {stby.mode with forwardTag := some 7, forwardTarget := 3}}) 7)) = true := by decide +kernel

/-- The conditions of the clauses of RoleSwapsAndStopRequests are met together, each by the state and operands named. -/
theorem test_conditions_RoleSwapsAndStopRequests_1 : (
    ((fun (s : State) => decide (s.paired = true) && decide (s.pstate = Ps.holder) && decide (s.flag Fld.PAIR_CTL_AUTO_SWAP = true) && decide (s.mayOffer = true))
      (put {hold with pairU := {hold.pairU with partnerFlags := 8}} [(Fld.PAIR_CTL_AUTO_SWAP, 1)])) &&
    ((fun (s : State) => decide (s.paired = true) && decide (s.pstate = Ps.holder) && decide (s.flag Fld.PAIR_CTL_AUTO_SWAP = true) && decide (s.mayOffer = false))
      (put hold [(Fld.PAIR_CTL_AUTO_SWAP, 1)])) &&
    ((fun (s : State) (m : Nat) => decide (s.permits m Reg.PAIR_CTL = true) && decide (s.pair = true) && decide (s.pstate = Ps.holder) && decide (s.mayOffer = true))
      ({hold with pairU := {hold.pairU with partnerFlags := 8}}) 0) &&
    ((fun (s : State) (m : Nat) => decide (s.permits m Reg.PAIR_CTL = true) && decide (s.pair = true) && decide (s.pstate = Ps.holder) && decide (s.mayOffer = false))
      hold 1) &&
    ((fun (s : State) => decide (s.paired = true) && decide (s.pstate = Ps.holder) && decide (s.flag Fld.PAIR_CTL_AUTO_SWAP = true))
      (put hold [(Fld.PAIR_CTL_AUTO_SWAP, 1)])) &&
    ((fun (s : State) (e : Nat) => decide (s.plnkHears e = true) && decide (s.pstate = Ps.standby) && decide (e ≤ s.getReg Reg.PAIR_EDITION) && decide (s.eth.txq = []) && decide (s.flag Fld.PAIR_STATE_SYNCED = true ∧ s.flag Fld.PAIR_STATE_LATENT_FAULT = false ∧ s.swapFit = true))
      (put stby [(Fld.PAIR_STATE_SYNCED, 1)]) 0) &&
    ((fun (s : State) (e : Nat) => decide (s.plnkHears e = true) && decide (s.pstate = Ps.standby) && decide (e ≤ s.getReg Reg.PAIR_EDITION) && decide (s.flag Fld.PAIR_STATE_SYNCED = false ∨ s.flag Fld.PAIR_STATE_LATENT_FAULT = true ∨ s.swapFit = false))
      stby 0) &&
    ((fun (s : State) (e : Nat) => decide (s.plnkHears e = true) && decide (s.pstate = Ps.holder) && decide (s.pairU.swap = 1) && decide (e ≤ s.getReg Reg.PAIR_EDITION))
      ({hold with pairU := {hold.pairU with swap := 1}}) 0) &&
    ((fun (s : State) (e : Nat) => decide (s.plnkHears e = true) && decide (s.pairU.swap = 1) && decide (e ≤ s.getReg Reg.PAIR_EDITION) && decide ((s.gal.openOf Kind.swap).isSome))
      ((put {hold with pairU := {hold.pairU with swap := 1}} []).galOpen Kind.swap 0 [1]) 0) &&
    ((fun (s : State) (e : Nat) => decide (s.plnkHears e = true) && decide (s.pairU.swap = 1) && decide (e ≤ s.getReg Reg.PAIR_EDITION) && decide (s.gal.openOf Kind.swap = none))
      ({hold with pairU := {hold.pairU with swap := 1}}) 0) &&
    ((fun (s : State) => decide (s.paired = true))
      ({stby with pairU := {stby.pairU with holdoff := true}})) &&
    ((fun (s : State) => decide (s.paired = true) && decide (s.pairU.swap = 2 ∨ s.pairU.swap = 3) && decide (s.pairU.swap = 3))
      ({stby with pairU := {stby.pairU with swap := 3}}))) = true := by decide +kernel

/-- The conditions of the clauses of RoleSwapsAndStopRequests are met together, each by the state and operands named. -/
theorem test_conditions_RoleSwapsAndStopRequests_2 : (
    ((fun (s : State) => decide (s.paired = true) && decide (s.pairU.swap = 2 ∨ s.pairU.swap = 3))
      ({stby with pairU := {stby.pairU with swap := 2}})) &&
    ((fun (s : State) => decide (s.paired = true) && decide (s.pairU.swap = 4))
      ({hold with pairU := {hold.pairU with swap := 4}})) &&
    ((fun (s : State) (m : Nat) (v : Nat) => decide (s.permitsKeyed m Reg.PAIR_LATENT_CLR 0x4C19 = true) && decide (bitOf v 0 = true))
      (put up [(Folio.LOCK_KEY Pg.PAIR, 0x4C19), (Fld.PAIR_STATE_LATENT_FAULT, 1)]) 0 1) &&
    ((fun (s : State) (m : Nat) (v : Nat) => decide (s.permitsKeyed m Reg.PAIR_LATENT_CLR 0x4C19 = true))
      (put up [(Folio.LOCK_KEY Pg.PAIR, 0x4C19), (Fld.PAIR_STATE_LATENT_FAULT, 1)]) 0 2) &&
    ((fun (s : State) (e : Nat) => decide (s.plnkHears e = true) && decide (s.pstate = Ps.holder) && decide (e ≤ s.getReg Reg.PAIR_EDITION) && decide (s.causeOn 0x18 = false))
      hold 0) &&
    ((fun (s : State) => decide (s.paired = true) && decide (s.safe.stopReqSent = true) && decide (s.cur ≠ Md.stopping))
      ({put stby [(Fld.MODE_STATE_CURRENT, 2)] with safe := {stby.safe with stopReqSent := true}}))) = true := by decide +kernel

/-- The conditions of the clauses of PtpReceptionAndDelays are met together, each by the state and operands named. -/
theorem test_conditions_PtpReceptionAndDelays_1 : (
    ((fun (s : State) (m : PtpMsg) => decide (s.ptpAt m.port = true) && decide (s.ptpOn m = true) && decide (m.twoStep = false) && decide (s.time.gm.map (fun g => g.id) = some m.srcId) && decide (2 ≤ s.sync) && decide (s.sync ≤ 4))
      synced ptp0) &&
    ((fun (s : State) (m : PtpMsg) => decide (s.ptpAt m.port = true) && decide (s.ptpOn m = true) && decide (m.twoStep = false) && decide (s.time.gm.map (fun g => g.id) = some m.srcId) && decide (2 ≤ s.sync) && decide (s.sync ≤ 4))
      synced ({ptp0 with rxNs := 1000000})) &&
    ((fun (s : State) (m : PtpMsg) => decide (s.ptpAt m.port = true) && decide (s.ptpOn m = true) && decide (m.twoStep = true) && decide (s.flag (Fld.ETH_PORT_STATUS_LINK (1 - m.port)) = true))
      ptpUp ({ptp0 with twoStep := true})) &&
    ((fun (s : State) (m : PtpMsg) => decide (s.ptpAt m.port = true) && decide (s.ptpOn m = true) && decide (m.twoStep = true) && decide (s.flag (Fld.ETH_PORT_STATUS_LINK (1 - m.port)) = false))
      (ptpUp.setF (Fld.ETH_PORT_STATUS_LINK 1) 0) ({ptp0 with twoStep := true})) &&
    ((fun (s : State) (m : PtpMsg) => decide (s.ptpAt m.port = false))
      up ptp0) &&
    ((fun (s : State) (m : PtpMsg) => decide (s.ptpAt m.port = false))
      ptpUp ({ptp0 with port := 2})) &&
    ((fun (s : State) (m : PtpMsg) => decide (s.ptpAt m.port = true) && decide (s.ptpOn m = false))
      ptpUp ({ptp0 with domain := 9})) &&
    ((fun (s : State) (m : PtpMsg) => decide (s.ptpAt m.port = true) && decide (s.ptpOn m = false))
      (ptpUp.setF (Fld.ETH_PORT_STATUS_LINK 1) 0) ({ptp0 with domain := 9})) &&
    ((fun (s : State) (m : PtpMsg) (y : PtpMsg) => decide (s.ptpAt m.port = true) && decide (s.ptpOn m = true) && decide (s.time.waits = some y) && decide (y.seq = m.seq) && decide (y.srcId = m.srcId) && decide (y.srcPort = m.srcPort) && decide (y.port = m.port) && decide (s.time.gm.map (fun g => g.id) = some m.srcId) && decide (2 ≤ s.sync) && decide (s.sync ≤ 4))
      ({synced with time := {synced.time with waits := some {ptp0 with twoStep := true}}}) ({ptp0 with correctionNs := 3}) ({ptp0 with twoStep := true})) &&
    ((fun (s : State) (m : PtpMsg) => decide (s.ptpAt m.port = true) && decide (s.time.waits = none))
      ptpUp ptp0) &&
    ((fun (s : State) (m : PtpMsg) => decide (s.ptpAt m.port = true) && decide (s.ptpOn m = true) && decide (s.time.gm = none) && decide (s.flag Fld.TIME_PTP_CFG_SLAVE_ONLY = true) && decide (s.sync ≠ Ts.pairFollow) && decide (s.sync ≠ Ts.acquiring))
      ptpUp ptp0) &&
    ((fun (s : State) (m : PtpMsg) (g : Gm) => decide (s.ptpAt m.port = true) && decide (s.ptpOn m = true) && decide (s.time.gm = some g) && decide (g.id ≠ m.gmId) && decide (better (announceRank m) g.rank = false))
      synced ({ptp0 with gmId := 99, prio1 := 255}) (⟨[], 77, 0⟩))) = true := by decide +kernel

/-- The conditions of the clauses of PtpReceptionAndDelays are met together, each by the state and operands named. -/
theorem test_conditions_PtpReceptionAndDelays_2 : (
    ((fun (s : State) (m : PtpMsg) => decide (s.ptpAt m.port = true))
      ethUp ptp0) &&
    ((fun (s : State) (m : PtpMsg) => decide (s.ptpAt m.port = true))
      ethUp ({ptp0 with port := 1})) &&
    ((fun (s : State) (p : Nat) => decide (s.ptpAt p = true) && decide (s.time.pd.length = 2))
      ethUp 0) &&
    ((fun (s : State) (p : Nat) => decide (s.ptpAt p = true) && decide (s.time.pd.length = 2))
      ({ethUp with time := {up.time with pd := [⟨0, 0, 0, 0, false, 0⟩, ⟨65535, 0, 0, 0, false, 0⟩]}}) 1) &&
    ((fun (s : State) (m : PtpMsg) => decide (s.ptpAt m.port = true) && decide (s.time.pd.length = 2) && decide ((s.pdAt m.port).seq = m.seq) && decide (m.isFollowUp = false) && decide (m.twoStep = false))
      ({ethUp with time := {up.time with pd := [⟨5, 100, 0, 0, false, 0⟩, ⟨0, 0, 0, 0, false, 0⟩]}}) ptp0) &&
    ((fun (s : State) (m : PtpMsg) => decide (s.ptpAt m.port = true) && decide (s.time.pd.length = 2) && decide ((s.pdAt m.port).seq = m.seq) && decide (m.isFollowUp = false) && decide (m.twoStep = true))
      ({ethUp with time := {up.time with pd := [⟨5, 100, 0, 0, false, 0⟩, ⟨0, 0, 0, 0, false, 0⟩]}}) ({ptp0 with twoStep := true}))) = true := by decide +kernel

/-- The conditions of the clauses of TimeLossStepsAndTriggers are met together, each by the state and operands named. -/
theorem test_conditions_TimeLossStepsAndTriggers : (
    ((fun (s : State) => decide (s.live = true) && decide (s.sync = Ts.locked) && decide (s.arrivedNow syncKey = false))
      synced) &&
    ((fun (s : State) => decide (s.arrivedNow syncKey = true))
      ({synced with comp := {up.comp with occ := [(arrivalKey syncKey, 0, 0)]}})) &&
    ((fun (s : State) => decide (s.live = true) && decide (s.sync = Ts.holdover) && decide (s.pairFollower = false))
      (synced.setF Fld.TIME_SYNC_STATE_STATE 4)) &&
    ((fun (s : State) (p : Nat) => decide (s.ptpAt p = true) && decide (s.sync ≠ Ts.pairFollow) && decide (s.getF Fld.TIME_SYNC_CTL_SOURCE = 1) && decide (s.flag Fld.TIME_PTP_CFG_SLAVE_ONLY = false) && decide (s.time.gm = none))
      (put ethUp [(Fld.TIME_SYNC_CTL_SOURCE, 1), (Fld.TIME_PTP_CFG_SLAVE_ONLY, 0)]) 1) &&
    ((fun (s : State) (m : Nat) (v : Nat) => decide (s.permitsKeyed m Reg.TIME_STEP_NS 0x3E61 = true))
      (put {up with time := {up.time with now := 5000}} [(Folio.LOCK_KEY Pg.TIME, 0x3E61)]) 0 0xFFFFFFFF) &&
    ((fun (s : State) (m : Nat) (v : Nat) => decide (s.permitsKeyed m Reg.TIME_STEP_NS 0x3E61 = true))
      (put up [(Folio.LOCK_KEY Pg.TIME, 0x3E61), (Fld.MODE_FUNC_STATE_POWER, 2)]) (1 - 1) 7) &&
    ((fun (s : State) (n : Nat) => decide (s.live = true) && decide (n < 4) && decide (bitOf (s.getF Fld.TIME_TRIG_CTL_EN) n = true) && decide (s.time.armed[n]? = some true) && decide (0 ≤ s.sinceLaunch (s.getReg (Reg.TIME_TRIG n))) && decide (4 < s.sinceLaunch (s.getReg (Reg.TIME_TRIG n))))
      (putR (put up [(Fld.TIME_TRIG_CTL_EN, 2)]) [(Reg.TIME_TRIG 1, 50)] |> fun s => {s with time := {s.time with now := 60, armed := [true, true, true, true]}}) 1) &&
    ((fun (s : State) (n : Nat) => decide (s.live = true) && decide (n < 4) && decide (bitOf (s.getF Fld.TIME_TRIG_CTL_EN) n = true) && decide (s.time.armed[n]? = some true) && decide (0 ≤ s.sinceLaunch (s.getReg (Reg.TIME_TRIG n))) && decide (s.sinceLaunch (s.getReg (Reg.TIME_TRIG n)) ≤ 4) && decide (bitOf (s.getF Fld.TIME_TRIG_CTL_OUT) n = true) && decide (bitOf (s.getReg Reg.AUX_GPIO_DIR) n = true))
      (putR (put up [(Fld.TIME_TRIG_CTL_EN, 2), (Fld.TIME_TRIG_CTL_OUT, 2)]) [(Reg.TIME_TRIG 1, 50), (Reg.AUX_GPIO_DIR, 2)] |> fun s => {s with time := {s.time with now := 50, armed := [true, true, true, true]}}) 1) &&
    ((fun (s : State) (n : Nat) => decide (s.live = true) && decide (s.time.pulse[n]? = some true))
      (putR {up with time := {up.time with pulse := [false, true, false, false]}} [(Reg.AUX_GPIO_OUT, 2)]) 1) &&
    ((fun (s : State) (m : Nat) (v : Nat) => decide (s.permits m Reg.TIME_COMPAT_LOAD_HI = true) && decide (s.time.compat.length = 4))
      ({up with time := {up.time with loadLo := 9}}) 0 0x12345)) = true := by decide +kernel

/-- The conditions of the clauses of TwbControllerStarts are met together, each by the state and operands named. -/
theorem test_conditions_TwbControllerStarts_1 : (
    ((fun (s : State) (m : Nat) (k : Nat) => decide (s.twbMayGo m 0 = true))
      (twbUp 0x200a00) 0 0x123) &&
    ((fun (s : State) (m : Nat) (k : Nat) => decide (s.twbMayGo m 1 = true))
      (twbUp 0x200a01) 0 0x123) &&
    ((fun (s : State) (m : Nat) (k : Nat) => decide (s.twbMayGo m 2 = true))
      (twbUp 0x200a02) 0 0x123) &&
    ((fun (s : State) (m : Nat) (k : Nat) => decide (s.twbMayGo m 2 = true))
      (twbUp 0x300a02) 0 0xA3) &&
    ((fun (s : State) (m : Nat) (k : Nat) => decide (s.twbMayGo m 3 = true))
      (twbUp 0x200a03) 0 0x123) &&
    ((fun (s : State) (m : Nat) (k : Nat) => decide (s.twbMayGo m 4 = true))
      (twbUp 0x200a04) 0 0x123) &&
    ((fun (s : State) (m : Nat) (k : Nat) => decide (s.twbMayGo m 4 = true))
      (twbUp 0x300a04) 0 0xA3) &&
    ((fun (s : State) (m : Nat) (k : Nat) => decide (s.twbMayGo m 5 = true))
      (twbUp 0x200a05) 0 0x123) &&
    ((fun (s : State) (m : Nat) (k : Nat) => decide (s.twbMayGo m 6 = true))
      (twbUp 0x200a06) 0 0x123) &&
    ((fun (s : State) (m : Nat) (k : Nat) => decide (s.twbMayGo m 6 = true))
      (twbUp 0x300a06) 0 0xA3) &&
    ((fun (s : State) (m : Nat) (k : Nat) => decide (s.twbMayGo m 7 = true))
      (twbUp 0x200a07) 0 0x123) &&
    ((fun (s : State) (m : Nat) (k : Nat) => decide (s.twbMayGo m 8 = true))
      (twbUp 0x200a08) 0 0x123)) = true := by decide +kernel

/-- The conditions of the clauses of TwbControllerStarts are met together, each by the state and operands named. -/
theorem test_conditions_TwbControllerStarts_2 : (
    ((fun (s : State) (m : Nat) (k : Nat) => decide (s.twbMayGo m 9 = true) && decide (1 ≤ s.getF Fld.TWB_C_CMD_WLEN) && decide (s.getF Fld.TWB_C_CMD_WLEN ≤ 32))
      (twbUp 0x2000a09) 0 0x123) &&
    ((fun (s : State) (m : Nat) (k : Nat) => decide (s.twbMayGo m 9 = true) && decide (1 ≤ s.getF Fld.TWB_C_CMD_WLEN) && decide (s.getF Fld.TWB_C_CMD_WLEN ≤ 32))
      (twbUp 0x100a09) 1 0x1FF) &&
    ((fun (s : State) (m : Nat) (k : Nat) => decide (s.twbMayGo m 9 = true) && decide (1 ≤ s.getF Fld.TWB_C_CMD_WLEN) && decide (s.getF Fld.TWB_C_CMD_WLEN ≤ 32))
      (twbUp 0x300a09) 0 0xA3) &&
    ((fun (s : State) (m : Nat) (k : Nat) => decide (s.permits m Reg.TWB_C_CTL = true) && decide (s.getReg Reg.TWB_C_CMD % 16 ≠ 9))
      (twbUp 0xA04) 0 0x23) &&
    ((fun (s : State) (m : Nat) (k : Nat) => decide (s.permits m Reg.TWB_C_CTL = true) && decide (s.getReg Reg.TWB_C_CMD % 16 = 9) && decide (s.flag Fld.TWB_C_STATUS_BUSY = true))
      (put (twbUp 0xA09) [(Fld.TWB_C_STATUS_BUSY, 1)]) 0 0x23) &&
    ((fun (s : State) (m : Nat) (k : Nat) => decide (s.permits m Reg.TWB_C_CTL = true) && decide (s.getReg Reg.TWB_C_CMD % 16 = 9) && decide (s.flag Fld.TWB_C_STATUS_BUSY = false) && decide (s.getF Fld.TWB_C_CMD_WLEN = 0 ∨ 32 < s.getF Fld.TWB_C_CMD_WLEN))
      (twbUp 0xA09) 0 0x23) &&
    ((fun (s : State) (m : Nat) (k : Nat) => decide (s.permits m Reg.TWB_C_CTL = true) && decide (s.getReg Reg.TWB_C_CMD % 16 = 9) && decide (s.flag Fld.TWB_C_STATUS_BUSY = false) && decide (s.getF Fld.TWB_C_CMD_WLEN = 0 ∨ 32 < s.getF Fld.TWB_C_CMD_WLEN))
      (twbUp 0x2100A09) 0 0x23) &&
    ((fun (s : State) (m : Nat) (k : Nat) => decide (s.permits m Reg.TWB_C_CTL = true) && decide (s.getReg Reg.TWB_C_CMD % 16 = 9) && decide (s.flag Fld.TWB_C_STATUS_BUSY = false) && decide (s.flag Fld.TWB_BUS_CFG_HOLDER_ONLY = false) && decide (s.twb.free = false) && decide (1 ≤ s.getF Fld.TWB_C_CMD_WLEN) && decide (s.getF Fld.TWB_C_CMD_WLEN ≤ 32))
      ({twbUp 0xA09 with twb := ⟨false, none⟩} |> fun s => s.setF Fld.TWB_C_CMD_WLEN 4) 0 0x23) &&
    ((fun (s : State) (m : Nat) (k : Nat) => decide (s.twbMayGo m 10 = true))
      (twbUp 0x200a0a) 0 0x123) &&
    ((fun (s : State) (m : Nat) (k : Nat) => decide (s.twbMayGo m 11 = true) && decide (1 ≤ s.getF Fld.TWB_C_CMD_WLEN) && decide (s.getF Fld.TWB_C_CMD_WLEN ≤ 32))
      (twbUp 0x2000a0b) 0 0x123) &&
    ((fun (s : State) (m : Nat) (k : Nat) => decide (s.twbMayGo m 11 = true) && decide (1 ≤ s.getF Fld.TWB_C_CMD_WLEN) && decide (s.getF Fld.TWB_C_CMD_WLEN ≤ 32))
      (twbUp 0x100a0b) 1 0x1FF) &&
    ((fun (s : State) (m : Nat) (k : Nat) => decide (s.twbMayGo m 12 = true))
      (twbUp 0x200a0c) 0 0x123)) = true := by decide +kernel

/-- The conditions of the clauses of TwbControllerStarts are met together, each by the state and operands named. -/
theorem test_conditions_TwbControllerStarts_3 : (
    ((fun (s : State) (m : Nat) (k : Nat) => decide (s.twbMayGo m 12 = true))
      (twbUp 0x300a0c) 0 0xA3) &&
    ((fun (s : State) (m : Nat) (k : Nat) => decide (s.twbMayGo m 13 = true))
      (twbUp 0x200a0d) 0 0x123)) = true := by decide +kernel

/-- The conditions of the clauses of TwbTargetReadsAndPointer are met together, each by the state and operands named. -/
theorem test_conditions_TwbTargetReadsAndPointer_1 : (
    ((fun (s : State) (l : Nat) (p : Bool) => decide (s.live = true) && decide (s.tgtReady = true))
      twbTgt 12 true) &&
    ((fun (s : State) (l : Nat) (p : Bool) => decide (s.live = true) && decide (s.tgtReady = true))
      twbTgt 3 false) &&
    ((fun (s : State) (l : Nat) (p : Bool) => decide (s.live = true) && decide (s.tgtReady = true))
      twbTgt 16 true) &&
    ((fun (s : State) (l : Nat) (p : Bool) => decide (s.live = true) && decide (s.tgtReady = true))
      twbTgt 3 false) &&
    ((fun (s : State) (l : Nat) (p : Bool) => decide (s.live = true) && decide (s.tgtReady = true))
      twbTgt 8 true) &&
    ((fun (s : State) (l : Nat) (p : Bool) => decide (s.live = true) && decide (s.tgtReady = true))
      twbTgt 3 false) &&
    ((fun (s : State) (l : Nat) (p : Bool) => decide (s.live = true) && decide (s.tgtReady = true))
      twbTgt 12 true) &&
    ((fun (s : State) (l : Nat) (p : Bool) => decide (s.live = true) && decide (s.tgtReady = true))
      twbTgt 3 false) &&
    ((fun (s : State) (c : Nat) (l : Nat) (p : Bool) => decide (s.live = true) && decide (s.tgtReady = false))
      up 1 12 true) &&
    ((fun (s : State) (c : Nat) (l : Nat) (p : Bool) => decide (s.live = true) && decide (s.tgtReady = false))
      (put twbTgt [(Fld.AUX_START_STATUS_STEP, 4)]) 1 12 true) &&
    ((fun (s : State) (c : Nat) (l : Nat) (p : Bool) => decide (s.live = true) && decide (s.tgtReady = true) && decide (c ∉ tgtCodes))
      twbTgt 5 12 true) &&
    ((fun (s : State) (a : Nat) (p : Option Nat) => decide (s.live = true) && decide (s.tgtReady = true) && decide (p = some (crc8 ([2 * s.tgtAddr, 0x10, 4] ++ leBytes 4 a)) ∨ (p = none ∧ s.flag Fld.TWB_TGT_CTL_PEC_REQ = false)))
      twbTgt 0x40000020 (some (crc8 ([2 * twbTgt.tgtAddr, 0x10, 4] ++ leBytes 4 0x40000020))))) = true := by decide +kernel

/-- The conditions of the clauses of TwbTargetReadsAndPointer are met together, each by the state and operands named. -/
theorem test_conditions_TwbTargetReadsAndPointer_2 : (
    ((fun (s : State) (a : Nat) (p : Option Nat) => decide (s.live = true) && decide (s.tgtReady = true))
      twbTgt 0x40000020 none) &&
    ((fun (s : State) (a : Nat) (p : Option Nat) => decide (s.live = true) && decide (s.tgtReady = true) && decide (p.isSome ∧ p ≠ some (crc8 ([2 * s.tgtAddr, 0x10, 4] ++ leBytes 4 a))))
      twbTgt 0x40000020 (some 300)) &&
    ((fun (s : State) (a : Nat) (p : Option Nat) => decide (s.live = true) && decide (s.tgtReady = true) && decide (p = none ∧ s.flag Fld.TWB_TGT_CTL_PEC_REQ = true))
      (put twbTgt [(Fld.TWB_TGT_CTL_PEC_REQ, 1)]) 0x40000020 none) &&
    ((fun (s : State) (l : Nat) (p : Bool) => decide (s.live = true) && decide (s.tgtReady = true) && decide (s.getReg Reg.TWB_TGT_POINTER = Reg.SYS_SERIAL_LO ∨ s.getReg Reg.TWB_TGT_POINTER = Reg.SYS_IDENT))
      (putR twbTgt [(Reg.TWB_TGT_POINTER, 0x40000044)]) 5 true) &&
    ((fun (s : State) (l : Nat) (p : Bool) => decide (s.live = true) && decide (s.tgtReady = true) && decide (s.getReg Reg.TWB_TGT_POINTER = Reg.SYS_SERIAL_LO ∨ s.getReg Reg.TWB_TGT_POINTER = Reg.SYS_IDENT) && decide (p = false))
      (putR twbTgt [(Reg.TWB_TGT_POINTER, 0x40000040)]) 2 false) &&
    ((fun (s : State) (l : Nat) (p : Bool) => decide (s.live = true) && decide (s.tgtReady = true) && decide (s.getReg Reg.TWB_TGT_POINTER < 4) && decide (s.getReg Reg.TWB_TGT_POINTER ≠ 0))
      (putR twbTgt [(Reg.TWB_TGT_POINTER, 2)]) 5 false) &&
    ((fun (s : State) (l : Nat) (p : Bool) => decide (s.live = true) && decide (s.tgtReady = true) && decide (s.getReg Reg.TWB_TGT_POINTER = Reg.SYS_SERIAL_LO ∨ s.getReg Reg.TWB_TGT_POINTER = Reg.SYS_IDENT) && decide (p = false))
      (putR twbTgt [(Reg.TWB_TGT_POINTER, 0x40000044)]) 4 false) &&
    ((fun (s : State) => decide (s.live = true))
      up) &&
    ((fun (s : State) => decide (s.live = true))
      up)) = true := by decide +kernel

/-- The conditions of the clauses of TwbControllerEnds are met together, each by the state and operands named. -/
theorem test_conditions_TwbControllerEnds_1 : (
    ((fun (s : State) (m : Nat) (r : TwbRun) => decide (s.permits m Reg.TWB_C_CTL = true) && decide (s.twb.run = some r) && decide (r.started = false) && decide (r.retried = false))
      ({twbRuns 9 5 with twb := ⟨false, some ⟨5, 9, [], false, false⟩⟩}) 0 (⟨5, 9, [], false, false⟩)) &&
    ((fun (s : State) (m : Nat) (r : TwbRun) => decide (s.permits m Reg.TWB_C_CTL = true) && decide (s.twb.run = some r) && decide (r.started = true))
      (twbRuns 9 5) 0 (runOf 9 5)) &&
    ((fun (s : State) (r : TwbRun) => decide (s.live = true) && decide (s.twb.run = some r) && decide (r.started = false) && decide (r.pec = false))
      ({twbRuns 2 5 with twb := ⟨false, some ⟨5, 0x0A02, [], false, false⟩⟩}) (⟨5, 0x0A02, [], false, false⟩)) &&
    ((fun (s : State) => decide (s.live = true) && decide (s.twb.run = none))
      up) &&
    ((fun (s : State) (x : TwbResult) (r : TwbRun) => decide (s.live = true) && decide (s.twb.run = some r) && decide (r.started = true) && decide (r.retried = false) && decide (x.code = 2 ∨ x.code = 3) && decide (s.arrivedNow goKey = false))
      (twbRuns 9 5) (⟨2, [], 0, 0⟩) (runOf 9 5)) &&
    ((fun (s : State) (x : TwbResult) (r : TwbRun) => decide (s.live = true) && decide (s.twb.run = some r) && decide (r.started = true) && decide (r.retried = false) && decide (x.code = 2 ∨ x.code = 3) && decide (s.arrivedNow goKey = false))
      (twbRuns 5 5) (⟨3, [], 0, 0⟩) (runOf 5 5)) &&
    ((fun (s : State) (x : TwbResult) (r : TwbRun) => decide (s.live = true) && decide (s.twb.run = some r) && decide (r.started = true) && decide (x.code = 2) && decide (s.arrivedNow goKey = true) && decide (s.twb.free = false) && decide (s.flag Fld.TWB_BUS_CFG_HOLDER_ONLY = false) && decide (s.getReg Reg.TWB_C_CMD % 16 = 5))
      ({putR (twbRuns 9 5) [(Reg.TWB_C_CMD, 0x200a05), (Reg.TWB_C_CTL, 0x23)] with comp := {up.comp with occ := [(arrivalKey goKey, 0, 0)], waiting := [wait0 Pg.TWB 2]}}.setF Fld.TWB_BUS_CFG_HOLDER_ONLY 0) (⟨2, [], 0, 0⟩) (runOf 9 5)) &&
    ((fun (s : State) (x : TwbResult) (r : TwbRun) => decide (s.live = true) && decide (s.twb.run = some r) && decide (r.started = true) && decide (r.prot = 5) && decide (r.pec = false) && decide (x.code = 1) && decide (x.data.length = 1) && decide (s.arrivedNow goKey = false))
      (twbRuns 5 5) (⟨1, [0xAB], 0, 0⟩) (runOf 5 5)) &&
    ((fun (s : State) (x : TwbResult) (r : TwbRun) => decide (s.live = true) && decide (s.twb.run = some r) && decide (r.started = true) && decide (r.prot = 5) && decide (r.pec = true) && decide (x.code = 1) && decide (256 ≤ x.pec) && decide (s.arrivedNow goKey = false))
      (twbRuns 5 0x85) (⟨1, [0xAB], 0, 300⟩) (runOf 5 0x85)) &&
    ((fun (s : State) (x : TwbResult) (r : TwbRun) => decide (s.live = true) && decide (s.twb.run = some r) && decide (r.started = true) && decide (r.prot = 10) && decide (x.code = 1) && decide (min 32 r.rlen < x.count) && decide (s.arrivedNow goKey = false))
      (twbRuns 10 5) (⟨1, [1, 2, 3, 4, 5], 5, 0⟩) (runOf 10 5)) &&
    ((fun (s : State) (r : TwbRun) => decide (s.live = true) && decide (s.twb.run = some r) && decide (r.started = true) && decide (r.retried = false) && decide (s.arrivedNow goKey = false) && decide (bitOf r.ctl 8 = true))
      (twbRuns 9 0x105) (runOf 9 0x105)) &&
    ((fun (s : State) (r : TwbRun) => decide (s.live = true) && decide (s.twb.run = some r) && decide (r.started = true) && decide (r.retried = false) && decide (s.arrivedNow goKey = false) && decide (bitOf r.ctl 8 = false))
      (twbRuns 9 5) (runOf 9 5))) = true := by decide +kernel

/-- The conditions of the clauses of TwbControllerEnds are met together, each by the state and operands named. -/
theorem test_conditions_TwbControllerEnds_2 : (
    ((fun (s : State) (r : TwbRun) => decide (s.live = true) && decide (s.twb.run = some r) && decide (r.started = true) && decide (s.arrivedNow goKey = false))
      (twbRuns 9 0x105) (runOf 9 0x105)) &&
    ((fun (s : State) => decide (s.live = true) && decide (s.twb.run.isSome) && decide (s.arrivedNow goKey = false))
      (twbRuns 9 5)) &&
    ((fun (s : State) (b : Bool) (r : TwbRun) => decide (s.live = true) && decide (s.twb.run = some r) && decide (r.started = false) && decide (s.arrivedNow goKey = false))
      ({twbRuns 9 5 with twb := ⟨false, some ⟨5, 9, [], false, false⟩⟩}) true (⟨5, 9, [], false, false⟩))) = true := by decide +kernel

/-- The conditions of the clauses of UpdateReception are met together, each by the state and operands named. -/
theorem test_conditions_UpdateReception_1 : (
    ((fun (s : State) (m : Nat) => decide (s.permits m Reg.UPD_CTL = true) && decide (s.upd.state = 0) && decide (s.upd.abortWait = false))
      up 0) &&
    ((fun (s : State) (m : Nat) => decide (s.permits m Reg.UPD_CTL = true) && decide (s.upd.state ≠ 0) && decide (s.upd.abortWait = false))
      ({up with upd := {up.upd with state := 3}}) 0) &&
    ((fun (s : State) (m : Nat) => decide (s.permits m Reg.UPD_CTL = true) && decide (s.upd.state ≠ 0) && decide (s.upd.abortWait = true))
      ({up with upd := {up.upd with state := 3, cur := some node0, rx := [1], abortWait := true}}) 0) &&
    ((fun (s : State) (m : Nat) (v : Nat) => decide (s.permits m Reg.UPD_DATA = true) && decide (s.upd.state = 1) && decide (s.upd.rx.length ≤ 508))
      ({up with upd := {up.upd with state := 1}}) 0 0x04030201) &&
    ((fun (s : State) (m : Nat) (v : Nat) => decide (s.permits m Reg.UPD_DATA = true) && decide (s.upd.state = 1) && decide (s.upd.rx.length ≤ 508))
      ({up with upd := {up.upd with state := 1, rx := List.replicate 508 0}}) 0 0x04030201) &&
    ((fun (s : State) (m : Nat) (v : Nat) (p : Payload) => decide (s.permits m Reg.UPD_DATA = true) && decide (s.upd.state = 3) && decide (s.upd.cur = some p) && decide (s.upd.rx.length < p.bodyLen) && decide (p.bodyLen ≤ 2 ^ 24) && decide (s.upd.rx.length + 4 < p.bodyLen))
      ({up with upd := {up.upd with state := 3, cur := some {node0 with bodyLen := 5}}}) 0 0x04030201 ({node0 with bodyLen := 5})) &&
    ((fun (s : State) (m : Nat) (v : Nat) (p : Payload) => decide (s.permits m Reg.UPD_DATA = true) && decide (s.upd.state = 3) && decide (s.upd.cur = some p) && decide (s.upd.rx.length < p.bodyLen) && decide (p.bodyLen ≤ 2 ^ 24) && decide (p.bodyLen ≤ s.upd.rx.length + 4))
      ({up with upd := {up.upd with state := 3, cur := some {node0 with bodyLen := 5}, rx := [4, 3, 2, 1]}}) 0 0x04030255 ({node0 with bodyLen := 5})) &&
    ((fun (s : State) (m : Nat) (v : Nat) => decide (s.permits m Reg.UPD_DATA = true) && decide (s.upd.state ≠ 1) && decide (s.upd.state ≠ 3))
      up 0 5) &&
    ((fun (s : State) (m : Nat) (v : Nat) => decide (s.permits m Reg.UPD_DATA = true) && decide (s.upd.state ≠ 1) && decide (s.upd.state ≠ 3))
      ({up with upd := {up.upd with state := 4}}) 0 5) &&
    ((fun (s : State) (g : Bool) => decide (s.live = true) && decide (s.upd.state = 2) && decide (s.headerFault s.upd.rx.reverse g = 0) && decide ((headerOf s.upd.rx.reverse).kind ≠ Pk.app) && decide ((headerOf s.upd.rx.reverse).kind ≠ Pk.safe))
      ({up with upd := {up.upd with state := 2, rx := (([0x56, 0x42, 0x49, 0x4D, 1, 0, 5, 0, 7, 0, 0, 0] ++ List.replicate 16 0 ++ [8, 0, 0, 0] ++ List.replicate 480 0).reverse)}}) true) &&
    ((fun (s : State) (g : Bool) => decide (s.live = true) && decide (s.upd.state = 2) && decide (s.headerFault s.upd.rx.reverse g ≠ 0))
      ({up with upd := {up.upd with state := 2, rx := List.replicate 512 0}}) true) &&
    ((fun (s : State) (g : Bool) => decide (s.live = true) && decide (s.upd.state = 2) && decide (s.headerFault s.upd.rx.reverse g ≠ 0))
      ({up with upd := {up.upd with state := 2, rx := (([0x56, 0x42, 0x49, 0x4D, 1, 0, 5, 0, 7, 0, 0, 0] ++ List.replicate 16 0 ++ [8, 0, 0, 0] ++ List.replicate 480 0).reverse)}}) false)) = true := by decide +kernel

/-- The conditions of the clauses of UpdateReception are met together, each by the state and operands named. -/
theorem test_conditions_UpdateReception_2 : (
    ((fun (s : State) (b : BodyCheck) (p : Payload) => decide (s.live = true) && decide (s.upd.state = 4) && decide (s.upd.cur = some p) && decide (sha256 p.body = p.hash) && decide (p.kind = Pk.node ∨ p.kind = Pk.ostage))
      ({up with upd := {up.upd with state := 4, cur := some {node0 with hash := sha256 []}}}) (⟨none⟩) ({node0 with hash := sha256 []})) &&
    ((fun (s : State) (b : BodyCheck) (p : Payload) => decide (s.live = true) && decide (s.upd.state = 4) && decide (s.upd.cur = some p) && decide (sha256 p.body = p.hash) && decide (p.kind = Pk.record) && decide (b.record.any (fun r => !r.conflicts s.variant && r.checked) = false))
      ({up with upd := {up.upd with state := 4, cur := some {node0 with kind := Pk.record, hash := sha256 []}}}) (⟨none⟩) ({node0 with kind := Pk.record, hash := sha256 []})) &&
    ((fun (s : State) (b : BodyCheck) (p : Payload) => decide (s.live = true) && decide (s.upd.state = 4) && decide (s.upd.cur = some p) && decide (sha256 p.body = p.hash) && decide (p.kind = Pk.record) && decide (b.record.any (fun r => r.conflicts s.variant) = true))
      ({upC with upd := {up.upd with state := 4, cur := some {node0 with kind := Pk.record, hash := sha256 []}}}) (⟨some {plain with pair := true}⟩) ({node0 with kind := Pk.record, hash := sha256 []})) &&
    ((fun (s : State) (b : BodyCheck) (p : Payload) => decide (s.live = true) && decide (s.upd.state = 4) && decide (s.upd.cur = some p) && decide (sha256 p.body = p.hash) && decide (p.kind = Pk.record))
      ({up with upd := {up.upd with state := 4, cur := some {node0 with kind := Pk.record, hash := sha256 []}}}) (⟨some plain⟩) ({node0 with kind := Pk.record, hash := sha256 []})) &&
    ((fun (s : State) (b : BodyCheck) (p : Payload) => decide (s.live = true) && decide (s.upd.state = 4) && decide (s.upd.cur = some p) && decide (sha256 p.body ≠ p.hash))
      ({up with upd := {up.upd with state := 4, cur := some node0}}) (⟨none⟩) node0) &&
    ((fun (s : State) (m : Nat) => decide (s.permits m Reg.UPD_CTL = true))
      ({up with upd := {up.upd with state := 3, cur := some node0}}) 0) &&
    ((fun (s : State) (m : Nat) => decide (s.permits m Reg.UPD_CTL = true))
      ({up with upd := {up.upd with ready := [node0], armed := [node0]}}) 0)) = true := by decide +kernel

/-- The conditions of the clauses of UpdateActivation are met together, each by the state and operands named. -/
theorem test_conditions_UpdateActivation : (
    ((fun (s : State) (m : Nat) (v : Nat) => decide (s.permitsKeyed m Reg.UPD_CTL 0x9A3F = true) && decide (bitOf v 3 = true) && decide (bitOf v 5 = true) && decide (s.upd.ready.filter (fun p => bitOf (bitsOf v 11 7) (p.kind - 1)) ≠ []) && decide (s.upd.abortWait = false))
      (locked Reg.UPD_CTL 0x9A3F {up with upd := {up.upd with ready := [node0]}}) 0 0x228) &&
    ((fun (s : State) (m : Nat) (v : Nat) => decide (s.permitsKeyed m Reg.UPD_CTL 0x9A3F = true) && decide (bitOf v 3 = true) && decide (bitOf v 5 = false) && decide (s.upd.ready.filter (fun p => bitOf (bitsOf v 11 7) (p.kind - 1)) ≠ []) && decide (s.getReg Reg.UPD_ACTIVATE_AT ≠ 0) && decide (s.upd.abortWait = false) && decide (0 < sInt 32 (toU 32 ((s.getReg Reg.UPD_ACTIVATE_AT : Int) - s.stamp))))
      (putR (locked Reg.UPD_CTL 0x9A3F {up with upd := {up.upd with ready := [node0]}}) [(Reg.UPD_ACTIVATE_AT, 1000)]) 0 0x208) &&
    ((fun (s : State) (m : Nat) (v : Nat) => decide (s.permitsKeyed m Reg.UPD_CTL 0x9A3F = true) && decide (bitOf v 3 = true) && decide (bitOf v 5 = false) && decide (s.upd.ready.filter (fun p => bitOf (bitsOf v 11 7) (p.kind - 1)) ≠ []) && decide (s.getReg Reg.UPD_ACTIVATE_AT ≠ 0) && decide (s.upd.abortWait = false) && decide (sInt 32 (toU 32 ((s.getReg Reg.UPD_ACTIVATE_AT : Int) - s.stamp)) ≤ 0))
      (putR (locked Reg.UPD_CTL 0x9A3F {up with upd := {up.upd with ready := [node0]}, time := {up.time with now := 2000}}) [(Reg.UPD_ACTIVATE_AT, 1000)]) 0 0x208) &&
    ((fun (s : State) (m : Nat) (v : Nat) => decide (s.permitsKeyed m Reg.UPD_CTL 0x9A3F = true) && decide (bitOf v 3 = true) && decide (bitOf v 5 = false) && decide (s.upd.ready.filter (fun p => bitOf (bitsOf v 11 7) (p.kind - 1)) ≠ []) && decide (s.getReg Reg.UPD_ACTIVATE_AT = 0) && decide (s.upd.abortWait = false))
      (locked Reg.UPD_CTL 0x9A3F {up with upd := {up.upd with ready := [node0]}}) 0 0x208) &&
    ((fun (s : State) (m : Nat) (v : Nat) (p : Payload) => decide (s.permitsKeyed m Reg.UPD_CTL 0x9A3F = true) && decide (bitOf v 4 = true) && decide (bitOf (bitsOf v 11 7) 0 = true) && decide (s.bankOf Pk.app (1 - s.bankNo Pk.app) = some p) && decide ((s.upd.floors[0]?).getD 0 ≤ p.epoch) && decide (s.upd.abortWait = false))
      (locked Reg.UPD_CTL 0x9A3F {up with upd := {up.upd with app := [none, some (pay Pk.app 3)]}}) 0 0x090 (pay Pk.app 3)) &&
    ((fun (s : State) (m : Nat) (v : Nat) => decide (s.permitsKeyed m Reg.UPD_CTL 0x9A3F = true) && decide (bitOf v 4 = false ∨ bitsOf v 11 7 % 4 = 0 ∨ (s.bankOf Pk.app (1 - s.bankNo Pk.app) = none ∧ s.bankOf Pk.safe (1 - s.bankNo Pk.safe) = none)) && decide (s.upd.abortWait = false))
      (locked Reg.UPD_CTL 0x9A3F {up with upd := {up.upd with app := [none, none]}}) 0 0x090) &&
    ((fun (s : State) => decide (s.live = true) && decide (s.upd.armed ≠ []))
      ({runs with upd := {runs.upd with armed := [pay Pk.app 9]}})) &&
    ((fun (s : State) => decide (s.upd.armed = []))
      up) &&
    ((fun (s : State) (m : Nat) (v : Nat) => decide (s.permitsKeyed m Reg.UPD_KEY_REVOKE 0x9A3F = true) && decide (s.getReg Reg.UPD_KEY_STATE % 16 ||| v % 16 ≠ 15) && decide (s.getReg Reg.UPD_KEY_STATE % 16 ||| v % 16 ≠ s.getReg Reg.UPD_KEY_STATE % 16))
      (locked Reg.UPD_KEY_REVOKE 0x9A3F up) 0 2) &&
    ((fun (s : State) (m : Nat) (v : Nat) => decide (s.permitsKeyed m Reg.UPD_KEY_REVOKE 0x9A3F = true) && decide (s.getReg Reg.UPD_KEY_STATE % 16 ||| v % 16 = 15))
      (locked Reg.UPD_KEY_REVOKE 0x9A3F (putR up [(Reg.UPD_KEY_STATE, 7)])) 0 8)) = true := by decide +kernel

/-- The conditions of the clauses of UpdateOfNodesAndStage are met together, each by the state and operands named. -/
theorem test_conditions_UpdateOfNodesAndStage_1 : (
    ((fun (s : State) (i : Nat) (n : NodeUpd) (d : List Nat) => decide (s.live = true) && decide (s.upd.node = some n) && decide (n.left.headD 0 = i) && decide (n.waits = false) && decide (n.rejoin = false) && decide (n.op = 2) && decide ((n.block + 1) * 4096 < n.payload.bodyLen) && decide (s.cur ≠ Md.assay) && decide (s.aux.nodeRepeat = false) && decide (s.sampling = false) && decide (d = (n.payload.body.drop (4096 * (n.block + 1))).take 4096) && decide (s.pair = true ∨ s.otherSeg = []) && decide (s.portSends 0 = true))
      (put (sending (noding 2 false)) [(Fld.CHN0_SCHED_SCHED, 0)]) 1 (nodeUpd 2 false) ([])) &&
    ((fun (s : State) (i : Nat) (n : NodeUpd) => decide (s.live = true) && decide (s.upd.node = some n) && decide (n.left.headD 0 = i) && decide (n.waits = false) && decide (n.rejoin = false) && decide (n.op = 2) && decide ((n.block + 1) * 4096 < n.payload.bodyLen) && decide (s.aux.nodeRepeat = false) && decide (s.sampling = true))
      (noding 2 false) 1 (nodeUpd 2 false)) &&
    ((fun (s : State) (i : Nat) (n : NodeUpd) => decide (s.live = true) && decide (s.upd.node = some n) && decide (n.left.headD 0 = i) && decide (n.waits = false) && decide (n.rejoin = false) && decide (s.sampling = true))
      (noding 3 false) 1 (nodeUpd 3 false)) &&
    ((fun (s : State) (i : Nat) (n : NodeUpd) => decide (s.live = true) && decide (s.upd.node = some n) && decide (n.left.headD 0 = i) && decide (n.waits = false) && decide (n.rejoin = false) && decide (n.again = false) && decide (n.op ≠ 1) && decide (s.cur ≠ Md.assay) && decide (s.aux.nodeRepeat = false))
      (noding 3 false) 1 (nodeUpd 3 false)) &&
    ((fun (s : State) (i : Nat) (n : NodeUpd) => decide (s.live = true) && decide (s.upd.node = some n) && decide (n.left.headD 0 = i) && decide (n.waits = false) && decide (n.rejoin = false) && decide (n.again = false) && decide (n.op ≠ 1) && decide (s.cur ≠ Md.assay) && decide (s.aux.nodeRepeat = false))
      (put (noding 3 false) [(Fld.CHN0_SCHED_SCHED, 0)]) 1 (nodeUpd 3 false)) &&
    ((fun (s : State) (i : Nat) (r : Nat) (n : NodeUpd) => decide (s.live = true) && decide (s.upd.node = some n) && decide (n.left.headD 0 = i) && decide (n.waits = false) && decide (n.rejoin = false) && decide (n.op ≠ 1) && decide (r = 0 ∨ r = 4 ∨ 6 ≤ r) && decide (s.aux.nodeRepeat = false))
      (noding 3 false) 1 4 (nodeUpd 3 false)) &&
    ((fun (s : State) (n : NodeUpd) => decide (s.live = true) && decide (s.upd.node = some n) && decide (n.rejoin = false) && decide (s.arrivedNow nfwKey = false) && decide (s.aux.nodeRepeat = false))
      (noding 3 false) (nodeUpd 3 false)) &&
    ((fun (s : State) => decide (s.arrivedNow nfwKey = true))
      ({up with comp := {up.comp with occ := [(arrivalKey nfwKey, 0, 0)]}})) &&
    ((fun (s : State) (n : NodeUpd) => decide (s.live = true) && decide (s.upd.node = some n) && decide (n.rejoin = true) && decide (s.chain.rejoin = 0))
      (noding 4 true) (nodeUpd 4 true)) &&
    ((fun (s : State) (n : NodeUpd) => decide (s.live = true) && decide (s.upd.node = some n) && decide (n.rejoin = true) && decide (s.chain.rejoin ≠ 0))
      ({noding 4 true with chain := {sweeping.chain with enum := 1, rejoin := 1}}) (nodeUpd 4 true)) &&
    ((fun (s : State) (x : Nat) (o : Nat) (l : Load) => decide (s.live = true) && decide (s.upd.load = some l) && decide (l.phase = 1) && decide (l.acked = 0) && decide (l.sentTo = 0) && decide (0 < l.payload.bodyLen) && decide (l.payload.bodyLen ≤ 28) && decide (l.payload.body.length = l.payload.bodyLen))
      (loading 1) 1 0 (load0 1)) &&
    ((fun (s : State) (x : Nat) (o : Nat) (l : Load) => decide (s.live = true) && decide (s.upd.load = some l) && decide (l.phase = 2) && decide (l.sentTo = l.payload.bodyLen) && decide (l.payload.bodyLen ≤ o) && decide (l.acked ≤ l.sentTo))
      ({loading 2 with upd := {up.upd with load := some {load0 2 with sentTo := 4}}}) 2 4 ({load0 2 with sentTo := 4}))) = true := by decide +kernel

/-- The conditions of the clauses of UpdateOfNodesAndStage are met together, each by the state and operands named. -/
theorem test_conditions_UpdateOfNodesAndStage_2 : (
    ((fun (s : State) (x : Nat) (o : Nat) (l : Load) => decide (s.live = true) && decide (s.upd.load = some l) && decide (l.phase = 3))
      (loading 3) 3 4 (load0 3)) &&
    ((fun (s : State) (x : Nat) (o : Nat) (r : Nat) (l : Load) => decide (s.live = true) && decide (s.upd.load = some l) && decide (l.phase ≠ 4) && decide (r = 3 ∨ r = 4))
      (loading 3) 3 4 3 (load0 3)) &&
    ((fun (s : State) (x : Nat) (o : Nat) (r : Nat) (l : Load) => decide (s.live = true) && decide (s.upd.load = some l) && decide (l.phase ≠ 4) && decide (r = 3 ∨ r = 4))
      (loading 1) 3 4 4 (load0 1)) &&
    ((fun (s : State) (l : Load) => decide (s.live = true) && decide (s.upd.load = some l) && decide (l.phase = 2) && decide (l.acked = 0) && decide (0 < l.payload.bodyLen) && decide (l.payload.bodyLen ≤ 28) && decide (l.payload.body.length = l.payload.bodyLen) && decide (s.arrivedNow loadKey = false))
      ({loading 2 with upd := {up.upd with load := some {load0 2 with sentTo := 4}}}) ({load0 2 with sentTo := 4})) &&
    ((fun (s : State) => decide (s.arrivedNow loadKey = true))
      ({up with comp := {up.comp with occ := [(arrivalKey loadKey, 0, 0)]}})) &&
    ((fun (s : State) (l : Load) => decide (s.live = true) && decide (s.upd.load = some l) && decide (s.arrivedNow loadKey = false))
      (loading 2) (load0 2)) &&
    ((fun (s : State) => decide (s.arrivedNow loadKey = true))
      ({up with comp := {up.comp with occ := [(arrivalKey loadKey, 0, 0)]}}))) = true := by decide +kernel

theorem crcStepR_lt (k c : Nat) (h : c < 2 ^ 32) : crcStepR 0xEDB88320 k c < 2 ^ 32 := by
  induction k generalizing c with
  | zero => exact h
  | succ k ih =>
    unfold crcStepR
    apply ih
    split
    · exact Nat.xor_lt_two_pow (by omega) (by decide)
    · omega

theorem crc32_lt (l : List Nat) : crc32 l < 2 ^ 32 := by
  have h : ∀ (l : List Nat) (c : Nat), c < 2 ^ 32 → l.foldl (fun c b => crcStepR 0xEDB88320 8 (c ^^^ (b % 256))) c < 2 ^ 32 := by
    intro l
    induction l with
    | nil => intro c hc; exact hc
    | cons b l ih => intro c hc; exact ih _ (crcStepR_lt _ _ (Nat.xor_lt_two_pow hc (by omega)))
  exact Nat.xor_lt_two_pow (h l _ (by decide)) (by decide)

theorem cfgCrc_setPr (s : State) (v : Nat) : (s.setReg Reg.MRG_PR_CRC v).cfgCrc = s.cfgCrc := by
  have h : ∀ p ∈ cfgWords, p.1 ≠ Reg.MRG_PR_CRC := by decide +kernel
  unfold State.cfgCrc
  refine congrArg crc32 ?_
  rw [List.flatMap_def, List.flatMap_def]
  refine congrArg List.flatten (List.map_congr_left ?_)
  intro p hp
  rw [State.getReg_setReg, if_neg (h p hp)]

/-- The condition of CFG_CRC_CHECK is met (clauses cfgCrcCheck and cfgCrcCheck_fail): PR_CRC takes the sum, or the sum plus 1. -/
theorem test_conditions_cfgCrcCheck :
    ((up.setReg Reg.MRG_PR_CRC up.cfgCrc).live = true ∧
      (up.setReg Reg.MRG_PR_CRC up.cfgCrc).cfgCrc = (up.setReg Reg.MRG_PR_CRC up.cfgCrc).getReg Reg.MRG_PR_CRC) ∧
    ((up.setReg Reg.MRG_PR_CRC (up.cfgCrc + 1)).live = true ∧
      (up.setReg Reg.MRG_PR_CRC (up.cfgCrc + 1)).cfgCrc % 2 ^ 32 ≠ (up.setReg Reg.MRG_PR_CRC (up.cfgCrc + 1)).getReg Reg.MRG_PR_CRC ∧
      up.causeOn 0x14 = false) := by
  have b : up.cfgCrc < 2 ^ 32 := crc32_lt _
  refine ⟨⟨rfl, ?_⟩, rfl, ?_, by decide +kernel⟩
  · rw [cfgCrc_setPr, State.getReg_setReg, if_pos rfl, Nat.mod_eq_of_lt b]
  · rw [cfgCrc_setPr, State.getReg_setReg, if_pos rfl]; omega

theorem pairCrc_setPartner (s : State) (v : Nat) : (s.setReg Reg.PAIR_CFG_CRC_PARTNER v).pairCrc = s.pairCrc := by
  have h : (s.setReg Reg.PAIR_CFG_CRC_PARTNER v).loops = s.loops := rfl
  have k : ∀ a ∈ [Reg.PROF_RATE, Reg.PROF_ACCEL, Reg.PROF_JERK, Reg.BAL_CTL, Reg.EST_CTL, Reg.EST_SOC_RULES, Reg.EST_WARN_LEVELS],
      (s.setReg Reg.PAIR_CFG_CRC_PARTNER v).getReg a = s.getReg a := by
    intro a ha
    have : ∀ a ∈ [Reg.PROF_RATE, Reg.PROF_ACCEL, Reg.PROF_JERK, Reg.BAL_CTL, Reg.EST_CTL, Reg.EST_SOC_RULES, Reg.EST_WARN_LEVELS],
      a ≠ Reg.PAIR_CFG_CRC_PARTNER := by decide
    rw [State.getReg_setReg, if_neg (this a ha)]
  simp only [List.forall_mem_cons] at k
  simp only [State.pairCrc, State.getF, h, k]

/-- The condition of CFG_DIFFER is met: the partner's sum is the own sum plus 1. -/
theorem test_conditions_cfgDiffer :
    (stby.setReg Reg.PAIR_CFG_CRC_PARTNER (stby.pairCrc + 1)).getReg Reg.PAIR_CFG_CRC_PARTNER ≠ stby.pairCrc ∧
    (stby.setReg Reg.PAIR_CFG_CRC_PARTNER (stby.pairCrc + 1)).pairCrc = stby.pairCrc ∧
    (stby.setReg Reg.PAIR_CFG_CRC_PARTNER (stby.pairCrc + 1)).flag Fld.PAIR_STATE_CFG_DIFFER = false ∧
    (stby.setReg Reg.PAIR_CFG_CRC_PARTNER (stby.pairCrc + 1)).paired = true := by
  have b : stby.pairCrc < 2 ^ 32 := crc32_lt _
  refine ⟨?_, ?_, ?_, ?_⟩
  · rw [State.getReg_setReg, if_pos rfl]; omega
  · exact pairCrc_setPartner stby _
  · simp only [State.flag, State.getF, State.getReg_setReg]; decide +kernel
  · have h : ∀ (s : State) (a v : Nat), (s.setReg a v).paired = s.paired := fun _ _ _ => rfl
    have hp : stby.paired = true := by decide +kernel
    exact (h stby Reg.PAIR_CFG_CRC_PARTNER (stby.pairCrc + 1)).trans hp

/-- A well-formed command, and one that is not for each check: the master, the address and value, the CAN controller or port, the
launch trigger and the loop slot. -/
theorem test_wellFormed : Instr.wf (.registerWrite 5 0x40000010 4 0xFFFFFFFF) = true ∧ Instr.wf (.registerWrite 6 0x40000010 4 0) = false ∧
    Instr.wf (.registerWrite 0 (2 ^ 32) 4 0) = false ∧ Instr.wf (.registerWrite 0 0x40000010 4 (2 ^ 32)) = false ∧
    Instr.wf (.chainLinkUp 2) = false ∧ Instr.wf (.endWalk 2) = false ∧ Instr.wf (.launchTrig 4) = false ∧
    Instr.wf (.thermalSlotSample 8) = false := by decide

/-- No row of the table has bits, so no word spells a command. -/
theorem test_decode_none : decodeTableWord 32 0xFFFFFFFF = none := rfl

/-- Conditions of the step statements: a command in front, an empty queue, a sound state. -/
theorem test_conditions_step : (up.withPending [.dlyTimeout 1]).pending = .dlyTimeout 1 :: [] ∧ State.reset.pending = [] ∧
    State.reset.Sound := by
  refine ⟨rfl, rfl, ?_⟩
  unfold State.Sound; decide +kernel

/-- An event that waits and has arrived is chosen, and none is chosen of none (R405). -/
theorem test_conditions_GrantTakesTheFirstWaitingEvent :
    ((grantPick { up.comp with waiting := [wait0 Pg.CAN0 5, wait0 Pg.TWB 4] } == some (wait0 Pg.CAN0 5)) && (grantPick up.comp == none)) = true := by
  decide +kernel

/-- Conditions of the statement about ASSAY (R19): a host's request, a partner's, the grant of each, and the cycle that evaluates. -/
theorem test_conditions_OtherVariantsRejectAssay :
    (upA.permits 0 Reg.MODE_REQUEST && (0x2A04 % 16 == Md.assay) && decide (upA.variant ≠ .F)
      && (let s : State := { hold with variant := .A }
          s.plnkHears 0 && (s.pstate == Ps.holder) && decide (0 ≤ s.getReg Reg.PAIR_EDITION) && decide (s.variant ≠ .F))
      && (let s : State := { quiet with comp := { quiet.comp with waiting := [wait0 Pg.MODE 32] } }
          s.live && (grantPick s.comp == some (wait0 Pg.MODE 32)) && (s.mode.due == 0))
      && (let s : State := { quiet with comp := { quiet.comp with waiting := [wait0 Pg.MODE 41] } }
          s.live && (grantPick s.comp == some (wait0 Pg.MODE 41)) && (s.mode.due == 0))
      && (let s : State := { upA with mode := { upA.mode with due := 2, dueTgt := Md.assay } }
          s.live && decide (s.variant ≠ .F) && (s.mode.due != 0) && (s.mode.dueTgt == Md.assay) && (grantPick s.comp == none))) = true := by
  decide +kernel

/-- Conditions of the statement about filter elements (R455), at the last element. -/
theorem test_conditions_FilterElementsCommitBothWords :
    (up.live && !up.userStore 3 Pg.FLT && (up.writeStatus 3 (elemAddr 4095) Pg.FLT == St.ok) && (up.writeStatus 3 (elemAddr 4095 + 4) Pg.FLT == St.ok)
      && decide (bitsOf 0x80000123 31 29 < 5) && decide (5 ≤ bitsOf 0xA0000123 31 29)) = true := by
  decide +kernel

/-- Conditions of the statement about full queues (R460): queue 0 with a depth of 4 and of 0. -/
theorem test_conditions_FullReceiveQueueDropsFrames :
    ((canUp.can.length == 2) && ((canUp.canU 0).rxq.length == 4) && !canUp.arrivedNow (ackHeadKey 0 0) && !canUp.arrivedNow (ackEmptyKey 1 3) && decide ((canUp.queue 0 0).entries.length < canUp.getF (Fld.CAN_RXQ_CFG_DEPTH 0 0))
      && (canUp.waits (Ev.CAN_RX_NEW 0) == false)
      && decide ((put canUp [(Fld.CAN_RXQ_CFG_DEPTH 1 3, 0)]).getF (Fld.CAN_RXQ_CFG_DEPTH 1 3) ≤ (canUp.queue 1 3).entries.length)) = true := by
  decide +kernel

/-- The other protocols of the two-wire controller start, wait and are refused by the same clauses. -/
theorem test_conditions_TwbGo : Says.TwbGo 9 (fun m c => .twbBlockWrite m c) ∧ Says.TwbGo 13 (fun m c => .twbFixedRead m c) := by
  simp [Says.TwbGo]

/-- The worked example of a walk: an OFFER of address 1, granted while ADDR_IN is active, gives the string address (R79, R80). -/
theorem test_offer_takes_address :
    (match execEventGrant { put quiet [(Fld.AUX_WALK_CTL_BUS, 3), (Fld.AUX_WALK_CTL_ENABLE, 1), (Fld.AUX_ADDR_IO_ADDR_IN, 1)] with
        aux := { quiet.aux with offers := [(0, 1)] }, comp := { quiet.comp with waiting := [wait0 Pg.AUX 42] } } with
      | .next t => t.getF Fld.AUX_ADDR_STRING_ADDR == 1
      | _ => false) = true := by decide +kernel

/-- R497: the last unrevoked key is not revoked. -/
theorem test_last_key_stays :
    (match execKeyRevoke 0 8 (locked Reg.UPD_KEY_REVOKE 0x9A3F (putR up [(Reg.UPD_KEY_STATE, 7)])) with
      | .next t => t.getReg Reg.UPD_KEY_STATE == 7
      | _ => false) = true := by decide +kernel

end Sys2Proof.Tests
end

/-! PROOF. What every step keeps: the laws of the single meanings (Laws/Kept1 to Kept8) joined over the commands of the table, and
from it the two statements about every step. -/

namespace Sys2Proof.Machine

/-- The mask of every field that a meaning may change: all but the queue, which is field 0. -/
def exceptQueue : Nat := 2 ^ 33 - 2

/-- Every command answers a next state that keeps what `g` watches, where `g` watches no event and lets every field but the queue
change: one case for each arm of the dispatch. -/
theorem kept_exec {g : Watch} {s : State} (h : Kept g s) (hE : ∀ e, ¬ g.events e)
    (hk : exceptQueue &&& g.mask = exceptQueue) (i : Instr) : KeptO g (exec i s) :=
  match i with
  | .registerWrite .. => kept_execRegisterWrite h hE (mask_sub hk rfl)
  | .ownerWrite .. => kept_execOwnerWrite h hE (mask_sub hk rfl)
  | .lockWrite .. => kept_execLockWrite h hE (mask_sub hk rfl)
  | .lockKeyExpiry .. => kept_execLockKeyExpiry h
  | .readClear .. => kept_execReadClear h (mask_sub hk rfl)
  | .lowWordRead .. => kept_execLowWordRead h (mask_sub hk rfl)
  | .vraOpen .. => kept_execVraOpen h hE (mask_sub hk rfl)
  | .vraRead .. => kept_execVraRead h hE (mask_sub hk rfl)
  | .vraWrite .. => kept_execVraWrite h hE (mask_sub hk rfl)
  | .vraWriteMask .. => kept_execVraWriteMask h hE (mask_sub hk rfl)
  | .vraClose .. => kept_execVraClose h hE (mask_sub hk rfl)
  | .vraIdleTimeout .. => kept_execVraIdleTimeout h (mask_sub hk rfl)
  | .vraSourceBlockEnd .. => kept_execVraSourceBlockEnd h (mask_sub hk rfl)
  | .vraCtlWrite .. => kept_execVraCtlWrite h hE (mask_sub hk rfl)
  | .uartRd .. => kept_execUartRd h hE (mask_sub hk rfl)
  | .uartWr .. => kept_execUartWr h hE (mask_sub hk rfl)
  | .modeRequest .. => kept_execModeRequest h
  | .transTimeout => kept_execTransTimeout h (mask_sub hk rfl)
  | .stopLimitExpiry => kept_execStopLimitExpiry h (mask_sub hk rfl)
  | .latchClr .. => kept_execLatchClr h (mask_sub hk rfl)
  | .wake .. => kept_execWake h hE (mask_sub hk rfl)
  | .wakeTimerExpiry => kept_execWakeTimerExpiry h hE (mask_sub hk rfl)
  | .wakeOscCheck .. => kept_execWakeOscCheck h (mask_sub hk rfl)
  | .pllUnlock => kept_execPllUnlock h hE (mask_sub hk rfl)
  | .clkMonWindow .. => kept_execClkMonWindow h hE (mask_sub hk rfl)
  | .rootDrift => kept_execRootDrift h
  | .wdgKick .. => kept_execWdgKick h hE (mask_sub hk rfl)
  | .wdgExpiry => kept_execWdgExpiry h hE (mask_sub hk rfl)
  | .powerOn => kept_execPowerOn h (mask_sub hk rfl)
  | .supplyLoss => kept_execSupplyLoss h hE (mask_sub hk rfl)
  | .resetNAssert => kept_execResetNAssert h hE (mask_sub hk rfl)
  | .resetNRelease => kept_execResetNRelease h (mask_sub hk rfl)
  | .resetRelease .. => kept_execResetRelease h hE (mask_sub hk rfl)
  | .pllLockRetry .. => kept_execPllLockRetry h
  | .svcDebouncedClose => kept_execSvcDebouncedClose h hE (mask_sub hk rfl)
  | .svcDebouncedOpen .. => kept_execSvcDebouncedOpen h (mask_sub hk rfl)
  | .svcStuck => kept_execSvcStuck h
  | .restartWarm .. => kept_execRestartWarm h (mask_sub hk rfl)
  | .restartCold .. => kept_execRestartCold h (mask_sub hk rfl)
  | .addrSet .. => kept_execAddrSet h (mask_sub hk rfl)
  | .offer .. => kept_execOffer h (mask_sub hk rfl)
  | .clearAddr .. => kept_execClearAddr h (mask_sub hk rfl)
  | .endWalk can => kept_execEndWalk (x0 := can) h
  | .taken .. => kept_execTaken h (mask_sub hk rfl)
  | .takenTimeout => kept_execTakenTimeout h (mask_sub hk rfl)
  | .addrInChange .. => kept_execAddrInChange h (mask_sub hk rfl)
  | .roleSelSample .. => kept_execRoleSelSample h
  | .gpioChange .. => kept_execGpioChange h
  | .chainLinkUp .. => kept_execChainLinkUp h (mask_sub hk rfl)
  | .chainLinkLost .. => kept_execChainLinkLost h (mask_sub hk rfl)
  | .trigLaunch => kept_execTrigLaunch h (mask_sub hk rfl)
  | .collectLaunch .. => kept_execCollectLaunch h (mask_sub hk rfl)
  | .slotArrival .. => kept_execSlotArrival h (mask_sub hk rfl)
  | .sweepDeadline .. => kept_execSweepDeadline h (mask_sub hk rfl)
  | .nodeUnheard .. => kept_execNodeUnheard h (mask_sub hk rfl)
  | .alarmRx .. => kept_execAlarmRx h (mask_sub hk rfl)
  | .nodeAlarmRelease .. => kept_execNodeAlarmRelease h (mask_sub hk rfl)
  | .staleMaster .. => kept_execStaleMaster h (mask_sub hk rfl)
  | .fwd .. => kept_execFwd h (mask_sub hk rfl)
  | .relay .. => kept_execRelay h (mask_sub hk rfl)
  | .dlyEcho .. => kept_execDlyEcho h (mask_sub hk rfl)
  | .dlyTimeout .. => kept_execDlyTimeout h
  | .dlyPeriod => kept_execDlyPeriod h (mask_sub hk rfl)
  | .dlyNow .. => kept_execDlyNow h (mask_sub hk rfl)
  | .enumStart .. => kept_execEnumStart h (mask_sub hk rfl)
  | .rejoinPos .. => kept_execRejoinPos h (mask_sub hk rfl)
  | .enumReturn .. => kept_execEnumReturn h (mask_sub hk rfl)
  | .enumTimeout => kept_execEnumTimeout h (mask_sub hk rfl)
  | .enumDone .. => kept_execEnumDone h (mask_sub hk rfl)
  | .sweepRejoin .. => kept_execSweepRejoin h (mask_sub hk rfl)
  | .nregRead .. => kept_execNregRead h
  | .nregWrite .. => kept_execNregWrite h
  | .nregReply .. => kept_execNregReply h (mask_sub hk rfl)
  | .nregTimeout => kept_execNregTimeout h
  | .owtLaunch => kept_execOwtLaunch h (mask_sub hk rfl)
  | .owtPeriodic => kept_execOwtPeriodic h (mask_sub hk rfl)
  | .owtNow .. => kept_execOwtNow h (mask_sub hk rfl)
  | .owtDeadline => kept_execOwtDeadline h (mask_sub hk rfl)
  | .suspectClr .. => kept_execSuspectClr h (mask_sub hk rfl)
  | .suspectClrDecision .. => kept_execSuspectClrDecision h (mask_sub hk rfl)
  | .compReadback .. => kept_execCompReadback h (mask_sub hk rfl)
  | .floopAbsent .. => kept_execFloopAbsent h hE (mask_sub hk rfl)
  | .bleedLaunch .. => kept_execBleedLaunch h (mask_sub hk rfl)
  | .planCommit .. => kept_execPlanCommit h (mask_sub hk rfl)
  | .planClear .. => kept_execPlanClear h (mask_sub hk rfl)
  | .votedSample .. => kept_execVotedSample h (mask_sub hk rfl)
  | .hvLost => kept_execHvLost h (mask_sub hk rfl)
  | .chReadmitted .. => kept_execChReadmitted h (mask_sub hk rfl)
  | .offsetCalStart => kept_execOffsetCalStart h (mask_sub hk rfl)
  | .offsetCalEnd .. => kept_execOffsetCalEnd h (mask_sub hk rfl)
  | .imdDone .. => kept_execImdDone h (mask_sub hk rfl)
  | .imdConnFault => kept_execImdConnFault h (mask_sub hk rfl)
  | .imdStart .. => kept_execImdStart h (mask_sub hk rfl)
  | .imdHolderStart => kept_execImdHolderStart h (mask_sub hk rfl)
  | .chgClr .. => kept_execChgClr h
  | .chgStore => kept_execChgStore h (mask_sub hk rfl)
  | .estDone => kept_execEstDone h (mask_sub hk rfl)
  | .estShadowWrite => kept_execEstShadowWrite h (mask_sub hk rfl)
  | .capSet .. => kept_execCapSet h (mask_sub hk rfl)
  | .anchorReq .. => kept_execAnchorReq h
  | .anchorCancel .. => kept_execAnchorCancel h
  | .anchorRampTimeout => kept_execAnchorRampTimeout h (mask_sub hk rfl)
  | .noAnchor => kept_execNoAnchor h
  | .cellViewWrite .. => kept_execCellViewWrite h (mask_sub hk rfl)
  | .holdExpired => kept_execHoldExpired h (mask_sub hk rfl)
  | .assayStart .. => kept_execAssayStart h (mask_sub hk rfl)
  | .assayAbort .. => kept_execAssayAbort h (mask_sub hk rfl)
  | .perturbRiseEnd => kept_execPerturbRiseEnd h (mask_sub hk rfl)
  | .binSpanEnd => kept_execBinSpanEnd h (mask_sub hk rfl)
  | .metricsDone => kept_execMetricsDone h (mask_sub hk rfl)
  | .tempEstimate => kept_execTempEstimate h (mask_sub hk rfl)
  | .tcalClr .. => kept_execTcalClr h (mask_sub hk rfl)
  | .tcal .. => kept_execTcal h (mask_sub hk rfl)
  | .perturbZero => kept_execPerturbZero h (mask_sub hk rfl)
  | .loopCfgWrite .. => kept_execLoopCfgWrite h (mask_sub hk rfl)
  | .loopModeWrite .. => kept_execLoopModeWrite h (mask_sub hk rfl)
  | .loopSwap .. => kept_execLoopSwap h (mask_sub hk rfl)
  | .loopResume .. => kept_execLoopResume h (mask_sub hk rfl)
  | .thermalSlotSample .. => kept_execThermalSlotSample h (mask_sub hk rfl)
  | .feedbackStale .. => kept_execFeedbackStale h (mask_sub hk rfl)
  | .thermalHoldExpiry .. => kept_execThermalHoldExpiry h (mask_sub hk rfl)
  | .profileStep => kept_execProfileStep h (mask_sub hk rfl)
  | .profTargetWrite .. => kept_execProfTargetWrite h
  | .profLimitWrite .. => kept_execProfLimitWrite h
  | .tinSample .. => kept_execTinSample h (mask_sub hk rfl)
  | .tachEval .. => kept_execTachEval h (mask_sub hk rfl)
  | .fanStall .. => kept_execFanStall h (mask_sub hk rfl)
  | .flowLow => kept_execFlowLow h (mask_sub hk rfl)
  | .status .. => kept_execStatus h (mask_sub hk rfl)
  | .driveLinkUp => kept_execDriveLinkUp h
  | .driveLinkLost => kept_execDriveLinkLost h
  | .statusTimeout => kept_execStatusTimeout h (mask_sub hk rfl)
  | .renewSend => kept_execRenewSend h (mask_sub hk rfl)
  | .watchSend => kept_execWatchSend h (mask_sub hk rfl)
  | .claimRepeat => kept_execClaimRepeat h (mask_sub hk rfl)
  | .pwmEnable => kept_execPwmEnable h (mask_sub hk rfl)
  | .driveEnChange .. => kept_execDriveEnChange h (mask_sub hk rfl)
  | .driveEnTest .. => kept_execDriveEnTest h (mask_sub hk rfl)
  | .fbSample .. => kept_execFbSample h (mask_sub hk rfl)
  | .contStepTimeout => kept_execContStepTimeout h (mask_sub hk rfl)
  | .preTimeout => kept_execPreTimeout h (mask_sub hk rfl)
  | .gatesTimeout => kept_execGatesTimeout h (mask_sub hk rfl)
  | .fbDisagree => kept_execFbDisagree h
  | .contUnexpected => kept_execContUnexpected h (mask_sub hk rfl)
  | .fbTestGap .. => kept_execFbTestGap h (mask_sub hk rfl)
  | .curReduceRepeat => kept_execCurReduceRepeat h (mask_sub hk rfl)
  | .curReduceDeadline => kept_execCurReduceDeadline h (mask_sub hk rfl)
  | .connectAck .. => kept_execConnectAck h (mask_sub hk rfl)
  | .connectTimeout => kept_execConnectTimeout h (mask_sub hk rfl)
  | .lockstep => kept_execLockstep h (mask_sub hk rfl)
  | .lockstepResetHold => kept_execLockstepResetHold h hE (mask_sub hk rfl)
  | .marginSelftest .. => kept_execMarginSelftest h (mask_sub hk rfl)
  | .cfgCrcCheck => kept_execCfgCrcCheck h (mask_sub hk rfl)
  | .fsRampDeadline => kept_execFsRampDeadline h (mask_sub hk rfl)
  | .fsNoRampFallback => kept_execFsNoRampFallback h (mask_sub hk rfl)
  | .stopReq .. => kept_execStopReq h (mask_sub hk rfl)
  | .stopReqTimeout => kept_execStopReqTimeout h (mask_sub hk rfl)
  | .ellipsisExpiry => kept_execEllipsisExpiry h (mask_sub hk rfl)
  | .sioSample .. => kept_execSioSample h (mask_sub hk rfl)
  | .heartbeatSend => kept_execHeartbeatSend h (mask_sub hk rfl)
  | .heartbeat .. => kept_execHeartbeat h (mask_sub hk rfl)
  | .hbPulse .. => kept_execHbPulse h (mask_sub hk rfl)
  | .hbPathLost .. => kept_execHbPathLost h (mask_sub hk rfl)
  | .partnerLost => kept_execPartnerLost h (mask_sub hk rfl)
  | .claimSend => kept_execClaimSend h (mask_sub hk rfl)
  | .pairClaim .. => kept_execPairClaim h (mask_sub hk rfl)
  | .claimTimeout => kept_execClaimTimeout h (mask_sub hk rfl)
  | .mirrorSend => kept_execMirrorSend h (mask_sub hk rfl)
  | .mirror .. => kept_execMirror h (mask_sub hk rfl)
  | .mirrorStale => kept_execMirrorStale h
  | .cfgDiffer => kept_execCfgDiffer h
  | .resyncReq .. => kept_execResyncReq h (mask_sub hk rfl)
  | .modeReq .. => kept_execModeReq h (mask_sub hk rfl)
  | .modeResult .. => kept_execModeResult h (mask_sub hk rfl)
  | .modeReqTimeout => kept_execModeReqTimeout h (mask_sub hk rfl)
  | .swapDue => kept_execSwapDue h (mask_sub hk rfl)
  | .swapNow .. => kept_execSwapNow h (mask_sub hk rfl)
  | .swapOverdue => kept_execSwapOverdue h
  | .swapOffer .. => kept_execSwapOffer h (mask_sub hk rfl)
  | .swapAccept .. => kept_execSwapAccept h (mask_sub hk rfl)
  | .swapDecline .. => kept_execSwapDecline h (mask_sub hk rfl)
  | .swapHoldoffEnd => kept_execSwapHoldoffEnd h (mask_sub hk rfl)
  | .swapGrantTimeout => kept_execSwapGrantTimeout h (mask_sub hk rfl)
  | .latentClr .. => kept_execLatentClr h (mask_sub hk rfl)
  | .cycleBoundary .. => kept_execCycleBoundary h hE (mask_sub hk rfl)
  | .entryReturn .. => kept_execEntryReturn h (mask_sub hk rfl)
  | .cycleDeadline .. => kept_execCycleDeadline h hE (mask_sub hk rfl)
  | .retainCommit => kept_execRetainCommit h (mask_sub hk rfl)
  | .note .. => kept_execNote h
  | .shadowNow => kept_execShadowNow h (mask_sub hk rfl)
  | .wait _ _ us => kept_execWait (x2 := us) h (mask_sub hk rfl)
  | .waitTimeout => kept_execWaitTimeout h
  | .coreTrap .. => kept_execCoreTrap h (mask_sub hk rfl)
  | .ebreak .. => kept_execEbreak h (mask_sub hk rfl)
  | .serviceTrap .. => kept_execServiceTrap h (mask_sub hk rfl)
  | .serviceRestart => kept_execServiceRestart h (mask_sub hk rfl)
  | .cycRun .. => kept_execCycRun h (mask_sub hk rfl)
  | .cycStop .. => kept_execCycStop h (mask_sub hk rfl)
  | .cycHold .. => kept_execCycHold h (mask_sub hk rfl)
  | .cycStep .. => kept_execCycStep h (mask_sub hk rfl)
  | .holdLimit => kept_execHoldLimit h (mask_sub hk rfl)
  | .initTimeout => kept_execInitTimeout h (mask_sub hk rfl)
  | .progShadow => kept_execProgShadow h (mask_sub hk rfl)
  | .shadowSealed => kept_execShadowSealed h hE (mask_sub hk rfl)
  | .retainStore => kept_execRetainStore h (mask_sub hk rfl)
  | .tmrInWrite .. => kept_execTmrInWrite h (mask_sub hk rfl)
  | .tmrPtWrite .. => kept_execTmrPtWrite h (mask_sub hk rfl)
  | .tmrExpiry .. => kept_execTmrExpiry h (mask_sub hk rfl)
  | .eventGrant => kept_execEventGrant h hE (mask_sub hk rfl)
  | .record => kept_execRecord h (mask_sub hk rfl)
  | .cursorWrite .. => kept_execCursorWrite h (mask_sub hk rfl)
  | .cursorReady => kept_execCursorReady h (mask_sub hk rfl)
  | .freezeExpired => kept_execFreezeExpired h (mask_sub hk rfl)
  | .sync .. => kept_execSync h (mask_sub hk rfl)
  | .followUp .. => kept_execFollowUp h (mask_sub hk rfl)
  | .announce .. => kept_execAnnounce h (mask_sub hk rfl)
  | .pdelayReq .. => kept_execPdelayReq h
  | .pdelayResp .. => kept_execPdelayResp h (mask_sub hk rfl)
  | .pdelayReqSend .. => kept_execPdelayReqSend h (mask_sub hk rfl)
  | .syncLoss => kept_execSyncLoss h (mask_sub hk rfl)
  | .announceTimeout => kept_execAnnounceTimeout h (mask_sub hk rfl)
  | .stepNs .. => kept_execStepNs h (mask_sub hk rfl)
  | .launchTrig .. => kept_execLaunchTrig h (mask_sub hk rfl)
  | .trigPulseEnd .. => kept_execTrigPulseEnd h (mask_sub hk rfl)
  | .compatLoad .. => kept_execCompatLoad h (mask_sub hk rfl)
  | .txbReq .. => kept_execTxbReq h (mask_sub hk rfl)
  | .txbCancel .. => kept_execTxbCancel h
  | .canLaunchDue .. => kept_execCanLaunchDue h (mask_sub hk rfl)
  | .canLateWindow .. => kept_execCanLateWindow h (mask_sub hk rfl)
  | .txDone .. => kept_execTxDone h (mask_sub hk rfl)
  | .canRxFrame .. => kept_execCanRxFrame h (mask_sub hk rfl)
  | .canBusError .. => kept_execCanBusError h (mask_sub hk rfl)
  | .recover .. => kept_execRecover h
  | .busOn .. => kept_execBusOn h
  | .canModeWrite .. => kept_execCanModeWrite h
  | .canPeriodicDue .. => kept_execCanPeriodicDue h (mask_sub hk rfl)
  | .trefSend .. => kept_execTrefSend h (mask_sub hk rfl)
  | .trefLost .. => kept_execTrefLost h (mask_sub hk rfl)
  | .rxqAck .. => kept_execRxqAck h (mask_sub hk rfl)
  | .rxqHeadRead .. => kept_execRxqHeadRead h (mask_sub hk rfl)
  | .rxqLockExpiry .. => kept_execRxqLockExpiry h (mask_sub hk rfl)
  | .filterCommit .. => kept_execFilterCommit h
  | .ethLinkChange .. => kept_execEthLinkChange h
  | .ethRxFrame .. => kept_execEthRxFrame h (mask_sub hk rfl)
  | .plantDatagram .. => kept_execPlantDatagram h (mask_sub hk rfl)
  | .arpRequest .. => kept_execArpRequest h
  | .icmpEcho .. => kept_execIcmpEcho h
  | .txTailWrite .. => kept_execTxTailWrite h (mask_sub hk rfl)
  | .rxTailWrite .. => kept_execRxTailWrite h
  | .ethTxDone .. => kept_execEthTxDone h (mask_sub hk rfl)
  | .macAge .. => kept_execMacAge h (mask_sub hk rfl)
  | .plnkFrame .. => kept_execPlnkFrame h (mask_sub hk rfl)
  | .plnkLinkDown .. => kept_execPlnkLinkDown h (mask_sub hk rfl)
  | .plnkLinkUp => kept_execPlnkLinkUp h (mask_sub hk rfl)
  | .twbIdentRead .. => kept_execTwbIdentRead h (mask_sub hk rfl)
  | .twbModeRead .. => kept_execTwbModeRead h (mask_sub hk rfl)
  | .twbHoursRead .. => kept_execTwbHoursRead h (mask_sub hk rfl)
  | .twbAddrRead .. => kept_execTwbAddrRead h (mask_sub hk rfl)
  | .twbPointerWrite .. => kept_execTwbPointerWrite h (mask_sub hk rfl)
  | .twbPointerRead .. => kept_execTwbPointerRead h (mask_sub hk rfl)
  | .twbFixedPointerRead .. => kept_execTwbFixedPointerRead h (mask_sub hk rfl)
  | .twbProtoErr => kept_execTwbProtoErr h
  | .twbTgtTimeout => kept_execTwbTgtTimeout h
  | .twbQuickWrite .. => kept_execTwbQuickWrite h (mask_sub hk rfl)
  | .twbQuickRead .. => kept_execTwbQuickRead h (mask_sub hk rfl)
  | .twbSendByte .. => kept_execTwbSendByte h (mask_sub hk rfl)
  | .twbReceiveByte .. => kept_execTwbReceiveByte h (mask_sub hk rfl)
  | .twbWriteByte .. => kept_execTwbWriteByte h (mask_sub hk rfl)
  | .twbReadByte .. => kept_execTwbReadByte h (mask_sub hk rfl)
  | .twbWriteWord .. => kept_execTwbWriteWord h (mask_sub hk rfl)
  | .twbReadWord .. => kept_execTwbReadWord h (mask_sub hk rfl)
  | .twbProcessCall .. => kept_execTwbProcessCall h (mask_sub hk rfl)
  | .twbBlockWrite .. => kept_execTwbBlockWrite h (mask_sub hk rfl)
  | .twbBlockRead .. => kept_execTwbBlockRead h (mask_sub hk rfl)
  | .twbBlockWriteBlockRead .. => kept_execTwbBlockWriteBlockRead h (mask_sub hk rfl)
  | .twbFixedWrite .. => kept_execTwbFixedWrite h (mask_sub hk rfl)
  | .twbFixedRead .. => kept_execTwbFixedRead h (mask_sub hk rfl)
  | .twbCancel .. => kept_execTwbCancel h (mask_sub hk rfl)
  | .twbBusFree => kept_execTwbBusFree h (mask_sub hk rfl)
  | .cDone .. => kept_execCDone h hE (mask_sub hk rfl)
  | .arbLost .. => kept_execArbLost h hE (mask_sub hk rfl)
  | .twbCTimeout => kept_execTwbCTimeout h hE (mask_sub hk rfl)
  | .busStuck .. => kept_execBusStuck h hE (mask_sub hk rfl)
  | .updBegin .. => kept_execUpdBegin h (mask_sub hk rfl)
  | .updData .. => kept_execUpdData h (mask_sub hk rfl)
  | .headerCheckDone .. => kept_execHeaderCheckDone h (mask_sub hk rfl)
  | .payloadVerified .. => kept_execPayloadVerified h (mask_sub hk rfl)
  | .updAbort .. => kept_execUpdAbort h (mask_sub hk rfl)
  | .updArm .. => kept_execUpdArm h (mask_sub hk rfl)
  | .updRevert .. => kept_execUpdRevert h (mask_sub hk rfl)
  | .activateAtDue => kept_execActivateAtDue h
  | .keyRevoke .. => kept_execKeyRevoke h (mask_sub hk rfl)
  | .nfwResult .. => kept_execNfwResult h (mask_sub hk rfl)
  | .nfwBusyTimeout => kept_execNfwBusyTimeout h (mask_sub hk rfl)
  | .nodeRejoinTimeout => kept_execNodeRejoinTimeout h (mask_sub hk rfl)
  | .loadStatus st .. => kept_execLoadStatus (x0 := st) h (mask_sub hk rfl)
  | .loadResend => kept_execLoadResend h (mask_sub hk rfl)
  | .loadTimeout => kept_execLoadTimeout h (mask_sub hk rfl)
  | .tonePresent .. => kept_execTonePresent h
  | .chassisLoopClosed => kept_execChassisLoopClosed h (mask_sub hk rfl)
  | .ethLaunchDue .. => kept_execEthLaunchDue h (mask_sub hk rfl)
  | .syncSend .. => kept_execSyncSend h (mask_sub hk rfl)
  | .swapDriveTimeout => kept_execSwapDriveTimeout h (mask_sub hk rfl)
  | .eccCorrected => kept_execEccCorrected h

/-- What a step from `s` is watched for: soundness where `s` is sound, the part and the rest of the queue, the messages that have
left, the counter of free values. -/
def State.stepWatch (s : State) : Watch :=
  { sound := s.Sound, base := s.withPending s.pending.tail, mask := exceptQueue, events := fun _ => False,
    msgs := (· ∈ s.sent), ctr := s.freeCtr }

@[simp] theorem State.stepWatch_mask (s : State) : s.stepWatch.mask = exceptQueue := rfl

/-- The four stores of a state, each in canonical form. -/
theorem State.wf_iff {s : State} : s.wf = true ↔
    s.regs.wf = true ∧ s.ram.wf = true ∧ s.mram.regs.wf = true ∧ s.fltHeld.wf = true := by
  simp only [State.wf, Bool.and_eq_true, and_assoc]

theorem Only_refl (m : Nat) (s : State) : Only m s s := by constructor <;> exact .inr rfl

/-- Once the front has left the queue, everything that the step is watched for holds. -/
theorem kept_withPending (s : State) : Kept s.stepWatch (s.withPending s.pending.tail) where
  regs := fun ⟨hw, _⟩ => (State.wf_iff.mp hw).1
  ram := fun ⟨hw, _⟩ => (State.wf_iff.mp hw).2.1
  mram := fun ⟨hw, _⟩ => (State.wf_iff.mp hw).2.2.1
  flt := fun ⟨hw, _⟩ => (State.wf_iff.mp hw).2.2.2
  variant := rfl
  ev := fun ⟨_, he⟩ => he
  has := watchE_none fun _ => id
  out := fun _ => id
  ctr := Nat.le_refl _
  only := Only_refl _ _

theorem State.withPending_self (s : State) : s.withPending s.pending = s := rfl

/-- A step answers a next state and keeps what it is watched for: the command at the front, or the tick of an empty queue. -/
theorem kept_step (s : State) : KeptO s.stepWatch (step s) := by
  have h := kept_withPending s
  unfold step
  split
  · next hq =>
    rw [hq, List.tail_nil, ← hq, State.withPending_self] at h
    exact KeptO_next (kept_idle h (by rw [s.stepWatch_mask]; rfl))
  · next c rest hq =>
    rw [hq, List.tail_cons] at h
    exact kept_exec h (fun _ => id) (by rw [s.stepWatch_mask]; rfl) c

/-- Where soundness is watched, a state that keeps it is sound. -/
theorem Kept.toSound {g : Watch} {t : State} (h : Kept g t) (hs : g.sound) : t.Sound := by
  have he : evOk t.variant t.comp.waiting = true := h.variant ▸ h.ev hs
  exact ⟨State.wf_iff.mpr ⟨h.regs hs, h.ram hs, h.mram hs, h.flt hs⟩, he⟩

/-- Settles O5: the step is watched for soundness. -/
theorem everyStepKeepsTheStateSound : Obligations.EveryStepKeepsTheStateSound := by
  intro s hs
  obtain ⟨t, ht, hk⟩ := kept_step s
  exact ⟨t, ht, hk.toSound hs⟩

/-- Settles O6: the queue is the one field off the mask, and the other parts are watched as such. -/
theorem everyStepAnswersAndKeepsWhatLeft : Obligations.EveryStepAnswersAndKeepsWhatLeft := by
  intro s
  obtain ⟨t, ht, hk⟩ := kept_step s
  have hq : t.pending = s.pending.tail := hk.only.f0.resolve_left (by rw [s.stepWatch_mask]; decide)
  exact ⟨t, ht, hk.variant, hq, hk.out, hk.ctr⟩

end Sys2Proof.Machine

/-! PROOF. Accesses of a master to registers and memory (R9, R43 to R52, R170, R554): where an address lies, what each check
answers, what a refused access records, what a latch holds; and from these the clauses of REGISTER_WRITE, OWNER_WRITE, LOCK_WRITE,
LOCK_KEY_EXPIRY, READ_CLEAR and LOW_WORD_READ. -/

namespace Sys2Proof.Machine

/-! ### Where an address lies (R43, R44) -/

section Address

variable {a p o m w : Nat}

theorem inPages_iff : inPages a = true ↔ 0x40000000 ≤ a ∧ a < 0x40023000 := by simp [inPages]

theorem isRam_iff : isRam a = true ↔ (0x10000000 ≤ a ∧ a < 0x10800000) ∨ (0x80000000 ≤ a ∧ a < 0xC0000000) := by
  simp [isRam]

theorem governing?_of_inPages (h : inPages a = true) : governing? a = some (pageOf a) := by
  rw [inPages_iff] at h
  rw [governing?, if_pos (by simpa using h)]

theorem isRam_of_inPages (h : inPages a = true) : isRam a = false := by
  rw [inPages_iff] at h
  rw [← Bool.not_eq_true, isRam_iff]
  omega

/-- Register `o` of page `p` lies in the register pages, on that page, at that offset. -/
theorem inPages_pageBase (hp : p < 35) (ho : o < 0x1000) : inPages (pageBase p + o) = true := by
  rw [inPages_iff, pageBase]; omega

theorem pageOf_pageBase (ho : o < 0x1000) : pageOf (pageBase p + o) = p := by
  rw [pageOf, pageBase]; omega

theorem offset_pageBase (ho : o < 0x1000) : (pageBase p + o) % 0x1000 = o := by
  rw [pageBase]; omega

/-- The RAM regions begin and end at multiples of 16 bytes, so an aligned access that begins in one ends in it. -/
theorem isRam_aligned_end (hw : w ∈ [1, 2, 4, 8, 16]) (ha : a % w = 0) (h : isRam a = true) : isRam (a + w - 1) = true := by
  rw [isRam_iff] at h ⊢
  simp only [List.mem_cons, List.not_mem_nil, or_false] at hw
  rcases hw with rfl | rfl | rfl | rfl | rfl <;> omega

theorem isRam_word (h : isRam a = true) : isRam (a / 4 * 4) = true := by
  rw [isRam_iff] at h ⊢; omega

/-- Cores, fabric and sessions reach every register page (R43). -/
theorem writable_of_inPages (hm : m < 4) (h : inPages a = true) : writable m a = true := by
  rw [writable, governing?_of_inPages h, h]
  have : m = 0 ∨ m = 1 ∨ m = 2 ∨ m = 3 := by omega
  rcases this with rfl | rfl | rfl | rfl <;> rfl

theorem readable_of_inPages (hm : m < 4) (h : inPages a = true) : readable m a = true := by
  rw [readable, governing?_of_inPages h, h]
  have : m = 0 ∨ m = 1 ∨ m = 2 ∨ m = 3 := by omega
  rcases this with rfl | rfl | rfl | rfl <;> rfl

/-- A Folio register of page `p` as the checks and the writes see it. -/
theorem folio_address {o : Nat} (hp : p < 35) (ho : o < 0x20) :
    inPages (pageBase p + o) = true ∧ pageOf (pageBase p + o) = p ∧ (pageBase p + o) % 0x1000 = o :=
  ⟨inPages_pageBase hp (by omega), pageOf_pageBase (by omega), offset_pageBase (by omega)⟩

/-- An address of a receive queue's head, where a read can lock or release it (R459). -/
def inQueueHead (a : Nat) : Prop := (pageOf a = Pg.CAN0 ∨ pageOf a = Pg.CAN1) ∧ 0xE00 ≤ a % 0x1000 ∧ a % 0x1000 < 0xF40

end Address

/-! ### The bytes of a value -/

/-- Byte `i` of the bytes that spell a value. -/
theorem getElem_leBytes {w v i : Nat} (h : i < (leBytes w v).length) : (leBytes w v)[i] = v / 256 ^ i % 256 := by
  induction w generalizing v i with
  | zero => simp [leBytes] at h
  | succ n ih =>
    cases i with
    | zero => simp [leBytes]
    | succ i => simp [leBytes, ih, Nat.div_div_eq_div_mul, Nat.pow_succ']

theorem length_leBytes {w v : Nat} : (leBytes w v).length = w := by
  induction w generalizing v with
  | zero => rfl
  | succ n ih => simp [leBytes, ih]

/-! ### Keys (R51) -/

/-- Of the Folio registers only OWNER is keyed: every other keyed register lies past the Folio. -/
theorem keyOf_folio {a v : Nat} (ho : a % 0x1000 < 0x20) (hO : a % 0x1000 ≠ 0x14) : keyOf a v = none := by
  have past (r : Nat) (hr : 0x20 ≤ r % 0x1000) : (a == r) = false := by
    rw [beq_eq_false_iff_ne]; rintro rfl; omega
  have hO : (a % 0x1000 == 0x14) = false := beq_eq_false_iff_ne.mpr hO
  simp (disch := decide) [keyOf, past, hO, -beq_iff_eq]

theorem keyOf_owner {a v : Nat} (hi : inPages a = true) (ho : a % 0x1000 = 0x14) (hf : fixedOwner (pageOf a) = false) :
    keyOf a v = some (0xC3A5, Ev.SYS_OWNER_DENIED) := by
  rw [keyOf, hi, ho, hf]; rfl

namespace State

variable {s : State} {m a p v w : Nat}

/-! ### The checks of a write to a Folio register (R49 to R51) -/

/-- OWNER apart, a Folio register takes a write of a master whose OWNER bit is set, and LOCK one of either core. -/
theorem writeCheck_folio (hi : inPages a = true) (ho : a % 0x1000 < 0x20) (hO : a % 0x1000 ≠ 0x14) (hm : m < 4)
    (hv : pagePresent s.variant (pageOf a) = true) :
    s.writeCheck m a v = if (a % 0x1000 = 0x18 ∧ m < 2) ∨ s.owns m (pageOf a) = true then St.ok else St.ownerDenied := by
  have h5 : m ≠ 5 := by omega
  have hk : a ≠ Reg.CLK_WDG_KICK := by rintro rfl; exact absurd ho (by decide)
  simp only [writeCheck, governing?_of_inPages hi, keyOf_folio ho hO]
  by_cases hw : s.owns m (pageOf a) = true
  · simp [hv, hi, h5, hO, hk, hw, Nat.not_le.mpr ho]
  · simp [hv, hi, h5, hO, hk, hw]

/-- OWNER of a page where it is not fixed takes a core's write with the key. -/
theorem writeCheck_owner_core (hi : inPages a = true) (ho : a % 0x1000 = 0x14) (hm : m < 2)
    (hv : pagePresent s.variant (pageOf a) = true) (hf : fixedOwner (pageOf a) = false)
    (hk : s.keyOk m (pageOf a) 0xC3A5 = true) : s.writeCheck m a v = St.ok := by
  have h5 : m ≠ 5 := by omega
  simp [writeCheck, governing?_of_inPages hi, keyOf_owner hi ho hf, hk, hv, h5, ho, hi, hf, hm]

/-- OWNER refuses every other master. -/
theorem writeCheck_owner_denied (hi : inPages a = true) (ho : a % 0x1000 = 0x14) (hm : 2 ≤ m) (hm4 : m < 4)
    (hv : pagePresent s.variant (pageOf a) = true) : s.writeCheck m a v = St.ownerDenied := by
  have h5 : m ≠ 5 := by omega
  simp [writeCheck, governing?_of_inPages hi, hv, h5, ho, hi, Nat.not_lt.mpr hm]

/-! ### A write by a master (R43, R52, R554) -/

/-- A whole aligned word of a register page is written under the checks of its register. -/
theorem writeAny_page (hi : inPages a = true) (ha : a % 4 = 0) (hm : m < 4) (hp : s.pmpOk m a true = true) :
    s.writeAny m a 4 v = s.writeWord m a v := by
  have h4 : a / 4 * 4 = a := by omega
  simp [writeAny, hp, h4, writable_of_inPages hm hi, isRam_of_inPages hi, ha]

/-- An aligned store of a core to memory. -/
theorem writeAny_ram (hm : m < 2) (hw : w ∈ [1, 2, 4, 8, 16]) (ha : a % w = 0) (hr : isRam a = true)
    (hp : s.pmpOk m a true = true) : s.writeAny m a w v = (St.ok, s.setBytes a (leBytes w v)) := by
  simp [writeAny, hp, writable, hm, hr, isRam_word hr, isRam_aligned_end hw ha hr]

/-- A write that a core's memory protection stops (R368). -/
theorem writeAny_pmp (hp : s.pmpOk m a true = false) : s.writeAny m a w v = (St.unmapped, s.pmpFault m a true) := by
  simp [writeAny, hp]

/-- The memory protection of R368 is the cores' alone. -/
theorem pmpOk_host {store : Bool} (hm : 2 ≤ m) : s.pmpOk m a store = true := by
  have h0 : m ≠ 0 := by omega
  have h1 : m ≠ 1 := by omega
  simp [pmpOk, userMode, h0, h1]

theorem writeWord_ok (h : s.writeCheck m a (v % 2 ^ 32) = St.ok) : s.writeWord m a v = (St.ok, s.writeAt m a (v % 2 ^ 32)) := by
  rw [writeWord, h]; rfl

/-- What a write that OWNER refuses does (R49, R554). -/
def ownerDenied (s : State) (m a : Nat) : State := (s.raise Ev.SYS_OWNER_DENIED).recordErr m a St.ownerDenied

theorem refuseAt_ownerDenied : s.refuseAt m a v St.ownerDenied = s.ownerDenied m a := by
  have noFault : ¬ (decide (m < 2) && (St.ownerDenied == St.unmapped || St.ownerDenied == St.align)) = true := by
    rw [Bool.and_eq_true]
    exact fun h => absurd h.2 (by decide)
  rw [refuseAt, if_neg (by decide), if_neg (by decide), if_pos (by decide)]
  exact if_neg noFault

theorem writeWord_denied (h : s.writeCheck m a (v % 2 ^ 32) = St.ownerDenied) :
    s.writeWord m a v = (St.ownerDenied, s.ownerDenied m a) := by
  rw [writeWord, h]
  exact congrArg (Prod.mk _) refuseAt_ownerDenied

/-- A Folio register takes a write that has passed its checks. -/
theorem writeAt_folio (hi : inPages a = true) (ho : a % 0x1000 < 0x20) :
    s.writeAt m a v = s.writeFolio m (pageOf a) (a % 0x1000) v := by
  simp [writeAt, governing?_of_inPages hi, hi, ho]

/-! ### LOCK.KEY cleared (R51) -/

theorem getF_clearKey : (s.clearKey p).getF (Folio.LOCK_KEY p) = 0 :=
  getF_setF s (Folio.LOCK_KEY p) 0 (show 15 < 32 by decide) (Nat.zero_le 15)

theorem getF_clearKey_master : (s.clearKey p).getF (Folio.LOCK_MASTER p) = s.getF (Folio.LOCK_MASTER p) :=
  getF_setF_disjoint s (Folio.LOCK_KEY p) (Folio.LOCK_MASTER p) 0 (show 18 < 32 by decide) (show 16 ≤ 18 by decide)
    (Nat.zero_le 15) (.inr (show 15 < 16 by decide))

theorem regsBut_clearKey : RegsBut [Folio.LOCK p] s (s.clearKey p) := fun b hb => by
  rw [clearKey, setF, getReg_setReg, if_neg (by simpa using hb)]

/-! ### The record of a refused access (R554) -/

theorem getReg_recordErr {st b : Nat} (h1 : b ≠ Reg.SYS_ACCESS_ERR_ADDR) (h2 : b ≠ Reg.SYS_ACCESS_ERR) :
    (s.recordErr m a st).getReg b = s.getReg b := by
  rw [recordErr, setF, getReg_setReg, if_neg h2, setF, getReg_setReg, if_neg h2, getReg_setReg, if_neg h1]

theorem getReg_recordErr_addr {st : Nat} (ha : a < 2 ^ 32) : (s.recordErr m a st).getReg Reg.SYS_ACCESS_ERR_ADDR = a := by
  rw [recordErr, setF, getReg_setReg, if_neg (by decide), setF, getReg_setReg, if_neg (by decide), getReg_setReg, if_pos rfl,
    Nat.mod_eq_of_lt ha]

theorem getF_recordErr_master {st : Nat} (hm : m < 8) : (s.recordErr m a st).getF Fld.SYS_ACCESS_ERR_MASTER = m := by
  rw [recordErr, getF_setF_disjoint _ _ _ _ (by decide) (by decide) (by decide) (by decide),
    getF_setF _ _ _ (by decide) (by decide)]
  exact Nat.mod_eq_of_lt hm

theorem getF_recordErr_status {st : Nat} (hs : st < 256) : (s.recordErr m a st).getF Fld.SYS_ACCESS_ERR_STATUS = st := by
  rw [recordErr, getF_setF _ _ _ (by decide) (by decide)]
  exact Nat.mod_eq_of_lt hs

@[simp] theorem recordErr_sent {st : Nat} : (s.recordErr m a st).sent = s.sent := rfl

@[simp] theorem getF_emit (f : Fld) (q : Port) (c : Nat) (l : List Nat) : (s.emit q c l).getF f = s.getF f := rfl

@[simp] theorem waits_recordErr {st : Nat} (e : Ev) : (s.recordErr m a st).waits e = s.waits e := rfl

/-- A refusal by OWNER raises OWNER_DENIED, records the access and changes no other register. -/
theorem ownerDenied_effect (hm : m < 4) (hi : inPages a = true) :
    Added [Ev.SYS_OWNER_DENIED] s (s.ownerDenied m a) ∧ (s.ownerDenied m a).getReg Reg.SYS_ACCESS_ERR_ADDR = a ∧
      (s.ownerDenied m a).getF Fld.SYS_ACCESS_ERR_MASTER = m ∧
      (s.ownerDenied m a).getF Fld.SYS_ACCESS_ERR_STATUS = St.ownerDenied ∧
      RegsBut [Reg.SYS_ACCESS_ERR_ADDR, Reg.SYS_ACCESS_ERR, Reg.SEQ_COALESCED] s (s.ownerDenied m a) := by
  have ha := (inPages_iff.mp hi).2
  refine ⟨fun e => ?_, getReg_recordErr_addr (by omega), getF_recordErr_master (by omega),
    getF_recordErr_status (by decide), fun b hb => ?_⟩
  · rw [ownerDenied, waits_recordErr]
    exact Added_raise (by cases s.variant <;> rfl) e
  · simp only [List.mem_cons, List.not_mem_nil, or_false, not_or] at hb
    obtain ⟨h1, h2, h3⟩ := hb
    rw [ownerDenied, getReg_recordErr h1 h2, getReg_raise _ _ _ h3]

end State

/-! ### REGISTER_WRITE, OWNER_WRITE, LOCK_WRITE, LOCK_KEY_EXPIRY (R49, R51) -/

section Writes

variable {s : State} {m a p v w : Nat}

theorem exec_registerWrite (hl : s.live = true) : exec (.registerWrite m a w v) s = .next (s.writeAny m a w v).2 :=
  congrArg Host.Outcome.next (if_pos hl)

theorem exec_ownerWrite (hl : s.live = true) : exec (.ownerWrite m p v) s = .next (s.writeAny m (Folio.OWNER p) 4 v).2 :=
  congrArg Host.Outcome.next (if_pos hl)

theorem exec_lockWrite (hl : s.live = true) : exec (.lockWrite m p v) s = .next (s.writeAny m (Folio.LOCK p) 4 v).2 :=
  congrArg Host.Outcome.next (if_pos hl)

theorem exec_lockKeyExpiry (hl : s.live = true) (hp : p < 35) : exec (.lockKeyExpiry p) s = .next (s.clearKey p) :=
  congrArg Host.Outcome.next (if_pos (by simp [hl, hp]))

theorem says_registerWrite_mem : Says.registerWrite_mem := by
  intro s m a w v hl hm hw ha hr hp
  refine ⟨_, by rw [exec_registerWrite hl, State.writeAny_ram hm hw ha hr hp], rfl, fun i hi => ?_, fun b hb => ?_⟩
  · have hi' : i < (leBytes w v).length := by rwa [length_leBytes]
    rw [State.getByte, State.setBytes, storeBytes_get_at _ _ _ _ hi', getElem_leBytes, BitVec.toNat_ofNat]
    omega
  · exact State.getByte_setBytes _ _ _ _ (by rwa [length_leBytes])

/-- EVENT_EN as OWNER lets a master write it or not. -/
theorem writeCheck_eventEn (hp : p < 35) (hm : m < 4) (hv : pagePresent s.variant p = true) :
    s.writeCheck m (Folio.EVENT_EN p) v = if s.owns m p = true then St.ok else St.ownerDenied := by
  obtain ⟨hi, hg, ho⟩ := folio_address (o := 0x10) hp (by decide)
  rw [State.writeCheck_folio hi (by omega) (by omega) hm (by rwa [hg]), hg, ho]
  simp

theorem says_registerWrite : Says.registerWrite := by
  intro s m p v hl hp hm hv ho hu
  obtain ⟨hi, hg, hf⟩ := folio_address (o := 0x10) hp (by decide)
  have hc := (writeCheck_eventEn (v := v % 2 ^ 32) hp hm hv).trans (if_pos ho)
  have hw : s.writeAt m (Folio.EVENT_EN p) (v % 2 ^ 32) = s.setReg (Folio.EVENT_EN p) (v % 2 ^ 32 &&& evMask p) := by
    rw [State.writeAt_folio hi (by omega), hf, hg]; rfl
  refine ⟨_, by rw [exec_registerWrite hl, State.writeAny_page hi (by omega) hm hu, State.writeWord_ok hc, hw], rfl, ?_,
    fun b hb => ?_⟩
  · rw [State.getReg_setReg, if_pos rfl]
    exact Nat.mod_eq_of_lt (Nat.lt_of_le_of_lt Nat.and_le_left (Nat.mod_lt _ (by decide)))
  · rw [State.getReg_setReg, if_neg (by simpa using hb)]

theorem says_registerWrite_owner : Says.registerWrite_owner := by
  intro s m p v hl hp hm hv ho hu
  obtain ⟨hi, -, hf⟩ := folio_address (o := 0x10) hp (by decide)
  have hc := (writeCheck_eventEn (v := v % 2 ^ 32) hp hm hv).trans (if_neg (by simp [ho]))
  exact ⟨_, by rw [exec_registerWrite hl, State.writeAny_page hi (by omega) hm hu, State.writeWord_denied hc],
    State.ownerDenied_effect hm hi⟩

theorem says_registerWrite_user : Says.registerWrite_user := by
  intro s a w v hl hu
  exact ⟨s.pmpFault 0 a true, by rw [exec_registerWrite hl, State.writeAny_pmp hu], rfl⟩

theorem says_ownerWrite : Says.ownerWrite := by
  intro s m p v hl hp hm hv hf hk hu
  obtain ⟨hi, hg, ho⟩ := folio_address (o := 0x14) hp (by decide)
  have hc : s.writeCheck m (Folio.OWNER p) (v % 2 ^ 32) = St.ok :=
    State.writeCheck_owner_core hi ho hm (by rwa [hg]) (by rwa [hg]) (by rwa [hg])
  have hw : s.writeAt m (Folio.OWNER p) (v % 2 ^ 32)
      = (s.setReg (Folio.OWNER p) ((v % 2 ^ 32 &&& 0x1D) ||| 2)).clearKey p := by
    rw [State.writeAt_folio hi (by omega), ho, hg]; rfl
  refine ⟨_, by rw [exec_ownerWrite hl, State.writeAny_page hi (by omega) (by omega) hu, State.writeWord_ok hc, hw], ?_,
    State.getF_clearKey, fun b hb => ?_⟩
  · rw [State.regsBut_clearKey _ (by simp), State.getReg_setReg, if_pos rfl]
    exact Nat.mod_eq_of_lt (Nat.or_lt_two_pow (Nat.and_lt_two_pow _ (by decide)) (by decide))
  · simp only [List.mem_cons, List.not_mem_nil, or_false, not_or] at hb
    rw [State.regsBut_clearKey _ (by simpa using hb.2), State.getReg_setReg, if_neg hb.1]

theorem says_ownerWrite_denied : Says.ownerWrite_denied := by
  intro s m p v hl hp h2 hm hv
  obtain ⟨hi, hg, ho⟩ := folio_address (o := 0x14) hp (by decide)
  have hc : s.writeCheck m (Folio.OWNER p) (v % 2 ^ 32) = St.ownerDenied :=
    State.writeCheck_owner_denied hi ho h2 hm (by rwa [hg])
  exact ⟨_, by rw [exec_ownerWrite hl, State.writeAny_page hi (by omega) hm (State.pmpOk_host h2), State.writeWord_denied hc],
    State.ownerDenied_effect hm hi⟩

theorem says_lockWrite : Says.lockWrite := by
  intro s m p k hl hp hm hv hu
  obtain ⟨hi, hg, ho⟩ := folio_address (o := 0x18) hp (by decide)
  have hm4 : m < 4 := by omega
  have hc : s.writeCheck m (Folio.LOCK p) (k % 2 ^ 32) = St.ok := by
    rw [State.writeCheck_folio hi (by omega) (by omega) hm4 (by rwa [hg]), hg, ho]
    exact if_pos (hm.imp (⟨rfl, ·⟩) And.right)
  have hw : s.writeAt m (Folio.LOCK p) (k % 2 ^ 32) = s.setReg (Folio.LOCK p) (m * 65536 + k % 2 ^ 32 % 65536) := by
    rw [State.writeAt_folio hi (by omega), ho, hg]; rfl
  have hr : (s.setReg (Folio.LOCK p) (m * 65536 + k % 2 ^ 32 % 65536)).getReg (Folio.LOCK p) = m * 65536 + k % 65536 := by
    rw [State.getReg_setReg, if_pos rfl]; omega
  refine ⟨_, by rw [exec_lockWrite hl, State.writeAny_page hi (by omega) hm4 hu, State.writeWord_ok hc, hw], ?_, ?_,
    fun b hb => ?_⟩
  · rw [State.getF, hr, bitsOf]; simp
  · rw [State.getF, hr]
    show (m * 65536 + k % 65536) >>> 16 % 2 ^ 3 = m
    rw [Nat.shiftRight_eq_div_pow]; omega
  · rw [State.getReg_setReg, if_neg (by simpa using hb)]

theorem says_lockKeyExpiry : Says.lockKeyExpiry := by
  intro s p hl hp
  exact ⟨_, exec_lockKeyExpiry hl hp, State.getF_clearKey, State.getF_clearKey_master, State.regsBut_clearKey⟩

end Writes

namespace State

variable {s : State} {m a b v w : Nat}

/-! ### Latched words (R52, R170) -/

@[simp] theorem latched_unlatch : (s.unlatch m a).latched m a = none := by
  rw [latched, unlatch, List.find?_eq_none.mpr fun l hl => by
    rw [Bool.not_eq_true, ← Bool.not_eq_true']; exact (List.mem_filter.mp hl).2]
  rfl

theorem latched_unlatch_ne (h : b ≠ a) : (s.unlatch m a).latched m b = s.latched m b := by
  rw [latched, latched, unlatch, List.find?_filter]
  congr 2
  funext l
  grind

theorem latches_latch : (s.latch m a v).acc.latches = (m, a, v) :: (s.unlatch m a).acc.latches := rfl

@[simp] theorem latched_latch : (s.latch m a v).latched m a = some v := by
  simp [latched, latches_latch]

theorem latched_latch_ne (h : b ≠ a) : (s.latch m a v).latched m b = s.latched m b := by
  rw [← latched_unlatch_ne (s := s) (a := a) h]
  simp [latched, latches_latch, h.symm]

/-- Latching registers one after the other, each with its own value, latches them all. -/
theorem latched_foldl_latch (f : Nat → Nat) (rs : List Nat) :
    (rs.foldl (fun t r => t.latch m r (f r)) s).latched m b = if b ∈ rs then some (f b) else s.latched m b := by
  induction rs generalizing s with
  | nil => simp
  | cons r rs ih =>
    rw [List.foldl_cons, ih]
    by_cases hb : b = r
    · simp [hb]
    · simp [hb, latched_latch_ne hb]

/-- Latching changes the access unit alone. -/
theorem foldl_latch_frame (f : Nat → Nat) (rs : List Nat) :
    rs.foldl (fun t r => t.latch m r (f r)) s = { s with acc := (rs.foldl (fun t r => t.latch m r (f r)) s).acc } := by
  induction rs generalizing s with
  | nil => rfl
  | cons r rs ih => rw [List.foldl_cons]; exact ih

theorem latchVote_frame : s.latchVote m = { s with acc := (s.latchVote m).acc } := foldl_latch_frame s.peek voteRegs

end State

/-! ### What a read clears (R9) -/

/-- A row of the access table names bits of a 32-bit register. -/
theorem accAt_rc_lt (a : Nat) : (accAt a).rc < 2 ^ 32 := by
  have row (p : Nat) : ∀ r ∈ accOf p, r.rc < 2 ^ 32 := by
    by_cases hp : p < 35
    · revert p; decide +kernel
    · have ne (k : Nat) (hk : k < 35) : (p == k) = false := by rw [beq_eq_false_iff_ne]; omega
      simp (disch := decide) [accOf, ne, -beq_iff_eq]
  rw [accAt]
  cases hf : (accOf (pageOf a)).find? _ with
  | none => exact Nat.two_pow_pos 32
  | some r => exact row _ r (List.mem_of_find?_eq_some hf)

namespace State

variable {s : State} {m a b v w : Nat}

theorem getReg_lt : s.getReg a < 2 ^ 32 := (s.regs.get a).isLt

/-- A register with its RC bits read: they keep what the present cycle has added. -/
def rcCleared (s : State) (a : Nat) : Nat := (s.getReg a &&& (0xFFFFFFFF ^^^ (accAt a).rc)) ||| (s.added a &&& (accAt a).rc)

theorem getReg_clearRead (hl : a ≠ Reg.LOOP_SEL_STATUS) (hr : rcReg a = a) :
    (s.clearRead a).getReg b = if b = a then s.rcCleared a else s.getReg b := by
  have hm : rcMask a = (accAt a).rc := if_neg (by simpa using hl)
  rw [clearRead, hm, hr, if_neg (by simpa using hl), rcCleared]
  split
  · next h0 =>
    have h0 : (accAt a).rc = 0 := by simpa using h0
    split
    · next hb => subst hb; simp [h0, Nat.and_two_pow_sub_one_of_lt_two_pow (n := 32) getReg_lt]
    · rfl
  · show (s.setReg a _).getReg b = _
    rw [getReg_setReg, Nat.mod_eq_of_lt]
    exact Nat.or_lt_two_pow (Nat.lt_of_le_of_lt Nat.and_le_left getReg_lt) (Nat.and_lt_two_pow _ (accAt_rc_lt a))

@[simp] theorem clearRead_sent : (s.clearRead a).sent = s.sent := by
  rw [clearRead]; split
  · rfl
  · split <;> rfl

/-- Where a register has no RC bit, a read returns what it finds. -/
theorem rcValue_eq (hr : rcMask a = 0) (hv : v < 2 ^ 32) : s.rcValue a v = v := by
  rw [rcValue, hr]
  split
  · simp [Nat.and_two_pow_sub_one_of_lt_two_pow (n := 32) hv]
  · rfl

/-! ### A read of a word (R9, R52) -/

/-- A latched high word is handed out once. -/
theorem readWord_latched (hv : a ∉ voteRegs) (h : s.latched m a = some v) : s.readWord m a = (v, s.unlatch m a) := by
  simp [readWord, h, hv]

/-- A register of a present page past the Folio, queue heads apart: the word found, and one of the latches or the clear. -/
theorem readWord_page (hi : inPages a = true) (ho : 0x20 ≤ a % 0x1000) (hp : pagePresent s.variant (pageOf a) = true)
    (hq : ¬ inQueueHead a) (h : s.latched m a = none) :
    s.readWord m a = (s.rcValue a (s.peek a),
      if a ∈ lowWords then s.latch m (a + 4) (s.peek (a + 4))
      else if a = Reg.VOTE_SAMPLE_SEQ then s.latchVote m else s.clearRead a) := by
  have hq : ((pageOf a == Pg.CAN0 || pageOf a == Pg.CAN1) && decide (0xE00 ≤ a % 0x1000)
      && decide (a % 0x1000 < 0xF40)) = false := by
    simpa [inQueueHead, and_assoc] using hq
  simp [readWord, h, hi, hp, hq, Nat.not_lt.mpr ho]

/-- Past the Folio a present page shows its unit's word. -/
theorem peek_unit (hi : inPages a = true) (ho : 0x40 ≤ a % 0x1000) (hv : pagePresent s.variant (pageOf a) = true) :
    s.peek a = s.unitWord a := by
  have hlt : a < 0x40023000 := (inPages_iff.mp hi).2
  have hf : ¬ a % 0x1000 < 0x20 := by omega
  simp [peek, governing?_of_inPages hi, hlt, hf, hv, Nat.not_lt.mpr ho]

/-- A read of an aligned word of a present page answers it with OK. -/
theorem readOut_page (hu : s.pmpOk m a false = true) (hr : readable m a = true) (ha : a % 4 = 0) (hi : inPages a = true)
    (hp : pagePresent s.variant (pageOf a) = true) :
    s.readOut m a 4 = (s.readWord m a).2.emit .reply St.ok [m, a, (s.readWord m a).1] := by
  have h4 : a / 4 * 4 = a := by omega
  have hlo : ¬ a < 0x10000 := by have := inPages_iff.mp hi; omega
  simp [readOut, readAny, readWords, coreWidth, governing?_of_inPages hi, isRam_of_inPages hi, hu, hr, ha, hi, hp, h4, hlo]

/-- A width that a page does not accept is refused with ALIGN and a load fault at the core. -/
theorem readOut_badWidth (hm : m < 2) (hu : s.pmpOk m a false = true) (hr : readable m (a / 4 * 4) = true)
    (hi : inPages (a / 4 * 4) = true) (hw : coreWidth a w = false) :
    s.readOut m a w = ((s.recordErr m a St.align).emit (.core m) 5 [a]).emit .reply St.align [m, a, 0] := by
  have hlo : ¬ a / 4 * 4 < 0x10000 := by have := inPages_iff.mp hi; omega
  simp [readOut, readAny, refuse, isRam_of_inPages hi, hu, hr, hw, hm, hlo]

end State

/-! ### The low words of R52 -/

section LowWords

variable {s : State} {a : Nat}

/-- The low words of R52 are aligned registers past the Folio, none with RC bits. -/
theorem lowWords_address (h : a ∈ lowWords) : a % 4 = 0 ∧ inPages a = true ∧ 0x40 ≤ a % 0x1000 ∧ rcMask a = 0 := by
  revert a; decide +kernel

theorem lowWords_not_inQueueHead (h : a ∈ lowWords) : ¬ inQueueHead a := by
  unfold inQueueHead; revert a; decide +kernel

/-- The low words that are formed when they are read. -/
def viewedLowWords : List Nat := [Reg.NODE_SEL_UID_LO, Reg.TMR_BASE_LO, Reg.TIME_NOW_LO, Reg.TIME_COMPAT_LO]

/-- The low words that the register store holds. -/
def storedLowWords : List Nat := [Reg.SYS_SERIAL_LO, Reg.MEAS_CHG_ACC_LO, Reg.MEAS_CHG_IN_LO, Reg.MEAS_CHG_OUT_LO,
  Reg.PAIR_PARTNER_SERIAL_LO, Reg.CYC_TRAP_PC_LO, Reg.CYC_CYCLE_LO, Reg.TIME_GM_ID_LO, Reg.ETH_MAC_LO 0, Reg.ETH_MAC_LO 1]

theorem viewed_or_stored (h : a ∈ lowWords) : a ∈ viewedLowWords ∨ a ∈ storedLowWords := by
  revert a; decide +kernel

theorem unitWord_viewed_lt (h : a ∈ viewedLowWords) : s.unitWord a < 2 ^ 32 := by
  have cut (n : Nat) : n % 2 ^ 32 < 2 ^ 32 := Nat.mod_lt _ (Nat.two_pow_pos 32)
  simp only [viewedLowWords, List.mem_cons, List.not_mem_nil, or_false] at h
  rcases h with rfl | rfl | rfl | rfl <;> exact cut _

theorem unitWord_stored (h : a ∈ storedLowWords) : s.unitWord a = s.getReg a := by
  simp only [storedLowWords, List.mem_cons, List.not_mem_nil, or_false] at h
  rcases h with rfl | rfl | rfl | rfl | rfl | rfl | rfl | rfl | rfl | rfl <;> rfl

/-- A low word has 32 bits: a view is cut to them, and a register has no more. -/
theorem unitWord_lowWord_lt (h : a ∈ lowWords) : s.unitWord a < 2 ^ 32 :=
  (viewed_or_stored h).elim unitWord_viewed_lt fun h => unitWord_stored h ▸ State.getReg_lt

end LowWords

/-! ### READ_CLEAR, LOW_WORD_READ (R9, R52, R170) -/

section Reads

variable {s : State} {m a w : Nat}

theorem exec_readClear (hl : s.live = true) : exec (.readClear m a w) s = .next (s.readOut m a w) :=
  congrArg Host.Outcome.next (if_pos hl)

theorem exec_lowWordRead (hl : s.live = true) : exec (.lowWordRead m a w) s = .next (s.readOut m a w) :=
  congrArg Host.Outcome.next (if_pos hl)

theorem says_readClear : Says.readClear := by
  intro s m a hl hr ha hi ho hv hc hq hs hvote hlow hlatch hu
  have hreg : rcReg a = a := by
    rw [rcReg, if_neg]
    simpa [and_assoc] using hc
  have hw : s.readWord m a = (s.rcValue a (s.peek a), s.clearRead a) := by
    rw [State.readWord_page hi ho hv hq hlatch, if_neg hlow, if_neg hvote]
  refine ⟨_, by rw [exec_readClear hl, State.readOut_page hu hr ha hi hv, hw], ?_, ?_, fun b hb => ?_⟩
  · rw [State.emit, State.clearRead_sent]
  · rw [State.getReg_emit, State.getReg_clearRead hs hreg, if_pos rfl, State.rcCleared]
  · rw [State.getReg_emit, State.getReg_clearRead hs hreg, if_neg (by simpa using hb)]

theorem says_readClear_vote : Says.readClear_vote := by
  intro s m hl hm hlatch hu
  have hi : inPages Reg.VOTE_SAMPLE_SEQ = true := by decide
  have hv : pagePresent s.variant (pageOf Reg.VOTE_SAMPLE_SEQ) = true := by cases s.variant <;> rfl
  have hw : s.readWord m Reg.VOTE_SAMPLE_SEQ = (s.getReg Reg.VOTE_SAMPLE_SEQ, s.latchVote m) := by
    rw [State.readWord_page hi (by decide) hv (by unfold inQueueHead; decide) hlatch, if_neg (by decide),
      if_pos rfl, State.peek_unit hi (by decide) hv]
    exact congrArg (·, _) (State.rcValue_eq (by decide) State.getReg_lt)
  refine ⟨_, by rw [exec_readClear hl, State.readOut_page hu (readable_of_inPages hm hi) (by decide) hi hv, hw], ?_,
    fun r hr => ?_, ?_⟩
  · rw [State.emit_sent, State.latchVote_frame]
  · show (s.latchVote m).latched m r = _
    rw [State.latchVote, State.latched_foldl_latch, if_pos hr]
  · rw [State.emit, State.latchVote_frame]

theorem says_lowWordRead : Says.lowWordRead := by
  intro s m a hl hr hlow hv hlatch hu
  obtain ⟨ha, hi, ho, hrc⟩ := lowWords_address hlow
  have hlt : s.peek a < 2 ^ 32 := State.peek_unit hi ho hv ▸ unitWord_lowWord_lt hlow
  have hw : s.readWord m a = (s.peek a, s.latch m (a + 4) (s.peek (a + 4))) := by
    rw [State.readWord_page hi (by omega) hv (lowWords_not_inQueueHead hlow) hlatch, if_pos hlow,
      State.rcValue_eq hrc hlt]
  refine ⟨_, by rw [exec_lowWordRead hl, State.readOut_page hu hr ha hi hv, hw], ?_, ?_, ?_⟩
  · rfl
  · exact State.latched_latch
  · rfl

theorem says_readLatched : Says.readLatched := by
  intro s m a v hl hr ha hi hvote hv hlatch hu
  refine ⟨_, by rw [exec_readClear hl, State.readOut_page hu hr ha hi hv, State.readWord_latched hvote hlatch], ?_, ?_, ?_⟩
  · rfl
  · exact State.latched_unlatch
  · rfl

theorem says_readClear_width : Says.readClear_width := by
  intro s m a w hl hm hr hi hw hu
  refine ⟨_, by rw [exec_readClear hl, State.readOut_badWidth hm hu hr hi hw], ?_, ?_, ?_, fun e => ?_, fun b hb => ?_⟩
  · rw [State.emit_sent, State.emit_sent, State.recordErr_sent]
  · rw [State.getF_emit, State.getF_emit, State.getF_recordErr_master (by omega)]
  · rw [State.getF_emit, State.getF_emit, State.getF_recordErr_status (by decide)]
  · rw [State.waits_emit, State.waits_emit, State.waits_recordErr]; simp
  · simp only [List.mem_cons, List.not_mem_nil, or_false, not_or] at hb
    rw [State.getReg_emit, State.getReg_emit, State.getReg_recordErr hb.1 hb.2]

end Reads

/-- Settles O12: one lemma for each clause. -/
theorem registerAndMemoryWrites : Obligations.RegisterAndMemoryWrites :=
  ⟨says_registerWrite_mem, says_registerWrite, says_registerWrite_owner, says_ownerWrite, says_lockWrite, says_lockKeyExpiry,
    says_ownerWrite_denied, says_registerWrite_user, says_readClear, says_readClear_vote, says_readClear_width,
    says_lowWordRead, says_readLatched⟩

end Sys2Proof.Machine

/-! PROOF. A VB-2064-A or VB-2064-C rejects a request to enter ASSAY (R19): which operations leave the SYS and MODE pages as they
were, what a grant and a partner message leave, what a rejected request leaves and reports; and from these the way of a request
from its write, or from the partner, over its grant to its evaluation (R29, R351). -/

namespace Sys2Proof.Machine

/-! ### Where the registers of a system record and of a grant's number lie -/

/-- A register that repeats another on a higher page repeats one of a higher page too (R133). -/
theorem rcReg_high {a : Nat} (ha : 0x40002000 ≤ a) : 0x40002000 ≤ rcReg a := by
  rw [rcReg]
  split
  · next hc =>
    simp only [Bool.and_eq_true, beq_iff_eq] at hc
    obtain ⟨⟨hp, -⟩, -⟩ := hc
    have : (a - 0x40000000) / 0x1000 = 9 := hp
    omega
  · exact ha

/-- No register of the system list that a read clears lies in the SYS and MODE pages. -/
theorem systemList_clears : ∀ a ∈ systemList, 0x40002000 ≤ a ∨ rcMask a = 0 := by decide

/-- No register takes the number of an internal event. -/
theorem seqRegs_internal {v : Variant} {e : Ev} (he : 32 ≤ e.num) : (seqRegs v).find? (fun p => p.1 == e) = none := by
  have hp : ∀ p ∈ seqRegs v, p.1.num < 32 := by cases v <;> decide
  refine List.find?_eq_none.mpr fun p hm hc => ?_
  rw [beq_iff_eq] at hc; subst hc
  exact absurd (hp p hm) (by omega)

/-! ### Operations that leave the SYS and MODE pages as they were -/

/-- The registers of the SYS and MODE pages, the two lowest (R45), read in `t` as in `s`. -/
structure SameFront (s t : State) : Prop where
  reads : ∀ a, a < 0x40002000 → t.getReg a = s.getReg a

namespace SameFront

variable {s t u : State} {a : Nat}

theorem refl (s : State) : SameFront s s := ⟨fun _ _ => rfl⟩

theorem getF (h : SameFront s t) {f : Fld} (hf : f.addr < 0x40002000) : t.getF f = s.getF f := by
  rw [State.getF, State.getF, h.reads _ hf]

theorem cur (h : SameFront s t) : t.cur = s.cur := h.getF (by decide)

theorem ite {c : Prop} [Decidable c] (ht : SameFront s t) (hu : SameFront s u) : SameFront s (if c then t else u) := by
  split
  · exact ht
  · exact hu

theorem foldl {α : Type} {f : State → α → State} {l : List α} (h : SameFront s t)
    (step : ∀ x u, SameFront s u → SameFront s (f u x)) : SameFront s (l.foldl f t) := by
  induction l generalizing t with
  | nil => exact h
  | cons x l ih => exact ih (step x _ h)

/-! A field that holds no register may change. -/

theorem comp (h : SameFront s t) (c : Compositor) : SameFront s { t with comp := c } := ⟨h.reads⟩
theorem eth (h : SameFront s t) (e : EthUnit) : SameFront s { t with eth := e } := ⟨h.reads⟩
theorem evr (h : SameFront s t) (e : Recorder) : SameFront s { t with evr := e } := ⟨h.reads⟩
theorem est (h : SameFront s t) (e : Estim) : SameFront s { t with est := e } := ⟨h.reads⟩
theorem gal (h : SameFront s t) (g : Galley) : SameFront s { t with gal := g } := ⟨h.reads⟩
theorem setCan (h : SameFront s t) (n : Nat) (f : CanUnit → CanUnit) : SameFront s (t.setCan n f) := ⟨h.reads⟩
theorem toMram (h : SameFront s t) (a : Nat) : SameFront s (t.toMram a) := ⟨h.reads⟩
theorem emit (h : SameFront s t) (p : Port) (c : Nat) (l : List Nat) : SameFront s (t.emit p c l) := ⟨h.reads⟩

/-! A register of a higher page may change. -/

theorem setReg (h : SameFront s t) (ha : 0x40002000 ≤ a) (v : Nat) : SameFront s (t.setReg a v) :=
  ⟨fun b hb => by rw [State.getReg_setReg, if_neg (by omega)]; exact h.reads b hb⟩

theorem setB (h : SameFront s t) {f : Fld} (hf : 0x40002000 ≤ f.addr) (b : Bool) : SameFront s (t.setB f b) := h.setReg hf _

theorem occur (h : SameFront s t) (ha : 0x40002000 ≤ a) (f : Nat → Nat) : SameFront s (t.occur a f) :=
  ⟨fun b hb => by rw [State.getReg_occur, if_neg (by omega)]; exact h.reads b hb⟩

theorem countReg (h : SameFront s t) (ha : 0x40002000 ≤ a) : SameFront s (t.countReg a) := h.occur ha _

theorem raise (h : SameFront s t) (e : Ev) : SameFront s (t.raise e) :=
  ⟨fun b hb => by rw [State.getReg_raise _ _ _ (show b ≠ 0x40004050 by omega)]; exact h.reads b hb⟩

theorem raiseIf (h : SameFront s t) (c : Bool) (e : Ev) : SameFront s (t.raiseIf c e) := (h.raise e).ite h

/-! ### A message of the module to its partner (R475) -/

theorem fwdTimed (h : SameFront s t) (ns : Nat) : SameFront s (t.fwdTimed ns) := by
  have ho := h.occur (a := Reg.PLNK_FWD_MAX_NS) (by decide) (fun w => max w (satU 32 ns))
  exact ((ho.countReg (by decide)).raise _).ite ho

theorem plnkLine (h : SameFront s t) : SameFront s t.plnkLine := by
  unfold State.plnkLine
  split
  · exact h
  · refine h.ite ?_
    dsimp only
    split
    · exact .fwdTimed (.emit (.countReg (.eth h _) (by decide)) ..) _
    · exact .emit (.countReg (.eth h _) (by decide)) ..

theorem plnkQueue (h : SameFront s t) (x : PlnkTx) : SameFront s (t.plnkQueue x) := .plnkLine (.eth h _)

theorem plnkOut (h : SameFront s t) (type : Nat) (body : List Nat) : SameFront s (t.plnkOut type body) :=
  h.ite (h.foldl fun _ _ hu => hu.plnkQueue _)

/-! ### A safety announcement (R449, R452, R472) -/

theorem txRequest (h : SameFront s t) (n b : Nat) : SameFront s (t.txRequest n b) := by
  have hp : 0x40002000 ≤ Reg.CAN_TXB_PEND n := by unfold Reg.CAN_TXB_PEND; omega
  have hh : 0x40002000 ≤ Reg.CAN_TXB_HALT n := by unfold Reg.CAN_TXB_HALT; omega
  exact ((h.setB (f := ⟨_, b, b⟩) hp true).setB (f := ⟨_, b, b⟩) hh false).setCan n _

theorem txPut (h : SameFront s t) (n b w0 w1 : Nat) (data : List Nat) : SameFront s (t.txPut n b w0 w1 data) := by
  have hb : 0x40002000 ≤ Reg.CAN_TXB n b := by unfold Reg.CAN_TXB; omega
  exact ((h.setReg hb w0).setReg (by omega) w1).foldl fun _ _ hu => hu.setReg (by omega) _

theorem functionTx (h : SameFront s t) (n buf fn : Nat) (data : List Nat) : SameFront s (t.functionTx n buf fn data) :=
  h.ite (h.ite ((h.txPut ..).ite ((h.txPut ..).txRequest ..)))

theorem annCan (h : SameFront s t) (n : Nat) (body : List Nat) : SameFront s (t.annCan n body) :=
  h.ite (((h.functionTx ..).ite (h.setCan ..)).ite (h.functionTx ..))

theorem ethOut (h : SameFront s t) (port code pcp : Nat) (data : List Nat) : SameFront s (t.ethOut port code pcp data) := by
  have hf : 0x40002000 ≤ Reg.ETH_FRAMES_TX port := by unfold Reg.ETH_FRAMES_TX; omega
  exact (h.countReg hf).emit ..

theorem annEth (h : SameFront s t) (ports : List Nat) (fn : Nat) (payload : List Nat) :
    SameFront s (t.annEth ports fn payload) := by
  unfold State.annEth
  dsimp only
  split
  · exact h
  · exact h.ite (.foldl (.eth h _) fun _ _ hu => hu.ethOut ..)

theorem annSend (h : SameFront s t) (a : Ann) (seq time : Nat) : SameFront s (t.annSend a seq time) :=
  h.ite (((h.annCan ..).annCan ..).annEth ..)

/-! ### A system record (R415, R416, R418) -/

theorem clearRead (h : SameFront s t) (ha : 0x40002000 ≤ a ∨ rcMask a = 0) : SameFront s (t.clearRead a) := by
  unfold State.clearRead
  dsimp only
  split
  · exact ⟨h.reads⟩
  · split
    · exact h
    · next hn => exact .comp (.setReg h (rcReg_high (ha.resolve_right (by simpa using hn))) _) _

theorem snapshot {l : List Nat} (h : SameFront s t) (hl : ∀ a ∈ l, 0x40002000 ≤ a ∨ rcMask a = 0) :
    SameFront s (t.snapshot l).2 := by
  induction l generalizing t with
  | nil => exact h
  | cons a l ih =>
    obtain ⟨ha, hl⟩ := List.forall_mem_cons.mp hl
    exact ih ((h.clearRead ha).ite h) hl

theorem freeze (h : SameFront s t) : SameFront s t.freeze :=
  h.ite (.raise (.evr (.setB (.setB h (by decide) _) (by decide) _) _) _)

theorem takeRecord_systemList (h : SameFront s t) (w : Waiting) (seq arg trig : Nat) (preceded : Bool) :
    SameFront s (t.takeRecord w seq arg trig systemList preceded) := by
  have hs := h.snapshot systemList_clears
  unfold State.takeRecord
  generalize t.snapshot systemList = p at hs ⊢
  dsimp only
  split
  · exact .evr (.evr hs _) _
  · exact .freeze (.evr hs _)
  · exact .evr hs _

/-- An internal event sets off no trigger: its grant takes system records alone. -/
theorem recordGrant_internal (h : SameFront s t) {w : Waiting} (hw : 32 ≤ w.num) (seq arg : Nat) :
    SameFront s (t.recordGrant w seq arg) := by
  have hi : ¬ (w.num < 32) := by omega
  unfold State.recordGrant
  refine h.ite ?_
  extract_lets first system _ all
  have hs : SameFront s system := by
    unfold system
    split
    · exact h.takeRecord_systemList ..
    · exact h
  have ha : SameFront s all := .ite (.takeRecord_systemList (.comp hs _) ..) hs
  simpa [hi] using ha

/-! ### The grant of an internal event (R402, R405) -/

/-- The event of a mode change, at whose grant a mode message leaves, is a page event. -/
theorem announceGranted_internal (h : SameFront s t) {e : Ev} (he : 32 ≤ e.num) (seq time : Nat) :
    SameFront s (t.announceGranted e seq time) := by
  have hm : ¬ (e == Ev.MODE_MODE_CHANGED) = true := fun hc => by
    rw [beq_iff_eq] at hc; subst hc; exact absurd he (by decide)
  unfold State.announceGranted
  dsimp only
  rw [if_neg hm]
  exact .foldl (.comp h _) fun a _ hu => hu.annSend a seq time

theorem grantSeq_internal (h : SameFront s t) {e : Ev} (he : 32 ≤ e.num) (seq : Nat) : SameFront s (t.grantSeq e seq) := by
  unfold State.grantSeq
  rw [seqRegs_internal he]
  exact .gal (.ite (.est h _) h) _

theorem grantCount (h : SameFront s t) (w : Waiting) (seq : Nat) : SameFront s (t.grantCount w seq) := by
  unfold State.grantCount
  extract_lets s1 s2 n _ s3
  have h3 : SameFront s s3 := .comp (.occur (.setReg (.setReg h (by decide) _) (by decide) _) (by decide) _) _
  exact .raiseIf (.ite (.toMram (.setReg h3 (by decide) _) _) h3) ..

theorem grant_internal (s : State) {w : Waiting} (hw : 32 ≤ w.num) : SameFront s (s.grant w) := by
  have hi : ¬ (w.num < 32) := by omega
  unfold State.grant
  extract_lets seq e mine gone _ s1 s2 s3 arg s4 s5
  have h1 : SameFront s s1 := .comp (.refl s) _
  have h2 : SameFront s s2 := h1.ite (h1.occur (by decide) _)
  have h3 : SameFront s s3 := (h2.grantCount w seq).grantSeq_internal hw seq
  have h4 : SameFront s s4 := by unfold s4; rw [if_neg hi]; exact h3
  rw [if_neg hi]
  exact (h4.announceGranted_internal hw ..).recordGrant_internal hw ..

end SameFront

/-! ### What keeps the mode manager's unit and an event that waits -/

/-- The mask of every field but the mode manager's unit, which is field 12. -/
def exceptMode : Nat := 2 ^ 33 - 1 - 2 ^ 12

/-- What is watched: the mode manager's unit as in `s`, and events that wait; any other field may change. -/
def State.modeWatch (s : State) (events : Ev → Prop) : Watch := ⟨False, s, exceptMode, events, fun _ => False, 0⟩

@[simp] theorem State.modeWatch_mask (s : State) (events : Ev → Prop) : (s.modeWatch events).mask = exceptMode := rfl

theorem kept_modeWatch {s : State} {events : Ev → Prop} (h : ∀ e, events e → s.waits e = true) : Kept (s.modeWatch events) s where
  regs := False.elim
  ram := False.elim
  mram := False.elim
  flt := False.elim
  variant := rfl
  ev := False.elim
  has := h
  out := fun _ => False.elim
  ctr := Nat.zero_le _
  only := Only_refl _ _

theorem Kept.mode {s t : State} {events : Ev → Prop} (h : Kept (s.modeWatch events) t) : t.mode = s.mode :=
  h.only.f12.resolve_left (by rw [State.modeWatch_mask]; decide)

/-- A grant leaves the mode manager's unit as it was; what it decides comes after (R405). -/
theorem State.grant_mode (s : State) (w : Waiting) : (s.grant w).mode = s.mode :=
  (kept_grant (kept_modeWatch fun _ => False.elim) (fun _ => id) (by rw [s.modeWatch_mask]; rfl)).mode

/-- A message to the partner leaves the mode manager's unit as it was, and an event that waits waits on. -/
theorem kept_modeWatch_plnkOut {s : State} {events : Ev → Prop} (h : ∀ e, events e → s.waits e = true) (type : Nat)
    (body : List Nat) : Kept (s.modeWatch events) (s.plnkOut type body) :=
  kept_plnkOut (kept_modeWatch h) (by rw [s.modeWatch_mask]; rfl)

theorem State.plnkOut_mode (s : State) (type : Nat) (body : List Nat) : (s.plnkOut type body).mode = s.mode :=
  (kept_modeWatch_plnkOut (fun _ => False.elim) type body).mode

theorem State.waits_plnkOut {s : State} {e : Ev} (type : Nat) (body : List Nat) (h : s.waits e = true) :
    (s.plnkOut type body).waits e = true :=
  (kept_modeWatch_plnkOut (events := (· = e)) (fun _ hk => hk ▸ h) type body).has e rfl

/-! ### A request on its way to its grant (R29, R351) -/

section Request

variable {s : State} {m v tag tgt code chk : Nat}

theorem exec_modeRequest (hp : s.permits m Reg.MODE_REQUEST = true) (hm : m ≠ 5) :
    exec (.modeRequest m v) s = .next (s.requestWrite v) := by
  show Host.Outcome.next (s.permit m Reg.MODE_REQUEST _) = _
  rw [State.permit_ok hp]
  have h5 : ¬ (m == 5) = true := fun hc => hm (beq_iff_eq.mp hc)
  dsimp only
  rw [if_neg (by rw [Bool.and_eq_true, Bool.and_eq_true]; exact fun hc => h5 hc.1.1)]

theorem State.getReg_raiseInt {p n cls a : Nat} (ha : a ≠ Reg.SEQ_COALESCED) : (s.raiseInt p n cls).getReg a = s.getReg a :=
  s.getReg_raiseC _ _ _ _ ha

theorem State.raiseInt_mode {p n cls : Nat} : (s.raiseInt p n cls).mode = s.mode := s.raiseC_mode _ _ _

theorem State.waits_raiseInt {p n cls : Nat} (h : pagePresent s.variant p = true) : (s.raiseInt p n cls).waits ⟨p, n⟩ = true :=
  s.waits_raiseC _ _ _ _ (.inr ⟨h, rfl⟩)

/-- Every variant has a MODE page. -/
theorem pagePresent_mode (v : Variant) : pagePresent v Pg.MODE = true := by cases v <;> rfl

theorem State.getReg_requestWrite : (s.requestWrite v).getReg Reg.MODE_REQUEST % 16 = v % 16 := by
  rw [requestWrite, getReg_raiseInt (by decide), getReg_setReg, if_pos rfl, bitsOf, bitsOf]
  simp only [Nat.shiftRight_eq_div_pow]
  omega

theorem State.requestWrite_cur : (s.requestWrite v).cur = s.cur := by
  rw [cur, cur, getF, getF, requestWrite, getReg_raiseInt (by decide), getReg_setReg, if_neg (by decide)]

/-- A partner's request with an edition not above the module's own waits in the holder's Compositor (R351). -/
theorem exec_modeReq_holder {e : Nat} (hh : s.plnkHears e = true) (hs : s.pstate = Ps.holder) (he : e ≤ s.getReg Reg.PAIR_EDITION) :
    exec (.modeReq e tag tgt) s =
      .next ({ s with mode := { s.mode with partnerTag := tag, partnerTgt := tgt } }.raiseInt Pg.MODE 41 5) := by
  have hn : s.higherEdition e = s := if_neg (by omega)
  show execModeReq e tag tgt s = _
  rw [execModeReq, if_pos hh, hn]
  exact if_pos (by simpa using hs)

/-! ### The cycle of a grant (R29, R405) -/

/-- The CLK_FAB cycle ends: the next one begins, with nothing of its own yet. -/
def State.cycleEnd (s : State) : State := { s with comp := { s.comp with cycle := s.comp.cycle + 1, occ := [] } }

/-- A cycle with nothing to grant evaluates the request granted before it. -/
theorem exec_eventGrant_none (hl : s.live = true) (hg : grantPick s.comp = none) :
    exec .eventGrant s = .next s.evalDue.cycleEnd := by
  show execEventGrant s = _
  rw [execEventGrant, hg, if_neg (by simp [hl])]
  rfl

/-- A cycle with an event to grant and no request to evaluate grants it and takes its decision. -/
theorem exec_eventGrant_some {w : Waiting} (hl : s.live = true) (hg : grantPick s.comp = some w) (hd : s.mode.due = 0) :
    exec .eventGrant s = .next ((s.grant w).atGrant ⟨w.page, w.num⟩ s.nextSeq).cycleEnd := by
  have he : (s.grant w).evalDue = s.grant w := State.evalDue_idle (by rw [s.grant_mode, hd])
  show execEventGrant s = _
  rw [execEventGrant, hg, if_neg (by simp [hl])]
  dsimp only
  rw [he]
  rfl

/-- The grant of the module's own request makes it due. -/
theorem State.atGrant_own {seq : Nat} : s.atGrant ⟨Pg.MODE, 32⟩ seq =
    s.requestGranted 1 (bitsOf (s.getReg Reg.MODE_REQUEST) 15 8) (bitsOf (s.getReg Reg.MODE_REQUEST) 3 0) seq := rfl

/-- The grant of the partner's request makes it due. -/
theorem State.atGrant_partner {seq : Nat} : s.atGrant ⟨Pg.MODE, 41⟩ seq =
    s.requestGranted 2 s.mode.partnerTag s.mode.partnerTgt seq := rfl

/-! ### A rejected request (R19, R29, R30) -/

/-- What rejection with a code leaves and reports: the mode stays, no request is due any more, REQ_REJECTED waits, REQ_RESULT
shows the code. -/
structure RejectedWith (code : Nat) (s t : State) : Prop where
  cur : t.cur = s.cur
  mode : t.mode = { s.mode with due := 0 }
  waits : t.waits Ev.MODE_REQ_REJECTED = true
  result : t.getF Fld.MODE_REQ_RESULT_CODE = code

/-- ASSAY is no target of a VB-2064-A or VB-2064-C: the check of the variant comes before every other (R29). -/
theorem State.evalCode_assay (hv : s.variant ≠ .F) : s.evalCode Md.assay = (Rq.variant, 0) := by
  unfold evalCode
  rw [if_neg (by decide), if_pos (by simpa using hv)]

theorem State.evaluate_assay (hv : s.variant ≠ .F) : s.evaluate tag Md.assay = s.report tag Md.assay Rq.variant 0 := by
  unfold evaluate
  rw [evalCode_assay hv]
  dsimp only
  rw [if_neg (by decide), if_neg (by decide)]

/-- A request that is not forwarded is evaluated here (R351). -/
theorem State.request_here (h : s.pair = false ∨ s.phase ≠ .up ∨ s.pstate = Ps.holder ∨
    s.flag Fld.PAIR_STATE_PARTNER_PRESENT = false ∨ s.pairU.partnerState ≠ Ps.holder) : s.request tag tgt = s.evaluate tag tgt := by
  refine if_neg fun hc => ?_
  simp only [Bool.and_eq_true, beq_iff_eq, bne_iff_ne] at hc
  obtain ⟨⟨⟨⟨⟨hpair, hup⟩, hps⟩, -⟩, hpres⟩, hpart⟩ := hc
  rcases h with h | h | h | h | h
  · simp [h] at hpair
  · exact h hup
  · exact hps h
  · simp [h] at hpres
  · exact h hpart

/-- A report with a code of 0x10 or above counts and raises REQ_REJECTED. -/
theorem State.report_rejected (hc : 0x10 ≤ code) : s.report tag tgt code chk =
    (((s.setReg Reg.MODE_REQ_RESULT (tag % 256 * 65536 + chk % 16 * 4096 + tgt % 16 * 256 + code % 256)).raise
      Ev.MODE_REQ_DONE).wrapReg Reg.MODE_REJECT_COUNT).raise Ev.MODE_REQ_REJECTED := if_pos hc

/-- A report of a rejection writes REQ_RESULT and REJECT_COUNT on the MODE page, besides the count of coalesced events. -/
theorem State.getReg_report_rejected {a : Nat} (hc : 0x10 ≤ code) (hj : a ≠ Reg.MODE_REJECT_COUNT) (hs : a ≠ Reg.SEQ_COALESCED) :
    (s.report tag tgt code chk).getReg a = if a = Reg.MODE_REQ_RESULT then
      (tag % 256 * 65536 + chk % 16 * 4096 + tgt % 16 * 256 + code % 256) % 2 ^ 32 else s.getReg a := by
  rw [report_rejected hc, getReg_raise _ _ _ hs, wrapReg, getReg_setReg, if_neg hj, getReg_raise _ _ _ hs, getReg_setReg]

theorem rejectedWith_report (hc : 0x10 ≤ code) (hb : code < 256) :
    RejectedWith code s ({ s with mode := { s.mode with due := 0 } }.report tag tgt code chk) where
  cur := by
    rw [State.cur, State.getF, State.getReg_report_rejected hc (by decide) (by decide), if_neg (by decide)]; rfl
  mode := by
    rw [State.report_rejected hc, State.raise_mode, State.wrapReg_mode, State.raise_mode, State.setReg_mode]
  waits := by
    rw [State.report_rejected hc]
    exact State.waits_raise _ _ _ (.inr ⟨pagePresent_mode _, rfl⟩)
  result := by
    rw [State.getF, State.getReg_report_rejected hc (by decide) (by decide), if_pos rfl, bitsOf]
    simp only [Nat.shiftRight_eq_div_pow]
    omega

/-- A message to the partner changes nothing of a rejection. -/
theorem RejectedWith.plnkOut {t : State} (h : RejectedWith code s t) (type : Nat) (body : List Nat) :
    RejectedWith code s (t.plnkOut type body) where
  cur := ((SameFront.refl t).plnkOut type body).cur.trans h.cur
  mode := (t.plnkOut_mode type body).trans h.mode
  waits := State.waits_plnkOut type body h.waits
  result := (((SameFront.refl t).plnkOut type body).getF (by decide)).trans h.result

/-- The partner's request has been granted: the cycle evaluates it, and its outcome goes back (R351). -/
theorem State.evalDue_partner (h0 : s.mode.due ≠ 0) (h1 : s.mode.due ≠ 1) : ∃ body,
    s.evalDue = ({ s with mode := { s.mode with due := 0 } }.evaluate s.mode.dueTag s.mode.dueTgt).plnkOut 0x06 body :=
  ⟨_, by unfold evalDue; dsimp only; rw [if_neg (by simpa using h0), if_neg (by simpa using h1)]⟩

/-- The request for ASSAY that is due is rejected, the module's own where it is not forwarded, and the partner's. -/
theorem State.evalDue_rejectsAssay (hv : s.variant ≠ .F) (h0 : s.mode.due ≠ 0) (ht : s.mode.dueTgt = Md.assay)
    (hf : s.mode.due ≠ 1 ∨ s.pair = false ∨ s.phase ≠ .up ∨ s.pstate = Ps.holder ∨
      s.flag Fld.PAIR_STATE_PARTNER_PRESENT = false ∨ s.pairU.partnerState ≠ Ps.holder) :
    RejectedWith Rq.variant s s.evalDue := by
  have hr : RejectedWith Rq.variant s ({ s with mode := { s.mode with due := 0 } }.evaluate s.mode.dueTag Md.assay) := by
    rw [evaluate_assay (s := { s with mode := { s.mode with due := 0 } }) hv]
    exact rejectedWith_report (by decide) (by decide)
  by_cases h1 : s.mode.due = 1
  · rw [evalDue_own h1, ht, request_here (s := { s with mode := { s.mode with due := 0 } }) (hf.resolve_left (absurd h1))]
    exact hr
  · obtain ⟨body, he⟩ := evalDue_partner h0 h1
    rw [he, ht]
    exact hr.plnkOut 0x06 body

end Request

/-- Settles O8: the write, the partner's message, the grant and the evaluation of the request, a lemma or two for each. -/
theorem otherVariantsRejectAssay : Obligations.OtherVariantsRejectAssay := by
  refine ⟨fun s m v hp hm _ hv => ?_, fun s e tag hh hs he _ => ?_, fun s w hl hg hd => ?_, fun s hl hv h0 ht hf => ?_⟩
  · exact ⟨_, exec_modeRequest hp hm, State.raiseInt_mode, State.requestWrite_cur, State.getReg_requestWrite.trans hv,
      State.waits_raiseInt (pagePresent_mode _)⟩
  · refine ⟨_, exec_modeReq_holder hh hs he, State.raiseInt_mode, ?_, State.waits_raiseInt (pagePresent_mode _)⟩
    exact congrArg (bitsOf · _ _) (State.getReg_raiseInt (by decide))
  · refine ⟨_, exec_eventGrant_some hl hg hd, fun hw => ?_, fun hw => ?_⟩
    · have hn : w.num = 32 := congrArg Ev.num hw
      rw [hw, State.atGrant_own, (SameFront.grant_internal s (by omega)).reads _ (by decide)]
      exact ⟨rfl, rfl⟩
    · rw [hw, State.atGrant_partner, s.grant_mode]
      exact ⟨rfl, rfl⟩
  · have hr := State.evalDue_rejectsAssay hv h0 ht hf
    exact ⟨hr.cur, by rw [hr.mode], by rw [hr.mode], hr.waits, hr.result, fun hg => ⟨_, exec_eventGrant_none hl hg, rfl⟩⟩

end Sys2Proof.Machine

/-! PROOF. Wake sources and clock supervision (R40, R41, R65 to R68): what a reset keeps of MRAM and reports, what a fault leaves
in MRAM; and from these the clauses of WAKE, WAKE_TIMER_EXPIRY, WAKE_OSC_CHECK, PLL_UNLOCK, ROOT_DRIFT, WDG_KICK, WDG_EXPIRY. -/

namespace Sys2Proof.Machine

/-! ### Fields and events that are watched -/

/-- What is watched: the fields off the mask as in `s`, and events that wait. -/
def State.fieldWatch (s : State) (mask : Nat) (events : Ev → Prop) : Watch := ⟨False, s, mask, events, fun _ => False, 0⟩

@[simp] theorem State.fieldWatch_mask (s : State) (mask : Nat) (events : Ev → Prop) : (s.fieldWatch mask events).mask = mask :=
  rfl

theorem kept_fieldWatch {s : State} {mask : Nat} {events : Ev → Prop} (h : ∀ e, events e → s.waits e = true) :
    Kept (s.fieldWatch mask events) s where
  regs := False.elim
  ram := False.elim
  mram := False.elim
  flt := False.elim
  variant := rfl
  ev := False.elim
  has := h
  out := fun _ => False.elim
  ctr := Nat.zero_le _
  only := Only_refl _ _

/-- The mask of every field but the Plant Record, which is field 5. -/
def exceptRecord : Nat := 2 ^ 33 - 1 - 2 ^ 5

namespace State

variable {s : State} {a b cause source : Nat}

/-! ### Entering reset (R68) -/

theorem foldl_setF_mram (val : Fld → Nat) (fs : List Fld) :
    (fs.foldl (fun r f => r.setF f (val f)) s).mram = s.mram := by
  induction fs generalizing s with
  | nil => rfl
  | cons f fs ih => exact ih.trans (setF_mram ..)

theorem getF_congr {t : State} (h : t.regs = s.regs) (f : Fld) : t.getF f = s.getF f := by
  rw [getF, getF, getReg, getReg, h]

/-- Reset ends with the cause and the wake source put into RESET_CAUSE. -/
theorem enterReset_regs (s : State) (cause source : Nat) : ∃ r : State, (s.enterReset cause source).regs =
    ((r.setF Fld.SYS_RESET_CAUSE_CAUSE cause).setF Fld.SYS_RESET_CAUSE_WAKE_SRC source).regs := by
  unfold enterReset
  extract_lets _ _ _ _ _ _ _ _ _ _ _ counted
  exact ⟨counted, rfl⟩

/-- MRAM holds after a reset what it held, with HOURS brought up to date. -/
theorem enterReset_mram_regs :
    (s.enterReset cause source).mram.regs = s.mram.regs.set Reg.SYS_HOURS (BitVec.ofNat 32 s.hours) := by
  unfold enterReset
  generalize BitVec.ofNat 32 s.hours = hours
  extract_lets _ _ _ _ _ _ _ _ _ kept filled counted named sourced
  have hf : filled.mram = kept.mram := foldl_setF_mram ..
  have hc : counted.mram = filled.mram := by
    unfold counted
    split
    · rfl
    · rw [setF_mram]
  have hs : sourced.mram = counted.mram := (setF_mram ..).trans (setF_mram ..)
  show sourced.mram.regs = kept.mram.regs
  rw [hs, hc, hf]

theorem enterReset_phase : (s.enterReset cause source).phase = .held := rfl

theorem enterReset_record : (s.enterReset cause source).record = s.record :=
  have h : Kept (s.fieldWatch exceptRecord fun _ => False) (s.enterReset cause source) :=
    kept_enterReset (kept_fieldWatch fun _ => False.elim) (fun _ => id) (by rw [fieldWatch_mask]; rfl)
  h.only.f5.resolve_left (show ¬ exceptRecord.testBit 5 = true by decide)

theorem getF_enterReset_cause : (s.enterReset cause source).getF Fld.SYS_RESET_CAUSE_CAUSE = cause % 16 := by
  obtain ⟨r, hr⟩ := s.enterReset_regs cause source
  rw [getF_congr hr, getF_setF_disjoint _ _ _ _ (by decide) (by decide) (by decide) (by decide)]
  exact getF_setF _ _ _ (by decide) (by decide)

theorem getF_enterReset_wakeSrc : (s.enterReset cause source).getF Fld.SYS_RESET_CAUSE_WAKE_SRC = source % 256 := by
  obtain ⟨r, hr⟩ := s.enterReset_regs cause source
  exact (getF_congr hr _).trans (getF_setF _ _ _ (by decide) (by decide))

/-- A register held in MRAM survives a reset; HOURS takes the hours run. -/
theorem mram_enterReset (h : a ≠ Reg.SYS_HOURS) : (s.enterReset cause source).mram.regs.get a = s.mram.regs.get a := by
  rw [enterReset_mram_regs, Store.get_set, if_neg h]

/-! ### A clock or watchdog fault (R66, R67) -/

/-- A field of what MRAM holds in LAST_FAULT. -/
def lastFault (s : State) (f : Fld) : Nat := bitsOf (s.mram.regs.get Reg.CLK_LAST_FAULT).toNat f.hi f.lo

/-- The register as it stands goes to MRAM. -/
theorem lastFault_toMram {f : Fld} (h : f.addr = Reg.CLK_LAST_FAULT) : (s.toMram Reg.CLK_LAST_FAULT).lastFault f = s.getF f := by
  rw [getF, h]
  exact congrArg (fun w : BitVec 32 => bitsOf w.toNat f.hi f.lo) ((Store.get_set ..).trans (if_pos rfl))

/-- A fault puts its clock and code into LAST_FAULT, in MRAM too, and resets the module. -/
theorem faultReset_eq (s : State) (cause clock code : Nat) : ∃ r : State,
    r = (((s.setF Fld.CLK_LAST_FAULT_CLOCK clock).setF Fld.CLK_LAST_FAULT_CODE code).toMram
      Reg.CLK_LAST_FAULT).enterReset cause 0 ∧
    s.faultReset cause clock code = { r with aux := { r.aux with faultSeen := true } } :=
  ⟨_, rfl, rfl⟩

/-- A fault resets the module with its cause and leaves its clock and code in MRAM. -/
theorem faultReset_effect (s : State) (cause clock code : Nat) :
    (s.faultReset cause clock code).phase = .held ∧
    (s.faultReset cause clock code).getF Fld.SYS_RESET_CAUSE_CAUSE = cause % 16 ∧
    (s.faultReset cause clock code).record = s.record ∧
    (s.faultReset cause clock code).lastFault Fld.CLK_LAST_FAULT_CODE = code % 16 ∧
    (s.faultReset cause clock code).lastFault Fld.CLK_LAST_FAULT_CLOCK = clock % 16 ∧
    (s.faultReset cause clock code).aux.faultSeen = true := by
  obtain ⟨r, hr, hf⟩ := s.faultReset_eq cause clock code
  have hphase : r.phase = .held := by rw [hr, enterReset_phase]
  have hcause : r.getF Fld.SYS_RESET_CAUSE_CAUSE = cause % 16 := by rw [hr, getF_enterReset_cause]
  have hrecord : r.record = s.record := by rw [hr, enterReset_record, toMram_record, setF_record, setF_record]
  have hfault {f : Fld} (ha : f.addr = Reg.CLK_LAST_FAULT) :
      r.lastFault f = ((s.setF Fld.CLK_LAST_FAULT_CLOCK clock).setF Fld.CLK_LAST_FAULT_CODE code).getF f := by
    rw [← lastFault_toMram ha, hr, lastFault, mram_enterReset (by decide), lastFault]
  have hcode : r.lastFault Fld.CLK_LAST_FAULT_CODE = code % 16 := by
    rw [hfault rfl]
    exact getF_setF _ _ _ (by decide) (by decide)
  have hclock : r.lastFault Fld.CLK_LAST_FAULT_CLOCK = clock % 16 := by
    rw [hfault rfl, getF_setF_disjoint _ _ _ _ (by decide) (by decide) (by decide) (by decide)]
    exact getF_setF _ _ _ (by decide) (by decide)
  rw [hf]
  exact ⟨hphase, hcause, hrecord, hcode, hclock, rfl⟩

/-! ### Waking (R40) -/

/-- A wake is a reset with cause 7, SLOW_COUNT set and the check of the wake oscillator due, and its events raised. -/
theorem wakeUp_eq (s : State) (b : Nat) : ∃ u : State, ∃ slow : Nat,
    u = (s.enterReset 7 (2 ^ b)).setReg Reg.CLK_SLOW_COUNT slow ∧
    s.wakeUp b = (({ u with aux := { u.aux with oscCheck := true } }).raise Ev.MODE_WAKE).raiseIf (b == 7) Ev.BAL_FLOOP_LOSS :=
  ⟨_, _, rfl, rfl⟩

/-- The start that a wake leads to reports its cause and the bit of its source, and MODE_WAKE waits. -/
theorem wakeUp_effect (h : b < 8) : (s.wakeUp b).phase = .held ∧ (s.wakeUp b).getF Fld.SYS_RESET_CAUSE_CAUSE = 7 ∧
    (s.wakeUp b).getF Fld.SYS_RESET_CAUSE_WAKE_SRC = 2 ^ b ∧ (s.wakeUp b).waits Ev.MODE_WAKE = true ∧
    (s.wakeUp b).record = s.record := by
  obtain ⟨u, slow, hu, hw⟩ := s.wakeUp_eq b
  have hphase : u.phase = .held := by rw [hu, setReg_phase, enterReset_phase]
  have hrecord : u.record = s.record := by rw [hu, setReg_record, enterReset_record]
  have hreset {f : Fld} (hf : f.addr ≠ Reg.CLK_SLOW_COUNT) : u.getF f = (s.enterReset 7 (2 ^ b)).getF f := by
    rw [hu, getF, getReg_setReg, if_neg hf, getF]
  have hget {f : Fld} (hf : f.addr ≠ Reg.SEQ_COALESCED) : (s.wakeUp b).getF f = u.getF f := by
    rw [hw, getF, getReg_raiseIf _ _ _ _ hf, getReg_raise _ _ _ hf]
    rfl
  refine ⟨?_, ?_, ?_, ?_, ?_⟩
  · rw [hw, raiseIf_phase, raise_phase]; exact hphase
  · rw [hget (by decide), hreset (by decide)]; exact getF_enterReset_cause
  · rw [hget (by decide), hreset (by decide), getF_enterReset_wakeSrc]
    exact Nat.mod_eq_of_lt (Nat.pow_lt_pow_right (by decide) h)
  · rw [hw]; exact waits_raiseIf _ _ _ _ (waits_raise _ _ _ (.inr ⟨pagePresent_mode _, rfl⟩))
  · rw [hw, raiseIf_record, raise_record]; exact hrecord

theorem wakeBy_enabled (hd : s.phase = .dormant) (hb : b < 8) (he : b = 7 ∨ bitOf (s.getReg Reg.MODE_WAKE_EN) b = true) :
    s.wakeBy b = s.wakeUp b :=
  if_pos (by simpa [hd, hb] using he)

end State

/-- Every variant has a CLK page. -/
theorem pagePresent_clk (v : Variant) : pagePresent v Pg.CLK = true := by cases v <;> rfl

/-! ### The clauses -/

section Clauses

variable {s : State}

theorem says_wake : Says.wake := fun _ _ hd hb he =>
  ⟨_, congrArg Host.Outcome.next (State.wakeBy_enabled hd hb he), State.wakeUp_effect hb⟩

theorem says_wakeTimerExpiry : Says.wakeTimerExpiry := by
  intro s hd ht he
  have hx : exec .wakeTimerExpiry s = .next (s.wakeUp 3) := by
    show Host.Outcome.next _ = _
    rw [if_neg (by simpa using ht), State.wakeBy_enabled hd (by decide) (.inr he)]
  obtain ⟨hph, hc, hw, hm, -⟩ := State.wakeUp_effect (s := s) (b := 3) (by decide)
  exact ⟨_, hx, hph, hc, hw, hm⟩

theorem says_wakeOscCheck : Says.wakeOscCheck := by
  intro s n hl ho
  refine ⟨_, if_pos (by simp [hl, ho]), State.raiseIf_aux .., fun hf => ?_, fun hf => ?_, fun r hr => ?_⟩
  · rw [State.raiseIf, if_pos (by simpa using hf)]
    exact Added_raise (s := { s with aux := { s.aux with oscCheck := false } }) (pagePresent_clk _)
  · rw [State.raiseIf, if_neg (by simpa using hf)]
    exact fun e => by simp [State.waits]
  · exact State.getReg_raiseIf _ _ _ _ (by simpa using hr)

theorem exec_pllUnlock (hl : s.live = true) : exec .pllUnlock s = .next (s.faultReset 4 0 1) :=
  congrArg Host.Outcome.next (if_pos (by simp [hl]))

theorem says_pllUnlock : Says.pllUnlock := by
  intro s hl
  obtain ⟨hphase, hcause, -, hcode, hclock, hseen⟩ := s.faultReset_effect 4 0 1
  exact ⟨_, exec_pllUnlock hl, hphase, hcause, hcode, hclock, hseen⟩

theorem says_rootDrift : Says.rootDrift := by
  intro s hl hv hd
  refine ⟨s.raise Ev.CLK_ROOT_DRIFT, congrArg Host.Outcome.next (if_pos (by simp [hl, hv, hd])),
    Added_raise (pagePresent_clk _), fun r hr => ?_⟩
  exact State.getReg_raise _ _ _ (by simpa using hr)

/-- A core's kick: the value awaited restarts the window, any other resets the module. -/
theorem exec_wdgKick {m v : Nat} (hl : s.live = true) (hm : m < 2) : exec (.wdgKick m v) s =
    .next (if v % 65536 = s.kickNext then s.kicked (v % 65536) else s.faultReset 3 0 5) := by
  show execWdgKick m v s = _
  rw [execWdgKick, if_neg (by simp [hl]), if_neg (by omega)]
  split
  · next h => rw [if_pos (by simpa using h)]
  · next h => rw [if_neg (by simpa using h)]

theorem State.kickNext_eq : s.kickNext = if s.cyc.kick = 0x55AA then 0xAA55 else 0x55AA := by
  simp [kickNext]

theorem says_wdgKick : Says.wdgKick := by
  intro s m v hl hm hv
  rw [← State.kickNext_eq] at hv
  exact ⟨_, (exec_wdgKick hl hm).trans (congrArg Host.Outcome.next (if_pos hv)), rfl, rfl, rfl⟩

theorem says_wdgKick_wrong : Says.wdgKick_wrong := by
  intro s m v hl hm hv
  rw [← State.kickNext_eq] at hv
  obtain ⟨hphase, hcause, -, hcode, -⟩ := s.faultReset_effect 3 0 5
  exact ⟨_, (exec_wdgKick hl hm).trans (congrArg _ (if_neg hv)), hphase, hcause, hcode⟩

theorem exec_wdgExpiry (hl : s.live = true) : exec .wdgExpiry s = .next (s.faultReset 3 0 4) :=
  congrArg Host.Outcome.next (if_pos (by simp [hl]))

theorem says_wdgExpiry : Says.wdgExpiry := by
  intro s hl
  obtain ⟨hphase, hcause, hrecord, hcode, -⟩ := s.faultReset_effect 3 0 4
  exact ⟨_, exec_wdgExpiry hl, hphase, hcause, hrecord, hcode⟩

end Clauses

/-- Settles O41: one lemma for each clause. -/
theorem wakeClocksAndWatchdog : Obligations.WakeClocksAndWatchdog :=
  ⟨says_wake, says_wakeTimerExpiry, says_wakeOscCheck, says_pllUnlock, says_rootDrift, says_wdgKick, says_wdgKick_wrong,
    says_wdgExpiry⟩

end Sys2Proof.Machine

/-! PROOF. Mode requests, the deadlines of a transition and STOP_LATCH (R29, R33, R34, R39): which operations leave CURRENT and
TARGET of MODE.STATE as they were, where a transition that is cut short goes, what a Full Stop raises at its start; and from these
the clauses of MODE_REQUEST, TRANS_TIMEOUT, STOP_LIMIT_EXPIRY and LATCH_CLR. -/

namespace Sys2Proof.Machine

/-! ### An event that waits, waits on -/

/-- The mask of every field. -/
def everyField : Nat := 2 ^ 33 - 1

theorem and_everyField {m : Nat} (h : m < 2 ^ 33) : m &&& everyField = m := Nat.and_two_pow_sub_one_of_lt_two_pow h

/-- What is watched: one event that waits; every field may change. -/
abbrev State.waitWatch (s : State) (e : Ev) : Watch := s.fieldWatch everyField (· = e)

theorem kept_waitWatch {s : State} {e : Ev} (h : s.waits e = true) : Kept (s.waitWatch e) s :=
  kept_fieldWatch fun _ hk => hk ▸ h

theorem Kept.waits {s t : State} {e : Ev} (h : Kept (s.waitWatch e) t) : t.waits e = true := h.has e rfl

/-- Events are added to those that wait in a state with the same waiting events. -/
theorem Added.of_waits {es : List Ev} {s u t : State} (h : Added es u t) (hw : ∀ e, u.waits e = s.waits e) : Added es s t :=
  fun e => by rw [h e, hw e]

namespace State

variable {s : State} {e : Ev} {k v c t p code result a : Nat} {load : Bool}

theorem waits_setCause_mono (h : s.waits e = true) : (s.setCause code).waits e = true :=
  (kept_setCause (kept_waitWatch h) (and_everyField (by decide))).waits

theorem waits_progress (h : s.waits e = true) : s.progress.waits e = true :=
  (kept_progress (kept_waitWatch h) (and_everyField (by decide))).waits

theorem waits_cutTransition_mono (h : s.waits e = true) : (s.cutTransition result load).waits e = true :=
  (kept_cutTransition (kept_waitWatch h) (and_everyField (by decide))).waits

theorem waits_openContactors (h : s.waits e = true) : s.openContactors.waits e = true :=
  (kept_openContactors (kept_waitWatch h) (and_everyField (by decide))).waits

theorem waits_loadOpen (h : s.waits e = true) : s.loadOpen.waits e = true :=
  (kept_loadOpen (kept_waitWatch h) (and_everyField (by decide))).waits

theorem waits_setMode (h : s.waits e = true) : (s.setMode c t p).waits e = true :=
  (kept_setMode (kept_waitWatch h) (and_everyField (by decide))).waits

theorem waits_fsStart_mono (h : s.waits e = true) : (s.fsStart code).waits e = true :=
  (kept_fsStart (kept_waitWatch h) (and_everyField (by decide))).waits

/-! ### What leaves the mode manager's unit as it was -/

theorem setMode_mode : (s.setMode c t p).mode = s.mode :=
  (kept_setMode (kept_modeWatch fun _ => False.elim) (by rw [s.modeWatch_mask]; rfl)).mode

theorem openContactors_mode : s.openContactors.mode = s.mode :=
  (kept_openContactors (kept_modeWatch fun _ => False.elim) (by rw [s.modeWatch_mask]; rfl)).mode

theorem loadOpen_mode : s.loadOpen.mode = s.mode :=
  (kept_loadOpen (kept_modeWatch fun _ => False.elim) (by rw [s.modeWatch_mask]; rfl)).mode

end State

/-! ### More operations that leave the SYS and MODE pages as they were -/

namespace SameFront

variable {s t u : State} {a : Nat}

theorem mram (h : SameFront s t) (m : Mram) : SameFront s { t with mram := m } := ⟨h.reads⟩
theorem cyc (h : SameFront s t) (c : Cyclic) : SameFront s { t with cyc := c } := ⟨h.reads⟩
theorem meas (h : SameFront s t) (m : Meas) : SameFront s { t with meas := m } := ⟨h.reads⟩
theorem safe (h : SameFront s t) (x : Safety) : SameFront s { t with safe := x } := ⟨h.reads⟩
theorem loops (h : SameFront s t) (l : List Slot) : SameFront s { t with loops := l } := ⟨h.reads⟩
theorem prof (h : SameFront s t) (p : Prof) : SameFront s { t with prof := p } := ⟨h.reads⟩
theorem drv (h : SameFront s t) (d : Drive) : SameFront s { t with drv := d } := ⟨h.reads⟩

theorem setF (h : SameFront s t) {f : Fld} (hf : 0x40002000 ≤ f.addr) (v : Nat) : SameFront s (t.setF f v) := h.setReg hf _

theorem arrive (h : SameFront s t) (k : Nat) : SameFront s (t.arrive k) :=
  ⟨fun b hb => by rw [State.getReg_arrive]; exact h.reads b hb⟩

theorem raiseC (h : SameFront s t) (e : Ev) (c a : Nat) : SameFront s (t.raiseC e c a) :=
  ⟨fun b hb => by rw [State.getReg_raiseC _ _ _ _ _ (show b ≠ 0x40004050 by omega)]; exact h.reads b hb⟩

theorem profZero (h : SameFront s t) : SameFront s t.profZero :=
  .setReg (.setReg (.setReg (.prof h _) (by decide) _) (by decide) _) (by decide) _

/-- The CAUSE registers lie on the SAFE page. -/
theorem setB_causeBit (h : SameFront s t) (code : Nat) (b : Bool) : SameFront s (t.setB (causeBit code) b) := by
  refine h.setB ?_ b
  unfold causeBit
  split
  · exact (by decide : 0x40002000 ≤ Reg.SAFE_CAUSE_LO)
  · exact (by decide : 0x40002000 ≤ Reg.SAFE_CAUSE_HI)

theorem anchorEnd (h : SameFront s t) (result : Nat) : SameFront s (t.anchorEnd result) := by
  unfold State.anchorEnd
  extract_lets s1 s2 _ s3
  have h1 : SameFront s s1 := .ite (.setB (.setReg h (by decide) _) (by decide) _) h
  have h2 : SameFront s s2 := .setReg (.setF h1 (by decide) _) (by decide) _
  have h3 : SameFront s s3 := h2.prof _
  exact h3.ite (h3.raise _)

/-! The Galley (R419). -/

theorem galShow (h : SameFront s t) : SameFront s t.galShow :=
  .foldl (.setReg h (by decide) _) fun i _ hu => hu.setReg (by unfold Reg.GAL_OPEN; omega) _

theorem galUpdate (h : SameFront s t) (kind : Nat) (f : GSlot → GSlot) : SameFront s (t.galUpdate kind f) := by
  unfold State.galUpdate
  split
  · exact h
  · exact h.gal _

theorem galClose (h : SameFront s t) (kind : Nat) (done : Bool) : SameFront s (t.galClose kind done) := by
  unfold State.galClose
  split
  · exact h
  · exact .galShow (.raiseC (.galUpdate h ..) ..)

theorem galOpen (h : SameFront s t) (kind phase : Nat) (args : List Nat) : SameFront s (t.galOpen kind phase args) := by
  unfold State.galOpen
  extract_lets no s1 s2
  have h1 : SameFront s s1 := .toMram (.setReg h (by decide) _) _
  have h2 : SameFront s s2 := h1.gal _
  exact (h2.raise _).galShow

theorem openLine (h : SameFront s t) : SameFront s t.openLine := by
  unfold State.openLine
  split
  · exact h.galUpdate ..
  · exact h.galOpen ..

/-! The contactor command (R294, R295). -/

theorem driveMsg (h : SameFront s t) (type : Nat) (body : List Nat) : SameFront s (t.driveMsg type body) :=
  .drv (.countReg (.emit h ..) (by decide)) _

theorem sendRenew (h : SameFront s t) : SameFront s t.sendRenew := .ite (.driveMsg h ..) h

theorem setCmd (h : SameFront s t) (c : Nat) : SameFront s (t.setCmd c) :=
  .sendRenew (.emit (.drv (.setF h (by decide) _) _) ..)

theorem loadOpen (h : SameFront s t) : SameFront s t.loadOpen :=
  .raiseC (.toMram (.setReg h (by decide) _) _) ..

end SameFront

/-! ### Operations that leave CURRENT and TARGET as they were (R24) -/

/-- CURRENT and TARGET of MODE.STATE read in `t` as in `s`. -/
structure SameCourse (s t : State) : Prop where
  cur : t.cur = s.cur
  target : t.getF Fld.MODE_STATE_TARGET = s.getF Fld.MODE_STATE_TARGET

namespace SameCourse

variable {s t u : State}

theorem refl (s : State) : SameCourse s s := ⟨rfl, rfl⟩

theorem front (h : SameCourse s t) (f : SameFront t u) : SameCourse s u :=
  ⟨f.cur.trans h.cur, (f.getF (by decide)).trans h.target⟩

theorem ite {c : Prop} [Decidable c] (ht : SameCourse s t) (hu : SameCourse s u) : SameCourse s (if c then t else u) := by
  split
  · exact ht
  · exact hu

theorem setReg {a : Nat} (h : SameCourse s t) (ha : a ≠ Reg.MODE_STATE) (v : Nat) : SameCourse s (t.setReg a v) where
  cur := by rw [State.cur, State.getF, State.getReg_setReg, if_neg ha.symm]; exact h.cur
  target := by rw [State.getF, State.getReg_setReg, if_neg ha.symm]; exact h.target

/-- The flags of MODE.STATE lie between CURRENT and TARGET. -/
theorem setB_flag (h : SameCourse s t) {f : Fld} (hl : f.lo ≤ f.hi) (hc : 3 < f.lo) (ht : f.hi < 16) (b : Bool) :
    SameCourse s (t.setB f b) where
  cur := (State.getF_setF_disjoint t f Fld.MODE_STATE_CURRENT _ (by decide) (by decide) hl (.inl hc)).trans h.cur
  target := (State.getF_setF_disjoint t f Fld.MODE_STATE_TARGET _ (by decide) (by decide) hl (.inr ht)).trans h.target

theorem faultShow (h : SameCourse s t) : SameCourse s t.faultShow := h.setB_flag (by decide) (by decide) (by decide) _

theorem dropCause (h : SameCourse s t) (code : Nat) : SameCourse s (t.dropCause code) :=
  ite (faultShow (h.front (.raise (.setB_causeBit (.refl t) code false) _))) h

theorem powerChanged (h : SameCourse s t) (old new : Nat) : SameCourse s (t.powerChanged old new) := by
  unfold State.powerChanged
  extract_lets _ s1 s2 s3 _ _ s4 _ _ s5 s6 s7 _ s8 s9
  have h1 : SameFront t s1 := .mram (.refl t) _
  have h2 : SameFront t s2 := .ite (h1.arrive _) h1
  have h3 : SameFront t s3 := h2.raiseC ..
  have h4 : SameFront t s4 := .ite h3 (h3.cyc _)
  have h5 : SameFront t s5 := .ite (.meas (h4.setReg (by decide) _) _) h4
  have h6 : SameFront t s6 := .setB (.setReg (h5.setReg (by decide) _) (by decide) _) (by decide) _
  have h7 : SameFront t s7 := .setB (h6.setB (by decide) _) (by decide) _
  have h9 : SameFront t s9 := .loops (h7.safe _) _
  exact .ite (.front (.dropCause (h.front h9) _) (.profZero (.refl _))) (h.front h5)

theorem setFunc (h : SameCourse s t) (k v : Nat) : SameCourse s (t.setFunc k v) := by
  have hf : (funcFld k).addr ≠ Reg.MODE_STATE := by
    unfold funcFld
    split <;> decide
  unfold State.setFunc
  extract_lets old s1 s2
  have h1 : SameCourse s s1 := h.setReg hf _
  have h2 : SameCourse s s2 := .ite (h1.powerChanged ..) h1
  have hb : SameCourse s (s2.setB Fld.MODE_STATE_BUSY_STOPPING false) := h2.setB_flag (by decide) (by decide) (by decide) _
  exact h.ite (.ite (hb.front (.raise (.refl _) _)) h2)

theorem powerOff (h : SameCourse s t) : SameCourse s t.powerOff := by
  unfold State.powerOff
  extract_lets s1 s2 s3 s4 _ s5 s6
  have h1 : SameFront t s1 := .setF (.refl t) (by decide) _
  have h2 : SameFront t s2 := .ite (h1.setF (by decide) _) h1
  have h3 : SameFront t s3 := .ite h2 (h2.setF (by decide) _)
  have h4 : SameFront t s4 := h3.galClose ..
  have h5 : SameFront t s5 := h4.drv _
  have h6 : SameCourse s s6 := .dropCause (h.front (h5.setB (by decide) _)) _
  exact h6.setFunc ..

theorem openAdvance (h : SameCourse s t) : SameCourse s t.openAdvance := by
  unfold State.openAdvance
  extract_lets s1
  have h1 : SameCourse s s1 := .ite (h.front (.setF (.setCmd (.refl t) _) (by decide) _)) h
  exact h.ite (h1.powerOff.ite h1)

theorem openContactors (h : SameCourse s t) : SameCourse s t.openContactors := by
  unfold State.openContactors
  extract_lets s1 s2 s3
  have h2 : SameFront t s2 := .setF (.openLine (.refl t)) (by decide) _
  have h3 : SameFront t s3 := .ite (.setF h2 (by decide) _) h2
  exact .openAdvance (h.front (h3.setCmd _))

theorem modeChanged (h : SameCourse s t) : SameCourse s t.modeChanged :=
  .front (h.setReg (by decide) _) (.raise (.refl _) _)

end SameCourse

/-! ### Where a transition goes (R24, R33, R42) -/

namespace State

variable {s : State} {c t p : Nat}

/-- MODE.STATE takes CURRENT and TARGET. -/
theorem setMode_course : (s.setMode c t p).cur = c % 16 ∧ (s.setMode c t p).getF Fld.MODE_STATE_TARGET = t % 16 := by
  unfold setMode
  extract_lets old s1 s2 s3
  have hc : s2.cur = c % 16 := by
    rw [cur, getF_setF_disjoint _ _ _ _ (by decide) (by decide) (by decide) (by decide),
      getF_setF_disjoint _ _ _ _ (by decide) (by decide) (by decide) (by decide)]
    exact getF_setF _ _ _ (by decide) (by decide)
  have ht : s2.getF Fld.MODE_STATE_TARGET = t % 16 := by
    rw [getF_setF_disjoint _ _ _ _ (by decide) (by decide) (by decide) (by decide)]
    exact getF_setF _ _ _ (by decide) (by decide)
  clear_value s2
  split
  · exact ⟨hc, ht⟩
  · have h3 : SameCourse s2 s3 := .ite (.front (.refl s2) (.anchorEnd (.refl s2) _)) (.refl s2)
    exact ⟨h3.modeChanged.cur.trans hc, h3.modeChanged.target.trans ht⟩

/-- At its end a transition has reached TARGET. -/
theorem cur_finish : s.finish.cur = s.getF Fld.MODE_STATE_TARGET % 16 := by
  unfold finish
  extract_lets t row ab _ s1 s2 s3
  have h3 : s3.cur = t % 16 := setMode_course.1
  clear_value s3
  have h4 : SameCourse s3 (if ab = true then s3 else s3.wrapReg Reg.MODE_TRANS_COUNT) :=
    .ite (.refl s3) (.setReg (.refl s3) (by decide) _)
  exact (h4.front (.galClose (.refl _) ..)).cur.trans h3

end State

/-- The module goes to SURVEY: it is not STARTING, TARGET reads SURVEY, and row 11 of R27 runs or none. -/
structure HeadsForSurvey (t : State) : Prop where
  cur : t.cur ≠ Md.starting
  target : t.getF Fld.MODE_STATE_TARGET = Md.survey
  row : t.mode.row = 0 ∨ t.mode.row = 11

namespace HeadsForSurvey

variable {s t : State}

theorem ite {c : Prop} [Decidable c] (hs : HeadsForSurvey s) (ht : HeadsForSurvey t) : HeadsForSurvey (if c then s else t) := by
  split
  · exact hs
  · exact ht

theorem keeps (h : HeadsForSurvey s) (hc : SameCourse s t) (hm : t.mode = s.mode) : HeadsForSurvey t where
  cur := hc.cur ▸ h.cur
  target := hc.target.trans h.target
  row := hm ▸ h.row

theorem openContactors (h : HeadsForSurvey s) : HeadsForSurvey s.openContactors :=
  h.keeps (.openContactors (.refl s)) State.openContactors_mode

theorem loadOpen (h : HeadsForSurvey s) : HeadsForSurvey s.loadOpen :=
  h.keeps (.front (.refl s) (.loadOpen (.refl s))) State.loadOpen_mode

/-- An end of the transition leaves the module in SURVEY. -/
theorem cur_progress (h : HeadsForSurvey s) : s.progress.cur ≠ Md.starting := by
  have hf : s.finish.cur ≠ Md.starting := by rw [State.cur_finish, h.target]; decide
  unfold State.progress
  extract_lets c f
  rcases h.row with hr | hr <;> simp only [hr]
  · exact h.cur
  · split
    · exact hf
    · exact h.cur

end HeadsForSurvey

namespace State

variable {s : State} {result : Nat} {load : Bool}

/-- An aborted transition goes to SURVEY, through STOPPING while a function is on, and TRANS_ABORTED waits. -/
theorem abortTransition_effect (s : State) :
    HeadsForSurvey s.abortTransition ∧ s.abortTransition.waits Ev.MODE_TRANS_ABORTED = true := by
  unfold abortTransition
  extract_lets left s1 _ s2 s3 s4 _ _
  have hw : s2.waits Ev.MODE_TRANS_ABORTED = true := waits_raise _ _ _ (.inr ⟨pagePresent_mode _, rfl⟩)
  have hr : s2.mode.row = 11 := rfl
  clear_value s2
  have k2 : Kept (s2.modeWatch (· = Ev.MODE_TRANS_ABORTED)) s2 := kept_modeWatch fun _ hk => hk ▸ hw
  have k3 : Kept (s2.modeWatch (· = Ev.MODE_TRANS_ABORTED)) s3 :=
    kept_stopOthers (kept_asyAbort k2 (by rw [s2.modeWatch_mask]; rfl)) (by rw [s2.modeWatch_mask]; rfl)
  have k4 : Kept (s2.modeWatch (· = Ev.MODE_TRANS_ABORTED)) s4 :=
    Kept_ite k3 (kept_setFunc k3 (by rw [s2.modeWatch_mask]; rfl))
  have hw4 : s4.waits Ev.MODE_TRANS_ABORTED = true := k4.has _ rfl
  have hm4 : s4.mode = s2.mode := k4.mode
  clear_value s4
  split
  · obtain ⟨hc, ht⟩ := setMode_course (s := { s4 with mode := { s4.mode with row := 0, aborted := false } })
      (c := Md.survey) (t := Md.survey) (p := left)
    exact ⟨⟨by rw [hc]; decide, ht, .inl (congrArg ModeUnit.row setMode_mode)⟩, waits_setMode hw4⟩
  · obtain ⟨hc, ht⟩ := setMode_course (s := s4) (c := Md.stopping) (t := Md.survey) (p := left)
    exact ⟨⟨by rw [hc]; decide, ht, .inr (by rw [setMode_mode, hm4, hr])⟩, waits_setMode hw4⟩

/-- A transition cut short is aborted, whatever opens. -/
theorem cutTransition_effect (s : State) (result : Nat) (load : Bool) : HeadsForSurvey (s.cutTransition result load) ∧
    (s.cutTransition result load).waits Ev.MODE_TRANS_ABORTED = true := by
  unfold cutTransition
  extract_lets was on s1 s2
  obtain ⟨hs, hw⟩ : HeadsForSurvey s2 ∧ s2.waits Ev.MODE_TRANS_ABORTED = true := abortTransition_effect s1
  clear_value s2
  split
  · exact abortTransition_effect _
  · split
    · exact ⟨hs, hw⟩
    · split
      · exact ⟨hs.openContactors, waits_openContactors hw⟩
      · split
        · exact ⟨hs.loadOpen.openContactors, waits_openContactors (waits_loadOpen hw)⟩
        · exact ⟨hs, hw⟩

end State

/-! ### The start of a Full Stop (R314, R316) -/

/-- Every variant has a SAFE page. -/
theorem pagePresent_safe (v : Variant) : pagePresent v Pg.SAFE = true := by cases v <;> rfl

namespace State

variable {s : State} {e : Ev} {a code : Nat}

/-- A Full Stop that does not yet run, and that nothing holds back, starts with FS_START. -/
theorem waits_fsStart (hf : s.flag Fld.SAFE_STATE_FS_ACTIVE = false) (hl : s.leavingAssay = false) :
    (s.fsStart code).waits Ev.SAFE_FS_START = true := by
  unfold fsStart
  extract_lets left cut s1 s2 s3 _ s4 s5 s6 _ s7 s8 s9 s10 st s11 s12 s13
  rw [if_neg (by simp [hf]), if_neg (by simp [hl])]
  have h5 : s5.waits Ev.SAFE_FS_START = true := waits_raise _ _ _ (.inr ⟨pagePresent_safe _, rfl⟩)
  have h7 : s7.waits Ev.SAFE_FS_START = true := (kept_galClose (kept_waitWatch h5) (and_everyField (by decide))).waits
  clear_value s7
  have k8 : Kept (s7.waitWatch Ev.SAFE_FS_START) s8 := kept_setMode (kept_waitWatch h7) (and_everyField (by decide))
  have k9 : Kept (s7.waitWatch Ev.SAFE_FS_START) s9 :=
    kept_stopOthers (kept_asyAbort k8 (and_everyField (by decide))) (and_everyField (by decide))
  have k10 : Kept (s7.waitWatch Ev.SAFE_FS_START) s10 := kept_announce k9 (and_everyField (by decide))
  have k11 : Kept (s7.waitWatch Ev.SAFE_FS_START) s11 := kept_openLine (kept_setFunc
    (kept_cutClosing k10 (and_everyField (by decide))) (and_everyField (by decide))) (and_everyField (by decide))
  have k13 : Kept (s7.waitWatch Ev.SAFE_FS_START) s13 :=
    kept_setB (kept_setSource (kept_fixEnvelope k11 (and_everyField (by decide))))
  exact (Kept_ite (kept_fsDone k10 (and_everyField (by decide)))
    (Kept_ite (kept_setF k13) (Kept_ite (kept_noRampPath k13 (and_everyField (by decide))) k13))).waits

/-- The cause bit, FAULT_ACTIVE and CAUSE_SET, before what the cause demands. -/
def causeShown (s : State) (code : Nat) : State := ((s.setB (causeBit code) true).raise Ev.SAFE_CAUSE_SET).faultShow

theorem getReg_causeShown (h : code < 0x20) (h1 : a ≠ Reg.SAFE_CAUSE_LO) (h2 : a ≠ Reg.MODE_STATE)
    (h3 : a ≠ Reg.SEQ_COALESCED) : (s.causeShown code).getReg a = s.getReg a := by
  have hb : (causeBit code).addr = Reg.SAFE_CAUSE_LO := by rw [causeBit, if_pos h]
  rw [causeShown, faultShow, setB, setF, getReg_setReg, if_neg h2, getReg_raise _ _ _ h3, setB, setF, getReg_setReg, hb,
    if_neg h1]

theorem waits_causeShown : (s.causeShown code).waits Ev.SAFE_CAUSE_SET = true :=
  waits_raise (s.setB (causeBit code) true) _ _ (.inr ⟨pagePresent_safe _, rfl⟩)

theorem causeShown_mode : (s.causeShown code).mode = s.mode := by
  rw [causeShown, faultShow, setB_mode, raise_mode, setB_mode]

theorem causeShown_pair : (s.causeShown code).pair = s.pair := by
  have : (s.causeShown code).record = s.record := by rw [causeShown, faultShow, setB_record, raise_record, setB_record]
  rw [pair, pair, this]

theorem getF_causeShown {f : Fld} (h : code < 0x20) (h1 : f.addr ≠ Reg.SAFE_CAUSE_LO) (h2 : f.addr ≠ Reg.MODE_STATE)
    (h3 : f.addr ≠ Reg.SEQ_COALESCED) : (s.causeShown code).getF f = s.getF f := by
  rw [getF, getF, getReg_causeShown h h1 h2 h3]

/-- Becoming active, a cause of the Full Stop class raises CAUSE_SET. -/
theorem waits_setCause (hn : s.causeOn code = false) (h : code < 0x20) : (s.setCause code).waits Ev.SAFE_CAUSE_SET = true := by
  unfold setCause
  extract_lets u _ _ t
  have hu : u.waits Ev.SAFE_CAUSE_SET = true := waits_causeShown
  have ht : t.waits Ev.SAFE_CAUSE_SET = true := waits_plnkOut 0x04 [code] hu
  clear_value t u
  rw [if_neg (by simp [hn]), if_pos h]
  split
  · split
    · exact waits_fsStart_mono ht
    · exact ht
  · exact waits_fsStart_mono hu

/-- Becoming active, a cause of the Full Stop class demands a Full Stop of a module that is solo or holds the Imprint (R320). -/
theorem setCause_fsStart (hn : s.causeOn code = false) (h : code < 0x20) (hs : s.pair = false ∨ s.pstate = Ps.holder) :
    s.setCause code = (s.causeShown code).fsStart code := by
  have hp : ¬ ((s.causeShown code).pair && (s.causeShown code).pstate != Ps.holder) = true := by
    rw [causeShown_pair, pstate, getF_causeShown h (by decide) (by decide) (by decide)]
    rcases hs with hs | hs
    · simp [hs]
    · simp [show s.getF Fld.PAIR_STATE_PSTATE = Ps.holder from hs]
  rw [setCause, if_neg (by simp [hn])]
  exact (if_pos h).trans (if_neg hp)

end State

/-! ### The clauses -/

section Clauses

variable {s : State} {m v : Nat}

theorem bitsOf_target : bitsOf v 3 0 = v % 16 := by simp [bitsOf]

/-- The service UART reaches DORMANT and SURVEY alone (R60). -/
theorem exec_modeRequest_permits (hp : s.permits m Reg.MODE_REQUEST = true) :
    exec (.modeRequest m v) s = .next (if m = 5 ∧ v % 16 ≠ Md.dormant ∧ v % 16 ≠ Md.survey then
      s.recordErr m Reg.MODE_REQUEST St.levelDenied else s.requestWrite v) := by
  show Host.Outcome.next (s.permit m Reg.MODE_REQUEST _) = _
  rw [State.permit_ok hp]
  simp only [bitsOf_target, Bool.and_eq_true, beq_iff_eq, bne_iff_ne, and_assoc]

theorem State.getReg_requestWrite_request : (s.requestWrite v).getReg Reg.MODE_REQUEST = v / 256 % 256 * 256 + v % 16 := by
  rw [requestWrite, getReg_raiseInt (by decide), getReg_setReg, if_pos rfl, bitsOf_target, bitsOf]
  simp only [Nat.shiftRight_eq_div_pow]
  omega

theorem says_modeRequest : Says.modeRequest := by
  intro s m v hp ht
  refine ⟨s.requestWrite v, ?_, State.getReg_requestWrite_request, ?_, State.raiseInt_mode, fun a ha => ?_⟩
  · rw [exec_modeRequest_permits hp, if_neg (by omega)]
  · intro e
    rw [State.requestWrite, State.raiseInt, State.waits_raiseC_iff _ _ _ _ _ (pagePresent_mode _)]
    simp
  · simp only [List.mem_cons, List.not_mem_nil, or_false, not_or] at ha
    obtain ⟨h1, h2⟩ := ha
    rw [State.requestWrite, State.getReg_raiseInt h2, State.getReg_setReg, if_neg h1]

theorem says_modeRequest_uart : Says.modeRequest_uart := by
  intro s v hp hd hs
  refine ⟨s.recordErr 5 Reg.MODE_REQUEST St.levelDenied, ?_, State.getReg_recordErr_addr (by decide),
    State.getF_recordErr_master (by decide), State.getF_recordErr_status (by decide), fun e => ?_, fun a ha => ?_⟩
  · rw [exec_modeRequest_permits hp, if_pos ⟨rfl, hd, hs⟩]
  · rw [State.waits_recordErr, List.mem_nil_iff, or_false]
  · simp only [List.mem_cons, List.not_mem_nil, or_false, not_or] at ha
    exact State.getReg_recordErr ha.1 ha.2

theorem exec_transTimeout (hl : s.live = true) (hc : s.cur = Md.starting) (hr : s.mode.row = 3) (hp : s.power = 1) :
    exec .transTimeout s =
      .next (((s.raiseInt Pg.MODE 33 4).raise Ev.MODE_TRANS_TIMEOUT).cutTransition 0x17 false).progress :=
  if_pos (by simp [hl, hc, hr, hp])

theorem says_transTimeout : Says.transTimeout := by
  intro s hl hc hr hp
  obtain ⟨hs, hw⟩ := ((s.raiseInt Pg.MODE 33 4).raise Ev.MODE_TRANS_TIMEOUT).cutTransition_effect 0x17 false
  have ht : ((s.raiseInt Pg.MODE 33 4).raise Ev.MODE_TRANS_TIMEOUT).waits Ev.MODE_TRANS_TIMEOUT = true :=
    State.waits_raise _ _ _ (.inr ⟨pagePresent_mode _, rfl⟩)
  exact ⟨_, exec_transTimeout hl hc hr hp, State.waits_progress (State.waits_cutTransition_mono ht), State.waits_progress hw,
    hs.cur_progress⟩

theorem exec_stopLimitExpiry (hl : s.live = true) (hr : s.mode.row = 11) (hp : s.power = 3) (hc : s.getF Fld.DRV_CONT_STEP ≠ 9)
    (hb : s.below5 = false) : exec .stopLimitExpiry s = .next ((s.raiseInt Pg.MODE 34 4).setCause 0x17) :=
  if_pos (by simp [hl, hr, hp, hc, hb])

theorem says_stopLimitExpiry : Says.stopLimitExpiry := by
  intro s hl hr hp hc hb hn
  have hon : (s.raiseInt Pg.MODE 34 4).causeOn 0x17 = false := by
    rw [← hn]
    exact congrArg (fun w => bitsOf w _ _ != 0) (State.getReg_raiseInt (by decide))
  refine ⟨_, exec_stopLimitExpiry hl hr hp hc hb, State.waits_setCause_mono (State.waits_raiseInt (pagePresent_mode _)),
    State.waits_setCause hon (by decide), fun hs _ => ?_⟩
  have hs' : (s.raiseInt Pg.MODE 34 4).pair = false ∨ (s.raiseInt Pg.MODE 34 4).pstate = Ps.holder := by
    refine hs.imp (fun h => ?_) (fun h => ?_)
    · rw [State.pair, State.raiseInt, State.raiseC_record]; exact h
    · rw [State.pstate, State.getF, State.getReg_raiseInt (by decide)]; exact h
  have hfs : ((s.raiseInt Pg.MODE 34 4).causeShown 0x17).flag Fld.SAFE_STATE_FS_ACTIVE = s.flag Fld.SAFE_STATE_FS_ACTIVE := by
    rw [State.flag, State.getF_causeShown (by decide) (by decide) (by decide) (by decide), State.getF,
      State.getReg_raiseInt (by decide)]
    rfl
  have hleave : ((s.raiseInt Pg.MODE 34 4).causeShown 0x17).leavingAssay = false := by
    rw [State.leavingAssay, State.causeShown_mode, State.raiseInt_mode, hr]; rfl
  rw [State.setCause_fsStart hon (by decide) hs']
  cases hf : s.flag Fld.SAFE_STATE_FS_ACTIVE
  · exact .inl (State.waits_fsStart (hfs.trans hf) hleave)
  · exact .inr rfl

/-- The latch and its flag cleared, with the event and the announcement (R39). -/
def State.stopLatchCleared (s : State) : State :=
  let t := ((s.setFM Fld.MODE_LATCH_STOP_LATCH 0).setB Fld.MODE_STATE_STOP_LATCH false).raise Ev.MODE_STOP_LATCH_CLEARED
  t.announce 0x05 (t.getF Fld.MODE_LATCH_CAUSE) 0

/-- LATCH_CLR with its key and value clears the latch where its conditions hold, and is denied in every other case. -/
theorem exec_latchClr (hp : s.permits m Reg.MODE_LATCH_CLR = true) : exec (.latchClr m v) s =
    .next (if s.keyOk m Pg.MODE 0x3A7D = true then
        (if v % 65536 = 0x5C1E ∧ (s.clearKey Pg.MODE).latchMayClear = true then (s.clearKey Pg.MODE).stopLatchCleared
          else (s.clearKey Pg.MODE).raise Ev.MODE_LATCH_CLR_DENIED)
      else ((s.clearKey Pg.MODE).raise Ev.MODE_LATCH_CLR_DENIED).recordErr m Reg.MODE_LATCH_CLR St.keyDenied) := by
  have hb : bitsOf v 15 0 = v % 65536 := by simp [bitsOf]
  show Host.Outcome.next (s.permitKeyed m Reg.MODE_LATCH_CLR _ _ _) = _
  rw [State.permitKeyed, State.permit_ok hp]
  simp only [hb, Bool.and_eq_true, beq_iff_eq]
  rfl

theorem State.getReg_clearKey {q a : Nat} (h : a ≠ Folio.LOCK q) : (s.clearKey q).getReg a = s.getReg a :=
  regsBut_clearKey a (by simpa using h)

theorem State.waits_clearKey {q : Nat} (e : Ev) : (s.clearKey q).waits e = s.waits e := waits_setF ..

/-- The conditions of R39 do not look at LOCK. -/
theorem State.latchMayClear_clearKey : (s.clearKey Pg.MODE).latchMayClear = s.latchMayClear := by
  have hf (f : Fld) (h : f.addr ≠ Folio.LOCK Pg.MODE) : (s.clearKey Pg.MODE).getF f = s.getF f := by
    rw [getF, getF, getReg_clearKey h]
  have hb (c : Nat) : (causeBit c).addr ≠ Folio.LOCK Pg.MODE := by
    unfold causeBit
    split
    · exact (by decide : Reg.SAFE_CAUSE_LO ≠ Folio.LOCK Pg.MODE)
    · exact (by decide : Reg.SAFE_CAUSE_HI ≠ Folio.LOCK Pg.MODE)
  simp only [latchMayClear, cur, allOpen, fbOpen, causeOn, flag]
  rw [hf Fld.MODE_STATE_CURRENT (by decide), hf Fld.SIO_FB_ACCEPTED (by decide), hf Fld.MODE_LATCH_CAUSE (by decide), hf _ (hb _)]

/-- Clearing the latch writes LATCH and MODE.STATE alone, and raises STOP_LATCH_CLEARED. -/
theorem State.stopLatchCleared_effect (s : State) : s.stopLatchCleared.getF Fld.MODE_LATCH_STOP_LATCH = 0 ∧
    s.stopLatchCleared.getF Fld.MODE_STATE_STOP_LATCH = 0 ∧ Added [Ev.MODE_STOP_LATCH_CLEARED] s s.stopLatchCleared ∧
    RegsBut [Reg.MODE_LATCH, Reg.MODE_STATE, Reg.SEQ_COALESCED] s s.stopLatchCleared := by
  unfold stopLatchCleared
  extract_lets t
  have hlatch : t.getF Fld.MODE_LATCH_STOP_LATCH = 0 := by
    rw [getF_raise _ _ _ (by decide), setB, getF_setF_ne _ _ _ _ (by decide)]
    exact getF_setF s _ 0 (by decide) (by decide)
  have hflag : t.getF Fld.MODE_STATE_STOP_LATCH = 0 := by
    rw [getF_raise _ _ _ (by decide)]
    exact getF_setF _ Fld.MODE_STATE_STOP_LATCH (b2n false) (by decide) (by decide)
  have hadded : Added [Ev.MODE_STOP_LATCH_CLEARED] s t :=
    (Added_raise (pagePresent_mode _)).of_waits fun _ => rfl
  have hregs : RegsBut [Reg.MODE_LATCH, Reg.MODE_STATE, Reg.SEQ_COALESCED] s t := fun a ha => by
    simp only [List.mem_cons, List.not_mem_nil, or_false, not_or] at ha
    obtain ⟨h1, h2, h3⟩ := ha
    rw [getReg_raise _ _ _ h3, setB, setF, getReg_setReg, if_neg h2, setFM, getReg_toMram, setF, getReg_setReg, if_neg h1]
  clear_value t
  exact ⟨hlatch, hflag, hadded, hregs⟩

theorem says_latchClr : Says.latchClr := by
  intro s m v hp hv hc
  obtain ⟨hp, hk⟩ : s.permits m Reg.MODE_LATCH_CLR = true ∧ s.keyOk m Pg.MODE 0x3A7D = true := by
    rwa [State.permitsKeyed, Bool.and_eq_true] at hp
  obtain ⟨hl, hf, ha, hr⟩ := (s.clearKey Pg.MODE).stopLatchCleared_effect
  refine ⟨(s.clearKey Pg.MODE).stopLatchCleared, ?_, hl, hf, ?_, ha.of_waits State.waits_clearKey, fun a ha => ?_⟩
  · rw [exec_latchClr hp, if_pos hk, if_pos ⟨hv, State.latchMayClear_clearKey.trans hc⟩]
  · rw [State.getF, hr _ (by decide)]
    exact State.getF_clearKey
  · simp only [List.mem_cons, List.not_mem_nil, or_false, not_or] at ha
    obtain ⟨h1, h2, h3, h4⟩ := ha
    rw [hr a (by simp [h1, h2, h4]), State.getReg_clearKey h3]

/-- LOCK.KEY is cleared and LATCH_CLR_DENIED raised, whether or not the access is recorded too. -/
theorem State.latchClrDenied_effect {t : State} (ht : t = (s.clearKey Pg.MODE).raise Ev.MODE_LATCH_CLR_DENIED ∨
      t = ((s.clearKey Pg.MODE).raise Ev.MODE_LATCH_CLR_DENIED).recordErr m Reg.MODE_LATCH_CLR St.keyDenied) :
    Added [Ev.MODE_LATCH_CLR_DENIED] s t ∧ t.getF (Folio.LOCK_KEY Pg.MODE) = 0 ∧
      RegsBut [Folio.LOCK Pg.MODE, Reg.SYS_ACCESS_ERR_ADDR, Reg.SYS_ACCESS_ERR, Reg.SEQ_COALESCED] s t := by
  have hadded : Added [Ev.MODE_LATCH_CLR_DENIED] s ((s.clearKey Pg.MODE).raise Ev.MODE_LATCH_CLR_DENIED) :=
    (Added_raise (pagePresent_mode _)).of_waits waits_clearKey
  have hraise {a : Nat} (ha : a ≠ Reg.SEQ_COALESCED) :
      ((s.clearKey Pg.MODE).raise Ev.MODE_LATCH_CLR_DENIED).getReg a = (s.clearKey Pg.MODE).getReg a := getReg_raise _ _ _ ha
  have hget {a : Nat} (h1 : a ≠ Reg.SYS_ACCESS_ERR_ADDR) (h2 : a ≠ Reg.SYS_ACCESS_ERR) (h3 : a ≠ Reg.SEQ_COALESCED) :
      t.getReg a = (s.clearKey Pg.MODE).getReg a := by
    rcases ht with rfl | rfl
    · exact hraise h3
    · rw [getReg_recordErr h1 h2, hraise h3]
  refine ⟨fun e => ?_, ?_, fun a ha => ?_⟩
  · rcases ht with rfl | rfl
    · exact hadded e
    · rw [waits_recordErr]; exact hadded e
  · rw [getF, hget (by decide) (by decide) (by decide)]
    exact getF_clearKey
  · simp only [List.mem_cons, List.not_mem_nil, or_false, not_or] at ha
    obtain ⟨h1, h2, h3, h4⟩ := ha
    rw [hget h2 h3 h4, getReg_clearKey h1]

theorem says_latchClr_denied : Says.latchClr_denied := by
  intro s m v hp hd
  have hx := exec_latchClr (v := v) hp
  generalize ht : (if s.keyOk m Pg.MODE 0x3A7D = true then _ else _ : State) = t at hx
  have hcases : t = (s.clearKey Pg.MODE).raise Ev.MODE_LATCH_CLR_DENIED ∨
      t = ((s.clearKey Pg.MODE).raise Ev.MODE_LATCH_CLR_DENIED).recordErr m Reg.MODE_LATCH_CLR St.keyDenied := by
    rw [← ht, State.latchMayClear_clearKey]
    split
    · next hk =>
      exact .inl (if_neg fun hc => by rcases hd with h | h | h <;> simp_all)
    · exact .inr rfl
  obtain ⟨ha, hl, hr⟩ := State.latchClrDenied_effect hcases
  exact ⟨t, hx, ha, hr _ (by decide), hl, hr⟩

end Clauses

/-- Settles O40: one lemma for each clause. -/
theorem modeRequestsAndStopLatch : Obligations.ModeRequestsAndStopLatch :=
  ⟨says_modeRequest, says_modeRequest_uart, says_transTimeout, says_stopLimitExpiry, says_latchClr, says_latchClr_denied⟩

end Sys2Proof.Machine

/-! PROOF. What every page and the reset state hold (R45, R46, R68, R69), and accesses over the service UART and over VRA sessions
(R55 to R62): what a read leaves, what a session's datagram reaches, what its answer and its session keep; and from these the
clauses of UART_RD, UART_WR, the VRA commands and VRA_CTL_WRITE. -/

namespace Sys2Proof.Machine

/-! ### The page table and the reset state (R45, R46, R68, R69) -/

/-- A register page shows its Folio whether or not its unit is present. -/
theorem State.peek_folio {s : State} {a : Nat} (hi : inPages a = true) (ho : a % 0x1000 < 0x20) :
    s.peek a = s.folioWord (pageOf a) (a % 0x1000) := by
  have hlt := (inPages_iff.mp hi).2
  simp [peek, governing?_of_inPages hi, hlt, ho]

theorem State.peek_FOLIO {s : State} {p : Nat} (hp : p < 35) :
    s.peek (Folio.FOLIO p) = p * 2 ^ 24 + kindOf p * 2 ^ 16 + 0x0100 := by
  obtain ⟨hi, hg, ho⟩ := folio_address (o := 0) hp (by decide)
  rw [peek_folio hi (by omega), hg, ho]
  rfl

/-- The table of R45 is the model's KIND and OWNER of each page. -/
theorem pageTable_row : ∀ x ∈ Says.pageTable, x.1 < 35 ∧ x.2.1 = kindOf x.1 ∧ kindOf x.1 < 256 ∧ x.2.2 = ownerReset x.1 := by
  decide

theorem reset_owner : ∀ p < 35, State.reset.getReg (Folio.OWNER p) = ownerReset p := by decide +kernel

/-- Settles O3: the Folio word is the same in every state, and OWNER is one of the reset words. -/
theorem eachPageReadsItsKindAndOwner : Obligations.EachPageReadsItsKindAndOwner := by
  intro x hx
  obtain ⟨hp, hk, hk8, ho⟩ := pageTable_row x hx
  refine ⟨fun s => ?_, by rw [ho, reset_owner _ hp]⟩
  rw [State.peek_FOLIO hp, hk, bitsOf, bitsOf, Nat.shiftRight_eq_div_pow, Nat.shiftRight_eq_div_pow]
  omega

theorem reset_sound : State.reset.Sound :=
  ⟨State.wf_iff.mpr ⟨reset_regs_wf, rfl, by decide, rfl⟩, rfl⟩

/-- EVENTS, EVENT_EN, LOCK and SEQ_LAST are among no page's reset words. -/
theorem reset_folio : ∀ p < 35, State.reset.getReg (Folio.EVENTS p) = 0 ∧ State.reset.getReg (Folio.EVENT_EN p) = 0 ∧
    State.reset.getReg (Folio.LOCK p) = 0 ∧ State.reset.getReg (Folio.SEQ_LAST p) = 0 := by
  decide +kernel

/-- Settles O4: the empty parts are the reset state's own, the registers its reset words. -/
theorem resetLeavesNothingWaiting : Obligations.ResetLeavesNothingWaiting :=
  ⟨reset_sound, rfl, rfl, rfl, rfl, rfl, reset_folio⟩

/-! ### A read of a word by any master -/

namespace State

variable {s : State} {m a : Nat}

theorem readWords_one : s.readWords m a 1 = s.readWord m a := by simp [readWords]

/-- A read of an aligned word of a present page answers OK and the word. -/
theorem readAny_page (hu : s.pmpOk m a false = true) (hr : readable m a = true) (ha : a % 4 = 0) (hi : inPages a = true)
    (hp : pagePresent s.variant (pageOf a) = true) : s.readAny m a 4 = (St.ok, s.readWord m a) := by
  have h4 : a / 4 * 4 = a := by omega
  have hlo : ¬ a < 0x10000 := by have := inPages_iff.mp hi; omega
  rw [readAny, h4, hu, hr, isRam_of_inPages hi, governing?_of_inPages hi, hi]
  simp only [hp, hlo, coreWidth, ha, hi, readWords_one, Bool.not_true, Bool.and_false, Bool.false_and, Bool.true_and,
    Bool.true_or, beq_self_eq_true, decide_false, if_false, if_true, Bool.false_eq_true]

/-- A read of a Folio word leaves the state as it was. -/
theorem readWord_folio (ho : a % 0x1000 < 0x20) (h : s.latched m a = none) : s.readWord m a = (s.rcValue a (s.peek a), s) := by
  simp [readWord, h, ho]

@[simp] theorem latchVote_sent : (s.latchVote m).sent = s.sent := by rw [latchVote_frame]

theorem getReg_latchVote {b : Nat} : (s.latchVote m).getReg b = s.getReg b := by rw [getReg, latchVote_frame, getReg]

theorem inPages_of_subset60 (h : subset60 a = true) : inPages a = true := by
  rw [subset60, Bool.and_eq_true] at h; exact h.1

/-- What the service UART may read lies in a Folio or on one of three pages (R60). -/
theorem subset60_page (h : subset60 a = true) (ho : 0x20 ≤ a % 0x1000) :
    pageOf a = Pg.AUX ∨ pageOf a = Pg.SYS ∨ pageOf a = Pg.MODE := by
  simp only [subset60, Bool.and_eq_true, Bool.or_eq_true, decide_eq_true_eq, beq_iff_eq, List.contains_eq_mem] at h
  rcases h.2 with (h | h) | h
  · omega
  · exact .inl h
  · have listed : ∀ r ∈ [Reg.SYS_IDENT, Reg.SYS_SERIAL_LO, Reg.SYS_SERIAL_HI, Reg.SYS_RESET_CAUSE, Reg.SYS_HOURS,
        Reg.SYS_POWER_CYCLES, Reg.MODE_STATE, Reg.MODE_LATCH, Reg.MODE_REQ_RESULT], pageOf r = Pg.SYS ∨ pageOf r = Pg.MODE := by
      decide
    exact .inr (listed a h)

/-- A word that the service UART may read is read as it is found, and the read changes no other register. -/
theorem readWord_subset60 (h : subset60 a = true) (hv : pagePresent s.variant (pageOf a) = true) (hl : s.latched m a = none) :
    (s.readWord m a).1 = s.rcValue a (s.peek a) ∧ (s.readWord m a).2.sent = s.sent ∧ RegsBut [a] s (s.readWord m a).2 := by
  by_cases ho : a % 0x1000 < 0x20
  · rw [readWord_folio ho hl]
    exact ⟨rfl, rfl, fun _ _ => rfl⟩
  · have hi := inPages_of_subset60 h
    have hp := subset60_page h (by omega)
    have hq : ¬ inQueueHead a := by
      rintro ⟨hc, -⟩
      rcases hp with h | h | h <;> rw [h] at hc <;> exact absurd hc (by decide)
    have hchn : pageOf a ≠ Pg.CHN1 := by
      rcases hp with h | h | h <;> rw [h] <;> decide
    have hreg : rcReg a = a := by rw [rcReg, beq_false_of_ne hchn]; rfl
    have hs : a ≠ Reg.LOOP_SEL_STATUS := by
      rintro rfl; exact absurd hp (by decide)
    rw [readWord_page hi (by omega) hv hq hl]
    refine ⟨rfl, ?_, fun b hb => ?_⟩
    · dsimp only
      split
      · rfl
      · split
        · exact latchVote_sent
        · exact clearRead_sent
    · dsimp only
      split
      · rfl
      · split
        · exact getReg_latchVote
        · rw [getReg_clearRead hs hreg, if_neg (by simpa using hb)]

end State

/-! ### The service UART (R60, R61) -/

section Uart

variable {s : State} {l : List Nat} {a v : List Nat}

theorem exec_uartRd (hu : s.uartLive = true) (hl : l.take 2 ≠ [87, 82]) : exec (.uartRd l) s = .next (s.uartLine l) :=
  congrArg Host.Outcome.next (if_pos (by simp [hu, hl]))

theorem exec_uartWr (hu : s.uartLive = true) :
    exec (.uartWr a v) s = .next (s.uartLine ([87, 82, 32] ++ a ++ [32] ++ v)) :=
  congrArg Host.Outcome.next (if_pos hu)

/-- A line of more than 32 characters is discarded with ER 05. -/
theorem State.uartLine_long (h : 32 < l.length) : s.uartLine l = { s with sent := ⟨.uart, 1, [St.align]⟩ :: s.sent } := by
  rw [uartLine, if_pos h]; rfl

theorem State.uartLine_rd {r : Nat} (h : l.length ≤ 32) (hr : l.take 2 = [82, 68]) (hw : hexWords 1 (l.drop 2) = some [r]) :
    s.uartLine l = (s.readAny 5 r 4).2.2.uartReply (s.readAny 5 r 4).1 (s.readAny 5 r 4).2.1 := by
  simp [uartLine, Nat.not_lt.mpr h, hr, hw]

theorem State.uartLine_wr {r x : Nat} (h : a.length + v.length ≤ 28) (hw : hexWords 2 ([32] ++ a ++ [32] ++ v) = some [r, x]) :
    s.uartLine ([87, 82, 32] ++ a ++ [32] ++ v) = (s.writeAny 5 r 4 x).2.uartReply (s.writeAny 5 r 4 x).1 x := by
  have hlen : ¬ 32 < ([87, 82, 32] ++ a ++ [32] ++ v).length := by
    simp only [List.length_append, List.length_cons, List.length_nil]; omega
  have hd : ([87, 82, 32] ++ a ++ [32] ++ v).drop 2 = [32] ++ a ++ [32] ++ v := by simp
  rw [uartLine, if_neg hlen, hd, hw]
  simp

theorem says_uartRd : Says.uartRd := by
  intro s l a hu hlen hl hw ha h60 hv hlatch
  have hi := State.inPages_of_subset60 h60
  have hr : readable 5 a = true := h60
  obtain ⟨h1, h2, h3⟩ := State.readWord_subset60 (m := 5) h60 hv hlatch
  have hx : s.uartLine l = (s.readWord 5 a).2.emit .uart 0 [(s.readWord 5 a).1] := by
    rw [State.uartLine_rd hlen hl hw, State.readAny_page (State.pmpOk_host (by decide)) hr ha hi hv]
    rfl
  refine ⟨_, by rw [exec_uartRd hu (by rw [hl]; decide), hx], ?_, fun b hb => ?_⟩
  · rw [State.emit_sent, h1, h2]
  · rw [State.getReg_emit, h3 b hb]

theorem says_uartRd_long : Says.uartRd_long :=
  fun _ _ hu hlen hl => ⟨_, exec_uartRd hu hl, State.uartLine_long hlen⟩

theorem says_uartWr_long : Says.uartWr_long := by
  intro s a v hu hlen
  refine ⟨_, exec_uartWr hu, State.uartLine_long ?_⟩
  simp only [List.length_append, List.length_cons, List.length_nil]
  omega

/-- LOCK of MODE takes a write of the service UART where OWNER lets it in (R60). -/
theorem State.writeCheck_uart_lock {x : Nat} (ho : s.owns 5 Pg.MODE = true) :
    s.writeCheck 5 (Folio.LOCK Pg.MODE) x = St.ok := by
  have hk : keyOf (Folio.LOCK Pg.MODE) x = none := keyOf_folio (by decide) (by decide)
  have hg : governing? (Folio.LOCK Pg.MODE) = some Pg.MODE := by decide
  have hO : (Folio.LOCK Pg.MODE % 0x1000 == 0x14) = false := by decide
  have hL : decide (0x20 ≤ Folio.LOCK Pg.MODE % 0x1000) = false := by decide
  have hR : (Folio.LOCK Pg.MODE == Reg.MODE_REQUEST) = false := by decide
  have hW : (Folio.LOCK Pg.MODE == Reg.CLK_WDG_KICK) = false := by decide
  simp [-beq_iff_eq, writeCheck, hg, hk, pagePresent_mode, ho, hO, hL, hR, hW]

theorem State.writeAny_uart_lock {k : Nat} (ho : s.owns 5 Pg.MODE = true) :
    s.writeAny 5 (Folio.LOCK Pg.MODE) 4 k = (St.ok, s.setReg (Folio.LOCK Pg.MODE) (5 * 65536 + k % 2 ^ 32 % 65536)) := by
  have hw : writable 5 (Folio.LOCK Pg.MODE / 4 * 4) = true := by decide
  have hx : s.writeAny 5 (Folio.LOCK Pg.MODE) 4 k = s.writeWord 5 (Folio.LOCK Pg.MODE) k := by
    rw [writeAny, if_neg (by simp [pmpOk_host]), if_neg (by simp [hw])]
    rfl
  rw [hx, writeWord_ok (writeCheck_uart_lock ho), writeAt_folio (by decide) (by decide)]
  rfl

theorem says_uartWr : Says.uartWr := by
  intro s a v k hu ho hlen hw
  have hx : s.uartLine ([87, 82, 32] ++ a ++ [32] ++ v)
      = (s.setReg (Folio.LOCK Pg.MODE) (5 * 65536 + k % 2 ^ 32 % 65536)).emit .uart 0 [k] := by
    rw [State.uartLine_wr hlen hw, State.writeAny_uart_lock ho]; rfl
  have hr : (s.setReg (Folio.LOCK Pg.MODE) (5 * 65536 + k % 2 ^ 32 % 65536)).getReg (Folio.LOCK Pg.MODE)
      = 5 * 65536 + k % 65536 := by
    rw [State.getReg_setReg, if_pos rfl]; omega
  refine ⟨_, by rw [exec_uartWr hu, hx], ?_, ?_, rfl, fun b hb => ?_⟩
  · rw [State.getF_emit, State.getF, hr, bitsOf, Nat.shiftRight_zero]
    exact Nat.mul_add_mod_self_right 5 65536 _ |>.trans (Nat.mod_mod k 65536)
  · rw [State.getF_emit, State.getF, hr]
    show (5 * 65536 + k % 65536) >>> 16 % 2 ^ 3 = 5
    rw [Nat.shiftRight_eq_div_pow]; omega
  · rw [State.getReg_emit, State.getReg_setReg, if_neg (by simpa using hb)]

end Uart

/-! ### VRA sessions (R55, R57, R62) -/

theorem pagePresent_sys (v : Variant) : pagePresent v Pg.SYS = true := by cases v <;> rfl

namespace State

variable {s : State} {p ip sp id : Nat} {b : List Nat} {x : VraSession}

theorem closeSession_sessions : (s.closeSession id).acc.sessions = s.acc.sessions.filter (·.id != id) := by
  rw [closeSession]
  split
  · rw [raise_acc]
  · next h =>
    rw [eq_comm, List.filter_eq_self]
    simpa using h

/-- Where a session of that number is open, its end is an event. -/
theorem closeSession_added (h : s.acc.sessions.any (·.id == id) = true) : Added [Ev.SYS_VRA_SESSION] s (s.closeSession id) := by
  rw [closeSession, if_pos h]
  exact (Added_raise (pagePresent_sys _)).of_waits fun _ => rfl

theorem closeSession_regs : RegsBut [Reg.SEQ_COALESCED] s (s.closeSession id) := fun r hr => by
  rw [closeSession]
  split
  · rw [getReg_raise _ _ _ (by simpa using hr)]; rfl
  · rfl

theorem closeSession_sent : (s.closeSession id).sent = s.sent := by
  rw [closeSession]
  split
  · rw [raise_sent]
  · rfl

/-- Of the open sessions those stay whose number is not among the ones closed. -/
theorem foldl_closeSession_sessions (l : List VraSession) :
    (l.foldl (fun (t : State) (y : VraSession) => t.closeSession y.id) s).acc.sessions
      = s.acc.sessions.filter fun y => l.all fun z => y.id != z.id := by
  induction l generalizing s with
  | nil => exact (List.filter_eq_self.mpr fun _ _ => rfl).symm
  | cons z l ih =>
    rw [List.foldl_cons, ih, closeSession_sessions, List.filter_filter]
    simp only [List.all_cons, Bool.and_comm]

theorem foldl_closeSession_regs (l : List VraSession) :
    RegsBut [Reg.SEQ_COALESCED] s (l.foldl (fun (t : State) (y : VraSession) => t.closeSession y.id) s) := by
  induction l generalizing s with
  | nil => exact fun _ _ => rfl
  | cons z l ih => exact fun r hr => (ih r hr).trans (closeSession_regs r hr)

/-- Closing every open session leaves none. -/
theorem closeAll_sessions :
    (s.acc.sessions.foldl (fun (t : State) (y : VraSession) => t.closeSession y.id) s).acc.sessions = [] := by
  rw [foldl_closeSession_sessions, List.filter_eq_nil_iff]
  intro y hy h
  simpa using List.all_eq_true.mp h y hy

/-! ### What an answer changes (R57) -/

theorem vraOut_sent : (s.vraOut p ip sp b).sent
    = ⟨.eth p, 0xA004, 7 :: (s.record.map (·.vlan)).getD 0 :: ip :: sp :: b⟩ :: s.sent := rfl

theorem vraOut_acc : (s.vraOut p ip sp b).acc = s.acc := rfl

theorem getReg_vraOut {r : Nat} (h : r ≠ Reg.ETH_FRAMES_TX p) : (s.vraOut p ip sp b).getReg r = s.getReg r := by
  rw [vraOut, ethOut, getReg_emit, getReg_countReg, if_neg h]

/-! ### Datagrams of an open session (R55 to R58) -/

/-- What a datagram that a session takes has passed. -/
structure TakenBy (s : State) (cls p ip : Nat) (b : List Nat) (x : VraSession) : Prop where
  live : s.live = true
  port : p < 2
  enabled : bitOf (s.getReg Reg.SYS_VRA_CTL) 0 = true
  source : ip ∉ s.acc.blocked
  class_eq : vraClass b = cls
  found : s.acc.sessions.find? (·.id == beAt b 4 2) = some x
  tag : tagOk x.key b = true
  next : x.seq < beAt b 8 4
  form : vraFault b = 0

theorem takenBy_iff {cls : Nat} : s.vraAccepts cls p ip b x = true ↔ TakenBy s cls p ip b x := by
  simp only [vraAccepts, Bool.and_eq_true, decide_eq_true_eq, Bool.not_eq_true', beq_iff_eq, List.contains_eq_mem,
    decide_eq_false_iff_not, and_assoc]
  exact ⟨fun ⟨h1, h2, h3, h4, h5, h6, h7, h8, h9⟩ => ⟨h1, h2, h3, h4, h5, h6, h7, h8, h9⟩,
    fun ⟨h1, h2, h3, h4, h5, h6, h7, h8, h9⟩ => ⟨h1, h2, h3, h4, h5, h6, h7, h8, h9⟩⟩

theorem TakenBy.mem {cls : Nat} (h : TakenBy s cls p ip b x) : x ∈ s.acc.sessions := List.mem_of_find?_eq_some h.found

/-- Where VRA is on and the source is not blocked, a datagram of the row's class is an OPEN or one of a session. -/
theorem vraIn_reached {cls : Nat} (hl : s.live = true) (hp : p < 2) (he : bitOf (s.getReg Reg.SYS_VRA_CTL) 0 = true)
    (hs : ip ∉ s.acc.blocked) (hc : vraClass b = cls) :
    s.vraIn cls p ip sp b = if cls = 1 then s.vraOpen p ip sp b else s.vraSession p ip sp b := by
  simp [vraIn, hl, hc, he, Nat.not_le.mpr hp, hs]

/-- A datagram that its session takes ends the session or is a request on it. -/
theorem vraIn_taken {cls : Nat} (h : TakenBy s cls p ip b x) (hc : cls ≠ 1) (ht : beAt b 3 1 = 5 ∨ beAt b 3 1 = 3) :
    s.vraIn cls p ip sp b = if beAt b 3 1 = 5
      then (s.closeSession x.id).vraOut p ip sp (vraBytes x.key 0x05 x.id (beAt b 8 4) 0 [])
      else (s.vraTouch x.id).vraRequest p ip sp x b := by
  have hseq : ¬ beAt b 8 4 ≤ x.seq := Nat.not_le.mpr h.next
  rw [vraIn_reached h.live h.port h.enabled h.source h.class_eq, if_neg hc, vraSession, h.found]
  rcases ht with ht | ht <;> simp [h.tag, h.form, hseq, ht]

/-- A session's request has been answered: it keeps the request's SEQUENCE and tag, and the reply (R56). -/
def vraAnswered (s : State) (x : VraSession) (b reply : List Nat) : State :=
  { s with acc := { s.acc with sessions := s.acc.sessions.map fun y =>
      if y.id == x.id then { y with seq := beAt b 8 4, tag := vraTag b, reply := reply } else y } }

theorem vraAnswered_seq {reply : List Nat} : ∀ y ∈ (s.vraAnswered x b reply).acc.sessions, y.id = x.id → y.seq = beAt b 8 4 := by
  intro y hy hid
  obtain ⟨z, -, rfl⟩ := List.mem_map.mp hy
  by_cases hz : z.id = x.id
  · rw [if_pos (by simpa using hz)]
  · rw [if_neg (by simpa using hz)] at hid
    exact absurd hid hz

/-- The reply to a request of one operation, with its STATUS and the words it returns (R58). -/
def vraReply (x : VraSession) (b : List Nat) (o : VraOp) (st : Nat) (vs : List Nat) : List Nat :=
  vraBytes x.key 0x04 x.id (beAt b 8 4) 1 ([st, 0] ++ beBytes 2 o.words ++ beBytes 4 o.addr ++ vs.flatMap (beBytes 4))

/-- One word fits into a reply. -/
theorem size_oneWord {o : VraOp} (h : o.words = 1) : o.size ≤ 1400 := by
  rw [VraOp.size, h]; split <;> omega

/-- A request of one operation whose reply has room is carried out and answered. -/
theorem vraRequest_one {o : VraOp} {st : Nat} {vs : List Nat} {u : State}
    (hops : vraOps (beAt b 12 2) ((vraMsg b).drop 16) = some [o]) (hsize : o.size ≤ 1400)
    (hdo : s.vraDo x.level o = (st, vs, u)) (hl : u.live = true) :
    s.vraRequest p ip sp x b = (u.vraAnswered x b (vraReply x b o st vs)).vraOut p ip sp (vraReply x b o st vs) := by
  have hs : ¬ 1400 < ([o].map VraOp.size).sum := by simpa using hsize
  have hrun : s.vraRun x.level false [o]
      = ([st, 0] ++ beBytes 2 o.words ++ beBytes 4 o.addr ++ vs.flatMap (beBytes 4), u) := by
    simp [vraRun, hdo]
  rw [vraRequest, hops]
  dsimp only
  rw [if_neg hs, hrun]
  dsimp only
  rw [if_pos hl]
  rfl

/-- What a request of one operation does whose operation leads from the state with the request's arrival noted to `u`. -/
theorem vraIn_request {cls : Nat} {o : VraOp} {st : Nat} {vs : List Nat} {u : State} (h : TakenBy s cls p ip b x) (hc : cls ≠ 1)
    (ht : beAt b 3 1 = 3) (hops : vraOps (beAt b 12 2) ((vraMsg b).drop 16) = some [o]) (hsize : o.size ≤ 1400)
    (hdo : (s.vraTouch x.id).vraDo x.level o = (st, vs, u)) (hl : u.live = true) :
    s.vraIn cls p ip sp b = (u.vraAnswered x b (vraReply x b o st vs)).vraOut p ip sp (vraReply x b o st vs) := by
  rw [vraIn_taken h hc (.inr ht), if_neg (by omega), vraRequest_one hops hsize hdo hl]

/-! ### The operations of a request (R58, R59) -/

/-- No register of a Folio has bits that a read clears. -/
theorem rcMask_folio {a : Nat} (ho : a % 0x1000 < 0x20) : rcMask a = 0 := by
  have past (q : Nat) : ∀ r ∈ accOf q, 0x20 ≤ r.off := by
    by_cases hq : q < 35
    · revert q; decide +kernel
    · have ne (k : Nat) (hk : k < 35) : (q == k) = false := by rw [beq_eq_false_iff_ne]; omega
      simp (disch := decide) [accOf, ne, -beq_iff_eq]
  have hs : (a == Reg.LOOP_SEL_STATUS) = false := by
    rw [beq_eq_false_iff_ne]; rintro rfl; exact absurd ho (by decide)
  rw [rcMask, hs, accAt, List.find?_eq_none.mpr fun r hr => ?_]
  · rfl
  · have := past _ r hr
    simp [show ¬ r.off ≤ a % 0x1000 by omega]

/-- Where a register has no RC bit, a read returns 32 bits of what it finds. -/
theorem rcValue_mod {a v : Nat} (hr : rcMask a = 0) : s.rcValue a v % 2 ^ 32 = v % 2 ^ 32 := by
  rw [rcValue, hr]
  split
  · rw [Nat.and_zero, Nat.or_zero, show (0xFFFFFFFF ^^^ 0 : Nat) = 2 ^ 32 - 1 from rfl, Nat.and_two_pow_sub_one_eq_mod, Nat.mod_mod]
  · rfl

theorem beBytes_mod {v : Nat} : beBytes 4 (v % 2 ^ 32) = beBytes 4 v := by
  simp only [beBytes, leBytes, List.reverse_inj, List.cons.injEq, and_true]
  omega

/-- A READ of one word of a Folio: the word, and the state as it was. -/
theorem vraDo_readFolio {a level : Nat} (ha : a % 4 = 0) (hi : inPages a = true) (ho : a % 0x1000 < 0x20)
    (hv : pagePresent s.variant (pageOf a) = true) (hl : s.latched 3 a = none) :
    s.vraDo level ⟨1, 1, a, []⟩ = (St.ok, [s.rcValue a (s.peek a)], s) := by
  have hr : s.readAny 3 a 4 = (St.ok, s.rcValue a (s.peek a), s) := by
    rw [readAny_page (pmpOk_host (by decide)) (readable_of_inPages (by decide) hi) ha hi hv, readWord_folio ho hl]
  simp [vraDo, VraOp.aligned, vraRead, ha, hr]

/-- The sessions that may write a page's EVENT_EN (R53). -/
theorem levelOk_eventEn {level q v : Nat} (hq : q < 35) (h : level = 3 ∨ (level = 2 ∧ q ≠ Pg.UPD)) :
    levelOk level (Folio.EVENT_EN q) v = true := by
  obtain ⟨hi, hg, ho⟩ := folio_address (o := 0x10) hq (by decide)
  have hk : keyOf (Folio.EVENT_EN q) v = none :=
    keyOf_folio (Nat.lt_of_le_of_lt (Nat.le_of_eq ho) (by decide)) fun h => absurd (ho.symm.trans h) (by decide)
  rcases h with rfl | ⟨rfl, h⟩
  · rfl
  · simp [levelOk, hk, governing?_of_inPages hi, hg, h]

/-- A WRITE of one word to EVENT_EN on a page that the sessions own. -/
theorem vraWrite_eventEn {level q v : Nat} (hq : q < 35) (hv : pagePresent s.variant q = true) (ho : s.owns 3 q = true)
    (hlev : level = 3 ∨ (level = 2 ∧ q ≠ Pg.UPD)) :
    s.vraWrite level (Folio.EVENT_EN q) [v] = (St.ok, s.setReg (Folio.EVENT_EN q) (v % 2 ^ 32 &&& evMask q)) := by
  obtain ⟨hi, hg, hf⟩ := folio_address (o := 0x10) hq (by decide)
  have hc : s.writeCheck 3 (Folio.EVENT_EN q) (v % 2 ^ 32) = St.ok :=
    (writeCheck_eventEn hq (by decide) hv).trans (if_pos ho)
  have hw : s.writeWord 3 (Folio.EVENT_EN q) v = (St.ok, s.setReg (Folio.EVENT_EN q) (v % 2 ^ 32 &&& evMask q)) := by
    rw [writeWord_ok hc, writeAt_folio hi (by omega), hf, hg]; rfl
  simp [vraWrite, governing?_of_inPages hi, levelOk_eventEn hq hlev, hw]

theorem eventEn_aligned {q : Nat} : Folio.EVENT_EN q % 4 = 0 := by
  show (0x40000000 + q * 0x1000 + 0x10) % 4 = 0
  omega

/-- A WRITE_MASK of EVENT_EN writes the word formed from the register. -/
theorem vraDo_maskEventEn {level q k v : Nat} (hq : q < 35) (hv : pagePresent s.variant q = true) (ho : s.owns 3 q = true)
    (hlev : level = 3 ∨ (level = 2 ∧ q ≠ Pg.UPD)) :
    s.vraDo level ⟨3, 1, Folio.EVENT_EN q, [k, v]⟩ = (St.ok, [],
      s.setReg (Folio.EVENT_EN q) (masked (s.getReg (Folio.EVENT_EN q)) k v % 2 ^ 32 &&& evMask q)) := by
  obtain ⟨hi, hg, hf⟩ := folio_address (o := 0x10) hq (by decide)
  have hp : s.peek (Folio.EVENT_EN q) = s.getReg (Folio.EVENT_EN q) := by
    rw [peek_folio hi (by omega), hf, hg]
    simp [folioWord, hv]
  simp [vraDo, VraOp.aligned, eventEn_aligned, hp, vraWrite_eventEn hq hv ho hlev]

theorem vraDo_writeEventEn {level q v : Nat} (hq : q < 35) (hv : pagePresent s.variant q = true) (ho : s.owns 3 q = true)
    (hlev : level = 3 ∨ (level = 2 ∧ q ≠ Pg.UPD)) :
    s.vraDo level ⟨2, 1, Folio.EVENT_EN q, [v]⟩ = (St.ok, [], s.setReg (Folio.EVENT_EN q) (v % 2 ^ 32 &&& evMask q)) := by
  simp [vraDo, VraOp.aligned, eventEn_aligned, vraWrite_eventEn hq hv ho hlev]

/-- The session that an OPEN tagged under `k` opens: its number and the module's half of its key are free (R55). -/
def newSession (s : State) (b k : List Nat) : VraSession :=
  let id := freeId (s.acc.sessions.map (·.id)) 9 (Config.freeValue s.freeCtr % 65535 + 1)
  { id := id, level := beAt b 16 1, seq := 0, tag := [], reply := [], cycle := s.comp.cycle,
    key := hmac256 k ([0x56, 0x52, 0x41, 0x31] ++ (b.drop 20).take 16 ++ beBytes 16 (Config.freeValue (s.freeCtr + 1)) ++ beBytes 2 id) }

/-- A session is open before the others. -/
def withSession (s : State) (y : VraSession) : State := { s with acc := { s.acc with sessions := y :: s.acc.sessions } }

/-- An OPEN that passes its checks opens a session, which is an event, and is answered. -/
theorem vraOpen_taken {k : List Nat} (h1 : 1 ≤ beAt b 16 1) (h3 : beAt b 16 1 ≤ 3) (hk : s.accessKey (beAt b 16 1 - 1) = some k)
    (ht : tagOk k b = true) (hf : vraFault b = 0) (hlen : beAt b 14 2 = 20) (hn : s.acc.sessions.length < 8) :
    ∃ reply, s.vraOpen p ip sp b
      = ((s.fresh.fresh.withSession (s.newSession b k)).raise Ev.SYS_VRA_SESSION).vraOut p ip sp reply := by
  have hlev : (decide (1 ≤ beAt b 16 1) && decide (beAt b 16 1 ≤ 3)) = true := by simp [h1, h3]
  rw [vraOpen]
  dsimp only
  rw [if_pos hlev, hk]
  dsimp only
  rw [if_neg (by simp [ht]), if_neg (by simp [hf]), if_neg (by simp [hlen]), if_neg (by omega)]
  exact ⟨_, rfl⟩

end State

/-! ### The commands (R55, R57, R58, R62) -/

section Sessions

variable {s : State} {p ip sp : Nat} {b : List Nat} {x : VraSession}

theorem exec_vraClose : exec (.vraClose p ip sp b) s = .next (s.vraIn 5 p ip sp b) := rfl

theorem exec_vraOpen : exec (.vraOpen p ip sp b) s = .next (s.vraIn 1 p ip sp b) := rfl

theorem says_vraIdleTimeout : Says.vraIdleTimeout := by
  intro s id hl ho hc
  have hn : s.acc.sessions.any (fun y => y.id == id && y.cycle == s.comp.cycle) = false := by
    simpa [List.any_eq_false] using hc
  have hx : exec (.vraIdleTimeout id) s = .next (s.closeSession id) := congrArg Host.Outcome.next (if_pos (by simp [hl, hn]))
  exact ⟨_, hx, fun y => by simp [State.closeSession_sessions], State.closeSession_added ho, State.closeSession_regs⟩

theorem says_vraIdleTimeout_arrival : Says.vraIdleTimeout_arrival :=
  fun s _ _ hc => ⟨s, congrArg Host.Outcome.next (if_neg (by simp [hc])), rfl⟩

theorem says_vraSourceBlockEnd : Says.vraSourceBlockEnd := by
  intro s ip hl
  exact ⟨_, congrArg Host.Outcome.next (if_pos hl), fun y => by simp, rfl, rfl⟩

theorem says_vraClose : Says.vraClose := by
  intro s p ip sp b x h ht
  have h := State.takenBy_iff.mp h
  refine ⟨_, by rw [exec_vraClose,
    State.vraIn_taken h (by decide) (.inl ht), if_pos ht], fun y => ?_, ?_, ?_, rfl, fun r hr => ?_⟩
  · rw [State.vraOut_acc, State.closeSession_sessions]; simp
  · exact State.closeSession_added (List.any_eq_true.mpr ⟨x, h.mem, beq_self_eq_true _⟩)
  · rw [State.vraOut_sent, List.tail_cons, State.closeSession_sent]
  · simp only [List.mem_cons, List.not_mem_nil, or_false, not_or] at hr
    rw [State.getReg_vraOut hr.1, State.closeSession_regs r (by simpa using hr.2)]

theorem says_vraOpen : Says.vraOpen := by
  intro s p ip sp b k hl hp he hs hc h1 h3 hk ht hf hlen hn
  obtain ⟨reply, hx⟩ := State.vraOpen_taken (p := p) (ip := ip) (sp := sp) h1 h3 hk ht hf hlen hn
  refine ⟨_, by rw [exec_vraOpen,
    State.vraIn_reached hl hp he hs hc, if_pos rfl, hx], ?_, ?_, ?_, ?_, rfl, fun r hr => ?_⟩
  · rw [State.vraOut_acc, State.raise_acc]; rfl
  · rw [State.vraOut_acc, State.raise_acc]; rfl
  · exact (Added_raise (pagePresent_sys _)).of_waits fun _ => rfl
  · rw [State.vraOut_sent, List.tail_cons, State.raise_sent]; rfl
  · simp only [List.mem_cons, List.not_mem_nil, or_false, not_or] at hr
    rw [State.getReg_vraOut hr.1, State.getReg_raise _ _ _ hr.2]; rfl

theorem says_vraRead : Says.vraRead := by
  intro s p ip sp b x a h ht hops ha hi ho hv hl
  have h := State.takenBy_iff.mp h
  have hdo := State.vraDo_readFolio (s := s.vraTouch x.id) (level := x.level) ha hi ho hv hl
  have hpeek : (s.vraTouch x.id).peek a = s.peek a := by
    rw [State.peek_folio hi ho, State.peek_folio hi ho]; rfl
  have hx := State.vraIn_request (sp := sp) h (by decide) ht hops (State.size_oneWord rfl) hdo h.live
  refine ⟨_, congrArg Host.Outcome.next hx, ?_, State.vraAnswered_seq, fun r hr => ?_⟩
  · have hw : beBytes 4 ((s.vraTouch x.id).rcValue a ((s.vraTouch x.id).peek a)) = beBytes 4 (s.peek a) := by
      rw [← State.beBytes_mod, State.rcValue_mod (State.rcMask_folio ho), State.beBytes_mod, hpeek]
    rw [State.vraOut_sent, State.vraReply]
    simp only [List.flatMap_cons, List.flatMap_nil, List.append_nil, hw]
    rfl
  · simp only [List.mem_cons, List.not_mem_nil, or_false, not_or] at hr
    rw [State.getReg_vraOut hr.2]; rfl

/-- What a request that writes EVENT_EN leaves: the register, the session and an answer. -/
theorem eventEnWritten {cls q w : Nat} {o : VraOp} (h : State.TakenBy s cls p ip b x) (hc : cls ≠ 1) (ht : beAt b 3 1 = 3)
    (hops : vraOps (beAt b 12 2) ((vraMsg b).drop 16) = some [o]) (hsize : o.size ≤ 1400)
    (hdo : (s.vraTouch x.id).vraDo x.level o = (St.ok, [], (s.vraTouch x.id).setReg (Folio.EVENT_EN q) (w % 2 ^ 32 &&& evMask q))) :
    ∃ t, s.vraIn cls p ip sp b = t ∧ t.getReg (Folio.EVENT_EN q) = w % 2 ^ 32 &&& evMask q ∧
      (∀ y ∈ t.acc.sessions, y.id = x.id → y.seq = beAt b 8 4) ∧
      t.sent.tail = s.sent ∧ t.sent.head?.map (fun m => (m.port, m.code)) = some (.eth p, 0xA004) ∧
      RegsBut [Folio.EVENT_EN q, Reg.ETH_FRAMES_TX p] s t := by
  have hset (r : Nat) : ((s.vraTouch x.id).setReg (Folio.EVENT_EN q) (w % 2 ^ 32 &&& evMask q)).getReg r
      = if r = Folio.EVENT_EN q then (w % 2 ^ 32 &&& evMask q) % 2 ^ 32 else s.getReg r := State.getReg_setReg ..
  have hne : Folio.EVENT_EN q ≠ Reg.ETH_FRAMES_TX p := by
    show 0x40000000 + q * 0x1000 + 0x10 ≠ 0x40019068 + p * 0x1000
    omega
  refine ⟨_, State.vraIn_request h hc ht hops hsize hdo h.live, ?_, State.vraAnswered_seq, rfl, rfl, fun r hr => ?_⟩
  · rw [State.getReg_vraOut hne]
    refine (hset _).trans ((if_pos rfl).trans (Nat.mod_eq_of_lt ?_))
    exact Nat.lt_of_le_of_lt Nat.and_le_left (Nat.mod_lt _ (by decide))
  · simp only [List.mem_cons, List.not_mem_nil, or_false, not_or] at hr
    rw [State.getReg_vraOut hr.2]
    exact (hset r).trans (if_neg hr.1)

theorem says_vraWrite : Says.vraWrite := by
  intro s p ip sp b x q v h ht hops hq hv ho hlev
  obtain ⟨t, hx, h1, h2, h3, h4, h5⟩ := eventEnWritten (sp := sp) (w := v) (State.takenBy_iff.mp h) (by decide) ht hops (State.size_oneWord rfl)
    (State.vraDo_writeEventEn hq hv ho hlev)
  exact ⟨t, congrArg Host.Outcome.next hx, h1, h2, h3, h4, h5⟩

theorem says_vraWriteMask : Says.vraWriteMask := by
  intro s p ip sp b x q k v h ht hops hq hv ho hlev
  obtain ⟨t, hx, h1, h2, h3, h4, h5⟩ := eventEnWritten (sp := sp) (State.takenBy_iff.mp h) (by decide) ht hops (State.size_oneWord rfl)
    (State.vraDo_maskEventEn hq hv ho hlev)
  exact ⟨t, congrArg Host.Outcome.next hx, h1, h2, h3, h4, h5⟩

/-! ### SYS.VRA_CTL (R62) -/

theorem exec_vraCtlWrite {m v : Nat} (hl : s.live = true) :
    exec (.vraCtlWrite m v) s = .next (s.writeAny m Reg.SYS_VRA_CTL 4 v).2 :=
  congrArg Host.Outcome.next (if_pos hl)

/-- SYS.VRA_CTL takes the keyed write of a master whose OWNER bit is set. -/
theorem writeCheck_vraCtl {m v : Nat} (hm : m < 4) (ho : s.owns m Pg.SYS = true) (hk : s.keyOk m Pg.SYS 0x6B19 = true) :
    s.writeCheck m Reg.SYS_VRA_CTL v = St.ok := by
  have h5 : m ≠ 5 := by omega
  have hg : governing? Reg.SYS_VRA_CTL = some Pg.SYS := by decide
  have hkey : keyOf Reg.SYS_VRA_CTL v = some (0x6B19, Ev.SYS_OWNER_DENIED) := rfl
  have hso : (accAt Reg.SYS_VRA_CTL).so = 0 := by decide
  have hO : Reg.SYS_VRA_CTL % 0x1000 ≠ 0x14 := by decide
  have hL : Reg.SYS_VRA_CTL % 0x1000 ≠ 0x18 := by decide
  have hW : Reg.SYS_VRA_CTL ≠ Reg.CLK_WDG_KICK := by decide
  simp [State.writeCheck, hg, hkey, hk, pagePresent_sys, h5, hO, hL, hW, ho, hso]

/-- A plain write takes bit 0 of SYS.VRA_CTL as written: ENABLE has no range, and no occurrence sets it. -/
theorem putRw_vraCtl_enable {v : Nat} : (s.putRw Reg.SYS_VRA_CTL v).getF Fld.SYS_VRA_CTL_ENABLE = v % 2 := by
  have hr : rangesOf Reg.SYS_VRA_CTL = [⟨⟨Reg.SYS_VRA_CTL, 31, 16⟩, 10, 3600, 1⟩] := by decide
  have ha : accAt Reg.SYS_VRA_CTL = ⟨0x068, 4, 1, 0xFFFF0001, 0x0, 0x0, 0x0, 0x0⟩ := by decide
  have hin (old new : Nat) : (inRanges (rangesOf Reg.SYS_VRA_CTL) old new).testBit 0 = new.testBit 0 := by
    rw [hr, inRanges, List.foldl_cons, List.foldl_nil]
    dsimp only
    split
    · rfl
    · rw [testBit_putBits (by decide), if_neg (by decide)]
  have hbit : ((s.putRw Reg.SYS_VRA_CTL v).getReg Reg.SYS_VRA_CTL).testBit 0 = v.testBit 0 := by
    rw [State.putRw, ha, State.getReg_setReg, if_pos rfl, Nat.testBit_mod_two_pow]
    simp only [without, Nat.testBit_and, Nat.testBit_or, Nat.testBit_xor, hin]
    simp
  have : (s.putRw Reg.SYS_VRA_CTL v).getReg Reg.SYS_VRA_CTL % 2 = v % 2 := by
    rw [Nat.testBit_zero, Nat.testBit_zero, decide_eq_decide] at hbit
    omega
  exact this

theorem putRw_regs {a v : Nat} : RegsBut [a] s (s.putRw a v) := fun r hr => by
  rw [State.putRw, State.getReg_setReg, if_neg (by simpa using hr)]

/-- The word written to SYS.VRA_CTL, its key used up. -/
def State.vraCtlPut (s : State) (v : Nat) : State := (s.clearKey Pg.SYS).putRw Reg.SYS_VRA_CTL v

theorem State.vraCtlPut_effect {v : Nat} : (s.vraCtlPut v).getF Fld.SYS_VRA_CTL_ENABLE = v % 2 ∧
    (s.vraCtlPut v).getF (Folio.LOCK_KEY Pg.SYS) = 0 ∧ RegsBut [Folio.LOCK Pg.SYS, Reg.SYS_VRA_CTL] s (s.vraCtlPut v) := by
  have hput (r : Nat) (h : r ≠ Reg.SYS_VRA_CTL) : (s.vraCtlPut v).getReg r = (s.clearKey Pg.SYS).getReg r :=
    putRw_regs r (by simpa using h)
  refine ⟨putRw_vraCtl_enable, ?_, fun r hr => ?_⟩
  · rw [getF, hput _ (by decide)]; exact getF_clearKey
  · simp only [List.mem_cons, List.not_mem_nil, or_false, not_or] at hr
    rw [hput r hr.2, getReg_clearKey hr.1]

/-- A write of SYS.VRA_CTL that clears ENABLE ends every session. -/
theorem State.writeAt_vraCtl {m v : Nat} : s.writeAt m Reg.SYS_VRA_CTL v = if bitOf v 0 = true then s.vraCtlPut v
    else (s.vraCtlPut v).acc.sessions.foldl (fun (t : State) (y : VraSession) => t.closeSession y.id) (s.vraCtlPut v) := rfl

theorem State.writeAt_vraCtl_effect {m v : Nat} : RegsBut [Reg.SEQ_COALESCED] (s.vraCtlPut v) (s.writeAt m Reg.SYS_VRA_CTL v) ∧
    (v % 2 = 1 → (s.writeAt m Reg.SYS_VRA_CTL v).acc.sessions = s.acc.sessions) ∧
    (v % 2 = 0 → (s.writeAt m Reg.SYS_VRA_CTL v).acc.sessions = []) := by
  have hb : bitOf v 0 = true ↔ v % 2 = 1 := by rw [bitOf, Nat.testBit_zero, decide_eq_true_eq]
  rw [writeAt_vraCtl]
  split
  · next h => exact ⟨fun _ _ => rfl, fun _ => rfl, fun h0 => by rw [hb] at h; omega⟩
  · next h => exact ⟨foldl_closeSession_regs _, fun h1 => absurd (hb.mpr h1) h, fun _ => closeAll_sessions⟩

theorem says_vraCtlWrite : Says.vraCtlWrite := by
  intro s m v hl hm ho hk hu
  have hv : v % 2 ^ 32 % 2 = v % 2 := by omega
  obtain ⟨hen, hkey, hput⟩ := s.vraCtlPut_effect (v := v % 2 ^ 32)
  obtain ⟨hregs, hon, hoff⟩ := s.writeAt_vraCtl_effect (m := m) (v := v % 2 ^ 32)
  rw [hv] at hen hon hoff
  refine ⟨_, by rw [exec_vraCtlWrite hl, State.writeAny_page (by decide) (by decide) hm hu,
    State.writeWord_ok (writeCheck_vraCtl hm ho hk)], ?_, ?_, hon, hoff, fun r hr => ?_⟩
  · rw [State.getF, hregs _ (by decide)]; exact hen
  · rw [State.getF, hregs _ (by decide)]; exact hkey
  · simp only [List.mem_cons, List.not_mem_nil, or_false, not_or] at hr
    obtain ⟨h1, h2, h3⟩ := hr
    rw [hregs r (by simpa using h3), hput r (by simp [h1, h2])]

end Sessions

/-- Settles O13: one lemma for each clause. -/
theorem uartAndVraAccess : Obligations.UartAndVraAccess :=
  ⟨says_uartRd, says_uartRd_long, says_uartWr, says_uartWr_long, says_vraIdleTimeout, says_vraIdleTimeout_arrival,
    says_vraSourceBlockEnd, says_vraClose, says_vraRead, says_vraOpen, says_vraWrite, says_vraWriteMask, says_vraCtlWrite⟩

end Sys2Proof.Machine

/-! PROOF. What a write of a register or field, an event and a keyed write add to a state, as steps of a chain of writes; and from
these the restarts by register, the address walk and the pins (R74, R78 to R86): the clauses of RESTART_WARM, RESTART_COLD,
ADDR_SET, OFFER, CLEAR, END, TAKEN, TAKEN_TIMEOUT, ADDR_IN_CHANGE, ROLE_SEL_SAMPLE and GPIO_CHANGE. -/

namespace Sys2Proof.Machine

/-! ### Which registers a chain of writes reaches -/

namespace RegsBut

variable {rs : List Nat} {s t u : State} {a p n cls : Nat}

theorem refl (rs : List Nat) (s : State) : RegsBut rs s s := fun _ _ => rfl

theorem setReg (h : RegsBut rs s t) (ha : a ∈ rs) (v : Nat) : RegsBut rs s (t.setReg a v) := fun b hb => by
  rw [State.getReg_setReg, if_neg (ne_of_mem_of_not_mem ha hb).symm, h b hb]

theorem setF (h : RegsBut rs s t) {f : Fld} (hf : f.addr ∈ rs) (v : Nat) : RegsBut rs s (t.setF f v) := h.setReg hf _

theorem setB (h : RegsBut rs s t) {f : Fld} (hf : f.addr ∈ rs) (b : Bool) : RegsBut rs s (t.setB f b) := h.setReg hf _

theorem raiseC (h : RegsBut rs s t) (hc : Reg.SEQ_COALESCED ∈ rs) (e : Ev) (c a : Nat) : RegsBut rs s (t.raiseC e c a) :=
  fun b hb => by rw [State.getReg_raiseC _ _ _ _ _ (ne_of_mem_of_not_mem hc hb).symm, h b hb]

theorem raise (h : RegsBut rs s t) (hc : Reg.SEQ_COALESCED ∈ rs) (e : Ev) : RegsBut rs s (t.raise e) := h.raiseC hc _ _ _

theorem raiseInt (h : RegsBut rs s t) (hc : Reg.SEQ_COALESCED ∈ rs) (p n cls : Nat) : RegsBut rs s (t.raiseInt p n cls) :=
  h.raiseC hc _ _ _

theorem raiseIf (h : RegsBut rs s t) (hc : Reg.SEQ_COALESCED ∈ rs) (c : Bool) (e : Ev) : RegsBut rs s (t.raiseIf c e) :=
  fun b hb => by rw [State.getReg_raiseIf _ _ _ _ (ne_of_mem_of_not_mem hc hb).symm, h b hb]

theorem clearKey (h : RegsBut rs s t) (hp : Folio.LOCK p ∈ rs) : RegsBut rs s (t.clearKey p) := h.setReg hp _

end RegsBut

/-! ### Which events a chain of writes adds -/

namespace Added

variable {es : List Ev} {s t : State} {e : Ev}

theorem refl (s : State) : Added [] s s := fun _ => by simp

theorem raiseC (h : Added es s t) (hp : pagePresent t.variant e.page = true) (c a : Nat) : Added (es ++ [e]) s (t.raiseC e c a) :=
  fun k => by rw [State.waits_raiseC_iff _ _ _ _ _ hp, h k, List.mem_append, List.mem_singleton, or_assoc]

theorem raise (h : Added es s t) (hp : pagePresent t.variant e.page = true) : Added (es ++ [e]) s (t.raise e) := h.raiseC hp _ _

theorem raiseInt (h : Added es s t) {p : Nat} (hp : pagePresent t.variant p = true) (n cls : Nat) :
    Added (es ++ [⟨p, n⟩]) s (t.raiseInt p n cls) := h.raiseC (e := ⟨p, n⟩) hp _ _

theorem raiseIf (h : Added es s t) (hp : pagePresent t.variant e.page = true) (c : Bool) :
    Added (es ++ if c then [e] else []) s (t.raiseIf c e) := by
  cases c
  · simpa [State.raiseIf] using h
  · exact h.raise hp

end Added

/-- Every variant has an AUX page. -/
theorem pagePresent_aux (v : Variant) : pagePresent v Pg.AUX = true := by cases v <;> rfl

/-! ### One-bit fields -/

section Flags

variable {s : State} {f k : Fld} {a : Nat}

theorem State.flag_setB (hh : f.hi < 32) (hl : f.lo = f.hi) (b : Bool) : (s.setB f b).flag f = b := by
  rw [flag, setB, getF_setF _ _ _ hh (Nat.le_of_eq hl), hl, Nat.sub_self]
  cases b <;> rfl

theorem State.getF_setB_ne (h : k.addr ≠ f.addr) (b : Bool) : (s.setB f b).getF k = s.getF k := getF_setF_ne _ _ _ _ h

theorem State.flag_congr {t : State} (h : t.getReg f.addr = s.getReg f.addr) : t.flag f = s.flag f := by
  rw [flag, flag, getF, getF, h]

theorem State.getF_raiseInt {p n cls : Nat} (h : f.addr ≠ Reg.SEQ_COALESCED) : (s.raiseInt p n cls).getF f = s.getF f := by
  rw [getF, getF, getReg_raiseInt h]

theorem State.getF_clearKey_ne {p : Nat} (h : f.addr ≠ Folio.LOCK p) : (s.clearKey p).getF f = s.getF f := by
  rw [getF, getF, getReg_clearKey h]

end Flags

/-! ### Restarts by register (R74) -/

/-- A restart request waits in the Compositor, and is kept as what its grant decides. -/
theorem State.restartReq_effect (s : State) (cold : Bool) :
    (s.restartReq cold).aux = { s.aux with restartWait := some (s.aux.restartWait.getD cold) } ∧
    Added [⟨Pg.AUX, 40⟩] s (s.restartReq cold) ∧ RegsBut [Reg.SEQ_COALESCED] s (s.restartReq cold) := by
  let w : State := { s with aux := { s.aux with restartWait := some (s.aux.restartWait.getD cold) } }
  exact ⟨w.raiseC_aux .., (Added.refl s).raiseInt (t := w) (pagePresent_aux _) 40 5,
    .raiseInt (t := w) (.refl _ s) (by simp) _ _ _⟩

/-- A keyed restart uses its key up and waits for its grant. -/
theorem State.restartKeyed_effect (s : State) (cold : Bool) :
    ((s.clearKey Pg.AUX).restartReq cold).aux = { s.aux with restartWait := some (s.aux.restartWait.getD cold) } ∧
    ((s.clearKey Pg.AUX).restartReq cold).getF (Folio.LOCK_KEY Pg.AUX) = 0 ∧
    Added [⟨Pg.AUX, 40⟩] s ((s.clearKey Pg.AUX).restartReq cold) ∧
    RegsBut [Folio.LOCK Pg.AUX, Reg.SEQ_COALESCED] s ((s.clearKey Pg.AUX).restartReq cold) := by
  obtain ⟨haux, hadd, hregs⟩ := (s.clearKey Pg.AUX).restartReq_effect cold
  refine ⟨haux, ?_, hadd.of_waits waits_clearKey, fun a ha => ?_⟩
  · rw [getF, hregs _ (by decide)]
    exact getF_clearKey
  · simp only [List.mem_cons, List.not_mem_nil, or_false, not_or] at ha
    rw [hregs a (by simpa using ha.2), getReg_clearKey ha.1]

theorem says_restartWarm : Says.restartWarm := fun s _ hp =>
  ⟨(s.clearKey Pg.AUX).restartReq false, congrArg Host.Outcome.next (State.permitKeyed_ok hp), s.restartKeyed_effect false⟩

theorem says_restartCold : Says.restartCold := fun s _ hp =>
  ⟨(s.clearKey Pg.AUX).restartReq true, congrArg Host.Outcome.next (State.permitKeyed_ok hp), s.restartKeyed_effect true⟩

/-! ### The string address (R79, R80, R85) -/

/-- A new string address stands in its field, in AUX.STATUS and in its event. -/
theorem State.putAddr_effect (s : State) (a : Nat) :
    (s.putAddr a).getF Fld.AUX_ADDR_STRING_ADDR = a % 128 ∧ (s.putAddr a).flag ⟨Folio.STATUS Pg.AUX, 0, 0⟩ = decide (a ≠ 0) ∧
    Added [if a = 0 then Ev.AUX_ADDR_CLEARED else Ev.AUX_ADDR_TAKEN] s (s.putAddr a) ∧
    RegsBut [Reg.AUX_ADDR, Folio.STATUS Pg.AUX, Reg.SEQ_COALESCED] s (s.putAddr a) := by
  have hev : (if (a == 0) = true then Ev.AUX_ADDR_CLEARED else Ev.AUX_ADDR_TAKEN) =
      if a = 0 then Ev.AUX_ADDR_CLEARED else Ev.AUX_ADDR_TAKEN := by simp
  unfold putAddr
  rw [hev]
  have hpage (v : Variant) : pagePresent v (if a = 0 then Ev.AUX_ADDR_CLEARED else Ev.AUX_ADDR_TAKEN).page = true := by
    split <;> exact pagePresent_aux v
  refine ⟨?_, ?_, (Added.refl s).raise (t := (s.setFM Fld.AUX_ADDR_STRING_ADDR a).setB _ _) (hpage _), ?_⟩
  · rw [getF_raise _ _ _ (by decide), getF_setB_ne (by decide)]
    exact getF_setF s _ _ (by decide) (by decide)
  · rw [flag_congr (getReg_raise _ _ _ (by decide)), flag_setB (by decide) rfl]
    by_cases h : a = 0 <;> simp [h]
  · exact .raise (.setB (t := s.setFM Fld.AUX_ADDR_STRING_ADDR a) (.setF (.refl _ s) (by simp) _) (by simp) _) (by simp) _

theorem says_addrSet : Says.addrSet := by
  intro s m v hp hpw hv
  have hpower : (s.clearKey Pg.AUX).power = 0 := (State.getF_clearKey_ne (by decide)).trans hpw
  have hx : exec (.addrSet m v) s = .next ((s.clearKey Pg.AUX).putAddr (v % 128)) := by
    refine congrArg Host.Outcome.next ((State.permitKeyed_ok hp).trans ?_)
    show (if ((s.clearKey Pg.AUX).power != 0) = true then _ else if 120 < v % 128 then _ else
      (s.clearKey Pg.AUX).putAddr (v % 128)) = _
    rw [if_neg (by simp [hpower]), if_neg (by omega)]
  obtain ⟨haddr, hset, hadd, hregs⟩ := (s.clearKey Pg.AUX).putAddr_effect (v % 128)
  refine ⟨_, hx, by omega, ?_, hset, hadd.of_waits State.waits_clearKey, fun a ha => ?_⟩
  · rw [State.getF, hregs _ (by decide)]
    exact State.getF_clearKey
  · simp only [List.mem_cons, List.not_mem_nil, or_false, not_or] at ha
    rw [hregs a (by simpa using ha.2), State.getReg_clearKey ha.1]

/-- A controller that carries the walk. -/
theorem State.walkBus_of {s : State} {c : Nat} (hl : s.live = true) (hc : c < 2) (hb : bitOf (s.getF Fld.AUX_WALK_CTL_BUS) c = true) :
    s.walkBus c = true := by simp [walkBus, hl, hc, hb]

theorem says_offer : Says.offer := by
  intro s c a hl hc hb
  let w : State := { s.countF Fld.AUX_ADDR_OFFERS with aux := { s.aux with offers := s.aux.offers ++ [(c, a)] } }
  have hx : exec (.offer c a) s = .next (w.raiseInt Pg.AUX 42 2) := by
    refine congrArg Host.Outcome.next ?_
    show s.offerIn c a = _
    rw [State.offerIn, State.walkBus_of hl hc hb]
    rfl
  refine ⟨_, hx, w.raiseC_aux .., ?_, (Added.refl s).raiseInt (t := w) (pagePresent_aux _) 42 2,
    .raiseInt (t := w) (.setF (t := s) (.refl _ s) (by simp) _) (by simp) _ _ _⟩
  rw [State.getF_raiseInt (by decide)]
  refine (State.getF_setF s _ _ (by decide) (by decide)).trans (Nat.mod_eq_of_lt ?_)
  exact Nat.lt_of_le_of_lt (Nat.min_le_left ..) (by decide)

theorem says_clearAddr : Says.clearAddr := by
  intro s c hl hc hb hp
  let w : State := (s.putAddr 0).setB Fld.AUX_ADDR_IO_ADDR_OUT false
  have hx : exec (.clearAddr c 0xC1 0xEA) s = .next { w.emit .pin 0x20 [0] with aux := { w.aux with takenWait := none } } :=
    congrArg Host.Outcome.next (if_pos (by simp [State.walkBus_of hl hc hb, hp]))
  obtain ⟨haddr, -, hadd, hregs⟩ := s.putAddr_effect 0
  have hsent : (s.putAddr 0).sent = s.sent := State.raise_sent ..
  have haux : (s.putAddr 0).aux = s.aux := State.raise_aux ..
  refine ⟨_, hx, ?_, State.flag_setB (s := s.putAddr 0) (by decide) rfl false, hadd, ?_, ?_, ?_⟩
  · exact (State.getF_setB_ne (s := s.putAddr 0) (by decide) false).trans haddr
  · exact congrArg (_ :: ·) hsent
  · exact congrArg (fun x : AuxUnit => { x with takenWait := none }) haux
  · refine .setB (t := s.putAddr 0) (fun a ha => hregs a ?_) (by simp) false
    simp_all

theorem says_endWalk : Says.endWalk := fun s _ => ⟨s, rfl, rfl⟩

/-- A TAKEN with this module's address, neither its own nor its partner's, is a conflict. -/
theorem says_taken : Says.taken := by
  intro s c r p h l hl hc hb hn ha ho
  have hx : exec (.taken c (s.getF Fld.AUX_ADDR_STRING_ADDR) r p h l) s = .next (s.raise Ev.AUX_ADDR_CONFLICT) := by
    refine congrArg Host.Outcome.next ?_
    show s.takenIn c s.addr r p h l = _
    have h0 : (s.addr == 0) = false := by simpa [State.addr] using ha
    have hown : (h == s.getReg Reg.SYS_SERIAL_HI && l == s.getReg Reg.SYS_SERIAL_LO) = false := by
      rcases ho with ho | ho <;> simp [ho]
    simp [State.takenIn, State.walkBus_of hl hc hb, h0, hown, hn]
  exact ⟨_, hx, Added_raise (pagePresent_aux _), .raise (.refl _ s) (by simp) _⟩

theorem State.takenNow_eq {s : State} {c : Nat} (h : s.aux.takenWait = some c) :
    s.takenNow = ({ s with aux := { s.aux with takenWait := none } } : State).sendTaken c := by
  rw [takenNow, h]

/-- Requesting the TAKEN on a controller leaves the AUX unit as it was. -/
theorem State.sendTaken_aux {s : State} {c : Nat} : (s.sendTaken c).aux = s.aux :=
  have h : Kept (s.fieldWatch (2 ^ 27) fun _ => False) (s.sendTaken c) :=
    kept_sendTaken (kept_fieldWatch fun _ => False.elim) (by rw [fieldWatch_mask]; rfl)
  h.only.f24.resolve_left (show ¬ (2 ^ 27 : Nat).testBit 24 = true by decide)

theorem says_takenTimeout : Says.takenTimeout := fun _ _ hl hw =>
  ⟨_, congrArg Host.Outcome.next ((if_pos hl).trans (State.takenNow_eq hw)), State.sendTaken_aux, rfl⟩

/-! ### The pins (R80, R82, R86) -/

theorem says_addrInChange : Says.addrInChange := by
  intro s b hl
  let w : State := { s with aux := { s.aux with addrInNext := b } }
  exact ⟨w.raiseInt Pg.AUX 41 5, congrArg Host.Outcome.next (if_pos hl), w.raiseC_aux ..,
    (Added.refl s).raiseInt (t := w) (pagePresent_aux _) 41 5, .raiseInt (t := w) (.refl _ s) (by simp) _ _ _⟩

theorem says_roleSelSample : Says.roleSelSample := by
  intro s b hl
  refine ⟨_, if_pos hl, ?_, ?_, .raiseIf (.setB (.refl _ s) (by simp) b) (by simp) _ _⟩
  · rw [State.flag_congr (State.getReg_raiseIf _ _ _ _ (by decide)), State.flag_setB (by decide) rfl]
  · have h := (Added.refl s).raiseIf (t := s.setB Fld.AUX_ADDR_IO_ROLE_SEL b) (e := Ev.AUX_ROLE_SEL_CHANGED) (pagePresent_aux _)
      (s.flag Fld.AUX_ADDR_ROLE != b)
    by_cases hb : s.flag Fld.AUX_ADDR_ROLE = b <;> simpa [hb] using h

theorem putBit_lt {v i : Nat} {b : Bool} (hv : v < 2 ^ 32) (hi : i < 32) : putBit v i b < 2 ^ 32 := by
  refine Nat.lt_pow_two_of_testBit _ fun j hj => ?_
  rw [putBit, testBit_putBits (Nat.le_refl _), if_neg (by omega)]
  exact Nat.testBit_lt_two_pow (Nat.lt_of_lt_of_le hv (Nat.pow_le_pow_right (by decide) hj))

theorem says_gpioChange : Says.gpioChange := by
  intro s k b hl hk
  refine ⟨_, if_pos (by simp [hl, hk]), ?_, ?_, .raiseIf (.setReg (.refl _ s) (by simp) _) (by simp) _ _⟩
  · rw [State.getReg_raiseIf _ _ _ _ (by decide), State.getReg_setReg, if_pos rfl]
    exact Nat.mod_eq_of_lt (putBit_lt (BitVec.isLt _) (by omega))
  · have h := (Added.refl s).raiseIf (t := s.setReg Reg.AUX_GPIO_IN (putBit (s.getReg Reg.AUX_GPIO_IN) k b))
      (e := Ev.AUX_GPIO_CHANGE) (pagePresent_aux _)
      (!bitOf (s.getReg Reg.AUX_GPIO_DIR) k && bitOf (s.getReg Reg.AUX_GPIO_IN) k != b)
    simpa using h

/-- Settles O43: one lemma for each clause. -/
theorem restartsAddressesAndPins : Obligations.RestartsAddressesAndPins :=
  ⟨says_restartWarm, says_restartCold, says_addrSet, says_offer, says_clearAddr, says_endWalk, says_taken, says_takenTimeout,
    says_addrInChange, says_roleSelSample, says_gpioChange⟩

end Sys2Proof.Machine

/-! PROOF. What a reset leaves of the state apart from registers, and the cyclic program's copies and timer slots (R70, R388, R391,
R392): the clauses of PROG_SHADOW, SHADOW_SEALED, RETAIN_STORE, TMR_IN_WRITE, TMR_PT_WRITE, TMR_EXPIRY and SUPPLY_LOSS. -/

namespace Sys2Proof.Machine

/-! ### What a reset leaves (R68, R69) -/

/-- `t` differs from `s` in the register store alone. -/
structure RegsOnly (s t : State) : Prop where
  frame : t = { s with regs := t.regs }

namespace RegsOnly

variable {s t u : State}

theorem refl (s : State) : RegsOnly s s := ⟨rfl⟩

theorem setF (h : RegsOnly s t) (f : Fld) (v : Nat) : RegsOnly s (t.setF f v) :=
  ⟨congrArg (fun r : State => { r with regs := (t.setF f v).regs }) h.frame⟩

theorem ite {c : Prop} [Decidable c] (ht : RegsOnly s t) (hu : RegsOnly s u) : RegsOnly s (if c then t else u) := by
  split
  · exact ht
  · exact hu

theorem foldl {α : Type} {f : State → α → State} {l : List α} (h : RegsOnly s t)
    (step : ∀ x u, RegsOnly s u → RegsOnly s (f u x)) : RegsOnly s (l.foldl f t) := by
  induction l generalizing t with
  | nil => exact h
  | cons x l ih => exact ih (step x _ h)

end RegsOnly

namespace State

/-- After a reset nothing waits, memory reads 0 and the reset pin is driven; of the program its copies are left. -/
theorem enterReset_effect (s : State) (cause source : Nat) :
    (s.enterReset cause source).comp.waiting = [] ∧ (s.enterReset cause source).ram = [] ∧
    (s.enterReset cause source).sent = ⟨.pin, 0x00, []⟩ :: s.sent ∧
    (s.enterReset cause source).cyc.shadow = s.cyc.shadow := by
  unfold enterReset
  generalize BitVec.ofNat 32 s.hours = hours
  extract_lets _ _ _ _ _ _ _ _ _ kept filled counted named sourced
  have hf : RegsOnly kept filled := (RegsOnly.refl kept).foldl fun _ _ h => h.setF _ _
  have hs : RegsOnly kept sourced := ((hf.ite (hf.setF _ _)).setF _ _).setF _ _
  have hshadow : sourced.cyc.shadow = kept.cyc.shadow := by rw [hs.frame]
  exact ⟨congrArg (fun r : State => r.comp.waiting) hs.frame, congrArg State.ram hs.frame, congrArg State.sent hs.frame,
    hshadow⟩

end State

theorem bitOf_putBit {v i : Nat} (b : Bool) : bitOf (putBit v i b) i = b := by
  rw [bitOf, putBit, testBit_putBits (Nat.le_refl _), if_pos ⟨Nat.le_refl _, Nat.le_refl _⟩, Nat.sub_self]
  cases b <;> rfl

/-! ### Loss of supply (R70) -/

theorem State.lastWrites_record {s : State} : s.lastWrites.record = s.record :=
  have h : Kept (s.fieldWatch exceptRecord fun _ => False) s.lastWrites :=
    kept_lastWrites (kept_fieldWatch fun _ => False.elim) (by rw [fieldWatch_mask]; rfl)
  h.only.f5.resolve_left (show ¬ exceptRecord.testBit 5 = true by decide)

theorem says_supplyLoss : Says.supplyLoss := by
  intro s
  generalize hu : (if s.live = true then s.lastWrites else s) = u
  have hrecord : u.record = s.record := by
    rw [← hu]
    split
    · exact State.lastWrites_record
    · rfl
  obtain ⟨hwaiting, hram, hsent, -⟩ := u.enterReset_effect 1 0
  have hphase : (u.enterReset 1 0).phase = .held := State.enterReset_phase
  have hrecord : (u.enterReset 1 0).record = s.record := State.enterReset_record.trans hrecord
  have hx : exec .supplyLoss s =
      .next { u.enterReset 1 0 with aux := { (u.enterReset 1 0).aux with hold := putBit s.aux.hold 0 true } } := by
    rw [← hu]; rfl
  generalize u.enterReset 1 0 = r at *
  refine ⟨_, hx, hphase, bitOf_putBit true, ?_, hwaiting, fun a => ?_, hrecord⟩
  · rw [hsent]
    exact List.mem_cons_self
  · exact congrArg (fun m : Store 8 => (m.get a).toNat) hram

/-! ### Program shadow and retentive copies (R391, R392) -/

theorem says_progShadow : Says.progShadow := fun _ hl hc => ⟨_, congrArg Host.Outcome.next (if_pos (by simp [hl, hc])), rfl⟩

namespace State

variable {s : State} {c : Copy} {p : Payload}

theorem shadowOk_copyShow : s.copyShow.shadowOk = s.shadowOk := rfl

/-- CYC.SHADOW shows which copies are valid. -/
theorem copyShow_effect (s : State) : s.copyShow.cyc = s.cyc ∧ s.copyShow.flag Fld.CYC_SHADOW_SHADOW_VALID = s.shadowOk ∧
    s.copyShow.flag Fld.CYC_SHADOW_RETAIN_VALID = s.cyc.retains.any (·.sealOk) ∧ RegsBut [Reg.CYC_SHADOW] s s.copyShow := by
  refine ⟨rfl, ?_, flag_setB (by decide) rfl _, .setB (.setB (.refl _ s) (by simp) _) (by simp) _⟩
  unfold copyShow
  rw [flag, setB, getF_setF_disjoint _ _ _ _ (by decide) (by decide) (by decide) (by decide)]
  exact flag_setB (by decide) rfl _

/-- The copy being written is sealed (R391). -/
def sealShadow (s : State) (c : Copy) : State :=
  { s with cyc := { s.cyc with shadow := some { c with sealOk := true, hours := s.hours }, writing := none } }.copyShow

end State

/-- A copy is sealed, and a warm restart that waited for its own copy resets. -/
theorem exec_shadowSealed {s : State} {c : Copy} (hl : s.live = true) (hw : s.cyc.writing = some c) : exec .shadowSealed s =
    .next (match s.cyc.restart, s.cyc.shadowWant with
      | some k, false => { s.sealShadow c with cyc := { (s.sealShadow c).cyc with restart := none } }.enterReset k 0
      | _, _ => s.sealShadow c) := by
  show execShadowSealed s = _
  unfold execShadowSealed
  rw [hl, hw]
  rfl

theorem says_shadowSealed : Says.shadowSealed := by
  intro s c hl hw hr
  obtain ⟨hcyc, hvalid, -, hregs⟩ := State.copyShow_effect
    { s with cyc := { s.cyc with shadow := some { c with sealOk := true, hours := s.hours }, writing := none } }
  refine ⟨s.sealShadow c, ?_, hcyc, hvalid, hregs, .refl s⟩
  rw [exec_shadowSealed hl hw, hr]

theorem says_shadowSealed_restart : Says.shadowSealed_restart := by
  intro s c k hl hw hr hn
  obtain ⟨-, -, -, hshadow⟩ :=
    State.enterReset_effect { s.sealShadow c with cyc := { (s.sealShadow c).cyc with restart := none } } k 0
  refine ⟨_, ?_, State.enterReset_phase, hshadow⟩
  rw [exec_shadowSealed hl hw, hr, hn]

/-- RETAIN is stored where it differs from the newest sealed copy. -/
theorem exec_retainStore {s : State} {p : Payload} (hl : s.live = true) (hi : s.cyc.image = some p) : exec .retainStore s =
    .next (if (s.cyc.retains.find? (·.sealOk)).map (·.vars) = some (s.retainVars p.body) then s else s.storeRetain) := by
  show execRetainStore s = _
  unfold execRetainStore
  rw [hl, hi]
  simp only [beq_iff_eq]

theorem says_retainStore : Says.retainStore := by
  intro s p hl hi hr
  have hs : s.storeRetain = ({ s with cyc := { s.cyc with
      retains := [{ s.takeCopy p with parts := [], sealOk := true }], retainWant := false } } : State).copyShow := by
    unfold State.storeRetain
    rw [hi, hr]
    rfl
  obtain ⟨hcyc, -, hvalid, hregs⟩ := State.copyShow_effect ({ s with cyc := { s.cyc with
      retains := [{ s.takeCopy p with parts := [], sealOk := true }], retainWant := false } } : State)
  refine ⟨_, ?_, congrArg Cyclic.retains hcyc, hvalid, hregs, .refl s⟩
  rw [exec_retainStore hl hi, hr, if_neg (by simp), hs]

theorem says_retainStore_same : Says.retainStore_same := by
  intro s p c l hl hi hr hk hv
  refine ⟨s, ?_, rfl⟩
  rw [exec_retainStore hl hi, if_pos (by simp [hr, hk, hv])]

/-! ### Timer slots (R388) -/

/-- Every variant has a TMR page. -/
theorem pagePresent_tmr (v : Variant) : pagePresent v Pg.TMR = true := by cases v <;> rfl

namespace State

variable {s : State} {n i : Nat} {f : Tmr → Tmr} {x : Tmr}

theorem tmrMod_slot (h : s.cyc.tmr[n]? = some x) : (s.tmrMod n f).cyc.tmr[n]? = some (f x) := by
  simp [tmrMod, h]

theorem tmrMod_other (h : i ≠ n) : (s.tmrMod n f).cyc.tmr[i]? = s.cyc.tmr[i]? := by
  simp [tmrMod, h.symm]

/-- A slot that is declared takes IN; one that is not raises TMR_IN_IGNORED. -/
theorem tmrIn_eq {b : Bool} (h : s.cyc.tmr[n]? = some x) :
    s.tmrIn n b = if x.kind = 0 then s.raise Ev.TMR_IN_IGNORED else s.tmrMod n fun y => y.write b s.localBase := by
  rw [tmrIn, h]
  simp only [beq_iff_eq]

end State

theorem says_tmrInWrite : Says.tmrInWrite := by
  intro s m n b x hp hn hx
  have hexec : exec (.tmrInWrite m n b) s = .next (s.tmrIn n b) :=
    congrArg Host.Outcome.next ((if_pos hn).trans (State.permit_ok hp))
  refine ⟨_, hexec, fun hk => ?_, fun hk => ?_⟩
  · rw [State.tmrIn_eq hx, if_neg hk]
    exact ⟨rfl, State.tmrMod_slot hx⟩
  · rw [State.tmrIn_eq hx, if_pos hk]
    exact ⟨State.raise_cyc .., Added_raise (pagePresent_tmr _), .raise (.refl _ s) (by simp) _⟩

theorem says_tmrPtWrite : Says.tmrPtWrite := fun s _ n v _ hp hn hx =>
  ⟨s.tmrPt n v, congrArg Host.Outcome.next ((if_pos hn).trans (State.permit_ok hp)), State.tmrMod_slot hx,
    fun i _ => (Classical.em (i = n)).imp_right State.tmrMod_other, rfl⟩

theorem says_tmrExpiry : Says.tmrExpiry := fun _ _ _ hl hx =>
  ⟨_, congrArg Host.Outcome.next (if_pos hl), State.tmrMod_slot hx, rfl⟩

/-- Settles O27: one lemma for each clause. -/
theorem shadowRetainAndTimers : Obligations.ShadowRetainAndTimers :=
  ⟨says_progShadow, says_shadowSealed, says_shadowSealed_restart, says_retainStore, says_retainStore_same, says_tmrInWrite,
    says_tmrPtWrite, says_tmrExpiry, says_supplyLoss⟩

end Sys2Proof.Machine

/-! PROOF. The partner link going down (R477): PLNK.STATUS repeats the link in its bit 0, and takes part in its change. -/

namespace Sys2Proof.Machine

/-- A module of a pair whose partner link is UP, as PLNK.STATUS shows too, with the LINK path UP and the PULSE path not. -/
def partnerLinkUp : State :=
  let record : PlantRecord := {
    version := 1, regs := [], pair := true, enWired := false, cur := ⟨50, 50, 20000000, 0, 0, 0, false, false, false⟩, prioB := 0,
    ofsLim := 0, iTaper := 0, psets := [], binTable := none, flowPpl := 0, stageType := 0, osDrive := 0, keys := [], vlan := 0,
    mask := 0, positions := [] }
  (({ State.reset with phase := .up, record := some record }.setB Fld.PLNK_LINK_UP true).setB ⟨Folio.STATUS Pg.PLNK, 0, 0⟩
    true).setF Fld.PAIR_HB_LINK 1

theorem partnerLinkUp_conditions : partnerLinkUp.paired = true ∧ partnerLinkUp.flag Fld.PLNK_LINK_UP = true ∧
    partnerLinkUp.pstate ≠ Ps.holder := by decide +kernel

/-- As the link goes down PLNK.STATUS goes from 1 to 0. -/
theorem partnerLinkUp_status : partnerLinkUp.getReg (Folio.STATUS Pg.PLNK) = 1 ∧
    partnerLinkUp.plnkDown.getReg (Folio.STATUS Pg.PLNK) = 0 := by decide +kernel

theorem exec_plnkLinkDown {s : State} (hp : s.paired = true) : exec (.plnkLinkDown true) s = .next s.plnkDown :=
  congrArg Host.Outcome.next (if_pos (by simp [hp]))

/-- PLNK_LINK_DOWN changes PLNK.STATUS, which is not among the registers that its clause lets change. -/
theorem not_says_plnkLinkDown : ¬ Says.plnkLinkDown := by
  intro h
  obtain ⟨hp, hup, hholder⟩ := partnerLinkUp_conditions
  obtain ⟨hbefore, hafter⟩ := partnerLinkUp_status
  obtain ⟨t, hx, -, -, -, -, hregs⟩ := h partnerLinkUp hp hup hholder
  obtain rfl : partnerLinkUp.plnkDown = t := Host.Outcome.next.inj ((exec_plnkLinkDown hp).symm.trans hx)
  have hsame := hregs (Folio.STATUS Pg.PLNK) (by decide)
  rw [hbefore, hafter] at hsame
  exact absurd hsame (by decide)

/-- Refutes O35: its clause of PLNK_LINK_DOWN leaves PLNK.STATUS as it was, whose bit 0 the command clears (R477). -/
theorem not_partnerLinkAndClockMonitor : ¬ Obligations.PartnerLinkAndClockMonitor := fun h => by
  obtain ⟨-, -, -, hdown, -⟩ := h
  exact not_says_plnkLinkDown hdown

end Sys2Proof.Machine

/-! PROOF. Reset and start (R70 to R76): which operations of step 8 leave CURRENT of MODE.STATE as it was, what the start-up sequence
keeps of the phase, the time and the Plant Record from its first step to its last; and from these the clauses of POWER_ON,
RESET_N_ASSERT, RESET_N_RELEASE, RESET_RELEASE, PLL_LOCK_RETRY, SVC_DEBOUNCED_CLOSE, SVC_DEBOUNCED_OPEN and SVC_STUCK. -/

namespace Sys2Proof.Machine

/-! ### Operations of step 8 that leave CURRENT and TARGET as they were (R75, R389) -/

namespace SameFront

variable {s t : State}

theorem upd (h : SameFront s t) (x : Upd) : SameFront s { t with upd := x } := ⟨h.reads⟩

theorem setBytes (h : SameFront s t) (a : Nat) (l : List Nat) : SameFront s (t.setBytes a l) := ⟨h.reads⟩

theorem loadSegs (h : SameFront s t) (b kinds : List Nat) : SameFront s (t.loadSegs b kinds) :=
  h.foldl fun _ _ hu => hu.setBytes _ _

theorem putRetain (h : SameFront s t) (b : List Nat) (vars : List (Nat × List Nat)) : SameFront s (t.putRetain b vars) := by
  unfold State.putRetain
  split
  · exact h
  · refine h.foldl fun r u hu => ?_
    split
    · exact hu.setBytes _ _
    · exact hu

theorem restoreRetain (h : SameFront s t) (b : List Nat) : SameFront s (t.restoreRetain b) := by
  unfold State.restoreRetain
  split
  · exact h.putRetain _ _
  · exact h.raise _

theorem startRetain (h : SameFront s t) (b : List Nat) : SameFront s (t.startRetain b) :=
  .setF (.cyc (.restoreRetain (.loadSegs h _ _) _) _) (by decide) _

theorem copyShow (h : SameFront s t) : SameFront s t.copyShow := .setB (.setB h (by decide) _) (by decide) _

theorem updShow (h : SameFront s t) : SameFront s t.updShow :=
  .setReg (.setF (.setF (.setF h (by decide) _) (by decide) _) (by decide) _) (by decide) _

theorem updKind (h : SameFront s t) (p : Payload) (fail : Option Nat) : SameFront s (t.updKind p fail) := by
  unfold State.updKind
  extract_lets _ u s1 s2 s3
  have h1 : SameFront s s1 := by
    unfold s1
    split
    · exact h.upd _
    · exact .raise (.setF (.upd h _) (by decide) _) _
  have h2 : SameFront s s2 := .galClose (.galClose h1 _ _) _ _
  exact .updShow (.ite h1 (.ite h2 (.raise (.setF h2 (by decide) _) _)))

theorem pwmRefresh (h : SameFront s t) : SameFront s t.pwmRefresh := by
  have h1 := h.setF (f := ⟨Reg.DRV_PWM_STATUS, 6, 0⟩) (by decide) t.pwmCauses
  exact .ite (.raise (.setB h1 (by decide) _) _) h1

theorem pullEn (h : SameFront s t) : SameFront s t.pullEn :=
  .emit (.setB (.setB (.setB (.setB h (by decide) _) (by decide) _) (by decide) _) (by decide) _) _ _ _

theorem loadBegin (h : SameFront s t) (p : Payload) : SameFront s (t.loadBegin p) :=
  .upd (.driveMsg (.pullEn (.pwmRefresh (.drv (.driveMsg h _ _) _))) _ _) _

end SameFront

namespace SameCourse

variable {s t : State}

theorem cycState (h : SameCourse s t) (v : Nat) : SameCourse s (t.cycState v) := by
  unfold State.cycState
  extract_lets _ s1 s2 _ _ _ s3 s4
  have h3 : SameFront t s3 := .cyc (.raiseIf (.raise (.setF (.setF (.refl t) (by decide) _) (by decide) _) _) _ _) _
  have h4 : SameCourse s s4 := .ite (.dropCause (h.front h3) _) (h.front h3)
  refine .ite h ?_
  split
  · exact h4.front (.cyc (.refl _) _)
  · exact h4

theorem startAt (h : SameCourse s t) (b : List Nat) (entry : Option Nat) : SameCourse s (t.startAt b entry) :=
  .cycState (h.front (.setF (.setF (.cyc (.refl t) _) (by decide) _) (by decide) _)) _

theorem cycStart (h : SameCourse s t) (kind : Nat) : SameCourse s (t.cycStart kind) := by
  unfold State.cycStart
  split
  · exact h
  · dsimp only
    split
    · split
      · exact .startAt (h.front (.setF (.cyc (.foldl (.loadSegs (.refl t) _ _) fun _ _ hu => hu.setBytes _ _) _) (by decide) _)) _ _
      · exact .startAt (h.front (.startRetain (.raise (.refl t) _) _)) _ _
    · exact .startAt (h.front (.setF (.refl t) (by decide) _)) _ _
    · exact .startAt (h.front (.startRetain (.refl t) _)) _ _
    · exact .startAt (h.front (.startRetain (.refl t) _)) _ _
    · exact .startAt (h.front (.setF (.cyc (.loadSegs (.copyShow (.cyc (.refl t) _)) _ _) _) (by decide) _)) _ _

theorem autorun (h : SameCourse s t) : SameCourse s t.autorun := by
  unfold State.autorun
  refine .ite ?_ h
  split <;> exact h.cycStart _

/-- A state of the monitor but ALARM takes its cause away. -/
theorem imdState (h : SameCourse s t) {st : Nat} (hst : st ≠ 3) : SameCourse s (t.imdState st) := by
  rw [State.imdState, State.holdCause, if_neg (by simpa using hst)]
  exact .dropCause (h.front (.setF (.refl t) (by decide) _)) _

end SameCourse

/-- What the monitor reports whatever it measures is never ALARM. -/
theorem State.imdShown_ne_alarm {s : State} {st : Nat} (h : s.imdShown = some st) : st ≠ 3 := by
  unfold imdShown imdForced at h
  grind

theorem SameCourse.imdRefresh {s t : State} (h : SameCourse s t) : SameCourse s t.imdRefresh := by
  unfold State.imdRefresh
  split
  · next st hs => exact .ite h (h.imdState (State.imdShown_ne_alarm hs))
  · exact .ite (.imdState (h.front (.meas (.refl t) _)) (by decide)) h

/-- Without a Plant Record there is no node to update, and a load begins or fails. -/
theorem SameFront.updResume {s : State} (hr : s.record = none) : SameFront s s.updResume := by
  have hpos : s.allPos = [] := by simp [State.allPos, State.nodes, hr]
  have hpair : s.pair = false := by simp [State.pair, hr]
  unfold State.updResume
  refine .ite (.refl s) ?_
  split
  · next p _ _ =>
    simp only [State.nodeStart, hpos, List.filter_nil, List.isEmpty_nil, Bool.not_true, Bool.and_false, Bool.false_eq_true, if_false]
    exact .updKind (.refl s) ..
  · next p hhead hstore =>
    have hk : p.kind = 4 := by
      have h4 : s.upd.active.headD 0 = 4 := by rw [List.headD_eq_head?_getD, hhead]; rfl
      rw [h4] at hstore
      simpa using List.find?_some hstore
    simp only [State.activateOne, hk, hpair, Bool.false_and, Bool.false_eq_true, if_false]
    exact .ite (.loadBegin (.refl s) _) (.updKind (.refl s) ..)
  · exact .refl s

/-! ### What the start-up sequence keeps from its first step to its last (R75) -/

/-- The mask of every field but phase, Plant Record and time since the restart, which are fields 3, 5 and 7. -/
def exceptStart : Nat := 2 ^ 33 - 1 - 2 ^ 3 - 2 ^ 5 - 2 ^ 7

/-- What is watched over the start-up sequence: phase, Plant Record and time since the restart as in `s`. -/
abbrev State.startWatch (s : State) : Watch := s.fieldWatch exceptStart fun _ => False

theorem and_startWatch {s : State} {m : Nat} (h : m &&& exceptStart = m) : m &&& s.startWatch.mask = m := h

theorem kept_startWatch (s : State) : Kept s.startWatch s := kept_fieldWatch fun _ => False.elim

namespace Kept

variable {g : Watch} {s t : State}

theorem phase (h : Kept s.startWatch t) : t.phase = s.phase :=
  h.only.f3.resolve_left (show ¬ exceptStart.testBit 3 = true by decide)

theorem record (h : Kept s.startWatch t) : t.record = s.record :=
  h.only.f5.resolve_left (show ¬ exceptStart.testBit 5 = true by decide)

theorem ticks (h : Kept s.startWatch t) : t.ticks = s.ticks :=
  h.only.f7.resolve_left (show ¬ exceptStart.testBit 7 = true by decide)

/-! A unit on the mask may change. -/

theorem aux (h : Kept g s) (hk : g.mask.testBit 24 = true) (x : AuxUnit) : Kept g { s with aux := x } :=
  ⟨h.regs, h.ram, h.mram, h.flt, h.variant, h.ev, h.has, h.out, h.ctr, { h.only with f24 := .inl hk }⟩

theorem cyc (h : Kept g s) (hk : g.mask.testBit 26 = true) (x : Cyclic) : Kept g { s with cyc := x } :=
  ⟨h.regs, h.ram, h.mram, h.flt, h.variant, h.ev, h.has, h.out, h.ctr, { h.only with f26 := .inl hk }⟩

theorem chain (h : Kept g s) (hk : g.mask.testBit 22 = true) (x : Chain) : Kept g { s with chain := x } :=
  ⟨h.regs, h.ram, h.mram, h.flt, h.variant, h.ev, h.has, h.out, h.ctr, { h.only with f22 := .inl hk }⟩

end Kept

namespace State

variable {s : State} {b : BootResult}

/-! Steps 1 and 2. -/

/-- Nothing armed for the next start is activated. -/
theorem activateNext_empty (h : s.upd.nextStart = []) : s.activateNext =
    (({ s with upd := { s.upd with nextStart := [], ready := [] } }.updShow).galClose Kind.image true).galClose Kind.record true := by
  simp [activateNext, h, fitting, commitLines, commitSet, ofKind]

/-- The state in which steps 1 and 2 load the words, with nothing armed for this start. -/
def startBase (s : State) : State :=
  let m := { s.mram with regs := s.mram.regs.set Reg.SYS_HOURS (BitVec.ofNat 32
    (satU 32 ((s.mram.regs.get Reg.SYS_HOURS).toNat + s.localNs / 1000000000))) }
  { s with mram := m, ticks := 0, phase := .starting, upd := { s.upd with nextStart := [], ready := [] } }

/-- The mask of the Galley and the AUX unit, which are fields 11 and 24. -/
def galleyAndAux : Nat := 2 ^ 11 + 2 ^ 24

/-- What is watched over steps 1 and 2: every field but the Galley and the AUX unit as in `s`. -/
abbrev loadWatch (s : State) : Watch := s.fieldWatch galleyAndAux fun _ => False

/-- Steps 1 and 2 change registers, the Galley and the AUX unit alone, and raise events. -/
theorem kept_resetStart_base (h : s.upd.nextStart = []) : Kept s.startBase.loadWatch (s.resetStart b) := by
  have h0 : Kept s.startBase.loadWatch s.startBase := kept_fieldWatch fun _ => False.elim
  have hgal : 2048 &&& s.startBase.loadWatch.mask = 2048 := (by decide : 2048 &&& galleyAndAux = 2048)
  have haux : s.startBase.loadWatch.mask.testBit 24 = true := (by decide : galleyAndAux.testBit 24 = true)
  unfold resetStart
  extract_lets _ m s1 s2 s3 seen _ s4 s5
  have h2 : Kept s.startBase.loadWatch s2 := by
    unfold s2
    rw [activateNext_empty (s := s1) h]
    exact kept_loadWords (kept_galClose (kept_galClose (kept_updShow h0) hgal) hgal)
  have h3 := kept_setB (x1 := ⟨Folio.STATUS Pg.CLK, 0, 0⟩) (x2 := true) (kept_setReg (x1 := Reg.SEQ_LAST)
    (x2 := s2.getReg Reg.SEQ_NEXT + 65535) h2)
  have h4 : Kept s.startBase.loadWatch s4 := (kept_raiseIf h3).aux haux _
  have h5 : Kept s.startBase.loadWatch s5 := Kept_ite (kept_raise (kept_setB h4)) h4
  exact kept_setF (kept_setF h5)

/-- After steps 1 and 2 the module starts, at time 0, with the Plant Record and the safety banks it had. -/
theorem resetStart_effect (h : s.upd.nextStart = []) : (s.resetStart b).phase = .starting ∧ (s.resetStart b).ticks = 0 ∧
    (s.resetStart b).record = s.record ∧ (s.resetStart b).upd.safe = s.upd.safe := by
  have only : Only galleyAndAux s.startBase (s.resetStart b) := (kept_resetStart_base h).only
  have hupd : (s.resetStart b).upd = s.startBase.upd := only.f25.resolve_left (by decide)
  exact ⟨only.f3.resolve_left (by decide), only.f7.resolve_left (by decide), only.f5.resolve_left (by decide),
    by rw [hupd]; rfl⟩

/-- A kind boots from its active bank where it is valid. -/
theorem bootBank_active {k : Nat} {other : Bool} (h : (s.bankOf k (s.bankNo k)).isSome = true) :
    s.bootBank k true other = (s, true) := by
  simp [bootBank, h]

theorem bootBank_invalid {k : Nat} : s.bootBank k false false = (s, false) := by simp [bootBank]

/-! Steps 3 to 7. -/

/-- Steps 5 and 6 come before the chain's start, and keep what is watched. -/
theorem appStart_eq (s : State) (app : Bool) : ∃ t, s.appStart app = t.chainStart ∧ Kept s.startWatch t := by
  have hcyc : s.startWatch.mask.testBit 26 = true := (by decide : exceptStart.testBit 26 = true)
  unfold appStart
  extract_lets s1 s2 c s3
  have h1 : Kept s.startWatch s1 := by
    have h0 := kept_startWatch s
    unfold s1
    split
    · exact kept_copyShow (kept_setImage h0 (and_startWatch (by decide)))
    · exact kept_setF (kept_setF h0)
  have h3 : Kept s.startWatch s3 := (kept_raiseIf h1).cyc hcyc _
  exact ⟨_, rfl, kept_setF (kept_galleyStart h3 (and_startWatch (by decide)))⟩

/-- Step 8 brings the module up, in SURVEY. -/
theorem enterSurvey_effect (hr : s.record = none) : s.enterSurvey.phase = .up ∧ s.enterSurvey.ticks = s.ticks ∧
    s.enterSurvey.cur = Md.survey := by
  unfold enterSurvey
  extract_lets s1 s2 s3 load s4
  have h1 : Kept ({ s with phase := .up } : State).startWatch s1 := kept_setReg (kept_startWatch _)
  have h2 : Kept ({ s with phase := .up } : State).startWatch s2 := 
    kept_wrapReg (kept_setMode (kept_setF h1) (and_startWatch (by decide)))
  have h3 : Kept ({ s with phase := .up } : State).startWatch s3 := kept_imdRefresh h2 (and_startWatch (by decide))
  have h4 : s4 = s3 := if_neg (by simp [show s3.record = none from h3.record.trans hr])
  have hu := kept_autorun (kept_updResume h3 (and_startWatch (by decide))) (and_startWatch (by decide))
  have hcur : s2.cur = Md.survey :=
    (SameCourse.setReg (.refl _) (by decide) _).cur.trans setMode_course.1
  have hcourse : SameCourse s2 s3 := .imdRefresh (.refl s2)
  rw [h4]
  refine ⟨hu.phase, hu.ticks, ?_⟩
  exact (SameCourse.autorun (hcourse.front (.updResume (h3.record.trans hr)))).cur.trans hcur

/-- Step 7 leaves the module starting while its chain is enumerated; without a Plant Record it is up, in SURVEY. -/
theorem chainStart_effect (hp : s.phase = .starting) : s.chainStart.live = true ∧ s.chainStart.ticks = s.ticks ∧
    (s.record = none → s.chainStart.phase = .up ∧ s.chainStart.cur = Md.survey) := by
  by_cases hr : s.record = none
  · have hx : s.chainStart = (s.setF Fld.AUX_START_STATUS_FAULT 0x05).enterSurvey := if_pos (by simp [hr])
    obtain ⟨hphase, hticks, hcur⟩ := enterSurvey_effect (s := s.setF Fld.AUX_START_STATUS_FAULT 0x05) hr
    rw [hx]
    exact ⟨by simp [live, hphase], hticks, fun _ => ⟨hphase, hcur⟩⟩
  · have hk : Kept s.startWatch s.chainStart := by
      unfold chainStart
      rw [if_neg (by simpa using hr)]
      exact Kept_ite (kept_setSched ((kept_startWatch s).chain (by decide : exceptStart.testBit 22 = true) _))
        (kept_enumBegin (kept_startWatch s) (and_startWatch (by decide)))
    exact ⟨by simp [live, hk.phase, hp], hk.ticks, fun h => absurd h hr⟩

/-- Without a safety image the boot ROM keeps the module, with FAULT 0x02. -/
theorem resetGo_halt_effect {app : Bool} :
    (s.resetGo b false app).phase = .bootHalt ∧ (s.resetGo b false app).getF Fld.AUX_START_STATUS_FAULT = 0x02 := by
  rw [resetGo, if_pos (by decide)]
  exact ⟨rfl, getF_setF s _ _ (by decide) (by decide)⟩

/-- With a safety image and the self-test passed steps 3 to 7 run. -/
theorem resetGo_effect {app : Bool} (ht : b.selfTestOk = true) (hp : s.phase = .starting) :
    (s.resetGo b true app).live = true ∧ (s.resetGo b true app).ticks = s.ticks ∧
    (s.record = none → (s.resetGo b true app).phase = .up ∧ (s.resetGo b true app).cur = Md.survey) := by
  unfold resetGo
  rw [if_neg (by decide), if_neg (by simp [ht])]
  have h5 := kept_setF (x1 := Fld.AUX_START_STATUS_STEP) (x2 := 5) (kept_safetyStart (x1 := b.floopPresent)
    (kept_loadRecord (kept_setF (x1 := Fld.AUX_START_STATUS_STEP) (x2 := 3) (kept_startWatch s)) (and_startWatch (by decide)))
    (and_startWatch (by decide)))
  obtain ⟨t, heq, hk⟩ := appStart_eq _ app
  obtain ⟨hlive, hticks, hsurvey⟩ := chainStart_effect (hk.phase.trans (h5.phase.trans hp))
  rw [heq]
  exact ⟨hlive, hticks.trans (hk.ticks.trans h5.ticks), fun hr => hsurvey (hk.record.trans (h5.record.trans hr))⟩

end State

/-! ### The clauses of RESET_RELEASE and PLL_LOCK_RETRY (R75, R76) -/

section Release

variable {s : State} {b : BootResult}

/-- A release of reset with a lock of the PLL: the banks are checked, then the sequence goes on. -/
theorem exec_resetRelease {t u : State} {safe app : Bool} (hp : s.phase = .held) (hh : s.aux.hold = 0)
    (hl : s.flag Fld.CLK_PLL_LOCKED = true) (ht : (s.resetStart b).bootBank Pk.safe b.safeOk b.safeOtherOk = (t, safe))
    (hu : t.bootBank Pk.app b.appOk b.appOtherOk = (u, app)) : ∃ v, exec (.resetRelease b) s =
      .next ((u.setReg Reg.UPD_SAFE_VERSION v).resetGo b safe app) := by
  refine ⟨((u.bankOf Pk.safe (u.bankNo Pk.safe)).map (·.version)).getD 0, ?_⟩
  show execResetRelease b s = _
  rw [execResetRelease, if_neg (by simp [hp, hh, hl])]
  simp only [ht, hu]

theorem says_resetRelease : Says.resetRelease := by
  intro s b hp hh hl hn hsafe hbank htest
  obtain ⟨hphase, hticks, hrecord, hbanks⟩ := State.resetStart_effect (b := b) hn
  have hvalid : ((s.resetStart b).bankOf Pk.safe ((s.resetStart b).bankNo Pk.safe)).isSome = true := by
    rw [← hbank, State.bankOf, State.bankOf, hbanks]
    rfl
  have hboot : (s.resetStart b).bootBank Pk.safe b.safeOk b.safeOtherOk = (s.resetStart b, true) := by
    rw [hsafe]; exact State.bootBank_active hvalid
  obtain ⟨v, hx⟩ := exec_resetRelease hp hh hl hboot rfl
  have hk := kept_setReg (x1 := Reg.UPD_SAFE_VERSION) (x2 := v) (kept_bootBank (x1 := Pk.app) (x2 := b.appOk) (x3 := b.appOtherOk)
    (kept_startWatch (s.resetStart b)) (and_startWatch (by decide)))
  obtain ⟨hlive, hgo, hsurvey⟩ := State.resetGo_effect htest (hk.phase.trans hphase)
  exact ⟨_, hx, hlive, hgo.trans (hk.ticks.trans hticks), fun hr => hsurvey (hk.record.trans (hrecord.trans hr))⟩

theorem says_resetRelease_halt : Says.resetRelease_halt := by
  intro s b hp hh hl hsafe hother
  have hboot : (s.resetStart b).bootBank Pk.safe b.safeOk b.safeOtherOk = (s.resetStart b, false) := by
    rw [hsafe, hother]; exact State.bootBank_invalid
  obtain ⟨v, hx⟩ := exec_resetRelease hp hh hl hboot rfl
  obtain ⟨hphase, hfault⟩ := State.resetGo_halt_effect
  exact ⟨_, hx, hphase, hfault⟩

theorem says_pllLockRetry : Says.pllLockRetry := by
  intro s b hp
  refine ⟨_, congrArg Host.Outcome.next (if_pos (by simp [hp])), ?_, .setB (.setB (.refl _ s) (by simp) b) (by simp) b⟩
  exact (State.flag_congr ((State.getReg_setReg ..).trans (if_neg (by decide)))).trans (State.flag_setB (by decide) rfl b)

end Release

/-! ### The clauses of POWER_ON, RESET_N_ASSERT and RESET_N_RELEASE (R70, R71) -/

namespace State

variable {s : State} {h : Nat}

/-- What holds the module in reset: bit 0 the supply, bit 1 RESET_N. -/
def putHold (s : State) (h : Nat) : State := { s with aux := { s.aux with hold := h } }

theorem putHold_hold : (s.putHold h).aux.hold = h := rfl
theorem putHold_phase : (s.putHold h).phase = s.phase := rfl
theorem putHold_sent : (s.putHold h).sent = s.sent := rfl
theorem getReg_putHold {a : Nat} : (s.putHold h).getReg a = s.getReg a := rfl
theorem getF_putHold {f : Fld} : (s.putHold h).getF f = s.getF f := rfl

/-- The supply's return: counted in MRAM, and time begins. -/
def supplyBack (s : State) : State :=
  { s with
    mram := { s.mram with
      regs := s.mram.regs.set Reg.SYS_POWER_CYCLES (BitVec.ofNat 32 (satU 32 ((s.mram.regs.get Reg.SYS_POWER_CYCLES).toNat + 1))) },
    ticks := 0 }

theorem getReg_supplyBack {a : Nat} : s.supplyBack.getReg a = s.getReg a := rfl

theorem supplyBack_cycles : (s.supplyBack.mram.regs.get Reg.SYS_POWER_CYCLES).toNat =
    min (2 ^ 32 - 1) ((s.mram.regs.get Reg.SYS_POWER_CYCLES).toNat + 1) := by
  rw [supplyBack, Store.get_set, if_pos rfl, BitVec.toNat_ofNat]
  exact Nat.mod_eq_of_lt (Nat.lt_of_le_of_lt (Nat.min_le_left ..) (by decide))

end State

theorem exec_powerOn {s : State} (hp : s.phase = .held) (hh : bitOf s.aux.hold 0 = true) : exec .powerOn s =
    .next ((s.supplyBack.putHold (putBit s.aux.hold 0 false)).setF Fld.SYS_RESET_CAUSE_CAUSE 0x1) := if_pos (by simp [hp, hh])

theorem says_powerOn : Says.powerOn := by
  intro s hp hh
  refine ⟨_, exec_powerOn hp hh, ?_, rfl, State.getF_setF _ _ _ (by decide) (by decide), ?_,
    .setF (fun _ _ => State.getReg_putHold.trans State.getReg_supplyBack) (by simp) _⟩
  · rw [State.setF_aux, State.putHold_hold]
    exact bitOf_putBit false
  · rw [State.setF_mram]
    exact State.supplyBack_cycles

/-- RESET_N resets a module that is not yet held, and holds it. -/
theorem exec_resetNAssert {s : State} : exec .resetNAssert s =
    .next ((if s.phase = .held then s else s.enterReset 2 0).putHold (putBit s.aux.hold 1 true)) := by
  show execResetNAssert s = _
  simp only [execResetNAssert, beq_iff_eq, State.putHold]

theorem says_resetNAssert : Says.resetNAssert := by
  intro s
  refine ⟨_, exec_resetNAssert, ?_, ?_, fun hp => ?_⟩
  · rw [State.putHold_phase]
    split
    · assumption
    · exact State.enterReset_phase
  · rw [State.putHold_hold]
    exact bitOf_putBit true
  · obtain ⟨-, -, hsent, -⟩ := s.enterReset_effect 2 0
    rw [State.getF_putHold, State.putHold_sent, if_neg hp, State.getF_enterReset_cause, hsent]
    exact ⟨rfl, List.mem_cons_self⟩

theorem exec_resetNRelease {s : State} (hp : s.phase = .held) (hh : bitOf s.aux.hold 1 = true) : exec .resetNRelease s =
    .next (((s.setF Fld.SYS_RESET_CAUSE_CAUSE 0x2).setF Fld.SYS_RESET_CAUSE_WAKE_SRC 0).putHold (putBit s.aux.hold 1 false)) :=
  if_pos (by simp [hp, hh])

theorem says_resetNRelease : Says.resetNRelease := by
  intro s hp hh
  refine ⟨_, exec_resetNRelease hp hh, ?_, ?_, ?_, fun a ha => ?_⟩
  · rw [State.putHold_hold]
    exact bitOf_putBit false
  · rw [State.getF_putHold, State.getF_setF_disjoint _ _ _ _ (by decide) (by decide) (by decide) (by decide)]
    exact State.getF_setF _ _ _ (by decide) (by decide)
  · rw [State.getF_putHold]
    exact State.getF_setF _ _ _ (by decide) (by decide)
  · rw [State.getReg_putHold]
    exact RegsBut.setF (.setF (.refl _ s) (by simp) _) (by simp) _ a ha

/-! ### The clauses of the service button (R72) -/

theorem says_svcDebouncedClose : Says.svcDebouncedClose := by
  intro s hl hi
  have hd : ¬ (s.phase == .dormant) = true := by
    intro h
    rw [beq_iff_eq] at h
    simp [State.live, h] at hl
  refine ⟨_, (if_neg hd).trans (congrArg Host.Outcome.next (if_pos (by simp [hl, hi]))), State.flag_setB (by decide) rfl true,
    .setB (.refl _ s) (by simp) true⟩

/-- The press has ended: its length is shown, and neither PRESSED nor STUCK. -/
def State.svcReleased (s : State) (ms : Nat) : State :=
  ((s.setB Fld.AUX_SVC_PRESSED false).setB Fld.AUX_SVC_STUCK false).setF Fld.AUX_SVC_LAST_PRESS (satU 16 ms)

theorem State.svcReleased_effect (s : State) (ms : Nat) :
    (s.svcReleased ms).flag Fld.AUX_SVC_PRESSED = false ∧ (s.svcReleased ms).flag Fld.AUX_SVC_STUCK = false ∧
    (s.svcReleased ms).getF Fld.AUX_SVC_LAST_PRESS = min 65535 ms ∧ RegsBut [Reg.AUX_SVC] s (s.svcReleased ms) := by
  refine ⟨?_, ?_, ?_, .setF (.setB (.setB (.refl _ s) (by simp) _) (by simp) _) (by simp) _⟩
  · rw [svcReleased, flag, getF_setF_disjoint _ _ _ _ (by decide) (by decide) (by decide) (by decide), setB,
      getF_setF_disjoint _ _ _ _ (by decide) (by decide) (by decide) (by decide)]
    exact flag_setB (by decide) rfl false
  · rw [svcReleased, flag, getF_setF_disjoint _ _ _ _ (by decide) (by decide) (by decide) (by decide)]
    exact flag_setB (by decide) rfl false
  · exact (getF_setF _ _ _ (by decide) (by decide)).trans
      (Nat.mod_eq_of_lt (Nat.lt_of_le_of_lt (Nat.min_le_left ..) (by decide)))

theorem State.waits_svcReleased {s : State} {ms : Nat} (e : Ev) : (s.svcReleased ms).waits e = s.waits e := by
  rw [svcReleased, waits_setF, setB, waits_setF, setB, waits_setF]

theorem State.svcReleased_aux {s : State} {ms : Nat} : (s.svcReleased ms).aux = s.aux := by
  rw [svcReleased, setF_aux, setB_aux, setB_aux]

/-- The request for a restart, an earlier one kept, before the event of its own is raised (R74). -/
def State.putRestart (s : State) (cold : Bool) : State :=
  { s with aux := { s.aux with restartWait := some (s.aux.restartWait.getD cold) } }

/-- A press of up to 8 s raises its event and asks for its restart (R72). -/
theorem State.svcRestart_effect (s : State) (cold : Bool) {n : Nat} :
    ((s.raise ⟨Pg.AUX, n⟩).restartReq cold).aux = { s.aux with restartWait := some (s.aux.restartWait.getD cold) } ∧
    Added [⟨Pg.AUX, n⟩, ⟨Pg.AUX, 40⟩] s ((s.raise ⟨Pg.AUX, n⟩).restartReq cold) ∧
    RegsBut [Reg.SEQ_COALESCED] s ((s.raise ⟨Pg.AUX, n⟩).restartReq cold) := by
  obtain ⟨haux, -, hregs⟩ := (s.raise ⟨Pg.AUX, n⟩).restartReq_effect cold
  rw [raise_aux] at haux
  have hadd : Added [⟨Pg.AUX, n⟩] s ((s.raise ⟨Pg.AUX, n⟩).putRestart cold) := Added_raise (pagePresent_aux _)
  refine ⟨haux, hadd.raiseInt (pagePresent_aux _) 40 5, fun a ha => ?_⟩
  rw [hregs a ha, getReg_raise _ _ _ (by simpa using ha)]

theorem exec_svcDebouncedOpen {s : State} {ms : Nat} (hl : s.live = true) (hi : s.aux.svcIgnore = false)
    (hp : s.flag Fld.AUX_SVC_PRESSED = true) : exec (.svcDebouncedOpen ms) s =
      .next (if ms < 3000 then ((s.svcReleased ms).raise Ev.AUX_SVC_WARM).restartReq false
        else if ms ≤ 8000 then ((s.svcReleased ms).raise Ev.AUX_SVC_COLD).restartReq true
        else s.svcReleased ms) := by
  show execSvcDebouncedOpen ms s = _
  rw [execSvcDebouncedOpen, if_neg (by simp [hl]), if_neg (by simp [hi]), if_neg (by simp [hp])]
  rfl

theorem says_svcDebouncedOpen : Says.svcDebouncedOpen := by
  intro s ms hl hi hp
  obtain ⟨hpressed, hstuck, hlast, hregs⟩ := s.svcReleased_effect ms
  obtain ⟨hwarm, hwarmEv, hwarmRegs⟩ := (s.svcReleased ms).svcRestart_effect false (n := 3)
  obtain ⟨hcold, hcoldEv, hcoldRegs⟩ := (s.svcReleased ms).svcRestart_effect true (n := 4)
  rw [State.svcReleased_aux] at hwarm hcold
  generalize ht : (if ms < 3000 then ((s.svcReleased ms).raise Ev.AUX_SVC_WARM).restartReq false
    else if ms ≤ 8000 then ((s.svcReleased ms).raise Ev.AUX_SVC_COLD).restartReq true else s.svcReleased ms) = t
  have hx := exec_svcDebouncedOpen (ms := ms) hl hi hp
  have hsame : RegsBut [Reg.SEQ_COALESCED] (s.svcReleased ms) t := by
    rw [← ht]
    split
    · exact hwarmRegs
    · split
      · exact hcoldRegs
      · exact .refl _ _
  have hsvc : t.getReg Reg.AUX_SVC = (s.svcReleased ms).getReg Reg.AUX_SVC := hsame _ (by decide)
  refine ⟨t, by rw [hx, ht], (State.flag_congr hsvc).trans hpressed, (State.flag_congr hsvc).trans hstuck, ?_, fun hm => ?_,
    fun h3 h8 => ?_, fun h8 => ?_, fun a ha => ?_⟩
  · rw [State.getF, hsvc]
    exact hlast
  · rw [← ht, if_pos hm]
    exact ⟨hwarmEv.of_waits State.waits_svcReleased, hwarm⟩
  · rw [← ht, if_neg (by omega), if_pos h8]
    exact ⟨hcoldEv.of_waits State.waits_svcReleased, hcold⟩
  · rw [← ht, if_neg (by omega), if_neg (by omega)]
    exact ⟨(Added.refl _).of_waits State.waits_svcReleased, State.svcReleased_aux⟩
  · simp only [List.mem_cons, List.not_mem_nil, or_false, not_or] at ha
    rw [hsame a (by simpa using ha.2), hregs a (by simpa using ha.1)]

theorem says_svcStuck : Says.svcStuck := by
  intro s hl hp hs
  refine ⟨_, congrArg Host.Outcome.next (if_pos (by simp [hl, hp, hs])), ?_, Added_raise (pagePresent_aux _),
    .raise (.setB (.refl _ s) (by simp) true) (by simp) _⟩
  rw [State.flag_congr (State.getReg_raise _ _ _ (by decide)), State.flag_setB (by decide) rfl]

/-- Settles O42: one lemma for each clause. -/
theorem resetAndServiceButton : Obligations.ResetAndServiceButton :=
  ⟨says_powerOn, says_resetNAssert, says_resetNRelease, says_resetRelease, says_resetRelease_halt, says_pllLockRetry,
    says_svcDebouncedClose, says_svcDebouncedOpen, says_svcStuck⟩

end Sys2Proof.Machine

/-! PROOF. What a comparator read-back (R149) and the clearing of marks (R144) change while POWER is not OFF: what is unmonitored and
what is marked are causes of R314, which R315 then judges, and Ellipsis or a Full Stop writes registers that the clauses of
COMP_READBACK and SUSPECT_CLR_DECISION do not list. -/

namespace Sys2Proof.Machine

/-! ### A register after a command -/

/-- What a register reads after a command; 0 where the command answers no next state. -/
def State.regAfter (s : State) (c : Instr) (a : Nat) : Nat := match exec c s with
  | .next t => t.getReg a
  | _ => 0

theorem State.regAfter_of_next {s t : State} {c : Instr} (h : exec c s = .next t) (a : Nat) : s.regAfter c a = t.getReg a := by
  rw [regAfter, h]

/-- A command that changes a register which is not listed keeps no frame with that list. -/
theorem not_regsBut_of_regAfter {s t : State} {c : Instr} {rs : List Nat} {a : Nat} (hx : exec c s = .next t) (ha : a ∉ rs)
    (hne : s.regAfter c a ≠ s.getReg a) : ¬ RegsBut rs s t := fun h =>
  hne ((State.regAfter_of_next hx a).trans (h a ha))

/-! ### The states of the counterexamples -/

/-- A position of the Plant Record with cell 1 populated and no comparator settings. -/
def oneCell : PosRec := ⟨0, 1, 0, [], [], 0, [], 0⟩

/-- A solo module that is up in a mode with POWER ON, and knows these positions, each of one cell. -/
def poweredIn (mode : Nat) (ps : List Position) : State :=
  let record : PlantRecord := {
    version := 1, regs := [], pair := false, enWired := false, cur := ⟨50, 50, 20000000, 0, 0, 0, false, false, false⟩, prioB := 0,
    ofsLim := 0, iTaper := 0, psets := [], binTable := none, flowPpl := 0, stageType := 0, osDrive := 0, keys := [], vlan := 0,
    mask := 0, positions := List.replicate ps.length oneCell }
  let s : State := { State.reset with phase := .up, record := some record, chain := { State.reset.chain with pos := ps } }
  (s.setF Fld.MODE_STATE_CURRENT mode).setF Fld.MODE_FUNC_STATE_POWER 2

/-- In DISPATCH, with one position whose settings have differed once, and the Margins of R315 that permit Ellipsis for one
unmonitored cell. -/
def rereadInDispatch : State :=
  (((poweredIn Md.dispatch [{ Position.reset with compAgain := true }]).setReg Reg.MRG_ELL_PERMIT 0x8).setReg Reg.MRG_UNMON_MAX
    1).setB Fld.BAL_FLOOP_PRESENT true

/-- In SURVEY, with a clear of position 1 that has passed its test and its ten proofs, and a suspect cell at position 2 for which
the Margins do not permit Ellipsis. -/
def clearInSurvey : State :=
  poweredIn Md.survey [{ Position.reset with suspect := 1, clr := 3, clrProofs := 10 }, { Position.reset with suspect := 1 }]

/-! ### The second difference of a comparator's settings (R149) -/

theorem rereadInDispatch_conditions : rereadInDispatch.live = true ∧ 1 ≤ rereadInDispatch.nodes ∧
    1 ≤ rereadInDispatch.chain.pos.length ∧ [1] ≠ (rereadInDispatch.recAt 1).comp := by decide +kernel

/-- The position's cell becomes unmonitored, and ELLIPSIS is entered for cause 0x23 (R315, R321): SAFE.STATE shows both. -/
theorem rereadInDispatch_safeState : rereadInDispatch.getReg Reg.SAFE_STATE = 0x1 ∧
    rereadInDispatch.regAfter (.compReadback 1 [1]) Reg.SAFE_STATE = 0x2305 := by decide +kernel

/-- COMP_READBACK changes SAFE.STATE, which is not among the registers that its clause lets change. -/
theorem not_says_compReadback_differs : ¬ Says.compReadback_differs := by
  intro h
  obtain ⟨hlive, hnodes, hpos, hdiffers⟩ := rereadInDispatch_conditions
  obtain ⟨t, hx, -, -, hregs⟩ := h rereadInDispatch 1 [1] hlive (Nat.le_refl 1) hnodes hpos hdiffers
  obtain ⟨hbefore, hafter⟩ := rereadInDispatch_safeState
  exact not_regsBut_of_regAfter (a := Reg.SAFE_STATE) hx (by decide) (by rw [hbefore, hafter]; decide) hregs

/-! ### Marks cleared while another position keeps its own (R144) -/

theorem clearInSurvey_conditions : clearInSurvey.live = true ∧ clearInSurvey.cur = Md.survey ∧ (clearInSurvey.posAt 1).clr = 3 ∧
    10 ≤ (clearInSurvey.posAt 1).clrProofs := by decide +kernel

/-- The mark of position 2 is judged while POWER is not OFF, and starts a Full Stop for cause 0x24 (R315, R316): SAFE.STATE shows
both. -/
theorem clearInSurvey_safeState : clearInSurvey.getReg Reg.SAFE_STATE = 0x1 ∧
    clearInSurvey.regAfter (.suspectClrDecision 1) Reg.SAFE_STATE = 0x1240003 := by decide +kernel

/-- SUSPECT_CLR_DECISION changes SAFE.STATE, which is not among the registers that its clause lets change. The clause is about
every state: POWER, which R26 has OFF in SURVEY, is not among its conditions. -/
theorem not_says_suspectClrDecision_cleared : ¬ Says.suspectClrDecision_cleared := by
  intro h
  obtain ⟨hlive, hsurvey, hclr, hproofs⟩ := clearInSurvey_conditions
  obtain ⟨t, hx, -, -, -, -, -, hregs⟩ := h clearInSurvey 1 hlive hsurvey hclr hproofs
  obtain ⟨hbefore, hafter⟩ := clearInSurvey_safeState
  exact not_regsBut_of_regAfter (a := Reg.SAFE_STATE) hx (by decide) (by rw [hbefore, hafter]; decide) hregs

/-- Refutes O15: its clause of SUSPECT_CLR_DECISION leaves SAFE.STATE as it was, which a Full Stop for the marks of another position
changes where POWER is not OFF (R315, R316). -/
theorem not_openWireTestsAndSuspects : ¬ Obligations.OpenWireTestsAndSuspects := fun h => by
  obtain ⟨-, -, -, -, -, -, -, -, hcleared⟩ := h
  exact not_says_suspectClrDecision_cleared hcleared

/-- Refutes O16: its clause of COMP_READBACK leaves SAFE.STATE as it was, which entering ELLIPSIS for the unmonitored cells changes
(R149, R315, R321). -/
theorem not_faultLoopAndBleeding : ¬ Obligations.FaultLoopAndBleeding := fun h => by
  obtain ⟨-, hdiffers, -⟩ := h
  exact not_says_compReadback_differs hdiffers

end Sys2Proof.Machine

/-! PROOF. A new holder's first insulation cycle while the chassis loop is open (R178, R180): the cycle starts, and the monitor goes
on reporting CONN_FAULT, where the clause of IMD_HOLDER_START has it report NONE. -/

namespace Sys2Proof.Machine

section LoopOpen

variable {s t : State} (hlive : s.live = true) (hwait : s.meas.imdWait = true) (hforced : s.imdForced = none)
  (hopen : s.meas.loopOpen = true)
include hlive hwait hforced hopen

/-- With the chassis loop open IMD_HOLDER_START ends the wait and starts a cycle, and does nothing else. -/
theorem exec_imdHolderStart_loopOpen : exec .imdHolderStart s =
    .next { s with meas := { s.meas with imdWait := false, imdCycle := s.meas.imdCycle + 1 } } := by
  have hstarts : (s.live && s.meas.imdWait && s.imdForced.isNone) = true := by simp [hlive, hwait, hforced]
  exact (if_pos hstarts).trans (congrArg Host.Outcome.next (if_pos hopen))

theorem imdHolderStart_loopOpen_regs (hx : exec .imdHolderStart s = .next t) : t.regs = s.regs := by
  obtain rfl := Host.Outcome.next.inj ((exec_imdHolderStart_loopOpen hlive hwait hforced hopen).symm.trans hx)
  rfl

end LoopOpen

/-- A holder that has just taken the Imprint of its pair, with its insulation monitor enabled and its first cycle still to start. Its
chassis loop is open, so the monitor reports CONN_FAULT (R178). -/
def newHolderLoopOpen : State :=
  let s : State := { partnerLinkUp with meas := { partnerLinkUp.meas with imdWait := true, loopOpen := true } }
  ((s.setF Fld.PAIR_STATE_PSTATE Ps.holder).setB Fld.MEAS_IMD_CTL_ENABLE true).setF Fld.MEAS_IMD_RESULT_STATE 6

theorem newHolderLoopOpen_conditions : newHolderLoopOpen.live = true ∧ newHolderLoopOpen.meas.imdWait = true ∧
    newHolderLoopOpen.imdForced = none ∧ newHolderLoopOpen.meas.loopOpen = true := by decide +kernel

theorem newHolderLoopOpen_connFault : newHolderLoopOpen.getF Fld.MEAS_IMD_RESULT_STATE = 6 := by decide +kernel

/-- IMD_HOLDER_START does not report NONE while the chassis loop is open, which is not among the conditions of its clause. -/
theorem not_says_imdHolderStart : ¬ Says.imdHolderStart := by
  intro h
  obtain ⟨hlive, hwait, hforced, hopen⟩ := newHolderLoopOpen_conditions
  obtain ⟨t, hx, hnone, -, -⟩ := h newHolderLoopOpen hlive hwait hforced
  rw [State.getF_congr (imdHolderStart_loopOpen_regs hlive hwait hforced hopen hx), newHolderLoopOpen_connFault] at hnone
  exact absurd hnone (by decide)

/-- Refutes O39: its clause of IMD_HOLDER_START has the monitor report NONE in every case, which reports CONN_FAULT until the chassis
loop closes again (R178). -/
theorem not_insulationAndCharge : ¬ Obligations.InsulationAndCharge := fun h => by
  obtain ⟨-, -, -, -, -, hstart, -, -⟩ := h
  exact not_says_imdHolderStart hstart

end Sys2Proof.Machine

/-! PROOF. The estimation engine (R195, R202, R215, R218, R219, R223): the clauses of EST_DONE, EST_SHADOW_WRITE, CAP_SET, ANCHOR_REQ,
ANCHOR_CANCEL, ANCHOR_RAMP_TIMEOUT, NO_ANCHOR, CELL_VIEW_WRITE and HOLD_EXPIRED. -/

namespace Sys2Proof.Machine

/-- Every variant has an EST page. -/
theorem pagePresent_est (v : Variant) : pagePresent v Pg.EST = true := by cases v <;> rfl

/-- Every variant has a CELL page. -/
theorem pagePresent_cell (v : Variant) : pagePresent v Pg.CELL = true := by cases v <;> rfl

/-! ### The end of an update (R195) -/

namespace State

variable {s : State} {u : Used}

/-- Step 6: the bank is published with the instant of its sweep, and EST_DONE raised. -/
theorem estPublish_effect (s : State) (u : Used) : (s.estPublish u).waits Ev.EST_EST_DONE = true ∧
    (s.estPublish u).getReg Reg.EST_UPDATE_TIME = u.instant % 2 ^ 32 ∧ (s.estPublish u).est.pubTime = u.instant ∧
    (s.estPublish u).est.pub = (s.estPublish u).est.cells := by
  unfold estPublish
  refine ⟨waits_raise _ _ _ (.inr ⟨pagePresent_est _, rfl⟩), ?_, ?_, ?_⟩
  · rw [getReg_raise _ _ _ (by decide), setF, getReg_setReg, if_neg (by decide), setF, getReg_setReg, if_neg (by decide),
      getReg_setReg, if_pos rfl]
  · rw [raise_est]; rfl
  · rw [raise_est]; rfl

/-- Without a gap, an update ends in the publication of its sweep: as the engine's first or as a later one, steps 3 to 6 close both. -/
theorem estUpdate_eq_estPublish (hg : u.gaps = 0) :
    ∃ (w : State) (u' : Used), u'.instant = u.instant ∧ s.estUpdate u = w.estPublish u' := by
  have htail (w : State) (x : Used) (i : F64) (first : Bool) : ∃ w' : State, w.estTail x i first = w'.estPublish x := ⟨_, rfl⟩
  have hrun (w : State) : ∃ w' : State, w.estRun u = w'.estPublish u := htail _ _ _ _
  unfold estUpdate
  rw [if_neg (by simp [hg])]
  extract_lets s0 start w
  cases start
  · obtain ⟨w', hw'⟩ := hrun w
    exact ⟨w', u, rfl, hw'⟩
  · obtain ⟨w', hw'⟩ := htail (w.estStart u) { u with q := 0, dt := 0 } F64.zero true
    exact ⟨w', _, rfl, hw'⟩

/-- The engine's record of an interval with gaps. -/
def estGap (s : State) (u : Used) : State :=
  { s with est := { s.est with used := none, gapNs := s.est.gapNs + u.dt, gapN := s.est.gapN + u.gaps } }

/-- With a gap, an update counts it and suspends the engine where it ran (R199). -/
theorem estUpdate_of_gaps (hg : u.gaps ≠ 0) : s.estUpdate u = if s.flag Fld.EST_STATE_SUSPENDED = true then s.estGap u
    else ((s.estGap u).setB Fld.EST_STATE_SUSPENDED true).raise Ev.EST_EST_SUSPENDED := if_pos (by simpa using hg)

end State

theorem exec_estDone {s : State} {u : Used} (hl : s.live = true) (hu : s.est.used = some u) :
    exec .estDone s = .next (s.estUpdate u) := by
  show execEstDone s = _
  rw [execEstDone, if_pos hl, hu]

theorem says_estDone : Says.estDone := by
  intro s u hl hu hg
  obtain ⟨w, u', hi, hw⟩ := State.estUpdate_eq_estPublish (s := s) hg
  obtain ⟨hdone, htime, hpubTime, hpub⟩ := w.estPublish_effect u'
  exact ⟨w.estPublish u', hw ▸ exec_estDone hl hu, hdone, hi ▸ htime, hi ▸ hpubTime, hpub⟩

theorem says_estDone_suspended : Says.estDone_suspended := by
  intro s u hl hu hg
  refine ⟨s.estUpdate u, exec_estDone hl hu, ?_⟩
  rw [State.estUpdate_of_gaps hg]
  by_cases hs : s.flag Fld.EST_STATE_SUSPENDED = true
  · rw [if_pos hs, if_pos hs]
    exact ⟨hs, rfl, .refl s, .refl _ s⟩
  · rw [if_neg hs, if_neg hs]
    refine ⟨?_, State.raise_est .., (Added.refl s).raise (t := (s.estGap u).setB _ true) (pagePresent_est _),
      .raise (.setB (t := s.estGap u) (.refl _ s) (by simp) true) (by simp) _⟩
    rw [State.flag_congr (State.getReg_raise _ _ _ (by decide)), State.flag_setB (by decide) rfl]

/-! ### The shadow (R202) -/

/-- A shadow of the engine's state goes, sealed, to the area that does not hold the last one, which is then the last. -/
theorem State.estShadow_effect {s : State} (hc : s.est.cells ≠ []) : ∃ h : Shadow,
    (h.hours, h.version, h.learn, h.anchorS, h.cells.length) =
      (s.hours, (s.record.map (·.version)).getD 0, s.getF Fld.EST_STATE_LEARN, s.est.anchorH, s.est.cells.length) ∧
    h.sealOk = true ∧ s.estShadow = { s with est := { s.est with
      shadows := s.est.shadows.set (1 - s.est.shadowAt) (some h), shadowAt := 1 - s.est.shadowAt } } :=
  ⟨⟨_, _, _, _, _, true⟩, by rw [List.length_map], rfl, if_neg (by simpa using hc)⟩

theorem says_estShadowWrite : Says.estShadowWrite := by
  intro s hl hc hlen hat
  obtain ⟨h, hh, hseal, ht⟩ := State.estShadow_effect hc
  have hnew : (s.est.shadows.set (1 - s.est.shadowAt) (some h))[1 - s.est.shadowAt]? = some (some h) :=
    List.getElem?_set_self (by omega)
  refine ⟨s.estShadow, congrArg Host.Outcome.next (if_pos hl), ?_⟩
  rw [ht]
  refine ⟨rfl, ?_, ?_, List.getElem?_set_ne (by omega), rfl⟩
  · rw [hnew]
    exact congrArg (some ∘ some) hh
  · rw [hnew]
    exact congrArg (some ∘ some) hseal

/-! ### Writes that wait in the Compositor, and their refusal (R215, R219) -/

theorem RegsBut.mono {rs qs : List Nat} {s t : State} (h : RegsBut rs s t) (hsub : rs ⊆ qs) : RegsBut qs s t :=
  fun a ha => h a fun hb => ha (hsub hb)

theorem RegsBut.recordErr {rs : List Nat} {s t : State} (h : RegsBut rs s t) (ha : Reg.SYS_ACCESS_ERR_ADDR ∈ rs)
    (he : Reg.SYS_ACCESS_ERR ∈ rs) (m a st : Nat) : RegsBut rs s (t.recordErr m a st) := fun b hb => by
  rw [State.getReg_recordErr (ne_of_mem_of_not_mem ha hb).symm (ne_of_mem_of_not_mem he hb).symm, h b hb]

theorem Added.recordErr {es : List Ev} {s t : State} (h : Added es s t) (m a st : Nat) : Added es s (t.recordErr m a st) :=
  fun e => by rw [State.waits_recordErr, h e]

/-- A keyed write without the key raises its event of denial, and is recorded (R51, R554). -/
theorem State.permitKeyed_denied {s : State} {m a k : Nat} {e : Ev} {f : State → State} (hp : s.permits m a = true)
    (hk : s.keyOk m (pageOf a) k = false) :
    s.permitKeyed m a k e f = ((s.clearKey (pageOf a)).raise e).recordErr m a St.keyDenied := by
  rw [permitKeyed, permit_ok hp, hk]
  rfl

theorem State.clearKey_est {s : State} {q : Nat} : (s.clearKey q).est = s.est := setF_est ..

theorem State.recordErr_est {s : State} {m a st : Nat} : (s.recordErr m a st).est = s.est := by
  rw [recordErr, setF_est, setF_est, setReg_est]

/-- A capacity set of the cell in CAP_SEL waits for its grant. -/
def State.capAsked (s : State) (v : Nat) : State :=
  ({ s with est := { s.est with
    capWait := s.est.capWait ++ [(s.getReg Reg.EST_CAP_SEL % 512, 10 * (v % 2 ^ 32))] } } : State).raiseInt Pg.EST 40 5

theorem exec_capSet {s : State} {m v : Nat} (hp : s.permitsKeyed m Reg.EST_CAP_SET 0x52E7 = true) :
    exec (.capSet m v) s = .next ((s.clearKey Pg.EST).capAsked v) := congrArg Host.Outcome.next (State.permitKeyed_ok hp)

theorem State.capAsked_est (s : State) (v : Nat) : (s.capAsked v).est = { s.est with
    capWait := s.est.capWait ++ [(s.getReg Reg.EST_CAP_SEL % 512, 10 * (v % 2 ^ 32))] } := raiseC_est ..

theorem State.getReg_capAsked {s : State} {v a : Nat} (ha : a ≠ Reg.SEQ_COALESCED) : (s.capAsked v).getReg a = s.getReg a :=
  getReg_raiseInt ha

theorem State.added_capAsked (s : State) (v : Nat) : Added [⟨Pg.EST, 40⟩] s (s.capAsked v) :=
  ((Added.refl _).raiseInt (pagePresent_est _) 40 5).of_waits fun _ => rfl

theorem says_capSet : Says.capSet := by
  intro s m v hp
  refine ⟨(s.clearKey Pg.EST).capAsked v, exec_capSet hp, ?_, (State.added_capAsked _ v).of_waits State.waits_clearKey, ?_,
    fun a ha => ?_⟩
  · rw [State.capAsked_est, State.clearKey_est, State.getReg_clearKey (by decide)]
  · rw [State.getF, State.getReg_capAsked (by decide)]
    exact State.getF_clearKey
  · simp only [List.mem_cons, List.not_mem_nil, or_false, not_or] at ha
    rw [State.getReg_capAsked ha.2, State.getReg_clearKey ha.1]

theorem says_capSet_denied : Says.capSet_denied := by
  intro s m v hp hk
  refine ⟨((s.clearKey Pg.EST).raise Ev.EST_CAP_SET_DENIED).recordErr m Reg.EST_CAP_SET St.keyDenied,
    congrArg Host.Outcome.next (State.permitKeyed_denied hp hk), ?_, ?_,
    .recordErr ((Added_raise (pagePresent_est _)).of_waits State.waits_clearKey) _ _ _,
    .recordErr (.raise (.clearKey (.refl _ s) (by simp)) (by simp) _) (by simp) (by simp) _ _ _⟩
  · rw [State.recordErr_est, State.raise_est, State.clearKey_est]
  · rw [State.getF, State.getReg_recordErr (by decide) (by decide), State.getReg_raise _ _ _ (by decide)]
    exact State.getF_clearKey

/-- An event that waits for its grant leaves the engine and the profile as they were. -/
theorem State.raiseInt_est_effect (s : State) (n cls : Nat) : (s.raiseInt Pg.EST n cls).est = s.est ∧
    (s.raiseInt Pg.EST n cls).prof = s.prof ∧ Added [⟨Pg.EST, n⟩] s (s.raiseInt Pg.EST n cls) ∧
    RegsBut [Reg.SEQ_COALESCED] s (s.raiseInt Pg.EST n cls) :=
  ⟨s.raiseC_est .., s.raiseC_prof .., (Added.refl s).raiseInt (pagePresent_est _) n cls, .raiseInt (.refl _ s) (by simp) _ _ _⟩

theorem says_anchorReq : Says.anchorReq := fun s _ hp =>
  ⟨s.raiseInt Pg.EST 41 5, congrArg Host.Outcome.next (State.permit_ok hp), s.raiseInt_est_effect 41 5⟩

theorem says_anchorCancel : Says.anchorCancel := fun s _ hp =>
  ⟨s.raiseInt Pg.EST 42 5, congrArg Host.Outcome.next (State.permit_ok hp), s.raiseInt_est_effect 42 5⟩

/-! ### The end of an anchor window, and none for 72 h (R218, R219) -/

namespace State

/-- A TARGET kept during an anchor window is taken over (R272). -/
def keptTargetTaken (s : State) : State :=
  if s.flag Fld.PROF_STATE_PENDING then
    (s.setReg Reg.PROF_TARGET (s.getReg Reg.PROF_PENDING_TARGET)).setB Fld.PROF_STATE_PENDING false else s

theorem keptTargetTaken_effect (s : State) : s.keptTargetTaken.prof = s.prof ∧ Added [] s s.keptTargetTaken ∧
    (s.flag Fld.PROF_STATE_PENDING = true → s.keptTargetTaken.getReg Reg.PROF_TARGET = s.getReg Reg.PROF_PENDING_TARGET) ∧
    RegsBut [Reg.PROF_TARGET, Fld.PROF_STATE_PENDING.addr] s s.keptTargetTaken := by
  unfold keptTargetTaken
  split
  next hp =>
    refine ⟨rfl, .refl s, fun _ => ?_, .setB (.setReg (.refl _ s) (by simp) _) (by simp) _⟩
    rw [setB, setF, getReg_setReg, if_neg (by decide), getReg_setReg, if_pos rfl]
    exact Nat.mod_eq_of_lt (BitVec.isLt _)
  next hp => exact ⟨rfl, .refl s, fun h => absurd h hp, .refl _ s⟩

/-- An anchor window that fails shows its result, gives the setpoint back and raises ANCHOR_FAIL. -/
theorem anchorEnd_failed_effect (s : State) {result : Nat} (hr : result ≠ 1) : (s.anchorEnd result).getF Fld.EST_STATE_ANCHOR = 3 ∧
    (s.anchorEnd result).getReg Reg.EST_ANCHOR_RESULT = result % 2 ^ 32 ∧ (s.anchorEnd result).prof = { s.prof with anchor := false } ∧
    (s.flag Fld.PROF_STATE_PENDING = true → (s.anchorEnd result).getReg Reg.PROF_TARGET = s.getReg Reg.PROF_PENDING_TARGET) ∧
    Added [Ev.EST_ANCHOR_FAIL] s (s.anchorEnd result) ∧
    RegsBut [Fld.EST_STATE_ANCHOR.addr, Reg.EST_ANCHOR_RESULT, Reg.PROF_TARGET, Fld.PROF_STATE_PENDING.addr, Reg.SEQ_COALESCED] s
      (s.anchorEnd result) := by
  let k : State := s.keptTargetTaken
  let r : State := (k.setF Fld.EST_STATE_ANCHOR 3).setReg Reg.EST_ANCHOR_RESULT result
  let w : State := { r with prof := { k.prof with anchor := false } }
  have hend : s.anchorEnd result = w.raise Ev.EST_ANCHOR_FAIL := if_neg (by simpa using hr)
  have hget {a : Nat} (ha : a ≠ Reg.SEQ_COALESCED) : (s.anchorEnd result).getReg a = r.getReg a := hend ▸ getReg_raise w _ _ ha
  obtain ⟨hprof, hadded, htarget, hregs⟩ := s.keptTargetTaken_effect
  refine ⟨?_, ?_, ?_, fun hp => ?_, hend ▸ hadded.raise (t := w) (pagePresent_est _), fun a ha => ?_⟩
  · rw [getF, hget (by decide), getReg_setReg, if_neg (by decide)]
    exact k.getF_setF Fld.EST_STATE_ANCHOR 3 (by decide) (by decide)
  · rw [hget (by decide), getReg_setReg, if_pos rfl]
  · rw [hend, raise_prof, ← hprof]
  · rw [hget (by decide), getReg_setReg, if_neg (by decide), setF, getReg_setReg, if_neg (by decide), htarget hp]
  · simp only [List.mem_cons, List.not_mem_nil, or_false, not_or] at ha
    obtain ⟨hstate, hresult, hptarget, hpending, hcoal⟩ := ha
    rw [hget hcoal, getReg_setReg, if_neg hresult, setF, getReg_setReg, if_neg hstate, hregs a (by simp [hptarget, hpending])]

end State

theorem says_anchorRampTimeout : Says.anchorRampTimeout := by
  intro s hl ha
  obtain ⟨hstate, hresult, hprof, htarget, hadded, hregs⟩ := s.anchorEnd_failed_effect (result := 5) (by decide)
  exact ⟨s.anchorEnd 5, congrArg Host.Outcome.next (if_pos (by simp [hl, ha])), hstate, hresult, hprof, htarget, hadded,
    hregs.mono (by simp)⟩

theorem says_noAnchor : Says.noAnchor := by
  intro s hl hw hh
  have hlong : 72 * 3600 ≤ s.hours - s.est.anchorH := by omega
  let w : State := s.setB Fld.EST_WARN_NO_ANCHOR true
  refine ⟨w.raise Ev.EST_NO_ANCHOR, congrArg Host.Outcome.next (if_pos (by simp [hl, hw, hlong])), ?_,
    (Added.refl s).raise (t := w) (pagePresent_est _), .raise (.setB (.refl _ s) (by simp) true) (by simp) _⟩
  rw [State.flag_congr (State.getReg_raise _ _ _ (by decide)), State.flag_setB (by decide) rfl]

/-! ### The view of the cell records (R223) -/

/-- CELL.VIEW and its repetition in CELL.STATUS take LIVE (0) or HOLD (1), and the bank held before is let go. -/
def State.viewSet (s : State) (b : Nat) : State :=
  { (s.setReg Reg.CELL_VIEW b).setReg (Folio.STATUS Pg.CELL) b with est := { s.est with held := none } }

section View

variable {s : State} {b m v : Nat}

theorem State.getReg_viewSet_view : (s.viewSet b).getReg Reg.CELL_VIEW = b % 2 ^ 32 :=
  ((s.setReg _ b).getReg_setReg _ _ _).trans ((if_neg (by decide)).trans ((s.getReg_setReg _ _ _).trans (if_pos rfl)))

theorem State.getReg_viewSet_status : (s.viewSet b).getReg (Folio.STATUS Pg.CELL) = b % 2 ^ 32 :=
  ((s.setReg _ b).getReg_setReg _ _ _).trans (if_pos rfl)

theorem State.regsBut_viewSet {rs : List Nat} (hv : Reg.CELL_VIEW ∈ rs) (hs : Folio.STATUS Pg.CELL ∈ rs) :
    RegsBut rs s (s.viewSet b) := .setReg (.setReg (.refl _ s) hv b) hs b

/-- A view that is set to HOLD: the latest bank is pinned at the grant of its event. -/
def State.holdAsked (s : State) : State :=
  ({ s.viewSet 1 with est := { s.est with held := none, heldNs := s.localNs } } : State).raiseInt Pg.CELL 40 5

theorem State.getReg_holdAsked {a : Nat} (ha : a ≠ Reg.SEQ_COALESCED) : s.holdAsked.getReg a = (s.viewSet 1).getReg a :=
  getReg_raiseInt ha

theorem exec_cellViewWrite_hold (hp : s.permits m Reg.CELL_VIEW = true) (hv : v % 2 = 1) :
    exec (.cellViewWrite m v) s = .next s.holdAsked := by
  refine congrArg Host.Outcome.next ((State.permit_ok hp).trans ?_)
  rw [hv]
  rfl

theorem exec_cellViewWrite_live (hp : s.permits m Reg.CELL_VIEW = true) (hv : v % 2 = 0) :
    exec (.cellViewWrite m v) s = .next (s.viewSet 0) := by
  refine congrArg Host.Outcome.next ((State.permit_ok hp).trans ?_)
  rw [hv]
  rfl

theorem exec_holdExpired (hl : s.live = true) (hv : s.getReg Reg.CELL_VIEW % 2 = 1) :
    exec .holdExpired s = .next ((s.viewSet 0).raise Ev.CELL_HOLD_EXPIRED) := if_pos (by simp [hl, hv])

end View

theorem says_cellViewWrite : Says.cellViewWrite := by
  intro s m v hp
  rcases Nat.mod_two_eq_zero_or_one v with hv | hv
  case inl =>
    refine ⟨s.viewSet 0, exec_cellViewWrite_live hp hv, ?_⟩
    rw [hv]
    exact ⟨State.getReg_viewSet_view, State.getReg_viewSet_status, fun h => absurd h (by decide), fun _ => rfl, fun _ => .refl s,
      State.regsBut_viewSet (by simp) (by simp)⟩
  case inr =>
    let w : State := { s.viewSet 1 with est := { s.est with held := none, heldNs := s.localNs } }
    refine ⟨s.holdAsked, exec_cellViewWrite_hold hp hv, ?_⟩
    rw [hv]
    exact ⟨(State.getReg_holdAsked (by decide)).trans State.getReg_viewSet_view,
      (State.getReg_holdAsked (by decide)).trans State.getReg_viewSet_status,
      fun _ => ⟨w.raiseC_est .., (Added.refl s).raiseInt (t := w) (pagePresent_cell _) 40 5⟩,
      fun h => absurd h (by decide), fun h => absurd h (by decide),
      .raiseInt (t := w) (State.regsBut_viewSet (s := s) (b := 1) (by simp) (by simp)) (by simp) _ _ _⟩

theorem says_holdExpired : Says.holdExpired := fun s hl hv =>
  ⟨_, exec_holdExpired hl hv, (State.getReg_raise _ _ _ (by decide)).trans State.getReg_viewSet_view, State.raise_est ..,
    (Added.refl s).raise (t := s.viewSet 0) (pagePresent_cell _), .raise (State.regsBut_viewSet (by simp) (by simp)) (by simp) _⟩

/-- Settles O32: one lemma for each clause. -/
theorem estimationAnchorsAndHold : Obligations.EstimationAnchorsAndHold :=
  ⟨says_estDone, says_estDone_suspended, says_estShadowWrite, says_capSet, says_capSet_denied, says_anchorReq, says_anchorCancel,
    says_anchorRampTimeout, says_noAnchor, says_cellViewWrite, says_holdExpired⟩

end Sys2Proof.Machine

/-! PROOF. The last bin of an Assay run with MODE.CTL.ASSAY_RETURN at 1 (R235): RUN_DONE takes the module back to DISPATCH by row 7
of R27, and MODE.STATE, which the clause of a judged bin does not list, goes from ASSAY to STOPPING. -/

namespace Sys2Proof.Machine

/-- A fit over one cell whose span held a voted sample with CUR_VALID 0 (R239). -/
def fitCurInvalid : Fit := { Fit.empty 1 with curBad := true }

/-- In ASSAY, entered from DISPATCH, with PERTURB and SAMPLE_FAST ON and ASSAY_RETURN at 1: the second span of bin 34, the last one
of its run, is being measured. -/
def lastBinMeasured : State :=
  let s : State := poweredIn Md.assay [Position.reset]
  let s := (s.setF Fld.MODE_STATE_TARGET Md.assay).setF Fld.MODE_STATE_PREV Md.dispatch
  let s := ((s.setF (funcFld 1) 2).setF (funcFld 3) 2).setB Fld.MODE_CTL_ASSAY_RETURN true
  { s.setF Fld.ASY_RUN_STATUS_STATE 3 with asy := { s.asy with fit := some fitCurInvalid, bins := [34], tries := 2 } }

theorem lastBinMeasured_conditions : lastBinMeasured.live = true ∧ lastBinMeasured.variant = .F ∧
    lastBinMeasured.getF Fld.ASY_RUN_STATUS_STATE = 3 ∧ lastBinMeasured.asy.tries ≠ 1 := by decide +kernel

/-- CURRENT goes from ASSAY to STOPPING, TARGET from ASSAY to DISPATCH and PREV from DISPATCH to ASSAY. -/
theorem lastBinMeasured_modeState : lastBinMeasured.getReg Reg.MODE_STATE = 0x340004 ∧
    lastBinMeasured.regAfter .binSpanEnd Reg.MODE_STATE = 0x430009 := by decide +kernel

/-- BIN_SPAN_END changes MODE.STATE, which is not among the registers that its clause lets change. The clause is about every judged
bin: ASSAY_RETURN at 0 is not among its conditions. -/
theorem not_says_binSpanEnd_judged : ¬ Says.binSpanEnd_judged := by
  intro h
  obtain ⟨hlive, hvariant, hmeasure, htries⟩ := lastBinMeasured_conditions
  obtain ⟨t, hx, -, -, -, hregs⟩ :=
    h lastBinMeasured fitCurInvalid 34 [] hlive hvariant rfl rfl (.inr hmeasure) (.inr htries)
  obtain ⟨hbefore, hafter⟩ := lastBinMeasured_modeState
  exact not_regsBut_of_regAfter (a := Reg.MODE_STATE) hx (by decide) (by rw [hbefore, hafter]; decide) hregs

/-- Refutes O14: its clause of a judged bin leaves MODE.STATE as it was, which the way back to DISPATCH after the last bin of a run
changes with ASSAY_RETURN at 1 (R235). -/
theorem not_assayRuns : ¬ Obligations.AssayRuns := fun h => by
  obtain ⟨-, -, -, -, -, hjudged, -⟩ := h
  exact not_says_binSpanEnd_judged hjudged

end Sys2Proof.Machine

/-! PROOF. A THERMAL slot resumed after its feedback was lost (R268): bit 0 of LOOP.STATUS, which is 1 while any slot has FEEDBACK_LOST,
falls with the slot's own mark, and the clause of LOOP_RESUME does not list it. And two thermal inputs that turn open in one sample
(R273): the second TIN_FAULT folds into the first, and SEQ.COALESCED, which the clause of TIN_SAMPLE does not list, counts it (R404). -/

namespace Sys2Proof.Machine

/-! ### LOOP.STATUS on a resumption (R268) -/

/-- A THERMAL slot of source TIN0 in FALLBACK: its feedback was lost and has come again, neither stale nor frozen. -/
def fallbackSlot : Slot := { Slot.reset with cfg := 0x10000103, state := 5, lost := true }

/-- LOOP.SEL selects slot 2, which is in FALLBACK, as SLOT_MAP and STATUS show. -/
def slotInFallback : State :=
  ({ State.reset with phase := .up, loops := State.reset.loops.set 2 fallbackSlot }.setReg Reg.LOOP_SEL 2).slotMap

theorem slotInFallback_conditions : slotInFallback.permits 0 Reg.LOOP_SEL_CTL = true ∧ slotInFallback.loops.length = 8 := by
  decide +kernel

/-- No slot has FEEDBACK_LOST any more, and LOOP.STATUS goes from 1 to 0. -/
theorem slotInFallback_status : slotInFallback.getReg (Folio.STATUS Pg.LOOP) = 1 ∧
    slotInFallback.regAfter (.loopResume 0) (Folio.STATUS Pg.LOOP) = 0 := by decide +kernel

/-- LOOP_RESUME changes LOOP.STATUS, which is not among the registers that its clause lets change. -/
theorem not_says_loopResume : ¬ Says.loopResume := by
  intro h
  obtain ⟨hpermits, hlength⟩ := slotInFallback_conditions
  obtain ⟨t, hx, -, -, hregs⟩ := h slotInFallback 0 hpermits hlength
  obtain ⟨hbefore, hafter⟩ := slotInFallback_status
  exact not_regsBut_of_regAfter (a := Folio.STATUS Pg.LOOP) hx (by decide) (by rw [hbefore, hafter]; decide) hregs

/-- Refutes O36: its clause of LOOP_RESUME leaves LOOP.STATUS as it was, whose bit 0 falls with the last slot that had FEEDBACK_LOST
(R268). -/
theorem not_loopSlotsAndThermalHold : ¬ Obligations.LoopSlotsAndThermalHold := fun h => by
  obtain ⟨-, -, -, -, -, hresume, -⟩ := h
  exact not_says_loopResume hresume

/-! ### SEQ.COALESCED on a sample of the thermal inputs (R273, R404) -/

/-- A module that is up, with TIN0 and TIN1 in use and no event waiting. -/
def twoInputsInUse : State := { State.reset with phase := .up }.setReg Reg.THM_TIN_CFG 0x5

/-- Both inputs read open: two TIN_FAULT in one cycle, of which the second is a repeat. -/
theorem twoInputsInUse_coalesced : twoInputsInUse.getReg Reg.SEQ_COALESCED = 0 ∧
    twoInputsInUse.regAfter (.tinSample [none, none, none, none]) Reg.SEQ_COALESCED = 1 := by decide +kernel

/-- TIN_SAMPLE changes SEQ.COALESCED, which is not among the registers that its clause lets change. -/
theorem not_says_tinSample : ¬ Says.tinSample := by
  intro h
  obtain ⟨t, hx, -, -, hregs⟩ := h twoInputsInUse none none none none rfl
  obtain ⟨hbefore, hafter⟩ := twoInputsInUse_coalesced
  exact not_regsBut_of_regAfter (a := Reg.SEQ_COALESCED) hx (by decide) (by rw [hbefore, hafter]; decide) hregs

/-- Refutes O37: its clause of TIN_SAMPLE leaves SEQ.COALESCED as it was, which counts the second of two inputs that turn open in one
sample (R273, R404). -/
theorem not_profileTargetsAndThermalInputs : ¬ Obligations.ProfileTargetsAndThermalInputs := fun h => by
  obtain ⟨-, -, -, -, htin, -⟩ := h
  exact not_says_tinSample htin

end Sys2Proof.Machine
